-- ==== Sys2Proof/Word.lean ====
section
/-! DEFINITION. The word and byte types of the hub (R502: every register is 32 bits wide). -/
namespace Sys2Proof

/-- One 32-bit register, parameter or table word (R502). -/
abbrev Word := BitVec 32

/-- One byte of a packet, a frame or a memory. -/
abbrev Byte := BitVec 8

end Sys2Proof
end

