-- ==== Sys2Proof/Syntax.lean ====
section
/-! DEFINITION. The commands the hub takes: register and table accesses of the host, packets of the command engine,
events on its pins, links and clocks, and the points where its own engines come to an end. -/
namespace Sys2Proof

/-- A 32-bit register write of a PCIe function: byte enables (bit i = byte i) and the word written (R504). -/
structure Wr where
  fn : Nat
  be : Nat
  v : Word
  deriving DecidableEq, Repr

/-- The path a command packet travelled (R515): a command ring, a route port with the sender's address and UDP port,
a Spaxa link, or a district send of the hub itself (R592). -/
inductive Path where
  | ring (b r : Nat)
  | udp (port addr udp : Nat)
  | spaxa (sheet : Nat)
  | tree (district : Nat)
  deriving DecidableEq, Repr

/-- A command packet (R517), field by field; the row of the table is its `OPCODE`. `pathBorough` is the borough of the
path: the ring's, or the envelope's (R515). `avail` is the number of bytes that the producer index has made available
on a ring. -/
structure Packet where
  path : Path
  pathBorough : Nat
  avail : Nat
  borough : Nat
  gen : Nat
  tag : Nat
  flags : Nat
  length : Nat
  version : Nat
  actTime : Nat
  tail : Nat
  params : List Word
  crc : Word
  deriving DecidableEq, Repr

/-- Edges of REF10M in a gate of a frequency counter (R136): how many, and the tags of the first and the last. -/
structure RefEdges where
  n : Nat
  first : Int
  last : Int
  deriving DecidableEq, Repr

/-- The end of a gate of frequency counter k (R136), with the edges REF10M had in it. -/
structure GateEnd where
  k : Nat
  edges : RefEdges
  deriving DecidableEq, Repr

/-- An ECC error in compressor `eng` (R342), a corrected one or an uncorrectable one. -/
structure EccError where
  eng : Nat
  corrected : Bool
  deriving DecidableEq, Repr

/-- What the discipline servo applies (R65, R66): a slew (amount in 2^-16 ns, rate in ppb), a rate and whether it is taken from REF10M,
or a step. -/
inductive ServoOp where
  | slew (amount : Int) (ppb : Nat)
  | rate (r : Int) (r10m : Bool)
  | step (amount : Int)
  deriving DecidableEq, Repr


/-- What one input's survey step found (R153): the offline slice's new trims, its residuals (skew in fs, gain in units
of 0.0001 %, offset in units of 0.01 LSB), and whether the rms level was below −40 dBFS. -/
structure StepRes where
  skew : Int
  gain : Int
  offset : Int
  skewRes : Int
  gainRes : Int
  offRes : Int
  lowRms : Bool
  deriving DecidableEq, Repr

/-- A source sample as it reaches a slot's intake (R174, R175): components (a 12-bit code of a converter, a w-bit sample
of a node stream), the converter's over-range bit, the node's marks, and whether the post queue into the pipeline was
full and refused it (R381). -/
structure SrcSample where
  re : Int
  im : Int
  isOver : Bool
  dead : Bool
  sat : Bool
  cal : Bool
  refused : Bool
  deriving DecidableEq, Repr

/-- Whose source sample comes: of the source of a slot, or of a converter input for every slot that takes it (R166). -/
inductive SampleSrc where
  | slot (n : Nat)
  | input (i : Nat)
  deriving DecidableEq, Repr

/-- What one conversion of a precision converter sees at its hold (R254, R269): input pair and sense pair, in nV. -/
structure Conv where
  vp : Int
  vn : Int
  sp : Int
  sn : Int
  deriving DecidableEq, Repr

/-- A request line of a roundabout in one cycle (R400 to R402): requester, whether the transfer at its progress count is
the marked last one of its burst, and whether it withdrew on this cycle and raised a new request. -/
structure ArbReq where
  r : Nat
  last : Bool
  fresh : Bool
  deriving DecidableEq, Repr

/-- A host transmit descriptor as fetched (R481): port, stamp handling, the receive time of a Pdelay_Req, and the frame. -/
structure HtxDesc where
  port : Nat
  stamp : Nat
  reqMt : Int
  frame : List Byte
  deriving DecidableEq, Repr

/-- A write of a function's MSI-X table entry, or of its MSI-X control: Enable and Function Mask (R511, R512). -/
inductive MsixOp where
  | entry (v addr data : Nat) (masked : Bool)
  | control (en fmask : Bool)
  deriving DecidableEq, Repr

/-- The commands of the hub: one constructor for each row of the opcode table, named as the row. -/
inductive Instr where
  /-- REGISTER_WRITE (R12): A write to a register field that has no row of its own merges the enabled bytes and sets, clears or ignores each field as its access code states. -/
  | registerWrite (bar off : Nat) (w : Wr)
  /-- TABLE_APERTURE_WRITE (R501): A write through the table aperture merges enabled bytes into table elements, ignoring reserved, read-only or in-use elements. -/
  | tableApertureWrite (fn : Nat) (data : List (Nat × Byte))
  /-- RESERVED_ACCESS (R508): An access to a reserved address reads 0 or is ignored, and is counted in SYS_ACC_CNT and SYS_ACC_LAST. -/
  | reservedAccess (fn bar off : Nat) (write : Bool)
  /-- OVERSIZE_REQUEST (R506): A register request longer than 64 bytes completes with Completer Abort, performs no access and raises ACCESS_WIDTH. -/
  | oversizeRequest (fn bar off len : Nat) (write : Bool)
  /-- ATOMIC_OP_REQUEST (R492): A PCIe AtomicOp request completes with Unsupported Request and changes nothing. -/
  | atomicOpRequest (fn addr : Nat)
  /-- PAIR_LO_READ (R507): A read of an LO register latches the pair's HI half into the function's pair latch. -/
  | pairLoRead (fn off : Nat)
  /-- PAIR_LO_WRITE (R507): A 32-bit write to an LO register is held in the function's holding register until the HI write or another request. -/
  | pairLoWrite (off : Nat) (w : Wr)
  /-- PAIR_HI_WRITE (R507): A write to the HI register of a held pair writes both halves on one tick. -/
  | pairHiWrite (off : Nat) (w : Wr)
  /-- PHASE_PLL_FIRST_LOCK (R45): The phase PLL first locks after power-on reset, the free count starts from 0 and the time status is UNTRACED. -/
  | phasePllFirstLock
  /-- PHASE_UNLOCK (R47): The phase PLL loses lock; the hub sets COARSE and COARSE_SEEN and advances the free count by 25 per crystal cycle. -/
  | phaseUnlock
  /-- PHASE_RELOCK (R47): The phase PLL regains lock; the free count resumes single-tick steps and COARSE clears. -/
  | phaseRelock
  /-- AGEING_FOLD (R53): Every 2^36 ticks the hub re-anchors and adds the ageing increment to RATE through the fraction accumulator. -/
  | ageingFold
  /-- TB_NOW_FRAC_READ (R55): A read of TB_NOW_FRAC latches MT, free count and time status for the reading function. -/
  | tbNowFracRead (fn : Nat)
  /-- ADJ_RATE_CHANGE (R58): A GO with OP_RATE checks the adjustment and loads TB_ADJ_RATE into RATE on one tick. -/
  | adjRateChange (w : Wr)
  /-- ADJ_SLEW_START (R60): A GO with OP_SLEW checks the adjustment and starts a slew of TB_ADJ_AMT at TB_ADJ_SLEW. -/
  | adjSlewStart (w : Wr)
  /-- ADJ_STEP (R61): A GO with OP_STEP checks the adjustment and adds TB_ADJ_AMT to OFFSET on one tick. -/
  | adjStep (w : Wr)
  /-- ADJ_ABORT (R60): A GO with OP_ABORT stops the slew in progress and leaves the unapplied remainder readable. -/
  | adjAbort (w : Wr)
  /-- ADJ_TRACE (R68): A GO with TRACE under HOST records a trace and qualifies or keeps the HOST source. -/
  | adjTrace (w : Wr)
  /-- SLEW_DONE (R60): A slew ends on the tick its accumulated change reaches the amount, and the hub raises SLEW_DONE. -/
  | slewDone
  /-- SRC_CHANGE_DECLARE (R69): A write of 1 to TB_DISC.SRC_CHANGE under HOST declares a new time transmitter and moves TRACED to HOLDOVER. -/
  | srcChangeDeclare (w : Wr)
  /-- CHANGE_OF_SOURCE (R70): A TB_DISC write that changes SRC, or SHEET under SPX, changes the discipline source at once. -/
  | changeOfSource (w : Wr)
  /-- PPS_IN_EDGE (R64): A PPS_IN edge is tagged, classed as expected or off-window, and fed to the REF servo. -/
  | ppsInEdge (i : Nat)
  /-- SOURCE_QUALIFIED (R72): The selected source completes COUNT consecutive in-window measurements and the status becomes TRACED. -/
  | sourceQualified
  /-- PPS_LOST (R75): No PPS_IN edge in two consecutive expected windows declares the source lost and enters HOLDOVER. -/
  | ppsLost
  /-- REF10M_LOST (R65): No REF10M edge for 1.0 µs clears REF10M_OK and raises REF10M_LOST. -/
  | ref10mLost
  /-- REF10M_RETURN (R65): After 1,000 consecutive REF10M edges the servo takes frequency from REF10M again. -/
  | ref10mReturn
  /-- SERVO_CORRECTION (R66): The Falarn servo applies a slew, rate change or step to correct the measured phase and frequency error. -/
  | servoCorrection (op : ServoOp)
  /-- HOST_TRACE_TIMEOUT (R75): No trace under HOST within HOST_TIMEOUT declares the source lost and enters HOLDOVER. -/
  | hostTraceTimeout
  /-- HOLDOVER_LIMIT (R74): The holdover count first reaches TB_HOLD_LIMIT in an episode; the hub sets HOLD_LIMIT and raises HOLDOVER_LIMIT. -/
  | holdoverLimit
  /-- TB_TXTS_POP (R81): A read of TB_TXTS_W0 pops the head transmit time stamp and latches W1 to W4, or stalls then returns EMPTY. -/
  | tbTxtsPop (fn m : Nat)
  /-- EDGE_CAPTURE (R128): An edge on EDGE[n] is accepted and tagged, or counted as missed or held. -/
  | edgeCapture (n i : Nat) (rising : Bool)
  /-- TIM_TAG_POP (R126): A read of TIM_TAG_W0 pops the head edge tag and latches W1 to W3, or stalls then returns EMPTY. -/
  | timTagPop (fn n : Nat)
  /-- TIM_CAL_START (R132): A write of TIM_CAL_CTL.START starts calibration runs on the named logical cores. -/
  | timCalStart (w : Wr)
  /-- TIM_CORE_START (R137): A write of TIM_CORE_STAT.START starts a calibration run on one physical core. -/
  | timCoreStart (p : Nat) (w : Wr)
  /-- TIM_CAL_PERIODIC (R132): The calibration period expires and runs start on the cores that CORE names. -/
  | timCalPeriodic
  /-- TIM_CAL_RUN_END (R130): A calibration run completes its 2^20 captures and its table replaces the old one or is rejected. -/
  | timCalRunEnd (p : Nat) (counts : List Nat) (temp : Int)
  /-- TIM_CAL_STALE (R133): A core's die temperature drifts more than 5 °C from its last accepted run and the hub raises CAL_STALE. -/
  | timCalStale (p : Nat) (temp : Int)
  /-- TDC_SPARE_SWITCH (R134): After the spare core is calibrated, tag delivery moves from the failing core to the spare on one tick. -/
  | tdcSpareSwitch (n : Nat)
  /-- FREQ_GATE_END (R136): A frequency counter gate ends and N, I, F and status are updated on one tick with SEQ advanced. -/
  | freqGateEnd (x : GateEnd)
  /-- CG_LOST (R123): A running group's CG tap delivers no edge for four expected periods and the hub raises CG_LOST. -/
  | cgLost (g : Nat)
  /-- REF_EN_WRITE (R145): A write of CNV_GRP_CTL.REF_EN enables the group reference buffer. -/
  | refEnWrite (g : Nat) (w : Wr)
  /-- CNV_REF_OK (R145): 2.0 ms after REF_EN the group's REF_OK reads 1. -/
  | cnvRefOk (g : Nat)
  /-- CNV_APPLY (R146): A write of CNV_GRP_CTL.APPLY checks the written group mode and puts it in force. -/
  | cnvApply (g : Nat) (w : Wr)
  /-- CNV_PLL_LOCKED (R147): The sampling PLL of a started group locks and samples and CG edges start flowing. -/
  | cnvPllLocked (g : Nat)
  /-- PLL_UNLOCK (R144): A running group's sampling PLL loses lock; samples and CG edges stop and PLL_UNLOCK is raised. -/
  | pllUnlock (g : Nat)
  /-- PLL_RELOCK (R144): The sampling PLL relocks; samples resume with a new sample counter and CAL_UNSETTLED on every input. -/
  | pllRelock (g : Nat)
  /-- CNV_LOCKED (R149): In locked mode the offset stays within ±5 ps for 1,000 CG tags and LOCKED is set and raised. -/
  | cnvLocked (g : Nat)
  /-- LOCK_LOST (R149): The locked-mode offset departs by more than 50 ps on 3 tags; the hub clears LOCKED and raises LOCK_LOST. -/
  | lockLost (g : Nat)
  /-- SURVEY_STEP_END (R152): A survey dwell ends; the offline slice's step is judged and it takes its new phase on a round boundary. -/
  | surveyStepEnd (g : Nat) (res : List StepRes)
  /-- SLICE_MONITOR_WINDOW (R157): A window of 2^16 conversion rounds ends and each in-service slice is checked against the others. -/
  | sliceMonitorWindow (i sl : Nat) (mean power : Int) (loud stuck : Bool)
  /-- SURVEY_EN_WRITE (R156): A write of SURVEY_EN stops the survey after the step in progress or resumes it from the next step. -/
  | surveyEnWrite (g : Nat) (w : Wr)
  /-- CNV_IN_EN_WRITE (R159): A write of CNV_IN_CTL.EN is staged on the input's governing grid or applied within 1 µs. -/
  | cnvInEnWrite (i : Nat) (w : Wr)
  /-- DIE_LINK_DOWN (R161): A converter die's link to the core die fails; samples and CG edges stop and LINK_DOWN is raised. -/
  | dieLinkDown (d : Nat)
  /-- DIE_LINK_UP (R161): A failed die link returns and every running group of the die is treated as relocked. -/
  | dieLinkUp (d : Nat)
  /-- CHP_BIND (R167): A write of CHP_CTL.BIND checks an IDLE slot and stages its bind with a restart. -/
  | chpBind (win : Nat) (w : Wr)
  /-- CHP_UNBIND (R168): A write of CHP_CTL.UNBIND ends a bound slot's output at a boundary or cancels a pending bind. -/
  | chpUnbind (win : Nat) (w : Wr)
  /-- CHP_COMMIT (R169): A write of CHP_CTL.COMMIT snapshots, checks and stages a slot's shadow fields. -/
  | chpCommit (win : Nat) (w : Wr)
  /-- DISTRICT_WINDOW_WRITE (R193): A write to a broadcast or district window is applied to every member in ascending slot order. -/
  | districtWindowWrite (d off : Nat) (w : Wr)
  /-- FRAME_BOUNDARY (R27): A frame boundary of a grid arrives and every change staged on its units takes effect. -/
  | frameBoundary (g f : Nat)
  /-- BLANK_EDGE (R176): An edge on a BLANK line is tagged and opens or closes blanked intervals and front-end pauses. -/
  | blankEdge (line : Nat) (asserted : Bool)
  /-- SOURCE_SAMPLE (R174): A source sample enters the slot intake, is containerised and flagged, and passes through the front stages. -/
  | sourceSample (src : SampleSrc) (i : Nat) (x : SrcSample)
  /-- CG_TAG (R201): A CG tag reaches the group's instant estimator and updates its model and tracking state. -/
  | cgTag (g i : Nat)
  /-- CG_TAG_MISSING (R201): An expected CG tag does not arrive, or arrives with COARSE or FAULT, and the estimator coasts. -/
  | cgTagMissing (g : Nat)
  /-- COAST_TIMEOUT (R201): COAST lasts COAST_MAX ms and the estimator goes LOST with TRACK_LOST. -/
  | coastTimeout (g : Nat)
  /-- GRID_SAMPLE_EMIT (R209): Once its chain outputs have arrived, the resampler emits grid sample k, interpolated or as a GAP placeholder. -/
  | gridSampleEmit (n : Nat)
  /-- SOURCE_RESUME (R213): Source samples resume after absence and the front-stage and resampler histories are emptied. -/
  | sourceResume (n : Nat)
  /-- SPECTRUM_READY (R243): The grid samples of spectrum j have arrived and the channeliser computes it. -/
  | spectrumReady (n : Nat)
  /-- BEAM_SUM (R228): Every member's spectrum j is ready and the beam engine forms the beam value. -/
  | beamSum (b : Nat)
  /-- CHAIN_WAIT_EXPIRY (R233): No partial arrives within CHAIN_WAIT and the beam value becomes GAP with CHAIN_GAP. -/
  | chainWaitExpiry (b : Nat)
  /-- BFM_COMMIT (R230): A write of BFM_CTL.COMMIT snapshots, checks and stages a range of beam descriptors. -/
  | bfmCommit (w : Wr)
  /-- BMAC_FAIL (R235): A beam-engine MAC array fails its self-test, is marked failing and BMAC_FAIL is raised. -/
  | bmacFail (a : Nat)
  /-- INTEGRATION_END (R236): The last spectrum of an integration or histogram arrives and the reducer emits its item. -/
  | integrationEnd (n : Nat) (ofBeam : Bool)
  /-- ITEM_COMPLETE (R239): An output item is complete and is handed to its queue. -/
  | itemComplete
  /-- SFE_BIND (R256): A write of SFE_CTL.BIND checks and binds the front end to its grid. -/
  | sfeBind (w : Wr)
  /-- SFE_UNBIND (R256): A write of SFE_CTL.UNBIND ends the sequencers at a boundary. -/
  | sfeUnbind (w : Wr)
  /-- SFE_COMMIT (R257): A write of SFE_CTL.COMMIT snapshots, checks and stages every staged SFE and PCV field. -/
  | sfeCommit (w : Wr)
  /-- EXC_RAMP_END (R249): An excitation output finishes its 200 µs ramp and becomes DRIVING. -/
  | excRampEnd (q : Nat)
  /-- EXC_RANGE_SETTLED (R251): The driver of a new excitation range settles on its internal load and the change counts as staged. -/
  | excRangeSettled (q : Nat)
  /-- EXC_SENSE_MEASURE (R253): Every 1 ms the sense voltage of each driving output is measured and fault state updated. -/
  | excSenseMeasure (q sense : Nat) (limit : Bool)
  /-- PCV_CYCLE_START (R258): A precision converter cycle starts at its grid index and the list begins. -/
  | pcvCycleStart (p : Nat)
  /-- PCV_ENTRY_END (R259): An entry's conversions complete and its result record is linearised and queued. -/
  | pcvEntryEnd (p : Nat) (convs : List Conv)
  /-- PCV_URG_GO (R262): A write of PCV_URG.GO makes an urgent conversion request. -/
  | pcvUrgGo (p : Nat) (w : Wr)
  /-- URGENT_ARRIVE (R263): An urgent request reaches the sequencer and aborts, waits or is refused. -/
  | urgentArrive (p : Nat)
  /-- PCV_REF_EN_WRITE (R265): A write of PCV_REFCTL.REF_EN enables the precision reference buffer or is held while bound. -/
  | pcvRefEnWrite (w : Wr)
  /-- PCV_REF_OK (R265): 10 ms after REF_EN the precision REF_OK reads 1 and REF_OK is raised. -/
  | pcvRefOk
  /-- PAUSE_END (R267): A front-end pause ends POST µs after the last selected BLANK release and the lists resume. -/
  | pauseEnd
  /-- PCV_MIDSCALE_CHECK (R275): Once per second each converter converts its mid-scale check voltage. -/
  | pcvMidscaleCheck (p : Nat) (err : Int)
  /-- TRIM_PAGE_LOAD (R285): The power-up loader reads each trim page, chooses a copy and fills the trim image. -/
  | trimPageLoad (n : Nat) (badA badB : Bool)
  /-- CAL_MEASURE_DONE (R291): A user measurement completes its conversions and its reply is sent with USER_MEASURED. -/
  | calMeasureDone (conv : Nat) (zero ref : List Conv) (temp : Int)
  /-- NVM_COPY_WRITTEN (R293): A write of an MRAM copy completes and is checked, retried or failed. -/
  | nvmCopyWritten (ok : Bool)
  /-- TRG_ARM (R301): A write of TRG_OUT_CFG with ARM not 0 to an OFF output checks and arms it. -/
  | trgArm (t : Nat) (w : Wr)
  /-- TRG_DISARM (R300): A write of ARM = 0 puts the output OFF at once and releases its capture context. -/
  | trgDisarm (t : Nat) (w : Wr)
  /-- TRIGGER_OFFER (R302): A trigger reaches an output, which accepts it and starts its actions or refuses it. -/
  | triggerOffer
  /-- TRG_PULSE_END (R304): A trigger-driven signal output or ILINE pulse ends after OUT_W. -/
  | trgPulseEnd
  /-- TRG_REARM (R303): A DEAD output's hold-off, capture close and context conditions are met and it re-arms or turns OFF. -/
  | trgRearm (t : Nat)
  /-- ILINE_EDGE (R297): A qualified falling edge on ILINE is tagged and offered as a trigger of its source. -/
  | ilineEdge (n : Nat) (low : Bool)
  /-- ILINE_STUCK (R297): An ILINE held low for more than 1 s raises ILINE_STUCK. -/
  | ilineStuck (n : Nat)
  /-- NET_TRIGGER_RX (R299): A network trigger packet is checked and offered to its output as source 21 or refused. -/
  | netTriggerRx (port : Nat) (data : List Byte)
  /-- TRG_OUT_FIRE (R314): A write of TRG_OUT_STAT.FIRE offers a source-22 trigger at the present MT. -/
  | trgOutFire (t : Nat) (w : Wr)
  /-- TRG_NET_CLR (R299): A write of TRG_NET.CLR empties the network trigger sender table. -/
  | trgNetClr (w : Wr)
  /-- CAPTURE_CLOSE (R310): Every member's window is complete and the capture record and tiles are made visible in the capture queue. -/
  | captureClose (seq : Nat)
  /-- RING_CTL_WRITE (R308): A write of TRG_RING_CTL changes the ring limit, tile size or enable and frees unheld plots as stated. -/
  | ringCtlWrite (w : Wr)
  /-- CMP_RAW_WRITE (R330): A write of CMP_RAW that sets EN checks and assigns a compressor to the slot's raw path. -/
  | cmpRawWrite (n : Nat) (w : Wr)
  /-- TILE_CLOSE (R331): A tile reaches its nominal size or an early-close cause and its header is written, making it visible. -/
  | tileClose (rec : Bool) (n : Nat) (offered : List Byte)
  /-- ENC_RESUME (R335): A plot is granted to a stalled compressor stream and it resumes at the exact bit. -/
  | encResume (q : Nat)
  /-- CMP_ENG_FAULT (R342): An uncorrectable ECC error in a compressor closes its tile with ENC_FAULT and marks it failing. -/
  | cmpEngFault (x : EccError)
  /-- RECORD_TILE_FLUSH (R334): A record-mode tile's flush interval expires and the tile closes with SHORT. -/
  | recordTileFlush (q : Nat)
  /-- CMP_JOB_PI_WRITE (R337): A write of CMP_JOB_PI posts decompression descriptors to the borough's job ring. -/
  | cmpJobPiWrite (b : Nat) (w : Wr)
  /-- CMP_JOB_DISABLE (R337): A write of CMP_JOB_CTL with EN = 0 disables the ring and aborts the head job. -/
  | cmpJobDisable (b : Nat) (w : Wr)
  /-- JOB_DECODE (R340): A decompressor finishes a tile job and writes its completion with one status. -/
  | jobDecode (b fail : Nat) (desc src : List Byte)
  /-- CMP_JOB_MORE (R341): A write of CMP_JOB_STAT.MORE supplies a buffer and resumes the suspended head job. -/
  | cmpJobMore (b : Nat) (w : Wr)
  /-- CMP_JOB_ABORT (R341): A write of CMP_JOB_STAT.ABORT ends the head job with CMP_ABORTED. -/
  | cmpJobAbort (b : Nat) (w : Wr)
  /-- QUE_ENABLE (R352): A write of QUE_CTL.ENABLE checks an OFF queue and turns it ON. -/
  | queEnable (w : Wr)
  /-- QUE_DISABLE (R351): A write of QUE_CTL.DISABLE sets an ON queue DRAINING. -/
  | queDisable (w : Wr)
  /-- QUE_FLUSH (R351): A write of QUE_CTL.FLUSH frees every plot of the queue's chain and raises Q_FLUSHED. -/
  | queFlush (w : Wr)
  /-- PLOT_REQUEST (R356): A writer asks the allocator for a plot and is granted one or answered NO_PLOT. -/
  | plotRequest (q : Nat)
  /-- PLOT_RETRY (R358): A refused writer retries on a plot freeing or after 100 ns. -/
  | plotRetry (q : Nat)
  /-- UNIT_WRITE (R354): A writer writes a whole unit into its queue's tail plots and makes it visible. -/
  | unitWrite (q : Nat)
  /-- PLOT_COPY_DONE (R360): A pager copy of a 64 KiB plot completes and the cadastre takes the new plot in one cycle. -/
  | plotCopyDone
  /-- EGRESS_FRAME (R363): At a sheet frame boundary the egress scheduler chooses and sends the next frame by class and deficit. -/
  | egressFrame (k pick cut : Nat)
  /-- EGRESS_STALL (R364): A queue head waits 1 ms on an up destination and EGRESS_STALL or HOST_FULL is raised. -/
  | egressStall (q : Nat)
  /-- PLOT_ECC_ERROR (R372): A memory-stack ECC error on a plot is counted and may make the plot failing with PLOT_ECC. -/
  | plotEccError (id off : Nat) (uncorr : Bool)
  /-- PQ_FLUSH (R386): A write of SYS_PQ_CTL.FLUSH empties a software-visible post queue at once. -/
  | pqFlush (n : Nat) (part : Bool) (w : Wr)
  /-- POP_STALL_TIMEOUT (R384): A pop of an empty queue stalls until POST_STALL_LIMIT and then completes with EMPTY. -/
  | popStallTimeout (n : Nat)
  /-- SYS_PQ_MON_POP (R387): A read of SYS_PQ_MON_W0 pops the head monitor snapshot and latches its other words. -/
  | sysPqMonPop (fn j : Nat)
  /-- MON_SNAPSHOT (R388): At each PERIOD instant of Meridian time a monitor queue takes a snapshot of its sources. -/
  | monSnapshot (j : Nat)
  /-- ARB_DECISION (R400): A roundabout lane fixes the grant of the next cycle from requests, wait counters and settings. -/
  | arbDecision (k l : Nat) (lines : List ArbReq) (bad : Bool)
  /-- SHEET_START (R417): A write of LNE_SHEET_CTL.START from 0 to 1 checks the sheet and starts bring-up or test. -/
  | sheetStart (sh : Nat) (w : Wr)
  /-- SHEET_STOP (R417): A write of START = 0 takes the sheet DOWN within 1 µs and squelches its transmitters. -/
  | sheetStop (sh : Nat) (w : Wr)
  /-- LANE_DETECT_DONE (R418): A lane's LOS has been clear for 10 µs and it completes DETECT. -/
  | laneDetectDone (sh l : Nat)
  /-- LANE_LOCK_DONE (R418): A lane's CDR locks and it completes LOCK. -/
  | laneLockDone (sh l : Nat)
  /-- LANE_EQ_DONE (R416): A lane's peaking search or fixed setting completes and EQ ends. -/
  | laneEqDone (sh l : Nat) (margins : List Nat)
  /-- LANE_ALIGN_DONE (R419): A lane recognises its partner's lane identity and becomes ALIGNED. -/
  | laneAlignDone (sh l ident : Nat) (inv : Bool)
  /-- SHEET_UP (R418): ORDER and DESKEW complete, the lanes become ACTIVE and SHEET_UP is raised. -/
  | sheetUp (sh skew : Nat)
  /-- BRINGUP_STAGE_TIMEOUT (R423): A lane misses a stage maximum, or ORDER or DESKEW fails, and the attempt fails. -/
  | bringupStageTimeout (sh l : Nat)
  /-- BRINGUP_RETRY (R423): The RETRY wait after a failed attempt ends and a new attempt starts from DETECT. -/
  | bringupRetry (sh : Nat)
  /-- LANE_LOS (R424): A receiver's swing stays below 50 mV for 1.0 µs and LOS is set. -/
  | laneLos (sh l : Nat)
  /-- LANE_LOS_CLEAR (R424): A receiver's swing stays above 90 mV for 10 µs and LOS clears. -/
  | laneLosClear (sh l : Nat)
  /-- LANE_LOL (R424): A receiver's CDR exceeds ±300 ppm or slips and LOL is set. -/
  | laneLol (sh l : Nat)
  /-- EYE_MEASURE (R426): Every PERIOD ms an active lane's shadow sampler measures vertical and horizontal eye margins. -/
  | eyeMeasure (sh l v h : Nat)
  /-- PRBS_LOCK (R429): The pattern checker sees 64 consecutive matching bits and locks. -/
  | prbsLock (sh l : Nat) (inv : Bool)
  /-- PRBS_LOST (R429): The checker finds 32 errors in 256 bits and loses lock. -/
  | prbsLost (sh l n e : Nat)
  /-- PRBS_INJECT (R430): A write of LNE_PRBS_CTL.INJ inverts the next transmitted bit. -/
  | prbsInject (sh l : Nat) (w : Wr)
  /-- PRBS_CLR (R429): A write of LNE_PRBS_CTL.CLR clears both pattern counters. -/
  | prbsClr (sh l : Nat) (w : Wr)
  /-- SHEET_SUB (R433): A write of LNE_SHEET_CTL.SUB checks and starts moving a logical lane to the spare. -/
  | sheetSub (sh : Nat) (w : Wr)
  /-- NARROW_WRITE (R435): A write of LNE_SHEET_CTL.NARROW narrows the sheet to seven lanes. -/
  | narrowWrite (sh : Nat) (w : Wr)
  /-- LANE_SLEEP_WRITE (R431): A write of TX_SLEEP or RX_SLEEP puts one direction of an unused lane to sleep or wakes it. -/
  | laneSleepWrite (sh l : Nat) (w : Wr)
  /-- TRAINING_SET_RX (R446): A Spaxa training set is received and the handshake advances through TS1, TS2 and TS3. -/
  | trainingSetRx (sh l : Nat) (data : List Byte)
  /-- TRAIN_ATTEMPT_TIMEOUT (R448): An attempt fails to reach TS2 within PARTNER_TO and PARTNER_ABSENT may be raised. -/
  | trainAttemptTimeout (sh : Nat)
  /-- TRAIN_BACKOFF_END (R448): The backoff wait after a failed attempt ends and a new training attempt starts. -/
  | trainBackoffEnd (sh : Nat)
  /-- BLOCK_RX (R441): A Spaxa block is received, FEC-decoded, ordered by BC and its flits released. -/
  | blockRx (sh l i : Nat) (syms : List Nat)
  /-- FLIT_RX (R451): A flit is received and accepted, discarded as duplicate, or triggers NACK state, updating acks and credits. -/
  | flitRx (sh : Nat)
  /-- REPLAY_TIMEOUT (R452): ACK does not advance for REPLAY_TO and a replay round starts from the oldest outstanding flit. -/
  | replayTimeout (sh : Nat)
  /-- CLAIM_RX (R458): A CLAIM message is received and answered with GRANT or REFUSE. -/
  | claimRx (sh : Nat)
  /-- GRANT_RX (R458): A GRANT message gives the turn token to the claimant's exchange. -/
  | grantRx (sh : Nat)
  /-- REFUSE_RX (R458): A REFUSE message ends the exchange and XCHG_FAIL is raised. -/
  | refuseRx (sh : Nat)
  /-- DONE_RX (R458): A DONE message returns the turn token. -/
  | doneRx (sh : Nat)
  /-- SPARE_READY_RX (R460): A SPARE_READY message reports the partner's spare receiver aligned. -/
  | spareReadyRx (sh : Nat)
  /-- SWITCH_RX (R460): A SWITCH message names the BC from which the partner's lane moves or dozes. -/
  | switchRx (sh : Nat)
  /-- RESTORE_RX (R461): A RESTORE message names the BC from which the partner transmits at full width. -/
  | restoreRx (sh : Nat)
  /-- COMMAND_RX (R515): A COMMAND message delivers a command packet over the Spaxa path. -/
  | commandRx (sh : Nat)
  /-- XCHG_TIMEOUT (R458): A CLAIM gets no answer within XCHG_TO and the exchange fails with TIMEOUT. -/
  | xchgTimeout (sh : Nat)
  /-- DOZE_IDLE (R461): No data flit is sent for IDLE µs and the hub claims DOZE. -/
  | dozeIdle (sh : Nat)
  /-- SAMPLE_RX (R464): A SAMPLE flit delivers node samples to the slots that take the stream. -/
  | sampleRx (sh : Nat) (full : List Nat)
  /-- DECLARE_RX (R465): A DECLARE flit fixes the timing of a node stream. -/
  | declareRx (sh : Nat)
  /-- PARTIAL_RX (R466): A PARTIAL flit delivers part of a chained partial beam sum. -/
  | partialRx (sh : Nat)
  /-- QUEUE_FLIT_RX (R463): A QUEUE flit writes its bytes to the stream-in queue that the receive map names. -/
  | queueFlitRx (sh : Nat)
  /-- BEACON_TX (R467): Every PERIOD µs an active end sends a BEACON flit and its departure is tagged. -/
  | beaconTx (sh : Nat)
  /-- BEACON_RX (R469): A beacon arrives, is tagged, and a beacon exchange yields offset and delay. -/
  | beaconRx (sh : Nat)
  /-- BEACON_LOST (R470): No usable beacon for 4 × PERIOD raises BEACON_LOST. -/
  | beaconLost (sh : Nat)
  /-- FRAME_RX (R479): An Ethernet frame received on a port is handled by the first matching row of R479. -/
  | frameRx (p : Nat) (fcs : Bool) (frame : List Byte)
  /-- MERGE_TIMEOUT (R480): The MERGE wait for missing stream packets ends and missing packets are declared lost. -/
  | mergeTimeout (n : Nat)
  /-- HEARTBEAT_RX (R483): A valid heartbeat received on a port restarts that port's timer. -/
  | heartbeatRx (p : Nat) (data : List Byte)
  /-- HEARTBEAT_TX (R483): Every TX_PER µs a heartbeat is sent on every paired port. -/
  | heartbeatTx
  /-- HEARTBEAT_TIMEOUT (R484): No heartbeat for RX_TO fails that side. -/
  | heartbeatTimeout (p : Nat)
  /-- PORT_FAULT_HELD (R484): Loss of alignment, local or remote fault held 10 µs fails the side. -/
  | portFaultHeld (p : Nat)
  /-- ROUTE_SIDE_WRITE (R486): A write of RED_PAIR.SIDE changes the active side and resumes its streams. -/
  | routeSideWrite (j : Nat) (w : Wr)
  /-- REWIND_EXPIRY (R485): A plot sent on a route is kept REWIND µs and then freed. -/
  | rewindExpiry (q : Nat)
  /-- HTX_PI_WRITE (R481): A write of ETH_HTX_PI posts host transmit descriptors to a MAC. -/
  | htxPiWrite (m : Nat) (w : Wr) (descs : List HtxDesc)
  /-- HRX_PI_WRITE (R481): A write of ETH_HRX_PI supplies host receive descriptors to a MAC. -/
  | hrxPiWrite (m : Nat) (w : Wr) (bufs : List Nat)
  /-- FUNCTION_LEVEL_RESET (R513): An FLR stops the function's requests, disables its borough's host rings and resets its per-function state. -/
  | functionLevelReset (fn : Nat)
  /-- VF_DISABLE (R495): Clearing VF Enable or lowering NumVFs acts as an FLR on each vanished function. -/
  | vfDisable (n : Nat)
  /-- PCIE_LINK_DOWN (R514): The PCIe link goes down or PERST_N asserts and every function is held as after an FLR. -/
  | pcieLinkDown
  /-- PCIE_LINK_UP (R514): The PCIe link returns and each function starts from the FLR state. -/
  | pcieLinkUp
  /-- PTM_START (R510): A write of SYS_PTM_CTL.START runs one PTM dialog. -/
  | ptmStart (w : Wr)
  /-- PTM_DIALOG (R510): Every PERIOD ms the hub starts a PTM dialog and latches MT at t1. -/
  | ptmDialog
  /-- PTM_RESPONSE_RX (R510): A PTM ResponseD arrives and a correlation record is written. -/
  | ptmResponseRx (master delay : Nat)
  /-- PTM_TIMEOUT (R510): A dialog gets no response in 100 µs, FAIL is counted and PTM_FAIL raised. -/
  | ptmTimeout
  /-- MSIX_MODERATION_END (R512): A vector's moderation interval ends and a pending message is sent. -/
  | msixModerationEnd (fn v : Nat)
  /-- MSIX_UNMASK (R512): A vector is unmasked or enabled and its pending message is sent. -/
  | msixUnmask (fn : Nat) (op : MsixOp)
  /-- DB_CMD_PI_WRITE (R524): A write of DB_CMD_PI advances a command ring's producer index and the engine fetches packets. -/
  | dbCmdPiWrite (r : Nat) (w : Wr) (data : List Byte)
  /-- DB_CPL_CI_WRITE (R524): A write of DB_CPL_CI frees completion ring slots. -/
  | dbCplCiWrite (r : Nat) (w : Wr)
  /-- CMD_ENVELOPE_RX (R526): A UDP command envelope is authenticated and its counter checked, or dropped and counted. -/
  | cmdEnvelopeRx (port addr udp ahead : Nat) (data : List Byte)
  /-- CMD_KEY_LOAD (R527): A write of CMD_KEY_CTL.LOAD installs a borough key and resets its envelope counters. -/
  | cmdKeyLoad (w : Wr)
  /-- CMD_KEY_CLEAR (R527): A write of CMD_KEY_CTL.CLEAR removes a borough key. -/
  | cmdKeyClear (w : Wr)
  /-- CRING_ENABLE (R525): A write of BRG_CRING_CTL.EN checks the escape reserve and quota and enables a command ring pair. -/
  | cringEnable (b r : Nat) (w : Wr)
  /-- PAD_OPCODE (R518): A pad packet fills ring slots and produces no reply. -/
  | padOpcode (p : Packet)
  /-- CFG_IDENT (R545): Returns SYS_IDENT, SYS_HUB_ID and the caller's INSTANCE. -/
  | cfgIdent (p : Packet)
  /-- CFG_HUB_ID (R545): Writes the hub identifier as SYS_HUB_ID would. -/
  | cfgHubId (p : Packet)
  /-- CFG_KEY_LOAD (R545): Installs a borough's command key. -/
  | cfgKeyLoad (p : Packet)
  /-- CFG_KEY_CLEAR (R545): Removes a borough's command key. -/
  | cfgKeyClear (p : Packet)
  /-- CFG_KEY_OWN (R545): Installs the calling borough's own key. -/
  | cfgKeyOwn (p : Packet)
  /-- CFG_UDP (R545): Writes CMD_UDP. -/
  | cfgUdp (p : Packet)
  /-- CFG_REG_READ (R545): Returns up to 1,000 register words as physical function 0 reads them. -/
  | cfgRegRead (p : Packet)
  /-- CFG_REG_WRITE (R545): Performs a full 32-bit register write as physical function 0. -/
  | cfgRegWrite (p : Packet)
  /-- CFG_TABLE_WRITE (R545): Writes words into a table of the aperture. -/
  | cfgTableWrite (p : Packet)
  /-- CFG_TABLE_READ (R545): Returns words from a table of the aperture. -/
  | cfgTableRead (p : Packet)
  /-- CNV_GROUP (R545): Writes a group's control, PLL and lock words and applies them under R146. -/
  | cnvGroup (p : Packet)
  /-- CNV_INPUT_EN (R159): Stages the enable of one wideband input. -/
  | cnvInputEn (p : Packet)
  /-- CNV_TRACK (R545): Writes a group's estimator settings. -/
  | cnvTrack (p : Packet)
  /-- CNV_STATUS (R545): Returns a group's status, tracking and input status words. -/
  | cnvStatus (p : Packet)
  /-- BRG_QUOTA (R545): Sets a borough's plot quota. -/
  | brgQuota (p : Packet)
  /-- BRG_GRANT (R564): Grants a copy of a slot's streams to a tenant queue. -/
  | brgGrant (p : Packet)
  /-- BRG_REVOKE (R567): Revokes a grant and frees its entry. -/
  | brgRevoke (p : Packet)
  /-- BRG_BEAMS (R561): Assigns a tenant its beam and weight page ranges. -/
  | brgBeams (p : Packet)
  /-- BRG_RESET (R577): Starts a borough reset of a tenant. -/
  | brgReset (p : Packet)
  /-- BRG_STATUS (R545): Returns a borough's quota, usage, grants and beams. -/
  | brgStatus (p : Packet)
  /-- PIPE_SOURCE (R546): Writes the source of IDLE slots. -/
  | pipeSource (p : Packet)
  /-- PIPE_BIND (R546): Binds the selected slots to a grid with a restart. -/
  | pipeBind (p : Packet)
  /-- PIPE_DELAY (R546): Stages a slot delay. -/
  | pipeDelay (p : Packet)
  /-- PIPE_UNBIND (R546): Unbinds the selected slots. -/
  | pipeUnbind (p : Packet)
  /-- PIPE_MIX (R546): Stages mixer mode, phase and frequency word. -/
  | pipeMix (p : Packet)
  /-- PIPE_DECIMATE (R546): Stages the decimator chain, optionally with a restart. -/
  | pipeDecimate (p : Packet)
  /-- PIPE_RESAMPLE (R546): Stages the resampler coefficient set. -/
  | pipeResample (p : Packet)
  /-- PIPE_CHANNEL (R546): Stages channeliser settings, optionally with a restart. -/
  | pipeChannel (p : Packet)
  /-- PIPE_REDUCE (R546): Stages reducer, requantiser and histogram settings. -/
  | pipeReduce (p : Packet)
  /-- PIPE_ROUTE (R546): Stages a slot's stream queues. -/
  | pipeRoute (p : Packet)
  /-- PIPE_INTAKE (R546): Stages intake controls, blanking, calibration and test pattern. -/
  | pipeIntake (p : Packet)
  /-- PIPE_COMMIT (R546): Commits the whole slot shadow. -/
  | pipeCommit (p : Packet)
  /-- PIPE_FPD (R546): Writes the fast power detector settings. -/
  | pipeFpd (p : Packet)
  /-- PIPE_DISTRICT (R546): Writes the membership of a local district. -/
  | pipeDistrict (p : Packet)
  /-- PIPE_RAW (R546): Writes a slot's CMP_RAW under R330. -/
  | pipeRaw (p : Packet)
  /-- PIPE_STATUS (R546): Returns a slot's status, resampler and raw-path words. -/
  | pipeStatus (p : Packet)
  /-- BEAM_SET (R547): Writes and commits a range of beam descriptors. -/
  | beamSet (p : Packet)
  /-- BEAM_DISABLE (R547): Disables a range of beams at their boundary. -/
  | beamDisable (p : Packet)
  /-- BEAM_ISET (R547): Writes a beam input set. -/
  | beamIset (p : Packet)
  /-- BEAM_WEIGHTS (R547): Writes beam weights into free pages. -/
  | beamWeights (p : Packet)
  /-- BEAM_STATUS (R547): Returns a beam's status and descriptor in force. -/
  | beamStatus (p : Packet)
  /-- BEAM_LOAD (R547): Returns engine capacity, load and the caller's beam load. -/
  | beamLoad (p : Packet)
  /-- GRID_DEFINE (R22): Checks and writes a grid descriptor. -/
  | gridDefine (p : Packet)
  /-- GRID_CLEAR (R547): Sets a grid's VALID to 0 if no unit is bound. -/
  | gridClear (p : Packet)
  /-- GRID_READ (R547): Returns a grid descriptor and its bound-unit count. -/
  | gridRead (p : Packet)
  /-- GRID_INDEX (R547): Returns the least grid index at or after a Meridian time. -/
  | gridIndex (p : Packet)
  /-- QUEUE_CONFIG (R548): Writes a queue's configuration words. -/
  | queueConfig (p : Packet)
  /-- QUEUE_ENABLE (R548): Enables a queue under R352. -/
  | queueEnable (p : Packet)
  /-- QUEUE_DISABLE (R548): Disables a queue. -/
  | queueDisable (p : Packet)
  /-- QUEUE_FLUSH (R548): Flushes a queue and returns the bytes discarded. -/
  | queueFlush (p : Packet)
  /-- QUEUE_STATUS (R548): Returns a queue's status and gap record. -/
  | queueStatus (p : Packet)
  /-- QUEUE_CHAIN (R548): Returns a consistent snapshot of a queue's cadastre chain. -/
  | queueChain (p : Packet)
  /-- QUEUE_DELIVER (R573): Configures and enables, or disables, a host delivery ring. -/
  | queueDeliver (p : Packet)
  /-- PLOT_STATUS (R548): Returns pool status and the caller's quota and usage. -/
  | plotStatus (p : Packet)
  /-- PLOT_ESCAPE (R548): Writes the escape reserve. -/
  | plotEscape (p : Packet)
  /-- PLOT_LOW (R548): Writes PLT_LOW. -/
  | plotLow (p : Packet)
  /-- PLOT_COUNTERS (R548): Returns and clears PLT_NOPLOT. -/
  | plotCounters (p : Packet)
  /-- TIME_READ (R549): Returns MT, free count and TB_STATUS latched on one tick. -/
  | timeRead (p : Packet)
  /-- TIME_ADJUST (R549): Checks and applies rate, slew, step, abort or trace as a GO would. -/
  | timeAdjust (p : Packet)
  /-- TIME_SOURCE (R549): Writes the discipline source, qualification and holdover limit. -/
  | timeSource (p : Packet)
  /-- TIME_AGE (R549): Writes TB_AGE. -/
  | timeAge (p : Packet)
  /-- TIME_PPS_DELAY (R549): Writes TB_PPS_DELAY. -/
  | timePpsDelay (p : Packet)
  /-- TIME_TAI_UTC (R549): Writes TB_TAI_UTC. -/
  | timeTaiUtc (p : Packet)
  /-- TIME_STATUS (R549): Returns time status, holdover, rate and adjustment amount. -/
  | timeStatus (p : Packet)
  /-- TIME_EDGE (R549): Writes an edge input's configuration and delay. -/
  | timeEdge (p : Packet)
  /-- TIME_FREQ (R549): Writes a frequency counter's configuration. -/
  | timeFreq (p : Packet)
  /-- TIME_FREQ_READ (R549): Returns one consistent gate of a frequency counter. -/
  | timeFreqRead (p : Packet)
  /-- TIME_PTM (R549): Writes SYS_PTM_CTL. -/
  | timePtm (p : Packet)
  /-- TRIG_ARM (R550): Writes all words of a trigger output and arms it. -/
  | trigArm (p : Packet)
  /-- TRIG_DISARM (R550): Puts a trigger output OFF. -/
  | trigDisarm (p : Packet)
  /-- TRIG_FIRE (R550): Offers a source-22 trigger to an output. -/
  | trigFire (p : Packet)
  /-- TRIG_SRC_SKEW (R550): Writes a source skew. -/
  | trigSrcSkew (p : Packet)
  /-- TRIG_RING (R550): Writes the ring control and membership. -/
  | trigRing (p : Packet)
  /-- TRIG_CAPSET (R550): Writes a capture set. -/
  | trigCapset (p : Packet)
  /-- TRIG_NET (R550): Writes TRG_NET. -/
  | trigNet (p : Packet)
  /-- TRIG_STREAM (R550): Writes TRG_CTL. -/
  | trigStream (p : Packet)
  /-- TRIG_STATUS (R550): Returns an output's status and the ring status. -/
  | trigStatus (p : Packet)
  /-- CAL_TRIM_REPAIR (R289): Copies the passing copy of a trim page onto the failing one. -/
  | calTrimRepair (p : Packet)
  /-- CAL_USER_MEASURE (R291): Measures the internal short and CALREF on a physical precision converter. -/
  | calUserMeasure (p : Packet)
  /-- CAL_USER_WRITE (R292): Writes user corrections to page 3 and stages them. -/
  | calUserWrite (p : Packet)
  /-- CAL_TIM (R551): Starts a TDC calibration run on one or all cores. -/
  | calTim (p : Packet)
  /-- CAL_TIM_PERIOD (R551): Writes the periodic TDC calibration period. -/
  | calTimPeriod (p : Packet)
  /-- CAL_SLICE_TRIM (R551): Stages a slice's trims with the survey off. -/
  | calSliceTrim (p : Packet)
  /-- CAL_SURVEY (R551): Enables or disables a group's survey and sets its dwell. -/
  | calSurvey (p : Packet)
  /-- CAL_SURVEY_STEP (R551): Repeats a halted survey step. -/
  | calSurveyStep (p : Packet)
  /-- CAL_PAGE_READ (R551): Returns bytes of a trim page copy. -/
  | calPageRead (p : Packet)
  /-- FE_BIND (R551): Binds the front end to a grid. -/
  | feBind (p : Packet)
  /-- FE_UNBIND (R551): Unbinds the front end. -/
  | feUnbind (p : Packet)
  /-- FE_EXCITATION (R551): Stages an excitation output's enable and range. -/
  | feExcitation (p : Packet)
  /-- FE_CHANNEL (R551): Stages a structure channel's configuration. -/
  | feChannel (p : Packet)
  /-- FE_SEQUENCE (R551): Stages a precision converter's sequencer and list. -/
  | feSequence (p : Packet)
  /-- FE_ROUTE (R551): Stages a precision converter's route. -/
  | feRoute (p : Packet)
  /-- FE_BLANK (R551): Stages front-end blanking and common-mode settings. -/
  | feBlank (p : Packet)
  /-- FE_LIN (R551): Stages a channel's linearisation coefficients. -/
  | feLin (p : Packet)
  /-- FE_URGENT (R551): Makes an urgent conversion request and returns its record. -/
  | feUrgent (p : Packet)
  /-- FE_REF (R551): Enables or disables the precision reference buffer. -/
  | feRef (p : Packet)
  /-- FE_STATUS (R551): Returns front-end and converter status words. -/
  | feStatus (p : Packet)
  /-- LANE_SHEET (R552): Writes a sheet's control and eye settings. -/
  | laneSheet (p : Packet)
  /-- LANE_TUNE (R552): Writes a lane's control word. -/
  | laneTune (p : Packet)
  /-- LANE_SUBST (R552): Moves a logical lane to the spare. -/
  | laneSubst (p : Packet)
  /-- LANE_NARROW (R552): Narrows a sheet to seven lanes. -/
  | laneNarrow (p : Packet)
  /-- LANE_PRBS (R552): Writes pattern test settings and returns the counters before the write. -/
  | lanePrbs (p : Packet)
  /-- LANE_STATUS (R552): Returns a sheet's and its lanes' status. -/
  | laneStatus (p : Packet)
  /-- LINK_CONFIG (R552): Writes a sheet's Spaxa settings. -/
  | linkConfig (p : Packet)
  /-- LINK_RXMAP (R552): Writes words of a sheet's Spaxa receive map. -/
  | linkRxmap (p : Packet)
  /-- LINK_STATUS (R552): Returns a sheet's Spaxa registers. -/
  | linkStatus (p : Packet)
  /-- ROUTE_MAC (R552): Writes a MAC instance's mode and sheet. -/
  | routeMac (p : Packet)
  /-- ROUTE_PAIR (R552): Writes the ports of a route pair. -/
  | routePair (p : Packet)
  /-- ROUTE_SIDE (R552): Sets a pair's active side. -/
  | routeSide (p : Packet)
  /-- ROUTE_POLICY (R552): Arms or disarms route switch-over. -/
  | routePolicy (p : Packet)
  /-- ROUTE_HEARTBEAT (R552): Writes rewind and heartbeat settings. -/
  | routeHeartbeat (p : Packet)
  /-- ROUTE_STREAM (R552): Writes a route stream table entry. -/
  | routeStream (p : Packet)
  /-- ROUTE_ADDRESS (R552): Writes an address table entry. -/
  | routeAddress (p : Packet)
  /-- ROUTE_PORT (R552): Writes a port table entry. -/
  | routePort (p : Packet)
  /-- ROUTE_STATUS (R552): Returns every pair and MAC status. -/
  | routeStatus (p : Packet)
  /-- GAZ_ROOT (R584): Sets or clears the root role. -/
  | gazRoot (p : Packet)
  /-- GAZ_REGISTER (R587): Registers a gazetteer entry. -/
  | gazRegister (p : Packet)
  /-- GAZ_REMOVE (R587): Removes a gazetteer entry. -/
  | gazRemove (p : Packet)
  /-- GAZ_READ (R553): Returns a gazetteer entry. -/
  | gazRead (p : Packet)
  /-- GAZ_DISTRICT (R588): Adds or removes an entry's district memberships. -/
  | gazDistrict (p : Packet)
  /-- GAZ_SEND (R589): Sends a staged change to a district and collects its outcomes. -/
  | gazSend (p : Packet)
  /-- GAZ_COUNTS (R553): Returns a district's latest counts and epoch. -/
  | gazCounts (p : Packet)
  /-- GAZ_DIGEST (R553): Writes the digest window. -/
  | gazDigest (p : Packet)
  /-- LOG_HEAD (R554): Returns the logbook head, record count and refusals. -/
  | logHead (p : Packet)
  /-- LOG_READ (R554): Returns up to 60 logbook records from a sequence. -/
  | logRead (p : Packet)
  /-- LOG_CHALLENGE (R622): Returns a fresh nonce valid for 10 s. -/
  | logChallenge (p : Packet)
  /-- LOG_CLEAR (R623): Clears the logbook against the clear key. -/
  | logClear (p : Packet)
  /-- LOG_KEY (R622): Sets or replaces the clear key. -/
  | logKey (p : Packet)
  /-- LOG_REPEAT (R554): Writes the logbook repeat window. -/
  | logRepeat (p : Packet)
  /-- POWER_DOWN (R555): Requests that a domain power down. -/
  | powerDown (p : Packet)
  /-- POWER_UP (R555): Requests that a domain wake. -/
  | powerUp (p : Packet)
  /-- POWER_HOLD (R555): Sets a domain's upstream policy. -/
  | powerHold (p : Packet)
  /-- POWER_STATUS (R555): Returns the state of every domain. -/
  | powerStatus (p : Packet)
  /-- SPARE_POLICY (R556): Writes bits of SYS_POLICY and returns it. -/
  | sparePolicy (p : Packet)
  /-- SPARE_SLICE (R556): Retires a failing slice or declares an input dead. -/
  | spareSlice (p : Packet)
  /-- SPARE_ENGINE (R556): Substitutes a spare pipeline engine. -/
  | spareEngine (p : Packet)
  /-- SPARE_SLOT (R556): Substitutes a spare slot. -/
  | spareSlot (p : Packet)
  /-- SPARE_TDC (R556): Substitutes a spare TDC core. -/
  | spareTdc (p : Packet)
  /-- SPARE_PCV (R556): Substitutes the spare precision converter. -/
  | sparePcv (p : Packet)
  /-- SPARE_BMAC (R556): Substitutes the spare MAC array. -/
  | spareBmac (p : Packet)
  /-- SPARE_CORE (R556): Substitutes the spare control core. -/
  | spareCore (p : Packet)
  /-- SPARE_PLOT (R556): Retires a failing plot. -/
  | sparePlot (p : Packet)
  /-- SPARE_MRAM (R556): Substitutes a spare MRAM sector. -/
  | spareMram (p : Packet)
  /-- SPARE_INVENTORY (R556): Returns spares used and left per class. -/
  | spareInventory (p : Packet)
  /-- DIAG_ECHO (R557): Returns its parameters unchanged. -/
  | diagEcho (p : Packet)
  /-- DIAG_SELFTEST (R557): Self-tests an out-of-service unit. -/
  | diagSelftest (p : Packet)
  /-- DIAG_BEAM_SAT (R557): Returns a beam's saturation counter. -/
  | diagBeamSat (p : Packet)
  /-- DIAG_TEMPS (R557): Returns every die temperature. -/
  | diagTemps (p : Packet)
  /-- BRG_CTL_RESET (R577): A write of BRG_CTL.RESET starts a borough reset. -/
  | brgCtlReset (b : Nat) (w : Wr)
  /-- BOROUGH_RESET_DONE (R578): A borough reset completes its steps, STATE becomes ACTIVE and RESET_DONE is raised. -/
  | boroughResetDone (b : Nat)
  /-- DELIVERY_DOORBELL (R574): A write of a host delivery ring doorbell reports bytes consumed. -/
  | deliveryDoorbell (i : Nat) (w : Wr)
  /-- CMD_RATE_WINDOW (R571): A millisecond of command rate limiting ends and fetch of the borough's rings resumes. -/
  | cmdRateWindow
  /-- DB_EVT_SRC (R611): A tenant doorbell enables or disables one event source for its borough. -/
  | dbEvtSrc (w : Wr)
  /-- DB_EVT_ALL (R611): A tenant doorbell enables or disables every event source for its borough. -/
  | dbEvtAll (w : Wr)
  /-- GAZ_COPY_TX (R590): The root forms and sends a member's copy of a district send. -/
  | gazCopyTx (d : Nat)
  /-- GAZ_RETRY (R590): RETRY ms pass without an outcome and the copy is resent. -/
  | gazRetry (d e : Nat)
  /-- GAZ_OUTCOME_RX (R591): A member's reply to a send copy arrives and is counted. -/
  | gazOutcomeRx (e : Nat) (env : List Byte)
  /-- GAZ_COLLECT_END (R593): Collection ends and the GAZ_SEND reply is sent with its counts. -/
  | gazCollectEnd (d : Nat)
  /-- FAULT_REPORT_RX (R596): A fault report is checked and folded into a digest. -/
  | faultReportRx (payload : List Byte)
  /-- DIGEST_CLOSE (R598): A digest window ends and its record is written. -/
  | digestClose (subject cls : Nat)
  /-- EVT_WINDOW_END (R610): A coalescing window ends and a summary record is written. -/
  | evtWindowEnd
  /-- EVT_PEND_WRITE (R612): A W1C write to EVT_PEND clears pending bits and may release the EVT_N pins. -/
  | evtPendWrite (k : Nat) (w : Wr)
  /-- LOG_WRITE (R617): The logbook writer pops a staging item and folds it as a repeat or writes a new record. -/
  | logWrite (fails : Nat)
  /-- LOG_SCAN (R621): After power-on reset the logbook is scanned and its head found. -/
  | logScan
  /-- PWR_DOWN (R629): A write of PWR_DOM.DOWN checks and starts the drain protocol. -/
  | pwrDown (d : Nat) (w : Wr)
  /-- PWR_UP (R635): A write of PWR_DOM.UP checks and starts waking a domain. -/
  | pwrUp (d : Nat) (w : Wr)
  /-- DRAIN_COMPLETE (R629): The drain finishes, the domain is clamped and switched off and DOMAIN_DOWN raised. -/
  | drainComplete (d : Nat)
  /-- DRAIN_TIMEOUT (R632): The drain does not finish in 100 ms and the domain reopens with DRAIN_FAIL. -/
  | drainTimeout (d : Nat)
  /-- WAKE_COMPLETE (R635): A waking domain becomes AWAKE and DOMAIN_UP is raised. -/
  | wakeComplete (d : Nat)
  /-- WAKE_TIMEOUT (R636): A domain is not AWAKE within twice its wake time and is switched off with WAKE_FAIL. -/
  | wakeTimeout (d : Nat)
  /-- ENG_FAIL (R639): A pipeline engine finds a residue mismatch or too many ECC errors and is marked failing. -/
  | engFail (p : Nat) (corrected : Bool)
  /-- SLOT_FAIL (R640): A slot's history store returns an uncorrectable error and SLOT_FAIL is raised. -/
  | slotFail (n : Nat)
  /-- CORE_FAIL (R641): A control core's lockstep or watchdog fails and CORE_FAIL is raised. -/
  | coreFail (k : Nat) (dog : Bool) (run : Option Nat)
  /-- POR_ASSERT (R651): POR_N held low for 5 µs resets the whole hub. -/
  | porAssert (torn : Bool)
  /-- AON_MONITOR_RESET (R651): VDD_AON below 0.70 V for 1 µs resets the hub. -/
  | aonMonitorReset (torn : Bool)
  /-- SUPPLY_FAULT (R651): A rail leaves its range, SUPPLY is set and SUPPLY_FAULT raised. -/
  | supplyFault
  /-- POR_RELEASE (R652): POR_N is released and the hub starts its self-start sequence. -/
  | porRelease
  /-- XO_FAIL (R653): The crystal does not start within 10 ms and the free count runs from the backup ring. -/
  | xoFail
  /-- STACK_TRAINING_DONE (R653): Memory stack training completes or fails and the far tier becomes available. -/
  | stackTrainingDone (failed : Nat)
  /-- START_DONE (R652): Start-up ends, SYS_START.READY reads 1 and START_DONE is raised. -/
  | startDone (cd ld : Nat)
  /-- WARM_N_REQUEST (R659): WARM_N held low 1 µs requests a warm reset. -/
  | warmNRequest
  /-- WARM_REG_REQUEST (R659): A write of SYS_RST_CTL.WARM with the key requests a warm reset after 100 µs. -/
  | warmRegRequest (w : Wr)
  /-- FW_RESTART_REQUEST (R658): A write of SYS_RST_CTL.FW with the key stops the control cores and restarts Falarn. -/
  | fwRestartRequest (w : Wr)
  /-- WARM_RESET_DONE (R660): A warm reset completes, READY returns to 1 and WARM_RESET is logged. -/
  | warmResetDone
  /-- FW_RUNNING (R656): A started Falarn image reports running. -/
  | fwRunning
  /-- FW_WATCHDOG (R656): An image does not report running within 500 ms and the other image is started once. -/
  | fwWatchdog
  /-- FW_STARTED (R658): A Falarn restart completes and FW_STARTED is raised. -/
  | fwStarted
  /-- IMAGE_VERIFY (R657): A write of SYS_IMG_CTL.VERIFY checks the target image. -/
  | imageVerify (w : Wr)
  /-- MGB_XFER_GO (R690): A write of MGB_XFER.GO starts a management-bus transaction. -/
  | mgbXferGo (w : Wr)
  /-- MGB_XFER_DONE (R691): A management-bus transaction ends with one code. -/
  | mgbXferDone (code nbytes : Nat) (data : List Byte)
  /-- MGB_POLL (R692): A poll entry's PERIOD expires and the telemetry poller reads its device. -/
  | mgbPoll (i code val : Nat)
  /-- ALERT_N_ASSERT (R693): ALERT_N low for 1 µs starts the alert service's Alert Response Address read. -/
  | alertNAssert (addr : Option Nat)
  /-- ALERT_REPEAT (R693): While ALERT_N stays low the alert read repeats every PER ms. -/
  | alertRepeat (low : Bool) (addr : Option Nat)
  /-- MGB_SIG_CFG_WRITE (R684): A write of MGB_SIG_CFG sets a signal output's mode, discarding queued edges on a mode change. -/
  | mgbSigCfgWrite (n : Nat) (w : Wr)
  /-- MGB_EDGE_PUSH (R685): A write of MGB_EDGE_CTL.PUSH checks and queues a timed edge. -/
  | mgbEdgePush (w : Wr)
  /-- SIG_EDGE_FIRE (R686): Meridian time reaches a queued edge and the pin takes its level. -/
  | sigEdgeFire (n : Nat)
  /-- FRAME_MARKER_START (R687): A marker instant arrives and the output goes to its active level. -/
  | frameMarkerStart (n : Nat)
  /-- FRAME_MARKER_END (R687): A marker pulse of WIDTH ends and the output returns to idle. -/
  | frameMarkerEnd (n : Nat)
  /-- TAP_INSTRUCTION (R695): An instruction is loaded into the test access port and selects its data register. -/
  | tapInstruction (ir : Nat)
  /-- TAP_RESET (R695): TRST_N or TMS returns the test access port to Test-Logic-Reset with IDCODE selected. -/
  | tapReset
  /-- REFCLK_GATE (R721): A 10 ms gate ends and CLK_REFCLK_DEV is updated, raising REFCLK_RANGE if out of range. -/
  | refclkGate (dev : Int)
  /-- REFCLK_LOST (R721): No REFCLK edge for 1 µs clears REFCLK_OK and raises REFCLK_LOST. -/
  | refclkLost
  /-- REFCLK_BACK (R721): 1 ms of uninterrupted REFCLK edges sets REFCLK_OK and raises REFCLK_BACK. -/
  | refclkBack
  /-- PCIE_REFCLK_LOST (R721): No PCIE_REFCLK edge for 1 µs raises PCIE_REFCLK_LOST. -/
  | pcieRefclkLost
  /-- CLK_PLL_RELOCK (R663): A pipeline, control, stack or lane PLL relocks after losing lock and its unlock event is raised. -/
  | clkPllRelock (which : Nat)
  /-- CURRENT_LIMIT (R253): An excitation output enters current limit, which raises EXC_ILIM and sets ILIM while the limit lasts. -/
  | currentLimit (q : Nat)
  /-- FIXED_MODE_EDGE (R304): In FIXED mode the active edge of a trigger-driven signal output or ILINE falls exactly at T_event + OUT_DLY. -/
  | fixedModeEdge
  /-- PCS_FAULT (R475): A port's PCS loses alignment marker lock, or detects a local fault, or receives remote fault, and the port goes DOWN. -/
  | pcsFault (p kind : Nat)
  /-- PCS_FAULT_CLEAR (R475): The PCS regains alignment marker lock with no local or remote fault, the port becomes UP again with PORT_UP, and a failed side may be restored. -/
  | pcsFaultClear (p : Nat)
  /-- BLOCK_TX (R460): A Spaxa end transmits a block; at a count or a BC that it named it completes TS3, moves lane k to the spare, or changes its width for DOZE or RESTORE. -/
  | blockTx (sh i : Nat)
  /-- BUS_MASTER_ENABLE_WRITE (R516): A configuration write changes a function's Bus Master Enable; clearing it disables the borough's command rings and host delivery rings. -/
  | busMasterEnableWrite (fn : Nat) (bme ptm : Bool)
  /-- CLK_PLL_UNLOCK (R663): The pipeline, control, stack or lane PLL loses lock; the units of that domain hold their state and the lock bit clears. -/
  | clkPllUnlock (which : Nat)
  /-- AON_MONITOR_RELEASE (R651): VDD_AON has stayed at or above 0.72 V for 1 ms, and the monitor releases the reset it held, so that start-up begins. -/
  | aonMonitorRelease
  deriving DecidableEq, Repr

end Sys2Proof
end

