-- ==== Sys2Proof/Machine/EventIds.lean ====
section
/-! DEFINITION. Event sources and codes (R602 to R604 and the event lists of the chapters). The code holds the group in
bits 15:8 and the event number in bits 7:0. -/
namespace Sys2Proof.Machine

/-- An event: the source that raises it and its code (R603). -/
structure EvId where
  src : Nat
  code : Nat
  deriving DecidableEq, Repr

/-- SYS event ACCESS_VALUE. -/
def evSYS_ACCESS_VALUE : EvId := ⟨0, 0⟩
/-- SYS event ACCESS_RESERVED. -/
def evSYS_ACCESS_RESERVED : EvId := ⟨1, 1⟩
/-- SYS event ACCESS_WIDTH. -/
def evSYS_ACCESS_WIDTH : EvId := ⟨2, 2⟩
/-- SYS event POST_OVERFLOW. -/
def evSYS_POST_OVERFLOW : EvId := ⟨3, 3⟩
/-- SYS event POST_LOST. -/
def evSYS_POST_LOST : EvId := ⟨4, 4⟩
/-- SYS event PTM_FAIL. -/
def evSYS_PTM_FAIL : EvId := ⟨5, 5⟩
/-- SYS event FUNC_RESET. -/
def evSYS_FUNC_RESET : EvId := ⟨6, 6⟩
/-- SYS event START_DONE. -/
def evSYS_START_DONE : EvId := ⟨8, 8⟩
/-- SYS event WARM_RESET. -/
def evSYS_WARM_RESET : EvId := ⟨9, 9⟩
/-- SYS event FW_STARTED. -/
def evSYS_FW_STARTED : EvId := ⟨10, 10⟩
/-- SYS event FW_WATCHDOG. -/
def evSYS_FW_WATCHDOG : EvId := ⟨11, 11⟩
/-- SYS event IMAGE_BAD. -/
def evSYS_IMAGE_BAD : EvId := ⟨12, 12⟩
/-- SYS event NO_IMAGE. -/
def evSYS_NO_IMAGE : EvId := ⟨13, 13⟩
/-- SYS event MEM_TRAIN_FAIL. -/
def evSYS_MEM_TRAIN_FAIL : EvId := ⟨14, 14⟩
/-- SYS event SUPPLY_FAULT. -/
def evSYS_SUPPLY_FAULT : EvId := ⟨15, 15⟩
/-- PWR event DOMAIN_DOWN. -/
def evPWR_DOMAIN_DOWN : EvId := ⟨16, 256⟩
/-- PWR event DOMAIN_UP. -/
def evPWR_DOMAIN_UP : EvId := ⟨17, 257⟩
/-- PWR event DRAIN_FAIL. -/
def evPWR_DRAIN_FAIL : EvId := ⟨18, 258⟩
/-- PWR event WAKE_FAIL. -/
def evPWR_WAKE_FAIL : EvId := ⟨19, 259⟩
/-- PWR event TRAFFIC_REFUSED. -/
def evPWR_TRAFFIC_REFUSED : EvId := ⟨20, 260⟩
/-- PWR event SPARE_USED. -/
def evPWR_SPARE_USED : EvId := ⟨21, 261⟩
/-- PWR event SPARE_EXHAUSTED. -/
def evPWR_SPARE_EXHAUSTED : EvId := ⟨22, 262⟩
/-- PWR event WEAR_WARN. -/
def evPWR_WEAR_WARN : EvId := ⟨23, 263⟩
/-- PWR event ENG_FAIL. -/
def evPWR_ENG_FAIL : EvId := ⟨24, 264⟩
/-- PWR event SLOT_FAIL. -/
def evPWR_SLOT_FAIL : EvId := ⟨25, 265⟩
/-- PWR event CORE_FAIL. -/
def evPWR_CORE_FAIL : EvId := ⟨26, 266⟩
/-- PWR event MRAM_RETIRED. -/
def evPWR_MRAM_RETIRED : EvId := ⟨27, 267⟩
/-- CLK event XO_FAIL. -/
def evCLK_XO_FAIL : EvId := ⟨28, 512⟩
/-- CLK event PHASE_LOCKED. -/
def evCLK_PHASE_LOCKED : EvId := ⟨29, 513⟩
/-- CLK event CORE_PLL_UNLOCK. -/
def evCLK_CORE_PLL_UNLOCK : EvId := ⟨30, 514⟩
/-- CLK event CTRL_PLL_UNLOCK. -/
def evCLK_CTRL_PLL_UNLOCK : EvId := ⟨31, 515⟩
/-- CLK event REFCLK_LOST. -/
def evCLK_REFCLK_LOST : EvId := ⟨32, 516⟩
/-- CLK event REFCLK_BACK. -/
def evCLK_REFCLK_BACK : EvId := ⟨33, 517⟩
/-- CLK event REFCLK_RANGE. -/
def evCLK_REFCLK_RANGE : EvId := ⟨34, 518⟩
/-- CLK event PCIE_REFCLK_LOST. -/
def evCLK_PCIE_REFCLK_LOST : EvId := ⟨35, 519⟩
/-- CLK event STACK_PLL_UNLOCK. -/
def evCLK_STACK_PLL_UNLOCK : EvId := ⟨36, 520⟩
/-- CLK event LANE_PLL_UNLOCK. -/
def evCLK_LANE_PLL_UNLOCK : EvId := ⟨37, 521⟩
/-- CLK event DIE_LINK_FAIL. -/
def evCLK_DIE_LINK_FAIL : EvId := ⟨38, 522⟩
/-- CLK event CNT_SAT. -/
def evCLK_CNT_SAT : EvId := ⟨39, 523⟩
/-- TB event PHASE_UNLOCK. -/
def evTB_PHASE_UNLOCK : EvId := ⟨40, 768⟩
/-- TB event RATE_LIMIT. -/
def evTB_RATE_LIMIT : EvId := ⟨41, 769⟩
/-- TB event ADJ_REFUSED. -/
def evTB_ADJ_REFUSED : EvId := ⟨42, 770⟩
/-- TB event SLEW_DONE. -/
def evTB_SLEW_DONE : EvId := ⟨43, 771⟩
/-- TB event STEP_DONE. -/
def evTB_STEP_DONE : EvId := ⟨44, 772⟩
/-- TB event PPS_STRAY. -/
def evTB_PPS_STRAY : EvId := ⟨45, 773⟩
/-- TB event SRC_CHANGED. -/
def evTB_SRC_CHANGED : EvId := ⟨46, 774⟩
/-- TB event REF10M_LOST. -/
def evTB_REF10M_LOST : EvId := ⟨47, 775⟩
/-- TB event STATE_CHANGE. -/
def evTB_STATE_CHANGE : EvId := ⟨48, 776⟩
/-- TB event HOLDOVER_LIMIT. -/
def evTB_HOLDOVER_LIMIT : EvId := ⟨49, 777⟩
/-- TB event TXTS_FULL. -/
def evTB_TXTS_FULL : EvId := ⟨50, 778⟩
/-- TIM event CG_LOST. -/
def evTIM_CG_LOST : EvId := ⟨56, 1024⟩
/-- TIM event CG_BACK. -/
def evTIM_CG_BACK : EvId := ⟨57, 1025⟩
/-- TIM event EDGE_MISSED. -/
def evTIM_EDGE_MISSED : EvId := ⟨58, 1026⟩
/-- TIM event CORE_FAULT. -/
def evTIM_CORE_FAULT : EvId := ⟨59, 1027⟩
/-- TIM event CAL_STALE. -/
def evTIM_CAL_STALE : EvId := ⟨60, 1028⟩
/-- SFE event EXC_FAULT. -/
def evSFE_EXC_FAULT : EvId := ⟨96, 1536⟩
/-- SFE event EXC_CLEAR. -/
def evSFE_EXC_CLEAR : EvId := ⟨97, 1537⟩
/-- SFE event EXC_ILIM. -/
def evSFE_EXC_ILIM : EvId := ⟨98, 1538⟩
/-- SFE event RANGE_SWITCH. -/
def evSFE_RANGE_SWITCH : EvId := ⟨99, 1539⟩
/-- SFE event CM_FAULT. -/
def evSFE_CM_FAULT : EvId := ⟨100, 1540⟩
/-- SFE event CM_CLEAR. -/
def evSFE_CM_CLEAR : EvId := ⟨101, 1541⟩
/-- SFE event BLANK_PAUSE. -/
def evSFE_BLANK_PAUSE : EvId := ⟨102, 1542⟩
/-- SFE event LIN_ERR. -/
def evSFE_LIN_ERR : EvId := ⟨103, 1543⟩
/-- SFE event REF_OK. -/
def evSFE_REF_OK : EvId := ⟨104, 1544⟩
/-- SFE event REF_HELD. -/
def evSFE_REF_HELD : EvId := ⟨105, 1545⟩
/-- SFE event URG_REFUSED. -/
def evSFE_URG_REFUSED : EvId := ⟨106, 1546⟩
/-- SFE event SKIPPED. -/
def evSFE_SKIPPED : EvId := ⟨107, 1547⟩
/-- SFE event OVERRANGE. -/
def evSFE_OVERRANGE : EvId := ⟨108, 1548⟩
/-- SFE event PCV_FAIL. -/
def evSFE_PCV_FAIL : EvId := ⟨109, 1549⟩
/-- SFE event PCV_RETIRED. -/
def evSFE_PCV_RETIRED : EvId := ⟨110, 1550⟩
/-- SFE event SEQ_BOUND. -/
def evSFE_SEQ_BOUND : EvId := ⟨111, 1551⟩
/-- CAL event TRIM_COPY_BAD. -/
def evCAL_TRIM_COPY_BAD : EvId := ⟨112, 1792⟩
/-- CAL event TRIM_PAGE_BAD. -/
def evCAL_TRIM_PAGE_BAD : EvId := ⟨113, 1793⟩
/-- CAL event TRIM_LOCKED. -/
def evCAL_TRIM_LOCKED : EvId := ⟨114, 1794⟩
/-- CAL event TRIM_WRITTEN. -/
def evCAL_TRIM_WRITTEN : EvId := ⟨115, 1795⟩
/-- CAL event TRIM_REPAIRED. -/
def evCAL_TRIM_REPAIRED : EvId := ⟨116, 1796⟩
/-- CAL event NVM_WRITE_FAIL. -/
def evCAL_NVM_WRITE_FAIL : EvId := ⟨117, 1797⟩
/-- CAL event USER_MEASURED. -/
def evCAL_USER_MEASURED : EvId := ⟨118, 1798⟩
/-- CAL event CALREF_RANGE. -/
def evCAL_CALREF_RANGE : EvId := ⟨119, 1799⟩
/-- BFM event WEIGHT_IN_USE. -/
def evBFM_WEIGHT_IN_USE : EvId := ⟨136, 2304⟩
/-- BFM event MEMBER_LEFT. -/
def evBFM_MEMBER_LEFT : EvId := ⟨137, 2305⟩
/-- BFM event CHAIN_GAP. -/
def evBFM_CHAIN_GAP : EvId := ⟨138, 2306⟩
/-- BFM event CHAIN_MISMATCH. -/
def evBFM_CHAIN_MISMATCH : EvId := ⟨139, 2307⟩
/-- BFM event BMAC_FAIL. -/
def evBFM_BMAC_FAIL : EvId := ⟨140, 2308⟩
/-- BFM event BMAC_RETIRED. -/
def evBFM_BMAC_RETIRED : EvId := ⟨141, 2309⟩
/-- BFM event BEAM_SHED. -/
def evBFM_BEAM_SHED : EvId := ⟨142, 2310⟩
/-- CMP event CFG_BUSY. -/
def evCMP_CFG_BUSY : EvId := ⟨144, 2560⟩
/-- CMP event RAW_UNASSIGNED. -/
def evCMP_RAW_UNASSIGNED : EvId := ⟨145, 2561⟩
/-- CMP event ENC_STALL. -/
def evCMP_ENC_STALL : EvId := ⟨146, 2562⟩
/-- CMP event ENC_RESUME. -/
def evCMP_ENC_RESUME : EvId := ⟨147, 2563⟩
/-- CMP event ENG_FAULT. -/
def evCMP_ENG_FAULT : EvId := ⟨148, 2564⟩
/-- CMP event JOB_DONE. -/
def evCMP_JOB_DONE : EvId := ⟨149, 2565⟩
/-- CMP event JOB_SUSPENDED. -/
def evCMP_JOB_SUSPENDED : EvId := ⟨150, 2566⟩
/-- CMP event JOB_ERROR. -/
def evCMP_JOB_ERROR : EvId := ⟨151, 2567⟩
/-- CMP event JOB_ABORTED. -/
def evCMP_JOB_ABORTED : EvId := ⟨152, 2568⟩
/-- CMP event DESC_BAD. -/
def evCMP_DESC_BAD : EvId := ⟨153, 2569⟩
/-- CMP event PI_BAD. -/
def evCMP_PI_BAD : EvId := ⟨154, 2570⟩
/-- CMP event ERR_SAT. -/
def evCMP_ERR_SAT : EvId := ⟨155, 2571⟩
/-- PLT event POOL_EMPTY. -/
def evPLT_POOL_EMPTY : EvId := ⟨156, 2816⟩
/-- PLT event QUOTA_FULL. -/
def evPLT_QUOTA_FULL : EvId := ⟨157, 2817⟩
/-- PLT event ESCAPE_LOW. -/
def evPLT_ESCAPE_LOW : EvId := ⟨158, 2818⟩
/-- PLT event NEAR_LOW. -/
def evPLT_NEAR_LOW : EvId := ⟨159, 2819⟩
/-- PLT event ELASTIC_ENTER. -/
def evPLT_ELASTIC_ENTER : EvId := ⟨160, 2820⟩
/-- PLT event STORE_GAP. -/
def evPLT_STORE_GAP : EvId := ⟨161, 2821⟩
/-- PLT event STORE_RESUMED. -/
def evPLT_STORE_RESUMED : EvId := ⟨162, 2822⟩
/-- PLT event RING_CUT. -/
def evPLT_RING_CUT : EvId := ⟨163, 2823⟩
/-- PLT event PLOT_ECC. -/
def evPLT_PLOT_ECC : EvId := ⟨164, 2824⟩
/-- PLT event PLOT_RETIRED. -/
def evPLT_PLOT_RETIRED : EvId := ⟨165, 2825⟩
/-- PLT event RESERVE_LOW. -/
def evPLT_RESERVE_LOW : EvId := ⟨166, 2826⟩
/-- PLT event NOPLOT_SAT. -/
def evPLT_NOPLOT_SAT : EvId := ⟨167, 2827⟩
/-- QUE event Q_ON. -/
def evQUE_Q_ON : EvId := ⟨168, 3072⟩
/-- QUE event Q_OFF. -/
def evQUE_Q_OFF : EvId := ⟨169, 3073⟩
/-- QUE event Q_MAX. -/
def evQUE_Q_MAX : EvId := ⟨170, 3074⟩
/-- QUE event Q_FLUSHED. -/
def evQUE_Q_FLUSHED : EvId := ⟨171, 3075⟩
/-- QUE event CFG_BUSY. -/
def evQUE_CFG_BUSY : EvId := ⟨172, 3076⟩
/-- QUE event EGRESS_STALL. -/
def evQUE_EGRESS_STALL : EvId := ⟨173, 3077⟩
/-- QUE event HOST_FULL. -/
def evQUE_HOST_FULL : EvId := ⟨174, 3078⟩
/-- QUE event DEST_DOWN. -/
def evQUE_DEST_DOWN : EvId := ⟨175, 3079⟩
/-- QUE event Q_REFUSED. -/
def evQUE_Q_REFUSED : EvId := ⟨176, 3080⟩
/-- QUE event MIRROR_LAG. -/
def evQUE_MIRROR_LAG : EvId := ⟨177, 3081⟩
/-- QUE event GAPS_SAT. -/
def evQUE_GAPS_SAT : EvId := ⟨178, 3082⟩
/-- QUE event DROP_SAT. -/
def evQUE_DROP_SAT : EvId := ⟨179, 3083⟩
/-- LNE event SHEET_UP. -/
def evLNE_SHEET_UP : EvId := ⟨192, 3584⟩
/-- LNE event SHEET_DOWN. -/
def evLNE_SHEET_DOWN : EvId := ⟨193, 3585⟩
/-- LNE event BRINGUP_FAIL. -/
def evLNE_BRINGUP_FAIL : EvId := ⟨194, 3586⟩
/-- LNE event LANE_LOS. -/
def evLNE_LANE_LOS : EvId := ⟨195, 3587⟩
/-- LNE event LANE_LOL. -/
def evLNE_LANE_LOL : EvId := ⟨196, 3588⟩
/-- LNE event LANE_RESTORED. -/
def evLNE_LANE_RESTORED : EvId := ⟨197, 3589⟩
/-- LNE event EYE_WARN. -/
def evLNE_EYE_WARN : EvId := ⟨198, 3590⟩
/-- LNE event LANE_FAIL. -/
def evLNE_LANE_FAIL : EvId := ⟨199, 3591⟩
/-- LNE event LANE_RETIRED. -/
def evLNE_LANE_RETIRED : EvId := ⟨200, 3592⟩
/-- LNE event SPARE_IN. -/
def evLNE_SPARE_IN : EvId := ⟨201, 3593⟩
/-- LNE event SHEET_NARROW. -/
def evLNE_SHEET_NARROW : EvId := ⟨202, 3594⟩
/-- LNE event PRBS_LOCK. -/
def evLNE_PRBS_LOCK : EvId := ⟨203, 3595⟩
/-- LNE event PRBS_LOST. -/
def evLNE_PRBS_LOST : EvId := ⟨204, 3596⟩
/-- LNE event CFG_BUSY. -/
def evLNE_CFG_BUSY : EvId := ⟨205, 3597⟩
/-- LNE event DIR_SLEEP_REFUSED. -/
def evLNE_DIR_SLEEP_REFUSED : EvId := ⟨206, 3598⟩
/-- LNE event CNT_SAT. -/
def evLNE_CNT_SAT : EvId := ⟨207, 3599⟩
/-- SPX event LINK_UP. -/
def evSPX_LINK_UP : EvId := ⟨208, 3840⟩
/-- SPX event LINK_DOWN. -/
def evSPX_LINK_DOWN : EvId := ⟨209, 3841⟩
/-- SPX event LINK_RESET. -/
def evSPX_LINK_RESET : EvId := ⟨210, 3842⟩
/-- SPX event PARTNER_ABSENT. -/
def evSPX_PARTNER_ABSENT : EvId := ⟨211, 3843⟩
/-- SPX event TRAIN_REFUSED. -/
def evSPX_TRAIN_REFUSED : EvId := ⟨212, 3844⟩
/-- SPX event REPLAY. -/
def evSPX_REPLAY : EvId := ⟨213, 3845⟩
/-- SPX event REPLAY_LIMIT. -/
def evSPX_REPLAY_LIMIT : EvId := ⟨214, 3846⟩
/-- SPX event RX_DISCARD. -/
def evSPX_RX_DISCARD : EvId := ⟨215, 3847⟩
/-- SPX event XCHG_FAIL. -/
def evSPX_XCHG_FAIL : EvId := ⟨216, 3848⟩
/-- SPX event BEACON_LOST. -/
def evSPX_BEACON_LOST : EvId := ⟨217, 3849⟩
/-- SPX event TIME_WARN. -/
def evSPX_TIME_WARN : EvId := ⟨218, 3850⟩
/-- SPX event CNT_SAT. -/
def evSPX_CNT_SAT : EvId := ⟨219, 3851⟩
/-- ETH event PORT_UP. -/
def evETH_PORT_UP : EvId := ⟨220, 4096⟩
/-- ETH event PORT_DOWN. -/
def evETH_PORT_DOWN : EvId := ⟨221, 4097⟩
/-- ETH event PORT_NARROW. -/
def evETH_PORT_NARROW : EvId := ⟨222, 4098⟩
/-- ETH event LOCAL_FAULT. -/
def evETH_LOCAL_FAULT : EvId := ⟨223, 4099⟩
/-- ETH event REMOTE_FAULT. -/
def evETH_REMOTE_FAULT : EvId := ⟨224, 4100⟩
/-- ETH event AM_LOCK_LOST. -/
def evETH_AM_LOCK_LOST : EvId := ⟨225, 4101⟩
/-- ETH event FEC_DEGRADE. -/
def evETH_FEC_DEGRADE : EvId := ⟨226, 4102⟩
/-- ETH event RX_LOSS. -/
def evETH_RX_LOSS : EvId := ⟨227, 4103⟩
/-- ETH event RX_DISCARD. -/
def evETH_RX_DISCARD : EvId := ⟨228, 4104⟩
/-- ETH event HOST_RX_FULL. -/
def evETH_HOST_RX_FULL : EvId := ⟨229, 4105⟩
/-- ETH event CFG_BUSY. -/
def evETH_CFG_BUSY : EvId := ⟨230, 4106⟩
/-- ETH event CNT_SAT. -/
def evETH_CNT_SAT : EvId := ⟨231, 4107⟩
/-- RED event SIDE_FAILED. -/
def evRED_SIDE_FAILED : EvId := ⟨232, 4352⟩
/-- RED event SIDE_RESTORED. -/
def evRED_SIDE_RESTORED : EvId := ⟨233, 4353⟩
/-- RED event SWITCH_DONE. -/
def evRED_SWITCH_DONE : EvId := ⟨234, 4354⟩
/-- RED event BOTH_DOWN. -/
def evRED_BOTH_DOWN : EvId := ⟨235, 4355⟩
/-- RED event REWIND_SHORT. -/
def evRED_REWIND_SHORT : EvId := ⟨236, 4356⟩
/-- RED event MIRROR_SKIP. -/
def evRED_MIRROR_SKIP : EvId := ⟨237, 4357⟩
/-- RED event ROUTE_CMD. -/
def evRED_ROUTE_CMD : EvId := ⟨238, 4358⟩
/-- RED event HB_SAT. -/
def evRED_HB_SAT : EvId := ⟨239, 4359⟩
/-- TRG event CFG_ARMED. -/
def evTRG_CFG_ARMED : EvId := ⟨240, 4608⟩
/-- TRG event TRIG_REFUSED. -/
def evTRG_TRIG_REFUSED : EvId := ⟨241, 4609⟩
/-- TRG event CTX_FULL. -/
def evTRG_CTX_FULL : EvId := ⟨242, 4610⟩
/-- TRG event CAP_CLOSED. -/
def evTRG_CAP_CLOSED : EvId := ⟨243, 4611⟩
/-- TRG event CAP_CLIPPED. -/
def evTRG_CAP_CLIPPED : EvId := ⟨244, 4612⟩
/-- TRG event OUT_LATE. -/
def evTRG_OUT_LATE : EvId := ⟨245, 4613⟩
/-- TRG event NET_AUTH. -/
def evTRG_NET_AUTH : EvId := ⟨246, 4614⟩
/-- TRG event NET_REPLAY. -/
def evTRG_NET_REPLAY : EvId := ⟨247, 4615⟩
/-- TRG event NET_TIME. -/
def evTRG_NET_TIME : EvId := ⟨248, 4616⟩
/-- TRG event NET_TABLE_FULL. -/
def evTRG_NET_TABLE_FULL : EvId := ⟨249, 4617⟩
/-- TRG event RING_SHORT. -/
def evTRG_RING_SHORT : EvId := ⟨250, 4618⟩
/-- TRG event ILINE_STUCK. -/
def evTRG_ILINE_STUCK : EvId := ⟨251, 4619⟩
/-- GAZ event ROOT_CHANGE. -/
def evGAZ_ROOT_CHANGE : EvId := ⟨252, 4864⟩
/-- GAZ event SEND_DONE. -/
def evGAZ_SEND_DONE : EvId := ⟨253, 4865⟩
/-- GAZ event SEND_INCOMPLETE. -/
def evGAZ_SEND_INCOMPLETE : EvId := ⟨254, 4866⟩
/-- GAZ event LATE_OUTCOME. -/
def evGAZ_LATE_OUTCOME : EvId := ⟨255, 4867⟩
/-- GAZ event FR_REFUSED. -/
def evGAZ_FR_REFUSED : EvId := ⟨256, 4868⟩
/-- GAZ event DIGEST_FULL. -/
def evGAZ_DIGEST_FULL : EvId := ⟨257, 4869⟩
/-- GAZ event DIGEST_CLOSED. -/
def evGAZ_DIGEST_CLOSED : EvId := ⟨258, 4870⟩
/-- GAZ event CNT_SAT. -/
def evGAZ_CNT_SAT : EvId := ⟨259, 4871⟩
/-- LOG event LOG_FULL. -/
def evLOG_LOG_FULL : EvId := ⟨260, 5120⟩
/-- LOG event LOG_CLEARED. -/
def evLOG_LOG_CLEARED : EvId := ⟨261, 5121⟩
/-- LOG event CLEAR_REFUSED. -/
def evLOG_CLEAR_REFUSED : EvId := ⟨262, 5122⟩
/-- LOG event KEY_SET. -/
def evLOG_KEY_SET : EvId := ⟨263, 5123⟩
/-- LOG event LOG_TORN. -/
def evLOG_LOG_TORN : EvId := ⟨264, 5124⟩
/-- LOG event STAGE_REFUSED. -/
def evLOG_STAGE_REFUSED : EvId := ⟨265, 5125⟩
/-- LOG event WRITE_FAIL. -/
def evLOG_WRITE_FAIL : EvId := ⟨266, 5126⟩
/-- LOG event CNT_SAT. -/
def evLOG_CNT_SAT : EvId := ⟨267, 5127⟩
/-- CMD event STAGE_OVERWRITE. -/
def evCMD_STAGE_OVERWRITE : EvId := ⟨268, 5376⟩
/-- CMD event AUTH_FAIL. -/
def evCMD_AUTH_FAIL : EvId := ⟨269, 5377⟩
/-- CMD event REPLAY_DROP. -/
def evCMD_REPLAY_DROP : EvId := ⟨270, 5378⟩
/-- CMD event PI_BAD. -/
def evCMD_PI_BAD : EvId := ⟨271, 5379⟩
/-- CMD event LATE_REPLY. -/
def evCMD_LATE_REPLY : EvId := ⟨272, 5380⟩
/-- CMD event FETCH_PAUSE. -/
def evCMD_FETCH_PAUSE : EvId := ⟨273, 5381⟩
/-- CMD event ENGINE_FAULT. -/
def evCMD_ENGINE_FAULT : EvId := ⟨274, 5382⟩
/-- CMD event CNT_SAT. -/
def evCMD_CNT_SAT : EvId := ⟨275, 5383⟩
/-- BRG event RESET_START. -/
def evBRG_RESET_START : EvId := ⟨276, 5632⟩
/-- BRG event RESET_DONE. -/
def evBRG_RESET_DONE : EvId := ⟨277, 5633⟩
/-- BRG event GRANT_ADDED. -/
def evBRG_GRANT_ADDED : EvId := ⟨278, 5634⟩
/-- BRG event GRANT_REVOKED. -/
def evBRG_GRANT_REVOKED : EvId := ⟨279, 5635⟩
/-- BRG event GRANT_SUSPENDED. -/
def evBRG_GRANT_SUSPENDED : EvId := ⟨280, 5636⟩
/-- BRG event GRANT_RESUMED. -/
def evBRG_GRANT_RESUMED : EvId := ⟨281, 5637⟩
/-- BRG event CMD_RATE. -/
def evBRG_CMD_RATE : EvId := ⟨282, 5638⟩
/-- BRG event DB_BAD. -/
def evBRG_DB_BAD : EvId := ⟨283, 5639⟩
/-- MGB event MG_NAK. -/
def evMGB_MG_NAK : EvId := ⟨284, 5888⟩
/-- MGB event MG_FAULT. -/
def evMGB_MG_FAULT : EvId := ⟨285, 5889⟩
/-- MGB event MG_ALERT. -/
def evMGB_MG_ALERT : EvId := ⟨286, 5890⟩
/-- MGB event SIG_LATE. -/
def evMGB_SIG_LATE : EvId := ⟨287, 5891⟩
/-- CNV event PLL_UNLOCK of converter group g (R604). -/
def evCNV_PLL_UNLOCK (g : Nat) : EvId := ⟨64 + g, 1280⟩
/-- CNV event REF_HELD of converter group g (R604). -/
def evCNV_REF_HELD (g : Nat) : EvId := ⟨64 + g, 1281⟩
/-- CNV event LOCKED of converter group g (R604). -/
def evCNV_LOCKED (g : Nat) : EvId := ⟨64 + g, 1282⟩
/-- CNV event LOCK_LOST of converter group g (R604). -/
def evCNV_LOCK_LOST (g : Nat) : EvId := ⟨64 + g, 1283⟩
/-- CNV event SLICE_FAIL of converter group g (R604). -/
def evCNV_SLICE_FAIL (g : Nat) : EvId := ⟨64 + g, 1284⟩
/-- CNV event SLICE_RETIRED of converter group g (R604). -/
def evCNV_SLICE_RETIRED (g : Nat) : EvId := ⟨64 + g, 1285⟩
/-- CNV event SURVEY_HALT of converter group g (R604). -/
def evCNV_SURVEY_HALT (g : Nat) : EvId := ⟨64 + g, 1286⟩
/-- CNV event INPUT_DEAD of converter group g (R604). -/
def evCNV_INPUT_DEAD (g : Nat) : EvId := ⟨64 + g, 1287⟩
/-- CNV event SURVEY_DONE of converter group g (R604). -/
def evCNV_SURVEY_DONE (g : Nat) : EvId := ⟨64 + g, 1288⟩
/-- CNV event TRACK_ACQUIRED of converter group g (R604). -/
def evCNV_TRACK_ACQUIRED (g : Nat) : EvId := ⟨64 + g, 1289⟩
/-- CNV event TRACK_COAST of converter group g (R604). -/
def evCNV_TRACK_COAST (g : Nat) : EvId := ⟨64 + g, 1290⟩
/-- CNV event TRACK_LOST of converter group g (R604). -/
def evCNV_TRACK_LOST (g : Nat) : EvId := ⟨64 + g, 1291⟩
/-- CNV event LINK_DOWN of die d (R604). -/
def evCNV_LINK_DOWN (d : Nat) : EvId := ⟨88 + d, 1292⟩
/-- CHP event RESTART_DONE of slot s (R604). -/
def evCHP_RESTART_DONE (s : Nat) : EvId := ⟨120 + s / 64, 2048⟩
/-- CHP event SAT of slot s (R604). -/
def evCHP_SAT (s : Nat) : EvId := ⟨120 + s / 64, 2049⟩
/-- CHP event RSM_RANGE of slot s (R604). -/
def evCHP_RSM_RANGE (s : Nat) : EvId := ⟨120 + s / 64, 2050⟩
/-- CHP event SRC_GAP of slot s (R604). -/
def evCHP_SRC_GAP (s : Nat) : EvId := ⟨120 + s / 64, 2051⟩
/-- CHP event SRC_RESUMED of slot s (R604). -/
def evCHP_SRC_RESUMED (s : Nat) : EvId := ⟨120 + s / 64, 2052⟩
/-- CHP event COEF_IN_USE, on source 120 (R604). -/
def evCHP_COEF_IN_USE : EvId := ⟨120, 2053⟩
/-- CHP event COEF_LOCKED, on source 120 (R604). -/
def evCHP_COEF_LOCKED : EvId := ⟨120, 2054⟩
/-- ARB cause FORCED of class c (R407). -/
def evARB_FORCED (c : Nat) : EvId := ⟨180 + c, 3328⟩
/-- ARB cause WAIT_WARN of class c (R407). -/
def evARB_WAIT_WARN (c : Nat) : EvId := ⟨180 + c, 3329⟩
/-- ARB cause HOLD_CUT of class c (R407). -/
def evARB_HOLD_CUT (c : Nat) : EvId := ⟨180 + c, 3330⟩
/-- ARB cause CHECK_FAIL of class c (R407). -/
def evARB_CHECK_FAIL (c : Nat) : EvId := ⟨180 + c, 3331⟩
/-- ARB cause SAT of class c (R407). -/
def evARB_SAT (c : Nat) : EvId := ⟨180 + c, 3332⟩

end Sys2Proof.Machine
end

