-- ==== Sys2Proof/Config.lean ====
section
/-! DEFINITION. What one part fixes (R1 to R4), and the free values: constants without a body, of which nothing can
be proved, for every value the manual does not state. Each is named in the assumption log. -/
namespace Sys2Proof.Config

/-- The factory hub identifier as made (R439): a value of the one part. -/
opaque factoryHubIdRaw : Nat

/-- The factory hub identifier (R439): between 0x0000_0001 and 0xFFFF_FFFE. -/
def factoryHubId : Nat := factoryHubIdRaw % 0xFFFFFFFE + 1

/-- Domains awake after a power-on reset (R626). -/
def domainAwakeAtReset (d : Nat) : Bool :=
  (64 ≤ d && d ≤ 80) || (84 ≤ d && d ≤ 89) || (92 ≤ d && d ≤ 96)

/-- Spares of class c at power-on reset (R638), class 0 with every converter die fitted (`State.sparesLeft` takes those of the absent
dies off); class 2 counts every IDLE slot without a source (R640, R647). -/
def sparesLeft (c : Nat) : Nat :=
  match c with
  | 0 => 768 | 1 => 4 | 2 => 1024 | 3 => 40 | 4 => 128 | 5 => 32768 | 6 => 1 | 7 => 1 | 8 => 1 | 9 => 2
  | 10 => 205 | _ => 0

/-- The class of roundabout k (R391, R392): 0 MEM to 11 PGR. -/
def arbClass (k : Nat) : Nat :=
  if k ≤ 5 then 0 else if k = 6 then 1 else if k ≤ 8 then 2 else if k ≤ 48 then 3 else if k = 49 then 4
  else if k = 50 then 5 else if k = 51 then 6 else if k ≤ 63 then 7 else if k = 64 then 8 else if k = 65 then 9
  else if k = 66 then 10 else 11

/-- Requesters of a roundabout of class c (R391). -/
def arbReqs (c : Nat) : Nat :=
  match c with
  | 0 => 48 | 1 => 32 | 2 => 7 | 3 => 6 | 4 => 8 | 5 => 8 | 6 => 6 | 7 => 5 | 8 => 4 | 9 => 5 | 10 => 4 | _ => 3

/-- Lanes of a roundabout of class c (R391). -/
def arbLanes (c : Nat) : Nat := if c = 0 then 32 else if c = 1 then 64 else 1

/-- Whether the domain of roundabout k sleeps after a power-on reset (R406, R626). -/
def arbAsleepAtReset (k : Nat) : Bool := 9 ≤ k && k ≤ 48

/-- `ARB_STAT` at reset (R408): asleep, requesters, lanes and class of roundabout k. -/
def arbStatReset (k : Nat) : Nat :=
  (if arbAsleepAtReset k then 0x08000000 else 0) + arbReqs (arbClass k) * 65536 + arbLanes (arbClass k) * 256
    + arbClass k

/-- The factory contents of the trim pages (R282): page and word offset, made when the part is tested. -/
opaque factoryTrim : Nat → Nat → Nat

/-- The words of the Falarn image regions as made (R655): image (0 A, 1 B) and word. -/
opaque factoryImage : Nat → Nat → Nat

/-- The contents of the factory resampler sets RS0 and RS1 (R207): set, row, word. -/
opaque factoryRs : Nat → Nat → Nat → Nat

/-- The fixed coefficients of the delay interpolator (R180) before they are cut to 18 bits: fractional delay, tap; Q1.17. -/
opaque delayCoefRaw : Nat → Nat → Nat

/-- The fixed coefficients of the delay interpolator (R180): 18 bits, Q1.17. -/
def delayCoef (frac tap : Nat) : Int :=
  let v : Nat := delayCoefRaw frac tap % 2 ^ 18
  if v < 2 ^ 17 then (v : Int) else (v : Int) - 2 ^ 18

/-- The rounding of the mixer's cosine at a phase (R183), before its bound. -/
opaque mixCosErr : Nat → Int

/-- The rounding of the mixer's sine at a phase (R183), before its bound. -/
opaque mixSinErr : Nat → Int

/-- The error of the mixer's phase at a phase word (R184), before its bound. -/
opaque phaseErr : Nat → Int

/-- A free value for a result that the manual leaves open: the n-th one drawn (the counter stands in the state). -/
opaque freeValue : Nat → Nat

/-- A free signed value, drawn in the same way. -/
opaque freeInt : Nat → Int

end Sys2Proof.Config
end

