-- ==== Sys2Proof/Machine/Bits.lean ====
section
/-! DEFINITION. Bit fields, sign extension, saturating counters, rounding and byte order. -/
namespace Sys2Proof.Machine

/-- Bits hi:lo of a number. -/
def bits (v hi lo : Nat) : Nat := (v / 2 ^ lo) % 2 ^ (hi + 1 - lo)

/-- Bit `b` of a number. -/
def bit (v b : Nat) : Bool := decide ((v / 2 ^ b) % 2 = 1)

/-- One for true, zero for false. -/
def b2n (b : Bool) : Nat := if b then 1 else 0

/-- `v` with bits hi:lo replaced by the low bits of `x`. -/
def setBits (v hi lo x : Nat) : Nat :=
  v - bits v hi lo * 2 ^ lo + (x % 2 ^ (hi + 1 - lo)) * 2 ^ lo

/-- The signed reading of the low `n` bits of `v`, two's complement. -/
def sext (n v : Nat) : Int :=
  let u := v % 2 ^ n
  if u < 2 ^ (n - 1) then (u : Int) else (u : Int) - (2 ^ n : Nat)

/-- The low `n` bits of an integer's two's complement. -/
def toBits (n : Nat) (v : Int) : Nat := (v % (2 ^ n : Nat)).toNat

/-- A number as a register word. -/
def w32 (v : Nat) : Word := BitVec.ofNat 32 v

/-- Add to a counter that saturates at 2^n - 1 (R508, R536 and every saturating counter). -/
def satAdd (n a b : Nat) : Nat := min (a + b) (2 ^ n - 1)

/-- Divide and round to the nearest integer, ties rounded up (R23, R50). -/
def divRound (a : Int) (b : Nat) : Int := (2 * a + (b : Int)) / (2 * (b : Int))

/-- Divide and round up. -/
def ceilDiv (a b : Nat) : Nat := (a + b - 1) / b

/-- The four bytes of a word, the lowest address first (R502: little-endian). -/
def wordBytes (w : Word) : List Byte :=
  [BitVec.ofNat 8 w.toNat, BitVec.ofNat 8 (w.toNat / 256), BitVec.ofNat 8 (w.toNat / 65536),
    BitVec.ofNat 8 (w.toNat / 16777216)]

/-- The `n` bytes of a number, the lowest address first. -/
def leBytes : Nat → Nat → List Byte
  | 0, _ => []
  | n + 1, v => BitVec.ofNat 8 v :: leBytes n (v / 256)

/-- The number that bytes spell, the lowest address first. -/
def leNat : List Byte → Nat
  | [] => 0
  | b :: r => b.toNat + 256 * leNat r

/-- The `n` bytes of a number, the most significant first (network order). -/
def beBytes (n v : Nat) : List Byte := (leBytes n v).reverse

/-- The number that bytes spell, the most significant first. -/
def beNat (l : List Byte) : Nat := leNat l.reverse

/-- Split bytes into words, the last one padded with zero bytes. -/
def bytesWords : List Byte → List Word
  | [] => []
  | [a] => [w32 (leNat [a])]
  | [a, b] => [w32 (leNat [a, b])]
  | [a, b, c] => [w32 (leNat [a, b, c])]
  | a :: b :: c :: d :: r => w32 (leNat [a, b, c, d]) :: bytesWords r

/-- Words as bytes. -/
def wordsBytes (l : List Word) : List Byte := l.flatMap wordBytes

/-- The word of a list at index `i`; zero beyond its end. -/
def wordAt (l : List Word) (i : Nat) : Nat := (l.getD i 0#32).toNat

/-- Two words of a list as one 64-bit number, the low half first. -/
def wordAt64 (l : List Word) (i : Nat) : Nat := wordAt l i + 2 ^ 32 * wordAt l (i + 1)

/-- Signed saturation to `n` bits, with whether it clipped. -/
def satS (n : Nat) (v : Int) : Int × Bool :=
  let hi : Int := (2 ^ (n - 1) : Nat) - 1
  let lo : Int := -((2 ^ (n - 1) : Nat) : Int)
  if hi < v then (hi, true) else if v < lo then (lo, true) else (v, false)

/-- Round a signed quotient v / 2^sh to the nearest integer, ties to even. -/
def roundEven (v : Int) (sh : Nat) : Int :=
  if sh = 0 then v
  else
    let q := v / (2 ^ sh : Nat)
    let r := v % (2 ^ sh : Nat)
    let h : Int := (2 ^ (sh - 1) : Nat)
    if r < h then q else if h < r then q + 1 else if q % 2 = 0 then q else q + 1

/-- Round a signed quotient v / 2^sh to the nearest integer, ties towards plus infinity. -/
def roundUp (v : Int) (sh : Nat) : Int :=
  if sh = 0 then v else (v + (2 ^ (sh - 1) : Nat)) / (2 ^ sh : Nat)

/-- One step of CRC-32C over one bit of the reflected register. -/
def crcBit (c : Nat) : Nat :=
  if c % 2 = 1 then (c / 2) ^^^ 0x82F63B78 else c / 2

/-- CRC-32C over one byte. -/
def crcByte (c : Nat) (b : Byte) : Nat :=
  let x := c ^^^ b.toNat
  crcBit (crcBit (crcBit (crcBit (crcBit (crcBit (crcBit (crcBit x)))))))

/-- CRC-32C with the parameters of R281: polynomial 0x1EDC6F41 reflected, initial value and final XOR all ones. -/
def crc32c (l : List Byte) : Nat := (l.foldl crcByte 0xFFFFFFFF) ^^^ 0xFFFFFFFF

end Sys2Proof.Machine
end

