-- ==== Sys2Proof/Machine/Regs.lean ====
section
/-! DEFINITION. The register map: every register of BAR0 and BAR4 with its offset, replication, reset value and fields
(R498 and the register tables of the chapters, collected by R717). A register's key is its BAR0 byte offset; a register
held once per function adds 2^32 times the function, one reached through a selector (`QUE_SEL`, `GAZ_DSEL`) adds 2^32
times the queue or district, and BAR4 adds 0x2000_0000. -/
namespace Sys2Proof.Machine

/-- A register: its key and the value it reads at a power-on reset. -/
structure Reg where
  key : Nat
  reset : Nat
  deriving DecidableEq, Repr

/-- A field: its register and its bits hi:lo. -/
structure Fld where
  reg : Reg
  hi : Nat
  lo : Nat
  deriving DecidableEq, Repr

/-- Access codes as they act on a write (R12); `clr`: a write of any value clears the field; `set1`: a write of any
value sets every bit of the field; `rp`: a read pops (R505). -/
inductive Acc where
  | rw | ro | wo | w1c | sc | clr | set1 | rp
  deriving DecidableEq, Repr

/-- One field of the map: name, bits, access code, whether it is staged (R27), and its reserved encodings (R14). -/
structure FldRow where
  name : String
  hi : Nat
  lo : Nat
  acc : Acc
  staged : Bool := false
  rsv : List (Nat × Nat) := []

/-- One register family of the map: name, key of the first register, replication (count, stride), reset value by
index, fields, and whether it is the LO half of an LO/HI pair (R507). -/
structure RegRow where
  name : String
  base : Nat
  dims : List (Nat × Nat)
  reset : List Nat → Nat
  fields : List FldRow
  lo : Bool := false

/-- `SYS_IDENT` (R4). -/
def SYS_IDENT : Reg := ⟨0, 0x00012018⟩
/-- Field 31:16 of `SYS_IDENT`. -/
def SYS_IDENT_PART : Fld := ⟨SYS_IDENT, 31, 16⟩
/-- Field 15:8 of `SYS_IDENT`. -/
def SYS_IDENT_STEP : Fld := ⟨SYS_IDENT, 15, 8⟩
/-- Field 7:4 of `SYS_IDENT`. -/
def SYS_IDENT_LID : Fld := ⟨SYS_IDENT, 7, 4⟩
/-- Field 3:0 of `SYS_IDENT`. -/
def SYS_IDENT_CNVD : Fld := ⟨SYS_IDENT, 3, 0⟩
/-- `SYS_POLICY` (R41). -/
def SYS_POLICY : Reg := ⟨64, 0⟩
/-- Field 16:16 of `SYS_POLICY`. -/
def SYS_POLICY_ROUTE_SW : Fld := ⟨SYS_POLICY, 16, 16⟩
/-- Field 10:10 of `SYS_POLICY`. -/
def SYS_POLICY_SP_MRAM : Fld := ⟨SYS_POLICY, 10, 10⟩
/-- Field 9:9 of `SYS_POLICY`. -/
def SYS_POLICY_SP_TDC : Fld := ⟨SYS_POLICY, 9, 9⟩
/-- Field 8:8 of `SYS_POLICY`. -/
def SYS_POLICY_SP_CORE : Fld := ⟨SYS_POLICY, 8, 8⟩
/-- Field 7:7 of `SYS_POLICY`. -/
def SYS_POLICY_SP_PCV : Fld := ⟨SYS_POLICY, 7, 7⟩
/-- Field 6:6 of `SYS_POLICY`. -/
def SYS_POLICY_SP_BMAC : Fld := ⟨SYS_POLICY, 6, 6⟩
/-- Field 5:5 of `SYS_POLICY`. -/
def SYS_POLICY_SP_FAR : Fld := ⟨SYS_POLICY, 5, 5⟩
/-- Field 4:4 of `SYS_POLICY`. -/
def SYS_POLICY_SP_NEAR : Fld := ⟨SYS_POLICY, 4, 4⟩
/-- Field 3:3 of `SYS_POLICY`. -/
def SYS_POLICY_SP_LANE : Fld := ⟨SYS_POLICY, 3, 3⟩
/-- Field 2:2 of `SYS_POLICY`. -/
def SYS_POLICY_SP_SLOT : Fld := ⟨SYS_POLICY, 2, 2⟩
/-- Field 1:1 of `SYS_POLICY`. -/
def SYS_POLICY_SP_ENG : Fld := ⟨SYS_POLICY, 1, 1⟩
/-- Field 0:0 of `SYS_POLICY`. -/
def SYS_POLICY_SP_SLICE : Fld := ⟨SYS_POLICY, 0, 0⟩
/-- `SYS_HUB_ID` (R439). -/
def SYS_HUB_ID : Reg := ⟨68, Config.factoryHubId⟩
/-- Field 31:0 of `SYS_HUB_ID`. -/
def SYS_HUB_ID_ID : Fld := ⟨SYS_HUB_ID, 31, 0⟩
/-- `SYS_POST_STALL` (R390). -/
def SYS_POST_STALL : Reg := ⟨128, 20⟩
/-- Field 15:0 of `SYS_POST_STALL`. -/
def SYS_POST_STALL_LIMIT : Fld := ⟨SYS_POST_STALL, 15, 0⟩
/-- `SYS_ACC_CNT` (R509). -/
def SYS_ACC_CNT (i : Nat) : Reg := ⟨256 + 0x100000000 * i, 0⟩
/-- Field 31:0 of `SYS_ACC_CNT`. -/
def SYS_ACC_CNT_COUNT (i : Nat) : Fld := ⟨SYS_ACC_CNT i, 31, 0⟩
/-- `SYS_ACC_LAST` (R509). -/
def SYS_ACC_LAST (i : Nat) : Reg := ⟨260 + 0x100000000 * i, 0⟩
/-- Field 31:31 of `SYS_ACC_LAST`. -/
def SYS_ACC_LAST_WRITE (i : Nat) : Fld := ⟨SYS_ACC_LAST i, 31, 31⟩
/-- Field 30:30 of `SYS_ACC_LAST`. -/
def SYS_ACC_LAST_WIDTH (i : Nat) : Fld := ⟨SYS_ACC_LAST i, 30, 30⟩
/-- Field 29:28 of `SYS_ACC_LAST`. -/
def SYS_ACC_LAST_BAR (i : Nat) : Fld := ⟨SYS_ACC_LAST i, 29, 28⟩
/-- Field 25:0 of `SYS_ACC_LAST`. -/
def SYS_ACC_LAST_OFFSET (i : Nat) : Fld := ⟨SYS_ACC_LAST i, 25, 0⟩
/-- `SYS_TWIN` (R500). -/
def SYS_TWIN (i j : Nat) : Reg := ⟨272 + 0x100000000 * i + 4 * j, 0⟩
/-- Field 31:28 of `SYS_TWIN`. -/
def SYS_TWIN_TABLE (i j : Nat) : Fld := ⟨SYS_TWIN i j, 31, 28⟩
/-- Field 7:0 of `SYS_TWIN`. -/
def SYS_TWIN_BASE (i j : Nat) : Fld := ⟨SYS_TWIN i j, 7, 0⟩
/-- `SYS_PTM_CTL` (R510). -/
def SYS_PTM_CTL : Reg := ⟨288, 0⟩
/-- Field 31:31 of `SYS_PTM_CTL`. -/
def SYS_PTM_CTL_EN : Fld := ⟨SYS_PTM_CTL, 31, 31⟩
/-- Field 30:30 of `SYS_PTM_CTL`. -/
def SYS_PTM_CTL_START : Fld := ⟨SYS_PTM_CTL, 30, 30⟩
/-- Field 15:0 of `SYS_PTM_CTL`. -/
def SYS_PTM_CTL_PERIOD : Fld := ⟨SYS_PTM_CTL, 15, 0⟩
/-- `SYS_PTM_SEQ` (R510). -/
def SYS_PTM_SEQ : Reg := ⟨292, 0⟩
/-- Field 31:16 of `SYS_PTM_SEQ`. -/
def SYS_PTM_SEQ_SEQ : Fld := ⟨SYS_PTM_SEQ, 31, 16⟩
/-- Field 15:8 of `SYS_PTM_SEQ`. -/
def SYS_PTM_SEQ_FAIL : Fld := ⟨SYS_PTM_SEQ, 15, 8⟩
/-- Field 1:0 of `SYS_PTM_SEQ`. -/
def SYS_PTM_SEQ_STATE : Fld := ⟨SYS_PTM_SEQ, 1, 0⟩
/-- `SYS_PTM_HOST_LO` (R510). -/
def SYS_PTM_HOST_LO : Reg := ⟨296, 0⟩
/-- Field 31:0 of `SYS_PTM_HOST_LO`. -/
def SYS_PTM_HOST_LO_V : Fld := ⟨SYS_PTM_HOST_LO, 31, 0⟩
/-- `SYS_PTM_HOST_HI` (R510). -/
def SYS_PTM_HOST_HI : Reg := ⟨300, 0⟩
/-- Field 31:0 of `SYS_PTM_HOST_HI`. -/
def SYS_PTM_HOST_HI_V : Fld := ⟨SYS_PTM_HOST_HI, 31, 0⟩
/-- `SYS_PTM_MT_FRAC` (R510). -/
def SYS_PTM_MT_FRAC : Reg := ⟨304, 0⟩
/-- Field 15:0 of `SYS_PTM_MT_FRAC`. -/
def SYS_PTM_MT_FRAC_V : Fld := ⟨SYS_PTM_MT_FRAC, 15, 0⟩
/-- `SYS_PTM_MT_NS` (R510). -/
def SYS_PTM_MT_NS : Reg := ⟨308, 0⟩
/-- Field 31:0 of `SYS_PTM_MT_NS`. -/
def SYS_PTM_MT_NS_V : Fld := ⟨SYS_PTM_MT_NS, 31, 0⟩
/-- `SYS_PTM_MT_SEC_LO` (R510). -/
def SYS_PTM_MT_SEC_LO : Reg := ⟨312, 0⟩
/-- Field 31:0 of `SYS_PTM_MT_SEC_LO`. -/
def SYS_PTM_MT_SEC_LO_V : Fld := ⟨SYS_PTM_MT_SEC_LO, 31, 0⟩
/-- `SYS_PTM_MT_SEC_HI` (R510). -/
def SYS_PTM_MT_SEC_HI : Reg := ⟨316, 0⟩
/-- Field 15:0 of `SYS_PTM_MT_SEC_HI`. -/
def SYS_PTM_MT_SEC_HI_V : Fld := ⟨SYS_PTM_MT_SEC_HI, 15, 0⟩
/-- `SYS_PTM_DLY` (R510). -/
def SYS_PTM_DLY : Reg := ⟨320, 0⟩
/-- Field 31:0 of `SYS_PTM_DLY`. -/
def SYS_PTM_DLY_V : Fld := ⟨SYS_PTM_DLY, 31, 0⟩
/-- `SYS_RST_CTL` (R664). -/
def SYS_RST_CTL : Reg := ⟨512, 0⟩
/-- Field 31:31 of `SYS_RST_CTL`. -/
def SYS_RST_CTL_WARM : Fld := ⟨SYS_RST_CTL, 31, 31⟩
/-- Field 30:30 of `SYS_RST_CTL`. -/
def SYS_RST_CTL_FW : Fld := ⟨SYS_RST_CTL, 30, 30⟩
/-- Field 15:0 of `SYS_RST_CTL`. -/
def SYS_RST_CTL_KEY : Fld := ⟨SYS_RST_CTL, 15, 0⟩
/-- `SYS_START` (R664). -/
def SYS_START : Reg := ⟨516, 0⟩
/-- Field 31:31 of `SYS_START`. -/
def SYS_START_READY : Fld := ⟨SYS_START, 31, 31⟩
/-- Field 30:30 of `SYS_START`. -/
def SYS_START_SUPPLY : Fld := ⟨SYS_START, 30, 30⟩
/-- Field 29:24 of `SYS_START`. -/
def SYS_START_MEM_FAIL : Fld := ⟨SYS_START, 29, 24⟩
/-- Field 23:20 of `SYS_START`. -/
def SYS_START_LD_FAIL : Fld := ⟨SYS_START, 23, 20⟩
/-- Field 19:12 of `SYS_START`. -/
def SYS_START_CD_FAIL : Fld := ⟨SYS_START, 19, 12⟩
/-- Field 11:11 of `SYS_START`. -/
def SYS_START_WARM_ACT : Fld := ⟨SYS_START, 11, 11⟩
/-- `SYS_BOOT` (R664). -/
def SYS_BOOT : Reg := ⟨520, 0⟩
/-- Field 31:30 of `SYS_BOOT`. -/
def SYS_BOOT_RUN : Fld := ⟨SYS_BOOT, 31, 30⟩
/-- Field 29:29 of `SYS_BOOT`. -/
def SYS_BOOT_A_OK : Fld := ⟨SYS_BOOT, 29, 29⟩
/-- Field 28:28 of `SYS_BOOT`. -/
def SYS_BOOT_B_OK : Fld := ⟨SYS_BOOT, 28, 28⟩
/-- Field 27:26 of `SYS_BOOT`. -/
def SYS_BOOT_PREFER : Fld := ⟨SYS_BOOT, 27, 26⟩
/-- Field 25:24 of `SYS_BOOT`. -/
def SYS_BOOT_FW : Fld := ⟨SYS_BOOT, 25, 24⟩
/-- `SYS_FW_VER` (R664). -/
def SYS_FW_VER : Reg := ⟨524, 0⟩
/-- Field 31:0 of `SYS_FW_VER`. -/
def SYS_FW_VER_V : Fld := ⟨SYS_FW_VER, 31, 0⟩
/-- `SYS_IMG_CTL` (R664). -/
def SYS_IMG_CTL : Reg := ⟨528, 0⟩
/-- Field 31:31 of `SYS_IMG_CTL`. -/
def SYS_IMG_CTL_VERIFY : Fld := ⟨SYS_IMG_CTL, 31, 31⟩
/-- Field 8:8 of `SYS_IMG_CTL`. -/
def SYS_IMG_CTL_TGT : Fld := ⟨SYS_IMG_CTL, 8, 8⟩
/-- Field 6:0 of `SYS_IMG_CTL`. -/
def SYS_IMG_CTL_PAGE : Fld := ⟨SYS_IMG_CTL, 6, 0⟩
/-- `SYS_RST_CAUSE` (R664). -/
def SYS_RST_CAUSE : Reg := ⟨532, 0⟩
/-- Field 31:29 of `SYS_RST_CAUSE`. -/
def SYS_RST_CAUSE_CAUSE : Fld := ⟨SYS_RST_CAUSE, 31, 29⟩
/-- Field 15:0 of `SYS_RST_CAUSE`. -/
def SYS_RST_CAUSE_WARMS : Fld := ⟨SYS_RST_CAUSE, 15, 0⟩
/-- `SYS_GRID_CTL` (R718). -/
def SYS_GRID_CTL (i : Nat) : Reg := ⟨1024 + 64 * i, 0⟩
/-- Field 31:31 of `SYS_GRID_CTL`. -/
def SYS_GRID_CTL_VALID (i : Nat) : Fld := ⟨SYS_GRID_CTL i, 31, 31⟩
/-- Field 28:24 of `SYS_GRID_CTL`. -/
def SYS_GRID_CTL_FRAME_LOG2 (i : Nat) : Fld := ⟨SYS_GRID_CTL i, 28, 24⟩
/-- Field 15:0 of `SYS_GRID_CTL`. -/
def SYS_GRID_CTL_GEN (i : Nat) : Fld := ⟨SYS_GRID_CTL i, 15, 0⟩
/-- `SYS_GRID_EP_FRAC` (R718). -/
def SYS_GRID_EP_FRAC (i : Nat) : Reg := ⟨1028 + 64 * i, 0⟩
/-- Field 15:0 of `SYS_GRID_EP_FRAC`. -/
def SYS_GRID_EP_FRAC_V (i : Nat) : Fld := ⟨SYS_GRID_EP_FRAC i, 15, 0⟩
/-- `SYS_GRID_EP_NS` (R718). -/
def SYS_GRID_EP_NS (i : Nat) : Reg := ⟨1032 + 64 * i, 0⟩
/-- Field 31:0 of `SYS_GRID_EP_NS`. -/
def SYS_GRID_EP_NS_V (i : Nat) : Fld := ⟨SYS_GRID_EP_NS i, 31, 0⟩
/-- `SYS_GRID_EP_SEC_LO` (R718). -/
def SYS_GRID_EP_SEC_LO (i : Nat) : Reg := ⟨1036 + 64 * i, 0⟩
/-- Field 31:0 of `SYS_GRID_EP_SEC_LO`. -/
def SYS_GRID_EP_SEC_LO_V (i : Nat) : Fld := ⟨SYS_GRID_EP_SEC_LO i, 31, 0⟩
/-- `SYS_GRID_EP_SEC_HI` (R718). -/
def SYS_GRID_EP_SEC_HI (i : Nat) : Reg := ⟨1040 + 64 * i, 0⟩
/-- Field 15:0 of `SYS_GRID_EP_SEC_HI`. -/
def SYS_GRID_EP_SEC_HI_V (i : Nat) : Fld := ⟨SYS_GRID_EP_SEC_HI i, 15, 0⟩
/-- `SYS_GRID_NUM_LO` (R718). -/
def SYS_GRID_NUM_LO (i : Nat) : Reg := ⟨1044 + 64 * i, 0⟩
/-- Field 31:0 of `SYS_GRID_NUM_LO`. -/
def SYS_GRID_NUM_LO_V (i : Nat) : Fld := ⟨SYS_GRID_NUM_LO i, 31, 0⟩
/-- `SYS_GRID_NUM_HI` (R718). -/
def SYS_GRID_NUM_HI (i : Nat) : Reg := ⟨1048 + 64 * i, 0⟩
/-- Field 31:0 of `SYS_GRID_NUM_HI`. -/
def SYS_GRID_NUM_HI_V (i : Nat) : Fld := ⟨SYS_GRID_NUM_HI i, 31, 0⟩
/-- `SYS_GRID_DEN` (R718). -/
def SYS_GRID_DEN (i : Nat) : Reg := ⟨1052 + 64 * i, 0⟩
/-- Field 31:0 of `SYS_GRID_DEN`. -/
def SYS_GRID_DEN_V (i : Nat) : Fld := ⟨SYS_GRID_DEN i, 31, 0⟩
/-- `SYS_GRID_BOUND` (R718). -/
def SYS_GRID_BOUND (i : Nat) : Reg := ⟨1056 + 64 * i, 0⟩
/-- Field 15:0 of `SYS_GRID_BOUND`. -/
def SYS_GRID_BOUND_V (i : Nat) : Fld := ⟨SYS_GRID_BOUND i, 15, 0⟩
/-- `SYS_PQ_CTL` (R390). -/
def SYS_PQ_CTL (i : Nat) : Reg := ⟨0x2000 + 16 * i, (if i = 32 then 0x60000000 else if i ≤ 15 then 0x20000000 else 0)⟩
/-- Field 31:31 of `SYS_PQ_CTL`. -/
def SYS_PQ_CTL_FLUSH (i : Nat) : Fld := ⟨SYS_PQ_CTL i, 31, 31⟩
/-- Field 30:30 of `SYS_PQ_CTL`. -/
def SYS_PQ_CTL_ORDER (i : Nat) : Fld := ⟨SYS_PQ_CTL i, 30, 30⟩
/-- Field 29:29 of `SYS_PQ_CTL`. -/
def SYS_PQ_CTL_POLICY (i : Nat) : Fld := ⟨SYS_PQ_CTL i, 29, 29⟩
/-- `SYS_PQ_STAT` (R390). -/
def SYS_PQ_STAT (i : Nat) : Reg := ⟨0x2004 + 16 * i, (if i ≤ 15 ∨ i = 32 then 64 * 65536 else if i ≤ 31 then 1024 * 65536 else 256 * 65536)⟩
/-- Field 31:31 of `SYS_PQ_STAT`. -/
def SYS_PQ_STAT_OVF (i : Nat) : Fld := ⟨SYS_PQ_STAT i, 31, 31⟩
/-- Field 30:30 of `SYS_PQ_STAT`. -/
def SYS_PQ_STAT_PART_SEEN (i : Nat) : Fld := ⟨SYS_PQ_STAT i, 30, 30⟩
/-- Field 27:16 of `SYS_PQ_STAT`. -/
def SYS_PQ_STAT_DEPTH (i : Nat) : Fld := ⟨SYS_PQ_STAT i, 27, 16⟩
/-- Field 15:0 of `SYS_PQ_STAT`. -/
def SYS_PQ_STAT_LEVEL (i : Nat) : Fld := ⟨SYS_PQ_STAT i, 15, 0⟩
/-- `SYS_PQ_LOST` (R390). -/
def SYS_PQ_LOST (i : Nat) : Reg := ⟨0x2008 + 16 * i, 0⟩
/-- Field 31:0 of `SYS_PQ_LOST`. -/
def SYS_PQ_LOST_V (i : Nat) : Fld := ⟨SYS_PQ_LOST i, 31, 0⟩
/-- `SYS_PQ_FLUSHCNT` (R390). -/
def SYS_PQ_FLUSHCNT (i : Nat) : Reg := ⟨0x200c + 16 * i, 0⟩
/-- Field 31:0 of `SYS_PQ_FLUSHCNT`. -/
def SYS_PQ_FLUSHCNT_V (i : Nat) : Fld := ⟨SYS_PQ_FLUSHCNT i, 31, 0⟩
/-- `SYS_PQ_MON_CFG` (R390). -/
def SYS_PQ_MON_CFG (i : Nat) : Reg := ⟨0x3000 + 32 * i, 0⟩
/-- Field 31:31 of `SYS_PQ_MON_CFG`. -/
def SYS_PQ_MON_CFG_EN (i : Nat) : Fld := ⟨SYS_PQ_MON_CFG i, 31, 31⟩
/-- Field 23:0 of `SYS_PQ_MON_CFG`. -/
def SYS_PQ_MON_CFG_PERIOD (i : Nat) : Fld := ⟨SYS_PQ_MON_CFG i, 23, 0⟩
/-- `SYS_PQ_MON_SRC` (R390). -/
def SYS_PQ_MON_SRC (i j : Nat) : Reg := ⟨0x3004 + 32 * i + 4 * j, 0⟩
/-- Field 31:31 of `SYS_PQ_MON_SRC`. -/
def SYS_PQ_MON_SRC_VALID (i j : Nat) : Fld := ⟨SYS_PQ_MON_SRC i j, 31, 31⟩
/-- Field 25:2 of `SYS_PQ_MON_SRC`. -/
def SYS_PQ_MON_SRC_WOFF (i j : Nat) : Fld := ⟨SYS_PQ_MON_SRC i j, 25, 2⟩
/-- `SYS_PQ_MON_W` (R390). -/
def SYS_PQ_MON_W (i j : Nat) : Reg := ⟨0x6000 + 32 * i + 4 * j, (if j = 0 then 0x80000000 else 0)⟩
/-- Field 31:0 of `SYS_PQ_MON_W`. -/
def SYS_PQ_MON_W_V (i j : Nat) : Fld := ⟨SYS_PQ_MON_W i j, 31, 0⟩
/-- `PWR_STAT` (R647). -/
def PWR_STAT : Reg := ⟨0x10000, 0⟩
/-- Field 3:3 of `PWR_STAT`. -/
def PWR_STAT_EXHAUST_SEEN : Fld := ⟨PWR_STAT, 3, 3⟩
/-- Field 2:2 of `PWR_STAT`. -/
def PWR_STAT_WEAR_SEEN : Fld := ⟨PWR_STAT, 2, 2⟩
/-- Field 1:1 of `PWR_STAT`. -/
def PWR_STAT_WAKE_FAIL_SEEN : Fld := ⟨PWR_STAT, 1, 1⟩
/-- Field 0:0 of `PWR_STAT`. -/
def PWR_STAT_DRAIN_FAIL_SEEN : Fld := ⟨PWR_STAT, 0, 0⟩
/-- `PWR_DOM` (R647). -/
def PWR_DOM (i : Nat) : Reg := ⟨0x10100 + 4 * i, (if Config.domainAwakeAtReset i then 0 else 0x02000000)⟩
/-- Field 31:31 of `PWR_DOM`. -/
def PWR_DOM_DOWN (i : Nat) : Fld := ⟨PWR_DOM i, 31, 31⟩
/-- Field 30:30 of `PWR_DOM`. -/
def PWR_DOM_UP (i : Nat) : Fld := ⟨PWR_DOM i, 30, 30⟩
/-- Field 29:29 of `PWR_DOM`. -/
def PWR_DOM_REFUSE (i : Nat) : Fld := ⟨PWR_DOM i, 29, 29⟩
/-- Field 25:24 of `PWR_DOM`. -/
def PWR_DOM_STATE (i : Nat) : Fld := ⟨PWR_DOM i, 25, 24⟩
/-- Field 23:16 of `PWR_DOM`. -/
def PWR_DOM_CODE (i : Nat) : Fld := ⟨PWR_DOM i, 23, 16⟩
/-- `PWR_DOM_REF` (R647). -/
def PWR_DOM_REF (i : Nat) : Reg := ⟨0x10300 + 4 * i, 0⟩
/-- Field 31:0 of `PWR_DOM_REF`. -/
def PWR_DOM_REF_V (i : Nat) : Fld := ⟨PWR_DOM_REF i, 31, 0⟩
/-- `PWR_SPARE` (R647). -/
def PWR_SPARE (i : Nat) : Reg := ⟨0x10600 + 4 * i, (Config.sparesLeft i)⟩
/-- Field 31:16 of `PWR_SPARE`. -/
def PWR_SPARE_USED (i : Nat) : Fld := ⟨PWR_SPARE i, 31, 16⟩
/-- Field 15:0 of `PWR_SPARE`. -/
def PWR_SPARE_LEFT (i : Nat) : Fld := ⟨PWR_SPARE i, 15, 0⟩
/-- `PWR_SPARE_WARN` (R647). -/
def PWR_SPARE_WARN (i : Nat) : Reg := ⟨0x10680 + 4 * i, (if i = 0 ∨ i = 2 then 0 else if i = 3 ∨ i = 4 then 8 else if i = 5 then 1024 else if i = 10 then 10 else 1)⟩
/-- Field 15:0 of `PWR_SPARE_WARN`. -/
def PWR_SPARE_WARN_V (i : Nat) : Fld := ⟨PWR_SPARE_WARN i, 15, 0⟩
/-- `PWR_ENG` (R647). -/
def PWR_ENG (i : Nat) : Reg := ⟨0x10800 + 4 * i, (if i < 64 then i * 16777216 else 0x7F000000)⟩
/-- Field 31:30 of `PWR_ENG`. -/
def PWR_ENG_STATE (i : Nat) : Fld := ⟨PWR_ENG i, 31, 30⟩
/-- Field 29:24 of `PWR_ENG`. -/
def PWR_ENG_LOGICAL (i : Nat) : Fld := ⟨PWR_ENG i, 29, 24⟩
/-- Field 15:0 of `PWR_ENG`. -/
def PWR_ENG_CORR (i : Nat) : Fld := ⟨PWR_ENG i, 15, 0⟩
/-- `PWR_CORE` (R647). -/
def PWR_CORE (i : Nat) : Reg := ⟨0x10a00 + 4 * i, (if i = 4 then 0x40000000 else 0)⟩
/-- Field 31:30 of `PWR_CORE`. -/
def PWR_CORE_STATE (i : Nat) : Fld := ⟨PWR_CORE i, 31, 30⟩
/-- Field 15:0 of `PWR_CORE`. -/
def PWR_CORE_WDOG (i : Nat) : Fld := ⟨PWR_CORE i, 15, 0⟩
/-- `PWR_MRAM` (R647). -/
def PWR_MRAM : Reg := ⟨0x10a80, 0⟩
/-- Field 31:0 of `PWR_MRAM`. -/
def PWR_MRAM_V : Fld := ⟨PWR_MRAM, 31, 0⟩
/-- `CLK_STAT` (R720). -/
def CLK_STAT : Reg := ⟨0x20000, 0⟩
/-- Field 31:31 of `CLK_STAT`. -/
def CLK_STAT_XO_OK : Fld := ⟨CLK_STAT, 31, 31⟩
/-- Field 30:30 of `CLK_STAT`. -/
def CLK_STAT_CORE_LOCK : Fld := ⟨CLK_STAT, 30, 30⟩
/-- Field 29:29 of `CLK_STAT`. -/
def CLK_STAT_CTRL_LOCK : Fld := ⟨CLK_STAT, 29, 29⟩
/-- Field 28:28 of `CLK_STAT`. -/
def CLK_STAT_REFCLK_OK : Fld := ⟨CLK_STAT, 28, 28⟩
/-- Field 27:27 of `CLK_STAT`. -/
def CLK_STAT_REFCLK_IN_RANGE : Fld := ⟨CLK_STAT, 27, 27⟩
/-- Field 26:26 of `CLK_STAT`. -/
def CLK_STAT_PCIE_REFCLK_OK : Fld := ⟨CLK_STAT, 26, 26⟩
/-- Field 25:20 of `CLK_STAT`. -/
def CLK_STAT_STACK_LOCK : Fld := ⟨CLK_STAT, 25, 20⟩
/-- Field 19:16 of `CLK_STAT`. -/
def CLK_STAT_LANE_LOCK : Fld := ⟨CLK_STAT, 19, 16⟩
/-- Field 7:7 of `CLK_STAT`. -/
def CLK_STAT_STACK_UNLOCK_SEEN : Fld := ⟨CLK_STAT, 7, 7⟩
/-- Field 6:6 of `CLK_STAT`. -/
def CLK_STAT_LANE_UNLOCK_SEEN : Fld := ⟨CLK_STAT, 6, 6⟩
/-- Field 5:5 of `CLK_STAT`. -/
def CLK_STAT_PCIE_REFCLK_LOST_SEEN : Fld := ⟨CLK_STAT, 5, 5⟩
/-- Field 4:4 of `CLK_STAT`. -/
def CLK_STAT_RANGE_SEEN : Fld := ⟨CLK_STAT, 4, 4⟩
/-- Field 3:3 of `CLK_STAT`. -/
def CLK_STAT_REFCLK_LOST_SEEN : Fld := ⟨CLK_STAT, 3, 3⟩
/-- Field 2:2 of `CLK_STAT`. -/
def CLK_STAT_CTRL_UNLOCK_SEEN : Fld := ⟨CLK_STAT, 2, 2⟩
/-- Field 1:1 of `CLK_STAT`. -/
def CLK_STAT_CORE_UNLOCK_SEEN : Fld := ⟨CLK_STAT, 1, 1⟩
/-- Field 0:0 of `CLK_STAT`. -/
def CLK_STAT_XO_FAIL_SEEN : Fld := ⟨CLK_STAT, 0, 0⟩
/-- `CLK_REFCLK_DEV` (R720). -/
def CLK_REFCLK_DEV : Reg := ⟨0x20004, 0x80000000⟩
/-- Field 31:0 of `CLK_REFCLK_DEV`. -/
def CLK_REFCLK_DEV_V : Fld := ⟨CLK_REFCLK_DEV, 31, 0⟩
/-- `CLK_XO_LOAD` (R720). -/
def CLK_XO_LOAD : Reg := ⟨0x20008, 128⟩
/-- Field 7:0 of `CLK_XO_LOAD`. -/
def CLK_XO_LOAD_V : Fld := ⟨CLK_XO_LOAD, 7, 0⟩
/-- `CLK_UNLOCKS` (R720). -/
def CLK_UNLOCKS : Reg := ⟨0x2000c, 0⟩
/-- Field 31:0 of `CLK_UNLOCKS`. -/
def CLK_UNLOCKS_V : Fld := ⟨CLK_UNLOCKS, 31, 0⟩
/-- `TB_STATUS` (R82). -/
def TB_STATUS : Reg := ⟨0x30000, 0⟩
/-- Field 23:16 of `TB_STATUS`. -/
def TB_STATUS_SPX_SHEET : Fld := ⟨TB_STATUS, 23, 16⟩
/-- Field 14:14 of `TB_STATUS`. -/
def TB_STATUS_TXTS_OVF : Fld := ⟨TB_STATUS, 14, 14⟩
/-- Field 13:13 of `TB_STATUS`. -/
def TB_STATUS_COARSE_SEEN : Fld := ⟨TB_STATUS, 13, 13⟩
/-- Field 12:12 of `TB_STATUS`. -/
def TB_STATUS_HOLD_LIMIT : Fld := ⟨TB_STATUS, 12, 12⟩
/-- Field 11:11 of `TB_STATUS`. -/
def TB_STATUS_COARSE : Fld := ⟨TB_STATUS, 11, 11⟩
/-- Field 10:10 of `TB_STATUS`. -/
def TB_STATUS_SLEWING : Fld := ⟨TB_STATUS, 10, 10⟩
/-- Field 9:9 of `TB_STATUS`. -/
def TB_STATUS_PPS_OK : Fld := ⟨TB_STATUS, 9, 9⟩
/-- Field 8:8 of `TB_STATUS`. -/
def TB_STATUS_REF10M_OK : Fld := ⟨TB_STATUS, 8, 8⟩
/-- Field 4:2 of `TB_STATUS`. -/
def TB_STATUS_SRC_ACT : Fld := ⟨TB_STATUS, 4, 2⟩
/-- Field 1:0 of `TB_STATUS`. -/
def TB_STATUS_STATE : Fld := ⟨TB_STATUS, 1, 0⟩
/-- `TB_DISC` (R82). -/
def TB_DISC : Reg := ⟨0x30004, (4000 * 65536)⟩
/-- Field 31:16 of `TB_DISC`. -/
def TB_DISC_HOST_TIMEOUT : Fld := ⟨TB_DISC, 31, 16⟩
/-- Field 15:15 of `TB_DISC`. -/
def TB_DISC_SRC_CHANGE : Fld := ⟨TB_DISC, 15, 15⟩
/-- Field 13:8 of `TB_DISC`. -/
def TB_DISC_SHEET : Fld := ⟨TB_DISC, 13, 8⟩
/-- Field 2:0 of `TB_DISC`. -/
def TB_DISC_SRC : Fld := ⟨TB_DISC, 2, 0⟩
/-- `TB_QUAL` (R82). -/
def TB_QUAL : Reg := ⟨0x30008, (20000 * 65536 + 10 * 256 + 8)⟩
/-- Field 31:16 of `TB_QUAL`. -/
def TB_QUAL_WINDOW : Fld := ⟨TB_QUAL, 31, 16⟩
/-- Field 15:8 of `TB_QUAL`. -/
def TB_QUAL_SLEW_MAX : Fld := ⟨TB_QUAL, 15, 8⟩
/-- Field 7:0 of `TB_QUAL`. -/
def TB_QUAL_COUNT : Fld := ⟨TB_QUAL, 7, 0⟩
/-- `TB_HOLD_LIMIT` (R82). -/
def TB_HOLD_LIMIT : Reg := ⟨0x3000c, 0⟩
/-- Field 31:0 of `TB_HOLD_LIMIT`. -/
def TB_HOLD_LIMIT_V : Fld := ⟨TB_HOLD_LIMIT, 31, 0⟩
/-- `TB_NOW_FRAC` (R55). -/
def TB_NOW_FRAC (i : Nat) : Reg := ⟨0x30010 + 0x100000000 * i, 0⟩
/-- Field 15:0 of `TB_NOW_FRAC`. -/
def TB_NOW_FRAC_V (i : Nat) : Fld := ⟨TB_NOW_FRAC i, 15, 0⟩
/-- `TB_NOW_NS` (R55). -/
def TB_NOW_NS (i : Nat) : Reg := ⟨0x30014 + 0x100000000 * i, 0⟩
/-- Field 31:0 of `TB_NOW_NS`. -/
def TB_NOW_NS_V (i : Nat) : Fld := ⟨TB_NOW_NS i, 31, 0⟩
/-- `TB_NOW_SEC_LO` (R55). -/
def TB_NOW_SEC_LO (i : Nat) : Reg := ⟨0x30018 + 0x100000000 * i, 0⟩
/-- Field 31:0 of `TB_NOW_SEC_LO`. -/
def TB_NOW_SEC_LO_V (i : Nat) : Fld := ⟨TB_NOW_SEC_LO i, 31, 0⟩
/-- `TB_NOW_SEC_HI` (R55). -/
def TB_NOW_SEC_HI (i : Nat) : Reg := ⟨0x3001c + 0x100000000 * i, 0⟩
/-- Field 17:16 of `TB_NOW_SEC_HI`. -/
def TB_NOW_SEC_HI_STATE (i : Nat) : Fld := ⟨TB_NOW_SEC_HI i, 17, 16⟩
/-- Field 15:0 of `TB_NOW_SEC_HI`. -/
def TB_NOW_SEC_HI_V (i : Nat) : Fld := ⟨TB_NOW_SEC_HI i, 15, 0⟩
/-- `TB_NOW_FC_LO` (R55). -/
def TB_NOW_FC_LO (i : Nat) : Reg := ⟨0x30020 + 0x100000000 * i, 0⟩
/-- Field 31:0 of `TB_NOW_FC_LO`. -/
def TB_NOW_FC_LO_V (i : Nat) : Fld := ⟨TB_NOW_FC_LO i, 31, 0⟩
/-- `TB_NOW_FC_HI` (R55). -/
def TB_NOW_FC_HI (i : Nat) : Reg := ⟨0x30024 + 0x100000000 * i, 0⟩
/-- Field 31:0 of `TB_NOW_FC_HI`. -/
def TB_NOW_FC_HI_V (i : Nat) : Fld := ⟨TB_NOW_FC_HI i, 31, 0⟩
/-- `TB_HOLD_LO` (R73). -/
def TB_HOLD_LO : Reg := ⟨0x30028, 0⟩
/-- Field 31:0 of `TB_HOLD_LO`. -/
def TB_HOLD_LO_V : Fld := ⟨TB_HOLD_LO, 31, 0⟩
/-- `TB_HOLD_HI` (R73). -/
def TB_HOLD_HI : Reg := ⟨0x3002c, 0⟩
/-- Field 31:0 of `TB_HOLD_HI`. -/
def TB_HOLD_HI_V : Fld := ⟨TB_HOLD_HI, 31, 0⟩
/-- `TB_RATE_LO` (R120). -/
def TB_RATE_LO : Reg := ⟨0x30030, 0⟩
/-- Field 31:0 of `TB_RATE_LO`. -/
def TB_RATE_LO_V : Fld := ⟨TB_RATE_LO, 31, 0⟩
/-- `TB_RATE_HI` (R120). -/
def TB_RATE_HI : Reg := ⟨0x30034, 0⟩
/-- Field 31:0 of `TB_RATE_HI`. -/
def TB_RATE_HI_V : Fld := ⟨TB_RATE_HI, 31, 0⟩
/-- `TB_AGE` (R120). -/
def TB_AGE : Reg := ⟨0x30038, 0⟩
/-- Field 31:0 of `TB_AGE`. -/
def TB_AGE_V : Fld := ⟨TB_AGE, 31, 0⟩
/-- `TB_PPS_DELAY` (R120). -/
def TB_PPS_DELAY : Reg := ⟨0x3003c, 0⟩
/-- Field 31:0 of `TB_PPS_DELAY`. -/
def TB_PPS_DELAY_V : Fld := ⟨TB_PPS_DELAY, 31, 0⟩
/-- `TB_ADJ_RATE_LO` (R120). -/
def TB_ADJ_RATE_LO : Reg := ⟨0x30040, 0⟩
/-- Field 31:0 of `TB_ADJ_RATE_LO`. -/
def TB_ADJ_RATE_LO_V : Fld := ⟨TB_ADJ_RATE_LO, 31, 0⟩
/-- `TB_ADJ_RATE_HI` (R120). -/
def TB_ADJ_RATE_HI : Reg := ⟨0x30044, 0⟩
/-- Field 31:0 of `TB_ADJ_RATE_HI`. -/
def TB_ADJ_RATE_HI_V : Fld := ⟨TB_ADJ_RATE_HI, 31, 0⟩
/-- `TB_ADJ_AMT_LO` (R120). -/
def TB_ADJ_AMT_LO : Reg := ⟨0x30048, 0⟩
/-- Field 31:0 of `TB_ADJ_AMT_LO`. -/
def TB_ADJ_AMT_LO_V : Fld := ⟨TB_ADJ_AMT_LO, 31, 0⟩
/-- `TB_ADJ_AMT_HI` (R120). -/
def TB_ADJ_AMT_HI : Reg := ⟨0x3004c, 0⟩
/-- Field 31:0 of `TB_ADJ_AMT_HI`. -/
def TB_ADJ_AMT_HI_V : Fld := ⟨TB_ADJ_AMT_HI, 31, 0⟩
/-- `TB_ADJ_SLEW` (R120). -/
def TB_ADJ_SLEW : Reg := ⟨0x30050, 1000⟩
/-- Field 31:0 of `TB_ADJ_SLEW`. -/
def TB_ADJ_SLEW_V : Fld := ⟨TB_ADJ_SLEW, 31, 0⟩
/-- `TB_ADJ_CTL` (R120). -/
def TB_ADJ_CTL : Reg := ⟨0x30054, 0⟩
/-- Field 5:5 of `TB_ADJ_CTL`. -/
def TB_ADJ_CTL_TRACE : Fld := ⟨TB_ADJ_CTL, 5, 5⟩
/-- Field 4:4 of `TB_ADJ_CTL`. -/
def TB_ADJ_CTL_OP_ABORT : Fld := ⟨TB_ADJ_CTL, 4, 4⟩
/-- Field 3:3 of `TB_ADJ_CTL`. -/
def TB_ADJ_CTL_OP_STEP : Fld := ⟨TB_ADJ_CTL, 3, 3⟩
/-- Field 2:2 of `TB_ADJ_CTL`. -/
def TB_ADJ_CTL_OP_SLEW : Fld := ⟨TB_ADJ_CTL, 2, 2⟩
/-- Field 1:1 of `TB_ADJ_CTL`. -/
def TB_ADJ_CTL_OP_RATE : Fld := ⟨TB_ADJ_CTL, 1, 1⟩
/-- Field 0:0 of `TB_ADJ_CTL`. -/
def TB_ADJ_CTL_GO : Fld := ⟨TB_ADJ_CTL, 0, 0⟩
/-- `TB_ADJ_STAT` (R120). -/
def TB_ADJ_STAT : Reg := ⟨0x30058, 0⟩
/-- Field 7:0 of `TB_ADJ_STAT`. -/
def TB_ADJ_STAT_CODE : Fld := ⟨TB_ADJ_STAT, 7, 0⟩
/-- `TB_TAI_UTC` (R120). -/
def TB_TAI_UTC : Reg := ⟨0x3005c, 0⟩
/-- Field 15:0 of `TB_TAI_UTC`. -/
def TB_TAI_UTC_V : Fld := ⟨TB_TAI_UTC, 15, 0⟩
/-- `TB_TXTS_W` (R119). -/
def TB_TXTS_W (i j : Nat) : Reg := ⟨0x30100 + 32 * i + 4 * j, (if j = 0 then 0x80000000 else 0)⟩
/-- Field 31:0 of `TB_TXTS_W`. -/
def TB_TXTS_W_V (i j : Nat) : Fld := ⟨TB_TXTS_W i j, 31, 0⟩
/-- `TB_TXTS_REF` (R118). -/
def TB_TXTS_REF (i : Nat) : Reg := ⟨0x30114 + 32 * i, 0⟩
/-- Field 31:0 of `TB_TXTS_REF`. -/
def TB_TXTS_REF_V (i : Nat) : Fld := ⟨TB_TXTS_REF i, 31, 0⟩
/-- `TIM_CAL_CTL` (R137). -/
def TIM_CAL_CTL : Reg := ⟨0x40000, 0⟩
/-- Field 31:16 of `TIM_CAL_CTL`. -/
def TIM_CAL_CTL_PERIOD : Fld := ⟨TIM_CAL_CTL, 31, 16⟩
/-- Field 15:15 of `TIM_CAL_CTL`. -/
def TIM_CAL_CTL_START : Fld := ⟨TIM_CAL_CTL, 15, 15⟩
/-- Field 4:0 of `TIM_CAL_CTL`. -/
def TIM_CAL_CTL_CORE : Fld := ⟨TIM_CAL_CTL, 4, 0⟩
/-- `TIM_CORE_STAT` (R137). -/
def TIM_CORE_STAT (i : Nat) : Reg := ⟨0x40100 + 4 * i, (0x1000 + (if i ≤ 15 then i else 31))⟩
/-- Field 31:24 of `TIM_CORE_STAT`. -/
def TIM_CORE_STAT_CAL_TEMP (i : Nat) : Fld := ⟨TIM_CORE_STAT i, 31, 24⟩
/-- Field 15:15 of `TIM_CORE_STAT`. -/
def TIM_CORE_STAT_START (i : Nat) : Fld := ⟨TIM_CORE_STAT i, 15, 15⟩
/-- Field 14:14 of `TIM_CORE_STAT`. -/
def TIM_CORE_STAT_RUNNING (i : Nat) : Fld := ⟨TIM_CORE_STAT i, 14, 14⟩
/-- Field 13:13 of `TIM_CORE_STAT`. -/
def TIM_CORE_STAT_CALGEN (i : Nat) : Fld := ⟨TIM_CORE_STAT i, 13, 13⟩
/-- Field 12:12 of `TIM_CORE_STAT`. -/
def TIM_CORE_STAT_CAL_STALE (i : Nat) : Fld := ⟨TIM_CORE_STAT i, 12, 12⟩
/-- Field 11:11 of `TIM_CORE_STAT`. -/
def TIM_CORE_STAT_FAILING (i : Nat) : Fld := ⟨TIM_CORE_STAT i, 11, 11⟩
/-- Field 4:0 of `TIM_CORE_STAT`. -/
def TIM_CORE_STAT_LOGICAL (i : Nat) : Fld := ⟨TIM_CORE_STAT i, 4, 0⟩
/-- `TIM_EDGE_CFG` (R127). -/
def TIM_EDGE_CFG (i : Nat) : Reg := ⟨0x40200 + 16 * i, 0x10⟩
/-- Field 31:16 of `TIM_EDGE_CFG`. -/
def TIM_EDGE_CFG_HOLDOFF (i : Nat) : Fld := ⟨TIM_EDGE_CFG i, 31, 16⟩
/-- Field 15:12 of `TIM_EDGE_CFG`. -/
def TIM_EDGE_CFG_HYST (i : Nat) : Fld := ⟨TIM_EDGE_CFG i, 15, 12⟩
/-- Field 5:4 of `TIM_EDGE_CFG`. -/
def TIM_EDGE_CFG_POL (i : Nat) : Fld := ⟨TIM_EDGE_CFG i, 5, 4⟩
/-- Field 3:2 of `TIM_EDGE_CFG`. -/
def TIM_EDGE_CFG_MODE (i : Nat) : Fld := ⟨TIM_EDGE_CFG i, 3, 2⟩
/-- Field 0:0 of `TIM_EDGE_CFG`. -/
def TIM_EDGE_CFG_EN (i : Nat) : Fld := ⟨TIM_EDGE_CFG i, 0, 0⟩
/-- `TIM_EDGE_DELAY` (R137). -/
def TIM_EDGE_DELAY (i : Nat) : Reg := ⟨0x40204 + 16 * i, 0⟩
/-- Field 31:0 of `TIM_EDGE_DELAY`. -/
def TIM_EDGE_DELAY_V (i : Nat) : Fld := ⟨TIM_EDGE_DELAY i, 31, 0⟩
/-- `TIM_EDGE_MISS` (R137). -/
def TIM_EDGE_MISS (i : Nat) : Reg := ⟨0x40208 + 16 * i, 0⟩
/-- Field 31:0 of `TIM_EDGE_MISS`. -/
def TIM_EDGE_MISS_V (i : Nat) : Fld := ⟨TIM_EDGE_MISS i, 31, 0⟩
/-- `TIM_EDGE_HOLD` (R137). -/
def TIM_EDGE_HOLD (i : Nat) : Reg := ⟨0x4020c + 16 * i, 0⟩
/-- Field 31:0 of `TIM_EDGE_HOLD`. -/
def TIM_EDGE_HOLD_V (i : Nat) : Fld := ⟨TIM_EDGE_HOLD i, 31, 0⟩
/-- `TIM_FREQ_CFG` (R136). -/
def TIM_FREQ_CFG (i : Nat) : Reg := ⟨0x40300 + 32 * i, (1000 * 256)⟩
/-- Field 31:8 of `TIM_FREQ_CFG`. -/
def TIM_FREQ_CFG_GATE (i : Nat) : Fld := ⟨TIM_FREQ_CFG i, 31, 8⟩
/-- Field 7:7 of `TIM_FREQ_CFG`. -/
def TIM_FREQ_CFG_EN (i : Nat) : Fld := ⟨TIM_FREQ_CFG i, 7, 7⟩
/-- Field 6:0 of `TIM_FREQ_CFG`. -/
def TIM_FREQ_CFG_SRC (i : Nat) : Fld := ⟨TIM_FREQ_CFG i, 6, 0⟩
/-- `TIM_FREQ_N` (R722). -/
def TIM_FREQ_N (i : Nat) : Reg := ⟨0x40304 + 32 * i, 0⟩
/-- Field 31:0 of `TIM_FREQ_N`. -/
def TIM_FREQ_N_V (i : Nat) : Fld := ⟨TIM_FREQ_N i, 31, 0⟩
/-- `TIM_FREQ_I_LO` (R722). -/
def TIM_FREQ_I_LO (i : Nat) : Reg := ⟨0x40308 + 32 * i, 0⟩
/-- Field 31:0 of `TIM_FREQ_I_LO`. -/
def TIM_FREQ_I_LO_V (i : Nat) : Fld := ⟨TIM_FREQ_I_LO i, 31, 0⟩
/-- `TIM_FREQ_I_HI` (R722). -/
def TIM_FREQ_I_HI (i : Nat) : Reg := ⟨0x4030c + 32 * i, 0⟩
/-- Field 31:0 of `TIM_FREQ_I_HI`. -/
def TIM_FREQ_I_HI_V (i : Nat) : Fld := ⟨TIM_FREQ_I_HI i, 31, 0⟩
/-- `TIM_FREQ_F_LO` (R722). -/
def TIM_FREQ_F_LO (i : Nat) : Reg := ⟨0x40310 + 32 * i, 0⟩
/-- Field 31:0 of `TIM_FREQ_F_LO`. -/
def TIM_FREQ_F_LO_V (i : Nat) : Fld := ⟨TIM_FREQ_F_LO i, 31, 0⟩
/-- `TIM_FREQ_F_HI` (R722). -/
def TIM_FREQ_F_HI (i : Nat) : Reg := ⟨0x40314 + 32 * i, 0⟩
/-- Field 31:0 of `TIM_FREQ_F_HI`. -/
def TIM_FREQ_F_HI_V (i : Nat) : Fld := ⟨TIM_FREQ_F_HI i, 31, 0⟩
/-- `TIM_FREQ_ST` (R136). -/
def TIM_FREQ_ST (i : Nat) : Reg := ⟨0x40318 + 32 * i, 0⟩
/-- Field 31:16 of `TIM_FREQ_ST`. -/
def TIM_FREQ_ST_SEQ (i : Nat) : Fld := ⟨TIM_FREQ_ST i, 31, 16⟩
/-- Field 3:2 of `TIM_FREQ_ST`. -/
def TIM_FREQ_ST_STATE (i : Nat) : Fld := ⟨TIM_FREQ_ST i, 3, 2⟩
/-- Field 1:1 of `TIM_FREQ_ST`. -/
def TIM_FREQ_ST_COARSE (i : Nat) : Fld := ⟨TIM_FREQ_ST i, 1, 1⟩
/-- Field 0:0 of `TIM_FREQ_ST`. -/
def TIM_FREQ_ST_NOSIG (i : Nat) : Fld := ⟨TIM_FREQ_ST i, 0, 0⟩
/-- `TIM_TAG_W` (R126). -/
def TIM_TAG_W (i j : Nat) : Reg := ⟨0x40400 + 16 * i + 4 * j, (if j = 0 then 0x80000000 else 0)⟩
/-- Field 31:0 of `TIM_TAG_W`. -/
def TIM_TAG_W_V (i j : Nat) : Fld := ⟨TIM_TAG_W i j, 31, 0⟩
/-- `EVT_CTL` (R624). -/
def EVT_CTL : Reg := ⟨0x50000, 0⟩
/-- Field 23:0 of `EVT_CTL`. -/
def EVT_CTL_WINDOW : Fld := ⟨EVT_CTL, 23, 0⟩
/-- `EVT_PINSTAT` (R624). -/
def EVT_PINSTAT : Reg := ⟨0x50004, 0⟩
/-- Field 1:1 of `EVT_PINSTAT`. -/
def EVT_PINSTAT_N1 : Fld := ⟨EVT_PINSTAT, 1, 1⟩
/-- Field 0:0 of `EVT_PINSTAT`. -/
def EVT_PINSTAT_N0 : Fld := ⟨EVT_PINSTAT, 0, 0⟩
/-- `EVT_QLOST` (R624). -/
def EVT_QLOST : Reg := ⟨0x50008, 0⟩
/-- Field 31:0 of `EVT_QLOST`. -/
def EVT_QLOST_V : Fld := ⟨EVT_QLOST, 31, 0⟩
/-- `EVT_ROUTE` (R624). -/
def EVT_ROUTE (i : Nat) : Reg := ⟨0x50100 + 4 * i, 0xA0000000⟩
/-- Field 31:31 of `EVT_ROUTE`. -/
def EVT_ROUTE_LOG (i : Nat) : Fld := ⟨EVT_ROUTE i, 31, 31⟩
/-- Field 30:29 of `EVT_ROUTE`. -/
def EVT_ROUTE_LEVEL (i : Nat) : Fld := ⟨EVT_ROUTE i, 30, 29⟩
/-- Field 28:28 of `EVT_ROUTE`. -/
def EVT_ROUTE_Q0 (i : Nat) : Fld := ⟨EVT_ROUTE i, 28, 28⟩
/-- Field 27:27 of `EVT_ROUTE`. -/
def EVT_ROUTE_PIN0 (i : Nat) : Fld := ⟨EVT_ROUTE i, 27, 27⟩
/-- Field 26:26 of `EVT_ROUTE`. -/
def EVT_ROUTE_PIN1 (i : Nat) : Fld := ⟨EVT_ROUTE i, 26, 26⟩
/-- Field 25:25 of `EVT_ROUTE`. -/
def EVT_ROUTE_VEC_EN (i : Nat) : Fld := ⟨EVT_ROUTE i, 25, 25⟩
/-- Field 10:0 of `EVT_ROUTE`. -/
def EVT_ROUTE_VEC (i : Nat) : Fld := ⟨EVT_ROUTE i, 10, 0⟩
/-- `EVT_TMASK` (R624). -/
def EVT_TMASK (i : Nat) : Reg := ⟨0x50800 + 4 * i, 0⟩
/-- Field 31:1 of `EVT_TMASK`. -/
def EVT_TMASK_V (i : Nat) : Fld := ⟨EVT_TMASK i, 31, 1⟩
/-- `EVT_CNT` (R624). -/
def EVT_CNT (i : Nat) : Reg := ⟨0x51000 + 4 * i, 0⟩
/-- Field 31:0 of `EVT_CNT`. -/
def EVT_CNT_V (i : Nat) : Fld := ⟨EVT_CNT i, 31, 0⟩
/-- `EVT_PEND` (R624). -/
def EVT_PEND (i : Nat) : Reg := ⟨0x51800 + 4 * i, 0⟩
/-- Field 31:0 of `EVT_PEND`. -/
def EVT_PEND_V (i : Nat) : Fld := ⟨EVT_PEND i, 31, 0⟩
/-- `LOG_STAT` (R625). -/
def LOG_STAT : Reg := ⟨0x60000, 0⟩
/-- Field 31:31 of `LOG_STAT`. -/
def LOG_STAT_READY : Fld := ⟨LOG_STAT, 31, 31⟩
/-- Field 30:30 of `LOG_STAT`. -/
def LOG_STAT_FULL : Fld := ⟨LOG_STAT, 30, 30⟩
/-- Field 29:29 of `LOG_STAT`. -/
def LOG_STAT_STOPPED : Fld := ⟨LOG_STAT, 29, 29⟩
/-- Field 28:28 of `LOG_STAT`. -/
def LOG_STAT_KEY : Fld := ⟨LOG_STAT, 28, 28⟩
/-- Field 27:27 of `LOG_STAT`. -/
def LOG_STAT_TORN_SEEN : Fld := ⟨LOG_STAT, 27, 27⟩
/-- Field 26:26 of `LOG_STAT`. -/
def LOG_STAT_FAIL_SEEN : Fld := ⟨LOG_STAT, 26, 26⟩
/-- `LOG_FIRST_LO` (R625). -/
def LOG_FIRST_LO : Reg := ⟨0x60008, 0⟩
/-- Field 31:0 of `LOG_FIRST_LO`. -/
def LOG_FIRST_LO_V : Fld := ⟨LOG_FIRST_LO, 31, 0⟩
/-- `LOG_FIRST_HI` (R625). -/
def LOG_FIRST_HI : Reg := ⟨0x6000c, 0⟩
/-- Field 31:0 of `LOG_FIRST_HI`. -/
def LOG_FIRST_HI_V : Fld := ⟨LOG_FIRST_HI, 31, 0⟩
/-- `LOG_HEAD_LO` (R625). -/
def LOG_HEAD_LO : Reg := ⟨0x60010, 0⟩
/-- Field 31:0 of `LOG_HEAD_LO`. -/
def LOG_HEAD_LO_V : Fld := ⟨LOG_HEAD_LO, 31, 0⟩
/-- `LOG_HEAD_HI` (R625). -/
def LOG_HEAD_HI : Reg := ⟨0x60014, 0⟩
/-- Field 31:0 of `LOG_HEAD_HI`. -/
def LOG_HEAD_HI_V : Fld := ⟨LOG_HEAD_HI, 31, 0⟩
/-- `LOG_COUNT` (R625). -/
def LOG_COUNT : Reg := ⟨0x60018, 1⟩
/-- Field 31:0 of `LOG_COUNT`. -/
def LOG_COUNT_V : Fld := ⟨LOG_COUNT, 31, 0⟩
/-- `LOG_REFUSED` (R625). -/
def LOG_REFUSED : Reg := ⟨0x6001c, 0⟩
/-- Field 31:0 of `LOG_REFUSED`. -/
def LOG_REFUSED_V : Fld := ⟨LOG_REFUSED, 31, 0⟩
/-- `LOG_REPEAT` (R625). -/
def LOG_REPEAT : Reg := ⟨0x60020, 1000000⟩
/-- Field 23:0 of `LOG_REPEAT`. -/
def LOG_REPEAT_V : Fld := ⟨LOG_REPEAT, 23, 0⟩
/-- `LOG_WSEL` (R625). -/
def LOG_WSEL (i : Nat) : Reg := ⟨0x60024 + 0x100000000 * i, 0⟩
/-- Field 4:0 of `LOG_WSEL`. -/
def LOG_WSEL_V (i : Nat) : Fld := ⟨LOG_WSEL i, 4, 0⟩
/-- `CMD_UDP` (R536). -/
def CMD_UDP : Reg := ⟨0x70000, 0⟩
/-- Field 31:31 of `CMD_UDP`. -/
def CMD_UDP_EN : Fld := ⟨CMD_UDP, 31, 31⟩
/-- Field 15:0 of `CMD_UDP`. -/
def CMD_UDP_PORT : Fld := ⟨CMD_UDP, 15, 0⟩
/-- `CMD_KEY_CTL` (R536). -/
def CMD_KEY_CTL : Reg := ⟨0x70004, 0⟩
/-- Field 31:31 of `CMD_KEY_CTL`. -/
def CMD_KEY_CTL_LOAD : Fld := ⟨CMD_KEY_CTL, 31, 31⟩
/-- Field 30:30 of `CMD_KEY_CTL`. -/
def CMD_KEY_CTL_CLEAR : Fld := ⟨CMD_KEY_CTL, 30, 30⟩
/-- Field 4:0 of `CMD_KEY_CTL`. -/
def CMD_KEY_CTL_B : Fld := ⟨CMD_KEY_CTL, 4, 0⟩
/-- `CMD_KEY_STAT` (R536). -/
def CMD_KEY_STAT : Reg := ⟨0x70008, 0⟩
/-- Field 31:0 of `CMD_KEY_STAT`. -/
def CMD_KEY_STAT_V : Fld := ⟨CMD_KEY_STAT, 31, 0⟩
/-- `CMD_UDP_AUTH` (R536). -/
def CMD_UDP_AUTH : Reg := ⟨0x70010, 0⟩
/-- Field 31:0 of `CMD_UDP_AUTH`. -/
def CMD_UDP_AUTH_V : Fld := ⟨CMD_UDP_AUTH, 31, 0⟩
/-- `CMD_UDP_REPLAY` (R536). -/
def CMD_UDP_REPLAY : Reg := ⟨0x70014, 0⟩
/-- Field 31:0 of `CMD_UDP_REPLAY`. -/
def CMD_UDP_REPLAY_V : Fld := ⟨CMD_UDP_REPLAY, 31, 0⟩
/-- `CMD_UDP_DROP` (R536). -/
def CMD_UDP_DROP : Reg := ⟨0x70018, 0⟩
/-- Field 31:0 of `CMD_UDP_DROP`. -/
def CMD_UDP_DROP_V : Fld := ⟨CMD_UDP_DROP, 31, 0⟩
/-- `CMD_DUPS` (R536). -/
def CMD_DUPS : Reg := ⟨0x7001c, 0⟩
/-- Field 31:0 of `CMD_DUPS`. -/
def CMD_DUPS_V : Fld := ⟨CMD_DUPS, 31, 0⟩
/-- `CMD_REPLAYS` (R536). -/
def CMD_REPLAYS : Reg := ⟨0x70020, 0⟩
/-- Field 31:0 of `CMD_REPLAYS`. -/
def CMD_REPLAYS_V : Fld := ⟨CMD_REPLAYS, 31, 0⟩
/-- `CMD_TAGBUSY` (R536). -/
def CMD_TAGBUSY : Reg := ⟨0x70024, 0⟩
/-- Field 31:0 of `CMD_TAGBUSY`. -/
def CMD_TAGBUSY_V : Fld := ⟨CMD_TAGBUSY, 31, 0⟩
/-- `CMD_LATE` (R536). -/
def CMD_LATE : Reg := ⟨0x70028, 0⟩
/-- Field 31:0 of `CMD_LATE`. -/
def CMD_LATE_V : Fld := ⟨CMD_LATE, 31, 0⟩
/-- `CMD_KEY_W` (R536). -/
def CMD_KEY_W (i : Nat) : Reg := ⟨0x70100 + 4 * i, 0⟩
/-- Field 31:0 of `CMD_KEY_W`. -/
def CMD_KEY_W_V (i : Nat) : Fld := ⟨CMD_KEY_W i, 31, 0⟩
/-- `CMD_INSTANCE` (R536). -/
def CMD_INSTANCE (i : Nat) : Reg := ⟨0x70200 + 4 * i, 0⟩
/-- Field 31:0 of `CMD_INSTANCE`. -/
def CMD_INSTANCE_V (i : Nat) : Fld := ⟨CMD_INSTANCE i, 31, 0⟩
/-- `BRG_CTL` (R583). -/
def BRG_CTL (i : Nat) : Reg := ⟨0x80100 + 32 * i, (if i = 0 then 0x00FF0000 else 0x001003E8)⟩
/-- Field 31:31 of `BRG_CTL`. -/
def BRG_CTL_RESET (i : Nat) : Fld := ⟨BRG_CTL i, 31, 31⟩
/-- Field 23:16 of `BRG_CTL`. -/
def BRG_CTL_WMAX (i : Nat) : Fld := ⟨BRG_CTL i, 23, 16⟩
/-- Field 15:0 of `BRG_CTL`. -/
def BRG_CTL_CMDRATE (i : Nat) : Fld := ⟨BRG_CTL i, 15, 0⟩
/-- `BRG_BEAMCAP` (R583). -/
def BRG_BEAMCAP (i : Nat) : Reg := ⟨0x80104 + 32 * i, 0⟩
/-- Field 15:0 of `BRG_BEAMCAP`. -/
def BRG_BEAMCAP_V (i : Nat) : Fld := ⟨BRG_BEAMCAP i, 15, 0⟩
/-- `BRG_STAT` (R583). -/
def BRG_STAT (i : Nat) : Reg := ⟨0x80108 + 32 * i, 0⟩
/-- Field 31:30 of `BRG_STAT`. -/
def BRG_STAT_STATE (i : Nat) : Fld := ⟨BRG_STAT i, 31, 30⟩
/-- Field 29:29 of `BRG_STAT`. -/
def BRG_STAT_RATE_SEEN (i : Nat) : Fld := ⟨BRG_STAT i, 29, 29⟩
/-- Field 28:28 of `BRG_STAT`. -/
def BRG_STAT_SUSP_SEEN (i : Nat) : Fld := ⟨BRG_STAT i, 28, 28⟩
/-- Field 11:0 of `BRG_STAT`. -/
def BRG_STAT_GRANTS (i : Nat) : Fld := ⟨BRG_STAT i, 11, 0⟩
/-- `BRG_BEAMS` (R583). -/
def BRG_BEAMS (i : Nat) : Reg := ⟨0x8010c + 32 * i, (if i = 0 then 0x0FFF0000 else 0xFFFF)⟩
/-- Field 31:16 of `BRG_BEAMS`. -/
def BRG_BEAMS_LAST (i : Nat) : Fld := ⟨BRG_BEAMS i, 31, 16⟩
/-- Field 15:0 of `BRG_BEAMS`. -/
def BRG_BEAMS_FIRST (i : Nat) : Fld := ⟨BRG_BEAMS i, 15, 0⟩
/-- `BRG_PAGES` (R583). -/
def BRG_PAGES (i : Nat) : Reg := ⟨0x80110 + 32 * i, (if i = 0 then 0xFFFF0000 else 0xFFFF)⟩
/-- Field 31:16 of `BRG_PAGES`. -/
def BRG_PAGES_LAST (i : Nat) : Fld := ⟨BRG_PAGES i, 31, 16⟩
/-- Field 15:0 of `BRG_PAGES`. -/
def BRG_PAGES_FIRST (i : Nat) : Fld := ⟨BRG_PAGES i, 15, 0⟩
/-- `BRG_RESETS` (R583). -/
def BRG_RESETS (i : Nat) : Reg := ⟨0x80114 + 32 * i, 0⟩
/-- Field 31:0 of `BRG_RESETS`. -/
def BRG_RESETS_V (i : Nat) : Fld := ⟨BRG_RESETS i, 31, 0⟩
/-- `BRG_CRING_CTL` (R537). -/
def BRG_CRING_CTL (i j : Nat) : Reg := ⟨0x84000 + 256 * i + 64 * j, 0⟩
/-- Field 31:31 of `BRG_CRING_CTL`. -/
def BRG_CRING_CTL_EN (i j : Nat) : Fld := ⟨BRG_CRING_CTL i j, 31, 31⟩
/-- Field 30:30 of `BRG_CRING_CTL`. -/
def BRG_CRING_CTL_VEC_EN (i j : Nat) : Fld := ⟨BRG_CRING_CTL i j, 30, 30⟩
/-- Field 26:16 of `BRG_CRING_CTL`. -/
def BRG_CRING_CTL_VEC (i j : Nat) : Fld := ⟨BRG_CRING_CTL i j, 26, 16⟩
/-- Field 7:4 of `BRG_CRING_CTL`. -/
def BRG_CRING_CTL_CPL_SIZE (i j : Nat) : Fld := ⟨BRG_CRING_CTL i j, 7, 4⟩
/-- Field 3:0 of `BRG_CRING_CTL`. -/
def BRG_CRING_CTL_CMD_SIZE (i j : Nat) : Fld := ⟨BRG_CRING_CTL i j, 3, 0⟩
/-- `BRG_CRING_STAT` (R537). -/
def BRG_CRING_STAT (i j : Nat) : Reg := ⟨0x84004 + 256 * i + 64 * j, 0⟩
/-- Field 31:24 of `BRG_CRING_STAT`. -/
def BRG_CRING_STAT_CODE (i j : Nat) : Fld := ⟨BRG_CRING_STAT i j, 31, 24⟩
/-- Field 23:23 of `BRG_CRING_STAT`. -/
def BRG_CRING_STAT_PAUSED (i j : Nat) : Fld := ⟨BRG_CRING_STAT i j, 23, 23⟩
/-- Field 22:22 of `BRG_CRING_STAT`. -/
def BRG_CRING_STAT_PI_BAD_SEEN (i j : Nat) : Fld := ⟨BRG_CRING_STAT i j, 22, 22⟩
/-- Field 15:0 of `BRG_CRING_STAT`. -/
def BRG_CRING_STAT_LOST (i j : Nat) : Fld := ⟨BRG_CRING_STAT i j, 15, 0⟩
/-- `BRG_CRING_BASE_LO` (R537). -/
def BRG_CRING_BASE_LO (i j : Nat) : Reg := ⟨0x84008 + 256 * i + 64 * j, 0⟩
/-- Field 31:12 of `BRG_CRING_BASE_LO`. -/
def BRG_CRING_BASE_LO_V (i j : Nat) : Fld := ⟨BRG_CRING_BASE_LO i j, 31, 12⟩
/-- `BRG_CRING_BASE_HI` (R537). -/
def BRG_CRING_BASE_HI (i j : Nat) : Reg := ⟨0x8400c + 256 * i + 64 * j, 0⟩
/-- Field 31:0 of `BRG_CRING_BASE_HI`. -/
def BRG_CRING_BASE_HI_V (i j : Nat) : Fld := ⟨BRG_CRING_BASE_HI i j, 31, 0⟩
/-- `BRG_CPL_BASE_LO` (R537). -/
def BRG_CPL_BASE_LO (i j : Nat) : Reg := ⟨0x84010 + 256 * i + 64 * j, 0⟩
/-- Field 31:12 of `BRG_CPL_BASE_LO`. -/
def BRG_CPL_BASE_LO_V (i j : Nat) : Fld := ⟨BRG_CPL_BASE_LO i j, 31, 12⟩
/-- `BRG_CPL_BASE_HI` (R537). -/
def BRG_CPL_BASE_HI (i j : Nat) : Reg := ⟨0x84014 + 256 * i + 64 * j, 0⟩
/-- Field 31:0 of `BRG_CPL_BASE_HI`. -/
def BRG_CPL_BASE_HI_V (i j : Nat) : Fld := ⟨BRG_CPL_BASE_HI i j, 31, 0⟩
/-- `BRG_CRING_CI` (R537). -/
def BRG_CRING_CI (i j : Nat) : Reg := ⟨0x84018 + 256 * i + 64 * j, 0⟩
/-- Field 15:0 of `BRG_CRING_CI`. -/
def BRG_CRING_CI_V (i j : Nat) : Fld := ⟨BRG_CRING_CI i j, 15, 0⟩
/-- `BRG_CPL_PI` (R537). -/
def BRG_CPL_PI (i j : Nat) : Reg := ⟨0x8401c + 256 * i + 64 * j, 0⟩
/-- Field 15:0 of `BRG_CPL_PI`. -/
def BRG_CPL_PI_V (i j : Nat) : Fld := ⟨BRG_CPL_PI i j, 15, 0⟩
/-- `BRG_GRANT0` (R583). -/
def BRG_GRANT0 (i : Nat) : Reg := ⟨0x88000 + 8 * i, 0⟩
/-- Field 31:31 of `BRG_GRANT0`. -/
def BRG_GRANT0_VALID (i : Nat) : Fld := ⟨BRG_GRANT0 i, 31, 31⟩
/-- Field 30:30 of `BRG_GRANT0`. -/
def BRG_GRANT0_SUSP (i : Nat) : Fld := ⟨BRG_GRANT0 i, 30, 30⟩
/-- Field 28:24 of `BRG_GRANT0`. -/
def BRG_GRANT0_GRANTEE (i : Nat) : Fld := ⟨BRG_GRANT0 i, 28, 24⟩
/-- Field 9:0 of `BRG_GRANT0`. -/
def BRG_GRANT0_SLOT (i : Nat) : Fld := ⟨BRG_GRANT0 i, 9, 0⟩
/-- `BRG_GRANT1` (R583). -/
def BRG_GRANT1 (i : Nat) : Reg := ⟨0x88004 + 8 * i, 0⟩
/-- Field 31:0 of `BRG_GRANT1`. -/
def BRG_GRANT1_V (i : Nat) : Fld := ⟨BRG_GRANT1 i, 31, 0⟩
/-- `CAL_STAT` (R296). -/
def CAL_STAT : Reg := ⟨0x90000, 0x10000000⟩
/-- Field 31:31 of `CAL_STAT`. -/
def CAL_STAT_LOAD_DONE : Fld := ⟨CAL_STAT, 31, 31⟩
/-- Field 30:30 of `CAL_STAT`. -/
def CAL_STAT_PAGE_BAD_SEEN : Fld := ⟨CAL_STAT, 30, 30⟩
/-- Field 29:29 of `CAL_STAT`. -/
def CAL_STAT_COPY_BAD_SEEN : Fld := ⟨CAL_STAT, 29, 29⟩
/-- Field 28:28 of `CAL_STAT`. -/
def CAL_STAT_LOCKED : Fld := ⟨CAL_STAT, 28, 28⟩
/-- `CAL_PAGE_STAT` (R296). -/
def CAL_PAGE_STAT (i : Nat) : Reg := ⟨0x90100 + 4 * i, (if i = 3 then 0x08000000 else if i ≤ 3 ∨ (8 ≤ i ∧ i < 16) then 0 else 0xC0000000)⟩
/-- Field 31:30 of `CAL_PAGE_STAT`. -/
def CAL_PAGE_STAT_FROM (i : Nat) : Fld := ⟨CAL_PAGE_STAT i, 31, 30⟩
/-- Field 29:29 of `CAL_PAGE_STAT`. -/
def CAL_PAGE_STAT_A_OK (i : Nat) : Fld := ⟨CAL_PAGE_STAT i, 29, 29⟩
/-- Field 28:28 of `CAL_PAGE_STAT`. -/
def CAL_PAGE_STAT_B_OK (i : Nat) : Fld := ⟨CAL_PAGE_STAT i, 28, 28⟩
/-- Field 27:27 of `CAL_PAGE_STAT`. -/
def CAL_PAGE_STAT_USER (i : Nat) : Fld := ⟨CAL_PAGE_STAT i, 27, 27⟩
/-- `CAL_PAGE_SEQ` (R296). -/
def CAL_PAGE_SEQ (i : Nat) : Reg := ⟨0x90200 + 4 * i, 0⟩
/-- Field 31:0 of `CAL_PAGE_SEQ`. -/
def CAL_PAGE_SEQ_V (i : Nat) : Fld := ⟨CAL_PAGE_SEQ i, 31, 0⟩
/-- `CAL_PAGE_SEL` (R296). -/
def CAL_PAGE_SEL : Reg := ⟨0x90400, 0⟩
/-- Field 8:8 of `CAL_PAGE_SEL`. -/
def CAL_PAGE_SEL_COPY : Fld := ⟨CAL_PAGE_SEL, 8, 8⟩
/-- Field 4:0 of `CAL_PAGE_SEL`. -/
def CAL_PAGE_SEL_PAGE : Fld := ⟨CAL_PAGE_SEL, 4, 0⟩
/-- `ARB_CTL` (R408). -/
def ARB_CTL (i : Nat) : Reg := ⟨0xa1000 + 512 * i, 0x100⟩
/-- Field 31:31 of `ARB_CTL`. -/
def ARB_CTL_HOLD (i : Nat) : Fld := ⟨ARB_CTL i, 31, 31⟩
/-- Field 27:16 of `ARB_CTL`. -/
def ARB_CTL_WAIT_WARN (i : Nat) : Fld := ⟨ARB_CTL i, 27, 16⟩
/-- Field 15:0 of `ARB_CTL`. -/
def ARB_CTL_HOLD_LIMIT (i : Nat) : Fld := ⟨ARB_CTL i, 15, 0⟩
/-- `ARB_STAT` (R408). -/
def ARB_STAT (i : Nat) : Reg := ⟨0xa1004 + 512 * i, (Config.arbStatReset i)⟩
/-- Field 31:31 of `ARB_STAT`. -/
def ARB_STAT_CHECK_SEEN (i : Nat) : Fld := ⟨ARB_STAT i, 31, 31⟩
/-- Field 30:30 of `ARB_STAT`. -/
def ARB_STAT_FORCED_SEEN (i : Nat) : Fld := ⟨ARB_STAT i, 30, 30⟩
/-- Field 29:29 of `ARB_STAT`. -/
def ARB_STAT_CUT_SEEN (i : Nat) : Fld := ⟨ARB_STAT i, 29, 29⟩
/-- Field 28:28 of `ARB_STAT`. -/
def ARB_STAT_WARN_SEEN (i : Nat) : Fld := ⟨ARB_STAT i, 28, 28⟩
/-- Field 27:27 of `ARB_STAT`. -/
def ARB_STAT_ASLEEP (i : Nat) : Fld := ⟨ARB_STAT i, 27, 27⟩
/-- Field 23:16 of `ARB_STAT`. -/
def ARB_STAT_NREQ (i : Nat) : Fld := ⟨ARB_STAT i, 23, 16⟩
/-- Field 15:8 of `ARB_STAT`. -/
def ARB_STAT_NLANE (i : Nat) : Fld := ⟨ARB_STAT i, 15, 8⟩
/-- Field 3:0 of `ARB_STAT`. -/
def ARB_STAT_CLASS (i : Nat) : Fld := ⟨ARB_STAT i, 3, 0⟩
/-- `ARB_BEATS_LO` (R408). -/
def ARB_BEATS_LO (i : Nat) : Reg := ⟨0xa1008 + 512 * i, 0⟩
/-- Field 31:0 of `ARB_BEATS_LO`. -/
def ARB_BEATS_LO_V (i : Nat) : Fld := ⟨ARB_BEATS_LO i, 31, 0⟩
/-- `ARB_BEATS_HI` (R408). -/
def ARB_BEATS_HI (i : Nat) : Reg := ⟨0xa100c + 512 * i, 0⟩
/-- Field 31:0 of `ARB_BEATS_HI`. -/
def ARB_BEATS_HI_V (i : Nat) : Fld := ⟨ARB_BEATS_HI i, 31, 0⟩
/-- `ARB_DEAD` (R408). -/
def ARB_DEAD (i : Nat) : Reg := ⟨0xa1010 + 512 * i, 0⟩
/-- Field 31:0 of `ARB_DEAD`. -/
def ARB_DEAD_V (i : Nat) : Fld := ⟨ARB_DEAD i, 31, 0⟩
/-- `ARB_FORCED` (R408). -/
def ARB_FORCED (i : Nat) : Reg := ⟨0xa1014 + 512 * i, 0⟩
/-- Field 31:0 of `ARB_FORCED`. -/
def ARB_FORCED_V (i : Nat) : Fld := ⟨ARB_FORCED i, 31, 0⟩
/-- `ARB_CUT` (R408). -/
def ARB_CUT (i : Nat) : Reg := ⟨0xa1018 + 512 * i, 0⟩
/-- Field 31:0 of `ARB_CUT`. -/
def ARB_CUT_V (i : Nat) : Fld := ⟨ARB_CUT i, 31, 0⟩
/-- `ARB_CHECK` (R408). -/
def ARB_CHECK (i : Nat) : Reg := ⟨0xa101c + 512 * i, 0⟩
/-- Field 31:0 of `ARB_CHECK`. -/
def ARB_CHECK_V (i : Nat) : Fld := ⟨ARB_CHECK i, 31, 0⟩
/-- `ARB_REQ` (R408). -/
def ARB_REQ (i j : Nat) : Reg := ⟨0xa1040 + 512 * i + 4 * j, (if i ≤ 6 then 0x140 else 0x40)⟩
/-- Field 9:8 of `ARB_REQ`. -/
def ARB_REQ_CLASS (i j : Nat) : Fld := ⟨ARB_REQ i j, 9, 8⟩
/-- Field 7:0 of `ARB_REQ`. -/
def ARB_REQ_LIMIT (i j : Nat) : Fld := ⟨ARB_REQ i j, 7, 0⟩
/-- `ARB_RSTAT` (R408). -/
def ARB_RSTAT (i j : Nat) : Reg := ⟨0xa1100 + 512 * i + 4 * j, 0⟩
/-- Field 31:16 of `ARB_RSTAT`. -/
def ARB_RSTAT_MAXWAIT (i j : Nat) : Fld := ⟨ARB_RSTAT i j, 31, 16⟩
/-- Field 15:1 of `ARB_RSTAT`. -/
def ARB_RSTAT_FORCED (i j : Nat) : Fld := ⟨ARB_RSTAT i j, 15, 1⟩
/-- Field 0:0 of `ARB_RSTAT`. -/
def ARB_RSTAT_CUT_SEEN (i j : Nat) : Fld := ⟨ARB_RSTAT i j, 0, 0⟩
/-- `PLT_STAT` (R375). -/
def PLT_STAT : Reg := ⟨0xb0000, 0⟩
/-- Field 5:5 of `PLT_STAT`. -/
def PLT_STAT_NEAR_ASLEEP : Fld := ⟨PLT_STAT, 5, 5⟩
/-- Field 4:4 of `PLT_STAT`. -/
def PLT_STAT_ECC_SEEN : Fld := ⟨PLT_STAT, 4, 4⟩
/-- Field 3:3 of `PLT_STAT`. -/
def PLT_STAT_GAP_SEEN : Fld := ⟨PLT_STAT, 3, 3⟩
/-- Field 2:2 of `PLT_STAT`. -/
def PLT_STAT_ESC_LOW_SEEN : Fld := ⟨PLT_STAT, 2, 2⟩
/-- Field 1:1 of `PLT_STAT`. -/
def PLT_STAT_NEAR_LOW_SEEN : Fld := ⟨PLT_STAT, 1, 1⟩
/-- Field 0:0 of `PLT_STAT`. -/
def PLT_STAT_POOL_EMPTY_SEEN : Fld := ⟨PLT_STAT, 0, 0⟩
/-- `PLT_FAR_FREE` (R375). -/
def PLT_FAR_FREE : Reg := ⟨0xb0004, 4194304⟩
/-- Field 31:0 of `PLT_FAR_FREE`. -/
def PLT_FAR_FREE_V : Fld := ⟨PLT_FAR_FREE, 31, 0⟩
/-- `PLT_NEAR_FREE` (R375). -/
def PLT_NEAR_FREE : Reg := ⟨0xb0008, 3072⟩
/-- Field 31:0 of `PLT_NEAR_FREE`. -/
def PLT_NEAR_FREE_V : Fld := ⟨PLT_NEAR_FREE, 31, 0⟩
/-- `PLT_RES_FREE` (R375). -/
def PLT_RES_FREE : Reg := ⟨0xb000c, 32768⟩
/-- Field 31:0 of `PLT_RES_FREE`. -/
def PLT_RES_FREE_V : Fld := ⟨PLT_RES_FREE, 31, 0⟩
/-- `PLT_ESC` (R375). -/
def PLT_ESC : Reg := ⟨0xb0010, 0x40002000⟩
/-- Field 31:24 of `PLT_ESC`. -/
def PLT_ESC_NEAR : Fld := ⟨PLT_ESC, 31, 24⟩
/-- Field 22:0 of `PLT_ESC`. -/
def PLT_ESC_FAR : Fld := ⟨PLT_ESC, 22, 0⟩
/-- `PLT_ESC_FREE` (R375). -/
def PLT_ESC_FREE : Reg := ⟨0xb0014, 0x40002000⟩
/-- Field 31:24 of `PLT_ESC_FREE`. -/
def PLT_ESC_FREE_NEAR : Fld := ⟨PLT_ESC_FREE, 31, 24⟩
/-- Field 22:0 of `PLT_ESC_FREE`. -/
def PLT_ESC_FREE_FAR : Fld := ⟨PLT_ESC_FREE, 22, 0⟩
/-- `PLT_RESV` (R375). -/
def PLT_RESV : Reg := ⟨0xb0018, 0⟩
/-- Field 31:0 of `PLT_RESV`. -/
def PLT_RESV_V : Fld := ⟨PLT_RESV, 31, 0⟩
/-- `PLT_NOPLOT` (R375). -/
def PLT_NOPLOT : Reg := ⟨0xb001c, 0⟩
/-- Field 31:0 of `PLT_NOPLOT`. -/
def PLT_NOPLOT_V : Fld := ⟨PLT_NOPLOT, 31, 0⟩
/-- `PLT_EL_ALLOC` (R375). -/
def PLT_EL_ALLOC : Reg := ⟨0xb0020, 0⟩
/-- Field 31:0 of `PLT_EL_ALLOC`. -/
def PLT_EL_ALLOC_V : Fld := ⟨PLT_EL_ALLOC, 31, 0⟩
/-- `PLT_EL_USED` (R375). -/
def PLT_EL_USED : Reg := ⟨0xb0024, 0⟩
/-- Field 31:0 of `PLT_EL_USED`. -/
def PLT_EL_USED_V : Fld := ⟨PLT_EL_USED, 31, 0⟩
/-- `PLT_LOW` (R375). -/
def PLT_LOW : Reg := ⟨0xb0028, 0x40⟩
/-- Field 11:0 of `PLT_LOW`. -/
def PLT_LOW_NEAR_LW : Fld := ⟨PLT_LOW, 11, 0⟩
/-- `PLT_QUOTA` (R375). -/
def PLT_QUOTA (i : Nat) : Reg := ⟨0xb0100 + 8 * i, 0⟩
/-- Field 22:0 of `PLT_QUOTA`. -/
def PLT_QUOTA_V (i : Nat) : Fld := ⟨PLT_QUOTA i, 22, 0⟩
/-- `PLT_USED` (R375). -/
def PLT_USED (i : Nat) : Reg := ⟨0xb0104 + 8 * i, 0⟩
/-- Field 22:0 of `PLT_USED`. -/
def PLT_USED_V (i : Nat) : Fld := ⟨PLT_USED i, 22, 0⟩
/-- `QUE_SEL` (R375). -/
def QUE_SEL (i : Nat) : Reg := ⟨0xc0000 + 0x100000000 * i, 0⟩
/-- Field 13:0 of `QUE_SEL`. -/
def QUE_SEL_V (i : Nat) : Fld := ⟨QUE_SEL i, 13, 0⟩
/-- `QUE_CTL` (R375). -/
def QUE_CTL (i : Nat) : Reg := ⟨0xc0004 + 0x100000000 * i, 0⟩
/-- Field 2:2 of `QUE_CTL`. -/
def QUE_CTL_FLUSH (i : Nat) : Fld := ⟨QUE_CTL i, 2, 2⟩
/-- Field 1:1 of `QUE_CTL`. -/
def QUE_CTL_DISABLE (i : Nat) : Fld := ⟨QUE_CTL i, 1, 1⟩
/-- Field 0:0 of `QUE_CTL`. -/
def QUE_CTL_ENABLE (i : Nat) : Fld := ⟨QUE_CTL i, 0, 0⟩
/-- `QUE_CFG0` (R375). -/
def QUE_CFG0 (i : Nat) : Reg := ⟨0xc0008 + 0x100000000 * i, 1⟩
/-- Field 31:29 of `QUE_CFG0`. -/
def QUE_CFG0_TYPE (i : Nat) : Fld := ⟨QUE_CFG0 i, 31, 29⟩
/-- Field 28:24 of `QUE_CFG0`. -/
def QUE_CFG0_BOROUGH (i : Nat) : Fld := ⟨QUE_CFG0 i, 28, 24⟩
/-- Field 23:23 of `QUE_CFG0`. -/
def QUE_CFG0_MIRROR (i : Nat) : Fld := ⟨QUE_CFG0 i, 23, 23⟩
/-- Field 22:22 of `QUE_CFG0`. -/
def QUE_CFG0_EXPRESS (i : Nat) : Fld := ⟨QUE_CFG0 i, 22, 22⟩
/-- Field 21:20 of `QUE_CFG0`. -/
def QUE_CFG0_TIER (i : Nat) : Fld := ⟨QUE_CFG0 i, 21, 20⟩
/-- Field 19:19 of `QUE_CFG0`. -/
def QUE_CFG0_REC (i : Nat) : Fld := ⟨QUE_CFG0 i, 19, 19⟩
/-- Field 7:0 of `QUE_CFG0`. -/
def QUE_CFG0_WEIGHT (i : Nat) : Fld := ⟨QUE_CFG0 i, 7, 0⟩
/-- `QUE_CFG1` (R375). -/
def QUE_CFG1 (i : Nat) : Reg := ⟨0xc000c + 0x100000000 * i, 0x10000⟩
/-- Field 31:16 of `QUE_CFG1`. -/
def QUE_CFG1_MIN (i : Nat) : Fld := ⟨QUE_CFG1 i, 31, 16⟩
/-- `QUE_CFG2` (R375). -/
def QUE_CFG2 (i : Nat) : Reg := ⟨0xc0010 + 0x100000000 * i, 0x400⟩
/-- Field 22:0 of `QUE_CFG2`. -/
def QUE_CFG2_MAX (i : Nat) : Fld := ⟨QUE_CFG2 i, 22, 0⟩
/-- `QUE_CFG3` (R375). -/
def QUE_CFG3 (i : Nat) : Reg := ⟨0xc0014 + 0x100000000 * i, 0⟩
/-- Field 19:0 of `QUE_CFG3`. -/
def QUE_CFG3_RATE (i : Nat) : Fld := ⟨QUE_CFG3 i, 19, 0⟩
/-- `QUE_CFG4` (R375). -/
def QUE_CFG4 (i : Nat) : Reg := ⟨0xc0018 + 0x100000000 * i, 0⟩
/-- Field 31:30 of `QUE_CFG4`. -/
def QUE_CFG4_DEST (i : Nat) : Fld := ⟨QUE_CFG4 i, 31, 30⟩
/-- Field 29:24 of `QUE_CFG4`. -/
def QUE_CFG4_SHEET (i : Nat) : Fld := ⟨QUE_CFG4 i, 29, 24⟩
/-- Field 11:0 of `QUE_CFG4`. -/
def QUE_CFG4_ID (i : Nat) : Fld := ⟨QUE_CFG4 i, 11, 0⟩
/-- `QUE_CFG5` (R375). -/
def QUE_CFG5 (i : Nat) : Reg := ⟨0xc001c + 0x100000000 * i, 0⟩
/-- Field 31:27 of `QUE_CFG5`. -/
def QUE_CFG5_TILE_LOG2 (i : Nat) : Fld := ⟨QUE_CFG5 i, 31, 27⟩
/-- Field 15:0 of `QUE_CFG5`. -/
def QUE_CFG5_FLUSH (i : Nat) : Fld := ⟨QUE_CFG5 i, 15, 0⟩
/-- `QUE_STAT` (R375). -/
def QUE_STAT (i : Nat) : Reg := ⟨0xc0020 + 0x100000000 * i, 0⟩
/-- Field 31:24 of `QUE_STAT`. -/
def QUE_STAT_CODE (i : Nat) : Fld := ⟨QUE_STAT i, 31, 24⟩
/-- Field 23:22 of `QUE_STAT`. -/
def QUE_STAT_STATE (i : Nat) : Fld := ⟨QUE_STAT i, 23, 22⟩
/-- Field 21:21 of `QUE_STAT`. -/
def QUE_STAT_ELASTIC (i : Nat) : Fld := ⟨QUE_STAT i, 21, 21⟩
/-- Field 20:20 of `QUE_STAT`. -/
def QUE_STAT_GAP_SEEN (i : Nat) : Fld := ⟨QUE_STAT i, 20, 20⟩
/-- Field 19:19 of `QUE_STAT`. -/
def QUE_STAT_MAX_SEEN (i : Nat) : Fld := ⟨QUE_STAT i, 19, 19⟩
/-- Field 18:18 of `QUE_STAT`. -/
def QUE_STAT_STALL_SEEN (i : Nat) : Fld := ⟨QUE_STAT i, 18, 18⟩
/-- `QUE_HELD` (R375). -/
def QUE_HELD (i : Nat) : Reg := ⟨0xc0024 + 0x100000000 * i, 0⟩
/-- Field 31:24 of `QUE_HELD`. -/
def QUE_HELD_NEAR (i : Nat) : Fld := ⟨QUE_HELD i, 31, 24⟩
/-- Field 22:0 of `QUE_HELD`. -/
def QUE_HELD_PLOTS (i : Nat) : Fld := ⟨QUE_HELD i, 22, 0⟩
/-- `QUE_BYTES_LO` (R375). -/
def QUE_BYTES_LO (i : Nat) : Reg := ⟨0xc0028 + 0x100000000 * i, 0⟩
/-- Field 31:0 of `QUE_BYTES_LO`. -/
def QUE_BYTES_LO_V (i : Nat) : Fld := ⟨QUE_BYTES_LO i, 31, 0⟩
/-- `QUE_BYTES_HI` (R375). -/
def QUE_BYTES_HI (i : Nat) : Reg := ⟨0xc002c + 0x100000000 * i, 0⟩
/-- Field 31:0 of `QUE_BYTES_HI`. -/
def QUE_BYTES_HI_V (i : Nat) : Fld := ⟨QUE_BYTES_HI i, 31, 0⟩
/-- `QUE_GAP_FIRST_LO` (R375). -/
def QUE_GAP_FIRST_LO (i : Nat) : Reg := ⟨0xc0030 + 0x100000000 * i, 0⟩
/-- Field 31:0 of `QUE_GAP_FIRST_LO`. -/
def QUE_GAP_FIRST_LO_V (i : Nat) : Fld := ⟨QUE_GAP_FIRST_LO i, 31, 0⟩
/-- `QUE_GAP_FIRST_HI` (R375). -/
def QUE_GAP_FIRST_HI (i : Nat) : Reg := ⟨0xc0034 + 0x100000000 * i, 0⟩
/-- Field 31:0 of `QUE_GAP_FIRST_HI`. -/
def QUE_GAP_FIRST_HI_V (i : Nat) : Fld := ⟨QUE_GAP_FIRST_HI i, 31, 0⟩
/-- `QUE_GAP_LAST_LO` (R375). -/
def QUE_GAP_LAST_LO (i : Nat) : Reg := ⟨0xc0038 + 0x100000000 * i, 0⟩
/-- Field 31:0 of `QUE_GAP_LAST_LO`. -/
def QUE_GAP_LAST_LO_V (i : Nat) : Fld := ⟨QUE_GAP_LAST_LO i, 31, 0⟩
/-- `QUE_GAP_LAST_HI` (R375). -/
def QUE_GAP_LAST_HI (i : Nat) : Reg := ⟨0xc003c + 0x100000000 * i, 0⟩
/-- Field 31:0 of `QUE_GAP_LAST_HI`. -/
def QUE_GAP_LAST_HI_V (i : Nat) : Fld := ⟨QUE_GAP_LAST_HI i, 31, 0⟩
/-- `QUE_GAPS` (R375). -/
def QUE_GAPS (i : Nat) : Reg := ⟨0xc0040 + 0x100000000 * i, 0⟩
/-- Field 31:0 of `QUE_GAPS`. -/
def QUE_GAPS_V (i : Nat) : Fld := ⟨QUE_GAPS i, 31, 0⟩
/-- `QUE_DROP` (R375). -/
def QUE_DROP (i : Nat) : Reg := ⟨0xc0044 + 0x100000000 * i, 0⟩
/-- Field 31:0 of `QUE_DROP`. -/
def QUE_DROP_V (i : Nat) : Fld := ⟨QUE_DROP i, 31, 0⟩
/-- `CMP_STAT` (R345). -/
def CMP_STAT : Reg := ⟨0xd0000, 3⟩
/-- Field 3:3 of `CMP_STAT`. -/
def CMP_STAT_ECC_SEEN : Fld := ⟨CMP_STAT, 3, 3⟩
/-- Field 2:2 of `CMP_STAT`. -/
def CMP_STAT_FAULT_SEEN : Fld := ⟨CMP_STAT, 2, 2⟩
/-- Field 1:1 of `CMP_STAT`. -/
def CMP_STAT_BANK1_ASLEEP : Fld := ⟨CMP_STAT, 1, 1⟩
/-- Field 0:0 of `CMP_STAT`. -/
def CMP_STAT_BANK0_ASLEEP : Fld := ⟨CMP_STAT, 0, 0⟩
/-- `CMP_ENG` (R345). -/
def CMP_ENG (i : Nat) : Reg := ⟨0xd0100 + 4 * i, 0x40000000⟩
/-- Field 31:30 of `CMP_ENG`. -/
def CMP_ENG_STATE (i : Nat) : Fld := ⟨CMP_ENG i, 31, 30⟩
/-- Field 25:16 of `CMP_ENG`. -/
def CMP_ENG_STREAMS (i : Nat) : Fld := ⟨CMP_ENG i, 25, 16⟩
/-- Field 9:0 of `CMP_ENG`. -/
def CMP_ENG_LOAD (i : Nat) : Fld := ⟨CMP_ENG i, 9, 0⟩
/-- `CMP_DX` (R345). -/
def CMP_DX (i : Nat) : Reg := ⟨0xd0200 + 4 * i, 0x40000000⟩
/-- Field 31:31 of `CMP_DX`. -/
def CMP_DX_BUSY (i : Nat) : Fld := ⟨CMP_DX i, 31, 31⟩
/-- Field 30:30 of `CMP_DX`. -/
def CMP_DX_ASLEEP (i : Nat) : Fld := ⟨CMP_DX i, 30, 30⟩
/-- Field 4:0 of `CMP_DX`. -/
def CMP_DX_BOROUGH (i : Nat) : Fld := ⟨CMP_DX i, 4, 0⟩
/-- `CMP_ERRCNT` (R345). -/
def CMP_ERRCNT (i : Nat) : Reg := ⟨0xd0304 + 4 * i, 0⟩
/-- Field 31:0 of `CMP_ERRCNT`. -/
def CMP_ERRCNT_V (i : Nat) : Fld := ⟨CMP_ERRCNT i, 31, 0⟩
/-- `CMP_RAW` (R345). -/
def CMP_RAW (i : Nat) : Reg := ⟨0xd1000 + 4 * i, 0x400⟩
/-- Field 31:31 of `CMP_RAW`. -/
def CMP_RAW_EN (i : Nat) : Fld := ⟨CMP_RAW i, 31, 31⟩
/-- Field 30:30 of `CMP_RAW`. -/
def CMP_RAW_QEN (i : Nat) : Fld := ⟨CMP_RAW i, 30, 30⟩
/-- Field 29:16 of `CMP_RAW`. -/
def CMP_RAW_QUEUE (i : Nat) : Fld := ⟨CMP_RAW i, 29, 16⟩
/-- Field 15:11 of `CMP_RAW`. -/
def CMP_RAW_TILE_LOG2 (i : Nat) : Fld := ⟨CMP_RAW i, 15, 11⟩
/-- Field 10:8 of `CMP_RAW`. -/
def CMP_RAW_POLICY (i : Nat) : Fld := ⟨CMP_RAW i, 10, 8⟩
/-- `CMP_RAW_STAT` (R345). -/
def CMP_RAW_STAT (i : Nat) : Reg := ⟨0xd2000 + 4 * i, 0⟩
/-- Field 31:24 of `CMP_RAW_STAT`. -/
def CMP_RAW_STAT_CODE (i : Nat) : Fld := ⟨CMP_RAW_STAT i, 31, 24⟩
/-- Field 23:20 of `CMP_RAW_STAT`. -/
def CMP_RAW_STAT_ENGINE (i : Nat) : Fld := ⟨CMP_RAW_STAT i, 23, 20⟩
/-- Field 19:19 of `CMP_RAW_STAT`. -/
def CMP_RAW_STAT_ASSIGNED (i : Nat) : Fld := ⟨CMP_RAW_STAT i, 19, 19⟩
/-- Field 18:18 of `CMP_RAW_STAT`. -/
def CMP_RAW_STAT_ACTIVE (i : Nat) : Fld := ⟨CMP_RAW_STAT i, 18, 18⟩
/-- Field 17:17 of `CMP_RAW_STAT`. -/
def CMP_RAW_STAT_STALL_SEEN (i : Nat) : Fld := ⟨CMP_RAW_STAT i, 17, 17⟩
/-- `CMP_JOB_CTL` (R345). -/
def CMP_JOB_CTL (i : Nat) : Reg := ⟨0xd8000 + 256 * i, 0⟩
/-- Field 31:31 of `CMP_JOB_CTL`. -/
def CMP_JOB_CTL_EN (i : Nat) : Fld := ⟨CMP_JOB_CTL i, 31, 31⟩
/-- Field 3:0 of `CMP_JOB_CTL`. -/
def CMP_JOB_CTL_SIZE (i : Nat) : Fld := ⟨CMP_JOB_CTL i, 3, 0⟩
/-- `CMP_JOB_STAT` (R345). -/
def CMP_JOB_STAT (i : Nat) : Reg := ⟨0xd8004 + 256 * i, 0⟩
/-- Field 31:31 of `CMP_JOB_STAT`. -/
def CMP_JOB_STAT_SUSPENDED (i : Nat) : Fld := ⟨CMP_JOB_STAT i, 31, 31⟩
/-- Field 30:30 of `CMP_JOB_STAT`. -/
def CMP_JOB_STAT_RUNNING (i : Nat) : Fld := ⟨CMP_JOB_STAT i, 30, 30⟩
/-- Field 1:1 of `CMP_JOB_STAT`. -/
def CMP_JOB_STAT_MORE (i : Nat) : Fld := ⟨CMP_JOB_STAT i, 1, 1⟩
/-- Field 0:0 of `CMP_JOB_STAT`. -/
def CMP_JOB_STAT_ABORT (i : Nat) : Fld := ⟨CMP_JOB_STAT i, 0, 0⟩
/-- `CMP_JOB_BASE_LO` (R345). -/
def CMP_JOB_BASE_LO (i : Nat) : Reg := ⟨0xd8008 + 256 * i, 0⟩
/-- Field 31:6 of `CMP_JOB_BASE_LO`. -/
def CMP_JOB_BASE_LO_V (i : Nat) : Fld := ⟨CMP_JOB_BASE_LO i, 31, 6⟩
/-- `CMP_JOB_BASE_HI` (R345). -/
def CMP_JOB_BASE_HI (i : Nat) : Reg := ⟨0xd800c + 256 * i, 0⟩
/-- Field 31:0 of `CMP_JOB_BASE_HI`. -/
def CMP_JOB_BASE_HI_V (i : Nat) : Fld := ⟨CMP_JOB_BASE_HI i, 31, 0⟩
/-- `CMP_JOB_PI` (R345). -/
def CMP_JOB_PI (i : Nat) : Reg := ⟨0xd8010 + 256 * i, 0⟩
/-- Field 15:0 of `CMP_JOB_PI`. -/
def CMP_JOB_PI_V (i : Nat) : Fld := ⟨CMP_JOB_PI i, 15, 0⟩
/-- `CMP_JOB_CI` (R345). -/
def CMP_JOB_CI (i : Nat) : Reg := ⟨0xd8014 + 256 * i, 0⟩
/-- Field 15:0 of `CMP_JOB_CI`. -/
def CMP_JOB_CI_V (i : Nat) : Fld := ⟨CMP_JOB_CI i, 15, 0⟩
/-- `CMP_JOB_MORE_LO` (R345). -/
def CMP_JOB_MORE_LO (i : Nat) : Reg := ⟨0xd8018 + 256 * i, 0⟩
/-- Field 31:0 of `CMP_JOB_MORE_LO`. -/
def CMP_JOB_MORE_LO_V (i : Nat) : Fld := ⟨CMP_JOB_MORE_LO i, 31, 0⟩
/-- `CMP_JOB_MORE_HI` (R345). -/
def CMP_JOB_MORE_HI (i : Nat) : Reg := ⟨0xd801c + 256 * i, 0⟩
/-- Field 31:0 of `CMP_JOB_MORE_HI`. -/
def CMP_JOB_MORE_HI_V (i : Nat) : Fld := ⟨CMP_JOB_MORE_HI i, 31, 0⟩
/-- `CMP_JOB_MORE_LEN` (R345). -/
def CMP_JOB_MORE_LEN (i : Nat) : Reg := ⟨0xd8020 + 256 * i, 0⟩
/-- Field 31:0 of `CMP_JOB_MORE_LEN`. -/
def CMP_JOB_MORE_LEN_V (i : Nat) : Fld := ⟨CMP_JOB_MORE_LEN i, 31, 0⟩
/-- `TRG_CTL` (R314). -/
def TRG_CTL : Reg := ⟨0xe0000, 0⟩
/-- Field 31:31 of `TRG_CTL`. -/
def TRG_CTL_FPD_FWD : Fld := ⟨TRG_CTL, 31, 31⟩
/-- Field 15:15 of `TRG_CTL`. -/
def TRG_CTL_S_EN : Fld := ⟨TRG_CTL, 15, 15⟩
/-- Field 13:0 of `TRG_CTL`. -/
def TRG_CTL_SQUEUE : Fld := ⟨TRG_CTL, 13, 0⟩
/-- `TRG_STAT` (R314). -/
def TRG_STAT : Reg := ⟨0xe0004, 0x80000000⟩
/-- Field 31:27 of `TRG_STAT`. -/
def TRG_STAT_FREE : Fld := ⟨TRG_STAT, 31, 27⟩
/-- `TRG_RING_CTL` (R314). -/
def TRG_RING_CTL : Reg := ⟨0xe0010, 0⟩
/-- Field 31:31 of `TRG_RING_CTL`. -/
def TRG_RING_CTL_EN : Fld := ⟨TRG_RING_CTL, 31, 31⟩
/-- Field 28:24 of `TRG_RING_CTL`. -/
def TRG_RING_CTL_TILE_LOG2 : Fld := ⟨TRG_RING_CTL, 28, 24⟩
/-- Field 23:12 of `TRG_RING_CTL`. -/
def TRG_RING_CTL_MIN : Fld := ⟨TRG_RING_CTL, 23, 12⟩
/-- Field 11:0 of `TRG_RING_CTL`. -/
def TRG_RING_CTL_PLOTS : Fld := ⟨TRG_RING_CTL, 11, 0⟩
/-- `TRG_RING_STAT` (R314). -/
def TRG_RING_STAT : Reg := ⟨0xe0014, 0⟩
/-- Field 31:16 of `TRG_RING_STAT`. -/
def TRG_RING_STAT_DEPTH : Fld := ⟨TRG_RING_STAT, 31, 16⟩
/-- `TRG_RING_USED` (R314). -/
def TRG_RING_USED : Reg := ⟨0xe0018, 0⟩
/-- Field 31:0 of `TRG_RING_USED`. -/
def TRG_RING_USED_V : Fld := ⟨TRG_RING_USED, 31, 0⟩
/-- `TRG_RING_HELD` (R314). -/
def TRG_RING_HELD : Reg := ⟨0xe001c, 0⟩
/-- Field 31:0 of `TRG_RING_HELD`. -/
def TRG_RING_HELD_V : Fld := ⟨TRG_RING_HELD, 31, 0⟩
/-- `TRG_RING_MASK` (R314). -/
def TRG_RING_MASK (i : Nat) : Reg := ⟨0xe0080 + 4 * i, 0⟩
/-- Field 31:0 of `TRG_RING_MASK`. -/
def TRG_RING_MASK_V (i : Nat) : Fld := ⟨TRG_RING_MASK i, 31, 0⟩
/-- `TRG_NET` (R314). -/
def TRG_NET : Reg := ⟨0xe0100, 1000⟩
/-- Field 31:16 of `TRG_NET`. -/
def TRG_NET_PORT : Fld := ⟨TRG_NET, 31, 16⟩
/-- Field 15:15 of `TRG_NET`. -/
def TRG_NET_CLR : Fld := ⟨TRG_NET, 15, 15⟩
/-- Field 14:0 of `TRG_NET`. -/
def TRG_NET_AGE : Fld := ⟨TRG_NET, 14, 0⟩
/-- `TRG_NET_REF` (R314). -/
def TRG_NET_REF : Reg := ⟨0xe0104, 0⟩
/-- Field 31:0 of `TRG_NET_REF`. -/
def TRG_NET_REF_V : Fld := ⟨TRG_NET_REF, 31, 0⟩
/-- `TRG_SRC_SKEW` (R314). -/
def TRG_SRC_SKEW (i : Nat) : Reg := ⟨0xe0200 + 4 * i, 0⟩
/-- Field 31:0 of `TRG_SRC_SKEW`. -/
def TRG_SRC_SKEW_V (i : Nat) : Fld := ⟨TRG_SRC_SKEW i, 31, 0⟩
/-- `TRG_OUT_CFG` (R314). -/
def TRG_OUT_CFG (i : Nat) : Reg := ⟨0xe1000 + 32 * i, 0⟩
/-- Field 31:30 of `TRG_OUT_CFG`. -/
def TRG_OUT_CFG_ARM (i : Nat) : Fld := ⟨TRG_OUT_CFG i, 31, 30⟩
/-- Field 29:29 of `TRG_OUT_CFG`. -/
def TRG_OUT_CFG_RETRIG (i : Nat) : Fld := ⟨TRG_OUT_CFG i, 29, 29⟩
/-- Field 28:28 of `TRG_OUT_CFG`. -/
def TRG_OUT_CFG_CAP_EN (i : Nat) : Fld := ⟨TRG_OUT_CFG i, 28, 28⟩
/-- Field 26:22 of `TRG_OUT_CFG`. -/
def TRG_OUT_CFG_SRC (i : Nat) : Fld := ⟨TRG_OUT_CFG i, 26, 22⟩
/-- Field 21:16 of `TRG_OUT_CFG`. -/
def TRG_OUT_CFG_FPD_DIST (i : Nat) : Fld := ⟨TRG_OUT_CFG i, 21, 16⟩
/-- Field 15:0 of `TRG_OUT_CFG`. -/
def TRG_OUT_CFG_HOLDOFF (i : Nat) : Fld := ⟨TRG_OUT_CFG i, 15, 0⟩
/-- `TRG_OUT_ACT` (R314). -/
def TRG_OUT_ACT (i : Nat) : Reg := ⟨0xe1004 + 32 * i, 0⟩
/-- Field 31:31 of `TRG_OUT_ACT`. -/
def TRG_OUT_ACT_SIG_EN (i : Nat) : Fld := ⟨TRG_OUT_ACT i, 31, 31⟩
/-- Field 30:26 of `TRG_OUT_ACT`. -/
def TRG_OUT_ACT_SIG (i : Nat) : Fld := ⟨TRG_OUT_ACT i, 30, 26⟩
/-- Field 25:25 of `TRG_OUT_ACT`. -/
def TRG_OUT_ACT_ILN_EN (i : Nat) : Fld := ⟨TRG_OUT_ACT i, 25, 25⟩
/-- Field 24:23 of `TRG_OUT_ACT`. -/
def TRG_OUT_ACT_ILN (i : Nat) : Fld := ⟨TRG_OUT_ACT i, 24, 23⟩
/-- Field 22:22 of `TRG_OUT_ACT`. -/
def TRG_OUT_ACT_MODE (i : Nat) : Fld := ⟨TRG_OUT_ACT i, 22, 22⟩
/-- Field 21:21 of `TRG_OUT_ACT`. -/
def TRG_OUT_ACT_STRM (i : Nat) : Fld := ⟨TRG_OUT_ACT i, 21, 21⟩
/-- `TRG_OUT_STAT` (R314). -/
def TRG_OUT_STAT (i : Nat) : Reg := ⟨0xe1008 + 32 * i, 0⟩
/-- Field 31:24 of `TRG_OUT_STAT`. -/
def TRG_OUT_STAT_CODE (i : Nat) : Fld := ⟨TRG_OUT_STAT i, 31, 24⟩
/-- Field 23:22 of `TRG_OUT_STAT`. -/
def TRG_OUT_STAT_STATE (i : Nat) : Fld := ⟨TRG_OUT_STAT i, 23, 22⟩
/-- Field 21:21 of `TRG_OUT_STAT`. -/
def TRG_OUT_STAT_LATE_SEEN (i : Nat) : Fld := ⟨TRG_OUT_STAT i, 21, 21⟩
/-- Field 20:20 of `TRG_OUT_STAT`. -/
def TRG_OUT_STAT_CLIP_SEEN (i : Nat) : Fld := ⟨TRG_OUT_STAT i, 20, 20⟩
/-- Field 0:0 of `TRG_OUT_STAT`. -/
def TRG_OUT_STAT_FIRE (i : Nat) : Fld := ⟨TRG_OUT_STAT i, 0, 0⟩
/-- `TRG_OUT_REF` (R314). -/
def TRG_OUT_REF (i : Nat) : Reg := ⟨0xe100c + 32 * i, 0⟩
/-- Field 31:0 of `TRG_OUT_REF`. -/
def TRG_OUT_REF_V (i : Nat) : Fld := ⟨TRG_OUT_REF i, 31, 0⟩
/-- `TRG_OUT_TIM` (R314). -/
def TRG_OUT_TIM (i : Nat) : Reg := ⟨0xe1010 + 32 * i, 0⟩
/-- Field 31:16 of `TRG_OUT_TIM`. -/
def TRG_OUT_TIM_OUT_W (i : Nat) : Fld := ⟨TRG_OUT_TIM i, 31, 16⟩
/-- Field 15:0 of `TRG_OUT_TIM`. -/
def TRG_OUT_TIM_OUT_DLY (i : Nat) : Fld := ⟨TRG_OUT_TIM i, 15, 0⟩
/-- `TRG_CAP0` (R314). -/
def TRG_CAP0 (i : Nat) : Reg := ⟨0xe1014 + 32 * i, 0⟩
/-- Field 31:28 of `TRG_CAP0`. -/
def TRG_CAP0_SET (i : Nat) : Fld := ⟨TRG_CAP0 i, 31, 28⟩
/-- Field 27:25 of `TRG_CAP0`. -/
def TRG_CAP0_GRID (i : Nat) : Fld := ⟨TRG_CAP0 i, 27, 25⟩
/-- Field 24:23 of `TRG_CAP0`. -/
def TRG_CAP0_STAB (i : Nat) : Fld := ⟨TRG_CAP0 i, 24, 23⟩
/-- Field 13:0 of `TRG_CAP0`. -/
def TRG_CAP0_QUEUE (i : Nat) : Fld := ⟨TRG_CAP0 i, 13, 0⟩
/-- `TRG_CAP1` (R314). -/
def TRG_CAP1 (i : Nat) : Reg := ⟨0xe1018 + 32 * i, 0⟩
/-- Field 31:0 of `TRG_CAP1`. -/
def TRG_CAP1_PRE (i : Nat) : Fld := ⟨TRG_CAP1 i, 31, 0⟩
/-- `TRG_CAP2` (R314). -/
def TRG_CAP2 (i : Nat) : Reg := ⟨0xe101c + 32 * i, 0⟩
/-- Field 31:0 of `TRG_CAP2`. -/
def TRG_CAP2_POST (i : Nat) : Fld := ⟨TRG_CAP2 i, 31, 0⟩
/-- `TRG_CAPSET` (R314). -/
def TRG_CAPSET (i j : Nat) : Reg := ⟨0xe4000 + 128 * i + 4 * j, 0⟩
/-- Field 31:0 of `TRG_CAPSET`. -/
def TRG_CAPSET_V (i j : Nat) : Fld := ⟨TRG_CAPSET i j, 31, 0⟩
/-- `GAZ_CTL` (R601). -/
def GAZ_CTL : Reg := ⟨0xf0000, 0⟩
/-- Field 31:31 of `GAZ_CTL`. -/
def GAZ_CTL_ROOT : Fld := ⟨GAZ_CTL, 31, 31⟩
/-- `GAZ_CFG` (R601). -/
def GAZ_CFG : Reg := ⟨0xf0004, 0x03E80064⟩
/-- Field 31:16 of `GAZ_CFG`. -/
def GAZ_CFG_COLLECT : Fld := ⟨GAZ_CFG, 31, 16⟩
/-- Field 15:0 of `GAZ_CFG`. -/
def GAZ_CFG_RETRY : Fld := ⟨GAZ_CFG, 15, 0⟩
/-- `GAZ_DIGEST` (R601). -/
def GAZ_DIGEST : Reg := ⟨0xf0008, 1000⟩
/-- Field 19:0 of `GAZ_DIGEST`. -/
def GAZ_DIGEST_WINDOW : Fld := ⟨GAZ_DIGEST, 19, 0⟩
/-- `GAZ_FR` (R601). -/
def GAZ_FR : Reg := ⟨0xf000c, 0⟩
/-- Field 31:31 of `GAZ_FR`. -/
def GAZ_FR_EN : Fld := ⟨GAZ_FR, 31, 31⟩
/-- Field 15:0 of `GAZ_FR`. -/
def GAZ_FR_PORT : Fld := ⟨GAZ_FR, 15, 0⟩
/-- `GAZ_DQ` (R601). -/
def GAZ_DQ : Reg := ⟨0xf0010, 0⟩
/-- Field 31:31 of `GAZ_DQ`. -/
def GAZ_DQ_EN : Fld := ⟨GAZ_DQ, 31, 31⟩
/-- Field 13:0 of `GAZ_DQ`. -/
def GAZ_DQ_QUEUE : Fld := ⟨GAZ_DQ, 13, 0⟩
/-- `GAZ_SELF` (R601). -/
def GAZ_SELF (i : Nat) : Reg := ⟨0xf0014 + 4 * i, 0⟩
/-- Field 31:31 of `GAZ_SELF`. -/
def GAZ_SELF_V1 (i : Nat) : Fld := ⟨GAZ_SELF i, 31, 31⟩
/-- Field 27:16 of `GAZ_SELF`. -/
def GAZ_SELF_D1 (i : Nat) : Fld := ⟨GAZ_SELF i, 27, 16⟩
/-- Field 15:15 of `GAZ_SELF`. -/
def GAZ_SELF_V0 (i : Nat) : Fld := ⟨GAZ_SELF i, 15, 15⟩
/-- Field 11:0 of `GAZ_SELF`. -/
def GAZ_SELF_D0 (i : Nat) : Fld := ⟨GAZ_SELF i, 11, 0⟩
/-- `GAZ_ENTRIES` (R601). -/
def GAZ_ENTRIES : Reg := ⟨0xf0020, 0⟩
/-- Field 25:0 of `GAZ_ENTRIES`. -/
def GAZ_ENTRIES_V : Fld := ⟨GAZ_ENTRIES, 25, 0⟩
/-- `GAZ_OPEN` (R601). -/
def GAZ_OPEN : Reg := ⟨0xf0024, 0⟩
/-- Field 26:16 of `GAZ_OPEN`. -/
def GAZ_OPEN_DIGESTS : Fld := ⟨GAZ_OPEN, 26, 16⟩
/-- Field 12:0 of `GAZ_OPEN`. -/
def GAZ_OPEN_SENDS : Fld := ⟨GAZ_OPEN, 12, 0⟩
/-- `GAZ_EPOCH_LO` (R601). -/
def GAZ_EPOCH_LO : Reg := ⟨0xf0028, 0⟩
/-- Field 31:0 of `GAZ_EPOCH_LO`. -/
def GAZ_EPOCH_LO_V : Fld := ⟨GAZ_EPOCH_LO, 31, 0⟩
/-- `GAZ_EPOCH_HI` (R601). -/
def GAZ_EPOCH_HI : Reg := ⟨0xf002c, 0⟩
/-- Field 15:0 of `GAZ_EPOCH_HI`. -/
def GAZ_EPOCH_HI_V : Fld := ⟨GAZ_EPOCH_HI, 15, 0⟩
/-- `GAZ_CTR_LO` (R601). -/
def GAZ_CTR_LO : Reg := ⟨0xf0030, 1⟩
/-- Field 31:0 of `GAZ_CTR_LO`. -/
def GAZ_CTR_LO_V : Fld := ⟨GAZ_CTR_LO, 31, 0⟩
/-- `GAZ_CTR_HI` (R601). -/
def GAZ_CTR_HI : Reg := ⟨0xf0034, 0⟩
/-- Field 31:0 of `GAZ_CTR_HI`. -/
def GAZ_CTR_HI_V : Fld := ⟨GAZ_CTR_HI, 31, 0⟩
/-- `GAZ_FR_REF` (R601). -/
def GAZ_FR_REF : Reg := ⟨0xf0040, 0⟩
/-- Field 31:0 of `GAZ_FR_REF`. -/
def GAZ_FR_REF_V : Fld := ⟨GAZ_FR_REF, 31, 0⟩
/-- `GAZ_DIGEST_DROP` (R601). -/
def GAZ_DIGEST_DROP : Reg := ⟨0xf0044, 0⟩
/-- Field 31:0 of `GAZ_DIGEST_DROP`. -/
def GAZ_DIGEST_DROP_V : Fld := ⟨GAZ_DIGEST_DROP, 31, 0⟩
/-- `GAZ_LATE` (R601). -/
def GAZ_LATE : Reg := ⟨0xf0048, 0⟩
/-- Field 31:0 of `GAZ_LATE`. -/
def GAZ_LATE_V : Fld := ⟨GAZ_LATE, 31, 0⟩
/-- `GAZ_DQ_DROP` (R601). -/
def GAZ_DQ_DROP : Reg := ⟨0xf004c, 0⟩
/-- Field 31:0 of `GAZ_DQ_DROP`. -/
def GAZ_DQ_DROP_V : Fld := ⟨GAZ_DQ_DROP, 31, 0⟩
/-- `GAZ_DSEL` (R601). -/
def GAZ_DSEL : Reg := ⟨0xf0100, 0⟩
/-- Field 11:0 of `GAZ_DSEL`. -/
def GAZ_DSEL_V : Fld := ⟨GAZ_DSEL, 11, 0⟩
/-- `GAZ_D_MEMBERS` (R601). -/
def GAZ_D_MEMBERS (i : Nat) : Reg := ⟨0xf0104 + 0x100000000 * i, 0⟩
/-- Field 25:0 of `GAZ_D_MEMBERS`. -/
def GAZ_D_MEMBERS_V (i : Nat) : Fld := ⟨GAZ_D_MEMBERS i, 25, 0⟩
/-- `GAZ_D_STAT` (R601). -/
def GAZ_D_STAT (i : Nat) : Reg := ⟨0xf0108 + 0x100000000 * i, 0⟩
/-- Field 31:31 of `GAZ_D_STAT`. -/
def GAZ_D_STAT_OUT (i : Nat) : Fld := ⟨GAZ_D_STAT i, 31, 31⟩
/-- Field 30:30 of `GAZ_D_STAT`. -/
def GAZ_D_STAT_INCOMPLETE (i : Nat) : Fld := ⟨GAZ_D_STAT i, 30, 30⟩
/-- `GAZ_D_APPLIED` (R601). -/
def GAZ_D_APPLIED (i : Nat) : Reg := ⟨0xf010c + 0x100000000 * i, 0⟩
/-- Field 31:0 of `GAZ_D_APPLIED`. -/
def GAZ_D_APPLIED_V (i : Nat) : Fld := ⟨GAZ_D_APPLIED i, 31, 0⟩
/-- `GAZ_D_REFUSED` (R601). -/
def GAZ_D_REFUSED (i : Nat) : Reg := ⟨0xf0110 + 0x100000000 * i, 0⟩
/-- Field 31:0 of `GAZ_D_REFUSED`. -/
def GAZ_D_REFUSED_V (i : Nat) : Fld := ⟨GAZ_D_REFUSED i, 31, 0⟩
/-- `GAZ_D_SILENT` (R601). -/
def GAZ_D_SILENT (i : Nat) : Reg := ⟨0xf0114 + 0x100000000 * i, 0⟩
/-- Field 31:0 of `GAZ_D_SILENT`. -/
def GAZ_D_SILENT_V (i : Nat) : Fld := ⟨GAZ_D_SILENT i, 31, 0⟩
/-- `GAZ_D_EPOCH_LO` (R601). -/
def GAZ_D_EPOCH_LO (i : Nat) : Reg := ⟨0xf0118 + 0x100000000 * i, 0⟩
/-- Field 31:0 of `GAZ_D_EPOCH_LO`. -/
def GAZ_D_EPOCH_LO_V (i : Nat) : Fld := ⟨GAZ_D_EPOCH_LO i, 31, 0⟩
/-- `GAZ_D_EPOCH_HI` (R601). -/
def GAZ_D_EPOCH_HI (i : Nat) : Reg := ⟨0xf011c + 0x100000000 * i, 0⟩
/-- Field 15:0 of `GAZ_D_EPOCH_HI`. -/
def GAZ_D_EPOCH_HI_V (i : Nat) : Fld := ⟨GAZ_D_EPOCH_HI i, 15, 0⟩
/-- `RED_CTL` (R491). -/
def RED_CTL : Reg := ⟨0x100000, 20⟩
/-- Field 13:0 of `RED_CTL`. -/
def RED_CTL_REWIND : Fld := ⟨RED_CTL, 13, 0⟩
/-- `RED_HB` (R491). -/
def RED_HB : Reg := ⟨0x100004, 0⟩
/-- Field 31:31 of `RED_HB`. -/
def RED_HB_EN : Fld := ⟨RED_HB, 31, 31⟩
/-- Field 23:16 of `RED_HB`. -/
def RED_HB_ADDR : Fld := ⟨RED_HB, 23, 16⟩
/-- Field 15:0 of `RED_HB`. -/
def RED_HB_PORT : Fld := ⟨RED_HB, 15, 0⟩
/-- `RED_HB_TO` (R491). -/
def RED_HB_TO : Reg := ⟨0x100008, 10000⟩
/-- Field 23:0 of `RED_HB_TO`. -/
def RED_HB_TO_RX_TO : Fld := ⟨RED_HB_TO, 23, 0⟩
/-- `RED_HB_TX` (R491). -/
def RED_HB_TX : Reg := ⟨0x10000c, 2500⟩
/-- Field 23:0 of `RED_HB_TX`. -/
def RED_HB_TX_TX_PER : Fld := ⟨RED_HB_TX, 23, 0⟩
/-- `RED_PAIR` (R491). -/
def RED_PAIR (i : Nat) : Reg := ⟨0x100100 + 4 * i, 0⟩
/-- Field 31:26 of `RED_PAIR`. -/
def RED_PAIR_PORT_A (i : Nat) : Fld := ⟨RED_PAIR i, 31, 26⟩
/-- Field 23:18 of `RED_PAIR`. -/
def RED_PAIR_PORT_B (i : Nat) : Fld := ⟨RED_PAIR i, 23, 18⟩
/-- Field 17:17 of `RED_PAIR`. -/
def RED_PAIR_SIDE (i : Nat) : Fld := ⟨RED_PAIR i, 17, 17⟩
/-- Field 16:16 of `RED_PAIR`. -/
def RED_PAIR_A_FAILED (i : Nat) : Fld := ⟨RED_PAIR i, 16, 16⟩
/-- Field 15:15 of `RED_PAIR`. -/
def RED_PAIR_B_FAILED (i : Nat) : Fld := ⟨RED_PAIR i, 15, 15⟩
/-- Field 14:14 of `RED_PAIR`. -/
def RED_PAIR_SWITCH_SEEN (i : Nat) : Fld := ⟨RED_PAIR i, 14, 14⟩
/-- Field 13:0 of `RED_PAIR`. -/
def RED_PAIR_SWITCHES (i : Nat) : Fld := ⟨RED_PAIR i, 13, 0⟩
/-- `ETH_MAC_CFG` (R491). -/
def ETH_MAC_CFG (i : Nat) : Reg := ⟨0x110000 + 2048 * i, 0⟩
/-- Field 31:30 of `ETH_MAC_CFG`. -/
def ETH_MAC_CFG_MODE (i : Nat) : Fld := ⟨ETH_MAC_CFG i, 31, 30⟩
/-- Field 23:18 of `ETH_MAC_CFG`. -/
def ETH_MAC_CFG_SHEET (i : Nat) : Fld := ⟨ETH_MAC_CFG i, 23, 18⟩
/-- `ETH_MAC_STAT` (R491). -/
def ETH_MAC_STAT (i : Nat) : Reg := ⟨0x110004 + 2048 * i, 0⟩
/-- Field 31:31 of `ETH_MAC_STAT`. -/
def ETH_MAC_STAT_UP0 (i : Nat) : Fld := ⟨ETH_MAC_STAT i, 31, 31⟩
/-- Field 30:28 of `ETH_MAC_STAT`. -/
def ETH_MAC_STAT_CAUSE0 (i : Nat) : Fld := ⟨ETH_MAC_STAT i, 30, 28⟩
/-- Field 27:27 of `ETH_MAC_STAT`. -/
def ETH_MAC_STAT_NARROWED0 (i : Nat) : Fld := ⟨ETH_MAC_STAT i, 27, 27⟩
/-- Field 26:26 of `ETH_MAC_STAT`. -/
def ETH_MAC_STAT_DOWN_SEEN0 (i : Nat) : Fld := ⟨ETH_MAC_STAT i, 26, 26⟩
/-- Field 15:15 of `ETH_MAC_STAT`. -/
def ETH_MAC_STAT_UP1 (i : Nat) : Fld := ⟨ETH_MAC_STAT i, 15, 15⟩
/-- Field 14:12 of `ETH_MAC_STAT`. -/
def ETH_MAC_STAT_CAUSE1 (i : Nat) : Fld := ⟨ETH_MAC_STAT i, 14, 12⟩
/-- Field 11:11 of `ETH_MAC_STAT`. -/
def ETH_MAC_STAT_NARROWED1 (i : Nat) : Fld := ⟨ETH_MAC_STAT i, 11, 11⟩
/-- Field 10:10 of `ETH_MAC_STAT`. -/
def ETH_MAC_STAT_DOWN_SEEN1 (i : Nat) : Fld := ⟨ETH_MAC_STAT i, 10, 10⟩
/-- `ETH_RX_ERR` (R491). -/
def ETH_RX_ERR (i j : Nat) : Reg := ⟨0x110010 + 2048 * i + 64 * j, 0⟩
/-- Field 31:0 of `ETH_RX_ERR`. -/
def ETH_RX_ERR_V (i j : Nat) : Fld := ⟨ETH_RX_ERR i j, 31, 0⟩
/-- `ETH_RX_DISC` (R491). -/
def ETH_RX_DISC (i j : Nat) : Reg := ⟨0x110014 + 2048 * i + 64 * j, 0⟩
/-- Field 31:0 of `ETH_RX_DISC`. -/
def ETH_RX_DISC_V (i j : Nat) : Fld := ⟨ETH_RX_DISC i j, 31, 0⟩
/-- `ETH_RX_DUP` (R491). -/
def ETH_RX_DUP (i j : Nat) : Reg := ⟨0x110018 + 2048 * i + 64 * j, 0⟩
/-- Field 31:0 of `ETH_RX_DUP`. -/
def ETH_RX_DUP_V (i j : Nat) : Fld := ⟨ETH_RX_DUP i j, 31, 0⟩
/-- `ETH_RX_LOST` (R491). -/
def ETH_RX_LOST (i j : Nat) : Reg := ⟨0x11001c + 2048 * i + 64 * j, 0⟩
/-- Field 31:0 of `ETH_RX_LOST`. -/
def ETH_RX_LOST_V (i j : Nat) : Fld := ⟨ETH_RX_LOST i j, 31, 0⟩
/-- `ETH_FEC_UNC` (R491). -/
def ETH_FEC_UNC (i j : Nat) : Reg := ⟨0x110020 + 2048 * i + 64 * j, 0⟩
/-- Field 31:0 of `ETH_FEC_UNC`. -/
def ETH_FEC_UNC_V (i j : Nat) : Fld := ⟨ETH_FEC_UNC i j, 31, 0⟩
/-- `ETH_HTX_CTL` (R491). -/
def ETH_HTX_CTL (i : Nat) : Reg := ⟨0x110100 + 2048 * i, 0⟩
/-- Field 31:31 of `ETH_HTX_CTL`. -/
def ETH_HTX_CTL_EN (i : Nat) : Fld := ⟨ETH_HTX_CTL i, 31, 31⟩
/-- Field 3:0 of `ETH_HTX_CTL`. -/
def ETH_HTX_CTL_SIZE (i : Nat) : Fld := ⟨ETH_HTX_CTL i, 3, 0⟩
/-- `ETH_HRX_CTL` (R491). -/
def ETH_HRX_CTL (i : Nat) : Reg := ⟨0x110110 + 2048 * i, 0⟩
/-- Field 31:31 of `ETH_HRX_CTL`. -/
def ETH_HRX_CTL_EN (i : Nat) : Fld := ⟨ETH_HRX_CTL i, 31, 31⟩
/-- Field 3:0 of `ETH_HRX_CTL`. -/
def ETH_HRX_CTL_SIZE (i : Nat) : Fld := ⟨ETH_HRX_CTL i, 3, 0⟩
/-- `ETH_HTX_BASE_LO` (R491). -/
def ETH_HTX_BASE_LO (i : Nat) : Reg := ⟨0x110104 + 2048 * i, 0⟩
/-- Field 31:0 of `ETH_HTX_BASE_LO`. -/
def ETH_HTX_BASE_LO_V (i : Nat) : Fld := ⟨ETH_HTX_BASE_LO i, 31, 0⟩
/-- `ETH_HTX_BASE_HI` (R491). -/
def ETH_HTX_BASE_HI (i : Nat) : Reg := ⟨0x110108 + 2048 * i, 0⟩
/-- Field 31:0 of `ETH_HTX_BASE_HI`. -/
def ETH_HTX_BASE_HI_V (i : Nat) : Fld := ⟨ETH_HTX_BASE_HI i, 31, 0⟩
/-- `ETH_HTX_PI` (R491). -/
def ETH_HTX_PI (i : Nat) : Reg := ⟨0x11010c + 2048 * i, 0⟩
/-- Field 15:0 of `ETH_HTX_PI`. -/
def ETH_HTX_PI_V (i : Nat) : Fld := ⟨ETH_HTX_PI i, 15, 0⟩
/-- `ETH_HRX_BASE_LO` (R491). -/
def ETH_HRX_BASE_LO (i : Nat) : Reg := ⟨0x110114 + 2048 * i, 0⟩
/-- Field 31:0 of `ETH_HRX_BASE_LO`. -/
def ETH_HRX_BASE_LO_V (i : Nat) : Fld := ⟨ETH_HRX_BASE_LO i, 31, 0⟩
/-- `ETH_HRX_BASE_HI` (R491). -/
def ETH_HRX_BASE_HI (i : Nat) : Reg := ⟨0x110118 + 2048 * i, 0⟩
/-- Field 31:0 of `ETH_HRX_BASE_HI`. -/
def ETH_HRX_BASE_HI_V (i : Nat) : Fld := ⟨ETH_HRX_BASE_HI i, 31, 0⟩
/-- `ETH_HRX_PI` (R491). -/
def ETH_HRX_PI (i : Nat) : Reg := ⟨0x11011c + 2048 * i, 0⟩
/-- Field 15:0 of `ETH_HRX_PI`. -/
def ETH_HRX_PI_V (i : Nat) : Fld := ⟨ETH_HRX_PI i, 15, 0⟩
/-- `ETH_HRX_FULL` (R491). -/
def ETH_HRX_FULL (i : Nat) : Reg := ⟨0x110120 + 2048 * i, 0⟩
/-- Field 31:0 of `ETH_HRX_FULL`. -/
def ETH_HRX_FULL_V (i : Nat) : Fld := ⟨ETH_HRX_FULL i, 31, 0⟩
/-- `ETH_RXS` (R491). -/
def ETH_RXS : Reg := ⟨0x11f000, 0x00640000⟩
/-- Field 31:16 of `ETH_RXS`. -/
def ETH_RXS_MERGE : Fld := ⟨ETH_RXS, 31, 16⟩
/-- Field 15:0 of `ETH_RXS`. -/
def ETH_RXS_BASE : Fld := ⟨ETH_RXS, 15, 0⟩
/-- `MGB_BUS_CTL` (R698). -/
def MGB_BUS_CTL (i : Nat) : Reg := ⟨0x120000 + 4 * i, 0x19⟩
/-- Field 31:31 of `MGB_BUS_CTL`. -/
def MGB_BUS_CTL_EN (i : Nat) : Fld := ⟨MGB_BUS_CTL i, 31, 31⟩
/-- Field 30:29 of `MGB_BUS_CTL`. -/
def MGB_BUS_CTL_SPEED (i : Nat) : Fld := ⟨MGB_BUS_CTL i, 30, 29⟩
/-- Field 28:28 of `MGB_BUS_CTL`. -/
def MGB_BUS_CTL_ALERT (i : Nat) : Fld := ⟨MGB_BUS_CTL i, 28, 28⟩
/-- Field 27:27 of `MGB_BUS_CTL`. -/
def MGB_BUS_CTL_PEC (i : Nat) : Fld := ⟨MGB_BUS_CTL i, 27, 27⟩
/-- Field 7:0 of `MGB_BUS_CTL`. -/
def MGB_BUS_CTL_TMO (i : Nat) : Fld := ⟨MGB_BUS_CTL i, 7, 0⟩
/-- `MGB_XFER` (R698). -/
def MGB_XFER : Reg := ⟨0x120010, 0⟩
/-- Field 31:31 of `MGB_XFER`. -/
def MGB_XFER_GO : Fld := ⟨MGB_XFER, 31, 31⟩
/-- Field 30:30 of `MGB_XFER`. -/
def MGB_XFER_BUS : Fld := ⟨MGB_XFER, 30, 30⟩
/-- Field 29:29 of `MGB_XFER`. -/
def MGB_XFER_PEC : Fld := ⟨MGB_XFER, 29, 29⟩
/-- Field 22:16 of `MGB_XFER`. -/
def MGB_XFER_ADDR : Fld := ⟨MGB_XFER, 22, 16⟩
/-- Field 13:8 of `MGB_XFER`. -/
def MGB_XFER_NWR : Fld := ⟨MGB_XFER, 13, 8⟩
/-- Field 5:0 of `MGB_XFER`. -/
def MGB_XFER_NRD : Fld := ⟨MGB_XFER, 5, 0⟩
/-- `MGB_XSTAT` (R698). -/
def MGB_XSTAT : Reg := ⟨0x120014, 0⟩
/-- Field 31:24 of `MGB_XSTAT`. -/
def MGB_XSTAT_CODE : Fld := ⟨MGB_XSTAT, 31, 24⟩
/-- Field 23:16 of `MGB_XSTAT`. -/
def MGB_XSTAT_BYTES : Fld := ⟨MGB_XSTAT, 23, 16⟩
/-- Field 15:15 of `MGB_XSTAT`. -/
def MGB_XSTAT_DONE : Fld := ⟨MGB_XSTAT, 15, 15⟩
/-- `MGB_NAKCNT` (R698). -/
def MGB_NAKCNT (i : Nat) : Reg := ⟨0x120018 + 4 * i, 0⟩
/-- Field 31:0 of `MGB_NAKCNT`. -/
def MGB_NAKCNT_V (i : Nat) : Fld := ⟨MGB_NAKCNT i, 31, 0⟩
/-- `MGB_ALERT_CTL` (R698). -/
def MGB_ALERT_CTL : Reg := ⟨0x120020, 10⟩
/-- Field 31:31 of `MGB_ALERT_CTL`. -/
def MGB_ALERT_CTL_EN : Fld := ⟨MGB_ALERT_CTL, 31, 31⟩
/-- Field 15:0 of `MGB_ALERT_CTL`. -/
def MGB_ALERT_CTL_PER : Fld := ⟨MGB_ALERT_CTL, 15, 0⟩
/-- `MGB_ALERT_STAT` (R698). -/
def MGB_ALERT_STAT : Reg := ⟨0x120024, 0⟩
/-- Field 31:16 of `MGB_ALERT_STAT`. -/
def MGB_ALERT_STAT_COUNT : Fld := ⟨MGB_ALERT_STAT, 31, 16⟩
/-- Field 8:8 of `MGB_ALERT_STAT`. -/
def MGB_ALERT_STAT_NORESP : Fld := ⟨MGB_ALERT_STAT, 8, 8⟩
/-- Field 6:0 of `MGB_ALERT_STAT`. -/
def MGB_ALERT_STAT_ADDR : Fld := ⟨MGB_ALERT_STAT, 6, 0⟩
/-- `MGB_XDATA` (R698). -/
def MGB_XDATA (i : Nat) : Reg := ⟨0x120040 + 4 * i, 0⟩
/-- Field 31:0 of `MGB_XDATA`. -/
def MGB_XDATA_V (i : Nat) : Fld := ⟨MGB_XDATA i, 31, 0⟩
/-- `MGB_EDGE_CTL` (R698). -/
def MGB_EDGE_CTL : Reg := ⟨0x120080, 0⟩
/-- Field 31:31 of `MGB_EDGE_CTL`. -/
def MGB_EDGE_CTL_PUSH : Fld := ⟨MGB_EDGE_CTL, 31, 31⟩
/-- Field 30:30 of `MGB_EDGE_CTL`. -/
def MGB_EDGE_CTL_LEVEL : Fld := ⟨MGB_EDGE_CTL, 30, 30⟩
/-- Field 20:16 of `MGB_EDGE_CTL`. -/
def MGB_EDGE_CTL_OUT : Fld := ⟨MGB_EDGE_CTL, 20, 16⟩
/-- Field 15:0 of `MGB_EDGE_CTL`. -/
def MGB_EDGE_CTL_FRAC : Fld := ⟨MGB_EDGE_CTL, 15, 0⟩
/-- `MGB_EDGE_NS` (R698). -/
def MGB_EDGE_NS : Reg := ⟨0x120084, 0⟩
/-- Field 31:0 of `MGB_EDGE_NS`. -/
def MGB_EDGE_NS_V : Fld := ⟨MGB_EDGE_NS, 31, 0⟩
/-- `MGB_EDGE_SEC_LO` (R698). -/
def MGB_EDGE_SEC_LO : Reg := ⟨0x120088, 0⟩
/-- Field 31:0 of `MGB_EDGE_SEC_LO`. -/
def MGB_EDGE_SEC_LO_V : Fld := ⟨MGB_EDGE_SEC_LO, 31, 0⟩
/-- `MGB_EDGE_SEC_HI` (R698). -/
def MGB_EDGE_SEC_HI : Reg := ⟨0x12008c, 0⟩
/-- Field 15:0 of `MGB_EDGE_SEC_HI`. -/
def MGB_EDGE_SEC_HI_V : Fld := ⟨MGB_EDGE_SEC_HI, 15, 0⟩
/-- `MGB_SIG_CFG` (R698). -/
def MGB_SIG_CFG (i : Nat) : Reg := ⟨0x120100 + 16 * i, 0⟩
/-- Field 31:30 of `MGB_SIG_CFG`. -/
def MGB_SIG_CFG_MODE (i : Nat) : Fld := ⟨MGB_SIG_CFG i, 31, 30⟩
/-- Field 28:28 of `MGB_SIG_CFG`. -/
def MGB_SIG_CFG_LEVEL (i : Nat) : Fld := ⟨MGB_SIG_CFG i, 28, 28⟩
/-- Field 27:25 of `MGB_SIG_CFG`. -/
def MGB_SIG_CFG_GRID (i : Nat) : Fld := ⟨MGB_SIG_CFG i, 27, 25⟩
/-- Field 24:20 of `MGB_SIG_CFG`. -/
def MGB_SIG_CFG_DLOG2 (i : Nat) : Fld := ⟨MGB_SIG_CFG i, 24, 20⟩
/-- Field 15:0 of `MGB_SIG_CFG`. -/
def MGB_SIG_CFG_WIDTH (i : Nat) : Fld := ⟨MGB_SIG_CFG i, 15, 0⟩
/-- `MGB_SIG_STAT` (R698). -/
def MGB_SIG_STAT (i : Nat) : Reg := ⟨0x120104 + 16 * i, 0⟩
/-- Field 31:24 of `MGB_SIG_STAT`. -/
def MGB_SIG_STAT_CODE (i : Nat) : Fld := ⟨MGB_SIG_STAT i, 31, 24⟩
/-- Field 23:23 of `MGB_SIG_STAT`. -/
def MGB_SIG_STAT_PIN (i : Nat) : Fld := ⟨MGB_SIG_STAT i, 23, 23⟩
/-- Field 22:22 of `MGB_SIG_STAT`. -/
def MGB_SIG_STAT_TRIG (i : Nat) : Fld := ⟨MGB_SIG_STAT i, 22, 22⟩
/-- Field 21:21 of `MGB_SIG_STAT`. -/
def MGB_SIG_STAT_LATE_SEEN (i : Nat) : Fld := ⟨MGB_SIG_STAT i, 21, 21⟩
/-- Field 6:0 of `MGB_SIG_STAT`. -/
def MGB_SIG_STAT_QUEUED (i : Nat) : Fld := ⟨MGB_SIG_STAT i, 6, 0⟩
/-- `MGB_SIG_OFS` (R698). -/
def MGB_SIG_OFS (i : Nat) : Reg := ⟨0x120108 + 16 * i, 0⟩
/-- Field 31:0 of `MGB_SIG_OFS`. -/
def MGB_SIG_OFS_V (i : Nat) : Fld := ⟨MGB_SIG_OFS i, 31, 0⟩
/-- `MGB_POLL` (R698). -/
def MGB_POLL (i : Nat) : Reg := ⟨0x120400 + 8 * i, 0⟩
/-- Field 31:31 of `MGB_POLL`. -/
def MGB_POLL_VALID (i : Nat) : Fld := ⟨MGB_POLL i, 31, 31⟩
/-- Field 30:30 of `MGB_POLL`. -/
def MGB_POLL_BUS (i : Nat) : Fld := ⟨MGB_POLL i, 30, 30⟩
/-- Field 29:29 of `MGB_POLL`. -/
def MGB_POLL_WORD (i : Nat) : Fld := ⟨MGB_POLL i, 29, 29⟩
/-- Field 28:16 of `MGB_POLL`. -/
def MGB_POLL_PERIOD (i : Nat) : Fld := ⟨MGB_POLL i, 28, 16⟩
/-- Field 14:8 of `MGB_POLL`. -/
def MGB_POLL_ADDR (i : Nat) : Fld := ⟨MGB_POLL i, 14, 8⟩
/-- Field 7:0 of `MGB_POLL`. -/
def MGB_POLL_CMD (i : Nat) : Fld := ⟨MGB_POLL i, 7, 0⟩
/-- `MGB_POLLV` (R698). -/
def MGB_POLLV (i : Nat) : Reg := ⟨0x120404 + 8 * i, 0⟩
/-- Field 31:24 of `MGB_POLLV`. -/
def MGB_POLLV_CODE (i : Nat) : Fld := ⟨MGB_POLLV i, 31, 24⟩
/-- Field 15:0 of `MGB_POLLV`. -/
def MGB_POLLV_VAL (i : Nat) : Fld := ⟨MGB_POLLV i, 15, 0⟩
/-- `SFE_CTL` (R278). -/
def SFE_CTL : Reg := ⟨0x130000, 0⟩
/-- Field 27:25 of `SFE_CTL`. -/
def SFE_CTL_GRID : Fld := ⟨SFE_CTL, 27, 25⟩
/-- Field 2:2 of `SFE_CTL`. -/
def SFE_CTL_COMMIT : Fld := ⟨SFE_CTL, 2, 2⟩
/-- Field 1:1 of `SFE_CTL`. -/
def SFE_CTL_UNBIND : Fld := ⟨SFE_CTL, 1, 1⟩
/-- Field 0:0 of `SFE_CTL`. -/
def SFE_CTL_BIND : Fld := ⟨SFE_CTL, 0, 0⟩
/-- `SFE_STAT` (R278). -/
def SFE_STAT : Reg := ⟨0x130004, 0⟩
/-- Field 31:24 of `SFE_STAT`. -/
def SFE_STAT_CODE : Fld := ⟨SFE_STAT, 31, 24⟩
/-- Field 23:22 of `SFE_STAT`. -/
def SFE_STAT_STATE : Fld := ⟨SFE_STAT, 23, 22⟩
/-- Field 21:21 of `SFE_STAT`. -/
def SFE_STAT_SHADOW_DIRTY : Fld := ⟨SFE_STAT, 21, 21⟩
/-- Field 20:18 of `SFE_STAT`. -/
def SFE_STAT_PEND : Fld := ⟨SFE_STAT, 20, 18⟩
/-- `SFE_BLANK` (R278). -/
def SFE_BLANK : Reg := ⟨0x130008, 0⟩
/-- Field 31:24 of `SFE_BLANK`. -/
def SFE_BLANK_MASK : Fld := ⟨SFE_BLANK, 31, 24⟩
/-- Field 15:0 of `SFE_BLANK`. -/
def SFE_BLANK_POST : Fld := ⟨SFE_BLANK, 15, 0⟩
/-- `SFE_CM_CFG` (R278). -/
def SFE_CM_CFG : Reg := ⟨0x13000c, 4⟩
/-- Field 7:0 of `SFE_CM_CFG`. -/
def SFE_CM_CFG_COUNT : Fld := ⟨SFE_CM_CFG, 7, 0⟩
/-- `SFE_EXC_CTL` (R278). -/
def SFE_EXC_CTL (i : Nat) : Reg := ⟨0x130100 + 4 * i, 0⟩
/-- Field 31:31 of `SFE_EXC_CTL`. -/
def SFE_EXC_CTL_EN (i : Nat) : Fld := ⟨SFE_EXC_CTL i, 31, 31⟩
/-- Field 1:0 of `SFE_EXC_CTL`. -/
def SFE_EXC_CTL_RANGE (i : Nat) : Fld := ⟨SFE_EXC_CTL i, 1, 0⟩
/-- `SFE_EXC_STAT` (R278). -/
def SFE_EXC_STAT (i : Nat) : Reg := ⟨0x130180 + 4 * i, 0⟩
/-- Field 31:30 of `SFE_EXC_STAT`. -/
def SFE_EXC_STAT_STATE (i : Nat) : Fld := ⟨SFE_EXC_STAT i, 31, 30⟩
/-- Field 29:28 of `SFE_EXC_STAT`. -/
def SFE_EXC_STAT_RANGE_ACT (i : Nat) : Fld := ⟨SFE_EXC_STAT i, 29, 28⟩
/-- Field 27:27 of `SFE_EXC_STAT`. -/
def SFE_EXC_STAT_SETTLING (i : Nat) : Fld := ⟨SFE_EXC_STAT i, 27, 27⟩
/-- Field 26:26 of `SFE_EXC_STAT`. -/
def SFE_EXC_STAT_ILIM (i : Nat) : Fld := ⟨SFE_EXC_STAT i, 26, 26⟩
/-- Field 25:25 of `SFE_EXC_STAT`. -/
def SFE_EXC_STAT_FAULT (i : Nat) : Fld := ⟨SFE_EXC_STAT i, 25, 25⟩
/-- Field 24:24 of `SFE_EXC_STAT`. -/
def SFE_EXC_STAT_FAULT_SEEN (i : Nat) : Fld := ⟨SFE_EXC_STAT i, 24, 24⟩
/-- Field 15:0 of `SFE_EXC_STAT`. -/
def SFE_EXC_STAT_SENSE (i : Nat) : Fld := ⟨SFE_EXC_STAT i, 15, 0⟩
/-- `SFE_CH_CFG` (R278). -/
def SFE_CH_CFG (i : Nat) : Reg := ⟨0x130400 + 4 * i, 0xA060⟩
/-- Field 31:27 of `SFE_CH_CFG`. -/
def SFE_CH_CFG_EXC (i : Nat) : Fld := ⟨SFE_CH_CFG i, 31, 27⟩
/-- Field 26:25 of `SFE_CH_CFG`. -/
def SFE_CH_CFG_GAIN (i : Nat) : Fld := ⟨SFE_CH_CFG i, 26, 25⟩
/-- Field 24:24 of `SFE_CH_CFG`. -/
def SFE_CH_CFG_TCH_EN (i : Nat) : Fld := ⟨SFE_CH_CFG i, 24, 24⟩
/-- Field 23:17 of `SFE_CH_CFG`. -/
def SFE_CH_CFG_TCH (i : Nat) : Fld := ⟨SFE_CH_CFG i, 23, 17⟩
/-- Field 15:8 of `SFE_CH_CFG`. -/
def SFE_CH_CFG_CM_HI (i : Nat) : Fld := ⟨SFE_CH_CFG i, 15, 8⟩
/-- Field 7:0 of `SFE_CH_CFG`. -/
def SFE_CH_CFG_CM_LO (i : Nat) : Fld := ⟨SFE_CH_CFG i, 7, 0⟩
/-- `SFE_CH_STAT` (R278). -/
def SFE_CH_STAT (i : Nat) : Reg := ⟨0x130600 + 4 * i, 0⟩
/-- Field 31:31 of `SFE_CH_STAT`. -/
def SFE_CH_STAT_CM_FAULT (i : Nat) : Fld := ⟨SFE_CH_STAT i, 31, 31⟩
/-- Field 30:30 of `SFE_CH_STAT`. -/
def SFE_CH_STAT_CM_SEEN (i : Nat) : Fld := ⟨SFE_CH_STAT i, 30, 30⟩
/-- Field 29:29 of `SFE_CH_STAT`. -/
def SFE_CH_STAT_LIN_ERR (i : Nat) : Fld := ⟨SFE_CH_STAT i, 29, 29⟩
/-- Field 28:28 of `SFE_CH_STAT`. -/
def SFE_CH_STAT_OVR_SEEN (i : Nat) : Fld := ⟨SFE_CH_STAT i, 28, 28⟩
/-- Field 15:8 of `SFE_CH_STAT`. -/
def SFE_CH_STAT_CM (i : Nat) : Fld := ⟨SFE_CH_STAT i, 15, 8⟩
/-- `SFE_ROUTE` (R278). -/
def SFE_ROUTE (i : Nat) : Reg := ⟨0x130800 + 4 * i, 0⟩
/-- Field 31:31 of `SFE_ROUTE`. -/
def SFE_ROUTE_EN (i : Nat) : Fld := ⟨SFE_ROUTE i, 31, 31⟩
/-- Field 13:0 of `SFE_ROUTE`. -/
def SFE_ROUTE_QUEUE (i : Nat) : Fld := ⟨SFE_ROUTE i, 13, 0⟩
/-- `SFE_LIN` (R278). -/
def SFE_LIN (i j : Nat) : Reg := ⟨0x138000 + 128 * i + 4 * j, 0⟩
/-- Field 31:0 of `SFE_LIN`. -/
def SFE_LIN_V (i j : Nat) : Fld := ⟨SFE_LIN i j, 31, 0⟩
/-- `PCV_REFCTL` (R278). -/
def PCV_REFCTL : Reg := ⟨0x140000, 0⟩
/-- Field 1:1 of `PCV_REFCTL`. -/
def PCV_REFCTL_REF_OK : Fld := ⟨PCV_REFCTL, 1, 1⟩
/-- Field 0:0 of `PCV_REFCTL`. -/
def PCV_REFCTL_REF_EN : Fld := ⟨PCV_REFCTL, 0, 0⟩
/-- `PCV_SPARE` (R278). -/
def PCV_SPARE : Reg := ⟨0x140004, 0⟩
/-- Field 1:0 of `PCV_SPARE`. -/
def PCV_SPARE_V : Fld := ⟨PCV_SPARE, 1, 0⟩
/-- `PCV_SEQ_CTL` (R278). -/
def PCV_SEQ_CTL (i : Nat) : Reg := ⟨0x140100 + 64 * i, 0⟩
/-- Field 31:31 of `PCV_SEQ_CTL`. -/
def PCV_SEQ_CTL_EN (i : Nat) : Fld := ⟨PCV_SEQ_CTL i, 31, 31⟩
/-- Field 29:24 of `PCV_SEQ_CTL`. -/
def PCV_SEQ_CTL_DLOG2 (i : Nat) : Fld := ⟨PCV_SEQ_CTL i, 29, 24⟩
/-- Field 20:16 of `PCV_SEQ_CTL`. -/
def PCV_SEQ_CTL_LEN (i : Nat) : Fld := ⟨PCV_SEQ_CTL i, 20, 16⟩
/-- Field 9:0 of `PCV_SEQ_CTL`. -/
def PCV_SEQ_CTL_SLOT (i : Nat) : Fld := ⟨PCV_SEQ_CTL i, 9, 0⟩
/-- `PCV_STAT` (R278). -/
def PCV_STAT (i : Nat) : Reg := ⟨0x140104 + 64 * i, (i * 524288)⟩
/-- Field 31:24 of `PCV_STAT`. -/
def PCV_STAT_URG_CODE (i : Nat) : Fld := ⟨PCV_STAT i, 31, 24⟩
/-- Field 23:19 of `PCV_STAT`. -/
def PCV_STAT_PHYS (i : Nat) : Fld := ⟨PCV_STAT i, 23, 19⟩
/-- Field 18:18 of `PCV_STAT`. -/
def PCV_STAT_FAILING (i : Nat) : Fld := ⟨PCV_STAT i, 18, 18⟩
/-- Field 17:17 of `PCV_STAT`. -/
def PCV_STAT_DEAD (i : Nat) : Fld := ⟨PCV_STAT i, 17, 17⟩
/-- Field 16:16 of `PCV_STAT`. -/
def PCV_STAT_SKIP_SEEN (i : Nat) : Fld := ⟨PCV_STAT i, 16, 16⟩
/-- Field 15:13 of `PCV_STAT`. -/
def PCV_STAT_URGQ (i : Nat) : Fld := ⟨PCV_STAT i, 15, 13⟩
/-- `PCV_URG` (R278). -/
def PCV_URG (i : Nat) : Reg := ⟨0x140108 + 64 * i, 0⟩
/-- Field 31:31 of `PCV_URG`. -/
def PCV_URG_GO (i : Nat) : Fld := ⟨PCV_URG i, 31, 31⟩
/-- Field 30:28 of `PCV_URG`. -/
def PCV_URG_CH (i : Nat) : Fld := ⟨PCV_URG i, 30, 28⟩
/-- Field 27:24 of `PCV_URG`. -/
def PCV_URG_AVG (i : Nat) : Fld := ⟨PCV_URG i, 27, 24⟩
/-- Field 23:23 of `PCV_URG`. -/
def PCV_URG_TRG_EN (i : Nat) : Fld := ⟨PCV_URG i, 23, 23⟩
/-- Field 21:16 of `PCV_URG`. -/
def PCV_URG_TRG (i : Nat) : Fld := ⟨PCV_URG i, 21, 16⟩
/-- `PCV_SKIPCNT` (R278). -/
def PCV_SKIPCNT (i : Nat) : Reg := ⟨0x14010c + 64 * i, 0⟩
/-- Field 31:0 of `PCV_SKIPCNT`. -/
def PCV_SKIPCNT_V (i : Nat) : Fld := ⟨PCV_SKIPCNT i, 31, 0⟩
/-- `PCV_URGREF` (R278). -/
def PCV_URGREF (i : Nat) : Reg := ⟨0x140110 + 64 * i, 0⟩
/-- Field 31:0 of `PCV_URGREF`. -/
def PCV_URGREF_V (i : Nat) : Fld := ⟨PCV_URGREF i, 31, 0⟩
/-- `PCV_SEQ` (R278). -/
def PCV_SEQ (i j : Nat) : Reg := ⟨0x140800 + 64 * i + 4 * j, 0⟩
/-- Field 7:4 of `PCV_SEQ`. -/
def PCV_SEQ_AVG (i j : Nat) : Fld := ⟨PCV_SEQ i j, 7, 4⟩
/-- Field 2:0 of `PCV_SEQ`. -/
def PCV_SEQ_CH (i j : Nat) : Fld := ⟨PCV_SEQ i j, 2, 0⟩
/-- `CNV_DIE_STAT` (R163). -/
def CNV_DIE_STAT (i : Nat) : Reg := ⟨0x200000 + 0x10000 * i, 0⟩
/-- Field 31:24 of `CNV_DIE_STAT`. -/
def CNV_DIE_STAT_TEMP (i : Nat) : Fld := ⟨CNV_DIE_STAT i, 31, 24⟩
/-- Field 1:1 of `CNV_DIE_STAT`. -/
def CNV_DIE_STAT_LINK_DOWN_SEEN (i : Nat) : Fld := ⟨CNV_DIE_STAT i, 1, 1⟩
/-- Field 0:0 of `CNV_DIE_STAT`. -/
def CNV_DIE_STAT_LINK_UP (i : Nat) : Fld := ⟨CNV_DIE_STAT i, 0, 0⟩
/-- `CNV_GRP_CTL` (R163). -/
def CNV_GRP_CTL (i j : Nat) : Reg := ⟨0x200100 + 0x10000 * i + 64 * j, 0x00100010⟩
/-- Field 31:16 of `CNV_GRP_CTL`. -/
def CNV_GRP_CTL_DWELL (i j : Nat) : Fld := ⟨CNV_GRP_CTL i j, 31, 16⟩
/-- Field 4:4 of `CNV_GRP_CTL`. -/
def CNV_GRP_CTL_SURVEY_EN (i j : Nat) : Fld := ⟨CNV_GRP_CTL i j, 4, 4⟩
/-- Field 3:3 of `CNV_GRP_CTL`. -/
def CNV_GRP_CTL_LOCK_EN (i j : Nat) : Fld := ⟨CNV_GRP_CTL i j, 3, 3⟩
/-- Field 2:2 of `CNV_GRP_CTL`. -/
def CNV_GRP_CTL_RUN (i j : Nat) : Fld := ⟨CNV_GRP_CTL i j, 2, 2⟩
/-- Field 1:1 of `CNV_GRP_CTL`. -/
def CNV_GRP_CTL_REF_EN (i j : Nat) : Fld := ⟨CNV_GRP_CTL i j, 1, 1⟩
/-- Field 0:0 of `CNV_GRP_CTL`. -/
def CNV_GRP_CTL_APPLY (i j : Nat) : Fld := ⟨CNV_GRP_CTL i j, 0, 0⟩
/-- `CNV_GRP_PLL` (R163). -/
def CNV_GRP_PLL (i j : Nat) : Reg := ⟨0x200104 + 0x10000 * i + 64 * j, 0x20000000⟩
/-- Field 31:24 of `CNV_GRP_PLL`. -/
def CNV_GRP_PLL_NINT (i j : Nat) : Fld := ⟨CNV_GRP_PLL i j, 31, 24⟩
/-- Field 23:0 of `CNV_GRP_PLL`. -/
def CNV_GRP_PLL_NFRAC (i j : Nat) : Fld := ⟨CNV_GRP_PLL i j, 23, 0⟩
/-- `CNV_GRP_LOCK` (R163). -/
def CNV_GRP_LOCK (i j : Nat) : Reg := ⟨0x200108 + 0x10000 * i + 64 * j, 0x100⟩
/-- Field 13:8 of `CNV_GRP_LOCK`. -/
def CNV_GRP_LOCK_MULT (i j : Nat) : Fld := ⟨CNV_GRP_LOCK i j, 13, 8⟩
/-- Field 2:0 of `CNV_GRP_LOCK`. -/
def CNV_GRP_LOCK_GRID (i j : Nat) : Fld := ⟨CNV_GRP_LOCK i j, 2, 0⟩
/-- `CNV_GRP_STAT` (R163). -/
def CNV_GRP_STAT (i j : Nat) : Reg := ⟨0x20010c + 0x10000 * i + 64 * j, 0x40⟩
/-- Field 31:24 of `CNV_GRP_STAT`. -/
def CNV_GRP_STAT_CODE (i j : Nat) : Fld := ⟨CNV_GRP_STAT i j, 31, 24⟩
/-- Field 6:6 of `CNV_GRP_STAT`. -/
def CNV_GRP_STAT_ASLEEP (i j : Nat) : Fld := ⟨CNV_GRP_STAT i j, 6, 6⟩
/-- Field 5:5 of `CNV_GRP_STAT`. -/
def CNV_GRP_STAT_LOCK_LOST (i j : Nat) : Fld := ⟨CNV_GRP_STAT i j, 5, 5⟩
/-- Field 4:4 of `CNV_GRP_STAT`. -/
def CNV_GRP_STAT_LOCKED (i j : Nat) : Fld := ⟨CNV_GRP_STAT i j, 4, 4⟩
/-- Field 3:3 of `CNV_GRP_STAT`. -/
def CNV_GRP_STAT_PLL_LOCK (i j : Nat) : Fld := ⟨CNV_GRP_STAT i j, 3, 3⟩
/-- Field 2:2 of `CNV_GRP_STAT`. -/
def CNV_GRP_STAT_REF_OK (i j : Nat) : Fld := ⟨CNV_GRP_STAT i j, 2, 2⟩
/-- Field 1:1 of `CNV_GRP_STAT`. -/
def CNV_GRP_STAT_RUNNING (i j : Nat) : Fld := ⟨CNV_GRP_STAT i j, 1, 1⟩
/-- `CNV_GRP_TRK` (R217). -/
def CNV_GRP_TRK (i j : Nat) : Reg := ⟨0x200110 + 0x10000 * i + 64 * j, 0x00320001⟩
/-- Field 31:16 of `CNV_GRP_TRK`. -/
def CNV_GRP_TRK_COAST_MAX (i j : Nat) : Fld := ⟨CNV_GRP_TRK i j, 31, 16⟩
/-- Field 1:0 of `CNV_GRP_TRK`. -/
def CNV_GRP_TRK_BW (i j : Nat) : Fld := ⟨CNV_GRP_TRK i j, 1, 0⟩
/-- `CNV_GRP_TRKST` (R217). -/
def CNV_GRP_TRKST (i j : Nat) : Reg := ⟨0x200114 + 0x10000 * i + 64 * j, 0⟩
/-- Field 31:24 of `CNV_GRP_TRKST`. -/
def CNV_GRP_TRKST_RESID (i j : Nat) : Fld := ⟨CNV_GRP_TRKST i j, 31, 24⟩
/-- Field 5:5 of `CNV_GRP_TRKST`. -/
def CNV_GRP_TRKST_LOST_SEEN (i j : Nat) : Fld := ⟨CNV_GRP_TRKST i j, 5, 5⟩
/-- Field 4:4 of `CNV_GRP_TRKST`. -/
def CNV_GRP_TRKST_COAST_SEEN (i j : Nat) : Fld := ⟨CNV_GRP_TRKST i j, 4, 4⟩
/-- Field 2:0 of `CNV_GRP_TRKST`. -/
def CNV_GRP_TRKST_TRACK (i j : Nat) : Fld := ⟨CNV_GRP_TRKST i j, 2, 0⟩
/-- `CNV_GRP_FS_LO` (R217). -/
def CNV_GRP_FS_LO (i j : Nat) : Reg := ⟨0x200118 + 0x10000 * i + 64 * j, 0⟩
/-- Field 31:0 of `CNV_GRP_FS_LO`. -/
def CNV_GRP_FS_LO_V (i j : Nat) : Fld := ⟨CNV_GRP_FS_LO i j, 31, 0⟩
/-- `CNV_GRP_FS_HI` (R217). -/
def CNV_GRP_FS_HI (i j : Nat) : Reg := ⟨0x20011c + 0x10000 * i + 64 * j, 0⟩
/-- Field 31:0 of `CNV_GRP_FS_HI`. -/
def CNV_GRP_FS_HI_V (i j : Nat) : Fld := ⟨CNV_GRP_FS_HI i j, 31, 0⟩
/-- `CNV_IN_CTL` (R163). -/
def CNV_IN_CTL (i j : Nat) : Reg := ⟨0x201000 + 0x10000 * i + 32 * j, 1⟩
/-- Field 0:0 of `CNV_IN_CTL`. -/
def CNV_IN_CTL_EN (i j : Nat) : Fld := ⟨CNV_IN_CTL i j, 0, 0⟩
/-- `CNV_IN_STAT` (R163). -/
def CNV_IN_STAT (i j : Nat) : Reg := ⟨0x201004 + 0x10000 * i + 32 * j, 0x87CB0000⟩
/-- Field 31:27 of `CNV_IN_STAT`. -/
def CNV_IN_STAT_OFFLINE (i j : Nat) : Fld := ⟨CNV_IN_STAT i j, 31, 27⟩
/-- Field 26:22 of `CNV_IN_STAT`. -/
def CNV_IN_STAT_FAILING (i j : Nat) : Fld := ⟨CNV_IN_STAT i j, 26, 22⟩
/-- Field 21:20 of `CNV_IN_STAT`. -/
def CNV_IN_STAT_SURVEY (i j : Nat) : Fld := ⟨CNV_IN_STAT i j, 21, 20⟩
/-- Field 19:19 of `CNV_IN_STAT`. -/
def CNV_IN_STAT_SPARE (i j : Nat) : Fld := ⟨CNV_IN_STAT i j, 19, 19⟩
/-- Field 18:18 of `CNV_IN_STAT`. -/
def CNV_IN_STAT_DEAD (i j : Nat) : Fld := ⟨CNV_IN_STAT i j, 18, 18⟩
/-- Field 17:17 of `CNV_IN_STAT`. -/
def CNV_IN_STAT_CAL_UNSETTLED (i j : Nat) : Fld := ⟨CNV_IN_STAT i j, 17, 17⟩
/-- Field 16:16 of `CNV_IN_STAT`. -/
def CNV_IN_STAT_EN_ACT (i j : Nat) : Fld := ⟨CNV_IN_STAT i j, 16, 16⟩
/-- Field 15:15 of `CNV_IN_STAT`. -/
def CNV_IN_STAT_OVR_SEEN (i j : Nat) : Fld := ⟨CNV_IN_STAT i j, 15, 15⟩
/-- Field 14:0 of `CNV_IN_STAT`. -/
def CNV_IN_STAT_STEPS (i j : Nat) : Fld := ⟨CNV_IN_STAT i j, 14, 0⟩
/-- `CNV_TRIM` (R163). -/
def CNV_TRIM (i j k : Nat) : Reg := ⟨0x204000 + 0x10000 * i + 128 * j + 4 * k, 0⟩
/-- Field 31:29 of `CNV_TRIM`. -/
def CNV_TRIM_STATE (i j k : Nat) : Fld := ⟨CNV_TRIM i j k, 31, 29⟩
/-- Field 28:19 of `CNV_TRIM`. -/
def CNV_TRIM_SKEW (i j k : Nat) : Fld := ⟨CNV_TRIM i j k, 28, 19⟩
/-- Field 18:9 of `CNV_TRIM`. -/
def CNV_TRIM_GAIN (i j k : Nat) : Fld := ⟨CNV_TRIM i j k, 18, 9⟩
/-- Field 8:0 of `CNV_TRIM`. -/
def CNV_TRIM_OFFSET (i j k : Nat) : Fld := ⟨CNV_TRIM i j k, 8, 0⟩
/-- `LNE_SHEET_CTL` (R437). -/
def LNE_SHEET_CTL (i : Nat) : Reg := ⟨0x300000 + 0x4000 * i, 0x00018064⟩
/-- Field 31:30 of `LNE_SHEET_CTL`. -/
def LNE_SHEET_CTL_PROTO (i : Nat) : Fld := ⟨LNE_SHEET_CTL i, 31, 30⟩
/-- Field 29:27 of `LNE_SHEET_CTL`. -/
def LNE_SHEET_CTL_RATE (i : Nat) : Fld := ⟨LNE_SHEET_CTL i, 29, 27⟩
/-- Field 26:26 of `LNE_SHEET_CTL`. -/
def LNE_SHEET_CTL_START (i : Nat) : Fld := ⟨LNE_SHEET_CTL i, 26, 26⟩
/-- Field 25:25 of `LNE_SHEET_CTL`. -/
def LNE_SHEET_CTL_EQ_SEARCH (i : Nat) : Fld := ⟨LNE_SHEET_CTL i, 25, 25⟩
/-- Field 24:24 of `LNE_SHEET_CTL`. -/
def LNE_SHEET_CTL_PARTNER_SPARE (i : Nat) : Fld := ⟨LNE_SHEET_CTL i, 24, 24⟩
/-- Field 23:23 of `LNE_SHEET_CTL`. -/
def LNE_SHEET_CTL_TX_REV (i : Nat) : Fld := ⟨LNE_SHEET_CTL i, 23, 23⟩
/-- Field 22:20 of `LNE_SHEET_CTL`. -/
def LNE_SHEET_CTL_SUB_LANE (i : Nat) : Fld := ⟨LNE_SHEET_CTL i, 22, 20⟩
/-- Field 19:19 of `LNE_SHEET_CTL`. -/
def LNE_SHEET_CTL_NARROW (i : Nat) : Fld := ⟨LNE_SHEET_CTL i, 19, 19⟩
/-- Field 18:18 of `LNE_SHEET_CTL`. -/
def LNE_SHEET_CTL_SUB (i : Nat) : Fld := ⟨LNE_SHEET_CTL i, 18, 18⟩
/-- Field 17:14 of `LNE_SHEET_CTL`. -/
def LNE_SHEET_CTL_EQ_SPAN (i : Nat) : Fld := ⟨LNE_SHEET_CTL i, 17, 14⟩
/-- Field 13:0 of `LNE_SHEET_CTL`. -/
def LNE_SHEET_CTL_RETRY (i : Nat) : Fld := ⟨LNE_SHEET_CTL i, 13, 0⟩
/-- `LNE_SHEET_STAT` (R437). -/
def LNE_SHEET_STAT (i : Nat) : Reg := ⟨0x300004 + 0x4000 * i, 0x00021000⟩
/-- Field 31:24 of `LNE_SHEET_STAT`. -/
def LNE_SHEET_STAT_CODE (i : Nat) : Fld := ⟨LNE_SHEET_STAT i, 31, 24⟩
/-- Field 23:22 of `LNE_SHEET_STAT`. -/
def LNE_SHEET_STAT_STATE (i : Nat) : Fld := ⟨LNE_SHEET_STAT i, 23, 22⟩
/-- Field 21:21 of `LNE_SHEET_STAT`. -/
def LNE_SHEET_STAT_REV (i : Nat) : Fld := ⟨LNE_SHEET_STAT i, 21, 21⟩
/-- Field 20:18 of `LNE_SHEET_STAT`. -/
def LNE_SHEET_STAT_STAGE (i : Nat) : Fld := ⟨LNE_SHEET_STAT i, 20, 18⟩
/-- Field 17:14 of `LNE_SHEET_STAT`. -/
def LNE_SHEET_STAT_WIDTH (i : Nat) : Fld := ⟨LNE_SHEET_STAT i, 17, 14⟩
/-- Field 13:13 of `LNE_SHEET_STAT`. -/
def LNE_SHEET_STAT_DROP_SEEN (i : Nat) : Fld := ⟨LNE_SHEET_STAT i, 13, 13⟩
/-- Field 12:12 of `LNE_SHEET_STAT`. -/
def LNE_SHEET_STAT_ASLEEP (i : Nat) : Fld := ⟨LNE_SHEET_STAT i, 12, 12⟩
/-- Field 7:0 of `LNE_SHEET_STAT`. -/
def LNE_SHEET_STAT_SKEW (i : Nat) : Fld := ⟨LNE_SHEET_STAT i, 7, 0⟩
/-- `LNE_MAP` (R437). -/
def LNE_MAP (i : Nat) : Reg := ⟨0x300008 + 0x4000 * i, 0x76543210⟩
/-- Field 31:0 of `LNE_MAP`. -/
def LNE_MAP_V (i : Nat) : Fld := ⟨LNE_MAP i, 31, 0⟩
/-- `LNE_EYE_CFG0` (R437). -/
def LNE_EYE_CFG0 (i : Nat) : Reg := ⟨0x30000c + 0x4000 * i, 0x03E80A05⟩
/-- Field 31:16 of `LNE_EYE_CFG0`. -/
def LNE_EYE_CFG0_PERIOD (i : Nat) : Fld := ⟨LNE_EYE_CFG0 i, 31, 16⟩
/-- Field 15:8 of `LNE_EYE_CFG0`. -/
def LNE_EYE_CFG0_WARN_V (i : Nat) : Fld := ⟨LNE_EYE_CFG0 i, 15, 8⟩
/-- Field 7:0 of `LNE_EYE_CFG0`. -/
def LNE_EYE_CFG0_FAIL_V (i : Nat) : Fld := ⟨LNE_EYE_CFG0 i, 7, 0⟩
/-- `LNE_EYE_CFG1` (R437). -/
def LNE_EYE_CFG1 (i : Nat) : Reg := ⟨0x300010 + 0x4000 * i, 0x140A⟩
/-- Field 15:8 of `LNE_EYE_CFG1`. -/
def LNE_EYE_CFG1_WARN_H (i : Nat) : Fld := ⟨LNE_EYE_CFG1 i, 15, 8⟩
/-- Field 7:0 of `LNE_EYE_CFG1`. -/
def LNE_EYE_CFG1_FAIL_H (i : Nat) : Fld := ⟨LNE_EYE_CFG1 i, 7, 0⟩
/-- `LNE_DROPS` (R437). -/
def LNE_DROPS (i : Nat) : Reg := ⟨0x300014 + 0x4000 * i, 0⟩
/-- Field 31:0 of `LNE_DROPS`. -/
def LNE_DROPS_V (i : Nat) : Fld := ⟨LNE_DROPS i, 31, 0⟩
/-- `LNE_ATTEMPTS` (R437). -/
def LNE_ATTEMPTS (i : Nat) : Reg := ⟨0x300018 + 0x4000 * i, 0⟩
/-- Field 31:0 of `LNE_ATTEMPTS`. -/
def LNE_ATTEMPTS_V (i : Nat) : Fld := ⟨LNE_ATTEMPTS i, 31, 0⟩
/-- `LNE_CTL` (R437). -/
def LNE_CTL (i j : Nat) : Reg := ⟨0x301000 + 0x4000 * i + 512 * j, (if j = 8 then 0xC00C2210 else 0x000C2210)⟩
/-- Field 31:31 of `LNE_CTL`. -/
def LNE_CTL_TX_SLEEP (i j : Nat) : Fld := ⟨LNE_CTL i j, 31, 31⟩
/-- Field 30:30 of `LNE_CTL`. -/
def LNE_CTL_RX_SLEEP (i j : Nat) : Fld := ⟨LNE_CTL i j, 30, 30⟩
/-- Field 29:29 of `LNE_CTL`. -/
def LNE_CTL_TX_INV (i j : Nat) : Fld := ⟨LNE_CTL i j, 29, 29⟩
/-- Field 21:16 of `LNE_CTL`. -/
def LNE_CTL_PEAK (i j : Nat) : Fld := ⟨LNE_CTL i j, 21, 16⟩
/-- Field 15:11 of `LNE_CTL`. -/
def LNE_CTL_PRE (i j : Nat) : Fld := ⟨LNE_CTL i j, 15, 11⟩
/-- Field 10:6 of `LNE_CTL`. -/
def LNE_CTL_POST (i j : Nat) : Fld := ⟨LNE_CTL i j, 10, 6⟩
/-- Field 5:4 of `LNE_CTL`. -/
def LNE_CTL_AMP (i j : Nat) : Fld := ⟨LNE_CTL i j, 5, 4⟩
/-- `LNE_STAT` (R437). -/
def LNE_STAT (i j : Nat) : Reg := ⟨0x301004 + 0x4000 * i + 512 * j, (if j = 8 then 0x00007800 else 0x10007800)⟩
/-- Field 31:28 of `LNE_STAT`. -/
def LNE_STAT_STATE (i j : Nat) : Fld := ⟨LNE_STAT i j, 31, 28⟩
/-- Field 27:27 of `LNE_STAT`. -/
def LNE_STAT_RX_INV (i j : Nat) : Fld := ⟨LNE_STAT i j, 27, 27⟩
/-- Field 26:26 of `LNE_STAT`. -/
def LNE_STAT_LOS (i j : Nat) : Fld := ⟨LNE_STAT i j, 26, 26⟩
/-- Field 25:25 of `LNE_STAT`. -/
def LNE_STAT_LOL (i j : Nat) : Fld := ⟨LNE_STAT i j, 25, 25⟩
/-- Field 24:24 of `LNE_STAT`. -/
def LNE_STAT_FAILING (i j : Nat) : Fld := ⟨LNE_STAT i j, 24, 24⟩
/-- Field 23:23 of `LNE_STAT`. -/
def LNE_STAT_LOS_SEEN (i j : Nat) : Fld := ⟨LNE_STAT i j, 23, 23⟩
/-- Field 22:22 of `LNE_STAT`. -/
def LNE_STAT_LOL_SEEN (i j : Nat) : Fld := ⟨LNE_STAT i j, 22, 22⟩
/-- Field 21:21 of `LNE_STAT`. -/
def LNE_STAT_WARN_SEEN (i j : Nat) : Fld := ⟨LNE_STAT i j, 21, 21⟩
/-- Field 20:15 of `LNE_STAT`. -/
def LNE_STAT_PEAK_ACT (i j : Nat) : Fld := ⟨LNE_STAT i j, 20, 15⟩
/-- Field 14:11 of `LNE_STAT`. -/
def LNE_STAT_IDENT (i j : Nat) : Fld := ⟨LNE_STAT i j, 14, 11⟩
/-- `LNE_EYE` (R437). -/
def LNE_EYE (i j : Nat) : Reg := ⟨0x301008 + 0x4000 * i + 512 * j, 0xFFFF⟩
/-- Field 31:24 of `LNE_EYE`. -/
def LNE_EYE_VMARGIN (i j : Nat) : Fld := ⟨LNE_EYE i j, 31, 24⟩
/-- Field 23:16 of `LNE_EYE`. -/
def LNE_EYE_HMARGIN (i j : Nat) : Fld := ⟨LNE_EYE i j, 23, 16⟩
/-- Field 15:8 of `LNE_EYE`. -/
def LNE_EYE_VMIN (i j : Nat) : Fld := ⟨LNE_EYE i j, 15, 8⟩
/-- Field 7:0 of `LNE_EYE`. -/
def LNE_EYE_HMIN (i j : Nat) : Fld := ⟨LNE_EYE i j, 7, 0⟩
/-- `LNE_LOSCNT` (R437). -/
def LNE_LOSCNT (i j : Nat) : Reg := ⟨0x30100c + 0x4000 * i + 512 * j, 0⟩
/-- Field 31:0 of `LNE_LOSCNT`. -/
def LNE_LOSCNT_V (i j : Nat) : Fld := ⟨LNE_LOSCNT i j, 31, 0⟩
/-- `LNE_LOLCNT` (R437). -/
def LNE_LOLCNT (i j : Nat) : Reg := ⟨0x301010 + 0x4000 * i + 512 * j, 0⟩
/-- Field 31:0 of `LNE_LOLCNT`. -/
def LNE_LOLCNT_V (i j : Nat) : Fld := ⟨LNE_LOLCNT i j, 31, 0⟩
/-- `LNE_PRBS_CTL` (R437). -/
def LNE_PRBS_CTL (i j : Nat) : Reg := ⟨0x301020 + 0x4000 * i + 512 * j, 0⟩
/-- Field 31:31 of `LNE_PRBS_CTL`. -/
def LNE_PRBS_CTL_GEN_EN (i j : Nat) : Fld := ⟨LNE_PRBS_CTL i j, 31, 31⟩
/-- Field 30:30 of `LNE_PRBS_CTL`. -/
def LNE_PRBS_CTL_CHK_EN (i j : Nat) : Fld := ⟨LNE_PRBS_CTL i j, 30, 30⟩
/-- Field 29:27 of `LNE_PRBS_CTL`. -/
def LNE_PRBS_CTL_PAT (i j : Nat) : Fld := ⟨LNE_PRBS_CTL i j, 29, 27⟩
/-- Field 26:26 of `LNE_PRBS_CTL`. -/
def LNE_PRBS_CTL_INJ (i j : Nat) : Fld := ⟨LNE_PRBS_CTL i j, 26, 26⟩
/-- Field 25:20 of `LNE_PRBS_CTL`. -/
def LNE_PRBS_CTL_INJ_LOG2 (i j : Nat) : Fld := ⟨LNE_PRBS_CTL i j, 25, 20⟩
/-- Field 19:19 of `LNE_PRBS_CTL`. -/
def LNE_PRBS_CTL_CLR (i j : Nat) : Fld := ⟨LNE_PRBS_CTL i j, 19, 19⟩
/-- Field 18:18 of `LNE_PRBS_CTL`. -/
def LNE_PRBS_CTL_LOCK (i j : Nat) : Fld := ⟨LNE_PRBS_CTL i j, 18, 18⟩
/-- Field 17:17 of `LNE_PRBS_CTL`. -/
def LNE_PRBS_CTL_LOST_SEEN (i j : Nat) : Fld := ⟨LNE_PRBS_CTL i j, 17, 17⟩
/-- `LNE_PRBS_BITS_LO` (R437). -/
def LNE_PRBS_BITS_LO (i j : Nat) : Reg := ⟨0x301024 + 0x4000 * i + 512 * j, 0⟩
/-- Field 31:0 of `LNE_PRBS_BITS_LO`. -/
def LNE_PRBS_BITS_LO_V (i j : Nat) : Fld := ⟨LNE_PRBS_BITS_LO i j, 31, 0⟩
/-- `LNE_PRBS_BITS_HI` (R437). -/
def LNE_PRBS_BITS_HI (i j : Nat) : Reg := ⟨0x301028 + 0x4000 * i + 512 * j, 0⟩
/-- Field 31:0 of `LNE_PRBS_BITS_HI`. -/
def LNE_PRBS_BITS_HI_V (i j : Nat) : Fld := ⟨LNE_PRBS_BITS_HI i j, 31, 0⟩
/-- `LNE_PRBS_ERR_LO` (R437). -/
def LNE_PRBS_ERR_LO (i j : Nat) : Reg := ⟨0x30102c + 0x4000 * i + 512 * j, 0⟩
/-- Field 31:0 of `LNE_PRBS_ERR_LO`. -/
def LNE_PRBS_ERR_LO_V (i j : Nat) : Fld := ⟨LNE_PRBS_ERR_LO i j, 31, 0⟩
/-- `LNE_PRBS_ERR_HI` (R437). -/
def LNE_PRBS_ERR_HI (i j : Nat) : Reg := ⟨0x301030 + 0x4000 * i + 512 * j, 0⟩
/-- Field 31:0 of `LNE_PRBS_ERR_HI`. -/
def LNE_PRBS_ERR_HI_V (i j : Nat) : Fld := ⟨LNE_PRBS_ERR_HI i j, 31, 0⟩
/-- `LNE_USER_LO` (R437). -/
def LNE_USER_LO (i j : Nat) : Reg := ⟨0x301034 + 0x4000 * i + 512 * j, 0⟩
/-- Field 31:0 of `LNE_USER_LO`. -/
def LNE_USER_LO_V (i j : Nat) : Fld := ⟨LNE_USER_LO i j, 31, 0⟩
/-- `LNE_USER_HI` (R437). -/
def LNE_USER_HI (i j : Nat) : Reg := ⟨0x301038 + 0x4000 * i + 512 * j, 0⟩
/-- Field 31:0 of `LNE_USER_HI`. -/
def LNE_USER_HI_V (i j : Nat) : Fld := ⟨LNE_USER_HI i j, 31, 0⟩
/-- `SPX_CTL` (R472). -/
def SPX_CTL (i : Nat) : Reg := ⟨0x400000 + 0x1000 * i, 0x58000000⟩
/-- Field 31:30 of `SPX_CTL`. -/
def SPX_CTL_ROLE (i : Nat) : Fld := ⟨SPX_CTL i, 31, 30⟩
/-- Field 29:29 of `SPX_CTL`. -/
def SPX_CTL_DOZE_EN (i : Nat) : Fld := ⟨SPX_CTL i, 29, 29⟩
/-- Field 28:28 of `SPX_CTL`. -/
def SPX_CTL_BCN_EN (i : Nat) : Fld := ⟨SPX_CTL i, 28, 28⟩
/-- Field 27:24 of `SPX_CTL`. -/
def SPX_CTL_REPLAY_MAX (i : Nat) : Fld := ⟨SPX_CTL i, 27, 24⟩
/-- `SPX_STAT` (R472). -/
def SPX_STAT (i : Nat) : Reg := ⟨0x400004 + 0x1000 * i, 0⟩
/-- Field 31:29 of `SPX_STAT`. -/
def SPX_STAT_LSTATE (i : Nat) : Fld := ⟨SPX_STAT i, 31, 29⟩
/-- Field 28:25 of `SPX_STAT`. -/
def SPX_STAT_WIDTH (i : Nat) : Fld := ⟨SPX_STAT i, 28, 25⟩
/-- Field 24:24 of `SPX_STAT`. -/
def SPX_STAT_RESUMED (i : Nat) : Fld := ⟨SPX_STAT i, 24, 24⟩
/-- Field 23:23 of `SPX_STAT`. -/
def SPX_STAT_ABSENT_SEEN (i : Nat) : Fld := ⟨SPX_STAT i, 23, 23⟩
/-- Field 22:22 of `SPX_STAT`. -/
def SPX_STAT_REFUSED_SEEN (i : Nat) : Fld := ⟨SPX_STAT i, 22, 22⟩
/-- Field 21:21 of `SPX_STAT`. -/
def SPX_STAT_RESET_SEEN (i : Nat) : Fld := ⟨SPX_STAT i, 21, 21⟩
/-- Field 20:20 of `SPX_STAT`. -/
def SPX_STAT_XCHG (i : Nat) : Fld := ⟨SPX_STAT i, 20, 20⟩
/-- Field 19:16 of `SPX_STAT`. -/
def SPX_STAT_CAUSE (i : Nat) : Fld := ⟨SPX_STAT i, 19, 16⟩
/-- Field 15:8 of `SPX_STAT`. -/
def SPX_STAT_XCODE (i : Nat) : Fld := ⟨SPX_STAT i, 15, 8⟩
/-- `SPX_TIMER` (R472). -/
def SPX_TIMER (i : Nat) : Reg := ⟨0x400008 + 0x1000 * i, 0x0200000A⟩
/-- Field 31:22 of `SPX_TIMER`. -/
def SPX_TIMER_REPLAY_TO (i : Nat) : Fld := ⟨SPX_TIMER i, 31, 22⟩
/-- Field 15:0 of `SPX_TIMER`. -/
def SPX_TIMER_XCHG_TO (i : Nat) : Fld := ⟨SPX_TIMER i, 15, 0⟩
/-- `SPX_TRAIN` (R472). -/
def SPX_TRAIN (i : Nat) : Reg := ⟨0x40000c + 0x1000 * i, 0x27100A32⟩
/-- Field 31:16 of `SPX_TRAIN`. -/
def SPX_TRAIN_BACKOFF_MAX (i : Nat) : Fld := ⟨SPX_TRAIN i, 31, 16⟩
/-- Field 15:8 of `SPX_TRAIN`. -/
def SPX_TRAIN_BACKOFF_MIN (i : Nat) : Fld := ⟨SPX_TRAIN i, 15, 8⟩
/-- Field 7:0 of `SPX_TRAIN`. -/
def SPX_TRAIN_PARTNER_TO (i : Nat) : Fld := ⟨SPX_TRAIN i, 7, 0⟩
/-- `SPX_BCN` (R472). -/
def SPX_BCN (i : Nat) : Reg := ⟨0x400010 + 0x1000 * i, 1000⟩
/-- Field 15:0 of `SPX_BCN`. -/
def SPX_BCN_PERIOD (i : Nat) : Fld := ⟨SPX_BCN i, 15, 0⟩
/-- `SPX_ASYM` (R472). -/
def SPX_ASYM (i : Nat) : Reg := ⟨0x400014 + 0x1000 * i, 0⟩
/-- Field 31:0 of `SPX_ASYM`. -/
def SPX_ASYM_V (i : Nat) : Fld := ⟨SPX_ASYM i, 31, 0⟩
/-- `SPX_DOZE` (R472). -/
def SPX_DOZE (i : Nat) : Reg := ⟨0x400018 + 0x1000 * i, 1000⟩
/-- Field 23:0 of `SPX_DOZE`. -/
def SPX_DOZE_IDLE (i : Nat) : Fld := ⟨SPX_DOZE i, 23, 0⟩
/-- `SPX_PARTNER` (R472). -/
def SPX_PARTNER (i : Nat) : Reg := ⟨0x40001c + 0x1000 * i, 0⟩
/-- Field 31:0 of `SPX_PARTNER`. -/
def SPX_PARTNER_V (i : Nat) : Fld := ⟨SPX_PARTNER i, 31, 0⟩
/-- `SPX_EPOCH` (R472). -/
def SPX_EPOCH (i : Nat) : Reg := ⟨0x400020 + 0x1000 * i, 0⟩
/-- Field 31:0 of `SPX_EPOCH`. -/
def SPX_EPOCH_V (i : Nat) : Fld := ⟨SPX_EPOCH i, 31, 0⟩
/-- `SPX_SEQ` (R472). -/
def SPX_SEQ (i : Nat) : Reg := ⟨0x400024 + 0x1000 * i, 0⟩
/-- Field 23:0 of `SPX_SEQ`. -/
def SPX_SEQ_V (i : Nat) : Fld := ⟨SPX_SEQ i, 23, 0⟩
/-- `SPX_ACK` (R472). -/
def SPX_ACK (i : Nat) : Reg := ⟨0x400028 + 0x1000 * i, 0x00FFFFFF⟩
/-- Field 23:0 of `SPX_ACK`. -/
def SPX_ACK_V (i : Nat) : Fld := ⟨SPX_ACK i, 23, 0⟩
/-- `SPX_CRD` (R472). -/
def SPX_CRD (i : Nat) : Reg := ⟨0x40002c + 0x1000 * i, 0⟩
/-- Field 31:16 of `SPX_CRD`. -/
def SPX_CRD_DATA (i : Nat) : Fld := ⟨SPX_CRD i, 31, 16⟩
/-- Field 15:0 of `SPX_CRD`. -/
def SPX_CRD_CTRL (i : Nat) : Fld := ⟨SPX_CRD i, 15, 0⟩
/-- `SPX_REPLAYS` (R472). -/
def SPX_REPLAYS (i : Nat) : Reg := ⟨0x400030 + 0x1000 * i, 0⟩
/-- Field 31:0 of `SPX_REPLAYS`. -/
def SPX_REPLAYS_V (i : Nat) : Fld := ⟨SPX_REPLAYS i, 31, 0⟩
/-- `SPX_CRCERR` (R472). -/
def SPX_CRCERR (i : Nat) : Reg := ⟨0x400034 + 0x1000 * i, 0⟩
/-- Field 31:0 of `SPX_CRCERR`. -/
def SPX_CRCERR_V (i : Nat) : Fld := ⟨SPX_CRCERR i, 31, 0⟩
/-- `SPX_DUPS` (R472). -/
def SPX_DUPS (i : Nat) : Reg := ⟨0x400038 + 0x1000 * i, 0⟩
/-- Field 31:0 of `SPX_DUPS`. -/
def SPX_DUPS_V (i : Nat) : Fld := ⟨SPX_DUPS i, 31, 0⟩
/-- `SPX_RXDISC` (R472). -/
def SPX_RXDISC (i : Nat) : Reg := ⟨0x40003c + 0x1000 * i, 0⟩
/-- Field 31:0 of `SPX_RXDISC`. -/
def SPX_RXDISC_V (i : Nat) : Fld := ⟨SPX_RXDISC i, 31, 0⟩
/-- `SPX_FEC_CORR_LO` (R472). -/
def SPX_FEC_CORR_LO (i : Nat) : Reg := ⟨0x400040 + 0x1000 * i, 0⟩
/-- Field 31:0 of `SPX_FEC_CORR_LO`. -/
def SPX_FEC_CORR_LO_V (i : Nat) : Fld := ⟨SPX_FEC_CORR_LO i, 31, 0⟩
/-- `SPX_FEC_CORR_HI` (R472). -/
def SPX_FEC_CORR_HI (i : Nat) : Reg := ⟨0x400044 + 0x1000 * i, 0⟩
/-- Field 31:0 of `SPX_FEC_CORR_HI`. -/
def SPX_FEC_CORR_HI_V (i : Nat) : Fld := ⟨SPX_FEC_CORR_HI i, 31, 0⟩
/-- `SPX_FEC_UNC` (R472). -/
def SPX_FEC_UNC (i : Nat) : Reg := ⟨0x400048 + 0x1000 * i, 0⟩
/-- Field 31:0 of `SPX_FEC_UNC`. -/
def SPX_FEC_UNC_V (i : Nat) : Fld := ⟨SPX_FEC_UNC i, 31, 0⟩
/-- `SPX_BCN_OFS_LO` (R472). -/
def SPX_BCN_OFS_LO (i : Nat) : Reg := ⟨0x400050 + 0x1000 * i, 0⟩
/-- Field 31:0 of `SPX_BCN_OFS_LO`. -/
def SPX_BCN_OFS_LO_V (i : Nat) : Fld := ⟨SPX_BCN_OFS_LO i, 31, 0⟩
/-- `SPX_BCN_OFS_HI` (R472). -/
def SPX_BCN_OFS_HI (i : Nat) : Reg := ⟨0x400054 + 0x1000 * i, 0⟩
/-- Field 31:0 of `SPX_BCN_OFS_HI`. -/
def SPX_BCN_OFS_HI_V (i : Nat) : Fld := ⟨SPX_BCN_OFS_HI i, 31, 0⟩
/-- `SPX_BCN_DLY` (R472). -/
def SPX_BCN_DLY (i : Nat) : Reg := ⟨0x400058 + 0x1000 * i, 0⟩
/-- Field 31:0 of `SPX_BCN_DLY`. -/
def SPX_BCN_DLY_V (i : Nat) : Fld := ⟨SPX_BCN_DLY i, 31, 0⟩
/-- `SPX_BCN_SEQ` (R472). -/
def SPX_BCN_SEQ (i : Nat) : Reg := ⟨0x40005c + 0x1000 * i, 0⟩
/-- Field 31:0 of `SPX_BCN_SEQ`. -/
def SPX_BCN_SEQ_V (i : Nat) : Fld := ⟨SPX_BCN_SEQ i, 31, 0⟩
/-- `CHP_CTL` (R194). -/
def CHP_CTL (i : Nat) : Reg := ⟨0x800000 + 1024 * i, 0⟩
/-- Field 27:25 of `CHP_CTL`. -/
def CHP_CTL_GRID (i : Nat) : Fld := ⟨CHP_CTL i, 27, 25⟩
/-- Field 24:24 of `CHP_CTL`. -/
def CHP_CTL_RAW (i : Nat) : Fld := ⟨CHP_CTL i, 24, 24⟩
/-- Field 23:23 of `CHP_CTL`. -/
def CHP_CTL_DEAD (i : Nat) : Fld := ⟨CHP_CTL i, 23, 23⟩
/-- Field 22:22 of `CHP_CTL`. -/
def CHP_CTL_UNS_ZERO (i : Nat) : Fld := ⟨CHP_CTL i, 22, 22⟩
/-- Field 3:3 of `CHP_CTL`. -/
def CHP_CTL_RESTART (i : Nat) : Fld := ⟨CHP_CTL i, 3, 3⟩
/-- Field 2:2 of `CHP_CTL`. -/
def CHP_CTL_COMMIT (i : Nat) : Fld := ⟨CHP_CTL i, 2, 2⟩
/-- Field 1:1 of `CHP_CTL`. -/
def CHP_CTL_UNBIND (i : Nat) : Fld := ⟨CHP_CTL i, 1, 1⟩
/-- Field 0:0 of `CHP_CTL`. -/
def CHP_CTL_BIND (i : Nat) : Fld := ⟨CHP_CTL i, 0, 0⟩
/-- `CHP_SRC` (R194). -/
def CHP_SRC (i : Nat) : Reg := ⟨0x800004 + 1024 * i, 0⟩
/-- Field 31:30 of `CHP_SRC`. -/
def CHP_SRC_TYPE (i : Nat) : Fld := ⟨CHP_SRC i, 31, 30⟩
/-- Field 29:24 of `CHP_SRC`. -/
def CHP_SRC_SHEET (i : Nat) : Fld := ⟨CHP_SRC i, 29, 24⟩
/-- Field 9:0 of `CHP_SRC`. -/
def CHP_SRC_INDEX (i : Nat) : Fld := ⟨CHP_SRC i, 9, 0⟩
/-- `CHP_STAT` (R194). -/
def CHP_STAT (i : Nat) : Reg := ⟨0x800008 + 1024 * i, 0⟩
/-- Field 31:24 of `CHP_STAT`. -/
def CHP_STAT_CODE (i : Nat) : Fld := ⟨CHP_STAT i, 31, 24⟩
/-- Field 23:22 of `CHP_STAT`. -/
def CHP_STAT_STATE (i : Nat) : Fld := ⟨CHP_STAT i, 23, 22⟩
/-- Field 21:21 of `CHP_STAT`. -/
def CHP_STAT_SHADOW_DIRTY (i : Nat) : Fld := ⟨CHP_STAT i, 21, 21⟩
/-- Field 20:18 of `CHP_STAT`. -/
def CHP_STAT_PEND (i : Nat) : Fld := ⟨CHP_STAT i, 20, 18⟩
/-- Field 17:17 of `CHP_STAT`. -/
def CHP_STAT_CPLX (i : Nat) : Fld := ⟨CHP_STAT i, 17, 17⟩
/-- Field 16:16 of `CHP_STAT`. -/
def CHP_STAT_SAT_SEEN (i : Nat) : Fld := ⟨CHP_STAT i, 16, 16⟩
/-- `CHP_BLANK` (R194). -/
def CHP_BLANK (i : Nat) : Reg := ⟨0x80000c + 1024 * i, 0⟩
/-- Field 31:24 of `CHP_BLANK`. -/
def CHP_BLANK_MASK (i : Nat) : Fld := ⟨CHP_BLANK i, 31, 24⟩
/-- Field 23:16 of `CHP_BLANK`. -/
def CHP_BLANK_PRE (i : Nat) : Fld := ⟨CHP_BLANK i, 23, 16⟩
/-- Field 15:0 of `CHP_BLANK`. -/
def CHP_BLANK_POST (i : Nat) : Fld := ⟨CHP_BLANK i, 15, 0⟩
/-- `CHP_CALMASK` (R194). -/
def CHP_CALMASK (i : Nat) : Reg := ⟨0x800010 + 1024 * i, 0⟩
/-- Field 31:0 of `CHP_CALMASK`. -/
def CHP_CALMASK_V (i : Nat) : Fld := ⟨CHP_CALMASK i, 31, 0⟩
/-- `CHP_CALDLY` (R194). -/
def CHP_CALDLY (i : Nat) : Reg := ⟨0x800014 + 1024 * i, 0⟩
/-- Field 15:0 of `CHP_CALDLY`. -/
def CHP_CALDLY_V (i : Nat) : Fld := ⟨CHP_CALDLY i, 15, 0⟩
/-- `CHP_TEST` (R194). -/
def CHP_TEST (i : Nat) : Reg := ⟨0x800018 + 1024 * i, 0x00010000⟩
/-- Field 31:29 of `CHP_TEST`. -/
def CHP_TEST_PAT (i : Nat) : Fld := ⟨CHP_TEST i, 31, 29⟩
/-- Field 22:16 of `CHP_TEST`. -/
def CHP_TEST_MULT (i : Nat) : Fld := ⟨CHP_TEST i, 22, 16⟩
/-- Field 15:0 of `CHP_TEST`. -/
def CHP_TEST_VALUE (i : Nat) : Fld := ⟨CHP_TEST i, 15, 0⟩
/-- `CHP_DELAY` (R194). -/
def CHP_DELAY (i : Nat) : Reg := ⟨0x800020 + 1024 * i, 0⟩
/-- Field 25:10 of `CHP_DELAY`. -/
def CHP_DELAY_INT (i : Nat) : Fld := ⟨CHP_DELAY i, 25, 10⟩
/-- Field 9:0 of `CHP_DELAY`. -/
def CHP_DELAY_FRAC (i : Nat) : Fld := ⟨CHP_DELAY i, 9, 0⟩
/-- `CHP_MIX` (R194). -/
def CHP_MIX (i : Nat) : Reg := ⟨0x800024 + 1024 * i, 0⟩
/-- Field 31:16 of `CHP_MIX`. -/
def CHP_MIX_PHASE (i : Nat) : Fld := ⟨CHP_MIX i, 31, 16⟩
/-- Field 1:0 of `CHP_MIX`. -/
def CHP_MIX_MODE (i : Nat) : Fld := ⟨CHP_MIX i, 1, 0⟩
/-- `CHP_NCO_LO` (R194). -/
def CHP_NCO_LO (i : Nat) : Reg := ⟨0x800028 + 1024 * i, 0⟩
/-- Field 31:0 of `CHP_NCO_LO`. -/
def CHP_NCO_LO_V (i : Nat) : Fld := ⟨CHP_NCO_LO i, 31, 0⟩
/-- `CHP_NCO_HI` (R194). -/
def CHP_NCO_HI (i : Nat) : Reg := ⟨0x80002c + 1024 * i, 0⟩
/-- Field 15:0 of `CHP_NCO_HI`. -/
def CHP_NCO_HI_V (i : Nat) : Fld := ⟨CHP_NCO_HI i, 15, 0⟩
/-- `CHP_DEC` (R194). -/
def CHP_DEC (i j : Nat) : Reg := ⟨0x800040 + 1024 * i + 4 * j, 0⟩
/-- Field 31:29 of `CHP_DEC`. -/
def CHP_DEC_TYPE (i j : Nat) : Fld := ⟨CHP_DEC i j, 31, 29⟩
/-- Field 28:22 of `CHP_DEC`. -/
def CHP_DEC_RATE (i j : Nat) : Fld := ⟨CHP_DEC i j, 28, 22⟩
/-- Field 21:19 of `CHP_DEC`. -/
def CHP_DEC_ORDER (i j : Nat) : Fld := ⟨CHP_DEC i j, 21, 19⟩
/-- Field 18:14 of `CHP_DEC`. -/
def CHP_DEC_SHIFT (i j : Nat) : Fld := ⟨CHP_DEC i j, 18, 14⟩
/-- Field 13:12 of `CHP_DEC`. -/
def CHP_DEC_RND (i j : Nat) : Fld := ⟨CHP_DEC i j, 13, 12⟩
/-- Field 11:0 of `CHP_DEC`. -/
def CHP_DEC_COEF (i j : Nat) : Fld := ⟨CHP_DEC i j, 11, 0⟩
/-- `CHP_SATCNT` (R194). -/
def CHP_SATCNT (i : Nat) : Reg := ⟨0x800090 + 1024 * i, 0⟩
/-- Field 31:0 of `CHP_SATCNT`. -/
def CHP_SATCNT_V (i : Nat) : Fld := ⟨CHP_SATCNT i, 31, 0⟩
/-- `CHP_UNS` (R194). -/
def CHP_UNS (i : Nat) : Reg := ⟨0x800094 + 1024 * i, 0⟩
/-- Field 31:0 of `CHP_UNS`. -/
def CHP_UNS_V (i : Nat) : Fld := ⟨CHP_UNS i, 31, 0⟩
/-- `CHP_GD` (R194). -/
def CHP_GD (i : Nat) : Reg := ⟨0x800098 + 1024 * i, 0⟩
/-- Field 31:0 of `CHP_GD`. -/
def CHP_GD_V (i : Nat) : Fld := ⟨CHP_GD i, 31, 0⟩
/-- `CHP_RSM_CTL` (R216). -/
def CHP_RSM_CTL (i : Nat) : Reg := ⟨0x8000a0 + 1024 * i, 0⟩
/-- Field 31:30 of `CHP_RSM_CTL`. -/
def CHP_RSM_CTL_SET (i : Nat) : Fld := ⟨CHP_RSM_CTL i, 31, 30⟩
/-- `CHP_RSM_STAT` (R216). -/
def CHP_RSM_STAT (i : Nat) : Reg := ⟨0x8000a4 + 1024 * i, 0⟩
/-- Field 31:29 of `CHP_RSM_STAT`. -/
def CHP_RSM_STAT_TRACK (i : Nat) : Fld := ⟨CHP_RSM_STAT i, 31, 29⟩
/-- Field 28:27 of `CHP_RSM_STAT`. -/
def CHP_RSM_STAT_TSTATE (i : Nat) : Fld := ⟨CHP_RSM_STAT i, 28, 27⟩
/-- Field 26:26 of `CHP_RSM_STAT`. -/
def CHP_RSM_STAT_GAP_SEEN (i : Nat) : Fld := ⟨CHP_RSM_STAT i, 26, 26⟩
/-- Field 25:25 of `CHP_RSM_STAT`. -/
def CHP_RSM_STAT_RANGE_SEEN (i : Nat) : Fld := ⟨CHP_RSM_STAT i, 25, 25⟩
/-- `CHP_RSM_STEP_LO` (R216). -/
def CHP_RSM_STEP_LO (i : Nat) : Reg := ⟨0x8000a8 + 1024 * i, 0⟩
/-- Field 31:0 of `CHP_RSM_STEP_LO`. -/
def CHP_RSM_STEP_LO_V (i : Nat) : Fld := ⟨CHP_RSM_STEP_LO i, 31, 0⟩
/-- `CHP_RSM_STEP_HI` (R216). -/
def CHP_RSM_STEP_HI (i : Nat) : Reg := ⟨0x8000ac + 1024 * i, 0⟩
/-- Field 17:0 of `CHP_RSM_STEP_HI`. -/
def CHP_RSM_STEP_HI_V (i : Nat) : Fld := ⟨CHP_RSM_STEP_HI i, 17, 0⟩
/-- `CHP_RSM_GAPS_LO` (R216). -/
def CHP_RSM_GAPS_LO (i : Nat) : Reg := ⟨0x8000b0 + 1024 * i, 0⟩
/-- Field 31:0 of `CHP_RSM_GAPS_LO`. -/
def CHP_RSM_GAPS_LO_V (i : Nat) : Fld := ⟨CHP_RSM_GAPS_LO i, 31, 0⟩
/-- `CHP_RSM_GAPS_HI` (R216). -/
def CHP_RSM_GAPS_HI (i : Nat) : Reg := ⟨0x8000b4 + 1024 * i, 0⟩
/-- Field 31:0 of `CHP_RSM_GAPS_HI`. -/
def CHP_RSM_GAPS_HI_V (i : Nat) : Fld := ⟨CHP_RSM_GAPS_HI i, 31, 0⟩
/-- `CHP_RSM_GFIRST_LO` (R216). -/
def CHP_RSM_GFIRST_LO (i : Nat) : Reg := ⟨0x8000b8 + 1024 * i, 0⟩
/-- Field 31:0 of `CHP_RSM_GFIRST_LO`. -/
def CHP_RSM_GFIRST_LO_V (i : Nat) : Fld := ⟨CHP_RSM_GFIRST_LO i, 31, 0⟩
/-- `CHP_RSM_GFIRST_HI` (R216). -/
def CHP_RSM_GFIRST_HI (i : Nat) : Reg := ⟨0x8000bc + 1024 * i, 0⟩
/-- Field 31:0 of `CHP_RSM_GFIRST_HI`. -/
def CHP_RSM_GFIRST_HI_V (i : Nat) : Fld := ⟨CHP_RSM_GFIRST_HI i, 31, 0⟩
/-- `CHP_RSM_GLAST_LO` (R216). -/
def CHP_RSM_GLAST_LO (i : Nat) : Reg := ⟨0x8000c0 + 1024 * i, 0⟩
/-- Field 31:0 of `CHP_RSM_GLAST_LO`. -/
def CHP_RSM_GLAST_LO_V (i : Nat) : Fld := ⟨CHP_RSM_GLAST_LO i, 31, 0⟩
/-- `CHP_RSM_GLAST_HI` (R216). -/
def CHP_RSM_GLAST_HI (i : Nat) : Reg := ⟨0x8000c4 + 1024 * i, 0⟩
/-- Field 31:0 of `CHP_RSM_GLAST_HI`. -/
def CHP_RSM_GLAST_HI_V (i : Nat) : Fld := ⟨CHP_RSM_GLAST_HI i, 31, 0⟩
/-- `CHP_CHN_CTL` (R244). -/
def CHP_CHN_CTL (i : Nat) : Reg := ⟨0x8000c8 + 1024 * i, 0⟩
/-- Field 31:31 of `CHP_CHN_CTL`. -/
def CHP_CHN_CTL_EN (i : Nat) : Fld := ⟨CHP_CHN_CTL i, 31, 31⟩
/-- Field 30:30 of `CHP_CHN_CTL`. -/
def CHP_CHN_CTL_OVS (i : Nat) : Fld := ⟨CHP_CHN_CTL i, 30, 30⟩
/-- Field 29:26 of `CHP_CHN_CTL`. -/
def CHP_CHN_CTL_K (i : Nat) : Fld := ⟨CHP_CHN_CTL i, 29, 26⟩
/-- Field 25:21 of `CHP_CHN_CTL`. -/
def CHP_CHN_CTL_TAPS (i : Nat) : Fld := ⟨CHP_CHN_CTL i, 25, 21⟩
/-- Field 20:16 of `CHP_CHN_CTL`. -/
def CHP_CHN_CTL_COEF (i : Nat) : Fld := ⟨CHP_CHN_CTL i, 20, 16⟩
/-- Field 15:11 of `CHP_CHN_CTL`. -/
def CHP_CHN_CTL_OSHIFT (i : Nat) : Fld := ⟨CHP_CHN_CTL i, 15, 11⟩
/-- `CHP_CHN_SCALE` (R244). -/
def CHP_CHN_SCALE (i : Nat) : Reg := ⟨0x8000cc + 1024 * i, 0⟩
/-- Field 14:0 of `CHP_CHN_SCALE`. -/
def CHP_CHN_SCALE_SCALE (i : Nat) : Fld := ⟨CHP_CHN_SCALE i, 14, 0⟩
/-- `CHP_CHN_SEL` (R244). -/
def CHP_CHN_SEL (i : Nat) : Reg := ⟨0x8000d0 + 1024 * i, 0x00010000⟩
/-- Field 30:16 of `CHP_CHN_SEL`. -/
def CHP_CHN_SEL_COUNT (i : Nat) : Fld := ⟨CHP_CHN_SEL i, 30, 16⟩
/-- Field 13:0 of `CHP_CHN_SEL`. -/
def CHP_CHN_SEL_FIRST (i : Nat) : Fld := ⟨CHP_CHN_SEL i, 13, 0⟩
/-- `CHP_CHN_STAT` (R244). -/
def CHP_CHN_STAT (i : Nat) : Reg := ⟨0x8000d4 + 1024 * i, 0⟩
/-- Field 31:16 of `CHP_CHN_STAT`. -/
def CHP_CHN_STAT_USPEC (i : Nat) : Fld := ⟨CHP_CHN_STAT i, 31, 16⟩
/-- `CHP_FPD_CTL` (R244). -/
def CHP_FPD_CTL (i : Nat) : Reg := ⟨0x8000d8 + 1024 * i, 0⟩
/-- Field 31:31 of `CHP_FPD_CTL`. -/
def CHP_FPD_CTL_EN (i : Nat) : Fld := ⟨CHP_FPD_CTL i, 31, 31⟩
/-- Field 30:27 of `CHP_FPD_CTL`. -/
def CHP_FPD_CTL_WLOG2 (i : Nat) : Fld := ⟨CHP_FPD_CTL i, 30, 27⟩
/-- `CHP_FPD_HI` (R244). -/
def CHP_FPD_HI (i : Nat) : Reg := ⟨0x8000dc + 1024 * i, 0xFFFFFFFF⟩
/-- Field 31:0 of `CHP_FPD_HI`. -/
def CHP_FPD_HI_V (i : Nat) : Fld := ⟨CHP_FPD_HI i, 31, 0⟩
/-- `CHP_FPD_LO` (R244). -/
def CHP_FPD_LO (i : Nat) : Reg := ⟨0x8000e0 + 1024 * i, 0⟩
/-- Field 31:0 of `CHP_FPD_LO`. -/
def CHP_FPD_LO_V (i : Nat) : Fld := ⟨CHP_FPD_LO i, 31, 0⟩
/-- `CHP_RDC_CTL` (R244). -/
def CHP_RDC_CTL (i : Nat) : Reg := ⟨0x8000e4 + 1024 * i, 0⟩
/-- Field 31:30 of `CHP_RDC_CTL`. -/
def CHP_RDC_CTL_MODE (i : Nat) : Fld := ⟨CHP_RDC_CTL i, 31, 30⟩
/-- Field 29:28 of `CHP_RDC_CTL`. -/
def CHP_RDC_CTL_RQ (i : Nat) : Fld := ⟨CHP_RDC_CTL i, 29, 28⟩
/-- Field 27:27 of `CHP_RDC_CTL`. -/
def CHP_RDC_CTL_HIST (i : Nat) : Fld := ⟨CHP_RDC_CTL i, 27, 27⟩
/-- Field 26:23 of `CHP_RDC_CTL`. -/
def CHP_RDC_CTL_EXCL (i : Nat) : Fld := ⟨CHP_RDC_CTL i, 26, 23⟩
/-- Field 22:18 of `CHP_RDC_CTL`. -/
def CHP_RDC_CTL_ILOG2 (i : Nat) : Fld := ⟨CHP_RDC_CTL i, 22, 18⟩
/-- Field 17:16 of `CHP_RDC_CTL`. -/
def CHP_RDC_CTL_PFMT (i : Nat) : Fld := ⟨CHP_RDC_CTL i, 17, 16⟩
/-- Field 15:10 of `CHP_RDC_CTL`. -/
def CHP_RDC_CTL_PSHIFT (i : Nat) : Fld := ⟨CHP_RDC_CTL i, 15, 10⟩
/-- `CHP_RDC_RQ` (R244). -/
def CHP_RDC_RQ (i : Nat) : Reg := ⟨0x8000e8 + 1024 * i, 0x10000000⟩
/-- Field 31:16 of `CHP_RDC_RQ`. -/
def CHP_RDC_RQ_GAIN (i : Nat) : Fld := ⟨CHP_RDC_RQ i, 31, 16⟩
/-- Field 15:10 of `CHP_RDC_RQ`. -/
def CHP_RDC_RQ_GTAB (i : Nat) : Fld := ⟨CHP_RDC_RQ i, 15, 10⟩
/-- Field 4:0 of `CHP_RDC_RQ`. -/
def CHP_RDC_RQ_RSHIFT (i : Nat) : Fld := ⟨CHP_RDC_RQ i, 4, 0⟩
/-- `CHP_RDC_HIST` (R244). -/
def CHP_RDC_HIST (i : Nat) : Reg := ⟨0x8000ec + 1024 * i, 0⟩
/-- Field 31:27 of `CHP_RDC_HIST`. -/
def CHP_RDC_HIST_HSHIFT (i : Nat) : Fld := ⟨CHP_RDC_HIST i, 31, 27⟩
/-- Field 26:22 of `CHP_RDC_HIST`. -/
def CHP_RDC_HIST_HLOG2 (i : Nat) : Fld := ⟨CHP_RDC_HIST i, 26, 22⟩
/-- `CHP_ROUTE` (R244). -/
def CHP_ROUTE (i : Nat) : Reg := ⟨0x8000f0 + 1024 * i, 0⟩
/-- Field 31:31 of `CHP_ROUTE`. -/
def CHP_ROUTE_PQ_EN (i : Nat) : Fld := ⟨CHP_ROUTE i, 31, 31⟩
/-- Field 29:16 of `CHP_ROUTE`. -/
def CHP_ROUTE_PQUEUE (i : Nat) : Fld := ⟨CHP_ROUTE i, 29, 16⟩
/-- Field 15:15 of `CHP_ROUTE`. -/
def CHP_ROUTE_VQ_EN (i : Nat) : Fld := ⟨CHP_ROUTE i, 15, 15⟩
/-- Field 13:0 of `CHP_ROUTE`. -/
def CHP_ROUTE_VQUEUE (i : Nat) : Fld := ⟨CHP_ROUTE i, 13, 0⟩
/-- `CHP_FPD_CNT` (R244). -/
def CHP_FPD_CNT (i : Nat) : Reg := ⟨0x8000f4 + 1024 * i, 0⟩
/-- Field 31:0 of `CHP_FPD_CNT`. -/
def CHP_FPD_CNT_V (i : Nat) : Fld := ⟨CHP_FPD_CNT i, 31, 0⟩
/-- `CHP_GRP_RES_B` (R193). -/
def CHP_GRP_RES_B : Reg := ⟨0x900300, 0⟩
/-- Field 31:16 of `CHP_GRP_RES_B`. -/
def CHP_GRP_RES_B_REFUSED : Fld := ⟨CHP_GRP_RES_B, 31, 16⟩
/-- Field 15:0 of `CHP_GRP_RES_B`. -/
def CHP_GRP_RES_B_ACCEPTED : Fld := ⟨CHP_GRP_RES_B, 15, 0⟩
/-- `CHP_GRP_RES_D` (R193). -/
def CHP_GRP_RES_D (i : Nat) : Reg := ⟨0x910300 + 1024 * i, 0⟩
/-- Field 31:16 of `CHP_GRP_RES_D`. -/
def CHP_GRP_RES_D_REFUSED (i : Nat) : Fld := ⟨CHP_GRP_RES_D i, 31, 16⟩
/-- Field 15:0 of `CHP_GRP_RES_D`. -/
def CHP_GRP_RES_D_ACCEPTED (i : Nat) : Fld := ⟨CHP_GRP_RES_D i, 15, 0⟩
/-- `CHP_DMEM` (R192). -/
def CHP_DMEM (i j : Nat) : Reg := ⟨0x910380 + 1024 * i + 4 * j, 0⟩
/-- Field 31:0 of `CHP_DMEM`. -/
def CHP_DMEM_V (i j : Nat) : Fld := ⟨CHP_DMEM i j, 31, 0⟩
/-- `BFM_CTL` (R245). -/
def BFM_CTL : Reg := ⟨0xa00000, 0⟩
/-- Field 0:0 of `BFM_CTL`. -/
def BFM_CTL_COMMIT : Fld := ⟨BFM_CTL, 0, 0⟩
/-- `BFM_RANGE` (R245). -/
def BFM_RANGE : Reg := ⟨0xa00004, 0⟩
/-- Field 27:16 of `BFM_RANGE`. -/
def BFM_RANGE_LAST : Fld := ⟨BFM_RANGE, 27, 16⟩
/-- Field 11:0 of `BFM_RANGE`. -/
def BFM_RANGE_FIRST : Fld := ⟨BFM_RANGE, 11, 0⟩
/-- `BFM_STAT` (R245). -/
def BFM_STAT : Reg := ⟨0xa00008, 0⟩
/-- Field 31:24 of `BFM_STAT`. -/
def BFM_STAT_CODE : Fld := ⟨BFM_STAT, 31, 24⟩
/-- Field 23:12 of `BFM_STAT`. -/
def BFM_STAT_BEAM : Fld := ⟨BFM_STAT, 23, 12⟩
/-- `BFM_CAP` (R245). -/
def BFM_CAP : Reg := ⟨0xa0000c, 40000⟩
/-- Field 31:0 of `BFM_CAP`. -/
def BFM_CAP_V : Fld := ⟨BFM_CAP, 31, 0⟩
/-- `BFM_LOAD` (R245). -/
def BFM_LOAD : Reg := ⟨0xa00010, 0⟩
/-- Field 31:0 of `BFM_LOAD`. -/
def BFM_LOAD_V : Fld := ⟨BFM_LOAD, 31, 0⟩
/-- `BFM_ARRAY` (R245). -/
def BFM_ARRAY (i : Nat) : Reg := ⟨0xa00100 + 4 * i, (if i = 16 then 0x40000000 else 0)⟩
/-- Field 31:30 of `BFM_ARRAY`. -/
def BFM_ARRAY_STATE (i : Nat) : Fld := ⟨BFM_ARRAY i, 31, 30⟩
/-- `BFM_DESC` (R245). -/
def BFM_DESC (i j : Nat) : Reg := ⟨0xa10000 + 32 * i + 4 * j, 0⟩
/-- Field 31:0 of `BFM_DESC`. -/
def BFM_DESC_V (i j : Nat) : Fld := ⟨BFM_DESC i j, 31, 0⟩
/-- `BFM_ISET` (R245). -/
def BFM_ISET (i j : Nat) : Reg := ⟨0xa30000 + 128 * i + 4 * j, 0⟩
/-- Field 31:0 of `BFM_ISET`. -/
def BFM_ISET_V (i j : Nat) : Fld := ⟨BFM_ISET i j, 31, 0⟩
/-- `BFM_BSTAT0` (R245). -/
def BFM_BSTAT0 (i : Nat) : Reg := ⟨0xa40000 + 16 * i, 0⟩
/-- Field 31:30 of `BFM_BSTAT0`. -/
def BFM_BSTAT0_STATE (i : Nat) : Fld := ⟨BFM_BSTAT0 i, 31, 30⟩
/-- Field 29:29 of `BFM_BSTAT0`. -/
def BFM_BSTAT0_GAP_SEEN (i : Nat) : Fld := ⟨BFM_BSTAT0 i, 29, 29⟩
/-- Field 28:28 of `BFM_BSTAT0`. -/
def BFM_BSTAT0_SAT_SEEN (i : Nat) : Fld := ⟨BFM_BSTAT0 i, 28, 28⟩
/-- Field 27:27 of `BFM_BSTAT0`. -/
def BFM_BSTAT0_SHED (i : Nat) : Fld := ⟨BFM_BSTAT0 i, 27, 27⟩
/-- Field 10:0 of `BFM_BSTAT0`. -/
def BFM_BSTAT0_USED_MIN (i : Nat) : Fld := ⟨BFM_BSTAT0 i, 10, 0⟩
/-- `BFM_CHAIN_LATE` (R245). -/
def BFM_CHAIN_LATE (i : Nat) : Reg := ⟨0xa40004 + 16 * i, 0⟩
/-- Field 31:0 of `BFM_CHAIN_LATE`. -/
def BFM_CHAIN_LATE_V (i : Nat) : Fld := ⟨BFM_CHAIN_LATE i, 31, 0⟩
/-- `BFM_GAPS_LO` (R245). -/
def BFM_GAPS_LO (i : Nat) : Reg := ⟨0xa40008 + 16 * i, 0⟩
/-- Field 31:0 of `BFM_GAPS_LO`. -/
def BFM_GAPS_LO_V (i : Nat) : Fld := ⟨BFM_GAPS_LO i, 31, 0⟩
/-- `BFM_GAPS_HI` (R245). -/
def BFM_GAPS_HI (i : Nat) : Reg := ⟨0xa4000c + 16 * i, 0⟩
/-- Field 31:0 of `BFM_GAPS_HI`. -/
def BFM_GAPS_HI_V (i : Nat) : Fld := ⟨BFM_GAPS_HI i, 31, 0⟩
/-- `BFM_BSAT` (R245). -/
def BFM_BSAT (i : Nat) : Reg := ⟨0xa50000 + 4 * i, 0⟩
/-- Field 31:0 of `BFM_BSAT`. -/
def BFM_BSAT_V (i : Nat) : Fld := ⟨BFM_BSAT i, 31, 0⟩
/-- `MSIX_MOD` (R512). -/
def MSIX_MOD (i j : Nat) : Reg := ⟨0x2000c000 + 0x100000000 * i + 4 * j, 0⟩
/-- Field 15:0 of `MSIX_MOD`. -/
def MSIX_MOD_MIN_US (i j : Nat) : Fld := ⟨MSIX_MOD i j, 15, 0⟩

/-- The registers of the SYS block (part 0). -/
def regsSys0 : List RegRow := [
  ⟨"SYS_IDENT", 0, [], fun _ => 0x00012018,
    [⟨"PART", 31, 16, .ro, false, []⟩,
     ⟨"STEP", 15, 8, .ro, false, []⟩,
     ⟨"LID", 7, 4, .ro, false, []⟩,
     ⟨"CNVD", 3, 0, .ro, false, []⟩], false⟩,
  ⟨"SYS_POLICY", 64, [], fun _ => 0,
    [⟨"ROUTE_SW", 16, 16, .rw, false, []⟩,
     ⟨"SP_MRAM", 10, 10, .rw, false, []⟩,
     ⟨"SP_TDC", 9, 9, .rw, false, []⟩,
     ⟨"SP_CORE", 8, 8, .rw, false, []⟩,
     ⟨"SP_PCV", 7, 7, .rw, false, []⟩,
     ⟨"SP_BMAC", 6, 6, .rw, false, []⟩,
     ⟨"SP_FAR", 5, 5, .rw, false, []⟩,
     ⟨"SP_NEAR", 4, 4, .rw, false, []⟩,
     ⟨"SP_LANE", 3, 3, .rw, false, []⟩,
     ⟨"SP_SLOT", 2, 2, .rw, false, []⟩,
     ⟨"SP_ENG", 1, 1, .rw, false, []⟩,
     ⟨"SP_SLICE", 0, 0, .rw, false, []⟩], false⟩,
  ⟨"SYS_HUB_ID", 68, [], fun _ => Config.factoryHubId,
    [⟨"ID", 31, 0, .rw, false, [(0, 0), (4294967295, 4294967295)]⟩], false⟩,
  ⟨"SYS_POST_STALL", 128, [], fun _ => 20,
    [⟨"LIMIT", 15, 0, .rw, false, [(0, 0), (501, 65535)]⟩], false⟩,
  ⟨"SYS_ACC_CNT", 256, [(32, 0x100000000)], fun _ => 0,
    [⟨"COUNT", 31, 0, .clr, false, []⟩], false⟩,
  ⟨"SYS_ACC_LAST", 260, [(32, 0x100000000)], fun _ => 0,
    [⟨"WRITE", 31, 31, .ro, false, []⟩,
     ⟨"WIDTH", 30, 30, .ro, false, []⟩,
     ⟨"BAR", 29, 28, .ro, false, []⟩,
     ⟨"OFFSET", 25, 0, .ro, false, []⟩], false⟩,
  ⟨"SYS_TWIN", 272, [(32, 0x100000000), (2, 4)], fun _ => 0,
    [⟨"TABLE", 31, 28, .rw, false, []⟩,
     ⟨"BASE", 7, 0, .rw, false, []⟩], false⟩,
  ⟨"SYS_PTM_CTL", 288, [], fun _ => 0,
    [⟨"EN", 31, 31, .rw, false, []⟩,
     ⟨"START", 30, 30, .sc, false, []⟩,
     ⟨"PERIOD", 15, 0, .rw, false, []⟩], false⟩,
  ⟨"SYS_PTM_SEQ", 292, [], fun _ => 0,
    [⟨"SEQ", 31, 16, .ro, false, []⟩,
     ⟨"FAIL", 15, 8, .ro, false, []⟩,
     ⟨"STATE", 1, 0, .ro, false, []⟩], false⟩,
  ⟨"SYS_PTM_HOST_LO", 296, [], fun _ => 0,
    [⟨"V", 31, 0, .ro, false, []⟩], true⟩,
  ⟨"SYS_PTM_HOST_HI", 300, [], fun _ => 0,
    [⟨"V", 31, 0, .ro, false, []⟩], false⟩,
  ⟨"SYS_PTM_MT_FRAC", 304, [], fun _ => 0,
    [⟨"V", 15, 0, .ro, false, []⟩], false⟩,
  ⟨"SYS_PTM_MT_NS", 308, [], fun _ => 0,
    [⟨"V", 31, 0, .ro, false, []⟩], false⟩,
  ⟨"SYS_PTM_MT_SEC_LO", 312, [], fun _ => 0,
    [⟨"V", 31, 0, .ro, false, []⟩], true⟩,
  ⟨"SYS_PTM_MT_SEC_HI", 316, [], fun _ => 0,
    [⟨"V", 15, 0, .ro, false, []⟩], false⟩,
  ⟨"SYS_PTM_DLY", 320, [], fun _ => 0,
    [⟨"V", 31, 0, .ro, false, []⟩], false⟩,
  ⟨"SYS_RST_CTL", 512, [], fun _ => 0,
    [⟨"WARM", 31, 31, .sc, false, []⟩,
     ⟨"FW", 30, 30, .sc, false, []⟩,
     ⟨"KEY", 15, 0, .wo, false, []⟩], false⟩,
  ⟨"SYS_START", 516, [], fun _ => 0,
    [⟨"READY", 31, 31, .ro, false, []⟩,
     ⟨"SUPPLY", 30, 30, .w1c, false, []⟩,
     ⟨"MEM_FAIL", 29, 24, .ro, false, []⟩,
     ⟨"LD_FAIL", 23, 20, .ro, false, []⟩,
     ⟨"CD_FAIL", 19, 12, .ro, false, []⟩,
     ⟨"WARM_ACT", 11, 11, .ro, false, []⟩], false⟩,
  ⟨"SYS_BOOT", 520, [], fun _ => 0,
    [⟨"RUN", 31, 30, .ro, false, []⟩,
     ⟨"A_OK", 29, 29, .ro, false, []⟩,
     ⟨"B_OK", 28, 28, .ro, false, []⟩,
     ⟨"PREFER", 27, 26, .rw, false, [(3, 3)]⟩,
     ⟨"FW", 25, 24, .ro, false, []⟩], false⟩,
  ⟨"SYS_FW_VER", 524, [], fun _ => 0,
    [⟨"V", 31, 0, .ro, false, []⟩], false⟩,
  ⟨"SYS_IMG_CTL", 528, [], fun _ => 0,
    [⟨"VERIFY", 31, 31, .sc, false, []⟩,
     ⟨"TGT", 8, 8, .rw, false, []⟩,
     ⟨"PAGE", 6, 0, .rw, false, [(96, 127)]⟩], false⟩,
  ⟨"SYS_RST_CAUSE", 532, [], fun _ => 0,
    [⟨"CAUSE", 31, 29, .ro, false, []⟩,
     ⟨"WARMS", 15, 0, .ro, false, []⟩], false⟩,
  ⟨"SYS_GRID_CTL", 1024, [(8, 64)], fun _ => 0,
    [⟨"VALID", 31, 31, .ro, false, []⟩,
     ⟨"FRAME_LOG2", 28, 24, .ro, false, []⟩,
     ⟨"GEN", 15, 0, .ro, false, []⟩], false⟩,
  ⟨"SYS_GRID_EP_FRAC", 1028, [(8, 64)], fun _ => 0,
    [⟨"V", 15, 0, .ro, false, []⟩], false⟩,
  ⟨"SYS_GRID_EP_NS", 1032, [(8, 64)], fun _ => 0,
    [⟨"V", 31, 0, .ro, false, []⟩], false⟩]

/-- The registers of the SYS block (part 1). -/
def regsSys1 : List RegRow := [
  ⟨"SYS_GRID_EP_SEC_LO", 1036, [(8, 64)], fun _ => 0,
    [⟨"V", 31, 0, .ro, false, []⟩], true⟩,
  ⟨"SYS_GRID_EP_SEC_HI", 1040, [(8, 64)], fun _ => 0,
    [⟨"V", 15, 0, .ro, false, []⟩], false⟩,
  ⟨"SYS_GRID_NUM_LO", 1044, [(8, 64)], fun _ => 0,
    [⟨"V", 31, 0, .ro, false, []⟩], true⟩,
  ⟨"SYS_GRID_NUM_HI", 1048, [(8, 64)], fun _ => 0,
    [⟨"V", 31, 0, .ro, false, []⟩], false⟩,
  ⟨"SYS_GRID_DEN", 1052, [(8, 64)], fun _ => 0,
    [⟨"V", 31, 0, .ro, false, []⟩], false⟩,
  ⟨"SYS_GRID_BOUND", 1056, [(8, 64)], fun _ => 0,
    [⟨"V", 15, 0, .ro, false, []⟩], false⟩,
  ⟨"SYS_PQ_CTL", 0x2000, [(256, 16)], fun x => (if (x.getD 0 0) = 32 then 0x60000000 else if (x.getD 0 0) ≤ 15 then 0x20000000 else 0),
    [⟨"FLUSH", 31, 31, .sc, false, []⟩,
     ⟨"ORDER", 30, 30, .rw, false, []⟩,
     ⟨"POLICY", 29, 29, .rw, false, []⟩], false⟩,
  ⟨"SYS_PQ_STAT", 0x2004, [(256, 16)], fun x => (if (x.getD 0 0) ≤ 15 ∨ (x.getD 0 0) = 32 then 64 * 65536 else if (x.getD 0 0) ≤ 31 then 1024 * 65536 else 256 * 65536),
    [⟨"OVF", 31, 31, .w1c, false, []⟩,
     ⟨"PART_SEEN", 30, 30, .w1c, false, []⟩,
     ⟨"DEPTH", 27, 16, .ro, false, []⟩,
     ⟨"LEVEL", 15, 0, .ro, false, []⟩], false⟩,
  ⟨"SYS_PQ_LOST", 0x2008, [(256, 16)], fun _ => 0,
    [⟨"V", 31, 0, .clr, false, []⟩], false⟩,
  ⟨"SYS_PQ_FLUSHCNT", 0x200c, [(256, 16)], fun _ => 0,
    [⟨"V", 31, 0, .clr, false, []⟩], false⟩,
  ⟨"SYS_PQ_MON_CFG", 0x3000, [(223, 32)], fun _ => 0,
    [⟨"EN", 31, 31, .rw, false, []⟩,
     ⟨"PERIOD", 23, 0, .rw, false, [(0, 0)]⟩], false⟩,
  ⟨"SYS_PQ_MON_SRC", 0x3004, [(223, 32), (4, 4)], fun _ => 0,
    [⟨"VALID", 31, 31, .rw, false, []⟩,
     ⟨"WOFF", 25, 2, .rw, false, []⟩], false⟩,
  ⟨"SYS_PQ_MON_W", 0x6000, [(223, 32), (8, 4)], fun x => (if (x.getD 1 0) = 0 then 0x80000000 else 0),
    [⟨"V", 31, 0, .rp, false, []⟩], false⟩]

/-- The registers of the PWR block. -/
def regsPwr : List RegRow := [
  ⟨"PWR_STAT", 0x10000, [], fun _ => 0,
    [⟨"EXHAUST_SEEN", 3, 3, .w1c, false, []⟩,
     ⟨"WEAR_SEEN", 2, 2, .w1c, false, []⟩,
     ⟨"WAKE_FAIL_SEEN", 1, 1, .w1c, false, []⟩,
     ⟨"DRAIN_FAIL_SEEN", 0, 0, .w1c, false, []⟩], false⟩,
  ⟨"PWR_DOM", 0x10100, [(97, 4)], fun x => (if Config.domainAwakeAtReset (x.getD 0 0) then 0 else 0x02000000),
    [⟨"DOWN", 31, 31, .sc, false, []⟩,
     ⟨"UP", 30, 30, .sc, false, []⟩,
     ⟨"REFUSE", 29, 29, .rw, false, []⟩,
     ⟨"STATE", 25, 24, .ro, false, []⟩,
     ⟨"CODE", 23, 16, .ro, false, []⟩], false⟩,
  ⟨"PWR_DOM_REF", 0x10300, [(97, 4)], fun _ => 0,
    [⟨"V", 31, 0, .clr, false, []⟩], false⟩,
  ⟨"PWR_SPARE", 0x10600, [(11, 4)], fun x => (Config.sparesLeft (x.getD 0 0)),
    [⟨"USED", 31, 16, .ro, false, []⟩,
     ⟨"LEFT", 15, 0, .ro, false, []⟩], false⟩,
  ⟨"PWR_SPARE_WARN", 0x10680, [(11, 4)], fun x => (if (x.getD 0 0) = 0 ∨ (x.getD 0 0) = 2 then 0 else if (x.getD 0 0) = 3 ∨ (x.getD 0 0) = 4 then 8 else if (x.getD 0 0) = 5 then 1024 else if (x.getD 0 0) = 10 then 10 else 1),
    [⟨"V", 15, 0, .rw, false, []⟩], false⟩,
  ⟨"PWR_ENG", 0x10800, [(68, 4)], fun x => (if (x.getD 0 0) < 64 then (x.getD 0 0) * 16777216 else 0x7F000000),
    [⟨"STATE", 31, 30, .ro, false, []⟩,
     ⟨"LOGICAL", 29, 24, .ro, false, []⟩,
     ⟨"CORR", 15, 0, .clr, false, []⟩], false⟩,
  ⟨"PWR_CORE", 0x10a00, [(5, 4)], fun x => (if (x.getD 0 0) = 4 then 0x40000000 else 0),
    [⟨"STATE", 31, 30, .ro, false, []⟩,
     ⟨"WDOG", 15, 0, .clr, false, []⟩], false⟩,
  ⟨"PWR_MRAM", 0x10a80, [], fun _ => 0,
    [⟨"V", 31, 0, .clr, false, []⟩], false⟩]

/-- The registers of the CLK block. -/
def regsClk : List RegRow := [
  ⟨"CLK_STAT", 0x20000, [], fun _ => 0,
    [⟨"XO_OK", 31, 31, .ro, false, []⟩,
     ⟨"CORE_LOCK", 30, 30, .ro, false, []⟩,
     ⟨"CTRL_LOCK", 29, 29, .ro, false, []⟩,
     ⟨"REFCLK_OK", 28, 28, .ro, false, []⟩,
     ⟨"REFCLK_IN_RANGE", 27, 27, .ro, false, []⟩,
     ⟨"PCIE_REFCLK_OK", 26, 26, .ro, false, []⟩,
     ⟨"STACK_LOCK", 25, 20, .ro, false, []⟩,
     ⟨"LANE_LOCK", 19, 16, .ro, false, []⟩,
     ⟨"STACK_UNLOCK_SEEN", 7, 7, .w1c, false, []⟩,
     ⟨"LANE_UNLOCK_SEEN", 6, 6, .w1c, false, []⟩,
     ⟨"PCIE_REFCLK_LOST_SEEN", 5, 5, .w1c, false, []⟩,
     ⟨"RANGE_SEEN", 4, 4, .w1c, false, []⟩,
     ⟨"REFCLK_LOST_SEEN", 3, 3, .w1c, false, []⟩,
     ⟨"CTRL_UNLOCK_SEEN", 2, 2, .w1c, false, []⟩,
     ⟨"CORE_UNLOCK_SEEN", 1, 1, .w1c, false, []⟩,
     ⟨"XO_FAIL_SEEN", 0, 0, .w1c, false, []⟩], false⟩,
  ⟨"CLK_REFCLK_DEV", 0x20004, [], fun _ => 0x80000000,
    [⟨"V", 31, 0, .ro, false, []⟩], false⟩,
  ⟨"CLK_XO_LOAD", 0x20008, [], fun _ => 128,
    [⟨"V", 7, 0, .ro, false, []⟩], false⟩,
  ⟨"CLK_UNLOCKS", 0x2000c, [], fun _ => 0,
    [⟨"V", 31, 0, .clr, false, []⟩], false⟩]

/-- The registers of the TB block (part 0). -/
def regsTb0 : List RegRow := [
  ⟨"TB_STATUS", 0x30000, [], fun _ => 0,
    [⟨"SPX_SHEET", 23, 16, .ro, false, []⟩,
     ⟨"TXTS_OVF", 14, 14, .w1c, false, []⟩,
     ⟨"COARSE_SEEN", 13, 13, .w1c, false, []⟩,
     ⟨"HOLD_LIMIT", 12, 12, .w1c, false, []⟩,
     ⟨"COARSE", 11, 11, .ro, false, []⟩,
     ⟨"SLEWING", 10, 10, .ro, false, []⟩,
     ⟨"PPS_OK", 9, 9, .ro, false, []⟩,
     ⟨"REF10M_OK", 8, 8, .ro, false, []⟩,
     ⟨"SRC_ACT", 4, 2, .ro, false, []⟩,
     ⟨"STATE", 1, 0, .ro, false, []⟩], false⟩,
  ⟨"TB_DISC", 0x30004, [], fun _ => (4000 * 65536),
    [⟨"HOST_TIMEOUT", 31, 16, .rw, false, [(0, 0)]⟩,
     ⟨"SRC_CHANGE", 15, 15, .sc, false, []⟩,
     ⟨"SHEET", 13, 8, .rw, false, [(40, 63)]⟩,
     ⟨"SRC", 2, 0, .rw, false, [(4, 7)]⟩], false⟩,
  ⟨"TB_QUAL", 0x30008, [], fun _ => (20000 * 65536 + 10 * 256 + 8),
    [⟨"WINDOW", 31, 16, .rw, false, [(0, 0)]⟩,
     ⟨"SLEW_MAX", 15, 8, .rw, false, [(0, 0), (101, 255)]⟩,
     ⟨"COUNT", 7, 0, .rw, false, [(0, 0)]⟩], false⟩,
  ⟨"TB_HOLD_LIMIT", 0x3000c, [], fun _ => 0,
    [⟨"V", 31, 0, .rw, false, []⟩], false⟩,
  ⟨"TB_NOW_FRAC", 0x30010, [(32, 0x100000000)], fun _ => 0,
    [⟨"V", 15, 0, .ro, false, []⟩], false⟩,
  ⟨"TB_NOW_NS", 0x30014, [(32, 0x100000000)], fun _ => 0,
    [⟨"V", 31, 0, .ro, false, []⟩], false⟩,
  ⟨"TB_NOW_SEC_LO", 0x30018, [(32, 0x100000000)], fun _ => 0,
    [⟨"V", 31, 0, .ro, false, []⟩], true⟩,
  ⟨"TB_NOW_SEC_HI", 0x3001c, [(32, 0x100000000)], fun _ => 0,
    [⟨"STATE", 17, 16, .ro, false, []⟩,
     ⟨"V", 15, 0, .ro, false, []⟩], false⟩,
  ⟨"TB_NOW_FC_LO", 0x30020, [(32, 0x100000000)], fun _ => 0,
    [⟨"V", 31, 0, .ro, false, []⟩], true⟩,
  ⟨"TB_NOW_FC_HI", 0x30024, [(32, 0x100000000)], fun _ => 0,
    [⟨"V", 31, 0, .ro, false, []⟩], false⟩,
  ⟨"TB_HOLD_LO", 0x30028, [], fun _ => 0,
    [⟨"V", 31, 0, .ro, false, []⟩], true⟩,
  ⟨"TB_HOLD_HI", 0x3002c, [], fun _ => 0,
    [⟨"V", 31, 0, .ro, false, []⟩], false⟩,
  ⟨"TB_RATE_LO", 0x30030, [], fun _ => 0,
    [⟨"V", 31, 0, .ro, false, []⟩], true⟩,
  ⟨"TB_RATE_HI", 0x30034, [], fun _ => 0,
    [⟨"V", 31, 0, .ro, false, []⟩], false⟩,
  ⟨"TB_AGE", 0x30038, [], fun _ => 0,
    [⟨"V", 31, 0, .rw, false, []⟩], false⟩,
  ⟨"TB_PPS_DELAY", 0x3003c, [], fun _ => 0,
    [⟨"V", 31, 0, .rw, false, []⟩], false⟩,
  ⟨"TB_ADJ_RATE_LO", 0x30040, [], fun _ => 0,
    [⟨"V", 31, 0, .rw, false, []⟩], true⟩,
  ⟨"TB_ADJ_RATE_HI", 0x30044, [], fun _ => 0,
    [⟨"V", 31, 0, .rw, false, []⟩], false⟩,
  ⟨"TB_ADJ_AMT_LO", 0x30048, [], fun _ => 0,
    [⟨"V", 31, 0, .rw, false, []⟩], true⟩,
  ⟨"TB_ADJ_AMT_HI", 0x3004c, [], fun _ => 0,
    [⟨"V", 31, 0, .rw, false, []⟩], false⟩,
  ⟨"TB_ADJ_SLEW", 0x30050, [], fun _ => 1000,
    [⟨"V", 31, 0, .rw, false, []⟩], false⟩,
  ⟨"TB_ADJ_CTL", 0x30054, [], fun _ => 0,
    [⟨"TRACE", 5, 5, .rw, false, []⟩,
     ⟨"OP_ABORT", 4, 4, .rw, false, []⟩,
     ⟨"OP_STEP", 3, 3, .rw, false, []⟩,
     ⟨"OP_SLEW", 2, 2, .rw, false, []⟩,
     ⟨"OP_RATE", 1, 1, .rw, false, []⟩,
     ⟨"GO", 0, 0, .sc, false, []⟩], false⟩,
  ⟨"TB_ADJ_STAT", 0x30058, [], fun _ => 0,
    [⟨"CODE", 7, 0, .ro, false, []⟩], false⟩,
  ⟨"TB_TAI_UTC", 0x3005c, [], fun _ => 0,
    [⟨"V", 15, 0, .rw, false, []⟩], false⟩,
  ⟨"TB_TXTS_W", 0x30100, [(16, 32), (5, 4)], fun x => (if (x.getD 1 0) = 0 then 0x80000000 else 0),
    [⟨"V", 31, 0, .rp, false, []⟩], false⟩]

/-- The registers of the TB block (part 1). -/
def regsTb1 : List RegRow := [
  ⟨"TB_TXTS_REF", 0x30114, [(16, 32)], fun _ => 0,
    [⟨"V", 31, 0, .ro, false, []⟩], false⟩]

/-- The registers of the TIM block. -/
def regsTim : List RegRow := [
  ⟨"TIM_CAL_CTL", 0x40000, [], fun _ => 0,
    [⟨"PERIOD", 31, 16, .rw, false, []⟩,
     ⟨"START", 15, 15, .sc, false, []⟩,
     ⟨"CORE", 4, 0, .rw, false, [(17, 31)]⟩], false⟩,
  ⟨"TIM_CORE_STAT", 0x40100, [(18, 4)], fun x => (0x1000 + (if (x.getD 0 0) ≤ 15 then (x.getD 0 0) else 31)),
    [⟨"CAL_TEMP", 31, 24, .ro, false, []⟩,
     ⟨"START", 15, 15, .sc, false, []⟩,
     ⟨"RUNNING", 14, 14, .ro, false, []⟩,
     ⟨"CALGEN", 13, 13, .ro, false, []⟩,
     ⟨"CAL_STALE", 12, 12, .ro, false, []⟩,
     ⟨"FAILING", 11, 11, .ro, false, []⟩,
     ⟨"LOGICAL", 4, 0, .ro, false, []⟩], false⟩,
  ⟨"TIM_EDGE_CFG", 0x40200, [(16, 16)], fun _ => 0x10,
    [⟨"HOLDOFF", 31, 16, .rw, false, []⟩,
     ⟨"HYST", 15, 12, .rw, false, []⟩,
     ⟨"POL", 5, 4, .rw, false, [(0, 0)]⟩,
     ⟨"MODE", 3, 2, .rw, false, [(3, 3)]⟩,
     ⟨"EN", 0, 0, .rw, false, []⟩], false⟩,
  ⟨"TIM_EDGE_DELAY", 0x40204, [(16, 16)], fun _ => 0,
    [⟨"V", 31, 0, .rw, false, []⟩], false⟩,
  ⟨"TIM_EDGE_MISS", 0x40208, [(16, 16)], fun _ => 0,
    [⟨"V", 31, 0, .clr, false, []⟩], false⟩,
  ⟨"TIM_EDGE_HOLD", 0x4020c, [(16, 16)], fun _ => 0,
    [⟨"V", 31, 0, .clr, false, []⟩], false⟩,
  ⟨"TIM_FREQ_CFG", 0x40300, [(8, 32)], fun _ => (1000 * 256),
    [⟨"GATE", 31, 8, .rw, false, [(0, 0), (10000001, 16777215)]⟩,
     ⟨"EN", 7, 7, .rw, false, []⟩,
     ⟨"SRC", 6, 0, .rw, false, [(42, 127)]⟩], false⟩,
  ⟨"TIM_FREQ_N", 0x40304, [(8, 32)], fun _ => 0,
    [⟨"V", 31, 0, .ro, false, []⟩], false⟩,
  ⟨"TIM_FREQ_I_LO", 0x40308, [(8, 32)], fun _ => 0,
    [⟨"V", 31, 0, .ro, false, []⟩], true⟩,
  ⟨"TIM_FREQ_I_HI", 0x4030c, [(8, 32)], fun _ => 0,
    [⟨"V", 31, 0, .ro, false, []⟩], false⟩,
  ⟨"TIM_FREQ_F_LO", 0x40310, [(8, 32)], fun _ => 0,
    [⟨"V", 31, 0, .ro, false, []⟩], true⟩,
  ⟨"TIM_FREQ_F_HI", 0x40314, [(8, 32)], fun _ => 0,
    [⟨"V", 31, 0, .ro, false, []⟩], false⟩,
  ⟨"TIM_FREQ_ST", 0x40318, [(8, 32)], fun _ => 0,
    [⟨"SEQ", 31, 16, .ro, false, []⟩,
     ⟨"STATE", 3, 2, .ro, false, []⟩,
     ⟨"COARSE", 1, 1, .ro, false, []⟩,
     ⟨"NOSIG", 0, 0, .ro, false, []⟩], false⟩,
  ⟨"TIM_TAG_W", 0x40400, [(16, 16), (4, 4)], fun x => (if (x.getD 1 0) = 0 then 0x80000000 else 0),
    [⟨"V", 31, 0, .rp, false, []⟩], false⟩]

/-- The registers of the EVT block. -/
def regsEvt : List RegRow := [
  ⟨"EVT_CTL", 0x50000, [], fun _ => 0,
    [⟨"WINDOW", 23, 0, .rw, false, [(10000001, 16777215)]⟩], false⟩,
  ⟨"EVT_PINSTAT", 0x50004, [], fun _ => 0,
    [⟨"N1", 1, 1, .ro, false, []⟩,
     ⟨"N0", 0, 0, .ro, false, []⟩], false⟩,
  ⟨"EVT_QLOST", 0x50008, [], fun _ => 0,
    [⟨"V", 31, 0, .clr, false, []⟩], false⟩,
  ⟨"EVT_ROUTE", 0x50100, [(288, 4)], fun _ => 0xA0000000,
    [⟨"LOG", 31, 31, .rw, false, []⟩,
     ⟨"LEVEL", 30, 29, .rw, false, []⟩,
     ⟨"Q0", 28, 28, .rw, false, []⟩,
     ⟨"PIN0", 27, 27, .rw, false, []⟩,
     ⟨"PIN1", 26, 26, .rw, false, []⟩,
     ⟨"VEC_EN", 25, 25, .rw, false, []⟩,
     ⟨"VEC", 10, 0, .rw, false, []⟩], false⟩,
  ⟨"EVT_TMASK", 0x50800, [(288, 4)], fun _ => 0,
    [⟨"V", 31, 1, .rw, false, []⟩], false⟩,
  ⟨"EVT_CNT", 0x51000, [(288, 4)], fun _ => 0,
    [⟨"V", 31, 0, .clr, false, []⟩], false⟩,
  ⟨"EVT_PEND", 0x51800, [(9, 4)], fun _ => 0,
    [⟨"V", 31, 0, .w1c, false, []⟩], false⟩]

/-- The registers of the LOG block. -/
def regsLog : List RegRow := [
  ⟨"LOG_STAT", 0x60000, [], fun _ => 0,
    [⟨"READY", 31, 31, .ro, false, []⟩,
     ⟨"FULL", 30, 30, .ro, false, []⟩,
     ⟨"STOPPED", 29, 29, .ro, false, []⟩,
     ⟨"KEY", 28, 28, .ro, false, []⟩,
     ⟨"TORN_SEEN", 27, 27, .w1c, false, []⟩,
     ⟨"FAIL_SEEN", 26, 26, .w1c, false, []⟩], false⟩,
  ⟨"LOG_FIRST_LO", 0x60008, [], fun _ => 0,
    [⟨"V", 31, 0, .ro, false, []⟩], true⟩,
  ⟨"LOG_FIRST_HI", 0x6000c, [], fun _ => 0,
    [⟨"V", 31, 0, .ro, false, []⟩], false⟩,
  ⟨"LOG_HEAD_LO", 0x60010, [], fun _ => 0,
    [⟨"V", 31, 0, .ro, false, []⟩], true⟩,
  ⟨"LOG_HEAD_HI", 0x60014, [], fun _ => 0,
    [⟨"V", 31, 0, .ro, false, []⟩], false⟩,
  ⟨"LOG_COUNT", 0x60018, [], fun _ => 1,
    [⟨"V", 31, 0, .ro, false, []⟩], false⟩,
  ⟨"LOG_REFUSED", 0x6001c, [], fun _ => 0,
    [⟨"V", 31, 0, .clr, false, []⟩], false⟩,
  ⟨"LOG_REPEAT", 0x60020, [], fun _ => 1000000,
    [⟨"V", 23, 0, .rw, false, [(0, 0), (10000001, 16777215)]⟩], false⟩,
  ⟨"LOG_WSEL", 0x60024, [(32, 0x100000000)], fun _ => 0,
    [⟨"V", 4, 0, .rw, false, []⟩], false⟩]

/-- The registers of the CMD block. -/
def regsCmd : List RegRow := [
  ⟨"CMD_UDP", 0x70000, [], fun _ => 0,
    [⟨"EN", 31, 31, .rw, false, []⟩,
     ⟨"PORT", 15, 0, .rw, false, []⟩], false⟩,
  ⟨"CMD_KEY_CTL", 0x70004, [], fun _ => 0,
    [⟨"LOAD", 31, 31, .sc, false, []⟩,
     ⟨"CLEAR", 30, 30, .sc, false, []⟩,
     ⟨"B", 4, 0, .rw, false, []⟩], false⟩,
  ⟨"CMD_KEY_STAT", 0x70008, [], fun _ => 0,
    [⟨"V", 31, 0, .ro, false, []⟩], false⟩,
  ⟨"CMD_UDP_AUTH", 0x70010, [], fun _ => 0,
    [⟨"V", 31, 0, .clr, false, []⟩], false⟩,
  ⟨"CMD_UDP_REPLAY", 0x70014, [], fun _ => 0,
    [⟨"V", 31, 0, .clr, false, []⟩], false⟩,
  ⟨"CMD_UDP_DROP", 0x70018, [], fun _ => 0,
    [⟨"V", 31, 0, .clr, false, []⟩], false⟩,
  ⟨"CMD_DUPS", 0x7001c, [], fun _ => 0,
    [⟨"V", 31, 0, .clr, false, []⟩], false⟩,
  ⟨"CMD_REPLAYS", 0x70020, [], fun _ => 0,
    [⟨"V", 31, 0, .clr, false, []⟩], false⟩,
  ⟨"CMD_TAGBUSY", 0x70024, [], fun _ => 0,
    [⟨"V", 31, 0, .clr, false, []⟩], false⟩,
  ⟨"CMD_LATE", 0x70028, [], fun _ => 0,
    [⟨"V", 31, 0, .clr, false, []⟩], false⟩,
  ⟨"CMD_KEY_W", 0x70100, [(8, 4)], fun _ => 0,
    [⟨"V", 31, 0, .wo, false, []⟩], false⟩,
  ⟨"CMD_INSTANCE", 0x70200, [(32, 4)], fun _ => 0,
    [⟨"V", 31, 0, .ro, false, []⟩], false⟩]

/-- The registers of the BRG block. -/
def regsBrg : List RegRow := [
  ⟨"BRG_CTL", 0x80100, [(32, 32)], fun x => (if (x.getD 0 0) = 0 then 0x00FF0000 else 0x001003E8),
    [⟨"RESET", 31, 31, .sc, false, []⟩,
     ⟨"WMAX", 23, 16, .rw, false, [(0, 0)]⟩,
     ⟨"CMDRATE", 15, 0, .rw, false, []⟩], false⟩,
  ⟨"BRG_BEAMCAP", 0x80104, [(32, 32)], fun _ => 0,
    [⟨"V", 15, 0, .rw, false, [(40001, 65535)]⟩], false⟩,
  ⟨"BRG_STAT", 0x80108, [(32, 32)], fun _ => 0,
    [⟨"STATE", 31, 30, .ro, false, []⟩,
     ⟨"RATE_SEEN", 29, 29, .w1c, false, []⟩,
     ⟨"SUSP_SEEN", 28, 28, .w1c, false, []⟩,
     ⟨"GRANTS", 11, 0, .ro, false, []⟩], false⟩,
  ⟨"BRG_BEAMS", 0x8010c, [(32, 32)], fun x => (if (x.getD 0 0) = 0 then 0x0FFF0000 else 0xFFFF),
    [⟨"LAST", 31, 16, .ro, false, []⟩,
     ⟨"FIRST", 15, 0, .ro, false, []⟩], false⟩,
  ⟨"BRG_PAGES", 0x80110, [(32, 32)], fun x => (if (x.getD 0 0) = 0 then 0xFFFF0000 else 0xFFFF),
    [⟨"LAST", 31, 16, .ro, false, []⟩,
     ⟨"FIRST", 15, 0, .ro, false, []⟩], false⟩,
  ⟨"BRG_RESETS", 0x80114, [(32, 32)], fun _ => 0,
    [⟨"V", 31, 0, .ro, false, []⟩], false⟩,
  ⟨"BRG_CRING_CTL", 0x84000, [(32, 256), (4, 64)], fun _ => 0,
    [⟨"EN", 31, 31, .rw, false, []⟩,
     ⟨"VEC_EN", 30, 30, .rw, false, []⟩,
     ⟨"VEC", 26, 16, .rw, false, []⟩,
     ⟨"CPL_SIZE", 7, 4, .rw, false, [(0, 5), (15, 15)]⟩,
     ⟨"CMD_SIZE", 3, 0, .rw, false, [(0, 5), (15, 15)]⟩], false⟩,
  ⟨"BRG_CRING_STAT", 0x84004, [(32, 256), (4, 64)], fun _ => 0,
    [⟨"CODE", 31, 24, .ro, false, []⟩,
     ⟨"PAUSED", 23, 23, .ro, false, []⟩,
     ⟨"PI_BAD_SEEN", 22, 22, .w1c, false, []⟩,
     ⟨"LOST", 15, 0, .clr, false, []⟩], false⟩,
  ⟨"BRG_CRING_BASE_LO", 0x84008, [(32, 256), (4, 64)], fun _ => 0,
    [⟨"V", 31, 12, .rw, false, []⟩], true⟩,
  ⟨"BRG_CRING_BASE_HI", 0x8400c, [(32, 256), (4, 64)], fun _ => 0,
    [⟨"V", 31, 0, .rw, false, []⟩], false⟩,
  ⟨"BRG_CPL_BASE_LO", 0x84010, [(32, 256), (4, 64)], fun _ => 0,
    [⟨"V", 31, 12, .rw, false, []⟩], true⟩,
  ⟨"BRG_CPL_BASE_HI", 0x84014, [(32, 256), (4, 64)], fun _ => 0,
    [⟨"V", 31, 0, .rw, false, []⟩], false⟩,
  ⟨"BRG_CRING_CI", 0x84018, [(32, 256), (4, 64)], fun _ => 0,
    [⟨"V", 15, 0, .ro, false, []⟩], false⟩,
  ⟨"BRG_CPL_PI", 0x8401c, [(32, 256), (4, 64)], fun _ => 0,
    [⟨"V", 15, 0, .ro, false, []⟩], false⟩,
  ⟨"BRG_GRANT0", 0x88000, [(2048, 8)], fun _ => 0,
    [⟨"VALID", 31, 31, .ro, false, []⟩,
     ⟨"SUSP", 30, 30, .ro, false, []⟩,
     ⟨"GRANTEE", 28, 24, .ro, false, []⟩,
     ⟨"SLOT", 9, 0, .ro, false, []⟩], false⟩,
  ⟨"BRG_GRANT1", 0x88004, [(2048, 8)], fun _ => 0,
    [⟨"V", 31, 0, .ro, false, []⟩], false⟩]

/-- The registers of the CAL block. -/
def regsCal : List RegRow := [
  ⟨"CAL_STAT", 0x90000, [], fun _ => 0x10000000,
    [⟨"LOAD_DONE", 31, 31, .ro, false, []⟩,
     ⟨"PAGE_BAD_SEEN", 30, 30, .w1c, false, []⟩,
     ⟨"COPY_BAD_SEEN", 29, 29, .w1c, false, []⟩,
     ⟨"LOCKED", 28, 28, .ro, false, []⟩], false⟩,
  ⟨"CAL_PAGE_STAT", 0x90100, [(32, 4)], fun x => (if (x.getD 0 0) = 3 then 0x08000000 else if (x.getD 0 0) ≤ 3 ∨ (8 ≤ (x.getD 0 0) ∧ (x.getD 0 0) < 16) then 0 else 0xC0000000),
    [⟨"FROM", 31, 30, .ro, false, []⟩,
     ⟨"A_OK", 29, 29, .ro, false, []⟩,
     ⟨"B_OK", 28, 28, .ro, false, []⟩,
     ⟨"USER", 27, 27, .ro, false, []⟩], false⟩,
  ⟨"CAL_PAGE_SEQ", 0x90200, [(32, 4)], fun _ => 0,
    [⟨"V", 31, 0, .ro, false, []⟩], false⟩,
  ⟨"CAL_PAGE_SEL", 0x90400, [], fun _ => 0,
    [⟨"COPY", 8, 8, .rw, false, []⟩,
     ⟨"PAGE", 4, 0, .rw, false, []⟩], false⟩]

/-- The registers of the ARB block. -/
def regsArb : List RegRow := [
  ⟨"ARB_CTL", 0xa1000, [(68, 512)], fun _ => 0x100,
    [⟨"HOLD", 31, 31, .rw, false, []⟩,
     ⟨"WAIT_WARN", 27, 16, .rw, false, []⟩,
     ⟨"HOLD_LIMIT", 15, 0, .rw, false, [(0, 0)]⟩], false⟩,
  ⟨"ARB_STAT", 0xa1004, [(68, 512)], fun x => (Config.arbStatReset (x.getD 0 0)),
    [⟨"CHECK_SEEN", 31, 31, .w1c, false, []⟩,
     ⟨"FORCED_SEEN", 30, 30, .w1c, false, []⟩,
     ⟨"CUT_SEEN", 29, 29, .w1c, false, []⟩,
     ⟨"WARN_SEEN", 28, 28, .w1c, false, []⟩,
     ⟨"ASLEEP", 27, 27, .ro, false, []⟩,
     ⟨"NREQ", 23, 16, .ro, false, []⟩,
     ⟨"NLANE", 15, 8, .ro, false, []⟩,
     ⟨"CLASS", 3, 0, .ro, false, []⟩], false⟩,
  ⟨"ARB_BEATS_LO", 0xa1008, [(68, 512)], fun _ => 0,
    [⟨"V", 31, 0, .ro, false, []⟩], true⟩,
  ⟨"ARB_BEATS_HI", 0xa100c, [(68, 512)], fun _ => 0,
    [⟨"V", 31, 0, .ro, false, []⟩], false⟩,
  ⟨"ARB_DEAD", 0xa1010, [(68, 512)], fun _ => 0,
    [⟨"V", 31, 0, .clr, false, []⟩], false⟩,
  ⟨"ARB_FORCED", 0xa1014, [(68, 512)], fun _ => 0,
    [⟨"V", 31, 0, .clr, false, []⟩], false⟩,
  ⟨"ARB_CUT", 0xa1018, [(68, 512)], fun _ => 0,
    [⟨"V", 31, 0, .clr, false, []⟩], false⟩,
  ⟨"ARB_CHECK", 0xa101c, [(68, 512)], fun _ => 0,
    [⟨"V", 31, 0, .clr, false, []⟩], false⟩,
  ⟨"ARB_REQ", 0xa1040, [(68, 512), (48, 4)], fun x => (if (x.getD 0 0) ≤ 6 then 0x140 else 0x40),
    [⟨"CLASS", 9, 8, .rw, false, []⟩,
     ⟨"LIMIT", 7, 0, .rw, false, []⟩], false⟩,
  ⟨"ARB_RSTAT", 0xa1100, [(68, 512), (48, 4)], fun _ => 0,
    [⟨"MAXWAIT", 31, 16, .clr, false, []⟩,
     ⟨"FORCED", 15, 1, .clr, false, []⟩,
     ⟨"CUT_SEEN", 0, 0, .clr, false, []⟩], false⟩]

/-- The registers of the PLT block. -/
def regsPlt : List RegRow := [
  ⟨"PLT_STAT", 0xb0000, [], fun _ => 0,
    [⟨"NEAR_ASLEEP", 5, 5, .ro, false, []⟩,
     ⟨"ECC_SEEN", 4, 4, .w1c, false, []⟩,
     ⟨"GAP_SEEN", 3, 3, .w1c, false, []⟩,
     ⟨"ESC_LOW_SEEN", 2, 2, .w1c, false, []⟩,
     ⟨"NEAR_LOW_SEEN", 1, 1, .w1c, false, []⟩,
     ⟨"POOL_EMPTY_SEEN", 0, 0, .w1c, false, []⟩], false⟩,
  ⟨"PLT_FAR_FREE", 0xb0004, [], fun _ => 4194304,
    [⟨"V", 31, 0, .ro, false, []⟩], false⟩,
  ⟨"PLT_NEAR_FREE", 0xb0008, [], fun _ => 3072,
    [⟨"V", 31, 0, .ro, false, []⟩], false⟩,
  ⟨"PLT_RES_FREE", 0xb000c, [], fun _ => 32768,
    [⟨"V", 31, 0, .ro, false, []⟩], false⟩,
  ⟨"PLT_ESC", 0xb0010, [], fun _ => 0x40002000,
    [⟨"NEAR", 31, 24, .rw, false, []⟩,
     ⟨"FAR", 22, 0, .rw, false, []⟩], false⟩,
  ⟨"PLT_ESC_FREE", 0xb0014, [], fun _ => 0x40002000,
    [⟨"NEAR", 31, 24, .ro, false, []⟩,
     ⟨"FAR", 22, 0, .ro, false, []⟩], false⟩,
  ⟨"PLT_RESV", 0xb0018, [], fun _ => 0,
    [⟨"V", 31, 0, .ro, false, []⟩], false⟩,
  ⟨"PLT_NOPLOT", 0xb001c, [], fun _ => 0,
    [⟨"V", 31, 0, .clr, false, []⟩], false⟩,
  ⟨"PLT_EL_ALLOC", 0xb0020, [], fun _ => 0,
    [⟨"V", 31, 0, .ro, false, []⟩], false⟩,
  ⟨"PLT_EL_USED", 0xb0024, [], fun _ => 0,
    [⟨"V", 31, 0, .ro, false, []⟩], false⟩,
  ⟨"PLT_LOW", 0xb0028, [], fun _ => 0x40,
    [⟨"NEAR_LW", 11, 0, .rw, false, [(3073, 4095)]⟩], false⟩,
  ⟨"PLT_QUOTA", 0xb0100, [(32, 8)], fun _ => 0,
    [⟨"V", 22, 0, .rw, false, []⟩], false⟩,
  ⟨"PLT_USED", 0xb0104, [(32, 8)], fun _ => 0,
    [⟨"V", 22, 0, .ro, false, []⟩], false⟩]

/-- The registers of the QUE block. -/
def regsQue : List RegRow := [
  ⟨"QUE_SEL", 0xc0000, [(32, 0x100000000)], fun _ => 0,
    [⟨"V", 13, 0, .rw, false, []⟩], false⟩,
  ⟨"QUE_CTL", 0xc0004, [(16384, 0x100000000)], fun _ => 0,
    [⟨"FLUSH", 2, 2, .sc, false, []⟩,
     ⟨"DISABLE", 1, 1, .sc, false, []⟩,
     ⟨"ENABLE", 0, 0, .sc, false, []⟩], false⟩,
  ⟨"QUE_CFG0", 0xc0008, [(16384, 0x100000000)], fun _ => 1,
    [⟨"TYPE", 31, 29, .rw, false, [(6, 7)]⟩,
     ⟨"BOROUGH", 28, 24, .rw, false, []⟩,
     ⟨"MIRROR", 23, 23, .rw, false, []⟩,
     ⟨"EXPRESS", 22, 22, .rw, false, []⟩,
     ⟨"TIER", 21, 20, .rw, false, [(3, 3)]⟩,
     ⟨"REC", 19, 19, .rw, false, []⟩,
     ⟨"WEIGHT", 7, 0, .rw, false, []⟩], false⟩,
  ⟨"QUE_CFG1", 0xc000c, [(16384, 0x100000000)], fun _ => 0x10000,
    [⟨"MIN", 31, 16, .rw, false, []⟩], false⟩,
  ⟨"QUE_CFG2", 0xc0010, [(16384, 0x100000000)], fun _ => 0x400,
    [⟨"MAX", 22, 0, .rw, false, []⟩], false⟩,
  ⟨"QUE_CFG3", 0xc0014, [(16384, 0x100000000)], fun _ => 0,
    [⟨"RATE", 19, 0, .rw, false, []⟩], false⟩,
  ⟨"QUE_CFG4", 0xc0018, [(16384, 0x100000000)], fun _ => 0,
    [⟨"DEST", 31, 30, .rw, false, [(3, 3)]⟩,
     ⟨"SHEET", 29, 24, .rw, false, []⟩,
     ⟨"ID", 11, 0, .rw, false, []⟩], false⟩,
  ⟨"QUE_CFG5", 0xc001c, [(16384, 0x100000000)], fun _ => 0,
    [⟨"TILE_LOG2", 31, 27, .rw, false, []⟩,
     ⟨"FLUSH", 15, 0, .rw, false, []⟩], false⟩,
  ⟨"QUE_STAT", 0xc0020, [(16384, 0x100000000)], fun _ => 0,
    [⟨"CODE", 31, 24, .ro, false, []⟩,
     ⟨"STATE", 23, 22, .ro, false, []⟩,
     ⟨"ELASTIC", 21, 21, .ro, false, []⟩,
     ⟨"GAP_SEEN", 20, 20, .w1c, false, []⟩,
     ⟨"MAX_SEEN", 19, 19, .w1c, false, []⟩,
     ⟨"STALL_SEEN", 18, 18, .w1c, false, []⟩], false⟩,
  ⟨"QUE_HELD", 0xc0024, [(16384, 0x100000000)], fun _ => 0,
    [⟨"NEAR", 31, 24, .ro, false, []⟩,
     ⟨"PLOTS", 22, 0, .ro, false, []⟩], false⟩,
  ⟨"QUE_BYTES_LO", 0xc0028, [(16384, 0x100000000)], fun _ => 0,
    [⟨"V", 31, 0, .ro, false, []⟩], true⟩,
  ⟨"QUE_BYTES_HI", 0xc002c, [(16384, 0x100000000)], fun _ => 0,
    [⟨"V", 31, 0, .ro, false, []⟩], false⟩,
  ⟨"QUE_GAP_FIRST_LO", 0xc0030, [(16384, 0x100000000)], fun _ => 0,
    [⟨"V", 31, 0, .ro, false, []⟩], true⟩,
  ⟨"QUE_GAP_FIRST_HI", 0xc0034, [(16384, 0x100000000)], fun _ => 0,
    [⟨"V", 31, 0, .ro, false, []⟩], false⟩,
  ⟨"QUE_GAP_LAST_LO", 0xc0038, [(16384, 0x100000000)], fun _ => 0,
    [⟨"V", 31, 0, .ro, false, []⟩], true⟩,
  ⟨"QUE_GAP_LAST_HI", 0xc003c, [(16384, 0x100000000)], fun _ => 0,
    [⟨"V", 31, 0, .ro, false, []⟩], false⟩,
  ⟨"QUE_GAPS", 0xc0040, [(16384, 0x100000000)], fun _ => 0,
    [⟨"V", 31, 0, .clr, false, []⟩], false⟩,
  ⟨"QUE_DROP", 0xc0044, [(16384, 0x100000000)], fun _ => 0,
    [⟨"V", 31, 0, .clr, false, []⟩], false⟩]

/-- The registers of the CMP block. -/
def regsCmp : List RegRow := [
  ⟨"CMP_STAT", 0xd0000, [], fun _ => 3,
    [⟨"ECC_SEEN", 3, 3, .w1c, false, []⟩,
     ⟨"FAULT_SEEN", 2, 2, .w1c, false, []⟩,
     ⟨"BANK1_ASLEEP", 1, 1, .ro, false, []⟩,
     ⟨"BANK0_ASLEEP", 0, 0, .ro, false, []⟩], false⟩,
  ⟨"CMP_ENG", 0xd0100, [(16, 4)], fun _ => 0x40000000,
    [⟨"STATE", 31, 30, .ro, false, []⟩,
     ⟨"STREAMS", 25, 16, .ro, false, []⟩,
     ⟨"LOAD", 9, 0, .ro, false, []⟩], false⟩,
  ⟨"CMP_DX", 0xd0200, [(4, 4)], fun _ => 0x40000000,
    [⟨"BUSY", 31, 31, .ro, false, []⟩,
     ⟨"ASLEEP", 30, 30, .ro, false, []⟩,
     ⟨"BOROUGH", 4, 0, .ro, false, []⟩], false⟩,
  ⟨"CMP_ERRCNT", 0xd0304, [(8, 4)], fun _ => 0,
    [⟨"V", 31, 0, .clr, false, []⟩], false⟩,
  ⟨"CMP_RAW", 0xd1000, [(1024, 4)], fun _ => 0x400,
    [⟨"EN", 31, 31, .rw, false, []⟩,
     ⟨"QEN", 30, 30, .rw, false, []⟩,
     ⟨"QUEUE", 29, 16, .rw, false, []⟩,
     ⟨"TILE_LOG2", 15, 11, .rw, false, []⟩,
     ⟨"POLICY", 10, 8, .rw, false, [(5, 7)]⟩], false⟩,
  ⟨"CMP_RAW_STAT", 0xd2000, [(1024, 4)], fun _ => 0,
    [⟨"CODE", 31, 24, .ro, false, []⟩,
     ⟨"ENGINE", 23, 20, .ro, false, []⟩,
     ⟨"ASSIGNED", 19, 19, .ro, false, []⟩,
     ⟨"ACTIVE", 18, 18, .ro, false, []⟩,
     ⟨"STALL_SEEN", 17, 17, .w1c, false, []⟩], false⟩,
  ⟨"CMP_JOB_CTL", 0xd8000, [(32, 256)], fun _ => 0,
    [⟨"EN", 31, 31, .rw, false, []⟩,
     ⟨"SIZE", 3, 0, .rw, false, [(0, 3), (13, 15)]⟩], false⟩,
  ⟨"CMP_JOB_STAT", 0xd8004, [(32, 256)], fun _ => 0,
    [⟨"SUSPENDED", 31, 31, .ro, false, []⟩,
     ⟨"RUNNING", 30, 30, .ro, false, []⟩,
     ⟨"MORE", 1, 1, .sc, false, []⟩,
     ⟨"ABORT", 0, 0, .sc, false, []⟩], false⟩,
  ⟨"CMP_JOB_BASE_LO", 0xd8008, [(32, 256)], fun _ => 0,
    [⟨"V", 31, 6, .rw, false, []⟩], true⟩,
  ⟨"CMP_JOB_BASE_HI", 0xd800c, [(32, 256)], fun _ => 0,
    [⟨"V", 31, 0, .rw, false, []⟩], false⟩,
  ⟨"CMP_JOB_PI", 0xd8010, [(32, 256)], fun _ => 0,
    [⟨"V", 15, 0, .rw, false, []⟩], false⟩,
  ⟨"CMP_JOB_CI", 0xd8014, [(32, 256)], fun _ => 0,
    [⟨"V", 15, 0, .ro, false, []⟩], false⟩,
  ⟨"CMP_JOB_MORE_LO", 0xd8018, [(32, 256)], fun _ => 0,
    [⟨"V", 31, 0, .rw, false, []⟩], true⟩,
  ⟨"CMP_JOB_MORE_HI", 0xd801c, [(32, 256)], fun _ => 0,
    [⟨"V", 31, 0, .rw, false, []⟩], false⟩,
  ⟨"CMP_JOB_MORE_LEN", 0xd8020, [(32, 256)], fun _ => 0,
    [⟨"V", 31, 0, .rw, false, []⟩], false⟩]

/-- The registers of the TRG block. -/
def regsTrg : List RegRow := [
  ⟨"TRG_CTL", 0xe0000, [], fun _ => 0,
    [⟨"FPD_FWD", 31, 31, .rw, false, []⟩,
     ⟨"S_EN", 15, 15, .rw, false, []⟩,
     ⟨"SQUEUE", 13, 0, .rw, false, []⟩], false⟩,
  ⟨"TRG_STAT", 0xe0004, [], fun _ => 0x80000000,
    [⟨"FREE", 31, 27, .ro, false, []⟩], false⟩,
  ⟨"TRG_RING_CTL", 0xe0010, [], fun _ => 0,
    [⟨"EN", 31, 31, .rw, false, []⟩,
     ⟨"TILE_LOG2", 28, 24, .rw, false, [(0, 11), (21, 31)]⟩,
     ⟨"MIN", 23, 12, .rw, false, []⟩,
     ⟨"PLOTS", 11, 0, .rw, false, [(3585, 4095)]⟩], false⟩,
  ⟨"TRG_RING_STAT", 0xe0014, [], fun _ => 0,
    [⟨"DEPTH", 31, 16, .ro, false, []⟩], false⟩,
  ⟨"TRG_RING_USED", 0xe0018, [], fun _ => 0,
    [⟨"V", 31, 0, .ro, false, []⟩], false⟩,
  ⟨"TRG_RING_HELD", 0xe001c, [], fun _ => 0,
    [⟨"V", 31, 0, .ro, false, []⟩], false⟩,
  ⟨"TRG_RING_MASK", 0xe0080, [(32, 4)], fun _ => 0,
    [⟨"V", 31, 0, .rw, false, []⟩], false⟩,
  ⟨"TRG_NET", 0xe0100, [], fun _ => 1000,
    [⟨"PORT", 31, 16, .rw, false, []⟩,
     ⟨"CLR", 15, 15, .sc, false, []⟩,
     ⟨"AGE", 14, 0, .rw, false, [(0, 0)]⟩], false⟩,
  ⟨"TRG_NET_REF", 0xe0104, [], fun _ => 0,
    [⟨"V", 31, 0, .clr, false, []⟩], false⟩,
  ⟨"TRG_SRC_SKEW", 0xe0200, [(21, 4)], fun _ => 0,
    [⟨"V", 31, 0, .rw, false, []⟩], false⟩,
  ⟨"TRG_OUT_CFG", 0xe1000, [(64, 32)], fun _ => 0,
    [⟨"ARM", 31, 30, .rw, false, [(3, 3)]⟩,
     ⟨"RETRIG", 29, 29, .rw, false, []⟩,
     ⟨"CAP_EN", 28, 28, .rw, false, []⟩,
     ⟨"SRC", 26, 22, .rw, false, []⟩,
     ⟨"FPD_DIST", 21, 16, .rw, false, []⟩,
     ⟨"HOLDOFF", 15, 0, .rw, false, []⟩], false⟩,
  ⟨"TRG_OUT_ACT", 0xe1004, [(64, 32)], fun _ => 0,
    [⟨"SIG_EN", 31, 31, .rw, false, []⟩,
     ⟨"SIG", 30, 26, .rw, false, []⟩,
     ⟨"ILN_EN", 25, 25, .rw, false, []⟩,
     ⟨"ILN", 24, 23, .rw, false, []⟩,
     ⟨"MODE", 22, 22, .rw, false, []⟩,
     ⟨"STRM", 21, 21, .rw, false, []⟩], false⟩,
  ⟨"TRG_OUT_STAT", 0xe1008, [(64, 32)], fun _ => 0,
    [⟨"CODE", 31, 24, .ro, false, []⟩,
     ⟨"STATE", 23, 22, .ro, false, []⟩,
     ⟨"LATE_SEEN", 21, 21, .w1c, false, []⟩,
     ⟨"CLIP_SEEN", 20, 20, .w1c, false, []⟩,
     ⟨"FIRE", 0, 0, .sc, false, []⟩], false⟩,
  ⟨"TRG_OUT_REF", 0xe100c, [(64, 32)], fun _ => 0,
    [⟨"V", 31, 0, .clr, false, []⟩], false⟩,
  ⟨"TRG_OUT_TIM", 0xe1010, [(64, 32)], fun _ => 0,
    [⟨"OUT_W", 31, 16, .rw, false, []⟩,
     ⟨"OUT_DLY", 15, 0, .rw, false, []⟩], false⟩,
  ⟨"TRG_CAP0", 0xe1014, [(64, 32)], fun _ => 0,
    [⟨"SET", 31, 28, .rw, false, []⟩,
     ⟨"GRID", 27, 25, .rw, false, []⟩,
     ⟨"STAB", 24, 23, .rw, false, []⟩,
     ⟨"QUEUE", 13, 0, .rw, false, []⟩], false⟩,
  ⟨"TRG_CAP1", 0xe1018, [(64, 32)], fun _ => 0,
    [⟨"PRE", 31, 0, .rw, false, []⟩], false⟩,
  ⟨"TRG_CAP2", 0xe101c, [(64, 32)], fun _ => 0,
    [⟨"POST", 31, 0, .rw, false, []⟩], false⟩,
  ⟨"TRG_CAPSET", 0xe4000, [(16, 128), (32, 4)], fun _ => 0,
    [⟨"V", 31, 0, .rw, false, []⟩], false⟩]

/-- The registers of the GAZ block. -/
def regsGaz : List RegRow := [
  ⟨"GAZ_CTL", 0xf0000, [], fun _ => 0,
    [⟨"ROOT", 31, 31, .ro, false, []⟩], false⟩,
  ⟨"GAZ_CFG", 0xf0004, [], fun _ => 0x03E80064,
    [⟨"COLLECT", 31, 16, .rw, false, [(0, 0)]⟩,
     ⟨"RETRY", 15, 0, .rw, false, [(0, 0)]⟩], false⟩,
  ⟨"GAZ_DIGEST", 0xf0008, [], fun _ => 1000,
    [⟨"WINDOW", 19, 0, .rw, false, [(0, 0), (1000001, 1048575)]⟩], false⟩,
  ⟨"GAZ_FR", 0xf000c, [], fun _ => 0,
    [⟨"EN", 31, 31, .rw, false, []⟩,
     ⟨"PORT", 15, 0, .rw, false, []⟩], false⟩,
  ⟨"GAZ_DQ", 0xf0010, [], fun _ => 0,
    [⟨"EN", 31, 31, .rw, false, []⟩,
     ⟨"QUEUE", 13, 0, .rw, false, []⟩], false⟩,
  ⟨"GAZ_SELF", 0xf0014, [(2, 4)], fun _ => 0,
    [⟨"V1", 31, 31, .rw, false, []⟩,
     ⟨"D1", 27, 16, .rw, false, []⟩,
     ⟨"V0", 15, 15, .rw, false, []⟩,
     ⟨"D0", 11, 0, .rw, false, []⟩], false⟩,
  ⟨"GAZ_ENTRIES", 0xf0020, [], fun _ => 0,
    [⟨"V", 25, 0, .ro, false, []⟩], false⟩,
  ⟨"GAZ_OPEN", 0xf0024, [], fun _ => 0,
    [⟨"DIGESTS", 26, 16, .ro, false, []⟩,
     ⟨"SENDS", 12, 0, .ro, false, []⟩], false⟩,
  ⟨"GAZ_EPOCH_LO", 0xf0028, [], fun _ => 0,
    [⟨"V", 31, 0, .ro, false, []⟩], true⟩,
  ⟨"GAZ_EPOCH_HI", 0xf002c, [], fun _ => 0,
    [⟨"V", 15, 0, .ro, false, []⟩], false⟩,
  ⟨"GAZ_CTR_LO", 0xf0030, [], fun _ => 1,
    [⟨"V", 31, 0, .rw, false, []⟩], true⟩,
  ⟨"GAZ_CTR_HI", 0xf0034, [], fun _ => 0,
    [⟨"V", 31, 0, .rw, false, []⟩], false⟩,
  ⟨"GAZ_FR_REF", 0xf0040, [], fun _ => 0,
    [⟨"V", 31, 0, .clr, false, []⟩], false⟩,
  ⟨"GAZ_DIGEST_DROP", 0xf0044, [], fun _ => 0,
    [⟨"V", 31, 0, .clr, false, []⟩], false⟩,
  ⟨"GAZ_LATE", 0xf0048, [], fun _ => 0,
    [⟨"V", 31, 0, .clr, false, []⟩], false⟩,
  ⟨"GAZ_DQ_DROP", 0xf004c, [], fun _ => 0,
    [⟨"V", 31, 0, .clr, false, []⟩], false⟩,
  ⟨"GAZ_DSEL", 0xf0100, [], fun _ => 0,
    [⟨"V", 11, 0, .rw, false, []⟩], false⟩,
  ⟨"GAZ_D_MEMBERS", 0xf0104, [(4096, 0x100000000)], fun _ => 0,
    [⟨"V", 25, 0, .ro, false, []⟩], false⟩,
  ⟨"GAZ_D_STAT", 0xf0108, [(4096, 0x100000000)], fun _ => 0,
    [⟨"OUT", 31, 31, .ro, false, []⟩,
     ⟨"INCOMPLETE", 30, 30, .ro, false, []⟩], false⟩,
  ⟨"GAZ_D_APPLIED", 0xf010c, [(4096, 0x100000000)], fun _ => 0,
    [⟨"V", 31, 0, .ro, false, []⟩], false⟩,
  ⟨"GAZ_D_REFUSED", 0xf0110, [(4096, 0x100000000)], fun _ => 0,
    [⟨"V", 31, 0, .ro, false, []⟩], false⟩,
  ⟨"GAZ_D_SILENT", 0xf0114, [(4096, 0x100000000)], fun _ => 0,
    [⟨"V", 31, 0, .ro, false, []⟩], false⟩,
  ⟨"GAZ_D_EPOCH_LO", 0xf0118, [(4096, 0x100000000)], fun _ => 0,
    [⟨"V", 31, 0, .ro, false, []⟩], true⟩,
  ⟨"GAZ_D_EPOCH_HI", 0xf011c, [(4096, 0x100000000)], fun _ => 0,
    [⟨"V", 15, 0, .ro, false, []⟩], false⟩]

/-- The registers of the RED block. -/
def regsRed : List RegRow := [
  ⟨"RED_CTL", 0x100000, [], fun _ => 20,
    [⟨"REWIND", 13, 0, .rw, false, [(10001, 16383)]⟩], false⟩,
  ⟨"RED_HB", 0x100004, [], fun _ => 0,
    [⟨"EN", 31, 31, .rw, false, []⟩,
     ⟨"ADDR", 23, 16, .rw, false, []⟩,
     ⟨"PORT", 15, 0, .rw, false, []⟩], false⟩,
  ⟨"RED_HB_TO", 0x100008, [], fun _ => 10000,
    [⟨"RX_TO", 23, 0, .rw, false, [(0, 9), (10000001, 16777215)]⟩], false⟩,
  ⟨"RED_HB_TX", 0x10000c, [], fun _ => 2500,
    [⟨"TX_PER", 23, 0, .rw, false, [(0, 1), (1000001, 16777215)]⟩], false⟩,
  ⟨"RED_PAIR", 0x100100, [(16, 4)], fun _ => 0,
    [⟨"PORT_A", 31, 26, .rw, false, []⟩,
     ⟨"PORT_B", 23, 18, .rw, false, []⟩,
     ⟨"SIDE", 17, 17, .rw, false, []⟩,
     ⟨"A_FAILED", 16, 16, .ro, false, []⟩,
     ⟨"B_FAILED", 15, 15, .ro, false, []⟩,
     ⟨"SWITCH_SEEN", 14, 14, .w1c, false, []⟩,
     ⟨"SWITCHES", 13, 0, .ro, false, []⟩], false⟩]

/-- The registers of the ETH block. -/
def regsEth : List RegRow := [
  ⟨"ETH_MAC_CFG", 0x110000, [(16, 2048)], fun _ => 0,
    [⟨"MODE", 31, 30, .rw, false, []⟩,
     ⟨"SHEET", 23, 18, .rw, false, []⟩], false⟩,
  ⟨"ETH_MAC_STAT", 0x110004, [(16, 2048)], fun _ => 0,
    [⟨"UP0", 31, 31, .ro, false, []⟩,
     ⟨"CAUSE0", 30, 28, .ro, false, []⟩,
     ⟨"NARROWED0", 27, 27, .ro, false, []⟩,
     ⟨"DOWN_SEEN0", 26, 26, .w1c, false, []⟩,
     ⟨"UP1", 15, 15, .ro, false, []⟩,
     ⟨"CAUSE1", 14, 12, .ro, false, []⟩,
     ⟨"NARROWED1", 11, 11, .ro, false, []⟩,
     ⟨"DOWN_SEEN1", 10, 10, .w1c, false, []⟩], false⟩,
  ⟨"ETH_RX_ERR", 0x110010, [(16, 2048), (2, 64)], fun _ => 0,
    [⟨"V", 31, 0, .clr, false, []⟩], false⟩,
  ⟨"ETH_RX_DISC", 0x110014, [(16, 2048), (2, 64)], fun _ => 0,
    [⟨"V", 31, 0, .clr, false, []⟩], false⟩,
  ⟨"ETH_RX_DUP", 0x110018, [(16, 2048), (2, 64)], fun _ => 0,
    [⟨"V", 31, 0, .clr, false, []⟩], false⟩,
  ⟨"ETH_RX_LOST", 0x11001c, [(16, 2048), (2, 64)], fun _ => 0,
    [⟨"V", 31, 0, .clr, false, []⟩], false⟩,
  ⟨"ETH_FEC_UNC", 0x110020, [(16, 2048), (2, 64)], fun _ => 0,
    [⟨"V", 31, 0, .clr, false, []⟩], false⟩,
  ⟨"ETH_HTX_CTL", 0x110100, [(16, 2048)], fun _ => 0,
    [⟨"EN", 31, 31, .rw, false, []⟩,
     ⟨"SIZE", 3, 0, .rw, false, [(0, 3), (13, 15)]⟩], false⟩,
  ⟨"ETH_HRX_CTL", 0x110110, [(16, 2048)], fun _ => 0,
    [⟨"EN", 31, 31, .rw, false, []⟩,
     ⟨"SIZE", 3, 0, .rw, false, [(0, 3), (13, 15)]⟩], false⟩,
  ⟨"ETH_HTX_BASE_LO", 0x110104, [(16, 2048)], fun _ => 0,
    [⟨"V", 31, 0, .rw, false, []⟩], true⟩,
  ⟨"ETH_HTX_BASE_HI", 0x110108, [(16, 2048)], fun _ => 0,
    [⟨"V", 31, 0, .rw, false, []⟩], false⟩,
  ⟨"ETH_HTX_PI", 0x11010c, [(16, 2048)], fun _ => 0,
    [⟨"V", 15, 0, .rw, false, []⟩], false⟩,
  ⟨"ETH_HRX_BASE_LO", 0x110114, [(16, 2048)], fun _ => 0,
    [⟨"V", 31, 0, .rw, false, []⟩], true⟩,
  ⟨"ETH_HRX_BASE_HI", 0x110118, [(16, 2048)], fun _ => 0,
    [⟨"V", 31, 0, .rw, false, []⟩], false⟩,
  ⟨"ETH_HRX_PI", 0x11011c, [(16, 2048)], fun _ => 0,
    [⟨"V", 15, 0, .rw, false, []⟩], false⟩,
  ⟨"ETH_HRX_FULL", 0x110120, [(16, 2048)], fun _ => 0,
    [⟨"V", 31, 0, .clr, false, []⟩], false⟩,
  ⟨"ETH_RXS", 0x11f000, [], fun _ => 0x00640000,
    [⟨"MERGE", 31, 16, .rw, false, [(0, 0)]⟩,
     ⟨"BASE", 15, 0, .rw, false, []⟩], false⟩]

/-- The registers of the MGB block. -/
def regsMgb : List RegRow := [
  ⟨"MGB_BUS_CTL", 0x120000, [(2, 4)], fun _ => 0x19,
    [⟨"EN", 31, 31, .rw, false, []⟩,
     ⟨"SPEED", 30, 29, .rw, false, [(3, 3)]⟩,
     ⟨"ALERT", 28, 28, .rw, false, []⟩,
     ⟨"PEC", 27, 27, .rw, false, []⟩,
     ⟨"TMO", 7, 0, .rw, false, [(0, 0)]⟩], false⟩,
  ⟨"MGB_XFER", 0x120010, [], fun _ => 0,
    [⟨"GO", 31, 31, .sc, false, []⟩,
     ⟨"BUS", 30, 30, .rw, false, []⟩,
     ⟨"PEC", 29, 29, .rw, false, []⟩,
     ⟨"ADDR", 22, 16, .rw, false, []⟩,
     ⟨"NWR", 13, 8, .rw, false, [(33, 63)]⟩,
     ⟨"NRD", 5, 0, .rw, false, [(33, 63)]⟩], false⟩,
  ⟨"MGB_XSTAT", 0x120014, [], fun _ => 0,
    [⟨"CODE", 31, 24, .ro, false, []⟩,
     ⟨"BYTES", 23, 16, .ro, false, []⟩,
     ⟨"DONE", 15, 15, .ro, false, []⟩], false⟩,
  ⟨"MGB_NAKCNT", 0x120018, [(2, 4)], fun _ => 0,
    [⟨"V", 31, 0, .clr, false, []⟩], false⟩,
  ⟨"MGB_ALERT_CTL", 0x120020, [], fun _ => 10,
    [⟨"EN", 31, 31, .rw, false, []⟩,
     ⟨"PER", 15, 0, .rw, false, [(0, 0)]⟩], false⟩,
  ⟨"MGB_ALERT_STAT", 0x120024, [], fun _ => 0,
    [⟨"COUNT", 31, 16, .ro, false, []⟩,
     ⟨"NORESP", 8, 8, .ro, false, []⟩,
     ⟨"ADDR", 6, 0, .ro, false, []⟩], false⟩,
  ⟨"MGB_XDATA", 0x120040, [(16, 4)], fun _ => 0,
    [⟨"V", 31, 0, .rw, false, []⟩], false⟩,
  ⟨"MGB_EDGE_CTL", 0x120080, [], fun _ => 0,
    [⟨"PUSH", 31, 31, .sc, false, []⟩,
     ⟨"LEVEL", 30, 30, .rw, false, []⟩,
     ⟨"OUT", 20, 16, .rw, false, []⟩,
     ⟨"FRAC", 15, 0, .rw, false, []⟩], false⟩,
  ⟨"MGB_EDGE_NS", 0x120084, [], fun _ => 0,
    [⟨"V", 31, 0, .rw, false, []⟩], false⟩,
  ⟨"MGB_EDGE_SEC_LO", 0x120088, [], fun _ => 0,
    [⟨"V", 31, 0, .rw, false, []⟩], true⟩,
  ⟨"MGB_EDGE_SEC_HI", 0x12008c, [], fun _ => 0,
    [⟨"V", 15, 0, .rw, false, []⟩], false⟩,
  ⟨"MGB_SIG_CFG", 0x120100, [(32, 16)], fun _ => 0,
    [⟨"MODE", 31, 30, .rw, false, [(3, 3)]⟩,
     ⟨"LEVEL", 28, 28, .rw, false, []⟩,
     ⟨"GRID", 27, 25, .rw, false, []⟩,
     ⟨"DLOG2", 24, 20, .rw, false, [(21, 31)]⟩,
     ⟨"WIDTH", 15, 0, .rw, false, []⟩], false⟩,
  ⟨"MGB_SIG_STAT", 0x120104, [(32, 16)], fun _ => 0,
    [⟨"CODE", 31, 24, .ro, false, []⟩,
     ⟨"PIN", 23, 23, .ro, false, []⟩,
     ⟨"TRIG", 22, 22, .ro, false, []⟩,
     ⟨"LATE_SEEN", 21, 21, .w1c, false, []⟩,
     ⟨"QUEUED", 6, 0, .ro, false, []⟩], false⟩,
  ⟨"MGB_SIG_OFS", 0x120108, [(32, 16)], fun _ => 0,
    [⟨"V", 31, 0, .rw, false, []⟩], false⟩,
  ⟨"MGB_POLL", 0x120400, [(16, 8)], fun _ => 0,
    [⟨"VALID", 31, 31, .rw, false, []⟩,
     ⟨"BUS", 30, 30, .rw, false, []⟩,
     ⟨"WORD", 29, 29, .rw, false, []⟩,
     ⟨"PERIOD", 28, 16, .rw, false, []⟩,
     ⟨"ADDR", 14, 8, .rw, false, []⟩,
     ⟨"CMD", 7, 0, .rw, false, []⟩], false⟩,
  ⟨"MGB_POLLV", 0x120404, [(16, 8)], fun _ => 0,
    [⟨"CODE", 31, 24, .ro, false, []⟩,
     ⟨"VAL", 15, 0, .ro, false, []⟩], false⟩]

/-- The registers of the SFE block. -/
def regsSfe : List RegRow := [
  ⟨"SFE_CTL", 0x130000, [], fun _ => 0,
    [⟨"GRID", 27, 25, .rw, false, []⟩,
     ⟨"COMMIT", 2, 2, .sc, false, []⟩,
     ⟨"UNBIND", 1, 1, .sc, false, []⟩,
     ⟨"BIND", 0, 0, .sc, false, []⟩], false⟩,
  ⟨"SFE_STAT", 0x130004, [], fun _ => 0,
    [⟨"CODE", 31, 24, .ro, false, []⟩,
     ⟨"STATE", 23, 22, .ro, false, []⟩,
     ⟨"SHADOW_DIRTY", 21, 21, .ro, false, []⟩,
     ⟨"PEND", 20, 18, .ro, false, []⟩], false⟩,
  ⟨"SFE_BLANK", 0x130008, [], fun _ => 0,
    [⟨"MASK", 31, 24, .rw, true, []⟩,
     ⟨"POST", 15, 0, .rw, true, []⟩], false⟩,
  ⟨"SFE_CM_CFG", 0x13000c, [], fun _ => 4,
    [⟨"COUNT", 7, 0, .rw, true, []⟩], false⟩,
  ⟨"SFE_EXC_CTL", 0x130100, [(32, 4)], fun _ => 0,
    [⟨"EN", 31, 31, .rw, true, []⟩,
     ⟨"RANGE", 1, 0, .rw, true, []⟩], false⟩,
  ⟨"SFE_EXC_STAT", 0x130180, [(32, 4)], fun _ => 0,
    [⟨"STATE", 31, 30, .ro, false, []⟩,
     ⟨"RANGE_ACT", 29, 28, .ro, false, []⟩,
     ⟨"SETTLING", 27, 27, .ro, false, []⟩,
     ⟨"ILIM", 26, 26, .ro, false, []⟩,
     ⟨"FAULT", 25, 25, .ro, false, []⟩,
     ⟨"FAULT_SEEN", 24, 24, .w1c, false, []⟩,
     ⟨"SENSE", 15, 0, .ro, false, []⟩], false⟩,
  ⟨"SFE_CH_CFG", 0x130400, [(128, 4)], fun _ => 0xA060,
    [⟨"EXC", 31, 27, .rw, true, []⟩,
     ⟨"GAIN", 26, 25, .rw, true, []⟩,
     ⟨"TCH_EN", 24, 24, .rw, true, []⟩,
     ⟨"TCH", 23, 17, .rw, true, []⟩,
     ⟨"CM_HI", 15, 8, .rw, true, []⟩,
     ⟨"CM_LO", 7, 0, .rw, true, []⟩], false⟩,
  ⟨"SFE_CH_STAT", 0x130600, [(128, 4)], fun _ => 0,
    [⟨"CM_FAULT", 31, 31, .ro, false, []⟩,
     ⟨"CM_SEEN", 30, 30, .w1c, false, []⟩,
     ⟨"LIN_ERR", 29, 29, .ro, false, []⟩,
     ⟨"OVR_SEEN", 28, 28, .w1c, false, []⟩,
     ⟨"CM", 15, 8, .ro, false, []⟩], false⟩,
  ⟨"SFE_ROUTE", 0x130800, [(16, 4)], fun _ => 0,
    [⟨"EN", 31, 31, .rw, true, []⟩,
     ⟨"QUEUE", 13, 0, .rw, true, []⟩], false⟩,
  ⟨"SFE_LIN", 0x138000, [(128, 128), (24, 4)], fun _ => 0,
    [⟨"V", 31, 0, .rw, true, []⟩], false⟩]

/-- The registers of the PCV block. -/
def regsPcv : List RegRow := [
  ⟨"PCV_REFCTL", 0x140000, [], fun _ => 0,
    [⟨"REF_OK", 1, 1, .ro, false, []⟩,
     ⟨"REF_EN", 0, 0, .rw, false, []⟩], false⟩,
  ⟨"PCV_SPARE", 0x140004, [], fun _ => 0,
    [⟨"V", 1, 0, .ro, false, []⟩], false⟩,
  ⟨"PCV_SEQ_CTL", 0x140100, [(16, 64)], fun _ => 0,
    [⟨"EN", 31, 31, .rw, true, []⟩,
     ⟨"DLOG2", 29, 24, .rw, true, []⟩,
     ⟨"LEN", 20, 16, .rw, true, []⟩,
     ⟨"SLOT", 9, 0, .rw, true, []⟩], false⟩,
  ⟨"PCV_STAT", 0x140104, [(16, 64)], fun x => ((x.getD 0 0) * 524288),
    [⟨"URG_CODE", 31, 24, .ro, false, []⟩,
     ⟨"PHYS", 23, 19, .ro, false, []⟩,
     ⟨"FAILING", 18, 18, .ro, false, []⟩,
     ⟨"DEAD", 17, 17, .ro, false, []⟩,
     ⟨"SKIP_SEEN", 16, 16, .w1c, false, []⟩,
     ⟨"URGQ", 15, 13, .ro, false, []⟩], false⟩,
  ⟨"PCV_URG", 0x140108, [(16, 64)], fun _ => 0,
    [⟨"GO", 31, 31, .sc, false, []⟩,
     ⟨"CH", 30, 28, .rw, false, []⟩,
     ⟨"AVG", 27, 24, .rw, false, []⟩,
     ⟨"TRG_EN", 23, 23, .rw, false, []⟩,
     ⟨"TRG", 21, 16, .rw, false, []⟩], false⟩,
  ⟨"PCV_SKIPCNT", 0x14010c, [(16, 64)], fun _ => 0,
    [⟨"V", 31, 0, .clr, false, []⟩], false⟩,
  ⟨"PCV_URGREF", 0x140110, [(16, 64)], fun _ => 0,
    [⟨"V", 31, 0, .clr, false, []⟩], false⟩,
  ⟨"PCV_SEQ", 0x140800, [(16, 64), (16, 4)], fun _ => 0,
    [⟨"AVG", 7, 4, .rw, true, []⟩,
     ⟨"CH", 2, 0, .rw, true, []⟩], false⟩]

/-- The registers of the CNV block. -/
def regsCnv : List RegRow := [
  ⟨"CNV_DIE_STAT", 0x200000, [(8, 0x10000)], fun _ => 0,
    [⟨"TEMP", 31, 24, .ro, false, []⟩,
     ⟨"LINK_DOWN_SEEN", 1, 1, .w1c, false, []⟩,
     ⟨"LINK_UP", 0, 0, .ro, false, []⟩], false⟩,
  ⟨"CNV_GRP_CTL", 0x200100, [(8, 0x10000), (3, 64)], fun _ => 0x00100010,
    [⟨"DWELL", 31, 16, .rw, false, [(0, 9), (1001, 65535)]⟩,
     ⟨"SURVEY_EN", 4, 4, .rw, false, []⟩,
     ⟨"LOCK_EN", 3, 3, .rw, false, []⟩,
     ⟨"RUN", 2, 2, .rw, false, []⟩,
     ⟨"REF_EN", 1, 1, .rw, false, []⟩,
     ⟨"APPLY", 0, 0, .sc, false, []⟩], false⟩,
  ⟨"CNV_GRP_PLL", 0x200104, [(8, 0x10000), (3, 64)], fun _ => 0x20000000,
    [⟨"NINT", 31, 24, .rw, false, []⟩,
     ⟨"NFRAC", 23, 0, .rw, false, []⟩], false⟩,
  ⟨"CNV_GRP_LOCK", 0x200108, [(8, 0x10000), (3, 64)], fun _ => 0x100,
    [⟨"MULT", 13, 8, .rw, false, []⟩,
     ⟨"GRID", 2, 0, .rw, false, []⟩], false⟩,
  ⟨"CNV_GRP_STAT", 0x20010c, [(8, 0x10000), (3, 64)], fun _ => 0x40,
    [⟨"CODE", 31, 24, .ro, false, []⟩,
     ⟨"ASLEEP", 6, 6, .ro, false, []⟩,
     ⟨"LOCK_LOST", 5, 5, .w1c, false, []⟩,
     ⟨"LOCKED", 4, 4, .ro, false, []⟩,
     ⟨"PLL_LOCK", 3, 3, .ro, false, []⟩,
     ⟨"REF_OK", 2, 2, .ro, false, []⟩,
     ⟨"RUNNING", 1, 1, .ro, false, []⟩], false⟩,
  ⟨"CNV_GRP_TRK", 0x200110, [(8, 0x10000), (3, 64)], fun _ => 0x00320001,
    [⟨"COAST_MAX", 31, 16, .rw, false, [(0, 0)]⟩,
     ⟨"BW", 1, 0, .rw, false, [(3, 3)]⟩], false⟩,
  ⟨"CNV_GRP_TRKST", 0x200114, [(8, 0x10000), (3, 64)], fun _ => 0,
    [⟨"RESID", 31, 24, .ro, false, []⟩,
     ⟨"LOST_SEEN", 5, 5, .w1c, false, []⟩,
     ⟨"COAST_SEEN", 4, 4, .w1c, false, []⟩,
     ⟨"TRACK", 2, 0, .ro, false, []⟩], false⟩,
  ⟨"CNV_GRP_FS_LO", 0x200118, [(8, 0x10000), (3, 64)], fun _ => 0,
    [⟨"V", 31, 0, .ro, false, []⟩], true⟩,
  ⟨"CNV_GRP_FS_HI", 0x20011c, [(8, 0x10000), (3, 64)], fun _ => 0,
    [⟨"V", 31, 0, .ro, false, []⟩], false⟩,
  ⟨"CNV_IN_CTL", 0x201000, [(8, 0x10000), (96, 32)], fun _ => 1,
    [⟨"EN", 0, 0, .rw, false, []⟩], false⟩,
  ⟨"CNV_IN_STAT", 0x201004, [(8, 0x10000), (96, 32)], fun _ => 0x87CB0000,
    [⟨"OFFLINE", 31, 27, .ro, false, []⟩,
     ⟨"FAILING", 26, 22, .ro, false, []⟩,
     ⟨"SURVEY", 21, 20, .ro, false, []⟩,
     ⟨"SPARE", 19, 19, .ro, false, []⟩,
     ⟨"DEAD", 18, 18, .ro, false, []⟩,
     ⟨"CAL_UNSETTLED", 17, 17, .ro, false, []⟩,
     ⟨"EN_ACT", 16, 16, .ro, false, []⟩,
     ⟨"OVR_SEEN", 15, 15, .w1c, false, []⟩,
     ⟨"STEPS", 14, 0, .ro, false, []⟩], false⟩,
  ⟨"CNV_TRIM", 0x204000, [(8, 0x10000), (96, 128), (17, 4)], fun _ => 0,
    [⟨"STATE", 31, 29, .ro, false, []⟩,
     ⟨"SKEW", 28, 19, .ro, false, []⟩,
     ⟨"GAIN", 18, 9, .ro, false, []⟩,
     ⟨"OFFSET", 8, 0, .ro, false, []⟩], false⟩]

/-- The registers of the LNE block. -/
def regsLne : List RegRow := [
  ⟨"LNE_SHEET_CTL", 0x300000, [(40, 0x4000)], fun _ => 0x00018064,
    [⟨"PROTO", 31, 30, .rw, false, []⟩,
     ⟨"RATE", 29, 27, .rw, false, [(5, 7)]⟩,
     ⟨"START", 26, 26, .rw, false, []⟩,
     ⟨"EQ_SEARCH", 25, 25, .rw, false, []⟩,
     ⟨"PARTNER_SPARE", 24, 24, .rw, false, []⟩,
     ⟨"TX_REV", 23, 23, .rw, false, []⟩,
     ⟨"SUB_LANE", 22, 20, .rw, false, []⟩,
     ⟨"NARROW", 19, 19, .sc, false, []⟩,
     ⟨"SUB", 18, 18, .sc, false, []⟩,
     ⟨"EQ_SPAN", 17, 14, .rw, false, []⟩,
     ⟨"RETRY", 13, 0, .rw, false, [(0, 0)]⟩], false⟩,
  ⟨"LNE_SHEET_STAT", 0x300004, [(40, 0x4000)], fun _ => 0x00021000,
    [⟨"CODE", 31, 24, .ro, false, []⟩,
     ⟨"STATE", 23, 22, .ro, false, []⟩,
     ⟨"REV", 21, 21, .ro, false, []⟩,
     ⟨"STAGE", 20, 18, .ro, false, []⟩,
     ⟨"WIDTH", 17, 14, .ro, false, []⟩,
     ⟨"DROP_SEEN", 13, 13, .w1c, false, []⟩,
     ⟨"ASLEEP", 12, 12, .ro, false, []⟩,
     ⟨"SKEW", 7, 0, .ro, false, []⟩], false⟩,
  ⟨"LNE_MAP", 0x300008, [(40, 0x4000)], fun _ => 0x76543210,
    [⟨"V", 31, 0, .ro, false, []⟩], false⟩,
  ⟨"LNE_EYE_CFG0", 0x30000c, [(40, 0x4000)], fun _ => 0x03E80A05,
    [⟨"PERIOD", 31, 16, .rw, false, [(1, 9)]⟩,
     ⟨"WARN_V", 15, 8, .rw, false, []⟩,
     ⟨"FAIL_V", 7, 0, .rw, false, []⟩], false⟩,
  ⟨"LNE_EYE_CFG1", 0x300010, [(40, 0x4000)], fun _ => 0x140A,
    [⟨"WARN_H", 15, 8, .rw, false, []⟩,
     ⟨"FAIL_H", 7, 0, .rw, false, []⟩], false⟩,
  ⟨"LNE_DROPS", 0x300014, [(40, 0x4000)], fun _ => 0,
    [⟨"V", 31, 0, .clr, false, []⟩], false⟩,
  ⟨"LNE_ATTEMPTS", 0x300018, [(40, 0x4000)], fun _ => 0,
    [⟨"V", 31, 0, .clr, false, []⟩], false⟩,
  ⟨"LNE_CTL", 0x301000, [(40, 0x4000), (9, 512)], fun x => (if (x.getD 1 0) = 8 then 0xC00C2210 else 0x000C2210),
    [⟨"TX_SLEEP", 31, 31, .rw, false, []⟩,
     ⟨"RX_SLEEP", 30, 30, .rw, false, []⟩,
     ⟨"TX_INV", 29, 29, .rw, false, []⟩,
     ⟨"PEAK", 21, 16, .rw, false, [(49, 63)]⟩,
     ⟨"PRE", 15, 11, .rw, false, [(17, 31)]⟩,
     ⟨"POST", 10, 6, .rw, false, [(25, 31)]⟩,
     ⟨"AMP", 5, 4, .rw, false, [(3, 3)]⟩], false⟩,
  ⟨"LNE_STAT", 0x301004, [(40, 0x4000), (9, 512)], fun x => (if (x.getD 1 0) = 8 then 0x00007800 else 0x10007800),
    [⟨"STATE", 31, 28, .ro, false, []⟩,
     ⟨"RX_INV", 27, 27, .ro, false, []⟩,
     ⟨"LOS", 26, 26, .ro, false, []⟩,
     ⟨"LOL", 25, 25, .ro, false, []⟩,
     ⟨"FAILING", 24, 24, .ro, false, []⟩,
     ⟨"LOS_SEEN", 23, 23, .w1c, false, []⟩,
     ⟨"LOL_SEEN", 22, 22, .w1c, false, []⟩,
     ⟨"WARN_SEEN", 21, 21, .w1c, false, []⟩,
     ⟨"PEAK_ACT", 20, 15, .ro, false, []⟩,
     ⟨"IDENT", 14, 11, .ro, false, []⟩], false⟩,
  ⟨"LNE_EYE", 0x301008, [(40, 0x4000), (9, 512)], fun _ => 0xFFFF,
    [⟨"VMARGIN", 31, 24, .ro, false, []⟩,
     ⟨"HMARGIN", 23, 16, .ro, false, []⟩,
     ⟨"VMIN", 15, 8, .set1, false, []⟩,
     ⟨"HMIN", 7, 0, .set1, false, []⟩], false⟩,
  ⟨"LNE_LOSCNT", 0x30100c, [(40, 0x4000), (9, 512)], fun _ => 0,
    [⟨"V", 31, 0, .clr, false, []⟩], false⟩,
  ⟨"LNE_LOLCNT", 0x301010, [(40, 0x4000), (9, 512)], fun _ => 0,
    [⟨"V", 31, 0, .clr, false, []⟩], false⟩,
  ⟨"LNE_PRBS_CTL", 0x301020, [(40, 0x4000), (9, 512)], fun _ => 0,
    [⟨"GEN_EN", 31, 31, .rw, false, []⟩,
     ⟨"CHK_EN", 30, 30, .rw, false, []⟩,
     ⟨"PAT", 29, 27, .rw, false, [(7, 7)]⟩,
     ⟨"INJ", 26, 26, .sc, false, []⟩,
     ⟨"INJ_LOG2", 25, 20, .rw, false, [(1, 9), (41, 63)]⟩,
     ⟨"CLR", 19, 19, .sc, false, []⟩,
     ⟨"LOCK", 18, 18, .ro, false, []⟩,
     ⟨"LOST_SEEN", 17, 17, .w1c, false, []⟩], false⟩,
  ⟨"LNE_PRBS_BITS_LO", 0x301024, [(40, 0x4000), (9, 512)], fun _ => 0,
    [⟨"V", 31, 0, .ro, false, []⟩], true⟩,
  ⟨"LNE_PRBS_BITS_HI", 0x301028, [(40, 0x4000), (9, 512)], fun _ => 0,
    [⟨"V", 31, 0, .ro, false, []⟩], false⟩,
  ⟨"LNE_PRBS_ERR_LO", 0x30102c, [(40, 0x4000), (9, 512)], fun _ => 0,
    [⟨"V", 31, 0, .ro, false, []⟩], true⟩,
  ⟨"LNE_PRBS_ERR_HI", 0x301030, [(40, 0x4000), (9, 512)], fun _ => 0,
    [⟨"V", 31, 0, .ro, false, []⟩], false⟩,
  ⟨"LNE_USER_LO", 0x301034, [(40, 0x4000), (9, 512)], fun _ => 0,
    [⟨"V", 31, 0, .rw, false, []⟩], true⟩,
  ⟨"LNE_USER_HI", 0x301038, [(40, 0x4000), (9, 512)], fun _ => 0,
    [⟨"V", 31, 0, .rw, false, []⟩], false⟩]

/-- The registers of the SPX block. -/
def regsSpx : List RegRow := [
  ⟨"SPX_CTL", 0x400000, [(40, 0x1000)], fun _ => 0x58000000,
    [⟨"ROLE", 31, 30, .rw, false, [(0, 0), (3, 3)]⟩,
     ⟨"DOZE_EN", 29, 29, .rw, false, []⟩,
     ⟨"BCN_EN", 28, 28, .rw, false, []⟩,
     ⟨"REPLAY_MAX", 27, 24, .rw, false, [(0, 0)]⟩], false⟩,
  ⟨"SPX_STAT", 0x400004, [(40, 0x1000)], fun _ => 0,
    [⟨"LSTATE", 31, 29, .ro, false, []⟩,
     ⟨"WIDTH", 28, 25, .ro, false, []⟩,
     ⟨"RESUMED", 24, 24, .ro, false, []⟩,
     ⟨"ABSENT_SEEN", 23, 23, .w1c, false, []⟩,
     ⟨"REFUSED_SEEN", 22, 22, .w1c, false, []⟩,
     ⟨"RESET_SEEN", 21, 21, .w1c, false, []⟩,
     ⟨"XCHG", 20, 20, .ro, false, []⟩,
     ⟨"CAUSE", 19, 16, .ro, false, []⟩,
     ⟨"XCODE", 15, 8, .ro, false, []⟩], false⟩,
  ⟨"SPX_TIMER", 0x400008, [(40, 0x1000)], fun _ => 0x0200000A,
    [⟨"REPLAY_TO", 31, 22, .rw, false, [(0, 0), (1001, 1023)]⟩,
     ⟨"XCHG_TO", 15, 0, .rw, false, [(0, 0)]⟩], false⟩,
  ⟨"SPX_TRAIN", 0x40000c, [(40, 0x1000)], fun _ => 0x27100A32,
    [⟨"BACKOFF_MAX", 31, 16, .rw, false, [(0, 0)]⟩,
     ⟨"BACKOFF_MIN", 15, 8, .rw, false, [(0, 0)]⟩,
     ⟨"PARTNER_TO", 7, 0, .rw, false, [(0, 0)]⟩], false⟩,
  ⟨"SPX_BCN", 0x400010, [(40, 0x1000)], fun _ => 1000,
    [⟨"PERIOD", 15, 0, .rw, false, [(0, 9)]⟩], false⟩,
  ⟨"SPX_ASYM", 0x400014, [(40, 0x1000)], fun _ => 0,
    [⟨"V", 31, 0, .rw, false, []⟩], false⟩,
  ⟨"SPX_DOZE", 0x400018, [(40, 0x1000)], fun _ => 1000,
    [⟨"IDLE", 23, 0, .rw, false, [(0, 0)]⟩], false⟩,
  ⟨"SPX_PARTNER", 0x40001c, [(40, 0x1000)], fun _ => 0,
    [⟨"V", 31, 0, .ro, false, []⟩], false⟩,
  ⟨"SPX_EPOCH", 0x400020, [(40, 0x1000)], fun _ => 0,
    [⟨"V", 31, 0, .ro, false, []⟩], false⟩,
  ⟨"SPX_SEQ", 0x400024, [(40, 0x1000)], fun _ => 0,
    [⟨"V", 23, 0, .ro, false, []⟩], false⟩,
  ⟨"SPX_ACK", 0x400028, [(40, 0x1000)], fun _ => 0x00FFFFFF,
    [⟨"V", 23, 0, .ro, false, []⟩], false⟩,
  ⟨"SPX_CRD", 0x40002c, [(40, 0x1000)], fun _ => 0,
    [⟨"DATA", 31, 16, .ro, false, []⟩,
     ⟨"CTRL", 15, 0, .ro, false, []⟩], false⟩,
  ⟨"SPX_REPLAYS", 0x400030, [(40, 0x1000)], fun _ => 0,
    [⟨"V", 31, 0, .clr, false, []⟩], false⟩,
  ⟨"SPX_CRCERR", 0x400034, [(40, 0x1000)], fun _ => 0,
    [⟨"V", 31, 0, .clr, false, []⟩], false⟩,
  ⟨"SPX_DUPS", 0x400038, [(40, 0x1000)], fun _ => 0,
    [⟨"V", 31, 0, .clr, false, []⟩], false⟩,
  ⟨"SPX_RXDISC", 0x40003c, [(40, 0x1000)], fun _ => 0,
    [⟨"V", 31, 0, .clr, false, []⟩], false⟩,
  ⟨"SPX_FEC_CORR_LO", 0x400040, [(40, 0x1000)], fun _ => 0,
    [⟨"V", 31, 0, .ro, false, []⟩], true⟩,
  ⟨"SPX_FEC_CORR_HI", 0x400044, [(40, 0x1000)], fun _ => 0,
    [⟨"V", 31, 0, .ro, false, []⟩], false⟩,
  ⟨"SPX_FEC_UNC", 0x400048, [(40, 0x1000)], fun _ => 0,
    [⟨"V", 31, 0, .clr, false, []⟩], false⟩,
  ⟨"SPX_BCN_OFS_LO", 0x400050, [(40, 0x1000)], fun _ => 0,
    [⟨"V", 31, 0, .ro, false, []⟩], true⟩,
  ⟨"SPX_BCN_OFS_HI", 0x400054, [(40, 0x1000)], fun _ => 0,
    [⟨"V", 31, 0, .ro, false, []⟩], false⟩,
  ⟨"SPX_BCN_DLY", 0x400058, [(40, 0x1000)], fun _ => 0,
    [⟨"V", 31, 0, .ro, false, []⟩], false⟩,
  ⟨"SPX_BCN_SEQ", 0x40005c, [(40, 0x1000)], fun _ => 0,
    [⟨"V", 31, 0, .ro, false, []⟩], false⟩]

/-- The registers of the CHP block (part 0). -/
def regsChp0 : List RegRow := [
  ⟨"CHP_CTL", 0x800000, [(1024, 1024)], fun _ => 0,
    [⟨"GRID", 27, 25, .rw, false, []⟩,
     ⟨"RAW", 24, 24, .rw, true, []⟩,
     ⟨"DEAD", 23, 23, .rw, true, []⟩,
     ⟨"UNS_ZERO", 22, 22, .rw, true, []⟩,
     ⟨"RESTART", 3, 3, .rw, false, []⟩,
     ⟨"COMMIT", 2, 2, .sc, false, []⟩,
     ⟨"UNBIND", 1, 1, .sc, false, []⟩,
     ⟨"BIND", 0, 0, .sc, false, []⟩], false⟩,
  ⟨"CHP_SRC", 0x800004, [(1024, 1024)], fun _ => 0,
    [⟨"TYPE", 31, 30, .rw, false, []⟩,
     ⟨"SHEET", 29, 24, .rw, false, []⟩,
     ⟨"INDEX", 9, 0, .rw, false, []⟩], false⟩,
  ⟨"CHP_STAT", 0x800008, [(1024, 1024)], fun _ => 0,
    [⟨"CODE", 31, 24, .ro, false, []⟩,
     ⟨"STATE", 23, 22, .ro, false, []⟩,
     ⟨"SHADOW_DIRTY", 21, 21, .ro, false, []⟩,
     ⟨"PEND", 20, 18, .ro, false, []⟩,
     ⟨"CPLX", 17, 17, .ro, false, []⟩,
     ⟨"SAT_SEEN", 16, 16, .w1c, false, []⟩], false⟩,
  ⟨"CHP_BLANK", 0x80000c, [(1024, 1024)], fun _ => 0,
    [⟨"MASK", 31, 24, .rw, true, []⟩,
     ⟨"PRE", 23, 16, .rw, true, [(161, 255)]⟩,
     ⟨"POST", 15, 0, .rw, true, []⟩], false⟩,
  ⟨"CHP_CALMASK", 0x800010, [(1024, 1024)], fun _ => 0,
    [⟨"V", 31, 0, .rw, true, []⟩], false⟩,
  ⟨"CHP_CALDLY", 0x800014, [(1024, 1024)], fun _ => 0,
    [⟨"V", 15, 0, .rw, true, []⟩], false⟩,
  ⟨"CHP_TEST", 0x800018, [(1024, 1024)], fun _ => 0x00010000,
    [⟨"PAT", 31, 29, .rw, true, [(4, 7)]⟩,
     ⟨"MULT", 22, 16, .rw, true, []⟩,
     ⟨"VALUE", 15, 0, .rw, true, []⟩], false⟩,
  ⟨"CHP_DELAY", 0x800020, [(1024, 1024)], fun _ => 0,
    [⟨"INT", 25, 10, .rw, true, []⟩,
     ⟨"FRAC", 9, 0, .rw, true, []⟩], false⟩,
  ⟨"CHP_MIX", 0x800024, [(1024, 1024)], fun _ => 0,
    [⟨"PHASE", 31, 16, .rw, true, []⟩,
     ⟨"MODE", 1, 0, .rw, true, [(3, 3)]⟩], false⟩,
  ⟨"CHP_NCO_LO", 0x800028, [(1024, 1024)], fun _ => 0,
    [⟨"V", 31, 0, .rw, true, []⟩], true⟩,
  ⟨"CHP_NCO_HI", 0x80002c, [(1024, 1024)], fun _ => 0,
    [⟨"V", 15, 0, .rw, true, []⟩], false⟩,
  ⟨"CHP_DEC", 0x800040, [(1024, 1024), (5, 4)], fun _ => 0,
    [⟨"TYPE", 31, 29, .rw, true, [(4, 7)]⟩,
     ⟨"RATE", 28, 22, .rw, true, []⟩,
     ⟨"ORDER", 21, 19, .rw, true, []⟩,
     ⟨"SHIFT", 18, 14, .rw, true, []⟩,
     ⟨"RND", 13, 12, .rw, true, [(3, 3)]⟩,
     ⟨"COEF", 11, 0, .rw, true, []⟩], false⟩,
  ⟨"CHP_SATCNT", 0x800090, [(1024, 1024)], fun _ => 0,
    [⟨"V", 31, 0, .clr, false, []⟩], false⟩,
  ⟨"CHP_UNS", 0x800094, [(1024, 1024)], fun _ => 0,
    [⟨"V", 31, 0, .ro, false, []⟩], false⟩,
  ⟨"CHP_GD", 0x800098, [(1024, 1024)], fun _ => 0,
    [⟨"V", 31, 0, .ro, false, []⟩], false⟩,
  ⟨"CHP_RSM_CTL", 0x8000a0, [(1024, 1024)], fun _ => 0,
    [⟨"SET", 31, 30, .rw, true, []⟩], false⟩,
  ⟨"CHP_RSM_STAT", 0x8000a4, [(1024, 1024)], fun _ => 0,
    [⟨"TRACK", 31, 29, .ro, false, []⟩,
     ⟨"TSTATE", 28, 27, .ro, false, []⟩,
     ⟨"GAP_SEEN", 26, 26, .w1c, false, []⟩,
     ⟨"RANGE_SEEN", 25, 25, .w1c, false, []⟩], false⟩,
  ⟨"CHP_RSM_STEP_LO", 0x8000a8, [(1024, 1024)], fun _ => 0,
    [⟨"V", 31, 0, .ro, false, []⟩], true⟩,
  ⟨"CHP_RSM_STEP_HI", 0x8000ac, [(1024, 1024)], fun _ => 0,
    [⟨"V", 17, 0, .ro, false, []⟩], false⟩,
  ⟨"CHP_RSM_GAPS_LO", 0x8000b0, [(1024, 1024)], fun _ => 0,
    [⟨"V", 31, 0, .ro, false, []⟩], true⟩,
  ⟨"CHP_RSM_GAPS_HI", 0x8000b4, [(1024, 1024)], fun _ => 0,
    [⟨"V", 31, 0, .ro, false, []⟩], false⟩,
  ⟨"CHP_RSM_GFIRST_LO", 0x8000b8, [(1024, 1024)], fun _ => 0,
    [⟨"V", 31, 0, .ro, false, []⟩], true⟩,
  ⟨"CHP_RSM_GFIRST_HI", 0x8000bc, [(1024, 1024)], fun _ => 0,
    [⟨"V", 31, 0, .ro, false, []⟩], false⟩,
  ⟨"CHP_RSM_GLAST_LO", 0x8000c0, [(1024, 1024)], fun _ => 0,
    [⟨"V", 31, 0, .ro, false, []⟩], true⟩,
  ⟨"CHP_RSM_GLAST_HI", 0x8000c4, [(1024, 1024)], fun _ => 0,
    [⟨"V", 31, 0, .ro, false, []⟩], false⟩]

/-- The registers of the CHP block (part 1). -/
def regsChp1 : List RegRow := [
  ⟨"CHP_CHN_CTL", 0x8000c8, [(1024, 1024)], fun _ => 0,
    [⟨"EN", 31, 31, .rw, true, []⟩,
     ⟨"OVS", 30, 30, .rw, true, []⟩,
     ⟨"K", 29, 26, .rw, true, []⟩,
     ⟨"TAPS", 25, 21, .rw, true, []⟩,
     ⟨"COEF", 20, 16, .rw, true, []⟩,
     ⟨"OSHIFT", 15, 11, .rw, true, []⟩], false⟩,
  ⟨"CHP_CHN_SCALE", 0x8000cc, [(1024, 1024)], fun _ => 0,
    [⟨"SCALE", 14, 0, .rw, true, []⟩], false⟩,
  ⟨"CHP_CHN_SEL", 0x8000d0, [(1024, 1024)], fun _ => 0x00010000,
    [⟨"COUNT", 30, 16, .rw, true, []⟩,
     ⟨"FIRST", 13, 0, .rw, true, []⟩], false⟩,
  ⟨"CHP_CHN_STAT", 0x8000d4, [(1024, 1024)], fun _ => 0,
    [⟨"USPEC", 31, 16, .ro, false, []⟩], false⟩,
  ⟨"CHP_FPD_CTL", 0x8000d8, [(1024, 1024)], fun _ => 0,
    [⟨"EN", 31, 31, .rw, false, []⟩,
     ⟨"WLOG2", 30, 27, .rw, false, [(13, 15)]⟩], false⟩,
  ⟨"CHP_FPD_HI", 0x8000dc, [(1024, 1024)], fun _ => 0xFFFFFFFF,
    [⟨"V", 31, 0, .rw, false, []⟩], false⟩,
  ⟨"CHP_FPD_LO", 0x8000e0, [(1024, 1024)], fun _ => 0,
    [⟨"V", 31, 0, .rw, false, []⟩], false⟩,
  ⟨"CHP_RDC_CTL", 0x8000e4, [(1024, 1024)], fun _ => 0,
    [⟨"MODE", 31, 30, .rw, true, [(3, 3)]⟩,
     ⟨"RQ", 29, 28, .rw, true, []⟩,
     ⟨"HIST", 27, 27, .rw, true, []⟩,
     ⟨"EXCL", 26, 23, .rw, true, []⟩,
     ⟨"ILOG2", 22, 18, .rw, true, [(21, 31)]⟩,
     ⟨"PFMT", 17, 16, .rw, true, [(2, 3)]⟩,
     ⟨"PSHIFT", 15, 10, .rw, true, []⟩], false⟩,
  ⟨"CHP_RDC_RQ", 0x8000e8, [(1024, 1024)], fun _ => 0x10000000,
    [⟨"GAIN", 31, 16, .rw, true, []⟩,
     ⟨"GTAB", 15, 10, .rw, true, []⟩,
     ⟨"RSHIFT", 4, 0, .rw, true, []⟩], false⟩,
  ⟨"CHP_RDC_HIST", 0x8000ec, [(1024, 1024)], fun _ => 0,
    [⟨"HSHIFT", 31, 27, .rw, true, []⟩,
     ⟨"HLOG2", 26, 22, .rw, true, []⟩], false⟩,
  ⟨"CHP_ROUTE", 0x8000f0, [(1024, 1024)], fun _ => 0,
    [⟨"PQ_EN", 31, 31, .rw, true, []⟩,
     ⟨"PQUEUE", 29, 16, .rw, true, []⟩,
     ⟨"VQ_EN", 15, 15, .rw, true, []⟩,
     ⟨"VQUEUE", 13, 0, .rw, true, []⟩], false⟩,
  ⟨"CHP_FPD_CNT", 0x8000f4, [(1024, 1024)], fun _ => 0,
    [⟨"V", 31, 0, .clr, false, []⟩], false⟩]

/-- The registers of the CHPB block. -/
def regsChpb : List RegRow := [
  ⟨"CHP_GRP_RES_B", 0x900300, [], fun _ => 0,
    [⟨"REFUSED", 31, 16, .ro, false, []⟩,
     ⟨"ACCEPTED", 15, 0, .ro, false, []⟩], false⟩,
  ⟨"CHP_GRP_RES_D", 0x910300, [(64, 1024)], fun _ => 0,
    [⟨"REFUSED", 31, 16, .ro, false, []⟩,
     ⟨"ACCEPTED", 15, 0, .ro, false, []⟩], false⟩,
  ⟨"CHP_DMEM", 0x910380, [(64, 1024), (32, 4)], fun _ => 0,
    [⟨"V", 31, 0, .rw, false, []⟩], false⟩]

/-- The registers of the BFM block. -/
def regsBfm : List RegRow := [
  ⟨"BFM_CTL", 0xa00000, [], fun _ => 0,
    [⟨"COMMIT", 0, 0, .sc, false, []⟩], false⟩,
  ⟨"BFM_RANGE", 0xa00004, [], fun _ => 0,
    [⟨"LAST", 27, 16, .rw, false, []⟩,
     ⟨"FIRST", 11, 0, .rw, false, []⟩], false⟩,
  ⟨"BFM_STAT", 0xa00008, [], fun _ => 0,
    [⟨"CODE", 31, 24, .ro, false, []⟩,
     ⟨"BEAM", 23, 12, .ro, false, []⟩], false⟩,
  ⟨"BFM_CAP", 0xa0000c, [], fun _ => 40000,
    [⟨"V", 31, 0, .ro, false, []⟩], false⟩,
  ⟨"BFM_LOAD", 0xa00010, [], fun _ => 0,
    [⟨"V", 31, 0, .ro, false, []⟩], false⟩,
  ⟨"BFM_ARRAY", 0xa00100, [(17, 4)], fun x => (if (x.getD 0 0) = 16 then 0x40000000 else 0),
    [⟨"STATE", 31, 30, .ro, false, []⟩], false⟩,
  ⟨"BFM_DESC_W0", 0xa10000, [(4096, 32)], fun _ => 0,
    [⟨"EN", 31, 31, .rw, true, []⟩,
     ⟨"ISET", 27, 20, .rw, true, []⟩,
     ⟨"EXCL", 19, 16, .rw, true, []⟩,
     ⟨"WPAGE", 15, 0, .rw, true, []⟩], false⟩,
  ⟨"BFM_DESC_W1", 0xa10004, [(4096, 32)], fun _ => 0,
    [⟨"CH_COUNT", 31, 17, .rw, true, []⟩,
     ⟨"CH_FIRST", 13, 0, .rw, true, []⟩], false⟩,
  ⟨"BFM_DESC_W2", 0xa10008, [(4096, 32)], fun _ => 0,
    [⟨"GLOG2", 31, 28, .rw, true, []⟩,
     ⟨"BSHIFT", 27, 22, .rw, true, []⟩,
     ⟨"RND", 21, 20, .rw, true, [(3, 3)]⟩,
     ⟨"VQ_EN", 15, 15, .rw, true, []⟩,
     ⟨"VQUEUE", 13, 0, .rw, true, []⟩], false⟩,
  ⟨"BFM_DESC_W3", 0xa1000c, [(4096, 32)], fun _ => 0,
    [⟨"PQ_EN", 15, 15, .rw, true, []⟩,
     ⟨"PQUEUE", 13, 0, .rw, true, []⟩], false⟩,
  ⟨"BFM_DESC_W4", 0xa10010, [(4096, 32)], fun _ => 0,
    [⟨"CIN_EN", 31, 31, .rw, true, []⟩,
     ⟨"CIN_SHEET", 30, 25, .rw, true, []⟩,
     ⟨"CIN_ID", 24, 13, .rw, true, []⟩,
     ⟨"CIN_SHIFT", 12, 8, .rw, true, []⟩,
     ⟨"CHAIN_WAIT", 7, 0, .rw, true, []⟩], false⟩,
  ⟨"BFM_DESC_W5", 0xa10014, [(4096, 32)], fun _ => 0,
    [⟨"COUT_EN", 31, 31, .rw, true, []⟩,
     ⟨"COUT_SHEET", 30, 25, .rw, true, []⟩,
     ⟨"COUT_ID", 24, 13, .rw, true, []⟩], false⟩,
  ⟨"BFM_DESC_W6", 0xa10018, [(4096, 32)], fun _ => 0,
    [⟨"MODE", 31, 30, .rw, true, [(3, 3)]⟩,
     ⟨"RQ", 29, 28, .rw, true, []⟩,
     ⟨"HIST", 27, 27, .rw, true, []⟩,
     ⟨"EXCL", 26, 23, .rw, true, []⟩,
     ⟨"ILOG2", 22, 18, .rw, true, [(21, 31)]⟩,
     ⟨"PFMT", 17, 16, .rw, true, [(2, 3)]⟩,
     ⟨"PSHIFT", 15, 10, .rw, true, []⟩], false⟩,
  ⟨"BFM_DESC_W7", 0xa1001c, [(4096, 32)], fun _ => 0,
    [⟨"GAIN", 31, 16, .rw, true, []⟩,
     ⟨"GTAB", 15, 10, .rw, true, []⟩,
     ⟨"RSHIFT", 4, 0, .rw, true, []⟩], false⟩,
  ⟨"BFM_ISET", 0xa30000, [(256, 128), (32, 4)], fun _ => 0,
    [⟨"V", 31, 0, .rw, true, []⟩], false⟩,
  ⟨"BFM_BSTAT0", 0xa40000, [(4096, 16)], fun _ => 0,
    [⟨"STATE", 31, 30, .ro, false, []⟩,
     ⟨"GAP_SEEN", 29, 29, .w1c, false, []⟩,
     ⟨"SAT_SEEN", 28, 28, .w1c, false, []⟩,
     ⟨"SHED", 27, 27, .w1c, false, []⟩,
     ⟨"USED_MIN", 10, 0, .ro, false, []⟩], false⟩,
  ⟨"BFM_CHAIN_LATE", 0xa40004, [(4096, 16)], fun _ => 0,
    [⟨"V", 31, 0, .clr, false, []⟩], false⟩,
  ⟨"BFM_GAPS_LO", 0xa40008, [(4096, 16)], fun _ => 0,
    [⟨"V", 31, 0, .ro, false, []⟩], true⟩,
  ⟨"BFM_GAPS_HI", 0xa4000c, [(4096, 16)], fun _ => 0,
    [⟨"V", 31, 0, .ro, false, []⟩], false⟩,
  ⟨"BFM_BSAT", 0xa50000, [(4096, 4)], fun _ => 0,
    [⟨"V", 31, 0, .clr, false, []⟩], false⟩]

/-- The registers of the MSIX block. -/
def regsMsix : List RegRow := [
  ⟨"MSIX_MOD", 0x2000c000, [(32, 0x100000000), (2048, 4)], fun _ => 0,
    [⟨"MIN_US", 15, 0, .rw, false, []⟩], false⟩]

/-- The indices of a key in a family: the offset from the base taken apart by the strides, `none` outside it. -/
def dimsIndex : List (Nat × Nat) → Nat → Option (List Nat)
  | [], 0 => some []
  | [], _ + 1 => none
  | (n, st) :: ds, o =>
    if o / st < n then (dimsIndex ds (o % st)).map (o / st :: ·)
    else none

/-- The register families of the block that an offset of BAR0 lies in (R717). -/
def blockRows (off : Nat) : List RegRow :=
  match off / 0x10000 with
  | 0x0 => regsSys0 ++ regsSys1
  | 0x1 => regsPwr
  | 0x2 => regsClk
  | 0x3 => regsTb0 ++ regsTb1
  | 0x4 => regsTim
  | 0x5 => regsEvt
  | 0x6 => regsLog
  | 0x7 => regsCmd
  | 0x8 => regsBrg
  | 0x9 => regsCal
  | 0xA => regsArb
  | 0xB => regsPlt
  | 0xC => regsQue
  | 0xD => regsCmp
  | 0xE => regsTrg
  | 0xF => regsGaz
  | 0x10 => regsRed
  | 0x11 => regsEth
  | 0x12 => regsMgb
  | 0x13 => regsSfe
  | 0x14 => regsPcv
  | b =>
    if b < 0x20 then []
    else if b < 0x30 then regsCnv
    else if b < 0x40 then regsLne
    else if b < 0x80 then regsSpx
    else if b < 0x90 then regsChp0 ++ regsChp1
    else if b < 0xA0 then regsChpb
    else if b < 0x1000 then regsBfm
    else regsMsix

/-- The family and the indices of a register key; `none` for a reserved address (R508). -/
def regAt (key : Nat) : Option (RegRow × List Nat) :=
  (blockRows (key % 2 ^ 32)).findSome? (fun r =>
    if key < r.base then none else (dimsIndex r.dims (key - r.base)).map (fun x => (r, x)))

/-- The register of a key, with the reset value of its place in the map. -/
def regOfKey (key : Nat) : Option Reg := (regAt key).map (fun p => ⟨key, p.1.reset p.2⟩)

end Sys2Proof.Machine
end

