-- ==== Sys2Proof/Machine/Map.lean ====
section
/-! DEFINITION. Sparse tables: a list of (key, value) pairs in one canonical form, with strictly rising keys and
no entry equal to the value an unlisted key reads as. Every register file, table and memory of the model is one. -/
namespace Sys2Proof.Machine

/-- A sparse table from numbers to values. -/
abbrev SMap (α : Type) := List (Nat × α)

/-- The value at key `k`; `d` where nothing is listed. -/
def mapGet {α : Type} (d : α) (k : Nat) : SMap α → α
  | [] => d
  | (j, v) :: m => if j = k then v else mapGet d k m

/-- Remove the entry of key `k`. -/
def mapErase {α : Type} (k : Nat) : SMap α → SMap α
  | [] => []
  | (j, v) :: m => if j = k then mapErase k m else (j, v) :: mapErase k m

/-- List the value `v` at key `k`, at its place in key order. -/
def mapInsert {α : Type} (k : Nat) (v : α) : SMap α → SMap α
  | [] => [(k, v)]
  | (j, w) :: m =>
    if j = k then (k, v) :: m else if k < j then (k, v) :: (j, w) :: m else (j, w) :: mapInsert k v m

/-- Write `v` at key `k`: writing the default `d` removes the entry, so equal tables are equal lists. -/
def mapPut {α : Type} [DecidableEq α] (d : α) (k : Nat) (v : α) (m : SMap α) : SMap α :=
  if v = d then mapErase k m else mapInsert k v m

/-- The keys rise strictly and are all above `lo` (none below it where `lo` is absent). -/
def keysRise {α : Type} : Option Nat → SMap α → Bool
  | _, [] => true
  | none, (j, _) :: m => keysRise (some j) m
  | some lo, (j, _) :: m => decide (lo < j) && keysRise (some j) m

/-- The canonical form of a sparse table whose unlisted keys read as `d`. -/
def mapWf {α : Type} [DecidableEq α] (d : α) (m : SMap α) : Bool :=
  keysRise none m && m.all (fun e => decide (e.2 ≠ d))

end Sys2Proof.Machine
end

