-- ==== Sys2Proof/Machine/State.lean ====
section
/-! DEFINITION. The state of the hub as plain data, the reasons a command can stop, and the state after a power-on
reset. Every register of BAR0 stands in `regs` (Machine/Regs.lean says what an unlisted register reads); the records
below hold the rest. Meridian times are whole counts of 2^-16 ns (R48). -/
namespace Sys2Proof.Machine

/-- Reasons a run stops with a fault. No command of this model raises one: every command has an effect. -/
inductive Fault where
  /-- Raised by nothing (safe): kept so that the type is not empty. -/
  | none
  deriving DecidableEq, Repr

/-- Reasons a command is refused. -/
inductive Refusal where
  /-- Raised by the dispatch for a command without a meaning yet (safe). -/
  | notModelled (mnemonic : String)
  deriving DecidableEq, Repr

/-! ## Time base (chapter 02) -/

/-- A slew in progress (R60): signed amount in 2^-16 ns, rate in ppb, the amount left at the last re-anchoring, and
whether `TB_ADJ_AMT` reads the remainder (until it is next written). -/
structure Slew where
  amount : Int
  ppb : Nat
  left : Int
  shown : Bool := true
  deriving DecidableEq, Repr

/-- The time base: free count, parameter set (R50), ageing fraction (R53), slew, discipline and holdover, and the phase error that
the selected source showed last, less what the servo has corrected since (R63, R66). -/
structure TimeBase where
  locked : Bool := false
  fc : Nat := 0
  offset : Int := 0
  anchor : Nat := 0
  rate : Int := 0
  ageFrac : Nat := 0
  folds : Nat := 0
  atLimit : Bool := false
  slew : Option Slew := none
  lastTrace : Int := 0
  holdTrace : Int := 0
  holdActed : Bool := false
  qualRun : Nat := 0
  ppsLast : Option Int := none
  ppsOff : Nat := 0
  ppsOffLast : Int := 0
  ref10mRun : Nat := 0
  tracedHub : Option Nat := none
  phaseErr : Option Int := none
  deriving DecidableEq, Repr

/-- One transmit time stamp (R79): port, messageType, sequenceId, transmit Meridian time. -/
structure TxStamp where
  port : Nat
  msgType : Nat
  seqId : Nat
  mt : Int
  deriving DecidableEq, Repr

/-! ## Events and the logbook (chapter 23) -/

/-- A value of an event's DETAIL (R605): 4 bytes, 8 bytes, or a Meridian time of 12 bytes. -/
inductive Detail where
  | w4 (v : Int)
  | w8 (v : Int)
  | mt (t : Int)
  deriving DecidableEq, Repr

/-- An event record (R605) without its sequence and check word. -/
structure EvRec where
  src : Nat
  code : Nat
  inst : Nat
  borough : Nat
  flags : Nat
  first : Int
  last : Int
  reps : Nat
  detail : List Detail
  deriving DecidableEq, Repr

/-- A record that waits in the router for its event queue (R609), with the vector that falls due after it. -/
structure RouterItem where
  borough : Nat
  item : EvRec
  vec : Option Nat
  deriving DecidableEq, Repr

/-- An open coalescing window (R610): its key, its end, and what it has counted. -/
structure EvWindow where
  borough : Nat
  src : Nat
  code : Nat
  inst : Nat
  ends : Int
  count : Nat
  item : EvRec
  deriving DecidableEq, Repr

/-- An item of the event staging queue (R616). -/
structure StageItem where
  item : EvRec
  level : Nat
  mandatory : Bool
  deriving DecidableEq, Repr

/-- A logbook slot (R614): sequence, record, and whether its MARK matches (R617). -/
structure LogSlot where
  seq : Nat
  item : EvRec
  valid : Bool
  deriving DecidableEq, Repr

/-- The logbook and its clear key and challenge (R614 to R623). -/
structure Logbook where
  slots : List LogSlot := []
  key : Option (List Byte) := none
  nonce : Option (List Byte × Int) := none
  stageRun : Bool := false
  fullSeen : Bool := false
  deriving DecidableEq, Repr

/-! ## Functions, vectors and correlation (chapter 18) -/

/-- What the hub holds for one PCIe function: presence, Bus Master Enable, MSI-X Enable and Function Mask, PTM Enable,
pair latch and pair holding register (R507), the time of the last ACCESS_RESERVED (R508). -/
structure Func where
  present : Bool := true
  bme : Bool := false
  msixEn : Bool := false
  fmask : Bool := false
  ptmEn : Bool := false
  latch : Option (Nat × Word) := none
  held : Option (Nat × Word) := none
  accRaised : Option Int := none
  deriving DecidableEq, Repr

/-- An MSI-X vector (R511, R512): table entry, pending bit, a message waiting for moderation, and its interval's end. -/
structure Vec where
  addr : Nat := 0
  data : Nat := 0
  masked : Bool := true
  pba : Bool := false
  waiting : Bool := false
  busyTo : Option Int := none
  deriving DecidableEq, Repr

/-- A PTM dialog that waits for its response (R510): MT and time status at t1. -/
structure PtmDialog where
  mt1 : Int
  state : Nat
  deriving DecidableEq, Repr

/-! ## Staged changes (chapter 01) -/

/-- A unit that holds staged changes (R33). -/
inductive UnitId where
  | slot (n : Nat)
  | beam (b : Nat)
  | fe
  | input (i : Nat)
  deriving DecidableEq, Repr

/-- What a staged change does at its boundary besides putting fields in force. -/
inductive StagedOp where
  | fields
  | bind
  | unbind
  | restart
  deriving DecidableEq, Repr

/-- A staged value: the bits `mask` of the register `key` take those bits of `val`. -/
structure SVal where
  key : Nat
  mask : Nat
  val : Nat
  deriving DecidableEq, Repr

/-- A change staged on one unit (R29 to R33): grid and grid index of its boundary, the word that names its action, the
values it puts in force, and its operation. -/
structure Staged where
  unit : UnitId
  grid : Nat
  index : Nat
  action : Nat
  vals : List SVal
  op : StagedOp
  deriving DecidableEq, Repr

/-! ## Command engine (chapter 19) -/

/-- A tag entry (R528); FREE entries are not listed. -/
inductive TagEntry where
  | free
  | busy (gen : Nat)
  | done (gen : Nat) (reply : List Word)
  deriving DecidableEq, Repr

/-- Envelope counters of a borough (R526): the highest accepted, which of the last 64 were, the reply counter. -/
structure EnvCtr where
  high : Nat := 0
  seen : List Nat := []
  reply : Nat := 1
  deriving DecidableEq, Repr

/-- A command ring pair (R523 to R525): doorbell values, packets taken and not replied, the slots announced and not taken
yet (one packet each: opcode and packet), the replies that wait for room in the completion ring, and how many of them, the first
ones, are written into the completion ring queue. -/
structure CRing where
  pi : Nat := 0
  cplCi : Nat := 0
  taken : Nat := 0
  waiting : List (Nat × Packet) := []
  replies : List (List Word) := []
  queued : Nat := 0
  deriving DecidableEq, Repr

/-- An accepted command whose reply is still to come (R522): opcode, packet, reply path, its action word, the boundary
it waits for (grid 8 while it has none), its own result, and the status its reply will carry. -/
structure OpenCmd where
  op : Nat
  pkt : Packet
  action : Nat
  grid : Nat
  index : Nat
  result : List Word
  status : Nat := 0
  deriving DecidableEq, Repr

/-! ## What the hub sends out -/

/-- One thing the hub sends, newest first in `State.out`. -/
inductive Output where
  /-- A completed register or table read: function, BAR0 offset, bytes. -/
  | readDone (fn off : Nat) (data : List Byte)
  /-- Completer Abort (R506). -/
  | completerAbort (fn : Nat)
  /-- Unsupported Request (R492). -/
  | unsupported (fn : Nat)
  /-- An MSI-X message (R512). -/
  | msix (fn vec : Nat)
  /-- A status reply on its path (R521). -/
  | reply (path : Path) (words : List Word)
  /-- A reply in an envelope (R526). -/
  | envelope (path : Path) (bytes : List Byte)
  /-- A write to host memory through a function. -/
  | hostWrite (fn addr : Nat) (data : List Byte)
  /-- A UDP datagram on an Ethernet port: the address and port table entries that it is sent with, its UDP ports, DSCP, checksum
  and payload (R478, R483). -/
  | udp (port : Nat) (addr src : List Byte) (sport dport dscp check : Nat) (data : List Byte)
  /-- A port begins or ceases to send remote fault (R474). -/
  | remoteFault (port : Nat) (on : Bool)
  /-- An Ethernet frame of the host transmit path (R481). -/
  | frame (port : Nat) (data : List Byte)
  /-- A Spaxa block on a physical lane, symbol by symbol (R440, R441). -/
  | block (sheet lane : Nat) (symbols : List Nat)
  /-- A Spaxa training set on a physical lane (R445). -/
  | training (sheet lane : Nat) (data : List Byte)
  /-- A transaction on a management bus (R690, R692, R693): bus, target address, whether it carries a PEC byte, the bytes written
  and how many bytes are read. -/
  | mgBus (bus addr : Nat) (pec : Bool) (data : List Byte) (reads : Nat)
  /-- A generator starts its test pattern (R428, R430): its first 64 bits, first bit first, and `INJ_LOG2`. -/
  | pattern (sheet lane first64 injLog2 : Nat)
  /-- One transmitted test-pattern bit is inverted (R430). -/
  | bitInvert (sheet lane : Nat)
  deriving DecidableEq, Repr
/-! ## Slots and beams (chapters 05 to 07) -/

/-- A sample with its flags in the layout of R35: 0 BLANKED, 1 UNSETTLED, 2 SATURATED, 3 DEAD, 4 GAP, 5 CAL. -/
structure Smp where
  re : Int := 0
  im : Int := 0
  flags : Nat := 0
  deriving DecidableEq, Repr

/-- A spectrum of the selected channels (R219): its label, values and flags, the first channel that it holds, and the step M
of its channeliser. -/
structure Spectrum where
  j : Nat
  vals : List (Int × Int)
  flags : Nat
  first : Nat := 0
  step : Nat := 1
  deriving DecidableEq, Repr

/-- A voltage item in progress (R239): first index, indices so far, payload, flags, least members used, and the grants
that copy it (R565). -/
structure VItem where
  first : Nat
  n : Nat
  data : List Byte
  flags : Nat
  used : Nat
  dests : List Nat
  deriving DecidableEq, Repr

/-- An integration in progress (R236): its index, its first channel, S1 and S2 by channel, spectra used, the flags of the
used and of the excluded spectra, the least members used, and the grants that copy it. -/
structure Integ where
  i : Nat
  chFirst : Nat
  s1 : List Nat
  s2 : List Nat
  used : Nat
  flagsUsed : Nat
  flagsOut : Nat
  least : Nat
  dests : List Nat
  deriving DecidableEq, Repr

/-- A histogram in progress (R237): its index, the real and the imaginary bins, whether a count saturated, flags, and the
grants that copy it. -/
structure Histo where
  h : Nat
  re : List Nat
  im : List Nat
  sat : Bool
  flags : Nat
  dests : List Nat
  deriving DecidableEq, Repr

/-- What the output path of a slot or beam holds (R236 to R240). -/
structure OutPath where
  volt : Option VItem := none
  integ : Option Integ := none
  histo : Option Histo := none
  vseq : Nat := 0
  pseq : Nat := 0
  deriving DecidableEq, Repr

/-- A unit on its way to its queue (R239): bytes, first and last index, its kind (0 item, 1 raw tile, 2 other,
3 record tile, 4 raw tile whose samples its queue's allowance has taken one by one), and the
placeholders that stand before it, where it is the first unit after a gap (R368); for a
capture, its sequence and the bytes of its tiles, which stay where they are (R310); for an event record, the vector of
physical function 0 that falls due once it is written (R608). -/
structure ReadyItem where
  queue : Nat
  bytes : List Byte
  first : Nat
  last : Nat
  kind : Nat := 0
  gap : Option (Nat × Nat) := none
  capture : Option Nat := none
  linked : List Byte := []
  vec : Option Nat := none
  deriving DecidableEq, Repr

/-- A frame boundary that the output of a running slot has still to reach (R29, R168, R172, R215): its grid index, the frame
that begins there, the time status, `COARSE` and tracking state that held at its instant, whether a frame record follows, the
offset with which the slot enters FIXED there (R214), the changes that take effect there, and whether their fields at the intake
and those along the front stages are in force already, with the group delay that resulted. -/
structure SlotMark where
  k : Nat
  frame : Nat
  tstate : Nat
  coarse : Nat
  track : Nat
  record : Bool
  fix : Option Int
  changes : List Staged
  intake : Bool := false
  chain : Bool := false
  gd : Option Nat := none
  deriving DecidableEq, Repr

/-- What the hub holds of a slot besides its registers: whether it counts as bound to a grid (R719), the grid of its output, whether
a bind (1) or an unbind (2) waits, and the grid of a bind that waits; whether its output runs, its source as `CHP_SRC` held it at the bind, the instant of its
first sample (2^-48 ns), whether its intake has ended, the boundaries that its output has still to reach, and the intake samples
that wait for a restart (source index, instant); the index of the latest source sample; the histories of the front stages
(newest first), the chain outputs by index, the group delay that the resampler compensates, its position, gap run and grid
samples, the channeliser's spectra, the output path and the fast power detector. -/
structure Slot where
  on : Bool := false
  grid : Nat := 0
  waits : Nat := 0
  bindGrid : Nat := 0
  run : Bool := false
  src : Nat := 0
  start : Int := 0
  ended : Bool := false
  marks : List SlotMark := []
  held : List (Nat × Int × Smp) := []
  lastI : Option Nat := none
  gd : Nat := 0
  rangeLost : Bool := false
  since : Nat := 0
  line : List Smp := []
  lines : List (List Smp) := [[], [], [], [], []]
  outs : List (Nat × Smp) := []
  firstM : Option Nat := none
  resumed : Bool := false
  nextK : Nat := 0
  pos : Int := 0
  posVer : Option Nat := none
  setM : Option Int := none
  gapFrom : Option Nat := none
  frameGaps : Nat := 0
  satAt : Option Int := none
  patIdx : Nat := 0
  prbs : Nat := 32767
  gs : List (Nat × Smp) := []
  chanFrom : Nat := 0
  coefFrom : Option Nat := none
  nextJ : Nat := 0
  spectra : List Spectrum := []
  path : OutPath := {}
  fpd : List Nat := []
  fpdArmed : Bool := true
  lockOfs : Int := 0
  deriving DecidableEq, Repr

/-- A beam spectrum that waits (R233): its exact local sums, flags and members used, when its wait ends, and its
outcome: the chained partial's values and flags, or GAP. -/
structure BeamWait where
  j : Nat
  sums : List (Int × Int)
  flags : Nat
  used : Nat
  ends : Int
  parts : Option (List (Int × Int) × Nat)
  gap : Bool
  deriving DecidableEq, Repr

/-- A frame boundary that the output of a running beam has still to reach (R29, R215, R230): its grid index, the frame that begins
there, the time status and `COARSE` that held at its instant, whether a frame record follows, and the changes that take effect
there. -/
structure BeamMark where
  k : Nat
  frame : Nat
  tstate : Nat
  coarse : Nat
  record : Bool
  changes : List Staged
  deriving DecidableEq, Repr

/-- What the hub holds of a beam besides its registers: whether it is in force; whether its output runs, the boundaries that the
output has still to reach, the grid of the output, its members in rank order and their channeliser structure; the members that
have left (R232) and from which grid index each left or rejoined; the next spectrum to sum, the spectra that wait, whether a
run of CHAIN_GAP is open, its output path, the frame's least members used and CHAIN_GAP spectra (R240), and whether it
writes no items any longer (R578). -/
structure Beam where
  on : Bool := false
  run : Bool := false
  marks : List BeamMark := []
  grid : Nat := 0
  members : List Nat := []
  chan : List Nat := []
  left : List Nat := []
  leaves : List (Nat × Nat × Bool) := []
  nextJ : Nat := 0
  waits : List BeamWait := []
  gapRun : Bool := false
  path : OutPath := {}
  frameUsed : Option Nat := none
  frameGaps : Nat := 0
  mute : Bool := false
  deriving DecidableEq, Repr

/-- A partial beam sum that waits in the chain buffer for the local sum of its beam (R233, R456). -/
structure Partial where
  beam : Nat
  j : Nat
  sums : List (Int × Int)
  flags : Nat
  deriving DecidableEq, Repr

/-- A flit that waits to be sent on a sheet (R444, R463, R466): its `TYPE`, stream, unit marks and payload, and the
queue whose bytes it carries. -/
structure TxFlit where
  type : Nat
  stream : Nat
  first : Bool
  last : Bool
  data : List Byte
  queue : Option Nat := none
  deriving DecidableEq, Repr

/-- A MAC array that leaves service at the next frame boundary of each grid listed (R235), by policy or by command. -/
structure BmacSwap where
  array : Nat
  grids : List Nat
  policy : Bool
  deriving DecidableEq, Repr

/-- A node stream (R464, R465): its latest declaration (index, Meridian time, period in 2^-48 ns, next declaration,
format, node time status), the next index expected, and whether its declaration is missing. -/
structure NodeStream where
  declared : Bool := false
  nd : Nat := 0
  mt : Int := 0
  period : Nat := 0
  nextN : Nat := 0
  format : Nat := 0
  tstate : Nat := 0
  next : Nat := 0
  missing : Bool := false
  deriving DecidableEq, Repr


/-- An assertion of a BLANK line (R176) or a drive of a signal output (R177): from, and to once it has ended. -/
structure Span where
  from_ : Int
  to_ : Option Int
  deriving DecidableEq, Repr
/-! ## Time-interval measurement (chapter 03) -/

/-- A TDC core (R121, R130): calibrated bin centres (none: equal bins), whether its run was started by `TIM_CAL_CTL`,
and whether its die temperature has left the window of R133. -/
structure TdcCore where
  centres : List Nat := []
  byCtl : Bool := false
  drifted : Bool := false
  deriving DecidableEq, Repr

/-- A substitution of a TDC core that waits for its calibration (R134): logical core, spare, and by which policy. -/
structure TdcSwitch where
  logical : Nat
  spare : Nat
  byPolicy : Bool
  deriving DecidableEq, Repr

/-- An edge input (R127, R128): the position of the last accepted edge in fifths of 2^-16 ns of the free count and the hold-off
under which it was captured, when EDGE_MISSED was last raised, and the settings before the latest write made while the input was
enabled, with the free count of that write. -/
structure EdgeIn where
  last : Option Nat := none
  hold : Nat := 0
  missRaised : Option Int := none
  before : Option (Nat × Nat) := none
  deriving DecidableEq, Repr

/-- An edge tag (R126): word 0 without its fraction, and the Meridian time. -/
structure EdgeTag where
  head : Nat
  mt : Int
  deriving DecidableEq, Repr

/-- A frequency counter's gate in progress (R136): source and length in force, start, edges, first and last tag, whether an edge was
`COARSE`, and whether the last one was. -/
structure FreqGate where
  src : Nat
  gate : Nat
  start : Int
  n : Nat
  first : Int
  last : Int
  coarse : Bool
  lastCo : Bool
  deriving DecidableEq, Repr

/-- A snapshot of a monitor queue (R388): its eight words. -/
abbrev Snapshot := List Word

/-- A pop that stalls on an empty post queue (R384): queue, function, and the phase-clock tick at which it reached the queue. -/
structure PopWait where
  queue : Nat
  fn : Nat
  at_ : Nat := 0
  deriving DecidableEq, Repr

/-! ## Spares and power (chapter 24) -/

/-- Once-only bookkeeping of spares and domains: parts reported exhausted (class, part), classes warned of, and domains
with a run of refusals open. -/
structure SpareBook where
  exhausted : List (Nat × Nat) := []
  warned : List Nat := []
  refusing : List Nat := []
  domAt : List (Nat × Option Int) := []
  deriving DecidableEq, Repr
/-! ## Converter groups and inputs (chapter 04), instant estimators (chapter 06) -/

/-- The instant estimator of a group (R200 to R203): CG edges since the sample counter began, the tags of the fit (edge
number, Meridian time), the model (instant tau of sample nTau and the sample period, in 2^-48 ns), counts of residuals,
the latest 256 residuals (2^-48 ns), when a coast began, a version that moves with every update of the model, and
`COAST_MAX` and `BW` in force (R203). -/
structure Estimator where
  edges : Nat := 0
  fit : List (Nat × Int) := []
  fitted : Bool := false
  tau : Int := 0
  period : Int := 0
  nTau : Nat := 0
  good : Nat := 0
  bad : Nat := 0
  resid : List Int := []
  coastFrom : Int := 0
  version : Nat := 0
  coastMax : Nat := 50
  bw : Nat := 1
  deriving DecidableEq, Repr

/-- A converter group: its reference buffer and when it was enabled, whether samples flow, whether the survey stops after its
step, the start and the effective dwell (ms) of that step (R152); in locked mode (R149) the offsets of the latest 1,000 CG tags,
the mean that holds lock, the tags in a row that depart from it (2^-48 ns) and the steering term (2^-24 of REFCLK); and its
estimator. -/
structure Group where
  refOn : Bool := false
  refAt : Int := 0
  flowing : Bool := false
  surveyStop : Bool := false
  stepAt : Int := 0
  dwell : Nat := 0
  lockTags : List Int := []
  lockMean : Int := 0
  lockBad : Nat := 0
  steer : Int := 0
  est : Estimator := {}
  deriving DecidableEq, Repr

/-- A wideband input: the interleave phase of each slice (16: none), the accepted unheld steps in a row, whether it joined the
survey within the step in progress, and the instant of the latest change of its enable with the enable before it (R159). -/
structure Inp where
  phases : List Nat := List.range 17
  run : Nat := 0
  fresh : Bool := false
  enAt : Int := 0
  enWas : Bool := true
  deriving DecidableEq, Repr
/-! ## Structure front end (chapter 08) and trim (chapter 09) -/

/-- An urgent request (R262): channel, averaging, its maker (0 register, 1 trigger, 2 command) and that command's action
word. -/
structure UrgReq where
  ch : Nat
  avg : Nat
  src : Nat
  action : Nat
  redone : Bool := false
  blanked : Bool := false
  deriving DecidableEq, Repr

/-- An entry in progress (R259, R263): list position (255 urgent), channel, averaging, start, whether it was aborted in this
cycle, its REDONE and BLANKED marks, its maker, and what stood as it started: the slot length, the channel's word, and the user
correction of its converter (R261, R292). -/
structure PcvRun where
  entry : Nat
  ch : Nat
  avg : Nat
  start : Int
  aborted : Bool
  redone : Bool
  blanked : Bool
  src : Nat := 0
  action : Nat := 0
  slot : Nat := 0
  cfg : Nat := 0
  cor : Int × Int := (0, 0)
  deriving DecidableEq, Repr

/-- A precision converter's sequencer (R258 to R264): the next cycle's grid index, the cycles begun (grid indices, the latest first,
as far back as a result or a pause in progress reaches), the cycle exponent and a change of it that waits, the latched slot length, entries and channel words, the entries to run
(position, REDONE, BLANKED, aborted), the entry in progress, urgent requests waiting and on their way, the record
sequence, bad mid-scale checks in a row with the second of the latest check, and whether the converter leaves service at the next
cycle (by policy or not). -/
structure Pcv where
  nextK : Nat := 0
  cycles : List Nat := []
  dlog2 : Nat := 0
  change : Option (Nat × Nat) := none
  slot : Nat := 0
  list : List Nat := []
  chans : List Nat := []
  todo : List (Nat × Bool × Bool × Bool) := []
  cur : Option PcvRun := none
  urg : List UrgReq := []
  reqs : List UrgReq := []
  seq : Nat := 0
  midBad : Nat := 0
  midSec : Option Int := none
  leaving : Option Bool := none
  deriving DecidableEq, Repr

/-- A structure channel: whether OVERRANGE has been raised, entries in a row out of and inside the window, the latest
qualifying result (instant, engineering value), and the changes of its coefficients, the latest first: the instant and the
coefficients before it (R270). -/
structure SfeCh where
  ovr : Bool := false
  outRun : Nat := 0
  inRun : Nat := 0
  latest : Option (Int × Nat) := none
  lins : List (Int × List Nat) := []
  deriving DecidableEq, Repr

/-- An excitation output: bad and good sense measurements in a row, its enables and range switches, the latest first (R252), and
when its ramp began (R249). -/
structure Exc where
  bad : Nat := 0
  good : Nat := 0
  steps : List Int := []
  rampFrom : Int := 0
  deriving DecidableEq, Repr

/-- A front-end change that waits for ranges to settle (R251): action, values, activation time, outputs still settling, the grid
where the change is a bind, and what goes into the shadows once it is staged. -/
structure FeWait where
  action : Nat
  vals : List SVal
  act : Option Int
  outs : List Nat
  bind : Option Nat := none
  shadow : List SVal := []
  deriving DecidableEq, Repr

/-- A pause of the front end (R267): start, lines that asserted, when the last selected line was released. -/
structure Pause where
  start : Int
  lines : Nat
  release : Int
  deriving DecidableEq, Repr

/-- What the front end holds besides its registers: when the reference was enabled and when it became OK, the pause in
progress, when BLANK_PAUSE was last raised, commits that wait for settling, and the staged instant of a bind or unbind. -/
structure Fe where
  refFrom : Int := 0
  refOkAt : Option Int := none
  pause : Option Pause := none
  pauseRaised : Option Int := none
  waits : List FeWait := []
  deriving DecidableEq, Repr

/-- A copy of a trim page in MRAM (R280, R281): sequence, seconds of the write (none: as made), whether it passes, and the
payload words that differ from the factory contents. -/
structure TrimCopy where
  seq : Nat := 1
  written : Option Nat := none
  ok : Bool := true
  words : SMap Word := []
  deriving DecidableEq, Repr

/-- A write of an MRAM copy in progress (R289, R292, R293, R270): the thing written (0 user page, 1 repair, 2 coefficients
of a channel), page or channel, copy, whether it is the retry, the copy's contents, and the command that waits. -/
structure NvmJob where
  kind : Nat
  page : Nat
  copy : Nat
  retry : Bool
  data : TrimCopy
  action : Nat
  act : Option Int := none
  deriving DecidableEq, Repr

/-- A user measurement in progress (R291): converter, gain code, output, averaging, slot length, its command, and when it began. -/
structure CalMeas where
  conv : Nat
  gain : Nat
  exc : Nat
  avg : Nat
  slot : Nat
  action : Nat
  start : Int := 0
  deriving DecidableEq, Repr

/-! ## Plots, queues and tiles (chapters 11 and 12) -/

/-- A plot that is not as made (R349, R372): the cadastre's `STATE`, `KIND`, `OWNER`, `BOROUGH` and `FILL`, whether it was
granted from the escape reserve, whether it is failing, whether a command or a standing policy that stood as the fault was found is to
retire it (R43), and its corrected errors in the present hour. -/
structure Plot where
  state : Nat := 0
  kind : Nat := 0
  owner : Nat := 0
  borough : Nat := 0
  fill : Nat := 0
  esc : Bool := false
  weak : Bool := false
  leave : Bool := false
  pol : Bool := false
  errs : Nat := 0
  hour : Int := 0
  deriving DecidableEq, Repr

/-- A visible unit that is not fully read: its bytes, how many of them lie in the queue's own chain, the capture whose
held tiles the others are, and its first and last index. -/
structure VisUnit where
  bytes : List Byte
  chained : Nat
  capture : Option Nat := none
  first : Nat := 0
  last : Nat := 0
  deriving DecidableEq, Repr

/-- A record-mode tile in progress (R334): its bytes newest first, when its first byte came, its place in the stream, and
the first record that starts in it. -/
structure RecTile where
  bytes : List Byte := []
  start : Int := 0
  index : Nat := 0
  count : Option Nat := none
  deriving DecidableEq, Repr

/-- A stream packet formed and not released (R478, R482, R485): its `PSEQ` and `BOFF`, length, FIRST and LAST, when it was
sent on route A and on route B, whether it is to be sent again after a switch-over (REWOUND), and the routes for which its
copy is abandoned (R489). -/
structure Pkt where
  seq : Nat
  off : Nat
  len : Nat
  first : Bool
  last : Bool
  sentA : Option Int := none
  sentB : Option Int := none
  again : Bool := false
  dropA : Bool := false
  dropB : Bool := false
  deriving DecidableEq, Repr

/-- What the hub holds of a queue besides its registers: the chain (head first), bytes of the head plot read by every
route, bytes of the unit in progress that are written, the visible units, how far they
are read and how much of the first has left its plots, since when
the writer is refused, whether an episode of Q_MAX is open, the committed allowance in bytes, placeholders in progress and
a gap record to be made, the record tile in progress and those that wait for the compressor, the bytes of the stream since
the enable, the compressor, the stall in progress with what of
it is raised, the packets formed with the next `PSEQ` and `BOFF`, the `PSEQ` ranges abandoned
on route A and route B with whether MIRROR_LAG is raised (R489), and the bytes in the chain of a ring's queue (R525). -/
structure Que where
  chain : List Nat := []
  rd : Nat := 0
  part : Nat := 0
  vis : List VisUnit := []
  read : Nat := 0
  seen : Nat := 0
  refused : Option Int := none
  maxEp : Bool := false
  allow : Nat := 0
  gap : Option (Nat × Nat) := none
  gapDone : Option (Nat × Nat) := none
  tile : Option RecTile := none
  closing : List (RecTile × Nat) := []
  total : Nat := 0
  engine : Option Nat := none
  waits : Option Int := none
  stallSaid : Bool := false
  downSaid : Bool := false
  pseq : Nat := 0
  boff : Nat := 0
  pk : List Pkt := []
  skipA : Option (Nat × Nat) := none
  skipB : Option (Nat × Nat) := none
  lagSaid : Bool := false
  ringBytes : Nat := 0
  deriving DecidableEq, Repr

/-- A copy of a plot between tiers in progress (R360): queue, old plot, new plot. -/
structure PlotCopy where
  queue : Nat
  old : Nat
  new : Nat
  deriving DecidableEq, Repr

/-- Once-only bookkeeping of the allocator: boroughs with an episode of QUOTA_FULL, tiers (0 far, 1 near) with one of
POOL_EMPTY, parts of the escape reserve reported low, and reserve plots drawn. -/
structure PlotBook where
  quotaEp : List Nat := []
  poolEp : List Nat := []
  escLow : List Nat := []
  resUsed : Nat := 0
  nearUsed : Nat := 0
  shrunk : List Nat := []
  deriving DecidableEq, Repr

/-- A raw sample (R321): channels, flags, and whether the tracking state places it (R310). -/
structure RawSmp where
  re : Int
  im : Int
  flags : Nat
  placed : Bool
  deriving DecidableEq, Repr

/-- A raw tile (R331, R332): sampling instant of sample 0 and period in 2^-48 ns, grid anchor, lead in 2^-16 ns, number of
channels, low zero bits, its samples newest first, and why it closed: SHORT, ENC_FAULT, LAST, absent samples behind
it, where it goes, and the grants that copy it (R565). -/
structure RawTile where
  at0 : Int
  period : Nat
  anchor : Nat
  lead : Nat
  ch : Nat
  z : Nat
  policy : Nat
  smps : List RawSmp := []
  short : Bool := false
  fault : Bool := false
  last : Bool := false
  absent : Bool := false
  ring : Bool := false
  queue : Option Nat := none
  copies : List Nat := []
  deriving DecidableEq, Repr

/-- The raw path of a slot: the tile in progress, tiles that wait for their headers, and the load reserved on its
compressor. -/
structure RawPath where
  cur : Option RawTile := none
  closing : List RawTile := []
  load : Nat := 0
  deriving DecidableEq, Repr

/-- A ring tile (R307, R309): number, slot, instants of its first sample and one period past its last (2^-48 ns), period,
samples, bytes, plots, captures that hold it, whether it is still in the ring, the positions of samples that are not
placed, and whether samples were absent behind it. -/
structure RingTile where
  id : Nat
  slot : Nat
  at0 : Int
  to_ : Int
  period : Nat
  count : Nat
  bytes : List Byte
  plots : List Nat
  holds : List Nat := []
  live : Bool := true
  loose : List Nat := []
  absent : Bool := false
  deriving DecidableEq, Repr

/-- The transient ring (R307): tiles in the order stored, each member's tail plot with its fill, the next tile
number, whether `DEPTH` has reached `MIN`, and members whose chain was cut and which wait for a plot (R370). -/
structure Ring where
  tiles : List RingTile := []
  tails : List (Nat × Nat × Nat) := []
  nextId : Nat := 0
  deep : Bool := false
  cut : List Nat := []
  deriving DecidableEq, Repr

/-- A decompression job at the head of a borough's ring (R337 to R341): its descriptor, bytes already output, the buffer
in use with what it holds, and whether it is suspended. -/
structure Job where
  desc : List Byte
  src : List Byte
  total : Nat := 0
  bufAt : Nat
  bufLen : Nat
  used : Nat := 0
  suspended : Bool := false
  deriving DecidableEq, Repr

/-! ## Triggers and captures (chapter 10) -/

/-- A trigger on its way to the outputs (R297): source, event time, COARSE, slot of a detection (0xFFFF: none), and the
arrival at the trigger unit. -/
structure Trig where
  src : Nat
  mt : Int
  coarse : Bool
  slot : Nat := 0xFFFF
  came : Int
  deriving DecidableEq, Repr

/-- A pulse of a trigger output (R304): its pin (0 to 31 signal outputs, 32 to 35 instrument lines), when its active edge
falls and when it ends, and whether the edge has fallen. -/
structure Pulse where
  pin : Nat
  from_ : Int
  to_ : Int
  on : Bool
  deriving DecidableEq, Repr

/-- What the hub holds of a trigger output (R300 to R303): its reserved context, the acceptance of the present dead
interval, triggers refused in it and whether that is raised, whether the capture it started is open, whether it waits for a
context and has said so, and the previous dead time in ns with its refusals. -/
structure TrgOut where
  ctx : Bool := false
  at_ : Int := 0
  refs : Nat := 0
  refSaid : Bool := false
  capOpen : Bool := false
  closedAt : Int := 0
  waitSaid : Bool := false
  prevDead : Nat := 0
  prevRefs : Nat := 0
  deriving DecidableEq, Repr

/-- A member of a capture (R309 to R311): slot, window in grid index and time (2^-48 ns), skew entry, tracking state at
acceptance, flags, and the tiles it holds. -/
structure CapMember where
  slot : Nat
  skew : Nat
  first : Int
  from_ : Int
  to_ : Int
  track : Nat
  flags : Nat
  tiles : List Nat
  deriving DecidableEq, Repr

/-- An instrument line (R297): since when it is low, or high, and whether ILINE_STUCK is raised. -/
structure ILine where
  low : Bool := false
  since : Option Int := none
  said : Bool := false
  deriving DecidableEq, Repr

/-- An open capture (R309): sequence, output, source, event time, grid, status byte, TAI − UTC, k_trig, windows, queue,
dead time and refusals to report, and its members. -/
structure Capture where
  seq : Nat
  output : Nat
  src : Nat
  mt : Int
  grid : Nat
  status : Nat
  tai : Nat
  kTrig : Nat
  pre : Nat
  post : Nat
  queue : Nat
  dead : Nat
  refs : Nat
  members : List CapMember
  deriving DecidableEq, Repr

/-- A network trigger sender (R299): hub identifier and last accepted sequence (none: taken, nothing accepted yet). -/
structure NetSender where
  hub : Nat
  seq : Option Nat
  deriving DecidableEq, Repr

/-! ## Board management, signal outputs and test access (chapter 27) -/

/-- A signal output (R684 to R687): its queued edges (level and Meridian time), the time of the edge queued last, the frame
number of the next marker, and the end of a marker pulse in progress. -/
structure SigOut where
  edges : List (Bool × Int) := []
  lastAt : Option Int := none
  markF : Nat := 0
  markTo : Option Int := none
  deriving DecidableEq, Repr

/-- Board management besides its registers: whether a register-path transaction runs, its bus and the bytes it reads, when MG_NAK was last raised on each
bus, when each poll entry was last served, when the alert service last read, and when SIG_LATE was last raised. -/
structure Mgb where
  running : Bool := false
  bus : Nat := 0
  nrd : Nat := 0
  nakAt : SMap Int := []
  polled : SMap Int := []
  alertAt : Option Int := none
  lateAt : Option Int := none
  deriving DecidableEq, Repr

/-- The test access port (R695): the instruction selected, its data register (0 bypass, 1 IDCODE, 2 boundary), and whether
it takes the pins (R696). -/
structure Tap where
  instr : Nat := 1
  data : Nat := 1
  pins : Bool := false
  deriving DecidableEq, Repr
/-! ## Roundabouts (chapter 14) -/

/-- Settings of a roundabout as a lane samples them (R400): `ARB_CTL` and `ARB_REQ`. -/
structure ArbCfg where
  ctl : Nat
  reqs : List Nat
  deriving DecidableEq, Repr

/-- One lane of a roundabout: rank order of a small class (none: index order), class pointers, forced pointer, wait
counters, runs of lost cycles, progress counts, the grant fixed for the coming cycle with the cycles it has been held, a
requester just cut, and the settings sampled at the last decision. -/
structure ArbLane where
  rank : List Nat := []
  ptr : SMap Nat := []
  fptr : Nat := 0
  waits : SMap Nat := []
  runs : SMap Nat := []
  prog : SMap Nat := []
  grant : Option Nat := none
  held : Nat := 0
  dead : Bool := false
  cfg : Option ArbCfg := none
  deriving DecidableEq, Repr
/-! ## Lanes and sheets (chapter 15) -/

/-- What the hub holds of a sheet besides its registers (R423 to R427): the lanes that caused the present drop, each
lane's drops of the last 10 s, whether a run of failed attempts is open, consecutive attempts that a lane alone failed at
DETECT or LOCK, consecutive eye results below the failing limits, lanes whose EYE_WARN stands, whether the sheet waits
before its next attempt and since when, when each lane entered its stage, when its LOS last changed, and when its margins were
last measured. -/
structure Sheet where
  causers : List Nat := []
  dropAt : List (Nat × Int) := []
  failRun : Bool := false
  alone : SMap Nat := []
  low : SMap Nat := []
  warned : List Nat := []
  waiting : Bool := false
  failAt : Int := 0
  stageAt : SMap Int := []
  losAt : SMap (Option Int) := []
  eyeAt : SMap (Option Int) := []
  deriving DecidableEq, Repr

/-! ## Ethernet ports and routes (chapter 17) -/

/-- What the hub holds of an Ethernet port (R475, R483, R484): PCS faults (AM lock lost, local, remote), the fault held
for 10 µs (its cause, 0 none), the last heartbeat, whether heartbeats have timed out, whether one has arrived since the
side failed, when the side was found failed, when a heartbeat was last sent, and since when the port has been without its lock. -/
structure Port where
  am : Bool := false
  localF : Bool := false
  remoteF : Bool := false
  held : Nat := 0
  hbAt : Option Int := none
  hbLost : Bool := false
  hbSince : Bool := false
  failedAt : Option Int := none
  hbSeq : Nat := 0
  hbTx : Option Int := none
  since : Int := 0
  narrow : Bool := false
  deriving DecidableEq, Repr

/-- A stream packet that waits for earlier ones (R480): `PSEQ`, `FIRST`, `LAST`, `BOFF`, payload. -/
structure HeldPkt where
  pseq : Nat
  first : Bool
  last : Bool
  boff : Nat
  data : List Byte
  deriving DecidableEq, Repr

/-- A receive stream (R480): expected `PSEQ`, packets held, since when it waits, the unit in progress with its first
`BOFF`, and whether it waits for the next FIRST. -/
structure RxStream where
  queue : Nat := 0
  expected : Nat := 0
  held : List HeldPkt := []
  since : Option Int := none
  port : Nat := 0
  buf : List Byte := []
  at_ : Nat := 0
  skip : Bool := true
  deriving DecidableEq, Repr

/-- A frame of a host transmit ring that waits to be sent (R481): address of its descriptor, port, stamp handling, receive
time of a Pdelay_Req, and the frame. -/
structure HtxFrame where
  desc : Nat
  port : Nat
  stamp : Nat
  reqMt : Int
  frame : List Byte
  deriving DecidableEq, Repr

/-- A receive descriptor supplied to a MAC (R481): its address, its buffer's address and size. -/
structure HrxDesc where
  desc : Nat
  buf : Nat
  size : Nat
  deriving DecidableEq, Repr

/-- The host rings of a MAC (R481): descriptors taken, frames waiting, receive descriptors supplied and unused, whether
HOST_RX_FULL is raised in the present run. -/
structure HostRing where
  txCi : Nat := 0
  tx : List HtxFrame := []
  rxCi : Nat := 0
  rx : List HrxDesc := []
  fullSaid : Bool := false
  deriving DecidableEq, Repr

/-! ## Spaxa links (chapter 16) -/

/-- A sequenced flit that the partner has not acknowledged (R450): its `SEQ` and the flit. -/
structure SentFlit where
  seq : Nat
  flit : TxFlit
  deriving DecidableEq, Repr

/-- A flit as received (R443): whether it lies in an uncorrectable block, its 256 bytes, and when its block came. -/
structure RxFlit where
  bad : Bool
  bytes : List Byte
  came : Int
  deriving DecidableEq, Repr

/-- An accepted sequenced flit in the receive buffer: type, FIRST, LAST, stream and payload. -/
structure InFlit where
  type : Nat
  first : Bool
  last : Bool
  stream : Nat
  data : List Byte
  deriving DecidableEq, Repr

/-- A training set received on a lane (R445), field by field. -/
structure TrainSet where
  width : Nat
  role : Nat
  phase : Nat
  ident : Nat
  epoch : Nat
  ack : Nat
  resume : Bool
  crdD : Nat
  crdC : Nat
  deriving DecidableEq, Repr

/-- An exchange under the turn token (R457 to R461): kind (1 SUBST, 2 DOZE), whether the hub began it, its tag, the lane,
whether it was granted, whether this end and the partner have reported their spares ready, the blocks from which this end
transmits and receives in the new way, whether each has taken effect, whether a policy began it, and how long the claim has
stood unanswered. -/
structure Exchange where
  kind : Nat
  ours : Bool
  tag : Nat
  lane : Nat := 0
  granted : Bool := false
  ready : Bool := false
  pready : Bool := false
  txAt : Option Nat := none
  rxAt : Option Nat := none
  txDone : Bool := false
  rxDone : Bool := false
  policy : Bool := false
  action : Option Nat := none
  since : Int := 0
  deriving DecidableEq, Repr

/-- Training of a Spaxa link (R445 to R448): own phase (1 TS1, 2 TS2, 3 TS3), latest set by logical lane, consecutive sets of
TS2 or TS3 by lane, lanes that have sent TS3, TS3 blocks sent, consecutive failed attempts, whether a valid set came in this
attempt, what has been said of the run, whether a backoff runs, and since when the attempt or the backoff has run. -/
structure Training where
  phase : Nat := 0
  sets : SMap (Option TrainSet) := []
  ts2 : SMap Nat := []
  ts3 : List Nat := []
  sent : Nat := 0
  fails : Nat := 0
  heard : Bool := false
  absentSaid : Bool := false
  refusedSaid : Bool := false
  waiting : Bool := false
  since : Int := 0
  deriving DecidableEq, Repr

/-- Transmit side of a Spaxa link (R440, R450 to R455): unacknowledged flits, the replay round in progress (the ACK that began it
and what it is still to send), rounds without an advance and since when, credits (advertised, released, spent), blocks sent since
training, width with its first block, bytes on their way out, flits counted, scrambler, whether to say RETRAIN or WAKE, when
the last data flit was sent, and the beacon due. -/
structure SpxTxSide where
  out : List SentFlit := []
  round : Option (Nat × List Nat) := none
  rounds : Nat := 0
  ackAt : Int := 0
  advD : Nat := 0
  advC : Nat := 0
  pRelD : Nat := 0
  pRelC : Nat := 0
  sentD : Nat := 0
  sentC : Nat := 0
  bc : Nat := 0
  w : Nat := 8
  from_ : Nat := 0
  pipe : List Byte := []
  fcnt : Nat := 0
  scr : Nat := 0
  retrain : Bool := false
  wake : Bool := false
  sinceData : Int := 0
  beacon : Bool := false
  deriving DecidableEq, Repr

/-- Receive side of a Spaxa link (R440 to R442, R451, R456): blocks put in order, width with its first block, the next block of
each lane, blocks ahead of their turn, uncorrectable blocks in a row by lane, descrambler, bytes of an unfinished flit,
flits received, NACK state, data and control flits in the receive buffers, data and control credits released, beacons, and
queue units in progress. -/
structure SpxRxSide where
  bc : Nat := 0
  w : Nat := 8
  from_ : Nat := 0
  lane : SMap Nat := []
  ahead : SMap (Option (List Byte × Bool × Int)) := []
  bad : SMap Nat := []
  scr : Nat := 0
  buf : List (Byte × Bool × Int) := []
  flits : List RxFlit := []
  nack : Bool := false
  din : List InFlit := []
  ctl : List (List Byte) := []
  relD : Nat := 0
  relC : Nat := 0
  beacons : List (List Byte × Int) := []
  units : SMap (List Byte) := []
  deriving DecidableEq, Repr

/-- The beacon record of a Spaxa link (R467 to R470): next `BSEQ`, own departures, the partner's departures and own arrivals of
the partner's beacons by their `BSEQ`, the latest beacon received, when the last usable one came (or the link became ACTIVE), whether
BEACON_LOST stands, and when a beacon was last due. -/
structure SpxBeacon where
  seq : Nat := 0
  dep : List (Nat × Int) := []
  arr : List (Nat × Int) := []
  last : Option (Nat × Int) := none
  usable : Option Int := none
  lost : Bool := false
  due : Option Int := none
  deriving DecidableEq, Repr

/-- A Spaxa link besides its registers: the epoch held with the identifiers (own, partner's) of its last ACTIVE period, the
epoch proposed, training, both sides, the exchange in progress, an own claim withdrawn and to be issued again, the next tag,
the blocks of a RESTORE sent and received with what has taken effect and the woken lanes that have sent TS3, and beacons. -/
structure Link where
  epoch : Option Nat := none
  with_ : Option (Nat × Nat) := none
  proposal : Nat := 0
  trn : Training := {}
  tx : SpxTxSide := {}
  rx : SpxRxSide := {}
  xchg : Option Exchange := none
  again : Option Exchange := none
  xtag : Nat := 0
  resTx : Option Nat := none
  resRx : Option Nat := none
  resTxDone : Bool := false
  resRxDone : Bool := false
  woken : List Nat := []
  bcn : SpxBeacon := {}
  deriving DecidableEq, Repr
/-! ## Egress and host delivery (R362, R363, R573) -/

/-- An egress scheduler (R362, R363): the data queue it serves now, and the deficits of its data queues. -/
structure Sched where
  cur : Option Nat := none
  deficits : SMap Nat := []
  deriving DecidableEq, Repr

/-- A host delivery ring (R573, R574): whether it is enabled, the settings of its last enabling command, bytes and units
written, bytes that the host has consumed, and whether the record of its last enabling command is still to be written. -/
structure Delivery where
  on : Bool := false
  base : Nat := 0
  size : Nat := 0
  vec : Nat := 0xFFFF
  total : Nat := 0
  units : Nat := 0
  taken : Nat := 0
  fresh : Bool := false
  deriving DecidableEq, Repr


/-- Command rate limiting of a borough (R571): the millisecond counted in, packets accepted in it, and when CMD_RATE was last
raised. -/
structure CmdRate where
  window : Int := -1
  count : Nat := 0
  said : Option Int := none
  deriving DecidableEq, Repr
/-! ## Gazetteer (chapter 22) -/

/-- A gazetteer entry that is `VALID` (R586), field by field. -/
structure GazEntry where
  id : Nat
  kind : Nat
  hopKind : Nat
  hop : Nat
  dists : List Nat
  outcome : Nat := 0
  fault : Bool := false
  epoch : Nat := 0
  gens : Nat := 0
  status : Nat := 0
  fclass : Nat := 0
  seen : Nat := 0
  deriving DecidableEq, Repr

/-- A copy of a send (R590): entry index, whether the member is a relay, tag, generation, when it was sent last, and whether its
outcome is in. -/
structure GazCopy where
  e : Nat
  relay : Bool
  tag : Nat
  gen : Nat
  last : Int
  done : Bool := false
  deriving DecidableEq, Repr

/-- The latest send to a district (R589 to R595): epoch, activation time, inner packet, the command that made it, the entry index
from which copies are still to be formed, the copies, whether the hub itself is a member without an outcome, `RETRY` and `COLLECT`
in force, the counts, whether collection has ended, and whether LATE_OUTCOME is raised. -/
structure GazSend where
  epoch : Nat
  act : Int
  inner : List Byte
  action : Nat
  next : Nat := 0
  copies : List GazCopy := []
  selfOpen : Bool := false
  retry : Nat
  collect : Nat
  applied : Nat := 0
  refused : Nat := 0
  silent : Nat := 0
  isOver : Bool := false
  lateSaid : Bool := false
  deriving DecidableEq, Repr

/-- An open digest (R597): subject, class, arrival of its first and its last report, when it closes, the reporters in arrival
order, and the counts. -/
structure Digest where
  subject : Nat
  cls : Nat
  first : Int
  last : Int
  closes : Int
  reporters : List Nat
  count : Nat
  repeats : Nat := 0
  isOver : Bool := false
  deriving DecidableEq, Repr

/-- Once-only bookkeeping of the gazetteer: when the latest send was accepted, when FR_REFUSED and DIGEST_CLOSED were last raised,
whether a run of dropped reports is open, and the next digest sequence. -/
structure GazBook where
  sentAt : Option Int := none
  frSaid : Option Int := none
  closedSaid : Option Int := none
  dropRun : Bool := false
  seq : Nat := 0
  copyAt : Option Int := none
  deriving DecidableEq, Repr
/-! ## Engines, control cores (chapter 24) -/

/-- A substitution of a pipeline engine whose bound slots have still to restart on the spare (R639): failing engine, spare, by
which policy, and those slots. -/
structure EngSwap where
  old : Nat
  new : Nat
  policy : Bool
  slots : List Nat
  deriving DecidableEq, Repr

/-- Corrected errors of an engine in an hour of Meridian time (R639). -/
structure EngErr where
  hour : Int := 0
  n : Nat := 0
  deriving DecidableEq, Repr
/-! ## The part (chapter 00) -/

/-- An ordering part (R1). -/
inductive Part where
  | q768
  | q384
  | q768n
  deriving DecidableEq, Repr

/-- A lid suffix (R1): -LC or -BL. -/
inductive Lid where
  | lc
  | bl
  deriving DecidableEq, Repr

/-- What is ordered: the part and its lid. It never changes while the hub runs. -/
structure Product where
  part : Part := .q768
  lid : Lid := .lc
  deriving DecidableEq, Repr

/-! ## Reset and start-up (chapter 25) -/

/-- Bookkeeping of resets and start-up: the VDD_AON monitor holds its reset, memory stacks whose training has ended, the other image
has been tried in this start (R656), a Falarn restart runs (R658), and a warm reset that waits for `READY` (R650) with its cause. -/
structure Start where
  aonLow : Bool := false
  trained : List Nat := []
  second : Bool := false
  restart : Bool := false
  fwAt : Int := 0
  warmHeld : Option Nat := none
  deriving DecidableEq, Repr

/-! ## The state of the hub -/

/-- The logbook as made (R614): slot 0 holds a LOG_CLEARED record with sequence 0 whose DETAIL reads all ones. -/
def Logbook.made : Logbook :=
  { slots := [⟨0, ⟨261, 5121, 65535, 0, 16, 0, 0, 1, [.w8 (-1), .w8 (-1), .w8 (-1)]⟩, true⟩] }

/-- The state of the hub. -/
structure State where
  /-- the register file: what a register reads (for a staged field, its shadow) -/
  regs : SMap Word
  /-- the values in force of staged fields (R27), by register key -/
  force : SMap Word
  /-- the tables of the aperture, word by word (R499, R500) -/
  aper : SMap Word
  /-- the time base -/
  tb : TimeBase
  /-- transmit time-stamp queues of the MACs (R79) -/
  txts : SMap (List TxStamp)
  /-- the router's 256-record buffer (R609) -/
  router : List RouterItem
  /-- open coalescing windows (R610) -/
  windows : List EvWindow
  /-- the event staging queue of the logbook (R616) -/
  stageQ : List StageItem
  /-- the logbook -/
  log : Logbook
  /-- the PCIe functions -/
  funcs : SMap Func
  /-- the PCIe link is up (R514) -/
  linkUp : Bool
  /-- MSI-X vectors, by 2048 × function + vector -/
  vecs : SMap Vec
  /-- the PTM dialog in progress -/
  ptm : Option PtmDialog
  /-- when the latest dialog began (R510) -/
  ptmAt : Option Int
  /-- staged changes, oldest first -/
  staged : List Staged
  /-- tag entries, by 65536 × borough + tag -/
  tags : SMap TagEntry
  /-- envelope counters, by borough -/
  envs : SMap EnvCtr
  /-- borough keys (R527) -/
  keys : SMap (List Byte)
  /-- the key staging words behind `CMD_KEY_W` -/
  keyStage : SMap Word
  /-- command rings, by 4 × borough + ring -/
  crings : SMap CRing
  /-- the queues that are ON or DRAINING (R351) -/
  quesOn : List Nat
  /-- accepted commands whose replies are to come, oldest first -/
  cmds : List OpenCmd
  /-- packets of the UDP and Spaxa paths that wait behind a fence, with their opcodes -/
  fenced : List (Nat × Packet)
  /-- when LATE_REPLY was last raised (R531) -/
  lateAt : Option Int
  /-- what the slots hold besides their registers -/
  slots : SMap Slot
  /-- number of the next frame boundary due on each grid, of the present descriptor (R27) -/
  gridNext : SMap Nat
  /-- open captures (R309) -/
  captures : List Capture
  /-- TDC cores, by physical core -/
  tdc : SMap TdcCore
  /-- substitutions of TDC cores in progress (R134) -/
  tdcSwitches : List TdcSwitch
  /-- edge inputs -/
  edges : SMap EdgeIn
  /-- edge tag queues (R126) -/
  tagQ : SMap (List EdgeTag)
  /-- frequency counters with a gate in progress -/
  freqs : SMap FreqGate
  /-- groups whose CG tap is reported lost (R123) -/
  cgLost : List Nat
  /-- monitor queues (R388) -/
  monQ : SMap (List Snapshot)
  /-- monitor queue sequence numbers -/
  monSeq : SMap Nat
  /-- the instant of the latest snapshot of each monitor queue (R388): Meridian time in whole microseconds, and the tick -/
  monAt : SMap (Int × Nat)
  /-- monitor queues that lost snapshots since the last pop -/
  monLost : List Nat
  /-- pops that stall on empty post queues, oldest first (R384) -/
  popWait : List PopWait
  /-- once-only bookkeeping of spares and domains -/
  spareBook : SpareBook
  /-- words of the trim image that differ from what the loader took (R285) -/
  trimImg : SMap (Option Word)
  /-- what the converter groups hold besides their registers -/
  grps : SMap Group
  /-- what the wideband inputs hold besides their registers -/
  inps : SMap Inp
  /-- what the beams hold besides their registers -/
  beams : SMap Beam
  /-- partial sums that have arrived and wait for their beam (R233) -/
  partials : List Partial
  /-- node streams, by 256 × sheet + stream -/
  nodes : SMap NodeStream
  /-- assertions of the BLANK lines, newest first (R176) -/
  blanks : SMap (List Span)
  /-- drives of the signal outputs, newest first (R177) -/
  injects : SMap (List Span)
  /-- items complete and not yet handed to their queues (R239) -/
  items : List ReadyItem
  /-- units handed to a queue and not yet written by its writer (R354) -/
  units : SMap (List ReadyItem)
  /-- slots found failing and still in service (R640) -/
  failingSlots : List Nat
  /-- slots retired until the next power-on reset (R639, R640) -/
  retiredSlots : List Nat
  /-- triggers on their way to the outputs (R297) -/
  trigs : List Trig
  /-- flits that wait to be sent on a sheet for the first time -/
  spxTx : SMap (List TxFlit)
  /-- MAC arrays that leave service at frame boundaries to come (R235) -/
  bmacSwaps : List BmacSwap
  /-- The MAC array whose retirement without a spare lowered the beam engine's capacity last, and whether a policy did it (R235). -/
  bmacShed : Option (Nat × Bool)
  /-- what the front end holds besides its registers -/
  fe : Fe
  /-- the precision converters' sequencers -/
  pcvs : SMap Pcv
  /-- what the structure channels hold besides their registers -/
  sfeChs : SMap SfeCh
  /-- what the excitation outputs hold besides their registers -/
  excs : SMap Exc
  /-- the copies of the trim pages in MRAM, by 2 × page + copy -/
  trimCopies : SMap TrimCopy
  /-- the copies of linearisation coefficients in MRAM, by 2 × channel + copy -/
  linCopies : SMap (List Nat)
  /-- writes of MRAM copies in progress, oldest first -/
  nvm : List NvmJob
  /-- user measurements in progress -/
  calMeas : List CalMeas
  /-- trim pages that the loader has read (R284) -/
  trimLoaded : List Nat
  /-- MRAM sectors found failing and not substituted (R642) -/
  mramBad : List Nat
  /-- the remap table of MRAM (R642): a sector and the spare sector in its place -/
  mramMap : SMap Nat
  /-- plots that are not as made (R349) -/
  plots : SMap Plot
  /-- what the queues hold besides their registers -/
  ques : SMap Que
  /-- bookkeeping of the allocator -/
  plotBook : PlotBook
  /-- plot copies in progress (R360) -/
  copies : List PlotCopy
  /-- the raw paths of the slots -/
  raws : SMap RawPath
  /-- the transient ring -/
  ring : Ring
  /-- the decompression job at the head of each borough's ring -/
  jobs : SMap Job
  /-- the borough whose ring the decompressors serve next (R339) -/
  dxNext : Nat
  /-- what the trigger outputs hold besides their registers -/
  trgOuts : SMap TrgOut
  /-- pulses of trigger outputs -/
  pulses : List Pulse
  /-- the instrument lines -/
  ilines : SMap ILine
  /-- the network trigger sender table (R299) -/
  netSenders : List NetSender
  /-- the sequence of the trigger stream (R306) -/
  trgSeq : Nat
  /-- the capture sequence of the hub (R311) -/
  capSeq : Nat
  /-- what the signal outputs hold besides their registers -/
  sigs : SMap SigOut
  /-- board management besides its registers -/
  mgb : Mgb
  /-- the test access port -/
  tap : Tap
  /-- POR_N is low -/
  porLow : Bool
  /-- the lanes of the roundabouts, by 64 × instance + lane -/
  arbs : SMap ArbLane
  /-- what the hub holds of the sheets besides their registers -/
  sheets : SMap Sheet
  /-- the Ethernet ports -/
  ports : SMap Port
  /-- Ethernet receive streams (R480) -/
  rxs : SMap RxStream
  /-- the Ethernet host rings -/
  hrings : SMap HostRing
  /-- the Spaxa links -/
  links : SMap Link
  /-- the egress schedulers: 0 to 39 the sheets, 40 the host path (R362) -/
  scheds : SMap Sched
  /-- host delivery rings, by 4096 × borough + ring -/
  delivers : SMap Delivery
  /-- command rate limiting, by borough (R571) -/
  rates : SMap CmdRate
  /-- the gazetteer (R586), by entry index -/
  gaz : SMap (Option GazEntry)
  /-- the latest send of each district -/
  gazSends : SMap (Option GazSend)
  /-- open digests (R597), oldest first -/
  digests : List Digest
  /-- bookkeeping of the gazetteer -/
  gazBook : GazBook
  /-- substitutions of pipeline engines in progress (R639) -/
  engSwaps : List EngSwap
  /-- corrected errors of the engines in the present hour (R639) -/
  engErrs : SMap EngErr
  /-- the latest watchdog expiry of each control core (R641) -/
  coreDog : SMap (Option Int)
  /-- bookkeeping of resets and start-up -/
  start : Start
  /-- words of the image regions that are not as made (R655), by 2^20 × image + word -/
  images : SMap (Option Word)
  /-- the ordering part and its lid (R1) -/
  part : Product
  /-- since when the period of the core calibrations counts (R132) -/
  timCal : Int
  /-- what the hub has sent, newest first -/
  out : List Output
  /-- the model's own counter of free values drawn (Config.freeValue) -/
  drawn : Nat
  /-- the commands that wait, first in, first out -/
  pending : List Instr
  deriving DecidableEq, Repr

/-- The hub right after a power-on reset: no table lists anything, so every register reads its reset value. -/
def State.reset : State where
  regs := []
  force := []
  aper := []
  tb := {}
  txts := []
  router := []
  windows := []
  stageQ := []
  log := Logbook.made
  funcs := []
  linkUp := true
  vecs := []
  ptm := none
  ptmAt := none
  staged := []
  tags := []
  envs := []
  keys := []
  keyStage := []
  crings := []
  quesOn := []
  cmds := []
  fenced := []
  lateAt := none
  slots := []
  gridNext := []
  captures := []
  tdc := []
  tdcSwitches := []
  edges := []
  tagQ := []
  freqs := []
  cgLost := []
  monQ := []
  monSeq := []
  monAt := []
  monLost := []
  popWait := []
  spareBook := {}
  trimImg := []
  grps := []
  inps := []
  beams := []
  partials := []
  nodes := []
  blanks := []
  injects := []
  items := []
  units := []
  failingSlots := []
  retiredSlots := []
  trigs := []
  spxTx := []
  bmacSwaps := []
  bmacShed := none
  fe := {}
  pcvs := []
  sfeChs := []
  excs := []
  trimCopies := []
  linCopies := []
  nvm := []
  calMeas := []
  trimLoaded := []
  mramBad := []
  mramMap := []
  plots := []
  ques := []
  plotBook := {}
  copies := []
  raws := []
  ring := {}
  jobs := []
  dxNext := 0
  trgOuts := []
  pulses := []
  ilines := []
  netSenders := []
  trgSeq := 0
  capSeq := 0
  sigs := []
  mgb := {}
  tap := {}
  porLow := false
  arbs := []
  sheets := []
  ports := []
  rxs := []
  hrings := []
  links := []
  scheds := []
  delivers := []
  rates := []
  gaz := []
  gazSends := []
  digests := []
  gazBook := {}
  engSwaps := []
  engErrs := []
  coreDog := []
  start := {}
  images := []
  part := {}
  timCal := 0
  out := []
  drawn := 0
  pending := []

end Sys2Proof.Machine
end

