-- ==== Sys2Proof/Machine/Ops.lean ====
section
/-! DEFINITION. The named operations over the state: registers and fields, Meridian time, the tables, MSI-X vectors,
and raising an event. -/
namespace Sys2Proof.Machine

/-! ## Registers and fields -/

/-- What a register holds. -/
def State.rd (s : State) (r : Reg) : Word := mapGet (w32 r.reset) r.key s.regs

/-- Put a word into a register. -/
def State.wr (s : State) (r : Reg) (w : Word) : State :=
  { s with regs := mapPut (w32 r.reset) r.key w s.regs }

/-- A register as a number. -/
def State.rn (s : State) (r : Reg) : Nat := (s.rd r).toNat

/-- Put a number into a register. -/
def State.wn (s : State) (r : Reg) (v : Nat) : State := s.wr r (w32 v)

/-- A field of a register. -/
def State.get (s : State) (f : Fld) : Nat := bits (s.rd f.reg).toNat f.hi f.lo

/-- A one-bit field as a truth value. -/
def State.isSet (s : State) (f : Fld) : Bool := s.get f != 0

/-- Put a value into a field; the other bits keep their values. -/
def State.put (s : State) (f : Fld) (v : Nat) : State :=
  s.wr f.reg (w32 (setBits (s.rd f.reg).toNat f.hi f.lo v))

/-- The word in force of a register with staged fields (R27). -/
def State.frd (s : State) (r : Reg) : Word := mapGet (w32 r.reset) r.key s.force

/-- Put a word in force. -/
def State.fwr (s : State) (r : Reg) (w : Word) : State :=
  { s with force := mapPut (w32 r.reset) r.key w s.force }

/-- A staged field's value in force. -/
def State.fget (s : State) (f : Fld) : Nat := bits (s.frd f.reg).toNat f.hi f.lo

/-- A 64-bit value held in an LO/HI pair (R507). -/
def State.rd64 (s : State) (lo hi : Reg) : Nat := s.rn lo + 2 ^ 32 * s.rn hi

/-- Put a 64-bit value into an LO/HI pair. -/
def State.wr64 (s : State) (lo hi : Reg) (v : Nat) : State :=
  (s.wn lo v).wn hi (v / 2 ^ 32)

/-- Add to a 32-bit saturating counter register. -/
def State.bump (s : State) (r : Reg) (n : Nat := 1) : State := s.wn r (satAdd 32 (s.rn r) n)

/-- Send something out. -/
def State.emit (s : State) (o : Output) : State := { s with out := o :: s.out }

/-- Draw a free value below `n` (a value that the manual leaves open): the state's counter moves on. -/
def State.draw (s : State) (n : Nat) : Nat × State :=
  (Config.freeValue s.drawn % n, { s with drawn := s.drawn + 1 })

/-- Draw a free signed value. -/
def State.drawInt (s : State) : Int × State :=
  (Config.freeInt s.drawn, { s with drawn := s.drawn + 1 })

/-! ## The part (R1 to R5, R493, R695) -/

/-- Converter dies that a part has (R1). -/
def Part.dies : Part → Nat
  | .q768 => 8
  | .q384 => 4
  | .q768n => 0

/-- `SYS_IDENT` (R4): part, stepping B0, lid and converter dies. -/
def Product.ident (x : Product) : Nat :=
  (match x.part with
    | .q768 => 1
    | .q384 => 2
    | .q768n => 3) * 65536 + 0x2000 + (match x.lid with
    | .lc => 1
    | .bl => 2) * 16 + x.part.dies

/-- Wideband inputs of the part (R1): 96 for each converter die. -/
def Product.inputs (x : Product) : Nat := 96 * x.part.dies

/-- Converter groups of the part: three for each converter die. -/
def Product.groups (x : Product) : Nat := 3 * x.part.dies

/-- What configuration space reads of the identity of a function (R493): Vendor ID, Device ID, VF Device ID, Revision ID, class code. -/
structure CfgIds where
  vendor : Nat
  device : Nat
  vfDevice : Nat
  revision : Nat
  classCode : Nat
  deriving DecidableEq, Repr

/-- The identity that configuration space shows (R493): the Device ID is the physical function's. -/
def Product.cfgIds (x : Product) : CfgIds :=
  ⟨0x1B7C, (match x.part with
    | .q768 => 0x0768
    | .q384 => 0x0384
    | .q768n => 0x076E), 0x0769, x.ident / 256 % 256, 0x118000⟩

/-- What the IDCODE register of the test access port reads (R695): version 2, part field, manufacturer field, 1. -/
def Product.idcode (x : Product) : Nat := 0x20000000 + x.cfgIds.device * 4096 + 0x34D * 2 + 1

/-- Whether BAR0 offset `off` lies in the window of a converter die that the part does not have (R3), or in that of its roundabout
(R392). -/
def State.absent (s : State) (off : Nat) : Bool :=
  (decide (0x200000 + 0x10000 * s.part.part.dies ≤ off) && decide (off < 0x280000))
    || (decide (0xA1000 + 0x200 * (52 + s.part.part.dies) ≤ off) && decide (off < 0xA1000 + 0x200 * 60))

/-- A full 32-bit write by physical function 0. -/
def pf (v : Nat) : Wr := ⟨0, 15, w32 v⟩

/-! ## Tables of the aperture -/

/-- A word of a table, by its key: BAR0 offset in the direct region, table × 2^40 + byte offset in a windowed one. -/
def State.tab (s : State) (k : Nat) : Word := mapGet 0#32 k s.aper

/-- Put a word into a table. -/
def State.setTab (s : State) (k : Nat) (w : Word) : State := { s with aper := mapPut 0#32 k w s.aper }

/-! ## Meridian time -/

/-- Units of 2^-16 ns in a nanosecond, a microsecond, a millisecond and a second (R48). -/
def mtNs : Nat := 65536
/-- Units in a microsecond. -/
def mtUs : Nat := 65536000
/-- Units in a millisecond. -/
def mtMs : Nat := 65536000000
/-- Units in a second. -/
def mtSec : Nat := 65536000000000

/-- E over `n` ticks at `rate` and a slew of `sl` ppb (R50), the product exact and rounded once, ties up. -/
def elapsed (n : Nat) (rate sl : Int) : Int :=
  divRound ((n : Int) * 131072 * ((2 ^ 48 + rate) * 1000000000 + sl * 2 ^ 48)) (5 * 2 ^ 48 * 1000000000)

/-- The signed slew rate in force, ppb (R60). -/
def TimeBase.slewPpb (t : TimeBase) : Int :=
  match t.slew with
  | none => 0
  | some w => if w.amount < 0 then -(w.ppb : Int) else w.ppb

/-- The effective rate in force, times 2^48 × 10^9 (R50). -/
def TimeBase.effRate (t : TimeBase) : Int := (2 ^ 48 + t.rate) * 1000000000 + t.slewPpb * 2 ^ 48

/-- Meridian time of a free count (R50). -/
def TimeBase.mtAt (t : TimeBase) (c : Nat) : Int :=
  t.offset + elapsed (c - t.anchor) t.rate t.slewPpb

/-- Meridian time now. -/
def State.mt (s : State) : Int := s.tb.mtAt s.tb.fc

/-- The amount of a slew still to be applied (R60): what was left at the last re-anchoring less the change accumulated
since then. -/
def TimeBase.slewLeft (t : TimeBase) (w : Slew) : Int :=
  w.left - (elapsed (t.fc - t.anchor) t.rate t.slewPpb - elapsed (t.fc - t.anchor) t.rate 0)

/-- Re-anchor at the present tick (R51): OFFSET takes MT under the old parameters; a slew in progress keeps what is
still to be applied. -/
def TimeBase.reanchor (t : TimeBase) : TimeBase :=
  { t with offset := t.mtAt t.fc, anchor := t.fc, slew := t.slew.map (fun w => { w with left := t.slewLeft w }) }

/-- The parts of a Meridian time (R48): seconds (48 bits), nanoseconds, fraction. -/
def mtParts (t : Int) : Nat × Nat × Nat :=
  let u := (t % ((2 ^ 48 * mtSec : Nat) : Int)).toNat
  (u / mtSec, u % mtSec / mtNs, u % mtNs)

/-- A Meridian time from seconds, nanoseconds and fraction. -/
def mtOf (sec ns frac : Nat) : Int := ((sec * mtSec + ns * mtNs + frac : Nat) : Int)

/-- A Meridian time as the 12 bytes of packets and records: fraction, nanoseconds, seconds. -/
def mtBytes (t : Int) : List Byte :=
  let p := mtParts t
  leBytes 2 p.2.2 ++ leBytes 4 p.2.1 ++ leBytes 6 p.1

/-- The time status (R71): 0 UNTRACED, 1 TRACED, 2 HOLDOVER. -/
def State.tstate (s : State) : Nat := s.get TB_STATUS_STATE

/-- Whole microseconds of MT. -/
def mtWholeUs (t : Int) : Int := t / (mtUs : Int)

/-- Time since the last trace in whole microseconds (R73): 0 unless in HOLDOVER, and 0 while MT lies before it. -/
def State.holdUs (s : State) : Nat :=
  if s.tstate = 2 then ((s.mt - s.tb.holdTrace) / (mtUs : Int)).toNat else 0

/-! ## Functions and MSI-X vectors (R511, R512) -/

/-- What the hub holds for a function; virtual functions are absent until VF Enable names them. -/
def funcReset (fn : Nat) : Func := { present := decide (fn = 0) }

/-- The state of a function. -/
def State.func (s : State) (fn : Nat) : Func := mapGet (funcReset fn) fn s.funcs

/-- Put the state of a function. -/
def State.setFunc (s : State) (fn : Nat) (f : Func) : State :=
  { s with funcs := mapPut (funcReset fn) fn f s.funcs }

/-- Vectors of a function (R511): 2,048 of the physical function, 64 of a virtual one. -/
def vecCount (fn : Nat) : Nat := if fn = 0 then 2048 else 64

/-- A vector of a function. -/
def State.vec (s : State) (fn v : Nat) : Vec := mapGet {} (2048 * fn + v) s.vecs

/-- Put a vector of a function. -/
def State.setVec (s : State) (fn v : Nat) (x : Vec) : State :=
  { s with vecs := mapPut {} (2048 * fn + v) x s.vecs }

/-- Whether messages of a vector are held back (R512). -/
def State.vecBlocked (s : State) (fn v : Nat) : Bool :=
  let f := s.func fn
  (s.vec fn v).masked || f.fmask || !f.msixEn || !f.bme || !f.present || !s.linkUp

/-- Send a vector's message and start its moderation interval. -/
def State.vecSend (s : State) (fn v : Nat) : State :=
  let m := s.get (MSIX_MOD_MIN_US fn v)
  let b : Option Int := if m = 0 then none else some (s.mt + ((m * mtUs : Nat) : Int))
  let s1 := s.setVec fn v { s.vec fn v with pba := false, waiting := false, busyTo := b }
  s1.emit (.msix fn v)

/-- Whether a vector's moderation interval runs. -/
def State.vecBusy (s : State) (fn v : Nat) : Bool :=
  match (s.vec fn v).busyTo with
  | none => false
  | some t => decide (s.mt < t)

/-- A vector falls due (R512). -/
def State.vecDue (s : State) (fn v : Nat) : State :=
  if s.vecBlocked fn v then s.setVec fn v { s.vec fn v with pba := true }
  else if s.vecBusy fn v then s.setVec fn v { s.vec fn v with waiting := true }
  else s.vecSend fn v

/-! ## Raising an event (R602 to R616) -/

/-- FLAGS of a record (R605): time status, COARSE, POLICY and MANDATORY. -/
def State.evFlags (s : State) (pol mand : Bool) : Nat :=
  s.tstate + 4 * s.get TB_STATUS_COARSE + 8 * b2n pol + 16 * b2n mand

/-- The record of one occurrence at the present time. -/
def State.evRec (s : State) (e : EvId) (inst borough : Nat) (det : List Detail) (pol mand : Bool) : EvRec :=
  { src := e.src, code := e.code, inst := inst, borough := borough, flags := s.evFlags pol mand, first := s.mt,
    last := s.mt, reps := 1, detail := det }

/-- Fold an occurrence into a record: one more repetition, its span extended (R616, R617). -/
def EvRec.fold (r : EvRec) (n : Nat) (last : Int) : EvRec :=
  { r with reps := satAdd 32 r.reps n, last := max r.last last }

/-- A run of refusals of the staging queue is under way. -/
def State.stageRunning (s : State) : State := { s with log := { s.log with stageRun := true } }

/-- Offer an occurrence bound for the logbook to the staging queue (R616): folded into an item with its source and
code where neither is mandatory, added while fewer than 64 wait, otherwise refused. -/
def State.stageLog (s : State) (r : EvRec) (mand : Bool) : State :=
  let lvl := if mand then 3 else s.get (EVT_ROUTE_LEVEL r.src)
  if !mand && s.stageQ.any (fun i => !i.mandatory && i.item.src == r.src && i.item.code == r.code) then
    { s with stageQ := s.stageQ.map (fun i =>
        if !i.mandatory && i.item.src == r.src && i.item.code == r.code
        then { i with item := i.item.fold 1 r.last } else i) }
  else if s.stageQ.length < 64 then
    { s with stageQ := s.stageQ ++ [⟨r, lvl, mand⟩], log := { s.log with stageRun := false } }
  else (((s.bump (SYS_PQ_LOST 32)).bump LOG_REFUSED).put (SYS_PQ_STAT_OVF 32) 1).stageRunning

/-- The ON event queue of a borough (R609), where it has one. -/
def State.eventQueue (s : State) (b : Nat) : Option Nat :=
  s.quesOn.find? (fun q => s.get (QUE_STAT_STATE q) == 1 && s.get (QUE_CFG0_TYPE q) == 4
    && s.get (QUE_CFG0_BOROUGH q) == b)

/-- Put a record into the router's buffer of 256 (R609); a full buffer counts it in `EVT_QLOST`. -/
def State.routeRec (s : State) (b : Nat) (r : EvRec) (v : Option Nat) : State :=
  if s.router.length < 256 then { s with router := s.router ++ [⟨b, r, v⟩] }
  else s.bump EVT_QLOST

/-- The vector of a queue record of source `src` in the queue of borough b (R608): the owner's queue has it where both are
written. -/
def State.recVector (s : State) (b src : Nat) : Option Nat :=
  if s.isSet (EVT_ROUTE_VEC_EN src) && (b = 0 || !s.isSet (EVT_ROUTE_Q0 src) || (s.eventQueue 0).isNone)
  then some (s.get (EVT_ROUTE_VEC src)) else none

/-- A coalescing window ends (R610): its summary record is written where it counted anything, and opens the next one. -/
def State.closeWindow (s : State) (x : EvWindow) : State :=
  let s1 : State := { s with windows := s.windows.filter (fun y => y != x) }
  let w := s.get EVT_CTL_WINDOW
  if x.count = 0 then s1
  else
    let s2 := if (s1.eventQueue x.borough).isNone then s1
      else s1.routeRec x.borough { x.item with reps := x.count, flags := x.item.flags ||| 32 } (s1.recVector x.borough x.src)
    if w = 0 then s2
    else { s2 with windows := s2.windows ++ [{ x with ends := x.ends + ((w * mtUs : Nat) : Int), count := 0 }] }

/-- Windows of a record's key that have ended by its time are closed; twice, for the one that a summary opens. -/
def State.closeExpired (s : State) (b : Nat) (r : EvRec) : Nat → State
  | 0 => s
  | fuel + 1 =>
    match s.windows.find? (fun x => x.borough == b && x.src == r.src && x.code == r.code && x.inst == r.inst
        && decide (x.ends ≤ r.first)) with
    | some x => (s.closeWindow x).closeExpired b r fuel
    | none => s

/-- Deliver an occurrence to a borough's event queue, coalesced under `EVT_CTL.WINDOW` (R610). -/
def State.queueRec (s : State) (b : Nat) (r : EvRec) (mand : Bool) (v : Option Nat) : State :=
  let w := s.get EVT_CTL_WINDOW
  let same := fun (x : EvWindow) => x.borough == b && x.src == r.src && x.code == r.code && x.inst == r.inst
  if (s.eventQueue b).isNone then s
  else if w = 0 || mand then s.routeRec b r v
  else
    let s0 := s.closeExpired b r 2
    if s0.windows.any same then
      { s0 with windows := s0.windows.map (fun x =>
          if same x then { x with count := x.count + 1, item := if x.count = 0 then r else x.item.fold 1 r.last } else x) }
    else
      let s1 := s0.routeRec b r v
      { s1 with windows := s1.windows ++ [⟨b, r.src, r.code, r.inst, r.first + ((w * mtUs : Nat) : Int), 0, r⟩] }

/-- The borough of a beam (R231, R561): the tenant whose range holds it, otherwise the owner. -/
def State.beamBorough (s : State) (b : Nat) : Nat :=
  ((List.range 32).find? (fun t => t ≠ 0 && decide (s.get (BRG_BEAMS_FIRST t) ≤ b)
    && decide (b ≤ s.get (BRG_BEAMS_LAST t)))).getD 0

/-- The subject borough of an occurrence (R606): the one given; the one named by a BRG event; the owner of the queue or the beam
that the event names; otherwise borough 0. -/
def State.subject (s : State) (e : EvId) (inst bor : Nat) : Nat :=
  if bor ≠ 0 then bor
  else if e.code / 256 = evBRG_RESET_START.code / 256 then inst % 32
  else if e.code / 256 = evQUE_Q_ON.code / 256 || e = evPLT_STORE_GAP || e = evPLT_STORE_RESUMED || e = evPLT_ELASTIC_ENTER
      || e = evPLT_PLOT_ECC then (if inst < 16384 then s.get (QUE_CFG0_BOROUGH inst) else 0)
  else if e = evBFM_CHAIN_GAP || e = evBFM_CHAIN_MISMATCH || e = evBFM_MEMBER_LEFT || e = evBFM_BEAM_SHED then s.beamBorough inst
  else 0

/-- One occurrence (R607, R608): counted, made pending and offered to every route. -/
def State.raise1 (s : State) (e : EvId) (inst : Nat) (det : List Detail) (bor0 : Nat) (pol mand nolog : Bool) : State :=
  let bor := s.subject e inst bor0
  let mand := mand || pol
  let s1 := s.bump (EVT_CNT e.src)
  let s2 := s1.wn (EVT_PEND (e.src / 32)) (s1.rn (EVT_PEND (e.src / 32)) ||| 2 ^ (e.src % 32))
  let r := s2.evRec e inst bor det pol mand
  let q0 := s2.isSet (EVT_ROUTE_Q0 e.src) && (s2.eventQueue 0).isSome
  let qb := bor ≠ 0 && bit (s2.rn (EVT_TMASK e.src)) bor && (s2.eventQueue bor).isSome
  let v : Option Nat := if s2.isSet (EVT_ROUTE_VEC_EN e.src) then some (s2.get (EVT_ROUTE_VEC e.src)) else none
  let s3 := if qb then s2.queueRec bor r mand (if q0 then none else v) else s2
  let s4 := if q0 then s3.queueRec 0 r mand v else s3
  let s5 := match v with
    | some n => if q0 || qb then s4 else s4.vecDue 0 n
    | none => s4
  if !nolog && (s5.isSet (EVT_ROUTE_LOG e.src) || mand) then s5.stageLog r mand else s5

/-- Raise an event, and with it POST_LOST (R387) when the staging queue first loses an item and STAGE_REFUSED (R616)
once per run of refusals. -/
def State.raise (s : State) (e : EvId) (inst : Nat := 65535) (det : List Detail := []) (bor : Nat := 0)
    (pol : Bool := false) (mand : Bool := false) (nolog : Bool := false) : State :=
  let s1 := s.raise1 e inst det bor pol mand nolog
  let s2 := if s1.log.stageRun && !s.log.stageRun then s1.raise1 evLOG_STAGE_REFUSED 65535 [] 0 false false false else s1
  if s1.isSet (SYS_PQ_STAT_OVF 32) && !s.isSet (SYS_PQ_STAT_OVF 32)
  then s2.raise1 evSYS_POST_LOST 32 [.w4 32] 0 false false false else s2

/-- Add to a saturating counter and raise `e` when it first saturates. -/
def State.bumpSat (s : State) (r : Reg) (e : EvId) (inst : Nat := 65535) (n : Nat := 1) : State :=
  let s1 := s.bump r n
  if s1.rn r = 4294967295 && s.rn r ≠ 4294967295 then s1.raise e inst else s1

/-- Whether EVT_N0 (`pin` 0) or EVT_N1 (`pin` 1) is driven low (R612). -/
def State.evtPin (s : State) (pin : Nat) : Bool :=
  (List.range 288).any (fun n =>
    s.isSet (if pin = 0 then EVT_ROUTE_PIN0 n else EVT_ROUTE_PIN1 n) && bit (s.rn (EVT_PEND (n / 32))) (n % 32))

/-! ## Pops that stall (R384) -/

/-- A pop of queue n stalls (R384). -/
def State.popStall (s : State) (n fn : Nat) : State := { s with popWait := s.popWait ++ [⟨n, fn, s.tb.fc⟩] }

/-- The oldest pop that stalls on queue n. -/
def State.stalledPop (s : State) (n : Nat) : Option PopWait := s.popWait.find? (fun w => w.queue == n)

/-- The oldest stalled pop of queue n goes on. -/
def State.popResume (s : State) (n : Nat) : State :=
  match s.stalledPop n with
  | none => s
  | some w => { s with popWait := s.popWait.erase w }

end Sys2Proof.Machine
end

