-- ==== Sys2Proof/Machine/BusMerge.lean ====
section
/-! DEFINITION. How a write request meets a register: byte enables (R504), access codes (R12), reserved encodings (R14),
reserved addresses (R508) and the pair holding register (R507). -/
namespace Sys2Proof

/-- The bits that the byte enables of a write cover. -/
def Wr.mask (w : Wr) : Nat :=
  (if w.be % 2 = 1 then 0xFF else 0) + (if w.be / 2 % 2 = 1 then 0xFF00 else 0)
    + (if w.be / 4 % 2 = 1 then 0xFF0000 else 0) + (if w.be / 8 % 2 = 1 then 0xFF000000 else 0)

/-- Whether a write puts a 1 on bit `b` in an enabled byte. -/
def Wr.hits (w : Wr) (b : Nat) : Bool := (w.v.toNat &&& w.mask) / 2 ^ b % 2 == 1

/-- Whether the enabled bytes of a write reach a field. -/
def Wr.reaches (w : Wr) (hi lo : Nat) : Bool := (w.mask / 2 ^ lo) % 2 ^ (hi + 1 - lo) != 0

namespace Machine

/-- Whether a value lies in a list of reserved ranges. -/
def inRanges (v : Nat) (l : List (Nat × Nat)) : Bool := l.any (fun r => decide (r.1 ≤ v) && decide (v ≤ r.2))

/-- The old word with the enabled bytes of the written one. -/
def merged (old : Nat) (w : Wr) : Nat := old - (old &&& w.mask) + (w.v.toNat &&& w.mask)

/-- One field of a register under a write: its new value, and whether the write named a reserved encoding (R12, R14,
R504). -/
def fldWrite (f : FldRow) (old : Nat) (w : Wr) : Nat × Bool :=
  let cur := bits old f.hi f.lo
  let new := bits (merged old w) f.hi f.lo
  match f.acc with
  | .rw => if w.reaches f.hi f.lo && inRanges new f.rsv then (cur, true) else (new, false)
  | .w1c => (cur - (cur &&& bits (w.v.toNat &&& w.mask) f.hi f.lo), false)
  | .clr => (if w.mask = 0 then cur else 0, false)
  | .set1 => (if w.mask = 0 then cur else 2 ^ (f.hi + 1 - f.lo) - 1, false)
  | .ro | .wo | .sc | .rp => (cur, false)

/-- A register word under a write, field by field; bits that no field covers read 0 and ignore the write (R13). -/
def wordWrite (fs : List FldRow) (old : Nat) (w : Wr) : Nat × Bool :=
  fs.foldl (fun a f =>
    let r := fldWrite f old w
    (a.1 + r.1 * 2 ^ f.lo, a.2 || r.2)) (0, false)

/-- A reserved access (R508): counted, recorded, and ACCESS_RESERVED raised at most once per millisecond of Meridian
time and function. -/
def State.reservedHit (s : State) (fn bar off : Nat) (write : Bool) : State :=
  let s1 := (s.bump (SYS_ACC_CNT fn)).wn (SYS_ACC_LAST fn)
    (b2n write * 2 ^ 31 + bar / 2 % 4 * 2 ^ 28 + off % 2 ^ 26)
  let due := match (s.func fn).accRaised with
    | none => true
    | some t => decide (t + (mtMs : Int) ≤ s.mt) || decide (s.mt < t)
  if due then (s1.setFunc fn { s1.func fn with accRaised := some s.mt }).raise evSYS_ACCESS_RESERVED fn else s1

/-- A read of a reserved address of BAR0 (R508): it reads 0. -/
def State.readReserved (s : State) (fn off : Nat) : State :=
  (s.reservedHit fn 0 off false).emit (.readDone fn off (List.replicate 4 0#8))

/-- A width-refused access (R504, R506): counted with WIDTH set, and ACCESS_WIDTH raised. -/
def State.widthHit (s : State) (fn bar off : Nat) (write : Bool := true) : State :=
  ((s.bump (SYS_ACC_CNT fn)).wn (SYS_ACC_LAST fn) (b2n write * 2 ^ 31 + 2 ^ 30 + bar / 2 % 4 * 2 ^ 28 + off % 2 ^ 26)).raise
    evSYS_ACCESS_WIDTH fn

/-- What a write meets before it merges: it goes on, it is ignored with this effect, or it goes on with some bits of
the word disabled. -/
inductive Guard where
  | go
  | ignore (s : State)
  | only (w : Wr) (s : State)

/-- The write with the bits hi:lo replaced by those the register holds, so that the field keeps its value. -/
def Wr.keep (w : Wr) (old hi lo : Nat) : Wr := { w with v := w32 (setBits w.v.toNat hi lo (bits old hi lo)) }

/-- Apply a write to the register of a key: the fields merge, and a reserved encoding raises ACCESS_VALUE (R14). -/
def State.mergeRaw (s : State) (key : Nat) (w : Wr) : State :=
  match regAt key with
  | none => s
  | some (row, x) =>
    let r : Reg := ⟨key, row.reset x⟩
    let m := wordWrite row.fields (s.rn r) w
    let s1 := s.wn r m.1
    if m.2 then s1.raise evSYS_ACCESS_VALUE w.fn else s1

end Machine
end Sys2Proof
end

