-- ==== Sys2Proof/Machine/Pairs.lean ====
section
/-! DEFINITION. The pair holding register (R507): writes of the halves of 64-bit registers, with the checks their blocks
make, and the point at which a held `_LO` is applied. -/
namespace Sys2Proof.Machine

/-- Whether the register of a key is the LO half of an LO/HI pair. -/
def isPairLo (key : Nat) : Bool := match regAt key with
  | some (row, _) => row.lo
  | none => false

/-- The ring control register of a command-ring register key (R537). -/
def ringCtlKey (key : Nat) : Nat := key / 64 * 64

/-- A write of one half of an LO/HI pair, or of another `TB_ADJ` register, with the check of its block: `TB_ADJ` while GO = 1 (R59), ring bases while
`EN` = 1 (R337, R537), `GAZ_CTR` while `ROOT` = 1 (R585). A write of `TB_ADJ_AMT` ends its showing a slew's remainder
(R60). -/
def State.pairHalf (s : State) (key : Nat) (w : Wr) : State :=
  if 0x30040 ≤ key && key < 0x3005C then
    if s.isSet TB_ADJ_CTL_GO then s.raise evTB_ADJ_REFUSED
    else
      let s1 := s.mergeRaw key w
      if 0x30048 ≤ key && key < 0x30050 then
        { s1 with tb := { s1.tb with slew := s1.tb.slew.map (fun x => { x with shown := false }) } }
      else s1
  else if 0x84000 ≤ key && key < 0x86000 then
    if bit (mapGet 0#32 (ringCtlKey key) s.regs).toNat 31 then s.reservedHit w.fn 0 key true else s.mergeRaw key w
  else if 0xD8000 ≤ key && key < 0xDA000 && key % 256 < 0x10 then
    if s.isSet (CMP_JOB_CTL_EN ((key - 0xD8000) / 256)) then s.raise evCMP_CFG_BUSY ((key - 0xD8000) / 256) [] ((key - 0xD8000) / 256)
    else s.mergeRaw key w
  else if key = 0xF0030 || key = 0xF0034 then
    if s.isSet GAZ_CTL_ROOT then s.raise evSYS_ACCESS_VALUE w.fn else s.mergeRaw key w
  else s.mergeRaw key w

/-- Apply the `_LO` write that a function holds, if any (R507): its enabled bytes were merged when it was held. -/
def State.flushHeld (s : State) (fn : Nat) : State :=
  match (s.func fn).held with
  | none => s
  | some (k, v) =>
    let s1 := s.setFunc fn { s.func fn with held := none }
    s1.pairHalf k ⟨fn, 15, v⟩

/-- Whether BAR0 offset `off` is a reserved address because start-up or a warm reset has not ended (R654): outside the SYS block and
`TB_STATUS` every one is. -/
def State.shut (s : State) (off : Nat) : Bool :=
  !s.isSet SYS_START_READY && decide (0x10000 ≤ off % 2 ^ 32) && decide (off % 2 ^ 32 ≠ 0x30000)

/-- A register access of physical function 0 only: any other function meets a reserved address (R498, R508), every one does
before `READY` (R654), and so does an access to a die that is absent (R3). -/
def State.pfOnly (s : State) (w : Wr) (off : Nat) (f : State → State) : State :=
  let s1 := s.flushHeld w.fn
  if w.fn = 0 && !s1.shut off && !s1.absent off then f s1 else s1.reservedHit w.fn 0 off true

end Sys2Proof.Machine
end

