-- ==== Sys2Proof/Machine/Grid.lean ====
section
/-! DEFINITION. The global sample grids (chapter 01): instants, frame boundaries, bound units, and the staging of
changes. -/
namespace Sys2Proof.Machine

/-! ## Grid descriptors (R21 to R26, R718) -/

/-- Whether grid g has a descriptor in force. -/
def State.gridValid (s : State) (g : Nat) : Bool := s.isSet (SYS_GRID_CTL_VALID g)

/-- `EPOCH` of grid g. -/
def State.gridEpoch (s : State) (g : Nat) : Int :=
  mtOf (s.rd64 (SYS_GRID_EP_SEC_LO g) (SYS_GRID_EP_SEC_HI g)) (s.rn (SYS_GRID_EP_NS g)) (s.rn (SYS_GRID_EP_FRAC g))

/-- `NUM` of grid g. -/
def State.gridNum (s : State) (g : Nat) : Nat := s.rd64 (SYS_GRID_NUM_LO g) (SYS_GRID_NUM_HI g)

/-- `DEN` of grid g. -/
def State.gridDen (s : State) (g : Nat) : Nat := s.rn (SYS_GRID_DEN g)

/-- `FRAME_LOG2` of grid g. -/
def State.frameLog2 (s : State) (g : Nat) : Nat := s.get (SYS_GRID_CTL_FRAME_LOG2 g)

/-- Samples of a frame of grid g. -/
def State.frameLen (s : State) (g : Nat) : Nat := 2 ^ s.frameLog2 g

/-- The instant t(k) of grid sample k (R23): computed afresh from k, rounded to 2^-16 ns, ties up. -/
def State.gridInstant (s : State) (g k : Nat) : Int :=
  s.gridEpoch g + divRound ((k * s.gridDen g * mtSec : Nat) : Int) (max 1 (s.gridNum g))

/-- The least index whose instant, in blocks of `len` samples, is at or after a Meridian time. -/
def State.firstBlockAt (s : State) (g len : Nat) (t : Int) : Nat :=
  let d := t - s.gridEpoch g
  if d ≤ 0 then 0
  else ceilDiv (s.gridNum g * (2 * d.toNat - 1)) (2 * max 1 (len * s.gridDen g) * mtSec)

/-- The least grid index k with t(k) at or after a Meridian time. -/
def State.gridIndexAt (s : State) (g : Nat) (t : Int) : Nat := s.firstBlockAt g 1 t

/-- The grid index of the first frame boundary at or after a Meridian time (R30). -/
def State.boundaryAt (s : State) (g : Nat) (t : Int) : Nat :=
  s.firstBlockAt g (s.frameLen g) t * s.frameLen g

/-- Whether a rate and a frame length are legal (R22). -/
def gridLegal (num den flog2 : Nat) : Bool :=
  num ≠ 0 && den ≠ 0 && den ≤ num && num ≤ 8000000000 * den && 10 ≤ flog2 && flog2 ≤ 24

/-! ## Bound units (R26, R719) -/

/-- The state of a slot: 0 IDLE, 1 PENDING, 2 BOUND. -/
def State.slotState (s : State) (n : Nat) : Nat := s.get (CHP_STAT_STATE n)

/-- What the hub holds of a slot. -/
def State.slot (s : State) (n : Nat) : Slot := mapGet {} n s.slots
/-- Put what the hub holds of a slot. -/
def State.setSlot (s : State) (n : Nat) (x : Slot) : State := { s with slots := mapPut {} n x s.slots }

/-- The grid to which a slot is bound, or will be with the bind that waits. -/
def Slot.boundGrid (x : Slot) : Nat := if x.waits = 1 then x.bindGrid else x.grid

/-- Whether the output of a slot runs: from the boundary of its bind until its output has reached that of its unbind. -/
def State.slotRuns (s : State) (n : Nat) : Bool := (s.slot n).run

/-- The word of `CHP_SRC` that a slot works on: that of its bind while its output runs. -/
def State.srcWord (s : State) (n : Nat) : Nat := if (s.slot n).run then (s.slot n).src else s.rn (CHP_SRC n)

/-- `TYPE` of a source word (R165): 0 none, 1 converter input, 2 node stream, 3 test pattern. -/
def srcType (w : Nat) : Nat := bits w 31 30
/-- `SHEET` of a source word. -/
def srcSheet (w : Nat) : Nat := bits w 29 24
/-- `INDEX` of a source word. -/
def srcIndex (w : Nat) : Nat := bits w 9 0

/-- Number of elements that satisfy a condition. -/
def countIf {α : Type} (p : α → Bool) (l : List α) : Nat := (l.filter p).length

/-- Units bound to grid g (R719): slots BOUND or PENDING on a bind, the front end while BOUND or PENDING, trigger
outputs not OFF with `CAP_EN`, open captures, outputs in frame-marker mode, converter groups in locked mode. -/
def State.gridBound (s : State) (g : Nat) : Nat :=
  countIf (fun (e : Nat × Slot) => e.2.on && e.2.boundGrid == g) s.slots
    + b2n (s.get SFE_STAT_STATE != 0 && s.fget SFE_CTL_GRID == g)
    + countIf (fun o => s.get (TRG_OUT_STAT_STATE o) != 0 && s.isSet (TRG_OUT_CFG_CAP_EN o)
        && s.get (TRG_CAP0_GRID o) == g) (List.range 64)
    + countIf (fun (c : Capture) => c.grid == g) s.captures
    + countIf (fun n => s.get (MGB_SIG_CFG_MODE n) == 2 && s.get (MGB_SIG_CFG_GRID n) == g) (List.range 32)
    + countIf (fun n => s.fget (CNV_GRP_CTL_LOCK_EN (n / 3) (n % 3)) == 1 && s.fget (CNV_GRP_CTL_RUN (n / 3) (n % 3)) == 1
        && s.get (CNV_GRP_STAT_ASLEEP (n / 3) (n % 3)) == 0
        && s.fget (CNV_GRP_LOCK_GRID (n / 3) (n % 3)) == g) (List.range s.part.groups)

/-- Whether any unit is bound to any grid (R58). -/
def State.anyBound (s : State) : Bool := (List.range 8).any (fun g => decide (s.gridBound g ≠ 0))

/-! ## Staging (R27 to R33) -/

/-- 2.0 µs, the least time between staging and the boundary (R30, R31). -/
def stageLead : Int := ((2 * mtUs : Nat) : Int)

/-- The boundary of a change staged now: the first at or after the activation time, none where it lies less than 2.0 µs
ahead (R30); without an activation time the first at least 2.0 µs ahead (R31). -/
def State.stageIndex (s : State) (g : Nat) (act : Option Int) : Option Nat :=
  match act with
  | none => some (s.boundaryAt g (s.mt + stageLead))
  | some t =>
    let k := s.boundaryAt g t
    if s.mt + stageLead ≤ s.gridInstant g k then some k else none

/-- The distinct boundaries that wait on a unit. -/
def State.pendIdx (s : State) (u : UnitId) : List Nat :=
  ((s.staged.filter (fun x => x.unit == u)).map (fun x => x.index)).eraseDups

/-- Whether a change for boundary k would be the unit's fifth pending boundary (R33). -/
def State.stageFull (s : State) (u : UnitId) (k : Nat) : Bool :=
  let l := s.pendIdx u
  !l.contains k && 4 ≤ l.length

/-- Whether two lists of staged values share a bit of a register. -/
def svalsMeet (a b : List SVal) : Bool :=
  a.any (fun x => b.any (fun y => x.key == y.key && (x.mask &&& y.mask) != 0))

/-- INSTANCE of a unit; of the front end, of which there is one, 65,535 (DESIGN CHOICE, log entry 44). -/
def UnitId.inst : UnitId → Nat
  | .slot n => n
  | .beam b => b
  | .fe => 65535
  | .input i => i

/-- The register that shows how many boundaries wait on a unit. -/
def State.showPend (s : State) (u : UnitId) : State :=
  match u with
  | .slot n => s.put (CHP_STAT_PEND n) (s.pendIdx u).length
  | .fe => s.put SFE_STAT_PEND (s.pendIdx u).length
  | .beam _ => s
  | .input _ => s

/-- The word of a change that the hub makes by itself: it is no action of R33, and above every word of one. -/
def hubAction : Nat := 2 ^ 32

/-- The boundary at which a change that the hub makes by itself takes effect on a unit: the first, k, or, where the unit holds four
others, the first of these (DESIGN CHOICE, log entry 68). -/
def State.hubIndex (s : State) (u : UnitId) (k : Nat) : Nat :=
  if s.stageFull u k then
    match s.pendIdx u with
    | [] => k
    | i :: l => l.foldl min i
  else k

/-- Stage a change; an earlier action's value for the same field and boundary is overwritten, which raises STAGE_OVERWRITE once for
the unit (R33). Where several earlier actions overlap the later one, `DETAIL` names the one that was staged last, and the `INSTANCE` of
the front end, of which there is one, is 65,535 (DESIGN CHOICE, log entry 44). -/
def State.stage (s : State) (x : Staged) : State :=
  let old := s.staged.filter (fun y => y.unit == x.unit && y.index == x.index && y.grid == x.grid
    && decide (y.action < hubAction) && svalsMeet y.vals x.vals)
  let s1 := ({ s with staged := s.staged ++ [x] }).showPend x.unit
  match old.getLast? with
  | none => s1
  | some y => if hubAction ≤ x.action then s1 else s1.raise evCMD_STAGE_OVERWRITE x.unit.inst [.w4 y.action, .w4 x.action, .w8 x.index]

/-- Discard the changes staged on a unit (R168, R578). -/
def State.unstage (s : State) (u : UnitId) : State :=
  ({ s with staged := s.staged.filter (fun x => x.unit != u) }).showPend u

/-- The key under which a word of the trim image is staged (R292). -/
def trimKey (page off : Nat) : Nat := 2 ^ 50 + 8192 * page + off

/-- Put one staged value in force: a register's field, or a word of the trim image. -/
def State.forceVal (s : State) (v : SVal) : State :=
  if 2 ^ 50 ≤ v.key then { s with trimImg := mapPut none (v.key - 2 ^ 50) (some (w32 v.val)) s.trimImg }
  else match regOfKey v.key with
  | none => s
  | some r =>
    let old := (s.frd r).toNat
    s.fwr r (w32 (old - (old &&& v.mask) + (v.val &&& v.mask)))

/-- Put a change's values in force. -/
def State.forceVals (s : State) (l : List SVal) : State := l.foldl State.forceVal s

/-- The bits of a register's staged fields. -/
def RegRow.stagedMask (r : RegRow) : Nat :=
  r.fields.foldl (fun a f => if f.staged then a + (2 ^ (f.hi + 1 - f.lo) - 1) * 2 ^ f.lo else a) 0

/-- The staged fields of a register as its shadow holds them now. -/
def State.shadowVal (s : State) (key : Nat) : List SVal :=
  match regAt key with
  | none => []
  | some (row, x) => [⟨key, row.stagedMask, s.rn ⟨key, row.reset x⟩⟩]

/-- A snapshot of the staged fields of several registers. -/
def State.snapshot (s : State) (keys : List Nat) : List SVal := keys.flatMap s.shadowVal

/-- Whether a shadow differs from the values in force on any of the registers. -/
def State.dirty (s : State) (keys : List Nat) : Bool :=
  (s.snapshot keys).any (fun v => match regOfKey v.key with
    | none => false
    | some r => ((s.frd r).toNat &&& v.mask) != (v.val &&& v.mask))

/-- The word that names a register commit of physical function 0 as an action (R33). -/
def commitAction : Nat := 0x80000000

end Sys2Proof.Machine
end

