-- ==== Sys2Proof/Machine/Common.lean ====
section
/-! DEFINITION. Operations that several blocks share: power-domain checks, spares and standing policies, the
software-visible post queues, and the trim image. -/
namespace Sys2Proof.Machine

/-! ## Power domains (R628, R629) -/

/-- Whether a domain is AWAKE. -/
def State.awake (s : State) (d : Nat) : Bool := s.get (PWR_DOM_STATE d) = 0

/-- A request to a domain that is not AWAKE is refused and counted; TRAFFIC_REFUSED is raised once per run of
refusals (R629). -/
def State.refuseDom (s : State) (d : Nat) : State :=
  let s1 := s.bump (PWR_DOM_REF d)
  if s1.spareBook.refusing.contains d then s1
  else ({ s1 with spareBook := { s1.spareBook with refusing := d :: s1.spareBook.refusing } }).raise
    evPWR_TRAFFIC_REFUSED d

/-- Domain d is awake again: the next refusal begins another run (R629). -/
def State.refusedEnd (s : State) (d : Nat) : State :=
  { s with spareBook := { s.spareBook with refusing := s.spareBook.refusing.filter (fun x => x != d) } }

/-- A request to power domain d down or up is accepted now (R628). -/
def State.domStamp (s : State) (d : Nat) : State :=
  { s with spareBook := { s.spareBook with domAt := mapPut none d (some s.mt) s.spareBook.domAt } }

/-- Whether `us` microseconds have passed since the latest accepted request of domain d (R632, R636). -/
def State.domPassed (s : State) (d us : Nat) : Bool := match mapGet none d s.spareBook.domAt with
  | some t => decide (t + ((us * mtUs : Nat) : Int) ≤ s.mt) || decide (s.mt < t)
  | none => true

/-! ## Spares and standing policies (R41 to R44, R638 to R646) -/

/-- Whether the standing policy of spare class c, or `ROUTE_SW` (bit 16), is armed. -/
def State.armed (s : State) (c : Nat) : Bool := bit (s.rn SYS_POLICY) c

/-- Slots that R640 would find, summed over the engines (R647). -/
def State.spareSlots (s : State) : Nat :=
  countIf (fun n => s.slotState n == 0 && s.get (CHP_SRC_TYPE n) == 0 && !s.retiredSlots.contains n) (List.range 1024)

/-- Spares left of a class: those of class 0 stand in the inputs that the part has (R638), those of class 2 are counted (R647). -/
def State.sparesLeft (s : State) (c : Nat) : Nat :=
  if c = 0 then s.get (PWR_SPARE_LEFT 0) - (768 - s.part.inputs)
  else if c = 2 then s.spareSlots
  else s.get (PWR_SPARE_LEFT c)

/-- The spares left of class c have changed with `part`: WEAR_WARN is raised once at the threshold (R644). -/
def State.wearCheck (s : State) (c part : Nat) : State :=
  if s.sparesLeft c ≤ s.rn (PWR_SPARE_WARN c) && !s.spareBook.warned.contains c then
    (({ s with spareBook := { s.spareBook with warned := c :: s.spareBook.warned } }).put PWR_STAT_WEAR_SEEN 1).raise
      evPWR_WEAR_WARN part [.w4 c]
  else s

/-- A spare of class c is used: the counts move (R644, R647). -/
def State.useSpare (s : State) (c part : Nat) : State :=
  ((s.put (PWR_SPARE_LEFT c) (s.get (PWR_SPARE_LEFT c) - 1)).put (PWR_SPARE_USED c)
    (satAdd 16 (s.get (PWR_SPARE_USED c)) 1)).wearCheck c part

/-- A spare sector of MRAM takes the place of one (R642): the next of those behind the 4,096 in service (DESIGN CHOICE, log entry 74). -/
def State.spareSector (s : State) : Nat := 4096 + s.get (PWR_SPARE_USED 10)

/-- The remap table takes a sector and its spare. -/
def State.mramRemap (s : State) (sector : Nat) : State :=
  ({ s with mramMap := mapPut 0 sector s.spareSector s.mramMap } : State).useSpare 10 sector

/-- A failing part of class c finds no spare: SPARE_EXHAUSTED once for each part (R645). -/
def State.spareExhausted (s : State) (c part : Nat) : State :=
  if s.spareBook.exhausted.contains (c, part) then s
  else
    (({ s with spareBook := { s.spareBook with exhausted := (c, part) :: s.spareBook.exhausted } }).put
      PWR_STAT_EXHAUST_SEEN 1).raise evPWR_SPARE_EXHAUSTED part [.w4 c]

/-- The values of a policy record (R44): the policy field, the code of the fault, the part withdrawn, and the spare or
route put in its place. -/
def policyDetail (c fault part spare : Nat) : List Detail := [.w4 c, .w4 fault, .w4 part, .w4 spare]

/-- Write the logbook record of a policy action that raises no event of its own (R44). -/
def State.policyLog (s : State) (e : EvId) (inst : Nat) (det : List Detail) : State :=
  s.stageLog (s.evRec e inst 0 det true true) true

/-! ## Software-visible post queues (R378 to R390) -/

/-- Depth of post queue n (R387). -/
def pqDepth (n : Nat) : Nat := if n ≤ 15 || n = 32 then 64 else if n ≤ 31 then 1024 else 256

/-- A post queue loses an item (R380, R387): counted, `OVF` set, and POST_LOST raised as `OVF` changes to 1. -/
def State.pqLose (s : State) (n : Nat) : State :=
  let s1 := s.bump (SYS_PQ_LOST n)
  if s.isSet (SYS_PQ_STAT_OVF n) then s1
  else
    let s2 := s1.put (SYS_PQ_STAT_OVF n) 1
    if n ≤ 15 then s2 else s2.raise evSYS_POST_LOST n [.w4 n]

/-- The contents of a full-policy queue after an item is offered, and whether one is lost (R378): overwrite-oldest or,
with `POLICY` set, refuse-newest. -/
def pqOffer {α : Type} (refuse : Bool) (depth : Nat) (q : List α) (x : α) : List α × Bool :=
  if q.length < depth then (q ++ [x], false) else if refuse then (q, true) else (q.tail ++ [x], true)

/-! ## The trim image (R282 to R288) -/

/-- Whether the part has a trim page (R280). -/
def State.pageFitted (s : State) (n : Nat) : Bool := decide (n ≤ 3) || (decide (8 ≤ n) && decide (n < 8 + s.part.part.dies))

/-- The bits of a word of a trim page that its layout gives a field (R282); the others are 0. -/
def trimMask (page off : Nat) : Nat :=
  if page = 0 then 0xFF
  else if page = 2 || page = 3 then 0xFFFF
  else if 8 ≤ page && off < 0x19A0 then 2 ^ 29 - 1
  else if 8 ≤ page && 0x1B20 ≤ off then 0xFF
  else 2 ^ 32 - 1

/-- A word of the payload of a trim page as made (R282). -/
def factoryWord (page off : Nat) : Nat := Config.factoryTrim page (off / 4) % 2 ^ 32 &&& trimMask page off

/-- What a word of the trim image holds where nothing has changed it since the load: the factory contents where a copy
was loaded, the neutral value before the load and where none passed (R282, R285). -/
def State.trimBase (s : State) (page off : Nat) : Nat :=
  if s.get (CAL_PAGE_STAT_FROM page) = 1 || s.get (CAL_PAGE_STAT_FROM page) = 2 then factoryWord page off
  else if page = 0 && off = 0x20 then 128 else 0

/-- A word of the trim image: page and byte offset. -/
def State.trimWord (s : State) (page off : Nat) : Nat :=
  match mapGet none (8192 * page + off) s.trimImg with
  | some w => w.toNat
  | none => s.trimBase page off

/-- Put a word into the trim image. -/
def State.setTrim (s : State) (page off v : Nat) : State :=
  { s with trimImg := mapPut none (8192 * page + off) (some (w32 v)) s.trimImg }

/-- The user correction in force of converter P at gain g (R282, R290): offset in 1/16 LSB and gain in 2^-22. -/
def State.userCor (s : State) (conv g : Nat) : Int × Int :=
  (sext 16 (s.trimWord 3 (0x20 + 8 * (4 * conv + g))), sext 16 (s.trimWord 3 (0x24 + 8 * (4 * conv + g))))

end Sys2Proof.Machine
end

