-- ==== Sys2Proof/Machine/Arb.lean ====
section
/-! DEFINITION. Roundabouts: decisions, wait limits, hold-limit mode and statistics (R391 to R408). -/
namespace Sys2Proof.Machine

/-- Requesters of roundabout k. -/
def arbN (k : Nat) : Nat := Config.arbReqs (Config.arbClass k)

/-- Whether roundabout k ranks by class and round robin (MEM and NEAR, R391). -/
def arbLarge (k : Nat) : Bool := Config.arbClass k ≤ 1

/-- A lane of a roundabout. -/
def State.arb (s : State) (k l : Nat) : ArbLane := mapGet {} (64 * k + l) s.arbs
/-- Put a lane of a roundabout. -/
def State.setArb (s : State) (k l : Nat) (x : ArbLane) : State := { s with arbs := mapPut {} (64 * k + l) x s.arbs }

/-- The settings of roundabout k as its registers hold them. -/
def State.arbCfg (s : State) (k : Nat) : ArbCfg := ⟨s.rn (ARB_CTL k), (List.range (arbN k)).map (fun r => s.rn (ARB_REQ k r))⟩

/-- The settings in force at a lane's next decision (R400): those that stood at its previous one. -/
def ArbLane.inForce (x : ArbLane) (k : Nat) : ArbCfg := match x.cfg with
  | some c => c
  | none => ⟨(ARB_CTL k).reset, (List.range (arbN k)).map (fun r => (ARB_REQ k r).reset)⟩

/-- `LIMIT` of requester r. -/
def ArbCfg.limit (c : ArbCfg) (r : Nat) : Nat := bits (c.reqs.getD r 0) 7 0
/-- `CLASS` of requester r. -/
def ArbCfg.cls (c : ArbCfg) (r : Nat) : Nat := bits (c.reqs.getD r 0) 9 8

/-- The rank order of a small class, highest first (R395). -/
def ArbLane.order (x : ArbLane) (k : Nat) : List Nat := if x.rank.isEmpty then List.range (arbN k) else x.rank

/-- Drop a requester to the lowest rank. -/
def ArbLane.drop (x : ArbLane) (k r : Nat) : ArbLane := { x with rank := (x.order k).filter (fun a => a != r) ++ [r] }

/-- The first member at or after a pointer, in ascending order with wrap-around. -/
def firstFrom (p n : Nat) (l : List Nat) : Option Nat :=
  match (List.range n).find? (fun r => decide (p ≤ r) && l.contains r) with
  | some r => some r
  | none => (List.range n).find? (fun r => l.contains r)

/-- The winner among eligible requesters, and whether it was forced (R395 to R398). -/
def ArbLane.winner (x : ArbLane) (k : Nat) (c : ArbCfg) (e : List Nat) : Option (Nat × Bool) :=
  let forced := e.filter (fun r => c.limit r != 0 && decide (c.limit r ≤ mapGet 0 r x.waits))
  if !forced.isEmpty then (firstFrom x.fptr (arbN k) forced).map (fun r => (r, true))
  else if arbLarge k then
    let top := e.foldl (fun a r => max a (c.cls r)) 0
    (firstFrom (mapGet 0 top x.ptr) (arbN k) (e.filter (fun r => c.cls r == top))).map (fun r => (r, false))
  else ((x.order k).find? (fun r => e.contains r)).map (fun r => (r, false))

/-- A win moves the rank order or the class pointer, and a forced one the forced pointer. -/
def ArbLane.won (x : ArbLane) (k : Nat) (c : ArbCfg) (r : Nat) (forced : Bool) : ArbLane :=
  let y := if arbLarge k then { x with ptr := mapPut 0 (c.cls r) (r + 1) x.ptr } else x.drop k r
  if forced then { y with fptr := r + 1 } else y

/-- A counter of the instance rises; SAT when it first saturates (R407). -/
def State.arbCount (s : State) (k : Nat) (r : Reg) : State := s.bumpSat r (evARB_SAT (Config.arbClass k)) k

/-- One more grant issued. -/
def State.arbBeat (s : State) (k : Nat) : State :=
  s.wr64 (ARB_BEATS_LO k) (ARB_BEATS_HI k) (s.rd64 (ARB_BEATS_LO k) (ARB_BEATS_HI k) + 1)

/-- The cycle of the grant in force: a transfer is made, or the cycle is dead because the requester withdrew (R402) or no
grant was issued (R404). -/
def State.arbCycle (s : State) (k l : Nat) (lines : List ArbReq) : State :=
  let x := s.arb k l
  match x.grant with
  | none => if x.dead then (s.arbBeat k).arbCount k (ARB_DEAD k) else s
  | some g =>
    let x1 := { x with waits := mapPut 0 g 0 x.waits, runs := mapPut 0 g 0 x.runs }
    match lines.find? (fun a => a.r == g && !a.fresh) with
    | some a =>
      (s.arbBeat k).setArb k l { x1 with prog := mapPut 0 g (if a.last then 0 else mapGet 0 g x1.prog + 1) x1.prog }
    | none => ((s.arbBeat k).arbCount k (ARB_DEAD k)).setArb k l { x1 with prog := mapPut 0 g 0 x1.prog }

/-- A requester loses this cycle: its wait counter and its run of lost cycles rise (R397), with `MAXWAIT` and the warning
threshold. -/
def State.arbLose (s : State) (k l warn r : Nat) : State :=
  let x := s.arb k l
  let run := mapGet 0 r x.runs + 1
  let s1 := s.setArb k l { x with waits := mapPut 0 r (mapGet 0 r x.waits + 1) x.waits, runs := mapPut 0 r run x.runs }
  let s2 := s1.put (ARB_RSTAT_MAXWAIT k r) (max (s1.get (ARB_RSTAT_MAXWAIT k r)) (min run 65535))
  if warn ≠ 0 && warn < run && !s2.isSet (ARB_STAT_WARN_SEEN k) then
    (s2.put (ARB_STAT_WARN_SEEN k) 1).raise (evARB_WAIT_WARN (Config.arbClass k)) k [.w4 r]
  else s2

/-- The lines of one cycle: losers wait; requesters that dropped their request lose their progress, and their run of
lost cycles ends. -/
def State.arbLines (s : State) (k l warn : Nat) (lines : List ArbReq) : State :=
  let g := (s.arb k l).grant
  let s1 := (lines.filter (fun a => g != some a.r)).foldl (fun (s : State) a => s.arbLose k l warn a.r) s
  let x := s1.arb k l
  let here := fun (r : Nat) => lines.any (fun a => a.r == r)
  let stays := fun (r : Nat) => lines.any (fun a => a.r == r && !a.fresh)
  s1.setArb k l { x with prog := x.prog.filter (fun e => stays e.1), runs := x.runs.filter (fun e => here e.1) }

/-- A forced win is counted (R407). -/
def State.arbForced (s : State) (k r : Nat) : State :=
  let n := s.get (ARB_RSTAT_FORCED k r)
  let s0 := (s.arbCount k (ARB_FORCED k)).put (ARB_RSTAT_FORCED k r) (satAdd 15 n 1)
  let s1 := if n = 32766 then s0.raise (evARB_SAT (Config.arbClass k)) k [.w4 r] else s0
  if s1.isSet (ARB_STAT_FORCED_SEEN k) then s1
  else (s1.put (ARB_STAT_FORCED_SEEN k) 1).raise (evARB_FORCED (Config.arbClass k)) k [.w4 r]

/-- A requester is cut (R405). -/
def State.arbCut (s : State) (k l r : Nat) : State :=
  let s1 := s.setArb k l ((s.arb k l).drop k r)
  ((((s1.put (ARB_RSTAT_CUT_SEEN k r) 1).put (ARB_STAT_CUT_SEEN k) 1).arbCount k (ARB_CUT k)).raise
    (evARB_HOLD_CUT (Config.arbClass k)) k [.w4 r])

/-- The decision for the next cycle (R395 to R400, R404, R405): `bad` says that its two circuits disagree. -/
def State.arbDecide (s : State) (k l : Nat) (c : ArbCfg) (e : List Nat) (bad : Bool) : State :=
  let x := s.arb k l
  let hold := bit c.ctl 31
  let holder := match x.grant with
    | some g => if hold && e.contains g then some g else none
    | none => none
  let cut := match holder with
    | some _ => decide (bits c.ctl 15 0 ≤ x.held)
    | none => false
  let s1 := match holder with
    | some g => if cut then s.arbCut k l g else s
    | none => s
  let e1 := if cut then e.filter (fun r => holder != some r) else e
  let y := s1.arb k l
  let pick : Option (Nat × Bool) := match holder with
    | some g => if cut then y.winner k c e1 else some (g, false)
    | none => y.winner k c e1
  let kept := holder.isSome && !cut
  match pick with
  | none => s1.setArb k l { y with grant := none, held := 0, dead := false, cfg := some (s1.arbCfg k) }
  | some (r, f) =>
    if bad then
      let s2 := s1.setArb k l { y with grant := none, held := 0, dead := true, cfg := some (s1.arbCfg k) }
      ((s2.arbCount k (ARB_CHECK k)).put (ARB_STAT_CHECK_SEEN k) 1).raise (evARB_CHECK_FAIL (Config.arbClass k)) k [.w4 r]
    else
      let z := if kept then y else y.won k c r f
      let s2 := s1.setArb k l { z with grant := some r, held := if kept then x.held + 1 else 1, dead := false,
                                       cfg := some (s1.arbCfg k) }
      if f then s2.arbForced k r else s2

/-- ARB_DECISION (R395 to R405): one cycle of lane l of roundabout k with its request lines: the grant in force is used,
losers wait, and the grant of the next cycle is fixed. A sleeping roundabout grants nothing (R406). -/
def execArbDecision (k l : Nat) (lines : List ArbReq) (bad : Bool) (s : State) : Host.Outcome State Fault Refusal :=
  if 68 ≤ k || Config.arbLanes (Config.arbClass k) ≤ l || s.isSet (ARB_STAT_ASLEEP k)
      || lines.any (fun a => decide (arbN k ≤ a.r)) then .next s
  else
    let x := s.arb k l
    let c := x.inForce k
    let s1 := (s.arbCycle k l lines).arbLines k l (bits c.ctl 27 16) lines
    let e := (lines.filter (fun a => !(a.last && !a.fresh && x.grant == some a.r))).map (fun a => a.r)
    .next (s1.arbDecide k l c e bad)

/-- A write of `ARB_CTL[k]`: `HOLD` exists on the instances that R405 names. -/
def State.arbCtlWrite (s : State) (k : Nat) (w : Wr) : State :=
  let c := Config.arbClass k
  let may := 4 ≤ c && c ≤ 10
  if !may && w.hits 31 then
    (s.mergeRaw (ARB_CTL k).key { w with v := w.v &&& 0x7FFFFFFF#32 }).raise evSYS_ACCESS_VALUE w.fn
  else s.mergeRaw (ARB_CTL k).key w

/-- A write of `ARB_REQ[r]`: `CLASS` is reserved on small classes (R408). -/
def State.arbReqWrite (s : State) (k r : Nat) (w : Wr) : State :=
  s.mergeRaw (ARB_REQ k r).key (if arbLarge k then w else { w with v := w.v &&& 0xFF#32 })

/-- The domain of roundabout k falls asleep (R406). -/
def State.arbSleep (s : State) (k : Nat) : State := s.put (ARB_STAT_ASLEEP k) 1

/-- The domain of roundabout k wakes: orders, pointers and counters start from their reset values (R406). -/
def State.arbWake (s : State) (k : Nat) : State :=
  let s1 := { s with arbs := s.arbs.filter (fun e => e.1 / 64 != k) }
  let s2 := (List.range (Config.arbLanes (Config.arbClass k))).foldl (fun (s : State) l =>
    s.setArb k l { cfg := some (s.arbCfg k) }) s1
  s2.put (ARB_STAT_ASLEEP k) 0

end Sys2Proof.Machine
end

