-- ==== Sys2Proof/Machine/Sha.lean ====
section
/-! DEFINITION. SHA-256 and HMAC-SHA-256 (R526: RFC 2104 with SHA-256), over lists of bytes. -/
namespace Sys2Proof.Machine

/-- The first 64 primes. -/
def shaPrimes : List Nat := (List.range 312).filter (fun p => 2 ≤ p && (List.range 18).all (fun d => d < 2 || p ≤ d || p % d != 0))

/-- The whole e-th root of n, found bit by bit from bit m - 1 down on top of r. -/
def rootFrom (e n : Nat) : Nat → Nat → Nat
  | 0, r => r
  | m + 1, r => rootFrom e n m (if (r + 2 ^ m) ^ e ≤ n then r + 2 ^ m else r)

/-- The first 32 bits of the fraction of the e-th root of p. -/
def rootFraction (e p : Nat) : Nat := rootFrom e (p * 2 ^ (32 * e)) 38 0 % 2 ^ 32

/-- The 64 round constants of SHA-256: from the cube roots of the primes. -/
def shaK : List Nat := shaPrimes.map (rootFraction 3)

/-- The initial hash value of SHA-256: from the square roots of the first eight primes. -/
def shaInit : List Nat := (shaPrimes.take 8).map (rootFraction 2)

/-- Rotate a 32-bit number right. -/
def rotr (n v : Nat) : Nat := (v / 2 ^ n) ||| (v * 2 ^ (32 - n) % 2 ^ 32)

/-- Addition modulo 2^32. -/
def add32 (a b : Nat) : Nat := (a + b) % 2 ^ 32

/-- The next word of the message schedule from the sixteen latest, newest first. -/
def shaNext (w : List Nat) : Nat :=
  let a := w.getD 14 0
  let b := w.getD 1 0
  let s0 := rotr 7 a ^^^ rotr 18 a ^^^ (a / 8)
  let s1 := rotr 17 b ^^^ rotr 19 b ^^^ (b / 1024)
  add32 (add32 (w.getD 15 0) s0) (add32 (w.getD 6 0) s1)

/-- Extend the message schedule by `n` words, newest first. -/
def shaExtend : Nat → List Nat → List Nat
  | 0, w => w
  | n + 1, w => shaExtend n (shaNext w :: w)

/-- Bits of the second word where the first has a one, of the third elsewhere. -/
def shaPick (e f g : Nat) : Nat := g ^^^ (e &&& (f ^^^ g))

/-- Bit by bit what at least two of three words have. -/
def shaMost (a b c : Nat) : Nat := (a &&& (b ||| c)) ||| (b &&& c)

/-- One round over the eight working words, with the sum of its constant and its message word. -/
def shaRound (h : List Nat) (kw : Nat) : List Nat :=
  let v := fun (i : Nat) => h.getD i 0
  let turn := fun (i p q r : Nat) => rotr p (v i) ^^^ rotr q (v i) ^^^ rotr r (v i)
  let t := (v 7 + turn 4 6 11 25 + shaPick (v 4) (v 5) (v 6) + kw) % 2 ^ 32
  let head := (t + turn 0 2 13 22 + shaMost (v 0) (v 1) (v 2)) % 2 ^ 32
  (head :: h.take 3) ++ (add32 (v 3) t :: (h.drop 4).take 3)

/-- The words of a block of 64 bytes, most significant byte first. -/
def shaWords (b : List Byte) : List Nat := (List.range 16).map (fun i => beNat ((b.drop (4 * i)).take 4))

/-- Process one block. -/
def shaBlock (h : List Nat) (b : List Byte) : List Nat :=
  let w := (shaExtend 48 (shaWords b).reverse).reverse
  let r := (shaK.zip w).foldl (fun h p => shaRound h (add32 p.1 p.2)) h
  (h.zip r).map (fun p => add32 p.1 p.2)

/-- The padded message: a one bit, zeros, and its length in bits. -/
def shaPad (m : List Byte) : List Byte :=
  m ++ [0x80#8] ++ List.replicate ((119 - m.length % 64) % 64) 0#8 ++ beBytes 8 (8 * m.length)

/-- Process the first `n` blocks of a message. -/
def shaBlocks : Nat → List Byte → List Nat → List Nat
  | 0, _, h => h
  | n + 1, m, h => shaBlocks n (m.drop 64) (shaBlock h (m.take 64))

/-- SHA-256. -/
def sha256 (m : List Byte) : List Byte :=
  let p := shaPad m
  (shaBlocks (p.length / 64) p shaInit).flatMap (beBytes 4)

/-- HMAC-SHA-256 under a key of at most 64 bytes. -/
def hmacSha256 (key m : List Byte) : List Byte :=
  let k := key ++ List.replicate (64 - key.length) 0#8
  let i := k.map (fun b => b ^^^ 0x36#8)
  let o := k.map (fun b => b ^^^ 0x5c#8)
  sha256 (o ++ sha256 (i ++ m))

end Sys2Proof.Machine
end

