-- ==== Sys2Proof/Machine/Store.lean ====
section
/-! DEFINITION. Plots, the cadastre and the writers of queues (R346 to R361, R365 to R368, R372): granting and freeing a
plot, and writing units into the tail of a chain. -/
namespace Sys2Proof.Machine

/-! ## Plots and the cadastre (R346, R349) -/

/-- The identifier that means no plot. -/
def noPlot : Nat := 0x7FFFFF

/-- Bytes of a plot. -/
def plotBytes : Nat := 65536

/-- The tier of a plot: 1 near, 0 far. -/
def plotTier (id : Nat) : Nat := id / 2 ^ 23 % 2

/-- A plot as the part is made: reserve and spare plots are spare, the others free. -/
def plotMade (id : Nat) : Plot :=
  if plotTier id = 1 then { state := if 3072 ≤ id % 2 ^ 23 then 5 else 0 } else { state := if 4194304 ≤ id then 5 else 0 }

/-- A plot. -/
def State.plot (s : State) (id : Nat) : Plot := mapGet (plotMade id) id s.plots
/-- Put a plot. -/
def State.setPlot (s : State) (id : Nat) (x : Plot) : State := { s with plots := mapPut (plotMade id) id x s.plots }

/-- A queue. -/
def State.que (s : State) (q : Nat) : Que := mapGet {} q s.ques
/-- Put a queue. -/
def State.setQue (s : State) (q : Nat) (x : Que) : State := { s with ques := mapPut {} q x s.ques }

/-- The place in a chain of a plot that was freed before its turn (R489). -/
def holePlot : Nat := 2 ^ 24

/-- Plots in a queue's chain. -/
def Que.held (x : Que) : Nat := countIf (fun p => p != holePlot) x.chain

/-- The free-count register of a tier. -/
def freeReg (tier : Nat) : Reg := if tier = 1 then PLT_NEAR_FREE else PLT_FAR_FREE

/-- Free plots of a tier. -/
def State.tierFree (s : State) (tier : Nat) : Nat := s.rn (freeReg tier)

/-- Unused escape plots of a tier. -/
def State.escFree (s : State) (tier : Nat) : Nat :=
  if tier = 1 then s.get PLT_ESC_FREE_NEAR else s.get PLT_ESC_FREE_FAR

/-- The tier that holds a queue's reserve (R356). -/
def State.resTier (s : State) (q : Nat) : Nat := if s.get (QUE_CFG0_TIER q) = 2 then 1 else 0

/-- The unused reserve of a queue. -/
def State.unusedOf (s : State) (q : Nat) : Nat := s.get (QUE_CFG1_MIN q) - (s.que q).held

/-- Unused reserves held in a tier. -/
def State.unusedRes (s : State) (tier : Nat) : Nat :=
  s.quesOn.foldl (fun a q => if s.resTier q = tier then a + s.unusedOf q else a) 0

/-- Whether a tier grants plots: the near tier while its domain is awake (R361), the far tier while no stack sleeps
(R630). -/
def State.tierUp (s : State) (tier : Nat) : Bool :=
  if tier = 1 then !s.isSet PLT_STAT_NEAR_ASLEEP else (List.range 6).all (fun i => s.get (PWR_DOM_STATE (84 + i)) == 0)

/-- The shared pool of a tier (R356). -/
def State.sharedPool (s : State) (tier : Nat) : Nat :=
  if s.tierUp tier then s.tierFree tier - s.unusedRes tier - s.escFree tier else 0

/-- The n-th number from `base` that a rising list does not hold. -/
def nthFree (used : List Nat) (base n : Nat) : Nat := used.foldl (fun x u => if u ≤ x then x + 1 else x) (base + n)

/-- First identifier and size of the pool of a tier as made, and the end of its identifiers. -/
def poolOf (tier : Nat) : Nat × Nat × Nat :=
  if tier = 1 then (2 ^ 23, 3072, 2 ^ 23 + 3200) else (0, 4194304, 4227072)

/-- A free plot of a tier (R347): which one is not specified, so it is drawn; a failing one only where no other is free
(R372). -/
def State.pickPlot (s : State) (tier : Nat) : Option Nat × State :=
  let p := poolOf tier
  let inPool := s.plots.filter (fun e => decide (p.1 ≤ e.1) && decide (e.1 < p.1 + p.2.1) && e.2.state != 0)
  let extra := (s.plots.filter (fun e => decide (p.1 + p.2.1 ≤ e.1) && decide (e.1 < p.2.2) && e.2.state == 0)).map Prod.fst
  let weak := (s.plots.filter (fun e => plotTier e.1 == tier && e.2.state == 3)).map Prod.fst
  let strong := p.2.1 - inPool.length
  if !s.tierUp tier then (none, s)
  else if strong + extra.length ≠ 0 then
    let d := s.draw (strong + extra.length)
    (some (if d.1 < strong then nthFree (inPool.map Prod.fst) p.1 d.1 else extra.getD (d.1 - strong) 0), d.2)
  else if weak.length ≠ 0 then
    let d := s.draw weak.length
    (some (weak.getD d.1 0), d.2)
  else (none, s)

/-- The cadastre's entry of a plot as a number (R349): the next plot of the chain of its queue or ring member is given. -/
def Plot.entry (x : Plot) (next : Nat) : Nat :=
  x.state * 2 ^ 61 + x.kind * 2 ^ 60 + x.owner * 2 ^ 46 + x.borough * 2 ^ 41 + x.fill * 2 ^ 24 + next

/-- The element behind one of a list. -/
def nextIn (id : Nat) : List Nat → Nat
  | a :: b :: r => if a = id then b else nextIn id (b :: r)
  | _ => noPlot

/-- The cadastre's entry of a plot. -/
def State.cadastre (s : State) (id : Nat) : Nat :=
  let x := s.plot id
  let chain := if x.kind = 1 then (s.ring.tiles.filter (fun t => t.slot == x.owner && t.live)).flatMap (fun t => t.plots)
    else (s.que x.owner).chain.filter (fun p => p != holePlot)
  x.entry (if x.state = 1 || x.state = 2 then nextIn id chain.eraseDups else if x.state = 0 && x.fill = 0 then 0 else noPlot)

/-! ## Counts -/

/-- Show the counts of a queue and the unused reserves (R375). -/
def State.showQue (s : State) (q : Nat) : State :=
  let x := s.que q
  let bytes := (x.vis.foldl (fun a u => a + u.bytes.length) 0) - x.read + x.ringBytes
  let s1 := (s.put (QUE_HELD_PLOTS q) x.held).put (QUE_HELD_NEAR q) (min 255 (countIf (fun p => plotTier p == 1) x.chain))
  (s1.wr64 (QUE_BYTES_LO q) (QUE_BYTES_HI q) bytes).wn PLT_RESV (s1.unusedRes 0 + s1.unusedRes 1)

/-- Bytes that wait before a queue's writer: its held units less what of the first is written. -/
def State.heldBytes (s : State) (q : Nat) : Nat :=
  (mapGet [] q s.units).foldl (fun a u => a + u.bytes.length) 0 - (s.que q).part

/-- Show the elasticity in use (R375): MiB, rounded up, over queues whose writers are refused. -/
def State.showElastic (s : State) : State :=
  s.wn PLT_EL_USED (ceilDiv (s.quesOn.foldl (fun a q => if (s.que q).refused.isSome then a + s.heldBytes q else a) 0) 1048576)

/-! ## Freeing (R347, R372) -/

/-- A part of the escape reserve (0 far, 1 near). -/
def State.escPart (s : State) (tier : Nat) : Nat := if tier = 1 then s.get PLT_ESC_NEAR else s.get PLT_ESC_FAR

/-- Put the unused escape plots of a tier; ESCAPE_LOW below 1/8 of the part (R357). -/
def State.setEsc (s : State) (tier v : Nat) : State :=
  let s1 := s.put (if tier = 1 then PLT_ESC_FREE_NEAR else PLT_ESC_FREE_FAR) v
  let low := decide (8 * v < s1.escPart tier)
  let was := s1.plotBook.escLow.contains tier
  if low && !was then
    ((({ s1 with plotBook := { s1.plotBook with escLow := tier :: s1.plotBook.escLow } } : State).put PLT_STAT_ESC_LOW_SEEN 1).raise
      evPLT_ESCAPE_LOW 65535 [.w4 tier])
  else if !low && was then { s1 with plotBook := { s1.plotBook with escLow := s1.plotBook.escLow.erase tier } }
  else s1

/-- A failing plot is retired and a reserve or spare plot takes its place (R372); without one the pool shrinks. `policy`
says that a standing policy acts, which writes a logbook record (R44). -/
def State.retirePlot (s : State) (id : Nat) (policy : Bool) : State :=
  let tier := plotTier id
  let c := if tier = 1 then 4 else 5
  let s1 := s.setPlot id { state := 4, weak := true }
  let left := s1.sparesLeft c
  if left = 0 then
    (s1.raise evPLT_PLOT_RETIRED 65535 (policyDetail c evPLT_PLOT_ECC.code id 0xFFFFFFFF) 0 policy policy).spareExhausted c id
  else
    let p := poolOf tier
    let n := (Config.sparesLeft c) - left
    let new := p.1 + p.2.1 + n
    let s2 := (s1.setPlot new { state := 0 }).useSpare c id
    let s3 := s2.wn (freeReg tier) (s2.tierFree tier + 1)
    let s4 := s3.raise evPLT_PLOT_RETIRED 65535 (policyDetail c evPLT_PLOT_ECC.code id new) 0 policy policy
    if tier = 1 then s4
    else
      let s5 := s4.wn PLT_RES_FREE (s4.rn PLT_RES_FREE - 1)
      if s5.rn PLT_RES_FREE + 1 = 1024 then s5.raise evPLT_RESERVE_LOW else s5

/-- A standing policy of plots that is cleared acts no longer on the faults found while it was armed (R43). -/
def State.disarmPlots (s : State) : State :=
  { s with plots := s.plots.map (fun (e : Nat × Plot) =>
      (e.1, { e.2 with pol := e.2.pol && s.armed (if plotTier e.1 = 1 then 4 else 5) })) }

/-- A plot returns to its free list (R347, R372); a standing policy acts on a fault that was found while it was armed (R43). -/
def State.freePlot (s : State) (id : Nat) : State :=
  if id = holePlot then s
  else
  let x := s.plot id
  let tier := plotTier id
  let s1 := s.put (PLT_USED_V x.borough) (s.get (PLT_USED_V x.borough) - 1)
  let s2 := if x.esc then s1.setEsc tier (s1.escFree tier + 1) else s1
  if x.weak && x.leave then s2.retirePlot id false
  else if x.weak && x.pol && s2.armed (if tier = 1 then 4 else 5) then s2.retirePlot id true
  else (s2.setPlot id { state := if x.weak then 3 else 0, weak := x.weak, errs := x.errs, hour := x.hour }).wn (freeReg tier)
    (s2.tierFree tier + 1)

/-- Return several plots. -/
def State.freePlots (s : State) (l : List Nat) : State := l.foldl State.freePlot s

/-! ## Allocation (R356 to R359) -/

/-- An answer of the allocator. -/
inductive Grant where
  | plot (id : Nat)
  | max
  | quota
  | pool

/-- A refusal is counted (R356). -/
def State.noPlotCount (s : State) : State := s.bumpSat PLT_NOPLOT evPLT_NOPLOT_SAT

/-- The tiers a queue may use for its next plot, the one that R359 chooses first. -/
def State.tiersFor (s : State) (q : Nat) : List Nat :=
  let t := s.get (QUE_CFG0_TIER q)
  if s.get (QUE_CFG0_TYPE q) = 5 || t = 1 then [0]
  else if t = 2 then [1]
  else if s.isSet PLT_STAT_NEAR_ASLEEP then [0]
  else if s.get PLT_LOW_NEAR_LW < s.rn PLT_NEAR_FREE then [1, 0] else [0, 1]

/-- Take a plot of a tier for an owner: the cadastre's entry, the charge and the counts move in the same cycle. -/
def State.takePlot (s : State) (tier kind owner b : Nat) (esc : Bool) : Option Nat × State :=
  match s.pickPlot tier with
  | (none, s1) => (none, s1)
  | (some id, s1) =>
    let x := s1.plot id
    let s2 := s1.setPlot id { state := 1, kind := kind, owner := owner, borough := b, esc := esc, weak := x.weak,
                              errs := x.errs, hour := x.hour }
    let s3 := (s2.wn (freeReg tier) (s2.tierFree tier - 1)).put (PLT_USED_V b) (s2.get (PLT_USED_V b) + 1)
    let s4 := if esc then s3.setEsc tier (s3.escFree tier - 1) else s3
    let s5 := if tier = 1 && s4.rn PLT_NEAR_FREE = s4.get PLT_LOW_NEAR_LW then
      (s4.put PLT_STAT_NEAR_LOW_SEEN 1).raise evPLT_NEAR_LOW else s4
    (some id, s5)

/-- The table of R356 for queue q over the tiers given. -/
def State.askTiers (s : State) (q : Nat) (tiers : List Nat) : Grant × State :=
  let b := s.get (QUE_CFG0_BOROUGH q)
  let held := (s.que q).held
  let ctl := let t := s.get (QUE_CFG0_TYPE q); t = 2 || t = 3 || t = 4
  let give : Nat → Bool → Grant × State := fun tier esc =>
    match s.takePlot tier 0 q b esc with
    | (some id, s1) => (.plot id, { s1 with plotBook := { s1.plotBook with
        quotaEp := s1.plotBook.quotaEp.erase b, poolEp := s1.plotBook.poolEp.erase tier } })
    | (none, s1) => (.pool, s1.noPlotCount)
  if s.get (QUE_CFG2_MAX q) ≤ held then
    let s1 := s.noPlotCount
    if (s.que q).maxEp then (.max, s1)
    else (.max, ((s1.setQue q { s1.que q with maxEp := true }).put (QUE_STAT_MAX_SEEN q) 1).raise evQUE_Q_MAX q)
  else if held < s.get (QUE_CFG1_MIN q) then
    let r := s.resTier q
    if tiers.head? = some 1 && r = 0 && s.sharedPool 1 ≠ 0 then give 1 false else give r false
  else if s.get (PLT_QUOTA_V b) ≤ s.get (PLT_USED_V b) then
    let s1 := s.noPlotCount
    if s1.plotBook.quotaEp.contains b then (.quota, s1)
    else (.quota, ({ s1 with plotBook := { s1.plotBook with quotaEp := b :: s1.plotBook.quotaEp } } : State).raise
      evPLT_QUOTA_FULL b [] b)
  else match tiers.find? (fun t => s.sharedPool t != 0) with
    | some t => give t false
    | none => match (if ctl then tiers.find? (fun t => s.escFree t != 0 && s.tierUp t) else none) with
      | some t => give t true
      | none =>
        let s1 := s.noPlotCount
        let t := tiers.headD 0
        if s1.plotBook.poolEp.contains t then (.pool, s1)
        else (.pool, (({ s1 with plotBook := { s1.plotBook with poolEp := t :: s1.plotBook.poolEp } } : State).put
          PLT_STAT_POOL_EMPTY_SEEN 1).raise evPLT_POOL_EMPTY 65535 [.w4 t])

/-- Whether a queue is of the data class (R350). -/
def State.dataQueue (s : State) (q : Nat) : Bool := let t := s.get (QUE_CFG0_TYPE q); t = 0 || t = 1 || t = 5

/-- A writer is refused (R366): from the first refusal it draws on its allowance. -/
def State.refuseWriter (s : State) (q : Nat) : State :=
  let x := s.que q
  if x.refused.isSome then s.showElastic
  else
    let s1 := s.setQue q { x with refused := some s.mt }
    if s.dataQueue q then ((s1.put (QUE_STAT_ELASTIC q) 1).showElastic).raise evPLT_ELASTIC_ENTER q else s1

/-- A writer asks for a new tail plot (R356): granted into its chain, or refused. -/
def State.askPlot (s : State) (q : Nat) : Bool × State :=
  match s.askTiers q (s.tiersFor q) with
  | (.plot id, s1) =>
    let x := s1.que q
    let done := match x.gap with
      | some g => some g
      | none => x.gapDone
    let s2 := s1.setQue q { x with chain := x.chain ++ [id], refused := none, maxEp := false, gap := none, gapDone := done }
    (true, ((s2.put (QUE_STAT_ELASTIC q) 0).showQue q).showElastic)
  | (_, s1) => (false, s1.refuseWriter q)

/-! ## The ring's plots (R307 to R309) -/

/-- Distinct plots of ring tiles that satisfy a condition. -/
def State.ringPlots (s : State) (p : RingTile → Bool) : List Nat :=
  ((s.ring.tiles.filter p).flatMap (fun t => t.plots)).eraseDups

/-- The members of the ring (R307): in the mask, with `RAW` = 1 in force. -/
def State.ringMember (s : State) (n : Nat) : Bool :=
  bit (s.rn (TRG_RING_MASK (n / 32))) (n % 32) && s.fget (CHP_CTL_RAW n) = 1 && (mapGet {} n s.slots).on

/-- The slots that are ring members. -/
def State.ringMembers (s : State) : List Nat := (s.slots.filter (fun e => s.ringMember e.1)).map Prod.fst

/-- `DEPTH` (R307) in units of 0.01 s: from the oldest instant held for every member to now. -/
def State.ringDepth (s : State) : Nat :=
  let oldest := s.ringMembers.map (fun n => (s.ring.tiles.filter (fun t => t.slot == n && t.live)).foldl
    (fun (a : Option Int) t => match a with
      | none => some t.at0
      | some b => some (min b t.at0)) none)
  if !s.isSet TRG_RING_CTL_EN || oldest.isEmpty || oldest.any (fun o => o.isNone) then 0
  else
    let from_ := (oldest.filterMap id).foldl max ((oldest.filterMap id).headD 0)
    min 65535 ((s.mt * 2 ^ 32 - from_) / (((mtSec / 100 : Nat) : Int) * 2 ^ 32)).toNat

/-- Show the ring (R314): `DEPTH`, plots in it and plots held, and each plot's state in the cadastre. RING_SHORT as
`DEPTH` falls below `MIN` (R307). -/
def State.showRing (s : State) : State :=
  let held := s.ringPlots (fun t => !t.holds.isEmpty)
  let all := s.ringPlots (fun _ => true)
  let s1 := all.foldl (fun (s : State) p => s.setPlot p { s.plot p with state := if held.contains p then 2 else 1 }) s
  let d := s1.ringDepth
  let s2 := ((s1.put TRG_RING_STAT_DEPTH d).wn TRG_RING_USED (s1.ringPlots (fun t => t.live)).length).wn TRG_RING_HELD
    held.length
  let m := s2.get TRG_RING_CTL_MIN
  let short := m ≠ 0 && d < 10 * m
  let s3 := { s2 with ring := { s2.ring with deep := !short } }
  if short && s2.ring.deep then s3.raise evTRG_RING_SHORT else s3

/-- Release the ring tiles that a capture of this sequence holds: once none holds a tile that has left the ring, its plots
are free (R309, R310). A plot shared with another tile stays with that tile. -/
def State.releaseCapture (s : State) (seq : Nat) : State :=
  let tiles := s.ring.tiles.map (fun t => { t with holds := t.holds.filter (fun c => c != seq) })
  let keep := tiles.filter (fun t => t.live || !t.holds.isEmpty)
  let gone := (tiles.filter (fun t => !(t.live || !t.holds.isEmpty))).flatMap (fun t => t.plots)
  let free := gone.eraseDups.filter (fun p => !keep.any (fun t => t.plots.contains p))
  (({ s with ring := { s.ring with tiles := keep } } : State).freePlots free).showRing

/-! ## Writing units (R354, R360, R366 to R368) -/

/-- The tail plot of a queue. -/
def Que.tail (x : Que) : Option Nat := x.chain.getLast?

/-- Room in a queue's tail plot. -/
def State.tailRoom (s : State) (q : Nat) : Nat :=
  match (s.que q).tail with
  | none => 0
  | some id => plotBytes - (s.plot id).fill

/-- A near tail plot of an auto queue has filled (R360): with three or more plots it is copied far where a far plot is
granted. -/
def State.pageOut (s : State) (q id : Nat) : State :=
  if plotTier id = 1 && s.get (QUE_CFG0_TIER q) = 0 && 3 ≤ (s.que q).held
      && !s.copies.any (fun c => c.old == id) then
    match s.askTiers q [0] with
    | (.plot new, s1) =>
      let b := s1.get (QUE_CFG0_BOROUGH q)
      { s1.put (PLT_USED_V b) (s1.get (PLT_USED_V b) - 1) with copies := s1.copies ++ [⟨q, id, new⟩] }
    | (_, s1) => s1
  else s

/-- The bytes of a unit as it is written: the first unit after a gap carries GAP in its flags (R368). -/
def ReadyItem.written (u : ReadyItem) : List Byte :=
  match u.gap, u.kind, u.bytes with
  | some _, 0, a :: b :: c :: d :: e :: f :: g :: h :: fl :: r => a :: b :: c :: d :: e :: f :: g :: h :: (fl ||| 16#8) :: r
  | _, _, l => l

/-- The gap record (R367), as the stream is next written. -/
def State.gapRecord (s : State) (q : Nat) (g : Nat × Nat) : State :=
  let s1 := (s.wr64 (QUE_GAP_FIRST_LO q) (QUE_GAP_FIRST_HI q) g.1).wr64 (QUE_GAP_LAST_LO q) (QUE_GAP_LAST_HI q) g.2
  let s2 := (s1.bumpSat (QUE_GAPS q) evQUE_GAPS_SAT q).put (QUE_STAT_GAP_SEEN q) 1
  s2.raise evPLT_STORE_RESUMED q [.w8 g.1, .w8 g.2] 0 false true

/-- Write the front unit of a queue into its tail plots, `fuel` plots at most; it becomes visible when its last byte is
written. -/
def State.writeUnit (s : State) (q : Nat) : Nat → State
  | 0 => s
  | fuel + 1 =>
    match mapGet [] q s.units with
    | [] => s
    | u :: rest =>
      let x := s.que q
      let s0 := if x.part = 0 then (match u.gap with
        | some g => s.gapRecord q g
        | none => s) else s
      let room := s0.tailRoom q
      let left := u.bytes.length - x.part
      if room = 0 && left ≠ 0 then
        match s0.askPlot q with
        | (true, s1) => s1.writeUnit q fuel
        | (false, s1) => s1
      else
        let n := min room left
        let id := x.tail.getD 0
        let p := s0.plot id
        let s1 := if n = 0 then s0 else s0.setPlot id { p with fill := p.fill + n }
        let s2 := if n = left then
            let y := s1.que q
            { s1.setQue q { y with part := 0, vis := y.vis ++ [⟨u.written ++ u.linked, u.bytes.length, u.capture, u.first, u.last⟩] } with
              units := mapPut [] q rest s1.units }
          else s1.setQue q { s1.que q with part := x.part + n }
        let s3 := if n = room && n ≠ 0 then s2.pageOut q id else s2
        if n ≠ left then s3.writeUnit q fuel
        else match u.vec with
          | some v => (s3.showQue q).vecDue 0 v
          | none => s3.showQue q

/-- Write the front unit of a queue. -/
def State.writeFront (s : State) (q : Nat) : State :=
  match mapGet [] q s.units with
  | [] => s
  | u :: _ => (s.writeUnit q (2 * (u.bytes.length / plotBytes + 3))).showElastic

/-- Whether a record-mode tile of a queue is full after these bytes. -/
def State.recSize (s : State) (q : Nat) : Nat := 2 ^ s.get (QUE_CFG5_TILE_LOG2 q)

/-- Append record bytes to the record tiles of a queue (R334): the first byte of a record sets `COUNT` where none started
in the tile before. -/
def State.recAppend (s : State) (q : Nat) (recStart : Bool) (l : List Byte) : Nat → State
  | 0 => s
  | fuel + 1 =>
    if l.isEmpty then s
    else
      let x := s.que q
      let t := x.tile.getD { start := s.mt, index := x.total }
      let t1 := if recStart && t.count.isNone then { t with count := some t.bytes.length } else t
      let n := min l.length (s.recSize q - t1.bytes.length)
      let t2 := { t1 with bytes := (l.take n).reverse ++ t1.bytes }
      let full := decide (s.recSize q ≤ t2.bytes.length)
      let y := { x with total := x.total + n, tile := if full then none else some t2,
                        closing := if full then x.closing ++ [(t2, 0)] else x.closing }
      (s.setQue q y).recAppend q false (l.drop n) fuel

/-- A unit is replaced by a placeholder (R367). -/
def State.placeholder (s : State) (q first last : Nat) : State :=
  let x := s.que q
  match x.gap with
  | some g => s.setQue q { x with gap := some (g.1, last) }
  | none => ((s.setQue q { x with gap := some (first, last) }).put PLT_STAT_GAP_SEEN 1).raise evPLT_STORE_GAP q [.w8 first]

/-- Close the record tile in progress of a queue before its nominal size, with SHORT (R334, R368). -/
def State.recShort (s : State) (q : Nat) : State :=
  let x := s.que q
  match x.tile with
  | none => s
  | some t => s.setQue q { x with tile := none, closing := x.closing ++ [(t, 1)] }

/-- A record reaches a record-mode queue (R334, R367): the bytes that its allowance takes join the tile; the others are replaced,
each by a placeholder at its place in the stream, and close the tile. -/
def State.recOffer (s : State) (q : Nat) (l : List Byte) : State :=
  let x := s.que q
  let held := s.heldBytes q + ((x.tile.map (fun t => t.bytes.length)).getD 0)
    + x.closing.foldl (fun a t => a + t.1.bytes.length) 0
  let k := if x.gap.isSome then 0 else if x.refused.isSome then min l.length (x.allow - held) else l.length
  let s1 := s.recAppend q true (l.take k) (k / s.recSize q + 2)
  if l.length ≤ k then s1
  else
    let s2 := s1.recShort q
    let y := s2.que q
    (s2.setQue q { y with total := y.total + (l.length - k) }).placeholder q y.total (y.total + (l.length - k) - 1)

/-- Hand a unit to a queue's writer: discarded where the queue is not ON; replaced by a placeholder once the allowance is
full (R366, R367), but for a tile whose samples or bytes it has taken already; otherwise it waits to be written. -/
def State.offerUnit (s : State) (u : ReadyItem) : State :=
  let q := u.queue
  let x := s.que q
  let dropped : State → State := fun s => match u.capture with
    | some c => s.releaseCapture c
    | none => s
  if s.get (QUE_STAT_STATE q) ≠ 1 && !(u.kind = 3 && s.get (QUE_STAT_STATE q) = 2) then dropped s
  else if s.isSet (QUE_CFG0_REC q) && u.kind ≠ 3 then s.recOffer q u.bytes
  else if s.dataQueue q && decide (u.kind < 3)
      && (x.gap.isSome || (x.refused.isSome && decide (x.allow < s.heldBytes q + u.bytes.length))) then
    dropped (s.placeholder q u.first u.last)
  else
    let after := match x.gapDone with
      | some g => decide (u.kind < 3) || decide (g.1 ≤ u.first)
      | none => false
    let v := { u with gap := if after then x.gapDone else none }
    let s1 := if after then s.setQue q { x with gapDone := none } else s
    ({ s1 with units := mapPut [] q (mapGet [] q s1.units ++ [v]) s1.units } : State).showElastic

/-- The oldest complete item is handed to its queue (R239). -/
def State.handItem (s : State) : State :=
  match s.items with
  | [] => s
  | x :: r => ({ s with items := r } : State).offerUnit x

/-- Put a record before a queue. -/
def State.sendItem (s : State) (q first last kind : Nat) (b : List Byte) : State :=
  { s with items := s.items ++ [{ queue := q, bytes := b, first := first, last := last, kind := kind }] }

/-! ## Reading (R351, R354, R360) -/

/-- Free the plots at the head of a chain that are read, `d` more bytes being read. -/
def State.advance (s : State) (q : Nat) : Nat → Nat → State
  | 0, _ => s
  | fuel + 1, d =>
    let x := s.que q
    match x.chain with
    | id :: next :: rest =>
      if plotBytes ≤ x.rd + d then
        ((s.setQue q { x with chain := next :: rest, rd := 0 }).freePlot id).advance q fuel (x.rd + d - plotBytes)
      else s.setQue q { x with rd := x.rd + d }
    | [id] =>
      if plotBytes ≤ x.rd + d then (s.setQue q { x with chain := [], rd := 0 }).freePlot id
      else s.setQue q { x with rd := x.rd + d }
    | [] => s

/-- Free the plots that is read, and drop the units that it has read to their ends. -/
def State.dropUnits (s : State) (q : Nat) : Nat → State
  | 0 => s
  | fuel + 1 =>
    let x := s.que q
    let low := x.read
    match x.vis with
    | [] => s
    | u :: r =>
      let dst := min low u.chained
      let s1 := (s.setQue q { x with seen := dst }).advance q (u.chained / plotBytes + 2) (dst - x.seen)
      if u.bytes.length ≤ low then
        let y := s1.que q
        let s2 := s1.setQue q { y with vis := r, seen := 0, read := y.read - u.bytes.length }
        (match u.capture with
          | some c => s2.releaseCapture c
          | none => s2).dropUnits q fuel
      else s1

/-- The compressor load of a record-mode queue (R355). -/
def State.recLoad (s : State) (q : Nat) : Nat := ceilDiv (16 * s.get (QUE_CFG3_RATE q)) 1000

/-- Release the compressor of a record-mode queue. -/
def State.recRelease (s : State) (q : Nat) : State :=
  match (s.que q).engine with
  | none => s
  | some e => (s.put (CMP_ENG_LOAD e) (s.get (CMP_ENG_LOAD e) - s.recLoad q)).put (CMP_ENG_STREAMS e)
      (s.get (CMP_ENG_STREAMS e) - 1)

/-- A DRAINING queue whose last byte has been read becomes OFF (R351). -/
def State.drained (s : State) (q : Nat) : State :=
  let x := s.que q
  if s.get (QUE_STAT_STATE q) = 2 && x.vis.isEmpty && (mapGet [] q s.units).isEmpty && x.closing.isEmpty then
    let s1 := ((s.recRelease q).setQue q {}).freePlots x.chain
    let s2 := ({ s1 with quesOn := s1.quesOn.filter (fun p => p != q) } : State).put (QUE_STAT_STATE q) 0
    let al := s2.quesOn.foldl (fun a p => a + (s2.que p).allow) 0
    (((s2.wn PLT_EL_ALLOC (ceilDiv al 1048576)).showQue q).showElastic).raise evQUE_Q_OFF q
  else s.showQue q

/-- A prefetch (R360): half of the head plot is read and the next plot is far. -/
def State.prefetch (s : State) (q : Nat) : State :=
  let x := s.que q
  match x.chain with
  | _ :: next :: _ =>
    if plotBytes / 2 ≤ x.rd && next ≠ holePlot && plotTier next = 0 && s.get (QUE_CFG0_TIER q) = 0 && s.get (QUE_CFG0_TYPE q) ≠ 5
        && s.get PLT_LOW_NEAR_LW < s.rn PLT_NEAR_FREE && !s.isSet PLT_STAT_NEAR_ASLEEP
        && !s.copies.any (fun c => c.old == next) then
      let b := s.get (QUE_CFG0_BOROUGH q)
      match s.takePlot 1 0 q b false with
      | (some new, s1) => { s1.put (PLT_USED_V b) (s1.get (PLT_USED_V b) - 1) with copies := s1.copies ++ [⟨q, next, new⟩] }
      | (none, s1) => s1
    else s
  | _ => s

/-- `n` more bytes of a queue are read: no route needs them any longer. -/
def State.readQue (s : State) (q n : Nat) : State :=
  let x := s.que q
  (((s.setQue q { x with read := x.read + n }).dropUnits q (x.vis.length + 1)).prefetch q).drained q

/-- Bytes of a queue from `off` bytes behind the point read: what remains of the unit there, and whether it begins there. -/
def unitAt : List VisUnit → Nat → Option (List Byte × Bool)
  | [], _ => none
  | u :: r, off => if off < u.bytes.length then some (u.bytes.drop off, off = 0) else unitAt r (off - u.bytes.length)

/-- Whether a queue holds bytes from `off` bytes behind the point read. -/
def State.nextUnit (s : State) (q off : Nat) : Option (List Byte × Bool) := unitAt (s.que q).vis ((s.que q).read + off)

/-! ## The queues of command and completion rings (R350, R525) -/

/-- The command ring queue of ring r of borough b. -/
def cmdQueue (b r : Nat) : Nat := 16128 + 8 * b + 2 * r

/-- The completion ring queue of ring r of borough b. -/
def cplQueue (b r : Nat) : Nat := 16129 + 8 * b + 2 * r

/-- `n` more bytes of a plot are written. -/
def State.fillPlot (s : State) (id n : Nat) : State := s.setPlot id { s.plot id with fill := (s.plot id).fill + n }

/-- `n` more bytes are written into the tail plot of a queue. -/
def State.fillTail (s : State) (q n : Nat) : State :=
  match (s.que q).tail with
  | some id => s.fillPlot id n
  | none => s

/-- Write a unit of `n` bytes, no more than a plot holds, into the chain of a ring's queue (R354, R356); `false`, and nothing
written, where its writer is refused a plot. -/
def State.chainWrite (s : State) (q n : Nat) : Bool × State :=
  let room := s.tailRoom q
  let done : State → Bool × State := fun t =>
    (true, (t.setQue q { t.que q with ringBytes := (t.que q).ringBytes + n }).showQue q)
  if n ≤ room then done (s.fillTail q n)
  else if (s.que q).refused.isSome then (false, s)
  else match s.askPlot q with
    | (false, s1) => (false, s1)
    | (true, s1) =>
      let s2 := match (s.que q).tail with
        | some id => (s1.fillPlot id room).pageOut q id
        | none => s1
      done (s2.fillTail q (n - room))

/-- `n` bytes of the chain of a ring's queue are read (R360). -/
def State.chainRead (s : State) (q n : Nat) : State :=
  let x := s.que q
  (((s.setQue q { x with ringBytes := x.ringBytes - n }).advance q (n / plotBytes + 2) n).prefetch q).showQue q

/-- The queue of a ring is turned ON with `MIN` = 1 (R525). -/
def State.ringQueOn (s : State) (b q : Nat) : State :=
  let t := ((s.put (QUE_CFG0_TYPE q) (2 + q % 2)).put (QUE_CFG0_BOROUGH q) b).put (QUE_CFG1_MIN q) 1
  (((({ t with quesOn := q :: t.quesOn } : State).setQue q {}).put (QUE_STAT_STATE q) 1).showQue q).raise evQUE_Q_ON q

/-- The queue of a ring is turned OFF: its plots are free (R347, R525). -/
def State.ringQueOff (s : State) (q : Nat) : State :=
  let s1 := (({ s with quesOn := s.quesOn.filter (fun p => p != q) } : State).setQue q {}).freePlots (s.que q).chain
  ((s1.put (QUE_STAT_STATE q) 0).showQue q).raise evQUE_Q_OFF q

/-! ## The trigger stream and triggers on their way (R297, R306) -/

/-- Send a record of the trigger stream, whose last word is the stream's sequence (R306). -/
def State.trgSend (s : State) (b : List Byte) : State :=
  if s.isSet TRG_CTL_S_EN then
    ({ s with trgSeq := (s.trgSeq + 1) % 2 ^ 32 } : State).sendItem (s.get TRG_CTL_SQUEUE) s.trgSeq s.trgSeq 2
      (b ++ leBytes 4 s.trgSeq)
  else s

/-- A trigger on its way to the outputs. -/
def State.offerTrig (s : State) (src : Nat) (t : Int) (coarse : Bool) (slot : Nat := 0xFFFF) : State :=
  { s with trigs := s.trigs ++ [⟨src, t, coarse, slot, s.mt⟩] }

end Sys2Proof.Machine
end

