-- ==== Sys2Proof/Machine/Reply.lean ====
section
/-! DEFINITION. Status replies of the command engine: their form, their paths, and the tag entries that cache them
(R521 to R523, R526, R528, R529). -/
namespace Sys2Proof.Machine

/-! ## Fields of a packet (R517) -/

/-- The activation time of a packet, where it has one. -/
def Packet.act (p : Packet) : Option Int :=
  if p.flags % 2 = 1 then some (mtOf (p.actTime / 2 ^ 48) (p.actTime / 2 ^ 16 % 2 ^ 32) (p.actTime % 2 ^ 16)) else none

/-- A packet waits for those before it (R531). -/
def Packet.fence (p : Packet) : Bool := p.flags / 2 % 2 == 1

/-- Parameter bytes. -/
def Packet.bytes (p : Packet) : List Byte := wordsBytes p.params

/-- A parameter field: `n` bytes from byte `a` of the parameters. -/
def Packet.arg (p : Packet) (a n : Nat) : Nat := leNat (((Packet.bytes p).drop a).take n)

/-- A parameter word. -/
def Packet.word (p : Packet) (i : Nat) : Nat := (p.params.getD i 0#32).toNat

/-- Parameters of `n` bytes, with a zero rest up to a multiple of 4 (R538). -/
def Packet.sized (p : Packet) (n : Nat) : Bool := p.params.length == (n + 3) / 4 && Packet.arg p n 3 == 0

/-- The word that names a packet as an action (R33): tag, borough and generation. -/
def actionOf (p : Packet) : Nat := p.tag + 65536 * (p.borough % 32) + 2 ^ 21 * (p.gen / 16)

/-- The state of a command ring pair. -/
def State.cring (s : State) (b r : Nat) : CRing := mapGet {} (4 * b + r) s.crings
/-- Put the state of a command ring pair. -/
def State.setCring (s : State) (b r : Nat) (x : CRing) : State := { s with crings := mapPut {} (4 * b + r) x s.crings }

/-- A tag entry of a borough. -/
def State.tag (s : State) (b t : Nat) : TagEntry := mapGet .free (65536 * b + t) s.tags
/-- Put a tag entry. -/
def State.setTag (s : State) (b t : Nat) (x : TagEntry) : State := { s with tags := mapPut .free (65536 * b + t) x s.tags }

/-- The envelope counters of a borough. -/
def State.env (s : State) (b : Nat) : EnvCtr := mapGet {} b s.envs
/-- Put the envelope counters of a borough. -/
def State.setEnv (s : State) (b : Nat) (x : EnvCtr) : State := { s with envs := mapPut {} b x s.envs }

/-- The key of a borough, where one is installed. -/
def State.keyOf (s : State) (b : Nat) : Option (List Byte) :=
  match mapGet [] b s.keys with
  | [] => none
  | k => some k

/-! ## The form of a reply (R521) -/

/-- A reply without its trailer: header and result. `b` and `g` are the header bytes 2 and 3 of the packet. -/
def replyCore (op b g tag status inst : Nat) (res : List Word) : List Word :=
  [w32 (op + 65536 * b + 2 ^ 28 * (g / 16)), w32 (tag + 65536 * status), w32 (20 + 4 * res.length), w32 inst] ++ res

/-- Set bits of `RFLAGS`. -/
def replyFlag (fl : Nat) : List Word → List Word
  | [] => []
  | w :: r => w32 (w.toNat ||| fl * 2 ^ 24) :: r

/-- A reply with its trailer. -/
def sealReply (l : List Word) : List Word := l ++ [w32 (crc32c (wordsBytes l))]

/-- What the tag entry keeps of a reply (R529): the whole of it up to 128 bytes, otherwise its first 16 bytes with
`TRUNCATED` set and `LENGTH` 20. -/
def cachedReply (l : List Word) : List Word :=
  if l.length ≤ 31 then l else replyFlag 4 ((l.take 2) ++ [w32 20] ++ ((l.drop 3).take 1))

/-! ## Paths -/

/-- The bytes of an envelope (R526): kind 1 command, 2 reply. -/
def envelopeBytes (key : List Byte) (b kind counter : Nat) (pkt : List Byte) : List Byte :=
  let h := leBytes 4 0x44434D51 ++ leBytes 1 b ++ leBytes 1 kind ++ leBytes 2 0 ++ leBytes 8 counter ++ pkt
  h ++ hmacSha256 key h

/-- Add flits behind those that wait to be sent on a sheet. -/
def State.sendTx (s : State) (sheet : Nat) (l : List TxFlit) : State :=
  { s with spxTx := mapPut [] sheet (mapGet [] sheet s.spxTx ++ l) s.spxTx }

/-- A control message as a flit (R457): message, kind, exchange tag, reason, lane, block and body. -/
def ctrlFlit (msg kind xtag sender reason lane block : Nat) (body : List Byte) : TxFlit :=
  { type := 0x20, stream := 0, first := true, last := true,
    data := leBytes 1 msg ++ leBytes 1 kind ++ leBytes 2 xtag ++ leBytes 4 sender ++ leBytes 1 reason ++ leBytes 1 lane
      ++ leBytes 2 0 ++ leBytes 4 block ++ body }

/-- Send a reply in an envelope of borough b, numbered from the borough's own counter (R526); a borough whose key has been
removed sends none (log entry 24). -/
def State.envReply (s : State) (path : Path) (b : Nat) (l : List Word) : State :=
  match s.keyOf b with
  | none => s
  | some k =>
    let e := s.env b
    let x := envelopeBytes k b 2 e.reply (wordsBytes (sealReply l))
    let s1 := s.setEnv b { e with reply := e.reply + 1 }
    match path with
    | .spaxa sheet => s1.sendTx sheet [ctrlFlit 8 0 0 (s1.rn SYS_HUB_ID) 0 0 0 x]
    | p => s1.emit (.envelope p x)

/-- Slots of a completion ring. -/
def State.cplSize (s : State) (b r : Nat) : Nat := 2 ^ s.get (BRG_CRING_CTL_CPL_SIZE b r)

/-- Free slots of a completion ring. -/
def State.cplFree (s : State) (b r : Nat) : Nat :=
  s.cplSize b r - (s.get (BRG_CPL_PI_V b r) + 65536 - (s.cring b r).cplCi) % 65536

/-- Write the slots of one reply or pad at the completion producer index (R523): `PHASE` is 1 on even passes. -/
def State.cplPut (s : State) (b r slots : Nat) (l : List Word) : State :=
  let pi := s.get (BRG_CPL_PI_V b r)
  let n := s.cplSize b r
  let addr := s.rd64 (BRG_CPL_BASE_LO b r) (BRG_CPL_BASE_HI b r) + 64 * (pi % n)
  let x := sealReply (if pi / n % 2 = 0 then replyFlag 1 l else l)
  (s.emit (.hostWrite b addr (wordsBytes x))).put (BRG_CPL_PI_V b r) (pi + slots)

/-- A pad reply of `slots` slots: opcode 0, tag 0xFFFF, status OK. -/
def padReply (inst slots : Nat) : List Word := replyCore 0 0 0 0xFFFF 0 inst (List.replicate (16 * slots - 5) 0#32)

/-- Slots of a reply in the completion ring, its trailer included (R523). -/
def replySlots (l : List Word) : Nat := ceilDiv (l.length + 1) 16

/-- Slots up to the end of the completion ring where a reply would wrap past it, else 0. -/
def State.cplGap (s : State) (b r : Nat) (l : List Word) : Nat :=
  let n := s.cplSize b r
  let pos := s.get (BRG_CPL_PI_V b r) % n
  if pos ≠ 0 && n < pos + replySlots l then n - pos else 0

/-- Write the pad that a reply needs before it, where there is one and it has room (R523). -/
def State.cplPad (s : State) (b r : Nat) (l : List Word) : State :=
  let pad := s.cplGap b r l
  if pad = 0 || s.cplFree b r < pad then s else s.cplPut b r pad (padReply (s.rn (CMD_INSTANCE b)) pad)

/-- Write one reply into a completion ring with room for it, a pad first where it would wrap: whether it is written. -/
def State.cplWrite (s : State) (b r : Nat) (l : List Word) : Bool × State :=
  let t := s.cplPad b r l
  if t.cplGap b r l ≠ 0 || t.cplFree b r < replySlots l then (false, t)
  else
    let u := t.cplPut b r (replySlots l) l
    (true, if u.isSet (BRG_CRING_CTL_VEC_EN b r) then u.vecDue b (u.get (BRG_CRING_CTL_VEC b r)) else u)

/-- One taken packet has its reply (R525): a ring that was paused is no longer so. -/
def State.cringDone (s : State) (b r : Nat) : State :=
  (s.setCring b r { s.cring b r with taken := (s.cring b r).taken - 1 }).put (BRG_CRING_STAT_PAUSED b r) 0

/-- Note whether the completion ring queue of a ring waits under R364, and since when. -/
def State.cplWaits (s : State) (b r : Nat) (full : Bool) : State :=
  let q := cplQueue b r
  let x : Que := mapGet {} q s.ques
  let y : Que := if full then { x with waits := some (x.waits.getD s.mt) } else { x with waits := none, stallSaid := false }
  { s with ques := mapPut {} q y s.ques }

/-- Bytes of a reply in its queue, the trailer included (R521). -/
def replyBytes (l : List Word) : Nat := 4 * l.length + 4

/-- Write replies into the completion ring queue (R350, R525), up to the first whose plot is refused. -/
def State.cplQueued (s : State) (b r : Nat) : List (List Word) → State
  | [] => s
  | l :: rest =>
    match s.chainWrite (cplQueue b r) (replyBytes l) with
    | (false, t) => t
    | (true, t) => (t.setCring b r { t.cring b r with queued := (t.cring b r).queued + 1 }).cplQueued b r rest

/-- The reply at the head of the completion ring queue has been read. -/
def State.cplRead (s : State) (b r : Nat) (l : List Word) : State :=
  let t := s.chainRead (cplQueue b r) (replyBytes l)
  t.setCring b r { t.cring b r with queued := (t.cring b r).queued - 1 }

/-- Write the replies of the completion ring queue into the completion ring, as far as it has room (R525); one that finds none makes
the queue wait. -/
def State.cplFlush (s : State) (b r : Nat) : List (List Word) → State
  | [] => s.setCring b r { s.cring b r with replies := [] }
  | l :: rest =>
    if (s.cring b r).queued = 0 then s.setCring b r { s.cring b r with replies := l :: rest }
    else match s.cplWrite b r l with
    | (true, t) => (((t.cplRead b r l).cringDone b r).cplWaits b r false).cplFlush b r rest
    | (false, t) => (t.setCring b r { t.cring b r with replies := l :: rest }).cplWaits b r true

/-- Write the replies `l` of a ring out: those that its queue does not hold yet go into it first. -/
def State.cplSend (s : State) (b r : Nat) (l : List (List Word)) : State :=
  (s.cplQueued b r (l.drop (s.cring b r).queued)).cplFlush b r l

/-- A reply of ring r is discarded and counted (R516). -/
def State.replyLost (s : State) (b r : Nat) : State :=
  s.put (BRG_CRING_STAT_LOST b r) (satAdd 16 (s.get (BRG_CRING_STAT_LOST b r)) 1)

/-- A reply on a ring (R516, R523, R525): discarded and counted where the ring is disabled, or where it has been disabled since
the packet was taken (path `.ring b (r + 4)`). -/
def State.ringReply (s : State) (b r : Nat) (l : List Word) : State :=
  if 4 ≤ r then s.replyLost b (r - 4)
  else if s.isSet (BRG_CRING_CTL_EN b r) then s.cplSend b r ((s.cring b r).replies ++ [l])
  else (s.replyLost b r).cringDone b r

/-- The latest send to district d (R589), where there is one. -/
def State.gazSend (s : State) (d : Nat) : Option GazSend := mapGet none d s.gazSends
/-- Put the latest send to district d. -/
def State.setSend (s : State) (d : Nat) (x : GazSend) : State := { s with gazSends := mapPut none d (some x) s.gazSends }

/-- The reply of the hub itself to the inner packet of a send to district d (R592): it counts as one member's outcome. -/
def State.treeReply (s : State) (d : Nat) (l : List Word) : State :=
  match s.gazSend d with
  | none => s
  | some x =>
    if x.isOver || !x.selfOpen then s
    else if bits (l.getD 1 0#32).toNat 31 16 = 0 then s.setSend d { x with selfOpen := false, applied := x.applied + 1 }
    else s.setSend d { x with selfOpen := false, refused := x.refused + 1 }

/-- Send a reply on the path of its packet. -/
def State.sendOn (s : State) (path : Path) (b : Nat) (l : List Word) : State :=
  match path with
  | .ring rb r => s.ringReply rb r l
  | .tree d => s.treeReply d l
  | p => s.envReply p b l

/-! ## Completing commands (R522, R528) -/

/-- The result of a command is known: the tag entry becomes DONE with its reply cached, and the reply is sent. -/
def State.complete (s : State) (op : Nat) (p : Packet) (status : Nat) (res : List Word) : State :=
  let b := p.borough % 32
  let l := replyCore op p.borough p.gen p.tag status (s.rn (CMD_INSTANCE b)) res
  let s1 := s.setTag b p.tag (.done (p.gen / 16) (cachedReply l))
  let s2 := s1.sendOn p.path b l
  if status = 0x11 then s2.raise evCMD_ENGINE_FAULT 65535 [.w4 (actionOf p)] b else s2

/-- A reply that no tag entry caches: checks 1 to 4, TAG_BUSY and the refusals of a borough in reset (R519, R580). -/
def State.bareReply (s : State) (op : Nat) (p : Packet) (status : Nat) : State :=
  s.sendOn p.path (p.pathBorough % 32)
    (replyCore op p.borough p.gen p.tag status (s.rn (CMD_INSTANCE (p.pathBorough % 32))) [])

/-- Complete the open command that an action word names. -/
def State.finishCmd (s : State) (action status : Nat) (res : List Word) : State :=
  match s.cmds.find? (fun c => c.action == action) with
  | none => s
  | some c => ({ s with cmds := s.cmds.filter (fun x => x.action != action) }).complete c.op c.pkt status res

/-- The commit record of R522. -/
def State.commitRecord (s : State) (g k : Nat) (t : Int) : List Word :=
  let p := mtParts t
  [w32 k, w32 (k / 2 ^ 32), w32 (g + 256 * (s.tstate + 4 * s.get TB_STATUS_COARSE)),
    w32 (p.2.2 + 65536 * (p.2.1 % 65536)), w32 (p.2.1 / 65536 + 65536 * (p.1 % 65536)), w32 (p.1 / 65536)]

/-- Complete the staged commands that wait for boundary k of grid g (R522). -/
def State.finishBoundary (s : State) (g k : Nat) : State :=
  let due := s.cmds.filter (fun c => c.grid == g && c.index == k)
  due.foldl (fun s c => s.finishCmd c.action c.status
    (if c.status = 0 then s.commitRecord g k (s.gridInstant g k) ++ c.result else [])) s

/-- A command that waits for its boundary: whether any unit still holds a change of it. -/
def State.actionStaged (s : State) (action : Nat) : Bool := s.staged.any (fun x => x.action == action)

/-- Complete with CMD_ABORTED the staged commands of which no unit holds a change any longer (R522). -/
def State.abortDiscarded (s : State) : State :=
  let gone := s.cmds.filter (fun c => decide (c.grid < 8) && !s.actionStaged c.action)
  gone.foldl (fun s c => s.finishCmd c.action 0x12 []) s

end Sys2Proof.Machine
end

