-- ==== Sys2Proof/Machine/Tim.lean ====
section
/-! DEFINITION. Time-interval and frequency measurement (chapter 03). -/
namespace Sys2Proof.Machine

/-! ## Cores (R121, R130 to R134) -/

/-- The physical core that serves logical core n; 18 where none does. -/
def State.coreOf (s : State) (n : Nat) : Nat :=
  ((List.range 18).find? (fun p => s.get (TIM_CORE_STAT_LOGICAL p) == n)).getD 18

/-- B_i of a bin with equal bins: (2i + 1) × 204.8, rounded. -/
def equalBin (i : Nat) : Nat := ((2 * i + 1) * 16384 + 40) / 80

/-- The centre of bin i of core p in units of 2^-16 ns; 0 while COARSE (R124, R125). -/
def State.binCentre (s : State) (p i : Nat) : Nat :=
  if s.isSet TB_STATUS_COARSE then 0
  else match (mapGet {} p s.tdc).centres with
    | [] => equalBin i
    | l => l.getD i 0

/-- Bin centres of 2^20 captures (the rule before R130): B_i = (2 Σ(j < i) h_j + h_i) / 80, rounded. -/
def binCentres : Nat → List Nat → List Nat
  | _, [] => []
  | acc, h :: r => (2 * acc + h + 40) / 80 :: binCentres (acc + h) r

/-- E over a fractional number of ticks, in fifths of 2^-16 ns (R50, R124): exact, rounded once. -/
def elapsedFifths (n : Nat) (rate sl : Int) : Int :=
  divRound ((n : Int) * ((2 ^ 48 + rate) * 1000000000 + sl * 2 ^ 48)) (5 * 2 ^ 48 * 1000000000)

/-- The Meridian time of a capture on the present tick in bin i of core p, latch l, before the input's delay (R124). -/
def State.captureMt (s : State) (p l i : Nat) : Int :=
  s.tb.offset + elapsedFifths ((s.tb.fc - s.tb.anchor) * 131072 + 5 * s.binCentre p i) s.tb.rate s.tb.slewPpb
    - sext 32 (s.trimWord 1 (0x20 + 4 * (8 * p + l)))

/-- Start a calibration run on core p (R132); a run in progress continues. -/
def State.coreStart (s : State) (p : Nat) (ctl : Bool) : State :=
  let c := mapGet {} p s.tdc
  if s.isSet (TIM_CORE_STAT_RUNNING p) then s
  else { s with tdc := mapPut {} p { c with byCtl := ctl } s.tdc }.put (TIM_CORE_STAT_RUNNING p) 1

/-- Whether a run that `TIM_CAL_CTL` started is in progress. -/
def State.ctlRuns (s : State) : Bool :=
  (List.range 18).any (fun p => s.isSet (TIM_CORE_STAT_RUNNING p) && (mapGet {} p s.tdc).byCtl)

/-- Start runs on the logical cores that `CORE` names (R132). -/
def State.coresStart (s : State) (core : Nat) (ctl : Bool) : State :=
  if core < 16 then s.coreStart (s.coreOf core) ctl
  else if core = 16 then (List.range 16).foldl (fun a n => a.coreStart (a.coreOf n) ctl) s
  else s

/-- A write of `TIM_CAL_CTL` (R132, R137): START starts runs, and reads 1 while one so started is in progress; START with a reserved
`CORE` leaves the register as it is. A new `PERIOD` counts from its write (DESIGN CHOICE, log entry 61). -/
def State.calCtlWrite (s : State) (w : Wr) : State :=
  let go := w.hits 15
  let core := bits (merged (s.rn TIM_CAL_CTL) w) 4 0
  if go && 17 ≤ core then s.raise evSYS_ACCESS_VALUE w.fn
  else
    let s1 := s.mergeRaw 0x40000 w
    let s2 := if s1.get TIM_CAL_CTL_PERIOD = s.get TIM_CAL_CTL_PERIOD then s1 else { s1 with timCal := s.mt }
    if go then
      if s2.awake 93 then
        let s3 := s2.coresStart core true
        s3.put TIM_CAL_CTL_START (b2n s3.ctlRuns)
      else s2.refuseDom 93
    else s2

/-- TIM_CAL_START (R132). -/
def execTimCalStart (w : Wr) (s : State) : Host.Outcome State Fault Refusal :=
  .next (s.pfOnly w 0x40000 (fun s => s.calCtlWrite w))

/-- A write of `TIM_CORE_STAT[p]` (R132, R137): START starts a run on that core, and reads 1 until it ends. -/
def State.coreStatWrite (s : State) (p : Nat) (w : Wr) : State :=
  if !w.hits 15 then s
  else if !s.awake 93 then s.refuseDom 93
  else if s.isSet (TIM_CORE_STAT_RUNNING p) then s
  else (s.coreStart p false).put (TIM_CORE_STAT_START p) 1

/-- TIM_CORE_START (R137). -/
def execTimCoreStart (p : Nat) (w : Wr) (s : State) : Host.Outcome State Fault Refusal :=
  .next (s.pfOnly w (0x40100 + 4 * p) (fun s => s.coreStatWrite p w))

/-- TIM_CAL_PERIODIC (R132): a period that is not 0 ends, and the next one begins; nothing before its end. -/
def execTimCalPeriodic (s : State) : Host.Outcome State Fault Refusal :=
  let ends := s.timCal + ((s.get TIM_CAL_CTL_PERIOD * mtSec : Nat) : Int)
  if s.get TIM_CAL_CTL_PERIOD = 0 || decide (s.mt < ends) then .next s
  else
    let s1 : State := { s with timCal := ends }
    .next (if s1.awake 93 then s1.coresStart (s1.get TIM_CAL_CTL_CORE) false else s1)

/-- The spare core that a substitution takes: the lowest-numbered that is neither failing nor taken (R134 names none; DESIGN CHOICE,
log entry 62). -/
def State.spareCore (s : State) : Option Nat :=
  (List.range 18).find? (fun p => s.get (TIM_CORE_STAT_LOGICAL p) == 31 && !s.isSet (TIM_CORE_STAT_FAILING p)
    && s.tdcSwitches.all (fun x => x.spare != p))

/-- Begin the substitution of logical core n (R134): a spare is calibrated; with none left it is reported. -/
def State.tdcSubstitute (s : State) (n : Nat) (pol : Bool) : State :=
  match s.spareCore with
  | none => s.spareExhausted 9 (s.coreOf n)
  | some q => ({ s with tdcSwitches := s.tdcSwitches ++ [⟨n, q, pol⟩] } : State).coreStart q false

/-- START of `TIM_CAL_CTL` clears when every run it started has ended. -/
def State.calCtlDone (s : State) : State :=
  if s.ctlRuns then s else s.put TIM_CAL_CTL_START 0

/-- TIM_CAL_RUN_END (R130, R131): the counts of core p's 64 bins and its die temperature. An accepted run puts its
table in force and toggles `CALGEN`; a rejected one marks the core failing and raises CORE_FAULT, and starts a
substitution while `SP_TDC` is armed. An accepted run leaves the mark of a failing core as it is: only a substitution ends its
service (R131, R134; DESIGN CHOICE, log entry 62). -/
def execTimCalRunEnd (p : Nat) (counts : List Nat) (temp : Int) (s : State) : Host.Outcome State Fault Refusal :=
  if !s.isSet (TIM_CORE_STAT_RUNNING p) then .next s
  else
    let s1 := (s.put (TIM_CORE_STAT_RUNNING p) 0).put (TIM_CORE_STAT_START p) 0
    let c := mapGet {} p s1.tdc
    if counts.length = 64 && counts.all (fun h => decide (4096 ≤ h) && decide (h ≤ 65536)) then
      let s2 := { s1 with tdc := mapPut {} p { centres := binCentres 0 counts } s1.tdc }
      let s3 := s2.put (TIM_CORE_STAT_CALGEN p) (1 - s2.get (TIM_CORE_STAT_CALGEN p))
      .next (((s3.put (TIM_CORE_STAT_CAL_STALE p) 0).put (TIM_CORE_STAT_CAL_TEMP p) (toBits 8 temp)).calCtlDone)
    else
      let s2 := { s1 with tdc := mapPut {} p { c with byCtl := false } s1.tdc }
      let s3 := ((s2.put (TIM_CORE_STAT_FAILING p) 1).raise evTIM_CORE_FAULT p).calCtlDone
      let n := s3.get (TIM_CORE_STAT_LOGICAL p)
      let s4 := { s3 with tdcSwitches := s3.tdcSwitches.filter (fun x => x.spare != p) }
      match s3.tdcSwitches.find? (fun x => x.spare == p) with
      | some x => .next (s4.tdcSubstitute x.logical x.byPolicy)
      | none =>
        if n < 16 && s4.armed 9 then .next (s4.tdcSubstitute n true)
        else if n < 16 && s4.spareCore.isNone then .next (s4.spareExhausted 9 p)
        else .next s4

/-- TIM_CAL_STALE (R133): core p's temperature leaves ±5 °C of that of its last accepted run, or returns within them. -/
def execTimCalStale (p : Nat) (temp : Int) (s : State) : Host.Outcome State Fault Refusal :=
  let c := mapGet {} p s.tdc
  let off := decide (5 < (temp - sext 8 (s.get (TIM_CORE_STAT_CAL_TEMP p))).natAbs)
  if c.centres = [] || c.drifted == off then .next s
  else
    let s1 := ({ s with tdc := mapPut {} p { c with drifted := off } s.tdc } : State).put (TIM_CORE_STAT_CAL_STALE p) (b2n off)
    .next (if off then s1.raise evTIM_CAL_STALE p else s1)

/-- TDC_SPARE_SWITCH (R134): with the spare calibrated, tag delivery of logical core n moves to it on one tick; the old
core is withdrawn, and a policy action is logged (R44). -/
def execTdcSpareSwitch (n : Nat) (s : State) : Host.Outcome State Fault Refusal :=
  match s.tdcSwitches.find? (fun x => x.logical == n) with
  | none => .next s
  | some x =>
    if s.isSet (TIM_CORE_STAT_RUNNING x.spare) || s.isSet (TIM_CORE_STAT_FAILING x.spare) then .next s
    else
      let old := s.coreOf n
      let s1 := { s with tdcSwitches := s.tdcSwitches.filter (fun y => y.logical != n) }
      let s2 := (s1.put (TIM_CORE_STAT_LOGICAL old) 31).put (TIM_CORE_STAT_LOGICAL x.spare) n
      let s3 := s2.useSpare 9 old
      if x.byPolicy then
        .next (s3.policyLog evTIM_CORE_FAULT old (policyDetail 9 evTIM_CORE_FAULT.code old x.spare))
      else .next s3

/-! ## Frequency counters (R136) -/

/-- Whether a frequency source is reserved: above CG[23], or a CG of an absent die (R3). -/
def State.freqSrcReserved (s : State) (src : Nat) : Bool := decide (0x12 + s.part.groups ≤ src)

/-- Begin a gate of counter k at Meridian time t with the settings in the register. The last edge of the previous gate is its first,
with its `COARSE`; it is so after a changed `SRC` too, where the spec is silent (DESIGN CHOICE, log entry 63). -/
def State.gateStart (s : State) (k : Nat) (t : Int) (carry : Option (Int × Bool)) : State :=
  let c := carry.getD (0, false)
  let g : FreqGate := ⟨s.get (TIM_FREQ_CFG_SRC k), s.get (TIM_FREQ_CFG_GATE k), t, b2n carry.isSome, c.1, c.1, c.2, c.2⟩
  { s with freqs := mapInsert k g s.freqs }

/-- Whether a gate has ended by Meridian time t. -/
def FreqGate.over (g : FreqGate) (t : Int) : Bool := decide (g.start + ((g.gate * mtUs : Nat) : Int) ≤ t)

/-- The gate of counter k ends (R136, R722): N, I, F and status are updated on one tick, `SEQ` advances, and the next gate begins where
this one ended, with its last edge. -/
def State.gateEnd (s : State) (k : Nat) (g : FreqGate) : State :=
  let i := (g.last - g.first).toNat
  let f := if i = 0 then 0 else (divRound (((g.n - 1) * 2 ^ 24 * mtSec : Nat) : Int) i).toNat
  let ok := decide (2 ≤ g.n)
  let s1 := (s.wn (TIM_FREQ_N k) g.n).wr64 (TIM_FREQ_I_LO k) (TIM_FREQ_I_HI k) (if ok then i else 0)
  let s2 := s1.wr64 (TIM_FREQ_F_LO k) (TIM_FREQ_F_HI k) (if ok then f else 0)
  let s3 := (s2.put (TIM_FREQ_ST_STATE k) s.tstate).put (TIM_FREQ_ST_COARSE k) (b2n g.coarse)
  let s4 := (s3.put (TIM_FREQ_ST_NOSIG k) (b2n !ok)).put (TIM_FREQ_ST_SEQ k) (s3.get (TIM_FREQ_ST_SEQ k) + 1)
  s4.gateStart k (g.start + ((g.gate * mtUs : Nat) : Int)) (if g.n = 0 then none else some (g.last, g.lastCo))

/-- The gates of counter k that have ended by Meridian time t, at most `n` of them. -/
def State.gatesEnd (s : State) (k : Nat) (t : Int) (n : Nat) : State :=
  (List.range n).foldl (fun (s : State) _ => match s.freqs.find? (fun e => e.1 == k) with
    | some (_, g) => if g.over t then s.gateEnd k g else s
    | none => s) s

/-- The gates that have ended by Meridian time t on every counter that counts edges of source `src`. -/
def State.gatesDue (s : State) (src : Nat) (t : Int) : State :=
  s.freqs.foldl (fun (s : State) e =>
    if e.2.src = src then s.gatesEnd e.1 t (((t - e.2.start) / ((max 1 (e.2.gate * mtUs) : Nat) : Int)).toNat) else s) s

/-- A gate takes an edge with tag t. -/
def FreqGate.edge (g : FreqGate) (t : Int) (coarse : Bool) : FreqGate :=
  { g with n := g.n + 1, first := if g.n = 0 then t else g.first, last := t, coarse := g.coarse || coarse, lastCo := coarse }

/-- An edge counted by the frequency counters that select source `src`, in the gate in which its tag lies (R136). -/
def State.freqEdge (s0 : State) (src : Nat) (t : Int) (coarse : Bool) : State :=
  let s := s0.gatesDue src t
  { s with freqs := s.freqs.map (fun e => if e.2.src = src then (e.1, e.2.edge t coarse) else e) }

/-- A write of `TIM_FREQ_CFG[k]` (R136): clearing EN discards the gate in progress, setting it begins one; a source of
an absent group is a reserved value. -/
def State.freqCfgWrite (s : State) (k : Nat) (w : Wr) : State :=
  let on := s.isSet (TIM_FREQ_CFG_EN k)
  let src := s.get (TIM_FREQ_CFG_SRC k)
  let s1 := s.mergeRaw (TIM_FREQ_CFG k).key w
  let s2 := if s1.freqSrcReserved (s1.get (TIM_FREQ_CFG_SRC k)) then
      (s1.put (TIM_FREQ_CFG_SRC k) src).raise evSYS_ACCESS_VALUE w.fn else s1
  if !s2.isSet (TIM_FREQ_CFG_EN k) then { s2 with freqs := mapErase k s2.freqs }
  else if on then s2
  else s2.gateStart k s2.mt none

/-- The edges of REF10M in a gate (R136): the command of the gate's end tells how many came and the tags of the first and the last,
which lie in the gate. They are the source's own where it is selected, arrives and is tagged. -/
def State.refEdges (s : State) (g : FreqGate) (r : RefEdges) : FreqGate :=
  let ends := g.start + ((g.gate * mtUs : Nat) : Int)
  if g.src = 0x11 && s.isSet TB_STATUS_REF10M_OK && s.awake 93 && 0 < r.n && decide (g.start ≤ r.first) && decide (r.first ≤ r.last)
      && decide (r.last < ends) && (decide (1 < r.n) || decide (r.first = r.last)) then
    let co := s.isSet TB_STATUS_COARSE
    { g with n := g.n + r.n, first := if g.n = 0 then r.first else g.first, last := r.last, coarse := g.coarse || co, lastCo := co }
  else g

/-- FREQ_GATE_END (R136, R722): a gate of a counter has lasted its time. -/
def execFreqGateEnd (x : GateEnd) (s : State) : Host.Outcome State Fault Refusal :=
  .next (match s.freqs.find? (fun e => e.1 == x.k) with
    | none => s
    | some (_, g) => if g.over s.mt then s.gateEnd x.k (s.refEdges g x.edges) else s)

/-! ## Edge inputs (R124 to R128) -/

/-- The settings of EDGE[n] in force: those before a write made while it was enabled, on the tick of that write (R127). -/
def State.edgeCfg (s : State) (n : Nat) : Nat :=
  match (mapGet {} n s.edges).before with
  | some (v, c) => if s.tb.fc ≤ c then v else s.rn (TIM_EDGE_CFG n)
  | none => s.rn (TIM_EDGE_CFG n)

/-- A write of `TIM_EDGE_CFG[n]` (R127): while the input is enabled it takes effect on the tick after. -/
def State.edgeCfgWrite (s : State) (n : Nat) (w : Wr) : State :=
  let e := mapGet {} n s.edges
  let old := s.edgeCfg n
  let s1 := s.mergeRaw (TIM_EDGE_CFG n).key w
  { s1 with edges := mapPut {} n { e with before := if bit old 0 then some (old, s.tb.fc) else none } s1.edges }

/-- Latch a popped time in companion words W1 to W3, with the high bits of W3. -/
def State.latchWords (s : State) (r : Nat → Reg) (t : Int) (w3 : Nat) : State :=
  let p := mtParts t
  ((s.wn (r 1) p.2.1).wn (r 2) p.1).wn (r 3) (p.1 / 2 ^ 32 + w3)

/-- Pop the head tag of EDGE[n] for function `fn`, where there is one: W1 to W3 are latched and the read completes. -/
def State.popTag (s : State) (fn n : Nat) : State :=
  match mapGet [] n s.tagQ with
  | [] => s
  | x :: r =>
    let s1 := ({ s with tagQ := mapPut [] n r s.tagQ } : State).latchWords (TIM_TAG_W n) x.mt 0
    s1.emit (.readDone fn (0x40400 + 16 * n) (leBytes 4 (x.head + (mtParts x.mt).2.2)))

/-- Queue the tag of an accepted edge of EDGE[n] (R126); the oldest stalled pop takes it (R384). -/
def State.edgeTag (s : State) (n : Nat) (x : EdgeTag) : State :=
  let r := pqOffer (s.isSet (SYS_PQ_CTL_POLICY (16 + n))) 1024 (mapGet [] n s.tagQ) x
  let s1 := { s with tagQ := mapPut [] n r.1 s.tagQ }
  let s2 := if r.2 then s1.pqLose (16 + n) else s1
  match s2.stalledPop (16 + n) with
  | none => s2
  | some w => (s2.popResume (16 + n)).popTag w.fn n

/-- EDGE_CAPTURE (R128): an edge of EDGE[n] in bin i of the present tick, rising or falling. An edge of the selected
polarity outside the dead time and hold-off is accepted and tagged; one of either polarity within them is counted
(DEDUCED, log entry 12), the hold-off being that under which the accepted edge was captured (R127); in a sleeping domain it is
counted as missed (R135). -/
def execEdgeCapture (n i : Nat) (rising : Bool) (s : State) : Host.Outcome State Fault Refusal :=
  let cfg := s.edgeCfg n
  if !bit cfg 0 || bits cfg 3 2 = 0 then .next s
  else
    let p := s.coreOf n
    let e := mapGet {} n s.edges
    let pos := s.tb.fc * 131072 + 5 * s.binCentre p i
    let since := match e.last with
      | none => none
      | some q => some (pos - q)
    let miss : State → State := fun s =>
      let s1 := s.bump (TIM_EDGE_MISS n)
      let due := match e.missRaised with
        | none => true
        | some t => decide (t + (mtMs : Int) ≤ s.mt) || decide (s.mt < t)
      if due then { s1 with edges := mapPut {} n { e with missRaised := some s.mt } s1.edges }.raise evTIM_EDGE_MISSED n
      else s1
    let dead := match since with
      | none => false
      | some d => decide (d < 8 * 131072)
    let hold := match since with
      | none => false
      | some d => decide (d < e.hold * 131072)
    if !s.awake 93 then .next (s.bump (TIM_EDGE_MISS n))
    else if dead then .next (miss s)
    else if hold then .next (s.bump (TIM_EDGE_HOLD n))
    else if !bit (bits cfg 5 4) (if rising then 0 else 1) then .next s
    else
      let t := s.captureMt p 0 i - sext 32 (s.rn (TIM_EDGE_DELAY n))
      let co := s.isSet TB_STATUS_COARSE
      let head := b2n rising * 2 ^ 30 + b2n co * 2 ^ 29 + s.get (TIM_CORE_STAT_FAILING p) * 2 ^ 28
        + s.get (TIM_CORE_STAT_CAL_STALE p) * 2 ^ 27 + s.get (TIM_CORE_STAT_CALGEN p) * 2 ^ 26 + s.tstate * 2 ^ 24
      let s1 := { s with edges := mapPut {} n { e with last := some pos, hold := bits cfg 31 16 } s.edges }
      .next (((s1.edgeTag n ⟨head, t⟩).freqEdge n t co).offerTrig n t co)

/-- TIM_TAG_POP (R126, R384): pop the head tag of EDGE[n] and latch W1 to W3; a pop of an empty queue stalls. -/
def execTimTagPop (fn n : Nat) (s : State) : Host.Outcome State Fault Refusal :=
  let s0 := s.flushHeld fn
  if fn ≠ 0 || s0.shut 0x40400 then .next (s0.readReserved fn (0x40400 + 16 * n))
  else if (mapGet [] n s0.tagQ).isEmpty then .next (s0.popStall (16 + n) fn)
  else .next (s0.popTag fn n)

/-! ## Converter clock taps (R123) -/

/-- CG_LOST (R123): a running group's tap delivers no edge for four expected periods. -/
def execCgLost (g : Nat) (s : State) : Host.Outcome State Fault Refusal :=
  if s.isSet (CNV_GRP_STAT_RUNNING (g / 3) (g % 3)) && s.awake g && !s.cgLost.contains g then
    .next ({ s with cgLost := g :: s.cgLost }.raise evTIM_CG_LOST g)
  else .next s

/-- Edges of a group's tap are back: CG_BACK after a loss (R123). -/
def State.cgBack (s : State) (g : Nat) : State :=
  if s.cgLost.contains g then { s with cgLost := s.cgLost.filter (fun x => x != g) }.raise evTIM_CG_BACK g else s

end Sys2Proof.Machine
end

