-- ==== Sys2Proof/Machine/Cnv.lean ====
section
/-! DEFINITION. The wideband converters (chapter 04): groups, sampling PLLs, locked mode, the survey, slice failure,
input enables and die links. Group g is group g mod 3 of die g / 3, and input i is input i mod 96 of die i / 96. -/
namespace Sys2Proof.Machine

/-! ## Groups -/

/-- What the hub holds of a group. -/
def State.grp (s : State) (g : Nat) : Group := mapGet {} g s.grps
/-- Put what the hub holds of a group. -/
def State.setGrp (s : State) (g : Nat) (x : Group) : State := { s with grps := mapPut {} g x s.grps }
/-- What the hub holds of an input. -/
def State.inp (s : State) (i : Nat) : Inp := mapGet {} i s.inps
/-- Put what the hub holds of an input. -/
def State.setInp (s : State) (i : Nat) (x : Inp) : State := { s with inps := mapPut {} i x s.inps }

/-- `CNV_GRP_CTL` of group g. -/
def gCtl (g : Nat) : Reg := CNV_GRP_CTL (g / 3) (g % 3)
/-- `CNV_GRP_PLL` of group g. -/
def gPll (g : Nat) : Reg := CNV_GRP_PLL (g / 3) (g % 3)
/-- `CNV_GRP_LOCK` of group g. -/
def gLock (g : Nat) : Reg := CNV_GRP_LOCK (g / 3) (g % 3)
/-- `CNV_IN_STAT` of input i. -/
def iStat (i : Nat) : Reg := CNV_IN_STAT (i / 96) (i % 96)
/-- `CNV_TRIM` of slice s of input i. -/
def iTrim (i sl : Nat) : Reg := CNV_TRIM (i / 96) (i % 96) sl

/-- A bit range of a register. -/
def State.sub (s : State) (r : Reg) (hi lo : Nat) : Nat := s.get ⟨r, hi, lo⟩
/-- Put a bit range of a register. -/
def State.setSub (s : State) (r : Reg) (hi lo v : Nat) : State := s.put ⟨r, hi, lo⟩ v

/-- Whether `RUN` is in force. -/
def State.grpRun (s : State) (g : Nat) : Bool := bit (s.frd (gCtl g)).toNat 2
/-- Whether locked mode is in force. -/
def State.grpLocked (s : State) (g : Nat) : Bool := bit (s.frd (gCtl g)).toNat 3

/-- The inputs of a group. -/
def grpInputs (g : Nat) : List Nat := (List.range 32).map (fun k => 32 * g + k)

/-- The group of an input. -/
def inputGroup (i : Nat) : Nat := i / 32

/-- Whether a slot takes input i: its source is a converter with that index (R165). -/
def State.takesInput (s : State) (n i : Nat) : Bool :=
  s.get (CHP_SRC_TYPE n) == 1 && s.get (CHP_SRC_INDEX n) == i

/-- Whether a slot whose source is an input of the group is bound (R146, R160). -/
def State.grpBound (s : State) (g : Nat) : Bool :=
  s.slots.any (fun e => e.2.on && s.get (CHP_SRC_TYPE e.1) == 1 && inputGroup (s.get (CHP_SRC_INDEX e.1)) == g)

/-! ## The survey (R151 to R158) -/

/-- Reload the trims of an input from the trim image (R155, R287), keeping the state of each slice. -/
def State.loadTrims (s : State) (i : Nat) : State :=
  (List.range 17).foldl (fun a sl =>
    a.setSub (iTrim i sl) 28 0 (a.trimWord (8 + i / 96) (0x20 + 0x44 * (i % 96) + 4 * sl))) s

/-- The valid spare of an input is gone or back. -/
def State.setSpareBit (s : State) (i : Nat) (b : Bool) : State := s.setSub (iStat i) 19 19 (b2n b)

/-- Place the slices of an input as at a group start (R151): slice 16 offline and slice n on phase n, a valid spare where slice
16 is not failing (R158); a retired slice stays retired, slice 16 then serves its phase and nothing is offline (R160). -/
def State.placeSlices (s : State) (i : Nat) : State :=
  match (List.range 17).find? (fun sl => s.sub (iTrim i sl) 31 29 == 3) with
  | none =>
    let s1 := (List.range 17).foldl (fun a sl =>
      if a.sub (iTrim i sl) 31 29 = 2 then a else a.setSub (iTrim i sl) 31 29 (if sl = 16 then 1 else 0)) s
    ((s1.setInp i { s1.inp i with phases := List.range 17, run := 0 }).setSub (iStat i) 31 27 16).setSpareBit i
      (s1.sub (iTrim i 16) 31 29 == 1)
  | some r =>
    let ph := (List.range 17).map (fun sl => if sl = r then 16 else if sl = 16 then r else sl)
    let s1 := (List.range 17).foldl (fun a sl => if sl = r then a else a.setSub (iTrim i sl) 31 29 0) s
    ((s1.setInp i { s1.inp i with phases := ph, run := 0 }).setSub (iStat i) 31 27 31).setSpareBit i false

/-- Whether the survey of an input can run: enabled, not dead, with an offline slice that is not failing. -/
def State.surveyable (s : State) (i : Nat) : Bool :=
  let off := s.sub (iStat i) 31 27
  s.sub (iStat i) 16 16 == 1 && s.sub (iStat i) 18 18 == 0 && off != 31 && s.sub (iTrim i off) 31 29 == 1

/-- The effective dwell of a group in ms (R152): the larger of `DWELL` and the acquisition time 2^26 / f_s plus 2 ms, rounded
up; f_s is the nominal rate in force. -/
def State.effDwell (s : State) (g : Nat) : Nat :=
  let pll := (s.frd (gPll g)).toNat
  max (s.get (CNV_GRP_CTL_DWELL (g / 3) (g % 3))) (ceilDiv (2 ^ 50 * 1000) (max 1 (250000000 * pll)) + 2)

/-- A survey step of a group begins: the effective dwell is fixed for it (R152, R156). -/
def State.stepStart (s : State) (g : Nat) : State := s.setGrp g { s.grp g with stepAt := s.mt, dwell := s.effDwell g }

/-- Run the survey of an input where it can run and is enabled (R151, R156). -/
def State.surveyRun (s : State) (i : Nat) : State :=
  let en := s.sub (gCtl (inputGroup i)) 4 4 == 1
  if s.surveyable i && en && s.sub (iStat i) 21 20 = 0 then s.setSub (iStat i) 21 20 1 else s

/-- CAL_UNSETTLED on every enabled input of a group, the unheld run starting afresh (R144, R155). -/
def State.unsettleGroup (s : State) (g : Nat) : State :=
  (grpInputs g).foldl (fun a i =>
    if a.sub (iStat i) 16 16 = 1 then (a.setInp i { a.inp i with run := 0 }).setSub (iStat i) 17 17 1 else a) s

/-- Whether a slot whose output runs takes an input of a group. -/
def State.runsFrom (s : State) (n g : Nat) : Bool :=
  s.slotRuns n && srcType (s.srcWord n) == 1 && inputGroup (srcIndex (s.srcWord n)) == g

/-- Slots in FIXED on a group that no longer holds lock, or about to enter it, leave it for the state of the group's estimator
(R214). -/
def State.unfix (s : State) (g : Nat) : State :=
  let tr := s.get (CNV_GRP_TRKST_TRACK (g / 3) (g % 3))
  s.slots.foldl (fun (a : State) e =>
    if a.runsFrom e.1 g then
      let x := a.slot e.1
      let b := a.setSlot e.1 { x with marks := x.marks.map (fun m => { m with fix := none }), posVer := none }
      if a.get (CHP_RSM_STAT_TRACK e.1) = 5 then b.put (CHP_RSM_STAT_TRACK e.1) (if tr = 0 then 4 else tr) else b
    else a) s

/-- The slots on a group follow it when its samples begin or stop: ACQUIRE with a new acquisition, LOST with a group that does not
run (R201, R216); the indices of their source begin afresh (R200). -/
def State.slotsBegin (s : State) (g tr : Nat) : State :=
  s.slots.foldl (fun (a : State) e =>
    if a.runsFrom e.1 g then
      (a.setSlot e.1 { a.slot e.1 with lastI := none }).put (CHP_RSM_STAT_TRACK e.1) (if tr = 1 then 1 else 4)
    else a) s

/-- A new sample counter and a new acquisition begin with the first samples (R200, R201, R217). -/
def State.samplesStart (s : State) (g : Nat) : State :=
  let x := s.grp g
  let s1 := s.setGrp g { x with flowing := true, lockTags := [], est := { coastMax := x.est.coastMax, bw := x.est.bw } }
  let s2 := (s1.put (CNV_GRP_TRKST_TRACK (g / 3) (g % 3)) 1).put (CNV_GRP_TRKST_RESID (g / 3) (g % 3)) 0
  let s3 := s2.wr64 (CNV_GRP_FS_LO (g / 3) (g % 3)) (CNV_GRP_FS_HI (g / 3) (g % 3)) 0
  ((s3.put (CNV_GRP_STAT_LOCKED (g / 3) (g % 3)) 0).unfix g).slotsBegin g 1

/-- A start of a group (R148, R151, R155, R287): trims reloaded, slices placed, CAL_UNSETTLED set. -/
def State.groupStart (s : State) (g : Nat) : State :=
  let s1 := (grpInputs g).foldl (fun a i =>
    let b := (a.loadTrims i).placeSlices i
    (b.setSub (iStat i) 14 0 0).setSub (iStat i) 21 20 0) s
  (s1.unsettleGroup g).put (CNV_GRP_STAT_RUNNING (g / 3) (g % 3)) 1

/-- The samples and CG edges of a group stop. -/
def State.samplesStop (s : State) (g : Nat) : State := s.setGrp g { s.grp g with flowing := false }

/-- A stop of a group on the next round boundary (R148). -/
def State.groupStop (s : State) (g : Nat) : State :=
  let s1 := (grpInputs g).foldl (fun a i => if a.sub (iStat i) 21 20 = 1 then a.setSub (iStat i) 21 20 0 else a)
    (s.samplesStop g)
  let d := g / 3
  let j := g % 3
  let s2 := ((s1.put (CNV_GRP_STAT_PLL_LOCK d j) 0).put (CNV_GRP_STAT_RUNNING d j) 0).put (CNV_GRP_STAT_LOCKED d j) 0
  let s3 := ((s2.put (CNV_GRP_TRKST_TRACK d j) 0).put (CNV_GRP_TRKST_RESID d j) 0).wr64 (CNV_GRP_FS_LO d j) (CNV_GRP_FS_HI d j) 0
  (s3.unfix g).slotsBegin g 0

/-! ## Mode (R145 to R148) -/

/-- The checks of R146 in order on the written mode. -/
def State.applyCheck (s : State) (g : Nat) : Nat :=
  let pll := s.rn (gPll g)
  let ctl := s.rn (gCtl g)
  let lk := s.rn (gLock g)
  let fctl := (s.frd (gCtl g)).toNat
  let same := pll == (s.frd (gPll g)).toNat && lk == (s.frd (gLock g)).toNat && bits ctl 3 2 == bits fctl 3 2
  -- the nominal rate in units of 2^-24 S/s
  let f := 250000000 * (bits pll 31 24 * 2 ^ 24 + bits pll 23 0)
  let inBand : Nat → Nat → Bool := fun n d => decide (2000000000 * d ≤ n) && decide (n ≤ 8000000000 * d)
  let m := bits lk 13 8
  let gr := bits lk 2 0
  let num := m * s.gridNum gr
  let den := s.gridDen gr
  let near := decide (num * 2 ^ 24 * 1000000 ≤ f * den * 1000200) && decide (f * den * 999800 ≤ num * 2 ^ 24 * 1000000)
  if !s.awake g then 1
  else if !same && s.grpBound g then 2
  else if !inBand f (2 ^ 24) then 3
  else if bit ctl 3 && !(decide (1 ≤ m) && decide (m ≤ 64) && s.gridValid gr && inBand num den && near) then 3
  else if bit ctl 2 && s.get (CNV_GRP_STAT_REF_OK (g / 3) (g % 3)) = 0 then 4
  else 0

/-- Put the written mode in force (R146, R148): start, stop, restart with a relock, or a new steering target. -/
def State.applyMode (s : State) (g : Nat) : State :=
  let d := g / 3
  let j := g % 3
  let was := s.grpRun g
  let pllChange := s.rn (gPll g) ≠ (s.frd (gPll g)).toNat
  let lockChange := s.rn (gLock g) ≠ (s.frd (gLock g)).toNat || bit (s.rn (gCtl g)) 3 != s.grpLocked g
  let s1 := ((s.fwr (gPll g) (s.rd (gPll g))).fwr (gLock g) (s.rd (gLock g))).fwr (gCtl g) (s.rd (gCtl g))
  let now := s1.grpRun g
  if !was && now then s1.groupStart g
  else if was && !now then s1.groupStop g
  else if was && pllChange then
    ((s1.samplesStop g).put (CNV_GRP_STAT_PLL_LOCK d j) 0).put (CNV_GRP_STAT_LOCKED d j) 0
  else if was && lockChange then
    ((s1.setGrp g { s1.grp g with lockTags := [], lockBad := 0 }).put (CNV_GRP_STAT_LOCKED d j) 0).unfix g
  else s1

/-- An APPLY (R146): check, put in force, write the code; a closed domain counts the refusal (R629). -/
def State.grpApply (s : State) (g : Nat) : State :=
  let c := s.applyCheck g
  let s1 := if c = 0 then s.applyMode g else if c = 1 then s.refuseDom g else s
  s1.put (CNV_GRP_STAT_CODE (g / 3) (g % 3)) c

/-- A change of `REF_EN` on a write (R145): the buffer settles for 2.0 ms, or turns off. -/
def State.refWrite (s : State) (g : Nat) (on : Bool) : State :=
  let x := s.grp g
  if !s.awake g then s
  else if on && !x.refOn then s.setGrp g { x with refOn := true, refAt := s.mt }
  else if !on && x.refOn then
    (s.setGrp g { x with refOn := false }).put (CNV_GRP_STAT_REF_OK (g / 3) (g % 3)) 0
  else s

/-- A change of `SURVEY_EN` on a write (R156): stop after the step in progress, or resume. -/
def State.surveyWrite (s : State) (g : Nat) (on : Bool) : State :=
  if on then
    let s1 := s.setGrp g { s.grp g with surveyStop := false }
    let busy := (grpInputs g).any (fun i => s1.sub (iStat i) 21 20 == 1)
    if (s1.grp g).flowing then (grpInputs g).foldl State.surveyRun (if busy then s1 else s1.stepStart g) else s1
  else s.setGrp g { s.grp g with surveyStop := true }

/-- A write of `CNV_GRP_CTL` of group g: the fields merge, `REF_EN` acts or is held (REF_HELD), `SURVEY_EN` acts, and
APPLY checks and applies the mode. -/
def State.grpCtlWrite (s : State) (g : Nat) (w : Wr) : State :=
  let was := s.rn (gCtl g)
  let s1 := s.mergeRaw (gCtl g).key w
  let held := s.grpRun g && bit was 1 && !bit (s1.rn (gCtl g)) 1
  let s2 := if held then (s1.setSub (gCtl g) 1 1 1).raise (evCNV_REF_HELD g) g else s1
  let s3 := if w.reaches 1 1 && !held then s2.refWrite g (bit (s2.rn (gCtl g)) 1) else s2
  let s4 := if bit was 4 != bit (s3.rn (gCtl g)) 4 then s3.surveyWrite g (bit (s3.rn (gCtl g)) 4) else s3
  if w.hits 0 then s4.grpApply g else s4

/-- REF_EN_WRITE (R145). -/
def execRefEnWrite (g : Nat) (w : Wr) (s : State) : Host.Outcome State Fault Refusal :=
  .next (s.pfOnly w (gCtl g).key (fun s => s.grpCtlWrite g w))
/-- CNV_APPLY (R146). -/
def execCnvApply (g : Nat) (w : Wr) (s : State) : Host.Outcome State Fault Refusal :=
  .next (s.pfOnly w (gCtl g).key (fun s => s.grpCtlWrite g w))
/-- SURVEY_EN_WRITE (R156). -/
def execSurveyEnWrite (g : Nat) (w : Wr) (s : State) : Host.Outcome State Fault Refusal :=
  .next (s.pfOnly w (gCtl g).key (fun s => s.grpCtlWrite g w))

/-- CNV_REF_OK (R145): 2.0 ms of Meridian time after the write. -/
def execCnvRefOk (g : Nat) (s : State) : Host.Outcome State Fault Refusal :=
  let x := s.grp g
  if x.refOn && s.awake g && decide (x.refAt + ((2 * mtMs : Nat) : Int) ≤ s.mt) then
    .next (s.put (CNV_GRP_STAT_REF_OK (g / 3) (g % 3)) 1)
  else .next s

/-- Samples and CG edges begin or resume over a die link that is up: a new sample counter, the trims of the trim pages,
CAL_UNSETTLED, and the survey runs on with a whole step (R144, R147, R155). -/
def State.samplesBack (s : State) (g : Nat) : State :=
  if s.get (CNV_DIE_STAT_LINK_UP (g / 3)) = 0 then s else
  let s1 := (grpInputs g).foldl (fun (a : State) i =>
    if a.sub (iStat i) 16 16 = 1 then (a.loadTrims i).setInp i { a.inp i with fresh := false } else a) (s.samplesStart g)
  (grpInputs g).foldl State.surveyRun ((s1.unsettleGroup g).stepStart g)

/-- CNV_PLL_LOCKED (R147): the PLL of a started group locks. -/
def execCnvPllLocked (g : Nat) (s : State) : Host.Outcome State Fault Refusal :=
  let d := g / 3
  let j := g % 3
  if s.get (CNV_GRP_STAT_RUNNING d j) = 1 && s.get (CNV_GRP_STAT_PLL_LOCK d j) = 0 && s.awake g then
    .next ((s.put (CNV_GRP_STAT_PLL_LOCK d j) 1).samplesBack g)
  else .next s

/-- PLL_UNLOCK (R144). -/
def execPllUnlock (g : Nat) (s : State) : Host.Outcome State Fault Refusal :=
  let d := g / 3
  let j := g % 3
  if s.get (CNV_GRP_STAT_RUNNING d j) = 1 && s.get (CNV_GRP_STAT_PLL_LOCK d j) = 1 then
    let s1 := (s.raise (evCNV_PLL_UNLOCK g) g).put (CNV_GRP_STAT_PLL_LOCK d j) 0
    .next (s1.samplesStop g)
  else .next s

/-- PLL_RELOCK (R144). -/
def execPllRelock (g : Nat) (s : State) : Host.Outcome State Fault Refusal :=
  let d := g / 3
  let j := g % 3
  if s.get (CNV_GRP_STAT_RUNNING d j) = 1 && s.get (CNV_GRP_STAT_PLL_LOCK d j) = 0 && s.awake g then
    .next ((s.put (CNV_GRP_STAT_PLL_LOCK d j) 1).samplesBack g)
  else .next s

/-! ## Slices (R153, R157, R158) -/

/-- A slice is found failing: FAILING, its mark, and SLICE_FAIL (R158). -/
def State.sliceFail (s : State) (i sl : Nat) : State :=
  ((s.setSub (iStat i) 26 22 sl).setSub (iTrim i sl) 31 29 2).raise (evCNV_SLICE_FAIL (inputGroup i)) i [.w4 sl]

/-- Retire a slice and end the survey of its input (R158). -/
def State.retireSlice (s : State) (i sl by_ : Nat) (pol : Bool) : State :=
  let s1 := (((s.setSub (iTrim i sl) 31 29 3).setSub (iStat i) 21 20 3).setSub (iStat i) 31 27 31).setSpareBit i false
  let det := if pol then policyDetail 0 (evCNV_SLICE_FAIL (inputGroup i)).code sl by_ else [.w4 sl]
  (s1.raise (evCNV_SLICE_RETIRED (inputGroup i)) i det 0 pol).useSpare 0 i

/-- Declare an input dead (R158); its survey ends (DESIGN CHOICE, log entry 65). -/
def State.inputDead (s : State) (i sl : Nat) (pol : Bool) : State :=
  let s1 := (s.setSub (iStat i) 18 18 1).setSub (iStat i) 21 20 3
  let det := if pol then policyDetail 0 (evCNV_SLICE_FAIL (inputGroup i)).code sl 31 else [.w4 sl]
  (s1.raise (evCNV_INPUT_DEAD (inputGroup i)) i det 0 pol).spareExhausted 0 i

/-- The offline slice fails its step: retired under the policy or the opcode, else the survey halts (R158). -/
def State.offlineFail (s : State) (i sl : Nat) (act pol : Bool) : State :=
  if act then s.retireSlice i sl 31 pol
  else ((s.setSub (iStat i) 21 20 2).setSpareBit i false).raise (evCNV_SURVEY_HALT (inputGroup i)) i [.w4 sl]

/-- An in-service slice fails: the offline slice takes its phase and it is retired, or with no valid spare the input is
declared dead (R158); without the policy or the opcode nothing changes. -/
def State.inServiceFail (s : State) (i sl : Nat) (act pol : Bool) : State :=
  let off := s.sub (iStat i) 31 27
  if s.sub (iStat i) 19 19 = 1 then
    if act then
      let ph := (s.inp i).phases
      let ph1 := (ph.set off (ph.getD sl 16)).set sl 16
      ((s.setInp i { s.inp i with phases := ph1 }).setSub (iTrim i off) 31 29 0).retireSlice i sl off pol
    else s
  else if act then s.inputDead i sl pol
  else s.spareExhausted 0 i

/-- One input's result of a survey step (R153): the offline slice's new trims (skew, gain, offset) and residuals (skew
in fs, gain in units of 0.0001 %, offset in units of 0.01 LSB), and whether the rms level was below −40 dBFS. -/
def stepAccepted (r : StepRes) : Bool :=
  decide (r.offRes.natAbs ≤ 25) && decide (r.gainRes.natAbs ≤ 100) && (r.lowRms || decide (r.skewRes.natAbs ≤ 20))
    && decide (-256 ≤ r.offset) && decide (r.offset ≤ 255) && decide (-512 ≤ r.gain) && decide (r.gain ≤ 511)
    && (r.lowRms || (decide (-512 ≤ r.skew) && decide (r.skew ≤ 511)))

/-- The next slice of an input in rotation order, retired slices skipped (R151). -/
def State.nextSlice (s : State) (i sl : Nat) : Nat :=
  (((List.range 16).map (fun k => (sl + 1 + k) % 17)).find? (fun x => s.sub (iTrim i x) 31 29 != 3)).getD sl

/-- Write the trims that a step estimates, before their verification (R152); a held step keeps the skew (R153), and a trim
outside its range is not written (DESIGN CHOICE, log entry 65). -/
def State.writeTrims (s : State) (i sl : Nat) (r : StepRes) : State :=
  let set := fun (t : State) (hi lo w : Nat) (v : Int) =>
    if -(2 ^ (w - 1)) ≤ v ∧ v < 2 ^ (w - 1) then t.setSub (iTrim i sl) hi lo (toBits w v) else t
  let s1 := set (set s 18 9 10 r.gain) 8 0 9 r.offset
  if r.lowRms then s1 else set s1 28 19 10 r.skew

/-- Whether no enabled input of a group shows CAL_UNSETTLED. -/
def State.groupSettled (s : State) (g : Nat) : Bool :=
  (grpInputs g).all (fun i => s.sub (iStat i) 16 16 == 0 || s.sub (iStat i) 17 17 == 0)

/-- An accepted step whose trims are written: count, handover, and CAL_UNSETTLED after 17 unheld steps in a row (R152, R155). A
slice that passes its step is in service and no longer failing (DESIGN CHOICE, log entry 65); a failing slice that goes offline
stays so and is no valid spare (R158). -/
def State.stepDone (s : State) (i : Nat) (r : StepRes) : State :=
  let off := s.sub (iStat i) 31 27
  let nxt := s.nextSlice i off
  let x := s.inp i
  let run := if r.lowRms then 0 else x.run + 1
  let ph := (x.phases.set off (x.phases.getD nxt 16)).set nxt 16
  let s1 := (s.setInp i { x with phases := ph, run := run }).setSub (iStat i) 14 0 (s.sub (iStat i) 14 0 + 1)
  let sound := s1.sub (iTrim i nxt) 31 29 != 2
  let s2 := ((s1.setSub (iTrim i off) 31 29 0).setSub (iTrim i nxt) 31 29 (if sound then 1 else 2)).setSub (iStat i) 31 27 nxt
  let s3 := (s2.setSub (iStat i) 21 20 1).setSpareBit i sound
  if 17 ≤ run && s3.sub (iStat i) 17 17 = 1 then
    let s4 := s3.setSub (iStat i) 17 17 0
    if s4.groupSettled (inputGroup i) then s4.raise (evCNV_SURVEY_DONE (inputGroup i)) (inputGroup i) else s4
  else s3

/-- Judge one input's step at the end of the dwell (R152, R153, R158). An input that joined within the step begins its first one
now (DESIGN CHOICE, log entry 65). -/
def State.judgeStep (s : State) (i : Nat) (r : StepRes) : State :=
  if s.sub (iStat i) 21 20 ≠ 1 then s
  else if (s.inp i).fresh then s.setInp i { s.inp i with fresh := false }
  else
    let off := s.sub (iStat i) 31 27
    let s1 := s.writeTrims i off r
    if stepAccepted r then s1.stepDone i r else (s1.sliceFail i off).offlineFail i off (s1.armed 0) true

/-- The commands that repeat a halted step on an input of group g (R551). -/
def State.stepCmds (s : State) (g : Nat) : List OpenCmd :=
  s.cmds.filter (fun c => c.op == 0x0908 && inputGroup (Packet.arg c.pkt 0 2) == g)

/-- Answer the commands that repeat a step: whether it was accepted. -/
def State.answerSteps (s : State) (g : Nat) (res : List StepRes) (ran : Nat → Bool) : State :=
  (s.stepCmds g).foldl (fun (a : State) c =>
    let i := Packet.arg c.pkt 0 2
    let ok := ran i && (match res[i % 32]? with
      | some r => stepAccepted r
      | none => false)
    a.finishCmd c.action 0 [w32 (b2n ok)]) s

/-- SURVEY_STEP_END (R152): the effective dwell of group g ends; the results stand in the order of its inputs. The next step
begins. -/
def execSurveyStepEnd (g : Nat) (res : List StepRes) (s : State) : Host.Outcome State Fault Refusal :=
  let x := s.grp g
  if !x.flowing || !s.awake g || decide (s.mt < x.stepAt + ((x.dwell * mtMs : Nat) : Int)) then .next s
  else
    let s0 := (((grpInputs g).zip res).foldl (fun a p => a.judgeStep p.1 p.2) s).stepStart g
    let s1 := s0.answerSteps g res (fun i => s.sub (iStat i) 21 20 == 1 && !(s.inp i).fresh)
    if (s1.grp g).surveyStop then
      .next ((grpInputs g).foldl (fun a i => if a.sub (iStat i) 21 20 = 1 then a.setSub (iStat i) 21 20 0 else a) s1)
    else .next s1

/-- SLICE_MONITOR_WINDOW (R157): over a window, slice sl of input i against the mean of the others: mean difference in
units of 0.01 LSB, power difference in units of 0.01 dB, whether the rms is at least −40 dBFS, and whether an output bit
never toggled. -/
def execSliceMonitorWindow (i sl : Nat) (mean power : Int) (loud stuck : Bool) (s : State) :
    Host.Outcome State Fault Refusal :=
  let bad := decide (1600 < mean.natAbs) || (decide (300 < power.natAbs) && loud) || stuck
  if bad && s.sub (iTrim i sl) 31 29 = 0 && (s.grp (inputGroup i)).flowing && s.sub (iStat i) 16 16 = 1
      && s.sub (iStat i) 18 18 = 0 then
    .next ((s.sliceFail i sl).inServiceFail i sl (s.armed 0) true)
  else .next s

/-! ## Input enables (R159) -/

/-- Whether an input is enabled for a sample with an instant in 2^-48 ns (R159): a change counts from the instant of its
boundary. -/
def State.inputOn (s : State) (i : Nat) (t : Int) : Bool :=
  let x := s.inp i
  if t < x.enAt then x.enWas else s.sub (iStat i) 16 16 == 1

/-- Put an input's enable in force from an instant in 2^-48 ns (R159): a disabled input stops its survey, an enabled one starts
afresh. -/
def State.inputEnable (s : State) (i : Nat) (en : Bool) (at_ : Int) : State :=
  let was := s.sub (iStat i) 16 16 == 1
  if en == was then s
  else if en then
    let s1 := ((s.setSub (iStat i) 16 16 1).loadTrims i).placeSlices i
    let s2 := (s1.setSub (iStat i) 17 17 1).setSub (iStat i) 21 20 0
    let busy := (grpInputs (inputGroup i)).any (fun k => s2.sub (iStat k) 21 20 == 1)
    let s3 := s2.setInp i { s2.inp i with fresh := busy, enAt := at_, enWas := was }
    if (s3.grp (inputGroup i)).flowing then (if busy then s3 else s3.stepStart (inputGroup i)).surveyRun i else s3
  else
    let s0 := s.setInp i { s.inp i with enAt := at_, enWas := was }
    let s1 := (s0.setSub (iStat i) 16 16 0).setSub (iStat i) 21 20 0
    if s.sub (iStat i) 17 17 = 1 && s1.groupSettled (inputGroup i) && (s.grp (inputGroup i)).flowing
    then s1.raise (evCNV_SURVEY_DONE (inputGroup i)) (inputGroup i) else s1

/-- The lowest-numbered slot that takes input i and is BOUND or PENDING on a bind (R159). -/
def State.governSlot (s : State) (i : Nat) : Option (Nat × Slot) :=
  s.slots.find? (fun e => e.2.on && s.takesInput e.1 i)

/-- Change an input's enable: staged on its governing grid for the boundary `at_` picks, or at once (R159). -/
def State.stageInput (s : State) (i action : Nat) (at_ : Option Int) (vals : List SVal) (now : State → State) : State :=
  match s.governSlot i with
  | none => now s
  | some (_, x) =>
    match s.stageIndex x.boundGrid at_ with
    | none => s
    | some k => if s.stageFull (.input i) k then s else s.stage ⟨.input i, x.boundGrid, k, action, vals, .fields⟩

/-- A write of `CNV_IN_CTL` (R159). -/
def State.inCtlWrite (s : State) (i : Nat) (w : Wr) : State :=
  let r := CNV_IN_CTL (i / 96) (i % 96)
  let s1 := s.mergeRaw r.key w
  let en := s1.sub r 0 0
  if w.reaches 0 0 then
    s1.stageInput i commitAction none [⟨r.key, 1, en⟩] (fun a => (a.fwr r (w32 en)).inputEnable i (en == 1) (a.mt * 2 ^ 32))
  else s1

/-- CNV_IN_EN_WRITE (R159). -/
def execCnvInEnWrite (i : Nat) (w : Wr) (s : State) : Host.Outcome State Fault Refusal :=
  .next (s.pfOnly w (CNV_IN_CTL (i / 96) (i % 96)).key (fun s => s.inCtlWrite i w))

/-! ## Die links (R161) -/

/-- DIE_LINK_DOWN (R161). -/
def execDieLinkDown (d : Nat) (s : State) : Host.Outcome State Fault Refusal :=
  if s.get (CNV_DIE_STAT_LINK_UP d) = 0 then .next s
  else
    let s1 := ((s.put (CNV_DIE_STAT_LINK_UP d) 0).put (CNV_DIE_STAT_LINK_DOWN_SEEN d) 1).raise (evCNV_LINK_DOWN d) d
    .next ([0, 1, 2].foldl (fun a j => a.samplesStop (3 * d + j)) s1)

/-- DIE_LINK_UP (R161): every running group of the die is treated as relocked. -/
def execDieLinkUp (d : Nat) (s : State) : Host.Outcome State Fault Refusal :=
  if s.get (CNV_DIE_STAT_LINK_UP d) = 1 then .next s
  else
    let s1 := s.put (CNV_DIE_STAT_LINK_UP d) 1
    .next ([0, 1, 2].foldl (fun a j =>
      if a.get (CNV_GRP_STAT_RUNNING d j) = 1 && a.get (CNV_GRP_STAT_PLL_LOCK d j) = 1 then a.samplesBack (3 * d + j)
      else a) s1)

/-- A converter group's domain goes to sleep (R160): every status bit but `ASLEEP` reads 0. -/
def State.groupAsleep (s : State) (g : Nat) : State :=
  let s1 := s.groupStop g
  let s2 := s1.setGrp g { s1.grp g with refOn := false, flowing := false }
  let s3 := s2.fwr (gCtl g) (w32 (setBits (s2.frd (gCtl g)).toNat 3 1 0))
  s3.wn (CNV_GRP_STAT (g / 3) (g % 3)) 0x40

/-- A converter group's domain wakes (R160): `REF_EN` and `RUN` are 0 in force, trims are reloaded. -/
def State.groupWake (s : State) (g : Nat) : State :=
  (grpInputs g).foldl (fun a i => a.loadTrims i) (s.put (CNV_GRP_STAT_ASLEEP (g / 3) (g % 3)) 0)

end Sys2Proof.Machine
end

