-- ==== Sys2Proof/Machine/Track.lean ====
section
/-! DEFINITION. The instant estimators of the converter groups and the tracking state of the slots that follow them
(R196 to R205, R214). -/
namespace Sys2Proof.Machine

/-- Units of 2^-48 ns in a picosecond, times 1000. -/
def psMilli : Int := 2 ^ 48

/-- Whether a residual in 2^-48 ns lies within ±p ps. -/
def withinPs (r : Int) (p : Nat) : Bool := decide ((r.natAbs : Int) * 1000 ≤ psMilli * p)

/-- The instant of a sample under the model, in 2^-48 ns (R200), before the input's aperture delay. -/
def Estimator.at_ (e : Estimator) (n : Int) : Int := e.tau + (n - e.nTau) * e.period

/-- The least-squares fit over tags (edge number j, time), edge j marking sample 4,096 × j (R200, R201). -/
def Estimator.fitTags (e : Estimator) : Estimator :=
  let l := e.fit
  let n : Int := l.length
  let sx : Int := l.foldl (fun a p => a + (p.1 : Int)) 0
  let st : Int := l.foldl (fun a p => a + p.2) 0
  let sxx : Int := l.foldl (fun a p => a + (p.1 : Int) * p.1) 0
  let sxt : Int := l.foldl (fun a p => a + (p.1 : Int) * p.2) 0
  let num := n * sxt - sx * st
  let den := n * sxx - sx * sx
  let last : Int := ((l.getLast?.map Prod.fst).getD 0 : Nat)
  let mean := divRound (st * 2 ^ 32) n.toNat
  let slope := divRound (num * 2 ^ 32) (4096 * den.toNat)
  let tau := mean + divRound ((n * last - sx) * num * 2 ^ 32) (n * den).toNat
  { e with fit := [], fitted := true, tau := tau, period := slope, nTau := 4096 * last.toNat, good := 0, bad := 0,
           resid := [], version := e.version + 1 }

/-- The tracking register of a group. -/
def trkSt (g : Nat) : Reg := CNV_GRP_TRKST (g / 3) (g % 3)

/-- The tracking state of a group: 0 none, 1 ACQUIRE, 2 TRACK, 3 COAST, 4 LOST. -/
def State.track (s : State) (g : Nat) : Nat := s.sub (trkSt g) 2 0

/-- The largest r ≤ 255 with r² × n ≤ sum: the rms in units of 0.1 ps, rounded down (DESIGN CHOICE, log entry 14). -/
def rmsOf (sum n : Nat) : Nat := (List.range 256).foldl (fun a r => if r * r * n ≤ sum then r else a) 0

/-- `RESID` (R217): rms of the residuals held, in 0.1 ps. -/
def Estimator.rms (e : Estimator) : Nat :=
  let l := e.resid.map (fun r => r.natAbs * 10000)
  if l = [] then 0 else rmsOf (l.foldl (fun a r => a + r * r) 0) (2 ^ 96 * l.length)

/-- The estimated sample rate in 2^-16 Hz (R217). -/
def Estimator.rate (e : Estimator) : Nat :=
  if e.period ≤ 0 then 0 else (divRound ((2 ^ 64 * 1000000000 : Nat) : Int) e.period.toNat).toNat

/-! ## The step of a slot (R197 to R199) -/

/-- P_total: the product of the rates of the stages in force. -/
def State.slotRate (s : State) (n : Nat) : Nat :=
  (List.range 5).foldl (fun a k =>
    let w := (s.frd (CHP_DEC n k)).toNat
    if bits w 31 29 = 0 then a else a * max 1 (bits w 28 22)) 1

/-- Δ of a slot on a converter source: the grid period over the chain's period, in units of 2^-48 (R197). -/
def State.stepOf (s : State) (g : Nat) (p : Nat) (period : Int) : Nat :=
  let num : Nat := s.gridDen g * mtSec * 2 ^ 32 * 2 ^ 48
  let den := s.gridNum g * p * period.toNat
  if den = 0 then 0 else (divRound (num : Int) den).toNat

/-- Whether a step lies in 0.5 to 2.0. -/
def stepInRange (d : Nat) : Bool := decide (2 ^ 47 ≤ d) && decide (d ≤ 2 ^ 49)

/-- Put a slot's step in `CHP_RSM_STEP`. -/
def State.setStep (s : State) (n d : Nat) : State :=
  (s.wn (CHP_RSM_STEP_LO n) d).wn (CHP_RSM_STEP_HI n) (d / 2 ^ 32 % 2 ^ 18)

/-- The step in force of a slot. -/
def State.slotStep (s : State) (n : Nat) : Nat := s.rn (CHP_RSM_STEP_LO n) + 2 ^ 32 * s.rn (CHP_RSM_STEP_HI n)

/-- A step of slot n outside 0.5 to 2.0 (R199): LOST with RSM_RANGE, once until the step is back. -/
def State.rangeLeft (s : State) (n : Nat) : State :=
  let x := s.slot n
  if x.rangeLost then s
  else (((s.setSlot n { x with rangeLost := true }).put (CHP_RSM_STAT_TRACK n) 4).put (CHP_RSM_STAT_RANGE_SEEN n) 1).raise
    (evCHP_RSM_RANGE n) n

/-- Follow the group's state on one running converter slot (R199, R201, R214): its tracking state and step; a slot whose step
left the range stays LOST until the step is back and the estimator tracks. -/
def State.slotFollow (s : State) (g n : Nat) : State :=
  let x := s.slot n
  if s.get (CHP_RSM_STAT_TRACK n) = 5 then s
  else
    let tr := s.track g
    let d := s.stepOf x.grid (s.slotRate n) (s.grp g).est.period
    if tr = 2 || tr = 3 then
      if !stepInRange d then s.rangeLeft n
      else if x.rangeLost && tr = 3 then s
      else ((s.setSlot n { x with rangeLost := false }).put (CHP_RSM_STAT_TRACK n) tr).setStep n d
    else s.put (CHP_RSM_STAT_TRACK n) (if tr = 1 && !x.rangeLost then 1 else 4)

/-- Follow the group's state on every running slot that takes one of its inputs. -/
def State.slotsFollow (s : State) (g : Nat) : State :=
  s.slots.foldl (fun (a : State) e => if a.runsFrom e.1 g then a.slotFollow g e.1 else a) s

/-- The running slots on a group whose step has left its range. -/
def State.rangeCount (s : State) (g : Nat) : Nat := countIf (fun e => s.runsFrom e.1 g && e.2.rangeLost) s.slots

/-- Put a group's estimator and tracking state with its registers, and raise the event of a change (R201, R217). -/
def State.putTrack (s : State) (g : Nat) (e : Estimator) (tr : Nat) : State :=
  let old := s.track g
  let s1 := (s.setGrp g { s.grp g with est := e }).setSub (trkSt g) 2 0 tr
  let s2 := if tr = 2 || (tr = 1 && e.fitted) then s1.setSub (trkSt g) 31 24 e.rms else if tr = 1 then
      s1.setSub (trkSt g) 31 24 0 else s1
  let r := if tr = 2 || tr = 3 then e.rate else 0
  let s3 := s2.wr64 (CNV_GRP_FS_LO (g / 3) (g % 3)) (CNV_GRP_FS_HI (g / 3) (g % 3)) r
  let s4 := if tr = 3 then s3.setSub (trkSt g) 4 4 1 else if tr = 4 then s3.setSub (trkSt g) 5 5 1 else s3
  let s5 :=
    if tr = old then s4
    else if tr = 2 then s4.raise (evCNV_TRACK_ACQUIRED g) g
    else if tr = 3 then s4.raise (evCNV_TRACK_COAST g) g
    else if tr = 4 then s4.raise (evCNV_TRACK_LOST g) g
    else s4
  s5.slotsFollow g

/-- Put a group's estimator and tracking state; where the step of a slot on it leaves its range, the group is LOST (R199,
R201). -/
def State.setTrack (s : State) (g : Nat) (e : Estimator) (tr : Nat) : State :=
  let s1 := s.putTrack g e tr
  if s.rangeCount g < s1.rangeCount g then s1.putTrack g e 4 else s1

/-- Follow the estimator of every group of part of the hub, as after a change of rate (R202); a step that leaves its range makes
its group LOST. -/
def State.followGroup (s : State) (g : Nat) : State :=
  let s1 := s.slotsFollow g
  if s.rangeCount g < s1.rangeCount g then s1.putTrack g (s1.grp g).est 4 else s1

/-- The type-2 loop takes a tag (R201): the new instant and period are free values (log entry 15); the model is
referred to the tag's sample. -/
def State.loopUpdate (s : State) (e : Estimator) (n : Nat) : Estimator × State :=
  let a := s.drawInt
  let b := a.2.drawInt
  ({ e with tau := e.at_ n + a.1, period := e.period + b.1, nTau := n, version := e.version + 1 }, b.2)

/-- The instant at which a slot's source sample lies, in 2^-48 ns, where a model is in force; the aperture delay A_i of
a converter input comes from its die's trim page (R200, R282). -/
def State.aperture (s : State) (i : Nat) : Int :=
  sext 32 (s.trimWord (8 + i / 96) (0x19A0 + 4 * (i % 96))) * 2 ^ 32

/-- A usable tag at time t reaches the estimator (R201): the j-th since the counter began marks sample 4,096 × j (R200). -/
def State.goodTag (s : State) (g : Nat) (t : Int) : State :=
  let e := (s.grp g).est
  let j := e.edges + 1
  let e1 := { e with edges := j }
  let tr := s.track g
  if tr = 4 then s.setTrack g { e1 with fit := [(j, t)], fitted := false, good := 0, bad := 0, resid := [] } 1
  else if !e.fitted then
    let e2 := { e1 with fit := e1.fit ++ [(j, t)] }
    s.setTrack g (if e2.fit.length = 64 then e2.fitTags else e2) 1
  else
    let r := t * 2 ^ 32 - e.at_ (4096 * j : Nat)
    let u := s.loopUpdate e1 (4096 * j)
    let e2 := { u.1 with resid := (r :: u.1.resid).take 256 }
    if tr = 1 then
      let good := if withinPs r 25 then e.good + 1 else 0
      u.2.setTrack g { e2 with good := good, bad := 0 } (if 256 ≤ good then 2 else 1)
    else if tr = 2 then
      let bad := if withinPs r 100 then 0 else e.bad + 1
      u.2.setTrack g { e2 with bad := bad } (if 3 ≤ bad then 4 else 2)
    else if withinPs r 100 then u.2.setTrack g { e2 with bad := 0 } 2
    else s.setTrack g e1 3

/-- A tag that cannot be used breaks the run of tags that shows lock (R149). -/
def State.lockBreak (s : State) (g : Nat) : State := s.setGrp g { s.grp g with lockTags := [] }

/-- A tag that cannot be used, or did not arrive: TRACK becomes COAST (R201). -/
def State.badTag (s : State) (g : Nat) : State :=
  let e := (s.grp g).est
  let e1 := { e with edges := e.edges + 1 }
  if s.track g = 2 then s.setTrack g { e1 with coastFrom := s.mt } 3 else s.setTrack g e1 (s.track g)

/-- `GRID` and `MULT` of the locked mode in force of a group, as a pair. -/
def State.lockGrid (s : State) (g : Nat) : Nat × Nat :=
  (bits (s.frd (gLock g)).toNat 2 0, bits (s.frd (gLock g)).toNat 13 8)

/-- The instant of sample n at `MULT` times the rate of the grid that a group is locked to, in 2^-48 ns (R149). -/
def State.lockInstant (s : State) (g n : Nat) : Int :=
  let l := s.lockGrid g
  s.gridEpoch l.1 * 2 ^ 32 + divRound ((n * s.gridDen l.1 * mtSec * 2 ^ 32 : Nat) : Int) (max 1 (s.gridNum l.1 * l.2))

/-- In locked mode a tag at time t shows the offset of its sample from the grid; a new steering term within ±200 ppm results, which
is otherwise free (R149, log entry 37). -/
def State.lockTag (s : State) (g : Nat) (t : Int) : State :=
  if !s.grpLocked g then s
  else
    let x := s.grp g
    let o := t * 2 ^ 32 - s.lockInstant g (4096 * (x.est.edges + 1))
    let most := (s.frd (gPll g)).toNat * 200 / 1000000
    let d := s.draw (2 * most + 1)
    d.2.setGrp g { x with lockTags := (o :: x.lockTags).take 1000, steer := (d.1 : Int) - most,
                          lockBad := if withinPs (o - x.lockMean) 50 then 0 else x.lockBad + 1 }

/-- A tag of a group puts the written `COAST_MAX` and `BW` in force (R203). -/
def State.trkForce (s : State) (g : Nat) : State :=
  let x := s.grp g
  s.setGrp g { x with est := { x.est with coastMax := s.get (CNV_GRP_TRK_COAST_MAX (g / 3) (g % 3)),
                                          bw := s.get (CNV_GRP_TRK_BW (g / 3) (g % 3)) } }

/-- CG_TAG (R201): an edge of CG[g] in bin i of the present tick reaches the frequency counters and the estimator. -/
def execCgTag (g i : Nat) (s : State) : Host.Outcome State Fault Refusal :=
  if !(s.grp g).flowing || !s.awake 93 || s.track g = 0 then .next s
  else
    let p := s.coreOf (g % 16)
    let t := s.captureMt p (if g < 16 then 1 else 2) i
    let co := s.isSet TB_STATUS_COARSE
    let s1 := ((s.cgBack g).freqEdge (0x12 + g) t co).trkForce g
    if co || s.isSet (TIM_CORE_STAT_FAILING p) then .next ((s1.lockBreak g).badTag g)
    else .next ((s1.lockTag g t).goodTag g t)

/-- CG_TAG_MISSING (R201): an expected tag of a running group does not arrive. -/
def execCgTagMissing (g : Nat) (s : State) : Host.Outcome State Fault Refusal :=
  if s.get (CNV_GRP_STAT_RUNNING (g / 3) (g % 3)) = 1 && s.track g ≠ 0 then .next ((s.lockBreak g).badTag g) else .next s

/-- COAST_TIMEOUT (R201): a coast has lasted `COAST_MAX` ms. -/
def execCoastTimeout (g : Nat) (s : State) : Host.Outcome State Fault Refusal :=
  let e := (s.grp g).est
  if s.track g = 3 && decide (e.coastFrom + ((e.coastMax * mtMs : Nat) : Int) ≤ s.mt)
  then .next (s.setTrack g e 4) else .next s

/-! ## Locked mode (R149, R214) -/

/-- Whether 1,000 consecutive tags stand and each lies within ±5 ps of their mean (R149). -/
def lockHolds (l : List Int) : Bool :=
  let sum := l.foldl (fun a o => a + o) 0
  l.length == 1000 && l.all (fun o => withinPs (o * 1000 - sum) 5000)

/-- CNV_LOCKED (R149): lock is held for 1,000 consecutive tags; their mean is kept. -/
def execCnvLocked (g : Nat) (s : State) : Host.Outcome State Fault Refusal :=
  let d := g / 3
  let j := g % 3
  let x := s.grp g
  if s.grpRun g && s.grpLocked g && s.get (CNV_GRP_STAT_PLL_LOCK d j) = 1 && s.get (CNV_GRP_STAT_LOCKED d j) = 0
      && lockHolds x.lockTags then
    let mean := divRound (x.lockTags.foldl (fun a o => a + o) 0) 1000
    .next (((s.setGrp g { x with lockMean := mean, lockBad := 0 }).put (CNV_GRP_STAT_LOCKED d j) 1).raise (evCNV_LOCKED g) g)
  else .next s

/-- LOCK_LOST (R149): three consecutive tags depart from the mean by more than 50 ps; LOCKED clears, LOCK_LOST is sticky, and slots
in FIXED on the group return to TRACK (R214). -/
def execLockLost (g : Nat) (s : State) : Host.Outcome State Fault Refusal :=
  let d := g / 3
  let j := g % 3
  if s.get (CNV_GRP_STAT_LOCKED d j) = 1 && decide (3 ≤ (s.grp g).lockBad) then
    let s1 := ((s.put (CNV_GRP_STAT_LOCKED d j) 0).put (CNV_GRP_STAT_LOCK_LOST d j) 1).raise (evCNV_LOCK_LOST g) g
    .next ((s1.unfix g).followGroup g)
  else .next s

end Sys2Proof.Machine
end

