-- ==== Sys2Proof/Machine/Slots.lean ====
section
/-! DEFINITION. Slots: their configuration checks, binding, committing and unbinding, and what a boundary does to a slot
(R164 to R173, R185 to R191, R198). -/
namespace Sys2Proof.Machine

/-! ## Slot state -/

/-- Offsets of a slot window that hold staged fields. -/
def slotOffs : List Nat :=
  [0, 0xC, 0x10, 0x14, 0x18, 0x20, 0x24, 0x28, 0x2C, 0x40, 0x44, 0x48, 0x4C, 0x50, 0xA0, 0xC8, 0xCC, 0xD0, 0xE4, 0xE8, 0xEC,
    0xF0]

/-- Keys of a slot's registers with staged fields. -/
def slotKeys (n : Nat) : List Nat := slotOffs.map (fun o => 0x800000 + 0x400 * n + o)

/-- The changes whose boundary has passed and that the output of a slot has still to reach. -/
def State.slotDue (s : State) (n : Nat) : List Staged := (s.slot n).marks.flatMap (fun m => m.changes)

/-- The word of a register with the values that a list of changes gives it. -/
def overlayWord (key : Nat) (l : List Staged) (a : Nat) : Nat :=
  l.foldl (fun a x => x.vals.foldl (fun a v => if v.key = key then a - (a &&& v.mask) + (v.val &&& v.mask) else a) a) a

/-- Show whether the shadow differs from the values in force (R169), those that the output has still to reach included. -/
def State.showDirty (s : State) (n : Nat) : State :=
  s.put (CHP_STAT_SHADOW_DIRTY n) (b2n ((s.snapshot (slotKeys n)).any (fun v => match regOfKey v.key with
    | none => false
    | some r => (overlayWord v.key (s.slotDue n) (s.frd r).toNat &&& v.mask) != (v.val &&& v.mask))))

/-- The words of a register that a slot has in force or staged: in force while its output runs, staged while PENDING or BOUND. -/
def State.wordsInUse (s : State) (n : Nat) (r : Reg) : List Nat :=
  let st := (s.slotDue n ++ s.staged.filter (fun x => x.unit == .slot n)).flatMap (fun x =>
    (x.vals.filter (fun v => v.key == r.key)).map (fun v => v.val))
  if s.slotRuns n then (s.frd r).toNat :: st else st

/-! ## Engines (R164, R639) -/

/-- The physical engine that serves logical engine e; 68 where none does. -/
def State.engineOf (s : State) (e : Nat) : Nat :=
  ((List.range 68).find? (fun p => s.get (PWR_ENG_LOGICAL p) == e && s.get (PWR_ENG_STATE p) != 3)).getD 68

/-- The power domain of a slot's engine (R626). -/
def State.slotDomain (s : State) (n : Nat) : Nat := 64 + min (s.engineOf (n / 16)) 67 / 4

/-! ## Sources (R165, R166) -/

/-- A coefficient of the coefficient store (R189). -/
def State.coef (s : State) (set j : Nat) : Int := sext 18 (s.tab (0x1000000 + 0x200 * set + 4 + 4 * j)).toNat

/-- T of a coefficient set. -/
def State.coefTaps (s : State) (set : Nat) : Nat := bits (s.tab (0x1000000 + 0x200 * set)).toNat 6 0

/-- The declared group delay of a coefficient set, in 1/256 stage-input sample. -/
def State.coefDelay (s : State) (set : Nat) : Nat := bits (s.tab (0x1000000 + 0x200 * set)).toNat 31 16

/-- The node stream that a source word names. -/
def State.nodeOf (s : State) (w : Nat) : NodeStream := mapGet {} (256 * srcSheet w + srcIndex w) s.nodes

/-- Whether the source that a source word names is complex. -/
def State.srcCplx (s : State) (w : Nat) : Bool := srcType w == 2 && bit (s.nodeOf w).format 2

/-- The nominal rate of the source that a source word names, as a fraction (R165, R198), for test patterns with the multiple
given. -/
def State.srcRate (s : State) (w g mult : Nat) : Nat × Nat :=
  match srcType w with
  | 1 =>
    let pll := (s.frd (gPll (inputGroup (srcIndex w)))).toNat
    (250000000 * (bits pll 31 24 * 2 ^ 24 + bits pll 23 0), 2 ^ 24)
  | 2 => (2 ^ 48 * 1000000000, max 1 (s.nodeOf w).period)
  | 3 => (mult * s.gridNum g, max 1 (s.gridDen g))
  | _ => (0, 1)

/-- Slots other than n that are BOUND or PENDING on a bind and take input i. -/
def State.inputUsers (s : State) (i n : Nat) : Nat :=
  countIf (fun (e : Nat × Slot) => e.2.on && e.1 != n && s.takesInput e.1 i) s.slots

/-! ## Configuration checks (R170, R185 to R189, R198, R218 to R222, R240)

A configuration is read through `f`, which gives the word of each register of the window: the shadow for a check. -/

/-- Rates of the stages: input rate of stage k over the source rate is 1 / stageP k. -/
def stageP (f : Nat → Nat) (k : Nat) : Nat :=
  (List.range k).foldl (fun a i => if bits (f (0x40 + 4 * i)) 31 29 = 0 then a else a * max 1 (bits (f (0x40 + 4 * i)) 28 22)) 1

/-- Stages in use from stage 0 upwards. -/
def stagesUsed (f : Nat → Nat) : Nat :=
  ((List.range 5).find? (fun k => bits (f (0x40 + 4 * k)) 31 29 == 0)).getD 5

/-- A half-band set (R186): T = 4m + 3 ≤ 63, centre 65,536, zero at even non-zero offsets from it. -/
def State.halfBandOk (s : State) (set : Nat) : Bool :=
  let t := s.coefTaps set
  let c := (t - 1) / 2
  t % 4 == 3 && decide (t ≤ 63) && s.coef set c == 65536
    && (List.range t).all (fun j => j == c || (j + c) % 2 == 1 || s.coef set j == 0)

/-- One stage's fields (R185, R186, R189). -/
def State.stageOk (s : State) (w : Nat) : Bool :=
  let ty := bits w 31 29
  let r := bits w 28 22
  let o := bits w 21 19
  let c := bits w 11 0
  match ty with
  | 0 => r == 0 && o == 0 && c == 0
  | 1 => decide (2 ≤ r) && decide (r ≤ 64) && decide (1 ≤ o) && decide (o ≤ 5) && c == 0
  | 2 => r == 2 && o == 0 && s.halfBandOk c
  | 3 => decide (1 ≤ r) && decide (r ≤ 16) && o == 0 && decide (1 ≤ s.coefTaps c) && decide (s.coefTaps c ≤ 64)
  | _ => false

/-- Whether a chain is complex at its output: a complex source, or a down-conversion of a real one. -/
def chainCplx (cplx : Bool) (f : Nat → Nat) : Bool := cplx || bits (f 0x24) 1 0 == 1

/-- The channeliser's fields and selection (R218 to R222). -/
def State.chanOk (s : State) (cplx : Bool) (f : Nat → Nat) : Bool :=
  let c := f 0xC8
  let sel := f 0xD0
  let first := bits sel 13 0
  let count := bits sel 30 16
  if bit c 31 then
    let k := bits c 29 26
    let p := bits c 25 21
    let fl := if cplx then k else k + 1
    let hdr := (s.tab (2 ^ 40 + 0x400000 * bits c 20 16)).toNat
    decide (3 ≤ k) && decide (k ≤ 14) && decide (4 ≤ p) && decide (p ≤ 16) && decide (bits (f 0xCC) 14 0 < 2 ^ fl)
      && bits hdr 20 16 == p && bits hdr 3 0 == fl && decide (first + count ≤ 2 ^ k) && decide (1 ≤ count)
  else first == 0 && count == 1

/-- A stream's queue where the stream is enabled (R240): a stream-out queue of the stream's borough. -/
def State.routeOk (s : State) (en : Bool) (q b : Nat) : Bool :=
  !en || (s.get (QUE_CFG0_TYPE q) == 0 && s.get (QUE_CFG0_BOROUGH q) == b)

/-- Check 5 (R170). -/
def State.chainOk (s : State) (n : Nat) (f : Nat → Nat) : Bool :=
  let cplx := s.srcCplx (s.rn (CHP_SRC n))
  let mode := bits (f 0x24) 1 0
  let used := stagesUsed f
  s.get (CHP_SRC_TYPE n) != 0
    && (mode == 0 || (mode == 1 && !cplx) || (mode == 2 && cplx))
    && (List.range 5).all (fun k => s.stageOk (f (0x40 + 4 * k)))
    && (List.range 5).all (fun k => decide (k < used) || bits (f (0x40 + 4 * k)) 31 29 == 0)
    && s.chanOk (chainCplx cplx f) f
    && s.routeOk (bit (f 0xF0) 31) (bits (f 0xF0) 29 16) 0 && s.routeOk (bit (f 0xF0) 15) (bits (f 0xF0) 13 0) 0

/-- Check 6 (R188, R198): stage rates, and the nominal step within 0.5 × 1.001 to 2.0 × 0.999. -/
def State.budgetOk (s : State) (n g : Nat) (f : Nat → Nat) : Bool :=
  let rate := s.srcRate (s.rn (CHP_SRC n)) g (bits (f 0x18) 22 16)
  let cplx := if chainCplx (s.srcCplx (s.rn (CHP_SRC n))) f then 2 else 1
  let total := stageP f 5
  let stage : Nat → Bool := fun k =>
    let w := f (0x40 + 4 * k)
    let den := rate.2 * stageP f k
    let out := den * max 1 (bits w 28 22)
    bits w 31 29 == 0 ||
      (decide (rate.1 ≤ 8000000000 * den) && (bits w 31 29 != 2 || decide (rate.1 ≤ 4000000000 * out))
        && (bits w 31 29 != 3 || decide (s.coefTaps (bits w 11 0) * rate.1 * cplx ≤ 64000000000 * out)))
  let num := rate.1 * s.gridDen g
  let den := rate.2 * total * s.gridNum g
  (List.range 5).all stage && decide (total ≤ 2 ^ 24)
    && decide (den * 1001 ≤ 2000 * num) && decide (1000 * num ≤ den * 2 * 999)

/-- Check 2 (R166): a converter source on an absent die; a retired slot (R639). -/
def State.srcAbsent (s : State) (n : Nat) : Bool :=
  s.retiredSlots.contains n || (s.get (CHP_SRC_TYPE n) == 1 && decide (s.get (CHP_SRC_INDEX n) < 768)
    && decide (s.part.inputs ≤ s.get (CHP_SRC_INDEX n)))

/-- Check 3 (R166, R465): the source lies outside R166. -/
def State.srcBadRange (s : State) (n g : Nat) (f : Nat → Nat) : Bool :=
  let i := s.get (CHP_SRC_INDEX n)
  let mult := bits (f 0x18) 22 16
  match s.get (CHP_SRC_TYPE n) with
  | 1 => decide (768 ≤ i) || decide (4 ≤ s.inputUsers i n)
  | 2 => decide (256 ≤ i) || decide (40 ≤ s.get (CHP_SRC_SHEET n)) || !(s.nodeOf (s.rn (CHP_SRC n))).declared
  | 3 => decide (mult < 1) || decide (64 < mult) || decide (8000000000 * s.gridDen g < mult * s.gridNum g)
  | _ => false

/-- The structure of a slot (R171, R223): a stage's tap count where it is a FIR stage. -/
def State.structureOf (s : State) (f : Nat → Nat) : List Nat :=
  [bits (f 0x24) 1 0, stagesUsed f, bits (f 0xC8) 31 21] ++
    (List.range 5).flatMap (fun k =>
      let w := f (0x40 + 4 * k)
      [bits w 31 19, if bits w 31 29 = 3 then s.coefTaps (bits w 11 0) else 0])

/-- The words of a slot's window as its shadow holds them. -/
def State.slotShadow (s : State) (n o : Nat) : Nat :=
  match regOfKey (0x800000 + 0x400 * n + o) with
  | some r => s.rn r
  | none => 0

/-- The words of a slot's window in force. -/
def State.slotForce (s : State) (n o : Nat) : Nat :=
  match regOfKey (0x800000 + 0x400 * n + o) with
  | some r => (s.frd r).toNat
  | none => 0

/-- Put a staged change into a list in rising order of boundary, behind those of its own boundary. -/
def insertStaged (x : Staged) : List Staged → List Staged
  | [] => [x]
  | y :: r => if x.index < y.index then x :: y :: r else y :: insertStaged x r

/-- The changes staged on slot n that take effect by boundary k, a pending bind included, in the order in which they do. -/
def State.slotStaged (s : State) (n k : Nat) : List Staged :=
  (s.staged.filter (fun x => x.unit == .slot n && (x.op == .bind || decide (x.index ≤ k)))).foldl (fun l x => insertStaged x l) []

/-- The word at an offset of a slot's window in force at the present boundary: what the output has still to reach included. -/
def State.slotNow (s : State) (n o : Nat) : Nat := overlayWord (0x800000 + 0x400 * n + o) (s.slotDue n) (s.slotForce n o)

/-- The word at an offset of a slot's window that will be in force at boundary k: force and the changes staged until then,
a pending bind included. -/
def State.slotAt (s : State) (n k o : Nat) : Nat :=
  overlayWord (0x800000 + 0x400 * n + o) (s.slotStaged n k) (s.slotNow n o)

/-- The checks of R170 for a BIND (`bind` true) or a COMMIT of slot n with configuration f on grid g and boundary k. -/
def State.slotCheck (s : State) (n g : Nat) (bind restart : Bool) (f : Nat → Nat) (k : Nat) : Nat :=
  let st := s.slotState n
  let w := (s.slot n).waits
  if (bind && st ≠ 0) || (!bind && !(st = 2 || (st = 1 && w = 1))) then 8
  else if s.srcAbsent n then 1
  else if s.srcBadRange n g f then 2
  else if bind && !s.gridValid g then 3
  else if !s.chainOk n f then 4
  else if !s.budgetOk n g f then 5
  else if !bind && st = 2 && !restart && s.structureOf f ≠ s.structureOf (s.slotAt n k) then 6
  else if s.stageFull (.slot n) k then 7
  else 0

/-- What a register of slot n shows of the value that the hub holds: 0 in those that read so unless the slot is BOUND (R194, R216), and no
complex stream where none is in force. -/
def State.slotShown (s : State) (n o v : Nat) : Nat :=
  if s.slotState n = 2 then v
  else if o = 0x98 || o = 0xA8 || o = 0xAC then 0
  else if o = 0xA4 then setBits v 31 27 0
  else if o = 8 then setBits v 17 17 0
  else v

/-! ## Settling (R190, R191) -/

/-- Compensated group delay of stage k in 1/1024 source sample (R190). -/
def State.stageDelay (s : State) (f : Nat → Nat) (k : Nat) : Nat :=
  let w := f (0x40 + 4 * k)
  let p := stageP f k
  match bits w 31 29 with
  | 1 => bits w 21 19 * (bits w 28 22 - 1) * 512 * p
  | 2 => (s.coefTaps (bits w 11 0) - 1) * 512 * p
  | 3 => s.coefDelay (bits w 11 0) * 4 * p
  | _ => 0

/-- `CHP_GD` of a configuration. -/
def State.groupDelay (s : State) (f : Nat → Nat) : Nat :=
  8 * 1024 + (List.range 5).foldl (fun a k => a + s.stageDelay f k) 0

/-- S_k × P_k of stage k (R191). -/
def State.settleStage (s : State) (f : Nat → Nat) (k : Nat) : Nat :=
  let w := f (0x40 + 4 * k)
  let p := stageP f k
  match bits w 31 29 with
  | 1 => bits w 21 19 * bits w 28 22 * p
  | 2 => s.coefTaps (bits w 11 0) * p
  | 3 => s.coefTaps (bits w 11 0) * p
  | _ => 0

/-- U of R191 with settling `d` of the delay stage, counted from stage `from_` of the chain. -/
def State.settleCount (s : State) (f : Nat → Nat) (d from_ : Nat) : Nat :=
  ceilDiv (d + (List.range 5).foldl (fun a k => if from_ ≤ k then a + s.settleStage f k else a) 0) (stageP f 5)

/-- The first chain stage from which a staged change counts (R191): `none` where no front stage changes; the delay
counts from 0 with its own settling, the mixer and a shift or rounding from the next stage. -/
def changedFrom (old new : Nat → Nat) : Option Nat :=
  if old 0x20 ≠ new 0x20 || old 0x24 ≠ new 0x24 || old 0x28 ≠ new 0x28 || old 0x2C ≠ new 0x2C then some 0
  else
    (List.range 5).findSome? (fun k =>
      let a := old (0x40 + 4 * k)
      let b := new (0x40 + 4 * k)
      if a = b then none else if bits a 11 0 ≠ bits b 11 0 then some k else some (k + 1))

/-! ## Boundary effects -/

/-- The tracking state a slot takes when it becomes BOUND (R201, R204, R205, R216). -/
def State.firstTrack (s : State) (n : Nat) : Nat :=
  let w := s.srcWord n
  match srcType w with
  | 1 => match s.track (inputGroup (srcIndex w)) with
    | 0 => 4
    | t => t
  | 2 => if (s.nodeOf w).missing then 4 else 2
  | _ => 5

/-- The exact step of a source whose rate is exact: MULT / P_total, or the declared rate (R204, R205). -/
def State.exactStep (s : State) (n : Nat) : Nat :=
  let g := (s.slot n).grid
  let r := s.srcRate (s.srcWord n) g (s.fget (CHP_TEST_MULT n))
  let den := r.2 * s.slotRate n * s.gridNum g
  if den = 0 then 0 else (divRound ((r.1 * s.gridDen g * 2 ^ 48 : Nat) : Int) den).toNat

/-- Δ of a slot in FIXED on a converter group (R214): `MULT` / P_total exactly. -/
def State.lockStep (s : State) (n g : Nat) : Nat :=
  (divRound (((s.lockGrid g).2 * 2 ^ 48 : Nat) : Int) (max 1 (s.slotRate n))).toNat

/-- Follow the declarations of a slot's node stream (R199, R204): Δ of the declared rate; TRACK, or LOST while a declaration is
missing or Δ lies outside its range. -/
def State.nodeFollow (s : State) (n : Nat) : State :=
  let d := s.exactStep n
  if !stepInRange d then (s.rangeLeft n).setStep n d
  else ((s.setSlot n { s.slot n with rangeLost := false }).put (CHP_RSM_STAT_TRACK n)
    (if (s.nodeOf (s.srcWord n)).missing then 4 else 2)).setStep n d

/-- Δ and the tracking state of a running slot from its source and its chain in force (R197, R204, R205, R214). -/
def State.followSource (s : State) (n : Nat) : State :=
  let w := s.srcWord n
  let g := inputGroup (srcIndex w)
  match srcType w with
  | 1 => if s.get (CHP_RSM_STAT_TRACK n) = 5 then s.setStep n (s.lockStep n g)
    else (s.setStep n (s.stepOf (s.slot n).grid (s.slotRate n) (s.grp g).est.period)).slotFollow g n
  | 2 => s.nodeFollow n
  | _ => s.setStep n (s.exactStep n)

/-- Show the group delay that the front stages in force have, and whether their stream is complex (R190, R194). -/
def State.showChain (s : State) (n : Nat) : State :=
  let f := s.slotForce n
  (s.wn (CHP_GD n) (s.groupDelay f)).put (CHP_STAT_CPLX n) (b2n (chainCplx (s.srcCplx (s.srcWord n)) f))

/-- The histories of a restart at grid index k (R172, R209, R224): every history empty, UNSETTLED counted afresh, Δ of the new
chain. -/
def State.restartSlot (s : State) (n k : Nat) : State :=
  let f := s.slotForce n
  let y := { s.slot n with since := 0, line := [], lines := [[], [], [], [], []], outs := [], firstM := none, resumed := false,
                           posVer := none, setM := none, gs := [], chanFrom := k, coefFrom := none,
                           gd := s.groupDelay f }
  let u := s.settleCount f (s.fget (CHP_DELAY_INT n) + 16) 0
  (((s.setSlot n y).wn (CHP_UNS n) u).showChain n).followSource n

/-- The fields of a slot window that act at the intake, by their bits (R174 to R178). -/
def intakeMask (o : Nat) : Nat :=
  if o = 0 then 0x01800000 else if o = 0xC || o = 0x10 || o = 0x14 then 2 ^ 32 - 1 else if o = 0x18 then 0xE000FFFF else 0

/-- The fields of a slot window that act along the front stages, by their bits (R180 to R187). -/
def chainMask (o : Nat) : Nat :=
  if o = 0x20 || o = 0x24 || o = 0x28 || o = 0x2C || (0x40 ≤ o && o ≤ 0x50) then 2 ^ 32 - 1 else 0

/-- The other fields of a slot window: they act at its output. -/
def backMask (o : Nat) : Nat := 2 ^ 32 - 1 - intakeMask o - chainMask o

/-- The parts of staged values of slot n that a choice of fields holds. -/
def cutVals (n : Nat) (f : Nat → Nat) (l : List SVal) : List SVal :=
  l.map (fun v => { v with mask := v.mask &&& f (v.key - (0x800000 + 0x400 * n)) })

/-- Put a slot's staged values along the front stages in force, without a restart: UNSETTLED under R34 and R191. -/
def State.changeFront (s : State) (n : Nat) (vals : List SVal) : State :=
  let old := s.slotForce n
  let s1 := s.forceVals (cutVals n chainMask vals)
  let new := s1.slotForce n
  let int := s1.fget (CHP_DELAY_INT n)
  let d := if old 0x20 = new 0x20 then 0 else max 16 (int + 16 - (s1.slot n).since)
  let s2 := match changedFrom old new with
    | none => s1
    | some j => s1.wn (CHP_UNS n) (max (s1.rn (CHP_UNS n)) (s1.settleCount new d j))
  s2.showChain n

/-- A slot becomes BOUND at grid index k (R167, R195). An output of an earlier bind that has not reached its end yet ends (DESIGN
CHOICE, log entry 66). -/
def State.bindSlot (s : State) (n : Nat) (vals : List SVal) (k : Nat) : State :=
  let s1 := s.forceVals vals
  let x := s1.slot n
  let later := s1.staged.any (fun y => y.unit == .slot n && y.op == .unbind)
  let y : Slot := { on := true, grid := x.bindGrid, waits := if later then 2 else 0, run := true, src := s1.rn (CHP_SRC n),
                    start := s1.gridInstant x.bindGrid k * 2 ^ 32, nextK := k, satAt := x.satAt, spectra := x.spectra }
  let s2 := (s1.setSlot n y).put (CHP_STAT_STATE n) (if later then 1 else 2)
  let s3 := ((s2.wr64 (CHP_RSM_GAPS_LO n) (CHP_RSM_GAPS_HI n) 0).put (CHP_RSM_STAT_TRACK n) (s2.firstTrack n)).put
    (CHP_RSM_STAT_TSTATE n) s2.tstate
  s3.restartSlot n k

/-- The output of a slot ends (R168); spectra that a beam has still to sum stay. -/
def State.endOutput (s : State) (n : Nat) : State :=
  let x := s.slot n
  let s1 := (s.setSlot n { on := x.on, bindGrid := x.bindGrid, waits := x.waits, satAt := x.satAt, spectra := x.spectra }).wn
    (CHP_UNS n) 0
  (((s1.wn (CHP_GD n) 0).put (CHP_RSM_STAT_TRACK n) 0).setStep n 0).wn (CHP_CHN_STAT n) 0

/-- A slot becomes IDLE (R168): what is staged on it is discarded. Its output goes on to the boundary of an unbind where it
runs. -/
def State.idleSlot (s : State) (n : Nat) : State :=
  let s1 := s.unstage (.slot n)
  let x := s1.slot n
  let s2 := s1.setSlot n (if x.run then { x with on := false, waits := 0, bindGrid := 0 }
    else { satAt := x.satAt, spectra := x.spectra })
  (s2.put (CHP_STAT_STATE n) 0).put (CHP_RSM_STAT_TSTATE n) 0

/-! ## BIND, UNBIND and COMMIT (R167 to R173) -/

/-- Put a slot's code. -/
def State.slotCode (s : State) (n c : Nat) : State := s.put (CHP_STAT_CODE n) c

/-- Stage a bind of slot n on grid g at boundary k (R167). -/
def State.stageBind (s : State) (n g k action : Nat) : State :=
  let v := s.snapshot (slotKeys n)
  let s1 := s.setSlot n { s.slot n with on := true, bindGrid := g, waits := 1 }
  (s1.stage ⟨.slot n, g, k, action, v, .bind⟩).put (CHP_STAT_STATE n) 1

/-- A BIND (R167, R170). -/
def State.slotBind (s : State) (n action : Nat) : State :=
  let g := s.get (CHP_CTL_GRID n)
  let k := s.boundaryAt g (s.mt + stageLead)
  let c := s.slotCheck n g true false (s.slotShadow n) k
  if c = 0 then (s.stageBind n g k action).slotCode n 0 else s.slotCode n c

/-- Stage the shadow of slot n at boundary k (R169), with the restart that `RESTART` asks for. -/
def State.stageCommit (s : State) (n k action : Nat) : State :=
  let r := s.isSet (CHP_CTL_RESTART n)
  let s1 := s.stage ⟨.slot n, (s.slot n).boundGrid, k, action, s.snapshot (slotKeys n), if r then .restart else .fields⟩
  s1.put (CHP_CTL_RESTART n) 0

/-- A COMMIT (R169, R170). -/
def State.slotCommit (s : State) (n action : Nat) : State :=
  let g := (s.slot n).boundGrid
  let k := s.boundaryAt g (s.mt + stageLead)
  let c := s.slotCheck n g false (s.isSet (CHP_CTL_RESTART n)) (s.slotShadow n) k
  if c = 0 then (s.stageCommit n k action).slotCode n 0 else s.slotCode n c

/-- Stage the end of a slot's output at boundary k; changes staged for later boundaries are discarded (R168). -/
def State.stageUnbind (s : State) (n k action : Nat) : State :=
  let x := s.slot n
  let s1 := { s with staged := s.staged.filter (fun y => !(y.unit == UnitId.slot n && decide (k < y.index))) }
  let s2 := s1.stage ⟨.slot n, x.boundGrid, k, action, [], .unbind⟩
  if x.waits = 1 then s2 else (s2.setSlot n { x with waits := 2 }).put (CHP_STAT_STATE n) 1

/-- The boundary at which a slot's pending bind takes effect. -/
def State.bindIndex (s : State) (n : Nat) : Option Nat :=
  (s.staged.find? (fun y => y.unit == .slot n && y.op == .bind)).map (fun y => y.index)

/-- Whether an unbind waits on a slot. -/
def State.unbindWaits (s : State) (n : Nat) : Bool := s.staged.any (fun y => y.unit == .slot n && y.op == .unbind)

/-- An UNBIND of slot n for boundary k of its grid (R168): staged, or a pending bind far enough ahead is cancelled. -/
def State.slotUnbindAt (s : State) (n k action : Nat) : State :=
  let x := s.slot n
  if s.slotState n = 0 || s.unbindWaits n then s.slotCode n 8
  else if x.waits = 1 then
    match s.bindIndex n with
    | some b => if s.mt + stageLead ≤ s.gridInstant x.boundGrid b then ((s.idleSlot n).slotCode n 0).abortDiscarded
        else ((s.stageUnbind n (max k (b + s.frameLen x.boundGrid)) action).slotCode n 0).abortDiscarded
    | none => ((s.idleSlot n).slotCode n 0).abortDiscarded
  else ((s.stageUnbind n k action).slotCode n 0).abortDiscarded

/-- An UNBIND by register (R168). -/
def State.slotUnbind (s : State) (n action : Nat) : State :=
  s.slotUnbindAt n (s.boundaryAt (s.slot n).boundGrid (s.mt + stageLead)) action

/-- A write of `CHP_CTL` of slot n: the fields merge, then BIND, UNBIND or COMMIT acts. A closed engine domain refuses the
action (R629). -/
def State.chpCtlWrite (s : State) (n : Nat) (w : Wr) : State :=
  let s1 := (s.mergeRaw (CHP_CTL n).key w).showDirty n
  if w.hits 0 || w.hits 1 || w.hits 2 then
    if !s1.awake (s1.slotDomain n) then s1.refuseDom (s1.slotDomain n)
    else
      let s2 := if w.hits 0 then s1.slotBind n commitAction else s1
      let s3 := if w.hits 2 then s2.slotCommit n commitAction else s2
      (if w.hits 1 then s3.slotUnbind n commitAction else s3).showDirty n
  else s1

/-- A write of `CHP_SRC` (R171): only while IDLE; otherwise ignored with PIPE_BOUND. -/
def State.chpSrcWrite (s : State) (n : Nat) (w : Wr) : State :=
  if s.slotState n = 0 then (s.mergeRaw (CHP_SRC n).key w).wearCheck 2 n else s.slotCode n 9

/-! ## Coefficients in use (R189, R207, R221) -/

/-- Whether a coefficient set is in use. -/
def State.coefInUse (s : State) (set : Nat) : Bool :=
  s.slots.any (fun e => e.2.on && (List.range 5).any (fun k =>
    (s.wordsInUse e.1 (CHP_DEC e.1 k)).any (fun w => (bits w 31 29 == 2 || bits w 31 29 == 3) && bits w 11 0 == set)))

/-- Whether a resampler set is in use. -/
def State.rsInUse (s : State) (set : Nat) : Bool :=
  s.slots.any (fun e => e.2.on && (s.wordsInUse e.1 (CHP_RSM_CTL e.1)).any (fun w => bits w 31 30 == set))

/-- Whether a channeliser set is in use. -/
def State.csInUse (s : State) (set : Nat) : Bool :=
  s.slots.any (fun e => e.2.on && (s.wordsInUse e.1 (CHP_CHN_CTL e.1)).any (fun w => bit w 31 && bits w 20 16 == set))

/-- Whether a gain table is in use by a slot (R238). -/
def State.gtabInUse (s : State) (t : Nat) : Bool :=
  s.slots.any (fun e => e.2.on && (s.wordsInUse e.1 (CHP_RDC_RQ e.1)).any (fun w => bits w 15 10 == t))

end Sys2Proof.Machine
end

