-- ==== Sys2Proof/Machine/Trig.lean ====
section
/-! DEFINITION. Cosine and sine of a phase, for the mixer and the channeliser's transform (R183, R219, R220). -/
namespace Sys2Proof.Machine

/-- π/4 in units of 2^-64. -/
def quarterPi : Nat := 14488038916154245685

/-- The sum of a power series in the angle: its terms fall by angle² / (k (k + 1)) with alternating signs. `term` is in units of
2^-64, `sq` is the square of the angle in units of 2^-128. -/
def altSeries (sq : Nat) : Nat → Nat → Nat → Int
  | 0, _, _ => 0
  | fuel + 1, k, term => (term : Int) - altSeries sq fuel (k + 2) (term * sq / 2 ^ 128 / (k * (k + 1)))

/-- The cosine of r × 2^-45 eighths of a cycle, in 2^-64. -/
def cosOctant (r : Nat) : Int :=
  let x := r * quarterPi / 2 ^ 45
  altSeries (x * x) 14 1 (2 ^ 64)

/-- The sine of r × 2^-45 eighths of a cycle, in 2^-64. -/
def sinOctant (r : Nat) : Int :=
  let x := r * quarterPi / 2 ^ 45
  altSeries (x * x) 14 2 x

/-- The cosine of a phase in 2^-48 cycles, in 2^-64 (the series cut where a term lies below 2^-64, log entry 19). -/
def cosPhase (ph : Nat) : Int :=
  let p := ph % 2 ^ 48
  let r := p % 2 ^ 45
  match p / 2 ^ 45 with
  | 0 => cosOctant r
  | 1 => sinOctant (2 ^ 45 - r)
  | 2 => -sinOctant r
  | 3 => -cosOctant (2 ^ 45 - r)
  | 4 => -cosOctant r
  | 5 => -sinOctant (2 ^ 45 - r)
  | 6 => sinOctant r
  | _ => cosOctant (2 ^ 45 - r)

/-- The sine of a phase in 2^-48 cycles, in 2^-64. -/
def sinPhase (ph : Nat) : Int := cosPhase (ph + 3 * 2 ^ 46)

end Sys2Proof.Machine
end

