-- ==== Sys2Proof/Machine/Chain.lean ====
section
/-! DEFINITION. The sample path of a slot: intake, fast power detector, delay, mixer, decimator chain and grid resampler
(R174 to R191, R195 to R214, R241). -/
namespace Sys2Proof.Machine

/-! ## Sampling instants (R184, R200, R204, R205), in 2^-48 ns -/

/-- The group whose input a slot takes. -/
def State.slotGroup (s : State) (n : Nat) : Nat := inputGroup (srcIndex (s.srcWord n))

/-- The blanking hold of the intake in 2^-48 ns (R176): 64 ns. -/
def intakeHold : Int := 64 * 2 ^ 48

/-- The instant of source sample i of slot n. Where no model is in force, the latest that the hold allows (log entry 16). -/
def State.instant (s : State) (n : Nat) (i : Int) : Int :=
  let w := s.srcWord n
  match srcType w with
  | 1 =>
    let e := (s.grp (s.slotGroup n)).est
    if e.fitted then e.at_ i + s.aperture (srcIndex w) else s.mt * 2 ^ 32 - intakeHold
  | 2 => let x := s.nodeOf w; x.mt * 2 ^ 32 + (i - x.nd) * x.period
  | _ =>
    let g := (s.slot n).grid
    s.gridEpoch g * 2 ^ 32 + divRound (i * (s.gridDen g * mtSec * 2 ^ 32 : Nat)) (max 1 (s.fget (CHP_TEST_MULT n) * s.gridNum g))

/-- Whether source samples of a slot flow: its group samples, its stream is declared, or it is a test pattern. -/
def State.srcFlows (s : State) (n : Nat) : Bool :=
  match srcType (s.srcWord n) with
  | 1 => (s.grp (s.slotGroup n)).flowing && s.awake (s.slotGroup n)
  | 2 => !(s.nodeOf (s.srcWord n)).missing
  | 3 => true
  | _ => false

/-! ## Saturation (R187) -/

/-- A component saturated to 24 bits, and how many clips that made. -/
def sat24 (v : Int) : Int × Nat := let r := satS 24 v; (r.1, b2n r.2)

/-- Count saturated values of a slot: sticky bit, counter, and SAT at most once per millisecond (R187). -/
def State.slotSat (s : State) (n clips : Nat) : State :=
  if clips = 0 then s
  else
    let s1 := (s.put (CHP_STAT_SAT_SEEN n) 1).bump (CHP_SATCNT n) clips
    let x := s1.slot n
    let due := match x.satAt with
      | none => true
      | some t => decide (t + (mtMs : Int) ≤ s.mt) || decide (s.mt < t)
    if due then (s1.setSlot n { x with satAt := some s.mt }).raise (evCHP_SAT n) n else s1

/-- SATURATED where a stage clipped. -/
def flagSat (clips flags : Nat) : Nat := if clips = 0 then flags else flags ||| 4

/-! ## Intake (R174 to R177) -/

/-- Whether an instant in 2^-48 ns lies in a span of lines stretched by `pre` and `post` units of 0.4 ns. -/
def inSpans (l : List Span) (t : Int) (pre post : Nat) : Bool :=
  l.any (fun x => decide (5 * (x.from_ * 2 ^ 32) - (pre : Int) * 2 ^ 49 ≤ 5 * t) && (match x.to_ with
    | none => true
    | some e => decide (5 * t ≤ 5 * (e * 2 ^ 32) + (post : Int) * 2 ^ 49)))

/-- Whether a slot's sample at an instant is blanked (R176). -/
def State.blankedAt (s : State) (n : Nat) (t : Int) : Bool :=
  (List.range 8).any (fun l => bit (s.fget (CHP_BLANK_MASK n)) l
    && inSpans (mapGet [] l s.blanks) t (s.fget (CHP_BLANK_PRE n)) (s.fget (CHP_BLANK_POST n)))

/-- Whether a slot's sample at an instant lies in an injection interval (R177): shifted by `CHP_CALDLY`. -/
def State.calAt (s : State) (n : Nat) (t : Int) : Bool :=
  (List.range 32).any (fun o => bit (s.frd (CHP_CALMASK n)).toNat o
    && (mapGet [] o s.injects).any (fun x =>
      let d : Int := (s.fget (CHP_CALDLY_V n) : Nat) * 2 ^ 49
      decide (5 * (x.from_ * 2 ^ 32) + d ≤ 5 * t) && (match x.to_ with
        | none => true
        | some e => decide (5 * t ≤ 5 * (e * 2 ^ 32) + d))))

/-- Sixteen bits of PRBS15, x^15 + x^14 + 1: the register's oldest bit leaves first (DESIGN CHOICE, log entry 17). -/
def prbsBits : Nat → Nat → Nat → Nat × Nat
  | 0, r, acc => (acc, r)
  | m + 1, r, acc =>
    let o := bits r 14 14
    let fb := (bits r 14 14 + bits r 13 13) % 2
    prbsBits m (r % 2 ^ 14 * 2 + fb) (2 * acc + o)

/-- The next container value of a slot's test pattern and the pattern state after it (R174). -/
def State.pattern (s : State) (n : Nat) (x : Slot) : Int × Slot :=
  let y := { x with patIdx := x.patIdx + 1 }
  match s.fget (CHP_TEST_PAT n) with
  | 1 => (sext 16 x.patIdx, y)
  | 2 => let r := prbsBits 16 x.prbs 0; (sext 16 r.1, { y with prbs := r.2 })
  | 3 => (sext 16 (s.fget (CHP_TEST_VALUE n)), y)
  | _ => (0, y)

/-- Whether the source of a slot is out of service at an instant (R175): marked by the owner, or an input that is disabled or
dead. -/
def State.srcDead (s : State) (n : Nat) (t : Int) : Bool :=
  let w := s.srcWord n
  s.fget (CHP_CTL_DEAD n) == 1
    || (srcType w == 1 && (!s.inputOn (srcIndex w) t || s.sub (iStat (srcIndex w)) 18 18 == 1))

/-- The code of a converter sample (R140): 12 bits, or the limiting code where the input is beyond full scale. -/
def converterCode (v : SrcSample) : Int :=
  let c := sext 12 (toBits 12 v.re)
  if v.isOver then (if c < 0 then -2048 else 2047) else c

/-- The container of a source sample with instant t, the pattern state after it, and its flags (R174, R175). -/
def State.intake (s : State) (n : Nat) (t : Int) (v : SrcSample) : Smp × Slot :=
  let x := s.slot n
  let word := s.srcWord n
  let ty := srcType word
  let node := s.nodeOf word
  let w := [4, 8, 12, 16].getD (bits node.format 1 0) 16
  let c : (Int × Int) × Slot := match ty with
    | 1 => ((converterCode v * 16, 0), x)
    | 2 => ((sext w (toBits w v.re) * 2 ^ (16 - w), if bit node.format 2 then sext w (toBits w v.im) * 2 ^ (16 - w) else 0), x)
    | _ => let p := s.pattern n x; ((p.1, 0), p.2)
  let dead := s.srcDead n t || (ty = 2 && v.dead)
  let blank := s.blankedAt n t
  let sat := (ty = 1 && v.isOver) || (ty = 2 && v.sat)
  let cal := s.calAt n t || (ty = 2 && v.cal)
  let fl := b2n blank + 4 * b2n sat + 8 * b2n dead + 32 * b2n cal
  (if dead || blank then ⟨0, 0, fl⟩ else ⟨c.1.1, c.1.2, fl⟩, c.2)

/-! ## Fast power detector (R241) -/

/-- A detection record: slot, instant of the newest sample (2^-16 ns) and sum (R241), on its way to the trigger unit; with
`FPD_FWD` it is forwarded as a detection message (R306). -/
def State.detect (s : State) (n : Nat) (t : Int) (sum : Nat) : State :=
  let co := s.isSet TB_STATUS_COARSE
  let s1 := (s.offerTrig 20 t co n).bump (CHP_FPD_CNT n)
  if s1.isSet TRG_CTL_FPD_FWD then
    s1.trgSend (mtBytes t ++ leBytes 1 0x11 ++ leBytes 1 0xFF ++ leBytes 1 20 ++ leBytes 1 (s1.tstate + 4 * b2n co)
      ++ leBytes 2 n ++ leBytes 2 0 ++ leBytes 8 sum)
  else s1

/-- One sample in the fast power detector of a slot (R241). -/
def State.fastPower (s : State) (n : Nat) (t : Int) (x : Smp) : State :=
  if !s.isSet (CHP_FPD_CTL_EN n) then s
  else
    let p := (x.re * x.re + x.im * x.im).toNat
    let y := s.slot n
    let w := (p :: y.fpd).take (2 ^ s.get (CHP_FPD_CTL_WLOG2 n))
    let sum := w.foldl (fun a b => a + b) 0
    if y.fpdArmed && s.rn (CHP_FPD_HI n) * 4096 ≤ sum then
      (s.setSlot n { y with fpd := w, fpdArmed := false }).detect n (t / 2 ^ 32) sum
    else s.setSlot n { y with fpd := w, fpdArmed := y.fpdArmed || decide (sum < s.rn (CHP_FPD_LO n) * 4096) }

/-! ## Delay and mixer (R180 to R184) -/

/-- A weighted sum over the newest samples of a line, with the union of their flags. -/
def firSum (c : Nat → Int) (taps : Nat) (line : List Smp) : Smp :=
  ((line.take taps).zip (List.range taps)).foldl (fun a p =>
    ⟨a.re + c p.2 * p.1.re, a.im + c p.2 * p.1.im, a.flags ||| p.1.flags⟩) {}

/-- Round a sum of Q1.17 products to the working width and saturate, setting SATURATED; and how many components clipped. -/
def toWorking (a : Smp) : Smp × Nat :=
  let r := sat24 (roundEven a.re 17)
  let i := sat24 (roundEven a.im 17)
  (⟨r.1, i.1, flagSat (r.2 + i.2) a.flags⟩, r.2 + i.2)

/-- The delay stage over the delay line, newest first (R180): 16 taps behind `INT`. -/
def State.delayStage (s : State) (n : Nat) (line : List Smp) : Smp × Nat :=
  toWorking (firSum (Config.delayCoef (s.fget (CHP_DELAY_FRAC n))) 16 (line.drop (s.fget (CHP_DELAY_INT n) + 1)))

/-- The mixer's phase in 2^-48 cycles at an instant in 2^-48 ns (R184), its error bounded by 2^-20 cycles. -/
def State.mixPhase (s : State) (n : Nat) (t : Int) : Nat :=
  let fw : Int := ((s.frd (CHP_NCO_LO n)).toNat + 2 ^ 32 * s.fget (CHP_NCO_HI_V n) : Nat)
  let dt := t - s.gridEpoch (s.slot n).grid * 2 ^ 32
  let p := toBits 48 ((s.fget (CHP_MIX_PHASE n) : Nat) * 2 ^ 32 + divRound (fw * 8 * dt) (2 ^ 48))
  toBits 48 (p + (Config.phaseErr p % (2 ^ 29 + 1) - 2 ^ 28))

/-- The nearest Q1.17 value to one in 2^-64, with an error of at most one unit, in 18 bits (R183, log entry 67). -/
def mixerValue (v err : Int) : Int := (satS 18 (roundEven v 47 + (err % 3 - 1))).1

/-- The mixer on one sample at an instant (R182, R183). -/
def State.mixStage (s : State) (n : Nat) (t : Int) (x : Smp) : Smp × Nat :=
  if s.fget (CHP_MIX_MODE n) = 0 then (x, 0)
  else
    let p := s.mixPhase n t
    let c := mixerValue (cosPhase p) (Config.mixCosErr p)
    let d := mixerValue (sinPhase p) (Config.mixSinErr p)
    toWorking ⟨x.re * c + x.im * d, x.im * c - x.re * d, x.flags⟩

/-! ## Decimators (R185 to R187) -/

/-- The product of two coefficient lists. -/
def polyMul (a b : List Int) : List Int :=
  (List.range (a.length + b.length - 1)).map (fun k =>
    (List.range a.length).foldl (fun acc i => if i ≤ k then acc + a.getD i 0 * b.getD (k - i) 0 else acc) 0)

/-- The response of a CIC of rate r and order m: m boxcars of r, of which the 56-bit integrators and combs give the exact
value (R186). -/
def cicTaps (r : Nat) : Nat → List Int
  | 0 => [1]
  | m + 1 => polyMul (List.replicate r 1) (cicTaps r m)

/-- The taps of a stage, from its configuration word. -/
def State.stageTaps (s : State) (w : Nat) : List Int :=
  if bits w 31 29 = 1 then cicTaps (bits w 28 22) (bits w 21 19)
  else (List.range (s.coefTaps (bits w 11 0))).map (s.coef (bits w 11 0))

/-- Shift and round as `RND` selects (R187). -/
def roundAs (rnd : Nat) (v : Int) (sh : Nat) : Int :=
  match rnd with
  | 0 => v / (2 ^ sh : Nat)
  | 1 => roundUp v sh
  | _ => roundEven v sh

/-- One stage's output from its line (R186, R187), and how many components clipped. -/
def State.stageOut (s : State) (w : Nat) (line : List Smp) : Smp × Nat :=
  let taps := s.stageTaps w
  let a := firSum (fun j => taps.getD j 0) taps.length line
  let r := sat24 (roundAs (bits w 13 12) a.re (bits w 18 14))
  let i := sat24 (roundAs (bits w 13 12) a.im (bits w 18 14))
  (⟨r.1, i.1, flagSat (r.2 + i.2) a.flags⟩, r.2 + i.2)

/-- Push a sample with index i through the stages of the configuration words: the lines after it, the chain output with
its index where one results, and the clips counted. -/
def State.runStages (s : State) : List Nat → List (List Smp) → Nat → Smp → List (List Smp) × Option (Nat × Smp) × Nat
  | [], ls, i, x => (ls, some (i, x), 0)
  | w :: ws, ls, i, x =>
    if bits w 31 29 = 0 then (ls, some (i, x), 0)
    else
      let line := (x :: ls.headD []).take 320
      let r := max 1 (bits w 28 22)
      if i % r = 0 then
        let y := s.stageOut w line
        let rest := s.runStages ws ls.tail (i / r) y.1
        (line :: rest.1, rest.2.1, y.2 + rest.2.2)
      else (line :: ls.tail, none, 0)

/-- A chain output with the UNSETTLED count of R191 applied; the resampler makes the zeros of `UNS_ZERO`. -/
def State.chainOut (s : State) (n m : Nat) (y : Smp) : State :=
  let u := s.rn (CHP_UNS n)
  let y1 : Smp := if u = 0 then y else { y with flags := y.flags ||| 2 }
  let x := s.slot n
  let s1 := s.setSlot n { x with outs := (m, y1) :: x.outs, firstM := some (x.firstM.getD m) }
  s1.wn (CHP_UNS n) (u - 1)

/-- One intake sample through the front stages of a slot (R179 to R187). -/
def State.frontStages (s : State) (n i : Nat) (v : Smp) : State :=
  let x := s.slot n
  let line := (v :: x.line).take 65552
  let d := s.delayStage n line
  let y := s.mixStage n (s.instant n ((i : Int) - 8)) d.1
  let ws := (List.range 5).map (fun k => (s.frd (CHP_DEC n k)).toNat)
  let r := s.runStages ws x.lines i y.1
  let s1 := s.setSlot n { x with since := x.since + 1, line := line, lines := r.1 }
  let s2 := (if d.2 + y.2 = 0 then s1 else s1.put (CHP_STAT_SAT_SEEN n) 1).slotSat n r.2.2
  match r.2.1 with
  | none => s2
  | some (m, o) => s2.chainOut n m o

/-! ## Resampler (R195 to R214) -/

/-- A coefficient of a resampler set (R207). -/
def State.rsCoef (s : State) (set p j : Nat) : Int :=
  if set < 2 then sext 18 (Config.factoryRs set p j)
  else sext 18 (s.tab (0x1200000 + 0x40000 * set + 0x80 * p + 4 * j)).toNat

/-- The position of grid sample k in chain outputs, 48 fraction bits, directly from the instant model (R196, R205, R214);
the fraction is cut at 48 bits (DESIGN CHOICE, log entry 18). -/
def State.positionOf (s : State) (n k : Nat) : Int :=
  let x := s.slot n
  let p : Int := s.slotRate n
  let gd : Int := (x.gd : Int) * 2 ^ 38
  let t := s.gridInstant x.grid k * 2 ^ 32
  match srcType (s.srcWord n) with
  | 1 =>
    let e := (s.grp (s.slotGroup n)).est
    let dt := t - e.tau - s.aperture (srcIndex (s.srcWord n))
    if s.get (CHP_RSM_STAT_TRACK n) = 5 then
      ((k * (s.lockGrid (s.slotGroup n)).2 : Nat) * 2 ^ 48 + x.lockOfs + gd) / p
    else ((e.nTau : Int) * 2 ^ 48 + dt * 2 ^ 48 / max 1 e.period + gd) / p
  | 2 => let y := s.nodeOf (s.srcWord n); ((y.nd : Int) * 2 ^ 48 + (t - y.mt * 2 ^ 32) * 2 ^ 48 / (max 1 y.period : Nat) + gd) / p
  | _ => ((k * s.fget (CHP_TEST_MULT n) : Nat) * 2 ^ 48 + gd) / p

/-- The version of the instant model of a slot, which moves with each update (R197). -/
def State.modelVersion (s : State) (n : Nat) : Nat :=
  if srcType (s.srcWord n) = 1 then (s.grp (s.slotGroup n)).est.version else (s.nodeOf (s.srcWord n)).nd

/-- The position of the next grid sample (R197): directly after an update of the model, otherwise Δ further. -/
def State.nextPos (s : State) (n : Nat) : Int :=
  let x := s.slot n
  let t := srcType (s.srcWord n)
  if (t = 1 || t = 2) && x.posVer = some (s.modelVersion n) && s.get (CHP_RSM_STAT_TRACK n) ≠ 5
  then x.pos + (s.slotStep n : Int) else s.positionOf n x.nextK

/-- The interpolated coefficient of tap j at phase p and weight w (R206). -/
def State.rsTap (s : State) (set p w j : Nat) : Int :=
  let a := s.rsCoef set p j
  (satS 18 (roundEven (a * 2 ^ 14 + (w : Int) * (s.rsCoef set (p + 1) j - a)) 14)).1

/-- The chain output with index m, zero before the first one after a restart. -/
def Slot.outAt (x : Slot) (m : Int) : Smp :=
  match x.outs.find? (fun e => (e.1 : Int) == m) with
  | some e => e.2
  | none => {}

/-- Whether a list of changes changes a register of a slot window on the bits given from a word. -/
def touches (key mask a : Nat) (l : List Staged) : Bool := (overlayWord key l a &&& mask) != (a &&& mask)

/-- The positions of the boundaries of a slot at which its coefficient set changes (R209): the latest one that its output has
reached, and those that it has still to reach. -/
def State.setEdges (s : State) (n : Nat) : List Int :=
  let x := s.slot n
  x.setM.toList ++ (x.marks.filter (fun m =>
    touches (CHP_RSM_CTL n).key 0xC0000000 (s.frd (CHP_RSM_CTL n)).toNat m.changes)).map (fun m => s.positionOf n m.k)

/-- The interpolated grid sample at a position (R206, R209), and the clips counted: zero where it carries GAP, DEAD or BLANKED, or
UNSETTLED with `UNS_ZERO` (R35, R36). -/
def State.interpolate (s : State) (n : Nat) (u : Int) : Smp × Nat :=
  let x := s.slot n
  let m0 := u / 2 ^ 48
  let mu := (u % 2 ^ 48).toNat
  let set := s.fget (CHP_RSM_CTL_SET n)
  let a := (List.range 32).foldl (fun (a : Smp) j =>
    let c := s.rsTap set (mu / 2 ^ 38) (mu / 2 ^ 24 % 2 ^ 14) j
    let y := x.outAt (m0 - 15 + j)
    ⟨a.re + c * y.re, a.im + c * y.im, a.flags ||| y.flags⟩) {}
  let r := sat24 (roundEven a.re 17)
  let i := sat24 (roundEven a.im 17)
  let early := match x.firstM with
    | none => true
    | some f => decide (m0 - 15 < (f : Int))
  let straddle := (s.setEdges n).any (fun b => decide ((m0 - 15) * 2 ^ 48 < b) && decide (b ≤ (m0 + 16) * 2 ^ 48))
  let fl := flagSat (r.2 + i.2) (if early || straddle then a.flags ||| 2 else a.flags)
  let zero := bit fl 0 || bit fl 3 || bit fl 4 || (bit fl 1 && s.fget (CHP_CTL_UNS_ZERO n) = 1)
  (if zero then ⟨0, 0, fl⟩ else ⟨r.1, i.1, fl⟩, r.2 + i.2)

/-- Take grid sample k of a slot: into the grid history, `nextK` moves on. -/
def State.takeGrid (s : State) (n : Nat) (u : Int) (y : Smp) : State :=
  let x := s.slot n
  let keep := x.outs.filter (fun e => decide (u / 2 ^ 48 - 16 ≤ (e.1 : Int)))
  s.setSlot n { x with gs := (x.nextK, y) :: x.gs, nextK := x.nextK + 1, outs := keep, pos := u,
                       posVer := some (s.modelVersion n) }

/-- The flags of a GAP placeholder at an instant (R36): every other flag that applies there as well. -/
def State.gapFlags (s : State) (n : Nat) (t : Int) : Nat :=
  16 + b2n (s.blankedAt n t) + 8 * b2n (s.srcDead n t) + 32 * b2n (s.calAt n t)

/-- A GAP placeholder at the next grid index (R212): counted, and SRC_GAP at the start of a run. -/
def State.gapSample (s : State) (n : Nat) : State :=
  let x := s.slot n
  let k := x.nextK
  let s1 := s.setSlot n { x with gs := (k, ⟨0, 0, s.gapFlags n (s.gridInstant x.grid k * 2 ^ 32)⟩) :: x.gs, nextK := k + 1, frameGaps := x.frameGaps + 1, posVer := none,
                                 gapFrom := some (x.gapFrom.getD k) }
  let s2 := (s1.wr64 (CHP_RSM_GAPS_LO n) (CHP_RSM_GAPS_HI n) (s1.rd64 (CHP_RSM_GAPS_LO n) (CHP_RSM_GAPS_HI n) + 1)).put
    (CHP_RSM_STAT_GAP_SEEN n) 1
  if x.gapFrom.isSome then s2
  else
    let s3 := (s2.wr64 (CHP_RSM_GFIRST_LO n) (CHP_RSM_GFIRST_HI n) k).wr64 (CHP_RSM_GLAST_LO n) (CHP_RSM_GLAST_HI n)
      (2 ^ 64 - 1)
    s3.raise (evCHP_SRC_GAP n) n [.w8 k]

/-- The end of a run of GAP grid samples (R212). -/
def State.gapEnd (s : State) (n : Nat) : State :=
  let x := s.slot n
  match x.gapFrom with
  | none => s
  | some f =>
    let s1 := (s.setSlot n { x with gapFrom := none }).wr64 (CHP_RSM_GLAST_LO n) (CHP_RSM_GLAST_HI n) (x.nextK - 1)
    s1.raise (evCHP_SRC_RESUMED n) n [.w8 f, .w8 (x.nextK - 1 : Nat)]

/-- Source samples of slot n begin anew after absence (R213): the histories of the front stages and the resampler are emptied and
their outputs are UNSETTLED as after a restart. -/
def State.resumeSource (s : State) (n : Nat) : State :=
  let y := { s.slot n with since := 0, line := [], lines := [[], [], [], [], []], outs := [], firstM := none, resumed := true,
                           lastI := none, posVer := none, setM := none }
  (s.setSlot n y).wn (CHP_UNS n) (s.settleCount (s.slotForce n) (s.fget (CHP_DELAY_INT n) + 16) 0)

/-- Whether the chain outputs that a position needs are there (R209, R212): `none` while some are still to arrive, else whether
none of them is missing. -/
def State.support (s : State) (n : Nat) (u : Int) : Option Bool :=
  let x := s.slot n
  let m0 := u / 2 ^ 48
  let newest : Int := match x.outs.head? with
    | none => -1
    | some e => e.1
  if newest < m0 + 16 then none
  else some ((List.range 32).all (fun j =>
    let m := m0 - 15 + j
    (!x.resumed && decide (m < (x.firstM.getD 0 : Int))) || x.outs.any (fun e => (e.1 : Int) == m)))

/-- The next grid sample of slot n where it is due (R195, R209, R212): interpolated where it is placed and supported, a GAP
placeholder where it cannot be, none while its chain outputs are still to arrive. No sample comes before its instant, nor from a
frame whose boundary has not been passed. -/
def State.gridStep (s : State) (n : Nat) : State :=
  let x := s.slot n
  let tr := s.get (CHP_RSM_STAT_TRACK n)
  if s.mt < s.gridInstant x.grid x.nextK || mapGet 0 x.grid s.gridNext * s.frameLen x.grid ≤ x.nextK then s
  else if !(tr = 2 || tr = 3 || tr = 5) then s.gapSample n
  else
    let u := s.nextPos n
    match s.support n u with
    | none => if s.srcFlows n then s else s.gapSample n
    | some false => s.gapSample n
    | some true =>
      let y := s.interpolate n u
      ((s.gapEnd n).takeGrid n u y.1).slotSat n y.2

end Sys2Proof.Machine
end

