-- ==== Sys2Proof/Machine/Channel.lean ====
section
/-! DEFINITION. The channeliser and the reducer (R218 to R224, R236 to R240). -/
namespace Sys2Proof.Machine

/-! ## Channeliser settings of a slot in force -/

/-- Whether the channeliser of a slot is in use. -/
def State.chanOn (s : State) (n : Nat) : Bool := s.fget (CHP_CHN_CTL_EN n) == 1

/-- F: N for a complex stream, 2N for a real one (R218). -/
def State.chanF (s : State) (n : Nat) : Nat :=
  2 ^ (s.fget (CHP_CHN_CTL_K n) + (if s.isSet (CHP_STAT_CPLX n) then 0 else 1))

/-- L = P × F. -/
def State.chanL (s : State) (n : Nat) : Nat := if s.chanOn n then s.fget (CHP_CHN_CTL_TAPS n) * s.chanF n else 1

/-- M: F, or 7F/8 oversampled; 1 in bypass. -/
def State.chanM (s : State) (n : Nat) : Nat :=
  if !s.chanOn n then 1 else if s.fget (CHP_CHN_CTL_OVS n) = 1 then 7 * s.chanF n / 8 else s.chanF n

/-- The first spectrum of a slot that starts at grid index k: the least j with jM ≥ k; and the spectra whose window reaches before
k are UNSETTLED (R224). -/
def State.chanStart (s : State) (n k : Nat) : State :=
  let m := s.chanM n
  let j := ceilDiv k m
  let u := if s.chanOn n then ceilDiv (k + s.chanL n) m - j else 0
  (s.setSlot n { s.slot n with nextJ := j, chanFrom := k }).put (CHP_CHN_STAT_USPEC n) u

/-! ## Spectra (R219, R220) -/

/-- The grid sample of a slot with index k; zero before its channeliser's start. -/
def Slot.gridAt (x : Slot) (k : Nat) : Smp :=
  match x.gs.find? (fun e => e.1 == k) with
  | some e => e.2
  | none => {}

/-- A prototype coefficient of a channeliser set (R221). -/
def State.protoCoef (s : State) (set i : Nat) : Int := sext 18 (s.tab (2 ^ 40 + 0x400000 * set + 4 + 4 * i)).toNat

/-- Number of bits set below position n. -/
def popCount (n v : Nat) : Nat := (List.range n).foldl (fun a i => a + b2n (bit v i)) 0

/-- log2 of a power of two, by counting. -/
def log2Of (v : Nat) : Nat := Nat.log2 v

/-- Branch sum w_i of spectrum j (R220 step 1), with clips. -/
def State.branchSum (s : State) (n j i : Nat) : (Int × Int) × Nat :=
  let x := s.slot n
  let f := s.chanF n
  let l := s.chanL n
  let m := s.chanM n
  let set := s.fget (CHP_CHN_CTL_COEF n)
  let a := (List.range (s.fget (CHP_CHN_CTL_TAPS n))).foldl (fun (a : Int × Int) p =>
    let h := s.protoCoef set (i + p * f)
    let pos := j * m + i + p * f
    let u := if pos < l then {} else x.gridAt (pos - l)
    (a.1 + h * u.re, a.2 + h * u.im)) (0, 0)
  let r := sat24 (roundEven a.1 17)
  let q := sat24 (roundEven a.2 17)
  ((r.1, q.1), r.2 + q.2)

/-- The exact DFT of the shifted branch sums at channel c, in 2^-64 (R219, R220). -/
def dftAt (w : List (Int × Int)) (f c sh : Nat) : Int × Int :=
  (w.zip (List.range w.length)).foldl (fun (a : Int × Int) p =>
    let ph := c * ((p.2 + sh) % f) % f * (2 ^ 48 / f)
    let co := cosPhase ph
    let si := sinPhase ph
    (a.1 + p.1.1 * co + p.1.2 * si, a.2 + p.1.2 * co - p.1.1 * si)) (0, 0)

/-- Whether the sizes of the branch sums and the shifts of `SCALE` exclude that a stage of the transform saturates (R220): after
stage i a value adds 2^(i + 1) of them, halved as often as the shifts so far; the margin covers rounding (log entry 19). -/
def dftSafe (w : List (Int × Int)) (f scale : Nat) : Bool :=
  let sizes := w.map (fun p => p.1.natAbs + p.2.natAbs)
  let most := sizes.foldl max 0
  let sum := sizes.foldl (· + ·) 0
  (List.range (log2Of f)).all (fun i =>
    let v := min (2 ^ (i + 1) * most) sum / 2 ^ popCount (i + 1) scale
    decide (v + v / 4096 + 2 ^ (i + 4) < 2 ^ 31))

/-- One output component: an integer within ±2 of the exact value, saturated, where no stage can saturate, otherwise a free 16-bit
value (R220, log entry 19). -/
def State.dftComp (s : State) (safe : Bool) (x : Int) (sh : Nat) : (Int × Nat) × State :=
  if safe then
    let d : Int := 2 ^ (64 + sh)
    let lo := -((2 * d - x) / d)
    let v := s.draw ((x + 2 * d) / d - lo + 1).toNat
    let r := satS 16 (lo + v.1)
    ((r.1, b2n r.2), v.2)
  else
    let d := s.draw 65536
    ((sext 16 d.1, 0), d.2)

/-- The values of the selected channels from the branch sums, the clips counted, and the state after the draws. -/
def State.dftChannels (s : State) (w : List (Int × Int)) (f sh shift : Nat) (safe : Bool) :
    List Nat → (List (Int × Int) × Nat) × State
  | [] => (([], 0), s)
  | c :: cs =>
    let e := dftAt w f c sh
    let a := s.dftComp safe e.1 shift
    let b := a.2.dftComp safe e.2 shift
    let r := b.2.dftChannels w f sh shift safe cs
    (((a.1.1, b.1.1) :: r.1.1, a.1.2 + b.1.2 + r.1.2), r.2)

/-- Whether the window of spectrum j of slot n reaches before its channeliser's start or straddles a change of `COEF` (R224). -/
def State.windowUnsettled (s : State) (n j : Nat) : Bool :=
  let x := s.slot n
  let k := j * s.chanM n
  s.chanOn n && (decide (k < s.chanL n + x.chanFrom) || (match x.coefFrom with
    | none => false
    | some b => decide (k < b + s.chanL n) && decide (b < k)))

/-- The spectrum with index j of slot n (R219 to R224): zero where it carries UNSETTLED with `UNS_ZERO` (R35). -/
def State.makeSpectrum (s : State) (n j : Nat) : (Spectrum × Nat) × State :=
  let x := s.slot n
  let osh := s.fget (CHP_CHN_CTL_OSHIFT n)
  if !s.chanOn n then
    let u := x.gridAt j
    let r := satS 16 (roundEven u.re osh)
    let q := satS 16 (roundEven u.im osh)
    let clips := b2n r.2 + b2n q.2
    (({ j := j, vals := [(r.1, q.1)], flags := flagSat clips u.flags }, clips), s)
  else
    let f := s.chanF n
    let l := s.chanL n
    let m := s.chanM n
    let sums := (List.range f).map (s.branchSum n j)
    let w := sums.map (fun p => p.1)
    let c0 := sums.foldl (fun a p => a + p.2) 0
    let scale := s.fget (CHP_CHN_SCALE_SCALE n)
    let shift := popCount (log2Of f) scale + osh
    let safe := dftSafe w f scale
    let sel := (List.range (s.fget (CHP_CHN_SEL_COUNT n))).map (fun i => s.fget (CHP_CHN_SEL_FIRST n) + i)
    let d := s.dftChannels w f (j * m % f) shift safe sel
    let k := if safe then (0, d.2) else d.2.draw (2 * f)
    let clips := c0 + d.1.2 + k.1
    let lo := j * m - l
    let win := x.gs.foldl (fun a e => if lo ≤ e.1 && e.1 < j * m then a ||| e.2.flags else a) 0
    let fl := flagSat clips (if s.windowUnsettled n j then win ||| 2 else win)
    let zero := bit fl 1 && s.fget (CHP_CTL_UNS_ZERO n) == 1
    (({ j := j, vals := if zero then d.1.1.map (fun _ => (0, 0)) else d.1.1, flags := fl,
        first := s.fget (CHP_CHN_SEL_FIRST n), step := m }, clips), k.2)

/-! ## The reducer's settings: a slot's registers or a beam's words W6 and W7 -/

/-- The grants that copy a kind of slot n's units now (R563 to R566): `kind` is the bit of the `kinds` word. -/
def State.grantsOf (s : State) (n kind : Nat) : List Nat :=
  (List.range 2048).filter (fun g => s.isSet (BRG_GRANT0_VALID g) && !s.isSet (BRG_GRANT0_SUSP g)
    && s.get (BRG_GRANT0_SLOT g) == n && bit (s.rn (BRG_GRANT1 g)) kind)

/-- The destination queue of a grant. -/
def State.grantQueue (s : State) (g : Nat) : Nat := bits (s.rn (BRG_GRANT1 g)) 13 0

/-- The settings of an output path: stream number, whether it is a beam's, grid, channels, control and requantiser words,
histogram word, the queues of its route where they are enabled, the grants that copy voltages and power, and whether
voltages are real 16-bit values. -/
structure PathCfg where
  src : Nat
  beam : Bool
  grid : Nat
  chFirst : Nat
  chCount : Nat
  ctl : Nat
  rq : Nat
  hist : Nat
  vq : Option Nat
  pq : Option Nat
  vg : List Nat
  pg : List Nat
  real : Bool

/-- Whether flags are selected by an `EXCL` field: GAP, DEAD, BLANKED, SATURATED from bit 3 down. -/
def excluded (excl flags : Nat) : Bool :=
  (bit excl 3 && bit flags 4) || (bit excl 2 && bit flags 3) || (bit excl 1 && bit flags 0) || (bit excl 0 && bit flags 2)

/-- Bits of a requantised component (R238). -/
def rqBits (rq : Nat) : Nat := match rq with
  | 1 => 4
  | 2 => 8
  | _ => 16

/-- Requantise one component (R238), with whether it clamped. -/
def requant (b g sh : Nat) (v : Int) : Int × Bool :=
  let y := roundEven (v * g) (12 + sh)
  let hi : Int := 2 ^ (b - 1) - 1
  if hi < y then (hi, true) else if y < -hi then (-hi, true) else (y, false)

/-- The gain of channel c (R238): `GAIN`, or the entry of the gain table. -/
def State.gainOf (s : State) (rq c : Nat) : Nat :=
  let t := bits rq 15 10
  if t = 0 then bits rq 31 16
  else
    let w := (s.tab (0x1300000 + 0x8000 * t + 2 * c / 4 * 4)).toNat
    if c % 2 = 0 then w % 65536 else w / 65536

/-- One voltage value of channel c as bytes, with the clamps counted (R238). -/
def State.voltBytes (s : State) (p : PathCfg) (c : Nat) (v : Int × Int) : List Byte × Nat :=
  let mode := bits p.ctl 29 28
  if mode = 0 then
    if p.beam then (leBytes 4 (toBits 32 v.1) ++ leBytes 4 (toBits 32 v.2), 0)
    else if p.real then (leBytes 2 (toBits 16 v.1), 0)
    else (leBytes 2 (toBits 16 v.1) ++ leBytes 2 (toBits 16 v.2), 0)
  else
    let b := rqBits mode
    let g := s.gainOf p.rq c
    let x := requant b g (bits p.rq 4 0) v.1
    let y := requant b g (bits p.rq 4 0) v.2
    let n := b2n x.2 + b2n y.2
    if b = 4 then ([BitVec.ofNat 8 (toBits 4 x.1 * 16 + toBits 4 y.1)], n)
    else if b = 8 then ([BitVec.ofNat 8 (toBits 8 x.1), BitVec.ofNat 8 (toBits 8 y.1)], n)
    else (leBytes 2 (toBits 16 x.1) ++ leBytes 2 (toBits 16 y.1), n)

/-- `FMT` of a voltage item (R239). -/
def voltFmt (p : PathCfg) : Nat :=
  match bits p.ctl 29 28 with
  | 1 => 4
  | 2 => 8
  | 3 => 16
  | _ => if p.beam then 0x20 else if p.real then 0x30 else 0x10

/-- binary32 of a natural number, rounded to nearest even (R236). -/
def toF32 (n : Nat) : Nat :=
  if n = 0 then 0
  else
    let e := Nat.log2 n
    if e ≤ 23 then (127 + e) * 2 ^ 23 + (n * 2 ^ (23 - e) - 2 ^ 23)
    else
      let m := (roundEven (n : Int) (e - 23)).toNat
      (127 + e) * 2 ^ 23 + (m - 2 ^ 23)

/-- The 32-byte header of an item (R239). -/
def itemHeader (p : PathCfg) (first flags type fmt hsat nidx used seq : Nat) : List Byte :=
  leBytes 8 first ++ leBytes 2 flags ++ leBytes 1 type ++ leBytes 1 fmt ++ leBytes 2 p.src
    ++ leBytes 1 (b2n p.beam * 128 + p.grid) ++ leBytes 1 hsat ++ leBytes 2 p.chFirst ++ leBytes 2 p.chCount
    ++ leBytes 2 nidx ++ leBytes 2 0 ++ leBytes 4 used ++ leBytes 4 seq

/-- Put a complete item before its queues: that of the route, and those of the grants that copy it (R239, R565). -/
def State.readyItem (s : State) (q : Option Nat) (dests : List Nat) (first last : Nat) (b : List Byte) : State :=
  { s with items := s.items ++ (q.toList ++ dests.map s.grantQueue).map (fun d => { queue := d, bytes := b, first := first, last := last }) }

/-- Show the least members used in a beam's latest item (R229). -/
def State.showUsed (s : State) (p : PathCfg) (used : Nat) : State :=
  if p.beam then s.put (BFM_BSTAT0_USED_MIN p.src) used else s

/-- Close the voltage item in progress. -/
def State.closeVolt (s : State) (p : PathCfg) (x : OutPath) : State × OutPath :=
  match x.volt with
  | some v =>
    let h := itemHeader p v.first v.flags 1 (voltFmt p) 0 v.n (if p.beam then v.used else 0) x.vseq
    ((s.readyItem p.vq v.dests v.first (v.first + v.n - 1) (h ++ v.data)).showUsed p v.used,
      { x with volt := none, vseq := (x.vseq + 1) % 2 ^ 32 })
  | none => (s, x)

/-- S1 of a channel in the output format (R236), and whether it saturated. -/
def s1Out (ctl v : Nat) : List Byte × Bool :=
  if bits ctl 17 16 = 0 then (leBytes 4 (toF32 v), false)
  else
    let y := v / 2 ^ bits ctl 15 10
    if 2 ^ 32 ≤ y then (leBytes 4 (2 ^ 32 - 1), true) else (leBytes 4 y, false)

/-- The sums of an integration over the channels in force: a channel that the selection has lost leaves, a new one starts at 0
(log entry 38). -/
def Integ.over (a : Integ) (first count : Nat) : Integ :=
  if a.chFirst = first && a.s1.length = count then a
  else
    let pick := fun (l : List Nat) => (List.range count).map (fun i =>
      if first + i < a.chFirst then 0 else l.getD (first + i - a.chFirst) 0)
    { a with chFirst := first, s1 := pick a.s1, s2 := pick a.s2 }

/-- Emit the integration in progress (R236). -/
def State.closeInteg (s : State) (p : PathCfg) (x : OutPath) : State × OutPath :=
  match x.integ with
  | some a0 =>
    let a := a0.over p.chFirst p.chCount
    let two := bits p.ctl 31 30 = 2
    let fmt := if bits p.ctl 17 16 = 0 then 0x40 else 0x41
    let o := a.s1.map (s1Out p.ctl)
    let sat := o.any (fun y => y.2)
    let pay := if two then (o.zip a.s2).flatMap (fun y => y.1.1 ++ leBytes 4 (toF32 y.2)) else o.flatMap (fun y => y.1)
    let fl := flagSat (b2n sat) (if a.used = 0 then a.flagsOut else a.flagsUsed)
    let h := itemHeader p a.i fl (if two then 3 else 2) fmt 0 1 a.used x.pseq
    ((s.readyItem p.pq a.dests a.i a.i (h ++ pay)).showUsed p a.least,
      { x with integ := none, pseq := (x.pseq + 1) % 2 ^ 32 })
  | none => (s, x)

/-- Emit the histogram in progress (R237). -/
def State.closeHisto (s : State) (p : PathCfg) (x : OutPath) : State × OutPath :=
  match x.histo with
  | some a =>
    let h := itemHeader p a.h a.flags 4 0 (b2n a.sat) 1 0 x.pseq
    (s.readyItem p.pq a.dests a.h a.h (h ++ a.re.flatMap (leBytes 4) ++ a.im.flatMap (leBytes 4)),
      { x with histo := none, pseq := (x.pseq + 1) % 2 ^ 32 })
  | none => (s, x)

/-- The voltage stream takes one spectrum (R238, R239): items of 256 indices aligned to 256. The clamps are counted. -/
def State.pathVolt (s : State) (p : PathCfg) (x : OutPath) (y : Spectrum) (used : Nat) : (State × OutPath) × Nat :=
  if p.vq.isNone && x.volt.isNone && p.vg.isEmpty then ((s, x), 0)
  else
    let cs := (y.vals.zip (List.range y.vals.length)).map (fun e => s.voltBytes p (p.chFirst + e.2) e.1)
    let clips := cs.foldl (fun a e => a + e.2) 0
    let d := cs.flatMap (fun e => e.1)
    let fl := flagSat clips y.flags
    let v : VItem := match x.volt with
      | none => ⟨y.j, 1, d, fl, used, p.vg⟩
      | some v => { v with n := v.n + 1, data := v.data ++ d, flags := v.flags ||| fl, used := min v.used used }
    let x1 := { x with volt := some v }
    if (y.j + 1) % 256 = 0 then (s.closeVolt p x1, clips) else ((s, x1), clips)

/-- Power of a component pair. -/
def powerOf (v : Int × Int) : Nat := (v.1 * v.1 + v.2 * v.2).toNat

/-- The integration takes one spectrum (R236), for a beam with the members used. -/
def State.pathInteg (s : State) (p : PathCfg) (x : OutPath) (y : Spectrum) (used : Nat) : State × OutPath :=
  let mode := bits p.ctl 31 30
  if mode = 0 || (p.pq.isNone && x.integ.isNone && p.pg.isEmpty) then (s, x)
  else
    let i := y.j / 2 ^ bits p.ctl 22 18
    let r := match x.integ with
      | some a => if a.i = i then (s, x) else s.closeInteg p x
      | none => (s, x)
    let a : Integ := (r.2.integ.getD ⟨i, p.chFirst, y.vals.map (fun _ => 0), y.vals.map (fun _ => 0), 0, 0, 0, used, p.pg⟩).over
      p.chFirst y.vals.length
    let b : Integ :=
      if excluded (bits p.ctl 26 23) y.flags then { a with flagsOut := a.flagsOut ||| y.flags, least := min a.least used }
      else
        { a with least := min a.least used, s1 := (a.s1.zip y.vals).map (fun e => (e.1 + powerOf e.2) % 2 ^ 64),
                 s2 := (a.s2.zip y.vals).map (fun e => (e.1 + powerOf e.2 * powerOf e.2) % 2 ^ 96),
                 used := a.used + 1, flagsUsed := a.flagsUsed ||| y.flags }
    (r.1, { r.2 with integ := some b })

/-- The histogram bin of a component (R237). -/
def histBin (v : Int) (sh : Nat) : Nat := (min (max (v / (2 ^ sh : Nat)) (-128)) 127 + 128).toNat

/-- Count one value in a list of bins; a full count saturates. -/
def countBin (l : List Nat) (b : Nat) : List Nat × Bool :=
  let c := l.getD b 0
  (l.set b (satAdd 32 c 1), decide (c = 2 ^ 32 - 1))

/-- The histogram takes one spectrum (R237). -/
def State.pathHisto (s : State) (p : PathCfg) (x : OutPath) (y : Spectrum) : State × OutPath :=
  if p.beam || !bit p.ctl 27 || (p.pq.isNone && x.histo.isNone && p.pg.isEmpty) then (s, x)
  else
    let h := y.j / 2 ^ bits p.hist 26 22
    let r := match x.histo with
      | some a => if a.h = h then (s, x) else s.closeHisto p x
      | none => (s, x)
    let a : Histo := r.2.histo.getD ⟨h, List.replicate 256 0, List.replicate 256 0, false, 0, p.pg⟩
    let b : Histo :=
      if excluded (bits p.ctl 26 23) y.flags then a
      else y.vals.foldl (fun a v =>
        let u := countBin a.re (histBin v.1 (bits p.hist 31 27))
        let w := countBin a.im (histBin v.2 (bits p.hist 31 27))
        { a with re := u.1, im := w.1, sat := a.sat || u.2 || w.2, flags := a.flags ||| y.flags }) a
    (r.1, { r.2 with histo := some b })

/-- One spectrum through the output path: voltages, integration, histogram; the clamps are counted. -/
def State.pathTake (s : State) (p : PathCfg) (x : OutPath) (y : Spectrum) (used : Nat) : (State × OutPath) × Nat :=
  let a := s.pathVolt p x y used
  let b := a.1.1.pathInteg p a.1.2 y used
  (b.1.pathHisto p b.2 y, a.2)

/-- Emit everything in progress short: an unbind, a disable or a restart (R230, R236, R239). -/
def State.pathEnd (s : State) (p : PathCfg) (x : OutPath) : State × OutPath :=
  let a := s.closeVolt p x
  let b := a.1.closeInteg p a.2
  b.1.closeHisto p b.2

/-- The output path of a slot in force (R240). -/
def State.slotCfg (s : State) (n : Nat) : PathCfg :=
  { src := n, beam := false, grid := (s.slot n).grid, chFirst := s.fget (CHP_CHN_SEL_FIRST n),
    chCount := s.fget (CHP_CHN_SEL_COUNT n), ctl := (s.frd (CHP_RDC_CTL n)).toNat, rq := (s.frd (CHP_RDC_RQ n)).toNat,
    hist := (s.frd (CHP_RDC_HIST n)).toNat,
    vq := if s.fget (CHP_ROUTE_VQ_EN n) = 1 then some (s.fget (CHP_ROUTE_VQUEUE n)) else none,
    pq := if s.fget (CHP_ROUTE_PQ_EN n) = 1 then some (s.fget (CHP_ROUTE_PQUEUE n)) else none,
    vg := s.grantsOf n 31, pg := s.grantsOf n 30, real := !s.chanOn n && !s.isSet (CHP_STAT_CPLX n) }

/-- Emit a slot's items in progress short. -/
def State.slotEndItems (s : State) (n : Nat) : State :=
  let r := s.pathEnd (s.slotCfg n) (s.slot n).path
  r.1.setSlot n { r.1.slot n with path := r.2 }

/-- A frame record (R215) as a type 0x05 item of an output path, with the time status and `COARSE` at its boundary; the order of
its fields in the payload is the model's (DESIGN CHOICE, log entry 20). -/
def State.frameItem (s : State) (p : PathCfg) (x : OutPath) (frame track tstate coarse : Nat) (tail : List Byte) :
    State × OutPath :=
  let pay : List Byte := leBytes 4 p.grid ++ leBytes 8 frame ++ leBytes 4 track ++ leBytes 4 tstate ++ leBytes 4 coarse ++ tail
  let volt := p.vq.isSome || !p.vg.isEmpty
  if volt then
    (s.readyItem p.vq p.vg frame frame (itemHeader p frame 0 5 0 0 1 0 x.vseq ++ pay), { x with vseq := (x.vseq + 1) % 2 ^ 32 })
  else if p.pq.isSome || !p.pg.isEmpty then
    (s.readyItem p.pq p.pg frame frame (itemHeader p frame 0 5 0 0 1 0 x.pseq ++ pay), { x with pseq := (x.pseq + 1) % 2 ^ 32 })
  else (s, x)

/-! ## Spectra of a slot -/

/-- Whether a beam has still to sum spectrum j of slot n. -/
def State.wanted (s : State) (n j : Nat) : Bool :=
  s.beams.any (fun e => decide (e.2.nextJ ≤ j) && ((e.2.run && e.2.members.contains n)
    || e.2.marks.any (fun m => m.changes.any (fun x => x.vals.any (fun v => v.key == 0 && v.val == n)))))

/-- The grid samples of the next spectrum of slot n have arrived: its output runs and has reached the spectrum's label, and no frame
boundary up to the label is still to come (R223). -/
def State.spectrumDue (s : State) (n : Nat) : Bool :=
  let x := s.slot n
  x.run && decide (x.nextJ * s.chanM n < mapGet 0 x.grid s.gridNext * s.frameLen x.grid) && (if s.chanOn n then decide (x.nextJ * s.chanM n ≤ x.nextK) else decide (x.nextJ < x.nextK))

/-- The next spectrum of slot n is computed, kept for the beams that have still to sum it, and passes to the slot's output path
(R219, R236 to R239). -/
def State.spectrumStep (s : State) (n : Nat) : State :=
  let j := (s.slot n).nextJ
  let r := s.makeSpectrum n j
  let keepFrom := if s.chanOn n then (j + 1) * s.chanM n - s.chanL n else j + 1
  let x1 := r.2.slot n
  let s1 := r.2.setSlot n { x1 with nextJ := j + 1, spectra := (r.1.1 :: x1.spectra).filter (fun y => s.wanted n y.j),
                                    gs := x1.gs.filter (fun e => decide (keepFrom ≤ e.1)) }
  let s2 := (if s.windowUnsettled n j then s1.put (CHP_CHN_STAT_USPEC n) (s1.get (CHP_CHN_STAT_USPEC n) - 1) else s1).slotSat n
    r.1.2
  let t := s2.pathTake (s2.slotCfg n) (s2.slot n).path r.1.1 0
  (t.1.1.setSlot n { t.1.1.slot n with path := t.1.2 }).slotSat n t.2

/-- Every spectrum of slot n whose label lies before grid index k is made (R223). -/
def State.drainSpectra (s : State) (n k : Nat) : Nat → State
  | 0 => s
  | fuel + 1 => if (s.slot n).nextJ * s.chanM n < k && s.spectrumDue n then (s.spectrumStep n).drainSpectra n k fuel else s

/-- SPECTRUM_READY (R219, R243): the grid samples of the next spectrum of slot n have arrived. -/
def execSpectrumReady (n : Nat) (s : State) : Host.Outcome State Fault Refusal :=
  .next (if s.spectrumDue n && s.isSet CLK_STAT_CORE_LOCK then s.spectrumStep n else s)

end Sys2Proof.Machine
end

