-- ==== Sys2Proof/Machine/Beams.lean ====
section
/-! DEFINITION. The beam engine: descriptors and their checks, sums, chaining, MAC array faults (R225 to R235). -/
namespace Sys2Proof.Machine

/-! ## Beam configurations -/

/-- What the hub holds of a beam. -/
def State.beam (s : State) (b : Nat) : Beam := mapGet {} b s.beams
/-- Put what the hub holds of a beam. -/
def State.setBeam (s : State) (b : Nat) (x : Beam) : State := { s with beams := mapPut {} b x s.beams }

/-- Word i of a beam's descriptor in force. -/
def State.desc (s : State) (b i : Nat) : Nat := (s.frd (BFM_DESC b i)).toNat

/-- Word i of a beam's descriptor in the shadow. -/
def State.descShadow (s : State) (b i : Nat) : Nat := s.rn (BFM_DESC b i)

/-- The slots of an input set as its shadow holds it, in ascending order (R226). -/
def State.setMembers (s : State) (iset : Nat) : List Nat :=
  (List.range 1024).filter (fun n => bit (s.rn (BFM_ISET iset (n / 32))) (n % 32))

/-- A beam's configuration: descriptor words, members, and the grid and the channeliser structure that the members share. -/
structure BeamCfg where
  words : List Nat
  members : List Nat
  grid : Nat := 0
  chan : List Nat := []
  deriving DecidableEq, Repr

/-- Word i of a configuration. -/
def BeamCfg.w (c : BeamCfg) (i : Nat) : Nat := c.words.getD i 0

/-- Whether a configuration enables its beam. -/
def BeamCfg.en (c : BeamCfg) : Bool := bit (c.w 0) 31

/-- `CH_COUNT` of a configuration. -/
def BeamCfg.count (c : BeamCfg) : Nat := bits (c.w 1) 31 17

/-- The weights of a configuration: groups times members (R227). -/
def BeamCfg.weights (c : BeamCfg) : Nat := ceilDiv c.count (2 ^ bits (c.w 2) 31 28) * c.members.length

/-- The channeliser structure of a slot (R223) from a reading of its window, with whether its stream is complex. -/
def State.chanStruct (s : State) (n : Nat) (f : Nat → Nat) : List Nat :=
  let w := if (s.slot n).waits = 1 then s.rn (CHP_SRC n) else s.srcWord n
  bits (f 0xC8) 31 30 :: bits (f 0xC8) 29 21 :: (if bit (f 0xC8) 31 then [b2n (chainCplx (s.srcCplx w) f)] else [])

/-- The configuration that descriptor words give, with the input set that they name (R226). -/
def State.cfgOf (s : State) (words : List Nat) : BeamCfg :=
  let l := if bit (words.headD 0) 31 then s.setMembers (bits (words.headD 0) 27 20) else []
  { words := words, members := l, grid := match l with
      | [] => 0
      | m :: _ => (s.slot m).boundGrid }

/-- A configuration with the channeliser structure that its members have at boundary k. -/
def State.cfgAtIdx (s : State) (k : Nat) (c : BeamCfg) : BeamCfg :=
  { c with chan := match c.members with
      | [] => []
      | m :: _ => s.chanStruct m (s.slotAt m k) }

/-- The configuration that the shadow gives beam b. -/
def State.cfgShadow (s : State) (b : Nat) : BeamCfg := s.cfgOf ((List.range 8).map (s.descShadow b))

/-- The configuration on which the output of beam b works. -/
def State.cfgForce (s : State) (b : Nat) : BeamCfg :=
  let x := s.beam b
  { words := (List.range 8).map (s.desc b), members := x.members, grid := x.grid, chan := x.chan }

/-- The configuration that a change of a beam holds: its descriptor words, as values of key 0 its members, and as values of key 1
their structure. -/
def stagedCfg (x : Staged) : BeamCfg :=
  { words := (x.vals.filter (fun v => 2 ≤ v.key)).map (fun v => v.val),
    members := (x.vals.filter (fun v => v.key == 0)).map (fun v => v.val), grid := x.grid,
    chan := (x.vals.filter (fun v => v.key == 1)).map (fun v => v.val) }

/-- The values by which a configuration is staged. -/
def cfgVals (b : Nat) (c : BeamCfg) : List SVal :=
  (List.range 8).map (fun i => ⟨(BFM_DESC b i).key, 2 ^ 32 - 1, c.w i⟩) ++ c.members.map (fun n => ⟨0, 0, n⟩)
    ++ c.chan.map (fun v => ⟨1, 0, v⟩)

/-- The descriptor words among a change's values. -/
def descVals (l : List SVal) : List SVal := l.filter (fun v => 2 ≤ v.key)

/-- The configurations that a beam's output has still to reach, whose boundaries have passed. -/
def State.beamDue (s : State) (b : Nat) : List BeamCfg :=
  (s.beam b).marks.flatMap (fun m => m.changes.map stagedCfg)

/-- The configuration of beam b in force at the present boundary. -/
def State.cfgNow (s : State) (b : Nat) : BeamCfg := ((s.beamDue b).getLast?).getD (s.cfgForce b)

/-- The configurations of beam b whose boundary has passed and on which its output works or has still to work. -/
def State.beamCfgs (s : State) (b : Nat) : List BeamCfg :=
  (if (s.beam b).run then [s.cfgForce b] else []) ++ s.beamDue b

/-- The configurations that enable a beam, in force or staged, with the beam. -/
def State.allCfgs (s : State) : List (Nat × BeamCfg) :=
  (s.beams.flatMap (fun e => ((s.beamCfgs e.1).filter BeamCfg.en).map (fun c => (e.1, c)))) ++
    s.staged.filterMap (fun x => match x.unit with
      | .beam b => if (stagedCfg x).en then some (b, stagedCfg x) else none
      | _ => none)

/-- Whether a weight page is in use (R227). -/
def State.weightInUse (s : State) (page : Nat) : Bool :=
  s.allCfgs.any (fun e => decide (bits (e.2.w 0) 15 0 ≤ page)
    && decide (page < bits (e.2.w 0) 15 0 + ceilDiv e.2.weights 16384))

/-! ## Members (R230, R232) -/

/-- Whether a slot's selection covers the channels of a configuration. -/
def selCovers (f : Nat → Nat) (c : BeamCfg) : Bool :=
  let first := bits (f 0xD0) 13 0
  let count := bits (f 0xD0) 30 16
  let n := bits (c.w 1) 13 0
  decide (first ≤ n) && decide (n + c.count ≤ first + count)

/-- Whether borough t may use slot n as a member (R568): the owner every slot, a tenant by a `BEAM` grant. -/
def State.memberGranted (s : State) (t n : Nat) : Bool :=
  t == 0 || (List.range 2048).any (fun g => s.isSet (BRG_GRANT0_VALID g) && s.get (BRG_GRANT0_GRANTEE g) == t
    && s.get (BRG_GRANT0_SLOT g) == n && bit (s.rn (BRG_GRANT1 g)) 28)

/-- Spectra per second times the denominator: the samples between spectra of a channeliser structure (R218). -/
def chanStep (st : List Nat) : Nat :=
  let c := st.getD 0 0
  if 2 ≤ c then
    let f := 2 ^ (bits (st.getD 1 0) 8 5 + (if st.getD 2 0 = 1 then 0 else 1))
    if c % 2 = 1 then 7 * f / 8 else f
  else 1

/-- Check 2 for one beam of borough t at boundary k: members BOUND or PENDING on a bind, one grid, one structure,
selections that cover the beam. -/
def State.inputsOk (s : State) (t k : Nat) (c : BeamCfg) : Bool :=
  c.members != [] && c.members.all (fun n => (s.slot n).on && (s.slot n).waits != 2 && (s.slot n).boundGrid == c.grid
    && (s.chanStruct n (s.slotAt n k)).take 2 == c.chan.take 2 && selCovers (s.slotAt n k) c && s.memberGranted t n)

/-! ## Loads (R226) -/

/-- Add two fractions, reduced. -/
def fracAdd (a b : Nat × Nat) : Nat × Nat :=
  let n := a.1 * b.2 + b.1 * a.2
  let d := a.2 * b.2
  let g := max 1 (Nat.gcd n d)
  (n / g, d / g)

/-- The load of a configuration in complex multiply-accumulates per second, as a fraction. -/
def State.cfgLoad (s : State) (c : BeamCfg) : Nat × Nat :=
  if c.en then (c.members.length * c.count * s.gridNum c.grid, max 1 (s.gridDen c.grid * chanStep c.chan)) else (0, 1)

/-- A load in units of 10^9, rounded up. -/
def loadUnits (l : Nat × Nat) : Nat := ceilDiv l.1 (l.2 * 1000000000)

/-- The sum of the loads of configurations. -/
def State.loadSum (s : State) (l : List BeamCfg) : Nat × Nat := l.foldl (fun a c => fracAdd a (s.cfgLoad c)) (0, 1)

/-- The load in force. -/
def State.loadNow (s : State) : Nat × Nat := s.loadSum ((s.beams.filter (fun e => e.2.on)).map (fun e => s.cfgNow e.1))

/-- Show the load in force. -/
def State.showLoad (s : State) : State := s.wn BFM_LOAD (loadUnits s.loadNow)

/-- The beams that a list of staged changes concerns, besides those in force. -/
def State.beamsOf (s : State) (l : List Staged) : List Nat :=
  ((s.beams.filter (fun e => e.2.on)).map (fun e => e.1) ++ l.filterMap (fun x => match x.unit with
    | .beam b => some b
    | _ => none)).eraseDups

/-- The configuration of a beam at a Meridian time, with the staged changes of `l`. -/
def State.cfgAt (s : State) (l : List Staged) (b : Nat) (t : Int) : BeamCfg :=
  let due := l.filter (fun x => x.unit == .beam b && decide (s.gridInstant x.grid x.index ≤ t))
  let base : Int × BeamCfg := (-1, if (s.beam b).on then s.cfgNow b else { words := [], members := [] })
  (due.foldl (fun a x =>
    let u := s.gridInstant x.grid x.index
    if a.1 ≤ u then (u, stagedCfg x) else a) base).2

/-- The greatest load that the beams satisfying `p` reach now or at a pending boundary, in units of 10^9 rounded up. -/
def State.peakLoad (s : State) (l : List Staged) (p : Nat → Bool) : Nat :=
  let bs := (s.beamsOf l).filter p
  let ts := s.mt :: (l.filterMap (fun x => match x.unit with
    | .beam _ => some (s.gridInstant x.grid x.index)
    | _ => none))
  ts.foldl (fun a t => max a (loadUnits (s.loadSum (bs.map (fun b => s.cfgAt l b t))))) 0

/-! ## Committing (R230) -/

/-- Check 1: the fields of a beam of borough t lie within their ranges; its queues are stream-out queues of its borough (R240).
A disabled beam may have `CH_COUNT` 0, its reset value (DEDUCED, log entry 22). -/
def State.beamFieldsOk (s : State) (t : Nat) (c : BeamCfg) : Bool :=
  let w := c.w
  bits (w 0) 30 28 == 0 && (!c.en || decide (1 ≤ c.count)) && decide (c.count ≤ 16384) && bits (w 1) 16 14 == 0
    && decide (bits (w 2) 31 28 ≤ 14) && decide (bits (w 2) 27 22 ≤ 47) && bits (w 2) 21 20 != 3 && bits (w 2) 19 16 == 0
    && !bit (w 2) 14 && bits (w 3) 31 16 == 0 && !bit (w 3) 14
    && s.routeOk (bit (w 2) 15) (bits (w 2) 13 0) t && s.routeOk (bit (w 3) 15) (bits (w 3) 13 0) t
    && decide (bits (w 4) 12 8 ≤ 16) && (!bit (w 4) 31 || bits (w 4) 7 0 != 0) && bits (w 5) 12 0 == 0
    && bits (w 6) 31 30 != 3 && decide (bits (w 6) 22 18 ≤ 20) && decide (bits (w 6) 17 16 ≤ 1) && bits (w 6) 9 0 == 0
    && bits (w 7) 9 5 == 0

/-- Check 5: the chain fields name an existing sheet. -/
def chainFieldsOk (c : BeamCfg) : Bool :=
  (!bit (c.w 4) 31 || decide (bits (c.w 4) 30 25 < 40)) && (!bit (c.w 5) 31 || decide (bits (c.w 5) 30 25 < 40))

/-- Check 4: the weight run lies within the store. -/
def weightsOk (c : BeamCfg) : Bool := decide (bits (c.w 0) 15 0 * 16384 + c.weights ≤ 65536 * 16384)

/-- The first beam of a list that fails a check. -/
def firstBad (l : List (Nat × BeamCfg)) (p : BeamCfg → Bool) : Option Nat := (l.find? (fun e => !p e.2)).map (fun e => e.1)

/-- The grid on which a range of beams changes: that of its enabled beams, otherwise that of a beam in force. -/
def State.rangeGrid (s : State) (l : List (Nat × BeamCfg)) : Option Nat :=
  match l.find? (fun e => e.2.en) with
  | some e => some e.2.grid
  | none => (l.find? (fun e => (s.beam e.1).on)).map (fun e => (s.cfgNow e.1).grid)

/-- The staged changes of a range at boundary k of grid g. -/
def rangeStaged (g k action : Nat) (l : List (Nat × BeamCfg)) : List Staged :=
  l.map (fun e => ⟨.beam e.1, g, k, action, cfgVals e.1 e.2, .fields⟩)

/-- The checks of R230 on a range of configurations, for borough t and boundary k of grid g: code and failing beam. -/
def State.beamChecks (s : State) (t first last g k : Nat) (l : List (Nat × BeamCfg)) : Nat × Nat :=
  let en := l.filter (fun e => e.2.en)
  let st := s.staged.filter (fun x => match x.unit with
    | .beam b => !(decide (first ≤ b) && decide (b ≤ last))
    | _ => true)
  let next := st ++ rangeStaged g k 0 l
  if last < first then (1, first)
  else match firstBad l (s.beamFieldsOk t) with
  | some b => (1, b)
  | none => match firstBad en (s.inputsOk t k) with
  | some b => (2, b)
  | none => match firstBad en (fun c => c.grid == g) with
  | some b => (3, b)
  | none => match firstBad l weightsOk with
  | some b => (4, b)
  | none => match firstBad l chainFieldsOk with
  | some b => (5, b)
  | none =>
    if s.rn BFM_CAP < s.peakLoad next (fun _ => true) then (6, first)
    else if t ≠ 0 && decide (s.get (BRG_BEAMCAP_V t) < s.peakLoad next (fun b => s.beamBorough b == t)) then (6, first)
    else match l.find? (fun e => s.stageFull (.beam e.1) k) with
    | some e => (7, e.1)
    | none => (0, 0)

/-- Show a beam's state: off, pending (a change staged), on. -/
def State.showBeam (s : State) (b : Nat) : State :=
  s.put (BFM_BSTAT0_STATE b) (if s.staged.any (fun x => x.unit == .beam b) then 1 else if (s.beam b).on then 2 else 0)

/-- Put a range of configurations in force at once: no enabled beam and none in force, so no grid (R230; DESIGN
CHOICE, log entry 22). -/
def State.forceRange (s : State) (l : List (Nat × BeamCfg)) : State :=
  l.foldl (fun s e => s.forceVals (descVals (cfgVals e.1 e.2))) s

/-- Stage a range of configurations. -/
def State.stageRange (s : State) (g k action : Nat) (l : List (Nat × BeamCfg)) : State :=
  (rangeStaged g k action l).foldl (fun s x => (s.stage x).showBeam x.unit.inst) s

/-- The range of beams first to last as their shadows give it. -/
def State.shadowRange (s : State) (first last : Nat) : List (Nat × BeamCfg) :=
  (List.range (last + 1 - first)).map (fun i => (first + i, s.cfgShadow (first + i)))

/-- BFM_COMMIT (R230): snapshot, check and stage the beams of `BFM_RANGE`; a closed domain refuses it (R629). -/
def State.commitBeams (s : State) : State :=
  let first := s.get BFM_RANGE_FIRST
  let last := s.get BFM_RANGE_LAST
  let l0 := s.shadowRange first last
  let g := s.rangeGrid l0
  let k := s.boundaryAt (g.getD 0) (s.mt + stageLead)
  let l := l0.map (fun e => (e.1, s.cfgAtIdx k e.2))
  let c := s.beamChecks 0 first last (g.getD 0) k l
  if !s.awake 81 then s.refuseDom 81
  else if c.1 ≠ 0 then (s.put BFM_STAT_CODE c.1).put BFM_STAT_BEAM c.2
  else
    let s1 := (s.put BFM_STAT_CODE 0).put BFM_STAT_BEAM 0
    match g with
    | none => s1.forceRange l
    | some g => s1.stageRange g k commitAction l

/-- BFM_COMMIT (R230): a write of `BFM_CTL` by physical function 0. -/
def execBfmCommit (w : Wr) (s : State) : Host.Outcome State Fault Refusal :=
  .next (s.pfOnly w BFM_CTL.key (fun s => if w.hits 0 then s.commitBeams else s))

/-! ## Beams in force -/

/-- The output path of a beam in force (R240); a beam whose borough is reset has none (R578). -/
def State.beamCfg (s : State) (b : Nat) : PathCfg :=
  let on := !(s.beam b).mute
  let w2 := s.desc b 2
  let w3 := s.desc b 3
  { src := b, beam := true, grid := (s.beam b).grid, chFirst := bits (s.desc b 1) 13 0, chCount := bits (s.desc b 1) 31 17,
    ctl := s.desc b 6, rq := s.desc b 7, hist := 0, vq := if on && bit w2 15 then some (bits w2 13 0) else none,
    pq := if on && bit w3 15 then some (bits w3 13 0) else none, vg := [], pg := [], real := false }

/-- Whether a member of a beam of borough t meets check 2 at boundary k (R232). -/
def State.memberOk (s : State) (t k : Nat) (c : BeamCfg) (n : Nat) : Bool :=
  (s.slot n).on && (s.slot n).boundGrid == c.grid && (s.chanStruct n (s.slotAt n k)).take 2 == c.chan.take 2
    && selCovers (s.slotAt n k) c && s.memberGranted t n

/-- The members that leave beam b at boundary k, MEMBER_LEFT for each, and those that rejoin it (R232). -/
def State.checkMembers (s : State) (k b : Nat) : State :=
  let x := s.beam b
  let c := s.cfgNow b
  let out := c.members.filter (fun n => !s.memberOk (s.beamBorough b) k c n)
  let fresh := out.filter (fun n => !x.left.contains n)
  let back := x.left.filter (fun n => !out.contains n)
  let y := { x with left := out, leaves := x.leaves ++ fresh.map (fun n => (n, k, true)) ++ back.map (fun n => (n, k, false)) }
  fresh.foldl (fun s (n : Nat) => s.raise evBFM_MEMBER_LEFT b [.w4 n]) (s.setBeam b y)

/-- Emit a beam's items in progress short. -/
def State.beamEndItems (s : State) (b : Nat) : State :=
  let r := s.pathEnd (s.beamCfg b) (s.beam b).path
  r.1.setBeam b { r.1.beam b with path := r.2 }

/-- The output of beam b takes a configuration at grid index k (R230): an enabled beam starts with the first spectrum whose label is
at or after k; a disabled one ends, its last items are short and its chain buffer is emptied. -/
def State.beamTake (s : State) (b k : Nat) (x : Staged) : State :=
  let c := stagedCfg x
  if !c.en then
    let s1 := (if (s.beam b).run then s.beamEndItems b else s).forceVals (descVals x.vals)
    let y := s1.beam b
    { s1.setBeam b { on := y.on, marks := y.marks, left := y.left, leaves := y.leaves } with
      partials := s1.partials.filter (fun p => p.beam != b) }
  else
    let s1 := s.forceVals (descVals x.vals)
    let y := s1.beam b
    let z := { y with run := true, grid := c.grid, members := c.members, chan := c.chan, nextJ := ceilDiv k (chanStep c.chan) }
    if y.run then s1.setBeam b z else (s1.setBeam b z).wr64 (BFM_GAPS_LO b) (BFM_GAPS_HI b) 0

/-- Beam b's frame record at a boundary: the least members used over the frame and the count of CHAIN_GAP spectra. What a beam's
record holds as tracking state, Δ and GAP samples, and as least use of a frame without spectra, is not stated: free values (log
entry 20). -/
def State.beamFrame (s : State) (b : Nat) (m : BeamMark) : State :=
  let x := s.beam b
  let tr := s.draw 8
  let d := tr.2.draw (2 ^ 50)
  let g := d.2.draw (2 ^ 32)
  let u := g.2.draw 1025
  let used := x.frameUsed.getD u.1
  let r := u.2.frameItem (u.2.beamCfg b) x.path m.frame tr.1 m.tstate m.coarse
    (leBytes 8 d.1 ++ leBytes 4 g.1 ++ leBytes 4 used ++ leBytes 4 x.frameGaps)
  r.1.setBeam b { r.1.beam b with path := r.2, frameUsed := none, frameGaps := 0 }

/-- The output of beam b reaches a boundary (R215, R230): its changes take effect, and its frame record follows. -/
def State.passBeam (s : State) (b : Nat) (m : BeamMark) : State :=
  let s1 := m.changes.foldl (fun s x => s.beamTake b m.k x) s
  if m.record && (s1.beam b).run then s1.beamFrame b m else s1

/-- Whether the output of a beam has reached a boundary: every spectrum labelled before it is summed and has gone out. -/
def Beam.reached (x : Beam) (k : Nat) : Bool :=
  !x.run || (decide (k ≤ x.nextJ * chanStep x.chan) && x.waits.all (fun w => decide (k ≤ w.j * chanStep x.chan)))

/-- The memberships that a beam's sums have still to read: of those of one member, the last that has come in force and the later
ones. -/
def Beam.leavesLeft (x : Beam) : List (Nat × Nat × Bool) :=
  let now := x.nextJ * chanStep x.chan
  x.leaves.filter (fun e => !x.leaves.any (fun f => f.1 == e.1 && decide (e.2.1 < f.2.1) && decide (f.2.1 ≤ now)))

/-- The output of beam b passes the boundaries that it has reached. -/
def State.settleMarksOf (s : State) (b : Nat) : Nat → State
  | 0 => s
  | fuel + 1 =>
    let x := s.beam b
    match x.marks with
    | [] => s
    | m :: r => if x.reached m.k then ((s.setBeam b { x with marks := r }).passBeam b m).settleMarksOf b fuel else s

/-- Let the output of beam b pass every boundary that it has reached. -/
def State.settleBeam (s : State) (b : Nat) : State :=
  let x := s.beam b
  (s.setBeam b { x with leaves := x.leavesLeft }).settleMarksOf b x.marks.length

/-- Put a boundary before the output of beam b, or add to the one that stands there already. -/
def State.addBeamMark (s : State) (b : Nat) (m : BeamMark) : State :=
  let x := s.beam b
  if x.marks.any (fun y => y.k == m.k) then
    s.setBeam b { x with marks := x.marks.map (fun y => if y.k = m.k then
      { y with changes := y.changes ++ m.changes, record := y.record || m.record } else y) }
  else s.setBeam b { x with marks := x.marks ++ [m] }

/-- The entry of boundary k of grid g for the output of a beam. -/
def State.beamMark (s : State) (g k : Nat) (record : Bool) (l : List Staged) : BeamMark :=
  { k := k, frame := k / s.frameLen g, tstate := s.tstate, coarse := s.get TB_STATUS_COARSE, record := record, changes := l }

/-- A change of a beam takes effect at grid index k (R230), with the structure that its members have there; the change itself is no
longer staged. -/
def State.applyBeam (s : State) (b k : Nat) (x : Staged) : State :=
  let c := s.cfgAtIdx k (stagedCfg x)
  let y := s.beam b
  let s1 := s.setBeam b { y with on := c.en, left := [], leaves := y.leaves ++ y.left.map (fun n => (n, k, false)) }
  (((s1.addBeamMark b (s1.beamMark x.grid k false [{ x with vals := cfgVals b c }])).checkMembers k b).showBeam b).showLoad

/-- The change that disables a beam: its descriptor with `EN` = 0, and no members. -/
def BeamCfg.off (c : BeamCfg) : BeamCfg := { words := c.words.set 0 (setBits (c.w 0) 31 31 0), members := [], grid := c.grid }

/-- A beam is shed at boundary k (R235): disabled, `SHED` set, BEAM_SHED with its policy record. -/
def State.shedBeam (s : State) (b k : Nat) (pol : Bool) : State :=
  let c := (s.cfgNow b).off
  let s1 := (s.applyBeam b k ⟨.beam b, c.grid, k, hubAction, cfgVals b c, .fields⟩).put (BFM_BSTAT0_SHED b) 1
  s1.raise evBFM_BEAM_SHED b (if pol then policyDetail 6 evBFM_BMAC_FAIL.code b 65535 else []) 0 pol pol

/-- Disable the beams of a list, highest-numbered first, until the load fits (R235). -/
def State.shedTo (s : State) (k : Nat) (pol : Bool) : List Nat → State
  | [] => s
  | b :: r => if s.rn BFM_CAP < loadUnits s.loadNow then (s.shedBeam b k pol).shedTo k pol r else s

/-- The beams in force on grid g, from the highest-numbered down. -/
def State.beamsOn (s : State) (g : Nat) : List Nat :=
  ((s.beams.filter (fun e => e.2.on && (s.cfgNow e.1).grid == g)).map (fun e => e.1)).reverse

/-! ## Sums (R228, R229, R233, R234) -/

/-- Count saturations of a beam (R245). -/
def State.beamSat (s : State) (b clips : Nat) : State :=
  if clips = 0 then s else (s.bump (BFM_BSAT b) clips).put (BFM_BSTAT0_SAT_SEEN b) 1

/-- The weight of group g and rank m of beam b (R227): real and imaginary part. -/
def State.weight (s : State) (b g m : Nat) : Int × Int :=
  let w := (s.tab (2 * 2 ^ 40 + 4 * (bits (s.desc b 0) 15 0 * 16384 + g * (s.beam b).members.length + m))).toNat
  (sext 16 (w / 65536), sext 16 (w % 65536))

/-- The spectrum of slot n with index j and step m, where it is kept. -/
def State.spectrumOf (s : State) (n j m : Nat) : Option Spectrum := (s.slot n).spectra.find? (fun y => y.j == j && y.step == m)

/-- One member's product for channel c of a beam (R228). -/
def State.memberTerm (s : State) (b c m : Nat) (y : Spectrum) : Int × Int :=
  let x := y.vals.getD (c - y.first) (0, 0)
  let w := s.weight b ((c - bits (s.desc b 1) 13 0) / 2 ^ bits (s.desc b 2) 31 28) m
  (w.1 * x.1 - w.2 * x.2, w.1 * x.2 + w.2 * x.1)

/-- Whether a member has left a beam for the spectra labelled from grid index k on (R232). -/
def Beam.leftAt (x : Beam) (n k : Nat) : Bool :=
  (((x.leaves.filter (fun e => e.1 == n && decide (e.2.1 ≤ k))).getLast?).map (fun e => e.2.2)).getD false

/-- The members of beam b that have a spectrum of index j: rank, spectrum, and whether the member has left by its label; `none` while
one that has not left has still to arrive. A member whose output starts after the label has none (DESIGN CHOICE, log entry 71). -/
def State.memberSpectra (s : State) (b j : Nat) : Option (List (Nat × Spectrum × Bool)) :=
  let x := s.beam b
  let m := chanStep x.chan
  (x.members.zip (List.range x.members.length)).foldr (fun e a =>
    let out := x.leftAt e.1 (j * m)
    let y := s.slot e.1
    match a, s.spectrumOf e.1 j m with
    | some l, some z => some ((e.2, z, out) :: l)
    | some l, none => if out || !y.run || decide (j < y.nextJ) then some l else none
    | none, _ => none) (some [])

/-- One component of a beam value: A saturated at 48 bits, shifted, rounded, saturated to 32 bits; the saturations. -/
def beamComp (w2 : Nat) (a : Int) : Int × Nat :=
  let x := satS 48 a
  let y := satS 32 (roundAs (bits w2 21 20) x.1 (bits w2 27 22))
  (y.1, b2n x.2 + b2n y.2)

/-- The partial-sum flits of a beam value (R466), at most 26 channels each. -/
def partialFlits (stream j grid flags first count : Nat) (vals : List (Int × Int)) : List TxFlit :=
  (List.range (ceilDiv count 26)).map (fun i =>
    let part := (vals.drop (26 * i)).take 26
    { type := 0x11, stream := stream, first := i == 0, last := decide (count ≤ 26 * (i + 1)),
      data := leBytes 8 j ++ leBytes 1 grid ++ leBytes 1 0 ++ leBytes 2 flags ++ leBytes 2 first ++ leBytes 2 count
        ++ leBytes 2 (26 * i) ++ leBytes 2 part.length ++ leBytes 4 0
        ++ part.flatMap (fun v => leBytes 4 (toBits 32 v.1) ++ leBytes 4 (toBits 32 v.2)) })

/-- A beam value goes out: chained on where `COUT_EN` is set (R234), then into the reducer. -/
def State.beamOut (s : State) (b : Nat) (y : Spectrum) (used : Nat) : State :=
  let w5 := s.desc b 5
  let p := s.beamCfg b
  let s1 := if bit w5 31 then s.sendTx (bits w5 30 25)
    (partialFlits (bits w5 24 13) y.j p.grid y.flags p.chFirst p.chCount y.vals) else s
  let r := s1.pathTake p (s1.beam b).path y used
  let x := r.1.1.beam b
  (r.1.1.setBeam b { x with path := r.1.2, frameUsed := some (match x.frameUsed with
    | none => used
    | some u => min u used) }).beamSat b r.2

/-- The beam value of a spectrum whose wait is over (R228, R229, R233). -/
def State.finishSum (s : State) (b : Nat) (x : BeamWait) : State :=
  let n := x.sums.length
  if x.gap then
    let y := s.beam b
    let s1 := ((s.wr64 (BFM_GAPS_LO b) (BFM_GAPS_HI b) (s.rd64 (BFM_GAPS_LO b) (BFM_GAPS_HI b) + 1)).put
      (BFM_BSTAT0_GAP_SEEN b) 1).setBeam b { y with gapRun := true, frameGaps := y.frameGaps + 1 }
    let s2 := if y.gapRun then s1 else s1.raise evBFM_CHAIN_GAP b [.w8 x.j]
    s2.beamOut b { j := x.j, vals := List.replicate n (0, 0), flags := x.flags ||| 16 } x.used
  else
    let s1 := s.setBeam b { s.beam b with gapRun := false }
    let sh := bits (s.desc b 4) 12 8
    let pv := x.parts.getD ([], 0)
    let fl := x.flags ||| pv.2
    if x.used = 0 then s1.beamOut b { j := x.j, vals := List.replicate n (0, 0), flags := fl } 0
    else
      let vs := (x.sums.zip (List.range n)).map (fun e =>
        let q := pv.1.getD e.2 (0, 0)
        (beamComp (s.desc b 2) (e.1.1 + q.1 * 2 ^ sh), beamComp (s.desc b 2) (e.1.2 + q.2 * 2 ^ sh)))
      let clips := vs.foldl (fun a e => a + e.1.2 + e.2.2) 0
      (s1.beamSat b clips).beamOut b { j := x.j, vals := vs.map (fun e => (e.1.1, e.2.1)), flags := flagSat clips fl } x.used

/-- Whether the link of a beam's outgoing partials holds its output: flits of its stream wait there for credit (R234). -/
def State.chainHeld (s : State) (b : Nat) : Bool :=
  let w5 := s.desc b 5
  bit w5 31 && (mapGet [] (bits w5 30 25) s.spxTx).any (fun f => f.type == 0x11 && f.stream == bits w5 24 13)

/-- Finish the spectra of a beam, oldest first, up to the first that still waits or that its link holds. -/
def State.finishSums (s : State) (b : Nat) : List BeamWait → State
  | [] => s
  | x :: r =>
    if (x.gap || x.parts.isSome) && !s.chainHeld b then
      ((s.setBeam b { s.beam b with waits := r }).finishSum b x).finishSums b r
    else s

/-- The spectra of beam b that can go out do so, and the output passes the boundaries that it reaches. -/
def State.beamGoes (s : State) (b : Nat) : State := (s.finishSums b (s.beam b).waits).settleBeam b

/-- The beams whose output the sheet's link has held go on (R234). -/
def State.beamsResume (s : State) (sheet : Nat) : State :=
  s.beams.foldl (fun (s : State) e =>
    if e.2.run && !e.2.waits.isEmpty && bit (s.desc e.1 5) 31 && bits (s.desc e.1 5) 30 25 == sheet then s.beamGoes e.1 else s) s

/-- Whether beam b may sum its next spectrum: its label has come, and no change of the beam takes effect before it. -/
def State.sumDue (s : State) (b : Nat) : Bool :=
  let x := s.beam b
  let k := x.nextJ * chanStep x.chan
  x.run && s.isSet CLK_STAT_CORE_LOCK && decide (k < mapGet 0 x.grid s.gridNext * s.frameLen x.grid)
    && decide (s.gridInstant x.grid k ≤ s.mt) && !x.marks.any (fun m => m.changes != [] && decide (m.k ≤ k))

/-- The sums of one spectrum of beam b over its members' spectra (R228, R229), with the wait for the chained partial (R233). -/
def State.beamWait (s : State) (b : Nat) (l : List (Nat × Spectrum × Bool)) : BeamWait :=
  let j := (s.beam b).nextJ
  let excl := bits (s.desc b 0) 19 16
  let use := l.filter (fun e => !e.2.2 && !excluded excl e.2.1.flags)
  let first := bits (s.desc b 1) 13 0
  let found := s.partials.find? (fun p => p.beam == b && p.j == j % 2 ^ 64)
  { j := j, sums := (List.range (bits (s.desc b 1) 31 17)).map (fun i =>
      use.foldl (fun (a : Int × Int) e =>
        let t := s.memberTerm b (first + i) e.1 e.2.1
        (a.1 + t.1, a.2 + t.2)) (0, 0)),
    flags := (if use.isEmpty then l else use).foldl (fun a e => a ||| e.2.1.flags) 0, used := use.length,
    ends := s.mt + ((bits (s.desc b 4) 7 0 * mtUs : Nat) : Int), gap := false,
    parts := if bit (s.desc b 4) 31 then found.map (fun p => (p.sums, p.flags)) else some ([], 0) }

/-- BEAM_SUM (R228, R229): every member's spectrum of the next index is ready; the sums are formed and pass on, or wait for
the chained partial (R233). -/
def execBeamSum (b : Nat) (s : State) : Host.Outcome State Fault Refusal :=
  let x := s.beam b
  match s.memberSpectra b x.nextJ with
  | none => .next s
  | some l =>
    if !s.sumDue b then .next s
    else
      let s1 := { s.setBeam b { x with nextJ := x.nextJ + 1, waits := x.waits ++ [s.beamWait b l] } with
        partials := s.partials.filter (fun p => !(p.beam == b && p.j == x.nextJ % 2 ^ 64)) }
      .next (s1.beamGoes b)

/-- CHAIN_WAIT_EXPIRY (R233): the spectra of beam b whose wait has ended without a partial become GAP placeholders. -/
def execChainWaitExpiry (b : Nat) (s : State) : Host.Outcome State Fault Refusal :=
  let x := s.beam b
  let l := x.waits.map (fun w => if w.parts.isNone && decide (w.ends ≤ s.mt) then { w with gap := true } else w)
  .next ((s.setBeam b { x with waits := l }).beamGoes b)

/-- The configuration that beam b has for the spectrum of index j, taken modulo 2^64 (R25). -/
def State.cfgOfLabel (s : State) (b j : Nat) : BeamCfg :=
  (s.beam b).marks.foldl (fun c m => m.changes.foldl (fun c x =>
    let d := stagedCfg x
    if d.en && decide (m.k % 2 ^ 64 ≤ j * chanStep d.chan % 2 ^ 64) then d else c) c) (s.cfgForce b)

/-- A whole partial arrives for beam b (R233), its index modulo 2^64 (R25): late or duplicate ones are discarded and counted, those
of another grid or channel range are discarded with CHAIN_MISMATCH, the others are added or kept in the chain buffer. -/
def State.takePartial (s : State) (b j grid first count flags : Nat) (vals : List (Int × Int)) : State :=
  let x := s.beam b
  let c := s.cfgOfLabel b j
  let w := x.waits.find? (fun w => w.j % 2 ^ 64 == j)
  let dup := s.partials.any (fun p => p.beam == b && p.j == j) || (match w with
    | some w => w.gap || w.parts.isSome
    | none => false)
  let ahead := (j + 2 ^ 64 - x.nextJ % 2 ^ 64) % 2 ^ 64
  if dup || (w.isNone && x.run && decide (2 ^ 63 ≤ ahead)) then s.bump (BFM_CHAIN_LATE b)
  else if grid ≠ c.grid || first ≠ bits (c.w 1) 13 0 || count ≠ c.count then s.raise evBFM_CHAIN_MISMATCH b [.w8 j]
  else match w with
  | none => { s with partials := s.partials ++ [⟨b, j, vals, flags⟩] }
  | some _ =>
    let l := x.waits.map (fun w => if w.j % 2 ^ 64 = j then { w with parts := some (vals, flags) } else w)
    (s.setBeam b { x with waits := l }).beamGoes b

/-- The beams in force that chain in a stream of a sheet. -/
def State.chainBeams (s : State) (sheet stream : Nat) : List Nat :=
  (s.beams.filter (fun e => (s.beamCfgs e.1).any (fun c => c.en && bit (c.w 4) 31 && bits (c.w 4) 30 25 == sheet
    && bits (c.w 4) 24 13 == stream))).map (fun e => e.1)

/-! ## MAC arrays (R235) -/

/-- The grids with beams in force. -/
def State.beamGrids (s : State) : List Nat :=
  (List.range 8).filter (fun g => s.beams.any (fun e => e.2.on && (s.cfgNow e.1).grid == g))

/-- MAC array a is retired and no spare takes its place (R235): C falls, and beams are shed at the next boundaries. -/
def State.bmacGone (s : State) (a : Nat) (pol : Bool) : State :=
  let s1 := ({ s with bmacShed := some (a, pol) }.put (BFM_ARRAY_STATE a) 3).wn BFM_CAP (s.rn BFM_CAP - 2500)
  (if pol then s1.policyLog evBFM_BMAC_FAIL a (policyDetail 6 evBFM_BMAC_FAIL.code a 65535) else s1).spareExhausted 6 a

/-- The spare array takes over from array a, where it is still sound. -/
def State.bmacSwitch (s : State) (a : Nat) (pol : Bool) : State :=
  match (List.range 17).find? (fun i => s.get (BFM_ARRAY_STATE i) == 1) with
  | none => s.bmacGone a pol
  | some sp =>
    let s1 := ((s.put (BFM_ARRAY_STATE sp) 0).put (BFM_ARRAY_STATE a) 3).useSpare 6 a
    s1.raise evBFM_BMAC_RETIRED a (if pol then policyDetail 6 evBFM_BMAC_FAIL.code a sp else [.w4 sp]) 0 pol pol

/-- Whether array a, failing, is the spare: more arrays are sound or failing than C counts (log entry 70). -/
def State.bmacIdle (s : State) (a : Nat) : Bool :=
  a == 16 && decide (s.rn BFM_CAP / 2500 < countIf (fun i => s.get (BFM_ARRAY_STATE i) == 0 || s.get (BFM_ARRAY_STATE i) == 2)
    (List.range 17))

/-- A MAC array leaves service (R235): the spare takes over at the next boundary of each grid with beams, or, with no
spare, the array is retired and C falls. A failing spare serves nothing and is only retired. -/
def State.retireBmac (s : State) (a : Nat) (pol : Bool) : State :=
  if s.bmacIdle a then s.put (BFM_ARRAY_STATE a) 3
  else if 0 < s.sparesLeft 6 && s.bmacSwaps.isEmpty then
    if s.beamGrids.isEmpty then s.bmacSwitch a pol else { s with bmacSwaps := [⟨a, s.beamGrids, pol⟩] }
  else s.bmacGone a pol

/-- BMAC_FAIL (R235): array a, in service or spare, fails its self-test. A spare that fails is no spare any longer (DESIGN CHOICE, log
entry 70). -/
def execBmacFail (a : Nat) (s : State) : Host.Outcome State Fault Refusal :=
  let st := s.get (BFM_ARRAY_STATE a)
  if 17 ≤ a || 2 ≤ st then .next s
  else
    let s1 := (s.put (BFM_ARRAY_STATE a) 2).raise evBFM_BMAC_FAIL a
    if st = 1 then .next (s1.put (PWR_SPARE_LEFT 6) 0)
    else .next (if s1.armed 6 then s1.retireBmac a true else s1)

/-- At boundary k of grid g: arrays whose last grid this is change, and beams are shed until the load fits (R235). -/
def State.bmacBoundary (s : State) (g k : Nat) : State :=
  let l := s.bmacSwaps.map (fun x => { x with grids := x.grids.filter (fun y => y != g) })
  let done := l.filter (fun x => x.grids.isEmpty)
  let s1 := done.foldl (fun s x => s.bmacSwitch x.array x.policy)
    { s with bmacSwaps := l.filter (fun x => !x.grids.isEmpty) }
  s1.shedTo k ((s1.bmacShed.map (fun x => x.2)).getD false) (s1.beamsOn g)

/-! ## Ends of integrations and items -/

/-- Emit the integration and the histogram of a path whose last spectrum lies before index `next` (R236, R237). -/
def State.endIndices (s : State) (p : PathCfg) (x : OutPath) (next : Nat) : State × OutPath :=
  let a := match x.integ with
    | some i => if (i.i + 1) * 2 ^ bits p.ctl 22 18 ≤ next then s.closeInteg p x else (s, x)
    | none => (s, x)
  match a.2.histo with
  | some h => if (h.h + 1) * 2 ^ bits p.hist 26 22 ≤ next then a.1.closeHisto p a.2 else a
  | none => a

/-- INTEGRATION_END (R236, R237): the last spectrum of an integration or histogram of slot n, or of beam n, has been taken;
the reducer emits its item. -/
def execIntegrationEnd (n : Nat) (ofBeam : Bool) (s : State) : Host.Outcome State Fault Refusal :=
  if ofBeam then
    let x := s.beam n
    let next := match x.waits.head? with
      | some w => w.j
      | none => x.nextJ
    let r := s.endIndices (s.beamCfg n) x.path next
    .next (r.1.setBeam n { r.1.beam n with path := r.2 })
  else
    let x := s.slot n
    let r := s.endIndices (s.slotCfg n) x.path x.nextJ
    .next (r.1.setSlot n { r.1.slot n with path := r.2 })

/-- ITEM_COMPLETE (R239): the oldest complete item is handed to its queue. -/
def execItemComplete (s : State) : Host.Outcome State Fault Refusal := .next s.handItem

end Sys2Proof.Machine
end

