-- ==== Sys2Proof/Machine/Contour.lean ====
section
/-! DEFINITION. Contour coding and tiles to the bit: the header, the sample-mode encoder and decoder, and the decoder of
record mode (R317 to R329, R333, R340). -/
namespace Sys2Proof.Machine

/-! ## Bits -/

/-- The bits of bytes, most significant first (R324). -/
def bitsMsb (l : List Byte) : List Bool :=
  l.flatMap (fun b => (List.range 8).map (fun i => bit b.toNat (7 - i)))

/-- The bits of bytes, least significant first (R333, RFC 1951). -/
def bitsLsb (l : List Byte) : List Bool := l.flatMap (fun b => (List.range 8).map (fun i => bit b.toNat i))

/-- Pack bits into bytes, most significant first, zero bits at the end (R328). -/
def packMsb : List Bool → List Byte
  | [] => []
  | a :: b :: c :: d :: e :: f :: g :: h :: r =>
    BitVec.ofNat 8 (128 * b2n a + 64 * b2n b + 32 * b2n c + 16 * b2n d + 8 * b2n e + 4 * b2n f + 2 * b2n g + b2n h)
      :: packMsb r
  | l => [BitVec.ofNat 8 ((l ++ List.replicate (8 - l.length) false).foldl (fun a b => 2 * a + b2n b) 0)]

/-- The low n bits of a number, most significant first. -/
def natBits (n v : Nat) : List Bool := (List.range n).map (fun i => bit v (n - 1 - i))

/-- Take an n-bit field, most significant bit first. -/
def takeMsb : Nat → Nat → List Bool → Option (Nat × List Bool)
  | 0, acc, l => some (acc, l)
  | _ + 1, _, [] => none
  | n + 1, acc, b :: r => takeMsb n (2 * acc + b2n b) r

/-- Take an n-bit field, least significant bit first. -/
def takeLsb : Nat → Nat → Nat → List Bool → Option (Nat × List Bool)
  | 0, _, acc, l => some (acc, l)
  | _ + 1, _, _, [] => none
  | n + 1, w, acc, b :: r => takeLsb n (2 * w) (acc + w * b2n b) r

/-! ## Prediction and Rice codes (R326, R327) -/

/-- The prediction of order q from the history, newest first. -/
def predict (q : Nat) (h : List Int) : Int :=
  match q with
  | 0 => 0
  | 1 => h.getD 0 0
  | 2 => 2 * h.getD 0 0 - h.getD 1 0
  | _ => 3 * h.getD 0 0 - 3 * h.getD 1 0 + h.getD 2 0

/-- The unsigned map of a residual. -/
def zigzag (e : Int) : Nat := if e < 0 then (-2 * e - 1).toNat else (2 * e).toNat

/-- A residual from its unsigned map. -/
def unzig (u : Nat) : Int := if u % 2 = 0 then (u / 2 : Nat) else -((u / 2 + 1 : Nat) : Int)

/-- Bits of a Rice code of parameter k. -/
def riceLen (k u : Nat) : Nat := u / 2 ^ k + 1 + k

/-- A Rice code of parameter k. -/
def riceCode (k u : Nat) : List Bool := List.replicate (u / 2 ^ k) true ++ [false] ++ natBits k (u % 2 ^ k)

/-- The mapped residuals of values from instant n on, under order o, with the history behind them. -/
def residuals (o : Nat) : Nat → List Int → List Int → List Nat
  | _, _, [] => []
  | n, h, v :: r => zigzag (v - predict (min o n) h) :: residuals o (n + 1) (v :: h.take 2) r

/-! ## The encoder (R329) -/

/-- The k from 0 to 20 of the fewest bits with every unary run below 32; ties go to the lower k. -/
def bestK (us : List Nat) : Nat × Nat :=
  let c := (List.range 21).filterMap (fun k =>
    if us.all (fun u => decide (u / 2 ^ k < 32)) then some ((us.map (riceLen k)).foldl (· + ·) 0, k) else none)
  c.foldl (fun a b => if b.1 < a.1 then b else a) (c.headD (0, 20))

/-- The coding of a partition's values on a channel: order and code K. -/
def chooseCode (w policy n : Nat) (h vals : List Int) : Nat × Nat :=
  if vals.isEmpty then (0, 30)
  else
    let orders := if policy = 4 then [0, 1, 2, 3] else [policy]
    let c := orders.map (fun o =>
      let us := residuals o n h vals
      if us.all (fun u => u == 0) then (0, o, 30) else let b := bestK us; (b.1, o, b.2))
    let m := c.foldl (fun a b => if b.1 < a.1 then b else a) (c.headD (0, 0, 0))
    if w * vals.length ≤ m.1 then (0, 31) else m.2

/-- One partition of one channel (R324): order, code, the benchmark sample in partition 0, and the coded values. -/
def encodePart (w policy n : Nat) (h vals : List Int) : List Bool :=
  let bench := if n = 0 then natBits w (toBits w (vals.headD 0)) else []
  let h1 := if n = 0 then [vals.headD 0] else h
  let rest := if n = 0 then vals.tail else vals
  let n1 := if n = 0 then 1 else n
  let c := chooseCode w policy n1 h1 rest
  natBits 2 c.1 ++ natBits 5 c.2 ++ bench ++
    (if c.2 = 31 then rest.flatMap (fun v => natBits w (toBits w v))
     else if c.2 = 30 then []
     else (residuals c.1 n1 h1 rest).flatMap (riceCode c.2))

/-- The partitions of a tile from partition p on: for each, every channel. -/
def encodeParts (w policy : Nat) (chans : List (List Int)) : Nat → Nat → List Bool
  | 0, _ => []
  | m + 1, p =>
    chans.flatMap (fun v => encodePart w policy (64 * p) ((v.take (64 * p)).reverse.take 3) ((v.drop (64 * p)).take 64))
      ++ encodeParts w policy chans m (p + 1)

/-- The header of a tile (R317). -/
def tileHeader (mode tflags stream index count : Nat) (orig payload : List Byte) : List Byte :=
  leBytes 2 0x4354 ++ leBytes 1 mode ++ leBytes 1 tflags ++ leBytes 4 stream ++ leBytes 8 index ++ leBytes 4 count
    ++ leBytes 4 orig.length ++ leBytes 4 (crc32c orig) ++ leBytes 4 payload.length

/-- A sample-mode tile (R317 to R328): containers of each channel, low zero bits z, flag words, grid anchor, lead, period,
policy, and the bits SHORT, ENC_FAULT and LAST of `TFLAGS`. -/
def sampleTile (chans : List (List Int)) (z policy slot index lead period : Nat) (flags : List Nat) (tf : Nat) : List Byte :=
  let count := (chans.headD []).length
  let orig := (List.range count).flatMap (fun i => chans.flatMap (fun v => leBytes 2 (toBits 16 (v.getD i 0))))
  let fb := flags.flatMap (leBytes 2)
  let pay := leBytes 1 (chans.length - 1) ++ leBytes 1 z ++ leBytes 2 0 ++ leBytes 2 flags.length ++ leBytes 2 0
    ++ leBytes 8 lead ++ leBytes 8 period ++ fb ++ leBytes 4 (crc32c fb)
    ++ packMsb (encodeParts (16 - z) policy (chans.map (fun v => v.map (fun x => x / (2 ^ z : Nat)))) ((count + 63) / 64) 0)
  tileHeader 1 (if flags.any (fun x => x != 0) then tf ||| 2 else tf) (2 ^ 28 + slot) index count orig pay ++ pay

/-! ## Faults (R318, R340) -/

/-- A fault of a tile: status, detail, and the byte offset of `ERR_OFF`. A detail of 256 is one the spec does not state. -/
structure TileFault where
  status : Nat
  detail : Nat
  off : Nat
  deriving DecidableEq, Repr

/-- A field of a tile: byte offset and width. -/
def tileField (t : List Byte) (o n : Nat) : Nat := leNat ((t.drop o).take n)

/-- The header fault of a tile with `n` bytes at its source, the first in the order of R318. -/
def headerFault (t : List Byte) (n : Nat) : Option TileFault :=
  let g := tileField t
  let mode := g 2 1
  let kind := g 4 4 / 2 ^ 28
  let count := g 16 4
  let olen := g 20 4
  let clen := g 28 4
  let c := g 32 1 + 1
  let f := ceilDiv count 256
  let bound := 28 + 2 * f + ceilDiv (count * c * (16 - g 33 1) + ceilDiv count 64 * c * 7) 8
  if n < 32 then some ⟨5, 6, 0⟩
  else if g 0 2 ≠ 0x4354 then some ⟨5, 1, 0⟩
  else if mode ≠ 1 && mode ≠ 2 then some ⟨5, 2, 2⟩
  else if kind ≠ mode then some ⟨5, 2, 4⟩
  else if 16 ≤ g 3 1 then some ⟨5, 3, 3⟩
  else if bits (g 4 4) 27 14 ≠ 0 then some ⟨5, 3, 4⟩
  else if olen = 0 || 1048576 < olen then some ⟨5, 4, 20⟩
  else if mode = 1 && (count = 0 || 524288 < count) then some ⟨5, 4, 16⟩
  else if mode = 2 && (clen = 0 || 2 * olen + 64 < clen) then some ⟨5, 4, 28⟩
  else if mode = 2 && count ≠ 0xFFFFFFFF && olen ≤ count then some ⟨5, 4, 16⟩
  else if n < 32 + clen then some ⟨5, 6, 28⟩
  else if mode = 2 then none
  else if clen < 24 then some ⟨5, 5, 32⟩
  else if 1 < g 32 1 then some ⟨5, 5, 32⟩
  else if 12 < g 33 1 then some ⟨5, 5, 33⟩
  else if g 34 2 ≠ 0 then some ⟨5, 5, 34⟩
  else if g 36 2 ≠ f then some ⟨5, 5, 36⟩
  else if g 38 2 ≠ 0 then some ⟨5, 5, 38⟩
  else if olen ≠ 2 * c * count then some ⟨5, 4, 20⟩
  else if bound < clen then some ⟨5, 4, 28⟩
  else none

/-! ## The sample-mode decoder (R324 to R328) -/

/-- Where a bitstream stands: the tile offset of the byte that holds the next bit of `l`, of a stream of `total` bits that
starts at byte `base`. -/
def bitOff (base total : Nat) (l : List Bool) : Nat := base + (total - l.length) / 8

/-- Count one-bits up to 32 and their zero-bit: the run and the rest, or a fault (detail). -/
def takeUnary : Nat → Nat → List Bool → Except Nat (Nat × List Bool)
  | 0, _, _ => .error 2
  | _ + 1, _, [] => .error 5
  | _ + 1, q, false :: r => .ok (q, r)
  | n + 1, q, true :: r => takeUnary n (q + 1) r

/-- One coded value at instant n under (o, K): the value and the rest, or a fault detail. -/
def takeValue (w o k n : Nat) (h : List Int) (l : List Bool) : Except Nat (Int × List Bool) :=
  if k = 31 then
    match takeMsb w 0 l with
    | some (v, r) => .ok (sext w v, r)
    | none => .error 5
  else
    let p := predict (min o n) h
    let x : Except Nat (Int × List Bool) :=
      if k = 30 then .ok (p, l)
      else match takeUnary 32 0 l with
        | .error d => .error d
        | .ok (q, r) => match takeMsb k 0 r with
          | some (b, r2) => .ok (p + unzig (q * 2 ^ k + b), r2)
          | none => .error 5
    match x with
    | .error d => .error d
    | .ok (v, r) =>
      if v < -(2 ^ (w - 1) : Nat) || ((2 ^ (w - 1) : Nat) : Int) ≤ v then .error 4 else .ok (v, r)

/-- The coded values of a partition: history (newest first) and the rest, or a fault with its place. -/
def takeValues (w o k base total : Nat) : Nat → Nat → List Int → List Bool → Except TileFault (List Int × List Bool)
  | 0, _, h, l => .ok (h, l)
  | m + 1, n, h, l => match takeValue w o k n h l with
    | .error d => .error ⟨1, d, bitOff base total l⟩
    | .ok (v, r) => takeValues w o k base total m (n + 1) (v :: h) r

/-- One partition of one channel, `m` instants from instant n. -/
def takePart (w base total m n : Nat) (h : List Int) (l : List Bool) : Except TileFault (List Int × List Bool) :=
  match takeMsb 2 0 l with
  | none => .error ⟨1, 5, bitOff base total l⟩
  | some (o, l1) => match takeMsb 5 0 l1 with
    | none => .error ⟨1, 5, bitOff base total l1⟩
    | some (k, l2) =>
      if 21 ≤ k && k ≤ 29 then .error ⟨1, 1, bitOff base total l1⟩
      else if k = 31 && o ≠ 0 then .error ⟨1, 3, bitOff base total l⟩
      else if n = 0 then match takeMsb w 0 l2 with
        | none => .error ⟨1, 5, bitOff base total l2⟩
        | some (b, l3) => takeValues w o k base total (m - 1) 1 [sext w b] l3
      else takeValues w o k base total m n h l2

/-- One partition of every channel. -/
def takeChans (w base total m n : Nat) : List (List Int) → List Bool → Except TileFault (List (List Int) × List Bool)
  | [], l => .ok ([], l)
  | h :: hs, l => match takePart w base total m n h l with
    | .error e => .error e
    | .ok (h1, l1) => match takeChans w base total m n hs l1 with
      | .error e => .error e
      | .ok (r, l2) => .ok (h1 :: r, l2)

/-- The partitions from instant n on: the channels decoded whole, and the fault met or the rest. -/
def takeParts (w base total count : Nat) : Nat → Nat → List (List Int) → List Bool →
    List (List Int) × Except TileFault (List Bool)
  | 0, _, hs, l => (hs, .ok l)
  | m + 1, n, hs, l => match takeChans w base total (min 64 (count - n)) n hs l with
    | .error e => (hs, .error e)
    | .ok (hs1, l1) => takeParts w base total count m (n + 64) hs1 l1

/-- What decoding a tile gives (R340): the original bytes output, the fault, the flag words, and the bytes of an instant. -/
structure Decoded where
  out : List Byte
  fault : Option TileFault
  flags : List Byte
  unit : Nat
  deriving DecidableEq, Repr

/-- The padding after the last partition (R328). -/
def padFault (base total : Nat) (l : List Bool) : Option TileFault :=
  let n := l.length % 8
  if (l.take n).any id then some ⟨1, 6, bitOff base total l⟩
  else if 8 ≤ l.length then some ⟨1, 6, bitOff base total (l.drop n)⟩
  else none

/-- Decode a sample-mode tile without a header fault. -/
def decodeSamples (t : List Byte) : Decoded :=
  let g := tileField t
  let count := g 16 4
  let c := g 32 1 + 1
  let z := g 33 1
  let nf := g 36 2
  let stop := 32 + g 28 4
  let ff := 56 + 2 * nf
  let bs := ff + 4
  let fb := (t.drop 56).take (2 * nf)
  if stop < bs then ⟨[], some ⟨1, 5, if stop < ff then 56 + (stop - 56) / 2 * 2 else ff⟩, [], 2 * c⟩
  else
    let l := bitsMsb ((t.drop bs).take (stop - bs))
    let r := takeParts (16 - z) bs l.length count (ceilDiv count 64) 0 (List.replicate c []) l
    let chans := r.1.map (fun h => h.reverse.map (fun (v : Int) => v * ((2 ^ z : Nat) : Int)))
    let out := (List.range (chans.headD []).length).flatMap (fun i =>
      chans.flatMap (fun v => leBytes 2 (toBits 16 (v.getD i 0))))
    let fault := match r.2 with
      | .error e => some e
      | .ok rest => match padFault bs l.length rest with
        | some e => some e
        | none => if crc32c fb ≠ g ff 4 then some ⟨4, 1, ff⟩
          else if crc32c out ≠ g 24 4 then some ⟨4, 0, 24⟩ else none
    ⟨out, fault, fb, 2 * c⟩

/-! ## The record-mode decoder (R333) -/

/-- A Huffman code (RFC 1951): symbols with their lengths, in canonical order, as (length, symbol). -/
abbrev Huff := List (Nat × Nat)

/-- The symbols of code lengths in canonical order. -/
def huffOf (lens : List Nat) : Huff :=
  (List.range 15).flatMap (fun i => ((List.range lens.length).filter (fun x => lens.getD x 0 == i + 1)).map (fun x => (i + 1, x)))

/-- The space that code lengths use, in 2^-15: 2^15 is a complete code. -/
def huffSpace (lens : List Nat) : Nat := lens.foldl (fun a n => if n = 0 then a else a + 2 ^ (15 - n)) 0

/-- Decode a symbol bit by bit: `none` where the stream ends, symbol 65535 where no code matches. -/
def takeSym (h : Huff) : Nat → Nat → Nat → Nat → Nat → List Bool → Option (Nat × List Bool)
  | 0, _, _, _, _, l => some (65535, l)
  | _ + 1, _, _, _, _, [] => none
  | m + 1, len, code, first, idx, b :: r =>
    let code := code + b2n b
    let n := (h.filter (fun e => e.1 == len)).length
    if code < first + n then some ((h.getD (idx + (code - first)) (0, 65535)).2, r)
    else takeSym h m (len + 1) (2 * code) (2 * (first + n)) (idx + n) r

/-- Decode one symbol. -/
def huffSym (h : Huff) (l : List Bool) : Option (Nat × List Bool) := takeSym h 15 1 0 0 0 l

/-- Code lengths of the fixed literal and length code. -/
def fixedLens : List Nat :=
  List.replicate 144 8 ++ List.replicate 112 9 ++ List.replicate 24 7 ++ List.replicate 8 8

/-- Base and extra bits of a length symbol. -/
def lengthBase (sym : Nat) : Nat × Nat :=
  let i := sym - 257
  if i < 8 then (3 + i, 0) else if i = 28 then (258, 0)
  else let e := i / 4 - 1; (3 + 2 ^ e * (4 + i % 4), e)

/-- Base and extra bits of a distance symbol. -/
def distBase (sym : Nat) : Nat × Nat :=
  if sym < 2 then (1 + sym, 0) else let e := sym / 2 - 1; (1 + 2 ^ e * (2 + sym % 2), e)

/-- Copy `n` bytes from `d` back in the output, newest first. -/
def copyBack (d : Nat) : Nat → List Byte → List Byte
  | 0, out => out
  | n + 1, out => copyBack d n (out.getD (d - 1) 0#8 :: out)

/-- The order of the code length code's lengths. -/
def clOrder : List Nat := [16, 17, 18, 0, 8, 7, 9, 6, 10, 5, 11, 4, 12, 3, 13, 2, 14, 1, 15]

/-- Read n code lengths of 3 bits. -/
def takeLens3 : Nat → List Bool → Option (List Nat × List Bool)
  | 0, l => some ([], l)
  | n + 1, l => match takeLsb 3 1 0 l with
    | none => none
    | some (v, r) => match takeLens3 n r with
      | none => none
      | some (vs, r2) => some (v :: vs, r2)

/-- Read `need` code lengths, newest first in `acc`: the detail of a fault with its place, or the lengths and the rest. -/
def takeLens (h : Huff) (need : Nat) : Nat → List Nat → List Bool → Except (Nat × List Bool) (List Nat × List Bool)
  | 0, _, l => .error (0x12, l)
  | fuel + 1, acc, l =>
    if need = acc.length then .ok (acc.reverse, l)
    else match huffSym h l with
      | none => .error (5, l)
      | some (sym, r) =>
        let rep : Nat → Nat → Nat → Except (Nat × List Bool) (List Nat × List Bool) := fun v base extra =>
          match takeLsb extra 1 0 r with
          | none => .error (5, r)
          | some (x, r2) =>
            if need < acc.length + base + x then .error (0x12, l)
            else takeLens h need fuel (List.replicate (base + x) v ++ acc) r2
        match sym with
        | 16 => match acc with
          | [] => .error (0x12, l)
          | v :: _ => rep v 3 2
        | 17 => rep 0 3 3
        | 18 => rep 0 11 7
        | v => if v < 16 then takeLens h need fuel (v :: acc) r else .error (0x12, l)

/-- The two codes of a dynamic block, or a fault detail with its place. -/
def dynamicCodes (l : List Bool) : Except (Nat × List Bool) ((Huff × Huff) × List Bool) :=
  match takeLsb 14 1 0 l with
  | none => .error (5, l)
  | some (v, l1) =>
    let nl := v % 32 + 257
    let nd := v / 32 % 32 + 1
    let nc := v / 1024 + 4
    if 286 < nl then .error (0x12, l)
    else match takeLens3 nc l1 with
      | none => .error (5, l1)
      | some (cl, l2) =>
        let lens := (List.range 19).map (fun i => match (List.range nc).find? (fun j => clOrder.getD j 99 == i) with
          | some j => cl.getD j 0
          | none => 0)
        if huffSpace lens ≠ 2 ^ 15 then .error (0x12, l1)
        else match takeLens (huffOf lens) (nl + nd) (nl + nd + 1) [] l2 with
          | .error e => .error e
          | .ok (all, l3) =>
            let lit := all.take nl
            let dist := all.drop nl
            let one := (dist.filter (fun n => n != 0)).length ≤ 1 && dist.all (fun n => decide (n ≤ 1))
            if huffSpace lit ≠ 2 ^ 15 then .error (0x12, l2)
            else if huffSpace dist ≠ 2 ^ 15 && !one then .error (0x12, l2)
            else .ok ((huffOf lit, huffOf dist), l3)

/-- What inflating leaves: the output newest first, and a fault or the place and start of the last code. -/
abbrev Inflated := List Byte × Except TileFault (List Bool × Nat)

/-- The symbols of a compressed block. -/
def inflateBlock (lit dist : Huff) (olen total : Nat) : Nat → List Byte → List Bool → Inflated
  | 0, out, l => (out, .error ⟨1, 5, bitOff 32 total l⟩)
  | fuel + 1, out, l =>
    let at_ := bitOff 32 total
    match huffSym lit l with
    | none => (out, .error ⟨1, 5, at_ l⟩)
    | some (sym, r) =>
      if sym < 256 then
        if olen ≤ out.length then (out, .error ⟨3, 0, at_ l⟩)
        else inflateBlock lit dist olen total fuel (BitVec.ofNat 8 sym :: out) r
      else if sym = 256 then (out, .ok (r, at_ l))
      else if sym = 65535 then (out, .error ⟨1, 256, at_ l⟩)
      else if 286 ≤ sym then (out, .error ⟨1, 0x13, at_ l⟩)
      else match takeLsb (lengthBase sym).2 1 0 r with
        | none => (out, .error ⟨1, 5, at_ r⟩)
        | some (x, r1) =>
          let n := (lengthBase sym).1 + x
          if olen < out.length + n then (out, .error ⟨3, 0, at_ l⟩)
          else match huffSym dist r1 with
            | none => (out, .error ⟨1, 5, at_ r1⟩)
            | some (ds, r2) =>
              if ds = 65535 then (out, .error ⟨1, 256, at_ r1⟩)
              else if 30 ≤ ds then (out, .error ⟨1, 0x13, at_ r1⟩)
              else match takeLsb (distBase ds).2 1 0 r2 with
                | none => (out, .error ⟨1, 5, at_ r2⟩)
                | some (y, r3) =>
                  let d := (distBase ds).1 + y
                  if out.length < d then (out, .error ⟨2, 0, at_ r1⟩)
                  else inflateBlock lit dist olen total fuel (copyBack d n out) r3

/-- The bytes of a stored block. -/
def inflateStored (olen total : Nat) : Nat → List Byte → List Bool → Inflated
  | 0, out, l => (out, .ok (l, bitOff 32 total l))
  | n + 1, out, l => match takeLsb 8 1 0 l with
    | none => (out, .error ⟨1, 5, bitOff 32 total l⟩)
    | some (v, r) =>
      if olen ≤ out.length then (out, .error ⟨3, 0, bitOff 32 total l⟩)
      else inflateStored olen total n (BitVec.ofNat 8 v :: out) r

/-- The blocks of a record-mode payload. -/
def inflateBlocks (olen total : Nat) : Nat → List Byte → List Bool → Inflated
  | 0, out, l => (out, .error ⟨1, 5, bitOff 32 total l⟩)
  | fuel + 1, out, l =>
    let at_ := bitOff 32 total
    match takeLsb 1 1 0 l with
    | none => (out, .error ⟨1, 5, at_ l⟩)
    | some (fin, l1) => match takeLsb 2 1 0 l1 with
      | none => (out, .error ⟨1, 5, at_ l1⟩)
      | some (ty, l2) =>
        let r : Inflated :=
          if ty = 3 then (out, .error ⟨1, 0x10, at_ l1⟩)
          else if ty = 0 then
            let l3 := l2.drop (l2.length % 8)
            match takeLsb 16 1 0 l3 with
            | none => (out, .error ⟨1, 5, at_ l3⟩)
            | some (n, l4) => match takeLsb 16 1 0 l4 with
              | none => (out, .error ⟨1, 5, at_ l4⟩)
              | some (m, l5) =>
                if n + m ≠ 65535 then (out, .error ⟨1, 0x11, at_ l3⟩) else inflateStored olen total n out l5
          else if ty = 1 then inflateBlock (huffOf fixedLens) (huffOf (List.replicate 32 5)) olen total (l2.length + 1) out l2
          else match dynamicCodes l2 with
            | .error e => (out, .error ⟨1, e.1, at_ e.2⟩)
            | .ok (h, l3) => inflateBlock h.1 h.2 olen total (l3.length + 1) out l3
        match r with
        | (o, .error e) => (o, .error e)
        | (o, .ok (l3, c)) => if fin = 1 then (o, .ok (l3, c)) else inflateBlocks olen total fuel o l3

/-- Inflate a payload that is to yield `olen` bytes. -/
def inflate (pay : List Byte) (olen : Nat) : List Byte × Option TileFault :=
  let l := bitsLsb pay
  match inflateBlocks olen l.length (l.length + 1) [] l with
  | (o, .error e) => (o.reverse, some e)
  | (o, .ok (r, c)) =>
    (o.reverse, if o.length < olen then some ⟨3, 1, c⟩ else padFault 32 l.length r)

/-- Decode a tile of which `n` bytes are available (R318, R340). -/
def decodeTile (t : List Byte) (n : Nat) : Decoded :=
  match headerFault t n with
  | some e => ⟨[], some e, [], 2⟩
  | none =>
    if tileField t 2 1 = 1 then decodeSamples t
    else
      let r := inflate ((t.drop 32).take (tileField t 28 4)) (tileField t 20 4)
      ⟨r.1, match r.2 with
        | some e => some e
        | none => if crc32c r.1 ≠ tileField t 24 4 then some ⟨4, 0, 24⟩ else none, [], 1⟩

/-! ## Record-mode tiles -/

/-- Stored blocks of at most 16 KiB (R333). -/
def storedBlocks : Nat → List Byte → List Byte
  | 0, _ => []
  | m + 1, l =>
    let a := l.take 16384
    let r := l.drop 16384
    leBytes 1 (b2n r.isEmpty) ++ leBytes 2 a.length ++ leBytes 2 (65535 - a.length) ++ a ++
      (if r.isEmpty then [] else storedBlocks m r)

/-- The payload of a record-mode tile (R333): the coding offered where it decodes to the bytes, otherwise stored blocks.
Which of the codings that decode to the bytes the compressor emits is left open (DESIGN CHOICE, log entry 30). -/
def recordPayload (offered orig : List Byte) : List Byte :=
  if inflate offered orig.length = (orig, none) && offered.length ≤ 2 * orig.length + 64 then offered
  else storedBlocks (orig.length / 16384 + 1) orig

/-- A record-mode tile of queue q (R317). -/
def recordTile (offered orig : List Byte) (q index count tf : Nat) : List Byte :=
  let pay := recordPayload offered orig
  tileHeader 2 tf (2 * 2 ^ 28 + q) index count orig pay ++ pay

end Sys2Proof.Machine
end

