-- ==== Sys2Proof/Machine/Mgb.lean ====
section
/-! DEFINITION. Signal outputs, management buses and the test access port (R684 to R698). -/
namespace Sys2Proof.Machine

/-! ## Pins of the signal outputs (R177, R684) -/

/-- What the hub holds of a signal output. -/
def State.sig (s : State) (n : Nat) : SigOut := mapGet {} n s.sigs
/-- Put what the hub holds of a signal output. -/
def State.setSig (s : State) (n : Nat) (x : SigOut) : State := { s with sigs := mapPut {} n x s.sigs }

/-- The spans of drives of an output with the newest one ended at `t`, where it is open. -/
def endSpan (t : Int) : List Span → List Span
  | [] => []
  | x :: r => if x.to_.isNone then { x with to_ := some t } :: r else x :: r

/-- The pin of output n takes a level: while active it injects (R177, R684). -/
def State.pinLevel (s : State) (n level : Nat) : State :=
  let l := mapGet [] n s.injects
  let isOpen := match l with
    | x :: _ => x.to_.isNone
    | [] => false
  let active := level ≠ s.get (MGB_SIG_CFG_LEVEL n)
  let l1 := if active && !isOpen then ⟨s.mt, none⟩ :: l else if !active && isOpen then endSpan s.mt l else l
  ({ s with injects := mapPut [] n l1 s.injects } : State).put (MGB_SIG_STAT_PIN n) level

/-- Put the pin of output n to its active or its idle level. -/
def State.pinDrive (s : State) (n : Nat) (active : Bool) : State :=
  let l := s.get (MGB_SIG_CFG_LEVEL n)
  s.pinLevel n (if active then 1 - l else l)

/-- Whether a trigger output that is not OFF drives signal output n. -/
def State.trgDrives (s : State) (n : Nat) : Bool :=
  (List.range 64).any (fun t => s.get (TRG_OUT_STAT_STATE t) != 0 && s.isSet (TRG_OUT_ACT_SIG_EN t)
    && s.get (TRG_OUT_ACT_SIG t) == n)

/-- Show which outputs trigger outputs drive. -/
def State.showTrgDrive (s : State) (n : Nat) : State := s.put (MGB_SIG_STAT_TRIG n) (b2n (s.trgDrives n))

/-! ## Modes and frame markers (R684, R687) -/

/-- Frames between markers of output n, in samples of its grid. -/
def State.markStep (s : State) (n : Nat) : Nat := 2 ^ s.get (MGB_SIG_CFG_DLOG2 n) * s.frameLen (s.get (MGB_SIG_CFG_GRID n))

/-- The marker instant of marker m of output n, in fifths of 2^-16 ns. -/
def State.markAt (s : State) (n m : Nat) : Int :=
  5 * s.gridInstant (s.get (MGB_SIG_CFG_GRID n)) (m * s.markStep n) + 131072 * sext 32 (s.rn (MGB_SIG_OFS n))

/-- The first marker of output n whose instant lies at least 1 µs ahead. -/
def State.firstMark (s : State) (n : Nat) : Nat :=
  let x := 5 * (s.mt + (mtUs : Int)) - 131072 * sext 32 (s.rn (MGB_SIG_OFS n))
  s.firstBlockAt (s.get (MGB_SIG_CFG_GRID n)) (s.markStep n) (-((-x) / 5))

/-- Whether frame-marker mode may be put in force with a configuration word (R687). -/
def State.markOk (s : State) (v : Nat) : Bool :=
  let g := bits v 27 25
  let step := 2 ^ bits v 24 20 * s.frameLen g
  s.gridValid g && bits v 15 0 ≠ 0 && decide (bits v 15 0 * 4 * max 1 (s.gridNum g) < step * s.gridDen g * 10000000000)

/-- A write of `MGB_SIG_CFG[n]` (R684, R687). -/
def State.sigCfgWrite (s : State) (n : Nat) (w : Wr) : State :=
  let old := s.rn (MGB_SIG_CFG n)
  let new := merged old w
  if s.trgDrives n then s.raise evSYS_ACCESS_VALUE w.fn
  else if bits new 31 30 = 2 && !s.markOk new then s.put (MGB_SIG_STAT_CODE n) 1
  else
    let s1 := s.mergeRaw (MGB_SIG_CFG n).key w
    let x := s1.sig n
    let changed := bits (s1.rn (MGB_SIG_CFG n)) 31 30 ≠ bits old 31 30
    let s2 := if changed then (s1.setSig n { x with edges := [], lastAt := none, markTo := none }).put (MGB_SIG_STAT_QUEUED n) 0
      else s1
    let m := s2.get (MGB_SIG_CFG_MODE n)
    let s3 := if m = 2 then s2.setSig n { s2.sig n with markF := s2.firstMark n } else s2
    if !s3.awake 94 then s3
    else if m = 1 && !changed then s3
    else s3.pinDrive n (m = 2 && (s3.sig n).markTo.isSome)

/-- A write of `MGB_SIG_OFS[n]` (R684). -/
def State.sigOfsWrite (s : State) (n : Nat) (w : Wr) : State :=
  if s.trgDrives n then s.raise evSYS_ACCESS_VALUE w.fn
  else
    let s1 := s.mergeRaw (MGB_SIG_OFS n).key w
    if s1.get (MGB_SIG_CFG_MODE n) = 2 then s1.setSig n { s1.sig n with markF := s1.firstMark n } else s1

/-- MGB_SIG_CFG_WRITE (R684). -/
def execMgbSigCfgWrite (n : Nat) (w : Wr) (s : State) : Host.Outcome State Fault Refusal :=
  .next (s.pfOnly w (0x120100 + 0x10 * n) (fun s => s.sigCfgWrite n w))

/-! ## Scheduled edges (R685, R686) -/

/-- Check and queue the edge that `MGB_EDGE_CTL` describes (R685). -/
def State.edgePush (s : State) : State :=
  let n := s.get MGB_EDGE_CTL_OUT
  let t := mtOf (s.rd64 MGB_EDGE_SEC_LO MGB_EDGE_SEC_HI) (s.rn MGB_EDGE_NS) (s.get MGB_EDGE_CTL_FRAC)
  let x := s.sig n
  let code : Nat → State := fun c => s.put (MGB_SIG_STAT_CODE n) c
  if s.get (MGB_SIG_CFG_MODE n) ≠ 1 then code 1
  else if (match x.lastAt with
      | some l => decide (t < l + ((2 * mtNs : Nat) : Int))
      | none => false) then code 2
  else if t < s.mt + ((200 * mtNs : Nat) : Int) then
    let s1 := (code 3).put (MGB_SIG_STAT_LATE_SEEN n) 1
    let due := match s.mgb.lateAt with
      | none => true
      | some l => decide (l + (mtMs : Int) ≤ s.mt) || decide (s.mt < l)
    if due then ({ s1 with mgb := { s1.mgb with lateAt := some s.mt } } : State).raise evMGB_SIG_LATE n else s1
  else if 64 ≤ x.edges.length then code 4
  else
    let y := { x with edges := x.edges ++ [(s.isSet MGB_EDGE_CTL_LEVEL, t)], lastAt := some t }
    ((code 0).setSig n y).put (MGB_SIG_STAT_QUEUED n) y.edges.length

/-- A write of `MGB_EDGE_CTL`. -/
def State.edgeCtlWrite (s : State) (w : Wr) : State :=
  let s1 := s.mergeRaw MGB_EDGE_CTL.key w
  if w.hits 31 then (if s1.awake 94 then s1.edgePush else s1.refuseDom 94) else s1

/-- MGB_EDGE_PUSH (R685): a write of `MGB_EDGE_CTL`. -/
def execMgbEdgePush (w : Wr) (s : State) : Host.Outcome State Fault Refusal :=
  .next (s.pfOnly w 0x120080 (fun s => s.edgeCtlWrite w))

/-- SIG_EDGE_FIRE (R686): Meridian time has reached the first queued edge of output n. -/
def execSigEdgeFire (n : Nat) (s : State) : Host.Outcome State Fault Refusal :=
  let x := s.sig n
  match x.edges with
  | [] => .next s
  | (l, t) :: r =>
    if s.mt < t || !s.awake 94 then .next s
    else .next (((s.setSig n { x with edges := r }).put (MGB_SIG_STAT_QUEUED n) r.length).pinLevel n (b2n l))

/-- FRAME_MARKER_START (R687): the next marker instant of output n has come. -/
def execFrameMarkerStart (n : Nat) (s : State) : Host.Outcome State Fault Refusal :=
  let x := s.sig n
  if s.get (MGB_SIG_CFG_MODE n) ≠ 2 || 5 * s.mt < s.markAt n x.markF || !s.awake 94 then .next s
  else
    let dst := (s.markAt n x.markF + 131072 * (s.get (MGB_SIG_CFG_WIDTH n) : Nat) + 4) / 5
    .next ((s.setSig n { x with markF := x.markF + 1, markTo := some dst }).pinDrive n true)

/-- FRAME_MARKER_END (R687): a marker pulse of output n has lasted `WIDTH`. -/
def execFrameMarkerEnd (n : Nat) (s : State) : Host.Outcome State Fault Refusal :=
  match (s.sig n).markTo with
  | none => .next s
  | some t =>
    if s.mt < t || !s.awake 94 then .next s else .next ((s.setSig n { s.sig n with markTo := none }).pinDrive n false)

/-! ## Management buses (R690 to R693) -/

/-- The events of a transaction's code on bus k (R691). -/
def State.busCode (s : State) (k code : Nat) : State :=
  match code with
  | 2 =>
    let s1 := s.bump (MGB_NAKCNT k)
    let due := match mapGet none k (s.mgb.nakAt.map (fun e => (e.1, some e.2))) with
      | none => true
      | some t => decide (t + (mtSec : Int) ≤ s.mt) || decide (s.mt < t)
    if due then ({ s1 with mgb := { s1.mgb with nakAt := mapInsert k s.mt s1.mgb.nakAt } } : State).raise evMGB_MG_NAK k
    else s1
  | 3 => s.raise evMGB_MG_NAK k
  | 4 | 5 | 6 | 7 => s.raise evMGB_MG_FAULT k
  | _ => s

/-- A write of `MGB_XFER` (R690, R691). -/
def State.xferWrite (s : State) (w : Wr) : State :=
  let s1 := s.mergeRaw MGB_XFER.key w
  if !w.hits 31 then s1
  else if !s1.awake 94 then s1.refuseDom 94
  else if s1.mgb.running then s1.put MGB_XSTAT_CODE 1
  else if !s1.isSet (MGB_BUS_CTL_EN (s1.get MGB_XFER_BUS)) then
    ((s1.put MGB_XSTAT_CODE 8).put MGB_XSTAT_BYTES 0).put MGB_XSTAT_DONE 1
  else
    let k := s1.get MGB_XFER_BUS
    let n := s1.get MGB_XFER_NRD
    let data := (List.range (s1.get MGB_XFER_NWR)).flatMap (fun i => leBytes 1 (s1.get ⟨MGB_XDATA (i / 4), 8 * (i % 4) + 7, 8 * (i % 4)⟩))
    let s2 := { s1 with mgb := { s1.mgb with running := true, bus := k, nrd := n } }
    ((s2.emit (.mgBus k (s1.get MGB_XFER_ADDR) (s1.isSet MGB_XFER_PEC) data n)).put MGB_XFER_GO 1).put MGB_XSTAT_DONE 0

/-- MGB_XFER_GO (R690): a write of `MGB_XFER`. -/
def execMgbXferGo (w : Wr) (s : State) : Host.Outcome State Fault Refusal :=
  .next (s.pfOnly w 0x120010 (fun s => s.xferWrite w))

/-- Put read bytes into `MGB_XDATA` from byte 0. -/
def State.xdataPut (s : State) (l : List Byte) : State :=
  (List.range (min l.length 64)).foldl (fun (s : State) i =>
    s.put ⟨MGB_XDATA (i / 4), 8 * (i % 4) + 7, 8 * (i % 4)⟩ (l.getD i 0#8).toNat) s

/-- MGB_XFER_DONE (R690, R691): the register path's transaction ends with a code, a count of bytes transferred and the
bytes read, which come from the bus. -/
def execMgbXferDone (code nbytes : Nat) (data : List Byte) (s : State) : Host.Outcome State Fault Refusal :=
  if !s.mgb.running then .next s
  else
    let c := if code = 1 || 7 < code then 0 else code
    let s1 := ({ s with mgb := { s.mgb with running := false } } : State).put MGB_XFER_GO 0
    let s2 := s1.xdataPut (data.take s.mgb.nrd)
    let s3 := ((s2.put MGB_XSTAT_CODE c).put MGB_XSTAT_BYTES nbytes).put MGB_XSTAT_DONE 1
    .next (s3.busCode s.mgb.bus c)

/-- MGB_POLL (R692): the telemetry poller serves entry i, whose device answers with a code and a value. -/
def execMgbPoll (i code val : Nat) (s : State) : Host.Outcome State Fault Refusal :=
  let due := match mapGet none i (s.mgb.polled.map (fun e => (e.1, some e.2))) with
    | none => true
    | some t => decide (t + ((s.get (MGB_POLL_PERIOD i) * mtMs : Nat) : Int) ≤ s.mt) || decide (s.mt < t)
  if 16 ≤ i || !s.isSet (MGB_POLL_VALID i) || s.get SYS_BOOT_FW ≠ 2 || !s.awake 94 || !due then .next s
  else
    let k := s.get (MGB_POLL_BUS i)
    let c := if !s.isSet (MGB_BUS_CTL_EN k) then 8 else if code = 1 || 7 < code then 0 else code
    let v := if s.isSet (MGB_POLL_WORD i) then val % 65536 else val % 256
    let s0 := if c = 8 then s else s.emit (.mgBus k (s.get (MGB_POLL_ADDR i)) (s.isSet (MGB_BUS_CTL_PEC k))
      (leBytes 1 (s.get (MGB_POLL_CMD i))) (1 + b2n (s.isSet (MGB_POLL_WORD i))))
    let s1 := { s0 with mgb := { s0.mgb with polled := mapInsert i s.mt s0.mgb.polled } }
    let s2 := s1.put (MGB_POLLV_CODE i) c
    .next ((if c = 0 || c = 4 then s2.put (MGB_POLLV_VAL i) v else s2).busCode k c)

/-- The alert service reads the Alert Response Address (R693): the address a device returns, or none. -/
def State.alertRead (s0 : State) (addr : Option Nat) : State :=
  match (List.range 2).find? (fun k => s0.isSet (MGB_BUS_CTL_ALERT k)) with
  | none => s0
  | some k =>
    let s := s0.emit (.mgBus k 0x0C (s0.isSet (MGB_BUS_CTL_PEC k)) [] 1)
    let s1 := { s with mgb := { s.mgb with alertAt := some s.mt } }
    match addr with
    | some a => (((s1.put MGB_ALERT_STAT_ADDR a).put MGB_ALERT_STAT_COUNT (satAdd 16 (s1.get MGB_ALERT_STAT_COUNT) 1)).put
        MGB_ALERT_STAT_NORESP 0).raise evMGB_MG_ALERT k
    | none => (s1.put MGB_ALERT_STAT_NORESP 1).raise evMGB_MG_ALERT k

/-- ALERT_N_ASSERT (R693): ALERT_N has been low for 1 µs. -/
def execAlertNAssert (addr : Option Nat) (s : State) : Host.Outcome State Fault Refusal :=
  if s.isSet MGB_ALERT_CTL_EN && s.awake 94 then .next (s.alertRead addr) else .next s

/-- ALERT_REPEAT (R693): `PER` ms have passed since the last read; `low` says whether ALERT_N is still low. -/
def execAlertRepeat (low : Bool) (addr : Option Nat) (s : State) : Host.Outcome State Fault Refusal :=
  match s.mgb.alertAt with
  | none => .next s
  | some t =>
    if !low then .next { s with mgb := { s.mgb with alertAt := none } }
    else if !s.isSet MGB_ALERT_CTL_EN || !s.awake 94 || s.mt < t + ((s.get MGB_ALERT_CTL_PER * mtMs : Nat) : Int) then .next s
    else .next (s.alertRead addr)

/-! ## Test access (R695, R696) -/

/-- What the instruction register of the test access port captures (R695): 0b0000_0p01, p the level of POR_N. -/
def State.irCapture (s : State) : Nat := if s.porLow then 1 else 5

/-- TAP_INSTRUCTION (R695, R696): an instruction selects its data register; those that would take the pins act as BYPASS
while POR_N is high. -/
def execTapInstruction (ir : Nat) (s : State) : Host.Outcome State Fault Refusal :=
  let i := ir % 256
  let takes := decide (3 ≤ i) && decide (i ≤ 7)
  let d := if i = 1 then 1 else if i = 2 then 2 else if takes && s.porLow && i ≤ 5 then 2 else 0
  .next { s with tap := ⟨i, d, takes && s.porLow⟩ }

/-- TAP_RESET (R695): Test-Logic-Reset selects IDCODE. -/
def execTapReset (s : State) : Host.Outcome State Fault Refusal := .next { s with tap := {} }

end Sys2Proof.Machine
end

