-- ==== Sys2Proof/Machine/Raw.lean ====
section
/-! DEFINITION. The raw path of a slot, the compressors' load and the transient ring (R178, R307 to R310, R315, R316, R320, R330 to
R335, R342, R370). -/
namespace Sys2Proof.Machine

/-- The raw path of a slot. -/
def State.raw (s : State) (n : Nat) : RawPath := mapGet {} n s.raws
/-- Put the raw path of a slot. -/
def State.setRaw (s : State) (n : Nat) (x : RawPath) : State := { s with raws := mapPut {} n x s.raws }

/-! ## Compressors (R315, R316) -/

/-- Channels of a slot's raw samples (R321). -/
def State.rawCh (s : State) (n : Nat) : Nat := if s.srcCplx (s.srcWord n) then 2 else 1

/-- Known zero bits of a slot's containers (R321). -/
def State.rawZ (s : State) (n : Nat) : Nat :=
  match srcType (s.srcWord n) with
  | 1 => 4
  | 2 => 16 - [4, 8, 12, 16].getD (bits (s.nodeOf (s.srcWord n)).format 1 0) 16
  | _ => 0

/-- The load of a raw-path stream in GB/s, rounded up (R316). -/
def State.rawLoad (s : State) (n : Nat) : Nat :=
  let g := if (s.slot n).on then (s.slot n).boundGrid else s.get (CHP_CTL_GRID n)
  let r := s.srcRate (s.srcWord n) g (bits (s.slotShadow n 0x18) 22 16)
  ceilDiv (r.1 * s.rawCh n * (16 - s.rawZ n)) (8000000000 * max 1 r.2)

/-- The compressor for a load (R316, R342): the least loaded in service with room, the lower number where equal. -/
def State.pickEngine (s : State) (load : Nat) : Option Nat :=
  (List.range 16).foldl (fun (a : Option Nat) e =>
    if s.get (CMP_ENG_STATE e) ≠ 0 || !s.awake (82 + e / 8) || 640 < s.get (CMP_ENG_LOAD e) + load then a
    else match a with
      | none => some e
      | some b => if s.get (CMP_ENG_LOAD e) < s.get (CMP_ENG_LOAD b) then some e else a) none

/-- Put a stream on a compressor. -/
def State.loadEngine (s : State) (e load : Nat) : State :=
  (s.put (CMP_ENG_LOAD e) (s.get (CMP_ENG_LOAD e) + load)).put (CMP_ENG_STREAMS e) (s.get (CMP_ENG_STREAMS e) + 1)

/-- Take a stream off a compressor. -/
def State.unloadEngine (s : State) (e load : Nat) : State :=
  (s.put (CMP_ENG_LOAD e) (s.get (CMP_ENG_LOAD e) - load)).put (CMP_ENG_STREAMS e) (s.get (CMP_ENG_STREAMS e) - 1)

/-! ## Assignment of the raw path (R330, R365) -/

/-- The sum of the loads of the raw paths that name queue q, without slot n. -/
def State.rawLoads (s : State) (q n : Nat) : Nat :=
  s.raws.foldl (fun a e => if e.1 ≠ n && s.isSet (CMP_RAW_QEN e.1) && s.get (CMP_RAW_QUEUE e.1) = q
    && s.isSet (CMP_RAW_STAT_ASSIGNED e.1) then a + e.2.load else a) 0

/-- The allowance of queue q in bytes (R365) with raw loads of `loads` GB/s: 2 ms of its rated rate. -/
def State.allowOf (s : State) (q loads : Nat) : Nat := max (2000 * s.get (QUE_CFG3_RATE q)) (2000000 * loads)

/-- Bytes of the elasticity region. -/
def elasticBytes : Nat := 20 * 2 ^ 30

/-- The allowances committed, without queue q. -/
def State.allowOthers (s : State) (q : Nat) : Nat :=
  s.quesOn.foldl (fun a p => if p = q then a else a + (s.que p).allow) 0

/-- Form a queue's allowance anew and show the sum (R365). -/
def State.setAllow (s : State) (q : Nat) : State :=
  let s1 := if s.get (QUE_STAT_STATE q) = 0 || !s.dataQueue q then s
    else s.setQue q { s.que q with allow := s.allowOf q (s.rawLoads q 1024) }
  s1.wn PLT_EL_ALLOC (ceilDiv (s1.allowOthers 16384) 1048576)

/-- The checks of R330 for slot n with the new word. -/
def State.rawCheck (s : State) (n v : Nat) : Nat :=
  let tl := bits v 15 11
  let q := bits v 29 16
  let load := s.rawLoad n
  if tl < 12 || 20 < tl || 4 < bits v 10 8 || s.get (CHP_SRC_TYPE n) = 0 then 1
  else if bit v 30 && !(s.get (QUE_CFG0_TYPE q) = 0 && s.get (QUE_CFG0_BOROUGH q) = 0
      && (s.get (QUE_STAT_STATE q) ≠ 1 || decide (s.allowOf q (s.rawLoads q n + load) + s.allowOthers q ≤ elasticBytes))) then 2
  else if (s.pickEngine load).isNone then 3
  else 0

/-- Reserve a compressor for slot n. -/
def State.rawAssign (s : State) (n : Nat) : State :=
  let load := s.rawLoad n
  match s.pickEngine load with
  | none => s
  | some e =>
    let s1 := (s.setRaw n { s.raw n with load := load }).loadEngine e load
    ((s1.put (CMP_RAW_STAT_ENGINE n) e).put (CMP_RAW_STAT_ASSIGNED n) 1).setAllow (s1.get (CMP_RAW_QUEUE n))

/-- Release the reservation of slot n. -/
def State.rawRelease (s : State) (n : Nat) : State :=
  if !s.isSet (CMP_RAW_STAT_ASSIGNED n) then s
  else
    let s1 := (s.unloadEngine (s.get (CMP_RAW_STAT_ENGINE n)) (s.raw n).load).setRaw n { s.raw n with load := 0 }
    (((s1.put (CMP_RAW_STAT_ENGINE n) 0).put (CMP_RAW_STAT_ASSIGNED n) 0).put (CMP_RAW_STAT_ACTIVE n) 0).setAllow
      (s1.get (CMP_RAW_QUEUE n))

/-- Whether the intake of a slot takes samples for the raw path and the fast power detector. -/
def State.intakeOn (s : State) (n : Nat) : Bool := (s.slot n).run && !(s.slot n).ended

/-- Whether `RAW` = 1 is in force or staged for slot n. -/
def State.rawBusy (s : State) (n : Nat) : Bool :=
  (s.intakeOn n && s.fget (CHP_CTL_RAW n) = 1) ||
    (s.slotDue n ++ s.staged).any (fun x => x.unit == .slot n && x.vals.any (fun v => v.key == (CHP_CTL n).key &&
      bits (v.val &&& v.mask) (CHP_CTL_RAW n).hi (CHP_CTL_RAW n).lo == 1))

/-- Write the word of `CMP_RAW[n]` under R330; the code of the check, `none` where the write is ignored with CFG_BUSY. -/
def State.rawSet (s : State) (n v : Nat) : Option Nat × State :=
  let old := s.rn (CMP_RAW n)
  let same := setBits v 10 8 0 = setBits old 10 8 0
  if same then (some 0, s.put (CMP_RAW_POLICY n) (bits v 10 8))
  else if s.rawBusy n then (none, s.raise evCMP_CFG_BUSY n)
  else if bit v 31 && !bit old 31 then
    let c := s.rawCheck n v
    if c ≠ 0 then (some c, s.put (CMP_RAW_STAT_CODE n) c)
    else (some 0, ((s.wn (CMP_RAW n) v).rawAssign n).put (CMP_RAW_STAT_CODE n) 0)
  else
    let s1 := s.wn (CMP_RAW n) v
    (some 0, if bit v 31 then (s1.setAllow (bits old 29 16)).setAllow (bits v 29 16)
      else (s1.rawRelease n).setAllow (bits old 29 16))

/-- A write of `CMP_RAW[n]` (R330). Where it does not set `EN`, a reserved `POLICY` leaves that field unchanged (R14). -/
def State.rawWrite (s : State) (n : Nat) (w : Wr) : State :=
  let old := s.rn (CMP_RAW n)
  let v := merged old w / 256 * 256
  let sets := bit v 31 && !bit old 31
  if !sets && 4 < bits v 10 8 then
    let s1 := (s.rawSet n (setBits v 10 8 (bits old 10 8))).2
    s1.raise evSYS_ACCESS_VALUE w.fn
  else (s.rawSet n v).2

/-- CMP_RAW_WRITE (R330): a write of `CMP_RAW[n]`. -/
def execCmpRawWrite (n : Nat) (w : Wr) (s : State) : Host.Outcome State Fault Refusal :=
  .next (s.pfOnly w (0xD1000 + 4 * n) (fun s => s.rawWrite n w))

/-- Whether raw tiles of slot n have somewhere to go. -/
def State.rawGoes (s : State) (n : Nat) : Bool :=
  (s.ringMember n && s.isSet TRG_RING_CTL_EN) || s.isSet (CMP_RAW_QEN n) || !(s.grantsOf n 29).isEmpty

/-- Show whether the raw path of slot n produces tiles. -/
def State.showRaw (s : State) (n : Nat) : State :=
  s.put (CMP_RAW_STAT_ACTIVE n) (b2n (s.intakeOn n && s.fget (CHP_CTL_RAW n) = 1 && s.isSet (CMP_RAW_STAT_ASSIGNED n)
    && s.rawGoes n))

/-- `RAW` = 1 comes in force for slot n (R330): without an assignment, or where the source no longer fits its compressor,
RAW_UNASSIGNED. -/
def State.rawForce (s : State) (n : Nat) : State :=
  if s.fget (CHP_CTL_RAW n) ≠ 1 then s.showRaw n
  else if !s.isSet (CMP_RAW_STAT_ASSIGNED n) then (s.showRaw n).raise evCMP_RAW_UNASSIGNED n
  else
    let load := s.rawLoad n
    let e := s.get (CMP_RAW_STAT_ENGINE n)
    if 640 < s.get (CMP_ENG_LOAD e) - (s.raw n).load + load then (s.rawRelease n).raise evCMP_RAW_UNASSIGNED n
    else
      let s1 := s.put (CMP_ENG_LOAD e) (s.get (CMP_ENG_LOAD e) - (s.raw n).load + load)
      ((s1.setRaw n { s1.raw n with load := load }).setAllow (s1.get (CMP_RAW_QUEUE n))).showRaw n

/-! ## Tiles in progress (R331, R332, R367) -/

/-- The period of a slot's source samples in 2^-48 ns (R332). -/
def State.rawPeriod (s : State) (n : Nat) : Nat :=
  match srcType (s.srcWord n) with
  | 1 => (s.grp (s.slotGroup n)).est.period.toNat
  | 2 => (s.nodeOf (s.srcWord n)).period
  | _ =>
    let g := (s.slot n).grid
    (divRound ((s.gridDen g * 1000000000 * 2 ^ 48 : Nat) : Int) (max 1 (s.fget (CHP_TEST_MULT n) * s.gridNum g))).toNat

/-- The grid anchor of an instant in 2^-48 ns (R332). -/
def State.anchorOf (s : State) (g : Nat) (t : Int) : Nat := s.gridIndexAt g (-((-t) / 2 ^ 32))

/-- Bytes of a raw tile's original data so far. -/
def RawTile.size (t : RawTile) : Nat := 2 * t.ch * t.smps.length

/-- A new raw tile of slot n from the sample at an instant. -/
def State.newTile (s : State) (n : Nat) (t : Int) : RawTile :=
  let g := (s.slot n).grid
  let k := s.anchorOf g t
  { at0 := t, period := s.rawPeriod n, anchor := k,
    lead := (divRound (s.gridInstant g k * 2 ^ 32 - t) (2 ^ 32)).toNat, ch := s.rawCh n, z := s.rawZ n,
    policy := s.get (CMP_RAW_POLICY n), ring := s.ringMember n && s.isSet TRG_RING_CTL_EN,
    queue := if s.isSet (CMP_RAW_QEN n) then some (s.get (CMP_RAW_QUEUE n)) else none, copies := s.grantsOf n 29 }

/-- Close the tile in progress of slot n early (R331). -/
def State.cutTile (s : State) (n : Nat) (last absent fault : Bool) : State :=
  let x := s.raw n
  match x.cur with
  | none => s
  | some t => s.setRaw n { x with cur := none, closing := x.closing ++
      [{ t with short := true, last := last, absent := absent, fault := t.fault || fault }] }

/-- Whether the next raw sample of slot n, of `len` bytes, is replaced by a placeholder (R367): its queue's allowance is
full. -/
def State.rawFull (s : State) (n len : Nat) : Bool :=
  match if s.isSet (CMP_RAW_QEN n) && !s.ringMember n then some (s.get (CMP_RAW_QUEUE n)) else none with
  | none => false
  | some q =>
    let x := s.que q
    let y := s.raw n
    x.gap.isSome || (x.refused.isSome && decide (x.allow < s.heldBytes q + len
      + (y.cur.map RawTile.size).getD 0 + y.closing.foldl (fun a t => a + t.size) 0))

/-- One raw sample of slot n at an instant (R178, R331, R367). -/
def State.rawTake (s : State) (n : Nat) (t : Int) (v : Smp) : State :=
  if s.fget (CHP_CTL_RAW n) ≠ 1 || !s.isSet (CMP_RAW_STAT_ASSIGNED n) || !s.rawGoes n then s
  else if s.rawFull n (2 * s.rawCh n) then
    let k := s.anchorOf (s.slot n).grid t
    (s.cutTile n false false false).placeholder (s.get (CMP_RAW_QUEUE n)) k k
  else
    let x := s.raw n
    let tile := x.cur.getD (s.newTile n t)
    let tr := s.get (CHP_RSM_STAT_TRACK n)
    let t1 := { tile with smps := ⟨v.re, v.im, v.flags, tr ≠ 1 && tr ≠ 4⟩ :: tile.smps }
    let size := 2 ^ (if t1.ring then s.get TRG_RING_CTL_TILE_LOG2 else s.get (CMP_RAW_TILE_LOG2 n))
    if size < t1.size + 2 * t1.ch then s.setRaw n { x with cur := none, closing := x.closing ++ [t1] }
    else s.setRaw n { x with cur := some t1 }

/-! ## Storing in the ring (R307, R370) -/

/-- A capture takes samples of a tile: some instant of the tile lies in the member's window. -/
def tileMeets (t : RingTile) (from_ to_ : Int) : Bool :=
  let p : Int := max 1 t.period
  let k := max 0 (-((t.at0 - from_) / p))
  decide (k < t.count) && decide (t.at0 + k * p < to_)

/-- The oldest live tile whose plots no capture holds (R307). -/
def State.oldestFree (s : State) : Option RingTile :=
  let held := s.ringPlots (fun t => !t.holds.isEmpty)
  (s.ring.tiles.filter (fun t => t.live && !t.plots.any (fun p => held.contains p))).foldl (fun a t => match a with
    | none => some t
    | some b => if t.at0 < b.at0 then some t else a) none

/-- Drop the live tiles that a plot carries from the ring; plots that carry no other tile are freed, except the plot
itself. -/
def State.dropPlot (s : State) (p : Nat) : State :=
  let out := s.ring.tiles.filter (fun t => t.live && t.plots.contains p)
  let keep := s.ring.tiles.filter (fun t => !(t.live && t.plots.contains p))
  let others := ((out.flatMap (fun t => t.plots)).eraseDups).filter (fun q => q != p && !keep.any (fun t => t.plots.contains q))
  let s1 := { s with ring := { s.ring with tiles := keep, tails := s.ring.tails.filter (fun e => e.2.1 != p && !others.contains e.2.1) } }
  s1.freePlots others

/-- A plot for slot n's ring chain (R307, R356): granted, or the oldest plot that no capture holds, or none. -/
def State.ringAsk (s : State) (n : Nat) : Option Nat × State :=
  let used := (s.ringPlots (fun t => t.live)).length
  let room := used < 1024 * s.get TRG_RING_CTL_PLOTS && s.get (PLT_USED_V 0) < s.get (PLT_QUOTA_V 0) && s.sharedPool 0 ≠ 0
  let r : Option Nat × State := if room then s.takePlot 0 1 n 0 false else (none, s)
  match r with
  | (some id, s1) => (some id, s1)
  | (none, s1) => match s1.oldestFree with
    | none => (none, s1)
    | some t => match t.plots.head? with
      | none => (none, s1)
      | some p => let s2 := s1.dropPlot p
        (some p, s2.setPlot p { s2.plot p with kind := 1, owner := n, fill := 0, state := 1 })

/-- Plots for the rest of a tile: those taken, and the fill of the last. -/
def State.ringPlace (s : State) (n : Nat) : Nat → Nat → List Nat → Option (List Nat × Nat) × State
  | 0, _, acc => (some (acc, plotBytes), s)
  | fuel + 1, left, acc =>
    match s.ringAsk n with
    | (none, s1) => (none, s1.freePlots acc)
    | (some p, s1) =>
      let k := min left plotBytes
      let s2 := s1.setPlot p { s1.plot p with fill := k }
      if left ≤ plotBytes then (some (acc ++ [p], k), s2) else s2.ringPlace n fuel (left - k) (acc ++ [p])

/-- Cut a member's ring chain (R370): it holds nothing before the cut; open captures that need later samples close the
member with CLIP_END. -/
def State.ringCut (s : State) (n : Nat) : State :=
  let mine := s.ring.tiles.filter (fun t => t.slot == n && t.live)
  let tiles := s.ring.tiles.filterMap (fun t =>
    if t.slot == n && t.live then (if t.holds.isEmpty then none else some { t with live := false }) else some t)
  let gone := ((mine.filter (fun t => t.holds.isEmpty)).flatMap (fun t => t.plots)).eraseDups.filter (fun p =>
    !tiles.any (fun t => t.plots.contains p))
  let caps := s.captures.map (fun c => { c with members := c.members.map (fun m =>
    if m.slot = n && m.flags / 2 % 2 = 0 && m.flags / 16 = 0 &&
      !mine.any (fun t => decide (m.to_ ≤ t.to_)) then { m with flags := m.flags + 2 } else m) })
  let s1 := { s with captures := caps,
                     ring := { s.ring with tiles := tiles, tails := s.ring.tails.filter (fun e => e.1 != n),
                                           cut := n :: s.ring.cut.filter (fun x => x != n) } }
  ((s1.freePlots gone).raise evPLT_RING_CUT n).showRing

/-- Store a tile in the ring (R307): into the room of the member's tail plot, then into further plots; without one the
chain is cut. Open captures whose windows it meets hold it. -/
def State.ringStore (s : State) (n : Nat) (t : RawTile) (b : List Byte) : State :=
  let tail := s.ring.tails.find? (fun e => e.1 == n)
  let room := match tail with
    | some e => plotBytes - e.2.2
    | none => 0
  let head := min room b.length
  let r : Option (List Nat × Nat) × State :=
    if b.length ≤ room then (some ([], (tail.map (fun e => e.2.2)).getD 0 + b.length), s)
    else s.ringPlace n (b.length / plotBytes + 2) (b.length - head) []
  let lost : State → Bool := fun s => head ≠ 0 && b.length ≠ head && !s.ring.tails.any (fun e => e.1 == n)
  let r1 : Option (List Nat × Nat) × State := match r with
    | (some (ps, fill), s1) => if lost s1 then (match s1.ringPlace n 2 head [] with
        | (some (qs, _), s2) => (some (qs ++ ps, fill), s2)
        | (none, s2) => (none, s2.freePlots ps)) else (some (ps, fill), s1)
    | x => x
  match r1 with
  | (none, s1) => s1.ringCut n
  | (some (ps, fill), s1) =>
    let first := match s1.ring.tails.find? (fun e => e.1 == n) with
      | some e => if head ≠ 0 then [e.2.1] else []
      | none => []
    let all := first ++ ps
    let s2 := first.foldl (fun (s : State) p => s.setPlot p { s.plot p with fill := min plotBytes ((s.plot p).fill + head) }) s1
    let dst := t.at0 + (t.smps.length * t.period : Nat)
    let sm := t.smps.reverse
    let x : RingTile := { id := s2.ring.nextId, slot := n, at0 := t.at0, to_ := dst, period := t.period, count := sm.length,
                          bytes := b, plots := all, absent := t.absent,
                          loose := (List.range sm.length).filter (fun i => !(sm.getD i ⟨0, 0, 0, true⟩).placed) }
    let hold := (s2.captures.filter (fun c => c.members.any (fun m => m.slot == n && m.flags / 16 == 0
      && tileMeets x m.from_ m.to_))).map (fun c => c.seq)
    let caps := s2.captures.map (fun c => if hold.contains c.seq then { c with members := c.members.map (fun m =>
      if m.slot = n then { m with tiles := m.tiles ++ [x.id] } else m) } else c)
    let lastPlot := (all.getLast?).getD 0
    if !s2.isSet TRG_RING_CTL_EN && hold.isEmpty then (s2.freePlots ps).showRing
    else
      let on := s2.isSet TRG_RING_CTL_EN
      let ring := { s2.ring with tiles := s2.ring.tiles ++ [{ x with holds := hold, live := on }],
                                 nextId := s2.ring.nextId + 1,
                                 tails := (n, lastPlot, fill) :: s2.ring.tails.filter (fun e => e.1 != n),
                                 cut := s2.ring.cut.filter (fun y => y != n) }
      ({ s2 with captures := caps, ring := ring } : State).showRing

/-! ## Closing tiles (R317 to R320, R331, R334, R342) -/

/-- The flag words of a tile (R323): each the union over 256 instants. -/
def flagWords : List Nat → Nat → List Nat
  | _, 0 => []
  | l, m + 1 => (l.take 256).foldl (· ||| ·) 0 :: flagWords (l.drop 256) m

/-- The bytes of a raw tile of slot n. -/
def RawTile.encode (t : RawTile) (n : Nat) : List Byte :=
  let sm := t.smps.reverse
  let chans := if t.ch = 2 then [sm.map (fun x => x.re), sm.map (fun x => x.im)] else [sm.map (fun x => x.re)]
  sampleTile chans t.z t.policy n t.anchor t.lead t.period (flagWords (sm.map (fun x => x.flags)) (ceilDiv sm.length 256))
    (b2n t.short + 4 * b2n t.fault + 8 * b2n t.last)

/-- The damage an uncorrectable error leaves in a tile's coded bits (R342): which byte and how is free. -/
def State.damage (s : State) (fault : Bool) (b : List Byte) : List Byte × State :=
  if !fault || b.length ≤ 56 then (b, s)
  else
    let p := s.draw (b.length - 56)
    let v := p.2.draw 256
    (b.set (56 + p.1) (b.getD (56 + p.1) 0#8 ^^^ BitVec.ofNat 8 v.1), v.2)

/-- Close the oldest waiting raw tile of slot n: it goes to the ring, to its queue, and to the queues of the grants that copy
it (R331, R565). -/
def State.closeRaw (s : State) (n : Nat) : State :=
  let x := s.raw n
  match x.closing with
  | [] => s
  | t :: r =>
    let s1 := s.setRaw n { x with closing := r }
    let d := s1.damage t.fault (t.encode n)
    let s2 := if t.ring && (t.last || (s1.ringMember n && s1.isSet TRG_RING_CTL_EN)) then d.2.ringStore n t d.1 else d.2
    let g := (s2.slot n).grid
    let last := s2.anchorOf g (t.at0 + ((t.smps.length - 1) * t.period : Nat))
    (t.queue.toList ++ t.copies.map s2.grantQueue).foldl (fun (s : State) (q : Nat) =>
      s.offerUnit { queue := q, bytes := d.1, first := t.anchor, last := last,
                    kind := if t.queue = some q && !t.ring then 4 else 1 }) s2

/-- Close the oldest waiting record tile of queue q; `offered` is the compressor's coding (log entry 30). -/
def State.closeRec (s : State) (q : Nat) (offered : List Byte) : State :=
  let x := s.que q
  match x.closing with
  | [] => s
  | (t, tf) :: r =>
    let b := t.bytes.reverse
    (s.setQue q { x with closing := r }).offerUnit
      { queue := q, bytes := recordTile offered b q t.index (t.count.getD 0xFFFFFFFF) tf, first := t.index,
        last := t.index + b.length - 1, kind := 3 }

/-- TILE_CLOSE (R320, R331, R334): the oldest tile that waits for its header, of slot n or with `rec` of queue n. -/
def execTileClose (rec : Bool) (n : Nat) (offered : List Byte) (s : State) : Host.Outcome State Fault Refusal :=
  .next (if rec then s.closeRec n offered else s.closeRaw n)

/-- RECORD_TILE_FLUSH (R334, R355): the flush interval of queue q's tile has passed since its first byte. -/
def execRecordTileFlush (q : Nat) (s : State) : Host.Outcome State Fault Refusal :=
  match (s.que q).tile with
  | none => .next s
  | some t =>
    let f := s.get (QUE_CFG5_FLUSH q)
    if f = 0 || s.mt < t.start + ((f * mtMs : Nat) : Int) then .next s else .next (s.recShort q)

/-- A stalled raw stream or record stream of queue q is shown (R335): ENC_STALL once per stall. -/
def State.encStall (s : State) (q : Nat) : State :=
  let slots := s.raws.filter (fun e => s.isSet (CMP_RAW_QEN e.1) && s.get (CMP_RAW_QUEUE e.1) = q
    && s.isSet (CMP_RAW_STAT_ASSIGNED e.1))
  let s1 := slots.foldl (fun (s : State) e => (s.put (CMP_RAW_STAT_STALL_SEEN e.1) 1).raise evCMP_ENC_STALL e.1) s
  if s1.isSet (QUE_CFG0_REC q) then s1.raise evCMP_ENC_STALL q [] (s1.get (QUE_CFG0_BOROUGH q)) else s1

/-- Write the front unit of queue q, with ENC_STALL where its compressor is refused (R335). -/
def State.writeStep (s : State) (q : Nat) : State :=
  let s1 := s.writeFront q
  if s1.dataQueue q && (s1.que q).refused.isSome && (s.que q).refused.isNone then s1.encStall q else s1

/-- Queue q takes units again: ENC_RESUME for each slot whose raw path writes it, and for a record-mode queue (R335). -/
def State.encResumed (s : State) (q : Nat) : State :=
  let slots := s.raws.filter (fun e => s.isSet (CMP_RAW_QEN e.1) && s.get (CMP_RAW_QUEUE e.1) = q
    && s.isSet (CMP_RAW_STAT_ASSIGNED e.1))
  let s2 := slots.foldl (fun (s : State) e => s.raise evCMP_ENC_RESUME e.1) s
  if s2.isSet (QUE_CFG0_REC q) then s2.raise evCMP_ENC_RESUME q [] (s2.get (QUE_CFG0_BOROUGH q)) else s2

/-- ENC_RESUME (R335): a plot is granted to a stalled compressor stream of queue q and it resumes at the exact bit. -/
def execEncResume (q : Nat) (s : State) : Host.Outcome State Fault Refusal :=
  if (s.que q).refused.isNone then .next s
  else
    let s1 := s.writeFront q
    if (s1.que q).refused.isSome then .next s1
    else
      .next (s1.encResumed q)

/-- An uncorrectable error in compressor e (R342): the tiles in progress close with ENC_FAULT. -/
def State.cmpFault (s : State) (e : Nat) : State :=
  let s1 := s.raws.foldl (fun (s : State) x =>
    if s.isSet (CMP_RAW_STAT_ASSIGNED x.1) && s.get (CMP_RAW_STAT_ENGINE x.1) = e then s.cutTile x.1 false false true else s) s
  let s2 := s1.quesOn.foldl (fun (s : State) q =>
    let y := s.que q
    match y.tile with
    | some t => if y.engine = some e then s.setQue q { y with tile := none, closing := y.closing ++ [(t, 5)] } else s
    | none => s) s1
  ((s2.put (CMP_ENG_STATE e) 2).put CMP_STAT_FAULT_SEEN 1).raise evCMP_ENG_FAULT e

/-- CMP_ENG_FAULT (R342): an error in a compressor, a corrected one or an uncorrectable one. -/
def execCmpEngFault (x : EccError) (s : State) : Host.Outcome State Fault Refusal :=
  .next (if x.corrected then s.put CMP_STAT_ECC_SEEN 1 else s.cmpFault x.eng)

/-! ## Ring control (R308) -/

/-- Free the oldest unheld ring plots down to a limit. -/
def State.ringTrim (s : State) (limit : Nat) : Nat → State
  | 0 => s
  | fuel + 1 =>
    if (s.ringPlots (fun t => t.live)).length ≤ limit then s
    else match s.oldestFree with
      | none => s
      | some t => match t.plots.head? with
        | none => s
        | some p => ((s.dropPlot p).freePlot p).ringTrim limit fuel

/-- A write of `TRG_RING_CTL` (R308). -/
def State.ringCtlWrite (s : State) (w : Wr) : State :=
  let old := s.rn TRG_RING_CTL
  let w1 := if bit old 31 then Wr.keep w old 28 24 else w
  let s1 := s.mergeRaw TRG_RING_CTL.key w1
  let off := bit old 31 && !s1.isSet TRG_RING_CTL_EN
  let s2 := if off then s1.raws.foldl (fun (s : State) e => match e.2.cur with
      | some t => if t.ring && t.queue.isNone then s.cutTile e.1 true false false else s
      | none => s) s1 else s1
  let fuel := (s2.ringPlots (fun t => t.live)).length + 1
  let s3 := s2.ringTrim (if off then 0 else 1024 * s2.get TRG_RING_CTL_PLOTS) fuel
  let s4 := if off then { s3 with ring := { s3.ring with tiles := s3.ring.tiles.map (fun t => { t with live := false }),
                                                         tails := [], cut := [] } } else s3
  s4.showRing

/-- RING_CTL_WRITE (R308): a write of `TRG_RING_CTL`. -/
def execRingCtlWrite (w : Wr) (s : State) : Host.Outcome State Fault Refusal :=
  .next (s.pfOnly w 0xE0010 (fun s => s.ringCtlWrite w))

end Sys2Proof.Machine
end

