-- ==== Sys2Proof/Machine/Grants.lean ====
section
/-! DEFINITION. Grants of slot data: suspension and resumption of the copies (R563 to R566). -/
namespace Sys2Proof.Machine

/-- The `kinds` word of a grant. -/
def State.grantKinds (s : State) (g : Nat) : Nat := s.rn (BRG_GRANT1 g)

/-- The valid grants that copy units into queue q (R563). -/
def State.grantsInto (s : State) (q : Nat) : List Nat :=
  (List.range 2048).filter (fun g => s.isSet (BRG_GRANT0_VALID g) && bits (s.grantKinds g) 31 29 != 0 && s.grantQueue g == q)

/-- The units in progress of a grant's slot are not copied by it any longer (R565, R566). -/
def State.dropCopies (s : State) (g : Nat) : State :=
  let n := s.get (BRG_GRANT0_SLOT g)
  let less := fun (l : List Nat) => l.filter (fun d => d != g)
  let x := s.slot n
  let p : OutPath := { x.path with
    volt := x.path.volt.map (fun (v : VItem) => { v with dests := less v.dests }),
    integ := x.path.integ.map (fun (v : Integ) => { v with dests := less v.dests }),
    histo := x.path.histo.map (fun (v : Histo) => { v with dests := less v.dests }) }
  let y := s.raw n
  let cut := fun (t : RawTile) => { t with copies := less t.copies }
  let s1 := if p = x.path then s else s.setSlot n { x with path := p }
  if y.cur.isNone && y.closing.isEmpty then s1
  else s1.setRaw n { y with cur := y.cur.map cut, closing := y.closing.map cut }

/-- The index from which the next unit of a grant counts (R566): of the unit in progress, or the next index of the slot; of the
voltage stream, otherwise of the integrations, otherwise of the raw tiles (DEDUCED, log entry 33). -/
def State.grantFirst (s : State) (g : Nat) : Nat :=
  let n := s.get (BRG_GRANT0_SLOT g)
  let x := s.slot n
  let k := s.grantKinds g
  if bit k 31 then (x.path.volt.map (fun v => v.first)).getD x.nextJ
  else if bit k 30 then (x.path.integ.map (fun a => a.i)).getD (x.nextJ / 2 ^ bits (s.frd (CHP_RDC_CTL n)).toNat 22 18)
  else ((s.raw n).cur.map (fun t => t.anchor)).getD x.nextK

/-- The last index that a resumed grant does not copy (R566): the planned end of the unit in progress, or the index before the
next one (DEDUCED, log entry 33). -/
def State.grantLast (s : State) (g : Nat) : Nat :=
  let n := s.get (BRG_GRANT0_SLOT g)
  let x := s.slot n
  let k := s.grantKinds g
  if bit k 31 then (x.path.volt.map (fun v => v.first / 256 * 256 + 255)).getD (x.nextJ - 1)
  else if bit k 30 then (x.path.integ.map (fun a => a.i)).getD (x.nextJ / 2 ^ bits (s.frd (CHP_RDC_CTL n)).toNat 22 18 - 1)
  else x.nextK - 1

/-- Suspend a grant (R566). -/
def State.grantSuspend (s : State) (g : Nat) : State :=
  if s.isSet (BRG_GRANT0_SUSP g) then s
  else
    let b := s.get (BRG_GRANT0_GRANTEE g)
    let at_ := s.grantFirst g
    (((s.dropCopies g).put (BRG_GRANT0_SUSP g) 1).put (BRG_STAT_SUSP_SEEN b) 1).raise evBRG_GRANT_SUSPENDED b [.w4 g, .w8 at_] b

/-- Resume a grant (R566). -/
def State.grantResume (s : State) (g : Nat) : State :=
  if !s.isSet (BRG_GRANT0_SUSP g) then s
  else
    let b := s.get (BRG_GRANT0_GRANTEE g)
    (s.put (BRG_GRANT0_SUSP g) 0).raise evBRG_GRANT_RESUMED b [.w4 g, .w8 (s.grantLast g)] b

/-- The grants into queue q follow its state: suspended while it is not ON (R566). -/
def State.grantSync (s : State) (q : Nat) : State :=
  (s.grantsInto q).foldl (fun (s : State) g =>
    if s.get (QUE_STAT_STATE q) = 1 then s.grantResume g else s.grantSuspend g) s

end Sys2Proof.Machine
end

