-- ==== Sys2Proof/Machine/Float32.lean ====
section
/-! DEFINITION. IEEE 754 binary32 as words: multiplication and addition rounded to nearest even, subnormals kept (R271). -/
namespace Sys2Proof.Machine

/-- The quiet NaN that the hub writes. -/
def f32NaN : Nat := 0x7FC00000

/-- Sign bit, exponent field and fraction of a word. -/
def f32Sign (w : Nat) : Nat := bits w 31 31
/-- Whether a word is an infinity or a NaN. -/
def f32Special (w : Nat) : Bool := bits w 30 23 == 255
/-- Whether a word is a NaN. -/
def f32IsNaN (w : Nat) : Bool := f32Special w && bits w 22 0 != 0

/-- The significand of a finite word. -/
def f32Mant (w : Nat) : Nat := if bits w 30 23 = 0 then bits w 22 0 else bits w 22 0 + 2 ^ 23

/-- The exponent of a finite word: its value is significand × 2^(exponent − 149). -/
def f32Exp (w : Nat) : Nat := if bits w 30 23 = 0 then 0 else bits w 30 23 - 1

/-- The signed significand. -/
def f32Int (w : Nat) : Int := if f32Sign w = 1 then -(f32Mant w : Int) else f32Mant w

/-- The word nearest to m × 2^(e − 298), ties to even, with a sign; overflow gives infinity. -/
def f32Round (sign m e : Nat) : Nat :=
  if m = 0 then sign * 2 ^ 31
  else
    let q := max (Nat.log2 m + e) 172 - 23
    let r : Nat := if q ≤ e then m * 2 ^ (e - q) else (roundEven (m : Int) (q - e)).toNat
    let enc := (q - 149) * 2 ^ 23 + r
    sign * 2 ^ 31 + (if 0x7F800000 ≤ enc then 0x7F800000 else enc)

/-- Product of two words. -/
def f32Mul (a b : Nat) : Nat :=
  let s := (f32Sign a + f32Sign b) % 2
  if f32IsNaN a || f32IsNaN b then f32NaN
  else if f32Special a || f32Special b then
    if (!f32Special a && f32Mant a == 0) || (!f32Special b && f32Mant b == 0) then f32NaN else s * 2 ^ 31 + 0x7F800000
  else f32Round s (f32Mant a * f32Mant b) (f32Exp a + f32Exp b)

/-- Sum of two words. -/
def f32Add (a b : Nat) : Nat :=
  if f32IsNaN a || f32IsNaN b then f32NaN
  else if f32Special a then (if f32Special b && f32Sign a != f32Sign b then f32NaN else a)
  else if f32Special b then b
  else
    let v := f32Int a * (2 ^ f32Exp a : Nat) + f32Int b * (2 ^ f32Exp b : Nat)
    if v = 0 then (if f32Sign a = 1 && f32Sign b = 1 then 2 ^ 31 else 0)
    else f32Round (if v < 0 then 1 else 0) v.natAbs 149

/-- The word of n × 2^-k, exact for |n| < 2^24. -/
def f32Of (n : Int) (k : Nat) : Nat := f32Round (if n < 0 then 1 else 0) n.natAbs (298 - k)

/-- Horner's rule over coefficients, the highest order first (R271). -/
def f32Poly (x : Nat) : List Nat → Nat
  | [] => 0
  | c :: r => r.foldl (fun a b => f32Add (f32Mul a x) b) c

end Sys2Proof.Machine
end

