-- ==== Sys2Proof/Machine/Sfe.lean ====
section
/-! DEFINITION. The structure front end: excitation, sequencers, urgent requests, blanking, linearisation and records
(chapter 08). -/
namespace Sys2Proof.Machine

/-! ## State and fields -/

/-- A precision converter's sequencer. -/
def State.pcv (s : State) (p : Nat) : Pcv := mapGet {} p s.pcvs
/-- Put a precision converter's sequencer. -/
def State.setPcv (s : State) (p : Nat) (x : Pcv) : State := { s with pcvs := mapPut {} p x s.pcvs }
/-- What a structure channel holds. -/
def State.sfeCh (s : State) (c : Nat) : SfeCh := mapGet {} c s.sfeChs
/-- Put what a structure channel holds. -/
def State.setSfeCh (s : State) (c : Nat) (x : SfeCh) : State := { s with sfeChs := mapPut {} c x s.sfeChs }
/-- What an excitation output holds. -/
def State.exc (s : State) (q : Nat) : Exc := mapGet {} q s.excs
/-- Put what an excitation output holds. -/
def State.setExc (s : State) (q : Nat) (x : Exc) : State := { s with excs := mapPut {} q x s.excs }

/-- Keys of the registers of the SFE and PCV blocks with staged fields. -/
def sfeKeys : List Nat :=
  [SFE_BLANK.key, SFE_CM_CFG.key] ++ (List.range 32).map (fun q => (SFE_EXC_CTL q).key)
    ++ (List.range 128).map (fun c => (SFE_CH_CFG c).key) ++ (List.range 16).map (fun p => (SFE_ROUTE p).key)
    ++ (List.range 16).map (fun p => (PCV_SEQ_CTL p).key)
    ++ (List.range 16).flatMap (fun p => (List.range 16).map (fun e => (PCV_SEQ p e).key))
    ++ (List.range 128).flatMap (fun c => (List.range 24).map (fun i => (SFE_LIN c i).key))

/-- Whether a key lies in the SFE or PCV block. -/
def isSfeKey (k : Nat) : Bool := decide (0x130008 ≤ k) && decide (k < 0x150000)

/-- Show whether a shadow of the front end differs from the value in force. -/
def State.sfeDirty (s : State) : State :=
  let ks := ((s.regs.map (fun e => e.1)) ++ s.force.map (fun e => e.1)).filter isSfeKey
  s.put SFE_STAT_SHADOW_DIRTY (b2n (s.dirty ks))

/-- The word of a key in the shadow. -/
def State.shadowAt (s : State) (k : Nat) : Nat := match regOfKey k with
  | some r => s.rn r
  | none => 0

/-- The word of a key in force. -/
def State.forceAt (s : State) (k : Nat) : Nat := match regOfKey k with
  | some r => (s.frd r).toNat
  | none => 0

/-- The word of a key as it will be in force once the front end's staged changes have taken effect. -/
def State.feNext (s : State) (k : Nat) : Nat :=
  s.staged.foldl (fun a x => if x.unit == .fe then
    x.vals.foldl (fun a v => if v.key = k then a - (a &&& v.mask) + (v.val &&& v.mask) else a) a else a) (s.forceAt k)

/-- A reading of keys with some values put over it. -/
def overlay (f : Nat → Nat) (vals : List SVal) (k : Nat) : Nat :=
  vals.foldl (fun a v => if v.key = k then a - (a &&& v.mask) + (v.val &&& v.mask) else a) (f k)

/-- The state of the front end: 0 IDLE, 1 PENDING, 2 BOUND. -/
def State.feState (s : State) : Nat := s.get SFE_STAT_STATE

/-- The grid of the front end. -/
def State.feGrid (s : State) : Nat := s.fget SFE_CTL_GRID

/-- Whether sequencers run: BOUND, or PENDING on an unbind. -/
def State.feRuns (s : State) : Bool :=
  s.feState == 2 || (s.feState == 1 && !s.staged.any (fun x => x.unit == .fe && x.op == .bind)
    && !s.fe.waits.any (fun x => x.bind.isSome))

/-! ## Checks (R257) -/

/-- The list of a converter's configuration words that a reading gives: the words of entries 0 to LEN − 1. -/
def seqList (f : Nat → Nat) (p : Nat) : List Nat :=
  (List.range (bits (f (PCV_SEQ_CTL p).key) 20 16)).map (fun e => f (PCV_SEQ p e).key)

/-- List duration in units of 100 ns (R259). -/
def listUnits (f : Nat → Nat) (p : Nat) : Nat :=
  (seqList f p).foldl (fun a w => a + 2 ^ bits w 7 4 * bits (f (PCV_SEQ_CTL p).key) 9 0) 0

/-- Check 4: ranges; the cycle period where a grid is given. -/
def State.feRangeOk (s : State) (g : Option Nat) (f : Nat → Nat) : Bool :=
  let seqs := (List.range 16).all (fun p =>
    let w := f (PCV_SEQ_CTL p).key
    let en := bit w 31
    decide (bits w 29 24 ≤ 34) && (!en || (decide (1 ≤ bits w 20 16) && decide (bits w 20 16 ≤ 16)
        && decide (5 ≤ bits w 9 0) && decide (bits w 9 0 ≤ 1000)))
      && (List.range 16).all (fun e => decide (bits (f (PCV_SEQ p e).key) 7 4 ≤ 8))
      && (match g with
        | none => true
        | some g => !en || (decide (10 * s.gridNum g ≤ 2 ^ bits w 29 24 * s.gridDen g * 1000000)
            && decide (2 ^ bits w 29 24 * s.gridDen g ≤ 4 * s.gridNum g)))
      && s.routeOk (bit (f (SFE_ROUTE p).key) 31) (bits (f (SFE_ROUTE p).key) 13 0) 0)
  let chans := (List.range 128).all (fun c =>
    let w := f (SFE_CH_CFG c).key
    decide (bits w 7 0 ≤ bits w 15 8) && (!bit w 24 || !bit (f (SFE_CH_CFG (bits w 23 17)).key) 24))
  decide (1 ≤ bits (f SFE_CM_CFG.key) 7 0) && seqs && chans

/-- Check 5: each enabled converter's list lasts at most 7/8 of its cycle period. -/
def State.feBudgetOk (s : State) (g : Option Nat) (f : Nat → Nat) : Bool :=
  match g with
  | none => true
  | some g => (List.range 16).all (fun p =>
    let w := f (PCV_SEQ_CTL p).key
    !bit w 31 || decide (8 * listUnits f p * s.gridNum g ≤ 7 * 2 ^ bits w 29 24 * s.gridDen g * 10000000))

/-- The checks of R257 in order, for BIND (0), UNBIND (1) and COMMIT (2) with the configuration `f`. -/
def State.feCheck (s : State) (act : Nat) (g : Option Nat) (k : Nat) (f : Nat → Nat) : Nat :=
  if (act = 0 && s.feState ≠ 0) || (act = 1 && s.feState ≠ 2) then 1
  else if !s.awake 91 || (act ≠ 1 && !s.awake 90 && (List.range 32).any (fun q => bit (f (SFE_EXC_CTL q).key) 31)) then 2
  else if act = 0 && !s.gridValid (g.getD 0) then 3
  else if act ≠ 1 && !s.feRangeOk g f then 4
  else if act ≠ 1 && !s.feBudgetOk g f then 5
  else if g.isSome && s.stageFull .fe k then 6
  else 0

/-! ## Excitation outputs (R247 to R253) -/

/-- The state of an output: 0 HIGH_Z, 1 RAMP, 2 DRIVING. -/
def State.excState (s : State) (q : Nat) : Nat := s.get (SFE_EXC_STAT_STATE q)

/-- An enable or a range switch of an output takes effect now: EXC_STEP counts from it (R252). -/
def State.excStep (s : State) (q : Nat) (t : Int) : State :=
  s.setExc q { s.exc q with steps := t :: (s.exc q).steps }

/-- Output q goes to HIGH_Z at once (R249, R250): it is in no current limit, and no measurement stands. -/
def State.excOff (s : State) (q : Nat) : State :=
  ((s.put (SFE_EXC_STAT_STATE q) 0).put (SFE_EXC_STAT_ILIM q) 0).setExc q { s.exc q with bad := 0, good := 0 }

/-- Apply an output's enable and range in force at time t (R249 to R251); while its domain sleeps it stays HIGH_Z (R277). -/
def State.excApply (s : State) (t : Int) (q : Nat) : State :=
  let en := s.fget (SFE_EXC_CTL_EN q) = 1 && s.awake 90
  let r := s.fget (SFE_EXC_CTL_RANGE q)
  let s1 := if s.get (SFE_EXC_STAT_RANGE_ACT q) = r then s
    else (((s.put (SFE_EXC_STAT_RANGE_ACT q) r).put (SFE_EXC_STAT_SETTLING q) 0).excStep q t).raise evSFE_RANGE_SWITCH q [.w4 r]
  if en && s1.excState q = 0 then
    let s2 := (s1.put (SFE_EXC_STAT_STATE q) 1).excStep q t
    s2.setExc q { s2.exc q with rampFrom := t }
  else if !en && s1.excState q ≠ 0 then s1.excOff q
  else s1

/-- EXC_RAMP_END (R249): 200 µs after its enable a ramping output reaches its range. -/
def execExcRampEnd (q : Nat) (s : State) : Host.Outcome State Fault Refusal :=
  .next (if s.excState q = 1 && decide ((s.exc q).rampFrom + ((200 * mtUs : Nat) : Int) ≤ s.mt) then s.put (SFE_EXC_STAT_STATE q) 2
    else s)

/-- The range of an output in 0.1 mV. -/
def excRange (r : Nat) : Nat := match r with
  | 0 => 5000
  | 1 => 10000
  | 2 => 25000
  | _ => 50000

/-- Show whether an output is in current limit; entering it raises EXC_ILIM (R253). -/
def State.excLimit (s : State) (q : Nat) (limit : Bool) : State :=
  let s1 := s.put (SFE_EXC_STAT_ILIM q) (b2n limit)
  if limit && !s.isSet (SFE_EXC_STAT_ILIM q) then s1.raise evSFE_EXC_ILIM q else s1

/-- EXC_SENSE_MEASURE (R253): the sense voltage (0.1 mV) of a DRIVING output is measured; FAULT follows three
measurements in a row. -/
def execExcSenseMeasure (q sense : Nat) (limit : Bool) (s : State) : Host.Outcome State Fault Refusal :=
  if s.excState q ≠ 2 then .next s
  else
    let r := excRange (s.get (SFE_EXC_STAT_RANGE_ACT q))
    let bad := limit || decide (100 * sense < 95 * r) || decide (102 * r < 100 * sense)
    let s1 := (s.put (SFE_EXC_STAT_SENSE q) (min sense 65535)).excLimit q limit
    let x := s1.exc q
    let y := if bad then { x with bad := min 3 (x.bad + 1), good := 0 } else { x with bad := 0, good := min 3 (x.good + 1) }
    let s2 := s1.setExc q y
    if y.bad = 3 && !s2.isSet (SFE_EXC_STAT_FAULT q) then
      .next (((s2.put (SFE_EXC_STAT_FAULT q) 1).put (SFE_EXC_STAT_FAULT_SEEN q) 1).raise evSFE_EXC_FAULT q [.w4 sense])
    else if y.good = 3 && s2.isSet (SFE_EXC_STAT_FAULT q) then
      .next ((s2.put (SFE_EXC_STAT_FAULT q) 0).raise evSFE_EXC_CLEAR q [.w4 sense])
    else .next s2

/-- CURRENT_LIMIT (R253): an output enters current limit. -/
def execCurrentLimit (q : Nat) (s : State) : Host.Outcome State Fault Refusal :=
  .next (if s.excState q = 0 then s else s.excLimit q true)

/-! ## Changes in force (R250, R261, R270) -/

/-- The first grid index at or after k that is a multiple of 2^d. -/
def multAt (k d : Nat) : Nat := ceilDiv k (2 ^ d) * 2 ^ d

/-- A converter latches its slot length and channel words, as at a cycle start (R261). -/
def State.latchSeq (s : State) (p : Nat) (x : Pcv) : Pcv :=
  { x with slot := s.fget (PCV_SEQ_CTL_SLOT p), chans := (List.range 8).map (fun c => (s.frd (SFE_CH_CFG (8 * p + c))).toNat) }

/-- A converter's sequencer meets the values in force at boundary k (R258, R261): a converter that is enabled afresh
starts at the first multiple of its cycle at or after the boundary and after its last cycle; a changed exponent waits until no old
cycle that has begun is cut short. -/
def State.seqApply (s : State) (k : Nat) (was p : Nat) : State :=
  let x := s.pcv p
  let w := (s.frd (PCV_SEQ_CTL p)).toNat
  let d := bits w 29 24
  let fresh := x.cycles.isEmpty
  if !bit w 31 then s
  else if !bit was 31 then
    s.setPcv p { s.latchSeq p x with dlog2 := d, nextK := multAt (if fresh then k else max k x.nextK) d, change := none }
  else if d = x.dlog2 && x.change.isNone then s
  else if fresh && decide (k ≤ x.nextK) then s.setPcv p { x with dlog2 := d, nextK := multAt k d, change := none }
  else
    let at_ := multAt k (max d x.dlog2)
    if x.nextK = at_ then s.setPcv p { x with dlog2 := d, change := none }
    else s.setPcv p { x with change := some (d, at_) }

/-- The coefficients of a channel in force, a[0][0] to a[5][3]. -/
def State.linWords (s : State) (c : Nat) : List Nat := (List.range 24).map (fun i => (s.frd (SFE_LIN c i)).toNat)

/-- New coefficients of a channel take effect at time t (R270): LIN_ERR ends, and both MRAM copies are written. -/
def State.linApply (s : State) (t : Int) (old : List Nat) (c : Nat) : State :=
  let new := s.linWords c
  if new = old then s
  else
    let s1 := (s.setSfeCh c { s.sfeCh c with lins := (t, old) :: (s.sfeCh c).lins }).put (SFE_CH_STAT_LIN_ERR c) 0
    let data : TrimCopy := { words := (List.range 24).map (fun i => (i, w32 (new.getD i 0))) }
    { s1 with nvm := s1.nvm ++ [⟨2, c, 0, false, data, 0, none⟩, ⟨2, c, 1, false, data, 0, none⟩] }

/-- Whether a selected BLANK line is asserted: `SFE_BLANK.MASK` in force selects (R267). -/
def State.feAsserted (s : State) : Bool :=
  s.blanks.any (fun e => bit (s.fget SFE_BLANK_MASK) e.1 && (match e.2.head? with
    | some x => x.to_.isNone
    | none => false))

/-- A change of `MASK` at time t that leaves no selected line asserted releases a pause (R267). -/
def State.pauseMask (s : State) (was : Bool) (t : Int) : State :=
  if was && !s.feAsserted then { s with fe := { s.fe with pause := s.fe.pause.map (fun x => { x with release := t }) } } else s

/-- Put a list of the front end's values in force at time t and grid index k. -/
def State.feApply (s : State) (t : Int) (k : Nat) (vals : List SVal) : State :=
  let chans := ((vals.filter (fun v => decide (0x138000 ≤ v.key) && decide (v.key < 0x13C000))).map
    (fun v => (v.key - 0x138000) / 0x80)).eraseDups
  let lins := chans.map (fun c => (c, s.linWords c))
  let ctl := (List.range 16).map (fun p => (p, (s.frd (PCV_SEQ_CTL p)).toNat))
  let s1 := (s.forceVals vals).pauseMask s.feAsserted t
  let s2 := (List.range 32).foldl (fun s q => s.excApply t q) s1
  let s3 := ctl.foldl (fun s e => s.seqApply k e.2 e.1) s2
  (lins.foldl (fun s e => s.linApply t e.2 e.1) s3).sfeDirty

/-! ## BIND, UNBIND and COMMIT (R256, R257) -/

/-- Put the front end's code. -/
def State.feCode (s : State) (c : Nat) : State := s.put SFE_STAT_CODE c

/-- Put the front end's state; each change raises SEQ_BOUND (R256). -/
def State.feSet (s : State) (st : Nat) : State :=
  if s.feState = st then s else (s.put SFE_STAT_STATE st).raise evSFE_SEQ_BOUND 65535 [.w4 st]

/-- Outputs whose range a list of values changes: their new drivers have to settle first (R251). -/
def State.rangeChanges (s : State) (vals : List SVal) : List Nat :=
  (List.range 32).filter (fun q => vals.any (fun v => v.key == (SFE_EXC_CTL q).key && v.mask % 4 == 3
    && v.val % 4 != s.get (SFE_EXC_STAT_RANGE_ACT q)))

/-- Stage the front end's values; with no grid they apply now. The boundary is that of `act`, or the first 2.0 µs ahead; `none` is
TOO_LATE. -/
def State.feStage (s : State) (action : Nat) (act : Option Int) (vals : List SVal) : Option State :=
  if s.feState = 0 then some (s.feApply s.mt 0 vals)
  else match s.stageIndex s.feGrid act with
  | none => none
  | some k => some ((s.stage ⟨.fe, s.feGrid, k, action, vals, .fields⟩).sfeDirty)

/-- A change waits until the drivers of its outputs' new ranges have settled (R251). -/
def State.feWait (s : State) (x : FeWait) : State :=
  let s1 := x.outs.foldl (fun s q => s.put (SFE_EXC_STAT_SETTLING q) 1) s
  { s1 with fe := { s1.fe with waits := s1.fe.waits ++ [x] } }

/-- The new ranges of outputs `qs` among a list of values, and the values without them. -/
def partRanges (qs : List Nat) (vals : List SVal) : List (Nat × SVal) × List SVal :=
  (qs.flatMap (fun q => (vals.filter (fun v => v.key == (SFE_EXC_CTL q).key)).map (fun v => (q, ⟨v.key, 3, v.val % 4⟩))),
    vals.map (fun v => if qs.any (fun q => v.key == (SFE_EXC_CTL q).key) then ⟨v.key, v.mask - v.mask % 4, v.val⟩ else v))

/-- Commit values of the front end (R250, R251): a commit that changes a range waits as a whole for the new driver; while the front end
is IDLE only the new ranges wait, each for its own driver, and everything else applies at once. `shadow` holds what is written into the
shadows once the change is staged. -/
def State.feCommit (s : State) (action : Nat) (act : Option Int) (vals : List SVal) (shadow : List SVal := []) : Option State :=
  match s.rangeChanges vals with
  | [] => s.feStage action act vals
  | qs =>
    if s.feState = 0 then
      let a := partRanges qs vals
      some (a.1.foldl (fun s e => s.feWait ⟨action, [e.2], act, [e.1], none, []⟩) (s.feApply s.mt 0 a.2))
    else some (s.feWait ⟨action, vals, act, qs, none, shadow⟩)

/-- The boundary that a change of the front end would meet now. -/
def State.feIndex (s : State) (g : Option Nat) : Nat := match g with
  | none => 0
  | some g => s.boundaryAt g (s.mt + stageLead)

/-- The grid of a commit: the front end's, none while IDLE. -/
def State.feGridOpt (s : State) : Option Nat := if s.feState = 0 then none else some s.feGrid

/-- Whether a bind has to wait for outputs whose range it changes (R251). -/
def State.bindWaits (s : State) : Bool := !(s.rangeChanges (s.snapshot sfeKeys)).isEmpty

/-- Stage a bind of the front end on grid g at boundary k; it waits for outputs whose range it changes (R251, R256). -/
def State.feBind (s : State) (g k action : Nat) (act : Option Int) : State :=
  let s1 := s.fwr SFE_CTL (w32 (setBits (s.frd SFE_CTL).toNat 27 25 g))
  let vals := s1.snapshot sfeKeys
  match s1.rangeChanges vals with
  | [] => ((s1.put SFE_CTL_GRID g).stage ⟨.fe, g, k, action, vals, .bind⟩).feSet 1
  | qs => (s1.feWait ⟨action, vals, act, qs, some g, [⟨SFE_CTL.key, 7 * 2 ^ 25, g * 2 ^ 25⟩]⟩).feSet 1

/-- Stage the end of the sequencers at boundary k; later changes are discarded (R256). -/
def State.feUnbind (s : State) (k action : Nat) : State :=
  let s1 := { s with staged := s.staged.filter (fun y => !(y.unit == UnitId.fe && decide (k < y.index))) }
  ((s1.stage ⟨.fe, s1.feGrid, k, action, [], .unbind⟩).feSet 1).abortDiscarded

/-- A write of `SFE_CTL`: the grid merges, then BIND, COMMIT and UNBIND act. -/
def State.sfeCtlWrite (s : State) (w : Wr) : State :=
  let s1 := s.mergeRaw SFE_CTL.key w
  let s2 := if w.hits 0 then
      let g := s1.get SFE_CTL_GRID
      let k := s1.feIndex (some g)
      let c := s1.feCheck 0 (some g) k s1.shadowAt
      if c = 0 then (s1.feBind g k commitAction none).feCode 0 else s1.feCode c
    else s1
  let s3 := if w.hits 2 then
      let c := s2.feCheck 2 s2.feGridOpt (s2.feIndex s2.feGridOpt) s2.shadowAt
      if c = 0 then ((s2.feCommit commitAction none (s2.snapshot sfeKeys)).getD s2).feCode 0 else s2.feCode c
    else s2
  if w.hits 1 then
    let k := s3.feIndex (some s3.feGrid)
    let c := s3.feCheck 1 (some s3.feGrid) k s3.shadowAt
    if c = 0 then (s3.feUnbind k commitAction).feCode 0 else s3.feCode c
  else s3

/-- SFE_BIND (R256): a write of `SFE_CTL` with `BIND`. -/
def execSfeBind (w : Wr) (s : State) : Host.Outcome State Fault Refusal :=
  .next (s.pfOnly w SFE_CTL.key (fun s => s.sfeCtlWrite w))

/-- SFE_UNBIND (R256): a write of `SFE_CTL` with `UNBIND`. -/
def execSfeUnbind (w : Wr) (s : State) : Host.Outcome State Fault Refusal :=
  .next (s.pfOnly w SFE_CTL.key (fun s => s.sfeCtlWrite w))

/-- SFE_COMMIT (R256): a write of `SFE_CTL` with `COMMIT`. -/
def execSfeCommit (w : Wr) (s : State) : Host.Outcome State Fault Refusal :=
  .next (s.pfOnly w SFE_CTL.key (fun s => s.sfeCtlWrite w))

/-- Put masked bits into the shadow of a staged register. -/
def State.shadowMask (s : State) (v : SVal) : State :=
  let old := s.shadowAt v.key
  s.mergeRaw v.key (pf (old - (old &&& v.mask) + (v.val &&& v.mask)))

/-- A change that has settled is refused as a whole (R30, R33, R251): nothing of it has changed; a bind leaves the front end IDLE. -/
def State.feRefuse (s : State) (x : FeWait) (status : Nat) : State :=
  let s1 := if x.bind.isSome then s.feSet 0 else s
  (if x.action = commitAction then s1.feCode 6 else s1).finishCmd x.action status []

/-- A change whose outputs have all settled is staged, or, with the front end IDLE, takes effect; an activation time that lies too near
and a fifth pending boundary refuse it (R33, R251). -/
def State.feSettled (s : State) (x : FeWait) : State :=
  if x.bind.isNone && s.feState = 0 then
    let t := s.feApply s.mt 0 x.vals
    if t.fe.waits.any (fun y => y.action == x.action) then t else t.finishCmd x.action 0 (t.commitRecord 0 0 t.mt)
  else
    let g := x.bind.getD s.feGrid
    match s.stageIndex g x.act with
    | none => s.feRefuse x 9
    | some k =>
      if s.stageFull .fe k then s.feRefuse x 0xA
      else
        let t := ((x.shadow.foldl State.shadowMask s).stage
          ⟨.fe, g, k, x.action, x.vals, if x.bind.isSome then .bind else .fields⟩).sfeDirty
        { t with cmds := t.cmds.map (fun c => if c.action = x.action then { c with grid := g, index := k } else c) }

/-- EXC_RANGE_SETTLED (R251): the driver of output q's new range has settled; the commits that waited for it alone are
staged, or, with the front end IDLE, take effect. -/
def execExcRangeSettled (q : Nat) (s : State) : Host.Outcome State Fault Refusal :=
  if !s.isSet (SFE_EXC_STAT_SETTLING q) then .next s
  else
    let l := s.fe.waits.map (fun x => { x with outs := x.outs.filter (fun y => y != q) })
    let s1 : State := { s with fe := { s.fe with waits := l.filter (fun x => !x.outs.isEmpty) } }
    .next ((l.filter (fun x => x.outs.isEmpty)).foldl (fun s x => s.feSettled x) (s1.put (SFE_EXC_STAT_SETTLING q) 0))

/-! ## Cycles and entries (R258 to R260) -/

/-- 100 ns in units of 2^-16 ns. -/
def slotUnit : Int := ((100 * mtNs : Nat) : Int)

/-- The Meridian time of the tick of the phase clock nearest to a time, by the time base in force. -/
def State.tickNear (s : State) (t : Int) : Int :=
  let r := (131072 * s.tb.effRate).toNat
  s.tb.offset + divRound (divRound ((t - s.tb.offset) * (5 * 2 ^ 48 * 1000000000)) (max 1 r) * (r : Int)) (5 * 2 ^ 48 * 1000000000)

/-- The hold instant of slot i of an entry (R259): a slot is acquired but for its last 250 ns, and the hold falls on a tick of the phase
clock, the nearest (DESIGN CHOICE, log entry 73). -/
def State.holdAt (s : State) (start : Int) (slot i : Nat) : Int :=
  s.tickNear (start + ((i + 1) * slot : Nat) * slotUnit - ((250 * mtNs : Nat) : Int))

/-- The instant of an entry: the mean of its hold instants. -/
def State.entryInstant (s : State) (start : Int) (slot avg : Nat) : Int :=
  divRound ((List.range (2 ^ avg)).foldl (fun a i => a + s.holdAt start slot i) 0) (2 ^ avg)

/-- The end of an entry: its last slot and the conversion of 250 ns after the last hold. -/
def entryEnd (start : Int) (slot avg : Nat) : Int := start + (2 ^ avg * slot : Nat) * slotUnit

/-- The planned start of entry e of a converter's list in cycle k (R259). -/
def State.plannedStart (s : State) (p k e : Nat) : Int :=
  let x := s.pcv p
  s.gridInstant s.feGrid k + ((x.list.take e).foldl (fun a w => a + 2 ^ bits w 7 4 * x.slot) 0 : Nat) * slotUnit

/-- The grid index of the cycle of converter p that contains a time (R264, R273); before its first cycle since the bind, the multiple of
its cycle length at or before the time. -/
def State.cycleAt (s : State) (p : Nat) (t : Int) : Nat :=
  match (s.pcv p).cycles.find? (fun k => decide (s.gridInstant s.feGrid k ≤ t)) with
  | some k => k
  | none => (s.gridIndexAt s.feGrid (t + 1) - 1) / 2 ^ (s.pcv p).dlog2 * 2 ^ (s.pcv p).dlog2

/-- An entry that starts on converter p at time t, with the slot length and channel word latched and the user correction in force. -/
def State.runOf (s : State) (p entry ch avg : Nat) (t : Int) : PcvRun :=
  let x := s.pcv p
  let cfg := x.chans.getD ch 0
  { entry := entry, ch := ch, avg := avg, start := t, aborted := false, redone := false, blanked := false, slot := x.slot, cfg := cfg,
    cor := s.userCor (s.get (PCV_STAT_PHYS p)) (bits cfg 26 25) }

/-- Nanoseconds between two instants, rounded to nearest (R273). -/
def offsetNs (t : Int) : Nat := toBits 32 (divRound t mtNs)

/-- The fields of a result record after its cycle, in order (R273). -/
structure PcvRec where
  cycle : Nat
  offset : Nat
  ch : Nat
  flags : Nat
  raw : Nat
  eng : Nat
  cm : Nat
  entry : Nat
  avg : Nat

/-- The 32 bytes of a result record (R273). -/
def pcvBytes (r : PcvRec) (p seq : Nat) : List Byte :=
  leBytes 8 r.cycle ++ leBytes 4 r.offset ++ leBytes 1 1 ++ leBytes 1 r.ch ++ leBytes 2 r.flags ++ leBytes 4 r.raw
    ++ leBytes 4 r.eng ++ leBytes 1 r.cm ++ leBytes 1 p ++ leBytes 1 r.entry ++ leBytes 1 r.avg ++ leBytes 4 seq

/-- Send a record of converter p to its queue while its route is enabled (R273). -/
def State.pcvSend (s : State) (p : Nat) (mk : Nat → List Byte) : State × List Byte :=
  let x := s.pcv p
  let b := mk x.seq
  let s1 := s.setPcv p { x with seq := (x.seq + 1) % 2 ^ 32 }
  (if s1.fget (SFE_ROUTE_EN p) = 1 then s1.readyItem (some (s1.fget (SFE_ROUTE_QUEUE p))) [] x.seq x.seq b else s1, b)

/-- The cycle that runs. -/
def Pcv.cycle (x : Pcv) : Nat := x.cycles.headD 0

/-- A record of an entry that was not run: SKIPPED or DEAD, with BLANKED where a pause bears on it (R267, R274). -/
def State.noRecord (s : State) (p k e flags : Nat) : State :=
  let w := (s.pcv p).list.getD e 0
  let off := offsetNs (s.plannedStart p k e - s.gridInstant s.feGrid k)
  (s.pcvSend p (pcvBytes ⟨k, off, 8 * p + bits w 2 0, flags, 0, f32NaN, 0, e, bits w 7 4⟩ p)).1

/-- A DEAD converter runs nothing (R276): its waiting urgent requests and its list's entries yield DEAD records. An urgent entry has no
planned start; its record takes the moment at which it would start (DESIGN CHOICE, log entry 73). -/
def State.pcvDead (s : State) (p : Nat) (t : Int) : State :=
  let x := s.pcv p
  let s1 := (s.setPcv p { x with urg := [], todo := [] }).put (PCV_STAT_URGQ p) 0
  let s2 := x.urg.foldl (fun s u =>
    let k := s.cycleAt p t
    let a := s.pcvSend p (pcvBytes ⟨k, offsetNs (t - s.gridInstant s.feGrid k), 8 * p + u.ch, 2 ^ 11 + 512 * b2n u.blanked, 0, f32NaN,
      0, 255, u.avg⟩ p)
    if u.src = 2 then a.1.finishCmd u.action 0 (bytesWords a.2) else a.1) s1
  x.todo.foldl (fun s e => s.noRecord p x.cycle e.1 (2 ^ 11 + 512 * b2n e.2.2.1)) s2

/-- Start whatever runs next on a converter at time t: a waiting urgent request, then the list (R263); nothing in a
pause. -/
def State.pcvNext (s : State) (p : Nat) (t : Int) : State :=
  let x := s.pcv p
  if x.cur.isSome then s
  else if s.isSet (PCV_STAT_DEAD p) then s.pcvDead p t
  else if s.fe.pause.isSome then s
  else match x.urg with
  | u :: r =>
    (s.setPcv p { x with urg := r, cur := some { s.runOf p 255 u.ch u.avg t with
      redone := u.redone, blanked := u.blanked, src := u.src, action := u.action } }).put (PCV_STAT_URGQ p) r.length
  | [] => match x.todo with
    | (e, rd, bl, ab) :: r =>
      let w := x.list.getD e 0
      s.setPcv p { x with todo := r, cur := some { s.runOf p e (bits w 2 0) (bits w 7 4) t with
        aborted := ab, redone := rd, blanked := bl } }
    | [] => s

/-- The entries of the old cycle that a cycle start leaves out (R260): each yields a SKIPPED record and is counted. -/
def State.skipEntries (s : State) (p : Nat) : State :=
  let x := s.pcv p
  let cur := match x.cur with
    | some r => if r.entry = 255 then [] else [r.entry]
    | none => []
  let l := cur ++ x.todo.map (fun e => e.1)
  if l.isEmpty then s
  else
    let fl := if s.fe.pause.isSome then 2 ^ 10 + 2 ^ 9 else 2 ^ 10
    let s1 := l.foldl (fun s e => s.noRecord p x.cycle e fl) s
    let y := s1.pcv p
    let s2 := s1.setPcv p { y with todo := [], cur := if cur.isEmpty then y.cur else none }
    ((s2.bump (PCV_SKIPCNT p) l.length).put (PCV_STAT_SKIP_SEEN p) 1).raise evSFE_SKIPPED p [.w4 l.length]

/-- A failing converter leaves service at a cycle start (R276): the spare takes over, or the converter is DEAD. -/
def State.pcvLeave (s : State) (p : Nat) : State :=
  match (s.pcv p).leaving with
  | none => s
  | some pol =>
    let old := s.get (PCV_STAT_PHYS p)
    let s1 := (s.setPcv p { s.pcv p with leaving := none, midBad := 0 }).put (PCV_STAT_FAILING p) 0
    if s1.get PCV_SPARE_V = 0 then
      let s2 := ((s1.put PCV_SPARE_V 1).put (PCV_STAT_PHYS p) 16).useSpare 7 old
      s2.raise evSFE_PCV_RETIRED p (if pol then policyDetail 7 evSFE_PCV_FAIL.code old 16 else [.w4 16]) 0 pol pol
    else
      let s2 := (s1.put (PCV_STAT_DEAD p) 1)
      let s3 := if old = 16 then s2.put PCV_SPARE_V 3 else s2
      let s4 := if pol then s3.policyLog evSFE_PCV_FAIL p (policyDetail 7 evSFE_PCV_FAIL.code old 65535) else s3
      s4.spareExhausted 7 old

/-- The cycles, the latest first, as far back as the one that contains time t. -/
def keepCycles (f : Nat → Int) (t : Int) : List Nat → List Nat
  | [] => []
  | k :: l => if f k ≤ t then [k] else k :: keepCycles f t l

/-- The cycles of a converter that a result or a pause in progress may still name. -/
def State.oldCycles (s : State) (x : Pcv) : List Nat :=
  let f := s.gridInstant s.feGrid
  match x.cur, s.fe.pause with
  | none, none => []
  | some r, none => keepCycles f r.start x.cycles
  | none, some y => keepCycles f y.start x.cycles
  | some r, some y => keepCycles f (min r.start y.start) x.cycles

/-- Begin the cycle with index k: the values in force are latched and the list begins (R258, R261). -/
def State.beginCycle (s : State) (p k : Nat) : State :=
  let x := s.latchSeq p (s.pcv p)
  let next := k + 2 ^ x.dlog2
  let d := match x.change with
    | some (d, a) => if a ≤ k then (d, none, k + 2 ^ d) else if a ≤ next then (x.dlog2, x.change, a) else (x.dlog2, x.change, next)
    | none => (x.dlog2, none, next)
  let n := s.fget (PCV_SEQ_CTL_LEN p)
  let y : Pcv := { x with cycles := k :: s.oldCycles x, nextK := d.2.2, dlog2 := d.1, change := d.2.1,
                          list := (List.range n).map (fun e => (s.frd (PCV_SEQ p e)).toNat),
                          todo := (List.range n).map (fun e => (e, false, false, false)) }
  s.setPcv p y

/-- PCV_CYCLE_START (R258, R260, R276): the next cycle of converter p starts at its grid index. -/
def execPcvCycleStart (p : Nat) (s : State) : Host.Outcome State Fault Refusal :=
  let k := (s.pcv p).nextK
  let t := s.gridInstant s.feGrid k
  if !s.feRuns || s.fget (PCV_SEQ_CTL_EN p) = 0 || s.mt < t || 16 ≤ p then .next s
  else
    .next (((((s.skipEntries p).pcvLeave p).beginCycle p k)).pcvNext p t)

/-! ## Conversions and results (R254, R269 to R274, R290) -/

/-- The gain exponent of a gain code. -/
def gainLog (g : Nat) : Nat := match g with
  | 0 => 0
  | 1 => 3
  | 2 => 5
  | _ => 7

/-- The code of one conversion (R254, R290) with the user correction of converter `phys` where it applies: the code and
whether it lies at a limit. A sense of zero volts gives a free code. -/
def State.pcvCode (s : State) (g : Nat) (cor : Int × Int) (c : Conv) : (Int × Bool) × State :=
  let vs := c.sp - c.sn
  let lim : Int → Int × Bool := fun v =>
    let r := satS 18 v
    (r.1, decide (r.1 = 131071) || decide (r.1 = -131072))
  if vs = 0 then let d := s.draw 262144; (lim (sext 18 d.1), d.2)
  else
    let n := 2 ^ (17 + gainLog g) * (c.vp - c.vn)
    let raw := (satS 18 (divRound (if vs < 0 then -n else n) vs.natAbs)).1
    if cor = (0, 0) then (lim raw, s)
    else
      let d := s.draw 20001
      let e : Int := (d.1 : Int) - 10000
      (lim (divRound ((16 * raw - cor.1) * (2 ^ 22 + cor.2) * 1000000 + e * 2 ^ 26) (2 ^ 26 * 1000000)), d.2)

/-- The codes of several conversions: their sum and whether one was at a limit. -/
def State.pcvCodes (s : State) (g : Nat) (cor : Int × Int) : List Conv → (Int × Bool) × State
  | [] => ((0, false), s)
  | c :: r =>
    let a := s.pcvCode g cor c
    let b := a.2.pcvCodes g cor r
    ((a.1.1 + b.1.1, a.1.2 || b.1.2), b.2)

/-- The common-mode fraction of a conversion in units of 1/256 (R269), rounded to nearest and kept to a byte (log entry
27). -/
def cmOf (c : Conv) : Int :=
  let vs := c.sp - c.sn
  if vs = 0 then 0
  else
    let n := 128 * (c.vp + c.vn - 2 * c.sn)
    max 0 (min 255 (divRound (if vs < 0 then -n else n) vs.natAbs))

/-- The temperature variable of a result of channel c at an instant (R271, R272), and whether it is stale. -/
def State.tempOf (s : State) (cfg : Nat) (t : Int) : Nat × Bool :=
  if !bit cfg 24 then (0, false)
  else match (s.sfeCh (bits cfg 23 17)).latest with
  | none => (0, true)
  | some (u, v) => (v, decide (u + (mtSec : Int) < t))

/-- The coefficients that apply to a result of channel c at an instant (R270). -/
def State.linFor (s : State) (c : Nat) (t : Int) : List Nat :=
  match (s.sfeCh c).lins.reverse.find? (fun e => decide (t < e.1)) with
  | some e => e.2
  | none => s.linWords c

/-- The engineering value (R271): b_i by the temperature, then y by the signal. -/
def linearise (a : List Nat) (x t : Nat) : Nat :=
  let b := (List.range 6).map (fun i => f32Poly t ((List.range 4).map (fun j => a.getD (4 * i + 3 - j) 0)))
  f32Poly x b.reverse

/-- Count an entry of channel c for the common-mode window (R269). -/
def State.cmEntry (s : State) (c : Nat) (out : Bool) : State :=
  let x := s.sfeCh c
  let n := s.fget SFE_CM_CFG_COUNT
  let y := if out then { x with outRun := min 255 (x.outRun + 1), inRun := 0 } else { x with outRun := 0, inRun := min 255 (x.inRun + 1) }
  let s1 := s.setSfeCh c y
  if n ≤ y.outRun && !s.isSet (SFE_CH_STAT_CM_FAULT c) then
    let s2 := ((s1.put (SFE_CH_STAT_CM_FAULT c) 1).put (SFE_CH_STAT_CM_SEEN c) 1).raise evSFE_CM_FAULT c
    if s2.isSet (EVT_ROUTE_LOG evSFE_CM_FAULT.src) then s2 else s2.stageLog (s2.evRec evSFE_CM_FAULT c 0 [] false false) false
  else if n ≤ y.inRun && s.isSet (SFE_CH_STAT_CM_FAULT c) then
    (s1.put (SFE_CH_STAT_CM_FAULT c) 0).raise evSFE_CM_CLEAR c
  else s1

/-- Flags of a result that its excitation, its reference and its history set (R274). -/
def State.resultFlags (s : State) (r : PcvRun) : Nat :=
  let q := bits r.cfg 31 27
  let first := s.holdAt r.start r.slot 0
  let unref := match s.fe.refOkAt with
    | none => true
    | some t => decide (first < t)
  let step := (s.exc q).steps.any (fun t => decide (t ≤ first) && decide (first ≤ t + ((300 * mtUs : Nat) : Int)))
  let bad := s.isSet (SFE_EXC_STAT_FAULT q) || s.excState q != 2
  512 * b2n r.blanked + 256 * b2n r.redone + 128 * b2n (r.entry == 255) + 64 * b2n unref + 32 * b2n step + 16 * b2n bad

/-- The result of an entry: its record, and the state with what the channel keeps of it. -/
def State.pcvResult (s : State) (p : Nat) (r : PcvRun) (convs : List Conv) : PcvRec × State :=
  let c := 8 * p + r.ch
  let cfg := r.cfg
  let g := bits cfg 26 25
  let t := s.entryInstant r.start r.slot r.avg
  let k := s.cycleAt p t
  let a := s.pcvCodes g r.cor convs
  let code := roundEven a.1.1 r.avg
  let s1 := a.2
  let cm := divRound (convs.foldl (fun a v => a + cmOf v) 0) (max 1 convs.length)
  let last := (convs.getLast?.map cmOf).getD 0
  let out := decide (cm < (bits cfg 7 0 : Nat)) || decide ((bits cfg 15 8 : Nat) < cm)
  let tv := s1.tempOf cfg t
  let y := linearise (s1.linFor c t) (f32Of code (17 + gainLog g)) tv.1
  let linErr := f32Special y || s1.isSet (SFE_CH_STAT_LIN_ERR c)
  let fl := s1.resultFlags r + 8 * b2n out + 4 * b2n a.1.2 + 2 * b2n tv.2 + b2n linErr
  let eng := if linErr then f32NaN else y
  let s2 := (s1.put (SFE_CH_STAT_CM c) last.toNat).cmEntry c out
  let ch := s2.sfeCh c
  let s3 := if a.1.2 then
      let u := (s2.setSfeCh c { ch with ovr := true }).put (SFE_CH_STAT_OVR_SEEN c) 1
      if ch.ovr then u else u.raise evSFE_OVERRANGE c
    else s2
  let good := !linErr && !out && !bit fl 4
  let s4 := if good then s3.setSfeCh c { s3.sfeCh c with latest := some (t, eng) } else s3
  (⟨k, offsetNs (t - s.gridInstant s.feGrid k), c, fl, toBits 32 code, eng, cm.toNat, r.entry, r.avg⟩, s4)

/-- PCV_ENTRY_END (R259, R264, R273): the entry in progress on converter p has completed its conversions; its record is
linearised and queued, and what runs next starts. A command that asked for it gets the record (R262). -/
def execPcvEntryEnd (p : Nat) (convs : List Conv) (s : State) : Host.Outcome State Fault Refusal :=
  let x := s.pcv p
  match x.cur with
  | none => .next s
  | some r =>
    let e := entryEnd r.start r.slot r.avg
    if s.mt < e || convs.length ≠ 2 ^ r.avg then .next s
    else
      let a := s.pcvResult p r convs
      let b := a.2.pcvSend p (pcvBytes a.1 p)
      let s1 := b.1.setPcv p { b.1.pcv p with cur := none }
      let s2 := if r.src = 2 then s1.finishCmd r.action 0 (bytesWords b.2) else s1
      .next (s2.pcvNext p e)

/-! ## Urgent requests (R262, R263) -/

/-- Refuse an urgent request: counted, URG_REFUSED, its maker told (1 FE_STATE, 7 FE_URGENT_FULL). -/
def State.urgRefuse (s : State) (p : Nat) (u : UrgReq) (code : Nat) : State :=
  let s1 := (s.bump (PCV_URGREF p)).raise evSFE_URG_REFUSED p [.w4 code]
  if u.src = 0 then (s1.put (PCV_STAT_URG_CODE p) code).put (PCV_URG_GO p) 0
  else if u.src = 2 then s1.finishCmd u.action (if code = 7 then 0x304 else 0x301) [] else s1

/-- The code that an urgent request meets: not BOUND or not enabled, an average out of range, four waiting. -/
def State.urgCheck (s : State) (p : Nat) (u : UrgReq) : Nat :=
  if s.feState ≠ 2 || s.fget (PCV_SEQ_CTL_EN p) = 0 || 8 < u.avg then 1
  else if 4 ≤ (s.pcv p).urg.length then 7 else 0

/-- An urgent request on its way to converter p. -/
def State.urgRequest (s : State) (p : Nat) (u : UrgReq) : State :=
  s.setPcv p { s.pcv p with reqs := (s.pcv p).reqs ++ [u] }

/-- PCV_URG_GO (R262): the fields merge; `GO` makes a request of the written `CH` and `AVG`, which a sleeping domain also counts
(R634). -/
def State.pcvUrgWrite (s : State) (p : Nat) (w : Wr) : State :=
  let s1 := s.mergeRaw (PCV_URG p).key w
  if w.hits 31 then
    let s2 := if s1.awake 91 then s1 else s1.refuseDom 91
    (s2.put (PCV_URG_GO p) 1).urgRequest p ⟨s1.get (PCV_URG_CH p), s1.get (PCV_URG_AVG p), 0, 0, false, false⟩
  else s1

/-- PCV_URG_GO (R262): a write of `PCV_URG[p]` by physical function 0. -/
def execPcvUrgGo (p : Nat) (w : Wr) (s : State) : Host.Outcome State Fault Refusal :=
  .next (s.pfOnly w (PCV_URG p).key (fun s => s.pcvUrgWrite p w))

/-- Abort the list entry in progress for an urgent request, unless it is protected (R263). -/
def State.urgAbort (s : State) (p : Nat) : State :=
  let x := s.pcv p
  match x.cur with
  | some r => if r.entry ≠ 255 && !r.aborted then
      s.setPcv p { x with cur := none, todo := (r.entry, true, r.blanked, true) :: x.todo } else s
  | none => s

/-- URGENT_ARRIVE (R263): the oldest request on its way reaches the sequencer of converter p. -/
def execUrgentArrive (p : Nat) (s : State) : Host.Outcome State Fault Refusal :=
  let x := s.pcv p
  match x.reqs with
  | [] => .next s
  | u :: r =>
    let s1 := s.setPcv p { x with reqs := r }
    let c := s1.urgCheck p u
    if c ≠ 0 then .next (s1.urgRefuse p u c)
    else
      let s2 := if u.src = 0 then (s1.put (PCV_STAT_URG_CODE p) 0).put (PCV_URG_GO p) 0 else s1
      let y := s2.pcv p
      let s3 := (s2.setPcv p { y with urg := y.urg ++ [u] }).put (PCV_STAT_URGQ p) (y.urg.length + 1)
      .next (if s3.fe.pause.isSome then s3 else (s3.urgAbort p).pcvNext p s3.mt)

/-- The requests that trigger output o makes as it fires (R262). -/
def State.urgTrigger (s : State) (o : Nat) : State :=
  (List.range 16).foldl (fun s p =>
    if s.isSet (PCV_URG_TRG_EN p) && s.get (PCV_URG_TRG p) = o then
      s.urgRequest p ⟨s.get (PCV_URG_CH p), s.get (PCV_URG_AVG p), 1, 0, false, false⟩
    else s) s

/-! ## Reference buffer (R265) -/

/-- A write of `PCV_REFCTL` (R265): clearing `REF_EN` while BOUND is ignored with REF_HELD. -/
def State.refCtlWrite (s : State) (w : Wr) : State :=
  if !w.reaches 0 0 then s
  else if w.hits 0 then
    if s.isSet PCV_REFCTL_REF_EN then s
    else { s.put PCV_REFCTL_REF_EN 1 with fe := { s.fe with refFrom := s.mt, refOkAt := none } }
  else if s.feState = 2 then s.raise evSFE_REF_HELD
  else { (s.put PCV_REFCTL_REF_EN 0).put PCV_REFCTL_REF_OK 0 with fe := { s.fe with refOkAt := none } }

/-- PCV_REF_EN_WRITE (R265): a write of `PCV_REFCTL` by physical function 0. -/
def execPcvRefEnWrite (w : Wr) (s : State) : Host.Outcome State Fault Refusal :=
  .next (s.pfOnly w PCV_REFCTL.key (fun s => s.refCtlWrite w))

/-- PCV_REF_OK (R265): 10 ms after `REF_EN` the reference is good. -/
def execPcvRefOk (s : State) : Host.Outcome State Fault Refusal :=
  if !s.isSet PCV_REFCTL_REF_EN || s.isSet PCV_REFCTL_REF_OK || s.mt < s.fe.refFrom + ((10 * mtMs : Nat) : Int) then .next s
  else .next (({ s.put PCV_REFCTL_REF_OK 1 with fe := { s.fe with refOkAt := some s.mt } } : State).raise evSFE_REF_OK)

/-! ## Blanking (R266 to R268) -/

/-- The converters that run: enabled in force while the sequencers run. -/
def State.pcvsOn (s : State) : List Nat :=
  if s.feRuns then (List.range 16).filter (fun p => s.fget (PCV_SEQ_CTL_EN p) == 1) else []

/-- A pause begins at t: an entry with a hold at or after t goes back to the head of its list, or an urgent one to the
head of the waiting requests, whatever its abort history (R267); the pause has aborted it (R274). -/
def State.pauseEntry (s : State) (t : Int) (p : Nat) : State :=
  let x := s.pcv p
  match x.cur with
  | none => s
  | some r =>
    if s.holdAt r.start r.slot (2 ^ r.avg - 1) < t then s
    else if r.entry = 255 then
      (s.setPcv p { x with cur := none, urg := ⟨r.ch, r.avg, r.src, r.action, true, true⟩ :: x.urg }).put (PCV_STAT_URGQ p)
        (min 4 (x.urg.length + 1))
    else s.setPcv p { x with cur := none, todo := (r.entry, true, true, true) :: x.todo }

/-- Whether a BLANK line is selected. -/
def State.feMask (s : State) (line : Nat) : Bool := bit (s.fget SFE_BLANK_MASK) line

/-- An edge of a BLANK line as the front end sees it, the line standing as the edge leaves it (R267): a pause starts at an assertion
while no other selected line is asserted. -/
def State.feBlank (s : State) (line : Nat) (asserted : Bool) (t : Int) : State :=
  if !s.feRuns || !s.feMask line then s
  else match s.fe.pause with
  | none =>
    if asserted && !({ s with blanks := s.blanks.filter (fun e => e.1 != line) } : State).feAsserted then
      (s.pcvsOn).foldl (fun s p => s.pauseEntry t p)
        { s with fe := { s.fe with pause := some ⟨t, 2 ^ line, t⟩ } }
    else s
  | some x =>
    let y : Pause := if asserted then { x with lines := x.lines ||| 2 ^ line }
      else if s.feAsserted then x else { x with release := t }
    { s with fe := { s.fe with pause := some y } }

/-- The pause record of a converter (R268, R273). -/
def State.pauseRecord (s : State) (x : Pause) (len : Int) (p : Nat) : State :=
  let k := s.cycleAt p x.start
  (s.pcvSend p (fun seq => leBytes 8 k ++ leBytes 4 (offsetNs (x.start - s.gridInstant s.feGrid k)) ++ leBytes 1 2
    ++ leBytes 1 255 ++ leBytes 2 512 ++ leBytes 8 (divRound len mtNs).toNat ++ leBytes 1 x.lines ++ leBytes 1 p
    ++ leBytes 1 255 ++ leBytes 1 0 ++ leBytes 4 seq)).1

/-- PAUSE_END (R267, R268): `POST` µs after the last selected line is released the pause ends; each running converter
gets its pause record, and the lists resume. -/
def execPauseEnd (s : State) : Host.Outcome State Fault Refusal :=
  match s.fe.pause with
  | none => .next s
  | some x =>
    let e := x.release + ((s.fget SFE_BLANK_POST * mtUs : Nat) : Int)
    if s.feAsserted || s.mt < e then .next s
    else
      let s1 := s.pcvsOn.foldl (fun s p => s.pauseRecord x (e - x.start) p) s
      let due := match s1.fe.pauseRaised with
        | none => true
        | some t => decide (t + (mtSec : Int) ≤ s1.mt) || decide (s1.mt < t)
      let s2 := { s1 with fe := { s1.fe with pause := none, pauseRaised := if due then some s1.mt else s1.fe.pauseRaised } }
      let s3 := if due then s2.raise evSFE_BLANK_PAUSE 65535 [.mt x.start, .w8 (divRound (e - x.start) mtNs)] else s2
      .next (s3.pcvsOn.foldl (fun s p => s.pcvNext p e) s3)

/-- BLANK_EDGE (R176, R266, R267): an edge of a BLANK line, tagged now; the slot intakes and the front end use the tag. -/
def execBlankEdge (line : Nat) (asserted : Bool) (s : State) : Host.Outcome State Fault Refusal :=
  let l := mapGet [] line s.blanks
  let open_ : Bool := match l.head? with
    | some x => x.to_.isNone
    | none => false
  if 8 ≤ line || open_ = asserted then .next s
  else
    let l1 : List Span := if asserted then ⟨s.mt, none⟩ :: l.take 63
      else match l with
      | x :: r => { x with to_ := some s.mt } :: r
      | [] => []
    .next (({ s with blanks := mapPut [] line l1 s.blanks } : State).feBlank line asserted s.mt)

/-! ## Converter failure (R275, R276) -/

/-- A failing converter is to leave service at its next cycle start (R276). -/
def State.retirePcv (s : State) (p : Nat) (pol : Bool) : State := s.setPcv p { s.pcv p with leaving := some pol }

/-- Whether converter p has an idle interval of at least 1 µs now (R275): nothing runs or waits on it, its next cycle is no nearer, and
no pause keeps conversions from starting. -/
def State.pcvIdle (s : State) (p : Nat) : Bool :=
  let x := s.pcv p
  x.cur.isNone && x.todo.isEmpty && x.urg.isEmpty && (!s.pcvsOn.contains p
    || (s.fe.pause.isNone && decide (s.mt + (mtUs : Int) ≤ s.gridInstant s.feGrid x.nextK)))

/-- The whole second of Meridian time that has passed last. -/
def State.wholeSec (s : State) : Int := s.mt / (mtSec : Int)

/-- PCV_MIDSCALE_CHECK (R275, R276): converter p, idle, converts its mid-scale check voltage, `err` LSB from mid-scale, once after each
whole second. -/
def execPcvMidscaleCheck (p : Nat) (err : Int) (s : State) : Host.Outcome State Fault Refusal :=
  if 16 ≤ p || s.isSet (PCV_STAT_DEAD p) || !s.awake 91 || !s.pcvIdle p || (s.pcv p).midSec = some s.wholeSec then .next s
  else
    let x := s.pcv p
    let n := if 32 < err.natAbs then min 3 (x.midBad + 1) else 0
    let s1 := s.setPcv p { x with midBad := n, midSec := some s.wholeSec }
    if n = 3 && !s1.isSet (PCV_STAT_FAILING p) then
      let s2 := (s1.put (PCV_STAT_FAILING p) 1)
      let s3 := (if s2.get (PCV_STAT_PHYS p) = 16 then s2.put PCV_SPARE_V 2 else s2).raise evSFE_PCV_FAIL p [.w4 (s2.get (PCV_STAT_PHYS p))]
      .next (if s3.armed 7 then s3.retirePcv p true else s3)
    else .next s1

/-! ## Boundaries -/

/-- What stays of a converter outside a bind: its mid-scale checks and whether it is to leave service. -/
def Pcv.unbound (x : Pcv) : Pcv := { midBad := x.midBad, midSec := x.midSec, leaving := x.leaving }

/-- What the front end's sequencers hold ends: commands that wait for an urgent result are aborted (R559). -/
def State.feStop (s : State) : State :=
  let open_ : List Nat := (List.range 16).flatMap (fun p =>
    let x := s.pcv p
    ((x.reqs ++ x.urg).filter (fun u => u.src == 2)).map (fun u => u.action) ++ (match x.cur with
      | some r => if r.src = 2 then [r.action] else []
      | none => []))
  let s1 := (List.range 16).foldl (fun s p => (s.setPcv p (s.pcv p).unbound).put (PCV_STAT_URGQ p) 0) s
  let s2 : State := { s1 with fe := { s1.fe with pause := none } }
  (open_.foldl (fun (s : State) a => s.finishCmd a 0x12 []) s2).feSet 0

/-- A staged change of the front end takes effect at grid index k of its grid (R256). -/
def State.applyFe (s : State) (k : Nat) (x : Staged) : State :=
  let t := s.gridInstant x.grid k
  match x.op with
  | .unbind => s.feStop.unstage .fe
  | .bind =>
    let s1 := (List.range 16).foldl (fun s p => s.setPcv p (s.pcv p).unbound) s
    let s2 := s1.feApply t k x.vals
    let s3 := (List.range 16).foldl (fun s p =>
      let d := s.fget (PCV_SEQ_CTL_DLOG2 p)
      s.setPcv p { s.latchSeq p (s.pcv p) with dlog2 := d, nextK := multAt k d, change := none }) s2
    s3.feSet 2
  | _ => s.feApply t k x.vals

end Sys2Proof.Machine
end

