-- ==== Sys2Proof/Machine/Trigger.lean ====
section
/-! DEFINITION. Trigger outputs, instrument lines, network triggers and captures (R297 to R306, R309 to R314). -/
namespace Sys2Proof.Machine

/-- What the hub holds of a trigger output. -/
def State.trg (s : State) (t : Nat) : TrgOut := mapGet {} t s.trgOuts
/-- Put what the hub holds of a trigger output. -/
def State.setTrg (s : State) (t : Nat) (x : TrgOut) : State := { s with trgOuts := mapPut {} t x s.trgOuts }

/-! ## Arming (R300, R301) -/

/-- The slots of a capture set. -/
def State.capSlots (s : State) (set : Nat) : List Nat :=
  (List.range 1024).filter (fun n => bit (s.rn (TRG_CAPSET set (n / 32))) (n % 32))

/-- Whether outputs t and o, of which o is not OFF, drive one pin. -/
def State.trgClash (s : State) (t o : Nat) : Bool :=
  s.get (TRG_OUT_STAT_STATE o) != 0 && o != t
    && ((s.isSet (TRG_OUT_ACT_SIG_EN t) && s.isSet (TRG_OUT_ACT_SIG_EN o)
        && s.get (TRG_OUT_ACT_SIG t) == s.get (TRG_OUT_ACT_SIG o))
      || (s.isSet (TRG_OUT_ACT_ILN_EN t) && s.isSet (TRG_OUT_ACT_ILN_EN o)
        && s.get (TRG_OUT_ACT_ILN t) == s.get (TRG_OUT_ACT_ILN o)))

/-- The checks of R301 in order. -/
def State.armCheck (s : State) (t : Nat) : Nat :=
  let src := s.get (TRG_OUT_CFG_SRC t)
  let cap := s.isSet (TRG_OUT_CFG_CAP_EN t)
  let q := s.get (TRG_CAP0_QUEUE t)
  let sig := s.get (TRG_OUT_ACT_SIG t)
  if 22 < src || s.rn (TRG_CAP2 t) = 0 || s.get (TRG_OUT_TIM_OUT_W t) = 0
      || (cap && (s.capSlots (s.get (TRG_CAP0_SET t))).isEmpty) then 1
  else if s.isSet (TRG_OUT_ACT_ILN_EN t) && src = 16 + s.get (TRG_OUT_ACT_ILN t) then 2
  else if cap && !s.gridValid (s.get (TRG_CAP0_GRID t)) then 3
  else if cap && !(s.get (QUE_CFG0_TYPE q) = 5 && s.get (QUE_CFG0_BOROUGH q) = 0) then 4
  else if (List.range 64).any (s.trgClash t) || (s.isSet (TRG_OUT_ACT_SIG_EN t) && s.get (MGB_SIG_CFG_MODE sig) ≠ 0) then 5
  else if cap && s.get TRG_STAT_FREE = 0 then 6
  else 0

/-- Put the state of an output, and show what drives its signal output. -/
def State.trgState (s : State) (t st : Nat) : State :=
  let s1 := s.put (TRG_OUT_STAT_STATE t) st
  if s1.isSet (TRG_OUT_ACT_SIG_EN t) then s1.showTrgDrive (s1.get (TRG_OUT_ACT_SIG t)) else s1

/-- Arm output t under R301: its code. -/
def State.trgArm (s : State) (t : Nat) : Nat × State :=
  let c := s.armCheck t
  let s1 := s.put (TRG_OUT_STAT_CODE t) c
  if c ≠ 0 then (c, s1)
  else
    let cap := s1.isSet (TRG_OUT_CFG_CAP_EN t)
    let s2 := if cap then s1.put TRG_STAT_FREE (s1.get TRG_STAT_FREE - 1) else s1
    (0, (s2.setTrg t { ctx := cap, capOpen := false }).trgState t 1)

/-! ## Re-arming (R303) -/

/-- Whether the hold-off and the capture's close allow output t to re-arm. -/
def State.rearmReady (s : State) (t : Nat) : Bool :=
  let x := s.trg t
  s.get (TRG_OUT_STAT_STATE t) == 2 && decide (x.at_ + ((s.get (TRG_OUT_CFG_HOLDOFF t) * mtUs : Nat) : Int) ≤ s.mt)
    && !(s.isSet (TRG_OUT_CFG_CAP_EN t) && !s.isSet (TRG_OUT_CFG_RETRIG t) && x.capOpen)

/-- The moment at which output t re-arms, where it does not wait for a context: the end of its hold-off, and without `RETRIG` the
close of its capture. -/
def State.rearmAt (s : State) (t : Nat) : Int :=
  let x := s.trg t
  let h := x.at_ + ((s.get (TRG_OUT_CFG_HOLDOFF t) * mtUs : Nat) : Int)
  if s.isSet (TRG_OUT_CFG_CAP_EN t) && !s.isSet (TRG_OUT_CFG_RETRIG t) then max h x.closedAt else h

/-- Output t re-arms: ARMED where continuous, OFF where single; an output that turns OFF keeps no context. -/
def State.rearm (s : State) (t : Nat) : State :=
  let x := s.trg t
  let moment := if x.waitSaid then s.mt else s.rearmAt t
  let y := { x with prevDead := ((moment - x.at_) / (mtNs : Int)).toNat, prevRefs := x.refs, refs := 0, refSaid := false,
                    waitSaid := false }
  if s.get (TRG_OUT_CFG_ARM t) = 2 then (s.setTrg t y).trgState t 1
  else
    let s1 := if y.ctx then s.put TRG_STAT_FREE (s.get TRG_STAT_FREE + 1) else s
    (s1.setTrg t { y with ctx := false }).trgState t 0

/-- Output t re-arms if it can; with `CAP_EN` it reserves a free context, waiting outputs in ascending order. -/
def State.tryRearm (s : State) (t : Nat) : State :=
  if !s.rearmReady t then s
  else
    let x := s.trg t
    if !s.isSet (TRG_OUT_CFG_CAP_EN t) || x.ctx then s.rearm t
    else
      let before := (List.range t).any (fun o => s.rearmReady o && s.isSet (TRG_OUT_CFG_CAP_EN o) && !(s.trg o).ctx)
      if s.get TRG_STAT_FREE = 0 || before then
        if x.waitSaid then s else (s.setTrg t { x with waitSaid := true }).raise evTRG_CTX_FULL t
      else ((s.put TRG_STAT_FREE (s.get TRG_STAT_FREE - 1)).setTrg t { x with ctx := true }).rearm t

/-- A context is free: outputs that wait reserve it in ascending order (R303). -/
def State.freeCtx (s : State) : State :=
  let s1 := s.put TRG_STAT_FREE (s.get TRG_STAT_FREE + 1)
  (List.range 64).foldl (fun (s : State) t => if (s.trg t).waitSaid && s.get TRG_STAT_FREE ≠ 0 then s.tryRearm t else s) s1

/-- TRG_REARM (R303): the conditions of output t are met. -/
def execTrgRearm (t : Nat) (s : State) : Host.Outcome State Fault Refusal := .next (s.tryRearm t)

/-- Output t is put OFF at once (R300). -/
def State.trgOff (s : State) (t : Nat) : State :=
  let x := s.trg t
  let s1 := ((s.put (TRG_OUT_CFG_ARM t) 0).setTrg t {}).trgState t 0
  if x.ctx then s1.freeCtx else s1

/-! ## Register writes (R300) -/

/-- A write of `TRG_OUT_CFG[t]`. -/
def State.trgCfgWrite (s : State) (t : Nat) (w : Wr) : State :=
  let new := merged (s.rn (TRG_OUT_CFG t)) w
  if w.reaches 31 30 && bits new 31 30 = 0 then s.trgOff t
  else if s.get (TRG_OUT_STAT_STATE t) ≠ 0 then s.raise evTRG_CFG_ARMED t
  else
    let s1 := s.mergeRaw (TRG_OUT_CFG t).key w
    if bits new 31 30 = 3 || bits new 31 30 = 0 then s1 else (s1.trgArm t).2

/-- A write of another configuration word of output t. -/
def State.trgWordWrite (s : State) (key t : Nat) (w : Wr) : State :=
  if s.get (TRG_OUT_STAT_STATE t) ≠ 0 then s.raise evTRG_CFG_ARMED t else s.mergeRaw key w

/-- TRG_ARM (R300, R301): a write of `TRG_OUT_CFG[t]` that arms. -/
def execTrgArm (t : Nat) (w : Wr) (s : State) : Host.Outcome State Fault Refusal :=
  .next (s.pfOnly w (0xE1000 + 0x20 * t) (fun s => s.trgCfgWrite t w))

/-- TRG_DISARM (R300): a write of `TRG_OUT_CFG[t]` that turns the output OFF. -/
def execTrgDisarm (t : Nat) (w : Wr) (s : State) : Host.Outcome State Fault Refusal :=
  .next (s.pfOnly w (0xE1000 + 0x20 * t) (fun s => s.trgCfgWrite t w))

/-! ## Captures: opening (R309) -/

/-- The instant of a grid index that may be negative. -/
def State.gridInstantI (s : State) (g : Nat) (k : Int) : Int :=
  s.gridEpoch g + divRound (k * (s.gridDen g : Int) * (mtSec : Int)) (max 1 (s.gridNum g))

/-- The oldest instant that the ring holds for slot n. -/
def State.ringOldest (s : State) (n : Nat) : Option Int :=
  let l := ((s.ring.tiles.filter (fun t => t.slot == n && t.live)).map (fun t => t.at0)) ++
    (match (s.raw n).cur with
      | some t => if t.ring then [t.at0] else []
      | none => [])
  match l with
  | [] => none
  | a :: r => some (r.foldl min a)

/-- The entry of a member of a capture for an event time (R309, R310). -/
def State.capMember (s : State) (g stab pre post : Nat) (t : Int) (n : Nat) : CapMember :=
  let sk := (s.tab (0x1500000 + 0x1000 * stab + 4 * n)).toNat
  let k : Int := (s.gridIndexAt g (t + sext 32 sk) : Nat)
  let a := k - (pre * 1024 : Nat)
  let from_ := s.gridInstantI g a * 2 ^ 32
  let dst := s.gridInstantI g (k + (post * 1024 : Nat)) * 2 ^ 32
  let inRing := s.ringMember n
  let clip := match s.ringOldest n with
    | some o => decide (from_ < o)
    | none => true
  { slot := n, skew := sk, first := a, from_ := from_, to_ := dst, track := s.get (CHP_RSM_STAT_TRACK n),
    flags := if inRing then b2n clip else 16,
    tiles := if inRing then (s.ring.tiles.filter (fun x => x.slot == n && x.live && tileMeets x from_ dst)).map (fun x => x.id)
      else [] }

/-- Open the capture of output t for a trigger accepted now (R309): the ring tiles of its windows are held. -/
def State.openCapture (s : State) (t src : Nat) (at_ : Int) (status : Nat) : State :=
  let g := s.get (TRG_CAP0_GRID t)
  let pre := s.rn (TRG_CAP1 t)
  let post := s.rn (TRG_CAP2 t)
  let ms := (s.capSlots (s.get (TRG_CAP0_SET t))).map (s.capMember g (s.get (TRG_CAP0_STAB t)) pre post at_)
  let x := s.trg t
  let c : Capture := { seq := s.capSeq, output := t, src := src, mt := at_, grid := g, status := status,
                       tai := (s.rn TB_TAI_UTC) % 65536, kTrig := s.gridIndexAt g at_, pre := pre, post := post,
                       queue := s.get (TRG_CAP0_QUEUE t), dead := x.prevDead, refs := x.prevRefs, members := ms }
  let ids := ms.flatMap (fun m => m.tiles)
  let tiles := s.ring.tiles.map (fun y => if ids.contains y.id then { y with holds := y.holds ++ [c.seq] } else y)
  (({ s with captures := s.captures ++ [c], capSeq := s.capSeq + 1, ring := { s.ring with tiles := tiles } } : State).setTrg t
    { x with ctx := false, capOpen := true }).showRing

/-! ## Instrument lines (R297, R689) -/

/-- Line n falls (`low`) or rises at its ball; a fall after at least 20 ns high is tagged and offered. -/
def State.ilineEdge (s : State) (n : Nat) (low : Bool) : State :=
  let x := mapGet {} n s.ilines
  if x.low = low then s
  else
    let s1 := { s with ilines := mapPut {} n ⟨low, some s.mt, false⟩ s.ilines }
    let long := match x.since with
      | none => true
      | some t => decide (t + ((20 * mtNs : Nat) : Int) ≤ s.mt)
    if low && long && n < 4 then s1.offerTrig (16 + n) s.mt (s.isSet TB_STATUS_COARSE) else s1

/-- ILINE_EDGE (R297): an edge of line n. -/
def execIlineEdge (n : Nat) (low : Bool) (s : State) : Host.Outcome State Fault Refusal := .next (s.ilineEdge n low)

/-! ## Acceptance (R302, R304, R306) -/

/-- The event time of a trigger (R297): sources 0 to 20 take the source skew. -/
def State.eventTime (s : State) (x : Trig) : Int :=
  if x.src ≤ 20 then x.mt - sext 32 (s.rn (TRG_SRC_SKEW x.src)) else x.mt

/-- Drive the pin of a pulse: a signal output, or an instrument line from number 32 on. The hub receives its own assertion of a
line; its release is no edge by itself, since another instrument may hold the line (log entry 75). -/
def State.pulsePin (s : State) (pin : Nat) (active : Bool) : State :=
  if pin < 32 then s.pinDrive pin active else if active then s.ilineEdge (pin - 32) true else s

/-- Start the pulses of output t (R304): at once, or in FIXED mode at the edge instant where it lies at least 50 ns ahead.
Whether the edge is late, and the state. -/
def State.startPulses (s : State) (t : Nat) (at_ : Int) : Bool × State :=
  let pins := (if s.isSet (TRG_OUT_ACT_SIG_EN t) then [s.get (TRG_OUT_ACT_SIG t)] else [])
    ++ (if s.isSet (TRG_OUT_ACT_ILN_EN t) && s.awake 94 then [32 + s.get (TRG_OUT_ACT_ILN t)] else [])
  let w : Int := (131072 * s.get (TRG_OUT_TIM_OUT_W t) : Nat)
  let fixed := s.isSet (TRG_OUT_ACT_MODE t)
  let e5 := 5 * at_ + (131072 * s.get (TRG_OUT_TIM_OUT_DLY t) : Nat)
  let late := fixed && !pins.isEmpty && decide (e5 < 5 * (s.mt + ((50 * mtNs : Nat) : Int)))
  let wait := fixed && !late
  let from_ := if wait then (e5 + 4) / 5 else s.mt
  let dst := ((if wait then e5 else 5 * s.mt) + w + 4) / 5
  let s1 := { s with pulses := s.pulses ++ pins.map (fun p => ⟨p, from_, dst, !wait⟩) }
  let s2 := if wait then s1 else pins.foldl (fun (s : State) p => s.pulsePin p true) s1
  (late, if late then (s2.put (TRG_OUT_STAT_LATE_SEEN t) 1).raise evTRG_OUT_LATE t else s2)

/-- Output t accepts a trigger: it is DEAD, and its actions start. -/
def State.acceptTrig (s : State) (t : Nat) (x : Trig) : State :=
  let at_ := s.eventTime x
  let y := s.trg t
  let s1 := (s.setTrg t { y with at_ := s.mt, refs := 0, refSaid := false, waitSaid := false }).trgState t 2
  let p := s1.startPulses t at_
  let status := s.tstate + 4 * b2n x.coarse + 8 * b2n p.1
  let cap := s.isSet (TRG_OUT_CFG_CAP_EN t)
  let k := if cap then s.gridIndexAt (s.get (TRG_CAP0_GRID t)) at_ else 0
  let s2 := if s.isSet (TRG_OUT_ACT_STRM t) then
      p.2.trgSend (mtBytes at_ ++ leBytes 1 0x10 ++ leBytes 1 t ++ leBytes 1 x.src ++ leBytes 1 status ++ leBytes 2 x.slot
        ++ leBytes 2 0 ++ leBytes 8 k)
    else p.2
  let s3 := s2.urgTrigger t
  if cap then s3.openCapture t x.src at_ status else s3

/-- A trigger reaches output t of its source, which re-arms first where its moment has come: accepted while ARMED, otherwise
refused (R302, R303). -/
def State.offerTo (s0 : State) (t : Nat) (x : Trig) : State :=
  let s := s0.tryRearm t
  if s.get (TRG_OUT_STAT_STATE t) = 1 then s.acceptTrig t x
  else
    let y := s.trg t
    let s1 := (s.bump (TRG_OUT_REF t)).setTrg t { y with refs := satAdd 32 y.refs 1, refSaid := true }
    if y.refSaid then s1 else s1.raise evTRG_TRIG_REFUSED t

/-- Whether output t takes a trigger: its source, and for source 20 the district of the slot (R192, R297). -/
def State.trgTakes (s : State) (t : Nat) (x : Trig) : Bool :=
  s.get (TRG_OUT_CFG_SRC t) == x.src && (x.src != 20 ||
    bit (s.rn (CHP_DMEM (s.get (TRG_OUT_CFG_FPD_DIST t)) (x.slot / 32))) (x.slot % 32))

/-- Offer a trigger to every output of its source. -/
def State.offerAll (s : State) (x : Trig) : State :=
  (List.range 64).foldl (fun (s : State) t => if s.trgTakes t x then s.offerTo t x else s) s

/-- The trigger that reaches the outputs next: the earliest arrival, the lowest source among equals (R302). -/
def nextTrig : List Trig → Option Trig
  | [] => none
  | a :: r => some (r.foldl (fun b x => if x.came < b.came || (x.came = b.came && x.src < b.src) then x else b) a)

/-- TRIGGER_OFFER (R302): the next trigger on its way reaches the outputs. -/
def execTriggerOffer (s : State) : Host.Outcome State Fault Refusal :=
  match nextTrig s.trigs with
  | none => .next s
  | some x => .next (({ s with trigs := s.trigs.erase x } : State).offerAll x)

/-- A source-22 trigger for output t alone: at the time named, or at the present MT (R297). -/
def State.fireTrig (s : State) (t : Nat) (at_ : Option Int) : State :=
  if s.get (TRG_OUT_CFG_SRC t) ≠ 22 then s
  else s.offerTo t ⟨22, at_.getD s.mt, at_.isNone && s.isSet TB_STATUS_COARSE, 0xFFFF, s.mt⟩

/-- A write of `TRG_OUT_STAT[t]`. -/
def State.trgStatWrite (s : State) (t : Nat) (w : Wr) : State :=
  let s1 := s.mergeRaw (TRG_OUT_STAT t).key w
  if w.hits 0 then s1.fireTrig t none else s1

/-- TRG_OUT_FIRE (R297, R314): a write of `TRG_OUT_STAT[t]`. -/
def execTrgOutFire (t : Nat) (w : Wr) (s : State) : Host.Outcome State Fault Refusal :=
  .next (s.pfOnly w (0xE1008 + 0x20 * t) (fun s => s.trgStatWrite t w))

/-- TRG_PULSE_END (R304): the first pulse in progress that has lasted its width ends. -/
def execTrgPulseEnd (s : State) : Host.Outcome State Fault Refusal :=
  match s.pulses.find? (fun p => p.on && decide (p.to_ ≤ s.mt)) with
  | none => .next s
  | some p =>
    let s1 := { s with pulses := s.pulses.erase p }
    .next (if s1.pulses.any (fun o => o.on && o.pin == p.pin) then s1 else s1.pulsePin p.pin false)

/-- FIXED_MODE_EDGE (R304): the active edge of the first pulse whose instant has come. -/
def execFixedModeEdge (s : State) : Host.Outcome State Fault Refusal :=
  match s.pulses.find? (fun p => !p.on && decide (p.from_ ≤ s.mt)) with
  | none => .next s
  | some p => .next (({ s with pulses := s.pulses.map (fun o => if o = p then { o with on := true } else o) } : State).pulsePin
      p.pin true)

/-- ILINE_STUCK (R297): line n has been low for more than 1 s. -/
def execIlineStuck (n : Nat) (s : State) : Host.Outcome State Fault Refusal :=
  let x := mapGet {} n s.ilines
  match x.since with
  | none => .next s
  | some t =>
    if !x.low || x.said || s.mt ≤ t + (mtSec : Int) then .next s
    else .next (({ s with ilines := mapPut {} n { x with said := true } s.ilines } : State).raise evTRG_ILINE_STUCK n)

/-! ## Network triggers (R298, R299) -/

/-- A network trigger packet is refused: counted, and the event raised. -/
def State.netRefuse (s : State) (e : EvId) : State := (s.bump TRG_NET_REF).raise e

/-- A network trigger packet, checked in the order of R299 and offered to its output as source 21. -/
def State.netTrigger (s : State) (b : List Byte) : State :=
  let g := fun (o n : Nat) => leNat ((b.drop o).take n)
  let t := mtOf (g 22 6) (g 18 4) (g 16 2)
  let hub := g 8 4
  let seq := g 12 4
  let known := s.netSenders.find? (fun x => x.hub == hub)
  let form := b.length = 48 && g 0 4 = 0x50475254 && g 4 2 = 1 && g 6 1 ≤ 63 && g 7 1 = 0 && g 28 4 = 0
  let mac := match s.keyOf 0 with
    | none => false
    | some k => (hmacSha256 k (b.take 32)).take 16 = (b.drop 32).take 16
  let old := match known with
    | some x => (match x.seq with
      | some q => decide (seq ≤ q)
      | none => false)
    | none => false
  if !form || !mac then s.netRefuse evTRG_NET_AUTH
  else if known.isNone && 64 ≤ s.netSenders.length then s.netRefuse evTRG_NET_TABLE_FULL
  else if old then s.netRefuse evTRG_NET_REPLAY
  else if t < s.mt - ((s.get TRG_NET_AGE * mtMs : Nat) : Int) || s.mt + (mtSec : Int) < t then s.netRefuse evTRG_NET_TIME
  else
    let s1 := { s with netSenders := s.netSenders.filter (fun x => x.hub != hub) ++ [⟨hub, some seq⟩] }
    let o := g 6 1
    if s1.get (TRG_OUT_CFG_SRC o) = 21 then s1.offerTo o ⟨21, t, false, 0xFFFF, s1.mt⟩ else s1

/-- NET_TRIGGER_RX (R298, R299): a UDP datagram to a destination port; with `PORT` 0, or another port, it is ignored. -/
def execNetTriggerRx (port : Nat) (data : List Byte) (s : State) : Host.Outcome State Fault Refusal :=
  if s.get TRG_NET_PORT = 0 || s.get TRG_NET_PORT ≠ port then .next s else .next (s.netTrigger data)

/-- A write of `TRG_NET`. -/
def State.trgNetWrite (s : State) (w : Wr) : State :=
  let s1 := s.mergeRaw TRG_NET.key w
  if w.hits 15 then { s1 with netSenders := [] } else s1

/-- TRG_NET_CLR (R299): a write of `TRG_NET`. -/
def execTrgNetClr (w : Wr) (s : State) : Host.Outcome State Fault Refusal :=
  .next (s.pfOnly w 0xE0100 (fun s => s.trgNetWrite w))

/-! ## Captures: closing (R310, R311) -/

/-- The positions of a tile that a window takes: first, and one past the last. -/
def tileSpan (t : RingTile) (m : CapMember) : Nat × Nat :=
  let p : Int := max 1 t.period
  let a := (-((t.at0 - m.from_) / p)).toNat
  let b := (-((t.at0 - m.to_) / p)).toNat
  (min a t.count, min b t.count)

/-- Samples of a tile that a member delivers, and the position of the first. -/
def tileTakes (m : CapMember) (t : RingTile) : Nat × Option Nat :=
  let w := tileSpan t m
  let bad := countIf (fun i => decide (w.1 ≤ i) && decide (i < w.2)) t.loose
  let n := w.2 - w.1 - bad
  (n, if n = 0 then none else (List.range t.count).find? (fun i => decide (w.1 ≤ i) && decide (i < w.2) && !t.loose.contains i))

/-- Whether a member can deliver no more raw samples. -/
def State.memberOver (s : State) (m : CapMember) : Bool :=
  !s.intakeOn m.slot || !s.ringMember m.slot || !s.isSet TRG_RING_CTL_EN || !s.isSet (CMP_RAW_STAT_ASSIGNED m.slot)
    || decide (m.flags / 2 % 2 = 1)

/-- The tiles a member of a capture holds, in sample order. -/
def State.memberTiles (s : State) (m : CapMember) : List RingTile :=
  m.tiles.filterMap (fun i => s.ring.tiles.find? (fun t => t.id == i))

/-- Whether the tile that holds the last sample of a member's window is complete. -/
def State.memberDone (s : State) (m : CapMember) : Bool :=
  (s.ring.tiles.filter (fun t => t.slot == m.slot)).any (fun t => decide (m.to_ ≤ t.to_))

/-- The final flags of a member (R310). -/
def State.memberFlags (s : State) (m : CapMember) : Nat :=
  if m.flags / 16 = 1 then 16
  else
    let ts := s.memberTiles m
    let clipEnd := decide (m.flags / 2 % 2 = 1) || !s.memberDone m
    let start := decide (m.flags % 2 = 1)
    let absent := ts.any (fun t => t.absent && decide (t.to_ < m.to_)) ||
      (!start && (match ts.head? with
        | some t => decide (m.from_ + t.period < t.at0)
        | none => false))
    let loose := ts.any (fun t => let w := tileSpan t m; t.loose.any (fun i => decide (w.1 ≤ i) && decide (i < w.2)))
    b2n start + 2 * b2n clipEnd + 4 * b2n absent + 8 * b2n loose

/-- The entry of a member in the capture record (R311). -/
def State.memberEntry (s : State) (m : CapMember) : List Byte :=
  let ts := s.memberTiles m
  let n := ts.foldl (fun a t => a + (tileTakes m t).1) 0
  let first := ts.findSome? (fun t => (tileTakes m t).2.map (fun i => t.at0 + (i * t.period : Nat)))
  let pos := (ts.head?.bind (fun t => (tileTakes m t).2)).getD 0
  let per := match ts.head? with
    | some t => t.period
    | none => s.rawPeriod m.slot
  leBytes 2 m.slot ++ leBytes 1 (s.memberFlags m) ++ leBytes 1 m.track ++ leBytes 4 m.skew ++ leBytes 8 (toBits 64 m.first)
    ++ (match first with
      | some t => mtBytes (t / 2 ^ 32)
      | none => List.replicate 12 0#8)
    ++ leBytes 8 per ++ leBytes 8 n ++ leBytes 4 ts.length ++ leBytes 4 pos ++ leBytes 4 0

/-- The capture record (R311). -/
def State.captureRecord (s : State) (c : Capture) : List Byte :=
  let flagged := c.members.any (fun m => s.memberFlags m ≠ 0)
  let tiles := (c.members.flatMap (fun m => s.memberTiles m)).length
  leBytes 4 0x54504143 ++ leBytes 2 c.members.length ++ leBytes 1 c.output ++ leBytes 1 c.src ++ leBytes 8 c.seq
    ++ mtBytes c.mt ++ leBytes 1 c.grid ++ leBytes 1 (c.status + 16 * b2n flagged) ++ leBytes 2 c.tai ++ leBytes 8 c.kTrig
    ++ leBytes 4 c.pre ++ leBytes 4 c.post ++ leBytes 8 c.dead ++ leBytes 4 c.refs ++ leBytes 4 tiles
    ++ c.members.flatMap s.memberEntry

/-- Close a capture (R310): its record and tiles go to the capture queue as one unit, and its context is free. -/
def State.closeCapture (s : State) (c : Capture) : State :=
  let flagged := c.members.any (fun m => s.memberFlags m ≠ 0)
  let u : ReadyItem := { queue := c.queue, bytes := s.captureRecord c, first := c.seq, last := c.seq, kind := 2,
                         capture := some c.seq,
                         linked := c.members.flatMap (fun m => (s.memberTiles m).flatMap (fun t => t.bytes)) }
  let s1 := { s with captures := s.captures.filter (fun x => x.seq != c.seq), items := s.items ++ [u] }
  let x := s1.trg c.output
  let later := s1.captures.any (fun y => y.output == c.output && decide (c.seq < y.seq))
  let s2 := if later then s1 else s1.setTrg c.output { x with capOpen := false, closedAt := s.mt }
  let s3 := if flagged then (s2.put (TRG_OUT_STAT_CLIP_SEEN c.output) 1).raise evTRG_CAP_CLIPPED c.output else s2
  (s3.raise evTRG_CAP_CLOSED c.output).freeCtx

/-- CAPTURE_CLOSE (R310): the capture with a sequence closes once every member's window is complete or the member can
deliver no more samples. -/
def execCaptureClose (seq : Nat) (s : State) : Host.Outcome State Fault Refusal :=
  match s.captures.find? (fun c => c.seq == seq) with
  | none => .next s
  | some c =>
    let ready := c.members.all (fun m => m.flags / 16 = 1 || s.memberDone m || s.memberOver m)
    if ready then .next (s.closeCapture c) else .next s

end Sys2Proof.Machine
end

