-- ==== Sys2Proof/Machine/Queues.lean ====
section
/-! DEFINITION. Queues and plots: enabling, disabling and flushing a queue, its writers, the allocator's registers, and
worn plots (R350 to R361, R366 to R372, R476). -/
namespace Sys2Proof.Machine

/-! ## Route tables (R476, R482) -/

/-- Word w of route stream entry i. -/
def State.rtWord (s : State) (i w : Nat) : Nat := (s.tab (0x1520000 + 32 * i + 4 * w)).toNat
/-- Word w of address entry a. -/
def State.adWord (s : State) (a w : Nat) : Nat := (s.tab (0x1540000 + 32 * a + 4 * w)).toNat
/-- Word w of port entry p. -/
def State.ptWord (s : State) (p w : Nat) : Nat := (s.tab (0x1544000 + 32 * p + 4 * w)).toNat

/-- The pair of route stream i. -/
def State.rtPair (s : State) (i : Nat) : Nat := bits (s.rtWord i 0) 11 8
/-- The address entry of route stream i on route r (0 A, 1 B). -/
def State.rtAddr (s : State) (i r : Nat) : Nat := if r = 0 then bits (s.rtWord i 2) 7 0 else bits (s.rtWord i 2) 15 8
/-- `PAYLOAD` of route stream i. -/
def State.rtPayload (s : State) (i : Nat) : Nat := bits (s.rtWord i 2) 31 16

/-- The port of pair j on route r, where it has one. -/
def State.pairPort (s : State) (j r : Nat) : Option Nat :=
  let v := if r = 0 then s.get (RED_PAIR_PORT_A j) else s.get (RED_PAIR_PORT_B j)
  if bit v 5 then some (v % 32) else none

/-- The routes that a queue with route-port destination uses (R482): both where mirrored, otherwise the active side. -/
def State.routesOf (s : State) (q : Nat) : List Nat :=
  if s.isSet (QUE_CFG0_MIRROR q) then [0, 1] else [s.get (RED_PAIR_SIDE (s.rtPair (s.get (QUE_CFG4_ID q))))]

/-- Whether route stream i serves route r (R476). -/
def State.routeServes (s : State) (i r : Nat) : Bool :=
  match s.pairPort (s.rtPair i) r with
  | none => false
  | some p =>
    let v := bits (s.ptWord p 2) 7 0
    bits (s.adWord (s.rtAddr i r) 2) 7 0 == v && decide ((if v = 6 then 80 else 60) + s.rtPayload i ≤ s.ptWord p 3)

/-! ## Enabling (R351, R352, R609) -/

/-- Whether a borough has an event queue that is not OFF besides q. -/
def State.otherEventQueue (s : State) (q b : Nat) : Bool :=
  s.quesOn.any (fun p => p != q && s.get (QUE_CFG0_TYPE p) == 4 && s.get (QUE_CFG0_BOROUGH p) == b)

/-- Check 2 of R352. -/
def State.queRangeOk (s : State) (q : Nat) : Bool :=
  let ty := s.get (QUE_CFG0_TYPE q)
  let b := s.get (QUE_CFG0_BOROUGH q)
  let ctl := ty = 2 || ty = 3 || ty = 4
  let rec_ := s.isSet (QUE_CFG0_REC q)
  let tl := s.get (QUE_CFG5_TILE_LOG2 q)
  let max_ := s.get (QUE_CFG2_MAX q)
  decide (q < 16128) && decide (ty ≤ 5) && (ty ≠ 5 || b = 0) && (!s.isSet (QUE_CFG0_EXPRESS q) || (ty = 0 && b = 0))
    && (!rec_ || (decide (ty ≤ 1) && decide (12 ≤ tl) && decide (tl ≤ 20)))
    && (s.get (QUE_CFG0_TIER q) ≠ 2 || ctl) && s.get (QUE_CFG0_TIER q) ≠ 3
    && (ctl || s.get (QUE_CFG3_RATE q) ≠ 0) && s.get (QUE_CFG0_WEIGHT q) ≠ 0
    && decide (1 ≤ max_) && decide (max_ ≤ 4194304) && s.get (QUE_CFG4_DEST q) ≠ 3
    && !(ty = 4 && s.otherEventQueue q b)

/-- Unused reserves of a borough's queues. -/
def State.boroughRes (s : State) (b : Nat) : Nat :=
  s.quesOn.foldl (fun a p => if s.get (QUE_CFG0_BOROUGH p) = b then a + s.unusedOf p else a) 0

/-- Check 6 of R352. -/
def State.queDestOk (s : State) (q : Nat) : Bool :=
  let d := s.get (QUE_CFG4_DEST q)
  let i := s.get (QUE_CFG4_ID q)
  if d = 0 then true
  else if s.get (QUE_CFG0_TYPE q) = 4 then false
  else if d = 1 then bit (s.rtWord i 0) 0 && (s.routesOf q).all (s.routeServes i)
  else decide (s.get (QUE_CFG4_SHEET q) < 40)

/-- The checks of R352 in order. -/
def State.enableCheck (s : State) (q : Nat) : Nat :=
  let b := s.get (QUE_CFG0_BOROUGH q)
  let min_ := s.get (QUE_CFG1_MIN q)
  let tier := s.resTier q
  if s.get (QUE_STAT_STATE q) ≠ 0 then 1
  else if !s.queRangeOk q then 2
  else if s.get (PLT_QUOTA_V b) < s.get (PLT_USED_V b) + s.boroughRes b + min_ then 3
  else if s.get (QUE_CFG2_MAX q) < min_ || s.tierFree tier < s.unusedRes tier + min_ + s.escPart tier then 4
  else if s.dataQueue q && (decide (elasticBytes < s.allowOthers q + s.allowOf q (s.rawLoads q 1024))
      || (s.isSet (QUE_CFG0_REC q) && (s.pickEngine (s.recLoad q)).isNone)) then 5
  else if !s.queDestOk q then 6
  else 0

/-- Enable queue q (R351): its code. -/
def State.queEnable (s : State) (q : Nat) : Nat × State :=
  let c := s.enableCheck q
  let s1 := s.put (QUE_STAT_CODE q) c
  if c ≠ 0 then (c, s1.raise evQUE_Q_REFUSED q [.w4 c])
  else
    let e := if s1.isSet (QUE_CFG0_REC q) then s1.pickEngine (s1.recLoad q) else none
    let s2 := match e with
      | some x => s1.loadEngine x (s1.recLoad q)
      | none => s1
    let s3 := ({ s2 with quesOn := q :: s2.quesOn, rxs := s2.rxs.filter (fun r => r.2.queue != q) } : State).setQue q { engine := e }
    (0, ((((s3.put (QUE_STAT_STATE q) 1).setAllow q).showQue q).raise evQUE_Q_ON q).grantSync q)

/-! ## Disabling and flushing (R351, R353) -/

/-- Whether a beam descriptor names queue q: as written, in force, or in a change staged on a beam. -/
def State.beamNames (s : State) (q : Nat) : Bool :=
  let names := fun (v : Nat) => bit v 15 && bits v 13 0 == q
  s.beams.any (fun e => (s.beamCfgs e.1).any (fun c => names (c.w 2) || names (c.w 3)))
    || s.regs.any (fun e => decide (0xA10000 ≤ e.1) && decide (e.1 < 0xA30000) && (e.1 % 32 == 8 || e.1 % 32 == 12) && names e.2.toNat)
    || s.staged.any (fun x => match x.unit with
      | .beam b => x.vals.any (fun v => (v.key == (BFM_DESC b 2).key || v.key == (BFM_DESC b 3).key) && names v.val)
      | _ => false)

/-- Whether a writer names queue q (R353); a queue of an enabled ring is ON exactly while the ring is (R525). -/
def State.queInUse (s : State) (q : Nat) : Bool :=
  let names := fun (v : Nat) => (bit v 31 && bits v 29 16 == q) || (bit v 15 && bits v 13 0 == q)
  s.slots.any (fun e => e.2.on && (s.slotShadow e.1 0xF0 :: s.wordsInUse e.1 (CHP_ROUTE e.1)).any names)
    || s.beamNames q
    || decide (16128 ≤ q)
    || !(s.grantsInto q).isEmpty
    || (List.range 1024).any (fun n => s.isSet (CMP_RAW_QEN n) && s.get (CMP_RAW_QUEUE n) == q)
    || (List.range 16).any (fun p => (s.fget (SFE_ROUTE_EN p) == 1 && s.fget (SFE_ROUTE_QUEUE p) == q)
      || (s.isSet (SFE_ROUTE_EN p) && s.get (SFE_ROUTE_QUEUE p) == q)
      || s.staged.any (fun x => x.unit == .fe && x.vals.any (fun v => v.key == (SFE_ROUTE p).key
        && bits v.val (SFE_ROUTE_EN p).hi (SFE_ROUTE_EN p).lo == 1
        && bits v.val (SFE_ROUTE_QUEUE p).hi (SFE_ROUTE_QUEUE p).lo == q)))
    || (s.isSet TRG_CTL_S_EN && s.get TRG_CTL_SQUEUE == q)
    || (List.range 64).any (fun t => s.get (TRG_OUT_STAT_STATE t) != 0 && s.isSet (TRG_OUT_CFG_CAP_EN t)
      && s.get (TRG_CAP0_QUEUE t) == q)

/-- Close the record tile in progress of a queue that is disabled (R334). -/
def State.recLast (s : State) (q : Nat) : State :=
  let x := s.que q
  match x.tile with
  | none => s
  | some t => s.setQue q { x with tile := none, closing := x.closing ++ [(t, 9)] }

/-- Disable queue q without its checks: DRAINING, OFF once empty. -/
def State.queDrain (s : State) (q : Nat) : State := (((s.recLast q).put (QUE_STAT_STATE q) 2).drained q).grantSync q

/-- The code of a refused DISABLE or FLUSH, and Q_REFUSED. -/
def State.queRefused (s : State) (q c : Nat) : Nat × State :=
  (c, (s.put (QUE_STAT_CODE q) c).raise evQUE_Q_REFUSED q [.w4 c])

/-- Disable queue q (R351, R353): its code. -/
def State.queDisable (s : State) (q : Nat) : Nat × State :=
  if s.get (QUE_STAT_STATE q) ≠ 1 then s.queRefused q 1
  else if s.queInUse q then s.queRefused q 7
  else (0, (s.put (QUE_STAT_CODE q) 0).queDrain q)

/-- Free a queue's chain and discard what it holds (R351): the bytes discarded. -/
def State.queEmpty (s : State) (q : Nat) : Nat × State :=
  let x := s.que q
  let n := (x.vis.foldl (fun a u => a + u.bytes.length) 0) - x.read + x.part
  let us := mapGet [] q s.units
  let caps := x.vis.filterMap (fun u => u.capture)
  let first := (x.vis.head?.map (fun u => u.first)).getD ((us.head?.map (fun u => u.first)).getD 0)
  let last := if x.part ≠ 0 then (us.head?.map (fun u => u.last)).getD 0 else (x.vis.getLast?.map (fun u => u.last)).getD 0
  let s1 := { s with units := if x.part ≠ 0 then mapPut [] q us.tail s.units else s.units }
  let s2 := (s1.setQue q { x with chain := [], rd := 0, part := 0, vis := [], read := 0, seen := 0, pk := [],
                                  boff := x.boff + (n - (x.pk.foldl (fun a p => a + p.len) 0)),
                                  waits := none, stallSaid := false, downSaid := false }).freePlots x.chain
  let s3 := caps.foldl State.releaseCapture s2
  let s4 := s3.bumpSat (QUE_DROP q) evQUE_DROP_SAT q (ceilDiv n 1024)
  (n, ((s4.raise evQUE_Q_FLUSHED q [.w8 first, .w8 last]).showQue q).drained q)

/-- Flush queue q (R351, R353): its code and the bytes discarded. -/
def State.queFlush (s : State) (q : Nat) : (Nat × Nat) × State :=
  if s.get (QUE_STAT_STATE q) = 0 then let r := s.queRefused q 1; ((1, 0), r.2)
  else if s.queInUse q then let r := s.queRefused q 7; ((7, 0), r.2)
  else let r := (s.put (QUE_STAT_CODE q) 0).queEmpty q; ((0, r.1), r.2)

/-- A write of `QUE_CTL` of queue q (R351). -/
def State.queCtlWrite (s : State) (q : Nat) (w : Wr) : State :=
  let n := b2n (w.hits 0) + b2n (w.hits 1) + b2n (w.hits 2)
  if 1 < n then s.raise evSYS_ACCESS_VALUE w.fn
  else if w.hits 0 then (s.queEnable q).2
  else if w.hits 1 then (s.queDisable q).2
  else if w.hits 2 then (s.queFlush q).2
  else s

/-- The queue that a function's selector names. -/
def State.queSel (s : State) (fn : Nat) : Nat := s.get (QUE_SEL_V fn)

/-- QUE_ENABLE (R351, R352): a write of `QUE_CTL`. -/
def execQueEnable (w : Wr) (s : State) : Host.Outcome State Fault Refusal :=
  .next (s.pfOnly w 0xC0004 (fun s => s.queCtlWrite (s.queSel w.fn) w))

/-- QUE_DISABLE (R351, R353): a write of `QUE_CTL`. -/
def execQueDisable (w : Wr) (s : State) : Host.Outcome State Fault Refusal :=
  .next (s.pfOnly w 0xC0004 (fun s => s.queCtlWrite (s.queSel w.fn) w))

/-- QUE_FLUSH (R351, R353): a write of `QUE_CTL`. -/
def execQueFlush (w : Wr) (s : State) : Host.Outcome State Fault Refusal :=
  .next (s.pfOnly w 0xC0004 (fun s => s.queCtlWrite (s.queSel w.fn) w))

/-! ## Configuration writes (R353, R357, R375) -/

/-- A write of `QUE_CFG0` of queue q: while it is not OFF only `WEIGHT` changes. -/
def State.queCfg0Write (s : State) (q : Nat) (w : Wr) : State :=
  let old := s.rn (QUE_CFG0 q)
  let new := merged old w
  if s.get (QUE_STAT_STATE q) = 0 then s.mergeRaw (QUE_CFG0 q).key w
  else if w.reaches 7 0 && bits new 7 0 = 0 then s.raise evSYS_ACCESS_VALUE w.fn
  else
    let s1 := s.put (QUE_CFG0_WEIGHT q) (bits new 7 0)
    if bits new 31 19 ≠ bits old 31 19 || !w.reaches 7 0 then s1.raise evQUE_CFG_BUSY q else s1

/-- A write of another configuration word of queue q. -/
def State.queCfgWrite (s : State) (q key : Nat) (w : Wr) : State :=
  if s.get (QUE_STAT_STATE q) = 0 then s.mergeRaw key w else s.raise evQUE_CFG_BUSY q

/-- Put the escape reserve (R357): `none` where a part does not fit the free plots of its tier. -/
def State.escSet (s : State) (near far : Nat) : Option State :=
  if s.tierFree 1 < near + s.unusedRes 1 || s.tierFree 0 < far + s.unusedRes 0 then none
  else
    let nearUsed := s.get PLT_ESC_NEAR - s.get PLT_ESC_FREE_NEAR
    let farUsed := s.get PLT_ESC_FAR - s.get PLT_ESC_FREE_FAR
    let s1 := (s.put PLT_ESC_NEAR near).put PLT_ESC_FAR far
    some ((s1.setEsc 1 (near - nearUsed)).setEsc 0 (far - farUsed))

/-- A write of `PLT_ESC` (R357). -/
def State.escWrite (s : State) (w : Wr) : State :=
  let v := merged (s.rn PLT_ESC) w
  match s.escSet (bits v 31 24) (bits v 22 0) with
  | some t => t
  | none => s.raise evSYS_ACCESS_VALUE w.fn

/-- Whether a quota may be given to borough b (R375). -/
def State.quotaOk (s : State) (b v : Nat) : Bool := decide (s.get (PLT_USED_V b) + s.boroughRes b ≤ v)

/-- A write of `PLT_QUOTA[b]` (R375). -/
def State.quotaWrite (s : State) (b : Nat) (w : Wr) : State :=
  if s.quotaOk b (bits (merged (s.rn (PLT_QUOTA b)) w) 22 0) then s.mergeRaw (PLT_QUOTA b).key w
  else s.raise evSYS_ACCESS_VALUE w.fn

/-! ## Writers (R354, R356, R358, R366, R367) -/

/-- Whether the writer of queue q needs a new tail plot. -/
def State.needsPlot (s : State) (q : Nat) : Bool := (mapGet [] q s.units) ≠ [] && s.tailRoom q == 0

/-- PLOT_REQUEST (R356, R366): the writer of queue q needs a new tail and asks for a plot; a refused compressor stalls
(R335). -/
def execPlotRequest (q : Nat) (s : State) : Host.Outcome State Fault Refusal :=
  if !s.needsPlot q || (s.que q).refused.isSome then .next s
  else match s.askPlot q with
    | (true, s1) => .next s1
    | (false, s1) => .next (if s1.dataQueue q then s1.encStall q else s1)

/-- The bytes of one value of a record's DETAIL (R605). -/
def Detail.bytes : Detail → List Byte
  | .w4 v => leBytes 4 (toBits 32 v)
  | .w8 v => leBytes 8 (toBits 64 v)
  | .mt t => mtBytes t

/-- The 64 bytes of an event record with its sequence (R605). -/
def EvRec.bytes (r : EvRec) (seq : Nat) : List Byte :=
  let d := r.detail.flatMap Detail.bytes
  let span := min (2 ^ 32 - 1) ((r.last - r.first) / (mtMs : Int)).toNat
  let l := leBytes 8 seq ++ leBytes 2 r.src ++ leBytes 2 r.code ++ leBytes 2 r.inst ++ leBytes 1 r.borough ++ leBytes 1 r.flags
    ++ mtBytes r.first ++ leBytes 4 span ++ leBytes 4 r.reps ++ (d ++ List.replicate 24 0#8).take 24
  l ++ leBytes 4 (crc32c l)

/-- The writer of an event queue takes the oldest record that waits in the router for its borough (R609). -/
def State.eventFeed (s : State) (q : Nat) : State :=
  let b := s.get (QUE_CFG0_BOROUGH q)
  if s.get (QUE_CFG0_TYPE q) ≠ 4 || s.get (QUE_STAT_STATE q) ≠ 1 || mapGet [] q s.units ≠ [] then s
  else match s.router.find? (fun x => x.borough == b) with
    | none => s
    | some x =>
      let n := (s.que q).total
      let u : ReadyItem := { queue := q, bytes := x.item.bytes n, first := n, last := n, kind := 2, vec := x.vec }
      let s1 : State := { s with router := s.router.erase x, units := mapPut [] q [u] s.units }
      s1.setQue q { s1.que q with total := n + 1 }

/-- UNIT_WRITE (R354, R609): the writer of queue q writes its next unit, or the next record of its event queue, into the tail plots; refused, it waits to retry. -/
def execUnitWrite (q : Nat) (s : State) : Host.Outcome State Fault Refusal :=
  if (s.que q).refused.isSome then .next s else .next ((s.eventFeed q).writeStep q)

/-- PLOT_COPY_DONE (R360): the oldest plot copy completes; where its queue no longer holds the plot, the new one is freed. -/
def execPlotCopyDone (s : State) : Host.Outcome State Fault Refusal :=
  match s.copies with
  | [] => .next s
  | c :: r =>
    let s1 := { s with copies := r }
    let x := s1.que c.queue
    let b := s1.get (QUE_CFG0_BOROUGH c.queue)
    let s2 := s1.put (PLT_USED_V b) (s1.get (PLT_USED_V b) + 1)
    if x.chain.contains c.old then
      let o := s2.plot c.old
      let s3 := s2.setPlot c.new { s2.plot c.new with fill := o.fill }
      let s4 := s3.setQue c.queue { x with chain := x.chain.map (fun p => if p = c.old then c.new else p) }
      .next ((s4.freePlot c.old).showQue c.queue)
    else .next (s2.freePlot c.new)

/-- A plot becomes failing (R372): a free one at once is marked, or retired under the policy; one that holds data remembers whether
the policy was armed (R43). -/
def State.weakPlot (s : State) (id : Nat) : State :=
  let x := s.plot id
  let tier := plotTier id
  let armed := s.armed (if tier = 1 then 4 else 5)
  let s1 := s.setPlot id { x with weak := true, pol := armed }
  if x.state = 0 || x.state = 3 then
    if armed then (s1.wn (freeReg tier) (s1.tierFree tier - 1)).retirePlot id true
    else s1.setPlot id { x with weak := true, state := 3 }
  else s1

/-- Put a byte of the unit that holds place `pos` of the units one behind the other. -/
def hurtUnits (v : Nat) : Nat → List VisUnit → List VisUnit
  | _, [] => []
  | pos, u :: r => if pos < u.bytes.length then { u with bytes := u.bytes.set pos (BitVec.ofNat 8 v) } :: r
    else u :: hurtUnits v (pos - u.bytes.length) r

/-- The damage of an uncorrectable error in a plot that holds data (R372): the byte `off` behind the point its queue has read, in a
unit that is visible or in the one that is being written; in the ring, a byte of the first tile there. -/
def State.hurtPlot (s : State) (id off v : Nat) : State :=
  let x := s.plot id
  if x.state ≠ 1 && x.state ≠ 2 then s
  else if x.kind = 1 then
    match s.ring.tiles.find? (fun t => t.plots.contains id) with
    | none => s
    | some t => { s with ring := { s.ring with tiles := s.ring.tiles.map (fun y =>
        if y.id = t.id then { y with bytes := y.bytes.set (off % y.bytes.length) (BitVec.ofNat 8 v) } else y) } }
  else
    let y := s.que x.owner
    let pos := y.read + off
    let n := y.vis.foldl (fun a u => a + u.bytes.length) 0
    if pos < n then s.setQue x.owner { y with vis := hurtUnits v pos y.vis }
    else match mapGet [] x.owner s.units with
      | [] => s
      | u :: r => { s with units := mapPut [] x.owner ({ u with bytes := u.bytes.set (pos - n) (BitVec.ofNat 8 v) } :: r) s.units }

/-- PLOT_ECC_ERROR (R372): a corrected or an uncorrectable error of plot `id`. The byte that an uncorrectable one damages is
delivered as read, with a free value. -/
def execPlotEccError (id off : Nat) (uncorr : Bool) (s : State) : Host.Outcome State Fault Refusal :=
  let x := s.plot id
  if x.state = 4 || x.state = 5 then .next s
  else if uncorr then
    let d := s.draw 256
    .next ((((d.2.hurtPlot id off d.1).weakPlot id).put PLT_STAT_ECC_SEEN 1).raise evPLT_PLOT_ECC x.owner [.w8 off, .w8 off])
  else
    let fresh := x.errs = 0 || decide (x.hour + ((3600 * mtSec : Nat) : Int) ≤ s.mt) || decide (s.mt < x.hour)
    let y := if fresh then { x with errs := 1, hour := s.mt } else { x with errs := x.errs + 1 }
    let s1 := s.setPlot id y
    .next (if 16 < y.errs && !x.weak then s1.weakPlot id else s1)

end Sys2Proof.Machine
end

