-- ==== Sys2Proof/Machine/CmdRings.lean ====
section
/-! DEFINITION. Command and completion rings: enabling and disabling (R516, R523, R525, R537). -/
namespace Sys2Proof.Machine

/-- The command ring queue and the completion ring queue of ring r of borough b (R525). -/
def ringQueues (b r : Nat) : List Nat := [cmdQueue b r, cplQueue b r]

/-- The ON command rings of the hub. -/
def State.ringsOn (s : State) : Nat :=
  countIf (fun (i : Nat) => s.isSet (BRG_CRING_CTL_EN (i / 4) (i % 4))) (List.range 128)

/-- The code of an enable of ring r (R525, R537): 3 a size of 0, 1 RING_ESCAPE, 2 RING_QUOTA. -/
def State.ringCheck (s : State) (b r : Nat) : Nat :=
  if s.get (BRG_CRING_CTL_CMD_SIZE b r) = 0 || s.get (BRG_CRING_CTL_CPL_SIZE b r) = 0 then 3
  else if s.get PLT_ESC_FAR < 2 * (s.ringsOn + 1) then 1
  else if s.get (PLT_QUOTA_V b) < s.get (PLT_USED_V b) + s.boroughRes b + 2 then 2
  else 0

/-- Turn ring r on: its queues are ON with `MIN` = 1, and its indices start from 0. -/
def State.ringOn (s : State) (b r : Nat) : State :=
  let s1 := (ringQueues b r).foldl (fun (s : State) q => s.ringQueOn b q) s
  (((s1.put (BRG_CRING_CTL_EN b r) 1).setCring b r {}).put (BRG_CRING_CI_V b r) 0).put (BRG_CPL_PI_V b r) 0

/-- Set `EN` of ring r after the checks of R525; a ring exists only while its function has Bus Master Enable (R516). -/
def State.ringEnable (s : State) (b r : Nat) : State :=
  let c := s.ringCheck b r
  let s1 := s.put (BRG_CRING_STAT_CODE b r) c
  if c = 0 && (s.func b).bme && (s.func b).present then s1.ringOn b r else s1

/-- A packet taken from ring r no longer finds it: its reply is discarded (R516). -/
def Packet.unring (b r : Nat) (p : Packet) : Packet := if p.path = .ring b r then { p with path := .ring b (r + 4) } else p

/-- `EN` of ring r is cleared (R516, R525): its queues are OFF and their plots free, what waits in it is gone, replies not yet written are discarded and
counted. -/
def State.ringDisable (s : State) (b r : Nat) : State :=
  if !s.isSet (BRG_CRING_CTL_EN b r) then s
  else
    let lost := (s.cring b r).replies.length
    let s1 := (ringQueues b r).foldl State.ringQueOff s
    let s2 := { s1 with cmds := s1.cmds.map (fun (c : OpenCmd) => { c with pkt := Packet.unring b r c.pkt }) }
    ((((s2.put (BRG_CRING_CTL_EN b r) 0).setCring b r {}).put (BRG_CRING_STAT_PAUSED b r) 0).put (BRG_CRING_STAT_LOST b r)
      (satAdd 16 (s2.get (BRG_CRING_STAT_LOST b r)) lost))

/-- Disable the four rings of borough b. -/
def State.ringsDisable (s : State) (b : Nat) : State := (List.range 4).foldl (fun (s : State) r => s.ringDisable b r) s

/-- Whether function fn reaches the ring registers of borough b (R537). -/
def ringSees (fn b : Nat) : Bool := fn = 0 || fn = b

/-- A write of `BRG_CRING_CTL` (R511, R525, R537): sizes and vector are fixed while `EN` = 1. -/
def State.cringCtlWrite (s : State) (b r : Nat) (w : Wr) : State :=
  let reg := BRG_CRING_CTL b r
  let old := s.rn reg
  let new := merged old w
  let on := bit old 31
  let fixed := on && (bits new 26 16 ≠ bits old 26 16 || bits new 7 0 ≠ bits old 7 0)
  let w1 := if on then Wr.keep (Wr.keep w old 26 16) old 7 0 else w
  let badVec := !on && decide (vecCount b ≤ bits new 26 16) && bits new 26 16 ≠ bits old 26 16
  let w2 := if badVec then Wr.keep w1 old 26 16 else w1
  let s1 := if fixed then s.reservedHit w.fn 0 reg.key true else s
  let s2 := if badVec then s1.raise evSYS_ACCESS_VALUE w.fn else s1
  let s3 := s2.mergeRaw reg.key (Wr.keep w2 old 31 31)
  if bit new 31 && !on then s3.ringEnable b r else if on && !bit new 31 then s3.ringDisable b r else s3

/-- CRING_ENABLE (R525): a write of `BRG_CRING_CTL` of ring r of borough b. -/
def execCringEnable (b r : Nat) (w : Wr) (s : State) : Host.Outcome State Fault Refusal :=
  let s1 := s.flushHeld w.fn
  .next (if b < 32 && r < 4 && ringSees w.fn b && !s1.shut 0x84000 then s1.cringCtlWrite b r w
    else s1.reservedHit w.fn 0 (0x84000 + 0x100 * b + 0x40 * r) true)

end Sys2Proof.Machine
end

