-- ==== Sys2Proof/Machine/LaneBase.lean ====
section
/-! DEFINITION. The lane map of a sheet, its spare, and the state of lanes (R409, R410, R431, R433 to R435). -/
namespace Sys2Proof.Machine

/-- What the hub holds of a sheet. -/
def State.sheet (s : State) (sh : Nat) : Sheet := mapGet {} sh s.sheets
/-- Put what the hub holds of a sheet. -/
def State.setSheet (s : State) (sh : Nat) (x : Sheet) : State := { s with sheets := mapPut {} sh x s.sheets }

/-- The physical lane of logical lane k on receive; 15 = none. -/
def State.lanePhys (s : State) (sh k : Nat) : Nat := bits (s.rn (LNE_MAP sh)) (4 * k + 3) (4 * k)

/-- The physical lanes of the map, in logical order. -/
def State.mapped (s : State) (sh : Nat) : List Nat := ((List.range 8).map (s.lanePhys sh)).filter (fun l => l != 15)

/-- The logical lane that a physical lane carries. -/
def State.laneLogical (s : State) (sh l : Nat) : Option Nat := (List.range 8).find? (fun k => s.lanePhys sh k == l)

/-- The map register for the physical lanes of logical lanes 0, 1, …. -/
def mapWord (l : List Nat) : Nat := (List.range 8).foldl (fun a k => a + l.getD k 15 * 16 ^ k) 0

/-- Put the lane map, and the width it gives. -/
def State.setMap (s : State) (sh : Nat) (l : List Nat) : State := (s.wn (LNE_MAP sh) (mapWord l)).put (LNE_SHEET_STAT_WIDTH sh) l.length

/-- `LNE_STAT.STATE` of a lane. -/
def State.laneState (s : State) (sh l : Nat) : Nat := s.get (LNE_STAT_STATE sh l)

/-- Put the state of a lane that is neither asleep nor retired. -/
def State.laneTo (s : State) (sh st l : Nat) : State :=
  if s.laneState sh l = 0 || s.laneState sh l = 9 then s else s.put (LNE_STAT_STATE sh l) st

/-- A lane enters a stage of bring-up (R418): its state, and when it entered. -/
def State.stageTo (s : State) (sh st l : Nat) : State :=
  let x := s.sheet sh
  (s.setSheet sh { x with stageAt := mapPut 0 l s.mt x.stageAt }).put (LNE_STAT_STATE sh l) st

/-- Whether a lane has spent `t` in its stage. -/
def State.inStage (s : State) (sh l t : Nat) : Bool := decide (mapGet 0 l (s.sheet sh).stageAt + (t : Int) ≤ s.mt)

/-- `LNE_SHEET_STAT.STATE`: 0 DOWN, 1 BRINGUP, 2 UP, 3 TEST. -/
def State.sheetState (s : State) (sh : Nat) : Nat := s.get (LNE_SHEET_STAT_STATE sh)

/-- Whether a sheet's domain is awake. -/
def State.sheetAwake (s : State) (sh : Nat) : Bool := s.awake (24 + sh) && !bit (s.get SYS_START_LD_FAIL) (sh / 10)

/-- Check 2 of R433: the spare carries no logical lane and is neither failing nor retired. -/
def State.spareFree (s : State) (sh : Nat) : Bool :=
  (s.laneLogical sh 8).isNone && !s.isSet (LNE_STAT_FAILING sh 8) && s.laneState sh 8 != 9

/-- The physical lane that logical lane k leaves on (R410); a narrowed sheet transmits on the lanes of its map. -/
def State.txPhys (s : State) (sh k : Nat) : Nat :=
  if s.lanePhys sh k = 8 then 8
  else if s.get (LNE_SHEET_STAT_WIDTH sh) < 8 then s.lanePhys sh k
  else if s.isSet (LNE_SHEET_CTL_TX_REV sh) then 7 - k else k

/-- The number of a lane as a part of its spare class. -/
def lanePart (sh l : Nat) : Nat := 9 * sh + l

/-- A counter of a sheet rises; CNT_SAT when it first saturates (R436). -/
def State.laneCount (s : State) (sh : Nat) (r : Reg) : State := s.bumpSat r evLNE_CNT_SAT sh

/-- The lane is given up (R434): both directions sleep until the next power-on reset. -/
def State.retireLane (s : State) (sh l : Nat) : State :=
  let s1 := ((s.put (LNE_CTL_TX_SLEEP sh l) 1).put (LNE_CTL_RX_SLEEP sh l) 1).put (LNE_STAT_STATE sh l) 9
  s1.raise evLNE_LANE_RETIRED sh [.w4 l]

/-- Wake the spare lane in both directions (R434). -/
def State.wakeSpare (s : State) (sh st : Nat) : State :=
  ((s.put (LNE_CTL_TX_SLEEP sh 8) 0).put (LNE_CTL_RX_SLEEP sh 8) 0).stageTo sh st 8

/-- The map takes physical lane 8 for logical lane k, and the lane given up is retired (R434). `pol`: a standing policy
acts, which writes one logbook record (R44). -/
def State.spareIn (s : State) (sh k : Nat) (pol : Bool) : State :=
  let l := s.lanePhys sh k
  let s1 := (s.setMap sh ((s.mapped sh).map (fun p => if p = l then 8 else p))).useSpare 3 (lanePart sh l)
  let s2 := s1.raise evLNE_SPARE_IN sh (if pol then policyDetail 3 evLNE_LANE_FAIL.code (lanePart sh l) (lanePart sh 8)
    else [.w4 8]) 0 pol pol
  s2.retireLane sh l

/-- Narrow the sheet to seven lanes (R435): physical lane l is retired, and the others take logical lanes 0 to 6. -/
def State.narrowMap (s : State) (sh l : Nat) (pol : Bool) : State :=
  let s1 := (s.setMap sh ((s.mapped sh).filter (fun p => p != l))).retireLane sh l
  s1.raise evLNE_SHEET_NARROW sh (if pol then policyDetail 3 evLNE_LANE_FAIL.code (lanePart sh l) 0xFFFFFFFF else [.w4 l]) 0
    pol pol

end Sys2Proof.Machine
end

