-- ==== Sys2Proof/Machine/Ether.lean ====
section
/-! DEFINITION. Ethernet ports, pairs and switch-over, and the packets of route streams (R473 to R478, R482 to R489). -/
namespace Sys2Proof.Machine

/-! ## Datagrams (R478) -/

/-- Sum of 16-bit words. -/
def sum16 : List Byte → Nat
  | a :: b :: r => 256 * a.toNat + b.toNat + sum16 r
  | [a] => 256 * a.toNat
  | [] => 0

/-- The UDP checksum over the pseudo-header of the addresses in the address and port entries (R478). -/
def udpCheck (ad pt : List Byte) (sport dport : Nat) (data : List Byte) : Nat :=
  let six := (ad.getD 8 0#8).toNat == 6
  let host := fun (l : List Byte) => (l.drop 16).take (if six then 16 else 4)
  let c := 65535 - (sum16 (host pt ++ host ad) + 17 + 2 * (8 + data.length) + sport + dport + sum16 data + 65534) % 65535 - 1
  if c = 0 then 65535 else c

/-- Send a UDP datagram on a port with an address entry and the port's entry. -/
def State.sendUdp (s : State) (p : Nat) (ad pt : List Byte) (sport dport dscp : Nat) (data : List Byte) : State :=
  s.emit (.udp p ad pt sport dport dscp (udpCheck ad pt sport dport data) data)

/-! ## MACs and ports (R473, R475) -/

/-- What the hub holds of a port. -/
def State.port (s : State) (p : Nat) : Port := mapGet {} p s.ports
/-- Put what the hub holds of a port. -/
def State.setPort (s : State) (p : Nat) (x : Port) : State := { s with ports := mapPut {} p x s.ports }

/-- `MODE` of the MAC of port p. -/
def State.portMode (s : State) (p : Nat) : Nat := s.get (ETH_MAC_CFG_MODE (p / 2))

/-- Whether port p exists: its MAC is on, and the mode has it. -/
def State.portExists (s : State) (p : Nat) : Bool := p < 32 && (s.portMode p == 2 || (s.portMode p == 1 && p % 2 == 0))

/-- The sheet of port p. -/
def State.portSheet (s : State) (p : Nat) : Nat := s.get (ETH_MAC_CFG_SHEET (p / 2))

/-- The MAC instance that a sheet is assigned to (R473). -/
def State.macOf (s : State) (sh : Nat) : Option Nat :=
  (List.range 16).find? (fun m => s.get (ETH_MAC_CFG_MODE m) != 0 && s.get (ETH_MAC_CFG_SHEET m) == sh)

/-- The existing ports of a sheet. -/
def State.sheetPorts (s : State) (sh : Nat) : List Nat :=
  match s.macOf sh with
  | none => []
  | some m => [2 * m, 2 * m + 1].filter s.portExists

/-- `UP` of port p. -/
def upFld (p : Nat) : Fld := if p % 2 = 0 then ETH_MAC_STAT_UP0 (p / 2) else ETH_MAC_STAT_UP1 (p / 2)
/-- `CAUSE` of port p. -/
def causeFld (p : Nat) : Fld := if p % 2 = 0 then ETH_MAC_STAT_CAUSE0 (p / 2) else ETH_MAC_STAT_CAUSE1 (p / 2)
/-- `NARROWED` of port p. -/
def narrowFld (p : Nat) : Fld := if p % 2 = 0 then ETH_MAC_STAT_NARROWED0 (p / 2) else ETH_MAC_STAT_NARROWED1 (p / 2)
/-- `DOWN_SEEN` of port p. -/
def downSeenFld (p : Nat) : Fld := if p % 2 = 0 then ETH_MAC_STAT_DOWN_SEEN0 (p / 2) else ETH_MAC_STAT_DOWN_SEEN1 (p / 2)

/-- Whether port p is UP. -/
def State.portUp (s : State) (p : Nat) : Bool := s.isSet (upFld p)

/-- The logical lanes of port p: four after a fall-back to 800 Gb/s (R475). -/
def State.portLanes (s : State) (p : Nat) : List Nat :=
  if p % 2 = 1 then [4, 5, 6, 7] else if s.portMode p = 2 || s.isSet (narrowFld p) then [0, 1, 2, 3] else List.range 8

/-- The pair and side of port p (R482). -/
def State.pairOf (s : State) (p : Nat) : Option (Nat × Nat) :=
  (((List.range 16).flatMap (fun j => [(j, 0), (j, 1)])).find? (fun x => s.pairPort x.1 x.2 == some p))

/-- A counter of a port rises; CNT_SAT when it first saturates (R490). -/
def State.ethCount (s : State) (r : Reg) (p : Nat) (n : Nat := 1) : State := s.bumpSat r evETH_CNT_SAT p n

/-! ## Failure and restoration of a side (R484 to R489) -/

/-- The failed bit of side r of pair j. -/
def failFld (j r : Nat) : Fld := if r = 0 then RED_PAIR_A_FAILED j else RED_PAIR_B_FAILED j

/-- Whether side r of pair j is failed. -/
def State.sideFailed (s : State) (j r : Nat) : Bool := s.isSet (failFld j r)

/-- The longest detection time of a cause in tenths of a µs (R484): 1 LOS, 2 LOL, 3 alignment or local fault, 4 remote fault,
5 heartbeats. -/
def State.detectMax (s : State) (cause : Nat) : Nat :=
  match cause with
  | 1 => 13
  | 2 => 21
  | 3 | 4 => 120
  | _ => 10 * s.get RED_HB_TO_RX_TO + 10

/-- The causes that hold on port p. -/
def State.portCauses (s : State) (p : Nat) : List Nat :=
  let ls := (s.portLanes p).map (s.lanePhys (s.portSheet p))
  (if ls.any (fun l => l != 15 && s.isSet (LNE_STAT_LOS (s.portSheet p) l)) then [1] else [])
    ++ (if ls.any (fun l => l != 15 && s.isSet (LNE_STAT_LOL (s.portSheet p) l)) then [2] else [])
    ++ (if (s.port p).held ≠ 0 then [(s.port p).held] else [])
    ++ (if s.isSet RED_HB_EN && (s.port p).hbLost then [5] else [])

/-- The queues that send on pair j. -/
def State.pairQueues (s : State) (j : Nat) : List Nat :=
  s.quesOn.filter (fun q => s.get (QUE_CFG4_DEST q) == 1 && s.rtPair (s.get (QUE_CFG4_ID q)) == j)

/-- When a packet was sent on route r. -/
def Pkt.sentOn (p : Pkt) (r : Nat) : Option Int := if r = 0 then p.sentA else p.sentB
/-- Whether a packet's copy on route r is abandoned. -/
def Pkt.dropped (p : Pkt) (r : Nat) : Bool := if r = 0 then p.dropA else p.dropB
/-- A packet sent on route r at a time. -/
def Pkt.sendOn (p : Pkt) (r : Nat) (t : Int) : Pkt :=
  if r = 0 then { p with sentA := some t, again := false } else { p with sentB := some t, again := false }

/-- An unmirrored stream resumes from its rewind point after side r failed at `t`: the packets sent there at or after
t − REWIND are sent again (R485, R487). -/
def State.rewind (s : State) (r : Nat) (t : Int) (q : Nat) : State :=
  if s.isSet (QUE_CFG0_MIRROR q) then s
  else
    let x := s.que q
    let cut := t - ((s.get RED_CTL_REWIND * mtUs : Nat) : Int)
    s.setQue q { x with pk := x.pk.map (fun p => match p.sentOn r with
      | some a => if cut ≤ a then { p with sentA := none, sentB := none, again := true } else p
      | none => p) }

/-- The unmirrored streams of pair j resume from their rewind points on failed side r. -/
def State.rewindPair (s : State) (j r : Nat) : State :=
  match (s.pairPort j r) with
  | none => s
  | some p => match (s.port p).failedAt with
    | none => s
    | some t => (s.pairQueues j).foldl (State.rewind · r t) s

/-- Switch-over of pair j from side r (R486, R487). -/
def State.switchOver (s : State) (j r cause : Nat) : State :=
  let o := 1 - r
  let s1 := (s.rewindPair j r).put (RED_PAIR_SIDE j) o
  let s2 := (s1.put (RED_PAIR_SWITCH_SEEN j) 1).put (RED_PAIR_SWITCHES j) (satAdd 14 (s1.get (RED_PAIR_SWITCHES j)) 1)
  let s3 := s2.raise evRED_SWITCH_DONE j (policyDetail 16 evRED_SIDE_FAILED.code ((s.pairPort j r).getD 0)
    ((s.pairPort j o).getD 0)) 0 true true
  if 10 * s3.get RED_CTL_REWIND < s3.detectMax cause then s3.raise evRED_REWIND_SHORT j [.w4 r, .w4 cause] else s3

/-- A cause is detected on port p (R484): its side fails, and the active side's policy acts (R486). -/
def State.sideFail (s : State) (p cause : Nat) : State :=
  match s.pairOf p with
  | none => s
  | some (j, r) =>
    if s.sideFailed j r then s
    else
      let s1 := (s.setPort p { s.port p with failedAt := some s.mt, hbSince := false }).put (failFld j r) 1
      let s2 := s1.raise evRED_SIDE_FAILED j [.w4 r, .w4 cause]
      if s2.get (RED_PAIR_SIDE j) ≠ r || !s2.armed 16 then s2
      else if (s2.pairPort j (1 - r)).isSome && !s2.sideFailed j (1 - r) then s2.switchOver j r cause
      else s2.raise evRED_BOTH_DOWN j

/-- A mirrored queue's copy on a restored side resumes; what was abandoned is named (R489). -/
def State.mirrorBack (s : State) (r q : Nat) : State :=
  let x := s.que q
  match (if r = 0 then x.skipA else x.skipB) with
  | none => s
  | some g =>
    (s.setQue q (if r = 0 then { x with skipA := none, lagSaid := false } else { x with skipB := none, lagSaid := false })).raise
      evRED_MIRROR_SKIP (s.rtPair (s.get (QUE_CFG4_ID q))) [.w8 g.1, .w8 g.2]

/-- A side is restored when no cause holds, its port is UP and, with heartbeats, one has arrived since (R484). -/
def State.sideRestore (s : State) (p : Nat) : State :=
  match s.pairOf p with
  | none => s
  | some (j, r) =>
    if s.sideFailed j r && (s.portCauses p).isEmpty && s.portUp p && (!s.isSet RED_HB_EN || (s.port p).hbSince) then
      let s1 := (s.put (failFld j r) 0).raise evRED_SIDE_RESTORED j [.w4 r]
      let s2 := if s1.get (RED_PAIR_SIDE j) = r then s1.rewindPair j r else s1
      let s3 := (s2.pairQueues j).foldl (State.mirrorBack · r) s2
      s3.setPort p { s3.port p with failedAt := none }
    else s

/-! ## Ports up and down (R475) -/

/-- A port goes DOWN: cause 1 sheet, 2 AM lock, 3 local fault, 4 remote fault, 5 NARROW. -/
def State.portDown (s : State) (cause p : Nat) : State :=
  if s.portUp p then
    let s1 := s.setPort p { s.port p with since := s.mt }
    (((s1.put (upFld p) 0).put (causeFld p) cause).put (downSeenFld p) 1).raise evETH_PORT_DOWN p [.w4 cause]
  else s

/-- A port comes UP where its sheet is UP, its PCS has no fault and it has not lost its lanes; its side may be restored. -/
def State.portRise (s : State) (p : Nat) : State :=
  let x := s.port p
  let s1 := if s.portExists p && s.sheetState (s.portSheet p) = 2 && !x.am && !x.localF && !x.remoteF && !x.narrow
      && !s.portUp p then
    (s.put (upFld p) 1).raise evETH_PORT_UP p
  else s
  s1.sideRestore p

/-- An ETH sheet is UP. -/
def State.etherUp (s : State) (sh : Nat) : State := (s.sheetPorts sh).foldl State.portRise s

/-- An ETH sheet is no longer UP. -/
def State.etherDown (s : State) (sh : Nat) : State := (s.sheetPorts sh).foldl (State.portDown · 1) s

/-- A lane of a sheet reports loss (cause 1 LOS, 2 LOL): the side of its port fails. -/
def State.etherLoss (s : State) (sh l cause : Nat) : State :=
  match s.laneLogical sh l with
  | none => s
  | some k => ((s.sheetPorts sh).filter (fun p => (s.portLanes p).contains k)).foldl (State.sideFail · · cause) s

/-- A sheet has narrowed (R475): a 1.6 Tb/s port falls back, the second of two 800 Gb/s ports stays DOWN. -/
def State.etherNarrow (s : State) (sh : Nat) : State :=
  match s.macOf sh with
  | none => s
  | some m =>
    if s.portMode (2 * m) = 1 then (s.put (narrowFld (2 * m)) 1).raise evETH_PORT_NARROW (2 * m)
    else
      let p := 2 * m + 1
      let s1 := (s.portDown 5 p).setPort p { s.port p with narrow := true }
      (s1.put (causeFld p) 5).put (narrowFld p) 1

/-- PCS_FAULT (R475): a port's PCS loses alignment marker lock (2), detects a local fault (3) or receives a remote fault
(4). A port that detects a local fault sends remote fault (R474). -/
def execPcsFault (p kind : Nat) (s : State) : Host.Outcome State Fault Refusal :=
  if !s.portExists p || s.sheetState (s.portSheet p) ≠ 2 then .next s
  else
    let x := s.port p
    if (if kind = 2 then x.am else if kind = 3 then x.localF else x.remoteF) then .next s
    else
      let x := if x.am || x.localF || x.remoteF then x else { x with since := s.mt }
      let y := if kind = 2 then { x with am := true } else if kind = 3 then { x with localF := true } else { x with remoteF := true }
      let e := if kind = 2 then evETH_AM_LOCK_LOST else if kind = 3 then evETH_LOCAL_FAULT else evETH_REMOTE_FAULT
      let s1 := ((s.setPort p y).raise e p).portDown (if kind = 2 then 2 else if kind = 3 then 3 else 4) p
      .next (if kind = 3 then s1.emit (.remoteFault p true) else s1)

/-- PCS_FAULT_CLEAR (R475, R484): the PCS of a port has its lock back with no fault. -/
def execPcsFaultClear (p : Nat) (s : State) : Host.Outcome State Fault Refusal :=
  let s1 := if (s.port p).localF then s.emit (.remoteFault p false) else s
  .next ((s1.setPort p { s1.port p with am := false, localF := false, remoteF := false, held := 0 }).portRise p)

/-- PORT_FAULT_HELD (R484): a lost lock or a fault of a port has been held for 10 µs; a port whose sheet is not UP has no lock. -/
def execPortFaultHeld (p : Nat) (s : State) : Host.Outcome State Fault Refusal :=
  let x := s.port p
  if !s.portExists p || s.portUp p || s.mt < x.since + ((10 * mtUs : Nat) : Int) then .next s
  else
    let c := if x.remoteF && !x.am && !x.localF then 4 else 3
    if x.am || x.localF || x.remoteF then .next ((s.setPort p { x with held := c }).sideFail p c)
    else if s.sheetState (s.portSheet p) ≠ 2 then .next (s.sideFail p 3)
    else .next s

/-- A write of `ETH_MAC_CFG[m]` (R473). -/
def State.macCfgWrite (s : State) (m : Nat) (w : Wr) : State :=
  let old := s.rn (ETH_MAC_CFG m)
  let new := merged old w
  let sh := bits new 23 18
  let busy := fun (v : Nat) => bits v 31 30 != 0 && s.isSet (LNE_SHEET_CTL_START (bits v 23 18))
  if bits new 31 30 = bits old 31 30 && sh = bits old 23 18 then s
  else if bits new 31 30 = 3 || (bits new 31 30 ≠ 0 && (sh / 10 ≠ m / 4
      || (List.range 16).any (fun k => k != m && s.get (ETH_MAC_CFG_MODE k) != 0 && s.get (ETH_MAC_CFG_SHEET k) == sh))) then
    s.raise evSYS_ACCESS_VALUE w.fn
  else if busy old || busy new then s.raise evETH_CFG_BUSY m
  else
    let s1 := [2 * m, 2 * m + 1].foldl (fun (s : State) p => (s.portDown 1 p).setPort p { narrow := (s.port p).narrow }) s
    (s1.put (ETH_MAC_CFG_MODE m) (bits new 31 30)).put (ETH_MAC_CFG_SHEET m) sh

/-! ## Pairs (R482, R486) -/

/-- A change of the active side by register or opcode (R486): streams of a failed side resume from their rewind points. -/
def State.sideWrite (s : State) (j r : Nat) : State :=
  let o := s.get (RED_PAIR_SIDE j)
  if o = r then s
  else
    let s1 := if s.sideFailed j o then s.rewindPair j o else s
    (s1.put (RED_PAIR_SIDE j) r).raise evRED_ROUTE_CMD j [.w4 r]

/-- Whether the ports of a pair word are free: in no other pair, and not both sides of this one. -/
def State.pairFree (s : State) (j new : Nat) : Bool :=
  let a := bits new 31 26
  let b := bits new 23 18
  let used := fun (v : Nat) => v / 32 = 1 && (List.range 16).any (fun i => i != j
    && (s.pairPort i 0 == some (v % 32) || s.pairPort i 1 == some (v % 32)))
  !used a && !used b && !(a / 32 == 1 && b / 32 == 1 && a == b)

/-- The failed bit of side r of pair j after its port has been named anew. -/
def State.sideFresh (s : State) (j r : Nat) : State :=
  match s.pairPort j r with
  | none => s.put (failFld j r) 0
  | some p =>
    let s1 := (s.put (failFld j r) 0).setPort p { s.port p with hbAt := some s.mt, hbLost := false, failedAt := none }
    match s1.portCauses p with
    | [] => s1
    | c :: _ => s1.sideFail p c

/-- A write of `RED_PAIR[j]` (R482): a port of another pair is refused. -/
def State.pairWrite (s : State) (j : Nat) (w : Wr) : State :=
  let old := s.rn (RED_PAIR j)
  let new := merged old w
  if !s.pairFree j new then s.raise evSYS_ACCESS_VALUE w.fn
  else
    let side := bits new 17 17
    let s1 := s.mergeRaw (RED_PAIR j).key { w with v := w32 (setBits w.v.toNat 17 17 (bits old 17 17)) }
    let s2 := if bits new 31 26 ≠ bits old 31 26 then s1.sideFresh j 0 else s1
    let s3 := if bits new 23 18 ≠ bits old 23 18 then s2.sideFresh j 1 else s2
    s3.sideWrite j side

/-- A register write of `RED_PAIR[j]` (R482, R486): one that reaches `SIDE` raises ROUTE_CMD, whatever it holds (R490). -/
def State.pairRegWrite (s : State) (j : Nat) (w : Wr) : State :=
  let side := bits (merged (s.rn (RED_PAIR j)) w) 17 17
  let s1 := s.pairWrite j w
  if w.reaches 17 17 && s.pairFree j (merged (s.rn (RED_PAIR j)) w) && side = s.get (RED_PAIR_SIDE j) then
    s1.raise evRED_ROUTE_CMD j [.w4 side]
  else s1

/-- ROUTE_SIDE_WRITE (R486): a write of `RED_PAIR[j]`. -/
def execRouteSideWrite (j : Nat) (w : Wr) (s : State) : Host.Outcome State Fault Refusal :=
  .next (s.pfOnly w (0x100100 + 4 * j) (fun s => if j < 16 then s.pairRegWrite j w else s))

/-! ## Heartbeats (R483, R484) -/

/-- The ports that lie in a pair. -/
def State.pairedPorts (s : State) : List Nat := (List.range 32).filter (fun p => (s.pairOf p).isSome)

/-- A write of `RED_HB` (R483, R484): `EN` = 1 with port 0 is reserved; timers start as `EN` goes to 1, and as it goes to 0 heartbeats
are a cause no longer. -/
def State.redHbWrite (s : State) (w : Wr) : State :=
  let new := merged (s.rn RED_HB) w
  let was := s.isSet RED_HB_EN
  if bit new 31 && bits new 15 0 = 0 then s.raise evSYS_ACCESS_VALUE w.fn
  else
    let s1 := s.mergeRaw RED_HB.key w
    if !was && s1.isSet RED_HB_EN then
      s1.pairedPorts.foldl (fun (s : State) p => s.setPort p { s.port p with hbAt := some s.mt, hbLost := false }) s1
    else if was && !s1.isSet RED_HB_EN then s1.pairedPorts.foldl State.sideRestore s1
    else s1

/-- The bytes of a table entry in the direct region. -/
def State.entryBytes (s : State) (base : Nat) : List Byte := (List.range 8).flatMap (fun w => wordBytes (s.tab (base + 4 * w)))

/-- Address entry a. -/
def State.adEntry (s : State) (a : Nat) : List Byte := s.entryBytes (0x1540000 + 32 * a)
/-- Port entry p. -/
def State.ptEntry (s : State) (p : Nat) : List Byte := s.entryBytes (0x1544000 + 32 * p)

/-- A heartbeat datagram (R483). -/
def heartbeatBytes (hub j r seq : Nat) (t : Int) : List Byte :=
  leBytes 2 0x4248 ++ leBytes 1 1 ++ leBytes 1 r ++ leBytes 4 hub ++ leBytes 1 j ++ leBytes 3 0 ++ leBytes 4 seq ++ mtBytes t
    ++ leBytes 4 0

/-- Whether `TX_PER` µs have passed since a port sent its last heartbeat (R483). -/
def State.hbDue (s : State) (p : Nat) : Bool :=
  match (s.port p).hbTx with
  | none => true
  | some t => decide (t + ((s.get RED_HB_TX_TX_PER * mtUs : Nat) : Int) ≤ s.mt)

/-- Send a heartbeat on a port. -/
def State.sendHeartbeat (s : State) (p : Nat) : State :=
  match s.pairOf p with
  | none => s
  | some (j, r) =>
    let x := s.port p
    let a := s.get RED_HB_ADDR + r
    if s.portUp p && s.hbDue p then
      (s.setPort p { x with hbSeq := (x.hbSeq + 1) % 2 ^ 32, hbTx := some s.mt }).sendUdp p (s.adEntry a) (s.ptEntry p)
        (s.get RED_HB_PORT) (s.get RED_HB_PORT) 0 (heartbeatBytes (s.rn SYS_HUB_ID) j r x.hbSeq s.mt)
    else s

/-- HEARTBEAT_TX (R483): a heartbeat on every paired port. -/
def execHeartbeatTx (s : State) : Host.Outcome State Fault Refusal :=
  .next (if s.isSet RED_HB_EN then s.pairedPorts.foldl State.sendHeartbeat s else s)

/-- A datagram to the heartbeat port arrives on port p (R483): a valid one restarts the port's timer. -/
def State.heartbeat (s : State) (p : Nat) (data : List Byte) : State :=
  if data.length = 32 && leNat (data.take 3) = 0x014248 then
    (s.setPort p { s.port p with hbAt := some s.mt, hbLost := false, hbSince := true }).sideRestore p
  else s

/-- HEARTBEAT_RX (R483). -/
def execHeartbeatRx (p : Nat) (data : List Byte) (s : State) : Host.Outcome State Fault Refusal :=
  .next (if s.portExists p then s.heartbeat p data else s)

/-- HEARTBEAT_TIMEOUT (R484): no heartbeat on port p for `RX_TO` µs. -/
def execHeartbeatTimeout (p : Nat) (s : State) : Host.Outcome State Fault Refusal :=
  let x := s.port p
  let late := match x.hbAt with
    | none => true
    | some t => decide (t + ((s.get RED_HB_TO_RX_TO * mtUs : Nat) : Int) ≤ s.mt)
  if s.isSet RED_HB_EN && (s.pairOf p).isSome && late && !x.hbLost then
    .next ((s.setPort p { x with hbLost := true }).sideFail p 5)
  else .next s

/-! ## Stream packets (R478) -/

/-- Bytes of a queue's stream in packets formed and not released. -/
def Que.formed (x : Que) : Nat := x.pk.foldl (fun a p => a + p.len) 0

/-- Form the next packet of a queue: 1 to `most` bytes of one unit. -/
def State.formPkt (s : State) (q most : Nat) : Option Pkt × State :=
  let x := s.que q
  match s.nextUnit q x.formed with
  | none => (none, s)
  | some (rest, begins) =>
    let n := min most rest.length
    let p : Pkt := { seq := x.pseq, off := x.boff, len := n, first := begins, last := n == rest.length }
    (some p, s.setQue q { x with pseq := x.pseq + 1, boff := x.boff + n, pk := x.pk ++ [p] })

/-- The payload of a packet that a queue still holds. -/
def State.pktData (s : State) (q : Nat) (p : Pkt) : List Byte :=
  let x := s.que q
  match s.nextUnit q (p.off - (x.boff - x.formed)) with
  | none => []
  | some (rest, _) => rest.take p.len

/-- The 32-byte stream header (R478). -/
def State.streamHeader (s : State) (q r : Nat) (p : Pkt) : List Byte :=
  let fl := b2n p.first + 2 * b2n p.last + 4 * b2n (s.isSet (QUE_CFG0_MIRROR q)) + 8 * r + 16 * b2n p.again
  leBytes 2 0x5351 ++ leBytes 1 1 ++ leBytes 1 fl ++ leBytes 4 (s.rn SYS_HUB_ID) ++ leBytes 2 (s.get (QUE_CFG4_ID q))
    ++ leBytes 2 p.len ++ leBytes 2 q ++ leBytes 2 0 ++ leBytes 8 p.seq ++ leBytes 8 p.off

/-- Send a packet of queue q on route r. -/
def State.sendPkt (s : State) (q r : Nat) (p : Pkt) : State :=
  let i := s.get (QUE_CFG4_ID q)
  match s.pairPort (s.rtPair i) r with
  | none => s
  | some port =>
    let w1 := s.rtWord i 0
    let w2 := s.rtWord i 1
    let x := s.que q
    (s.setQue q { x with pk := x.pk.map (fun a => if a.seq = p.seq then a.sendOn r s.mt else a) }).sendUdp port
      (s.adEntry (s.rtAddr i r)) (s.ptEntry port) (bits w1 31 16) (bits w2 15 0) (bits w2 21 16)
      (s.streamHeader q r p ++ s.pktData q p)

/-- The packet that queue q sends next on route r: one to be sent again or not yet sent there, or a new one. -/
def State.nextPkt (s : State) (q r : Nat) : Option Pkt × State :=
  let x := s.que q
  let open_ := if s.isSet (QUE_CFG0_MIRROR q) then x.pk.find? (fun p => (p.sentOn r).isNone && !p.dropped r)
    else x.pk.find? (fun p => p.sentA.isNone && p.sentB.isNone)
  match open_ with
  | some p => (some p, s)
  | none => s.formPkt q (s.rtPayload (s.get (QUE_CFG4_ID q)))

/-- Whether a packet has been sent on every route that needs it, and the last time it was (R482, R485). -/
def State.pktDone (s : State) (q : Nat) (p : Pkt) : Option Int :=
  let t := fun (o : Option Int) => o.getD 0
  if s.isSet (QUE_CFG0_MIRROR q) then
    if (p.sentA.isSome || p.dropA) && (p.sentB.isSome || p.dropB) && (p.sentA.isSome || p.sentB.isSome)
    then some (max (t p.sentA) (t p.sentB)) else none
  else if p.sentA.isSome || p.sentB.isSome then some (max (t p.sentA) (t p.sentB)) else none

/-- Whether freeing of queue q's packets has stopped (R485): the side it sends on is failed. -/
def State.freeStops (s : State) (q : Nat) : Bool :=
  let j := s.rtPair (s.get (QUE_CFG4_ID q))
  !s.isSet (QUE_CFG0_MIRROR q) && s.sideFailed j (s.get (RED_PAIR_SIDE j))

/-- Release the packets at the head of a queue whose `REWIND` has passed since they were sent. -/
def State.releasePkts (s : State) (q : Nat) : Nat → State
  | 0 => s
  | fuel + 1 =>
    let x := s.que q
    match x.pk with
    | [] => s
    | p :: r => match s.pktDone q p with
      | none => s
      | some t =>
        if t + ((s.get RED_CTL_REWIND * mtUs : Nat) : Int) ≤ s.mt && !s.freeStops q then
          ((s.setQue q { x with pk := r }).readQue q p.len).releasePkts q fuel
        else s

/-- REWIND_EXPIRY (R485): `REWIND` µs have passed since bytes of queue q were sent on the routes that need them. -/
def execRewindExpiry (q : Nat) (s : State) : Host.Outcome State Fault Refusal :=
  .next (if s.get (QUE_CFG4_DEST q) = 1 then s.releasePkts q ((s.que q).pk.length + 1) else s)

/-! ## Mirrored queues with a side down (R489) -/

/-- Bytes of queue q that route r has not sent and not abandoned. -/
def State.trails (s : State) (q r : Nat) : Nat :=
  ((s.que q).pk.filter (fun p => (p.sentOn r).isNone && !p.dropped r)).foldl (fun a p => a + p.len) 0

/-- The place in its chain of the byte that lies `off` behind the point read: linked bytes take no place. -/
def chainPlace (x : Que) (off : Nat) : Nat :=
  let a := off + x.read
  let r := x.vis.foldl (fun (acc : Nat × Nat) u =>
    (acc.1 + min u.chained (a - acc.2), acc.2 + u.bytes.length)) (0, 0)
  x.rd + r.1 - x.seen

/-- Free the plots of queue q behind the head all of whose packets route r has abandoned and the other route has sent. -/
def State.freeAbandoned (s : State) (q r : Nat) : State :=
  let x := s.que q
  let base := x.boff - x.formed
  let spans := x.pk.map (fun p => (chainPlace x (p.off - base), chainPlace x (p.off - base + p.len),
    p.dropped r && (p.sentOn (1 - r)).isSome))
  let gone := fun (i : Nat) => decide (0 < i) && decide (i + 1 < x.chain.length)
    && decide ((i + 1) * plotBytes ≤ spans.foldl (fun a b => max a b.2.1) 0)
    && spans.all (fun b => b.2.2 || decide (b.2.1 ≤ i * plotBytes) || decide ((i + 1) * plotBytes ≤ b.1))
  let idx := (List.range x.chain.length).filter gone
  let ids := (idx.map (fun i => x.chain.getD i holePlot)).filter (fun p => p != holePlot)
  let chain := (List.range x.chain.length).map (fun i => if idx.contains i then holePlot else x.chain.getD i holePlot)
  ((s.setQue q { x with chain := chain }).freePlots ids).showQue q

/-- The other side of a mirrored queue has sent a packet while side r is failed: beyond 1,024 plots, MIRROR_LAG is raised and
the failed side's copy of this packet is abandoned. -/
def State.mirrorLag (s : State) (q r seq : Nat) : State :=
  let x := s.que q
  if 1024 * plotBytes < s.trails q r then
    let s1 := if x.lagSaid then s else (s.setQue q { x with lagSaid := true }).raise evQUE_MIRROR_LAG q
    let y := s1.que q
    let g := fun (o : Option (Nat × Nat)) => match o with
      | none => some (seq, seq)
      | some a => some (a.1, seq)
    let pk := y.pk.map (fun p => if p.seq = seq then (if r = 0 then { p with dropA := true } else { p with dropB := true }) else p)
    (s1.setQue q (if r = 0 then { y with pk := pk, skipA := g y.skipA } else { y with pk := pk, skipB := g y.skipB })).freeAbandoned
      q r
  else s

/-! ## Protected tables (R477) -/

/-- The ON queues with a route port destination. -/
def State.routeQueues (s : State) : List Nat :=
  s.quesOn.filter (fun q => s.get (QUE_STAT_STATE q) == 1 && s.get (QUE_CFG4_DEST q) == 1)

/-- Whether a byte offset of the direct region lies in a route stream, address or port entry that an ON queue uses. -/
def State.routeBusy (s : State) (off : Nat) : Bool :=
  s.routeQueues.any (fun q =>
    let i := s.get (QUE_CFG4_ID q)
    let within := fun (base : Nat) => decide (base ≤ off) && decide (off < base + 32)
    within (0x1520000 + 32 * i)
      || (s.routesOf q).any (fun r => within (0x1540000 + 32 * s.rtAddr i r)
        || (match s.pairPort (s.rtPair i) r with
          | some p => within (0x1544000 + 32 * p)
          | none => false)))

/-- A write of `ETH_RXS` (R491): ignored while any word of the receive map is VALID. -/
def State.rxsWrite (s : State) (w : Wr) : State :=
  if s.aper.any (fun e => decide (0x1510000 ≤ e.1) && decide (e.1 < 0x1514000) && bit e.2.toNat 31) then s.raise evETH_CFG_BUSY
  else s.mergeRaw ETH_RXS.key w

end Sys2Proof.Machine
end

