-- ==== Sys2Proof/Machine/Fec.lean ====
section
/-! DEFINITION. The RS(544,514) code over GF(2^10) and the self-synchronous scrambler of Spaxa blocks (R441). -/
namespace Sys2Proof.Machine

/-! ## GF(2^10) with x^10 + x^3 + 1 -/

/-- Multiply by x. -/
def gfX (a : Nat) : Nat := if 512 ≤ a then ((2 * a) ^^^ 0x409) % 1024 else 2 * a

/-- Multiply, over the `n` low bits of `b`. -/
def gfMulN : Nat → Nat → Nat → Nat
  | 0, _, _ => 0
  | n + 1, a, b => (if b % 2 = 1 then a else 0) ^^^ gfMulN n (gfX a) (b / 2)

/-- Multiply. -/
def gfMul (a b : Nat) : Nat := gfMulN 10 a b

/-- Powers of the primitive element. -/
def gfPow : Nat → Nat
  | 0 => 1
  | n + 1 => gfX (gfPow n)

/-- Raise to a power by squaring, over the `n` low bits of the exponent. -/
def gfExpN : Nat → Nat → Nat → Nat
  | 0, _, _ => 1
  | n + 1, a, e => gfMul (if e % 2 = 1 then a else 1) (gfExpN n (gfMul a a) (e / 2))

/-- The inverse of a non-zero element: its 1022nd power. -/
def gfInv (a : Nat) : Nat := gfExpN 10 a 1022

/-- Evaluate a polynomial, the lowest coefficient first. -/
def gfPolyEval (x : Nat) : List Nat → Nat
  | [] => 0
  | c :: r => c ^^^ gfMul x (gfPolyEval x r)

/-- Evaluate a word whose first symbol is the highest coefficient. -/
def wordEval (x : Nat) (l : List Nat) : Nat := l.foldl (fun a c => gfMul a x ^^^ c) 0

/-- Add polynomials. -/
def gfPolyAdd : List Nat → List Nat → List Nat
  | [], b => b
  | a, [] => a
  | a :: r, b :: t => (a ^^^ b) :: gfPolyAdd r t

/-- Multiply a polynomial by a number and by x^n. -/
def gfPolyScale (k n : Nat) (a : List Nat) : List Nat := List.replicate n 0 ++ a.map (gfMul k)

/-- Multiply polynomials. -/
def gfPolyMul : List Nat → List Nat → List Nat
  | [], _ => []
  | a :: r, b => gfPolyAdd (b.map (gfMul a)) (0 :: gfPolyMul r b)

/-- The generator: the product of (x − α^j) for j = 0 to 29, the highest coefficient (1) left out, highest first. -/
def rsGen : List Nat := (((List.range 30).foldl (fun g j => gfPolyMul [gfPow j, 1] g) [1]).take 30).reverse

/-- The parity symbols of 514 message symbols, the first one the highest. -/
def rsParity (msg : List Nat) : List Nat :=
  msg.foldl (fun reg m =>
    let f := m ^^^ reg.headD 0
    (List.zipWith (fun a g => a ^^^ gfMul f g) (reg.tail ++ [0]) rsGen)) (List.replicate 30 0)

/-- The 30 syndromes of a received word. -/
def rsSyndromes (l : List Nat) : List Nat := (List.range 30).map (fun j => wordEval (gfPow j) l)

/-- State of the search for the error locator: current and previous polynomial, errors, shift, previous discrepancy. -/
structure Locator where
  c : List Nat
  b : List Nat
  l : Nat
  m : Nat
  d : Nat

/-- One step of the search for the error locator, on syndrome n. -/
def Locator.step (syn : List Nat) (x : Locator) (n : Nat) : Locator :=
  let d := (List.range (x.l + 1)).foldl (fun a i => a ^^^ gfMul (x.c.getD i 0) (if i ≤ n then syn.getD (n - i) 0 else 0)) 0
  if d = 0 then { x with m := x.m + 1 }
  else
    let c := gfPolyAdd x.c (gfPolyScale (gfMul d (gfInv x.d)) x.m x.b)
    if 2 * x.l ≤ n then ⟨c, x.c, n + 1 - x.l, 1, d⟩ else { x with c := c, m := x.m + 1 }

/-- Decode a received word of 544 symbols: the corrected message and the symbols corrected, none where more than 15 are in
error. -/
def rsDecode (l : List Nat) : Option (List Nat × Nat) :=
  let syn := rsSyndromes l
  if syn.all (fun x => x = 0) then some (l.take 514, 0)
  else
    let x := (List.range 30).foldl (Locator.step syn) ⟨[1], [1], 0, 1, 1⟩
    let om := (gfPolyMul syn x.c).take 30
    let der := (List.range x.c.length).map (fun i => if i % 2 = 0 then x.c.getD (i + 1) 0 else 0)
    let pos := (List.range 544).filter (fun i => gfPolyEval (gfInv (gfPow i)) x.c = 0)
    if 15 < x.l || pos.length ≠ x.l then none
    else
      let fix := pos.map (fun i => (543 - i,
        gfMul (gfPow i) (gfMul (gfPolyEval (gfInv (gfPow i)) om) (gfInv (gfPolyEval (gfInv (gfPow i)) der)))))
      let y := fix.foldl (fun (a : List Nat) e => a.set e.1 (a.getD e.1 0 ^^^ e.2)) l
      if (rsSyndromes y).all (fun x => x = 0) then some (y.take 514, x.l) else none

/-! ## Scrambler x^58 + x^39 + 1 -/

/-- The bits of a value, the most significant of `n` first. -/
def msbBits (n v : Nat) : List Bool := (List.range n).map (fun i => bit v (n - 1 - i))

/-- The value of bits, the first the most significant. -/
def bitsVal (l : List Bool) : Nat := l.foldl (fun a b => 2 * a + b2n b) 0

/-- Scramble bits: the register's bit i is the bit sent i + 1 places earlier. -/
def scramble : Nat → List Bool → List Bool × Nat
  | r, [] => ([], r)
  | r, b :: t =>
    let o := (b ^^ bit r 38) ^^ bit r 57
    let x := scramble ((2 * r + b2n o) % 2 ^ 58) t
    (o :: x.1, x.2)

/-- Undo the scrambler: the register holds the received bits. -/
def descramble : Nat → List Bool → List Bool × Nat
  | r, [] => ([], r)
  | r, b :: t =>
    let x := descramble ((2 * r + b2n b) % 2 ^ 58) t
    (((b ^^ bit r 38) ^^ bit r 57) :: x.1, x.2)

/-- Cut a list into pieces of `n`, at most `fuel` of them. -/
def pieces {α : Type} (n : Nat) : Nat → List α → List (List α)
  | 0, _ => []
  | f + 1, l => if l.isEmpty then [] else l.take n :: pieces n f (l.drop n)

/-- Symbols of ten bits from bits. -/
def bitsSymbols (l : List Bool) : List Nat := (pieces 10 (l.length / 10 + 1) l).map bitsVal

/-- Bits from symbols. -/
def symbolsBits (l : List Nat) : List Bool := l.flatMap (msbBits 10)

/-- Bytes from bits, the most significant bit of each first. -/
def bitsBytes (l : List Bool) : List Byte := (pieces 8 (l.length / 8 + 1) l).map (fun b => BitVec.ofNat 8 (bitsVal b))

/-- Bits from bytes. -/
def bytesBits (l : List Byte) : List Bool := l.flatMap (fun b => msbBits 8 b.toNat)

end Sys2Proof.Machine
end

