-- ==== Sys2Proof/Machine/TimeBase.lean ====
section
/-! DEFINITION. The Meridian time base: clock, adjustments, discipline, time status and transmit time stamps
(chapter 02). -/
namespace Sys2Proof.Machine

/-! ## Rate changes and the estimators -/

/-- After a change of the effective rate the estimator of every group scales its period by the same factor, and the tracked steps
of its slots move on the same tick (R202). -/
def State.followRate (s : State) (old : TimeBase) : State :=
  if s.tb.effRate = old.effRate then s
  else
    let s1 : State := { s with grps := s.grps.map (fun e =>
        (e.1, { e.2 with est := { e.2.est with
          period := divRound (e.2.est.period * s.tb.effRate) old.effRate.toNat, version := e.2.est.version + 1 } })) }
    (List.range 24).foldl State.followGroup s1

/-! ## Status changes -/

/-- Put the time status and raise STATE_CHANGE with the old and new states and the source (R72). -/
def State.setTState (s : State) (new : Nat) : State :=
  if s.tstate = new then s
  else
    let old := s.tstate
    (s.put TB_STATUS_STATE new).raise evTB_STATE_CHANGE 65535 [.w4 old, .w4 new, .w4 (s.get TB_DISC_SRC)]

/-- Leave TRACED for HOLDOVER (R72, R73): M_T is latched, the limit is armed afresh; other states stay. -/
def State.toHoldover (s : State) : State :=
  if s.tstate = 1 then
    let s1 := { s with tb := { s.tb with holdTrace := s.tb.lastTrace, holdActed := false, qualRun := 0 } }
    (s1.setTState 2).put TB_STATUS_SPX_SHEET 0
  else { s with tb := { s.tb with qualRun := 0 } }

/-- The selected source qualifies (R72): the status becomes TRACED and `SRC_ACT` names the source. -/
def State.toTraced (s : State) : State :=
  let src := s.get TB_DISC_SRC
  let s1 := (s.setTState 1).put TB_STATUS_SRC_ACT src
  let s2 := s1.put TB_STATUS_SPX_SHEET (if src = 2 then s.get TB_DISC_SHEET else 0)
  { s2 with tb := { s2.tb with lastTrace := s2.mt } }

/-! ## Clock (R45, R47, R53) -/

/-- PHASE_UNLOCK: COARSE and COARSE_SEEN are set and the event raised (R47). -/
def execPhaseUnlock (s : State) : Host.Outcome State Fault Refusal :=
  if !s.tb.locked || s.isSet TB_STATUS_COARSE then .next s
  else .next (((s.put TB_STATUS_COARSE 1).put TB_STATUS_COARSE_SEEN 1).raise evTB_PHASE_UNLOCK)

/-- PHASE_RELOCK: single-tick steps resume and COARSE clears; COARSE_SEEN stays (R47). -/
def execPhaseRelock (s : State) : Host.Outcome State Fault Refusal :=
  .next (s.put TB_STATUS_COARSE 0)

/-- The limit of `RATE` (R52). -/
def rateLimit : Int := 140737488355

/-- D of the ageing fold (R53): floor(TB_AGE × 2^96 × 4 × 10^-19 / 86,400). -/
def ageDelta (age : Int) : Int := (age * 2 ^ 96 * 4) / (86400 * 10 ^ 19)

/-- The tick of the next ageing fold (R53): every 2^36 ticks. -/
def TimeBase.nextFold (t : TimeBase) : Nat := (t.folds + 1) * 2 ^ 36

/-- Re-anchor at the tick c of a fold (R51, R53). -/
def TimeBase.reanchorAt (t : TimeBase) (c : Nat) : TimeBase := { ({ t with fc := c } : TimeBase).reanchor with fc := t.fc }

/-- Whether a fold of ΔRATE `d` goes towards the limit at which `RATE` stands (R54). -/
def TimeBase.foldHeld (t : TimeBase) (d : Int) : Bool := t.atLimit && decide (0 < d * t.rate)

/-- One ageing fold (R53, R54), on its own tick: re-anchor, add through the fraction, hold at the limit. The fold that reaches the
limit keeps the fraction of the sum as it was before it was held (DESIGN CHOICE, log entry 58); a fold towards the limit at which
`RATE` stands changes nothing. -/
def State.ageFold (s : State) : State :=
  let d := ageDelta (sext 32 (s.rn TB_AGE))
  if s.tb.foldHeld d then { s with tb := { s.tb with folds := s.tb.folds + 1 } }
  else
    let sum := (s.tb.ageFrac : Int) + d
    let r := s.tb.rate + sum / (2 ^ 32 : Int)
    let beyond := decide (rateLimit < r) || decide (r < -rateLimit)
    let r' := if rateLimit < r then rateLimit else if r < -rateLimit then -rateLimit else r
    let t1 : TimeBase := { s.tb.reanchorAt s.tb.nextFold with
      rate := r', ageFrac := (sum % (2 ^ 32 : Int)).toNat, folds := s.tb.folds + 1,
      atLimit := beyond || (s.tb.atLimit && decide (r' = s.tb.rate)) }
    let s1 := ({ s with tb := t1 } : State).followRate s.tb
    if beyond then s1.raise evTB_RATE_LIMIT else s1

/-- The folds that have fallen due are applied (R53): before any adjustment of the same tick, and of a later one. -/
def State.foldDue (s : State) : State :=
  if s.tb.locked then (List.range (s.tb.fc / 2 ^ 36 - s.tb.folds)).foldl (fun (s : State) _ => s.ageFold) s else s

/-- AGEING_FOLD (R53). -/
def execAgeingFold (s : State) : Host.Outcome State Fault Refusal :=
  if s.tb.locked && s.tb.nextFold ≤ s.tb.fc then .next s.ageFold else .next s

/-! ## Reading time (R55) -/

/-- TB_NOW_FRAC_READ: MT, free count and time status are latched for the function and the fraction is returned. -/
def execTbNowFracRead (fn : Nat) (s : State) : Host.Outcome State Fault Refusal :=
  if s.shut 0x30010 then .next ((s.flushHeld fn).readReserved fn 0x30010)
  else
  let p := mtParts s.mt
  let s1 := (((s.wn (TB_NOW_FRAC fn) p.2.2).wn (TB_NOW_NS fn) p.2.1).wn (TB_NOW_SEC_LO fn) p.1).wn
    (TB_NOW_SEC_HI fn) (p.1 / 2 ^ 32 + 65536 * s.tstate)
  let s2 := s1.wr64 (TB_NOW_FC_LO fn) (TB_NOW_FC_HI fn) (s.tb.fc % 2 ^ 64)
  let s3 := s2.flushHeld fn
  .next (s3.emit (.readDone fn 0x30010 (leBytes 4 p.2.2)))

/-! ## Adjusting time (R57 to R61) -/

/-- The operations that a GO or TIME_ADJUST selects. -/
structure AdjOps where
  rate : Bool
  slew : Bool
  step : Bool
  abort : Bool
  trace : Bool
  deriving DecidableEq, Repr

/-- End the slew in progress on this tick, its remainder discarded (R60). -/
def State.abortSlew (s : State) : State :=
  match s.tb.slew with
  | none => s
  | some w =>
    let left := s.tb.slewLeft w
    let t1 := s.tb.reanchor
    let s1 := { s with tb := { t1 with slew := none } }
    let s2 := (s1.put TB_STATUS_SLEWING 0).followRate s.tb
    if w.shown then s2.wr64 TB_ADJ_AMT_LO TB_ADJ_AMT_HI (toBits 64 left) else s2

/-- Checks 2 to 5 of R58 in order, which the servo obeys too (R57); 0 when every one passes. -/
def State.adjRules (s : State) (o : AdjOps) (rate amt : Int) (ppb : Nat) : Nat :=
  let anyOp := o.rate || o.slew || o.step || o.abort
  if (!anyOp && !(o.trace && s.get TB_DISC_SRC = 3)) || (o.step && (o.slew || o.abort)) || (o.slew && o.abort) then 2
  else if (o.slew || o.step) && s.tb.slew.isSome then 3
  else if o.step && s.anyBound then 4
  else if (o.rate && (decide (rateLimit < rate) || decide (rate < -rateLimit)))
      || (o.slew && (ppb < 1 || 10000 < ppb || decide ((mtMs : Int) < amt) || decide (amt < -(mtMs : Int))))
      || (o.step && (decide (s.mt + amt < 0) || decide (((2 ^ 48 * mtSec : Nat) : Int) ≤ s.mt + amt))) then 5
  else 0

/-- The checks of R58 in order; 0 when every one passes, else the 8-bit code of `TB_ADJ_STAT`. -/
def State.adjCheck (s : State) (o : AdjOps) (rate amt : Int) (ppb : Nat) : Nat :=
  if s.get TB_DISC_SRC = 1 || s.get TB_DISC_SRC = 2 then 1 else s.adjRules o rate amt ppb

/-- Apply the selected operations on one tick (R51, R58): rate, slew, step, abort, and the trace of R68. A rate that leaves `RATE`
at the limit leaves the episode of R54 as it is. -/
def State.adjApply (s : State) (o : AdjOps) (rate amt : Int) (ppb : Nat) : State :=
  let s1 := if o.abort then s.abortSlew else s
  let s2 := if o.rate then ({ s1 with tb := { s1.tb.reanchor with
      rate := rate, atLimit := s1.tb.atLimit && decide (rate = s1.tb.rate) } } : State).followRate s1.tb else s1
  let s3 :=
    if o.slew then
      let t := s2.tb.reanchor
      if amt = 0 then
        ({ s2 with tb := t }.wr64 TB_ADJ_AMT_LO TB_ADJ_AMT_HI 0).raise evTB_SLEW_DONE 65535 [.w8 0]
      else (({ s2 with tb := { t with slew := some ⟨amt, ppb, amt, true⟩ } } : State).put TB_STATUS_SLEWING 1).followRate
        s2.tb
    else s2
  let s4 :=
    if o.step then
      { s3 with tb := { s3.tb with offset := s3.tb.offset + amt } }.raise evTB_STEP_DONE 65535 [.w8 amt]
    else s3
  if o.trace && s4.get TB_DISC_SRC = 3 then
    { s4 with tb := { s4.tb with lastTrace := s4.mt } }.toTraced
  else s4

/-- The operations that `TB_ADJ_CTL` selects. -/
def State.adjOps (s : State) : AdjOps :=
  { rate := s.isSet TB_ADJ_CTL_OP_RATE, slew := s.isSet TB_ADJ_CTL_OP_SLEW, step := s.isSet TB_ADJ_CTL_OP_STEP,
    abort := s.isSet TB_ADJ_CTL_OP_ABORT, trace := s.isSet TB_ADJ_CTL_TRACE }

/-- A GO (R58): a fold that is due comes first (R53); then check, apply on one tick, write the code and clear GO. -/
def State.adjGo (s0 : State) : State :=
  let s := s0.foldDue
  let o := s.adjOps
  let rate := sext 64 (s.rd64 TB_ADJ_RATE_LO TB_ADJ_RATE_HI)
  let amt := sext 64 (s.rd64 TB_ADJ_AMT_LO TB_ADJ_AMT_HI)
  let ppb := s.rn TB_ADJ_SLEW
  let c := s.adjCheck o rate amt ppb
  let s1 := if c = 0 then s.adjApply o rate amt ppb else s
  (s1.put TB_ADJ_STAT_CODE c).put TB_ADJ_CTL_GO 0

/-- A write of `TB_ADJ_CTL` with GO: the word merges, then GO acts (R58, R59). -/
def State.adjWrite (s : State) (w : Wr) : State :=
  if w.fn ≠ 0 || s.shut 0x30054 then s.reservedHit w.fn 0 0x30054 true
  else if s.isSet TB_ADJ_CTL_GO then s.raise evTB_ADJ_REFUSED
  else
    let s1 := (s.flushHeld w.fn).mergeRaw 0x30054 w
    if w.hits 0 then s1.adjGo else s1

/-- ADJ_RATE_CHANGE: a GO with OP_RATE (R58). -/
def execAdjRateChange (w : Wr) (s : State) : Host.Outcome State Fault Refusal := .next (s.adjWrite w)
/-- ADJ_SLEW_START: a GO with OP_SLEW (R60). -/
def execAdjSlewStart (w : Wr) (s : State) : Host.Outcome State Fault Refusal := .next (s.adjWrite w)
/-- ADJ_STEP: a GO with OP_STEP (R61). -/
def execAdjStep (w : Wr) (s : State) : Host.Outcome State Fault Refusal := .next (s.adjWrite w)
/-- ADJ_ABORT: a GO with OP_ABORT (R60). -/
def execAdjAbort (w : Wr) (s : State) : Host.Outcome State Fault Refusal := .next (s.adjWrite w)
/-- ADJ_TRACE: a GO with TRACE under HOST (R68). -/
def execAdjTrace (w : Wr) (s : State) : Host.Outcome State Fault Refusal := .next (s.adjWrite w)

/-- Whether the change accumulated by the slew in progress has reached its amount (R60). -/
def TimeBase.slewReached (t : TimeBase) (w : Slew) : Bool :=
  if w.amount < 0 then decide (0 ≤ t.slewLeft w) else decide (t.slewLeft w ≤ 0)

/-- SLEW_DONE: the slew ends with its total trimmed to the amount exactly (R60); a fold that is due comes first (R53). -/
def execSlewDone (s0 : State) : Host.Outcome State Fault Refusal :=
  let s := s0.foldDue
  match s.tb.slew with
  | none => .next s
  | some w =>
    if s.tb.slewReached w then
      let base := s.tb.offset + elapsed (s.tb.fc - s.tb.anchor) s.tb.rate 0
      let t1 := { s.tb with offset := base + w.left, anchor := s.tb.fc, slew := none }
      let s1 := (({ s with tb := t1 } : State).put TB_STATUS_SLEWING 0).followRate s.tb
      let s2 := if w.shown then s1.wr64 TB_ADJ_AMT_LO TB_ADJ_AMT_HI 0 else s1
      .next (s2.raise evTB_SLEW_DONE 65535 [.w8 w.amount])
    else .next s

/-! ## Discipline (R62 to R75) -/

/-- SRC_CHANGE_DECLARE (R69): under HOST, SRC_CHANGED is raised and TRACED becomes HOLDOVER. -/
def State.declareChange (s : State) : State :=
  if s.get TB_DISC_SRC = 3 then (s.raise evTB_SRC_CHANGED).toHoldover else s

/-- The effects of a change of source (R70), from the old source to the fields as written. The hub last traced under SPX stays
known (R67). -/
def State.changeSource (s : State) (oldSrc : Nat) : State :=
  let s1 := if oldSrc = 1 || oldSrc = 2 then s.foldDue.abortSlew else s
  let s2 := s1.toHoldover
  let t := { s2.tb with qualRun := 0, ppsLast := none, ppsOff := 0, phaseErr := none }
  ({ s2 with tb := t }.put TB_STATUS_SRC_ACT (s2.get TB_DISC_SRC)).put TB_STATUS_PPS_OK 0

/-- A write of `TB_DISC`: the word merges; SRC_CHANGE acts, and a change of SRC, or of SHEET under SPX, is a change of
source (R69, R70). Where one write sets SRC and SRC_CHANGE, the SRC that it leaves decides whether SRC_CHANGE acts (R107; DESIGN
CHOICE, log entry 58). -/
def State.discWrite (s : State) (w : Wr) : State :=
  if w.fn ≠ 0 || s.shut 0x30004 then s.reservedHit w.fn 0 0x30004 true
  else
    let src := s.get TB_DISC_SRC
    let sh := s.get TB_DISC_SHEET
    let s1 := (s.flushHeld w.fn).mergeRaw 0x30004 w
    let s2 := if s1.get TB_DISC_SRC ≠ src || (src = 2 && s1.get TB_DISC_SHEET ≠ sh) then s1.changeSource src else s1
    if w.hits 15 then s2.declareChange else s2

/-- SRC_CHANGE_DECLARE (R69). -/
def execSrcChangeDeclare (w : Wr) (s : State) : Host.Outcome State Fault Refusal := .next (s.discWrite w)
/-- CHANGE_OF_SOURCE (R70). -/
def execChangeOfSource (w : Wr) (s : State) : Host.Outcome State Fault Refusal := .next (s.discWrite w)

/-- Signed distance of a time to the nearest whole second. -/
def secondError (t : Int) : Int :=
  let r := t % (mtSec : Int)
  if 2 * r < (mtSec : Int) then r else r - (mtSec : Int)

/-- The qualification window in units of 2^-16 ns (R62): `TB_QUAL.WINDOW` is in ps; compared as 1000 × error. -/
def State.inWindow (s : State) (err : Int) : Bool :=
  decide (err.natAbs * 1000 ≤ s.get TB_QUAL_WINDOW * 65536)

/-- Whether the source can qualify: REF and SPX only while an image runs (R656). -/
def State.srcServed (s : State) : Bool := !(s.get TB_DISC_SRC == 1 || s.get TB_DISC_SRC == 2) || s.get SYS_BOOT_FW != 0

/-- Count an in-window or out-of-window measurement of the selected source (R62); in a row of COUNT the source
qualifies, and while TRACED each in-window one is a trace. -/
def State.measure (s : State) (ok : Bool) : State :=
  if ok then
    let n := s.tb.qualRun + 1
    let s1 := { s with tb := { s.tb with qualRun := n } }
    if s.tstate = 1 then { s1 with tb := { s1.tb with lastTrace := s1.mt } }
    else if s.get TB_QUAL_COUNT ≤ n && s.srcServed then s1.toTraced
    else s1
  else { s with tb := { s.tb with qualRun := 0 } }

/-- A measurement of the selected source: its phase error stands until the next, and counts where it lies in the window (R62,
R63). -/
def State.measurePhase (s : State) (err : Int) : State :=
  ({ s with tb := { s.tb with phaseErr := some err } } : State).measure (s.inWindow err)

/-- Whether two times lie `n` s ± 100 µs apart (R64). -/
def secondsApart (n : Nat) (a b : Int) : Bool :=
  decide (((b - a) - ((n * mtSec : Nat) : Int)).natAbs ≤ 100 * mtUs)

/-- Whether an edge of PPS_IN at t is expected (R64, R102): the first since REF was selected, or in the window 1 s after the previous
expected edge. Where no edge came in that window, one in the window after it, 2 s after the previous expected edge, is expected too:
it is the second of the two windows whose emptiness loses the source (R100; DEDUCED, log entry 59). -/
def State.ppsExpected (s : State) (t : Int) : Bool :=
  match s.tb.ppsLast with
  | none => true
  | some p => secondsApart 1 p t || secondsApart 2 p t

/-- An edge of PPS_IN at Meridian time t reaches the discipline under REF (R63, R64): an off-window edge is ignored with PPS_STRAY,
the second of a run like the first (DESIGN CHOICE, log entry 59); the third of a run 1 s apart makes a new phase. -/
def State.ppsEdge (s : State) (t : Int) : State :=
  if s.ppsExpected t then
    let s1 : State := { s with tb := { s.tb with ppsLast := some t, ppsOff := 0 } }
    (s1.put TB_STATUS_PPS_OK 1).measurePhase (secondError (t + sext 32 (s.rn TB_PPS_DELAY)))
  else
    let n := if s.tb.ppsOff ≠ 0 && secondsApart 1 s.tb.ppsOffLast t then s.tb.ppsOff + 1 else 1
    if 3 ≤ n then
      (({ s with tb := { s.tb with ppsLast := some t, ppsOff := 0, qualRun := 0 } } : State).raise evTB_SRC_CHANGED).toHoldover
    else ({ s with tb := { s.tb with ppsOff := n, ppsOffLast := t } } : State).raise evTB_PPS_STRAY

/-- PPS_IN_EDGE (R63, R64, R121, R124): a rising edge of PPS_IN in bin i of the present tick, captured by latch 2 of logical core 8. Its
tag goes to the frequency counters, and under REF to the discipline; in a sleeping domain it is not tagged (R135). -/
def execPpsInEdge (i : Nat) (s : State) : Host.Outcome State Fault Refusal :=
  if !s.awake 93 then .next s
  else
    let t := s.captureMt (s.coreOf 8) 2 i
    let s1 := s.freqEdge 0x10 t (s.isSet TB_STATUS_COARSE)
    .next (if s1.get TB_DISC_SRC = 1 then s1.ppsEdge t else s1)

/-- SOURCE_QUALIFIED (R72): COUNT consecutive in-window measurements have been made. -/
def execSourceQualified (s : State) : Host.Outcome State Fault Refusal :=
  if s.get TB_DISC_SRC ≠ 0 && s.srcServed && s.get TB_QUAL_COUNT ≤ s.tb.qualRun && s.tstate ≠ 1 then .next s.toTraced else .next s

/-- PPS_LOST (R75): no edge in two consecutive expected windows (2.0001 s after the last expected edge). -/
def execPpsLost (s : State) : Host.Outcome State Fault Refusal :=
  match s.tb.ppsLast with
  | none => .next s
  | some p =>
    if s.get TB_DISC_SRC = 1 && s.isSet TB_STATUS_PPS_OK && decide (p + ((2 * mtSec + 100 * mtUs : Nat) : Int) ≤ s.mt)
    then .next ((s.put TB_STATUS_PPS_OK 0).toHoldover)
    else .next s

/-- REF10M_LOST (R65): the time status does not change. -/
def execRef10mLost (s : State) : Host.Outcome State Fault Refusal :=
  if s.isSet TB_STATUS_REF10M_OK then
    .next ({ s with tb := { s.tb with ref10mRun := 0 } }.put TB_STATUS_REF10M_OK 0 |>.raise evTB_REF10M_LOST)
  else .next s

/-- Whether the servo takes frequency from REF10M (R65): its edges arrive, and 1,000 consecutive ones have come. -/
def State.ref10mUsed (s : State) : Bool := s.isSet TB_STATUS_REF10M_OK && decide (1000 ≤ s.tb.ref10mRun)

/-- REF10M_RETURN (R65): after 1,000 consecutive edges the input is used again; REF10M_OK returns to 1 then, and not with the first
of them (DESIGN CHOICE, log entry 60). -/
def execRef10mReturn (s : State) : Host.Outcome State Fault Refusal :=
  .next ({ s with tb := { s.tb with ref10mRun := 1000 } }.put TB_STATUS_REF10M_OK 1)

/-- The operations, the rate, the amount and the slew rate of a servo correction. -/
def servoAdj (op : ServoOp) : AdjOps × Int × Int × Nat :=
  match op with
  | .slew a p => (⟨false, true, false, false, false⟩, 0, a, p)
  | .rate r _ => (⟨true, false, false, false, false⟩, r, 0, 0)
  | .step a => (⟨false, false, true, false, false⟩, 0, a, 0)

/-- Whether an amount corrects a phase error: it takes MT towards the edge and not past it. The servo takes no seconds from the
source, because the error is less than half a second (R63). -/
def corrects (err a : Int) : Bool := decide (a.natAbs ≤ err.natAbs) && decide (a * err < 0)

/-- What R63 to R66 ask of a servo correction: phase by slews at no more than SLEW_MAX × 100 ppb, or by a step where the phase error
exceeds 1 µs, and only against the error that the source showed last; frequency by rate changes, under REF taken from REF10M while
that is used. -/
def State.servoMay (s : State) (op : ServoOp) : Bool :=
  match op with
  | .slew a p => decide (p ≤ s.get TB_QUAL_SLEW_MAX * 100) && corrects (s.tb.phaseErr.getD 0) a
  | .rate _ r10m => s.get TB_DISC_SRC != 1 || r10m == s.ref10mUsed
  | .step a => !s.anyBound && decide (mtUs < (s.tb.phaseErr.getD 0).natAbs) && corrects (s.tb.phaseErr.getD 0) a

/-- SERVO_CORRECTION (R57, R63 to R66, R95): under REF or SPX, within the rules of a manual adjustment and those of the servo; a fold
that is due comes first (R53). Outside these limits, and while no image runs (R656, R658), the servo corrects nothing. -/
def execServoCorrection (op : ServoOp) (s0 : State) : Host.Outcome State Fault Refusal :=
  let s := s0.foldDue
  let a := servoAdj op
  if (s.get TB_DISC_SRC = 1 || s.get TB_DISC_SRC = 2) && s.get SYS_BOOT_FW = 2 && s.adjRules a.1 a.2.1 a.2.2.1 a.2.2.2 = 0
      && s.servoMay op then
    let s1 := s.adjApply a.1 a.2.1 a.2.2.1 a.2.2.2
    .next { s1 with tb := { s1.tb with phaseErr := s1.tb.phaseErr.map (fun e => e + a.2.2.1) } }
  else .next s

/-- HOST_TRACE_TIMEOUT (R75): no trace under HOST within HOST_TIMEOUT ms. -/
def execHostTraceTimeout (s : State) : Host.Outcome State Fault Refusal :=
  if s.get TB_DISC_SRC = 3 && s.tstate = 1
      && decide (s.tb.lastTrace + ((s.get TB_DISC_HOST_TIMEOUT * mtMs : Nat) : Int) ≤ s.mt)
  then .next s.toHoldover
  else .next s

/-- HOLDOVER_LIMIT (R74): once per episode, when the holdover count reaches the limit. -/
def execHoldoverLimit (s : State) : Host.Outcome State Fault Refusal :=
  let l := s.rn TB_HOLD_LIMIT
  if s.tstate = 2 && l ≠ 0 && !s.tb.holdActed && l * 1000000 ≤ s.holdUs then
    let s1 := { s with tb := { s.tb with holdActed := true } }
    .next ((s1.put TB_STATUS_HOLD_LIMIT 1).raise evTB_HOLDOVER_LIMIT)
  else .next s

/-! ## Transmit time stamps (R79 to R81) -/

/-- Pop the head stamp of MAC m for function `fn`, where there is one: W1 to W4 are latched and the read completes. -/
def State.popStamp (s : State) (fn m : Nat) : State :=
  match mapGet [] m s.txts with
  | [] => s
  | x :: r =>
    let p := mtParts x.mt
    let w0 := x.port % 2 * 2 ^ 30 + x.msgType % 16 * 2 ^ 26 + x.seqId % 65536 * 1024
    let s1 := (((s.wn (TB_TXTS_W m 1) p.2.2).wn (TB_TXTS_W m 2) p.2.1).wn (TB_TXTS_W m 3) p.1).wn (TB_TXTS_W m 4)
      (p.1 / 2 ^ 32)
    let s2 := { s1 with txts := mapPut [] m r s1.txts }
    s2.emit (.readDone fn (0x30100 + 0x20 * m) (leBytes 4 w0))

/-- Queue a transmit stamp of MAC m; a full queue of 64 refuses it (R80). The oldest stalled pop takes it (R384). -/
def State.txStamp (s : State) (m : Nat) (x : TxStamp) : State :=
  let q := mapGet [] m s.txts
  if q.length < 64 then
    let s1 := { s with txts := mapPut [] m (q ++ [x]) s.txts }
    match s1.stalledPop m with
    | none => s1
    | some w => (s1.popResume m).popStamp w.fn m
  else
    let s1 := (s.bump (TB_TXTS_REF m)).put TB_STATUS_TXTS_OVF 1
    let s2 := (s1.bump (SYS_PQ_LOST m)).put (SYS_PQ_STAT_OVF m) 1
    s2.raise evTB_TXTS_FULL m [.w4 m]

/-- TB_TXTS_POP (R81): pop the head stamp and latch W1 to W4; a pop of an empty queue stalls (R384). -/
def execTbTxtsPop (fn m : Nat) (s : State) : Host.Outcome State Fault Refusal :=
  let s0 := s.flushHeld fn
  if fn ≠ 0 || s0.shut 0x30100 then .next (s0.readReserved fn (0x30100 + 0x20 * m))
  else if (mapGet [] m s0.txts).isEmpty then .next (s0.popStall m fn)
  else .next (s0.popStamp fn m)

end Sys2Proof.Machine
end

