-- ==== Sys2Proof/Machine/Link.lean ====
section
/-! DEFINITION. Spaxa links: training, blocks, flits, replay, credits and exchanges (R438 to R461). -/
namespace Sys2Proof.Machine

/-- A Spaxa link. -/
def State.lnk (s : State) (sh : Nat) : Link := mapGet {} sh s.links
/-- Put a Spaxa link. -/
def State.setLnk (s : State) (sh : Nat) (x : Link) : State := { s with links := mapPut {} sh x s.links }

/-- `LSTATE`: 0 OFF, 1 TRAIN, 2 ACTIVE, 3 DOZE. -/
def State.lstate (s : State) (sh : Nat) : Nat := s.get (SPX_STAT_LSTATE sh)

/-- Whether a link is in an active state (R449). -/
def State.linkActive (s : State) (sh : Nat) : Bool := 2 ≤ s.lstate sh

/-- Whether the sheet's end is the host of a node link (R438). -/
def State.hostRole (s : State) (sh : Nat) : Bool := s.get (SPX_CTL_ROLE sh) == 2

/-- A counter of the link rises; CNT_SAT when it first saturates (R471). -/
def State.spxCount (s : State) (sh : Nat) (r : Reg) (n : Nat := 1) : State := s.bumpSat r evSPX_CNT_SAT sh n

/-- A 64-bit counter of the link rises. -/
def State.spxCount64 (s : State) (lo hi : Reg) (n : Nat) : State := s.wr64 lo hi (min (s.rd64 lo hi + n) (2 ^ 64 - 1))

/-! ## Credits (R455, R456) -/

/-- Data credit available. -/
def SpxTxSide.crdD (x : SpxTxSide) : Nat := (x.advD + x.pRelD + 65536 - x.sentD % 65536) % 65536
/-- Control credit available. -/
def SpxTxSide.crdC (x : SpxTxSide) : Nat := (x.advC + x.pRelC + 65536 - x.sentC % 65536) % 65536

/-- Show the credit available. -/
def State.showCrd (s : State) (sh : Nat) : State :=
  (s.put (SPX_CRD_DATA sh) (s.lnk sh).tx.crdD).put (SPX_CRD_CTRL sh) (s.lnk sh).tx.crdC

/-- Release the credit of a data flit taken from the receive buffer (R456). -/
def State.relData (s : State) (sh : Nat) : State :=
  let x := s.lnk sh
  s.setLnk sh { x with rx := { x.rx with relD := (x.rx.relD + 1) % 65536 } }

/-- Release the credit of a control message. -/
def State.relCtrl (s : State) (sh : Nat) : State :=
  let x := s.lnk sh
  s.setLnk sh { x with rx := { x.rx with relC := (x.rx.relC + 1) % 65536 } }

/-- A flit or message is discarded (R457, R462 to R466). -/
def State.rxDiscard (s : State) (sh : Nat) : State := (s.spxCount sh (SPX_RXDISC sh)).raise evSPX_RX_DISCARD sh

/-! ## Exchanges (R457 to R461) -/

/-- Queue a control message: its kind, tag, reason, lane and block. -/
def State.sendCtrl (s : State) (sh msg kind xtag reason lane block : Nat) : State :=
  s.sendTx sh [ctrlFlit msg kind xtag (s.rn SYS_HUB_ID) reason lane block []]

/-- Show whether an exchange is in progress. -/
def State.showXchg (s : State) (sh : Nat) : State := s.put (SPX_STAT_XCHG sh) (b2n (s.lnk sh).xchg.isSome)

/-- Begin an exchange: CLAIM the turn token (R458). -/
def State.claim (s : State) (sh : Nat) (e : Exchange) : State :=
  let x := s.lnk sh
  let e1 := { e with tag := x.xtag, since := s.mt }
  ((s.setLnk sh { x with xchg := some e1, xtag := (x.xtag + 1) % 65536 }).sendCtrl sh 1 e.kind x.xtag 0 e.lane 0).showXchg sh

/-- A substitution that an exchange carried is refused with a code of R437, and its command with it (R434). -/
def State.substRefused (s : State) (sh : Nat) (e : Exchange) (code : Nat) : State :=
  if e.kind = 1 && e.ours then
    let s1 := s.put (LNE_SHEET_STAT_CODE sh) code
    match e.action with
    | none => s1
    | some a => s1.finishCmd a (if code = 6 then 0x504 else 0x505) []
  else s

/-- Put the spare back to sleep after an exchange that did not move a lane. -/
def State.spareSleep (s : State) (sh : Nat) : State :=
  if (s.laneLogical sh 8).isNone && s.laneState sh 8 ≠ 9 then
    ((s.put (LNE_CTL_TX_SLEEP sh 8) 1).put (LNE_CTL_RX_SLEEP sh 8) 1).put (LNE_STAT_STATE sh 8) 0
  else s

/-- An exchange fails (R458): 1 REFUSED, 2 TIMEOUT, 3 RETRAIN. -/
def State.xchgFail (s : State) (sh xcode laneCode : Nat) : State :=
  let x := s.lnk sh
  match x.xchg with
  | none => s
  | some e =>
    let s1 := ((s.setLnk sh { x with xchg := none }).put (SPX_STAT_XCODE sh) xcode).showXchg sh
    let s2 := (s1.raise evSPX_XCHG_FAIL sh [.w4 xcode]).substRefused sh e laneCode
    if e.kind = 1 then s2.spareSleep sh else s2

/-- An exchange ends well: the claimant returns the token (R460), and an own claim withdrawn earlier is issued again
(R459). -/
def State.xchgDone (s : State) (sh : Nat) : State :=
  let x := s.lnk sh
  match x.xchg with
  | none => s
  | some e =>
    let s1 := ((s.setLnk sh { x with xchg := none, again := none }).put (SPX_STAT_XCODE sh) 0).showXchg sh
    let s2 := if e.ours then s1.sendCtrl sh 4 e.kind e.tag 0 e.lane 0 else s1
    match x.again with
    | none => s2
    | some a => s2.claim sh a

/-! ## Link states (R447 to R449) -/

/-- The Meridian time base under SPX on this sheet loses its source (R100). -/
def State.timeLost (s : State) (sh : Nat) : State :=
  if s.get TB_DISC_SRC = 2 && s.get TB_DISC_SHEET = sh && s.tstate = 1 then s.toHoldover else s

/-- A claim that was withdrawn fails with the link that it waited on (R449, R459). -/
def State.againFail (s : State) (sh : Nat) : State :=
  let x := s.lnk sh
  match x.again with
  | none => s
  | some a => (s.setLnk sh { x with xchg := some a, again := none }).xchgFail sh 3 6

/-- A link leaves the active states, to TRAIN (1) or OFF (0); `own` says that this end leaves on its own, and so sets RETRAIN
in its last flits (R449). -/
def State.linkLeave (s : State) (sh st : Nat) (own : Bool) : State :=
  let was := s.linkActive sh
  let s1 := (if was then (s.xchgFail sh 3 6).againFail sh else s).put (SPX_STAT_LSTATE sh) st
  let x := s1.lnk sh
  let t : Training := { phase := if st = 1 then 1 else 0, since := s.mt }
  let s2 := s1.setLnk sh { x with trn := t, resTx := none, resRx := none, resTxDone := false, resRxDone := false, woken := [],
                                  tx := { x.tx with retrain := own && was && st = 1, round := none, wake := false },
                                  rx := { x.rx with ahead := [], buf := [], flits := [], bad := [], nack := false } }
  if was then ((s2.put (SPX_STAT_WIDTH sh) 0).raise evSPX_LINK_DOWN sh).timeLost sh else s2

/-- Retrain the link (R442, R451, R453). -/
def State.linkRetrain (s : State) (sh : Nat) (own : Bool) : State := if s.linkActive sh then s.linkLeave sh 1 own else s

/-- A QUEUE flit of queue q has been acknowledged (R454): the units acknowledged whole are released. -/
def State.queAcked (s : State) (q : Nat) : State :=
  let x := s.que q
  let pk : List Pkt := match x.pk.find? (fun p => p.sentB.isNone) with
    | none => x.pk
    | some p => x.pk.map (fun (a : Pkt) => if a.seq = p.seq then { a with sentB := some s.mt } else a)
  let head := pk.takeWhile (fun p => p.sentB.isSome)
  let whole := (head.reverse.dropWhile (fun p => !p.last)).reverse
  let n := whole.foldl (fun a p => a + p.len) 0
  let s1 := s.setQue q { x with pk := pk.drop whole.length }
  if n = 0 then s1 else s1.readQue q n

/-- A fresh link (R454): the queues with flits on the sheet send again from the first unit not wholly acknowledged. -/
def State.queRestart (s : State) (q : Nat) : State :=
  let x := s.que q
  s.setQue q { x with pk := [], boff := x.boff - x.pk.foldl (fun a p => a + p.len) 0, pseq := x.pseq - x.pk.length }

/-- The queues whose streams leave on a sheet by Spaxa. -/
def State.sheetQueues (s : State) (sh : Nat) : List Nat :=
  s.quesOn.filter (fun q => s.get (QUE_CFG4_DEST q) == 2 && s.get (QUE_CFG4_SHEET q) == sh)

/-- Start afresh (R447): sequences, credits, replay and queue streams. -/
def State.linkFresh (s : State) (sh epoch : Nat) (p : TrainSet) : State :=
  let x := s.lnk sh
  let held := x.epoch.isSome
  let s1 := s.setLnk sh { x with epoch := some epoch,
                                 tx := { x.tx with out := [], round := none, rounds := 0, advD := p.crdD, advC := p.crdC, pRelD := 0,
                                                   pRelC := 0, sentD := 0, sentC := 0 },
                                 rx := { x.rx with din := [], ctl := [], relD := 0, relC := 0, units := [], beacons := [] } }
  let s2 := (((s1.wn (SPX_EPOCH sh) epoch).wn (SPX_SEQ sh) 0).wn (SPX_ACK sh) 0xFFFFFF)
  let s3 := { s2 with spxTx := mapPut [] sh ((mapGet [] sh s2.spxTx).filter (fun f => f.type != 0x12)) s2.spxTx }
  let s4 := (s3.sheetQueues sh).foldl State.queRestart s3
  if held then (s4.put (SPX_STAT_RESET_SEEN sh) 1).raise evSPX_LINK_RESET sh else s4

/-- Sequence numbers from `a` + 1 up to `b`, modulo 2^24, lie at most 2^23 on. -/
def seqUpTo (seq a : Nat) : Bool := (a + 2 ^ 24 - seq) % 2 ^ 24 < 2 ^ 23

/-- Free the flits that the partner has acknowledged up to `a` (R450, R452). -/
def State.ackTo (s : State) (sh a : Nat) : State :=
  let x := s.lnk sh
  let gone := x.tx.out.takeWhile (fun f => seqUpTo f.seq a)
  if gone.isEmpty then s
  else
    let s1 := s.setLnk sh { x with tx := { x.tx with out := x.tx.out.drop gone.length, rounds := 0, ackAt := s.mt } }
    (gone.filterMap (fun f => f.flit.queue)).foldl State.queAcked s1

/-- The link becomes ACTIVE (R446, R447, R449): it resumes or starts fresh. -/
def State.linkUpNow (s : State) (sh : Nat) : State :=
  let x := s.lnk sh
  match (mapGet none 0 x.trn.sets) with
  | none => s
  | some p =>
    let me := s.rn SYS_HUB_ID
    let w := s.get (LNE_SHEET_STAT_WIDTH sh)
    let resume := x.epoch.isSome && p.resume && x.epoch == some p.epoch && x.with_ == some (me, p.ident)
    let ours := x.epoch.getD x.proposal
    let e := if s.hostRole sh then ours else if me < p.ident then ours else p.epoch
    let s1 := if resume then s.ackTo sh p.ack else s.linkFresh sh e p
    let y := s1.lnk sh
    let s2 := s1.setLnk sh { y with with_ := some (me, p.ident), trn := {}, bcn := { y.bcn with usable := some s.mt, due := none },
                                    tx := { y.tx with bc := 0, w := w, from_ := 0, pipe := [], scr := 0, retrain := false, ackAt := s1.mt,
                                                      sinceData := s1.mt,
                                                      round := if resume && !y.tx.out.isEmpty
                                                        then some (p.ack, y.tx.out.map (fun f => f.seq)) else none },
                                    rx := { y.rx with bc := 0, w := w, from_ := 0, lane := [], ahead := [], bad := [], scr := 0, buf := [],
                                                      flits := [] } }
    let s3 := ((s2.put (SPX_STAT_LSTATE sh) 2).put (SPX_STAT_WIDTH sh) w).put (SPX_STAT_RESUMED sh) (b2n resume)
    ((s3.wn (SPX_PARTNER sh) p.ident).showCrd sh).raise evSPX_LINK_UP sh

/-! ## Training (R445, R446, R448) -/

/-- Begin training on a sheet (R418, R449). -/
def State.linkTrain (s : State) (sh : Nat) : State :=
  let s1 := s.linkLeave sh 1 false
  let d := s1.draw (2 ^ 32)
  d.2.setLnk sh { d.2.lnk sh with proposal := d.1, trn := { phase := 1, since := s.mt } }

/-- The training set of a phase that this end sends on logical lane k. -/
def State.trainBytes (s : State) (sh k phase : Nat) : List Byte :=
  let x := s.lnk sh
  let b := leBytes 4 0x58415053 ++ leBytes 1 1 ++ leBytes 1 (k + 16 * s.get (LNE_SHEET_STAT_WIDTH sh))
    ++ leBytes 1 (if s.hostRole sh then 2 else 1) ++ leBytes 1 (max 1 phase) ++ leBytes 4 (s.rn SYS_HUB_ID)
    ++ leBytes 4 (x.epoch.getD x.proposal) ++ leBytes 3 (s.rn (SPX_ACK sh)) ++ leBytes 1 (b2n x.epoch.isSome)
    ++ leBytes 2 2048 ++ leBytes 2 128 ++ List.replicate 36 0#8
  b ++ leBytes 4 (crc32c b)

/-- A training set read from its bytes; none where its magic, version or check word is wrong (cause 1). -/
def readTrain (l : List Byte) : Option (Nat × TrainSet) :=
  let n := fun (a k : Nat) => leNat ((l.drop a).take k)
  if l.length = 64 && n 0 4 = 0x58415053 && n 4 1 = 1 && n 60 4 = crc32c (l.take 60) then
    some (n 5 1 % 16, ⟨n 5 1 / 16, n 6 1, n 7 1, n 8 4, n 12 4, n 16 3, n 19 1 % 2 = 1, n 20 2, n 22 2⟩)
  else none

/-- The first check of R446 that a partner's sets fail, from 2 on; 0 = none. -/
def State.trainCheck (s : State) (sh : Nat) (p : TrainSet) : Nat :=
  if !(if s.hostRole sh then p.role == 3 else p.role == 1) then 2
  else if !s.hostRole sh && p.ident = s.rn SYS_HUB_ID then 3
  else if p.width ≠ s.get (LNE_SHEET_STAT_WIDTH sh) then 4
  else if p.crdD < 16 || 16383 < p.crdD || p.crdC < 4 || 1023 < p.crdC then 5
  else 0

/-- An attempt fails (R448): the backoff begins. -/
def State.attemptFails (s : State) (sh : Nat) : State :=
  let x := s.lnk sh
  s.setLnk sh { x with trn := { x.trn with phase := 1, fails := x.trn.fails + 1, waiting := true, since := s.mt, sets := [], ts2 := [], ts3 := [],
                                           sent := 0 } }

/-- A failed check of R446 or a breach of credit (R451): the cause is shown, and TRAIN_REFUSED raised once per run. -/
def State.trainRefused (s : State) (sh cause : Nat) : State :=
  let x := s.lnk sh
  let s1 := (s.put (SPX_STAT_CAUSE sh) cause).put (SPX_STAT_REFUSED_SEEN sh) 1
  if x.trn.refusedSaid then s1
  else (s1.setLnk sh { x with trn := { x.trn with refusedSaid := true } }).raise evSPX_TRAIN_REFUSED sh [.w4 cause]

/-- The handshake advances as far as the sets received allow (R446). -/
def State.trainStep (s : State) (sh : Nat) : State :=
  let x := s.lnk sh
  let w := s.get (LNE_SHEET_STAT_WIDTH sh)
  let lanes := List.range w
  let sets := lanes.map (fun k => mapGet none k x.trn.sets)
  let t := x.trn
  if t.phase = 1 && !t.waiting then
    match sets.headD none with
    | none => s
    | some p =>
      if !sets.all (fun q => match q with
          | some y => { y with phase := 0 } == { p with phase := 0 }
          | none => false) then s
      else match s.trainCheck sh p with
        | 0 => s.setLnk sh { x with trn := { t with phase := 2, ts2 := [], fails := 0, absentSaid := false, refusedSaid := false } }
        | c => (s.trainRefused sh c).attemptFails sh
  else if t.phase = 2 && lanes.all (fun k => 8 ≤ mapGet 0 k t.ts2) then s.setLnk sh { x with trn := { t with phase := 3 } }
  else s

/-- TRAINING_SET_RX (R446, R461): a training set arrives on physical lane l. In DOZE, TS3 on a woken lane. A set that is not valid fails
the attempt while this end sends TS1, and after that breaks the run of sets on its lane. -/
def execTrainingSetRx (sh l : Nat) (data : List Byte) (s : State) : Host.Outcome State Fault Refusal :=
  if s.get (LNE_SHEET_CTL_PROTO sh) ≠ 2 || s.lstate sh = 0 || !s.sheetAwake sh then .next s
  else match readTrain data with
    | none =>
      let x := s.lnk sh
      if s.lstate sh = 1 && !x.trn.waiting then
        (if x.trn.phase = 1 then .next ((s.trainRefused sh 1).attemptFails sh)
        else .next (match s.laneLogical sh l with
          | some k => s.setLnk sh { x with trn := { x.trn with ts2 := mapPut 0 k 0 x.trn.ts2 } }
          | none => s))
      else .next s
    | some (k, p) =>
      let x := s.lnk sh
      if s.lstate sh = 3 then
        if p.phase = 3 && k ≠ 0 && !x.woken.contains k then
          let y := { x with woken := k :: x.woken }
          let all := (List.range (s.get (LNE_SHEET_STAT_WIDTH sh))).all (fun i => i == 0 || y.woken.contains i)
          if all && y.resTx.isNone then
            .next ((s.setLnk sh { y with resTx := some (y.tx.bc + 64) }).sendCtrl sh 7 0 0 0 0 ((y.tx.bc + 64) % 131072))
          else .next (s.setLnk sh y)
        else .next s
      else if s.lstate sh = 2 then .next s
      else
        let t := x.trn
        let n := if t.phase = 2 && 2 ≤ p.phase then mapGet 0 k t.ts2 + 1 else if 2 ≤ p.phase then mapGet 0 k t.ts2 else 0
        let t1 := { t with sets := mapPut none k (some p) t.sets, ts2 := mapPut 0 k n t.ts2, heard := true,
                           ts3 := if p.phase = 3 && !t.ts3.contains k then k :: t.ts3 else t.ts3 }
        .next ((s.setLnk sh { x with trn := t1 }).trainStep sh)

/-- TRAIN_BACKOFF_END, on the link (R448): the next attempt begins. -/
def State.linkRetry (s : State) (sh : Nat) : State :=
  let x := s.lnk sh
  s.setLnk sh { x with trn := { x.trn with waiting := false, heard := false, since := s.mt } }

/-! ## Replay (R451 to R453) -/

/-- Start a replay round (R452): every outstanding flit is sent again; after `REPLAY_MAX` rounds in a row without an advance the link
retrains instead (R453). -/
def State.replayRound (s : State) (sh a : Nat) : State :=
  let x := s.lnk sh
  if x.tx.out.isEmpty then s
  else
    if s.get (SPX_CTL_REPLAY_MAX sh) ≤ x.tx.rounds then (s.raise evSPX_REPLAY_LIMIT sh).linkRetrain sh true
    else
    let first := s.rn (SPX_REPLAYS sh) = 0
    let s1 := (s.setLnk sh { x with tx := { x.tx with round := some (a, x.tx.out.map (fun f => f.seq)), rounds := x.tx.rounds + 1,
                                                      ackAt := s.mt } }).spxCount sh (SPX_REPLAYS sh)
    if first then s1.raise evSPX_REPLAY sh else s1

/-- A NACK bearing `a` (R452): ignored while the round it began still runs. -/
def State.nackRx (s : State) (sh a : Nat) : State :=
  match (s.lnk sh).tx.round with
  | some (b, _ :: _) => if a = b then s else s.replayRound sh a
  | _ => s.replayRound sh a

/-- REPLAY_TIMEOUT (R452): the partner's ACK has not advanced for `REPLAY_TO` µs. -/
def execReplayTimeout (sh : Nat) (s : State) : Host.Outcome State Fault Refusal :=
  let x := s.lnk sh
  if s.linkActive sh && !x.tx.out.isEmpty && decide (x.tx.ackAt + ((s.get (SPX_TIMER_REPLAY_TO sh) * mtUs : Nat) : Int) ≤ s.mt) then
    .next (s.replayRound sh ((((x.tx.out.head?.map (fun f => f.seq)).getD 0) + 2 ^ 24 - 1) % 2 ^ 24))
  else .next s

/-! ## Receiving blocks (R440 to R442) -/

/-- The logical lane on which block c travels to this end. -/
def Link.rxLaneOf (x : Link) (c : Nat) : Nat :=
  match x.xchg, x.resRx with
  | some e, _ => (match e.rxAt with
    | some a => if e.kind = 2 && a ≤ c then 0 else (c - x.rx.from_) % max 1 x.rx.w
    | none => (c - x.rx.from_) % max 1 x.rx.w)
  | none, some a => if a ≤ c then (c - a) % 8 else (c - x.rx.from_) % max 1 x.rx.w
  | none, none => (c - x.rx.from_) % max 1 x.rx.w

/-- The next block counter on logical lane k. -/
def Link.rxExpected (x : Link) (k : Nat) : Option Nat :=
  let low := max x.rx.bc (mapGet 0 k x.rx.lane)
  ((List.range 80).map (fun i => low + i)).find? (fun c => x.rxLaneOf c == k)

/-- The block counter reaches one that the partner named: lane k moves, or the width changes (R460, R461). -/
def State.rxTurn (s : State) (sh : Nat) : State :=
  let x := s.lnk sh
  match x.xchg with
  | some e =>
    if e.rxAt = some x.rx.bc && !e.rxDone then
      if e.kind = 2 then s.setLnk sh { x with xchg := some { e with rxDone := true }, rx := { x.rx with w := 1, from_ := x.rx.bc, lane := [] } }
      else s.setLnk sh { x with xchg := some { e with rxDone := true } }
    else s
  | none =>
    if x.resRx = some x.rx.bc && !x.resRxDone then
      s.setLnk sh { x with resRxDone := true,
                           rx := { x.rx with w := s.get (LNE_SHEET_STAT_WIDTH sh), from_ := x.rx.bc, lane := [] } }
    else s

/-- Flits that are complete in the bytes received (R440). -/
def State.rxFlits (s : State) (sh : Nat) : Nat → State
  | 0 => s
  | fuel + 1 =>
    let x := s.lnk sh
    if 256 ≤ x.rx.buf.length then
      let f := x.rx.buf.take 256
      let e : RxFlit := ⟨f.any (fun b => b.2.1), f.map Prod.fst, (f.head?.map (fun b => b.2.2)).getD 0⟩
      (s.setLnk sh { x with rx := { x.rx with buf := x.rx.buf.drop 256, flits := x.rx.flits ++ [e] } }).rxFlits sh fuel
    else s

/-- Release the blocks that are next in order (R440). -/
def State.rxOrder (s : State) (sh : Nat) : Nat → State
  | 0 => s
  | fuel + 1 =>
    let x := s.lnk sh
    match mapGet none x.rx.bc x.rx.ahead with
    | none => s
    | some (bytes, bad, t) =>
      let plain : List Byte × Nat := if s.get (LNE_SHEET_CTL_RATE sh) = 0 then (bytes, x.rx.scr)
        else let d := descramble x.rx.scr (bytesBits bytes); (bitsBytes d.1, d.2)
      let s1 := s.setLnk sh { x with rx := { x.rx with bc := x.rx.bc + 1, scr := plain.2, ahead := mapPut none x.rx.bc none x.rx.ahead,
                                                       buf := x.rx.buf ++ plain.1.map (fun b => (b, bad, t)) } }
      ((s1.rxFlits sh 4).rxTurn sh).rxOrder sh fuel

/-- The Meridian time of a capture by beacon tap BCN[sh] on the present tick in bin i (R121, R124, R467). -/
def State.bcnMt (s : State) (sh i : Nat) : Int := s.captureMt (s.coreOf (sh / 3)) (3 + sh % 3) i

/-- BLOCK_RX (R441, R442): a block on physical lane l, symbol by symbol (544 at FEC rates, else 514), its first bit captured in
decoder bin `i`: decoded, ordered by `BC`, and its flits released. -/
def execBlockRx (sh l i : Nat) (syms : List Nat) (s : State) : Host.Outcome State Fault Refusal :=
  if !s.linkActive sh || !s.sheetAwake sh then .next s
  else
    let x := s.lnk sh
    let lane := match s.laneLogical sh l with
      | some k => k
      | none => match x.xchg with
        | some e => e.lane
        | none => 15
    match x.rxExpected lane with
    | none => .next s
    | some c =>
      let dec := if s.get (LNE_SHEET_CTL_RATE sh) = 0 then some (syms, 0) else rsDecode syms
      let s1 := match dec with
        | some (_, n) => if n = 0 then s else s.spxCount64 (SPX_FEC_CORR_LO sh) (SPX_FEC_CORR_HI sh) n
        | none => s
      let msg := match dec with
        | some (m, _) => m
        | none => syms.take 514
      let head := msg.getD 0 0 * 1024 + msg.getD 1 0
      let mark := head / 2 ^ 18
      if dec.isSome && mark = 1 then .next (s1.linkRetrain sh false)
      else
        let bad := dec.isNone || mark ≠ 2 || head % 2 ^ 17 ≠ c % 2 ^ 17
        let run := if bad then mapGet 0 lane x.rx.bad + 1 else 0
        let bytes := bitsBytes (symbolsBits ((msg.drop 2).take 512))
        let s1 := if bad then s1.spxCount sh (SPX_FEC_UNC sh) else s1
        let s2 := s1.setLnk sh { x with rx := { x.rx with bad := mapPut 0 lane run x.rx.bad, lane := mapPut 0 lane (c + 1) x.rx.lane,
                                                          ahead := mapPut none c (some (bytes, bad, s.bcnMt sh i)) x.rx.ahead } }
        if 4 ≤ run then .next (s2.linkRetrain sh true) else .next (s2.rxOrder sh 80)

/-! ## Receiving flits (R443, R444, R451) -/

/-- A field of a flit. -/
def flitAt (l : List Byte) (a n : Nat) : Nat := leNat ((l.drop a).take n)

/-- Whether a flit passes its CRC and its type is not reserved. -/
def flitOk (l : List Byte) : Bool :=
  l.length == 256 && crc32c (l.take 248 ++ l.drop 252) == flitAt l 248 4
    && [0x00, 0x10, 0x11, 0x12, 0x13, 0x20, 0x30].contains (flitAt l 0 1)

/-- Acknowledgement and credits of a flit with `ACKV` (R444, R451, R452). -/
def State.flitAck (s : State) (sh : Nat) (l : List Byte) : State :=
  if bit (flitAt l 1 1) 0 then
    let s1 := s.ackTo sh (flitAt l 5 3)
    let x := s1.lnk sh
    let s2 := s1.setLnk sh { x with tx := { x.tx with pRelD := flitAt l 8 2, pRelC := flitAt l 10 2 } }
    let s3 := s2.showCrd sh
    if bit (flitAt l 1 1) 1 then s3.nackRx sh (flitAt l 5 3) else s3
  else s

/-- Enter NACK state. -/
def State.nackNow (s : State) (sh : Nat) : State :=
  let x := s.lnk sh
  s.setLnk sh { x with rx := { x.rx with nack := true } }

/-- An expected sequenced flit (R451, R457, R462): into its receive buffer, or out of it at once where its link or its message
is not carried. -/
def State.flitTake (s : State) (sh : Nat) (l : List Byte) : State :=
  let ty := flitAt l 0 1
  let x := s.lnk sh
  let held := if ty = 0x20 then x.rx.ctl.length else x.rx.din.length
  if (if ty = 0x20 then 128 else 2048) ≤ held then (s.linkRetrain sh true).trainRefused sh 6
  else
    let s1 := (s.wn (SPX_ACK sh) (flitAt l 2 3)).setLnk sh { x with rx := { x.rx with nack := false } }
    let y := s1.lnk sh
    let data := (l.drop 16).take (min (flitAt l 14 1) 232)
    let fl := flitAt l 1 1
    if ty = 0x20 then
      let m := leNat (data.take 1)
      if 1 ≤ m && m ≤ 8 then s1.setLnk sh { y with rx := { y.rx with ctl := y.rx.ctl ++ [data] } }
      else (s1.spxCount sh (SPX_RXDISC sh)).relCtrl sh
    else if (if s.hostRole sh then ty = 0x11 else ty = 0x10 || ty = 0x13) then (s1.rxDiscard sh).relData sh
    else s1.setLnk sh { y with rx := { y.rx with din := y.rx.din ++ [⟨ty, bit fl 3, bit fl 4, flitAt l 12 2 % 4096, data⟩] } }

/-- FLIT_RX (R451): the oldest flit received is accepted, discarded as a duplicate, or puts this end into NACK state. -/
def execFlitRx (sh : Nat) (s : State) : Host.Outcome State Fault Refusal :=
  let x := s.lnk sh
  match x.rx.flits with
  | [] => .next s
  | f :: r =>
    let s0 := s.setLnk sh { x with rx := { x.rx with flits := r } }
    if f.bad || !flitOk f.bytes then .next ((s0.spxCount sh (SPX_CRCERR sh)).nackNow sh)
    else
      let l := f.bytes
      let s1 := s0.flitAck sh l
      let lc := flitAt l 254 1
      if bit lc 0 then .next (s1.linkRetrain sh false)
      else if !s1.linkActive sh then .next s1
      else
        let s2 := if bit lc 1 && s1.lstate sh = 3 then
            let y := s1.lnk sh
            s1.setLnk sh { y with tx := { y.tx with wake := true } }
          else s1
        let want := (s2.rn (SPX_ACK sh) + 1) % 2 ^ 24
        let seq := flitAt l 2 3
        let ty := flitAt l 0 1
        let seqd := ty ≠ 0 && ty ≠ 0x30
        if seqd && seq = want then .next (s2.flitTake sh l)
        else if seqd && seqUpTo seq ((want + 2 ^ 24 - 1) % 2 ^ 24) then .next (s2.spxCount sh (SPX_DUPS sh))
        else if seqd then .next (s2.nackNow sh)
        else
          let s3 := if seq ≠ want && !seqUpTo seq want then s2.nackNow sh else s2
          if ty = 0x30 then
            let y := s3.lnk sh
            .next (s3.setLnk sh { y with rx := { y.rx with beacons := y.rx.beacons ++ [((l.drop 16).take 232, f.came)] } })
          else .next s3

/-! ## Sending (R440, R443, R450, R452, R455, R467) -/

/-- A flit's bytes: type, flags (FIRST, LAST, REPLAY), sequence, stream and payload. -/
def State.flitBytes (s : State) (sh ty fl seq stream : Nat) (data : List Byte) : List Byte :=
  let x := s.lnk sh
  let h := leBytes 1 ty ++ leBytes 1 (1 + 2 * b2n x.rx.nack + fl) ++ leBytes 3 seq ++ leBytes 3 (s.rn (SPX_ACK sh))
    ++ leBytes 2 x.rx.relD ++ leBytes 2 x.rx.relC ++ leBytes 2 stream ++ leBytes 1 data.length ++ leBytes 1 0
    ++ data ++ List.replicate (232 - data.length) 0#8
  let tl := leBytes 2 x.tx.fcnt ++ leBytes 1 (b2n x.tx.retrain + 2 * b2n x.tx.wake) ++ leBytes 1 0
  h ++ leBytes 4 (crc32c (h ++ tl)) ++ tl

/-- The beacon payload (R468). -/
def State.beaconData (s : State) (sh : Nat) : List Byte :=
  let b := (s.lnk sh).bcn
  let dep := (b.dep.head?.map Prod.snd).getD 0
  let last := b.last.getD (0, 0)
  leBytes 4 b.seq ++ leBytes 4 (s.rn SYS_HUB_ID) ++ mtBytes dep ++ leBytes 4 last.1 ++ mtBytes last.2 ++ leBytes 4 (s.rn (SPX_ASYM sh))
    ++ leBytes 1 (s.tstate + 4 * s.get TB_STATUS_COARSE + 8 * b2n (s.get TB_DISC_SRC == 2 && s.get TB_DISC_SHEET == sh))
    ++ List.replicate 191 0#8

/-- Take the next new flit that may be sent: control before data, each within its credit and its share of the replay buffer. -/
def Link.pickNew (x : Link) (l : List TxFlit) : Option TxFlit :=
  match (if x.tx.crdC ≠ 0 && x.tx.out.length < 4096 then l.find? (fun f => f.type == 0x20) else none) with
  | some f => some f
  | none => if x.tx.crdD ≠ 0 && x.tx.out.length < 4032 then l.find? (fun f => f.type != 0x20) else none

/-- Whether a departure at `t` would lie within 10 ns of the predicted arrival of the partner's beacon (R467): the latest two arrivals
give the interval. -/
def SpxBeacon.nearArrival (b : SpxBeacon) (t : Int) : Bool :=
  match b.arr with
  | (q, a) :: (p, a0) :: _ =>
    let step := (a - a0) / (((q + 2 ^ 32 - p) % 2 ^ 32 : Nat) : Int)
    if step ≤ 0 then false
    else
      let off := (t - a) % step
      decide (min off (step - off) < 10 * 65536)
  | _ => false

/-- The next flit of a link, sent at `t`: a beacon at the head of an even block, a replay, a new flit, or an IDLE. -/
def State.nextFlit (s : State) (sh : Nat) (head : Bool) (t : Int) : List Byte × State :=
  let x := s.lnk sh
  let seq := s.rn (SPX_SEQ sh)
  let counted := fun (s : State) => s.setLnk sh { s.lnk sh with tx := { (s.lnk sh).tx with fcnt := ((s.lnk sh).tx.fcnt + 1) % 65536 } }
  if head && x.tx.beacon && !x.bcn.nearArrival t then
    let b := s.flitBytes sh 0x30 0 seq 0 (s.beaconData sh)
    let y := { x with tx := { x.tx with beacon := false },
                      bcn := { x.bcn with seq := (x.bcn.seq + 1) % 2 ^ 32, dep := ((x.bcn.seq, t) :: x.bcn.dep).take 64 } }
    (b, counted (s.setLnk sh y))
  else match x.tx.round with
  | some (a, q :: rest) =>
    let s1 := s.setLnk sh { x with tx := { x.tx with round := some (a, rest) } }
    (match x.tx.out.find? (fun f => f.seq == q) with
      | some f => (s.flitBytes sh f.flit.type (4 + 8 * b2n f.flit.first + 16 * b2n f.flit.last) f.seq f.flit.stream f.flit.data, counted s1)
      | none => (s.flitBytes sh 0 0 seq 0 [], counted s1))
  | _ =>
    let l := mapGet [] sh s.spxTx
    match x.pickNew l with
    | none => (s.flitBytes sh 0 0 seq 0 [], counted s)
    | some f =>
      let ctl := f.type = 0x20
      let s1 := { s with spxTx := mapPut [] sh (l.erase f) s.spxTx }
      let tx := { x.tx with out := x.tx.out ++ [⟨seq, f⟩], sentC := if ctl then (x.tx.sentC + 1) % 65536 else x.tx.sentC,
                            sentD := if ctl then x.tx.sentD else (x.tx.sentD + 1) % 65536,
                            ackAt := if x.tx.out.isEmpty then s.mt else x.tx.ackAt, sinceData := if ctl then x.tx.sinceData else s.mt }
      let s2 := ((s1.setLnk sh { x with tx := tx }).wn (SPX_SEQ sh) ((seq + 1) % 2 ^ 24)).showCrd sh
      (s.flitBytes sh f.type (8 * b2n f.first + 16 * b2n f.last) seq f.stream f.data, counted s2)

/-- Fill the bytes on their way out up to one block's 640. -/
def State.fillPipe (s : State) (sh : Nat) (t : Int) : Nat → State
  | 0 => s
  | fuel + 1 =>
    let x := s.lnk sh
    if 640 ≤ x.tx.pipe.length then s
    else
      let r := s.nextFlit sh (x.tx.bc % 2 = 0 && x.tx.pipe.isEmpty && (x.tx.bc - x.tx.from_) % max 1 x.tx.w = 0) t
      let y := r.2.lnk sh
      (r.2.setLnk sh { y with tx := { y.tx with pipe := y.tx.pipe ++ r.1 } }).fillPipe sh t fuel

/-- The block counter reaches one that this end named (R460, R461). -/
def State.txTurn (s : State) (sh : Nat) : State :=
  let x := s.lnk sh
  match x.xchg with
  | some e =>
    if e.txAt = some x.tx.bc && !e.txDone then
      if e.kind = 2 then
        (s.setLnk sh { x with xchg := some { e with txDone := true }, tx := { x.tx with w := 1, from_ := x.tx.bc } }).put (SPX_STAT_WIDTH sh) 1
      else s.setLnk sh { x with xchg := some { e with txDone := true } }
    else s
  | none =>
    let w := s.get (LNE_SHEET_STAT_WIDTH sh)
    if x.resTx = some x.tx.bc && !x.resTxDone then
      (s.setLnk sh { x with resTxDone := true, tx := { x.tx with w := w, from_ := x.tx.bc } }).put (SPX_STAT_WIDTH sh) w
    else s

/-- The physical lane on which this end transmits logical lane k. -/
def State.txLaneOf (s : State) (sh k : Nat) : Nat :=
  match (s.lnk sh).xchg with
  | some e => if e.kind = 1 && e.lane = k then
      (if e.txDone then 8 else if s.isSet (LNE_SHEET_CTL_TX_REV sh) then 7 - k else k) else s.txPhys sh k
  | none => s.txPhys sh k

/-- Emit one data block (R440, R441). -/
def State.sendBlock (s : State) (sh : Nat) (t : Int) : State :=
  let s1 := (s.txTurn sh).fillPipe sh t 4
  let x := s1.lnk sh
  let data := bytesBits (x.tx.pipe.take 640)
  let fec := s1.get (LNE_SHEET_CTL_RATE sh) ≠ 0
  let sc := if fec then scramble x.tx.scr data else (data, x.tx.scr)
  let msg := bitsSymbols (msbBits 20 (2 * 2 ^ 18 + x.tx.bc % 2 ^ 17) ++ sc.1)
  let k := (x.tx.bc - x.tx.from_) % max 1 x.tx.w
  let s2 := s1.setLnk sh { x with tx := { x.tx with bc := x.tx.bc + 1, pipe := x.tx.pipe.drop 640, scr := sc.2 } }
  s2.emit (.block sh (s1.txLaneOf sh k) (if fec then msg ++ rsParity msg else msg))

/-- A training block on each lane of the map (R445): ten copies of the training set. -/
def State.sendTraining (s : State) (sh : Nat) : State :=
  (List.range (s.get (LNE_SHEET_STAT_WIDTH sh))).foldl (fun (s : State) k => s.emit (.training sh (s.txPhys sh k) (s.trainBytes sh k (s.lnk sh).trn.phase))) s

end Sys2Proof.Machine
end

