-- ==== Sys2Proof/Machine/Egress.lean ====
section
/-! DEFINITION. Egress schedulers, host delivery rings, and the host transmit rings of the MACs (R115, R116, R362 to R364, R481,
R573). -/
namespace Sys2Proof.Machine

/-! ## Host delivery rings (R573 to R575) -/

/-- A host delivery ring of a borough. -/
def State.delivery (s : State) (b i : Nat) : Delivery := mapGet {} (4096 * b + i) s.delivers
/-- Put a host delivery ring. -/
def State.setDelivery (s : State) (b i : Nat) (x : Delivery) : State :=
  { s with delivers := mapPut {} (4096 * b + i) x s.delivers }

/-- Bytes of a ring's data area. -/
def Delivery.area (x : Delivery) : Nat := 4096 * 2 ^ x.size

/-- Bytes that may still be written into a ring. -/
def Delivery.room (x : Delivery) : Nat := x.area - (x.total - x.taken)

/-- Whether a ring accepts bytes at all: enabled, with Bus Master Enable of its function set (R575). -/
def State.deliveryOn (s : State) (b i : Nat) : Bool := (s.delivery b i).on && (s.func b).bme

/-- Write the ring record (R573). -/
def State.ringRecord (s : State) (b i : Nat) : State :=
  let x := s.delivery b i
  s.emit (.hostWrite b x.base (leBytes 8 (x.total % 2 ^ 64) ++ leBytes 8 (x.units % 2 ^ 64) ++ List.replicate 48 0#8))

/-- Write the record of an enabling command that is still to be written, where the ring accepts bytes (R573). -/
def State.recordFirst (s : State) (b i : Nat) : State :=
  if (s.delivery b i).fresh && s.deliveryOn b i then (s.setDelivery b i { s.delivery b i with fresh := false }).ringRecord b i
  else s

/-- Write bytes of a queue into its ring, wrapping at the end of the data area; after the last byte of a unit, the record, and
the vector falls due. -/
def State.deliver (s0 : State) (b i : Nat) (l : List Byte) (last : Bool) : State :=
  let s := s0.recordFirst b i
  let x := s.delivery b i
  let pos := x.total % x.area
  let n := min l.length (x.area - pos)
  let a := x.base + 4096
  let s1 := s.emit (.hostWrite b (a + pos) (l.take n))
  let s2 := if n < l.length then s1.emit (.hostWrite b a (l.drop n)) else s1
  let s3 := s2.setDelivery b i { x with total := x.total + l.length, units := x.units + b2n last }
  if last then
    let s4 := s3.ringRecord b i
    if x.vec = 0xFFFF then s4 else s4.vecDue b x.vec
  else s3

/-! ## Event messages of IEEE 1588 (R114 to R116) -/

/-- A big-endian field of a frame. -/
def beAt (l : List Byte) (a n : Nat) : Nat := ((l.drop a).take n).foldl (fun acc b => 256 * acc + b.toNat) 0

/-- Replace bytes of a frame. -/
def spliceAt (l : List Byte) (a : Nat) (b : List Byte) : List Byte := l.take a ++ b ++ l.drop (a + b.length)

/-- Where the EtherType of a frame stands, past up to two VLAN tags. -/
def etherTypeAt (l : List Byte) : Nat :=
  let tag := fun (a : Nat) => let t := beAt l a 2; t == 0x8100 || t == 0x88A8
  if tag 12 then (if tag 16 then 20 else 16) else 12

/-- The UDP header of a frame: its place, and whether the frame is IPv6. -/
def udpAt (l : List Byte) : Option (Nat × Bool) :=
  let a := etherTypeAt l
  let t := beAt l a 2
  if t = 0x0800 then
    if beAt l (a + 11) 1 = 17 && beAt l (a + 8) 2 % 0x4000 = 0 then some (a + 2 + 4 * (beAt l (a + 2) 1 % 16), false) else none
  else if t = 0x86DD then (if beAt l (a + 8) 1 = 17 then some (a + 42, true) else none)
  else none

/-- The UDP payload of a frame with its destination port. -/
def udpPayload (l : List Byte) : Option (Nat × List Byte) :=
  (udpAt l).map (fun u => (beAt l (u.1 + 2) 2, (l.drop (u.1 + 8)).take (beAt l (u.1 + 4) 2 - 8)))

/-- Where the PTP message of an event frame begins: EtherType 0x88F7, or UDP to port 319. -/
def ptpAt (l : List Byte) : Option Nat :=
  let a := etherTypeAt l
  if beAt l a 2 = 0x88F7 then some (a + 2)
  else match udpAt l with
    | some (u, _) => if beAt l (u + 2) 2 = 319 then some (u + 8) else none
    | none => none

/-- The event message of a frame (R114): Sync 0, Delay_Req 1, Pdelay_Req 2, Pdelay_Resp 3. -/
def ptpEvent (l : List Byte) : Option Nat :=
  match ptpAt l with
  | some a => if beAt l a 1 % 16 ≤ 3 && a + 34 ≤ l.length then some a else none
  | none => none

/-- Keep a UDP frame valid after its message has been written (R116): IPv4 with checksum 0; IPv6 with the last two bytes of the
payload adjusted. -/
def udpKeep (old new : List Byte) : List Byte :=
  match udpAt new with
  | none => new
  | some (u, six) =>
    if !six then spliceAt new (u + 6) (beBytes 2 0)
    else
      let n := beAt new (u + 4) 2
      let part := fun (l : List Byte) => sum16 ((l.drop u).take n)
      let at_ := u + n - 2
      let bare := spliceAt new at_ (beBytes 2 0)
      let d := (part old + 65535 * (n + 2) - part bare) % 65535
      spliceAt new at_ (beBytes 2 (if n % 2 = 0 then d else d / 256 + d % 256 * 256))

/-- One-step handling of an event message that leaves at `t` (R116). -/
def oneStep (l : List Byte) (a : Nat) (t reqMt : Int) : List Byte :=
  let corr := beAt l (a + 8) 8
  let add := fun (d : Int) => beBytes 8 (toBits 64 ((corr : Int) + d))
  let p := mtParts t
  match beAt l a 1 % 16 with
  | 0 => udpKeep l (spliceAt (spliceAt l (a + 34) (beBytes 6 p.1 ++ beBytes 4 p.2.1)) (a + 8) (add p.2.2))
  | 3 => udpKeep l (spliceAt l (a + 8) (add (t - reqMt)))
  | _ => l

/-! ## Host transmit rings (R481) -/

/-- The host rings of MAC m. -/
def State.hring (s : State) (m : Nat) : HostRing := mapGet {} m s.hrings
/-- Put the host rings of MAC m. -/
def State.setHring (s : State) (m : Nat) (x : HostRing) : State := { s with hrings := mapPut {} m x s.hrings }

/-- Whether a transmit descriptor can be sent: a port of the MAC, and a length that R481 allows. -/
def txDescOk (m : Nat) (d : HtxDesc) : Bool :=
  d.port / 2 == m && decide (60 ≤ d.frame.length) && decide (d.frame.length ≤ 9212)

/-- Write `DONE` of a descriptor, last (R481). -/
def State.descDone (s : State) (addr : Nat) : State := s.emit (.hostWrite 0 (addr + 24) (leBytes 1 1))

/-- Take transmit descriptors of MAC m into its frames waiting; one that cannot be sent is only marked DONE. -/
def State.takeDescs (s : State) (m : Nat) (l : List HtxDesc) : State :=
  l.foldl (fun (s : State) (d : HtxDesc) =>
    let x := s.hring m
    let addr := s.rd64 (ETH_HTX_BASE_LO m) (ETH_HTX_BASE_HI m) + 32 * (x.txCi % 2 ^ s.get (ETH_HTX_CTL_SIZE m))
    let s1 := s.setHring m { x with txCi := (x.txCi + 1) % 65536 }
    if txDescOk m d then
      s1.setHring m { s1.hring m with tx := (s1.hring m).tx ++ [⟨addr, d.port, d.stamp, d.reqMt, d.frame⟩] }
    else s1.descDone addr) s

/-- HTX_PI_WRITE (R481): descriptors are posted to MAC m; `descs` is what the hub fetches of them from host memory. -/
def execHtxPiWrite (m : Nat) (w : Wr) (descs : List HtxDesc) (s : State) : Host.Outcome State Fault Refusal :=
  .next (s.pfOnly w (0x11010C + 0x800 * m) (fun s =>
    let s1 := s.mergeRaw (ETH_HTX_PI m).key w
    if s1.isSet (ETH_HTX_CTL_EN m) && (s1.func 0).bme then
      let n := (s1.get (ETH_HTX_PI_V m) + 65536 - (s1.hring m).txCi) % 65536
      s1.takeDescs m (descs.take n)
    else s1))

/-- HRX_PI_WRITE (R481): receive descriptors are supplied to MAC m; `bufs` are the buffer addresses in them. -/
def execHrxPiWrite (m : Nat) (w : Wr) (bufs : List Nat) (s : State) : Host.Outcome State Fault Refusal :=
  .next (s.pfOnly w (0x11011C + 0x800 * m) (fun s =>
    let s1 := s.mergeRaw (ETH_HRX_PI m).key w
    if s1.isSet (ETH_HRX_CTL_EN m) && (s1.func 0).bme then
      let n := (s1.get (ETH_HRX_PI_V m) + 65536 - (s1.hring m).rxCi) % 65536
      (bufs.take n).foldl (fun (s : State) b =>
        let x := s.hring m
        let addr := s.rd64 (ETH_HRX_BASE_LO m) (ETH_HRX_BASE_HI m) + 32 * (x.rxCi % 2 ^ s.get (ETH_HRX_CTL_SIZE m))
        s.setHring m { x with rxCi := (x.rxCi + 1) % 65536, rx := x.rx ++ [⟨addr, b, 2048⟩] }) s1
    else s1))

/-- Send the first frame of a host transmit ring (R115, R116, R481). -/
def State.sendHost (s : State) (m : Nat) : State :=
  let x := s.hring m
  match x.tx with
  | [] => s
  | f :: r =>
    let s1 := s.setHring m { x with tx := r }
    let ev := ptpEvent f.frame
    let out := match ev with
      | some a => if f.stamp / 2 % 2 = 1 then oneStep f.frame a s.mt f.reqMt else f.frame
      | none => f.frame
    let s2 := s1.emit (.frame f.port out)
    let s3 := match ev with
      | some a => if f.stamp % 2 = 1 then
          s2.txStamp m ⟨f.port % 2, beAt f.frame a 1 % 16, beAt f.frame (a + 30) 2, s.mt⟩ else s2
      | none => s2
    s3.descDone f.desc

/-! ## What the schedulers serve (R362, R364) -/

/-- The ways in which a queue leaves: by route r of its pair (0 A, 1 B), by a Spaxa link (2), or to its host ring (3). -/
def State.wayOf (s : State) (sched q : Nat) : Option Nat :=
  match s.get (QUE_CFG4_DEST q) with
  | 0 => if sched = 40 then some 3 else none
  | 1 => (s.routesOf q).find? (fun r => match s.pairPort (s.rtPair (s.get (QUE_CFG4_ID q))) r with
    | some p => s.portExists p && s.portSheet p == sched
    | none => false)
  | 2 => if s.get (QUE_CFG4_SHEET q) = sched then some 2 else none
  | _ => none

/-- Whether the destination of a queue by one way is there: its port or link is up, its side not failed, its ring enabled. -/
def State.wayUp (s : State) (q way : Nat) : Bool :=
  let i := s.get (QUE_CFG4_ID q)
  match way with
  | 3 => s.deliveryOn (s.get (QUE_CFG0_BOROUGH q)) i
  | 2 => s.linkActive (s.get (QUE_CFG4_SHEET q)) && s.sheetAwake (s.get (QUE_CFG4_SHEET q))
  | r => match s.pairPort (s.rtPair i) r with
    | some p => s.portUp p && !s.sideFailed (s.rtPair i) r
    | none => false

/-- Whether the destination accepts bytes now (R364): a link its credit, a ring its room. -/
def State.wayOpen (s : State) (q way : Nat) : Bool :=
  s.wayUp q way && (match way with
    | 3 => (s.delivery (s.get (QUE_CFG0_BOROUGH q)) (s.get (QUE_CFG4_ID q))).room != 0
    | 2 =>
      let sh := s.get (QUE_CFG4_SHEET q)
      decide (((mapGet [] sh s.spxTx).filter (fun f => f.type != 0x20)).length < (s.lnk sh).tx.crdD)
    | _ => true)

/-- Whether every way of a queue refuses it now. -/
def State.egressRefused (s : State) (q : Nat) : Bool :=
  let ways := match s.get (QUE_CFG4_DEST q) with
    | 0 => [3]
    | 1 => s.routesOf q
    | _ => [2]
  ways.all (fun w => !s.wayOpen q w)

/-- Bytes of the frame that queue q would send next by one way, `cut` at most where its ring takes bytes; 0 where it has none. -/
def State.egressLen (s : State) (q way cut : Nat) : Nat :=
  let x := s.que q
  match way with
  | 3 => match s.nextUnit q 0 with
    | some (rest, _) => min (min (max 1 cut) 4096) (min rest.length
        (s.delivery (s.get (QUE_CFG0_BOROUGH q)) (s.get (QUE_CFG4_ID q))).room)
    | none => 0
  | 2 => if (s.nextUnit q x.formed).isSome then 256 else 0
  | r => match (s.nextPkt q r).1 with
    | none => 0
    | some p =>
      let port := (s.pairPort (s.rtPair (s.get (QUE_CFG4_ID q))) r).getD 0
      let ip := if bits (s.ptWord port 2) 7 0 = 6 then 40 else 20
      let vlan := if bits (s.adWord (s.rtAddr (s.get (QUE_CFG4_ID q)) r) 1) 31 16 = 0 then 0 else 4
      18 + vlan + ip + 40 + p.len

/-- Whether queue q is on a scheduler, and has something to send there. -/
def State.readyOn (s : State) (sched q cut : Nat) : Bool :=
  match s.wayOf sched q with
  | some w => s.egressLen q w cut != 0
  | none => false

/-- The first frame of the host transmit ring of a MAC can leave on a sheet. -/
def State.hostReady (s : State) (sched m : Nat) : Bool :=
  match (s.hring m).tx with
  | f :: _ => s.portExists f.port && s.portSheet f.port == sched && s.portUp f.port
  | [] => false

/-- The class of a queue (R362): 0 express, 1 control, 2 data. -/
def State.egressClass (s : State) (q : Nat) : Nat :=
  if s.isSet (QUE_CFG0_EXPRESS q) then 0 else if s.dataQueue q then 2 else 1

/-! ## Sending one frame (R362 to R364) -/

/-- Note that the head of queue q waits where every way refuses it: since when, and DEST_DOWN at once where its destination is
down (R364). -/
def State.noteWait (s : State) (q way : Nat) : State :=
  let x := s.que q
  let all := s.egressRefused q
  let s1 := if x.waits.isNone && all then s.setQue q { x with waits := some s.mt } else s
  if all && !s1.wayUp q way && !(s1.que q).downSaid then
    ((s1.setQue q { s1.que q with downSaid := true }).put (QUE_STAT_STALL_SEEN q) 1).raise evQUE_DEST_DOWN q
  else s1

/-- Send the next frame of queue q by one way. -/
def State.sendFrame (s : State) (q way cut : Nat) : State :=
  let s0 := s.setQue q { s.que q with waits := none, stallSaid := false, downSaid := false }
  match way with
  | 3 =>
    let n := s0.egressLen q 3 cut
    (match s0.nextUnit q 0 with
    | none => s0
    | some (rest, _) =>
      (s0.deliver (s0.get (QUE_CFG0_BOROUGH q)) (s0.get (QUE_CFG4_ID q)) (rest.take n) (n == rest.length)).readQue q n)
  | 2 => match s0.formPkt q 232 with
    | (none, s1) => s1
    | (some p, s1) =>
      let f : TxFlit := { type := 0x12, stream := s1.get (QUE_CFG4_ID q), first := p.first, last := p.last, data := s1.pktData q p,
                          queue := some q }
      let x := s1.que q
      (s1.setQue q { x with pk := x.pk.map (fun (a : Pkt) => if a.seq = p.seq then { a with sentA := some s1.mt } else a) }).sendTx
        (s1.get (QUE_CFG4_SHEET q)) [f]
  | r => match s0.nextPkt q r with
    | (none, s1) => s1
    | (some p, s1) =>
      let s2 := s1.sendPkt q r p
      let j := s2.rtPair (s2.get (QUE_CFG4_ID q))
      if s2.isSet (QUE_CFG0_MIRROR q) && s2.sideFailed j (1 - r) then s2.mirrorLag q (1 - r) p.seq else s2

/-- The state of a scheduler. -/
def State.sched (s : State) (k : Nat) : Sched := mapGet {} k s.scheds
/-- Put the state of a scheduler. -/
def State.setSched (s : State) (k : Nat) (x : Sched) : State := { s with scheds := mapPut {} k x s.scheds }

/-- The next queue after `c` in ascending order, cyclically. -/
def nextAfter (c : Option Nat) (l : List Nat) : Option Nat :=
  match c with
  | none => l.head?
  | some a => match l.find? (fun q => decide (a < q)) with
    | some q => some q
    | none => l.head?

/-- Deficit round robin (R363) over the data queues `l` (ascending) of scheduler k: the queue that sends, its deficit enough for its
next frame. -/
def State.drr (s : State) (k cut : Nat) (l : List Nat) : Nat → Sched → Option (Nat × Sched)
  | 0, _ => none
  | fuel + 1, x =>
    let len := fun (q : Nat) => match s.wayOf k q with
      | some w => s.egressLen q w cut
      | none => 0
    match (match x.cur with
      | some q => if l.contains q && decide (len q ≤ mapGet 0 q x.deficits) then some q else none
      | none => none) with
    | some q => some (q, { x with deficits := mapPut 0 q (mapGet 0 q x.deficits - len q) x.deficits })
    | none => match nextAfter x.cur l with
      | none => none
      | some q =>
        s.drr k cut l fuel
          { cur := some q, deficits := mapPut 0 q (mapGet 0 q x.deficits + 512 * s.get (QUE_CFG0_WEIGHT q)) x.deficits }

/-- Sort ascending. -/
def sortNat : List Nat → List Nat
  | [] => []
  | a :: r =>
    let l := sortNat r
    l.takeWhile (fun b => decide (b < a)) ++ a :: l.dropWhile (fun b => decide (b < a))

/-- EGRESS_FRAME (R362, R363): a decision of scheduler k at a frame boundary. Among the express or control queues that can send,
`pick` says which; `cut` bounds the bytes that a host delivery ring takes. -/
def execEgressFrame (k pick cut : Nat) (s : State) : Host.Outcome State Fault Refusal :=
  if 40 < k then .next s
  else
    let ready := sortNat (s.quesOn.filter (fun q => s.readyOn k q cut))
    let way := fun (q : Nat) => (s.wayOf k q).getD 3
    let open_ := ready.filter (fun q => s.wayOpen q (way q))
    let s1 := (ready.filter (fun q => !s.wayOpen q (way q))).foldl (fun (s : State) q => s.noteWait q (way q)) s
    let x := s1.sched k
    let s2 := s1.setSched k { x with deficits := x.deficits.filter (fun e => ready.contains e.1) }
    let express := open_.filter (fun q => s.egressClass q == 0)
    let control := open_.filter (fun q => s.egressClass q == 1)
    let hosts := (List.range 16).filter (fun m => s.hostReady k m)
    let data := open_.filter (fun q => s.egressClass q == 2)
    match express with
    | q0 :: _ => let q := express.getD (pick % express.length) q0
      .next (s2.sendFrame q (way q) cut)
    | [] =>
      if control.length + hosts.length ≠ 0 then
        let i := pick % (control.length + hosts.length)
        if i < control.length then .next (s2.sendFrame (control.getD i 0) (way (control.getD i 0)) cut)
        else .next (s2.sendHost (hosts.getD (i - control.length) 0))
      else match s2.drr k cut data (20 * data.length + 1) (s2.sched k) with
        | none => .next s2
        | some (q, y) => .next ((s2.setSched k y).sendFrame q (way q) cut)

/-- EGRESS_STALL (R364, R525): the head of queue q has waited 1 ms on a destination that is up: EGRESS_STALL, or HOST_FULL on a host
ring or a full completion ring, once per stall. -/
def execEgressStall (q : Nat) (s : State) : Host.Outcome State Fault Refusal :=
  let x := s.que q
  let d := s.get (QUE_CFG4_DEST q)
  let up := match d with
    | 0 => s.wayUp q 3
    | 1 => (s.routesOf q).any (s.wayUp q)
    | _ => s.wayUp q 2
  match x.waits with
  | none => .next s
  | some t =>
    if s.quesOn.contains q && (decide (16128 ≤ q) || up && s.egressRefused q) && !x.stallSaid && decide (t + (mtMs : Int) ≤ s.mt) then
      .next (((s.setQue q { x with stallSaid := true }).put (QUE_STAT_STALL_SEEN q) 1).raise
        (if d = 0 then evQUE_HOST_FULL else evQUE_EGRESS_STALL) q)
    else .next s

end Sys2Proof.Machine
end

