-- ==== Sys2Proof/Machine/Jobs.lean ====
section
/-! DEFINITION. Decompression jobs (R336 to R341). -/
namespace Sys2Proof.Machine

/-- Whether a function sees borough b's job window (R337). -/
def jobSees (fn b : Nat) : Bool := fn = 0 || fn = b

/-- Descriptors outstanding in borough b's ring. -/
def State.jobsOut (s : State) (b : Nat) : Nat := (s.get (CMP_JOB_PI_V b) + 65536 - s.get (CMP_JOB_CI_V b)) % 65536

/-- Whether borough b's ring has a head job that a decompressor could serve. -/
def State.jobWants (s : State) (b : Nat) : Bool :=
  s.isSet (CMP_JOB_CTL_EN b) && s.jobsOut b != 0 && !s.isSet (CMP_JOB_STAT_SUSPENDED b) && (s.func b).bme

/-- The decompressor that serves borough b. -/
def State.dxOf (s : State) (b : Nat) : Option Nat :=
  (List.range 4).find? (fun d => s.isSet (CMP_DX_BUSY d) && s.get (CMP_DX_BOROUGH d) == b)

/-- Give each idle decompressor of an awake bank the next ring that wants one, in rotating order (R339). -/
def State.dxFill (s : State) : State :=
  (List.range 4).foldl (fun (s : State) d =>
    if s.isSet (CMP_DX_BUSY d) || s.isSet (CMP_DX_ASLEEP d) || !s.awake (82 + d / 2) then s
    else match ((List.range 32).map (fun i => (s.dxNext + i) % 32)).find? (fun b => s.jobWants b && (s.dxOf b).isNone) with
      | none => s
      | some b => ((({ s with dxNext := (b + 1) % 32 } : State).put (CMP_DX_BUSY d) 1).put (CMP_DX_BOROUGH d) b).put
          (CMP_JOB_STAT_RUNNING b) 1) s

/-- The decompressor that serves borough b is idle again. -/
def State.dxDone (s : State) (b : Nat) : State :=
  let s1 := match s.dxOf b with
    | some d => (s.put (CMP_DX_BUSY d) 0).put (CMP_DX_BOROUGH d) 0
    | none => s
  (s1.put (CMP_JOB_STAT_RUNNING b) 0).dxFill

/-- The host address of the head descriptor of borough b's ring. -/
def State.jobAddr (s : State) (b : Nat) : Nat :=
  s.rd64 (CMP_JOB_BASE_LO b) (CMP_JOB_BASE_HI b) + 64 * (s.get (CMP_JOB_CI_V b) % 2 ^ s.get (CMP_JOB_CTL_SIZE b))

/-- Write the completion fields of the head descriptor, `DONE` last (R338). -/
def State.jobComplete (s : State) (b status detail off total last : Nat) : State :=
  let a := s.jobAddr b
  ((s.emit (.hostWrite b (a + 48) (leBytes 1 status ++ leBytes 1 detail))).emit
    (.hostWrite b (a + 51) (leBytes 1 0 ++ leBytes 4 off ++ leBytes 4 total ++ leBytes 4 last))).emit
    (.hostWrite b (a + 50) (leBytes 1 1))

/-- The event of a status (R338, R340, R341). -/
def jobEvent (status : Nat) : EvId :=
  match status with
  | 0 => evCMP_JOB_DONE
  | 6 => evCMP_JOB_ABORTED
  | 8 => evCMP_DESC_BAD
  | _ => evCMP_JOB_ERROR

/-- The head job ends with a status (R340): its completion is written, the ring moves on. -/
def State.jobEnd (s : State) (b status detail off : Nat) : State :=
  let total := ((mapGet none b (s.jobs.map (fun e => (e.1, some e.2)))).map (fun (j : Job) => j.total)).getD 0
  let last := ((mapGet none b (s.jobs.map (fun e => (e.1, some e.2)))).map (fun (j : Job) => j.used)).getD 0
  let s1 := s.jobComplete b status detail off total last
  let s2 := ({ s1 with jobs := mapErase b s1.jobs } : State).put (CMP_JOB_CI_V b) (s1.get (CMP_JOB_CI_V b) + 1)
  let s3 := (s2.put (CMP_JOB_STAT_SUSPENDED b) 0).dxDone b
  let s4 := if status = 0 then s3 else
    let t := s3.bump (CMP_ERRCNT (status - 1))
    if t.rn (CMP_ERRCNT (status - 1)) = 4294967295 && s3.rn (CMP_ERRCNT (status - 1)) ≠ 4294967295 then t.raise evCMP_ERR_SAT else t
  s4.raise (jobEvent status) b [] b

/-- A field of a descriptor. -/
def Job.field (j : Job) (o n : Nat) : Nat := leNat ((j.desc.drop o).take n)

/-- Whether a descriptor is bad (R338). -/
def Job.bad (j : Job) : Bool :=
  j.field 12 4 ≥ 4 || j.field 28 4 ≠ 0 || j.field 40 8 ≠ 0 || j.field 8 4 < 32 || (j.field 24 4 = 0 && !bit (j.field 12 4) 0)

/-- Run the head job until it ends or its buffer is full (R336, R338 to R340, R342); `fail` is the access that the host refuses
(0 none, 1 the tile, 2 the output, 3 the flag words), or 4 for an uncorrectable error in the decompressor. -/
def State.jobRun (s : State) (b fail : Nat) (j : Job) : State :=
  let n := j.field 8 4
  let tile := j.src.take n
  let verify := bit (j.field 12 4) 0
  let s0 := { s with jobs := mapInsert b j s.jobs }
  if j.bad then s0.jobEnd b 8 0 0
  else if fail = 4 then s0.jobEnd b 4 0 24
  else if fail = 1 || tile.length < n then s0.jobEnd b 7 1 0
  else
    let d := decodeTile tile n
    let flg := bit (j.field 12 4) 1 && d.flags ≠ [] && j.total = 0
    if flg && fail = 3 then s0.jobEnd b 7 3 0
    else
      let s1 := if flg then s0.emit (.hostWrite b (j.field 32 8) d.flags) else s0
      let rest := if verify then [] else d.out.drop j.total
      let k := min rest.length ((j.bufLen - j.used) / d.unit * d.unit)
      if k ≠ 0 && fail = 2 then s1.jobEnd b 7 2 0
      else
        let j1 := { j with total := j.total + k, used := j.used + k }
        let s2 := if k = 0 then s1 else s1.emit (.hostWrite b (j.bufAt + j.used) (rest.take k))
        let s3 := { s2 with jobs := mapInsert b j1 s2.jobs }
        if k < rest.length then
          let s4 := { s3 with jobs := mapInsert b { j1 with suspended := true } s3.jobs }
          let s5 := (s4.jobComplete b 0xFF 0 0 j1.total j1.used).put (CMP_JOB_STAT_SUSPENDED b) 1
          (s5.dxDone b).raise evCMP_JOB_SUSPENDED b [] b
        else match d.fault with
          | none => s3.jobEnd b 0 0 0
          | some e =>
            let f := s3.draw 256
            if e.detail = 256 then f.2.jobEnd b e.status f.1 e.off else s3.jobEnd b e.status e.detail e.off

/-- JOB_DECODE (R336 to R340): the decompressor that serves borough b finishes or suspends its tile job. The descriptor and
the tile are what it reads in host memory; with `fail` 5 it corrects an error on the way (R342). -/
def execJobDecode (b fail : Nat) (desc src : List Byte) (s0 : State) : Host.Outcome State Fault Refusal :=
  let s := if fail = 5 then s0.put CMP_STAT_ECC_SEEN 1 else s0
  if (s.dxOf b).isNone || !s.jobWants b then .next s0
  else match mapGet none b (s.jobs.map (fun e => (e.1, some e.2))) with
    | some j => .next (s.jobRun b fail j)
    | none =>
      let j : Job := { desc := desc, src := src, bufAt := leNat ((desc.drop 16).take 8), bufLen := leNat ((desc.drop 24).take 4) }
      .next (s.jobRun b fail j)

/-- A write of `CMP_JOB_PI` (R337). -/
def State.jobPiWrite (s : State) (b : Nat) (w : Wr) : State :=
  let s1 := s.mergeRaw (CMP_JOB_PI b).key w
  if 2 ^ s.get (CMP_JOB_CTL_SIZE b) < s1.jobsOut b then s.raise evCMP_PI_BAD b [] b else s1.dxFill

/-- CMP_JOB_PI_WRITE (R337): a write of borough b's `CMP_JOB_PI`. -/
def execCmpJobPiWrite (b : Nat) (w : Wr) (s : State) : Host.Outcome State Fault Refusal :=
  let s1 := s.flushHeld w.fn
  .next (if jobSees w.fn b && !s1.shut 0xD8000 then s1.jobPiWrite b w else s1.reservedHit w.fn 0 (0xD8010 + 0x100 * b) true)

/-- Abort the head job of borough b, where there is one (R337, R341). -/
def State.jobAbort (s : State) (b : Nat) : State :=
  if s.isSet (CMP_JOB_CTL_EN b) && s.jobsOut b ≠ 0
      && (s.isSet (CMP_JOB_STAT_SUSPENDED b) || s.isSet (CMP_JOB_STAT_RUNNING b)) then s.jobEnd b 6 0 0 else s

/-- A write of `CMP_JOB_CTL` (R337): ignored where it keeps `EN` = 1; with `EN` = 0 the head job is aborted. -/
def State.jobCtlWrite (s : State) (b : Nat) (w : Wr) : State :=
  let old := s.rn (CMP_JOB_CTL b)
  let en := bit (merged old w) 31
  if bit old 31 && en then s.raise evCMP_CFG_BUSY b [] b
  else if bit old 31 then
    let c := s.get (CMP_JOB_CI_V b)
    let s0 := s.put (CMP_JOB_CTL_EN b) 0
    let s1 := if s.isSet (CMP_JOB_STAT_SUSPENDED b) || s.isSet (CMP_JOB_STAT_RUNNING b) then s0.jobEnd b 6 0 0 else s0
    (if s1.get (CMP_JOB_CI_V b) = c then s1.dxDone b else s1).mergeRaw (CMP_JOB_CTL b).key w
  else (s.mergeRaw (CMP_JOB_CTL b).key w).dxFill

/-- CMP_JOB_DISABLE (R337): a write of borough b's `CMP_JOB_CTL`. -/
def execCmpJobDisable (b : Nat) (w : Wr) (s : State) : Host.Outcome State Fault Refusal :=
  let s1 := s.flushHeld w.fn
  .next (if jobSees w.fn b && !s1.shut 0xD8000 then s1.jobCtlWrite b w else s1.reservedHit w.fn 0 (0xD8000 + 0x100 * b) true)

/-- Resume the suspended head job of borough b with the buffer of `CMP_JOB_MORE` (R341). -/
def State.jobMore (s : State) (b : Nat) : State :=
  match mapGet none b (s.jobs.map (fun e => (e.1, some e.2))) with
  | none => s
  | some j =>
    if !j.suspended then s
    else
      let s1 := s.emit (.hostWrite b (s.jobAddr b + 50) (leBytes 1 0))
      let j1 := { j with suspended := false, bufAt := s.rd64 (CMP_JOB_MORE_LO b) (CMP_JOB_MORE_HI b),
                         bufLen := s.rn (CMP_JOB_MORE_LEN b), used := 0 }
      (({ s1 with jobs := mapInsert b j1 s1.jobs } : State).put (CMP_JOB_STAT_SUSPENDED b) 0).dxFill

/-- A write of `CMP_JOB_STAT` (R341): `ABORT` before `MORE` where both are set. -/
def State.jobStatWrite (s : State) (b : Nat) (w : Wr) : State :=
  let s1 := if w.hits 0 then s.jobAbort b else s
  if w.hits 1 then s1.jobMore b else s1

/-- CMP_JOB_MORE (R341): a write of borough b's `CMP_JOB_STAT`. -/
def execCmpJobMore (b : Nat) (w : Wr) (s : State) : Host.Outcome State Fault Refusal :=
  let s1 := s.flushHeld w.fn
  .next (if jobSees w.fn b && !s1.shut 0xD8000 then s1.jobStatWrite b w else s1.reservedHit w.fn 0 (0xD8004 + 0x100 * b) true)

/-- CMP_JOB_ABORT (R341): a write of borough b's `CMP_JOB_STAT`. -/
def execCmpJobAbort (b : Nat) (w : Wr) (s : State) : Host.Outcome State Fault Refusal :=
  let s1 := s.flushHeld w.fn
  .next (if jobSees w.fn b && !s1.shut 0xD8000 then s1.jobStatWrite b w else s1.reservedHit w.fn 0 (0xD8004 + 0x100 * b) true)

end Sys2Proof.Machine
end

