-- ==== Sys2Proof/Machine/Pcie.lean ====
section
/-! DEFINITION. PCIe functions: Function Level Reset, loss of the link, Bus Master Enable, time correlation and MSI-X (R494, R495,
R510 to R516). -/
namespace Sys2Proof.Machine

/-! ## Function reset (R513) -/

/-- A decompression job in progress is abandoned without a completion, and the ring disabled (R513). -/
def State.jobDrop (s : State) (b : Nat) : State :=
  let s1 := ({ s with jobs := mapErase b s.jobs } : State).put (CMP_JOB_CTL_EN b) 0
  (s1.put (CMP_JOB_STAT_SUSPENDED b) 0).dxDone b

/-- The host delivery rings of borough b are disabled; their settings stay (R573). -/
def State.deliveriesOff (s : State) (b : Nat) : State :=
  { s with delivers := s.delivers.map (fun (e : Nat × Delivery) => if e.1 / 4096 = b then (e.1, { e.2 with on := false }) else e) }

/-- The Ethernet host rings are disabled and the frames in progress abandoned. -/
def State.hostRingsOff (s : State) : State :=
  (List.range 16).foldl (fun (s : State) m =>
    let s1 := (s.put (ETH_HTX_CTL_EN m) 0).put (ETH_HRX_CTL_EN m) 0
    let x := s1.hring m
    if x = {} then s1 else s1.setHring m { x with tx := [], rx := [], fullSaid := false }) s

/-- The registers that a Function Level Reset of function fn returns to their reset values: `SYS_ACC_*`, `SYS_TWIN`, `QUE_SEL`,
`LOG_WSEL`, `MSIX_MOD`, and for physical function 0 `CAL_PAGE_SEL` and `SYS_PTM_CTL`. -/
def flrKey (fn key : Nat) : Bool :=
  let low := key % 2 ^ 32
  (decide (key / 2 ^ 32 = fn) && (low == 0x100 || low == 0x104 || low == 0x110 || low == 0x114 || low == 0xC0000 || low == 0x60024
    || (decide (0x2000C000 ≤ low) && decide (low < 0x2000E000))))
    || (fn == 0 && (key == 0x90400 || key == 288))

/-- What R513 leaves of a function. -/
def State.flrState (s : State) (fn : Nat) : State :=
  let s1 := (((s.ringsDisable fn).jobDrop fn).deliveriesOff fn)
  let s2 := if fn = 0 then { s1.hostRingsOff with ptm := none } else s1
  let s3 := { s2 with regs := s2.regs.filter (fun e => !flrKey fn e.1), vecs := s2.vecs.filter (fun e => e.1 / 2048 != fn) }
  s3.setFunc fn { funcReset fn with present := (s.func fn).present }

/-- A Function Level Reset (R513). -/
def State.flr (s : State) (fn : Nat) : State := (s.flrState fn).raise evSYS_FUNC_RESET fn

/-- FUNCTION_LEVEL_RESET (R513). -/
def execFunctionLevelReset (fn : Nat) (s : State) : Host.Outcome State Fault Refusal :=
  .next (if (s.func fn).present && fn < 32 then s.flr fn else s)

/-- VF_DISABLE (R494, R495): a write of the SR-IOV control leaves virtual functions 1 to `n` (0: VF Enable clear); each one that
vanishes is reset, each one that appears starts from the state of R513. -/
def execVfDisable (n : Nat) (s : State) : Host.Outcome State Fault Refusal :=
  .next ((List.range 31).foldl (fun (s : State) i =>
    let fn := i + 1
    let f := s.func fn
    if fn ≤ n then (if f.present then s else s.setFunc fn { funcReset fn with present := true })
    else if f.present then let t := s.flr fn; t.setFunc fn { t.func fn with present := false }
    else s) s)

/-- The functions that exist. -/
def State.functions (s : State) : List Nat := (List.range 32).filter (fun fn => (s.func fn).present)

/-- PCIE_LINK_DOWN (R514): every function is held as R513 leaves it. -/
def execPcieLinkDown (s : State) : Host.Outcome State Fault Refusal :=
  .next (if s.linkUp then s.functions.foldl State.flrState { s with linkUp := false } else s)

/-- PCIE_LINK_UP (R514). -/
def execPcieLinkUp (s : State) : Host.Outcome State Fault Refusal := .next (({ s with linkUp := true } : State).put CLK_STAT_PCIE_REFCLK_OK 1)

/-! ## Messages (R511, R512) -/

/-- Send the messages of a function's vectors that have become possible. -/
def State.vecRelease (s : State) (fn : Nat) : State :=
  (s.vecs.filter (fun e => e.1 / 2048 == fn && e.2.pba)).foldl (fun (s : State) e =>
    let v := e.1 % 2048
    if s.vecBlocked fn v then s
    else if s.vecBusy fn v then s.setVec fn v { s.vec fn v with pba := false, waiting := true }
    else s.vecSend fn v) s

/-- BUS_MASTER_ENABLE_WRITE (R492, R512, R516): a configuration write gives a function Bus Master Enable and PTM Enable; clearing
Bus Master Enable disables the borough's command rings. -/
def execBusMasterEnableWrite (fn : Nat) (bme ptm : Bool) (s : State) : Host.Outcome State Fault Refusal :=
  if !(s.func fn).present || 32 ≤ fn || !s.linkUp then .next s
  else
    let s1 := s.setFunc fn { s.func fn with bme := bme, ptmEn := ptm }
    .next (if bme then (s1.vecRelease fn).dxFill else s1.ringsDisable fn)

/-- MSIX_UNMASK (R512): a write of an MSI-X table entry, or of the function's MSI-X Enable and Function Mask; messages that were
pending are sent. -/
def execMsixUnmask (fn : Nat) (op : MsixOp) (s : State) : Host.Outcome State Fault Refusal :=
  if !(s.func fn).present || 32 ≤ fn || !s.linkUp then .next s
  else match op with
    | .entry v addr data masked =>
      if vecCount fn ≤ v then .next s
      else .next ((s.setVec fn v { s.vec fn v with addr := addr, data := data, masked := masked }).vecRelease fn)
    | .control en fmask => .next ((s.setFunc fn { s.func fn with msixEn := en, fmask := fmask }).vecRelease fn)

/-- MSIX_MODERATION_END (R512): the interval of vector v ends; a message that waits is sent, or left pending where it is blocked. -/
def execMsixModerationEnd (fn v : Nat) (s : State) : Host.Outcome State Fault Refusal :=
  let x := s.vec fn v
  if !x.waiting || s.vecBusy fn v then .next s
  else if s.vecBlocked fn v then .next (s.setVec fn v { x with waiting := false, pba := true })
  else .next (s.vecSend fn v)

/-! ## Precision Time Measurement (R510) -/

/-- Start a PTM dialog: MT and time status at t1 are latched. -/
def State.ptmStart (s : State) : State :=
  if s.isSet SYS_PTM_CTL_EN && (s.func 0).ptmEn && s.linkUp && s.ptm.isNone then { s with ptm := some ⟨s.mt, s.tstate⟩ } else s

/-- A write of `SYS_PTM_CTL`. -/
def State.ptmCtlWrite (s : State) (w : Wr) : State :=
  let s1 := s.mergeRaw SYS_PTM_CTL.key w
  if w.hits 30 then s1.ptmStart else s1

/-- PTM_START (R510): a write of `SYS_PTM_CTL`. -/
def execPtmStart (w : Wr) (s : State) : Host.Outcome State Fault Refusal := .next (s.pfOnly w 0x120 (fun s => s.ptmCtlWrite w))

/-- Whether `PERIOD` ms have passed since the last periodic dialog (R510). -/
def State.ptmDue (s : State) : Bool :=
  s.get SYS_PTM_CTL_PERIOD != 0 && (match s.ptmAt with
    | none => true
    | some t => decide (t + ((s.get SYS_PTM_CTL_PERIOD * mtMs : Nat) : Int) ≤ s.mt) || decide (s.mt < t))

/-- PTM_DIALOG (R510): `PERIOD` ms have passed. -/
def execPtmDialog (s : State) : Host.Outcome State Fault Refusal :=
  .next (if s.ptmDue then ({ s with ptmAt := some s.mt } : State).ptmStart else s)

/-- PTM_RESPONSE_RX (R510): a ResponseD for the dialog in progress, within 100 µs of its request, with PTM Master Time and PTM Propagation Delay in ns. -/
def execPtmResponseRx (master delay : Nat) (s : State) : Host.Outcome State Fault Refusal :=
  match s.ptm with
  | none => .next s
  | some d =>
    if d.mt1 + ((100 * mtUs : Nat) : Int) < s.mt then .next s
    else
    let t := mtParts (d.mt1 + ((delay % 2 ^ 32 * mtNs : Nat) : Int))
    let s1 := { s with ptm := none }
    let s2 := (s1.wr64 SYS_PTM_HOST_LO SYS_PTM_HOST_HI master).wn SYS_PTM_MT_FRAC t.2.2
    let s3 := ((s2.wn SYS_PTM_MT_NS t.2.1).wr64 SYS_PTM_MT_SEC_LO SYS_PTM_MT_SEC_HI t.1).wn SYS_PTM_DLY delay
    .next ((s3.put SYS_PTM_SEQ_STATE d.state).put SYS_PTM_SEQ_SEQ (s3.get SYS_PTM_SEQ_SEQ + 1))

/-- PTM_TIMEOUT (R510): no response within 100 µs. -/
def execPtmTimeout (s : State) : Host.Outcome State Fault Refusal :=
  match s.ptm with
  | none => .next s
  | some d =>
    if d.mt1 + ((100 * mtUs : Nat) : Int) ≤ s.mt then
      .next ((({ s with ptm := none } : State).put SYS_PTM_SEQ_FAIL (satAdd 8 (s.get SYS_PTM_SEQ_FAIL) 1)).raise evSYS_PTM_FAIL)
    else .next s

end Sys2Proof.Machine
end

