-- ==== Sys2Proof/Machine/Boroughs.lean ====
section
/-! DEFINITION. Boroughs: grants, beam ranges, delivery-ring doorbells and borough reset (R561 to R581). -/
namespace Sys2Proof.Machine

/-! ## Grants (R563 to R567) -/

/-- Show how many grants borough b holds. -/
def State.showGrants (s : State) (b : Nat) : State :=
  s.put (BRG_STAT_GRANTS b) (countIf (fun (g : Nat) => s.isSet (BRG_GRANT0_VALID g) && s.get (BRG_GRANT0_GRANTEE g) == b)
    (List.range 2048))

/-- Check 2 of R564: at least one kind, no reserved bit, and where something is copied, a stream-out queue of borough b. -/
def State.grantFormOk (s : State) (b slot kinds : Nat) : Bool :=
  let q := bits kinds 13 0
  decide (slot < 1024) && bits kinds 31 28 != 0 && bits kinds 27 14 == 0
    && (bits kinds 31 29 == 0 || (decide (q < 16128) && s.get (QUE_CFG0_TYPE q) == 0 && s.get (QUE_CFG0_BOROUGH q) == b))

/-- The free grant entry that BRG_GRANT takes: the lowest, where the slot holds fewer than 8 grants (check 3 of R564). -/
def State.freeGrant (s : State) (slot : Nat) : Option Nat :=
  if 8 ≤ countIf (fun (g : Nat) => s.isSet (BRG_GRANT0_VALID g) && s.get (BRG_GRANT0_SLOT g) == slot) (List.range 2048) then none
  else (List.range 2048).find? (fun g => !s.isSet (BRG_GRANT0_VALID g))

/-- Make grant g (R564): suspended at once where its queue is not ON (R566). -/
def State.grantMake (s : State) (g b slot kinds : Nat) : State :=
  let s1 := ((s.wn (BRG_GRANT0 g) (2 ^ 31 + b * 2 ^ 24 + slot)).wn (BRG_GRANT1 g) kinds).showGrants b
  let s2 := s1.raise evBRG_GRANT_ADDED b [.w4 g] b
  if bits kinds 31 29 ≠ 0 && s2.get (QUE_STAT_STATE (bits kinds 13 0)) ≠ 1 then s2.grantSuspend g else s2

/-- Free grant g (R565, R567): the unit in progress is not copied. Members that lose a `BEAM` grant leave their beams at the next
frame boundary, where memberships are checked (R232). -/
def State.grantFree (s : State) (g : Nat) : State :=
  let b := s.get (BRG_GRANT0_GRANTEE g)
  ((((s.dropCopies g).wn (BRG_GRANT0 g) 0).wn (BRG_GRANT1 g) 0).showGrants b).raise evBRG_GRANT_REVOKED b [.w4 g] b

/-! ## Beams of a borough (R561, R578) -/

/-- The staged form of a beam's disable at its next frame boundary (R561, R578), where it is in force. -/
def State.beamOff (s : State) (b : Nat) : State :=
  let c := s.cfgNow b
  if !(s.beam b).on then s
  else s.stageRange c.grid (s.hubIndex (.beam b) (s.boundaryAt c.grid s.mt)) hubAction [(b, c.off)]

/-- The beams in force of a borough. -/
def State.beamsOfBorough (s : State) (b : Nat) : List Nat :=
  (s.beams.filter (fun e => e.2.on && s.beamBorough e.1 == b)).map (fun e => e.1)

/-- Assign a range of beams and one of pages to borough b (R561): first above last is none. Enabled beams that leave the range are
disabled at their next frame boundaries. -/
def State.beamRanges (s : State) (b first last wfirst wlast : Nat) : State :=
  let was := s.beamsOfBorough b
  let s1 := (s.wn (BRG_BEAMS b) (first + 65536 * last)).wn (BRG_PAGES b) (wfirst + 65536 * wlast)
  (was.filter (fun i => s1.beamBorough i != b)).foldl (fun (s : State) (i : Nat) => s.beamOff i) s1

/-- Whether two ranges meet; first above last is an empty range. -/
def rangesMeet (a b c d : Nat) : Bool := decide (a ≤ b) && decide (c ≤ d) && decide (a ≤ d) && decide (c ≤ b)

/-- Whether the ranges offered to borough b meet those of another tenant. -/
def State.rangesTaken (s : State) (b first last wfirst wlast : Nat) : Bool :=
  (List.range 32).any (fun t => t != 0 && t != b
    && (rangesMeet first last (s.get (BRG_BEAMS_FIRST t)) (s.get (BRG_BEAMS_LAST t))
      || rangesMeet wfirst wlast (s.get (BRG_PAGES_FIRST t)) (s.get (BRG_PAGES_LAST t))))

/-! ## Borough reset (R577 to R581) -/

/-- The borough that an action word names; 32 where no command made the change. -/
def actionBorough (a : Nat) : Nat := if commitAction ≤ a then 32 else a / 65536 % 32

/-- Step 2 of R578: commands without a reply reply CMD_ABORTED, and staged changes are discarded. -/
def State.abortBorough (s : State) (b : Nat) : State :=
  let open_ := s.cmds.filter (fun c => c.pkt.borough % 32 == b)
  let s1 := open_.foldl (fun (s : State) (c : OpenCmd) => s.finishCmd c.action 0x12 []) s
  let gone := s1.staged.filter (fun x => actionBorough x.action == b)
  let s2 : State := { s1 with staged := s1.staged.filter (fun x => actionBorough x.action != b) }
  gone.foldl (fun (s : State) (x : Staged) => match x.unit with
    | .beam i => s.showBeam i
    | u => s.showPend u) s2

/-- Step 3: every beam of b stops writing items at once, and is disabled at its next frame boundary. -/
def State.muteBeams (s : State) (b : Nat) : State :=
  ((s.beams.filter (fun e => (e.2.on || e.2.run) && s.beamBorough e.1 == b)).map (fun e => e.1)).foldl (fun (s : State) (i : Nat) =>
    let s1 := s.beamEndItems i
    (s1.setBeam i { s1.beam i with mute := true }).beamOff i) s

/-- Step 4: every grant to b is suspended. -/
def State.suspendGrants (s : State) (b : Nat) : State :=
  ((List.range 2048).filter (fun g => s.isSet (BRG_GRANT0_VALID g) && s.get (BRG_GRANT0_GRANTEE g) == b
    && bits (s.grantKinds g) 31 29 != 0)).foldl (fun (s : State) g => s.grantSuspend g) s

/-- Flush a queue and set it OFF whatever names it (step 5). -/
def State.queReset (s : State) (q : Nat) : State :=
  if s.get (QUE_STAT_STATE q) = 0 then s
  else
    let x := s.que q
    let us := mapGet [] q s.units
    let kept := if x.part = 0 then [] else us.take 1
    let caps := (us.drop kept.length).filterMap (fun u => u.capture)
    let s1 : State := caps.foldl State.releaseCapture { s with units := mapPut [] q kept s.units }
    (((s1.setQue q { x with tile := none, closing := [] }).put (QUE_STAT_STATE q) 2).queEmpty q).2

/-- The queues of a borough that are not OFF, the ring queues apart. -/
def State.queuesOf (s : State) (b : Nat) : List Nat :=
  s.quesOn.filter (fun q => decide (q < 16128) && s.get (QUE_CFG0_BOROUGH q) == b)

/-- What waits for the event queue of borough b is gone (step 7). -/
def State.eventsDrop (s : State) (b : Nat) : State :=
  { s with router := s.router.filter (fun r => r.borough != b), windows := s.windows.filter (fun w => w.borough != b) }

/-- Steps 1 to 8 of R578. -/
def State.boroughReset (s : State) (b : Nat) : State :=
  let s1 := (s.put (BRG_STAT_STATE b) 1).raise evBRG_RESET_START b [] b
  let s2 := ((s1.abortBorough b).muteBeams b).suspendGrants b
  let s3 := (s2.queuesOf b).foldl (fun (s : State) q => s.queReset q) s2
  let s4 := if s3.isSet (CMP_JOB_CTL_EN b) then (s3.jobAbort b).put (CMP_JOB_CTL_EN b) 0 else s3
  let s5 := (((s4.dxDone b).ringsDisable b).deliveriesOff b).eventsDrop b
  let s6 : State := { s5 with tags := s5.tags.filter (fun e => e.1 / 65536 != b) }
  s6.bump (CMD_INSTANCE b)

/-- Whether a reset of borough b can be asked for (R577). -/
def State.canReset (s : State) (b : Nat) : Bool := decide (1 ≤ b) && decide (b < 32) && s.get (BRG_STAT_STATE b) == 0

/-- A write of `BRG_CTL[b]` (R577, R583): the fields by physical function 0 alone; `RESET` also by b's own function. -/
def State.brgCtlWrite (s : State) (b : Nat) (w : Wr) : State :=
  let s1 := if w.fn = 0 then s.mergeRaw (BRG_CTL b).key w else s
  if w.hits 31 && s1.canReset b then s1.boroughReset b else s1

/-- BRG_CTL_RESET (R577): a write of `BRG_CTL[b]`. -/
def execBrgCtlReset (b : Nat) (w : Wr) (s : State) : Host.Outcome State Fault Refusal :=
  let s1 := s.flushHeld w.fn
  .next (if b < 32 && (w.fn = 0 || w.fn = b) && !s1.shut 0x80100 then s1.brgCtlWrite b w else s1.reservedHit w.fn 0 (0x80100 + 32 * b) true)

/-- BOROUGH_RESET_DONE (R578): step 9. -/
def execBoroughResetDone (b : Nat) (s : State) : Host.Outcome State Fault Refusal :=
  .next (if s.get (BRG_STAT_STATE b) ≠ 1 then s
    else ((s.put (BRG_STAT_STATE b) 0).bump (BRG_RESETS b)).raise evBRG_RESET_DONE b [] b)

/-! ## Doorbells (R497, R504, R574) -/

/-- A doorbell of the page of function w.fn: a write of the whole word acts (R504); before `READY` a
doorbell is a reserved address (R654). -/
def State.doorbell (s : State) (w : Wr) (off : Nat) (f : State → State) : State :=
  let s1 := s.flushHeld w.fn
  if w.mask = 0 then s1
  else if !s1.isSet SYS_START_READY then s1.reservedHit w.fn 2 off true
  else if w.be % 16 = 15 then f s1 else s1.widthHit w.fn 2 off

/-- The host reports bytes consumed of ring i of borough b (R574). -/
def State.deliveryTaken (s : State) (b i v : Nat) : State :=
  let x := s.delivery b i
  let n := (v + 2 ^ 32 - x.taken % 2 ^ 32) % 2 ^ 32
  if !x.on || decide (x.total < x.taken + n) then s.raise evBRG_DB_BAD b [] b
  else s.setDelivery b i { x with taken := x.taken + n }

/-- DELIVERY_DOORBELL (R574): the doorbell of delivery ring i of the function's borough. -/
def execDeliveryDoorbell (i : Nat) (w : Wr) (s : State) : Host.Outcome State Fault Refusal :=
  .next (s.doorbell w (0x4000 + 4 * i) (fun s => if i < 4096 then s.deliveryTaken w.fn i w.v.toNat
    else s.reservedHit w.fn 2 (0x4000 + 4 * i) true))

end Sys2Proof.Machine
end

