-- ==== Sys2Proof/Machine/Cal.lean ====
section
/-! DEFINITION. Trim pages, their loading and repair, user measurements and corrections, and writes of MRAM copies
(chapter 09). -/
namespace Sys2Proof.Machine

/-! ## Trim pages (R280 to R285) -/

/-- Payload length of a page (R282). -/
def pageLength (n : Nat) : Nat := match n with
  | 0 => 4
  | 1 => 576
  | 2 => 1060
  | 3 => 544
  | _ => 6928

/-- A copy of a trim page: 0 A, 1 B. -/
def State.trimCopy (s : State) (n c : Nat) : TrimCopy := mapGet {} (2 * n + c) s.trimCopies
/-- Put a copy of a trim page. -/
def State.setTrimCopy (s : State) (n c : Nat) (x : TrimCopy) : State :=
  { s with trimCopies := mapPut {} (2 * n + c) x s.trimCopies }

/-- The MRAM sector in which a copy of a page begins (R280, R638). -/
def pageSector (n c : Nat) : Nat := 2 * n + 2048 * c

/-- A word of a copy as it stands in MRAM but for its check word (R281). -/
def State.copyBody (s : State) (n c off : Nat) : Nat :=
  let x := s.trimCopy n c
  let fact := Config.factoryTrim n (off / 4) % 2 ^ 32
  if off = 0 then 0x5452494D
  else if off = 4 then n + 65536 * (if n = 3 then 2 else 1) + 2 ^ 24
  else if off = 8 then pageLength n
  else if off = 0xC then x.seq
  else if off = 0x10 then (match x.written with
    | some t => t % 2 ^ 32
    | none => fact)
  else if off = 0x14 then (match x.written with
    | some t => t / 2 ^ 32 % 65536
    | none => fact % 65536)
  else if off < 0x20 then 0
  else if off < 0x20 + pageLength n then (mapGet (w32 (factoryWord n off)) off x.words).toNat
  else 0

/-- A word of a copy, the check word included (R281). -/
def State.copyWord (s : State) (n c off : Nat) : Nat :=
  if off = 0x1FFC then
    crc32c ((List.range ((0x20 + pageLength n) / 4)).flatMap (fun i => leBytes 4 (s.copyBody n c (4 * i))))
  else s.copyBody n c off

/-- A read of `CAL_PAGE_WIN` (R296): the selected copy as it stands; 0 on a page the part does not have; a copy that does
not pass holds bits that the manual does not give, so its words are free. -/
def State.pageWin (s : State) (off : Nat) : Nat × State :=
  let n := s.get CAL_PAGE_SEL_PAGE
  let c := s.get CAL_PAGE_SEL_COPY
  if !s.pageFitted n then (0, s)
  else if (s.trimCopy n c).ok then (s.copyWord n c off, s)
  else s.draw (2 ^ 32)

/-- The copies whose passing shows in `CAL_PAGE_STAT`. -/
def State.showCopies (s : State) (n : Nat) (a b : Bool) : State :=
  (s.put (CAL_PAGE_STAT_A_OK n) (b2n a)).put (CAL_PAGE_STAT_B_OK n) (b2n b)

/-- Load a page from a copy: the trim image takes its words. -/
def State.loadCopy (s : State) (n c : Nat) : State :=
  let x := s.trimCopy n c
  let keep := s.trimImg.filter (fun e => e.1 / 8192 != n)
  let s1 := x.words.foldl (fun (s : State) w => s.setTrim n w.1 w.2.toNat) { s with trimImg := keep }
  (s1.put (CAL_PAGE_STAT_FROM n) (c + 1)).wn (CAL_PAGE_SEQ n) x.seq

/-- A copy is not loaded: TRIM_COPY_BAD names it (R285). -/
def State.copyBad (s : State) (n c : Nat) : State :=
  (s.put CAL_STAT_COPY_BAD_SEEN 1).raise evCAL_TRIM_COPY_BAD n [.w4 c]

/-- Whether the copies of page n hold the same payload (R285). -/
def State.samePayload (s : State) (n : Nat) : Bool :=
  decide ((s.trimCopy n 0).words = (s.trimCopy n 1).words)
    || (List.range (pageLength n / 4)).all (fun i => s.copyBody n 0 (0x20 + 4 * i) == s.copyBody n 1 (0x20 + 4 * i))

/-- Choose between the copies of page n and load it (R285). -/
def State.loadPage (s : State) (n : Nat) : State :=
  let a := s.trimCopy n 0
  let b := s.trimCopy n 1
  if a.ok && b.ok then
    if a.seq = b.seq && s.samePayload n then (s.loadCopy n 0).showCopies n true true
    else if n = 3 && decide (a.seq < b.seq) then ((s.loadCopy n 1).showCopies n false true).copyBad n 0
    else ((s.loadCopy n 0).showCopies n true false).copyBad n 1
  else if a.ok then ((s.loadCopy n 0).showCopies n true false).copyBad n 1
  else if b.ok then ((s.loadCopy n 1).showCopies n false true).copyBad n 0
  else (((s.put (CAL_PAGE_STAT_FROM n) 0).showCopies n false false).put CAL_STAT_PAGE_BAD_SEEN 1).raise evCAL_TRIM_PAGE_BAD n

/-- A write to the window of the selected page (R283, R296): it changes nothing; one to a factory page raises TRIM_LOCKED. -/
def State.pageWinWrite (s : State) : State :=
  let n := s.get CAL_PAGE_SEL_PAGE
  if s.pageFitted n && n ≠ 3 then s.raise evCAL_TRIM_LOCKED n else s

/-- TRIM_PAGE_LOAD (R284, R285): the loader reads page n; `badA` and `badB` say which copies it finds failing. Page 0 is
the first. `LOAD_DONE` follows the last page. -/
def execTrimPageLoad (n : Nat) (badA badB : Bool) (s : State) : Host.Outcome State Fault Refusal :=
  if !s.pageFitted n || s.trimLoaded.contains n || s.isSet CAL_STAT_LOAD_DONE || (n ≠ 0 && !s.trimLoaded.contains 0) then .next s
  else
    let s1 := if badA then s.setTrimCopy n 0 { s.trimCopy n 0 with ok := false } else s
    let s2 := if badB then s1.setTrimCopy n 1 { s1.trimCopy n 1 with ok := false } else s1
    let s3 := s2.loadPage n
    let s4 := { s3 with trimLoaded := n :: s3.trimLoaded }
    .next (if (List.range 32).all (fun p => !s4.pageFitted p || s4.trimLoaded.contains p) then s4.put CAL_STAT_LOAD_DONE 1 else s4)

/-! ## User measurements (R291) -/

/-- The logical converter that a physical one serves, where it serves one. -/
def State.pcvServed (s : State) (conv : Nat) : Option Nat :=
  (List.range 16).find? (fun p => s.get (PCV_STAT_PHYS p) == conv && !s.isSet (PCV_STAT_DEAD p))

/-- Whether a physical converter is retired: it serves nothing and is not the spare. -/
def State.pcvRetired (s : State) (conv : Nat) : Bool :=
  (s.pcvServed conv).isNone && !(conv == 16 && s.get PCV_SPARE_V == 0)

/-- Whether the check for CAL_BUSY holds (R291). -/
def State.calBusy (s : State) (conv : Nat) : Bool :=
  s.pcvRetired conv || (match s.pcvServed conv with
    | some p => s.feRuns && s.fget (PCV_SEQ_CTL_EN p) == 1
    | none => false)

/-- Remove a command's measurement. -/
def State.dropMeas (s : State) (action : Nat) : State := { s with calMeas := s.calMeas.filter (fun m => m.action != action) }

/-- Measurements that a commit stops (R291). -/
def State.calRecheck (s : State) : State :=
  (s.calMeas.filter (fun m => s.calBusy m.conv)).foldl (fun s m => (s.dropMeas m.action).finishCmd m.action 0x313 []) s

/-- The mean of a sum over 2^avg conversions in units of 1/256. -/
def meanOf (sum : Int) (avg : Nat) : Int := sum * 256 / (2 ^ avg : Nat)

/-- The mean sense voltage of conversions in 0.1 mV, rounded to nearest. -/
def senseMean (l : List Conv) : Int := divRound (l.foldl (fun a c => a + (c.sp - c.sn)) 0) (100000 * max 1 l.length)

/-- CAL_MEASURE_DONE (R291): the conversions of the internal short and of CALREF on converter `conv`, each of the slot length given, are
complete. -/
def execCalMeasureDone (conv : Nat) (zero ref : List Conv) (temp : Int) (s : State) : Host.Outcome State Fault Refusal :=
  match s.calMeas.find? (fun m => m.conv == conv) with
  | none => .next s
  | some m =>
    if zero.length ≠ 2 ^ m.avg || ref.length ≠ 2 ^ m.avg || s.mt < m.start + (2 ^ (m.avg + 1) * m.slot : Nat) * slotUnit then .next s
    else
      let s0 := s.dropMeas m.action
      if s0.calBusy conv then .next (s0.finishCmd m.action 0x313 [])
      else
        let z := s0.pcvCodes m.gain (0, 0) zero
        let c := z.2.pcvCodes m.gain (0, 0) ref
        if c.1.2 then .next ((c.2.finishCmd m.action 0x315 []).raise evCAL_CALREF_RANGE conv)
        else
          let t := c.2.tickNear (c.2.mt - ((250 * mtNs : Nat) : Int))
          let res := [w32 (toBits 32 (meanOf z.1.1 m.avg)), w32 (toBits 32 (meanOf c.1.1 m.avg)),
            w32 (toBits 32 (senseMean (zero ++ ref))), w32 (toBits 32 temp)] ++ bytesWords (mtBytes t)
          .next ((c.2.finishCmd m.action 0 res).raise evCAL_USER_MEASURED conv)

/-! ## Writes of MRAM copies (R289, R292, R293, R642) -/

/-- The sequence that the next write of page 3 gives (R281, R292). -/
def State.nextUserSeq (s : State) : Nat :=
  let a := s.trimCopy 3 0
  let b := s.trimCopy 3 1
  (max (if a.ok then a.seq else 0) (if b.ok then b.seq else 0)) + 1

/-- A sector is failing (R642): where `SP_MRAM` is armed and a spare is left it is substituted, and the write completes. -/
def State.mramFail (s : State) (fault sector : Nat) : State × Bool :=
  if s.armed 10 && decide (0 < s.sparesLeft 10) then
    ((s.mramRemap sector).raise evPWR_MRAM_RETIRED sector (policyDetail 10 fault sector s.spareSector) 0 true true,
      true)
  else
    let s1 : State := { s with mramBad := if s.mramBad.contains sector then s.mramBad else sector :: s.mramBad }
    (if 0 < s1.sparesLeft 10 then s1 else s1.spareExhausted 10 sector, false)

/-- The offsets in page 3 of the pairs that a CAL_USER_WRITE names (R282, R551). -/
def userPairs (p : Packet) : List Nat :=
  (List.range (Packet.arg p 0 1)).flatMap (fun i =>
    let a := 0x20 + 8 * (4 * Packet.arg p (4 + 8 * i) 1 + Packet.arg p (5 + 8 * i) 1)
    [a, a + 4])

/-- The values that a user write puts into the trim image: those of the pairs its command names. -/
def State.userVals (s : State) (j : NvmJob) : List SVal :=
  let named := (s.cmds.filter (fun c => c.action == j.action)).flatMap (fun c => userPairs c.pkt)
  (j.data.words.filter (fun w => named.contains w.1)).map (fun w => ⟨trimKey 3 w.1, 2 ^ 32 - 1, w.2.toNat⟩)

/-- Stage the values of a user write, or apply them while the front end is IDLE; its reply carries `status` (R292,
R293). The command passed the checks of R30 and R33 before MRAM was written; where the boundary of its activation time has come too near
meanwhile, the first that is not takes its place, and a fifth pending boundary becomes the least pending one (DESIGN CHOICE, log entry
74). -/
def State.stageUser (s : State) (j : NvmJob) (status : Nat) : State :=
  let vals := s.userVals j
  let res := [w32 j.data.seq]
  if s.feState = 0 then
    let s1 := s.forceVals vals
    s1.finishCmd j.action status (if status = 0 then s1.commitRecord 0 0 s1.mt ++ res else [])
  else
    let k := s.hubIndex .fe ((s.stageIndex s.feGrid j.act).getD (s.boundaryAt s.feGrid (s.mt + stageLead)))
    let s1 := s.stage ⟨.fe, s.feGrid, k, j.action, vals, .fields⟩
    { s1 with cmds := s1.cmds.map (fun c =>
        if c.action = j.action then { c with grid := s1.feGrid, index := k, result := res, status := status } else c) }

/-- Show whether a copy of a page passes. -/
def State.copyShow (s : State) (n c : Nat) (ok : Bool) : State :=
  if c = 0 then s.put (CAL_PAGE_STAT_A_OK n) (b2n ok) else s.put (CAL_PAGE_STAT_B_OK n) (b2n ok)

/-- A copy has been written and passes its check. -/
def State.jobDone (s : State) (j : NvmJob) : State :=
  match j.kind with
  | 0 =>
    let s1 := (s.setTrimCopy 3 j.copy j.data).copyShow 3 j.copy true
    if j.copy = 0 then { s1 with nvm := { j with copy := 1, retry := false } :: s1.nvm }
    else (s1.stageUser j 0).raise evCAL_TRIM_WRITTEN 3 [.w4 j.data.seq]
  | 1 => (((s.setTrimCopy j.page j.copy j.data).copyShow j.page j.copy true).finishCmd j.action 0 []).raise
      evCAL_TRIM_REPAIRED j.page [.w4 j.copy]
  | _ => { s with linCopies := mapPut [] (2 * j.page + j.copy) (j.data.words.map (fun w => w.2.toNat)) s.linCopies }

/-- A copy has failed its check twice and stays so (R293). -/
def State.jobFailed (s : State) (j : NvmJob) : State :=
  match j.kind with
  | 0 =>
    let s1 := ((s.setTrimCopy 3 j.copy { j.data with ok := false }).copyShow 3 j.copy false).put CAL_STAT_COPY_BAD_SEEN 1
    if j.copy = 0 then s1.finishCmd j.action 0x317 [] else s1.stageUser j 0x318
  | 1 =>
    let s1 := ((s.setTrimCopy j.page j.copy { j.data with ok := false }).copyShow j.page j.copy false).put CAL_STAT_COPY_BAD_SEEN 1
    s1.finishCmd j.action (if j.copy = 0 then 0x317 else 0x318) []
  | _ => { s with linCopies := mapPut [] (2 * j.page + j.copy) [1] s.linCopies }

/-- NVM_COPY_WRITTEN (R293): the write of the oldest MRAM copy in progress completes and its check passes or fails; a
failure is retried once. -/
def execNvmCopyWritten (ok : Bool) (s : State) : Host.Outcome State Fault Refusal :=
  match s.nvm with
  | [] => .next s
  | j :: r =>
    let s1 := { s with nvm := r }
    if ok then .next (s1.jobDone j)
    else if !j.retry then .next (({ s1 with nvm := { j with retry := true } :: r } : State).bump PWR_MRAM)
    else
      let sector := if j.kind = 2 then 65535 else pageSector j.page j.copy
      let a := (s1.raise evCAL_NVM_WRITE_FAIL j.page [.w4 j.copy]).mramFail evCAL_NVM_WRITE_FAIL.code sector
      .next (if a.2 then a.1.jobDone j else a.1.jobFailed j)

end Sys2Proof.Machine
end

