-- ==== Sys2Proof/Machine/Events.lean ====
section
/-! DEFINITION. Event routing and the logbook: coalescing windows, the events' doorbells, pending bits, the logbook's writer and
its scan (R607 to R621). -/
namespace Sys2Proof.Machine

/-! ## Routing (R610 to R612) -/

/-- EVT_WINDOW_END (R610): the oldest window that has ended closes. -/
def execEvtWindowEnd (s : State) : Host.Outcome State Fault Refusal :=
  match s.windows.find? (fun x => decide (x.ends ≤ s.mt)) with
  | some x => .next (s.closeWindow x)
  | none => .next s

/-- EVT_PEND_WRITE (R612): a write of word k of `EVT_PEND` clears the bits written 1. -/
def execEvtPendWrite (k : Nat) (w : Wr) (s : State) : Host.Outcome State Fault Refusal :=
  .next (s.pfOnly w (0x51800 + 4 * k) (fun s => if k < 9 then s.mergeRaw (EVT_PEND k).key w else s))

/-- Set or clear the bit of borough b in `EVT_TMASK[n]`. -/
def State.tmaskBit (s : State) (b n : Nat) (on : Bool) : State :=
  s.wn (EVT_TMASK n) (setBits (s.rn (EVT_TMASK n)) b b (b2n on))

/-- One source enabled or disabled by a function for its borough. -/
def State.sourceBell (s : State) (w : Wr) : State :=
  let n := bits w.v.toNat 8 0
  if w.fn = 0 then s
  else if 287 < n then s.raise evBRG_DB_BAD w.fn [] w.fn
  else s.tmaskBit w.fn n (bit w.v.toNat 31)

/-- Every source enabled or disabled by a function for its borough. -/
def State.everyBell (s : State) (w : Wr) : State :=
  if w.fn = 0 then s
  else (List.range 288).foldl (fun (s : State) n => s.tmaskBit w.fn n (bit w.v.toNat 0)) s

/-- DB_EVT_SRC (R611): a function enables or disables one source for its borough. -/
def execDbEvtSrc (w : Wr) (s : State) : Host.Outcome State Fault Refusal := .next (s.doorbell w 0x1000 (fun s => s.sourceBell w))

/-- DB_EVT_ALL (R611): a function enables or disables every source for its borough. -/
def execDbEvtAll (w : Wr) (s : State) : Host.Outcome State Fault Refusal := .next (s.doorbell w 0x1004 (fun s => s.everyBell w))

/-! ## The logbook (R614 to R621) -/

/-- Slots of the logbook. -/
def logSlots : Nat := 16384

/-- Show the range of the logbook. -/
def State.showLog (s : State) : State :=
  let first := (s.log.slots.head?.map (fun x => x.seq)).getD 0
  ((s.wr64 LOG_FIRST_LO LOG_FIRST_HI first).wr64 LOG_HEAD_LO LOG_HEAD_HI (first + s.log.slots.length - 1)).put LOG_COUNT_V
    s.log.slots.length

/-- The item that the logbook's writer pops next (R383, R616): by level where `ORDER` is priority, oldest first. -/
def State.stageNext (s : State) : Option StageItem :=
  if s.isSet (SYS_PQ_CTL_ORDER 32) then
    [3, 2, 1, 0].findSome? (fun l => s.stageQ.find? (fun i => i.level == l))
  else s.stageQ.head?

/-- Whether an item repeats the newest record (R617). -/
def State.logRepeats (s : State) (i : StageItem) : Option EvRec :=
  match s.log.slots.getLast? with
  | none => none
  | some x =>
    let r := x.item
    let ends := r.first + (r.last - r.first) / (mtMs : Int) * (mtMs : Int)
    if x.valid && r.src = i.item.src && r.code = i.item.code && !i.mandatory && !bit r.flags 4
        && decide (i.item.first ≤ ends + ((s.get LOG_REPEAT_V * mtUs : Nat) : Int)) then some r else none

/-- The logbook cannot take a record (R618, R619). -/
def State.logRefuse (s : State) : State :=
  let s1 := s.bumpSat LOG_REFUSED evLOG_CNT_SAT
  if s.log.slots.length < logSlots || s1.isSet LOG_STAT_FULL then s1 else (s1.put LOG_STAT_FULL 1).raise evLOG_LOG_FULL

/-- A sector of the logbook fails (R619, R642): whether a spare sector takes its place; without one the logbook stops. -/
def State.logSector (s : State) (sector : Nat) : State × Bool :=
  let r := s.mramFail evLOG_WRITE_FAIL.code sector
  if r.2 then r else (r.1.put LOG_STAT_STOPPED 1, false)

/-- The check of a write of slot i, `fails` times in a row a failure (R619): whether the write stands. -/
def State.logCheck (s : State) (i fails : Nat) : State × Bool :=
  if fails = 0 then (s, true)
  else if fails = 1 then (s.bump PWR_MRAM, true)
  else (((s.bump PWR_MRAM).put LOG_STAT_FAIL_SEEN 1).raise evLOG_WRITE_FAIL).logSector ((0x400000 + 64 * i) / 4096)

/-- Put a record into slot i of the logbook. -/
def State.logPut (s : State) (i : Nat) (x : LogSlot) : State :=
  let l := s.log.slots
  ({ s with log := { s.log with slots := if i < l.length then l.set i x else l ++ [x] } } : State).showLog

/-- The logbook's writer deals with an item (R617 to R619). -/
def State.logItem (s : State) (i : StageItem) (fails : Nat) : State :=
  let n := s.log.slots.length
  match s.logRepeats i with
  | some r =>
    let c := s.logCheck (n - 1) fails
    if c.2 then c.1.logPut (n - 1) ⟨s.rd64 LOG_HEAD_LO LOG_HEAD_HI, r.fold i.item.reps i.item.last, true⟩ else c.1
  | none =>
    if logSlots ≤ n || s.isSet LOG_STAT_STOPPED then s.logRefuse
    else
      let c := s.logCheck n fails
      if c.2 then c.1.logPut n ⟨s.rd64 LOG_HEAD_LO LOG_HEAD_HI + 1, i.item, true⟩ else c.1

/-- LOG_WRITE (R617): the writer pops an item; `fails` says how often its check fails before it passes. -/
def execLogWrite (fails : Nat) (s : State) : Host.Outcome State Fault Refusal :=
  if !s.isSet LOG_STAT_READY then .next s
  else match s.stageNext with
    | none => .next s
    | some i => .next (({ s with stageQ := s.stageQ.erase i } : State).logItem i fails)

/-- The slots from the first of a list on that are valid with rising sequences. -/
def logRun : Nat → List LogSlot → Nat
  | _, [] => 0
  | q, x :: r => if x.valid && x.seq = q then logRun (q + 1) r + 1 else 0

/-- The scan of the logbook (R621): where slot 0 is not valid the log starts behind it; the head is the end of the valid run; a
slot past it that is not valid is torn. -/
def State.logScan (s : State) : State :=
  match s.log.slots with
  | [] => s.put LOG_STAT_READY 1
  | x :: r =>
    let first := if x.valid then x.seq else (r.head?.map (fun y => y.seq - 1)).getD x.seq
    let head := if x.valid then x else { x with seq := first }
    let run := logRun (first + 1) r
    let s1 := (({ s with log := { s.log with slots := head :: r.take run } } : State).showLog).put LOG_STAT_READY 1
    let s2 := if x.valid then s1 else (s1.put LOG_STAT_TORN_SEEN 1).raise evLOG_LOG_TORN 65535 [.w4 0]
    if run < r.length then (s2.put LOG_STAT_TORN_SEEN 1).raise evLOG_LOG_TORN 65535 [.w4 (run + 1)] else s2

/-- LOG_SCAN (R621): after a power-on reset the logbook is scanned. -/
def execLogScan (s : State) : Host.Outcome State Fault Refusal :=
  .next (if s.isSet LOG_STAT_READY then s else s.logScan)

end Sys2Proof.Machine
end

