-- ==== Sys2Proof/Machine/Gaz.lean ====
section
/-! DEFINITION. The gazetteer: entries, districts, sends to a district, fault reports and digests (R584 to R598). -/
namespace Sys2Proof.Machine

/-- Whether the hub acts as root (R584). -/
def State.isRoot (s : State) : Bool := s.isSet GAZ_CTL_ROOT && (s.keyOf 0).isSome

/-- Each change of the role raises ROOT_CHANGE (R584): `t` is the hub behind the change. -/
def State.roleSaid (s t : State) : State := if t.isRoot = s.isRoot then t else t.raise evGAZ_ROOT_CHANGE

/-! ## Entries (R586 to R588) -/

/-- The entry of endpoint index e, where it is `VALID`. -/
def State.gazEntry (s : State) (e : Nat) : Option GazEntry := mapGet none e s.gaz
/-- Put or remove an entry. -/
def State.setEntry (s : State) (e : Nat) (x : Option GazEntry) : State := { s with gaz := mapPut none e x s.gaz }

/-- The 32 bytes of an entry (R586). -/
def GazEntry.bytes (x : GazEntry) : List Byte :=
  leBytes 4 x.id ++ leBytes 1 (128 + 32 * x.kind) ++ leBytes 1 x.hopKind ++ leBytes 1 x.hop
    ++ leBytes 1 (64 * x.outcome + 32 * b2n x.fault) ++ x.dists.flatMap (leBytes 2) ++ leBytes 6 x.epoch ++ leBytes 2 x.gens
    ++ leBytes 2 x.status ++ leBytes 1 x.fclass ++ leBytes 1 0 ++ leBytes 4 x.seen

/-- The seconds that `LAST_SEEN` keeps. -/
def State.seenNow (s : State) : Nat := (mtParts s.mt).1 % 2 ^ 32

/-- The entries that hold district d. -/
def State.gazMembers (s : State) (d : Nat) : List Nat :=
  (s.gaz.filter (fun x => match x.2 with
    | some y => y.dists.contains d
    | none => false)).map (fun x => x.1)

/-- Show the entries and the members of some districts. -/
def State.showGaz (s : State) (ds : List Nat) : State :=
  (ds.filter (fun d => decide (d < 4096))).foldl (fun (s : State) d => s.put (GAZ_D_MEMBERS_V d) (s.gazMembers d).length)
    (s.put GAZ_ENTRIES_V s.gaz.length)

/-- Check 2 of R587 on the 32 bytes that GAZ_REGISTER supplies. -/
def gazFormOk (e : Nat) (l : List Byte) : Bool :=
  let f := fun (o n : Nat) => leNat ((l.drop o).take n)
  decide (e < 2 ^ 25) && f 0 4 != 0 && f 0 4 != 0xFFFFFFFF && bits (f 4 1) 6 5 != 0 && bits (f 4 1) 4 0 == 0 && f 4 1 / 128 == 0
    && ((f 5 1 == 1 && decide (f 6 1 < 40)) || f 5 1 == 2) && f 7 1 == 0 && leNat (l.drop 16) == 0

/-- The entry that the bytes of GAZ_REGISTER make. -/
def gazOf (l : List Byte) : GazEntry :=
  let f := fun (o n : Nat) => leNat ((l.drop o).take n)
  { id := f 0 4, kind := bits (f 4 1) 6 5, hopKind := f 5 1, hop := f 6 1, dists := [f 8 2, f 10 2, f 12 2, f 14 2] }

/-- A district field: none, or 0 to 4,095. -/
def districtOk (d : Nat) : Bool := decide (d < 4096) || d == 0xFFFF

/-- Change memberships (R588): removals first, then additions, each into the lowest free slot; none where the entry would hold
more than four districts. -/
def gazDistricts (dists fields : List Nat) : Option (List Nat) :=
  let cut := fields.filter (fun v => decide (0x8000 ≤ v) && v != 0xFFFF)
  let base := dists.map (fun d => if cut.contains (0x8000 + d) then 0xFFFF else d)
  (fields.filter (fun v => decide (v < 4096))).foldl (fun (a : Option (List Nat)) v => match a with
    | none => none
    | some l =>
      if l.contains v then some l
      else match (List.range 4).find? (fun i => l.getD i 0 == 0xFFFF) with
        | some i => some (l.set i v)
        | none => none) (some base)

/-! ## Sends (R589 to R595) -/

/-- Show the sends outstanding, and the counts of the latest send to district d. -/
def State.showSend (s : State) (d : Nat) : State :=
  let s1 := s.put GAZ_OPEN_SENDS (countIf (fun (e : Nat × Option GazSend) => match e.2 with
    | some x => !x.isOver
    | none => false) s.gazSends)
  match s1.gazSend d with
  | none => s1
  | some x =>
    let s2 := (((s1.put (GAZ_D_STAT_OUT d) (b2n (!x.isOver))).put (GAZ_D_STAT_INCOMPLETE d) (b2n (x.isOver && x.refused + x.silent != 0))).wn
      (GAZ_D_APPLIED d) x.applied).wn (GAZ_D_REFUSED d) x.refused
    (s2.wn (GAZ_D_SILENT d) x.silent).wr64 (GAZ_D_EPOCH_LO d) (GAZ_D_EPOCH_HI d) x.epoch

/-- Whether a send to district d is outstanding. -/
def State.sendOpen (s : State) (d : Nat) : Bool := match s.gazSend d with
  | some x => !x.isOver
  | none => false

/-- Check 4 of R589 on the inner packet. -/
def innerOk (l : List Byte) (actTime : Nat) : Bool :=
  let f := fun (o n : Nat) => leNat ((l.drop o).take n)
  decide (36 ≤ l.length) && decide (l.length ≤ 128) && f 8 4 == l.length && f (l.length - 4) 4 == crc32c (l.take (l.length - 4))
    && f 2 1 == 0 && f 6 2 % 2 == 1 && f 0 2 != 0x0E06 && f 16 12 == actTime

/-- Whether `GAZ_SELF` names district d (R592). -/
def State.gazSelf (s : State) (d : Nat) : Bool :=
  (List.range 2).any (fun i => (s.isSet (GAZ_SELF_V1 i) && s.get (GAZ_SELF_D1 i) == d)
    || (s.isSet (GAZ_SELF_V0 i) && s.get (GAZ_SELF_D0 i) == d))

/-- A send to district d is accepted (R589). -/
def State.gazAccept (s : State) (d : Nat) (act : Int) (inner : List Byte) (action : Nat) : State :=
  let ep := (s.rd64 GAZ_EPOCH_LO GAZ_EPOCH_HI + 1) % 2 ^ 48
  let s1 := (s.wr64 GAZ_EPOCH_LO GAZ_EPOCH_HI ep).setSend d
    { epoch := ep, act := act, inner := inner, action := action, selfOpen := s.gazSelf d, retry := s.get GAZ_CFG_RETRY,
      collect := s.get GAZ_CFG_COLLECT }
  ({ s1 with gazBook := { s1.gazBook with sentAt := some s.mt } } : State).showSend d

/-- A packet with its trailer. -/
def sealPacket (l : List Byte) : List Byte := l ++ leBytes 4 (crc32c l)

/-- The copy for a node or a hub (R590): the inner packet with its own `TAG` and `GEN`. -/
def copyInner (inner : List Byte) (tag gen : Nat) : List Byte :=
  let l := inner.take (inner.length - 4)
  sealPacket (l.take 3 ++ leBytes 1 (16 * gen) ++ leBytes 2 tag ++ l.drop 6)

/-- The copy for a relay hub (R590): a GAZ_SEND packet. -/
def copyRelay (d : Nat) (inner : List Byte) (tag gen : Nat) : List Byte :=
  sealPacket (leBytes 2 0x0E06 ++ leBytes 1 0 ++ leBytes 1 (16 * gen) ++ leBytes 2 tag ++ leBytes 2 1
    ++ leBytes 4 (36 + 4 + inner.length) ++ leBytes 4 1 ++ (inner.drop 16).take 12 ++ leBytes 4 0 ++ leBytes 2 d ++ leBytes 2 0 ++ inner)

/-- The ports from which address entry a is reached: those of the pairs whose route streams use it (DESIGN CHOICE, log
entry 35). -/
def State.addrPorts (s : State) (a : Nat) : List Nat :=
  ((List.range 4096).flatMap (fun i => if bit (s.rtWord i 0) 0
    then [0, 1].filterMap (fun r => if s.rtAddr i r = a then s.pairPort (s.rtPair i) r else none) else [])).eraseDups

/-- Send a packet of the root to an endpoint in an envelope of borough 0, numbered from `GAZ_CTR` (R585, R586). -/
def State.gazTransmit (s : State) (x : GazEntry) (pkt : List Byte) : State :=
  match s.keyOf 0 with
  | none => s
  | some k =>
    let c := s.rd64 GAZ_CTR_LO GAZ_CTR_HI
    let env := envelopeBytes k 0 1 c pkt
    let s1 := s.wr64 GAZ_CTR_LO GAZ_CTR_HI ((c + 1) % 2 ^ 64)
    if x.hopKind = 1 then s1.sendTx x.hop [ctrlFlit 8 0 0 (s1.rn SYS_HUB_ID) 0 0 0 env]
    else (s1.addrPorts x.hop).foldl (fun (s : State) p => s.sendUdp p (s.adEntry x.hop) (s.ptEntry p) (s.get CMD_UDP_PORT)
      (s.get CMD_UDP_PORT) 0 env) s1

/-- The bytes of a member's copy. -/
def GazCopy.bytes (c : GazCopy) (d : Nat) (inner : List Byte) : List Byte :=
  if c.relay then copyRelay d inner c.tag c.gen else copyInner inner c.tag c.gen

/-- The members of district d whose copies are still to be formed. -/
def State.gazLeft (s : State) (d next : Nat) : List Nat := (s.gazMembers d).filter (fun e => decide (next ≤ e))

/-- A member whose copy is never sent counts as refused with TOO_LATE (R590). -/
def State.gazTooLate (s : State) (d e : Nat) (x : GazSend) : State :=
  let s1 := match s.gazEntry e with
    | some y => s.setEntry e (some { y with outcome := 2, status := 9, seen := s.seenNow })
    | none => s
  s1.setSend d { x with refused := x.refused + 1, next := e + 1 }

/-- Every member has its outcome. -/
def State.gazAllIn (s : State) (d : Nat) (x : GazSend) : Bool :=
  (s.gazLeft d x.next).isEmpty && x.copies.all (fun c => c.done) && !x.selfOpen

/-- The detail of the events of a send: district, epoch and counts (R595). -/
def GazSend.detail (x : GazSend) (d : Nat) : List Detail := [.w4 d, .w8 x.epoch, .w4 x.applied, .w4 x.refused, .w4 x.silent]

/-- Collection ends (R591, R593, R595): members without an outcome are silent, the reply is sent, the counts are shown. -/
def State.gazFinish (s : State) (d : Nat) : State :=
  let late := (match s.gazSend d with
    | some x => s.gazLeft d x.next
    | none => []).foldl (fun (s : State) e => match s.gazSend d with
      | some x => s.gazTooLate d e x
      | none => s) s
  match late.gazSend d with
  | none => s
  | some x =>
    let quiet := x.copies.filter (fun c => !c.done)
    let s1 := quiet.foldl (fun (s : State) (c : GazCopy) => match s.gazEntry c.e with
      | some y => s.setEntry c.e (some { y with outcome := 3 })
      | none => s) late
    let y := { x with isOver := true, silent := x.silent + quiet.length + b2n x.selfOpen, selfOpen := false }
    let s2 := (s1.setSend d y).showSend d
    let s3 := s2.finishCmd x.action 0 (s2.commitRecord 0 0 x.act ++ [w32 y.applied, w32 y.refused, w32 y.silent])
    if y.refused + y.silent = 0 then s3.raise evGAZ_SEND_DONE 65535 (y.detail d)
    else s3.raise evGAZ_SEND_INCOMPLETE 65535 (y.detail d) 0 false true

/-- Collection ends early once every member has an outcome. -/
def State.gazCheck (s : State) (d : Nat) : State :=
  match s.gazSend d with
  | some x => if !x.isOver && s.gazAllIn d x then s.gazFinish d else s.showSend d
  | none => s

/-- Whether the root may send another copy: at most 2 × 10^6 in a second (R590). -/
def State.copyDue (s : State) : Bool := match s.gazBook.copyAt with
  | some t => decide (t + ((500 * mtNs : Nat) : Int) ≤ s.mt) || decide (s.mt < t)
  | none => true

/-- GAZ_COPY_TX (R590): the copy of the next member of district d, in ascending entry index. -/
def execGazCopyTx (d : Nat) (s : State) : Host.Outcome State Fault Refusal :=
  match s.gazSend d with
  | none => .next s
  | some x => match if x.isOver then none else (s.gazLeft d x.next).head? with
    | none => .next s
    | some e => match s.gazEntry e with
      | none => .next s
      | some y =>
        if x.act - ((2 * mtUs : Nat) : Int) < s.mt then .next ((s.gazTooLate d e x).gazCheck d)
        else if !s.copyDue then .next s
        else
          let sl := ((List.range 4).find? (fun i => y.dists.getD i 0 == d)).getD 0
          let gen := (bits y.gens (4 * sl + 3) (4 * sl) + 1) % 16
          let c : GazCopy := { e := e, relay := y.kind == 3, tag := 0xFFFC + sl, gen := gen, last := s.mt }
          let s1 := s.setEntry e (some { y with gens := setBits y.gens (4 * sl + 3) (4 * sl) gen })
          let s2 : State := { s1 with gazBook := { s1.gazBook with copyAt := some s.mt } }
          .next ((s2.setSend d { x with next := e + 1, copies := x.copies ++ [c] }).gazTransmit y (c.bytes d x.inner))

/-- GAZ_RETRY (R590): the copy of member e of district d is sent again. -/
def execGazRetry (d e : Nat) (s : State) : Host.Outcome State Fault Refusal :=
  match s.gazSend d with
  | none => .next s
  | some x => match x.copies.find? (fun c => c.e == e) with
    | none => .next s
    | some c => match s.gazEntry e with
      | none => .next s
      | some y =>
        if x.isOver || c.done || decide (s.mt < c.last + ((x.retry * mtMs : Nat) : Int)) then .next s
        else
          let l := x.copies.map (fun (k : GazCopy) => if k.e = e then { k with last := s.mt } else k)
          .next ((s.setSend d { x with copies := l }).gazTransmit y (c.bytes d x.inner))

/-- A reply of a generation that is not outstanding is discarded (R531). -/
def State.lateReply (s : State) : State :=
  let s1 := s.bumpSat CMD_LATE evCMD_CNT_SAT
  let due := match s.lateAt with
    | none => true
    | some t => decide (t + (mtSec : Int) ≤ s.mt) || decide (s.mt < t)
  if due then ({ s1 with lateAt := some s.mt } : State).raise evCMD_LATE_REPLY else s1

/-- What an outcome leaves in the entry (R591). -/
def State.gazNote (s : State) (e status ep : Nat) : State :=
  match s.gazEntry e with
  | none => s
  | some y =>
    if status = 0 then s.setEntry e (some { y with outcome := 1, epoch := ep, seen := s.seenNow })
    else s.setEntry e (some { y with outcome := 2, status := status, seen := s.seenNow })

/-- The outcome of a copy of the send to district d (R591, R594): status and result words of its reply. -/
def State.gazOutcome (s : State) (d : Nat) (x : GazSend) (c : GazCopy) (status : Nat) (res : List Word) : State :=
  let s1 := s.gazNote c.e status x.epoch
  let l := x.copies.map (fun (k : GazCopy) => if k.e = c.e then { k with done := true } else k)
  if x.isOver then
    let s2 := (s1.setSend d { x with copies := l, lateSaid := true }).bumpSat GAZ_LATE evGAZ_CNT_SAT
    if x.lateSaid then s2 else s2.raise evGAZ_LATE_OUTCOME 65535 [.w4 d, .w8 x.epoch]
  else
    let n := fun (i : Nat) => (res.getD i 0#32).toNat
    let y : GazSend :=
      if status ≠ 0 then { x with copies := l, refused := x.refused + 1 }
      else if c.relay then { x with copies := l, applied := x.applied + n 6, refused := x.refused + n 7, silent := x.silent + n 8 }
      else { x with copies := l, applied := x.applied + 1 }
    (s1.setSend d y).gazCheck d

/-- A status reply of endpoint e (R590, R591): of the outstanding generation of a copy, or late. -/
def State.gazReply (s : State) (e : Nat) (l : List Word) : State :=
  let w0 := (l.getD 0 0#32).toNat
  let w1 := (l.getD 1 0#32).toNat
  let res := (l.take (l.length - 1)).drop 4
  match s.gazSends.find? (fun x => match x.2 with
      | some y => y.copies.any (fun c => c.e == e && c.tag == w1 % 65536 && !c.done)
      | none => false) with
  | some (d, some x) => match x.copies.find? (fun c => c.e == e && !c.done) with
    | some c => if c.gen = bits w0 31 28 then s.gazOutcome d x c (w1 / 65536) res else s.lateReply
    | none => s.lateReply
  | _ => s.lateReply

/-- An envelope that is refused (R526). -/
def State.authFail (s : State) (b : Nat) : State := (s.bumpSat CMD_UDP_AUTH evCMD_CNT_SAT).raise evCMD_AUTH_FAIL 65535 [] b

/-- The packet or reply in an envelope, with its borough, kind and counter, where its form and its `MAC` are right (R526). -/
def State.openEnvelope (s : State) (l : List Byte) : Option (Nat × Nat × Nat × List Byte) :=
  let f := fun (o n : Nat) => leNat ((l.drop o).take n)
  let b := f 4 1
  let n := f 24 4
  if l.length < 48 + 20 || f 0 4 ≠ 0x44434D51 || 32 ≤ b || (f 5 1 ≠ 1 && f 5 1 ≠ 2) || f 6 2 ≠ 0 || l.length ≠ 48 + n then none
  else match s.keyOf b with
    | none => none
    | some k => if l.drop (16 + n) = hmacSha256 k (l.take (16 + n)) then some (b, f 5 1, f 8 8, (l.drop 16).take n) else none

/-- A reply in an envelope from endpoint e, authenticated under borough 0's key. -/
def State.gazReceive (s : State) (e : Nat) (env : List Byte) : State :=
  match s.openEnvelope env with
  | some (0, 2, _, r) => s.gazReply e (bytesWords r)
  | _ => s.authFail 0

/-- GAZ_OUTCOME_RX (R591): a reply arrives from endpoint e, in its envelope. -/
def execGazOutcomeRx (e : Nat) (env : List Byte) (s : State) : Host.Outcome State Fault Refusal := .next (s.gazReceive e env)

/-- GAZ_COLLECT_END (R593): `COLLECT` ms have passed since the activation time. -/
def execGazCollectEnd (d : Nat) (s : State) : Host.Outcome State Fault Refusal :=
  match s.gazSend d with
  | none => .next s
  | some x => .next (if x.isOver || decide (s.mt < x.act + ((x.collect * mtMs : Nat) : Int)) then s else s.gazFinish d)

/-! ## Fault reports and digests (R596 to R598) -/

/-- Whether something raised at most once per second is due again. -/
def State.secondPassed (s : State) (t : Option Int) : Bool := match t with
  | none => true
  | some u => decide (u + (mtSec : Int) ≤ s.mt) || decide (s.mt < u)

/-- Show the open digests. -/
def State.showDigests (s : State) : State := s.put GAZ_OPEN_DIGESTS s.digests.length

/-- A digest closes (R598): its record goes to the queue, and its subject's entry is marked. -/
def State.digestClose (s : State) (x : Digest) : State :=
  let at4 := fun (i : Nat) => leBytes 4 (x.reporters.getD i 0)
  let rec_ := leBytes 4 x.subject ++ leBytes 1 x.cls ++ leBytes 1 (b2n x.isOver) ++ leBytes 2 0 ++ mtBytes x.first ++ mtBytes x.last
    ++ leBytes 4 x.count ++ leBytes 4 x.repeats ++ at4 0 ++ at4 1 ++ at4 2 ++ at4 3 ++ leBytes 8 s.gazBook.seq
  let q := s.get GAZ_DQ_QUEUE
  let s1 : State := { s with digests := s.digests.filter (fun y => !(y.subject == x.subject && y.cls == x.cls)),
                             gazBook := { s.gazBook with seq := s.gazBook.seq + 1 } }
  let s2 := if s1.isSet GAZ_DQ_EN && s1.get (QUE_STAT_STATE q) = 1 then s1.sendItem q s.gazBook.seq s.gazBook.seq 2 rec_
    else s1.bumpSat GAZ_DQ_DROP evGAZ_CNT_SAT
  let s3 := match s2.gazEntry x.subject with
    | some y => s2.setEntry x.subject (some { y with fault := true, fclass := x.cls, seen := s2.seenNow })
    | none => s2
  let s4 := s3.showDigests
  if s4.secondPassed s4.gazBook.closedSaid then
    ({ s4 with gazBook := { s4.gazBook with closedSaid := some s4.mt } } : State).raise evGAZ_DIGEST_CLOSED
  else s4

/-- The open digest of a subject and a class. -/
def State.digestOf (s : State) (subject cls : Nat) : Option Digest :=
  s.digests.find? (fun y => y.subject == subject && y.cls == cls)

/-- A good report enters its digest, or opens one (R597). -/
def State.reportFold (s : State) (subject cls reporter : Nat) : State :=
  match s.digestOf subject cls with
  | some x =>
    let y : Digest :=
      if x.reporters.contains reporter then { x with repeats := satAdd 32 x.repeats 1, last := s.mt }
      else if x.reporters.length < 1024 then { x with reporters := x.reporters ++ [reporter], isOver := decide (x.reporters.length = 1023),
                                                       count := satAdd 32 x.count 1, last := s.mt }
      else { x with count := satAdd 32 x.count 1, last := s.mt }
    { s with digests := s.digests.map (fun z => if z.subject = subject && z.cls = cls then y else z),
             gazBook := { s.gazBook with dropRun := false } }
  | none =>
    if 1024 ≤ s.digests.length then
      let s1 := s.bumpSat GAZ_DIGEST_DROP evGAZ_CNT_SAT
      if s1.gazBook.dropRun then s1
      else ({ s1 with gazBook := { s1.gazBook with dropRun := true } } : State).raise evGAZ_DIGEST_FULL
    else
      ({ s with digests := s.digests ++ [{ subject := subject, cls := cls, first := s.mt, last := s.mt,
                                           closes := s.mt + ((s.get GAZ_DIGEST_WINDOW * mtUs : Nat) : Int), reporters := [reporter],
                                           count := 1 }],
                gazBook := { s.gazBook with dropRun := false } } : State).showDigests

/-- A report is refused (R596). -/
def State.reportRefuse (s : State) : State :=
  let s1 := s.bumpSat GAZ_FR_REF evGAZ_CNT_SAT
  if s1.secondPassed s1.gazBook.frSaid then
    ({ s1 with gazBook := { s1.gazBook with frSaid := some s1.mt } } : State).raise evGAZ_FR_REFUSED
  else s1

/-- The check of a report (R596). -/
def State.reportOk (s : State) (l : List Byte) : Bool :=
  let f := fun (o n : Nat) => leNat ((l.drop o).take n)
  l.length == 48 && f 0 4 == 0x52474146 && f 4 1 == 1 && f 6 2 == 0 && f 15 1 / 2 == 0 && (match s.keyOf 0 with
    | some k => l.drop 32 == (hmacSha256 k (l.take 32)).take 16
    | none => false)

/-- A datagram to `GAZ_FR.PORT` (R596, R597). A digest whose window has passed closes before a report of its key counts. -/
def State.faultReport (s : State) (l : List Byte) : State :=
  if !s.reportOk l then s.reportRefuse
  else
    let f := fun (o n : Nat) => leNat ((l.drop o).take n)
    let subject := f 12 4
    let s1 := match s.digestOf subject (f 5 1) with
      | some x => if x.closes ≤ s.mt then s.digestClose x else s
      | none => s
    s1.reportFold subject (f 5 1) (f 8 4)

/-- FAULT_REPORT_RX (R596): the payload of a UDP datagram to `GAZ_FR.PORT`. -/
def execFaultReportRx (payload : List Byte) (s : State) : Host.Outcome State Fault Refusal :=
  .next (if s.isSet GAZ_FR_EN then s.faultReport payload else s)

/-- DIGEST_CLOSE (R598): the window of a digest has passed. -/
def execDigestClose (subject cls : Nat) (s : State) : Host.Outcome State Fault Refusal :=
  match s.digestOf subject cls with
  | some x => .next (if x.closes ≤ s.mt then s.digestClose x else s)
  | none => .next s

end Sys2Proof.Machine
end

