-- ==== Sys2Proof/Machine/Lanes.lean ====
section
/-! DEFINITION. Sheets and lanes: bring-up, loss, eye margins, pattern test, the spare, and the exchanges of a Spaxa link that
move lanes and change its width (R409 to R437, R448, R458 to R461). -/
namespace Sys2Proof.Machine

/-! ## Start and stop (R417, R418) -/

/-- `PROTO` of a sheet: 0 NONE, 1 ETH, 2 SPX, 3 TEST. -/
def State.proto (s : State) (sh : Nat) : Nat := s.get (LNE_SHEET_CTL_PROTO sh)

/-- A new attempt from DETECT (R418, R423); in TEST each lane passes its stages on its own, so the lanes that wait in IDLE alone begin. -/
def State.startAttempt (s : State) (sh : Nat) : State :=
  let s1 := s.setSheet sh { s.sheet sh with waiting := false }
  let test := s.sheetState sh = 3
  (s1.mapped sh).foldl (fun (s : State) l =>
    if (test && s.laneState sh l != 1) || s.laneState sh l == 0 || s.laneState sh l == 9 then s
    else (s.stageTo sh 2 l).put (LNE_STAT_IDENT sh l) 15) s1

/-- The checks of R417 in order, for the `RATE` r that the write gives: one that is reserved stays out of the register (R14) and fails
check 2. -/
def State.startCheck (s : State) (sh r : Nat) : Nat :=
  let p := s.proto sh
  if !s.sheetAwake sh then 2
  else if p = 0 || 5 ≤ r || (p = 1 && (r ≠ 3 || (s.macOf sh).isNone)) then 3
  else if (p = 2 && s.get (LNE_SHEET_STAT_WIDTH sh) < 7) || (p = 1 && s.get (LNE_SHEET_STAT_WIDTH sh) < 4) then 4
  else 0

/-- START goes to 1 with `RATE` r in the write (R417): the code; on OK the sheet enters BRINGUP, or TEST. -/
def State.sheetStart (s : State) (sh r : Nat) : Nat × State :=
  let c := s.startCheck sh r
  let s1 := s.put (LNE_SHEET_STAT_CODE sh) c
  if c ≠ 0 then (c, if c = 2 then s1.refuseDom (24 + sh) else s1)
  else
    let s2 := ((s1.put (LNE_SHEET_CTL_START sh) 1).put (LNE_SHEET_STAT_STATE sh) (if s.proto sh = 3 then 3 else 1)).setSheet sh {}
    let s3 := s2.startAttempt sh
    (0, if s.proto sh = 2 then s3.linkTrain sh else s3)

/-- START goes to 0 (R417): DOWN from any state. -/
def State.sheetStop (s : State) (sh : Nat) : State :=
  let s1 := (s.put (LNE_SHEET_CTL_START sh) 0).put (LNE_SHEET_STAT_STATE sh) 0
  let s2 := ((s1.mapped sh).foldl (fun (s : State) l => s.laneTo sh 1 l) s1).setSheet sh {}
  if s.proto sh = 1 then s2.etherDown sh
  else if s.proto sh = 2 then (if s2.lstate sh = 0 then s2 else s2.linkLeave sh 0 true)
  else s2

/-! ## Drops (R425) -/

/-- An UP sheet leaves UP by lane l (R425): bring-up starts again. `own`: the loss of the lane caused it, as no substitution or
narrowing does. -/
def State.sheetDrop (s : State) (sh l : Nat) (own : Bool) : State :=
  let x := s.sheet sh
  let s1 := ((s.setSheet sh { x with causers := if !own || x.causers.contains l then x.causers else x.causers ++ [l],
                                     dropAt := (if own then x.dropAt ++ [(l, s.mt)] else x.dropAt).filter
                                       (fun e => decide (s.mt - e.2 ≤ ((10 * mtSec : Nat) : Int))) }).put
    (LNE_SHEET_STAT_STATE sh) 1).put (LNE_SHEET_STAT_DROP_SEEN sh) 1
  let s2 := (s1.laneCount sh (LNE_DROPS sh)).raise evLNE_SHEET_DOWN sh [.w4 l]
  let s3 := if s.proto sh = 1 then s2.etherDown sh else if s.proto sh = 2 then s2.linkTrain sh else s2
  s3.startAttempt sh

/-! ## The spare lane (R433 to R435) -/

/-- Narrow the sheet by physical lane l (R435): an UP sheet takes it as a drop. -/
def State.narrowBy (s : State) (sh l : Nat) (pol : Bool) : State :=
  let up := s.sheetState sh = 2
  let s1 := s.narrowMap sh l pol
  let s2 := s1.spareExhausted 3 (lanePart sh l)
  let s3 := if s.proto sh = 1 then s2.etherNarrow sh else s2
  if up then s3.sheetDrop sh l false
  else if s.sheetState sh = 1 then (if s.proto sh = 2 then s3.linkTrain sh else s3).startAttempt sh else s3

/-- The checks of R433 in order, for logical lane k. -/
def State.subCheck (s : State) (sh k : Nat) : Nat :=
  if !s.sheetAwake sh then 2
  else if s.sheetState sh = 3 || s.lanePhys sh k = 15 then 1
  else if !s.spareFree sh then 5
  else if s.proto sh = 1 && s.sheetState sh ≠ 0 && !s.isSet (LNE_SHEET_CTL_PARTNER_SPARE sh) then 6
  else if s.proto sh = 2 && s.sheetState sh = 2 && (s.lnk sh).xchg.isSome then 1
  else if s.proto sh = 2 && s.sheetState sh = 2 && !s.linkActive sh then 6
  else 0

/-- Move logical lane k to the spare (R433, R434): the code, none while the exchange of an UP Spaxa sheet runs. `action` names the
command that waits for it. -/
def State.subst (s : State) (sh k : Nat) (pol : Bool) (action : Option Nat) : Option Nat × State :=
  let c := s.subCheck sh k
  let s1 := s.put (LNE_SHEET_STAT_CODE sh) c
  if c ≠ 0 then (some c, if c = 2 then s1.refuseDom (24 + sh) else s1)
  else if s.sheetState sh = 2 && s.proto sh = 2 then
    (none, s1.claim sh { kind := 1, ours := true, tag := 0, lane := k, policy := pol, action := action })
  else
    let l := s.lanePhys sh k
    let s2 := if s.sheetState sh = 2 then s1.sheetDrop sh l false else s1
    let s3 := (s2.wakeSpare sh 1).spareIn sh k pol
    (some 0, if s.sheetState sh = 2 then s3.startAttempt sh else s3)

/-- NARROW with `SUB_LANE` = k (R435): refused with LANE_WIDTH where the protocol cannot run narrower. -/
def State.narrow (s : State) (sh k : Nat) : Nat × State :=
  let c := if !s.sheetAwake sh then 2 else if s.get (LNE_SHEET_STAT_WIDTH sh) < 8 || s.lanePhys sh k = 15 then 4 else 0
  let s1 := s.put (LNE_SHEET_STAT_CODE sh) c
  if c ≠ 0 then (c, if c = 2 then s1.refuseDom (24 + sh) else s1)
  else (0, s1.narrowBy sh (s.lanePhys sh k) false)

/-- What the policy does, while armed, with a lane that has become failing (R433, R435). -/
def State.laneReplace (s : State) (sh l : Nat) : State :=
  match s.laneLogical sh l with
  | none => s
  | some k =>
    let s1 := if s.spareFree sh then s else s.spareExhausted 3 (lanePart sh l)
    if !s1.armed 3 then s1
    else if s1.spareFree sh then (s1.subst sh k true none).2
    else if 8 ≤ s1.get (LNE_SHEET_STAT_WIDTH sh) then s1.narrowBy sh l true
    else s1

/-- A lane becomes failing (R427, R433, R435): LANE_FAIL, and what the policy does. -/
def State.laneFail (s : State) (sh l : Nat) : State :=
  if s.isSet (LNE_STAT_FAILING sh l) then s
  else ((s.put (LNE_STAT_FAILING sh l) 1).raise evLNE_LANE_FAIL sh [.w4 l]).laneReplace sh l

/-! ## Writes of the sheet's registers (R417, R433, R435) -/

/-- A write of `LNE_SHEET_CTL[s]`: most fields are fixed while `START` = 1; a reserved encoding leaves its field as it was (R14, R417). -/
def State.sheetCtlWrite (s : State) (sh : Nat) (w : Wr) : State :=
  let old := s.rn (LNE_SHEET_CTL sh)
  let new := merged old w
  let on := bit old 26
  let locked : List (Nat × Nat) := [(31, 30), (29, 27), (25, 25), (23, 23), (17, 14), (13, 0)]
  let busy := on && locked.any (fun f => bits new f.1 f.2 != bits old f.1 f.2)
  let w1 := if on then locked.foldl (fun (w : Wr) f => Wr.keep w old f.1 f.2) w else w
  let s1 := s.mergeRaw (LNE_SHEET_CTL sh).key (Wr.keep w1 old 26 26)
  let s3 := if busy then s1.raise evLNE_CFG_BUSY sh else s1
  let s4 := if on && !bit new 26 then s3.sheetStop sh else if !on && bit new 26 then (s3.sheetStart sh (bits new 29 27)).2 else s3
  let s5 := if w.hits 19 then (s4.narrow sh (bits new 22 20)).2 else s4
  if w.hits 18 then (s5.subst sh (bits new 22 20) false none).2 else s5

/-- SHEET_START (R417): a write of `LNE_SHEET_CTL[s]`. -/
def execSheetStart (sh : Nat) (w : Wr) (s : State) : Host.Outcome State Fault Refusal :=
  .next (s.pfOnly w (0x300000 + 0x4000 * sh) (fun s => if sh < 40 then s.sheetCtlWrite sh w else s))

/-- SHEET_STOP (R417): a write of `LNE_SHEET_CTL[s]`. -/
def execSheetStop (sh : Nat) (w : Wr) (s : State) : Host.Outcome State Fault Refusal :=
  .next (s.pfOnly w (0x300000 + 0x4000 * sh) (fun s => if sh < 40 then s.sheetCtlWrite sh w else s))

/-- SHEET_SUB (R433): a write of `LNE_SHEET_CTL[s]`. -/
def execSheetSub (sh : Nat) (w : Wr) (s : State) : Host.Outcome State Fault Refusal :=
  .next (s.pfOnly w (0x300000 + 0x4000 * sh) (fun s => if sh < 40 then s.sheetCtlWrite sh w else s))

/-- NARROW_WRITE (R435): a write of `LNE_SHEET_CTL[s]`. -/
def execNarrowWrite (sh : Nat) (w : Wr) (s : State) : Host.Outcome State Fault Refusal :=
  .next (s.pfOnly w (0x300000 + 0x4000 * sh) (fun s => if sh < 40 then s.sheetCtlWrite sh w else s))

/-! ## Bring-up (R416, R418 to R423) -/

/-- The exchange in progress if it moves a lane to the spare. -/
def State.substExchange (s : State) (sh : Nat) : Option Exchange :=
  match (s.lnk sh).xchg with
  | some e => if e.kind = 1 then some e else none
  | none => none

/-- Whether 10 µs have passed since a lane's LOS last changed (R418, R424). -/
def State.losSettled (s : State) (sh l : Nat) : Bool :=
  match mapGet none l (s.sheet sh).losAt with
  | none => true
  | some t => decide (t + ((10 * mtUs : Nat) : Int) ≤ s.mt)

/-- LANE_DETECT_DONE (R418, R422): LOS of the lane has been clear for 10 µs, and so long has the stage lasted. -/
def execLaneDetectDone (sh l : Nat) (s : State) : Host.Outcome State Fault Refusal :=
  .next (if s.sheetAwake sh && s.laneState sh l = 2 && !s.isSet (LNE_STAT_LOS sh l) && s.losSettled sh l && s.inStage sh l (10 * mtUs)
    then s.stageTo sh 3 l else s)

/-- LANE_LOCK_DONE (R418): the lane's CDR is locked. -/
def execLaneLockDone (sh l : Nat) (s : State) : Host.Outcome State Fault Refusal :=
  .next (if s.sheetAwake sh && s.laneState sh l = 3 then (s.stageTo sh 4 l).put (LNE_STAT_LOL sh l) 0 else s)

/-- The peaking with the largest vertical margin, ties to the lower (R416): margins of the settings from `low` on. -/
def bestPeak (low : Nat) (margins : List Nat) : Nat :=
  (margins.foldl (fun (a : Nat × Nat × Nat) m => if a.1 < m then (m, a.2.2, a.2.2 + 1) else (a.1, a.2.1, a.2.2 + 1))
    (margins.headD 0, low, low)).2.1

/-- How many settings the search of a lane tries (R416). -/
def State.eqTries (s : State) (sh l : Nat) : Nat :=
  let p := s.get (LNE_CTL_PEAK sh l)
  let sp := s.get (LNE_SHEET_CTL_EQ_SPAN sh)
  if s.isSet (LNE_SHEET_CTL_EQ_SEARCH sh) then min 48 (p + sp) + 1 - (p - sp) else 0

/-- The sequences of R428 as recurrences: the places back, in bits, of the terms that are added. -/
def patternTaps (pat : Nat) : List Nat :=
  match pat with
  | 0 => [7, 6] | 1 => [9, 5] | 2 => [13, 12, 2, 1] | 3 => [15, 14] | 4 => [23, 18] | _ => [31, 28]

/-- The first `n` bits of a pattern, newest first: the seed of all ones, then the recurrence (R428). -/
def patternBits (taps : List Nat) : Nat → List Bool
  | 0 => []
  | n + 1 =>
    let l := patternBits taps n
    (if n < taps.headD 1 then true else taps.foldl (fun a t => a != l.getD (t - 1) false) false) :: l

/-- The first 64 bits that a generator sends, first bit highest (R428). -/
def State.patternWord (s : State) (sh l : Nat) : Nat :=
  let pat := s.get (LNE_PRBS_CTL_PAT sh l)
  if pat = 6 then s.rn (LNE_USER_HI sh l) * 2 ^ 32 + s.rn (LNE_USER_LO sh l)
  else (patternBits (patternTaps pat) 64).foldr (fun b a => 2 * a + b2n b) 0

/-- A lane in TEST whose generator is enabled sends its pattern from the start (R428, R430). -/
def State.genStart (s : State) (sh l : Nat) : State :=
  if s.laneState sh l = 8 && s.isSet (LNE_PRBS_CTL_GEN_EN sh l) then
    s.emit (.pattern sh l (s.patternWord sh l) (s.get (LNE_PRBS_CTL_INJ_LOG2 sh l)))
  else s

/-- LANE_EQ_DONE (R416, R423): with `EQ_SEARCH` the margins of every setting tried, each for 0.5 ms, are given, from the lowest up. In
TEST the lane then enters TEST. -/
def execLaneEqDone (sh l : Nat) (margins : List Nat) (s : State) : Host.Outcome State Fault Refusal :=
  let n := s.eqTries sh l
  if !s.sheetAwake sh || s.laneState sh l ≠ 4 || margins.length < n || !s.inStage sh l (n * 500 * mtUs) then .next s
  else
    let p := s.get (LNE_CTL_PEAK sh l)
    let peak := if n = 0 then p else bestPeak (p - s.get (LNE_SHEET_CTL_EQ_SPAN sh)) (margins.take n)
    let s1 := s.put (LNE_STAT_PEAK_ACT sh l) peak
    .next (if s.sheetState sh = 3 then (s1.stageTo sh 8 l).genStart sh l else s1.stageTo sh 5 l)

/-- This end's spare is ready and the partner's is: SWITCH names the block from which it transmits on the spare (R460). -/
def State.switchNow (s : State) (sh : Nat) : State :=
  let x := s.lnk sh
  match x.xchg with
  | none => s
  | some e =>
    let at_ := x.tx.bc + 64
    (s.setLnk sh { x with xchg := some { e with txAt := some at_ } }).sendCtrl sh 6 e.kind e.tag 0 e.lane (at_ % 131072)

/-- LANE_ALIGN_DONE (R419): the lane recognises identity `ident`, in inverted form where `inv`. -/
def execLaneAlignDone (sh l ident : Nat) (inv : Bool) (s : State) : Host.Outcome State Fault Refusal :=
  if !s.sheetAwake sh || s.laneState sh l ≠ 5 then .next s
  else
    let s1 := ((s.stageTo sh 6 l).put (LNE_STAT_IDENT sh l) ident).put (LNE_STAT_RX_INV sh l) (b2n inv)
    match s1.substExchange sh with
    | none => .next s1
    | some e =>
      if l ≠ 8 || !e.granted then .next s1
      else
        let x := s1.lnk sh
        let s2 := (s1.setLnk sh { x with xchg := some { e with ready := true } }).sendCtrl sh 5 1 e.tag 0 e.lane 0
        .next (if e.pready then s2.switchNow sh else s2)

/-- The lane that alone has not passed LOCK in the present attempt (R427). -/
def State.aloneLane (s : State) (sh : Nat) : Option Nat :=
  match (s.mapped sh).filter (fun l => s.laneState sh l != 0 && decide (s.laneState sh l < 4)) with
  | [l] => some l
  | _ => none

/-- An attempt fails (R423) at a stage: 1 DETECT to 6 DESKEW. A lane that alone has failed DETECT or LOCK on three consecutive attempts
becomes failing (R427). In TEST, only the lanes at the stage that failed go back. -/
def State.bringupFail (s : State) (sh stage : Nat) : State :=
  let x := s.sheet sh
  let test := s.sheetState sh = 3
  let alone := (s.aloneLane sh).map (fun l => (l, mapGet 0 l x.alone + 1))
  let s1 := (s.laneCount sh (LNE_ATTEMPTS sh)).put (LNE_SHEET_STAT_STAGE sh) stage
  let s2 := if x.failRun then s1 else s1.raise evLNE_BRINGUP_FAIL sh [.w4 stage]
  let s3 := s2.setSheet sh { s2.sheet sh with failRun := true, waiting := true, failAt := s.mt, alone := alone.toList }
  let s4 := (s3.mapped sh).foldl (fun (s : State) l => if test && s.laneState sh l != stage + 1 then s else s.laneTo sh 1 l) s3
  let s5 := if s.proto sh = 2 then s4.attemptFails sh else s4
  match alone with
  | some (l, n) => if 3 ≤ n then s5.laneFail sh l else s5
  | none => s5

/-- ORDER (R420): the map after it, with whether it was reversed; none where the identities fit neither arrangement. -/
def State.orderMap (s : State) (sh : Nat) : Option (List Nat × Bool) :=
  let m := s.mapped sh
  let ids := m.map (fun l => s.get (LNE_STAT_IDENT sh l))
  if ids = List.range m.length then some (m, false)
  else if ids = (List.range m.length).reverse then some (m.reverse, true)
  else none

/-- SHEET_UP (R418, R420, R421): every lane is READY; ORDER, and DESKEW by `skew` ns, complete or fail the attempt. -/
def execSheetUp (sh skew : Nat) (s : State) : Host.Outcome State Fault Refusal :=
  if !s.sheetAwake sh || s.sheetState sh ≠ 1
      || !(s.mapped sh).all (fun l => s.laneState sh l == 6 && !s.isSet (LNE_STAT_LOS sh l) && !s.isSet (LNE_STAT_LOL sh l)) then .next s
  else match s.orderMap sh with
    | none => .next (s.bringupFail sh 5)
    | some (m, rev) =>
      if 256 < skew then .next (s.bringupFail sh 6)
      else
        let s1 := (((s.setMap sh m).put (LNE_SHEET_STAT_REV sh) (b2n (rev || s.isSet (LNE_SHEET_STAT_REV sh)))).put
          (LNE_SHEET_STAT_SKEW sh) (min skew 255)).put (LNE_SHEET_STAT_STATE sh) 2
        let s2 := m.foldl (fun (s : State) l => s.put (LNE_STAT_STATE sh l) 7) s1
        let back := (s2.sheet sh).causers
        let s3 := (s2.setSheet sh { s2.sheet sh with causers := [], failRun := false, alone := [] }).raise evLNE_SHEET_UP sh
        let s4 := back.foldl (fun (s : State) (l : Nat) => s.raise evLNE_LANE_RESTORED sh [.w4 l]) s3
        .next (if s.proto sh = 1 then s4.etherUp sh else s4)

/-- The spare fails a stage during a make-before-break substitution (R434, R460). -/
def State.spareFails (s : State) (sh : Nat) (e : Exchange) : State :=
  let s1 := s.put (LNE_STAT_FAILING sh 8) 1
  let x := s1.lnk sh
  let s2 := (s1.setLnk sh { x with xchg := none }).showXchg sh
  let s3 := if e.ours then (s2.sendCtrl sh 4 1 e.tag 0 e.lane 0).substRefused sh e 7 else s2.sendCtrl sh 3 1 e.tag 2 e.lane 0
  s3.spareSleep sh

/-- The most that a lane may spend in the stage of a `LNE_STAT.STATE` (R422, R423): DETECT waits `RETRY` ms for signal. -/
def State.stageMax (s : State) (sh l st : Nat) : Nat :=
  match st with
  | 2 => s.get (LNE_SHEET_CTL_RETRY sh) * mtMs
  | 3 => 200 * mtUs
  | 4 => if s.isSet (LNE_SHEET_CTL_EQ_SEARCH sh) then (2 * s.get (LNE_SHEET_CTL_EQ_SPAN sh) + 1) * 500 * mtUs else mtUs
  | _ => 2 * mtMs

/-- BRINGUP_STAGE_TIMEOUT (R423, R427): lane l misses the maximum of the stage it is in, and the attempt fails. -/
def execBringupStageTimeout (sh l : Nat) (s : State) : Host.Outcome State Fault Refusal :=
  let st := s.laneState sh l
  if !s.sheetAwake sh || st < 2 || 5 < st || !s.inStage sh l (s.stageMax sh l st) then .next s
  else if s.sheetState sh = 2 then
    match s.substExchange sh with
    | some e => .next (if l = 8 then s.spareFails sh e else s)
    | none => .next s
  else if s.sheetState sh ≠ 1 && s.sheetState sh ≠ 3 then .next s
  else .next (s.bringupFail sh (st - 1))

/-- BRINGUP_RETRY (R423): the wait of an ETH or TEST sheet, `RETRY` ms, ends. -/
def execBringupRetry (sh : Nat) (s : State) : Host.Outcome State Fault Refusal :=
  let x := s.sheet sh
  .next (if s.sheetAwake sh && x.waiting && s.isSet (LNE_SHEET_CTL_START sh) && s.proto sh ≠ 2
      && decide (x.failAt + ((s.get (LNE_SHEET_CTL_RETRY sh) * mtMs : Nat) : Int) ≤ s.mt) then s.startAttempt sh else s)

/-! ## Loss (R424, R425, R427) -/

/-- Whether a receiver reports loss: neither asleep nor retired. -/
def State.reports (s : State) (sh l : Nat) : Bool :=
  sh < 40 && l ≤ 8 && s.sheetAwake sh && !s.isSet (LNE_CTL_RX_SLEEP sh l) && s.laneState sh l != 9 && s.laneState sh l != 0

/-- A lane that reports loss takes an UP sheet down (R425); three drops within 10 s make it failing (R427). -/
def State.lossDrop (s : State) (sh l cause : Nat) : State :=
  if (s.laneLogical sh l).isNone then s
  else
    let s1 := if s.proto sh = 1 && s.sheetState sh = 2 then s.etherLoss sh l cause else s
    if s1.sheetState sh ≠ 2 then s1
    else
      let s2 := s1.sheetDrop sh l true
      if 3 ≤ countIf (fun (e : Nat × Int) => e.1 == l) (s2.sheet sh).dropAt then s2.laneFail sh l else s2

/-- LOS of a lane changes (R424). -/
def State.losTo (s : State) (sh l v : Nat) : State :=
  let x := s.sheet sh
  (s.setSheet sh { x with losAt := mapPut none l (some s.mt) x.losAt }).put (LNE_STAT_LOS sh l) v

/-- LANE_LOS (R424). -/
def execLaneLos (sh l : Nat) (s : State) : Host.Outcome State Fault Refusal :=
  if !s.reports sh l || s.isSet (LNE_STAT_LOS sh l) then .next s
  else
    let s1 := ((s.losTo sh l 1).put (LNE_STAT_LOS_SEEN sh l) 1).laneCount sh (LNE_LOSCNT sh l)
    .next ((s1.raise evLNE_LANE_LOS sh [.w4 l]).lossDrop sh l 1)

/-- LANE_LOS_CLEAR (R424): the swing has stayed above 90 mV for 10 µs, and so LOS has lasted at least as long. -/
def execLaneLosClear (sh l : Nat) (s : State) : Host.Outcome State Fault Refusal :=
  .next (if s.reports sh l && s.isSet (LNE_STAT_LOS sh l) && s.losSettled sh l then s.losTo sh l 0 else s)

/-- LANE_LOL (R424). -/
def execLaneLol (sh l : Nat) (s : State) : Host.Outcome State Fault Refusal :=
  if !s.reports sh l || s.isSet (LNE_STAT_LOL sh l) then .next s
  else
    let s1 := ((s.put (LNE_STAT_LOL sh l) 1).put (LNE_STAT_LOL_SEEN sh l) 1).laneCount sh (LNE_LOLCNT sh l)
    .next ((s1.raise evLNE_LANE_LOL sh [.w4 l]).lossDrop sh l 2)

/-! ## Eye margins (R426, R427) -/

/-- Whether `PERIOD` ms have passed since the margins of a lane were last measured (R426). -/
def State.eyeDue (s : State) (sh l : Nat) : Bool :=
  match mapGet none l (s.sheet sh).eyeAt with
  | none => true
  | some t => decide (t + ((s.get (LNE_EYE_CFG0_PERIOD sh) * mtMs : Nat) : Int) ≤ s.mt)

/-- EYE_MEASURE (R426): margins of an ACTIVE lane, in mV and 1/256 UI, once each `PERIOD` ms. -/
def execEyeMeasure (sh l v h : Nat) (s : State) : Host.Outcome State Fault Refusal :=
  if !s.sheetAwake sh || s.laneState sh l ≠ 7 || s.get (LNE_EYE_CFG0_PERIOD sh) = 0 || !s.eyeDue sh l then .next s
  else
    let vm := min v 255
    let hm := min h 255
    let s1 := (((s.put (LNE_EYE_VMARGIN sh l) vm).put (LNE_EYE_HMARGIN sh l) hm).put (LNE_EYE_VMIN sh l)
      (min vm (s.get (LNE_EYE_VMIN sh l)))).put (LNE_EYE_HMIN sh l) (min hm (s.get (LNE_EYE_HMIN sh l)))
    let warn := v < s.get (LNE_EYE_CFG0_WARN_V sh) || h < s.get (LNE_EYE_CFG1_WARN_H sh)
    let low := v < s.get (LNE_EYE_CFG0_FAIL_V sh) || h < s.get (LNE_EYE_CFG1_FAIL_H sh)
    let x := s1.sheet sh
    let n := if low then mapGet 0 l x.low + 1 else 0
    let s2 := s1.setSheet sh { x with low := mapPut 0 l n x.low, eyeAt := mapPut none l (some s.mt) x.eyeAt,
                                      warned := if warn then (if x.warned.contains l then x.warned else l :: x.warned) else x.warned.filter (fun k => k != l) }
    let s3 := if warn && !x.warned.contains l then (s2.put (LNE_STAT_WARN_SEEN sh l) 1).raise evLNE_EYE_WARN sh [.w4 l] else s2
    .next (if 3 ≤ n then s3.laneFail sh l else s3)

/-! ## Pattern test (R428 to R430) -/

/-- Clear the pattern counters of a lane (R429). -/
def State.prbsClear (s : State) (sh l : Nat) : State :=
  (s.wr64 (LNE_PRBS_BITS_LO sh l) (LNE_PRBS_BITS_HI sh l) 0).wr64 (LNE_PRBS_ERR_LO sh l) (LNE_PRBS_ERR_HI sh l) 0

/-- The checker of a lane has compared `n` more bits and found `e` in error (R429); CNT_SAT when a counter first saturates. -/
def State.prbsCount (s : State) (sh l n e : Nat) : State :=
  let b := s.rd64 (LNE_PRBS_BITS_LO sh l) (LNE_PRBS_BITS_HI sh l)
  let r := s.rd64 (LNE_PRBS_ERR_LO sh l) (LNE_PRBS_ERR_HI sh l)
  let top := 2 ^ 64 - 1
  let s1 := (s.wr64 (LNE_PRBS_BITS_LO sh l) (LNE_PRBS_BITS_HI sh l) (min (b + n) top)).wr64 (LNE_PRBS_ERR_LO sh l)
    (LNE_PRBS_ERR_HI sh l) (min (r + e) top)
  if (b < top && top ≤ b + n) || (r < top && top ≤ r + e) then s1.raise evLNE_CNT_SAT sh else s1

/-- A locked checker counts on until its counters are read: by how much, no command says, so that is free (log entry 76). -/
def State.prbsCatch (s : State) (sh l : Nat) : State :=
  if s.isSet (LNE_PRBS_CTL_LOCK sh l) then
    let n := s.draw (2 ^ 64)
    let e := n.2.draw (n.1 + 1)
    e.2.prbsCount sh l n.1 e.1
  else s

/-- A write of `LNE_PRBS_CTL` (R428 to R430). -/
def State.prbsWrite (s : State) (sh l : Nat) (w : Wr) : State :=
  let was := s.isSet (LNE_PRBS_CTL_GEN_EN sh l)
  let s0 := s.mergeRaw (LNE_PRBS_CTL sh l).key w
  let s1 := if was then s0 else s0.genStart sh l
  let s2 := if s1.isSet (LNE_PRBS_CTL_CHK_EN sh l) then s1 else s1.put (LNE_PRBS_CTL_LOCK sh l) 0
  let acts := w.hits 19 || w.hits 26
  if acts && !s2.awake (24 + sh) then s2.refuseDom (24 + sh) else
  let s3 := if w.hits 19 then s2.prbsClear sh l else s2
  if w.hits 26 && s3.laneState sh l = 8 && s3.isSet (LNE_PRBS_CTL_GEN_EN sh l) then s3.emit (.bitInvert sh l) else s3

/-- PRBS_INJECT (R430): a write of `LNE_PRBS_CTL`. -/
def execPrbsInject (sh l : Nat) (w : Wr) (s : State) : Host.Outcome State Fault Refusal :=
  .next (s.pfOnly w (0x301020 + 0x4000 * sh + 0x200 * l) (fun s => if sh < 40 && l ≤ 8 then s.prbsWrite sh l w else s))

/-- PRBS_CLR (R429): a write of `LNE_PRBS_CTL`. -/
def execPrbsClr (sh l : Nat) (w : Wr) (s : State) : Host.Outcome State Fault Refusal :=
  .next (s.pfOnly w (0x301020 + 0x4000 * sh + 0x200 * l) (fun s => if sh < 40 && l ≤ 8 then s.prbsWrite sh l w else s))

/-- Whether the checker of a lane runs. -/
def State.checks (s : State) (sh l : Nat) : Bool :=
  s.sheetAwake sh && s.laneState sh l == 8 && s.isSet (LNE_PRBS_CTL_CHK_EN sh l)

/-- PRBS_LOCK (R429): 64 bits agree, with the inverted pattern where `inv`. -/
def execPrbsLock (sh l : Nat) (inv : Bool) (s : State) : Host.Outcome State Fault Refusal :=
  if !s.checks sh l || s.isSet (LNE_PRBS_CTL_LOCK sh l) then .next s
  else
    let s1 := if inv then s.put (LNE_STAT_RX_INV sh l) 1 else s
    .next ((s1.put (LNE_PRBS_CTL_LOCK sh l) 1).raise evLNE_PRBS_LOCK sh [.w4 l])

/-- PRBS_LOST (R429): the checker has compared `n` bits and found `e` in error since it locked, or since its counters were last read
or cleared, and loses lock. -/
def execPrbsLost (sh l n e : Nat) (s : State) : Host.Outcome State Fault Refusal :=
  if !s.checks sh l || !s.isSet (LNE_PRBS_CTL_LOCK sh l) then .next s
  else
    .next ((((s.prbsCount sh l n e).put (LNE_PRBS_CTL_LOCK sh l) 0).put (LNE_PRBS_CTL_LOST_SEEN sh l) 1).raise evLNE_PRBS_LOST sh [.w4 l])

/-! ## Sleep of one direction (R431) -/

/-- Whether a lane carries no logical lane in use (R431). -/
def State.laneUnused (s : State) (sh l : Nat) : Bool :=
  s.proto sh == 0 || s.proto sh == 3 || s.laneState sh l == 9 || (match s.laneLogical sh l with
    | none => true
    | some k => s.proto sh == 1 && decide (s.get (LNE_SHEET_STAT_WIDTH sh) < 8) && decide (4 ≤ k) && decide (k ≤ 6))

/-- A write of `LNE_CTL` (R417, R431). -/
def State.laneCtlWrite (s : State) (sh l : Nat) (w : Wr) : State :=
  let old := s.rn (LNE_CTL sh l)
  let new := merged old w
  let on := s.isSet (LNE_SHEET_CTL_START sh)
  let locked : List (Nat × Nat) := [(29, 29), (21, 16), (15, 11), (10, 6), (5, 4)]
  let busy := on && locked.any (fun f => bits new f.1 f.2 != bits old f.1 f.2)
  let w1 := if on then locked.foldl (fun (w : Wr) f => Wr.keep w old f.1 f.2) w else w
  let rise := (bit new 31 && !bit old 31) || (bit new 30 && !bit old 30)
  let refuse := rise && !s.laneUnused sh l
  let keep := fun (b : Nat) => refuse && bit new b && !bit old b
  let retired := s.laneState sh l = 9
  let w2 := if keep 31 || retired then Wr.keep w1 old 31 31 else w1
  let w3 := if keep 30 || retired then Wr.keep w2 old 30 30 else w2
  let s1 := s.mergeRaw (LNE_CTL sh l).key w3
  let s2 := if busy || refuse then s1.raise evLNE_CFG_BUSY sh [.w4 l] else s1
  let s3 := if refuse then s2.raise evLNE_DIR_SLEEP_REFUSED sh [.w4 l] else s2
  let off := s3.isSet (LNE_CTL_TX_SLEEP sh l) && s3.isSet (LNE_CTL_RX_SLEEP sh l)
  let s4 := if retired then s3 else if off then s3.put (LNE_STAT_STATE sh l) 0
    else if s3.laneState sh l = 0 then s3.put (LNE_STAT_STATE sh l) 1 else s3
  if s4.isSet (LNE_CTL_RX_SLEEP sh l) then (s4.put (LNE_STAT_LOS sh l) 0).put (LNE_STAT_LOL sh l) 0 else s4

/-- LANE_SLEEP_WRITE (R431): a write of `LNE_CTL`. -/
def execLaneSleepWrite (sh l : Nat) (w : Wr) (s : State) : Host.Outcome State Fault Refusal :=
  .next (s.pfOnly w (0x301000 + 0x4000 * sh + 0x200 * l) (fun s => if sh < 40 && l ≤ 8 then s.laneCtlWrite sh l w else s))

/-! ## Attempts of a Spaxa link (R448) -/

/-- TRAIN_ATTEMPT_TIMEOUT (R448): the attempt has not reached TS2 within `PARTNER_TO` ms of its start. -/
def execTrainAttemptTimeout (sh : Nat) (s : State) : Host.Outcome State Fault Refusal :=
  let t := (s.lnk sh).trn
  if s.proto sh ≠ 2 || s.lstate sh ≠ 1 || !s.sheetAwake sh || 2 ≤ t.phase || t.waiting
      || s.mt < t.since + ((s.get (SPX_TRAIN_PARTNER_TO sh) * mtMs : Nat) : Int) then .next s
  else
    let s1 := if t.heard || t.absentSaid then s
      else
        let x := s.lnk sh
        ((s.setLnk sh { x with trn := { t with absentSaid := true } }).put (SPX_STAT_ABSENT_SEEN sh) 1).raise evSPX_PARTNER_ABSENT sh
    if s.sheetState sh = 1 then
      let low := (s.mapped sh).foldl (fun a l => min a (s.laneState sh l)) 6
      .next (s1.bringupFail sh (low - 1))
    else .next (s1.attemptFails sh)

/-- The wait after the n-th consecutive failed attempt (R448), in ms. -/
def State.backoff (s : State) (sh n : Nat) : Nat :=
  min (2 ^ (n - 1) * s.get (SPX_TRAIN_BACKOFF_MIN sh)) (s.get (SPX_TRAIN_BACKOFF_MAX sh))

/-- TRAIN_BACKOFF_END (R448): the backoff ends, and a new attempt starts. -/
def execTrainBackoffEnd (sh : Nat) (s : State) : Host.Outcome State Fault Refusal :=
  let t := (s.lnk sh).trn
  if !t.waiting || s.lstate sh ≠ 1 || !s.sheetAwake sh || s.mt < t.since + ((s.backoff sh t.fails * mtMs : Nat) : Int) then .next s
  else
    let s1 := s.linkRetry sh
    .next (if s.sheetState sh = 1 then s1.startAttempt sh else s1)

/-! ## Exchanges (R458 to R461) -/

/-- Take the oldest control message of a link if it is of one kind. -/
def State.takeCtl (s : State) (sh msg : Nat) : Option (List Byte × State) :=
  let x := s.lnk sh
  match x.rx.ctl with
  | [] => none
  | m :: r => if leNat (m.take 1) = msg then some (m, (s.setLnk sh { x with rx := { x.rx with ctl := r } }).relCtrl sh) else none

/-- Whether data flits wait to be sent or acknowledged. -/
def State.dataWaits (s : State) (sh : Nat) : Bool :=
  (mapGet [] sh s.spxTx).any (fun f => f.type != 0x20) || (s.lnk sh).tx.out.any (fun f => f.flit.type != 0x20)

/-- Answer a claim (R460, R461). -/
def State.answerClaim (s : State) (sh kind tag lane : Nat) : State :=
  let x := s.lnk sh
  let e : Exchange := { kind := kind, ours := false, tag := tag, lane := lane, granted := true }
  if kind = 1 then
    if s.spareFree sh && s.lanePhys sh lane ≠ 15 then
      (((s.setLnk sh { x with xchg := some e }).showXchg sh).sendCtrl sh 2 1 tag 0 lane 0).wakeSpare sh 2
    else s.sendCtrl sh 3 1 tag 2 lane 0
  else if !s.isSet (SPX_CTL_DOZE_EN sh) then s.sendCtrl sh 3 kind tag 3 lane 0
  else if s.dataWaits sh then s.sendCtrl sh 3 kind tag 4 lane 0
  else (((s.setLnk sh { x with xchg := some e }).showXchg sh).sendCtrl sh 2 2 tag 0 0 0).switchNow sh

/-- An own claim that was withdrawn is issued again once no exchange runs (R459). -/
def State.claimAgain (s : State) (sh : Nat) : State :=
  let x := s.lnk sh
  match x.again, x.xchg with
  | some a, none => (s.setLnk sh { x with again := none }).claim sh a
  | _, _ => s

/-- CLAIM_RX (R458, R459): a claim that stands and is refused ends its exchange at once, so that the claim withdrawn for it is issued again. -/
def execClaimRx (sh : Nat) (s : State) : Host.Outcome State Fault Refusal :=
  match s.takeCtl sh 1 with
  | none => .next s
  | some (m, s1) =>
    let kind := flitAt m 1 1
    let tag := flitAt m 2 2
    let lane := flitAt m 9 1
    let x := s1.lnk sh
    match x.xchg with
    | none => .next (s1.answerClaim sh kind tag lane)
    | some e =>
      if e.granted || !e.ours then .next (s1.sendCtrl sh 3 kind tag 1 lane 0)
      else if s1.hostRole sh || s1.rn SYS_HUB_ID < flitAt m 4 4 then .next s1
      else .next (((s1.setLnk sh { x with xchg := none, again := some { e with granted := false } }).answerClaim sh kind tag lane).claimAgain sh)

/-- GRANT_RX (R458): the exchange has the turn token. -/
def execGrantRx (sh : Nat) (s : State) : Host.Outcome State Fault Refusal :=
  match s.takeCtl sh 2 with
  | none => .next s
  | some (m, s1) =>
    let x := s1.lnk sh
    match x.xchg with
    | none => .next s1
    | some e =>
      if !e.ours || e.granted || e.tag ≠ flitAt m 2 2 then .next s1
      else
        let s2 := s1.setLnk sh { x with xchg := some { e with granted := true } }
        .next (if e.kind = 1 then s2.wakeSpare sh 2 else s2.switchNow sh)

/-- REFUSE_RX (R458): after its GRANT, the partner refuses because its own spare has failed a stage (R460). -/
def execRefuseRx (sh : Nat) (s : State) : Host.Outcome State Fault Refusal :=
  match s.takeCtl sh 3 with
  | none => .next s
  | some (m, s1) => match (s1.lnk sh).xchg with
    | none => .next s1
    | some e => .next (if e.ours && e.tag = flitAt m 2 2 then s1.xchgFail sh 1 (if e.granted then 7 else 6) else s1)

/-- DONE_RX (R458, R459): the partner returns the token; an own claim that was withdrawn is issued again. -/
def execDoneRx (sh : Nat) (s : State) : Host.Outcome State Fault Refusal :=
  match s.takeCtl sh 4 with
  | none => .next s
  | some (_, s1) =>
    let x := s1.lnk sh
    let s2 := match x.xchg with
      | some e => if !e.ours && e.txAt.isNone then
          (let y := (s1.setLnk sh { x with xchg := none }).showXchg sh
           if e.kind = 1 then y.spareSleep sh else y) else s1
      | none => s1
    .next (s2.claimAgain sh)

/-- SPARE_READY_RX (R460): the partner's spare receiver is aligned. -/
def execSpareReadyRx (sh : Nat) (s : State) : Host.Outcome State Fault Refusal :=
  match s.takeCtl sh 5 with
  | none => .next s
  | some (_, s1) =>
    let x := s1.lnk sh
    match x.xchg with
    | none => .next s1
    | some e =>
      let s2 := s1.setLnk sh { x with xchg := some { e with pready := true } }
      .next (if e.kind = 1 && e.ready && e.txAt.isNone then s2.switchNow sh else s2)

/-- The block counter that a 17-bit `BC` names, at or after the next one expected. -/
def bcFrom (now low : Nat) : Nat := now + (low + 131072 - now % 131072) % 131072

/-- SWITCH_RX (R460, R461): the block from which the partner's lane moves, or its width is 1. -/
def execSwitchRx (sh : Nat) (s : State) : Host.Outcome State Fault Refusal :=
  match s.takeCtl sh 6 with
  | none => .next s
  | some (m, s1) =>
    let x := s1.lnk sh
    match x.xchg with
    | none => .next s1
    | some e => .next (s1.setLnk sh { x with xchg := some { e with rxAt := some (bcFrom x.rx.bc (flitAt m 12 4 % 131072)) } })

/-- RESTORE_RX (R461): the block from which the partner transmits at full width. -/
def execRestoreRx (sh : Nat) (s : State) : Host.Outcome State Fault Refusal :=
  match s.takeCtl sh 7 with
  | none => .next s
  | some (m, s1) =>
    let x := s1.lnk sh
    .next (if s1.lstate sh = 3 then s1.setLnk sh { x with resRx := some (bcFrom x.rx.bc (flitAt m 12 4 % 131072)) } else s1)

/-- XCHG_TIMEOUT (R458): a claim has had no answer for `XCHG_TO` ms. -/
def execXchgTimeout (sh : Nat) (s : State) : Host.Outcome State Fault Refusal :=
  match (s.lnk sh).xchg with
  | none => .next s
  | some e => .next (if e.ours && !e.granted && decide (e.since + ((s.get (SPX_TIMER_XCHG_TO sh) * mtMs : Nat) : Int) ≤ s.mt)
      then s.xchgFail sh 2 6 else s)

/-- DOZE_IDLE (R461): no data flit has been sent for `IDLE` µs. -/
def execDozeIdle (sh : Nat) (s : State) : Host.Outcome State Fault Refusal :=
  let x := s.lnk sh
  if s.isSet (SPX_CTL_DOZE_EN sh) && s.lstate sh = 2 && s.sheetAwake sh && x.xchg.isNone && !s.dataWaits sh
      && decide (x.tx.sinceData + ((s.get (SPX_DOZE_IDLE sh) * mtUs : Nat) : Int) ≤ s.mt) then
    .next (s.claim sh { kind := 2, ours := true, tag := 0 })
  else .next s

/-! ## Transmitting (R440, R446, R460, R461) -/

/-- Both directions have moved: lane k is on the spare, or the link dozes; both are restored: the link is ACTIVE. -/
def State.xchgSettle (s : State) (sh : Nat) : State :=
  let x := s.lnk sh
  let others := fun (s : State) => (s.mapped sh).filter (fun l => l != s.lanePhys sh 0)
  match x.xchg with
  | some e =>
    if e.txDone && e.rxDone then
      let s1 := if e.kind = 1 then (s.put (LNE_STAT_STATE sh 8) 7).spareIn sh e.lane e.policy
        else (others s).foldl (fun (s : State) l => s.put (LNE_STAT_STATE sh l) 0) (s.put (SPX_STAT_LSTATE sh) 3)
      let s2 := if e.kind = 1 && e.ours then
          (match e.action with
            | some a => (s1.put (LNE_SHEET_STAT_CODE sh) 0).finishCmd a 0 []
            | none => s1.put (LNE_SHEET_STAT_CODE sh) 0)
        else s1
      if e.ours then s2.xchgDone sh else ((s2.setLnk sh { s2.lnk sh with xchg := none }).put (SPX_STAT_XCODE sh) 0).showXchg sh
    else s
  | none =>
    if x.resTxDone && x.resRxDone then
      let s1 := s.setLnk sh { x with resTx := none, resRx := none, resTxDone := false, resRxDone := false, woken := [],
                                     tx := { x.tx with wake := false } }
      (others s1).foldl (fun (s : State) l => s.put (LNE_STAT_STATE sh l) 7) (s1.put (SPX_STAT_LSTATE sh) 2)
    else s

/-- In DOZE, a sequenced flit to send or `DOZE_EN` = 0 sets WAKE; with WAKE the sleeping lanes wake (R461). -/
def State.dozeWake (s : State) (sh : Nat) : State :=
  if s.lstate sh ≠ 3 then s
  else
    let x := s.lnk sh
    let s1 := if !x.tx.wake && (!(mapGet [] sh s.spxTx).isEmpty || !s.isSet (SPX_CTL_DOZE_EN sh)) then
        s.setLnk sh { x with tx := { x.tx with wake := true } } else s
    if (s1.lnk sh).tx.wake then
      (s1.mapped sh).foldl (fun (s : State) l => if s.laneState sh l = 0 then s.stageTo sh 2 l else s) s1
    else s1

/-- The training sets beside the data blocks: on the spare with the identity of the lane that it takes (R460), and on the lanes that
wake from DOZE, with TS3 once they are ALIGNED (R461). -/
def State.sendAside (s : State) (sh : Nat) : State :=
  match (s.lnk sh).xchg with
  | some e => if e.kind = 1 && e.granted && !e.txDone then s.emit (.training sh 8 (s.trainBytes sh e.lane 1)) else s
  | none =>
    if s.lstate sh = 3 && (s.lnk sh).tx.wake && !(s.lnk sh).resTxDone then
      (List.range (s.get (LNE_SHEET_STAT_WIDTH sh))).foldl (fun (s : State) k =>
        let l := s.lanePhys sh k
        if k ≠ 0 && 2 ≤ s.laneState sh l && s.laneState sh l ≤ 6 then
          s.emit (.training sh (s.txPhys sh k) (s.trainBytes sh k (if s.laneState sh l = 6 then 3 else 1)))
        else s) s
    else s

/-- BLOCK_TX (R440, R446, R460, R461): this end transmits a block, its first bit captured in decoder bin `i`; in TRAIN a
training block on each lane, and the sixteenth with TS3 makes the link ACTIVE. Beams whose partials the link has held go on (R234). -/
def execBlockTx (sh i : Nat) (s : State) : Host.Outcome State Fault Refusal :=
  let x := s.lnk sh
  if !s.sheetAwake sh || s.lstate sh = 0 then .next s
  else if s.lstate sh = 1 then
    if x.tx.retrain then
      let s1 := s.sendBlock sh (s.bcnMt sh i)
      let y := s1.lnk sh
      .next (s1.setLnk sh { y with tx := { y.tx with retrain := false } })
    else
      let s1 := s.sendTraining sh
      if x.trn.phase = 3 then
        let n := x.trn.sent + 1
        let s2 := s1.setLnk sh { x with trn := { x.trn with sent := n } }
        let all := (List.range (s.get (LNE_SHEET_STAT_WIDTH sh))).all (fun k => x.trn.ts3.contains k)
        .next (if 16 ≤ n && all && s.sheetState sh = 2 then s2.linkUpNow sh else s2)
      else .next s1
  else .next (((((s.dozeWake sh).sendAside sh).sendBlock sh (s.bcnMt sh i)).xchgSettle sh).beamsResume sh)

/-! ## Writes of the link's registers (R472) -/

/-- A write of `SPX_CTL[s]`: `ROLE` and `REPLAY_MAX` are fixed while `START` = 1. -/
def State.spxCtlWrite (s : State) (sh : Nat) (w : Wr) : State :=
  let old := s.rn (SPX_CTL sh)
  let new := merged old w
  if s.isSet (LNE_SHEET_CTL_START sh) then
    let s1 := s.mergeRaw (SPX_CTL sh).key (Wr.keep (Wr.keep w old 31 30) old 27 24)
    if bits new 31 30 ≠ bits old 31 30 || bits new 27 24 ≠ bits old 27 24 then s1.raise evLNE_CFG_BUSY sh else s1
  else s.mergeRaw (SPX_CTL sh).key w

/-! ## Power (R432) -/

/-- The domain of a sheet closes and switches off (R432). -/
def State.sheetSleep (s : State) (sh : Nat) : State := (s.sheetStop sh).put (LNE_SHEET_STAT_ASLEEP sh) 1

/-- Forget the epoch of a link whose domain has been switched off (R447). -/
def State.linkForget (s : State) (sh : Nat) : State := { s with links := mapPut {} sh {} s.links }

/-- The domain of a sheet wakes DOWN with `START` = 0 (R432). -/
def State.sheetWake (s : State) (sh : Nat) : State := s.put (LNE_SHEET_STAT_ASLEEP sh) 0

end Sys2Proof.Machine
end

