-- ==== Sys2Proof/Machine/Power.lean ====
section
/-! DEFINITION. Power domains: in-use rules, the drain protocol, waking; and the spares of engines, slots and control cores (R626 to
R645). -/
namespace Sys2Proof.Machine

/-! ## In-use rules (R135, R160, R277, R343, R361, R432, R630) -/

/-- Whether a slot that is BOUND or PENDING satisfies `p`. -/
def State.anySlot (s : State) (p : Nat → Bool) : Bool := s.slots.any (fun e => e.2.on && p e.1)

/-- Whether any beam is on or pending (`BFM_BSTAT.STATE`). -/
def State.anyBeam (s : State) : Bool :=
  s.beams.any (fun e => e.2.on) || s.staged.any (fun x => match x.unit with
    | .beam _ => true
    | _ => false)

/-- Whether a queue holds a plot of a tier. -/
def State.tierHeld (s : State) (tier : Nat) : Bool :=
  s.quesOn.any (fun q => (s.que q).chain.any (fun p => p != holePlot && plotTier p == tier))

/-- Whether a staged or a settling change enables an excitation output: PENDING counts as in use (R637). -/
def State.excPending (s : State) : Bool :=
  let on : SVal → Bool := fun v => (List.range 32).any (fun q => v.key == (SFE_EXC_CTL q).key && bit v.mask 31 && bit v.val 31)
  s.staged.any (fun x => x.unit == .fe && x.vals.any on) || s.fe.waits.any (fun x => x.vals.any on)

/-- Whether the in-use rule of domain d refuses a power-down. -/
def State.domainInUse (s : State) (d : Nat) : Bool :=
  if d < 24 then s.anySlot (fun n => s.get (CHP_SRC_TYPE n) == 1 && inputGroup (s.get (CHP_SRC_INDEX n)) == d)
  else if d < 64 then
    let sh := d - 24
    let chains := fun (v : Nat) => bit v 31 && bits v 30 25 == sh
    (s.get TB_DISC_SRC == 2 && s.get TB_DISC_SHEET == sh)
      || s.anySlot (fun n => s.get (CHP_SRC_TYPE n) == 2 && s.get (CHP_SRC_SHEET n) == sh)
      || s.beams.any (fun e => (s.beamCfgs e.1).any (fun c => c.en && (chains (c.w 4) || chains (c.w 5))))
  else if d < 81 then
    (List.range 4).any (fun i =>
      let p := 4 * (d - 64) + i
      (s.get (PWR_ENG_STATE p) == 1 && s.armed 1)
        || (s.get (PWR_ENG_LOGICAL p) != 0x3F && s.anySlot (fun n => n / 16 == s.get (PWR_ENG_LOGICAL p))))
  else if d = 81 then s.anyBeam
  else if d < 84 then
    (List.range 8).any (fun i => s.get (CMP_ENG_STREAMS (8 * (d - 82) + i)) != 0)
      || (List.range 2).any (fun i => s.isSet (CMP_DX_BUSY (2 * (d - 82) + i)))
  else if d < 90 then
    s.tierHeld 0 || !s.ring.tiles.isEmpty || s.isSet TRG_RING_CTL_EN || s.anySlot (fun _ => true) || s.anyBeam || s.isRoot
  else if d = 90 then (List.range 32).any (fun q => s.fget (SFE_EXC_CTL_EN q) == 1) || s.excPending
  else if d = 91 then s.feState != 0
  else if d = 92 then s.linkUp && s.functions.any (fun fn => (s.func fn).bme)
  else if d = 93 then s.anySlot (fun n => s.get (CHP_SRC_TYPE n) == 1) || s.get TB_DISC_SRC == 1 || s.get TB_DISC_SRC == 2
  else if d = 94 then
    s.mgb.running || (List.range 32).any (fun n => s.get (MGB_SIG_STAT_PIN n) != s.get (MGB_SIG_CFG_LEVEL n)
      || !(s.sig n).edges.isEmpty || s.get (MGB_SIG_CFG_MODE n) == 2 || s.trgDrives n)
  else if d = 95 then
    (s.tierHeld 1 && s.sharedPool 0 == 0) || s.quesOn.any (fun q => s.get (QUE_CFG0_TIER q) == 2)
  else true

/-! ## Requests (R628) -/

/-- The roundabouts of a domain (R406). -/
def domainArbs (d : Nat) : List Nat :=
  if 24 ≤ d && d < 64 then [d - 24 + 9]
  else if 84 ≤ d && d < 90 then [d - 84]
  else if d = 92 then [50] else if d = 94 then [66] else if d = 95 then [6, 8] else []

/-- The items in the post queues that lead into domain d are discarded and counted, as `REFUSE` = 1 asks (R631). No command shows
what those queues hold, so their number is free (log entry 72). -/
def State.refuseItems (s : State) (d : Nat) : State :=
  let r := s.draw (2 ^ 32)
  r.2.bump (PWR_DOM_REF d) r.1

/-- A request to power domain d down: its code (R628). -/
def State.pwrDown (s : State) (d : Nat) : Nat × State :=
  if s.get (PWR_DOM_STATE d) ≠ 0 then (2, s.put (PWR_DOM_CODE d) 2)
  else if s.domainInUse d then (1, s.put (PWR_DOM_CODE d) 1)
  else
    let s1 := ((s.put (PWR_DOM_CODE d) 0).put (PWR_DOM_STATE d) 1).domStamp d
    (0, if s1.isSet (PWR_DOM_REFUSE d) then s1.refuseItems d else s1)

/-- A request to wake domain d: its code. TIM calibrates every core before it is awake (R635). -/
def State.pwrUp (s : State) (d : Nat) : Nat × State :=
  if s.get (PWR_DOM_STATE d) ≠ 2 then (2, s.put (PWR_DOM_CODE d) 2)
  else
    let s1 := ((s.put (PWR_DOM_CODE d) 0).put (PWR_DOM_STATE d) 3).domStamp d
    (0, if d = 93 then (List.range 18).foldl (fun (s : State) p => s.coreStart p false) s1 else s1)

/-- A write of `PWR_DOM[d]` (R628): both requests at once leave it unchanged. -/
def State.pwrDomWrite (s : State) (d : Nat) (w : Wr) : State :=
  if w.hits 31 && w.hits 30 then s.raise evSYS_ACCESS_VALUE w.fn
  else
    let s1 := s.mergeRaw (PWR_DOM d).key w
    if w.hits 31 then (s1.pwrDown d).2 else if w.hits 30 then (s1.pwrUp d).2 else s1

/-- PWR_DOWN (R628, R629): a write of `PWR_DOM[d]`. -/
def execPwrDown (d : Nat) (w : Wr) (s : State) : Host.Outcome State Fault Refusal :=
  .next (s.pfOnly w (0x10100 + 4 * d) (fun s => if d ≤ 96 then s.pwrDomWrite d w else s))

/-- PWR_UP (R628, R635): a write of `PWR_DOM[d]`. -/
def execPwrUp (d : Nat) (w : Wr) (s : State) : Host.Outcome State Fault Refusal :=
  .next (s.pfOnly w (0x10100 + 4 * d) (fun s => if d ≤ 96 then s.pwrDomWrite d w else s))

/-! ## Draining (R629 to R632) -/

/-- The open command of an opcode that names a domain in its first parameter byte completes. -/
def State.finishDomain (s : State) (op d status : Nat) : State :=
  match s.cmds.find? (fun c => c.op == op && Packet.arg c.pkt 0 1 == d) with
  | some c => s.finishCmd c.action status []
  | none => s

/-- The pager copies a near plot of a queue to far, where a far plot can be granted (R361). -/
def State.pageFar (s : State) (q id : Nat) : State :=
  if s.sharedPool 0 = 0 || s.copies.any (fun c => c.old == id) then s
  else
    let b := s.get (QUE_CFG0_BOROUGH q)
    match s.takePlot 0 (s.plot id).kind q b false with
    | (none, s1) => s1
    | (some new, s1) =>
      let s2 := s1.setPlot new { s1.plot new with fill := (s1.plot id).fill }
      let x := s2.que q
      ((s2.setQue q { x with chain := x.chain.map (fun p => if p = id then new else p) }).freePlot id).showQue q

/-- The pager copies every near plot to far. -/
def State.pageAll (s : State) : State :=
  s.quesOn.foldl (fun (s : State) q =>
    ((s.que q).chain.filter (fun p => p != holePlot && plotTier p == 1)).foldl (fun (s : State) p => s.pageFar q p) s) s

/-- What switching domain d off does to its units. -/
def State.domainOff (s : State) (d : Nat) : State :=
  if d < 24 then s.groupAsleep d
  else if d < 64 then (s.sheetSleep (d - 24)).linkForget (d - 24)
  else if d < 82 then s
  else if d < 84 then
    let b := d - 82
    let s1 := (List.range 8).foldl (fun (s : State) i => s.put (CMP_ENG_STATE (8 * b + i)) 1) s
    let s2 := (List.range 2).foldl (fun (s : State) i => s.put (CMP_DX_ASLEEP (2 * b + i)) 1) s1
    s2.put (if b = 0 then CMP_STAT_BANK0_ASLEEP else CMP_STAT_BANK1_ASLEEP) 1
  else if 84 ≤ d && d < 90 then s.put ⟨CLK_STAT, d - 64, d - 64⟩ 0
  else if d = 90 then (List.range 32).foldl State.excOff s
  else if d = 92 then (if s.linkUp then s.functions.foldl State.flrState { s with linkUp := false } else s)
  else if d = 94 then { s with pulses := s.pulses.filter (fun p => decide (p.pin < 32)) }
  else if d = 95 then s.put PLT_STAT_NEAR_ASLEEP 1
  else s

/-- Domain d is clamped and switched off (R629). -/
def State.domainAsleep (s : State) (d : Nat) : State :=
  (domainArbs d).foldl (fun (s : State) k => s.arbSleep k) ((s.domainOff d).put (PWR_DOM_STATE d) 2)

/-- Whether the work inside domain d has left it (R629): the slots of an engine group and the beams have ended their output, the
compressors and decompressors of a bank stand still, and no near plot is held. -/
def State.domDrained (s : State) (d : Nat) : Bool :=
  if 64 ≤ d && d < 81 then
    !(List.range 4).any (fun i =>
      let l := s.get (PWR_ENG_LOGICAL (4 * (d - 64) + i))
      l != 0x3F && s.slots.any (fun e => e.2.run && e.1 / 16 == l))
  else if d = 81 then !s.beams.any (fun e => e.2.run)
  else if d = 82 || d = 83 then !s.domainInUse d
  else if d = 95 then !s.tierHeld 1
  else true

/-- DRAIN_COMPLETE (R629): the drain of domain d has finished. -/
def execDrainComplete (d : Nat) (s : State) : Host.Outcome State Fault Refusal :=
  if s.get (PWR_DOM_STATE d) ≠ 1 then .next s
  else
    let s1 := if d = 95 then s.pageAll else s
    if !s1.domDrained d then .next s1
    else .next (((s1.domainAsleep d).raise evPWR_DOMAIN_DOWN d).finishDomain 0x1001 d 0)

/-- DRAIN_TIMEOUT (R632): the drain of domain d is abandoned after 100 ms. -/
def execDrainTimeout (d : Nat) (s : State) : Host.Outcome State Fault Refusal :=
  if s.get (PWR_DOM_STATE d) ≠ 1 || !s.domPassed d 100000 then .next s
  else
    let s1 := (((s.put (PWR_DOM_STATE d) 0).refusedEnd d).put (PWR_DOM_CODE d) 3).put PWR_STAT_DRAIN_FAIL_SEEN 1
    .next ((s1.raise evPWR_DRAIN_FAIL d).finishDomain 0x1001 d 0x781)

/-! ## Waking (R634 to R636) -/

/-- What waking domain d does to its units. -/
def State.domainOn (s : State) (d : Nat) : State :=
  if d < 24 then s.groupWake d
  else if d < 64 then s.sheetWake (d - 24)
  else if d < 82 then s
  else if d < 84 then
    let b := d - 82
    let s1 := (List.range 8).foldl (fun (s : State) i => s.put (CMP_ENG_STATE (8 * b + i)) 0) s
    let s2 := (List.range 2).foldl (fun (s : State) i => s.put (CMP_DX_ASLEEP (2 * b + i)) 0) s1
    (s2.put (if b = 0 then CMP_STAT_BANK0_ASLEEP else CMP_STAT_BANK1_ASLEEP) 0).dxFill
  else if 84 ≤ d && d < 90 then s.put ⟨CLK_STAT, d - 64, d - 64⟩ 1
  else if d = 90 then (List.range 32).foldl (fun (s : State) q => s.excApply s.mt q) s
  else if d = 91 then
    { (s.put PCV_REFCTL_REF_EN 0).put PCV_REFCTL_REF_OK 0 with fe := { s.fe with refOkAt := none } }
  else if d = 95 then s.put PLT_STAT_NEAR_ASLEEP 0
  else s

/-- Domain d is awake again (R635). -/
def State.domainAwake (s : State) (d : Nat) : State :=
  (domainArbs d).foldl (fun (s : State) k => s.arbWake k) (((s.put (PWR_DOM_STATE d) 0).refusedEnd d).domainOn d)

/-- WAKE_COMPLETE (R635): domain d is powered up; TIM once its cores are calibrated. -/
def execWakeComplete (d : Nat) (s : State) : Host.Outcome State Fault Refusal :=
  if s.get (PWR_DOM_STATE d) ≠ 3 || (d = 93 && (List.range 18).any (fun p => s.isSet (TIM_CORE_STAT_RUNNING p))) then .next s
  else .next (((s.domainAwake d).raise evPWR_DOMAIN_UP d).finishDomain 0x1002 d 0)

/-- The wake time of a domain in µs (R626). -/
def wakeTime (d : Nat) : Nat :=
  if d < 24 then 200 else if d < 64 then 100 else if d < 81 then 50 else if d = 81 then 100
  else if 84 ≤ d && d < 90 then 1000 else if d = 92 then 100000 else if d = 93 then 12000 else 50

/-- WAKE_TIMEOUT (R636): domain d is not awake within twice its wake time. -/
def execWakeTimeout (d : Nat) (s : State) : Host.Outcome State Fault Refusal :=
  if s.get (PWR_DOM_STATE d) ≠ 3 || !s.domPassed d (2 * wakeTime d) then .next s
  else
    let s1 := ((s.put (PWR_DOM_STATE d) 2).put (PWR_DOM_CODE d) 2).put PWR_STAT_WAKE_FAIL_SEEN 1
    .next ((s1.raise evPWR_WAKE_FAIL d).finishDomain 0x1002 d 0x780)

/-! ## Engines (R639) -/

/-- The bound slots of a logical engine. -/
def State.engineSlots (s : State) (l : Nat) : List Nat :=
  (s.slots.filter (fun e => e.2.on && e.2.waits != 1 && e.1 / 16 == l)).map (fun e => e.1)

/-- Slot n is retired; bound, it is marked dead at its next frame boundary, with a pending bind at that of the bind (R639). -/
def State.slotRetire (s : State) (n : Nat) : State :=
  let s0 : State := { s with retiredSlots := if s.retiredSlots.contains n then s.retiredSlots else n :: s.retiredSlots,
                             failingSlots := s.failingSlots.filter (fun m => m != n) }
  let s1 := s0.wearCheck 2 n
  let x := s1.slot n
  let g := x.boundGrid
  let k := match s1.bindIndex n with
    | none => s1.hubIndex (.slot n) (s1.boundaryAt g s1.mt)
    | some i => i
  if x.on then
    s1.stage ⟨.slot n, g, k, hubAction, [⟨(CHP_CTL n).key, setBits 0 (CHP_CTL_DEAD n).hi
      (CHP_CTL_DEAD n).lo 1, setBits 0 (CHP_CTL_DEAD n).hi (CHP_CTL_DEAD n).lo 1⟩], .fields⟩
  else s1

/-- A substitution whose bound slots have all restarted completes: the failing engine is retired, SPARE_USED. -/
def State.engSwapDone (s : State) (x : EngSwap) : State :=
  let l := s.get (PWR_ENG_LOGICAL x.new)
  let s1 := (({ s with engSwaps := s.engSwaps.filter (fun y => y != x) } : State).put (PWR_ENG_STATE x.old) 3).put
    (PWR_ENG_LOGICAL x.old) 0x3F
  (s1.useSpare 1 x.old).raise evPWR_SPARE_USED x.old ([.w4 1] ++ (if x.policy then
    [.w4 evPWR_ENG_FAIL.code, .w4 x.old, .w4 x.new] else [.w4 l, .w4 x.new])) 0 x.policy x.policy

/-- Substitute the failing engine p (R639): the spare takes its slots, the bound ones at the next frame boundaries of their grids;
without a spare the logical engine is retired. -/
def State.engSubstitute (s : State) (p : Nat) (policy : Bool) : State :=
  let l := s.get (PWR_ENG_LOGICAL p)
  match (List.range 4).find? (fun i => s.get (PWR_ENG_STATE (64 + i)) == 1) with
  | some i =>
    if !s.awake 80 then s
    else
      let x : EngSwap := ⟨p, 64 + i, policy, s.engineSlots l⟩
      let s1 := (s.put (PWR_ENG_STATE (64 + i)) 0).put (PWR_ENG_LOGICAL (64 + i)) l
      let s2 : State := { s1 with engSwaps := s1.engSwaps ++ [x] }
      if x.slots.isEmpty then s2.engSwapDone x
      else x.slots.foldl (fun (s : State) n =>
        let g := (s.slot n).grid
        s.stage ⟨.slot n, g, s.hubIndex (.slot n) (s.boundaryAt g s.mt), hubAction, [], .restart⟩) s2
  | none =>
    let s0 := s.put (PWR_ENG_STATE p) 3
    let s1 := if policy then s0.policyLog evPWR_ENG_FAIL p (policyDetail 1 evPWR_ENG_FAIL.code p 65535) else s0
    (List.range 16).foldl (fun (s : State) i => s.slotRetire (16 * l + i)) s1

/-- Engine p is found failing (R639). -/
def State.engFail (s : State) (p : Nat) : State :=
  if s.get (PWR_ENG_STATE p) ≠ 0 then s
  else
    let s1 := (s.put (PWR_ENG_STATE p) 2).raise evPWR_ENG_FAIL p
    let s2 := if (List.range 4).any (fun i => s1.get (PWR_ENG_STATE (64 + i)) == 1) then s1 else s1.spareExhausted 1 p
    if s2.armed 1 then s2.engSubstitute p true else s2

/-- ENG_FAIL (R639): an error of engine p: a corrected one, of which more than 64 in an hour make it failing, or a residue mismatch
or an uncorrectable one. -/
def execEngFail (p : Nat) (corrected : Bool) (s : State) : Host.Outcome State Fault Refusal :=
  if !corrected then .next (s.engFail p)
  else
    let h := s.mt / (3600 * mtSec : Int)
    let x : EngErr := mapGet {} p s.engErrs
    let n := (if x.hour = h then x.n else 0) + 1
    let s1 := ({ s with engErrs := mapPut {} p ⟨h, n⟩ s.engErrs } : State).put (PWR_ENG_CORR p)
      (satAdd 16 (s.get (PWR_ENG_CORR p)) 1)
    .next (if 64 < n then s1.engFail p else s1)

/-! ## Slots (R640) -/

/-- The slot whose store a failing slot can take: the highest-numbered IDLE one of its engine without a source. -/
def State.spareSlot (s : State) (n : Nat) : Option Nat :=
  ((List.range 16).map (fun i => n / 16 * 16 + (15 - i))).find? (fun m => m != n && s.slotState m == 0
    && s.get (CHP_SRC_TYPE m) == 0 && !s.retiredSlots.contains m)

/-- Substitute the failing slot n (R640); without a spare it is retired. -/
def State.slotSubstitute (s : State) (n : Nat) (policy : Bool) : State :=
  match s.spareSlot n with
  | none =>
    (if policy then s.policyLog evPWR_SLOT_FAIL n (policyDetail 2 evPWR_SLOT_FAIL.code n 65535) else s).slotRetire n
  | some m =>
    let x := s.slot n
    let s1 : State := { s with retiredSlots := m :: s.retiredSlots, failingSlots := s.failingSlots.filter (fun k => k != n) }
    let s2 := if x.on && x.waits ≠ 1 then
        s1.stage ⟨.slot n, x.grid, s1.hubIndex (.slot n) (s1.boundaryAt x.grid s1.mt), hubAction, [], .restart⟩ else s1
    (s2.useSpare 2 n).raise evPWR_SPARE_USED n ([.w4 2] ++ (if policy then [.w4 evPWR_SLOT_FAIL.code, .w4 n, .w4 m] else [.w4 m]))
      0 policy policy

/-- SLOT_FAIL (R640): the history store of slot n returns an uncorrectable error. -/
def execSlotFail (n : Nat) (s : State) : Host.Outcome State Fault Refusal :=
  if 1024 ≤ n || s.retiredSlots.contains n || s.failingSlots.contains n then .next s
  else
    let s1 := ({ s with failingSlots := n :: s.failingSlots } : State).raise evPWR_SLOT_FAIL n
    let s2 := if (s1.spareSlot n).isNone then s1.spareExhausted 2 n else s1
    .next (if s2.armed 2 then s2.slotSubstitute n true else s2)

/-! ## Control cores (R641) -/

/-- A spare core takes the place of core k, which has been retired; without one the others carry on (R641), which a policy records
(R44). -/
def State.coreReplace (s : State) (k : Nat) (policy : Bool) : State :=
  match (List.range 5).find? (fun i => s.get (PWR_CORE_STATE i) == 1) with
  | none => if policy then s.policyLog evPWR_CORE_FAIL k (policyDetail 8 evPWR_CORE_FAIL.code k 65535) else s
  | some i => ((s.put (PWR_CORE_STATE i) 0).useSpare 8 k).raise evPWR_SPARE_USED k ([.w4 8] ++ (if policy then
      [.w4 evPWR_CORE_FAIL.code, .w4 k, .w4 i] else [.w4 i])) 0 policy policy

/-- Substitute the failing control core k (R641); without a spare it is retired. -/
def State.coreSubstitute (s : State) (k : Nat) (policy : Bool) : State := (s.put (PWR_CORE_STATE k) 3).coreReplace k policy

/-- CORE_FAIL (R641): the lockstep checker of core k finds a mismatch, or (`dog`) its watchdog expires, which makes it failing twice
in one minute; `run` is the command it was executing, which completes with CMD_ENGINE. -/
def execCoreFail (k : Nat) (dog : Bool) (run : Option Nat) (s : State) : Host.Outcome State Fault Refusal :=
  if 5 ≤ k || s.get (PWR_CORE_STATE k) ≠ 0 then .next s
  else
    let s1 := if dog then ({ s with coreDog := mapPut none k (some s.mt) s.coreDog } : State).put (PWR_CORE_WDOG k)
        (satAdd 16 (s.get (PWR_CORE_WDOG k)) 1) else s
    let twice := match mapGet none k s.coreDog with
      | some t => decide (s.mt ≤ t + ((60 * mtSec : Nat) : Int))
      | none => false
    if dog && !twice then .next s1
    else
      let s2 := (s1.put (PWR_CORE_STATE k) 2).raise evPWR_CORE_FAIL k
      let s3 := match run with
        | some a => s2.finishCmd a 0x11 []
        | none => s2
      let s4 := if s3.sparesLeft 8 = 0 then s3.spareExhausted 8 k else s3
      .next (if s4.armed 8 then s4.coreSubstitute k true else s4)

/-- Control cores in service. -/
def State.coresInService (s : State) : Nat := countIf (fun (k : Nat) => s.get (PWR_CORE_STATE k) == 0 || s.get (PWR_CORE_STATE k) == 2)
  (List.range 5)

end Sys2Proof.Machine
end

