-- ==== Sys2Proof/Machine/Startup.lean ====
section
/-! DEFINITION. Reset and start-up (chapter 25): power-on reset, the Falarn images, warm reset, and the clocks of the CLK block
(R663, R720, R721). -/
namespace Sys2Proof.Machine

/-! ## Falarn images (R655 to R658) -/

/-- A word of an image region: image 0 A, 1 B. -/
def State.imageWord (s : State) (img i : Nat) : Nat :=
  match mapGet none (2 ^ 20 * img + i) s.images with
  | some w => w.toNat
  | none => Config.factoryImage img i % 2 ^ 32

/-- Put a word of an image region. -/
def State.setImageWord (s : State) (img i : Nat) (w : Word) : State :=
  { s with images := mapPut none (2 ^ 20 * img + i) (some w) s.images }

/-- Bytes `from` to `from + n - 1` of an image region, where both are multiples of 4. -/
def State.imageBytes (s : State) (img start n : Nat) : List Byte :=
  ((List.range (ceilDiv n 4)).flatMap (fun i => leBytes 4 (s.imageWord img (start / 4 + i)))).take n

/-- Whether an image passes (R655). -/
def State.imageOk (s : State) (img : Nat) : Bool :=
  let h := fun i => s.imageWord img i
  let len := h 2
  h 0 == 0x4E524C46 && h 1 == 1 && decide (1 ≤ len) && decide (len ≤ 3145664) && decide (h 5 ≤ 0x20)
    && (List.range 9).all (fun i => h (6 + i) == 0)
    && h 15 == crc32c (s.imageBytes img 0 60 ++ s.imageBytes img 64 len)

/-- Show that no image runs (R656). -/
def State.fwNone (s : State) : State :=
  ((((s.put SYS_BOOT_RUN 0).put SYS_BOOT_FW 0).wn SYS_FW_VER 0).raise evSYS_NO_IMAGE)

/-- Start image `img`. -/
def State.fwRun (s : State) (img : Nat) : State :=
  (((({ s with start := { s.start with fwAt := s.mt } } : State).put SYS_BOOT_RUN (img + 1)).put SYS_BOOT_FW 1).wn SYS_FW_VER
    (s.imageWord img 4))

/-- An image is found bad. -/
def State.imageBad (s : State) (img : Nat) : State := s.raise evSYS_IMAGE_BAD img [.w4 img]

/-- Choose the image to run and start it (R656). -/
def State.fwStart (s : State) : State :=
  let a := s.imageOk 0
  let b := s.imageOk 1
  let p := s.get SYS_BOOT_PREFER
  let s1 := ((s.put SYS_BOOT_A_OK (b2n a)).put SYS_BOOT_B_OK (b2n b))
  let s2 : State := { s1 with start := { s1.start with second := false } }
  if a && b then
    s2.fwRun (if p = 1 then 0 else if p = 2 then 1 else if s.imageWord 0 3 < s.imageWord 1 3 then 1 else 0)
  else if a then (if p = 0 then s2 else s2.imageBad 1).fwRun 0
  else if b then (if p = 0 then s2 else s2.imageBad 0).fwRun 1
  else s2.fwNone

/-- FW_RUNNING (R656): the started image reports running. -/
def execFwRunning (s : State) : Host.Outcome State Fault Refusal :=
  .next (if s.get SYS_BOOT_FW = 1 then s.put SYS_BOOT_FW 2 else s)

/-- FW_WATCHDOG (R656): the started image has not reported running within 500 ms: the other one is tried, once. -/
def execFwWatchdog (s : State) : Host.Outcome State Fault Refusal :=
  if s.get SYS_BOOT_FW ≠ 1 || s.mt < s.start.fwAt + ((500 * mtMs : Nat) : Int) then .next s
  else
    let other := 2 - s.get SYS_BOOT_RUN
    let s1 := s.raise evSYS_FW_WATCHDOG
    let s2 : State := { s1 with start := { s1.start with second := true } }
    .next (if !s.start.second && s.imageOk other then s2.fwRun other else s2.fwNone)

/-- FW_STARTED (R658): a Falarn restart completes. -/
def execFwStarted (s : State) : Host.Outcome State Fault Refusal :=
  if !s.start.restart then .next s
  else
    let s1 : State := { s with start := { s.start with restart := false } }
    .next (if s1.get SYS_BOOT_RUN = 0 then s1 else s1.raise evSYS_FW_STARTED)

/-- The image that the window reaches and VERIFY checks (R657). -/
def State.imageTarget (s : State) : Nat :=
  let r := s.get SYS_BOOT_RUN
  if r = 1 then 1 else if r = 2 then 0 else s.get SYS_IMG_CTL_TGT

/-- The word of the target that offset `off` of the SYS block's window reaches (R657). -/
def State.imageIndex (s : State) (off : Nat) : Nat := s.get SYS_IMG_CTL_PAGE * 8192 + (off - 0x8000) / 4

/-- Check the target image (R657). -/
def State.imageVerify (s : State) : State :=
  let t := s.imageTarget
  let ok := s.imageOk t
  let s1 := s.put (if t = 0 then SYS_BOOT_A_OK else SYS_BOOT_B_OK) (b2n ok)
  if ok then s1 else s1.imageBad t

/-- A write of `SYS_IMG_CTL` (R664). -/
def State.imgCtlWrite (s : State) (w : Wr) : State :=
  let s1 := s.mergeRaw SYS_IMG_CTL.key w
  if w.hits 31 then s1.imageVerify else s1

/-- IMAGE_VERIFY (R657): a write of `SYS_IMG_CTL` with `VERIFY`. -/
def execImageVerify (w : Wr) (s : State) : Host.Outcome State Fault Refusal :=
  .next (s.pfOnly w SYS_IMG_CTL.key (fun s => s.imgCtlWrite w))

/-! ## Warm reset (R649, R659, R660) -/

/-- The bits of a register that a warm reset keeps (R649): those that show state that it keeps. -/
def warmKeep (key : Nat) : Nat :=
  let k := key % 2 ^ 32
  let within := fun (lo n : Nat) => decide (lo ≤ k) && decide (k < lo + n)
  let all := 0xFFFFFFFF
  if k = 0x44 then all
  else if k = 0x204 then 0x3FFFF000
  else if k = 0x208 then 0x0C000000
  else if within 0x10100 0x184 then 0x03000000
  else if within 0x10600 0x2C then all
  else if within 0x10800 0x110 then 0xFF000000
  else if within 0x10A00 0x14 then 0xC0000000
  else if k = 0x20000 then 0xFFFF0000
  else if k = 0x20004 || k = 0x20008 then all
  else if within 0x30000 0x10000 then all
  else if within 0x40100 0x48 then all
  else if k = 0x60000 then 0xF0000000
  else if within 0x60008 0x14 then all
  else if k = 0x70008 || within 0x70200 0x80 then all
  else if k = 0x90000 then 0x80000000
  else if within 0x90100 0x180 then all
  else if within 0xA1000 0x8800 && (k - 0xA1004) % 0x200 = 0 then 0x08000000
  else if k = 0xB0000 then 0x20
  else if within 0xB0004 0xC then all
  else if k = 0xD0000 then 3
  else if within 0xD0100 0x40 then 0xC0000000
  else if within 0xD0200 0x10 then 0x40000000
  else if within 0xF0020 4 || within 0xF0028 0x10 || k = 0xF0104 then all
  else if within 0x120100 0x200 && k % 16 = 4 then 0x00800000
  else if within 0x130100 0x100 then all
  else if k = 0x140004 then all
  else if within 0x140100 0x400 && k % 64 = 4 then 0x00FE0000
  else if within 0x200000 0x80000 then
    let o := k % 0x10000
    if o = 0 then 0xFF000001
    else if o = 0x10C || o = 0x14C || o = 0x18C then 0x40
    else if 0x1000 ≤ o && o < 0x1C00 && o % 0x20 = 4 then 0xFFCC0000
    else if 0x4000 ≤ o && o < 0x7000 then all
    else 0
  else if within 0x300000 0xA0000 then
    let o := k % 0x4000
    if o = 4 then 0x0003D000
    else if o = 8 then all
    else if 0x1000 ≤ o && o < 0x2200 && o % 0x200 = 4 then 0xF0000000
    else 0
  else if within 0xA00100 0x44 then 0xC0000000
  else 0

/-- The value that a register reads at power-on reset. -/
def resetOf (key : Nat) : Nat := match regAt key with
  | some (row, x) => row.reset x
  | none => 0

/-- The register file behind a warm reset. -/
def warmRegs (l : SMap Word) : SMap Word :=
  l.filterMap (fun e =>
    let m := warmKeep e.1
    let r := resetOf e.1
    let v := w32 ((e.2.toNat &&& m) ||| (r - (r &&& m)))
    if v = w32 r then none else some (e.1, v))

/-- What is left of a plot once every plot is freed: retired ones stay so, failing ones too, and those in a retired one's
place stay in the pool. -/
def plotFreed (e : Nat × Plot) : Option (Nat × Plot) :=
  if e.2.state = 4 then some e
  else if e.2.weak then some (e.1, { state := 3, weak := true, errs := e.2.errs, hour := e.2.hour })
  else if (plotMade e.1).state = 5 && e.2.state ≠ 5 then some (e.1, {})
  else none

/-- Free plots of a tier once every plot is freed. -/
def poolFreed (tier : Nat) (l : SMap Plot) : Nat :=
  let mine := l.filter (fun e => plotTier e.1 == tier)
  (poolOf tier).2.1 + countIf (fun (e : Nat × Plot) => (plotMade e.1).state == 5) mine
    - countIf (fun (e : Nat × Plot) => e.2.state == 4) mine

/-- The excitation outputs keep the `SFE_EXC_CTL` in force: the shadows take it. -/
def State.excShadow (s : State) : State :=
  (List.range 32).foldl (fun (s : State) n => s.wr (SFE_EXC_CTL n) (s.frd (SFE_EXC_CTL n))) s

/-- The signal outputs keep their levels, as `LEVEL` in mode 0. -/
def State.sigHold (s : State) : State :=
  (List.range 32).foldl (fun (s : State) n => s.put (MGB_SIG_CFG_LEVEL n) (s.get (MGB_SIG_STAT_PIN n))) s

/-- Every borough's tag entries have been emptied: `INSTANCE` rises (R530). -/
def State.instances (s : State) : State := (List.range 32).foldl (fun (s : State) b => s.bump (CMD_INSTANCE b)) s

/-- Put the sheets that are awake to sleep and wake them (R649). -/
def State.sheetsFresh (s : State) : State :=
  (List.range 40).foldl (fun (s : State) sh =>
    if s.awake (24 + sh) then ((s.sheetSleep sh).linkForget sh).sheetWake sh else s) s

/-- Whether a copy of a channel's coefficients in MRAM passes its check; one that was never written holds all zeros (R270). -/
def linPasses (l : List Nat) : Bool := l.isEmpty || l.length == 24

/-- Load the coefficients of channel c from MRAM (R270): from the first copy that passes; where neither does they stay zero, and
LIN_ERR says so. -/
def State.linLoad (s : State) (c : Nat) : State :=
  let a := mapGet [] (2 * c) s.linCopies
  let l := if linPasses a then a else mapGet [] (2 * c + 1) s.linCopies
  if linPasses l then
    (List.range 24).foldl (fun (s : State) i => (s.wn (SFE_LIN c i) (l.getD i 0)).fwr (SFE_LIN c i) (w32 (l.getD i 0))) s
  else (s.put (SFE_CH_STAT_LIN_ERR c) 1).raise evSFE_LIN_ERR c

/-- Load the coefficients of every channel that has been written (R270). -/
def State.linLoadAll (s : State) : State := ((s.linCopies.map (fun e => e.1 / 2)).eraseDups).foldl State.linLoad s

/-- A warm reset takes effect (R649, R660), for cause 2 WARM_N or 3 the register. -/
def State.warmReset (s0 : State) (cause : Nat) : State :=
  let s := s0.engSwaps.foldl State.engSwapDone (s0.sheetsFresh)
  let plots := s.plots.filterMap plotFreed
  let r : State := { State.reset with
    regs := warmRegs s.regs
    force := s.force.filter (fun e => decide (0x130100 ≤ e.1) && decide (e.1 < 0x130180))
    aper := s.aper
    tb := s.tb
    txts := s.txts
    log := { s.log with nonce := none, stageRun := false }
    funcs := s.funcs.map (fun (e : Nat × Func) => (e.1, { e.2 with latch := none, held := none, accRaised := none }))
    linkUp := s.linkUp
    envs := s.envs
    keys := s.keys
    tdc := s.tdc
    spareBook := { s.spareBook with refusing := [] }
    trimImg := s.trimImg
    trimLoaded := s.trimLoaded
    inps := s.inps.map (fun (e : Nat × Inp) => (e.1, { e.2 with run := 0 }))
    blanks := s.blanks
    injects := s.injects.map (fun (e : Nat × List Span) => (e.1, endSpan s.mt e.2))
    failingSlots := s.failingSlots
    retiredSlots := s.retiredSlots
    excs := s.excs
    trimCopies := s.trimCopies
    linCopies := s.linCopies
    nvm := s.nvm
    mramBad := s.mramBad
    mramMap := s.mramMap
    plots := plots
    ilines := s.ilines.map (fun (e : Nat × ILine) => (e.1, { e.2 with said := false }))
    tap := s.tap
    gaz := s.gaz
    gazBook := { seq := s.gazBook.seq }
    start := { trained := s.start.trained }
    images := s.images
    porLow := s.porLow
    part := s.part
    timCal := s.mt
    out := s.out
    drawn := s.drawn
    pending := s.pending }
  let r1 := (((r.linLoadAll.excShadow).sigHold).instances.wn PLT_FAR_FREE (poolFreed 0 plots)).wn PLT_NEAR_FREE (poolFreed 1 plots)
  let r2 := (List.range 97).foldl (fun (t : State) d => if t.get (PWR_DOM_STATE d) = 1 then t.put (PWR_DOM_STATE d) 0 else t) r1
  let r3 := (r2.put SYS_RST_CAUSE_CAUSE cause).put SYS_RST_CAUSE_WARMS (satAdd 16 (s.get SYS_RST_CAUSE_WARMS) 1)
  (s.functions.foldl (fun (t : State) fn => t.raise evSYS_FUNC_RESET fn)
    ((r3.put SYS_START_READY 0).put SYS_START_WARM_ACT 1)).fwStart

/-- A request for a warm reset (R650). -/
def State.warmRequest (s : State) (cause : Nat) : State :=
  if s.porLow || s.start.aonLow || s.isSet SYS_START_WARM_ACT then s
  else if !s.isSet SYS_START_READY then
    { s with start := { s.start with warmHeld := some (s.start.warmHeld.getD cause) } }
  else s.warmReset cause

/-- WARM_N_REQUEST (R659): the falling edge of a low level of 1 µs or more. -/
def execWarmNRequest (s : State) : Host.Outcome State Fault Refusal := .next (s.warmRequest 2)

/-- WARM_RESET_DONE (R660): `READY` reads 1 again, and the logbook names the cause. -/
def execWarmResetDone (s : State) : Host.Outcome State Fault Refusal :=
  .next (if !s.isSet SYS_START_WARM_ACT then s
    else ((s.put SYS_START_WARM_ACT 0).put SYS_START_READY 1).raise evSYS_WARM_RESET 65535
      [.w4 (s.get SYS_RST_CAUSE_CAUSE)] 0 false true)

/-- A request for a Falarn restart (R650, R658): ignored while a reset runs. -/
def State.fwRequest (s : State) : State :=
  if s.isSet SYS_START_WARM_ACT || s.porLow || s.start.aonLow || !s.tb.locked then s
  else
    let s1 : State := { s with start := { s.start with restart := true } }
    (s1.raise evCMD_ENGINE_FAULT).fwStart

/-- A write of `SYS_RST_CTL` (R659): the key stands in the same write; WARM supersedes FW. A partial write is ignored, since the
register has a WO field (R504). -/
def State.rstCtlWrite (s : State) (w : Wr) : State :=
  if w.mask = 0 then s
  else if w.be % 16 ≠ 15 then s.widthHit w.fn 0 SYS_RST_CTL.key
  else if (w.v.toNat &&& w.mask) % 65536 ≠ 0xA5C3 then s.raise evSYS_ACCESS_VALUE w.fn
  else if w.hits 31 then s.warmRequest 3
  else if w.hits 30 then s.fwRequest
  else s

/-- WARM_REG_REQUEST (R659): a write of `SYS_RST_CTL`. -/
def execWarmRegRequest (w : Wr) (s : State) : Host.Outcome State Fault Refusal :=
  .next (s.pfOnly w SYS_RST_CTL.key (fun s => s.rstCtlWrite w))

/-- FW_RESTART_REQUEST (R658): a write of `SYS_RST_CTL`. -/
def execFwRestartRequest (w : Wr) (s : State) : Host.Outcome State Fault Refusal :=
  .next (s.pfOnly w SYS_RST_CTL.key (fun s => s.rstCtlWrite w))

/-! ## Power-on reset (R649 to R653) -/

/-- The copy that an MRAM write in progress leaves when power fails does not pass (R293). -/
def State.jobTorn (s : State) (j : NvmJob) : State :=
  if j.kind ≤ 1 then s.setTrimCopy (if j.kind = 0 then 3 else j.page) j.copy { j.data with ok := false }
  else { s with linCopies := mapPut [] (2 * j.page + j.copy) [1] s.linCopies }

/-- The record that the logbook was writing is left not valid (R621). -/
def State.logTorn (s : State) : State :=
  match s.stageNext with
  | none => s
  | some i =>
    let n := ((s.log.slots.head?.map (fun x => x.seq)).getD 0) + s.log.slots.length
    if s.log.slots.length < logSlots then { s with log := { s.log with slots := s.log.slots ++ [⟨n, i.item, false⟩] } } else s

/-- A power-on reset (R649), for cause 0 POR_N or 1 the VDD_AON monitor; `torn` says that a record was being written. What
MRAM holds stays. -/
def State.powerReset (s0 : State) (cause : Nat) (torn : Bool) : State :=
  let s := (s0.nvm.take 1).foldl State.jobTorn (if torn then s0.logTorn else s0)
  let r : State := { State.reset with
    regs := s.regs.filter (fun e => e.1 == (PWR_SPARE 10).key || e.1 == CMD_KEY_STAT.key
      || (decide (0x70200 ≤ e.1) && decide (e.1 < 0x70280)))
    log := { slots := s.log.slots, key := s.log.key }
    envs := s.envs
    keys := s.keys
    trimCopies := s.trimCopies
    linCopies := s.linCopies
    mramBad := s.mramBad
    mramMap := s.mramMap
    blanks := s.blanks
    images := s.images
    porLow := s.porLow
    start := { aonLow := s.start.aonLow }
    part := s.part
    out := s.out
    drawn := s.drawn
    pending := s.pending }
  ((r.linLoadAll.instances.put SYS_RST_CAUSE_CAUSE cause).put (PWR_SPARE_USED 10) 0).put LOG_STAT_KEY (b2n s.log.key.isSome)

/-- POR_ASSERT (R651): POR_N has been low for 5 µs. -/
def execPorAssert (torn : Bool) (s : State) : Host.Outcome State Fault Refusal :=
  .next { s.powerReset 0 torn with porLow := true }

/-- AON_MONITOR_RESET (R651): VDD_AON has been below 0.70 V for 1 µs. -/
def execAonMonitorReset (torn : Bool) (s : State) : Host.Outcome State Fault Refusal :=
  let s1 := s.powerReset 1 torn
  .next { s1 with start := { s1.start with aonLow := true } }

/-- POR_RELEASE (R652): POR_N is released. -/
def execPorRelease (s : State) : Host.Outcome State Fault Refusal := .next { s with porLow := false }

/-- AON_MONITOR_RELEASE (R651): VDD_AON has stayed at or above 0.72 V for 1 ms. -/
def execAonMonitorRelease (s : State) : Host.Outcome State Fault Refusal :=
  .next { s with start := { s.start with aonLow := false } }

/-- SUPPLY_FAULT (R651). -/
def execSupplyFault (s : State) : Host.Outcome State Fault Refusal :=
  .next ((s.put SYS_START_SUPPLY 1).raise evSYS_SUPPLY_FAULT)

/-- The free count starts from 0 (R45): the time status is UNTRACED, and the clocks, TDC calibrations and Falarn follow in
their order (R652). -/
def State.clockStart (s : State) : State :=
  let s1 : State := { s with tb := { s.tb with locked := true, fc := 0, offset := 0, anchor := 0 } }
  let s2 := (s1.put TB_STATUS_STATE 0).raise evTB_STATE_CHANGE 65535 [.w4 0, .w4 0, .w4 (s1.get TB_DISC_SRC)]
  let s3 := ((((s2.put CLK_STAT_CORE_LOCK 1).put CLK_STAT_CTRL_LOCK 1).put CLK_STAT_LANE_LOCK 15).put CLK_STAT_PCIE_REFCLK_OK 1).wn
    CLK_XO_LOAD (if s2.get (CAL_PAGE_STAT_FROM 0) = 0 then 128 else s2.trimWord 0 0x20 % 256)
  ((List.range 18).foldl (fun (s : State) p => s.coreStart p false) s3).fwStart

/-- PHASE_PLL_FIRST_LOCK (R45, R652). -/
def execPhasePllFirstLock (s : State) : Host.Outcome State Fault Refusal :=
  .next (if s.tb.locked || s.porLow || s.start.aonLow then s
    else ((s.put CLK_STAT_XO_OK 1).clockStart).raise evCLK_PHASE_LOCKED)

/-- XO_FAIL (R653): the free count starts from the oscillator's backup ring, and `COARSE` remains 1. -/
def execXoFail (s : State) : Host.Outcome State Fault Refusal :=
  .next (if s.tb.locked || s.porLow || s.start.aonLow then s
    else ((((s.put TB_STATUS_COARSE 1).put CLK_STAT_XO_FAIL_SEEN 1).clockStart).raise evCLK_XO_FAIL 65535 [] 0 false true))

/-- STACK_TRAINING_DONE (R652, R653): training of the memory stacks ends; `failed` has bit n where stack Mn fails. -/
def execStackTrainingDone (failed : Nat) (s : State) : Host.Outcome State Fault Refusal :=
  if !s.tb.locked || s.isSet SYS_START_READY || s.isSet SYS_START_WARM_ACT || !s.start.trained.isEmpty then .next s
  else
    let s1 := (List.range 6).foldl (fun (s : State) n =>
      if bit failed n then
        ((s.put SYS_START_MEM_FAIL (s.get SYS_START_MEM_FAIL ||| 2 ^ n)).domainAsleep (84 + n)).raise
          evSYS_MEM_TRAIN_FAIL n [.w4 n]
      else s.put CLK_STAT_STACK_LOCK (s.get CLK_STAT_STACK_LOCK ||| 2 ^ n)) s
    .next { s1 with start := { s1.start with trained := List.range 6 } }

/-- The link of a die fails (R653): 0 to 7 converter dies, 8 to 11 lane dies. -/
def State.dieFail (s : State) (d : Nat) : State :=
  (if d < 8 then s.put SYS_START_CD_FAIL (s.get SYS_START_CD_FAIL ||| 2 ^ d)
   else s.put SYS_START_LD_FAIL (s.get SYS_START_LD_FAIL ||| 2 ^ (d - 8))).raise evCLK_DIE_LINK_FAIL d

/-- A warm reset held during start-up is performed at its end (R652). -/
def State.heldReset (s : State) : State :=
  match s.start.warmHeld with
  | none => s
  | some c => ({ s with start := { s.start with warmHeld := none } } : State).warmReset c

/-- START_DONE (R652, R653): every step has ended; `cd` and `ld` name the converter and lane dies whose links failed. A warm
reset that waits is performed (R650). -/
def execStartDone (cd ld : Nat) (s : State) : Host.Outcome State Fault Refusal :=
  if !s.tb.locked || s.isSet SYS_START_READY || s.isSet SYS_START_WARM_ACT || s.start.trained.isEmpty || !s.isSet LOG_STAT_READY
      || !s.isSet CAL_STAT_LOAD_DONE || (List.range 18).any (fun p => s.isSet (TIM_CORE_STAT_RUNNING p)) then .next s
  else
    let s1 := (List.range s.part.part.dies).foldl (fun (s : State) d =>
      if bit cd d then s.dieFail d else s.put (CNV_DIE_STAT_LINK_UP d) 1) s
    let s2 := (List.range 4).foldl (fun (s : State) d => if bit ld d then s.dieFail (8 + d) else s) s1
    .next ((s2.put SYS_START_READY 1).raise evSYS_START_DONE).heldReset

/-! ## Clocks (R663, R720, R721) -/

/-- An occurrence that `CLK_UNLOCKS` counts; CNT_SAT is raised once at its saturation. -/
def State.unlockCount (s : State) : State := s.bumpSat CLK_UNLOCKS evCLK_CNT_SAT

/-- REFCLK_GATE (R721): a 10 ms gate ends with deviation `dev` in units of 0.01 ppm. -/
def execRefclkGate (dev : Int) (s : State) : Host.Outcome State Fault Refusal :=
  if !s.isSet CLK_STAT_REFCLK_OK then .next s
  else
    let s1 := s.wn CLK_REFCLK_DEV (toBits 32 dev)
    if dev.natAbs ≤ 5000 then .next (s1.put CLK_STAT_REFCLK_IN_RANGE 1)
    else if s1.isSet CLK_STAT_REFCLK_IN_RANGE then
      .next (((s1.put CLK_STAT_REFCLK_IN_RANGE 0).put CLK_STAT_RANGE_SEEN 1).raise evCLK_REFCLK_RANGE 65535 [.w4 dev])
    else .next s1

/-- A running group loses its reference (R144, R663). -/
def State.groupUnlock (s : State) (g : Nat) : State :=
  if s.get (CNV_GRP_STAT_RUNNING (g / 3) (g % 3)) = 1 && s.get (CNV_GRP_STAT_PLL_LOCK (g / 3) (g % 3)) = 1 then
    (((s.raise (evCNV_PLL_UNLOCK g) g).put (CNV_GRP_STAT_PLL_LOCK (g / 3) (g % 3)) 0).samplesStop g)
  else s

/-- REFCLK_LOST (R663, R721): no edge for 1 µs; every running group unlocks. -/
def execRefclkLost (s : State) : Host.Outcome State Fault Refusal :=
  if !s.isSet CLK_STAT_REFCLK_OK then .next s
  else
    let s1 := (((s.put CLK_STAT_REFCLK_OK 0).put CLK_STAT_REFCLK_LOST_SEEN 1).wn CLK_REFCLK_DEV 0x80000000).unlockCount
    .next ((List.range s.part.groups).foldl State.groupUnlock (s1.raise evCLK_REFCLK_LOST))

/-- REFCLK_BACK (R721): 1 ms of uninterrupted edges. -/
def execRefclkBack (s : State) : Host.Outcome State Fault Refusal :=
  .next (if s.isSet CLK_STAT_REFCLK_OK || s.part.part = .q768n then s else (s.put CLK_STAT_REFCLK_OK 1).raise evCLK_REFCLK_BACK)

/-- PCIE_REFCLK_LOST (R721). -/
def execPcieRefclkLost (s : State) : Host.Outcome State Fault Refusal :=
  .next (if !s.isSet CLK_STAT_PCIE_REFCLK_OK then s
    else (((s.put CLK_STAT_PCIE_REFCLK_OK 0).put CLK_STAT_PCIE_REFCLK_LOST_SEEN 1).unlockCount).raise evCLK_PCIE_REFCLK_LOST)

/-- The lock bit of a PLL of `CLK_STAT`: 0 pipeline, 1 control, 2 to 7 the stacks, 8 to 11 the lane dies. -/
def pllBit (which : Nat) : Nat :=
  if which = 0 then 30 else if which = 1 then 29 else if which < 8 then 20 + (which - 2) else 16 + (which - 8)

/-- The sticky bit and the event of a PLL. -/
def pllEvent (which : Nat) : Fld × EvId :=
  if which = 0 then (CLK_STAT_CORE_UNLOCK_SEEN, evCLK_CORE_PLL_UNLOCK)
  else if which = 1 then (CLK_STAT_CTRL_UNLOCK_SEEN, evCLK_CTRL_PLL_UNLOCK)
  else if which < 8 then (CLK_STAT_STACK_UNLOCK_SEEN, evCLK_STACK_PLL_UNLOCK)
  else (CLK_STAT_LANE_UNLOCK_SEEN, evCLK_LANE_PLL_UNLOCK)

/-- CLK_PLL_UNLOCK (R663): the PLL loses lock, and the units of its domain hold their state. -/
def execClkPllUnlock (which : Nat) (s : State) : Host.Outcome State Fault Refusal :=
  .next (if 12 ≤ which then s else s.put ⟨CLK_STAT, pllBit which, pllBit which⟩ 0)

/-- CLK_PLL_RELOCK (R663): lock returns, and the event of its loss is raised. -/
def execClkPllRelock (which : Nat) (s : State) : Host.Outcome State Fault Refusal :=
  let f : Fld := ⟨CLK_STAT, pllBit which, pllBit which⟩
  if 12 ≤ which || s.isSet f || !s.tb.locked || (2 ≤ which && which < 8 && !s.awake (82 + which)) then .next s
  else
    let e := pllEvent which
    .next ((((s.put f 1).put e.1 1).unlockCount).raise e.2 (if which < 2 then 65535 else if which < 8 then which - 2 else which - 8))

end Sys2Proof.Machine
end

