-- ==== Sys2Proof/Machine/CmdAccept.lean ====
section
/-! DEFINITION. How the command engine takes a packet: its order, the checks of R519, tags and generations, and the reply of a
command (R515 to R532, R571, R580). -/
namespace Sys2Proof.Machine

/-! ## Packets -/

/-- The bytes of a packet before its trailer (R517). -/
def Packet.body (op : Nat) (p : Packet) : List Byte :=
  leBytes 2 op ++ leBytes 1 p.borough ++ leBytes 1 p.gen ++ leBytes 2 p.tag ++ leBytes 2 p.flags ++ leBytes 4 p.length
    ++ leBytes 4 p.version ++ leBytes 12 p.actTime ++ leBytes 4 p.tail ++ wordsBytes p.params

/-- The longest packet of a path (R515). -/
def State.pathLimit (s : State) (p : Path) : Nat :=
  match p with
  | .ring _ _ => 4096
  | .udp port _ _ => min 4096 (s.ptWord port 3 - 108)
  | .spaxa _ => 168
  | .tree _ => 128

/-- Check 1 of R519. -/
def State.packetForm (s : State) (p : Packet) : Bool :=
  decide (36 ≤ p.length) && decide (p.length ≤ s.pathLimit p.path) && p.length % 4 == 0 && p.length == 36 + 4 * p.params.length
    && (match p.path with
      | .ring _ _ => decide (p.length ≤ p.avail)
      | _ => true)
    && p.version == 1 && decide (p.borough < 32) && p.gen % 16 == 0 && decide (p.gen < 256) && decide (p.tag < 65536)
    && decide (p.flags < 4) && p.tail == 0 && decide (p.actTime < 2 ^ 96) && (p.flags % 2 == 1 || p.actTime == 0)

/-- Check 2 of R519. -/
def Packet.crcOk (op : Nat) (p : Packet) : Bool := p.crc.toNat == crc32c (Packet.body op p)

/-! ## Rate limiting (R571) -/

/-- The present millisecond of Meridian time. -/
def State.msNow (s : State) : Int := s.mt / (mtMs : Int)

/-- Packets of borough b accepted in the present millisecond. -/
def State.rateCount (s : State) (b : Nat) : Nat :=
  let x : CmdRate := mapGet {} b s.rates
  if x.window = s.msNow then x.count else 0

/-- Whether borough b has used its packets of this millisecond. -/
def State.overRate (s : State) (b : Nat) : Bool :=
  s.get (BRG_CTL_CMDRATE b) != 0 && decide (s.get (BRG_CTL_CMDRATE b) ≤ s.rateCount b)

/-- A packet of borough b is accepted. -/
def State.rateTake (s : State) (b : Nat) : State :=
  let x : CmdRate := mapGet {} b s.rates
  { s with rates := mapPut {} b { x with window := s.msNow, count := s.rateCount b + 1 } s.rates }

/-- The rate of borough b is reached: CMD_RATE at most once per second. -/
def State.rateSay (s : State) (b : Nat) : State :=
  let x : CmdRate := mapGet {} b s.rates
  let due := match x.said with
    | none => true
    | some t => decide (t + (mtSec : Int) ≤ s.mt) || decide (s.mt < t)
  if due then
    (({ s with rates := mapPut {} b { x with said := some s.mt } s.rates } : State).put (BRG_STAT_RATE_SEEN b) 1).raise
      evBRG_CMD_RATE b
  else s

/-! ## What a command does -/

/-- How a command ends: a reply now; a change staged for a boundary; a reply still to come (R522); OK, and then a borough reset
(R577); or OK, and then a write of `SYS_RST_CTL` (R659). -/
inductive CmdOut where
  | now (status : Nat) (res : List Word)
  | staged (grid index : Nat) (res : List Word)
  | later (res : List Word)
  | reset (borough : Nat)
  | restart (v : Nat)
  deriving DecidableEq, Repr

/-- Answer a command now. -/
def State.say (s : State) (status : Nat) (res : List Word := []) : CmdOut × State := (.now status res, s)

/-- The commit record of an S command whose target was IDLE, or whose pending bind was cancelled (R540). -/
def State.sayIdle (s : State) (res : List Word := []) : CmdOut × State := (.now 0 (s.commitRecord 0 0 s.mt ++ res), s)

/-- A command of the owner (R538, R539): `ok` says whether its parameters are well formed. -/
def ownerCmd (ok : Bool) (p : Packet) (s : State) (f : State → CmdOut × State) : CmdOut × State :=
  if !ok then s.say 4 else if p.borough % 32 ≠ 0 then s.say 5 else f s

/-- A command of any borough. -/
def anyCmd (ok : Bool) (s : State) (f : State → CmdOut × State) : CmdOut × State := if !ok then s.say 4 else f s

/-- A command of any borough on what it owns. -/
def holderCmd (ok owns : Bool) (s : State) (f : State → CmdOut × State) : CmdOut × State :=
  if !ok then s.say 4 else if !owns then s.say 5 else f s

/-- A register word that a command carries: no reserved bit set and no reserved encoding (R538). -/
def regWordOk (r : Reg) (v : Nat) : Bool :=
  match regAt r.key with
  | none => false
  | some (row, _) =>
    row.fields.all (fun f => !(match f.acc with
      | .rw => inRanges (bits v f.hi f.lo) f.rsv
      | _ => false))
    && (List.range 32).all (fun i => !bit v i || row.fields.any (fun f => decide (f.lo ≤ i) && decide (i ≤ f.hi)))

/-- Check 8 of R519 for one unit: the boundary on grid g, or TOO_LATE; STAGE_FULL where it would be a fifth (R30, R31, R33). -/
def State.stageAt (s : State) (u : UnitId) (g : Nat) (p : Packet) : Nat × Nat :=
  match s.stageIndex g (Packet.act p) with
  | none => (9, 0)
  | some k => if s.stageFull u k then (10, 0) else (0, k)

/-! ## Acceptance (R519, R528, R529) -/

/-- Whether no control core executes commands (R641, R656): no core is in service, or no Falarn image runs. -/
def State.noCore (s : State) : Bool := s.coresInService == 0 || s.get SYS_BOOT_FW == 0

/-- Whether commands wait for a core: a Falarn restart runs, or the control clock is not locked (R658, R663). -/
def State.coreWaits (s : State) : Bool := s.get SYS_BOOT_FW == 1 || !s.isSet CLK_STAT_CTRL_LOCK

/-- Run a command's handler: what function 0 holds of a register pair is not the command's (R507). -/
def runHandler (h : Packet → State → CmdOut × State) (p : Packet) (s : State) : CmdOut × State :=
  let held := (s.func 0).held
  let r := h p (s.setFunc 0 { s.func 0 with held := none })
  (r.1, r.2.setFunc 0 { r.2.func 0 with held := held })

/-- A packet passes check 5 and acts. -/
def State.acceptNew (s : State) (op : Nat) (stg : Bool) (h : Packet → State → CmdOut × State) (p : Packet) : State :=
  let b := p.borough % 32
  let s1 := (s.rateTake b).setTag b p.tag (.busy (p.gen / 16))
  if s1.noCore then s1.complete op p 0x11 []
  else if p.flags % 2 = 1 && !stg then s1.complete op p 8 []
  else match runHandler h p s1 with
    | (.now st res, s2) => s2.complete op p st res
    | (.staged g k res, s2) => { s2 with cmds := s2.cmds ++ [⟨op, p, actionOf p, g, k, res, 0⟩] }
    | (.reset r, s2) => (s2.complete op p 0 []).boroughReset r
    | (.restart v, s2) => (s2.complete op p 0 []).rstCtlWrite (pf v)
    | (.later res, s2) => { s2 with cmds := s2.cmds ++ [⟨op, p, actionOf p, 8, 0, res, 0⟩] }

/-- Check 5 of R519: what the packet meets in its tag entry (R528). -/
def State.meetTag (s : State) (op : Nat) (stg : Bool) (h : Packet → State → CmdOut × State) (p : Packet) : State :=
  let b := p.borough % 32
  match s.tag b p.tag with
  | .free => s.acceptNew op stg h p
  | .done g l =>
    if g = p.gen / 16 then (s.bumpSat CMD_REPLAYS evCMD_CNT_SAT).sendOn p.path b (replyFlag 2 l)
    else s.acceptNew op stg h p
  | .busy g =>
    if g = p.gen / 16 then
      let s1 := s.bumpSat CMD_DUPS evCMD_CNT_SAT
      match p.path with
      | .ring rb r => s1.cringDone rb r
      | _ => s1
    else (s.bumpSat CMD_TAGBUSY evCMD_CNT_SAT).bareReply op p 7

/-- The slots that a packet takes on its ring: one where it fails check 1 (R519, R523). -/
def State.packetSlots (s : State) (p : Packet) : Nat := if s.packetForm p then ceilDiv p.length 64 else 1

/-- Bytes of a packet in its command ring queue: one slot where it fails check 1. -/
def State.packetBytes (s : State) (p : Packet) : Nat := if s.packetForm p then p.length else 64

/-- A packet that is fetched from ring r is written into the command ring queue (R350, R525); `false` where no plot is granted. -/
def State.ringStage (s : State) (b r : Nat) (p : Packet) : Bool × State := s.chainWrite (cmdQueue b r) (s.packetBytes p)

/-- The engine takes a packet: fetched into its ring's queue and read from there, its ring's slots are free again, and one more packet of the
ring waits for its reply (R524, R525). -/
def State.takeSlots (s : State) (p : Packet) : State :=
  match p.path with
  | .ring b r =>
    let t := (s.ringStage b r p).2.chainRead (cmdQueue b r) (s.packetBytes p)
    (t.setCring b r { t.cring b r with taken := (t.cring b r).taken + 1 }).put (BRG_CRING_CI_V b r)
      (t.get (BRG_CRING_CI_V b r) + s.packetSlots p)
  | _ => s

/-- The engine takes a packet, and the checks of R519 run in order. -/
def State.takePacket (s : State) (op : Nat) (stg : Bool) (h : Packet → State → CmdOut × State) (p : Packet) : State :=
  let s1 := s.takeSlots p
  if !s1.packetForm p then s1.bareReply op p 1
  else if !Packet.crcOk op p then s1.bareReply op p 2
  else if p.borough % 32 ≠ p.pathBorough then s1.bareReply op p 6
  else if s1.get (BRG_STAT_STATE p.pathBorough) = 1 then s1.bareReply op p 0x800
  else s1.meetTag op stg h p

/-! ## Order (R525, R532) -/

/-- Whether the escape reserve is exhausted: both parts are empty, and nothing is fetched from the rings (R357). -/
def State.escapeOut (s : State) : Bool := s.get PLT_ESC_FREE_NEAR == 0 && s.get PLT_ESC_FREE_FAR == 0

/-- The source of a packet in the sense of R532: a UDP address and port by whatever route port, or the path itself. -/
def pathSource : Path → Path
  | .udp _ addr udp => .udp 0 addr udp
  | p => p

/-- Whether a packet must stay on ring r, plots apart: for a core, behind others of its ring, behind its own fence, on a paused ring, on a ring
of a borough that has used its rate, or for the escape reserve. -/
def State.ringHeld (s : State) (b r : Nat) (p : Packet) (ahead : Bool) : Bool :=
  let x := s.cring b r
  s.coreWaits || (ahead && !x.waiting.isEmpty) || (Packet.fence p && x.taken != 0) || decide (4096 ≤ x.taken) || s.overRate b
    || s.escapeOut

/-- Whether a packet must wait: on its ring, for a plot of the ring's queue too; otherwise for a core, behind others of its source, or behind its
own fence. -/
def State.mustWait (s : State) (p : Packet) (ahead : Bool) : Bool :=
  s.coreWaits || match p.path with
  | .ring b r => s.ringHeld b r p ahead || !(s.ringStage b r p).1
  | _ => (ahead && s.fenced.any (fun e => pathSource e.2.path == pathSource p.path))
      || (Packet.fence p && s.cmds.any (fun c => pathSource c.pkt.path == pathSource p.path))

/-- A ring that holds 4,096 packets unreplied, and has another, is paused; FETCH_PAUSE once per pause (R525). -/
def State.ringPause (s : State) (b r : Nat) : State :=
  if decide (4096 ≤ (s.cring b r).taken) && !s.isSet (BRG_CRING_STAT_PAUSED b r) then
    (s.put (BRG_CRING_STAT_PAUSED b r) 1).raise evCMD_FETCH_PAUSE (4 * b + r) [] b
  else s

/-- A packet waits its turn, the first of its ring that only a plot keeps waiting being refused it (R356). -/
def State.holdPacket (s : State) (op : Nat) (p : Packet) : State :=
  match p.path with
  | .ring b r =>
    let x := s.cring b r
    let s1 := if s.ringHeld b r p true then s else (s.ringStage b r p).2
    let s2 := (s1.setCring b r { x with waiting := x.waiting ++ [(op, p)] }).ringPause b r
    if s.overRate b then s2.rateSay b else s2
  | _ => { s with fenced := s.fenced ++ [(op, p)] }

/-- Whether the path of a packet is there: an enabled ring, or a port or link; a disabled ring holds no packets (R516). -/
def State.pathOpen (s : State) (p : Packet) : Bool :=
  match p.path with
  | .ring b r => decide (b < 32) && decide (r < 4) && s.isSet (BRG_CRING_CTL_EN b r) && p.pathBorough == b
  | .udp port _ _ => decide (port < 32) && decide (p.pathBorough < 32)
  | .spaxa sh => s.get (SPX_STAT_LSTATE sh) == 2 || s.get (SPX_STAT_LSTATE sh) == 3
  | .tree _ => true

/-- Whether the command engine takes nothing: before `READY`, and during a warm reset (R654, R660). -/
def State.engineShut (s : State) : Bool := !s.isSet SYS_START_READY || s.isSet SYS_START_WARM_ACT

/-- A packet that reaches the engine while it takes nothing: one that came in an envelope is counted. -/
def State.dropPacket (s : State) (p : Packet) : State :=
  match p.path with
  | .udp _ _ _ => s.bumpSat CMD_UDP_DROP evCMD_CNT_SAT
  | .spaxa _ => s.bumpSat CMD_UDP_DROP evCMD_CNT_SAT
  | _ => s

/-- A packet reaches the command engine (R515, R532, R571); `take` is what taking it does. -/
def State.engineFeed (s : State) (op : Nat) (p : Packet) (take : State → State) : State :=
  if s.engineShut then s.dropPacket p
  else if !s.pathOpen p then s
  else match p.path with
    | .ring _ _ => if s.mustWait p true then s.holdPacket op p else take s
    | _ =>
      if s.overRate p.pathBorough then (s.bumpSat CMD_UDP_DROP evCMD_CNT_SAT).rateSay p.pathBorough
      else if s.mustWait p true then s.holdPacket op p
      else take s

/-- A packet that a command of the table brings: on a ring the producer index covers it. -/
def State.announce (s : State) (p : Packet) : State :=
  match p.path with
  | .ring b r =>
    if s.engineShut || !s.pathOpen p then s
    else s.setCring b r { s.cring b r with pi := ((s.cring b r).pi + s.packetSlots p) % 65536 }
  | _ => s

/-- A packet of an opcode reaches the command engine. -/
def State.enginePacket (s : State) (op : Nat) (stg : Bool) (h : Packet → State → CmdOut × State) (p : Packet) : State :=
  (s.announce p).engineFeed op p (fun s => s.takePacket op stg h p)

end Sys2Proof.Machine
end

