-- ==== Sys2Proof/Machine/PostQ.lean ====
section
/-! DEFINITION. Post queues that software sees: control, flush, stalled pops and monitor queues (R376 to R390). -/
namespace Sys2Proof.Machine

/-- Items that post queue n holds (R390). -/
def State.pqLevel (s : State) (n : Nat) : Nat :=
  if n ≤ 15 then (mapGet [] n s.txts).length
  else if n ≤ 31 then (mapGet [] (n - 16) s.tagQ).length
  else if n = 32 then s.stageQ.length
  else (mapGet [] (n - 33) s.monQ).length

/-- Discard every item of post queue n. -/
def State.pqClear (s : State) (n : Nat) : State :=
  if n ≤ 15 then { s with txts := mapPut [] n [] s.txts }
  else if n ≤ 31 then { s with tagQ := mapPut [] (n - 16) [] s.tagQ }
  else if n = 32 then { s with stageQ := [] }
  else { s with monQ := mapPut [] (n - 33) [] s.monQ }

/-- Flush post queue n (R386): every item is discarded and counted; an item of which only some words are written
(`part`) is counted as well and sets `PART_SEEN`. -/
def State.pqFlush (s : State) (n : Nat) (part : Bool) : State :=
  let s1 := (s.bump (SYS_PQ_FLUSHCNT n) (s.pqLevel n + b2n part)).pqClear n
  if part then s1.put (SYS_PQ_STAT_PART_SEEN n) 1 else s1

/-- A write of `SYS_PQ_CTL[n]` (R386, R387): a fixed field set to another value keeps it and raises ACCESS_VALUE. -/
def State.pqCtlWrite (s : State) (n : Nat) (part : Bool) (w : Wr) : State :=
  let old := s.rn (SYS_PQ_CTL n)
  let new := merged old w
  let badPol := (n ≤ 15 || n = 32) && bit new 29 != bit old 29
  let badOrd := n ≠ 32 && bit new 30 != bit old 30
  let v := setBits (setBits new 29 29 (b2n (bit (if badPol then old else new) 29))) 30 30
    (b2n (bit (if badOrd then old else new) 30))
  let s1 := s.wn (SYS_PQ_CTL n) (setBits v 31 31 0 % 2 ^ 32 / 2 ^ 29 * 2 ^ 29)
  let s2 := if badPol || badOrd then s1.raise evSYS_ACCESS_VALUE w.fn else s1
  if w.hits 31 then s2.pqFlush n part else s2

/-- A write of `SYS_PQ_LOST[n]` clears it; for n ≤ 15 it is the same counter as `TB_TXTS_REF[n]` (R387). -/
def State.pqLostWrite (s : State) (n : Nat) (w : Wr) : State :=
  if w.mask = 0 then s
  else if n ≤ 15 then (s.wn (SYS_PQ_LOST n) 0).wn (TB_TXTS_REF n) 0 else s.wn (SYS_PQ_LOST n) 0

/-- PQ_FLUSH (R386): a write of `SYS_PQ_CTL[n]`; `part` says whether only some words of an item were written. -/
def execPqFlush (n : Nat) (part : Bool) (w : Wr) (s : State) : Host.Outcome State Fault Refusal :=
  .next (s.pfOnly w (0x2000 + 16 * n) (fun s => if n < 256 then s.pqCtlWrite n part w else s))

/-- The pop register of post queue n, and how many companion words it has. -/
def popReg (n : Nat) : Nat × Nat :=
  if n ≤ 15 then (0x30100 + 0x20 * n, 4) else if n ≤ 31 then (0x40400 + 16 * (n - 16), 3) else (0x6000 + 32 * (n - 33), 7)

/-- Zero a pop's companion words. -/
def State.zeroWords (s : State) (off n : Nat) : State :=
  (List.range n).foldl (fun (s : State) i => s.wn ⟨off + 4 * (i + 1), 0⟩ 0) s

/-- Phase-clock ticks in 100 ns. -/
def stallTicks : Nat := 250

/-- POP_STALL_TIMEOUT (R384): the limit has passed for the oldest pop that stalls on queue n: it completes with EMPTY, and
its companion words read 0. -/
def execPopStallTimeout (n : Nat) (s : State) : Host.Outcome State Fault Refusal :=
  match s.stalledPop n with
  | none => .next s
  | some w =>
    let r := popReg n
    if s.tb.fc < w.at_ + stallTicks * s.get SYS_POST_STALL_LIMIT then .next s
    else .next (((s.popResume n).zeroWords r.1 r.2).emit (.readDone w.fn r.1 (leBytes 4 0x80000000)))

/-! ## Monitor queues (R388, R389) -/

/-- Pop the head snapshot of monitor queue j for function `fn`, where there is one; bit 30 tells of snapshots lost since
the previous pop. -/
def State.popMon (s : State) (fn j : Nat) : State :=
  match mapGet [] j s.monQ with
  | [] => s
  | x :: r =>
    let w0 := (wordAt x 0) + 2 ^ 30 * b2n (s.monLost.contains j)
    let s1 := (List.range 7).foldl (fun (s : State) i => s.wn (SYS_PQ_MON_W j (i + 1)) (wordAt x (i + 1))) s
    let s2 := { s1 with monQ := mapPut [] j r s1.monQ, monLost := s1.monLost.filter (fun k => k != j) }
    s2.emit (.readDone fn (0x6000 + 32 * j) (leBytes 4 w0))

/-- SYS_PQ_MON_POP (R384, R387): a read of `SYS_PQ_MON_W0[j]`; a pop of an empty queue stalls. -/
def execSysPqMonPop (fn j : Nat) (s : State) : Host.Outcome State Fault Refusal :=
  let s0 := s.flushHeld fn
  if fn ≠ 0 then .next (s0.readReserved fn (0x6000 + 32 * j))
  else if (mapGet [] j s0.monQ).isEmpty then .next (s0.popStall (33 + j) fn)
  else .next (s0.popMon fn j)

/-- A snapshot enters monitor queue j (R378, R388); the oldest stalled pop takes it. -/
def State.offerMon (s : State) (j : Nat) (x : Snapshot) : State :=
  let r := pqOffer (s.isSet (SYS_PQ_CTL_POLICY (33 + j))) 256 (mapGet [] j s.monQ) x
  let s1 := { s with monQ := mapPut [] j r.1 s.monQ }
  let s2 := if r.2 then ({ s1 with monLost := j :: s1.monLost.erase j } : State).pqLose (33 + j) else s1
  match s2.stalledPop (33 + j) with
  | none => s2
  | some w => (s2.popResume (33 + j)).popMon w.fn j

end Sys2Proof.Machine
end

