-- ==== Sys2Proof/Machine/SlotCmds.lean ====
section
/-! DEFINITION. Writes of the slot windows, the broadcast window and the district windows (R167 to R169, R192, R193). -/
namespace Sys2Proof.Machine

/-- The place of a window in BAR0: slot windows 0 to 1,023, district d at 1,024 + d, the broadcast window at 1,088. -/
def winBase (win : Nat) : Nat := if win < 1024 then 0x800000 + 0x400 * win else if win < 1088 then 0x910000 + 0x400 * (win - 1024) else 0x900000

/-- The members of local district d, in ascending order (R192). -/
def State.districtSlots (s : State) (d : Nat) : List Nat := (List.range 1024).filter (fun n => bit (s.rn (CHP_DMEM d (n / 32))) (n % 32))

/-- The members of a window (R192). -/
def State.members (s : State) (win : Nat) : List Nat :=
  if win < 1024 then [win] else if win < 1088 then s.districtSlots (win - 1024) else List.range 1024

/-- `CHP_GRP_RES` of a window. -/
def grpRes (win : Nat) : Reg := if win < 1088 then CHP_GRP_RES_D (win - 1024) else CHP_GRP_RES_B

/-- A write of the register at an offset of slot n's window. -/
def State.slotWrite (s : State) (n off : Nat) (w : Wr) : State :=
  if off = 0 then s.chpCtlWrite n w
  else if off = 4 then s.chpSrcWrite n w
  else
    let s1 := s.mergeRaw (0x800000 + 0x400 * n + off) w
    if slotOffs.contains off then s1.showDirty n else s1

/-- Whether an offset of a slot window holds a register. -/
def slotOffOk (off : Nat) : Bool := (regAt (0x800000 + off)).isSome

/-- Whether a write of `CHP_CTL` asks for BIND, UNBIND or COMMIT. -/
def Wr.acts (w : Wr) : Bool := w.hits 0 || w.hits 1 || w.hits 2

/-- Whether slot n accepted the last action: its engine's domain is open and its code is OK. -/
def State.actAccepted (s : State) (n : Nat) : Bool := s.awake (s.slotDomain n) && s.get (CHP_STAT_CODE n) == 0

/-- A write to a mirrored register (R193): every member in ascending order; an SC write leaves the counts in `CHP_GRP_RES`. -/
def State.winWrite (s : State) (win off : Nat) (w : Wr) : State :=
  if win < 1024 then s.slotWrite win off w
  else
    let l := s.members win
    let s1 := l.foldl (fun (s : State) n => s.slotWrite n off w) s
    if off = 0 && Wr.acts w then
      let ok := countIf s1.actAccepted l
      s1.wn (grpRes win) (ok + 65536 * (l.length - ok))
    else s1

/-- A write of an offset of a window: mirrored registers below 0x100, and what the district windows add (R192 to R194). -/
def State.windowWrite (s : State) (win off : Nat) (w : Wr) : State :=
  if win < 1024 then (if slotOffOk off then s.slotWrite win off w else s.reservedHit w.fn 0 (winBase win + off) true)
  else if off < 0x100 && slotOffOk off then s.winWrite win off w
  else if off = 0x300 then s
  else if win < 1088 && 0x380 ≤ off && off < 0x400 then s.mergeRaw (winBase win + off) w
  else s.reservedHit w.fn 0 (winBase win + off) true

/-- CHP_BIND (R167): a write of `CHP_CTL` of a window. -/
def execChpBind (win : Nat) (w : Wr) (s : State) : Host.Outcome State Fault Refusal :=
  .next (s.pfOnly w (winBase win) (fun s => s.winWrite win 0 w))

/-- CHP_UNBIND (R168): a write of `CHP_CTL` of a window. -/
def execChpUnbind (win : Nat) (w : Wr) (s : State) : Host.Outcome State Fault Refusal :=
  .next (s.pfOnly w (winBase win) (fun s => s.winWrite win 0 w))

/-- CHP_COMMIT (R169): a write of `CHP_CTL` of a window. -/
def execChpCommit (win : Nat) (w : Wr) (s : State) : Host.Outcome State Fault Refusal :=
  .next (s.pfOnly w (winBase win) (fun s => s.winWrite win 0 w))

/-- DISTRICT_WINDOW_WRITE (R193): a write of an offset of district window d, or of the broadcast window (d = 64). -/
def execDistrictWindowWrite (d off : Nat) (w : Wr) (s : State) : Host.Outcome State Fault Refusal :=
  .next (s.pfOnly w (winBase (1024 + min d 64) + off) (fun s => s.windowWrite (1024 + min d 64) off w))

end Sys2Proof.Machine
end

