-- ==== Sys2Proof/Machine/Peek.lean ====
section
/-! DEFINITION. What an address of BAR0 reaches, which function may reach it (R498, R500, R508), and what a read of a register
returns without its side effects (R502, R505). -/
namespace Sys2Proof.Machine

/-! ## Addresses -/

/-- The key of a BAR0 offset as function fn reaches it: registers that each function has, and those behind `QUE_SEL` and
`GAZ_DSEL`, have one key for each instance. -/
def State.keyOf0 (s : State) (fn off : Nat) : Nat :=
  if off = 0x100 || off = 0x104 || (0x30010 ≤ off && off < 0x30028) || off = 0x60024 || (0x68000 ≤ off && off < 0x70000) then
    off + 2 ^ 32 * fn
  else if 0xC0004 ≤ off && off < 0xC0048 then off + 2 ^ 32 * s.get (QUE_SEL_V fn)
  else if 0xF0104 ≤ off && off < 0xF0120 then off + 2 ^ 32 * s.get GAZ_DSEL_V
  else off

/-- Whether an offset lies in a window that BAR0 has below the aperture besides its registers: an image (R657), the logbook
(R625), a trim page (R296). -/
def isWindow (off : Nat) : Bool :=
  (0x8000 ≤ off && off < 0x10000) || (0x68000 ≤ off && off < 0x70000) || (0x98000 ≤ off && off < 0x9A000)

/-- The window of a mirrored offset of the broadcast or a district window, and the offset in it (R192). -/
def mirrorOf (off : Nat) : Option (Nat × Nat) :=
  if 0x900000 ≤ off && off < 0x900100 && slotOffOk (off - 0x900000) then some (1088, off - 0x900000)
  else if 0x910000 ≤ off && off < 0x920000 && off % 0x400 < 0x100 && slotOffOk (off % 0x400) then
    some (1024 + (off - 0x910000) / 0x400, off % 0x400)
  else none

/-- Requester registers that the instance of a roundabout does not have (R408). -/
def arbAbsent (off : Nat) : Bool :=
  decide (0xA1000 ≤ off) && decide (off < 0xA9800) && (
    let k := (off - 0xA1000) / 0x200
    let o := (off - 0xA1000) % 0x200
    let n := Config.arbReqs (Config.arbClass k)
    (0x40 ≤ o && o < 0x100 && n ≤ (o - 0x40) / 4) || (0x100 ≤ o && n ≤ (o - 0x100) / 4))

/-- Whether BAR0 assigns an offset below the aperture. -/
def State.assigned (s : State) (fn off : Nat) : Bool :=
  off % 4 == 0 && decide (off < 0x1000000) && off != 0x80104 && !arbAbsent off
    && !s.absent off && (isWindow off || (mirrorOf off).isSome || (regAt (s.keyOf0 fn off)).isSome)

/-- Whether function fn may read an offset, and whether it may write it (R94, R498, R510, R537, R583, R625, R337). -/
def State.sees (s : State) (fn off : Nat) (write : Bool) : Bool :=
  if fn = 0 then true
  else if off = 0 || off = 0x44 || off = 0x204 || off = 0x30000 then true
  else if off = 0x100 || off = 0x104 || (0x124 ≤ off && off ≤ 0x140) || (0x30010 ≤ off && off < 0x30028) then true
  else if 0x60000 ≤ off && off < 0x70000 then !write
  else if 0x80100 ≤ off && off < 0x80500 then (off - 0x80100) / 32 == fn
  else if 0x84000 ≤ off && off < 0x86000 then (off - 0x84000) / 0x100 == fn
  else if 0x88000 ≤ off && off < 0x8C000 then
    let g := (off - 0x88000) / 8
    s.isSet (BRG_GRANT0_VALID g) && s.get (BRG_GRANT0_GRANTEE g) == fn
  else if 0xD8000 ≤ off && off < 0xDA000 then (off - 0xD8000) / 0x100 == fn
  else false

/-- Whether a write of function fn to an offset that it sees can change it: other functions hold most of what they see
read-only. -/
def vfWrites (fn off : Nat) : Bool :=
  fn = 0 || off = 0x100 || (0x80100 ≤ off && off < 0x80500 && off % 32 = 0) || (0x84000 ≤ off && off < 0x86000)
    || (0xD8000 ≤ off && off < 0xDA000)

/-- Whether a request of function fn to a BAR0 offset below the aperture meets a register or a window of it. -/
def State.reaches (s : State) (fn off : Nat) (write : Bool) : Bool :=
  s.assigned fn off && s.sees fn off write && !s.shut off

/-! ## Reads -/

/-- Word `off` of the logbook window of function fn (R620, R625): 0 beyond the head. What a torn record holds is not given, so
its words are free. -/
def State.logWord (s : State) (fn off : Nat) : Nat × State :=
  match s.log.slots[512 * s.get (LOG_WSEL_V fn) + (off - 0x68000) / 64]? with
  | none => (0, s)
  | some x =>
    if x.valid then (leNat (((EvRec.bytes x.item x.seq).drop ((off - 0x68000) % 64)).take 4), s) else s.draw (2 ^ 32)

/-- What a read of a register returns where the register follows the state of the hub and is not held in the map itself; an SC bit
reads 1 while its action runs (R12). -/
def State.live (s : State) (off : Nat) : Option Nat :=
  if off = TB_HOLD_LO.key then some (s.holdUs % 2 ^ 32)
  else if off = TB_HOLD_HI.key then some (s.holdUs / 2 ^ 32 % 2 ^ 32)
  else if off = TB_RATE_LO.key then some (toBits 64 s.tb.rate % 2 ^ 32)
  else if off = TB_RATE_HI.key then some (toBits 64 s.tb.rate / 2 ^ 32)
  else if off = TB_ADJ_AMT_LO.key || off = TB_ADJ_AMT_HI.key then
    match s.tb.slew with
    | some w =>
      let v := toBits 64 (s.tb.slewLeft w)
      if w.shown then some (if off = TB_ADJ_AMT_LO.key then v % 2 ^ 32 else v / 2 ^ 32) else none
    | none => none
  else if 0x400 ≤ off && off < 0x600 && off % 0x40 = 0x20 then some (s.gridBound ((off - 0x400) / 0x40))
  else if 0x2000 ≤ off && off < 0x3000 && off % 16 = 4 then
    let n := (off - 0x2000) / 16
    some (setBits (s.rn (SYS_PQ_STAT n)) 15 0 (s.pqLevel n))
  else if off = EVT_PINSTAT.key then some (b2n (s.evtPin 0) + 2 * b2n (s.evtPin 1))
  else if off = SYS_IDENT.key then some s.part.ident
  else if off = (PWR_SPARE 0).key then some (setBits (s.rn (PWR_SPARE 0)) 15 0 (s.sparesLeft 0))
  else if off = (PWR_SPARE 2).key then some (setBits (s.rn (PWR_SPARE 2)) 15 0 s.spareSlots)
  else if 0x80100 ≤ off && off < 0x80500 && off % 32 = 0 then
    let b := (off - 0x80100) / 32
    some (setBits (s.rn (BRG_CTL b)) 31 31 (b2n (s.get (BRG_STAT_STATE b) == 1)))
  else if 0x10100 ≤ off && off < 0x10284 then
    let d := (off - 0x10100) / 4
    let st := s.get (PWR_DOM_STATE d)
    some (setBits (s.rn (PWR_DOM d)) 31 30 (2 * b2n (st == 1) + b2n (st == 3)))
  else if off = SYS_PTM_CTL.key then some (setBits (s.rn SYS_PTM_CTL) 30 30 (b2n s.ptm.isSome))
  else if off = SYS_RST_CTL.key then some (2 ^ 31 * s.get SYS_START_WARM_ACT + 2 ^ 30 * b2n s.start.restart)
  else if off = SFE_CTL.key then
    let own := fun (bind : Bool) => b2n (s.fe.waits.any (fun x => x.action == commitAction && x.bind.isSome == bind))
    some (setBits (setBits (s.rn SFE_CTL) 0 0 (own true)) 2 2 (own false))
  else if 0x300000 ≤ off && off < 0x3A0000 && off % 0x4000 = 0 then
    let sh := (off - 0x300000) / 0x4000
    some (setBits (s.rn (LNE_SHEET_CTL sh)) 18 18 (b2n ((s.substExchange sh).any (fun e => e.ours && e.action.isNone))))
  else if 0x90100 ≤ off && off < 0x90180 && !s.pageFitted ((off - 0x90100) / 4) then some 0xC0000000
  else if 0x70100 ≤ off && off < 0x70120 then some 0
  else if 0x800000 ≤ off && off < 0x900000 && s.slotState ((off - 0x800000) / 0x400) != 2 then
    some (s.slotShown ((off - 0x800000) / 0x400) (off % 0x400) (((regOfKey off).map s.rn).getD 0))
  else none

/-- What a read of an assigned offset returns, without the side effects that the read of some registers has (R93, R384, R507):
a word of a trim copy or a record that does not pass is free, and so are the temperature of a die and the progress of a locked
pattern checker. -/
def State.peek (s : State) (fn off : Nat) : Nat × State :=
  if 0x8000 ≤ off && off < 0x10000 then (s.imageWord s.imageTarget (s.imageIndex off), s)
  else if 0x68000 ≤ off && off < 0x70000 then s.logWord fn off
  else if 0x98000 ≤ off && off < 0x9A000 then s.pageWin (off - 0x98000)
  else if 0x300000 ≤ off && off < 0x3A0000 && 0x1000 ≤ off % 0x4000 && (off % 0x200 = 0x24 || off % 0x200 = 0x2C) then
    let t := s.prbsCatch ((off - 0x300000) / 0x4000) ((off % 0x4000 - 0x1000) / 0x200)
    (((regOfKey off).map t.rn).getD 0, t)
  else if (List.range s.part.part.dies).any (fun d => off == (CNV_DIE_STAT d).key) then
    let t := s.draw 256
    (setBits (((regOfKey off).map s.rn).getD 0) 31 24 t.1, t.2)
  else match mirrorOf off with
    | some (win, o) => (match s.members win with
      | n :: _ =>
        let key := 0x800000 + 0x400 * n + o
        (s.live key).getD (((regOfKey key).map s.rn).getD 0)
      | [] => 0, s)
    | none =>
      match s.live off with
      | some v => (v, s)
      | none => (((regOfKey (s.keyOf0 fn off)).map s.rn).getD 0, s)

end Sys2Proof.Machine
end

