-- ==== Sys2Proof/Machine/RegWrite.lean ====
section
/-! DEFINITION. A write that reaches a register of BAR0: what its block does with it (R12, R504), and the pair holding register
(R507). -/
namespace Sys2Proof.Machine

/-- Whether a register has a write-only field, so that a partial write is ignored as a whole (R504). -/
def isWriteOnly (key : Nat) : Bool := match regAt key with
  | some (row, _) => row.fields.any (fun f => match f.acc with
    | .wo => true
    | _ => false)
  | none => false

/-- A write of a register with `EN` in bit 31 and `PORT` in bits 15:0, where `EN` = 1 with `PORT` = 0 is reserved (R536, R601). -/
def State.portWrite (s : State) (r : Reg) (w : Wr) : State :=
  let v := merged (s.rn r) w
  if bit v 31 && bits v 15 0 == 0 then s.raise evSYS_ACCESS_VALUE w.fn else s.mergeRaw r.key w

/-- The largest `BASE` of a table that a window can select (R500). -/
def twinBase (table : Nat) : Nat :=
  match table with
  | 1 => 7 | 2 => 255 | 3 => 2 | 4 => 63 | _ => 255

/-- A write of `SYS_TWIN[j]` (R500). -/
def State.twinWrite (s : State) (j : Nat) (w : Wr) : State :=
  let v := merged (s.rn (SYS_TWIN 0 j)) w
  if 5 ≤ bits v 31 28 || twinBase (bits v 31 28) < bits v 7 0 then s.raise evSYS_ACCESS_VALUE w.fn
  else s.mergeRaw (SYS_TWIN 0 j).key w

/-- A write of `SYS_HUB_ID` (R439): ignored while a Spaxa sheet is started. -/
def State.hubIdWrite (s : State) (w : Wr) : State :=
  if (List.range 40).any (fun sh => s.isSet (LNE_SHEET_CTL_START sh) && s.proto sh == 2) then
    s.raise evLNE_CFG_BUSY
  else s.mergeRaw SYS_HUB_ID.key w

/-- Install the staged key of borough b, or another, and reset the borough's envelope counters (R527); borough 0's may make the hub
root (R584). -/
def State.keyLoad (s : State) (b : Nat) (key : List Byte) : State :=
  s.roleSaid (({ s with keys := mapPut [] b key s.keys, envs := mapErase b s.envs } : State).wn CMD_KEY_STAT
    (setBits (s.rn CMD_KEY_STAT) b b 1))

/-- Remove the key of borough b (R527). -/
def State.keyClear (s : State) (b : Nat) : State :=
  s.roleSaid (({ s with keys := mapErase b s.keys } : State).wn CMD_KEY_STAT (setBits (s.rn CMD_KEY_STAT) b b 0))

/-- A write of `CMD_KEY_CTL` (R527, R536): `B` merges, then LOAD and CLEAR act. -/
def State.keyCtlWrite (s : State) (w : Wr) : State :=
  let s1 := s.mergeRaw CMD_KEY_CTL.key w
  let b := s1.get CMD_KEY_CTL_B
  let s2 := if w.hits 31 then
      let k := (List.range 8).flatMap (fun i => leBytes 4 (mapGet 0#32 i s1.keyStage).toNat)
      { s1.keyLoad b k with keyStage := [] }
    else s1
  if w.hits 30 then s2.keyClear b else s2

/-- A write of `SYS_PQ_MON_SRC[j][w]` (R389): refused where it names the aperture, a reserved address, or a register with a
side effect on read. -/
def State.monSrcWrite (s : State) (j k : Nat) (w : Wr) : State :=
  let v := merged (s.rn (SYS_PQ_MON_SRC j k)) w
  let off := bits v 25 2 * 4
  let pop := fun (base step n : Nat) => decide (base ≤ off) && decide (off < base + step * n) && (off - base) % step == 0
  let rp := off = 0x30010 || pop 0x30100 32 16 || pop 0x40400 16 16 || pop 0x6000 32 223 || !s.assigned 0 off
  if bit v 31 && (decide (0x1000000 ≤ off) || rp) then s.raise evSYS_ACCESS_VALUE w.fn
  else s.mergeRaw (SYS_PQ_MON_SRC j k).key w

/-- A write in the SYS block. -/
def State.sysStore (s : State) (o : Nat) (w : Wr) : State :=
  if o = SYS_HUB_ID.key then s.hubIdWrite w
  else if o = 0x110 || o = 0x114 then s.twinWrite ((o - 0x110) / 4) w
  else if o = SYS_PTM_CTL.key then s.ptmCtlWrite w
  else if o = SYS_RST_CTL.key then s.rstCtlWrite w
  else if o = SYS_POLICY.key then (s.mergeRaw o w).disarmPlots
  else if o = SYS_IMG_CTL.key then s.imgCtlWrite w
  else if 0x2000 ≤ o && o < 0x3000 && o % 16 = 0 then s.pqCtlWrite ((o - 0x2000) / 16) false w
  else if 0x2000 ≤ o && o < 0x3000 && o % 16 = 8 then s.pqLostWrite ((o - 0x2000) / 16) w
  else if 0x3000 ≤ o && o < 0x6000 && 4 ≤ o % 32 then s.monSrcWrite ((o - 0x3000) / 32) ((o - 0x3000) % 32 / 4 - 1) w
  else if 0x8000 ≤ o && o < 0x10000 then
    if w.mask = 0 then s
    else
      let i := s.imageIndex o
      s.setImageWord s.imageTarget i (w32 (merged (s.imageWord s.imageTarget i) w))
  else s.mergeRaw o w

/-- A write in the PWR, CLK, TB, TIM, EVT, LOG and CMD blocks. -/
def State.timeStore (s : State) (o key : Nat) (w : Wr) : State :=
  if 0x10100 ≤ o && o < 0x10300 then s.pwrDomWrite ((o - 0x10100) / 4) w
  else if o = TB_ADJ_CTL.key then s.adjWrite w
  else if o = TB_DISC.key then s.discWrite w
  else if 0x30040 ≤ o && o < 0x3005C then s.pairHalf o w
  else if o = TIM_CAL_CTL.key then s.calCtlWrite w
  else if 0x40100 ≤ o && o < 0x40200 then s.coreStatWrite ((o - 0x40100) / 4) w
  else if 0x40200 ≤ o && o < 0x40300 && o % 16 = 0 then s.edgeCfgWrite ((o - 0x40200) / 16) w
  else if 0x40300 ≤ o && o < 0x40400 && o % 0x20 = 0 then s.freqCfgWrite ((o - 0x40300) / 0x20) w
  else if o = CMD_UDP.key then s.portWrite CMD_UDP w
  else if o = CMD_KEY_CTL.key then s.keyCtlWrite w
  else if 0x70100 ≤ o && o < 0x70120 then
    { s with keyStage := mapPut 0#32 ((o - 0x70100) / 4) w.v s.keyStage }
  else s.mergeRaw key w

/-- A write in the BRG block. -/
def State.brgStore (s : State) (o : Nat) (w : Wr) : State :=
  if 0x80100 ≤ o && o < 0x80500 && o % 32 = 0 then s.brgCtlWrite ((o - 0x80100) / 32) w
  else if 0x84000 ≤ o && o < 0x86000 then
    if o % 64 = 0 then s.cringCtlWrite ((o - 0x84000) / 0x100) ((o - 0x84000) % 0x100 / 64) w
    else if 8 ≤ o % 64 && o % 64 < 0x18 then s.pairHalf o w
    else s.mergeRaw o w
  else s.mergeRaw o w

/-- A write in the CAL, ARB, PLT, QUE and CMP blocks; `q` is the queue that `QUE_SEL` selects. -/
def State.storeStore (s : State) (o key q : Nat) (w : Wr) : State :=
  if 0xA1000 ≤ o && o < 0xA9800 then
    let k := (o - 0xA1000) / 0x200
    let x := (o - 0xA1000) % 0x200
    if x = 0 then s.arbCtlWrite k w
    else if 0x40 ≤ x && x < 0x100 then s.arbReqWrite k ((x - 0x40) / 4) w
    else s.mergeRaw o w
  else if 0x98000 ≤ o && o < 0x9A000 then s.pageWinWrite
  else if o = PLT_ESC.key then s.escWrite w
  else if 0xB0100 ≤ o && o < 0xB0200 && o % 8 = 0 then s.quotaWrite ((o - 0xB0100) / 8) w
  else if o = 0xC0004 then s.queCtlWrite q w
  else if o = 0xC0008 then s.queCfg0Write q w
  else if o = 0xC000C || o = 0xC0014 || o = 0xC0018 || o = 0xC001C then s.queCfgWrite q key w
  else if 0xD1000 ≤ o && o < 0xD2000 then s.rawWrite ((o - 0xD1000) / 4) w
  else if 0xD8000 ≤ o && o < 0xDA000 then
    let b := (o - 0xD8000) / 0x100
    let x := o % 0x100
    if x = 0 then s.jobCtlWrite b w
    else if x = 4 then s.jobStatWrite b w
    else if x = 8 || x = 0xC then s.pairHalf o w
    else if x = 0x10 then s.jobPiWrite b w
    else s.mergeRaw o w
  else s.mergeRaw key w

/-- A write of `GAZ_DQ` (R14, R601): `EN` with a queue that is not a stream-out queue of borough 0 is reserved. -/
def State.dqWrite (s : State) (w : Wr) : State :=
  let v := merged (s.rn GAZ_DQ) w
  let q := bits v 13 0
  if bit v 31 && !(s.get (QUE_CFG0_TYPE q) == 0 && s.get (QUE_CFG0_BOROUGH q) == 0) then s.raise evSYS_ACCESS_VALUE w.fn
  else s.mergeRaw GAZ_DQ.key w

/-- A write in the TRG and GAZ blocks. -/
def State.trgStore (s : State) (o : Nat) (w : Wr) : State :=
  if o = TRG_RING_CTL.key then s.ringCtlWrite w
  else if o = TRG_NET.key then s.trgNetWrite w
  else if 0xE1000 ≤ o && o < 0xE1800 then
    let t := (o - 0xE1000) / 0x20
    let x := o % 0x20
    if x = 0 then s.trgCfgWrite t w
    else if x = 8 then s.trgStatWrite t w
    else if x = 0xC then s.mergeRaw o w
    else s.trgWordWrite o t w
  else if o = GAZ_FR.key then s.portWrite GAZ_FR w
  else if o = GAZ_DQ.key then s.dqWrite w
  else if o = 0xF0030 || o = 0xF0034 then s.pairHalf o w
  else s.mergeRaw o w

/-- A write in the RED, ETH and MGB blocks. -/
def State.netStore (s : State) (o : Nat) (w : Wr) : State :=
  if o = RED_HB.key then s.redHbWrite w
  else if 0x100100 ≤ o && o < 0x100140 then s.pairRegWrite ((o - 0x100100) / 4) w
  else if o = ETH_RXS.key then s.rxsWrite w
  else if 0x110000 ≤ o && o < 0x118000 && o % 0x800 = 0 then s.macCfgWrite ((o - 0x110000) / 0x800) w
  else if o = MGB_XFER.key then s.xferWrite w
  else if o = MGB_EDGE_CTL.key then s.edgeCtlWrite w
  else if 0x120100 ≤ o && o < 0x120300 && o % 16 = 0 then s.sigCfgWrite ((o - 0x120100) / 16) w
  else if 0x120100 ≤ o && o < 0x120300 && o % 16 = 8 then s.sigOfsWrite ((o - 0x120100) / 16) w
  else s.mergeRaw o w

/-- A write in the SFE, PCV and CNV blocks. -/
def State.convStore (s : State) (o : Nat) (w : Wr) : State :=
  if o = SFE_CTL.key then s.sfeCtlWrite w
  else if o = PCV_REFCTL.key then s.refCtlWrite w
  else if 0x140100 ≤ o && o < 0x140500 && o % 0x40 = 8 then s.pcvUrgWrite ((o - 0x140100) / 0x40) w
  else if isSfeKey o then (s.mergeRaw o w).sfeDirty
  else if 0x200000 ≤ o && o < 0x280000 then
    let d := (o - 0x200000) / 0x10000
    let x := o % 0x10000
    if 0x100 ≤ x && x < 0x1C0 && x % 0x40 = 0 then s.grpCtlWrite (3 * d + (x - 0x100) / 0x40) w
    else if 0x1000 ≤ x && x < 0x1C00 && x % 0x20 = 0 then s.inCtlWrite (96 * d + (x - 0x1000) / 0x20) w
    else s.mergeRaw o w
  else s.mergeRaw o w

/-- A write in the LNE and SPX blocks. -/
def State.laneStore (s : State) (o : Nat) (w : Wr) : State :=
  if o < 0x400000 then
    let sh := (o - 0x300000) / 0x4000
    let x := o % 0x4000
    if x = 0 then s.sheetCtlWrite sh w
    else if 0x1000 ≤ x && x % 0x200 = 0 then s.laneCtlWrite sh ((x - 0x1000) / 0x200) w
    else if 0x1000 ≤ x && x % 0x200 = 0x20 then s.prbsWrite sh ((x - 0x1000) / 0x200) w
    else s.mergeRaw o w
  else if o % 0x1000 = 0 then s.spxCtlWrite ((o - 0x400000) / 0x1000) w
  else s.mergeRaw o w

/-- A write of a word of a beam's descriptor (R245): with `CIN_EN` = 1, `CHAIN_WAIT` 0 is reserved (R14). -/
def State.descWrite (s : State) (o : Nat) (w : Wr) : State :=
  let old := (regOfKey o).map s.rn |>.getD 0
  let new := merged old w
  if o % 0x20 = 0x10 && bit new 31 && bits new 7 0 == 0 && w.reaches 7 0 then
    (s.mergeRaw o (Wr.keep w old 7 0)).raise evSYS_ACCESS_VALUE w.fn
  else s.mergeRaw o w

/-- A write in the CHP and BFM blocks. -/
def State.beamStore (s : State) (o : Nat) (w : Wr) : State :=
  if o < 0x900000 then s.windowWrite ((o - 0x800000) / 0x400) (o % 0x400) w
  else if o < 0x910000 then s.windowWrite 1088 (o - 0x900000) w
  else if o < 0x920000 then s.windowWrite (1024 + (o - 0x910000) / 0x400) (o % 0x400) w
  else if o = BFM_CTL.key then (if w.hits 0 then s.commitBeams else s)
  else if 0xA10000 ≤ o && o < 0xA30000 then s.descWrite o w
  else s.mergeRaw o w

/-- A write of an assigned offset of BAR0 below the aperture, by the block that owns it. A partial write of a register with a
write-only field is ignored (R504). -/
def State.regStore (s : State) (o : Nat) (w : Wr) : State :=
  let key := s.keyOf0 w.fn o
  if w.mask = 0 then s
  else if isWriteOnly key && w.be % 16 ≠ 15 then s.widthHit w.fn 0 o
  else if !vfWrites w.fn o then s
  else if o < 0x10000 then (if o = 0x100 || o = 0x104 then s.mergeRaw key w else s.sysStore o w)
  else if o < 0x80000 then s.timeStore o key w
  else if o < 0x90000 then s.brgStore o w
  else if o < 0xE0000 then s.storeStore o key (key / 2 ^ 32) w
  else if o < 0x100000 then s.trgStore o w
  else if o < 0x130000 then s.netStore o w
  else if o < 0x300000 then s.convStore o w
  else if o < 0x800000 then s.laneStore o w
  else s.beamStore o w

/-! ## Pairs (R507) -/

/-- Whether a block refuses a write of the pair of a key, so that a write of both halves is refused once. -/
def State.pairShut (s : State) (key : Nat) : Bool :=
  if 0x84000 ≤ key && key < 0x86000 then bit (mapGet 0#32 (ringCtlKey key) s.regs).toNat 31
  else if 0xD8000 ≤ key && key < 0xDA000 && key % 256 < 0x10 then s.isSet (CMP_JOB_CTL_EN ((key - 0xD8000) / 256))
  else if key = 0xF0030 || key = 0xF0034 then s.isSet GAZ_CTL_ROOT
  else false

/-- The `_LO` register that function fn holds, where `key` is its `_HI`. -/
def State.heldPair (s : State) (fn key : Nat) : Option Word :=
  match (s.func fn).held with
  | some (k, v) => if k + 4 = key then some v else none
  | none => none

/-- A write of the `_LO` of a pair is held (R507): its enabled bytes merge into the word that the register holds. -/
def State.pairHold (s : State) (key : Nat) (w : Wr) : State :=
  if w.mask = 0 then s
  else s.setFunc w.fn { s.func w.fn with held := some (key, w32 (merged ((regOfKey key).map s.rn |>.getD 0) w)) }

/-- A write of the `_HI` of the pair that function fn holds writes both halves on one tick (R507). -/
def State.pairBoth (s : State) (key : Nat) (v : Word) (w : Wr) : State :=
  let s1 := s.setFunc w.fn { s.func w.fn with held := none }
  let s2 := if s1.pairShut key then s1 else s1.pairHalf (key - 4) ⟨w.fn, 15, v⟩
  s2.pairHalf key w

/-- A 32-bit write that reaches BAR0 below the aperture (R502 to R508). -/
def State.barStore (s : State) (o : Nat) (w : Wr) : State :=
  match s.heldPair w.fn o with
  | some v => if s.reaches w.fn o true && vfWrites w.fn o then s.pairBoth o v w else (s.flushHeld w.fn).reservedHit w.fn 0 o true
  | none =>
    let s1 := s.flushHeld w.fn
    if !s1.reaches w.fn o true then s1.reservedHit w.fn 0 o true
    else if isPairLo o && vfWrites w.fn o then s1.pairHold o w
    else s1.regStore o w

/-- PAIR_LO_READ (R507): a read of an LO register returns it, and latches the `_HI` of its pair for the function. -/
def execPairLoRead (fn off : Nat) (s : State) : Host.Outcome State Fault Refusal :=
  let s1 := s.flushHeld fn
  .next (if !s1.reaches fn off false then s1.readReserved fn off
    else if isPairLo (s1.keyOf0 fn off) then
      let a := s1.peek fn off
      let r := a.2.peek fn (off + 4)
      (r.2.setFunc fn { r.2.func fn with latch := some (off, w32 r.1) }).emit (.readDone fn off (leBytes 4 a.1))
    else s1)

/-- PAIR_LO_WRITE (R507): a write of an LO register is held. -/
def execPairLoWrite (off : Nat) (w : Wr) (s : State) : Host.Outcome State Fault Refusal :=
  .next (if isPairLo (s.keyOf0 w.fn off) then s.barStore off w else s)

/-- PAIR_HI_WRITE (R507): a write of the HI register of a pair; where the function holds its LO, both are written. -/
def execPairHiWrite (off : Nat) (w : Wr) (s : State) : Host.Outcome State Fault Refusal :=
  .next (if 4 ≤ off && isPairLo (s.keyOf0 w.fn (off - 4)) then s.barStore off w else s)

end Sys2Proof.Machine
end

