-- ==== Sys2Proof/Machine/Aperture.lean ====
section
/-! DEFINITION. The table aperture (R499 to R501): which table element an address of it reaches, what it holds, and what a
write does. -/
namespace Sys2Proof.Machine

/-- A writable word of a table: its key in the table store, the bits that it holds, and whether bits 31:18 read as the sign
of bit 17 (R189). -/
structure TabWord where
  key : Nat
  mask : Nat
  sign : Bool

/-- What a word of the aperture reaches. -/
inductive TabHit where
  | none
  | word (t : TabWord)
  | factory (set row word : Nat)
  | cadastre (i : Nat)
  | gazetteer (i : Nat)

/-- The bits that word `i` of a route stream, address or port entry holds (R476): 0x52 streams, 0 addresses, 1 ports. -/
def entryMask (table i : Nat) : Nat :=
  match table, i with
  | 0, 0 => 0xFFFFFF01 - 0xF000 | 0, 1 => 0x003FFFFF | 0, 2 => 0xFFFFFFFF | 0, _ => 0
  | 1, 2 => 0xFFFF | 1, 3 => 0 | 1, _ => 0xFFFFFFFF
  | _, 1 => 0xFFFF | _, 2 => 0xFF | _, _ => 0xFFFFFFFF

/-- What word offset `x` of the direct region reaches (R499). -/
def directWord (x : Nat) : TabHit :=
  let key := 0x1000000 + x
  if x < 0x200000 then
    let o := x % 0x200
    if o = 0 then .word ⟨key, 0xFFFF007F, false⟩ else if o ≤ 0x100 then .word ⟨key, 0x3FFFF, true⟩ else .none
  else if x < 0x300000 then
    let k := (x - 0x200000) / 0x40000
    let o := (x - 0x200000) % 0x40000
    if 0x20080 ≤ o then .none
    else if k < 2 then .factory k (o / 0x80) (o % 0x80 / 4)
    else .word ⟨key, 0x3FFFF, true⟩
  else if x < 0x500000 then (if 0x308000 ≤ x then .word ⟨key, 0xFFFFFFFF, false⟩ else .none)
  else if x < 0x504000 then .word ⟨key, 0xFFFFFFFF, false⟩
  else if 0x510000 ≤ x && x < 0x514000 then .word ⟨key, 0x80003FFF, false⟩
  else if 0x520000 ≤ x && x < 0x540000 then .word ⟨key, entryMask 0 (x % 32 / 4), false⟩
  else if 0x540000 ≤ x && x < 0x542000 then .word ⟨key, entryMask 1 (x % 32 / 4), false⟩
  else if 0x544000 ≤ x && x < 0x544400 then .word ⟨key, entryMask 2 (x % 32 / 4), false⟩
  else if 0x580000 ≤ x && x < 0x620000 then .word ⟨key, 0x80003FFF, false⟩
  else .none

/-- Whether every memory stack is awake, so that the tables in the stacks can be reached (R630). -/
def State.stacksUp (s : State) : Bool := s.tierUp 0

/-- What word offset `x` of a table behind the windows reaches (R500). -/
def State.windowTable (s : State) (table x : Nat) : TabHit :=
  if !s.stacksUp then .none
  else match table with
    | 1 => .word ⟨2 ^ 40 + x, if x % 0x400000 = 0 then 0x1F000F else 0x3FFFF, x % 0x400000 != 0⟩
    | 2 => .word ⟨2 * 2 ^ 40 + x, 0xFFFFFFFF, false⟩
    | 3 => if x < 33842176 then .cadastre (x / 4) else .none
    | 4 => .gazetteer (x / 4)
    | _ => .none

/-- What a word of the aperture reaches, by its BAR0 offset. -/
def State.tabHit (s : State) (off : Nat) : TabHit :=
  let x := off / 4 * 4
  if x < 0x1000000 then .none
  else if x < 0x2000000 then directWord (x - 0x1000000)
  else if x < 0x4000000 then
    let j := x / 0x1000000 - 2
    s.windowTable (s.get (SYS_TWIN_TABLE 0 j)) (s.get (SYS_TWIN_BASE 0 j) * 2 ^ 24 + x % 0x1000000)
  else .none

/-- A word as a table holds it. -/
def TabWord.fix (t : TabWord) (v : Nat) : Nat :=
  let x := v &&& t.mask
  if t.sign then toBits 32 (sext 18 x) else x

/-- The plot of a table index of the cadastre (R349). -/
def cadastrePlot (i : Nat) : Nat := if i < 4227072 then i else 2 ^ 23 + (i - 4227072)

/-- The word that a place of a table holds; `none` for a reserved address. -/
def State.hitRead (s : State) : TabHit → Option Nat
  | .none => none
  | .word t => some (s.tab t.key).toNat
  | .factory k p j => some (toBits 32 (sext 18 (Config.factoryRs k p j)))
  | .cadastre i => some (s.cadastre (cadastrePlot (i / 2)) / 2 ^ (32 * (i % 2)) % 2 ^ 32)
  | .gazetteer i => some (match s.gazEntry (i / 8) with
    | none => 0
    | some x => leNat (((GazEntry.bytes x).drop (4 * (i % 8))).take 4))

/-- Whether a gain table is in use by a slot or a beam (R238). -/
def State.gainInUse (s : State) (g : Nat) : Bool :=
  s.gtabInUse g || s.allCfgs.any (fun e => bits (e.2.w 7) 15 10 == g)

/-- The event that refuses a write of a word of the coefficient store, a resampler set, a gain table, a channeliser set or the
weight store that is in use, with its instance (R189, R207, R221, R227, R238). -/
def State.wordInUse (s : State) (key : Nat) : Option (EvId × Nat) :=
  let x := key - 0x1000000
  if 2 * 2 ^ 40 ≤ key then
    let page := (key - 2 * 2 ^ 40) / 0x10000
    if s.weightInUse page then some (evBFM_WEIGHT_IN_USE, page) else none
  else if 2 ^ 40 ≤ key then
    let n := (key - 2 ^ 40) / 0x400000
    if s.csInUse n then some (evCHP_COEF_IN_USE, n) else none
  else if x < 0x200000 then (if s.coefInUse (x / 0x200) then some (evCHP_COEF_IN_USE, x / 0x200) else none)
  else if x < 0x300000 then
    let k := (x - 0x200000) / 0x40000
    if s.rsInUse k then some (evCHP_COEF_IN_USE, k) else none
  else if x < 0x500000 then
    let g := (x - 0x300000) / 0x8000
    if s.gainInUse g then some (evCHP_COEF_IN_USE, g) else none
  else none

/-- The event that refuses a write of a place of a table, with its instance: the element is in use or locked. -/
def State.hitBusy (s : State) : TabHit → Option (EvId × Nat)
  | .factory k _ _ => some (evCHP_COEF_LOCKED, k)
  | .word t =>
    match s.wordInUse t.key with
    | some e => some e
    | none => if s.routeBusy t.key then some (evETH_CFG_BUSY, 65535) else none
  | _ => none

/-- Whether a place of a table can be written at all. -/
def TabHit.writable : TabHit → Bool
  | .word _ => true
  | .factory _ _ _ => true
  | _ => false

/-- Put the bytes that a mask covers into a word of a table. -/
def State.hitPut (s : State) (h : TabHit) (mask v : Nat) : State :=
  match h with
  | .word t =>
    let old := (s.tab t.key).toNat
    s.setTab t.key (w32 (t.fix (old - (old &&& mask) + (v &&& mask))))
  | _ => s

/-- The words that a write of bytes touches, in order. -/
def dataWords (data : List (Nat × Byte)) : List Nat := (data.map (fun d => d.1 / 4 * 4)).eraseDups

/-- A write of bytes through the aperture (R501): reserved and read-only words count as reserved accesses, a word in use is ignored
with its event, once for each element, and the other bytes merge into their words. -/
def State.tabWrite (s : State) (fn : Nat) (data : List (Nat × Byte)) : State :=
  let ws := dataWords data
  let s1 := (ws.filter (fun o => !(s.tabHit o).writable)).foldl (fun (s : State) o => s.reservedHit fn 0 o true) s
  let busy := (ws.filterMap (fun o => s.hitBusy (s.tabHit o))).eraseDups
  let s2 := busy.foldl (fun (s : State) e => s.raise e.1 e.2) s1
  (data.filter (fun d => (s.tabHit d.1).writable && (s.hitBusy (s.tabHit d.1)).isNone)).foldl (fun (s : State) d =>
    s.hitPut (s.tabHit d.1) (255 * 256 ^ (d.1 % 4)) (d.2.toNat * 256 ^ (d.1 % 4))) s2

/-- TABLE_APERTURE_WRITE (R501): a write request of function fn to the aperture; `data` gives the enabled bytes by BAR0
offset. -/
def execTableApertureWrite (fn : Nat) (data : List (Nat × Byte)) (s : State) : Host.Outcome State Fault Refusal :=
  let s1 := s.flushHeld fn
  let d := data.filter (fun d => decide (0x1000000 ≤ d.1) && decide (d.1 < 0x4000000))
  .next (if fn = 0 && !s1.shut 0x1000000 then s1.tabWrite fn d
    else (dataWords d).foldl (fun (s : State) o => s.reservedHit fn 0 o true) s1)

end Sys2Proof.Machine
end

