-- ==== Sys2Proof/Machine/CmdCfg.lean ====
section
/-! DEFINITION. The CFG opcodes (R545, R561 to R567, R577). Each `op…` is the opcode's own checks and action (checks 7 and 8
of R519); each `exec…` is a packet of that opcode as it reaches the command engine. -/
namespace Sys2Proof.Machine

/-! ## Shared forms -/

/-- The words of registers as a query returns them: no read has a side effect (R543). -/
def State.regWords (s : State) (l : List Reg) : List Word := l.map (fun r => w32 ((s.live r.key).getD (s.rn r)))

/-- A packet whose parameters are words that must have no reserved bit and no reserved encoding, from word `i` on (R538). -/
def Packet.wordsOk (p : Packet) (i : Nat) (l : List Reg) : Bool :=
  (l.zip (List.range l.length)).all (fun x => regWordOk x.1 (Packet.word p (i + x.2)))

/-- Whether a byte of the parameters is a boolean. -/
def boolByte (v : Nat) : Bool := decide (v < 2)

/-! ## Identification and keys -/

/-- CFG_IDENT. -/
def opCfgIdent (p : Packet) (s : State) : CmdOut × State :=
  anyCmd (Packet.sized p 0) s (fun s => s.say 0 (s.regWords [SYS_IDENT, SYS_HUB_ID, CMD_INSTANCE (p.borough % 32)]))

/-- CFG_IDENT (R545). -/
def execCfgIdent (p : Packet) (s : State) : Host.Outcome State Fault Refusal := .next (s.enginePacket 0x0101 false opCfgIdent p)

/-- Whether a Spaxa sheet is started, so that `SYS_HUB_ID` keeps its value (R439). -/
def State.hubIdHeld (s : State) : Bool :=
  (List.range 40).any (fun sh => s.isSet (LNE_SHEET_CTL_START sh) && s.proto sh == 2)

/-- CFG_HUB_ID. -/
def opCfgHubId (p : Packet) (s : State) : CmdOut × State :=
  ownerCmd (Packet.sized p 4 && Packet.wordsOk p 0 [SYS_HUB_ID]) p s (fun s =>
    if s.hubIdHeld then s.say 0x883 else (s.hubIdWrite (pf (Packet.word p 0))).say 0)

/-- CFG_HUB_ID (R439, R545). -/
def execCfgHubId (p : Packet) (s : State) : Host.Outcome State Fault Refusal := .next (s.enginePacket 0x0102 false opCfgHubId p)

/-- CFG_KEY_LOAD. -/
def opCfgKeyLoad (p : Packet) (s : State) : CmdOut × State :=
  ownerCmd (Packet.sized p 36 && decide (Packet.word p 0 < 32)) p s (fun s =>
    (s.keyLoad (Packet.word p 0) ((Packet.bytes p).drop 4)).say 0)

/-- CFG_KEY_LOAD (R527, R545). -/
def execCfgKeyLoad (p : Packet) (s : State) : Host.Outcome State Fault Refusal := .next (s.enginePacket 0x0103 false opCfgKeyLoad p)

/-- CFG_KEY_CLEAR. -/
def opCfgKeyClear (p : Packet) (s : State) : CmdOut × State :=
  ownerCmd (Packet.sized p 4 && decide (Packet.word p 0 < 32)) p s (fun s => (s.keyClear (Packet.word p 0)).say 0)

/-- CFG_KEY_CLEAR (R527, R545). -/
def execCfgKeyClear (p : Packet) (s : State) : Host.Outcome State Fault Refusal := .next (s.enginePacket 0x0104 false opCfgKeyClear p)

/-- CFG_KEY_OWN. -/
def opCfgKeyOwn (p : Packet) (s : State) : CmdOut × State :=
  anyCmd (Packet.sized p 32) s (fun s => (s.keyLoad (p.borough % 32) (Packet.bytes p)).say 0)

/-- CFG_KEY_OWN (R527, R545, R561). -/
def execCfgKeyOwn (p : Packet) (s : State) : Host.Outcome State Fault Refusal := .next (s.enginePacket 0x0105 false opCfgKeyOwn p)

/-- Whether a word with `EN` in bit 31 and a port in bits 15:0 is allowed: `EN` = 1 needs a port (R536, R601). -/
def portWordOk (v : Nat) : Bool := !(bit v 31 && bits v 15 0 == 0)

/-- CFG_UDP. -/
def opCfgUdp (p : Packet) (s : State) : CmdOut × State :=
  ownerCmd (Packet.sized p 4 && Packet.wordsOk p 0 [CMD_UDP] && portWordOk (Packet.word p 0)) p s (fun s =>
    (s.mergeRaw CMD_UDP.key (pf (Packet.word p 0))).say 0)

/-- CFG_UDP (R536, R545). -/
def execCfgUdp (p : Packet) (s : State) : Host.Outcome State Fault Refusal := .next (s.enginePacket 0x0106 false opCfgUdp p)

/-! ## Registers and tables -/

/-- Whether an offset of BAR0 is a register that a CFG opcode reaches: not in the aperture, not reserved. -/
def State.cfgReaches (s : State) (off : Nat) : Bool := decide (off < 0x1000000) && s.assigned 0 off

/-- Whether a read of an offset pops an item or latches the time (R93, R384). -/
def readActs (off : Nat) : Bool :=
  let pop := fun (base step n : Nat) => decide (base ≤ off) && decide (off < base + step * n) && (off - base) % step == 0
  off == 0x30010 || pop 0x30100 32 16 || pop 0x40400 16 16 || pop 0x6000 32 223

/-- Read n words from an offset on as physical function 0 reads them, without side effects. -/
def State.peekWords (s : State) (off n : Nat) : List Word × State :=
  (List.range n).foldl (fun (a : List Word × State) i =>
    let r := a.2.peek 0 (off + 4 * i)
    (a.1 ++ [w32 r.1], r.2)) ([], s)

/-- CFG_REG_READ. -/
def opCfgRegRead (p : Packet) (s : State) : CmdOut × State :=
  let off := Packet.arg p 0 4
  let n := Packet.arg p 4 2
  ownerCmd (Packet.sized p 8 && Packet.arg p 6 2 == 0 && decide (1 ≤ n) && decide (n ≤ 1000)) p s (fun s =>
    let l := (List.range n).map (fun i => off + 4 * i)
    if l.any (fun o => !s.cfgReaches o) then s.say 0x882
    else if l.any readActs then s.say 0x881
    else
      let r := s.peekWords off n
      r.2.say 0 r.1)

/-- CFG_REG_READ (R543, R545). -/
def execCfgRegRead (p : Packet) (s : State) : Host.Outcome State Fault Refusal := .next (s.enginePacket 0x0107 false opCfgRegRead p)

/-- CFG_REG_WRITE: a request for a reset or a restart acts once its reply is sent (R659). -/
def opCfgRegWrite (p : Packet) (s : State) : CmdOut × State :=
  let off := Packet.word p 0
  let v := Packet.word p 1
  ownerCmd (Packet.sized p 8) p s (fun s =>
    if !s.cfgReaches off then s.say 0x882
    else if off = SYS_RST_CTL.key then (.restart v, s)
    else (s.regStore off (pf v)).say 0)

/-- CFG_REG_WRITE (R545). -/
def execCfgRegWrite (p : Packet) (s : State) : Host.Outcome State Fault Refusal := .next (s.enginePacket 0x0108 false opCfgRegWrite p)

/-- What a word address of a table of CFG_TABLE_WRITE and CFG_TABLE_READ reaches: table 0 is the direct region. -/
def State.cfgTable (s : State) (table addr : Nat) : TabHit :=
  if addr % 4 ≠ 0 then .none
  else if table = 0 then (if 0x1000000 ≤ addr && addr < 0x2000000 then directWord (addr - 0x1000000) else .none)
  else if (table = 1 && 0x8000000 ≤ addr) || (table = 4 && 0x40000000 ≤ addr) then .none
  else s.windowTable table addr

/-- The form of CFG_TABLE_WRITE and CFG_TABLE_READ. -/
def tableForm (p : Packet) : Bool :=
  decide (Packet.arg p 0 1 ≤ 4) && Packet.arg p 1 1 == 0 && decide (1 ≤ Packet.arg p 2 2) && decide (Packet.arg p 2 2 ≤ 1000)

/-- The places that such a packet names. -/
def State.tablePlaces (s : State) (p : Packet) : List TabHit :=
  (List.range (Packet.arg p 2 2)).map (fun i => s.cfgTable (Packet.arg p 0 1) (Packet.arg p 4 4 + 4 * i))

/-- Whether a place can be written by CFG_TABLE_WRITE: not the cadastre, the gazetteer, RS0, RS1 or beyond its table. -/
def TabHit.plain : TabHit → Bool
  | .word _ => true
  | _ => false

/-- Write a word of a table, where no queue that is ON uses its entry (R477). -/
def State.tablePut (s : State) (h : TabHit) (v : Word) : State :=
  match s.hitBusy h with
  | some e => s.raise e.1 e.2
  | none => s.hitPut h (2 ^ 32 - 1) v.toNat

/-- Write the words of a packet, from parameter word `i` on, to places of tables. -/
def State.tableWords (s : State) (p : Packet) (i : Nat) (l : List TabHit) : State :=
  (l.zip (p.params.drop i)).foldl (fun (s : State) (x : TabHit × Word) => s.tablePut x.1 x.2) s

/-- Whether a place lies in an element that is in use. -/
def State.placeInUse (s : State) : TabHit → Bool
  | .word t => (s.wordInUse t.key).isSome
  | _ => false

/-- CFG_TABLE_WRITE. -/
def opCfgTableWrite (p : Packet) (s : State) : CmdOut × State :=
  ownerCmd (tableForm p && Packet.sized p (8 + 4 * Packet.arg p 2 2)) p s (fun s =>
    let l := s.tablePlaces p
    if l.any (fun h => !h.plain) then s.say 0x882
    else if l.any s.placeInUse then s.say 0x880
    else (s.tableWords p 2 l).say 0)

/-- CFG_TABLE_WRITE (R545). -/
def execCfgTableWrite (p : Packet) (s : State) : Host.Outcome State Fault Refusal := .next (s.enginePacket 0x0109 false opCfgTableWrite p)

/-- CFG_TABLE_READ. -/
def opCfgTableRead (p : Packet) (s : State) : CmdOut × State :=
  ownerCmd (tableForm p && Packet.sized p 8) p s (fun s =>
    let l := (s.tablePlaces p).map s.hitRead
    if l.any (fun x => x.isNone) then s.say 0x882 else s.say 0 (l.map (fun x => w32 (x.getD 0))))

/-- CFG_TABLE_READ (R545). -/
def execCfgTableRead (p : Packet) (s : State) : Host.Outcome State Fault Refusal := .next (s.enginePacket 0x010A false opCfgTableRead p)

/-! ## Converter groups -/

/-- The status of a code of R146. -/
def cnvStatus (c : Nat) : Nat :=
  match c with
  | 0 => 0 | 1 => 0xD | 2 => 0x201 | 3 => 0x202 | _ => 0x203

/-- CNV_GROUP: the checks of R146 on the mode as it would stand, then the write with its APPLY. -/
def opCnvGroup (p : Packet) (s : State) : CmdOut × State :=
  let g := Packet.word p 0
  ownerCmd (Packet.sized p 16 && decide (g < 24) && Packet.wordsOk p 1 [gCtl g, gPll g, gLock g]) p s (fun s =>
    if s.part.groups ≤ g then s.say 0xC else
    let s1 := (s.wn (gPll g) (Packet.word p 2)).wn (gLock g) (Packet.word p 3)
    let c := (s1.wn (gCtl g) (Packet.word p 1)).applyCheck g
    if c ≠ 0 then
      ((if c = 1 then s.refuseDom g else s).put (CNV_GRP_STAT_CODE (g / 3) (g % 3)) c).say (cnvStatus c)
    else (s1.grpCtlWrite g (pf (setBits (Packet.word p 1) 0 0 1))).say 0)

/-- CNV_GROUP (R146, R545). -/
def execCnvGroup (p : Packet) (s : State) : Host.Outcome State Fault Refusal := .next (s.enginePacket 0x0110 false opCnvGroup p)

/-- CNV_INPUT_EN: the enable stages on the grid of the slot that governs it, or acts at once (R159). -/
def opCnvInputEn (p : Packet) (s : State) : CmdOut × State :=
  let i := Packet.arg p 0 2
  let en := Packet.arg p 2 1
  let r := CNV_IN_CTL (i / 96) (i % 96)
  ownerCmd (Packet.sized p 4 && decide (i < 768) && boolByte en && Packet.arg p 3 1 == 0) p s (fun s =>
    if s.part.inputs ≤ i then s.say 0xC else
    match s.governSlot i with
    | none => (((s.wn r en).fwr r (w32 en)).inputEnable i (en == 1) (s.mt * 2 ^ 32)).sayIdle
    | some (_, x) =>
      let k := s.stageAt (.input i) x.boundGrid p
      if k.1 ≠ 0 then s.say k.1
      else (.staged x.boundGrid k.2 [], (s.wn r en).stage ⟨.input i, x.boundGrid, k.2, actionOf p, [⟨r.key, 1, en⟩], .fields⟩))

/-- CNV_INPUT_EN (R159). -/
def execCnvInputEn (p : Packet) (s : State) : Host.Outcome State Fault Refusal := .next (s.enginePacket 0x0111 true opCnvInputEn p)

/-- CNV_TRACK. -/
def opCnvTrack (p : Packet) (s : State) : CmdOut × State :=
  let g := Packet.word p 0
  let r := CNV_GRP_TRK (g / 3) (g % 3)
  ownerCmd (Packet.sized p 8 && decide (g < 24) && Packet.wordsOk p 1 [r]) p s (fun s =>
    if s.part.groups ≤ g then s.say 0xC
    else (s.mergeRaw r.key (pf (Packet.word p 1))).say 0)

/-- CNV_TRACK (R203, R545). -/
def execCnvTrack (p : Packet) (s : State) : Host.Outcome State Fault Refusal := .next (s.enginePacket 0x0112 false opCnvTrack p)

/-- CNV_STATUS. -/
def opCnvStatus (p : Packet) (s : State) : CmdOut × State :=
  let g := Packet.word p 0
  ownerCmd (Packet.sized p 4 && decide (g < 24)) p s (fun s =>
    if s.part.groups ≤ g then s.say 0xC
    else s.say 0 (s.regWords ([CNV_GRP_STAT (g / 3) (g % 3), CNV_GRP_TRKST (g / 3) (g % 3), CNV_GRP_FS_LO (g / 3) (g % 3),
      CNV_GRP_FS_HI (g / 3) (g % 3)] ++ (grpInputs g).map iStat)))

/-- CNV_STATUS (R545). -/
def execCnvStatus (p : Packet) (s : State) : Host.Outcome State Fault Refusal := .next (s.enginePacket 0x0113 false opCnvStatus p)

/-! ## Boroughs -/

/-- Whether borough b is in reset. -/
def State.resetting (s : State) (b : Nat) : Bool := s.get (BRG_STAT_STATE b) == 1

/-- BRG_QUOTA. -/
def opBrgQuota (p : Packet) (s : State) : CmdOut × State :=
  let b := Packet.word p 0
  ownerCmd (Packet.sized p 8 && decide (b < 32) && Packet.wordsOk p 1 [PLT_QUOTA b]) p s (fun s =>
    if s.resetting b then s.say 0x800
    else if !s.quotaOk b (Packet.word p 1) then s.say 0x803
    else (s.mergeRaw (PLT_QUOTA b).key (pf (Packet.word p 1))).say 0)

/-- BRG_QUOTA (R545, R580). -/
def execBrgQuota (p : Packet) (s : State) : Host.Outcome State Fault Refusal := .next (s.enginePacket 0x0120 false opBrgQuota p)

/-- BRG_GRANT: the checks of R564. -/
def opBrgGrant (p : Packet) (s : State) : CmdOut × State :=
  let b := Packet.arg p 0 1
  let slot := Packet.arg p 2 2
  let kinds := Packet.arg p 4 4
  ownerCmd (Packet.sized p 8 && Packet.arg p 1 1 == 0 && decide (slot < 1024) && bits kinds 27 14 == 0) p s (fun s =>
    if b = 0 || 32 ≤ b || s.resetting b then s.say 0x800
    else if !s.grantFormOk b slot kinds then s.say 4
    else match s.freeGrant slot with
      | none => s.say 0x801
      | some g => (s.grantMake g b slot kinds).say 0 [w32 g])

/-- BRG_GRANT (R564). -/
def execBrgGrant (p : Packet) (s : State) : Host.Outcome State Fault Refusal := .next (s.enginePacket 0x0121 false opBrgGrant p)

/-- BRG_REVOKE. -/
def opBrgRevoke (p : Packet) (s : State) : CmdOut × State :=
  let g := Packet.word p 0
  ownerCmd (Packet.sized p 4 && decide (g < 2048)) p s (fun s =>
    if !s.isSet (BRG_GRANT0_VALID g) then s.say 0x802 else (s.grantFree g).say 0)

/-- BRG_REVOKE (R567). -/
def execBrgRevoke (p : Packet) (s : State) : Host.Outcome State Fault Refusal := .next (s.enginePacket 0x0122 false opBrgRevoke p)

/-- BRG_BEAMS: ranges of a tenant that meet no other tenant's; a first above the last is an empty range (R561). -/
def opBrgBeams (p : Packet) (s : State) : CmdOut × State :=
  let b := Packet.arg p 0 1
  let first := Packet.arg p 2 2
  let last := Packet.arg p 4 2
  let wfirst := Packet.arg p 6 2
  let wlast := Packet.arg p 8 2
  let ok := Packet.sized p 12 && Packet.arg p 1 1 == 0 && Packet.arg p 10 2 == 0 && decide (b < 32)
    && (decide (last < first) || decide (last < 4096))
  ownerCmd ok p s (fun s =>
    if b = 0 || s.resetting b then s.say 0x800
    else if s.rangesTaken b first last wfirst wlast then s.say 4
    else (s.beamRanges b first last wfirst wlast).say 0)

/-- BRG_BEAMS (R561). -/
def execBrgBeams (p : Packet) (s : State) : Host.Outcome State Fault Refusal := .next (s.enginePacket 0x0123 false opBrgBeams p)

/-- BRG_RESET. -/
def opBrgReset (p : Packet) (s : State) : CmdOut × State :=
  let b := Packet.word p 0
  holderCmd (Packet.sized p 4 && decide (b < 32)) (p.borough % 32 == 0 || p.borough % 32 == b) s (fun s =>
    if !s.canReset b then s.say 0x800 else (.reset b, s))

/-- BRG_RESET (R577). -/
def execBrgReset (p : Packet) (s : State) : Host.Outcome State Fault Refusal := .next (s.enginePacket 0x0124 false opBrgReset p)

/-- How many beams borough b owns (R560, R561). -/
def State.beamsOwned (s : State) (b : Nat) : Nat :=
  let own := fun t => s.get (BRG_BEAMS_LAST t) + 1 - s.get (BRG_BEAMS_FIRST t)
  if b = 0 then 4096 - ((List.range 31).map (fun t => own (t + 1))).foldl (· + ·) 0 else own b

/-- BRG_STATUS. -/
def opBrgStatus (p : Packet) (s : State) : CmdOut × State :=
  let b := Packet.word p 0
  holderCmd (Packet.sized p 4 && decide (b < 32)) (p.borough % 32 == 0 || p.borough % 32 == b) s (fun s =>
    s.say 0 (s.regWords [PLT_QUOTA b, PLT_USED b] ++ [w32 (s.get (BRG_STAT_GRANTS b)), w32 (s.beamsOwned b)]))

/-- BRG_STATUS (R545). -/
def execBrgStatus (p : Packet) (s : State) : Host.Outcome State Fault Refusal := .next (s.enginePacket 0x0125 false opBrgStatus p)

end Sys2Proof.Machine
end

