-- ==== Sys2Proof/Machine/CmdPipe.lean ====
section
/-! DEFINITION. The PIPE opcodes (R544, R546). -/
namespace Sys2Proof.Machine

/-! ## The unit selector (R544) -/

/-- Whether a selector names a district or every slot. -/
def selMany (u : Nat) : Bool := bit u 31 || bit u 30

/-- The slots that a selector names; `none` where it is malformed or its district has no member. -/
def State.selSlots (s : State) (u : Nat) : Option (List Nat) :=
  let l := if bit u 31 then (if bits u 30 6 = 0 then s.districtSlots (bits u 5 0) else [])
    else if bit u 30 then (if bits u 29 0 = 0 then List.range 1024 else [])
    else if bits u 29 10 = 0 then [bits u 9 0] else []
  if l.isEmpty then none else some l

/-- Refuse a command with the status of its first failing slot (R544). -/
def State.refuseSlot (s : State) (u status n : Nat) : CmdOut × State := s.say status (if selMany u then [w32 n] else [])

/-- The status that bears the name of a code of `CHP_STAT` (R541). -/
def chpStatus (c : Nat) : Nat :=
  match c with
  | 0 => 0 | 1 => 0xC | 2 => 0x210 | 3 => 0x103 | 4 => 0x211 | 5 => 0x212 | 6 => 0x213 | 7 => 0xA | 8 => 0x214 | _ => 0x215

/-- Refuse a command with a code of R170, which the slot's `CODE` shows as well. -/
def State.refuseCode (s : State) (u c n : Nat) : CmdOut × State := (s.slotCode n c).refuseSlot u (chpStatus c) n

/-- Refuse a command that needs the closed domain of a slot's engine (R629). -/
def State.refuseAsleep (s : State) (u n : Nat) : CmdOut × State := (s.refuseDom (s.slotDomain n)).refuseSlot u 0xD n

/-- A command of the owner whose first word is a selector. -/
def selectorCmd (ok : Bool) (p : Packet) (s : State) (f : List Nat → State → CmdOut × State) : CmdOut × State :=
  match s.selSlots (Packet.word p 0) with
  | none => s.say 4
  | some l => ownerCmd ok p s (f l)

/-- The first slot of a list that a check fails, with its code. -/
def firstFail (l : List Nat) (c : Nat → Nat) : Option (Nat × Nat) :=
  l.findSome? (fun n => if c n = 0 then none else some (n, c n))

/-- The boundary that a packet asks for on grid g, however near it lies (R30, R31). -/
def State.askedIndex (s : State) (g : Nat) (p : Packet) : Nat :=
  match Packet.act p with
  | none => s.boundaryAt g (s.mt + stageLead)
  | some t => s.boundaryAt g t

/-! ## Commits (R169, R540 to R542) -/

/-- Values over a reading of a slot's window. -/
def overVals (n : Nat) (f : Nat → Nat) (vals : List SVal) (o : Nat) : Nat :=
  vals.foldl (fun a v => if v.key = 0x800000 + 0x400 * n + o then a - (a &&& v.mask) + (v.val &&& v.mask) else a) (f o)

/-- Write values into a slot's shadow. -/
def State.shadowPut (s : State) (n : Nat) (vals : List SVal) : State :=
  (vals.foldl (fun (s : State) v => match regOfKey v.key with
    | some r => s.wn r (s.rn r - (s.rn r &&& v.mask) + (v.val &&& v.mask))
    | none => s) s).showDirty n

/-- Stage values on every slot of a list for one boundary, all or none (R29 to R33, R170, R544). -/
def State.pipeCommit (s : State) (p : Packet) (restart : Bool) (l : List Nat) (vals : Nat → List SVal) : CmdOut × State :=
  let u := Packet.word p 0
  let check := fun n =>
    let g := (s.slot n).boundGrid
    let k := s.askedIndex g p
    let c := s.slotCheck n g false restart (overVals n (s.slotAt n k) (vals n)) k
    if c = 7 then 0 else c
  match firstFail l check with
  | some (n, c) => s.refuseCode u c n
  | none =>
    let g := (s.slot (l.headD 0)).boundGrid
    match l.find? (fun n => (s.slot n).boundGrid != g) with
    | some n => s.refuseSlot u 0xB n
    | none =>
      match s.stageIndex g (Packet.act p) with
      | none => s.refuseSlot u 9 (l.headD 0)
      | some k =>
        match l.find? (fun n => s.stageFull (.slot n) k) with
        | some n => s.refuseCode u 7 n
        | none =>
          (.staged g k [], l.foldl (fun (s : State) n =>
            (((s.shadowPut n (vals n)).stage ⟨.slot n, g, k, actionOf p, vals n, if restart then .restart else .fields⟩).slotCode n
              0).showDirty n) s)

/-- An opcode that sets staged fields of slots: on IDLE slots the shadow alone takes them (R540). -/
def State.pipeSet (s : State) (p : Packet) (restart : Bool) (l : List Nat) (vals : Nat → List SVal) : CmdOut × State :=
  if l.all (fun n => s.slotState n == 0) then (l.foldl (fun (s : State) n => s.shadowPut n (vals n)) s).sayIdle
  else s.pipeCommit p restart l vals

/-- The values of registers of slot n from parameter word `i` on, their staged fields. -/
def wordVals (p : Packet) (i : Nat) (l : List (Nat → Reg)) (n : Nat) : List SVal :=
  (l.zip (List.range l.length)).map (fun x => ⟨(x.1 n).key, match regAt (x.1 n).key with
    | some (row, _) => row.stagedMask
    | none => 0, Packet.word p (i + x.2)⟩)

/-- An opcode whose parameters are a selector and register words: `restart` words lie between where it has the byte. -/
def pipeWords (p : Packet) (s : State) (withRestart : Bool) (l : List (Nat → Reg)) : CmdOut × State :=
  let i := if withRestart then 2 else 1
  let r := if withRestart then Packet.word p 1 else 0
  selectorCmd (Packet.sized p (4 * (i + l.length)) && decide (r < 2) && Packet.wordsOk p i (l.map (fun r => r 0))) p s (fun sl s =>
    s.pipeSet p (r == 1) sl (wordVals p i l))

/-! ## Opcodes -/

/-- PIPE_SOURCE: written only on IDLE slots. -/
def opPipeSource (p : Packet) (s : State) : CmdOut × State :=
  let v := Packet.word p 1
  selectorCmd (Packet.sized p 8 && Packet.wordsOk p 1 [CHP_SRC 0]) p s (fun l s =>
    if bits v 31 30 = 1 && decide (bits v 9 0 < 768) && decide (s.part.inputs ≤ bits v 9 0) then s.say 0xC
    else match l.find? (fun n => s.slotState n != 0) with
      | some n => s.refuseCode (Packet.word p 0) 9 n
      | none => (l.foldl (fun (s : State) n => s.chpSrcWrite n (pf v)) s).say 0)

/-- PIPE_SOURCE (R171, R546). -/
def execPipeSource (p : Packet) (s : State) : Host.Outcome State Fault Refusal := .next (s.enginePacket 0x0201 false opPipeSource p)

/-- Bind slots one after another on grid g, so that each is checked beside those before it (R166); the first that fails ends it. -/
def State.bindAll (s : State) (g : Nat) (p : Packet) : List Nat → Option (Nat × Nat)
  | [] => none
  | n :: r =>
    let k := s.askedIndex g p
    if !s.awake (s.slotDomain n) then some (n, 10)
    else
      let c := s.slotCheck n g true false (s.slotShadow n) k
      if c ≠ 0 && c ≠ 7 then some (n, c) else (s.stageBind n g k (actionOf p)).bindAll g p r

/-- PIPE_BIND. -/
def opPipeBind (p : Packet) (s : State) : CmdOut × State :=
  let u := Packet.word p 0
  let g := Packet.word p 1
  selectorCmd (Packet.sized p 8 && decide (g < 8)) p s (fun l s =>
    match s.bindAll g p l with
    | some (n, c) => if c = 10 then s.refuseAsleep u n else s.refuseCode u c n
    | none =>
      match s.stageIndex g (Packet.act p) with
      | none => s.refuseSlot u 9 (l.headD 0)
      | some k =>
        match l.find? (fun n => s.stageFull (.slot n) k) with
        | some n => s.refuseCode u 7 n
        | none =>
          (.staged g k [], l.foldl (fun (s : State) n => ((s.stageBind n g k (actionOf p)).slotCode n 0).showDirty n) s))

/-- PIPE_BIND (R167, R546). -/
def execPipeBind (p : Packet) (s : State) : Host.Outcome State Fault Refusal := .next (s.enginePacket 0x0202 true opPipeBind p)

/-- PIPE_DELAY. -/
def opPipeDelay (p : Packet) (s : State) : CmdOut × State := pipeWords p s false [CHP_DELAY]

/-- PIPE_DELAY (R546). -/
def execPipeDelay (p : Packet) (s : State) : Host.Outcome State Fault Refusal := .next (s.enginePacket 0x0203 true opPipeDelay p)

/-- Whether the pending bind of slot n lies far enough ahead to be cancelled (R168). -/
def State.bindCancels (s : State) (n : Nat) : Bool :=
  let x := s.slot n
  x.waits == 1 && (match s.bindIndex n with
    | some b => decide (s.mt + stageLead ≤ s.gridInstant x.boundGrid b)
    | none => true)

/-- The boundary of an unbind of slot n that is asked for at boundary k: behind a bind that takes effect first (R168). -/
def State.unbindIndex (s : State) (n k : Nat) : Nat :=
  match s.bindIndex n with
  | some b => if (s.slot n).waits = 1 then max k (b + s.frameLen (s.slot n).boundGrid) else k
  | none => k

/-- PIPE_UNBIND: pending binds far enough ahead are cancelled, and the other slots end at one boundary. -/
def opPipeUnbind (p : Packet) (s : State) : CmdOut × State :=
  let u := Packet.word p 0
  selectorCmd (Packet.sized p 4) p s (fun l s =>
    match l.find? (fun n => !s.awake (s.slotDomain n)) with
    | some n => s.refuseAsleep u n
    | none =>
      match l.find? (fun n => s.slotState n == 0 || s.unbindWaits n) with
      | some n => s.refuseCode u 8 n
      | none =>
        let drop := l.filter s.bindCancels
        let rest := l.filter (fun n => !s.bindCancels n)
        let g := (s.slot (rest.headD 0)).boundGrid
        let cancel := fun (t : State) => drop.foldl (fun (t : State) n => ((t.idleSlot n).slotCode n 0).showDirty n) t
        if rest.isEmpty then (cancel s).abortDiscarded.sayIdle
        else match rest.find? (fun n => (s.slot n).boundGrid != g) with
          | some n => s.refuseSlot u 0xB n
          | none =>
            match s.stageIndex g (Packet.act p) with
            | none => s.refuseSlot u 9 (rest.headD 0)
            | some k0 =>
              let k := rest.foldl (fun a n => max a (s.unbindIndex n k0)) k0
              let s1 := rest.foldl (fun (s : State) n => (s.stageUnbind n k (actionOf p)).slotCode n 0) s
              (.staged g k [], (cancel s1).abortDiscarded))

/-- PIPE_UNBIND (R168, R546). -/
def execPipeUnbind (p : Packet) (s : State) : Host.Outcome State Fault Refusal := .next (s.enginePacket 0x0204 true opPipeUnbind p)

/-- PIPE_MIX. -/
def opPipeMix (p : Packet) (s : State) : CmdOut × State := pipeWords p s false [CHP_MIX, CHP_NCO_LO, CHP_NCO_HI]

/-- PIPE_MIX (R546). -/
def execPipeMix (p : Packet) (s : State) : Host.Outcome State Fault Refusal := .next (s.enginePacket 0x0205 true opPipeMix p)

/-- PIPE_DECIMATE. -/
def opPipeDecimate (p : Packet) (s : State) : CmdOut × State :=
  pipeWords p s true ((List.range 5).map (fun k => fun n => CHP_DEC n k))

/-- PIPE_DECIMATE (R546). -/
def execPipeDecimate (p : Packet) (s : State) : Host.Outcome State Fault Refusal := .next (s.enginePacket 0x0206 true opPipeDecimate p)

/-- PIPE_RESAMPLE. -/
def opPipeResample (p : Packet) (s : State) : CmdOut × State := pipeWords p s false [CHP_RSM_CTL]

/-- PIPE_RESAMPLE (R546). -/
def execPipeResample (p : Packet) (s : State) : Host.Outcome State Fault Refusal := .next (s.enginePacket 0x0207 true opPipeResample p)

/-- PIPE_CHANNEL. -/
def opPipeChannel (p : Packet) (s : State) : CmdOut × State :=
  pipeWords p s true [CHP_CHN_CTL, CHP_CHN_SCALE, CHP_CHN_SEL]

/-- PIPE_CHANNEL (R546). -/
def execPipeChannel (p : Packet) (s : State) : Host.Outcome State Fault Refusal := .next (s.enginePacket 0x0208 true opPipeChannel p)

/-- PIPE_REDUCE. -/
def opPipeReduce (p : Packet) (s : State) : CmdOut × State := pipeWords p s false [CHP_RDC_CTL, CHP_RDC_RQ, CHP_RDC_HIST]

/-- PIPE_REDUCE (R546). -/
def execPipeReduce (p : Packet) (s : State) : Host.Outcome State Fault Refusal := .next (s.enginePacket 0x0209 true opPipeReduce p)

/-- PIPE_ROUTE. -/
def opPipeRoute (p : Packet) (s : State) : CmdOut × State := pipeWords p s false [CHP_ROUTE]

/-- PIPE_ROUTE (R546). -/
def execPipeRoute (p : Packet) (s : State) : Host.Outcome State Fault Refusal := .next (s.enginePacket 0x020A true opPipeRoute p)

/-- PIPE_INTAKE: bits 24:22 of `CHP_CTL` and the intake words. -/
def opPipeIntake (p : Packet) (s : State) : CmdOut × State :=
  let l := [CHP_BLANK, CHP_CALMASK, CHP_CALDLY, CHP_TEST]
  let v := Packet.word p 1
  selectorCmd (Packet.sized p 24 && v &&& 0x01C00000 == v && Packet.wordsOk p 2 (l.map (fun r => r 0))) p s (fun sl s =>
    s.pipeSet p false sl (fun n => ⟨(CHP_CTL n).key, 0x01C00000, v⟩ :: wordVals p 2 l n))

/-- PIPE_INTAKE (R546). -/
def execPipeIntake (p : Packet) (s : State) : Host.Outcome State Fault Refusal := .next (s.enginePacket 0x020B true opPipeIntake p)

/-- PIPE_COMMIT: the whole shadow of every slot. -/
def opPipeCommit (p : Packet) (s : State) : CmdOut × State :=
  selectorCmd (Packet.sized p 8 && decide (Packet.word p 1 < 2)) p s (fun l s =>
    match l.find? (fun n => !s.awake (s.slotDomain n)) with
    | some n => s.refuseAsleep (Packet.word p 0) n
    | none => s.pipeCommit p (Packet.word p 1 == 1) l (fun n => s.snapshot (slotKeys n)))

/-- PIPE_COMMIT (R169, R546). -/
def execPipeCommit (p : Packet) (s : State) : Host.Outcome State Fault Refusal := .next (s.enginePacket 0x020C true opPipeCommit p)

/-- PIPE_FPD. -/
def opPipeFpd (p : Packet) (s : State) : CmdOut × State :=
  selectorCmd (Packet.sized p 16 && Packet.wordsOk p 1 [CHP_FPD_CTL 0, CHP_FPD_HI 0, CHP_FPD_LO 0]) p s (fun l s =>
    (l.foldl (fun (s : State) n => ((s.mergeRaw (CHP_FPD_CTL n).key (pf (Packet.word p 1))).mergeRaw (CHP_FPD_HI n).key
      (pf (Packet.word p 2))).mergeRaw (CHP_FPD_LO n).key (pf (Packet.word p 3))) s).say 0)

/-- PIPE_FPD (R241, R546). -/
def execPipeFpd (p : Packet) (s : State) : Host.Outcome State Fault Refusal := .next (s.enginePacket 0x020D false opPipeFpd p)

/-- Whether a command that names district d waits for its reply. -/
def State.districtWaits (s : State) (d : Nat) : Bool :=
  s.cmds.any (fun c => decide (0x0201 ≤ c.op) && decide (c.op ≤ 0x020D) && Packet.word c.pkt 0 == 2 ^ 31 + d)

/-- PIPE_DISTRICT. -/
def opPipeDistrict (p : Packet) (s : State) : CmdOut × State :=
  let d := Packet.word p 0
  ownerCmd (Packet.sized p 132 && decide (d < 64)) p s (fun s =>
    if s.districtWaits d then s.say 0x214
    else ((List.range 32).foldl (fun (s : State) w => s.wn (CHP_DMEM d w) (Packet.word p (1 + w))) s).say 0)

/-- PIPE_DISTRICT (R192, R546). -/
def execPipeDistrict (p : Packet) (s : State) : Host.Outcome State Fault Refusal := .next (s.enginePacket 0x020E false opPipeDistrict p)

/-- PIPE_RAW: a reserved `POLICY` in a word that sets `EN` is CMP_RANGE, by check 1 of R330. -/
def opPipeRaw (p : Packet) (s : State) : CmdOut × State :=
  let n := Packet.word p 0
  let v := Packet.word p 1
  let sets := bit v 31 && !s.isSet (CMP_RAW_EN n)
  ownerCmd (Packet.sized p 8 && decide (n < 1024) && regWordOk (CMP_RAW n) (if sets then setBits v 10 8 0 else v)) p s (fun s =>
    let r := s.rawSet n v
    match r.1 with
    | none => r.2.say 0x883
    | some c => r.2.say (if c = 0 then 0 else 0x40F + c))

/-- PIPE_RAW (R330, R546). -/
def execPipeRaw (p : Packet) (s : State) : Host.Outcome State Fault Refusal := .next (s.enginePacket 0x020F false opPipeRaw p)

/-- PIPE_STATUS. -/
def opPipeStatus (p : Packet) (s : State) : CmdOut × State :=
  let n := Packet.word p 0
  ownerCmd (Packet.sized p 4 && decide (n < 1024)) p s (fun s =>
    s.say 0 (s.regWords [CHP_STAT n, CHP_RSM_STAT n, CHP_UNS n, CHP_GD n, CHP_SATCNT n, CHP_RSM_STEP_LO n, CHP_RSM_STEP_HI n,
      CHP_RSM_GAPS_LO n, CHP_RSM_GAPS_HI n, CHP_RSM_GFIRST_LO n, CHP_RSM_GFIRST_HI n, CHP_RSM_GLAST_LO n, CHP_RSM_GLAST_HI n,
      CMP_RAW_STAT n]))

/-- PIPE_STATUS (R543, R546). -/
def execPipeStatus (p : Packet) (s : State) : Host.Outcome State Fault Refusal := .next (s.enginePacket 0x0210 false opPipeStatus p)

end Sys2Proof.Machine
end

