-- ==== Sys2Proof/Machine/CmdBeam.lean ====
section
/-! DEFINITION. The BEAM and GRID opcodes (R21 to R26, R230, R547, R569). -/
namespace Sys2Proof.Machine

/-! ## Beams -/

/-- The borough that owns a weight page (R561). -/
def State.pageBorough (s : State) (page : Nat) : Nat :=
  ((List.range 32).find? (fun t => t != 0 && decide (s.get (BRG_PAGES_FIRST t) ≤ page) && decide (page ≤ s.get (BRG_PAGES_LAST t)))).getD 0

/-- The pages that a configuration names. -/
def BeamCfg.pages (c : BeamCfg) : List Nat :=
  if c.en then (List.range (ceilDiv c.weights 16384)).map (fun i => bits (c.w 0) 15 0 + i) else []

/-- Whether borough t owns the beams and pages of a range, and no enabled beam of another borough names an input set of it (R547). -/
def State.beamsAllowed (s : State) (t : Nat) (l : List (Nat × BeamCfg)) : Bool :=
  l.all (fun e => s.beamBorough e.1 == t && e.2.pages.all (fun q => s.pageBorough q == t)
    && (!e.2.en || !s.allCfgs.any (fun x => s.beamBorough x.1 != t && bits (x.2.w 0) 27 20 == bits (e.2.w 0) 27 20)))

/-- The status of a code of `BFM_STAT` (R541). -/
def bfmStatus (c : Nat) : Nat :=
  match c with
  | 0 => 0 | 1 => 0x220 | 2 => 0x221 | 3 => 0xB | 4 => 0x222 | 5 => 0x223 | 6 => 0x224 | _ => 0xA

/-- Refuse a command with a code of R230, which `BFM_STAT` shows as well. -/
def State.refuseBeam (s : State) (c b : Nat) : CmdOut × State :=
  ((s.put BFM_STAT_CODE c).put BFM_STAT_BEAM b).say (bfmStatus c)

/-- The descriptors of a packet from parameter word 1 on. -/
def packetCfgs (s : State) (p : Packet) (first n : Nat) : List (Nat × BeamCfg) :=
  (List.range n).map (fun i =>
    let ws := (List.range 8).map (fun w => Packet.word p (1 + 8 * i + w))
    (first + i, s.cfgOf ws))

/-- Write the descriptors of configurations into the shadow. -/
def State.descPut (s : State) (l : List (Nat × BeamCfg)) : State :=
  l.foldl (fun (s : State) e => (List.range 8).foldl (fun (s : State) i => s.wn (BFM_DESC e.1 i) (e.2.w i)) s) s

/-- Commit a range of configurations for the sender of a packet (R230, R542). -/
def State.beamCommit (s : State) (p : Packet) (first last : Nat) (l0 : List (Nat × BeamCfg)) : CmdOut × State :=
  let g := s.rangeGrid l0
  let k := s.askedIndex (g.getD 0) p
  let l := l0.map (fun e => (e.1, s.cfgAtIdx k e.2))
  let c := s.beamChecks (p.borough % 32) first last (g.getD 0) k l
  if !s.awake 81 then (s.refuseDom 81).say 0xD
  else if c.1 ≠ 0 && c.1 ≠ 7 then s.refuseBeam c.1 c.2
  else match g with
    | none => ((((s.descPut l).put BFM_STAT_CODE 0).put BFM_STAT_BEAM 0).forceRange l).sayIdle
    | some g =>
      match s.stageIndex g (Packet.act p) with
      | none => s.say 9
      | some k =>
        if c.1 ≠ 0 then s.refuseBeam c.1 c.2
        else (.staged g k [], (((s.descPut l).put BFM_STAT_CODE 0).put BFM_STAT_BEAM 0).stageRange g k (actionOf p) l)

/-- BEAM_SET. -/
def opBeamSet (p : Packet) (s : State) : CmdOut × State :=
  let first := Packet.arg p 0 2
  let last := Packet.arg p 2 2
  let n := last + 1 - first
  let l := packetCfgs s p first n
  holderCmd (Packet.sized p (4 + 32 * n) && decide (first < 4096) && decide (last < 4096) && decide (n ≤ 100))
    (s.beamsAllowed (p.borough % 32) l) s (fun s => s.beamCommit p first last l)

/-- BEAM_SET (R230, R547, R568, R569). -/
def execBeamSet (p : Packet) (s : State) : Host.Outcome State Fault Refusal := .next (s.enginePacket 0x0301 true opBeamSet p)

/-- The grid and the configuration of a beam at the boundary that a packet asks for, where it is in force or a change waits. -/
def State.beamThen (s : State) (p : Packet) (b : Nat) : Option (Nat × BeamCfg) :=
  let g := if (s.beam b).on then some (s.cfgNow b).grid
    else (s.staged.find? (fun x => x.unit == .beam b)).map (fun x => x.grid)
  g.map (fun g =>
    let c := s.cfgAt s.staged b (s.gridInstant g (s.askedIndex g p))
    (g, if c.words.isEmpty then s.cfgNow b else c))

/-- BEAM_DISABLE: the beams of the range that are in force or staged end at their boundary. -/
def opBeamDisable (p : Packet) (s : State) : CmdOut × State :=
  let first := Packet.arg p 0 2
  let last := Packet.arg p 2 2
  let l := (List.range (last + 1 - first)).map (fun i => first + i)
  holderCmd (Packet.sized p 4 && decide (first < 4096) && decide (last < 4096))
    (l.all (fun b => s.beamBorough b == p.borough % 32)) s (fun s =>
      let on := l.filterMap (fun b => (s.beamThen p b).map (fun x => (b, x)))
      let g := ((on.head?).map (fun e => e.2.1)).getD 0
      let shade := fun (s : State) => l.foldl (fun (s : State) b => s.wn (BFM_DESC b 0) (setBits (s.rn (BFM_DESC b 0)) 31 31 0)) s
      if last < first then s.refuseBeam 1 first
      else if on.isEmpty then (((shade s).put BFM_STAT_CODE 0).put BFM_STAT_BEAM 0).sayIdle
      else match on.find? (fun e => e.2.1 != g) with
        | some e => s.refuseBeam 3 e.1
        | none =>
          match s.stageIndex g (Packet.act p) with
          | none => s.say 9
          | some k =>
            match on.find? (fun e => s.stageFull (.beam e.1) k) with
            | some e => s.refuseBeam 7 e.1
            | none =>
              let off := on.map (fun e => (e.1, e.2.2.off))
              (.staged g k [], (((shade s).put BFM_STAT_CODE 0).put BFM_STAT_BEAM 0).stageRange g k (actionOf p) off))

/-- BEAM_DISABLE (R230, R547). -/
def execBeamDisable (p : Packet) (s : State) : Host.Outcome State Fault Refusal := .next (s.enginePacket 0x0302 true opBeamDisable p)

/-- BEAM_ISET. -/
def opBeamIset (p : Packet) (s : State) : CmdOut × State :=
  let n := Packet.word p 0
  ownerCmd (Packet.sized p 132 && decide (n < 256)) p s (fun s =>
    if s.allCfgs.any (fun e => bits (e.2.w 0) 27 20 == n) then s.say 0x221
    else ((List.range 32).foldl (fun (s : State) w => s.wn (BFM_ISET n w) (Packet.word p (1 + w))) s).say 0)

/-- BEAM_ISET (R547). -/
def execBeamIset (p : Packet) (s : State) : Host.Outcome State Fault Refusal := .next (s.enginePacket 0x0303 false opBeamIset p)

/-- A memory stack that is not awake. -/
def State.stackDown (s : State) : Option Nat := (List.range 6).find? (fun i => !s.awake (84 + i))

/-- BEAM_WEIGHTS. -/
def opBeamWeights (p : Packet) (s : State) : CmdOut × State :=
  let n := Packet.arg p 4 2
  let at_ := Packet.arg p 0 2 * 16384 + Packet.arg p 2 2
  let pages := (List.range ((at_ + n - 1) / 16384 + 1 - at_ / 16384)).map (fun i => at_ / 16384 + i)
  holderCmd (decide (1 ≤ n) && decide (n ≤ 1000) && Packet.sized p (8 + 4 * n) && Packet.arg p 6 2 == 0 && decide (Packet.arg p 2 2 < 16384))
    ((pages.filter (fun q => decide (q < 65536))).all (fun q => s.pageBorough q == p.borough % 32)) s (fun s =>
      if decide (65536 * 16384 < at_ + n) || pages.any s.weightInUse then s.say 0x222
      else match s.stackDown with
        | some i => (s.refuseDom (84 + i)).say 0xD
        | none => ((List.range n).foldl (fun (s : State) i =>
            s.setTab (2 * 2 ^ 40 + 4 * (at_ + i)) (w32 (Packet.word p (2 + i)))) s).say 0)

/-- BEAM_WEIGHTS (R227, R547). -/
def execBeamWeights (p : Packet) (s : State) : Host.Outcome State Fault Refusal := .next (s.enginePacket 0x0304 false opBeamWeights p)

/-- BEAM_STATUS. -/
def opBeamStatus (p : Packet) (s : State) : CmdOut × State :=
  let b := Packet.word p 0
  holderCmd (Packet.sized p 4 && decide (b < 4096)) (s.beamBorough b == p.borough % 32) s (fun s =>
    s.say 0 (s.regWords [BFM_BSTAT0 b, BFM_CHAIN_LATE b, BFM_GAPS_LO b, BFM_GAPS_HI b]
      ++ (List.range 8).map (fun i => w32 ((s.cfgNow b).w i))))

/-- BEAM_STATUS (R547). -/
def execBeamStatus (p : Packet) (s : State) : Host.Outcome State Fault Refusal := .next (s.enginePacket 0x0305 false opBeamStatus p)

/-- BEAM_LOAD. -/
def opBeamLoad (p : Packet) (s : State) : CmdOut × State :=
  anyCmd (Packet.sized p 0) s (fun s =>
    s.say 0 (s.regWords [BFM_CAP, BFM_LOAD] ++ [w32 (loadUnits (s.loadSum ((s.beamsOfBorough (p.borough % 32)).map s.cfgNow)))]))

/-- BEAM_LOAD (R226, R547). -/
def execBeamLoad (p : Packet) (s : State) : Host.Outcome State Fault Refusal := .next (s.enginePacket 0x0306 false opBeamLoad p)

/-! ## Grids -/

/-- The descriptor of grid g is replaced or removed. What still drains on it from units no longer bound ends with the old one; a beam
in force there begins anew with the first frame boundary to come (DESIGN CHOICE, log entry 66). -/
def State.gridRenew (s : State) (g : Nat) : State :=
  let s1 := s.slots.foldl (fun (s : State) e =>
    if e.2.run && e.2.grid == g then ((s.slotEndItems e.1).cutTile e.1 true false false).endOutput e.1 else s) s
  s1.beams.foldl (fun (s : State) e =>
    if e.2.run && e.2.grid == g then
      let x := s.beam e.1
      let s2 := x.marks.foldl (fun s m => s.passBeam e.1 m) (s.setBeam e.1 { x with marks := [] })
      let y := s2.beam e.1
      if y.run then s2.setBeam e.1 { y with waits := [], nextJ := ceilDiv (s2.boundaryAt g s2.mt) (chanStep y.chan) } else s2
    else s) s1


/-- Whether 12 bytes of the parameters are a Meridian time (R48). -/
def mtArgOk (p : Packet) (a : Nat) : Bool := decide (Packet.arg p (a + 2) 4 < 1000000000)

/-- A Meridian time of 12 bytes of the parameters: fraction, nanoseconds, seconds. -/
def mtArg (p : Packet) (a : Nat) : Int := mtOf (Packet.arg p (a + 6) 6) (Packet.arg p (a + 2) 4) (Packet.arg p a 2)

/-- An accepted definition or clearing of grid g is counted (R718). -/
def State.gridGen (s : State) (g : Nat) : State := s.put (SYS_GRID_CTL_GEN g) (s.get (SYS_GRID_CTL_GEN g) + 1)

/-- GRID_DEFINE. -/
def opGridDefine (p : Packet) (s : State) : CmdOut × State :=
  let g := Packet.arg p 0 1
  let flog2 := Packet.arg p 1 1
  let num := Packet.arg p 16 8
  let den := Packet.arg p 24 4
  ownerCmd (Packet.sized p 28 && decide (g < 8) && Packet.arg p 2 2 == 0 && mtArgOk p 4) p s (fun s =>
    if !gridLegal num den flog2 then s.say 0x101
    else if s.gridBound g ≠ 0 then s.say 0x102
    else
      let s1 := ((s.wn (SYS_GRID_EP_FRAC g) (Packet.arg p 4 2)).wn (SYS_GRID_EP_NS g) (Packet.arg p 6 4)).wr64
        (SYS_GRID_EP_SEC_LO g) (SYS_GRID_EP_SEC_HI g) (Packet.arg p 10 6)
      let s2 := (s1.wr64 (SYS_GRID_NUM_LO g) (SYS_GRID_NUM_HI g) num).wn (SYS_GRID_DEN g) den
      let s3 : State := { s2 with gridNext := mapPut 0 g 0 s2.gridNext }
      ((((s3.put (SYS_GRID_CTL_FRAME_LOG2 g) flog2).put (SYS_GRID_CTL_VALID g) 1).gridGen g).gridRenew g).say 0)

/-- GRID_DEFINE (R21, R22, R26). -/
def execGridDefine (p : Packet) (s : State) : Host.Outcome State Fault Refusal := .next (s.enginePacket 0x0401 false opGridDefine p)

/-- GRID_CLEAR. -/
def opGridClear (p : Packet) (s : State) : CmdOut × State :=
  let g := Packet.word p 0
  ownerCmd (Packet.sized p 4 && decide (g < 8)) p s (fun s =>
    if s.gridBound g ≠ 0 then s.say 0x102
    else (((({ s with gridNext := mapPut 0 g 0 s.gridNext } : State).put (SYS_GRID_CTL_VALID g) 0).gridGen g).gridRenew g).say 0)

/-- GRID_CLEAR (R26, R547). -/
def execGridClear (p : Packet) (s : State) : Host.Outcome State Fault Refusal := .next (s.enginePacket 0x0402 false opGridClear p)

/-- GRID_READ. -/
def opGridRead (p : Packet) (s : State) : CmdOut × State :=
  let g := Packet.word p 0
  anyCmd (Packet.sized p 4 && decide (g < 8)) s (fun s =>
    s.say 0 (bytesWords (leBytes 2 (s.rn (SYS_GRID_EP_FRAC g)) ++ leBytes 4 (s.rn (SYS_GRID_EP_NS g))
      ++ leBytes 6 (s.rd64 (SYS_GRID_EP_SEC_LO g) (SYS_GRID_EP_SEC_HI g)) ++ leBytes 8 (s.gridNum g) ++ leBytes 4 (s.gridDen g)
      ++ leBytes 1 (s.frameLog2 g) ++ leBytes 1 (b2n (s.gridValid g)) ++ leBytes 2 0 ++ leBytes 4 (s.gridBound g))))

/-- GRID_READ (R547). -/
def execGridRead (p : Packet) (s : State) : Host.Outcome State Fault Refusal := .next (s.enginePacket 0x0403 false opGridRead p)

/-- GRID_INDEX. -/
def opGridIndex (p : Packet) (s : State) : CmdOut × State :=
  let g := Packet.word p 0 % 256
  anyCmd (Packet.sized p 16 && decide (Packet.word p 0 < 8) && mtArgOk p 4) s (fun s =>
    if !s.gridValid g then s.say 0x103
    else
      let k := s.gridIndexAt g (mtArg p 4)
      s.say 0 (bytesWords (leBytes 8 k ++ mtBytes (s.gridInstant g k) ++ leBytes 4 0)))

/-- GRID_INDEX (R23, R547). -/
def execGridIndex (p : Packet) (s : State) : Host.Outcome State Fault Refusal := .next (s.enginePacket 0x0404 false opGridIndex p)

end Sys2Proof.Machine
end

