-- ==== Sys2Proof/Machine/CmdQueue.lean ====
section
/-! DEFINITION. The QUEUE and PLOT opcodes (R351 to R353, R357, R548, R562, R573 to R575). -/
namespace Sys2Proof.Machine

/-! ## Queues -/

/-- The status of a code of `QUE_STAT` (R352, R534). -/
def queStatus (c : Nat) : Nat :=
  match c with
  | 0 => 0 | 1 => 0x420 | 2 => 0x421 | 3 => 0x430 | 4 => 0x431 | 5 => 0x422 | 6 => 0x423 | _ => 0x424

/-- A command on queue q of the sender's borough; a tenant names no queue of the rings (R539, R562). -/
def queCmd (ok : Bool) (p : Packet) (q : Nat) (s : State) (f : State → CmdOut × State) : CmdOut × State :=
  let b := p.borough % 32
  holderCmd (ok && decide (q < 16384)) (s.get (QUE_CFG0_BOROUGH q) == b) s (fun s =>
    if b ≠ 0 && 16128 ≤ q then s.say 0x421 else f s)

/-- The six configuration registers of queue q. -/
def queRegs (q : Nat) : List Reg := [QUE_CFG0 q, QUE_CFG1 q, QUE_CFG2 q, QUE_CFG3 q, QUE_CFG4 q, QUE_CFG5 q]

/-- Whether a tenant's QUEUE_CONFIG keeps the rules of R562. -/
def State.tenantQueueOk (s : State) (b v : Nat) : Bool :=
  bits v 28 24 == b && !bit v 22 && bits v 31 29 != 5 && decide (1 ≤ bits v 7 0) && decide (bits v 7 0 ≤ s.get (BRG_CTL_WMAX b))

/-- Write the configuration words of a packet, from parameter word 1 on. -/
def State.queWords (s : State) (p : Packet) (l : List Reg) : State :=
  (l.zip (p.params.drop 1)).foldl (fun (s : State) (x : Reg × Word) => s.mergeRaw x.1.key ⟨0, 15, x.2⟩) s

/-- QUEUE_CONFIG. -/
def opQueueConfig (p : Packet) (s : State) : CmdOut × State :=
  let q := Packet.word p 0
  let b := p.borough % 32
  let v := Packet.word p 1
  let same := fun (s : State) (i : Nat) => Packet.word p (1 + i) == s.rn ((queRegs q).getD i (QUE_CFG0 q))
  queCmd (Packet.sized p 28 && Packet.wordsOk p 1 (queRegs q)) p q s (fun s =>
    if b ≠ 0 && !s.tenantQueueOk b v then s.say 0x421
    else if s.get (QUE_STAT_STATE q) = 0 then (s.queWords p (queRegs q)).say 0
    else if bits v 31 8 ≠ bits (s.rn (QUE_CFG0 q)) 31 8 || !([1, 3, 4, 5] : List Nat).all (same s) then s.say 0x420
    else if bits v 7 0 = 0 then s.say 0x421
    else ((s.put (QUE_CFG0_WEIGHT q) (bits v 7 0)).put (QUE_CFG2_MAX q) (bits (Packet.word p 3) 22 0)).say 0)

/-- QUEUE_CONFIG (R353, R548, R562). -/
def execQueueConfig (p : Packet) (s : State) : Host.Outcome State Fault Refusal := .next (s.enginePacket 0x0501 false opQueueConfig p)

/-- QUEUE_ENABLE. -/
def opQueueEnable (p : Packet) (s : State) : CmdOut × State :=
  let q := Packet.word p 0
  queCmd (Packet.sized p 4) p q s (fun s => let r := s.queEnable q; r.2.say (queStatus r.1))

/-- QUEUE_ENABLE (R351, R352). -/
def execQueueEnable (p : Packet) (s : State) : Host.Outcome State Fault Refusal := .next (s.enginePacket 0x0502 false opQueueEnable p)

/-- QUEUE_DISABLE. -/
def opQueueDisable (p : Packet) (s : State) : CmdOut × State :=
  let q := Packet.word p 0
  queCmd (Packet.sized p 4) p q s (fun s => let r := s.queDisable q; r.2.say (queStatus r.1))

/-- QUEUE_DISABLE (R351, R353). -/
def execQueueDisable (p : Packet) (s : State) : Host.Outcome State Fault Refusal := .next (s.enginePacket 0x0503 false opQueueDisable p)

/-- QUEUE_FLUSH: its result is the bytes discarded. -/
def opQueueFlush (p : Packet) (s : State) : CmdOut × State :=
  let q := Packet.word p 0
  queCmd (Packet.sized p 4) p q s (fun s =>
    let r := s.queFlush q
    r.2.say (queStatus r.1.1) (if r.1.1 = 0 then bytesWords (leBytes 8 r.1.2) else []))

/-- QUEUE_FLUSH (R351, R353). -/
def execQueueFlush (p : Packet) (s : State) : Host.Outcome State Fault Refusal := .next (s.enginePacket 0x0504 false opQueueFlush p)

/-- QUEUE_STATUS. -/
def opQueueStatus (p : Packet) (s : State) : CmdOut × State :=
  let q := Packet.word p 0
  queCmd (Packet.sized p 4) p q s (fun s =>
    s.say 0 (s.regWords [QUE_STAT q, QUE_HELD q, QUE_BYTES_LO q, QUE_BYTES_HI q, QUE_GAP_FIRST_LO q, QUE_GAP_FIRST_HI q,
      QUE_GAP_LAST_LO q, QUE_GAP_LAST_HI q, QUE_GAPS q, QUE_DROP q]))

/-- QUEUE_STATUS (R548). -/
def execQueueStatus (p : Packet) (s : State) : Host.Outcome State Fault Refusal := .next (s.enginePacket 0x0505 false opQueueStatus p)

/-- QUEUE_CHAIN: cadastre entries of the queue's plots, all of one instant. -/
def opQueueChain (p : Packet) (s : State) : CmdOut × State :=
  let q := Packet.word p 0
  let skip := Packet.arg p 4 4
  let n := Packet.arg p 8 2
  queCmd (Packet.sized p 12 && Packet.arg p 10 2 == 0 && decide (1 ≤ n) && decide (n ≤ 500)) p q s (fun s =>
    let l := (((s.que q).chain.filter (fun x => x != holePlot)).drop skip).take n
    s.say 0 (w32 l.length :: bytesWords (l.flatMap (fun x => leBytes 8 (s.cadastre x)))))

/-- QUEUE_CHAIN (R349, R548). -/
def execQueueChain (p : Packet) (s : State) : Host.Outcome State Fault Refusal := .next (s.enginePacket 0x0506 false opQueueChain p)

/-- Whether a queue of borough b that is ON or DRAINING names delivery ring i (R575). -/
def State.ringNamed (s : State) (b i : Nat) : Bool :=
  s.quesOn.any (fun q => s.get (QUE_CFG0_BOROUGH q) == b && s.get (QUE_CFG4_DEST q) == 0 && s.get (QUE_CFG4_ID q) == i
    && decide (q < 16128))

/-- Configure and enable delivery ring i of borough b: its totals start again, and its record is written (R573). -/
def State.deliverySet (s : State) (b i size base vec : Nat) : State :=
  if size = 0 then s.setDelivery b i { s.delivery b i with on := false }
  else (s.setDelivery b i { on := true, base := base, size := size, vec := vec, fresh := true }).recordFirst b i

/-- QUEUE_DELIVER. -/
def opQueueDeliver (p : Packet) (s : State) : CmdOut × State :=
  let b := p.borough % 32
  let i := Packet.arg p 0 2
  let size := Packet.arg p 2 1
  let base := Packet.arg p 4 8
  let vec := Packet.arg p 12 2
  anyCmd (Packet.sized p 16 && Packet.arg p 3 1 == 0 && Packet.arg p 14 2 == 0 && decide (i < 4096) && base % 4096 == 0
      && (size == 0 || (decide (4 ≤ size) && decide (size ≤ 18)))) s (fun s =>
    if vec ≠ 0xFFFF && vecCount b ≤ vec then s.say 0x10
    else if s.ringNamed b i then s.say 0x420
    else (s.deliverySet b i size base vec).say 0)

/-- QUEUE_DELIVER (R573, R575). -/
def execQueueDeliver (p : Packet) (s : State) : Host.Outcome State Fault Refusal := .next (s.enginePacket 0x0507 false opQueueDeliver p)

/-! ## Plots -/

/-- PLOT_STATUS. -/
def opPlotStatus (p : Packet) (s : State) : CmdOut × State :=
  let b := p.borough % 32
  anyCmd (Packet.sized p 0) s (fun s =>
    s.say 0 (s.regWords [PLT_STAT, PLT_FAR_FREE, PLT_NEAR_FREE, PLT_RES_FREE, PLT_ESC_FREE, PLT_EL_ALLOC, PLT_EL_USED,
      PLT_QUOTA b, PLT_USED b]))

/-- PLOT_STATUS (R548). -/
def execPlotStatus (p : Packet) (s : State) : Host.Outcome State Fault Refusal := .next (s.enginePacket 0x0601 false opPlotStatus p)

/-- PLOT_ESCAPE. -/
def opPlotEscape (p : Packet) (s : State) : CmdOut × State :=
  let v := Packet.word p 0
  ownerCmd (Packet.sized p 4 && Packet.wordsOk p 0 [PLT_ESC]) p s (fun s =>
    match s.escSet (bits v 31 24) (bits v 22 0) with
    | some t => t.say 0
    | none => s.say 0x431)

/-- PLOT_ESCAPE (R357). -/
def execPlotEscape (p : Packet) (s : State) : Host.Outcome State Fault Refusal := .next (s.enginePacket 0x0602 false opPlotEscape p)

/-- PLOT_LOW. -/
def opPlotLow (p : Packet) (s : State) : CmdOut × State :=
  ownerCmd (Packet.sized p 4 && Packet.wordsOk p 0 [PLT_LOW]) p s (fun s => (s.mergeRaw PLT_LOW.key (pf (Packet.word p 0))).say 0)

/-- PLOT_LOW (R548). -/
def execPlotLow (p : Packet) (s : State) : Host.Outcome State Fault Refusal := .next (s.enginePacket 0x0603 false opPlotLow p)

/-- PLOT_COUNTERS: clears `PLT_NOPLOT`; its result is the value before. -/
def opPlotCounters (p : Packet) (s : State) : CmdOut × State :=
  ownerCmd (Packet.sized p 0) p s (fun s => (s.wn PLT_NOPLOT 0).say 0 [s.rd PLT_NOPLOT])

/-- PLOT_COUNTERS (R548). -/
def execPlotCounters (p : Packet) (s : State) : Host.Outcome State Fault Refusal := .next (s.enginePacket 0x0604 false opPlotCounters p)

end Sys2Proof.Machine
end

