-- ==== Sys2Proof/Machine/CmdTime.lean ====
section
/-! DEFINITION. The TIME opcodes (R57 to R61, R108, R127, R136, R510, R549). -/
namespace Sys2Proof.Machine

/-- TIME_READ: Meridian time, the free count and the time status of one tick. -/
def opTimeRead (p : Packet) (s : State) : CmdOut × State :=
  anyCmd (Packet.sized p 0) s (fun s =>
    s.say 0 (bytesWords (mtBytes s.mt ++ leBytes 8 (s.tb.fc % 2 ^ 64)) ++ s.regWords [TB_STATUS]))

/-- TIME_READ (R549). -/
def execTimeRead (p : Packet) (s : State) : Host.Outcome State Fault Refusal := .next (s.enginePacket 0x0701 false opTimeRead p)

/-- The status of a code of `TB_ADJ_STAT` (R58, R534). -/
def adjStatus (c : Nat) : Nat := if c = 0 then 0 else 0x010F + c

/-- The operations that an `ops` byte selects. -/
def adjOpsOf (v : Nat) : AdjOps := ⟨bit v 1, bit v 2, bit v 3, bit v 4, bit v 5⟩

/-- TIME_ADJUST: the checks of R58 on its own values, in place of the staging registers. -/
def opTimeAdjust (p : Packet) (s : State) : CmdOut × State :=
  let ops := Packet.arg p 0 1
  let rate := sext 64 (Packet.arg p 4 8)
  let amt := sext 64 (Packet.arg p 12 8)
  let ppb := Packet.arg p 20 4
  ownerCmd (Packet.sized p 24 && Packet.arg p 1 3 == 0 && decide (ops < 64) && ops % 2 == 0) p s (fun s =>
    if s.isSet TB_ADJ_CTL_GO then s.say (adjStatus 3)
    else
      let s := s.foldDue
      let o := adjOpsOf ops
      let c := s.adjCheck o rate amt ppb
      let s1 := if c = 0 then s.adjApply o rate amt ppb else s
      (s1.put TB_ADJ_STAT_CODE c).say (adjStatus c))

/-- TIME_ADJUST (R58, R60, R61, R549). -/
def execTimeAdjust (p : Packet) (s : State) : Host.Outcome State Fault Refusal := .next (s.enginePacket 0x0702 false opTimeAdjust p)

/-- TIME_SOURCE. -/
def opTimeSource (p : Packet) (s : State) : CmdOut × State :=
  ownerCmd (Packet.sized p 12 && Packet.wordsOk p 0 [TB_DISC, TB_QUAL, TB_HOLD_LIMIT]) p s (fun s =>
    let s1 := s.mergeRaw TB_QUAL.key (pf (Packet.word p 1))
    ((s1.mergeRaw TB_HOLD_LIMIT.key (pf (Packet.word p 2))).discWrite (pf (Packet.word p 0))).say 0)

/-- TIME_SOURCE (R69, R70, R108). -/
def execTimeSource (p : Packet) (s : State) : Host.Outcome State Fault Refusal := .next (s.enginePacket 0x0703 false opTimeSource p)

/-- A command that writes one register with a word of its parameters. -/
def wordCmd (r : Reg) (p : Packet) (s : State) : CmdOut × State :=
  ownerCmd (Packet.sized p 4 && Packet.wordsOk p 0 [r]) p s (fun s => (s.regStore r.key (pf (Packet.word p 0))).say 0)

/-- TIME_AGE. -/
def opTimeAge (p : Packet) (s : State) : CmdOut × State := wordCmd TB_AGE p s

/-- TIME_AGE (R53, R549). -/
def execTimeAge (p : Packet) (s : State) : Host.Outcome State Fault Refusal := .next (s.enginePacket 0x0704 false opTimeAge p)

/-- TIME_PPS_DELAY. -/
def opTimePpsDelay (p : Packet) (s : State) : CmdOut × State := wordCmd TB_PPS_DELAY p s

/-- TIME_PPS_DELAY (R63, R549). -/
def execTimePpsDelay (p : Packet) (s : State) : Host.Outcome State Fault Refusal := .next (s.enginePacket 0x0705 false opTimePpsDelay p)

/-- TIME_TAI_UTC. -/
def opTimeTaiUtc (p : Packet) (s : State) : CmdOut × State := wordCmd TB_TAI_UTC p s

/-- TIME_TAI_UTC (R49, R549). -/
def execTimeTaiUtc (p : Packet) (s : State) : Host.Outcome State Fault Refusal := .next (s.enginePacket 0x0706 false opTimeTaiUtc p)

/-- TIME_STATUS. -/
def opTimeStatus (p : Packet) (s : State) : CmdOut × State :=
  anyCmd (Packet.sized p 0) s (fun s =>
    s.say 0 (s.regWords [TB_STATUS, TB_HOLD_LO, TB_HOLD_HI, TB_RATE_LO, TB_RATE_HI, TB_ADJ_AMT_LO, TB_ADJ_AMT_HI]))

/-- TIME_STATUS (R549). -/
def execTimeStatus (p : Packet) (s : State) : Host.Outcome State Fault Refusal := .next (s.enginePacket 0x0707 false opTimeStatus p)

/-- A command that names unit n of `max` in its first byte, and carries words of that unit's registers. -/
def unitCmd (max : Nat) (regs : Nat → List Reg) (p : Packet) (s : State) (f : Nat → State → CmdOut × State) : CmdOut × State :=
  let n := Packet.word p 0
  ownerCmd (Packet.sized p (4 + 4 * (regs n).length) && decide (n < max) && Packet.wordsOk p 1 (regs n)) p s (f n)

/-- Write the words of such a command as register writes. -/
def State.unitWords (s : State) (p : Packet) (regs : List Reg) : State :=
  (regs.zip (p.params.drop 1)).foldl (fun (s : State) (x : Reg × Word) => s.regStore x.1.key ⟨0, 15, x.2⟩) s

/-- TIME_EDGE. -/
def opTimeEdge (p : Packet) (s : State) : CmdOut × State :=
  let regs := fun n => [TIM_EDGE_CFG n, TIM_EDGE_DELAY n]
  unitCmd 16 regs p s (fun n s => (s.unitWords p (regs n)).say 0)

/-- TIME_EDGE (R127, R549). -/
def execTimeEdge (p : Packet) (s : State) : Host.Outcome State Fault Refusal := .next (s.enginePacket 0x0708 false opTimeEdge p)

/-- TIME_FREQ: a source of an absent group is a reserved value (R136). -/
def opTimeFreq (p : Packet) (s : State) : CmdOut × State :=
  let regs := fun n => [TIM_FREQ_CFG n]
  let ok := !s.freqSrcReserved (bits (Packet.word p 1) 6 0)
  if Packet.sized p 8 && !ok then s.say 4
  else unitCmd 8 regs p s (fun n s => (s.unitWords p (regs n)).say 0)

/-- TIME_FREQ (R136, R549). -/
def execTimeFreq (p : Packet) (s : State) : Host.Outcome State Fault Refusal := .next (s.enginePacket 0x0709 false opTimeFreq p)

/-- TIME_FREQ_READ: the registers of one gate. -/
def opTimeFreqRead (p : Packet) (s : State) : CmdOut × State :=
  unitCmd 8 (fun _ => []) p s (fun k s =>
    s.say 0 (s.regWords [TIM_FREQ_N k, TIM_FREQ_I_LO k, TIM_FREQ_I_HI k, TIM_FREQ_F_LO k, TIM_FREQ_F_HI k, TIM_FREQ_ST k]))

/-- TIME_FREQ_READ (R136, R549). -/
def execTimeFreqRead (p : Packet) (s : State) : Host.Outcome State Fault Refusal := .next (s.enginePacket 0x070A false opTimeFreqRead p)

/-- TIME_PTM. -/
def opTimePtm (p : Packet) (s : State) : CmdOut × State := wordCmd SYS_PTM_CTL p s

/-- TIME_PTM (R510, R549). -/
def execTimePtm (p : Packet) (s : State) : Host.Outcome State Fault Refusal := .next (s.enginePacket 0x070B false opTimePtm p)

end Sys2Proof.Machine
end

