-- ==== Sys2Proof/Machine/CmdTrig.lean ====
section
/-! DEFINITION. The TRIG opcodes (R297 to R302, R306 to R308, R550). -/
namespace Sys2Proof.Machine

/-- The status of a code of `TRG_OUT_STAT` (R301, R534). -/
def trgStatus (c : Nat) : Nat :=
  match c with
  | 0 => 0 | 1 => 0x401 | 2 => 0x402 | 3 => 0x103 | 4 => 0x403 | 5 => 0x404 | _ => 0x405

/-- The words of output t in the order of TRIG_ARM. -/
def trgRegs (t : Nat) : List Reg := [TRG_OUT_CFG t, TRG_OUT_ACT t, TRG_OUT_TIM t, TRG_CAP0 t, TRG_CAP1 t, TRG_CAP2 t]

/-- TRIG_ARM: all words of the output are written, and it is armed; an `ARM` of OFF arms nothing. -/
def opTrigArm (p : Packet) (s : State) : CmdOut × State :=
  unitCmd 64 trgRegs p s (fun t s =>
    if s.get (TRG_OUT_STAT_STATE t) ≠ 0 then s.say 0x404
    else
      let s1 := ((trgRegs t).zip (p.params.drop 1)).foldl (fun (s : State) (x : Reg × Word) => s.mergeRaw x.1.key ⟨0, 15, x.2⟩) s
      if s1.get (TRG_OUT_CFG_ARM t) = 0 then s1.say 0
      else
        let r := s1.trgArm t
        r.2.say (trgStatus r.1))

/-- TRIG_ARM (R301, R550). -/
def execTrigArm (p : Packet) (s : State) : Host.Outcome State Fault Refusal := .next (s.enginePacket 0x0801 false opTrigArm p)

/-- TRIG_DISARM. -/
def opTrigDisarm (p : Packet) (s : State) : CmdOut × State :=
  unitCmd 64 (fun _ => []) p s (fun t s => (s.trgOff t).say 0)

/-- TRIG_DISARM (R300). -/
def execTrigDisarm (p : Packet) (s : State) : Host.Outcome State Fault Refusal := .next (s.enginePacket 0x0802 false opTrigDisarm p)

/-- TRIG_FIRE: a source-22 trigger for one output, at the time named or now. -/
def opTrigFire (p : Packet) (s : State) : CmdOut × State :=
  let t := Packet.arg p 0 1
  let now := Packet.arg p 1 1
  let ok := Packet.sized p 16 && decide (t < 64) && boolByte now && Packet.arg p 2 2 == 0 && mtArgOk p 4
    && (now == 0 || Packet.arg p 4 12 == 0)
  ownerCmd ok p s (fun s =>
    if s.get (TRG_OUT_CFG_SRC t) ≠ 22 then s.say 0x401
    else
      let at_ := if now = 1 then s.mt else mtArg p 4
      let took := s.get (TRG_OUT_STAT_STATE t) == 1
      (s.fireTrig t (if now = 1 then none else some at_)).say 0 (bytesWords (mtBytes at_ ++ leBytes 4 (b2n took))))

/-- TRIG_FIRE (R297, R302, R550). -/
def execTrigFire (p : Packet) (s : State) : Host.Outcome State Fault Refusal := .next (s.enginePacket 0x0803 false opTrigFire p)

/-- TRIG_SRC_SKEW. -/
def opTrigSrcSkew (p : Packet) (s : State) : CmdOut × State :=
  let regs := fun n => [TRG_SRC_SKEW n]
  unitCmd 21 regs p s (fun n s => (s.unitWords p (regs n)).say 0)

/-- TRIG_SRC_SKEW (R297). -/
def execTrigSrcSkew (p : Packet) (s : State) : Host.Outcome State Fault Refusal := .next (s.enginePacket 0x0804 false opTrigSrcSkew p)

/-- TRIG_RING: the mask and the control word of the ring. -/
def opTrigRing (p : Packet) (s : State) : CmdOut × State :=
  ownerCmd (Packet.sized p 132 && Packet.wordsOk p 0 [TRG_RING_CTL]) p s (fun s =>
    let s1 := (List.range 32).foldl (fun (s : State) w => s.wn (TRG_RING_MASK w) (Packet.word p (1 + w))) s
    (s1.ringCtlWrite (pf (Packet.word p 0))).say 0)

/-- TRIG_RING (R307, R308). -/
def execTrigRing (p : Packet) (s : State) : Host.Outcome State Fault Refusal := .next (s.enginePacket 0x0805 false opTrigRing p)

/-- TRIG_CAPSET: refused while an output that is not OFF names the set. -/
def opTrigCapset (p : Packet) (s : State) : CmdOut × State :=
  let n := Packet.word p 0
  ownerCmd (Packet.sized p 132 && decide (n < 16)) p s (fun s =>
    if (List.range 64).any (fun t => s.get (TRG_OUT_STAT_STATE t) != 0 && s.isSet (TRG_OUT_CFG_CAP_EN t)
        && s.get (TRG_CAP0_SET t) == n) then s.say 0x401
    else ((List.range 32).foldl (fun (s : State) w => s.wn (TRG_CAPSET n w) (Packet.word p (1 + w))) s).say 0)

/-- TRIG_CAPSET (R550). -/
def execTrigCapset (p : Packet) (s : State) : Host.Outcome State Fault Refusal := .next (s.enginePacket 0x0806 false opTrigCapset p)

/-- TRIG_NET. -/
def opTrigNet (p : Packet) (s : State) : CmdOut × State :=
  wordCmd TRG_NET p s

/-- TRIG_NET (R298). -/
def execTrigNet (p : Packet) (s : State) : Host.Outcome State Fault Refusal := .next (s.enginePacket 0x0807 false opTrigNet p)

/-- TRIG_STREAM: a stream that is enabled goes to a stream-out queue of borough 0 (R306). -/
def opTrigStream (p : Packet) (s : State) : CmdOut × State :=
  let v := Packet.word p 0
  let q := bits v 13 0
  ownerCmd (Packet.sized p 4 && Packet.wordsOk p 0 [TRG_CTL]) p s (fun s =>
    if bit v 15 && !(s.get (QUE_CFG0_TYPE q) == 0 && s.get (QUE_CFG0_BOROUGH q) == 0) then s.say 0x403
    else (s.mergeRaw TRG_CTL.key (pf v)).say 0)

/-- TRIG_STREAM (R306, R550). -/
def execTrigStream (p : Packet) (s : State) : Host.Outcome State Fault Refusal := .next (s.enginePacket 0x0808 false opTrigStream p)

/-- TRIG_STATUS. -/
def opTrigStatus (p : Packet) (s : State) : CmdOut × State :=
  unitCmd 64 (fun _ => []) p s (fun t s =>
    s.say 0 (s.regWords [TRG_OUT_STAT t, TRG_OUT_REF t, TRG_STAT, TRG_RING_STAT, TRG_RING_USED, TRG_RING_HELD]))

/-- TRIG_STATUS (R550). -/
def execTrigStatus (p : Packet) (s : State) : Host.Outcome State Fault Refusal := .next (s.enginePacket 0x0809 false opTrigStatus p)

end Sys2Proof.Machine
end

