-- ==== Sys2Proof/Machine/CmdCal.lean ====
section
/-! DEFINITION. The CAL and FE opcodes (R132, R156, R158, R256 to R265, R289 to R293, R551). -/
namespace Sys2Proof.Machine

/-! ## Trim pages -/

/-- CAL_TRIM_REPAIR: the passing copy is written onto the failing one. -/
def opCalTrimRepair (p : Packet) (s : State) : CmdOut × State :=
  let n := Packet.word p 0
  ownerCmd (Packet.sized p 4 && decide (n < 32)) p s (fun s =>
    let a := s.isSet (CAL_PAGE_STAT_A_OK n)
    let b := s.isSet (CAL_PAGE_STAT_B_OK n)
    if !s.pageFitted n then s.say 0xC
    else if !a && !b then s.say 0x311
    else if a && b then s.say 0x312
    else (.later [], { s with nvm := s.nvm ++ [⟨1, n, b2n a, false, s.trimCopy n (b2n b), actionOf p, none⟩] }))

/-- CAL_TRIM_REPAIR (R289). -/
def execCalTrimRepair (p : Packet) (s : State) : Host.Outcome State Fault Refusal := .next (s.enginePacket 0x0901 false opCalTrimRepair p)

/-- CAL_USER_MEASURE: the checks of R291 in order. -/
def opCalUserMeasure (p : Packet) (s : State) : CmdOut × State :=
  let conv := Packet.arg p 0 1
  let g := Packet.arg p 1 1
  let q := Packet.arg p 2 1
  let avg := Packet.arg p 3 1
  let slot := Packet.arg p 4 2
  ownerCmd (Packet.sized p 8 && Packet.arg p 6 2 == 0) p s (fun s =>
    if !s.awake 91 then (s.refuseDom 91).say 0xD
    else if conv < 17 && s.calBusy conv then s.say 0x313
    else if q < 32 && s.excState q ≠ 2 then s.say 0x314
    else if 16 < conv || 3 < g || 31 < q || 8 < avg || slot < 5 || 1000 < slot then s.say 0x312
    else (.later [], { s with calMeas := s.calMeas ++ [⟨conv, g, q, avg, slot, actionOf p, s.mt⟩] }))

/-- CAL_USER_MEASURE (R291). -/
def execCalUserMeasure (p : Packet) (s : State) : Host.Outcome State Fault Refusal := .next (s.enginePacket 0x0902 false opCalUserMeasure p)

/-- Whether the sums of the factory and user fields that a packet's pair i makes lie within R290. -/
def State.userSumOk (s : State) (p : Packet) (i : Nat) : Bool :=
  let a := 0x20 + 8 * (4 * Packet.arg p (4 + 8 * i) 1 + Packet.arg p (5 + 8 * i) 1)
  let ok := fun (f : Nat) (u : Nat) =>
    let v := sext 16 (f % 65536) + sext 16 u
    decide (-32768 ≤ v) && decide (v ≤ 32767)
  ok (s.trimWord 2 a) (Packet.arg p (6 + 8 * i) 2) && ok (s.trimWord 2 (a + 4)) (Packet.arg p (8 + 8 * i) 2)

/-- What page 3 holds after the writes in progress: its sequence and words. -/
def State.userPage (s : State) : Nat × List (Nat × Word) :=
  match (s.nvm.filter (fun j => j.kind == 0)).getLast? with
  | some j => (j.data.seq, j.data.words)
  | none =>
    let a := s.trimCopy 3 0
    let b := s.trimCopy 3 1
    let c := if a.ok && (!b.ok || decide (b.seq ≤ a.seq)) then 0 else 1
    (s.nextUserSeq - 1, (List.range 136).map (fun i =>
      (0x20 + 4 * i, if a.ok || b.ok then w32 (s.copyBody 3 c (0x20 + 4 * i)) else 0#32)))

/-- Put the fields of a packet's pairs over the words of page 3. -/
def userWords (p : Packet) (l : List (Nat × Word)) : List (Nat × Word) :=
  (List.range (Packet.arg p 0 1)).foldl (fun (l : List (Nat × Word)) i =>
    let a := 0x20 + 8 * (4 * Packet.arg p (4 + 8 * i) 1 + Packet.arg p (5 + 8 * i) 1)
    l.map (fun w => if w.1 = a then (a, w32 (Packet.arg p (6 + 8 * i) 2))
      else if w.1 = a + 4 then (a + 4, w32 (Packet.arg p (8 + 8 * i) 2)) else w)) l

/-- Check 8 of R519 for the front end: 9 TOO_LATE, 10 STAGE_FULL, 0 none; while IDLE there is no boundary. -/
def State.feLate (s : State) (p : Packet) : Nat := if s.feState = 0 then 0 else (s.stageAt .fe s.feGrid p).1

/-- CAL_USER_WRITE: copy A of page 3 is written first. -/
def opCalUserWrite (p : Packet) (s : State) : CmdOut × State :=
  let n := Packet.arg p 0 1
  let pairs := List.range n
  let ok := Packet.sized p (4 + 8 * n) && Packet.arg p 1 3 == 0 && decide (1 ≤ n) && decide (n ≤ 68)
    && pairs.all (fun i => decide (Packet.arg p (4 + 8 * i) 1 < 17) && decide (Packet.arg p (5 + 8 * i) 1 < 4)
      && Packet.arg p (10 + 8 * i) 2 == 0)
  ownerCmd ok p s (fun s =>
    let page := s.userPage
    if !pairs.all (s.userSumOk p) then s.say 0x312
    else if 2 ^ 32 - 1 ≤ page.1 then s.say 0x316
    else if s.feLate p ≠ 0 then s.say (s.feLate p)
    else
      let data : TrimCopy := { seq := page.1 + 1, written := some ((s.mt / (mtSec : Int)).toNat % 2 ^ 48), words := userWords p page.2 }
      (.later [], { s with nvm := s.nvm ++ [⟨0, 3, 0, false, data, actionOf p, Packet.act p⟩] }))

/-- CAL_USER_WRITE (R290, R292). -/
def execCalUserWrite (p : Packet) (s : State) : Host.Outcome State Fault Refusal := .next (s.enginePacket 0x0903 true opCalUserWrite p)

/-- CAL_PAGE_READ: bytes of a copy as it stands; a failing copy holds free values. -/
def opCalPageRead (p : Packet) (s : State) : CmdOut × State :=
  let n := Packet.arg p 0 1
  let c := Packet.arg p 1 1
  let off := Packet.arg p 2 2
  let len := Packet.arg p 4 2
  ownerCmd (Packet.sized p 8 && Packet.arg p 6 2 == 0 && decide (n < 32) && decide (c < 2)) p s (fun s =>
    if !s.pageFitted n then s.say 0xC
    else if len < 4 || 4000 < len || len % 4 ≠ 0 || off % 4 ≠ 0 || 8192 < off + len then s.say 0x312
    else
      let r := (List.range (len / 4)).foldl (fun (a : List Word × State) i =>
        if (a.2.trimCopy n c).ok then (a.1 ++ [w32 (a.2.copyWord n c (off + 4 * i))], a.2)
        else
          let d := a.2.draw (2 ^ 32)
          (a.1 ++ [w32 d.1], d.2)) (([] : List Word), s)
      r.2.say 0 r.1)

/-- CAL_PAGE_READ (R281, R551). -/
def execCalPageRead (p : Packet) (s : State) : Host.Outcome State Fault Refusal := .next (s.enginePacket 0x0909 false opCalPageRead p)

/-! ## TDC calibration -/

/-- CAL_TIM: a run on one logical core, or on all of them. -/
def opCalTim (p : Packet) (s : State) : CmdOut × State :=
  let n := Packet.word p 0
  ownerCmd (Packet.sized p 4 && decide (n ≤ 16)) p s (fun s =>
    let cores := if n = 16 then List.range 16 else [n]
    if !s.awake 93 then (s.refuseDom 93).say 0xD
    else if cores.any (fun c => s.isSet (TIM_CORE_STAT_RUNNING (s.coreOf c))) then s.say 0x313
    else (s.coresStart n false).say 0)

/-- CAL_TIM (R132, R551). -/
def execCalTim (p : Packet) (s : State) : Host.Outcome State Fault Refusal := .next (s.enginePacket 0x0904 false opCalTim p)

/-- CAL_TIM_PERIOD. -/
def opCalTimPeriod (p : Packet) (s : State) : CmdOut × State :=
  ownerCmd (Packet.sized p 4 && Packet.arg p 2 2 == 0) p s (fun s => (s.put TIM_CAL_CTL_PERIOD (Packet.arg p 0 2)).say 0)

/-- CAL_TIM_PERIOD (R132, R551). -/
def execCalTimPeriod (p : Packet) (s : State) : Host.Outcome State Fault Refusal := .next (s.enginePacket 0x0905 false opCalTimPeriod p)

/-! ## The survey -/

/-- Whether the survey is enabled for input i (R156). -/
def State.surveyActive (s : State) (i : Nat) : Bool :=
  s.sub (iStat i) 21 20 == 1 || (s.sub (gCtl (inputGroup i)) 4 4 == 1 && s.sub (iStat i) 21 20 != 3)

/-- CAL_SLICE_TRIM: staged on the grid that governs the input, or applied at once (R287). -/
def opCalSliceTrim (p : Packet) (s : State) : CmdOut × State :=
  let i := Packet.arg p 0 2
  let sl := Packet.arg p 2 1
  let v := Packet.word p 1
  ownerCmd (Packet.sized p 8 && decide (i < 768) && decide (sl < 17) && Packet.arg p 3 1 == 0 && decide (v < 2 ^ 29)) p s
    (fun s =>
      if s.part.inputs ≤ i then s.say 0xC
      else if s.sub (iTrim i sl) 31 29 = 3 then s.say 0xC
      else if s.surveyActive i then s.say 0x204
      else match s.governSlot i with
        | none => (s.setSub (iTrim i sl) 28 0 v).sayIdle
        | some (_, x) =>
          let k := s.stageAt (.input i) x.boundGrid p
          if k.1 ≠ 0 then s.say k.1
          else (.staged x.boundGrid k.2 [], s.stage ⟨.input i, x.boundGrid, k.2, actionOf p, [⟨(iTrim i sl).key, 2 ^ 29 - 1, v⟩], .fields⟩))

/-- CAL_SLICE_TRIM (R156, R287, R551). -/
def execCalSliceTrim (p : Packet) (s : State) : Host.Outcome State Fault Refusal := .next (s.enginePacket 0x0906 true opCalSliceTrim p)

/-- CAL_SURVEY: `SURVEY_EN` and `DWELL` of a group. -/
def opCalSurvey (p : Packet) (s : State) : CmdOut × State :=
  let g := Packet.arg p 0 1
  let en := Packet.arg p 1 1
  let dwell := Packet.arg p 2 2
  ownerCmd (Packet.sized p 4 && decide (g < 24) && boolByte en && decide (10 ≤ dwell) && decide (dwell ≤ 1000)) p s (fun s =>
    if s.part.groups ≤ g then s.say 0xC
    else (s.grpCtlWrite g (pf (setBits (setBits (setBits (s.rn (gCtl g)) 31 16 dwell) 4 4 en) 0 0 0))).say 0)

/-- CAL_SURVEY (R156). -/
def execCalSurvey (p : Packet) (s : State) : Host.Outcome State Fault Refusal := .next (s.enginePacket 0x0907 false opCalSurvey p)

/-- CAL_SURVEY_STEP: the halted step runs again; its reply says whether it was accepted. -/
def opCalSurveyStep (p : Packet) (s : State) : CmdOut × State :=
  let i := Packet.arg p 0 2
  ownerCmd (Packet.sized p 4 && decide (i < 768) && Packet.arg p 2 2 == 0) p s (fun s =>
    if s.part.inputs ≤ i then s.say 0xC
    else if s.sub (iStat i) 21 20 ≠ 2 then s.say 0x313 else (.later [], s.setSub (iStat i) 21 20 1))

/-- CAL_SURVEY_STEP (R158, R551). -/
def execCalSurveyStep (p : Packet) (s : State) : Host.Outcome State Fault Refusal := .next (s.enginePacket 0x0908 false opCalSurveyStep p)

/-! ## The front end -/

/-- The status of a code of `SFE_STAT` (R257, R534). -/
def feStatus (c : Nat) : Nat :=
  match c with
  | 0 => 0 | 1 => 0x301 | 2 => 0xD | 3 => 0x103 | 4 => 0x302 | 5 => 0x303 | _ => 0xA

/-- Refuse a command with a code of R257, which `SFE_STAT` shows as well. -/
def State.refuseFe (s : State) (c : Nat) : CmdOut × State :=
  let s1 := if c = 2 then s.refuseDom (if s.awake 91 then 90 else 91) else s
  (s1.feCode c).say (feStatus c)

/-- FE_BIND. -/
def opFeBind (p : Packet) (s : State) : CmdOut × State :=
  let g := Packet.word p 0
  ownerCmd (Packet.sized p 4 && decide (g < 8)) p s (fun s =>
    let k := if s.gridValid g then (s.stageIndex g (Packet.act p)) else some 0
    let c := s.feCheck 0 (some g) (k.getD 0) s.shadowAt
    if c ≠ 0 && c ≠ 6 then s.refuseFe c
    else match k with
      | none => s.say 9
      | some k =>
        if c ≠ 0 then s.refuseFe c
        else (if s.bindWaits then .later [] else .staged g k [], (s.feBind g k (actionOf p) (Packet.act p)).feCode 0))

/-- FE_BIND (R256, R257). -/
def execFeBind (p : Packet) (s : State) : Host.Outcome State Fault Refusal := .next (s.enginePacket 0x0A01 true opFeBind p)

/-- FE_UNBIND. -/
def opFeUnbind (p : Packet) (s : State) : CmdOut × State :=
  ownerCmd (Packet.sized p 0) p s (fun s =>
    let k := s.stageIndex s.feGrid (Packet.act p)
    let c := s.feCheck 1 (some s.feGrid) (k.getD 0) s.shadowAt
    if c ≠ 0 && c ≠ 6 then s.refuseFe c
    else match k with
      | none => s.say 9
      | some k => if c ≠ 0 then s.refuseFe c else (.staged s.feGrid k [], (s.feUnbind k (actionOf p)).feCode 0))

/-- FE_UNBIND (R256, R257). -/
def execFeUnbind (p : Packet) (s : State) : Host.Outcome State Fault Refusal := .next (s.enginePacket 0x0A02 true opFeUnbind p)

/-- Write staged fields of the front end and stage them alone (R542), after the checks of R257 on the values as they will be
in force. A change that waits for a range (R251) writes the shadows once it is staged, since it may still be refused. -/
def State.feSetCmd (s : State) (p : Packet) (vals : List SVal) : CmdOut × State :=
  let k := if s.feState = 0 then some 0 else s.stageIndex s.feGrid (Packet.act p)
  let c := s.feCheck 2 s.feGridOpt (k.getD 0) (overlay s.feNext vals)
  if c ≠ 0 && c ≠ 6 then s.refuseFe c
  else match k with
    | none => s.say 9
    | some k =>
      if c ≠ 0 then s.refuseFe c
      else
        let s1 := (vals.foldl (fun (s : State) v => s.mergeRaw v.key (pf v.val)) s).feCode 0
        if !(s.rangeChanges vals).isEmpty then
          if s.feState = 0 then (.later [], ((s1.feCommit (actionOf p) (Packet.act p) vals).getD s1).sfeDirty)
          else (.later [], ((s.feCode 0).feCommit (actionOf p) (Packet.act p) vals vals).getD s)
        else if s1.feState = 0 then (s1.feApply s1.mt 0 vals).sayIdle
        else (.staged s1.feGrid k [], ((s1.feStage (actionOf p) (Packet.act p) vals).getD s1))

/-- The values of registers that a packet carries from parameter word i on. -/
def packetVals (p : Packet) (i : Nat) (l : List Reg) : List SVal :=
  (l.zip (p.params.drop i)).map (fun x => ⟨x.1.key, 2 ^ 32 - 1, x.2.toNat⟩)

/-- A command that names unit n of the front end and carries its staged registers. -/
def feUnitCmd (max : Nat) (regs : Nat → List Reg) (p : Packet) (s : State) : CmdOut × State :=
  unitCmd max regs p s (fun n s => s.feSetCmd p (packetVals p 1 (regs n)))

/-- FE_EXCITATION. -/
def opFeExcitation (p : Packet) (s : State) : CmdOut × State := feUnitCmd 32 (fun q => [SFE_EXC_CTL q]) p s

/-- FE_EXCITATION (R250, R251). -/
def execFeExcitation (p : Packet) (s : State) : Host.Outcome State Fault Refusal := .next (s.enginePacket 0x0A03 true opFeExcitation p)

/-- FE_CHANNEL. -/
def opFeChannel (p : Packet) (s : State) : CmdOut × State := feUnitCmd 128 (fun c => [SFE_CH_CFG c]) p s

/-- FE_CHANNEL (R551). -/
def execFeChannel (p : Packet) (s : State) : Host.Outcome State Fault Refusal := .next (s.enginePacket 0x0A04 true opFeChannel p)

/-- FE_SEQUENCE. -/
def opFeSequence (p : Packet) (s : State) : CmdOut × State :=
  feUnitCmd 16 (fun n => PCV_SEQ_CTL n :: (List.range 16).map (fun e => PCV_SEQ n e)) p s

/-- FE_SEQUENCE (R258 to R261). -/
def execFeSequence (p : Packet) (s : State) : Host.Outcome State Fault Refusal := .next (s.enginePacket 0x0A05 true opFeSequence p)

/-- FE_ROUTE. -/
def opFeRoute (p : Packet) (s : State) : CmdOut × State := feUnitCmd 16 (fun n => [SFE_ROUTE n]) p s

/-- FE_ROUTE (R551). -/
def execFeRoute (p : Packet) (s : State) : Host.Outcome State Fault Refusal := .next (s.enginePacket 0x0A06 true opFeRoute p)

/-- FE_BLANK. -/
def opFeBlank (p : Packet) (s : State) : CmdOut × State :=
  ownerCmd (Packet.sized p 8 && Packet.wordsOk p 0 [SFE_BLANK, SFE_CM_CFG]) p s (fun s =>
    s.feSetCmd p (packetVals p 0 [SFE_BLANK, SFE_CM_CFG]))

/-- FE_BLANK (R266, R269). -/
def execFeBlank (p : Packet) (s : State) : Host.Outcome State Fault Refusal := .next (s.enginePacket 0x0A07 true opFeBlank p)

/-- FE_LIN. -/
def opFeLin (p : Packet) (s : State) : CmdOut × State := feUnitCmd 128 (fun c => (List.range 24).map (fun i => SFE_LIN c i)) p s

/-- FE_LIN (R270). -/
def execFeLin (p : Packet) (s : State) : Host.Outcome State Fault Refusal := .next (s.enginePacket 0x0A08 true opFeLin p)

/-- FE_URGENT: the request goes to the sequencer; its reply carries the record, or the refusal (R262, R263). -/
def opFeUrgent (p : Packet) (s : State) : CmdOut × State :=
  let n := Packet.arg p 0 1
  let ch := Packet.arg p 1 1
  let avg := Packet.arg p 2 1
  ownerCmd (Packet.sized p 4 && decide (n < 16) && decide (ch < 8) && decide (avg ≤ 8) && Packet.arg p 3 1 == 0) p s (fun s =>
    (.later [], s.urgRequest n ⟨ch, avg, 2, actionOf p, false, false⟩))

/-- FE_URGENT (R262, R263, R273). -/
def execFeUrgent (p : Packet) (s : State) : Host.Outcome State Fault Refusal := .next (s.enginePacket 0x0A09 false opFeUrgent p)

/-- FE_REF. -/
def opFeRef (p : Packet) (s : State) : CmdOut × State :=
  let en := Packet.word p 0
  ownerCmd (Packet.sized p 4 && boolByte en) p s (fun s =>
    if en = 0 && s.feState = 2 then s.say 0x301 else (s.refCtlWrite (pf en)).say 0)

/-- FE_REF (R265, R551). -/
def execFeRef (p : Packet) (s : State) : Host.Outcome State Fault Refusal := .next (s.enginePacket 0x0A0A false opFeRef p)

/-- FE_STATUS. -/
def opFeStatus (p : Packet) (s : State) : CmdOut × State :=
  unitCmd 16 (fun _ => []) p s (fun n s =>
    s.say 0 (s.regWords ([SFE_STAT, PCV_STAT n, PCV_SKIPCNT n, PCV_URGREF n] ++ (List.range 8).map (fun c => SFE_CH_STAT (8 * n + c)))))

/-- FE_STATUS (R551). -/
def execFeStatus (p : Packet) (s : State) : Host.Outcome State Fault Refusal := .next (s.enginePacket 0x0A0B false opFeStatus p)

end Sys2Proof.Machine
end

