-- ==== Sys2Proof/Machine/CmdLane.lean ====
section
/-! DEFINITION. The LANE, LINK and ROUTE opcodes (R417, R431, R433 to R435, R463, R472, R473, R476, R477, R482, R486, R552). -/
namespace Sys2Proof.Machine

/-! ## Lanes -/

/-- The status of a code of `LNE_SHEET_STAT` (R417, R433, R534). -/
def laneStatus (c : Nat) : Nat :=
  match c with
  | 0 => 0 | 1 => 0x501 | 2 => 0xD | 3 => 0x502 | 4 => 0x503 | 5 => 0xF | 6 => 0x504 | _ => 0x505

/-- Fields of `LNE_SHEET_CTL` that are fixed while `START` = 1 (R417). -/
def sheetFixed : List (Nat × Nat) := [(31, 30), (29, 27), (25, 25), (23, 23), (17, 14), (13, 0)]

/-- Fields of `LNE_CTL` that are fixed while `START` = 1 (R417). -/
def laneFixed : List (Nat × Nat) := [(29, 29), (21, 16), (15, 11), (10, 6), (5, 4)]

/-- Whether two words differ in one of some fields. -/
def fieldsDiffer (l : List (Nat × Nat)) (a b : Nat) : Bool := l.any (fun f => bits a f.1 f.2 != bits b f.1 f.2)

/-- LANE_SHEET: its status is the register's code where it starts the sheet, narrows it or moves a lane. -/
def opLaneSheet (p : Packet) (s : State) : CmdOut × State :=
  unitCmd 40 (fun n => [LNE_SHEET_CTL n, LNE_EYE_CFG0 n, LNE_EYE_CFG1 n]) p s (fun n s =>
    let v := Packet.word p 1
    let on := s.isSet (LNE_SHEET_CTL_START n)
    if on && fieldsDiffer sheetFixed v (s.rn (LNE_SHEET_CTL n)) then s.say 0x501
    else
      let s1 := (s.mergeRaw (LNE_EYE_CFG0 n).key (pf (Packet.word p 2))).mergeRaw (LNE_EYE_CFG1 n).key (pf (Packet.word p 3))
      let s2 := s1.sheetCtlWrite n (pf v)
      let acted := (bit v 26 && !on) || bit v 19 || bit v 18
      s2.say (if acted then laneStatus (s2.get (LNE_SHEET_STAT_CODE n)) else 0))

/-- LANE_SHEET (R417, R552). -/
def execLaneSheet (p : Packet) (s : State) : Host.Outcome State Fault Refusal := .next (s.enginePacket 0x0B01 false opLaneSheet p)

/-- A command that names a sheet and a lane or logical lane below `max`. -/
def laneCmd (max size : Nat) (regs : Nat → Nat → List Reg) (p : Packet) (s : State) (f : Nat → Nat → State → CmdOut × State) :
    CmdOut × State :=
  let sh := Packet.arg p 0 1
  let l := Packet.arg p 1 1
  ownerCmd (Packet.sized p size && decide (sh < 40) && decide (l < max) && Packet.arg p 2 2 == 0 && Packet.wordsOk p 1 (regs sh l)) p s
    (f sh l)

/-- LANE_TUNE: refused where the register would ignore a part of the word (R417, R431). -/
def opLaneTune (p : Packet) (s : State) : CmdOut × State :=
  laneCmd 9 8 (fun sh l => [LNE_CTL sh l]) p s (fun sh l s =>
    let v := Packet.word p 1
    let old := s.rn (LNE_CTL sh l)
    let busy := s.isSet (LNE_SHEET_CTL_START sh) && fieldsDiffer laneFixed v old
    let rise := ((bit v 31 && !bit old 31) || (bit v 30 && !bit old 30)) && !s.laneUnused sh l
    let kept := s.laneState sh l = 9 && bits v 31 30 ≠ bits old 31 30
    if busy || rise || kept then s.say 0x501 else (s.laneCtlWrite sh l (pf v)).say 0)

/-- LANE_TUNE (R417, R431, R552). -/
def execLaneTune (p : Packet) (s : State) : Host.Outcome State Fault Refusal := .next (s.enginePacket 0x0B02 false opLaneTune p)

/-- The substitution that LANE_SUBST orders: its code, or an exchange that ends it later. -/
def State.substSay (s : State) (sh k a : Nat) : CmdOut × State :=
  let r := s.subst sh k false (some a)
  match r.1 with
  | some c => r.2.say (laneStatus c)
  | none => (.later [], r.2)

/-- LANE_SUBST on lane k of a sheet. -/
def substAct (p : Packet) (sh k : Nat) (s : State) : CmdOut × State := (s.put (LNE_SHEET_CTL_SUB_LANE sh) k).substSay sh k (actionOf p)

/-- LANE_SUBST: writes `SUB_LANE` and acts as `SUB`; the exchange of an UP Spaxa sheet ends it later. -/
def opLaneSubst (p : Packet) (s : State) : CmdOut × State :=
  laneCmd 8 4 (fun _ _ => []) p s (substAct p)

/-- LANE_SUBST (R433, R434). -/
def execLaneSubst (p : Packet) (s : State) : Host.Outcome State Fault Refusal := .next (s.enginePacket 0x0B03 false opLaneSubst p)

/-- LANE_NARROW: writes `SUB_LANE` and acts as `NARROW`. -/
def opLaneNarrow (p : Packet) (s : State) : CmdOut × State :=
  laneCmd 8 4 (fun _ _ => []) p s (fun sh k s =>
    let r := (s.put (LNE_SHEET_CTL_SUB_LANE sh) k).narrow sh k
    r.2.say (laneStatus r.1))

/-- LANE_NARROW (R435). -/
def execLaneNarrow (p : Packet) (s : State) : Host.Outcome State Fault Refusal := .next (s.enginePacket 0x0B04 false opLaneNarrow p)

/-- LANE_PRBS: refused outside TEST, where no generator or checker runs (R428); its result is the counters before the write. -/
def opLanePrbs (p : Packet) (s : State) : CmdOut × State :=
  laneCmd 9 16 (fun sh l => [LNE_PRBS_CTL sh l]) p s (fun sh l s =>
    if s.sheetState sh ≠ 3 then s.say 0x501
    else
      let s := s.prbsCatch sh l
      let res := s.regWords [LNE_PRBS_ERR_LO sh l, LNE_PRBS_ERR_HI sh l, LNE_PRBS_BITS_LO sh l, LNE_PRBS_BITS_HI sh l]
      let s1 := (s.wn (LNE_USER_LO sh l) (Packet.word p 2)).wn (LNE_USER_HI sh l) (Packet.word p 3)
      (s1.prbsWrite sh l (pf (Packet.word p 1))).say 0 res)

/-- LANE_PRBS (R428 to R430, R552). -/
def execLanePrbs (p : Packet) (s : State) : Host.Outcome State Fault Refusal := .next (s.enginePacket 0x0B05 false opLanePrbs p)

/-- LANE_STATUS. -/
def opLaneStatus (p : Packet) (s : State) : CmdOut × State :=
  unitCmd 40 (fun _ => []) p s (fun n s =>
    s.say 0 (s.regWords ([LNE_SHEET_STAT n, LNE_MAP n, LNE_DROPS n, LNE_ATTEMPTS n]
      ++ (List.range 9).flatMap (fun l => [LNE_STAT n l, LNE_EYE n l, LNE_LOSCNT n l, LNE_LOLCNT n l]))))

/-- LANE_STATUS (R552). -/
def execLaneStatus (p : Packet) (s : State) : Host.Outcome State Fault Refusal := .next (s.enginePacket 0x0B06 false opLaneStatus p)

/-! ## Links -/

/-- LINK_CONFIG: refused where `START` = 1 holds a field that it changes (R472). -/
def opLinkConfig (p : Packet) (s : State) : CmdOut × State :=
  let regs := fun n => [SPX_CTL n, SPX_TIMER n, SPX_TRAIN n, SPX_BCN n, SPX_ASYM n, SPX_DOZE n]
  unitCmd 40 regs p s (fun n s =>
    if s.isSet (LNE_SHEET_CTL_START n) && fieldsDiffer [(31, 30), (27, 24)] (Packet.word p 1) (s.rn (SPX_CTL n)) then s.say 0x501
    else (s.unitWords p (regs n)).say 0)

/-- LINK_CONFIG (R472, R552). -/
def execLinkConfig (p : Packet) (s : State) : Host.Outcome State Fault Refusal := .next (s.enginePacket 0x0C01 false opLinkConfig p)

/-- LINK_RXMAP: words of a sheet's receive map; a VALID word names an ON stream-in queue (R463). -/
def opLinkRxmap (p : Packet) (s : State) : CmdOut × State :=
  let sh := Packet.arg p 0 1
  let first := Packet.arg p 2 2
  let n := Packet.arg p 4 2
  let ws := (List.range n).map (fun i => Packet.word p (2 + i))
  let ok := Packet.sized p (8 + 4 * n) && Packet.arg p 1 1 == 0 && Packet.arg p 6 2 == 0 && decide (sh < 40) && decide (1 ≤ n)
    && decide (first + n ≤ 4096) && ws.all (fun v => bits v 30 14 == 0)
  ownerCmd ok p s (fun s =>
    if ws.any (fun v => bit v 31 && !(s.get (QUE_STAT_STATE (bits v 13 0)) == 1 && s.get (QUE_CFG0_TYPE (bits v 13 0)) == 1)) then
      s.say 0x420
    else ((List.range n).foldl (fun (s : State) i =>
      s.setTab (0x1580000 + 0x4000 * sh + 4 * (first + i)) (w32 (ws.getD i 0))) s).say 0)

/-- LINK_RXMAP (R463, R552). -/
def execLinkRxmap (p : Packet) (s : State) : Host.Outcome State Fault Refusal := .next (s.enginePacket 0x0C02 false opLinkRxmap p)

/-- LINK_STATUS: the link's registers from `SPX_STAT` to `SPX_BCN_SEQ`. -/
def opLinkStatus (p : Packet) (s : State) : CmdOut × State :=
  unitCmd 40 (fun _ => []) p s (fun n s =>
    s.say 0 (s.regWords [SPX_STAT n, SPX_TIMER n, SPX_TRAIN n, SPX_BCN n, SPX_ASYM n, SPX_DOZE n, SPX_PARTNER n, SPX_EPOCH n,
      SPX_SEQ n, SPX_ACK n, SPX_CRD n, SPX_REPLAYS n, SPX_CRCERR n, SPX_DUPS n, SPX_RXDISC n, SPX_FEC_CORR_LO n,
      SPX_FEC_CORR_HI n, SPX_FEC_UNC n, SPX_BCN_OFS_LO n, SPX_BCN_OFS_HI n, SPX_BCN_DLY n, SPX_BCN_SEQ n]))

/-- LINK_STATUS (R552). -/
def execLinkStatus (p : Packet) (s : State) : Host.Outcome State Fault Refusal := .next (s.enginePacket 0x0C03 false opLinkStatus p)

/-! ## Routes -/

/-- Whether `ETH_MAC_CFG[m]` would ignore a word (R473). -/
def State.macRefuses (s : State) (m v : Nat) : Bool :=
  let old := s.rn (ETH_MAC_CFG m)
  let sh := bits v 23 18
  let busy := fun (v : Nat) => bits v 31 30 != 0 && s.isSet (LNE_SHEET_CTL_START (bits v 23 18))
  !(bits v 31 30 == bits old 31 30 && sh == bits old 23 18)
    && ((bits v 31 30 != 0 && (sh / 10 != m / 4
        || (List.range 16).any (fun k => k != m && s.get (ETH_MAC_CFG_MODE k) != 0 && s.get (ETH_MAC_CFG_SHEET k) == sh)))
      || busy old || busy v)

/-- ROUTE_MAC. -/
def opRouteMac (p : Packet) (s : State) : CmdOut × State :=
  let v := Packet.word p 1
  if Packet.sized p 8 && bits v 31 30 == 3 then s.say 4
  else unitCmd 16 (fun n => [ETH_MAC_CFG n]) p s (fun m s =>
    if s.macRefuses m v then s.say 0x501 else (s.macCfgWrite m (pf v)).say 0)

/-- ROUTE_MAC (R473, R552). -/
def execRouteMac (p : Packet) (s : State) : Host.Outcome State Fault Refusal := .next (s.enginePacket 0x0D01 false opRouteMac p)

/-- ROUTE_PAIR: `SIDE` is ignored. -/
def opRoutePair (p : Packet) (s : State) : CmdOut × State :=
  unitCmd 16 (fun n => [RED_PAIR n]) p s (fun j s =>
    let v := setBits (Packet.word p 1) 17 17 (s.get (RED_PAIR_SIDE j))
    if !s.pairFree j v then s.say 4 else (s.pairWrite j (pf v)).say 0)

/-- ROUTE_PAIR (R482, R552). -/
def execRoutePair (p : Packet) (s : State) : Host.Outcome State Fault Refusal := .next (s.enginePacket 0x0D02 false opRoutePair p)

/-- ROUTE_SIDE: ROUTE_CMD is raised even where the side is active already. -/
def opRouteSide (p : Packet) (s : State) : CmdOut × State :=
  let j := Packet.arg p 0 1
  let side := Packet.arg p 1 1
  ownerCmd (Packet.sized p 4 && Packet.arg p 2 2 == 0 && decide (j < 16) && boolByte side) p s (fun s =>
    if s.get (RED_PAIR_SIDE j) = side then (s.raise evRED_ROUTE_CMD j [.w4 side]).say 0 else (s.sideWrite j side).say 0)

/-- ROUTE_SIDE (R486, R487, R552). -/
def execRouteSide (p : Packet) (s : State) : Host.Outcome State Fault Refusal := .next (s.enginePacket 0x0D03 false opRouteSide p)

/-- ROUTE_POLICY. -/
def opRoutePolicy (p : Packet) (s : State) : CmdOut × State :=
  let arm := Packet.word p 0
  ownerCmd (Packet.sized p 4 && boolByte arm) p s (fun s =>
    ((s.put SYS_POLICY_ROUTE_SW arm).raise evRED_ROUTE_CMD 65535 [.w4 arm]).say 0)

/-- ROUTE_POLICY (R41, R552). -/
def execRoutePolicy (p : Packet) (s : State) : Host.Outcome State Fault Refusal := .next (s.enginePacket 0x0D04 false opRoutePolicy p)

/-- ROUTE_HEARTBEAT. -/
def opRouteHeartbeat (p : Packet) (s : State) : CmdOut × State :=
  ownerCmd (Packet.sized p 16 && Packet.wordsOk p 0 [RED_CTL, RED_HB, RED_HB_TX, RED_HB_TO] && portWordOk (Packet.word p 1)) p s (fun s =>
    let s1 := (s.mergeRaw RED_CTL.key (pf (Packet.word p 0))).mergeRaw RED_HB_TX.key (pf (Packet.word p 2))
    ((s1.mergeRaw RED_HB_TO.key (pf (Packet.word p 3))).redHbWrite (pf (Packet.word p 1))).say 0)

/-- ROUTE_HEARTBEAT (R483, R484, R552). -/
def execRouteHeartbeat (p : Packet) (s : State) : Host.Outcome State Fault Refusal := .next (s.enginePacket 0x0D05 false opRouteHeartbeat p)

/-- A command that writes entry i of a route table at `base` (R476): refused while an ON queue uses the entry (R477). -/
def entryCmd (ok : Bool) (base i : Nat) (p : Packet) (s : State) : CmdOut × State :=
  ownerCmd (Packet.sized p 36 && ok) p s (fun s =>
    let at_ := base + 32 * i
    if s.routeBusy at_ then s.say 0x424
    else ((List.range 8).foldl (fun (s : State) w =>
      s.hitPut (directWord (at_ + 4 * w - 0x1000000)) (2 ^ 32 - 1) (Packet.word p (1 + w))) s).say 0)

/-- ROUTE_STREAM. -/
def opRouteStream (p : Packet) (s : State) : CmdOut × State :=
  entryCmd (decide (Packet.arg p 0 2 < 4096) && Packet.arg p 2 2 == 0) 0x1520000 (Packet.arg p 0 2) p s

/-- ROUTE_STREAM (R476, R477). -/
def execRouteStream (p : Packet) (s : State) : Host.Outcome State Fault Refusal := .next (s.enginePacket 0x0D06 false opRouteStream p)

/-- ROUTE_ADDRESS. -/
def opRouteAddress (p : Packet) (s : State) : CmdOut × State :=
  entryCmd (Packet.arg p 1 3 == 0) 0x1540000 (Packet.arg p 0 1) p s

/-- ROUTE_ADDRESS (R476, R477). -/
def execRouteAddress (p : Packet) (s : State) : Host.Outcome State Fault Refusal := .next (s.enginePacket 0x0D07 false opRouteAddress p)

/-- ROUTE_PORT. -/
def opRoutePort (p : Packet) (s : State) : CmdOut × State :=
  entryCmd (decide (Packet.arg p 0 1 < 32) && Packet.arg p 1 3 == 0) 0x1544000 (Packet.arg p 0 1) p s

/-- ROUTE_PORT (R476, R477). -/
def execRoutePort (p : Packet) (s : State) : Host.Outcome State Fault Refusal := .next (s.enginePacket 0x0D08 false opRoutePort p)

/-- ROUTE_STATUS. -/
def opRouteStatus (p : Packet) (s : State) : CmdOut × State :=
  ownerCmd (Packet.sized p 0) p s (fun s =>
    s.say 0 (s.regWords ((List.range 16).map (fun j => RED_PAIR j) ++ (List.range 16).map (fun m => ETH_MAC_STAT m))))

/-- ROUTE_STATUS (R552). -/
def execRouteStatus (p : Packet) (s : State) : Host.Outcome State Fault Refusal := .next (s.enginePacket 0x0D09 false opRouteStatus p)

end Sys2Proof.Machine
end

