-- ==== Sys2Proof/Machine/CmdGaz.lean ====
section
/-! DEFINITION. The GAZ, LOG and POWER opcodes (R553 to R555, R584 to R598, R614 to R623, R626 to R636). -/
namespace Sys2Proof.Machine

/-! ## The gazetteer -/

/-- Run a command on the gazetteer's entries, which lie in the memory stacks: refused while one sleeps (R629). -/
def State.withStacks (s : State) (f : State → CmdOut × State) : CmdOut × State :=
  match s.stackDown with
  | some i => (s.refuseDom (84 + i)).say 0xD
  | none => f s

/-- GAZ_ROOT. -/
def opGazRoot (p : Packet) (s : State) : CmdOut × State :=
  let en := Packet.arg p 0 1
  ownerCmd (Packet.sized p 4 && boolByte en && Packet.arg p 1 3 == 0) p s (fun s =>
    if en = 0 && s.get GAZ_OPEN_SENDS != 0 then s.say 0x606
    else (s.roleSaid (s.put GAZ_CTL_ROOT en)).say 0)

/-- GAZ_ROOT (R584, R553). -/
def execGazRoot (p : Packet) (s : State) : Host.Outcome State Fault Refusal := .next (s.enginePacket 0x0E01 false opGazRoot p)

/-- GAZ_REGISTER: the checks of R587 in order. -/
def opGazRegister (p : Packet) (s : State) : CmdOut × State :=
  let e := Packet.word p 0
  let l := (Packet.bytes p).drop 4
  ownerCmd (Packet.sized p 36) p s (fun s =>
    let x := gazOf l
    if !s.isRoot then s.say 0x605
    else if !gazFormOk e l then s.say 4
    else if !x.dists.all districtOk then s.say 0x604
    else s.withStacks (fun s =>
      if 33554432 ≤ s.gaz.length then s.say 0x600
      else if (s.gazEntry e).isSome || s.gaz.any (fun y => match y.2 with
        | some z => z.id == x.id
        | none => false) then s.say 0x601
      else ((s.setEntry e (some x)).showGaz x.dists).say 0))

/-- GAZ_REGISTER (R587, R553). -/
def execGazRegister (p : Packet) (s : State) : Host.Outcome State Fault Refusal := .next (s.enginePacket 0x0E02 false opGazRegister p)

/-- Run a command on entry e of the gazetteer, which must be registered. -/
def State.withEntry (s : State) (e : Nat) (f : GazEntry → State → CmdOut × State) : CmdOut × State :=
  s.withStacks (fun s => match s.gazEntry e with
    | none => s.say 0x602
    | some x => f x s)

/-- GAZ_REMOVE. -/
def opGazRemove (p : Packet) (s : State) : CmdOut × State :=
  let e := Packet.word p 0
  ownerCmd (Packet.sized p 4 && decide (e < 2 ^ 25)) p s (fun s =>
    if !s.isRoot then s.say 0x605
    else s.withEntry e (fun x s => ((s.setEntry e none).showGaz x.dists).say 0))

/-- GAZ_REMOVE (R587, R553). -/
def execGazRemove (p : Packet) (s : State) : Host.Outcome State Fault Refusal := .next (s.enginePacket 0x0E03 false opGazRemove p)

/-- GAZ_READ. -/
def opGazRead (p : Packet) (s : State) : CmdOut × State :=
  let e := Packet.word p 0
  ownerCmd (Packet.sized p 4 && decide (e < 2 ^ 25)) p s (fun s =>
    s.withEntry e (fun x s => s.say 0 (bytesWords x.bytes)))

/-- GAZ_READ (R586, R553). -/
def execGazRead (p : Packet) (s : State) : Host.Outcome State Fault Refusal := .next (s.enginePacket 0x0E04 false opGazRead p)

/-- A field of GAZ_DISTRICT that R588 gives a meaning. -/
def districtField (v : Nat) : Bool := v == 0xFFFF || decide (v < 4096) || (decide (0x8000 ≤ v) && decide (v < 0x9000))

/-- GAZ_DISTRICT. -/
def opGazDistrict (p : Packet) (s : State) : CmdOut × State :=
  let e := Packet.word p 0
  let fields := (List.range 4).map (fun i => Packet.arg p (4 + 2 * i) 2)
  ownerCmd (Packet.sized p 12 && decide (e < 2 ^ 25)) p s (fun s =>
    s.withEntry e (fun x s =>
      if !fields.all districtField then s.say 0x604
      else match gazDistricts x.dists fields with
        | none => s.say 0x603
        | some l => ((s.setEntry e (some { x with dists := l })).showGaz (x.dists ++ l)).say 0))

/-- GAZ_DISTRICT (R588, R553). -/
def execGazDistrict (p : Packet) (s : State) : Host.Outcome State Fault Refusal := .next (s.enginePacket 0x0E05 false opGazDistrict p)

/-- The packet that a string of bytes spells (R517), with its opcode, on a path of borough `b`; `avail` bytes stand ready. -/
def packetOf (path : Path) (b avail : Nat) (l : List Byte) : Nat × Packet :=
  let f := fun (o n : Nat) => leNat ((l.drop o).take n)
  (f 0 2, { path := path, pathBorough := b, avail := avail, borough := f 2 1, gen := f 3 1, tag := f 4 2, flags := f 6 2, length := f 8 4,
            version := f 12 4, actTime := f 16 12, tail := f 28 4, params := bytesWords ((l.take (l.length - 4)).drop 32),
            crc := w32 (f (l.length - 4) 4) })

/-- GAZ_SEND: the checks of R589 in order. -/
def opGazSend (p : Packet) (s : State) : CmdOut × State :=
  let d := Packet.arg p 0 2
  let inner := (Packet.bytes p).drop 4
  let act := mtOf (p.actTime / 2 ^ 48) (p.actTime / 2 ^ 16 % 2 ^ 32) (p.actTime % 2 ^ 16)
  ownerCmd (decide (1 ≤ p.params.length) && Packet.arg p 2 2 == 0) p s (fun s =>
    if !s.isRoot then s.say 0x605
    else if 4096 ≤ d then s.say 0x604
    else s.withStacks (fun s =>
      let early : Bool := match s.gazBook.sentAt with
        | some t => decide (s.mt < t + ((100 * mtUs : Nat) : Int))
        | none => false
      if s.sendOpen d || early then s.say 0x606
      else if (s.gazMembers d).isEmpty || !innerOk inner p.actTime then s.say 4
      else if act < s.mt + ((100 * mtUs : Nat) : Int) then s.say 9
      else
        let s1 := s.gazAccept d act inner (actionOf p)
        (.later [], if s.gazSelf d then { s1 with fenced := s1.fenced ++ [packetOf (.tree d) 0 inner.length inner] } else s1)))

/-- GAZ_SEND (R589 to R593, R553). -/
def execGazSend (p : Packet) (s : State) : Host.Outcome State Fault Refusal := .next (s.enginePacket 0x0E06 true opGazSend p)

/-- GAZ_COUNTS. -/
def opGazCounts (p : Packet) (s : State) : CmdOut × State :=
  let d := Packet.arg p 0 2
  ownerCmd (Packet.sized p 4 && Packet.arg p 2 2 == 0) p s (fun s =>
    if 4096 ≤ d then s.say 0x604
    else s.say 0 (s.regWords [GAZ_D_APPLIED d, GAZ_D_REFUSED d, GAZ_D_SILENT d, GAZ_D_EPOCH_LO d]))

/-- GAZ_COUNTS (R593, R553). -/
def execGazCounts (p : Packet) (s : State) : Host.Outcome State Fault Refusal := .next (s.enginePacket 0x0E07 false opGazCounts p)

/-- GAZ_DIGEST. -/
def opGazDigest (p : Packet) (s : State) : CmdOut × State := wordCmd GAZ_DIGEST p s

/-- GAZ_DIGEST (R597, R553). -/
def execGazDigest (p : Packet) (s : State) : Host.Outcome State Fault Refusal := .next (s.enginePacket 0x0E08 false opGazDigest p)

/-! ## The logbook -/

/-- LOG_HEAD. -/
def opLogHead (p : Packet) (s : State) : CmdOut × State :=
  anyCmd (Packet.sized p 0) s (fun s => s.say 0 (s.regWords [LOG_HEAD_LO, LOG_HEAD_HI, LOG_COUNT, LOG_REFUSED]))

/-- LOG_HEAD (R620, R554). -/
def execLogHead (p : Packet) (s : State) : Host.Outcome State Fault Refusal := .next (s.enginePacket 0x0F01 false opLogHead p)

/-- The words of some records of the logbook; what a torn one holds is free (R620, R621). -/
def State.logWords (s : State) (l : List LogSlot) : List Word × State :=
  l.foldl (fun (a : List Word × State) x =>
    if x.valid then (a.1 ++ bytesWords (EvRec.bytes x.item x.seq), a.2)
    else
      let r := a.2.draw (2 ^ 512)
      (a.1 ++ bytesWords (leBytes 64 r.1), r.2)) ([], s)

/-- LOG_READ: the records from `seq` on, `n` at most. -/
def opLogRead (p : Packet) (s : State) : CmdOut × State :=
  let seq := Packet.arg p 0 8
  let n := Packet.arg p 8 1
  anyCmd (Packet.sized p 12 && decide (1 ≤ n) && decide (n ≤ 60) && Packet.arg p 9 3 == 0) s (fun s =>
    let first := s.rd64 LOG_FIRST_LO LOG_FIRST_HI
    if seq < first || s.rd64 LOG_HEAD_LO LOG_HEAD_HI < seq then s.say 0x703
    else
      let r := s.logWords ((s.log.slots.drop (seq - first)).take n)
      r.2.say 0 r.1)

/-- LOG_READ (R620, R554). -/
def execLogRead (p : Packet) (s : State) : Host.Outcome State Fault Refusal := .next (s.enginePacket 0x0F02 false opLogRead p)

/-- LOG_CHALLENGE: the nonce comes from the hub's random source. -/
def opLogChallenge (p : Packet) (s : State) : CmdOut × State :=
  ownerCmd (Packet.sized p 0) p s (fun s =>
    let r := s.draw (2 ^ 128)
    let n := leBytes 16 r.1
    ({ r.2 with log := { r.2.log with nonce := some (n, s.mt) } } : State).say 0 (bytesWords n))

/-- LOG_CHALLENGE (R622, R554). -/
def execLogChallenge (p : Packet) (s : State) : Host.Outcome State Fault Refusal := .next (s.enginePacket 0x0F03 false opLogChallenge p)

/-- The challenge outstanding, while it is valid: 10 s of Meridian time (R622). -/
def State.logNonce (s : State) : Option (List Byte) :=
  match s.log.nonce with
  | some (n, t) => if s.mt < t + ((10 * mtSec : Nat) : Int) then some n else none
  | none => none

/-- A clear or a key change is refused (R622): nothing changes but the challenge, which checks 2 and 3 consume. -/
def State.logDeny (s : State) (status : Nat) : CmdOut × State :=
  (({ s with log := { s.log with nonce := none } } : State).raise evLOG_CLEAR_REFUSED).say status

/-- The response that R622 asks for. -/
def State.logResponse (s : State) (key nonce : List Byte) (op : Nat) (more : List Byte) : List Byte :=
  hmacSha256 key (nonce ++ leBytes 4 (s.rn SYS_HUB_ID) ++ leBytes 1 op ++ more)

/-- The logbook is cleared (R623). -/
def State.logClear (s : State) : CmdOut × State :=
  let first := s.rd64 LOG_FIRST_LO LOG_FIRST_HI
  let last := s.rd64 LOG_HEAD_LO LOG_HEAD_HI
  let det : List Detail := [.w8 first, .w8 last]
  let x : LogSlot := ⟨last + 1, s.evRec evLOG_LOG_CLEARED 65535 0 det false true, true⟩
  let s1 := ({ s with log := { s.log with slots := [x], nonce := none } } : State).showLog
  let s2 := (s1.put LOG_STAT_FULL 0).put LOG_STAT_STOPPED 0
  (s2.raise evLOG_LOG_CLEARED 65535 det 0 false true true).say 0 (bytesWords (leBytes 8 first ++ leBytes 8 last))

/-- LOG_CLEAR: the checks of R622 in order. -/
def opLogClear (p : Packet) (s : State) : CmdOut × State :=
  ownerCmd (Packet.sized p 32) p s (fun s => match s.logNonce with
    | none => s.logDeny 0x700
    | some n => match s.log.key with
      | none => s.logDeny 0x701
      | some k => if Packet.bytes p = s.logResponse k n 4 [] then s.logClear else s.logDeny 0x701)

/-- LOG_CLEAR (R622, R623, R554). -/
def execLogClear (p : Packet) (s : State) : Host.Outcome State Fault Refusal := .next (s.enginePacket 0x0F04 false opLogClear p)

/-- The clear key is set: both copies are written, and KEY_SET is a mandatory record (R615, R622). -/
def State.logKeySet (s : State) (k : List Byte) : State :=
  ((({ s with log := { s.log with key := some k, nonce := none } } : State).put LOG_STAT_KEY 1).raise evLOG_KEY_SET 65535 [] 0 false true)

/-- LOG_KEY: the checks of R622 in order. -/
def opLogKey (p : Packet) (s : State) : CmdOut × State :=
  let resp := (Packet.bytes p).take 32
  let key := (Packet.bytes p).drop 32
  let zeros := resp.all (fun x => x == 0#8)
  ownerCmd (Packet.sized p 64) p s (fun s => match s.logNonce with
    | none => s.logDeny 0x700
    | some n => match s.log.key with
      | none => if zeros then (s.logKeySet key).say 0 else s.logDeny 0x701
      | some k =>
        if zeros then s.logDeny 0x702
        else if resp = s.logResponse k n 5 key then (s.logKeySet key).say 0
        else s.logDeny 0x701)

/-- LOG_KEY (R622, R554). -/
def execLogKey (p : Packet) (s : State) : Host.Outcome State Fault Refusal := .next (s.enginePacket 0x0F05 false opLogKey p)

/-- LOG_REPEAT. -/
def opLogRepeat (p : Packet) (s : State) : CmdOut × State :=
  let v := Packet.word p 0
  ownerCmd (Packet.sized p 4 && decide (1 ≤ v) && decide (v ≤ 10000000)) p s (fun s => (s.regStore LOG_REPEAT.key (pf v)).say 0)

/-- LOG_REPEAT (R617, R554). -/
def execLogRepeat (p : Packet) (s : State) : Host.Outcome State Fault Refusal := .next (s.enginePacket 0x0F06 false opLogRepeat p)

/-! ## Power domains -/

/-- A command that names a domain in its first byte and a byte of another kind in its second. -/
def domainCmd (second : Nat) (p : Packet) (s : State) (f : Nat → State → CmdOut × State) : CmdOut × State :=
  let d := Packet.arg p 0 1
  ownerCmd (Packet.sized p 4 && decide (d ≤ 96) && decide (Packet.arg p 1 1 < second) && Packet.arg p 2 2 == 0) p s (fun s => f d s)

/-- POWER_DOWN: the checks of R628; the reply follows the drain. -/
def opPowerDown (p : Packet) (s : State) : CmdOut × State :=
  domainCmd 1 p s (fun d s => match s.pwrDown d with
    | (0, s1) => (.later [], s1)
    | (1, s1) => s1.say 0xE
    | (_, s1) => s1.say 0x780)

/-- POWER_DOWN (R628 to R632, R555). -/
def execPowerDown (p : Packet) (s : State) : Host.Outcome State Fault Refusal := .next (s.enginePacket 0x1001 false opPowerDown p)

/-- POWER_UP: the check of R628; the reply follows the wake. -/
def opPowerUp (p : Packet) (s : State) : CmdOut × State :=
  domainCmd 1 p s (fun d s => match s.pwrUp d with
    | (0, s1) => (.later [], s1)
    | (_, s1) => s1.say 0x780)

/-- POWER_UP (R628, R635, R636, R555). -/
def execPowerUp (p : Packet) (s : State) : Host.Outcome State Fault Refusal := .next (s.enginePacket 0x1002 false opPowerUp p)

/-- POWER_HOLD. -/
def opPowerHold (p : Packet) (s : State) : CmdOut × State :=
  domainCmd 2 p s (fun d s => (s.put (PWR_DOM_REFUSE d) (Packet.arg p 1 1)).say 0)

/-- POWER_HOLD (R631, R555). -/
def execPowerHold (p : Packet) (s : State) : Host.Outcome State Fault Refusal := .next (s.enginePacket 0x1003 false opPowerHold p)

/-- POWER_STATUS: one byte for each domain. -/
def opPowerStatus (p : Packet) (s : State) : CmdOut × State :=
  anyCmd (Packet.sized p 0) s (fun s =>
    s.say 0 (bytesWords ((List.range 97).flatMap (fun d => leBytes 1 (s.get (PWR_DOM_STATE d))) ++ [0#8, 0#8, 0#8])))

/-- POWER_STATUS (R555). -/
def execPowerStatus (p : Packet) (s : State) : Host.Outcome State Fault Refusal := .next (s.enginePacket 0x1004 false opPowerStatus p)

end Sys2Proof.Machine
end

