-- ==== Sys2Proof/Machine/CmdSpare.lean ====
section
/-! DEFINITION. The SPARE and DIAG opcodes (R556, R557, R638 to R645). -/
namespace Sys2Proof.Machine

/-! ## Spares -/

/-- SPARE_POLICY: the bits of `SYS_POLICY` that `mask` names. -/
def opSparePolicy (p : Packet) (s : State) : CmdOut × State :=
  let mask := Packet.word p 0
  ownerCmd (Packet.sized p 8 && decide (mask < 2 ^ 11)) p s (fun s =>
    let s1 := (s.wr SYS_POLICY ((s.rd SYS_POLICY &&& ~~~(w32 mask)) ||| (w32 (Packet.word p 1) &&& w32 mask))).disarmPlots
    s1.say 0 [s1.rd SYS_POLICY])

/-- SPARE_POLICY (R41, R556). -/
def execSparePolicy (p : Packet) (s : State) : Host.Outcome State Fault Refusal := .next (s.enginePacket 0x1101 false opSparePolicy p)

/-- SPARE_SLICE: a failing slice is retired, or its input is declared dead, with the outcomes of R158 under the policy. -/
def opSpareSlice (p : Packet) (s : State) : CmdOut × State :=
  let i := Packet.arg p 0 2
  let sl := Packet.arg p 2 1
  let act := Packet.arg p 3 1
  ownerCmd (Packet.sized p 4 && decide (i < 768) && decide (sl < 17) && boolByte act && (s.part.inputs ≤ i || s.sub (iTrim i sl) 31 29 == 2)) p s
    (fun s =>
      if s.part.inputs ≤ i then s.say 0xC
      else if !s.awake (inputGroup i) then (s.refuseDom (inputGroup i)).say 0xD
      else if s.sub (iStat i) 18 18 = 1 then s.say 0xF
      else if act = 1 then (s.inputDead i sl false).say 0
      else if s.sub (iStat i) 31 27 = sl then (s.retireSlice i sl 31 false).say 0
      else if s.sub (iStat i) 19 19 = 1 then (s.inServiceFail i sl true false).say 0
      else s.say 0xF)

/-- SPARE_SLICE (R158, R556). -/
def execSpareSlice (p : Packet) (s : State) : Host.Outcome State Fault Refusal := .next (s.enginePacket 0x1102 false opSpareSlice p)

/-- The physical engine that serves a logical one and is failing, its substitution not yet under way. -/
def State.failingEngine (s : State) (l : Nat) : Option Nat :=
  (List.range 68).find? (fun p => s.get (PWR_ENG_LOGICAL p) == l && s.get (PWR_ENG_STATE p) == 2 && s.engSwaps.all (fun x => x.old != p))

/-- SPARE_ENGINE. -/
def opSpareEngine (p : Packet) (s : State) : CmdOut × State :=
  let l := Packet.arg p 0 1
  ownerCmd (Packet.sized p 4 && decide (l < 64) && Packet.arg p 1 3 == 0) p s (fun s => match s.failingEngine l with
    | none => s.say 4
    | some e =>
      if !s.awake 80 then (s.refuseDom 80).say 0xD
      else
        let left := (List.range 4).any (fun i => s.get (PWR_ENG_STATE (64 + i)) == 1)
        (s.engSubstitute e false).say (if left then 0 else 0xF))

/-- SPARE_ENGINE (R639, R645, R556). -/
def execSpareEngine (p : Packet) (s : State) : Host.Outcome State Fault Refusal := .next (s.enginePacket 0x1103 false opSpareEngine p)

/-- SPARE_SLOT. -/
def opSpareSlot (p : Packet) (s : State) : CmdOut × State :=
  let n := Packet.arg p 0 2
  ownerCmd (Packet.sized p 4 && Packet.arg p 2 2 == 0 && s.failingSlots.contains n) p s (fun s =>
    (s.slotSubstitute n false).say (if (s.spareSlot n).isSome then 0 else 0xF))

/-- SPARE_SLOT (R640, R645, R556). -/
def execSpareSlot (p : Packet) (s : State) : Host.Outcome State Fault Refusal := .next (s.enginePacket 0x1104 false opSpareSlot p)

/-- SPARE_TDC: the physical core named serves a logical one and is failing. -/
def opSpareTdc (p : Packet) (s : State) : CmdOut × State :=
  let c := Packet.arg p 0 1
  let n := s.get (TIM_CORE_STAT_LOGICAL c)
  let ok := decide (c < 18) && s.isSet (TIM_CORE_STAT_FAILING c) && decide (n < 16) && s.tdcSwitches.all (fun x => x.logical != n)
  ownerCmd (Packet.sized p 4 && Packet.arg p 1 3 == 0 && ok) p s (fun s =>
    if !s.awake 93 then (s.refuseDom 93).say 0xD
    else (s.tdcSubstitute n false).say (if s.spareCore.isSome then 0 else 0xF))

/-- SPARE_TDC (R134, R556). -/
def execSpareTdc (p : Packet) (s : State) : Host.Outcome State Fault Refusal := .next (s.enginePacket 0x1105 false opSpareTdc p)

/-- SPARE_PCV. -/
def opSparePcv (p : Packet) (s : State) : CmdOut × State :=
  let c := Packet.arg p 0 1
  ownerCmd (Packet.sized p 4 && decide (c < 16) && Packet.arg p 1 3 == 0 && s.isSet (PCV_STAT_FAILING c)
      && (s.pcv c).leaving.isNone) p s (fun s =>
    if !s.awake 91 then (s.refuseDom 91).say 0xD
    else (s.retirePcv c false).say (if s.sparesLeft 7 = 0 then 0xF else 0))

/-- SPARE_PCV (R276, R556). -/
def execSparePcv (p : Packet) (s : State) : Host.Outcome State Fault Refusal := .next (s.enginePacket 0x1106 false opSparePcv p)

/-- SPARE_BMAC. -/
def opSpareBmac (p : Packet) (s : State) : CmdOut × State :=
  let a := Packet.arg p 0 1
  ownerCmd (Packet.sized p 4 && decide (a < 17) && Packet.arg p 1 3 == 0 && s.get (BFM_ARRAY_STATE a) == 2
      && s.bmacSwaps.all (fun x => x.array != a)) p s (fun s =>
    if !s.awake 81 then (s.refuseDom 81).say 0xD
    else (s.retireBmac a false).say (if 0 < s.sparesLeft 6 && s.bmacSwaps.isEmpty then 0 else 0xF))

/-- SPARE_BMAC (R235, R556). -/
def execSpareBmac (p : Packet) (s : State) : Host.Outcome State Fault Refusal := .next (s.enginePacket 0x1107 false opSpareBmac p)

/-- SPARE_CORE. -/
def opSpareCore (p : Packet) (s : State) : CmdOut × State :=
  let k := Packet.arg p 0 1
  ownerCmd (Packet.sized p 4 && decide (k < 5) && Packet.arg p 1 3 == 0 && s.get (PWR_CORE_STATE k) == 2) p s (fun s =>
    (s.coreSubstitute k false).say (if (List.range 5).any (fun i => s.get (PWR_CORE_STATE i) == 1) then 0 else 0xF))

/-- SPARE_CORE (R641, R645, R556). -/
def execSpareCore (p : Packet) (s : State) : Host.Outcome State Fault Refusal := .next (s.enginePacket 0x1108 false opSpareCore p)

/-- A failing plot leaves service by command: a free one at once, one that holds data when it is freed (R372). -/
def State.plotLeave (s : State) (id : Nat) : State :=
  let x := s.plot id
  let tier := plotTier id
  if x.state = 3 then (s.wn (freeReg tier) (s.tierFree tier - 1)).retirePlot id false
  else s.setPlot id { x with leave := true }

/-- SPARE_PLOT. -/
def opSparePlot (p : Packet) (s : State) : CmdOut × State :=
  let id := Packet.word p 0
  let x := s.plot id
  ownerCmd (Packet.sized p 4 && decide (id < 2 ^ 24) && x.weak && x.state != 4 && x.state != 5) p s (fun s =>
    (s.plotLeave id).say (if s.sparesLeft (if plotTier id = 1 then 4 else 5) = 0 then 0xF else 0))

/-- SPARE_PLOT (R372, R645, R556). -/
def execSparePlot (p : Packet) (s : State) : Host.Outcome State Fault Refusal := .next (s.enginePacket 0x1109 false opSparePlot p)

/-- A spare sector takes the place of a failing one, and the write that failed completes: the trim copy in it passes (R642). -/
def State.mramSubstitute (s : State) (sector : Nat) : State :=
  let s1 : State := { s with mramBad := s.mramBad.filter (fun x => x != sector) }
  let s2 := ((List.range 32).flatMap (fun n => [(n, 0), (n, 1)])).foldl (fun (s : State) (x : Nat × Nat) =>
    if pageSector x.1 x.2 = sector && s.pageFitted x.1 && !(s.trimCopy x.1 x.2).ok then
      (s.setTrimCopy x.1 x.2 { s.trimCopy x.1 x.2 with ok := true }).copyShow x.1 x.2 true
    else s) s1
  (s2.mramRemap sector).raise evPWR_MRAM_RETIRED sector [.w4 10]

/-- SPARE_MRAM. -/
def opSpareMram (p : Packet) (s : State) : CmdOut × State :=
  let x := Packet.arg p 0 2
  ownerCmd (Packet.sized p 4 && Packet.arg p 2 2 == 0 && s.mramBad.contains x) p s (fun s =>
    if s.sparesLeft 10 = 0 then (s.spareExhausted 10 x).say 0xF else (s.mramSubstitute x).say 0)

/-- SPARE_MRAM (R642, R645, R556). -/
def execSpareMram (p : Packet) (s : State) : Host.Outcome State Fault Refusal := .next (s.enginePacket 0x110A false opSpareMram p)

/-- SPARE_INVENTORY. -/
def opSpareInventory (p : Packet) (s : State) : CmdOut × State :=
  anyCmd (Packet.sized p 0) s (fun s => s.say 0 (s.regWords ((List.range 11).map PWR_SPARE)))

/-- SPARE_INVENTORY (R556). -/
def execSpareInventory (p : Packet) (s : State) : Host.Outcome State Fault Refusal :=
  .next (s.enginePacket 0x110B false opSpareInventory p)

/-! ## Diagnostics -/

/-- DIAG_ECHO. -/
def opDiagEcho (p : Packet) (s : State) : CmdOut × State :=
  anyCmd (decide (p.params.length ≤ 1000)) s (fun s => s.say 0 p.params)

/-- DIAG_ECHO (R557). -/
def execDiagEcho (p : Packet) (s : State) : Host.Outcome State Fault Refusal := .next (s.enginePacket 0x1201 false opDiagEcho p)

/-- Units of a class of DIAG_SELFTEST. -/
def testUnits (c : Nat) : Nat :=
  match c with
  | 0 => 68 | 1 => 17 | 2 => 16 | 3 => 4 | 4 => 18 | 5 => 5 | _ => 0

/-- The domain of a unit of DIAG_SELFTEST (R626). -/
def testDomain (c i : Nat) : Nat :=
  match c with
  | 0 => 64 + i / 4 | 1 => 81 | 2 => 82 + i / 8 | 3 => 82 + i / 2 | 4 => 93 | _ => 96

/-- Whether a unit of DIAG_SELFTEST is in service; one that is failing stays in service until it is substituted (R638). -/
def State.testInService (s : State) (c i : Nat) : Bool :=
  let on := fun (st : Nat) => st == 0 || st == 2
  match c with
  | 0 => on (s.get (PWR_ENG_STATE i))
  | 1 => on (s.get (BFM_ARRAY_STATE i))
  | 2 => s.get (CMP_ENG_STATE i) == 0
  | 3 => true
  | 4 => s.get (TIM_CORE_STAT_LOGICAL i) != 31
  | _ => on (s.get (PWR_CORE_STATE i))

/-- DIAG_SELFTEST: whether the unit passes, and the detail, are free. -/
def opDiagSelftest (p : Packet) (s : State) : CmdOut × State :=
  let c := Packet.arg p 0 1
  let i := Packet.arg p 2 2
  ownerCmd (Packet.sized p 4 && Packet.arg p 1 1 == 0 && decide (i < testUnits c)) p s (fun s =>
    if testDomain c i ≠ 96 && !s.awake (testDomain c i) then (s.refuseDom (testDomain c i)).say 0xD
    else if s.testInService c i then s.say 0xE
    else
      let a := s.draw 2
      let b := a.2.draw (2 ^ 32)
      b.2.say 0 [w32 a.1, w32 b.1])

/-- DIAG_SELFTEST (R557). -/
def execDiagSelftest (p : Packet) (s : State) : Host.Outcome State Fault Refusal := .next (s.enginePacket 0x1202 false opDiagSelftest p)

/-- DIAG_BEAM_SAT. -/
def opDiagBeamSat (p : Packet) (s : State) : CmdOut × State :=
  let b := Packet.arg p 0 2
  ownerCmd (Packet.sized p 4 && decide (b < 4096) && Packet.arg p 2 2 == 0) p s (fun s => s.say 0 (s.regWords [BFM_BSAT b]))

/-- DIAG_BEAM_SAT (R245, R557). -/
def execDiagBeamSat (p : Packet) (s : State) : Host.Outcome State Fault Refusal := .next (s.enginePacket 0x1203 false opDiagBeamSat p)

/-- The temperatures of the dies, which are free; an absent die reads 0x80. -/
def State.dieTemps (s : State) : List Byte × State :=
  (List.range 20).foldl (fun (a : List Byte × State) k =>
    if 1 ≤ k && k ≤ 8 && s.part.part.dies < k then (a.1 ++ [0x80#8], a.2)
    else
      let r := a.2.draw 256
      (a.1 ++ leBytes 1 r.1, r.2)) ([], s)

/-- DIAG_TEMPS. -/
def opDiagTemps (p : Packet) (s : State) : CmdOut × State :=
  anyCmd (Packet.sized p 0) s (fun s =>
    let r := s.dieTemps
    r.2.say 0 (bytesWords r.1))

/-- DIAG_TEMPS (R557). -/
def execDiagTemps (p : Packet) (s : State) : Host.Outcome State Fault Refusal := .next (s.enginePacket 0x1204 false opDiagTemps p)

end Sys2Proof.Machine
end

