-- ==== Sys2Proof/Machine/CmdEngine.lean ====
section
/-! DEFINITION. The command engine's paths: ring doorbells, envelopes, Spaxa messages; packets that waited; keys; the pad (R515 to
R532, R571). -/
namespace Sys2Proof.Machine

/-! ## Opcodes (R518) -/

/-- An opcode of the manual: its number, whether it stages its change (R27), and what it does. -/
structure Opcode where
  op : Nat
  staged : Bool
  act : Packet → State → CmdOut × State

/-- The CFG opcodes. -/
def opcodesCfg : List Opcode :=
  [⟨0x0101, false, opCfgIdent⟩,
   ⟨0x0102, false, opCfgHubId⟩,
   ⟨0x0103, false, opCfgKeyLoad⟩,
   ⟨0x0104, false, opCfgKeyClear⟩,
   ⟨0x0105, false, opCfgKeyOwn⟩,
   ⟨0x0106, false, opCfgUdp⟩,
   ⟨0x0107, false, opCfgRegRead⟩,
   ⟨0x0108, false, opCfgRegWrite⟩,
   ⟨0x0109, false, opCfgTableWrite⟩,
   ⟨0x010A, false, opCfgTableRead⟩,
   ⟨0x0110, false, opCnvGroup⟩,
   ⟨0x0111, true, opCnvInputEn⟩,
   ⟨0x0112, false, opCnvTrack⟩,
   ⟨0x0113, false, opCnvStatus⟩,
   ⟨0x0120, false, opBrgQuota⟩,
   ⟨0x0121, false, opBrgGrant⟩,
   ⟨0x0122, false, opBrgRevoke⟩,
   ⟨0x0123, false, opBrgBeams⟩,
   ⟨0x0124, false, opBrgReset⟩,
   ⟨0x0125, false, opBrgStatus⟩]

/-- The PIPE opcodes. -/
def opcodesPipe : List Opcode :=
  [⟨0x0201, false, opPipeSource⟩,
   ⟨0x0202, true, opPipeBind⟩,
   ⟨0x0203, true, opPipeDelay⟩,
   ⟨0x0204, true, opPipeUnbind⟩,
   ⟨0x0205, true, opPipeMix⟩,
   ⟨0x0206, true, opPipeDecimate⟩,
   ⟨0x0207, true, opPipeResample⟩,
   ⟨0x0208, true, opPipeChannel⟩,
   ⟨0x0209, true, opPipeReduce⟩,
   ⟨0x020A, true, opPipeRoute⟩,
   ⟨0x020B, true, opPipeIntake⟩,
   ⟨0x020C, true, opPipeCommit⟩,
   ⟨0x020D, false, opPipeFpd⟩,
   ⟨0x020E, false, opPipeDistrict⟩,
   ⟨0x020F, false, opPipeRaw⟩,
   ⟨0x0210, false, opPipeStatus⟩]

/-- The BEAM opcodes. -/
def opcodesBeam : List Opcode :=
  [⟨0x0301, true, opBeamSet⟩,
   ⟨0x0302, true, opBeamDisable⟩,
   ⟨0x0303, false, opBeamIset⟩,
   ⟨0x0304, false, opBeamWeights⟩,
   ⟨0x0305, false, opBeamStatus⟩,
   ⟨0x0306, false, opBeamLoad⟩]

/-- The GRID opcodes. -/
def opcodesGrid : List Opcode :=
  [⟨0x0401, false, opGridDefine⟩,
   ⟨0x0402, false, opGridClear⟩,
   ⟨0x0403, false, opGridRead⟩,
   ⟨0x0404, false, opGridIndex⟩]

/-- The QUEUE opcodes. -/
def opcodesQueue : List Opcode :=
  [⟨0x0501, false, opQueueConfig⟩,
   ⟨0x0502, false, opQueueEnable⟩,
   ⟨0x0503, false, opQueueDisable⟩,
   ⟨0x0504, false, opQueueFlush⟩,
   ⟨0x0505, false, opQueueStatus⟩,
   ⟨0x0506, false, opQueueChain⟩,
   ⟨0x0507, false, opQueueDeliver⟩]

/-- The PLOT opcodes. -/
def opcodesPlot : List Opcode :=
  [⟨0x0601, false, opPlotStatus⟩,
   ⟨0x0602, false, opPlotEscape⟩,
   ⟨0x0603, false, opPlotLow⟩,
   ⟨0x0604, false, opPlotCounters⟩]

/-- The TIME opcodes. -/
def opcodesTime : List Opcode :=
  [⟨0x0701, false, opTimeRead⟩,
   ⟨0x0702, false, opTimeAdjust⟩,
   ⟨0x0703, false, opTimeSource⟩,
   ⟨0x0704, false, opTimeAge⟩,
   ⟨0x0705, false, opTimePpsDelay⟩,
   ⟨0x0706, false, opTimeTaiUtc⟩,
   ⟨0x0707, false, opTimeStatus⟩,
   ⟨0x0708, false, opTimeEdge⟩,
   ⟨0x0709, false, opTimeFreq⟩,
   ⟨0x070A, false, opTimeFreqRead⟩,
   ⟨0x070B, false, opTimePtm⟩]

/-- The TRIG opcodes. -/
def opcodesTrig : List Opcode :=
  [⟨0x0801, false, opTrigArm⟩,
   ⟨0x0802, false, opTrigDisarm⟩,
   ⟨0x0803, false, opTrigFire⟩,
   ⟨0x0804, false, opTrigSrcSkew⟩,
   ⟨0x0805, false, opTrigRing⟩,
   ⟨0x0806, false, opTrigCapset⟩,
   ⟨0x0807, false, opTrigNet⟩,
   ⟨0x0808, false, opTrigStream⟩,
   ⟨0x0809, false, opTrigStatus⟩]

/-- The CAL opcodes. -/
def opcodesCal : List Opcode :=
  [⟨0x0901, false, opCalTrimRepair⟩,
   ⟨0x0902, false, opCalUserMeasure⟩,
   ⟨0x0903, true, opCalUserWrite⟩,
   ⟨0x0904, false, opCalTim⟩,
   ⟨0x0905, false, opCalTimPeriod⟩,
   ⟨0x0906, true, opCalSliceTrim⟩,
   ⟨0x0907, false, opCalSurvey⟩,
   ⟨0x0908, false, opCalSurveyStep⟩,
   ⟨0x0909, false, opCalPageRead⟩]

/-- The FE opcodes. -/
def opcodesFe : List Opcode :=
  [⟨0x0A01, true, opFeBind⟩,
   ⟨0x0A02, true, opFeUnbind⟩,
   ⟨0x0A03, true, opFeExcitation⟩,
   ⟨0x0A04, true, opFeChannel⟩,
   ⟨0x0A05, true, opFeSequence⟩,
   ⟨0x0A06, true, opFeRoute⟩,
   ⟨0x0A07, true, opFeBlank⟩,
   ⟨0x0A08, true, opFeLin⟩,
   ⟨0x0A09, false, opFeUrgent⟩,
   ⟨0x0A0A, false, opFeRef⟩,
   ⟨0x0A0B, false, opFeStatus⟩]

/-- The LANE opcodes. -/
def opcodesLane : List Opcode :=
  [⟨0x0B01, false, opLaneSheet⟩,
   ⟨0x0B02, false, opLaneTune⟩,
   ⟨0x0B03, false, opLaneSubst⟩,
   ⟨0x0B04, false, opLaneNarrow⟩,
   ⟨0x0B05, false, opLanePrbs⟩,
   ⟨0x0B06, false, opLaneStatus⟩]

/-- The LINK opcodes. -/
def opcodesLink : List Opcode :=
  [⟨0x0C01, false, opLinkConfig⟩,
   ⟨0x0C02, false, opLinkRxmap⟩,
   ⟨0x0C03, false, opLinkStatus⟩]

/-- The ROUTE opcodes. -/
def opcodesRoute : List Opcode :=
  [⟨0x0D01, false, opRouteMac⟩,
   ⟨0x0D02, false, opRoutePair⟩,
   ⟨0x0D03, false, opRouteSide⟩,
   ⟨0x0D04, false, opRoutePolicy⟩,
   ⟨0x0D05, false, opRouteHeartbeat⟩,
   ⟨0x0D06, false, opRouteStream⟩,
   ⟨0x0D07, false, opRouteAddress⟩,
   ⟨0x0D08, false, opRoutePort⟩,
   ⟨0x0D09, false, opRouteStatus⟩]

/-- The GAZ opcodes. -/
def opcodesGaz : List Opcode :=
  [⟨0x0E01, false, opGazRoot⟩,
   ⟨0x0E02, false, opGazRegister⟩,
   ⟨0x0E03, false, opGazRemove⟩,
   ⟨0x0E04, false, opGazRead⟩,
   ⟨0x0E05, false, opGazDistrict⟩,
   ⟨0x0E06, true, opGazSend⟩,
   ⟨0x0E07, false, opGazCounts⟩,
   ⟨0x0E08, false, opGazDigest⟩]

/-- The LOG opcodes. -/
def opcodesLog : List Opcode :=
  [⟨0x0F01, false, opLogHead⟩,
   ⟨0x0F02, false, opLogRead⟩,
   ⟨0x0F03, false, opLogChallenge⟩,
   ⟨0x0F04, false, opLogClear⟩,
   ⟨0x0F05, false, opLogKey⟩,
   ⟨0x0F06, false, opLogRepeat⟩]

/-- The POWER opcodes. -/
def opcodesPower : List Opcode :=
  [⟨0x1001, false, opPowerDown⟩,
   ⟨0x1002, false, opPowerUp⟩,
   ⟨0x1003, false, opPowerHold⟩,
   ⟨0x1004, false, opPowerStatus⟩]

/-- The SPARE opcodes. -/
def opcodesSpare : List Opcode :=
  [⟨0x1101, false, opSparePolicy⟩,
   ⟨0x1102, false, opSpareSlice⟩,
   ⟨0x1103, false, opSpareEngine⟩,
   ⟨0x1104, false, opSpareSlot⟩,
   ⟨0x1105, false, opSpareTdc⟩,
   ⟨0x1106, false, opSparePcv⟩,
   ⟨0x1107, false, opSpareBmac⟩,
   ⟨0x1108, false, opSpareCore⟩,
   ⟨0x1109, false, opSparePlot⟩,
   ⟨0x110A, false, opSpareMram⟩,
   ⟨0x110B, false, opSpareInventory⟩]

/-- The DIAG opcodes. -/
def opcodesDiag : List Opcode :=
  [⟨0x1201, false, opDiagEcho⟩,
   ⟨0x1202, false, opDiagSelftest⟩,
   ⟨0x1203, false, opDiagBeamSat⟩,
   ⟨0x1204, false, opDiagTemps⟩]

/-- The opcodes that the manual assigns (R518). -/
def opcodes : List Opcode :=
  opcodesCfg ++ opcodesPipe ++ opcodesBeam ++ opcodesGrid ++ opcodesQueue ++ opcodesPlot ++ opcodesTime ++ opcodesTrig ++ opcodesCal ++ opcodesFe ++ opcodesLane ++ opcodesLink ++ opcodesRoute ++ opcodesGaz ++ opcodesLog ++ opcodesPower ++ opcodesSpare ++ opcodesDiag

/-! ## Taking a packet -/

/-- A pad has been taken: it gets no reply and touches no tag (R518). -/
def State.padDone (s : State) (p : Packet) : State :=
  match p.path with
  | .ring b r => s.cringDone b r
  | _ => s

/-- The engine takes a pad, or a packet of a reserved opcode: checks 1 to 4 of R519. -/
def State.takeOther (s : State) (op : Nat) (p : Packet) : State :=
  let s1 := s.takeSlots p
  if !s1.packetForm p then s1.bareReply op p 1
  else if !Packet.crcOk op p then s1.bareReply op p 2
  else if p.borough % 32 ≠ p.pathBorough then s1.bareReply op p 6
  else if op = 0 then s1.padDone p
  else s1.bareReply op p 3

/-- The engine takes a packet of any opcode. -/
def State.runPacket (s : State) (op : Nat) (p : Packet) : State :=
  match opcodes.find? (fun x => x.op == op) with
  | some x => s.takePacket op x.staged x.act p
  | none => s.takeOther op p

/-- A packet of any opcode reaches the engine. -/
def State.arrive (s : State) (op : Nat) (p : Packet) : State := s.engineFeed op p (fun s => s.runPacket op p)

/-- PAD_OPCODE (R518): a pad reaches the engine. -/
def execPadOpcode (p : Packet) (s : State) : Host.Outcome State Fault Refusal := .next ((s.announce p).arrive 0 p)

/-! ## Packets that waited (R525, R531, R571) -/

/-- The oldest packet that waits on a ring is taken, where nothing holds it back any longer; or it is refused a plot now, or the ring
is paused again. -/
def State.ringGo (s : State) (b r : Nat) : Option State :=
  match (s.cring b r).waiting with
  | [] => none
  | (op, p) :: rest =>
    if !s.mustWait p false then some ((s.setCring b r { s.cring b r with waiting := rest }).runPacket op p)
    else if !s.ringHeld b r p false && (s.que (cmdQueue b r)).refused.isNone then some (s.ringStage b r p).2
    else if decide (4096 ≤ (s.cring b r).taken) && !s.isSet (BRG_CRING_STAT_PAUSED b r) then some (s.ringPause b r)
    else none

/-- The first of the packets of a path that wait, where nothing holds it back any longer; `seen` are paths whose first does wait. -/
def State.fencedNext (s : State) (seen : List Path) : List (Nat × Packet) → Option (Nat × Packet)
  | [] => none
  | (op, p) :: rest =>
    if seen.contains (pathSource p.path) then s.fencedNext seen rest
    else if s.mustWait p false then s.fencedNext (pathSource p.path :: seen) rest
    else some (op, p)

/-- A packet that waits off the rings is taken. -/
def State.fencedGo (s : State) : Option State :=
  (s.fencedNext [] s.fenced).map (fun e => ({ s with fenced := s.fenced.erase e } : State).runPacket e.1 e.2)

/-- Packets that wait are taken, `n` at most. -/
def State.takeWaiting (s : State) : Nat → State
  | 0 => s
  | n + 1 =>
    match s.crings.findSome? (fun e => s.ringGo (e.1 / 4) (e.1 % 4)) with
    | some t => t.takeWaiting n
    | none => match s.fencedGo with
      | some t => t.takeWaiting n
      | none => s

/-- The engine goes on with what waits: packets, and sends of which every member has an outcome (R593). -/
def State.settle (s : State) : State :=
  if s.engineShut then s
  else
    let n := s.crings.foldl (fun (a : Nat) e => a + e.2.waiting.length + 2) s.fenced.length
    let s1 := s.takeWaiting n
    s1.gazSends.foldl (fun (s : State) e => match s.gazSend e.1 with
      | some x => if x.isOver then s else s.gazCheck e.1
      | none => s) s1

/-- CMD_RATE_WINDOW (R571): a millisecond of Meridian time has ended; packets that its rate held back are taken. -/
def execCmdRateWindow (s : State) : Host.Outcome State Fault Refusal := .next s.settle

/-! ## Rings (R523, R524) -/

/-- The packets in the slots of a ring that a producer index makes available, in order: `left` bytes lie before the ring's end,
which no packet passes; a packet that fails check 1 takes one slot. -/
def State.slotPackets (s : State) (b r size left : Nat) (l : List Byte) : Nat → List (Nat × Packet)
  | 0 => []
  | n + 1 =>
    if l.isEmpty then []
    else
      let avail := min l.length left
      let len := leNat ((l.drop 8).take 4)
      let fits := decide (36 ≤ len) && decide (len ≤ avail) && decide (len ≤ 4096) && len % 4 == 0
      let x := packetOf (.ring b r) b avail (l.take (if fits then len else 64))
      let k := 64 * s.packetSlots x.2
      x :: s.slotPackets b r size (if left ≤ k then size else left - k) (l.drop k) n

/-- A doorbell value that its ring cannot hold, or of a ring that is off (R524): the sticky bit and PI_BAD. -/
def State.piBad (s : State) (b r : Nat) : State :=
  (s.put (BRG_CRING_STAT_PI_BAD_SEEN b r) 1).raise evCMD_PI_BAD (4 * b + r) [] b

/-- A write of `DB_CMD_PI` (R524): the engine fetches the packets that it makes available; `data` is what their slots hold,
as far as the command gives it; other bytes are free. -/
def State.cmdPi (s : State) (b r v : Nat) (data : List Byte) : State :=
  let x := s.cring b r
  let slots := 2 ^ s.get (BRG_CRING_CTL_CMD_SIZE b r)
  let out := (v + 65536 - s.get (BRG_CRING_CI_V b r) % 65536) % 65536
  if !s.isSet (BRG_CRING_CTL_EN b r) || decide (slots < out) then s.piBad b r
  else
    let n := (v + 65536 - x.pi) % 65536
    if slots < n then s
    else
      let rest := 64 * n - data.length
      let d := s.draw (256 ^ rest)
      let s1 := (if rest = 0 then s else d.2).setCring b r { x with pi := v }
      let bytes := (data ++ leBytes rest d.1).take (64 * n)
      let left := 64 * (slots - x.pi % slots)
      ((s1.slotPackets b r (64 * slots) left bytes n).foldl (fun (s : State) e => s.arrive e.1 e.2) s1).settle

/-- DB_CMD_PI_WRITE (R524): the doorbell of command ring r of the function's borough. -/
def execDbCmdPiWrite (r : Nat) (w : Wr) (data : List Byte) (s : State) : Host.Outcome State Fault Refusal :=
  .next (s.doorbell w (16 * r) (fun s => if r < 4 then s.cmdPi w.fn r (w.v.toNat % 65536) data else s.reservedHit w.fn 2 (16 * r) true))

/-- A write of `DB_CPL_CI` (R524): replies that waited for room are written. -/
def State.cplCiWrite (s : State) (b r v : Nat) : State :=
  let x := s.cring b r
  let out := (s.get (BRG_CPL_PI_V b r) + 65536 - v) % 65536
  if !s.isSet (BRG_CRING_CTL_EN b r) || decide (s.cplSize b r < out) then s.piBad b r
  else ((s.setCring b r { x with cplCi := v }).cplFlush b r x.replies).settle

/-- A plot has been granted to the refused queue q of a ring: its packets, or its replies, go on. -/
def State.ringRetry (s : State) (q : Nat) : State :=
  let b := (q - 16128) / 8
  let r := (q - 16128) % 8 / 2
  (if q % 2 = 1 then s.cplSend b r (s.cring b r).replies else s).settle

/-- PLOT_RETRY (R358): the refused writer of queue q asks again. -/
def execPlotRetry (q : Nat) (s : State) : Host.Outcome State Fault Refusal :=
  if (s.que q).refused.isNone then .next s
  else match s.askPlot q with
    | (true, s1) => .next (if 16128 ≤ q then s1.ringRetry q else s1)
    | (false, s1) => .next s1

/-- DB_CPL_CI_WRITE (R524): the doorbell of completion ring r of the function's borough. -/
def execDbCplCiWrite (r : Nat) (w : Wr) (s : State) : Host.Outcome State Fault Refusal :=
  .next (s.doorbell w (16 * r + 4) (fun s => if r < 4 then s.cplCiWrite w.fn r (w.v.toNat % 65536)
    else s.reservedHit w.fn 2 (16 * r + 4) true))

/-! ## Envelopes (R526, R527) -/

/-- Whether a command counter is fresh (R526). -/
def EnvCtr.fresh (e : EnvCtr) (c : Nat) : Bool :=
  decide (1 ≤ c) && (decide (e.high < c) || (decide (e.high < c + 64) && !e.seen.contains c))

/-- A command counter is accepted. -/
def EnvCtr.take (e : EnvCtr) (c : Nat) : EnvCtr :=
  let h := max e.high c
  { e with high := h, seen := (c :: e.seen).filter (fun x => decide (h < x + 64)) }

/-- Whether a reply that arrives on a path can come from the endpoint of an entry (R586). -/
def State.hopFits (s : State) (x : GazEntry) (path : Path) : Bool :=
  match path with
  | .spaxa sh => x.hopKind == 1 && x.hop == sh
  | .udp _ addr _ =>
    let l := s.adEntry x.hop
    x.hopKind == 2 && leNat ((l.drop 16).take (if leNat ((l.drop 8).take 1) = 4 then 4 else 16)) == addr
  | _ => false

/-- The endpoint whose outstanding copy a reply answers: that of the path with the reply's tag and generation. -/
def State.replyFrom (s : State) (path : Path) (l : List Byte) : Option Nat :=
  let tag := leNat ((l.drop 4).take 2)
  let gen := leNat ((l.drop 3).take 1) / 16
  s.gazSends.findSome? (fun x => match x.2 with
    | some y => (y.copies.find? (fun c => c.tag == tag && c.gen == gen && !c.done && (match s.gazEntry c.e with
      | some z => s.hopFits z path
      | none => false))).map (fun c => c.e)
    | none => none)

/-- The borough whose rate turns an envelope of a command away before it is authenticated (R571). -/
def State.envelopeOver (s : State) (l : List Byte) : Option Nat :=
  let b := leNat ((l.drop 4).take 1)
  if leNat ((l.drop 5).take 1) = 1 && b < 32 && s.overRate b then some b else none

/-- An envelope arrives on a path while `ahead` others wait for authentication (R526, R571). -/
def State.envelopeIn (s : State) (path : Path) (ahead : Nat) (l : List Byte) : State :=
  if s.engineShut || decide (256 ≤ ahead) then s.bumpSat CMD_UDP_DROP evCMD_CNT_SAT
  else match s.envelopeOver l with
  | some b => (s.bumpSat CMD_UDP_DROP evCMD_CNT_SAT).rateSay b
  | none => match s.openEnvelope l with
    | none =>
      let b := leNat ((l.drop 4).take 1)
      s.authFail (if b < 32 then b else 0)
    | some (b, 1, c, pkt) =>
      if !(s.env b).fresh c then (s.bumpSat CMD_UDP_REPLAY evCMD_CNT_SAT).raise evCMD_REPLAY_DROP 65535 [] b
      else
        let x := packetOf path b pkt.length pkt
        ((s.setEnv b ((s.env b).take c)).arrive x.1 x.2).settle
    | some (_, _, _, pkt) => match s.replyFrom path pkt with
      | some e => s.gazReply e (bytesWords pkt)
      | none => s.lateReply

/-- CMD_ENVELOPE_RX (R526): a datagram to the command port arrives on a route port from a UDP sender. -/
def execCmdEnvelopeRx (port addr udp ahead : Nat) (data : List Byte) (s : State) : Host.Outcome State Fault Refusal :=
  .next (if s.isSet CMD_UDP_EN then s.envelopeIn (.udp port addr udp) ahead data else s)

/-- COMMAND_RX (R457, R515): the oldest control message of a link is a COMMAND message; its body is an envelope. -/
def execCommandRx (sh : Nat) (s : State) : Host.Outcome State Fault Refusal :=
  match s.takeCtl sh 8 with
  | none => .next s
  | some (m, s1) =>
    let l := m.drop 16
    .next (s1.envelopeIn (.spaxa sh) 0 (l.take (48 + leNat ((l.drop 24).take 4))))

/-- CMD_KEY_LOAD (R527): a write of `CMD_KEY_CTL`. -/
def execCmdKeyLoad (w : Wr) (s : State) : Host.Outcome State Fault Refusal :=
  .next (s.pfOnly w CMD_KEY_CTL.key (fun s => s.keyCtlWrite w))

/-- CMD_KEY_CLEAR (R527): a write of `CMD_KEY_CTL`. -/
def execCmdKeyClear (w : Wr) (s : State) : Host.Outcome State Fault Refusal :=
  .next (s.pfOnly w CMD_KEY_CTL.key (fun s => s.keyCtlWrite w))

end Sys2Proof.Machine
end

