-- ==== Sys2Proof/Machine/SlotRun.lean ====
section
/-! DEFINITION. The output of a slot that runs: the boundaries that its intake, its front stages and its output pass one after
another, its source samples and its grid samples (R29, R34, R140, R166, R168, R172, R174 to R187, R195, R213 to R215, R223,
R241). -/
namespace Sys2Proof.Machine

/-- Whether a boundary of a slot brings an operation of a kind. -/
def SlotMark.has (m : SlotMark) (op : StagedOp) : Bool := m.changes.any (fun x => x.op == op)

/-- The values that a boundary of a slot puts in force. -/
def SlotMark.vals (m : SlotMark) : List SVal := m.changes.flatMap (fun x => x.vals)

/-- Change the entry of a boundary of slot n. -/
def State.setMark (s : State) (n k : Nat) (f : SlotMark → SlotMark) : State :=
  let x := s.slot n
  s.setSlot n { x with marks := x.marks.map (fun m => if m.k = k then f m else m) }

/-- Whether an instant in 2^-48 ns lies at or after a boundary of slot n. -/
def State.markReached (s : State) (n : Nat) (m : SlotMark) (t : Int) : Bool :=
  decide (s.gridInstant (s.slot n).grid m.k * 2 ^ 32 ≤ t)

/-! ## A boundary at the intake and along the front stages -/

/-- A boundary reaches the intake of slot n: the fields that act there come in force, a restart begins the test pattern and the raw
path afresh, and with an unbind the raw path ends (R168, R172 to R178). -/
def State.intakePass (s : State) (n : Nat) (m : SlotMark) : State :=
  if m.has .unbind then
    let s1 := s.cutTile n true false false
    (s1.setSlot n { s1.slot n with ended := true }).showRaw n
  else
    let raw := s.fget (CHP_CTL_RAW n)
    let s1 := s.forceVals (cutVals n intakeMask m.vals)
    if m.has .restart then
      let s2 := s1.cutTile n true false false
      (s2.setSlot n { s2.slot n with patIdx := 0, prbs := 32767 }).rawForce n
    else if s1.fget (CHP_CTL_RAW n) = raw then s1
    else if raw = 1 then (s1.cutTile n true false false).showRaw n else s1.rawForce n

/-- The boundaries that a sample with instant t lies at or after pass the intake of slot n. -/
def State.intakeMarks (s : State) (n : Nat) (t : Int) : State :=
  (s.slot n).marks.foldl (fun (s : State) m =>
    if m.intake || !s.markReached n m t then s
    else (s.intakePass n m).setMark n m.k (fun m => { m with intake := true })) s

/-- The boundaries before the next restart that a sample with instant t lies at or after pass the front stages of slot n. -/
def State.chainMarks (s : State) (n : Nat) (t : Int) : State :=
  ((s.slot n).marks.takeWhile (fun m => !m.has .restart)).foldl (fun (s : State) m =>
    if m.chain || !s.markReached n m t then s
    else
      let s1 := s.changeFront n m.vals
      s1.setMark n m.k (fun m => { m with chain := true, gd := some (s1.groupDelay (s1.slotForce n)) })) s

/-- A sample with instant t leaves the intake of slot n for the front stages (R180, R184). From the boundary of a restart on it is
also kept for the histories that begin there: until its output reaches that boundary, the slot runs on the old ones (R172). -/
def State.feed (s : State) (n i : Nat) (t : Int) (v : Smp) : State :=
  let s1 := s.chainMarks n t
  let x := s1.slot n
  let wait := x.marks.any (fun m => m.has .restart && s1.markReached n m t)
  (if wait then s1.setSlot n { x with held := x.held ++ [(i, t, v)] } else s1).frontStages n i v

/-! ## A boundary at the output -/

/-- Emit slot n's frame record at a boundary (R215): the count of GAP samples starts afresh. -/
def State.slotFrame (s : State) (n : Nat) (m : SlotMark) : State :=
  let x := s.slot n
  let r := s.frameItem (s.slotCfg n) x.path m.frame m.track m.tstate m.coarse (leBytes 8 (s.slotStep n) ++ leBytes 4 x.frameGaps)
  r.1.setSlot n { r.1.slot n with path := r.2, frameGaps := 0 }

/-- Slot n enters FIXED (R214): Δ is exactly `MULT` / P_total, and the position follows the mean offset. -/
def State.enterFixed (s : State) (n : Nat) (ofs : Int) : State :=
  let s1 := (s.setSlot n { s.slot n with lockOfs := ofs, rangeLost := false, posVer := none }).put (CHP_RSM_STAT_TRACK n) 5
  s1.setStep n (s1.lockStep n (s1.slotGroup n))

/-- The output of slot n reaches a boundary that changes it without a restart (R34, R179, R205, R209, R223, R224). -/
def State.passFields (s : State) (n : Nat) (m : SlotMark) : State :=
  let s1 := if m.chain then s else s.changeFront n m.vals
  let old := s1.slotForce n
  let s2 := s1.forceVals (cutVals n backMask m.vals)
  let new := s2.slotForce n
  let x := s2.slot n
  let gd := m.gd.getD (s2.groupDelay new)
  let mult := bits (old 0x18) 22 16 != bits (new 0x18) 22 16
  let coef := bits (old 0xC8) 20 16 != bits (new 0xC8) 20 16
  let y := { x with gd := gd, posVer := if gd = x.gd && !mult then x.posVer else none,
                    coefFrom := if coef then some m.k else x.coefFrom }
  let s3 := s2.setSlot n y
  let s4 := if bits (old 0xA0) 31 30 ≠ bits (new 0xA0) 31 30 then s3.setSlot n { y with setM := some (s3.positionOf n m.k) } else s3
  let s5 := if mult then s4.followSource n else s4
  let run := countIf (fun j => s5.windowUnsettled n j)
    ((List.range (ceilDiv (s5.chanL n) (s5.chanM n) + 1)).map (fun i => (s5.slot n).nextJ + i))
  if coef && s5.chanOn n then s5.put (CHP_CHN_STAT_USPEC n) (max run (s5.get (CHP_CHN_STAT_USPEC n))) else s5

/-- The output of slot n reaches the boundary of a restart (R172, R224): its items end, every history is emptied, the new settings
are in force. -/
def State.passRestart (s : State) (n : Nat) (m : SlotMark) : State :=
  (((s.slotEndItems n).forceVals (cutVals n (fun o => chainMask o + backMask o) m.vals)).restartSlot n m.k).chanStart n m.k

/-- The samples that wait for a restart pass the front stages of slot n. -/
def State.replay (s : State) (n : Nat) : State :=
  let x := s.slot n
  x.held.foldl (fun (s : State) e => s.feed n e.1 e.2.1 e.2.2) (s.setSlot n { x with held := [] })

/-- The output of slot n reaches a boundary (R29, R168, R172, R215): the spectra labelled before it are made with the old settings,
then its changes take effect and its frame record follows; with an unbind the output ends. -/
def State.passMark (s : State) (n : Nat) (m : SlotMark) : State :=
  let s1 := s.drainSpectra n m.k (m.k + 1)
  let s2 := if m.intake then s1 else s1.intakePass n m
  if m.has .unbind then (s2.slotEndItems n).endOutput n
  else
    let s3 := if m.has .restart then s2.passRestart n m else s2.passFields n m
    let s4 := match m.fix with
      | none => s3
      | some ofs => s3.enterFixed n ofs
    let s5 := if m.record then s4.slotFrame n m else s4
    if m.has .restart then s5.replay n else s5

/-- The output of slot n passes the boundaries that it has reached. -/
def State.settleMarks (s : State) (n : Nat) : Nat → State
  | 0 => s
  | fuel + 1 =>
    let x := s.slot n
    match x.marks with
    | [] => s
    | m :: r => if x.nextK < m.k then s else ((s.setSlot n { x with marks := r }).passMark n m).settleMarks n fuel

/-- Let the output of slot n pass every boundary that it has reached. -/
def State.settleSlot (s : State) (n : Nat) : State := s.settleMarks n (s.slot n).marks.length

/-- Put a boundary before the output of slot n, or add to the one that stands there already. -/
def State.addMark (s : State) (n : Nat) (m : SlotMark) : State :=
  let x := s.slot n
  if x.marks.any (fun y => y.k == m.k) then
    s.setMark n m.k (fun y => { y with changes := y.changes ++ m.changes, record := y.record || m.record, track := m.track, fix := m.fix })
  else s.setSlot n { x with marks := x.marks ++ [m] }

/-! ## Grid samples -/

/-- The next grid sample of slot n where it is due, and the boundary that the output reaches with it. -/
def State.gridAdvance (s : State) (n : Nat) : State := (s.gridStep n).settleSlot n

/-- Emit the grid samples of slot n whose chain outputs have all arrived. -/
def State.gridDrain (s : State) (n : Nat) : Nat → State
  | 0 => s
  | fuel + 1 =>
    let tr := s.get (CHP_RSM_STAT_TRACK n)
    let t := s.gridAdvance n
    if (tr = 2 || tr = 3 || tr = 5) && s.support n (s.nextPos n) = some true && (s.slot n).nextK < (t.slot n).nextK then
      t.gridDrain n fuel
    else s

/-- GRID_SAMPLE_EMIT (R195, R209, R212): the next grid sample of slot n. While the pipeline clock is unlocked its units hold
their state (R663). -/
def execGridSampleEmit (n : Nat) (s : State) : Host.Outcome State Fault Refusal :=
  .next (if s.slotRuns n && s.isSet CLK_STAT_CORE_LOCK then s.gridAdvance n else s)

/-- Source samples of slot n resume after absence (R213); the grid samples whose chain outputs have all arrived go out first. -/
def State.sourceResume (s : State) (n : Nat) : State := (s.gridDrain n (4 * (s.slot n).outs.length)).resumeSource n

/-- SOURCE_RESUME (R213): source samples of slot n resume. -/
def execSourceResume (n : Nat) (s : State) : Host.Outcome State Fault Refusal :=
  .next (if s.slotRuns n && s.isSet CLK_STAT_CORE_LOCK then s.sourceResume n else s)

/-! ## Source samples (R140, R166, R174, R178, R381) -/

/-- Source sample i of slot n after its hold in the intake (R176): it feeds the raw path and the fast power detector, and passes
the front stages. One that a full post queue refuses is absent (R381); so is one whose index is skipped, and the histories begin
anew behind it (R213). A sample before the bind's boundary and one that has come already change nothing. -/
def State.takeSample (s : State) (n i : Nat) (x : SrcSample) : State :=
  let y := s.slot n
  let t := s.instant n i
  let early := srcType (s.srcWord n) != 2 && decide (s.mt * 2 ^ 32 < t + intakeHold)
  let old := match y.lastI with
    | none => false
    | some l => decide (i ≤ l)
  let gap := match y.lastI with
    | none => decide (0 < y.since)
    | some l => decide (i ≠ l + 1)
  if !y.run || !s.srcFlows n || decide (t < y.start) || early || old then s
  else if x.refused then (s.cutTile n false true false).raise evSYS_POST_OVERFLOW 65535 [.w4 n]
  else if !s.awake (s.slotDomain n) then s
  else
    let s1 := (if gap then s.sourceResume n else s).intakeMarks n t
    let r := s1.intake n t x
    let s2 := s1.setSlot n { r.2 with lastI := some i }
    let s3 := if s2.intakeOn n then (s2.rawTake n t r.1).fastPower n t r.1 else s2
    s3.feed n i t r.1

/-- The slots whose output runs on converter input i. -/
def State.inputSlots (s : State) (i : Nat) : List Nat :=
  (s.slots.filter (fun e => e.2.run && srcType e.2.src == 1 && srcIndex e.2.src == i)).map (fun e => e.1)

/-- Sample i of converter input `inp` reaches the core (R140, R166): over-range is shown whatever is bound, and every slot that
takes the input reads the same sample. -/
def State.inputSample (s : State) (inp i : Nat) (x : SrcSample) : State :=
  if !(s.grp (inputGroup inp)).flowing || !s.awake (inputGroup inp) then s
  else
    let s1 := if x.isOver then s.setSub (iStat inp) 15 15 1 else s
    (s1.inputSlots inp).foldl (fun (s : State) n => s.takeSample n i x) s1

/-- SOURCE_SAMPLE (R140, R174 to R187, R241): sample i of a source, of the converter input or the slot that it names. -/
def execSourceSample (src : SampleSrc) (i : Nat) (x : SrcSample) (s : State) : Host.Outcome State Fault Refusal :=
  if !s.isSet CLK_STAT_CORE_LOCK then .next s
  else match src with
  | .input inp => .next (if inp < s.part.inputs then s.inputSample inp i x else s)
  | .slot n => .next (if srcType (s.srcWord n) = 1 then s.inputSample (srcIndex (s.srcWord n)) i x else s.takeSample n i x)

end Sys2Proof.Machine
end

