-- ==== Sys2Proof/Machine/Boundary.lean ====
section
/-! DEFINITION. Frame boundaries: staged changes take effect, slots enter locked mode, frame records leave (R27 to R34, R159, R168
to R172, R214, R215, R230, R232, R235, R256, R639). -/
namespace Sys2Proof.Machine

/-! ## Staged changes of one boundary -/

/-- Put an index into a rising list without repeats. -/
def insertIdx (k : Nat) : List Nat → List Nat
  | [] => [k]
  | j :: l => if k < j then k :: j :: l else if k = j then j :: l else j :: insertIdx k l

/-- The boundaries up to index k of grid g for which changes or commands wait, in rising order. -/
def State.dueIdx (s : State) (g k : Nat) : List Nat :=
  (((s.staged.filter (fun x => x.grid == g && decide (x.index ≤ k))).map (fun x => x.index)) ++
    (s.cmds.filter (fun c => c.grid == g && decide (c.index ≤ k))).map (fun c => c.index)).foldl (fun l i => insertIdx i l) []

/-- The entry of boundary k of grid g for the output of a slot. -/
def State.slotMark (s : State) (g k : Nat) (record : Bool) (l : List Staged) : SlotMark :=
  { k := k, frame := k / s.frameLen g, tstate := s.tstate, coarse := s.get TB_STATUS_COARSE, track := 0, record := record,
    fix := none, changes := l }

/-- The changes of a retired slot leave its `DEAD` mark in force: it stands until the slot is unbound (R639). -/
def State.keepDead (s : State) (n : Nat) (l : List Staged) : List Staged :=
  if s.retiredSlots.contains n then
    l.map (fun x => if x.action = hubAction then x else { x with vals := x.vals.map (fun v =>
      if v.key = (CHP_CTL n).key then { v with mask := setBits v.mask (CHP_CTL_DEAD n).hi (CHP_CTL_DEAD n).lo 0 } else v) })
  else l

/-- Changes of slot n take effect together at grid index k of grid g: `l` holds them in the order in which they were staged (R29, R33,
R168, R169, R172). What acts at the output waits there until it has reached k. -/
def State.applySlot (s : State) (g n k : Nat) (l0 : List Staged) : State :=
  let l := s.keepDead n l0
  if l.any (fun x => x.op == .unbind) then
    (if s.slotRuns n then s.addMark n (s.slotMark g k false l) else s).idleSlot n
  else if l.any (fun x => x.op == .bind) then
    let s1 := if s.slotRuns n then (s.slotEndItems n).cutTile n true false false else s
    (((s1.bindSlot n (l.flatMap (fun x => x.vals)) k).chanStart n k).rawForce n).raise (evCHP_RESTART_DONE n) n
  else
    let s1 := s.addMark n (s.slotMark g k false l)
    if l.any (fun x => x.op == .restart) then s1.raise (evCHP_RESTART_DONE n) n else s1

/-- Changes of input i take effect at an instant in 2^-48 ns: its enable, or the trim word of a slice (R159, R297). -/
def State.applyInput (s : State) (i : Nat) (at_ : Int) (l : List Staged) : State :=
  (l.flatMap (fun x => x.vals)).foldl (fun s v =>
    if v.key = (CNV_IN_CTL (i / 96) (i % 96)).key then (s.forceVal v).inputEnable i (bit v.val 0) at_
    else match (List.range 17).find? (fun sl => v.key == (iTrim i sl).key) with
    | some sl => s.setSub (iTrim i sl) 28 0 v.val
    | none => s) s

/-- The changes of one unit take effect at index k of grid g. -/
def State.applyUnit (s : State) (g k : Nat) (u : UnitId) (l : List Staged) : State :=
  match u with
  | .slot n => (s.applySlot g n k l).showDirty n
  | .beam b => l.foldl (fun s x => s.applyBeam b k x) s
  | .fe => (l.foldl (fun s x => s.applyFe k x) s).calRecheck
  | .input i => s.applyInput i (s.gridInstant g k * 2 ^ 32) l

/-- The order in which the units of a boundary change: slots before the beams that they feed. -/
def UnitId.rank : UnitId → Nat
  | .slot _ => 0
  | .beam _ => 1
  | .fe => 2
  | .input _ => 3

/-- Every change staged for boundary k of grid g takes effect, and the commands that wait for it complete (R27, R522). -/
def State.applyIndex (s : State) (g k : Nat) : State :=
  let due := s.staged.filter (fun x => x.grid == g && x.index == k)
  let units := (due.map (fun x => x.unit)).eraseDups
  let s1 : State := { s with staged := s.staged.filter (fun x => !(x.grid == g && x.index == k)) }
  let s2 := [0, 1, 2, 3].foldl (fun (s : State) r =>
    (units.filter (fun u => u.rank == r)).foldl (fun (s : State) u =>
      (s.applyUnit g k u (due.filter (fun x => x.unit == u))).showPend u) s) s1
  s2.finishBoundary g k

/-! ## Locked mode and frame records (R214, R215, R240) -/

/-- The offset of the position of slot n in FIXED on group gr, in 2^-48 source sample: the group's mean offset and the input's
aperture delay (R214). -/
def State.lockOffset (s : State) (n gr : Nat) : Int :=
  let l := s.lockGrid gr
  let late := (s.grp gr).lockMean + s.aperture (srcIndex (s.srcWord n))
  (0 - late) * ((s.gridNum l.1 * l.2 : Nat) : Int) / ((max 1 (s.gridDen l.1 * 1000000000) : Nat) : Int)

/-- Boundary k of grid g stands before the output of slot n: its frame record follows there, with the time status and the tracking
state of this instant; a slot whose group holds lock to the grid enters FIXED there (R214, R215). -/
def State.recordMark (s : State) (g k n : Nat) : State :=
  let gr := s.slotGroup n
  let tr := s.get (CHP_RSM_STAT_TRACK n)
  let fixed := tr = 5 || (s.slot n).marks.any (fun m => m.fix.isSome)
  let lock := srcType (s.srcWord n) == 1 && s.get (CNV_GRP_STAT_LOCKED (gr / 3) (gr % 3)) == 1 && (s.lockGrid gr).1 == g
  let fix := if lock && !fixed then some (s.lockOffset n gr) else none
  (s.put (CHP_RSM_STAT_TSTATE n) s.tstate).addMark n
    { s.slotMark g k true [] with track := if fixed || fix.isSome then 5 else tr, fix := fix }

/-! ## The boundary -/

/-- Slots bound to grid g whose output runs. -/
def State.runsOn (s : State) (g : Nat) : List Nat :=
  (s.slots.filter (fun e => e.2.run && e.2.on && e.2.waits != 1 && e.2.grid == g)).map (fun e => e.1)

/-- Engine substitutions whose slots have all restarted complete (R639). -/
def State.engBoundary (s : State) : State :=
  let l := s.engSwaps.map (fun x => { x with slots := x.slots.filter (fun n =>
    (s.slot n).on && s.staged.any (fun y => y.unit == .slot n && y.op == .restart)) })
  (l.filter (fun x => x.slots.isEmpty)).foldl State.engSwapDone { s with engSwaps := l }

/-- The outputs of grid g pass the boundaries that they have reached: the slots before the beams that they feed. -/
def State.settleGrid (s : State) (g : Nat) : State :=
  let s1 := s.slots.foldl (fun (s : State) e => if e.2.run && e.2.grid == g then s.settleSlot e.1 else s) s
  s1.beams.foldl (fun (s : State) e => if e.2.marks.isEmpty then s else s.settleBeam e.1) s1

/-- Boundary f of grid g arrives. -/
def State.boundary (s : State) (g f : Nat) : State :=
  let k := f * s.frameLen g
  let s1 := (s.dueIdx g k).foldl (fun s i => s.applyIndex g i) { s with gridNext := mapPut 0 g (f + 1) s.gridNext }
  let s2 := (s1.beamsOn g).foldl (fun s b => s.checkMembers k b) s1
  let s3 := (s2.bmacBoundary g k).engBoundary
  let s4 := (s3.runsOn g).foldl (fun s n => s.recordMark g k n) s3
  let s5 := (s4.beamsOn g).reverse.foldl (fun s b => s.addBeamMark b (s.beamMark g k true [])) s4
  (s5.settleGrid g).abortDiscarded

/-- FRAME_BOUNDARY (R27): the instant of frame boundary f of grid g is reached, each once and in rising order. -/
def execFrameBoundary (g f : Nat) (s : State) : Host.Outcome State Fault Refusal :=
  if g < 8 && s.gridValid g && decide (mapGet 0 g s.gridNext ≤ f) && decide (s.gridInstant g (f * s.frameLen g) ≤ s.mt) then
    .next (s.boundary g f).settle
  else .next s

/-! ## Idle time -/

/-- The phase clock advances by one step (R45, R47): one tick of 0.4 ns, or 25 ticks, one cycle of the crystal oscillator, while
the phase PLL is out of lock; it stands before the first lock. -/
def State.clock (s : State) : State :=
  if !s.tb.locked then s
  else { s with tb := { s.tb with fc := s.tb.fc + (if s.isSet TB_STATUS_COARSE then 25 else 1) } }

/-- What the hub does while no command waits (DESIGN CHOICE, log entry 40): the phase clock advances, and the command engine goes on
with the packets that wait. -/
def State.idle (s : State) : State := s.clock.settle

end Sys2Proof.Machine
end

