-- ==== Sys2Proof/Machine/SpxStreams.lean ====
section
/-! DEFINITION. Streams and time beacons of Spaxa links (R462 to R470). -/
namespace Sys2Proof.Machine

/-! ## Streams (R462 to R466) -/

/-- The data flit at the head of the receive buffer of a sheet, where it is of the type given. -/
def State.headFlit (s : State) (sh type : Nat) : Option InFlit :=
  match (s.lnk sh).rx.din with
  | [] => none
  | f :: _ => if f.type = type then some f else none

/-- A Meridian time of 12 bytes at an offset. -/
def mtAt (l : List Byte) (a : Nat) : Int := mtOf (flitAt l (a + 6) 6) (flitAt l (a + 2) 4) (flitAt l a 2)

/-- The head data flit leaves the receive buffer and its credit is released (R456). -/
def State.popFlit (s : State) (sh : Nat) : State :=
  let x := s.lnk sh
  (s.setLnk sh { x with rx := { x.rx with din := x.rx.din.drop 1 } }).relData sh

/-- A node stream by sheet and stream number. -/
def State.nodeStream (s : State) (sh st : Nat) : NodeStream := mapGet {} (256 * sh + st) s.nodes

/-- The slots whose output runs on a node stream. -/
def State.nodeSlots (s : State) (sh st : Nat) : List Nat :=
  (s.slots.filter (fun e => e.2.run && srcType e.2.src == 2 && srcSheet e.2.src == sh && srcIndex e.2.src == st)).map
    (fun e => e.1)

/-- Put a node stream; the slots that take it follow its declarations (R199, R204). -/
def State.setNode (s : State) (sh st : Nat) (x : NodeStream) : State :=
  (s.nodeSlots sh st).foldl State.nodeFollow { s with nodes := mapPut {} (256 * sh + st) x s.nodes }

/-- Bits per component of a sample format (R464). -/
def formatWidth (f : Nat) : Nat := 4 * (f % 4 + 1)

/-- Sample j of a packed payload (R464). -/
def sampleAt (fmt : Nat) (bits : Nat) (j : Nat) : Int × Int :=
  let w := formatWidth fmt
  let c := if bit fmt 2 then 2 else 1
  let comp := fun (k : Nat) => sext w (bits / 2 ^ (w * k) % 2 ^ w)
  (comp (c * j), if c = 2 then comp (c * j + 1) else 0)

/-- SAMPLE_RX (R464, R465): the SAMPLE flit at the head of the receive buffer delivers its samples to the slots that take the
stream; `full` names the slots whose post queue refuses them (R381). -/
def execSampleRx (sh : Nat) (full : List Nat) (s : State) : Host.Outcome State Fault Refusal :=
  match s.headFlit sh 0x10 with
  | none => .next s
  | some f =>
    let s1 := s.popFlit sh
    let st := f.stream % 256
    let x := s1.nodeStream sh st
    let n := flitAt f.data 0 8
    let fmt := flitAt f.data 8 1
    let mark := flitAt f.data 9 1
    let count := flitAt f.data 10 2
    let most := 1760 / (formatWidth fmt * (if bit fmt 2 then 2 else 1))
    if !x.declared || fmt ≠ x.format || n < x.next || count = 0 || most < count || 256 ≤ f.stream then .next (s1.rxDiscard sh)
    else
      let take := min count (x.nextN - n)
      let body := leNat (f.data.drop 12)
      let y := { x with next := if take = 0 then x.next else n + take, missing := x.missing || decide (take < count) }
      let slots := s1.nodeSlots sh st
      let s2 := (List.range take).foldl (fun (s : State) (j : Nat) =>
        let v := sampleAt fmt body j
        slots.foldl (fun (s : State) (k : Nat) =>
          s.takeSample k (n + j) ⟨v.1, v.2, false, bit mark 0, bit mark 1, bit mark 2, full.contains k⟩) s) s1
      .next (s2.setNode sh st y)

/-- DECLARE_RX (R465): the DECLARE flit at the head of the receive buffer fixes the timing of its stream. -/
def execDeclareRx (sh : Nat) (s : State) : Host.Outcome State Fault Refusal :=
  match s.headFlit sh 0x13 with
  | none => .next s
  | some f =>
    let s1 := s.popFlit sh
    let d := flitAt f.data
    let st := f.stream % 256
    if d 28 8 ≤ d 0 8 || 256 ≤ f.stream then .next (s1.rxDiscard sh)
    else
      let x := s1.nodeStream sh st
      let t := mtAt f.data 8
      .next (s1.setNode sh st { x with declared := true, nd := d 0 8, mt := t, period := d 20 8, nextN := d 28 8, format := d 36 1,
                                       tstate := d 37 1 % 4, missing := false })

/-- The channel values of a whole partial: channel c from the flit that carries it; a channel that no flit carries is free. -/
def State.partVals (s : State) (flits : List (List Byte)) (count : Nat) : List (Int × Int) × State :=
  (List.range count).foldl (fun (a : List (Int × Int) × State) c =>
    match flits.find? (fun f => flitAt f 16 2 ≤ c && c < flitAt f 16 2 + min 26 (flitAt f 18 2)) with
    | some f =>
      let o := 24 + 8 * (c - flitAt f 16 2)
      (a.1 ++ [(sext 32 (flitAt f o 4), sext 32 (flitAt f (o + 4) 4))], a.2)
    | none =>
      let r := a.2.drawInt
      let i := r.2.drawInt
      (a.1 ++ [(r.1, i.1)], i.2)) ([], s)

/-- The unit of a stream in progress: the bytes of its flits so far; none where no FIRST has come. -/
def State.unitOpen (s : State) (sh key : Nat) : Option (List Byte) :=
  ((s.lnk sh).rx.units.find? (fun e => e.1 == key)).map (fun e => e.2)

/-- Keep or end the unit of a stream in progress. -/
def State.setUnit (s : State) (sh key : Nat) (v : Option (List Byte)) : State :=
  let x := s.lnk sh
  let rest := x.rx.units.filter (fun e => e.1 != key)
  s.setLnk sh { x with rx := { x.rx with units := match v with
    | some l => (key, l) :: rest
    | none => rest } }

/-- PARTIAL_RX (R466, R233): the PARTIAL flit at the head of the receive buffer; at its `LAST` the partial has arrived. -/
def execPartialRx (sh : Nat) (s : State) : Host.Outcome State Fault Refusal :=
  match s.headFlit sh 0x11 with
  | none => .next s
  | some f =>
    let s1 := s.popFlit sh
    let key := 0x10000 + f.stream
    match (if f.first then some [] else s1.unitOpen sh key) with
    | none => .next s1
    | some l =>
      let all := l ++ f.data ++ List.replicate (232 - f.data.length) 0#8
      if !f.last then .next (s1.setUnit sh key (some all))
      else
        let flits := pieces 232 (all.length / 232 + 1) all
        let h := flitAt all
        let s2 := s1.setUnit sh key none
        match s2.chainBeams sh f.stream with
        | [] => .next s2
        | beams =>
          let v := s2.partVals flits (h 14 2)
          .next (beams.foldl (fun (s : State) b => s.takePartial b (h 0 8) (h 8 1 % 8) (h 12 2) (h 14 2) (h 10 2) v.1) v.2)

/-- Whether queue q takes an incoming stream now: it is an ON stream-in queue. -/
def State.streamInOn (s : State) (q : Nat) : Bool :=
  decide (q < 16384) && s.get (QUE_CFG0_TYPE q) == 1 && s.get (QUE_STAT_STATE q) == 1

/-- A whole unit of an incoming stream is offered to its queue (R354, R463); its index is its byte offset in the stream. -/
def State.unitIn (s : State) (q : Nat) (bytes : List Byte) : State :=
  let x := s.que q
  let s1 := s.offerUnit { queue := q, bytes := bytes, first := x.total, last := x.total, kind := 2 }
  if s.isSet (QUE_CFG0_REC q) then s1 else s1.setQue q { s1.que q with total := x.total + bytes.length }

/-- The receive map entry of stream n of a sheet (R463). -/
def State.rxMap (s : State) (sh n : Nat) : Nat := (s.tab (0x1580000 + 0x4000 * sh + 4 * n)).toNat

/-- QUEUE_FLIT_RX (R463): the QUEUE flit at the head of the receive buffer gives its bytes to the queue that the map names. -/
def execQueueFlitRx (sh : Nat) (s : State) : Host.Outcome State Fault Refusal :=
  match s.headFlit sh 0x12 with
  | none => .next s
  | some f =>
    let s1 := s.popFlit sh
    let e := s1.rxMap sh f.stream
    let q := bits e 13 0
    if !bit e 31 || !s1.streamInOn q then .next ((s1.rxDiscard sh).setUnit sh f.stream none)
    else match (if f.first then some [] else s1.unitOpen sh f.stream) with
      | none => .next (s1.rxDiscard sh)
      | some l =>
        if f.last then .next ((s1.setUnit sh f.stream none).unitIn q (l ++ f.data))
        else .next (s1.setUnit sh f.stream (some (l ++ f.data)))

/-! ## Time beacons (R467 to R470) -/

/-- Whether `PERIOD` µs have passed since a beacon was last due (R467). -/
def State.beaconDue (s : State) (sh : Nat) : Bool :=
  match (s.lnk sh).bcn.due with
  | none => true
  | some t => decide (t + ((s.get (SPX_BCN_PERIOD sh) * mtUs : Nat) : Int) ≤ s.mt)

/-- BEACON_TX (R467): `PERIOD` µs have passed and a beacon waits for the next even-numbered block. -/
def execBeaconTx (sh : Nat) (s : State) : Host.Outcome State Fault Refusal :=
  if s.isSet (SPX_CTL_BCN_EN sh) && s.linkActive sh && s.sheetAwake sh && s.beaconDue sh then
    let x := s.lnk sh
    .next (s.setLnk sh { x with tx := { x.tx with beacon := true }, bcn := { x.bcn with due := some s.mt } })
  else .next s

/-- The hub identifier that the beacons carry differs from the one last traced (R67): SRC_CHANGED is raised, and none is the one last
traced until the new peer qualifies (DEDUCED, log entry 64). -/
def State.peerCheck (s : State) (ident : Nat) : State :=
  match s.tb.tracedHub with
  | none => s
  | some h =>
    if h = ident then s
    else
      let s1 := (s.raise evTB_SRC_CHANGED).toHoldover
      { s1 with tb := { s1.tb with tracedHub := none } }

/-- Whether the servo takes its time from a sheet (R469): the source is SPX on it, and it is a PEER link. -/
def State.servoSheet (s : State) (sh : Nat) : Bool := s.get TB_DISC_SRC == 2 && s.get TB_DISC_SHEET == sh && !s.hostRole sh

/-- The identifier of every beacon of the servo's sheet is compared (R67, R105). -/
def State.beaconPeer (s : State) (sh ident : Nat) : State := if s.servoSheet sh then s.peerCheck ident else s

/-- One beacon exchange is used (R62, R469): the offset θ is the phase error, measured against the window where this sheet is the
source of the servo; a source that is traced leaves its identifier as the one last traced (R67). -/
def State.beaconUse (s : State) (sh ident : Nat) (theta : Int) : State :=
  if s.servoSheet sh then
    let s1 := s.measurePhase theta
    if s1.tstate = 1 then { s1 with tb := { s1.tb with tracedHub := some ident } } else s1
  else s

/-- BEACON_RX (R467 to R469): the oldest beacon received is recorded, and an exchange yields offset and delay where the record
holds its four instants. -/
def execBeaconRx (sh : Nat) (s : State) : Host.Outcome State Fault Refusal :=
  let x := s.lnk sh
  match x.rx.beacons with
  | [] => .next s
  | (l, t) :: rest =>
    let d := flitAt l
    let seq := d 0 4
    let near := x.bcn.dep.any (fun e => decide ((e.2 - t).natAbs < 10 * 65536))
    let s0 := (s.setLnk sh { x with rx := { x.rx with beacons := rest } }).wn (SPX_BCN_SEQ sh) seq
    if near then .next s0
    else
      let arr := ((seq, t) :: x.bcn.arr).take 64
      let s1 := s0.setLnk sh { s0.lnk sh with bcn := { x.bcn with arr := arr, last := some (seq, t), usable := some s.mt, lost := false } }
      let da := sext 32 (s.rn (SPX_ASYM sh))
      let apart := decide (65536 < (da + sext 32 (d 36 4)).natAbs * 1000)
      let trace := s.get TB_DISC_SRC == 2 && s.get TB_DISC_SHEET == sh
      let s2 := if apart then s1.raise evSPX_TIME_WARN sh [.w4 1] else s1
      let s3 := (if trace && bit (d 40 1) 3 then s2.raise evSPX_TIME_WARN sh [.w4 2] else s2).beaconPeer sh (d 4 4)
      let t1 := mtAt l 8
      let t4 := mtAt l 24
      let q := x.bcn.arr.find? (fun e => e.1 == (seq + 2 ^ 32 - 1) % 2 ^ 32)
      let m := x.bcn.dep.find? (fun e => e.1 == d 20 4)
      match q, m with
      | some (_, t2), some (_, t3) =>
        if t4 = 0 then .next s3
        else
          let theta := divRound ((t2 - t1) - (t4 - t3) + da) 2
          let delta := divRound ((t2 - t1) + (t4 - t3)) 2
          let s4 := (s3.wr64 (SPX_BCN_OFS_LO sh) (SPX_BCN_OFS_HI sh) (toBits 64 theta)).wn (SPX_BCN_DLY sh) (toBits 32 delta)
          .next (s4.beaconUse sh (d 4 4) theta)
      | _, _ => .next s3

/-- BEACON_LOST (R470): no usable beacon for 4 × `PERIOD`; the loss is said once and ends at the next usable beacon. -/
def execBeaconLost (sh : Nat) (s : State) : Host.Outcome State Fault Refusal :=
  let x := s.lnk sh
  let due := match x.bcn.usable with
    | none => true
    | some t => decide (t + ((4 * s.get (SPX_BCN_PERIOD sh) * mtUs : Nat) : Int) ≤ s.mt)
  if s.linkActive sh && due && !x.bcn.lost then
    .next (((s.setLnk sh { x with bcn := { x.bcn with lost := true } }).raise evSPX_BEACON_LOST sh).timeLost sh)
  else .next s

end Sys2Proof.Machine
end

