-- ==== Sys2Proof/Machine/EthRx.lean ====
section
/-! DEFINITION. Ethernet receive streams and host receive rings (R479 to R481). -/
namespace Sys2Proof.Machine

/-! ## Receive streams (R480) -/

/-- Put a receive stream. -/
def State.setRxs (s : State) (n : Nat) (x : RxStream) : State := { s with rxs := mapPut {} n x s.rxs }

/-- The bytes of a packet in order join the unit in progress of stream n; at its `LAST` the unit goes to its queue. A unit of
which a packet was lost is left out up to the next `FIRST`. -/
def State.rxWrite (s : State) (n : Nat) (p : HeldPkt) : State :=
  let x : RxStream := mapGet {} n s.rxs
  let y := { x with expected := p.pseq + 1 }
  if x.skip && !p.first then s.setRxs n y
  else
    let buf := if p.first then p.data else x.buf ++ p.data
    if p.last then (s.setRxs n { y with buf := [], skip := true }).unitIn x.queue buf
    else s.setRxs n { y with buf := buf, skip := false }

/-- Write the packets held that are next in order. -/
def State.rxDrain (s : State) (n : Nat) : Nat → State
  | 0 => s
  | fuel + 1 =>
    let x : RxStream := mapGet {} n s.rxs
    match x.held.find? (fun p => p.pseq == x.expected) with
    | none => s.setRxs n { x with since := if x.held.isEmpty then none else x.since }
    | some p => ((s.setRxs n { x with held := x.held.filter (fun a => a.pseq != p.pseq) }).rxWrite n p).rxDrain n fuel

/-- The lowest sequence that a stream holds. -/
def RxStream.low (x : RxStream) : Option Nat := x.held.foldl (fun (a : Option Nat) p => match a with
  | none => some p.pseq
  | some b => some (min b p.pseq)) none

/-- The wait of stream n ends (R480): the packets still missing before those held are lost, `gaps` gaps at most. -/
def State.rxLost (s : State) (n : Nat) : Nat → State
  | 0 => s
  | fuel + 1 =>
    let x : RxStream := mapGet {} n s.rxs
    match x.low with
    | none => s
    | some l =>
      let s1 := s.setRxs n { x with expected := l, buf := [], skip := true, since := none }
      let s2 := s1.raise evETH_RX_LOSS x.port [.w8 x.expected, .w8 (l - 1 : Nat)]
      let s3 := s2.ethCount (ETH_RX_LOST (x.port / 2) (x.port % 2)) x.port (l - x.expected)
      (s3.rxDrain n 65).rxLost n fuel

/-- A stream packet for stream n arrives on port p (R478, R480). -/
def State.rxPacket (s : State) (p n : Nat) (b : List Byte) : State :=
  let g := flitAt b
  let e := (s.tab (0x1510000 + 4 * n)).toNat
  let q := bits e 13 0
  let len := g 10 2
  let ok := g 2 1 = 1 && g 3 1 < 32 && g 8 2 < 4096 && g 12 2 < 16384 && g 14 2 = 0 && 1 ≤ len && len + 32 = b.length
  if !ok || !bit e 31 || !s.streamInOn q then s.raise evETH_RX_DISCARD p
  else
    let old : RxStream := mapGet {} n s.rxs
    let base : RxStream := if old.queue = q then old else { queue := q }
    let x : RxStream := { base with port := p }
    let k : HeldPkt := ⟨g 16 8, bit (g 3 1) 0, bit (g 3 1) 1, g 24 8, b.drop 32⟩
    if k.pseq < x.expected || x.held.any (fun a => a.pseq == k.pseq) then (s.setRxs n x).ethCount (ETH_RX_DUP (p / 2) (p % 2)) p
    else if k.pseq = x.expected then ((s.setRxs n x).rxWrite n k).rxDrain n 65
    else
      let y : RxStream := { x with held := x.held ++ [k], since := match x.since with
        | none => some s.mt
        | some t => some t }
      if 64 < y.held.length then (s.setRxs n y).rxLost n 1 else s.setRxs n y

/-- MERGE_TIMEOUT (R480): stream n has waited `MERGE` µs; every packet still missing is lost. -/
def execMergeTimeout (n : Nat) (s : State) : Host.Outcome State Fault Refusal :=
  let x : RxStream := mapGet {} n s.rxs
  match x.since with
  | none => .next s
  | some t => if t + ((s.get ETH_RXS_MERGE * mtUs : Nat) : Int) ≤ s.mt then .next (s.rxLost n 66) else .next s

/-! ## Host receive rings (R115, R479, R481) -/

/-- A frame goes to the host receive ring of its port's MAC, with its receive MT where it is an event message. -/
def State.hostRx (s : State) (p : Nat) (frame : List Byte) : State :=
  let m := p / 2
  let x := s.hring m
  if !s.isSet (ETH_HRX_CTL_EN m) || !(s.func 0).bme then s.ethCount (ETH_RX_DISC (p / 2) (p % 2)) p
  else match x.rx with
  | [] =>
    let s1 := s.ethCount (ETH_HRX_FULL m) (2 * m)
    if x.fullSaid then s1 else (s1.setHring m { x with fullSaid := true }).raise evETH_HOST_RX_FULL m
  | d :: r =>
    let stamp := (ptpEvent frame).isSome
    let s1 := s.setHring m { x with rx := r, fullSaid := false }
    let s2 := s1.emit (.hostWrite 0 d.buf (frame.take d.size))
    let mt := if stamp then mtBytes s.mt else List.replicate 12 0#8
    let s3 := s2.emit (.hostWrite 0 (d.desc + 8) (leBytes 2 frame.length ++ leBytes 1 p ++ leBytes 1 (b2n stamp) ++ mt))
    s3.emit (.hostWrite 0 (d.desc + 24) (leBytes 1 1 ++ List.replicate 7 0#8))

end Sys2Proof.Machine
end

