-- ==== Sys2Proof/Machine/HostWrite.lean ====
section
/-! DEFINITION. Requests of the host: a write of one word in any BAR, reserved addresses, requests that are too long, AtomicOps (R492,
R496 to R508, R511). -/
namespace Sys2Proof.Machine

/-! ## BAR0 beyond the registers -/

/-- The enabled bytes of a word written at an offset. -/
def Wr.bytesAt (w : Wr) (off : Nat) : List (Nat × Byte) :=
  (List.range 4).filterMap (fun i => if bit w.be i then some (off + i, BitVec.ofNat 8 (bits w.v.toNat (8 * i + 7) (8 * i))) else none)

/-- A write of one word of the aperture (R501). -/
def State.apertureWord (s : State) (off : Nat) (w : Wr) : State :=
  let s1 := s.flushHeld w.fn
  let d := Wr.bytesAt w off
  if w.fn = 0 && !s1.shut 0x1000000 then s1.tabWrite w.fn d
  else if d.isEmpty then s1 else s1.reservedHit w.fn 0 off true

/-! ## BAR2: doorbells (R497) -/

/-- What an offset of a doorbell page is. -/
inductive Doorbell where
  | cmdPi (r : Nat)
  | cplCi (r : Nat)
  | source
  | every
  | delivery (i : Nat)
  | none

/-- The doorbell at an offset of a page (R497, R524, R574, R611). -/
def doorbellAt (off : Nat) : Doorbell :=
  if off < 0x40 && off % 16 = 0 then .cmdPi (off / 16)
  else if off < 0x40 && off % 16 = 4 then .cplCi (off / 16)
  else if off = 0x1000 then .source
  else if off = 0x1004 then .every
  else if 0x4000 ≤ off && off < 0x8000 && off % 4 = 0 then .delivery ((off - 0x4000) / 4)
  else .none

/-- A write of one word of the doorbell page. -/
def State.doorbellWrite (s : State) (off : Nat) (w : Wr) : State :=
  match doorbellAt off with
  | .cmdPi r => s.doorbell w off (fun s => s.cmdPi w.fn r (w.v.toNat % 65536) [])
  | .cplCi r => s.doorbell w off (fun s => s.cplCiWrite w.fn r (w.v.toNat % 65536))
  | .source => s.doorbell w off (fun s => s.sourceBell w)
  | .every => s.doorbell w off (fun s => s.everyBell w)
  | .delivery i => s.doorbell w off (fun s => s.deliveryTaken w.fn i w.v.toNat)
  | .none => (s.flushHeld w.fn).reservedHit w.fn 2 off true

/-! ## BAR4: vectors (R511, R512) -/

/-- Whether an offset of BAR4 is reserved for function fn. -/
def msixReserved (fn off : Nat) : Bool :=
  if off < 0x8000 then decide (vecCount fn ≤ off / 16)
  else if off < 0xC000 then decide (vecCount fn ≤ 8 * (off - 0x8000))
  else decide (vecCount fn ≤ (off - 0xC000) / 4)

/-- A write of one word of an MSI-X table entry. -/
def State.msixEntry (s : State) (v i : Nat) (w : Wr) : State :=
  let x := s.vec w.fn v
  let y : Vec := match i with
    | 0 => { x with addr := x.addr / 2 ^ 32 * 2 ^ 32 + merged (x.addr % 2 ^ 32) w }
    | 1 => { x with addr := x.addr % 2 ^ 32 + 2 ^ 32 * merged (x.addr / 2 ^ 32) w }
    | 2 => { x with data := merged x.data w }
    | _ => { x with masked := bit (merged (b2n x.masked) w) 0 }
  (s.setVec w.fn v y).vecRelease w.fn

/-- A write of one word of BAR4; the Pending Bit Array ignores writes. -/
def State.msixWrite (s : State) (off : Nat) (w : Wr) : State :=
  let s1 := s.flushHeld w.fn
  if msixReserved w.fn off then s1.reservedHit w.fn 4 off true
  else if off < 0x8000 then s1.msixEntry (off / 16) (off % 16 / 4) w
  else if off < 0xC000 then s1
  else s1.mergeRaw (MSIX_MOD w.fn ((off - 0xC000) / 4)).key w

/-- REGISTER_WRITE (R12, R496): a write of one word of a BAR. -/
def execRegisterWrite (bar off : Nat) (w : Wr) (s : State) : Host.Outcome State Fault Refusal :=
  let at_ := off / 4 * 4
  .next (match bar with
    | 0 => if at_ < 0x1000000 then s.barStore at_ w else if at_ < 0x4000000 then s.apertureWord at_ w else s
    | 2 => if at_ < 0x10000 then s.doorbellWrite at_ w else s
    | 4 => if at_ < 0x10000 then s.msixWrite at_ w else s
    | _ => s)

/-! ## Reserved addresses and requests that are refused -/

/-- Whether an address is reserved for an access of function fn (R508). -/
def State.reservedAt (s : State) (fn bar off : Nat) (write : Bool) : Bool :=
  match bar with
  | 0 =>
    if off < 0x1000000 then !s.reaches fn off write
    else decide (off < 0x4000000) && (fn != 0 || s.shut 0x1000000 || (if write then !(s.tabHit off).writable
      else (s.hitRead (s.tabHit off)).isNone))
  | 2 => decide (off < 0x10000) && (!s.isSet SYS_START_READY || (match doorbellAt off with
    | .none => true
    | _ => false))
  | 4 => decide (off < 0x10000) && msixReserved fn off
  | _ => false

/-- RESERVED_ACCESS (R508): an access to a reserved address is counted and recorded, and reads 0. -/
def execReservedAccess (fn bar off : Nat) (write : Bool) (s : State) : Host.Outcome State Fault Refusal :=
  let at_ := off / 4 * 4
  let s1 := s.flushHeld fn
  .next (if !s1.reservedAt fn bar at_ write then s1
    else
      let s2 := s1.reservedHit fn bar at_ write
      if write then s2 else s2.emit (.readDone fn at_ (List.replicate 4 0#8)))

/-- OVERSIZE_REQUEST (R506): a request of more than 64 bytes below the aperture, or to BAR2, performs no access. -/
def execOversizeRequest (fn bar off len : Nat) (write : Bool) (s : State) : Host.Outcome State Fault Refusal :=
  let s1 := s.flushHeld fn
  let isOver := decide (64 < len) && ((bar == 0 && decide (off < 0x1000000)) || bar == 2)
  .next (if isOver then (s1.widthHit fn bar off write).emit (.completerAbort fn) else s1)

/-- ATOMIC_OP_REQUEST (R492): completed with Unsupported Request. -/
def execAtomicOpRequest (fn addr : Nat) (s : State) : Host.Outcome State Fault Refusal :=
  .next ((s.flushHeld fn).emit (.unsupported fn))

end Sys2Proof.Machine
end

