-- ==== Sys2Proof/Machine/FrameRx.lean ====
section
/-! DEFINITION. Frames received on a port (R479), and the snapshots of monitor queues (R388). -/
namespace Sys2Proof.Machine

/-! ## Received frames (R479) -/

/-- The source address and port of a UDP frame whose UDP header stands at `u`. -/
def udpSource (l : List Byte) (u : Nat) (six : Bool) : Nat × Nat :=
  let a := etherTypeAt l
  (if six then leNat ((l.drop (a + 10)).take 16) else leNat ((l.drop (a + 14)).take 4), beAt l u 2)

/-- A datagram to a destination port, by the rows 3 to 6 of R479 and by R596; any other frame goes to the host. -/
def State.datagram (s : State) (p : Nat) (frame : List Byte) (u : Nat) (six : Bool) (dst : Nat) (data : List Byte) : State :=
  let src := udpSource frame u six
  let base := s.get ETH_RXS_BASE
  if s.get RED_HB_PORT ≠ 0 && dst = s.get RED_HB_PORT then s.heartbeat p data
  else if s.get TRG_NET_PORT ≠ 0 && dst = s.get TRG_NET_PORT then s.netTrigger data
  else if s.isSet CMD_UDP_EN && dst = s.get CMD_UDP_PORT then s.envelopeIn (.udp p src.1 src.2) 0 data
  else if base ≠ 0 && base ≤ dst && dst < base + 4096 && 32 ≤ data.length && leNat (data.take 2) = 0x5351 then
    s.rxPacket p (dst - base) data
  else if s.isSet GAZ_FR_EN && dst = s.get GAZ_FR_PORT then s.faultReport data
  else s.hostRx p frame

/-- FRAME_RX (R479): a frame arrives on port p, without its FCS, whose check gives `fcs`. -/
def execFrameRx (p : Nat) (fcs : Bool) (frame : List Byte) (s : State) : Host.Outcome State Fault Refusal :=
  .next (if !s.portExists p then s
    else if !fcs || frame.length < 60 || 9212 < frame.length then s.ethCount (ETH_RX_ERR (p / 2) (p % 2)) p
    else if beAt frame (etherTypeAt frame) 2 = 0x8808 then s.ethCount (ETH_RX_DISC (p / 2) (p % 2)) p
    else match udpAt frame, udpPayload frame with
      | some (u, six), some (dst, data) => s.datagram p frame u six dst data
      | _, _ => s.hostRx p frame)

/-! ## Monitor queues (R388) -/

/-- The value of source k of monitor queue j: its register as it reads, without side effects. -/
def State.monValue (s : State) (j k : Nat) : Nat × State :=
  let r := s.rn (SYS_PQ_MON_SRC j k)
  if bit r 31 then s.peek 0 (4 * bits r 25 2) else (0, s)

/-- A snapshot of monitor queue j at the present instant. -/
def State.monSnap (s : State) (j : Nat) : State :=
  let p := mtParts s.mt
  let seq := mapGet 0 j s.monSeq
  let a := s.monValue j 0
  let b := a.2.monValue j 1
  let c := b.2.monValue j 2
  let d := c.2.monValue j 3
  let x : Snapshot := [w32 (p.2.2 + 2 ^ 28 * s.tstate), w32 p.2.1, w32 p.1, w32 (p.1 / 2 ^ 32 % 65536 + 65536 * seq), w32 a.1, w32 b.1,
    w32 c.1, w32 d.1]
  ({ d.2 with monSeq := mapPut 0 j ((seq + 1) % 65536) d.2.monSeq,
              monAt := mapInsert j (s.mt / (mtUs : Int), s.tb.fc) d.2.monAt } : State).offerMon j x

/-- Whether monitor queue j has taken the snapshot of the present microsecond already. -/
def State.monTaken (s : State) (j : Nat) : Bool :=
  s.monAt.any (fun e => e.1 == j && e.2.1 == s.mt / (mtUs : Int) && decide (s.tb.fc < e.2.2 + 2500))

/-- MON_SNAPSHOT (R388): an instant of monitor queue j, at which Meridian time in whole microseconds is a multiple of `PERIOD`. -/
def execMonSnapshot (j : Nat) (s : State) : Host.Outcome State Fault Refusal :=
  let p := mtParts s.mt
  let n := s.get (SYS_PQ_MON_CFG_PERIOD j)
  .next (if j < 223 && s.isSet (SYS_PQ_MON_CFG_EN j) && n ≠ 0 && (p.1 * 1000000 + p.2.1 / 1000) % n = 0 && !s.monTaken j
    then s.monSnap j else s)

end Sys2Proof.Machine
end

