-- ==== Sys2Proof/Machine/Dispatch.lean ====
section
/-! DEFINITION. The dispatch: one arm per command, each one direct call of its meaning. -/
namespace Sys2Proof.Machine

def exec (i : Instr) (s : State) : Host.Outcome State Fault Refusal :=
  match i with
  | .registerWrite bar off w => Sys2Proof.Machine.execRegisterWrite bar off w s
  | .tableApertureWrite fn data => Sys2Proof.Machine.execTableApertureWrite fn data s
  | .reservedAccess fn bar off write => Sys2Proof.Machine.execReservedAccess fn bar off write s
  | .oversizeRequest fn bar off len write => Sys2Proof.Machine.execOversizeRequest fn bar off len write s
  | .atomicOpRequest fn addr => Sys2Proof.Machine.execAtomicOpRequest fn addr s
  | .pairLoRead fn off => Sys2Proof.Machine.execPairLoRead fn off s
  | .pairLoWrite off w => Sys2Proof.Machine.execPairLoWrite off w s
  | .pairHiWrite off w => Sys2Proof.Machine.execPairHiWrite off w s
  | .phasePllFirstLock => Sys2Proof.Machine.execPhasePllFirstLock s
  | .phaseUnlock => Sys2Proof.Machine.execPhaseUnlock s
  | .phaseRelock => Sys2Proof.Machine.execPhaseRelock s
  | .ageingFold => Sys2Proof.Machine.execAgeingFold s
  | .tbNowFracRead fn => Sys2Proof.Machine.execTbNowFracRead fn s
  | .adjRateChange w => Sys2Proof.Machine.execAdjRateChange w s
  | .adjSlewStart w => Sys2Proof.Machine.execAdjSlewStart w s
  | .adjStep w => Sys2Proof.Machine.execAdjStep w s
  | .adjAbort w => Sys2Proof.Machine.execAdjAbort w s
  | .adjTrace w => Sys2Proof.Machine.execAdjTrace w s
  | .slewDone => Sys2Proof.Machine.execSlewDone s
  | .srcChangeDeclare w => Sys2Proof.Machine.execSrcChangeDeclare w s
  | .changeOfSource w => Sys2Proof.Machine.execChangeOfSource w s
  | .ppsInEdge bin => Sys2Proof.Machine.execPpsInEdge bin s
  | .sourceQualified => Sys2Proof.Machine.execSourceQualified s
  | .ppsLost => Sys2Proof.Machine.execPpsLost s
  | .ref10mLost => Sys2Proof.Machine.execRef10mLost s
  | .ref10mReturn => Sys2Proof.Machine.execRef10mReturn s
  | .servoCorrection op => Sys2Proof.Machine.execServoCorrection op s
  | .hostTraceTimeout => Sys2Proof.Machine.execHostTraceTimeout s
  | .holdoverLimit => Sys2Proof.Machine.execHoldoverLimit s
  | .tbTxtsPop fn m => Sys2Proof.Machine.execTbTxtsPop fn m s
  | .edgeCapture n ix rising => Sys2Proof.Machine.execEdgeCapture n ix rising s
  | .timTagPop fn n => Sys2Proof.Machine.execTimTagPop fn n s
  | .timCalStart w => Sys2Proof.Machine.execTimCalStart w s
  | .timCoreStart p w => Sys2Proof.Machine.execTimCoreStart p w s
  | .timCalPeriodic => Sys2Proof.Machine.execTimCalPeriodic s
  | .timCalRunEnd p counts temp => Sys2Proof.Machine.execTimCalRunEnd p counts temp s
  | .timCalStale p temp => Sys2Proof.Machine.execTimCalStale p temp s
  | .tdcSpareSwitch n => Sys2Proof.Machine.execTdcSpareSwitch n s
  | .freqGateEnd x => Sys2Proof.Machine.execFreqGateEnd x s
  | .cgLost g => Sys2Proof.Machine.execCgLost g s
  | .refEnWrite g w => Sys2Proof.Machine.execRefEnWrite g w s
  | .cnvRefOk g => Sys2Proof.Machine.execCnvRefOk g s
  | .cnvApply g w => Sys2Proof.Machine.execCnvApply g w s
  | .cnvPllLocked g => Sys2Proof.Machine.execCnvPllLocked g s
  | .pllUnlock g => Sys2Proof.Machine.execPllUnlock g s
  | .pllRelock g => Sys2Proof.Machine.execPllRelock g s
  | .cnvLocked g => Sys2Proof.Machine.execCnvLocked g s
  | .lockLost g => Sys2Proof.Machine.execLockLost g s
  | .surveyStepEnd g res => Sys2Proof.Machine.execSurveyStepEnd g res s
  | .sliceMonitorWindow ix sl mean power loud stuck => Sys2Proof.Machine.execSliceMonitorWindow ix sl mean power loud stuck s
  | .surveyEnWrite g w => Sys2Proof.Machine.execSurveyEnWrite g w s
  | .cnvInEnWrite ix w => Sys2Proof.Machine.execCnvInEnWrite ix w s
  | .dieLinkDown d => Sys2Proof.Machine.execDieLinkDown d s
  | .dieLinkUp d => Sys2Proof.Machine.execDieLinkUp d s
  | .chpBind win w => Sys2Proof.Machine.execChpBind win w s
  | .chpUnbind win w => Sys2Proof.Machine.execChpUnbind win w s
  | .chpCommit win w => Sys2Proof.Machine.execChpCommit win w s
  | .districtWindowWrite d off w => Sys2Proof.Machine.execDistrictWindowWrite d off w s
  | .frameBoundary g f => Sys2Proof.Machine.execFrameBoundary g f s
  | .blankEdge line asserted => Sys2Proof.Machine.execBlankEdge line asserted s
  | .sourceSample src ix x => Sys2Proof.Machine.execSourceSample src ix x s
  | .cgTag g ix => Sys2Proof.Machine.execCgTag g ix s
  | .cgTagMissing g => Sys2Proof.Machine.execCgTagMissing g s
  | .coastTimeout g => Sys2Proof.Machine.execCoastTimeout g s
  | .gridSampleEmit n => Sys2Proof.Machine.execGridSampleEmit n s
  | .sourceResume n => Sys2Proof.Machine.execSourceResume n s
  | .spectrumReady n => Sys2Proof.Machine.execSpectrumReady n s
  | .beamSum b => Sys2Proof.Machine.execBeamSum b s
  | .chainWaitExpiry b => Sys2Proof.Machine.execChainWaitExpiry b s
  | .bfmCommit w => Sys2Proof.Machine.execBfmCommit w s
  | .bmacFail a => Sys2Proof.Machine.execBmacFail a s
  | .integrationEnd n ofBeam => Sys2Proof.Machine.execIntegrationEnd n ofBeam s
  | .itemComplete => Sys2Proof.Machine.execItemComplete s
  | .sfeBind w => Sys2Proof.Machine.execSfeBind w s
  | .sfeUnbind w => Sys2Proof.Machine.execSfeUnbind w s
  | .sfeCommit w => Sys2Proof.Machine.execSfeCommit w s
  | .excRampEnd q => Sys2Proof.Machine.execExcRampEnd q s
  | .excRangeSettled q => Sys2Proof.Machine.execExcRangeSettled q s
  | .excSenseMeasure q sense limit => Sys2Proof.Machine.execExcSenseMeasure q sense limit s
  | .pcvCycleStart p => Sys2Proof.Machine.execPcvCycleStart p s
  | .pcvEntryEnd p convs => Sys2Proof.Machine.execPcvEntryEnd p convs s
  | .pcvUrgGo p w => Sys2Proof.Machine.execPcvUrgGo p w s
  | .urgentArrive p => Sys2Proof.Machine.execUrgentArrive p s
  | .pcvRefEnWrite w => Sys2Proof.Machine.execPcvRefEnWrite w s
  | .pcvRefOk => Sys2Proof.Machine.execPcvRefOk s
  | .pauseEnd => Sys2Proof.Machine.execPauseEnd s
  | .pcvMidscaleCheck p err => Sys2Proof.Machine.execPcvMidscaleCheck p err s
  | .trimPageLoad n badA badB => Sys2Proof.Machine.execTrimPageLoad n badA badB s
  | .calMeasureDone conv zero ref temp => Sys2Proof.Machine.execCalMeasureDone conv zero ref temp s
  | .nvmCopyWritten ok => Sys2Proof.Machine.execNvmCopyWritten ok s
  | .trgArm t w => Sys2Proof.Machine.execTrgArm t w s
  | .trgDisarm t w => Sys2Proof.Machine.execTrgDisarm t w s
  | .triggerOffer => Sys2Proof.Machine.execTriggerOffer s
  | .trgPulseEnd => Sys2Proof.Machine.execTrgPulseEnd s
  | .trgRearm t => Sys2Proof.Machine.execTrgRearm t s
  | .ilineEdge n low => Sys2Proof.Machine.execIlineEdge n low s
  | .ilineStuck n => Sys2Proof.Machine.execIlineStuck n s
  | .netTriggerRx port data => Sys2Proof.Machine.execNetTriggerRx port data s
  | .trgOutFire t w => Sys2Proof.Machine.execTrgOutFire t w s
  | .trgNetClr w => Sys2Proof.Machine.execTrgNetClr w s
  | .captureClose seq => Sys2Proof.Machine.execCaptureClose seq s
  | .ringCtlWrite w => Sys2Proof.Machine.execRingCtlWrite w s
  | .cmpRawWrite n w => Sys2Proof.Machine.execCmpRawWrite n w s
  | .tileClose rec n offered => Sys2Proof.Machine.execTileClose rec n offered s
  | .encResume q => Sys2Proof.Machine.execEncResume q s
  | .cmpEngFault x => Sys2Proof.Machine.execCmpEngFault x s
  | .recordTileFlush q => Sys2Proof.Machine.execRecordTileFlush q s
  | .cmpJobPiWrite b w => Sys2Proof.Machine.execCmpJobPiWrite b w s
  | .cmpJobDisable b w => Sys2Proof.Machine.execCmpJobDisable b w s
  | .jobDecode b fail desc src => Sys2Proof.Machine.execJobDecode b fail desc src s
  | .cmpJobMore b w => Sys2Proof.Machine.execCmpJobMore b w s
  | .cmpJobAbort b w => Sys2Proof.Machine.execCmpJobAbort b w s
  | .queEnable w => Sys2Proof.Machine.execQueEnable w s
  | .queDisable w => Sys2Proof.Machine.execQueDisable w s
  | .queFlush w => Sys2Proof.Machine.execQueFlush w s
  | .plotRequest q => Sys2Proof.Machine.execPlotRequest q s
  | .plotRetry q => Sys2Proof.Machine.execPlotRetry q s
  | .unitWrite q => Sys2Proof.Machine.execUnitWrite q s
  | .plotCopyDone => Sys2Proof.Machine.execPlotCopyDone s
  | .egressFrame k pick cut => Sys2Proof.Machine.execEgressFrame k pick cut s
  | .egressStall q => Sys2Proof.Machine.execEgressStall q s
  | .plotEccError id off uncorr => Sys2Proof.Machine.execPlotEccError id off uncorr s
  | .pqFlush n part w => Sys2Proof.Machine.execPqFlush n part w s
  | .popStallTimeout n => Sys2Proof.Machine.execPopStallTimeout n s
  | .sysPqMonPop fn j => Sys2Proof.Machine.execSysPqMonPop fn j s
  | .monSnapshot j => Sys2Proof.Machine.execMonSnapshot j s
  | .arbDecision k l lines bad => Sys2Proof.Machine.execArbDecision k l lines bad s
  | .sheetStart sh w => Sys2Proof.Machine.execSheetStart sh w s
  | .sheetStop sh w => Sys2Proof.Machine.execSheetStop sh w s
  | .laneDetectDone sh l => Sys2Proof.Machine.execLaneDetectDone sh l s
  | .laneLockDone sh l => Sys2Proof.Machine.execLaneLockDone sh l s
  | .laneEqDone sh l margins => Sys2Proof.Machine.execLaneEqDone sh l margins s
  | .laneAlignDone sh l ident inv => Sys2Proof.Machine.execLaneAlignDone sh l ident inv s
  | .sheetUp sh skew => Sys2Proof.Machine.execSheetUp sh skew s
  | .bringupStageTimeout sh l => Sys2Proof.Machine.execBringupStageTimeout sh l s
  | .bringupRetry sh => Sys2Proof.Machine.execBringupRetry sh s
  | .laneLos sh l => Sys2Proof.Machine.execLaneLos sh l s
  | .laneLosClear sh l => Sys2Proof.Machine.execLaneLosClear sh l s
  | .laneLol sh l => Sys2Proof.Machine.execLaneLol sh l s
  | .eyeMeasure sh l v h => Sys2Proof.Machine.execEyeMeasure sh l v h s
  | .prbsLock sh l inv => Sys2Proof.Machine.execPrbsLock sh l inv s
  | .prbsLost sh l n e => Sys2Proof.Machine.execPrbsLost sh l n e s
  | .prbsInject sh l w => Sys2Proof.Machine.execPrbsInject sh l w s
  | .prbsClr sh l w => Sys2Proof.Machine.execPrbsClr sh l w s
  | .sheetSub sh w => Sys2Proof.Machine.execSheetSub sh w s
  | .narrowWrite sh w => Sys2Proof.Machine.execNarrowWrite sh w s
  | .laneSleepWrite sh l w => Sys2Proof.Machine.execLaneSleepWrite sh l w s
  | .trainingSetRx sh l data => Sys2Proof.Machine.execTrainingSetRx sh l data s
  | .trainAttemptTimeout sh => Sys2Proof.Machine.execTrainAttemptTimeout sh s
  | .trainBackoffEnd sh => Sys2Proof.Machine.execTrainBackoffEnd sh s
  | .blockRx sh l ix syms => Sys2Proof.Machine.execBlockRx sh l ix syms s
  | .flitRx sh => Sys2Proof.Machine.execFlitRx sh s
  | .replayTimeout sh => Sys2Proof.Machine.execReplayTimeout sh s
  | .claimRx sh => Sys2Proof.Machine.execClaimRx sh s
  | .grantRx sh => Sys2Proof.Machine.execGrantRx sh s
  | .refuseRx sh => Sys2Proof.Machine.execRefuseRx sh s
  | .doneRx sh => Sys2Proof.Machine.execDoneRx sh s
  | .spareReadyRx sh => Sys2Proof.Machine.execSpareReadyRx sh s
  | .switchRx sh => Sys2Proof.Machine.execSwitchRx sh s
  | .restoreRx sh => Sys2Proof.Machine.execRestoreRx sh s
  | .commandRx sh => Sys2Proof.Machine.execCommandRx sh s
  | .xchgTimeout sh => Sys2Proof.Machine.execXchgTimeout sh s
  | .dozeIdle sh => Sys2Proof.Machine.execDozeIdle sh s
  | .sampleRx sh full => Sys2Proof.Machine.execSampleRx sh full s
  | .declareRx sh => Sys2Proof.Machine.execDeclareRx sh s
  | .partialRx sh => Sys2Proof.Machine.execPartialRx sh s
  | .queueFlitRx sh => Sys2Proof.Machine.execQueueFlitRx sh s
  | .beaconTx sh => Sys2Proof.Machine.execBeaconTx sh s
  | .beaconRx sh => Sys2Proof.Machine.execBeaconRx sh s
  | .beaconLost sh => Sys2Proof.Machine.execBeaconLost sh s
  | .frameRx p fcs frame => Sys2Proof.Machine.execFrameRx p fcs frame s
  | .mergeTimeout n => Sys2Proof.Machine.execMergeTimeout n s
  | .heartbeatRx p data => Sys2Proof.Machine.execHeartbeatRx p data s
  | .heartbeatTx => Sys2Proof.Machine.execHeartbeatTx s
  | .heartbeatTimeout p => Sys2Proof.Machine.execHeartbeatTimeout p s
  | .portFaultHeld p => Sys2Proof.Machine.execPortFaultHeld p s
  | .routeSideWrite j w => Sys2Proof.Machine.execRouteSideWrite j w s
  | .rewindExpiry q => Sys2Proof.Machine.execRewindExpiry q s
  | .htxPiWrite m w descs => Sys2Proof.Machine.execHtxPiWrite m w descs s
  | .hrxPiWrite m w bufs => Sys2Proof.Machine.execHrxPiWrite m w bufs s
  | .functionLevelReset fn => Sys2Proof.Machine.execFunctionLevelReset fn s
  | .vfDisable n => Sys2Proof.Machine.execVfDisable n s
  | .pcieLinkDown => Sys2Proof.Machine.execPcieLinkDown s
  | .pcieLinkUp => Sys2Proof.Machine.execPcieLinkUp s
  | .ptmStart w => Sys2Proof.Machine.execPtmStart w s
  | .ptmDialog => Sys2Proof.Machine.execPtmDialog s
  | .ptmResponseRx master delay => Sys2Proof.Machine.execPtmResponseRx master delay s
  | .ptmTimeout => Sys2Proof.Machine.execPtmTimeout s
  | .msixModerationEnd fn v => Sys2Proof.Machine.execMsixModerationEnd fn v s
  | .msixUnmask fn op => Sys2Proof.Machine.execMsixUnmask fn op s
  | .dbCmdPiWrite r w data => Sys2Proof.Machine.execDbCmdPiWrite r w data s
  | .dbCplCiWrite r w => Sys2Proof.Machine.execDbCplCiWrite r w s
  | .cmdEnvelopeRx port addr udp ahead data => Sys2Proof.Machine.execCmdEnvelopeRx port addr udp ahead data s
  | .cmdKeyLoad w => Sys2Proof.Machine.execCmdKeyLoad w s
  | .cmdKeyClear w => Sys2Proof.Machine.execCmdKeyClear w s
  | .cringEnable b r w => Sys2Proof.Machine.execCringEnable b r w s
  | .padOpcode p => Sys2Proof.Machine.execPadOpcode p s
  | .cfgIdent p => Sys2Proof.Machine.execCfgIdent p s
  | .cfgHubId p => Sys2Proof.Machine.execCfgHubId p s
  | .cfgKeyLoad p => Sys2Proof.Machine.execCfgKeyLoad p s
  | .cfgKeyClear p => Sys2Proof.Machine.execCfgKeyClear p s
  | .cfgKeyOwn p => Sys2Proof.Machine.execCfgKeyOwn p s
  | .cfgUdp p => Sys2Proof.Machine.execCfgUdp p s
  | .cfgRegRead p => Sys2Proof.Machine.execCfgRegRead p s
  | .cfgRegWrite p => Sys2Proof.Machine.execCfgRegWrite p s
  | .cfgTableWrite p => Sys2Proof.Machine.execCfgTableWrite p s
  | .cfgTableRead p => Sys2Proof.Machine.execCfgTableRead p s
  | .cnvGroup p => Sys2Proof.Machine.execCnvGroup p s
  | .cnvInputEn p => Sys2Proof.Machine.execCnvInputEn p s
  | .cnvTrack p => Sys2Proof.Machine.execCnvTrack p s
  | .cnvStatus p => Sys2Proof.Machine.execCnvStatus p s
  | .brgQuota p => Sys2Proof.Machine.execBrgQuota p s
  | .brgGrant p => Sys2Proof.Machine.execBrgGrant p s
  | .brgRevoke p => Sys2Proof.Machine.execBrgRevoke p s
  | .brgBeams p => Sys2Proof.Machine.execBrgBeams p s
  | .brgReset p => Sys2Proof.Machine.execBrgReset p s
  | .brgStatus p => Sys2Proof.Machine.execBrgStatus p s
  | .pipeSource p => Sys2Proof.Machine.execPipeSource p s
  | .pipeBind p => Sys2Proof.Machine.execPipeBind p s
  | .pipeDelay p => Sys2Proof.Machine.execPipeDelay p s
  | .pipeUnbind p => Sys2Proof.Machine.execPipeUnbind p s
  | .pipeMix p => Sys2Proof.Machine.execPipeMix p s
  | .pipeDecimate p => Sys2Proof.Machine.execPipeDecimate p s
  | .pipeResample p => Sys2Proof.Machine.execPipeResample p s
  | .pipeChannel p => Sys2Proof.Machine.execPipeChannel p s
  | .pipeReduce p => Sys2Proof.Machine.execPipeReduce p s
  | .pipeRoute p => Sys2Proof.Machine.execPipeRoute p s
  | .pipeIntake p => Sys2Proof.Machine.execPipeIntake p s
  | .pipeCommit p => Sys2Proof.Machine.execPipeCommit p s
  | .pipeFpd p => Sys2Proof.Machine.execPipeFpd p s
  | .pipeDistrict p => Sys2Proof.Machine.execPipeDistrict p s
  | .pipeRaw p => Sys2Proof.Machine.execPipeRaw p s
  | .pipeStatus p => Sys2Proof.Machine.execPipeStatus p s
  | .beamSet p => Sys2Proof.Machine.execBeamSet p s
  | .beamDisable p => Sys2Proof.Machine.execBeamDisable p s
  | .beamIset p => Sys2Proof.Machine.execBeamIset p s
  | .beamWeights p => Sys2Proof.Machine.execBeamWeights p s
  | .beamStatus p => Sys2Proof.Machine.execBeamStatus p s
  | .beamLoad p => Sys2Proof.Machine.execBeamLoad p s
  | .gridDefine p => Sys2Proof.Machine.execGridDefine p s
  | .gridClear p => Sys2Proof.Machine.execGridClear p s
  | .gridRead p => Sys2Proof.Machine.execGridRead p s
  | .gridIndex p => Sys2Proof.Machine.execGridIndex p s
  | .queueConfig p => Sys2Proof.Machine.execQueueConfig p s
  | .queueEnable p => Sys2Proof.Machine.execQueueEnable p s
  | .queueDisable p => Sys2Proof.Machine.execQueueDisable p s
  | .queueFlush p => Sys2Proof.Machine.execQueueFlush p s
  | .queueStatus p => Sys2Proof.Machine.execQueueStatus p s
  | .queueChain p => Sys2Proof.Machine.execQueueChain p s
  | .queueDeliver p => Sys2Proof.Machine.execQueueDeliver p s
  | .plotStatus p => Sys2Proof.Machine.execPlotStatus p s
  | .plotEscape p => Sys2Proof.Machine.execPlotEscape p s
  | .plotLow p => Sys2Proof.Machine.execPlotLow p s
  | .plotCounters p => Sys2Proof.Machine.execPlotCounters p s
  | .timeRead p => Sys2Proof.Machine.execTimeRead p s
  | .timeAdjust p => Sys2Proof.Machine.execTimeAdjust p s
  | .timeSource p => Sys2Proof.Machine.execTimeSource p s
  | .timeAge p => Sys2Proof.Machine.execTimeAge p s
  | .timePpsDelay p => Sys2Proof.Machine.execTimePpsDelay p s
  | .timeTaiUtc p => Sys2Proof.Machine.execTimeTaiUtc p s
  | .timeStatus p => Sys2Proof.Machine.execTimeStatus p s
  | .timeEdge p => Sys2Proof.Machine.execTimeEdge p s
  | .timeFreq p => Sys2Proof.Machine.execTimeFreq p s
  | .timeFreqRead p => Sys2Proof.Machine.execTimeFreqRead p s
  | .timePtm p => Sys2Proof.Machine.execTimePtm p s
  | .trigArm p => Sys2Proof.Machine.execTrigArm p s
  | .trigDisarm p => Sys2Proof.Machine.execTrigDisarm p s
  | .trigFire p => Sys2Proof.Machine.execTrigFire p s
  | .trigSrcSkew p => Sys2Proof.Machine.execTrigSrcSkew p s
  | .trigRing p => Sys2Proof.Machine.execTrigRing p s
  | .trigCapset p => Sys2Proof.Machine.execTrigCapset p s
  | .trigNet p => Sys2Proof.Machine.execTrigNet p s
  | .trigStream p => Sys2Proof.Machine.execTrigStream p s
  | .trigStatus p => Sys2Proof.Machine.execTrigStatus p s
  | .calTrimRepair p => Sys2Proof.Machine.execCalTrimRepair p s
  | .calUserMeasure p => Sys2Proof.Machine.execCalUserMeasure p s
  | .calUserWrite p => Sys2Proof.Machine.execCalUserWrite p s
  | .calTim p => Sys2Proof.Machine.execCalTim p s
  | .calTimPeriod p => Sys2Proof.Machine.execCalTimPeriod p s
  | .calSliceTrim p => Sys2Proof.Machine.execCalSliceTrim p s
  | .calSurvey p => Sys2Proof.Machine.execCalSurvey p s
  | .calSurveyStep p => Sys2Proof.Machine.execCalSurveyStep p s
  | .calPageRead p => Sys2Proof.Machine.execCalPageRead p s
  | .feBind p => Sys2Proof.Machine.execFeBind p s
  | .feUnbind p => Sys2Proof.Machine.execFeUnbind p s
  | .feExcitation p => Sys2Proof.Machine.execFeExcitation p s
  | .feChannel p => Sys2Proof.Machine.execFeChannel p s
  | .feSequence p => Sys2Proof.Machine.execFeSequence p s
  | .feRoute p => Sys2Proof.Machine.execFeRoute p s
  | .feBlank p => Sys2Proof.Machine.execFeBlank p s
  | .feLin p => Sys2Proof.Machine.execFeLin p s
  | .feUrgent p => Sys2Proof.Machine.execFeUrgent p s
  | .feRef p => Sys2Proof.Machine.execFeRef p s
  | .feStatus p => Sys2Proof.Machine.execFeStatus p s
  | .laneSheet p => Sys2Proof.Machine.execLaneSheet p s
  | .laneTune p => Sys2Proof.Machine.execLaneTune p s
  | .laneSubst p => Sys2Proof.Machine.execLaneSubst p s
  | .laneNarrow p => Sys2Proof.Machine.execLaneNarrow p s
  | .lanePrbs p => Sys2Proof.Machine.execLanePrbs p s
  | .laneStatus p => Sys2Proof.Machine.execLaneStatus p s
  | .linkConfig p => Sys2Proof.Machine.execLinkConfig p s
  | .linkRxmap p => Sys2Proof.Machine.execLinkRxmap p s
  | .linkStatus p => Sys2Proof.Machine.execLinkStatus p s
  | .routeMac p => Sys2Proof.Machine.execRouteMac p s
  | .routePair p => Sys2Proof.Machine.execRoutePair p s
  | .routeSide p => Sys2Proof.Machine.execRouteSide p s
  | .routePolicy p => Sys2Proof.Machine.execRoutePolicy p s
  | .routeHeartbeat p => Sys2Proof.Machine.execRouteHeartbeat p s
  | .routeStream p => Sys2Proof.Machine.execRouteStream p s
  | .routeAddress p => Sys2Proof.Machine.execRouteAddress p s
  | .routePort p => Sys2Proof.Machine.execRoutePort p s
  | .routeStatus p => Sys2Proof.Machine.execRouteStatus p s
  | .gazRoot p => Sys2Proof.Machine.execGazRoot p s
  | .gazRegister p => Sys2Proof.Machine.execGazRegister p s
  | .gazRemove p => Sys2Proof.Machine.execGazRemove p s
  | .gazRead p => Sys2Proof.Machine.execGazRead p s
  | .gazDistrict p => Sys2Proof.Machine.execGazDistrict p s
  | .gazSend p => Sys2Proof.Machine.execGazSend p s
  | .gazCounts p => Sys2Proof.Machine.execGazCounts p s
  | .gazDigest p => Sys2Proof.Machine.execGazDigest p s
  | .logHead p => Sys2Proof.Machine.execLogHead p s
  | .logRead p => Sys2Proof.Machine.execLogRead p s
  | .logChallenge p => Sys2Proof.Machine.execLogChallenge p s
  | .logClear p => Sys2Proof.Machine.execLogClear p s
  | .logKey p => Sys2Proof.Machine.execLogKey p s
  | .logRepeat p => Sys2Proof.Machine.execLogRepeat p s
  | .powerDown p => Sys2Proof.Machine.execPowerDown p s
  | .powerUp p => Sys2Proof.Machine.execPowerUp p s
  | .powerHold p => Sys2Proof.Machine.execPowerHold p s
  | .powerStatus p => Sys2Proof.Machine.execPowerStatus p s
  | .sparePolicy p => Sys2Proof.Machine.execSparePolicy p s
  | .spareSlice p => Sys2Proof.Machine.execSpareSlice p s
  | .spareEngine p => Sys2Proof.Machine.execSpareEngine p s
  | .spareSlot p => Sys2Proof.Machine.execSpareSlot p s
  | .spareTdc p => Sys2Proof.Machine.execSpareTdc p s
  | .sparePcv p => Sys2Proof.Machine.execSparePcv p s
  | .spareBmac p => Sys2Proof.Machine.execSpareBmac p s
  | .spareCore p => Sys2Proof.Machine.execSpareCore p s
  | .sparePlot p => Sys2Proof.Machine.execSparePlot p s
  | .spareMram p => Sys2Proof.Machine.execSpareMram p s
  | .spareInventory p => Sys2Proof.Machine.execSpareInventory p s
  | .diagEcho p => Sys2Proof.Machine.execDiagEcho p s
  | .diagSelftest p => Sys2Proof.Machine.execDiagSelftest p s
  | .diagBeamSat p => Sys2Proof.Machine.execDiagBeamSat p s
  | .diagTemps p => Sys2Proof.Machine.execDiagTemps p s
  | .brgCtlReset b w => Sys2Proof.Machine.execBrgCtlReset b w s
  | .boroughResetDone b => Sys2Proof.Machine.execBoroughResetDone b s
  | .deliveryDoorbell ix w => Sys2Proof.Machine.execDeliveryDoorbell ix w s
  | .cmdRateWindow => Sys2Proof.Machine.execCmdRateWindow s
  | .dbEvtSrc w => Sys2Proof.Machine.execDbEvtSrc w s
  | .dbEvtAll w => Sys2Proof.Machine.execDbEvtAll w s
  | .gazCopyTx d => Sys2Proof.Machine.execGazCopyTx d s
  | .gazRetry d e => Sys2Proof.Machine.execGazRetry d e s
  | .gazOutcomeRx e env => Sys2Proof.Machine.execGazOutcomeRx e env s
  | .gazCollectEnd d => Sys2Proof.Machine.execGazCollectEnd d s
  | .faultReportRx payload => Sys2Proof.Machine.execFaultReportRx payload s
  | .digestClose subject cls => Sys2Proof.Machine.execDigestClose subject cls s
  | .evtWindowEnd => Sys2Proof.Machine.execEvtWindowEnd s
  | .evtPendWrite k w => Sys2Proof.Machine.execEvtPendWrite k w s
  | .logWrite fails => Sys2Proof.Machine.execLogWrite fails s
  | .logScan => Sys2Proof.Machine.execLogScan s
  | .pwrDown d w => Sys2Proof.Machine.execPwrDown d w s
  | .pwrUp d w => Sys2Proof.Machine.execPwrUp d w s
  | .drainComplete d => Sys2Proof.Machine.execDrainComplete d s
  | .drainTimeout d => Sys2Proof.Machine.execDrainTimeout d s
  | .wakeComplete d => Sys2Proof.Machine.execWakeComplete d s
  | .wakeTimeout d => Sys2Proof.Machine.execWakeTimeout d s
  | .engFail p corrected => Sys2Proof.Machine.execEngFail p corrected s
  | .slotFail n => Sys2Proof.Machine.execSlotFail n s
  | .coreFail k dog run => Sys2Proof.Machine.execCoreFail k dog run s
  | .porAssert torn => Sys2Proof.Machine.execPorAssert torn s
  | .aonMonitorReset torn => Sys2Proof.Machine.execAonMonitorReset torn s
  | .supplyFault => Sys2Proof.Machine.execSupplyFault s
  | .porRelease => Sys2Proof.Machine.execPorRelease s
  | .xoFail => Sys2Proof.Machine.execXoFail s
  | .stackTrainingDone failed => Sys2Proof.Machine.execStackTrainingDone failed s
  | .startDone cd ld => Sys2Proof.Machine.execStartDone cd ld s
  | .warmNRequest => Sys2Proof.Machine.execWarmNRequest s
  | .warmRegRequest w => Sys2Proof.Machine.execWarmRegRequest w s
  | .fwRestartRequest w => Sys2Proof.Machine.execFwRestartRequest w s
  | .warmResetDone => Sys2Proof.Machine.execWarmResetDone s
  | .fwRunning => Sys2Proof.Machine.execFwRunning s
  | .fwWatchdog => Sys2Proof.Machine.execFwWatchdog s
  | .fwStarted => Sys2Proof.Machine.execFwStarted s
  | .imageVerify w => Sys2Proof.Machine.execImageVerify w s
  | .mgbXferGo w => Sys2Proof.Machine.execMgbXferGo w s
  | .mgbXferDone code nbytes data => Sys2Proof.Machine.execMgbXferDone code nbytes data s
  | .mgbPoll ix code val => Sys2Proof.Machine.execMgbPoll ix code val s
  | .alertNAssert addr => Sys2Proof.Machine.execAlertNAssert addr s
  | .alertRepeat low addr => Sys2Proof.Machine.execAlertRepeat low addr s
  | .mgbSigCfgWrite n w => Sys2Proof.Machine.execMgbSigCfgWrite n w s
  | .mgbEdgePush w => Sys2Proof.Machine.execMgbEdgePush w s
  | .sigEdgeFire n => Sys2Proof.Machine.execSigEdgeFire n s
  | .frameMarkerStart n => Sys2Proof.Machine.execFrameMarkerStart n s
  | .frameMarkerEnd n => Sys2Proof.Machine.execFrameMarkerEnd n s
  | .tapInstruction ir => Sys2Proof.Machine.execTapInstruction ir s
  | .tapReset => Sys2Proof.Machine.execTapReset s
  | .refclkGate dev => Sys2Proof.Machine.execRefclkGate dev s
  | .refclkLost => Sys2Proof.Machine.execRefclkLost s
  | .refclkBack => Sys2Proof.Machine.execRefclkBack s
  | .pcieRefclkLost => Sys2Proof.Machine.execPcieRefclkLost s
  | .clkPllRelock which => Sys2Proof.Machine.execClkPllRelock which s
  | .currentLimit q => Sys2Proof.Machine.execCurrentLimit q s
  | .fixedModeEdge => Sys2Proof.Machine.execFixedModeEdge s
  | .pcsFault p kind => Sys2Proof.Machine.execPcsFault p kind s
  | .pcsFaultClear p => Sys2Proof.Machine.execPcsFaultClear p s
  | .blockTx sh ix => Sys2Proof.Machine.execBlockTx sh ix s
  | .busMasterEnableWrite fn bme ptm => Sys2Proof.Machine.execBusMasterEnableWrite fn bme ptm s
  | .clkPllUnlock which => Sys2Proof.Machine.execClkPllUnlock which s
  | .aonMonitorRelease => Sys2Proof.Machine.execAonMonitorRelease s

end Sys2Proof.Machine
end

