-- ==== Sys2Proof/WellFormed.lean ====
section
/-! DEFINITION. Well-formed commands: operands within the ranges that the hub has (R1, R2, R13, R194, R245, R515, R517). A command
outside them names nothing of the hub; no statement is made of one (log entry 39). -/
namespace Sys2Proof

/-- A register write names one of 32 functions and four byte enables. -/
def Wr.ok (w : Wr) : Bool := decide (w.fn < 32) && decide (w.be < 16)

/-- A path of the hub (R515). -/
def Path.ok : Path → Bool
  | .ring b r => decide (b < 32) && decide (r < 4)
  | .udp port _ u => decide (port < 32) && decide (u < 65536)
  | .spaxa sh => decide (sh < 40)
  | .tree d => decide (d < 4096)

/-- A packet's fields have the widths of R517. -/
def Packet.ok (p : Packet) : Bool :=
  p.path.ok && decide (p.pathBorough < 32) && decide (p.borough < 256) && decide (p.gen < 256) && decide (p.tag < 65536)
    && decide (p.flags < 65536) && decide (p.length < 2 ^ 32) && decide (p.version < 2 ^ 32) && decide (p.actTime < 2 ^ 96)
    && decide (p.tail < 2 ^ 32)

/-- Whether a command's operands lie within the ranges of the hub. -/
def Instr.ok : Instr → Bool
  | .registerWrite bar _ w => decide (bar < 6) && w.ok
  | .tableApertureWrite fn _ => decide (fn < 32)
  | .reservedAccess fn bar _ _ => decide (fn < 32) && decide (bar < 6)
  | .oversizeRequest fn bar _ _ _ => decide (fn < 32) && decide (bar < 6)
  | .atomicOpRequest fn _ => decide (fn < 32)
  | .pairLoRead fn _ => decide (fn < 32)
  | .pairLoWrite _ w => w.ok
  | .pairHiWrite _ w => w.ok
  | .phasePllFirstLock => true
  | .phaseUnlock => true
  | .phaseRelock => true
  | .ageingFold => true
  | .tbNowFracRead fn => decide (fn < 32)
  | .adjRateChange w => w.ok
  | .adjSlewStart w => w.ok
  | .adjStep w => w.ok
  | .adjAbort w => w.ok
  | .adjTrace w => w.ok
  | .slewDone => true
  | .srcChangeDeclare w => w.ok
  | .changeOfSource w => w.ok
  | .ppsInEdge i => decide (i < 64)
  | .sourceQualified => true
  | .ppsLost => true
  | .ref10mLost => true
  | .ref10mReturn => true
  | .servoCorrection _ => true
  | .hostTraceTimeout => true
  | .holdoverLimit => true
  | .tbTxtsPop fn m => decide (fn < 32) && decide (m < 16)
  | .edgeCapture n i _ => decide (n < 16) && decide (i < 64)
  | .timTagPop fn n => decide (fn < 32) && decide (n < 16)
  | .timCalStart w => w.ok
  | .timCoreStart p w => decide (p < 18) && w.ok
  | .timCalPeriodic => true
  | .timCalRunEnd p _ _ => decide (p < 18)
  | .timCalStale p _ => decide (p < 18)
  | .tdcSpareSwitch n => decide (n < 16)
  | .freqGateEnd x => decide (x.k < 8)
  | .cgLost g => decide (g < 24)
  | .refEnWrite g w => decide (g < 24) && w.ok
  | .cnvRefOk g => decide (g < 24)
  | .cnvApply g w => decide (g < 24) && w.ok
  | .cnvPllLocked g => decide (g < 24)
  | .pllUnlock g => decide (g < 24)
  | .pllRelock g => decide (g < 24)
  | .cnvLocked g => decide (g < 24)
  | .lockLost g => decide (g < 24)
  | .surveyStepEnd g _ => decide (g < 24)
  | .sliceMonitorWindow i sl _ _ _ _ => decide (i < 768) && decide (sl < 17)
  | .surveyEnWrite g w => decide (g < 24) && w.ok
  | .cnvInEnWrite i w => decide (i < 768) && w.ok
  | .dieLinkDown d => decide (d < 8)
  | .dieLinkUp d => decide (d < 8)
  | .chpBind win w => decide (win < 1089) && w.ok
  | .chpUnbind win w => decide (win < 1089) && w.ok
  | .chpCommit win w => decide (win < 1089) && w.ok
  | .districtWindowWrite d off w => decide (d < 65) && decide (off < 1024) && w.ok
  | .frameBoundary g _ => decide (g < 8)
  | .blankEdge line _ => decide (line < 8)
  | .sourceSample (.slot n) _ _ => decide (n < 1024)
  | .sourceSample (.input i) _ _ => decide (i < 768)
  | .cgTag g i => decide (g < 24) && decide (i < 64)
  | .cgTagMissing g => decide (g < 24)
  | .coastTimeout g => decide (g < 24)
  | .gridSampleEmit n => decide (n < 1024)
  | .sourceResume n => decide (n < 1024)
  | .spectrumReady n => decide (n < 1024)
  | .beamSum b => decide (b < 4096)
  | .chainWaitExpiry b => decide (b < 4096)
  | .bfmCommit w => w.ok
  | .bmacFail a => decide (a < 17)
  | .integrationEnd n _ => decide (n < 4096)
  | .itemComplete => true
  | .sfeBind w => w.ok
  | .sfeUnbind w => w.ok
  | .sfeCommit w => w.ok
  | .excRampEnd q => decide (q < 32)
  | .excRangeSettled q => decide (q < 32)
  | .excSenseMeasure q _ _ => decide (q < 32)
  | .pcvCycleStart p => decide (p < 16)
  | .pcvEntryEnd p _ => decide (p < 16)
  | .pcvUrgGo p w => decide (p < 16) && w.ok
  | .urgentArrive p => decide (p < 16)
  | .pcvRefEnWrite w => w.ok
  | .pcvRefOk => true
  | .pauseEnd => true
  | .pcvMidscaleCheck p _ => decide (p < 16)
  | .trimPageLoad n _ _ => decide (n < 32)
  | .calMeasureDone conv _ _ _ => decide (conv < 18)
  | .nvmCopyWritten _ => true
  | .trgArm t w => decide (t < 64) && w.ok
  | .trgDisarm t w => decide (t < 64) && w.ok
  | .triggerOffer => true
  | .trgPulseEnd => true
  | .trgRearm t => decide (t < 64)
  | .ilineEdge n _ => decide (n < 4)
  | .ilineStuck n => decide (n < 4)
  | .netTriggerRx port _ => decide (port < 65536)
  | .trgOutFire t w => decide (t < 64) && w.ok
  | .trgNetClr w => w.ok
  | .captureClose _ => true
  | .ringCtlWrite w => w.ok
  | .cmpRawWrite n w => decide (n < 1024) && w.ok
  | .tileClose _ n _ => decide (n < 16384)
  | .encResume q => decide (q < 16384)
  | .cmpEngFault x => decide (x.eng < 16)
  | .recordTileFlush q => decide (q < 16384)
  | .cmpJobPiWrite b w => decide (b < 32) && w.ok
  | .cmpJobDisable b w => decide (b < 32) && w.ok
  | .jobDecode b fail _ _ => decide (b < 32) && decide (fail < 6)
  | .cmpJobMore b w => decide (b < 32) && w.ok
  | .cmpJobAbort b w => decide (b < 32) && w.ok
  | .queEnable w => w.ok
  | .queDisable w => w.ok
  | .queFlush w => w.ok
  | .plotRequest q => decide (q < 16384)
  | .plotRetry q => decide (q < 16384)
  | .unitWrite q => decide (q < 16384)
  | .plotCopyDone => true
  | .egressFrame k _ _ => decide (k < 41)
  | .egressStall q => decide (q < 16384)
  | .plotEccError id _ _ => decide (id < 50331648)
  | .pqFlush n _ w => decide (n < 256) && w.ok
  | .popStallTimeout n => decide (n < 256)
  | .sysPqMonPop fn j => decide (fn < 32) && decide (j < 223)
  | .monSnapshot j => decide (j < 223)
  | .arbDecision k l _ _ => decide (k < 68) && decide (l < 64)
  | .sheetStart sh w => decide (sh < 40) && w.ok
  | .sheetStop sh w => decide (sh < 40) && w.ok
  | .laneDetectDone sh l => decide (sh < 40) && decide (l < 9)
  | .laneLockDone sh l => decide (sh < 40) && decide (l < 9)
  | .laneEqDone sh l _ => decide (sh < 40) && decide (l < 9)
  | .laneAlignDone sh l ident _ => decide (sh < 40) && decide (l < 9) && decide (ident < 256)
  | .sheetUp sh _ => decide (sh < 40)
  | .bringupStageTimeout sh l => decide (sh < 40) && decide (l < 9)
  | .bringupRetry sh => decide (sh < 40)
  | .laneLos sh l => decide (sh < 40) && decide (l < 9)
  | .laneLosClear sh l => decide (sh < 40) && decide (l < 9)
  | .laneLol sh l => decide (sh < 40) && decide (l < 9)
  | .eyeMeasure sh l _ _ => decide (sh < 40) && decide (l < 9)
  | .prbsLock sh l _ => decide (sh < 40) && decide (l < 9)
  | .prbsLost sh l _ _ => decide (sh < 40) && decide (l < 9)
  | .prbsInject sh l w => decide (sh < 40) && decide (l < 9) && w.ok
  | .prbsClr sh l w => decide (sh < 40) && decide (l < 9) && w.ok
  | .sheetSub sh w => decide (sh < 40) && w.ok
  | .narrowWrite sh w => decide (sh < 40) && w.ok
  | .laneSleepWrite sh l w => decide (sh < 40) && decide (l < 9) && w.ok
  | .trainingSetRx sh l _ => decide (sh < 40) && decide (l < 9)
  | .trainAttemptTimeout sh => decide (sh < 40)
  | .trainBackoffEnd sh => decide (sh < 40)
  | .blockRx sh l i _ => decide (sh < 40) && decide (l < 9) && decide (i < 64)
  | .flitRx sh => decide (sh < 40)
  | .replayTimeout sh => decide (sh < 40)
  | .claimRx sh => decide (sh < 40)
  | .grantRx sh => decide (sh < 40)
  | .refuseRx sh => decide (sh < 40)
  | .doneRx sh => decide (sh < 40)
  | .spareReadyRx sh => decide (sh < 40)
  | .switchRx sh => decide (sh < 40)
  | .restoreRx sh => decide (sh < 40)
  | .commandRx sh => decide (sh < 40)
  | .xchgTimeout sh => decide (sh < 40)
  | .dozeIdle sh => decide (sh < 40)
  | .sampleRx sh _ => decide (sh < 40)
  | .declareRx sh => decide (sh < 40)
  | .partialRx sh => decide (sh < 40)
  | .queueFlitRx sh => decide (sh < 40)
  | .beaconTx sh => decide (sh < 40)
  | .beaconRx sh => decide (sh < 40)
  | .beaconLost sh => decide (sh < 40)
  | .frameRx p _ _ => decide (p < 32)
  | .mergeTimeout n => decide (n < 16384)
  | .heartbeatRx p _ => decide (p < 32)
  | .heartbeatTx => true
  | .heartbeatTimeout p => decide (p < 32)
  | .portFaultHeld p => decide (p < 32)
  | .routeSideWrite j w => decide (j < 16) && w.ok
  | .rewindExpiry q => decide (q < 16384)
  | .htxPiWrite m w _ => decide (m < 16) && w.ok
  | .hrxPiWrite m w _ => decide (m < 16) && w.ok
  | .functionLevelReset fn => decide (fn < 32)
  | .vfDisable n => decide (n < 32)
  | .pcieLinkDown => true
  | .pcieLinkUp => true
  | .ptmStart w => w.ok
  | .ptmDialog => true
  | .ptmResponseRx _ _ => true
  | .ptmTimeout => true
  | .msixModerationEnd fn v => decide (fn < 32) && decide (v < 2048)
  | .msixUnmask fn _ => decide (fn < 32)
  | .dbCmdPiWrite r w _ => decide (r < 4) && w.ok
  | .dbCplCiWrite r w => decide (r < 4) && w.ok
  | .cmdEnvelopeRx port _ _ _ _ => decide (port < 32)
  | .cmdKeyLoad w => w.ok
  | .cmdKeyClear w => w.ok
  | .cringEnable b r w => decide (b < 32) && decide (r < 4) && w.ok
  | .padOpcode p => p.ok
  | .cfgIdent p => p.ok
  | .cfgHubId p => p.ok
  | .cfgKeyLoad p => p.ok
  | .cfgKeyClear p => p.ok
  | .cfgKeyOwn p => p.ok
  | .cfgUdp p => p.ok
  | .cfgRegRead p => p.ok
  | .cfgRegWrite p => p.ok
  | .cfgTableWrite p => p.ok
  | .cfgTableRead p => p.ok
  | .cnvGroup p => p.ok
  | .cnvInputEn p => p.ok
  | .cnvTrack p => p.ok
  | .cnvStatus p => p.ok
  | .brgQuota p => p.ok
  | .brgGrant p => p.ok
  | .brgRevoke p => p.ok
  | .brgBeams p => p.ok
  | .brgReset p => p.ok
  | .brgStatus p => p.ok
  | .pipeSource p => p.ok
  | .pipeBind p => p.ok
  | .pipeDelay p => p.ok
  | .pipeUnbind p => p.ok
  | .pipeMix p => p.ok
  | .pipeDecimate p => p.ok
  | .pipeResample p => p.ok
  | .pipeChannel p => p.ok
  | .pipeReduce p => p.ok
  | .pipeRoute p => p.ok
  | .pipeIntake p => p.ok
  | .pipeCommit p => p.ok
  | .pipeFpd p => p.ok
  | .pipeDistrict p => p.ok
  | .pipeRaw p => p.ok
  | .pipeStatus p => p.ok
  | .beamSet p => p.ok
  | .beamDisable p => p.ok
  | .beamIset p => p.ok
  | .beamWeights p => p.ok
  | .beamStatus p => p.ok
  | .beamLoad p => p.ok
  | .gridDefine p => p.ok
  | .gridClear p => p.ok
  | .gridRead p => p.ok
  | .gridIndex p => p.ok
  | .queueConfig p => p.ok
  | .queueEnable p => p.ok
  | .queueDisable p => p.ok
  | .queueFlush p => p.ok
  | .queueStatus p => p.ok
  | .queueChain p => p.ok
  | .queueDeliver p => p.ok
  | .plotStatus p => p.ok
  | .plotEscape p => p.ok
  | .plotLow p => p.ok
  | .plotCounters p => p.ok
  | .timeRead p => p.ok
  | .timeAdjust p => p.ok
  | .timeSource p => p.ok
  | .timeAge p => p.ok
  | .timePpsDelay p => p.ok
  | .timeTaiUtc p => p.ok
  | .timeStatus p => p.ok
  | .timeEdge p => p.ok
  | .timeFreq p => p.ok
  | .timeFreqRead p => p.ok
  | .timePtm p => p.ok
  | .trigArm p => p.ok
  | .trigDisarm p => p.ok
  | .trigFire p => p.ok
  | .trigSrcSkew p => p.ok
  | .trigRing p => p.ok
  | .trigCapset p => p.ok
  | .trigNet p => p.ok
  | .trigStream p => p.ok
  | .trigStatus p => p.ok
  | .calTrimRepair p => p.ok
  | .calUserMeasure p => p.ok
  | .calUserWrite p => p.ok
  | .calTim p => p.ok
  | .calTimPeriod p => p.ok
  | .calSliceTrim p => p.ok
  | .calSurvey p => p.ok
  | .calSurveyStep p => p.ok
  | .calPageRead p => p.ok
  | .feBind p => p.ok
  | .feUnbind p => p.ok
  | .feExcitation p => p.ok
  | .feChannel p => p.ok
  | .feSequence p => p.ok
  | .feRoute p => p.ok
  | .feBlank p => p.ok
  | .feLin p => p.ok
  | .feUrgent p => p.ok
  | .feRef p => p.ok
  | .feStatus p => p.ok
  | .laneSheet p => p.ok
  | .laneTune p => p.ok
  | .laneSubst p => p.ok
  | .laneNarrow p => p.ok
  | .lanePrbs p => p.ok
  | .laneStatus p => p.ok
  | .linkConfig p => p.ok
  | .linkRxmap p => p.ok
  | .linkStatus p => p.ok
  | .routeMac p => p.ok
  | .routePair p => p.ok
  | .routeSide p => p.ok
  | .routePolicy p => p.ok
  | .routeHeartbeat p => p.ok
  | .routeStream p => p.ok
  | .routeAddress p => p.ok
  | .routePort p => p.ok
  | .routeStatus p => p.ok
  | .gazRoot p => p.ok
  | .gazRegister p => p.ok
  | .gazRemove p => p.ok
  | .gazRead p => p.ok
  | .gazDistrict p => p.ok
  | .gazSend p => p.ok
  | .gazCounts p => p.ok
  | .gazDigest p => p.ok
  | .logHead p => p.ok
  | .logRead p => p.ok
  | .logChallenge p => p.ok
  | .logClear p => p.ok
  | .logKey p => p.ok
  | .logRepeat p => p.ok
  | .powerDown p => p.ok
  | .powerUp p => p.ok
  | .powerHold p => p.ok
  | .powerStatus p => p.ok
  | .sparePolicy p => p.ok
  | .spareSlice p => p.ok
  | .spareEngine p => p.ok
  | .spareSlot p => p.ok
  | .spareTdc p => p.ok
  | .sparePcv p => p.ok
  | .spareBmac p => p.ok
  | .spareCore p => p.ok
  | .sparePlot p => p.ok
  | .spareMram p => p.ok
  | .spareInventory p => p.ok
  | .diagEcho p => p.ok
  | .diagSelftest p => p.ok
  | .diagBeamSat p => p.ok
  | .diagTemps p => p.ok
  | .brgCtlReset b w => decide (b < 32) && w.ok
  | .boroughResetDone b => decide (b < 32)
  | .deliveryDoorbell _ w => w.ok
  | .cmdRateWindow => true
  | .dbEvtSrc w => w.ok
  | .dbEvtAll w => w.ok
  | .gazCopyTx d => decide (d < 4096)
  | .gazRetry d e => decide (d < 4096) && decide (e < 33554432)
  | .gazOutcomeRx e _ => decide (e < 33554432)
  | .gazCollectEnd d => decide (d < 4096)
  | .faultReportRx _ => true
  | .digestClose _ _ => true
  | .evtWindowEnd => true
  | .evtPendWrite k w => decide (k < 9) && w.ok
  | .logWrite fails => decide (fails < 16)
  | .logScan => true
  | .pwrDown d w => decide (d < 97) && w.ok
  | .pwrUp d w => decide (d < 97) && w.ok
  | .drainComplete d => decide (d < 97)
  | .drainTimeout d => decide (d < 97)
  | .wakeComplete d => decide (d < 97)
  | .wakeTimeout d => decide (d < 97)
  | .engFail p _ => decide (p < 68)
  | .slotFail n => decide (n < 1024)
  | .coreFail k _ _ => decide (k < 5)
  | .porAssert _ => true
  | .aonMonitorReset _ => true
  | .supplyFault => true
  | .porRelease => true
  | .xoFail => true
  | .stackTrainingDone failed => decide (failed < 64)
  | .startDone cd ld => decide (cd < 256) && decide (ld < 1024)
  | .warmNRequest => true
  | .warmRegRequest w => w.ok
  | .fwRestartRequest w => w.ok
  | .warmResetDone => true
  | .fwRunning => true
  | .fwWatchdog => true
  | .fwStarted => true
  | .imageVerify w => w.ok
  | .mgbXferGo w => w.ok
  | .mgbXferDone code nbytes _ => decide (code < 256) && decide (nbytes < 33)
  | .mgbPoll i code val => decide (i < 16) && decide (code < 256) && decide (val < 65536)
  | .alertNAssert _ => true
  | .alertRepeat _ _ => true
  | .mgbSigCfgWrite n w => decide (n < 32) && w.ok
  | .mgbEdgePush w => w.ok
  | .sigEdgeFire n => decide (n < 32)
  | .frameMarkerStart n => decide (n < 32)
  | .frameMarkerEnd n => decide (n < 32)
  | .tapInstruction ir => decide (ir < 256)
  | .tapReset => true
  | .refclkGate _ => true
  | .refclkLost => true
  | .refclkBack => true
  | .pcieRefclkLost => true
  | .clkPllRelock which => decide (which < 12)
  | .currentLimit q => decide (q < 32)
  | .fixedModeEdge => true
  | .pcsFault p kind => decide (p < 32) && decide (kind < 5)
  | .pcsFaultClear p => decide (p < 32)
  | .blockTx sh i => decide (sh < 40) && decide (i < 64)
  | .busMasterEnableWrite fn _ _ => decide (fn < 32)
  | .clkPllUnlock which => decide (which < 12)
  | .aonMonitorRelease => true

end Sys2Proof
end

