-- ==== Sys2Proof/Safety.lean ====
section
/-! DEFINITION. The terms in which statements speak of the hub: accesses that reach a block, packets that the engine accepts, and what
every step keeps. -/
namespace Sys2Proof.Machine

/-! ## Register accesses -/

/-- Physical function 0 writes a register of an open block that the part has and holds no half of a pair: the write reaches the
register at offset `off` (R3, R498, R507, R654). -/
abbrev State.Opens (s : State) (w : Wr) (off : Nat) : Prop :=
  w.fn = 0 ∧ (s.func 0).held = none ∧ s.shut off = false ∧ s.absent off = false

/-- The hub behind the merge of a write of `CHP_CTL` of slot n, before its BIND, UNBIND or COMMIT acts (R167 to R169). -/
def State.ctlWritten (s : State) (n : Nat) (w : Wr) : State := (s.mergeRaw (CHP_CTL n).key w).showDirty n

/-- The first frame boundary of grid g that a register command can reach (R31). -/
def State.nextBoundary (s : State) (g : Nat) : Nat := s.boundaryAt g (s.mt + stageLead)

/-! ## Packets (R515 to R532, R571) -/

/-- The state in which the checks of R519 meet a packet: its ring covers it, and its slots are taken. -/
def State.taken (s : State) (p : Packet) : State := (s.announce p).takeSlots p

/-- The engine takes a packet of opcode `op` at once and checks 1 to 5 of R519 pass, its tag entry being FREE; `act` says whether
the opcode takes an activation time. -/
abbrev State.Admits (s : State) (op : Nat) (act : Bool) (p : Packet) : Prop :=
  s.engineShut = false ∧ s.pathOpen p = true ∧ (s.announce p).mustWait p true = false ∧ (s.announce p).overRate p.pathBorough = false ∧
  (s.taken p).packetForm p = true ∧ Packet.crcOk op p = true ∧ p.borough % 32 = p.pathBorough ∧
  (s.taken p).get (BRG_STAT_STATE p.pathBorough) ≠ 1 ∧ (s.taken p).tag (p.borough % 32) p.tag = .free ∧
  (((s.taken p).rateTake (p.borough % 32)).setTag (p.borough % 32) p.tag (.busy (p.gen / 16))).noCore = false ∧
  (act = true ∨ p.flags % 2 = 0)

/-- The state in which an accepted packet's command acts: its tag entry is BUSY, and function 0 holds no half of a pair. -/
def State.begun (s : State) (p : Packet) : State :=
  let u := ((s.taken p).rateTake (p.borough % 32)).setTag (p.borough % 32) p.tag (.busy (p.gen / 16))
  u.setFunc 0 { u.func 0 with held := none }

/-- What function 0 held of a pair, as it was before the command. -/
def State.restoreHeld (s t : State) (p : Packet) : State :=
  t.setFunc 0 { t.func 0 with held := ((((s.taken p).rateTake (p.borough % 32)).setTag (p.borough % 32) p.tag
    (.busy (p.gen / 16))).func 0).held }

/-- The state behind an accepted packet whose command answers at once with a status and a result, `t` being what its effect makes of
`s.begun p`: the tag entry is DONE and the reply goes out (R522, R528). -/
def State.answered (s : State) (op : Nat) (p : Packet) (status : Nat) (res : List Word) (t : State) : State :=
  (s.restoreHeld t p).complete op p status res

/-- The state behind an accepted packet whose command is staged for boundary k of grid g, or, with grid 8, completes later (R522). -/
def State.opened (s : State) (op : Nat) (p : Packet) (g k : Nat) (res : List Word) (t : State) : State :=
  let v := s.restoreHeld t p
  { v with cmds := v.cmds ++ [⟨op, p, actionOf p, g, k, res, 0⟩] }

/-! ## Kinds of commands -/

/-- The commands that start the clock, reset the hub at power-on, move the reset pin or drive the test port. -/
def isSpecial : Instr → Bool
  | .porAssert .. | .porRelease | .aonMonitorReset .. | .xoFail | .phasePllFirstLock | .tapInstruction .. | .tapReset => true
  | _ => false

/-- The commands under which the logbook or the trim pages may change: its writer, scan, key and clear; the MRAM writes; and those at which
the command engine takes packets that wait, any of which may be LOG_CLEAR, LOG_KEY or SPARE_MRAM. -/
def reachesMram : Instr → Bool
  | .logWrite .. | .logScan | .logKey .. | .logClear .. | .nvmCopyWritten .. | .trimPageLoad .. | .spareMram .. | .cmdEnvelopeRx ..
  | .cmdRateWindow | .commandRx .. | .dbCmdPiWrite .. | .dbCplCiWrite .. | .frameBoundary .. | .frameRx .. | .padOpcode ..
  | .registerWrite .. | .porAssert .. | .aonMonitorReset .. => true
  | .plotRetry q => decide (16128 ≤ q)
  | _ => false

/-- The command delivers a packet of an opcode to the command engine, its handler being `h` (R518). -/
def Delivers (c : Instr) (op : Nat) (act : Bool) (h : Packet → State → CmdOut × State) (p : Packet) : Prop :=
  ∀ s, exec c s = .next (s.enginePacket op act h p)

/-! ## What a command may change -/

/-- The components of the state. -/
inductive Comp where
  | regs | force | aper | tb | txts | router | windows | stageQ | log | funcs | linkUp | vecs | ptm | staged | tags
  | envs | keys | keyStage | crings | quesOn | cmds | fenced | lateAt | slots | gridNext | captures | tdc | tdcSwitches
  | edges | tagQ | freqs | cgLost | monQ | monSeq | monLost | popWait | spareBook | trimImg | grps | inps | beams
  | partials | nodes | blanks | injects | items | units | failingSlots | retiredSlots | trigs | spxTx | bmacSwaps | fe
  | pcvs | sfeChs | excs | trimCopies | linCopies | nvm | calMeas | trimLoaded | mramBad | plots | ques | plotBook
  | copies | raws | ring | jobs | dxNext | trgOuts | pulses | ilines | netSenders | trgSeq | capSeq | sigs | mgb | tap
  | porLow | arbs | sheets | ports | rxs | hrings | links | scheds | delivers | rates | gaz | gazSends | digests
  | gazBook | engSwaps | engErrs | coreDog | start | images | out | drawn | pending | ptmAt | monAt | bmacShed | mramMap | part | timCal
  deriving DecidableEq, Repr

/-- The number of a component. -/
def Comp.idx : Comp → Nat
  | .regs => 0 | .force => 1 | .aper => 2 | .tb => 3 | .txts => 4 | .router => 5 | .windows => 6 | .stageQ => 7
  | .log => 8 | .funcs => 9 | .linkUp => 10 | .vecs => 11 | .ptm => 12 | .staged => 13 | .tags => 14 | .envs => 15
  | .keys => 16 | .keyStage => 17 | .crings => 18 | .quesOn => 19 | .cmds => 20 | .fenced => 21 | .lateAt => 22
  | .slots => 23 | .gridNext => 24 | .captures => 25 | .tdc => 26 | .tdcSwitches => 27 | .edges => 28 | .tagQ => 29
  | .freqs => 30 | .cgLost => 31 | .monQ => 32 | .monSeq => 33 | .monLost => 34 | .popWait => 35 | .spareBook => 36
  | .trimImg => 37 | .grps => 38 | .inps => 39 | .beams => 40 | .partials => 41 | .nodes => 42 | .blanks => 43
  | .injects => 44 | .items => 45 | .units => 46 | .failingSlots => 47 | .retiredSlots => 48 | .trigs => 49
  | .spxTx => 50 | .bmacSwaps => 51 | .fe => 52 | .pcvs => 53 | .sfeChs => 54 | .excs => 55 | .trimCopies => 56
  | .linCopies => 57 | .nvm => 58 | .calMeas => 59 | .trimLoaded => 60 | .mramBad => 61 | .plots => 62 | .ques => 63
  | .plotBook => 64 | .copies => 65 | .raws => 66 | .ring => 67 | .jobs => 68 | .dxNext => 69 | .trgOuts => 70
  | .pulses => 71 | .ilines => 72 | .netSenders => 73 | .trgSeq => 74 | .capSeq => 75 | .sigs => 76 | .mgb => 77
  | .tap => 78 | .porLow => 79 | .arbs => 80 | .sheets => 81 | .ports => 82 | .rxs => 83 | .hrings => 84 | .links => 85
  | .scheds => 86 | .delivers => 87 | .rates => 88 | .gaz => 89 | .gazSends => 90 | .digests => 91 | .gazBook => 92
  | .engSwaps => 93 | .engErrs => 94 | .coreDog => 95 | .start => 96 | .images => 97 | .out => 98 | .drawn => 99
  | .pending => 100 | .ptmAt => 101 | .monAt => 102 | .bmacShed => 103 | .mramMap => 104 | .part => 105 | .timCal => 106

/-- Components as a mask. -/
def compMask (l : List Comp) : Nat := l.foldl (fun a c => a ||| 2 ^ c.idx) 0

/-- Every component but those of the mask is as it was. -/
structure Keeps (m : Nat) (s t : State) : Prop where
  regs : m.testBit 0 = false → t.regs = s.regs
  force : m.testBit 1 = false → t.force = s.force
  aper : m.testBit 2 = false → t.aper = s.aper
  tb : m.testBit 3 = false → t.tb = s.tb
  txts : m.testBit 4 = false → t.txts = s.txts
  router : m.testBit 5 = false → t.router = s.router
  windows : m.testBit 6 = false → t.windows = s.windows
  stageQ : m.testBit 7 = false → t.stageQ = s.stageQ
  log : m.testBit 8 = false → t.log = s.log
  funcs : m.testBit 9 = false → t.funcs = s.funcs
  linkUp : m.testBit 10 = false → t.linkUp = s.linkUp
  vecs : m.testBit 11 = false → t.vecs = s.vecs
  ptm : m.testBit 12 = false → t.ptm = s.ptm
  staged : m.testBit 13 = false → t.staged = s.staged
  tags : m.testBit 14 = false → t.tags = s.tags
  envs : m.testBit 15 = false → t.envs = s.envs
  keys : m.testBit 16 = false → t.keys = s.keys
  keyStage : m.testBit 17 = false → t.keyStage = s.keyStage
  crings : m.testBit 18 = false → t.crings = s.crings
  quesOn : m.testBit 19 = false → t.quesOn = s.quesOn
  cmds : m.testBit 20 = false → t.cmds = s.cmds
  fenced : m.testBit 21 = false → t.fenced = s.fenced
  lateAt : m.testBit 22 = false → t.lateAt = s.lateAt
  slots : m.testBit 23 = false → t.slots = s.slots
  gridNext : m.testBit 24 = false → t.gridNext = s.gridNext
  captures : m.testBit 25 = false → t.captures = s.captures
  tdc : m.testBit 26 = false → t.tdc = s.tdc
  tdcSwitches : m.testBit 27 = false → t.tdcSwitches = s.tdcSwitches
  edges : m.testBit 28 = false → t.edges = s.edges
  tagQ : m.testBit 29 = false → t.tagQ = s.tagQ
  freqs : m.testBit 30 = false → t.freqs = s.freqs
  cgLost : m.testBit 31 = false → t.cgLost = s.cgLost
  monQ : m.testBit 32 = false → t.monQ = s.monQ
  monSeq : m.testBit 33 = false → t.monSeq = s.monSeq
  monLost : m.testBit 34 = false → t.monLost = s.monLost
  popWait : m.testBit 35 = false → t.popWait = s.popWait
  spareBook : m.testBit 36 = false → t.spareBook = s.spareBook
  trimImg : m.testBit 37 = false → t.trimImg = s.trimImg
  grps : m.testBit 38 = false → t.grps = s.grps
  inps : m.testBit 39 = false → t.inps = s.inps
  beams : m.testBit 40 = false → t.beams = s.beams
  partials : m.testBit 41 = false → t.partials = s.partials
  nodes : m.testBit 42 = false → t.nodes = s.nodes
  blanks : m.testBit 43 = false → t.blanks = s.blanks
  injects : m.testBit 44 = false → t.injects = s.injects
  items : m.testBit 45 = false → t.items = s.items
  units : m.testBit 46 = false → t.units = s.units
  failingSlots : m.testBit 47 = false → t.failingSlots = s.failingSlots
  retiredSlots : m.testBit 48 = false → t.retiredSlots = s.retiredSlots
  trigs : m.testBit 49 = false → t.trigs = s.trigs
  spxTx : m.testBit 50 = false → t.spxTx = s.spxTx
  bmacSwaps : m.testBit 51 = false → t.bmacSwaps = s.bmacSwaps
  fe : m.testBit 52 = false → t.fe = s.fe
  pcvs : m.testBit 53 = false → t.pcvs = s.pcvs
  sfeChs : m.testBit 54 = false → t.sfeChs = s.sfeChs
  excs : m.testBit 55 = false → t.excs = s.excs
  trimCopies : m.testBit 56 = false → t.trimCopies = s.trimCopies
  linCopies : m.testBit 57 = false → t.linCopies = s.linCopies
  nvm : m.testBit 58 = false → t.nvm = s.nvm
  calMeas : m.testBit 59 = false → t.calMeas = s.calMeas
  trimLoaded : m.testBit 60 = false → t.trimLoaded = s.trimLoaded
  mramBad : m.testBit 61 = false → t.mramBad = s.mramBad
  plots : m.testBit 62 = false → t.plots = s.plots
  ques : m.testBit 63 = false → t.ques = s.ques
  plotBook : m.testBit 64 = false → t.plotBook = s.plotBook
  copies : m.testBit 65 = false → t.copies = s.copies
  raws : m.testBit 66 = false → t.raws = s.raws
  ring : m.testBit 67 = false → t.ring = s.ring
  jobs : m.testBit 68 = false → t.jobs = s.jobs
  dxNext : m.testBit 69 = false → t.dxNext = s.dxNext
  trgOuts : m.testBit 70 = false → t.trgOuts = s.trgOuts
  pulses : m.testBit 71 = false → t.pulses = s.pulses
  ilines : m.testBit 72 = false → t.ilines = s.ilines
  netSenders : m.testBit 73 = false → t.netSenders = s.netSenders
  trgSeq : m.testBit 74 = false → t.trgSeq = s.trgSeq
  capSeq : m.testBit 75 = false → t.capSeq = s.capSeq
  sigs : m.testBit 76 = false → t.sigs = s.sigs
  mgb : m.testBit 77 = false → t.mgb = s.mgb
  tap : m.testBit 78 = false → t.tap = s.tap
  porLow : m.testBit 79 = false → t.porLow = s.porLow
  arbs : m.testBit 80 = false → t.arbs = s.arbs
  sheets : m.testBit 81 = false → t.sheets = s.sheets
  ports : m.testBit 82 = false → t.ports = s.ports
  rxs : m.testBit 83 = false → t.rxs = s.rxs
  hrings : m.testBit 84 = false → t.hrings = s.hrings
  links : m.testBit 85 = false → t.links = s.links
  scheds : m.testBit 86 = false → t.scheds = s.scheds
  delivers : m.testBit 87 = false → t.delivers = s.delivers
  rates : m.testBit 88 = false → t.rates = s.rates
  gaz : m.testBit 89 = false → t.gaz = s.gaz
  gazSends : m.testBit 90 = false → t.gazSends = s.gazSends
  digests : m.testBit 91 = false → t.digests = s.digests
  gazBook : m.testBit 92 = false → t.gazBook = s.gazBook
  engSwaps : m.testBit 93 = false → t.engSwaps = s.engSwaps
  engErrs : m.testBit 94 = false → t.engErrs = s.engErrs
  coreDog : m.testBit 95 = false → t.coreDog = s.coreDog
  start : m.testBit 96 = false → t.start = s.start
  images : m.testBit 97 = false → t.images = s.images
  out : m.testBit 98 = false → t.out = s.out
  drawn : m.testBit 99 = false → t.drawn = s.drawn
  pending : m.testBit 100 = false → t.pending = s.pending
  ptmAt : m.testBit 101 = false → t.ptmAt = s.ptmAt
  monAt : m.testBit 102 = false → t.monAt = s.monAt
  bmacShed : m.testBit 103 = false → t.bmacShed = s.bmacShed
  mramMap : m.testBit 104 = false → t.mramMap = s.mramMap
  part : m.testBit 105 = false → t.part = s.part
  timCal : m.testBit 106 = false → t.timCal = s.timCal

/-- What raising an event may change: the registers of its counters, the event router, the staging queue, the logbook (never its
records or its key, `LogbookKept`), and MSI-X with the messages that the hub sends (R602 to R616). -/
def eventComps : List Comp := [.regs, .router, .windows, .stageQ, .log, .vecs, .out]

/-- Only the components listed, and those that raising an event may change, differ. -/
def Only (l : List Comp) (s t : State) : Prop := Keeps (compMask (l ++ eventComps)) s t

/-- The command answers a next state from every state, and changes only the components listed and those of raising an event. -/
def Frames (c : Instr) (l : List Comp) : Prop := ∀ s, ∃ t, exec c s = .next t ∧ Only l s t

end Sys2Proof.Machine
end

