-- ==== Sys2Proof/Certificates/Slice0/Obligations.lean ====
section
/-! DEFINITION. The statements about the hub, for the provers: what a step does, what each command completes with and what it leaves as it
is. Statements about opcodes speak of a packet that the command engine admits (`State.Admits`). -/
set_option maxRecDepth 100000
open Sys2Proof Sys2Proof.Machine

/-- For every command c and state s, the step of s with c at the front of its queue is exec of c on s with the rest of the queue. -/
def Obligations.StepRunsFront : Prop :=
  ∀ (s : State) (c : Instr) (rest : List Instr), s.pending = c :: rest → step s = exec c { s with pending := rest }

/-- From every state, whatever command is at the front, step answers a next state. -/
def Obligations.EveryStepAnswers : Prop :=
  ∀ (s : State), ∃ t, step s = .next t

/-- First in, first out: whatever the command, nothing it does touches the commands that wait behind it. -/
def Obligations.StepConsumesFront : Prop :=
  ∀ (s t : State) (c : Instr) (rest : List Instr), s.pending = c :: rest → step s = .next t → t.pending = rest

/-- An invariant that every step keeps: where the clock has not locked since power-on, the free count is 0. -/
def Obligations.ClockStandsUntilLock : Prop :=
  ∀ (s t : State), (s.tb.locked = false → s.tb.fc = 0) → step s = .next t → t.tb.locked = false → t.tb.fc = 0

/-- At reset the clock has not locked and the free count is 0; no command waits, no post queue is on and no slot is bound; the tables and the
outputs hold nothing. -/
def Obligations.ResetState : Prop :=
  State.reset.pending = [] ∧ State.reset.tb.locked = false ∧ State.reset.tb.fc = 0 ∧ State.reset.tb.slew = none ∧ State.reset.cmds = [] ∧
    State.reset.quesOn = [] ∧ State.reset.anyBound = false ∧ State.reset.aper = [] ∧ State.reset.out = [] ∧ State.reset.tstate = 0

/-- No command moves the free count but those at power-on and at the first lock of the phase PLL: the first lock starts the count at 0, a power-on
reset stands it at 0. That a step on an empty queue idles and counts a tick (25 while COARSE) is the model's own choice, log entry 40. -/
def Obligations.FreeCountMoves : Prop :=
  (∀ (s t : State) (c : Instr), isSpecial c = false → exec c s = .next t → t.tb.fc = s.tb.fc ∧ t.tb.locked = s.tb.locked) ∧
  (∀ (s : State), s.tb.locked = false → s.porLow = false → s.start.aonLow = false →
    ∃ t, exec .phasePllFirstLock s = .next t ∧ t.tb.locked = true ∧ t.tb.fc = 0) ∧
  (∀ (s : State) (torn : Bool), ∃ t, exec (.porAssert torn) s = .next t ∧ t.tb.locked = false ∧ t.tb.fc = 0 ∧ t.porLow = true) ∧
  (∀ (s : State), s.pending = [] → step s = .next s.idle) ∧
  (∀ (s : State), s.pending = [] → ∃ t, step s = .next t ∧ t.pending = [] ∧ t.tb.locked = s.tb.locked ∧
    t.tb.fc = s.tb.fc + (if s.tb.locked then (if s.isSet TB_STATUS_COARSE then 25 else 1) else 0))

/-- No command outside a list (the logbook's own, the MRAM writes, the resets and those at which waiting packets are taken) changes a record of the
logbook, its key or a copy of a trim page; raising an event, which stages records, never does. -/
def Obligations.LogbookKept : Prop :=
  (∀ (s t : State) (c : Instr), isSpecial c = false → reachesMram c = false → exec c s = .next t →
    t.log.slots = s.log.slots ∧ t.log.key = s.log.key ∧ t.trimCopies = s.trimCopies) ∧
  (∀ (s : State) (e : EvId) (inst : Nat) (d : List Detail) (b : Nat) (pol mand nolog : Bool),
    (s.raise e inst d b pol mand nolog).log.slots = s.log.slots ∧ (s.raise e inst d b pol mand nolog).log.key = s.log.key)

/-- A packet that passes checks 1 to 4 meets its tag's entry: a retry of a completed command is answered from the cache and not executed; a packet
of another generation is accepted as new; a duplicate of a command in progress is discarded; another generation of it is refused TAG_BUSY. -/
def Obligations.RetransmittedPacket : Prop :=
  (∀ (c : Instr) (op : Nat) (act : Bool) (h : Packet → State → CmdOut × State) (p : Packet) (s : State) (l : List Word), Delivers c op act h p →
    s.engineShut = false → s.pathOpen p = true → (s.announce p).mustWait p true = false → (s.announce p).overRate p.pathBorough = false →
    (s.taken p).packetForm p = true → Packet.crcOk op p = true → p.borough % 32 = p.pathBorough → (s.taken p).get (BRG_STAT_STATE p.pathBorough) ≠ 1 →
    (s.taken p).tag (p.borough % 32) p.tag = .done (p.gen / 16) l →
    exec c s = .next (((s.taken p).bumpSat CMD_REPLAYS evCMD_CNT_SAT).sendOn p.path (p.borough % 32) (replyFlag 2 l))) ∧
  (∀ (c : Instr) (op : Nat) (act : Bool) (h : Packet → State → CmdOut × State) (p : Packet) (s : State) (l : List Word) (g : Nat), Delivers c op act h p →
    s.engineShut = false → s.pathOpen p = true → (s.announce p).mustWait p true = false → (s.announce p).overRate p.pathBorough = false →
    (s.taken p).packetForm p = true → Packet.crcOk op p = true → p.borough % 32 = p.pathBorough → (s.taken p).get (BRG_STAT_STATE p.pathBorough) ≠ 1 →
    (s.taken p).tag (p.borough % 32) p.tag = .done g l → g ≠ p.gen / 16 →
    exec c s = .next ((s.taken p).acceptNew op act h p)) ∧
  (∀ (c : Instr) (op : Nat) (act : Bool) (h : Packet → State → CmdOut × State) (p : Packet) (s : State) (b r : Nat), Delivers c op act h p →
    s.engineShut = false → s.pathOpen p = true → (s.announce p).mustWait p true = false → (s.announce p).overRate p.pathBorough = false →
    (s.taken p).packetForm p = true → Packet.crcOk op p = true → p.borough % 32 = p.pathBorough → (s.taken p).get (BRG_STAT_STATE p.pathBorough) ≠ 1 →
    (s.taken p).tag (p.borough % 32) p.tag = .busy (p.gen / 16) → p.path = .ring b r →
    exec c s = .next (((s.taken p).bumpSat CMD_DUPS evCMD_CNT_SAT).cringDone b r)) ∧
  (∀ (c : Instr) (op : Nat) (act : Bool) (h : Packet → State → CmdOut × State) (p : Packet) (s : State) (g : Nat), Delivers c op act h p →
    s.engineShut = false → s.pathOpen p = true → (s.announce p).mustWait p true = false → (s.announce p).overRate p.pathBorough = false →
    (s.taken p).packetForm p = true → Packet.crcOk op p = true → p.borough % 32 = p.pathBorough → (s.taken p).get (BRG_STAT_STATE p.pathBorough) ≠ 1 →
    (s.taken p).tag (p.borough % 32) p.tag = .busy g → g ≠ p.gen / 16 →
    exec c s = .next (((s.taken p).bumpSat CMD_TAGBUSY evCMD_CNT_SAT).bareReply op p 7))

/-- EXTEST, EXTEST_PULSE, EXTEST_TRAIN, CLAMP and HIGHZ (instruction codes 3 to 7) take the pins while POR_N is low; with POR_N high each acts as
BYPASS and the capture value shows p = 1. No instruction changes anything but the test port. -/
def Obligations.TestAccess : Prop :=
  (∀ (s : State) (ir : Nat), 3 ≤ ir → ir ≤ 7 → s.porLow = true →
    exec (.tapInstruction ir) s = .next { s with tap := ⟨ir, if ir ≤ 5 then 2 else 0, true⟩ }) ∧
  (∀ (s : State) (ir : Nat), 3 ≤ ir → ir ≤ 7 → s.porLow = false → exec (.tapInstruction ir) s = .next { s with tap := ⟨ir, 0, false⟩ }) ∧
  (∀ (s : State), s.porLow = false → s.irCapture = 5) ∧
  (∀ (s : State) (ir : Nat), s.porLow = false → ∃ x, exec (.tapInstruction ir) s = .next { s with tap := x } ∧ x.pins = false)

/-- A rate change within -140,737,488,355 to 140,737,488,355 units is accepted; outside it, the register path stores TIME_RANGE (5) in its code and
TIME_ADJUST answers TIME_RANGE (0x0114), and nothing else changes the time base but the ageing folds that were due before it. -/
def Obligations.RateRange : Prop :=
  (∀ (s : State) (w : Wr), s.Opens w 0x30054 → s.isSet TB_ADJ_CTL_GO = false → w.hits 0 = true →
    (s.mergeRaw 0x30054 w).adjOps = ⟨true, false, false, false, false⟩ → s.get TB_DISC_SRC ≠ 1 → s.get TB_DISC_SRC ≠ 2 →
    -140737488355 ≤ sext 64 (s.rd64 TB_ADJ_RATE_LO TB_ADJ_RATE_HI) → sext 64 (s.rd64 TB_ADJ_RATE_LO TB_ADJ_RATE_HI) ≤ 140737488355 →
    ∃ t, exec (.adjRateChange w) s = .next t ∧ t.tb.rate = sext 64 (s.rd64 TB_ADJ_RATE_LO TB_ADJ_RATE_HI) ∧ t.get TB_ADJ_STAT_CODE = 0) ∧
  (∀ (s : State) (w : Wr), s.Opens w 0x30054 → s.isSet TB_ADJ_CTL_GO = false → w.hits 0 = true →
    (s.mergeRaw 0x30054 w).adjOps = ⟨true, false, false, false, false⟩ → s.get TB_DISC_SRC ≠ 1 → s.get TB_DISC_SRC ≠ 2 →
    (sext 64 (s.rd64 TB_ADJ_RATE_LO TB_ADJ_RATE_HI) < -140737488355 ∨ 140737488355 < sext 64 (s.rd64 TB_ADJ_RATE_LO TB_ADJ_RATE_HI)) →
    exec (.adjRateChange w) s = .next (((s.mergeRaw 0x30054 w).foldDue.put TB_ADJ_STAT_CODE 5).put TB_ADJ_CTL_GO 0)) ∧
  (∀ (s u : State) (p : Packet) (rate : Int), s.Admits 0x0702 false p → u = s.begun p → Packet.sized p 24 = true → Packet.arg p 1 3
    = 0 → Packet.arg p 0 1 = 2 → rate = sext 64 (Packet.arg p 4 8) → p.borough % 32 = 0 → u.isSet TB_ADJ_CTL_GO = false → u.get
    TB_DISC_SRC ≠ 1 → u.get TB_DISC_SRC ≠ 2 → (rate < -140737488355 ∨ 140737488355 < rate) → exec (.timeAdjust p) s = .next
    (s.answered 0x0702 p 0x0114 [] (u.foldDue.put TB_ADJ_STAT_CODE 5)))

/-- A step that passes its checks: behind the ageing folds that are due, on one tick the amount is added to OFFSET, and STEP_DONE is
raised with the amount. -/
def Obligations.StepAdjust : Prop :=
  ∀ (s u : State) (w : Wr) (amt : Int), s.Opens w 0x30054 → s.isSet TB_ADJ_CTL_GO = false → w.hits 0 = true → u = (s.mergeRaw 0x30054 w).foldDue →
    amt = sext 64 (s.rd64 TB_ADJ_AMT_LO TB_ADJ_AMT_HI) → u.adjOps = ⟨false, false, true, false, false⟩ →
    u.adjCheck ⟨false, false, true, false, false⟩ (sext 64 (s.rd64 TB_ADJ_RATE_LO TB_ADJ_RATE_HI)) amt (s.rn TB_ADJ_SLEW) = 0 →
    exec (.adjStep w) s = .next (((({ u with tb := { u.tb with offset := u.tb.offset + amt } } : State).raise evTB_STEP_DONE 65535 [.w8 amt]).put
      TB_ADJ_STAT_CODE 0).put TB_ADJ_CTL_GO 0)

/-- The frames of the shared operations: raising an event, a write merging into a register, a reserved access, the reply of a command, and the
taking of its tag; the statements about opcodes give next states built from these. -/
def Obligations.SharedFrames : Prop :=
  (∀ (s : State) (e : EvId) (inst : Nat) (d : List Detail) (b : Nat) (pol mand nolog : Bool), Only [] s (s.raise e inst d b pol mand nolog)) ∧
  (∀ (s : State) (k : Nat) (w : Wr), Only [] s (s.mergeRaw k w)) ∧
  (∀ (s : State) (fn bar off : Nat) (write : Bool), Only [.funcs] s (s.reservedHit fn bar off write)) ∧
  (∀ (s : State) (op : Nat) (p : Packet) (st : Nat) (l : List Word), Only [.tags, .envs, .crings, .spxTx, .ques, .gazSends] s (s.complete op p st l)) ∧
  (∀ (s : State) (b n : Nat) (x : TagEntry), Only [.tags] s (s.setTag b n x) ∧ (s.setTag b n x).regs = s.regs) ∧
  (∀ (s : State) (p : Packet), Only [.tags, .crings, .rates, .funcs] s (s.begun p))

/-- A register and a word of a table read what was last written to them, a write leaves every other one alone, and a write keeps the tables
in their canonical form: keys strictly rising, and nothing listed that reads as an unlisted word. -/
def Obligations.RegisterAndTableMemory : Prop :=
  (∀ (s : State) (r q : Reg) (w : Word), (s.wr r w).rd r = w ∧ (q.key ≠ r.key → (s.wr r w).rd q = s.rd q)) ∧
  (∀ (s : State) (k j : Nat) (w : Word), (s.setTab k w).tab k = w ∧ (j ≠ k → (s.setTab k w).tab j = s.tab j)) ∧
  (∀ (s : State) (k : Nat) (w : Word), mapWf 0#32 s.aper = true → mapWf 0#32 (s.setTab k w).aper = true) ∧
  (∀ (s : State) (k : Nat) (w : Word), Keeps (compMask [.aper]) s (s.setTab k w))

/-- Every packet command hands its packet to the command engine under its opcode's number, and says whether the opcode takes an activation
time. -/
def Obligations.OpcodeNumbers : Prop :=
  ∀ p : Packet, Delivers (.cfgIdent p) 0x0101 false opCfgIdent p ∧ Delivers (.cfgHubId p) 0x0102 false opCfgHubId p ∧
    Delivers (.cfgKeyLoad p) 0x0103 false opCfgKeyLoad p ∧ Delivers (.cfgKeyClear p) 0x0104 false opCfgKeyClear p ∧
    Delivers (.cfgKeyOwn p) 0x0105 false opCfgKeyOwn p ∧ Delivers (.cfgUdp p) 0x0106 false opCfgUdp p ∧
    Delivers (.cfgRegRead p) 0x0107 false opCfgRegRead p ∧ Delivers (.cfgRegWrite p) 0x0108 false opCfgRegWrite p ∧
    Delivers (.cfgTableWrite p) 0x0109 false opCfgTableWrite p ∧ Delivers (.cfgTableRead p) 0x010A false opCfgTableRead p ∧
    Delivers (.cnvGroup p) 0x0110 false opCnvGroup p ∧ Delivers (.cnvInputEn p) 0x0111 true opCnvInputEn p ∧
    Delivers (.cnvTrack p) 0x0112 false opCnvTrack p ∧ Delivers (.cnvStatus p) 0x0113 false opCnvStatus p ∧
    Delivers (.brgQuota p) 0x0120 false opBrgQuota p ∧ Delivers (.brgGrant p) 0x0121 false opBrgGrant p ∧
    Delivers (.brgRevoke p) 0x0122 false opBrgRevoke p ∧ Delivers (.brgBeams p) 0x0123 false opBrgBeams p ∧
    Delivers (.brgReset p) 0x0124 false opBrgReset p ∧ Delivers (.brgStatus p) 0x0125 false opBrgStatus p ∧
    Delivers (.pipeSource p) 0x0201 false opPipeSource p ∧ Delivers (.pipeBind p) 0x0202 true opPipeBind p ∧
    Delivers (.pipeDelay p) 0x0203 true opPipeDelay p ∧ Delivers (.pipeUnbind p) 0x0204 true opPipeUnbind p ∧
    Delivers (.pipeMix p) 0x0205 true opPipeMix p ∧ Delivers (.pipeDecimate p) 0x0206 true opPipeDecimate p ∧
    Delivers (.pipeResample p) 0x0207 true opPipeResample p ∧ Delivers (.pipeChannel p) 0x0208 true opPipeChannel p ∧
    Delivers (.pipeReduce p) 0x0209 true opPipeReduce p ∧ Delivers (.pipeRoute p) 0x020A true opPipeRoute p ∧
    Delivers (.pipeIntake p) 0x020B true opPipeIntake p ∧ Delivers (.pipeCommit p) 0x020C true opPipeCommit p ∧
    Delivers (.pipeFpd p) 0x020D false opPipeFpd p ∧ Delivers (.pipeDistrict p) 0x020E false opPipeDistrict p ∧
    Delivers (.pipeRaw p) 0x020F false opPipeRaw p ∧ Delivers (.pipeStatus p) 0x0210 false opPipeStatus p ∧
    Delivers (.beamSet p) 0x0301 true opBeamSet p ∧ Delivers (.beamDisable p) 0x0302 true opBeamDisable p ∧
    Delivers (.beamIset p) 0x0303 false opBeamIset p ∧ Delivers (.beamWeights p) 0x0304 false opBeamWeights p ∧
    Delivers (.beamStatus p) 0x0305 false opBeamStatus p ∧ Delivers (.beamLoad p) 0x0306 false opBeamLoad p ∧
    Delivers (.gridDefine p) 0x0401 false opGridDefine p ∧ Delivers (.gridClear p) 0x0402 false opGridClear p ∧
    Delivers (.gridRead p) 0x0403 false opGridRead p ∧ Delivers (.gridIndex p) 0x0404 false opGridIndex p ∧
    Delivers (.queueConfig p) 0x0501 false opQueueConfig p ∧ Delivers (.queueEnable p) 0x0502 false opQueueEnable p ∧
    Delivers (.queueDisable p) 0x0503 false opQueueDisable p ∧ Delivers (.queueFlush p) 0x0504 false opQueueFlush p ∧
    Delivers (.queueStatus p) 0x0505 false opQueueStatus p ∧ Delivers (.queueChain p) 0x0506 false opQueueChain p ∧
    Delivers (.queueDeliver p) 0x0507 false opQueueDeliver p ∧ Delivers (.plotStatus p) 0x0601 false opPlotStatus p ∧
    Delivers (.plotEscape p) 0x0602 false opPlotEscape p ∧ Delivers (.plotLow p) 0x0603 false opPlotLow p ∧
    Delivers (.plotCounters p) 0x0604 false opPlotCounters p ∧ Delivers (.timeRead p) 0x0701 false opTimeRead p ∧
    Delivers (.timeAdjust p) 0x0702 false opTimeAdjust p ∧ Delivers (.timeSource p) 0x0703 false opTimeSource p ∧
    Delivers (.timeAge p) 0x0704 false opTimeAge p ∧ Delivers (.timePpsDelay p) 0x0705 false opTimePpsDelay p ∧
    Delivers (.timeTaiUtc p) 0x0706 false opTimeTaiUtc p ∧ Delivers (.timeStatus p) 0x0707 false opTimeStatus p ∧
    Delivers (.timeEdge p) 0x0708 false opTimeEdge p ∧ Delivers (.timeFreq p) 0x0709 false opTimeFreq p ∧
    Delivers (.timeFreqRead p) 0x070A false opTimeFreqRead p ∧ Delivers (.timePtm p) 0x070B false opTimePtm p ∧
    Delivers (.trigArm p) 0x0801 false opTrigArm p ∧ Delivers (.trigDisarm p) 0x0802 false opTrigDisarm p ∧
    Delivers (.trigFire p) 0x0803 false opTrigFire p ∧ Delivers (.trigSrcSkew p) 0x0804 false opTrigSrcSkew p ∧
    Delivers (.trigRing p) 0x0805 false opTrigRing p ∧ Delivers (.trigCapset p) 0x0806 false opTrigCapset p ∧
    Delivers (.trigNet p) 0x0807 false opTrigNet p ∧ Delivers (.trigStream p) 0x0808 false opTrigStream p ∧
    Delivers (.trigStatus p) 0x0809 false opTrigStatus p ∧ Delivers (.calTrimRepair p) 0x0901 false opCalTrimRepair p ∧
    Delivers (.calUserMeasure p) 0x0902 false opCalUserMeasure p ∧ Delivers (.calUserWrite p) 0x0903 true opCalUserWrite p ∧
    Delivers (.calTim p) 0x0904 false opCalTim p ∧ Delivers (.calTimPeriod p) 0x0905 false opCalTimPeriod p ∧
    Delivers (.calSliceTrim p) 0x0906 true opCalSliceTrim p ∧ Delivers (.calSurvey p) 0x0907 false opCalSurvey p ∧
    Delivers (.calSurveyStep p) 0x0908 false opCalSurveyStep p ∧ Delivers (.calPageRead p) 0x0909 false opCalPageRead p ∧
    Delivers (.feBind p) 0x0A01 true opFeBind p ∧ Delivers (.feUnbind p) 0x0A02 true opFeUnbind p ∧
    Delivers (.feExcitation p) 0x0A03 true opFeExcitation p ∧ Delivers (.feChannel p) 0x0A04 true opFeChannel p ∧
    Delivers (.feSequence p) 0x0A05 true opFeSequence p ∧ Delivers (.feRoute p) 0x0A06 true opFeRoute p ∧
    Delivers (.feBlank p) 0x0A07 true opFeBlank p ∧ Delivers (.feLin p) 0x0A08 true opFeLin p ∧
    Delivers (.feUrgent p) 0x0A09 false opFeUrgent p ∧ Delivers (.feRef p) 0x0A0A false opFeRef p ∧
    Delivers (.feStatus p) 0x0A0B false opFeStatus p ∧ Delivers (.laneSheet p) 0x0B01 false opLaneSheet p ∧
    Delivers (.laneTune p) 0x0B02 false opLaneTune p ∧ Delivers (.laneSubst p) 0x0B03 false opLaneSubst p ∧
    Delivers (.laneNarrow p) 0x0B04 false opLaneNarrow p ∧ Delivers (.lanePrbs p) 0x0B05 false opLanePrbs p ∧
    Delivers (.laneStatus p) 0x0B06 false opLaneStatus p ∧ Delivers (.linkConfig p) 0x0C01 false opLinkConfig p ∧
    Delivers (.linkRxmap p) 0x0C02 false opLinkRxmap p ∧ Delivers (.linkStatus p) 0x0C03 false opLinkStatus p ∧
    Delivers (.routeMac p) 0x0D01 false opRouteMac p ∧ Delivers (.routePair p) 0x0D02 false opRoutePair p ∧
    Delivers (.routeSide p) 0x0D03 false opRouteSide p ∧ Delivers (.routePolicy p) 0x0D04 false opRoutePolicy p ∧
    Delivers (.routeHeartbeat p) 0x0D05 false opRouteHeartbeat p ∧ Delivers (.routeStream p) 0x0D06 false opRouteStream p ∧
    Delivers (.routeAddress p) 0x0D07 false opRouteAddress p ∧ Delivers (.routePort p) 0x0D08 false opRoutePort p ∧
    Delivers (.routeStatus p) 0x0D09 false opRouteStatus p ∧ Delivers (.gazRoot p) 0x0E01 false opGazRoot p ∧
    Delivers (.gazRegister p) 0x0E02 false opGazRegister p ∧ Delivers (.gazRemove p) 0x0E03 false opGazRemove p ∧
    Delivers (.gazRead p) 0x0E04 false opGazRead p ∧ Delivers (.gazDistrict p) 0x0E05 false opGazDistrict p ∧
    Delivers (.gazSend p) 0x0E06 true opGazSend p ∧ Delivers (.gazCounts p) 0x0E07 false opGazCounts p ∧
    Delivers (.gazDigest p) 0x0E08 false opGazDigest p ∧ Delivers (.logHead p) 0x0F01 false opLogHead p ∧
    Delivers (.logRead p) 0x0F02 false opLogRead p ∧ Delivers (.logChallenge p) 0x0F03 false opLogChallenge p ∧
    Delivers (.logClear p) 0x0F04 false opLogClear p ∧ Delivers (.logKey p) 0x0F05 false opLogKey p ∧
    Delivers (.logRepeat p) 0x0F06 false opLogRepeat p ∧ Delivers (.powerDown p) 0x1001 false opPowerDown p ∧
    Delivers (.powerUp p) 0x1002 false opPowerUp p ∧ Delivers (.powerHold p) 0x1003 false opPowerHold p ∧
    Delivers (.powerStatus p) 0x1004 false opPowerStatus p ∧ Delivers (.sparePolicy p) 0x1101 false opSparePolicy p ∧
    Delivers (.spareSlice p) 0x1102 false opSpareSlice p ∧ Delivers (.spareEngine p) 0x1103 false opSpareEngine p ∧
    Delivers (.spareSlot p) 0x1104 false opSpareSlot p ∧ Delivers (.spareTdc p) 0x1105 false opSpareTdc p ∧
    Delivers (.sparePcv p) 0x1106 false opSparePcv p ∧ Delivers (.spareBmac p) 0x1107 false opSpareBmac p ∧
    Delivers (.spareCore p) 0x1108 false opSpareCore p ∧ Delivers (.sparePlot p) 0x1109 false opSparePlot p ∧
    Delivers (.spareMram p) 0x110A false opSpareMram p ∧ Delivers (.spareInventory p) 0x110B false opSpareInventory p ∧
    Delivers (.diagEcho p) 0x1201 false opDiagEcho p ∧ Delivers (.diagSelftest p) 0x1202 false opDiagSelftest p ∧
    Delivers (.diagBeamSat p) 0x1203 false opDiagBeamSat p ∧ Delivers (.diagTemps p) 0x1204 false opDiagTemps p

/-- Rows 1 to 8, the requests of the host. A write of a register that the function sees goes to the register's block, and a word written
to a plain register stands in it; a write of an MSI-X entry or a doorbell acts; a table of the aperture takes the enabled
bytes; reserved, oversized and atomic requests are answered and change nothing that they name; the halves of a pair move
together (R12, R492, R497, R501, R504, R506 to R508, R511). -/
def Obligations.HostRequestsComplete : Prop :=
  (∀ (s : State) (w : Wr) (off : Nat), off < 0x1000000 → off % 4 = 0 → (s.func w.fn).held = none →
    s.reaches w.fn off true = true → isPairLo off = false → exec (.registerWrite 0 off w) s = .next (s.regStore off w)) ∧
  (∀ (s : State) (v : Word), (s.func 0).held = none → s.isSet SYS_START_READY = true →
    exec (.registerWrite 0 0x3003C ⟨0, 15, v⟩) s = .next (s.wr TB_PPS_DELAY v)) ∧
  (∀ (s : State) (w : Wr) (v : Nat), (s.func w.fn).held = none → v < vecCount w.fn →
    exec (.registerWrite 4 (16 * v) w) s = .next ((s.setVec w.fn v { s.vec w.fn v with
      addr := (s.vec w.fn v).addr / 2 ^ 32 * 2 ^ 32 + merged ((s.vec w.fn v).addr % 2 ^ 32) w }).vecRelease w.fn)) ∧
  (∀ (s : State) (w : Wr) (r : Nat), r < 4 → (s.func w.fn).held = none → s.isSet SYS_START_READY = true → w.be % 16 = 15 →
    exec (.registerWrite 2 (16 * r) w) s = .next (s.cmdPi w.fn r (w.v.toNat % 65536) [])) ∧
  (∀ (s : State) (d : List (Nat × Byte)), (s.func 0).held = none → s.shut 0x1000000 = false →
    (∀ x ∈ d, 0x1000000 ≤ x.1 ∧ x.1 < 0x4000000) → (∀ x ∈ d, ∀ o ∈ [x.1, x.1 / 4 * 4], (s.tabHit o).writable = true ∧ s.hitBusy (s.tabHit o) = none) →
    exec (.tableApertureWrite 0 d) s = .next (d.foldl (fun (t : State) x =>
      t.hitPut (t.tabHit x.1) (255 * 256 ^ (x.1 % 4)) (x.2.toNat * 256 ^ (x.1 % 4))) s)) ∧
  (∀ (s : State) (fn bar off : Nat), (s.func fn).held = none → s.reservedAt fn bar (off / 4 * 4) true = true →
    exec (.reservedAccess fn bar off true) s = .next (s.reservedHit fn bar (off / 4 * 4) true)) ∧
  (∀ (s : State) (fn bar off : Nat), (s.func fn).held = none → s.reservedAt fn bar (off / 4 * 4) false = true →
    exec (.reservedAccess fn bar off false) s = .next ((s.reservedHit fn bar (off / 4 * 4) false).emit
      (.readDone fn (off / 4 * 4) (List.replicate 4 0#8)))) ∧
  (∀ (s : State) (fn bar off len : Nat) (write : Bool), (s.func fn).held = none → 64 < len →
    (bar = 2 ∨ (bar = 0 ∧ off < 0x1000000)) →
    exec (.oversizeRequest fn bar off len write) s = .next ((s.widthHit fn bar off write).emit (.completerAbort fn))) ∧
  (∀ (s : State) (fn addr : Nat), (s.func fn).held = none → exec (.atomicOpRequest fn addr) s = .next (s.emit (.unsupported fn))) ∧
  (∀ (s : State) (fn off : Nat), (s.func fn).held = none → s.reaches fn off false = true → isPairLo (s.keyOf0 fn off) = true →
    ∃ t, exec (.pairLoRead fn off) s = .next t ∧ t.out = .readDone fn off (leBytes 4 (s.peek fn off).1) :: ((s.peek fn off).2.peek fn (off + 4)).2.out ∧
      (t.func fn).latch = some (off, w32 ((s.peek fn off).2.peek fn (off + 4)).1)) ∧
  (∀ (s : State) (off : Nat) (w : Wr), (s.func w.fn).held = none → s.reaches w.fn off true = true → isPairLo off = true →
    isPairLo (s.keyOf0 w.fn off) = true → vfWrites w.fn off = true → w.mask ≠ 0 →
    exec (.pairLoWrite off w) s = .next (s.setFunc w.fn { s.func w.fn with
      held := some (off, w32 (merged (((regOfKey off).map s.rn).getD 0) w)) })) ∧
  (∀ (s : State) (off : Nat) (v : Word) (w : Wr), 4 ≤ off → isPairLo (s.keyOf0 w.fn (off - 4)) = true →
    (s.func w.fn).held = some (off - 4, v) → s.reaches w.fn off true = true → vfWrites w.fn off = true →
    (s.setFunc w.fn { s.func w.fn with held := none }).pairShut off = false →
    exec (.pairHiWrite off w) s = .next (((s.setFunc w.fn { s.func w.fn with held := none }).pairHalf (off - 4) ⟨w.fn, 15, v⟩).pairHalf
      off w)) ∧
  (∀ (s : State) (v hi : Word), (s.func 0).held = some (0x30040, v) → s.isSet SYS_START_READY = true →
    s.isSet TB_ADJ_CTL_GO = false →
    exec (.pairHiWrite 0x30044 ⟨0, 15, hi⟩) s =
      .next (((s.setFunc 0 { s.func 0 with held := none }).wr TB_ADJ_RATE_LO v).wr TB_ADJ_RATE_HI hi))

/-- Rows 9 to 19, the Meridian clock and its adjustments: the first lock starts the free count, a slip of the phase shows COARSE, the fold
adds the ageing through its fraction, a read latches time, and each adjustment takes effect with Meridian time continuous but for a
step (R45, R47, R51, R53, R55, R58, R60, R61, R68). -/
def Obligations.TimeBaseCommandsComplete : Prop :=
  (∀ (s : State), s.tb.locked = false → s.porLow = false → s.start.aonLow = false →
    exec .phasePllFirstLock s = .next (((s.put CLK_STAT_XO_OK 1).clockStart).raise evCLK_PHASE_LOCKED)) ∧
  (∀ (s : State), s.tb.locked = true → s.isSet TB_STATUS_COARSE = false →
    exec .phaseUnlock s = .next (((s.put TB_STATUS_COARSE 1).put TB_STATUS_COARSE_SEEN 1).raise evTB_PHASE_UNLOCK)) ∧
  (∀ (s : State), exec .phaseRelock s = .next (s.put TB_STATUS_COARSE 0)) ∧
  (∀ (s : State), s.tb.locked = true → s.tb.nextFold ≤ s.tb.fc → s.tb.foldHeld (ageDelta (sext 32 (s.rn TB_AGE))) = true →
    exec .ageingFold s = .next { s with tb := { s.tb with folds := s.tb.folds + 1 } }) ∧
  (∀ (s : State), s.tb.locked = true → s.tb.nextFold ≤ s.tb.fc → s.tb.foldHeld (ageDelta (sext 32 (s.rn TB_AGE))) = false →
    ∃ t, exec .ageingFold s = .next t ∧ t.tb.folds = s.tb.folds + 1 ∧ t.tb.fc = s.tb.fc ∧
      t.tb.mtAt s.tb.nextFold = s.tb.mtAt s.tb.nextFold ∧
      (t.tb.ageFrac : Int) = (s.tb.ageFrac + ageDelta (sext 32 (s.rn TB_AGE))) % 2 ^ 32 ∧
      t.tb.rate = max (-rateLimit) (min rateLimit (s.tb.rate + (s.tb.ageFrac + ageDelta (sext 32 (s.rn TB_AGE))) / 2 ^ 32))) ∧
  (∀ (s : State) (fn : Nat), s.shut 0x30010 = false → (s.func fn).held = none →
    exec (.tbNowFracRead fn) s = .next ((((((s.wn (TB_NOW_FRAC fn) (mtParts s.mt).2.2).wn (TB_NOW_NS fn) (mtParts s.mt).2.1).wn
      (TB_NOW_SEC_LO fn) (mtParts s.mt).1).wn (TB_NOW_SEC_HI fn) ((mtParts s.mt).1 / 2 ^ 32 + 65536 * s.tstate)).wr64 (TB_NOW_FC_LO fn)
      (TB_NOW_FC_HI fn) (s.tb.fc % 2 ^ 64)).emit (.readDone fn 0x30010 (leBytes 4 (mtParts s.mt).2.2)))) ∧
  (∀ (s v : State) (w : Wr), s.Opens w 0x30054 → s.isSet TB_ADJ_CTL_GO = false → w.hits 0 = true → v = (s.mergeRaw 0x30054 w).foldDue →
    v.adjOps = ⟨true, false, false, false, false⟩ →
    v.adjCheck ⟨true, false, false, false, false⟩ (sext 64 (s.rd64 TB_ADJ_RATE_LO TB_ADJ_RATE_HI)) (sext 64 (s.rd64
      TB_ADJ_AMT_LO TB_ADJ_AMT_HI)) (s.rn TB_ADJ_SLEW) = 0 →
    ∃ t, exec (.adjRateChange w) s = .next t ∧ t.tb.rate = sext 64 (s.rd64 TB_ADJ_RATE_LO TB_ADJ_RATE_HI) ∧ t.mt = v.mt ∧
      t.get TB_ADJ_STAT_CODE = 0 ∧ t.get TB_ADJ_CTL_GO = 0) ∧
  (∀ (s v : State) (w : Wr), s.Opens w 0x30054 → s.isSet TB_ADJ_CTL_GO = false → w.hits 0 = true → v = (s.mergeRaw 0x30054 w).foldDue →
    v.adjOps = ⟨false, true, false, false, false⟩ →
    v.adjCheck ⟨false, true, false, false, false⟩ (sext 64 (s.rd64 TB_ADJ_RATE_LO TB_ADJ_RATE_HI)) (sext 64 (s.rd64
      TB_ADJ_AMT_LO TB_ADJ_AMT_HI)) (s.rn TB_ADJ_SLEW) = 0 → sext 64 (s.rd64 TB_ADJ_AMT_LO TB_ADJ_AMT_HI) ≠ 0 →
    ∃ t, exec (.adjSlewStart w) s = .next t ∧ t.tb.slew = some ⟨sext 64 (s.rd64 TB_ADJ_AMT_LO TB_ADJ_AMT_HI), s.rn TB_ADJ_SLEW,
      sext 64 (s.rd64 TB_ADJ_AMT_LO TB_ADJ_AMT_HI), true⟩ ∧ t.mt = v.mt ∧ t.get TB_STATUS_SLEWING = 1 ∧ t.get TB_ADJ_STAT_CODE = 0 ∧
      t.get TB_ADJ_CTL_GO = 0) ∧
  (∀ (s v : State) (w : Wr), s.Opens w 0x30054 → s.isSet TB_ADJ_CTL_GO = false → w.hits 0 = true → v = (s.mergeRaw 0x30054 w).foldDue →
    v.adjOps = ⟨false, true, false, false, false⟩ →
    v.adjCheck ⟨false, true, false, false, false⟩ (sext 64 (s.rd64 TB_ADJ_RATE_LO TB_ADJ_RATE_HI)) 0
      (s.rn TB_ADJ_SLEW) = 0 → sext 64 (s.rd64 TB_ADJ_AMT_LO TB_ADJ_AMT_HI) = 0 →
    ∃ t, exec (.adjSlewStart w) s = .next t ∧ t.tb.slew = none ∧ t.mt = v.mt ∧ t.get TB_ADJ_STAT_CODE = 0) ∧
  (∀ (s v : State) (w : Wr), s.Opens w 0x30054 → s.isSet TB_ADJ_CTL_GO = false → w.hits 0 = true → v = (s.mergeRaw 0x30054 w).foldDue →
    v.adjOps = ⟨false, false, true, false, false⟩ →
    v.adjCheck ⟨false, false, true, false, false⟩ (sext 64 (s.rd64 TB_ADJ_RATE_LO TB_ADJ_RATE_HI)) (sext 64 (s.rd64
      TB_ADJ_AMT_LO TB_ADJ_AMT_HI)) (s.rn TB_ADJ_SLEW) = 0 →
    ∃ t, exec (.adjStep w) s = .next t ∧ t.mt = v.mt + sext 64 (s.rd64 TB_ADJ_AMT_LO TB_ADJ_AMT_HI) ∧ t.tb.rate = v.tb.rate ∧
      t.tb.fc = s.tb.fc ∧ t.get TB_ADJ_STAT_CODE = 0 ∧ t.get TB_ADJ_CTL_GO = 0) ∧
  (∀ (s v : State) (w : Wr) (x : Slew), s.Opens w 0x30054 → s.isSet TB_ADJ_CTL_GO = false → w.hits 0 = true → v = (s.mergeRaw 0x30054 w).foldDue →
    v.adjOps = ⟨false, false, false, true, false⟩ → s.get TB_DISC_SRC ≠ 1 → s.get TB_DISC_SRC ≠ 2 → v.tb.slew = some x →
    ∃ t, exec (.adjAbort w) s = .next t ∧ t.tb.slew = none ∧ t.mt = v.mt ∧ t.get TB_STATUS_SLEWING = 0 ∧ t.get TB_ADJ_STAT_CODE = 0) ∧
  (∀ (s v : State) (w : Wr), s.Opens w 0x30054 → s.isSet TB_ADJ_CTL_GO = false → w.hits 0 = true → v = (s.mergeRaw 0x30054 w).foldDue →
    v.adjOps = ⟨false, false, false, false, true⟩ → s.get TB_DISC_SRC = 3 →
    ∃ t, exec (.adjTrace w) s = .next t ∧ t.tstate = 1 ∧ t.tb.lastTrace = v.mt ∧ t.get TB_STATUS_SRC_ACT = 3 ∧ t.get TB_ADJ_STAT_CODE = 0) ∧
  (∀ (s v : State) (x : Slew), v = s.foldDue → v.tb.slew = some x → v.tb.slewReached x = true →
    ∃ t, exec .slewDone s = .next t ∧ t.tb.slew = none ∧
      t.mt = v.tb.offset + elapsed (v.tb.fc - v.tb.anchor) v.tb.rate 0 + x.left ∧ t.tb.rate = v.tb.rate)

/-- Rows 20 to 30, the discipline of the time base: a declared or actual change of source leaves TRACED for HOLDOVER, a qualified source makes
the status TRACED, edges of PPS_IN are judged, the servo corrects within its limits, losses and limits are reported, and a stamp is
popped (R62 to R66, R69, R70, R72, R74, R75, R81). -/
def Obligations.DisciplineCommandsComplete : Prop :=
  (∀ (s : State) (w : Wr), s.Opens w 0x30004 → w.hits 15 = true → s.get TB_DISC_SRC = 3 → (s.mergeRaw 0x30004 w).get TB_DISC_SRC = 3 →
    exec (.srcChangeDeclare w) s = .next (((s.mergeRaw 0x30004 w).raise evTB_SRC_CHANGED).toHoldover)) ∧
  (∀ (s : State) (w : Wr), s.Opens w 0x30004 → w.hits 15 = false → (s.mergeRaw 0x30004 w).get TB_DISC_SRC ≠ s.get TB_DISC_SRC →
    ∃ t, exec (.changeOfSource w) s = .next t ∧ t = ((s.mergeRaw 0x30004 w).changeSource (s.get TB_DISC_SRC)) ∧ t.get TB_STATUS_SRC_ACT = (s.mergeRaw 0x30004 w).get TB_DISC_SRC ∧
      t.get TB_STATUS_PPS_OK = 0 ∧ (s.tstate = 1 → t.tstate = 2) ∧ (s.tstate ≠ 1 → t.tstate = s.tstate)) ∧
  (∀ (s u : State) (i : Nat) (m : Int), s.awake 93 = true → m = s.captureMt (s.coreOf 8) 2 i → u = s.freqEdge 0x10 m (s.isSet TB_STATUS_COARSE) →
    u.get TB_DISC_SRC = 1 → u.ppsExpected m = true →
    exec (.ppsInEdge i) s = .next ((({ u with tb := { u.tb with ppsLast := some m, ppsOff := 0 } } : State).put TB_STATUS_PPS_OK 1).measurePhase
      (secondError (m + sext 32 (u.rn TB_PPS_DELAY))))) ∧
  (∀ (s u : State) (i : Nat) (m : Int), s.awake 93 = true → m = s.captureMt (s.coreOf 8) 2 i → u = s.freqEdge 0x10 m (s.isSet TB_STATUS_COARSE) →
    u.get TB_DISC_SRC = 1 → u.ppsExpected m = false → u.tb.ppsOff = 0 →
    exec (.ppsInEdge i) s = .next (({ u with tb := { u.tb with ppsOff := 1, ppsOffLast := m } } : State).raise evTB_PPS_STRAY)) ∧
  (∀ (s u : State) (i : Nat) (m : Int), s.awake 93 = true → m = s.captureMt (s.coreOf 8) 2 i → u = s.freqEdge 0x10 m (s.isSet TB_STATUS_COARSE) →
    u.get TB_DISC_SRC = 1 → u.ppsExpected m = false → u.tb.ppsOff = 2 → secondsApart 1 u.tb.ppsOffLast m = true →
    exec (.ppsInEdge i) s = .next ((({ u with tb := { u.tb with ppsLast := some m, ppsOff := 0, qualRun := 0 } } : State).raise
      evTB_SRC_CHANGED).toHoldover)) ∧
  (∀ (s : State) (i : Nat), s.awake 93 = true →
    (s.freqEdge 0x10 (s.captureMt (s.coreOf 8) 2 i) (s.isSet TB_STATUS_COARSE)).get TB_DISC_SRC ≠ 1 →
    exec (.ppsInEdge i) s = .next (s.freqEdge 0x10 (s.captureMt (s.coreOf 8) 2 i) (s.isSet TB_STATUS_COARSE))) ∧
  (∀ (s : State) (i : Nat), s.awake 93 = false → exec (.ppsInEdge i) s = .next s) ∧
  (∀ (s : State), s.get TB_DISC_SRC ≠ 0 → s.srcServed = true → s.get TB_QUAL_COUNT ≤ s.tb.qualRun → s.tstate ≠ 1 →
    ∃ t, exec .sourceQualified s = .next t ∧ t = s.toTraced ∧ t.tstate = 1 ∧
      t.get TB_STATUS_SRC_ACT = s.get TB_DISC_SRC ∧ t.tb.lastTrace = s.mt) ∧
  (∀ (s : State) (p : Int), s.get TB_DISC_SRC = 1 → s.isSet TB_STATUS_PPS_OK = true → s.tb.ppsLast = some p →
    p + ((2 * mtSec + 100 * mtUs : Nat) : Int) ≤ s.mt →
    exec .ppsLost s = .next ((s.put TB_STATUS_PPS_OK 0).toHoldover)) ∧
  (∀ (s : State), s.isSet TB_STATUS_REF10M_OK = true →
    exec .ref10mLost s = .next ((({ s with tb := { s.tb with ref10mRun := 0 } } : State).put TB_STATUS_REF10M_OK 0).raise evTB_REF10M_LOST)) ∧
  (∀ (s : State), exec .ref10mReturn s = .next (({ s with tb := { s.tb with ref10mRun := 1000 } } : State).put TB_STATUS_REF10M_OK 1)) ∧
  (∀ (s v : State) (a : Int) (p : Nat), v = s.foldDue → (v.get TB_DISC_SRC = 1 ∨ v.get TB_DISC_SRC = 2) → v.get SYS_BOOT_FW = 2 → v.tb.slew = none →
    1 ≤ p → p ≤ 10000 → p ≤ v.get TB_QUAL_SLEW_MAX * 100 → a.natAbs ≤ mtMs → corrects (v.tb.phaseErr.getD 0) a = true →
    ∃ t, exec (.servoCorrection (.slew a p)) s = .next t ∧ t.tb.slew = some ⟨a, p, a, true⟩ ∧ t.mt = v.mt ∧ t.get TB_STATUS_SLEWING = 1 ∧
      t.tb.phaseErr = v.tb.phaseErr.map (fun e => e + a)) ∧
  (∀ (s v : State) (r : Int) (b : Bool), v = s.foldDue → (v.get TB_DISC_SRC = 1 ∧ b = v.ref10mUsed ∨ v.get TB_DISC_SRC = 2) → v.get SYS_BOOT_FW = 2 →
    -rateLimit ≤ r → r ≤ rateLimit →
    ∃ t, exec (.servoCorrection (.rate r b)) s = .next t ∧ t.tb.rate = r ∧ t.mt = v.mt) ∧
  (∀ (s v : State) (a : Int), v = s.foldDue → (v.get TB_DISC_SRC = 1 ∨ v.get TB_DISC_SRC = 2) → v.get SYS_BOOT_FW = 2 → v.anyBound = false →
    mtUs < (v.tb.phaseErr.getD 0).natAbs → corrects (v.tb.phaseErr.getD 0) a = true → v.tb.slew = none → 0 ≤ v.mt + a →
    v.mt + a < ((2 ^ 48 * mtSec : Nat) : Int) →
    ∃ t, exec (.servoCorrection (.step a)) s = .next t ∧ t.mt = v.mt + a ∧ t.tb.rate = v.tb.rate ∧
      t.tb.phaseErr = v.tb.phaseErr.map (fun e => e + a)) ∧
  (∀ (s : State), s.get TB_DISC_SRC = 3 → s.tstate = 1 → s.tb.lastTrace + ((s.get TB_DISC_HOST_TIMEOUT * mtMs : Nat) : Int) ≤ s.mt →
    ∃ t, exec .hostTraceTimeout s = .next t ∧ t = s.toHoldover ∧ t.tstate = 2 ∧ t.tb.holdTrace = s.tb.lastTrace) ∧
  (∀ (s : State), s.tstate = 2 → s.rn TB_HOLD_LIMIT ≠ 0 → s.tb.holdActed = false → s.rn TB_HOLD_LIMIT * 1000000 ≤ s.holdUs →
    exec .holdoverLimit s = .next ((({ s with tb := { s.tb with holdActed := true } } : State).put TB_STATUS_HOLD_LIMIT 1).raise
      evTB_HOLDOVER_LIMIT)) ∧
  (∀ (s : State) (m : Nat) (x : TxStamp) (r : List TxStamp), s.shut 0x30100 = false → (s.func 0).held = none → mapGet [] m s.txts = x :: r →
    exec (.tbTxtsPop 0 m) s = .next (s.popStamp 0 m)) ∧
  (∀ (s : State) (m : Nat), s.shut 0x30100 = false → (s.func 0).held = none → mapGet [] m s.txts = [] →
    exec (.tbTxtsPop 0 m) s = .next { s with popWait := s.popWait ++ [⟨m, 0, s.tb.fc⟩] })

/-- Rows 31 to 40, time-interval measurement: an accepted edge is tagged with its Meridian time and counted; a tag is popped; calibration
runs start, end and grow stale; a spare core takes over a logical core; a gate ends with its counts; a tap is lost (R123, R124, R126,
R128, R130 to R134, R136, R384). -/
def Obligations.TimeIntervalCommandsComplete : Prop :=
  (∀ (s : State) (n i : Nat) (rising : Bool) (cfg p pos : Nat) (m : Int), cfg = s.edgeCfg n → p = s.coreOf n →
    pos = s.tb.fc * 131072 + 5 * s.binCentre p i → m = s.captureMt p 0 i - sext 32 (s.rn (TIM_EDGE_DELAY n)) →
    bit cfg 0 = true → bits cfg 3 2 ≠ 0 → s.awake 93 = true →
    (∀ q, (mapGet {} n s.edges).last = some q → 8 * 131072 ≤ pos - q ∧ (mapGet {} n s.edges).hold * 131072 ≤ pos - q) →
    bit (bits cfg 5 4) (if rising then 0 else 1) = true →
    exec (.edgeCapture n i rising) s = .next (((({ s with
      edges := mapPut {} n { mapGet {} n s.edges with last := some pos, hold := bits cfg 31 16 } s.edges } : State).edgeTag n
        ⟨b2n rising * 2 ^ 30 + b2n (s.isSet TB_STATUS_COARSE) * 2 ^ 29 + s.get (TIM_CORE_STAT_FAILING p) * 2 ^ 28
          + s.get (TIM_CORE_STAT_CAL_STALE p) * 2 ^ 27 + s.get (TIM_CORE_STAT_CALGEN p) * 2 ^ 26 + s.tstate * 2 ^ 24, m⟩).freqEdge n m
      (s.isSet TB_STATUS_COARSE)).offerTrig n m (s.isSet TB_STATUS_COARSE))) ∧
  (∀ (s : State) (n i : Nat) (rising : Bool) (q pos : Nat), pos = s.tb.fc * 131072 + 5 * s.binCentre (s.coreOf n) i →
    bit (s.edgeCfg n) 0 = true → bits (s.edgeCfg n) 3 2 ≠ 0 → s.awake 93 = true → (mapGet {} n s.edges).last = some q →
    8 * 131072 ≤ pos - q → pos - q < (mapGet {} n s.edges).hold * 131072 →
    exec (.edgeCapture n i rising) s = .next (s.bump (TIM_EDGE_HOLD n))) ∧
  (∀ (s : State) (n : Nat) (x : EdgeTag) (r : List EdgeTag), s.shut 0x40400 = false → (s.func 0).held = none → mapGet [] n s.tagQ = x :: r →
    exec (.timTagPop 0 n) s = .next (((({ s with tagQ := mapPut [] n r s.tagQ } : State).latchWords (TIM_TAG_W n) x.mt 0)).emit
      (.readDone 0 (0x40400 + 16 * n) (leBytes 4 (x.head + (mtParts x.mt).2.2))))) ∧
  (∀ (s u : State) (w : Wr), s.Opens w 0x40000 → w.hits 15 = true → bits (merged (s.rn TIM_CAL_CTL) w) 4 0 < 17 →
    u = (if (s.mergeRaw 0x40000 w).get TIM_CAL_CTL_PERIOD = s.get TIM_CAL_CTL_PERIOD then s.mergeRaw 0x40000 w
      else { s.mergeRaw 0x40000 w with timCal := s.mt }) → u.awake 93 = true →
    exec (.timCalStart w) s = .next ((u.coresStart (bits (merged (s.rn TIM_CAL_CTL) w) 4 0) true).put TIM_CAL_CTL_START
      (b2n (u.coresStart (bits (merged (s.rn TIM_CAL_CTL) w) 4 0) true).ctlRuns))) ∧
  (∀ (s : State) (p : Nat) (w : Wr), s.Opens w (0x40100 + 4 * p) → w.hits 15 = true → s.awake 93 = true → s.isSet (TIM_CORE_STAT_RUNNING p) = false →
    exec (.timCoreStart p w) s = .next ((({ s with tdc := mapPut {} p { mapGet {} p s.tdc with byCtl := false } s.tdc } : State).put
      (TIM_CORE_STAT_RUNNING p) 1).put (TIM_CORE_STAT_START p) 1)) ∧
  (∀ (s : State), s.get TIM_CAL_CTL_PERIOD ≠ 0 → s.awake 93 = true → s.timCal + ((s.get TIM_CAL_CTL_PERIOD * mtSec : Nat) : Int) ≤ s.mt →
    exec .timCalPeriodic s = .next (({ s with timCal := s.timCal + ((s.get TIM_CAL_CTL_PERIOD * mtSec : Nat) : Int) } : State).coresStart
      (s.get TIM_CAL_CTL_CORE) false)) ∧
  (∀ (s : State), (s.get TIM_CAL_CTL_PERIOD = 0 ∨ s.mt < s.timCal + ((s.get TIM_CAL_CTL_PERIOD * mtSec : Nat) : Int)) →
    exec .timCalPeriodic s = .next s) ∧
  (∀ (s : State) (p : Nat) (c : List Nat) (temp : Int), s.isSet (TIM_CORE_STAT_RUNNING p) = true → c.length = 64 →
    (∀ h ∈ c, 4096 ≤ h ∧ h ≤ 65536) →
    ∃ t, exec (.timCalRunEnd p c temp) s = .next t ∧ (mapGet {} p t.tdc).centres = binCentres 0 c ∧
      t.get (TIM_CORE_STAT_RUNNING p) = 0 ∧ t.get (TIM_CORE_STAT_CAL_STALE p) = 0 ∧
      t.get (TIM_CORE_STAT_CALGEN p) = 1 - s.get (TIM_CORE_STAT_CALGEN p) ∧ t.get (TIM_CORE_STAT_CAL_TEMP p) = toBits 8 temp) ∧
  (∀ (s : State) (p : Nat) (c : List Nat) (temp : Int), p < 18 → s.isSet (TIM_CORE_STAT_RUNNING p) = true → (∃ h ∈ c, h < 4096 ∨ 65536 < h) →
    ∃ t, exec (.timCalRunEnd p c temp) s = .next t ∧ (mapGet {} p t.tdc).centres = (mapGet {} p s.tdc).centres ∧
      t.get (TIM_CORE_STAT_FAILING p) = 1) ∧
  (∀ (s : State) (p : Nat) (temp : Int), (mapGet {} p s.tdc).centres ≠ [] → (mapGet {} p s.tdc).drifted = false →
    5 < (temp - sext 8 (s.get (TIM_CORE_STAT_CAL_TEMP p))).natAbs →
    exec (.timCalStale p temp) s = .next (((({ s with tdc := mapPut {} p { mapGet {} p s.tdc with drifted := true } s.tdc } : State).put
      (TIM_CORE_STAT_CAL_STALE p) 1)).raise evTIM_CAL_STALE p)) ∧
  (∀ (s : State) (p : Nat) (temp : Int), (mapGet {} p s.tdc).centres ≠ [] → (mapGet {} p s.tdc).drifted = true →
    (temp - sext 8 (s.get (TIM_CORE_STAT_CAL_TEMP p))).natAbs ≤ 5 →
    exec (.timCalStale p temp) s = .next (({ s with tdc := mapPut {} p { mapGet {} p s.tdc with drifted := false } s.tdc } : State).put
      (TIM_CORE_STAT_CAL_STALE p) 0)) ∧
  (∀ (s : State) (n : Nat) (x : TdcSwitch), s.tdcSwitches.find? (fun y => y.logical == n) = some x → s.isSet (TIM_CORE_STAT_RUNNING x.spare) = false →
    s.isSet (TIM_CORE_STAT_FAILING x.spare) = false → x.byPolicy = false →
    exec (.tdcSpareSwitch n) s = .next (((({ s with tdcSwitches := s.tdcSwitches.filter (fun y => y.logical != n) } : State).put
      (TIM_CORE_STAT_LOGICAL (s.coreOf n)) 31).put (TIM_CORE_STAT_LOGICAL x.spare) n).useSpare 9 (s.coreOf n))) ∧
  (∀ (s : State) (k : Nat) (r : RefEdges) (g x : FreqGate), s.freqs.find? (fun e => e.1 == k) = some (k, g) →
    g.start + ((g.gate * mtUs : Nat) : Int) ≤ s.mt → x = s.refEdges g r → 2 ≤ x.n → x.first < x.last →
    exec (.freqGateEnd ⟨k, r⟩) s = .next ((((((((s.wn (TIM_FREQ_N k) x.n).wr64 (TIM_FREQ_I_LO k) (TIM_FREQ_I_HI k) (x.last - x.first).toNat).wr64
      (TIM_FREQ_F_LO k) (TIM_FREQ_F_HI k) (divRound (((x.n - 1) * 2 ^ 24 * mtSec : Nat) : Int) (x.last - x.first).toNat).toNat).put
      (TIM_FREQ_ST_STATE k) s.tstate).put (TIM_FREQ_ST_COARSE k) (b2n x.coarse)).put (TIM_FREQ_ST_NOSIG k) 0).put (TIM_FREQ_ST_SEQ k)
      ((s.get (TIM_FREQ_ST_SEQ k)) + 1)).gateStart k (x.start + ((x.gate * mtUs : Nat) : Int)) (some (x.last, x.lastCo)))) ∧
  (∀ (s : State) (k : Nat) (r : RefEdges) (g : FreqGate), s.freqs.find? (fun e => e.1 == k) = some (k, g) →
    g.start + ((g.gate * mtUs : Nat) : Int) ≤ s.mt → (s.refEdges g r).n < 2 →
    ∃ t, exec (.freqGateEnd ⟨k, r⟩) s = .next t ∧ t.get (TIM_FREQ_ST_NOSIG k) = 1 ∧ t.rn (TIM_FREQ_N k) = (s.refEdges g r).n ∧
      t.rd64 (TIM_FREQ_I_LO k) (TIM_FREQ_I_HI k) = 0 ∧ t.rd64 (TIM_FREQ_F_LO k) (TIM_FREQ_F_HI k) = 0) ∧
  (∀ (s : State) (g : Nat), s.isSet (CNV_GRP_STAT_RUNNING (g / 3) (g % 3)) = true → s.awake g = true → s.cgLost.contains g = false →
    exec (.cgLost g) s = .next (({ s with cgLost := g :: s.cgLost } : State).raise evTIM_CG_LOST g))

/-- Rows 41 to 54, the wideband converters: the reference settles, a mode is applied, PLLs lock and unlock, locked mode is reached and lost,
survey steps and slice monitors are judged, enables change and die links fail and return (R144 to R147, R152, R156 to R159, R161, R214). -/
def Obligations.ConverterCommandsComplete : Prop :=
  (∀ (s : State) (g : Nat) (w : Wr), s.Opens w (gCtl g).key → g < 24 → w.reaches 1 1 = true → w.hits 0 = false → s.awake g = true →
    (s.grp g).refOn = false → bit ((s.mergeRaw (gCtl g).key w).rn (gCtl g)) 1 = true →
    bit ((s.mergeRaw (gCtl g).key w).rn (gCtl g)) 4 = bit (s.rn (gCtl g)) 4 →
    ∃ t, exec (.refEnWrite g w) s = .next t ∧ (t.grp g).refOn = true ∧ (t.grp g).refAt = s.mt) ∧
  (∀ (s : State) (g : Nat) (w : Wr), s.Opens w (gCtl g).key → g < 24 → w.hits 0 = false → s.grpRun g = true → bit (s.rn (gCtl g)) 1 = true →
    bit ((s.mergeRaw (gCtl g).key w).rn (gCtl g)) 1 = false →
    bit ((s.mergeRaw (gCtl g).key w).rn (gCtl g)) 4 = bit (s.rn (gCtl g)) 4 →
    ∃ t, exec (.refEnWrite g w) s = .next t ∧ t.grp g = s.grp g ∧ bit (t.rn (gCtl g)) 1 = true) ∧
  (∀ (s : State) (g : Nat), (s.grp g).refOn = true → s.awake g = true → (s.grp g).refAt + ((2 * mtMs : Nat) : Int) ≤ s.mt →
    exec (.cnvRefOk g) s = .next (s.put (CNV_GRP_STAT_REF_OK (g / 3) (g % 3)) 1)) ∧
  (∀ (s : State) (g : Nat) (w : Wr), s.Opens w (gCtl g).key → w.hits 0 = true →
    bit ((s.mergeRaw (gCtl g).key w).rn (gCtl g)) 1 = ((s.mergeRaw (gCtl g).key w).grp g).refOn →
    (s.grpRun g && bit (s.rn (gCtl g)) 1 && !bit ((s.mergeRaw (gCtl g).key w).rn (gCtl g)) 1) = false →
    bit (s.rn (gCtl g)) 4 = bit ((s.mergeRaw (gCtl g).key w).rn (gCtl g)) 4 → (s.mergeRaw (gCtl g).key w).applyCheck g = 0 →
    exec (.cnvApply g w) s = .next (((s.mergeRaw (gCtl g).key w).applyMode g).put (CNV_GRP_STAT_CODE (g / 3) (g % 3)) 0)) ∧
  (∀ (s : State) (g : Nat), s.get (CNV_GRP_STAT_RUNNING (g / 3) (g % 3)) = 1 → s.get (CNV_GRP_STAT_PLL_LOCK (g / 3) (g % 3)) = 0 →
    s.awake g = true →
    exec (.cnvPllLocked g) s = .next ((s.put (CNV_GRP_STAT_PLL_LOCK (g / 3) (g % 3)) 1).samplesBack g)) ∧
  (∀ (s : State) (g : Nat), s.get (CNV_GRP_STAT_RUNNING (g / 3) (g % 3)) = 1 → s.get (CNV_GRP_STAT_PLL_LOCK (g / 3) (g % 3)) = 1 →
    exec (.pllUnlock g) s = .next (((s.raise (evCNV_PLL_UNLOCK g) g).put (CNV_GRP_STAT_PLL_LOCK (g / 3) (g % 3)) 0).samplesStop g)) ∧
  (∀ (s : State) (g : Nat), s.get (CNV_GRP_STAT_RUNNING (g / 3) (g % 3)) = 1 → s.get (CNV_GRP_STAT_PLL_LOCK (g / 3) (g % 3)) = 0 →
    s.awake g = true →
    exec (.pllRelock g) s = .next ((s.put (CNV_GRP_STAT_PLL_LOCK (g / 3) (g % 3)) 1).samplesBack g)) ∧
  (∀ (s : State) (g : Nat), s.grpRun g = true → s.grpLocked g = true → s.get (CNV_GRP_STAT_PLL_LOCK (g / 3) (g % 3)) = 1 →
    s.get (CNV_GRP_STAT_LOCKED (g / 3) (g % 3)) = 0 → lockHolds (s.grp g).lockTags = true →
    exec (.cnvLocked g) s = .next (((s.setGrp g { s.grp g with lockMean := divRound ((s.grp g).lockTags.foldl (fun a o => a + o) 0) 1000, lockBad := 0
      }).put (CNV_GRP_STAT_LOCKED (g / 3) (g % 3)) 1).raise (evCNV_LOCKED g) g)) ∧
  (∀ (s : State) (g : Nat), s.get (CNV_GRP_STAT_LOCKED (g / 3) (g % 3)) = 1 → 3 ≤ (s.grp g).lockBad →
    exec (.lockLost g) s = .next ((((((s.put (CNV_GRP_STAT_LOCKED (g / 3) (g % 3)) 0).put (CNV_GRP_STAT_LOCK_LOST (g / 3) (g % 3)) 1).raise
      (evCNV_LOCK_LOST g) g).unfix g).followGroup g))) ∧
  (∀ (s u v : State) (g i : Nat) (r : StepRes), (s.grp g).flowing = true → s.awake g = true →
    (s.grp g).stepAt + (((s.grp g).dwell * mtMs : Nat) : Int) ≤ s.mt → i = 32 * g → s.sub (iStat i) 21 20 = 1 → (s.inp i).fresh = false →
    u = s.writeTrims i (s.sub (iStat i) 31 27) r →
    v = (if stepAccepted r then u.stepDone i r
      else (u.sliceFail i (s.sub (iStat i) 31 27)).offlineFail i (s.sub (iStat i) 31 27) (u.armed 0) true).stepStart g →
    ((v.answerSteps g [r] (fun k => s.sub (iStat k) 21 20 == 1 && !(s.inp k).fresh)).grp g).surveyStop = false →
    exec (.surveyStepEnd g [r]) s = .next (v.answerSteps g [r] (fun k => s.sub (iStat k) 21 20 == 1 && !(s.inp k).fresh))) ∧
  (∀ (s : State) (i sl : Nat) (mean power : Int) (loud stuck : Bool), 1600 < mean.natAbs ∨ (300 < power.natAbs ∧ loud = true) ∨ stuck = true →
    s.sub (iTrim i sl) 31 29 = 0 → (s.grp (inputGroup i)).flowing = true → s.sub (iStat i) 16 16 = 1 → s.sub (iStat i) 18 18 = 0 →
    exec (.sliceMonitorWindow i sl mean power loud stuck) s = .next ((s.sliceFail i sl).inServiceFail i sl (s.armed 0) true)) ∧
  (∀ (s : State) (g : Nat) (w : Wr), s.Opens w (gCtl g).key → g < 24 → w.hits 0 = false → w.reaches 1 1 = true →
    bit ((s.mergeRaw (gCtl g).key w).rn (gCtl g)) 1 = ((s.mergeRaw (gCtl g).key w).grp g).refOn →
    (s.grpRun g && bit (s.rn (gCtl g)) 1 && !bit ((s.mergeRaw (gCtl g).key w).rn (gCtl g)) 1) = false →
    bit (s.rn (gCtl g)) 4 = true → bit ((s.mergeRaw (gCtl g).key w).rn (gCtl g)) 4 = false →
    exec (.surveyEnWrite g w) s = .next ((s.mergeRaw (gCtl g).key w).setGrp g { (s.mergeRaw (gCtl g).key w).grp g with surveyStop := true })) ∧
  (∀ (s : State) (i : Nat) (w : Wr), s.Opens w (CNV_IN_CTL (i / 96) (i % 96)).key → w.reaches 0 0 = true → (s.mergeRaw (CNV_IN_CTL (i / 96) (i % 96)).key
    w).governSlot i = none →
    exec (.cnvInEnWrite i w) s = .next (((s.mergeRaw (CNV_IN_CTL (i / 96) (i % 96)).key w).fwr (CNV_IN_CTL (i / 96) (i % 96)) (w32
      ((s.mergeRaw (CNV_IN_CTL (i / 96) (i % 96)).key w).sub (CNV_IN_CTL (i / 96) (i % 96)) 0 0))).inputEnable i
      ((s.mergeRaw (CNV_IN_CTL (i / 96) (i % 96)).key w).sub (CNV_IN_CTL (i / 96) (i % 96)) 0 0 == 1) (s.mt * 2 ^ 32))) ∧
  (∀ (s : State) (d : Nat), s.get (CNV_DIE_STAT_LINK_UP d) ≠ 0 →
    exec (.dieLinkDown d) s = .next ((((((s.put (CNV_DIE_STAT_LINK_UP d) 0).put (CNV_DIE_STAT_LINK_DOWN_SEEN d) 1).raise (evCNV_LINK_DOWN d)
      d).samplesStop (3 * d)).samplesStop (3 * d + 1)).samplesStop (3 * d + 2))) ∧
  (∀ (s : State) (d : Nat), s.get (CNV_DIE_STAT_LINK_UP d) = 0 →
    exec (.dieLinkUp d) s = .next ([0, 1, 2].foldl (fun (a : State) j =>
      if a.get (CNV_GRP_STAT_RUNNING d j) = 1 && a.get (CNV_GRP_STAT_PLL_LOCK d j) = 1 then a.samplesBack (3 * d + j) else a)
      (s.put (CNV_DIE_STAT_LINK_UP d) 1)))

/-- Rows 55 to 67, the slots: binds, unbinds and commits are staged for their frame boundary, windows write every member, a boundary puts
what is staged in force, a sample passes the front stages, tags move the estimator, and grid samples and spectra leave (R29, R167 to
R169, R193, R200, R201, R205, R209, R219). -/
def Obligations.SlotCommandsComplete : Prop :=
  (∀ (s : State) (n : Nat) (w : Wr), n < 1024 → s.Opens w (winBase n) → w.hits 0 = true → w.hits 1 = false → w.hits 2 = false →
    (s.ctlWritten n w).awake ((s.ctlWritten n w).slotDomain n) = true →
    (s.ctlWritten n w).slotCheck n ((s.ctlWritten n w).get (CHP_CTL_GRID n)) true false ((s.ctlWritten n w).slotShadow n)
      ((s.ctlWritten n w).nextBoundary ((s.ctlWritten n w).get (CHP_CTL_GRID n))) = 0 →
    exec (.chpBind n w) s = .next ((((s.ctlWritten n w).stageBind n ((s.ctlWritten n w).get (CHP_CTL_GRID n))
      ((s.ctlWritten n w).nextBoundary ((s.ctlWritten n w).get (CHP_CTL_GRID n))) commitAction).slotCode n 0).showDirty n)) ∧
  (∀ (s : State) (win : Nat) (w : Wr), 1024 ≤ win → s.Opens w (winBase win) → Wr.acts w = true →
    exec (.chpBind win w) s = .next (((s.members win).foldl (fun (s : State) n => s.slotWrite n 0 w) s).wn (grpRes win)
      (countIf (((s.members win).foldl (fun (s : State) n => s.slotWrite n 0 w) s).actAccepted) (s.members win) + 65536 *
      ((s.members win).length - countIf (((s.members win).foldl (fun (s : State) n => s.slotWrite n 0 w) s).actAccepted) (s.members win))))) ∧
  (∀ (s : State) (n : Nat) (w : Wr), n < 1024 → s.Opens w (winBase n) → w.hits 0 = false → w.hits 1 = true → w.hits 2 = false →
    (s.ctlWritten n w).awake ((s.ctlWritten n w).slotDomain n) = true → (s.ctlWritten n w).slotState n ≠ 0 → (s.ctlWritten n w).unbindWaits n = false →
    ((s.ctlWritten n w).slot n).waits ≠ 1 →
    exec (.chpUnbind n w) s = .next (((((s.ctlWritten n w).stageUnbind n ((s.ctlWritten n w).nextBoundary ((s.ctlWritten n w).slot n).boundGrid)
      commitAction).slotCode n 0).abortDiscarded).showDirty n)) ∧
  (∀ (s : State) (n : Nat) (w : Wr), n < 1024 → s.Opens w (winBase n) → w.hits 0 = false → w.hits 1 = false → w.hits 2 = true →
    (s.ctlWritten n w).awake ((s.ctlWritten n w).slotDomain n) = true →
    (s.ctlWritten n w).slotCheck n ((s.ctlWritten n w).slot n).boundGrid false ((s.ctlWritten n w).isSet (CHP_CTL_RESTART n))
      ((s.ctlWritten n w).slotShadow n) ((s.ctlWritten n w).nextBoundary ((s.ctlWritten n w).slot n).boundGrid) = 0 →
    exec (.chpCommit n w) s = .next ((((s.ctlWritten n w).stageCommit n ((s.ctlWritten n w).nextBoundary ((s.ctlWritten n w).slot n).boundGrid)
      commitAction).slotCode n 0).showDirty n)) ∧
  (∀ (s : State) (d off : Nat) (w : Wr), d ≤ 64 → s.Opens w (winBase (1024 + d) + off) → off < 0x100 → slotOffOk off = true → off ≠ 0 →
    exec (.districtWindowWrite d off w) s = .next ((s.members (1024 + d)).foldl (fun (s : State) n => s.slotWrite n off w) s)) ∧
  (∀ (s : State) (g f : Nat), g < 8 → s.gridValid g = true → mapGet 0 g s.gridNext ≤ f → s.gridInstant g (f * s.frameLen g) ≤ s.mt →
    exec (.frameBoundary g f) s = .next (s.boundary g f).settle) ∧
  (∀ (s : State) (line : Nat), line < 8 → mapGet [] line s.blanks = [] →
    exec (.blankEdge line true) s = .next (({ s with blanks := mapPut [] line [⟨s.mt, none⟩] s.blanks } : State).feBlank line true s.mt)) ∧
  (∀ (s : State) (line : Nat) (x : Span) (r : List Span), line < 8 → mapGet [] line s.blanks = x :: r → x.to_ = none →
    exec (.blankEdge line false) s = .next (({ s with blanks := mapPut [] line ({ x with to_ := some s.mt } :: r) s.blanks } : State).feBlank
      line false s.mt)) ∧
  (∀ (s u v : State) (n i : Nat) (m : Int) (x : SrcSample), s.isSet CLK_STAT_CORE_LOCK = true → srcType (s.srcWord n) ≠ 1 → (s.slot n).run = true →
    s.srcFlows n = true → m = s.instant n i → (s.slot n).start ≤ m → (srcType (s.srcWord n) = 2 ∨ m + intakeHold ≤ s.mt * 2 ^ 32) →
    ((s.slot n).lastI = none ∧ (s.slot n).since = 0 ∨ ∃ l, (s.slot n).lastI = some l ∧ i = l + 1) → x.refused = false →
    s.awake (s.slotDomain n) = true → u = s.intakeMarks n m → v = u.setSlot n { (u.intake n m x).2 with lastI := some i } →
    exec (.sourceSample (.slot n) i x) s = .next ((if v.intakeOn n then (v.rawTake n m (u.intake n m x).1).fastPower n m (u.intake n m x).1
      else v).feed n i m (u.intake n m x).1)) ∧
  (∀ (s u : State) (c i : Nat) (x : SrcSample), s.isSet CLK_STAT_CORE_LOCK = true → c < s.part.inputs → (s.grp (inputGroup c)).flowing = true →
    s.awake (inputGroup c) = true → u = (if x.isOver then s.setSub (iStat c) 15 15 1 else s) →
    exec (.sourceSample (.input c) i x) s = .next ((u.inputSlots c).foldl (fun (s : State) n => s.takeSample n i x) u)) ∧
  (∀ (s u : State) (g i : Nat) (m : Int), (s.grp g).flowing = true → s.awake 93 = true → s.track g ≠ 0 → s.isSet TB_STATUS_COARSE = false →
    m = s.captureMt (s.coreOf (g % 16)) (if g < 16 then 1 else 2) i → u = ((s.cgBack g).freqEdge (0x12 + g) m false).trkForce g →
    s.isSet (TIM_CORE_STAT_FAILING (s.coreOf (g % 16))) = false →
    exec (.cgTag g i) s = .next ((u.lockTag g m).goodTag g m)) ∧
  (∀ (s u : State) (g i : Nat) (m : Int), (s.grp g).flowing = true → s.awake 93 = true → s.track g ≠ 0 →
    m = s.captureMt (s.coreOf (g % 16)) (if g < 16 then 1 else 2) i →
    u = ((s.cgBack g).freqEdge (0x12 + g) m (s.isSet TB_STATUS_COARSE)).trkForce g →
    (s.isSet TB_STATUS_COARSE || s.isSet (TIM_CORE_STAT_FAILING (s.coreOf (g % 16)))) = true →
    exec (.cgTag g i) s = .next ((u.lockBreak g).badTag g)) ∧
  (∀ (s : State) (g : Nat), s.get (CNV_GRP_STAT_RUNNING (g / 3) (g % 3)) = 1 → s.track g = 2 →
    exec (.cgTagMissing g) s = .next ((s.lockBreak g).setTrack g { (s.grp g).est with edges := (s.grp g).est.edges + 1, coastFrom := s.mt } 3)) ∧
  (∀ (s : State) (g : Nat), s.track g = 3 → (s.grp g).est.coastFrom + (((s.grp g).est.coastMax * mtMs : Nat) : Int) ≤ s.mt →
    exec (.coastTimeout g) s = .next (s.setTrack g (s.grp g).est 4)) ∧
  (∀ (s : State) (n : Nat), s.slotRuns n = true → s.isSet CLK_STAT_CORE_LOCK = true → s.gridInstant (s.slot n).grid (s.slot n).nextK ≤ s.mt →
    (s.slot n).nextK < mapGet 0 (s.slot n).grid s.gridNext * s.frameLen (s.slot n).grid →
    (s.get (CHP_RSM_STAT_TRACK n) = 2 ∨ s.get (CHP_RSM_STAT_TRACK n) = 3 ∨ s.get (CHP_RSM_STAT_TRACK n) = 5) →
    s.support n (s.nextPos n) = some true →
    exec (.gridSampleEmit n) s = .next ((((s.gapEnd n).takeGrid n (s.nextPos n) (s.interpolate n (s.nextPos n)).1).slotSat n
      (s.interpolate n (s.nextPos n)).2).settleSlot n)) ∧
  (∀ (s : State) (n : Nat), s.slotRuns n = true → s.isSet CLK_STAT_CORE_LOCK = true → s.gridInstant (s.slot n).grid (s.slot n).nextK ≤ s.mt →
    (s.slot n).nextK < mapGet 0 (s.slot n).grid s.gridNext * s.frameLen (s.slot n).grid →
    (s.get (CHP_RSM_STAT_TRACK n) ≠ 2 ∧ s.get (CHP_RSM_STAT_TRACK n) ≠ 3 ∧ s.get (CHP_RSM_STAT_TRACK n) ≠ 5 ∨
      s.support n (s.nextPos n) = some false ∨ (s.support n (s.nextPos n) = none ∧ s.srcFlows n = false)) →
    exec (.gridSampleEmit n) s = .next ((s.gapSample n).settleSlot n)) ∧
  (∀ (s : State) (n : Nat), s.slotRuns n = true → s.isSet CLK_STAT_CORE_LOCK = true →
    ∃ t, exec (.sourceResume n) s = .next t ∧ t = (s.gridDrain n (4 * (s.slot n).outs.length)).resumeSource n ∧ (t.slot n).line = [] ∧
      (t.slot n).outs = [] ∧ (t.slot n).resumed = true ∧ (t.slot n).since = 0) ∧
  (∀ (s : State) (n : Nat), s.spectrumDue n = true → s.isSet CLK_STAT_CORE_LOCK = true →
    ∃ t, exec (.spectrumReady n) s = .next t ∧ t = s.spectrumStep n ∧ (t.slot n).nextJ = (s.slot n).nextJ + 1)

/-- Rows 68 to 73, the beams: a sum is formed from its members, a chain wait ends as a gap, a range is committed, an array fails, an
integration ends and an item is handed to the queues (R225, R229 to R233, R236, R240, R242, R646). -/
def Obligations.BeamCommandsComplete : Prop :=
  (∀ (s : State) (b : Nat) (l : List (Nat × Spectrum × Bool)), s.memberSpectra b (s.beam b).nextJ = some l → s.sumDue b = true →
    exec (.beamSum b) s = .next (({ s.setBeam b { s.beam b with nextJ := (s.beam b).nextJ + 1, waits := (s.beam b).waits ++ [s.beamWait b l] } with
      partials := s.partials.filter (fun p => !(p.beam == b && p.j == (s.beam b).nextJ % 2 ^ 64)) } : State).beamGoes b)) ∧
  (∀ (s : State) (b : Nat), exec (.chainWaitExpiry b) s = .next ((s.setBeam b { s.beam b with waits := (s.beam b).waits.map (fun w =>
    if w.parts.isNone && decide (w.ends ≤ s.mt) then { w with gap := true } else w) }).beamGoes b)) ∧
  (∀ (s : State) (w : Wr) (g : Nat) (l : List (Nat × BeamCfg)), s.Opens w BFM_CTL.key → w.hits 0 = true → s.awake 81 = true →
    s.rangeGrid (s.shadowRange (s.get BFM_RANGE_FIRST) (s.get BFM_RANGE_LAST)) = some g →
    l = (s.shadowRange (s.get BFM_RANGE_FIRST) (s.get BFM_RANGE_LAST)).map (fun e => (e.1, s.cfgAtIdx (s.nextBoundary g) e.2)) →
    (s.beamChecks 0 (s.get BFM_RANGE_FIRST) (s.get BFM_RANGE_LAST) g (s.nextBoundary g) l).1 = 0 →
    exec (.bfmCommit w) s = .next (((s.put BFM_STAT_CODE 0).put BFM_STAT_BEAM 0).stageRange g (s.nextBoundary g) commitAction l)) ∧
  (∀ (s : State) (a : Nat), a < 17 → s.get (BFM_ARRAY_STATE a) = 0 → ((s.put (BFM_ARRAY_STATE a) 2).raise evBFM_BMAC_FAIL a).armed 6 = false →
    exec (.bmacFail a) s = .next ((s.put (BFM_ARRAY_STATE a) 2).raise evBFM_BMAC_FAIL a)) ∧
  (∀ (s : State) (a : Nat), a < 17 → s.get (BFM_ARRAY_STATE a) = 0 → ((s.put (BFM_ARRAY_STATE a) 2).raise evBFM_BMAC_FAIL a).armed 6 = true →
    exec (.bmacFail a) s = .next (((s.put (BFM_ARRAY_STATE a) 2).raise evBFM_BMAC_FAIL a).retireBmac a true)) ∧
  (∀ (s : State) (a : Nat), a < 17 → s.get (BFM_ARRAY_STATE a) = 1 →
    exec (.bmacFail a) s = .next (((s.put (BFM_ARRAY_STATE a) 2).raise evBFM_BMAC_FAIL a).put (PWR_SPARE_LEFT 6) 0)) ∧
  (∀ (s : State) (n : Nat), exec (.integrationEnd n false) s = .next ((s.endIndices (s.slotCfg n) (s.slot n).path (s.slot n).nextJ).1.setSlot n
    { (s.endIndices (s.slotCfg n) (s.slot n).path (s.slot n).nextJ).1.slot n with
      path := (s.endIndices (s.slotCfg n) (s.slot n).path (s.slot n).nextJ).2 })) ∧
  (∀ (s : State) (b : Nat), (s.beam b).waits = [] →
    exec (.integrationEnd b true) s = .next ((s.endIndices (s.beamCfg b) (s.beam b).path (s.beam b).nextJ).1.setBeam b
      { (s.endIndices (s.beamCfg b) (s.beam b).path (s.beam b).nextJ).1.beam b with
        path := (s.endIndices (s.beamCfg b) (s.beam b).path (s.beam b).nextJ).2 })) ∧
  (∀ (s : State) (x : ReadyItem) (r : List ReadyItem), s.items = x :: r →
    exec .itemComplete s = .next (({ s with items := r } : State).offerUnit x))

/-- Rows 74 to 87 and 403, the structure front end: binds, unbinds and commits by register, the outputs that excite, cycles and their
entries, urgent conversions, the reference, pauses and failing converters (R250, R252, R253, R256, R259, R260, R262, R263, R266 to R268,
R276). -/
def Obligations.FrontEndCommandsComplete : Prop :=
  (∀ (s : State) (w : Wr), s.Opens w SFE_CTL.key → w.hits 0 = true → w.hits 1 = false → w.hits 2 = false →
    (s.mergeRaw SFE_CTL.key w).feCheck 0 (some ((s.mergeRaw SFE_CTL.key w).get SFE_CTL_GRID)) ((s.mergeRaw SFE_CTL.key w).feIndex (some
      ((s.mergeRaw SFE_CTL.key w).get SFE_CTL_GRID))) (s.mergeRaw SFE_CTL.key w).shadowAt = 0 →
    exec (.sfeBind w) s = .next (((s.mergeRaw SFE_CTL.key w).feBind ((s.mergeRaw SFE_CTL.key w).get SFE_CTL_GRID)
      ((s.mergeRaw SFE_CTL.key w).feIndex (some ((s.mergeRaw SFE_CTL.key w).get SFE_CTL_GRID))) commitAction none).feCode 0)) ∧
  (∀ (s : State) (w : Wr), s.Opens w SFE_CTL.key → w.hits 0 = false → w.hits 1 = true → w.hits 2 = false →
    (s.mergeRaw SFE_CTL.key w).feCheck 1 (some (s.mergeRaw SFE_CTL.key w).feGrid) ((s.mergeRaw SFE_CTL.key w).feIndex (some
      (s.mergeRaw SFE_CTL.key w).feGrid)) (s.mergeRaw SFE_CTL.key w).shadowAt = 0 →
    exec (.sfeUnbind w) s = .next (((s.mergeRaw SFE_CTL.key w).feUnbind ((s.mergeRaw SFE_CTL.key w).feIndex (some
      (s.mergeRaw SFE_CTL.key w).feGrid)) commitAction).feCode 0)) ∧
  (∀ (s : State) (w : Wr) (t : State), s.Opens w SFE_CTL.key → w.hits 0 = false → w.hits 1 = false → w.hits 2 = true →
    (s.mergeRaw SFE_CTL.key w).feCheck 2 (s.mergeRaw SFE_CTL.key w).feGridOpt ((s.mergeRaw SFE_CTL.key w).feIndex
      (s.mergeRaw SFE_CTL.key w).feGridOpt) (s.mergeRaw SFE_CTL.key w).shadowAt = 0 →
    (s.mergeRaw SFE_CTL.key w).feCommit commitAction none ((s.mergeRaw SFE_CTL.key w).snapshot sfeKeys) = some t →
    exec (.sfeCommit w) s = .next (t.feCode 0)) ∧
  (∀ (s : State) (q : Nat), s.excState q = 1 → (s.exc q).rampFrom + ((200 * mtUs : Nat) : Int) ≤ s.mt →
    exec (.excRampEnd q) s = .next (s.put (SFE_EXC_STAT_STATE q) 2)) ∧
  (∀ (s : State) (q : Nat), s.isSet (SFE_EXC_STAT_SETTLING q) = true → s.fe.waits = [] →
    exec (.excRangeSettled q) s = .next (s.put (SFE_EXC_STAT_SETTLING q) 0)) ∧
  (∀ (s : State) (q : Nat) (x : FeWait), s.isSet (SFE_EXC_STAT_SETTLING q) = true → s.fe.waits = [x] → x.outs = [q] →
    exec (.excRangeSettled q) s = .next ((({ s with fe := { s.fe with waits := [] } } : State).put (SFE_EXC_STAT_SETTLING q) 0).feSettled
      { x with outs := [] })) ∧
  (∀ (s : State) (q sense : Nat), s.excState q = 2 → 95 * excRange (s.get (SFE_EXC_STAT_RANGE_ACT q)) ≤ 100 * sense →
    100 * sense ≤ 102 * excRange (s.get (SFE_EXC_STAT_RANGE_ACT q)) → (s.exc q).good = 0 →
    exec (.excSenseMeasure q sense false) s = .next (((s.put (SFE_EXC_STAT_SENSE q) (min sense 65535)).excLimit q false).setExc q
      { ((s.put (SFE_EXC_STAT_SENSE q) (min sense 65535)).excLimit q false).exc q with bad := 0, good := 1 })) ∧
  (∀ (s : State) (q sense : Nat), s.excState q = 2 → 100 * sense < 95 * excRange (s.get (SFE_EXC_STAT_RANGE_ACT q)) → (s.exc q).bad = 2 →
    s.isSet (SFE_EXC_STAT_FAULT q) = false →
    exec (.excSenseMeasure q sense false) s = .next ((((((s.put (SFE_EXC_STAT_SENSE q) (min sense 65535)).excLimit q false).setExc q
      { s.exc q with bad := 3, good := 0 }).put (SFE_EXC_STAT_FAULT q) 1).put (SFE_EXC_STAT_FAULT_SEEN q) 1).raise evSFE_EXC_FAULT q
        [.w4 sense])) ∧
  (∀ (s : State) (q : Nat), s.excState q ≠ 0 → exec (.currentLimit q) s = .next (s.excLimit q true)) ∧
  (∀ (s : State) (p : Nat), p < 16 → s.feRuns = true → s.fget (PCV_SEQ_CTL_EN p) ≠ 0 → s.gridInstant s.feGrid (s.pcv p).nextK ≤ s.mt →
    exec (.pcvCycleStart p) s = .next ((((s.skipEntries p).pcvLeave p).beginCycle p (s.pcv p).nextK).pcvNext p
      (s.gridInstant s.feGrid (s.pcv p).nextK))) ∧
  (∀ (s : State) (p : Nat) (c : List Conv) (r : PcvRun), (s.pcv p).cur = some r → entryEnd r.start r.slot r.avg ≤ s.mt →
    c.length = 2 ^ r.avg → r.src ≠ 2 →
    exec (.pcvEntryEnd p c) s = .next ((((s.pcvResult p r c).2.pcvSend p (pcvBytes (s.pcvResult p r c).1 p)).1.setPcv p
      { ((s.pcvResult p r c).2.pcvSend p (pcvBytes (s.pcvResult p r c).1 p)).1.pcv p with cur := none }).pcvNext p
      (entryEnd r.start r.slot r.avg))) ∧
  (∀ (s : State) (p : Nat) (w : Wr), s.Opens w (PCV_URG p).key → w.hits 31 = true → (s.mergeRaw (PCV_URG p).key w).awake 91 = true →
    exec (.pcvUrgGo p w) s = .next ((((s.mergeRaw (PCV_URG p).key w).put (PCV_URG_GO p) 1).urgRequest p
      ⟨(s.mergeRaw (PCV_URG p).key w).get (PCV_URG_CH p), (s.mergeRaw (PCV_URG p).key w).get (PCV_URG_AVG p), 0, 0, false, false⟩))) ∧
  (∀ (s : State) (p : Nat) (w : Wr), s.Opens w (PCV_URG p).key → w.hits 31 = true → (s.mergeRaw (PCV_URG p).key w).awake 91 = false →
    exec (.pcvUrgGo p w) s = .next (((((s.mergeRaw (PCV_URG p).key w).refuseDom 91).put (PCV_URG_GO p) 1).urgRequest p
      ⟨(s.mergeRaw (PCV_URG p).key w).get (PCV_URG_CH p), (s.mergeRaw (PCV_URG p).key w).get (PCV_URG_AVG p), 0, 0, false, false⟩))) ∧
  (∀ (s : State) (p : Nat) (u : UrgReq) (r : List UrgReq), (s.pcv p).reqs = u :: r → u.src = 1 → s.fe.pause = none →
    (s.setPcv p { s.pcv p with reqs := r }).urgCheck p u = 0 → (s.pcv p).urg = [] →
    exec (.urgentArrive p) s = .next (((((s.setPcv p { s.pcv p with reqs := r }).setPcv p { s.pcv p with reqs := r, urg := [u] }).put
      (PCV_STAT_URGQ p) 1).urgAbort p).pcvNext p s.mt)) ∧
  (∀ (s : State) (w : Wr), s.Opens w PCV_REFCTL.key → w.reaches 0 0 = true → w.hits 0 = true → s.isSet PCV_REFCTL_REF_EN = false →
    exec (.pcvRefEnWrite w) s = .next { s.put PCV_REFCTL_REF_EN 1 with fe := { s.fe with refFrom := s.mt, refOkAt := none } }) ∧
  (∀ (s : State), s.isSet PCV_REFCTL_REF_EN = true → s.isSet PCV_REFCTL_REF_OK = false → s.fe.refFrom + ((10 * mtMs : Nat) : Int) ≤ s.mt →
    exec .pcvRefOk s = .next (({ s.put PCV_REFCTL_REF_OK 1 with fe := { s.fe with refOkAt := some s.mt } } : State).raise evSFE_REF_OK)) ∧
  (∀ (s : State) (x : Pause), s.fe.pause = some x → s.feAsserted = false → x.release + ((s.fget SFE_BLANK_POST * mtUs : Nat) : Int) ≤ s.mt → s.pcvsOn = [] →
    s.fe.pauseRaised = none →
    exec .pauseEnd s = .next (({ s with fe := { s.fe with pause := none, pauseRaised := some s.mt } } : State).raise evSFE_BLANK_PAUSE 65535
      [.mt x.start, .w8 (divRound (x.release + ((s.fget SFE_BLANK_POST * mtUs : Nat) : Int) - x.start) mtNs)])) ∧
  (∀ (s : State) (p : Nat) (err : Int), p < 16 → s.isSet (PCV_STAT_DEAD p) = false → s.awake 91 = true → s.pcvIdle p = true →
    (s.pcv p).midSec ≠ some s.wholeSec → 32 < err.natAbs → 2 ≤ (s.pcv p).midBad →
    s.isSet (PCV_STAT_FAILING p) = false → s.get (PCV_STAT_PHYS p) ≠ 16 → s.armed 7 = false →
    exec (.pcvMidscaleCheck p err) s = .next (((s.setPcv p { s.pcv p with midBad := 3, midSec := some s.wholeSec }).put
      (PCV_STAT_FAILING p) 1).raise evSFE_PCV_FAIL p [.w4 (s.get (PCV_STAT_PHYS p))])) ∧
  (∀ (s : State) (p : Nat) (err : Int), p < 16 → s.isSet (PCV_STAT_DEAD p) = false → s.awake 91 = true → s.pcvIdle p = true →
    (s.pcv p).midSec ≠ some s.wholeSec → 32 < err.natAbs → 2 ≤ (s.pcv p).midBad →
    s.isSet (PCV_STAT_FAILING p) = false → s.get (PCV_STAT_PHYS p) = 16 → s.armed 7 = false →
    exec (.pcvMidscaleCheck p err) s = .next ((((s.setPcv p { s.pcv p with midBad := 3, midSec := some s.wholeSec }).put
      (PCV_STAT_FAILING p) 1).put PCV_SPARE_V 2).raise evSFE_PCV_FAIL p [.w4 16])) ∧
  (∀ (s : State) (p : Nat) (err : Int), p < 16 → s.isSet (PCV_STAT_DEAD p) = false → s.awake 91 = true → s.pcvIdle p = true →
    (s.pcv p).midSec ≠ some s.wholeSec → err.natAbs ≤ 32 →
    exec (.pcvMidscaleCheck p err) s = .next (s.setPcv p { s.pcv p with midBad := 0, midSec := some s.wholeSec }))

/-- Rows 88 to 101 and 404: a trim page is loaded, a user measurement ends, a copy is written; outputs are armed and disarmed, triggers reach
them, pulses begin and end, lines and datagrams are offered, and a capture closes (R282, R286, R291, R297 to R304, R310). -/
def Obligations.CalTriggerCommandsComplete : Prop :=
  (∀ (s : State) (n : Nat) (badA badB : Bool), s.pageFitted n = true → s.isSet CAL_STAT_LOAD_DONE = false → s.trimLoaded.contains n = false →
    (n = 0 ∨ s.trimLoaded.contains 0 = true) →
    ∃ t, exec (.trimPageLoad n badA badB) s = .next t ∧ (t.trimCopy n 0).ok = ((s.trimCopy n 0).ok && !badA) ∧
      (t.trimCopy n 1).ok = ((s.trimCopy n 1).ok && !badB) ∧ t.trimLoaded.contains n = true) ∧
  (∀ (s : State) (conv : Nat) (zero ref : List Conv) (temp : Int) (m : CalMeas) (z c : (Int × Bool) × State),
    s.calMeas.find? (fun m => m.conv == conv) = some m →
    zero.length = 2 ^ m.avg → ref.length = 2 ^ m.avg → m.start + (2 ^ (m.avg + 1) * m.slot : Nat) * slotUnit ≤ s.mt →
    (s.dropMeas m.action).calBusy conv = false →
    z = (s.dropMeas m.action).pcvCodes m.gain (0, 0) zero → c = z.2.pcvCodes m.gain (0, 0) ref →
    exec (.calMeasureDone conv zero ref temp) s = .next (if c.1.2 then (c.2.finishCmd m.action 0x315 []).raise evCAL_CALREF_RANGE conv
      else (c.2.finishCmd m.action 0 ([w32 (toBits 32 (meanOf z.1.1 m.avg)), w32 (toBits 32 (meanOf c.1.1 m.avg)),
        w32 (toBits 32 (senseMean (zero ++ ref))), w32 (toBits 32 temp)] ++ bytesWords (mtBytes (c.2.tickNear (c.2.mt - ((250 * mtNs : Nat) : Int)))))).raise
          evCAL_USER_MEASURED conv)) ∧
  (∀ (s : State) (j : NvmJob) (r : List NvmJob), s.nvm = j :: r → exec (.nvmCopyWritten true) s = .next (({ s with nvm := r } : State).jobDone j)) ∧
  (∀ (s : State) (j : NvmJob) (r : List NvmJob), s.nvm = j :: r → j.retry = false →
    exec (.nvmCopyWritten false) s = .next (({ s with nvm := { j with retry := true } :: r } : State).bump PWR_MRAM)) ∧
  (∀ (s : State) (n : Nat) (w : Wr), n < 64 → s.Opens w (0xE1000 + 0x20 * n) →
    (bits (merged (s.rn (TRG_OUT_CFG n)) w) 31 30 = 1 ∨ bits (merged (s.rn (TRG_OUT_CFG n)) w) 31 30 = 2) →
    s.get (TRG_OUT_STAT_STATE n) = 0 → (s.mergeRaw (TRG_OUT_CFG n).key w).armCheck n = 0 →
    (s.mergeRaw (TRG_OUT_CFG n).key w).isSet (TRG_OUT_CFG_CAP_EN n) = false →
    ∃ t, exec (.trgArm n w) s = .next t ∧ t.get (TRG_OUT_STAT_STATE n) = 1 ∧ t.get (TRG_OUT_STAT_CODE n) = 0 ∧ t.trg n = {}) ∧
  (∀ (s : State) (t : Nat) (w : Wr), s.Opens w (0xE1000 + 0x20 * t) → w.reaches 31 30 = true →
    bits (merged (s.rn (TRG_OUT_CFG t)) w) 31 30 = 0 → exec (.trgDisarm t w) s = .next (s.trgOff t)) ∧
  (∀ (s : State) (x : Trig), nextTrig s.trigs = some x → exec .triggerOffer s = .next (({ s with trigs := s.trigs.erase x } : State).offerAll x)) ∧
  (∀ (s : State) (p : Pulse), s.pulses.find? (fun p => p.on && decide (p.to_ ≤ s.mt)) = some p → (s.pulses.erase p).any (fun o => o.on && o.pin
    == p.pin) = false → exec .trgPulseEnd s = .next (({ s with pulses := s.pulses.erase p } : State).pulsePin p.pin false)) ∧
  (∀ (s : State) (p : Pulse), s.pulses.find? (fun p => !p.on && decide (p.from_ ≤ s.mt)) = some p →
    exec .fixedModeEdge s = .next (({ s with pulses := s.pulses.map (fun o => if o = p then { o with on := true } else o) } : State).pulsePin
      p.pin true)) ∧
  (∀ (s : State) (t : Nat), s.rearmReady t = true → s.isSet (TRG_OUT_CFG_CAP_EN t) = false → exec (.trgRearm t) s = .next (s.rearm t)) ∧
  (∀ (s : State) (t : Nat), s.rearmReady t = true → s.isSet (TRG_OUT_CFG_CAP_EN t) = true → (s.trg t).ctx = false → s.get TRG_STAT_FREE ≠ 0 →
    (List.range t).any (fun o => s.rearmReady o && s.isSet (TRG_OUT_CFG_CAP_EN o) && !(s.trg o).ctx) = false →
    exec (.trgRearm t) s = .next (((s.put TRG_STAT_FREE (s.get TRG_STAT_FREE - 1)).setTrg t { s.trg t with ctx := true }).rearm t)) ∧
  (∀ (s : State) (n : Nat), n < 4 → mapGet {} n s.ilines = ⟨false, none, false⟩ →
    exec (.ilineEdge n true) s = .next (({ s with ilines := mapPut {} n ⟨true, some s.mt, false⟩ s.ilines } : State).offerTrig (16 + n) s.mt
      (s.isSet TB_STATUS_COARSE))) ∧
  (∀ (s : State) (n : Nat), (mapGet {} n s.ilines).low = true →
    exec (.ilineEdge n false) s = .next { s with ilines := mapPut {} n ⟨false, some s.mt, false⟩ s.ilines }) ∧
  (∀ (s : State) (n : Nat) (t : Int), mapGet {} n s.ilines = ⟨true, some t, false⟩ → t + (mtSec : Int) < s.mt →
    exec (.ilineStuck n) s = .next (({ s with ilines := mapPut {} n ⟨true, some t, true⟩ s.ilines } : State).raise evTRG_ILINE_STUCK n)) ∧
  (∀ (s : State) (port : Nat) (d : List Byte), s.get TRG_NET_PORT = port → port ≠ 0 → exec (.netTriggerRx port d) s = .next (s.netTrigger d)) ∧
  (∀ (s : State) (t : Nat) (w : Wr), s.Opens w (0xE1008 + 0x20 * t) → w.hits 0 = true →
    (s.mergeRaw (TRG_OUT_STAT t).key w).get (TRG_OUT_CFG_SRC t) = 22 →
    (s.mergeRaw (TRG_OUT_STAT t).key w).get (TRG_OUT_STAT_STATE t) = 1 →
    exec (.trgOutFire t w) s = .next ((s.mergeRaw (TRG_OUT_STAT t).key w).acceptTrig t ⟨22, (s.mergeRaw (TRG_OUT_STAT t).key w).mt,
      (s.mergeRaw (TRG_OUT_STAT t).key w).isSet TB_STATUS_COARSE, 0xFFFF, (s.mergeRaw (TRG_OUT_STAT t).key w).mt⟩)) ∧
  (∀ (s : State) (w : Wr), s.Opens w 0xE0100 → w.hits 15 = true →
    exec (.trgNetClr w) s = .next { s.mergeRaw TRG_NET.key w with netSenders := [] }) ∧
  (∀ (s : State) (seq : Nat) (c : Capture), s.captures.find? (fun c => c.seq == seq) = some c →
    (c.members.all (fun m => m.flags / 16 = 1 || s.memberDone m || s.memberOver m)) = true → exec (.captureClose seq) s = .next (s.closeCapture c))

/-- Rows 102 to 112, raw paths, the capture ring and tile jobs: the ring is switched, a raw path is assigned or released, tiles are closed, a
stalled queue resumes, an engine fails, a record tile is flushed, and a job's ring is written, disabled, run, resumed and aborted (R308,
R320, R330, R331, R334, R335, R336, R337, R340, R341). -/
def Obligations.ContourCommandsComplete : Prop :=
  (∀ (s : State) (w : Wr), s.Opens w 0xE0010 → bit (s.rn TRG_RING_CTL) 31 = false →
    exec (.ringCtlWrite w) s = .next (((s.mergeRaw TRG_RING_CTL.key w).ringTrim (1024 * (s.mergeRaw TRG_RING_CTL.key w).get
      TRG_RING_CTL_PLOTS) (((s.mergeRaw TRG_RING_CTL.key w).ringPlots (fun t => t.live)).length + 1)).showRing)) ∧
  (∀ (s : State) (n : Nat) (w : Wr), s.Opens w (0xD1000 + 4 * n) → s.rawBusy n = false → bit (s.rn (CMP_RAW n)) 31 = true →
    bit (merged (s.rn (CMP_RAW n)) w / 256 * 256) 31 = false → bits (merged (s.rn (CMP_RAW n)) w / 256 * 256) 10 8 ≤ 4 →
    setBits (merged (s.rn (CMP_RAW n)) w / 256 * 256) 10 8 0 ≠ setBits (s.rn (CMP_RAW n)) 10 8 0 →
    exec (.cmpRawWrite n w) s = .next (((s.wn (CMP_RAW n) (merged (s.rn (CMP_RAW n)) w / 256 * 256)).rawRelease n).setAllow
      (bits (s.rn (CMP_RAW n)) 29 16))) ∧
  (∀ (s : State) (n : Nat) (w : Wr), s.Opens w (0xD1000 + 4 * n) → s.rawBusy n = false → bit (s.rn (CMP_RAW n)) 31 = false →
    bit (merged (s.rn (CMP_RAW n)) w / 256 * 256) 31 = true → s.rawCheck n (merged (s.rn (CMP_RAW n)) w / 256 * 256) = 0 →
    setBits (merged (s.rn (CMP_RAW n)) w / 256 * 256) 10 8 0 ≠ setBits (s.rn (CMP_RAW n)) 10 8 0 →
    exec (.cmpRawWrite n w) s = .next (((s.wn (CMP_RAW n) (merged (s.rn (CMP_RAW n)) w / 256 * 256)).rawAssign n).put (CMP_RAW_STAT_CODE n) 0)) ∧
  (∀ (s : State) (n : Nat) (o : List Byte), exec (.tileClose false n o) s = .next (s.closeRaw n)) ∧
  (∀ (s : State) (q : Nat) (o : List Byte) (t : RecTile) (f : Nat) (r : List (RecTile × Nat)), (s.que q).closing = (t, f) :: r →
    exec (.tileClose true q o) s = .next ((s.setQue q { s.que q with closing := r }).offerUnit
      { queue := q, bytes := recordTile o t.bytes.reverse q t.index (t.count.getD 0xFFFFFFFF) f, first := t.index,
        last := t.index + t.bytes.reverse.length - 1, kind := 3 })) ∧
  (∀ (s : State) (q : Nat) (t : Int), (s.que q).refused = some t →
    exec (.encResume q) s = .next (if ((s.writeFront q).que q).refused.isSome then s.writeFront q else (s.writeFront q).encResumed q)) ∧
  (∀ (s : State) (e : Nat), s.raws = [] → s.quesOn = [] →
    exec (.cmpEngFault ⟨e, false⟩) s = .next (((s.put (CMP_ENG_STATE e) 2).put CMP_STAT_FAULT_SEEN 1).raise evCMP_ENG_FAULT e)) ∧
  (∀ (s : State) (e : Nat), exec (.cmpEngFault ⟨e, true⟩) s = .next (s.put CMP_STAT_ECC_SEEN 1)) ∧
  (∀ (s : State) (q : Nat) (t : RecTile), (s.que q).tile = some t → s.get (QUE_CFG5_FLUSH q) ≠ 0 →
    t.start + ((s.get (QUE_CFG5_FLUSH q) * mtMs : Nat) : Int) ≤ s.mt →
    exec (.recordTileFlush q) s = .next (s.setQue q { s.que q with tile := none, closing := (s.que q).closing ++ [(t, 1)] })) ∧
  (∀ (s : State) (b : Nat) (w : Wr), (w.fn = 0 ∨ w.fn = b) → (s.func w.fn).held = none → s.shut 0xD8000 = false →
    (s.mergeRaw (CMP_JOB_PI b).key w).jobsOut b ≤ 2 ^ s.get (CMP_JOB_CTL_SIZE b) →
    exec (.cmpJobPiWrite b w) s = .next ((s.mergeRaw (CMP_JOB_PI b).key w).dxFill)) ∧
  (∀ (s : State) (b : Nat) (w : Wr), (w.fn = 0 ∨ w.fn = b) → (s.func w.fn).held = none → s.shut 0xD8000 = false →
    2 ^ s.get (CMP_JOB_CTL_SIZE b) < (s.mergeRaw (CMP_JOB_PI b).key w).jobsOut b →
    exec (.cmpJobPiWrite b w) s = .next (s.raise evCMP_PI_BAD b [] b)) ∧
  (∀ (s : State) (b : Nat) (w : Wr), (w.fn = 0 ∨ w.fn = b) → (s.func w.fn).held = none → s.shut 0xD8000 = false → bit (s.rn (CMP_JOB_CTL b)) 31 = false →
    exec (.cmpJobDisable b w) s = .next ((s.mergeRaw (CMP_JOB_CTL b).key w).dxFill)) ∧
  (∀ (s : State) (b : Nat) (w : Wr), (w.fn = 0 ∨ w.fn = b) → (s.func w.fn).held = none → s.shut 0xD8000 = false → bit (s.rn (CMP_JOB_CTL b)) 31 = true →
    bit (merged (s.rn (CMP_JOB_CTL b)) w) 31 = false → s.isSet (CMP_JOB_STAT_SUSPENDED b) = false → s.isSet (CMP_JOB_STAT_RUNNING b) = false →
    exec (.cmpJobDisable b w) s = .next (((s.put (CMP_JOB_CTL_EN b) 0).dxDone b).mergeRaw (CMP_JOB_CTL b).key w)) ∧
  (∀ (s : State) (b d : Nat) (desc src : List Byte), s.dxOf b = some d → s.jobWants b = true → s.jobs = [] →
    exec (.jobDecode b 0 desc src) s = .next (s.jobRun b 0 
      { desc := desc, src := src, bufAt := leNat ((desc.drop 16).take 8),
        bufLen := leNat ((desc.drop 24).take 4) })) ∧
  (∀ (s : State) (b : Nat) (w : Wr), (w.fn = 0 ∨ w.fn = b) → (s.func w.fn).held = none → s.shut 0xD8000 = false → w.hits 0 = false → w.hits 1 = true →
    exec (.cmpJobMore b w) s = .next (s.jobMore b)) ∧
  (∀ (s : State) (b : Nat) (w : Wr), (w.fn = 0 ∨ w.fn = b) → (s.func w.fn).held = none → s.shut 0xD8000 = false → w.hits 0 = true → w.hits 1 = false →
    s.isSet (CMP_JOB_CTL_EN b) = true → s.jobsOut b ≠ 0 → s.isSet (CMP_JOB_STAT_RUNNING b) = true →
    exec (.cmpJobAbort b w) s = .next (s.jobEnd b 6 0 0))

/-- Rows 113 to 127, plots, queues, post queues and roundabouts: a queue is enabled, drained and flushed, plots are requested, granted and
copied, units written and frames sent; a post queue is flushed and popped, a monitor takes a snapshot, and a roundabout decides (R353,
R356, R361, R365, R366, R372, R381, R384, R385, R389, R400, R401). -/
def Obligations.QueueCommandsComplete : Prop :=
  (∀ (s : State) (w : Wr), s.Opens w 0xC0004 → w.hits 0 = true → w.hits 1 = false → w.hits 2 = false →
    exec (.queEnable w) s = .next (s.queEnable (s.get (QUE_SEL_V 0))).2) ∧
  (∀ (s : State) (w : Wr) (q : Nat), s.Opens w 0xC0004 → w.hits 0 = true → w.hits 1 = false → w.hits 2 = false → s.get (QUE_SEL_V 0) = q →
    s.enableCheck q = 0 → s.isSet (QUE_CFG0_REC q) = false → exec (.queEnable w) s = .next ((((((
      { s.put (QUE_STAT_CODE q) 0 with
        quesOn := q :: s.quesOn, rxs := s.rxs.filter (fun r => r.2.queue != q) } : State).setQue q {}).put (QUE_STAT_STATE q) 1).setAllow
          q).showQue q).raise evQUE_Q_ON q |>.grantSync q)) ∧
  (∀ (s : State) (w : Wr), s.Opens w 0xC0004 → w.hits 0 = false → w.hits 1 = true → w.hits 2 = false →
    s.get (QUE_STAT_STATE (s.get (QUE_SEL_V 0))) = 1 → s.queInUse (s.get (QUE_SEL_V 0)) = false →
    exec (.queDisable w) s = .next ((s.put (QUE_STAT_CODE (s.get (QUE_SEL_V 0))) 0).queDrain (s.get (QUE_SEL_V 0)))) ∧
  (∀ (s : State) (w : Wr), s.Opens w 0xC0004 → w.hits 0 = false → w.hits 1 = false → w.hits 2 = true →
    s.get (QUE_STAT_STATE (s.get (QUE_SEL_V 0))) ≠ 0 → s.queInUse (s.get (QUE_SEL_V 0)) = false →
    exec (.queFlush w) s = .next ((s.put (QUE_STAT_CODE (s.get (QUE_SEL_V 0))) 0).queEmpty (s.get (QUE_SEL_V 0))).2) ∧
  (∀ (s : State) (q : Nat), s.needsPlot q = true → (s.que q).refused = none →
    exec (.plotRequest q) s = .next (if (s.askPlot q).1 then (s.askPlot q).2 else if (s.askPlot q).2.dataQueue q then (s.askPlot q).2.encStall q
      else (s.askPlot q).2)) ∧
  (∀ (s : State) (q : Nat) (t : Int), (s.que q).refused = some t → q < 16128 → exec (.plotRetry q) s = .next (s.askPlot q).2) ∧
  (∀ (s s1 : State) (b r : Nat) (t : Int), b < 32 → r < 4 → (s.que (cmdQueue b r)).refused = some t → s.askPlot (cmdQueue b r) = (true, s1) →
    exec (.plotRetry (cmdQueue b r)) s = .next s1.settle) ∧
  (∀ (s s1 : State) (b r : Nat) (t : Int), b < 32 → r < 4 → (s.que (cplQueue b r)).refused = some t → s.askPlot (cplQueue b r) = (true, s1) →
    exec (.plotRetry (cplQueue b r)) s = .next (s1.cplSend b r (s1.cring b r).replies).settle) ∧
  (∀ (s s1 : State) (q : Nat) (t : Int), (s.que q).refused = some t → s.askPlot q = (false, s1) → exec (.plotRetry q) s = .next s1) ∧
  (∀ (s : State) (q : Nat), (s.que q).refused = none → exec (.unitWrite q) s = .next ((s.eventFeed q).writeStep q)) ∧
  (∀ (s : State) (c : PlotCopy) (r : List PlotCopy) (u : State), s.copies = c :: r → (s.que c.queue).chain.contains c.old = true →
    u = ({ s with copies := r } : State).put (PLT_USED_V (s.get (QUE_CFG0_BOROUGH c.queue))) (s.get (PLT_USED_V (s.get (QUE_CFG0_BOROUGH
      c.queue))) + 1) →
    exec .plotCopyDone s = .next ((((u.setPlot c.new { u.plot c.new with fill := (u.plot c.old).fill }).setQue c.queue { s.que c.queue with
      chain := (s.que c.queue).chain.map (fun p => if p = c.old then c.new else p) }).freePlot c.old).showQue c.queue)) ∧
  (∀ (s : State) (k pick cut q : Nat) (ready : List Nat), k ≤ 40 → ready = sortNat (s.quesOn.filter (fun q => s.readyOn k q cut)) → ready = [q] →
    s.wayOpen q ((s.wayOf k q).getD 3) = true → s.egressClass q = 0 →
    exec (.egressFrame k pick cut) s = .next ((s.setSched k { s.sched k with deficits := (s.sched k).deficits.filter (fun e => ready.contains
      e.1) }).sendFrame q ((s.wayOf k q).getD 3) cut)) ∧
  (∀ (s : State) (k pick cut : Nat), k ≤ 40 → s.quesOn = [] → (List.range 16).filter (fun m => s.hostReady k m) = [] →
    exec (.egressFrame k pick cut) s = .next (s.setSched k { s.sched k with deficits := [] })) ∧
  (∀ (s : State) (q : Nat) (t : Int), (s.que q).waits = some t → s.quesOn.contains q = true → s.get (QUE_CFG4_DEST q) = 0 → s.wayUp q 3 = true →
    s.egressRefused q = true → (s.que q).stallSaid = false → t + (mtMs : Int) ≤ s.mt →
    exec (.egressStall q) s = .next (((s.setQue q { s.que q with stallSaid := true }).put (QUE_STAT_STALL_SEEN q) 1).raise evQUE_HOST_FULL q)) ∧
  (∀ (s : State) (id off : Nat), (s.plot id).state ≠ 4 → (s.plot id).state ≠ 5 →
    exec (.plotEccError id off true) s = .next ((((((s.draw 256).2.hurtPlot id off (s.draw 256).1).weakPlot id).put PLT_STAT_ECC_SEEN
      1).raise evPLT_PLOT_ECC (s.plot id).owner [.w8 off, .w8 off]))) ∧
  (∀ (s : State) (id off : Nat), (s.plot id).state ≠ 4 → (s.plot id).state ≠ 5 → (s.plot id).errs = 0 →
    exec (.plotEccError id off false) s = .next (s.setPlot id { s.plot id with errs := 1, hour := s.mt })) ∧
  (∀ (s : State) (n : Nat) (part : Bool) (w : Wr), s.Opens w (0x2000 + 16 * n) → n < 256 → w.hits 31 = true →
    bit (merged (s.rn (SYS_PQ_CTL n)) w) 29 = bit (s.rn (SYS_PQ_CTL n)) 29 → bit (merged (s.rn (SYS_PQ_CTL n)) w) 30 = bit (s.rn (SYS_PQ_CTL n)) 30 →
    ∃ t, exec (.pqFlush n part w) s = .next t ∧ t = (s.wn (SYS_PQ_CTL n) (setBits (setBits (setBits (merged (s.rn (SYS_PQ_CTL n)) w) 29 29
      (b2n (bit (s.rn (SYS_PQ_CTL n)) 29))) 30 30 (b2n (bit (s.rn (SYS_PQ_CTL n)) 30))) 31 31 0 % 2 ^ 32 / 2 ^ 29 * 2 ^ 29)).pqFlush n part) ∧
  (∀ (s : State) (n : Nat) (x : PopWait), s.stalledPop n = some x → x.at_ + stallTicks * s.get SYS_POST_STALL_LIMIT ≤ s.tb.fc →
    exec (.popStallTimeout n) s = .next (((s.popResume n).zeroWords (popReg n).1 (popReg n).2).emit (.readDone x.fn (popReg n).1 (leBytes 4
      0x80000000)))) ∧
  (∀ (s : State) (j : Nat), (s.func 0).held = none → mapGet [] j s.monQ ≠ [] → exec (.sysPqMonPop 0 j) s = .next (s.popMon 0 j)) ∧
  (∀ (s : State) (j : Nat), j < 223 → s.isSet (SYS_PQ_MON_CFG_EN j) = true → s.get (SYS_PQ_MON_CFG_PERIOD j) ≠ 0 →
    ((mtParts s.mt).1 * 1000000 + (mtParts s.mt).2.1 / 1000) % s.get (SYS_PQ_MON_CFG_PERIOD j) = 0 →
    s.monTaken j = false → exec (.monSnapshot j) s = .next (s.monSnap j)) ∧
  (∀ (s : State) (k l : Nat) (lines : List ArbReq) (bad : Bool), k < 68 → l < Config.arbLanes (Config.arbClass k) → s.isSet (ARB_STAT_ASLEEP k) = false →
    (∀ a ∈ lines, a.r < arbN k) →
    exec (.arbDecision k l lines bad) s = .next (((s.arbCycle k l lines).arbLines k l (bits ((s.arb k l).inForce k).ctl 27 16) lines).arbDecide
      k l ((s.arb k l).inForce k) ((lines.filter (fun a => !(a.last && !a.fresh && (s.arb k l).grant == some a.r))).map (fun a => a.r)) bad))

/-- Rows 128 to 147, the sheets of lanes: a sheet starts and stops, its lanes step through bring-up, loss of signal and of lock are counted,
an eye is measured, the PRBS checkers lock and lose, a lane is substituted, the sheet is narrowed and a direction sleeps (R411, R412,
R415, R416, R418 to R420, R424, R425, R429 to R431). -/
def Obligations.LaneCommandsComplete : Prop :=
  (∀ (s u : State) (sh : Nat) (w : Wr), s.Opens w (0x300000 + 0x4000 * sh) → sh < 40 → bit (s.rn (LNE_SHEET_CTL sh)) 26 = false →
    bit (merged (s.rn (LNE_SHEET_CTL sh)) w) 26 = true → w.hits 19 = false → w.hits 18 = false →
    u = s.mergeRaw (LNE_SHEET_CTL sh).key (Wr.keep w (s.rn (LNE_SHEET_CTL sh)) 26 26) →
    exec (.sheetStart sh w) s = .next (u.sheetStart sh (bits (merged (s.rn (LNE_SHEET_CTL sh)) w) 29 27)).2) ∧
  (∀ (s u : State) (sh : Nat) (w : Wr) (fs : List (Nat × Nat)), s.Opens w (0x300000 + 0x4000 * sh) → sh < 40 →
    bit (s.rn (LNE_SHEET_CTL sh)) 26 = true → bit (merged (s.rn (LNE_SHEET_CTL sh)) w) 26 = false → w.hits 19 = false → w.hits 18 = false →
    fs = [(31, 30), (29, 27), (25, 25), (23, 23), (17, 14), (13, 0)] →
    (∀ f ∈ fs, bits (merged (s.rn (LNE_SHEET_CTL sh)) w) f.1 f.2 = bits (s.rn (LNE_SHEET_CTL sh)) f.1 f.2) →
    u = s.mergeRaw (LNE_SHEET_CTL sh).key (Wr.keep (fs.foldl (fun (w : Wr) f => Wr.keep w (s.rn (LNE_SHEET_CTL sh)) f.1 f.2) w)
      (s.rn (LNE_SHEET_CTL sh)) 26 26) →
    exec (.sheetStop sh w) s = .next (u.sheetStop sh)) ∧
  (∀ (s : State) (sh l : Nat), s.sheetAwake sh = true → s.laneState sh l = 2 → s.isSet (LNE_STAT_LOS sh l) = false →
    s.losSettled sh l = true → s.inStage sh l (10 * mtUs) = true → exec (.laneDetectDone sh l) s = .next (s.stageTo sh 3 l)) ∧
  (∀ (s : State) (sh l : Nat), s.sheetAwake sh = true → s.laneState sh l = 3 →
    exec (.laneLockDone sh l) s = .next ((s.stageTo sh 4 l).put (LNE_STAT_LOL sh l) 0)) ∧
  (∀ (s : State) (sh l : Nat) (m : List Nat), s.sheetAwake sh = true → s.laneState sh l = 4 → s.isSet (LNE_SHEET_CTL_EQ_SEARCH sh) = false →
    s.inStage sh l 0 = true →
    exec (.laneEqDone sh l m) s = .next (if s.sheetState sh = 3 then ((s.put (LNE_STAT_PEAK_ACT sh l) (s.get (LNE_CTL_PEAK sh l))).stageTo sh 8
      l).genStart sh l else (s.put (LNE_STAT_PEAK_ACT sh l) (s.get (LNE_CTL_PEAK sh l))).stageTo sh 5 l)) ∧
  (∀ (s u : State) (sh l p sp n : Nat) (m : List Nat), s.sheetAwake sh = true → s.laneState sh l = 4 →
    s.isSet (LNE_SHEET_CTL_EQ_SEARCH sh) = true → s.get (LNE_CTL_PEAK sh l) = p → s.get (LNE_SHEET_CTL_EQ_SPAN sh) = sp →
    n = min 48 (p + sp) + 1 - (p - sp) → n ≠ 0 → n ≤ m.length → s.inStage sh l (n * 500 * mtUs) = true →
    u = s.put (LNE_STAT_PEAK_ACT sh l) (bestPeak (p - sp) (m.take n)) →
    exec (.laneEqDone sh l m) s = .next (if s.sheetState sh = 3 then (u.stageTo sh 8 l).genStart sh l else u.stageTo sh 5 l)) ∧
  (∀ (s : State) (sh l n : Nat) (inv : Bool), s.sheetAwake sh = true → s.laneState sh l = 5 → (s.lnk sh).xchg = none →
    exec (.laneAlignDone sh l n inv) s = .next (((s.stageTo sh 6 l).put (LNE_STAT_IDENT sh l) n).put (LNE_STAT_RX_INV sh l) (b2n inv))) ∧
  (∀ (s u : State) (sh skew : Nat) (m : List Nat) (rev : Bool), s.sheetAwake sh = true → s.sheetState sh = 1 →
    (∀ l ∈ s.mapped sh, s.laneState sh l = 6 ∧ s.isSet (LNE_STAT_LOS sh l) = false ∧ s.isSet (LNE_STAT_LOL sh l) = false) →
    s.orderMap sh = some (m, rev) → skew ≤ 256 → s.proto sh ≠ 1 →
    u = m.foldl (fun (s : State) l => s.put (LNE_STAT_STATE sh l) 7) ((((s.setMap sh m).put (LNE_SHEET_STAT_REV sh)
      (b2n (rev || s.isSet (LNE_SHEET_STAT_REV sh)))).put (LNE_SHEET_STAT_SKEW sh) (min skew 255)).put (LNE_SHEET_STAT_STATE sh) 2) →
    exec (.sheetUp sh skew) s = .next ((u.sheet sh).causers.foldl (fun (s : State) (l : Nat) => s.raise evLNE_LANE_RESTORED sh [.w4 l])
      ((u.setSheet sh { u.sheet sh with causers := [], failRun := false, alone := [] }).raise evLNE_SHEET_UP sh))) ∧
  (∀ (s : State) (sh skew : Nat), s.sheetAwake sh = true → s.sheetState sh = 1 →
    (∀ l ∈ s.mapped sh, s.laneState sh l = 6 ∧ s.isSet (LNE_STAT_LOS sh l) = false ∧ s.isSet (LNE_STAT_LOL sh l) = false) →
    (s.orderMap sh = none → exec (.sheetUp sh skew) s = .next (s.bringupFail sh 5)) ∧
    (s.orderMap sh ≠ none → 256 < skew → exec (.sheetUp sh skew) s = .next (s.bringupFail sh 6))) ∧
  (∀ (s : State) (sh l : Nat), s.sheetAwake sh = true → s.sheetState sh = 1 ∨ s.sheetState sh = 3 → 2 ≤ s.laneState sh l → s.laneState sh l ≤ 5 →
    s.inStage sh l (s.stageMax sh l (s.laneState sh l)) = true →
    exec (.bringupStageTimeout sh l) s = .next (s.bringupFail sh (s.laneState sh l - 1))) ∧
  (∀ (s : State) (sh : Nat), s.sheetAwake sh = true → (s.sheet sh).waiting = true → s.isSet (LNE_SHEET_CTL_START sh) = true → s.proto sh ≠ 2 →
    (s.sheet sh).failAt + ((s.get (LNE_SHEET_CTL_RETRY sh) * mtMs : Nat) : Int) ≤ s.mt →
    exec (.bringupRetry sh) s = .next (s.startAttempt sh)) ∧
  (∀ (s : State) (sh l : Nat), s.reports sh l = true → s.isSet (LNE_STAT_LOS sh l) = false →
    exec (.laneLos sh l) s = .next (((((s.losTo sh l 1).put (LNE_STAT_LOS_SEEN sh l) 1).laneCount sh (LNE_LOSCNT sh l)).raise
      evLNE_LANE_LOS sh [.w4 l]).lossDrop sh l 1)) ∧
  (∀ (s : State) (sh l : Nat), s.reports sh l = true → s.isSet (LNE_STAT_LOS sh l) = true → s.losSettled sh l = true →
    exec (.laneLosClear sh l) s = .next (s.losTo sh l 0)) ∧
  (∀ (s : State) (sh l : Nat), s.reports sh l = true → s.isSet (LNE_STAT_LOL sh l) = false →
    exec (.laneLol sh l) s = .next (((((s.put (LNE_STAT_LOL sh l) 1).put (LNE_STAT_LOL_SEEN sh l) 1).laneCount sh (LNE_LOLCNT sh l)).raise
      evLNE_LANE_LOL sh [.w4 l]).lossDrop sh l 2)) ∧
  (∀ (s : State) (sh l v h : Nat), s.sheetAwake sh = true → s.laneState sh l = 7 → s.get (LNE_EYE_CFG0_PERIOD sh) ≠ 0 → s.eyeDue sh l = true →
    s.get (LNE_EYE_CFG0_WARN_V sh) ≤ v → s.get (LNE_EYE_CFG1_WARN_H sh) ≤ h → s.get (LNE_EYE_CFG0_FAIL_V sh) ≤ v →
    s.get (LNE_EYE_CFG1_FAIL_H sh) ≤ h →
    ∃ t, exec (.eyeMeasure sh l v h) s = .next t ∧ t.rd (LNE_EYE sh l) = ((((s.put (LNE_EYE_VMARGIN sh l) (min v 255)).put (LNE_EYE_HMARGIN sh l)
      (min h 255)).put (LNE_EYE_VMIN sh l) (min (min v 255) (s.get (LNE_EYE_VMIN sh l)))).put (LNE_EYE_HMIN sh l)
      (min (min h 255) (s.get (LNE_EYE_HMIN sh l)))).rd (LNE_EYE sh l) ∧ mapGet 0 l (t.sheet sh).low = 0 ∧ (t.sheet sh).warned.contains l = false) ∧
  (∀ (s : State) (sh l : Nat), s.checks sh l = true → s.isSet (LNE_PRBS_CTL_LOCK sh l) = false →
    exec (.prbsLock sh l true) s = .next (((s.put (LNE_STAT_RX_INV sh l) 1).put (LNE_PRBS_CTL_LOCK sh l) 1).raise evLNE_PRBS_LOCK sh [.w4 l]) ∧
    exec (.prbsLock sh l false) s = .next ((s.put (LNE_PRBS_CTL_LOCK sh l) 1).raise evLNE_PRBS_LOCK sh [.w4 l])) ∧
  (∀ (s : State) (sh l n e : Nat), s.checks sh l = true → s.isSet (LNE_PRBS_CTL_LOCK sh l) = true →
    s.rd64 (LNE_PRBS_BITS_LO sh l) (LNE_PRBS_BITS_HI sh l) + n < 2 ^ 64 - 1 → s.rd64 (LNE_PRBS_ERR_LO sh l) (LNE_PRBS_ERR_HI sh l) + e < 2 ^ 64 - 1 →
    exec (.prbsLost sh l n e) s = .next (((((s.wr64 (LNE_PRBS_BITS_LO sh l) (LNE_PRBS_BITS_HI sh l) (s.rd64 (LNE_PRBS_BITS_LO sh l)
      (LNE_PRBS_BITS_HI sh l) + n)).wr64 (LNE_PRBS_ERR_LO sh l) (LNE_PRBS_ERR_HI sh l) (s.rd64 (LNE_PRBS_ERR_LO sh l) (LNE_PRBS_ERR_HI sh l) +
      e)).put (LNE_PRBS_CTL_LOCK sh l) 0).put (LNE_PRBS_CTL_LOST_SEEN sh l) 1).raise evLNE_PRBS_LOST sh [.w4 l])) ∧
  (∀ (s u : State) (sh l : Nat) (w : Wr), s.Opens w (0x301020 + 0x4000 * sh + 0x200 * l) → sh < 40 → l ≤ 8 → w.hits 19 = false → w.hits 26 = true →
    u = s.mergeRaw (LNE_PRBS_CTL sh l).key w → u.awake (24 + sh) = true → u.isSet (LNE_PRBS_CTL_CHK_EN sh l) = true →
    u.isSet (LNE_PRBS_CTL_GEN_EN sh l) = true → u.laneState sh l = 8 →
    exec (.prbsInject sh l w) s = .next ((if s.isSet (LNE_PRBS_CTL_GEN_EN sh l) then u else u.genStart sh l).emit (.bitInvert sh l))) ∧
  (∀ (s u : State) (sh l : Nat) (w : Wr), s.Opens w (0x301020 + 0x4000 * sh + 0x200 * l) → sh < 40 → l ≤ 8 → w.hits 19 = true → w.hits 26 = false →
    u = s.mergeRaw (LNE_PRBS_CTL sh l).key w → u.awake (24 + sh) = true → u.isSet (LNE_PRBS_CTL_CHK_EN sh l) = true →
    exec (.prbsClr sh l w) s = .next ((if s.isSet (LNE_PRBS_CTL_GEN_EN sh l) then u else u.genStart sh l).prbsClear sh l)) ∧
  (∀ (s u : State) (sh : Nat) (w : Wr), s.Opens w (0x300000 + 0x4000 * sh) → sh < 40 → bit (s.rn (LNE_SHEET_CTL sh)) 26 = false →
    bit (merged (s.rn (LNE_SHEET_CTL sh)) w) 26 = false → u = s.mergeRaw (LNE_SHEET_CTL sh).key (Wr.keep w (s.rn (LNE_SHEET_CTL sh)) 26 26) →
    (w.hits 19 = false → w.hits 18 = true → exec (.sheetSub sh w) s = .next (u.subst sh (bits (merged (s.rn (LNE_SHEET_CTL sh)) w) 22 20)
      false none).2) ∧
    (w.hits 19 = true → w.hits 18 = false → exec (.narrowWrite sh w) s = .next (u.narrow sh (bits (merged (s.rn (LNE_SHEET_CTL sh)) w) 22
      20)).2)) ∧
  (∀ (s u : State) (sh l : Nat) (w : Wr), s.Opens w (0x301000 + 0x4000 * sh + 0x200 * l) → sh < 40 → l ≤ 8 → s.isSet (LNE_SHEET_CTL_START sh) = false →
    s.laneUnused sh l = true → s.laneState sh l ≠ 9 → u = s.mergeRaw (LNE_CTL sh l).key w → u.isSet (LNE_CTL_TX_SLEEP sh l) = true →
    u.isSet (LNE_CTL_RX_SLEEP sh l) = true →
    exec (.laneSleepWrite sh l w) s = .next (((u.put (LNE_STAT_STATE sh l) 0).put (LNE_STAT_LOS sh l) 0).put (LNE_STAT_LOL sh l) 0)) ∧
  (∀ (s u : State) (sh l : Nat) (w : Wr), s.Opens w (0x301000 + 0x4000 * sh + 0x200 * l) → sh < 40 → l ≤ 8 → s.isSet (LNE_SHEET_CTL_START sh) = false →
    s.laneUnused sh l = true → u = s.mergeRaw (LNE_CTL sh l).key w → u.isSet (LNE_CTL_TX_SLEEP sh l) = false →
    u.isSet (LNE_CTL_RX_SLEEP sh l) = false → s.laneState sh l ≠ 9 → u.laneState sh l ≠ 0 → exec (.laneSleepWrite sh l w) s = .next u)

/-- Rows 148 to 163 and BLOCK_TX: training sets, blocks and flits come in and go out on a Spaxa sheet; timers of its training and replay run
out; the control messages of the exchanges act on the exchange in progress; an idle link claims a doze. The first block of the
link's acts is the link itself, the rest the exchanges. -/
def Obligations.LinkCommandsComplete : Prop :=
  (∀ (s : State) (sh l : Nat) (d : List Byte), s.get (LNE_SHEET_CTL_PROTO sh) = 2 → s.lstate sh = 1 → s.sheetAwake sh = true → readTrain d = none →
    (s.lnk sh).trn.waiting = false → (s.lnk sh).trn.phase = 1 →
    exec (.trainingSetRx sh l d) s = .next ((s.trainRefused sh 1).attemptFails sh)) ∧
  (∀ (s : State) (sh l k : Nat) (d : List Byte), s.get (LNE_SHEET_CTL_PROTO sh) = 2 → s.lstate sh = 1 → s.sheetAwake sh = true →
    readTrain d = none → (s.lnk sh).trn.waiting = false → (s.lnk sh).trn.phase ≠ 1 → s.laneLogical sh l = some k →
    exec (.trainingSetRx sh l d) s = .next (s.setLnk sh { s.lnk sh with trn := { (s.lnk sh).trn with
      ts2 := mapPut 0 k 0 (s.lnk sh).trn.ts2 } })) ∧
  (∀ (s : State) (sh l k : Nat) (d : List Byte) (p : TrainSet) (t : Training), s.get (LNE_SHEET_CTL_PROTO sh) = 2 → s.lstate sh = 1 →
    s.sheetAwake sh = true → readTrain d = some (k, p) → t = (s.lnk sh).trn → t.phase < 2 → p.phase < 2 →
    exec (.trainingSetRx sh l d) s = .next ((s.setLnk sh { s.lnk sh with trn := (
      { t with sets := mapPut none k (some p) t.sets, ts2 := mapPut 0 k 0 t.ts2, heard := true } : Training) }).trainStep sh)) ∧
  (∀ (s : State) (sh : Nat), s.proto sh = 2 → s.lstate sh = 1 → s.sheetAwake sh = true → (s.lnk sh).trn.phase < 2 → (s.lnk sh).trn.waiting = false →
    (s.lnk sh).trn.heard = true → s.sheetState sh = 2 →
    (s.lnk sh).trn.since + ((s.get (SPX_TRAIN_PARTNER_TO sh) * mtMs : Nat) : Int) ≤ s.mt → exec (.trainAttemptTimeout sh) s = .next (s.attemptFails sh)) ∧
  (∀ (s : State) (sh : Nat), s.proto sh = 2 → s.lstate sh = 1 → s.sheetAwake sh = true → (s.lnk sh).trn.phase < 2 → (s.lnk sh).trn.waiting = false →
    (s.lnk sh).trn.heard = false → (s.lnk sh).trn.absentSaid = false → s.sheetState sh = 2 →
    (s.lnk sh).trn.since + ((s.get (SPX_TRAIN_PARTNER_TO sh) * mtMs : Nat) : Int) ≤ s.mt → exec (.trainAttemptTimeout sh) s = .next
      ((((s.setLnk sh { s.lnk sh with trn := { (s.lnk sh).trn with absentSaid := true } }).put (SPX_STAT_ABSENT_SEEN sh) 1).raise
        evSPX_PARTNER_ABSENT sh).attemptFails sh)) ∧
  (∀ (s : State) (sh : Nat), (s.lnk sh).trn.waiting = true → s.lstate sh = 1 → s.sheetAwake sh = true →
    (s.lnk sh).trn.since + ((s.backoff sh (s.lnk sh).trn.fails * mtMs : Nat) : Int) ≤ s.mt →
    exec (.trainBackoffEnd sh) s = .next (if s.sheetState sh = 1 then (s.linkRetry sh).startAttempt sh else s.linkRetry sh)) ∧
  (∀ (s : State) (sh l i k c : Nat) (syms : List Nat), s.linkActive sh = true → s.sheetAwake sh = true → s.laneLogical sh l = some k →
    (s.lnk sh).rxExpected k = some c → s.get (LNE_SHEET_CTL_RATE sh) = 0 → syms.getD 0 0 * 1024 + syms.getD 1 0 = 2 ^ 19 + c % 2 ^ 17 →
    exec (.blockRx sh l i syms) s = .next ((s.setLnk sh { s.lnk sh with rx := { (s.lnk sh).rx with
      bad := mapPut 0 k 0 (s.lnk sh).rx.bad, lane := mapPut 0 k (c + 1) (s.lnk sh).rx.lane,
      ahead := mapPut none c (some (bitsBytes (symbolsBits ((syms.drop 2).take 512)), false, s.bcnMt sh i)) (s.lnk sh).rx.ahead } }).rxOrder sh 80)) ∧
  (∀ (s : State) (sh l i k c : Nat) (syms : List Nat), s.linkActive sh = true → s.sheetAwake sh = true → s.laneLogical sh l = some k →
    (s.lnk sh).rxExpected k = some c → s.get (LNE_SHEET_CTL_RATE sh) = 0 → (syms.getD 0 0 * 1024 + syms.getD 1 0) / 2 ^ 18 = 1 →
    exec (.blockRx sh l i syms) s = .next (s.linkRetrain sh false)) ∧
  (∀ (s : State) (sh : Nat) (f : RxFlit) (r : List RxFlit), (s.lnk sh).rx.flits = f :: r → (f.bad = true ∨ flitOk f.bytes = false) →
    exec (.flitRx sh) s = .next (((s.setLnk sh { s.lnk sh with rx := { (s.lnk sh).rx with flits := r } }).spxCount sh (SPX_CRCERR sh)).nackNow sh)) ∧
  (∀ (s : State) (sh : Nat) (f : RxFlit) (r : List RxFlit), (s.lnk sh).rx.flits = f :: r → f.bad = false → flitOk f.bytes = true →
    bit (flitAt f.bytes 254 1) 0 = true →
    exec (.flitRx sh) s = .next (((s.setLnk sh { s.lnk sh with rx := { (s.lnk sh).rx with flits := r } }).flitAck sh f.bytes).linkRetrain sh false)) ∧
  (∀ (s u : State) (sh : Nat) (f : RxFlit) (r : List RxFlit), (s.lnk sh).rx.flits = f :: r → f.bad = false → flitOk f.bytes = true →
    flitAt f.bytes 254 1 = 0 → u = (s.setLnk sh { s.lnk sh with rx := { (s.lnk sh).rx with flits := r } }).flitAck sh f.bytes →
    u.linkActive sh = true → flitAt f.bytes 0 1 ≠ 0 → flitAt f.bytes 0 1 ≠ 0x30 → flitAt f.bytes 2 3 = (u.rn (SPX_ACK sh) + 1) % 2 ^ 24 →
    exec (.flitRx sh) s = .next (u.flitTake sh f.bytes)) ∧
  (∀ (s : State) (sh : Nat) (f : SentFlit) (r : List SentFlit), s.linkActive sh = true → (s.lnk sh).tx.out = f :: r →
    (s.lnk sh).tx.ackAt + ((s.get (SPX_TIMER_REPLAY_TO sh) * mtUs : Nat) : Int) ≤ s.mt →
    exec (.replayTimeout sh) s = .next (s.replayRound sh ((f.seq + 2 ^ 24 - 1) % 2 ^ 24))) ∧
  (∀ (s u : State) (sh i : Nat), s.sheetAwake sh = true → s.lstate sh = 1 → (s.lnk sh).tx.retrain = true → u = s.sendBlock sh (s.bcnMt sh i) →
    exec (.blockTx sh i) s = .next (u.setLnk sh { u.lnk sh with tx := { (u.lnk sh).tx with retrain := false } })) ∧
  (∀ (s : State) (sh i : Nat), s.sheetAwake sh = true → s.lstate sh = 1 → (s.lnk sh).tx.retrain = false → (s.lnk sh).trn.phase ≠ 3 →
    exec (.blockTx sh i) s = .next (s.sendTraining sh)) ∧
  (∀ (s : State) (sh i : Nat), s.sheetAwake sh = true → 2 ≤ s.lstate sh → exec (.blockTx sh i) s = .next
    (((((s.dozeWake sh).sendAside sh).sendBlock sh (s.bcnMt sh i)).xchgSettle sh).beamsResume sh)) ∧
  (∀ (s u : State) (sh : Nat) (m : List Byte), s.takeCtl sh 1 = some (m, u) → (u.lnk sh).xchg = none →
    exec (.claimRx sh) s = .next (u.answerClaim sh (flitAt m 1 1) (flitAt m 2 2) (flitAt m 9 1))) ∧
  (∀ (s u : State) (sh : Nat) (m : List Byte) (e : Exchange), s.takeCtl sh 1 = some (m, u) → (u.lnk sh).xchg = some e → e.granted = true →
    exec (.claimRx sh) s = .next (u.sendCtrl sh 3 (flitAt m 1 1) (flitAt m 2 2) 1 (flitAt m 9 1) 0)) ∧
  (∀ (s u : State) (sh : Nat) (m : List Byte) (e : Exchange), s.takeCtl sh 2 = some (m, u) → (u.lnk sh).xchg = some e → e.ours = true →
    e.granted = false → e.tag = flitAt m 2 2 →
    exec (.grantRx sh) s = .next (if e.kind = 1 then (u.setLnk sh { u.lnk sh with xchg := some { e with granted := true } }).wakeSpare sh 2
      else (u.setLnk sh { u.lnk sh with xchg := some { e with granted := true } }).switchNow sh)) ∧
  (∀ (s u : State) (sh : Nat) (m : List Byte) (e : Exchange), s.takeCtl sh 3 = some (m, u) → (u.lnk sh).xchg = some e → e.ours = true →
    e.tag = flitAt m 2 2 → exec (.refuseRx sh) s = .next (u.xchgFail sh 1 (if e.granted then 7 else 6))) ∧
  (∀ (s u : State) (sh : Nat) (m : List Byte) (e : Exchange), s.takeCtl sh 4 = some (m, u) → (u.lnk sh).xchg = some e → e.ours = false →
    e.txAt = none → e.kind ≠ 1 → (u.lnk sh).again = none → exec (.doneRx sh) s = .next ((u.setLnk sh { u.lnk sh with xchg := none }).showXchg sh)) ∧
  (∀ (s u : State) (sh : Nat) (m : List Byte) (e : Exchange), s.takeCtl sh 5 = some (m, u) → (u.lnk sh).xchg = some e →
    exec (.spareReadyRx sh) s = .next (if e.kind = 1 ∧ e.ready = true ∧ e.txAt = none then
      (u.setLnk sh { u.lnk sh with xchg := some { e with pready := true } }).switchNow sh
      else u.setLnk sh { u.lnk sh with xchg := some { e with pready := true } })) ∧
  (∀ (s u : State) (sh : Nat) (m : List Byte) (e : Exchange), s.takeCtl sh 6 = some (m, u) → (u.lnk sh).xchg = some e →
    exec (.switchRx sh) s = .next (u.setLnk sh { u.lnk sh with xchg := some { e with
      rxAt := some (bcFrom (u.lnk sh).rx.bc (flitAt m 12 4 % 131072)) } })) ∧
  (∀ (s u : State) (sh : Nat) (m : List Byte), s.takeCtl sh 7 = some (m, u) → u.lstate sh = 3 → exec (.restoreRx sh) s = .next
    (u.setLnk sh { u.lnk sh with resRx := some (bcFrom (u.lnk sh).rx.bc (flitAt m 12 4 % 131072)) })) ∧
  (∀ (s u : State) (sh : Nat) (m : List Byte), s.takeCtl sh 8 = some (m, u) →
    exec (.commandRx sh) s = .next (u.envelopeIn (.spaxa sh) 0 ((m.drop 16).take (48 + leNat (((m.drop 16).drop 24).take 4))))) ∧
  (∀ (s : State) (sh : Nat) (e : Exchange), (s.lnk sh).xchg = some e → e.ours = true → e.granted = false →
    e.since + ((s.get (SPX_TIMER_XCHG_TO sh) * mtMs : Nat) : Int) ≤ s.mt → exec (.xchgTimeout sh) s = .next (s.xchgFail sh 2 6)) ∧
  (∀ (s : State) (sh : Nat), s.isSet (SPX_CTL_DOZE_EN sh) = true → s.lstate sh = 2 → s.sheetAwake sh = true → (s.lnk sh).xchg = none →
    s.dataWaits sh = false → (s.lnk sh).tx.sinceData + ((s.get (SPX_DOZE_IDLE sh) * mtUs : Nat) : Int) ≤ s.mt →
    exec (.dozeIdle sh) s = .next (s.claim sh { kind := 2, ours := true, tag := 0 }))

/-- Rows 164 to 170, the flits of the four kinds of streams taken from the receive buffer, and the beacons sent, received and lost. -/
def Obligations.StreamCommandsComplete : Prop :=
  (∀ (s u : State) (sh n c : Nat) (f : InFlit) (full : List Nat) (x : NodeStream), s.headFlit sh 0x10 = some f → f.stream < 256 → u = s.popFlit sh →
    x = u.nodeStream sh f.stream → x.declared = true → flitAt f.data 8 1 = x.format → n = flitAt f.data 0 8 → c = flitAt f.data 10 2 →
    x.next ≤ n → 0 < c → c ≤ 1760 / (formatWidth x.format * (if bit x.format 2 then 2 else 1)) → n + c ≤ x.nextN →
    exec (.sampleRx sh full) s = .next (((List.range c).foldl (fun (s : State) (j : Nat) =>
      (u.nodeSlots sh f.stream).foldl (fun (s : State) (k : Nat) => s.takeSample k (n + j)
        ⟨(sampleAt x.format (leNat (f.data.drop 12)) j).1, (sampleAt x.format (leNat (f.data.drop 12)) j).2, false, bit (flitAt f.data 9 1) 0,
          bit (flitAt f.data 9 1) 1, bit (flitAt f.data 9 1) 2, full.contains k⟩) s) u).setNode sh f.stream { x with next := n + c })) ∧
  (∀ (s : State) (sh : Nat) (f : InFlit) (full : List Nat), s.headFlit sh 0x10 = some f → ((s.popFlit sh).nodeStream sh (f.stream % 256)).declared = false →
    exec (.sampleRx sh full) s = .next ((s.popFlit sh).rxDiscard sh)) ∧
  (∀ (s u : State) (sh : Nat) (f : InFlit), s.headFlit sh 0x13 = some f → flitAt f.data 0 8 < flitAt f.data 28 8 → f.stream < 256 → u = s.popFlit sh →
    exec (.declareRx sh) s = .next (u.setNode sh f.stream { u.nodeStream sh f.stream with
      declared := true, nd := flitAt f.data 0 8, mt := mtAt f.data 8, period := flitAt f.data 20 8, nextN := flitAt f.data 28 8,
      format := flitAt f.data 36 1, tstate := flitAt f.data 37 1 % 4, missing := false })) ∧
  (∀ (s : State) (sh : Nat) (f : InFlit), s.headFlit sh 0x11 = some f → f.first = true → f.last = false →
    exec (.partialRx sh) s = .next ((s.popFlit sh).setUnit sh (0x10000 + f.stream) (some (f.data ++ List.replicate (232 - f.data.length) 0#8)))) ∧
  (∀ (s u : State) (sh : Nat) (f : InFlit) (b : Nat) (beams : List Nat) (l : List Byte) (v : List (Int × Int) × State),
    s.headFlit sh 0x11 = some f → f.first = true → f.last = true →
    l = f.data ++ List.replicate (232 - f.data.length) 0#8 → u = (s.popFlit sh).setUnit sh (0x10000 + f.stream) none →
    u.chainBeams sh f.stream = b :: beams → v = u.partVals (pieces 232 (l.length / 232 + 1) l) (flitAt l 14 2) →
    exec (.partialRx sh) s = .next ((b :: beams).foldl (fun (s : State) b =>
      s.takePartial b (flitAt l 0 8) (flitAt l 8 1 % 8) (flitAt l 12 2) (flitAt l 14 2) (flitAt l 10 2) v.1) v.2)) ∧
  (∀ (s u : State) (sh : Nat) (f : InFlit), s.headFlit sh 0x12 = some f → f.first = true → u = s.popFlit sh → bit (u.rxMap sh f.stream) 31 = true →
    u.streamInOn (bits (u.rxMap sh f.stream) 13 0) = true → exec (.queueFlitRx sh) s = .next (if f.last then
      (u.setUnit sh f.stream none).unitIn (bits (u.rxMap sh f.stream) 13 0) f.data else u.setUnit sh f.stream (some f.data))) ∧
  (∀ (s : State) (sh : Nat) (f : InFlit), s.headFlit sh 0x12 = some f → bit ((s.popFlit sh).rxMap sh f.stream) 31 = false →
    exec (.queueFlitRx sh) s = .next (((s.popFlit sh).rxDiscard sh).setUnit sh f.stream none)) ∧
  (∀ (s : State) (sh : Nat), s.isSet (SPX_CTL_BCN_EN sh) = true → s.linkActive sh = true → s.sheetAwake sh = true → s.beaconDue sh = true →
    exec (.beaconTx sh) s = .next (s.setLnk sh { s.lnk sh with
      tx := { (s.lnk sh).tx with beacon := true }, bcn := { (s.lnk sh).bcn with due := some s.mt } })) ∧
  (∀ (s : State) (sh : Nat) (l : List Byte) (t : Int) (r : List (List Byte × Int)), (s.lnk sh).rx.beacons = (l, t) :: r →
    (∃ e ∈ (s.lnk sh).bcn.dep, (e.2 - t).natAbs < 655360) → exec (.beaconRx sh) s = .next ((s.setLnk sh { s.lnk sh with
      rx := { (s.lnk sh).rx with beacons := r } }).wn (SPX_BCN_SEQ sh) (flitAt l 0 4))) ∧
  (∀ (s u : State) (sh : Nat) (l : List Byte) (came : Int) (r : List (List Byte × Int)), (s.lnk sh).rx.beacons = (l, came) :: r → (s.lnk sh).bcn.dep = [] →
    u = (s.setLnk sh { s.lnk sh with rx := { (s.lnk sh).rx with beacons := r } }).wn (SPX_BCN_SEQ sh) (flitAt l 0 4) →
    (sext 32 (u.rn (SPX_ASYM sh)) + sext 32 (flitAt l 36 4)).natAbs * 1000 ≤ 65536 → s.get TB_DISC_SRC ≠ 2 →
    exec (.beaconRx sh) s = .next (u.setLnk sh { u.lnk sh with bcn := { (s.lnk sh).bcn with
      arr := (((flitAt l 0 4, came) :: (s.lnk sh).bcn.arr).take 64), last := some (flitAt l 0 4, came), usable := some s.mt, lost := false } })) ∧
  (∀ (s : State) (sh : Nat), s.linkActive sh = true → (s.lnk sh).bcn.usable = none → (s.lnk sh).bcn.lost = false →
    exec (.beaconLost sh) s = .next (((s.setLnk sh { s.lnk sh with bcn := { (s.lnk sh).bcn with lost := true } }).raise evSPX_BEACON_LOST
      sh).timeLost sh))

/-- Rows 171 to 180, PCS_FAULT and PCS_FAULT_CLEAR: frames received, the merge window, heartbeats, faults held, the side of a pair, the replay
buffer, the host rings, and the faults of a port. -/
def Obligations.EthernetCommandsComplete : Prop :=
  (∀ (s : State) (p : Nat) (l : List Byte), s.portExists p = true → (l.length < 60 ∨ 9212 < l.length) →
    exec (.frameRx p true l) s = .next (s.ethCount (ETH_RX_ERR (p / 2) (p % 2)) p)) ∧
  (∀ (s : State) (p : Nat) (l : List Byte), s.portExists p = true → exec (.frameRx p false l) s = .next (s.ethCount (ETH_RX_ERR (p / 2) (p % 2)) p)) ∧
  (∀ (s : State) (p : Nat) (l : List Byte), s.portExists p = true → 60 ≤ l.length → l.length ≤ 9212 → beAt l (etherTypeAt l) 2 = 0x8808 →
    exec (.frameRx p true l) s = .next (s.ethCount (ETH_RX_DISC (p / 2) (p % 2)) p)) ∧
  (∀ (s : State) (p u d : Nat) (six : Bool) (l data : List Byte), s.portExists p = true → 60 ≤ l.length → l.length ≤ 9212 →
    beAt l (etherTypeAt l) 2 ≠ 0x8808 → udpAt l = some (u, six) → udpPayload l = some (d, data) →
    exec (.frameRx p true l) s = .next (s.datagram p l u six d data)) ∧
  (∀ (s : State) (p : Nat) (l : List Byte), s.portExists p = true → 60 ≤ l.length → l.length ≤ 9212 →
    beAt l (etherTypeAt l) 2 ≠ 0x8808 → udpAt l = none → exec (.frameRx p true l) s = .next (s.hostRx p l)) ∧
  (∀ (s : State) (n : Nat) (t : Int), (mapGet {} n s.rxs : RxStream).since = some t → t + ((s.get ETH_RXS_MERGE * mtUs : Nat) : Int) ≤ s.mt →
    exec (.mergeTimeout n) s = .next (s.rxLost n 66)) ∧
  (∀ (s : State) (p : Nat) (d : List Byte), s.portExists p = true → d.length = 32 → leNat (d.take 3) = 0x014248 →
    exec (.heartbeatRx p d) s = .next ((s.setPort p { s.port p with hbAt := some s.mt, hbLost := false, hbSince := true }).sideRestore p)) ∧
  (∀ (s : State), s.isSet RED_HB_EN = true → exec .heartbeatTx s = .next (s.pairedPorts.foldl State.sendHeartbeat s)) ∧
  (∀ (s : State) (p : Nat), s.isSet RED_HB_EN = true → (s.pairOf p).isSome = true → (s.port p).hbAt = none → (s.port p).hbLost = false →
    exec (.heartbeatTimeout p) s = .next ((s.setPort p { s.port p with hbLost := true }).sideFail p 5)) ∧
  (∀ (s : State) (p : Nat), s.portExists p = true → s.portUp p = false → (s.port p).since + ((10 * mtUs : Nat) : Int) ≤ s.mt →
    ((s.port p).am = true ∨ (s.port p).localF = true) →
    exec (.portFaultHeld p) s = .next ((s.setPort p { s.port p with held := 3 }).sideFail p 3)) ∧
  (∀ (s : State) (p : Nat), s.portExists p = true → s.portUp p = false → (s.port p).since + ((10 * mtUs : Nat) : Int) ≤ s.mt →
    (s.port p).localF = false → (s.port p).am = false → (s.port p).remoteF = true → exec (.portFaultHeld p) s = .next ((s.setPort p { s.port p with held := 4 }).sideFail p 4)) ∧
  (∀ (s u : State) (j : Nat) (v : Word), s.Opens ⟨0, 15, v⟩ (0x100100 + 4 * j) → j < 16 → s.pairFree j v.toNat = true →
    bits v.toNat 31 26 = bits (s.rn (RED_PAIR j)) 31 26 → bits v.toNat 23 18 = bits (s.rn (RED_PAIR j)) 23 18 →
    u = s.mergeRaw (RED_PAIR j).key ⟨0, 15, w32 (setBits v.toNat 17 17 (bits (s.rn (RED_PAIR j)) 17 17))⟩ →
    exec (.routeSideWrite j ⟨0, 15, v⟩) s = .next (if bits v.toNat 17 17 = s.get (RED_PAIR_SIDE j)
      then (u.sideWrite j (bits v.toNat 17 17)).raise evRED_ROUTE_CMD j [.w4 (bits v.toNat 17 17)] else u.sideWrite j (bits v.toNat 17 17))) ∧
  (∀ (s : State) (q : Nat), s.get (QUE_CFG4_DEST q) = 1 → exec (.rewindExpiry q) s = .next (s.releasePkts q ((s.que q).pk.length + 1))) ∧
  (∀ (s u : State) (m : Nat) (w : Wr) (l : List HtxDesc), s.Opens w (0x11010C + 0x800 * m) → u = s.mergeRaw (ETH_HTX_PI m).key w →
    u.isSet (ETH_HTX_CTL_EN m) = true → (u.func 0).bme = true → exec (.htxPiWrite m w l) s = .next
      (u.takeDescs m (l.take ((u.get (ETH_HTX_PI_V m) + 65536 - (u.hring m).txCi) % 65536)))) ∧
  (∀ (s u : State) (m : Nat) (w : Wr) (l : List Nat), s.Opens w (0x11011C + 0x800 * m) → u = s.mergeRaw (ETH_HRX_PI m).key w →
    u.isSet (ETH_HRX_CTL_EN m) = true → (u.func 0).bme = true → exec (.hrxPiWrite m w l) s = .next
      ((l.take ((u.get (ETH_HRX_PI_V m) + 65536 - (u.hring m).rxCi) % 65536)).foldl (fun (s : State) b => s.setHring m { s.hring m with
        rxCi := ((s.hring m).rxCi + 1) % 65536
        rx := (s.hring m).rx ++ [⟨s.rd64 (ETH_HRX_BASE_LO m) (ETH_HRX_BASE_HI m) + 32 * ((s.hring m).rxCi % 2 ^ s.get (ETH_HRX_CTL_SIZE m)),
          b, 2048⟩] }) u)) ∧
  (∀ (s : State) (p : Nat) (x : Port), s.portExists p = true → s.sheetState (s.portSheet p) = 2 →
    x = (if (s.port p).am || (s.port p).localF || (s.port p).remoteF then s.port p else { s.port p with since := s.mt }) →
    ((s.port p).am = false → exec (.pcsFault p 2) s = .next (((s.setPort p { x with am := true }).raise evETH_AM_LOCK_LOST p).portDown 2 p)) ∧
    ((s.port p).localF = false → exec (.pcsFault p 3) s = .next ((((s.setPort p { x with localF := true }).raise evETH_LOCAL_FAULT p).portDown 3
      p).emit (.remoteFault p true))) ∧
    ((s.port p).remoteF = false → exec (.pcsFault p 4) s = .next (((s.setPort p { x with remoteF := true }).raise evETH_REMOTE_FAULT p).portDown 4
      p))) ∧
  (∀ (s : State) (p : Nat), exec (.pcsFaultClear p) s = .next (((if (s.port p).localF then s.emit (.remoteFault p false) else s).setPort p
    { s.port p with am := false, localF := false, remoteF := false, held := 0 }).portRise p))

/-- Rows 181 to 190 and BUS_MASTER_ENABLE_WRITE: a function-level reset, the number of virtual functions, the link, the PTM dialog, message
moderation, the masks of the vectors and Bus Master Enable (R508, R511 to R516). -/
def Obligations.PcieCommandsComplete : Prop :=
  (∀ (s : State) (fn : Nat), fn < 32 → (s.func fn).present = true → exec (.functionLevelReset fn) s = .next (s.flr fn)) ∧
  (∀ (s : State) (n : Nat), n < 31 → (∀ k < 32, (s.func k).present = decide (k ≤ n + 1)) → exec (.vfDisable n) s = .next
    ((s.flr (n + 1)).setFunc (n + 1) { (s.flr (n + 1)).func (n + 1) with present := false })) ∧
  (∀ (s : State), s.linkUp = true → exec .pcieLinkDown s = .next (s.functions.foldl State.flrState { s with linkUp := false })) ∧
  (∀ (s : State), exec .pcieLinkUp s = .next (({ s with linkUp := true } : State).put CLK_STAT_PCIE_REFCLK_OK 1)) ∧
  (∀ (s u : State) (w : Wr), s.Opens w 0x120 → w.hits 30 = true → u = s.mergeRaw SYS_PTM_CTL.key w → u.isSet SYS_PTM_CTL_EN = true →
    (u.func 0).ptmEn = true → u.linkUp = true → u.ptm = none → exec (.ptmStart w) s = .next { u with ptm := some ⟨u.mt, u.tstate⟩ }) ∧
  (∀ (s : State), s.ptmDue = true → s.isSet SYS_PTM_CTL_EN = true → (s.func 0).ptmEn = true → s.linkUp = true → s.ptm = none →
    exec .ptmDialog s = .next { s with ptmAt := some s.mt, ptm := some ⟨s.mt, s.tstate⟩ }) ∧
  (∀ (s : State) (d : PtmDialog) (m x : Nat) (p : Nat × Nat × Nat), s.ptm = some d → s.mt ≤ d.mt1 + ((100 * mtUs : Nat) : Int) → p = mtParts (d.mt1 + ((x % 2 ^ 32 * mtNs : Nat) : Int)) →
    exec (.ptmResponseRx m x) s = .next ((((((({ s with ptm := none } : State).wr64 SYS_PTM_HOST_LO SYS_PTM_HOST_HI m).wn SYS_PTM_MT_FRAC
      p.2.2).wn SYS_PTM_MT_NS p.2.1).wr64 SYS_PTM_MT_SEC_LO SYS_PTM_MT_SEC_HI p.1).wn SYS_PTM_DLY x).put SYS_PTM_SEQ_STATE d.state |>.put
      SYS_PTM_SEQ_SEQ (s.get SYS_PTM_SEQ_SEQ + 1))) ∧
  (∀ (s : State) (d : PtmDialog), s.ptm = some d → d.mt1 + ((100 * mtUs : Nat) : Int) ≤ s.mt → exec .ptmTimeout s = .next
    ((({ s with ptm := none } : State).put SYS_PTM_SEQ_FAIL (satAdd 8 (s.get SYS_PTM_SEQ_FAIL) 1)).raise evSYS_PTM_FAIL)) ∧
  (∀ (s : State) (fn v : Nat), (s.vec fn v).waiting = true → s.vecBusy fn v = false → s.vecBlocked fn v = false →
    exec (.msixModerationEnd fn v) s = .next (s.vecSend fn v)) ∧
  (∀ (s : State) (fn v : Nat), (s.vec fn v).waiting = true → s.vecBusy fn v = false → s.vecBlocked fn v = true →
    exec (.msixModerationEnd fn v) s = .next (s.setVec fn v { s.vec fn v with waiting := false, pba := true })) ∧
  (∀ (s : State) (fn v addr data : Nat) (m : Bool), fn < 32 → (s.func fn).present = true → s.linkUp = true → v < vecCount fn →
    exec (.msixUnmask fn (.entry v addr data m)) s = .next ((s.setVec fn v { s.vec fn v with addr := addr, data := data, masked := m }).vecRelease fn)) ∧
  (∀ (s : State) (fn : Nat) (en fm : Bool), fn < 32 → (s.func fn).present = true → s.linkUp = true →
    exec (.msixUnmask fn (.control en fm)) s = .next ((s.setFunc fn { s.func fn with msixEn := en, fmask := fm }).vecRelease fn)) ∧
  (∀ (s : State) (fn : Nat) (ptm : Bool), fn < 32 → (s.func fn).present = true → s.linkUp = true →
    exec (.busMasterEnableWrite fn true ptm) s = .next (((s.setFunc fn { s.func fn with bme := true, ptmEn := ptm }).vecRelease fn).dxFill) ∧
    exec (.busMasterEnableWrite fn false ptm) s = .next ((s.setFunc fn { s.func fn with bme := false, ptmEn := ptm }).ringsDisable fn))

/-- Rows 191 to 197 and 346 to 349: the doorbells of the rings, envelopes, the borough keys, command rings, the pad of a ring, the reset of a
borough, the doorbell of a delivery ring and the window of the command rate. -/
def Obligations.CommandPathsComplete : Prop :=
  (∀ (s : State) (r : Nat) (w : Wr) (d : List Byte), (s.func w.fn).held = none → s.isSet SYS_START_READY = true → w.be % 16 = 15 → r < 4 →
    exec (.dbCmdPiWrite r w d) s = .next (s.cmdPi w.fn r (w.v.toNat % 65536) d)) ∧
  (∀ (s : State) (r : Nat) (w : Wr), (s.func w.fn).held = none → s.isSet SYS_START_READY = true → w.be % 16 = 15 → r < 4 →
    s.isSet (BRG_CRING_CTL_EN w.fn r) = true → (s.get (BRG_CPL_PI_V w.fn r) + 65536 - w.v.toNat % 65536) % 65536 ≤ s.cplSize w.fn r →
    exec (.dbCplCiWrite r w) s = .next (((s.setCring w.fn r { s.cring w.fn r with cplCi := w.v.toNat % 65536 }).cplFlush w.fn r
      (s.cring w.fn r).replies).settle)) ∧
  (∀ (s : State) (r : Nat) (w : Wr), (s.func w.fn).held = none → s.isSet SYS_START_READY = true → w.be % 16 = 15 → r < 4 →
    s.isSet (BRG_CRING_CTL_EN w.fn r) = false → exec (.dbCplCiWrite r w) s = .next ((s.put (BRG_CRING_STAT_PI_BAD_SEEN w.fn r) 1).raise
      evCMD_PI_BAD (4 * w.fn + r) [] w.fn)) ∧
  (∀ (s : State) (port addr udp b c : Nat) (l pkt : List Byte), s.isSet CMD_UDP_EN = true → s.engineShut = false →
    s.envelopeOver l = none → s.openEnvelope l = some (b, 1, c, pkt) → (s.env b).fresh c = true → exec (.cmdEnvelopeRx port addr udp 0 l) s = .next
      (((s.setEnv b ((s.env b).take c)).arrive (packetOf (.udp port addr udp) b pkt.length pkt).1
        (packetOf (.udp port addr udp) b pkt.length pkt).2).settle)) ∧
  (∀ (s : State) (port addr udp b c : Nat) (l pkt : List Byte), s.isSet CMD_UDP_EN = true → s.engineShut = false →
    s.envelopeOver l = none → s.openEnvelope l = some (b, 1, c, pkt) → (s.env b).fresh c = false → exec (.cmdEnvelopeRx port addr udp 0 l) s = .next
      ((s.bumpSat CMD_UDP_REPLAY evCMD_CNT_SAT).raise evCMD_REPLAY_DROP 65535 [] b)) ∧
  (∀ (s : State) (port addr udp b : Nat) (l : List Byte), s.isSet CMD_UDP_EN = true → s.engineShut = false → s.envelopeOver l = some b →
    exec (.cmdEnvelopeRx port addr udp 0 l) s = .next ((s.bumpSat CMD_UDP_DROP evCMD_CNT_SAT).rateSay b)) ∧
  (∀ (s u : State) (w : Wr), s.Opens w CMD_KEY_CTL.key → w.hits 31 = true → w.hits 30 = false → u = s.mergeRaw CMD_KEY_CTL.key w →
    exec (.cmdKeyLoad w) s = .next { u.keyLoad (u.get CMD_KEY_CTL_B) ((List.range 8).flatMap (fun i => leBytes 4
      (mapGet 0#32 i u.keyStage).toNat)) with keyStage := [] }) ∧
  (∀ (s u : State) (w : Wr), s.Opens w CMD_KEY_CTL.key → w.hits 31 = false → w.hits 30 = true → u = s.mergeRaw CMD_KEY_CTL.key w →
    exec (.cmdKeyClear w) s = .next (u.keyClear (u.get CMD_KEY_CTL_B))) ∧
  (∀ (s : State) (b r : Nat) (v : Word), b < 32 → r < 4 → (s.func b).held = none → s.shut 0x84000 = false → bit (s.rn (BRG_CRING_CTL b r)) 31 = false →
    bits v.toNat 26 16 < vecCount b → bit v.toNat 31 = true → exec (.cringEnable b r ⟨b, 15, v⟩) s = .next
      ((s.mergeRaw (BRG_CRING_CTL b r).key (Wr.keep ⟨b, 15, v⟩ (s.rn (BRG_CRING_CTL b r)) 31 31)).ringEnable b r)) ∧
  (∀ (s : State) (p : Packet), exec (.padOpcode p) s = .next ((s.announce p).arrive 0 p)) ∧
  (∀ (s u : State) (b : Nat) (w : Wr), s.Opens w 0x80100 → b < 32 → w.hits 31 = true → u = s.mergeRaw (BRG_CTL b).key w → 1 ≤ b →
    u.get (BRG_STAT_STATE b) = 0 → exec (.brgCtlReset b w) s = .next (u.boroughReset b)) ∧
  (∀ (s : State) (b : Nat) (w : Wr), w.fn = b → b ≠ 0 → (s.func b).held = none → s.shut 0x80100 = false → b < 32 → w.hits 31 = true →
    s.get (BRG_STAT_STATE b) = 0 → exec (.brgCtlReset b w) s = .next (s.boroughReset b)) ∧
  (∀ (s : State) (b : Nat), s.get (BRG_STAT_STATE b) = 1 → exec (.boroughResetDone b) s = .next
    (((s.put (BRG_STAT_STATE b) 0).bump (BRG_RESETS b)).raise evBRG_RESET_DONE b [] b)) ∧
  (∀ (s : State) (i n : Nat) (w : Wr), (s.func w.fn).held = none → s.isSet SYS_START_READY = true → w.be % 16 = 15 → i < 4096 →
    (s.delivery w.fn i).on = true → n = (w.v.toNat + 2 ^ 32 - (s.delivery w.fn i).taken % 2 ^ 32) % 2 ^ 32 →
    (s.delivery w.fn i).taken + n ≤ (s.delivery w.fn i).total →
    exec (.deliveryDoorbell i w) s = .next (s.setDelivery w.fn i { s.delivery w.fn i with taken := (s.delivery w.fn i).taken + n })) ∧
  (∀ (s : State), exec .cmdRateWindow s = .next s.settle)

/-- Rows 350, 351 and 358 to 361: the two doorbells of the tenant mask, the end of a coalescing window, clearing pending bits, writing the
logbook and its scan at start-up. -/
def Obligations.EventCommandsComplete : Prop :=
  (∀ (s : State) (w : Wr), (s.func w.fn).held = none → s.isSet SYS_START_READY = true → w.be % 16 = 15 → w.fn ≠ 0 → bits w.v.toNat 8 0 ≤ 287 →
    exec (.dbEvtSrc w) s = .next (s.wn (EVT_TMASK (bits w.v.toNat 8 0)) (setBits (s.rn (EVT_TMASK (bits w.v.toNat 8 0))) w.fn w.fn
      (b2n (bit w.v.toNat 31))))) ∧
  (∀ (s : State) (w : Wr), (s.func w.fn).held = none → s.isSet SYS_START_READY = true → w.be % 16 = 15 → w.fn ≠ 0 → 287 < bits w.v.toNat 8 0 →
    exec (.dbEvtSrc w) s = .next (s.raise evBRG_DB_BAD w.fn [] w.fn)) ∧
  (∀ (s : State) (w : Wr), (s.func w.fn).held = none → s.isSet SYS_START_READY = true → w.be % 16 = 15 → w.fn ≠ 0 →
    exec (.dbEvtAll w) s = .next ((List.range 288).foldl (fun (s : State) n => s.tmaskBit w.fn n (bit w.v.toNat 0)) s)) ∧
  (∀ (s : State) (x : EvWindow) (r : List EvWindow), s.windows = x :: r → x.ends ≤ s.mt → exec .evtWindowEnd s = .next (s.closeWindow x)) ∧
  (∀ (s : State) (x : EvWindow) (r : List EvWindow), s.windows = x :: r → x.ends ≤ s.mt → x.count = 0 → x ∉ r →
    ∃ t, exec .evtWindowEnd s = .next t ∧ t = { s with windows := r }) ∧
  (∀ (s : State) (k : Nat) (w : Wr), s.Opens w (0x51800 + 4 * k) → k < 9 → exec (.evtPendWrite k w) s = .next (s.mergeRaw (EVT_PEND k).key w)) ∧
  (∀ (s : State) (i : StageItem), s.isSet LOG_STAT_READY = true → s.stageNext = some i →
    s.logRepeats i = none → s.log.slots.length < logSlots → s.isSet LOG_STAT_STOPPED = false → exec (.logWrite 0) s = .next
    (({ s with stageQ := s.stageQ.erase i } : State).logPut s.log.slots.length ⟨s.rd64 LOG_HEAD_LO LOG_HEAD_HI + 1, i.item, true⟩)) ∧
  (∀ (s : State) (i : StageItem), s.isSet LOG_STAT_READY = true → s.stageNext = some i →
    s.logRepeats i = none → s.isSet LOG_STAT_STOPPED = true → exec (.logWrite 0) s = .next ({ s with stageQ := s.stageQ.erase i } : State).logRefuse) ∧
  (∀ (s : State), s.isSet LOG_STAT_READY = false → exec .logScan s = .next s.logScan) ∧
  (∀ (s : State) (fails : Nat), s.isSet LOG_STAT_READY = true → s.stageQ = [] → exec (.logWrite fails) s = .next s)

/-- Rows 352 to 357: copies of a district send go out, are retried, answered and collected; fault reports fold into digests, which close. -/
def Obligations.GazetteerCommandsComplete : Prop :=
  (∀ (s : State) (d e : Nat) (r : List Nat) (x : GazSend) (y : GazEntry) (sl gen : Nat) (c : GazCopy), s.gazSend d = some x → x.isOver = false →
    s.gazLeft d x.next = e :: r → s.gazEntry e = some y → s.mt ≤ x.act - ((2 * mtUs : Nat) : Int) → s.copyDue = true →
    sl = ((List.range 4).find? (fun i => y.dists.getD i 0 == d)).getD 0 → gen = (bits y.gens (4 * sl + 3) (4 * sl) + 1) % 16 →
    c = { e := e, relay := y.kind == 3, tag := 0xFFFC + sl, gen := gen, last := s.mt } → exec (.gazCopyTx d) s = .next
    (((({ s.setEntry e (some { y with gens := setBits y.gens (4 * sl + 3) (4 * sl) gen }) with gazBook := {
      (s.setEntry e (some { y with gens := setBits y.gens (4 * sl + 3) (4 * sl) gen })).gazBook with copyAt := some s.mt } } : State)).setSend d { x with
      next := e + 1, copies := x.copies ++ [c] }).gazTransmit y (c.bytes d x.inner))) ∧
  (∀ (s : State) (d e : Nat) (r : List Nat) (x : GazSend) (y : GazEntry), s.gazSend d = some x → x.isOver = false →
    s.gazLeft d x.next = e :: r → s.gazEntry e = some y → x.act - ((2 * mtUs : Nat) : Int) < s.mt →
    exec (.gazCopyTx d) s = .next ((s.gazTooLate d e x).gazCheck d)) ∧
  (∀ (s : State) (d e : Nat) (x : GazSend) (c : GazCopy) (y : GazEntry), s.gazSend d = some x → x.copies.find? (fun k => k.e == e) = some c →
    s.gazEntry e = some y → x.isOver = false → c.done = false → c.last + ((x.retry * mtMs : Nat) : Int) ≤ s.mt →
    exec (.gazRetry d e) s = .next ((s.setSend d { x with copies := x.copies.map (fun (k : GazCopy) => if k.e = e then { k with last := s.mt }
      else k) }).gazTransmit y (c.bytes d x.inner))) ∧
  (∀ (s : State) (e c : Nat) (env r : List Byte), s.openEnvelope env = some (0, 2, c, r) →
    exec (.gazOutcomeRx e env) s = .next (s.gazReply e (bytesWords r))) ∧
  (∀ (s : State) (e : Nat) (env : List Byte), s.openEnvelope env = none → exec (.gazOutcomeRx e env) s = .next (s.authFail 0)) ∧
  (∀ (s : State) (d : Nat) (x : GazSend), s.gazSend d = some x → x.isOver = false → x.act + ((x.collect * mtMs : Nat) : Int) ≤ s.mt →
    exec (.gazCollectEnd d) s = .next (s.gazFinish d)) ∧
  (∀ (s : State) (l : List Byte), s.isSet GAZ_FR_EN = true → s.reportOk l = true → s.digestOf (leNat ((l.drop 12).take 4)) (leNat ((l.drop 5).take 1)) = none →
    exec (.faultReportRx l) s = .next (s.reportFold (leNat ((l.drop 12).take 4)) (leNat ((l.drop 5).take 1)) (leNat ((l.drop 8).take 4)))) ∧
  (∀ (s : State) (l : List Byte), s.isSet GAZ_FR_EN = true → s.reportOk l = false → exec (.faultReportRx l) s = .next s.reportRefuse) ∧
  (∀ (s : State) (u c : Nat) (x : Digest), s.digestOf u c = some x → x.closes ≤ s.mt → exec (.digestClose u c) s = .next (s.digestClose x))

/-- Rows 362 to 370: a domain is put to sleep and woken, its drain and its wake end or run out of time, and engines, slots and cores fail. -/
def Obligations.PowerCommandsComplete : Prop :=
  (∀ (s u : State) (d : Nat) (w : Wr), s.Opens w (0x10100 + 4 * d) → d ≤ 96 → w.hits 31 = true → w.hits 30 = false → u = s.mergeRaw (PWR_DOM d).key w →
    u.get (PWR_DOM_STATE d) = 0 → u.domainInUse d = false →
    exec (.pwrDown d w) s = .next (if (((u.put (PWR_DOM_CODE d) 0).put (PWR_DOM_STATE d) 1).domStamp d).isSet (PWR_DOM_REFUSE d) = true
      then (((u.put (PWR_DOM_CODE d) 0).put (PWR_DOM_STATE d) 1).domStamp d).refuseItems d
      else ((u.put (PWR_DOM_CODE d) 0).put (PWR_DOM_STATE d) 1).domStamp d)) ∧
  (∀ (s u : State) (d : Nat) (w : Wr), s.Opens w (0x10100 + 4 * d) → d ≤ 96 → w.hits 31 = true → w.hits 30 = false → u = s.mergeRaw (PWR_DOM d).key w →
    u.get (PWR_DOM_STATE d) = 0 → u.domainInUse d = true → exec (.pwrDown d w) s = .next (u.put (PWR_DOM_CODE d) 1)) ∧
  (∀ (s u : State) (d : Nat) (w : Wr), s.Opens w (0x10100 + 4 * d) → d ≤ 96 → d ≠ 93 → w.hits 31 = false → w.hits 30 = true →
    u = s.mergeRaw (PWR_DOM d).key w → u.get (PWR_DOM_STATE d) = 2 →
    exec (.pwrUp d w) s = .next (((u.put (PWR_DOM_CODE d) 0).put (PWR_DOM_STATE d) 3).domStamp d)) ∧
  (∀ (s : State) (d : Nat), s.get (PWR_DOM_STATE d) = 1 → d ≠ 95 → s.domDrained d = true →
    exec (.drainComplete d) s = .next (((s.domainAsleep d).raise evPWR_DOMAIN_DOWN d).finishDomain 0x1001 d 0)) ∧
  (∀ (s : State) (d : Nat), s.get (PWR_DOM_STATE d) = 1 → s.domPassed d 100000 = true → exec (.drainTimeout d) s = .next
    (((((((s.put (PWR_DOM_STATE d) 0).refusedEnd d).put (PWR_DOM_CODE d) 3).put PWR_STAT_DRAIN_FAIL_SEEN 1).raise evPWR_DRAIN_FAIL d).finishDomain 0x1001 d 0x781))) ∧
  (∀ (s : State) (d : Nat), s.get (PWR_DOM_STATE d) = 3 → d ≠ 93 →
    exec (.wakeComplete d) s = .next (((s.domainAwake d).raise evPWR_DOMAIN_UP d).finishDomain 0x1002 d 0)) ∧
  (∀ (s : State) (d : Nat), s.get (PWR_DOM_STATE d) = 3 → s.domPassed d (2 * wakeTime d) = true → exec (.wakeTimeout d) s = .next ((((((s.put (PWR_DOM_STATE d) 2).put
    (PWR_DOM_CODE d) 2).put PWR_STAT_WAKE_FAIL_SEEN 1).raise evPWR_WAKE_FAIL d).finishDomain 0x1002 d 0x780))) ∧
  (∀ (s : State) (p : Nat), exec (.engFail p false) s = .next (s.engFail p)) ∧
  (∀ (s : State) (p : Nat), mapGet ({} : EngErr) p s.engErrs = {} → exec (.engFail p true) s = .next
    (({ s with engErrs := mapPut {} p ⟨s.mt / (3600 * mtSec : Int), 1⟩ s.engErrs } : State).put (PWR_ENG_CORR p)
      (satAdd 16 (s.get (PWR_ENG_CORR p)) 1))) ∧
  (∀ (s u : State) (n : Nat), n < 1024 → s.retiredSlots.contains n = false → s.failingSlots.contains n = false →
    u = (({ s with failingSlots := n :: s.failingSlots } : State).raise evPWR_SLOT_FAIL n) → (u.spareSlot n).isSome = true →
    exec (.slotFail n) s = .next (if u.armed 2 then u.slotSubstitute n true else u)) ∧
  (∀ (s u : State) (k a : Nat), k < 5 → s.get (PWR_CORE_STATE k) = 0 →
    u = ((s.put (PWR_CORE_STATE k) 2).raise evPWR_CORE_FAIL k).finishCmd a 0x11 [] → u.sparesLeft 8 ≠ 0 →
    exec (.coreFail k false (some a)) s = .next (if u.armed 8 then u.coreSubstitute k true else u)) ∧
  (∀ (s : State) (k : Nat), k < 5 → s.get (PWR_CORE_STATE k) = 0 → mapGet none k s.coreDog = none → exec (.coreFail k true none) s = .next
    (({ s with coreDog := mapPut none k (some s.mt) s.coreDog } : State).put (PWR_CORE_WDOG k) (satAdd 16 (s.get (PWR_CORE_WDOG k)) 1)))

/-- Rows 371 to 385, 398 to 402, CLK_PLL_UNLOCK and AON_MONITOR_RELEASE: the power-on reset, the supply, the start of the clock and of the
units, warm resets, Falarn, and the loss and return of the clocks. -/
def Obligations.StartCommandsComplete : Prop :=
  (∀ (s : State) (torn : Bool), exec (.porAssert torn) s = .next { s.powerReset 0 torn with porLow := true }) ∧
  (∀ (s : State) (torn : Bool), exec (.aonMonitorReset torn) s = .next { s.powerReset 1 torn with
    start := { (s.powerReset 1 torn).start with aonLow := true } }) ∧
  (∀ (s : State), exec .supplyFault s = .next ((s.put SYS_START_SUPPLY 1).raise evSYS_SUPPLY_FAULT)) ∧
  (∀ (s : State), exec .porRelease s = .next { s with porLow := false } ∧
    exec .aonMonitorRelease s = .next { s with start := { s.start with aonLow := false } }) ∧
  (∀ (s : State), s.tb.locked = false → s.porLow = false → s.start.aonLow = false → exec .xoFail s = .next
    ((((s.put TB_STATUS_COARSE 1).put CLK_STAT_XO_FAIL_SEEN 1).clockStart).raise evCLK_XO_FAIL 65535 [] 0 false true)) ∧
  (∀ (s u : State), s.tb.locked = true → s.isSet SYS_START_READY = false → s.isSet SYS_START_WARM_ACT = false → s.start.trained = [] →
    u = (List.range 6).foldl (fun (s : State) n => s.put CLK_STAT_STACK_LOCK (s.get CLK_STAT_STACK_LOCK ||| 2 ^ n)) s →
    exec (.stackTrainingDone 0) s = .next { u with start := { u.start with trained := List.range 6 } }) ∧
  (∀ (s u : State), s.tb.locked = true → s.isSet SYS_START_READY = false → s.isSet SYS_START_WARM_ACT = false → s.start.trained ≠ [] →
    s.isSet LOG_STAT_READY = true → s.isSet CAL_STAT_LOAD_DONE = true →
    (List.range 18).any (fun p => s.isSet (TIM_CORE_STAT_RUNNING p)) = false → s.start.warmHeld = none →
    u = (List.range s.part.part.dies).foldl (fun (s : State) d => s.put (CNV_DIE_STAT_LINK_UP d) 1) s →
    exec (.startDone 0 0) s = .next ((u.put SYS_START_READY 1).raise evSYS_START_DONE)) ∧
  (∀ (s : State), s.porLow = false → s.start.aonLow = false → s.isSet SYS_START_WARM_ACT = false →
    (s.isSet SYS_START_READY = true → exec .warmNRequest s = .next (s.warmReset 2)) ∧
    (s.isSet SYS_START_READY = false → s.start.warmHeld = none → exec .warmNRequest s = .next { s with start := { s.start with warmHeld := some 2 } })) ∧
  (∀ (s : State) (v : Word), s.Opens ⟨0, 15, v⟩ SYS_RST_CTL.key → v.toNat % 65536 = 0xA5C3 → bit v.toNat 31 = true → s.porLow = false →
    s.start.aonLow = false → s.isSet SYS_START_WARM_ACT = false → s.isSet SYS_START_READY = true →
    exec (.warmRegRequest ⟨0, 15, v⟩) s = .next (s.warmReset 3)) ∧
  (∀ (s : State) (v : Word), s.Opens ⟨0, 15, v⟩ SYS_RST_CTL.key → v.toNat % 65536 = 0xA5C3 → bit v.toNat 31 = false → bit v.toNat 30 = true →
    exec (.fwRestartRequest ⟨0, 15, v⟩) s = .next s.fwRequest) ∧
  (∀ (s : State) (v : Word), s.Opens ⟨0, 15, v⟩ SYS_RST_CTL.key → v.toNat % 65536 ≠ 0xA5C3 →
    exec (.warmRegRequest ⟨0, 15, v⟩) s = .next (s.raise evSYS_ACCESS_VALUE 0)) ∧
  (∀ (s : State), s.isSet SYS_START_WARM_ACT = true → exec .warmResetDone s = .next (((s.put SYS_START_WARM_ACT 0).put SYS_START_READY 1).raise
    evSYS_WARM_RESET 65535 [.w4 (s.get SYS_RST_CAUSE_CAUSE)] 0 false true)) ∧
  (∀ (s : State), s.get SYS_BOOT_FW = 1 → exec .fwRunning s = .next (s.put SYS_BOOT_FW 2)) ∧
  (∀ (s u : State), s.get SYS_BOOT_FW = 1 → s.start.fwAt + ((500 * mtMs : Nat) : Int) ≤ s.mt → u = s.raise evSYS_FW_WATCHDOG → (s.start.second = true ∨ s.imageOk (2 - s.get SYS_BOOT_RUN) = false) →
    exec .fwWatchdog s = .next ({ u with start := { u.start with second := true } } : State).fwNone) ∧
  (∀ (s u : State), s.get SYS_BOOT_FW = 1 → s.start.fwAt + ((500 * mtMs : Nat) : Int) ≤ s.mt → u = s.raise evSYS_FW_WATCHDOG → s.start.second = false → s.imageOk (2 - s.get SYS_BOOT_RUN) = true →
    exec .fwWatchdog s = .next (({ u with start := { u.start with second := true } } : State).fwRun (2 - s.get SYS_BOOT_RUN))) ∧
  (∀ (s : State), s.start.restart = true → exec .fwStarted s = .next (if s.get SYS_BOOT_RUN = 0 then
    { s with start := { s.start with restart := false } }
    else ({ s with start := { s.start with restart := false } } : State).raise evSYS_FW_STARTED)) ∧
  (∀ (s u : State) (w : Wr), s.Opens w SYS_IMG_CTL.key → u = s.mergeRaw SYS_IMG_CTL.key w → w.hits 31 = true → exec (.imageVerify w) s = .next u.imageVerify) ∧
  (∀ (s : State) (d : Int), s.isSet CLK_STAT_REFCLK_OK = true → d.natAbs ≤ 5000 →
    exec (.refclkGate d) s = .next ((s.wn CLK_REFCLK_DEV (toBits 32 d)).put CLK_STAT_REFCLK_IN_RANGE 1)) ∧
  (∀ (s u : State) (d : Int), s.isSet CLK_STAT_REFCLK_OK = true → 5000 < d.natAbs → u = s.wn CLK_REFCLK_DEV (toBits 32 d) →
    u.isSet CLK_STAT_REFCLK_IN_RANGE = true → exec (.refclkGate d) s = .next (((u.put CLK_STAT_REFCLK_IN_RANGE 0).put CLK_STAT_RANGE_SEEN
      1).raise evCLK_REFCLK_RANGE 65535 [.w4 d])) ∧
  (∀ (s : State), s.isSet CLK_STAT_REFCLK_OK = true → exec .refclkLost s = .next ((List.range s.part.groups).foldl State.groupUnlock
    (((((s.put CLK_STAT_REFCLK_OK 0).put CLK_STAT_REFCLK_LOST_SEEN 1).wn CLK_REFCLK_DEV 0x80000000).unlockCount).raise evCLK_REFCLK_LOST))) ∧
  (∀ (s : State), s.isSet CLK_STAT_REFCLK_OK = false → s.part.part ≠ .q768n → exec .refclkBack s = .next ((s.put CLK_STAT_REFCLK_OK 1).raise evCLK_REFCLK_BACK)) ∧
  (∀ (s : State), s.isSet CLK_STAT_PCIE_REFCLK_OK = true → exec .pcieRefclkLost s = .next
    ((((s.put CLK_STAT_PCIE_REFCLK_OK 0).put CLK_STAT_PCIE_REFCLK_LOST_SEEN 1).unlockCount).raise evCLK_PCIE_REFCLK_LOST)) ∧
  (∀ (s : State) (k : Nat), k < 12 → exec (.clkPllUnlock k) s = .next (s.put ⟨CLK_STAT, pllBit k, pllBit k⟩ 0)) ∧
  (∀ (s : State) (k : Nat), k < 12 → (k < 2 ∨ 8 ≤ k) → s.isSet ⟨CLK_STAT, pllBit k, pllBit k⟩ = false → s.tb.locked = true →
    exec (.clkPllRelock k) s = .next ((((s.put ⟨CLK_STAT, pllBit k, pllBit k⟩ 1).put (pllEvent k).1 1).unlockCount).raise (pllEvent k).2
      (if k < 2 then 65535 else k - 8)))

/-- Rows 386 to 397: transactions of the buses, polls, alerts, the signals with their edges and markers, and the test access port. -/
def Obligations.ManagementCommandsComplete : Prop :=
  (∀ (s u : State) (w : Wr), s.Opens w 0x120010 → w.hits 31 = true → u = s.mergeRaw MGB_XFER.key w → u.awake 94 = true → u.mgb.running = false →
    u.isSet (MGB_BUS_CTL_EN (u.get MGB_XFER_BUS)) = true →
    exec (.mgbXferGo w) s = .next ((((({ u with mgb := { u.mgb with running := true, bus := u.get MGB_XFER_BUS, nrd := u.get MGB_XFER_NRD } } :
      State).emit (.mgBus (u.get MGB_XFER_BUS) (u.get MGB_XFER_ADDR) (u.isSet MGB_XFER_PEC) ((List.range (u.get MGB_XFER_NWR)).flatMap (fun i =>
      leBytes 1 (u.get ⟨MGB_XDATA (i / 4), 8 * (i % 4) + 7, 8 * (i % 4)⟩))) (u.get MGB_XFER_NRD))).put MGB_XFER_GO 1).put MGB_XSTAT_DONE 0))) ∧
  (∀ (s u : State) (w : Wr), s.Opens w 0x120010 → w.hits 31 = true → u = s.mergeRaw MGB_XFER.key w → u.awake 94 = true → u.mgb.running = false →
    u.isSet (MGB_BUS_CTL_EN (u.get MGB_XFER_BUS)) = false →
    exec (.mgbXferGo w) s = .next (((u.put MGB_XSTAT_CODE 8).put MGB_XSTAT_BYTES 0).put MGB_XSTAT_DONE 1)) ∧
  (∀ (s u : State) (c n : Nat) (d : List Byte), s.mgb.running = true → c = 0 ∨ (2 ≤ c ∧ c ≤ 7) →
    u = ({ s with mgb := { s.mgb with running := false } } : State).put MGB_XFER_GO 0 → exec (.mgbXferDone c n d) s = .next
    (((((u.xdataPut (d.take s.mgb.nrd)).put MGB_XSTAT_CODE c).put MGB_XSTAT_BYTES n).put MGB_XSTAT_DONE 1).busCode s.mgb.bus c)) ∧
  (∀ (s u : State) (i c v : Nat), i < 16 → s.isSet (MGB_POLL_VALID i) = true → s.get SYS_BOOT_FW = 2 → s.awake 94 = true → s.mgb.polled = [] →
    s.isSet (MGB_BUS_CTL_EN (s.get (MGB_POLL_BUS i))) = true → c = 0 → s.isSet (MGB_POLL_WORD i) = true →
    u = s.emit (.mgBus (s.get (MGB_POLL_BUS i)) (s.get (MGB_POLL_ADDR i)) (s.isSet (MGB_BUS_CTL_PEC (s.get (MGB_POLL_BUS i))))
      (leBytes 1 (s.get (MGB_POLL_CMD i))) 2) →
    exec (.mgbPoll i c v) s = .next (((({ u with mgb := { u.mgb with polled := mapInsert i s.mt [] } } : State).put (MGB_POLLV_CODE i) 0).put
      (MGB_POLLV_VAL i) (v % 65536)))) ∧
  (∀ (s : State) (a : Option Nat), s.isSet MGB_ALERT_CTL_EN = true → s.awake 94 = true → exec (.alertNAssert a) s = .next (s.alertRead a)) ∧
  (∀ (s : State) (t : Int) (a : Option Nat), s.mgb.alertAt = some t → s.isSet MGB_ALERT_CTL_EN = true → s.awake 94 = true →
    t + ((s.get MGB_ALERT_CTL_PER * mtMs : Nat) : Int) ≤ s.mt → exec (.alertRepeat true a) s = .next (s.alertRead a)) ∧
  (∀ (s : State) (t : Int) (a : Option Nat), s.mgb.alertAt = some t → exec (.alertRepeat false a) s = .next
    { s with mgb := { s.mgb with alertAt := none } }) ∧
  (∀ (s u : State) (n : Nat) (w : Wr), s.Opens w (0x120100 + 0x10 * n) → s.trgDrives n = false → bits (merged (s.rn (MGB_SIG_CFG n)) w) 31 30 = 0 →
    u = s.mergeRaw (MGB_SIG_CFG n).key w → bits (u.rn (MGB_SIG_CFG n)) 31 30 = bits (s.rn (MGB_SIG_CFG n)) 31 30 →
    u.get (MGB_SIG_CFG_MODE n) = 0 → u.awake 94 = true → exec (.mgbSigCfgWrite n w) s = .next (u.pinDrive n false)) ∧
  (∀ (s u : State) (w : Wr), s.Opens w 0x120080 → w.hits 31 = true → u = s.mergeRaw MGB_EDGE_CTL.key w → u.awake 94 = true →
    exec (.mgbEdgePush w) s = .next u.edgePush) ∧
  (∀ (s : State) (n : Nat) (l : Bool) (t : Int) (r : List (Bool × Int)), (s.sig n).edges = (l, t) :: r → t ≤ s.mt → s.awake 94 = true →
    exec (.sigEdgeFire n) s = .next (((s.setSig n { s.sig n with edges := r }).put (MGB_SIG_STAT_QUEUED n) r.length).pinLevel n (b2n l))) ∧
  (∀ (s : State) (n : Nat), s.get (MGB_SIG_CFG_MODE n) = 2 → s.markAt n (s.sig n).markF ≤ 5 * s.mt → s.awake 94 = true →
    exec (.frameMarkerStart n) s = .next ((s.setSig n { s.sig n with
      markF := (s.sig n).markF + 1
      markTo := some ((s.markAt n (s.sig n).markF + 131072 * (s.get (MGB_SIG_CFG_WIDTH n) : Nat) + 4) / 5) }).pinDrive n true)) ∧
  (∀ (s : State) (n : Nat) (t : Int), (s.sig n).markTo = some t → t ≤ s.mt → s.awake 94 = true →
    exec (.frameMarkerEnd n) s = .next ((s.setSig n { s.sig n with markTo := none }).pinDrive n false)) ∧
  (∀ (s : State) (ir : Nat), exec (.tapInstruction ir) s = .next { s with tap := ⟨ir % 256, if ir % 256 = 1 then 1 else if ir % 256 = 2 then 2
    else if 3 ≤ ir % 256 ∧ ir % 256 ≤ 5 ∧ s.porLow = true then 2 else 0, decide (3 ≤ ir % 256 ∧ ir % 256 ≤ 7) && s.porLow⟩ }) ∧
  (∀ (s : State), exec .tapReset s = .next { s with tap := {} })

/-- Opcodes CFG and CNV: the identity, the keys, registers and tables, and the converter groups. Each packet is admitted by the command engine
(State.Admits) and its parameters meet its checks; the answer is OK with the words named, over the state that the effect leaves. -/
def Obligations.ConfigOpcodesComplete : Prop :=
  (∀ (s u : State) (p : Packet), s.Admits 0x0101 false p → u = s.begun p → Packet.sized p 0 = true → exec (.cfgIdent p) s = .next
    (s.answered 0x0101 p 0 (u.regWords [SYS_IDENT, SYS_HUB_ID, CMD_INSTANCE (p.borough % 32)]) u)) ∧
  (∀ (s u : State) (p : Packet), s.Admits 0x0102 false p → u = s.begun p → Packet.sized p 4 = true → Packet.wordsOk p 0
    [SYS_HUB_ID] = true → p.borough % 32 = 0 → u.hubIdHeld = false → exec (.cfgHubId p) s = .next (s.answered 0x0102 p 0 []
    (u.hubIdWrite (pf (Packet.word p 0))))) ∧
  (∀ (s u : State) (p : Packet), s.Admits 0x0103 false p → u = s.begun p → Packet.sized p 36 = true → Packet.word p 0 < 32 →
    p.borough % 32 = 0 → exec (.cfgKeyLoad p) s = .next (s.answered 0x0103 p 0 [] (u.keyLoad (Packet.word p 0) ((Packet.bytes
    p).drop 4)))) ∧
  (∀ (s u : State) (p : Packet), s.Admits 0x0104 false p → u = s.begun p → Packet.sized p 4 = true → Packet.word p 0 < 32 →
    p.borough % 32 = 0 → exec (.cfgKeyClear p) s = .next (s.answered 0x0104 p 0 [] (u.keyClear (Packet.word p 0)))) ∧
  (∀ (s u : State) (p : Packet), s.Admits 0x0105 false p → u = s.begun p → Packet.sized p 32 = true → exec (.cfgKeyOwn p) s = .next
    (s.answered 0x0105 p 0 [] (u.keyLoad (p.borough % 32) (Packet.bytes p)))) ∧
  (∀ (s u : State) (p : Packet), s.Admits 0x0106 false p → u = s.begun p → Packet.sized p 4 = true → Packet.wordsOk p 0 [CMD_UDP] =
    true → portWordOk (Packet.word p 0) = true → p.borough % 32 = 0 → exec (.cfgUdp p) s = .next (s.answered 0x0106 p 0 []
    (u.mergeRaw CMD_UDP.key (pf (Packet.word p 0))))) ∧
  (∀ (s u : State) (p : Packet) (off n : Nat), s.Admits 0x0107 false p → u = s.begun p → Packet.sized p 8 = true → Packet.arg p 6 2
    = 0 → off = Packet.arg p 0 4 → n = Packet.arg p 4 2 → 1 ≤ n → n ≤ 1000 → p.borough % 32 = 0 → (∀ i < n, u.cfgReaches (off + 4
    * i) = true) → (∀ i < n, readActs (off + 4 * i) = false) → exec (.cfgRegRead p) s = .next (s.answered 0x0107 p 0 ((u.peekWords
    off n).1) ((u.peekWords off n).2))) ∧
  (∀ (s u : State) (p : Packet), s.Admits 0x0108 false p → u = s.begun p → Packet.sized p 8 = true → p.borough % 32 = 0 →
    u.cfgReaches (Packet.word p 0) = true → Packet.word p 0 ≠ SYS_RST_CTL.key → exec (.cfgRegWrite p) s = .next (s.answered 0x0108
    p 0 [] (u.regStore (Packet.word p 0) (pf (Packet.word p 1))))) ∧
  (∀ (s u : State) (p : Packet), s.Admits 0x0109 false p → u = s.begun p → tableForm p = true → Packet.sized p (8 + 4 * Packet.arg
    p 2 2) = true → p.borough % 32 = 0 → (u.tablePlaces p).all (fun h => h.plain) = true → (u.tablePlaces p).any u.placeInUse =
    false → exec (.cfgTableWrite p) s = .next (s.answered 0x0109 p 0 [] (u.tableWords p 2 (u.tablePlaces p)))) ∧
  (∀ (s u : State) (p : Packet) (l : List Nat), s.Admits 0x010A false p → u = s.begun p → tableForm p = true → Packet.sized p 8 =
    true → p.borough % 32 = 0 → (u.tablePlaces p).map u.hitRead = l.map some → exec (.cfgTableRead p) s = .next (s.answered 0x010A
    p 0 (l.map w32) u)) ∧
  (∀ (s u : State) (p : Packet) (g : Nat), s.Admits 0x0110 false p → u = s.begun p → Packet.sized p 16 = true → g = Packet.word p 0
    → g < 24 → g < u.part.groups → Packet.wordsOk p 1 [gCtl g, gPll g, gLock g] = true → p.borough % 32 = 0 → (((u.wn (gPll g) (Packet.word p 2)).wn
    (gLock g) (Packet.word p 3)).wn (gCtl g) (Packet.word p 1)).applyCheck g = 0 → exec (.cnvGroup p) s = .next (s.answered 0x0110
    p 0 [] (((u.wn (gPll g) (Packet.word p 2)).wn (gLock g) (Packet.word p 3)).grpCtlWrite g (pf (setBits (Packet.word p 1) 0 0
    1))))) ∧
  (∀ (s u : State) (p : Packet) (v : State) (i en : Nat) (r : Reg), s.Admits 0x0111 true p → u = s.begun p → Packet.sized p 4 =
    true → i = Packet.arg p 0 2 → en = Packet.arg p 2 1 → Packet.arg p 3 1 = 0 → i < u.part.inputs → boolByte en = true →
    p.borough % 32 = 0 → u.governSlot i = none → r = CNV_IN_CTL (i / 96) (i % 96) → v = ((u.wn r en).fwr r (w32 en)).inputEnable i
    (en == 1) (u.mt * 2 ^ 32) → exec (.cnvInputEn p) s = .next (s.answered 0x0111 p 0 (v.commitRecord 0 0 v.mt) v)) ∧
  (∀ (s u : State) (p : Packet) (g : Nat), s.Admits 0x0112 false p → u = s.begun p → Packet.sized p 8 = true → g = Packet.word p 0
    → g < u.part.groups → g < 24 → Packet.wordsOk p 1 [CNV_GRP_TRK (g / 3) (g % 3)] = true → p.borough % 32 = 0 → exec (.cnvTrack p) s = .next
    (s.answered 0x0112 p 0 [] (u.mergeRaw (CNV_GRP_TRK (g / 3) (g % 3)).key (pf (Packet.word p 1))))) ∧
  (∀ (s u : State) (p : Packet) (g : Nat), s.Admits 0x0113 false p → u = s.begun p → Packet.sized p 4 = true → g = Packet.word p 0
    → g < u.part.groups → g < 24 → p.borough % 32 = 0 → exec (.cnvStatus p) s = .next (s.answered 0x0113 p 0 (u.regWords ([CNV_GRP_STAT (g / 3) (g %
    3), CNV_GRP_TRKST (g / 3) (g % 3), CNV_GRP_FS_LO (g / 3) (g % 3), CNV_GRP_FS_HI (g / 3) (g % 3)] ++ (grpInputs g).map iStat))
    u))

/-- Opcodes BRG: quotas, grants, ranges of beams, the reset of a borough and its status. -/
def Obligations.BoroughOpcodesComplete : Prop :=
  (∀ (s u : State) (p : Packet) (b : Nat), s.Admits 0x0120 false p → u = s.begun p → Packet.sized p 8 = true → b = Packet.word p 0
    → b < 32 → Packet.wordsOk p 1 [PLT_QUOTA b] = true → p.borough % 32 = 0 → u.resetting b = false → u.quotaOk b (Packet.word p
    1) = true → exec (.brgQuota p) s = .next (s.answered 0x0120 p 0 [] (u.mergeRaw (PLT_QUOTA b).key (pf (Packet.word p 1))))) ∧
  (∀ (s u : State) (p : Packet) (b slot kinds g : Nat), s.Admits 0x0121 false p → u = s.begun p → Packet.sized p 8 = true →
    Packet.arg p 1 1 = 0 → b = Packet.arg p 0 1 → slot = Packet.arg p 2 2 → kinds = Packet.arg p 4 4 → slot < 1024 → bits kinds 27
    14 = 0 → p.borough % 32 = 0 → 0 < b → b < 32 → u.resetting b = false → u.grantFormOk b slot kinds = true → u.freeGrant slot =
    some g → exec (.brgGrant p) s = .next (s.answered 0x0121 p 0 [w32 g] (u.grantMake g b slot kinds))) ∧
  (∀ (s u : State) (p : Packet) (g : Nat), s.Admits 0x0122 false p → u = s.begun p → Packet.sized p 4 = true → g = Packet.word p 0
    → g < 2048 → p.borough % 32 = 0 → u.isSet (BRG_GRANT0_VALID g) = true → exec (.brgRevoke p) s = .next (s.answered 0x0122 p 0
    [] (u.grantFree g))) ∧
  (∀ (s u : State) (p : Packet) (b first last wf wl : Nat), s.Admits 0x0123 false p → u = s.begun p → Packet.sized p 12 = true →
    Packet.arg p 1 1 = 0 → Packet.arg p 10 2 = 0 → b = Packet.arg p 0 1 → first = Packet.arg p 2 2 → last = Packet.arg p 4 2 → wf
    = Packet.arg p 6 2 → wl = Packet.arg p 8 2 → 1 ≤ b → b < 32 → last < 4096 → p.borough % 32 = 0 → u.resetting b = false →
    u.rangesTaken b first last wf wl = false → exec (.brgBeams p) s = .next (s.answered 0x0123 p 0 [] (u.beamRanges b first last
    wf wl))) ∧
  (∀ (s u : State) (p : Packet) (b : Nat), s.Admits 0x0124 false p → u = s.begun p → Packet.sized p 4 = true → b = Packet.word p 0
    → b < 32 → (p.borough % 32 = 0 ∨ p.borough % 32 = b) → u.canReset b = true → exec (.brgReset p) s = .next ((s.answered 0x0124
    p 0 [] u).boroughReset b)) ∧
  (∀ (s u : State) (p : Packet) (b : Nat), s.Admits 0x0125 false p → u = s.begun p → Packet.sized p 4 = true → b = Packet.word p 0
    → b < 32 → (p.borough % 32 = 0 ∨ p.borough % 32 = b) → exec (.brgStatus p) s = .next (s.answered 0x0125 p 0 (u.regWords
    [PLT_QUOTA b, PLT_USED b] ++ [w32 (u.get (BRG_STAT_GRANTS b)), w32 (u.beamsOwned b)]) u))

/-- Opcodes PIPE_DELAY, PIPE_MIX, PIPE_DECIMATE, PIPE_RESAMPLE, PIPE_CHANNEL, PIPE_REDUCE and PIPE_ROUTE, for every selector of slots: on IDLE
slots the words stand in the shadow at once; on a slot in use that passes its checks they are staged for the frame boundary that
the packet names. -/
def Obligations.PipelineWordOpcodesComplete : Prop :=
  (∀ (s u : State) (p : Packet) (v : State) (l : List Nat), s.Admits 0x0203 true p → u = s.begun p → u.selSlots (Packet.word p 0) =
    some l → Packet.sized p 8 = true → Packet.wordsOk p 1 ([CHP_DELAY].map (fun r => r 0)) = true → p.borough % 32 = 0 → (∀ n ∈ l,
    u.slotState n = 0) → v = l.foldl (fun (s : State) n => s.shadowPut n (wordVals p 1 [CHP_DELAY] n)) u → exec (.pipeDelay p) s =
    .next (s.answered 0x0203 p 0 (v.commitRecord 0 0 v.mt) v)) ∧
  (∀ (s u : State) (p : Packet) (n g k0 k : Nat), s.Admits 0x0203 true p → u = s.begun p → u.selSlots (Packet.word p 0) = some [n]
    → Packet.sized p 8 = true → Packet.wordsOk p 1 ([CHP_DELAY].map (fun r => r 0)) = true → p.borough % 32 = 0 → u.slotState n =
    2 → g = (u.slot n).boundGrid → k0 = u.askedIndex g p → u.slotCheck n g false false (overVals n (u.slotAt n k0) (wordVals p 1
    [CHP_DELAY] n)) k0 = 0 → u.stageIndex g (Packet.act p) = some k → u.stageFull (.slot n) k = false → exec (.pipeDelay p) s =
    .next (s.opened 0x0203 p g k [] ((((u.shadowPut n (wordVals p 1 [CHP_DELAY] n)).stage ⟨.slot n, g, k, actionOf p, wordVals p 1
    [CHP_DELAY] n, if false then .restart else .fields⟩).slotCode n 0).showDirty n))) ∧
  (∀ (s u : State) (p : Packet) (v : State) (l : List Nat), s.Admits 0x0205 true p → u = s.begun p → u.selSlots (Packet.word p 0) =
    some l → Packet.sized p 16 = true → Packet.wordsOk p 1 ([CHP_MIX, CHP_NCO_LO, CHP_NCO_HI].map (fun r => r 0)) = true →
    p.borough % 32 = 0 → (∀ n ∈ l, u.slotState n = 0) → v = l.foldl (fun (s : State) n => s.shadowPut n (wordVals p 1 [CHP_MIX,
    CHP_NCO_LO, CHP_NCO_HI] n)) u → exec (.pipeMix p) s = .next (s.answered 0x0205 p 0 (v.commitRecord 0 0 v.mt) v)) ∧
  (∀ (s u : State) (p : Packet) (n g k0 k : Nat), s.Admits 0x0205 true p → u = s.begun p → u.selSlots (Packet.word p 0) = some [n]
    → Packet.sized p 16 = true → Packet.wordsOk p 1 ([CHP_MIX, CHP_NCO_LO, CHP_NCO_HI].map (fun r => r 0)) = true → p.borough % 32
    = 0 → u.slotState n = 2 → g = (u.slot n).boundGrid → k0 = u.askedIndex g p → u.slotCheck n g false false (overVals n (u.slotAt n
    k0) (wordVals p 1 [CHP_MIX, CHP_NCO_LO, CHP_NCO_HI] n)) k0 = 0 → u.stageIndex g (Packet.act p) = some k → u.stageFull (.slot
    n) k = false → exec (.pipeMix p) s = .next (s.opened 0x0205 p g k [] ((((u.shadowPut n (wordVals p 1 [CHP_MIX, CHP_NCO_LO,
    CHP_NCO_HI] n)).stage ⟨.slot n, g, k, actionOf p, wordVals p 1 [CHP_MIX, CHP_NCO_LO, CHP_NCO_HI] n, if false then .restart
    else .fields⟩).slotCode n 0).showDirty n))) ∧
  (∀ (s u : State) (p : Packet) (v : State) (l : List Nat), s.Admits 0x0206 true p → u = s.begun p → u.selSlots (Packet.word p 0) =
    some l → Packet.sized p 28 = true → Packet.wordsOk p 2 (((List.range 5).map (fun k => fun n => CHP_DEC n k)).map (fun r => r
    0)) = true → p.borough % 32 = 0 → (∀ n ∈ l, u.slotState n = 0) → v = l.foldl (fun (s : State) n => s.shadowPut n (wordVals p 2
    ((List.range 5).map (fun k => fun n => CHP_DEC n k)) n)) u → Packet.word p 1 < 2 → exec (.pipeDecimate p) s = .next
    (s.answered 0x0206 p 0 (v.commitRecord 0 0 v.mt) v)) ∧
  (∀ (s u : State) (p : Packet) (n g k0 k : Nat), s.Admits 0x0206 true p → u = s.begun p → u.selSlots (Packet.word p 0) = some [n]
    → Packet.sized p 28 = true → Packet.wordsOk p 2 (((List.range 5).map (fun k => fun n => CHP_DEC n k)).map (fun r => r 0)) =
    true → p.borough % 32 = 0 → u.slotState n = 2 → g = (u.slot n).boundGrid → k0 = u.askedIndex g p → u.slotCheck n g false
    (Packet.word p 1 == 1) (overVals n (u.slotAt n k0) (wordVals p 2 ((List.range 5).map (fun k => fun n => CHP_DEC n k)) n)) k0 =
    0 → u.stageIndex g (Packet.act p) = some k → u.stageFull (.slot n) k = false → Packet.word p 1 < 2 → exec (.pipeDecimate p) s
    = .next (s.opened 0x0206 p g k [] ((((u.shadowPut n (wordVals p 2 ((List.range 5).map (fun k => fun n => CHP_DEC n k))
    n)).stage ⟨.slot n, g, k, actionOf p, wordVals p 2 ((List.range 5).map (fun k => fun n => CHP_DEC n k)) n, if (Packet.word p 1
    == 1) then .restart else .fields⟩).slotCode n 0).showDirty n))) ∧
  (∀ (s u : State) (p : Packet) (v : State) (l : List Nat), s.Admits 0x0207 true p → u = s.begun p → u.selSlots (Packet.word p 0) =
    some l → Packet.sized p 8 = true → Packet.wordsOk p 1 ([CHP_RSM_CTL].map (fun r => r 0)) = true → p.borough % 32 = 0 → (∀ n ∈
    l, u.slotState n = 0) → v = l.foldl (fun (s : State) n => s.shadowPut n (wordVals p 1 [CHP_RSM_CTL] n)) u → exec
    (.pipeResample p) s = .next (s.answered 0x0207 p 0 (v.commitRecord 0 0 v.mt) v)) ∧
  (∀ (s u : State) (p : Packet) (n g k0 k : Nat), s.Admits 0x0207 true p → u = s.begun p → u.selSlots (Packet.word p 0) = some [n]
    → Packet.sized p 8 = true → Packet.wordsOk p 1 ([CHP_RSM_CTL].map (fun r => r 0)) = true → p.borough % 32 = 0 → u.slotState n
    = 2 → g = (u.slot n).boundGrid → k0 = u.askedIndex g p → u.slotCheck n g false false (overVals n (u.slotAt n k0) (wordVals p 1
    [CHP_RSM_CTL] n)) k0 = 0 → u.stageIndex g (Packet.act p) = some k → u.stageFull (.slot n) k = false → exec (.pipeResample p) s
    = .next (s.opened 0x0207 p g k [] ((((u.shadowPut n (wordVals p 1 [CHP_RSM_CTL] n)).stage ⟨.slot n, g, k, actionOf p, wordVals
    p 1 [CHP_RSM_CTL] n, if false then .restart else .fields⟩).slotCode n 0).showDirty n))) ∧
  (∀ (s u : State) (p : Packet) (v : State) (l : List Nat), s.Admits 0x0208 true p → u = s.begun p → u.selSlots (Packet.word p 0) =
    some l → Packet.sized p 20 = true → Packet.wordsOk p 2 ([CHP_CHN_CTL, CHP_CHN_SCALE, CHP_CHN_SEL].map (fun r => r 0)) = true →
    p.borough % 32 = 0 → (∀ n ∈ l, u.slotState n = 0) → v = l.foldl (fun (s : State) n => s.shadowPut n (wordVals p 2
    [CHP_CHN_CTL, CHP_CHN_SCALE, CHP_CHN_SEL] n)) u → Packet.word p 1 < 2 → exec (.pipeChannel p) s = .next (s.answered 0x0208 p 0
    (v.commitRecord 0 0 v.mt) v)) ∧
  (∀ (s u : State) (p : Packet) (n g k0 k : Nat), s.Admits 0x0208 true p → u = s.begun p → u.selSlots (Packet.word p 0) = some [n]
    → Packet.sized p 20 = true → Packet.wordsOk p 2 ([CHP_CHN_CTL, CHP_CHN_SCALE, CHP_CHN_SEL].map (fun r => r 0)) = true →
    p.borough % 32 = 0 → u.slotState n = 2 → g = (u.slot n).boundGrid → k0 = u.askedIndex g p → u.slotCheck n g false (Packet.word p 1
    == 1) (overVals n (u.slotAt n k0) (wordVals p 2 [CHP_CHN_CTL, CHP_CHN_SCALE, CHP_CHN_SEL] n)) k0 = 0 → u.stageIndex g
    (Packet.act p) = some k → u.stageFull (.slot n) k = false → Packet.word p 1 < 2 → exec (.pipeChannel p) s = .next (s.opened
    0x0208 p g k [] ((((u.shadowPut n (wordVals p 2 [CHP_CHN_CTL, CHP_CHN_SCALE, CHP_CHN_SEL] n)).stage ⟨.slot n, g, k, actionOf
    p, wordVals p 2 [CHP_CHN_CTL, CHP_CHN_SCALE, CHP_CHN_SEL] n, if (Packet.word p 1 == 1) then .restart else .fields⟩).slotCode n
    0).showDirty n))) ∧
  (∀ (s u : State) (p : Packet) (v : State) (l : List Nat), s.Admits 0x0209 true p → u = s.begun p → u.selSlots (Packet.word p 0) =
    some l → Packet.sized p 16 = true → Packet.wordsOk p 1 ([CHP_RDC_CTL, CHP_RDC_RQ, CHP_RDC_HIST].map (fun r => r 0)) = true →
    p.borough % 32 = 0 → (∀ n ∈ l, u.slotState n = 0) → v = l.foldl (fun (s : State) n => s.shadowPut n (wordVals p 1
    [CHP_RDC_CTL, CHP_RDC_RQ, CHP_RDC_HIST] n)) u → exec (.pipeReduce p) s = .next (s.answered 0x0209 p 0 (v.commitRecord 0 0
    v.mt) v)) ∧
  (∀ (s u : State) (p : Packet) (n g k0 k : Nat), s.Admits 0x0209 true p → u = s.begun p → u.selSlots (Packet.word p 0) = some [n]
    → Packet.sized p 16 = true → Packet.wordsOk p 1 ([CHP_RDC_CTL, CHP_RDC_RQ, CHP_RDC_HIST].map (fun r => r 0)) = true →
    p.borough % 32 = 0 → u.slotState n = 2 → g = (u.slot n).boundGrid → k0 = u.askedIndex g p → u.slotCheck n g false false (overVals n
    (u.slotAt n k0) (wordVals p 1 [CHP_RDC_CTL, CHP_RDC_RQ, CHP_RDC_HIST] n)) k0 = 0 → u.stageIndex g (Packet.act p) = some k →
    u.stageFull (.slot n) k = false → exec (.pipeReduce p) s = .next (s.opened 0x0209 p g k [] ((((u.shadowPut n (wordVals p 1
    [CHP_RDC_CTL, CHP_RDC_RQ, CHP_RDC_HIST] n)).stage ⟨.slot n, g, k, actionOf p, wordVals p 1 [CHP_RDC_CTL, CHP_RDC_RQ,
    CHP_RDC_HIST] n, if false then .restart else .fields⟩).slotCode n 0).showDirty n))) ∧
  (∀ (s u : State) (p : Packet) (v : State) (l : List Nat), s.Admits 0x020A true p → u = s.begun p → u.selSlots (Packet.word p 0) =
    some l → Packet.sized p 8 = true → Packet.wordsOk p 1 ([CHP_ROUTE].map (fun r => r 0)) = true → p.borough % 32 = 0 → (∀ n ∈ l,
    u.slotState n = 0) → v = l.foldl (fun (s : State) n => s.shadowPut n (wordVals p 1 [CHP_ROUTE] n)) u → exec (.pipeRoute p) s =
    .next (s.answered 0x020A p 0 (v.commitRecord 0 0 v.mt) v)) ∧
  (∀ (s u : State) (p : Packet) (n g k0 k : Nat), s.Admits 0x020A true p → u = s.begun p → u.selSlots (Packet.word p 0) = some [n]
    → Packet.sized p 8 = true → Packet.wordsOk p 1 ([CHP_ROUTE].map (fun r => r 0)) = true → p.borough % 32 = 0 → u.slotState n =
    2 → g = (u.slot n).boundGrid → k0 = u.askedIndex g p → u.slotCheck n g false false (overVals n (u.slotAt n k0) (wordVals p 1
    [CHP_ROUTE] n)) k0 = 0 → u.stageIndex g (Packet.act p) = some k → u.stageFull (.slot n) k = false → exec (.pipeRoute p) s =
    .next (s.opened 0x020A p g k [] ((((u.shadowPut n (wordVals p 1 [CHP_ROUTE] n)).stage ⟨.slot n, g, k, actionOf p, wordVals p 1
    [CHP_ROUTE] n, if false then .restart else .fields⟩).slotCode n 0).showDirty n)))

/-- Opcodes PIPE_SOURCE, PIPE_BIND, PIPE_UNBIND, PIPE_INTAKE, PIPE_COMMIT, PIPE_FPD, PIPE_DISTRICT, PIPE_RAW and PIPE_STATUS. -/
def Obligations.PipelineOpcodesComplete : Prop :=
  (∀ (s u : State) (p : Packet) (l : List Nat) (v : Nat), s.Admits 0x0201 false p → u = s.begun p → u.selSlots (Packet.word p 0) =
    some l → Packet.sized p 8 = true → v = Packet.word p 1 → Packet.wordsOk p 1 [CHP_SRC 0] = true → p.borough % 32 = 0 → (bits v
    31 30 ≠ 1 ∨ bits v 9 0 < u.part.inputs) → (∀ n ∈ l, u.slotState n = 0) → exec (.pipeSource p) s = .next (s.answered 0x0201 p 0
    [] (l.foldl (fun (s : State) n => s.chpSrcWrite n (pf v)) u))) ∧
  (∀ (s u : State) (p : Packet) (l : List Nat) (g k : Nat), s.Admits 0x0202 true p → u = s.begun p → u.selSlots (Packet.word p 0) =
    some l → Packet.sized p 8 = true → g = Packet.word p 1 → g < 8 → p.borough % 32 = 0 → u.bindAll g p l = none → u.stageIndex g
    (Packet.act p) = some k → (∀ n ∈ l, u.stageFull (.slot n) k = false) → exec (.pipeBind p) s = .next (s.opened 0x0202 p g k []
    (l.foldl (fun (s : State) n => ((s.stageBind n g k (actionOf p)).slotCode n 0).showDirty n) u))) ∧
  (∀ (s u : State) (p : Packet) (l : List Nat) (g n c : Nat), s.Admits 0x0202 true p → u = s.begun p → u.selSlots (Packet.word p 0)
    = some l → Packet.sized p 8 = true → g = Packet.word p 1 → g < 8 → p.borough % 32 = 0 → u.bindAll g p l = some (n, c) → c ≠ 10
    → exec (.pipeBind p) s = .next (s.answered 0x0202 p (chpStatus c) ((if selMany (Packet.word p 0) then [w32 n] else []))
    (u.slotCode n c))) ∧
  (∀ (s u : State) (p : Packet) (n k : Nat), s.Admits 0x0204 true p → u = s.begun p → u.selSlots (Packet.word p 0) = some [n] →
    Packet.sized p 4 = true → p.borough % 32 = 0 → u.awake (u.slotDomain n) = true → u.slotState n ≠ 0 → u.unbindWaits n = false →
    u.bindCancels n = false → u.stageIndex (u.slot n).boundGrid (Packet.act p) = some k → exec (.pipeUnbind p) s = .next (s.opened
    0x0204 p ((u.slot n).boundGrid) (max k (u.unbindIndex n k)) [] (((u.stageUnbind n (max k (u.unbindIndex n k)) (actionOf
    p)).slotCode n 0).abortDiscarded))) ∧
  (∀ (s u : State) (p : Packet) (v : State) (l : List Nat), s.Admits 0x020B true p → u = s.begun p → u.selSlots (Packet.word p 0) =
    some l → Packet.sized p 24 = true → Packet.word p 1 &&& 0x01C00000 = Packet.word p 1 → Packet.wordsOk p 2 [CHP_BLANK 0,
    CHP_CALMASK 0, CHP_CALDLY 0, CHP_TEST 0] = true → p.borough % 32 = 0 → (∀ n ∈ l, u.slotState n = 0) → v = l.foldl (fun (s :
    State) n => s.shadowPut n (⟨(CHP_CTL n).key, 0x01C00000, Packet.word p 1⟩ :: wordVals p 2 [CHP_BLANK, CHP_CALMASK, CHP_CALDLY,
    CHP_TEST] n)) u → exec (.pipeIntake p) s = .next (s.answered 0x020B p 0 (v.commitRecord 0 0 v.mt) v)) ∧
  (∀ (s u : State) (p : Packet) (n g k0 k : Nat) (vals : List SVal), s.Admits 0x020B true p → u = s.begun p → u.selSlots
    (Packet.word p 0) = some [n] → Packet.sized p 24 = true → Packet.word p 1 &&& 0x01C00000 = Packet.word p 1 → Packet.wordsOk p
    2 [CHP_BLANK 0, CHP_CALMASK 0, CHP_CALDLY 0, CHP_TEST 0] = true → p.borough % 32 = 0 → u.slotState n = 2 → g = (u.slot n).boundGrid
    → k0 = u.askedIndex g p → vals = ⟨(CHP_CTL n).key, 0x01C00000, Packet.word p 1⟩ :: wordVals p 2 [CHP_BLANK, CHP_CALMASK,
    CHP_CALDLY, CHP_TEST] n → u.slotCheck n g false false (overVals n (u.slotAt n k0) vals) k0 = 0 → u.stageIndex g (Packet.act p)
    = some k → u.stageFull (.slot n) k = false → exec (.pipeIntake p) s = .next (s.opened 0x020B p g k [] ((((u.shadowPut n
    vals).stage ⟨.slot n, g, k, actionOf p, vals, .fields⟩).slotCode n 0).showDirty n))) ∧
  (∀ (s u : State) (p : Packet) (n g k0 k : Nat) (vals : List SVal), s.Admits 0x020C true p → u = s.begun p → u.selSlots
    (Packet.word p 0) = some [n] → Packet.sized p 8 = true → Packet.word p 1 < 2 → p.borough % 32 = 0 → u.awake (u.slotDomain n) =
    true → g = (u.slot n).boundGrid → k0 = u.askedIndex g p → vals = u.snapshot (slotKeys n) → u.slotCheck n g false (Packet.word p 1
    == 1) (overVals n (u.slotAt n k0) vals) k0 = 0 → u.stageIndex g (Packet.act p) = some k → u.stageFull (.slot n) k = false →
    exec (.pipeCommit p) s = .next (s.opened 0x020C p g k [] ((((u.shadowPut n vals).stage ⟨.slot n, g, k, actionOf p, vals, if
    Packet.word p 1 == 1 then .restart else .fields⟩).slotCode n 0).showDirty n))) ∧
  (∀ (s u : State) (p : Packet) (l : List Nat), s.Admits 0x020D false p → u = s.begun p → u.selSlots (Packet.word p 0) = some l →
    Packet.sized p 16 = true → Packet.wordsOk p 1 [CHP_FPD_CTL 0, CHP_FPD_HI 0, CHP_FPD_LO 0] = true → p.borough % 32 = 0 → exec
    (.pipeFpd p) s = .next (s.answered 0x020D p 0 [] (l.foldl (fun (s : State) n => ((s.mergeRaw (CHP_FPD_CTL n).key (pf
    (Packet.word p 1))).mergeRaw (CHP_FPD_HI n).key (pf (Packet.word p 2))).mergeRaw (CHP_FPD_LO n).key (pf (Packet.word p 3)))
    u))) ∧
  (∀ (s u : State) (p : Packet) (d : Nat), s.Admits 0x020E false p → u = s.begun p → Packet.sized p 132 = true → d = Packet.word p
    0 → d < 64 → p.borough % 32 = 0 → u.districtWaits d = false → exec (.pipeDistrict p) s = .next (s.answered 0x020E p 0 []
    ((List.range 32).foldl (fun (s : State) w => s.wn (CHP_DMEM d w) (Packet.word p (1 + w))) u))) ∧
  (∀ (s u : State) (p : Packet) (n v : Nat) (r : State), s.Admits 0x020F false p → u = s.begun p → Packet.sized p 8 = true → n =
    Packet.word p 0 → v = Packet.word p 1 → n < 1024 → regWordOk (CMP_RAW n) (if bit v 31 && !u.isSet (CMP_RAW_EN n) then setBits
    v 10 8 0 else v) = true → p.borough % 32 = 0 → u.rawSet n v = (some 0, r) → exec (.pipeRaw p) s = .next (s.answered 0x020F p 0
    [] r)) ∧
  (∀ (s u : State) (p : Packet) (n : Nat), s.Admits 0x0210 false p → u = s.begun p → Packet.sized p 4 = true → n = Packet.word p 0
    → n < 1024 → p.borough % 32 = 0 → exec (.pipeStatus p) s = .next (s.answered 0x0210 p 0 (u.regWords [CHP_STAT n, CHP_RSM_STAT
    n, CHP_UNS n, CHP_GD n, CHP_SATCNT n, CHP_RSM_STEP_LO n, CHP_RSM_STEP_HI n, CHP_RSM_GAPS_LO n, CHP_RSM_GAPS_HI n,
    CHP_RSM_GFIRST_LO n, CHP_RSM_GFIRST_HI n, CHP_RSM_GLAST_LO n, CHP_RSM_GLAST_HI n, CMP_RAW_STAT n]) u))

/-- Opcodes BEAM: a range of beams is put in force or staged, beams are disabled, input sets and weight pages are written, status and load are read. -/
def Obligations.BeamOpcodesComplete : Prop :=
  (∀ (s u : State) (p : Packet) (first last : Nat) (l : List (Nat × BeamCfg)) (o : CmdOut × State), s.Admits 0x0301 true p → u =
    s.begun p → first = Packet.arg p 0 2 → last = Packet.arg p 2 2 → first ≤ last → last < 4096 → last + 1 - first ≤ 100 → l =
    packetCfgs u p first (last + 1 - first) → Packet.sized p (4 + 32 * (last + 1 - first)) = true → u.beamsAllowed (p.borough %
    32) l = true → o = u.beamCommit p first last l → o.1 = .now 0 (o.2.commitRecord 0 0 o.2.mt) → exec (.beamSet p) s = .next
    (s.answered 0x0301 p 0 (o.2.commitRecord 0 0 o.2.mt) o.2)) ∧
  (∀ (s u : State) (p : Packet) (v : State) (first last : Nat) (l : List Nat), s.Admits 0x0302 true p → u = s.begun p →
    Packet.sized p 4 = true → first = Packet.arg p 0 2 → last = Packet.arg p 2 2 → first ≤ last → last < 4096 → l = (List.range
    (last + 1 - first)).map (fun i => first + i) → (∀ b ∈ l, u.beamBorough b = p.borough % 32) → (∀ b ∈ l, u.beamThen p b = none)
    → v = ((l.foldl (fun (s : State) b => s.wn (BFM_DESC b 0) (setBits (s.rn (BFM_DESC b 0)) 31 31 0)) u).put BFM_STAT_CODE 0).put
    BFM_STAT_BEAM 0 → exec (.beamDisable p) s = .next (s.answered 0x0302 p 0 (v.commitRecord 0 0 v.mt) v)) ∧
  (∀ (s u : State) (p : Packet) (b g k : Nat) (x : BeamCfg), s.Admits 0x0302 true p → u = s.begun p → Packet.sized p 4 = true →
    Packet.arg p 0 2 = b → Packet.arg p 2 2 = b → b < 4096 → u.beamBorough b = p.borough % 32 → u.beamThen p b = some (g, x) →
    u.stageIndex g (Packet.act p) = some k → u.stageFull (.beam b) k = false → exec (.beamDisable p) s = .next (s.opened 0x0302 p
    g k [] ((((u.wn (BFM_DESC b 0) (setBits (u.rn (BFM_DESC b 0)) 31 31 0)).put BFM_STAT_CODE 0).put BFM_STAT_BEAM 0).stageRange g
    k (actionOf p) [(b, x.off)]))) ∧
  (∀ (s u : State) (p : Packet) (n : Nat), s.Admits 0x0303 false p → u = s.begun p → Packet.sized p 132 = true → n = Packet.word p
    0 → n < 256 → p.borough % 32 = 0 → u.allCfgs.any (fun e => bits (e.2.w 0) 27 20 == n) = false → exec (.beamIset p) s = .next
    (s.answered 0x0303 p 0 [] ((List.range 32).foldl (fun (s : State) w => s.wn (BFM_ISET n w) (Packet.word p (1 + w))) u))) ∧
  (∀ (s u : State) (p : Packet) (n at_ : Nat) (pages : List Nat), s.Admits 0x0304 false p → u = s.begun p → n = Packet.arg p 4 2 →
    at_ = Packet.arg p 0 2 * 16384 + Packet.arg p 2 2 → pages = (List.range ((at_ + n - 1) / 16384 + 1 - at_ / 16384)).map (fun i
    => at_ / 16384 + i) → 1 ≤ n → n ≤ 1000 → Packet.sized p (8 + 4 * n) = true → Packet.arg p 6 2 = 0 → Packet.arg p 2 2 < 16384 →
    at_ + n ≤ 65536 * 16384 → (∀ q ∈ pages, u.pageBorough q = p.borough % 32) → (∀ q ∈ pages, u.weightInUse q = false) →
    u.stackDown = none → exec (.beamWeights p) s = .next (s.answered 0x0304 p 0 [] ((List.range n).foldl (fun (s : State) i =>
    s.setTab (2 * 2 ^ 40 + 4 * (at_ + i)) (w32 (Packet.word p (2 + i)))) u))) ∧
  (∀ (s u : State) (p : Packet) (b : Nat), s.Admits 0x0305 false p → u = s.begun p → Packet.sized p 4 = true → b = Packet.word p 0
    → b < 4096 → u.beamBorough b = p.borough % 32 → exec (.beamStatus p) s = .next (s.answered 0x0305 p 0 (u.regWords [BFM_BSTAT0
    b, BFM_CHAIN_LATE b, BFM_GAPS_LO b, BFM_GAPS_HI b] ++ (List.range 8).map (fun i => w32 ((u.cfgNow b).w i))) u)) ∧
  (∀ (s u : State) (p : Packet), s.Admits 0x0306 false p → u = s.begun p → Packet.sized p 0 = true → exec (.beamLoad p) s = .next
    (s.answered 0x0306 p 0 (u.regWords [BFM_CAP, BFM_LOAD] ++ [w32 (loadUnits (u.loadSum ((u.beamsOfBorough (p.borough % 32)).map
    u.cfgNow)))]) u))

/-- Opcodes GRID: a grid is defined and cleared while nothing is bound to it, read, and asked for the index at a time. -/
def Obligations.GridOpcodesComplete : Prop :=
  (∀ (s u : State) (p : Packet) (g f num den : Nat) (w : State), s.Admits 0x0401 false p → u = s.begun p → Packet.sized p 28 = true
    → g = Packet.arg p 0 1 → f = Packet.arg p 1 1 → num = Packet.arg p 16 8 → den = Packet.arg p 24 4 → g < 8 → Packet.arg p 2 2 =
    0 → mtArgOk p 4 = true → p.borough % 32 = 0 → gridLegal num den f = true → u.gridBound g = 0 → w = (((((u.wn (SYS_GRID_EP_FRAC
    g) (Packet.arg p 4 2)).wn (SYS_GRID_EP_NS g) (Packet.arg p 6 4)).wr64 (SYS_GRID_EP_SEC_LO g) (SYS_GRID_EP_SEC_HI g)
    (Packet.arg p 10 6)).wr64 (SYS_GRID_NUM_LO g) (SYS_GRID_NUM_HI g) num).wn (SYS_GRID_DEN g) den) → exec (.gridDefine p) s =
    .next (s.answered 0x0401 p 0 [] ((((({ w with gridNext := mapPut 0 g 0 w.gridNext } : State).put (SYS_GRID_CTL_FRAME_LOG2 g)
    f).put (SYS_GRID_CTL_VALID g) 1).gridGen g).gridRenew g))) ∧
  (∀ (s u : State) (p : Packet) (g : Nat) (w : State), s.Admits 0x0402 false p → u = s.begun p → Packet.sized p 4 = true → g =
    Packet.word p 0 → g < 8 → p.borough % 32 = 0 → u.gridBound g = 0 → w = { u with gridNext := mapPut 0 g 0 u.gridNext } → exec
    (.gridClear p) s = .next (s.answered 0x0402 p 0 [] (((w.put (SYS_GRID_CTL_VALID g) 0).gridGen g).gridRenew g))) ∧
  (∀ (s u : State) (p : Packet) (g : Nat), s.Admits 0x0402 false p → u = s.begun p → Packet.sized p 4 = true → g = Packet.word p 0
    → g < 8 → p.borough % 32 = 0 → u.gridBound g ≠ 0 → exec (.gridClear p) s = .next (s.answered 0x0402 p 0x102 [] u)) ∧
  (∀ (s u : State) (p : Packet) (g : Nat), s.Admits 0x0403 false p → u = s.begun p → Packet.sized p 4 = true → g = Packet.word p 0
    → g < 8 → exec (.gridRead p) s = .next (s.answered 0x0403 p 0 (bytesWords (leBytes 2 (u.rn (SYS_GRID_EP_FRAC g)) ++ leBytes 4
    (u.rn (SYS_GRID_EP_NS g)) ++ leBytes 6 (u.rd64 (SYS_GRID_EP_SEC_LO g) (SYS_GRID_EP_SEC_HI g)) ++ leBytes 8 (u.gridNum g) ++
    leBytes 4 (u.gridDen g) ++ leBytes 1 (u.frameLog2 g) ++ leBytes 1 (b2n (u.gridValid g)) ++ leBytes 2 0 ++ leBytes 4
    (u.gridBound g))) u)) ∧
  (∀ (s u : State) (p : Packet) (g k : Nat), s.Admits 0x0404 false p → u = s.begun p → Packet.sized p 16 = true → g = Packet.word p
    0 → g < 8 → mtArgOk p 4 = true → u.gridValid g = true → k = u.gridIndexAt g (mtArg p 4) → exec (.gridIndex p) s = .next
    (s.answered 0x0404 p 0 (bytesWords (leBytes 8 k ++ mtBytes (u.gridInstant g k) ++ leBytes 4 0)) u))

/-- Opcodes QUEUE and PLOT. A queue is configured while OFF, enabled, drained, flushed and read by its holder, its chain is listed and a delivery
ring is set; the state of the plots is read and their reserves are set. -/
def Obligations.QueueOpcodesComplete : Prop :=
  (∀ (s u : State) (p : Packet) (q : Nat), s.Admits 0x0501 false p → u = s.begun p → Packet.sized p 28 = true → Packet.wordsOk p 1
    (queRegs q) = true → q = Packet.word p 0 → q < 16384 → u.get (QUE_CFG0_BOROUGH q) = p.borough % 32 → (p.borough % 32 = 0 ∨ q <
    16128 ∧ u.tenantQueueOk (p.borough % 32) (Packet.word p 1) = true) → u.get (QUE_STAT_STATE q) = 0 → exec (.queueConfig p) s =
    .next (s.answered 0x0501 p 0 [] (u.queWords p (queRegs q)))) ∧
  (∀ (s u : State) (p : Packet) (q v : Nat), s.Admits 0x0501 false p → u = s.begun p → Packet.sized p 28 = true → Packet.wordsOk p
    1 (queRegs q) = true → q = Packet.word p 0 → q < 16384 → u.get (QUE_CFG0_BOROUGH q) = 0 → p.borough % 32 = 0 → u.get
    (QUE_STAT_STATE q) ≠ 0 → v = Packet.word p 1 → bits v 31 8 = bits (u.rn (QUE_CFG0 q)) 31 8 → Packet.word p 2 = u.rn (QUE_CFG1
    q) → Packet.word p 4 = u.rn (QUE_CFG3 q) → Packet.word p 5 = u.rn (QUE_CFG4 q) → Packet.word p 6 = u.rn (QUE_CFG5 q) → bits v
    7 0 ≠ 0 → exec (.queueConfig p) s = .next (s.answered 0x0501 p 0 [] ((u.put (QUE_CFG0_WEIGHT q) (bits v 7 0)).put
    (QUE_CFG2_MAX q) (bits (Packet.word p 3) 22 0)))) ∧
  (∀ (s u : State) (p : Packet) (q : Nat), s.Admits 0x0502 false p → u = s.begun p → Packet.sized p 4 = true → q = Packet.word p 0
    → q < 16128 → u.get (QUE_CFG0_BOROUGH q) = p.borough % 32 → (u.queEnable q).1 = 0 → exec (.queueEnable p) s = .next
    (s.answered 0x0502 p 0 [] ((u.queEnable q).2))) ∧
  (∀ (s u : State) (p : Packet) (q : Nat), s.Admits 0x0503 false p → u = s.begun p → Packet.sized p 4 = true → q = Packet.word p 0
    → q < 16128 → u.get (QUE_CFG0_BOROUGH q) = p.borough % 32 → u.get (QUE_STAT_STATE q) = 1 → u.queInUse q = false → exec
    (.queueDisable p) s = .next (s.answered 0x0503 p 0 [] ((u.put (QUE_STAT_CODE q) 0).queDrain q))) ∧
  (∀ (s u : State) (p : Packet) (q : Nat) (r : Nat × State), s.Admits 0x0504 false p → u = s.begun p → Packet.sized p 4 = true → q
    = Packet.word p 0 → q < 16128 → u.get (QUE_CFG0_BOROUGH q) = p.borough % 32 → u.get (QUE_STAT_STATE q) ≠ 0 → u.queInUse q =
    false → r = (u.put (QUE_STAT_CODE q) 0).queEmpty q → exec (.queueFlush p) s = .next (s.answered 0x0504 p 0 (bytesWords
    (leBytes 8 r.1)) r.2)) ∧
  (∀ (s u : State) (p : Packet) (q : Nat), s.Admits 0x0505 false p → u = s.begun p → Packet.sized p 4 = true → q = Packet.word p 0
    → q < 16384 → u.get (QUE_CFG0_BOROUGH q) = 0 → p.borough % 32 = 0 → exec (.queueStatus p) s = .next (s.answered 0x0505 p 0
    (u.regWords [QUE_STAT q, QUE_HELD q, QUE_BYTES_LO q, QUE_BYTES_HI q, QUE_GAP_FIRST_LO q, QUE_GAP_FIRST_HI q, QUE_GAP_LAST_LO
    q, QUE_GAP_LAST_HI q, QUE_GAPS q, QUE_DROP q]) u)) ∧
  (∀ (s u : State) (p : Packet) (q n : Nat) (l : List Nat), s.Admits 0x0506 false p → u = s.begun p → Packet.sized p 12 = true →
    Packet.arg p 10 2 = 0 → q = Packet.word p 0 → n = Packet.arg p 8 2 → 1 ≤ n → n ≤ 500 → q < 16384 → u.get (QUE_CFG0_BOROUGH q)
    = 0 → p.borough % 32 = 0 → l = (((u.que q).chain.filter (fun x => x != holePlot)).drop (Packet.arg p 4 4)).take n → exec
    (.queueChain p) s = .next (s.answered 0x0506 p 0 (w32 l.length :: bytesWords (l.flatMap (fun x => leBytes 8 (u.cadastre x))))
    u)) ∧
  (∀ (s u : State) (p : Packet) (i size base vec : Nat), s.Admits 0x0507 false p → u = s.begun p → Packet.sized p 16 = true →
    Packet.arg p 3 1 = 0 → Packet.arg p 14 2 = 0 → i = Packet.arg p 0 2 → size = Packet.arg p 2 1 → base = Packet.arg p 4 8 → vec
    = Packet.arg p 12 2 → i < 4096 → base % 4096 = 0 → (size = 0 ∨ 4 ≤ size ∧ size ≤ 18) → (vec = 0xFFFF ∨ vec < vecCount
    (p.borough % 32)) → u.ringNamed (p.borough % 32) i = false → exec (.queueDeliver p) s = .next (s.answered 0x0507 p 0 []
    (u.deliverySet (p.borough % 32) i size base vec))) ∧
  (∀ (s u : State) (p : Packet), s.Admits 0x0601 false p → u = s.begun p → Packet.sized p 0 = true → exec (.plotStatus p) s = .next
    (s.answered 0x0601 p 0 (u.regWords [PLT_STAT, PLT_FAR_FREE, PLT_NEAR_FREE, PLT_RES_FREE, PLT_ESC_FREE, PLT_EL_ALLOC,
    PLT_EL_USED, PLT_QUOTA (p.borough % 32), PLT_USED (p.borough % 32)]) u)) ∧
  (∀ (s u : State) (p : Packet) (v : State), s.Admits 0x0602 false p → u = s.begun p → Packet.sized p 4 = true → Packet.wordsOk p 0
    [PLT_ESC] = true → p.borough % 32 = 0 → u.escSet (bits (Packet.word p 0) 31 24) (bits (Packet.word p 0) 22 0) = some v → exec
    (.plotEscape p) s = .next (s.answered 0x0602 p 0 [] v)) ∧
  (∀ (s u : State) (p : Packet), s.Admits 0x0603 false p → u = s.begun p → Packet.sized p 4 = true → Packet.wordsOk p 0 [PLT_LOW] =
    true → p.borough % 32 = 0 → exec (.plotLow p) s = .next (s.answered 0x0603 p 0 [] (u.mergeRaw PLT_LOW.key (pf (Packet.word p
    0))))) ∧
  (∀ (s u : State) (p : Packet), s.Admits 0x0604 false p → u = s.begun p → Packet.sized p 0 = true → p.borough % 32 = 0 → exec
    (.plotCounters p) s = .next (s.answered 0x0604 p 0 [u.rd PLT_NOPLOT] (u.wn PLT_NOPLOT 0)))

/-- Opcodes TIME: the time is read, adjusted while nothing else disciplines it, its source and parameters are set, and the edge inputs and
frequency counters are set and read. -/
def Obligations.TimeOpcodesComplete : Prop :=
  (∀ (s u : State) (p : Packet), s.Admits 0x0701 false p → u = s.begun p → Packet.sized p 0 = true → exec (.timeRead p) s = .next
    (s.answered 0x0701 p 0 (bytesWords (mtBytes u.mt ++ leBytes 8 (u.tb.fc % 2 ^ 64)) ++ u.regWords [TB_STATUS]) u)) ∧
  (∀ (s u : State) (p : Packet) (ops ppb : Nat) (rate amt : Int), s.Admits 0x0702 false p → u = s.begun p → Packet.sized p 24 =
    true → Packet.arg p 1 3 = 0 → ops = Packet.arg p 0 1 → rate = sext 64 (Packet.arg p 4 8) → amt = sext 64 (Packet.arg p 12 8) →
    ppb = Packet.arg p 20 4 → ops < 64 → ops % 2 = 0 → p.borough % 32 = 0 → u.isSet TB_ADJ_CTL_GO = false → u.foldDue.adjCheck (adjOpsOf
    ops) rate amt ppb = 0 → exec (.timeAdjust p) s = .next (s.answered 0x0702 p 0 [] ((u.foldDue.adjApply (adjOpsOf ops) rate amt ppb).put
    TB_ADJ_STAT_CODE 0))) ∧
  (∀ (s u : State) (p : Packet) (ops ppb c : Nat) (rate amt : Int), s.Admits 0x0702 false p → u = s.begun p → Packet.sized p 24 =
    true → Packet.arg p 1 3 = 0 → ops = Packet.arg p 0 1 → rate = sext 64 (Packet.arg p 4 8) → amt = sext 64 (Packet.arg p 12 8) →
    ppb = Packet.arg p 20 4 → ops < 64 → ops % 2 = 0 → p.borough % 32 = 0 → u.isSet TB_ADJ_CTL_GO = false → c = u.foldDue.adjCheck
    (adjOpsOf ops) rate amt ppb → c ≠ 0 → exec (.timeAdjust p) s = .next (s.answered 0x0702 p (adjStatus c) [] (u.foldDue.put
    TB_ADJ_STAT_CODE c))) ∧
  (∀ (s u : State) (p : Packet), s.Admits 0x0703 false p → u = s.begun p → Packet.sized p 12 = true → Packet.wordsOk p 0 [TB_DISC,
    TB_QUAL, TB_HOLD_LIMIT] = true → p.borough % 32 = 0 → exec (.timeSource p) s = .next (s.answered 0x0703 p 0 [] (((u.mergeRaw
    TB_QUAL.key (pf (Packet.word p 1))).mergeRaw TB_HOLD_LIMIT.key (pf (Packet.word p 2))).discWrite (pf (Packet.word p 0))))) ∧
  (∀ (s u : State) (p : Packet), s.Admits 0x0704 false p → u = s.begun p → Packet.sized p 4 = true → Packet.wordsOk p 0 [TB_AGE] =
    true → p.borough % 32 = 0 → exec (.timeAge p) s = .next (s.answered 0x0704 p 0 [] (u.regStore TB_AGE.key (pf (Packet.word p
    0))))) ∧
  (∀ (s u : State) (p : Packet), s.Admits 0x0705 false p → u = s.begun p → Packet.sized p 4 = true → Packet.wordsOk p 0
    [TB_PPS_DELAY] = true → p.borough % 32 = 0 → exec (.timePpsDelay p) s = .next (s.answered 0x0705 p 0 [] (u.regStore
    TB_PPS_DELAY.key (pf (Packet.word p 0))))) ∧
  (∀ (s u : State) (p : Packet), s.Admits 0x0706 false p → u = s.begun p → Packet.sized p 4 = true → Packet.wordsOk p 0
    [TB_TAI_UTC] = true → p.borough % 32 = 0 → exec (.timeTaiUtc p) s = .next (s.answered 0x0706 p 0 [] (u.regStore TB_TAI_UTC.key
    (pf (Packet.word p 0))))) ∧
  (∀ (s u : State) (p : Packet), s.Admits 0x0707 false p → u = s.begun p → Packet.sized p 0 = true → exec (.timeStatus p) s = .next
    (s.answered 0x0707 p 0 (u.regWords [TB_STATUS, TB_HOLD_LO, TB_HOLD_HI, TB_RATE_LO, TB_RATE_HI, TB_ADJ_AMT_LO, TB_ADJ_AMT_HI])
    u)) ∧
  (∀ (s u : State) (p : Packet) (n : Nat), s.Admits 0x0708 false p → u = s.begun p → Packet.sized p 12 = true → n = Packet.word p 0
    → n < 16 → Packet.wordsOk p 1 [TIM_EDGE_CFG n, TIM_EDGE_DELAY n] = true → p.borough % 32 = 0 → exec (.timeEdge p) s = .next
    (s.answered 0x0708 p 0 [] (u.unitWords p [TIM_EDGE_CFG n, TIM_EDGE_DELAY n]))) ∧
  (∀ (s u : State) (p : Packet) (n : Nat), s.Admits 0x0709 false p → u = s.begun p → Packet.sized p 8 = true → n = Packet.word p 0
    → n < 8 → Packet.wordsOk p 1 [TIM_FREQ_CFG n] = true → p.borough % 32 = 0 → u.freqSrcReserved (bits (Packet.word p 1) 6 0) =
    false → exec (.timeFreq p) s = .next (s.answered 0x0709 p 0 [] (u.unitWords p [TIM_FREQ_CFG n]))) ∧
  (∀ (s u : State) (p : Packet) (k : Nat), s.Admits 0x070A false p → u = s.begun p → Packet.sized p 4 = true → k = Packet.word p 0
    → k < 8 → p.borough % 32 = 0 → exec (.timeFreqRead p) s = .next (s.answered 0x070A p 0 (u.regWords [TIM_FREQ_N k,
    TIM_FREQ_I_LO k, TIM_FREQ_I_HI k, TIM_FREQ_F_LO k, TIM_FREQ_F_HI k, TIM_FREQ_ST k]) u)) ∧
  (∀ (s u : State) (p : Packet), s.Admits 0x070B false p → u = s.begun p → Packet.sized p 4 = true → Packet.wordsOk p 0
    [SYS_PTM_CTL] = true → p.borough % 32 = 0 → exec (.timePtm p) s = .next (s.answered 0x070B p 0 [] (u.regStore SYS_PTM_CTL.key
    (pf (Packet.word p 0)))))

/-- Opcodes TRIG: an output is armed, disarmed and fired, skews, the ring, capture sets, the network and the stream are set, status is read. -/
def Obligations.TriggerOpcodesComplete : Prop :=
  (∀ (s u : State) (p : Packet) (x : Nat) (v : State), s.Admits 0x0801 false p → u = s.begun p → Packet.sized p 28 = true → x =
    Packet.word p 0 → x < 64 → Packet.wordsOk p 1 (trgRegs x) = true → p.borough % 32 = 0 → u.get (TRG_OUT_STAT_STATE x) = 0 → v =
    ((trgRegs x).zip (p.params.drop 1)).foldl (fun (s : State) (y : Reg × Word) => s.mergeRaw y.1.key ⟨0, 15, y.2⟩) u → v.get
    (TRG_OUT_CFG_ARM x) ≠ 0 → (v.trgArm x).1 = 0 → exec (.trigArm p) s = .next (s.answered 0x0801 p 0 [] ((v.trgArm x).2))) ∧
  (∀ (s u : State) (p : Packet) (x : Nat), s.Admits 0x0801 false p → u = s.begun p → Packet.sized p 28 = true → x = Packet.word p 0
    → x < 64 → Packet.wordsOk p 1 (trgRegs x) = true → p.borough % 32 = 0 → u.get (TRG_OUT_STAT_STATE x) ≠ 0 → exec (.trigArm p) s
    = .next (s.answered 0x0801 p 0x404 [] u)) ∧
  (∀ (s u : State) (p : Packet) (x : Nat), s.Admits 0x0802 false p → u = s.begun p → Packet.sized p 4 = true → x = Packet.word p 0
    → x < 64 → p.borough % 32 = 0 → exec (.trigDisarm p) s = .next (s.answered 0x0802 p 0 [] (u.trgOff x))) ∧
  (∀ (s u : State) (p : Packet) (x : Nat), s.Admits 0x0803 false p → u = s.begun p → Packet.sized p 16 = true → x = Packet.arg p 0
    1 → x < 64 → Packet.arg p 1 1 = 1 → Packet.arg p 2 2 = 0 → mtArgOk p 4 = true → Packet.arg p 4 12 = 0 → p.borough % 32 = 0 →
    u.get (TRG_OUT_CFG_SRC x) = 22 → exec (.trigFire p) s = .next (s.answered 0x0803 p 0 (bytesWords (mtBytes u.mt ++ leBytes 4
    (b2n (u.get (TRG_OUT_STAT_STATE x) == 1)))) (u.fireTrig x none))) ∧
  (∀ (s u : State) (p : Packet) (x : Nat), s.Admits 0x0803 false p → u = s.begun p → Packet.sized p 16 = true → x = Packet.arg p 0
    1 → x < 64 → Packet.arg p 1 1 = 0 → Packet.arg p 2 2 = 0 → mtArgOk p 4 = true → p.borough % 32 = 0 → u.get (TRG_OUT_CFG_SRC x)
    = 22 → exec (.trigFire p) s = .next (s.answered 0x0803 p 0 (bytesWords (mtBytes (mtArg p 4) ++ leBytes 4 (b2n (u.get
    (TRG_OUT_STAT_STATE x) == 1)))) (u.fireTrig x (some (mtArg p 4))))) ∧
  (∀ (s u : State) (p : Packet) (n : Nat), s.Admits 0x0804 false p → u = s.begun p → Packet.sized p 8 = true → n = Packet.word p 0
    → n < 21 → Packet.wordsOk p 1 [TRG_SRC_SKEW n] = true → p.borough % 32 = 0 → exec (.trigSrcSkew p) s = .next (s.answered
    0x0804 p 0 [] (u.unitWords p [TRG_SRC_SKEW n]))) ∧
  (∀ (s u : State) (p : Packet), s.Admits 0x0805 false p → u = s.begun p → Packet.sized p 132 = true → Packet.wordsOk p 0
    [TRG_RING_CTL] = true → p.borough % 32 = 0 → exec (.trigRing p) s = .next (s.answered 0x0805 p 0 [] (((List.range 32).foldl
    (fun (s : State) w => s.wn (TRG_RING_MASK w) (Packet.word p (1 + w))) u).ringCtlWrite (pf (Packet.word p 0))))) ∧
  (∀ (s u : State) (p : Packet) (n : Nat), s.Admits 0x0806 false p → u = s.begun p → Packet.sized p 132 = true → n = Packet.word p
    0 → n < 16 → p.borough % 32 = 0 → (∀ x < 64, u.get (TRG_OUT_STAT_STATE x) = 0) → exec (.trigCapset p) s = .next (s.answered
    0x0806 p 0 [] ((List.range 32).foldl (fun (s : State) w => s.wn (TRG_CAPSET n w) (Packet.word p (1 + w))) u))) ∧
  (∀ (s u : State) (p : Packet), s.Admits 0x0807 false p → u = s.begun p → Packet.sized p 4 = true → Packet.wordsOk p 0 [TRG_NET] =
    true → p.borough % 32 = 0 → exec (.trigNet p) s = .next (s.answered 0x0807 p 0 [] (u.regStore TRG_NET.key (pf (Packet.word p
    0))))) ∧
  (∀ (s u : State) (p : Packet), s.Admits 0x0808 false p → u = s.begun p → Packet.sized p 4 = true → Packet.wordsOk p 0 [TRG_CTL] =
    true → p.borough % 32 = 0 → bit (Packet.word p 0) 15 = false → exec (.trigStream p) s = .next (s.answered 0x0808 p 0 []
    (u.mergeRaw TRG_CTL.key (pf (Packet.word p 0))))) ∧
  (∀ (s u : State) (p : Packet) (x : Nat), s.Admits 0x0809 false p → u = s.begun p → Packet.sized p 4 = true → x = Packet.word p 0
    → x < 64 → p.borough % 32 = 0 → exec (.trigStatus p) s = .next (s.answered 0x0809 p 0 (u.regWords [TRG_OUT_STAT x, TRG_OUT_REF
    x, TRG_STAT, TRG_RING_STAT, TRG_RING_USED, TRG_RING_HELD]) u))

/-- Opcodes CAL: a copy of a page is repaired, user points are measured and written, TDC cores are calibrated, slices are trimmed, the survey is
started and stepped, and a page is read. -/
def Obligations.CalibrationOpcodesComplete : Prop :=
  (∀ (s u : State) (p : Packet) (n : Nat) (okA : Bool), s.Admits 0x0901 false p → u = s.begun p → Packet.sized p 4 = true → n =
    Packet.word p 0 → n < 32 → p.borough % 32 = 0 → u.pageFitted n = true → u.isSet (CAL_PAGE_STAT_A_OK n) = okA → u.isSet
    (CAL_PAGE_STAT_B_OK n) = !okA → exec (.calTrimRepair p) s = .next (s.opened 0x0901 p 8 0 [] ({ u with nvm := u.nvm ++ [⟨1, n,
    b2n okA, false, u.trimCopy n (b2n !okA), actionOf p, none⟩] }))) ∧
  (∀ (s u : State) (p : Packet) (c g q avg sl : Nat), s.Admits 0x0902 false p → u = s.begun p → Packet.sized p 8 = true →
    Packet.arg p 6 2 = 0 → c = Packet.arg p 0 1 → g = Packet.arg p 1 1 → q = Packet.arg p 2 1 → avg = Packet.arg p 3 1 → sl =
    Packet.arg p 4 2 → p.borough % 32 = 0 → u.awake 91 = true → c < 17 → u.calBusy c = false → q < 32 → u.excState q = 2 → g ≤ 3 →
    avg ≤ 8 → 5 ≤ sl → sl ≤ 1000 → exec (.calUserMeasure p) s = .next (s.opened 0x0902 p 8 0 [] ({ u with calMeas := u.calMeas ++
    [⟨c, g, q, avg, sl, actionOf p, u.mt⟩] }))) ∧
  (∀ (s u : State) (p : Packet) (n : Nat) (x : TrimCopy), s.Admits 0x0903 true p → u = s.begun p → n = Packet.arg p 0 1 →
    Packet.sized p (4 + 8 * n) = true → Packet.arg p 1 3 = 0 → 1 ≤ n → n ≤ 68 → (∀ i < n, Packet.arg p (4 + 8 * i) 1 < 17 ∧
    Packet.arg p (5 + 8 * i) 1 < 4 ∧ Packet.arg p (10 + 8 * i) 2 = 0) → p.borough % 32 = 0 → (∀ i < n, u.userSumOk p i = true) →
    u.userPage.1 < 2 ^ 32 - 1 → u.feLate p = 0 → x.seq = u.userPage.1 + 1 → x.written = some ((u.mt / (mtSec : Int)).toNat % 2 ^
    48) → x.words = userWords p u.userPage.2 → x.ok = true → exec (.calUserWrite p) s = .next (s.opened 0x0903 p 8 0 [] ({ u with
    nvm := u.nvm ++ [⟨0, 3, 0, false, x, actionOf p, Packet.act p⟩] }))) ∧
  (∀ (s u : State) (p : Packet) (n : Nat), s.Admits 0x0904 false p → u = s.begun p → Packet.sized p 4 = true → n = Packet.word p 0
    → n < 16 → p.borough % 32 = 0 → u.awake 93 = true → u.isSet (TIM_CORE_STAT_RUNNING (u.coreOf n)) = false → exec (.calTim p) s
    = .next (s.answered 0x0904 p 0 [] (u.coresStart n false))) ∧
  (∀ (s u : State) (p : Packet), s.Admits 0x0905 false p → u = s.begun p → Packet.sized p 4 = true → Packet.arg p 2 2 = 0 →
    p.borough % 32 = 0 → exec (.calTimPeriod p) s = .next (s.answered 0x0905 p 0 [] (u.put TIM_CAL_CTL_PERIOD (Packet.arg p 0 2)))) ∧
  (∀ (s u : State) (p : Packet) (v : State) (i sl : Nat), s.Admits 0x0906 true p → u = s.begun p → Packet.sized p 8 = true → i =
    Packet.arg p 0 2 → sl = Packet.arg p 2 1 → Packet.arg p 3 1 = 0 → i < u.part.inputs → sl < 17 → Packet.word p 1 < 2 ^ 29 →
    p.borough % 32 = 0 → u.sub (iTrim i sl) 31 29 ≠ 3 → u.surveyActive i = false → u.governSlot i = none → v = u.setSub (iTrim i
    sl) 28 0 (Packet.word p 1) → exec (.calSliceTrim p) s = .next (s.answered 0x0906 p 0 (v.commitRecord 0 0 v.mt) v)) ∧
  (∀ (s u : State) (p : Packet) (g en d : Nat), s.Admits 0x0907 false p → u = s.begun p → Packet.sized p 4 = true → g = Packet.arg
    p 0 1 → en = Packet.arg p 1 1 → d = Packet.arg p 2 2 → g < 24 → g < u.part.groups → boolByte en = true → 10 ≤ d → d ≤ 1000 → p.borough % 32 = 0 →
    exec (.calSurvey p) s = .next (s.answered 0x0907 p 0 [] (u.grpCtlWrite g (pf (setBits (setBits (setBits (u.rn (gCtl g)) 31 16
    d) 4 4 en) 0 0 0))))) ∧
  (∀ (s u : State) (p : Packet) (i : Nat), s.Admits 0x0908 false p → u = s.begun p → Packet.sized p 4 = true → i = Packet.arg p 0 2
    → i < u.part.inputs → Packet.arg p 2 2 = 0 → p.borough % 32 = 0 → u.sub (iStat i) 21 20 = 2 → exec (.calSurveyStep p) s =
    .next (s.opened 0x0908 p 8 0 [] (u.setSub (iStat i) 21 20 1))) ∧
  (∀ (s u : State) (p : Packet) (n c off : Nat), s.Admits 0x0909 false p → u = s.begun p → Packet.sized p 8 = true → n = Packet.arg
    p 0 1 → c = Packet.arg p 1 1 → off = Packet.arg p 2 2 → Packet.arg p 4 2 = 4 → Packet.arg p 6 2 = 0 → n < 32 → c < 2 →
    p.borough % 32 = 0 → u.pageFitted n = true → off % 4 = 0 → off ≤ 8188 → (u.trimCopy n c).ok = true → exec (.calPageRead p) s =
    .next (s.answered 0x0909 p 0 [w32 (u.copyWord n c off)] u))

/-- Opcodes FE. The registers of a current source, a channel, a sequence, a route, the coefficients and the blanking are applied at once while the
front end is IDLE and staged otherwise; the front end is bound to a grid and unbound; an urgent conversion is asked for; the reference
is switched; status is read. -/
def Obligations.FrontEndOpcodesComplete : Prop :=
  (∀ (s u : State) (p : Packet) (n : Nat) (vals : List SVal) (w : State) (v : State), s.Admits 0x0A03 true p → u = s.begun p →
    Packet.sized p 8 = true → n = Packet.word p 0 → n < 32 → Packet.wordsOk p 1 [SFE_EXC_CTL n] = true → p.borough % 32 = 0 → vals
    = packetVals p 1 [SFE_EXC_CTL n] → u.feState = 0 → u.feCheck 2 u.feGridOpt 0 (overlay u.feNext vals) = 0 → w = (vals.foldl
    (fun (s : State) v => s.mergeRaw v.key (pf v.val)) u).feCode 0 → u.rangeChanges vals = [] → w.feState = 0 → v = w.feApply w.mt
    0 vals → exec (.feExcitation p) s = .next (s.answered 0x0A03 p 0 (v.commitRecord 0 0 v.mt) v)) ∧
  (∀ (s u : State) (p : Packet) (n : Nat) (vals : List SVal) (w : State) (k : Nat), s.Admits 0x0A03 true p → u = s.begun p →
    Packet.sized p 8 = true → n = Packet.word p 0 → n < 32 → Packet.wordsOk p 1 [SFE_EXC_CTL n] = true → p.borough % 32 = 0 → vals
    = packetVals p 1 [SFE_EXC_CTL n] → u.feState ≠ 0 → u.stageIndex u.feGrid (Packet.act p) = some k → u.feCheck 2 u.feGridOpt k
    (overlay u.feNext vals) = 0 → w = (vals.foldl (fun (s : State) v => s.mergeRaw v.key (pf v.val)) u).feCode 0 → u.rangeChanges
    vals = [] → w.feState ≠ 0 → exec (.feExcitation p) s = .next (s.opened 0x0A03 p w.feGrid k [] ((w.feStage (actionOf p)
    (Packet.act p) vals).getD w))) ∧
  (∀ (s u : State) (p : Packet) (n : Nat) (vals : List SVal) (w : State) (v : State), s.Admits 0x0A04 true p → u = s.begun p →
    Packet.sized p 8 = true → n = Packet.word p 0 → n < 128 → Packet.wordsOk p 1 [SFE_CH_CFG n] = true → p.borough % 32 = 0 → vals
    = packetVals p 1 [SFE_CH_CFG n] → u.feState = 0 → u.feCheck 2 u.feGridOpt 0 (overlay u.feNext vals) = 0 → w = (vals.foldl (fun
    (s : State) v => s.mergeRaw v.key (pf v.val)) u).feCode 0 → u.rangeChanges vals = [] → w.feState = 0 → v = w.feApply w.mt 0
    vals → exec (.feChannel p) s = .next (s.answered 0x0A04 p 0 (v.commitRecord 0 0 v.mt) v)) ∧
  (∀ (s u : State) (p : Packet) (n : Nat) (vals : List SVal) (w : State) (k : Nat), s.Admits 0x0A04 true p → u = s.begun p →
    Packet.sized p 8 = true → n = Packet.word p 0 → n < 128 → Packet.wordsOk p 1 [SFE_CH_CFG n] = true → p.borough % 32 = 0 → vals
    = packetVals p 1 [SFE_CH_CFG n] → u.feState ≠ 0 → u.stageIndex u.feGrid (Packet.act p) = some k → u.feCheck 2 u.feGridOpt k
    (overlay u.feNext vals) = 0 → w = (vals.foldl (fun (s : State) v => s.mergeRaw v.key (pf v.val)) u).feCode 0 → u.rangeChanges
    vals = [] → w.feState ≠ 0 → exec (.feChannel p) s = .next (s.opened 0x0A04 p w.feGrid k [] ((w.feStage (actionOf p)
    (Packet.act p) vals).getD w))) ∧
  (∀ (s u : State) (p : Packet) (n : Nat) (vals : List SVal) (w : State) (v : State), s.Admits 0x0A05 true p → u = s.begun p →
    Packet.sized p 72 = true → n = Packet.word p 0 → n < 16 → Packet.wordsOk p 1 (PCV_SEQ_CTL n :: (List.range 16).map (fun e =>
    PCV_SEQ n e)) = true → p.borough % 32 = 0 → vals = packetVals p 1 (PCV_SEQ_CTL n :: (List.range 16).map (fun e => PCV_SEQ n
    e)) → u.feState = 0 → u.feCheck 2 u.feGridOpt 0 (overlay u.feNext vals) = 0 → w = (vals.foldl (fun (s : State) v => s.mergeRaw
    v.key (pf v.val)) u).feCode 0 → u.rangeChanges vals = [] → w.feState = 0 → v = w.feApply w.mt 0 vals → exec (.feSequence p) s
    = .next (s.answered 0x0A05 p 0 (v.commitRecord 0 0 v.mt) v)) ∧
  (∀ (s u : State) (p : Packet) (n : Nat) (vals : List SVal) (w : State) (k : Nat), s.Admits 0x0A05 true p → u = s.begun p →
    Packet.sized p 72 = true → n = Packet.word p 0 → n < 16 → Packet.wordsOk p 1 (PCV_SEQ_CTL n :: (List.range 16).map (fun e =>
    PCV_SEQ n e)) = true → p.borough % 32 = 0 → vals = packetVals p 1 (PCV_SEQ_CTL n :: (List.range 16).map (fun e => PCV_SEQ n
    e)) → u.feState ≠ 0 → u.stageIndex u.feGrid (Packet.act p) = some k → u.feCheck 2 u.feGridOpt k (overlay u.feNext vals) = 0 →
    w = (vals.foldl (fun (s : State) v => s.mergeRaw v.key (pf v.val)) u).feCode 0 → u.rangeChanges vals = [] → w.feState ≠ 0 →
    exec (.feSequence p) s = .next (s.opened 0x0A05 p w.feGrid k [] ((w.feStage (actionOf p) (Packet.act p) vals).getD w))) ∧
  (∀ (s u : State) (p : Packet) (n : Nat) (vals : List SVal) (w : State) (v : State), s.Admits 0x0A06 true p → u = s.begun p →
    Packet.sized p 8 = true → n = Packet.word p 0 → n < 16 → Packet.wordsOk p 1 [SFE_ROUTE n] = true → p.borough % 32 = 0 → vals =
    packetVals p 1 [SFE_ROUTE n] → u.feState = 0 → u.feCheck 2 u.feGridOpt 0 (overlay u.feNext vals) = 0 → w = (vals.foldl (fun (s
    : State) v => s.mergeRaw v.key (pf v.val)) u).feCode 0 → u.rangeChanges vals = [] → w.feState = 0 → v = w.feApply w.mt 0 vals
    → exec (.feRoute p) s = .next (s.answered 0x0A06 p 0 (v.commitRecord 0 0 v.mt) v)) ∧
  (∀ (s u : State) (p : Packet) (n : Nat) (vals : List SVal) (w : State) (k : Nat), s.Admits 0x0A06 true p → u = s.begun p →
    Packet.sized p 8 = true → n = Packet.word p 0 → n < 16 → Packet.wordsOk p 1 [SFE_ROUTE n] = true → p.borough % 32 = 0 → vals =
    packetVals p 1 [SFE_ROUTE n] → u.feState ≠ 0 → u.stageIndex u.feGrid (Packet.act p) = some k → u.feCheck 2 u.feGridOpt k
    (overlay u.feNext vals) = 0 → w = (vals.foldl (fun (s : State) v => s.mergeRaw v.key (pf v.val)) u).feCode 0 → u.rangeChanges
    vals = [] → w.feState ≠ 0 → exec (.feRoute p) s = .next (s.opened 0x0A06 p w.feGrid k [] ((w.feStage (actionOf p) (Packet.act
    p) vals).getD w))) ∧
  (∀ (s u : State) (p : Packet) (n : Nat) (vals : List SVal) (w : State) (v : State), s.Admits 0x0A08 true p → u = s.begun p →
    Packet.sized p 100 = true → n = Packet.word p 0 → n < 128 → Packet.wordsOk p 1 ((List.range 24).map (fun i => SFE_LIN n i)) =
    true → p.borough % 32 = 0 → vals = packetVals p 1 ((List.range 24).map (fun i => SFE_LIN n i)) → u.feState = 0 → u.feCheck 2
    u.feGridOpt 0 (overlay u.feNext vals) = 0 → w = (vals.foldl (fun (s : State) v => s.mergeRaw v.key (pf v.val)) u).feCode 0 →
    u.rangeChanges vals = [] → w.feState = 0 → v = w.feApply w.mt 0 vals → exec (.feLin p) s = .next (s.answered 0x0A08 p 0
    (v.commitRecord 0 0 v.mt) v)) ∧
  (∀ (s u : State) (p : Packet) (n : Nat) (vals : List SVal) (w : State) (k : Nat), s.Admits 0x0A08 true p → u = s.begun p →
    Packet.sized p 100 = true → n = Packet.word p 0 → n < 128 → Packet.wordsOk p 1 ((List.range 24).map (fun i => SFE_LIN n i)) =
    true → p.borough % 32 = 0 → vals = packetVals p 1 ((List.range 24).map (fun i => SFE_LIN n i)) → u.feState ≠ 0 → u.stageIndex
    u.feGrid (Packet.act p) = some k → u.feCheck 2 u.feGridOpt k (overlay u.feNext vals) = 0 → w = (vals.foldl (fun (s : State) v
    => s.mergeRaw v.key (pf v.val)) u).feCode 0 → u.rangeChanges vals = [] → w.feState ≠ 0 → exec (.feLin p) s = .next (s.opened
    0x0A08 p w.feGrid k [] ((w.feStage (actionOf p) (Packet.act p) vals).getD w))) ∧
  (∀ (s u : State) (p : Packet) (vals : List SVal) (w : State) (v : State), s.Admits 0x0A07 true p → u = s.begun p → Packet.sized p
    8 = true → Packet.wordsOk p 0 [SFE_BLANK, SFE_CM_CFG] = true → p.borough % 32 = 0 → vals = packetVals p 0 [SFE_BLANK,
    SFE_CM_CFG] → u.feState = 0 → u.feCheck 2 u.feGridOpt 0 (overlay u.feNext vals) = 0 → w = (vals.foldl (fun (s : State) v =>
    s.mergeRaw v.key (pf v.val)) u).feCode 0 → u.rangeChanges vals = [] → w.feState = 0 → v = w.feApply w.mt 0 vals → exec
    (.feBlank p) s = .next (s.answered 0x0A07 p 0 (v.commitRecord 0 0 v.mt) v)) ∧
  (∀ (s u : State) (p : Packet) (vals : List SVal) (w : State) (k : Nat), s.Admits 0x0A07 true p → u = s.begun p → Packet.sized p 8
    = true → Packet.wordsOk p 0 [SFE_BLANK, SFE_CM_CFG] = true → p.borough % 32 = 0 → vals = packetVals p 0 [SFE_BLANK,
    SFE_CM_CFG] → u.feState ≠ 0 → u.stageIndex u.feGrid (Packet.act p) = some k → u.feCheck 2 u.feGridOpt k (overlay u.feNext
    vals) = 0 → w = (vals.foldl (fun (s : State) v => s.mergeRaw v.key (pf v.val)) u).feCode 0 → u.rangeChanges vals = [] →
    w.feState ≠ 0 → exec (.feBlank p) s = .next (s.opened 0x0A07 p w.feGrid k [] ((w.feStage (actionOf p) (Packet.act p)
    vals).getD w))) ∧
  (∀ (s u : State) (p : Packet) (g k : Nat), s.Admits 0x0A01 true p → u = s.begun p → Packet.sized p 4 = true → g = Packet.word p 0
    → g < 8 → p.borough % 32 = 0 → u.gridValid g = true → u.stageIndex g (Packet.act p) = some k → u.feCheck 0 (some g) k
    u.shadowAt = 0 → u.bindWaits = false → exec (.feBind p) s = .next (s.opened 0x0A01 p g k [] ((u.feBind g k (actionOf p) (Packet.act
    p)).feCode 0))) ∧
  (∀ (s u : State) (p : Packet) (g k : Nat), s.Admits 0x0A01 true p → u = s.begun p → Packet.sized p 4 = true → g = Packet.word p 0
    → g < 8 → p.borough % 32 = 0 → u.gridValid g = true → u.stageIndex g (Packet.act p) = some k → u.feCheck 0 (some g) k
    u.shadowAt = 0 → u.bindWaits = true → exec (.feBind p) s = .next (s.opened 0x0A01 p 8 0 [] ((u.feBind g k (actionOf p) (Packet.act
    p)).feCode 0))) ∧
  (∀ (s u : State) (p : Packet) (n : Nat) (vals : List SVal) (w : State), s.Admits 0x0A03 true p → u = s.begun p →
    Packet.sized p 8 = true → n = Packet.word p 0 → n < 32 → Packet.wordsOk p 1 [SFE_EXC_CTL n] = true → p.borough % 32 = 0 → vals
    = packetVals p 1 [SFE_EXC_CTL n] → u.feState = 0 → u.feCheck 2 u.feGridOpt 0 (overlay u.feNext vals) = 0 → w = (vals.foldl
    (fun (s : State) v => s.mergeRaw v.key (pf v.val)) u).feCode 0 → u.rangeChanges vals ≠ [] → exec (.feExcitation p) s = .next
    (s.opened 0x0A03 p 8 0 [] (((w.feCommit (actionOf p) (Packet.act p) vals).getD w).sfeDirty))) ∧
  (∀ (s u : State) (p : Packet) (n : Nat) (vals : List SVal) (k : Nat), s.Admits 0x0A03 true p → u = s.begun p →
    Packet.sized p 8 = true → n = Packet.word p 0 → n < 32 → Packet.wordsOk p 1 [SFE_EXC_CTL n] = true → p.borough % 32 = 0 → vals
    = packetVals p 1 [SFE_EXC_CTL n] → u.feState ≠ 0 → u.stageIndex u.feGrid (Packet.act p) = some k → u.feCheck 2 u.feGridOpt k
    (overlay u.feNext vals) = 0 → u.rangeChanges vals ≠ [] → exec (.feExcitation p) s = .next (s.opened 0x0A03 p 8 0 [] (((u.feCode
    0).feCommit (actionOf p) (Packet.act p) vals vals).getD u))) ∧
  (∀ (s u : State) (p : Packet) (g : Nat), s.Admits 0x0A01 true p → u = s.begun p → Packet.sized p 4 = true → g = Packet.word p 0 →
    g < 8 → p.borough % 32 = 0 → u.feState ≠ 0 → exec (.feBind p) s = .next (s.answered 0x0A01 p 0x301 [] (u.feCode 1))) ∧
  (∀ (s u : State) (p : Packet) (k : Nat), s.Admits 0x0A02 true p → u = s.begun p → Packet.sized p 0 = true → p.borough % 32 = 0 →
    u.stageIndex u.feGrid (Packet.act p) = some k → u.feCheck 1 (some u.feGrid) k u.shadowAt = 0 → exec (.feUnbind p) s = .next
    (s.opened 0x0A02 p u.feGrid k [] ((u.feUnbind k (actionOf p)).feCode 0))) ∧
  (∀ (s u : State) (p : Packet) (n ch avg : Nat), s.Admits 0x0A09 false p → u = s.begun p → Packet.sized p 4 = true → n =
    Packet.arg p 0 1 → ch = Packet.arg p 1 1 → avg = Packet.arg p 2 1 → Packet.arg p 3 1 = 0 → n < 16 → ch < 8 → avg ≤ 8 →
    p.borough % 32 = 0 → exec (.feUrgent p) s = .next (s.opened 0x0A09 p 8 0 [] (u.urgRequest n ⟨ch, avg, 2, actionOf p, false,
    false⟩))) ∧
  (∀ (s u : State) (p : Packet) (en : Nat), s.Admits 0x0A0A false p → u = s.begun p → Packet.sized p 4 = true → en = Packet.word p
    0 → boolByte en = true → p.borough % 32 = 0 → (en ≠ 0 ∨ u.feState ≠ 2) → exec (.feRef p) s = .next (s.answered 0x0A0A p 0 []
    (u.refCtlWrite (pf en)))) ∧
  (∀ (s u : State) (p : Packet), s.Admits 0x0A0A false p → u = s.begun p → Packet.sized p 4 = true → Packet.word p 0 = 0 →
    p.borough % 32 = 0 → u.feState = 2 → exec (.feRef p) s = .next (s.answered 0x0A0A p 0x301 [] u)) ∧
  (∀ (s u : State) (p : Packet) (n : Nat), s.Admits 0x0A0B false p → u = s.begun p → Packet.sized p 4 = true → n = Packet.word p 0
    → n < 16 → p.borough % 32 = 0 → exec (.feStatus p) s = .next (s.answered 0x0A0B p 0 (u.regWords ([SFE_STAT, PCV_STAT n,
    PCV_SKIPCNT n, PCV_URGREF n] ++ (List.range 8).map (fun c => SFE_CH_STAT (8 * n + c)))) u))

/-- Opcodes LANE: a sheet is set, a lane tuned, substituted and tested, the sheet narrowed and its status read. -/
def Obligations.LaneOpcodesComplete : Prop :=
  (∀ (s u : State) (p : Packet) (n v : Nat) (w : State), s.Admits 0x0B01 false p → u = s.begun p → Packet.sized p 16 = true → n =
    Packet.word p 0 → n < 40 → v = Packet.word p 1 → Packet.wordsOk p 1 [LNE_SHEET_CTL n, LNE_EYE_CFG0 n, LNE_EYE_CFG1 n] = true →
    p.borough % 32 = 0 → u.isSet (LNE_SHEET_CTL_START n) = false → w = ((u.mergeRaw (LNE_EYE_CFG0 n).key (pf (Packet.word p
    2))).mergeRaw (LNE_EYE_CFG1 n).key (pf (Packet.word p 3))).sheetCtlWrite n (pf v) → bit v 26 = true → exec (.laneSheet p) s =
    .next (s.answered 0x0B01 p (laneStatus (w.get (LNE_SHEET_STAT_CODE n))) [] w)) ∧
  (∀ (s u : State) (p : Packet) (sh l v : Nat), s.Admits 0x0B02 false p → u = s.begun p → Packet.sized p 8 = true → Packet.arg p 2
    2 = 0 → sh = Packet.arg p 0 1 → l = Packet.arg p 1 1 → sh < 40 → l < 9 → v = Packet.word p 1 → Packet.wordsOk p 1 [LNE_CTL sh
    l] = true → p.borough % 32 = 0 → u.isSet (LNE_SHEET_CTL_START sh) = false → u.laneUnused sh l = true → u.laneState sh l ≠ 9 →
    exec (.laneTune p) s = .next (s.answered 0x0B02 p 0 [] (u.laneCtlWrite sh l (pf v)))) ∧
  (∀ (s u : State) (p : Packet) (sh k : Nat) (r : Option Nat × State), s.Admits 0x0B03 false p → u = s.begun p → Packet.sized p 4 =
    true → Packet.arg p 2 2 = 0 → sh = Packet.arg p 0 1 → k = Packet.arg p 1 1 → sh < 40 → k < 8 → p.borough % 32 = 0 → r = (u.put
    (LNE_SHEET_CTL_SUB_LANE sh) k).subst sh k false (some (actionOf p)) → r.1 = some 0 → exec (.laneSubst p) s = .next (s.answered
    0x0B03 p 0 [] r.2)) ∧
  (∀ (s u : State) (p : Packet) (sh k : Nat) (r : Option Nat × State), s.Admits 0x0B03 false p → u = s.begun p → Packet.sized p 4 =
    true → Packet.arg p 2 2 = 0 → sh = Packet.arg p 0 1 → k = Packet.arg p 1 1 → sh < 40 → k < 8 → p.borough % 32 = 0 → r = (u.put
    (LNE_SHEET_CTL_SUB_LANE sh) k).subst sh k false (some (actionOf p)) → r.1 = none → exec (.laneSubst p) s = .next (s.opened
    0x0B03 p 8 0 [] r.2)) ∧
  (∀ (s u : State) (p : Packet) (sh k : Nat) (r : Nat × State), s.Admits 0x0B04 false p → u = s.begun p → Packet.sized p 4 = true →
    Packet.arg p 2 2 = 0 → sh = Packet.arg p 0 1 → k = Packet.arg p 1 1 → sh < 40 → k < 8 → p.borough % 32 = 0 → r = (u.put
    (LNE_SHEET_CTL_SUB_LANE sh) k).narrow sh k → exec (.laneNarrow p) s = .next (s.answered 0x0B04 p (laneStatus r.1) [] r.2)) ∧
  (∀ (s u c : State) (p : Packet) (sh l : Nat), s.Admits 0x0B05 false p → u = s.begun p → Packet.sized p 16 = true → Packet.arg p 2 2
    = 0 → sh = Packet.arg p 0 1 → l = Packet.arg p 1 1 → sh < 40 → l < 9 → Packet.wordsOk p 1 [LNE_PRBS_CTL sh l] = true →
    p.borough % 32 = 0 → u.sheetState sh = 3 → c = u.prbsCatch sh l → exec (.lanePrbs p) s = .next (s.answered 0x0B05 p 0 (c.regWords
    [LNE_PRBS_ERR_LO sh l, LNE_PRBS_ERR_HI sh l, LNE_PRBS_BITS_LO sh l, LNE_PRBS_BITS_HI sh l]) (((c.wn (LNE_USER_LO sh l) (Packet.word p 2)).wn
    (LNE_USER_HI sh l) (Packet.word p 3)).prbsWrite sh l (pf (Packet.word p 1))))) ∧
  (∀ (s u : State) (p : Packet) (n : Nat), s.Admits 0x0B06 false p → u = s.begun p → Packet.sized p 4 = true → n = Packet.word p 0
    → n < 40 → p.borough % 32 = 0 → exec (.laneStatus p) s = .next (s.answered 0x0B06 p 0 (u.regWords ([LNE_SHEET_STAT n, LNE_MAP
    n, LNE_DROPS n, LNE_ATTEMPTS n] ++ (List.range 9).flatMap (fun l => [LNE_STAT n l, LNE_EYE n l, LNE_LOSCNT n l, LNE_LOLCNT n
    l]))) u))

/-- Opcodes LINK and ROUTE: the parameters and the receive map of a link, the MACs, the pairs with their sides and policy, the heartbeats and the
route tables. -/
def Obligations.RouteOpcodesComplete : Prop :=
  (∀ (s u : State) (p : Packet) (n : Nat) (l : List Reg), s.Admits 0x0C01 false p → u = s.begun p → Packet.sized p 28 = true → n =
    Packet.word p 0 → n < 40 → l = [SPX_CTL n, SPX_TIMER n, SPX_TRAIN n, SPX_BCN n, SPX_ASYM n, SPX_DOZE n] → Packet.wordsOk p 1 l
    = true → p.borough % 32 = 0 → u.isSet (LNE_SHEET_CTL_START n) = false → exec (.linkConfig p) s = .next (s.answered 0x0C01 p 0
    [] (u.unitWords p l))) ∧
  (∀ (s u : State) (p : Packet) (sh first n : Nat) (ws : List Nat), s.Admits 0x0C02 false p → u = s.begun p → Packet.sized p (8 + 4
    * n) = true → Packet.arg p 1 1 = 0 → Packet.arg p 6 2 = 0 → sh = Packet.arg p 0 1 → first = Packet.arg p 2 2 → n = Packet.arg
    p 4 2 → ws = (List.range n).map (fun i => Packet.word p (2 + i)) → sh < 40 → 1 ≤ n → first + n ≤ 4096 → (∀ v ∈ ws, bits v 31
    14 = 0) → p.borough % 32 = 0 → exec (.linkRxmap p) s = .next (s.answered 0x0C02 p 0 [] ((List.range n).foldl (fun (s : State)
    i => s.setTab (0x1580000 + 0x4000 * sh + 4 * (first + i)) (w32 (ws.getD i 0))) u))) ∧
  (∀ (s u : State) (p : Packet) (v : Nat), s.Admits 0x0C02 false p → u = s.begun p → Packet.sized p 12 = true → Packet.arg p 1 1 =
    0 → Packet.arg p 6 2 = 0 → Packet.arg p 0 1 < 40 → Packet.arg p 4 2 = 1 → Packet.arg p 2 2 < 4096 → v = Packet.word p 2 → bits
    v 30 14 = 0 → bit v 31 = true → u.get (QUE_STAT_STATE (bits v 13 0)) ≠ 1 → p.borough % 32 = 0 → exec (.linkRxmap p) s = .next
    (s.answered 0x0C02 p 0x420 [] u)) ∧
  (∀ (s u : State) (p : Packet) (n : Nat), s.Admits 0x0C03 false p → u = s.begun p → Packet.sized p 4 = true → n = Packet.word p 0
    → n < 40 → p.borough % 32 = 0 → exec (.linkStatus p) s = .next (s.answered 0x0C03 p 0 (u.regWords [SPX_STAT n, SPX_TIMER n,
    SPX_TRAIN n, SPX_BCN n, SPX_ASYM n, SPX_DOZE n, SPX_PARTNER n, SPX_EPOCH n, SPX_SEQ n, SPX_ACK n, SPX_CRD n, SPX_REPLAYS n,
    SPX_CRCERR n, SPX_DUPS n, SPX_RXDISC n, SPX_FEC_CORR_LO n, SPX_FEC_CORR_HI n, SPX_FEC_UNC n, SPX_BCN_OFS_LO n, SPX_BCN_OFS_HI
    n, SPX_BCN_DLY n, SPX_BCN_SEQ n]) u)) ∧
  (∀ (s u : State) (p : Packet) (m v : Nat), s.Admits 0x0D01 false p → u = s.begun p → Packet.sized p 8 = true → m = Packet.word p
    0 → v = Packet.word p 1 → bits v 31 30 ≠ 3 → m < 16 → Packet.wordsOk p 1 [ETH_MAC_CFG m] = true → p.borough % 32 = 0 →
    u.macRefuses m v = false → exec (.routeMac p) s = .next (s.answered 0x0D01 p 0 [] (u.macCfgWrite m (pf v)))) ∧
  (∀ (s u : State) (p : Packet) (j v : Nat), s.Admits 0x0D02 false p → u = s.begun p → Packet.sized p 8 = true → j = Packet.word p
    0 → j < 16 → Packet.wordsOk p 1 [RED_PAIR j] = true → p.borough % 32 = 0 → v = setBits (Packet.word p 1) 17 17 (u.get
    (RED_PAIR_SIDE j)) → u.pairFree j v = true → exec (.routePair p) s = .next (s.answered 0x0D02 p 0 [] (u.pairWrite j (pf v)))) ∧
  (∀ (s u : State) (p : Packet) (j r : Nat), s.Admits 0x0D03 false p → u = s.begun p → Packet.sized p 4 = true → Packet.arg p 2 2 =
    0 → j = Packet.arg p 0 1 → r = Packet.arg p 1 1 → j < 16 → boolByte r = true → p.borough % 32 = 0 → u.get (RED_PAIR_SIDE j) ≠
    r → exec (.routeSide p) s = .next (s.answered 0x0D03 p 0 [] (u.sideWrite j r))) ∧
  (∀ (s u : State) (p : Packet) (j r : Nat), s.Admits 0x0D03 false p → u = s.begun p → Packet.sized p 4 = true → Packet.arg p 2 2 =
    0 → j = Packet.arg p 0 1 → r = Packet.arg p 1 1 → j < 16 → boolByte r = true → p.borough % 32 = 0 → u.get (RED_PAIR_SIDE j) =
    r → exec (.routeSide p) s = .next (s.answered 0x0D03 p 0 [] (u.raise evRED_ROUTE_CMD j [.w4 r]))) ∧
  (∀ (s u : State) (p : Packet) (arm : Nat), s.Admits 0x0D04 false p → u = s.begun p → Packet.sized p 4 = true → arm = Packet.word
    p 0 → boolByte arm = true → p.borough % 32 = 0 → exec (.routePolicy p) s = .next (s.answered 0x0D04 p 0 [] ((u.put
    SYS_POLICY_ROUTE_SW arm).raise evRED_ROUTE_CMD 65535 [.w4 arm]))) ∧
  (∀ (s u : State) (p : Packet), s.Admits 0x0D05 false p → u = s.begun p → Packet.sized p 16 = true → Packet.wordsOk p 0 [RED_CTL,
    RED_HB, RED_HB_TX, RED_HB_TO] = true → portWordOk (Packet.word p 1) = true → p.borough % 32 = 0 → exec (.routeHeartbeat p) s =
    .next (s.answered 0x0D05 p 0 [] ((((u.mergeRaw RED_CTL.key (pf (Packet.word p 0))).mergeRaw RED_HB_TX.key (pf (Packet.word p
    2))).mergeRaw RED_HB_TO.key (pf (Packet.word p 3))).redHbWrite (pf (Packet.word p 1))))) ∧
  (∀ (s u : State) (p : Packet) (i : Nat), s.Admits 0x0D06 false p → u = s.begun p → Packet.sized p 36 = true → i = Packet.arg p 0
    2 → i < 4096 → Packet.arg p 2 2 = 0 → p.borough % 32 = 0 → u.routeBusy (0x1520000 + 32 * i) = false → exec (.routeStream p) s
    = .next (s.answered 0x0D06 p 0 [] ((List.range 8).foldl (fun (s : State) w => s.hitPut (directWord (0x1520000 + 32 * i + 4 * w
    - 0x1000000)) (2 ^ 32 - 1) (Packet.word p (1 + w))) u))) ∧
  (∀ (s u : State) (p : Packet) (i : Nat), s.Admits 0x0D07 false p → u = s.begun p → Packet.sized p 36 = true → i = Packet.arg p 0
    1 → Packet.arg p 1 3 = 0 → p.borough % 32 = 0 → u.routeBusy (0x1540000 + 32 * i) = false → exec (.routeAddress p) s = .next
    (s.answered 0x0D07 p 0 [] ((List.range 8).foldl (fun (s : State) w => s.hitPut (directWord (0x1540000 + 32 * i + 4 * w -
    0x1000000)) (2 ^ 32 - 1) (Packet.word p (1 + w))) u))) ∧
  (∀ (s u : State) (p : Packet) (i : Nat), s.Admits 0x0D08 false p → u = s.begun p → Packet.sized p 36 = true → i = Packet.arg p 0
    1 → i < 32 → Packet.arg p 1 3 = 0 → p.borough % 32 = 0 → u.routeBusy (0x1544000 + 32 * i) = false → exec (.routePort p) s =
    .next (s.answered 0x0D08 p 0 [] ((List.range 8).foldl (fun (s : State) w => s.hitPut (directWord (0x1544000 + 32 * i + 4 * w -
    0x1000000)) (2 ^ 32 - 1) (Packet.word p (1 + w))) u))) ∧
  (∀ (s u : State) (p : Packet), s.Admits 0x0D09 false p → u = s.begun p → Packet.sized p 0 = true → p.borough % 32 = 0 → exec
    (.routeStatus p) s = .next (s.answered 0x0D09 p 0 (u.regWords ((List.range 16).map (fun j => RED_PAIR j) ++ (List.range
    16).map (fun m => ETH_MAC_STAT m))) u))

/-- Opcodes GAZ: the root, the entries and their districts, a district send, its counts and the digests. -/
def Obligations.GazetteerOpcodesComplete : Prop :=
  (∀ (s u : State) (p : Packet) (en : Nat), s.Admits 0x0E01 false p → u = s.begun p → Packet.sized p 4 = true → en = Packet.arg p 0
    1 → boolByte en = true → Packet.arg p 1 3 = 0 → p.borough % 32 = 0 → u.get GAZ_OPEN_SENDS = 0 → exec (.gazRoot p) s = .next
    (s.answered 0x0E01 p 0 [] (u.roleSaid (u.put GAZ_CTL_ROOT en)))) ∧
  (∀ (s u : State) (p : Packet) (n : Nat) (l : List Byte) (x : GazEntry), s.Admits 0x0E02 false p → u = s.begun p → Packet.sized p
    36 = true → n = Packet.word p 0 → l = (Packet.bytes p).drop 4 → x = gazOf l → p.borough % 32 = 0 → u.isRoot = true → gazFormOk
    n l = true → x.dists.all districtOk = true → u.stackDown = none → u.gaz = [] → exec (.gazRegister p) s = .next (s.answered
    0x0E02 p 0 [] ((u.setEntry n (some x)).showGaz x.dists))) ∧
  (∀ (s u : State) (p : Packet) (n : Nat) (x : GazEntry), s.Admits 0x0E03 false p → u = s.begun p → Packet.sized p 4 = true → n =
    Packet.word p 0 → n < 2 ^ 25 → p.borough % 32 = 0 → u.isRoot = true → u.stackDown = none → u.gazEntry n = some x → exec
    (.gazRemove p) s = .next (s.answered 0x0E03 p 0 [] ((u.setEntry n none).showGaz x.dists))) ∧
  (∀ (s u : State) (p : Packet) (n : Nat) (x : GazEntry), s.Admits 0x0E04 false p → u = s.begun p → Packet.sized p 4 = true → n =
    Packet.word p 0 → n < 2 ^ 25 → p.borough % 32 = 0 → u.stackDown = none → u.gazEntry n = some x → exec (.gazRead p) s = .next
    (s.answered 0x0E04 p 0 (bytesWords x.bytes) u)) ∧
  (∀ (s u : State) (p : Packet) (n : Nat) (x : GazEntry) (l f : List Nat), s.Admits 0x0E05 false p → u = s.begun p → Packet.sized p
    12 = true → n = Packet.word p 0 → n < 2 ^ 25 → p.borough % 32 = 0 → u.stackDown = none → u.gazEntry n = some x → f =
    (List.range 4).map (fun i => Packet.arg p (4 + 2 * i) 2) → f.all districtField = true → gazDistricts x.dists f = some l → exec
    (.gazDistrict p) s = .next (s.answered 0x0E05 p 0 [] ((u.setEntry n (some { x with dists := l })).showGaz (x.dists ++ l)))) ∧
  (∀ (s u : State) (p : Packet) (d : Nat) (inner : List Byte) (act : Int), s.Admits 0x0E06 true p → u = s.begun p → 1 ≤
    p.params.length → d = Packet.arg p 0 2 → Packet.arg p 2 2 = 0 → inner = (Packet.bytes p).drop 4 → act = mtOf (p.actTime / 2 ^
    48) (p.actTime / 2 ^ 16 % 2 ^ 32) (p.actTime % 2 ^ 16) → p.borough % 32 = 0 → u.isRoot = true → d < 4096 → u.stackDown = none
    → u.gazBook.sentAt = none → u.sendOpen d = false → u.gazMembers d ≠ [] → innerOk inner p.actTime = true → u.mt + ((100 * mtUs
    : Nat) : Int) ≤ act → u.gazSelf d = false → exec (.gazSend p) s = .next (s.opened 0x0E06 p 8 0 [] (u.gazAccept d act inner
    (actionOf p)))) ∧
  (∀ (s u : State) (p : Packet) (d : Nat), s.Admits 0x0E07 false p → u = s.begun p → Packet.sized p 4 = true → d = Packet.arg p 0 2
    → Packet.arg p 2 2 = 0 → p.borough % 32 = 0 → d < 4096 → exec (.gazCounts p) s = .next (s.answered 0x0E07 p 0 (u.regWords
    [GAZ_D_APPLIED d, GAZ_D_REFUSED d, GAZ_D_SILENT d, GAZ_D_EPOCH_LO d]) u)) ∧
  (∀ (s u : State) (p : Packet), s.Admits 0x0E08 false p → u = s.begun p → Packet.sized p 4 = true → Packet.wordsOk p 0
    [GAZ_DIGEST] = true → p.borough % 32 = 0 → exec (.gazDigest p) s = .next (s.answered 0x0E08 p 0 [] (u.regStore GAZ_DIGEST.key
    (pf (Packet.word p 0)))))

/-- Opcodes LOG and POWER: the head and the records are read, a challenge is drawn, the logbook is cleared and keyed by its answer, and domains are put
to sleep, woken, held and read. -/
def Obligations.LogOpcodesComplete : Prop :=
  (∀ (s u : State) (p : Packet), s.Admits 0x0F01 false p → u = s.begun p → Packet.sized p 0 = true → exec (.logHead p) s = .next
    (s.answered 0x0F01 p 0 (u.regWords [LOG_HEAD_LO, LOG_HEAD_HI, LOG_COUNT, LOG_REFUSED]) u)) ∧
  (∀ (s u : State) (p : Packet) (q n : Nat) (r : List Word × State), s.Admits 0x0F02 false p → u = s.begun p → Packet.sized p 12 =
    true → q = Packet.arg p 0 8 → n = Packet.arg p 8 1 → 1 ≤ n → n ≤ 60 → Packet.arg p 9 3 = 0 → u.rd64 LOG_FIRST_LO LOG_FIRST_HI
    ≤ q → q ≤ u.rd64 LOG_HEAD_LO LOG_HEAD_HI → r = u.logWords ((u.log.slots.drop (q - u.rd64 LOG_FIRST_LO LOG_FIRST_HI)).take n) →
    exec (.logRead p) s = .next (s.answered 0x0F02 p 0 r.1 r.2)) ∧
  (∀ (s u : State) (p : Packet) (x : List Byte), s.Admits 0x0F03 false p → u = s.begun p → Packet.sized p 0 = true → p.borough % 32
    = 0 → x = leBytes 16 (u.draw (2 ^ 128)).1 → exec (.logChallenge p) s = .next (s.answered 0x0F03 p 0 (bytesWords x) ({ (u.draw
    (2 ^ 128)).2 with log := { (u.draw (2 ^ 128)).2.log with nonce := some (x, u.mt) } }))) ∧
  (∀ (s u : State) (p : Packet) (n k : List Byte) (r : CmdOut × State), s.Admits 0x0F04 false p → u = s.begun p → Packet.sized p 32
    = true → p.borough % 32 = 0 → u.logNonce = some n → u.log.key = some k → Packet.bytes p = u.logResponse k n 4 [] → r =
    u.logClear → r.1 = .now 0 (bytesWords (leBytes 8 (u.rd64 LOG_FIRST_LO LOG_FIRST_HI) ++ leBytes 8 (u.rd64 LOG_HEAD_LO
    LOG_HEAD_HI))) → exec (.logClear p) s = .next (s.answered 0x0F04 p 0 (bytesWords (leBytes 8 (u.rd64 LOG_FIRST_LO LOG_FIRST_HI)
    ++ leBytes 8 (u.rd64 LOG_HEAD_LO LOG_HEAD_HI))) r.2)) ∧
  (∀ (s u : State) (p : Packet), s.Admits 0x0F04 false p → u = s.begun p → Packet.sized p 32 = true → p.borough % 32 = 0 →
    u.logNonce = none → exec (.logClear p) s = .next (s.answered 0x0F04 p 0x700 [] (({ u with log := { u.log with nonce := none }
    } : State).raise evLOG_CLEAR_REFUSED))) ∧
  (∀ (s u : State) (p : Packet) (n : List Byte), s.Admits 0x0F05 false p → u = s.begun p → Packet.sized p 64 = true → p.borough %
    32 = 0 → u.logNonce = some n → u.log.key = none → ((Packet.bytes p).take 32).all (fun x => x == 0#8) = true → exec (.logKey p)
    s = .next (s.answered 0x0F05 p 0 [] (u.logKeySet ((Packet.bytes p).drop 32)))) ∧
  (∀ (s u : State) (p : Packet) (n k : List Byte), s.Admits 0x0F05 false p → u = s.begun p → Packet.sized p 64 = true → p.borough %
    32 = 0 → u.logNonce = some n → u.log.key = some k → ((Packet.bytes p).take 32).all (fun x => x == 0#8) = false → (Packet.bytes
    p).take 32 = u.logResponse k n 5 ((Packet.bytes p).drop 32) → exec (.logKey p) s = .next (s.answered 0x0F05 p 0 []
    (u.logKeySet ((Packet.bytes p).drop 32)))) ∧
  (∀ (s u : State) (p : Packet) (v : Nat), s.Admits 0x0F06 false p → u = s.begun p → Packet.sized p 4 = true → v = Packet.word p 0
    → 1 ≤ v → v ≤ 10000000 → p.borough % 32 = 0 → exec (.logRepeat p) s = .next (s.answered 0x0F06 p 0 [] (u.regStore
    LOG_REPEAT.key (pf v)))) ∧
  (∀ (s u v : State) (p : Packet) (d : Nat), s.Admits 0x1001 false p → u = s.begun p → Packet.sized p 4 = true → d = Packet.arg p 0 1
    → d ≤ 96 → Packet.arg p 1 1 = 0 → Packet.arg p 2 2 = 0 → p.borough % 32 = 0 → u.get (PWR_DOM_STATE d) = 0 → u.domainInUse d =
    false → v = ((u.put (PWR_DOM_CODE d) 0).put (PWR_DOM_STATE d) 1).domStamp d → exec (.powerDown p) s = .next (s.opened 0x1001 p 8 0 []
    (if v.isSet (PWR_DOM_REFUSE d) = true then v.refuseItems d else v))) ∧
  (∀ (s u : State) (p : Packet) (d : Nat), s.Admits 0x1002 false p → u = s.begun p → Packet.sized p 4 = true → d = Packet.arg p 0 1
    → d ≤ 96 → Packet.arg p 1 1 = 0 → Packet.arg p 2 2 = 0 → p.borough % 32 = 0 → u.get (PWR_DOM_STATE d) = 2 → d ≠ 93 → exec
    (.powerUp p) s = .next (s.opened 0x1002 p 8 0 [] (((u.put (PWR_DOM_CODE d) 0).put (PWR_DOM_STATE d) 3).domStamp d))) ∧
  (∀ (s u : State) (p : Packet) (d : Nat), s.Admits 0x1003 false p → u = s.begun p → Packet.sized p 4 = true → d = Packet.arg p 0 1
    → d ≤ 96 → Packet.arg p 1 1 < 2 → Packet.arg p 2 2 = 0 → p.borough % 32 = 0 → exec (.powerHold p) s = .next (s.answered 0x1003
    p 0 [] (u.put (PWR_DOM_REFUSE d) (Packet.arg p 1 1)))) ∧
  (∀ (s u : State) (p : Packet), s.Admits 0x1004 false p → u = s.begun p → Packet.sized p 0 = true → exec (.powerStatus p) s =
    .next (s.answered 0x1004 p 0 (bytesWords ((List.range 97).flatMap (fun d => leBytes 1 (u.get (PWR_DOM_STATE d))) ++ [0#8, 0#8,
    0#8])) u))

/-- Opcodes SPARE and DIAG: the policy bits named change, a failing slice, engine, slot, core, converter, array, plot or sector is replaced, with SPARE_EXHAUSTED
where no spare is left; the inventory and the diagnostics answer. Whether a tested unit passes and the temperatures are free values (log entry 48). -/
def Obligations.SpareOpcodesComplete : Prop :=
  (∀ (s u : State) (p : Packet) (m v : Nat) (w : Word), s.Admits 0x1101 false p → u = s.begun p → Packet.sized p 8 = true → m =
    Packet.word p 0 → v = Packet.word p 1 → m < 2048 → p.borough % 32 = 0 → w = (u.rd SYS_POLICY &&& ~~~(w32 m)) ||| (w32 v &&&
    w32 m) → exec (.sparePolicy p) s = .next (s.answered 0x1101 p 0 [(u.wr
    SYS_POLICY w).disarmPlots.rd SYS_POLICY] (u.wr SYS_POLICY w).disarmPlots)) ∧
  (∀ (s u : State) (p : Packet) (i n : Nat), s.Admits 0x1102 false p → u = s.begun p → Packet.sized p 4 = true → i = Packet.arg p 0
    2 → n = Packet.arg p 2 1 → Packet.arg p 3 1 = 1 → i < u.part.inputs → n < 17 → u.sub (iTrim i n) 31 29 = 2 → p.borough % 32 =
    0 → u.awake (inputGroup i) = true → u.sub (iStat i) 18 18 ≠ 1 → exec (.spareSlice p) s = .next (s.answered 0x1102 p 0 []
    (u.inputDead i n false))) ∧
  (∀ (s u : State) (p : Packet) (i n : Nat), s.Admits 0x1102 false p → u = s.begun p → Packet.sized p 4 = true → i = Packet.arg p 0
    2 → n = Packet.arg p 2 1 → Packet.arg p 3 1 = 0 → i < u.part.inputs → n < 17 → u.sub (iTrim i n) 31 29 = 2 → p.borough % 32 =
    0 → u.awake (inputGroup i) = true → u.sub (iStat i) 18 18 ≠ 1 → u.sub (iStat i) 31 27 ≠ n → u.sub (iStat i) 19 19 = 1 → exec
    (.spareSlice p) s = .next (s.answered 0x1102 p 0 [] (u.inServiceFail i n true false))) ∧
  (∀ (s u : State) (p : Packet) (l x : Nat), s.Admits 0x1103 false p → u = s.begun p → Packet.sized p 4 = true → l = Packet.arg p 0
    1 → l < 64 → Packet.arg p 1 3 = 0 → p.borough % 32 = 0 → u.failingEngine l = some x → u.awake 80 = true → (∃ i < 4, u.get
    (PWR_ENG_STATE (64 + i)) = 1) → exec (.spareEngine p) s = .next (s.answered 0x1103 p 0 [] (u.engSubstitute x false))) ∧
  (∀ (s u : State) (p : Packet) (l x : Nat), s.Admits 0x1103 false p → u = s.begun p → Packet.sized p 4 = true → l = Packet.arg p 0
    1 → l < 64 → Packet.arg p 1 3 = 0 → p.borough % 32 = 0 → u.failingEngine l = some x → u.awake 80 = true → (∀ i < 4, u.get
    (PWR_ENG_STATE (64 + i)) ≠ 1) → exec (.spareEngine p) s = .next (s.answered 0x1103 p 15 [] (u.engSubstitute x false))) ∧
  (∀ (s u : State) (p : Packet) (n : Nat), s.Admits 0x1104 false p → u = s.begun p → Packet.sized p 4 = true → n = Packet.arg p 0 2
    → Packet.arg p 2 2 = 0 → u.failingSlots.contains n = true → p.borough % 32 = 0 → (u.spareSlot n).isSome = true → exec
    (.spareSlot p) s = .next (s.answered 0x1104 p 0 [] (u.slotSubstitute n false))) ∧
  (∀ (s u : State) (p : Packet) (c n : Nat), s.Admits 0x1105 false p → u = s.begun p → Packet.sized p 4 = true → c = Packet.arg p 0
    1 → n = u.get (TIM_CORE_STAT_LOGICAL c) → Packet.arg p 1 3 = 0 → c < 18 → u.isSet (TIM_CORE_STAT_FAILING c) = true → n < 16 →
    (∀ x ∈ u.tdcSwitches, x.logical ≠ n) → p.borough % 32 = 0 → u.awake 93 = true → u.spareCore.isSome = true → exec (.spareTdc p)
    s = .next (s.answered 0x1105 p 0 [] (u.tdcSubstitute n false))) ∧
  (∀ (s u : State) (p : Packet) (c : Nat), s.Admits 0x1106 false p → u = s.begun p → Packet.sized p 4 = true → c = Packet.arg p 0 1
    → c < 16 → Packet.arg p 1 3 = 0 → u.isSet (PCV_STAT_FAILING c) = true → (u.pcv c).leaving.isNone = true → p.borough % 32 = 0 →
    u.awake 91 = true → 0 < u.sparesLeft 7 → exec (.sparePcv p) s = .next (s.answered 0x1106 p 0 [] (u.retirePcv c false))) ∧
  (∀ (s u : State) (p : Packet) (n : Nat), s.Admits 0x1107 false p → u = s.begun p → Packet.sized p 4 = true → n = Packet.arg p 0 1
    → n < 17 → Packet.arg p 1 3 = 0 → u.get (BFM_ARRAY_STATE n) = 2 → u.bmacSwaps = [] → p.borough % 32 = 0 → u.awake 81 = true →
    0 < u.sparesLeft 6 → exec (.spareBmac p) s = .next (s.answered 0x1107 p 0 [] (u.retireBmac n false))) ∧
  (∀ (s u : State) (p : Packet) (k : Nat), s.Admits 0x1108 false p → u = s.begun p → Packet.sized p 4 = true → k = Packet.arg p 0 1
    → k < 5 → Packet.arg p 1 3 = 0 → u.get (PWR_CORE_STATE k) = 2 → p.borough % 32 = 0 → (∃ i < 5, u.get (PWR_CORE_STATE i) = 1) →
    exec (.spareCore p) s = .next (s.answered 0x1108 p 0 [] (u.coreSubstitute k false))) ∧
  (∀ (s u : State) (p : Packet) (i : Nat), s.Admits 0x1109 false p → u = s.begun p → Packet.sized p 4 = true → i = Packet.word p 0
    → i < 16777216 → (u.plot i).weak = true → (u.plot i).state ≠ 4 → (u.plot i).state ≠ 5 → p.borough % 32 = 0 → 0 < u.sparesLeft
    (if plotTier i = 1 then 4 else 5) → exec (.sparePlot p) s = .next (s.answered 0x1109 p 0 [] (u.plotLeave i))) ∧
  (∀ (s u : State) (p : Packet) (x : Nat), s.Admits 0x110A false p → u = s.begun p → Packet.sized p 4 = true → x = Packet.arg p 0 2
    → Packet.arg p 2 2 = 0 → u.mramBad.contains x = true → p.borough % 32 = 0 → u.sparesLeft 10 ≠ 0 → exec (.spareMram p) s =
    .next (s.answered 0x110A p 0 [] (u.mramSubstitute x))) ∧
  (∀ (s u : State) (p : Packet) (x : Nat), s.Admits 0x110A false p → u = s.begun p → Packet.sized p 4 = true → x = Packet.arg p 0 2
    → Packet.arg p 2 2 = 0 → u.mramBad.contains x = true → p.borough % 32 = 0 → u.sparesLeft 10 = 0 → exec (.spareMram p) s =
    .next (s.answered 0x110A p 15 [] (u.spareExhausted 10 x))) ∧
  (∀ (s u : State) (p : Packet), s.Admits 0x110B false p → u = s.begun p → Packet.sized p 0 = true → exec (.spareInventory p) s =
    .next (s.answered 0x110B p 0 (u.regWords ((List.range 11).map PWR_SPARE)) u)) ∧
  (∀ (s u : State) (p : Packet), s.Admits 0x1201 false p → u = s.begun p → p.params.length ≤ 1000 → exec (.diagEcho p) s = .next
    (s.answered 0x1201 p 0 p.params u)) ∧
  (∀ (s u : State) (p : Packet) (c i : Nat) (x y : Nat × State), s.Admits 0x1202 false p → u = s.begun p → Packet.sized p 4 = true
    → c = Packet.arg p 0 1 → i = Packet.arg p 2 2 → Packet.arg p 1 1 = 0 → i < testUnits c → p.borough % 32 = 0 → (testDomain c i
    = 96 ∨ u.awake (testDomain c i) = true) → u.testInService c i = false → x = u.draw 2 → y = x.2.draw (2 ^ 32) → exec
    (.diagSelftest p) s = .next (s.answered 0x1202 p 0 [w32 x.1, w32 y.1] y.2)) ∧
  (∀ (s u : State) (p : Packet) (b : Nat), s.Admits 0x1203 false p → u = s.begun p → Packet.sized p 4 = true → b = Packet.arg p 0 2
    → b < 4096 → Packet.arg p 2 2 = 0 → p.borough % 32 = 0 → exec (.diagBeamSat p) s = .next (s.answered 0x1203 p 0 (u.regWords
    [BFM_BSAT b]) u)) ∧
  (∀ (s u : State) (p : Packet) (r : List Byte × State), s.Admits 0x1204 false p → u = s.begun p → Packet.sized p 0 = true → r =
    u.dieTemps → exec (.diagTemps p) s = .next (s.answered 0x1204 p 0 (bytesWords r.1) r.2))

/-- The frame of each command: it answers a next state from every state, and only the components listed, with those that raising an event
changes (`eventComps`), may differ. -/
def Obligations.HostAndStartFrames : Prop :=
  (∀ (fn : Nat) (data : List (Nat × Byte)), Frames (.tableApertureWrite fn data) [.aper, .tb, .funcs]) ∧
  (∀ (fn bar off : Nat) (write : Bool), Frames (.reservedAccess fn bar off write) [.tb, .funcs]) ∧
  (∀ (fn bar off len : Nat) (write : Bool), Frames (.oversizeRequest fn bar off len write) [.tb, .funcs]) ∧
  (∀ (fn addr : Nat), Frames (.atomicOpRequest fn addr) [.tb, .funcs]) ∧
  (∀ (fn off : Nat), Frames (.pairLoRead fn off) [.tb, .funcs, .drawn]) ∧
  (Frames (.supplyFault) []) ∧
  (Frames (.porRelease) [.porLow]) ∧
  (Frames (.xoFail) [.tb, .tdc, .start]) ∧
  (∀ (failed : Nat), Frames (.stackTrainingDone failed) [.force, .tb, .funcs, .linkUp, .ptm, .tags, .envs, .crings, .quesOn, .cmds, .slots, .spareBook, .grps, .spxTx, .excs, .plots, .ques, .plotBook, .copies, .jobs, .dxNext, .pulses, .sheets, .ports, .hrings, .links, .delivers, .gazSends, .start, .drawn]) ∧
  (Frames (.warmResetDone) []) ∧
  (Frames (.fwRunning) []) ∧
  (Frames (.fwWatchdog) [.start]) ∧
  (Frames (.fwStarted) [.start]) ∧
  (∀ (w : Wr), Frames (.imageVerify w) [.tb, .funcs]) ∧
  (∀ (w : Wr), Frames (.mgbXferGo w) [.tb, .funcs, .spareBook, .mgb]) ∧
  (∀ (code nbytes : Nat) (data : List Byte), Frames (.mgbXferDone code nbytes data) [.mgb]) ∧
  (∀ (i code val : Nat), Frames (.mgbPoll i code val) [.mgb]) ∧
  (∀ (addr : Option Nat), Frames (.alertNAssert addr) [.mgb]) ∧
  (∀ (low : Bool) (addr : Option Nat), Frames (.alertRepeat low addr) [.mgb]) ∧
  (∀ (n : Nat) (w : Wr), Frames (.mgbSigCfgWrite n w) [.tb, .funcs, .injects, .sigs]) ∧
  (∀ (w : Wr), Frames (.mgbEdgePush w) [.tb, .funcs, .spareBook, .sigs, .mgb]) ∧
  (∀ (n : Nat), Frames (.sigEdgeFire n) [.injects, .sigs]) ∧
  (∀ (n : Nat), Frames (.frameMarkerStart n) [.injects, .sigs]) ∧
  (∀ (n : Nat), Frames (.frameMarkerEnd n) [.injects, .sigs]) ∧
  (∀ (ir : Nat), Frames (.tapInstruction ir) [.tap]) ∧
  (Frames (.tapReset) [.tap]) ∧
  (∀ (dev : Int), Frames (.refclkGate dev) []) ∧
  (Frames (.refclkLost) [.grps]) ∧
  (Frames (.refclkBack) []) ∧
  (Frames (.pcieRefclkLost) []) ∧
  (∀ (which : Nat), Frames (.clkPllRelock which) []) ∧
  (∀ (which : Nat), Frames (.clkPllUnlock which) []) ∧
  (Frames (.aonMonitorRelease) [.start])

/-- The frame of each command: it answers a next state from every state, and only the components listed, with those that raising an event
changes (`eventComps`), may differ. -/
def Obligations.TimeFrames : Prop :=
  (Frames (.phasePllFirstLock) [.tb, .tdc, .start]) ∧
  (Frames (.phaseUnlock) []) ∧
  (Frames (.phaseRelock) []) ∧
  (Frames (.ageingFold) [.tb, .slots, .grps]) ∧
  (∀ (fn : Nat), Frames (.tbNowFracRead fn) [.tb, .funcs]) ∧
  (∀ (w : Wr), Frames (.adjRateChange w) [.tb, .funcs, .slots, .grps]) ∧
  (∀ (w : Wr), Frames (.adjSlewStart w) [.tb, .funcs, .slots, .grps]) ∧
  (∀ (w : Wr), Frames (.adjStep w) [.tb, .funcs, .slots, .grps]) ∧
  (∀ (w : Wr), Frames (.adjAbort w) [.tb, .funcs, .slots, .grps]) ∧
  (∀ (w : Wr), Frames (.adjTrace w) [.tb, .funcs, .slots, .grps]) ∧
  (Frames (.slewDone) [.tb, .slots, .grps]) ∧
  (∀ (w : Wr), Frames (.srcChangeDeclare w) [.tb, .funcs, .slots, .grps]) ∧
  (∀ (w : Wr), Frames (.changeOfSource w) [.tb, .funcs, .slots, .grps]) ∧
  (∀ (sub : Nat), Frames (.ppsInEdge sub) [.tb, .freqs]) ∧
  (Frames (.sourceQualified) [.tb]) ∧
  (Frames (.ppsLost) [.tb]) ∧
  (Frames (.ref10mLost) [.tb]) ∧
  (Frames (.ref10mReturn) [.tb]) ∧
  (∀ (op : ServoOp), Frames (.servoCorrection op) [.tb, .slots, .grps]) ∧
  (Frames (.hostTraceTimeout) [.tb]) ∧
  (Frames (.holdoverLimit) [.tb]) ∧
  (∀ (fn m : Nat), Frames (.tbTxtsPop fn m) [.tb, .txts, .funcs, .popWait])

/-- The frame of each command: it answers a next state from every state, and only the components listed, with those that raising an event
changes (`eventComps`), may differ. -/
def Obligations.ConverterFrames : Prop :=
  (∀ (n i : Nat) (rising : Bool), Frames (.edgeCapture n i rising) [.edges, .tagQ, .freqs, .popWait, .trigs]) ∧
  (∀ (fn n : Nat), Frames (.timTagPop fn n) [.tb, .funcs, .tagQ, .popWait]) ∧
  (∀ (w : Wr), Frames (.timCalStart w) [.tb, .funcs, .tdc, .spareBook, .timCal]) ∧
  (∀ (p : Nat) (w : Wr), Frames (.timCoreStart p w) [.tb, .funcs, .tdc, .spareBook]) ∧
  (Frames (.timCalPeriodic) [.tdc, .timCal]) ∧
  (∀ (p : Nat) (counts : List Nat) (temp : Int), Frames (.timCalRunEnd p counts temp) [.tdc, .tdcSwitches, .spareBook]) ∧
  (∀ (p : Nat) (temp : Int), Frames (.timCalStale p temp) [.tdc]) ∧
  (∀ (n : Nat), Frames (.tdcSpareSwitch n) [.tdcSwitches, .spareBook]) ∧
  (∀ x : GateEnd, Frames (.freqGateEnd x) [.freqs]) ∧
  (∀ (g : Nat), Frames (.cgLost g) [.cgLost]) ∧
  (∀ (g : Nat) (w : Wr), Frames (.refEnWrite g w) [.force, .tb, .funcs, .slots, .spareBook, .grps, .inps]) ∧
  (∀ (g : Nat), Frames (.cnvRefOk g) []) ∧
  (∀ (g : Nat) (w : Wr), Frames (.cnvApply g w) [.force, .tb, .funcs, .slots, .spareBook, .grps, .inps]) ∧
  (∀ (g : Nat), Frames (.cnvPllLocked g) [.slots, .grps, .inps]) ∧
  (∀ (g : Nat), Frames (.pllUnlock g) [.grps]) ∧
  (∀ (g : Nat), Frames (.pllRelock g) [.slots, .grps, .inps]) ∧
  (∀ (g : Nat), Frames (.cnvLocked g) [.grps]) ∧
  (∀ (g : Nat), Frames (.lockLost g) [.slots, .grps]) ∧
  (∀ (g : Nat) (res : List StepRes), Frames (.surveyStepEnd g res) [.tags, .envs, .crings, .cmds, .spareBook, .grps, .inps, .spxTx, .plots, .ques, .plotBook, .copies, .gazSends, .drawn]) ∧
  (∀ (i sl : Nat) (mean power : Int) (loud stuck : Bool), Frames (.sliceMonitorWindow i sl mean power loud stuck) [.spareBook, .inps]) ∧
  (∀ (g : Nat) (w : Wr), Frames (.surveyEnWrite g w) [.force, .tb, .funcs, .slots, .spareBook, .grps, .inps]) ∧
  (∀ (i : Nat) (w : Wr), Frames (.cnvInEnWrite i w) [.force, .tb, .funcs, .staged, .grps, .inps]) ∧
  (∀ (d : Nat), Frames (.dieLinkDown d) [.grps]) ∧
  (∀ (d : Nat), Frames (.dieLinkUp d) [.slots, .grps, .inps])

/-- The frame of each command: it answers a next state from every state, and only the components listed, with those that raising an event
changes (`eventComps`), may differ. -/
def Obligations.PipelineFrames : Prop :=
  (∀ (win : Nat) (w : Wr), Frames (.chpBind win w) [.tb, .funcs, .staged, .tags, .envs, .crings, .cmds, .slots, .spareBook, .spxTx, .plots, .ques, .plotBook, .copies, .gazSends, .drawn]) ∧
  (∀ (win : Nat) (w : Wr), Frames (.chpUnbind win w) [.tb, .funcs, .staged, .tags, .envs, .crings, .cmds, .slots, .spareBook, .spxTx, .plots, .ques, .plotBook, .copies, .gazSends, .drawn]) ∧
  (∀ (win : Nat) (w : Wr), Frames (.chpCommit win w) [.tb, .funcs, .staged, .tags, .envs, .crings, .cmds, .slots, .spareBook, .spxTx, .plots, .ques, .plotBook, .copies, .gazSends, .drawn]) ∧
  (∀ (d off : Nat) (w : Wr), Frames (.districtWindowWrite d off w) [.tb, .funcs, .staged, .tags, .envs, .crings, .cmds, .slots, .spareBook, .spxTx, .plots, .ques, .plotBook, .copies, .gazSends, .drawn]) ∧
  (∀ (line : Nat) (asserted : Bool), Frames (.blankEdge line asserted) [.blanks, .fe, .pcvs]) ∧
  (∀ (n : SampleSrc) (i : Nat) (x : SrcSample), Frames (.sourceSample n i x) [.force, .slots, .trimImg, .items, .trigs, .ques, .raws, .trgSeq, .drawn]) ∧
  (∀ (g i : Nat), Frames (.cgTag g i) [.slots, .freqs, .cgLost, .grps, .drawn]) ∧
  (∀ (g : Nat), Frames (.cgTagMissing g) [.slots, .grps]) ∧
  (∀ (g : Nat), Frames (.coastTimeout g) [.slots, .grps]) ∧
  (∀ (n : Nat), Frames (.gridSampleEmit n) [.force, .slots, .trimImg, .items, .ques, .raws, .drawn]) ∧
  (∀ (n : Nat), Frames (.sourceResume n) [.force, .slots, .trimImg, .items, .ques, .raws, .drawn]) ∧
  (∀ (n : Nat), Frames (.spectrumReady n) [.slots, .items, .drawn]) ∧
  (∀ (b : Nat), Frames (.beamSum b) [.force, .trimImg, .beams, .partials, .items, .spxTx, .drawn]) ∧
  (∀ (b : Nat), Frames (.chainWaitExpiry b) [.force, .trimImg, .beams, .partials, .items, .spxTx, .drawn]) ∧
  (∀ (w : Wr), Frames (.bfmCommit w) [.force, .tb, .funcs, .staged, .spareBook, .trimImg]) ∧
  (∀ (a : Nat), Frames (.bmacFail a) [.spareBook, .bmacSwaps, .bmacShed]) ∧
  (∀ (n : Nat) (ofBeam : Bool), Frames (.integrationEnd n ofBeam) [.slots, .beams, .items]) ∧
  (Frames (.itemComplete) [.spareBook, .items, .units, .plots, .ques, .plotBook, .ring])

/-- The frame of each command: it answers a next state from every state, and only the components listed, with those that raising an event
changes (`eventComps`), may differ. -/
def Obligations.FrontEndFrames : Prop :=
  (∀ (w : Wr), Frames (.sfeBind w) [.force, .tb, .funcs, .staged, .tags, .envs, .crings, .cmds, .spareBook, .trimImg, .spxTx, .fe, .pcvs, .sfeChs, .excs, .nvm, .plots, .ques, .plotBook, .copies, .gazSends, .drawn]) ∧
  (∀ (w : Wr), Frames (.sfeUnbind w) [.force, .tb, .funcs, .staged, .tags, .envs, .crings, .cmds, .spareBook, .trimImg, .spxTx, .fe, .pcvs, .sfeChs, .excs, .nvm, .plots, .ques, .plotBook, .copies, .gazSends, .drawn]) ∧
  (∀ (w : Wr), Frames (.sfeCommit w) [.force, .tb, .funcs, .staged, .tags, .envs, .crings, .cmds, .spareBook, .trimImg, .spxTx, .fe, .pcvs, .sfeChs, .excs, .nvm, .plots, .ques, .plotBook, .copies, .gazSends, .drawn]) ∧
  (∀ (q : Nat), Frames (.excRampEnd q) []) ∧
  (∀ (q : Nat), Frames (.excRangeSettled q) [.force, .staged, .tags, .envs, .crings, .cmds, .spareBook, .trimImg, .spxTx, .fe, .pcvs, .sfeChs, .excs, .nvm, .plots, .ques, .plotBook, .copies, .gazSends, .drawn]) ∧
  (∀ (q sense : Nat) (limit : Bool), Frames (.excSenseMeasure q sense limit) [.excs]) ∧
  (∀ (p : Nat), Frames (.pcvCycleStart p) [.tags, .envs, .crings, .cmds, .spareBook, .items, .spxTx, .pcvs, .plots, .ques, .plotBook, .copies, .gazSends, .drawn]) ∧
  (∀ (p : Nat) (convs : List Conv), Frames (.pcvEntryEnd p convs) [.tags, .envs, .crings, .cmds, .spareBook, .items, .spxTx, .pcvs, .sfeChs, .plots, .ques, .plotBook, .copies, .gazSends, .drawn]) ∧
  (∀ (p : Nat) (w : Wr), Frames (.pcvUrgGo p w) [.tb, .funcs, .spareBook, .pcvs]) ∧
  (∀ (p : Nat), Frames (.urgentArrive p) [.tags, .envs, .crings, .cmds, .spareBook, .items, .spxTx, .pcvs, .plots, .ques, .plotBook, .copies, .gazSends, .drawn]) ∧
  (∀ (w : Wr), Frames (.pcvRefEnWrite w) [.tb, .funcs, .fe]) ∧
  (Frames (.pcvRefOk) [.fe]) ∧
  (Frames (.pauseEnd) [.tags, .envs, .crings, .cmds, .spareBook, .items, .spxTx, .fe, .pcvs, .plots, .ques, .plotBook, .copies, .gazSends, .drawn]) ∧
  (∀ (p : Nat) (err : Int), Frames (.pcvMidscaleCheck p err) [.pcvs]) ∧
  (∀ (n : Nat) (badA badB : Bool), Frames (.trimPageLoad n badA badB) [.trimImg, .trimCopies, .trimLoaded]) ∧
  (∀ (conv : Nat) (zero ref : List Conv) (temp : Int), Frames (.calMeasureDone conv zero ref temp) [.tags, .envs, .crings, .cmds, .spareBook, .spxTx, .calMeas, .plots, .ques, .plotBook, .copies, .gazSends, .drawn]) ∧
  (∀ (ok : Bool), Frames (.nvmCopyWritten ok) [.force, .staged, .tags, .envs, .crings, .cmds, .spareBook, .trimImg, .spxTx, .trimCopies, .linCopies, .nvm, .mramBad, .plots, .ques, .plotBook, .copies, .gazSends, .drawn, .mramMap]) ∧
  (∀ (t : Nat) (w : Wr), Frames (.trgArm t w) [.tb, .funcs, .trgOuts]) ∧
  (∀ (t : Nat) (w : Wr), Frames (.trgDisarm t w) [.tb, .funcs, .trgOuts]) ∧
  (Frames (.triggerOffer) [.captures, .injects, .items, .trigs, .pcvs, .plots, .ring, .trgOuts, .pulses, .ilines, .trgSeq, .capSeq]) ∧
  (Frames (.trgPulseEnd) [.injects, .trigs, .pulses, .ilines]) ∧
  (∀ (t : Nat), Frames (.trgRearm t) [.trgOuts]) ∧
  (∀ (n : Nat) (low : Bool), Frames (.ilineEdge n low) [.trigs, .ilines]) ∧
  (∀ (n : Nat), Frames (.ilineStuck n) [.ilines]) ∧
  (∀ (port : Nat) (data : List Byte), Frames (.netTriggerRx port data) [.captures, .injects, .items, .trigs, .pcvs, .plots, .ring, .trgOuts, .pulses, .ilines, .netSenders, .trgSeq, .capSeq]) ∧
  (∀ (t : Nat) (w : Wr), Frames (.trgOutFire t w) [.tb, .funcs, .captures, .injects, .items, .trigs, .pcvs, .plots, .ring, .trgOuts, .pulses, .ilines, .trgSeq, .capSeq]) ∧
  (∀ (w : Wr), Frames (.trgNetClr w) [.tb, .funcs, .netSenders]) ∧
  (∀ (seq : Nat), Frames (.captureClose seq) [.captures, .items, .trgOuts]) ∧
  (∀ (q : Nat), Frames (.currentLimit q) []) ∧
  (Frames (.fixedModeEdge) [.injects, .trigs, .pulses, .ilines])

/-- The frame of each command, PLOT_RETRY for a queue that is no ring's (a ring's retry lets packets that wait be taken): it answers a next state
from every state, and only the components listed, with those that raising an event changes (`eventComps`), may differ. -/
def Obligations.StorageFrames : Prop :=
  (∀ (w : Wr), Frames (.ringCtlWrite w) [.tb, .funcs, .spareBook, .plots, .plotBook, .raws, .ring]) ∧
  (∀ (n : Nat) (w : Wr), Frames (.cmpRawWrite n w) [.tb, .funcs, .ques, .raws]) ∧
  (∀ (rec : Bool) (n : Nat) (offered : List Byte), Frames (.tileClose rec n offered) [.captures, .spareBook, .units, .plots, .ques, .plotBook, .raws, .ring, .drawn]) ∧
  (∀ (q : Nat), Frames (.encResume q) [.units, .plots, .ques, .plotBook, .copies, .drawn]) ∧
  (∀ x : EccError, Frames (.cmpEngFault x) [.ques, .raws]) ∧
  (∀ (q : Nat), Frames (.recordTileFlush q) [.ques]) ∧
  (∀ (b : Nat) (w : Wr), Frames (.cmpJobPiWrite b w) [.tb, .funcs, .dxNext]) ∧
  (∀ (b : Nat) (w : Wr), Frames (.cmpJobDisable b w) [.tb, .funcs, .jobs, .dxNext]) ∧
  (∀ (b fail : Nat) (desc src : List Byte), Frames (.jobDecode b fail desc src) [.jobs, .dxNext, .drawn]) ∧
  (∀ (b : Nat) (w : Wr), Frames (.cmpJobMore b w) [.tb, .funcs, .jobs, .dxNext]) ∧
  (∀ (b : Nat) (w : Wr), Frames (.cmpJobAbort b w) [.tb, .funcs, .jobs, .dxNext]) ∧
  (∀ (w : Wr), Frames (.queEnable w) [.tb, .funcs, .quesOn, .slots, .spareBook, .units, .plots, .ques, .plotBook, .raws, .ring, .rxs]) ∧
  (∀ (w : Wr), Frames (.queDisable w) [.tb, .funcs, .quesOn, .slots, .spareBook, .units, .plots, .ques, .plotBook, .raws, .ring, .rxs]) ∧
  (∀ (w : Wr), Frames (.queFlush w) [.tb, .funcs, .quesOn, .slots, .spareBook, .units, .plots, .ques, .plotBook, .raws, .ring, .rxs]) ∧
  (∀ (q : Nat), Frames (.plotRequest q) [.plots, .ques, .plotBook, .drawn]) ∧
  (∀ (q : Nat), q < 16128 → Frames (.plotRetry q) [.plots, .ques, .plotBook, .drawn]) ∧
  (∀ (q : Nat), Frames (.unitWrite q) [.units, .plots, .ques, .plotBook, .copies, .drawn]) ∧
  (Frames (.plotCopyDone) [.spareBook, .plots, .ques, .plotBook, .copies]) ∧
  (∀ (k pick cut : Nat), Frames (.egressFrame k pick cut) [.txts, .quesOn, .popWait, .spareBook, .spxTx, .plots, .ques, .plotBook, .copies, .ring, .hrings, .scheds, .delivers, .drawn]) ∧
  (∀ (q : Nat), Frames (.egressStall q) [.ques]) ∧
  (∀ (id off : Nat) (uncorr : Bool), Frames (.plotEccError id off uncorr) [.spareBook, .units, .plots, .ques, .ring, .drawn]) ∧
  (∀ (n : Nat) (part : Bool) (w : Wr), Frames (.pqFlush n part w) [.tb, .txts, .funcs, .tagQ, .monQ]) ∧
  (∀ (n : Nat), Frames (.popStallTimeout n) [.popWait]) ∧
  (∀ (fn j : Nat), Frames (.sysPqMonPop fn j) [.tb, .funcs, .monQ, .monLost, .popWait]) ∧
  (∀ (j : Nat), Frames (.monSnapshot j) [.monQ, .monSeq, .monLost, .popWait, .drawn, .monAt]) ∧
  (∀ (k l : Nat) (lines : List ArbReq) (bad : Bool), Frames (.arbDecision k l lines bad) [.arbs])

/-- The frame of each command: it answers a next state from every state, and only the components listed, with those that raising an event
changes (`eventComps`), may differ. -/
def Obligations.LinkFrames : Prop :=
  (∀ (sh : Nat) (w : Wr), Frames (.sheetStart sh w) [.tb, .funcs, .tags, .envs, .crings, .cmds, .spareBook, .spxTx, .plots, .ques, .plotBook, .copies, .sheets, .ports, .links, .gazSends, .drawn]) ∧
  (∀ (sh : Nat) (w : Wr), Frames (.sheetStop sh w) [.tb, .funcs, .tags, .envs, .crings, .cmds, .spareBook, .spxTx, .plots, .ques, .plotBook, .copies, .sheets, .ports, .links, .gazSends, .drawn]) ∧
  (∀ (sh l : Nat), Frames (.laneDetectDone sh l) [.sheets]) ∧
  (∀ (sh l : Nat), Frames (.laneLockDone sh l) [.sheets]) ∧
  (∀ (sh l : Nat) (margins : List Nat), Frames (.laneEqDone sh l margins) [.sheets]) ∧
  (∀ (sh l ident : Nat) (inv : Bool), Frames (.laneAlignDone sh l ident inv) [.spxTx, .sheets, .links]) ∧
  (∀ (sh skew : Nat), Frames (.sheetUp sh skew) [.tb, .tags, .envs, .crings, .cmds, .spareBook, .spxTx, .plots, .ques, .plotBook, .copies, .sheets, .ports, .links, .gazSends, .drawn]) ∧
  (∀ (sh l : Nat), Frames (.bringupStageTimeout sh l) [.tb, .tags, .envs, .crings, .cmds, .spareBook, .spxTx, .plots, .ques, .plotBook, .copies, .sheets, .ports, .links, .gazSends, .drawn]) ∧
  (∀ (sh : Nat), Frames (.bringupRetry sh) [.sheets]) ∧
  (∀ (sh l : Nat), Frames (.laneLos sh l) [.tb, .tags, .envs, .crings, .cmds, .spareBook, .spxTx, .plots, .ques, .plotBook, .copies, .sheets, .ports, .links, .gazSends, .drawn]) ∧
  (∀ (sh l : Nat), Frames (.laneLosClear sh l) [.sheets]) ∧
  (∀ (sh l : Nat), Frames (.laneLol sh l) [.tb, .tags, .envs, .crings, .cmds, .spareBook, .spxTx, .plots, .ques, .plotBook, .copies, .sheets, .ports, .links, .gazSends, .drawn]) ∧
  (∀ (sh l v h : Nat), Frames (.eyeMeasure sh l v h) [.tb, .tags, .envs, .crings, .cmds, .spareBook, .spxTx, .plots, .ques, .plotBook, .copies, .sheets, .ports, .links, .gazSends, .drawn]) ∧
  (∀ (sh l : Nat) (inv : Bool), Frames (.prbsLock sh l inv) []) ∧
  (∀ (sh l n e : Nat), Frames (.prbsLost sh l n e) []) ∧
  (∀ (sh l : Nat) (w : Wr), Frames (.prbsInject sh l w) [.tb, .funcs, .spareBook]) ∧
  (∀ (sh l : Nat) (w : Wr), Frames (.prbsClr sh l w) [.tb, .funcs, .spareBook]) ∧
  (∀ (sh : Nat) (w : Wr), Frames (.sheetSub sh w) [.tb, .funcs, .tags, .envs, .crings, .cmds, .spareBook, .spxTx, .plots, .ques, .plotBook, .copies, .sheets, .ports, .links, .gazSends, .drawn]) ∧
  (∀ (sh : Nat) (w : Wr), Frames (.narrowWrite sh w) [.tb, .funcs, .tags, .envs, .crings, .cmds, .spareBook, .spxTx, .plots, .ques, .plotBook, .copies, .sheets, .ports, .links, .gazSends, .drawn]) ∧
  (∀ (sh l : Nat) (w : Wr), Frames (.laneSleepWrite sh l w) [.tb, .funcs]) ∧
  (∀ (sh l : Nat) (data : List Byte), Frames (.trainingSetRx sh l data) [.spxTx, .links]) ∧
  (∀ (sh : Nat), Frames (.trainAttemptTimeout sh) [.tb, .tags, .envs, .crings, .cmds, .spareBook, .spxTx, .plots, .ques, .plotBook, .copies, .sheets, .ports, .links, .gazSends, .drawn]) ∧
  (∀ (sh : Nat), Frames (.trainBackoffEnd sh) [.sheets, .links]) ∧
  (∀ (sh l i : Nat) (syms : List Nat), Frames (.blockRx sh l i syms) [.tb, .tags, .envs, .crings, .cmds, .spareBook, .spxTx, .plots, .ques, .plotBook, .copies, .links, .gazSends, .drawn]) ∧
  (∀ (sh : Nat), Frames (.flitRx sh) [.tb, .tags, .envs, .crings, .quesOn, .cmds, .spareBook, .spxTx, .plots, .ques, .plotBook, .copies, .ring, .links, .gazSends, .drawn]) ∧
  (∀ (sh : Nat), Frames (.replayTimeout sh) [.tb, .tags, .envs, .crings, .cmds, .spareBook, .spxTx, .plots, .ques, .plotBook, .copies, .links, .gazSends, .drawn]) ∧
  (∀ (sh : Nat), Frames (.claimRx sh) [.spxTx, .sheets, .links]) ∧
  (∀ (sh : Nat), Frames (.grantRx sh) [.spxTx, .sheets, .links]) ∧
  (∀ (sh : Nat), Frames (.refuseRx sh) [.tags, .envs, .crings, .cmds, .spareBook, .spxTx, .plots, .ques, .plotBook, .copies, .links, .gazSends, .drawn]) ∧
  (∀ (sh : Nat), Frames (.doneRx sh) [.spxTx, .links]) ∧
  (∀ (sh : Nat), Frames (.spareReadyRx sh) [.spxTx, .links]) ∧
  (∀ (sh : Nat), Frames (.switchRx sh) [.links]) ∧
  (∀ (sh : Nat), Frames (.restoreRx sh) [.links]) ∧
  (∀ (sh : Nat), Frames (.xchgTimeout sh) [.tags, .envs, .crings, .cmds, .spareBook, .spxTx, .plots, .ques, .plotBook, .copies, .links, .gazSends, .drawn]) ∧
  (∀ (sh : Nat), Frames (.dozeIdle sh) [.spxTx, .links]) ∧
  (∀ (sh : Nat) (full : List Nat), Frames (.sampleRx sh full) [.force, .slots, .trimImg, .nodes, .items, .trigs, .ques, .raws, .trgSeq, .links, .drawn]) ∧
  (∀ (sh : Nat), Frames (.declareRx sh) [.slots, .nodes, .links]) ∧
  (∀ (sh : Nat), Frames (.partialRx sh) [.force, .trimImg, .beams, .partials, .items, .spxTx, .links, .drawn]) ∧
  (∀ (sh : Nat), Frames (.queueFlitRx sh) [.spareBook, .units, .plots, .ques, .plotBook, .ring, .links]) ∧
  (∀ (sh : Nat), Frames (.beaconTx sh) [.links]) ∧
  (∀ (sh : Nat), Frames (.beaconRx sh) [.tb, .links]) ∧
  (∀ (sh : Nat), Frames (.beaconLost sh) [.tb, .links]) ∧
  (∀ (sh i : Nat), Frames (.blockTx sh i) [.force, .tags, .envs, .crings, .quesOn, .cmds, .spareBook, .trimImg, .beams, .partials, .items, .spxTx, .plots, .ques, .plotBook, .copies, .ring, .sheets, .links, .gazSends, .drawn])

/-- The frame of each command: it answers a next state from every state, and only the components listed, with those that raising an event
changes (`eventComps`), may differ. -/
def Obligations.NetFrames : Prop :=
  (∀ (n : Nat), Frames (.mergeTimeout n) [.spareBook, .units, .plots, .ques, .plotBook, .ring, .rxs]) ∧
  (∀ (p : Nat) (data : List Byte), Frames (.heartbeatRx p data) [.ques, .ports]) ∧
  (Frames (.heartbeatTx) [.ports]) ∧
  (∀ (p : Nat), Frames (.heartbeatTimeout p) [.ques, .ports]) ∧
  (∀ (p : Nat), Frames (.portFaultHeld p) [.ques, .ports]) ∧
  (∀ (j : Nat) (w : Wr), Frames (.routeSideWrite j w) [.tb, .funcs, .ques, .ports]) ∧
  (∀ (q : Nat), Frames (.rewindExpiry q) [.quesOn, .spareBook, .plots, .ques, .plotBook, .copies, .ring, .drawn]) ∧
  (∀ (m : Nat) (w : Wr) (descs : List HtxDesc), Frames (.htxPiWrite m w descs) [.tb, .funcs, .hrings]) ∧
  (∀ (m : Nat) (w : Wr) (bufs : List Nat), Frames (.hrxPiWrite m w bufs) [.tb, .funcs, .hrings]) ∧
  (∀ (fn : Nat), Frames (.functionLevelReset fn) [.funcs, .ptm, .crings, .quesOn, .cmds, .spareBook, .plots, .ques, .plotBook, .jobs, .dxNext, .hrings, .delivers]) ∧
  (∀ (n : Nat), Frames (.vfDisable n) [.funcs, .ptm, .crings, .quesOn, .cmds, .spareBook, .plots, .ques, .plotBook, .jobs, .dxNext, .hrings, .delivers]) ∧
  (Frames (.pcieLinkDown) [.funcs, .linkUp, .ptm, .crings, .quesOn, .cmds, .spareBook, .plots, .ques, .plotBook, .jobs, .dxNext, .hrings, .delivers]) ∧
  (Frames (.pcieLinkUp) [.linkUp]) ∧
  (∀ (w : Wr), Frames (.ptmStart w) [.tb, .funcs, .ptm]) ∧
  (Frames (.ptmDialog) [.ptm, .ptmAt]) ∧
  (∀ (master delay : Nat), Frames (.ptmResponseRx master delay) [.ptm]) ∧
  (Frames (.ptmTimeout) [.ptm]) ∧
  (∀ (fn v : Nat), Frames (.msixModerationEnd fn v) []) ∧
  (∀ (fn : Nat) (op : MsixOp), Frames (.msixUnmask fn op) [.funcs]) ∧
  (∀ (w : Wr), Frames (.cmdKeyLoad w) [.tb, .funcs, .envs, .keys, .keyStage]) ∧
  (∀ (w : Wr), Frames (.cmdKeyClear w) [.tb, .funcs, .envs, .keys, .keyStage]) ∧
  (∀ (b r : Nat) (w : Wr), Frames (.cringEnable b r w) [.tb, .funcs, .crings, .quesOn, .cmds, .spareBook, .plots, .ques, .plotBook]) ∧
  (∀ (b : Nat) (w : Wr), Frames (.brgCtlReset b w) [.tb, .funcs, .staged, .tags, .envs, .crings, .quesOn, .cmds, .slots, .spareBook, .beams, .items, .units, .spxTx, .plots, .ques, .plotBook, .copies, .raws, .ring, .jobs, .dxNext, .delivers, .gazSends, .drawn]) ∧
  (∀ (b : Nat), Frames (.boroughResetDone b) []) ∧
  (∀ (i : Nat) (w : Wr), Frames (.deliveryDoorbell i w) [.tb, .funcs, .delivers]) ∧
  (∀ (w : Wr), Frames (.dbEvtSrc w) [.tb, .funcs]) ∧
  (∀ (w : Wr), Frames (.dbEvtAll w) [.tb, .funcs]) ∧
  (∀ (d : Nat), Frames (.gazCopyTx d) [.tags, .envs, .crings, .cmds, .spareBook, .spxTx, .plots, .ques, .plotBook, .copies, .gaz, .gazSends, .gazBook, .drawn]) ∧
  (∀ (d e : Nat), Frames (.gazRetry d e) [.spxTx, .gazSends]) ∧
  (∀ (e : Nat) (env : List Byte), Frames (.gazOutcomeRx e env) [.tags, .envs, .crings, .cmds, .lateAt, .spareBook, .spxTx, .plots, .ques, .plotBook, .copies, .gaz, .gazSends, .drawn]) ∧
  (∀ (d : Nat), Frames (.gazCollectEnd d) [.tags, .envs, .crings, .cmds, .spareBook, .spxTx, .plots, .ques, .plotBook, .copies, .gaz, .gazSends, .drawn]) ∧
  (∀ (payload : List Byte), Frames (.faultReportRx payload) [.items, .gaz, .digests, .gazBook]) ∧
  (∀ (subject cls : Nat), Frames (.digestClose subject cls) [.items, .gaz, .digests, .gazBook]) ∧
  (Frames (.evtWindowEnd) []) ∧
  (∀ (k : Nat) (w : Wr), Frames (.evtPendWrite k w) [.tb, .funcs]) ∧
  (∀ (fails : Nat), Frames (.logWrite fails) [.spareBook, .mramBad, .mramMap]) ∧
  (Frames (.logScan) []) ∧
  (∀ (d : Nat) (w : Wr), Frames (.pwrDown d w) [.tb, .funcs, .tdc, .spareBook, .drawn]) ∧
  (∀ (d : Nat) (w : Wr), Frames (.pwrUp d w) [.tb, .funcs, .tdc, .spareBook, .drawn]) ∧
  (∀ (d : Nat), Frames (.drainComplete d) [.force, .tb, .funcs, .linkUp, .ptm, .tags, .envs, .crings, .quesOn, .cmds, .slots, .spareBook, .grps, .spxTx, .excs, .plots, .ques, .plotBook, .copies, .jobs, .dxNext, .pulses, .sheets, .ports, .hrings, .links, .delivers, .gazSends, .drawn]) ∧
  (∀ (d : Nat), Frames (.drainTimeout d) [.tags, .envs, .crings, .cmds, .spareBook, .spxTx, .plots, .ques, .plotBook, .copies, .gazSends, .drawn]) ∧
  (∀ (d : Nat), Frames (.wakeComplete d) [.tags, .envs, .crings, .cmds, .spareBook, .spxTx, .fe, .excs, .plots, .ques, .plotBook, .copies, .dxNext, .arbs, .gazSends, .drawn]) ∧
  (∀ (d : Nat), Frames (.wakeTimeout d) [.tags, .envs, .crings, .cmds, .spareBook, .spxTx, .plots, .ques, .plotBook, .copies, .gazSends, .drawn]) ∧
  (∀ (p : Nat) (corrected : Bool), Frames (.engFail p corrected) [.staged, .spareBook, .failingSlots, .retiredSlots, .engSwaps, .engErrs]) ∧
  (∀ (n : Nat), Frames (.slotFail n) [.staged, .spareBook, .failingSlots, .retiredSlots]) ∧
  (∀ (k : Nat) (dog : Bool) (run : Option Nat), Frames (.coreFail k dog run) [.tags, .envs, .crings, .cmds, .spareBook, .spxTx, .plots, .ques, .plotBook, .copies, .gazSends, .coreDog, .drawn]) ∧
  (∀ (p kind : Nat), Frames (.pcsFault p kind) [.ports]) ∧
  (∀ (p : Nat), Frames (.pcsFaultClear p) [.ques, .ports]) ∧
  (∀ (fn : Nat) (bme ptm : Bool), Frames (.busMasterEnableWrite fn bme ptm) [.funcs, .crings, .quesOn, .cmds, .spareBook, .plots, .ques, .plotBook, .dxNext])
end

