-- ==== Sys2Proof/Laws/Answers.lean ====
section
/-! SUPPORT. Every command answers a next state. -/
set_option maxRecDepth 10000
namespace Sys2Proof.Machine

/-- Both branches answer. -/
theorem ite_answers {x y : Host.Outcome State Fault Refusal} {c : Prop} [Decidable c] (a : ∃ r, x = .next r) (b : ∃ r, y = .next r) :
    ∃ r, (if c then x else y) = .next r := by
  split <;> assumption

theorem execRegisterWrite_answers (bar : Nat) (off : Nat) (w : Wr) (s : State) : ∃ next, execRegisterWrite bar off w s = .next next := by
  unfold execRegisterWrite; (try dsimp only); with_reducible repeat' (first | exact ⟨_, rfl⟩ | apply ite_answers | split)
theorem execTableApertureWrite_answers (fn : Nat) (data : List (Nat × Byte)) (s : State) : ∃ next, execTableApertureWrite fn data s = .next next := by
  unfold execTableApertureWrite; (try dsimp only); with_reducible repeat' (first | exact ⟨_, rfl⟩ | apply ite_answers | split)
theorem execReservedAccess_answers (fn : Nat) (bar : Nat) (off : Nat) (write : Bool) (s : State) : ∃ next, execReservedAccess fn bar off write s = .next next := by
  unfold execReservedAccess; (try dsimp only); with_reducible repeat' (first | exact ⟨_, rfl⟩ | apply ite_answers | split)
theorem execOversizeRequest_answers (fn : Nat) (bar : Nat) (off : Nat) (len : Nat) (write : Bool) (s : State) : ∃ next, execOversizeRequest fn bar off len write s = .next next := by
  unfold execOversizeRequest; (try dsimp only); with_reducible repeat' (first | exact ⟨_, rfl⟩ | apply ite_answers | split)
theorem execAtomicOpRequest_answers (fn : Nat) (addr : Nat) (s : State) : ∃ next, execAtomicOpRequest fn addr s = .next next := by
  unfold execAtomicOpRequest; (try dsimp only); with_reducible repeat' (first | exact ⟨_, rfl⟩ | apply ite_answers | split)
theorem execPairLoRead_answers (fn : Nat) (off : Nat) (s : State) : ∃ next, execPairLoRead fn off s = .next next := by
  unfold execPairLoRead; (try dsimp only); with_reducible repeat' (first | exact ⟨_, rfl⟩ | apply ite_answers | split)
theorem execPairLoWrite_answers (off : Nat) (w : Wr) (s : State) : ∃ next, execPairLoWrite off w s = .next next := by
  unfold execPairLoWrite; (try dsimp only); with_reducible repeat' (first | exact ⟨_, rfl⟩ | apply ite_answers | split)
theorem execPairHiWrite_answers (off : Nat) (w : Wr) (s : State) : ∃ next, execPairHiWrite off w s = .next next := by
  unfold execPairHiWrite; (try dsimp only); with_reducible repeat' (first | exact ⟨_, rfl⟩ | apply ite_answers | split)
theorem execPhasePllFirstLock_answers (s : State) : ∃ next, execPhasePllFirstLock s = .next next := by
  unfold execPhasePllFirstLock; (try dsimp only); with_reducible repeat' (first | exact ⟨_, rfl⟩ | apply ite_answers | split)
theorem execPhaseUnlock_answers (s : State) : ∃ next, execPhaseUnlock s = .next next := by
  unfold execPhaseUnlock; (try dsimp only); with_reducible repeat' (first | exact ⟨_, rfl⟩ | apply ite_answers | split)
theorem execPhaseRelock_answers (s : State) : ∃ next, execPhaseRelock s = .next next := by
  unfold execPhaseRelock; (try dsimp only); with_reducible repeat' (first | exact ⟨_, rfl⟩ | apply ite_answers | split)
theorem execAgeingFold_answers (s : State) : ∃ next, execAgeingFold s = .next next := by
  unfold execAgeingFold; (try dsimp only); with_reducible repeat' (first | exact ⟨_, rfl⟩ | apply ite_answers | split)
theorem execTbNowFracRead_answers (fn : Nat) (s : State) : ∃ next, execTbNowFracRead fn s = .next next := by
  unfold execTbNowFracRead; (try dsimp only); with_reducible repeat' (first | exact ⟨_, rfl⟩ | apply ite_answers | split)
theorem execAdjRateChange_answers (w : Wr) (s : State) : ∃ next, execAdjRateChange w s = .next next := by
  unfold execAdjRateChange; (try dsimp only); with_reducible repeat' (first | exact ⟨_, rfl⟩ | apply ite_answers | split)
theorem execAdjSlewStart_answers (w : Wr) (s : State) : ∃ next, execAdjSlewStart w s = .next next := by
  unfold execAdjSlewStart; (try dsimp only); with_reducible repeat' (first | exact ⟨_, rfl⟩ | apply ite_answers | split)
theorem execAdjStep_answers (w : Wr) (s : State) : ∃ next, execAdjStep w s = .next next := by
  unfold execAdjStep; (try dsimp only); with_reducible repeat' (first | exact ⟨_, rfl⟩ | apply ite_answers | split)
theorem execAdjAbort_answers (w : Wr) (s : State) : ∃ next, execAdjAbort w s = .next next := by
  unfold execAdjAbort; (try dsimp only); with_reducible repeat' (first | exact ⟨_, rfl⟩ | apply ite_answers | split)
theorem execAdjTrace_answers (w : Wr) (s : State) : ∃ next, execAdjTrace w s = .next next := by
  unfold execAdjTrace; (try dsimp only); with_reducible repeat' (first | exact ⟨_, rfl⟩ | apply ite_answers | split)
theorem execSlewDone_answers (s : State) : ∃ next, execSlewDone s = .next next := by
  unfold execSlewDone; (try dsimp only); with_reducible repeat' (first | exact ⟨_, rfl⟩ | apply ite_answers | split)
theorem execSrcChangeDeclare_answers (w : Wr) (s : State) : ∃ next, execSrcChangeDeclare w s = .next next := by
  unfold execSrcChangeDeclare; (try dsimp only); with_reducible repeat' (first | exact ⟨_, rfl⟩ | apply ite_answers | split)
theorem execChangeOfSource_answers (w : Wr) (s : State) : ∃ next, execChangeOfSource w s = .next next := by
  unfold execChangeOfSource; (try dsimp only); with_reducible repeat' (first | exact ⟨_, rfl⟩ | apply ite_answers | split)
theorem execPpsInEdge_answers (sub : Nat) (s : State) : ∃ next, execPpsInEdge sub s = .next next := by
  unfold execPpsInEdge; (try dsimp only); with_reducible repeat' (first | exact ⟨_, rfl⟩ | apply ite_answers | split)
theorem execSourceQualified_answers (s : State) : ∃ next, execSourceQualified s = .next next := by
  unfold execSourceQualified; (try dsimp only); with_reducible repeat' (first | exact ⟨_, rfl⟩ | apply ite_answers | split)
theorem execPpsLost_answers (s : State) : ∃ next, execPpsLost s = .next next := by
  unfold execPpsLost; (try dsimp only); with_reducible repeat' (first | exact ⟨_, rfl⟩ | apply ite_answers | split)
theorem execRef10mLost_answers (s : State) : ∃ next, execRef10mLost s = .next next := by
  unfold execRef10mLost; (try dsimp only); with_reducible repeat' (first | exact ⟨_, rfl⟩ | apply ite_answers | split)
theorem execRef10mReturn_answers (s : State) : ∃ next, execRef10mReturn s = .next next := by
  unfold execRef10mReturn; (try dsimp only); with_reducible repeat' (first | exact ⟨_, rfl⟩ | apply ite_answers | split)
theorem execServoCorrection_answers (op : ServoOp) (s : State) : ∃ next, execServoCorrection op s = .next next := by
  unfold execServoCorrection; (try dsimp only); with_reducible repeat' (first | exact ⟨_, rfl⟩ | apply ite_answers | split)
theorem execHostTraceTimeout_answers (s : State) : ∃ next, execHostTraceTimeout s = .next next := by
  unfold execHostTraceTimeout; (try dsimp only); with_reducible repeat' (first | exact ⟨_, rfl⟩ | apply ite_answers | split)
theorem execHoldoverLimit_answers (s : State) : ∃ next, execHoldoverLimit s = .next next := by
  unfold execHoldoverLimit; (try dsimp only); with_reducible repeat' (first | exact ⟨_, rfl⟩ | apply ite_answers | split)
theorem execTbTxtsPop_answers (fn : Nat) (m : Nat) (s : State) : ∃ next, execTbTxtsPop fn m s = .next next := by
  unfold execTbTxtsPop; (try dsimp only); with_reducible repeat' (first | exact ⟨_, rfl⟩ | apply ite_answers | split)
theorem execEdgeCapture_answers (n : Nat) (i : Nat) (rising : Bool) (s : State) : ∃ next, execEdgeCapture n i rising s = .next next := by
  unfold execEdgeCapture; (try dsimp only); with_reducible repeat' (first | exact ⟨_, rfl⟩ | apply ite_answers | split)
theorem execTimTagPop_answers (fn : Nat) (n : Nat) (s : State) : ∃ next, execTimTagPop fn n s = .next next := by
  unfold execTimTagPop; (try dsimp only); with_reducible repeat' (first | exact ⟨_, rfl⟩ | apply ite_answers | split)
theorem execTimCalStart_answers (w : Wr) (s : State) : ∃ next, execTimCalStart w s = .next next := by
  unfold execTimCalStart; (try dsimp only); with_reducible repeat' (first | exact ⟨_, rfl⟩ | apply ite_answers | split)
theorem execTimCoreStart_answers (p : Nat) (w : Wr) (s : State) : ∃ next, execTimCoreStart p w s = .next next := by
  unfold execTimCoreStart; (try dsimp only); with_reducible repeat' (first | exact ⟨_, rfl⟩ | apply ite_answers | split)
theorem execTimCalPeriodic_answers (s : State) : ∃ next, execTimCalPeriodic s = .next next := by
  unfold execTimCalPeriodic; (try dsimp only); with_reducible repeat' (first | exact ⟨_, rfl⟩ | apply ite_answers | split)
theorem execTimCalRunEnd_answers (p : Nat) (counts : List Nat) (temp : Int) (s : State) : ∃ next, execTimCalRunEnd p counts temp s = .next next := by
  unfold execTimCalRunEnd; (try dsimp only); with_reducible repeat' (first | exact ⟨_, rfl⟩ | apply ite_answers | split)
theorem execTimCalStale_answers (p : Nat) (temp : Int) (s : State) : ∃ next, execTimCalStale p temp s = .next next := by
  unfold execTimCalStale; (try dsimp only); with_reducible repeat' (first | exact ⟨_, rfl⟩ | apply ite_answers | split)
theorem execTdcSpareSwitch_answers (n : Nat) (s : State) : ∃ next, execTdcSpareSwitch n s = .next next := by
  unfold execTdcSpareSwitch; (try dsimp only); with_reducible repeat' (first | exact ⟨_, rfl⟩ | apply ite_answers | split)
theorem execFreqGateEnd_answers (x : GateEnd) (s : State) : ∃ next, execFreqGateEnd x s = .next next := by
  unfold execFreqGateEnd; (try dsimp only); with_reducible repeat' (first | exact ⟨_, rfl⟩ | apply ite_answers | split)
theorem execCgLost_answers (g : Nat) (s : State) : ∃ next, execCgLost g s = .next next := by
  unfold execCgLost; (try dsimp only); with_reducible repeat' (first | exact ⟨_, rfl⟩ | apply ite_answers | split)
theorem execRefEnWrite_answers (g : Nat) (w : Wr) (s : State) : ∃ next, execRefEnWrite g w s = .next next := by
  unfold execRefEnWrite; (try dsimp only); with_reducible repeat' (first | exact ⟨_, rfl⟩ | apply ite_answers | split)
theorem execCnvRefOk_answers (g : Nat) (s : State) : ∃ next, execCnvRefOk g s = .next next := by
  unfold execCnvRefOk; (try dsimp only); with_reducible repeat' (first | exact ⟨_, rfl⟩ | apply ite_answers | split)
theorem execCnvApply_answers (g : Nat) (w : Wr) (s : State) : ∃ next, execCnvApply g w s = .next next := by
  unfold execCnvApply; (try dsimp only); with_reducible repeat' (first | exact ⟨_, rfl⟩ | apply ite_answers | split)
theorem execCnvPllLocked_answers (g : Nat) (s : State) : ∃ next, execCnvPllLocked g s = .next next := by
  unfold execCnvPllLocked; (try dsimp only); with_reducible repeat' (first | exact ⟨_, rfl⟩ | apply ite_answers | split)
theorem execPllUnlock_answers (g : Nat) (s : State) : ∃ next, execPllUnlock g s = .next next := by
  unfold execPllUnlock; (try dsimp only); with_reducible repeat' (first | exact ⟨_, rfl⟩ | apply ite_answers | split)
theorem execPllRelock_answers (g : Nat) (s : State) : ∃ next, execPllRelock g s = .next next := by
  unfold execPllRelock; (try dsimp only); with_reducible repeat' (first | exact ⟨_, rfl⟩ | apply ite_answers | split)
theorem execCnvLocked_answers (g : Nat) (s : State) : ∃ next, execCnvLocked g s = .next next := by
  unfold execCnvLocked; (try dsimp only); with_reducible repeat' (first | exact ⟨_, rfl⟩ | apply ite_answers | split)
theorem execLockLost_answers (g : Nat) (s : State) : ∃ next, execLockLost g s = .next next := by
  unfold execLockLost; (try dsimp only); with_reducible repeat' (first | exact ⟨_, rfl⟩ | apply ite_answers | split)
theorem execSurveyStepEnd_answers (g : Nat) (res : List StepRes) (s : State) : ∃ next, execSurveyStepEnd g res s = .next next := by
  unfold execSurveyStepEnd; (try dsimp only); with_reducible repeat' (first | exact ⟨_, rfl⟩ | apply ite_answers | split)
theorem execSliceMonitorWindow_answers (i : Nat) (sl : Nat) (mean : Int) (power : Int) (loud : Bool) (stuck : Bool) (s : State) : ∃ next, execSliceMonitorWindow i sl mean power loud stuck s = .next next := by
  unfold execSliceMonitorWindow; (try dsimp only); with_reducible repeat' (first | exact ⟨_, rfl⟩ | apply ite_answers | split)
theorem execSurveyEnWrite_answers (g : Nat) (w : Wr) (s : State) : ∃ next, execSurveyEnWrite g w s = .next next := by
  unfold execSurveyEnWrite; (try dsimp only); with_reducible repeat' (first | exact ⟨_, rfl⟩ | apply ite_answers | split)
theorem execCnvInEnWrite_answers (i : Nat) (w : Wr) (s : State) : ∃ next, execCnvInEnWrite i w s = .next next := by
  unfold execCnvInEnWrite; (try dsimp only); with_reducible repeat' (first | exact ⟨_, rfl⟩ | apply ite_answers | split)
theorem execDieLinkDown_answers (d : Nat) (s : State) : ∃ next, execDieLinkDown d s = .next next := by
  unfold execDieLinkDown; (try dsimp only); with_reducible repeat' (first | exact ⟨_, rfl⟩ | apply ite_answers | split)
theorem execDieLinkUp_answers (d : Nat) (s : State) : ∃ next, execDieLinkUp d s = .next next := by
  unfold execDieLinkUp; (try dsimp only); with_reducible repeat' (first | exact ⟨_, rfl⟩ | apply ite_answers | split)
theorem execChpBind_answers (win : Nat) (w : Wr) (s : State) : ∃ next, execChpBind win w s = .next next := by
  unfold execChpBind; (try dsimp only); with_reducible repeat' (first | exact ⟨_, rfl⟩ | apply ite_answers | split)
theorem execChpUnbind_answers (win : Nat) (w : Wr) (s : State) : ∃ next, execChpUnbind win w s = .next next := by
  unfold execChpUnbind; (try dsimp only); with_reducible repeat' (first | exact ⟨_, rfl⟩ | apply ite_answers | split)
theorem execChpCommit_answers (win : Nat) (w : Wr) (s : State) : ∃ next, execChpCommit win w s = .next next := by
  unfold execChpCommit; (try dsimp only); with_reducible repeat' (first | exact ⟨_, rfl⟩ | apply ite_answers | split)
theorem execDistrictWindowWrite_answers (d : Nat) (off : Nat) (w : Wr) (s : State) : ∃ next, execDistrictWindowWrite d off w s = .next next := by
  unfold execDistrictWindowWrite; (try dsimp only); with_reducible repeat' (first | exact ⟨_, rfl⟩ | apply ite_answers | split)
theorem execFrameBoundary_answers (g : Nat) (f : Nat) (s : State) : ∃ next, execFrameBoundary g f s = .next next := by
  unfold execFrameBoundary; (try dsimp only); with_reducible repeat' (first | exact ⟨_, rfl⟩ | apply ite_answers | split)
theorem execBlankEdge_answers (line : Nat) (asserted : Bool) (s : State) : ∃ next, execBlankEdge line asserted s = .next next := by
  unfold execBlankEdge; (try dsimp only); with_reducible repeat' (first | exact ⟨_, rfl⟩ | apply ite_answers | split)
theorem execSourceSample_answers (n : SampleSrc) (i : Nat) (x : SrcSample) (s : State) : ∃ next, execSourceSample n i x s = .next next := by
  unfold execSourceSample; (try dsimp only); with_reducible repeat' (first | exact ⟨_, rfl⟩ | apply ite_answers | split)
theorem execCgTag_answers (g : Nat) (i : Nat) (s : State) : ∃ next, execCgTag g i s = .next next := by
  unfold execCgTag; (try dsimp only); with_reducible repeat' (first | exact ⟨_, rfl⟩ | apply ite_answers | split)
theorem execCgTagMissing_answers (g : Nat) (s : State) : ∃ next, execCgTagMissing g s = .next next := by
  unfold execCgTagMissing; (try dsimp only); with_reducible repeat' (first | exact ⟨_, rfl⟩ | apply ite_answers | split)
theorem execCoastTimeout_answers (g : Nat) (s : State) : ∃ next, execCoastTimeout g s = .next next := by
  unfold execCoastTimeout; (try dsimp only); with_reducible repeat' (first | exact ⟨_, rfl⟩ | apply ite_answers | split)
theorem execGridSampleEmit_answers (n : Nat) (s : State) : ∃ next, execGridSampleEmit n s = .next next := by
  unfold execGridSampleEmit; (try dsimp only); with_reducible repeat' (first | exact ⟨_, rfl⟩ | apply ite_answers | split)
theorem execSourceResume_answers (n : Nat) (s : State) : ∃ next, execSourceResume n s = .next next := by
  unfold execSourceResume; (try dsimp only); with_reducible repeat' (first | exact ⟨_, rfl⟩ | apply ite_answers | split)
theorem execSpectrumReady_answers (n : Nat) (s : State) : ∃ next, execSpectrumReady n s = .next next := by
  unfold execSpectrumReady; (try dsimp only); with_reducible repeat' (first | exact ⟨_, rfl⟩ | apply ite_answers | split)
theorem execBeamSum_answers (b : Nat) (s : State) : ∃ next, execBeamSum b s = .next next := by
  unfold execBeamSum; (try dsimp only); with_reducible repeat' (first | exact ⟨_, rfl⟩ | apply ite_answers | split)
theorem execChainWaitExpiry_answers (b : Nat) (s : State) : ∃ next, execChainWaitExpiry b s = .next next := by
  unfold execChainWaitExpiry; (try dsimp only); with_reducible repeat' (first | exact ⟨_, rfl⟩ | apply ite_answers | split)
theorem execBfmCommit_answers (w : Wr) (s : State) : ∃ next, execBfmCommit w s = .next next := by
  unfold execBfmCommit; (try dsimp only); with_reducible repeat' (first | exact ⟨_, rfl⟩ | apply ite_answers | split)
theorem execBmacFail_answers (a : Nat) (s : State) : ∃ next, execBmacFail a s = .next next := by
  unfold execBmacFail; (try dsimp only); with_reducible repeat' (first | exact ⟨_, rfl⟩ | apply ite_answers | split)
theorem execIntegrationEnd_answers (n : Nat) (ofBeam : Bool) (s : State) : ∃ next, execIntegrationEnd n ofBeam s = .next next := by
  unfold execIntegrationEnd; (try dsimp only); with_reducible repeat' (first | exact ⟨_, rfl⟩ | apply ite_answers | split)
theorem execItemComplete_answers (s : State) : ∃ next, execItemComplete s = .next next := by
  unfold execItemComplete; (try dsimp only); with_reducible repeat' (first | exact ⟨_, rfl⟩ | apply ite_answers | split)
theorem execSfeBind_answers (w : Wr) (s : State) : ∃ next, execSfeBind w s = .next next := by
  unfold execSfeBind; (try dsimp only); with_reducible repeat' (first | exact ⟨_, rfl⟩ | apply ite_answers | split)
theorem execSfeUnbind_answers (w : Wr) (s : State) : ∃ next, execSfeUnbind w s = .next next := by
  unfold execSfeUnbind; (try dsimp only); with_reducible repeat' (first | exact ⟨_, rfl⟩ | apply ite_answers | split)
theorem execSfeCommit_answers (w : Wr) (s : State) : ∃ next, execSfeCommit w s = .next next := by
  unfold execSfeCommit; (try dsimp only); with_reducible repeat' (first | exact ⟨_, rfl⟩ | apply ite_answers | split)
theorem execExcRampEnd_answers (q : Nat) (s : State) : ∃ next, execExcRampEnd q s = .next next := by
  unfold execExcRampEnd; (try dsimp only); with_reducible repeat' (first | exact ⟨_, rfl⟩ | apply ite_answers | split)
theorem execExcRangeSettled_answers (q : Nat) (s : State) : ∃ next, execExcRangeSettled q s = .next next := by
  unfold execExcRangeSettled; (try dsimp only); with_reducible repeat' (first | exact ⟨_, rfl⟩ | apply ite_answers | split)
theorem execExcSenseMeasure_answers (q : Nat) (sense : Nat) (limit : Bool) (s : State) : ∃ next, execExcSenseMeasure q sense limit s = .next next := by
  unfold execExcSenseMeasure; (try dsimp only); with_reducible repeat' (first | exact ⟨_, rfl⟩ | apply ite_answers | split)
theorem execPcvCycleStart_answers (p : Nat) (s : State) : ∃ next, execPcvCycleStart p s = .next next := by
  unfold execPcvCycleStart; (try dsimp only); with_reducible repeat' (first | exact ⟨_, rfl⟩ | apply ite_answers | split)
theorem execPcvEntryEnd_answers (p : Nat) (convs : List Conv) (s : State) : ∃ next, execPcvEntryEnd p convs s = .next next := by
  unfold execPcvEntryEnd; (try dsimp only); with_reducible repeat' (first | exact ⟨_, rfl⟩ | apply ite_answers | split)
theorem execPcvUrgGo_answers (p : Nat) (w : Wr) (s : State) : ∃ next, execPcvUrgGo p w s = .next next := by
  unfold execPcvUrgGo; (try dsimp only); with_reducible repeat' (first | exact ⟨_, rfl⟩ | apply ite_answers | split)
theorem execUrgentArrive_answers (p : Nat) (s : State) : ∃ next, execUrgentArrive p s = .next next := by
  unfold execUrgentArrive; (try dsimp only); with_reducible repeat' (first | exact ⟨_, rfl⟩ | apply ite_answers | split)
theorem execPcvRefEnWrite_answers (w : Wr) (s : State) : ∃ next, execPcvRefEnWrite w s = .next next := by
  unfold execPcvRefEnWrite; (try dsimp only); with_reducible repeat' (first | exact ⟨_, rfl⟩ | apply ite_answers | split)
theorem execPcvRefOk_answers (s : State) : ∃ next, execPcvRefOk s = .next next := by
  unfold execPcvRefOk; (try dsimp only); with_reducible repeat' (first | exact ⟨_, rfl⟩ | apply ite_answers | split)
theorem execPauseEnd_answers (s : State) : ∃ next, execPauseEnd s = .next next := by
  unfold execPauseEnd; (try dsimp only); with_reducible repeat' (first | exact ⟨_, rfl⟩ | apply ite_answers | split)
theorem execPcvMidscaleCheck_answers (p : Nat) (err : Int) (s : State) : ∃ next, execPcvMidscaleCheck p err s = .next next := by
  unfold execPcvMidscaleCheck; (try dsimp only); with_reducible repeat' (first | exact ⟨_, rfl⟩ | apply ite_answers | split)
theorem execTrimPageLoad_answers (n : Nat) (badA : Bool) (badB : Bool) (s : State) : ∃ next, execTrimPageLoad n badA badB s = .next next := by
  unfold execTrimPageLoad; (try dsimp only); with_reducible repeat' (first | exact ⟨_, rfl⟩ | apply ite_answers | split)
theorem execCalMeasureDone_answers (conv : Nat) (zero : List Conv) (ref : List Conv) (temp : Int) (s : State) : ∃ next, execCalMeasureDone conv zero ref temp s = .next next := by
  unfold execCalMeasureDone; (try dsimp only); with_reducible repeat' (first | exact ⟨_, rfl⟩ | apply ite_answers | split)
theorem execNvmCopyWritten_answers (ok : Bool) (s : State) : ∃ next, execNvmCopyWritten ok s = .next next := by
  unfold execNvmCopyWritten; (try dsimp only); with_reducible repeat' (first | exact ⟨_, rfl⟩ | apply ite_answers | split)
theorem execTrgArm_answers (t : Nat) (w : Wr) (s : State) : ∃ next, execTrgArm t w s = .next next := by
  unfold execTrgArm; (try dsimp only); with_reducible repeat' (first | exact ⟨_, rfl⟩ | apply ite_answers | split)
theorem execTrgDisarm_answers (t : Nat) (w : Wr) (s : State) : ∃ next, execTrgDisarm t w s = .next next := by
  unfold execTrgDisarm; (try dsimp only); with_reducible repeat' (first | exact ⟨_, rfl⟩ | apply ite_answers | split)
theorem execTriggerOffer_answers (s : State) : ∃ next, execTriggerOffer s = .next next := by
  unfold execTriggerOffer; (try dsimp only); with_reducible repeat' (first | exact ⟨_, rfl⟩ | apply ite_answers | split)
theorem execTrgPulseEnd_answers (s : State) : ∃ next, execTrgPulseEnd s = .next next := by
  unfold execTrgPulseEnd; (try dsimp only); with_reducible repeat' (first | exact ⟨_, rfl⟩ | apply ite_answers | split)
theorem execTrgRearm_answers (t : Nat) (s : State) : ∃ next, execTrgRearm t s = .next next := by
  unfold execTrgRearm; (try dsimp only); with_reducible repeat' (first | exact ⟨_, rfl⟩ | apply ite_answers | split)
theorem execIlineEdge_answers (n : Nat) (low : Bool) (s : State) : ∃ next, execIlineEdge n low s = .next next := by
  unfold execIlineEdge; (try dsimp only); with_reducible repeat' (first | exact ⟨_, rfl⟩ | apply ite_answers | split)
theorem execIlineStuck_answers (n : Nat) (s : State) : ∃ next, execIlineStuck n s = .next next := by
  unfold execIlineStuck; (try dsimp only); with_reducible repeat' (first | exact ⟨_, rfl⟩ | apply ite_answers | split)
theorem execNetTriggerRx_answers (port : Nat) (data : List Byte) (s : State) : ∃ next, execNetTriggerRx port data s = .next next := by
  unfold execNetTriggerRx; (try dsimp only); with_reducible repeat' (first | exact ⟨_, rfl⟩ | apply ite_answers | split)
theorem execTrgOutFire_answers (t : Nat) (w : Wr) (s : State) : ∃ next, execTrgOutFire t w s = .next next := by
  unfold execTrgOutFire; (try dsimp only); with_reducible repeat' (first | exact ⟨_, rfl⟩ | apply ite_answers | split)
theorem execTrgNetClr_answers (w : Wr) (s : State) : ∃ next, execTrgNetClr w s = .next next := by
  unfold execTrgNetClr; (try dsimp only); with_reducible repeat' (first | exact ⟨_, rfl⟩ | apply ite_answers | split)
theorem execCaptureClose_answers (seq : Nat) (s : State) : ∃ next, execCaptureClose seq s = .next next := by
  unfold execCaptureClose; (try dsimp only); with_reducible repeat' (first | exact ⟨_, rfl⟩ | apply ite_answers | split)
theorem execRingCtlWrite_answers (w : Wr) (s : State) : ∃ next, execRingCtlWrite w s = .next next := by
  unfold execRingCtlWrite; (try dsimp only); with_reducible repeat' (first | exact ⟨_, rfl⟩ | apply ite_answers | split)
theorem execCmpRawWrite_answers (n : Nat) (w : Wr) (s : State) : ∃ next, execCmpRawWrite n w s = .next next := by
  unfold execCmpRawWrite; (try dsimp only); with_reducible repeat' (first | exact ⟨_, rfl⟩ | apply ite_answers | split)
theorem execTileClose_answers (rec : Bool) (n : Nat) (offered : List Byte) (s : State) : ∃ next, execTileClose rec n offered s = .next next := by
  unfold execTileClose; (try dsimp only); with_reducible repeat' (first | exact ⟨_, rfl⟩ | apply ite_answers | split)
theorem execEncResume_answers (q : Nat) (s : State) : ∃ next, execEncResume q s = .next next := by
  unfold execEncResume; (try dsimp only); with_reducible repeat' (first | exact ⟨_, rfl⟩ | apply ite_answers | split)
theorem execCmpEngFault_answers (x : EccError) (s : State) : ∃ next, execCmpEngFault x s = .next next := by
  unfold execCmpEngFault; (try dsimp only); with_reducible repeat' (first | exact ⟨_, rfl⟩ | apply ite_answers | split)
theorem execRecordTileFlush_answers (q : Nat) (s : State) : ∃ next, execRecordTileFlush q s = .next next := by
  unfold execRecordTileFlush; (try dsimp only); with_reducible repeat' (first | exact ⟨_, rfl⟩ | apply ite_answers | split)
theorem execCmpJobPiWrite_answers (b : Nat) (w : Wr) (s : State) : ∃ next, execCmpJobPiWrite b w s = .next next := by
  unfold execCmpJobPiWrite; (try dsimp only); with_reducible repeat' (first | exact ⟨_, rfl⟩ | apply ite_answers | split)
theorem execCmpJobDisable_answers (b : Nat) (w : Wr) (s : State) : ∃ next, execCmpJobDisable b w s = .next next := by
  unfold execCmpJobDisable; (try dsimp only); with_reducible repeat' (first | exact ⟨_, rfl⟩ | apply ite_answers | split)
theorem execJobDecode_answers (b : Nat) (fail : Nat) (desc : List Byte) (src : List Byte) (s : State) : ∃ next, execJobDecode b fail desc src s = .next next := by
  unfold execJobDecode; (try dsimp only); with_reducible repeat' (first | exact ⟨_, rfl⟩ | apply ite_answers | split)
theorem execCmpJobMore_answers (b : Nat) (w : Wr) (s : State) : ∃ next, execCmpJobMore b w s = .next next := by
  unfold execCmpJobMore; (try dsimp only); with_reducible repeat' (first | exact ⟨_, rfl⟩ | apply ite_answers | split)
theorem execCmpJobAbort_answers (b : Nat) (w : Wr) (s : State) : ∃ next, execCmpJobAbort b w s = .next next := by
  unfold execCmpJobAbort; (try dsimp only); with_reducible repeat' (first | exact ⟨_, rfl⟩ | apply ite_answers | split)
theorem execQueEnable_answers (w : Wr) (s : State) : ∃ next, execQueEnable w s = .next next := by
  unfold execQueEnable; (try dsimp only); with_reducible repeat' (first | exact ⟨_, rfl⟩ | apply ite_answers | split)
theorem execQueDisable_answers (w : Wr) (s : State) : ∃ next, execQueDisable w s = .next next := by
  unfold execQueDisable; (try dsimp only); with_reducible repeat' (first | exact ⟨_, rfl⟩ | apply ite_answers | split)
theorem execQueFlush_answers (w : Wr) (s : State) : ∃ next, execQueFlush w s = .next next := by
  unfold execQueFlush; (try dsimp only); with_reducible repeat' (first | exact ⟨_, rfl⟩ | apply ite_answers | split)
theorem execPlotRequest_answers (q : Nat) (s : State) : ∃ next, execPlotRequest q s = .next next := by
  unfold execPlotRequest; (try dsimp only); with_reducible repeat' (first | exact ⟨_, rfl⟩ | apply ite_answers | split)
theorem execPlotRetry_answers (q : Nat) (s : State) : ∃ next, execPlotRetry q s = .next next := by
  unfold execPlotRetry; (try dsimp only); with_reducible repeat' (first | exact ⟨_, rfl⟩ | apply ite_answers | split)
theorem execUnitWrite_answers (q : Nat) (s : State) : ∃ next, execUnitWrite q s = .next next := by
  unfold execUnitWrite; (try dsimp only); with_reducible repeat' (first | exact ⟨_, rfl⟩ | apply ite_answers | split)
theorem execPlotCopyDone_answers (s : State) : ∃ next, execPlotCopyDone s = .next next := by
  unfold execPlotCopyDone; (try dsimp only); with_reducible repeat' (first | exact ⟨_, rfl⟩ | apply ite_answers | split)
theorem execEgressFrame_answers (k : Nat) (pick : Nat) (cut : Nat) (s : State) : ∃ next, execEgressFrame k pick cut s = .next next := by
  unfold execEgressFrame; (try dsimp only); with_reducible repeat' (first | exact ⟨_, rfl⟩ | apply ite_answers | split)
theorem execEgressStall_answers (q : Nat) (s : State) : ∃ next, execEgressStall q s = .next next := by
  unfold execEgressStall; (try dsimp only); with_reducible repeat' (first | exact ⟨_, rfl⟩ | apply ite_answers | split)
theorem execPlotEccError_answers (id : Nat) (off : Nat) (uncorr : Bool) (s : State) : ∃ next, execPlotEccError id off uncorr s = .next next := by
  unfold execPlotEccError; (try dsimp only); with_reducible repeat' (first | exact ⟨_, rfl⟩ | apply ite_answers | split)
theorem execPqFlush_answers (n : Nat) (part : Bool) (w : Wr) (s : State) : ∃ next, execPqFlush n part w s = .next next := by
  unfold execPqFlush; (try dsimp only); with_reducible repeat' (first | exact ⟨_, rfl⟩ | apply ite_answers | split)
theorem execPopStallTimeout_answers (n : Nat) (s : State) : ∃ next, execPopStallTimeout n s = .next next := by
  unfold execPopStallTimeout; (try dsimp only); with_reducible repeat' (first | exact ⟨_, rfl⟩ | apply ite_answers | split)
theorem execSysPqMonPop_answers (fn : Nat) (j : Nat) (s : State) : ∃ next, execSysPqMonPop fn j s = .next next := by
  unfold execSysPqMonPop; (try dsimp only); with_reducible repeat' (first | exact ⟨_, rfl⟩ | apply ite_answers | split)
theorem execMonSnapshot_answers (j : Nat) (s : State) : ∃ next, execMonSnapshot j s = .next next := by
  unfold execMonSnapshot; (try dsimp only); with_reducible repeat' (first | exact ⟨_, rfl⟩ | apply ite_answers | split)
theorem execArbDecision_answers (k : Nat) (l : Nat) (lines : List ArbReq) (bad : Bool) (s : State) : ∃ next, execArbDecision k l lines bad s = .next next := by
  unfold execArbDecision; (try dsimp only); with_reducible repeat' (first | exact ⟨_, rfl⟩ | apply ite_answers | split)
theorem execSheetStart_answers (sh : Nat) (w : Wr) (s : State) : ∃ next, execSheetStart sh w s = .next next := by
  unfold execSheetStart; (try dsimp only); with_reducible repeat' (first | exact ⟨_, rfl⟩ | apply ite_answers | split)
theorem execSheetStop_answers (sh : Nat) (w : Wr) (s : State) : ∃ next, execSheetStop sh w s = .next next := by
  unfold execSheetStop; (try dsimp only); with_reducible repeat' (first | exact ⟨_, rfl⟩ | apply ite_answers | split)
theorem execLaneDetectDone_answers (sh : Nat) (l : Nat) (s : State) : ∃ next, execLaneDetectDone sh l s = .next next := by
  unfold execLaneDetectDone; (try dsimp only); with_reducible repeat' (first | exact ⟨_, rfl⟩ | apply ite_answers | split)
theorem execLaneLockDone_answers (sh : Nat) (l : Nat) (s : State) : ∃ next, execLaneLockDone sh l s = .next next := by
  unfold execLaneLockDone; (try dsimp only); with_reducible repeat' (first | exact ⟨_, rfl⟩ | apply ite_answers | split)
theorem execLaneEqDone_answers (sh : Nat) (l : Nat) (margins : List Nat) (s : State) : ∃ next, execLaneEqDone sh l margins s = .next next := by
  unfold execLaneEqDone; (try dsimp only); with_reducible repeat' (first | exact ⟨_, rfl⟩ | apply ite_answers | split)
theorem execLaneAlignDone_answers (sh : Nat) (l : Nat) (ident : Nat) (inv : Bool) (s : State) : ∃ next, execLaneAlignDone sh l ident inv s = .next next := by
  unfold execLaneAlignDone; (try dsimp only); with_reducible repeat' (first | exact ⟨_, rfl⟩ | apply ite_answers | split)
theorem execSheetUp_answers (sh : Nat) (skew : Nat) (s : State) : ∃ next, execSheetUp sh skew s = .next next := by
  unfold execSheetUp; (try dsimp only); with_reducible repeat' (first | exact ⟨_, rfl⟩ | apply ite_answers | split)
theorem execBringupStageTimeout_answers (sh : Nat) (l : Nat) (s : State) : ∃ next, execBringupStageTimeout sh l s = .next next := by
  unfold execBringupStageTimeout; (try dsimp only); with_reducible repeat' (first | exact ⟨_, rfl⟩ | apply ite_answers | split)
theorem execBringupRetry_answers (sh : Nat) (s : State) : ∃ next, execBringupRetry sh s = .next next := by
  unfold execBringupRetry; (try dsimp only); with_reducible repeat' (first | exact ⟨_, rfl⟩ | apply ite_answers | split)
theorem execLaneLos_answers (sh : Nat) (l : Nat) (s : State) : ∃ next, execLaneLos sh l s = .next next := by
  unfold execLaneLos; (try dsimp only); with_reducible repeat' (first | exact ⟨_, rfl⟩ | apply ite_answers | split)
theorem execLaneLosClear_answers (sh : Nat) (l : Nat) (s : State) : ∃ next, execLaneLosClear sh l s = .next next := by
  unfold execLaneLosClear; (try dsimp only); with_reducible repeat' (first | exact ⟨_, rfl⟩ | apply ite_answers | split)
theorem execLaneLol_answers (sh : Nat) (l : Nat) (s : State) : ∃ next, execLaneLol sh l s = .next next := by
  unfold execLaneLol; (try dsimp only); with_reducible repeat' (first | exact ⟨_, rfl⟩ | apply ite_answers | split)
theorem execEyeMeasure_answers (sh : Nat) (l : Nat) (v : Nat) (h : Nat) (s : State) : ∃ next, execEyeMeasure sh l v h s = .next next := by
  unfold execEyeMeasure; (try dsimp only); with_reducible repeat' (first | exact ⟨_, rfl⟩ | apply ite_answers | split)
theorem execPrbsLock_answers (sh : Nat) (l : Nat) (inv : Bool) (s : State) : ∃ next, execPrbsLock sh l inv s = .next next := by
  unfold execPrbsLock; (try dsimp only); with_reducible repeat' (first | exact ⟨_, rfl⟩ | apply ite_answers | split)
theorem execPrbsLost_answers (sh : Nat) (l : Nat) (n : Nat) (e : Nat) (s : State) : ∃ next, execPrbsLost sh l n e s = .next next := by
  unfold execPrbsLost; (try dsimp only); with_reducible repeat' (first | exact ⟨_, rfl⟩ | apply ite_answers | split)
theorem execPrbsInject_answers (sh : Nat) (l : Nat) (w : Wr) (s : State) : ∃ next, execPrbsInject sh l w s = .next next := by
  unfold execPrbsInject; (try dsimp only); with_reducible repeat' (first | exact ⟨_, rfl⟩ | apply ite_answers | split)
theorem execPrbsClr_answers (sh : Nat) (l : Nat) (w : Wr) (s : State) : ∃ next, execPrbsClr sh l w s = .next next := by
  unfold execPrbsClr; (try dsimp only); with_reducible repeat' (first | exact ⟨_, rfl⟩ | apply ite_answers | split)
theorem execSheetSub_answers (sh : Nat) (w : Wr) (s : State) : ∃ next, execSheetSub sh w s = .next next := by
  unfold execSheetSub; (try dsimp only); with_reducible repeat' (first | exact ⟨_, rfl⟩ | apply ite_answers | split)
theorem execNarrowWrite_answers (sh : Nat) (w : Wr) (s : State) : ∃ next, execNarrowWrite sh w s = .next next := by
  unfold execNarrowWrite; (try dsimp only); with_reducible repeat' (first | exact ⟨_, rfl⟩ | apply ite_answers | split)
theorem execLaneSleepWrite_answers (sh : Nat) (l : Nat) (w : Wr) (s : State) : ∃ next, execLaneSleepWrite sh l w s = .next next := by
  unfold execLaneSleepWrite; (try dsimp only); with_reducible repeat' (first | exact ⟨_, rfl⟩ | apply ite_answers | split)
theorem execTrainingSetRx_answers (sh : Nat) (l : Nat) (data : List Byte) (s : State) : ∃ next, execTrainingSetRx sh l data s = .next next := by
  unfold execTrainingSetRx; (try dsimp only); with_reducible repeat' (first | exact ⟨_, rfl⟩ | apply ite_answers | split)
theorem execTrainAttemptTimeout_answers (sh : Nat) (s : State) : ∃ next, execTrainAttemptTimeout sh s = .next next := by
  unfold execTrainAttemptTimeout; (try dsimp only); with_reducible repeat' (first | exact ⟨_, rfl⟩ | apply ite_answers | split)
theorem execTrainBackoffEnd_answers (sh : Nat) (s : State) : ∃ next, execTrainBackoffEnd sh s = .next next := by
  unfold execTrainBackoffEnd; (try dsimp only); with_reducible repeat' (first | exact ⟨_, rfl⟩ | apply ite_answers | split)
theorem execBlockRx_answers (sh : Nat) (l : Nat) (i : Nat) (syms : List Nat) (s : State) : ∃ next, execBlockRx sh l i syms s = .next next := by
  unfold execBlockRx; (try dsimp only); with_reducible repeat' (first | exact ⟨_, rfl⟩ | apply ite_answers | split)
theorem execFlitRx_answers (sh : Nat) (s : State) : ∃ next, execFlitRx sh s = .next next := by
  unfold execFlitRx; (try dsimp only); with_reducible repeat' (first | exact ⟨_, rfl⟩ | apply ite_answers | split)
theorem execReplayTimeout_answers (sh : Nat) (s : State) : ∃ next, execReplayTimeout sh s = .next next := by
  unfold execReplayTimeout; (try dsimp only); with_reducible repeat' (first | exact ⟨_, rfl⟩ | apply ite_answers | split)
theorem execClaimRx_answers (sh : Nat) (s : State) : ∃ next, execClaimRx sh s = .next next := by
  unfold execClaimRx; (try dsimp only); with_reducible repeat' (first | exact ⟨_, rfl⟩ | apply ite_answers | split)
theorem execGrantRx_answers (sh : Nat) (s : State) : ∃ next, execGrantRx sh s = .next next := by
  unfold execGrantRx; (try dsimp only); with_reducible repeat' (first | exact ⟨_, rfl⟩ | apply ite_answers | split)
theorem execRefuseRx_answers (sh : Nat) (s : State) : ∃ next, execRefuseRx sh s = .next next := by
  unfold execRefuseRx; (try dsimp only); with_reducible repeat' (first | exact ⟨_, rfl⟩ | apply ite_answers | split)
theorem execDoneRx_answers (sh : Nat) (s : State) : ∃ next, execDoneRx sh s = .next next := by
  unfold execDoneRx; (try dsimp only); with_reducible repeat' (first | exact ⟨_, rfl⟩ | apply ite_answers | split)
theorem execSpareReadyRx_answers (sh : Nat) (s : State) : ∃ next, execSpareReadyRx sh s = .next next := by
  unfold execSpareReadyRx; (try dsimp only); with_reducible repeat' (first | exact ⟨_, rfl⟩ | apply ite_answers | split)
theorem execSwitchRx_answers (sh : Nat) (s : State) : ∃ next, execSwitchRx sh s = .next next := by
  unfold execSwitchRx; (try dsimp only); with_reducible repeat' (first | exact ⟨_, rfl⟩ | apply ite_answers | split)
theorem execRestoreRx_answers (sh : Nat) (s : State) : ∃ next, execRestoreRx sh s = .next next := by
  unfold execRestoreRx; (try dsimp only); with_reducible repeat' (first | exact ⟨_, rfl⟩ | apply ite_answers | split)
theorem execCommandRx_answers (sh : Nat) (s : State) : ∃ next, execCommandRx sh s = .next next := by
  unfold execCommandRx; (try dsimp only); with_reducible repeat' (first | exact ⟨_, rfl⟩ | apply ite_answers | split)
theorem execXchgTimeout_answers (sh : Nat) (s : State) : ∃ next, execXchgTimeout sh s = .next next := by
  unfold execXchgTimeout; (try dsimp only); with_reducible repeat' (first | exact ⟨_, rfl⟩ | apply ite_answers | split)
theorem execDozeIdle_answers (sh : Nat) (s : State) : ∃ next, execDozeIdle sh s = .next next := by
  unfold execDozeIdle; (try dsimp only); with_reducible repeat' (first | exact ⟨_, rfl⟩ | apply ite_answers | split)
theorem execSampleRx_answers (sh : Nat) (full : List Nat) (s : State) : ∃ next, execSampleRx sh full s = .next next := by
  unfold execSampleRx; (try dsimp only); with_reducible repeat' (first | exact ⟨_, rfl⟩ | apply ite_answers | split)
theorem execDeclareRx_answers (sh : Nat) (s : State) : ∃ next, execDeclareRx sh s = .next next := by
  unfold execDeclareRx; (try dsimp only); with_reducible repeat' (first | exact ⟨_, rfl⟩ | apply ite_answers | split)
theorem execPartialRx_answers (sh : Nat) (s : State) : ∃ next, execPartialRx sh s = .next next := by
  unfold execPartialRx; (try dsimp only); with_reducible repeat' (first | exact ⟨_, rfl⟩ | apply ite_answers | split)
theorem execQueueFlitRx_answers (sh : Nat) (s : State) : ∃ next, execQueueFlitRx sh s = .next next := by
  unfold execQueueFlitRx; (try dsimp only); with_reducible repeat' (first | exact ⟨_, rfl⟩ | apply ite_answers | split)
theorem execBeaconTx_answers (sh : Nat) (s : State) : ∃ next, execBeaconTx sh s = .next next := by
  unfold execBeaconTx; (try dsimp only); with_reducible repeat' (first | exact ⟨_, rfl⟩ | apply ite_answers | split)
theorem execBeaconRx_answers (sh : Nat) (s : State) : ∃ next, execBeaconRx sh s = .next next := by
  unfold execBeaconRx; (try dsimp only); with_reducible repeat' (first | exact ⟨_, rfl⟩ | apply ite_answers | split)
theorem execBeaconLost_answers (sh : Nat) (s : State) : ∃ next, execBeaconLost sh s = .next next := by
  unfold execBeaconLost; (try dsimp only); with_reducible repeat' (first | exact ⟨_, rfl⟩ | apply ite_answers | split)
theorem execFrameRx_answers (p : Nat) (fcs : Bool) (frame : List Byte) (s : State) : ∃ next, execFrameRx p fcs frame s = .next next := by
  unfold execFrameRx; (try dsimp only); with_reducible repeat' (first | exact ⟨_, rfl⟩ | apply ite_answers | split)
theorem execMergeTimeout_answers (n : Nat) (s : State) : ∃ next, execMergeTimeout n s = .next next := by
  unfold execMergeTimeout; (try dsimp only); with_reducible repeat' (first | exact ⟨_, rfl⟩ | apply ite_answers | split)
theorem execHeartbeatRx_answers (p : Nat) (data : List Byte) (s : State) : ∃ next, execHeartbeatRx p data s = .next next := by
  unfold execHeartbeatRx; (try dsimp only); with_reducible repeat' (first | exact ⟨_, rfl⟩ | apply ite_answers | split)
theorem execHeartbeatTx_answers (s : State) : ∃ next, execHeartbeatTx s = .next next := by
  unfold execHeartbeatTx; (try dsimp only); with_reducible repeat' (first | exact ⟨_, rfl⟩ | apply ite_answers | split)
theorem execHeartbeatTimeout_answers (p : Nat) (s : State) : ∃ next, execHeartbeatTimeout p s = .next next := by
  unfold execHeartbeatTimeout; (try dsimp only); with_reducible repeat' (first | exact ⟨_, rfl⟩ | apply ite_answers | split)
theorem execPortFaultHeld_answers (p : Nat) (s : State) : ∃ next, execPortFaultHeld p s = .next next := by
  unfold execPortFaultHeld; (try dsimp only); with_reducible repeat' (first | exact ⟨_, rfl⟩ | apply ite_answers | split)
theorem execRouteSideWrite_answers (j : Nat) (w : Wr) (s : State) : ∃ next, execRouteSideWrite j w s = .next next := by
  unfold execRouteSideWrite; (try dsimp only); with_reducible repeat' (first | exact ⟨_, rfl⟩ | apply ite_answers | split)
theorem execRewindExpiry_answers (q : Nat) (s : State) : ∃ next, execRewindExpiry q s = .next next := by
  unfold execRewindExpiry; (try dsimp only); with_reducible repeat' (first | exact ⟨_, rfl⟩ | apply ite_answers | split)
theorem execHtxPiWrite_answers (m : Nat) (w : Wr) (descs : List HtxDesc) (s : State) : ∃ next, execHtxPiWrite m w descs s = .next next := by
  unfold execHtxPiWrite; (try dsimp only); with_reducible repeat' (first | exact ⟨_, rfl⟩ | apply ite_answers | split)
theorem execHrxPiWrite_answers (m : Nat) (w : Wr) (bufs : List Nat) (s : State) : ∃ next, execHrxPiWrite m w bufs s = .next next := by
  unfold execHrxPiWrite; (try dsimp only); with_reducible repeat' (first | exact ⟨_, rfl⟩ | apply ite_answers | split)
theorem execFunctionLevelReset_answers (fn : Nat) (s : State) : ∃ next, execFunctionLevelReset fn s = .next next := by
  unfold execFunctionLevelReset; (try dsimp only); with_reducible repeat' (first | exact ⟨_, rfl⟩ | apply ite_answers | split)
theorem execVfDisable_answers (n : Nat) (s : State) : ∃ next, execVfDisable n s = .next next := by
  unfold execVfDisable; (try dsimp only); with_reducible repeat' (first | exact ⟨_, rfl⟩ | apply ite_answers | split)
theorem execPcieLinkDown_answers (s : State) : ∃ next, execPcieLinkDown s = .next next := by
  unfold execPcieLinkDown; (try dsimp only); with_reducible repeat' (first | exact ⟨_, rfl⟩ | apply ite_answers | split)
theorem execPcieLinkUp_answers (s : State) : ∃ next, execPcieLinkUp s = .next next := by
  unfold execPcieLinkUp; (try dsimp only); with_reducible repeat' (first | exact ⟨_, rfl⟩ | apply ite_answers | split)
theorem execPtmStart_answers (w : Wr) (s : State) : ∃ next, execPtmStart w s = .next next := by
  unfold execPtmStart; (try dsimp only); with_reducible repeat' (first | exact ⟨_, rfl⟩ | apply ite_answers | split)
theorem execPtmDialog_answers (s : State) : ∃ next, execPtmDialog s = .next next := by
  unfold execPtmDialog; (try dsimp only); with_reducible repeat' (first | exact ⟨_, rfl⟩ | apply ite_answers | split)
theorem execPtmResponseRx_answers (master : Nat) (delay : Nat) (s : State) : ∃ next, execPtmResponseRx master delay s = .next next := by
  unfold execPtmResponseRx; (try dsimp only); with_reducible repeat' (first | exact ⟨_, rfl⟩ | apply ite_answers | split)
theorem execPtmTimeout_answers (s : State) : ∃ next, execPtmTimeout s = .next next := by
  unfold execPtmTimeout; (try dsimp only); with_reducible repeat' (first | exact ⟨_, rfl⟩ | apply ite_answers | split)
theorem execMsixModerationEnd_answers (fn : Nat) (v : Nat) (s : State) : ∃ next, execMsixModerationEnd fn v s = .next next := by
  unfold execMsixModerationEnd; (try dsimp only); with_reducible repeat' (first | exact ⟨_, rfl⟩ | apply ite_answers | split)
theorem execMsixUnmask_answers (fn : Nat) (op : MsixOp) (s : State) : ∃ next, execMsixUnmask fn op s = .next next := by
  unfold execMsixUnmask; (try dsimp only); with_reducible repeat' (first | exact ⟨_, rfl⟩ | apply ite_answers | split)
theorem execDbCmdPiWrite_answers (r : Nat) (w : Wr) (data : List Byte) (s : State) : ∃ next, execDbCmdPiWrite r w data s = .next next := by
  unfold execDbCmdPiWrite; (try dsimp only); with_reducible repeat' (first | exact ⟨_, rfl⟩ | apply ite_answers | split)
theorem execDbCplCiWrite_answers (r : Nat) (w : Wr) (s : State) : ∃ next, execDbCplCiWrite r w s = .next next := by
  unfold execDbCplCiWrite; (try dsimp only); with_reducible repeat' (first | exact ⟨_, rfl⟩ | apply ite_answers | split)
theorem execCmdEnvelopeRx_answers (port : Nat) (addr : Nat) (udp : Nat) (ahead : Nat) (data : List Byte) (s : State) : ∃ next, execCmdEnvelopeRx port addr udp ahead data s = .next next := by
  unfold execCmdEnvelopeRx; (try dsimp only); with_reducible repeat' (first | exact ⟨_, rfl⟩ | apply ite_answers | split)
theorem execCmdKeyLoad_answers (w : Wr) (s : State) : ∃ next, execCmdKeyLoad w s = .next next := by
  unfold execCmdKeyLoad; (try dsimp only); with_reducible repeat' (first | exact ⟨_, rfl⟩ | apply ite_answers | split)
theorem execCmdKeyClear_answers (w : Wr) (s : State) : ∃ next, execCmdKeyClear w s = .next next := by
  unfold execCmdKeyClear; (try dsimp only); with_reducible repeat' (first | exact ⟨_, rfl⟩ | apply ite_answers | split)
theorem execCringEnable_answers (b : Nat) (r : Nat) (w : Wr) (s : State) : ∃ next, execCringEnable b r w s = .next next := by
  unfold execCringEnable; (try dsimp only); with_reducible repeat' (first | exact ⟨_, rfl⟩ | apply ite_answers | split)
theorem execPadOpcode_answers (p : Packet) (s : State) : ∃ next, execPadOpcode p s = .next next := by
  unfold execPadOpcode; (try dsimp only); with_reducible repeat' (first | exact ⟨_, rfl⟩ | apply ite_answers | split)
theorem execCfgIdent_answers (p : Packet) (s : State) : ∃ next, execCfgIdent p s = .next next := by
  unfold execCfgIdent; (try dsimp only); with_reducible repeat' (first | exact ⟨_, rfl⟩ | apply ite_answers | split)
theorem execCfgHubId_answers (p : Packet) (s : State) : ∃ next, execCfgHubId p s = .next next := by
  unfold execCfgHubId; (try dsimp only); with_reducible repeat' (first | exact ⟨_, rfl⟩ | apply ite_answers | split)
theorem execCfgKeyLoad_answers (p : Packet) (s : State) : ∃ next, execCfgKeyLoad p s = .next next := by
  unfold execCfgKeyLoad; (try dsimp only); with_reducible repeat' (first | exact ⟨_, rfl⟩ | apply ite_answers | split)
theorem execCfgKeyClear_answers (p : Packet) (s : State) : ∃ next, execCfgKeyClear p s = .next next := by
  unfold execCfgKeyClear; (try dsimp only); with_reducible repeat' (first | exact ⟨_, rfl⟩ | apply ite_answers | split)
theorem execCfgKeyOwn_answers (p : Packet) (s : State) : ∃ next, execCfgKeyOwn p s = .next next := by
  unfold execCfgKeyOwn; (try dsimp only); with_reducible repeat' (first | exact ⟨_, rfl⟩ | apply ite_answers | split)
theorem execCfgUdp_answers (p : Packet) (s : State) : ∃ next, execCfgUdp p s = .next next := by
  unfold execCfgUdp; (try dsimp only); with_reducible repeat' (first | exact ⟨_, rfl⟩ | apply ite_answers | split)
theorem execCfgRegRead_answers (p : Packet) (s : State) : ∃ next, execCfgRegRead p s = .next next := by
  unfold execCfgRegRead; (try dsimp only); with_reducible repeat' (first | exact ⟨_, rfl⟩ | apply ite_answers | split)
theorem execCfgRegWrite_answers (p : Packet) (s : State) : ∃ next, execCfgRegWrite p s = .next next := by
  unfold execCfgRegWrite; (try dsimp only); with_reducible repeat' (first | exact ⟨_, rfl⟩ | apply ite_answers | split)
theorem execCfgTableWrite_answers (p : Packet) (s : State) : ∃ next, execCfgTableWrite p s = .next next := by
  unfold execCfgTableWrite; (try dsimp only); with_reducible repeat' (first | exact ⟨_, rfl⟩ | apply ite_answers | split)
theorem execCfgTableRead_answers (p : Packet) (s : State) : ∃ next, execCfgTableRead p s = .next next := by
  unfold execCfgTableRead; (try dsimp only); with_reducible repeat' (first | exact ⟨_, rfl⟩ | apply ite_answers | split)
theorem execCnvGroup_answers (p : Packet) (s : State) : ∃ next, execCnvGroup p s = .next next := by
  unfold execCnvGroup; (try dsimp only); with_reducible repeat' (first | exact ⟨_, rfl⟩ | apply ite_answers | split)
theorem execCnvInputEn_answers (p : Packet) (s : State) : ∃ next, execCnvInputEn p s = .next next := by
  unfold execCnvInputEn; (try dsimp only); with_reducible repeat' (first | exact ⟨_, rfl⟩ | apply ite_answers | split)
theorem execCnvTrack_answers (p : Packet) (s : State) : ∃ next, execCnvTrack p s = .next next := by
  unfold execCnvTrack; (try dsimp only); with_reducible repeat' (first | exact ⟨_, rfl⟩ | apply ite_answers | split)
theorem execCnvStatus_answers (p : Packet) (s : State) : ∃ next, execCnvStatus p s = .next next := by
  unfold execCnvStatus; (try dsimp only); with_reducible repeat' (first | exact ⟨_, rfl⟩ | apply ite_answers | split)
theorem execBrgQuota_answers (p : Packet) (s : State) : ∃ next, execBrgQuota p s = .next next := by
  unfold execBrgQuota; (try dsimp only); with_reducible repeat' (first | exact ⟨_, rfl⟩ | apply ite_answers | split)
theorem execBrgGrant_answers (p : Packet) (s : State) : ∃ next, execBrgGrant p s = .next next := by
  unfold execBrgGrant; (try dsimp only); with_reducible repeat' (first | exact ⟨_, rfl⟩ | apply ite_answers | split)
theorem execBrgRevoke_answers (p : Packet) (s : State) : ∃ next, execBrgRevoke p s = .next next := by
  unfold execBrgRevoke; (try dsimp only); with_reducible repeat' (first | exact ⟨_, rfl⟩ | apply ite_answers | split)
theorem execBrgBeams_answers (p : Packet) (s : State) : ∃ next, execBrgBeams p s = .next next := by
  unfold execBrgBeams; (try dsimp only); with_reducible repeat' (first | exact ⟨_, rfl⟩ | apply ite_answers | split)
theorem execBrgReset_answers (p : Packet) (s : State) : ∃ next, execBrgReset p s = .next next := by
  unfold execBrgReset; (try dsimp only); with_reducible repeat' (first | exact ⟨_, rfl⟩ | apply ite_answers | split)
theorem execBrgStatus_answers (p : Packet) (s : State) : ∃ next, execBrgStatus p s = .next next := by
  unfold execBrgStatus; (try dsimp only); with_reducible repeat' (first | exact ⟨_, rfl⟩ | apply ite_answers | split)
theorem execPipeSource_answers (p : Packet) (s : State) : ∃ next, execPipeSource p s = .next next := by
  unfold execPipeSource; (try dsimp only); with_reducible repeat' (first | exact ⟨_, rfl⟩ | apply ite_answers | split)
theorem execPipeBind_answers (p : Packet) (s : State) : ∃ next, execPipeBind p s = .next next := by
  unfold execPipeBind; (try dsimp only); with_reducible repeat' (first | exact ⟨_, rfl⟩ | apply ite_answers | split)
theorem execPipeDelay_answers (p : Packet) (s : State) : ∃ next, execPipeDelay p s = .next next := by
  unfold execPipeDelay; (try dsimp only); with_reducible repeat' (first | exact ⟨_, rfl⟩ | apply ite_answers | split)
theorem execPipeUnbind_answers (p : Packet) (s : State) : ∃ next, execPipeUnbind p s = .next next := by
  unfold execPipeUnbind; (try dsimp only); with_reducible repeat' (first | exact ⟨_, rfl⟩ | apply ite_answers | split)
theorem execPipeMix_answers (p : Packet) (s : State) : ∃ next, execPipeMix p s = .next next := by
  unfold execPipeMix; (try dsimp only); with_reducible repeat' (first | exact ⟨_, rfl⟩ | apply ite_answers | split)
theorem execPipeDecimate_answers (p : Packet) (s : State) : ∃ next, execPipeDecimate p s = .next next := by
  unfold execPipeDecimate; (try dsimp only); with_reducible repeat' (first | exact ⟨_, rfl⟩ | apply ite_answers | split)
theorem execPipeResample_answers (p : Packet) (s : State) : ∃ next, execPipeResample p s = .next next := by
  unfold execPipeResample; (try dsimp only); with_reducible repeat' (first | exact ⟨_, rfl⟩ | apply ite_answers | split)
theorem execPipeChannel_answers (p : Packet) (s : State) : ∃ next, execPipeChannel p s = .next next := by
  unfold execPipeChannel; (try dsimp only); with_reducible repeat' (first | exact ⟨_, rfl⟩ | apply ite_answers | split)
theorem execPipeReduce_answers (p : Packet) (s : State) : ∃ next, execPipeReduce p s = .next next := by
  unfold execPipeReduce; (try dsimp only); with_reducible repeat' (first | exact ⟨_, rfl⟩ | apply ite_answers | split)
theorem execPipeRoute_answers (p : Packet) (s : State) : ∃ next, execPipeRoute p s = .next next := by
  unfold execPipeRoute; (try dsimp only); with_reducible repeat' (first | exact ⟨_, rfl⟩ | apply ite_answers | split)
theorem execPipeIntake_answers (p : Packet) (s : State) : ∃ next, execPipeIntake p s = .next next := by
  unfold execPipeIntake; (try dsimp only); with_reducible repeat' (first | exact ⟨_, rfl⟩ | apply ite_answers | split)
theorem execPipeCommit_answers (p : Packet) (s : State) : ∃ next, execPipeCommit p s = .next next := by
  unfold execPipeCommit; (try dsimp only); with_reducible repeat' (first | exact ⟨_, rfl⟩ | apply ite_answers | split)
theorem execPipeFpd_answers (p : Packet) (s : State) : ∃ next, execPipeFpd p s = .next next := by
  unfold execPipeFpd; (try dsimp only); with_reducible repeat' (first | exact ⟨_, rfl⟩ | apply ite_answers | split)
theorem execPipeDistrict_answers (p : Packet) (s : State) : ∃ next, execPipeDistrict p s = .next next := by
  unfold execPipeDistrict; (try dsimp only); with_reducible repeat' (first | exact ⟨_, rfl⟩ | apply ite_answers | split)
theorem execPipeRaw_answers (p : Packet) (s : State) : ∃ next, execPipeRaw p s = .next next := by
  unfold execPipeRaw; (try dsimp only); with_reducible repeat' (first | exact ⟨_, rfl⟩ | apply ite_answers | split)
theorem execPipeStatus_answers (p : Packet) (s : State) : ∃ next, execPipeStatus p s = .next next := by
  unfold execPipeStatus; (try dsimp only); with_reducible repeat' (first | exact ⟨_, rfl⟩ | apply ite_answers | split)
theorem execBeamSet_answers (p : Packet) (s : State) : ∃ next, execBeamSet p s = .next next := by
  unfold execBeamSet; (try dsimp only); with_reducible repeat' (first | exact ⟨_, rfl⟩ | apply ite_answers | split)
theorem execBeamDisable_answers (p : Packet) (s : State) : ∃ next, execBeamDisable p s = .next next := by
  unfold execBeamDisable; (try dsimp only); with_reducible repeat' (first | exact ⟨_, rfl⟩ | apply ite_answers | split)
theorem execBeamIset_answers (p : Packet) (s : State) : ∃ next, execBeamIset p s = .next next := by
  unfold execBeamIset; (try dsimp only); with_reducible repeat' (first | exact ⟨_, rfl⟩ | apply ite_answers | split)
theorem execBeamWeights_answers (p : Packet) (s : State) : ∃ next, execBeamWeights p s = .next next := by
  unfold execBeamWeights; (try dsimp only); with_reducible repeat' (first | exact ⟨_, rfl⟩ | apply ite_answers | split)
theorem execBeamStatus_answers (p : Packet) (s : State) : ∃ next, execBeamStatus p s = .next next := by
  unfold execBeamStatus; (try dsimp only); with_reducible repeat' (first | exact ⟨_, rfl⟩ | apply ite_answers | split)
theorem execBeamLoad_answers (p : Packet) (s : State) : ∃ next, execBeamLoad p s = .next next := by
  unfold execBeamLoad; (try dsimp only); with_reducible repeat' (first | exact ⟨_, rfl⟩ | apply ite_answers | split)
theorem execGridDefine_answers (p : Packet) (s : State) : ∃ next, execGridDefine p s = .next next := by
  unfold execGridDefine; (try dsimp only); with_reducible repeat' (first | exact ⟨_, rfl⟩ | apply ite_answers | split)
theorem execGridClear_answers (p : Packet) (s : State) : ∃ next, execGridClear p s = .next next := by
  unfold execGridClear; (try dsimp only); with_reducible repeat' (first | exact ⟨_, rfl⟩ | apply ite_answers | split)
theorem execGridRead_answers (p : Packet) (s : State) : ∃ next, execGridRead p s = .next next := by
  unfold execGridRead; (try dsimp only); with_reducible repeat' (first | exact ⟨_, rfl⟩ | apply ite_answers | split)
theorem execGridIndex_answers (p : Packet) (s : State) : ∃ next, execGridIndex p s = .next next := by
  unfold execGridIndex; (try dsimp only); with_reducible repeat' (first | exact ⟨_, rfl⟩ | apply ite_answers | split)
theorem execQueueConfig_answers (p : Packet) (s : State) : ∃ next, execQueueConfig p s = .next next := by
  unfold execQueueConfig; (try dsimp only); with_reducible repeat' (first | exact ⟨_, rfl⟩ | apply ite_answers | split)
theorem execQueueEnable_answers (p : Packet) (s : State) : ∃ next, execQueueEnable p s = .next next := by
  unfold execQueueEnable; (try dsimp only); with_reducible repeat' (first | exact ⟨_, rfl⟩ | apply ite_answers | split)
theorem execQueueDisable_answers (p : Packet) (s : State) : ∃ next, execQueueDisable p s = .next next := by
  unfold execQueueDisable; (try dsimp only); with_reducible repeat' (first | exact ⟨_, rfl⟩ | apply ite_answers | split)
theorem execQueueFlush_answers (p : Packet) (s : State) : ∃ next, execQueueFlush p s = .next next := by
  unfold execQueueFlush; (try dsimp only); with_reducible repeat' (first | exact ⟨_, rfl⟩ | apply ite_answers | split)
theorem execQueueStatus_answers (p : Packet) (s : State) : ∃ next, execQueueStatus p s = .next next := by
  unfold execQueueStatus; (try dsimp only); with_reducible repeat' (first | exact ⟨_, rfl⟩ | apply ite_answers | split)
theorem execQueueChain_answers (p : Packet) (s : State) : ∃ next, execQueueChain p s = .next next := by
  unfold execQueueChain; (try dsimp only); with_reducible repeat' (first | exact ⟨_, rfl⟩ | apply ite_answers | split)
theorem execQueueDeliver_answers (p : Packet) (s : State) : ∃ next, execQueueDeliver p s = .next next := by
  unfold execQueueDeliver; (try dsimp only); with_reducible repeat' (first | exact ⟨_, rfl⟩ | apply ite_answers | split)
theorem execPlotStatus_answers (p : Packet) (s : State) : ∃ next, execPlotStatus p s = .next next := by
  unfold execPlotStatus; (try dsimp only); with_reducible repeat' (first | exact ⟨_, rfl⟩ | apply ite_answers | split)
theorem execPlotEscape_answers (p : Packet) (s : State) : ∃ next, execPlotEscape p s = .next next := by
  unfold execPlotEscape; (try dsimp only); with_reducible repeat' (first | exact ⟨_, rfl⟩ | apply ite_answers | split)
theorem execPlotLow_answers (p : Packet) (s : State) : ∃ next, execPlotLow p s = .next next := by
  unfold execPlotLow; (try dsimp only); with_reducible repeat' (first | exact ⟨_, rfl⟩ | apply ite_answers | split)
theorem execPlotCounters_answers (p : Packet) (s : State) : ∃ next, execPlotCounters p s = .next next := by
  unfold execPlotCounters; (try dsimp only); with_reducible repeat' (first | exact ⟨_, rfl⟩ | apply ite_answers | split)
theorem execTimeRead_answers (p : Packet) (s : State) : ∃ next, execTimeRead p s = .next next := by
  unfold execTimeRead; (try dsimp only); with_reducible repeat' (first | exact ⟨_, rfl⟩ | apply ite_answers | split)
theorem execTimeAdjust_answers (p : Packet) (s : State) : ∃ next, execTimeAdjust p s = .next next := by
  unfold execTimeAdjust; (try dsimp only); with_reducible repeat' (first | exact ⟨_, rfl⟩ | apply ite_answers | split)
theorem execTimeSource_answers (p : Packet) (s : State) : ∃ next, execTimeSource p s = .next next := by
  unfold execTimeSource; (try dsimp only); with_reducible repeat' (first | exact ⟨_, rfl⟩ | apply ite_answers | split)
theorem execTimeAge_answers (p : Packet) (s : State) : ∃ next, execTimeAge p s = .next next := by
  unfold execTimeAge; (try dsimp only); with_reducible repeat' (first | exact ⟨_, rfl⟩ | apply ite_answers | split)
theorem execTimePpsDelay_answers (p : Packet) (s : State) : ∃ next, execTimePpsDelay p s = .next next := by
  unfold execTimePpsDelay; (try dsimp only); with_reducible repeat' (first | exact ⟨_, rfl⟩ | apply ite_answers | split)
theorem execTimeTaiUtc_answers (p : Packet) (s : State) : ∃ next, execTimeTaiUtc p s = .next next := by
  unfold execTimeTaiUtc; (try dsimp only); with_reducible repeat' (first | exact ⟨_, rfl⟩ | apply ite_answers | split)
theorem execTimeStatus_answers (p : Packet) (s : State) : ∃ next, execTimeStatus p s = .next next := by
  unfold execTimeStatus; (try dsimp only); with_reducible repeat' (first | exact ⟨_, rfl⟩ | apply ite_answers | split)
theorem execTimeEdge_answers (p : Packet) (s : State) : ∃ next, execTimeEdge p s = .next next := by
  unfold execTimeEdge; (try dsimp only); with_reducible repeat' (first | exact ⟨_, rfl⟩ | apply ite_answers | split)
theorem execTimeFreq_answers (p : Packet) (s : State) : ∃ next, execTimeFreq p s = .next next := by
  unfold execTimeFreq; (try dsimp only); with_reducible repeat' (first | exact ⟨_, rfl⟩ | apply ite_answers | split)
theorem execTimeFreqRead_answers (p : Packet) (s : State) : ∃ next, execTimeFreqRead p s = .next next := by
  unfold execTimeFreqRead; (try dsimp only); with_reducible repeat' (first | exact ⟨_, rfl⟩ | apply ite_answers | split)
theorem execTimePtm_answers (p : Packet) (s : State) : ∃ next, execTimePtm p s = .next next := by
  unfold execTimePtm; (try dsimp only); with_reducible repeat' (first | exact ⟨_, rfl⟩ | apply ite_answers | split)
theorem execTrigArm_answers (p : Packet) (s : State) : ∃ next, execTrigArm p s = .next next := by
  unfold execTrigArm; (try dsimp only); with_reducible repeat' (first | exact ⟨_, rfl⟩ | apply ite_answers | split)
theorem execTrigDisarm_answers (p : Packet) (s : State) : ∃ next, execTrigDisarm p s = .next next := by
  unfold execTrigDisarm; (try dsimp only); with_reducible repeat' (first | exact ⟨_, rfl⟩ | apply ite_answers | split)
theorem execTrigFire_answers (p : Packet) (s : State) : ∃ next, execTrigFire p s = .next next := by
  unfold execTrigFire; (try dsimp only); with_reducible repeat' (first | exact ⟨_, rfl⟩ | apply ite_answers | split)
theorem execTrigSrcSkew_answers (p : Packet) (s : State) : ∃ next, execTrigSrcSkew p s = .next next := by
  unfold execTrigSrcSkew; (try dsimp only); with_reducible repeat' (first | exact ⟨_, rfl⟩ | apply ite_answers | split)
theorem execTrigRing_answers (p : Packet) (s : State) : ∃ next, execTrigRing p s = .next next := by
  unfold execTrigRing; (try dsimp only); with_reducible repeat' (first | exact ⟨_, rfl⟩ | apply ite_answers | split)
theorem execTrigCapset_answers (p : Packet) (s : State) : ∃ next, execTrigCapset p s = .next next := by
  unfold execTrigCapset; (try dsimp only); with_reducible repeat' (first | exact ⟨_, rfl⟩ | apply ite_answers | split)
theorem execTrigNet_answers (p : Packet) (s : State) : ∃ next, execTrigNet p s = .next next := by
  unfold execTrigNet; (try dsimp only); with_reducible repeat' (first | exact ⟨_, rfl⟩ | apply ite_answers | split)
theorem execTrigStream_answers (p : Packet) (s : State) : ∃ next, execTrigStream p s = .next next := by
  unfold execTrigStream; (try dsimp only); with_reducible repeat' (first | exact ⟨_, rfl⟩ | apply ite_answers | split)
theorem execTrigStatus_answers (p : Packet) (s : State) : ∃ next, execTrigStatus p s = .next next := by
  unfold execTrigStatus; (try dsimp only); with_reducible repeat' (first | exact ⟨_, rfl⟩ | apply ite_answers | split)
theorem execCalTrimRepair_answers (p : Packet) (s : State) : ∃ next, execCalTrimRepair p s = .next next := by
  unfold execCalTrimRepair; (try dsimp only); with_reducible repeat' (first | exact ⟨_, rfl⟩ | apply ite_answers | split)
theorem execCalUserMeasure_answers (p : Packet) (s : State) : ∃ next, execCalUserMeasure p s = .next next := by
  unfold execCalUserMeasure; (try dsimp only); with_reducible repeat' (first | exact ⟨_, rfl⟩ | apply ite_answers | split)
theorem execCalUserWrite_answers (p : Packet) (s : State) : ∃ next, execCalUserWrite p s = .next next := by
  unfold execCalUserWrite; (try dsimp only); with_reducible repeat' (first | exact ⟨_, rfl⟩ | apply ite_answers | split)
theorem execCalTim_answers (p : Packet) (s : State) : ∃ next, execCalTim p s = .next next := by
  unfold execCalTim; (try dsimp only); with_reducible repeat' (first | exact ⟨_, rfl⟩ | apply ite_answers | split)
theorem execCalTimPeriod_answers (p : Packet) (s : State) : ∃ next, execCalTimPeriod p s = .next next := by
  unfold execCalTimPeriod; (try dsimp only); with_reducible repeat' (first | exact ⟨_, rfl⟩ | apply ite_answers | split)
theorem execCalSliceTrim_answers (p : Packet) (s : State) : ∃ next, execCalSliceTrim p s = .next next := by
  unfold execCalSliceTrim; (try dsimp only); with_reducible repeat' (first | exact ⟨_, rfl⟩ | apply ite_answers | split)
theorem execCalSurvey_answers (p : Packet) (s : State) : ∃ next, execCalSurvey p s = .next next := by
  unfold execCalSurvey; (try dsimp only); with_reducible repeat' (first | exact ⟨_, rfl⟩ | apply ite_answers | split)
theorem execCalSurveyStep_answers (p : Packet) (s : State) : ∃ next, execCalSurveyStep p s = .next next := by
  unfold execCalSurveyStep; (try dsimp only); with_reducible repeat' (first | exact ⟨_, rfl⟩ | apply ite_answers | split)
theorem execCalPageRead_answers (p : Packet) (s : State) : ∃ next, execCalPageRead p s = .next next := by
  unfold execCalPageRead; (try dsimp only); with_reducible repeat' (first | exact ⟨_, rfl⟩ | apply ite_answers | split)
theorem execFeBind_answers (p : Packet) (s : State) : ∃ next, execFeBind p s = .next next := by
  unfold execFeBind; (try dsimp only); with_reducible repeat' (first | exact ⟨_, rfl⟩ | apply ite_answers | split)
theorem execFeUnbind_answers (p : Packet) (s : State) : ∃ next, execFeUnbind p s = .next next := by
  unfold execFeUnbind; (try dsimp only); with_reducible repeat' (first | exact ⟨_, rfl⟩ | apply ite_answers | split)
theorem execFeExcitation_answers (p : Packet) (s : State) : ∃ next, execFeExcitation p s = .next next := by
  unfold execFeExcitation; (try dsimp only); with_reducible repeat' (first | exact ⟨_, rfl⟩ | apply ite_answers | split)
theorem execFeChannel_answers (p : Packet) (s : State) : ∃ next, execFeChannel p s = .next next := by
  unfold execFeChannel; (try dsimp only); with_reducible repeat' (first | exact ⟨_, rfl⟩ | apply ite_answers | split)
theorem execFeSequence_answers (p : Packet) (s : State) : ∃ next, execFeSequence p s = .next next := by
  unfold execFeSequence; (try dsimp only); with_reducible repeat' (first | exact ⟨_, rfl⟩ | apply ite_answers | split)
theorem execFeRoute_answers (p : Packet) (s : State) : ∃ next, execFeRoute p s = .next next := by
  unfold execFeRoute; (try dsimp only); with_reducible repeat' (first | exact ⟨_, rfl⟩ | apply ite_answers | split)
theorem execFeBlank_answers (p : Packet) (s : State) : ∃ next, execFeBlank p s = .next next := by
  unfold execFeBlank; (try dsimp only); with_reducible repeat' (first | exact ⟨_, rfl⟩ | apply ite_answers | split)
theorem execFeLin_answers (p : Packet) (s : State) : ∃ next, execFeLin p s = .next next := by
  unfold execFeLin; (try dsimp only); with_reducible repeat' (first | exact ⟨_, rfl⟩ | apply ite_answers | split)
theorem execFeUrgent_answers (p : Packet) (s : State) : ∃ next, execFeUrgent p s = .next next := by
  unfold execFeUrgent; (try dsimp only); with_reducible repeat' (first | exact ⟨_, rfl⟩ | apply ite_answers | split)
theorem execFeRef_answers (p : Packet) (s : State) : ∃ next, execFeRef p s = .next next := by
  unfold execFeRef; (try dsimp only); with_reducible repeat' (first | exact ⟨_, rfl⟩ | apply ite_answers | split)
theorem execFeStatus_answers (p : Packet) (s : State) : ∃ next, execFeStatus p s = .next next := by
  unfold execFeStatus; (try dsimp only); with_reducible repeat' (first | exact ⟨_, rfl⟩ | apply ite_answers | split)
theorem execLaneSheet_answers (p : Packet) (s : State) : ∃ next, execLaneSheet p s = .next next := by
  unfold execLaneSheet; (try dsimp only); with_reducible repeat' (first | exact ⟨_, rfl⟩ | apply ite_answers | split)
theorem execLaneTune_answers (p : Packet) (s : State) : ∃ next, execLaneTune p s = .next next := by
  unfold execLaneTune; (try dsimp only); with_reducible repeat' (first | exact ⟨_, rfl⟩ | apply ite_answers | split)
theorem execLaneSubst_answers (p : Packet) (s : State) : ∃ next, execLaneSubst p s = .next next := by
  unfold execLaneSubst; (try dsimp only); with_reducible repeat' (first | exact ⟨_, rfl⟩ | apply ite_answers | split)
theorem execLaneNarrow_answers (p : Packet) (s : State) : ∃ next, execLaneNarrow p s = .next next := by
  unfold execLaneNarrow; (try dsimp only); with_reducible repeat' (first | exact ⟨_, rfl⟩ | apply ite_answers | split)
theorem execLanePrbs_answers (p : Packet) (s : State) : ∃ next, execLanePrbs p s = .next next := by
  unfold execLanePrbs; (try dsimp only); with_reducible repeat' (first | exact ⟨_, rfl⟩ | apply ite_answers | split)
theorem execLaneStatus_answers (p : Packet) (s : State) : ∃ next, execLaneStatus p s = .next next := by
  unfold execLaneStatus; (try dsimp only); with_reducible repeat' (first | exact ⟨_, rfl⟩ | apply ite_answers | split)
theorem execLinkConfig_answers (p : Packet) (s : State) : ∃ next, execLinkConfig p s = .next next := by
  unfold execLinkConfig; (try dsimp only); with_reducible repeat' (first | exact ⟨_, rfl⟩ | apply ite_answers | split)
theorem execLinkRxmap_answers (p : Packet) (s : State) : ∃ next, execLinkRxmap p s = .next next := by
  unfold execLinkRxmap; (try dsimp only); with_reducible repeat' (first | exact ⟨_, rfl⟩ | apply ite_answers | split)
theorem execLinkStatus_answers (p : Packet) (s : State) : ∃ next, execLinkStatus p s = .next next := by
  unfold execLinkStatus; (try dsimp only); with_reducible repeat' (first | exact ⟨_, rfl⟩ | apply ite_answers | split)
theorem execRouteMac_answers (p : Packet) (s : State) : ∃ next, execRouteMac p s = .next next := by
  unfold execRouteMac; (try dsimp only); with_reducible repeat' (first | exact ⟨_, rfl⟩ | apply ite_answers | split)
theorem execRoutePair_answers (p : Packet) (s : State) : ∃ next, execRoutePair p s = .next next := by
  unfold execRoutePair; (try dsimp only); with_reducible repeat' (first | exact ⟨_, rfl⟩ | apply ite_answers | split)
theorem execRouteSide_answers (p : Packet) (s : State) : ∃ next, execRouteSide p s = .next next := by
  unfold execRouteSide; (try dsimp only); with_reducible repeat' (first | exact ⟨_, rfl⟩ | apply ite_answers | split)
theorem execRoutePolicy_answers (p : Packet) (s : State) : ∃ next, execRoutePolicy p s = .next next := by
  unfold execRoutePolicy; (try dsimp only); with_reducible repeat' (first | exact ⟨_, rfl⟩ | apply ite_answers | split)
theorem execRouteHeartbeat_answers (p : Packet) (s : State) : ∃ next, execRouteHeartbeat p s = .next next := by
  unfold execRouteHeartbeat; (try dsimp only); with_reducible repeat' (first | exact ⟨_, rfl⟩ | apply ite_answers | split)
theorem execRouteStream_answers (p : Packet) (s : State) : ∃ next, execRouteStream p s = .next next := by
  unfold execRouteStream; (try dsimp only); with_reducible repeat' (first | exact ⟨_, rfl⟩ | apply ite_answers | split)
theorem execRouteAddress_answers (p : Packet) (s : State) : ∃ next, execRouteAddress p s = .next next := by
  unfold execRouteAddress; (try dsimp only); with_reducible repeat' (first | exact ⟨_, rfl⟩ | apply ite_answers | split)
theorem execRoutePort_answers (p : Packet) (s : State) : ∃ next, execRoutePort p s = .next next := by
  unfold execRoutePort; (try dsimp only); with_reducible repeat' (first | exact ⟨_, rfl⟩ | apply ite_answers | split)
theorem execRouteStatus_answers (p : Packet) (s : State) : ∃ next, execRouteStatus p s = .next next := by
  unfold execRouteStatus; (try dsimp only); with_reducible repeat' (first | exact ⟨_, rfl⟩ | apply ite_answers | split)
theorem execGazRoot_answers (p : Packet) (s : State) : ∃ next, execGazRoot p s = .next next := by
  unfold execGazRoot; (try dsimp only); with_reducible repeat' (first | exact ⟨_, rfl⟩ | apply ite_answers | split)
theorem execGazRegister_answers (p : Packet) (s : State) : ∃ next, execGazRegister p s = .next next := by
  unfold execGazRegister; (try dsimp only); with_reducible repeat' (first | exact ⟨_, rfl⟩ | apply ite_answers | split)
theorem execGazRemove_answers (p : Packet) (s : State) : ∃ next, execGazRemove p s = .next next := by
  unfold execGazRemove; (try dsimp only); with_reducible repeat' (first | exact ⟨_, rfl⟩ | apply ite_answers | split)
theorem execGazRead_answers (p : Packet) (s : State) : ∃ next, execGazRead p s = .next next := by
  unfold execGazRead; (try dsimp only); with_reducible repeat' (first | exact ⟨_, rfl⟩ | apply ite_answers | split)
theorem execGazDistrict_answers (p : Packet) (s : State) : ∃ next, execGazDistrict p s = .next next := by
  unfold execGazDistrict; (try dsimp only); with_reducible repeat' (first | exact ⟨_, rfl⟩ | apply ite_answers | split)
theorem execGazSend_answers (p : Packet) (s : State) : ∃ next, execGazSend p s = .next next := by
  unfold execGazSend; (try dsimp only); with_reducible repeat' (first | exact ⟨_, rfl⟩ | apply ite_answers | split)
theorem execGazCounts_answers (p : Packet) (s : State) : ∃ next, execGazCounts p s = .next next := by
  unfold execGazCounts; (try dsimp only); with_reducible repeat' (first | exact ⟨_, rfl⟩ | apply ite_answers | split)
theorem execGazDigest_answers (p : Packet) (s : State) : ∃ next, execGazDigest p s = .next next := by
  unfold execGazDigest; (try dsimp only); with_reducible repeat' (first | exact ⟨_, rfl⟩ | apply ite_answers | split)
theorem execLogHead_answers (p : Packet) (s : State) : ∃ next, execLogHead p s = .next next := by
  unfold execLogHead; (try dsimp only); with_reducible repeat' (first | exact ⟨_, rfl⟩ | apply ite_answers | split)
theorem execLogRead_answers (p : Packet) (s : State) : ∃ next, execLogRead p s = .next next := by
  unfold execLogRead; (try dsimp only); with_reducible repeat' (first | exact ⟨_, rfl⟩ | apply ite_answers | split)
theorem execLogChallenge_answers (p : Packet) (s : State) : ∃ next, execLogChallenge p s = .next next := by
  unfold execLogChallenge; (try dsimp only); with_reducible repeat' (first | exact ⟨_, rfl⟩ | apply ite_answers | split)
theorem execLogClear_answers (p : Packet) (s : State) : ∃ next, execLogClear p s = .next next := by
  unfold execLogClear; (try dsimp only); with_reducible repeat' (first | exact ⟨_, rfl⟩ | apply ite_answers | split)
theorem execLogKey_answers (p : Packet) (s : State) : ∃ next, execLogKey p s = .next next := by
  unfold execLogKey; (try dsimp only); with_reducible repeat' (first | exact ⟨_, rfl⟩ | apply ite_answers | split)
theorem execLogRepeat_answers (p : Packet) (s : State) : ∃ next, execLogRepeat p s = .next next := by
  unfold execLogRepeat; (try dsimp only); with_reducible repeat' (first | exact ⟨_, rfl⟩ | apply ite_answers | split)
theorem execPowerDown_answers (p : Packet) (s : State) : ∃ next, execPowerDown p s = .next next := by
  unfold execPowerDown; (try dsimp only); with_reducible repeat' (first | exact ⟨_, rfl⟩ | apply ite_answers | split)
theorem execPowerUp_answers (p : Packet) (s : State) : ∃ next, execPowerUp p s = .next next := by
  unfold execPowerUp; (try dsimp only); with_reducible repeat' (first | exact ⟨_, rfl⟩ | apply ite_answers | split)
theorem execPowerHold_answers (p : Packet) (s : State) : ∃ next, execPowerHold p s = .next next := by
  unfold execPowerHold; (try dsimp only); with_reducible repeat' (first | exact ⟨_, rfl⟩ | apply ite_answers | split)
theorem execPowerStatus_answers (p : Packet) (s : State) : ∃ next, execPowerStatus p s = .next next := by
  unfold execPowerStatus; (try dsimp only); with_reducible repeat' (first | exact ⟨_, rfl⟩ | apply ite_answers | split)
theorem execSparePolicy_answers (p : Packet) (s : State) : ∃ next, execSparePolicy p s = .next next := by
  unfold execSparePolicy; (try dsimp only); with_reducible repeat' (first | exact ⟨_, rfl⟩ | apply ite_answers | split)
theorem execSpareSlice_answers (p : Packet) (s : State) : ∃ next, execSpareSlice p s = .next next := by
  unfold execSpareSlice; (try dsimp only); with_reducible repeat' (first | exact ⟨_, rfl⟩ | apply ite_answers | split)
theorem execSpareEngine_answers (p : Packet) (s : State) : ∃ next, execSpareEngine p s = .next next := by
  unfold execSpareEngine; (try dsimp only); with_reducible repeat' (first | exact ⟨_, rfl⟩ | apply ite_answers | split)
theorem execSpareSlot_answers (p : Packet) (s : State) : ∃ next, execSpareSlot p s = .next next := by
  unfold execSpareSlot; (try dsimp only); with_reducible repeat' (first | exact ⟨_, rfl⟩ | apply ite_answers | split)
theorem execSpareTdc_answers (p : Packet) (s : State) : ∃ next, execSpareTdc p s = .next next := by
  unfold execSpareTdc; (try dsimp only); with_reducible repeat' (first | exact ⟨_, rfl⟩ | apply ite_answers | split)
theorem execSparePcv_answers (p : Packet) (s : State) : ∃ next, execSparePcv p s = .next next := by
  unfold execSparePcv; (try dsimp only); with_reducible repeat' (first | exact ⟨_, rfl⟩ | apply ite_answers | split)
theorem execSpareBmac_answers (p : Packet) (s : State) : ∃ next, execSpareBmac p s = .next next := by
  unfold execSpareBmac; (try dsimp only); with_reducible repeat' (first | exact ⟨_, rfl⟩ | apply ite_answers | split)
theorem execSpareCore_answers (p : Packet) (s : State) : ∃ next, execSpareCore p s = .next next := by
  unfold execSpareCore; (try dsimp only); with_reducible repeat' (first | exact ⟨_, rfl⟩ | apply ite_answers | split)
theorem execSparePlot_answers (p : Packet) (s : State) : ∃ next, execSparePlot p s = .next next := by
  unfold execSparePlot; (try dsimp only); with_reducible repeat' (first | exact ⟨_, rfl⟩ | apply ite_answers | split)
theorem execSpareMram_answers (p : Packet) (s : State) : ∃ next, execSpareMram p s = .next next := by
  unfold execSpareMram; (try dsimp only); with_reducible repeat' (first | exact ⟨_, rfl⟩ | apply ite_answers | split)
theorem execSpareInventory_answers (p : Packet) (s : State) : ∃ next, execSpareInventory p s = .next next := by
  unfold execSpareInventory; (try dsimp only); with_reducible repeat' (first | exact ⟨_, rfl⟩ | apply ite_answers | split)
theorem execDiagEcho_answers (p : Packet) (s : State) : ∃ next, execDiagEcho p s = .next next := by
  unfold execDiagEcho; (try dsimp only); with_reducible repeat' (first | exact ⟨_, rfl⟩ | apply ite_answers | split)
theorem execDiagSelftest_answers (p : Packet) (s : State) : ∃ next, execDiagSelftest p s = .next next := by
  unfold execDiagSelftest; (try dsimp only); with_reducible repeat' (first | exact ⟨_, rfl⟩ | apply ite_answers | split)
theorem execDiagBeamSat_answers (p : Packet) (s : State) : ∃ next, execDiagBeamSat p s = .next next := by
  unfold execDiagBeamSat; (try dsimp only); with_reducible repeat' (first | exact ⟨_, rfl⟩ | apply ite_answers | split)
theorem execDiagTemps_answers (p : Packet) (s : State) : ∃ next, execDiagTemps p s = .next next := by
  unfold execDiagTemps; (try dsimp only); with_reducible repeat' (first | exact ⟨_, rfl⟩ | apply ite_answers | split)
theorem execBrgCtlReset_answers (b : Nat) (w : Wr) (s : State) : ∃ next, execBrgCtlReset b w s = .next next := by
  unfold execBrgCtlReset; (try dsimp only); with_reducible repeat' (first | exact ⟨_, rfl⟩ | apply ite_answers | split)
theorem execBoroughResetDone_answers (b : Nat) (s : State) : ∃ next, execBoroughResetDone b s = .next next := by
  unfold execBoroughResetDone; (try dsimp only); with_reducible repeat' (first | exact ⟨_, rfl⟩ | apply ite_answers | split)
theorem execDeliveryDoorbell_answers (i : Nat) (w : Wr) (s : State) : ∃ next, execDeliveryDoorbell i w s = .next next := by
  unfold execDeliveryDoorbell; (try dsimp only); with_reducible repeat' (first | exact ⟨_, rfl⟩ | apply ite_answers | split)
theorem execCmdRateWindow_answers (s : State) : ∃ next, execCmdRateWindow s = .next next := by
  unfold execCmdRateWindow; (try dsimp only); with_reducible repeat' (first | exact ⟨_, rfl⟩ | apply ite_answers | split)
theorem execDbEvtSrc_answers (w : Wr) (s : State) : ∃ next, execDbEvtSrc w s = .next next := by
  unfold execDbEvtSrc; (try dsimp only); with_reducible repeat' (first | exact ⟨_, rfl⟩ | apply ite_answers | split)
theorem execDbEvtAll_answers (w : Wr) (s : State) : ∃ next, execDbEvtAll w s = .next next := by
  unfold execDbEvtAll; (try dsimp only); with_reducible repeat' (first | exact ⟨_, rfl⟩ | apply ite_answers | split)
theorem execGazCopyTx_answers (d : Nat) (s : State) : ∃ next, execGazCopyTx d s = .next next := by
  unfold execGazCopyTx; (try dsimp only); with_reducible repeat' (first | exact ⟨_, rfl⟩ | apply ite_answers | split)
theorem execGazRetry_answers (d : Nat) (e : Nat) (s : State) : ∃ next, execGazRetry d e s = .next next := by
  unfold execGazRetry; (try dsimp only); with_reducible repeat' (first | exact ⟨_, rfl⟩ | apply ite_answers | split)
theorem execGazOutcomeRx_answers (e : Nat) (env : List Byte) (s : State) : ∃ next, execGazOutcomeRx e env s = .next next := by
  unfold execGazOutcomeRx; (try dsimp only); with_reducible repeat' (first | exact ⟨_, rfl⟩ | apply ite_answers | split)
theorem execGazCollectEnd_answers (d : Nat) (s : State) : ∃ next, execGazCollectEnd d s = .next next := by
  unfold execGazCollectEnd; (try dsimp only); with_reducible repeat' (first | exact ⟨_, rfl⟩ | apply ite_answers | split)
theorem execFaultReportRx_answers (payload : List Byte) (s : State) : ∃ next, execFaultReportRx payload s = .next next := by
  unfold execFaultReportRx; (try dsimp only); with_reducible repeat' (first | exact ⟨_, rfl⟩ | apply ite_answers | split)
theorem execDigestClose_answers (subject : Nat) (cls : Nat) (s : State) : ∃ next, execDigestClose subject cls s = .next next := by
  unfold execDigestClose; (try dsimp only); with_reducible repeat' (first | exact ⟨_, rfl⟩ | apply ite_answers | split)
theorem execEvtWindowEnd_answers (s : State) : ∃ next, execEvtWindowEnd s = .next next := by
  unfold execEvtWindowEnd; (try dsimp only); with_reducible repeat' (first | exact ⟨_, rfl⟩ | apply ite_answers | split)
theorem execEvtPendWrite_answers (k : Nat) (w : Wr) (s : State) : ∃ next, execEvtPendWrite k w s = .next next := by
  unfold execEvtPendWrite; (try dsimp only); with_reducible repeat' (first | exact ⟨_, rfl⟩ | apply ite_answers | split)
theorem execLogWrite_answers (fails : Nat) (s : State) : ∃ next, execLogWrite fails s = .next next := by
  unfold execLogWrite; (try dsimp only); with_reducible repeat' (first | exact ⟨_, rfl⟩ | apply ite_answers | split)
theorem execLogScan_answers (s : State) : ∃ next, execLogScan s = .next next := by
  unfold execLogScan; (try dsimp only); with_reducible repeat' (first | exact ⟨_, rfl⟩ | apply ite_answers | split)
theorem execPwrDown_answers (d : Nat) (w : Wr) (s : State) : ∃ next, execPwrDown d w s = .next next := by
  unfold execPwrDown; (try dsimp only); with_reducible repeat' (first | exact ⟨_, rfl⟩ | apply ite_answers | split)
theorem execPwrUp_answers (d : Nat) (w : Wr) (s : State) : ∃ next, execPwrUp d w s = .next next := by
  unfold execPwrUp; (try dsimp only); with_reducible repeat' (first | exact ⟨_, rfl⟩ | apply ite_answers | split)
theorem execDrainComplete_answers (d : Nat) (s : State) : ∃ next, execDrainComplete d s = .next next := by
  unfold execDrainComplete; (try dsimp only); with_reducible repeat' (first | exact ⟨_, rfl⟩ | apply ite_answers | split)
theorem execDrainTimeout_answers (d : Nat) (s : State) : ∃ next, execDrainTimeout d s = .next next := by
  unfold execDrainTimeout; (try dsimp only); with_reducible repeat' (first | exact ⟨_, rfl⟩ | apply ite_answers | split)
theorem execWakeComplete_answers (d : Nat) (s : State) : ∃ next, execWakeComplete d s = .next next := by
  unfold execWakeComplete; (try dsimp only); with_reducible repeat' (first | exact ⟨_, rfl⟩ | apply ite_answers | split)
theorem execWakeTimeout_answers (d : Nat) (s : State) : ∃ next, execWakeTimeout d s = .next next := by
  unfold execWakeTimeout; (try dsimp only); with_reducible repeat' (first | exact ⟨_, rfl⟩ | apply ite_answers | split)
theorem execEngFail_answers (p : Nat) (corrected : Bool) (s : State) : ∃ next, execEngFail p corrected s = .next next := by
  unfold execEngFail; (try dsimp only); with_reducible repeat' (first | exact ⟨_, rfl⟩ | apply ite_answers | split)
theorem execSlotFail_answers (n : Nat) (s : State) : ∃ next, execSlotFail n s = .next next := by
  unfold execSlotFail; (try dsimp only); with_reducible repeat' (first | exact ⟨_, rfl⟩ | apply ite_answers | split)
theorem execCoreFail_answers (k : Nat) (dog : Bool) (run : Option Nat) (s : State) : ∃ next, execCoreFail k dog run s = .next next := by
  unfold execCoreFail; (try dsimp only); with_reducible repeat' (first | exact ⟨_, rfl⟩ | apply ite_answers | split)
theorem execPorAssert_answers (torn : Bool) (s : State) : ∃ next, execPorAssert torn s = .next next := by
  unfold execPorAssert; (try dsimp only); with_reducible repeat' (first | exact ⟨_, rfl⟩ | apply ite_answers | split)
theorem execAonMonitorReset_answers (torn : Bool) (s : State) : ∃ next, execAonMonitorReset torn s = .next next := by
  unfold execAonMonitorReset; (try dsimp only); with_reducible repeat' (first | exact ⟨_, rfl⟩ | apply ite_answers | split)
theorem execSupplyFault_answers (s : State) : ∃ next, execSupplyFault s = .next next := by
  unfold execSupplyFault; (try dsimp only); with_reducible repeat' (first | exact ⟨_, rfl⟩ | apply ite_answers | split)
theorem execPorRelease_answers (s : State) : ∃ next, execPorRelease s = .next next := by
  unfold execPorRelease; (try dsimp only); with_reducible repeat' (first | exact ⟨_, rfl⟩ | apply ite_answers | split)
theorem execXoFail_answers (s : State) : ∃ next, execXoFail s = .next next := by
  unfold execXoFail; (try dsimp only); with_reducible repeat' (first | exact ⟨_, rfl⟩ | apply ite_answers | split)
theorem execStackTrainingDone_answers (failed : Nat) (s : State) : ∃ next, execStackTrainingDone failed s = .next next := by
  unfold execStackTrainingDone; (try dsimp only); with_reducible repeat' (first | exact ⟨_, rfl⟩ | apply ite_answers | split)
theorem execStartDone_answers (cd : Nat) (ld : Nat) (s : State) : ∃ next, execStartDone cd ld s = .next next := by
  unfold execStartDone; (try dsimp only); with_reducible repeat' (first | exact ⟨_, rfl⟩ | apply ite_answers | split)
theorem execWarmNRequest_answers (s : State) : ∃ next, execWarmNRequest s = .next next := by
  unfold execWarmNRequest; (try dsimp only); with_reducible repeat' (first | exact ⟨_, rfl⟩ | apply ite_answers | split)
theorem execWarmRegRequest_answers (w : Wr) (s : State) : ∃ next, execWarmRegRequest w s = .next next := by
  unfold execWarmRegRequest; (try dsimp only); with_reducible repeat' (first | exact ⟨_, rfl⟩ | apply ite_answers | split)
theorem execFwRestartRequest_answers (w : Wr) (s : State) : ∃ next, execFwRestartRequest w s = .next next := by
  unfold execFwRestartRequest; (try dsimp only); with_reducible repeat' (first | exact ⟨_, rfl⟩ | apply ite_answers | split)
theorem execWarmResetDone_answers (s : State) : ∃ next, execWarmResetDone s = .next next := by
  unfold execWarmResetDone; (try dsimp only); with_reducible repeat' (first | exact ⟨_, rfl⟩ | apply ite_answers | split)
theorem execFwRunning_answers (s : State) : ∃ next, execFwRunning s = .next next := by
  unfold execFwRunning; (try dsimp only); with_reducible repeat' (first | exact ⟨_, rfl⟩ | apply ite_answers | split)
theorem execFwWatchdog_answers (s : State) : ∃ next, execFwWatchdog s = .next next := by
  unfold execFwWatchdog; (try dsimp only); with_reducible repeat' (first | exact ⟨_, rfl⟩ | apply ite_answers | split)
theorem execFwStarted_answers (s : State) : ∃ next, execFwStarted s = .next next := by
  unfold execFwStarted; (try dsimp only); with_reducible repeat' (first | exact ⟨_, rfl⟩ | apply ite_answers | split)
theorem execImageVerify_answers (w : Wr) (s : State) : ∃ next, execImageVerify w s = .next next := by
  unfold execImageVerify; (try dsimp only); with_reducible repeat' (first | exact ⟨_, rfl⟩ | apply ite_answers | split)
theorem execMgbXferGo_answers (w : Wr) (s : State) : ∃ next, execMgbXferGo w s = .next next := by
  unfold execMgbXferGo; (try dsimp only); with_reducible repeat' (first | exact ⟨_, rfl⟩ | apply ite_answers | split)
theorem execMgbXferDone_answers (code : Nat) (nbytes : Nat) (data : List Byte) (s : State) : ∃ next, execMgbXferDone code nbytes data s = .next next := by
  unfold execMgbXferDone; (try dsimp only); with_reducible repeat' (first | exact ⟨_, rfl⟩ | apply ite_answers | split)
theorem execMgbPoll_answers (i : Nat) (code : Nat) (val : Nat) (s : State) : ∃ next, execMgbPoll i code val s = .next next := by
  unfold execMgbPoll; (try dsimp only); with_reducible repeat' (first | exact ⟨_, rfl⟩ | apply ite_answers | split)
theorem execAlertNAssert_answers (addr : Option Nat) (s : State) : ∃ next, execAlertNAssert addr s = .next next := by
  unfold execAlertNAssert; (try dsimp only); with_reducible repeat' (first | exact ⟨_, rfl⟩ | apply ite_answers | split)
theorem execAlertRepeat_answers (low : Bool) (addr : Option Nat) (s : State) : ∃ next, execAlertRepeat low addr s = .next next := by
  unfold execAlertRepeat; (try dsimp only); with_reducible repeat' (first | exact ⟨_, rfl⟩ | apply ite_answers | split)
theorem execMgbSigCfgWrite_answers (n : Nat) (w : Wr) (s : State) : ∃ next, execMgbSigCfgWrite n w s = .next next := by
  unfold execMgbSigCfgWrite; (try dsimp only); with_reducible repeat' (first | exact ⟨_, rfl⟩ | apply ite_answers | split)
theorem execMgbEdgePush_answers (w : Wr) (s : State) : ∃ next, execMgbEdgePush w s = .next next := by
  unfold execMgbEdgePush; (try dsimp only); with_reducible repeat' (first | exact ⟨_, rfl⟩ | apply ite_answers | split)
theorem execSigEdgeFire_answers (n : Nat) (s : State) : ∃ next, execSigEdgeFire n s = .next next := by
  unfold execSigEdgeFire; (try dsimp only); with_reducible repeat' (first | exact ⟨_, rfl⟩ | apply ite_answers | split)
theorem execFrameMarkerStart_answers (n : Nat) (s : State) : ∃ next, execFrameMarkerStart n s = .next next := by
  unfold execFrameMarkerStart; (try dsimp only); with_reducible repeat' (first | exact ⟨_, rfl⟩ | apply ite_answers | split)
theorem execFrameMarkerEnd_answers (n : Nat) (s : State) : ∃ next, execFrameMarkerEnd n s = .next next := by
  unfold execFrameMarkerEnd; (try dsimp only); with_reducible repeat' (first | exact ⟨_, rfl⟩ | apply ite_answers | split)
theorem execTapInstruction_answers (ir : Nat) (s : State) : ∃ next, execTapInstruction ir s = .next next := by
  unfold execTapInstruction; (try dsimp only); with_reducible repeat' (first | exact ⟨_, rfl⟩ | apply ite_answers | split)
theorem execTapReset_answers (s : State) : ∃ next, execTapReset s = .next next := by
  unfold execTapReset; (try dsimp only); with_reducible repeat' (first | exact ⟨_, rfl⟩ | apply ite_answers | split)
theorem execRefclkGate_answers (dev : Int) (s : State) : ∃ next, execRefclkGate dev s = .next next := by
  unfold execRefclkGate; (try dsimp only); with_reducible repeat' (first | exact ⟨_, rfl⟩ | apply ite_answers | split)
theorem execRefclkLost_answers (s : State) : ∃ next, execRefclkLost s = .next next := by
  unfold execRefclkLost; (try dsimp only); with_reducible repeat' (first | exact ⟨_, rfl⟩ | apply ite_answers | split)
theorem execRefclkBack_answers (s : State) : ∃ next, execRefclkBack s = .next next := by
  unfold execRefclkBack; (try dsimp only); with_reducible repeat' (first | exact ⟨_, rfl⟩ | apply ite_answers | split)
theorem execPcieRefclkLost_answers (s : State) : ∃ next, execPcieRefclkLost s = .next next := by
  unfold execPcieRefclkLost; (try dsimp only); with_reducible repeat' (first | exact ⟨_, rfl⟩ | apply ite_answers | split)
theorem execClkPllRelock_answers (which : Nat) (s : State) : ∃ next, execClkPllRelock which s = .next next := by
  unfold execClkPllRelock; (try dsimp only); with_reducible repeat' (first | exact ⟨_, rfl⟩ | apply ite_answers | split)
theorem execCurrentLimit_answers (q : Nat) (s : State) : ∃ next, execCurrentLimit q s = .next next := by
  unfold execCurrentLimit; (try dsimp only); with_reducible repeat' (first | exact ⟨_, rfl⟩ | apply ite_answers | split)
theorem execFixedModeEdge_answers (s : State) : ∃ next, execFixedModeEdge s = .next next := by
  unfold execFixedModeEdge; (try dsimp only); with_reducible repeat' (first | exact ⟨_, rfl⟩ | apply ite_answers | split)
theorem execPcsFault_answers (p : Nat) (kind : Nat) (s : State) : ∃ next, execPcsFault p kind s = .next next := by
  unfold execPcsFault; (try dsimp only); with_reducible repeat' (first | exact ⟨_, rfl⟩ | apply ite_answers | split)
theorem execPcsFaultClear_answers (p : Nat) (s : State) : ∃ next, execPcsFaultClear p s = .next next := by
  unfold execPcsFaultClear; (try dsimp only); with_reducible repeat' (first | exact ⟨_, rfl⟩ | apply ite_answers | split)
theorem execBlockTx_answers (sh : Nat) (i : Nat) (s : State) : ∃ next, execBlockTx sh i s = .next next := by
  unfold execBlockTx; (try dsimp only); with_reducible repeat' (first | exact ⟨_, rfl⟩ | apply ite_answers | split)
theorem execBusMasterEnableWrite_answers (fn : Nat) (bme : Bool) (ptm : Bool) (s : State) : ∃ next, execBusMasterEnableWrite fn bme ptm s = .next next := by
  unfold execBusMasterEnableWrite; (try dsimp only); with_reducible repeat' (first | exact ⟨_, rfl⟩ | apply ite_answers | split)
theorem execClkPllUnlock_answers (which : Nat) (s : State) : ∃ next, execClkPllUnlock which s = .next next := by
  unfold execClkPllUnlock; (try dsimp only); with_reducible repeat' (first | exact ⟨_, rfl⟩ | apply ite_answers | split)
theorem execAonMonitorRelease_answers (s : State) : ∃ next, execAonMonitorRelease s = .next next := by
  unfold execAonMonitorRelease; (try dsimp only); with_reducible repeat' (first | exact ⟨_, rfl⟩ | apply ite_answers | split)

end Sys2Proof.Machine
end

