-- ==== Sys2Proof/Laws/Engine.lean ====
section
/-! SUPPORT. What the command engine does with a packet that it admits: each opcode's statement cites this one lemma. -/
namespace Sys2Proof.Machine
theorem announce_engineShut (s : State) (p : Packet) : (s.announce p).engineShut = s.engineShut := by
  unfold State.announce; split
  · split <;> rfl
  · rfl
theorem announce_pathOpen (s : State) (p : Packet) : (s.announce p).pathOpen p = s.pathOpen p := by
  unfold State.announce; split
  · split <;> rfl
  · rfl

theorem takePacket_admitted {s : State} {op : Nat} {act : Bool} (h : Packet → State → CmdOut × State) {p : Packet}
    (a : s.Admits op act p) : (s.announce p).takePacket op act h p = (s.taken p).acceptNew op act h p := by
  obtain ⟨-, -, -, -, form, crc, borough, running, tag, -, -⟩ := a
  have hb : p.borough % 32 ≠ p.pathBorough ↔ False := by simp [borough]
  unfold State.takePacket State.meetTag
  simp only [← State.taken.eq_1, form, crc, tag, hb, running, Bool.not_true, Bool.false_eq_true, if_false]

theorem acceptNew_admitted {s : State} {op : Nat} {act : Bool} {h : Packet → State → CmdOut × State} {p : Packet}
    (a : s.Admits op act p) {o : CmdOut} {t : State} (r : h p (s.begun p) = (o, t)) :
    (s.taken p).acceptNew op act h p = match o with
      | .now st res => s.answered op p st res t
      | .staged g k res => s.opened op p g k res t
      | .later res => s.opened op p 8 0 res t
      | .reset b => (s.answered op p 0 [] t).boroughReset b
      | .restart v => (s.answered op p 0 [] t).rstCtlWrite (pf v) := by
  have hf : (decide (p.flags % 2 = 1) && !act) = false := by
    rcases a.2.2.2.2.2.2.2.2.2.2 with h | h <;> simp [h]
  have hr : runHandler h p (((s.taken p).rateTake (p.borough % 32)).setTag (p.borough % 32) p.tag (.busy (p.gen / 16)))
      = (o, s.restoreHeld t p) := by
    unfold runHandler
    simp only [State.begun] at r
    rw [r]; rfl
  unfold State.acceptNew
  simp only [a.2.2.2.2.2.2.2.2.2.1, hf, Bool.false_eq_true, if_false]
  rw [hr]
  cases o <;> rfl

/-- What a packet that the engine admits does: its command's effect on the state with the tag BUSY, and then its answer. -/
theorem enginePacket_admitted {s : State} {op : Nat} {act : Bool} {h : Packet → State → CmdOut × State} {p : Packet}
    (a : s.Admits op act p) {o : CmdOut} {t : State} (r : h p (s.begun p) = (o, t)) :
    s.enginePacket op act h p = match o with
      | .now st res => s.answered op p st res t
      | .staged g k res => s.opened op p g k res t
      | .later res => s.opened op p 8 0 res t
      | .reset b => (s.answered op p 0 [] t).boroughReset b
      | .restart v => (s.answered op p 0 [] t).rstCtlWrite (pf v) := by
  rw [← acceptNew_admitted a r, ← takePacket_admitted h a]
  unfold State.enginePacket State.engineFeed
  obtain ⟨ready, path, turn, rate, -⟩ := a
  rw [announce_engineShut, announce_pathOpen, ready, path, turn, rate]
  cases p.path <;> rfl
end Sys2Proof.Machine
end

