-- ==== Sys2Proof/Laws/Keep.lean ====
section
/-! SUPPORT. Components that operations keep: the relation, and how it passes through branches, folds and record updates. -/
set_option maxRecDepth 10000
namespace Sys2Proof.Machine

theorem sub_mask {m a b : Nat} (hm : m &&& a = a) (hb : a &&& b = b) : m &&& b = b := by
  rw [← hb, ← Nat.and_assoc, hm]
theorem no_bit {m a i : Nat} {p : Prop} (hm : m &&& a = a) (hi : a.testBit i = true) (e : m.testBit i = false) : p := by
  have := congrArg (fun x => x.testBit i) hm
  simp [Nat.testBit_and, hi, e] at this
theorem Keeps.refl (m : Nat) (s : State) : Keeps m s s := by constructor <;> intro _ <;> rfl
/-- An outcome keeps those fields if its next state does. -/
def OutKeeps (m : Nat) (s : State) (o : Host.Outcome State Fault Refusal) : Prop := ∀ t, o = .next t → Keeps m s t

theorem outKeep_next {m : Nat} {s t : State} (h : Keeps m s t) : OutKeeps m s (.next t) := by
  intro u e; injection e with e; exact e ▸ h
/-- An optional state keeps those fields if there is one. -/
def OptKeeps (m : Nat) (s : State) (o : Option State) : Prop := ∀ t, o = some t → Keeps m s t
/-- The same of a state beside a value. -/
def OptKeeps2 {α : Type} (m : Nat) (s : State) (o : Option (α × State)) : Prop := ∀ t, o = some t → Keeps m s t.2
theorem optKeep_none {m : Nat} {s : State} : OptKeeps m s none := by intro t e; cases e
theorem optKeep_some {m : Nat} {s t : State} (h : Keeps m s t) : OptKeeps m s (some t) := by intro u e; injection e with e; exact e ▸ h
theorem optKeep2_none {m : Nat} {α : Type} {s : State} : OptKeeps2 (α := α) m s none := by intro t e; cases e
theorem optKeep2_some {m : Nat} {α : Type} {s t : State} {a : α} (h : Keeps m s t) : OptKeeps2 m s (some (a, t)) := by intro u e; injection e with e; exact e ▸ h
theorem optKeep_get {m : Nat} {s t : State} {o : Option State} (e : o = some t) (h : OptKeeps m s o) : Keeps m s t := h t e
theorem optKeep2_get {m : Nat} {α : Type} {s t : State} {a : α} {o : Option (α × State)} (e : o = some (a, t)) (h : OptKeeps2 m s o) : Keeps m s t := h _ e
theorem optKeep_getD {m : Nat} {s d : State} {o : Option State} (h : OptKeeps m s o) (k : Keeps m s d) : Keeps m s (o.getD d) := by
  cases o with
  | none => exact k
  | some t => exact h t rfl
theorem optKeep_map {m : Nat} {α : Type} {s : State} {o : Option α} {F : α → State} (h : ∀ x, Keeps m s (F x)) : OptKeeps m s (o.map F) := by
  intro t e
  cases o with
  | none => cases e
  | some x => injection e with e; exact e ▸ h x
theorem ite_keep {m : Nat} {s x y : State} {c : Prop} [Decidable c] (a : Keeps m s x) (b : Keeps m s y) : Keeps m s (if c then x else y) := by
  split <;> assumption
theorem ite_keep2 {m : Nat} {α : Type} {s : State} {x y : α × State} {c : Prop} [Decidable c] (a : Keeps m s x.2) (b : Keeps m s y.2) :
    Keeps m s (if c then x else y).2 := by
  split <;> assumption
theorem ite_keep1 {m : Nat} {α : Type} {s : State} {x y : State × α} {c : Prop} [Decidable c] (a : Keeps m s x.1) (b : Keeps m s y.1) :
    Keeps m s (if c then x else y).1 := by
  split <;> assumption
theorem ite_outKeep {m : Nat} {s : State} {x y : Host.Outcome State Fault Refusal} {c : Prop} [Decidable c] (a : OutKeeps m s x) (b : OutKeeps m s y) :
    OutKeeps m s (if c then x else y) := by
  split <;> assumption
theorem ite_optKeep {m : Nat} {s : State} {x y : Option State} {c : Prop} [Decidable c] (a : OptKeeps m s x) (b : OptKeeps m s y) :
    OptKeeps m s (if c then x else y) := by
  split <;> assumption
theorem pairKeep2 {m : Nat} {α : Type} {s t : State} {a : α} {p : α × State} (e : p = (a, t)) (h : Keeps m s p.2) : Keeps m s t := by rw [e] at h; exact h
theorem pairKeep1 {m : Nat} {α : Type} {s t : State} {a : α} {p : State × α} (e : p = (t, a)) (h : Keeps m s p.1) : Keeps m s t := by rw [e] at h; exact h
theorem foldl_keep {m : Nat} {α : Type} {s i : State} {F : State → α → State} {l : List α} (hi : Keeps m s i) (hf : ∀ u x, Keeps m s u → Keeps m s (F u x)) :
    Keeps m s (l.foldl F i) := by
  induction l generalizing i with
  | nil => exact hi
  | cons a l ih => exact ih (hf i a hi)
theorem foldl_keep2 {m : Nat} {α β : Type} {s : State} {i : β × State} {F : β × State → α → β × State} {l : List α} (hi : Keeps m s i.2)
    (hf : ∀ u x, Keeps m s u.2 → Keeps m s (F u x).2) : Keeps m s (l.foldl F i).2 := by
  induction l generalizing i with
  | nil => exact hi
  | cons a l ih => exact ih (hf i a hi)
theorem foldl_keep1 {m : Nat} {α β : Type} {s : State} {i : State × β} {F : State × β → α → State × β} {l : List α} (hi : Keeps m s i.1)
    (hf : ∀ u x, Keeps m s u.1 → Keeps m s (F u x).1) : Keeps m s (l.foldl F i).1 := by
  induction l generalizing i with
  | nil => exact hi
  | cons a l ih => exact ih (hf i a hi)
theorem keep_aper {m : Nat} {s u : State} (h : Keeps m s u) (hm : m &&& 4 = 4) (x0 : SMap Word) :
    Keeps m s { u with aper := x0 } := { h with aper := no_bit hm rfl }
theorem keep_arbs {m : Nat} {s u : State} (h : Keeps m s u) (hm : m &&& 1208925819614629174706176 = 1208925819614629174706176) (x0 : SMap ArbLane) :
    Keeps m s { u with arbs := x0 } := { h with arbs := no_bit hm rfl }
theorem keep_beams {m : Nat} {s u : State} (h : Keeps m s u) (hm : m &&& 1099511627776 = 1099511627776) (x0 : SMap Beam) :
    Keeps m s { u with beams := x0 } := { h with beams := no_bit hm rfl }
theorem keep_blanks {m : Nat} {s u : State} (h : Keeps m s u) (hm : m &&& 8796093022208 = 8796093022208) (x0 : SMap (List Span)) :
    Keeps m s { u with blanks := x0 } := { h with blanks := no_bit hm rfl }
theorem keep_bmacShed {m : Nat} {s u : State} (h : Keeps m s u) (hm : m &&& 10141204801825835211973625643008 = 10141204801825835211973625643008) (x0 : Option (Nat × Bool)) :
    Keeps m s { u with bmacShed := x0 } := { h with bmacShed := no_bit hm rfl }
theorem keep_bmacSwaps {m : Nat} {s u : State} (h : Keeps m s u) (hm : m &&& 2251799813685248 = 2251799813685248) (x0 : List BmacSwap) :
    Keeps m s { u with bmacSwaps := x0 } := { h with bmacSwaps := no_bit hm rfl }
theorem keep_calMeas {m : Nat} {s u : State} (h : Keeps m s u) (hm : m &&& 576460752303423488 = 576460752303423488) (x0 : List CalMeas) :
    Keeps m s { u with calMeas := x0 } := { h with calMeas := no_bit hm rfl }
theorem keep_captures_items {m : Nat} {s u : State} (h : Keeps m s u) (hm : m &&& 35184405643264 = 35184405643264) (x0 : List Capture) (x1 : List ReadyItem) :
    Keeps m s { u with captures := x0, items := x1 } := { h with captures := no_bit hm rfl, items := no_bit hm rfl }
theorem keep_captures_ring {m : Nat} {s u : State} (h : Keeps m s u) (hm : m &&& 147573952589709967360 = 147573952589709967360) (x0 : List Capture) (x1 : Ring) :
    Keeps m s { u with captures := x0, ring := x1 } := { h with captures := no_bit hm rfl, ring := no_bit hm rfl }
theorem keep_captures_ring_capSeq {m : Nat} {s u : State} (h : Keeps m s u) (hm : m &&& 37926505815546871676928 = 37926505815546871676928) (x0 : List Capture) (x1 : Ring) (x2 : Nat) :
    Keeps m s { u with captures := x0, ring := x1, capSeq := x2 } := { h with captures := no_bit hm rfl, ring := no_bit hm rfl, capSeq := no_bit hm rfl }
theorem keep_cgLost {m : Nat} {s u : State} (h : Keeps m s u) (hm : m &&& 2147483648 = 2147483648) (x0 : List Nat) :
    Keeps m s { u with cgLost := x0 } := { h with cgLost := no_bit hm rfl }
theorem keep_cmds {m : Nat} {s u : State} (h : Keeps m s u) (hm : m &&& 1048576 = 1048576) (x0 : List OpenCmd) :
    Keeps m s { u with cmds := x0 } := { h with cmds := no_bit hm rfl }
theorem keep_copies {m : Nat} {s u : State} (h : Keeps m s u) (hm : m &&& 36893488147419103232 = 36893488147419103232) (x0 : List PlotCopy) :
    Keeps m s { u with copies := x0 } := { h with copies := no_bit hm rfl }
theorem keep_coreDog {m : Nat} {s u : State} (h : Keeps m s u) (hm : m &&& 39614081257132168796771975168 = 39614081257132168796771975168) (x0 : SMap (Option Int)) :
    Keeps m s { u with coreDog := x0 } := { h with coreDog := no_bit hm rfl }
theorem keep_crings {m : Nat} {s u : State} (h : Keeps m s u) (hm : m &&& 262144 = 262144) (x0 : SMap CRing) :
    Keeps m s { u with crings := x0 } := { h with crings := no_bit hm rfl }
theorem keep_delivers {m : Nat} {s u : State} (h : Keeps m s u) (hm : m &&& 154742504910672534362390528 = 154742504910672534362390528) (x0 : SMap Delivery) :
    Keeps m s { u with delivers := x0 } := { h with delivers := no_bit hm rfl }
theorem keep_digests_gazBook {m : Nat} {s u : State} (h : Keeps m s u) (hm : m &&& 7427640235712281649394745344 = 7427640235712281649394745344) (x0 : List Digest) (x1 : GazBook) :
    Keeps m s { u with digests := x0, gazBook := x1 } := { h with digests := no_bit hm rfl, gazBook := no_bit hm rfl }
theorem keep_drawn {m : Nat} {s u : State} (h : Keeps m s u) (hm : m &&& 633825300114114700748351602688 = 633825300114114700748351602688) (x0 : Nat) :
    Keeps m s { u with drawn := x0 } := { h with drawn := no_bit hm rfl }
theorem keep_dxNext {m : Nat} {s u : State} (h : Keeps m s u) (hm : m &&& 590295810358705651712 = 590295810358705651712) (x0 : Nat) :
    Keeps m s { u with dxNext := x0 } := { h with dxNext := no_bit hm rfl }
theorem keep_edges {m : Nat} {s u : State} (h : Keeps m s u) (hm : m &&& 268435456 = 268435456) (x0 : SMap EdgeIn) :
    Keeps m s { u with edges := x0 } := { h with edges := no_bit hm rfl }
theorem keep_engErrs {m : Nat} {s u : State} (h : Keeps m s u) (hm : m &&& 19807040628566084398385987584 = 19807040628566084398385987584) (x0 : SMap EngErr) :
    Keeps m s { u with engErrs := x0 } := { h with engErrs := no_bit hm rfl }
theorem keep_engSwaps {m : Nat} {s u : State} (h : Keeps m s u) (hm : m &&& 9903520314283042199192993792 = 9903520314283042199192993792) (x0 : List EngSwap) :
    Keeps m s { u with engSwaps := x0 } := { h with engSwaps := no_bit hm rfl }
theorem keep_envs {m : Nat} {s u : State} (h : Keeps m s u) (hm : m &&& 32768 = 32768) (x0 : SMap EnvCtr) :
    Keeps m s { u with envs := x0 } := { h with envs := no_bit hm rfl }
theorem keep_envs_keys {m : Nat} {s u : State} (h : Keeps m s u) (hm : m &&& 98304 = 98304) (x0 : SMap EnvCtr) (x1 : SMap (List Byte)) :
    Keeps m s { u with envs := x0, keys := x1 } := { h with envs := no_bit hm rfl, keys := no_bit hm rfl }
theorem keep_excs {m : Nat} {s u : State} (h : Keeps m s u) (hm : m &&& 36028797018963968 = 36028797018963968) (x0 : SMap Exc) :
    Keeps m s { u with excs := x0 } := { h with excs := no_bit hm rfl }
theorem keep_failingSlots {m : Nat} {s u : State} (h : Keeps m s u) (hm : m &&& 140737488355328 = 140737488355328) (x0 : List Nat) :
    Keeps m s { u with failingSlots := x0 } := { h with failingSlots := no_bit hm rfl }
theorem keep_failingSlots_retiredSlots {m : Nat} {s u : State} (h : Keeps m s u) (hm : m &&& 422212465065984 = 422212465065984) (x0 : List Nat) (x1 : List Nat) :
    Keeps m s { u with failingSlots := x0, retiredSlots := x1 } := { h with failingSlots := no_bit hm rfl, retiredSlots := no_bit hm rfl }
theorem keep_fe {m : Nat} {s u : State} (h : Keeps m s u) (hm : m &&& 4503599627370496 = 4503599627370496) (x0 : Fe) :
    Keeps m s { u with fe := x0 } := { h with fe := no_bit hm rfl }
theorem keep_force {m : Nat} {s u : State} (h : Keeps m s u) (hm : m &&& 2 = 2) (x0 : SMap Word) :
    Keeps m s { u with force := x0 } := { h with force := no_bit hm rfl }
theorem keep_freqs {m : Nat} {s u : State} (h : Keeps m s u) (hm : m &&& 1073741824 = 1073741824) (x0 : SMap FreqGate) :
    Keeps m s { u with freqs := x0 } := { h with freqs := no_bit hm rfl }
theorem keep_funcs {m : Nat} {s u : State} (h : Keeps m s u) (hm : m &&& 512 = 512) (x0 : SMap Func) :
    Keeps m s { u with funcs := x0 } := { h with funcs := no_bit hm rfl }
theorem keep_gaz {m : Nat} {s u : State} (h : Keeps m s u) (hm : m &&& 618970019642690137449562112 = 618970019642690137449562112) (x0 : SMap (Option GazEntry)) :
    Keeps m s { u with gaz := x0 } := { h with gaz := no_bit hm rfl }
theorem keep_gazBook {m : Nat} {s u : State} (h : Keeps m s u) (hm : m &&& 4951760157141521099596496896 = 4951760157141521099596496896) (x0 : GazBook) :
    Keeps m s { u with gazBook := x0 } := { h with gazBook := no_bit hm rfl }
theorem keep_gazSends {m : Nat} {s u : State} (h : Keeps m s u) (hm : m &&& 1237940039285380274899124224 = 1237940039285380274899124224) (x0 : SMap (Option GazSend)) :
    Keeps m s { u with gazSends := x0 } := { h with gazSends := no_bit hm rfl }
theorem keep_grps {m : Nat} {s u : State} (h : Keeps m s u) (hm : m &&& 274877906944 = 274877906944) (x0 : SMap Group) :
    Keeps m s { u with grps := x0 } := { h with grps := no_bit hm rfl }
theorem keep_hrings {m : Nat} {s u : State} (h : Keeps m s u) (hm : m &&& 19342813113834066795298816 = 19342813113834066795298816) (x0 : SMap HostRing) :
    Keeps m s { u with hrings := x0 } := { h with hrings := no_bit hm rfl }
theorem keep_ilines {m : Nat} {s u : State} (h : Keeps m s u) (hm : m &&& 4722366482869645213696 = 4722366482869645213696) (x0 : SMap ILine) :
    Keeps m s { u with ilines := x0 } := { h with ilines := no_bit hm rfl }
theorem keep_injects {m : Nat} {s u : State} (h : Keeps m s u) (hm : m &&& 17592186044416 = 17592186044416) (x0 : SMap (List Span)) :
    Keeps m s { u with injects := x0 } := { h with injects := no_bit hm rfl }
theorem keep_inps {m : Nat} {s u : State} (h : Keeps m s u) (hm : m &&& 549755813888 = 549755813888) (x0 : SMap Inp) :
    Keeps m s { u with inps := x0 } := { h with inps := no_bit hm rfl }
theorem keep_items {m : Nat} {s u : State} (h : Keeps m s u) (hm : m &&& 35184372088832 = 35184372088832) (x0 : List ReadyItem) :
    Keeps m s { u with items := x0 } := { h with items := no_bit hm rfl }
theorem keep_jobs {m : Nat} {s u : State} (h : Keeps m s u) (hm : m &&& 295147905179352825856 = 295147905179352825856) (x0 : SMap Job) :
    Keeps m s { u with jobs := x0 } := { h with jobs := no_bit hm rfl }
theorem keep_keyStage {m : Nat} {s u : State} (h : Keeps m s u) (hm : m &&& 131072 = 131072) (x0 : SMap Word) :
    Keeps m s { u with keyStage := x0 } := { h with keyStage := no_bit hm rfl }
theorem keep_keys {m : Nat} {s u : State} (h : Keeps m s u) (hm : m &&& 65536 = 65536) (x0 : SMap (List Byte)) :
    Keeps m s { u with keys := x0 } := { h with keys := no_bit hm rfl }
theorem keep_lateAt {m : Nat} {s u : State} (h : Keeps m s u) (hm : m &&& 4194304 = 4194304) (x0 : Option Int) :
    Keeps m s { u with lateAt := x0 } := { h with lateAt := no_bit hm rfl }
theorem keep_linCopies {m : Nat} {s u : State} (h : Keeps m s u) (hm : m &&& 144115188075855872 = 144115188075855872) (x0 : SMap (List Nat)) :
    Keeps m s { u with linCopies := x0 } := { h with linCopies := no_bit hm rfl }
theorem keep_linkUp {m : Nat} {s u : State} (h : Keeps m s u) (hm : m &&& 1024 = 1024) (x0 : Bool) :
    Keeps m s { u with linkUp := x0 } := { h with linkUp := no_bit hm rfl }
theorem keep_links {m : Nat} {s u : State} (h : Keeps m s u) (hm : m &&& 38685626227668133590597632 = 38685626227668133590597632) (x0 : SMap Link) :
    Keeps m s { u with links := x0 } := { h with links := no_bit hm rfl }
theorem keep_log {m : Nat} {s u : State} (h : Keeps m s u) (hm : m &&& 256 = 256) (x0 : Logbook) :
    Keeps m s { u with log := x0 } := { h with log := no_bit hm rfl }
theorem keep_mgb {m : Nat} {s u : State} (h : Keeps m s u) (hm : m &&& 151115727451828646838272 = 151115727451828646838272) (x0 : Mgb) :
    Keeps m s { u with mgb := x0 } := { h with mgb := no_bit hm rfl }
theorem keep_monLost {m : Nat} {s u : State} (h : Keeps m s u) (hm : m &&& 17179869184 = 17179869184) (x0 : List Nat) :
    Keeps m s { u with monLost := x0 } := { h with monLost := no_bit hm rfl }
theorem keep_monQ {m : Nat} {s u : State} (h : Keeps m s u) (hm : m &&& 4294967296 = 4294967296) (x0 : SMap (List Snapshot)) :
    Keeps m s { u with monQ := x0 } := { h with monQ := no_bit hm rfl }
theorem keep_monQ_monLost {m : Nat} {s u : State} (h : Keeps m s u) (hm : m &&& 21474836480 = 21474836480) (x0 : SMap (List Snapshot)) (x1 : List Nat) :
    Keeps m s { u with monQ := x0, monLost := x1 } := { h with monQ := no_bit hm rfl, monLost := no_bit hm rfl }
theorem keep_monSeq_monAt {m : Nat} {s u : State} (h : Keeps m s u) (hm : m &&& 5070602400912917605995402756096 = 5070602400912917605995402756096) (x0 : SMap Nat) (x1 : SMap (Int × Nat)) :
    Keeps m s { u with monSeq := x0, monAt := x1 } := { h with monSeq := no_bit hm rfl, monAt := no_bit hm rfl }
theorem keep_mramBad {m : Nat} {s u : State} (h : Keeps m s u) (hm : m &&& 2305843009213693952 = 2305843009213693952) (x0 : List Nat) :
    Keeps m s { u with mramBad := x0 } := { h with mramBad := no_bit hm rfl }
theorem keep_mramMap {m : Nat} {s u : State} (h : Keeps m s u) (hm : m &&& 20282409603651670423947251286016 = 20282409603651670423947251286016) (x0 : SMap Nat) :
    Keeps m s { u with mramMap := x0 } := { h with mramMap := no_bit hm rfl }
theorem keep_netSenders {m : Nat} {s u : State} (h : Keeps m s u) (hm : m &&& 9444732965739290427392 = 9444732965739290427392) (x0 : List NetSender) :
    Keeps m s { u with netSenders := x0 } := { h with netSenders := no_bit hm rfl }
theorem keep_nodes {m : Nat} {s u : State} (h : Keeps m s u) (hm : m &&& 4398046511104 = 4398046511104) (x0 : SMap NodeStream) :
    Keeps m s { u with nodes := x0 } := { h with nodes := no_bit hm rfl }
theorem keep_nvm {m : Nat} {s u : State} (h : Keeps m s u) (hm : m &&& 288230376151711744 = 288230376151711744) (x0 : List NvmJob) :
    Keeps m s { u with nvm := x0 } := { h with nvm := no_bit hm rfl }
theorem keep_out {m : Nat} {s u : State} (h : Keeps m s u) (hm : m &&& 316912650057057350374175801344 = 316912650057057350374175801344) (x0 : List Output) :
    Keeps m s { u with out := x0 } := { h with out := no_bit hm rfl }
theorem keep_partials {m : Nat} {s u : State} (h : Keeps m s u) (hm : m &&& 2199023255552 = 2199023255552) (x0 : List Partial) :
    Keeps m s { u with partials := x0 } := { h with partials := no_bit hm rfl }
theorem keep_pcvs {m : Nat} {s u : State} (h : Keeps m s u) (hm : m &&& 9007199254740992 = 9007199254740992) (x0 : SMap Pcv) :
    Keeps m s { u with pcvs := x0 } := { h with pcvs := no_bit hm rfl }
theorem keep_plotBook {m : Nat} {s u : State} (h : Keeps m s u) (hm : m &&& 18446744073709551616 = 18446744073709551616) (x0 : PlotBook) :
    Keeps m s { u with plotBook := x0 } := { h with plotBook := no_bit hm rfl }
theorem keep_plots {m : Nat} {s u : State} (h : Keeps m s u) (hm : m &&& 4611686018427387904 = 4611686018427387904) (x0 : SMap Plot) :
    Keeps m s { u with plots := x0 } := { h with plots := no_bit hm rfl }
theorem keep_popWait {m : Nat} {s u : State} (h : Keeps m s u) (hm : m &&& 34359738368 = 34359738368) (x0 : List PopWait) :
    Keeps m s { u with popWait := x0 } := { h with popWait := no_bit hm rfl }
theorem keep_porLow {m : Nat} {s u : State} (h : Keeps m s u) (hm : m &&& 604462909807314587353088 = 604462909807314587353088) (x0 : Bool) :
    Keeps m s { u with porLow := x0 } := { h with porLow := no_bit hm rfl }
theorem keep_ports {m : Nat} {s u : State} (h : Keeps m s u) (hm : m &&& 4835703278458516698824704 = 4835703278458516698824704) (x0 : SMap Port) :
    Keeps m s { u with ports := x0 } := { h with ports := no_bit hm rfl }
theorem keep_ptm {m : Nat} {s u : State} (h : Keeps m s u) (hm : m &&& 4096 = 4096) (x0 : Option PtmDialog) :
    Keeps m s { u with ptm := x0 } := { h with ptm := no_bit hm rfl }
theorem keep_ptmAt {m : Nat} {s u : State} (h : Keeps m s u) (hm : m &&& 2535301200456458802993406410752 = 2535301200456458802993406410752) (x0 : Option Int) :
    Keeps m s { u with ptmAt := x0 } := { h with ptmAt := no_bit hm rfl }
theorem keep_pulses {m : Nat} {s u : State} (h : Keeps m s u) (hm : m &&& 2361183241434822606848 = 2361183241434822606848) (x0 : List Pulse) :
    Keeps m s { u with pulses := x0 } := { h with pulses := no_bit hm rfl }
theorem keep_ques {m : Nat} {s u : State} (h : Keeps m s u) (hm : m &&& 9223372036854775808 = 9223372036854775808) (x0 : SMap Que) :
    Keeps m s { u with ques := x0 } := { h with ques := no_bit hm rfl }
theorem keep_quesOn {m : Nat} {s u : State} (h : Keeps m s u) (hm : m &&& 524288 = 524288) (x0 : List Nat) :
    Keeps m s { u with quesOn := x0 } := { h with quesOn := no_bit hm rfl }
theorem keep_quesOn_rxs {m : Nat} {s u : State} (h : Keeps m s u) (hm : m &&& 9671406556917033398173696 = 9671406556917033398173696) (x0 : List Nat) (x1 : SMap RxStream) :
    Keeps m s { u with quesOn := x0, rxs := x1 } := { h with quesOn := no_bit hm rfl, rxs := no_bit hm rfl }
theorem keep_raws {m : Nat} {s u : State} (h : Keeps m s u) (hm : m &&& 73786976294838206464 = 73786976294838206464) (x0 : SMap RawPath) :
    Keeps m s { u with raws := x0 } := { h with raws := no_bit hm rfl }
theorem keep_regs {m : Nat} {s u : State} (h : Keeps m s u) (hm : m &&& 1 = 1) (x0 : SMap Word) :
    Keeps m s { u with regs := x0 } := { h with regs := no_bit hm rfl }
theorem keep_regs_vecs {m : Nat} {s u : State} (h : Keeps m s u) (hm : m &&& 2049 = 2049) (x0 : SMap Word) (x1 : SMap Vec) :
    Keeps m s { u with regs := x0, vecs := x1 } := { h with regs := no_bit hm rfl, vecs := no_bit hm rfl }
theorem keep_ring {m : Nat} {s u : State} (h : Keeps m s u) (hm : m &&& 147573952589676412928 = 147573952589676412928) (x0 : Ring) :
    Keeps m s { u with ring := x0 } := { h with ring := no_bit hm rfl }
theorem keep_router {m : Nat} {s u : State} (h : Keeps m s u) (hm : m &&& 32 = 32) (x0 : List RouterItem) :
    Keeps m s { u with router := x0 } := { h with router := no_bit hm rfl }
theorem keep_router_units {m : Nat} {s u : State} (h : Keeps m s u) (hm : m &&& 70368744177696 = 70368744177696) (x0 : List RouterItem) (x1 : SMap (List ReadyItem)) :
    Keeps m s { u with router := x0, units := x1 } := { h with router := no_bit hm rfl, units := no_bit hm rfl }
theorem keep_router_windows {m : Nat} {s u : State} (h : Keeps m s u) (hm : m &&& 96 = 96) (x0 : List RouterItem) (x1 : List EvWindow) :
    Keeps m s { u with router := x0, windows := x1 } := { h with router := no_bit hm rfl, windows := no_bit hm rfl }
theorem keep_rxs {m : Nat} {s u : State} (h : Keeps m s u) (hm : m &&& 9671406556917033397649408 = 9671406556917033397649408) (x0 : SMap RxStream) :
    Keeps m s { u with rxs := x0 } := { h with rxs := no_bit hm rfl }
theorem keep_scheds {m : Nat} {s u : State} (h : Keeps m s u) (hm : m &&& 77371252455336267181195264 = 77371252455336267181195264) (x0 : SMap Sched) :
    Keeps m s { u with scheds := x0 } := { h with scheds := no_bit hm rfl }
theorem keep_sfeChs {m : Nat} {s u : State} (h : Keeps m s u) (hm : m &&& 18014398509481984 = 18014398509481984) (x0 : SMap SfeCh) :
    Keeps m s { u with sfeChs := x0 } := { h with sfeChs := no_bit hm rfl }
theorem keep_sheets {m : Nat} {s u : State} (h : Keeps m s u) (hm : m &&& 2417851639229258349412352 = 2417851639229258349412352) (x0 : SMap Sheet) :
    Keeps m s { u with sheets := x0 } := { h with sheets := no_bit hm rfl }
theorem keep_sigs {m : Nat} {s u : State} (h : Keeps m s u) (hm : m &&& 75557863725914323419136 = 75557863725914323419136) (x0 : SMap SigOut) :
    Keeps m s { u with sigs := x0 } := { h with sigs := no_bit hm rfl }
theorem keep_slots {m : Nat} {s u : State} (h : Keeps m s u) (hm : m &&& 8388608 = 8388608) (x0 : SMap Slot) :
    Keeps m s { u with slots := x0 } := { h with slots := no_bit hm rfl }
theorem keep_spareBook {m : Nat} {s u : State} (h : Keeps m s u) (hm : m &&& 68719476736 = 68719476736) (x0 : SpareBook) :
    Keeps m s { u with spareBook := x0 } := { h with spareBook := no_bit hm rfl }
theorem keep_spxTx {m : Nat} {s u : State} (h : Keeps m s u) (hm : m &&& 1125899906842624 = 1125899906842624) (x0 : SMap (List TxFlit)) :
    Keeps m s { u with spxTx := x0 } := { h with spxTx := no_bit hm rfl }
theorem keep_stageQ {m : Nat} {s u : State} (h : Keeps m s u) (hm : m &&& 128 = 128) (x0 : List StageItem) :
    Keeps m s { u with stageQ := x0 } := { h with stageQ := no_bit hm rfl }
theorem keep_stageQ_log {m : Nat} {s u : State} (h : Keeps m s u) (hm : m &&& 384 = 384) (x0 : List StageItem) (x1 : Logbook) :
    Keeps m s { u with stageQ := x0, log := x1 } := { h with stageQ := no_bit hm rfl, log := no_bit hm rfl }
theorem keep_staged {m : Nat} {s u : State} (h : Keeps m s u) (hm : m &&& 8192 = 8192) (x0 : List Staged) :
    Keeps m s { u with staged := x0 } := { h with staged := no_bit hm rfl }
theorem keep_start {m : Nat} {s u : State} (h : Keeps m s u) (hm : m &&& 79228162514264337593543950336 = 79228162514264337593543950336) (x0 : Start) :
    Keeps m s { u with start := x0 } := { h with start := no_bit hm rfl }
theorem keep_tagQ {m : Nat} {s u : State} (h : Keeps m s u) (hm : m &&& 536870912 = 536870912) (x0 : SMap (List EdgeTag)) :
    Keeps m s { u with tagQ := x0 } := { h with tagQ := no_bit hm rfl }
theorem keep_tags {m : Nat} {s u : State} (h : Keeps m s u) (hm : m &&& 16384 = 16384) (x0 : SMap TagEntry) :
    Keeps m s { u with tags := x0 } := { h with tags := no_bit hm rfl }
theorem keep_tap {m : Nat} {s u : State} (h : Keeps m s u) (hm : m &&& 302231454903657293676544 = 302231454903657293676544) (x0 : Tap) :
    Keeps m s { u with tap := x0 } := { h with tap := no_bit hm rfl }
theorem keep_tb {m : Nat} {s u : State} (h : Keeps m s u) (hm : m &&& 8 = 8) (x0 : TimeBase) :
    Keeps m s { u with tb := x0 } := { h with tb := no_bit hm rfl }
theorem keep_tdc {m : Nat} {s u : State} (h : Keeps m s u) (hm : m &&& 67108864 = 67108864) (x0 : SMap TdcCore) :
    Keeps m s { u with tdc := x0 } := { h with tdc := no_bit hm rfl }
theorem keep_tdcSwitches {m : Nat} {s u : State} (h : Keeps m s u) (hm : m &&& 134217728 = 134217728) (x0 : List TdcSwitch) :
    Keeps m s { u with tdcSwitches := x0 } := { h with tdcSwitches := no_bit hm rfl }
theorem keep_timCal {m : Nat} {s u : State} (h : Keeps m s u) (hm : m &&& 81129638414606681695789005144064 = 81129638414606681695789005144064) (x0 : Int) :
    Keeps m s { u with timCal := x0 } := { h with timCal := no_bit hm rfl }
theorem keep_trgOuts {m : Nat} {s u : State} (h : Keeps m s u) (hm : m &&& 1180591620717411303424 = 1180591620717411303424) (x0 : SMap TrgOut) :
    Keeps m s { u with trgOuts := x0 } := { h with trgOuts := no_bit hm rfl }
theorem keep_trgSeq {m : Nat} {s u : State} (h : Keeps m s u) (hm : m &&& 18889465931478580854784 = 18889465931478580854784) (x0 : Nat) :
    Keeps m s { u with trgSeq := x0 } := { h with trgSeq := no_bit hm rfl }
theorem keep_trigs {m : Nat} {s u : State} (h : Keeps m s u) (hm : m &&& 562949953421312 = 562949953421312) (x0 : List Trig) :
    Keeps m s { u with trigs := x0 } := { h with trigs := no_bit hm rfl }
theorem keep_trimCopies {m : Nat} {s u : State} (h : Keeps m s u) (hm : m &&& 72057594037927936 = 72057594037927936) (x0 : SMap TrimCopy) :
    Keeps m s { u with trimCopies := x0 } := { h with trimCopies := no_bit hm rfl }
theorem keep_trimImg {m : Nat} {s u : State} (h : Keeps m s u) (hm : m &&& 137438953472 = 137438953472) (x0 : SMap (Option Word)) :
    Keeps m s { u with trimImg := x0 } := { h with trimImg := no_bit hm rfl }
theorem keep_trimLoaded {m : Nat} {s u : State} (h : Keeps m s u) (hm : m &&& 1152921504606846976 = 1152921504606846976) (x0 : List Nat) :
    Keeps m s { u with trimLoaded := x0 } := { h with trimLoaded := no_bit hm rfl }
theorem keep_txts {m : Nat} {s u : State} (h : Keeps m s u) (hm : m &&& 16 = 16) (x0 : SMap (List TxStamp)) :
    Keeps m s { u with txts := x0 } := { h with txts := no_bit hm rfl }
theorem keep_units {m : Nat} {s u : State} (h : Keeps m s u) (hm : m &&& 70368744177664 = 70368744177664) (x0 : SMap (List ReadyItem)) :
    Keeps m s { u with units := x0 } := { h with units := no_bit hm rfl }
theorem keep_vecs {m : Nat} {s u : State} (h : Keeps m s u) (hm : m &&& 2048 = 2048) (x0 : SMap Vec) :
    Keeps m s { u with vecs := x0 } := { h with vecs := no_bit hm rfl }
theorem keep_windows {m : Nat} {s u : State} (h : Keeps m s u) (hm : m &&& 64 = 64) (x0 : List EvWindow) :
    Keeps m s { u with windows := x0 } := { h with windows := no_bit hm rfl }

end Sys2Proof.Machine
end

