-- ==== Sys2Proof/Laws/Keep1.lean ====
section
/-! SUPPORT. One lemma per operation: the components it may change, as a mask (part 1 of 5, in the order of dependence). -/
set_option maxRecDepth 10000
namespace Sys2Proof.Machine

theorem State.setFunc_keeps {m : Nat} {s u : State} (h : Keeps m s u) (hm : m &&& 512 = 512) (fn : Nat) (f : Func) : Keeps m s (State.setFunc u fn f) := by
  unfold State.setFunc
  with_reducible repeat' (first | assumption | intro _ | exact sub_mask hm rfl | rfl | apply ite_keep | apply foldl_keep | split | dsimp only | apply keep_funcs)
theorem State.setTab_keeps {m : Nat} {s u : State} (h : Keeps m s u) (hm : m &&& 4 = 4) (k0 : Nat) (w : Word) : Keeps m s (State.setTab u k0 w) := by
  unfold State.setTab
  with_reducible repeat' (first | assumption | intro _ | exact sub_mask hm rfl | rfl | apply ite_keep | apply foldl_keep | split | dsimp only | apply keep_aper)
theorem State.stageRunning_keeps {m : Nat} {s u : State} (h : Keeps m s u) (hm : m &&& 256 = 256) : Keeps m s (State.stageRunning u) := by
  unfold State.stageRunning
  with_reducible repeat' (first | assumption | intro _ | exact sub_mask hm rfl | rfl | apply ite_keep | apply foldl_keep | split | dsimp only | apply keep_log)
theorem State.wr_keeps {m : Nat} {s u : State} (h : Keeps m s u) (hm : m &&& 1 = 1) (r : Reg) (w : Word) : Keeps m s (State.wr u r w) := by
  unfold State.wr
  with_reducible repeat' (first | assumption | intro _ | exact sub_mask hm rfl | rfl | apply ite_keep | apply foldl_keep | split | dsimp only | apply keep_regs)
theorem State.wn_keeps {m : Nat} {s u : State} (h : Keeps m s u) (hm : m &&& 1 = 1) (r : Reg) (v : Nat) : Keeps m s (State.wn u r v) := by
  unfold State.wn
  with_reducible repeat' (first | assumption | intro _ | exact sub_mask hm rfl | rfl | apply State.wr_keeps | apply ite_keep | apply foldl_keep | split | dsimp only)
theorem State.bump_keeps {m : Nat} {s u : State} (h : Keeps m s u) (hm : m &&& 1 = 1) (r : Reg) (n : Nat) : Keeps m s (State.bump u r n) := by
  unfold State.bump
  with_reducible repeat' (first | assumption | intro _ | exact sub_mask hm rfl | rfl | apply State.wn_keeps | apply ite_keep | apply foldl_keep | split | dsimp only)
theorem State.routeRec_keeps {m : Nat} {s u : State} (h : Keeps m s u) (hm : m &&& 33 = 33) (b : Nat) (r : EvRec) (v : Option Nat) : Keeps m s (State.routeRec u b r v) := by
  unfold State.routeRec
  with_reducible repeat' (first | assumption | intro _ | exact sub_mask hm rfl | rfl | apply State.bump_keeps | apply ite_keep | apply foldl_keep | split | dsimp only | apply keep_router)
theorem State.closeWindow_keeps {m : Nat} {s u : State} (h : Keeps m s u) (hm : m &&& 97 = 97) (x : EvWindow) : Keeps m s (State.closeWindow u x) := by
  unfold State.closeWindow
  with_reducible repeat' (first | assumption | intro _ | exact sub_mask hm rfl | rfl | apply State.routeRec_keeps | apply ite_keep | apply foldl_keep | split | dsimp only | apply keep_windows)
theorem State.closeExpired_keeps {m : Nat} {s u : State} (h : Keeps m s u) (hm : m &&& 97 = 97) (b : Nat) (r : EvRec) (a3 : Nat) : Keeps m s (State.closeExpired u b r a3) := by
  induction a3 generalizing u with
  | zero => unfold State.closeExpired; with_reducible repeat' (first | assumption | intro _ | exact sub_mask hm rfl | rfl | apply State.closeWindow_keeps | apply ite_keep | apply foldl_keep | split | dsimp only)
  | succ n ih => unfold State.closeExpired; with_reducible repeat' (first | assumption | apply ih | intro _ | exact sub_mask hm rfl | rfl | apply State.closeWindow_keeps | apply ite_keep | apply foldl_keep | split | dsimp only)
theorem State.queueRec_keeps {m : Nat} {s u : State} (h : Keeps m s u) (hm : m &&& 97 = 97) (b : Nat) (r : EvRec) (mand : Bool) (v : Option Nat) : Keeps m s (State.queueRec u b r mand v) := by
  unfold State.queueRec
  with_reducible repeat' (first | assumption | intro _ | exact sub_mask hm rfl | rfl | apply State.routeRec_keeps | apply State.closeExpired_keeps | apply ite_keep | apply foldl_keep | split | dsimp only | apply keep_windows)
theorem State.setVec_keeps {m : Nat} {s u : State} (h : Keeps m s u) (hm : m &&& 2048 = 2048) (fn : Nat) (v : Nat) (x : Vec) : Keeps m s (State.setVec u fn v x) := by
  unfold State.setVec
  with_reducible repeat' (first | assumption | intro _ | exact sub_mask hm rfl | rfl | apply ite_keep | apply foldl_keep | split | dsimp only | apply keep_vecs)
theorem State.emit_keeps {m : Nat} {s u : State} (h : Keeps m s u) (hm : m &&& 316912650057057350374175801344 = 316912650057057350374175801344) (o : Output) : Keeps m s (State.emit u o) := by
  unfold State.emit
  with_reducible repeat' (first | assumption | intro _ | exact sub_mask hm rfl | rfl | apply ite_keep | apply foldl_keep | split | dsimp only | apply keep_out)
theorem State.vecSend_keeps {m : Nat} {s u : State} (h : Keeps m s u) (hm : m &&& 316912650057057350374175803392 = 316912650057057350374175803392) (fn : Nat) (v : Nat) : Keeps m s (State.vecSend u fn v) := by
  unfold State.vecSend
  with_reducible repeat' (first | assumption | intro _ | exact sub_mask hm rfl | rfl | apply State.setVec_keeps | apply State.emit_keeps | apply ite_keep | apply foldl_keep | split | dsimp only)
theorem State.vecDue_keeps {m : Nat} {s u : State} (h : Keeps m s u) (hm : m &&& 316912650057057350374175803392 = 316912650057057350374175803392) (fn : Nat) (v : Nat) : Keeps m s (State.vecDue u fn v) := by
  unfold State.vecDue
  with_reducible repeat' (first | assumption | intro _ | exact sub_mask hm rfl | rfl | apply State.setVec_keeps | apply State.vecSend_keeps | apply ite_keep | apply foldl_keep | split | dsimp only)
theorem State.put_keeps {m : Nat} {s u : State} (h : Keeps m s u) (hm : m &&& 1 = 1) (f : Fld) (v : Nat) : Keeps m s (State.put u f v) := by
  unfold State.put
  with_reducible repeat' (first | assumption | intro _ | exact sub_mask hm rfl | rfl | apply State.wr_keeps | apply ite_keep | apply foldl_keep | split | dsimp only)
theorem State.stageLog_keeps {m : Nat} {s u : State} (h : Keeps m s u) (hm : m &&& 385 = 385) (r : EvRec) (mand : Bool) : Keeps m s (State.stageLog u r mand) := by
  unfold State.stageLog
  with_reducible repeat' (first | assumption | intro _ | exact sub_mask hm rfl | rfl | apply State.stageRunning_keeps | apply State.put_keeps | apply State.bump_keeps | apply ite_keep | apply foldl_keep | split | dsimp only | apply keep_stageQ | apply keep_stageQ_log)
theorem State.raise1_keeps {m : Nat} {s u : State} (h : Keeps m s u) (hm : m &&& 316912650057057350374175803873 = 316912650057057350374175803873) (e : EvId) (inst : Nat) (det : List Detail) (bor0 : Nat) (pol : Bool) (mand : Bool) (nolog : Bool) : Keeps m s (State.raise1 u e inst det bor0 pol mand nolog) := by
  unfold State.raise1
  with_reducible repeat' (first | assumption | intro _ | exact sub_mask hm rfl | rfl | apply State.bump_keeps | apply State.wn_keeps | apply State.queueRec_keeps | apply State.vecDue_keeps | apply State.stageLog_keeps | apply ite_keep | apply foldl_keep | split | dsimp only)
theorem State.raise_keeps {m : Nat} {s u : State} (h : Keeps m s u) (hm : m &&& 316912650057057350374175803873 = 316912650057057350374175803873) (e : EvId) (inst : Nat) (det : List Detail) (bor : Nat) (pol : Bool) (mand : Bool) (nolog : Bool) : Keeps m s (State.raise u e inst det bor pol mand nolog) := by
  unfold State.raise
  with_reducible repeat' (first | assumption | intro _ | exact sub_mask hm rfl | rfl | apply State.raise1_keeps | apply ite_keep | apply foldl_keep | split | dsimp only)
theorem State.drawInt_keeps {m : Nat} {s u : State} (h : Keeps m s u) (hm : m &&& 633825300114114700748351602688 = 633825300114114700748351602688) : Keeps m s (State.drawInt u).2 := by
  unfold State.drawInt
  with_reducible repeat' (first | assumption | intro _ | exact sub_mask hm rfl | rfl | apply ite_keep | apply foldl_keep | apply ite_keep2 | apply foldl_keep2 | split | dsimp only | apply keep_drawn)
theorem State.bumpSat_keeps {m : Nat} {s u : State} (h : Keeps m s u) (hm : m &&& 316912650057057350374175803873 = 316912650057057350374175803873) (r : Reg) (e : EvId) (inst : Nat) (n : Nat) : Keeps m s (State.bumpSat u r e inst n) := by
  unfold State.bumpSat
  with_reducible repeat' (first | assumption | intro _ | exact sub_mask hm rfl | rfl | apply State.bump_keeps | apply State.raise_keeps | apply ite_keep | apply foldl_keep | split | dsimp only)
theorem State.wr64_keeps {m : Nat} {s u : State} (h : Keeps m s u) (hm : m &&& 1 = 1) (lo : Reg) (hi : Reg) (v : Nat) : Keeps m s (State.wr64 u lo hi v) := by
  unfold State.wr64
  with_reducible repeat' (first | assumption | intro _ | exact sub_mask hm rfl | rfl | apply State.wn_keeps | apply ite_keep | apply foldl_keep | split | dsimp only)
theorem State.fwr_keeps {m : Nat} {s u : State} (h : Keeps m s u) (hm : m &&& 2 = 2) (r : Reg) (w : Word) : Keeps m s (State.fwr u r w) := by
  unfold State.fwr
  with_reducible repeat' (first | assumption | intro _ | exact sub_mask hm rfl | rfl | apply ite_keep | apply foldl_keep | split | dsimp only | apply keep_force)
theorem State.popStall_keeps {m : Nat} {s u : State} (h : Keeps m s u) (hm : m &&& 34359738368 = 34359738368) (n : Nat) (fn : Nat) : Keeps m s (State.popStall u n fn) := by
  unfold State.popStall
  with_reducible repeat' (first | assumption | intro _ | exact sub_mask hm rfl | rfl | apply ite_keep | apply foldl_keep | split | dsimp only | apply keep_popWait)
theorem State.popResume_keeps {m : Nat} {s u : State} (h : Keeps m s u) (hm : m &&& 34359738368 = 34359738368) (n : Nat) : Keeps m s (State.popResume u n) := by
  unfold State.popResume
  with_reducible repeat' (first | assumption | intro _ | exact sub_mask hm rfl | rfl | apply ite_keep | apply foldl_keep | split | dsimp only | apply keep_popWait)
theorem State.draw_keeps {m : Nat} {s u : State} (h : Keeps m s u) (hm : m &&& 633825300114114700748351602688 = 633825300114114700748351602688) (n : Nat) : Keeps m s (State.draw u n).2 := by
  unfold State.draw
  with_reducible repeat' (first | assumption | intro _ | exact sub_mask hm rfl | rfl | apply ite_keep | apply foldl_keep | apply ite_keep2 | apply foldl_keep2 | split | dsimp only | apply keep_drawn)
theorem State.reservedHit_keeps {m : Nat} {s u : State} (h : Keeps m s u) (hm : m &&& 316912650057057350374175804385 = 316912650057057350374175804385) (fn : Nat) (bar : Nat) (off : Nat) (write : Bool) : Keeps m s (State.reservedHit u fn bar off write) := by
  unfold State.reservedHit
  with_reducible repeat' (first | assumption | intro _ | exact sub_mask hm rfl | rfl | apply State.wn_keeps | apply State.bump_keeps | apply State.raise_keeps | apply State.setFunc_keeps | apply ite_keep | apply foldl_keep | split | dsimp only)
theorem State.widthHit_keeps {m : Nat} {s u : State} (h : Keeps m s u) (hm : m &&& 316912650057057350374175803873 = 316912650057057350374175803873) (fn : Nat) (bar : Nat) (off : Nat) (write : Bool) : Keeps m s (State.widthHit u fn bar off write) := by
  unfold State.widthHit
  with_reducible repeat' (first | assumption | intro _ | exact sub_mask hm rfl | rfl | apply State.raise_keeps | apply State.wn_keeps | apply State.bump_keeps | apply ite_keep | apply foldl_keep | split | dsimp only)
theorem State.mergeRaw_keeps {m : Nat} {s u : State} (h : Keeps m s u) (hm : m &&& 316912650057057350374175803873 = 316912650057057350374175803873) (key : Nat) (w : Wr) : Keeps m s (State.mergeRaw u key w) := by
  unfold State.mergeRaw
  with_reducible repeat' (first | assumption | intro _ | exact sub_mask hm rfl | rfl | apply State.wn_keeps | apply State.raise_keeps | apply ite_keep | apply foldl_keep | split | dsimp only)
theorem State.pairHalf_keeps {m : Nat} {s u : State} (h : Keeps m s u) (hm : m &&& 316912650057057350374175804393 = 316912650057057350374175804393) (key : Nat) (w : Wr) : Keeps m s (State.pairHalf u key w) := by
  unfold State.pairHalf
  with_reducible repeat' (first | assumption | intro _ | exact sub_mask hm rfl | rfl | apply State.raise_keeps | apply State.mergeRaw_keeps | apply State.reservedHit_keeps | apply ite_keep | apply foldl_keep | split | dsimp only | apply keep_tb)
theorem State.flushHeld_keeps {m : Nat} {s u : State} (h : Keeps m s u) (hm : m &&& 316912650057057350374175804393 = 316912650057057350374175804393) (fn : Nat) : Keeps m s (State.flushHeld u fn) := by
  unfold State.flushHeld
  with_reducible repeat' (first | assumption | intro _ | exact sub_mask hm rfl | rfl | apply State.setFunc_keeps | apply State.pairHalf_keeps | apply ite_keep | apply foldl_keep | split | dsimp only)
theorem State.pfOnly_keeps {m : Nat} {s u : State} (h : Keeps m s u) (hm : m &&& 316912650057057350374175804393 = 316912650057057350374175804393) (w : Wr) (off : Nat) (f : State → State) (k : ∀ v, Keeps m s v → Keeps m s (f v)) : Keeps m s (State.pfOnly u w off f) := by
  unfold State.pfOnly
  with_reducible repeat' (first | assumption | intro _ | apply k | exact sub_mask hm rfl | rfl | apply State.flushHeld_keeps | apply State.reservedHit_keeps | apply ite_keep | apply foldl_keep | split | dsimp only)
theorem State.showPend_keeps {m : Nat} {s u : State} (h : Keeps m s u) (hm : m &&& 1 = 1) (u0 : UnitId) : Keeps m s (State.showPend u u0) := by
  unfold State.showPend
  with_reducible repeat' (first | assumption | intro _ | exact sub_mask hm rfl | rfl | apply State.put_keeps | apply ite_keep | apply foldl_keep | split | dsimp only)
theorem State.stage_keeps {m : Nat} {s u : State} (h : Keeps m s u) (hm : m &&& 316912650057057350374175812065 = 316912650057057350374175812065) (x : Staged) : Keeps m s (State.stage u x) := by
  unfold State.stage
  with_reducible repeat' (first | assumption | intro _ | exact sub_mask hm rfl | rfl | apply State.showPend_keeps | apply State.raise_keeps | apply ite_keep | apply foldl_keep | split | dsimp only | apply keep_staged)
theorem State.forceVal_keeps {m : Nat} {s u : State} (h : Keeps m s u) (hm : m &&& 137438953474 = 137438953474) (v : SVal) : Keeps m s (State.forceVal u v) := by
  unfold State.forceVal
  with_reducible repeat' (first | assumption | intro _ | exact sub_mask hm rfl | rfl | apply State.fwr_keeps | apply ite_keep | apply foldl_keep | split | dsimp only | apply keep_trimImg)
theorem State.forceVals_keeps {m : Nat} {s u : State} (h : Keeps m s u) (hm : m &&& 137438953474 = 137438953474) (l : List SVal) : Keeps m s (State.forceVals u l) := by
  unfold State.forceVals
  with_reducible repeat' (first | assumption | intro _ | exact sub_mask hm rfl | rfl | apply State.forceVal_keeps | apply ite_keep | apply foldl_keep | split | dsimp only)
theorem State.unstage_keeps {m : Nat} {s u : State} (h : Keeps m s u) (hm : m &&& 8193 = 8193) (u0 : UnitId) : Keeps m s (State.unstage u u0) := by
  unfold State.unstage
  with_reducible repeat' (first | assumption | intro _ | exact sub_mask hm rfl | rfl | apply State.showPend_keeps | apply ite_keep | apply foldl_keep | split | dsimp only | apply keep_staged)
theorem State.policyLog_keeps {m : Nat} {s u : State} (h : Keeps m s u) (hm : m &&& 385 = 385) (e : EvId) (inst : Nat) (det : List Detail) : Keeps m s (State.policyLog u e inst det) := by
  unfold State.policyLog
  with_reducible repeat' (first | assumption | intro _ | exact sub_mask hm rfl | rfl | apply State.stageLog_keeps | apply ite_keep | apply foldl_keep | split | dsimp only)
theorem State.setTrim_keeps {m : Nat} {s u : State} (h : Keeps m s u) (hm : m &&& 137438953472 = 137438953472) (page : Nat) (off : Nat) (v : Nat) : Keeps m s (State.setTrim u page off v) := by
  unfold State.setTrim
  with_reducible repeat' (first | assumption | intro _ | exact sub_mask hm rfl | rfl | apply ite_keep | apply foldl_keep | split | dsimp only | apply keep_trimImg)
theorem State.wearCheck_keeps {m : Nat} {s u : State} (h : Keeps m s u) (hm : m &&& 316912650057057350442895280609 = 316912650057057350442895280609) (c : Nat) (part : Nat) : Keeps m s (State.wearCheck u c part) := by
  unfold State.wearCheck
  with_reducible repeat' (first | assumption | intro _ | exact sub_mask hm rfl | rfl | apply State.raise_keeps | apply State.put_keeps | apply ite_keep | apply foldl_keep | split | dsimp only | apply keep_spareBook)
theorem State.useSpare_keeps {m : Nat} {s u : State} (h : Keeps m s u) (hm : m &&& 316912650057057350442895280609 = 316912650057057350442895280609) (c : Nat) (part : Nat) : Keeps m s (State.useSpare u c part) := by
  unfold State.useSpare
  with_reducible repeat' (first | assumption | intro _ | exact sub_mask hm rfl | rfl | apply State.put_keeps | apply State.wearCheck_keeps | apply ite_keep | apply foldl_keep | split | dsimp only)
theorem State.pqLose_keeps {m : Nat} {s u : State} (h : Keeps m s u) (hm : m &&& 316912650057057350374175803873 = 316912650057057350374175803873) (n : Nat) : Keeps m s (State.pqLose u n) := by
  unfold State.pqLose
  with_reducible repeat' (first | assumption | intro _ | exact sub_mask hm rfl | rfl | apply State.bump_keeps | apply State.put_keeps | apply State.raise_keeps | apply ite_keep | apply foldl_keep | split | dsimp only)
theorem State.spareExhausted_keeps {m : Nat} {s u : State} (h : Keeps m s u) (hm : m &&& 316912650057057350442895280609 = 316912650057057350442895280609) (c : Nat) (part : Nat) : Keeps m s (State.spareExhausted u c part) := by
  unfold State.spareExhausted
  with_reducible repeat' (first | assumption | intro _ | exact sub_mask hm rfl | rfl | apply State.raise_keeps | apply State.put_keeps | apply ite_keep | apply foldl_keep | split | dsimp only | apply keep_spareBook)
theorem State.refuseDom_keeps {m : Nat} {s u : State} (h : Keeps m s u) (hm : m &&& 316912650057057350442895280609 = 316912650057057350442895280609) (d : Nat) : Keeps m s (State.refuseDom u d) := by
  unfold State.refuseDom
  with_reducible repeat' (first | assumption | intro _ | exact sub_mask hm rfl | rfl | apply State.bump_keeps | apply State.raise_keeps | apply ite_keep | apply foldl_keep | split | dsimp only | apply keep_spareBook)
theorem State.setTag_keeps {m : Nat} {s u : State} (h : Keeps m s u) (hm : m &&& 16384 = 16384) (b : Nat) (t : Nat) (x : TagEntry) : Keeps m s (State.setTag u b t x) := by
  unfold State.setTag
  with_reducible repeat' (first | assumption | intro _ | exact sub_mask hm rfl | rfl | apply ite_keep | apply foldl_keep | split | dsimp only | apply keep_tags)
theorem State.replyLost_keeps {m : Nat} {s u : State} (h : Keeps m s u) (hm : m &&& 1 = 1) (b : Nat) (r : Nat) : Keeps m s (State.replyLost u b r) := by
  unfold State.replyLost
  with_reducible repeat' (first | assumption | intro _ | exact sub_mask hm rfl | rfl | apply State.put_keeps | apply ite_keep | apply foldl_keep | split | dsimp only)
theorem State.setCring_keeps {m : Nat} {s u : State} (h : Keeps m s u) (hm : m &&& 262144 = 262144) (b : Nat) (r : Nat) (x : CRing) : Keeps m s (State.setCring u b r x) := by
  unfold State.setCring
  with_reducible repeat' (first | assumption | intro _ | exact sub_mask hm rfl | rfl | apply ite_keep | apply foldl_keep | split | dsimp only | apply keep_crings)
theorem State.cplPut_keeps {m : Nat} {s u : State} (h : Keeps m s u) (hm : m &&& 316912650057057350374175801345 = 316912650057057350374175801345) (b : Nat) (r : Nat) (slots : Nat) (l : List Word) : Keeps m s (State.cplPut u b r slots l) := by
  unfold State.cplPut
  with_reducible repeat' (first | assumption | intro _ | exact sub_mask hm rfl | rfl | apply State.put_keeps | apply State.emit_keeps | apply ite_keep | apply foldl_keep | split | dsimp only)
theorem State.cplPad_keeps {m : Nat} {s u : State} (h : Keeps m s u) (hm : m &&& 316912650057057350374175801345 = 316912650057057350374175801345) (b : Nat) (r : Nat) (l : List Word) : Keeps m s (State.cplPad u b r l) := by
  unfold State.cplPad
  with_reducible repeat' (first | assumption | intro _ | exact sub_mask hm rfl | rfl | apply State.cplPut_keeps | apply ite_keep | apply foldl_keep | split | dsimp only)
theorem State.cplWrite_keeps {m : Nat} {s u : State} (h : Keeps m s u) (hm : m &&& 316912650057057350374175803393 = 316912650057057350374175803393) (b : Nat) (r : Nat) (l : List Word) : Keeps m s (State.cplWrite u b r l).2 := by
  unfold State.cplWrite
  with_reducible repeat' (first | assumption | intro _ | exact sub_mask hm rfl | rfl | apply State.cplPut_keeps | apply State.vecDue_keeps | apply State.cplPad_keeps | apply ite_keep | apply foldl_keep | apply ite_keep2 | apply foldl_keep2 | split | dsimp only)
theorem State.cringDone_keeps {m : Nat} {s u : State} (h : Keeps m s u) (hm : m &&& 262145 = 262145) (b : Nat) (r : Nat) : Keeps m s (State.cringDone u b r) := by
  unfold State.cringDone
  with_reducible repeat' (first | assumption | intro _ | exact sub_mask hm rfl | rfl | apply State.put_keeps | apply State.setCring_keeps | apply ite_keep | apply foldl_keep | split | dsimp only)
theorem State.cplWaits_keeps {m : Nat} {s u : State} (h : Keeps m s u) (hm : m &&& 9223372036854775808 = 9223372036854775808) (b : Nat) (r : Nat) (full : Bool) : Keeps m s (State.cplWaits u b r full) := by
  unfold State.cplWaits
  with_reducible repeat' (first | assumption | intro _ | exact sub_mask hm rfl | rfl | apply ite_keep | apply foldl_keep | split | dsimp only | apply keep_ques)
theorem State.showQue_keeps {m : Nat} {s u : State} (h : Keeps m s u) (hm : m &&& 1 = 1) (q : Nat) : Keeps m s (State.showQue u q) := by
  unfold State.showQue
  with_reducible repeat' (first | assumption | intro _ | exact sub_mask hm rfl | rfl | apply State.put_keeps | apply State.wn_keeps | apply State.wr64_keeps | apply ite_keep | apply foldl_keep | split | dsimp only)
theorem State.pickPlot_keeps {m : Nat} {s u : State} (h : Keeps m s u) (hm : m &&& 633825300114114700748351602688 = 633825300114114700748351602688) (tier : Nat) : Keeps m s (State.pickPlot u tier).2 := by
  unfold State.pickPlot
  with_reducible repeat' (first | assumption | intro _ | exact sub_mask hm rfl | rfl | apply State.draw_keeps | apply ite_keep | apply foldl_keep | apply ite_keep2 | apply foldl_keep2 | split | refine pairKeep2 (by assumption) ?_ | dsimp only)
theorem State.setPlot_keeps {m : Nat} {s u : State} (h : Keeps m s u) (hm : m &&& 4611686018427387904 = 4611686018427387904) (id : Nat) (x : Plot) : Keeps m s (State.setPlot u id x) := by
  unfold State.setPlot
  with_reducible repeat' (first | assumption | intro _ | exact sub_mask hm rfl | rfl | apply ite_keep | apply foldl_keep | split | dsimp only | apply keep_plots)
theorem State.setEsc_keeps {m : Nat} {s u : State} (h : Keeps m s u) (hm : m &&& 316912650075504094447885355489 = 316912650075504094447885355489) (tier : Nat) (v : Nat) : Keeps m s (State.setEsc u tier v) := by
  unfold State.setEsc
  with_reducible repeat' (first | assumption | intro _ | exact sub_mask hm rfl | rfl | apply State.put_keeps | apply State.raise_keeps | apply ite_keep | apply foldl_keep | split | dsimp only | apply keep_plotBook)
theorem State.takePlot_keeps {m : Nat} {s u : State} (h : Keeps m s u) (hm : m &&& 950737950194230481214664346081 = 950737950194230481214664346081) (tier : Nat) (kind : Nat) (owner : Nat) (b : Nat) (esc : Bool) : Keeps m s (State.takePlot u tier kind owner b esc).2 := by
  unfold State.takePlot
  with_reducible repeat' (first | assumption | intro _ | exact sub_mask hm rfl | rfl | apply State.pickPlot_keeps | apply State.setPlot_keeps | apply State.put_keeps | apply State.wn_keeps | apply State.setEsc_keeps | apply State.raise_keeps | apply ite_keep | apply foldl_keep | apply ite_keep2 | apply foldl_keep2 | split | refine pairKeep2 (by assumption) ?_ | dsimp only)
theorem State.prefetch_keeps {m : Nat} {s u : State} (h : Keeps m s u) (hm : m &&& 950737950231123969362083449313 = 950737950231123969362083449313) (q : Nat) : Keeps m s (State.prefetch u q) := by
  unfold State.prefetch
  with_reducible repeat' (first | assumption | intro _ | exact sub_mask hm rfl | rfl | apply State.takePlot_keeps | apply State.put_keeps | apply ite_keep | apply foldl_keep | apply ite_keep2 | apply foldl_keep2 | split | refine pairKeep2 (by assumption) ?_ | dsimp only | apply keep_copies)
theorem State.retirePlot_keeps {m : Nat} {s u : State} (h : Keeps m s u) (hm : m &&& 316912650061669036461322668513 = 316912650061669036461322668513) (id : Nat) (policy : Bool) : Keeps m s (State.retirePlot u id policy) := by
  unfold State.retirePlot
  with_reducible repeat' (first | assumption | intro _ | exact sub_mask hm rfl | rfl | apply State.setPlot_keeps | apply State.spareExhausted_keeps | apply State.raise_keeps | apply State.useSpare_keeps | apply State.wn_keeps | apply ite_keep | apply foldl_keep | split | dsimp only)
theorem State.freePlot_keeps {m : Nat} {s u : State} (h : Keeps m s u) (hm : m &&& 316912650080115780535032220129 = 316912650080115780535032220129) (id : Nat) : Keeps m s (State.freePlot u id) := by
  unfold State.freePlot
  with_reducible repeat' (first | assumption | intro _ | exact sub_mask hm rfl | rfl | apply State.put_keeps | apply State.setEsc_keeps | apply State.retirePlot_keeps | apply State.wn_keeps | apply State.setPlot_keeps | apply ite_keep | apply foldl_keep | split | dsimp only)
theorem State.setQue_keeps {m : Nat} {s u : State} (h : Keeps m s u) (hm : m &&& 9223372036854775808 = 9223372036854775808) (q : Nat) (x : Que) : Keeps m s (State.setQue u q x) := by
  unfold State.setQue
  with_reducible repeat' (first | assumption | intro _ | exact sub_mask hm rfl | rfl | apply ite_keep | apply foldl_keep | split | dsimp only | apply keep_ques)
theorem State.advance_keeps {m : Nat} {s u : State} (h : Keeps m s u) (hm : m &&& 316912650089339152571886995937 = 316912650089339152571886995937) (q : Nat) (a2 : Nat) (a3 : Nat) : Keeps m s (State.advance u q a2 a3) := by
  induction a2 generalizing u a3 with
  | zero => unfold State.advance; with_reducible repeat' (first | assumption | intro _ | exact sub_mask hm rfl | rfl | apply State.freePlot_keeps | apply State.setQue_keeps | apply ite_keep | apply foldl_keep | split | dsimp only)
  | succ n ih => unfold State.advance; with_reducible repeat' (first | assumption | apply ih | intro _ | exact sub_mask hm rfl | rfl | apply State.freePlot_keeps | apply State.setQue_keeps | apply ite_keep | apply foldl_keep | split | dsimp only)
theorem State.chainRead_keeps {m : Nat} {s u : State} (h : Keeps m s u) (hm : m &&& 950737950240347341467657701857 = 950737950240347341467657701857) (q : Nat) (n : Nat) : Keeps m s (State.chainRead u q n) := by
  unfold State.chainRead
  with_reducible repeat' (first | assumption | intro _ | exact sub_mask hm rfl | rfl | apply State.showQue_keeps | apply State.prefetch_keeps | apply State.advance_keeps | apply State.setQue_keeps | apply ite_keep | apply foldl_keep | split | dsimp only)
theorem State.cplRead_keeps {m : Nat} {s u : State} (h : Keeps m s u) (hm : m &&& 950737950240347341467657964001 = 950737950240347341467657964001) (b : Nat) (r : Nat) (l : List Word) : Keeps m s (State.cplRead u b r l) := by
  unfold State.cplRead
  with_reducible repeat' (first | assumption | intro _ | exact sub_mask hm rfl | rfl | apply State.chainRead_keeps | apply State.setCring_keeps | apply ite_keep | apply foldl_keep | split | dsimp only)
theorem State.cplFlush_keeps {m : Nat} {s u : State} (h : Keeps m s u) (hm : m &&& 950737950240347341467657964001 = 950737950240347341467657964001) (b : Nat) (r : Nat) (a3 : List (List Word)) : Keeps m s (State.cplFlush u b r a3) := by
  induction a3 generalizing u with
  | nil => unfold State.cplFlush; with_reducible repeat' (first | assumption | intro _ | exact sub_mask hm rfl | rfl | apply State.setCring_keeps | apply State.cplWrite_keeps | apply State.cringDone_keeps | apply State.cplWaits_keeps | apply State.cplRead_keeps | apply ite_keep | apply foldl_keep | apply ite_keep2 | apply foldl_keep2 | split | refine pairKeep2 (by assumption) ?_ | dsimp only)
  | cons _ n ih => unfold State.cplFlush; with_reducible repeat' (first | assumption | apply ih | intro _ | exact sub_mask hm rfl | rfl | apply State.setCring_keeps | apply State.cplWrite_keeps | apply State.cringDone_keeps | apply State.cplWaits_keeps | apply State.cplRead_keeps | apply ite_keep | apply foldl_keep | apply ite_keep2 | apply foldl_keep2 | split | refine pairKeep2 (by assumption) ?_ | dsimp only)
theorem State.fillPlot_keeps {m : Nat} {s u : State} (h : Keeps m s u) (hm : m &&& 4611686018427387904 = 4611686018427387904) (id : Nat) (n : Nat) : Keeps m s (State.fillPlot u id n) := by
  unfold State.fillPlot
  with_reducible repeat' (first | assumption | intro _ | exact sub_mask hm rfl | rfl | apply State.setPlot_keeps | apply ite_keep | apply foldl_keep | split | dsimp only)
theorem State.fillTail_keeps {m : Nat} {s u : State} (h : Keeps m s u) (hm : m &&& 4611686018427387904 = 4611686018427387904) (q : Nat) (n : Nat) : Keeps m s (State.fillTail u q n) := by
  unfold State.fillTail
  with_reducible repeat' (first | assumption | intro _ | exact sub_mask hm rfl | rfl | apply State.fillPlot_keeps | apply ite_keep | apply foldl_keep | split | dsimp only)
theorem State.noPlotCount_keeps {m : Nat} {s u : State} (h : Keeps m s u) (hm : m &&& 316912650057057350374175803873 = 316912650057057350374175803873) : Keeps m s (State.noPlotCount u) := by
  unfold State.noPlotCount
  with_reducible repeat' (first | assumption | intro _ | exact sub_mask hm rfl | rfl | apply State.bumpSat_keeps | apply ite_keep | apply foldl_keep | split | dsimp only)
theorem State.askTiers_keeps {m : Nat} {s u : State} (h : Keeps m s u) (hm : m &&& 950737950203453853251519121889 = 950737950203453853251519121889) (q : Nat) (tiers : List Nat) : Keeps m s (State.askTiers u q tiers).2 := by
  unfold State.askTiers
  with_reducible repeat' (first | assumption | intro _ | exact sub_mask hm rfl | rfl | apply State.takePlot_keeps | apply State.noPlotCount_keeps | apply State.raise_keeps | apply State.put_keeps | apply State.setQue_keeps | apply ite_keep | apply foldl_keep | apply ite_keep2 | apply foldl_keep2 | split | refine pairKeep2 (by assumption) ?_ | dsimp only | apply keep_plotBook)
theorem State.showElastic_keeps {m : Nat} {s u : State} (h : Keeps m s u) (hm : m &&& 1 = 1) : Keeps m s (State.showElastic u) := by
  unfold State.showElastic
  with_reducible repeat' (first | assumption | intro _ | exact sub_mask hm rfl | rfl | apply State.wn_keeps | apply ite_keep | apply foldl_keep | split | dsimp only)
theorem State.refuseWriter_keeps {m : Nat} {s u : State} (h : Keeps m s u) (hm : m &&& 316912650066280722411030579681 = 316912650066280722411030579681) (q : Nat) : Keeps m s (State.refuseWriter u q) := by
  unfold State.refuseWriter
  with_reducible repeat' (first | assumption | intro _ | exact sub_mask hm rfl | rfl | apply State.showElastic_keeps | apply State.setQue_keeps | apply State.raise_keeps | apply State.put_keeps | apply ite_keep | apply foldl_keep | split | dsimp only)
theorem State.askPlot_keeps {m : Nat} {s u : State} (h : Keeps m s u) (hm : m &&& 950737950203453853251519121889 = 950737950203453853251519121889) (q : Nat) : Keeps m s (State.askPlot u q).2 := by
  unfold State.askPlot
  with_reducible repeat' (first | assumption | intro _ | exact sub_mask hm rfl | rfl | apply State.askTiers_keeps | apply State.setQue_keeps | apply State.showElastic_keeps | apply State.showQue_keeps | apply State.put_keeps | apply State.refuseWriter_keeps | apply ite_keep | apply foldl_keep | apply ite_keep2 | apply foldl_keep2 | split | refine pairKeep2 (by assumption) ?_ | dsimp only)
theorem State.pageOut_keeps {m : Nat} {s u : State} (h : Keeps m s u) (hm : m &&& 950737950240347341398938225121 = 950737950240347341398938225121) (q : Nat) (id : Nat) : Keeps m s (State.pageOut u q id) := by
  unfold State.pageOut
  with_reducible repeat' (first | assumption | intro _ | exact sub_mask hm rfl | rfl | apply State.askTiers_keeps | apply State.put_keeps | apply ite_keep | apply foldl_keep | apply ite_keep2 | apply foldl_keep2 | split | refine pairKeep2 (by assumption) ?_ | dsimp only | apply keep_copies)
theorem State.chainWrite_keeps {m : Nat} {s u : State} (h : Keeps m s u) (hm : m &&& 950737950240347341398938225121 = 950737950240347341398938225121) (q : Nat) (n : Nat) : Keeps m s (State.chainWrite u q n).2 := by
  unfold State.chainWrite
  with_reducible repeat' (first | assumption | intro _ | exact sub_mask hm rfl | rfl | apply State.showQue_keeps | apply State.setQue_keeps | apply State.fillTail_keeps | apply State.askPlot_keeps | apply State.pageOut_keeps | apply State.fillPlot_keeps | apply ite_keep | apply foldl_keep | apply ite_keep2 | apply foldl_keep2 | split | refine pairKeep2 (by assumption) ?_ | dsimp only)
theorem State.cplQueued_keeps {m : Nat} {s u : State} (h : Keeps m s u) (hm : m &&& 950737950240347341398938487265 = 950737950240347341398938487265) (b : Nat) (r : Nat) (a3 : List (List Word)) : Keeps m s (State.cplQueued u b r a3) := by
  induction a3 generalizing u with
  | nil => unfold State.cplQueued; with_reducible repeat' (first | assumption | intro _ | exact sub_mask hm rfl | rfl | apply State.chainWrite_keeps | apply State.setCring_keeps | apply ite_keep | apply foldl_keep | apply ite_keep2 | apply foldl_keep2 | split | refine pairKeep2 (by assumption) ?_ | dsimp only)
  | cons _ n ih => unfold State.cplQueued; with_reducible repeat' (first | assumption | apply ih | intro _ | exact sub_mask hm rfl | rfl | apply State.chainWrite_keeps | apply State.setCring_keeps | apply ite_keep | apply foldl_keep | apply ite_keep2 | apply foldl_keep2 | split | refine pairKeep2 (by assumption) ?_ | dsimp only)
theorem State.cplSend_keeps {m : Nat} {s u : State} (h : Keeps m s u) (hm : m &&& 950737950240347341467657964001 = 950737950240347341467657964001) (b : Nat) (r : Nat) (l : List (List Word)) : Keeps m s (State.cplSend u b r l) := by
  unfold State.cplSend
  with_reducible repeat' (first | assumption | intro _ | exact sub_mask hm rfl | rfl | apply State.cplFlush_keeps | apply State.cplQueued_keeps | apply ite_keep | apply foldl_keep | split | dsimp only)
theorem State.ringReply_keeps {m : Nat} {s u : State} (h : Keeps m s u) (hm : m &&& 950737950240347341467657964001 = 950737950240347341467657964001) (b : Nat) (r : Nat) (l : List Word) : Keeps m s (State.ringReply u b r l) := by
  unfold State.ringReply
  with_reducible repeat' (first | assumption | intro _ | exact sub_mask hm rfl | rfl | apply State.replyLost_keeps | apply State.cringDone_keeps | apply State.cplSend_keeps | apply ite_keep | apply foldl_keep | split | dsimp only)
theorem State.setSend_keeps {m : Nat} {s u : State} (h : Keeps m s u) (hm : m &&& 1237940039285380274899124224 = 1237940039285380274899124224) (d : Nat) (x : GazSend) : Keeps m s (State.setSend u d x) := by
  unfold State.setSend
  with_reducible repeat' (first | assumption | intro _ | exact sub_mask hm rfl | rfl | apply ite_keep | apply foldl_keep | split | dsimp only | apply keep_gazSends)
theorem State.treeReply_keeps {m : Nat} {s u : State} (h : Keeps m s u) (hm : m &&& 1237940039285380274899124224 = 1237940039285380274899124224) (d : Nat) (l : List Word) : Keeps m s (State.treeReply u d l) := by
  unfold State.treeReply
  with_reducible repeat' (first | assumption | intro _ | exact sub_mask hm rfl | rfl | apply State.setSend_keeps | apply ite_keep | apply foldl_keep | split | dsimp only)
theorem State.setEnv_keeps {m : Nat} {s u : State} (h : Keeps m s u) (hm : m &&& 32768 = 32768) (b : Nat) (x : EnvCtr) : Keeps m s (State.setEnv u b x) := by
  unfold State.setEnv
  with_reducible repeat' (first | assumption | intro _ | exact sub_mask hm rfl | rfl | apply ite_keep | apply foldl_keep | split | dsimp only | apply keep_envs)
theorem State.sendTx_keeps {m : Nat} {s u : State} (h : Keeps m s u) (hm : m &&& 1125899906842624 = 1125899906842624) (sheet : Nat) (l : List TxFlit) : Keeps m s (State.sendTx u sheet l) := by
  unfold State.sendTx
  with_reducible repeat' (first | assumption | intro _ | exact sub_mask hm rfl | rfl | apply ite_keep | apply foldl_keep | split | dsimp only | apply keep_spxTx)
theorem State.envReply_keeps {m : Nat} {s u : State} (h : Keeps m s u) (hm : m &&& 316912650057058476274082676736 = 316912650057058476274082676736) (path : Path) (b : Nat) (l : List Word) : Keeps m s (State.envReply u path b l) := by
  unfold State.envReply
  with_reducible repeat' (first | assumption | intro _ | exact sub_mask hm rfl | rfl | apply State.setEnv_keeps | apply State.sendTx_keeps | apply State.emit_keeps | apply ite_keep | apply foldl_keep | split | dsimp only)
theorem State.sendOn_keeps {m : Nat} {s u : State} (h : Keeps m s u) (hm : m &&& 951975890279633847642463963617 = 951975890279633847642463963617) (path : Path) (b : Nat) (l : List Word) : Keeps m s (State.sendOn u path b l) := by
  unfold State.sendOn
  with_reducible repeat' (first | assumption | intro _ | exact sub_mask hm rfl | rfl | apply State.ringReply_keeps | apply State.treeReply_keeps | apply State.envReply_keeps | apply ite_keep | apply foldl_keep | split | dsimp only)
theorem State.complete_keeps {m : Nat} {s u : State} (h : Keeps m s u) (hm : m &&& 951975890279633847642463980001 = 951975890279633847642463980001) (op : Nat) (p : Packet) (status : Nat) (res : List Word) : Keeps m s (State.complete u op p status res) := by
  unfold State.complete
  with_reducible repeat' (first | assumption | intro _ | exact sub_mask hm rfl | rfl | apply State.setTag_keeps | apply State.sendOn_keeps | apply State.raise_keeps | apply ite_keep | apply foldl_keep | split | dsimp only)
theorem State.finishCmd_keeps {m : Nat} {s u : State} (h : Keeps m s u) (hm : m &&& 951975890279633847642465028577 = 951975890279633847642465028577) (action : Nat) (status : Nat) (res : List Word) : Keeps m s (State.finishCmd u action status res) := by
  unfold State.finishCmd
  with_reducible repeat' (first | assumption | intro _ | exact sub_mask hm rfl | rfl | apply State.complete_keeps | apply ite_keep | apply foldl_keep | split | dsimp only | apply keep_cmds)
theorem State.abortDiscarded_keeps {m : Nat} {s u : State} (h : Keeps m s u) (hm : m &&& 951975890279633847642465028577 = 951975890279633847642465028577) : Keeps m s (State.abortDiscarded u) := by
  unfold State.abortDiscarded
  with_reducible repeat' (first | assumption | intro _ | exact sub_mask hm rfl | rfl | apply State.finishCmd_keeps | apply ite_keep | apply foldl_keep | split | dsimp only)
theorem State.showRing_keeps {m : Nat} {s u : State} (h : Keeps m s u) (hm : m &&& 316912650209242988982279604705 = 316912650209242988982279604705) : Keeps m s (State.showRing u) := by
  unfold State.showRing
  with_reducible repeat' (first | assumption | intro _ | exact sub_mask hm rfl | rfl | apply State.setPlot_keeps | apply State.wn_keeps | apply State.put_keeps | apply State.raise_keeps | apply ite_keep | apply foldl_keep | split | dsimp only | apply keep_ring)
theorem State.gapRecord_keeps {m : Nat} {s u : State} (h : Keeps m s u) (hm : m &&& 316912650057057350374175803873 = 316912650057057350374175803873) (q : Nat) (g : Nat × Nat) : Keeps m s (State.gapRecord u q g) := by
  unfold State.gapRecord
  with_reducible repeat' (first | assumption | intro _ | exact sub_mask hm rfl | rfl | apply State.wr64_keeps | apply State.put_keeps | apply State.bumpSat_keeps | apply State.raise_keeps | apply ite_keep | apply foldl_keep | split | dsimp only)
theorem State.writeUnit_keeps {m : Nat} {s u : State} (h : Keeps m s u) (hm : m &&& 950737950240347411767682402785 = 950737950240347411767682402785) (q : Nat) (a2 : Nat) : Keeps m s (State.writeUnit u q a2) := by
  induction a2 generalizing u with
  | zero => unfold State.writeUnit; with_reducible repeat' (first | assumption | intro _ | exact sub_mask hm rfl | rfl | apply State.gapRecord_keeps | apply State.askPlot_keeps | apply State.setPlot_keeps | apply State.setQue_keeps | apply State.pageOut_keeps | apply State.vecDue_keeps | apply State.showQue_keeps | apply ite_keep | apply foldl_keep | apply ite_keep2 | apply foldl_keep2 | split | refine pairKeep2 (by assumption) ?_ | dsimp only | apply keep_units)
  | succ n ih => unfold State.writeUnit; with_reducible repeat' (first | assumption | apply ih | intro _ | exact sub_mask hm rfl | rfl | apply State.gapRecord_keeps | apply State.askPlot_keeps | apply State.setPlot_keeps | apply State.setQue_keeps | apply State.pageOut_keeps | apply State.vecDue_keeps | apply State.showQue_keeps | apply ite_keep | apply foldl_keep | apply ite_keep2 | apply foldl_keep2 | split | refine pairKeep2 (by assumption) ?_ | dsimp only | apply keep_units)
theorem State.freePlots_keeps {m : Nat} {s u : State} (h : Keeps m s u) (hm : m &&& 316912650080115780535032220129 = 316912650080115780535032220129) (l : List Nat) : Keeps m s (State.freePlots u l) := by
  unfold State.freePlots
  with_reducible repeat' (first | assumption | intro _ | exact sub_mask hm rfl | rfl | apply State.freePlot_keeps | apply ite_keep | apply foldl_keep | split | dsimp only)
theorem State.releaseCapture_keeps {m : Nat} {s u : State} (h : Keeps m s u) (hm : m &&& 316912650227689733124708633057 = 316912650227689733124708633057) (seq : Nat) : Keeps m s (State.releaseCapture u seq) := by
  unfold State.releaseCapture
  with_reducible repeat' (first | assumption | intro _ | exact sub_mask hm rfl | rfl | apply State.showRing_keeps | apply State.freePlots_keeps | apply ite_keep | apply foldl_keep | split | dsimp only | apply keep_ring)
theorem State.placeholder_keeps {m : Nat} {s u : State} (h : Keeps m s u) (hm : m &&& 316912650066280722411030579681 = 316912650066280722411030579681) (q : Nat) (first : Nat) (last : Nat) : Keeps m s (State.placeholder u q first last) := by
  unfold State.placeholder
  with_reducible repeat' (first | assumption | intro _ | exact sub_mask hm rfl | rfl | apply State.setQue_keeps | apply State.raise_keeps | apply State.put_keeps | apply ite_keep | apply foldl_keep | split | dsimp only)
theorem State.recAppend_keeps {m : Nat} {s u : State} (h : Keeps m s u) (hm : m &&& 9223372036854775808 = 9223372036854775808) (q : Nat) (recStart : Bool) (l : List Byte) (a4 : Nat) : Keeps m s (State.recAppend u q recStart l a4) := by
  induction a4 generalizing u recStart l with
  | zero => unfold State.recAppend; with_reducible repeat' (first | assumption | intro _ | exact sub_mask hm rfl | rfl | apply State.setQue_keeps | apply ite_keep | apply foldl_keep | split | dsimp only)
  | succ n ih => unfold State.recAppend; with_reducible repeat' (first | assumption | apply ih | intro _ | exact sub_mask hm rfl | rfl | apply State.setQue_keeps | apply ite_keep | apply foldl_keep | split | dsimp only)
theorem State.recShort_keeps {m : Nat} {s u : State} (h : Keeps m s u) (hm : m &&& 9223372036854775808 = 9223372036854775808) (q : Nat) : Keeps m s (State.recShort u q) := by
  unfold State.recShort
  with_reducible repeat' (first | assumption | intro _ | exact sub_mask hm rfl | rfl | apply State.setQue_keeps | apply ite_keep | apply foldl_keep | split | dsimp only)
theorem State.recOffer_keeps {m : Nat} {s u : State} (h : Keeps m s u) (hm : m &&& 316912650066280722411030579681 = 316912650066280722411030579681) (q : Nat) (l : List Byte) : Keeps m s (State.recOffer u q l) := by
  unfold State.recOffer
  with_reducible repeat' (first | assumption | intro _ | exact sub_mask hm rfl | rfl | apply State.recAppend_keeps | apply State.recShort_keeps | apply State.placeholder_keeps | apply State.setQue_keeps | apply ite_keep | apply foldl_keep | split | dsimp only)
theorem State.offerUnit_keeps {m : Nat} {s u : State} (h : Keeps m s u) (hm : m &&& 316912650236913175530307586529 = 316912650236913175530307586529) (u0 : ReadyItem) : Keeps m s (State.offerUnit u u0) := by
  unfold State.offerUnit
  with_reducible repeat' (first | assumption | intro _ | exact sub_mask hm rfl | rfl | apply State.releaseCapture_keeps | apply State.placeholder_keeps | apply State.setQue_keeps | apply State.showElastic_keeps | apply State.recOffer_keeps | apply ite_keep | apply foldl_keep | split | dsimp only | apply keep_units)
theorem State.handItem_keeps {m : Nat} {s u : State} (h : Keeps m s u) (hm : m &&& 316912650236913210714679675361 = 316912650236913210714679675361) : Keeps m s (State.handItem u) := by
  unfold State.handItem
  with_reducible repeat' (first | assumption | intro _ | exact sub_mask hm rfl | rfl | apply State.offerUnit_keeps | apply ite_keep | apply foldl_keep | split | dsimp only | apply keep_items)
theorem State.recRelease_keeps {m : Nat} {s u : State} (h : Keeps m s u) (hm : m &&& 1 = 1) (q : Nat) : Keeps m s (State.recRelease u q) := by
  unfold State.recRelease
  with_reducible repeat' (first | assumption | intro _ | exact sub_mask hm rfl | rfl | apply State.put_keeps | apply ite_keep | apply foldl_keep | split | dsimp only)
theorem State.drained_keeps {m : Nat} {s u : State} (h : Keeps m s u) (hm : m &&& 316912650089339152571887520225 = 316912650089339152571887520225) (q : Nat) : Keeps m s (State.drained u q) := by
  unfold State.drained
  with_reducible repeat' (first | assumption | intro _ | exact sub_mask hm rfl | rfl | apply State.freePlots_keeps | apply State.setQue_keeps | apply State.recRelease_keeps | apply State.put_keeps | apply State.raise_keeps | apply State.showElastic_keeps | apply State.showQue_keeps | apply State.wn_keeps | apply ite_keep | apply foldl_keep | split | dsimp only | apply keep_quesOn)
theorem State.dropUnits_keeps {m : Nat} {s u : State} (h : Keeps m s u) (hm : m &&& 316912650236913105161563408865 = 316912650236913105161563408865) (q : Nat) (a2 : Nat) : Keeps m s (State.dropUnits u q a2) := by
  induction a2 generalizing u with
  | zero => unfold State.dropUnits; with_reducible repeat' (first | assumption | intro _ | exact sub_mask hm rfl | rfl | apply State.advance_keeps | apply State.setQue_keeps | apply State.releaseCapture_keeps | apply ite_keep | apply foldl_keep | split | dsimp only)
  | succ n ih => unfold State.dropUnits; with_reducible repeat' (first | assumption | apply ih | intro _ | exact sub_mask hm rfl | rfl | apply State.advance_keeps | apply State.setQue_keeps | apply State.releaseCapture_keeps | apply ite_keep | apply foldl_keep | split | dsimp only)
theorem State.readQue_keeps {m : Nat} {s u : State} (h : Keeps m s u) (hm : m &&& 950737950387921294057334639073 = 950737950387921294057334639073) (q : Nat) (n : Nat) : Keeps m s (State.readQue u q n) := by
  unfold State.readQue
  with_reducible repeat' (first | assumption | intro _ | exact sub_mask hm rfl | rfl | apply State.drained_keeps | apply State.prefetch_keeps | apply State.dropUnits_keeps | apply State.setQue_keeps | apply ite_keep | apply foldl_keep | split | dsimp only)
theorem State.sendItem_keeps {m : Nat} {s u : State} (h : Keeps m s u) (hm : m &&& 35184372088832 = 35184372088832) (q : Nat) (first : Nat) (last : Nat) (kind : Nat) (b : List Byte) : Keeps m s (State.sendItem u q first last kind b) := by
  unfold State.sendItem
  with_reducible repeat' (first | assumption | intro _ | exact sub_mask hm rfl | rfl | apply ite_keep | apply foldl_keep | split | dsimp only | apply keep_items)
theorem State.trgSend_keeps {m : Nat} {s u : State} (h : Keeps m s u) (hm : m &&& 18889465966662952943616 = 18889465966662952943616) (b : List Byte) : Keeps m s (State.trgSend u b) := by
  unfold State.trgSend
  with_reducible repeat' (first | assumption | intro _ | exact sub_mask hm rfl | rfl | apply State.sendItem_keeps | apply ite_keep | apply foldl_keep | split | dsimp only | apply keep_trgSeq)
theorem State.writeFront_keeps {m : Nat} {s u : State} (h : Keeps m s u) (hm : m &&& 950737950240347411767682402785 = 950737950240347411767682402785) (q : Nat) : Keeps m s (State.writeFront u q) := by
  unfold State.writeFront
  with_reducible repeat' (first | assumption | intro _ | exact sub_mask hm rfl | rfl | apply State.showElastic_keeps | apply State.writeUnit_keeps | apply ite_keep | apply foldl_keep | split | dsimp only)
theorem State.offerTrig_keeps {m : Nat} {s u : State} (h : Keeps m s u) (hm : m &&& 562949953421312 = 562949953421312) (src : Nat) (t : Int) (coarse : Bool) (slot : Nat) : Keeps m s (State.offerTrig u src t coarse slot) := by
  unfold State.offerTrig
  with_reducible repeat' (first | assumption | intro _ | exact sub_mask hm rfl | rfl | apply ite_keep | apply foldl_keep | split | dsimp only | apply keep_trigs)
theorem execTimCalStale_keeps {m : Nat} {s u : State} (h : Keeps m s u) (hm : m &&& 316912650057057350374242912737 = 316912650057057350374242912737) (p : Nat) (temp : Int) : OutKeeps m s (execTimCalStale p temp u) := by
  unfold execTimCalStale
  with_reducible repeat' (first | assumption | intro _ | exact sub_mask hm rfl | rfl | apply State.raise_keeps | apply State.put_keeps | apply ite_keep | apply foldl_keep | apply outKeep_next | apply ite_outKeep | split | dsimp only | apply keep_tdc)
theorem State.coreStart_keeps {m : Nat} {s u : State} (h : Keeps m s u) (hm : m &&& 67108865 = 67108865) (p : Nat) (ctl : Bool) : Keeps m s (State.coreStart u p ctl) := by
  unfold State.coreStart
  with_reducible repeat' (first | assumption | intro _ | exact sub_mask hm rfl | rfl | apply State.put_keeps | apply ite_keep | apply foldl_keep | split | dsimp only | apply keep_tdc)
theorem State.coreStatWrite_keeps {m : Nat} {s u : State} (h : Keeps m s u) (hm : m &&& 316912650057057350442962389473 = 316912650057057350442962389473) (p : Nat) (w : Wr) : Keeps m s (State.coreStatWrite u p w) := by
  unfold State.coreStatWrite
  with_reducible repeat' (first | assumption | intro _ | exact sub_mask hm rfl | rfl | apply State.coreStart_keeps | apply State.refuseDom_keeps | apply State.put_keeps | apply ite_keep | apply foldl_keep | split | dsimp only)
theorem execTimCoreStart_keeps {m : Nat} {s u : State} (h : Keeps m s u) (hm : m &&& 316912650057057350442962389993 = 316912650057057350442962389993) (p : Nat) (w : Wr) : OutKeeps m s (execTimCoreStart p w u) := by
  unfold execTimCoreStart
  with_reducible repeat' (first | assumption | intro _ | exact sub_mask hm rfl | rfl | apply State.pfOnly_keeps | apply State.coreStatWrite_keeps | apply ite_keep | apply foldl_keep | apply outKeep_next | apply ite_outKeep | split | dsimp only)
theorem State.latchWords_keeps {m : Nat} {s u : State} (h : Keeps m s u) (hm : m &&& 1 = 1) (r : Nat → Reg) (t : Int) (w3 : Nat) : Keeps m s (State.latchWords u r t w3) := by
  unfold State.latchWords
  with_reducible repeat' (first | assumption | intro _ | exact sub_mask hm rfl | rfl | apply State.wn_keeps | apply ite_keep | apply foldl_keep | split | dsimp only)
theorem State.popTag_keeps {m : Nat} {s u : State} (h : Keeps m s u) (hm : m &&& 316912650057057350374712672257 = 316912650057057350374712672257) (fn : Nat) (n : Nat) : Keeps m s (State.popTag u fn n) := by
  unfold State.popTag
  with_reducible repeat' (first | assumption | intro _ | exact sub_mask hm rfl | rfl | apply State.latchWords_keeps | apply State.emit_keeps | apply ite_keep | apply foldl_keep | split | dsimp only | apply keep_tagQ)
theorem State.edgeTag_keeps {m : Nat} {s u : State} (h : Keeps m s u) (hm : m &&& 316912650057057350409072413153 = 316912650057057350409072413153) (n : Nat) (x : EdgeTag) : Keeps m s (State.edgeTag u n x) := by
  unfold State.edgeTag
  with_reducible repeat' (first | assumption | intro _ | exact sub_mask hm rfl | rfl | apply State.pqLose_keeps | apply State.popTag_keeps | apply State.popResume_keeps | apply ite_keep | apply foldl_keep | split | dsimp only | apply keep_tagQ)
theorem State.coresStart_keeps {m : Nat} {s u : State} (h : Keeps m s u) (hm : m &&& 67108865 = 67108865) (core : Nat) (ctl : Bool) : Keeps m s (State.coresStart u core ctl) := by
  unfold State.coresStart
  with_reducible repeat' (first | assumption | intro _ | exact sub_mask hm rfl | rfl | apply State.coreStart_keeps | apply ite_keep | apply foldl_keep | split | dsimp only)
theorem State.calCtlWrite_keeps {m : Nat} {s u : State} (h : Keeps m s u) (hm : m &&& 81446551064663739046231967533537 = 81446551064663739046231967533537) (w : Wr) : Keeps m s (State.calCtlWrite u w) := by
  unfold State.calCtlWrite
  with_reducible repeat' (first | assumption | intro _ | exact sub_mask hm rfl | rfl | apply State.raise_keeps | apply State.mergeRaw_keeps | apply State.put_keeps | apply State.coresStart_keeps | apply State.refuseDom_keeps | apply ite_keep | apply foldl_keep | split | dsimp only | apply keep_timCal)
theorem execTimCalStart_keeps {m : Nat} {s u : State} (h : Keeps m s u) (hm : m &&& 81446551064663739046231967534057 = 81446551064663739046231967534057) (w : Wr) : OutKeeps m s (execTimCalStart w u) := by
  unfold execTimCalStart
  with_reducible repeat' (first | assumption | intro _ | exact sub_mask hm rfl | rfl | apply State.pfOnly_keeps | apply State.calCtlWrite_keeps | apply ite_keep | apply foldl_keep | apply outKeep_next | apply ite_outKeep | split | dsimp only)
theorem State.calCtlDone_keeps {m : Nat} {s u : State} (h : Keeps m s u) (hm : m &&& 1 = 1) : Keeps m s (State.calCtlDone u) := by
  unfold State.calCtlDone
  with_reducible repeat' (first | assumption | intro _ | exact sub_mask hm rfl | rfl | apply State.put_keeps | apply ite_keep | apply foldl_keep | split | dsimp only)
theorem State.gateStart_keeps {m : Nat} {s u : State} (h : Keeps m s u) (hm : m &&& 1073741824 = 1073741824) (k0 : Nat) (t : Int) (carry : Option (Int × Bool)) : Keeps m s (State.gateStart u k0 t carry) := by
  unfold State.gateStart
  with_reducible repeat' (first | assumption | intro _ | exact sub_mask hm rfl | rfl | apply ite_keep | apply foldl_keep | split | dsimp only | apply keep_freqs)
theorem State.gateEnd_keeps {m : Nat} {s u : State} (h : Keeps m s u) (hm : m &&& 1073741825 = 1073741825) (k0 : Nat) (g : FreqGate) : Keeps m s (State.gateEnd u k0 g) := by
  unfold State.gateEnd
  with_reducible repeat' (first | assumption | intro _ | exact sub_mask hm rfl | rfl | apply State.wr64_keeps | apply State.wn_keeps | apply State.put_keeps | apply State.gateStart_keeps | apply ite_keep | apply foldl_keep | split | dsimp only)
theorem execFreqGateEnd_keeps {m : Nat} {s u : State} (h : Keeps m s u) (hm : m &&& 1073741825 = 1073741825) (x : GateEnd) : OutKeeps m s (execFreqGateEnd x u) := by
  unfold execFreqGateEnd
  with_reducible repeat' (first | assumption | intro _ | exact sub_mask hm rfl | rfl | apply State.gateEnd_keeps | apply ite_keep | apply foldl_keep | apply outKeep_next | apply ite_outKeep | split | dsimp only)
theorem State.tdcSubstitute_keeps {m : Nat} {s u : State} (h : Keeps m s u) (hm : m &&& 316912650057057350443096607201 = 316912650057057350443096607201) (n : Nat) (pol : Bool) : Keeps m s (State.tdcSubstitute u n pol) := by
  unfold State.tdcSubstitute
  with_reducible repeat' (first | assumption | intro _ | exact sub_mask hm rfl | rfl | apply State.spareExhausted_keeps | apply State.coreStart_keeps | apply ite_keep | apply foldl_keep | split | dsimp only | apply keep_tdcSwitches)
theorem State.gatesEnd_keeps {m : Nat} {s u : State} (h : Keeps m s u) (hm : m &&& 1073741825 = 1073741825) (k0 : Nat) (t : Int) (n : Nat) : Keeps m s (State.gatesEnd u k0 t n) := by
  unfold State.gatesEnd
  with_reducible repeat' (first | assumption | intro _ | exact sub_mask hm rfl | rfl | apply State.gateEnd_keeps | apply ite_keep | apply foldl_keep | split | dsimp only)
theorem State.gatesDue_keeps {m : Nat} {s u : State} (h : Keeps m s u) (hm : m &&& 1073741825 = 1073741825) (src : Nat) (t : Int) : Keeps m s (State.gatesDue u src t) := by
  unfold State.gatesDue
  with_reducible repeat' (first | assumption | intro _ | exact sub_mask hm rfl | rfl | apply State.gatesEnd_keeps | apply ite_keep | apply foldl_keep | split | dsimp only)
theorem State.freqEdge_keeps {m : Nat} {s u : State} (h : Keeps m s u) (hm : m &&& 1073741825 = 1073741825) (src : Nat) (t : Int) (coarse : Bool) : Keeps m s (State.freqEdge u src t coarse) := by
  unfold State.freqEdge
  with_reducible repeat' (first | assumption | intro _ | exact sub_mask hm rfl | rfl | apply State.gatesDue_keeps | apply ite_keep | apply foldl_keep | split | dsimp only | apply keep_freqs)
theorem execEdgeCapture_keeps {m : Nat} {s u : State} (h : Keeps m s u) (hm : m &&& 316912650057057913360368011745 = 316912650057057913360368011745) (n : Nat) (i : Nat) (rising : Bool) : OutKeeps m s (execEdgeCapture n i rising u) := by
  unfold execEdgeCapture
  with_reducible repeat' (first | assumption | intro _ | exact sub_mask hm rfl | rfl | apply State.bump_keeps | apply State.raise_keeps | apply State.offerTrig_keeps | apply State.freqEdge_keeps | apply State.edgeTag_keeps | apply ite_keep | apply foldl_keep | apply outKeep_next | apply ite_outKeep | split | dsimp only | apply keep_edges)
theorem execCgLost_keeps {m : Nat} {s u : State} (h : Keeps m s u) (hm : m &&& 316912650057057350376323287521 = 316912650057057350376323287521) (g : Nat) : OutKeeps m s (execCgLost g u) := by
  unfold execCgLost
  with_reducible repeat' (first | assumption | intro _ | exact sub_mask hm rfl | rfl | apply State.raise_keeps | apply ite_keep | apply foldl_keep | apply outKeep_next | apply ite_outKeep | split | dsimp only | apply keep_cgLost)
theorem execTimCalRunEnd_keeps {m : Nat} {s u : State} (h : Keeps m s u) (hm : m &&& 316912650057057350443096607201 = 316912650057057350443096607201) (p : Nat) (counts : List Nat) (temp : Int) : OutKeeps m s (execTimCalRunEnd p counts temp u) := by
  unfold execTimCalRunEnd
  with_reducible repeat' (first | assumption | intro _ | exact sub_mask hm rfl | rfl | apply State.put_keeps | apply State.calCtlDone_keeps | apply State.raise_keeps | apply State.tdcSubstitute_keeps | apply State.spareExhausted_keeps | apply ite_keep | apply foldl_keep | apply outKeep_next | apply ite_outKeep | split | dsimp only | apply keep_tdc | apply keep_tdcSwitches)
theorem execTimCalPeriodic_keeps {m : Nat} {s u : State} (h : Keeps m s u) (hm : m &&& 81129638414606681695789072252929 = 81129638414606681695789072252929) : OutKeeps m s (execTimCalPeriodic u) := by
  unfold execTimCalPeriodic
  with_reducible repeat' (first | assumption | intro _ | exact sub_mask hm rfl | rfl | apply State.coresStart_keeps | apply ite_keep | apply foldl_keep | apply outKeep_next | apply ite_outKeep | split | dsimp only | apply keep_timCal)
theorem State.cgBack_keeps {m : Nat} {s u : State} (h : Keeps m s u) (hm : m &&& 316912650057057350376323287521 = 316912650057057350376323287521) (g : Nat) : Keeps m s (State.cgBack u g) := by
  unfold State.cgBack
  with_reducible repeat' (first | assumption | intro _ | exact sub_mask hm rfl | rfl | apply State.raise_keeps | apply ite_keep | apply foldl_keep | split | dsimp only | apply keep_cgLost)
theorem execTdcSpareSwitch_keeps {m : Nat} {s u : State} (h : Keeps m s u) (hm : m &&& 316912650057057350443029498337 = 316912650057057350443029498337) (n : Nat) : OutKeeps m s (execTdcSpareSwitch n u) := by
  unfold execTdcSpareSwitch
  with_reducible repeat' (first | assumption | intro _ | exact sub_mask hm rfl | rfl | apply State.put_keeps | apply State.useSpare_keeps | apply State.policyLog_keeps | apply ite_keep | apply foldl_keep | apply outKeep_next | apply ite_outKeep | split | dsimp only | apply keep_tdcSwitches)
theorem State.readReserved_keeps {m : Nat} {s u : State} (h : Keeps m s u) (hm : m &&& 316912650057057350374175804385 = 316912650057057350374175804385) (fn : Nat) (off : Nat) : Keeps m s (State.readReserved u fn off) := by
  unfold State.readReserved
  with_reducible repeat' (first | assumption | intro _ | exact sub_mask hm rfl | rfl | apply State.emit_keeps | apply State.reservedHit_keeps | apply ite_keep | apply foldl_keep | split | dsimp only)
theorem execTimTagPop_keeps {m : Nat} {s u : State} (h : Keeps m s u) (hm : m &&& 316912650057057350409072413673 = 316912650057057350409072413673) (fn : Nat) (n : Nat) : OutKeeps m s (execTimTagPop fn n u) := by
  unfold execTimTagPop
  with_reducible repeat' (first | assumption | intro _ | exact sub_mask hm rfl | rfl | apply State.flushHeld_keeps | apply State.popStall_keeps | apply State.popTag_keeps | apply State.readReserved_keeps | apply ite_keep | apply foldl_keep | apply outKeep_next | apply ite_outKeep | split | dsimp only)
theorem State.setSub_keeps {m : Nat} {s u : State} (h : Keeps m s u) (hm : m &&& 1 = 1) (r : Reg) (hi : Nat) (lo : Nat) (v : Nat) : Keeps m s (State.setSub u r hi lo v) := by
  unfold State.setSub
  with_reducible repeat' (first | assumption | intro _ | exact sub_mask hm rfl | rfl | apply State.put_keeps | apply ite_keep | apply foldl_keep | split | dsimp only)
theorem State.setSpareBit_keeps {m : Nat} {s u : State} (h : Keeps m s u) (hm : m &&& 1 = 1) (i : Nat) (b : Bool) : Keeps m s (State.setSpareBit u i b) := by
  unfold State.setSpareBit
  with_reducible repeat' (first | assumption | intro _ | exact sub_mask hm rfl | rfl | apply State.setSub_keeps | apply ite_keep | apply foldl_keep | split | dsimp only)
theorem State.retireSlice_keeps {m : Nat} {s u : State} (h : Keeps m s u) (hm : m &&& 316912650057057350442895280609 = 316912650057057350442895280609) (i : Nat) (sl : Nat) (by_ : Nat) (pol : Bool) : Keeps m s (State.retireSlice u i sl by_ pol) := by
  unfold State.retireSlice
  with_reducible repeat' (first | assumption | intro _ | exact sub_mask hm rfl | rfl | apply State.setSpareBit_keeps | apply State.setSub_keeps | apply State.useSpare_keeps | apply State.raise_keeps | apply ite_keep | apply foldl_keep | split | dsimp only)
theorem State.setGrp_keeps {m : Nat} {s u : State} (h : Keeps m s u) (hm : m &&& 274877906944 = 274877906944) (g : Nat) (x : Group) : Keeps m s (State.setGrp u g x) := by
  unfold State.setGrp
  with_reducible repeat' (first | assumption | intro _ | exact sub_mask hm rfl | rfl | apply ite_keep | apply foldl_keep | split | dsimp only | apply keep_grps)
theorem State.samplesStop_keeps {m : Nat} {s u : State} (h : Keeps m s u) (hm : m &&& 274877906944 = 274877906944) (g : Nat) : Keeps m s (State.samplesStop u g) := by
  unfold State.samplesStop
  with_reducible repeat' (first | assumption | intro _ | exact sub_mask hm rfl | rfl | apply State.setGrp_keeps | apply ite_keep | apply foldl_keep | split | dsimp only)
theorem execPllUnlock_keeps {m : Nat} {s u : State} (h : Keeps m s u) (hm : m &&& 316912650057057350649053710817 = 316912650057057350649053710817) (g : Nat) : OutKeeps m s (execPllUnlock g u) := by
  unfold execPllUnlock
  with_reducible repeat' (first | assumption | intro _ | exact sub_mask hm rfl | rfl | apply State.put_keeps | apply State.raise_keeps | apply State.samplesStop_keeps | apply ite_keep | apply foldl_keep | apply outKeep_next | apply ite_outKeep | split | dsimp only)
theorem State.setInp_keeps {m : Nat} {s u : State} (h : Keeps m s u) (hm : m &&& 549755813888 = 549755813888) (i : Nat) (x : Inp) : Keeps m s (State.setInp u i x) := by
  unfold State.setInp
  with_reducible repeat' (first | assumption | intro _ | exact sub_mask hm rfl | rfl | apply ite_keep | apply foldl_keep | split | dsimp only | apply keep_inps)
theorem State.unsettleGroup_keeps {m : Nat} {s u : State} (h : Keeps m s u) (hm : m &&& 549755813889 = 549755813889) (g : Nat) : Keeps m s (State.unsettleGroup u g) := by
  unfold State.unsettleGroup
  with_reducible repeat' (first | assumption | intro _ | exact sub_mask hm rfl | rfl | apply State.setSub_keeps | apply State.setInp_keeps | apply ite_keep | apply foldl_keep | split | dsimp only)
theorem State.setSlot_keeps {m : Nat} {s u : State} (h : Keeps m s u) (hm : m &&& 8388608 = 8388608) (n : Nat) (x : Slot) : Keeps m s (State.setSlot u n x) := by
  unfold State.setSlot
  with_reducible repeat' (first | assumption | intro _ | exact sub_mask hm rfl | rfl | apply ite_keep | apply foldl_keep | split | dsimp only | apply keep_slots)
theorem State.unfix_keeps {m : Nat} {s u : State} (h : Keeps m s u) (hm : m &&& 8388609 = 8388609) (g : Nat) : Keeps m s (State.unfix u g) := by
  unfold State.unfix
  with_reducible repeat' (first | assumption | intro _ | exact sub_mask hm rfl | rfl | apply State.put_keeps | apply State.setSlot_keeps | apply ite_keep | apply foldl_keep | split | dsimp only)
theorem State.slotsBegin_keeps {m : Nat} {s u : State} (h : Keeps m s u) (hm : m &&& 8388609 = 8388609) (g : Nat) (tr : Nat) : Keeps m s (State.slotsBegin u g tr) := by
  unfold State.slotsBegin
  with_reducible repeat' (first | assumption | intro _ | exact sub_mask hm rfl | rfl | apply State.put_keeps | apply State.setSlot_keeps | apply ite_keep | apply foldl_keep | split | dsimp only)
theorem State.samplesStart_keeps {m : Nat} {s u : State} (h : Keeps m s u) (hm : m &&& 274886295553 = 274886295553) (g : Nat) : Keeps m s (State.samplesStart u g) := by
  unfold State.samplesStart
  with_reducible repeat' (first | assumption | intro _ | exact sub_mask hm rfl | rfl | apply State.setGrp_keeps | apply State.put_keeps | apply State.unfix_keeps | apply State.wr64_keeps | apply State.slotsBegin_keeps | apply ite_keep | apply foldl_keep | split | dsimp only)
theorem State.surveyRun_keeps {m : Nat} {s u : State} (h : Keeps m s u) (hm : m &&& 1 = 1) (i : Nat) : Keeps m s (State.surveyRun u i) := by
  unfold State.surveyRun
  with_reducible repeat' (first | assumption | intro _ | exact sub_mask hm rfl | rfl | apply State.setSub_keeps | apply ite_keep | apply foldl_keep | split | dsimp only)
theorem State.loadTrims_keeps {m : Nat} {s u : State} (h : Keeps m s u) (hm : m &&& 1 = 1) (i : Nat) : Keeps m s (State.loadTrims u i) := by
  unfold State.loadTrims
  with_reducible repeat' (first | assumption | intro _ | exact sub_mask hm rfl | rfl | apply State.setSub_keeps | apply ite_keep | apply foldl_keep | split | dsimp only)
theorem State.stepStart_keeps {m : Nat} {s u : State} (h : Keeps m s u) (hm : m &&& 274877906944 = 274877906944) (g : Nat) : Keeps m s (State.stepStart u g) := by
  unfold State.stepStart
  with_reducible repeat' (first | assumption | intro _ | exact sub_mask hm rfl | rfl | apply State.setGrp_keeps | apply ite_keep | apply foldl_keep | split | dsimp only)
theorem State.samplesBack_keeps {m : Nat} {s u : State} (h : Keeps m s u) (hm : m &&& 824642109441 = 824642109441) (g : Nat) : Keeps m s (State.samplesBack u g) := by
  unfold State.samplesBack
  with_reducible repeat' (first | assumption | intro _ | exact sub_mask hm rfl | rfl | apply State.unsettleGroup_keeps | apply State.samplesStart_keeps | apply State.surveyRun_keeps | apply State.setInp_keeps | apply State.loadTrims_keeps | apply State.stepStart_keeps | apply ite_keep | apply foldl_keep | split | dsimp only)
theorem State.offlineFail_keeps {m : Nat} {s u : State} (h : Keeps m s u) (hm : m &&& 316912650057057350442895280609 = 316912650057057350442895280609) (i : Nat) (sl : Nat) (act : Bool) (pol : Bool) : Keeps m s (State.offlineFail u i sl act pol) := by
  unfold State.offlineFail
  with_reducible repeat' (first | assumption | intro _ | exact sub_mask hm rfl | rfl | apply State.retireSlice_keeps | apply State.raise_keeps | apply State.setSpareBit_keeps | apply State.setSub_keeps | apply ite_keep | apply foldl_keep | split | dsimp only)
theorem State.groupStop_keeps {m : Nat} {s u : State} (h : Keeps m s u) (hm : m &&& 274886295553 = 274886295553) (g : Nat) : Keeps m s (State.groupStop u g) := by
  unfold State.groupStop
  with_reducible repeat' (first | assumption | intro _ | exact sub_mask hm rfl | rfl | apply State.setSub_keeps | apply State.samplesStop_keeps | apply State.put_keeps | apply State.unfix_keeps | apply State.wr64_keeps | apply State.slotsBegin_keeps | apply ite_keep | apply foldl_keep | split | dsimp only)
theorem State.writeTrims_keeps {m : Nat} {s u : State} (h : Keeps m s u) (hm : m &&& 1 = 1) (i : Nat) (sl : Nat) (r : StepRes) : Keeps m s (State.writeTrims u i sl r) := by
  unfold State.writeTrims
  with_reducible repeat' (first | assumption | intro _ | exact sub_mask hm rfl | rfl | apply State.setSub_keeps | apply ite_keep | apply foldl_keep | split | dsimp only)
theorem State.refWrite_keeps {m : Nat} {s u : State} (h : Keeps m s u) (hm : m &&& 274877906945 = 274877906945) (g : Nat) (on : Bool) : Keeps m s (State.refWrite u g on) := by
  unfold State.refWrite
  with_reducible repeat' (first | assumption | intro _ | exact sub_mask hm rfl | rfl | apply State.setGrp_keeps | apply State.put_keeps | apply ite_keep | apply foldl_keep | split | dsimp only)
theorem State.surveyWrite_keeps {m : Nat} {s u : State} (h : Keeps m s u) (hm : m &&& 274877906945 = 274877906945) (g : Nat) (on : Bool) : Keeps m s (State.surveyWrite u g on) := by
  unfold State.surveyWrite
  with_reducible repeat' (first | assumption | intro _ | exact sub_mask hm rfl | rfl | apply State.setGrp_keeps | apply State.surveyRun_keeps | apply State.stepStart_keeps | apply ite_keep | apply foldl_keep | split | dsimp only)
theorem State.placeSlices_keeps {m : Nat} {s u : State} (h : Keeps m s u) (hm : m &&& 549755813889 = 549755813889) (i : Nat) : Keeps m s (State.placeSlices u i) := by
  unfold State.placeSlices
  with_reducible repeat' (first | assumption | intro _ | exact sub_mask hm rfl | rfl | apply State.setSub_keeps | apply State.setInp_keeps | apply State.setSpareBit_keeps | apply ite_keep | apply foldl_keep | split | dsimp only)
theorem State.groupStart_keeps {m : Nat} {s u : State} (h : Keeps m s u) (hm : m &&& 549755813889 = 549755813889) (g : Nat) : Keeps m s (State.groupStart u g) := by
  unfold State.groupStart
  with_reducible repeat' (first | assumption | intro _ | exact sub_mask hm rfl | rfl | apply State.placeSlices_keeps | apply State.loadTrims_keeps | apply State.setSub_keeps | apply State.put_keeps | apply State.unsettleGroup_keeps | apply ite_keep | apply foldl_keep | split | dsimp only)
theorem State.applyMode_keeps {m : Nat} {s u : State} (h : Keeps m s u) (hm : m &&& 824642109443 = 824642109443) (g : Nat) : Keeps m s (State.applyMode u g) := by
  unfold State.applyMode
  with_reducible repeat' (first | assumption | intro _ | exact sub_mask hm rfl | rfl | apply State.fwr_keeps | apply State.groupStart_keeps | apply State.groupStop_keeps | apply State.put_keeps | apply State.samplesStop_keeps | apply State.unfix_keeps | apply State.setGrp_keeps | apply ite_keep | apply foldl_keep | split | dsimp only)
theorem State.grpApply_keeps {m : Nat} {s u : State} (h : Keeps m s u) (hm : m &&& 316912650057057351267537390051 = 316912650057057351267537390051) (g : Nat) : Keeps m s (State.grpApply u g) := by
  unfold State.grpApply
  with_reducible repeat' (first | assumption | intro _ | exact sub_mask hm rfl | rfl | apply State.applyMode_keeps | apply State.refuseDom_keeps | apply State.put_keeps | apply ite_keep | apply foldl_keep | split | dsimp only)
theorem State.grpCtlWrite_keeps {m : Nat} {s u : State} (h : Keeps m s u) (hm : m &&& 316912650057057351267537390051 = 316912650057057351267537390051) (g : Nat) (w : Wr) : Keeps m s (State.grpCtlWrite u g w) := by
  unfold State.grpCtlWrite
  with_reducible repeat' (first | assumption | intro _ | exact sub_mask hm rfl | rfl | apply State.mergeRaw_keeps | apply State.raise_keeps | apply State.setSub_keeps | apply State.refWrite_keeps | apply State.surveyWrite_keeps | apply State.grpApply_keeps | apply ite_keep | apply foldl_keep | split | dsimp only)
theorem execRefEnWrite_keeps {m : Nat} {s u : State} (h : Keeps m s u) (hm : m &&& 316912650057057351267537390571 = 316912650057057351267537390571) (g : Nat) (w : Wr) : OutKeeps m s (execRefEnWrite g w u) := by
  unfold execRefEnWrite
  with_reducible repeat' (first | assumption | intro _ | exact sub_mask hm rfl | rfl | apply State.pfOnly_keeps | apply State.grpCtlWrite_keeps | apply ite_keep | apply foldl_keep | apply outKeep_next | apply ite_outKeep | split | dsimp only)
theorem execDieLinkUp_keeps {m : Nat} {s u : State} (h : Keeps m s u) (hm : m &&& 824642109441 = 824642109441) (d : Nat) : OutKeeps m s (execDieLinkUp d u) := by
  unfold execDieLinkUp
  with_reducible repeat' (first | assumption | intro _ | exact sub_mask hm rfl | rfl | apply State.put_keeps | apply State.samplesBack_keeps | apply ite_keep | apply foldl_keep | apply outKeep_next | apply ite_outKeep | split | dsimp only)
theorem State.sliceFail_keeps {m : Nat} {s u : State} (h : Keeps m s u) (hm : m &&& 316912650057057350374175803873 = 316912650057057350374175803873) (i : Nat) (sl : Nat) : Keeps m s (State.sliceFail u i sl) := by
  unfold State.sliceFail
  with_reducible repeat' (first | assumption | intro _ | exact sub_mask hm rfl | rfl | apply State.raise_keeps | apply State.setSub_keeps | apply ite_keep | apply foldl_keep | split | dsimp only)
theorem execCnvPllLocked_keeps {m : Nat} {s u : State} (h : Keeps m s u) (hm : m &&& 824642109441 = 824642109441) (g : Nat) : OutKeeps m s (execCnvPllLocked g u) := by
  unfold execCnvPllLocked
  with_reducible repeat' (first | assumption | intro _ | exact sub_mask hm rfl | rfl | apply State.samplesBack_keeps | apply State.put_keeps | apply ite_keep | apply foldl_keep | apply outKeep_next | apply ite_outKeep | split | dsimp only)
theorem execSurveyEnWrite_keeps {m : Nat} {s u : State} (h : Keeps m s u) (hm : m &&& 316912650057057351267537390571 = 316912650057057351267537390571) (g : Nat) (w : Wr) : OutKeeps m s (execSurveyEnWrite g w u) := by
  unfold execSurveyEnWrite
  with_reducible repeat' (first | assumption | intro _ | exact sub_mask hm rfl | rfl | apply State.pfOnly_keeps | apply State.grpCtlWrite_keeps | apply ite_keep | apply foldl_keep | apply outKeep_next | apply ite_outKeep | split | dsimp only)
theorem State.stepDone_keeps {m : Nat} {s u : State} (h : Keeps m s u) (hm : m &&& 316912650057057350923931617761 = 316912650057057350923931617761) (i : Nat) (r : StepRes) : Keeps m s (State.stepDone u i r) := by
  unfold State.stepDone
  with_reducible repeat' (first | assumption | intro _ | exact sub_mask hm rfl | rfl | apply State.setSub_keeps | apply State.setInp_keeps | apply State.setSpareBit_keeps | apply State.raise_keeps | apply ite_keep | apply foldl_keep | split | dsimp only)
theorem State.answerSteps_keeps {m : Nat} {s u : State} (h : Keeps m s u) (hm : m &&& 951975890279633847642465028577 = 951975890279633847642465028577) (g : Nat) (res : List StepRes) (ran : Nat → Bool) : Keeps m s (State.answerSteps u g res ran) := by
  unfold State.answerSteps
  with_reducible repeat' (first | assumption | intro _ | exact sub_mask hm rfl | rfl | apply State.finishCmd_keeps | apply ite_keep | apply foldl_keep | split | dsimp only)
theorem State.inputDead_keeps {m : Nat} {s u : State} (h : Keeps m s u) (hm : m &&& 316912650057057350442895280609 = 316912650057057350442895280609) (i : Nat) (sl : Nat) (pol : Bool) : Keeps m s (State.inputDead u i sl pol) := by
  unfold State.inputDead
  with_reducible repeat' (first | assumption | intro _ | exact sub_mask hm rfl | rfl | apply State.setSub_keeps | apply State.spareExhausted_keeps | apply State.raise_keeps | apply ite_keep | apply foldl_keep | split | dsimp only)
theorem State.inServiceFail_keeps {m : Nat} {s u : State} (h : Keeps m s u) (hm : m &&& 316912650057057350992651094497 = 316912650057057350992651094497) (i : Nat) (sl : Nat) (act : Bool) (pol : Bool) : Keeps m s (State.inServiceFail u i sl act pol) := by
  unfold State.inServiceFail
  with_reducible repeat' (first | assumption | intro _ | exact sub_mask hm rfl | rfl | apply State.retireSlice_keeps | apply State.setSub_keeps | apply State.setInp_keeps | apply State.inputDead_keeps | apply State.spareExhausted_keeps | apply ite_keep | apply foldl_keep | split | dsimp only)
theorem execSliceMonitorWindow_keeps {m : Nat} {s u : State} (h : Keeps m s u) (hm : m &&& 316912650057057350992651094497 = 316912650057057350992651094497) (i : Nat) (sl : Nat) (mean : Int) (power : Int) (loud : Bool) (stuck : Bool) : OutKeeps m s (execSliceMonitorWindow i sl mean power loud stuck u) := by
  unfold execSliceMonitorWindow
  with_reducible repeat' (first | assumption | intro _ | exact sub_mask hm rfl | rfl | apply State.inServiceFail_keeps | apply State.sliceFail_keeps | apply ite_keep | apply foldl_keep | apply outKeep_next | apply ite_outKeep | split | dsimp only)
theorem execCnvApply_keeps {m : Nat} {s u : State} (h : Keeps m s u) (hm : m &&& 316912650057057351267537390571 = 316912650057057351267537390571) (g : Nat) (w : Wr) : OutKeeps m s (execCnvApply g w u) := by
  unfold execCnvApply
  with_reducible repeat' (first | assumption | intro _ | exact sub_mask hm rfl | rfl | apply State.pfOnly_keeps | apply State.grpCtlWrite_keeps | apply ite_keep | apply foldl_keep | apply outKeep_next | apply ite_outKeep | split | dsimp only)
theorem State.judgeStep_keeps {m : Nat} {s u : State} (h : Keeps m s u) (hm : m &&& 316912650057057350992651094497 = 316912650057057350992651094497) (i : Nat) (r : StepRes) : Keeps m s (State.judgeStep u i r) := by
  unfold State.judgeStep
  with_reducible repeat' (first | assumption | intro _ | exact sub_mask hm rfl | rfl | apply State.stepDone_keeps | apply State.offlineFail_keeps | apply State.sliceFail_keeps | apply State.setInp_keeps | apply State.writeTrims_keeps | apply ite_keep | apply foldl_keep | split | dsimp only)
theorem State.stageInput_keeps {m : Nat} {s u : State} (h : Keeps m s u) (hm : m &&& 316912650057057350374175812065 = 316912650057057350374175812065) (i : Nat) (action : Nat) (at_ : Option Int) (vals : List SVal) (now : State → State) (k : ∀ v, Keeps m s v → Keeps m s (now v)) : Keeps m s (State.stageInput u i action at_ vals now) := by
  unfold State.stageInput
  with_reducible repeat' (first | assumption | intro _ | apply k | exact sub_mask hm rfl | rfl | apply State.stage_keeps | apply ite_keep | apply foldl_keep | split | dsimp only)
theorem State.inputEnable_keeps {m : Nat} {s u : State} (h : Keeps m s u) (hm : m &&& 316912650057057351198809524705 = 316912650057057351198809524705) (i : Nat) (en : Bool) (at_ : Int) : Keeps m s (State.inputEnable u i en at_) := by
  unfold State.inputEnable
  with_reducible repeat' (first | assumption | intro _ | exact sub_mask hm rfl | rfl | apply State.placeSlices_keeps | apply State.loadTrims_keeps | apply State.setSub_keeps | apply State.surveyRun_keeps | apply State.raise_keeps | apply State.setInp_keeps | apply State.stepStart_keeps | apply ite_keep | apply foldl_keep | split | dsimp only)
theorem State.inCtlWrite_keeps {m : Nat} {s u : State} (h : Keeps m s u) (hm : m &&& 316912650057057351198809532899 = 316912650057057351198809532899) (i : Nat) (w : Wr) : Keeps m s (State.inCtlWrite u i w) := by
  unfold State.inCtlWrite
  with_reducible repeat' (first | assumption | intro _ | exact sub_mask hm rfl | rfl | apply State.mergeRaw_keeps | apply State.stageInput_keeps | apply State.inputEnable_keeps | apply State.fwr_keeps | apply ite_keep | apply foldl_keep | split | dsimp only)
theorem execDieLinkDown_keeps {m : Nat} {s u : State} (h : Keeps m s u) (hm : m &&& 316912650057057350649053710817 = 316912650057057350649053710817) (d : Nat) : OutKeeps m s (execDieLinkDown d u) := by
  unfold execDieLinkDown
  with_reducible repeat' (first | assumption | intro _ | exact sub_mask hm rfl | rfl | apply State.raise_keeps | apply State.put_keeps | apply State.samplesStop_keeps | apply ite_keep | apply foldl_keep | apply outKeep_next | apply ite_outKeep | split | dsimp only)
theorem execCnvRefOk_keeps {m : Nat} {s u : State} (h : Keeps m s u) (hm : m &&& 1 = 1) (g : Nat) : OutKeeps m s (execCnvRefOk g u) := by
  unfold execCnvRefOk
  with_reducible repeat' (first | assumption | intro _ | exact sub_mask hm rfl | rfl | apply State.put_keeps | apply ite_keep | apply foldl_keep | apply outKeep_next | apply ite_outKeep | split | dsimp only)
theorem State.groupAsleep_keeps {m : Nat} {s u : State} (h : Keeps m s u) (hm : m &&& 274886295555 = 274886295555) (g : Nat) : Keeps m s (State.groupAsleep u g) := by
  unfold State.groupAsleep
  with_reducible repeat' (first | assumption | intro _ | exact sub_mask hm rfl | rfl | apply State.groupStop_keeps | apply State.setGrp_keeps | apply State.fwr_keeps | apply State.wn_keeps | apply ite_keep | apply foldl_keep | split | dsimp only)
theorem execPllRelock_keeps {m : Nat} {s u : State} (h : Keeps m s u) (hm : m &&& 824642109441 = 824642109441) (g : Nat) : OutKeeps m s (execPllRelock g u) := by
  unfold execPllRelock
  with_reducible repeat' (first | assumption | intro _ | exact sub_mask hm rfl | rfl | apply State.samplesBack_keeps | apply State.put_keeps | apply ite_keep | apply foldl_keep | apply outKeep_next | apply ite_outKeep | split | dsimp only)
theorem execSurveyStepEnd_keeps {m : Nat} {s u : State} (h : Keeps m s u) (hm : m &&& 951975890279633848467098749409 = 951975890279633848467098749409) (g : Nat) (res : List StepRes) : OutKeeps m s (execSurveyStepEnd g res u) := by
  unfold execSurveyStepEnd
  with_reducible repeat' (first | assumption | intro _ | exact sub_mask hm rfl | rfl | apply State.judgeStep_keeps | apply State.answerSteps_keeps | apply State.setSub_keeps | apply State.stepStart_keeps | apply ite_keep | apply foldl_keep | apply outKeep_next | apply ite_outKeep | split | dsimp only)
theorem execCnvInEnWrite_keeps {m : Nat} {s u : State} (h : Keeps m s u) (hm : m &&& 316912650057057351198809533419 = 316912650057057351198809533419) (i : Nat) (w : Wr) : OutKeeps m s (execCnvInEnWrite i w u) := by
  unfold execCnvInEnWrite
  with_reducible repeat' (first | assumption | intro _ | exact sub_mask hm rfl | rfl | apply State.pfOnly_keeps | apply State.inCtlWrite_keeps | apply ite_keep | apply foldl_keep | apply outKeep_next | apply ite_outKeep | split | dsimp only)
theorem State.groupWake_keeps {m : Nat} {s u : State} (h : Keeps m s u) (hm : m &&& 1 = 1) (g : Nat) : Keeps m s (State.groupWake u g) := by
  unfold State.groupWake
  with_reducible repeat' (first | assumption | intro _ | exact sub_mask hm rfl | rfl | apply State.loadTrims_keeps | apply State.put_keeps | apply ite_keep | apply foldl_keep | split | dsimp only)
theorem State.setStep_keeps {m : Nat} {s u : State} (h : Keeps m s u) (hm : m &&& 1 = 1) (n : Nat) (d : Nat) : Keeps m s (State.setStep u n d) := by
  unfold State.setStep
  with_reducible repeat' (first | assumption | intro _ | exact sub_mask hm rfl | rfl | apply State.wn_keeps | apply ite_keep | apply foldl_keep | split | dsimp only)
theorem State.rangeLeft_keeps {m : Nat} {s u : State} (h : Keeps m s u) (hm : m &&& 316912650057057350374184192481 = 316912650057057350374184192481) (n : Nat) : Keeps m s (State.rangeLeft u n) := by
  unfold State.rangeLeft
  with_reducible repeat' (first | assumption | intro _ | exact sub_mask hm rfl | rfl | apply State.raise_keeps | apply State.put_keeps | apply State.setSlot_keeps | apply ite_keep | apply foldl_keep | split | dsimp only)
theorem State.slotFollow_keeps {m : Nat} {s u : State} (h : Keeps m s u) (hm : m &&& 316912650057057350374184192481 = 316912650057057350374184192481) (g : Nat) (n : Nat) : Keeps m s (State.slotFollow u g n) := by
  unfold State.slotFollow
  with_reducible repeat' (first | assumption | intro _ | exact sub_mask hm rfl | rfl | apply State.put_keeps | apply State.setStep_keeps | apply State.rangeLeft_keeps | apply State.setSlot_keeps | apply ite_keep | apply foldl_keep | split | dsimp only)
theorem State.slotsFollow_keeps {m : Nat} {s u : State} (h : Keeps m s u) (hm : m &&& 316912650057057350374184192481 = 316912650057057350374184192481) (g : Nat) : Keeps m s (State.slotsFollow u g) := by
  unfold State.slotsFollow
  with_reducible repeat' (first | assumption | intro _ | exact sub_mask hm rfl | rfl | apply State.slotFollow_keeps | apply ite_keep | apply foldl_keep | split | dsimp only)
theorem State.putTrack_keeps {m : Nat} {s u : State} (h : Keeps m s u) (hm : m &&& 316912650057057350649062099425 = 316912650057057350649062099425) (g : Nat) (e : Estimator) (tr : Nat) : Keeps m s (State.putTrack u g e tr) := by
  unfold State.putTrack
  with_reducible repeat' (first | assumption | intro _ | exact sub_mask hm rfl | rfl | apply State.setSub_keeps | apply State.setGrp_keeps | apply State.wr64_keeps | apply State.raise_keeps | apply State.slotsFollow_keeps | apply ite_keep | apply foldl_keep | split | dsimp only)
theorem State.setTrack_keeps {m : Nat} {s u : State} (h : Keeps m s u) (hm : m &&& 316912650057057350649062099425 = 316912650057057350649062099425) (g : Nat) (e : Estimator) (tr : Nat) : Keeps m s (State.setTrack u g e tr) := by
  unfold State.setTrack
  with_reducible repeat' (first | assumption | intro _ | exact sub_mask hm rfl | rfl | apply State.putTrack_keeps | apply ite_keep | apply foldl_keep | split | dsimp only)
theorem State.loopUpdate_keeps {m : Nat} {s u : State} (h : Keeps m s u) (hm : m &&& 633825300114114700748351602688 = 633825300114114700748351602688) (e : Estimator) (n : Nat) : Keeps m s (State.loopUpdate u e n).2 := by
  unfold State.loopUpdate
  with_reducible repeat' (first | assumption | intro _ | exact sub_mask hm rfl | rfl | apply State.drawInt_keeps | apply ite_keep | apply foldl_keep | apply ite_keep2 | apply foldl_keep2 | split | refine pairKeep2 (by assumption) ?_ | dsimp only)
theorem State.goodTag_keeps {m : Nat} {s u : State} (h : Keeps m s u) (hm : m &&& 950737950171172051397413702113 = 950737950171172051397413702113) (g : Nat) (t : Int) : Keeps m s (State.goodTag u g t) := by
  unfold State.goodTag
  with_reducible repeat' (first | assumption | intro _ | exact sub_mask hm rfl | rfl | apply State.setTrack_keeps | apply State.loopUpdate_keeps | apply ite_keep | apply foldl_keep | apply ite_keep2 | apply foldl_keep2 | split | refine pairKeep2 (by assumption) ?_ | dsimp only)
theorem State.badTag_keeps {m : Nat} {s u : State} (h : Keeps m s u) (hm : m &&& 316912650057057350649062099425 = 316912650057057350649062099425) (g : Nat) : Keeps m s (State.badTag u g) := by
  unfold State.badTag
  with_reducible repeat' (first | assumption | intro _ | exact sub_mask hm rfl | rfl | apply State.setTrack_keeps | apply ite_keep | apply foldl_keep | split | dsimp only)

end Sys2Proof.Machine
end

