-- ==== Sys2Proof/Laws/Keep2.lean ====
section
/-! SUPPORT. One lemma per operation: the components it may change, as a mask (part 2 of 5, in the order of dependence). -/
set_option maxRecDepth 10000
namespace Sys2Proof.Machine

theorem State.trkForce_keeps {m : Nat} {s u : State} (h : Keeps m s u) (hm : m &&& 274877906944 = 274877906944) (g : Nat) : Keeps m s (State.trkForce u g) := by
  unfold State.trkForce
  with_reducible repeat' (first | assumption | intro _ | exact sub_mask hm rfl | rfl | apply State.setGrp_keeps | apply ite_keep | apply foldl_keep | split | dsimp only)
theorem State.lockBreak_keeps {m : Nat} {s u : State} (h : Keeps m s u) (hm : m &&& 274877906944 = 274877906944) (g : Nat) : Keeps m s (State.lockBreak u g) := by
  unfold State.lockBreak
  with_reducible repeat' (first | assumption | intro _ | exact sub_mask hm rfl | rfl | apply State.setGrp_keeps | apply ite_keep | apply foldl_keep | split | dsimp only)
theorem State.lockTag_keeps {m : Nat} {s u : State} (h : Keeps m s u) (hm : m &&& 633825300114114701023229509632 = 633825300114114701023229509632) (g : Nat) (t : Int) : Keeps m s (State.lockTag u g t) := by
  unfold State.lockTag
  with_reducible repeat' (first | assumption | intro _ | exact sub_mask hm rfl | rfl | apply State.draw_keeps | apply State.setGrp_keeps | apply ite_keep | apply foldl_keep | apply ite_keep2 | apply foldl_keep2 | split | refine pairKeep2 (by assumption) ?_ | dsimp only)
theorem execCgTag_keeps {m : Nat} {s u : State} (h : Keeps m s u) (hm : m &&& 950737950171172051400634927585 = 950737950171172051400634927585) (g : Nat) (i : Nat) : OutKeeps m s (execCgTag g i u) := by
  unfold execCgTag
  with_reducible repeat' (first | assumption | intro _ | exact sub_mask hm rfl | rfl | apply State.freqEdge_keeps | apply State.cgBack_keeps | apply State.badTag_keeps | apply State.goodTag_keeps | apply State.trkForce_keeps | apply State.lockBreak_keeps | apply State.lockTag_keeps | apply ite_keep | apply foldl_keep | apply outKeep_next | apply ite_outKeep | split | dsimp only)
theorem execCoastTimeout_keeps {m : Nat} {s u : State} (h : Keeps m s u) (hm : m &&& 316912650057057350649062099425 = 316912650057057350649062099425) (g : Nat) : OutKeeps m s (execCoastTimeout g u) := by
  unfold execCoastTimeout
  with_reducible repeat' (first | assumption | intro _ | exact sub_mask hm rfl | rfl | apply State.setTrack_keeps | apply ite_keep | apply foldl_keep | apply outKeep_next | apply ite_outKeep | split | dsimp only)
theorem State.followGroup_keeps {m : Nat} {s u : State} (h : Keeps m s u) (hm : m &&& 316912650057057350649062099425 = 316912650057057350649062099425) (g : Nat) : Keeps m s (State.followGroup u g) := by
  unfold State.followGroup
  with_reducible repeat' (first | assumption | intro _ | exact sub_mask hm rfl | rfl | apply State.slotsFollow_keeps | apply State.putTrack_keeps | apply ite_keep | apply foldl_keep | split | dsimp only)
theorem execLockLost_keeps {m : Nat} {s u : State} (h : Keeps m s u) (hm : m &&& 316912650057057350649062099425 = 316912650057057350649062099425) (g : Nat) : OutKeeps m s (execLockLost g u) := by
  unfold execLockLost
  with_reducible repeat' (first | assumption | intro _ | exact sub_mask hm rfl | rfl | apply State.raise_keeps | apply State.put_keeps | apply State.unfix_keeps | apply State.followGroup_keeps | apply ite_keep | apply foldl_keep | apply outKeep_next | apply ite_outKeep | split | dsimp only)
theorem execCgTagMissing_keeps {m : Nat} {s u : State} (h : Keeps m s u) (hm : m &&& 316912650057057350649062099425 = 316912650057057350649062099425) (g : Nat) : OutKeeps m s (execCgTagMissing g u) := by
  unfold execCgTagMissing
  with_reducible repeat' (first | assumption | intro _ | exact sub_mask hm rfl | rfl | apply State.badTag_keeps | apply State.lockBreak_keeps | apply ite_keep | apply foldl_keep | apply outKeep_next | apply ite_outKeep | split | dsimp only)
theorem execCnvLocked_keeps {m : Nat} {s u : State} (h : Keeps m s u) (hm : m &&& 316912650057057350649053710817 = 316912650057057350649053710817) (g : Nat) : OutKeeps m s (execCnvLocked g u) := by
  unfold execCnvLocked
  with_reducible repeat' (first | assumption | intro _ | exact sub_mask hm rfl | rfl | apply State.raise_keeps | apply State.put_keeps | apply State.setGrp_keeps | apply ite_keep | apply foldl_keep | apply outKeep_next | apply ite_outKeep | split | dsimp only)
theorem State.slotCode_keeps {m : Nat} {s u : State} (h : Keeps m s u) (hm : m &&& 1 = 1) (n : Nat) (c : Nat) : Keeps m s (State.slotCode u n c) := by
  unfold State.slotCode
  with_reducible repeat' (first | assumption | intro _ | exact sub_mask hm rfl | rfl | apply State.put_keeps | apply ite_keep | apply foldl_keep | split | dsimp only)
theorem State.stageCommit_keeps {m : Nat} {s u : State} (h : Keeps m s u) (hm : m &&& 316912650057057350374175812065 = 316912650057057350374175812065) (n : Nat) (k0 : Nat) (action : Nat) : Keeps m s (State.stageCommit u n k0 action) := by
  unfold State.stageCommit
  with_reducible repeat' (first | assumption | intro _ | exact sub_mask hm rfl | rfl | apply State.stage_keeps | apply State.put_keeps | apply ite_keep | apply foldl_keep | split | dsimp only)
theorem State.slotCommit_keeps {m : Nat} {s u : State} (h : Keeps m s u) (hm : m &&& 316912650057057350374175812065 = 316912650057057350374175812065) (n : Nat) (action : Nat) : Keeps m s (State.slotCommit u n action) := by
  unfold State.slotCommit
  with_reducible repeat' (first | assumption | intro _ | exact sub_mask hm rfl | rfl | apply State.slotCode_keeps | apply State.stageCommit_keeps | apply ite_keep | apply foldl_keep | split | dsimp only)
theorem State.stageUnbind_keeps {m : Nat} {s u : State} (h : Keeps m s u) (hm : m &&& 316912650057057350374184200673 = 316912650057057350374184200673) (n : Nat) (k0 : Nat) (action : Nat) : Keeps m s (State.stageUnbind u n k0 action) := by
  unfold State.stageUnbind
  with_reducible repeat' (first | assumption | intro _ | exact sub_mask hm rfl | rfl | apply State.stage_keeps | apply State.put_keeps | apply State.setSlot_keeps | apply ite_keep | apply foldl_keep | split | dsimp only | apply keep_staged)
theorem State.idleSlot_keeps {m : Nat} {s u : State} (h : Keeps m s u) (hm : m &&& 8396801 = 8396801) (n : Nat) : Keeps m s (State.idleSlot u n) := by
  unfold State.idleSlot
  with_reducible repeat' (first | assumption | intro _ | exact sub_mask hm rfl | rfl | apply State.setSlot_keeps | apply State.unstage_keeps | apply State.put_keeps | apply ite_keep | apply foldl_keep | split | dsimp only)
theorem State.slotUnbindAt_keeps {m : Nat} {s u : State} (h : Keeps m s u) (hm : m &&& 951975890279633847642473425377 = 951975890279633847642473425377) (n : Nat) (k0 : Nat) (action : Nat) : Keeps m s (State.slotUnbindAt u n k0 action) := by
  unfold State.slotUnbindAt
  with_reducible repeat' (first | assumption | intro _ | exact sub_mask hm rfl | rfl | apply State.slotCode_keeps | apply State.abortDiscarded_keeps | apply State.idleSlot_keeps | apply State.stageUnbind_keeps | apply ite_keep | apply foldl_keep | split | dsimp only)
theorem State.slotUnbind_keeps {m : Nat} {s u : State} (h : Keeps m s u) (hm : m &&& 951975890279633847642473425377 = 951975890279633847642473425377) (n : Nat) (action : Nat) : Keeps m s (State.slotUnbind u n action) := by
  unfold State.slotUnbind
  with_reducible repeat' (first | assumption | intro _ | exact sub_mask hm rfl | rfl | apply State.slotUnbindAt_keeps | apply ite_keep | apply foldl_keep | split | dsimp only)
theorem State.stageBind_keeps {m : Nat} {s u : State} (h : Keeps m s u) (hm : m &&& 316912650057057350374184200673 = 316912650057057350374184200673) (n : Nat) (g : Nat) (k0 : Nat) (action : Nat) : Keeps m s (State.stageBind u n g k0 action) := by
  unfold State.stageBind
  with_reducible repeat' (first | assumption | intro _ | exact sub_mask hm rfl | rfl | apply State.setSlot_keeps | apply State.put_keeps | apply State.stage_keeps | apply ite_keep | apply foldl_keep | split | dsimp only)
theorem State.showDirty_keeps {m : Nat} {s u : State} (h : Keeps m s u) (hm : m &&& 1 = 1) (n : Nat) : Keeps m s (State.showDirty u n) := by
  unfold State.showDirty
  with_reducible repeat' (first | assumption | intro _ | exact sub_mask hm rfl | rfl | apply State.put_keeps | apply ite_keep | apply foldl_keep | split | dsimp only)
theorem State.slotBind_keeps {m : Nat} {s u : State} (h : Keeps m s u) (hm : m &&& 316912650057057350374184200673 = 316912650057057350374184200673) (n : Nat) (action : Nat) : Keeps m s (State.slotBind u n action) := by
  unfold State.slotBind
  with_reducible repeat' (first | assumption | intro _ | exact sub_mask hm rfl | rfl | apply State.slotCode_keeps | apply State.stageBind_keeps | apply ite_keep | apply foldl_keep | split | dsimp only)
theorem State.chpCtlWrite_keeps {m : Nat} {s u : State} (h : Keeps m s u) (hm : m &&& 951975890279633847642473425377 = 951975890279633847642473425377) (n : Nat) (w : Wr) : Keeps m s (State.chpCtlWrite u n w) := by
  unfold State.chpCtlWrite
  with_reducible repeat' (first | assumption | intro _ | exact sub_mask hm rfl | rfl | apply State.showDirty_keeps | apply State.mergeRaw_keeps | apply State.refuseDom_keeps | apply State.slotBind_keeps | apply State.slotCommit_keeps | apply State.slotUnbind_keeps | apply ite_keep | apply foldl_keep | split | dsimp only)
theorem State.chpSrcWrite_keeps {m : Nat} {s u : State} (h : Keeps m s u) (hm : m &&& 316912650057057350442895280609 = 316912650057057350442895280609) (n : Nat) (w : Wr) : Keeps m s (State.chpSrcWrite u n w) := by
  unfold State.chpSrcWrite
  with_reducible repeat' (first | assumption | intro _ | exact sub_mask hm rfl | rfl | apply State.mergeRaw_keeps | apply State.slotCode_keeps | apply State.wearCheck_keeps | apply ite_keep | apply foldl_keep | split | dsimp only)
theorem State.slotWrite_keeps {m : Nat} {s u : State} (h : Keeps m s u) (hm : m &&& 951975890279633847642473425377 = 951975890279633847642473425377) (n : Nat) (off : Nat) (w : Wr) : Keeps m s (State.slotWrite u n off w) := by
  unfold State.slotWrite
  with_reducible repeat' (first | assumption | intro _ | exact sub_mask hm rfl | rfl | apply State.chpCtlWrite_keeps | apply State.chpSrcWrite_keeps | apply State.mergeRaw_keeps | apply State.showDirty_keeps | apply ite_keep | apply foldl_keep | split | dsimp only)
theorem State.winWrite_keeps {m : Nat} {s u : State} (h : Keeps m s u) (hm : m &&& 951975890279633847642473425377 = 951975890279633847642473425377) (win : Nat) (off : Nat) (w : Wr) : Keeps m s (State.winWrite u win off w) := by
  unfold State.winWrite
  with_reducible repeat' (first | assumption | intro _ | exact sub_mask hm rfl | rfl | apply State.slotWrite_keeps | apply State.wn_keeps | apply ite_keep | apply foldl_keep | split | dsimp only)
theorem State.windowWrite_keeps {m : Nat} {s u : State} (h : Keeps m s u) (hm : m &&& 951975890279633847642473425889 = 951975890279633847642473425889) (win : Nat) (off : Nat) (w : Wr) : Keeps m s (State.windowWrite u win off w) := by
  unfold State.windowWrite
  with_reducible repeat' (first | assumption | intro _ | exact sub_mask hm rfl | rfl | apply State.slotWrite_keeps | apply State.reservedHit_keeps | apply State.winWrite_keeps | apply State.mergeRaw_keeps | apply ite_keep | apply foldl_keep | split | dsimp only)
theorem execChpCommit_keeps {m : Nat} {s u : State} (h : Keeps m s u) (hm : m &&& 951975890279633847642473425897 = 951975890279633847642473425897) (win : Nat) (w : Wr) : OutKeeps m s (execChpCommit win w u) := by
  unfold execChpCommit
  with_reducible repeat' (first | assumption | intro _ | exact sub_mask hm rfl | rfl | apply State.pfOnly_keeps | apply State.winWrite_keeps | apply ite_keep | apply foldl_keep | apply outKeep_next | apply ite_outKeep | split | dsimp only)
theorem execChpBind_keeps {m : Nat} {s u : State} (h : Keeps m s u) (hm : m &&& 951975890279633847642473425897 = 951975890279633847642473425897) (win : Nat) (w : Wr) : OutKeeps m s (execChpBind win w u) := by
  unfold execChpBind
  with_reducible repeat' (first | assumption | intro _ | exact sub_mask hm rfl | rfl | apply State.pfOnly_keeps | apply State.winWrite_keeps | apply ite_keep | apply foldl_keep | apply outKeep_next | apply ite_outKeep | split | dsimp only)
theorem execChpUnbind_keeps {m : Nat} {s u : State} (h : Keeps m s u) (hm : m &&& 951975890279633847642473425897 = 951975890279633847642473425897) (win : Nat) (w : Wr) : OutKeeps m s (execChpUnbind win w u) := by
  unfold execChpUnbind
  with_reducible repeat' (first | assumption | intro _ | exact sub_mask hm rfl | rfl | apply State.pfOnly_keeps | apply State.winWrite_keeps | apply ite_keep | apply foldl_keep | apply outKeep_next | apply ite_outKeep | split | dsimp only)
theorem execDistrictWindowWrite_keeps {m : Nat} {s u : State} (h : Keeps m s u) (hm : m &&& 951975890279633847642473425897 = 951975890279633847642473425897) (d : Nat) (off : Nat) (w : Wr) : OutKeeps m s (execDistrictWindowWrite d off w u) := by
  unfold execDistrictWindowWrite
  with_reducible repeat' (first | assumption | intro _ | exact sub_mask hm rfl | rfl | apply State.pfOnly_keeps | apply State.windowWrite_keeps | apply ite_keep | apply foldl_keep | apply outKeep_next | apply ite_outKeep | split | dsimp only)
theorem State.gapEnd_keeps {m : Nat} {s u : State} (h : Keeps m s u) (hm : m &&& 316912650057057350374184192481 = 316912650057057350374184192481) (n : Nat) : Keeps m s (State.gapEnd u n) := by
  unfold State.gapEnd
  with_reducible repeat' (first | assumption | intro _ | exact sub_mask hm rfl | rfl | apply State.wr64_keeps | apply State.setSlot_keeps | apply State.raise_keeps | apply ite_keep | apply foldl_keep | split | dsimp only)
theorem State.resumeSource_keeps {m : Nat} {s u : State} (h : Keeps m s u) (hm : m &&& 8388609 = 8388609) (n : Nat) : Keeps m s (State.resumeSource u n) := by
  unfold State.resumeSource
  with_reducible repeat' (first | assumption | intro _ | exact sub_mask hm rfl | rfl | apply State.wn_keeps | apply State.setSlot_keeps | apply ite_keep | apply foldl_keep | split | dsimp only)
theorem State.dftComp_keeps {m : Nat} {s u : State} (h : Keeps m s u) (hm : m &&& 633825300114114700748351602688 = 633825300114114700748351602688) (safe : Bool) (x : Int) (sh : Nat) : Keeps m s (State.dftComp u safe x sh).2 := by
  unfold State.dftComp
  with_reducible repeat' (first | assumption | intro _ | exact sub_mask hm rfl | rfl | apply State.draw_keeps | apply ite_keep | apply foldl_keep | apply ite_keep2 | apply foldl_keep2 | split | refine pairKeep2 (by assumption) ?_ | dsimp only)
theorem State.dftChannels_keeps {m : Nat} {s u : State} (h : Keeps m s u) (hm : m &&& 633825300114114700748351602688 = 633825300114114700748351602688) (w : List (Int × Int)) (f : Nat) (sh : Nat) (shift : Nat) (safe : Bool) (a6 : List Nat) : Keeps m s (State.dftChannels u w f sh shift safe a6).2 := by
  induction a6 generalizing u with
  | nil => unfold State.dftChannels; with_reducible repeat' (first | assumption | intro _ | exact sub_mask hm rfl | rfl | apply State.dftComp_keeps | apply ite_keep | apply foldl_keep | apply ite_keep2 | apply foldl_keep2 | split | refine pairKeep2 (by assumption) ?_ | dsimp only)
  | cons _ n ih => unfold State.dftChannels; with_reducible repeat' (first | assumption | apply ih | intro _ | exact sub_mask hm rfl | rfl | apply State.dftComp_keeps | apply ite_keep | apply foldl_keep | apply ite_keep2 | apply foldl_keep2 | split | refine pairKeep2 (by assumption) ?_ | dsimp only)
theorem State.makeSpectrum_keeps {m : Nat} {s u : State} (h : Keeps m s u) (hm : m &&& 633825300114114700748351602688 = 633825300114114700748351602688) (n : Nat) (j : Nat) : Keeps m s (State.makeSpectrum u n j).2 := by
  unfold State.makeSpectrum
  with_reducible repeat' (first | assumption | intro _ | exact sub_mask hm rfl | rfl | apply State.dftChannels_keeps | apply State.draw_keeps | apply ite_keep | apply foldl_keep | apply ite_keep2 | apply foldl_keep2 | split | refine pairKeep2 (by assumption) ?_ | dsimp only)
theorem State.slotSat_keeps {m : Nat} {s u : State} (h : Keeps m s u) (hm : m &&& 316912650057057350374184192481 = 316912650057057350374184192481) (n : Nat) (clips : Nat) : Keeps m s (State.slotSat u n clips) := by
  unfold State.slotSat
  with_reducible repeat' (first | assumption | intro _ | exact sub_mask hm rfl | rfl | apply State.bump_keeps | apply State.put_keeps | apply State.raise_keeps | apply State.setSlot_keeps | apply ite_keep | apply foldl_keep | split | dsimp only)
theorem State.showUsed_keeps {m : Nat} {s u : State} (h : Keeps m s u) (hm : m &&& 1 = 1) (p : PathCfg) (used : Nat) : Keeps m s (State.showUsed u p used) := by
  unfold State.showUsed
  with_reducible repeat' (first | assumption | intro _ | exact sub_mask hm rfl | rfl | apply State.put_keeps | apply ite_keep | apply foldl_keep | split | dsimp only)
theorem State.readyItem_keeps {m : Nat} {s u : State} (h : Keeps m s u) (hm : m &&& 35184372088832 = 35184372088832) (q : Option Nat) (dests : List Nat) (first : Nat) (last : Nat) (b : List Byte) : Keeps m s (State.readyItem u q dests first last b) := by
  unfold State.readyItem
  with_reducible repeat' (first | assumption | intro _ | exact sub_mask hm rfl | rfl | apply ite_keep | apply foldl_keep | split | dsimp only | apply keep_items)
theorem State.closeVolt_keeps {m : Nat} {s u : State} (h : Keeps m s u) (hm : m &&& 35184372088833 = 35184372088833) (p : PathCfg) (x : OutPath) : Keeps m s (State.closeVolt u p x).1 := by
  unfold State.closeVolt
  with_reducible repeat' (first | assumption | intro _ | exact sub_mask hm rfl | rfl | apply State.showUsed_keeps | apply State.readyItem_keeps | apply ite_keep | apply foldl_keep | apply ite_keep1 | apply foldl_keep1 | split | dsimp only)
theorem State.pathVolt_keeps {m : Nat} {s u : State} (h : Keeps m s u) (hm : m &&& 35184372088833 = 35184372088833) (p : PathCfg) (x : OutPath) (y : Spectrum) (used : Nat) : Keeps m s (State.pathVolt u p x y used).1.1 := by
  unfold State.pathVolt
  with_reducible repeat' (first | assumption | intro _ | exact sub_mask hm rfl | rfl | apply State.closeVolt_keeps | apply ite_keep | apply foldl_keep | apply ite_keep1 | apply foldl_keep1 | split | refine pairKeep1 (by assumption) ?_ | dsimp only)
theorem State.closeInteg_keeps {m : Nat} {s u : State} (h : Keeps m s u) (hm : m &&& 35184372088833 = 35184372088833) (p : PathCfg) (x : OutPath) : Keeps m s (State.closeInteg u p x).1 := by
  unfold State.closeInteg
  with_reducible repeat' (first | assumption | intro _ | exact sub_mask hm rfl | rfl | apply State.showUsed_keeps | apply State.readyItem_keeps | apply ite_keep | apply foldl_keep | apply ite_keep1 | apply foldl_keep1 | split | dsimp only)
theorem State.pathInteg_keeps {m : Nat} {s u : State} (h : Keeps m s u) (hm : m &&& 35184372088833 = 35184372088833) (p : PathCfg) (x : OutPath) (y : Spectrum) (used : Nat) : Keeps m s (State.pathInteg u p x y used).1 := by
  unfold State.pathInteg
  with_reducible repeat' (first | assumption | intro _ | exact sub_mask hm rfl | rfl | apply State.closeInteg_keeps | apply ite_keep | apply foldl_keep | apply ite_keep1 | apply foldl_keep1 | split | refine pairKeep1 (by assumption) ?_ | dsimp only)
theorem State.closeHisto_keeps {m : Nat} {s u : State} (h : Keeps m s u) (hm : m &&& 35184372088832 = 35184372088832) (p : PathCfg) (x : OutPath) : Keeps m s (State.closeHisto u p x).1 := by
  unfold State.closeHisto
  with_reducible repeat' (first | assumption | intro _ | exact sub_mask hm rfl | rfl | apply State.readyItem_keeps | apply ite_keep | apply foldl_keep | apply ite_keep1 | apply foldl_keep1 | split | dsimp only)
theorem State.pathHisto_keeps {m : Nat} {s u : State} (h : Keeps m s u) (hm : m &&& 35184372088832 = 35184372088832) (p : PathCfg) (x : OutPath) (y : Spectrum) : Keeps m s (State.pathHisto u p x y).1 := by
  unfold State.pathHisto
  with_reducible repeat' (first | assumption | intro _ | exact sub_mask hm rfl | rfl | apply State.closeHisto_keeps | apply ite_keep | apply foldl_keep | apply ite_keep1 | apply foldl_keep1 | split | refine pairKeep1 (by assumption) ?_ | dsimp only)
theorem State.pathTake_keeps {m : Nat} {s u : State} (h : Keeps m s u) (hm : m &&& 35184372088833 = 35184372088833) (p : PathCfg) (x : OutPath) (y : Spectrum) (used : Nat) : Keeps m s (State.pathTake u p x y used).1.1 := by
  unfold State.pathTake
  with_reducible repeat' (first | assumption | intro _ | exact sub_mask hm rfl | rfl | apply State.pathVolt_keeps | apply State.pathInteg_keeps | apply State.pathHisto_keeps | apply ite_keep | apply foldl_keep | apply ite_keep1 | apply foldl_keep1 | split | refine pairKeep1 (by assumption) ?_ | dsimp only)
theorem State.spectrumStep_keeps {m : Nat} {s u : State} (h : Keeps m s u) (hm : m &&& 950737950171172086306907884001 = 950737950171172086306907884001) (n : Nat) : Keeps m s (State.spectrumStep u n) := by
  unfold State.spectrumStep
  with_reducible repeat' (first | assumption | intro _ | exact sub_mask hm rfl | rfl | apply State.makeSpectrum_keeps | apply State.setSlot_keeps | apply State.slotSat_keeps | apply State.put_keeps | apply State.pathTake_keeps | apply ite_keep | apply foldl_keep | apply ite_keep2 | apply foldl_keep2 | split | refine pairKeep2 (by assumption) ?_ | dsimp only)
theorem State.drainSpectra_keeps {m : Nat} {s u : State} (h : Keeps m s u) (hm : m &&& 950737950171172086306907884001 = 950737950171172086306907884001) (n : Nat) (k0 : Nat) (a3 : Nat) : Keeps m s (State.drainSpectra u n k0 a3) := by
  induction a3 generalizing u with
  | zero => unfold State.drainSpectra; with_reducible repeat' (first | assumption | intro _ | exact sub_mask hm rfl | rfl | apply State.spectrumStep_keeps | apply ite_keep | apply foldl_keep | split | dsimp only)
  | succ n ih => unfold State.drainSpectra; with_reducible repeat' (first | assumption | apply ih | intro _ | exact sub_mask hm rfl | rfl | apply State.spectrumStep_keeps | apply ite_keep | apply foldl_keep | split | dsimp only)
theorem State.setRaw_keeps {m : Nat} {s u : State} (h : Keeps m s u) (hm : m &&& 73786976294838206464 = 73786976294838206464) (n : Nat) (x : RawPath) : Keeps m s (State.setRaw u n x) := by
  unfold State.setRaw
  with_reducible repeat' (first | assumption | intro _ | exact sub_mask hm rfl | rfl | apply ite_keep | apply foldl_keep | split | dsimp only | apply keep_raws)
theorem State.cutTile_keeps {m : Nat} {s u : State} (h : Keeps m s u) (hm : m &&& 73786976294838206464 = 73786976294838206464) (n : Nat) (last : Bool) (absent : Bool) (fault : Bool) : Keeps m s (State.cutTile u n last absent fault) := by
  unfold State.cutTile
  with_reducible repeat' (first | assumption | intro _ | exact sub_mask hm rfl | rfl | apply State.setRaw_keeps | apply ite_keep | apply foldl_keep | split | dsimp only)
theorem State.showRaw_keeps {m : Nat} {s u : State} (h : Keeps m s u) (hm : m &&& 1 = 1) (n : Nat) : Keeps m s (State.showRaw u n) := by
  unfold State.showRaw
  with_reducible repeat' (first | assumption | intro _ | exact sub_mask hm rfl | rfl | apply State.put_keeps | apply ite_keep | apply foldl_keep | split | dsimp only)
theorem State.unloadEngine_keeps {m : Nat} {s u : State} (h : Keeps m s u) (hm : m &&& 1 = 1) (e : Nat) (load : Nat) : Keeps m s (State.unloadEngine u e load) := by
  unfold State.unloadEngine
  with_reducible repeat' (first | assumption | intro _ | exact sub_mask hm rfl | rfl | apply State.put_keeps | apply ite_keep | apply foldl_keep | split | dsimp only)
theorem State.setAllow_keeps {m : Nat} {s u : State} (h : Keeps m s u) (hm : m &&& 9223372036854775809 = 9223372036854775809) (q : Nat) : Keeps m s (State.setAllow u q) := by
  unfold State.setAllow
  with_reducible repeat' (first | assumption | intro _ | exact sub_mask hm rfl | rfl | apply State.setQue_keeps | apply State.wn_keeps | apply ite_keep | apply foldl_keep | split | dsimp only)
theorem State.rawRelease_keeps {m : Nat} {s u : State} (h : Keeps m s u) (hm : m &&& 83010348331692982273 = 83010348331692982273) (n : Nat) : Keeps m s (State.rawRelease u n) := by
  unfold State.rawRelease
  with_reducible repeat' (first | assumption | intro _ | exact sub_mask hm rfl | rfl | apply State.setRaw_keeps | apply State.unloadEngine_keeps | apply State.setAllow_keeps | apply State.put_keeps | apply ite_keep | apply foldl_keep | split | dsimp only)
theorem State.rawForce_keeps {m : Nat} {s u : State} (h : Keeps m s u) (hm : m &&& 316912650140067698705868786145 = 316912650140067698705868786145) (n : Nat) : Keeps m s (State.rawForce u n) := by
  unfold State.rawForce
  with_reducible repeat' (first | assumption | intro _ | exact sub_mask hm rfl | rfl | apply State.showRaw_keeps | apply State.raise_keeps | apply State.rawRelease_keeps | apply State.put_keeps | apply State.setAllow_keeps | apply State.setRaw_keeps | apply ite_keep | apply foldl_keep | split | dsimp only)
theorem State.intakePass_keeps {m : Nat} {s u : State} (h : Keeps m s u) (hm : m &&& 316912650140067698843316128227 = 316912650140067698843316128227) (n : Nat) (m0 : SlotMark) : Keeps m s (State.intakePass u n m0) := by
  unfold State.intakePass
  with_reducible repeat' (first | assumption | intro _ | exact sub_mask hm rfl | rfl | apply State.cutTile_keeps | apply State.showRaw_keeps | apply State.setSlot_keeps | apply State.forceVals_keeps | apply State.rawForce_keeps | apply ite_keep | apply foldl_keep | split | dsimp only)
theorem State.endOutput_keeps {m : Nat} {s u : State} (h : Keeps m s u) (hm : m &&& 8388609 = 8388609) (n : Nat) : Keeps m s (State.endOutput u n) := by
  unfold State.endOutput
  with_reducible repeat' (first | assumption | intro _ | exact sub_mask hm rfl | rfl | apply State.wn_keeps | apply State.setSlot_keeps | apply State.setStep_keeps | apply State.put_keeps | apply ite_keep | apply foldl_keep | split | dsimp only)
theorem State.pathEnd_keeps {m : Nat} {s u : State} (h : Keeps m s u) (hm : m &&& 35184372088833 = 35184372088833) (p : PathCfg) (x : OutPath) : Keeps m s (State.pathEnd u p x).1 := by
  unfold State.pathEnd
  with_reducible repeat' (first | assumption | intro _ | exact sub_mask hm rfl | rfl | apply State.closeVolt_keeps | apply State.closeInteg_keeps | apply State.closeHisto_keeps | apply ite_keep | apply foldl_keep | apply ite_keep1 | apply foldl_keep1 | split | refine pairKeep1 (by assumption) ?_ | dsimp only)
theorem State.slotEndItems_keeps {m : Nat} {s u : State} (h : Keeps m s u) (hm : m &&& 35184380477441 = 35184380477441) (n : Nat) : Keeps m s (State.slotEndItems u n) := by
  unfold State.slotEndItems
  with_reducible repeat' (first | assumption | intro _ | exact sub_mask hm rfl | rfl | apply State.pathEnd_keeps | apply State.setSlot_keeps | apply ite_keep | apply foldl_keep | apply ite_keep1 | apply foldl_keep1 | split | refine pairKeep1 (by assumption) ?_ | dsimp only)
theorem State.chanStart_keeps {m : Nat} {s u : State} (h : Keeps m s u) (hm : m &&& 8388609 = 8388609) (n : Nat) (k0 : Nat) : Keeps m s (State.chanStart u n k0) := by
  unfold State.chanStart
  with_reducible repeat' (first | assumption | intro _ | exact sub_mask hm rfl | rfl | apply State.put_keeps | apply State.setSlot_keeps | apply ite_keep | apply foldl_keep | split | dsimp only)
theorem State.nodeFollow_keeps {m : Nat} {s u : State} (h : Keeps m s u) (hm : m &&& 316912650057057350374184192481 = 316912650057057350374184192481) (n : Nat) : Keeps m s (State.nodeFollow u n) := by
  unfold State.nodeFollow
  with_reducible repeat' (first | assumption | intro _ | exact sub_mask hm rfl | rfl | apply State.setStep_keeps | apply State.rangeLeft_keeps | apply State.put_keeps | apply State.setSlot_keeps | apply ite_keep | apply foldl_keep | split | dsimp only)
theorem State.followSource_keeps {m : Nat} {s u : State} (h : Keeps m s u) (hm : m &&& 316912650057057350374184192481 = 316912650057057350374184192481) (n : Nat) : Keeps m s (State.followSource u n) := by
  unfold State.followSource
  with_reducible repeat' (first | assumption | intro _ | exact sub_mask hm rfl | rfl | apply State.setStep_keeps | apply State.slotFollow_keeps | apply State.nodeFollow_keeps | apply ite_keep | apply foldl_keep | split | dsimp only)
theorem State.showChain_keeps {m : Nat} {s u : State} (h : Keeps m s u) (hm : m &&& 1 = 1) (n : Nat) : Keeps m s (State.showChain u n) := by
  unfold State.showChain
  with_reducible repeat' (first | assumption | intro _ | exact sub_mask hm rfl | rfl | apply State.put_keeps | apply State.wn_keeps | apply ite_keep | apply foldl_keep | split | dsimp only)
theorem State.restartSlot_keeps {m : Nat} {s u : State} (h : Keeps m s u) (hm : m &&& 316912650057057350374184192481 = 316912650057057350374184192481) (n : Nat) (k0 : Nat) : Keeps m s (State.restartSlot u n k0) := by
  unfold State.restartSlot
  with_reducible repeat' (first | assumption | intro _ | exact sub_mask hm rfl | rfl | apply State.followSource_keeps | apply State.showChain_keeps | apply State.wn_keeps | apply State.setSlot_keeps | apply ite_keep | apply foldl_keep | split | dsimp only)
theorem State.passRestart_keeps {m : Nat} {s u : State} (h : Keeps m s u) (hm : m &&& 316912650057057385695995234787 = 316912650057057385695995234787) (n : Nat) (m0 : SlotMark) : Keeps m s (State.passRestart u n m0) := by
  unfold State.passRestart
  with_reducible repeat' (first | assumption | intro _ | exact sub_mask hm rfl | rfl | apply State.chanStart_keeps | apply State.restartSlot_keeps | apply State.forceVals_keeps | apply State.slotEndItems_keeps | apply ite_keep | apply foldl_keep | split | dsimp only)
theorem State.changeFront_keeps {m : Nat} {s u : State} (h : Keeps m s u) (hm : m &&& 137438953475 = 137438953475) (n : Nat) (vals : List SVal) : Keeps m s (State.changeFront u n vals) := by
  unfold State.changeFront
  with_reducible repeat' (first | assumption | intro _ | exact sub_mask hm rfl | rfl | apply State.forceVals_keeps | apply State.wn_keeps | apply State.showChain_keeps | apply ite_keep | apply foldl_keep | split | dsimp only)
theorem State.passFields_keeps {m : Nat} {s u : State} (h : Keeps m s u) (hm : m &&& 316912650057057350511623145955 = 316912650057057350511623145955) (n : Nat) (m0 : SlotMark) : Keeps m s (State.passFields u n m0) := by
  unfold State.passFields
  with_reducible repeat' (first | assumption | intro _ | exact sub_mask hm rfl | rfl | apply State.changeFront_keeps | apply State.forceVals_keeps | apply State.setSlot_keeps | apply State.followSource_keeps | apply State.put_keeps | apply ite_keep | apply foldl_keep | split | dsimp only)
theorem State.enterFixed_keeps {m : Nat} {s u : State} (h : Keeps m s u) (hm : m &&& 8388609 = 8388609) (n : Nat) (ofs : Int) : Keeps m s (State.enterFixed u n ofs) := by
  unfold State.enterFixed
  with_reducible repeat' (first | assumption | intro _ | exact sub_mask hm rfl | rfl | apply State.put_keeps | apply State.setSlot_keeps | apply State.setStep_keeps | apply ite_keep | apply foldl_keep | split | dsimp only)
theorem State.frameItem_keeps {m : Nat} {s u : State} (h : Keeps m s u) (hm : m &&& 35184372088832 = 35184372088832) (p : PathCfg) (x : OutPath) (frame : Nat) (track : Nat) (tstate : Nat) (coarse : Nat) (tail : List Byte) : Keeps m s (State.frameItem u p x frame track tstate coarse tail).1 := by
  unfold State.frameItem
  with_reducible repeat' (first | assumption | intro _ | exact sub_mask hm rfl | rfl | apply State.readyItem_keeps | apply ite_keep | apply foldl_keep | apply ite_keep1 | apply foldl_keep1 | split | dsimp only)
theorem State.slotFrame_keeps {m : Nat} {s u : State} (h : Keeps m s u) (hm : m &&& 35184380477440 = 35184380477440) (n : Nat) (m0 : SlotMark) : Keeps m s (State.slotFrame u n m0) := by
  unfold State.slotFrame
  with_reducible repeat' (first | assumption | intro _ | exact sub_mask hm rfl | rfl | apply State.frameItem_keeps | apply State.setSlot_keeps | apply ite_keep | apply foldl_keep | apply ite_keep1 | apply foldl_keep1 | split | refine pairKeep1 (by assumption) ?_ | dsimp only)
theorem State.setMark_keeps {m : Nat} {s u : State} (h : Keeps m s u) (hm : m &&& 8388608 = 8388608) (n : Nat) (k0 : Nat) (f : SlotMark → SlotMark) : Keeps m s (State.setMark u n k0 f) := by
  unfold State.setMark
  with_reducible repeat' (first | assumption | intro _ | exact sub_mask hm rfl | rfl | apply State.setSlot_keeps | apply ite_keep | apply foldl_keep | split | dsimp only)
theorem State.chainMarks_keeps {m : Nat} {s u : State} (h : Keeps m s u) (hm : m &&& 137447342083 = 137447342083) (n : Nat) (t : Int) : Keeps m s (State.chainMarks u n t) := by
  unfold State.chainMarks
  with_reducible repeat' (first | assumption | intro _ | exact sub_mask hm rfl | rfl | apply State.changeFront_keeps | apply State.setMark_keeps | apply ite_keep | apply foldl_keep | split | dsimp only)
theorem State.chainOut_keeps {m : Nat} {s u : State} (h : Keeps m s u) (hm : m &&& 8388609 = 8388609) (n : Nat) (m0 : Nat) (y : Smp) : Keeps m s (State.chainOut u n m0 y) := by
  unfold State.chainOut
  with_reducible repeat' (first | assumption | intro _ | exact sub_mask hm rfl | rfl | apply State.setSlot_keeps | apply State.wn_keeps | apply ite_keep | apply foldl_keep | split | dsimp only)
theorem State.frontStages_keeps {m : Nat} {s u : State} (h : Keeps m s u) (hm : m &&& 316912650057057350374184192481 = 316912650057057350374184192481) (n : Nat) (i : Nat) (v : Smp) : Keeps m s (State.frontStages u n i v) := by
  unfold State.frontStages
  with_reducible repeat' (first | assumption | intro _ | exact sub_mask hm rfl | rfl | apply State.setSlot_keeps | apply State.slotSat_keeps | apply State.put_keeps | apply State.chainOut_keeps | apply ite_keep | apply foldl_keep | split | dsimp only)
theorem State.feed_keeps {m : Nat} {s u : State} (h : Keeps m s u) (hm : m &&& 316912650057057350511623145955 = 316912650057057350511623145955) (n : Nat) (i : Nat) (t : Int) (v : Smp) : Keeps m s (State.feed u n i t v) := by
  unfold State.feed
  with_reducible repeat' (first | assumption | intro _ | exact sub_mask hm rfl | rfl | apply State.chainMarks_keeps | apply State.frontStages_keeps | apply State.setSlot_keeps | apply ite_keep | apply foldl_keep | split | dsimp only)
theorem State.replay_keeps {m : Nat} {s u : State} (h : Keeps m s u) (hm : m &&& 316912650057057350511623145955 = 316912650057057350511623145955) (n : Nat) : Keeps m s (State.replay u n) := by
  unfold State.replay
  with_reducible repeat' (first | assumption | intro _ | exact sub_mask hm rfl | rfl | apply State.feed_keeps | apply State.setSlot_keeps | apply ite_keep | apply foldl_keep | split | dsimp only)
theorem State.passMark_keeps {m : Nat} {s u : State} (h : Keeps m s u) (hm : m &&& 950737950254182434776039819747 = 950737950254182434776039819747) (n : Nat) (m0 : SlotMark) : Keeps m s (State.passMark u n m0) := by
  unfold State.passMark
  with_reducible repeat' (first | assumption | intro _ | exact sub_mask hm rfl | rfl | apply State.drainSpectra_keeps | apply State.intakePass_keeps | apply State.endOutput_keeps | apply State.slotEndItems_keeps | apply State.passRestart_keeps | apply State.passFields_keeps | apply State.enterFixed_keeps | apply State.slotFrame_keeps | apply State.replay_keeps | apply ite_keep | apply foldl_keep | split | dsimp only)
theorem State.settleMarks_keeps {m : Nat} {s u : State} (h : Keeps m s u) (hm : m &&& 950737950254182434776039819747 = 950737950254182434776039819747) (n : Nat) (a2 : Nat) : Keeps m s (State.settleMarks u n a2) := by
  induction a2 generalizing u with
  | zero => unfold State.settleMarks; with_reducible repeat' (first | assumption | intro _ | exact sub_mask hm rfl | rfl | apply State.passMark_keeps | apply State.setSlot_keeps | apply ite_keep | apply foldl_keep | split | dsimp only)
  | succ n ih => unfold State.settleMarks; with_reducible repeat' (first | assumption | apply ih | intro _ | exact sub_mask hm rfl | rfl | apply State.passMark_keeps | apply State.setSlot_keeps | apply ite_keep | apply foldl_keep | split | dsimp only)
theorem State.settleSlot_keeps {m : Nat} {s u : State} (h : Keeps m s u) (hm : m &&& 950737950254182434776039819747 = 950737950254182434776039819747) (n : Nat) : Keeps m s (State.settleSlot u n) := by
  unfold State.settleSlot
  with_reducible repeat' (first | assumption | intro _ | exact sub_mask hm rfl | rfl | apply State.settleMarks_keeps | apply ite_keep | apply foldl_keep | split | dsimp only)
theorem State.gapSample_keeps {m : Nat} {s u : State} (h : Keeps m s u) (hm : m &&& 316912650057057350374184192481 = 316912650057057350374184192481) (n : Nat) : Keeps m s (State.gapSample u n) := by
  unfold State.gapSample
  with_reducible repeat' (first | assumption | intro _ | exact sub_mask hm rfl | rfl | apply State.setSlot_keeps | apply State.put_keeps | apply State.wr64_keeps | apply State.raise_keeps | apply ite_keep | apply foldl_keep | split | dsimp only)
theorem State.takeGrid_keeps {m : Nat} {s u : State} (h : Keeps m s u) (hm : m &&& 8388608 = 8388608) (n : Nat) (u0 : Int) (y : Smp) : Keeps m s (State.takeGrid u n u0 y) := by
  unfold State.takeGrid
  with_reducible repeat' (first | assumption | intro _ | exact sub_mask hm rfl | rfl | apply State.setSlot_keeps | apply ite_keep | apply foldl_keep | split | dsimp only)
theorem State.gridStep_keeps {m : Nat} {s u : State} (h : Keeps m s u) (hm : m &&& 316912650057057350374184192481 = 316912650057057350374184192481) (n : Nat) : Keeps m s (State.gridStep u n) := by
  unfold State.gridStep
  with_reducible repeat' (first | assumption | intro _ | exact sub_mask hm rfl | rfl | apply State.gapSample_keeps | apply State.slotSat_keeps | apply State.takeGrid_keeps | apply State.gapEnd_keeps | apply ite_keep | apply foldl_keep | split | dsimp only)
theorem State.gridAdvance_keeps {m : Nat} {s u : State} (h : Keeps m s u) (hm : m &&& 950737950254182434776039819747 = 950737950254182434776039819747) (n : Nat) : Keeps m s (State.gridAdvance u n) := by
  unfold State.gridAdvance
  with_reducible repeat' (first | assumption | intro _ | exact sub_mask hm rfl | rfl | apply State.settleSlot_keeps | apply State.gridStep_keeps | apply ite_keep | apply foldl_keep | split | dsimp only)
theorem State.gridDrain_keeps {m : Nat} {s u : State} (h : Keeps m s u) (hm : m &&& 950737950254182434776039819747 = 950737950254182434776039819747) (n : Nat) (a2 : Nat) : Keeps m s (State.gridDrain u n a2) := by
  induction a2 generalizing u with
  | zero => unfold State.gridDrain; with_reducible repeat' (first | assumption | intro _ | exact sub_mask hm rfl | rfl | apply State.gridAdvance_keeps | apply ite_keep | apply foldl_keep | split | dsimp only)
  | succ n ih => unfold State.gridDrain; with_reducible repeat' (first | assumption | apply ih | intro _ | exact sub_mask hm rfl | rfl | apply State.gridAdvance_keeps | apply ite_keep | apply foldl_keep | split | dsimp only)
theorem State.sourceResume_keeps {m : Nat} {s u : State} (h : Keeps m s u) (hm : m &&& 950737950254182434776039819747 = 950737950254182434776039819747) (n : Nat) : Keeps m s (State.sourceResume u n) := by
  unfold State.sourceResume
  with_reducible repeat' (first | assumption | intro _ | exact sub_mask hm rfl | rfl | apply State.resumeSource_keeps | apply State.gridDrain_keeps | apply ite_keep | apply foldl_keep | split | dsimp only)
theorem execSourceResume_keeps {m : Nat} {s u : State} (h : Keeps m s u) (hm : m &&& 950737950254182434776039819747 = 950737950254182434776039819747) (n : Nat) : OutKeeps m s (execSourceResume n u) := by
  unfold execSourceResume
  with_reducible repeat' (first | assumption | intro _ | exact sub_mask hm rfl | rfl | apply State.sourceResume_keeps | apply ite_keep | apply foldl_keep | apply outKeep_next | apply ite_outKeep | split | dsimp only)
theorem State.detect_keeps {m : Nat} {s u : State} (h : Keeps m s u) (hm : m &&& 18889466529612906364929 = 18889466529612906364929) (n : Nat) (t : Int) (sum : Nat) : Keeps m s (State.detect u n t sum) := by
  unfold State.detect
  with_reducible repeat' (first | assumption | intro _ | exact sub_mask hm rfl | rfl | apply State.bump_keeps | apply State.offerTrig_keeps | apply State.trgSend_keeps | apply ite_keep | apply foldl_keep | split | dsimp only)
theorem State.fastPower_keeps {m : Nat} {s u : State} (h : Keeps m s u) (hm : m &&& 18889466529612914753537 = 18889466529612914753537) (n : Nat) (t : Int) (x : Smp) : Keeps m s (State.fastPower u n t x) := by
  unfold State.fastPower
  with_reducible repeat' (first | assumption | intro _ | exact sub_mask hm rfl | rfl | apply State.detect_keeps | apply State.setSlot_keeps | apply ite_keep | apply foldl_keep | split | dsimp only)
theorem execGridSampleEmit_keeps {m : Nat} {s u : State} (h : Keeps m s u) (hm : m &&& 950737950254182434776039819747 = 950737950254182434776039819747) (n : Nat) : OutKeeps m s (execGridSampleEmit n u) := by
  unfold execGridSampleEmit
  with_reducible repeat' (first | assumption | intro _ | exact sub_mask hm rfl | rfl | apply State.gridAdvance_keeps | apply ite_keep | apply foldl_keep | apply outKeep_next | apply ite_outKeep | split | dsimp only)
theorem execSpectrumReady_keeps {m : Nat} {s u : State} (h : Keeps m s u) (hm : m &&& 950737950171172086306907884001 = 950737950171172086306907884001) (n : Nat) : OutKeeps m s (execSpectrumReady n u) := by
  unfold execSpectrumReady
  with_reducible repeat' (first | assumption | intro _ | exact sub_mask hm rfl | rfl | apply State.spectrumStep_keeps | apply ite_keep | apply foldl_keep | apply outKeep_next | apply ite_outKeep | split | dsimp only)
theorem State.setBeam_keeps {m : Nat} {s u : State} (h : Keeps m s u) (hm : m &&& 1099511627776 = 1099511627776) (b : Nat) (x : Beam) : Keeps m s (State.setBeam u b x) := by
  unfold State.setBeam
  with_reducible repeat' (first | assumption | intro _ | exact sub_mask hm rfl | rfl | apply ite_keep | apply foldl_keep | split | dsimp only | apply keep_beams)
theorem State.bmacGone_keeps {m : Nat} {s u : State} (h : Keeps m s u) (hm : m &&& 10458117451882892562416520923617 = 10458117451882892562416520923617) (a : Nat) (pol : Bool) : Keeps m s (State.bmacGone u a pol) := by
  unfold State.bmacGone
  with_reducible repeat' (first | assumption | intro _ | exact sub_mask hm rfl | rfl | apply State.wn_keeps | apply State.put_keeps | apply State.spareExhausted_keeps | apply State.policyLog_keeps | apply ite_keep | apply foldl_keep | split | dsimp only | apply keep_bmacShed)
theorem State.bmacSwitch_keeps {m : Nat} {s u : State} (h : Keeps m s u) (hm : m &&& 10458117451882892562416520923617 = 10458117451882892562416520923617) (a : Nat) (pol : Bool) : Keeps m s (State.bmacSwitch u a pol) := by
  unfold State.bmacSwitch
  with_reducible repeat' (first | assumption | intro _ | exact sub_mask hm rfl | rfl | apply State.useSpare_keeps | apply State.put_keeps | apply State.raise_keeps | apply State.bmacGone_keeps | apply ite_keep | apply foldl_keep | split | dsimp only)
theorem State.retireBmac_keeps {m : Nat} {s u : State} (h : Keeps m s u) (hm : m &&& 10458117451882894814216334608865 = 10458117451882894814216334608865) (a : Nat) (pol : Bool) : Keeps m s (State.retireBmac u a pol) := by
  unfold State.retireBmac
  with_reducible repeat' (first | assumption | intro _ | exact sub_mask hm rfl | rfl | apply State.bmacSwitch_keeps | apply State.put_keeps | apply State.bmacGone_keeps | apply ite_keep | apply foldl_keep | split | dsimp only | apply keep_bmacSwaps)
theorem execBmacFail_keeps {m : Nat} {s u : State} (h : Keeps m s u) (hm : m &&& 10458117451882894814216334608865 = 10458117451882894814216334608865) (a : Nat) : OutKeeps m s (execBmacFail a u) := by
  unfold execBmacFail
  with_reducible repeat' (first | assumption | intro _ | exact sub_mask hm rfl | rfl | apply State.raise_keeps | apply State.put_keeps | apply State.retireBmac_keeps | apply ite_keep | apply foldl_keep | apply outKeep_next | apply ite_outKeep | split | dsimp only)
theorem State.beamSat_keeps {m : Nat} {s u : State} (h : Keeps m s u) (hm : m &&& 1 = 1) (b : Nat) (clips : Nat) : Keeps m s (State.beamSat u b clips) := by
  unfold State.beamSat
  with_reducible repeat' (first | assumption | intro _ | exact sub_mask hm rfl | rfl | apply State.put_keeps | apply State.bump_keeps | apply ite_keep | apply foldl_keep | split | dsimp only)
theorem State.beamOut_keeps {m : Nat} {s u : State} (h : Keeps m s u) (hm : m &&& 1162183790559233 = 1162183790559233) (b : Nat) (y : Spectrum) (used : Nat) : Keeps m s (State.beamOut u b y used) := by
  unfold State.beamOut
  with_reducible repeat' (first | assumption | intro _ | exact sub_mask hm rfl | rfl | apply State.sendTx_keeps | apply State.pathTake_keeps | apply State.beamSat_keeps | apply State.setBeam_keeps | apply ite_keep | apply foldl_keep | split | dsimp only)
theorem State.finishSum_keeps {m : Nat} {s u : State} (h : Keeps m s u) (hm : m &&& 316912650057058512557966363105 = 316912650057058512557966363105) (b : Nat) (x : BeamWait) : Keeps m s (State.finishSum u b x) := by
  unfold State.finishSum
  with_reducible repeat' (first | assumption | intro _ | exact sub_mask hm rfl | rfl | apply State.setBeam_keeps | apply State.put_keeps | apply State.wr64_keeps | apply State.raise_keeps | apply State.beamOut_keeps | apply State.beamSat_keeps | apply ite_keep | apply foldl_keep | split | dsimp only)
theorem State.finishSums_keeps {m : Nat} {s u : State} (h : Keeps m s u) (hm : m &&& 316912650057058512557966363105 = 316912650057058512557966363105) (b : Nat) (a2 : List BeamWait) : Keeps m s (State.finishSums u b a2) := by
  induction a2 generalizing u with
  | nil => unfold State.finishSums; with_reducible repeat' (first | assumption | intro _ | exact sub_mask hm rfl | rfl | apply State.finishSum_keeps | apply State.setBeam_keeps | apply ite_keep | apply foldl_keep | split | dsimp only)
  | cons _ n ih => unfold State.finishSums; with_reducible repeat' (first | assumption | apply ih | intro _ | exact sub_mask hm rfl | rfl | apply State.finishSum_keeps | apply State.setBeam_keeps | apply ite_keep | apply foldl_keep | split | dsimp only)
theorem State.beamEndItems_keeps {m : Nat} {s u : State} (h : Keeps m s u) (hm : m &&& 36283883716609 = 36283883716609) (b : Nat) : Keeps m s (State.beamEndItems u b) := by
  unfold State.beamEndItems
  with_reducible repeat' (first | assumption | intro _ | exact sub_mask hm rfl | rfl | apply State.pathEnd_keeps | apply State.setBeam_keeps | apply ite_keep | apply foldl_keep | apply ite_keep1 | apply foldl_keep1 | split | refine pairKeep1 (by assumption) ?_ | dsimp only)
theorem State.beamTake_keeps {m : Nat} {s u : State} (h : Keeps m s u) (hm : m &&& 38620345925635 = 38620345925635) (b : Nat) (k0 : Nat) (x : Staged) : Keeps m s (State.beamTake u b k0 x) := by
  unfold State.beamTake
  with_reducible repeat' (first | assumption | intro _ | exact sub_mask hm rfl | rfl | apply State.forceVals_keeps | apply State.beamEndItems_keeps | apply State.setBeam_keeps | apply State.wr64_keeps | apply ite_keep | apply foldl_keep | split | dsimp only | apply keep_partials)
theorem State.beamFrame_keeps {m : Nat} {s u : State} (h : Keeps m s u) (hm : m &&& 633825300114114737032235319296 = 633825300114114737032235319296) (b : Nat) (m0 : BeamMark) : Keeps m s (State.beamFrame u b m0) := by
  unfold State.beamFrame
  with_reducible repeat' (first | assumption | intro _ | exact sub_mask hm rfl | rfl | apply State.draw_keeps | apply State.frameItem_keeps | apply State.setBeam_keeps | apply ite_keep | apply foldl_keep | apply ite_keep2 | apply foldl_keep2 | apply ite_keep1 | apply foldl_keep1 | split | refine pairKeep2 (by assumption) ?_ | refine pairKeep1 (by assumption) ?_ | dsimp only)
theorem State.passBeam_keeps {m : Nat} {s u : State} (h : Keeps m s u) (hm : m &&& 633825300114114739368697528323 = 633825300114114739368697528323) (b : Nat) (m0 : BeamMark) : Keeps m s (State.passBeam u b m0) := by
  unfold State.passBeam
  with_reducible repeat' (first | assumption | intro _ | exact sub_mask hm rfl | rfl | apply State.beamTake_keeps | apply State.beamFrame_keeps | apply ite_keep | apply foldl_keep | split | dsimp only)
theorem State.settleMarksOf_keeps {m : Nat} {s u : State} (h : Keeps m s u) (hm : m &&& 633825300114114739368697528323 = 633825300114114739368697528323) (b : Nat) (a2 : Nat) : Keeps m s (State.settleMarksOf u b a2) := by
  induction a2 generalizing u with
  | zero => unfold State.settleMarksOf; with_reducible repeat' (first | assumption | intro _ | exact sub_mask hm rfl | rfl | apply State.passBeam_keeps | apply State.setBeam_keeps | apply ite_keep | apply foldl_keep | split | dsimp only)
  | succ n ih => unfold State.settleMarksOf; with_reducible repeat' (first | assumption | apply ih | intro _ | exact sub_mask hm rfl | rfl | apply State.passBeam_keeps | apply State.setBeam_keeps | apply ite_keep | apply foldl_keep | split | dsimp only)
theorem State.settleBeam_keeps {m : Nat} {s u : State} (h : Keeps m s u) (hm : m &&& 633825300114114739368697528323 = 633825300114114739368697528323) (b : Nat) : Keeps m s (State.settleBeam u b) := by
  unfold State.settleBeam
  with_reducible repeat' (first | assumption | intro _ | exact sub_mask hm rfl | rfl | apply State.settleMarksOf_keeps | apply State.setBeam_keeps | apply ite_keep | apply foldl_keep | split | dsimp only)
theorem State.beamGoes_keeps {m : Nat} {s u : State} (h : Keeps m s u) (hm : m &&& 950737950171173215642780174819 = 950737950171173215642780174819) (b : Nat) : Keeps m s (State.beamGoes u b) := by
  unfold State.beamGoes
  with_reducible repeat' (first | assumption | intro _ | exact sub_mask hm rfl | rfl | apply State.settleBeam_keeps | apply State.finishSums_keeps | apply ite_keep | apply foldl_keep | split | dsimp only)
theorem execChainWaitExpiry_keeps {m : Nat} {s u : State} (h : Keeps m s u) (hm : m &&& 950737950171173215642780174819 = 950737950171173215642780174819) (b : Nat) : OutKeeps m s (execChainWaitExpiry b u) := by
  unfold execChainWaitExpiry
  with_reducible repeat' (first | assumption | intro _ | exact sub_mask hm rfl | rfl | apply State.setBeam_keeps | apply State.beamGoes_keeps | apply ite_keep | apply foldl_keep | apply outKeep_next | apply ite_outKeep | split | dsimp only)
theorem execItemComplete_keeps {m : Nat} {s u : State} (h : Keeps m s u) (hm : m &&& 316912650236913210714679675361 = 316912650236913210714679675361) : OutKeeps m s (execItemComplete u) := by
  unfold execItemComplete
  with_reducible repeat' (first | assumption | intro _ | exact sub_mask hm rfl | rfl | apply State.handItem_keeps | apply ite_keep | apply foldl_keep | apply outKeep_next | apply ite_outKeep | split | dsimp only)
theorem State.endIndices_keeps {m : Nat} {s u : State} (h : Keeps m s u) (hm : m &&& 35184372088833 = 35184372088833) (p : PathCfg) (x : OutPath) (next : Nat) : Keeps m s (State.endIndices u p x next).1 := by
  unfold State.endIndices
  with_reducible repeat' (first | assumption | intro _ | exact sub_mask hm rfl | rfl | apply State.closeInteg_keeps | apply State.closeHisto_keeps | apply ite_keep | apply foldl_keep | apply ite_keep1 | apply foldl_keep1 | split | refine pairKeep1 (by assumption) ?_ | dsimp only)
theorem execIntegrationEnd_keeps {m : Nat} {s u : State} (h : Keeps m s u) (hm : m &&& 36283892105217 = 36283892105217) (n : Nat) (ofBeam : Bool) : OutKeeps m s (execIntegrationEnd n ofBeam u) := by
  unfold execIntegrationEnd
  with_reducible repeat' (first | assumption | intro _ | exact sub_mask hm rfl | rfl | apply State.endIndices_keeps | apply State.setBeam_keeps | apply State.setSlot_keeps | apply ite_keep | apply foldl_keep | apply ite_keep1 | apply foldl_keep1 | apply outKeep_next | apply ite_outKeep | split | refine pairKeep1 (by assumption) ?_ | dsimp only)
theorem execBeamSum_keeps {m : Nat} {s u : State} (h : Keeps m s u) (hm : m &&& 950737950171173215642780174819 = 950737950171173215642780174819) (b : Nat) : OutKeeps m s (execBeamSum b u) := by
  unfold execBeamSum
  with_reducible repeat' (first | assumption | intro _ | exact sub_mask hm rfl | rfl | apply State.setBeam_keeps | apply State.beamGoes_keeps | apply ite_keep | apply foldl_keep | apply outKeep_next | apply ite_outKeep | split | dsimp only | apply keep_partials)
theorem State.forceRange_keeps {m : Nat} {s u : State} (h : Keeps m s u) (hm : m &&& 137438953474 = 137438953474) (l : List (Nat × BeamCfg)) : Keeps m s (State.forceRange u l) := by
  unfold State.forceRange
  with_reducible repeat' (first | assumption | intro _ | exact sub_mask hm rfl | rfl | apply State.forceVals_keeps | apply ite_keep | apply foldl_keep | split | dsimp only)
theorem State.showBeam_keeps {m : Nat} {s u : State} (h : Keeps m s u) (hm : m &&& 1 = 1) (b : Nat) : Keeps m s (State.showBeam u b) := by
  unfold State.showBeam
  with_reducible repeat' (first | assumption | intro _ | exact sub_mask hm rfl | rfl | apply State.put_keeps | apply ite_keep | apply foldl_keep | split | dsimp only)
theorem State.stageRange_keeps {m : Nat} {s u : State} (h : Keeps m s u) (hm : m &&& 316912650057057350374175812065 = 316912650057057350374175812065) (g : Nat) (k0 : Nat) (action : Nat) (l : List (Nat × BeamCfg)) : Keeps m s (State.stageRange u g k0 action l) := by
  unfold State.stageRange
  with_reducible repeat' (first | assumption | intro _ | exact sub_mask hm rfl | rfl | apply State.showBeam_keeps | apply State.stage_keeps | apply ite_keep | apply foldl_keep | split | dsimp only)
theorem State.commitBeams_keeps {m : Nat} {s u : State} (h : Keeps m s u) (hm : m &&& 316912650057057350580334242275 = 316912650057057350580334242275) : Keeps m s (State.commitBeams u) := by
  unfold State.commitBeams
  with_reducible repeat' (first | assumption | intro _ | exact sub_mask hm rfl | rfl | apply State.refuseDom_keeps | apply State.put_keeps | apply State.forceRange_keeps | apply State.stageRange_keeps | apply ite_keep | apply foldl_keep | split | dsimp only)
theorem execBfmCommit_keeps {m : Nat} {s u : State} (h : Keeps m s u) (hm : m &&& 316912650057057350580334242795 = 316912650057057350580334242795) (w : Wr) : OutKeeps m s (execBfmCommit w u) := by
  unfold execBfmCommit
  with_reducible repeat' (first | assumption | intro _ | exact sub_mask hm rfl | rfl | apply State.pfOnly_keeps | apply State.commitBeams_keeps | apply ite_keep | apply foldl_keep | apply outKeep_next | apply ite_outKeep | split | dsimp only)
theorem State.takePartial_keeps {m : Nat} {s u : State} (h : Keeps m s u) (hm : m &&& 950737950171173215642780174819 = 950737950171173215642780174819) (b : Nat) (j : Nat) (grid : Nat) (first : Nat) (count : Nat) (flags : Nat) (vals : List (Int × Int)) : Keeps m s (State.takePartial u b j grid first count flags vals) := by
  unfold State.takePartial
  with_reducible repeat' (first | assumption | intro _ | exact sub_mask hm rfl | rfl | apply State.bump_keeps | apply State.raise_keeps | apply State.setBeam_keeps | apply State.beamGoes_keeps | apply ite_keep | apply foldl_keep | split | dsimp only | apply keep_partials)
theorem State.feCode_keeps {m : Nat} {s u : State} (h : Keeps m s u) (hm : m &&& 1 = 1) (c : Nat) : Keeps m s (State.feCode u c) := by
  unfold State.feCode
  with_reducible repeat' (first | assumption | intro _ | exact sub_mask hm rfl | rfl | apply State.put_keeps | apply ite_keep | apply foldl_keep | split | dsimp only)
theorem State.feSet_keeps {m : Nat} {s u : State} (h : Keeps m s u) (hm : m &&& 316912650057057350374175803873 = 316912650057057350374175803873) (st : Nat) : Keeps m s (State.feSet u st) := by
  unfold State.feSet
  with_reducible repeat' (first | assumption | intro _ | exact sub_mask hm rfl | rfl | apply State.raise_keeps | apply State.put_keeps | apply ite_keep | apply foldl_keep | split | dsimp only)
theorem State.feWait_keeps {m : Nat} {s u : State} (h : Keeps m s u) (hm : m &&& 4503599627370497 = 4503599627370497) (x : FeWait) : Keeps m s (State.feWait u x) := by
  unfold State.feWait
  with_reducible repeat' (first | assumption | intro _ | exact sub_mask hm rfl | rfl | apply State.put_keeps | apply ite_keep | apply foldl_keep | split | dsimp only | apply keep_fe)
theorem State.feBind_keeps {m : Nat} {s u : State} (h : Keeps m s u) (hm : m &&& 316912650057061853973803182563 = 316912650057061853973803182563) (g : Nat) (k0 : Nat) (action : Nat) (act : Option Int) : Keeps m s (State.feBind u g k0 action act) := by
  unfold State.feBind
  with_reducible repeat' (first | assumption | intro _ | exact sub_mask hm rfl | rfl | apply State.fwr_keeps | apply State.feSet_keeps | apply State.stage_keeps | apply State.put_keeps | apply State.feWait_keeps | apply ite_keep | apply foldl_keep | split | dsimp only)
theorem State.setExc_keeps {m : Nat} {s u : State} (h : Keeps m s u) (hm : m &&& 36028797018963968 = 36028797018963968) (q : Nat) (x : Exc) : Keeps m s (State.setExc u q x) := by
  unfold State.setExc
  with_reducible repeat' (first | assumption | intro _ | exact sub_mask hm rfl | rfl | apply ite_keep | apply foldl_keep | split | dsimp only | apply keep_excs)
theorem State.excStep_keeps {m : Nat} {s u : State} (h : Keeps m s u) (hm : m &&& 36028797018963968 = 36028797018963968) (q : Nat) (t : Int) : Keeps m s (State.excStep u q t) := by
  unfold State.excStep
  with_reducible repeat' (first | assumption | intro _ | exact sub_mask hm rfl | rfl | apply State.setExc_keeps | apply ite_keep | apply foldl_keep | split | dsimp only)
theorem State.excOff_keeps {m : Nat} {s u : State} (h : Keeps m s u) (hm : m &&& 36028797018963969 = 36028797018963969) (q : Nat) : Keeps m s (State.excOff u q) := by
  unfold State.excOff
  with_reducible repeat' (first | assumption | intro _ | exact sub_mask hm rfl | rfl | apply State.setExc_keeps | apply State.put_keeps | apply ite_keep | apply foldl_keep | split | dsimp only)
theorem State.excApply_keeps {m : Nat} {s u : State} (h : Keeps m s u) (hm : m &&& 316912650057093379171194767841 = 316912650057093379171194767841) (t : Int) (q : Nat) : Keeps m s (State.excApply u t q) := by
  unfold State.excApply
  with_reducible repeat' (first | assumption | intro _ | exact sub_mask hm rfl | rfl | apply State.raise_keeps | apply State.excStep_keeps | apply State.put_keeps | apply State.setExc_keeps | apply State.excOff_keeps | apply ite_keep | apply foldl_keep | split | dsimp only)
theorem State.setPcv_keeps {m : Nat} {s u : State} (h : Keeps m s u) (hm : m &&& 9007199254740992 = 9007199254740992) (p : Nat) (x : Pcv) : Keeps m s (State.setPcv u p x) := by
  unfold State.setPcv
  with_reducible repeat' (first | assumption | intro _ | exact sub_mask hm rfl | rfl | apply ite_keep | apply foldl_keep | split | dsimp only | apply keep_pcvs)
theorem State.seqApply_keeps {m : Nat} {s u : State} (h : Keeps m s u) (hm : m &&& 9007199254740992 = 9007199254740992) (k0 : Nat) (was : Nat) (p : Nat) : Keeps m s (State.seqApply u k0 was p) := by
  unfold State.seqApply
  with_reducible repeat' (first | assumption | intro _ | exact sub_mask hm rfl | rfl | apply State.setPcv_keeps | apply ite_keep | apply foldl_keep | split | dsimp only)
theorem State.sfeDirty_keeps {m : Nat} {s u : State} (h : Keeps m s u) (hm : m &&& 1 = 1) : Keeps m s (State.sfeDirty u) := by
  unfold State.sfeDirty
  with_reducible repeat' (first | assumption | intro _ | exact sub_mask hm rfl | rfl | apply State.put_keeps | apply ite_keep | apply foldl_keep | split | dsimp only)
theorem State.setSfeCh_keeps {m : Nat} {s u : State} (h : Keeps m s u) (hm : m &&& 18014398509481984 = 18014398509481984) (c : Nat) (x : SfeCh) : Keeps m s (State.setSfeCh u c x) := by
  unfold State.setSfeCh
  with_reducible repeat' (first | assumption | intro _ | exact sub_mask hm rfl | rfl | apply ite_keep | apply foldl_keep | split | dsimp only | apply keep_sfeChs)
theorem State.linApply_keeps {m : Nat} {s u : State} (h : Keeps m s u) (hm : m &&& 306244774661193729 = 306244774661193729) (t : Int) (old : List Nat) (c : Nat) : Keeps m s (State.linApply u t old c) := by
  unfold State.linApply
  with_reducible repeat' (first | assumption | intro _ | exact sub_mask hm rfl | rfl | apply State.put_keeps | apply State.setSfeCh_keeps | apply ite_keep | apply foldl_keep | split | dsimp only | apply keep_nvm)
theorem State.pauseMask_keeps {m : Nat} {s u : State} (h : Keeps m s u) (hm : m &&& 4503599627370496 = 4503599627370496) (was : Bool) (t : Int) : Keeps m s (State.pauseMask u was t) := by
  unfold State.pauseMask
  with_reducible repeat' (first | assumption | intro _ | exact sub_mask hm rfl | rfl | apply ite_keep | apply foldl_keep | split | dsimp only | apply keep_fe)
theorem State.feApply_keeps {m : Nat} {s u : State} (h : Keeps m s u) (hm : m &&& 316912650057413134882177026531 = 316912650057413134882177026531) (t : Int) (k0 : Nat) (vals : List SVal) : Keeps m s (State.feApply u t k0 vals) := by
  unfold State.feApply
  with_reducible repeat' (first | assumption | intro _ | exact sub_mask hm rfl | rfl | apply State.forceVals_keeps | apply State.excApply_keeps | apply State.seqApply_keeps | apply State.sfeDirty_keeps | apply State.linApply_keeps | apply State.pauseMask_keeps | apply ite_keep | apply foldl_keep | split | dsimp only)
theorem State.feStage_keeps {m : Nat} {s u : State} (h : Keeps m s u) (hm : m &&& 316912650057413134882177034723 = 316912650057413134882177034723) (action : Nat) (act : Option Int) (vals : List SVal) : OptKeeps m s (State.feStage u action act vals) := by
  unfold State.feStage
  with_reducible repeat' (first | assumption | intro _ | exact sub_mask hm rfl | rfl | apply State.feApply_keeps | apply State.sfeDirty_keeps | apply State.stage_keeps | apply ite_keep | apply foldl_keep | apply ite_optKeep | apply optKeep_some | apply optKeep_none | split | dsimp only)
theorem State.feCommit_keeps {m : Nat} {s u : State} (h : Keeps m s u) (hm : m &&& 316912650057413134882177034723 = 316912650057413134882177034723) (action : Nat) (act : Option Int) (vals : List SVal) (shadow : List SVal) : OptKeeps m s (State.feCommit u action act vals shadow) := by
  unfold State.feCommit
  with_reducible repeat' (first | assumption | intro _ | exact sub_mask hm rfl | rfl | apply State.feStage_keeps | apply State.feWait_keeps | apply State.feApply_keeps | apply ite_keep | apply foldl_keep | apply ite_optKeep | apply optKeep_some | apply optKeep_none | split | refine optKeep_get (by assumption) ?_ | apply optKeep_getD | apply optKeep_map | dsimp only)
theorem State.feUnbind_keeps {m : Nat} {s u : State} (h : Keeps m s u) (hm : m &&& 951975890279633847642465036769 = 951975890279633847642465036769) (k0 : Nat) (action : Nat) : Keeps m s (State.feUnbind u k0 action) := by
  unfold State.feUnbind
  with_reducible repeat' (first | assumption | intro _ | exact sub_mask hm rfl | rfl | apply State.abortDiscarded_keeps | apply State.feSet_keeps | apply State.stage_keeps | apply ite_keep | apply foldl_keep | split | dsimp only | apply keep_staged)
theorem State.sfeCtlWrite_keeps {m : Nat} {s u : State} (h : Keeps m s u) (hm : m &&& 951975890279989632150466259427 = 951975890279989632150466259427) (w : Wr) : Keeps m s (State.sfeCtlWrite u w) := by
  unfold State.sfeCtlWrite
  with_reducible repeat' (first | assumption | intro _ | exact sub_mask hm rfl | rfl | apply State.mergeRaw_keeps | apply State.feCode_keeps | apply State.feBind_keeps | apply State.feCommit_keeps | apply State.feUnbind_keeps | apply ite_keep | apply foldl_keep | split | refine optKeep_get (by assumption) ?_ | apply optKeep_getD | apply optKeep_map | dsimp only)
theorem execSfeCommit_keeps {m : Nat} {s u : State} (h : Keeps m s u) (hm : m &&& 951975890279989632150466259947 = 951975890279989632150466259947) (w : Wr) : OutKeeps m s (execSfeCommit w u) := by
  unfold execSfeCommit
  with_reducible repeat' (first | assumption | intro _ | exact sub_mask hm rfl | rfl | apply State.pfOnly_keeps | apply State.sfeCtlWrite_keeps | apply ite_keep | apply foldl_keep | apply outKeep_next | apply ite_outKeep | split | dsimp only)
theorem execSfeBind_keeps {m : Nat} {s u : State} (h : Keeps m s u) (hm : m &&& 951975890279989632150466259947 = 951975890279989632150466259947) (w : Wr) : OutKeeps m s (execSfeBind w u) := by
  unfold execSfeBind
  with_reducible repeat' (first | assumption | intro _ | exact sub_mask hm rfl | rfl | apply State.pfOnly_keeps | apply State.sfeCtlWrite_keeps | apply ite_keep | apply foldl_keep | apply outKeep_next | apply ite_outKeep | split | dsimp only)
theorem execPcvRefOk_keeps {m : Nat} {s u : State} (h : Keeps m s u) (hm : m &&& 316912650057061853973803174369 = 316912650057061853973803174369) : OutKeeps m s (execPcvRefOk u) := by
  unfold execPcvRefOk
  with_reducible repeat' (first | assumption | intro _ | exact sub_mask hm rfl | rfl | apply State.raise_keeps | apply State.put_keeps | apply ite_keep | apply foldl_keep | apply outKeep_next | apply ite_outKeep | split | dsimp only | apply keep_fe)
theorem execSfeUnbind_keeps {m : Nat} {s u : State} (h : Keeps m s u) (hm : m &&& 951975890279989632150466259947 = 951975890279989632150466259947) (w : Wr) : OutKeeps m s (execSfeUnbind w u) := by
  unfold execSfeUnbind
  with_reducible repeat' (first | assumption | intro _ | exact sub_mask hm rfl | rfl | apply State.pfOnly_keeps | apply State.sfeCtlWrite_keeps | apply ite_keep | apply foldl_keep | apply outKeep_next | apply ite_outKeep | split | dsimp only)
theorem State.retirePcv_keeps {m : Nat} {s u : State} (h : Keeps m s u) (hm : m &&& 9007199254740992 = 9007199254740992) (p : Nat) (pol : Bool) : Keeps m s (State.retirePcv u p pol) := by
  unfold State.retirePcv
  with_reducible repeat' (first | assumption | intro _ | exact sub_mask hm rfl | rfl | apply State.setPcv_keeps | apply ite_keep | apply foldl_keep | split | dsimp only)
theorem State.pauseEntry_keeps {m : Nat} {s u : State} (h : Keeps m s u) (hm : m &&& 9007199254740993 = 9007199254740993) (t : Int) (p : Nat) : Keeps m s (State.pauseEntry u t p) := by
  unfold State.pauseEntry
  with_reducible repeat' (first | assumption | intro _ | exact sub_mask hm rfl | rfl | apply State.put_keeps | apply State.setPcv_keeps | apply ite_keep | apply foldl_keep | split | dsimp only)
theorem State.feBlank_keeps {m : Nat} {s u : State} (h : Keeps m s u) (hm : m &&& 13519594975133697 = 13519594975133697) (line : Nat) (asserted : Bool) (t : Int) : Keeps m s (State.feBlank u line asserted t) := by
  unfold State.feBlank
  with_reducible repeat' (first | assumption | intro _ | exact sub_mask hm rfl | rfl | apply State.pauseEntry_keeps | apply ite_keep | apply foldl_keep | split | dsimp only | apply keep_blanks | apply keep_fe)
theorem execBlankEdge_keeps {m : Nat} {s u : State} (h : Keeps m s u) (hm : m &&& 13519594975133697 = 13519594975133697) (line : Nat) (asserted : Bool) : OutKeeps m s (execBlankEdge line asserted u) := by
  unfold execBlankEdge
  with_reducible repeat' (first | assumption | intro _ | exact sub_mask hm rfl | rfl | apply State.feBlank_keeps | apply ite_keep | apply foldl_keep | apply outKeep_next | apply ite_outKeep | split | dsimp only | apply keep_blanks)
theorem State.pcvCode_keeps {m : Nat} {s u : State} (h : Keeps m s u) (hm : m &&& 633825300114114700748351602688 = 633825300114114700748351602688) (g : Nat) (cor : Int × Int) (c : Conv) : Keeps m s (State.pcvCode u g cor c).2 := by
  unfold State.pcvCode
  with_reducible repeat' (first | assumption | intro _ | exact sub_mask hm rfl | rfl | apply State.draw_keeps | apply ite_keep | apply foldl_keep | apply ite_keep2 | apply foldl_keep2 | split | refine pairKeep2 (by assumption) ?_ | dsimp only)
theorem State.pcvCodes_keeps {m : Nat} {s u : State} (h : Keeps m s u) (hm : m &&& 633825300114114700748351602688 = 633825300114114700748351602688) (g : Nat) (cor : Int × Int) (a3 : List Conv) : Keeps m s (State.pcvCodes u g cor a3).2 := by
  induction a3 generalizing u with
  | nil => unfold State.pcvCodes; with_reducible repeat' (first | assumption | intro _ | exact sub_mask hm rfl | rfl | apply State.pcvCode_keeps | apply ite_keep | apply foldl_keep | apply ite_keep2 | apply foldl_keep2 | split | refine pairKeep2 (by assumption) ?_ | dsimp only)
  | cons _ n ih => unfold State.pcvCodes; with_reducible repeat' (first | assumption | apply ih | intro _ | exact sub_mask hm rfl | rfl | apply State.pcvCode_keeps | apply ite_keep | apply foldl_keep | apply ite_keep2 | apply foldl_keep2 | split | refine pairKeep2 (by assumption) ?_ | dsimp only)
theorem State.cmEntry_keeps {m : Nat} {s u : State} (h : Keeps m s u) (hm : m &&& 316912650057075364772685285857 = 316912650057075364772685285857) (c : Nat) (out : Bool) : Keeps m s (State.cmEntry u c out) := by
  unfold State.cmEntry
  with_reducible repeat' (first | assumption | intro _ | exact sub_mask hm rfl | rfl | apply State.setSfeCh_keeps | apply State.raise_keeps | apply State.put_keeps | apply State.stageLog_keeps | apply ite_keep | apply foldl_keep | split | dsimp only)
theorem State.pcvResult_keeps {m : Nat} {s u : State} (h : Keeps m s u) (hm : m &&& 950737950171190065521036888545 = 950737950171190065521036888545) (p : Nat) (r : PcvRun) (convs : List Conv) : Keeps m s (State.pcvResult u p r convs).2 := by
  unfold State.pcvResult
  with_reducible repeat' (first | assumption | intro _ | exact sub_mask hm rfl | rfl | apply State.pcvCodes_keeps | apply State.cmEntry_keeps | apply State.put_keeps | apply State.setSfeCh_keeps | apply State.raise_keeps | apply ite_keep | apply foldl_keep | apply ite_keep2 | apply foldl_keep2 | split | refine pairKeep2 (by assumption) ?_ | dsimp only)
theorem State.pcvSend_keeps {m : Nat} {s u : State} (h : Keeps m s u) (hm : m &&& 9042383626829824 = 9042383626829824) (p : Nat) (mk : Nat → List Byte) : Keeps m s (State.pcvSend u p mk).1 := by
  unfold State.pcvSend
  with_reducible repeat' (first | assumption | intro _ | exact sub_mask hm rfl | rfl | apply State.setPcv_keeps | apply State.readyItem_keeps | apply ite_keep | apply foldl_keep | apply ite_keep1 | apply foldl_keep1 | split | dsimp only)
theorem State.noRecord_keeps {m : Nat} {s u : State} (h : Keeps m s u) (hm : m &&& 9042383626829824 = 9042383626829824) (p : Nat) (k0 : Nat) (e : Nat) (flags : Nat) : Keeps m s (State.noRecord u p k0 e flags) := by
  unfold State.noRecord
  with_reducible repeat' (first | assumption | intro _ | exact sub_mask hm rfl | rfl | apply State.pcvSend_keeps | apply ite_keep | apply foldl_keep | apply ite_keep1 | apply foldl_keep1 | split | refine pairKeep1 (by assumption) ?_ | dsimp only)
theorem State.pcvDead_keeps {m : Nat} {s u : State} (h : Keeps m s u) (hm : m &&& 951975890279642890026091858401 = 951975890279642890026091858401) (p : Nat) (t : Int) : Keeps m s (State.pcvDead u p t) := by
  unfold State.pcvDead
  with_reducible repeat' (first | assumption | intro _ | exact sub_mask hm rfl | rfl | apply State.put_keeps | apply State.setPcv_keeps | apply State.pcvSend_keeps | apply State.finishCmd_keeps | apply State.noRecord_keeps | apply ite_keep | apply foldl_keep | apply ite_keep1 | apply foldl_keep1 | split | refine pairKeep1 (by assumption) ?_ | dsimp only)
theorem State.pcvNext_keeps {m : Nat} {s u : State} (h : Keeps m s u) (hm : m &&& 951975890279642890026091858401 = 951975890279642890026091858401) (p : Nat) (t : Int) : Keeps m s (State.pcvNext u p t) := by
  unfold State.pcvNext
  with_reducible repeat' (first | assumption | intro _ | exact sub_mask hm rfl | rfl | apply State.put_keeps | apply State.setPcv_keeps | apply State.pcvDead_keeps | apply ite_keep | apply foldl_keep | split | dsimp only)
theorem execPcvEntryEnd_keeps {m : Nat} {s u : State} (h : Keeps m s u) (hm : m &&& 951975890279660904424601340385 = 951975890279660904424601340385) (p : Nat) (convs : List Conv) : OutKeeps m s (execPcvEntryEnd p convs u) := by
  unfold execPcvEntryEnd
  with_reducible repeat' (first | assumption | intro _ | exact sub_mask hm rfl | rfl | apply State.pcvResult_keeps | apply State.pcvSend_keeps | apply State.setPcv_keeps | apply State.finishCmd_keeps | apply State.pcvNext_keeps | apply ite_keep | apply foldl_keep | apply ite_keep2 | apply foldl_keep2 | apply ite_keep1 | apply foldl_keep1 | apply outKeep_next | apply ite_outKeep | split | refine pairKeep2 (by assumption) ?_ | refine pairKeep1 (by assumption) ?_ | dsimp only)
theorem State.excLimit_keeps {m : Nat} {s u : State} (h : Keeps m s u) (hm : m &&& 316912650057057350374175803873 = 316912650057057350374175803873) (q : Nat) (limit : Bool) : Keeps m s (State.excLimit u q limit) := by
  unfold State.excLimit
  with_reducible repeat' (first | assumption | intro _ | exact sub_mask hm rfl | rfl | apply State.put_keeps | apply State.raise_keeps | apply ite_keep | apply foldl_keep | split | dsimp only)
theorem State.urgRefuse_keeps {m : Nat} {s u : State} (h : Keeps m s u) (hm : m &&& 951975890279633847642465028577 = 951975890279633847642465028577) (p : Nat) (u0 : UrgReq) (code : Nat) : Keeps m s (State.urgRefuse u p u0 code) := by
  unfold State.urgRefuse
  with_reducible repeat' (first | assumption | intro _ | exact sub_mask hm rfl | rfl | apply State.raise_keeps | apply State.bump_keeps | apply State.put_keeps | apply State.finishCmd_keeps | apply ite_keep | apply foldl_keep | split | dsimp only)
theorem execExcRampEnd_keeps {m : Nat} {s u : State} (h : Keeps m s u) (hm : m &&& 1 = 1) (q : Nat) : OutKeeps m s (execExcRampEnd q u) := by
  unfold execExcRampEnd
  with_reducible repeat' (first | assumption | intro _ | exact sub_mask hm rfl | rfl | apply State.put_keeps | apply ite_keep | apply foldl_keep | apply outKeep_next | apply ite_outKeep | split | dsimp only)
theorem execPcvMidscaleCheck_keeps {m : Nat} {s u : State} (h : Keeps m s u) (hm : m &&& 316912650057066357573430544865 = 316912650057066357573430544865) (p : Nat) (err : Int) : OutKeeps m s (execPcvMidscaleCheck p err u) := by
  unfold execPcvMidscaleCheck
  with_reducible repeat' (first | assumption | intro _ | exact sub_mask hm rfl | rfl | apply State.setPcv_keeps | apply State.put_keeps | apply State.raise_keeps | apply State.retirePcv_keeps | apply ite_keep | apply foldl_keep | apply outKeep_next | apply ite_outKeep | split | dsimp only)
theorem State.refCtlWrite_keeps {m : Nat} {s u : State} (h : Keeps m s u) (hm : m &&& 316912650057061853973803174369 = 316912650057061853973803174369) (w : Wr) : Keeps m s (State.refCtlWrite u w) := by
  unfold State.refCtlWrite
  with_reducible repeat' (first | assumption | intro _ | exact sub_mask hm rfl | rfl | apply State.put_keeps | apply State.raise_keeps | apply ite_keep | apply foldl_keep | split | dsimp only | apply keep_fe)
theorem State.urgAbort_keeps {m : Nat} {s u : State} (h : Keeps m s u) (hm : m &&& 9007199254740992 = 9007199254740992) (p : Nat) : Keeps m s (State.urgAbort u p) := by
  unfold State.urgAbort
  with_reducible repeat' (first | assumption | intro _ | exact sub_mask hm rfl | rfl | apply State.setPcv_keeps | apply ite_keep | apply foldl_keep | split | dsimp only)
theorem State.pauseRecord_keeps {m : Nat} {s u : State} (h : Keeps m s u) (hm : m &&& 9042383626829824 = 9042383626829824) (x : Pause) (len : Int) (p : Nat) : Keeps m s (State.pauseRecord u x len p) := by
  unfold State.pauseRecord
  with_reducible repeat' (first | assumption | intro _ | exact sub_mask hm rfl | rfl | apply State.pcvSend_keeps | apply ite_keep | apply foldl_keep | apply ite_keep1 | apply foldl_keep1 | split | refine pairKeep1 (by assumption) ?_ | dsimp only)
theorem State.pcvLeave_keeps {m : Nat} {s u : State} (h : Keeps m s u) (hm : m &&& 316912650057066357642150021601 = 316912650057066357642150021601) (p : Nat) : Keeps m s (State.pcvLeave u p) := by
  unfold State.pcvLeave
  with_reducible repeat' (first | assumption | intro _ | exact sub_mask hm rfl | rfl | apply State.put_keeps | apply State.setPcv_keeps | apply State.useSpare_keeps | apply State.raise_keeps | apply State.policyLog_keeps | apply State.spareExhausted_keeps | apply ite_keep | apply foldl_keep | split | dsimp only)
theorem execUrgentArrive_keeps {m : Nat} {s u : State} (h : Keeps m s u) (hm : m &&& 951975890279642890026091858401 = 951975890279642890026091858401) (p : Nat) : OutKeeps m s (execUrgentArrive p u) := by
  unfold execUrgentArrive
  with_reducible repeat' (first | assumption | intro _ | exact sub_mask hm rfl | rfl | apply State.setPcv_keeps | apply State.urgRefuse_keeps | apply State.put_keeps | apply State.pcvNext_keeps | apply State.urgAbort_keeps | apply ite_keep | apply foldl_keep | apply outKeep_next | apply ite_outKeep | split | dsimp only)
theorem State.urgRequest_keeps {m : Nat} {s u : State} (h : Keeps m s u) (hm : m &&& 9007199254740992 = 9007199254740992) (p : Nat) (u0 : UrgReq) : Keeps m s (State.urgRequest u p u0) := by
  unfold State.urgRequest
  with_reducible repeat' (first | assumption | intro _ | exact sub_mask hm rfl | rfl | apply State.setPcv_keeps | apply ite_keep | apply foldl_keep | split | dsimp only)
theorem State.urgTrigger_keeps {m : Nat} {s u : State} (h : Keeps m s u) (hm : m &&& 9007199254740992 = 9007199254740992) (o : Nat) : Keeps m s (State.urgTrigger u o) := by
  unfold State.urgTrigger
  with_reducible repeat' (first | assumption | intro _ | exact sub_mask hm rfl | rfl | apply State.urgRequest_keeps | apply ite_keep | apply foldl_keep | split | dsimp only)
theorem State.skipEntries_keeps {m : Nat} {s u : State} (h : Keeps m s u) (hm : m &&& 316912650057066392757802633697 = 316912650057066392757802633697) (p : Nat) : Keeps m s (State.skipEntries u p) := by
  unfold State.skipEntries
  with_reducible repeat' (first | assumption | intro _ | exact sub_mask hm rfl | rfl | apply State.noRecord_keeps | apply State.setPcv_keeps | apply State.raise_keeps | apply State.put_keeps | apply State.bump_keeps | apply ite_keep | apply foldl_keep | split | dsimp only)
theorem State.beginCycle_keeps {m : Nat} {s u : State} (h : Keeps m s u) (hm : m &&& 9007199254740992 = 9007199254740992) (p : Nat) (k0 : Nat) : Keeps m s (State.beginCycle u p k0) := by
  unfold State.beginCycle
  with_reducible repeat' (first | assumption | intro _ | exact sub_mask hm rfl | rfl | apply State.setPcv_keeps | apply ite_keep | apply foldl_keep | split | dsimp only)
theorem execPcvCycleStart_keeps {m : Nat} {s u : State} (h : Keeps m s u) (hm : m &&& 951975890279642890026091858401 = 951975890279642890026091858401) (p : Nat) : OutKeeps m s (execPcvCycleStart p u) := by
  unfold execPcvCycleStart
  with_reducible repeat' (first | assumption | intro _ | exact sub_mask hm rfl | rfl | apply State.pcvLeave_keeps | apply State.skipEntries_keeps | apply State.beginCycle_keeps | apply State.pcvNext_keeps | apply ite_keep | apply foldl_keep | apply outKeep_next | apply ite_outKeep | split | dsimp only)
theorem State.feRefuse_keeps {m : Nat} {s u : State} (h : Keeps m s u) (hm : m &&& 951975890279633847642465028577 = 951975890279633847642465028577) (x : FeWait) (status : Nat) : Keeps m s (State.feRefuse u x status) := by
  unfold State.feRefuse
  with_reducible repeat' (first | assumption | intro _ | exact sub_mask hm rfl | rfl | apply State.feSet_keeps | apply State.finishCmd_keeps | apply State.feCode_keeps | apply ite_keep | apply foldl_keep | split | dsimp only)
theorem State.shadowMask_keeps {m : Nat} {s u : State} (h : Keeps m s u) (hm : m &&& 316912650057057350374175803873 = 316912650057057350374175803873) (v : SVal) : Keeps m s (State.shadowMask u v) := by
  unfold State.shadowMask
  with_reducible repeat' (first | assumption | intro _ | exact sub_mask hm rfl | rfl | apply State.mergeRaw_keeps | apply ite_keep | apply foldl_keep | split | dsimp only)
theorem State.feSettled_keeps {m : Nat} {s u : State} (h : Keeps m s u) (hm : m &&& 951975890279989632150466259427 = 951975890279989632150466259427) (x : FeWait) : Keeps m s (State.feSettled u x) := by
  unfold State.feSettled
  with_reducible repeat' (first | assumption | intro _ | exact sub_mask hm rfl | rfl | apply State.finishCmd_keeps | apply State.feApply_keeps | apply State.feRefuse_keeps | apply State.sfeDirty_keeps | apply State.stage_keeps | apply State.shadowMask_keeps | apply ite_keep | apply foldl_keep | split | dsimp only | apply keep_cmds)
theorem State.pcvUrgWrite_keeps {m : Nat} {s u : State} (h : Keeps m s u) (hm : m &&& 316912650057066357642150021601 = 316912650057066357642150021601) (p : Nat) (w : Wr) : Keeps m s (State.pcvUrgWrite u p w) := by
  unfold State.pcvUrgWrite
  with_reducible repeat' (first | assumption | intro _ | exact sub_mask hm rfl | rfl | apply State.mergeRaw_keeps | apply State.urgRequest_keeps | apply State.put_keeps | apply State.refuseDom_keeps | apply ite_keep | apply foldl_keep | split | dsimp only)
theorem execPcvUrgGo_keeps {m : Nat} {s u : State} (h : Keeps m s u) (hm : m &&& 316912650057066357642150022121 = 316912650057066357642150022121) (p : Nat) (w : Wr) : OutKeeps m s (execPcvUrgGo p w u) := by
  unfold execPcvUrgGo
  with_reducible repeat' (first | assumption | intro _ | exact sub_mask hm rfl | rfl | apply State.pfOnly_keeps | apply State.pcvUrgWrite_keeps | apply ite_keep | apply foldl_keep | apply outKeep_next | apply ite_outKeep | split | dsimp only)
theorem execCurrentLimit_keeps {m : Nat} {s u : State} (h : Keeps m s u) (hm : m &&& 316912650057057350374175803873 = 316912650057057350374175803873) (q : Nat) : OutKeeps m s (execCurrentLimit q u) := by
  unfold execCurrentLimit
  with_reducible repeat' (first | assumption | intro _ | exact sub_mask hm rfl | rfl | apply State.excLimit_keeps | apply ite_keep | apply foldl_keep | apply outKeep_next | apply ite_outKeep | split | dsimp only)
theorem execPauseEnd_keeps {m : Nat} {s u : State} (h : Keeps m s u) (hm : m &&& 951975890279647393625719228897 = 951975890279647393625719228897) : OutKeeps m s (execPauseEnd u) := by
  unfold execPauseEnd
  with_reducible repeat' (first | assumption | intro _ | exact sub_mask hm rfl | rfl | apply State.pauseRecord_keeps | apply State.raise_keeps | apply State.pcvNext_keeps | apply ite_keep | apply foldl_keep | apply outKeep_next | apply ite_outKeep | split | dsimp only | apply keep_fe)
theorem execExcRangeSettled_keeps {m : Nat} {s u : State} (h : Keeps m s u) (hm : m &&& 951975890279989632150466259427 = 951975890279989632150466259427) (q : Nat) : OutKeeps m s (execExcRangeSettled q u) := by
  unfold execExcRangeSettled
  with_reducible repeat' (first | assumption | intro _ | exact sub_mask hm rfl | rfl | apply State.put_keeps | apply State.feSettled_keeps | apply ite_keep | apply foldl_keep | apply outKeep_next | apply ite_outKeep | split | dsimp only | apply keep_fe)
theorem execExcSenseMeasure_keeps {m : Nat} {s u : State} (h : Keeps m s u) (hm : m &&& 316912650057093379171194767841 = 316912650057093379171194767841) (q : Nat) (sense : Nat) (limit : Bool) : OutKeeps m s (execExcSenseMeasure q sense limit u) := by
  unfold execExcSenseMeasure
  with_reducible repeat' (first | assumption | intro _ | exact sub_mask hm rfl | rfl | apply State.excLimit_keeps | apply State.put_keeps | apply State.setExc_keeps | apply State.raise_keeps | apply ite_keep | apply foldl_keep | apply outKeep_next | apply ite_outKeep | split | dsimp only)
theorem execPcvRefEnWrite_keeps {m : Nat} {s u : State} (h : Keeps m s u) (hm : m &&& 316912650057061853973803174889 = 316912650057061853973803174889) (w : Wr) : OutKeeps m s (execPcvRefEnWrite w u) := by
  unfold execPcvRefEnWrite
  with_reducible repeat' (first | assumption | intro _ | exact sub_mask hm rfl | rfl | apply State.pfOnly_keeps | apply State.refCtlWrite_keeps | apply ite_keep | apply foldl_keep | apply outKeep_next | apply ite_outKeep | split | dsimp only)
theorem State.stageUser_keeps {m : Nat} {s u : State} (h : Keeps m s u) (hm : m &&& 951975890279633847779903990243 = 951975890279633847779903990243) (j : NvmJob) (status : Nat) : Keeps m s (State.stageUser u j status) := by
  unfold State.stageUser
  with_reducible repeat' (first | assumption | intro _ | exact sub_mask hm rfl | rfl | apply State.forceVals_keeps | apply State.finishCmd_keeps | apply State.stage_keeps | apply ite_keep | apply foldl_keep | split | dsimp only | apply keep_cmds)
theorem State.setTrimCopy_keeps {m : Nat} {s u : State} (h : Keeps m s u) (hm : m &&& 72057594037927936 = 72057594037927936) (n : Nat) (c : Nat) (x : TrimCopy) : Keeps m s (State.setTrimCopy u n c x) := by
  unfold State.setTrimCopy
  with_reducible repeat' (first | assumption | intro _ | exact sub_mask hm rfl | rfl | apply ite_keep | apply foldl_keep | split | dsimp only | apply keep_trimCopies)
theorem State.showCopies_keeps {m : Nat} {s u : State} (h : Keeps m s u) (hm : m &&& 1 = 1) (n : Nat) (a : Bool) (b : Bool) : Keeps m s (State.showCopies u n a b) := by
  unfold State.showCopies
  with_reducible repeat' (first | assumption | intro _ | exact sub_mask hm rfl | rfl | apply State.put_keeps | apply ite_keep | apply foldl_keep | split | dsimp only)
theorem State.loadCopy_keeps {m : Nat} {s u : State} (h : Keeps m s u) (hm : m &&& 137438953473 = 137438953473) (n : Nat) (c : Nat) : Keeps m s (State.loadCopy u n c) := by
  unfold State.loadCopy
  with_reducible repeat' (first | assumption | intro _ | exact sub_mask hm rfl | rfl | apply State.setTrim_keeps | apply State.wn_keeps | apply State.put_keeps | apply ite_keep | apply foldl_keep | split | dsimp only | apply keep_trimImg)
theorem State.copyBad_keeps {m : Nat} {s u : State} (h : Keeps m s u) (hm : m &&& 316912650057057350374175803873 = 316912650057057350374175803873) (n : Nat) (c : Nat) : Keeps m s (State.copyBad u n c) := by
  unfold State.copyBad
  with_reducible repeat' (first | assumption | intro _ | exact sub_mask hm rfl | rfl | apply State.raise_keeps | apply State.put_keeps | apply ite_keep | apply foldl_keep | split | dsimp only)

end Sys2Proof.Machine
end

