-- ==== Sys2Proof/Laws/Keep3.lean ====
section
/-! SUPPORT. One lemma per operation: the components it may change, as a mask (part 3 of 5, in the order of dependence). -/
set_option maxRecDepth 10000
namespace Sys2Proof.Machine

theorem State.loadPage_keeps {m : Nat} {s u : State} (h : Keeps m s u) (hm : m &&& 316912650057057350511614757345 = 316912650057057350511614757345) (n : Nat) : Keeps m s (State.loadPage u n) := by
  unfold State.loadPage
  with_reducible repeat' (first | assumption | intro _ | exact sub_mask hm rfl | rfl | apply State.showCopies_keeps | apply State.loadCopy_keeps | apply State.copyBad_keeps | apply State.raise_keeps | apply State.put_keeps | apply ite_keep | apply foldl_keep | split | dsimp only)
theorem execTrimPageLoad_keeps {m : Nat} {s u : State} (h : Keeps m s u) (hm : m &&& 316912650058282329610259532257 = 316912650058282329610259532257) (n : Nat) (badA : Bool) (badB : Bool) : OutKeeps m s (execTrimPageLoad n badA badB u) := by
  unfold execTrimPageLoad
  with_reducible repeat' (first | assumption | intro _ | exact sub_mask hm rfl | rfl | apply State.setTrimCopy_keeps | apply State.loadPage_keeps | apply State.put_keeps | apply ite_keep | apply foldl_keep | apply outKeep_next | apply ite_outKeep | split | dsimp only | apply keep_trimLoaded)
theorem State.copyShow_keeps {m : Nat} {s u : State} (h : Keeps m s u) (hm : m &&& 1 = 1) (n : Nat) (c : Nat) (ok : Bool) : Keeps m s (State.copyShow u n c ok) := by
  unfold State.copyShow
  with_reducible repeat' (first | assumption | intro _ | exact sub_mask hm rfl | rfl | apply State.put_keeps | apply ite_keep | apply foldl_keep | split | dsimp only)
theorem State.jobDone_keeps {m : Nat} {s u : State} (h : Keeps m s u) (hm : m &&& 951975890280138250938169485795 = 951975890280138250938169485795) (j : NvmJob) : Keeps m s (State.jobDone u j) := by
  unfold State.jobDone
  with_reducible repeat' (first | assumption | intro _ | exact sub_mask hm rfl | rfl | apply State.copyShow_keeps | apply State.setTrimCopy_keeps | apply State.raise_keeps | apply State.stageUser_keeps | apply State.finishCmd_keeps | apply ite_keep | apply foldl_keep | split | dsimp only | apply keep_nvm | apply keep_linCopies)
theorem State.dropMeas_keeps {m : Nat} {s u : State} (h : Keeps m s u) (hm : m &&& 576460752303423488 = 576460752303423488) (action : Nat) : Keeps m s (State.dropMeas u action) := by
  unfold State.dropMeas
  with_reducible repeat' (first | assumption | intro _ | exact sub_mask hm rfl | rfl | apply ite_keep | apply foldl_keep | split | dsimp only | apply keep_calMeas)
theorem execCalMeasureDone_keeps {m : Nat} {s u : State} (h : Keeps m s u) (hm : m &&& 951975890280210308394768452065 = 951975890280210308394768452065) (conv : Nat) (zero : List Conv) (ref : List Conv) (temp : Int) : OutKeeps m s (execCalMeasureDone conv zero ref temp u) := by
  unfold execCalMeasureDone
  with_reducible repeat' (first | assumption | intro _ | exact sub_mask hm rfl | rfl | apply State.dropMeas_keeps | apply State.finishCmd_keeps | apply State.pcvCodes_keeps | apply State.raise_keeps | apply ite_keep | apply foldl_keep | apply ite_keep2 | apply foldl_keep2 | apply outKeep_next | apply ite_outKeep | split | refine pairKeep2 (by assumption) ?_ | dsimp only)
theorem State.mramRemap_keeps {m : Nat} {s u : State} (h : Keeps m s u) (hm : m &&& 20599322253708727774390146566625 = 20599322253708727774390146566625) (sector : Nat) : Keeps m s (State.mramRemap u sector) := by
  unfold State.mramRemap
  with_reducible repeat' (first | assumption | intro _ | exact sub_mask hm rfl | rfl | apply State.useSpare_keeps | apply ite_keep | apply foldl_keep | split | dsimp only | apply keep_mramMap)
theorem State.mramFail_keeps {m : Nat} {s u : State} (h : Keeps m s u) (hm : m &&& 20599322253711033617399360260577 = 20599322253711033617399360260577) (fault : Nat) (sector : Nat) : Keeps m s (State.mramFail u fault sector).1 := by
  unfold State.mramFail
  with_reducible repeat' (first | assumption | intro _ | exact sub_mask hm rfl | rfl | apply State.raise_keeps | apply State.spareExhausted_keeps | apply State.mramRemap_keeps | apply ite_keep | apply foldl_keep | apply ite_keep1 | apply foldl_keep1 | split | dsimp only | apply keep_mramBad)
theorem State.pageWin_keeps {m : Nat} {s u : State} (h : Keeps m s u) (hm : m &&& 633825300114114700748351602688 = 633825300114114700748351602688) (off : Nat) : Keeps m s (State.pageWin u off).2 := by
  unfold State.pageWin
  with_reducible repeat' (first | assumption | intro _ | exact sub_mask hm rfl | rfl | apply State.draw_keeps | apply ite_keep | apply foldl_keep | apply ite_keep2 | apply foldl_keep2 | split | refine pairKeep2 (by assumption) ?_ | dsimp only)
theorem State.jobFailed_keeps {m : Nat} {s u : State} (h : Keeps m s u) (hm : m &&& 951975890279850020562017774051 = 951975890279850020562017774051) (j : NvmJob) : Keeps m s (State.jobFailed u j) := by
  unfold State.jobFailed
  with_reducible repeat' (first | assumption | intro _ | exact sub_mask hm rfl | rfl | apply State.put_keeps | apply State.copyShow_keeps | apply State.setTrimCopy_keeps | apply State.finishCmd_keeps | apply State.stageUser_keeps | apply ite_keep | apply foldl_keep | split | dsimp only | apply keep_linCopies)
theorem execNvmCopyWritten_keeps {m : Nat} {s u : State} (h : Keeps m s u) (hm : m &&& 21234385493934114517894634465763 = 21234385493934114517894634465763) (ok : Bool) : OutKeeps m s (execNvmCopyWritten ok u) := by
  unfold execNvmCopyWritten
  with_reducible repeat' (first | assumption | intro _ | exact sub_mask hm rfl | rfl | apply State.jobDone_keeps | apply State.bump_keeps | apply State.mramFail_keeps | apply State.raise_keeps | apply State.jobFailed_keeps | apply ite_keep | apply foldl_keep | apply ite_keep1 | apply foldl_keep1 | apply outKeep_next | apply ite_outKeep | split | refine pairKeep1 (by assumption) ?_ | dsimp only | apply keep_nvm)
theorem State.followRate_keeps {m : Nat} {s u : State} (h : Keeps m s u) (hm : m &&& 316912650057057350649062099425 = 316912650057057350649062099425) (old : TimeBase) : Keeps m s (State.followRate u old) := by
  unfold State.followRate
  with_reducible repeat' (first | assumption | intro _ | exact sub_mask hm rfl | rfl | apply State.followGroup_keeps | apply ite_keep | apply foldl_keep | split | dsimp only | apply keep_grps)
theorem State.abortSlew_keeps {m : Nat} {s u : State} (h : Keeps m s u) (hm : m &&& 316912650057057350649062099433 = 316912650057057350649062099433) : Keeps m s (State.abortSlew u) := by
  unfold State.abortSlew
  with_reducible repeat' (first | assumption | intro _ | exact sub_mask hm rfl | rfl | apply State.followRate_keeps | apply State.put_keeps | apply State.wr64_keeps | apply ite_keep | apply foldl_keep | split | dsimp only | apply keep_tb)
theorem State.setTState_keeps {m : Nat} {s u : State} (h : Keeps m s u) (hm : m &&& 316912650057057350374175803873 = 316912650057057350374175803873) (new : Nat) : Keeps m s (State.setTState u new) := by
  unfold State.setTState
  with_reducible repeat' (first | assumption | intro _ | exact sub_mask hm rfl | rfl | apply State.raise_keeps | apply State.put_keeps | apply ite_keep | apply foldl_keep | split | dsimp only)
theorem State.toHoldover_keeps {m : Nat} {s u : State} (h : Keeps m s u) (hm : m &&& 316912650057057350374175803881 = 316912650057057350374175803881) : Keeps m s (State.toHoldover u) := by
  unfold State.toHoldover
  with_reducible repeat' (first | assumption | intro _ | exact sub_mask hm rfl | rfl | apply State.put_keeps | apply State.setTState_keeps | apply ite_keep | apply foldl_keep | split | dsimp only | apply keep_tb)
theorem State.ageFold_keeps {m : Nat} {s u : State} (h : Keeps m s u) (hm : m &&& 316912650057057350649062099433 = 316912650057057350649062099433) : Keeps m s (State.ageFold u) := by
  unfold State.ageFold
  with_reducible repeat' (first | assumption | intro _ | exact sub_mask hm rfl | rfl | apply State.followRate_keeps | apply State.raise_keeps | apply ite_keep | apply foldl_keep | split | dsimp only | apply keep_tb)
theorem State.foldDue_keeps {m : Nat} {s u : State} (h : Keeps m s u) (hm : m &&& 316912650057057350649062099433 = 316912650057057350649062099433) : Keeps m s (State.foldDue u) := by
  unfold State.foldDue
  with_reducible repeat' (first | assumption | intro _ | exact sub_mask hm rfl | rfl | apply State.ageFold_keeps | apply ite_keep | apply foldl_keep | split | dsimp only)
theorem State.changeSource_keeps {m : Nat} {s u : State} (h : Keeps m s u) (hm : m &&& 316912650057057350649062099433 = 316912650057057350649062099433) (oldSrc : Nat) : Keeps m s (State.changeSource u oldSrc) := by
  unfold State.changeSource
  with_reducible repeat' (first | assumption | intro _ | exact sub_mask hm rfl | rfl | apply State.abortSlew_keeps | apply State.toHoldover_keeps | apply State.put_keeps | apply State.foldDue_keeps | apply ite_keep | apply foldl_keep | split | dsimp only | apply keep_tb)
theorem State.declareChange_keeps {m : Nat} {s u : State} (h : Keeps m s u) (hm : m &&& 316912650057057350374175803881 = 316912650057057350374175803881) : Keeps m s (State.declareChange u) := by
  unfold State.declareChange
  with_reducible repeat' (first | assumption | intro _ | exact sub_mask hm rfl | rfl | apply State.toHoldover_keeps | apply State.raise_keeps | apply ite_keep | apply foldl_keep | split | dsimp only)
theorem State.discWrite_keeps {m : Nat} {s u : State} (h : Keeps m s u) (hm : m &&& 316912650057057350649062099945 = 316912650057057350649062099945) (w : Wr) : Keeps m s (State.discWrite u w) := by
  unfold State.discWrite
  with_reducible repeat' (first | assumption | intro _ | exact sub_mask hm rfl | rfl | apply State.reservedHit_keeps | apply State.mergeRaw_keeps | apply State.flushHeld_keeps | apply State.changeSource_keeps | apply State.declareChange_keeps | apply ite_keep | apply foldl_keep | split | dsimp only)
theorem execSrcChangeDeclare_keeps {m : Nat} {s u : State} (h : Keeps m s u) (hm : m &&& 316912650057057350649062099945 = 316912650057057350649062099945) (w : Wr) : OutKeeps m s (execSrcChangeDeclare w u) := by
  unfold execSrcChangeDeclare
  with_reducible repeat' (first | assumption | intro _ | exact sub_mask hm rfl | rfl | apply State.discWrite_keeps | apply ite_keep | apply foldl_keep | apply outKeep_next | apply ite_outKeep | split | dsimp only)
theorem State.toTraced_keeps {m : Nat} {s u : State} (h : Keeps m s u) (hm : m &&& 316912650057057350374175803881 = 316912650057057350374175803881) : Keeps m s (State.toTraced u) := by
  unfold State.toTraced
  with_reducible repeat' (first | assumption | intro _ | exact sub_mask hm rfl | rfl | apply State.put_keeps | apply State.setTState_keeps | apply ite_keep | apply foldl_keep | split | dsimp only | apply keep_tb)
theorem State.adjApply_keeps {m : Nat} {s u : State} (h : Keeps m s u) (hm : m &&& 316912650057057350649062099433 = 316912650057057350649062099433) (o : AdjOps) (rate : Int) (amt : Int) (ppb : Nat) : Keeps m s (State.adjApply u o rate amt ppb) := by
  unfold State.adjApply
  extract_lets s1 e1 s2 t s3 e3 s4 e4
  have h1 : Keeps m s s1 := by
    dsimp only [s1]
    with_reducible repeat' (first | assumption | intro _ | exact sub_mask hm rfl | rfl | apply State.abortSlew_keeps | apply State.followRate_keeps | apply State.raise_keeps | apply State.wr64_keeps | apply State.put_keeps | apply State.toTraced_keeps | apply ite_keep | apply foldl_keep | split | dsimp only | apply keep_tb)
  clear_value s1
  have h2 : Keeps m s s2 := by
    dsimp only [s2, e1]
    with_reducible repeat' (first | assumption | intro _ | exact sub_mask hm rfl | rfl | apply State.abortSlew_keeps | apply State.followRate_keeps | apply State.raise_keeps | apply State.wr64_keeps | apply State.put_keeps | apply State.toTraced_keeps | apply ite_keep | apply foldl_keep | split | dsimp only | apply keep_tb)
  clear_value s2
  have h3 : Keeps m s s3 := by
    dsimp only [s3, t]
    with_reducible repeat' (first | assumption | intro _ | exact sub_mask hm rfl | rfl | apply State.abortSlew_keeps | apply State.followRate_keeps | apply State.raise_keeps | apply State.wr64_keeps | apply State.put_keeps | apply State.toTraced_keeps | apply ite_keep | apply foldl_keep | split | dsimp only | apply keep_tb)
  clear_value s3
  have h4 : Keeps m s s4 := by
    dsimp only [s4, e3]
    with_reducible repeat' (first | assumption | intro _ | exact sub_mask hm rfl | rfl | apply State.abortSlew_keeps | apply State.followRate_keeps | apply State.raise_keeps | apply State.wr64_keeps | apply State.put_keeps | apply State.toTraced_keeps | apply ite_keep | apply foldl_keep | split | dsimp only | apply keep_tb)
  clear_value s4
  dsimp only [e4]
  with_reducible repeat' (first | assumption | intro _ | exact sub_mask hm rfl | rfl | apply State.abortSlew_keeps | apply State.followRate_keeps | apply State.raise_keeps | apply State.wr64_keeps | apply State.put_keeps | apply State.toTraced_keeps | apply ite_keep | apply foldl_keep | split | dsimp only | apply keep_tb)
theorem State.adjGo_keeps {m : Nat} {s u : State} (h : Keeps m s u) (hm : m &&& 316912650057057350649062099433 = 316912650057057350649062099433) : Keeps m s (State.adjGo u) := by
  unfold State.adjGo
  with_reducible repeat' (first | assumption | intro _ | exact sub_mask hm rfl | rfl | apply State.adjApply_keeps | apply State.put_keeps | apply State.foldDue_keeps | apply ite_keep | apply foldl_keep | split | dsimp only)
theorem State.adjWrite_keeps {m : Nat} {s u : State} (h : Keeps m s u) (hm : m &&& 316912650057057350649062099945 = 316912650057057350649062099945) (w : Wr) : Keeps m s (State.adjWrite u w) := by
  unfold State.adjWrite
  with_reducible repeat' (first | assumption | intro _ | exact sub_mask hm rfl | rfl | apply State.reservedHit_keeps | apply State.raise_keeps | apply State.mergeRaw_keeps | apply State.flushHeld_keeps | apply State.adjGo_keeps | apply ite_keep | apply foldl_keep | split | dsimp only)
theorem execAdjTrace_keeps {m : Nat} {s u : State} (h : Keeps m s u) (hm : m &&& 316912650057057350649062099945 = 316912650057057350649062099945) (w : Wr) : OutKeeps m s (execAdjTrace w u) := by
  unfold execAdjTrace
  with_reducible repeat' (first | assumption | intro _ | exact sub_mask hm rfl | rfl | apply State.adjWrite_keeps | apply ite_keep | apply foldl_keep | apply outKeep_next | apply ite_outKeep | split | dsimp only)
theorem execAdjAbort_keeps {m : Nat} {s u : State} (h : Keeps m s u) (hm : m &&& 316912650057057350649062099945 = 316912650057057350649062099945) (w : Wr) : OutKeeps m s (execAdjAbort w u) := by
  unfold execAdjAbort
  with_reducible repeat' (first | assumption | intro _ | exact sub_mask hm rfl | rfl | apply State.adjWrite_keeps | apply ite_keep | apply foldl_keep | apply outKeep_next | apply ite_outKeep | split | dsimp only)
theorem execAgeingFold_keeps {m : Nat} {s u : State} (h : Keeps m s u) (hm : m &&& 316912650057057350649062099433 = 316912650057057350649062099433) : OutKeeps m s (execAgeingFold u) := by
  unfold execAgeingFold
  with_reducible repeat' (first | assumption | intro _ | exact sub_mask hm rfl | rfl | apply State.ageFold_keeps | apply ite_keep | apply foldl_keep | apply outKeep_next | apply ite_outKeep | split | dsimp only)
theorem execTbNowFracRead_keeps {m : Nat} {s u : State} (h : Keeps m s u) (hm : m &&& 316912650057057350374175804393 = 316912650057057350374175804393) (fn : Nat) : OutKeeps m s (execTbNowFracRead fn u) := by
  unfold execTbNowFracRead
  with_reducible repeat' (first | assumption | intro _ | exact sub_mask hm rfl | rfl | apply State.flushHeld_keeps | apply State.wn_keeps | apply State.wr64_keeps | apply State.emit_keeps | apply State.readReserved_keeps | apply ite_keep | apply foldl_keep | apply outKeep_next | apply ite_outKeep | split | dsimp only)
theorem execAdjRateChange_keeps {m : Nat} {s u : State} (h : Keeps m s u) (hm : m &&& 316912650057057350649062099945 = 316912650057057350649062099945) (w : Wr) : OutKeeps m s (execAdjRateChange w u) := by
  unfold execAdjRateChange
  with_reducible repeat' (first | assumption | intro _ | exact sub_mask hm rfl | rfl | apply State.adjWrite_keeps | apply ite_keep | apply foldl_keep | apply outKeep_next | apply ite_outKeep | split | dsimp only)
theorem execServoCorrection_keeps {m : Nat} {s u : State} (h : Keeps m s u) (hm : m &&& 316912650057057350649062099433 = 316912650057057350649062099433) (op : ServoOp) : OutKeeps m s (execServoCorrection op u) := by
  unfold execServoCorrection
  with_reducible repeat' (first | assumption | intro _ | exact sub_mask hm rfl | rfl | apply State.adjApply_keeps | apply State.foldDue_keeps | apply ite_keep | apply foldl_keep | apply outKeep_next | apply ite_outKeep | split | dsimp only | apply keep_tb)
theorem State.popStamp_keeps {m : Nat} {s u : State} (h : Keeps m s u) (hm : m &&& 316912650057057350374175801361 = 316912650057057350374175801361) (fn : Nat) (m0 : Nat) : Keeps m s (State.popStamp u fn m0) := by
  unfold State.popStamp
  with_reducible repeat' (first | assumption | intro _ | exact sub_mask hm rfl | rfl | apply State.wn_keeps | apply State.emit_keeps | apply ite_keep | apply foldl_keep | split | dsimp only | apply keep_txts)
theorem State.measure_keeps {m : Nat} {s u : State} (h : Keeps m s u) (hm : m &&& 316912650057057350374175803881 = 316912650057057350374175803881) (ok : Bool) : Keeps m s (State.measure u ok) := by
  unfold State.measure
  with_reducible repeat' (first | assumption | intro _ | exact sub_mask hm rfl | rfl | apply State.toTraced_keeps | apply ite_keep | apply foldl_keep | split | dsimp only | apply keep_tb)
theorem State.measurePhase_keeps {m : Nat} {s u : State} (h : Keeps m s u) (hm : m &&& 316912650057057350374175803881 = 316912650057057350374175803881) (err : Int) : Keeps m s (State.measurePhase u err) := by
  unfold State.measurePhase
  with_reducible repeat' (first | assumption | intro _ | exact sub_mask hm rfl | rfl | apply State.measure_keeps | apply ite_keep | apply foldl_keep | split | dsimp only | apply keep_tb)
theorem State.ppsEdge_keeps {m : Nat} {s u : State} (h : Keeps m s u) (hm : m &&& 316912650057057350374175803881 = 316912650057057350374175803881) (t : Int) : Keeps m s (State.ppsEdge u t) := by
  unfold State.ppsEdge
  with_reducible repeat' (first | assumption | intro _ | exact sub_mask hm rfl | rfl | apply State.measurePhase_keeps | apply State.put_keeps | apply State.toHoldover_keeps | apply State.raise_keeps | apply ite_keep | apply foldl_keep | split | dsimp only | apply keep_tb)
theorem execPpsInEdge_keeps {m : Nat} {s u : State} (h : Keeps m s u) (hm : m &&& 316912650057057350375249545705 = 316912650057057350375249545705) (i : Nat) : OutKeeps m s (execPpsInEdge i u) := by
  unfold execPpsInEdge
  with_reducible repeat' (first | assumption | intro _ | exact sub_mask hm rfl | rfl | apply State.freqEdge_keeps | apply State.ppsEdge_keeps | apply ite_keep | apply foldl_keep | apply outKeep_next | apply ite_outKeep | split | dsimp only)
theorem execTbTxtsPop_keeps {m : Nat} {s u : State} (h : Keeps m s u) (hm : m &&& 316912650057057350408535542777 = 316912650057057350408535542777) (fn : Nat) (m0 : Nat) : OutKeeps m s (execTbTxtsPop fn m0 u) := by
  unfold execTbTxtsPop
  with_reducible repeat' (first | assumption | intro _ | exact sub_mask hm rfl | rfl | apply State.flushHeld_keeps | apply State.popStall_keeps | apply State.popStamp_keeps | apply State.readReserved_keeps | apply ite_keep | apply foldl_keep | apply outKeep_next | apply ite_outKeep | split | dsimp only)
theorem execRef10mLost_keeps {m : Nat} {s u : State} (h : Keeps m s u) (hm : m &&& 316912650057057350374175803881 = 316912650057057350374175803881) : OutKeeps m s (execRef10mLost u) := by
  unfold execRef10mLost
  with_reducible repeat' (first | assumption | intro _ | exact sub_mask hm rfl | rfl | apply State.raise_keeps | apply State.put_keeps | apply ite_keep | apply foldl_keep | apply outKeep_next | apply ite_outKeep | split | dsimp only | apply keep_tb)
theorem State.txStamp_keeps {m : Nat} {s u : State} (h : Keeps m s u) (hm : m &&& 316912650057057350408535542257 = 316912650057057350408535542257) (m0 : Nat) (x : TxStamp) : Keeps m s (State.txStamp u m0 x) := by
  unfold State.txStamp
  with_reducible repeat' (first | assumption | intro _ | exact sub_mask hm rfl | rfl | apply State.popStamp_keeps | apply State.popResume_keeps | apply State.put_keeps | apply State.bump_keeps | apply State.raise_keeps | apply ite_keep | apply foldl_keep | split | dsimp only | apply keep_txts)
theorem execPhaseUnlock_keeps {m : Nat} {s u : State} (h : Keeps m s u) (hm : m &&& 316912650057057350374175803873 = 316912650057057350374175803873) : OutKeeps m s (execPhaseUnlock u) := by
  unfold execPhaseUnlock
  with_reducible repeat' (first | assumption | intro _ | exact sub_mask hm rfl | rfl | apply State.raise_keeps | apply State.put_keeps | apply ite_keep | apply foldl_keep | apply outKeep_next | apply ite_outKeep | split | dsimp only)
theorem execPhaseRelock_keeps {m : Nat} {s u : State} (h : Keeps m s u) (hm : m &&& 1 = 1) : OutKeeps m s (execPhaseRelock u) := by
  unfold execPhaseRelock
  with_reducible repeat' (first | assumption | intro _ | exact sub_mask hm rfl | rfl | apply State.put_keeps | apply ite_keep | apply foldl_keep | apply outKeep_next | apply ite_outKeep | split | dsimp only)
theorem execAdjSlewStart_keeps {m : Nat} {s u : State} (h : Keeps m s u) (hm : m &&& 316912650057057350649062099945 = 316912650057057350649062099945) (w : Wr) : OutKeeps m s (execAdjSlewStart w u) := by
  unfold execAdjSlewStart
  with_reducible repeat' (first | assumption | intro _ | exact sub_mask hm rfl | rfl | apply State.adjWrite_keeps | apply ite_keep | apply foldl_keep | apply outKeep_next | apply ite_outKeep | split | dsimp only)
theorem execAdjStep_keeps {m : Nat} {s u : State} (h : Keeps m s u) (hm : m &&& 316912650057057350649062099945 = 316912650057057350649062099945) (w : Wr) : OutKeeps m s (execAdjStep w u) := by
  unfold execAdjStep
  with_reducible repeat' (first | assumption | intro _ | exact sub_mask hm rfl | rfl | apply State.adjWrite_keeps | apply ite_keep | apply foldl_keep | apply outKeep_next | apply ite_outKeep | split | dsimp only)
theorem execHostTraceTimeout_keeps {m : Nat} {s u : State} (h : Keeps m s u) (hm : m &&& 316912650057057350374175803881 = 316912650057057350374175803881) : OutKeeps m s (execHostTraceTimeout u) := by
  unfold execHostTraceTimeout
  with_reducible repeat' (first | assumption | intro _ | exact sub_mask hm rfl | rfl | apply State.toHoldover_keeps | apply ite_keep | apply foldl_keep | apply outKeep_next | apply ite_outKeep | split | dsimp only)
theorem execPpsLost_keeps {m : Nat} {s u : State} (h : Keeps m s u) (hm : m &&& 316912650057057350374175803881 = 316912650057057350374175803881) : OutKeeps m s (execPpsLost u) := by
  unfold execPpsLost
  with_reducible repeat' (first | assumption | intro _ | exact sub_mask hm rfl | rfl | apply State.toHoldover_keeps | apply State.put_keeps | apply ite_keep | apply foldl_keep | apply outKeep_next | apply ite_outKeep | split | dsimp only)
theorem execRef10mReturn_keeps {m : Nat} {s u : State} (h : Keeps m s u) (hm : m &&& 9 = 9) : OutKeeps m s (execRef10mReturn u) := by
  unfold execRef10mReturn
  with_reducible repeat' (first | assumption | intro _ | exact sub_mask hm rfl | rfl | apply State.put_keeps | apply ite_keep | apply foldl_keep | apply outKeep_next | apply ite_outKeep | split | dsimp only | apply keep_tb)
theorem execHoldoverLimit_keeps {m : Nat} {s u : State} (h : Keeps m s u) (hm : m &&& 316912650057057350374175803881 = 316912650057057350374175803881) : OutKeeps m s (execHoldoverLimit u) := by
  unfold execHoldoverLimit
  with_reducible repeat' (first | assumption | intro _ | exact sub_mask hm rfl | rfl | apply State.raise_keeps | apply State.put_keeps | apply ite_keep | apply foldl_keep | apply outKeep_next | apply ite_outKeep | split | dsimp only | apply keep_tb)
theorem execSourceQualified_keeps {m : Nat} {s u : State} (h : Keeps m s u) (hm : m &&& 316912650057057350374175803881 = 316912650057057350374175803881) : OutKeeps m s (execSourceQualified u) := by
  unfold execSourceQualified
  with_reducible repeat' (first | assumption | intro _ | exact sub_mask hm rfl | rfl | apply State.toTraced_keeps | apply ite_keep | apply foldl_keep | apply outKeep_next | apply ite_outKeep | split | dsimp only)
theorem execSlewDone_keeps {m : Nat} {s u : State} (h : Keeps m s u) (hm : m &&& 316912650057057350649062099433 = 316912650057057350649062099433) : OutKeeps m s (execSlewDone u) := by
  unfold execSlewDone
  with_reducible repeat' (first | assumption | intro _ | exact sub_mask hm rfl | rfl | apply State.followRate_keeps | apply State.put_keeps | apply State.wr64_keeps | apply State.raise_keeps | apply State.foldDue_keeps | apply ite_keep | apply foldl_keep | apply outKeep_next | apply ite_outKeep | split | dsimp only | apply keep_tb)
theorem execChangeOfSource_keeps {m : Nat} {s u : State} (h : Keeps m s u) (hm : m &&& 316912650057057350649062099945 = 316912650057057350649062099945) (w : Wr) : OutKeeps m s (execChangeOfSource w u) := by
  unfold execChangeOfSource
  with_reducible repeat' (first | assumption | intro _ | exact sub_mask hm rfl | rfl | apply State.discWrite_keeps | apply ite_keep | apply foldl_keep | apply outKeep_next | apply ite_outKeep | split | dsimp only)
theorem State.pqClear_keeps {m : Nat} {s u : State} (h : Keeps m s u) (hm : m &&& 4831838352 = 4831838352) (n : Nat) : Keeps m s (State.pqClear u n) := by
  unfold State.pqClear
  with_reducible repeat' (first | assumption | intro _ | exact sub_mask hm rfl | rfl | apply ite_keep | apply foldl_keep | split | dsimp only | apply keep_txts | apply keep_tagQ | apply keep_stageQ | apply keep_monQ)
theorem State.pqFlush_keeps {m : Nat} {s u : State} (h : Keeps m s u) (hm : m &&& 4831838353 = 4831838353) (n : Nat) (part : Bool) : Keeps m s (State.pqFlush u n part) := by
  unfold State.pqFlush
  with_reducible repeat' (first | assumption | intro _ | exact sub_mask hm rfl | rfl | apply State.pqClear_keeps | apply State.bump_keeps | apply State.put_keeps | apply ite_keep | apply foldl_keep | split | dsimp only)
theorem State.zeroWords_keeps {m : Nat} {s u : State} (h : Keeps m s u) (hm : m &&& 1 = 1) (off : Nat) (n : Nat) : Keeps m s (State.zeroWords u off n) := by
  unfold State.zeroWords
  with_reducible repeat' (first | assumption | intro _ | exact sub_mask hm rfl | rfl | apply State.wn_keeps | apply ite_keep | apply foldl_keep | split | dsimp only)
theorem execPopStallTimeout_keeps {m : Nat} {s u : State} (h : Keeps m s u) (hm : m &&& 316912650057057350408535539713 = 316912650057057350408535539713) (n : Nat) : OutKeeps m s (execPopStallTimeout n u) := by
  unfold execPopStallTimeout
  with_reducible repeat' (first | assumption | intro _ | exact sub_mask hm rfl | rfl | apply State.emit_keeps | apply State.zeroWords_keeps | apply State.popResume_keeps | apply ite_keep | apply foldl_keep | apply outKeep_next | apply ite_outKeep | split | dsimp only)
theorem State.pqCtlWrite_keeps {m : Nat} {s u : State} (h : Keeps m s u) (hm : m &&& 316912650057057350379007642097 = 316912650057057350379007642097) (n : Nat) (part : Bool) (w : Wr) : Keeps m s (State.pqCtlWrite u n part w) := by
  unfold State.pqCtlWrite
  with_reducible repeat' (first | assumption | intro _ | exact sub_mask hm rfl | rfl | apply State.wn_keeps | apply State.raise_keeps | apply State.pqFlush_keeps | apply ite_keep | apply foldl_keep | split | dsimp only)
theorem execPqFlush_keeps {m : Nat} {s u : State} (h : Keeps m s u) (hm : m &&& 316912650057057350379007642617 = 316912650057057350379007642617) (n : Nat) (part : Bool) (w : Wr) : OutKeeps m s (execPqFlush n part w u) := by
  unfold execPqFlush
  with_reducible repeat' (first | assumption | intro _ | exact sub_mask hm rfl | rfl | apply State.pfOnly_keeps | apply State.pqCtlWrite_keeps | apply ite_keep | apply foldl_keep | apply outKeep_next | apply ite_outKeep | split | dsimp only)
theorem State.popMon_keeps {m : Nat} {s u : State} (h : Keeps m s u) (hm : m &&& 316912650057057350395650637825 = 316912650057057350395650637825) (fn : Nat) (j : Nat) : Keeps m s (State.popMon u fn j) := by
  unfold State.popMon
  with_reducible repeat' (first | assumption | intro _ | exact sub_mask hm rfl | rfl | apply State.wn_keeps | apply State.emit_keeps | apply ite_keep | apply foldl_keep | split | dsimp only | apply keep_monQ_monLost)
theorem execSysPqMonPop_keeps {m : Nat} {s u : State} (h : Keeps m s u) (hm : m &&& 316912650057057350430010379241 = 316912650057057350430010379241) (fn : Nat) (j : Nat) : OutKeeps m s (execSysPqMonPop fn j u) := by
  unfold execSysPqMonPop
  with_reducible repeat' (first | assumption | intro _ | exact sub_mask hm rfl | rfl | apply State.flushHeld_keeps | apply State.popStall_keeps | apply State.popMon_keeps | apply State.readReserved_keeps | apply ite_keep | apply foldl_keep | apply outKeep_next | apply ite_outKeep | split | dsimp only)
theorem State.offerMon_keeps {m : Nat} {s u : State} (h : Keeps m s u) (hm : m &&& 316912650057057350430010378721 = 316912650057057350430010378721) (j : Nat) (x : Snapshot) : Keeps m s (State.offerMon u j x) := by
  unfold State.offerMon
  have k1 := keep_monQ h (sub_mask hm rfl) (mapPut [] j (pqOffer (u.isSet (SYS_PQ_CTL_POLICY (33 + j))) 256 (mapGet [] j u.monQ) x).1 u.monQ)
  have k2 := ite_keep (c := (pqOffer (u.isSet (SYS_PQ_CTL_POLICY (33 + j))) 256 (mapGet [] j u.monQ) x).2 = true)
    (State.pqLose_keeps (keep_monLost k1 (sub_mask hm rfl) (j :: u.monLost.erase j)) (sub_mask hm rfl) (33 + j)) k1
  revert k2
  dsimp only
  intro k2
  split
  · exact k2
  · exact State.popMon_keeps (State.popResume_keeps k2 (sub_mask hm rfl) _) (sub_mask hm rfl) _ _
theorem State.showTrgDrive_keeps {m : Nat} {s u : State} (h : Keeps m s u) (hm : m &&& 1 = 1) (n : Nat) : Keeps m s (State.showTrgDrive u n) := by
  unfold State.showTrgDrive
  with_reducible repeat' (first | assumption | intro _ | exact sub_mask hm rfl | rfl | apply State.put_keeps | apply ite_keep | apply foldl_keep | split | dsimp only)
theorem State.setSig_keeps {m : Nat} {s u : State} (h : Keeps m s u) (hm : m &&& 75557863725914323419136 = 75557863725914323419136) (n : Nat) (x : SigOut) : Keeps m s (State.setSig u n x) := by
  unfold State.setSig
  with_reducible repeat' (first | assumption | intro _ | exact sub_mask hm rfl | rfl | apply ite_keep | apply foldl_keep | split | dsimp only | apply keep_sigs)
theorem State.pinLevel_keeps {m : Nat} {s u : State} (h : Keeps m s u) (hm : m &&& 17592186044417 = 17592186044417) (n : Nat) (level : Nat) : Keeps m s (State.pinLevel u n level) := by
  unfold State.pinLevel
  with_reducible repeat' (first | assumption | intro _ | exact sub_mask hm rfl | rfl | apply State.put_keeps | apply ite_keep | apply foldl_keep | split | dsimp only | apply keep_injects)
theorem State.pinDrive_keeps {m : Nat} {s u : State} (h : Keeps m s u) (hm : m &&& 17592186044417 = 17592186044417) (n : Nat) (active : Bool) : Keeps m s (State.pinDrive u n active) := by
  unfold State.pinDrive
  with_reducible repeat' (first | assumption | intro _ | exact sub_mask hm rfl | rfl | apply State.pinLevel_keeps | apply ite_keep | apply foldl_keep | split | dsimp only)
theorem State.sigCfgWrite_keeps {m : Nat} {s u : State} (h : Keeps m s u) (hm : m &&& 316912725614921093880685267425 = 316912725614921093880685267425) (n : Nat) (w : Wr) : Keeps m s (State.sigCfgWrite u n w) := by
  unfold State.sigCfgWrite
  with_reducible repeat' (first | assumption | intro _ | exact sub_mask hm rfl | rfl | apply State.raise_keeps | apply State.put_keeps | apply State.mergeRaw_keeps | apply State.setSig_keeps | apply State.pinDrive_keeps | apply ite_keep | apply foldl_keep | split | dsimp only)
theorem State.xferWrite_keeps {m : Nat} {s u : State} (h : Keeps m s u) (hm : m &&& 316912801172784802271542118881 = 316912801172784802271542118881) (w : Wr) : Keeps m s (State.xferWrite u w) := by
  unfold State.xferWrite
  with_reducible repeat' (first | assumption | intro _ | exact sub_mask hm rfl | rfl | apply State.mergeRaw_keeps | apply State.refuseDom_keeps | apply State.put_keeps | apply State.emit_keeps | apply ite_keep | apply foldl_keep | split | dsimp only | apply keep_mgb)
theorem State.edgePush_keeps {m : Nat} {s u : State} (h : Keeps m s u) (hm : m &&& 316912876730648528117146061281 = 316912876730648528117146061281) : Keeps m s (State.edgePush u) := by
  unfold State.edgePush
  with_reducible repeat' (first | assumption | intro _ | exact sub_mask hm rfl | rfl | apply State.put_keeps | apply State.raise_keeps | apply State.setSig_keeps | apply ite_keep | apply foldl_keep | split | dsimp only | apply keep_mgb)
theorem State.busCode_keeps {m : Nat} {s u : State} (h : Keeps m s u) (hm : m &&& 316912801172784802202822642145 = 316912801172784802202822642145) (k0 : Nat) (code : Nat) : Keeps m s (State.busCode u k0 code) := by
  unfold State.busCode
  with_reducible repeat' (first | assumption | intro _ | exact sub_mask hm rfl | rfl | apply State.bump_keeps | apply State.raise_keeps | apply ite_keep | apply foldl_keep | split | dsimp only | apply keep_mgb)
theorem execMgbPoll_keeps {m : Nat} {s u : State} (h : Keeps m s u) (hm : m &&& 316912801172784802202822642145 = 316912801172784802202822642145) (i : Nat) (code : Nat) (val : Nat) : OutKeeps m s (execMgbPoll i code val u) := by
  unfold execMgbPoll
  with_reducible repeat' (first | assumption | intro _ | exact sub_mask hm rfl | rfl | apply State.put_keeps | apply State.busCode_keeps | apply State.emit_keeps | apply ite_keep | apply foldl_keep | apply outKeep_next | apply ite_outKeep | split | dsimp only | apply keep_mgb)
theorem execMgbSigCfgWrite_keeps {m : Nat} {s u : State} (h : Keeps m s u) (hm : m &&& 316912725614921093880685267945 = 316912725614921093880685267945) (n : Nat) (w : Wr) : OutKeeps m s (execMgbSigCfgWrite n w u) := by
  unfold execMgbSigCfgWrite
  with_reducible repeat' (first | assumption | intro _ | exact sub_mask hm rfl | rfl | apply State.pfOnly_keeps | apply State.sigCfgWrite_keeps | apply ite_keep | apply foldl_keep | apply outKeep_next | apply ite_outKeep | split | dsimp only)
theorem execTapReset_keeps {m : Nat} {s u : State} (h : Keeps m s u) (hm : m &&& 302231454903657293676544 = 302231454903657293676544) : OutKeeps m s (execTapReset u) := by
  unfold execTapReset
  with_reducible repeat' (first | assumption | intro _ | exact sub_mask hm rfl | rfl | apply ite_keep | apply foldl_keep | apply outKeep_next | apply ite_outKeep | split | dsimp only | apply keep_tap)
theorem execFrameMarkerEnd_keeps {m : Nat} {s u : State} (h : Keeps m s u) (hm : m &&& 75557863743506509463553 = 75557863743506509463553) (n : Nat) : OutKeeps m s (execFrameMarkerEnd n u) := by
  unfold execFrameMarkerEnd
  with_reducible repeat' (first | assumption | intro _ | exact sub_mask hm rfl | rfl | apply State.pinDrive_keeps | apply State.setSig_keeps | apply ite_keep | apply foldl_keep | apply outKeep_next | apply ite_outKeep | split | dsimp only)
theorem State.alertRead_keeps {m : Nat} {s u : State} (h : Keeps m s u) (hm : m &&& 316912801172784802202822642145 = 316912801172784802202822642145) (addr : Option Nat) : Keeps m s (State.alertRead u addr) := by
  unfold State.alertRead
  with_reducible repeat' (first | assumption | intro _ | exact sub_mask hm rfl | rfl | apply State.raise_keeps | apply State.put_keeps | apply State.emit_keeps | apply ite_keep | apply foldl_keep | split | dsimp only | apply keep_mgb)
theorem execMgbXferGo_keeps {m : Nat} {s u : State} (h : Keeps m s u) (hm : m &&& 316912801172784802271542119401 = 316912801172784802271542119401) (w : Wr) : OutKeeps m s (execMgbXferGo w u) := by
  unfold execMgbXferGo
  with_reducible repeat' (first | assumption | intro _ | exact sub_mask hm rfl | rfl | apply State.pfOnly_keeps | apply State.xferWrite_keeps | apply ite_keep | apply foldl_keep | apply outKeep_next | apply ite_outKeep | split | dsimp only)
theorem execSigEdgeFire_keeps {m : Nat} {s u : State} (h : Keeps m s u) (hm : m &&& 75557863743506509463553 = 75557863743506509463553) (n : Nat) : OutKeeps m s (execSigEdgeFire n u) := by
  unfold execSigEdgeFire
  with_reducible repeat' (first | assumption | intro _ | exact sub_mask hm rfl | rfl | apply State.pinLevel_keeps | apply State.put_keeps | apply State.setSig_keeps | apply ite_keep | apply foldl_keep | apply outKeep_next | apply ite_outKeep | split | dsimp only)
theorem State.edgeCtlWrite_keeps {m : Nat} {s u : State} (h : Keeps m s u) (hm : m &&& 316912876730648528185865538017 = 316912876730648528185865538017) (w : Wr) : Keeps m s (State.edgeCtlWrite u w) := by
  unfold State.edgeCtlWrite
  with_reducible repeat' (first | assumption | intro _ | exact sub_mask hm rfl | rfl | apply State.mergeRaw_keeps | apply State.edgePush_keeps | apply State.refuseDom_keeps | apply ite_keep | apply foldl_keep | split | dsimp only)
theorem execMgbEdgePush_keeps {m : Nat} {s u : State} (h : Keeps m s u) (hm : m &&& 316912876730648528185865538537 = 316912876730648528185865538537) (w : Wr) : OutKeeps m s (execMgbEdgePush w u) := by
  unfold execMgbEdgePush
  with_reducible repeat' (first | assumption | intro _ | exact sub_mask hm rfl | rfl | apply State.pfOnly_keeps | apply State.edgeCtlWrite_keeps | apply ite_keep | apply foldl_keep | apply outKeep_next | apply ite_outKeep | split | dsimp only)
theorem State.xdataPut_keeps {m : Nat} {s u : State} (h : Keeps m s u) (hm : m &&& 1 = 1) (l : List Byte) : Keeps m s (State.xdataPut u l) := by
  unfold State.xdataPut
  with_reducible repeat' (first | assumption | intro _ | exact sub_mask hm rfl | rfl | apply State.put_keeps | apply ite_keep | apply foldl_keep | split | dsimp only)
theorem execMgbXferDone_keeps {m : Nat} {s u : State} (h : Keeps m s u) (hm : m &&& 316912801172784802202822642145 = 316912801172784802202822642145) (code : Nat) (nbytes : Nat) (data : List Byte) : OutKeeps m s (execMgbXferDone code nbytes data u) := by
  unfold execMgbXferDone
  with_reducible repeat' (first | assumption | intro _ | exact sub_mask hm rfl | rfl | apply State.put_keeps | apply State.xdataPut_keeps | apply State.busCode_keeps | apply ite_keep | apply foldl_keep | apply outKeep_next | apply ite_outKeep | split | dsimp only | apply keep_mgb)
theorem execFrameMarkerStart_keeps {m : Nat} {s u : State} (h : Keeps m s u) (hm : m &&& 75557863743506509463553 = 75557863743506509463553) (n : Nat) : OutKeeps m s (execFrameMarkerStart n u) := by
  unfold execFrameMarkerStart
  with_reducible repeat' (first | assumption | intro _ | exact sub_mask hm rfl | rfl | apply State.pinDrive_keeps | apply State.setSig_keeps | apply ite_keep | apply foldl_keep | apply outKeep_next | apply ite_outKeep | split | dsimp only)
theorem execAlertRepeat_keeps {m : Nat} {s u : State} (h : Keeps m s u) (hm : m &&& 316912801172784802202822642145 = 316912801172784802202822642145) (low : Bool) (addr : Option Nat) : OutKeeps m s (execAlertRepeat low addr u) := by
  unfold execAlertRepeat
  with_reducible repeat' (first | assumption | intro _ | exact sub_mask hm rfl | rfl | apply State.alertRead_keeps | apply ite_keep | apply foldl_keep | apply outKeep_next | apply ite_outKeep | split | dsimp only | apply keep_mgb)
theorem execAlertNAssert_keeps {m : Nat} {s u : State} (h : Keeps m s u) (hm : m &&& 316912801172784802202822642145 = 316912801172784802202822642145) (addr : Option Nat) : OutKeeps m s (execAlertNAssert addr u) := by
  unfold execAlertNAssert
  with_reducible repeat' (first | assumption | intro _ | exact sub_mask hm rfl | rfl | apply State.alertRead_keeps | apply ite_keep | apply foldl_keep | apply outKeep_next | apply ite_outKeep | split | dsimp only)
theorem execTapInstruction_keeps {m : Nat} {s u : State} (h : Keeps m s u) (hm : m &&& 302231454903657293676544 = 302231454903657293676544) (ir : Nat) : OutKeeps m s (execTapInstruction ir u) := by
  unfold execTapInstruction
  with_reducible repeat' (first | assumption | intro _ | exact sub_mask hm rfl | rfl | apply ite_keep | apply foldl_keep | apply outKeep_next | apply ite_outKeep | split | dsimp only | apply keep_tap)
theorem State.loadEngine_keeps {m : Nat} {s u : State} (h : Keeps m s u) (hm : m &&& 1 = 1) (e : Nat) (load : Nat) : Keeps m s (State.loadEngine u e load) := by
  unfold State.loadEngine
  with_reducible repeat' (first | assumption | intro _ | exact sub_mask hm rfl | rfl | apply State.put_keeps | apply ite_keep | apply foldl_keep | split | dsimp only)
theorem State.rawAssign_keeps {m : Nat} {s u : State} (h : Keeps m s u) (hm : m &&& 83010348331692982273 = 83010348331692982273) (n : Nat) : Keeps m s (State.rawAssign u n) := by
  unfold State.rawAssign
  with_reducible repeat' (first | assumption | intro _ | exact sub_mask hm rfl | rfl | apply State.loadEngine_keeps | apply State.setRaw_keeps | apply State.setAllow_keeps | apply State.put_keeps | apply ite_keep | apply foldl_keep | split | dsimp only)
theorem State.rawSet_keeps {m : Nat} {s u : State} (h : Keeps m s u) (hm : m &&& 316912650140067698705868786145 = 316912650140067698705868786145) (n : Nat) (v : Nat) : Keeps m s (State.rawSet u n v).2 := by
  unfold State.rawSet
  with_reducible repeat' (first | assumption | intro _ | exact sub_mask hm rfl | rfl | apply State.put_keeps | apply State.raise_keeps | apply State.rawAssign_keeps | apply State.wn_keeps | apply State.setAllow_keeps | apply State.rawRelease_keeps | apply ite_keep | apply foldl_keep | apply ite_keep2 | apply foldl_keep2 | split | dsimp only)
theorem State.rawWrite_keeps {m : Nat} {s u : State} (h : Keeps m s u) (hm : m &&& 316912650140067698705868786145 = 316912650140067698705868786145) (n : Nat) (w : Wr) : Keeps m s (State.rawWrite u n w) := by
  unfold State.rawWrite
  with_reducible repeat' (first | assumption | intro _ | exact sub_mask hm rfl | rfl | apply State.rawSet_keeps | apply State.raise_keeps | apply ite_keep | apply foldl_keep | apply ite_keep2 | apply foldl_keep2 | split | refine pairKeep2 (by assumption) ?_ | dsimp only)
theorem State.ringCut_keeps {m : Nat} {s u : State} (h : Keeps m s u) (hm : m &&& 316912650227689733124742187489 = 316912650227689733124742187489) (n : Nat) : Keeps m s (State.ringCut u n) := by
  unfold State.ringCut
  with_reducible repeat' (first | assumption | intro _ | exact sub_mask hm rfl | rfl | apply State.showRing_keeps | apply State.raise_keeps | apply State.freePlots_keeps | apply ite_keep | apply foldl_keep | split | dsimp only | apply keep_captures_ring)
theorem State.dropPlot_keeps {m : Nat} {s u : State} (h : Keeps m s u) (hm : m &&& 316912650227689733124708633057 = 316912650227689733124708633057) (p : Nat) : Keeps m s (State.dropPlot u p) := by
  unfold State.dropPlot
  with_reducible repeat' (first | assumption | intro _ | exact sub_mask hm rfl | rfl | apply State.freePlots_keeps | apply ite_keep | apply foldl_keep | split | dsimp only | apply keep_ring)
theorem State.ringAsk_keeps {m : Nat} {s u : State} (h : Keeps m s u) (hm : m &&& 950737950341804433873060235745 = 950737950341804433873060235745) (n : Nat) : Keeps m s (State.ringAsk u n).2 := by
  unfold State.ringAsk
  with_reducible repeat' (first | assumption | intro _ | exact sub_mask hm rfl | rfl | apply State.takePlot_keeps | apply State.dropPlot_keeps | apply State.setPlot_keeps | apply ite_keep | apply foldl_keep | apply ite_keep2 | apply foldl_keep2 | split | refine pairKeep2 (by assumption) ?_ | dsimp only)
theorem State.ringPlace_keeps {m : Nat} {s u : State} (h : Keeps m s u) (hm : m &&& 950737950341804433873060235745 = 950737950341804433873060235745) (n : Nat) (a2 : Nat) (a3 : Nat) (a4 : List Nat) : Keeps m s (State.ringPlace u n a2 a3 a4).2 := by
  induction a2 generalizing u a3 a4 with
  | zero => unfold State.ringPlace; with_reducible repeat' (first | assumption | intro _ | exact sub_mask hm rfl | rfl | apply State.ringAsk_keeps | apply State.freePlots_keeps | apply State.setPlot_keeps | apply ite_keep | apply foldl_keep | apply ite_keep2 | apply foldl_keep2 | split | refine pairKeep2 (by assumption) ?_ | dsimp only)
  | succ n ih => unfold State.ringPlace; with_reducible repeat' (first | assumption | apply ih | intro _ | exact sub_mask hm rfl | rfl | apply State.ringAsk_keeps | apply State.freePlots_keeps | apply State.setPlot_keeps | apply ite_keep | apply foldl_keep | apply ite_keep2 | apply foldl_keep2 | split | refine pairKeep2 (by assumption) ?_ | dsimp only)
theorem State.ringStore_keeps {m : Nat} {s u : State} (h : Keeps m s u) (hm : m &&& 950737950341804433873093790177 = 950737950341804433873093790177) (n : Nat) (t : RawTile) (b : List Byte) : Keeps m s (State.ringStore u n t b) := by
  unfold State.ringStore
  with_reducible repeat' (first | assumption | intro _ | exact sub_mask hm rfl | rfl | apply State.ringPlace_keeps | apply State.freePlots_keeps | apply State.ringCut_keeps | apply State.setPlot_keeps | apply State.showRing_keeps | apply ite_keep | apply foldl_keep | apply ite_keep2 | apply foldl_keep2 | split | refine pairKeep2 (by assumption) ?_ | dsimp only | apply keep_captures_ring)
theorem State.rawTake_keeps {m : Nat} {s u : State} (h : Keeps m s u) (hm : m &&& 316912650140067698705868786145 = 316912650140067698705868786145) (n : Nat) (t : Int) (v : Smp) : Keeps m s (State.rawTake u n t v) := by
  unfold State.rawTake
  with_reducible repeat' (first | assumption | intro _ | exact sub_mask hm rfl | rfl | apply State.placeholder_keeps | apply State.cutTile_keeps | apply State.setRaw_keeps | apply ite_keep | apply foldl_keep | split | dsimp only)
theorem State.intakeMarks_keeps {m : Nat} {s u : State} (h : Keeps m s u) (hm : m &&& 316912650140067698843316128227 = 316912650140067698843316128227) (n : Nat) (t : Int) : Keeps m s (State.intakeMarks u n t) := by
  unfold State.intakeMarks
  with_reducible repeat' (first | assumption | intro _ | exact sub_mask hm rfl | rfl | apply State.setMark_keeps | apply State.intakePass_keeps | apply ite_keep | apply foldl_keep | split | dsimp only)
theorem State.takeSample_keeps {m : Nat} {s u : State} (h : Keeps m s u) (hm : m &&& 950737969143648929204574095843 = 950737969143648929204574095843) (n : Nat) (i : Nat) (x : SrcSample) : Keeps m s (State.takeSample u n i x) := by
  unfold State.takeSample
  with_reducible repeat' (first | assumption | intro _ | exact sub_mask hm rfl | rfl | apply State.raise_keeps | apply State.cutTile_keeps | apply State.intakeMarks_keeps | apply State.sourceResume_keeps | apply State.setSlot_keeps | apply State.fastPower_keeps | apply State.rawTake_keeps | apply State.feed_keeps | apply ite_keep | apply foldl_keep | split | dsimp only)
theorem State.inputSample_keeps {m : Nat} {s u : State} (h : Keeps m s u) (hm : m &&& 950737969143648929204574095843 = 950737969143648929204574095843) (inp : Nat) (i : Nat) (x : SrcSample) : Keeps m s (State.inputSample u inp i x) := by
  unfold State.inputSample
  with_reducible repeat' (first | assumption | intro _ | exact sub_mask hm rfl | rfl | apply State.setSub_keeps | apply State.takeSample_keeps | apply ite_keep | apply foldl_keep | split | dsimp only)
theorem execSourceSample_keeps {m : Nat} {s u : State} (h : Keeps m s u) (hm : m &&& 950737969143648929204574095843 = 950737969143648929204574095843) (src : SampleSrc) (i : Nat) (x : SrcSample) : OutKeeps m s (execSourceSample src i x u) := by
  unfold execSourceSample
  with_reducible repeat' (first | assumption | intro _ | exact sub_mask hm rfl | rfl | apply State.inputSample_keeps | apply State.takeSample_keeps | apply ite_keep | apply foldl_keep | apply outKeep_next | apply ite_outKeep | split | dsimp only)
theorem State.ringTrim_keeps {m : Nat} {s u : State} (h : Keeps m s u) (hm : m &&& 316912650227689733124708633057 = 316912650227689733124708633057) (limit : Nat) (a2 : Nat) : Keeps m s (State.ringTrim u limit a2) := by
  induction a2 generalizing u with
  | zero => unfold State.ringTrim; with_reducible repeat' (first | assumption | intro _ | exact sub_mask hm rfl | rfl | apply State.freePlot_keeps | apply State.dropPlot_keeps | apply ite_keep | apply foldl_keep | split | dsimp only)
  | succ n ih => unfold State.ringTrim; with_reducible repeat' (first | assumption | apply ih | intro _ | exact sub_mask hm rfl | rfl | apply State.freePlot_keeps | apply State.dropPlot_keeps | apply ite_keep | apply foldl_keep | split | dsimp only)
theorem State.ringCtlWrite_keeps {m : Nat} {s u : State} (h : Keeps m s u) (hm : m &&& 316912650301476709419546839521 = 316912650301476709419546839521) (w : Wr) : Keeps m s (State.ringCtlWrite u w) := by
  unfold State.ringCtlWrite
  with_reducible repeat' (first | assumption | intro _ | exact sub_mask hm rfl | rfl | apply State.mergeRaw_keeps | apply State.cutTile_keeps | apply State.ringTrim_keeps | apply State.showRing_keeps | apply ite_keep | apply foldl_keep | split | dsimp only | apply keep_ring)
theorem State.closeRec_keeps {m : Nat} {s u : State} (h : Keeps m s u) (hm : m &&& 316912650236913175530307586529 = 316912650236913175530307586529) (q : Nat) (offered : List Byte) : Keeps m s (State.closeRec u q offered) := by
  unfold State.closeRec
  with_reducible repeat' (first | assumption | intro _ | exact sub_mask hm rfl | rfl | apply State.offerUnit_keeps | apply State.setQue_keeps | apply ite_keep | apply foldl_keep | split | dsimp only)
theorem execCmpRawWrite_keeps {m : Nat} {s u : State} (h : Keeps m s u) (hm : m &&& 316912650140067698705868786665 = 316912650140067698705868786665) (n : Nat) (w : Wr) : OutKeeps m s (execCmpRawWrite n w u) := by
  unfold execCmpRawWrite
  with_reducible repeat' (first | assumption | intro _ | exact sub_mask hm rfl | rfl | apply State.pfOnly_keeps | apply State.rawWrite_keeps | apply ite_keep | apply foldl_keep | apply outKeep_next | apply ite_outKeep | split | dsimp only)
theorem execRecordTileFlush_keeps {m : Nat} {s u : State} (h : Keeps m s u) (hm : m &&& 9223372036854775808 = 9223372036854775808) (q : Nat) : OutKeeps m s (execRecordTileFlush q u) := by
  unfold execRecordTileFlush
  with_reducible repeat' (first | assumption | intro _ | exact sub_mask hm rfl | rfl | apply State.recShort_keeps | apply ite_keep | apply foldl_keep | apply outKeep_next | apply ite_outKeep | split | dsimp only)
theorem State.damage_keeps {m : Nat} {s u : State} (h : Keeps m s u) (hm : m &&& 633825300114114700748351602688 = 633825300114114700748351602688) (fault : Bool) (b : List Byte) : Keeps m s (State.damage u fault b).2 := by
  unfold State.damage
  with_reducible repeat' (first | assumption | intro _ | exact sub_mask hm rfl | rfl | apply State.draw_keeps | apply ite_keep | apply foldl_keep | apply ite_keep2 | apply foldl_keep2 | split | refine pairKeep2 (by assumption) ?_ | dsimp only)
theorem State.closeRaw_keeps {m : Nat} {s u : State} (h : Keeps m s u) (hm : m &&& 950737950424814852573530950113 = 950737950424814852573530950113) (n : Nat) : Keeps m s (State.closeRaw u n) := by
  unfold State.closeRaw
  with_reducible repeat' (first | assumption | intro _ | exact sub_mask hm rfl | rfl | apply State.setRaw_keeps | apply State.damage_keeps | apply State.ringStore_keeps | apply State.offerUnit_keeps | apply ite_keep | apply foldl_keep | apply ite_keep2 | apply foldl_keep2 | split | refine pairKeep2 (by assumption) ?_ | dsimp only)
theorem execTileClose_keeps {m : Nat} {s u : State} (h : Keeps m s u) (hm : m &&& 950737950424814852573530950113 = 950737950424814852573530950113) (rec : Bool) (n : Nat) (offered : List Byte) : OutKeeps m s (execTileClose rec n offered u) := by
  unfold execTileClose
  with_reducible repeat' (first | assumption | intro _ | exact sub_mask hm rfl | rfl | apply State.closeRec_keeps | apply State.closeRaw_keeps | apply ite_keep | apply foldl_keep | apply outKeep_next | apply ite_outKeep | split | dsimp only)
theorem State.encResumed_keeps {m : Nat} {s u : State} (h : Keeps m s u) (hm : m &&& 316912650057057350374175803873 = 316912650057057350374175803873) (q : Nat) : Keeps m s (State.encResumed u q) := by
  unfold State.encResumed
  with_reducible repeat' (first | assumption | intro _ | exact sub_mask hm rfl | rfl | apply State.raise_keeps | apply ite_keep | apply foldl_keep | split | dsimp only)
theorem execEncResume_keeps {m : Nat} {s u : State} (h : Keeps m s u) (hm : m &&& 950737950240347411767682402785 = 950737950240347411767682402785) (q : Nat) : OutKeeps m s (execEncResume q u) := by
  unfold execEncResume
  with_reducible repeat' (first | assumption | intro _ | exact sub_mask hm rfl | rfl | apply State.writeFront_keeps | apply State.encResumed_keeps | apply ite_keep | apply foldl_keep | apply outKeep_next | apply ite_outKeep | split | dsimp only)
theorem State.encStall_keeps {m : Nat} {s u : State} (h : Keeps m s u) (hm : m &&& 316912650057057350374175803873 = 316912650057057350374175803873) (q : Nat) : Keeps m s (State.encStall u q) := by
  unfold State.encStall
  with_reducible repeat' (first | assumption | intro _ | exact sub_mask hm rfl | rfl | apply State.raise_keeps | apply State.put_keeps | apply ite_keep | apply foldl_keep | split | dsimp only)
theorem State.writeStep_keeps {m : Nat} {s u : State} (h : Keeps m s u) (hm : m &&& 950737950240347411767682402785 = 950737950240347411767682402785) (q : Nat) : Keeps m s (State.writeStep u q) := by
  unfold State.writeStep
  with_reducible repeat' (first | assumption | intro _ | exact sub_mask hm rfl | rfl | apply State.writeFront_keeps | apply State.encStall_keeps | apply ite_keep | apply foldl_keep | split | dsimp only)
theorem execRingCtlWrite_keeps {m : Nat} {s u : State} (h : Keeps m s u) (hm : m &&& 316912650301476709419546840041 = 316912650301476709419546840041) (w : Wr) : OutKeeps m s (execRingCtlWrite w u) := by
  unfold execRingCtlWrite
  with_reducible repeat' (first | assumption | intro _ | exact sub_mask hm rfl | rfl | apply State.pfOnly_keeps | apply State.ringCtlWrite_keeps | apply ite_keep | apply foldl_keep | apply outKeep_next | apply ite_outKeep | split | dsimp only)
theorem State.cmpFault_keeps {m : Nat} {s u : State} (h : Keeps m s u) (hm : m &&& 316912650140067698705868786145 = 316912650140067698705868786145) (e : Nat) : Keeps m s (State.cmpFault u e) := by
  unfold State.cmpFault
  with_reducible repeat' (first | assumption | intro _ | exact sub_mask hm rfl | rfl | apply State.cutTile_keeps | apply State.setQue_keeps | apply State.raise_keeps | apply State.put_keeps | apply ite_keep | apply foldl_keep | split | dsimp only)
theorem execCmpEngFault_keeps {m : Nat} {s u : State} (h : Keeps m s u) (hm : m &&& 316912650140067698705868786145 = 316912650140067698705868786145) (x : EccError) : OutKeeps m s (execCmpEngFault x u) := by
  unfold execCmpEngFault
  with_reducible repeat' (first | assumption | intro _ | exact sub_mask hm rfl | rfl | apply State.put_keeps | apply State.cmpFault_keeps | apply ite_keep | apply foldl_keep | apply outKeep_next | apply ite_outKeep | split | dsimp only)
theorem State.trgState_keeps {m : Nat} {s u : State} (h : Keeps m s u) (hm : m &&& 1 = 1) (t : Nat) (st : Nat) : Keeps m s (State.trgState u t st) := by
  unfold State.trgState
  with_reducible repeat' (first | assumption | intro _ | exact sub_mask hm rfl | rfl | apply State.put_keeps | apply State.showTrgDrive_keeps | apply ite_keep | apply foldl_keep | split | dsimp only)
theorem State.setTrg_keeps {m : Nat} {s u : State} (h : Keeps m s u) (hm : m &&& 1180591620717411303424 = 1180591620717411303424) (t : Nat) (x : TrgOut) : Keeps m s (State.setTrg u t x) := by
  unfold State.setTrg
  with_reducible repeat' (first | assumption | intro _ | exact sub_mask hm rfl | rfl | apply ite_keep | apply foldl_keep | split | dsimp only | apply keep_trgOuts)
theorem State.rearm_keeps {m : Nat} {s u : State} (h : Keeps m s u) (hm : m &&& 1180591620717411303425 = 1180591620717411303425) (t : Nat) : Keeps m s (State.rearm u t) := by
  unfold State.rearm
  with_reducible repeat' (first | assumption | intro _ | exact sub_mask hm rfl | rfl | apply State.trgState_keeps | apply State.setTrg_keeps | apply State.put_keeps | apply ite_keep | apply foldl_keep | split | dsimp only)
theorem State.tryRearm_keeps {m : Nat} {s u : State} (h : Keeps m s u) (hm : m &&& 316912651237648971091587107297 = 316912651237648971091587107297) (t : Nat) : Keeps m s (State.tryRearm u t) := by
  unfold State.tryRearm
  with_reducible repeat' (first | assumption | intro _ | exact sub_mask hm rfl | rfl | apply State.rearm_keeps | apply State.raise_keeps | apply State.setTrg_keeps | apply State.put_keeps | apply ite_keep | apply foldl_keep | split | dsimp only)
theorem State.freeCtx_keeps {m : Nat} {s u : State} (h : Keeps m s u) (hm : m &&& 316912651237648971091587107297 = 316912651237648971091587107297) : Keeps m s (State.freeCtx u) := by
  unfold State.freeCtx
  with_reducible repeat' (first | assumption | intro _ | exact sub_mask hm rfl | rfl | apply State.put_keeps | apply State.tryRearm_keeps | apply ite_keep | apply foldl_keep | split | dsimp only)
theorem State.trgOff_keeps {m : Nat} {s u : State} (h : Keeps m s u) (hm : m &&& 316912651237648971091587107297 = 316912651237648971091587107297) (t : Nat) : Keeps m s (State.trgOff u t) := by
  unfold State.trgOff
  with_reducible repeat' (first | assumption | intro _ | exact sub_mask hm rfl | rfl | apply State.trgState_keeps | apply State.setTrg_keeps | apply State.put_keeps | apply State.freeCtx_keeps | apply ite_keep | apply foldl_keep | split | dsimp only)
theorem State.trgArm_keeps {m : Nat} {s u : State} (h : Keeps m s u) (hm : m &&& 1180591620717411303425 = 1180591620717411303425) (t : Nat) : Keeps m s (State.trgArm u t).2 := by
  unfold State.trgArm
  with_reducible repeat' (first | assumption | intro _ | exact sub_mask hm rfl | rfl | apply State.put_keeps | apply State.trgState_keeps | apply State.setTrg_keeps | apply ite_keep | apply foldl_keep | apply ite_keep2 | apply foldl_keep2 | split | dsimp only)
theorem State.trgCfgWrite_keeps {m : Nat} {s u : State} (h : Keeps m s u) (hm : m &&& 316912651237648971091587107297 = 316912651237648971091587107297) (t : Nat) (w : Wr) : Keeps m s (State.trgCfgWrite u t w) := by
  unfold State.trgCfgWrite
  with_reducible repeat' (first | assumption | intro _ | exact sub_mask hm rfl | rfl | apply State.trgOff_keeps | apply State.raise_keeps | apply State.mergeRaw_keeps | apply State.trgArm_keeps | apply ite_keep | apply foldl_keep | apply ite_keep2 | apply foldl_keep2 | split | refine pairKeep2 (by assumption) ?_ | dsimp only)
theorem State.ilineEdge_keeps {m : Nat} {s u : State} (h : Keeps m s u) (hm : m &&& 4722367045819598635008 = 4722367045819598635008) (n : Nat) (low : Bool) : Keeps m s (State.ilineEdge u n low) := by
  unfold State.ilineEdge
  with_reducible repeat' (first | assumption | intro _ | exact sub_mask hm rfl | rfl | apply State.offerTrig_keeps | apply ite_keep | apply foldl_keep | split | dsimp only | apply keep_ilines)
theorem State.pulsePin_keeps {m : Nat} {s u : State} (h : Keeps m s u) (hm : m &&& 4722367063411784679425 = 4722367063411784679425) (pin : Nat) (active : Bool) : Keeps m s (State.pulsePin u pin active) := by
  unfold State.pulsePin
  with_reducible repeat' (first | assumption | intro _ | exact sub_mask hm rfl | rfl | apply State.pinDrive_keeps | apply State.ilineEdge_keeps | apply ite_keep | apply foldl_keep | split | dsimp only)
theorem State.startPulses_keeps {m : Nat} {s u : State} (h : Keeps m s u) (hm : m &&& 316912657140607655220783090145 = 316912657140607655220783090145) (t : Nat) (at_ : Int) : Keeps m s (State.startPulses u t at_).2 := by
  unfold State.startPulses
  with_reducible repeat' (first | assumption | intro _ | exact sub_mask hm rfl | rfl | apply State.pulsePin_keeps | apply State.raise_keeps | apply State.put_keeps | apply ite_keep | apply foldl_keep | apply ite_keep2 | apply foldl_keep2 | split | dsimp only | apply keep_pulses)
theorem State.openCapture_keeps {m : Nat} {s u : State} (h : Keeps m s u) (hm : m &&& 316912689168766472656886172129 = 316912689168766472656886172129) (t : Nat) (src : Nat) (at_ : Int) (status : Nat) : Keeps m s (State.openCapture u t src at_ status) := by
  unfold State.openCapture
  with_reducible repeat' (first | assumption | intro _ | exact sub_mask hm rfl | rfl | apply State.showRing_keeps | apply State.setTrg_keeps | apply ite_keep | apply foldl_keep | split | dsimp only | apply keep_captures_ring_capSeq)
theorem State.acceptTrig_keeps {m : Nat} {s u : State} (h : Keeps m s u) (hm : m &&& 316912715141791751365701143009 = 316912715141791751365701143009) (t : Nat) (x : Trig) : Keeps m s (State.acceptTrig u t x) := by
  unfold State.acceptTrig
  with_reducible repeat' (first | assumption | intro _ | exact sub_mask hm rfl | rfl | apply State.trgState_keeps | apply State.setTrg_keeps | apply State.startPulses_keeps | apply State.trgSend_keeps | apply State.urgTrigger_keeps | apply State.openCapture_keeps | apply ite_keep | apply foldl_keep | apply ite_keep2 | apply foldl_keep2 | split | refine pairKeep2 (by assumption) ?_ | dsimp only)
theorem State.closeCapture_keeps {m : Nat} {s u : State} (h : Keeps m s u) (hm : m &&& 316912651237649006275992750561 = 316912651237649006275992750561) (c : Capture) : Keeps m s (State.closeCapture u c) := by
  unfold State.closeCapture
  with_reducible repeat' (first | assumption | intro _ | exact sub_mask hm rfl | rfl | apply State.setTrg_keeps | apply State.raise_keeps | apply State.put_keeps | apply State.freeCtx_keeps | apply ite_keep | apply foldl_keep | split | dsimp only | apply keep_captures_items)
theorem execCaptureClose_keeps {m : Nat} {s u : State} (h : Keeps m s u) (hm : m &&& 316912651237649006275992750561 = 316912651237649006275992750561) (seq : Nat) : OutKeeps m s (execCaptureClose seq u) := by
  unfold execCaptureClose
  with_reducible repeat' (first | assumption | intro _ | exact sub_mask hm rfl | rfl | apply State.closeCapture_keeps | apply ite_keep | apply foldl_keep | apply outKeep_next | apply ite_outKeep | split | dsimp only)
theorem State.netRefuse_keeps {m : Nat} {s u : State} (h : Keeps m s u) (hm : m &&& 316912650057057350374175803873 = 316912650057057350374175803873) (e : EvId) : Keeps m s (State.netRefuse u e) := by
  unfold State.netRefuse
  with_reducible repeat' (first | assumption | intro _ | exact sub_mask hm rfl | rfl | apply State.raise_keeps | apply State.bump_keeps | apply ite_keep | apply foldl_keep | split | dsimp only)
theorem State.offerTo_keeps {m : Nat} {s u : State} (h : Keeps m s u) (hm : m &&& 316912715141791751365701143009 = 316912715141791751365701143009) (t : Nat) (x : Trig) : Keeps m s (State.offerTo u t x) := by
  unfold State.offerTo
  with_reducible repeat' (first | assumption | intro _ | exact sub_mask hm rfl | rfl | apply State.acceptTrig_keeps | apply State.setTrg_keeps | apply State.bump_keeps | apply State.raise_keeps | apply State.tryRearm_keeps | apply ite_keep | apply foldl_keep | split | dsimp only)
theorem State.netTrigger_keeps {m : Nat} {s u : State} (h : Keeps m s u) (hm : m &&& 316912724586524717104991570401 = 316912724586524717104991570401) (b : List Byte) : Keeps m s (State.netTrigger u b) := by
  unfold State.netTrigger
  with_reducible repeat' (first | assumption | intro _ | exact sub_mask hm rfl | rfl | apply State.netRefuse_keeps | apply State.offerTo_keeps | apply ite_keep | apply foldl_keep | split | dsimp only | apply keep_netSenders)
theorem execNetTriggerRx_keeps {m : Nat} {s u : State} (h : Keeps m s u) (hm : m &&& 316912724586524717104991570401 = 316912724586524717104991570401) (port : Nat) (data : List Byte) : OutKeeps m s (execNetTriggerRx port data u) := by
  unfold execNetTriggerRx
  with_reducible repeat' (first | assumption | intro _ | exact sub_mask hm rfl | rfl | apply State.netTrigger_keeps | apply ite_keep | apply foldl_keep | apply outKeep_next | apply ite_outKeep | split | dsimp only)
theorem State.fireTrig_keeps {m : Nat} {s u : State} (h : Keeps m s u) (hm : m &&& 316912715141791751365701143009 = 316912715141791751365701143009) (t : Nat) (at_ : Option Int) : Keeps m s (State.fireTrig u t at_) := by
  unfold State.fireTrig
  with_reducible repeat' (first | assumption | intro _ | exact sub_mask hm rfl | rfl | apply State.offerTo_keeps | apply ite_keep | apply foldl_keep | split | dsimp only)
theorem execIlineEdge_keeps {m : Nat} {s u : State} (h : Keeps m s u) (hm : m &&& 4722367045819598635008 = 4722367045819598635008) (n : Nat) (low : Bool) : OutKeeps m s (execIlineEdge n low u) := by
  unfold execIlineEdge
  with_reducible repeat' (first | assumption | intro _ | exact sub_mask hm rfl | rfl | apply State.ilineEdge_keeps | apply ite_keep | apply foldl_keep | apply outKeep_next | apply ite_outKeep | split | dsimp only)
theorem State.offerAll_keeps {m : Nat} {s u : State} (h : Keeps m s u) (hm : m &&& 316912715141791751365701143009 = 316912715141791751365701143009) (x : Trig) : Keeps m s (State.offerAll u x) := by
  unfold State.offerAll
  with_reducible repeat' (first | assumption | intro _ | exact sub_mask hm rfl | rfl | apply State.offerTo_keeps | apply ite_keep | apply foldl_keep | split | dsimp only)
theorem execTriggerOffer_keeps {m : Nat} {s u : State} (h : Keeps m s u) (hm : m &&& 316912715141791751365701143009 = 316912715141791751365701143009) : OutKeeps m s (execTriggerOffer u) := by
  unfold execTriggerOffer
  with_reducible repeat' (first | assumption | intro _ | exact sub_mask hm rfl | rfl | apply State.offerAll_keeps | apply ite_keep | apply foldl_keep | apply outKeep_next | apply ite_outKeep | split | dsimp only | apply keep_trigs)
theorem execTrgPulseEnd_keeps {m : Nat} {s u : State} (h : Keeps m s u) (hm : m &&& 7083550304846607286273 = 7083550304846607286273) : OutKeeps m s (execTrgPulseEnd u) := by
  unfold execTrgPulseEnd
  with_reducible repeat' (first | assumption | intro _ | exact sub_mask hm rfl | rfl | apply State.pulsePin_keeps | apply ite_keep | apply foldl_keep | apply outKeep_next | apply ite_outKeep | split | dsimp only | apply keep_pulses)
theorem State.trgStatWrite_keeps {m : Nat} {s u : State} (h : Keeps m s u) (hm : m &&& 316912715141791751365701143009 = 316912715141791751365701143009) (t : Nat) (w : Wr) : Keeps m s (State.trgStatWrite u t w) := by
  unfold State.trgStatWrite
  with_reducible repeat' (first | assumption | intro _ | exact sub_mask hm rfl | rfl | apply State.mergeRaw_keeps | apply State.fireTrig_keeps | apply ite_keep | apply foldl_keep | split | dsimp only)
theorem State.trgNetWrite_keeps {m : Nat} {s u : State} (h : Keeps m s u) (hm : m &&& 316912659501790316113466231265 = 316912659501790316113466231265) (w : Wr) : Keeps m s (State.trgNetWrite u w) := by
  unfold State.trgNetWrite
  with_reducible repeat' (first | assumption | intro _ | exact sub_mask hm rfl | rfl | apply State.mergeRaw_keeps | apply ite_keep | apply foldl_keep | split | dsimp only | apply keep_netSenders)
theorem execTrgNetClr_keeps {m : Nat} {s u : State} (h : Keeps m s u) (hm : m &&& 316912659501790316113466231785 = 316912659501790316113466231785) (w : Wr) : OutKeeps m s (execTrgNetClr w u) := by
  unfold execTrgNetClr
  with_reducible repeat' (first | assumption | intro _ | exact sub_mask hm rfl | rfl | apply State.pfOnly_keeps | apply State.trgNetWrite_keeps | apply ite_keep | apply foldl_keep | apply outKeep_next | apply ite_outKeep | split | dsimp only)
theorem execFixedModeEdge_keeps {m : Nat} {s u : State} (h : Keeps m s u) (hm : m &&& 7083550304846607286273 = 7083550304846607286273) : OutKeeps m s (execFixedModeEdge u) := by
  unfold execFixedModeEdge
  with_reducible repeat' (first | assumption | intro _ | exact sub_mask hm rfl | rfl | apply State.pulsePin_keeps | apply ite_keep | apply foldl_keep | apply outKeep_next | apply ite_outKeep | split | dsimp only | apply keep_pulses)
theorem execTrgDisarm_keeps {m : Nat} {s u : State} (h : Keeps m s u) (hm : m &&& 316912651237648971091587107817 = 316912651237648971091587107817) (t : Nat) (w : Wr) : OutKeeps m s (execTrgDisarm t w u) := by
  unfold execTrgDisarm
  with_reducible repeat' (first | assumption | intro _ | exact sub_mask hm rfl | rfl | apply State.pfOnly_keeps | apply State.trgCfgWrite_keeps | apply ite_keep | apply foldl_keep | apply outKeep_next | apply ite_outKeep | split | dsimp only)
theorem execTrgOutFire_keeps {m : Nat} {s u : State} (h : Keeps m s u) (hm : m &&& 316912715141791751365701143529 = 316912715141791751365701143529) (t : Nat) (w : Wr) : OutKeeps m s (execTrgOutFire t w u) := by
  unfold execTrgOutFire
  with_reducible repeat' (first | assumption | intro _ | exact sub_mask hm rfl | rfl | apply State.pfOnly_keeps | apply State.trgStatWrite_keeps | apply ite_keep | apply foldl_keep | apply outKeep_next | apply ite_outKeep | split | dsimp only)
theorem execTrgRearm_keeps {m : Nat} {s u : State} (h : Keeps m s u) (hm : m &&& 316912651237648971091587107297 = 316912651237648971091587107297) (t : Nat) : OutKeeps m s (execTrgRearm t u) := by
  unfold execTrgRearm
  with_reducible repeat' (first | assumption | intro _ | exact sub_mask hm rfl | rfl | apply State.tryRearm_keeps | apply ite_keep | apply foldl_keep | apply outKeep_next | apply ite_outKeep | split | dsimp only)
theorem execIlineStuck_keeps {m : Nat} {s u : State} (h : Keeps m s u) (hm : m &&& 316912654779423833243821017569 = 316912654779423833243821017569) (n : Nat) : OutKeeps m s (execIlineStuck n u) := by
  unfold execIlineStuck
  with_reducible repeat' (first | assumption | intro _ | exact sub_mask hm rfl | rfl | apply State.raise_keeps | apply ite_keep | apply foldl_keep | apply outKeep_next | apply ite_outKeep | split | dsimp only | apply keep_ilines)
theorem execTrgArm_keeps {m : Nat} {s u : State} (h : Keeps m s u) (hm : m &&& 316912651237648971091587107817 = 316912651237648971091587107817) (t : Nat) (w : Wr) : OutKeeps m s (execTrgArm t w u) := by
  unfold execTrgArm
  with_reducible repeat' (first | assumption | intro _ | exact sub_mask hm rfl | rfl | apply State.pfOnly_keeps | apply State.trgCfgWrite_keeps | apply ite_keep | apply foldl_keep | apply outKeep_next | apply ite_outKeep | split | dsimp only)
theorem State.grantResume_keeps {m : Nat} {s u : State} (h : Keeps m s u) (hm : m &&& 316912650057057350374175803873 = 316912650057057350374175803873) (g : Nat) : Keeps m s (State.grantResume u g) := by
  unfold State.grantResume
  with_reducible repeat' (first | assumption | intro _ | exact sub_mask hm rfl | rfl | apply State.raise_keeps | apply State.put_keeps | apply ite_keep | apply foldl_keep | split | dsimp only)
theorem State.dropCopies_keeps {m : Nat} {s u : State} (h : Keeps m s u) (hm : m &&& 73786976294846595072 = 73786976294846595072) (g : Nat) : Keeps m s (State.dropCopies u g) := by
  unfold State.dropCopies
  with_reducible repeat' (first | assumption | intro _ | exact sub_mask hm rfl | rfl | apply State.setSlot_keeps | apply State.setRaw_keeps | apply ite_keep | apply foldl_keep | split | dsimp only)
theorem State.grantSuspend_keeps {m : Nat} {s u : State} (h : Keeps m s u) (hm : m &&& 316912650130844326669022398945 = 316912650130844326669022398945) (g : Nat) : Keeps m s (State.grantSuspend u g) := by
  unfold State.grantSuspend
  with_reducible repeat' (first | assumption | intro _ | exact sub_mask hm rfl | rfl | apply State.raise_keeps | apply State.put_keeps | apply State.dropCopies_keeps | apply ite_keep | apply foldl_keep | split | dsimp only)
theorem State.grantSync_keeps {m : Nat} {s u : State} (h : Keeps m s u) (hm : m &&& 316912650130844326669022398945 = 316912650130844326669022398945) (q : Nat) : Keeps m s (State.grantSync u q) := by
  unfold State.grantSync
  with_reducible repeat' (first | assumption | intro _ | exact sub_mask hm rfl | rfl | apply State.grantResume_keeps | apply State.grantSuspend_keeps | apply ite_keep | apply foldl_keep | split | dsimp only)
theorem State.queEmpty_keeps {m : Nat} {s u : State} (h : Keeps m s u) (hm : m &&& 316912650236913175530308110817 = 316912650236913175530308110817) (q : Nat) : Keeps m s (State.queEmpty u q).2 := by
  unfold State.queEmpty
  with_reducible repeat' (first | assumption | intro _ | exact sub_mask hm rfl | rfl | apply State.freePlots_keeps | apply State.setQue_keeps | apply State.releaseCapture_keeps | apply State.bumpSat_keeps | apply State.drained_keeps | apply State.showQue_keeps | apply State.raise_keeps | apply ite_keep | apply foldl_keep | apply ite_keep2 | apply foldl_keep2 | split | dsimp only | apply keep_units)
theorem State.recLast_keeps {m : Nat} {s u : State} (h : Keeps m s u) (hm : m &&& 9223372036854775808 = 9223372036854775808) (q : Nat) : Keeps m s (State.recLast u q) := by
  unfold State.recLast
  with_reducible repeat' (first | assumption | intro _ | exact sub_mask hm rfl | rfl | apply State.setQue_keeps | apply ite_keep | apply foldl_keep | split | dsimp only)
theorem State.queDrain_keeps {m : Nat} {s u : State} (h : Keeps m s u) (hm : m &&& 316912650163126128866734115297 = 316912650163126128866734115297) (q : Nat) : Keeps m s (State.queDrain u q) := by
  unfold State.queDrain
  with_reducible repeat' (first | assumption | intro _ | exact sub_mask hm rfl | rfl | apply State.grantSync_keeps | apply State.drained_keeps | apply State.put_keeps | apply State.recLast_keeps | apply ite_keep | apply foldl_keep | split | dsimp only)
theorem State.eventFeed_keeps {m : Nat} {s u : State} (h : Keeps m s u) (hm : m &&& 9223442405598953504 = 9223442405598953504) (q : Nat) : Keeps m s (State.eventFeed u q) := by
  unfold State.eventFeed
  with_reducible repeat' (first | assumption | intro _ | exact sub_mask hm rfl | rfl | apply State.setQue_keeps | apply ite_keep | apply foldl_keep | split | dsimp only | apply keep_router_units)
theorem execUnitWrite_keeps {m : Nat} {s u : State} (h : Keeps m s u) (hm : m &&& 950737950240347411767682402785 = 950737950240347411767682402785) (q : Nat) : OutKeeps m s (execUnitWrite q u) := by
  unfold execUnitWrite
  with_reducible repeat' (first | assumption | intro _ | exact sub_mask hm rfl | rfl | apply State.writeStep_keeps | apply State.eventFeed_keeps | apply ite_keep | apply foldl_keep | apply outKeep_next | apply ite_outKeep | split | dsimp only)
theorem State.queRefused_keeps {m : Nat} {s u : State} (h : Keeps m s u) (hm : m &&& 316912650057057350374175803873 = 316912650057057350374175803873) (q : Nat) (c : Nat) : Keeps m s (State.queRefused u q c).2 := by
  unfold State.queRefused
  with_reducible repeat' (first | assumption | intro _ | exact sub_mask hm rfl | rfl | apply State.raise_keeps | apply State.put_keeps | apply ite_keep | apply foldl_keep | apply ite_keep2 | apply foldl_keep2 | split | dsimp only)
theorem State.queFlush_keeps {m : Nat} {s u : State} (h : Keeps m s u) (hm : m &&& 316912650236913175530308110817 = 316912650236913175530308110817) (q : Nat) : Keeps m s (State.queFlush u q).2 := by
  unfold State.queFlush
  with_reducible repeat' (first | assumption | intro _ | exact sub_mask hm rfl | rfl | apply State.queRefused_keeps | apply State.queEmpty_keeps | apply State.put_keeps | apply ite_keep | apply foldl_keep | apply ite_keep2 | apply foldl_keep2 | split | refine pairKeep2 (by assumption) ?_ | dsimp only)
theorem State.queEnable_keeps {m : Nat} {s u : State} (h : Keeps m s u) (hm : m &&& 316922321546624615739275348449 = 316922321546624615739275348449) (q : Nat) : Keeps m s (State.queEnable u q).2 := by
  unfold State.queEnable
  with_reducible repeat' (first | assumption | intro _ | exact sub_mask hm rfl | rfl | apply State.put_keeps | apply State.raise_keeps | apply State.loadEngine_keeps | apply State.setQue_keeps | apply State.grantSync_keeps | apply State.showQue_keeps | apply State.setAllow_keeps | apply ite_keep | apply foldl_keep | apply ite_keep2 | apply foldl_keep2 | split | dsimp only | apply keep_quesOn_rxs)
theorem State.queDisable_keeps {m : Nat} {s u : State} (h : Keeps m s u) (hm : m &&& 316912650163126128866734115297 = 316912650163126128866734115297) (q : Nat) : Keeps m s (State.queDisable u q).2 := by
  unfold State.queDisable
  with_reducible repeat' (first | assumption | intro _ | exact sub_mask hm rfl | rfl | apply State.queRefused_keeps | apply State.queDrain_keeps | apply State.put_keeps | apply ite_keep | apply foldl_keep | apply ite_keep2 | apply foldl_keep2 | split | refine pairKeep2 (by assumption) ?_ | dsimp only)
theorem State.queCtlWrite_keeps {m : Nat} {s u : State} (h : Keeps m s u) (hm : m &&& 316922321717257068858552355297 = 316922321717257068858552355297) (q : Nat) (w : Wr) : Keeps m s (State.queCtlWrite u q w) := by
  unfold State.queCtlWrite
  with_reducible repeat' (first | assumption | intro _ | exact sub_mask hm rfl | rfl | apply State.raise_keeps | apply State.queEnable_keeps | apply State.queDisable_keeps | apply State.queFlush_keeps | apply ite_keep | apply foldl_keep | apply ite_keep2 | apply foldl_keep2 | split | refine pairKeep2 (by assumption) ?_ | dsimp only)
theorem execQueFlush_keeps {m : Nat} {s u : State} (h : Keeps m s u) (hm : m &&& 316922321717257068858552355817 = 316922321717257068858552355817) (w : Wr) : OutKeeps m s (execQueFlush w u) := by
  unfold execQueFlush
  with_reducible repeat' (first | assumption | intro _ | exact sub_mask hm rfl | rfl | apply State.pfOnly_keeps | apply State.queCtlWrite_keeps | apply ite_keep | apply foldl_keep | apply outKeep_next | apply ite_outKeep | split | dsimp only)
theorem execPlotCopyDone_keeps {m : Nat} {s u : State} (h : Keeps m s u) (hm : m &&& 316912650126232640719306099169 = 316912650126232640719306099169) : OutKeeps m s (execPlotCopyDone u) := by
  unfold execPlotCopyDone
  with_reducible repeat' (first | assumption | intro _ | exact sub_mask hm rfl | rfl | apply State.put_keeps | apply State.setPlot_keeps | apply State.setQue_keeps | apply State.showQue_keeps | apply State.freePlot_keeps | apply ite_keep | apply foldl_keep | apply outKeep_next | apply ite_outKeep | split | dsimp only | apply keep_copies)
theorem State.weakPlot_keeps {m : Nat} {s u : State} (h : Keeps m s u) (hm : m &&& 316912650061669036461322668513 = 316912650061669036461322668513) (id : Nat) : Keeps m s (State.weakPlot u id) := by
  unfold State.weakPlot
  with_reducible repeat' (first | assumption | intro _ | exact sub_mask hm rfl | rfl | apply State.setPlot_keeps | apply State.retirePlot_keeps | apply State.wn_keeps | apply ite_keep | apply foldl_keep | split | dsimp only)
theorem State.hurtPlot_keeps {m : Nat} {s u : State} (h : Keeps m s u) (hm : m &&& 156797394995275366400 = 156797394995275366400) (id : Nat) (off : Nat) (v : Nat) : Keeps m s (State.hurtPlot u id off v) := by
  unfold State.hurtPlot
  with_reducible repeat' (first | assumption | intro _ | exact sub_mask hm rfl | rfl | apply State.setQue_keeps | apply ite_keep | apply foldl_keep | split | dsimp only | apply keep_ring | apply keep_units)
theorem execPlotEccError_keeps {m : Nat} {s u : State} (h : Keeps m s u) (hm : m &&& 950737950332581132204949637601 = 950737950332581132204949637601) (id : Nat) (off : Nat) (uncorr : Bool) : OutKeeps m s (execPlotEccError id off uncorr u) := by
  unfold execPlotEccError
  with_reducible repeat' (first | assumption | intro _ | exact sub_mask hm rfl | rfl | apply State.draw_keeps | apply State.raise_keeps | apply State.put_keeps | apply State.weakPlot_keeps | apply State.setPlot_keeps | apply State.hurtPlot_keeps | apply ite_keep | apply foldl_keep | apply ite_keep2 | apply foldl_keep2 | apply outKeep_next | apply ite_outKeep | split | refine pairKeep2 (by assumption) ?_ | dsimp only)
theorem execPlotRequest_keeps {m : Nat} {s u : State} (h : Keeps m s u) (hm : m &&& 950737950203453853251519121889 = 950737950203453853251519121889) (q : Nat) : OutKeeps m s (execPlotRequest q u) := by
  unfold execPlotRequest
  with_reducible repeat' (first | assumption | intro _ | exact sub_mask hm rfl | rfl | apply State.askPlot_keeps | apply State.encStall_keeps | apply ite_keep | apply foldl_keep | apply ite_keep2 | apply foldl_keep2 | apply outKeep_next | apply ite_outKeep | split | refine pairKeep2 (by assumption) ?_ | dsimp only)
theorem execPlotRetry_keeps {m : Nat} {s u : State} (h : Keeps m s u) (hm : m &&& 950737950203453853251519121889 = 950737950203453853251519121889) (q : Nat) (hq : q < 16128) : OutKeeps m s (execPlotRetry q u) := by
  unfold execPlotRetry
  simp only [Nat.not_le.mpr hq, if_false]
  with_reducible repeat' (first | assumption | intro _ | exact sub_mask hm rfl | rfl | apply State.askPlot_keeps | apply ite_keep2 | apply outKeep_next | apply ite_outKeep | split | refine pairKeep2 (by assumption) ?_ | dsimp only)
theorem execQueDisable_keeps {m : Nat} {s u : State} (h : Keeps m s u) (hm : m &&& 316922321717257068858552355817 = 316922321717257068858552355817) (w : Wr) : OutKeeps m s (execQueDisable w u) := by
  unfold execQueDisable
  with_reducible repeat' (first | assumption | intro _ | exact sub_mask hm rfl | rfl | apply State.pfOnly_keeps | apply State.queCtlWrite_keeps | apply ite_keep | apply foldl_keep | apply outKeep_next | apply ite_outKeep | split | dsimp only)
theorem execQueEnable_keeps {m : Nat} {s u : State} (h : Keeps m s u) (hm : m &&& 316922321717257068858552355817 = 316922321717257068858552355817) (w : Wr) : OutKeeps m s (execQueEnable w u) := by
  unfold execQueEnable
  with_reducible repeat' (first | assumption | intro _ | exact sub_mask hm rfl | rfl | apply State.pfOnly_keeps | apply State.queCtlWrite_keeps | apply ite_keep | apply foldl_keep | apply outKeep_next | apply ite_outKeep | split | dsimp only)
theorem State.jobComplete_keeps {m : Nat} {s u : State} (h : Keeps m s u) (hm : m &&& 316912650057057350374175801344 = 316912650057057350374175801344) (b : Nat) (status : Nat) (detail : Nat) (off : Nat) (total : Nat) (last : Nat) : Keeps m s (State.jobComplete u b status detail off total last) := by
  unfold State.jobComplete
  with_reducible repeat' (first | assumption | intro _ | exact sub_mask hm rfl | rfl | apply State.emit_keeps | apply ite_keep | apply foldl_keep | split | dsimp only)
theorem State.dxFill_keeps {m : Nat} {s u : State} (h : Keeps m s u) (hm : m &&& 590295810358705651713 = 590295810358705651713) : Keeps m s (State.dxFill u) := by
  unfold State.dxFill
  with_reducible repeat' (first | assumption | intro _ | exact sub_mask hm rfl | rfl | apply State.put_keeps | apply ite_keep | apply foldl_keep | split | dsimp only | apply keep_dxNext)
theorem State.dxDone_keeps {m : Nat} {s u : State} (h : Keeps m s u) (hm : m &&& 590295810358705651713 = 590295810358705651713) (b : Nat) : Keeps m s (State.dxDone u b) := by
  unfold State.dxDone
  with_reducible repeat' (first | assumption | intro _ | exact sub_mask hm rfl | rfl | apply State.put_keeps | apply State.dxFill_keeps | apply ite_keep | apply foldl_keep | split | dsimp only)
theorem State.jobEnd_keeps {m : Nat} {s u : State} (h : Keeps m s u) (hm : m &&& 316912650942501065912234281441 = 316912650942501065912234281441) (b : Nat) (status : Nat) (detail : Nat) (off : Nat) : Keeps m s (State.jobEnd u b status detail off) := by
  unfold State.jobEnd
  with_reducible repeat' (first | assumption | intro _ | exact sub_mask hm rfl | rfl | apply State.jobComplete_keeps | apply State.put_keeps | apply State.dxDone_keeps | apply State.bump_keeps | apply State.raise_keeps | apply ite_keep | apply foldl_keep | split | dsimp only | apply keep_jobs)
theorem State.jobRun_keeps {m : Nat} {s u : State} (h : Keeps m s u) (hm : m &&& 950737951056615766660585884129 = 950737951056615766660585884129) (b : Nat) (fail : Nat) (j : Job) : Keeps m s (State.jobRun u b fail j) := by
  unfold State.jobRun
  with_reducible repeat' (first | assumption | intro _ | exact sub_mask hm rfl | rfl | apply State.jobEnd_keeps | apply State.emit_keeps | apply State.put_keeps | apply State.jobComplete_keeps | apply State.raise_keeps | apply State.dxDone_keeps | apply State.draw_keeps | apply ite_keep | apply foldl_keep | apply ite_keep2 | apply foldl_keep2 | split | refine pairKeep2 (by assumption) ?_ | dsimp only | apply keep_jobs)
theorem execJobDecode_keeps {m : Nat} {s u : State} (h : Keeps m s u) (hm : m &&& 950737951056615766660585884129 = 950737951056615766660585884129) (b : Nat) (fail : Nat) (desc : List Byte) (src : List Byte) : OutKeeps m s (execJobDecode b fail desc src u) := by
  unfold execJobDecode
  with_reducible repeat' (first | assumption | intro _ | exact sub_mask hm rfl | rfl | apply State.jobRun_keeps | apply State.put_keeps | apply ite_keep | apply foldl_keep | apply outKeep_next | apply ite_outKeep | split | dsimp only)
theorem State.jobCtlWrite_keeps {m : Nat} {s u : State} (h : Keeps m s u) (hm : m &&& 316912650942501065912234281441 = 316912650942501065912234281441) (b : Nat) (w : Wr) : Keeps m s (State.jobCtlWrite u b w) := by
  unfold State.jobCtlWrite
  with_reducible repeat' (first | assumption | intro _ | exact sub_mask hm rfl | rfl | apply State.raise_keeps | apply State.put_keeps | apply State.jobEnd_keeps | apply State.mergeRaw_keeps | apply State.dxDone_keeps | apply State.dxFill_keeps | apply ite_keep | apply foldl_keep | split | dsimp only)
theorem State.jobAbort_keeps {m : Nat} {s u : State} (h : Keeps m s u) (hm : m &&& 316912650942501065912234281441 = 316912650942501065912234281441) (b : Nat) : Keeps m s (State.jobAbort u b) := by
  unfold State.jobAbort
  with_reducible repeat' (first | assumption | intro _ | exact sub_mask hm rfl | rfl | apply State.jobEnd_keeps | apply ite_keep | apply foldl_keep | split | dsimp only)
theorem State.jobMore_keeps {m : Nat} {s u : State} (h : Keeps m s u) (hm : m &&& 316912650942501065912234278913 = 316912650942501065912234278913) (b : Nat) : Keeps m s (State.jobMore u b) := by
  unfold State.jobMore
  with_reducible repeat' (first | assumption | intro _ | exact sub_mask hm rfl | rfl | apply State.emit_keeps | apply State.dxFill_keeps | apply State.put_keeps | apply ite_keep | apply foldl_keep | split | dsimp only | apply keep_jobs)

end Sys2Proof.Machine
end

