-- ==== Sys2Proof/Laws/Keep4.lean ====
section
/-! SUPPORT. One lemma per operation: the components it may change, as a mask (part 4 of 5, in the order of dependence). -/
set_option maxRecDepth 10000
namespace Sys2Proof.Machine

theorem State.jobStatWrite_keeps {m : Nat} {s u : State} (h : Keeps m s u) (hm : m &&& 316912650942501065912234281441 = 316912650942501065912234281441) (b : Nat) (w : Wr) : Keeps m s (State.jobStatWrite u b w) := by
  unfold State.jobStatWrite
  with_reducible repeat' (first | assumption | intro _ | exact sub_mask hm rfl | rfl | apply State.jobAbort_keeps | apply State.jobMore_keeps | apply ite_keep | apply foldl_keep | split | dsimp only)
theorem execCmpJobDisable_keeps {m : Nat} {s u : State} (h : Keeps m s u) (hm : m &&& 316912650942501065912234281961 = 316912650942501065912234281961) (b : Nat) (w : Wr) : OutKeeps m s (execCmpJobDisable b w u) := by
  unfold execCmpJobDisable
  with_reducible repeat' (first | assumption | intro _ | exact sub_mask hm rfl | rfl | apply State.flushHeld_keeps | apply State.jobCtlWrite_keeps | apply State.reservedHit_keeps | apply ite_keep | apply foldl_keep | apply outKeep_next | apply ite_outKeep | split | dsimp only)
theorem State.jobPiWrite_keeps {m : Nat} {s u : State} (h : Keeps m s u) (hm : m &&& 316912650647353160732881455585 = 316912650647353160732881455585) (b : Nat) (w : Wr) : Keeps m s (State.jobPiWrite u b w) := by
  unfold State.jobPiWrite
  with_reducible repeat' (first | assumption | intro _ | exact sub_mask hm rfl | rfl | apply State.mergeRaw_keeps | apply State.raise_keeps | apply State.dxFill_keeps | apply ite_keep | apply foldl_keep | split | dsimp only)
theorem execCmpJobPiWrite_keeps {m : Nat} {s u : State} (h : Keeps m s u) (hm : m &&& 316912650647353160732881456105 = 316912650647353160732881456105) (b : Nat) (w : Wr) : OutKeeps m s (execCmpJobPiWrite b w u) := by
  unfold execCmpJobPiWrite
  with_reducible repeat' (first | assumption | intro _ | exact sub_mask hm rfl | rfl | apply State.flushHeld_keeps | apply State.jobPiWrite_keeps | apply State.reservedHit_keeps | apply ite_keep | apply foldl_keep | apply outKeep_next | apply ite_outKeep | split | dsimp only)
theorem execCmpJobAbort_keeps {m : Nat} {s u : State} (h : Keeps m s u) (hm : m &&& 316912650942501065912234281961 = 316912650942501065912234281961) (b : Nat) (w : Wr) : OutKeeps m s (execCmpJobAbort b w u) := by
  unfold execCmpJobAbort
  with_reducible repeat' (first | assumption | intro _ | exact sub_mask hm rfl | rfl | apply State.flushHeld_keeps | apply State.jobStatWrite_keeps | apply State.reservedHit_keeps | apply ite_keep | apply foldl_keep | apply outKeep_next | apply ite_outKeep | split | dsimp only)
theorem execCmpJobMore_keeps {m : Nat} {s u : State} (h : Keeps m s u) (hm : m &&& 316912650942501065912234281961 = 316912650942501065912234281961) (b : Nat) (w : Wr) : OutKeeps m s (execCmpJobMore b w u) := by
  unfold execCmpJobMore
  with_reducible repeat' (first | assumption | intro _ | exact sub_mask hm rfl | rfl | apply State.flushHeld_keeps | apply State.jobStatWrite_keeps | apply State.reservedHit_keeps | apply ite_keep | apply foldl_keep | apply outKeep_next | apply ite_outKeep | split | dsimp only)
theorem State.setArb_keeps {m : Nat} {s u : State} (h : Keeps m s u) (hm : m &&& 1208925819614629174706176 = 1208925819614629174706176) (k0 : Nat) (l : Nat) (x : ArbLane) : Keeps m s (State.setArb u k0 l x) := by
  unfold State.setArb
  with_reducible repeat' (first | assumption | intro _ | exact sub_mask hm rfl | rfl | apply ite_keep | apply foldl_keep | split | dsimp only | apply keep_arbs)
theorem State.arbCount_keeps {m : Nat} {s u : State} (h : Keeps m s u) (hm : m &&& 316912650057057350374175803873 = 316912650057057350374175803873) (k0 : Nat) (r : Reg) : Keeps m s (State.arbCount u k0 r) := by
  unfold State.arbCount
  with_reducible repeat' (first | assumption | intro _ | exact sub_mask hm rfl | rfl | apply State.bumpSat_keeps | apply ite_keep | apply foldl_keep | split | dsimp only)
theorem State.arbCut_keeps {m : Nat} {s u : State} (h : Keeps m s u) (hm : m &&& 316913858982876965003350510049 = 316913858982876965003350510049) (k0 : Nat) (l : Nat) (r : Nat) : Keeps m s (State.arbCut u k0 l r) := by
  unfold State.arbCut
  with_reducible repeat' (first | assumption | intro _ | exact sub_mask hm rfl | rfl | apply State.setArb_keeps | apply State.raise_keeps | apply State.arbCount_keeps | apply State.put_keeps | apply ite_keep | apply foldl_keep | split | dsimp only)
theorem State.arbForced_keeps {m : Nat} {s u : State} (h : Keeps m s u) (hm : m &&& 316912650057057350374175803873 = 316912650057057350374175803873) (k0 : Nat) (r : Nat) : Keeps m s (State.arbForced u k0 r) := by
  unfold State.arbForced
  with_reducible repeat' (first | assumption | intro _ | exact sub_mask hm rfl | rfl | apply State.put_keeps | apply State.arbCount_keeps | apply State.raise_keeps | apply ite_keep | apply foldl_keep | split | dsimp only)
theorem State.arbDecide_keeps {m : Nat} {s u : State} (h : Keeps m s u) (hm : m &&& 316913858982876965003350510049 = 316913858982876965003350510049) (k0 : Nat) (l : Nat) (c : ArbCfg) (e : List Nat) (bad : Bool) : Keeps m s (State.arbDecide u k0 l c e bad) := by
  unfold State.arbDecide
  with_reducible repeat' (first | assumption | intro _ | exact sub_mask hm rfl | rfl | apply State.arbCut_keeps | apply State.setArb_keeps | apply State.raise_keeps | apply State.put_keeps | apply State.arbCount_keeps | apply State.arbForced_keeps | apply ite_keep | apply foldl_keep | split | dsimp only)
theorem State.arbLose_keeps {m : Nat} {s u : State} (h : Keeps m s u) (hm : m &&& 316913858982876965003350510049 = 316913858982876965003350510049) (k0 : Nat) (l : Nat) (warn : Nat) (r : Nat) : Keeps m s (State.arbLose u k0 l warn r) := by
  unfold State.arbLose
  with_reducible repeat' (first | assumption | intro _ | exact sub_mask hm rfl | rfl | apply State.setArb_keeps | apply State.put_keeps | apply State.raise_keeps | apply ite_keep | apply foldl_keep | split | dsimp only)
theorem State.arbLines_keeps {m : Nat} {s u : State} (h : Keeps m s u) (hm : m &&& 316913858982876965003350510049 = 316913858982876965003350510049) (k0 : Nat) (l : Nat) (warn : Nat) (lines : List ArbReq) : Keeps m s (State.arbLines u k0 l warn lines) := by
  unfold State.arbLines
  with_reducible repeat' (first | assumption | intro _ | exact sub_mask hm rfl | rfl | apply State.arbLose_keeps | apply State.setArb_keeps | apply ite_keep | apply foldl_keep | split | dsimp only)
theorem State.arbSleep_keeps {m : Nat} {s u : State} (h : Keeps m s u) (hm : m &&& 1 = 1) (k0 : Nat) : Keeps m s (State.arbSleep u k0) := by
  unfold State.arbSleep
  with_reducible repeat' (first | assumption | intro _ | exact sub_mask hm rfl | rfl | apply State.put_keeps | apply ite_keep | apply foldl_keep | split | dsimp only)
theorem State.arbBeat_keeps {m : Nat} {s u : State} (h : Keeps m s u) (hm : m &&& 1 = 1) (k0 : Nat) : Keeps m s (State.arbBeat u k0) := by
  unfold State.arbBeat
  with_reducible repeat' (first | assumption | intro _ | exact sub_mask hm rfl | rfl | apply State.wr64_keeps | apply ite_keep | apply foldl_keep | split | dsimp only)
theorem State.arbCycle_keeps {m : Nat} {s u : State} (h : Keeps m s u) (hm : m &&& 316913858982876965003350510049 = 316913858982876965003350510049) (k0 : Nat) (l : Nat) (lines : List ArbReq) : Keeps m s (State.arbCycle u k0 l lines) := by
  unfold State.arbCycle
  with_reducible repeat' (first | assumption | intro _ | exact sub_mask hm rfl | rfl | apply State.arbCount_keeps | apply State.arbBeat_keeps | apply State.setArb_keeps | apply ite_keep | apply foldl_keep | split | dsimp only)
theorem execArbDecision_keeps {m : Nat} {s u : State} (h : Keeps m s u) (hm : m &&& 316913858982876965003350510049 = 316913858982876965003350510049) (k0 : Nat) (l : Nat) (lines : List ArbReq) (bad : Bool) : OutKeeps m s (execArbDecision k0 l lines bad u) := by
  unfold execArbDecision
  with_reducible repeat' (first | assumption | intro _ | exact sub_mask hm rfl | rfl | apply State.arbLines_keeps | apply State.arbCycle_keeps | apply State.arbDecide_keeps | apply ite_keep | apply foldl_keep | apply outKeep_next | apply ite_outKeep | split | dsimp only)
theorem State.arbWake_keeps {m : Nat} {s u : State} (h : Keeps m s u) (hm : m &&& 1208925819614629174706177 = 1208925819614629174706177) (k0 : Nat) : Keeps m s (State.arbWake u k0) := by
  unfold State.arbWake
  with_reducible repeat' (first | assumption | intro _ | exact sub_mask hm rfl | rfl | apply State.setArb_keeps | apply State.put_keeps | apply ite_keep | apply foldl_keep | split | dsimp only | apply keep_arbs)
theorem State.setMap_keeps {m : Nat} {s u : State} (h : Keeps m s u) (hm : m &&& 1 = 1) (sh : Nat) (l : List Nat) : Keeps m s (State.setMap u sh l) := by
  unfold State.setMap
  with_reducible repeat' (first | assumption | intro _ | exact sub_mask hm rfl | rfl | apply State.put_keeps | apply State.wn_keeps | apply ite_keep | apply foldl_keep | split | dsimp only)
theorem State.setSheet_keeps {m : Nat} {s u : State} (h : Keeps m s u) (hm : m &&& 2417851639229258349412352 = 2417851639229258349412352) (sh : Nat) (x : Sheet) : Keeps m s (State.setSheet u sh x) := by
  unfold State.setSheet
  with_reducible repeat' (first | assumption | intro _ | exact sub_mask hm rfl | rfl | apply ite_keep | apply foldl_keep | split | dsimp only | apply keep_sheets)
theorem State.stageTo_keeps {m : Nat} {s u : State} (h : Keeps m s u) (hm : m &&& 2417851639229258349412353 = 2417851639229258349412353) (sh : Nat) (st : Nat) (l : Nat) : Keeps m s (State.stageTo u sh st l) := by
  unfold State.stageTo
  with_reducible repeat' (first | assumption | intro _ | exact sub_mask hm rfl | rfl | apply State.put_keeps | apply State.setSheet_keeps | apply ite_keep | apply foldl_keep | split | dsimp only)
theorem State.wakeSpare_keeps {m : Nat} {s u : State} (h : Keeps m s u) (hm : m &&& 2417851639229258349412353 = 2417851639229258349412353) (sh : Nat) (st : Nat) : Keeps m s (State.wakeSpare u sh st) := by
  unfold State.wakeSpare
  with_reducible repeat' (first | assumption | intro _ | exact sub_mask hm rfl | rfl | apply State.put_keeps | apply State.stageTo_keeps | apply ite_keep | apply foldl_keep | split | dsimp only)
theorem State.retireLane_keeps {m : Nat} {s u : State} (h : Keeps m s u) (hm : m &&& 316912650057057350374175803873 = 316912650057057350374175803873) (sh : Nat) (l : Nat) : Keeps m s (State.retireLane u sh l) := by
  unfold State.retireLane
  with_reducible repeat' (first | assumption | intro _ | exact sub_mask hm rfl | rfl | apply State.put_keeps | apply State.raise_keeps | apply ite_keep | apply foldl_keep | split | dsimp only)
theorem State.spareIn_keeps {m : Nat} {s u : State} (h : Keeps m s u) (hm : m &&& 316912650057057350442895280609 = 316912650057057350442895280609) (sh : Nat) (k0 : Nat) (pol : Bool) : Keeps m s (State.spareIn u sh k0 pol) := by
  unfold State.spareIn
  with_reducible repeat' (first | assumption | intro _ | exact sub_mask hm rfl | rfl | apply State.useSpare_keeps | apply State.setMap_keeps | apply State.raise_keeps | apply State.retireLane_keeps | apply ite_keep | apply foldl_keep | split | dsimp only)
theorem State.laneCount_keeps {m : Nat} {s u : State} (h : Keeps m s u) (hm : m &&& 316912650057057350374175803873 = 316912650057057350374175803873) (sh : Nat) (r : Reg) : Keeps m s (State.laneCount u sh r) := by
  unfold State.laneCount
  with_reducible repeat' (first | assumption | intro _ | exact sub_mask hm rfl | rfl | apply State.bumpSat_keeps | apply ite_keep | apply foldl_keep | split | dsimp only)
theorem State.narrowMap_keeps {m : Nat} {s u : State} (h : Keeps m s u) (hm : m &&& 316912650057057350374175803873 = 316912650057057350374175803873) (sh : Nat) (l : Nat) (pol : Bool) : Keeps m s (State.narrowMap u sh l pol) := by
  unfold State.narrowMap
  with_reducible repeat' (first | assumption | intro _ | exact sub_mask hm rfl | rfl | apply State.retireLane_keeps | apply State.setMap_keeps | apply State.raise_keeps | apply ite_keep | apply foldl_keep | split | dsimp only)
theorem State.laneTo_keeps {m : Nat} {s u : State} (h : Keeps m s u) (hm : m &&& 1 = 1) (sh : Nat) (st : Nat) (l : Nat) : Keeps m s (State.laneTo u sh st l) := by
  unfold State.laneTo
  with_reducible repeat' (first | assumption | intro _ | exact sub_mask hm rfl | rfl | apply State.put_keeps | apply ite_keep | apply foldl_keep | split | dsimp only)
theorem State.setLnk_keeps {m : Nat} {s u : State} (h : Keeps m s u) (hm : m &&& 38685626227668133590597632 = 38685626227668133590597632) (sh : Nat) (x : Link) : Keeps m s (State.setLnk u sh x) := by
  unfold State.setLnk
  with_reducible repeat' (first | assumption | intro _ | exact sub_mask hm rfl | rfl | apply ite_keep | apply foldl_keep | split | dsimp only | apply keep_links)
theorem State.rxFlits_keeps {m : Nat} {s u : State} (h : Keeps m s u) (hm : m &&& 38685626227668133590597632 = 38685626227668133590597632) (sh : Nat) (a2 : Nat) : Keeps m s (State.rxFlits u sh a2) := by
  induction a2 generalizing u with
  | zero => unfold State.rxFlits; with_reducible repeat' (first | assumption | intro _ | exact sub_mask hm rfl | rfl | apply State.setLnk_keeps | apply ite_keep | apply foldl_keep | split | dsimp only)
  | succ n ih => unfold State.rxFlits; with_reducible repeat' (first | assumption | apply ih | intro _ | exact sub_mask hm rfl | rfl | apply State.setLnk_keeps | apply ite_keep | apply foldl_keep | split | dsimp only)
theorem State.queAcked_keeps {m : Nat} {s u : State} (h : Keeps m s u) (hm : m &&& 950737950387921294057334639073 = 950737950387921294057334639073) (q : Nat) : Keeps m s (State.queAcked u q) := by
  unfold State.queAcked
  with_reducible repeat' (first | assumption | intro _ | exact sub_mask hm rfl | rfl | apply State.setQue_keeps | apply State.readQue_keeps | apply ite_keep | apply foldl_keep | split | dsimp only)
theorem State.ackTo_keeps {m : Nat} {s u : State} (h : Keeps m s u) (hm : m &&& 950776636014148962190925236705 = 950776636014148962190925236705) (sh : Nat) (a : Nat) : Keeps m s (State.ackTo u sh a) := by
  unfold State.ackTo
  with_reducible repeat' (first | assumption | intro _ | exact sub_mask hm rfl | rfl | apply State.setLnk_keeps | apply State.queAcked_keeps | apply ite_keep | apply foldl_keep | split | dsimp only)
theorem State.queRestart_keeps {m : Nat} {s u : State} (h : Keeps m s u) (hm : m &&& 9223372036854775808 = 9223372036854775808) (q : Nat) : Keeps m s (State.queRestart u q) := by
  unfold State.queRestart
  with_reducible repeat' (first | assumption | intro _ | exact sub_mask hm rfl | rfl | apply State.setQue_keeps | apply ite_keep | apply foldl_keep | split | dsimp only)
theorem State.linkFresh_keeps {m : Nat} {s u : State} (h : Keeps m s u) (hm : m &&& 316951335692509516444528019937 = 316951335692509516444528019937) (sh : Nat) (epoch : Nat) (p : TrainSet) : Keeps m s (State.linkFresh u sh epoch p) := by
  unfold State.linkFresh
  with_reducible repeat' (first | assumption | intro _ | exact sub_mask hm rfl | rfl | apply State.setLnk_keeps | apply State.wn_keeps | apply State.queRestart_keeps | apply State.raise_keeps | apply State.put_keeps | apply ite_keep | apply foldl_keep | split | dsimp only | apply keep_spxTx)
theorem State.showCrd_keeps {m : Nat} {s u : State} (h : Keeps m s u) (hm : m &&& 1 = 1) (sh : Nat) : Keeps m s (State.showCrd u sh) := by
  unfold State.showCrd
  with_reducible repeat' (first | assumption | intro _ | exact sub_mask hm rfl | rfl | apply State.put_keeps | apply ite_keep | apply foldl_keep | split | dsimp only)
theorem State.linkUpNow_keeps {m : Nat} {s u : State} (h : Keeps m s u) (hm : m &&& 950776636014150088090832079329 = 950776636014150088090832079329) (sh : Nat) : Keeps m s (State.linkUpNow u sh) := by
  unfold State.linkUpNow
  with_reducible repeat' (first | assumption | intro _ | exact sub_mask hm rfl | rfl | apply State.ackTo_keeps | apply State.linkFresh_keeps | apply State.setLnk_keeps | apply State.put_keeps | apply State.raise_keeps | apply State.showCrd_keeps | apply State.wn_keeps | apply ite_keep | apply foldl_keep | split | dsimp only)
theorem State.relCtrl_keeps {m : Nat} {s u : State} (h : Keeps m s u) (hm : m &&& 38685626227668133590597632 = 38685626227668133590597632) (sh : Nat) : Keeps m s (State.relCtrl u sh) := by
  unfold State.relCtrl
  with_reducible repeat' (first | assumption | intro _ | exact sub_mask hm rfl | rfl | apply State.setLnk_keeps | apply ite_keep | apply foldl_keep | split | dsimp only)
theorem State.nextFlit_keeps {m : Nat} {s u : State} (h : Keeps m s u) (hm : m &&& 38685626228794033497440257 = 38685626228794033497440257) (sh : Nat) (head : Bool) (t : Int) : Keeps m s (State.nextFlit u sh head t).2 := by
  unfold State.nextFlit
  with_reducible repeat' (first | assumption | intro _ | exact sub_mask hm rfl | rfl | apply State.setLnk_keeps | apply State.showCrd_keeps | apply State.wn_keeps | apply ite_keep | apply foldl_keep | apply ite_keep2 | apply foldl_keep2 | split | dsimp only | apply keep_spxTx)
theorem State.fillPipe_keeps {m : Nat} {s u : State} (h : Keeps m s u) (hm : m &&& 38685626228794033497440257 = 38685626228794033497440257) (sh : Nat) (t : Int) (a3 : Nat) : Keeps m s (State.fillPipe u sh t a3) := by
  induction a3 generalizing u with
  | zero => unfold State.fillPipe; with_reducible repeat' (first | assumption | intro _ | exact sub_mask hm rfl | rfl | apply State.nextFlit_keeps | apply State.setLnk_keeps | apply ite_keep | apply foldl_keep | apply ite_keep2 | apply foldl_keep2 | split | refine pairKeep2 (by assumption) ?_ | dsimp only)
  | succ n ih => unfold State.fillPipe; with_reducible repeat' (first | assumption | apply ih | intro _ | exact sub_mask hm rfl | rfl | apply State.nextFlit_keeps | apply State.setLnk_keeps | apply ite_keep | apply foldl_keep | apply ite_keep2 | apply foldl_keep2 | split | refine pairKeep2 (by assumption) ?_ | dsimp only)
theorem State.txTurn_keeps {m : Nat} {s u : State} (h : Keeps m s u) (hm : m &&& 38685626227668133590597633 = 38685626227668133590597633) (sh : Nat) : Keeps m s (State.txTurn u sh) := by
  unfold State.txTurn
  with_reducible repeat' (first | assumption | intro _ | exact sub_mask hm rfl | rfl | apply State.put_keeps | apply State.setLnk_keeps | apply ite_keep | apply foldl_keep | split | dsimp only)
theorem State.linkRetry_keeps {m : Nat} {s u : State} (h : Keeps m s u) (hm : m &&& 38685626227668133590597632 = 38685626227668133590597632) (sh : Nat) : Keeps m s (State.linkRetry u sh) := by
  unfold State.linkRetry
  with_reducible repeat' (first | assumption | intro _ | exact sub_mask hm rfl | rfl | apply State.setLnk_keeps | apply ite_keep | apply foldl_keep | split | dsimp only)
theorem State.sendBlock_keeps {m : Nat} {s u : State} (h : Keeps m s u) (hm : m &&& 316951335683286144407673241601 = 316951335683286144407673241601) (sh : Nat) (t : Int) : Keeps m s (State.sendBlock u sh t) := by
  unfold State.sendBlock
  with_reducible repeat' (first | assumption | intro _ | exact sub_mask hm rfl | rfl | apply State.fillPipe_keeps | apply State.txTurn_keeps | apply State.setLnk_keeps | apply State.emit_keeps | apply ite_keep | apply foldl_keep | split | dsimp only)
theorem State.showXchg_keeps {m : Nat} {s u : State} (h : Keeps m s u) (hm : m &&& 1 = 1) (sh : Nat) : Keeps m s (State.showXchg u sh) := by
  unfold State.showXchg
  with_reducible repeat' (first | assumption | intro _ | exact sub_mask hm rfl | rfl | apply State.put_keeps | apply ite_keep | apply foldl_keep | split | dsimp only)
theorem State.spxCount64_keeps {m : Nat} {s u : State} (h : Keeps m s u) (hm : m &&& 1 = 1) (lo : Reg) (hi : Reg) (n : Nat) : Keeps m s (State.spxCount64 u lo hi n) := by
  unfold State.spxCount64
  with_reducible repeat' (first | assumption | intro _ | exact sub_mask hm rfl | rfl | apply State.wr64_keeps | apply ite_keep | apply foldl_keep | split | dsimp only)
theorem State.substRefused_keeps {m : Nat} {s u : State} (h : Keeps m s u) (hm : m &&& 951975890279633847642465028577 = 951975890279633847642465028577) (sh : Nat) (e : Exchange) (code : Nat) : Keeps m s (State.substRefused u sh e code) := by
  unfold State.substRefused
  with_reducible repeat' (first | assumption | intro _ | exact sub_mask hm rfl | rfl | apply State.put_keeps | apply State.finishCmd_keeps | apply ite_keep | apply foldl_keep | split | dsimp only)
theorem State.spareSleep_keeps {m : Nat} {s u : State} (h : Keeps m s u) (hm : m &&& 1 = 1) (sh : Nat) : Keeps m s (State.spareSleep u sh) := by
  unfold State.spareSleep
  with_reducible repeat' (first | assumption | intro _ | exact sub_mask hm rfl | rfl | apply State.put_keeps | apply ite_keep | apply foldl_keep | split | dsimp only)
theorem State.xchgFail_keeps {m : Nat} {s u : State} (h : Keeps m s u) (hm : m &&& 952014575905861515776055626209 = 952014575905861515776055626209) (sh : Nat) (xcode : Nat) (laneCode : Nat) : Keeps m s (State.xchgFail u sh xcode laneCode) := by
  unfold State.xchgFail
  with_reducible repeat' (first | assumption | intro _ | exact sub_mask hm rfl | rfl | apply State.showXchg_keeps | apply State.put_keeps | apply State.setLnk_keeps | apply State.substRefused_keeps | apply State.raise_keeps | apply State.spareSleep_keeps | apply ite_keep | apply foldl_keep | split | dsimp only)
theorem State.timeLost_keeps {m : Nat} {s u : State} (h : Keeps m s u) (hm : m &&& 316912650057057350374175803881 = 316912650057057350374175803881) (sh : Nat) : Keeps m s (State.timeLost u sh) := by
  unfold State.timeLost
  with_reducible repeat' (first | assumption | intro _ | exact sub_mask hm rfl | rfl | apply State.toHoldover_keeps | apply ite_keep | apply foldl_keep | split | dsimp only)
theorem State.againFail_keeps {m : Nat} {s u : State} (h : Keeps m s u) (hm : m &&& 952014575905861515776055626209 = 952014575905861515776055626209) (sh : Nat) : Keeps m s (State.againFail u sh) := by
  unfold State.againFail
  with_reducible repeat' (first | assumption | intro _ | exact sub_mask hm rfl | rfl | apply State.xchgFail_keeps | apply State.setLnk_keeps | apply ite_keep | apply foldl_keep | split | dsimp only)
theorem State.linkLeave_keeps {m : Nat} {s u : State} (h : Keeps m s u) (hm : m &&& 952014575905861515776055626217 = 952014575905861515776055626217) (sh : Nat) (st : Nat) (own : Bool) : Keeps m s (State.linkLeave u sh st own) := by
  unfold State.linkLeave
  with_reducible repeat' (first | assumption | intro _ | exact sub_mask hm rfl | rfl | apply State.put_keeps | apply State.xchgFail_keeps | apply State.setLnk_keeps | apply State.timeLost_keeps | apply State.raise_keeps | apply State.againFail_keeps | apply ite_keep | apply foldl_keep | split | dsimp only)
theorem State.linkRetrain_keeps {m : Nat} {s u : State} (h : Keeps m s u) (hm : m &&& 952014575905861515776055626217 = 952014575905861515776055626217) (sh : Nat) (own : Bool) : Keeps m s (State.linkRetrain u sh own) := by
  unfold State.linkRetrain
  with_reducible repeat' (first | assumption | intro _ | exact sub_mask hm rfl | rfl | apply State.linkLeave_keeps | apply ite_keep | apply foldl_keep | split | dsimp only)
theorem State.spxCount_keeps {m : Nat} {s u : State} (h : Keeps m s u) (hm : m &&& 316912650057057350374175803873 = 316912650057057350374175803873) (sh : Nat) (r : Reg) (n : Nat) : Keeps m s (State.spxCount u sh r n) := by
  unfold State.spxCount
  with_reducible repeat' (first | assumption | intro _ | exact sub_mask hm rfl | rfl | apply State.bumpSat_keeps | apply ite_keep | apply foldl_keep | split | dsimp only)
theorem State.rxTurn_keeps {m : Nat} {s u : State} (h : Keeps m s u) (hm : m &&& 38685626227668133590597632 = 38685626227668133590597632) (sh : Nat) : Keeps m s (State.rxTurn u sh) := by
  unfold State.rxTurn
  with_reducible repeat' (first | assumption | intro _ | exact sub_mask hm rfl | rfl | apply State.setLnk_keeps | apply ite_keep | apply foldl_keep | split | dsimp only)
theorem State.rxOrder_keeps {m : Nat} {s u : State} (h : Keeps m s u) (hm : m &&& 38685626227668133590597632 = 38685626227668133590597632) (sh : Nat) (a2 : Nat) : Keeps m s (State.rxOrder u sh a2) := by
  induction a2 generalizing u with
  | zero => unfold State.rxOrder; with_reducible repeat' (first | assumption | intro _ | exact sub_mask hm rfl | rfl | apply State.setLnk_keeps | apply State.rxTurn_keeps | apply State.rxFlits_keeps | apply ite_keep | apply foldl_keep | split | dsimp only)
  | succ n ih => unfold State.rxOrder; with_reducible repeat' (first | assumption | apply ih | intro _ | exact sub_mask hm rfl | rfl | apply State.setLnk_keeps | apply State.rxTurn_keeps | apply State.rxFlits_keeps | apply ite_keep | apply foldl_keep | split | dsimp only)
theorem execBlockRx_keeps {m : Nat} {s u : State} (h : Keeps m s u) (hm : m &&& 952014575905861515776055626217 = 952014575905861515776055626217) (sh : Nat) (l : Nat) (i : Nat) (syms : List Nat) : OutKeeps m s (execBlockRx sh l i syms u) := by
  unfold execBlockRx
  with_reducible repeat' (first | assumption | intro _ | exact sub_mask hm rfl | rfl | apply State.spxCount64_keeps | apply State.linkRetrain_keeps | apply State.spxCount_keeps | apply State.setLnk_keeps | apply State.rxOrder_keeps | apply ite_keep | apply foldl_keep | apply outKeep_next | apply ite_outKeep | split | dsimp only)
theorem State.attemptFails_keeps {m : Nat} {s u : State} (h : Keeps m s u) (hm : m &&& 38685626227668133590597632 = 38685626227668133590597632) (sh : Nat) : Keeps m s (State.attemptFails u sh) := by
  unfold State.attemptFails
  with_reducible repeat' (first | assumption | intro _ | exact sub_mask hm rfl | rfl | apply State.setLnk_keeps | apply ite_keep | apply foldl_keep | split | dsimp only)
theorem State.trainRefused_keeps {m : Nat} {s u : State} (h : Keeps m s u) (hm : m &&& 316951335683285018507766401505 = 316951335683285018507766401505) (sh : Nat) (cause : Nat) : Keeps m s (State.trainRefused u sh cause) := by
  unfold State.trainRefused
  with_reducible repeat' (first | assumption | intro _ | exact sub_mask hm rfl | rfl | apply State.put_keeps | apply State.raise_keeps | apply State.setLnk_keeps | apply ite_keep | apply foldl_keep | split | dsimp only)
theorem State.sendCtrl_keeps {m : Nat} {s u : State} (h : Keeps m s u) (hm : m &&& 1125899906842624 = 1125899906842624) (sh : Nat) (msg : Nat) (kind : Nat) (xtag : Nat) (reason : Nat) (lane : Nat) (block : Nat) : Keeps m s (State.sendCtrl u sh msg kind xtag reason lane block) := by
  unfold State.sendCtrl
  with_reducible repeat' (first | assumption | intro _ | exact sub_mask hm rfl | rfl | apply State.sendTx_keeps | apply ite_keep | apply foldl_keep | split | dsimp only)
theorem State.trainStep_keeps {m : Nat} {s u : State} (h : Keeps m s u) (hm : m &&& 316951335683285018507766401505 = 316951335683285018507766401505) (sh : Nat) : Keeps m s (State.trainStep u sh) := by
  unfold State.trainStep
  with_reducible repeat' (first | assumption | intro _ | exact sub_mask hm rfl | rfl | apply State.setLnk_keeps | apply State.attemptFails_keeps | apply State.trainRefused_keeps | apply ite_keep | apply foldl_keep | split | dsimp only)
theorem execTrainingSetRx_keeps {m : Nat} {s u : State} (h : Keeps m s u) (hm : m &&& 316951335683286144407673244129 = 316951335683286144407673244129) (sh : Nat) (l : Nat) (data : List Byte) : OutKeeps m s (execTrainingSetRx sh l data u) := by
  unfold execTrainingSetRx
  with_reducible repeat' (first | assumption | intro _ | exact sub_mask hm rfl | rfl | apply State.attemptFails_keeps | apply State.trainRefused_keeps | apply State.sendCtrl_keeps | apply State.setLnk_keeps | apply State.trainStep_keeps | apply ite_keep | apply foldl_keep | apply outKeep_next | apply ite_outKeep | split | dsimp only)
theorem State.nackNow_keeps {m : Nat} {s u : State} (h : Keeps m s u) (hm : m &&& 38685626227668133590597632 = 38685626227668133590597632) (sh : Nat) : Keeps m s (State.nackNow u sh) := by
  unfold State.nackNow
  with_reducible repeat' (first | assumption | intro _ | exact sub_mask hm rfl | rfl | apply State.setLnk_keeps | apply ite_keep | apply foldl_keep | split | dsimp only)
theorem State.sendTraining_keeps {m : Nat} {s u : State} (h : Keeps m s u) (hm : m &&& 316912650057057350374175801344 = 316912650057057350374175801344) (sh : Nat) : Keeps m s (State.sendTraining u sh) := by
  unfold State.sendTraining
  with_reducible repeat' (first | assumption | intro _ | exact sub_mask hm rfl | rfl | apply State.emit_keeps | apply ite_keep | apply foldl_keep | split | dsimp only)
theorem State.claim_keeps {m : Nat} {s u : State} (h : Keeps m s u) (hm : m &&& 38685626228794033497440257 = 38685626228794033497440257) (sh : Nat) (e : Exchange) : Keeps m s (State.claim u sh e) := by
  unfold State.claim
  with_reducible repeat' (first | assumption | intro _ | exact sub_mask hm rfl | rfl | apply State.showXchg_keeps | apply State.sendCtrl_keeps | apply State.setLnk_keeps | apply ite_keep | apply foldl_keep | split | dsimp only)
theorem State.replayRound_keeps {m : Nat} {s u : State} (h : Keeps m s u) (hm : m &&& 952014575905861515776055626217 = 952014575905861515776055626217) (sh : Nat) (a : Nat) : Keeps m s (State.replayRound u sh a) := by
  unfold State.replayRound
  with_reducible repeat' (first | assumption | intro _ | exact sub_mask hm rfl | rfl | apply State.spxCount_keeps | apply State.setLnk_keeps | apply State.raise_keeps | apply State.linkRetrain_keeps | apply ite_keep | apply foldl_keep | split | dsimp only)
theorem State.nackRx_keeps {m : Nat} {s u : State} (h : Keeps m s u) (hm : m &&& 952014575905861515776055626217 = 952014575905861515776055626217) (sh : Nat) (a : Nat) : Keeps m s (State.nackRx u sh a) := by
  unfold State.nackRx
  with_reducible repeat' (first | assumption | intro _ | exact sub_mask hm rfl | rfl | apply State.replayRound_keeps | apply ite_keep | apply foldl_keep | split | dsimp only)
theorem State.flitAck_keeps {m : Nat} {s u : State} (h : Keeps m s u) (hm : m &&& 952014576053435468365732563433 = 952014576053435468365732563433) (sh : Nat) (l : List Byte) : Keeps m s (State.flitAck u sh l) := by
  unfold State.flitAck
  with_reducible repeat' (first | assumption | intro _ | exact sub_mask hm rfl | rfl | apply State.ackTo_keeps | apply State.setLnk_keeps | apply State.showCrd_keeps | apply State.nackRx_keeps | apply ite_keep | apply foldl_keep | split | dsimp only)
theorem State.relData_keeps {m : Nat} {s u : State} (h : Keeps m s u) (hm : m &&& 38685626227668133590597632 = 38685626227668133590597632) (sh : Nat) : Keeps m s (State.relData u sh) := by
  unfold State.relData
  with_reducible repeat' (first | assumption | intro _ | exact sub_mask hm rfl | rfl | apply State.setLnk_keeps | apply ite_keep | apply foldl_keep | split | dsimp only)
theorem State.rxDiscard_keeps {m : Nat} {s u : State} (h : Keeps m s u) (hm : m &&& 316912650057057350374175803873 = 316912650057057350374175803873) (sh : Nat) : Keeps m s (State.rxDiscard u sh) := by
  unfold State.rxDiscard
  with_reducible repeat' (first | assumption | intro _ | exact sub_mask hm rfl | rfl | apply State.raise_keeps | apply State.spxCount_keeps | apply ite_keep | apply foldl_keep | split | dsimp only)
theorem State.flitTake_keeps {m : Nat} {s u : State} (h : Keeps m s u) (hm : m &&& 952014575905861515776055626217 = 952014575905861515776055626217) (sh : Nat) (l : List Byte) : Keeps m s (State.flitTake u sh l) := by
  unfold State.flitTake
  with_reducible repeat' (first | assumption | intro _ | exact sub_mask hm rfl | rfl | apply State.trainRefused_keeps | apply State.linkRetrain_keeps | apply State.setLnk_keeps | apply State.wn_keeps | apply State.relCtrl_keeps | apply State.spxCount_keeps | apply State.relData_keeps | apply State.rxDiscard_keeps | apply ite_keep | apply foldl_keep | split | dsimp only)
theorem execFlitRx_keeps {m : Nat} {s u : State} (h : Keeps m s u) (hm : m &&& 952014576053435468365732563433 = 952014576053435468365732563433) (sh : Nat) : OutKeeps m s (execFlitRx sh u) := by
  unfold execFlitRx
  with_reducible repeat' (first | assumption | intro _ | exact sub_mask hm rfl | rfl | apply State.setLnk_keeps | apply State.nackNow_keeps | apply State.spxCount_keeps | apply State.flitAck_keeps | apply State.linkRetrain_keeps | apply State.flitTake_keeps | apply ite_keep | apply foldl_keep | apply outKeep_next | apply ite_outKeep | split | dsimp only)
theorem State.linkTrain_keeps {m : Nat} {s u : State} (h : Keeps m s u) (hm : m &&& 952014575905861515776055626217 = 952014575905861515776055626217) (sh : Nat) : Keeps m s (State.linkTrain u sh) := by
  unfold State.linkTrain
  with_reducible repeat' (first | assumption | intro _ | exact sub_mask hm rfl | rfl | apply State.linkLeave_keeps | apply State.draw_keeps | apply State.setLnk_keeps | apply ite_keep | apply foldl_keep | apply ite_keep2 | apply foldl_keep2 | split | refine pairKeep2 (by assumption) ?_ | dsimp only)
theorem State.xchgDone_keeps {m : Nat} {s u : State} (h : Keeps m s u) (hm : m &&& 38685626228794033497440257 = 38685626228794033497440257) (sh : Nat) : Keeps m s (State.xchgDone u sh) := by
  unfold State.xchgDone
  with_reducible repeat' (first | assumption | intro _ | exact sub_mask hm rfl | rfl | apply State.showXchg_keeps | apply State.put_keeps | apply State.setLnk_keeps | apply State.sendCtrl_keeps | apply State.claim_keeps | apply ite_keep | apply foldl_keep | split | dsimp only)
theorem execReplayTimeout_keeps {m : Nat} {s u : State} (h : Keeps m s u) (hm : m &&& 952014575905861515776055626217 = 952014575905861515776055626217) (sh : Nat) : OutKeeps m s (execReplayTimeout sh u) := by
  unfold execReplayTimeout
  with_reducible repeat' (first | assumption | intro _ | exact sub_mask hm rfl | rfl | apply State.replayRound_keeps | apply ite_keep | apply foldl_keep | apply outKeep_next | apply ite_outKeep | split | dsimp only)
theorem State.setPort_keeps {m : Nat} {s u : State} (h : Keeps m s u) (hm : m &&& 4835703278458516698824704 = 4835703278458516698824704) (p : Nat) (x : Port) : Keeps m s (State.setPort u p x) := by
  unfold State.setPort
  with_reducible repeat' (first | assumption | intro _ | exact sub_mask hm rfl | rfl | apply ite_keep | apply foldl_keep | split | dsimp only | apply keep_ports)
theorem State.rewind_keeps {m : Nat} {s u : State} (h : Keeps m s u) (hm : m &&& 9223372036854775808 = 9223372036854775808) (r : Nat) (t : Int) (q : Nat) : Keeps m s (State.rewind u r t q) := by
  unfold State.rewind
  with_reducible repeat' (first | assumption | intro _ | exact sub_mask hm rfl | rfl | apply State.setQue_keeps | apply ite_keep | apply foldl_keep | split | dsimp only)
theorem State.rewindPair_keeps {m : Nat} {s u : State} (h : Keeps m s u) (hm : m &&& 9223372036854775808 = 9223372036854775808) (j : Nat) (r : Nat) : Keeps m s (State.rewindPair u j r) := by
  unfold State.rewindPair
  with_reducible repeat' (first | assumption | intro _ | exact sub_mask hm rfl | rfl | apply State.rewind_keeps | apply ite_keep | apply foldl_keep | split | dsimp only)
theorem State.switchOver_keeps {m : Nat} {s u : State} (h : Keeps m s u) (hm : m &&& 316912650066280722411030579681 = 316912650066280722411030579681) (j : Nat) (r : Nat) (cause : Nat) : Keeps m s (State.switchOver u j r cause) := by
  unfold State.switchOver
  with_reducible repeat' (first | assumption | intro _ | exact sub_mask hm rfl | rfl | apply State.put_keeps | apply State.rewindPair_keeps | apply State.raise_keeps | apply ite_keep | apply foldl_keep | split | dsimp only)
theorem State.sideFail_keeps {m : Nat} {s u : State} (h : Keeps m s u) (hm : m &&& 316917485769559180927729404385 = 316917485769559180927729404385) (p : Nat) (cause : Nat) : Keeps m s (State.sideFail u p cause) := by
  unfold State.sideFail
  with_reducible repeat' (first | assumption | intro _ | exact sub_mask hm rfl | rfl | apply State.put_keeps | apply State.setPort_keeps | apply State.raise_keeps | apply State.switchOver_keeps | apply ite_keep | apply foldl_keep | split | dsimp only)
theorem State.etherLoss_keeps {m : Nat} {s u : State} (h : Keeps m s u) (hm : m &&& 316917485769559180927729404385 = 316917485769559180927729404385) (sh : Nat) (l : Nat) (cause : Nat) : Keeps m s (State.etherLoss u sh l cause) := by
  unfold State.etherLoss
  with_reducible repeat' (first | assumption | intro _ | exact sub_mask hm rfl | rfl | apply State.sideFail_keeps | apply ite_keep | apply foldl_keep | split | dsimp only)
theorem State.mirrorBack_keeps {m : Nat} {s u : State} (h : Keeps m s u) (hm : m &&& 316912650066280722411030579681 = 316912650066280722411030579681) (r : Nat) (q : Nat) : Keeps m s (State.mirrorBack u r q) := by
  unfold State.mirrorBack
  with_reducible repeat' (first | assumption | intro _ | exact sub_mask hm rfl | rfl | apply State.raise_keeps | apply State.setQue_keeps | apply ite_keep | apply foldl_keep | split | dsimp only)
theorem State.sideRestore_keeps {m : Nat} {s u : State} (h : Keeps m s u) (hm : m &&& 316917485769559180927729404385 = 316917485769559180927729404385) (p : Nat) : Keeps m s (State.sideRestore u p) := by
  unfold State.sideRestore
  with_reducible repeat' (first | assumption | intro _ | exact sub_mask hm rfl | rfl | apply State.raise_keeps | apply State.put_keeps | apply State.rewindPair_keeps | apply State.mirrorBack_keeps | apply State.setPort_keeps | apply ite_keep | apply foldl_keep | split | dsimp only)
theorem State.heartbeat_keeps {m : Nat} {s u : State} (h : Keeps m s u) (hm : m &&& 316917485769559180927729404385 = 316917485769559180927729404385) (p : Nat) (data : List Byte) : Keeps m s (State.heartbeat u p data) := by
  unfold State.heartbeat
  with_reducible repeat' (first | assumption | intro _ | exact sub_mask hm rfl | rfl | apply State.sideRestore_keeps | apply State.setPort_keeps | apply ite_keep | apply foldl_keep | split | dsimp only)
theorem State.portDown_keeps {m : Nat} {s u : State} (h : Keeps m s u) (hm : m &&& 316917485760335808890874628577 = 316917485760335808890874628577) (cause : Nat) (p : Nat) : Keeps m s (State.portDown u cause p) := by
  unfold State.portDown
  with_reducible repeat' (first | assumption | intro _ | exact sub_mask hm rfl | rfl | apply State.raise_keeps | apply State.put_keeps | apply State.setPort_keeps | apply ite_keep | apply foldl_keep | split | dsimp only)
theorem execPcsFault_keeps {m : Nat} {s u : State} (h : Keeps m s u) (hm : m &&& 316917485760335808890874628577 = 316917485760335808890874628577) (p : Nat) (kind : Nat) : OutKeeps m s (execPcsFault p kind u) := by
  unfold execPcsFault
  with_reducible repeat' (first | assumption | intro _ | exact sub_mask hm rfl | rfl | apply State.portDown_keeps | apply State.raise_keeps | apply State.setPort_keeps | apply State.emit_keeps | apply ite_keep | apply foldl_keep | apply outKeep_next | apply ite_outKeep | split | dsimp only)
theorem State.sendUdp_keeps {m : Nat} {s u : State} (h : Keeps m s u) (hm : m &&& 316912650057057350374175801344 = 316912650057057350374175801344) (p : Nat) (ad : List Byte) (pt : List Byte) (sport : Nat) (dport : Nat) (dscp : Nat) (data : List Byte) : Keeps m s (State.sendUdp u p ad pt sport dport dscp data) := by
  unfold State.sendUdp
  with_reducible repeat' (first | assumption | intro _ | exact sub_mask hm rfl | rfl | apply State.emit_keeps | apply ite_keep | apply foldl_keep | split | dsimp only)
theorem State.sendPkt_keeps {m : Nat} {s u : State} (h : Keeps m s u) (hm : m &&& 316912650066280722411030577152 = 316912650066280722411030577152) (q : Nat) (r : Nat) (p : Pkt) : Keeps m s (State.sendPkt u q r p) := by
  unfold State.sendPkt
  with_reducible repeat' (first | assumption | intro _ | exact sub_mask hm rfl | rfl | apply State.setQue_keeps | apply State.sendUdp_keeps | apply ite_keep | apply foldl_keep | split | dsimp only)
theorem State.freeAbandoned_keeps {m : Nat} {s u : State} (h : Keeps m s u) (hm : m &&& 316912650089339152571886995937 = 316912650089339152571886995937) (q : Nat) (r : Nat) : Keeps m s (State.freeAbandoned u q r) := by
  unfold State.freeAbandoned
  with_reducible repeat' (first | assumption | intro _ | exact sub_mask hm rfl | rfl | apply State.showQue_keeps | apply State.freePlots_keeps | apply State.setQue_keeps | apply ite_keep | apply foldl_keep | split | dsimp only)
theorem State.mirrorLag_keeps {m : Nat} {s u : State} (h : Keeps m s u) (hm : m &&& 316912650089339152571886995937 = 316912650089339152571886995937) (q : Nat) (r : Nat) (seq : Nat) : Keeps m s (State.mirrorLag u q r seq) := by
  unfold State.mirrorLag
  with_reducible repeat' (first | assumption | intro _ | exact sub_mask hm rfl | rfl | apply State.raise_keeps | apply State.setQue_keeps | apply State.freeAbandoned_keeps | apply ite_keep | apply foldl_keep | split | dsimp only)
theorem State.sideFresh_keeps {m : Nat} {s u : State} (h : Keeps m s u) (hm : m &&& 316917485769559180927729404385 = 316917485769559180927729404385) (j : Nat) (r : Nat) : Keeps m s (State.sideFresh u j r) := by
  unfold State.sideFresh
  with_reducible repeat' (first | assumption | intro _ | exact sub_mask hm rfl | rfl | apply State.put_keeps | apply State.setPort_keeps | apply State.sideFail_keeps | apply ite_keep | apply foldl_keep | split | dsimp only)
theorem State.sideWrite_keeps {m : Nat} {s u : State} (h : Keeps m s u) (hm : m &&& 316912650066280722411030579681 = 316912650066280722411030579681) (j : Nat) (r : Nat) : Keeps m s (State.sideWrite u j r) := by
  unfold State.sideWrite
  with_reducible repeat' (first | assumption | intro _ | exact sub_mask hm rfl | rfl | apply State.rewindPair_keeps | apply State.raise_keeps | apply State.put_keeps | apply ite_keep | apply foldl_keep | split | dsimp only)
theorem State.pairWrite_keeps {m : Nat} {s u : State} (h : Keeps m s u) (hm : m &&& 316917485769559180927729404385 = 316917485769559180927729404385) (j : Nat) (w : Wr) : Keeps m s (State.pairWrite u j w) := by
  unfold State.pairWrite
  with_reducible repeat' (first | assumption | intro _ | exact sub_mask hm rfl | rfl | apply State.raise_keeps | apply State.mergeRaw_keeps | apply State.sideFresh_keeps | apply State.sideWrite_keeps | apply ite_keep | apply foldl_keep | split | dsimp only)
theorem State.portRise_keeps {m : Nat} {s u : State} (h : Keeps m s u) (hm : m &&& 316917485769559180927729404385 = 316917485769559180927729404385) (p : Nat) : Keeps m s (State.portRise u p) := by
  unfold State.portRise
  with_reducible repeat' (first | assumption | intro _ | exact sub_mask hm rfl | rfl | apply State.raise_keeps | apply State.put_keeps | apply State.sideRestore_keeps | apply ite_keep | apply foldl_keep | split | dsimp only)
theorem execPcsFaultClear_keeps {m : Nat} {s u : State} (h : Keeps m s u) (hm : m &&& 316917485769559180927729404385 = 316917485769559180927729404385) (p : Nat) : OutKeeps m s (execPcsFaultClear p u) := by
  unfold execPcsFaultClear
  with_reducible repeat' (first | assumption | intro _ | exact sub_mask hm rfl | rfl | apply State.portRise_keeps | apply State.setPort_keeps | apply State.emit_keeps | apply ite_keep | apply foldl_keep | apply outKeep_next | apply ite_outKeep | split | dsimp only)
theorem State.etherNarrow_keeps {m : Nat} {s u : State} (h : Keeps m s u) (hm : m &&& 316917485760335808890874628577 = 316917485760335808890874628577) (sh : Nat) : Keeps m s (State.etherNarrow u sh) := by
  unfold State.etherNarrow
  with_reducible repeat' (first | assumption | intro _ | exact sub_mask hm rfl | rfl | apply State.raise_keeps | apply State.put_keeps | apply State.setPort_keeps | apply State.portDown_keeps | apply ite_keep | apply foldl_keep | split | dsimp only)
theorem State.sendHeartbeat_keeps {m : Nat} {s u : State} (h : Keeps m s u) (hm : m &&& 316917485760335808890874626048 = 316917485760335808890874626048) (p : Nat) : Keeps m s (State.sendHeartbeat u p) := by
  unfold State.sendHeartbeat
  with_reducible repeat' (first | assumption | intro _ | exact sub_mask hm rfl | rfl | apply State.setPort_keeps | apply State.sendUdp_keeps | apply ite_keep | apply foldl_keep | split | dsimp only)
theorem execHeartbeatTx_keeps {m : Nat} {s u : State} (h : Keeps m s u) (hm : m &&& 316917485760335808890874626048 = 316917485760335808890874626048) : OutKeeps m s (execHeartbeatTx u) := by
  unfold execHeartbeatTx
  with_reducible repeat' (first | assumption | intro _ | exact sub_mask hm rfl | rfl | apply State.sendHeartbeat_keeps | apply ite_keep | apply foldl_keep | apply outKeep_next | apply ite_outKeep | split | dsimp only)
theorem State.formPkt_keeps {m : Nat} {s u : State} (h : Keeps m s u) (hm : m &&& 9223372036854775808 = 9223372036854775808) (q : Nat) (most : Nat) : Keeps m s (State.formPkt u q most).2 := by
  unfold State.formPkt
  with_reducible repeat' (first | assumption | intro _ | exact sub_mask hm rfl | rfl | apply State.setQue_keeps | apply ite_keep | apply foldl_keep | apply ite_keep2 | apply foldl_keep2 | split | dsimp only)
theorem State.nextPkt_keeps {m : Nat} {s u : State} (h : Keeps m s u) (hm : m &&& 9223372036854775808 = 9223372036854775808) (q : Nat) (r : Nat) : Keeps m s (State.nextPkt u q r).2 := by
  unfold State.nextPkt
  with_reducible repeat' (first | assumption | intro _ | exact sub_mask hm rfl | rfl | apply State.formPkt_keeps | apply ite_keep | apply foldl_keep | apply ite_keep2 | apply foldl_keep2 | split | refine pairKeep2 (by assumption) ?_ | dsimp only)
theorem State.etherDown_keeps {m : Nat} {s u : State} (h : Keeps m s u) (hm : m &&& 316917485760335808890874628577 = 316917485760335808890874628577) (sh : Nat) : Keeps m s (State.etherDown u sh) := by
  unfold State.etherDown
  with_reducible repeat' (first | assumption | intro _ | exact sub_mask hm rfl | rfl | apply State.portDown_keeps | apply ite_keep | apply foldl_keep | split | dsimp only)
theorem execHeartbeatRx_keeps {m : Nat} {s u : State} (h : Keeps m s u) (hm : m &&& 316917485769559180927729404385 = 316917485769559180927729404385) (p : Nat) (data : List Byte) : OutKeeps m s (execHeartbeatRx p data u) := by
  unfold execHeartbeatRx
  with_reducible repeat' (first | assumption | intro _ | exact sub_mask hm rfl | rfl | apply State.heartbeat_keeps | apply ite_keep | apply foldl_keep | apply outKeep_next | apply ite_outKeep | split | dsimp only)
theorem execHeartbeatTimeout_keeps {m : Nat} {s u : State} (h : Keeps m s u) (hm : m &&& 316917485769559180927729404385 = 316917485769559180927729404385) (p : Nat) : OutKeeps m s (execHeartbeatTimeout p u) := by
  unfold execHeartbeatTimeout
  with_reducible repeat' (first | assumption | intro _ | exact sub_mask hm rfl | rfl | apply State.sideFail_keeps | apply State.setPort_keeps | apply ite_keep | apply foldl_keep | apply outKeep_next | apply ite_outKeep | split | dsimp only)
theorem State.pairRegWrite_keeps {m : Nat} {s u : State} (h : Keeps m s u) (hm : m &&& 316917485769559180927729404385 = 316917485769559180927729404385) (j : Nat) (w : Wr) : Keeps m s (State.pairRegWrite u j w) := by
  unfold State.pairRegWrite
  with_reducible repeat' (first | assumption | intro _ | exact sub_mask hm rfl | rfl | apply State.pairWrite_keeps | apply State.raise_keeps | apply ite_keep | apply foldl_keep | split | dsimp only)
theorem execRouteSideWrite_keeps {m : Nat} {s u : State} (h : Keeps m s u) (hm : m &&& 316917485769559180927729404905 = 316917485769559180927729404905) (j : Nat) (w : Wr) : OutKeeps m s (execRouteSideWrite j w u) := by
  unfold execRouteSideWrite
  with_reducible repeat' (first | assumption | intro _ | exact sub_mask hm rfl | rfl | apply State.pfOnly_keeps | apply State.pairRegWrite_keeps | apply ite_keep | apply foldl_keep | apply outKeep_next | apply ite_outKeep | split | dsimp only)
theorem execPortFaultHeld_keeps {m : Nat} {s u : State} (h : Keeps m s u) (hm : m &&& 316917485769559180927729404385 = 316917485769559180927729404385) (p : Nat) : OutKeeps m s (execPortFaultHeld p u) := by
  unfold execPortFaultHeld
  with_reducible repeat' (first | assumption | intro _ | exact sub_mask hm rfl | rfl | apply State.sideFail_keeps | apply State.setPort_keeps | apply ite_keep | apply foldl_keep | apply outKeep_next | apply ite_outKeep | split | dsimp only)
theorem State.releasePkts_keeps {m : Nat} {s u : State} (h : Keeps m s u) (hm : m &&& 950737950387921294057334639073 = 950737950387921294057334639073) (q : Nat) (a2 : Nat) : Keeps m s (State.releasePkts u q a2) := by
  induction a2 generalizing u with
  | zero => unfold State.releasePkts; with_reducible repeat' (first | assumption | intro _ | exact sub_mask hm rfl | rfl | apply State.readQue_keeps | apply State.setQue_keeps | apply ite_keep | apply foldl_keep | split | dsimp only)
  | succ n ih => unfold State.releasePkts; with_reducible repeat' (first | assumption | apply ih | intro _ | exact sub_mask hm rfl | rfl | apply State.readQue_keeps | apply State.setQue_keeps | apply ite_keep | apply foldl_keep | split | dsimp only)
theorem State.ethCount_keeps {m : Nat} {s u : State} (h : Keeps m s u) (hm : m &&& 316912650057057350374175803873 = 316912650057057350374175803873) (r : Reg) (p : Nat) (n : Nat) : Keeps m s (State.ethCount u r p n) := by
  unfold State.ethCount
  with_reducible repeat' (first | assumption | intro _ | exact sub_mask hm rfl | rfl | apply State.bumpSat_keeps | apply ite_keep | apply foldl_keep | split | dsimp only)
theorem execRewindExpiry_keeps {m : Nat} {s u : State} (h : Keeps m s u) (hm : m &&& 950737950387921294057334639073 = 950737950387921294057334639073) (q : Nat) : OutKeeps m s (execRewindExpiry q u) := by
  unfold execRewindExpiry
  with_reducible repeat' (first | assumption | intro _ | exact sub_mask hm rfl | rfl | apply State.releasePkts_keeps | apply ite_keep | apply foldl_keep | apply outKeep_next | apply ite_outKeep | split | dsimp only)
theorem State.etherUp_keeps {m : Nat} {s u : State} (h : Keeps m s u) (hm : m &&& 316917485769559180927729404385 = 316917485769559180927729404385) (sh : Nat) : Keeps m s (State.etherUp u sh) := by
  unfold State.etherUp
  with_reducible repeat' (first | assumption | intro _ | exact sub_mask hm rfl | rfl | apply State.portRise_keeps | apply ite_keep | apply foldl_keep | split | dsimp only)
theorem execXchgTimeout_keeps {m : Nat} {s u : State} (h : Keeps m s u) (hm : m &&& 952014575905861515776055626209 = 952014575905861515776055626209) (sh : Nat) : OutKeeps m s (execXchgTimeout sh u) := by
  unfold execXchgTimeout
  with_reducible repeat' (first | assumption | intro _ | exact sub_mask hm rfl | rfl | apply State.xchgFail_keeps | apply ite_keep | apply foldl_keep | apply outKeep_next | apply ite_outKeep | split | dsimp only)
theorem execPrbsLock_keeps {m : Nat} {s u : State} (h : Keeps m s u) (hm : m &&& 316912650057057350374175803873 = 316912650057057350374175803873) (sh : Nat) (l : Nat) (inv : Bool) : OutKeeps m s (execPrbsLock sh l inv u) := by
  unfold execPrbsLock
  with_reducible repeat' (first | assumption | intro _ | exact sub_mask hm rfl | rfl | apply State.put_keeps | apply State.raise_keeps | apply ite_keep | apply foldl_keep | apply outKeep_next | apply ite_outKeep | split | dsimp only)
theorem State.losTo_keeps {m : Nat} {s u : State} (h : Keeps m s u) (hm : m &&& 2417851639229258349412353 = 2417851639229258349412353) (sh : Nat) (l : Nat) (v : Nat) : Keeps m s (State.losTo u sh l v) := by
  unfold State.losTo
  with_reducible repeat' (first | assumption | intro _ | exact sub_mask hm rfl | rfl | apply State.put_keeps | apply State.setSheet_keeps | apply ite_keep | apply foldl_keep | split | dsimp only)
theorem execLaneLosClear_keeps {m : Nat} {s u : State} (h : Keeps m s u) (hm : m &&& 2417851639229258349412353 = 2417851639229258349412353) (sh : Nat) (l : Nat) : OutKeeps m s (execLaneLosClear sh l u) := by
  unfold execLaneLosClear
  with_reducible repeat' (first | assumption | intro _ | exact sub_mask hm rfl | rfl | apply State.losTo_keeps | apply ite_keep | apply foldl_keep | apply outKeep_next | apply ite_outKeep | split | dsimp only)
theorem State.switchNow_keeps {m : Nat} {s u : State} (h : Keeps m s u) (hm : m &&& 38685626228794033497440256 = 38685626228794033497440256) (sh : Nat) : Keeps m s (State.switchNow u sh) := by
  unfold State.switchNow
  with_reducible repeat' (first | assumption | intro _ | exact sub_mask hm rfl | rfl | apply State.sendCtrl_keeps | apply State.setLnk_keeps | apply ite_keep | apply foldl_keep | split | dsimp only)
theorem State.startAttempt_keeps {m : Nat} {s u : State} (h : Keeps m s u) (hm : m &&& 2417851639229258349412353 = 2417851639229258349412353) (sh : Nat) : Keeps m s (State.startAttempt u sh) := by
  unfold State.startAttempt
  with_reducible repeat' (first | assumption | intro _ | exact sub_mask hm rfl | rfl | apply State.setSheet_keeps | apply State.put_keeps | apply State.stageTo_keeps | apply ite_keep | apply foldl_keep | split | dsimp only)
theorem State.sheetDrop_keeps {m : Nat} {s u : State} (h : Keeps m s u) (hm : m &&& 952021829460779203551103863273 = 952021829460779203551103863273) (sh : Nat) (l : Nat) (own : Bool) : Keeps m s (State.sheetDrop u sh l own) := by
  unfold State.sheetDrop
  with_reducible repeat' (first | assumption | intro _ | exact sub_mask hm rfl | rfl | apply State.put_keeps | apply State.setSheet_keeps | apply State.raise_keeps | apply State.laneCount_keeps | apply State.etherDown_keeps | apply State.linkTrain_keeps | apply State.startAttempt_keeps | apply ite_keep | apply foldl_keep | split | dsimp only)
theorem State.subst_keeps {m : Nat} {s u : State} (h : Keeps m s u) (hm : m &&& 952021829460779203551103863273 = 952021829460779203551103863273) (sh : Nat) (k0 : Nat) (pol : Bool) (action : Option Nat) : Keeps m s (State.subst u sh k0 pol action).2 := by
  unfold State.subst
  with_reducible repeat' (first | assumption | intro _ | exact sub_mask hm rfl | rfl | apply State.put_keeps | apply State.refuseDom_keeps | apply State.claim_keeps | apply State.sheetDrop_keeps | apply State.spareIn_keeps | apply State.wakeSpare_keeps | apply State.startAttempt_keeps | apply ite_keep | apply foldl_keep | apply ite_keep2 | apply foldl_keep2 | split | dsimp only)
theorem State.narrowBy_keeps {m : Nat} {s u : State} (h : Keeps m s u) (hm : m &&& 952021829460779203551103863273 = 952021829460779203551103863273) (sh : Nat) (l : Nat) (pol : Bool) : Keeps m s (State.narrowBy u sh l pol) := by
  unfold State.narrowBy
  with_reducible repeat' (first | assumption | intro _ | exact sub_mask hm rfl | rfl | apply State.narrowMap_keeps | apply State.spareExhausted_keeps | apply State.etherNarrow_keeps | apply State.sheetDrop_keeps | apply State.startAttempt_keeps | apply State.linkTrain_keeps | apply ite_keep | apply foldl_keep | split | dsimp only)
theorem State.laneReplace_keeps {m : Nat} {s u : State} (h : Keeps m s u) (hm : m &&& 952021829460779203551103863273 = 952021829460779203551103863273) (sh : Nat) (l : Nat) : Keeps m s (State.laneReplace u sh l) := by
  unfold State.laneReplace
  with_reducible repeat' (first | assumption | intro _ | exact sub_mask hm rfl | rfl | apply State.spareExhausted_keeps | apply State.subst_keeps | apply State.narrowBy_keeps | apply ite_keep | apply foldl_keep | apply ite_keep2 | apply foldl_keep2 | split | refine pairKeep2 (by assumption) ?_ | dsimp only)
theorem State.laneFail_keeps {m : Nat} {s u : State} (h : Keeps m s u) (hm : m &&& 952021829460779203551103863273 = 952021829460779203551103863273) (sh : Nat) (l : Nat) : Keeps m s (State.laneFail u sh l) := by
  unfold State.laneFail
  with_reducible repeat' (first | assumption | intro _ | exact sub_mask hm rfl | rfl | apply State.laneReplace_keeps | apply State.raise_keeps | apply State.put_keeps | apply ite_keep | apply foldl_keep | split | dsimp only)
theorem State.bringupFail_keeps {m : Nat} {s u : State} (h : Keeps m s u) (hm : m &&& 952021829460779203551103863273 = 952021829460779203551103863273) (sh : Nat) (stage : Nat) : Keeps m s (State.bringupFail u sh stage) := by
  unfold State.bringupFail
  with_reducible repeat' (first | assumption | intro _ | exact sub_mask hm rfl | rfl | apply State.put_keeps | apply State.laneCount_keeps | apply State.raise_keeps | apply State.setSheet_keeps | apply State.laneTo_keeps | apply State.attemptFails_keeps | apply State.laneFail_keeps | apply ite_keep | apply foldl_keep | split | dsimp only)
theorem execSheetUp_keeps {m : Nat} {s u : State} (h : Keeps m s u) (hm : m &&& 952021829460779203551103863273 = 952021829460779203551103863273) (sh : Nat) (skew : Nat) : OutKeeps m s (execSheetUp sh skew u) := by
  unfold execSheetUp
  with_reducible repeat' (first | assumption | intro _ | exact sub_mask hm rfl | rfl | apply State.bringupFail_keeps | apply State.put_keeps | apply State.setMap_keeps | apply State.raise_keeps | apply State.setSheet_keeps | apply State.etherUp_keeps | apply ite_keep | apply foldl_keep | apply outKeep_next | apply ite_outKeep | split | dsimp only)
theorem execBringupRetry_keeps {m : Nat} {s u : State} (h : Keeps m s u) (hm : m &&& 2417851639229258349412353 = 2417851639229258349412353) (sh : Nat) : OutKeeps m s (execBringupRetry sh u) := by
  unfold execBringupRetry
  with_reducible repeat' (first | assumption | intro _ | exact sub_mask hm rfl | rfl | apply State.startAttempt_keeps | apply ite_keep | apply foldl_keep | apply outKeep_next | apply ite_outKeep | split | dsimp only)
theorem execTrainBackoffEnd_keeps {m : Nat} {s u : State} (h : Keeps m s u) (hm : m &&& 41103477866897391940009985 = 41103477866897391940009985) (sh : Nat) : OutKeeps m s (execTrainBackoffEnd sh u) := by
  unfold execTrainBackoffEnd
  with_reducible repeat' (first | assumption | intro _ | exact sub_mask hm rfl | rfl | apply State.linkRetry_keeps | apply State.startAttempt_keeps | apply ite_keep | apply foldl_keep | apply outKeep_next | apply ite_outKeep | split | dsimp only)
theorem State.sheetStop_keeps {m : Nat} {s u : State} (h : Keeps m s u) (hm : m &&& 952021829460779203551103863273 = 952021829460779203551103863273) (sh : Nat) : Keeps m s (State.sheetStop u sh) := by
  unfold State.sheetStop
  with_reducible repeat' (first | assumption | intro _ | exact sub_mask hm rfl | rfl | apply State.put_keeps | apply State.setSheet_keeps | apply State.laneTo_keeps | apply State.etherDown_keeps | apply State.linkLeave_keeps | apply ite_keep | apply foldl_keep | split | dsimp only)
theorem execLaneDetectDone_keeps {m : Nat} {s u : State} (h : Keeps m s u) (hm : m &&& 2417851639229258349412353 = 2417851639229258349412353) (sh : Nat) (l : Nat) : OutKeeps m s (execLaneDetectDone sh l u) := by
  unfold execLaneDetectDone
  with_reducible repeat' (first | assumption | intro _ | exact sub_mask hm rfl | rfl | apply State.stageTo_keeps | apply ite_keep | apply foldl_keep | apply outKeep_next | apply ite_outKeep | split | dsimp only)
theorem State.sheetWake_keeps {m : Nat} {s u : State} (h : Keeps m s u) (hm : m &&& 1 = 1) (sh : Nat) : Keeps m s (State.sheetWake u sh) := by
  unfold State.sheetWake
  with_reducible repeat' (first | assumption | intro _ | exact sub_mask hm rfl | rfl | apply State.put_keeps | apply ite_keep | apply foldl_keep | split | dsimp only)
theorem execLaneLockDone_keeps {m : Nat} {s u : State} (h : Keeps m s u) (hm : m &&& 2417851639229258349412353 = 2417851639229258349412353) (sh : Nat) (l : Nat) : OutKeeps m s (execLaneLockDone sh l u) := by
  unfold execLaneLockDone
  with_reducible repeat' (first | assumption | intro _ | exact sub_mask hm rfl | rfl | apply State.put_keeps | apply State.stageTo_keeps | apply ite_keep | apply foldl_keep | apply outKeep_next | apply ite_outKeep | split | dsimp only)
theorem execEyeMeasure_keeps {m : Nat} {s u : State} (h : Keeps m s u) (hm : m &&& 952021829460779203551103863273 = 952021829460779203551103863273) (sh : Nat) (l : Nat) (v : Nat) (h0 : Nat) : OutKeeps m s (execEyeMeasure sh l v h0 u) := by
  unfold execEyeMeasure
  with_reducible repeat' (first | assumption | intro _ | exact sub_mask hm rfl | rfl | apply State.put_keeps | apply State.setSheet_keeps | apply State.raise_keeps | apply State.laneFail_keeps | apply ite_keep | apply foldl_keep | apply outKeep_next | apply ite_outKeep | split | dsimp only)
theorem State.spareFails_keeps {m : Nat} {s u : State} (h : Keeps m s u) (hm : m &&& 952014575905861515776055626209 = 952014575905861515776055626209) (sh : Nat) (e : Exchange) : Keeps m s (State.spareFails u sh e) := by
  unfold State.spareFails
  with_reducible repeat' (first | assumption | intro _ | exact sub_mask hm rfl | rfl | apply State.put_keeps | apply State.showXchg_keeps | apply State.setLnk_keeps | apply State.substRefused_keeps | apply State.sendCtrl_keeps | apply State.spareSleep_keeps | apply ite_keep | apply foldl_keep | split | dsimp only)
theorem execBringupStageTimeout_keeps {m : Nat} {s u : State} (h : Keeps m s u) (hm : m &&& 952021829460779203551103863273 = 952021829460779203551103863273) (sh : Nat) (l : Nat) : OutKeeps m s (execBringupStageTimeout sh l u) := by
  unfold execBringupStageTimeout
  with_reducible repeat' (first | assumption | intro _ | exact sub_mask hm rfl | rfl | apply State.spareFails_keeps | apply State.bringupFail_keeps | apply ite_keep | apply foldl_keep | apply outKeep_next | apply ite_outKeep | split | dsimp only)
theorem State.takeCtl_keeps {m : Nat} {s u : State} (h : Keeps m s u) (hm : m &&& 38685626227668133590597632 = 38685626227668133590597632) (sh : Nat) (msg : Nat) : OptKeeps2 m s (State.takeCtl u sh msg) := by
  unfold State.takeCtl
  with_reducible repeat' (first | assumption | intro _ | exact sub_mask hm rfl | rfl | apply State.relCtrl_keeps | apply State.setLnk_keeps | apply ite_keep | apply foldl_keep | apply ite_keep2 | apply foldl_keep2 | apply ite_optKeep | apply optKeep2_some | apply optKeep2_none | split | dsimp only)
theorem State.claimAgain_keeps {m : Nat} {s u : State} (h : Keeps m s u) (hm : m &&& 38685626228794033497440257 = 38685626228794033497440257) (sh : Nat) : Keeps m s (State.claimAgain u sh) := by
  unfold State.claimAgain
  with_reducible repeat' (first | assumption | intro _ | exact sub_mask hm rfl | rfl | apply State.claim_keeps | apply State.setLnk_keeps | apply ite_keep | apply foldl_keep | split | dsimp only)
theorem execDoneRx_keeps {m : Nat} {s u : State} (h : Keeps m s u) (hm : m &&& 38685626228794033497440257 = 38685626228794033497440257) (sh : Nat) : OutKeeps m s (execDoneRx sh u) := by
  unfold execDoneRx
  with_reducible repeat' (first | assumption | intro _ | exact sub_mask hm rfl | rfl | apply State.takeCtl_keeps | apply State.showXchg_keeps | apply State.setLnk_keeps | apply State.spareSleep_keeps | apply State.claimAgain_keeps | apply ite_keep | apply foldl_keep | apply ite_keep2 | apply foldl_keep2 | apply outKeep_next | apply ite_outKeep | split | refine optKeep2_get (by assumption) ?_ | dsimp only)
theorem State.xchgSettle_keeps {m : Nat} {s u : State} (h : Keeps m s u) (hm : m &&& 952014575905861515776055626209 = 952014575905861515776055626209) (sh : Nat) : Keeps m s (State.xchgSettle u sh) := by
  unfold State.xchgSettle
  with_reducible repeat' (first | assumption | intro _ | exact sub_mask hm rfl | rfl | apply State.spareIn_keeps | apply State.put_keeps | apply State.finishCmd_keeps | apply State.xchgDone_keeps | apply State.showXchg_keeps | apply State.setLnk_keeps | apply ite_keep | apply foldl_keep | split | dsimp only)
theorem State.prbsClear_keeps {m : Nat} {s u : State} (h : Keeps m s u) (hm : m &&& 1 = 1) (sh : Nat) (l : Nat) : Keeps m s (State.prbsClear u sh l) := by
  unfold State.prbsClear
  with_reducible repeat' (first | assumption | intro _ | exact sub_mask hm rfl | rfl | apply State.wr64_keeps | apply ite_keep | apply foldl_keep | split | dsimp only)
theorem State.genStart_keeps {m : Nat} {s u : State} (h : Keeps m s u) (hm : m &&& 316912650057057350374175801344 = 316912650057057350374175801344) (sh : Nat) (l : Nat) : Keeps m s (State.genStart u sh l) := by
  unfold State.genStart
  with_reducible repeat' (first | assumption | intro _ | exact sub_mask hm rfl | rfl | apply State.emit_keeps | apply ite_keep | apply foldl_keep | split | dsimp only)
theorem State.prbsWrite_keeps {m : Nat} {s u : State} (h : Keeps m s u) (hm : m &&& 316912650057057350442895280609 = 316912650057057350442895280609) (sh : Nat) (l : Nat) (w : Wr) : Keeps m s (State.prbsWrite u sh l w) := by
  unfold State.prbsWrite
  with_reducible repeat' (first | assumption | intro _ | exact sub_mask hm rfl | rfl | apply State.mergeRaw_keeps | apply State.put_keeps | apply State.prbsClear_keeps | apply State.emit_keeps | apply State.genStart_keeps | apply State.refuseDom_keeps | apply ite_keep | apply foldl_keep | split | dsimp only)
theorem execPrbsClr_keeps {m : Nat} {s u : State} (h : Keeps m s u) (hm : m &&& 316912650057057350442895281129 = 316912650057057350442895281129) (sh : Nat) (l : Nat) (w : Wr) : OutKeeps m s (execPrbsClr sh l w u) := by
  unfold execPrbsClr
  with_reducible repeat' (first | assumption | intro _ | exact sub_mask hm rfl | rfl | apply State.pfOnly_keeps | apply State.prbsWrite_keeps | apply ite_keep | apply foldl_keep | apply outKeep_next | apply ite_outKeep | split | dsimp only)
theorem State.sheetStart_keeps {m : Nat} {s u : State} (h : Keeps m s u) (hm : m &&& 952016993757500745034405038569 = 952016993757500745034405038569) (sh : Nat) (r : Nat) : Keeps m s (State.sheetStart u sh r).2 := by
  unfold State.sheetStart
  with_reducible repeat' (first | assumption | intro _ | exact sub_mask hm rfl | rfl | apply State.put_keeps | apply State.refuseDom_keeps | apply State.setSheet_keeps | apply State.startAttempt_keeps | apply State.linkTrain_keeps | apply ite_keep | apply foldl_keep | apply ite_keep2 | apply foldl_keep2 | split | dsimp only)
theorem State.narrow_keeps {m : Nat} {s u : State} (h : Keeps m s u) (hm : m &&& 952021829460779203551103863273 = 952021829460779203551103863273) (sh : Nat) (k0 : Nat) : Keeps m s (State.narrow u sh k0).2 := by
  unfold State.narrow
  with_reducible repeat' (first | assumption | intro _ | exact sub_mask hm rfl | rfl | apply State.put_keeps | apply State.refuseDom_keeps | apply State.narrowBy_keeps | apply ite_keep | apply foldl_keep | apply ite_keep2 | apply foldl_keep2 | split | dsimp only)
theorem State.sheetCtlWrite_keeps {m : Nat} {s u : State} (h : Keeps m s u) (hm : m &&& 952021829460779203551103863273 = 952021829460779203551103863273) (sh : Nat) (w : Wr) : Keeps m s (State.sheetCtlWrite u sh w) := by
  unfold State.sheetCtlWrite
  with_reducible repeat' (first | assumption | intro _ | exact sub_mask hm rfl | rfl | apply State.raise_keeps | apply State.sheetStop_keeps | apply State.sheetStart_keeps | apply State.narrow_keeps | apply State.subst_keeps | apply State.mergeRaw_keeps | apply ite_keep | apply foldl_keep | apply ite_keep2 | apply foldl_keep2 | split | refine pairKeep2 (by assumption) ?_ | dsimp only)
theorem execSheetStop_keeps {m : Nat} {s u : State} (h : Keeps m s u) (hm : m &&& 952021829460779203551103863785 = 952021829460779203551103863785) (sh : Nat) (w : Wr) : OutKeeps m s (execSheetStop sh w u) := by
  unfold execSheetStop
  with_reducible repeat' (first | assumption | intro _ | exact sub_mask hm rfl | rfl | apply State.pfOnly_keeps | apply State.sheetCtlWrite_keeps | apply ite_keep | apply foldl_keep | apply outKeep_next | apply ite_outKeep | split | dsimp only)
theorem execGrantRx_keeps {m : Nat} {s u : State} (h : Keeps m s u) (hm : m &&& 41103477868023291846852609 = 41103477868023291846852609) (sh : Nat) : OutKeeps m s (execGrantRx sh u) := by
  unfold execGrantRx
  with_reducible repeat' (first | assumption | intro _ | exact sub_mask hm rfl | rfl | apply State.takeCtl_keeps | apply State.setLnk_keeps | apply State.wakeSpare_keeps | apply State.switchNow_keeps | apply ite_keep | apply foldl_keep | apply ite_keep2 | apply foldl_keep2 | apply outKeep_next | apply ite_outKeep | split | refine optKeep2_get (by assumption) ?_ | dsimp only)
theorem State.sheetSleep_keeps {m : Nat} {s u : State} (h : Keeps m s u) (hm : m &&& 952021829460779203551103863273 = 952021829460779203551103863273) (sh : Nat) : Keeps m s (State.sheetSleep u sh) := by
  unfold State.sheetSleep
  with_reducible repeat' (first | assumption | intro _ | exact sub_mask hm rfl | rfl | apply State.put_keeps | apply State.sheetStop_keeps | apply ite_keep | apply foldl_keep | split | dsimp only)
theorem State.answerClaim_keeps {m : Nat} {s u : State} (h : Keeps m s u) (hm : m &&& 41103477868023291846852609 = 41103477868023291846852609) (sh : Nat) (kind : Nat) (tag : Nat) (lane : Nat) : Keeps m s (State.answerClaim u sh kind tag lane) := by
  unfold State.answerClaim
  with_reducible repeat' (first | assumption | intro _ | exact sub_mask hm rfl | rfl | apply State.wakeSpare_keeps | apply State.sendCtrl_keeps | apply State.showXchg_keeps | apply State.setLnk_keeps | apply State.switchNow_keeps | apply ite_keep | apply foldl_keep | split | dsimp only)
theorem execClaimRx_keeps {m : Nat} {s u : State} (h : Keeps m s u) (hm : m &&& 41103477868023291846852609 = 41103477868023291846852609) (sh : Nat) : OutKeeps m s (execClaimRx sh u) := by
  unfold execClaimRx
  with_reducible repeat' (first | assumption | intro _ | exact sub_mask hm rfl | rfl | apply State.takeCtl_keeps | apply State.answerClaim_keeps | apply State.sendCtrl_keeps | apply State.setLnk_keeps | apply State.claimAgain_keeps | apply ite_keep | apply foldl_keep | apply ite_keep2 | apply foldl_keep2 | apply outKeep_next | apply ite_outKeep | split | refine optKeep2_get (by assumption) ?_ | dsimp only)
theorem State.linkForget_keeps {m : Nat} {s u : State} (h : Keeps m s u) (hm : m &&& 38685626227668133590597632 = 38685626227668133590597632) (sh : Nat) : Keeps m s (State.linkForget u sh) := by
  unfold State.linkForget
  with_reducible repeat' (first | assumption | intro _ | exact sub_mask hm rfl | rfl | apply ite_keep | apply foldl_keep | split | dsimp only | apply keep_links)
theorem State.lossDrop_keeps {m : Nat} {s u : State} (h : Keeps m s u) (hm : m &&& 952021829460779203551103863273 = 952021829460779203551103863273) (sh : Nat) (l : Nat) (cause : Nat) : Keeps m s (State.lossDrop u sh l cause) := by
  unfold State.lossDrop
  with_reducible repeat' (first | assumption | intro _ | exact sub_mask hm rfl | rfl | apply State.etherLoss_keeps | apply State.sheetDrop_keeps | apply State.laneFail_keeps | apply ite_keep | apply foldl_keep | split | dsimp only)
theorem State.dozeWake_keeps {m : Nat} {s u : State} (h : Keeps m s u) (hm : m &&& 41103477866897391940009985 = 41103477866897391940009985) (sh : Nat) : Keeps m s (State.dozeWake u sh) := by
  unfold State.dozeWake
  with_reducible repeat' (first | assumption | intro _ | exact sub_mask hm rfl | rfl | apply State.setLnk_keeps | apply State.stageTo_keeps | apply ite_keep | apply foldl_keep | split | dsimp only)
theorem execTrainAttemptTimeout_keeps {m : Nat} {s u : State} (h : Keeps m s u) (hm : m &&& 952021829460779203551103863273 = 952021829460779203551103863273) (sh : Nat) : OutKeeps m s (execTrainAttemptTimeout sh u) := by
  unfold execTrainAttemptTimeout
  with_reducible repeat' (first | assumption | intro _ | exact sub_mask hm rfl | rfl | apply State.raise_keeps | apply State.put_keeps | apply State.setLnk_keeps | apply State.bringupFail_keeps | apply State.attemptFails_keeps | apply ite_keep | apply foldl_keep | apply outKeep_next | apply ite_outKeep | split | dsimp only)
theorem execSheetStart_keeps {m : Nat} {s u : State} (h : Keeps m s u) (hm : m &&& 952021829460779203551103863785 = 952021829460779203551103863785) (sh : Nat) (w : Wr) : OutKeeps m s (execSheetStart sh w u) := by
  unfold execSheetStart
  with_reducible repeat' (first | assumption | intro _ | exact sub_mask hm rfl | rfl | apply State.pfOnly_keeps | apply State.sheetCtlWrite_keeps | apply ite_keep | apply foldl_keep | apply outKeep_next | apply ite_outKeep | split | dsimp only)
theorem execRestoreRx_keeps {m : Nat} {s u : State} (h : Keeps m s u) (hm : m &&& 38685626227668133590597632 = 38685626227668133590597632) (sh : Nat) : OutKeeps m s (execRestoreRx sh u) := by
  unfold execRestoreRx
  with_reducible repeat' (first | assumption | intro _ | exact sub_mask hm rfl | rfl | apply State.takeCtl_keeps | apply State.setLnk_keeps | apply ite_keep | apply foldl_keep | apply ite_keep2 | apply foldl_keep2 | apply outKeep_next | apply ite_outKeep | split | refine optKeep2_get (by assumption) ?_ | dsimp only)
theorem execLaneLos_keeps {m : Nat} {s u : State} (h : Keeps m s u) (hm : m &&& 952021829460779203551103863273 = 952021829460779203551103863273) (sh : Nat) (l : Nat) : OutKeeps m s (execLaneLos sh l u) := by
  unfold execLaneLos
  with_reducible repeat' (first | assumption | intro _ | exact sub_mask hm rfl | rfl | apply State.laneCount_keeps | apply State.put_keeps | apply State.lossDrop_keeps | apply State.raise_keeps | apply State.losTo_keeps | apply ite_keep | apply foldl_keep | apply outKeep_next | apply ite_outKeep | split | dsimp only)
theorem State.prbsCount_keeps {m : Nat} {s u : State} (h : Keeps m s u) (hm : m &&& 316912650057057350374175803873 = 316912650057057350374175803873) (sh : Nat) (l : Nat) (n : Nat) (e : Nat) : Keeps m s (State.prbsCount u sh l n e) := by
  unfold State.prbsCount
  with_reducible repeat' (first | assumption | intro _ | exact sub_mask hm rfl | rfl | apply State.wr64_keeps | apply State.raise_keeps | apply ite_keep | apply foldl_keep | split | dsimp only)
theorem execPrbsLost_keeps {m : Nat} {s u : State} (h : Keeps m s u) (hm : m &&& 316912650057057350374175803873 = 316912650057057350374175803873) (sh : Nat) (l : Nat) (n : Nat) (e : Nat) : OutKeeps m s (execPrbsLost sh l n e u) := by
  unfold execPrbsLost
  with_reducible repeat' (first | assumption | intro _ | exact sub_mask hm rfl | rfl | apply State.raise_keeps | apply State.put_keeps | apply State.prbsCount_keeps | apply ite_keep | apply foldl_keep | apply outKeep_next | apply ite_outKeep | split | dsimp only)
theorem execLaneAlignDone_keeps {m : Nat} {s u : State} (h : Keeps m s u) (hm : m &&& 41103477868023291846852609 = 41103477868023291846852609) (sh : Nat) (l : Nat) (ident : Nat) (inv : Bool) : OutKeeps m s (execLaneAlignDone sh l ident inv u) := by
  unfold execLaneAlignDone
  with_reducible repeat' (first | assumption | intro _ | exact sub_mask hm rfl | rfl | apply State.put_keeps | apply State.sendCtrl_keeps | apply State.setLnk_keeps | apply State.switchNow_keeps | apply State.stageTo_keeps | apply ite_keep | apply foldl_keep | apply outKeep_next | apply ite_outKeep | split | dsimp only)
theorem execRefuseRx_keeps {m : Nat} {s u : State} (h : Keeps m s u) (hm : m &&& 952014575905861515776055626209 = 952014575905861515776055626209) (sh : Nat) : OutKeeps m s (execRefuseRx sh u) := by
  unfold execRefuseRx
  with_reducible repeat' (first | assumption | intro _ | exact sub_mask hm rfl | rfl | apply State.takeCtl_keeps | apply State.xchgFail_keeps | apply ite_keep | apply foldl_keep | apply ite_keep2 | apply foldl_keep2 | apply outKeep_next | apply ite_outKeep | split | refine optKeep2_get (by assumption) ?_ | dsimp only)
theorem execLaneLol_keeps {m : Nat} {s u : State} (h : Keeps m s u) (hm : m &&& 952021829460779203551103863273 = 952021829460779203551103863273) (sh : Nat) (l : Nat) : OutKeeps m s (execLaneLol sh l u) := by
  unfold execLaneLol
  with_reducible repeat' (first | assumption | intro _ | exact sub_mask hm rfl | rfl | apply State.laneCount_keeps | apply State.put_keeps | apply State.lossDrop_keeps | apply State.raise_keeps | apply ite_keep | apply foldl_keep | apply outKeep_next | apply ite_outKeep | split | dsimp only)
theorem execSheetSub_keeps {m : Nat} {s u : State} (h : Keeps m s u) (hm : m &&& 952021829460779203551103863785 = 952021829460779203551103863785) (sh : Nat) (w : Wr) : OutKeeps m s (execSheetSub sh w u) := by
  unfold execSheetSub
  with_reducible repeat' (first | assumption | intro _ | exact sub_mask hm rfl | rfl | apply State.pfOnly_keeps | apply State.sheetCtlWrite_keeps | apply ite_keep | apply foldl_keep | apply outKeep_next | apply ite_outKeep | split | dsimp only)
theorem execLaneEqDone_keeps {m : Nat} {s u : State} (h : Keeps m s u) (hm : m &&& 316915067908696579632525213697 = 316915067908696579632525213697) (sh : Nat) (l : Nat) (margins : List Nat) : OutKeeps m s (execLaneEqDone sh l margins u) := by
  unfold execLaneEqDone
  with_reducible repeat' (first | assumption | intro _ | exact sub_mask hm rfl | rfl | apply State.put_keeps | apply State.genStart_keeps | apply State.stageTo_keeps | apply ite_keep | apply foldl_keep | apply outKeep_next | apply ite_outKeep | split | dsimp only)
theorem execNarrowWrite_keeps {m : Nat} {s u : State} (h : Keeps m s u) (hm : m &&& 952021829460779203551103863785 = 952021829460779203551103863785) (sh : Nat) (w : Wr) : OutKeeps m s (execNarrowWrite sh w u) := by
  unfold execNarrowWrite
  with_reducible repeat' (first | assumption | intro _ | exact sub_mask hm rfl | rfl | apply State.pfOnly_keeps | apply State.sheetCtlWrite_keeps | apply ite_keep | apply foldl_keep | apply outKeep_next | apply ite_outKeep | split | dsimp only)
theorem execSpareReadyRx_keeps {m : Nat} {s u : State} (h : Keeps m s u) (hm : m &&& 38685626228794033497440256 = 38685626228794033497440256) (sh : Nat) : OutKeeps m s (execSpareReadyRx sh u) := by
  unfold execSpareReadyRx
  with_reducible repeat' (first | assumption | intro _ | exact sub_mask hm rfl | rfl | apply State.takeCtl_keeps | apply State.setLnk_keeps | apply State.switchNow_keeps | apply ite_keep | apply foldl_keep | apply ite_keep2 | apply foldl_keep2 | apply outKeep_next | apply ite_outKeep | split | refine optKeep2_get (by assumption) ?_ | dsimp only)
theorem State.laneCtlWrite_keeps {m : Nat} {s u : State} (h : Keeps m s u) (hm : m &&& 316912650057057350374175803873 = 316912650057057350374175803873) (sh : Nat) (l : Nat) (w : Wr) : Keeps m s (State.laneCtlWrite u sh l w) := by
  unfold State.laneCtlWrite
  with_reducible repeat' (first | assumption | intro _ | exact sub_mask hm rfl | rfl | apply State.mergeRaw_keeps | apply State.raise_keeps | apply State.put_keeps | apply ite_keep | apply foldl_keep | split | dsimp only)
theorem execDozeIdle_keeps {m : Nat} {s u : State} (h : Keeps m s u) (hm : m &&& 38685626228794033497440257 = 38685626228794033497440257) (sh : Nat) : OutKeeps m s (execDozeIdle sh u) := by
  unfold execDozeIdle
  with_reducible repeat' (first | assumption | intro _ | exact sub_mask hm rfl | rfl | apply State.claim_keeps | apply ite_keep | apply foldl_keep | apply outKeep_next | apply ite_outKeep | split | dsimp only)
theorem execLaneSleepWrite_keeps {m : Nat} {s u : State} (h : Keeps m s u) (hm : m &&& 316912650057057350374175804393 = 316912650057057350374175804393) (sh : Nat) (l : Nat) (w : Wr) : OutKeeps m s (execLaneSleepWrite sh l w u) := by
  unfold execLaneSleepWrite
  with_reducible repeat' (first | assumption | intro _ | exact sub_mask hm rfl | rfl | apply State.pfOnly_keeps | apply State.laneCtlWrite_keeps | apply ite_keep | apply foldl_keep | apply outKeep_next | apply ite_outKeep | split | dsimp only)
theorem State.beamsResume_keeps {m : Nat} {s u : State} (h : Keeps m s u) (hm : m &&& 950737950171173215642780174819 = 950737950171173215642780174819) (sheet : Nat) : Keeps m s (State.beamsResume u sheet) := by
  unfold State.beamsResume
  with_reducible repeat' (first | assumption | intro _ | exact sub_mask hm rfl | rfl | apply State.beamGoes_keeps | apply ite_keep | apply foldl_keep | split | dsimp only)
theorem State.sendAside_keeps {m : Nat} {s u : State} (h : Keeps m s u) (hm : m &&& 316912650057057350374175801344 = 316912650057057350374175801344) (sh : Nat) : Keeps m s (State.sendAside u sh) := by
  unfold State.sendAside
  with_reducible repeat' (first | assumption | intro _ | exact sub_mask hm rfl | rfl | apply State.emit_keeps | apply ite_keep | apply foldl_keep | split | dsimp only)
theorem execBlockTx_keeps {m : Nat} {s u : State} (h : Keeps m s u) (hm : m &&& 952016993905074736244427901411 = 952016993905074736244427901411) (sh : Nat) (i : Nat) : OutKeeps m s (execBlockTx sh i u) := by
  unfold execBlockTx
  with_reducible repeat' (first | assumption | intro _ | exact sub_mask hm rfl | rfl | apply State.sendBlock_keeps | apply State.setLnk_keeps | apply State.sendTraining_keeps | apply State.linkUpNow_keeps | apply State.xchgSettle_keeps | apply State.dozeWake_keeps | apply State.beamsResume_keeps | apply State.sendAside_keeps | apply ite_keep | apply foldl_keep | apply outKeep_next | apply ite_outKeep | split | dsimp only)
theorem execPrbsInject_keeps {m : Nat} {s u : State} (h : Keeps m s u) (hm : m &&& 316912650057057350442895281129 = 316912650057057350442895281129) (sh : Nat) (l : Nat) (w : Wr) : OutKeeps m s (execPrbsInject sh l w u) := by
  unfold execPrbsInject
  with_reducible repeat' (first | assumption | intro _ | exact sub_mask hm rfl | rfl | apply State.pfOnly_keeps | apply State.prbsWrite_keeps | apply ite_keep | apply foldl_keep | apply outKeep_next | apply ite_outKeep | split | dsimp only)
theorem execSwitchRx_keeps {m : Nat} {s u : State} (h : Keeps m s u) (hm : m &&& 38685626227668133590597632 = 38685626227668133590597632) (sh : Nat) : OutKeeps m s (execSwitchRx sh u) := by
  unfold execSwitchRx
  with_reducible repeat' (first | assumption | intro _ | exact sub_mask hm rfl | rfl | apply State.takeCtl_keeps | apply State.setLnk_keeps | apply ite_keep | apply foldl_keep | apply ite_keep2 | apply foldl_keep2 | apply outKeep_next | apply ite_outKeep | split | refine optKeep2_get (by assumption) ?_ | dsimp only)
theorem State.noteWait_keeps {m : Nat} {s u : State} (h : Keeps m s u) (hm : m &&& 316912650066280722411030579681 = 316912650066280722411030579681) (q : Nat) (way : Nat) : Keeps m s (State.noteWait u q way) := by
  unfold State.noteWait
  with_reducible repeat' (first | assumption | intro _ | exact sub_mask hm rfl | rfl | apply State.setQue_keeps | apply State.raise_keeps | apply State.put_keeps | apply ite_keep | apply foldl_keep | split | dsimp only)
theorem State.setSched_keeps {m : Nat} {s u : State} (h : Keeps m s u) (hm : m &&& 77371252455336267181195264 = 77371252455336267181195264) (k0 : Nat) (x : Sched) : Keeps m s (State.setSched u k0 x) := by
  unfold State.setSched
  with_reducible repeat' (first | assumption | intro _ | exact sub_mask hm rfl | rfl | apply ite_keep | apply foldl_keep | split | dsimp only | apply keep_scheds)
theorem State.ringRecord_keeps {m : Nat} {s u : State} (h : Keeps m s u) (hm : m &&& 316912650057057350374175801344 = 316912650057057350374175801344) (b : Nat) (i : Nat) : Keeps m s (State.ringRecord u b i) := by
  unfold State.ringRecord
  with_reducible repeat' (first | assumption | intro _ | exact sub_mask hm rfl | rfl | apply State.emit_keeps | apply ite_keep | apply foldl_keep | split | dsimp only)
theorem State.setDelivery_keeps {m : Nat} {s u : State} (h : Keeps m s u) (hm : m &&& 154742504910672534362390528 = 154742504910672534362390528) (b : Nat) (i : Nat) (x : Delivery) : Keeps m s (State.setDelivery u b i x) := by
  unfold State.setDelivery
  with_reducible repeat' (first | assumption | intro _ | exact sub_mask hm rfl | rfl | apply ite_keep | apply foldl_keep | split | dsimp only | apply keep_delivers)
theorem State.recordFirst_keeps {m : Nat} {s u : State} (h : Keeps m s u) (hm : m &&& 317067392561968022908538191872 = 317067392561968022908538191872) (b : Nat) (i : Nat) : Keeps m s (State.recordFirst u b i) := by
  unfold State.recordFirst
  with_reducible repeat' (first | assumption | intro _ | exact sub_mask hm rfl | rfl | apply State.ringRecord_keeps | apply State.setDelivery_keeps | apply ite_keep | apply foldl_keep | split | dsimp only)
theorem State.deliver_keeps {m : Nat} {s u : State} (h : Keeps m s u) (hm : m &&& 317067392561968022908538193920 = 317067392561968022908538193920) (b : Nat) (i : Nat) (l : List Byte) (last : Bool) : Keeps m s (State.deliver u b i l last) := by
  unfold State.deliver
  with_reducible repeat' (first | assumption | intro _ | exact sub_mask hm rfl | rfl | apply State.recordFirst_keeps | apply State.emit_keeps | apply State.setDelivery_keeps | apply State.ringRecord_keeps | apply State.vecDue_keeps | apply ite_keep | apply foldl_keep | split | dsimp only)
theorem State.sendFrame_keeps {m : Nat} {s u : State} (h : Keeps m s u) (hm : m &&& 950892692892833092491603872225 = 950892692892833092491603872225) (q : Nat) (way : Nat) (cut : Nat) : Keeps m s (State.sendFrame u q way cut) := by
  unfold State.sendFrame
  with_reducible repeat' (first | assumption | intro _ | exact sub_mask hm rfl | rfl | apply State.setQue_keeps | apply State.readQue_keeps | apply State.deliver_keeps | apply State.formPkt_keeps | apply State.sendTx_keeps | apply State.nextPkt_keeps | apply State.sendPkt_keeps | apply State.mirrorLag_keeps | apply ite_keep | apply foldl_keep | apply ite_keep2 | apply foldl_keep2 | split | refine pairKeep2 (by assumption) ?_ | dsimp only)
theorem State.setHring_keeps {m : Nat} {s u : State} (h : Keeps m s u) (hm : m &&& 19342813113834066795298816 = 19342813113834066795298816) (m0 : Nat) (x : HostRing) : Keeps m s (State.setHring u m0 x) := by
  unfold State.setHring
  with_reducible repeat' (first | assumption | intro _ | exact sub_mask hm rfl | rfl | apply ite_keep | apply foldl_keep | split | dsimp only | apply keep_hrings)
theorem State.descDone_keeps {m : Nat} {s u : State} (h : Keeps m s u) (hm : m &&& 316912650057057350374175801344 = 316912650057057350374175801344) (addr : Nat) : Keeps m s (State.descDone u addr) := by
  unfold State.descDone
  with_reducible repeat' (first | assumption | intro _ | exact sub_mask hm rfl | rfl | apply State.emit_keeps | apply ite_keep | apply foldl_keep | split | dsimp only)

end Sys2Proof.Machine
end

