-- ==== Sys2Proof/Laws/Keep5.lean ====
section
/-! SUPPORT. One lemma per operation: the components it may change, as a mask (part 5 of 5, in the order of dependence). -/
set_option maxRecDepth 10000
namespace Sys2Proof.Machine

theorem State.sendHost_keeps {m : Nat} {s u : State} (h : Keeps m s u) (hm : m &&& 316931992870171184475330841073 = 316931992870171184475330841073) (m0 : Nat) : Keeps m s (State.sendHost u m0) := by
  unfold State.sendHost
  with_reducible repeat' (first | assumption | intro _ | exact sub_mask hm rfl | rfl | apply State.setHring_keeps | apply State.emit_keeps | apply State.txStamp_keeps | apply State.descDone_keeps | apply ite_keep | apply foldl_keep | split | dsimp only)
theorem execEgressFrame_keeps {m : Nat} {s u : State} (h : Keeps m s u) (hm : m &&& 950989406958402262859940104689 = 950989406958402262859940104689) (k0 : Nat) (pick : Nat) (cut : Nat) : OutKeeps m s (execEgressFrame k0 pick cut u) := by
  unfold execEgressFrame
  with_reducible repeat' (first | assumption | intro _ | exact sub_mask hm rfl | rfl | apply State.noteWait_keeps | apply State.setSched_keeps | apply State.sendFrame_keeps | apply State.sendHost_keeps | apply ite_keep | apply foldl_keep | apply outKeep_next | apply ite_outKeep | split | dsimp only)
theorem State.takeDescs_keeps {m : Nat} {s u : State} (h : Keeps m s u) (hm : m &&& 316931992870171184440971100160 = 316931992870171184440971100160) (m0 : Nat) (l : List HtxDesc) : Keeps m s (State.takeDescs u m0 l) := by
  unfold State.takeDescs
  with_reducible repeat' (first | assumption | intro _ | exact sub_mask hm rfl | rfl | apply State.setHring_keeps | apply State.descDone_keeps | apply ite_keep | apply foldl_keep | split | dsimp only)
theorem execHrxPiWrite_keeps {m : Nat} {s u : State} (h : Keeps m s u) (hm : m &&& 316931992870171184440971103209 = 316931992870171184440971103209) (m0 : Nat) (w : Wr) (bufs : List Nat) : OutKeeps m s (execHrxPiWrite m0 w bufs u) := by
  unfold execHrxPiWrite
  with_reducible repeat' (first | assumption | intro _ | exact sub_mask hm rfl | rfl | apply State.pfOnly_keeps | apply State.mergeRaw_keeps | apply State.setHring_keeps | apply ite_keep | apply foldl_keep | apply outKeep_next | apply ite_outKeep | split | dsimp only)
theorem execHtxPiWrite_keeps {m : Nat} {s u : State} (h : Keeps m s u) (hm : m &&& 316931992870171184440971103209 = 316931992870171184440971103209) (m0 : Nat) (w : Wr) (descs : List HtxDesc) : OutKeeps m s (execHtxPiWrite m0 w descs u) := by
  unfold execHtxPiWrite
  with_reducible repeat' (first | assumption | intro _ | exact sub_mask hm rfl | rfl | apply State.pfOnly_keeps | apply State.mergeRaw_keeps | apply State.takeDescs_keeps | apply ite_keep | apply foldl_keep | apply outKeep_next | apply ite_outKeep | split | dsimp only)
theorem execEgressStall_keeps {m : Nat} {s u : State} (h : Keeps m s u) (hm : m &&& 316912650066280722411030579681 = 316912650066280722411030579681) (q : Nat) : OutKeeps m s (execEgressStall q u) := by
  unfold execEgressStall
  with_reducible repeat' (first | assumption | intro _ | exact sub_mask hm rfl | rfl | apply State.raise_keeps | apply State.setQue_keeps | apply State.put_keeps | apply ite_keep | apply foldl_keep | apply outKeep_next | apply ite_outKeep | split | dsimp only)
theorem State.ringQueOn_keeps {m : Nat} {s u : State} (h : Keeps m s u) (hm : m &&& 316912650066280722411031103969 = 316912650066280722411031103969) (b : Nat) (q : Nat) : Keeps m s (State.ringQueOn u b q) := by
  unfold State.ringQueOn
  with_reducible repeat' (first | assumption | intro _ | exact sub_mask hm rfl | rfl | apply State.put_keeps | apply State.raise_keeps | apply State.showQue_keeps | apply State.setQue_keeps | apply ite_keep | apply foldl_keep | split | dsimp only | apply keep_quesOn)
theorem State.ringOn_keeps {m : Nat} {s u : State} (h : Keeps m s u) (hm : m &&& 316912650066280722411031366113 = 316912650066280722411031366113) (b : Nat) (r : Nat) : Keeps m s (State.ringOn u b r) := by
  unfold State.ringOn
  with_reducible repeat' (first | assumption | intro _ | exact sub_mask hm rfl | rfl | apply State.put_keeps | apply State.setCring_keeps | apply State.ringQueOn_keeps | apply ite_keep | apply foldl_keep | split | dsimp only)
theorem State.ringEnable_keeps {m : Nat} {s u : State} (h : Keeps m s u) (hm : m &&& 316912650066280722411031366113 = 316912650066280722411031366113) (b : Nat) (r : Nat) : Keeps m s (State.ringEnable u b r) := by
  unfold State.ringEnable
  with_reducible repeat' (first | assumption | intro _ | exact sub_mask hm rfl | rfl | apply State.put_keeps | apply State.ringOn_keeps | apply ite_keep | apply foldl_keep | split | dsimp only)
theorem State.ringQueOff_keeps {m : Nat} {s u : State} (h : Keeps m s u) (hm : m &&& 316912650089339152571887520225 = 316912650089339152571887520225) (q : Nat) : Keeps m s (State.ringQueOff u q) := by
  unfold State.ringQueOff
  with_reducible repeat' (first | assumption | intro _ | exact sub_mask hm rfl | rfl | apply State.freePlots_keeps | apply State.setQue_keeps | apply State.raise_keeps | apply State.showQue_keeps | apply State.put_keeps | apply ite_keep | apply foldl_keep | split | dsimp only | apply keep_quesOn)
theorem State.ringDisable_keeps {m : Nat} {s u : State} (h : Keeps m s u) (hm : m &&& 316912650089339152571888830945 = 316912650089339152571888830945) (b : Nat) (r : Nat) : Keeps m s (State.ringDisable u b r) := by
  unfold State.ringDisable
  with_reducible repeat' (first | assumption | intro _ | exact sub_mask hm rfl | rfl | apply State.put_keeps | apply State.setCring_keeps | apply State.ringQueOff_keeps | apply ite_keep | apply foldl_keep | split | dsimp only | apply keep_cmds)
theorem State.ringsDisable_keeps {m : Nat} {s u : State} (h : Keeps m s u) (hm : m &&& 316912650089339152571888830945 = 316912650089339152571888830945) (b : Nat) : Keeps m s (State.ringsDisable u b) := by
  unfold State.ringsDisable
  with_reducible repeat' (first | assumption | intro _ | exact sub_mask hm rfl | rfl | apply State.ringDisable_keeps | apply ite_keep | apply foldl_keep | split | dsimp only)
theorem State.cringCtlWrite_keeps {m : Nat} {s u : State} (h : Keeps m s u) (hm : m &&& 316912650089339152571888831457 = 316912650089339152571888831457) (b : Nat) (r : Nat) (w : Wr) : Keeps m s (State.cringCtlWrite u b r w) := by
  unfold State.cringCtlWrite
  with_reducible repeat' (first | assumption | intro _ | exact sub_mask hm rfl | rfl | apply State.reservedHit_keeps | apply State.raise_keeps | apply State.mergeRaw_keeps | apply State.ringEnable_keeps | apply State.ringDisable_keeps | apply ite_keep | apply foldl_keep | split | dsimp only)
theorem execCringEnable_keeps {m : Nat} {s u : State} (h : Keeps m s u) (hm : m &&& 316912650089339152571888831465 = 316912650089339152571888831465) (b : Nat) (r : Nat) (w : Wr) : OutKeeps m s (execCringEnable b r w u) := by
  unfold execCringEnable
  with_reducible repeat' (first | assumption | intro _ | exact sub_mask hm rfl | rfl | apply State.flushHeld_keeps | apply State.cringCtlWrite_keeps | apply State.reservedHit_keeps | apply ite_keep | apply foldl_keep | apply outKeep_next | apply ite_outKeep | split | dsimp only)
theorem execPtmResponseRx_keeps {m : Nat} {s u : State} (h : Keeps m s u) (hm : m &&& 4097 = 4097) (master : Nat) (delay : Nat) : OutKeeps m s (execPtmResponseRx master delay u) := by
  unfold execPtmResponseRx
  with_reducible repeat' (first | assumption | intro _ | exact sub_mask hm rfl | rfl | apply State.wn_keeps | apply State.wr64_keeps | apply State.put_keeps | apply ite_keep | apply foldl_keep | apply outKeep_next | apply ite_outKeep | split | dsimp only | apply keep_ptm)
theorem State.jobDrop_keeps {m : Nat} {s u : State} (h : Keeps m s u) (hm : m &&& 885443715538058477569 = 885443715538058477569) (b : Nat) : Keeps m s (State.jobDrop u b) := by
  unfold State.jobDrop
  with_reducible repeat' (first | assumption | intro _ | exact sub_mask hm rfl | rfl | apply State.put_keeps | apply State.dxDone_keeps | apply ite_keep | apply foldl_keep | split | dsimp only | apply keep_jobs)
theorem execMsixModerationEnd_keeps {m : Nat} {s u : State} (h : Keeps m s u) (hm : m &&& 316912650057057350374175803392 = 316912650057057350374175803392) (fn : Nat) (v : Nat) : OutKeeps m s (execMsixModerationEnd fn v u) := by
  unfold execMsixModerationEnd
  with_reducible repeat' (first | assumption | intro _ | exact sub_mask hm rfl | rfl | apply State.setVec_keeps | apply State.vecSend_keeps | apply ite_keep | apply foldl_keep | apply outKeep_next | apply ite_outKeep | split | dsimp only)
theorem State.deliveriesOff_keeps {m : Nat} {s u : State} (h : Keeps m s u) (hm : m &&& 154742504910672534362390528 = 154742504910672534362390528) (b : Nat) : Keeps m s (State.deliveriesOff u b) := by
  unfold State.deliveriesOff
  with_reducible repeat' (first | assumption | intro _ | exact sub_mask hm rfl | rfl | apply ite_keep | apply foldl_keep | split | dsimp only | apply keep_delivers)
theorem State.ptmStart_keeps {m : Nat} {s u : State} (h : Keeps m s u) (hm : m &&& 4096 = 4096) : Keeps m s (State.ptmStart u) := by
  unfold State.ptmStart
  with_reducible repeat' (first | assumption | intro _ | exact sub_mask hm rfl | rfl | apply ite_keep | apply foldl_keep | split | dsimp only | apply keep_ptm)
theorem State.ptmCtlWrite_keeps {m : Nat} {s u : State} (h : Keeps m s u) (hm : m &&& 316912650057057350374175807969 = 316912650057057350374175807969) (w : Wr) : Keeps m s (State.ptmCtlWrite u w) := by
  unfold State.ptmCtlWrite
  with_reducible repeat' (first | assumption | intro _ | exact sub_mask hm rfl | rfl | apply State.mergeRaw_keeps | apply State.ptmStart_keeps | apply ite_keep | apply foldl_keep | split | dsimp only)
theorem execPtmStart_keeps {m : Nat} {s u : State} (h : Keeps m s u) (hm : m &&& 316912650057057350374175808489 = 316912650057057350374175808489) (w : Wr) : OutKeeps m s (execPtmStart w u) := by
  unfold execPtmStart
  with_reducible repeat' (first | assumption | intro _ | exact sub_mask hm rfl | rfl | apply State.pfOnly_keeps | apply State.ptmCtlWrite_keeps | apply ite_keep | apply foldl_keep | apply outKeep_next | apply ite_outKeep | split | dsimp only)
theorem State.vecRelease_keeps {m : Nat} {s u : State} (h : Keeps m s u) (hm : m &&& 316912650057057350374175803392 = 316912650057057350374175803392) (fn : Nat) : Keeps m s (State.vecRelease u fn) := by
  unfold State.vecRelease
  with_reducible repeat' (first | assumption | intro _ | exact sub_mask hm rfl | rfl | apply State.setVec_keeps | apply State.vecSend_keeps | apply ite_keep | apply foldl_keep | split | dsimp only)
theorem execPtmTimeout_keeps {m : Nat} {s u : State} (h : Keeps m s u) (hm : m &&& 316912650057057350374175807969 = 316912650057057350374175807969) : OutKeeps m s (execPtmTimeout u) := by
  unfold execPtmTimeout
  with_reducible repeat' (first | assumption | intro _ | exact sub_mask hm rfl | rfl | apply State.raise_keeps | apply State.put_keeps | apply ite_keep | apply foldl_keep | apply outKeep_next | apply ite_outKeep | split | dsimp only | apply keep_ptm)
theorem State.hostRingsOff_keeps {m : Nat} {s u : State} (h : Keeps m s u) (hm : m &&& 19342813113834066795298817 = 19342813113834066795298817) : Keeps m s (State.hostRingsOff u) := by
  unfold State.hostRingsOff
  with_reducible repeat' (first | assumption | intro _ | exact sub_mask hm rfl | rfl | apply State.put_keeps | apply State.setHring_keeps | apply ite_keep | apply foldl_keep | split | dsimp only)
theorem State.flrState_keeps {m : Nat} {s u : State} (h : Keeps m s u) (hm : m &&& 317086736292807374711105002465 = 317086736292807374711105002465) (fn : Nat) : Keeps m s (State.flrState u fn) := by
  unfold State.flrState
  have k1 := State.deliveriesOff_keeps (State.jobDrop_keeps (State.ringsDisable_keeps h (sub_mask hm rfl) fn) (sub_mask hm rfl) fn)
    (sub_mask hm rfl) fn
  have k2 := ite_keep (c := fn = 0) (keep_ptm (State.hostRingsOff_keeps k1 (sub_mask hm rfl)) (sub_mask hm rfl) none) k1
  exact State.setFunc_keeps (keep_regs_vecs k2 (sub_mask hm rfl) _ _) (sub_mask hm rfl) _ _
theorem State.flr_keeps {m : Nat} {s u : State} (h : Keeps m s u) (hm : m &&& 317086736292807374711105002465 = 317086736292807374711105002465) (fn : Nat) : Keeps m s (State.flr u fn) := by
  unfold State.flr
  with_reducible repeat' (first | assumption | intro _ | exact sub_mask hm rfl | rfl | apply State.raise_keeps | apply State.flrState_keeps | apply ite_keep | apply foldl_keep | split | dsimp only)
theorem execPtmDialog_keeps {m : Nat} {s u : State} (h : Keeps m s u) (hm : m &&& 2535301200456458802993406414848 = 2535301200456458802993406414848) : OutKeeps m s (execPtmDialog u) := by
  unfold execPtmDialog
  with_reducible repeat' (first | assumption | intro _ | exact sub_mask hm rfl | rfl | apply State.ptmStart_keeps | apply ite_keep | apply foldl_keep | apply outKeep_next | apply ite_outKeep | split | dsimp only | apply keep_ptmAt)
theorem execFunctionLevelReset_keeps {m : Nat} {s u : State} (h : Keeps m s u) (hm : m &&& 317086736292807374711105002465 = 317086736292807374711105002465) (fn : Nat) : OutKeeps m s (execFunctionLevelReset fn u) := by
  unfold execFunctionLevelReset
  with_reducible repeat' (first | assumption | intro _ | exact sub_mask hm rfl | rfl | apply State.flr_keeps | apply ite_keep | apply foldl_keep | apply outKeep_next | apply ite_outKeep | split | dsimp only)
theorem execMsixUnmask_keeps {m : Nat} {s u : State} (h : Keeps m s u) (hm : m &&& 316912650057057350374175803904 = 316912650057057350374175803904) (fn : Nat) (op : MsixOp) : OutKeeps m s (execMsixUnmask fn op u) := by
  unfold execMsixUnmask
  with_reducible repeat' (first | assumption | intro _ | exact sub_mask hm rfl | rfl | apply State.vecRelease_keeps | apply State.setVec_keeps | apply State.setFunc_keeps | apply ite_keep | apply foldl_keep | apply outKeep_next | apply ite_outKeep | split | dsimp only)
theorem execPcieLinkDown_keeps {m : Nat} {s u : State} (h : Keeps m s u) (hm : m &&& 317086736292807374711105003489 = 317086736292807374711105003489) : OutKeeps m s (execPcieLinkDown u) := by
  unfold execPcieLinkDown
  with_reducible repeat' (first | assumption | intro _ | exact sub_mask hm rfl | rfl | apply State.flrState_keeps | apply ite_keep | apply foldl_keep | apply outKeep_next | apply ite_outKeep | split | dsimp only | apply keep_linkUp)
theorem execPcieLinkUp_keeps {m : Nat} {s u : State} (h : Keeps m s u) (hm : m &&& 1025 = 1025) : OutKeeps m s (execPcieLinkUp u) := by
  unfold execPcieLinkUp
  with_reducible repeat' (first | assumption | intro _ | exact sub_mask hm rfl | rfl | apply State.put_keeps | apply ite_keep | apply foldl_keep | apply outKeep_next | apply ite_outKeep | split | dsimp only | apply keep_linkUp)
theorem execVfDisable_keeps {m : Nat} {s u : State} (h : Keeps m s u) (hm : m &&& 317086736292807374711105002465 = 317086736292807374711105002465) (n : Nat) : OutKeeps m s (execVfDisable n u) := by
  unfold execVfDisable
  with_reducible repeat' (first | assumption | intro _ | exact sub_mask hm rfl | rfl | apply State.setFunc_keeps | apply State.flr_keeps | apply ite_keep | apply foldl_keep | apply outKeep_next | apply ite_outKeep | split | dsimp only)
theorem execBusMasterEnableWrite_keeps {m : Nat} {s u : State} (h : Keeps m s u) (hm : m &&& 316912650679634962930594483169 = 316912650679634962930594483169) (fn : Nat) (bme : Bool) (ptm : Bool) : OutKeeps m s (execBusMasterEnableWrite fn bme ptm u) := by
  unfold execBusMasterEnableWrite
  with_reducible repeat' (first | assumption | intro _ | exact sub_mask hm rfl | rfl | apply State.setFunc_keeps | apply State.dxFill_keeps | apply State.vecRelease_keeps | apply State.ringsDisable_keeps | apply ite_keep | apply foldl_keep | apply outKeep_next | apply ite_outKeep | split | dsimp only)
theorem State.doorbell_keeps {m : Nat} {s u : State} (h : Keeps m s u) (hm : m &&& 316912650057057350374175804393 = 316912650057057350374175804393) (w : Wr) (off : Nat) (f : State → State) (k : ∀ v, Keeps m s v → Keeps m s (f v)) : Keeps m s (State.doorbell u w off f) := by
  unfold State.doorbell
  with_reducible repeat' (first | assumption | intro _ | apply k | exact sub_mask hm rfl | rfl | apply State.flushHeld_keeps | apply State.reservedHit_keeps | apply State.widthHit_keeps | apply ite_keep | apply foldl_keep | split | dsimp only)
theorem State.beamOff_keeps {m : Nat} {s u : State} (h : Keeps m s u) (hm : m &&& 316912650057057350374175812065 = 316912650057057350374175812065) (b : Nat) : Keeps m s (State.beamOff u b) := by
  unfold State.beamOff
  with_reducible repeat' (first | assumption | intro _ | exact sub_mask hm rfl | rfl | apply State.stageRange_keeps | apply ite_keep | apply foldl_keep | split | dsimp only)
theorem State.muteBeams_keeps {m : Nat} {s u : State} (h : Keeps m s u) (hm : m &&& 316912650057057386658059528673 = 316912650057057386658059528673) (b : Nat) : Keeps m s (State.muteBeams u b) := by
  unfold State.muteBeams
  with_reducible repeat' (first | assumption | intro _ | exact sub_mask hm rfl | rfl | apply State.beamEndItems_keeps | apply State.beamOff_keeps | apply State.setBeam_keeps | apply ite_keep | apply foldl_keep | split | dsimp only)
theorem State.suspendGrants_keeps {m : Nat} {s u : State} (h : Keeps m s u) (hm : m &&& 316912650130844326669022398945 = 316912650130844326669022398945) (b : Nat) : Keeps m s (State.suspendGrants u b) := by
  unfold State.suspendGrants
  with_reducible repeat' (first | assumption | intro _ | exact sub_mask hm rfl | rfl | apply State.grantSuspend_keeps | apply ite_keep | apply foldl_keep | split | dsimp only)
theorem State.abortBorough_keeps {m : Nat} {s u : State} (h : Keeps m s u) (hm : m &&& 951975890279633847642465036769 = 951975890279633847642465036769) (b : Nat) : Keeps m s (State.abortBorough u b) := by
  unfold State.abortBorough
  with_reducible repeat' (first | assumption | intro _ | exact sub_mask hm rfl | rfl | apply State.finishCmd_keeps | apply State.showBeam_keeps | apply State.showPend_keeps | apply ite_keep | apply foldl_keep | split | dsimp only | apply keep_staged)
theorem State.queReset_keeps {m : Nat} {s u : State} (h : Keeps m s u) (hm : m &&& 316912650236913175530308110817 = 316912650236913175530308110817) (q : Nat) : Keeps m s (State.queReset u q) := by
  unfold State.queReset
  with_reducible repeat' (first | assumption | intro _ | exact sub_mask hm rfl | rfl | apply State.releaseCapture_keeps | apply State.queEmpty_keeps | apply State.put_keeps | apply State.setQue_keeps | apply ite_keep | apply foldl_keep | apply ite_keep2 | apply foldl_keep2 | split | refine pairKeep2 (by assumption) ?_ | dsimp only | apply keep_units)
theorem State.eventsDrop_keeps {m : Nat} {s u : State} (h : Keeps m s u) (hm : m &&& 96 = 96) (b : Nat) : Keeps m s (State.eventsDrop u b) := by
  unfold State.eventsDrop
  with_reducible repeat' (first | assumption | intro _ | exact sub_mask hm rfl | rfl | apply ite_keep | apply foldl_keep | split | dsimp only | apply keep_router_windows)
theorem State.boroughReset_keeps {m : Nat} {s u : State} (h : Keeps m s u) (hm : m &&& 952130633891349271252037331425 = 952130633891349271252037331425) (b : Nat) : Keeps m s (State.boroughReset u b) := by
  unfold State.boroughReset
  with_reducible repeat' (first | assumption | intro _ | exact sub_mask hm rfl | rfl | apply State.raise_keeps | apply State.put_keeps | apply State.suspendGrants_keeps | apply State.muteBeams_keeps | apply State.abortBorough_keeps | apply State.queReset_keeps | apply State.jobAbort_keeps | apply State.eventsDrop_keeps | apply State.deliveriesOff_keeps | apply State.ringsDisable_keeps | apply State.dxDone_keeps | apply State.bump_keeps | apply ite_keep | apply foldl_keep | split | dsimp only | apply keep_tags)
theorem State.brgCtlWrite_keeps {m : Nat} {s u : State} (h : Keeps m s u) (hm : m &&& 952130633891349271252037331425 = 952130633891349271252037331425) (b : Nat) (w : Wr) : Keeps m s (State.brgCtlWrite u b w) := by
  unfold State.brgCtlWrite
  with_reducible repeat' (first | assumption | intro _ | exact sub_mask hm rfl | rfl | apply State.mergeRaw_keeps | apply State.boroughReset_keeps | apply ite_keep | apply foldl_keep | split | dsimp only)
theorem State.deliveryTaken_keeps {m : Nat} {s u : State} (h : Keeps m s u) (hm : m &&& 317067392561968022908538194401 = 317067392561968022908538194401) (b : Nat) (i : Nat) (v : Nat) : Keeps m s (State.deliveryTaken u b i v) := by
  unfold State.deliveryTaken
  with_reducible repeat' (first | assumption | intro _ | exact sub_mask hm rfl | rfl | apply State.raise_keeps | apply State.setDelivery_keeps | apply ite_keep | apply foldl_keep | split | dsimp only)
theorem execDeliveryDoorbell_keeps {m : Nat} {s u : State} (h : Keeps m s u) (hm : m &&& 317067392561968022908538194921 = 317067392561968022908538194921) (i : Nat) (w : Wr) : OutKeeps m s (execDeliveryDoorbell i w u) := by
  unfold execDeliveryDoorbell
  with_reducible repeat' (first | assumption | intro _ | exact sub_mask hm rfl | rfl | apply State.doorbell_keeps | apply State.deliveryTaken_keeps | apply State.reservedHit_keeps | apply ite_keep | apply foldl_keep | apply outKeep_next | apply ite_outKeep | split | dsimp only)
theorem execBoroughResetDone_keeps {m : Nat} {s u : State} (h : Keeps m s u) (hm : m &&& 316912650057057350374175803873 = 316912650057057350374175803873) (b : Nat) : OutKeeps m s (execBoroughResetDone b u) := by
  unfold execBoroughResetDone
  with_reducible repeat' (first | assumption | intro _ | exact sub_mask hm rfl | rfl | apply State.raise_keeps | apply State.bump_keeps | apply State.put_keeps | apply ite_keep | apply foldl_keep | apply outKeep_next | apply ite_outKeep | split | dsimp only)
theorem execBrgCtlReset_keeps {m : Nat} {s u : State} (h : Keeps m s u) (hm : m &&& 952130633891349271252037331945 = 952130633891349271252037331945) (b : Nat) (w : Wr) : OutKeeps m s (execBrgCtlReset b w u) := by
  unfold execBrgCtlReset
  with_reducible repeat' (first | assumption | intro _ | exact sub_mask hm rfl | rfl | apply State.flushHeld_keeps | apply State.brgCtlWrite_keeps | apply State.reservedHit_keeps | apply ite_keep | apply foldl_keep | apply outKeep_next | apply ite_outKeep | split | dsimp only)
theorem State.setEntry_keeps {m : Nat} {s u : State} (h : Keeps m s u) (hm : m &&& 618970019642690137449562112 = 618970019642690137449562112) (e : Nat) (x : Option GazEntry) : Keeps m s (State.setEntry u e x) := by
  unfold State.setEntry
  with_reducible repeat' (first | assumption | intro _ | exact sub_mask hm rfl | rfl | apply ite_keep | apply foldl_keep | split | dsimp only | apply keep_gaz)
theorem State.gazNote_keeps {m : Nat} {s u : State} (h : Keeps m s u) (hm : m &&& 618970019642690137449562112 = 618970019642690137449562112) (e : Nat) (status : Nat) (ep : Nat) : Keeps m s (State.gazNote u e status ep) := by
  unfold State.gazNote
  with_reducible repeat' (first | assumption | intro _ | exact sub_mask hm rfl | rfl | apply State.setEntry_keeps | apply ite_keep | apply foldl_keep | split | dsimp only)
theorem State.gazTooLate_keeps {m : Nat} {s u : State} (h : Keeps m s u) (hm : m &&& 1856910058928070412348686336 = 1856910058928070412348686336) (d : Nat) (e : Nat) (x : GazSend) : Keeps m s (State.gazTooLate u d e x) := by
  unfold State.gazTooLate
  with_reducible repeat' (first | assumption | intro _ | exact sub_mask hm rfl | rfl | apply State.setEntry_keeps | apply State.setSend_keeps | apply ite_keep | apply foldl_keep | split | dsimp only)
theorem State.showSend_keeps {m : Nat} {s u : State} (h : Keeps m s u) (hm : m &&& 1 = 1) (d : Nat) : Keeps m s (State.showSend u d) := by
  unfold State.showSend
  with_reducible repeat' (first | assumption | intro _ | exact sub_mask hm rfl | rfl | apply State.put_keeps | apply State.wn_keeps | apply State.wr64_keeps | apply ite_keep | apply foldl_keep | split | dsimp only)
theorem State.gazFinish_keeps {m : Nat} {s u : State} (h : Keeps m s u) (hm : m &&& 952594860299276537779914590689 = 952594860299276537779914590689) (d : Nat) : Keeps m s (State.gazFinish u d) := by
  unfold State.gazFinish
  with_reducible repeat' (first | assumption | intro _ | exact sub_mask hm rfl | rfl | apply State.gazTooLate_keeps | apply State.setEntry_keeps | apply State.showSend_keeps | apply State.setSend_keeps | apply State.finishCmd_keeps | apply State.raise_keeps | apply ite_keep | apply foldl_keep | split | dsimp only)
theorem State.gazCheck_keeps {m : Nat} {s u : State} (h : Keeps m s u) (hm : m &&& 952594860299276537779914590689 = 952594860299276537779914590689) (d : Nat) : Keeps m s (State.gazCheck u d) := by
  unfold State.gazCheck
  with_reducible repeat' (first | assumption | intro _ | exact sub_mask hm rfl | rfl | apply State.gazFinish_keeps | apply State.showSend_keeps | apply ite_keep | apply foldl_keep | split | dsimp only)
theorem State.gazOutcome_keeps {m : Nat} {s u : State} (h : Keeps m s u) (hm : m &&& 952594860299276537779914590689 = 952594860299276537779914590689) (d : Nat) (x : GazSend) (c : GazCopy) (status : Nat) (res : List Word) : Keeps m s (State.gazOutcome u d x c status res) := by
  unfold State.gazOutcome
  with_reducible repeat' (first | assumption | intro _ | exact sub_mask hm rfl | rfl | apply State.gazNote_keeps | apply State.bumpSat_keeps | apply State.setSend_keeps | apply State.raise_keeps | apply State.gazCheck_keeps | apply ite_keep | apply foldl_keep | split | dsimp only)
theorem State.gazTransmit_keeps {m : Nat} {s u : State} (h : Keeps m s u) (hm : m &&& 316912650057058476274082643969 = 316912650057058476274082643969) (x : GazEntry) (pkt : List Byte) : Keeps m s (State.gazTransmit u x pkt) := by
  unfold State.gazTransmit
  with_reducible repeat' (first | assumption | intro _ | exact sub_mask hm rfl | rfl | apply State.wr64_keeps | apply State.sendTx_keeps | apply State.sendUdp_keeps | apply ite_keep | apply foldl_keep | split | dsimp only)
theorem execGazRetry_keeps {m : Nat} {s u : State} (h : Keeps m s u) (hm : m &&& 318150590096343856548981768193 = 318150590096343856548981768193) (d : Nat) (e : Nat) : OutKeeps m s (execGazRetry d e u) := by
  unfold execGazRetry
  with_reducible repeat' (first | assumption | intro _ | exact sub_mask hm rfl | rfl | apply State.gazTransmit_keeps | apply State.setSend_keeps | apply ite_keep | apply foldl_keep | apply outKeep_next | apply ite_outKeep | split | dsimp only)
theorem State.lateReply_keeps {m : Nat} {s u : State} (h : Keeps m s u) (hm : m &&& 316912650057057350374179998177 = 316912650057057350374179998177) : Keeps m s (State.lateReply u) := by
  unfold State.lateReply
  with_reducible repeat' (first | assumption | intro _ | exact sub_mask hm rfl | rfl | apply State.bumpSat_keeps | apply State.raise_keeps | apply ite_keep | apply foldl_keep | split | dsimp only | apply keep_lateAt)
theorem State.gazReply_keeps {m : Nat} {s u : State} (h : Keeps m s u) (hm : m &&& 952594860299276537779918784993 = 952594860299276537779918784993) (e : Nat) (l : List Word) : Keeps m s (State.gazReply u e l) := by
  unfold State.gazReply
  with_reducible repeat' (first | assumption | intro _ | exact sub_mask hm rfl | rfl | apply State.gazOutcome_keeps | apply State.lateReply_keeps | apply ite_keep | apply foldl_keep | split | dsimp only)
theorem State.authFail_keeps {m : Nat} {s u : State} (h : Keeps m s u) (hm : m &&& 316912650057057350374175803873 = 316912650057057350374175803873) (b : Nat) : Keeps m s (State.authFail u b) := by
  unfold State.authFail
  with_reducible repeat' (first | assumption | intro _ | exact sub_mask hm rfl | rfl | apply State.raise_keeps | apply State.bumpSat_keeps | apply ite_keep | apply foldl_keep | split | dsimp only)
theorem State.gazReceive_keeps {m : Nat} {s u : State} (h : Keeps m s u) (hm : m &&& 952594860299276537779918784993 = 952594860299276537779918784993) (e : Nat) (env : List Byte) : Keeps m s (State.gazReceive u e env) := by
  unfold State.gazReceive
  with_reducible repeat' (first | assumption | intro _ | exact sub_mask hm rfl | rfl | apply State.gazReply_keeps | apply State.authFail_keeps | apply ite_keep | apply foldl_keep | split | dsimp only)
theorem State.reportRefuse_keeps {m : Nat} {s u : State} (h : Keeps m s u) (hm : m &&& 321864410214198871473772300769 = 321864410214198871473772300769) : Keeps m s (State.reportRefuse u) := by
  unfold State.reportRefuse
  with_reducible repeat' (first | assumption | intro _ | exact sub_mask hm rfl | rfl | apply State.bumpSat_keeps | apply State.raise_keeps | apply ite_keep | apply foldl_keep | split | dsimp only | apply keep_gazBook)
theorem State.showDigests_keeps {m : Nat} {s u : State} (h : Keeps m s u) (hm : m &&& 1 = 1) : Keeps m s (State.showDigests u) := by
  unfold State.showDigests
  with_reducible repeat' (first | assumption | intro _ | exact sub_mask hm rfl | rfl | apply State.put_keeps | apply ite_keep | apply foldl_keep | split | dsimp only)
theorem State.reportFold_keeps {m : Nat} {s u : State} (h : Keeps m s u) (hm : m &&& 324340290292769632023570549217 = 324340290292769632023570549217) (subject : Nat) (cls : Nat) (reporter : Nat) : Keeps m s (State.reportFold u subject cls reporter) := by
  unfold State.reportFold
  with_reducible repeat' (first | assumption | intro _ | exact sub_mask hm rfl | rfl | apply State.bumpSat_keeps | apply State.raise_keeps | apply State.showDigests_keeps | apply ite_keep | apply foldl_keep | split | dsimp only | apply keep_digests_gazBook | apply keep_gazBook)
theorem execGazOutcomeRx_keeps {m : Nat} {s u : State} (h : Keeps m s u) (hm : m &&& 952594860299276537779918784993 = 952594860299276537779918784993) (e : Nat) (env : List Byte) : OutKeeps m s (execGazOutcomeRx e env u) := by
  unfold execGazOutcomeRx
  with_reducible repeat' (first | assumption | intro _ | exact sub_mask hm rfl | rfl | apply State.gazReceive_keeps | apply ite_keep | apply foldl_keep | apply outKeep_next | apply ite_outKeep | split | dsimp only)
theorem execGazCollectEnd_keeps {m : Nat} {s u : State} (h : Keeps m s u) (hm : m &&& 952594860299276537779914590689 = 952594860299276537779914590689) (d : Nat) : OutKeeps m s (execGazCollectEnd d u) := by
  unfold execGazCollectEnd
  with_reducible repeat' (first | assumption | intro _ | exact sub_mask hm rfl | rfl | apply State.gazFinish_keeps | apply ite_keep | apply foldl_keep | apply outKeep_next | apply ite_outKeep | split | dsimp only)
theorem State.digestClose_keeps {m : Nat} {s u : State} (h : Keeps m s u) (hm : m &&& 324959260312412357345392200161 = 324959260312412357345392200161) (x : Digest) : Keeps m s (State.digestClose u x) := by
  unfold State.digestClose
  with_reducible repeat' (first | assumption | intro _ | exact sub_mask hm rfl | rfl | apply State.sendItem_keeps | apply State.bumpSat_keeps | apply State.setEntry_keeps | apply State.showDigests_keeps | apply State.raise_keeps | apply ite_keep | apply foldl_keep | split | dsimp only | apply keep_digests_gazBook | apply keep_gazBook)
theorem execDigestClose_keeps {m : Nat} {s u : State} (h : Keeps m s u) (hm : m &&& 324959260312412357345392200161 = 324959260312412357345392200161) (subject : Nat) (cls : Nat) : OutKeeps m s (execDigestClose subject cls u) := by
  unfold execDigestClose
  with_reducible repeat' (first | assumption | intro _ | exact sub_mask hm rfl | rfl | apply State.digestClose_keeps | apply ite_keep | apply foldl_keep | apply outKeep_next | apply ite_outKeep | split | dsimp only)
theorem execGazCopyTx_keeps {m : Nat} {s u : State} (h : Keeps m s u) (hm : m &&& 957546620456418058879511087585 = 957546620456418058879511087585) (d : Nat) : OutKeeps m s (execGazCopyTx d u) := by
  unfold execGazCopyTx
  with_reducible repeat' (first | assumption | intro _ | exact sub_mask hm rfl | rfl | apply State.gazCheck_keeps | apply State.gazTooLate_keeps | apply State.setEntry_keeps | apply State.gazTransmit_keeps | apply State.setSend_keeps | apply ite_keep | apply foldl_keep | apply outKeep_next | apply ite_outKeep | split | dsimp only | apply keep_gazBook)
theorem State.faultReport_keeps {m : Nat} {s u : State} (h : Keeps m s u) (hm : m &&& 324959260312412357345392200161 = 324959260312412357345392200161) (l : List Byte) : Keeps m s (State.faultReport u l) := by
  unfold State.faultReport
  with_reducible repeat' (first | assumption | intro _ | exact sub_mask hm rfl | rfl | apply State.reportRefuse_keeps | apply State.digestClose_keeps | apply State.reportFold_keeps | apply ite_keep | apply foldl_keep | split | dsimp only)
theorem execFaultReportRx_keeps {m : Nat} {s u : State} (h : Keeps m s u) (hm : m &&& 324959260312412357345392200161 = 324959260312412357345392200161) (payload : List Byte) : OutKeeps m s (execFaultReportRx payload u) := by
  unfold execFaultReportRx
  with_reducible repeat' (first | assumption | intro _ | exact sub_mask hm rfl | rfl | apply State.faultReport_keeps | apply ite_keep | apply foldl_keep | apply outKeep_next | apply ite_outKeep | split | dsimp only)
theorem State.tmaskBit_keeps {m : Nat} {s u : State} (h : Keeps m s u) (hm : m &&& 1 = 1) (b : Nat) (n : Nat) (on : Bool) : Keeps m s (State.tmaskBit u b n on) := by
  unfold State.tmaskBit
  with_reducible repeat' (first | assumption | intro _ | exact sub_mask hm rfl | rfl | apply State.wn_keeps | apply ite_keep | apply foldl_keep | split | dsimp only)
theorem State.sourceBell_keeps {m : Nat} {s u : State} (h : Keeps m s u) (hm : m &&& 316912650057057350374175803873 = 316912650057057350374175803873) (w : Wr) : Keeps m s (State.sourceBell u w) := by
  unfold State.sourceBell
  with_reducible repeat' (first | assumption | intro _ | exact sub_mask hm rfl | rfl | apply State.raise_keeps | apply State.tmaskBit_keeps | apply ite_keep | apply foldl_keep | split | dsimp only)
theorem execDbEvtSrc_keeps {m : Nat} {s u : State} (h : Keeps m s u) (hm : m &&& 316912650057057350374175804393 = 316912650057057350374175804393) (w : Wr) : OutKeeps m s (execDbEvtSrc w u) := by
  unfold execDbEvtSrc
  with_reducible repeat' (first | assumption | intro _ | exact sub_mask hm rfl | rfl | apply State.doorbell_keeps | apply State.sourceBell_keeps | apply ite_keep | apply foldl_keep | apply outKeep_next | apply ite_outKeep | split | dsimp only)
theorem State.showLog_keeps {m : Nat} {s u : State} (h : Keeps m s u) (hm : m &&& 1 = 1) : Keeps m s (State.showLog u) := by
  unfold State.showLog
  with_reducible repeat' (first | assumption | intro _ | exact sub_mask hm rfl | rfl | apply State.put_keeps | apply State.wr64_keeps | apply ite_keep | apply foldl_keep | split | dsimp only)
theorem State.logScan_keeps {m : Nat} {s u : State} (h : Keeps m s u) (hm : m &&& 316912650057057350374175803873 = 316912650057057350374175803873) : Keeps m s (State.logScan u) := by
  unfold State.logScan
  with_reducible repeat' (first | assumption | intro _ | exact sub_mask hm rfl | rfl | apply State.put_keeps | apply State.showLog_keeps | apply State.raise_keeps | apply ite_keep | apply foldl_keep | split | dsimp only | apply keep_log)
theorem execLogScan_keeps {m : Nat} {s u : State} (h : Keeps m s u) (hm : m &&& 316912650057057350374175803873 = 316912650057057350374175803873) : OutKeeps m s (execLogScan u) := by
  unfold execLogScan
  with_reducible repeat' (first | assumption | intro _ | exact sub_mask hm rfl | rfl | apply State.logScan_keeps | apply ite_keep | apply foldl_keep | apply outKeep_next | apply ite_outKeep | split | dsimp only)
theorem execEvtPendWrite_keeps {m : Nat} {s u : State} (h : Keeps m s u) (hm : m &&& 316912650057057350374175804393 = 316912650057057350374175804393) (k0 : Nat) (w : Wr) : OutKeeps m s (execEvtPendWrite k0 w u) := by
  unfold execEvtPendWrite
  with_reducible repeat' (first | assumption | intro _ | exact sub_mask hm rfl | rfl | apply State.pfOnly_keeps | apply State.mergeRaw_keeps | apply ite_keep | apply foldl_keep | apply outKeep_next | apply ite_outKeep | split | dsimp only)
theorem State.everyBell_keeps {m : Nat} {s u : State} (h : Keeps m s u) (hm : m &&& 1 = 1) (w : Wr) : Keeps m s (State.everyBell u w) := by
  unfold State.everyBell
  with_reducible repeat' (first | assumption | intro _ | exact sub_mask hm rfl | rfl | apply State.tmaskBit_keeps | apply ite_keep | apply foldl_keep | split | dsimp only)
theorem execEvtWindowEnd_keeps {m : Nat} {s u : State} (h : Keeps m s u) (hm : m &&& 97 = 97) : OutKeeps m s (execEvtWindowEnd u) := by
  unfold execEvtWindowEnd
  with_reducible repeat' (first | assumption | intro _ | exact sub_mask hm rfl | rfl | apply State.closeWindow_keeps | apply ite_keep | apply foldl_keep | apply outKeep_next | apply ite_outKeep | split | dsimp only)
theorem State.logSector_keeps {m : Nat} {s u : State} (h : Keeps m s u) (hm : m &&& 20599322253711033617399360260577 = 20599322253711033617399360260577) (sector : Nat) : Keeps m s (State.logSector u sector).1 := by
  unfold State.logSector
  with_reducible repeat' (first | assumption | intro _ | exact sub_mask hm rfl | rfl | apply State.mramFail_keeps | apply State.put_keeps | apply ite_keep | apply foldl_keep | apply ite_keep1 | apply foldl_keep1 | split | refine pairKeep1 (by assumption) ?_ | dsimp only)
theorem State.logCheck_keeps {m : Nat} {s u : State} (h : Keeps m s u) (hm : m &&& 20599322253711033617399360260577 = 20599322253711033617399360260577) (i : Nat) (fails : Nat) : Keeps m s (State.logCheck u i fails).1 := by
  unfold State.logCheck
  with_reducible repeat' (first | assumption | intro _ | exact sub_mask hm rfl | rfl | apply State.bump_keeps | apply State.logSector_keeps | apply State.raise_keeps | apply State.put_keeps | apply ite_keep | apply foldl_keep | apply ite_keep1 | apply foldl_keep1 | split | refine pairKeep1 (by assumption) ?_ | dsimp only)
theorem State.logPut_keeps {m : Nat} {s u : State} (h : Keeps m s u) (hm : m &&& 257 = 257) (i : Nat) (x : LogSlot) : Keeps m s (State.logPut u i x) := by
  unfold State.logPut
  with_reducible repeat' (first | assumption | intro _ | exact sub_mask hm rfl | rfl | apply State.showLog_keeps | apply ite_keep | apply foldl_keep | split | dsimp only | apply keep_log)
theorem State.logRefuse_keeps {m : Nat} {s u : State} (h : Keeps m s u) (hm : m &&& 316912650057057350374175803873 = 316912650057057350374175803873) : Keeps m s (State.logRefuse u) := by
  unfold State.logRefuse
  with_reducible repeat' (first | assumption | intro _ | exact sub_mask hm rfl | rfl | apply State.bumpSat_keeps | apply State.raise_keeps | apply State.put_keeps | apply ite_keep | apply foldl_keep | split | dsimp only)
theorem State.logItem_keeps {m : Nat} {s u : State} (h : Keeps m s u) (hm : m &&& 20599322253711033617399360260577 = 20599322253711033617399360260577) (i : StageItem) (fails : Nat) : Keeps m s (State.logItem u i fails) := by
  unfold State.logItem
  with_reducible repeat' (first | assumption | intro _ | exact sub_mask hm rfl | rfl | apply State.logCheck_keeps | apply State.logPut_keeps | apply State.logRefuse_keeps | apply ite_keep | apply foldl_keep | apply ite_keep1 | apply foldl_keep1 | split | refine pairKeep1 (by assumption) ?_ | dsimp only)
theorem execLogWrite_keeps {m : Nat} {s u : State} (h : Keeps m s u) (hm : m &&& 20599322253711033617399360260577 = 20599322253711033617399360260577) (fails : Nat) : OutKeeps m s (execLogWrite fails u) := by
  unfold execLogWrite
  with_reducible repeat' (first | assumption | intro _ | exact sub_mask hm rfl | rfl | apply State.logItem_keeps | apply ite_keep | apply foldl_keep | apply outKeep_next | apply ite_outKeep | split | dsimp only | apply keep_stageQ)
theorem execDbEvtAll_keeps {m : Nat} {s u : State} (h : Keeps m s u) (hm : m &&& 316912650057057350374175804393 = 316912650057057350374175804393) (w : Wr) : OutKeeps m s (execDbEvtAll w u) := by
  unfold execDbEvtAll
  with_reducible repeat' (first | assumption | intro _ | exact sub_mask hm rfl | rfl | apply State.doorbell_keeps | apply State.everyBell_keeps | apply ite_keep | apply foldl_keep | apply outKeep_next | apply ite_outKeep | split | dsimp only)
theorem State.pageFar_keeps {m : Nat} {s u : State} (h : Keeps m s u) (hm : m &&& 950737950203453853320238598625 = 950737950203453853320238598625) (q : Nat) (id : Nat) : Keeps m s (State.pageFar u q id) := by
  unfold State.pageFar
  with_reducible repeat' (first | assumption | intro _ | exact sub_mask hm rfl | rfl | apply State.takePlot_keeps | apply State.setPlot_keeps | apply State.showQue_keeps | apply State.freePlot_keeps | apply State.setQue_keeps | apply ite_keep | apply foldl_keep | apply ite_keep2 | apply foldl_keep2 | split | refine pairKeep2 (by assumption) ?_ | dsimp only)
theorem State.pageAll_keeps {m : Nat} {s u : State} (h : Keeps m s u) (hm : m &&& 950737950203453853320238598625 = 950737950203453853320238598625) : Keeps m s (State.pageAll u) := by
  unfold State.pageAll
  with_reducible repeat' (first | assumption | intro _ | exact sub_mask hm rfl | rfl | apply State.pageFar_keeps | apply ite_keep | apply foldl_keep | split | dsimp only)
theorem State.engSwapDone_keeps {m : Nat} {s u : State} (h : Keeps m s u) (hm : m &&& 326816170371340392642088274401 = 326816170371340392642088274401) (x : EngSwap) : Keeps m s (State.engSwapDone u x) := by
  unfold State.engSwapDone
  with_reducible repeat' (first | assumption | intro _ | exact sub_mask hm rfl | rfl | apply State.put_keeps | apply State.raise_keeps | apply State.useSpare_keeps | apply ite_keep | apply foldl_keep | split | dsimp only | apply keep_engSwaps)
theorem State.slotRetire_keeps {m : Nat} {s u : State} (h : Keeps m s u) (hm : m &&& 316912650057057772655360354785 = 316912650057057772655360354785) (n : Nat) : Keeps m s (State.slotRetire u n) := by
  unfold State.slotRetire
  with_reducible repeat' (first | assumption | intro _ | exact sub_mask hm rfl | rfl | apply State.stage_keeps | apply State.wearCheck_keeps | apply ite_keep | apply foldl_keep | split | dsimp only | apply keep_failingSlots_retiredSlots)
theorem State.engSubstitute_keeps {m : Nat} {s u : State} (h : Keeps m s u) (hm : m &&& 326816170371340814854553348577 = 326816170371340814854553348577) (p : Nat) (policy : Bool) : Keeps m s (State.engSubstitute u p policy) := by
  unfold State.engSubstitute
  with_reducible repeat' (first | assumption | intro _ | exact sub_mask hm rfl | rfl | apply State.put_keeps | apply State.engSwapDone_keeps | apply State.stage_keeps | apply State.slotRetire_keeps | apply State.policyLog_keeps | apply ite_keep | apply foldl_keep | split | dsimp only | apply keep_engSwaps)
theorem State.coreReplace_keeps {m : Nat} {s u : State} (h : Keeps m s u) (hm : m &&& 316912650057057350442895280609 = 316912650057057350442895280609) (k0 : Nat) (policy : Bool) : Keeps m s (State.coreReplace u k0 policy) := by
  unfold State.coreReplace
  with_reducible repeat' (first | assumption | intro _ | exact sub_mask hm rfl | rfl | apply State.raise_keeps | apply State.useSpare_keeps | apply State.put_keeps | apply State.policyLog_keeps | apply ite_keep | apply foldl_keep | split | dsimp only)
theorem State.coreSubstitute_keeps {m : Nat} {s u : State} (h : Keeps m s u) (hm : m &&& 316912650057057350442895280609 = 316912650057057350442895280609) (k0 : Nat) (policy : Bool) : Keeps m s (State.coreSubstitute u k0 policy) := by
  unfold State.coreSubstitute
  with_reducible repeat' (first | assumption | intro _ | exact sub_mask hm rfl | rfl | apply State.coreReplace_keeps | apply State.put_keeps | apply ite_keep | apply foldl_keep | split | dsimp only)
theorem execCoreFail_keeps {m : Nat} {s u : State} (h : Keeps m s u) (hm : m &&& 991589971536766016439237003745 = 991589971536766016439237003745) (k0 : Nat) (dog : Bool) (run : Option Nat) : OutKeeps m s (execCoreFail k0 dog run u) := by
  unfold execCoreFail
  with_reducible repeat' (first | assumption | intro _ | exact sub_mask hm rfl | rfl | apply State.put_keeps | apply State.raise_keeps | apply State.finishCmd_keeps | apply State.spareExhausted_keeps | apply State.coreSubstitute_keeps | apply ite_keep | apply foldl_keep | apply outKeep_next | apply ite_outKeep | split | dsimp only | apply keep_coreDog)
theorem State.domainOff_keeps {m : Nat} {s u : State} (h : Keeps m s u) (hm : m &&& 952195918025466696197048426475 = 952195918025466696197048426475) (d : Nat) : Keeps m s (State.domainOff u d) := by
  unfold State.domainOff
  with_reducible repeat' (first | assumption | intro _ | exact sub_mask hm rfl | rfl | apply State.groupAsleep_keeps | apply State.linkForget_keeps | apply State.sheetSleep_keeps | apply State.put_keeps | apply State.flrState_keeps | apply State.excOff_keeps | apply ite_keep | apply foldl_keep | split | dsimp only | apply keep_linkUp | apply keep_pulses)
theorem State.domainAsleep_keeps {m : Nat} {s u : State} (h : Keeps m s u) (hm : m &&& 952195918025466696197048426475 = 952195918025466696197048426475) (d : Nat) : Keeps m s (State.domainAsleep u d) := by
  unfold State.domainAsleep
  with_reducible repeat' (first | assumption | intro _ | exact sub_mask hm rfl | rfl | apply State.arbSleep_keeps | apply State.put_keeps | apply State.domainOff_keeps | apply ite_keep | apply foldl_keep | split | dsimp only)
theorem State.finishDomain_keeps {m : Nat} {s u : State} (h : Keeps m s u) (hm : m &&& 951975890279633847642465028577 = 951975890279633847642465028577) (op : Nat) (d : Nat) (status : Nat) : Keeps m s (State.finishDomain u op d status) := by
  unfold State.finishDomain
  with_reducible repeat' (first | assumption | intro _ | exact sub_mask hm rfl | rfl | apply State.finishCmd_keeps | apply ite_keep | apply foldl_keep | split | dsimp only)
theorem State.domainOn_keeps {m : Nat} {s u : State} (h : Keeps m s u) (hm : m &&& 316912650647393693129527790049 = 316912650647393693129527790049) (d : Nat) : Keeps m s (State.domainOn u d) := by
  unfold State.domainOn
  with_reducible repeat' (first | assumption | intro _ | exact sub_mask hm rfl | rfl | apply State.groupWake_keeps | apply State.sheetWake_keeps | apply State.put_keeps | apply State.dxFill_keeps | apply State.excApply_keeps | apply ite_keep | apply foldl_keep | split | dsimp only | apply keep_fe)
theorem State.refusedEnd_keeps {m : Nat} {s u : State} (h : Keeps m s u) (hm : m &&& 68719476736 = 68719476736) (d : Nat) : Keeps m s (State.refusedEnd u d) := by
  unfold State.refusedEnd
  with_reducible repeat' (first | assumption | intro _ | exact sub_mask hm rfl | rfl | apply ite_keep | apply foldl_keep | split | dsimp only | apply keep_spareBook)
theorem State.domainAwake_keeps {m : Nat} {s u : State} (h : Keeps m s u) (hm : m &&& 316913859573213307827421972961 = 316913859573213307827421972961) (d : Nat) : Keeps m s (State.domainAwake u d) := by
  unfold State.domainAwake
  with_reducible repeat' (first | assumption | intro _ | exact sub_mask hm rfl | rfl | apply State.arbWake_keeps | apply State.domainOn_keeps | apply State.put_keeps | apply State.refusedEnd_keeps | apply ite_keep | apply foldl_keep | split | dsimp only)
theorem execWakeComplete_keeps {m : Nat} {s u : State} (h : Keeps m s u) (hm : m &&& 951977099795789805026991720929 = 951977099795789805026991720929) (d : Nat) : OutKeeps m s (execWakeComplete d u) := by
  unfold execWakeComplete
  with_reducible repeat' (first | assumption | intro _ | exact sub_mask hm rfl | rfl | apply State.finishDomain_keeps | apply State.raise_keeps | apply State.domainAwake_keeps | apply ite_keep | apply foldl_keep | apply outKeep_next | apply ite_outKeep | split | dsimp only)
theorem State.slotSubstitute_keeps {m : Nat} {s u : State} (h : Keeps m s u) (hm : m &&& 316912650057057772655360354785 = 316912650057057772655360354785) (n : Nat) (policy : Bool) : Keeps m s (State.slotSubstitute u n policy) := by
  unfold State.slotSubstitute
  with_reducible repeat' (first | assumption | intro _ | exact sub_mask hm rfl | rfl | apply State.slotRetire_keeps | apply State.stage_keeps | apply State.raise_keeps | apply State.useSpare_keeps | apply State.policyLog_keeps | apply ite_keep | apply foldl_keep | split | dsimp only | apply keep_failingSlots_retiredSlots)
theorem execSlotFail_keeps {m : Nat} {s u : State} (h : Keeps m s u) (hm : m &&& 316912650057057772655360354785 = 316912650057057772655360354785) (n : Nat) : OutKeeps m s (execSlotFail n u) := by
  unfold execSlotFail
  with_reducible repeat' (first | assumption | intro _ | exact sub_mask hm rfl | rfl | apply State.raise_keeps | apply State.spareExhausted_keeps | apply State.slotSubstitute_keeps | apply ite_keep | apply foldl_keep | apply outKeep_next | apply ite_outKeep | split | dsimp only | apply keep_failingSlots)
theorem execDrainComplete_keeps {m : Nat} {s u : State} (h : Keeps m s u) (hm : m &&& 952195918025466696197048426475 = 952195918025466696197048426475) (d : Nat) : OutKeeps m s (execDrainComplete d u) := by
  unfold execDrainComplete
  with_reducible repeat' (first | assumption | intro _ | exact sub_mask hm rfl | rfl | apply State.pageAll_keeps | apply State.finishDomain_keeps | apply State.raise_keeps | apply State.domainAsleep_keeps | apply ite_keep | apply foldl_keep | apply outKeep_next | apply ite_outKeep | split | dsimp only)
theorem State.domStamp_keeps {m : Nat} {s u : State} (h : Keeps m s u) (hm : m &&& 68719476736 = 68719476736) (d : Nat) : Keeps m s (State.domStamp u d) := by
  unfold State.domStamp
  with_reducible repeat' (first | assumption | intro _ | exact sub_mask hm rfl | rfl | apply ite_keep | apply foldl_keep | split | dsimp only | apply keep_spareBook)
theorem State.refuseItems_keeps {m : Nat} {s u : State} (h : Keeps m s u) (hm : m &&& 633825300114114700748351602689 = 633825300114114700748351602689) (d : Nat) : Keeps m s (State.refuseItems u d) := by
  unfold State.refuseItems
  with_reducible repeat' (first | assumption | intro _ | exact sub_mask hm rfl | rfl | apply State.draw_keeps | apply State.bump_keeps | apply ite_keep | apply foldl_keep | apply ite_keep2 | apply foldl_keep2 | split | refine pairKeep2 (by assumption) ?_ | dsimp only)
theorem State.pwrDown_keeps {m : Nat} {s u : State} (h : Keeps m s u) (hm : m &&& 633825300114114700817071079425 = 633825300114114700817071079425) (d : Nat) : Keeps m s (State.pwrDown u d).2 := by
  unfold State.pwrDown
  with_reducible repeat' (first | assumption | intro _ | exact sub_mask hm rfl | rfl | apply State.put_keeps | apply State.domStamp_keeps | apply State.refuseItems_keeps | apply ite_keep | apply foldl_keep | apply ite_keep2 | apply foldl_keep2 | split | dsimp only)
theorem State.pwrUp_keeps {m : Nat} {s u : State} (h : Keeps m s u) (hm : m &&& 68786585601 = 68786585601) (d : Nat) : Keeps m s (State.pwrUp u d).2 := by
  unfold State.pwrUp
  with_reducible repeat' (first | assumption | intro _ | exact sub_mask hm rfl | rfl | apply State.put_keeps | apply State.coreStart_keeps | apply State.domStamp_keeps | apply ite_keep | apply foldl_keep | apply ite_keep2 | apply foldl_keep2 | split | dsimp only)
theorem State.pwrDomWrite_keeps {m : Nat} {s u : State} (h : Keeps m s u) (hm : m &&& 950737950171172051191313992161 = 950737950171172051191313992161) (d : Nat) (w : Wr) : Keeps m s (State.pwrDomWrite u d w) := by
  unfold State.pwrDomWrite
  with_reducible repeat' (first | assumption | intro _ | exact sub_mask hm rfl | rfl | apply State.raise_keeps | apply State.mergeRaw_keeps | apply State.pwrDown_keeps | apply State.pwrUp_keeps | apply ite_keep | apply foldl_keep | apply ite_keep2 | apply foldl_keep2 | split | refine pairKeep2 (by assumption) ?_ | dsimp only)
theorem State.engFail_keeps {m : Nat} {s u : State} (h : Keeps m s u) (hm : m &&& 326816170371340814854553348577 = 326816170371340814854553348577) (p : Nat) : Keeps m s (State.engFail u p) := by
  unfold State.engFail
  with_reducible repeat' (first | assumption | intro _ | exact sub_mask hm rfl | rfl | apply State.raise_keeps | apply State.put_keeps | apply State.spareExhausted_keeps | apply State.engSubstitute_keeps | apply ite_keep | apply foldl_keep | split | dsimp only)
theorem execEngFail_keeps {m : Nat} {s u : State} (h : Keeps m s u) (hm : m &&& 346623210999906899252939336161 = 346623210999906899252939336161) (p : Nat) (corrected : Bool) : OutKeeps m s (execEngFail p corrected u) := by
  unfold execEngFail
  with_reducible repeat' (first | assumption | intro _ | exact sub_mask hm rfl | rfl | apply State.engFail_keeps | apply State.put_keeps | apply ite_keep | apply foldl_keep | apply outKeep_next | apply ite_outKeep | split | dsimp only | apply keep_engErrs)
theorem execPwrDown_keeps {m : Nat} {s u : State} (h : Keeps m s u) (hm : m &&& 950737950171172051191313992681 = 950737950171172051191313992681) (d : Nat) (w : Wr) : OutKeeps m s (execPwrDown d w u) := by
  unfold execPwrDown
  with_reducible repeat' (first | assumption | intro _ | exact sub_mask hm rfl | rfl | apply State.pfOnly_keeps | apply State.pwrDomWrite_keeps | apply ite_keep | apply foldl_keep | apply outKeep_next | apply ite_outKeep | split | dsimp only)
theorem execWakeTimeout_keeps {m : Nat} {s u : State} (h : Keeps m s u) (hm : m &&& 951975890279633847642465028577 = 951975890279633847642465028577) (d : Nat) : OutKeeps m s (execWakeTimeout d u) := by
  unfold execWakeTimeout
  with_reducible repeat' (first | assumption | intro _ | exact sub_mask hm rfl | rfl | apply State.put_keeps | apply State.finishDomain_keeps | apply State.raise_keeps | apply ite_keep | apply foldl_keep | apply outKeep_next | apply ite_outKeep | split | dsimp only)
theorem execPwrUp_keeps {m : Nat} {s u : State} (h : Keeps m s u) (hm : m &&& 950737950171172051191313992681 = 950737950171172051191313992681) (d : Nat) (w : Wr) : OutKeeps m s (execPwrUp d w u) := by
  unfold execPwrUp
  with_reducible repeat' (first | assumption | intro _ | exact sub_mask hm rfl | rfl | apply State.pfOnly_keeps | apply State.pwrDomWrite_keeps | apply ite_keep | apply foldl_keep | apply outKeep_next | apply ite_outKeep | split | dsimp only)
theorem execDrainTimeout_keeps {m : Nat} {s u : State} (h : Keeps m s u) (hm : m &&& 951975890279633847642465028577 = 951975890279633847642465028577) (d : Nat) : OutKeeps m s (execDrainTimeout d u) := by
  unfold execDrainTimeout
  with_reducible repeat' (first | assumption | intro _ | exact sub_mask hm rfl | rfl | apply State.put_keeps | apply State.finishDomain_keeps | apply State.raise_keeps | apply State.refusedEnd_keeps | apply ite_keep | apply foldl_keep | apply outKeep_next | apply ite_outKeep | split | dsimp only)
theorem State.imageBad_keeps {m : Nat} {s u : State} (h : Keeps m s u) (hm : m &&& 316912650057057350374175803873 = 316912650057057350374175803873) (img : Nat) : Keeps m s (State.imageBad u img) := by
  unfold State.imageBad
  with_reducible repeat' (first | assumption | intro _ | exact sub_mask hm rfl | rfl | apply State.raise_keeps | apply ite_keep | apply foldl_keep | split | dsimp only)
theorem State.imageVerify_keeps {m : Nat} {s u : State} (h : Keeps m s u) (hm : m &&& 316912650057057350374175803873 = 316912650057057350374175803873) : Keeps m s (State.imageVerify u) := by
  unfold State.imageVerify
  with_reducible repeat' (first | assumption | intro _ | exact sub_mask hm rfl | rfl | apply State.put_keeps | apply State.imageBad_keeps | apply ite_keep | apply foldl_keep | split | dsimp only)
theorem State.fwRun_keeps {m : Nat} {s u : State} (h : Keeps m s u) (hm : m &&& 79228162514264337593543950337 = 79228162514264337593543950337) (img : Nat) : Keeps m s (State.fwRun u img) := by
  unfold State.fwRun
  with_reducible repeat' (first | assumption | intro _ | exact sub_mask hm rfl | rfl | apply State.wn_keeps | apply State.put_keeps | apply ite_keep | apply foldl_keep | split | dsimp only | apply keep_start)
theorem State.fwNone_keeps {m : Nat} {s u : State} (h : Keeps m s u) (hm : m &&& 316912650057057350374175803873 = 316912650057057350374175803873) : Keeps m s (State.fwNone u) := by
  unfold State.fwNone
  with_reducible repeat' (first | assumption | intro _ | exact sub_mask hm rfl | rfl | apply State.raise_keeps | apply State.wn_keeps | apply State.put_keeps | apply ite_keep | apply foldl_keep | split | dsimp only)
theorem State.fwStart_keeps {m : Nat} {s u : State} (h : Keeps m s u) (hm : m &&& 396140812571321687967719754209 = 396140812571321687967719754209) : Keeps m s (State.fwStart u) := by
  unfold State.fwStart
  with_reducible repeat' (first | assumption | intro _ | exact sub_mask hm rfl | rfl | apply State.put_keeps | apply State.fwRun_keeps | apply State.imageBad_keeps | apply State.fwNone_keeps | apply ite_keep | apply foldl_keep | split | dsimp only | apply keep_start)
theorem execRefclkBack_keeps {m : Nat} {s u : State} (h : Keeps m s u) (hm : m &&& 316912650057057350374175803873 = 316912650057057350374175803873) : OutKeeps m s (execRefclkBack u) := by
  unfold execRefclkBack
  with_reducible repeat' (first | assumption | intro _ | exact sub_mask hm rfl | rfl | apply State.raise_keeps | apply State.put_keeps | apply ite_keep | apply foldl_keep | apply outKeep_next | apply ite_outKeep | split | dsimp only)
theorem execFwWatchdog_keeps {m : Nat} {s u : State} (h : Keeps m s u) (hm : m &&& 396140812571321687967719754209 = 396140812571321687967719754209) : OutKeeps m s (execFwWatchdog u) := by
  unfold execFwWatchdog
  with_reducible repeat' (first | assumption | intro _ | exact sub_mask hm rfl | rfl | apply State.raise_keeps | apply State.fwRun_keeps | apply State.fwNone_keeps | apply ite_keep | apply foldl_keep | apply outKeep_next | apply ite_outKeep | split | dsimp only | apply keep_start)
theorem State.imgCtlWrite_keeps {m : Nat} {s u : State} (h : Keeps m s u) (hm : m &&& 316912650057057350374175803873 = 316912650057057350374175803873) (w : Wr) : Keeps m s (State.imgCtlWrite u w) := by
  unfold State.imgCtlWrite
  with_reducible repeat' (first | assumption | intro _ | exact sub_mask hm rfl | rfl | apply State.mergeRaw_keeps | apply State.imageVerify_keeps | apply ite_keep | apply foldl_keep | split | dsimp only)
theorem State.unlockCount_keeps {m : Nat} {s u : State} (h : Keeps m s u) (hm : m &&& 316912650057057350374175803873 = 316912650057057350374175803873) : Keeps m s (State.unlockCount u) := by
  unfold State.unlockCount
  with_reducible repeat' (first | assumption | intro _ | exact sub_mask hm rfl | rfl | apply State.bumpSat_keeps | apply ite_keep | apply foldl_keep | split | dsimp only)
theorem execClkPllRelock_keeps {m : Nat} {s u : State} (h : Keeps m s u) (hm : m &&& 316912650057057350374175803873 = 316912650057057350374175803873) (which : Nat) : OutKeeps m s (execClkPllRelock which u) := by
  unfold execClkPllRelock
  with_reducible repeat' (first | assumption | intro _ | exact sub_mask hm rfl | rfl | apply State.raise_keeps | apply State.unlockCount_keeps | apply State.put_keeps | apply ite_keep | apply foldl_keep | apply outKeep_next | apply ite_outKeep | split | dsimp only)
theorem execRefclkGate_keeps {m : Nat} {s u : State} (h : Keeps m s u) (hm : m &&& 316912650057057350374175803873 = 316912650057057350374175803873) (dev : Int) : OutKeeps m s (execRefclkGate dev u) := by
  unfold execRefclkGate
  with_reducible repeat' (first | assumption | intro _ | exact sub_mask hm rfl | rfl | apply State.wn_keeps | apply State.put_keeps | apply State.raise_keeps | apply ite_keep | apply foldl_keep | apply outKeep_next | apply ite_outKeep | split | dsimp only)
theorem execStackTrainingDone_keeps {m : Nat} {s u : State} (h : Keeps m s u) (hm : m &&& 1031424080539731033790592376811 = 1031424080539731033790592376811) (failed : Nat) : OutKeeps m s (execStackTrainingDone failed u) := by
  unfold execStackTrainingDone
  with_reducible repeat' (first | assumption | intro _ | exact sub_mask hm rfl | rfl | apply State.raise_keeps | apply State.domainAsleep_keeps | apply State.put_keeps | apply ite_keep | apply foldl_keep | apply outKeep_next | apply ite_outKeep | split | dsimp only | apply keep_start)
theorem execClkPllUnlock_keeps {m : Nat} {s u : State} (h : Keeps m s u) (hm : m &&& 1 = 1) (which : Nat) : OutKeeps m s (execClkPllUnlock which u) := by
  unfold execClkPllUnlock
  with_reducible repeat' (first | assumption | intro _ | exact sub_mask hm rfl | rfl | apply State.put_keeps | apply ite_keep | apply foldl_keep | apply outKeep_next | apply ite_outKeep | split | dsimp only)
theorem execWarmResetDone_keeps {m : Nat} {s u : State} (h : Keeps m s u) (hm : m &&& 316912650057057350374175803873 = 316912650057057350374175803873) : OutKeeps m s (execWarmResetDone u) := by
  unfold execWarmResetDone
  with_reducible repeat' (first | assumption | intro _ | exact sub_mask hm rfl | rfl | apply State.raise_keeps | apply State.put_keeps | apply ite_keep | apply foldl_keep | apply outKeep_next | apply ite_outKeep | split | dsimp only)
theorem execFwRunning_keeps {m : Nat} {s u : State} (h : Keeps m s u) (hm : m &&& 1 = 1) : OutKeeps m s (execFwRunning u) := by
  unfold execFwRunning
  with_reducible repeat' (first | assumption | intro _ | exact sub_mask hm rfl | rfl | apply State.put_keeps | apply ite_keep | apply foldl_keep | apply outKeep_next | apply ite_outKeep | split | dsimp only)
theorem execAonMonitorRelease_keeps {m : Nat} {s u : State} (h : Keeps m s u) (hm : m &&& 79228162514264337593543950336 = 79228162514264337593543950336) : OutKeeps m s (execAonMonitorRelease u) := by
  unfold execAonMonitorRelease
  with_reducible repeat' (first | assumption | intro _ | exact sub_mask hm rfl | rfl | apply ite_keep | apply foldl_keep | apply outKeep_next | apply ite_outKeep | split | dsimp only | apply keep_start)
theorem State.clockStart_keeps {m : Nat} {s u : State} (h : Keeps m s u) (hm : m &&& 396140812571321687967786863081 = 396140812571321687967786863081) : Keeps m s (State.clockStart u) := by
  unfold State.clockStart
  with_reducible repeat' (first | assumption | intro _ | exact sub_mask hm rfl | rfl | apply State.raise_keeps | apply State.put_keeps | apply State.wn_keeps | apply State.fwStart_keeps | apply State.coreStart_keeps | apply ite_keep | apply foldl_keep | split | dsimp only | apply keep_tb)
theorem execXoFail_keeps {m : Nat} {s u : State} (h : Keeps m s u) (hm : m &&& 396140812571321687967786863081 = 396140812571321687967786863081) : OutKeeps m s (execXoFail u) := by
  unfold execXoFail
  with_reducible repeat' (first | assumption | intro _ | exact sub_mask hm rfl | rfl | apply State.raise_keeps | apply State.clockStart_keeps | apply State.put_keeps | apply ite_keep | apply foldl_keep | apply outKeep_next | apply ite_outKeep | split | dsimp only)
theorem execImageVerify_keeps {m : Nat} {s u : State} (h : Keeps m s u) (hm : m &&& 316912650057057350374175804393 = 316912650057057350374175804393) (w : Wr) : OutKeeps m s (execImageVerify w u) := by
  unfold execImageVerify
  with_reducible repeat' (first | assumption | intro _ | exact sub_mask hm rfl | rfl | apply State.pfOnly_keeps | apply State.imgCtlWrite_keeps | apply ite_keep | apply foldl_keep | apply outKeep_next | apply ite_outKeep | split | dsimp only)
theorem execPcieRefclkLost_keeps {m : Nat} {s u : State} (h : Keeps m s u) (hm : m &&& 316912650057057350374175803873 = 316912650057057350374175803873) : OutKeeps m s (execPcieRefclkLost u) := by
  unfold execPcieRefclkLost
  with_reducible repeat' (first | assumption | intro _ | exact sub_mask hm rfl | rfl | apply State.raise_keeps | apply State.unlockCount_keeps | apply State.put_keeps | apply ite_keep | apply foldl_keep | apply outKeep_next | apply ite_outKeep | split | dsimp only)
theorem execPorRelease_keeps {m : Nat} {s u : State} (h : Keeps m s u) (hm : m &&& 604462909807314587353088 = 604462909807314587353088) : OutKeeps m s (execPorRelease u) := by
  unfold execPorRelease
  with_reducible repeat' (first | assumption | intro _ | exact sub_mask hm rfl | rfl | apply ite_keep | apply foldl_keep | apply outKeep_next | apply ite_outKeep | split | dsimp only | apply keep_porLow)
theorem execFwStarted_keeps {m : Nat} {s u : State} (h : Keeps m s u) (hm : m &&& 396140812571321687967719754209 = 396140812571321687967719754209) : OutKeeps m s (execFwStarted u) := by
  unfold execFwStarted
  with_reducible repeat' (first | assumption | intro _ | exact sub_mask hm rfl | rfl | apply State.raise_keeps | apply ite_keep | apply foldl_keep | apply outKeep_next | apply ite_outKeep | split | dsimp only | apply keep_start)
theorem State.groupUnlock_keeps {m : Nat} {s u : State} (h : Keeps m s u) (hm : m &&& 316912650057057350649053710817 = 316912650057057350649053710817) (g : Nat) : Keeps m s (State.groupUnlock u g) := by
  unfold State.groupUnlock
  with_reducible repeat' (first | assumption | intro _ | exact sub_mask hm rfl | rfl | apply State.samplesStop_keeps | apply State.put_keeps | apply State.raise_keeps | apply ite_keep | apply foldl_keep | split | dsimp only)
theorem execRefclkLost_keeps {m : Nat} {s u : State} (h : Keeps m s u) (hm : m &&& 316912650057057350649053710817 = 316912650057057350649053710817) : OutKeeps m s (execRefclkLost u) := by
  unfold execRefclkLost
  with_reducible repeat' (first | assumption | intro _ | exact sub_mask hm rfl | rfl | apply State.unlockCount_keeps | apply State.wn_keeps | apply State.put_keeps | apply State.groupUnlock_keeps | apply State.raise_keeps | apply ite_keep | apply foldl_keep | apply outKeep_next | apply ite_outKeep | split | dsimp only)
theorem execSupplyFault_keeps {m : Nat} {s u : State} (h : Keeps m s u) (hm : m &&& 316912650057057350374175803873 = 316912650057057350374175803873) : OutKeeps m s (execSupplyFault u) := by
  unfold execSupplyFault
  with_reducible repeat' (first | assumption | intro _ | exact sub_mask hm rfl | rfl | apply State.raise_keeps | apply State.put_keeps | apply ite_keep | apply foldl_keep | apply outKeep_next | apply ite_outKeep | split | dsimp only)
theorem execPhasePllFirstLock_keeps {m : Nat} {s u : State} (h : Keeps m s u) (hm : m &&& 396140812571321687967786863081 = 396140812571321687967786863081) : OutKeeps m s (execPhasePllFirstLock u) := by
  unfold execPhasePllFirstLock
  with_reducible repeat' (first | assumption | intro _ | exact sub_mask hm rfl | rfl | apply State.raise_keeps | apply State.clockStart_keeps | apply State.put_keeps | apply ite_keep | apply foldl_keep | apply outKeep_next | apply ite_outKeep | split | dsimp only)
theorem State.logWord_keeps {m : Nat} {s u : State} (h : Keeps m s u) (hm : m &&& 633825300114114700748351602688 = 633825300114114700748351602688) (fn : Nat) (off : Nat) : Keeps m s (State.logWord u fn off).2 := by
  unfold State.logWord
  with_reducible repeat' (first | assumption | intro _ | exact sub_mask hm rfl | rfl | apply State.draw_keeps | apply ite_keep | apply foldl_keep | apply ite_keep2 | apply foldl_keep2 | split | refine pairKeep2 (by assumption) ?_ | dsimp only)
theorem State.prbsCatch_keeps {m : Nat} {s u : State} (h : Keeps m s u) (hm : m &&& 950737950171172051122527406561 = 950737950171172051122527406561) (sh : Nat) (l : Nat) : Keeps m s (State.prbsCatch u sh l) := by
  unfold State.prbsCatch
  with_reducible repeat' (first | assumption | intro _ | exact sub_mask hm rfl | rfl | apply State.draw_keeps | apply State.prbsCount_keeps | apply ite_keep | apply foldl_keep | apply ite_keep2 | apply foldl_keep2 | split | refine pairKeep2 (by assumption) ?_ | dsimp only)
theorem State.peek_keeps {m : Nat} {s u : State} (h : Keeps m s u) (hm : m &&& 950737950171172051122527406561 = 950737950171172051122527406561) (fn : Nat) (off : Nat) : Keeps m s (State.peek u fn off).2 := by
  unfold State.peek
  with_reducible repeat' (first | assumption | intro _ | exact sub_mask hm rfl | rfl | apply State.logWord_keeps | apply State.pageWin_keeps | apply State.draw_keeps | apply State.prbsCatch_keeps | apply ite_keep | apply foldl_keep | apply ite_keep2 | apply foldl_keep2 | split | refine pairKeep2 (by assumption) ?_ | dsimp only)
theorem State.roleSaid_keeps {m : Nat} {s u : State} (h : Keeps m s u) (hm : m &&& 316912650057057350374175803873 = 316912650057057350374175803873) (v : State) : Keeps m s (State.roleSaid v u) := by
  unfold State.roleSaid
  with_reducible repeat' (first | assumption | intro _ | exact sub_mask hm rfl | rfl | apply State.raise_keeps | apply ite_keep)
theorem State.keyLoad_keeps {m : Nat} {s u : State} (h : Keeps m s u) (hm : m &&& 316912650057057350374175902177 = 316912650057057350374175902177) (b : Nat) (key : List Byte) : Keeps m s (State.keyLoad u b key) := by
  unfold State.keyLoad
  with_reducible repeat' (first | assumption | intro _ | exact sub_mask hm rfl | rfl | apply State.wn_keeps | apply State.roleSaid_keeps | apply ite_keep | apply foldl_keep | split | dsimp only | apply keep_envs_keys)
theorem State.keyClear_keeps {m : Nat} {s u : State} (h : Keeps m s u) (hm : m &&& 316912650057057350374175869409 = 316912650057057350374175869409) (b : Nat) : Keeps m s (State.keyClear u b) := by
  unfold State.keyClear
  with_reducible repeat' (first | assumption | intro _ | exact sub_mask hm rfl | rfl | apply State.wn_keeps | apply State.roleSaid_keeps | apply ite_keep | apply foldl_keep | split | dsimp only | apply keep_keys)
theorem State.keyCtlWrite_keeps {m : Nat} {s u : State} (h : Keeps m s u) (hm : m &&& 316912650057057350374176033249 = 316912650057057350374176033249) (w : Wr) : Keeps m s (State.keyCtlWrite u w) := by
  unfold State.keyCtlWrite
  with_reducible repeat' (first | assumption | intro _ | exact sub_mask hm rfl | rfl | apply State.mergeRaw_keeps | apply State.keyLoad_keeps | apply State.keyClear_keeps | apply ite_keep | apply foldl_keep | split | dsimp only | apply keep_keyStage)
theorem execPairLoRead_keeps {m : Nat} {s u : State} (h : Keeps m s u) (hm : m &&& 950737950171172051122527407081 = 950737950171172051122527407081) (fn : Nat) (off : Nat) : OutKeeps m s (execPairLoRead fn off u) := by
  unfold execPairLoRead
  with_reducible repeat' (first | assumption | intro _ | exact sub_mask hm rfl | rfl | apply State.flushHeld_keeps | apply State.emit_keeps | apply State.peek_keeps | apply State.setFunc_keeps | apply State.readReserved_keeps | apply ite_keep | apply foldl_keep | apply ite_keep2 | apply foldl_keep2 | apply outKeep_next | apply ite_outKeep | split | refine pairKeep2 (by assumption) ?_ | dsimp only)
theorem State.hitPut_keeps {m : Nat} {s u : State} (h : Keeps m s u) (hm : m &&& 4 = 4) (h0 : TabHit) (mask : Nat) (v : Nat) : Keeps m s (State.hitPut u h0 mask v) := by
  unfold State.hitPut
  with_reducible repeat' (first | assumption | intro _ | exact sub_mask hm rfl | rfl | apply State.setTab_keeps | apply ite_keep | apply foldl_keep | split | dsimp only)
theorem State.tabWrite_keeps {m : Nat} {s u : State} (h : Keeps m s u) (hm : m &&& 316912650057057350374175804389 = 316912650057057350374175804389) (fn : Nat) (data : List (Nat × Byte)) : Keeps m s (State.tabWrite u fn data) := by
  unfold State.tabWrite
  with_reducible repeat' (first | assumption | intro _ | exact sub_mask hm rfl | rfl | apply State.reservedHit_keeps | apply State.raise_keeps | apply State.hitPut_keeps | apply ite_keep | apply foldl_keep | split | dsimp only)
theorem execTableApertureWrite_keeps {m : Nat} {s u : State} (h : Keeps m s u) (hm : m &&& 316912650057057350374175804397 = 316912650057057350374175804397) (fn : Nat) (data : List (Nat × Byte)) : OutKeeps m s (execTableApertureWrite fn data u) := by
  unfold execTableApertureWrite
  with_reducible repeat' (first | assumption | intro _ | exact sub_mask hm rfl | rfl | apply State.flushHeld_keeps | apply State.tabWrite_keeps | apply State.reservedHit_keeps | apply ite_keep | apply foldl_keep | apply outKeep_next | apply ite_outKeep | split | dsimp only)
theorem execCmdKeyLoad_keeps {m : Nat} {s u : State} (h : Keeps m s u) (hm : m &&& 316912650057057350374176033769 = 316912650057057350374176033769) (w : Wr) : OutKeeps m s (execCmdKeyLoad w u) := by
  unfold execCmdKeyLoad
  with_reducible repeat' (first | assumption | intro _ | exact sub_mask hm rfl | rfl | apply State.pfOnly_keeps | apply State.keyCtlWrite_keeps | apply ite_keep | apply foldl_keep | apply outKeep_next | apply ite_outKeep | split | dsimp only)
theorem execCmdKeyClear_keeps {m : Nat} {s u : State} (h : Keeps m s u) (hm : m &&& 316912650057057350374176033769 = 316912650057057350374176033769) (w : Wr) : OutKeeps m s (execCmdKeyClear w u) := by
  unfold execCmdKeyClear
  with_reducible repeat' (first | assumption | intro _ | exact sub_mask hm rfl | rfl | apply State.pfOnly_keeps | apply State.keyCtlWrite_keeps | apply ite_keep | apply foldl_keep | apply outKeep_next | apply ite_outKeep | split | dsimp only)
theorem State.peerCheck_keeps {m : Nat} {s u : State} (h : Keeps m s u) (hm : m &&& 316912650057057350374175803881 = 316912650057057350374175803881) (ident : Nat) : Keeps m s (State.peerCheck u ident) := by
  unfold State.peerCheck
  with_reducible repeat' (first | assumption | intro _ | exact sub_mask hm rfl | rfl | apply State.toHoldover_keeps | apply State.raise_keeps | apply ite_keep | apply foldl_keep | split | dsimp only | apply keep_tb)
theorem State.beaconUse_keeps {m : Nat} {s u : State} (h : Keeps m s u) (hm : m &&& 316912650057057350374175803881 = 316912650057057350374175803881) (sh : Nat) (ident : Nat) (theta : Int) : Keeps m s (State.beaconUse u sh ident theta) := by
  unfold State.beaconUse
  with_reducible repeat' (first | assumption | intro _ | exact sub_mask hm rfl | rfl | apply State.measurePhase_keeps | apply ite_keep | apply foldl_keep | split | dsimp only | apply keep_tb)
theorem State.beaconPeer_keeps {m : Nat} {s u : State} (h : Keeps m s u) (hm : m &&& 316912650057057350374175803881 = 316912650057057350374175803881) (sh : Nat) (ident : Nat) : Keeps m s (State.beaconPeer u sh ident) := by
  unfold State.beaconPeer
  with_reducible repeat' (first | assumption | intro _ | exact sub_mask hm rfl | rfl | apply State.peerCheck_keeps | apply ite_keep | apply foldl_keep | split | dsimp only)
theorem execBeaconRx_keeps {m : Nat} {s u : State} (h : Keeps m s u) (hm : m &&& 316951335683285018507766401513 = 316951335683285018507766401513) (sh : Nat) : OutKeeps m s (execBeaconRx sh u) := by
  unfold execBeaconRx
  with_reducible repeat' (first | assumption | intro _ | exact sub_mask hm rfl | rfl | apply State.wn_keeps | apply State.setLnk_keeps | apply State.raise_keeps | apply State.wr64_keeps | apply State.beaconUse_keeps | apply State.beaconPeer_keeps | apply ite_keep | apply foldl_keep | apply outKeep_next | apply ite_outKeep | split | dsimp only)
theorem execBeaconLost_keeps {m : Nat} {s u : State} (h : Keeps m s u) (hm : m &&& 316951335683285018507766401513 = 316951335683285018507766401513) (sh : Nat) : OutKeeps m s (execBeaconLost sh u) := by
  unfold execBeaconLost
  with_reducible repeat' (first | assumption | intro _ | exact sub_mask hm rfl | rfl | apply State.timeLost_keeps | apply State.raise_keeps | apply State.setLnk_keeps | apply ite_keep | apply foldl_keep | apply outKeep_next | apply ite_outKeep | split | dsimp only)
theorem State.unitIn_keeps {m : Nat} {s u : State} (h : Keeps m s u) (hm : m &&& 316912650236913175530307586529 = 316912650236913175530307586529) (q : Nat) (bytes : List Byte) : Keeps m s (State.unitIn u q bytes) := by
  unfold State.unitIn
  with_reducible repeat' (first | assumption | intro _ | exact sub_mask hm rfl | rfl | apply State.offerUnit_keeps | apply State.setQue_keeps | apply ite_keep | apply foldl_keep | split | dsimp only)
theorem State.popFlit_keeps {m : Nat} {s u : State} (h : Keeps m s u) (hm : m &&& 38685626227668133590597632 = 38685626227668133590597632) (sh : Nat) : Keeps m s (State.popFlit u sh) := by
  unfold State.popFlit
  with_reducible repeat' (first | assumption | intro _ | exact sub_mask hm rfl | rfl | apply State.relData_keeps | apply State.setLnk_keeps | apply ite_keep | apply foldl_keep | split | dsimp only)
theorem State.setUnit_keeps {m : Nat} {s u : State} (h : Keeps m s u) (hm : m &&& 38685626227668133590597632 = 38685626227668133590597632) (sh : Nat) (key : Nat) (v : Option (List Byte)) : Keeps m s (State.setUnit u sh key v) := by
  unfold State.setUnit
  with_reducible repeat' (first | assumption | intro _ | exact sub_mask hm rfl | rfl | apply State.setLnk_keeps | apply ite_keep | apply foldl_keep | split | dsimp only)
theorem State.partVals_keeps {m : Nat} {s u : State} (h : Keeps m s u) (hm : m &&& 633825300114114700748351602688 = 633825300114114700748351602688) (flits : List (List Byte)) (count : Nat) : Keeps m s (State.partVals u flits count).2 := by
  unfold State.partVals
  with_reducible repeat' (first | assumption | intro _ | exact sub_mask hm rfl | rfl | apply State.drawInt_keeps | apply ite_keep | apply foldl_keep | apply ite_keep2 | apply foldl_keep2 | split | refine pairKeep2 (by assumption) ?_ | dsimp only)
theorem execPartialRx_keeps {m : Nat} {s u : State} (h : Keeps m s u) (hm : m &&& 950776635797400883776370772451 = 950776635797400883776370772451) (sh : Nat) : OutKeeps m s (execPartialRx sh u) := by
  unfold execPartialRx
  with_reducible repeat' (first | assumption | intro _ | exact sub_mask hm rfl | rfl | apply State.popFlit_keeps | apply State.setUnit_keeps | apply State.partVals_keeps | apply State.takePartial_keeps | apply ite_keep | apply foldl_keep | apply ite_keep2 | apply foldl_keep2 | apply outKeep_next | apply ite_outKeep | split | refine pairKeep2 (by assumption) ?_ | dsimp only)
theorem execBeaconTx_keeps {m : Nat} {s u : State} (h : Keeps m s u) (hm : m &&& 38685626227668133590597632 = 38685626227668133590597632) (sh : Nat) : OutKeeps m s (execBeaconTx sh u) := by
  unfold execBeaconTx
  with_reducible repeat' (first | assumption | intro _ | exact sub_mask hm rfl | rfl | apply State.setLnk_keeps | apply ite_keep | apply foldl_keep | apply outKeep_next | apply ite_outKeep | split | dsimp only)
theorem State.setNode_keeps {m : Nat} {s u : State} (h : Keeps m s u) (hm : m &&& 316912650057057354772230703585 = 316912650057057354772230703585) (sh : Nat) (st : Nat) (x : NodeStream) : Keeps m s (State.setNode u sh st x) := by
  unfold State.setNode
  with_reducible repeat' (first | assumption | intro _ | exact sub_mask hm rfl | rfl | apply State.nodeFollow_keeps | apply ite_keep | apply foldl_keep | split | dsimp only | apply keep_nodes)
theorem execQueueFlitRx_keeps {m : Nat} {s u : State} (h : Keeps m s u) (hm : m &&& 316951335863140843663898184161 = 316951335863140843663898184161) (sh : Nat) : OutKeeps m s (execQueueFlitRx sh u) := by
  unfold execQueueFlitRx
  with_reducible repeat' (first | assumption | intro _ | exact sub_mask hm rfl | rfl | apply State.popFlit_keeps | apply State.setUnit_keeps | apply State.rxDiscard_keeps | apply State.unitIn_keeps | apply ite_keep | apply foldl_keep | apply outKeep_next | apply ite_outKeep | split | dsimp only)
theorem execDeclareRx_keeps {m : Nat} {s u : State} (h : Keeps m s u) (hm : m &&& 316951335683285022905821301217 = 316951335683285022905821301217) (sh : Nat) : OutKeeps m s (execDeclareRx sh u) := by
  unfold execDeclareRx
  with_reducible repeat' (first | assumption | intro _ | exact sub_mask hm rfl | rfl | apply State.popFlit_keeps | apply State.rxDiscard_keeps | apply State.setNode_keeps | apply ite_keep | apply foldl_keep | apply outKeep_next | apply ite_outKeep | split | dsimp only)
theorem execSampleRx_keeps {m : Nat} {s u : State} (h : Keeps m s u) (hm : m &&& 950776654769876601736211204579 = 950776654769876601736211204579) (sh : Nat) (full : List Nat) : OutKeeps m s (execSampleRx sh full u) := by
  unfold execSampleRx
  with_reducible repeat' (first | assumption | intro _ | exact sub_mask hm rfl | rfl | apply State.popFlit_keeps | apply State.rxDiscard_keeps | apply State.setNode_keeps | apply State.takeSample_keeps | apply ite_keep | apply foldl_keep | apply outKeep_next | apply ite_outKeep | split | dsimp only)
theorem State.setRxs_keeps {m : Nat} {s u : State} (h : Keeps m s u) (hm : m &&& 9671406556917033397649408 = 9671406556917033397649408) (n : Nat) (x : RxStream) : Keeps m s (State.setRxs u n x) := by
  unfold State.setRxs
  with_reducible repeat' (first | assumption | intro _ | exact sub_mask hm rfl | rfl | apply ite_keep | apply foldl_keep | split | dsimp only | apply keep_rxs)
theorem State.rxWrite_keeps {m : Nat} {s u : State} (h : Keeps m s u) (hm : m &&& 316922321643470092563705235937 = 316922321643470092563705235937) (n : Nat) (p : HeldPkt) : Keeps m s (State.rxWrite u n p) := by
  unfold State.rxWrite
  with_reducible repeat' (first | assumption | intro _ | exact sub_mask hm rfl | rfl | apply State.setRxs_keeps | apply State.unitIn_keeps | apply ite_keep | apply foldl_keep | split | dsimp only)
theorem State.rxDrain_keeps {m : Nat} {s u : State} (h : Keeps m s u) (hm : m &&& 316922321643470092563705235937 = 316922321643470092563705235937) (n : Nat) (a2 : Nat) : Keeps m s (State.rxDrain u n a2) := by
  induction a2 generalizing u with
  | zero => unfold State.rxDrain; with_reducible repeat' (first | assumption | intro _ | exact sub_mask hm rfl | rfl | apply State.setRxs_keeps | apply State.rxWrite_keeps | apply ite_keep | apply foldl_keep | split | dsimp only)
  | succ n ih => unfold State.rxDrain; with_reducible repeat' (first | assumption | apply ih | intro _ | exact sub_mask hm rfl | rfl | apply State.setRxs_keeps | apply State.rxWrite_keeps | apply ite_keep | apply foldl_keep | split | dsimp only)
theorem State.rxLost_keeps {m : Nat} {s u : State} (h : Keeps m s u) (hm : m &&& 316922321643470092563705235937 = 316922321643470092563705235937) (n : Nat) (a2 : Nat) : Keeps m s (State.rxLost u n a2) := by
  induction a2 generalizing u with
  | zero => unfold State.rxLost; with_reducible repeat' (first | assumption | intro _ | exact sub_mask hm rfl | rfl | apply State.setRxs_keeps | apply State.raise_keeps | apply State.ethCount_keeps | apply State.rxDrain_keeps | apply ite_keep | apply foldl_keep | split | dsimp only)
  | succ n ih => unfold State.rxLost; with_reducible repeat' (first | assumption | apply ih | intro _ | exact sub_mask hm rfl | rfl | apply State.setRxs_keeps | apply State.raise_keeps | apply State.ethCount_keeps | apply State.rxDrain_keeps | apply ite_keep | apply foldl_keep | split | dsimp only)
theorem execMergeTimeout_keeps {m : Nat} {s u : State} (h : Keeps m s u) (hm : m &&& 316922321643470092563705235937 = 316922321643470092563705235937) (n : Nat) : OutKeeps m s (execMergeTimeout n u) := by
  unfold execMergeTimeout
  with_reducible repeat' (first | assumption | intro _ | exact sub_mask hm rfl | rfl | apply State.rxLost_keeps | apply ite_keep | apply foldl_keep | apply outKeep_next | apply ite_outKeep | split | dsimp only)
theorem execOversizeRequest_keeps {m : Nat} {s u : State} (h : Keeps m s u) (hm : m &&& 316912650057057350374175804393 = 316912650057057350374175804393) (fn : Nat) (bar : Nat) (off : Nat) (len : Nat) (write : Bool) : OutKeeps m s (execOversizeRequest fn bar off len write u) := by
  unfold execOversizeRequest
  with_reducible repeat' (first | assumption | intro _ | exact sub_mask hm rfl | rfl | apply State.flushHeld_keeps | apply State.emit_keeps | apply State.widthHit_keeps | apply ite_keep | apply foldl_keep | apply outKeep_next | apply ite_outKeep | split | dsimp only)
theorem execReservedAccess_keeps {m : Nat} {s u : State} (h : Keeps m s u) (hm : m &&& 316912650057057350374175804393 = 316912650057057350374175804393) (fn : Nat) (bar : Nat) (off : Nat) (write : Bool) : OutKeeps m s (execReservedAccess fn bar off write u) := by
  unfold execReservedAccess
  with_reducible repeat' (first | assumption | intro _ | exact sub_mask hm rfl | rfl | apply State.flushHeld_keeps | apply State.reservedHit_keeps | apply State.emit_keeps | apply ite_keep | apply foldl_keep | apply outKeep_next | apply ite_outKeep | split | dsimp only)
theorem execAtomicOpRequest_keeps {m : Nat} {s u : State} (h : Keeps m s u) (hm : m &&& 316912650057057350374175804393 = 316912650057057350374175804393) (fn : Nat) (addr : Nat) : OutKeeps m s (execAtomicOpRequest fn addr u) := by
  unfold execAtomicOpRequest
  with_reducible repeat' (first | assumption | intro _ | exact sub_mask hm rfl | rfl | apply State.emit_keeps | apply State.flushHeld_keeps | apply ite_keep | apply foldl_keep | apply outKeep_next | apply ite_outKeep | split | dsimp only)
theorem State.monValue_keeps {m : Nat} {s u : State} (h : Keeps m s u) (hm : m &&& 950737950171172051122527406561 = 950737950171172051122527406561) (j : Nat) (k0 : Nat) : Keeps m s (State.monValue u j k0).2 := by
  unfold State.monValue
  with_reducible repeat' (first | assumption | intro _ | exact sub_mask hm rfl | rfl | apply State.peek_keeps | apply ite_keep | apply foldl_keep | apply ite_keep2 | apply foldl_keep2 | split | refine pairKeep2 (by assumption) ?_ | dsimp only)
theorem State.monSnap_keeps {m : Nat} {s u : State} (h : Keeps m s u) (hm : m &&& 6021340351084089657173764737505 = 6021340351084089657173764737505) (j : Nat) : Keeps m s (State.monSnap u j) := by
  unfold State.monSnap
  with_reducible repeat' (first | assumption | intro _ | exact sub_mask hm rfl | rfl | apply State.monValue_keeps | apply State.offerMon_keeps | apply ite_keep | apply foldl_keep | apply ite_keep2 | apply foldl_keep2 | split | refine pairKeep2 (by assumption) ?_ | dsimp only | apply keep_monSeq_monAt)
theorem execMonSnapshot_keeps {m : Nat} {s u : State} (h : Keeps m s u) (hm : m &&& 6021340351084089657173764737505 = 6021340351084089657173764737505) (j : Nat) : OutKeeps m s (execMonSnapshot j u) := by
  unfold execMonSnapshot
  with_reducible repeat' (first | assumption | intro _ | exact sub_mask hm rfl | rfl | apply State.monSnap_keeps | apply ite_keep | apply foldl_keep | apply outKeep_next | apply ite_outKeep | split | dsimp only)

end Sys2Proof.Machine
end

