-- ==== Sys2Proof/Laws/Map.lean ====
section
/-! SUPPORT. Sparse tables: a read after a write, and the canonical form that every write keeps. -/
namespace Sys2Proof.Machine

variable {α : Type}

@[simp] theorem mapGet_erase_same (d : α) (k : Nat) (m : SMap α) : mapGet d k (mapErase k m) = d := by
  induction m with
  | nil => rfl
  | cons e m ih => obtain ⟨j, v⟩ := e; by_cases h : j = k <;> simp [mapErase, mapGet, h, ih]

theorem mapGet_erase_ne (d : α) {k l : Nat} (h : l ≠ k) (m : SMap α) : mapGet d l (mapErase k m) = mapGet d l m := by
  induction m with
  | nil => rfl
  | cons e m ih =>
    obtain ⟨j, v⟩ := e
    by_cases e1 : j = k
    · have : k ≠ l := fun x => h x.symm
      simp [mapErase, mapGet, e1, ih, this]
    · simp [mapErase, mapGet, e1, ih]

@[simp] theorem mapGet_insert_same (d : α) (k : Nat) (v : α) (m : SMap α) : mapGet d k (mapInsert k v m) = v := by
  induction m with
  | nil => simp [mapInsert, mapGet]
  | cons e m ih =>
    obtain ⟨j, w⟩ := e
    by_cases e1 : j = k
    · simp [mapInsert, mapGet, e1]
    · by_cases e2 : k < j <;> simp [mapInsert, mapGet, e1, e2, ih]

theorem mapGet_insert_ne (d : α) {k l : Nat} (h : l ≠ k) (v : α) (m : SMap α) :
    mapGet d l (mapInsert k v m) = mapGet d l m := by
  have h' : k ≠ l := fun x => h x.symm
  induction m with
  | nil => simp [mapInsert, mapGet, h']
  | cons e m ih =>
    obtain ⟨j, w⟩ := e
    by_cases e1 : j = k
    · simp [mapInsert, mapGet, e1, h']
    · by_cases e2 : k < j
      · simp [mapInsert, mapGet, e1, e2, h']
      · simp [mapInsert, mapGet, e1, e2, ih]

variable [DecidableEq α]

/-- A read of the key just written gives the value written. -/
@[simp] theorem mapGet_put_same (d : α) (k : Nat) (v : α) (m : SMap α) : mapGet d k (mapPut d k v m) = v := by
  unfold mapPut; split
  · simp [*]
  · simp

/-- A write leaves every other key alone. -/
theorem mapGet_put_ne (d e : α) {k l : Nat} (h : l ≠ k) (v : α) (m : SMap α) : mapGet e l (mapPut d k v m) = mapGet e l m := by
  unfold mapPut; split
  · exact mapGet_erase_ne e h m
  · exact mapGet_insert_ne e h v m

omit [DecidableEq α] in
theorem keysRise_mono {a b : Option Nat} {m : SMap α} (h : keysRise a m = true)
    (hab : ∀ y, b = some y → ∃ x, a = some x ∧ y ≤ x) : keysRise b m = true := by
  cases m with
  | nil => cases b <;> rfl
  | cons e m =>
    obtain ⟨j, v⟩ := e
    cases b with
    | none => cases a <;> simp_all [keysRise]
    | some y =>
      obtain ⟨x, hx, hy⟩ := hab y rfl
      subst hx
      simp [keysRise] at h ⊢
      exact ⟨by omega, h.2⟩

omit [DecidableEq α] in
theorem keysRise_erase (k : Nat) (m : SMap α) : ∀ a, keysRise a m = true → keysRise a (mapErase k m) = true := by
  induction m with
  | nil => intro a h; exact h
  | cons e m ih =>
    obtain ⟨j, v⟩ := e
    intro a h
    have hm : keysRise (some j) m = true := by cases a <;> simp_all [keysRise]
    by_cases e1 : j = k
    · rw [mapErase, if_pos e1]
      refine ih a (keysRise_mono hm ?_)
      intro y hy; subst hy
      exact ⟨j, rfl, by simp [keysRise] at h; omega⟩
    · rw [mapErase, if_neg e1]
      cases a <;> simp_all [keysRise]

omit [DecidableEq α] in
theorem keysRise_insert (k : Nat) (v : α) (m : SMap α) :
    ∀ a, (∀ y, a = some y → y < k) → keysRise a m = true → keysRise a (mapInsert k v m) = true := by
  induction m with
  | nil => intro a h _; cases a <;> simp_all [mapInsert, keysRise]
  | cons e m ih =>
    obtain ⟨j, w⟩ := e
    intro a ha h
    have hm : keysRise (some j) m = true := by cases a <;> simp_all [keysRise]
    by_cases e1 : j = k
    · subst e1; cases a <;> simp_all [mapInsert, keysRise]
    · by_cases e2 : k < j
      · cases a <;> simp_all [mapInsert, keysRise]
      · have r := ih (some j) (by intro y hy; cases hy; omega) hm
        rw [mapInsert, if_neg e1, if_neg e2]
        cases a <;> simp_all [keysRise]

/-- A write keeps the canonical form. -/
theorem mapWf_put (d : α) (k : Nat) (v : α) (m : SMap α) (h : mapWf d m = true) : mapWf d (mapPut d k v m) = true := by
  simp only [mapWf, Bool.and_eq_true, List.all_eq_true, decide_eq_true_eq] at h ⊢
  unfold mapPut; split
  · refine ⟨keysRise_erase k m none h.1, ?_⟩
    have : ∀ (m : SMap α) (x : Nat × α), x ∈ mapErase k m → x ∈ m := by
      intro m
      induction m with
      | nil => intro x hx; exact hx
      | cons e m ih =>
        intro x hx
        rw [mapErase] at hx; split at hx
        · exact List.mem_cons_of_mem _ (ih x hx)
        · rcases List.mem_cons.1 hx with h | h
          · exact h ▸ List.mem_cons_self
          · exact List.mem_cons_of_mem _ (ih x h)
    exact fun x hx => h.2 x (this m x hx)
  · rename_i hv
    refine ⟨keysRise_insert k v m none (by simp) h.1, ?_⟩
    have : ∀ (m : SMap α) (x : Nat × α), x ∈ mapInsert k v m → x = (k, v) ∨ x ∈ m := by
      intro m
      induction m with
      | nil => intro x hx; simpa [mapInsert] using hx
      | cons e m ih =>
        intro x hx
        rw [mapInsert] at hx; split at hx
        · rcases List.mem_cons.1 hx with h | h
          · exact .inl h
          · exact .inr (List.mem_cons_of_mem _ h)
        · split at hx
          · rcases List.mem_cons.1 hx with h | h
            · exact .inl h
            · exact .inr h
          · rcases List.mem_cons.1 hx with h | h
            · exact .inr (h ▸ List.mem_cons_self)
            · rcases ih x h with h | h
              · exact .inl h
              · exact .inr (List.mem_cons_of_mem _ h)
    intro x hx
    rcases this m x hx with h' | h'
    · subst h'; exact hv
    · exact h.2 x h'

end Sys2Proof.Machine
end

