-- ==== Sys2Proof/Laws/Regs.lean ====
section
/-! SUPPORT. Registers and fields: what a read gives after a write of the same or of another one. -/
namespace Sys2Proof.Machine

/-! ## Registers -/

@[simp] theorem rd_wr (s : State) (r : Reg) (w : Word) : (s.wr r w).rd r = w := mapGet_put_same _ _ _ _

theorem rd_wr_ne (s : State) {r q : Reg} (h : q.key ≠ r.key) (w : Word) : (s.wr r w).rd q = s.rd q :=
  mapGet_put_ne _ _ h _ _

theorem rn_wn (s : State) (r : Reg) {v : Nat} (h : v < 2 ^ 32) : (s.wn r v).rn r = v := by
  simp [State.rn, State.wn, w32]; omega

theorem rn_wn_ne (s : State) {r q : Reg} (h : q.key ≠ r.key) (v : Nat) : (s.wn r v).rn q = s.rn q := by
  simp [State.rn, State.wn, rd_wr_ne s h]

theorem rn_wr (s : State) (r : Reg) (w : Word) : (s.wr r w).rn r = w.toNat := by simp [State.rn]

/-! ## Fields -/

theorem bits_lt (v hi lo : Nat) : bits v hi lo < 2 ^ (hi + 1 - lo) := Nat.mod_lt _ (Nat.two_pow_pos _)

/-- A number is its bits above a field, the field, and its bits below it. -/
theorem split_bits (v hi lo : Nat) (h : lo ≤ hi) :
    v = v / 2 ^ (hi + 1) * 2 ^ (hi + 1) + bits v hi lo * 2 ^ lo + v % 2 ^ lo := by
  have e : hi + 1 = lo + (hi + 1 - lo) := by omega
  have h1 := Nat.div_add_mod v (2 ^ lo)
  have h2 := Nat.div_add_mod (v / 2 ^ lo) (2 ^ (hi + 1 - lo))
  have h3 : v / 2 ^ lo / 2 ^ (hi + 1 - lo) = v / 2 ^ (hi + 1) := by
    rw [Nat.div_div_eq_div_mul, ← Nat.pow_add, ← e]
  rw [h3] at h2
  unfold bits
  have h4 : v / 2 ^ (hi + 1) * 2 ^ (hi + 1) = 2 ^ lo * (2 ^ (hi + 1 - lo) * (v / 2 ^ (hi + 1))) := by
    have h6 : 2 ^ (hi + 1) = 2 ^ lo * 2 ^ (hi + 1 - lo) := by rw [← Nat.pow_add, ← e]
    rw [← Nat.mul_assoc, ← h6, Nat.mul_comm]
  rw [h4, Nat.mul_comm _ (2 ^ lo), ← Nat.mul_add, h2, h1]

/-- A number with a field replaced, as its bits above, the new value and its bits below. -/
theorem setBits_eq (v hi lo x : Nat) (h : lo ≤ hi) :
    setBits v hi lo x = v / 2 ^ (hi + 1) * 2 ^ (hi + 1) + x % 2 ^ (hi + 1 - lo) * 2 ^ lo + v % 2 ^ lo := by
  have := split_bits v hi lo h
  unfold setBits
  omega

theorem mid_div (a b c lo w : Nat) (hb : b < 2 ^ w) (hc : c < 2 ^ lo) :
    (a * 2 ^ (lo + w) + b * 2 ^ lo + c) / 2 ^ lo % 2 ^ w = b := by
  have e : a * 2 ^ (lo + w) + b * 2 ^ lo + c = 2 ^ lo * (a * 2 ^ w + b) + c := by
    rw [Nat.pow_add, Nat.mul_add, Nat.mul_left_comm, Nat.mul_comm b]
  rw [e, Nat.mul_add_div (Nat.two_pow_pos lo), Nat.div_eq_of_lt hc, Nat.add_zero, Nat.add_comm, Nat.add_mul_mod_self_right,
    Nat.mod_eq_of_lt hb]

theorem bits_setBits (v hi lo x : Nat) (h : lo ≤ hi) : bits (setBits v hi lo x) hi lo = x % 2 ^ (hi + 1 - lo) := by
  rw [setBits_eq v hi lo x h]
  have e : hi + 1 = lo + (hi + 1 - lo) := by omega
  unfold bits
  conv => lhs; rw [e, show lo + (hi + 1 - lo) - lo = hi + 1 - lo by omega]
  exact mid_div _ _ _ _ _ (Nat.mod_lt _ (Nat.two_pow_pos _)) (Nat.mod_lt _ (Nat.two_pow_pos _))

theorem setBits_lt (v hi lo x : Nat) (h : lo ≤ hi) (h3 : hi < 32) (hv : v < 2 ^ 32) : setBits v hi lo x < 2 ^ 32 := by
  rw [setBits_eq v hi lo x h]
  have e : hi + 1 = lo + (hi + 1 - lo) := by omega
  have a1 : x % 2 ^ (hi + 1 - lo) < 2 ^ (hi + 1 - lo) := Nat.mod_lt _ (Nat.two_pow_pos _)
  have a2 : v % 2 ^ lo < 2 ^ lo := Nat.mod_lt _ (Nat.two_pow_pos _)
  have a3 : v / 2 ^ (hi + 1) < 2 ^ (31 - hi) := by
    apply Nat.div_lt_of_lt_mul
    rw [← Nat.pow_add, show hi + 1 + (31 - hi) = 32 by omega]; exact hv
  have a4 : x % 2 ^ (hi + 1 - lo) * 2 ^ lo + v % 2 ^ lo < 2 ^ (hi + 1) := by
    have : (x % 2 ^ (hi + 1 - lo) + 1) * 2 ^ lo ≤ 2 ^ (hi + 1 - lo) * 2 ^ lo := Nat.mul_le_mul_right _ a1
    rw [← Nat.pow_add, show hi + 1 - lo + lo = hi + 1 by omega] at this
    rw [Nat.add_mul] at this
    omega
  have a5 : (v / 2 ^ (hi + 1) + 1) * 2 ^ (hi + 1) ≤ 2 ^ (31 - hi) * 2 ^ (hi + 1) := Nat.mul_le_mul_right _ a3
  rw [← Nat.pow_add, show 31 - hi + (hi + 1) = 32 by omega, Nat.add_mul] at a5
  omega

theorem toNat_w32 {v : Nat} (h : v < 2 ^ 32) : (w32 v).toNat = v := by simp [w32]; omega

theorem rn_put (s : State) (f : Fld) (v : Nat) (h : f.lo ≤ f.hi) (h3 : f.hi < 32) :
    (s.put f v).rn f.reg = setBits (s.rn f.reg) f.hi f.lo v := by
  unfold State.put State.rn
  rw [rd_wr, toNat_w32 (setBits_lt _ _ _ _ h h3 (s.rd f.reg).isLt)]

/-- A field just written holds the low bits of the value written. -/
theorem get_put (s : State) (f : Fld) (v : Nat) (h : f.lo ≤ f.hi) (h3 : f.hi < 32) :
    (s.put f v).get f = v % 2 ^ (f.hi + 1 - f.lo) := by
  have := rn_put s f v h h3
  unfold State.rn at this
  rw [State.get, this, bits_setBits _ _ _ _ h]

/-- A write of a field leaves the fields of other registers alone. -/
theorem get_put_reg (s : State) (f g : Fld) (v : Nat) (h : g.reg.key ≠ f.reg.key) : (s.put f v).get g = s.get g := by
  simp [State.get, State.put, rd_wr_ne s h]

theorem get_wn_reg (s : State) (r : Reg) (g : Fld) (v : Nat) (h : g.reg.key ≠ r.key) : (s.wn r v).get g = s.get g := by
  simp [State.get, State.wn, rd_wr_ne s h]

theorem rn_put_reg (s : State) (f : Fld) (r : Reg) (v : Nat) (h : r.key ≠ f.reg.key) : (s.put f v).rn r = s.rn r := by
  simp [State.rn, State.put, rd_wr_ne s h]

theorem bits_setBits_above (v hi lo x hi' lo' : Nat) (h : lo ≤ hi) (h' : hi < lo') :
    bits (setBits v hi lo x) hi' lo' = bits v hi' lo' := by
  have key : setBits v hi lo x / 2 ^ lo' = v / 2 ^ lo' := by
    have e : lo' = hi + 1 + (lo' - (hi + 1)) := by omega
    rw [e, Nat.pow_add, ← Nat.div_div_eq_div_mul, ← Nat.div_div_eq_div_mul]
    congr 1
    rw [setBits_eq v hi lo x h]
    have a1 : x % 2 ^ (hi + 1 - lo) < 2 ^ (hi + 1 - lo) := Nat.mod_lt _ (Nat.two_pow_pos _)
    have a2 : v % 2 ^ lo < 2 ^ lo := Nat.mod_lt _ (Nat.two_pow_pos _)
    have a4 : x % 2 ^ (hi + 1 - lo) * 2 ^ lo + v % 2 ^ lo < 2 ^ (hi + 1) := by
      have : (x % 2 ^ (hi + 1 - lo) + 1) * 2 ^ lo ≤ 2 ^ (hi + 1 - lo) * 2 ^ lo := Nat.mul_le_mul_right _ a1
      rw [← Nat.pow_add, show hi + 1 - lo + lo = hi + 1 by omega, Nat.add_mul] at this
      omega
    rw [Nat.add_assoc, Nat.mul_comm, Nat.mul_add_div (Nat.two_pow_pos _), Nat.div_eq_of_lt a4, Nat.add_zero]
  unfold bits; rw [key]

/-- Bits below a place are those of the remainder. -/
theorem bits_mod (u k hi lo : Nat) (h : lo ≤ hi) (h' : hi < k) : bits (u % 2 ^ k) hi lo = bits u hi lo := by
  have e : 2 ^ k = 2 ^ lo * (2 ^ (hi + 1 - lo) * 2 ^ (k - (hi + 1))) := by
    rw [← Nat.pow_add, ← Nat.pow_add]; congr 1; omega
  have h1 := Nat.div_add_mod u (2 ^ k)
  have h2 : u / 2 ^ lo = 2 ^ (hi + 1 - lo) * (2 ^ (k - (hi + 1)) * (u / 2 ^ k)) + u % 2 ^ k / 2 ^ lo := by
    conv => lhs; rw [← h1]
    rw [show 2 ^ k * (u / 2 ^ k) = 2 ^ lo * (2 ^ (hi + 1 - lo) * (2 ^ (k - (hi + 1)) * (u / 2 ^ k))) by
      rw [← Nat.mul_assoc (2 ^ (hi + 1 - lo)), ← Nat.mul_assoc (2 ^ lo), ← e]]
    rw [Nat.mul_add_div (Nat.two_pow_pos _)]
  unfold bits
  rw [h2, Nat.mul_add_mod]

theorem bits_setBits_below (v hi lo x hi' lo' : Nat) (h : lo ≤ hi) (h0 : lo' ≤ hi') (h' : hi' < lo) :
    bits (setBits v hi lo x) hi' lo' = bits v hi' lo' := by
  rw [← bits_mod _ lo hi' lo' h0 h', ← bits_mod v lo hi' lo' h0 h']
  congr 1
  rw [setBits_eq v hi lo x h]
  have e : 2 ^ (hi + 1) = 2 ^ (hi + 1 - lo) * 2 ^ lo := by rw [← Nat.pow_add]; congr 1; omega
  rw [e, ← Nat.mul_assoc, ← Nat.add_mul, Nat.add_comm, Nat.add_mul_mod_self_right, Nat.mod_mod]

/-- A write of a field leaves the fields beside it alone. -/
theorem get_put_beside (s : State) (f g : Fld) (v : Nat) (e : g.reg = f.reg) (h : f.lo ≤ f.hi) (h3 : f.hi < 32) (hg : g.lo ≤ g.hi)
    (b : f.hi < g.lo ∨ g.hi < f.lo) : (s.put f v).get g = s.get g := by
  have r := rn_put s f v h h3
  unfold State.rn at r
  rw [State.get, State.get, e, r]
  rcases b with b | b
  · exact bits_setBits_above _ _ _ _ _ _ h b
  · exact bits_setBits_below _ _ _ _ _ _ h hg b

/-! ## Writes -/

/-- A write of the four bytes of a word: the merge is the word (R12). -/
theorem merged_whole (old fn : Nat) (v : Word) (h : old < 2 ^ 32) : merged old ⟨fn, 15, v⟩ = v.toNat := by
  have hm : (⟨fn, 15, v⟩ : Wr).mask = 2 ^ 32 - 1 := by simp [Wr.mask]
  have hv : v.toNat &&& (2 ^ 32 - 1) = v.toNat := by rw [Nat.and_two_pow_sub_one_eq_mod]; have := v.isLt; omega
  unfold merged; rw [hm, hv, Nat.and_two_pow_sub_one_eq_mod]; omega

/-- Every byte of a word written to a register that is one read/write field without reserved encodings (R12). -/
theorem mergeRaw_whole (s : State) (fn : Nat) (v : Word) {key : Nat} {row : RegRow} {x : List Nat} {n : String} {st : Bool}
    (h : regAt key = some (row, x)) (hf : row.fields = [⟨n, 31, 0, .rw, st, []⟩]) :
    s.mergeRaw key ⟨fn, 15, v⟩ = s.wr ⟨key, row.reset x⟩ v := by
  have hk : merged (s.rn ⟨key, row.reset x⟩) ⟨fn, 15, v⟩ = v.toNat := merged_whole _ _ _ (s.rd ⟨key, row.reset x⟩).isLt
  have hb : bits v.toNat 31 0 = v.toNat := by have := v.isLt; unfold bits; omega
  unfold State.mergeRaw
  simp only [h, hf, wordWrite, List.foldl, fldWrite, hk, hb, inRanges, List.any_nil, Bool.and_false, Bool.false_eq_true, if_false,
    Nat.zero_add, Nat.pow_zero, Nat.mul_one, Bool.or_false, State.wn, w32, BitVec.ofNat_toNat, BitVec.setWidth_eq]

end Sys2Proof.Machine
end

