-- ==== Sys2Proof/Laws/Raise.lean ====
section
/-! SUPPORT. Raising an event: the registers it leaves alone. -/
set_option maxRecDepth 10000
namespace Sys2Proof.Machine

/-- The registers that raising an event of source n, or the events that this may raise in turn, can write. -/
def raiseKeys (n : Nat) : List Nat :=
  [(EVT_CNT n).key, (EVT_PEND (n / 32)).key, EVT_QLOST.key, (SYS_PQ_LOST 32).key, LOG_REFUSED.key, (SYS_PQ_STAT 32).key]

theorem bump_rd {s : State} {r q : Reg} {n : Nat} (h : q.key ≠ r.key) : (s.bump r n).rd q = s.rd q := by
  unfold State.bump State.wn; exact rd_wr_ne s h _

theorem put_rd {s : State} {f : Fld} {q : Reg} {n : Nat} (h : q.key ≠ f.reg.key) : (s.put f n).rd q = s.rd q := by
  unfold State.put; exact rd_wr_ne s h _

theorem routeRec_rd {s : State} {q : Reg} (h : q.key ≠ EVT_QLOST.key) (b : Nat) (r : EvRec) (v : Option Nat) :
    (s.routeRec b r v).rd q = s.rd q := by
  unfold State.routeRec
  split
  · rfl
  · exact bump_rd h

theorem closeWindow_rd {s : State} {q : Reg} (h : q.key ≠ EVT_QLOST.key) (x : EvWindow) : (s.closeWindow x).rd q = s.rd q := by
  unfold State.closeWindow
  dsimp only
  split
  · rfl
  · have k : (if (({ s with windows := s.windows.filter (fun y => y != x) } : State).eventQueue x.borough).isNone then
        ({ s with windows := s.windows.filter (fun y => y != x) } : State)
      else ({ s with windows := s.windows.filter (fun y => y != x) } : State).routeRec x.borough { x.item with reps := x.count, flags := x.item.flags ||| 32 }
        (({ s with windows := s.windows.filter (fun y => y != x) } : State).recVector x.borough x.src)).rd q = s.rd q := by
      split
      · rfl
      · rw [routeRec_rd h]; rfl
    split
    · exact k
    · exact k

theorem closeExpired_rd {q : Reg} (h : q.key ≠ EVT_QLOST.key) (b : Nat) (r : EvRec) (n : Nat) :
    ∀ s : State, (s.closeExpired b r n).rd q = s.rd q := by
  induction n with
  | zero => intro s; rfl
  | succ n ih =>
    intro s
    unfold State.closeExpired
    split
    · rw [ih, closeWindow_rd h]
    · rfl

theorem queueRec_rd {s : State} {q : Reg} (h : q.key ≠ EVT_QLOST.key) (b : Nat) (r : EvRec) (mand : Bool) (v : Option Nat) :
    (s.queueRec b r mand v).rd q = s.rd q := by
  unfold State.queueRec
  dsimp only
  split
  · rfl
  · split
    · exact routeRec_rd h b r v
    · split
      · exact closeExpired_rd h b r 2 s
      · show (State.routeRec (s.closeExpired b r 2) b r v).rd q = s.rd q
        rw [routeRec_rd h, closeExpired_rd h]

theorem State.rd_of_regs {s t : State} {q : Reg} (h : t.regs = s.regs) : t.rd q = s.rd q := by unfold State.rd; rw [h]

theorem vecDue_rd (s : State) (q : Reg) (fn v : Nat) : (s.vecDue fn v).rd q = s.rd q := by
  exact State.rd_of_regs ((State.vecDue_keeps (Keeps.refl (compMask [.vecs, .out]) s) rfl fn v).regs rfl)

theorem stageRunning_rd (s : State) (q : Reg) : s.stageRunning.rd q = s.rd q := rfl

theorem stageLog_rd {s : State} {q : Reg} (h1 : q.key ≠ (SYS_PQ_LOST 32).key) (h2 : q.key ≠ LOG_REFUSED.key)
    (h3 : q.key ≠ (SYS_PQ_STAT 32).key) (r : EvRec) (mand : Bool) : (s.stageLog r mand).rd q = s.rd q := by
  unfold State.stageLog
  dsimp only
  split
  · exact State.rd_of_regs rfl
  · split
    · exact State.rd_of_regs rfl
    · rw [stageRunning_rd, put_rd h3, bump_rd h2, bump_rd h1]

theorem raise1_rd {s : State} {q : Reg} {e : EvId} (h : q.key ∉ raiseKeys e.src) (inst : Nat) (det : List Detail) (bor : Nat)
    (pol mand nolog : Bool) : (s.raise1 e inst det bor pol mand nolog).rd q = s.rd q := by
  simp only [raiseKeys, List.mem_cons, List.not_mem_nil, or_false, not_or] at h
  obtain ⟨a, b, c, d, f, g⟩ := h
  have k : ∀ (t : State) (r : EvRec) (m : Bool), (t.stageLog r m).rd q = t.rd q := fun t r m => stageLog_rd d f g r m
  have k2 : ∀ (t : State) (x : Nat) (r : EvRec) (m : Bool) (v : Option Nat), (t.queueRec x r m v).rd q = t.rd q :=
    fun t x r m v => queueRec_rd c x r m v
  have k0 : ((s.bump (EVT_CNT e.src)).wn (EVT_PEND (e.src / 32))
      ((s.bump (EVT_CNT e.src)).rn (EVT_PEND (e.src / 32)) ||| 2 ^ (e.src % 32))).rd q = s.rd q := by
    unfold State.wn; rw [rd_wr_ne _ b, bump_rd a]
  unfold State.raise1
  dsimp only
  revert k0
  generalize (s.bump (EVT_CNT e.src)).wn (EVT_PEND (e.src / 32))
      ((s.bump (EVT_CNT e.src)).rn (EVT_PEND (e.src / 32)) ||| 2 ^ (e.src % 32)) = u
  intro k0
  have fin : ∀ (c : Bool) (t : State) (r : EvRec) (m : Bool), t.rd q = s.rd q → (if c = true then t.stageLog r m else t).rd q = s.rd q := by
    intro c t r m e; split
    · rw [k, e]
    · exact e
  apply fin
  have q4 : ∀ (c d : Bool) (r1 r2 : EvRec) (x : Nat) (v1 v2 : Option Nat) (m : Bool),
      (if c = true then (if d = true then u.queueRec x r1 m v1 else u).queueRec 0 r2 m v2 else if d = true then u.queueRec x r1 m v1 else u).rd q
        = s.rd q := by
    intro c d r1 r2 x v1 v2 m
    split <;> split <;> simp only [k2, k0]
  split
  · split
    · exact q4 _ _ _ _ _ _ _ _
    · rw [vecDue_rd]; exact q4 _ _ _ _ _ _ _ _
  · exact q4 _ _ _ _ _ _ _ _

/-- Raising an event leaves every other register alone. -/
theorem raise_rd {s : State} {q : Reg} {e : EvId} (h : q.key ∉ raiseKeys e.src) (h2 : q.key ∉ raiseKeys evLOG_STAGE_REFUSED.src)
    (h3 : q.key ∉ raiseKeys evSYS_POST_LOST.src) (inst : Nat) (det : List Detail) (bor : Nat) (pol mand nolog : Bool) :
    (s.raise e inst det bor pol mand nolog).rd q = s.rd q := by
  unfold State.raise
  dsimp only
  have k1 := raise1_rd (s := s) h inst det bor pol mand nolog
  revert k1; generalize s.raise1 e inst det bor pol mand nolog = u; intro k1
  have k2 : (if (u.log.stageRun && !s.log.stageRun) = true then u.raise1 evLOG_STAGE_REFUSED 65535 [] 0 false false false else u).rd q = s.rd q := by
    split
    · rw [raise1_rd h2, k1]
    · exact k1
  split
  · rw [raise1_rd h3, k2]
  · exact k2

/-- The same for a field of such a register. -/
theorem raise_get {s : State} {f : Fld} {e : EvId} (h : f.reg.key ∉ raiseKeys e.src) (h2 : f.reg.key ∉ raiseKeys evLOG_STAGE_REFUSED.src)
    (h3 : f.reg.key ∉ raiseKeys evSYS_POST_LOST.src) (inst : Nat) (det : List Detail) (bor : Nat) (pol mand nolog : Bool) :
    (s.raise e inst det bor pol mand nolog).get f = s.get f := by
  unfold State.get; rw [raise_rd h h2 h3]

/-- The time base. -/
theorem raise_tb (s : State) (e : EvId) (inst : Nat) (det : List Detail) (bor : Nat) (pol mand nolog : Bool) :
    (s.raise e inst det bor pol mand nolog).tb = s.tb := (State.raise_keeps (Keeps.refl (compMask eventComps) s) rfl e inst det bor pol mand nolog).tb rfl

/-- The present time. -/
theorem raise_mt (s : State) (e : EvId) (inst : Nat) (det : List Detail) (bor : Nat) (pol mand nolog : Bool) :
    (s.raise e inst det bor pol mand nolog).mt = s.mt := by unfold State.mt; rw [raise_tb]

end Sys2Proof.Machine
end

