-- ==== Sys2Proof/Laws/State.lean ====
section
/-! SUPPORT. What the updates of the state leave: one lemma for each update and each field that it does not write. -/
namespace Sys2Proof.Machine

/-! ## wr -/
@[simp] theorem State.wr_force (s : State) (r : Reg) (w : Word) : (s.wr r w).force = s.force := (rfl)
@[simp] theorem State.wr_aper (s : State) (r : Reg) (w : Word) : (s.wr r w).aper = s.aper := (rfl)
@[simp] theorem State.wr_tb (s : State) (r : Reg) (w : Word) : (s.wr r w).tb = s.tb := (rfl)
@[simp] theorem State.wr_txts (s : State) (r : Reg) (w : Word) : (s.wr r w).txts = s.txts := (rfl)
@[simp] theorem State.wr_router (s : State) (r : Reg) (w : Word) : (s.wr r w).router = s.router := (rfl)
@[simp] theorem State.wr_windows (s : State) (r : Reg) (w : Word) : (s.wr r w).windows = s.windows := (rfl)
@[simp] theorem State.wr_stageQ (s : State) (r : Reg) (w : Word) : (s.wr r w).stageQ = s.stageQ := (rfl)
@[simp] theorem State.wr_log (s : State) (r : Reg) (w : Word) : (s.wr r w).log = s.log := (rfl)
@[simp] theorem State.wr_funcs (s : State) (r : Reg) (w : Word) : (s.wr r w).funcs = s.funcs := (rfl)
@[simp] theorem State.wr_linkUp (s : State) (r : Reg) (w : Word) : (s.wr r w).linkUp = s.linkUp := (rfl)
@[simp] theorem State.wr_vecs (s : State) (r : Reg) (w : Word) : (s.wr r w).vecs = s.vecs := (rfl)
@[simp] theorem State.wr_ptm (s : State) (r : Reg) (w : Word) : (s.wr r w).ptm = s.ptm := (rfl)
@[simp] theorem State.wr_staged (s : State) (r : Reg) (w : Word) : (s.wr r w).staged = s.staged := (rfl)
@[simp] theorem State.wr_tags (s : State) (r : Reg) (w : Word) : (s.wr r w).tags = s.tags := (rfl)
@[simp] theorem State.wr_envs (s : State) (r : Reg) (w : Word) : (s.wr r w).envs = s.envs := (rfl)
@[simp] theorem State.wr_keys (s : State) (r : Reg) (w : Word) : (s.wr r w).keys = s.keys := (rfl)
@[simp] theorem State.wr_keyStage (s : State) (r : Reg) (w : Word) : (s.wr r w).keyStage = s.keyStage := (rfl)
@[simp] theorem State.wr_crings (s : State) (r : Reg) (w : Word) : (s.wr r w).crings = s.crings := (rfl)
@[simp] theorem State.wr_quesOn (s : State) (r : Reg) (w : Word) : (s.wr r w).quesOn = s.quesOn := (rfl)
@[simp] theorem State.wr_cmds (s : State) (r : Reg) (w : Word) : (s.wr r w).cmds = s.cmds := (rfl)
@[simp] theorem State.wr_fenced (s : State) (r : Reg) (w : Word) : (s.wr r w).fenced = s.fenced := (rfl)
@[simp] theorem State.wr_lateAt (s : State) (r : Reg) (w : Word) : (s.wr r w).lateAt = s.lateAt := (rfl)
@[simp] theorem State.wr_slots (s : State) (r : Reg) (w : Word) : (s.wr r w).slots = s.slots := (rfl)
@[simp] theorem State.wr_gridNext (s : State) (r : Reg) (w : Word) : (s.wr r w).gridNext = s.gridNext := (rfl)
@[simp] theorem State.wr_captures (s : State) (r : Reg) (w : Word) : (s.wr r w).captures = s.captures := (rfl)
@[simp] theorem State.wr_tdc (s : State) (r : Reg) (w : Word) : (s.wr r w).tdc = s.tdc := (rfl)
@[simp] theorem State.wr_tdcSwitches (s : State) (r : Reg) (w : Word) : (s.wr r w).tdcSwitches = s.tdcSwitches := (rfl)
@[simp] theorem State.wr_edges (s : State) (r : Reg) (w : Word) : (s.wr r w).edges = s.edges := (rfl)
@[simp] theorem State.wr_tagQ (s : State) (r : Reg) (w : Word) : (s.wr r w).tagQ = s.tagQ := (rfl)
@[simp] theorem State.wr_freqs (s : State) (r : Reg) (w : Word) : (s.wr r w).freqs = s.freqs := (rfl)
@[simp] theorem State.wr_cgLost (s : State) (r : Reg) (w : Word) : (s.wr r w).cgLost = s.cgLost := (rfl)
@[simp] theorem State.wr_monQ (s : State) (r : Reg) (w : Word) : (s.wr r w).monQ = s.monQ := (rfl)
@[simp] theorem State.wr_monSeq (s : State) (r : Reg) (w : Word) : (s.wr r w).monSeq = s.monSeq := (rfl)
@[simp] theorem State.wr_monLost (s : State) (r : Reg) (w : Word) : (s.wr r w).monLost = s.monLost := (rfl)
@[simp] theorem State.wr_popWait (s : State) (r : Reg) (w : Word) : (s.wr r w).popWait = s.popWait := (rfl)
@[simp] theorem State.wr_spareBook (s : State) (r : Reg) (w : Word) : (s.wr r w).spareBook = s.spareBook := (rfl)
@[simp] theorem State.wr_trimImg (s : State) (r : Reg) (w : Word) : (s.wr r w).trimImg = s.trimImg := (rfl)
@[simp] theorem State.wr_grps (s : State) (r : Reg) (w : Word) : (s.wr r w).grps = s.grps := (rfl)
@[simp] theorem State.wr_inps (s : State) (r : Reg) (w : Word) : (s.wr r w).inps = s.inps := (rfl)
@[simp] theorem State.wr_beams (s : State) (r : Reg) (w : Word) : (s.wr r w).beams = s.beams := (rfl)
@[simp] theorem State.wr_partials (s : State) (r : Reg) (w : Word) : (s.wr r w).partials = s.partials := (rfl)
@[simp] theorem State.wr_nodes (s : State) (r : Reg) (w : Word) : (s.wr r w).nodes = s.nodes := (rfl)
@[simp] theorem State.wr_blanks (s : State) (r : Reg) (w : Word) : (s.wr r w).blanks = s.blanks := (rfl)
@[simp] theorem State.wr_injects (s : State) (r : Reg) (w : Word) : (s.wr r w).injects = s.injects := (rfl)
@[simp] theorem State.wr_items (s : State) (r : Reg) (w : Word) : (s.wr r w).items = s.items := (rfl)
@[simp] theorem State.wr_units (s : State) (r : Reg) (w : Word) : (s.wr r w).units = s.units := (rfl)
@[simp] theorem State.wr_failingSlots (s : State) (r : Reg) (w : Word) : (s.wr r w).failingSlots = s.failingSlots := (rfl)
@[simp] theorem State.wr_retiredSlots (s : State) (r : Reg) (w : Word) : (s.wr r w).retiredSlots = s.retiredSlots := (rfl)
@[simp] theorem State.wr_trigs (s : State) (r : Reg) (w : Word) : (s.wr r w).trigs = s.trigs := (rfl)
@[simp] theorem State.wr_spxTx (s : State) (r : Reg) (w : Word) : (s.wr r w).spxTx = s.spxTx := (rfl)
@[simp] theorem State.wr_bmacSwaps (s : State) (r : Reg) (w : Word) : (s.wr r w).bmacSwaps = s.bmacSwaps := (rfl)
@[simp] theorem State.wr_fe (s : State) (r : Reg) (w : Word) : (s.wr r w).fe = s.fe := (rfl)
@[simp] theorem State.wr_pcvs (s : State) (r : Reg) (w : Word) : (s.wr r w).pcvs = s.pcvs := (rfl)
@[simp] theorem State.wr_sfeChs (s : State) (r : Reg) (w : Word) : (s.wr r w).sfeChs = s.sfeChs := (rfl)
@[simp] theorem State.wr_excs (s : State) (r : Reg) (w : Word) : (s.wr r w).excs = s.excs := (rfl)
@[simp] theorem State.wr_trimCopies (s : State) (r : Reg) (w : Word) : (s.wr r w).trimCopies = s.trimCopies := (rfl)
@[simp] theorem State.wr_linCopies (s : State) (r : Reg) (w : Word) : (s.wr r w).linCopies = s.linCopies := (rfl)
@[simp] theorem State.wr_nvm (s : State) (r : Reg) (w : Word) : (s.wr r w).nvm = s.nvm := (rfl)
@[simp] theorem State.wr_calMeas (s : State) (r : Reg) (w : Word) : (s.wr r w).calMeas = s.calMeas := (rfl)
@[simp] theorem State.wr_trimLoaded (s : State) (r : Reg) (w : Word) : (s.wr r w).trimLoaded = s.trimLoaded := (rfl)
@[simp] theorem State.wr_mramBad (s : State) (r : Reg) (w : Word) : (s.wr r w).mramBad = s.mramBad := (rfl)
@[simp] theorem State.wr_ptmAt (s : State) (r : Reg) (w : Word) : (s.wr r w).ptmAt = s.ptmAt := (rfl)
@[simp] theorem State.wr_monAt (s : State) (r : Reg) (w : Word) : (s.wr r w).monAt = s.monAt := (rfl)
@[simp] theorem State.wr_bmacShed (s : State) (r : Reg) (w : Word) : (s.wr r w).bmacShed = s.bmacShed := (rfl)
@[simp] theorem State.wr_mramMap (s : State) (r : Reg) (w : Word) : (s.wr r w).mramMap = s.mramMap := (rfl)
@[simp] theorem State.wr_part (s : State) (r : Reg) (w : Word) : (s.wr r w).part = s.part := (rfl)
@[simp] theorem State.wr_timCal (s : State) (r : Reg) (w : Word) : (s.wr r w).timCal = s.timCal := (rfl)
@[simp] theorem State.wr_plots (s : State) (r : Reg) (w : Word) : (s.wr r w).plots = s.plots := (rfl)
@[simp] theorem State.wr_ques (s : State) (r : Reg) (w : Word) : (s.wr r w).ques = s.ques := (rfl)
@[simp] theorem State.wr_plotBook (s : State) (r : Reg) (w : Word) : (s.wr r w).plotBook = s.plotBook := (rfl)
@[simp] theorem State.wr_copies (s : State) (r : Reg) (w : Word) : (s.wr r w).copies = s.copies := (rfl)
@[simp] theorem State.wr_raws (s : State) (r : Reg) (w : Word) : (s.wr r w).raws = s.raws := (rfl)
@[simp] theorem State.wr_ring (s : State) (r : Reg) (w : Word) : (s.wr r w).ring = s.ring := (rfl)
@[simp] theorem State.wr_jobs (s : State) (r : Reg) (w : Word) : (s.wr r w).jobs = s.jobs := (rfl)
@[simp] theorem State.wr_dxNext (s : State) (r : Reg) (w : Word) : (s.wr r w).dxNext = s.dxNext := (rfl)
@[simp] theorem State.wr_trgOuts (s : State) (r : Reg) (w : Word) : (s.wr r w).trgOuts = s.trgOuts := (rfl)
@[simp] theorem State.wr_pulses (s : State) (r : Reg) (w : Word) : (s.wr r w).pulses = s.pulses := (rfl)
@[simp] theorem State.wr_ilines (s : State) (r : Reg) (w : Word) : (s.wr r w).ilines = s.ilines := (rfl)
@[simp] theorem State.wr_netSenders (s : State) (r : Reg) (w : Word) : (s.wr r w).netSenders = s.netSenders := (rfl)
@[simp] theorem State.wr_trgSeq (s : State) (r : Reg) (w : Word) : (s.wr r w).trgSeq = s.trgSeq := (rfl)
@[simp] theorem State.wr_capSeq (s : State) (r : Reg) (w : Word) : (s.wr r w).capSeq = s.capSeq := (rfl)
@[simp] theorem State.wr_sigs (s : State) (r : Reg) (w : Word) : (s.wr r w).sigs = s.sigs := (rfl)
@[simp] theorem State.wr_mgb (s : State) (r : Reg) (w : Word) : (s.wr r w).mgb = s.mgb := (rfl)
@[simp] theorem State.wr_tap (s : State) (r : Reg) (w : Word) : (s.wr r w).tap = s.tap := (rfl)
@[simp] theorem State.wr_porLow (s : State) (r : Reg) (w : Word) : (s.wr r w).porLow = s.porLow := (rfl)
@[simp] theorem State.wr_arbs (s : State) (r : Reg) (w : Word) : (s.wr r w).arbs = s.arbs := (rfl)
@[simp] theorem State.wr_sheets (s : State) (r : Reg) (w : Word) : (s.wr r w).sheets = s.sheets := (rfl)
@[simp] theorem State.wr_ports (s : State) (r : Reg) (w : Word) : (s.wr r w).ports = s.ports := (rfl)
@[simp] theorem State.wr_rxs (s : State) (r : Reg) (w : Word) : (s.wr r w).rxs = s.rxs := (rfl)
@[simp] theorem State.wr_hrings (s : State) (r : Reg) (w : Word) : (s.wr r w).hrings = s.hrings := (rfl)
@[simp] theorem State.wr_links (s : State) (r : Reg) (w : Word) : (s.wr r w).links = s.links := (rfl)
@[simp] theorem State.wr_scheds (s : State) (r : Reg) (w : Word) : (s.wr r w).scheds = s.scheds := (rfl)
@[simp] theorem State.wr_delivers (s : State) (r : Reg) (w : Word) : (s.wr r w).delivers = s.delivers := (rfl)
@[simp] theorem State.wr_rates (s : State) (r : Reg) (w : Word) : (s.wr r w).rates = s.rates := (rfl)
@[simp] theorem State.wr_gaz (s : State) (r : Reg) (w : Word) : (s.wr r w).gaz = s.gaz := (rfl)
@[simp] theorem State.wr_gazSends (s : State) (r : Reg) (w : Word) : (s.wr r w).gazSends = s.gazSends := (rfl)
@[simp] theorem State.wr_digests (s : State) (r : Reg) (w : Word) : (s.wr r w).digests = s.digests := (rfl)
@[simp] theorem State.wr_gazBook (s : State) (r : Reg) (w : Word) : (s.wr r w).gazBook = s.gazBook := (rfl)
@[simp] theorem State.wr_engSwaps (s : State) (r : Reg) (w : Word) : (s.wr r w).engSwaps = s.engSwaps := (rfl)
@[simp] theorem State.wr_engErrs (s : State) (r : Reg) (w : Word) : (s.wr r w).engErrs = s.engErrs := (rfl)
@[simp] theorem State.wr_coreDog (s : State) (r : Reg) (w : Word) : (s.wr r w).coreDog = s.coreDog := (rfl)
@[simp] theorem State.wr_start (s : State) (r : Reg) (w : Word) : (s.wr r w).start = s.start := (rfl)
@[simp] theorem State.wr_images (s : State) (r : Reg) (w : Word) : (s.wr r w).images = s.images := (rfl)
@[simp] theorem State.wr_out (s : State) (r : Reg) (w : Word) : (s.wr r w).out = s.out := (rfl)
@[simp] theorem State.wr_drawn (s : State) (r : Reg) (w : Word) : (s.wr r w).drawn = s.drawn := (rfl)
@[simp] theorem State.wr_pending (s : State) (r : Reg) (w : Word) : (s.wr r w).pending = s.pending := (rfl)
/-! ## wn -/
@[simp] theorem State.wn_force (s : State) (r : Reg) (v : Nat) : (s.wn r v).force = s.force := (rfl)
@[simp] theorem State.wn_aper (s : State) (r : Reg) (v : Nat) : (s.wn r v).aper = s.aper := (rfl)
@[simp] theorem State.wn_tb (s : State) (r : Reg) (v : Nat) : (s.wn r v).tb = s.tb := (rfl)
@[simp] theorem State.wn_txts (s : State) (r : Reg) (v : Nat) : (s.wn r v).txts = s.txts := (rfl)
@[simp] theorem State.wn_router (s : State) (r : Reg) (v : Nat) : (s.wn r v).router = s.router := (rfl)
@[simp] theorem State.wn_windows (s : State) (r : Reg) (v : Nat) : (s.wn r v).windows = s.windows := (rfl)
@[simp] theorem State.wn_stageQ (s : State) (r : Reg) (v : Nat) : (s.wn r v).stageQ = s.stageQ := (rfl)
@[simp] theorem State.wn_log (s : State) (r : Reg) (v : Nat) : (s.wn r v).log = s.log := (rfl)
@[simp] theorem State.wn_funcs (s : State) (r : Reg) (v : Nat) : (s.wn r v).funcs = s.funcs := (rfl)
@[simp] theorem State.wn_linkUp (s : State) (r : Reg) (v : Nat) : (s.wn r v).linkUp = s.linkUp := (rfl)
@[simp] theorem State.wn_vecs (s : State) (r : Reg) (v : Nat) : (s.wn r v).vecs = s.vecs := (rfl)
@[simp] theorem State.wn_ptm (s : State) (r : Reg) (v : Nat) : (s.wn r v).ptm = s.ptm := (rfl)
@[simp] theorem State.wn_staged (s : State) (r : Reg) (v : Nat) : (s.wn r v).staged = s.staged := (rfl)
@[simp] theorem State.wn_tags (s : State) (r : Reg) (v : Nat) : (s.wn r v).tags = s.tags := (rfl)
@[simp] theorem State.wn_envs (s : State) (r : Reg) (v : Nat) : (s.wn r v).envs = s.envs := (rfl)
@[simp] theorem State.wn_keys (s : State) (r : Reg) (v : Nat) : (s.wn r v).keys = s.keys := (rfl)
@[simp] theorem State.wn_keyStage (s : State) (r : Reg) (v : Nat) : (s.wn r v).keyStage = s.keyStage := (rfl)
@[simp] theorem State.wn_crings (s : State) (r : Reg) (v : Nat) : (s.wn r v).crings = s.crings := (rfl)
@[simp] theorem State.wn_quesOn (s : State) (r : Reg) (v : Nat) : (s.wn r v).quesOn = s.quesOn := (rfl)
@[simp] theorem State.wn_cmds (s : State) (r : Reg) (v : Nat) : (s.wn r v).cmds = s.cmds := (rfl)
@[simp] theorem State.wn_fenced (s : State) (r : Reg) (v : Nat) : (s.wn r v).fenced = s.fenced := (rfl)
@[simp] theorem State.wn_lateAt (s : State) (r : Reg) (v : Nat) : (s.wn r v).lateAt = s.lateAt := (rfl)
@[simp] theorem State.wn_slots (s : State) (r : Reg) (v : Nat) : (s.wn r v).slots = s.slots := (rfl)
@[simp] theorem State.wn_gridNext (s : State) (r : Reg) (v : Nat) : (s.wn r v).gridNext = s.gridNext := (rfl)
@[simp] theorem State.wn_captures (s : State) (r : Reg) (v : Nat) : (s.wn r v).captures = s.captures := (rfl)
@[simp] theorem State.wn_tdc (s : State) (r : Reg) (v : Nat) : (s.wn r v).tdc = s.tdc := (rfl)
@[simp] theorem State.wn_tdcSwitches (s : State) (r : Reg) (v : Nat) : (s.wn r v).tdcSwitches = s.tdcSwitches := (rfl)
@[simp] theorem State.wn_edges (s : State) (r : Reg) (v : Nat) : (s.wn r v).edges = s.edges := (rfl)
@[simp] theorem State.wn_tagQ (s : State) (r : Reg) (v : Nat) : (s.wn r v).tagQ = s.tagQ := (rfl)
@[simp] theorem State.wn_freqs (s : State) (r : Reg) (v : Nat) : (s.wn r v).freqs = s.freqs := (rfl)
@[simp] theorem State.wn_cgLost (s : State) (r : Reg) (v : Nat) : (s.wn r v).cgLost = s.cgLost := (rfl)
@[simp] theorem State.wn_monQ (s : State) (r : Reg) (v : Nat) : (s.wn r v).monQ = s.monQ := (rfl)
@[simp] theorem State.wn_monSeq (s : State) (r : Reg) (v : Nat) : (s.wn r v).monSeq = s.monSeq := (rfl)
@[simp] theorem State.wn_monLost (s : State) (r : Reg) (v : Nat) : (s.wn r v).monLost = s.monLost := (rfl)
@[simp] theorem State.wn_popWait (s : State) (r : Reg) (v : Nat) : (s.wn r v).popWait = s.popWait := (rfl)
@[simp] theorem State.wn_spareBook (s : State) (r : Reg) (v : Nat) : (s.wn r v).spareBook = s.spareBook := (rfl)
@[simp] theorem State.wn_trimImg (s : State) (r : Reg) (v : Nat) : (s.wn r v).trimImg = s.trimImg := (rfl)
@[simp] theorem State.wn_grps (s : State) (r : Reg) (v : Nat) : (s.wn r v).grps = s.grps := (rfl)
@[simp] theorem State.wn_inps (s : State) (r : Reg) (v : Nat) : (s.wn r v).inps = s.inps := (rfl)
@[simp] theorem State.wn_beams (s : State) (r : Reg) (v : Nat) : (s.wn r v).beams = s.beams := (rfl)
@[simp] theorem State.wn_partials (s : State) (r : Reg) (v : Nat) : (s.wn r v).partials = s.partials := (rfl)
@[simp] theorem State.wn_nodes (s : State) (r : Reg) (v : Nat) : (s.wn r v).nodes = s.nodes := (rfl)
@[simp] theorem State.wn_blanks (s : State) (r : Reg) (v : Nat) : (s.wn r v).blanks = s.blanks := (rfl)
@[simp] theorem State.wn_injects (s : State) (r : Reg) (v : Nat) : (s.wn r v).injects = s.injects := (rfl)
@[simp] theorem State.wn_items (s : State) (r : Reg) (v : Nat) : (s.wn r v).items = s.items := (rfl)
@[simp] theorem State.wn_units (s : State) (r : Reg) (v : Nat) : (s.wn r v).units = s.units := (rfl)
@[simp] theorem State.wn_failingSlots (s : State) (r : Reg) (v : Nat) : (s.wn r v).failingSlots = s.failingSlots := (rfl)
@[simp] theorem State.wn_retiredSlots (s : State) (r : Reg) (v : Nat) : (s.wn r v).retiredSlots = s.retiredSlots := (rfl)
@[simp] theorem State.wn_trigs (s : State) (r : Reg) (v : Nat) : (s.wn r v).trigs = s.trigs := (rfl)
@[simp] theorem State.wn_spxTx (s : State) (r : Reg) (v : Nat) : (s.wn r v).spxTx = s.spxTx := (rfl)
@[simp] theorem State.wn_bmacSwaps (s : State) (r : Reg) (v : Nat) : (s.wn r v).bmacSwaps = s.bmacSwaps := (rfl)
@[simp] theorem State.wn_fe (s : State) (r : Reg) (v : Nat) : (s.wn r v).fe = s.fe := (rfl)
@[simp] theorem State.wn_pcvs (s : State) (r : Reg) (v : Nat) : (s.wn r v).pcvs = s.pcvs := (rfl)
@[simp] theorem State.wn_sfeChs (s : State) (r : Reg) (v : Nat) : (s.wn r v).sfeChs = s.sfeChs := (rfl)
@[simp] theorem State.wn_excs (s : State) (r : Reg) (v : Nat) : (s.wn r v).excs = s.excs := (rfl)
@[simp] theorem State.wn_trimCopies (s : State) (r : Reg) (v : Nat) : (s.wn r v).trimCopies = s.trimCopies := (rfl)
@[simp] theorem State.wn_linCopies (s : State) (r : Reg) (v : Nat) : (s.wn r v).linCopies = s.linCopies := (rfl)
@[simp] theorem State.wn_nvm (s : State) (r : Reg) (v : Nat) : (s.wn r v).nvm = s.nvm := (rfl)
@[simp] theorem State.wn_calMeas (s : State) (r : Reg) (v : Nat) : (s.wn r v).calMeas = s.calMeas := (rfl)
@[simp] theorem State.wn_trimLoaded (s : State) (r : Reg) (v : Nat) : (s.wn r v).trimLoaded = s.trimLoaded := (rfl)
@[simp] theorem State.wn_mramBad (s : State) (r : Reg) (v : Nat) : (s.wn r v).mramBad = s.mramBad := (rfl)
@[simp] theorem State.wn_ptmAt (s : State) (r : Reg) (v : Nat) : (s.wn r v).ptmAt = s.ptmAt := (rfl)
@[simp] theorem State.wn_monAt (s : State) (r : Reg) (v : Nat) : (s.wn r v).monAt = s.monAt := (rfl)
@[simp] theorem State.wn_bmacShed (s : State) (r : Reg) (v : Nat) : (s.wn r v).bmacShed = s.bmacShed := (rfl)
@[simp] theorem State.wn_mramMap (s : State) (r : Reg) (v : Nat) : (s.wn r v).mramMap = s.mramMap := (rfl)
@[simp] theorem State.wn_part (s : State) (r : Reg) (v : Nat) : (s.wn r v).part = s.part := (rfl)
@[simp] theorem State.wn_timCal (s : State) (r : Reg) (v : Nat) : (s.wn r v).timCal = s.timCal := (rfl)
@[simp] theorem State.wn_plots (s : State) (r : Reg) (v : Nat) : (s.wn r v).plots = s.plots := (rfl)
@[simp] theorem State.wn_ques (s : State) (r : Reg) (v : Nat) : (s.wn r v).ques = s.ques := (rfl)
@[simp] theorem State.wn_plotBook (s : State) (r : Reg) (v : Nat) : (s.wn r v).plotBook = s.plotBook := (rfl)
@[simp] theorem State.wn_copies (s : State) (r : Reg) (v : Nat) : (s.wn r v).copies = s.copies := (rfl)
@[simp] theorem State.wn_raws (s : State) (r : Reg) (v : Nat) : (s.wn r v).raws = s.raws := (rfl)
@[simp] theorem State.wn_ring (s : State) (r : Reg) (v : Nat) : (s.wn r v).ring = s.ring := (rfl)
@[simp] theorem State.wn_jobs (s : State) (r : Reg) (v : Nat) : (s.wn r v).jobs = s.jobs := (rfl)
@[simp] theorem State.wn_dxNext (s : State) (r : Reg) (v : Nat) : (s.wn r v).dxNext = s.dxNext := (rfl)
@[simp] theorem State.wn_trgOuts (s : State) (r : Reg) (v : Nat) : (s.wn r v).trgOuts = s.trgOuts := (rfl)
@[simp] theorem State.wn_pulses (s : State) (r : Reg) (v : Nat) : (s.wn r v).pulses = s.pulses := (rfl)
@[simp] theorem State.wn_ilines (s : State) (r : Reg) (v : Nat) : (s.wn r v).ilines = s.ilines := (rfl)
@[simp] theorem State.wn_netSenders (s : State) (r : Reg) (v : Nat) : (s.wn r v).netSenders = s.netSenders := (rfl)
@[simp] theorem State.wn_trgSeq (s : State) (r : Reg) (v : Nat) : (s.wn r v).trgSeq = s.trgSeq := (rfl)
@[simp] theorem State.wn_capSeq (s : State) (r : Reg) (v : Nat) : (s.wn r v).capSeq = s.capSeq := (rfl)
@[simp] theorem State.wn_sigs (s : State) (r : Reg) (v : Nat) : (s.wn r v).sigs = s.sigs := (rfl)
@[simp] theorem State.wn_mgb (s : State) (r : Reg) (v : Nat) : (s.wn r v).mgb = s.mgb := (rfl)
@[simp] theorem State.wn_tap (s : State) (r : Reg) (v : Nat) : (s.wn r v).tap = s.tap := (rfl)
@[simp] theorem State.wn_porLow (s : State) (r : Reg) (v : Nat) : (s.wn r v).porLow = s.porLow := (rfl)
@[simp] theorem State.wn_arbs (s : State) (r : Reg) (v : Nat) : (s.wn r v).arbs = s.arbs := (rfl)
@[simp] theorem State.wn_sheets (s : State) (r : Reg) (v : Nat) : (s.wn r v).sheets = s.sheets := (rfl)
@[simp] theorem State.wn_ports (s : State) (r : Reg) (v : Nat) : (s.wn r v).ports = s.ports := (rfl)
@[simp] theorem State.wn_rxs (s : State) (r : Reg) (v : Nat) : (s.wn r v).rxs = s.rxs := (rfl)
@[simp] theorem State.wn_hrings (s : State) (r : Reg) (v : Nat) : (s.wn r v).hrings = s.hrings := (rfl)
@[simp] theorem State.wn_links (s : State) (r : Reg) (v : Nat) : (s.wn r v).links = s.links := (rfl)
@[simp] theorem State.wn_scheds (s : State) (r : Reg) (v : Nat) : (s.wn r v).scheds = s.scheds := (rfl)
@[simp] theorem State.wn_delivers (s : State) (r : Reg) (v : Nat) : (s.wn r v).delivers = s.delivers := (rfl)
@[simp] theorem State.wn_rates (s : State) (r : Reg) (v : Nat) : (s.wn r v).rates = s.rates := (rfl)
@[simp] theorem State.wn_gaz (s : State) (r : Reg) (v : Nat) : (s.wn r v).gaz = s.gaz := (rfl)
@[simp] theorem State.wn_gazSends (s : State) (r : Reg) (v : Nat) : (s.wn r v).gazSends = s.gazSends := (rfl)
@[simp] theorem State.wn_digests (s : State) (r : Reg) (v : Nat) : (s.wn r v).digests = s.digests := (rfl)
@[simp] theorem State.wn_gazBook (s : State) (r : Reg) (v : Nat) : (s.wn r v).gazBook = s.gazBook := (rfl)
@[simp] theorem State.wn_engSwaps (s : State) (r : Reg) (v : Nat) : (s.wn r v).engSwaps = s.engSwaps := (rfl)
@[simp] theorem State.wn_engErrs (s : State) (r : Reg) (v : Nat) : (s.wn r v).engErrs = s.engErrs := (rfl)
@[simp] theorem State.wn_coreDog (s : State) (r : Reg) (v : Nat) : (s.wn r v).coreDog = s.coreDog := (rfl)
@[simp] theorem State.wn_start (s : State) (r : Reg) (v : Nat) : (s.wn r v).start = s.start := (rfl)
@[simp] theorem State.wn_images (s : State) (r : Reg) (v : Nat) : (s.wn r v).images = s.images := (rfl)
@[simp] theorem State.wn_out (s : State) (r : Reg) (v : Nat) : (s.wn r v).out = s.out := (rfl)
@[simp] theorem State.wn_drawn (s : State) (r : Reg) (v : Nat) : (s.wn r v).drawn = s.drawn := (rfl)
@[simp] theorem State.wn_pending (s : State) (r : Reg) (v : Nat) : (s.wn r v).pending = s.pending := (rfl)
/-! ## put -/
@[simp] theorem State.put_force (s : State) (f : Fld) (v : Nat) : (s.put f v).force = s.force := (rfl)
@[simp] theorem State.put_aper (s : State) (f : Fld) (v : Nat) : (s.put f v).aper = s.aper := (rfl)
@[simp] theorem State.put_tb (s : State) (f : Fld) (v : Nat) : (s.put f v).tb = s.tb := (rfl)
@[simp] theorem State.put_txts (s : State) (f : Fld) (v : Nat) : (s.put f v).txts = s.txts := (rfl)
@[simp] theorem State.put_router (s : State) (f : Fld) (v : Nat) : (s.put f v).router = s.router := (rfl)
@[simp] theorem State.put_windows (s : State) (f : Fld) (v : Nat) : (s.put f v).windows = s.windows := (rfl)
@[simp] theorem State.put_stageQ (s : State) (f : Fld) (v : Nat) : (s.put f v).stageQ = s.stageQ := (rfl)
@[simp] theorem State.put_log (s : State) (f : Fld) (v : Nat) : (s.put f v).log = s.log := (rfl)
@[simp] theorem State.put_funcs (s : State) (f : Fld) (v : Nat) : (s.put f v).funcs = s.funcs := (rfl)
@[simp] theorem State.put_linkUp (s : State) (f : Fld) (v : Nat) : (s.put f v).linkUp = s.linkUp := (rfl)
@[simp] theorem State.put_vecs (s : State) (f : Fld) (v : Nat) : (s.put f v).vecs = s.vecs := (rfl)
@[simp] theorem State.put_ptm (s : State) (f : Fld) (v : Nat) : (s.put f v).ptm = s.ptm := (rfl)
@[simp] theorem State.put_staged (s : State) (f : Fld) (v : Nat) : (s.put f v).staged = s.staged := (rfl)
@[simp] theorem State.put_tags (s : State) (f : Fld) (v : Nat) : (s.put f v).tags = s.tags := (rfl)
@[simp] theorem State.put_envs (s : State) (f : Fld) (v : Nat) : (s.put f v).envs = s.envs := (rfl)
@[simp] theorem State.put_keys (s : State) (f : Fld) (v : Nat) : (s.put f v).keys = s.keys := (rfl)
@[simp] theorem State.put_keyStage (s : State) (f : Fld) (v : Nat) : (s.put f v).keyStage = s.keyStage := (rfl)
@[simp] theorem State.put_crings (s : State) (f : Fld) (v : Nat) : (s.put f v).crings = s.crings := (rfl)
@[simp] theorem State.put_quesOn (s : State) (f : Fld) (v : Nat) : (s.put f v).quesOn = s.quesOn := (rfl)
@[simp] theorem State.put_cmds (s : State) (f : Fld) (v : Nat) : (s.put f v).cmds = s.cmds := (rfl)
@[simp] theorem State.put_fenced (s : State) (f : Fld) (v : Nat) : (s.put f v).fenced = s.fenced := (rfl)
@[simp] theorem State.put_lateAt (s : State) (f : Fld) (v : Nat) : (s.put f v).lateAt = s.lateAt := (rfl)
@[simp] theorem State.put_slots (s : State) (f : Fld) (v : Nat) : (s.put f v).slots = s.slots := (rfl)
@[simp] theorem State.put_gridNext (s : State) (f : Fld) (v : Nat) : (s.put f v).gridNext = s.gridNext := (rfl)
@[simp] theorem State.put_captures (s : State) (f : Fld) (v : Nat) : (s.put f v).captures = s.captures := (rfl)
@[simp] theorem State.put_tdc (s : State) (f : Fld) (v : Nat) : (s.put f v).tdc = s.tdc := (rfl)
@[simp] theorem State.put_tdcSwitches (s : State) (f : Fld) (v : Nat) : (s.put f v).tdcSwitches = s.tdcSwitches := (rfl)
@[simp] theorem State.put_edges (s : State) (f : Fld) (v : Nat) : (s.put f v).edges = s.edges := (rfl)
@[simp] theorem State.put_tagQ (s : State) (f : Fld) (v : Nat) : (s.put f v).tagQ = s.tagQ := (rfl)
@[simp] theorem State.put_freqs (s : State) (f : Fld) (v : Nat) : (s.put f v).freqs = s.freqs := (rfl)
@[simp] theorem State.put_cgLost (s : State) (f : Fld) (v : Nat) : (s.put f v).cgLost = s.cgLost := (rfl)
@[simp] theorem State.put_monQ (s : State) (f : Fld) (v : Nat) : (s.put f v).monQ = s.monQ := (rfl)
@[simp] theorem State.put_monSeq (s : State) (f : Fld) (v : Nat) : (s.put f v).monSeq = s.monSeq := (rfl)
@[simp] theorem State.put_monLost (s : State) (f : Fld) (v : Nat) : (s.put f v).monLost = s.monLost := (rfl)
@[simp] theorem State.put_popWait (s : State) (f : Fld) (v : Nat) : (s.put f v).popWait = s.popWait := (rfl)
@[simp] theorem State.put_spareBook (s : State) (f : Fld) (v : Nat) : (s.put f v).spareBook = s.spareBook := (rfl)
@[simp] theorem State.put_trimImg (s : State) (f : Fld) (v : Nat) : (s.put f v).trimImg = s.trimImg := (rfl)
@[simp] theorem State.put_grps (s : State) (f : Fld) (v : Nat) : (s.put f v).grps = s.grps := (rfl)
@[simp] theorem State.put_inps (s : State) (f : Fld) (v : Nat) : (s.put f v).inps = s.inps := (rfl)
@[simp] theorem State.put_beams (s : State) (f : Fld) (v : Nat) : (s.put f v).beams = s.beams := (rfl)
@[simp] theorem State.put_partials (s : State) (f : Fld) (v : Nat) : (s.put f v).partials = s.partials := (rfl)
@[simp] theorem State.put_nodes (s : State) (f : Fld) (v : Nat) : (s.put f v).nodes = s.nodes := (rfl)
@[simp] theorem State.put_blanks (s : State) (f : Fld) (v : Nat) : (s.put f v).blanks = s.blanks := (rfl)
@[simp] theorem State.put_injects (s : State) (f : Fld) (v : Nat) : (s.put f v).injects = s.injects := (rfl)
@[simp] theorem State.put_items (s : State) (f : Fld) (v : Nat) : (s.put f v).items = s.items := (rfl)
@[simp] theorem State.put_units (s : State) (f : Fld) (v : Nat) : (s.put f v).units = s.units := (rfl)
@[simp] theorem State.put_failingSlots (s : State) (f : Fld) (v : Nat) : (s.put f v).failingSlots = s.failingSlots := (rfl)
@[simp] theorem State.put_retiredSlots (s : State) (f : Fld) (v : Nat) : (s.put f v).retiredSlots = s.retiredSlots := (rfl)
@[simp] theorem State.put_trigs (s : State) (f : Fld) (v : Nat) : (s.put f v).trigs = s.trigs := (rfl)
@[simp] theorem State.put_spxTx (s : State) (f : Fld) (v : Nat) : (s.put f v).spxTx = s.spxTx := (rfl)
@[simp] theorem State.put_bmacSwaps (s : State) (f : Fld) (v : Nat) : (s.put f v).bmacSwaps = s.bmacSwaps := (rfl)
@[simp] theorem State.put_fe (s : State) (f : Fld) (v : Nat) : (s.put f v).fe = s.fe := (rfl)
@[simp] theorem State.put_pcvs (s : State) (f : Fld) (v : Nat) : (s.put f v).pcvs = s.pcvs := (rfl)
@[simp] theorem State.put_sfeChs (s : State) (f : Fld) (v : Nat) : (s.put f v).sfeChs = s.sfeChs := (rfl)
@[simp] theorem State.put_excs (s : State) (f : Fld) (v : Nat) : (s.put f v).excs = s.excs := (rfl)
@[simp] theorem State.put_trimCopies (s : State) (f : Fld) (v : Nat) : (s.put f v).trimCopies = s.trimCopies := (rfl)
@[simp] theorem State.put_linCopies (s : State) (f : Fld) (v : Nat) : (s.put f v).linCopies = s.linCopies := (rfl)
@[simp] theorem State.put_nvm (s : State) (f : Fld) (v : Nat) : (s.put f v).nvm = s.nvm := (rfl)
@[simp] theorem State.put_calMeas (s : State) (f : Fld) (v : Nat) : (s.put f v).calMeas = s.calMeas := (rfl)
@[simp] theorem State.put_trimLoaded (s : State) (f : Fld) (v : Nat) : (s.put f v).trimLoaded = s.trimLoaded := (rfl)
@[simp] theorem State.put_mramBad (s : State) (f : Fld) (v : Nat) : (s.put f v).mramBad = s.mramBad := (rfl)
@[simp] theorem State.put_ptmAt (s : State) (f : Fld) (v : Nat) : (s.put f v).ptmAt = s.ptmAt := (rfl)
@[simp] theorem State.put_monAt (s : State) (f : Fld) (v : Nat) : (s.put f v).monAt = s.monAt := (rfl)
@[simp] theorem State.put_bmacShed (s : State) (f : Fld) (v : Nat) : (s.put f v).bmacShed = s.bmacShed := (rfl)
@[simp] theorem State.put_mramMap (s : State) (f : Fld) (v : Nat) : (s.put f v).mramMap = s.mramMap := (rfl)
@[simp] theorem State.put_part (s : State) (f : Fld) (v : Nat) : (s.put f v).part = s.part := (rfl)
@[simp] theorem State.put_timCal (s : State) (f : Fld) (v : Nat) : (s.put f v).timCal = s.timCal := (rfl)
@[simp] theorem State.put_plots (s : State) (f : Fld) (v : Nat) : (s.put f v).plots = s.plots := (rfl)
@[simp] theorem State.put_ques (s : State) (f : Fld) (v : Nat) : (s.put f v).ques = s.ques := (rfl)
@[simp] theorem State.put_plotBook (s : State) (f : Fld) (v : Nat) : (s.put f v).plotBook = s.plotBook := (rfl)
@[simp] theorem State.put_copies (s : State) (f : Fld) (v : Nat) : (s.put f v).copies = s.copies := (rfl)
@[simp] theorem State.put_raws (s : State) (f : Fld) (v : Nat) : (s.put f v).raws = s.raws := (rfl)
@[simp] theorem State.put_ring (s : State) (f : Fld) (v : Nat) : (s.put f v).ring = s.ring := (rfl)
@[simp] theorem State.put_jobs (s : State) (f : Fld) (v : Nat) : (s.put f v).jobs = s.jobs := (rfl)
@[simp] theorem State.put_dxNext (s : State) (f : Fld) (v : Nat) : (s.put f v).dxNext = s.dxNext := (rfl)
@[simp] theorem State.put_trgOuts (s : State) (f : Fld) (v : Nat) : (s.put f v).trgOuts = s.trgOuts := (rfl)
@[simp] theorem State.put_pulses (s : State) (f : Fld) (v : Nat) : (s.put f v).pulses = s.pulses := (rfl)
@[simp] theorem State.put_ilines (s : State) (f : Fld) (v : Nat) : (s.put f v).ilines = s.ilines := (rfl)
@[simp] theorem State.put_netSenders (s : State) (f : Fld) (v : Nat) : (s.put f v).netSenders = s.netSenders := (rfl)
@[simp] theorem State.put_trgSeq (s : State) (f : Fld) (v : Nat) : (s.put f v).trgSeq = s.trgSeq := (rfl)
@[simp] theorem State.put_capSeq (s : State) (f : Fld) (v : Nat) : (s.put f v).capSeq = s.capSeq := (rfl)
@[simp] theorem State.put_sigs (s : State) (f : Fld) (v : Nat) : (s.put f v).sigs = s.sigs := (rfl)
@[simp] theorem State.put_mgb (s : State) (f : Fld) (v : Nat) : (s.put f v).mgb = s.mgb := (rfl)
@[simp] theorem State.put_tap (s : State) (f : Fld) (v : Nat) : (s.put f v).tap = s.tap := (rfl)
@[simp] theorem State.put_porLow (s : State) (f : Fld) (v : Nat) : (s.put f v).porLow = s.porLow := (rfl)
@[simp] theorem State.put_arbs (s : State) (f : Fld) (v : Nat) : (s.put f v).arbs = s.arbs := (rfl)
@[simp] theorem State.put_sheets (s : State) (f : Fld) (v : Nat) : (s.put f v).sheets = s.sheets := (rfl)
@[simp] theorem State.put_ports (s : State) (f : Fld) (v : Nat) : (s.put f v).ports = s.ports := (rfl)
@[simp] theorem State.put_rxs (s : State) (f : Fld) (v : Nat) : (s.put f v).rxs = s.rxs := (rfl)
@[simp] theorem State.put_hrings (s : State) (f : Fld) (v : Nat) : (s.put f v).hrings = s.hrings := (rfl)
@[simp] theorem State.put_links (s : State) (f : Fld) (v : Nat) : (s.put f v).links = s.links := (rfl)
@[simp] theorem State.put_scheds (s : State) (f : Fld) (v : Nat) : (s.put f v).scheds = s.scheds := (rfl)
@[simp] theorem State.put_delivers (s : State) (f : Fld) (v : Nat) : (s.put f v).delivers = s.delivers := (rfl)
@[simp] theorem State.put_rates (s : State) (f : Fld) (v : Nat) : (s.put f v).rates = s.rates := (rfl)
@[simp] theorem State.put_gaz (s : State) (f : Fld) (v : Nat) : (s.put f v).gaz = s.gaz := (rfl)
@[simp] theorem State.put_gazSends (s : State) (f : Fld) (v : Nat) : (s.put f v).gazSends = s.gazSends := (rfl)
@[simp] theorem State.put_digests (s : State) (f : Fld) (v : Nat) : (s.put f v).digests = s.digests := (rfl)
@[simp] theorem State.put_gazBook (s : State) (f : Fld) (v : Nat) : (s.put f v).gazBook = s.gazBook := (rfl)
@[simp] theorem State.put_engSwaps (s : State) (f : Fld) (v : Nat) : (s.put f v).engSwaps = s.engSwaps := (rfl)
@[simp] theorem State.put_engErrs (s : State) (f : Fld) (v : Nat) : (s.put f v).engErrs = s.engErrs := (rfl)
@[simp] theorem State.put_coreDog (s : State) (f : Fld) (v : Nat) : (s.put f v).coreDog = s.coreDog := (rfl)
@[simp] theorem State.put_start (s : State) (f : Fld) (v : Nat) : (s.put f v).start = s.start := (rfl)
@[simp] theorem State.put_images (s : State) (f : Fld) (v : Nat) : (s.put f v).images = s.images := (rfl)
@[simp] theorem State.put_out (s : State) (f : Fld) (v : Nat) : (s.put f v).out = s.out := (rfl)
@[simp] theorem State.put_drawn (s : State) (f : Fld) (v : Nat) : (s.put f v).drawn = s.drawn := (rfl)
@[simp] theorem State.put_pending (s : State) (f : Fld) (v : Nat) : (s.put f v).pending = s.pending := (rfl)
/-! ## bump -/
@[simp] theorem State.bump_force (s : State) (r : Reg) (n : Nat) : (s.bump r n).force = s.force := (rfl)
@[simp] theorem State.bump_aper (s : State) (r : Reg) (n : Nat) : (s.bump r n).aper = s.aper := (rfl)
@[simp] theorem State.bump_tb (s : State) (r : Reg) (n : Nat) : (s.bump r n).tb = s.tb := (rfl)
@[simp] theorem State.bump_txts (s : State) (r : Reg) (n : Nat) : (s.bump r n).txts = s.txts := (rfl)
@[simp] theorem State.bump_router (s : State) (r : Reg) (n : Nat) : (s.bump r n).router = s.router := (rfl)
@[simp] theorem State.bump_windows (s : State) (r : Reg) (n : Nat) : (s.bump r n).windows = s.windows := (rfl)
@[simp] theorem State.bump_stageQ (s : State) (r : Reg) (n : Nat) : (s.bump r n).stageQ = s.stageQ := (rfl)
@[simp] theorem State.bump_log (s : State) (r : Reg) (n : Nat) : (s.bump r n).log = s.log := (rfl)
@[simp] theorem State.bump_funcs (s : State) (r : Reg) (n : Nat) : (s.bump r n).funcs = s.funcs := (rfl)
@[simp] theorem State.bump_linkUp (s : State) (r : Reg) (n : Nat) : (s.bump r n).linkUp = s.linkUp := (rfl)
@[simp] theorem State.bump_vecs (s : State) (r : Reg) (n : Nat) : (s.bump r n).vecs = s.vecs := (rfl)
@[simp] theorem State.bump_ptm (s : State) (r : Reg) (n : Nat) : (s.bump r n).ptm = s.ptm := (rfl)
@[simp] theorem State.bump_staged (s : State) (r : Reg) (n : Nat) : (s.bump r n).staged = s.staged := (rfl)
@[simp] theorem State.bump_tags (s : State) (r : Reg) (n : Nat) : (s.bump r n).tags = s.tags := (rfl)
@[simp] theorem State.bump_envs (s : State) (r : Reg) (n : Nat) : (s.bump r n).envs = s.envs := (rfl)
@[simp] theorem State.bump_keys (s : State) (r : Reg) (n : Nat) : (s.bump r n).keys = s.keys := (rfl)
@[simp] theorem State.bump_keyStage (s : State) (r : Reg) (n : Nat) : (s.bump r n).keyStage = s.keyStage := (rfl)
@[simp] theorem State.bump_crings (s : State) (r : Reg) (n : Nat) : (s.bump r n).crings = s.crings := (rfl)
@[simp] theorem State.bump_quesOn (s : State) (r : Reg) (n : Nat) : (s.bump r n).quesOn = s.quesOn := (rfl)
@[simp] theorem State.bump_cmds (s : State) (r : Reg) (n : Nat) : (s.bump r n).cmds = s.cmds := (rfl)
@[simp] theorem State.bump_fenced (s : State) (r : Reg) (n : Nat) : (s.bump r n).fenced = s.fenced := (rfl)
@[simp] theorem State.bump_lateAt (s : State) (r : Reg) (n : Nat) : (s.bump r n).lateAt = s.lateAt := (rfl)
@[simp] theorem State.bump_slots (s : State) (r : Reg) (n : Nat) : (s.bump r n).slots = s.slots := (rfl)
@[simp] theorem State.bump_gridNext (s : State) (r : Reg) (n : Nat) : (s.bump r n).gridNext = s.gridNext := (rfl)
@[simp] theorem State.bump_captures (s : State) (r : Reg) (n : Nat) : (s.bump r n).captures = s.captures := (rfl)
@[simp] theorem State.bump_tdc (s : State) (r : Reg) (n : Nat) : (s.bump r n).tdc = s.tdc := (rfl)
@[simp] theorem State.bump_tdcSwitches (s : State) (r : Reg) (n : Nat) : (s.bump r n).tdcSwitches = s.tdcSwitches := (rfl)
@[simp] theorem State.bump_edges (s : State) (r : Reg) (n : Nat) : (s.bump r n).edges = s.edges := (rfl)
@[simp] theorem State.bump_tagQ (s : State) (r : Reg) (n : Nat) : (s.bump r n).tagQ = s.tagQ := (rfl)
@[simp] theorem State.bump_freqs (s : State) (r : Reg) (n : Nat) : (s.bump r n).freqs = s.freqs := (rfl)
@[simp] theorem State.bump_cgLost (s : State) (r : Reg) (n : Nat) : (s.bump r n).cgLost = s.cgLost := (rfl)
@[simp] theorem State.bump_monQ (s : State) (r : Reg) (n : Nat) : (s.bump r n).monQ = s.monQ := (rfl)
@[simp] theorem State.bump_monSeq (s : State) (r : Reg) (n : Nat) : (s.bump r n).monSeq = s.monSeq := (rfl)
@[simp] theorem State.bump_monLost (s : State) (r : Reg) (n : Nat) : (s.bump r n).monLost = s.monLost := (rfl)
@[simp] theorem State.bump_popWait (s : State) (r : Reg) (n : Nat) : (s.bump r n).popWait = s.popWait := (rfl)
@[simp] theorem State.bump_spareBook (s : State) (r : Reg) (n : Nat) : (s.bump r n).spareBook = s.spareBook := (rfl)
@[simp] theorem State.bump_trimImg (s : State) (r : Reg) (n : Nat) : (s.bump r n).trimImg = s.trimImg := (rfl)
@[simp] theorem State.bump_grps (s : State) (r : Reg) (n : Nat) : (s.bump r n).grps = s.grps := (rfl)
@[simp] theorem State.bump_inps (s : State) (r : Reg) (n : Nat) : (s.bump r n).inps = s.inps := (rfl)
@[simp] theorem State.bump_beams (s : State) (r : Reg) (n : Nat) : (s.bump r n).beams = s.beams := (rfl)
@[simp] theorem State.bump_partials (s : State) (r : Reg) (n : Nat) : (s.bump r n).partials = s.partials := (rfl)
@[simp] theorem State.bump_nodes (s : State) (r : Reg) (n : Nat) : (s.bump r n).nodes = s.nodes := (rfl)
@[simp] theorem State.bump_blanks (s : State) (r : Reg) (n : Nat) : (s.bump r n).blanks = s.blanks := (rfl)
@[simp] theorem State.bump_injects (s : State) (r : Reg) (n : Nat) : (s.bump r n).injects = s.injects := (rfl)
@[simp] theorem State.bump_items (s : State) (r : Reg) (n : Nat) : (s.bump r n).items = s.items := (rfl)
@[simp] theorem State.bump_units (s : State) (r : Reg) (n : Nat) : (s.bump r n).units = s.units := (rfl)
@[simp] theorem State.bump_failingSlots (s : State) (r : Reg) (n : Nat) : (s.bump r n).failingSlots = s.failingSlots := (rfl)
@[simp] theorem State.bump_retiredSlots (s : State) (r : Reg) (n : Nat) : (s.bump r n).retiredSlots = s.retiredSlots := (rfl)
@[simp] theorem State.bump_trigs (s : State) (r : Reg) (n : Nat) : (s.bump r n).trigs = s.trigs := (rfl)
@[simp] theorem State.bump_spxTx (s : State) (r : Reg) (n : Nat) : (s.bump r n).spxTx = s.spxTx := (rfl)
@[simp] theorem State.bump_bmacSwaps (s : State) (r : Reg) (n : Nat) : (s.bump r n).bmacSwaps = s.bmacSwaps := (rfl)
@[simp] theorem State.bump_fe (s : State) (r : Reg) (n : Nat) : (s.bump r n).fe = s.fe := (rfl)
@[simp] theorem State.bump_pcvs (s : State) (r : Reg) (n : Nat) : (s.bump r n).pcvs = s.pcvs := (rfl)
@[simp] theorem State.bump_sfeChs (s : State) (r : Reg) (n : Nat) : (s.bump r n).sfeChs = s.sfeChs := (rfl)
@[simp] theorem State.bump_excs (s : State) (r : Reg) (n : Nat) : (s.bump r n).excs = s.excs := (rfl)
@[simp] theorem State.bump_trimCopies (s : State) (r : Reg) (n : Nat) : (s.bump r n).trimCopies = s.trimCopies := (rfl)
@[simp] theorem State.bump_linCopies (s : State) (r : Reg) (n : Nat) : (s.bump r n).linCopies = s.linCopies := (rfl)
@[simp] theorem State.bump_nvm (s : State) (r : Reg) (n : Nat) : (s.bump r n).nvm = s.nvm := (rfl)
@[simp] theorem State.bump_calMeas (s : State) (r : Reg) (n : Nat) : (s.bump r n).calMeas = s.calMeas := (rfl)
@[simp] theorem State.bump_trimLoaded (s : State) (r : Reg) (n : Nat) : (s.bump r n).trimLoaded = s.trimLoaded := (rfl)
@[simp] theorem State.bump_mramBad (s : State) (r : Reg) (n : Nat) : (s.bump r n).mramBad = s.mramBad := (rfl)
@[simp] theorem State.bump_ptmAt (s : State) (r : Reg) (n : Nat) : (s.bump r n).ptmAt = s.ptmAt := (rfl)
@[simp] theorem State.bump_monAt (s : State) (r : Reg) (n : Nat) : (s.bump r n).monAt = s.monAt := (rfl)
@[simp] theorem State.bump_bmacShed (s : State) (r : Reg) (n : Nat) : (s.bump r n).bmacShed = s.bmacShed := (rfl)
@[simp] theorem State.bump_mramMap (s : State) (r : Reg) (n : Nat) : (s.bump r n).mramMap = s.mramMap := (rfl)
@[simp] theorem State.bump_part (s : State) (r : Reg) (n : Nat) : (s.bump r n).part = s.part := (rfl)
@[simp] theorem State.bump_timCal (s : State) (r : Reg) (n : Nat) : (s.bump r n).timCal = s.timCal := (rfl)
@[simp] theorem State.bump_plots (s : State) (r : Reg) (n : Nat) : (s.bump r n).plots = s.plots := (rfl)
@[simp] theorem State.bump_ques (s : State) (r : Reg) (n : Nat) : (s.bump r n).ques = s.ques := (rfl)
@[simp] theorem State.bump_plotBook (s : State) (r : Reg) (n : Nat) : (s.bump r n).plotBook = s.plotBook := (rfl)
@[simp] theorem State.bump_copies (s : State) (r : Reg) (n : Nat) : (s.bump r n).copies = s.copies := (rfl)
@[simp] theorem State.bump_raws (s : State) (r : Reg) (n : Nat) : (s.bump r n).raws = s.raws := (rfl)
@[simp] theorem State.bump_ring (s : State) (r : Reg) (n : Nat) : (s.bump r n).ring = s.ring := (rfl)
@[simp] theorem State.bump_jobs (s : State) (r : Reg) (n : Nat) : (s.bump r n).jobs = s.jobs := (rfl)
@[simp] theorem State.bump_dxNext (s : State) (r : Reg) (n : Nat) : (s.bump r n).dxNext = s.dxNext := (rfl)
@[simp] theorem State.bump_trgOuts (s : State) (r : Reg) (n : Nat) : (s.bump r n).trgOuts = s.trgOuts := (rfl)
@[simp] theorem State.bump_pulses (s : State) (r : Reg) (n : Nat) : (s.bump r n).pulses = s.pulses := (rfl)
@[simp] theorem State.bump_ilines (s : State) (r : Reg) (n : Nat) : (s.bump r n).ilines = s.ilines := (rfl)
@[simp] theorem State.bump_netSenders (s : State) (r : Reg) (n : Nat) : (s.bump r n).netSenders = s.netSenders := (rfl)
@[simp] theorem State.bump_trgSeq (s : State) (r : Reg) (n : Nat) : (s.bump r n).trgSeq = s.trgSeq := (rfl)
@[simp] theorem State.bump_capSeq (s : State) (r : Reg) (n : Nat) : (s.bump r n).capSeq = s.capSeq := (rfl)
@[simp] theorem State.bump_sigs (s : State) (r : Reg) (n : Nat) : (s.bump r n).sigs = s.sigs := (rfl)
@[simp] theorem State.bump_mgb (s : State) (r : Reg) (n : Nat) : (s.bump r n).mgb = s.mgb := (rfl)
@[simp] theorem State.bump_tap (s : State) (r : Reg) (n : Nat) : (s.bump r n).tap = s.tap := (rfl)
@[simp] theorem State.bump_porLow (s : State) (r : Reg) (n : Nat) : (s.bump r n).porLow = s.porLow := (rfl)
@[simp] theorem State.bump_arbs (s : State) (r : Reg) (n : Nat) : (s.bump r n).arbs = s.arbs := (rfl)
@[simp] theorem State.bump_sheets (s : State) (r : Reg) (n : Nat) : (s.bump r n).sheets = s.sheets := (rfl)
@[simp] theorem State.bump_ports (s : State) (r : Reg) (n : Nat) : (s.bump r n).ports = s.ports := (rfl)
@[simp] theorem State.bump_rxs (s : State) (r : Reg) (n : Nat) : (s.bump r n).rxs = s.rxs := (rfl)
@[simp] theorem State.bump_hrings (s : State) (r : Reg) (n : Nat) : (s.bump r n).hrings = s.hrings := (rfl)
@[simp] theorem State.bump_links (s : State) (r : Reg) (n : Nat) : (s.bump r n).links = s.links := (rfl)
@[simp] theorem State.bump_scheds (s : State) (r : Reg) (n : Nat) : (s.bump r n).scheds = s.scheds := (rfl)
@[simp] theorem State.bump_delivers (s : State) (r : Reg) (n : Nat) : (s.bump r n).delivers = s.delivers := (rfl)
@[simp] theorem State.bump_rates (s : State) (r : Reg) (n : Nat) : (s.bump r n).rates = s.rates := (rfl)
@[simp] theorem State.bump_gaz (s : State) (r : Reg) (n : Nat) : (s.bump r n).gaz = s.gaz := (rfl)
@[simp] theorem State.bump_gazSends (s : State) (r : Reg) (n : Nat) : (s.bump r n).gazSends = s.gazSends := (rfl)
@[simp] theorem State.bump_digests (s : State) (r : Reg) (n : Nat) : (s.bump r n).digests = s.digests := (rfl)
@[simp] theorem State.bump_gazBook (s : State) (r : Reg) (n : Nat) : (s.bump r n).gazBook = s.gazBook := (rfl)
@[simp] theorem State.bump_engSwaps (s : State) (r : Reg) (n : Nat) : (s.bump r n).engSwaps = s.engSwaps := (rfl)
@[simp] theorem State.bump_engErrs (s : State) (r : Reg) (n : Nat) : (s.bump r n).engErrs = s.engErrs := (rfl)
@[simp] theorem State.bump_coreDog (s : State) (r : Reg) (n : Nat) : (s.bump r n).coreDog = s.coreDog := (rfl)
@[simp] theorem State.bump_start (s : State) (r : Reg) (n : Nat) : (s.bump r n).start = s.start := (rfl)
@[simp] theorem State.bump_images (s : State) (r : Reg) (n : Nat) : (s.bump r n).images = s.images := (rfl)
@[simp] theorem State.bump_out (s : State) (r : Reg) (n : Nat) : (s.bump r n).out = s.out := (rfl)
@[simp] theorem State.bump_drawn (s : State) (r : Reg) (n : Nat) : (s.bump r n).drawn = s.drawn := (rfl)
@[simp] theorem State.bump_pending (s : State) (r : Reg) (n : Nat) : (s.bump r n).pending = s.pending := (rfl)
/-! ## fwr -/
@[simp] theorem State.fwr_regs (s : State) (r : Reg) (w : Word) : (s.fwr r w).regs = s.regs := (rfl)
@[simp] theorem State.fwr_aper (s : State) (r : Reg) (w : Word) : (s.fwr r w).aper = s.aper := (rfl)
@[simp] theorem State.fwr_tb (s : State) (r : Reg) (w : Word) : (s.fwr r w).tb = s.tb := (rfl)
@[simp] theorem State.fwr_txts (s : State) (r : Reg) (w : Word) : (s.fwr r w).txts = s.txts := (rfl)
@[simp] theorem State.fwr_router (s : State) (r : Reg) (w : Word) : (s.fwr r w).router = s.router := (rfl)
@[simp] theorem State.fwr_windows (s : State) (r : Reg) (w : Word) : (s.fwr r w).windows = s.windows := (rfl)
@[simp] theorem State.fwr_stageQ (s : State) (r : Reg) (w : Word) : (s.fwr r w).stageQ = s.stageQ := (rfl)
@[simp] theorem State.fwr_log (s : State) (r : Reg) (w : Word) : (s.fwr r w).log = s.log := (rfl)
@[simp] theorem State.fwr_funcs (s : State) (r : Reg) (w : Word) : (s.fwr r w).funcs = s.funcs := (rfl)
@[simp] theorem State.fwr_linkUp (s : State) (r : Reg) (w : Word) : (s.fwr r w).linkUp = s.linkUp := (rfl)
@[simp] theorem State.fwr_vecs (s : State) (r : Reg) (w : Word) : (s.fwr r w).vecs = s.vecs := (rfl)
@[simp] theorem State.fwr_ptm (s : State) (r : Reg) (w : Word) : (s.fwr r w).ptm = s.ptm := (rfl)
@[simp] theorem State.fwr_staged (s : State) (r : Reg) (w : Word) : (s.fwr r w).staged = s.staged := (rfl)
@[simp] theorem State.fwr_tags (s : State) (r : Reg) (w : Word) : (s.fwr r w).tags = s.tags := (rfl)
@[simp] theorem State.fwr_envs (s : State) (r : Reg) (w : Word) : (s.fwr r w).envs = s.envs := (rfl)
@[simp] theorem State.fwr_keys (s : State) (r : Reg) (w : Word) : (s.fwr r w).keys = s.keys := (rfl)
@[simp] theorem State.fwr_keyStage (s : State) (r : Reg) (w : Word) : (s.fwr r w).keyStage = s.keyStage := (rfl)
@[simp] theorem State.fwr_crings (s : State) (r : Reg) (w : Word) : (s.fwr r w).crings = s.crings := (rfl)
@[simp] theorem State.fwr_quesOn (s : State) (r : Reg) (w : Word) : (s.fwr r w).quesOn = s.quesOn := (rfl)
@[simp] theorem State.fwr_cmds (s : State) (r : Reg) (w : Word) : (s.fwr r w).cmds = s.cmds := (rfl)
@[simp] theorem State.fwr_fenced (s : State) (r : Reg) (w : Word) : (s.fwr r w).fenced = s.fenced := (rfl)
@[simp] theorem State.fwr_lateAt (s : State) (r : Reg) (w : Word) : (s.fwr r w).lateAt = s.lateAt := (rfl)
@[simp] theorem State.fwr_slots (s : State) (r : Reg) (w : Word) : (s.fwr r w).slots = s.slots := (rfl)
@[simp] theorem State.fwr_gridNext (s : State) (r : Reg) (w : Word) : (s.fwr r w).gridNext = s.gridNext := (rfl)
@[simp] theorem State.fwr_captures (s : State) (r : Reg) (w : Word) : (s.fwr r w).captures = s.captures := (rfl)
@[simp] theorem State.fwr_tdc (s : State) (r : Reg) (w : Word) : (s.fwr r w).tdc = s.tdc := (rfl)
@[simp] theorem State.fwr_tdcSwitches (s : State) (r : Reg) (w : Word) : (s.fwr r w).tdcSwitches = s.tdcSwitches := (rfl)
@[simp] theorem State.fwr_edges (s : State) (r : Reg) (w : Word) : (s.fwr r w).edges = s.edges := (rfl)
@[simp] theorem State.fwr_tagQ (s : State) (r : Reg) (w : Word) : (s.fwr r w).tagQ = s.tagQ := (rfl)
@[simp] theorem State.fwr_freqs (s : State) (r : Reg) (w : Word) : (s.fwr r w).freqs = s.freqs := (rfl)
@[simp] theorem State.fwr_cgLost (s : State) (r : Reg) (w : Word) : (s.fwr r w).cgLost = s.cgLost := (rfl)
@[simp] theorem State.fwr_monQ (s : State) (r : Reg) (w : Word) : (s.fwr r w).monQ = s.monQ := (rfl)
@[simp] theorem State.fwr_monSeq (s : State) (r : Reg) (w : Word) : (s.fwr r w).monSeq = s.monSeq := (rfl)
@[simp] theorem State.fwr_monLost (s : State) (r : Reg) (w : Word) : (s.fwr r w).monLost = s.monLost := (rfl)
@[simp] theorem State.fwr_popWait (s : State) (r : Reg) (w : Word) : (s.fwr r w).popWait = s.popWait := (rfl)
@[simp] theorem State.fwr_spareBook (s : State) (r : Reg) (w : Word) : (s.fwr r w).spareBook = s.spareBook := (rfl)
@[simp] theorem State.fwr_trimImg (s : State) (r : Reg) (w : Word) : (s.fwr r w).trimImg = s.trimImg := (rfl)
@[simp] theorem State.fwr_grps (s : State) (r : Reg) (w : Word) : (s.fwr r w).grps = s.grps := (rfl)
@[simp] theorem State.fwr_inps (s : State) (r : Reg) (w : Word) : (s.fwr r w).inps = s.inps := (rfl)
@[simp] theorem State.fwr_beams (s : State) (r : Reg) (w : Word) : (s.fwr r w).beams = s.beams := (rfl)
@[simp] theorem State.fwr_partials (s : State) (r : Reg) (w : Word) : (s.fwr r w).partials = s.partials := (rfl)
@[simp] theorem State.fwr_nodes (s : State) (r : Reg) (w : Word) : (s.fwr r w).nodes = s.nodes := (rfl)
@[simp] theorem State.fwr_blanks (s : State) (r : Reg) (w : Word) : (s.fwr r w).blanks = s.blanks := (rfl)
@[simp] theorem State.fwr_injects (s : State) (r : Reg) (w : Word) : (s.fwr r w).injects = s.injects := (rfl)
@[simp] theorem State.fwr_items (s : State) (r : Reg) (w : Word) : (s.fwr r w).items = s.items := (rfl)
@[simp] theorem State.fwr_units (s : State) (r : Reg) (w : Word) : (s.fwr r w).units = s.units := (rfl)
@[simp] theorem State.fwr_failingSlots (s : State) (r : Reg) (w : Word) : (s.fwr r w).failingSlots = s.failingSlots := (rfl)
@[simp] theorem State.fwr_retiredSlots (s : State) (r : Reg) (w : Word) : (s.fwr r w).retiredSlots = s.retiredSlots := (rfl)
@[simp] theorem State.fwr_trigs (s : State) (r : Reg) (w : Word) : (s.fwr r w).trigs = s.trigs := (rfl)
@[simp] theorem State.fwr_spxTx (s : State) (r : Reg) (w : Word) : (s.fwr r w).spxTx = s.spxTx := (rfl)
@[simp] theorem State.fwr_bmacSwaps (s : State) (r : Reg) (w : Word) : (s.fwr r w).bmacSwaps = s.bmacSwaps := (rfl)
@[simp] theorem State.fwr_fe (s : State) (r : Reg) (w : Word) : (s.fwr r w).fe = s.fe := (rfl)
@[simp] theorem State.fwr_pcvs (s : State) (r : Reg) (w : Word) : (s.fwr r w).pcvs = s.pcvs := (rfl)
@[simp] theorem State.fwr_sfeChs (s : State) (r : Reg) (w : Word) : (s.fwr r w).sfeChs = s.sfeChs := (rfl)
@[simp] theorem State.fwr_excs (s : State) (r : Reg) (w : Word) : (s.fwr r w).excs = s.excs := (rfl)
@[simp] theorem State.fwr_trimCopies (s : State) (r : Reg) (w : Word) : (s.fwr r w).trimCopies = s.trimCopies := (rfl)
@[simp] theorem State.fwr_linCopies (s : State) (r : Reg) (w : Word) : (s.fwr r w).linCopies = s.linCopies := (rfl)
@[simp] theorem State.fwr_nvm (s : State) (r : Reg) (w : Word) : (s.fwr r w).nvm = s.nvm := (rfl)
@[simp] theorem State.fwr_calMeas (s : State) (r : Reg) (w : Word) : (s.fwr r w).calMeas = s.calMeas := (rfl)
@[simp] theorem State.fwr_trimLoaded (s : State) (r : Reg) (w : Word) : (s.fwr r w).trimLoaded = s.trimLoaded := (rfl)
@[simp] theorem State.fwr_mramBad (s : State) (r : Reg) (w : Word) : (s.fwr r w).mramBad = s.mramBad := (rfl)
@[simp] theorem State.fwr_ptmAt (s : State) (r : Reg) (w : Word) : (s.fwr r w).ptmAt = s.ptmAt := (rfl)
@[simp] theorem State.fwr_monAt (s : State) (r : Reg) (w : Word) : (s.fwr r w).monAt = s.monAt := (rfl)
@[simp] theorem State.fwr_bmacShed (s : State) (r : Reg) (w : Word) : (s.fwr r w).bmacShed = s.bmacShed := (rfl)
@[simp] theorem State.fwr_mramMap (s : State) (r : Reg) (w : Word) : (s.fwr r w).mramMap = s.mramMap := (rfl)
@[simp] theorem State.fwr_part (s : State) (r : Reg) (w : Word) : (s.fwr r w).part = s.part := (rfl)
@[simp] theorem State.fwr_timCal (s : State) (r : Reg) (w : Word) : (s.fwr r w).timCal = s.timCal := (rfl)
@[simp] theorem State.fwr_plots (s : State) (r : Reg) (w : Word) : (s.fwr r w).plots = s.plots := (rfl)
@[simp] theorem State.fwr_ques (s : State) (r : Reg) (w : Word) : (s.fwr r w).ques = s.ques := (rfl)
@[simp] theorem State.fwr_plotBook (s : State) (r : Reg) (w : Word) : (s.fwr r w).plotBook = s.plotBook := (rfl)
@[simp] theorem State.fwr_copies (s : State) (r : Reg) (w : Word) : (s.fwr r w).copies = s.copies := (rfl)
@[simp] theorem State.fwr_raws (s : State) (r : Reg) (w : Word) : (s.fwr r w).raws = s.raws := (rfl)
@[simp] theorem State.fwr_ring (s : State) (r : Reg) (w : Word) : (s.fwr r w).ring = s.ring := (rfl)
@[simp] theorem State.fwr_jobs (s : State) (r : Reg) (w : Word) : (s.fwr r w).jobs = s.jobs := (rfl)
@[simp] theorem State.fwr_dxNext (s : State) (r : Reg) (w : Word) : (s.fwr r w).dxNext = s.dxNext := (rfl)
@[simp] theorem State.fwr_trgOuts (s : State) (r : Reg) (w : Word) : (s.fwr r w).trgOuts = s.trgOuts := (rfl)
@[simp] theorem State.fwr_pulses (s : State) (r : Reg) (w : Word) : (s.fwr r w).pulses = s.pulses := (rfl)
@[simp] theorem State.fwr_ilines (s : State) (r : Reg) (w : Word) : (s.fwr r w).ilines = s.ilines := (rfl)
@[simp] theorem State.fwr_netSenders (s : State) (r : Reg) (w : Word) : (s.fwr r w).netSenders = s.netSenders := (rfl)
@[simp] theorem State.fwr_trgSeq (s : State) (r : Reg) (w : Word) : (s.fwr r w).trgSeq = s.trgSeq := (rfl)
@[simp] theorem State.fwr_capSeq (s : State) (r : Reg) (w : Word) : (s.fwr r w).capSeq = s.capSeq := (rfl)
@[simp] theorem State.fwr_sigs (s : State) (r : Reg) (w : Word) : (s.fwr r w).sigs = s.sigs := (rfl)
@[simp] theorem State.fwr_mgb (s : State) (r : Reg) (w : Word) : (s.fwr r w).mgb = s.mgb := (rfl)
@[simp] theorem State.fwr_tap (s : State) (r : Reg) (w : Word) : (s.fwr r w).tap = s.tap := (rfl)
@[simp] theorem State.fwr_porLow (s : State) (r : Reg) (w : Word) : (s.fwr r w).porLow = s.porLow := (rfl)
@[simp] theorem State.fwr_arbs (s : State) (r : Reg) (w : Word) : (s.fwr r w).arbs = s.arbs := (rfl)
@[simp] theorem State.fwr_sheets (s : State) (r : Reg) (w : Word) : (s.fwr r w).sheets = s.sheets := (rfl)
@[simp] theorem State.fwr_ports (s : State) (r : Reg) (w : Word) : (s.fwr r w).ports = s.ports := (rfl)
@[simp] theorem State.fwr_rxs (s : State) (r : Reg) (w : Word) : (s.fwr r w).rxs = s.rxs := (rfl)
@[simp] theorem State.fwr_hrings (s : State) (r : Reg) (w : Word) : (s.fwr r w).hrings = s.hrings := (rfl)
@[simp] theorem State.fwr_links (s : State) (r : Reg) (w : Word) : (s.fwr r w).links = s.links := (rfl)
@[simp] theorem State.fwr_scheds (s : State) (r : Reg) (w : Word) : (s.fwr r w).scheds = s.scheds := (rfl)
@[simp] theorem State.fwr_delivers (s : State) (r : Reg) (w : Word) : (s.fwr r w).delivers = s.delivers := (rfl)
@[simp] theorem State.fwr_rates (s : State) (r : Reg) (w : Word) : (s.fwr r w).rates = s.rates := (rfl)
@[simp] theorem State.fwr_gaz (s : State) (r : Reg) (w : Word) : (s.fwr r w).gaz = s.gaz := (rfl)
@[simp] theorem State.fwr_gazSends (s : State) (r : Reg) (w : Word) : (s.fwr r w).gazSends = s.gazSends := (rfl)
@[simp] theorem State.fwr_digests (s : State) (r : Reg) (w : Word) : (s.fwr r w).digests = s.digests := (rfl)
@[simp] theorem State.fwr_gazBook (s : State) (r : Reg) (w : Word) : (s.fwr r w).gazBook = s.gazBook := (rfl)
@[simp] theorem State.fwr_engSwaps (s : State) (r : Reg) (w : Word) : (s.fwr r w).engSwaps = s.engSwaps := (rfl)
@[simp] theorem State.fwr_engErrs (s : State) (r : Reg) (w : Word) : (s.fwr r w).engErrs = s.engErrs := (rfl)
@[simp] theorem State.fwr_coreDog (s : State) (r : Reg) (w : Word) : (s.fwr r w).coreDog = s.coreDog := (rfl)
@[simp] theorem State.fwr_start (s : State) (r : Reg) (w : Word) : (s.fwr r w).start = s.start := (rfl)
@[simp] theorem State.fwr_images (s : State) (r : Reg) (w : Word) : (s.fwr r w).images = s.images := (rfl)
@[simp] theorem State.fwr_out (s : State) (r : Reg) (w : Word) : (s.fwr r w).out = s.out := (rfl)
@[simp] theorem State.fwr_drawn (s : State) (r : Reg) (w : Word) : (s.fwr r w).drawn = s.drawn := (rfl)
@[simp] theorem State.fwr_pending (s : State) (r : Reg) (w : Word) : (s.fwr r w).pending = s.pending := (rfl)
/-! ## emit -/
@[simp] theorem State.emit_regs (s : State) (o : Output) : (s.emit o).regs = s.regs := (rfl)
@[simp] theorem State.emit_force (s : State) (o : Output) : (s.emit o).force = s.force := (rfl)
@[simp] theorem State.emit_aper (s : State) (o : Output) : (s.emit o).aper = s.aper := (rfl)
@[simp] theorem State.emit_tb (s : State) (o : Output) : (s.emit o).tb = s.tb := (rfl)
@[simp] theorem State.emit_router (s : State) (o : Output) : (s.emit o).router = s.router := (rfl)
@[simp] theorem State.emit_windows (s : State) (o : Output) : (s.emit o).windows = s.windows := (rfl)
@[simp] theorem State.emit_log (s : State) (o : Output) : (s.emit o).log = s.log := (rfl)
@[simp] theorem State.emit_funcs (s : State) (o : Output) : (s.emit o).funcs = s.funcs := (rfl)
@[simp] theorem State.emit_vecs (s : State) (o : Output) : (s.emit o).vecs = s.vecs := (rfl)
@[simp] theorem State.emit_staged (s : State) (o : Output) : (s.emit o).staged = s.staged := (rfl)
@[simp] theorem State.emit_tags (s : State) (o : Output) : (s.emit o).tags = s.tags := (rfl)
@[simp] theorem State.emit_crings (s : State) (o : Output) : (s.emit o).crings = s.crings := (rfl)
@[simp] theorem State.emit_quesOn (s : State) (o : Output) : (s.emit o).quesOn = s.quesOn := (rfl)
@[simp] theorem State.emit_cmds (s : State) (o : Output) : (s.emit o).cmds = s.cmds := (rfl)
@[simp] theorem State.emit_slots (s : State) (o : Output) : (s.emit o).slots = s.slots := (rfl)
@[simp] theorem State.emit_captures (s : State) (o : Output) : (s.emit o).captures = s.captures := (rfl)
@[simp] theorem State.emit_grps (s : State) (o : Output) : (s.emit o).grps = s.grps := (rfl)
@[simp] theorem State.emit_inps (s : State) (o : Output) : (s.emit o).inps = s.inps := (rfl)
@[simp] theorem State.emit_beams (s : State) (o : Output) : (s.emit o).beams = s.beams := (rfl)
@[simp] theorem State.emit_plots (s : State) (o : Output) : (s.emit o).plots = s.plots := (rfl)
@[simp] theorem State.emit_ques (s : State) (o : Output) : (s.emit o).ques = s.ques := (rfl)
@[simp] theorem State.emit_links (s : State) (o : Output) : (s.emit o).links = s.links := (rfl)
@[simp] theorem State.emit_drawn (s : State) (o : Output) : (s.emit o).drawn = s.drawn := (rfl)
@[simp] theorem State.emit_pending (s : State) (o : Output) : (s.emit o).pending = s.pending := (rfl)
@[simp] theorem State.emit_rd (s : State) (o : Output) (reg : Reg) : (s.emit o).rd reg = s.rd reg := (rfl)
@[simp] theorem State.emit_get (s : State) (o : Output) (fld : Fld) : (s.emit o).get fld = s.get fld := (rfl)
/-! ## setTab -/
@[simp] theorem State.setTab_regs (s : State) (k : Nat) (w : Word) : (s.setTab k w).regs = s.regs := (rfl)
@[simp] theorem State.setTab_force (s : State) (k : Nat) (w : Word) : (s.setTab k w).force = s.force := (rfl)
@[simp] theorem State.setTab_tb (s : State) (k : Nat) (w : Word) : (s.setTab k w).tb = s.tb := (rfl)
@[simp] theorem State.setTab_router (s : State) (k : Nat) (w : Word) : (s.setTab k w).router = s.router := (rfl)
@[simp] theorem State.setTab_windows (s : State) (k : Nat) (w : Word) : (s.setTab k w).windows = s.windows := (rfl)
@[simp] theorem State.setTab_log (s : State) (k : Nat) (w : Word) : (s.setTab k w).log = s.log := (rfl)
@[simp] theorem State.setTab_funcs (s : State) (k : Nat) (w : Word) : (s.setTab k w).funcs = s.funcs := (rfl)
@[simp] theorem State.setTab_vecs (s : State) (k : Nat) (w : Word) : (s.setTab k w).vecs = s.vecs := (rfl)
@[simp] theorem State.setTab_staged (s : State) (k : Nat) (w : Word) : (s.setTab k w).staged = s.staged := (rfl)
@[simp] theorem State.setTab_tags (s : State) (k : Nat) (w : Word) : (s.setTab k w).tags = s.tags := (rfl)
@[simp] theorem State.setTab_crings (s : State) (k : Nat) (w : Word) : (s.setTab k w).crings = s.crings := (rfl)
@[simp] theorem State.setTab_quesOn (s : State) (k : Nat) (w : Word) : (s.setTab k w).quesOn = s.quesOn := (rfl)
@[simp] theorem State.setTab_cmds (s : State) (k : Nat) (w : Word) : (s.setTab k w).cmds = s.cmds := (rfl)
@[simp] theorem State.setTab_slots (s : State) (k : Nat) (w : Word) : (s.setTab k w).slots = s.slots := (rfl)
@[simp] theorem State.setTab_captures (s : State) (k : Nat) (w : Word) : (s.setTab k w).captures = s.captures := (rfl)
@[simp] theorem State.setTab_grps (s : State) (k : Nat) (w : Word) : (s.setTab k w).grps = s.grps := (rfl)
@[simp] theorem State.setTab_inps (s : State) (k : Nat) (w : Word) : (s.setTab k w).inps = s.inps := (rfl)
@[simp] theorem State.setTab_beams (s : State) (k : Nat) (w : Word) : (s.setTab k w).beams = s.beams := (rfl)
@[simp] theorem State.setTab_plots (s : State) (k : Nat) (w : Word) : (s.setTab k w).plots = s.plots := (rfl)
@[simp] theorem State.setTab_ques (s : State) (k : Nat) (w : Word) : (s.setTab k w).ques = s.ques := (rfl)
@[simp] theorem State.setTab_links (s : State) (k : Nat) (w : Word) : (s.setTab k w).links = s.links := (rfl)
@[simp] theorem State.setTab_out (s : State) (k : Nat) (w : Word) : (s.setTab k w).out = s.out := (rfl)
@[simp] theorem State.setTab_drawn (s : State) (k : Nat) (w : Word) : (s.setTab k w).drawn = s.drawn := (rfl)
@[simp] theorem State.setTab_pending (s : State) (k : Nat) (w : Word) : (s.setTab k w).pending = s.pending := (rfl)
@[simp] theorem State.setTab_rd (s : State) (k : Nat) (w : Word) (reg : Reg) : (s.setTab k w).rd reg = s.rd reg := (rfl)
@[simp] theorem State.setTab_get (s : State) (k : Nat) (w : Word) (fld : Fld) : (s.setTab k w).get fld = s.get fld := (rfl)
/-! ## setFunc -/
@[simp] theorem State.setFunc_regs (s : State) (n : Nat) (x : Func) : (s.setFunc n x).regs = s.regs := (rfl)
@[simp] theorem State.setFunc_force (s : State) (n : Nat) (x : Func) : (s.setFunc n x).force = s.force := (rfl)
@[simp] theorem State.setFunc_aper (s : State) (n : Nat) (x : Func) : (s.setFunc n x).aper = s.aper := (rfl)
@[simp] theorem State.setFunc_tb (s : State) (n : Nat) (x : Func) : (s.setFunc n x).tb = s.tb := (rfl)
@[simp] theorem State.setFunc_router (s : State) (n : Nat) (x : Func) : (s.setFunc n x).router = s.router := (rfl)
@[simp] theorem State.setFunc_windows (s : State) (n : Nat) (x : Func) : (s.setFunc n x).windows = s.windows := (rfl)
@[simp] theorem State.setFunc_log (s : State) (n : Nat) (x : Func) : (s.setFunc n x).log = s.log := (rfl)
@[simp] theorem State.setFunc_vecs (s : State) (n : Nat) (x : Func) : (s.setFunc n x).vecs = s.vecs := (rfl)
@[simp] theorem State.setFunc_staged (s : State) (n : Nat) (x : Func) : (s.setFunc n x).staged = s.staged := (rfl)
@[simp] theorem State.setFunc_tags (s : State) (n : Nat) (x : Func) : (s.setFunc n x).tags = s.tags := (rfl)
@[simp] theorem State.setFunc_crings (s : State) (n : Nat) (x : Func) : (s.setFunc n x).crings = s.crings := (rfl)
@[simp] theorem State.setFunc_quesOn (s : State) (n : Nat) (x : Func) : (s.setFunc n x).quesOn = s.quesOn := (rfl)
@[simp] theorem State.setFunc_cmds (s : State) (n : Nat) (x : Func) : (s.setFunc n x).cmds = s.cmds := (rfl)
@[simp] theorem State.setFunc_slots (s : State) (n : Nat) (x : Func) : (s.setFunc n x).slots = s.slots := (rfl)
@[simp] theorem State.setFunc_captures (s : State) (n : Nat) (x : Func) : (s.setFunc n x).captures = s.captures := (rfl)
@[simp] theorem State.setFunc_grps (s : State) (n : Nat) (x : Func) : (s.setFunc n x).grps = s.grps := (rfl)
@[simp] theorem State.setFunc_inps (s : State) (n : Nat) (x : Func) : (s.setFunc n x).inps = s.inps := (rfl)
@[simp] theorem State.setFunc_beams (s : State) (n : Nat) (x : Func) : (s.setFunc n x).beams = s.beams := (rfl)
@[simp] theorem State.setFunc_plots (s : State) (n : Nat) (x : Func) : (s.setFunc n x).plots = s.plots := (rfl)
@[simp] theorem State.setFunc_ques (s : State) (n : Nat) (x : Func) : (s.setFunc n x).ques = s.ques := (rfl)
@[simp] theorem State.setFunc_links (s : State) (n : Nat) (x : Func) : (s.setFunc n x).links = s.links := (rfl)
@[simp] theorem State.setFunc_out (s : State) (n : Nat) (x : Func) : (s.setFunc n x).out = s.out := (rfl)
@[simp] theorem State.setFunc_drawn (s : State) (n : Nat) (x : Func) : (s.setFunc n x).drawn = s.drawn := (rfl)
@[simp] theorem State.setFunc_pending (s : State) (n : Nat) (x : Func) : (s.setFunc n x).pending = s.pending := (rfl)
@[simp] theorem State.setFunc_rd (s : State) (n : Nat) (x : Func) (reg : Reg) : (s.setFunc n x).rd reg = s.rd reg := (rfl)
@[simp] theorem State.setFunc_get (s : State) (n : Nat) (x : Func) (fld : Fld) : (s.setFunc n x).get fld = s.get fld := (rfl)
/-! ## setVec -/
@[simp] theorem State.setVec_regs (s : State) (n v : Nat) (x : Vec) : (s.setVec n v x).regs = s.regs := (rfl)
@[simp] theorem State.setVec_force (s : State) (n v : Nat) (x : Vec) : (s.setVec n v x).force = s.force := (rfl)
@[simp] theorem State.setVec_aper (s : State) (n v : Nat) (x : Vec) : (s.setVec n v x).aper = s.aper := (rfl)
@[simp] theorem State.setVec_tb (s : State) (n v : Nat) (x : Vec) : (s.setVec n v x).tb = s.tb := (rfl)
@[simp] theorem State.setVec_router (s : State) (n v : Nat) (x : Vec) : (s.setVec n v x).router = s.router := (rfl)
@[simp] theorem State.setVec_windows (s : State) (n v : Nat) (x : Vec) : (s.setVec n v x).windows = s.windows := (rfl)
@[simp] theorem State.setVec_log (s : State) (n v : Nat) (x : Vec) : (s.setVec n v x).log = s.log := (rfl)
@[simp] theorem State.setVec_funcs (s : State) (n v : Nat) (x : Vec) : (s.setVec n v x).funcs = s.funcs := (rfl)
@[simp] theorem State.setVec_staged (s : State) (n v : Nat) (x : Vec) : (s.setVec n v x).staged = s.staged := (rfl)
@[simp] theorem State.setVec_tags (s : State) (n v : Nat) (x : Vec) : (s.setVec n v x).tags = s.tags := (rfl)
@[simp] theorem State.setVec_crings (s : State) (n v : Nat) (x : Vec) : (s.setVec n v x).crings = s.crings := (rfl)
@[simp] theorem State.setVec_quesOn (s : State) (n v : Nat) (x : Vec) : (s.setVec n v x).quesOn = s.quesOn := (rfl)
@[simp] theorem State.setVec_cmds (s : State) (n v : Nat) (x : Vec) : (s.setVec n v x).cmds = s.cmds := (rfl)
@[simp] theorem State.setVec_slots (s : State) (n v : Nat) (x : Vec) : (s.setVec n v x).slots = s.slots := (rfl)
@[simp] theorem State.setVec_captures (s : State) (n v : Nat) (x : Vec) : (s.setVec n v x).captures = s.captures := (rfl)
@[simp] theorem State.setVec_grps (s : State) (n v : Nat) (x : Vec) : (s.setVec n v x).grps = s.grps := (rfl)
@[simp] theorem State.setVec_inps (s : State) (n v : Nat) (x : Vec) : (s.setVec n v x).inps = s.inps := (rfl)
@[simp] theorem State.setVec_beams (s : State) (n v : Nat) (x : Vec) : (s.setVec n v x).beams = s.beams := (rfl)
@[simp] theorem State.setVec_plots (s : State) (n v : Nat) (x : Vec) : (s.setVec n v x).plots = s.plots := (rfl)
@[simp] theorem State.setVec_ques (s : State) (n v : Nat) (x : Vec) : (s.setVec n v x).ques = s.ques := (rfl)
@[simp] theorem State.setVec_links (s : State) (n v : Nat) (x : Vec) : (s.setVec n v x).links = s.links := (rfl)
@[simp] theorem State.setVec_out (s : State) (n v : Nat) (x : Vec) : (s.setVec n v x).out = s.out := (rfl)
@[simp] theorem State.setVec_drawn (s : State) (n v : Nat) (x : Vec) : (s.setVec n v x).drawn = s.drawn := (rfl)
@[simp] theorem State.setVec_pending (s : State) (n v : Nat) (x : Vec) : (s.setVec n v x).pending = s.pending := (rfl)
@[simp] theorem State.setVec_rd (s : State) (n v : Nat) (x : Vec) (reg : Reg) : (s.setVec n v x).rd reg = s.rd reg := (rfl)
@[simp] theorem State.setVec_get (s : State) (n v : Nat) (x : Vec) (fld : Fld) : (s.setVec n v x).get fld = s.get fld := (rfl)
/-! ## setArb -/
@[simp] theorem State.setArb_regs (s : State) (k l : Nat) (x : ArbLane) : (s.setArb k l x).regs = s.regs := (rfl)
@[simp] theorem State.setArb_force (s : State) (k l : Nat) (x : ArbLane) : (s.setArb k l x).force = s.force := (rfl)
@[simp] theorem State.setArb_aper (s : State) (k l : Nat) (x : ArbLane) : (s.setArb k l x).aper = s.aper := (rfl)
@[simp] theorem State.setArb_tb (s : State) (k l : Nat) (x : ArbLane) : (s.setArb k l x).tb = s.tb := (rfl)
@[simp] theorem State.setArb_router (s : State) (k l : Nat) (x : ArbLane) : (s.setArb k l x).router = s.router := (rfl)
@[simp] theorem State.setArb_windows (s : State) (k l : Nat) (x : ArbLane) : (s.setArb k l x).windows = s.windows := (rfl)
@[simp] theorem State.setArb_log (s : State) (k l : Nat) (x : ArbLane) : (s.setArb k l x).log = s.log := (rfl)
@[simp] theorem State.setArb_funcs (s : State) (k l : Nat) (x : ArbLane) : (s.setArb k l x).funcs = s.funcs := (rfl)
@[simp] theorem State.setArb_vecs (s : State) (k l : Nat) (x : ArbLane) : (s.setArb k l x).vecs = s.vecs := (rfl)
@[simp] theorem State.setArb_staged (s : State) (k l : Nat) (x : ArbLane) : (s.setArb k l x).staged = s.staged := (rfl)
@[simp] theorem State.setArb_tags (s : State) (k l : Nat) (x : ArbLane) : (s.setArb k l x).tags = s.tags := (rfl)
@[simp] theorem State.setArb_crings (s : State) (k l : Nat) (x : ArbLane) : (s.setArb k l x).crings = s.crings := (rfl)
@[simp] theorem State.setArb_quesOn (s : State) (k l : Nat) (x : ArbLane) : (s.setArb k l x).quesOn = s.quesOn := (rfl)
@[simp] theorem State.setArb_cmds (s : State) (k l : Nat) (x : ArbLane) : (s.setArb k l x).cmds = s.cmds := (rfl)
@[simp] theorem State.setArb_slots (s : State) (k l : Nat) (x : ArbLane) : (s.setArb k l x).slots = s.slots := (rfl)
@[simp] theorem State.setArb_captures (s : State) (k l : Nat) (x : ArbLane) : (s.setArb k l x).captures = s.captures := (rfl)
@[simp] theorem State.setArb_grps (s : State) (k l : Nat) (x : ArbLane) : (s.setArb k l x).grps = s.grps := (rfl)
@[simp] theorem State.setArb_inps (s : State) (k l : Nat) (x : ArbLane) : (s.setArb k l x).inps = s.inps := (rfl)
@[simp] theorem State.setArb_beams (s : State) (k l : Nat) (x : ArbLane) : (s.setArb k l x).beams = s.beams := (rfl)
@[simp] theorem State.setArb_plots (s : State) (k l : Nat) (x : ArbLane) : (s.setArb k l x).plots = s.plots := (rfl)
@[simp] theorem State.setArb_ques (s : State) (k l : Nat) (x : ArbLane) : (s.setArb k l x).ques = s.ques := (rfl)
@[simp] theorem State.setArb_links (s : State) (k l : Nat) (x : ArbLane) : (s.setArb k l x).links = s.links := (rfl)
@[simp] theorem State.setArb_out (s : State) (k l : Nat) (x : ArbLane) : (s.setArb k l x).out = s.out := (rfl)
@[simp] theorem State.setArb_drawn (s : State) (k l : Nat) (x : ArbLane) : (s.setArb k l x).drawn = s.drawn := (rfl)
@[simp] theorem State.setArb_pending (s : State) (k l : Nat) (x : ArbLane) : (s.setArb k l x).pending = s.pending := (rfl)
@[simp] theorem State.setArb_rd (s : State) (k l : Nat) (x : ArbLane) (reg : Reg) : (s.setArb k l x).rd reg = s.rd reg := (rfl)
@[simp] theorem State.setArb_get (s : State) (k l : Nat) (x : ArbLane) (fld : Fld) : (s.setArb k l x).get fld = s.get fld := (rfl)
/-! ## setBeam -/
@[simp] theorem State.setBeam_regs (s : State) (b : Nat) (x : Beam) : (s.setBeam b x).regs = s.regs := (rfl)
@[simp] theorem State.setBeam_force (s : State) (b : Nat) (x : Beam) : (s.setBeam b x).force = s.force := (rfl)
@[simp] theorem State.setBeam_aper (s : State) (b : Nat) (x : Beam) : (s.setBeam b x).aper = s.aper := (rfl)
@[simp] theorem State.setBeam_tb (s : State) (b : Nat) (x : Beam) : (s.setBeam b x).tb = s.tb := (rfl)
@[simp] theorem State.setBeam_router (s : State) (b : Nat) (x : Beam) : (s.setBeam b x).router = s.router := (rfl)
@[simp] theorem State.setBeam_windows (s : State) (b : Nat) (x : Beam) : (s.setBeam b x).windows = s.windows := (rfl)
@[simp] theorem State.setBeam_log (s : State) (b : Nat) (x : Beam) : (s.setBeam b x).log = s.log := (rfl)
@[simp] theorem State.setBeam_funcs (s : State) (b : Nat) (x : Beam) : (s.setBeam b x).funcs = s.funcs := (rfl)
@[simp] theorem State.setBeam_vecs (s : State) (b : Nat) (x : Beam) : (s.setBeam b x).vecs = s.vecs := (rfl)
@[simp] theorem State.setBeam_staged (s : State) (b : Nat) (x : Beam) : (s.setBeam b x).staged = s.staged := (rfl)
@[simp] theorem State.setBeam_tags (s : State) (b : Nat) (x : Beam) : (s.setBeam b x).tags = s.tags := (rfl)
@[simp] theorem State.setBeam_crings (s : State) (b : Nat) (x : Beam) : (s.setBeam b x).crings = s.crings := (rfl)
@[simp] theorem State.setBeam_quesOn (s : State) (b : Nat) (x : Beam) : (s.setBeam b x).quesOn = s.quesOn := (rfl)
@[simp] theorem State.setBeam_cmds (s : State) (b : Nat) (x : Beam) : (s.setBeam b x).cmds = s.cmds := (rfl)
@[simp] theorem State.setBeam_slots (s : State) (b : Nat) (x : Beam) : (s.setBeam b x).slots = s.slots := (rfl)
@[simp] theorem State.setBeam_captures (s : State) (b : Nat) (x : Beam) : (s.setBeam b x).captures = s.captures := (rfl)
@[simp] theorem State.setBeam_grps (s : State) (b : Nat) (x : Beam) : (s.setBeam b x).grps = s.grps := (rfl)
@[simp] theorem State.setBeam_inps (s : State) (b : Nat) (x : Beam) : (s.setBeam b x).inps = s.inps := (rfl)
@[simp] theorem State.setBeam_plots (s : State) (b : Nat) (x : Beam) : (s.setBeam b x).plots = s.plots := (rfl)
@[simp] theorem State.setBeam_ques (s : State) (b : Nat) (x : Beam) : (s.setBeam b x).ques = s.ques := (rfl)
@[simp] theorem State.setBeam_links (s : State) (b : Nat) (x : Beam) : (s.setBeam b x).links = s.links := (rfl)
@[simp] theorem State.setBeam_out (s : State) (b : Nat) (x : Beam) : (s.setBeam b x).out = s.out := (rfl)
@[simp] theorem State.setBeam_drawn (s : State) (b : Nat) (x : Beam) : (s.setBeam b x).drawn = s.drawn := (rfl)
@[simp] theorem State.setBeam_pending (s : State) (b : Nat) (x : Beam) : (s.setBeam b x).pending = s.pending := (rfl)
@[simp] theorem State.setBeam_rd (s : State) (b : Nat) (x : Beam) (reg : Reg) : (s.setBeam b x).rd reg = s.rd reg := (rfl)
@[simp] theorem State.setBeam_get (s : State) (b : Nat) (x : Beam) (fld : Fld) : (s.setBeam b x).get fld = s.get fld := (rfl)
/-! ## setGrp -/
@[simp] theorem State.setGrp_regs (s : State) (g : Nat) (x : Group) : (s.setGrp g x).regs = s.regs := (rfl)
@[simp] theorem State.setGrp_force (s : State) (g : Nat) (x : Group) : (s.setGrp g x).force = s.force := (rfl)
@[simp] theorem State.setGrp_aper (s : State) (g : Nat) (x : Group) : (s.setGrp g x).aper = s.aper := (rfl)
@[simp] theorem State.setGrp_tb (s : State) (g : Nat) (x : Group) : (s.setGrp g x).tb = s.tb := (rfl)
@[simp] theorem State.setGrp_router (s : State) (g : Nat) (x : Group) : (s.setGrp g x).router = s.router := (rfl)
@[simp] theorem State.setGrp_windows (s : State) (g : Nat) (x : Group) : (s.setGrp g x).windows = s.windows := (rfl)
@[simp] theorem State.setGrp_log (s : State) (g : Nat) (x : Group) : (s.setGrp g x).log = s.log := (rfl)
@[simp] theorem State.setGrp_funcs (s : State) (g : Nat) (x : Group) : (s.setGrp g x).funcs = s.funcs := (rfl)
@[simp] theorem State.setGrp_vecs (s : State) (g : Nat) (x : Group) : (s.setGrp g x).vecs = s.vecs := (rfl)
@[simp] theorem State.setGrp_staged (s : State) (g : Nat) (x : Group) : (s.setGrp g x).staged = s.staged := (rfl)
@[simp] theorem State.setGrp_tags (s : State) (g : Nat) (x : Group) : (s.setGrp g x).tags = s.tags := (rfl)
@[simp] theorem State.setGrp_crings (s : State) (g : Nat) (x : Group) : (s.setGrp g x).crings = s.crings := (rfl)
@[simp] theorem State.setGrp_quesOn (s : State) (g : Nat) (x : Group) : (s.setGrp g x).quesOn = s.quesOn := (rfl)
@[simp] theorem State.setGrp_cmds (s : State) (g : Nat) (x : Group) : (s.setGrp g x).cmds = s.cmds := (rfl)
@[simp] theorem State.setGrp_slots (s : State) (g : Nat) (x : Group) : (s.setGrp g x).slots = s.slots := (rfl)
@[simp] theorem State.setGrp_captures (s : State) (g : Nat) (x : Group) : (s.setGrp g x).captures = s.captures := (rfl)
@[simp] theorem State.setGrp_inps (s : State) (g : Nat) (x : Group) : (s.setGrp g x).inps = s.inps := (rfl)
@[simp] theorem State.setGrp_beams (s : State) (g : Nat) (x : Group) : (s.setGrp g x).beams = s.beams := (rfl)
@[simp] theorem State.setGrp_plots (s : State) (g : Nat) (x : Group) : (s.setGrp g x).plots = s.plots := (rfl)
@[simp] theorem State.setGrp_ques (s : State) (g : Nat) (x : Group) : (s.setGrp g x).ques = s.ques := (rfl)
@[simp] theorem State.setGrp_links (s : State) (g : Nat) (x : Group) : (s.setGrp g x).links = s.links := (rfl)
@[simp] theorem State.setGrp_out (s : State) (g : Nat) (x : Group) : (s.setGrp g x).out = s.out := (rfl)
@[simp] theorem State.setGrp_drawn (s : State) (g : Nat) (x : Group) : (s.setGrp g x).drawn = s.drawn := (rfl)
@[simp] theorem State.setGrp_pending (s : State) (g : Nat) (x : Group) : (s.setGrp g x).pending = s.pending := (rfl)
@[simp] theorem State.setGrp_rd (s : State) (g : Nat) (x : Group) (reg : Reg) : (s.setGrp g x).rd reg = s.rd reg := (rfl)
@[simp] theorem State.setGrp_get (s : State) (g : Nat) (x : Group) (fld : Fld) : (s.setGrp g x).get fld = s.get fld := (rfl)
/-! ## setInp -/
@[simp] theorem State.setInp_regs (s : State) (i : Nat) (x : Inp) : (s.setInp i x).regs = s.regs := (rfl)
@[simp] theorem State.setInp_force (s : State) (i : Nat) (x : Inp) : (s.setInp i x).force = s.force := (rfl)
@[simp] theorem State.setInp_aper (s : State) (i : Nat) (x : Inp) : (s.setInp i x).aper = s.aper := (rfl)
@[simp] theorem State.setInp_tb (s : State) (i : Nat) (x : Inp) : (s.setInp i x).tb = s.tb := (rfl)
@[simp] theorem State.setInp_router (s : State) (i : Nat) (x : Inp) : (s.setInp i x).router = s.router := (rfl)
@[simp] theorem State.setInp_windows (s : State) (i : Nat) (x : Inp) : (s.setInp i x).windows = s.windows := (rfl)
@[simp] theorem State.setInp_log (s : State) (i : Nat) (x : Inp) : (s.setInp i x).log = s.log := (rfl)
@[simp] theorem State.setInp_funcs (s : State) (i : Nat) (x : Inp) : (s.setInp i x).funcs = s.funcs := (rfl)
@[simp] theorem State.setInp_vecs (s : State) (i : Nat) (x : Inp) : (s.setInp i x).vecs = s.vecs := (rfl)
@[simp] theorem State.setInp_staged (s : State) (i : Nat) (x : Inp) : (s.setInp i x).staged = s.staged := (rfl)
@[simp] theorem State.setInp_tags (s : State) (i : Nat) (x : Inp) : (s.setInp i x).tags = s.tags := (rfl)
@[simp] theorem State.setInp_crings (s : State) (i : Nat) (x : Inp) : (s.setInp i x).crings = s.crings := (rfl)
@[simp] theorem State.setInp_quesOn (s : State) (i : Nat) (x : Inp) : (s.setInp i x).quesOn = s.quesOn := (rfl)
@[simp] theorem State.setInp_cmds (s : State) (i : Nat) (x : Inp) : (s.setInp i x).cmds = s.cmds := (rfl)
@[simp] theorem State.setInp_slots (s : State) (i : Nat) (x : Inp) : (s.setInp i x).slots = s.slots := (rfl)
@[simp] theorem State.setInp_captures (s : State) (i : Nat) (x : Inp) : (s.setInp i x).captures = s.captures := (rfl)
@[simp] theorem State.setInp_grps (s : State) (i : Nat) (x : Inp) : (s.setInp i x).grps = s.grps := (rfl)
@[simp] theorem State.setInp_beams (s : State) (i : Nat) (x : Inp) : (s.setInp i x).beams = s.beams := (rfl)
@[simp] theorem State.setInp_plots (s : State) (i : Nat) (x : Inp) : (s.setInp i x).plots = s.plots := (rfl)
@[simp] theorem State.setInp_ques (s : State) (i : Nat) (x : Inp) : (s.setInp i x).ques = s.ques := (rfl)
@[simp] theorem State.setInp_links (s : State) (i : Nat) (x : Inp) : (s.setInp i x).links = s.links := (rfl)
@[simp] theorem State.setInp_out (s : State) (i : Nat) (x : Inp) : (s.setInp i x).out = s.out := (rfl)
@[simp] theorem State.setInp_drawn (s : State) (i : Nat) (x : Inp) : (s.setInp i x).drawn = s.drawn := (rfl)
@[simp] theorem State.setInp_pending (s : State) (i : Nat) (x : Inp) : (s.setInp i x).pending = s.pending := (rfl)
@[simp] theorem State.setInp_rd (s : State) (i : Nat) (x : Inp) (reg : Reg) : (s.setInp i x).rd reg = s.rd reg := (rfl)
@[simp] theorem State.setInp_get (s : State) (i : Nat) (x : Inp) (fld : Fld) : (s.setInp i x).get fld = s.get fld := (rfl)
/-! ## setDelivery -/
@[simp] theorem State.setDelivery_regs (s : State) (b i : Nat) (x : Delivery) : (s.setDelivery b i x).regs = s.regs := (rfl)
@[simp] theorem State.setDelivery_force (s : State) (b i : Nat) (x : Delivery) : (s.setDelivery b i x).force = s.force := (rfl)
@[simp] theorem State.setDelivery_aper (s : State) (b i : Nat) (x : Delivery) : (s.setDelivery b i x).aper = s.aper := (rfl)
@[simp] theorem State.setDelivery_tb (s : State) (b i : Nat) (x : Delivery) : (s.setDelivery b i x).tb = s.tb := (rfl)
@[simp] theorem State.setDelivery_router (s : State) (b i : Nat) (x : Delivery) : (s.setDelivery b i x).router = s.router := (rfl)
@[simp] theorem State.setDelivery_windows (s : State) (b i : Nat) (x : Delivery) : (s.setDelivery b i x).windows = s.windows := (rfl)
@[simp] theorem State.setDelivery_log (s : State) (b i : Nat) (x : Delivery) : (s.setDelivery b i x).log = s.log := (rfl)
@[simp] theorem State.setDelivery_funcs (s : State) (b i : Nat) (x : Delivery) : (s.setDelivery b i x).funcs = s.funcs := (rfl)
@[simp] theorem State.setDelivery_vecs (s : State) (b i : Nat) (x : Delivery) : (s.setDelivery b i x).vecs = s.vecs := (rfl)
@[simp] theorem State.setDelivery_staged (s : State) (b i : Nat) (x : Delivery) : (s.setDelivery b i x).staged = s.staged := (rfl)
@[simp] theorem State.setDelivery_tags (s : State) (b i : Nat) (x : Delivery) : (s.setDelivery b i x).tags = s.tags := (rfl)
@[simp] theorem State.setDelivery_crings (s : State) (b i : Nat) (x : Delivery) : (s.setDelivery b i x).crings = s.crings := (rfl)
@[simp] theorem State.setDelivery_quesOn (s : State) (b i : Nat) (x : Delivery) : (s.setDelivery b i x).quesOn = s.quesOn := (rfl)
@[simp] theorem State.setDelivery_cmds (s : State) (b i : Nat) (x : Delivery) : (s.setDelivery b i x).cmds = s.cmds := (rfl)
@[simp] theorem State.setDelivery_slots (s : State) (b i : Nat) (x : Delivery) : (s.setDelivery b i x).slots = s.slots := (rfl)
@[simp] theorem State.setDelivery_captures (s : State) (b i : Nat) (x : Delivery) : (s.setDelivery b i x).captures = s.captures := (rfl)
@[simp] theorem State.setDelivery_grps (s : State) (b i : Nat) (x : Delivery) : (s.setDelivery b i x).grps = s.grps := (rfl)
@[simp] theorem State.setDelivery_inps (s : State) (b i : Nat) (x : Delivery) : (s.setDelivery b i x).inps = s.inps := (rfl)
@[simp] theorem State.setDelivery_beams (s : State) (b i : Nat) (x : Delivery) : (s.setDelivery b i x).beams = s.beams := (rfl)
@[simp] theorem State.setDelivery_plots (s : State) (b i : Nat) (x : Delivery) : (s.setDelivery b i x).plots = s.plots := (rfl)
@[simp] theorem State.setDelivery_ques (s : State) (b i : Nat) (x : Delivery) : (s.setDelivery b i x).ques = s.ques := (rfl)
@[simp] theorem State.setDelivery_links (s : State) (b i : Nat) (x : Delivery) : (s.setDelivery b i x).links = s.links := (rfl)
@[simp] theorem State.setDelivery_out (s : State) (b i : Nat) (x : Delivery) : (s.setDelivery b i x).out = s.out := (rfl)
@[simp] theorem State.setDelivery_drawn (s : State) (b i : Nat) (x : Delivery) : (s.setDelivery b i x).drawn = s.drawn := (rfl)
@[simp] theorem State.setDelivery_pending (s : State) (b i : Nat) (x : Delivery) : (s.setDelivery b i x).pending = s.pending := (rfl)
@[simp] theorem State.setDelivery_rd (s : State) (b i : Nat) (x : Delivery) (reg : Reg) : (s.setDelivery b i x).rd reg = s.rd reg := (rfl)
@[simp] theorem State.setDelivery_get (s : State) (b i : Nat) (x : Delivery) (fld : Fld) : (s.setDelivery b i x).get fld = s.get fld := (rfl)
/-! ## setHring -/
@[simp] theorem State.setHring_regs (s : State) (m : Nat) (x : HostRing) : (s.setHring m x).regs = s.regs := (rfl)
@[simp] theorem State.setHring_force (s : State) (m : Nat) (x : HostRing) : (s.setHring m x).force = s.force := (rfl)
@[simp] theorem State.setHring_aper (s : State) (m : Nat) (x : HostRing) : (s.setHring m x).aper = s.aper := (rfl)
@[simp] theorem State.setHring_tb (s : State) (m : Nat) (x : HostRing) : (s.setHring m x).tb = s.tb := (rfl)
@[simp] theorem State.setHring_router (s : State) (m : Nat) (x : HostRing) : (s.setHring m x).router = s.router := (rfl)
@[simp] theorem State.setHring_windows (s : State) (m : Nat) (x : HostRing) : (s.setHring m x).windows = s.windows := (rfl)
@[simp] theorem State.setHring_log (s : State) (m : Nat) (x : HostRing) : (s.setHring m x).log = s.log := (rfl)
@[simp] theorem State.setHring_funcs (s : State) (m : Nat) (x : HostRing) : (s.setHring m x).funcs = s.funcs := (rfl)
@[simp] theorem State.setHring_vecs (s : State) (m : Nat) (x : HostRing) : (s.setHring m x).vecs = s.vecs := (rfl)
@[simp] theorem State.setHring_staged (s : State) (m : Nat) (x : HostRing) : (s.setHring m x).staged = s.staged := (rfl)
@[simp] theorem State.setHring_tags (s : State) (m : Nat) (x : HostRing) : (s.setHring m x).tags = s.tags := (rfl)
@[simp] theorem State.setHring_crings (s : State) (m : Nat) (x : HostRing) : (s.setHring m x).crings = s.crings := (rfl)
@[simp] theorem State.setHring_quesOn (s : State) (m : Nat) (x : HostRing) : (s.setHring m x).quesOn = s.quesOn := (rfl)
@[simp] theorem State.setHring_cmds (s : State) (m : Nat) (x : HostRing) : (s.setHring m x).cmds = s.cmds := (rfl)
@[simp] theorem State.setHring_slots (s : State) (m : Nat) (x : HostRing) : (s.setHring m x).slots = s.slots := (rfl)
@[simp] theorem State.setHring_captures (s : State) (m : Nat) (x : HostRing) : (s.setHring m x).captures = s.captures := (rfl)
@[simp] theorem State.setHring_grps (s : State) (m : Nat) (x : HostRing) : (s.setHring m x).grps = s.grps := (rfl)
@[simp] theorem State.setHring_inps (s : State) (m : Nat) (x : HostRing) : (s.setHring m x).inps = s.inps := (rfl)
@[simp] theorem State.setHring_beams (s : State) (m : Nat) (x : HostRing) : (s.setHring m x).beams = s.beams := (rfl)
@[simp] theorem State.setHring_plots (s : State) (m : Nat) (x : HostRing) : (s.setHring m x).plots = s.plots := (rfl)
@[simp] theorem State.setHring_ques (s : State) (m : Nat) (x : HostRing) : (s.setHring m x).ques = s.ques := (rfl)
@[simp] theorem State.setHring_links (s : State) (m : Nat) (x : HostRing) : (s.setHring m x).links = s.links := (rfl)
@[simp] theorem State.setHring_out (s : State) (m : Nat) (x : HostRing) : (s.setHring m x).out = s.out := (rfl)
@[simp] theorem State.setHring_drawn (s : State) (m : Nat) (x : HostRing) : (s.setHring m x).drawn = s.drawn := (rfl)
@[simp] theorem State.setHring_pending (s : State) (m : Nat) (x : HostRing) : (s.setHring m x).pending = s.pending := (rfl)
@[simp] theorem State.setHring_rd (s : State) (m : Nat) (x : HostRing) (reg : Reg) : (s.setHring m x).rd reg = s.rd reg := (rfl)
@[simp] theorem State.setHring_get (s : State) (m : Nat) (x : HostRing) (fld : Fld) : (s.setHring m x).get fld = s.get fld := (rfl)
/-! ## setSched -/
@[simp] theorem State.setSched_regs (s : State) (k : Nat) (x : Sched) : (s.setSched k x).regs = s.regs := (rfl)
@[simp] theorem State.setSched_force (s : State) (k : Nat) (x : Sched) : (s.setSched k x).force = s.force := (rfl)
@[simp] theorem State.setSched_aper (s : State) (k : Nat) (x : Sched) : (s.setSched k x).aper = s.aper := (rfl)
@[simp] theorem State.setSched_tb (s : State) (k : Nat) (x : Sched) : (s.setSched k x).tb = s.tb := (rfl)
@[simp] theorem State.setSched_router (s : State) (k : Nat) (x : Sched) : (s.setSched k x).router = s.router := (rfl)
@[simp] theorem State.setSched_windows (s : State) (k : Nat) (x : Sched) : (s.setSched k x).windows = s.windows := (rfl)
@[simp] theorem State.setSched_log (s : State) (k : Nat) (x : Sched) : (s.setSched k x).log = s.log := (rfl)
@[simp] theorem State.setSched_funcs (s : State) (k : Nat) (x : Sched) : (s.setSched k x).funcs = s.funcs := (rfl)
@[simp] theorem State.setSched_vecs (s : State) (k : Nat) (x : Sched) : (s.setSched k x).vecs = s.vecs := (rfl)
@[simp] theorem State.setSched_staged (s : State) (k : Nat) (x : Sched) : (s.setSched k x).staged = s.staged := (rfl)
@[simp] theorem State.setSched_tags (s : State) (k : Nat) (x : Sched) : (s.setSched k x).tags = s.tags := (rfl)
@[simp] theorem State.setSched_crings (s : State) (k : Nat) (x : Sched) : (s.setSched k x).crings = s.crings := (rfl)
@[simp] theorem State.setSched_quesOn (s : State) (k : Nat) (x : Sched) : (s.setSched k x).quesOn = s.quesOn := (rfl)
@[simp] theorem State.setSched_cmds (s : State) (k : Nat) (x : Sched) : (s.setSched k x).cmds = s.cmds := (rfl)
@[simp] theorem State.setSched_slots (s : State) (k : Nat) (x : Sched) : (s.setSched k x).slots = s.slots := (rfl)
@[simp] theorem State.setSched_captures (s : State) (k : Nat) (x : Sched) : (s.setSched k x).captures = s.captures := (rfl)
@[simp] theorem State.setSched_grps (s : State) (k : Nat) (x : Sched) : (s.setSched k x).grps = s.grps := (rfl)
@[simp] theorem State.setSched_inps (s : State) (k : Nat) (x : Sched) : (s.setSched k x).inps = s.inps := (rfl)
@[simp] theorem State.setSched_beams (s : State) (k : Nat) (x : Sched) : (s.setSched k x).beams = s.beams := (rfl)
@[simp] theorem State.setSched_plots (s : State) (k : Nat) (x : Sched) : (s.setSched k x).plots = s.plots := (rfl)
@[simp] theorem State.setSched_ques (s : State) (k : Nat) (x : Sched) : (s.setSched k x).ques = s.ques := (rfl)
@[simp] theorem State.setSched_links (s : State) (k : Nat) (x : Sched) : (s.setSched k x).links = s.links := (rfl)
@[simp] theorem State.setSched_out (s : State) (k : Nat) (x : Sched) : (s.setSched k x).out = s.out := (rfl)
@[simp] theorem State.setSched_drawn (s : State) (k : Nat) (x : Sched) : (s.setSched k x).drawn = s.drawn := (rfl)
@[simp] theorem State.setSched_pending (s : State) (k : Nat) (x : Sched) : (s.setSched k x).pending = s.pending := (rfl)
@[simp] theorem State.setSched_rd (s : State) (k : Nat) (x : Sched) (reg : Reg) : (s.setSched k x).rd reg = s.rd reg := (rfl)
@[simp] theorem State.setSched_get (s : State) (k : Nat) (x : Sched) (fld : Fld) : (s.setSched k x).get fld = s.get fld := (rfl)
/-! ## setRxs -/
@[simp] theorem State.setRxs_regs (s : State) (n : Nat) (x : RxStream) : (s.setRxs n x).regs = s.regs := (rfl)
@[simp] theorem State.setRxs_force (s : State) (n : Nat) (x : RxStream) : (s.setRxs n x).force = s.force := (rfl)
@[simp] theorem State.setRxs_aper (s : State) (n : Nat) (x : RxStream) : (s.setRxs n x).aper = s.aper := (rfl)
@[simp] theorem State.setRxs_tb (s : State) (n : Nat) (x : RxStream) : (s.setRxs n x).tb = s.tb := (rfl)
@[simp] theorem State.setRxs_router (s : State) (n : Nat) (x : RxStream) : (s.setRxs n x).router = s.router := (rfl)
@[simp] theorem State.setRxs_windows (s : State) (n : Nat) (x : RxStream) : (s.setRxs n x).windows = s.windows := (rfl)
@[simp] theorem State.setRxs_log (s : State) (n : Nat) (x : RxStream) : (s.setRxs n x).log = s.log := (rfl)
@[simp] theorem State.setRxs_funcs (s : State) (n : Nat) (x : RxStream) : (s.setRxs n x).funcs = s.funcs := (rfl)
@[simp] theorem State.setRxs_vecs (s : State) (n : Nat) (x : RxStream) : (s.setRxs n x).vecs = s.vecs := (rfl)
@[simp] theorem State.setRxs_staged (s : State) (n : Nat) (x : RxStream) : (s.setRxs n x).staged = s.staged := (rfl)
@[simp] theorem State.setRxs_tags (s : State) (n : Nat) (x : RxStream) : (s.setRxs n x).tags = s.tags := (rfl)
@[simp] theorem State.setRxs_crings (s : State) (n : Nat) (x : RxStream) : (s.setRxs n x).crings = s.crings := (rfl)
@[simp] theorem State.setRxs_quesOn (s : State) (n : Nat) (x : RxStream) : (s.setRxs n x).quesOn = s.quesOn := (rfl)
@[simp] theorem State.setRxs_cmds (s : State) (n : Nat) (x : RxStream) : (s.setRxs n x).cmds = s.cmds := (rfl)
@[simp] theorem State.setRxs_slots (s : State) (n : Nat) (x : RxStream) : (s.setRxs n x).slots = s.slots := (rfl)
@[simp] theorem State.setRxs_captures (s : State) (n : Nat) (x : RxStream) : (s.setRxs n x).captures = s.captures := (rfl)
@[simp] theorem State.setRxs_grps (s : State) (n : Nat) (x : RxStream) : (s.setRxs n x).grps = s.grps := (rfl)
@[simp] theorem State.setRxs_inps (s : State) (n : Nat) (x : RxStream) : (s.setRxs n x).inps = s.inps := (rfl)
@[simp] theorem State.setRxs_beams (s : State) (n : Nat) (x : RxStream) : (s.setRxs n x).beams = s.beams := (rfl)
@[simp] theorem State.setRxs_plots (s : State) (n : Nat) (x : RxStream) : (s.setRxs n x).plots = s.plots := (rfl)
@[simp] theorem State.setRxs_ques (s : State) (n : Nat) (x : RxStream) : (s.setRxs n x).ques = s.ques := (rfl)
@[simp] theorem State.setRxs_links (s : State) (n : Nat) (x : RxStream) : (s.setRxs n x).links = s.links := (rfl)
@[simp] theorem State.setRxs_out (s : State) (n : Nat) (x : RxStream) : (s.setRxs n x).out = s.out := (rfl)
@[simp] theorem State.setRxs_drawn (s : State) (n : Nat) (x : RxStream) : (s.setRxs n x).drawn = s.drawn := (rfl)
@[simp] theorem State.setRxs_pending (s : State) (n : Nat) (x : RxStream) : (s.setRxs n x).pending = s.pending := (rfl)
@[simp] theorem State.setRxs_rd (s : State) (n : Nat) (x : RxStream) (reg : Reg) : (s.setRxs n x).rd reg = s.rd reg := (rfl)
@[simp] theorem State.setRxs_get (s : State) (n : Nat) (x : RxStream) (fld : Fld) : (s.setRxs n x).get fld = s.get fld := (rfl)
/-! ## setPort -/
@[simp] theorem State.setPort_regs (s : State) (p : Nat) (x : Port) : (s.setPort p x).regs = s.regs := (rfl)
@[simp] theorem State.setPort_force (s : State) (p : Nat) (x : Port) : (s.setPort p x).force = s.force := (rfl)
@[simp] theorem State.setPort_aper (s : State) (p : Nat) (x : Port) : (s.setPort p x).aper = s.aper := (rfl)
@[simp] theorem State.setPort_tb (s : State) (p : Nat) (x : Port) : (s.setPort p x).tb = s.tb := (rfl)
@[simp] theorem State.setPort_router (s : State) (p : Nat) (x : Port) : (s.setPort p x).router = s.router := (rfl)
@[simp] theorem State.setPort_windows (s : State) (p : Nat) (x : Port) : (s.setPort p x).windows = s.windows := (rfl)
@[simp] theorem State.setPort_log (s : State) (p : Nat) (x : Port) : (s.setPort p x).log = s.log := (rfl)
@[simp] theorem State.setPort_funcs (s : State) (p : Nat) (x : Port) : (s.setPort p x).funcs = s.funcs := (rfl)
@[simp] theorem State.setPort_vecs (s : State) (p : Nat) (x : Port) : (s.setPort p x).vecs = s.vecs := (rfl)
@[simp] theorem State.setPort_staged (s : State) (p : Nat) (x : Port) : (s.setPort p x).staged = s.staged := (rfl)
@[simp] theorem State.setPort_tags (s : State) (p : Nat) (x : Port) : (s.setPort p x).tags = s.tags := (rfl)
@[simp] theorem State.setPort_crings (s : State) (p : Nat) (x : Port) : (s.setPort p x).crings = s.crings := (rfl)
@[simp] theorem State.setPort_quesOn (s : State) (p : Nat) (x : Port) : (s.setPort p x).quesOn = s.quesOn := (rfl)
@[simp] theorem State.setPort_cmds (s : State) (p : Nat) (x : Port) : (s.setPort p x).cmds = s.cmds := (rfl)
@[simp] theorem State.setPort_slots (s : State) (p : Nat) (x : Port) : (s.setPort p x).slots = s.slots := (rfl)
@[simp] theorem State.setPort_captures (s : State) (p : Nat) (x : Port) : (s.setPort p x).captures = s.captures := (rfl)
@[simp] theorem State.setPort_grps (s : State) (p : Nat) (x : Port) : (s.setPort p x).grps = s.grps := (rfl)
@[simp] theorem State.setPort_inps (s : State) (p : Nat) (x : Port) : (s.setPort p x).inps = s.inps := (rfl)
@[simp] theorem State.setPort_beams (s : State) (p : Nat) (x : Port) : (s.setPort p x).beams = s.beams := (rfl)
@[simp] theorem State.setPort_plots (s : State) (p : Nat) (x : Port) : (s.setPort p x).plots = s.plots := (rfl)
@[simp] theorem State.setPort_ques (s : State) (p : Nat) (x : Port) : (s.setPort p x).ques = s.ques := (rfl)
@[simp] theorem State.setPort_links (s : State) (p : Nat) (x : Port) : (s.setPort p x).links = s.links := (rfl)
@[simp] theorem State.setPort_out (s : State) (p : Nat) (x : Port) : (s.setPort p x).out = s.out := (rfl)
@[simp] theorem State.setPort_drawn (s : State) (p : Nat) (x : Port) : (s.setPort p x).drawn = s.drawn := (rfl)
@[simp] theorem State.setPort_pending (s : State) (p : Nat) (x : Port) : (s.setPort p x).pending = s.pending := (rfl)
@[simp] theorem State.setPort_rd (s : State) (p : Nat) (x : Port) (reg : Reg) : (s.setPort p x).rd reg = s.rd reg := (rfl)
@[simp] theorem State.setPort_get (s : State) (p : Nat) (x : Port) (fld : Fld) : (s.setPort p x).get fld = s.get fld := (rfl)
/-! ## setSheet -/
@[simp] theorem State.setSheet_regs (s : State) (sh : Nat) (x : Sheet) : (s.setSheet sh x).regs = s.regs := (rfl)
@[simp] theorem State.setSheet_force (s : State) (sh : Nat) (x : Sheet) : (s.setSheet sh x).force = s.force := (rfl)
@[simp] theorem State.setSheet_aper (s : State) (sh : Nat) (x : Sheet) : (s.setSheet sh x).aper = s.aper := (rfl)
@[simp] theorem State.setSheet_tb (s : State) (sh : Nat) (x : Sheet) : (s.setSheet sh x).tb = s.tb := (rfl)
@[simp] theorem State.setSheet_router (s : State) (sh : Nat) (x : Sheet) : (s.setSheet sh x).router = s.router := (rfl)
@[simp] theorem State.setSheet_windows (s : State) (sh : Nat) (x : Sheet) : (s.setSheet sh x).windows = s.windows := (rfl)
@[simp] theorem State.setSheet_log (s : State) (sh : Nat) (x : Sheet) : (s.setSheet sh x).log = s.log := (rfl)
@[simp] theorem State.setSheet_funcs (s : State) (sh : Nat) (x : Sheet) : (s.setSheet sh x).funcs = s.funcs := (rfl)
@[simp] theorem State.setSheet_vecs (s : State) (sh : Nat) (x : Sheet) : (s.setSheet sh x).vecs = s.vecs := (rfl)
@[simp] theorem State.setSheet_staged (s : State) (sh : Nat) (x : Sheet) : (s.setSheet sh x).staged = s.staged := (rfl)
@[simp] theorem State.setSheet_tags (s : State) (sh : Nat) (x : Sheet) : (s.setSheet sh x).tags = s.tags := (rfl)
@[simp] theorem State.setSheet_crings (s : State) (sh : Nat) (x : Sheet) : (s.setSheet sh x).crings = s.crings := (rfl)
@[simp] theorem State.setSheet_quesOn (s : State) (sh : Nat) (x : Sheet) : (s.setSheet sh x).quesOn = s.quesOn := (rfl)
@[simp] theorem State.setSheet_cmds (s : State) (sh : Nat) (x : Sheet) : (s.setSheet sh x).cmds = s.cmds := (rfl)
@[simp] theorem State.setSheet_slots (s : State) (sh : Nat) (x : Sheet) : (s.setSheet sh x).slots = s.slots := (rfl)
@[simp] theorem State.setSheet_captures (s : State) (sh : Nat) (x : Sheet) : (s.setSheet sh x).captures = s.captures := (rfl)
@[simp] theorem State.setSheet_grps (s : State) (sh : Nat) (x : Sheet) : (s.setSheet sh x).grps = s.grps := (rfl)
@[simp] theorem State.setSheet_inps (s : State) (sh : Nat) (x : Sheet) : (s.setSheet sh x).inps = s.inps := (rfl)
@[simp] theorem State.setSheet_beams (s : State) (sh : Nat) (x : Sheet) : (s.setSheet sh x).beams = s.beams := (rfl)
@[simp] theorem State.setSheet_plots (s : State) (sh : Nat) (x : Sheet) : (s.setSheet sh x).plots = s.plots := (rfl)
@[simp] theorem State.setSheet_ques (s : State) (sh : Nat) (x : Sheet) : (s.setSheet sh x).ques = s.ques := (rfl)
@[simp] theorem State.setSheet_links (s : State) (sh : Nat) (x : Sheet) : (s.setSheet sh x).links = s.links := (rfl)
@[simp] theorem State.setSheet_out (s : State) (sh : Nat) (x : Sheet) : (s.setSheet sh x).out = s.out := (rfl)
@[simp] theorem State.setSheet_drawn (s : State) (sh : Nat) (x : Sheet) : (s.setSheet sh x).drawn = s.drawn := (rfl)
@[simp] theorem State.setSheet_pending (s : State) (sh : Nat) (x : Sheet) : (s.setSheet sh x).pending = s.pending := (rfl)
@[simp] theorem State.setSheet_rd (s : State) (sh : Nat) (x : Sheet) (reg : Reg) : (s.setSheet sh x).rd reg = s.rd reg := (rfl)
@[simp] theorem State.setSheet_get (s : State) (sh : Nat) (x : Sheet) (fld : Fld) : (s.setSheet sh x).get fld = s.get fld := (rfl)
/-! ## setLnk -/
@[simp] theorem State.setLnk_regs (s : State) (sh : Nat) (x : Link) : (s.setLnk sh x).regs = s.regs := (rfl)
@[simp] theorem State.setLnk_force (s : State) (sh : Nat) (x : Link) : (s.setLnk sh x).force = s.force := (rfl)
@[simp] theorem State.setLnk_aper (s : State) (sh : Nat) (x : Link) : (s.setLnk sh x).aper = s.aper := (rfl)
@[simp] theorem State.setLnk_tb (s : State) (sh : Nat) (x : Link) : (s.setLnk sh x).tb = s.tb := (rfl)
@[simp] theorem State.setLnk_router (s : State) (sh : Nat) (x : Link) : (s.setLnk sh x).router = s.router := (rfl)
@[simp] theorem State.setLnk_windows (s : State) (sh : Nat) (x : Link) : (s.setLnk sh x).windows = s.windows := (rfl)
@[simp] theorem State.setLnk_log (s : State) (sh : Nat) (x : Link) : (s.setLnk sh x).log = s.log := (rfl)
@[simp] theorem State.setLnk_funcs (s : State) (sh : Nat) (x : Link) : (s.setLnk sh x).funcs = s.funcs := (rfl)
@[simp] theorem State.setLnk_vecs (s : State) (sh : Nat) (x : Link) : (s.setLnk sh x).vecs = s.vecs := (rfl)
@[simp] theorem State.setLnk_staged (s : State) (sh : Nat) (x : Link) : (s.setLnk sh x).staged = s.staged := (rfl)
@[simp] theorem State.setLnk_tags (s : State) (sh : Nat) (x : Link) : (s.setLnk sh x).tags = s.tags := (rfl)
@[simp] theorem State.setLnk_crings (s : State) (sh : Nat) (x : Link) : (s.setLnk sh x).crings = s.crings := (rfl)
@[simp] theorem State.setLnk_quesOn (s : State) (sh : Nat) (x : Link) : (s.setLnk sh x).quesOn = s.quesOn := (rfl)
@[simp] theorem State.setLnk_cmds (s : State) (sh : Nat) (x : Link) : (s.setLnk sh x).cmds = s.cmds := (rfl)
@[simp] theorem State.setLnk_slots (s : State) (sh : Nat) (x : Link) : (s.setLnk sh x).slots = s.slots := (rfl)
@[simp] theorem State.setLnk_captures (s : State) (sh : Nat) (x : Link) : (s.setLnk sh x).captures = s.captures := (rfl)
@[simp] theorem State.setLnk_grps (s : State) (sh : Nat) (x : Link) : (s.setLnk sh x).grps = s.grps := (rfl)
@[simp] theorem State.setLnk_inps (s : State) (sh : Nat) (x : Link) : (s.setLnk sh x).inps = s.inps := (rfl)
@[simp] theorem State.setLnk_beams (s : State) (sh : Nat) (x : Link) : (s.setLnk sh x).beams = s.beams := (rfl)
@[simp] theorem State.setLnk_plots (s : State) (sh : Nat) (x : Link) : (s.setLnk sh x).plots = s.plots := (rfl)
@[simp] theorem State.setLnk_ques (s : State) (sh : Nat) (x : Link) : (s.setLnk sh x).ques = s.ques := (rfl)
@[simp] theorem State.setLnk_out (s : State) (sh : Nat) (x : Link) : (s.setLnk sh x).out = s.out := (rfl)
@[simp] theorem State.setLnk_drawn (s : State) (sh : Nat) (x : Link) : (s.setLnk sh x).drawn = s.drawn := (rfl)
@[simp] theorem State.setLnk_pending (s : State) (sh : Nat) (x : Link) : (s.setLnk sh x).pending = s.pending := (rfl)
@[simp] theorem State.setLnk_rd (s : State) (sh : Nat) (x : Link) (reg : Reg) : (s.setLnk sh x).rd reg = s.rd reg := (rfl)
@[simp] theorem State.setLnk_get (s : State) (sh : Nat) (x : Link) (fld : Fld) : (s.setLnk sh x).get fld = s.get fld := (rfl)
/-! ## setSig -/
@[simp] theorem State.setSig_regs (s : State) (n : Nat) (x : SigOut) : (s.setSig n x).regs = s.regs := (rfl)
@[simp] theorem State.setSig_force (s : State) (n : Nat) (x : SigOut) : (s.setSig n x).force = s.force := (rfl)
@[simp] theorem State.setSig_aper (s : State) (n : Nat) (x : SigOut) : (s.setSig n x).aper = s.aper := (rfl)
@[simp] theorem State.setSig_tb (s : State) (n : Nat) (x : SigOut) : (s.setSig n x).tb = s.tb := (rfl)
@[simp] theorem State.setSig_router (s : State) (n : Nat) (x : SigOut) : (s.setSig n x).router = s.router := (rfl)
@[simp] theorem State.setSig_windows (s : State) (n : Nat) (x : SigOut) : (s.setSig n x).windows = s.windows := (rfl)
@[simp] theorem State.setSig_log (s : State) (n : Nat) (x : SigOut) : (s.setSig n x).log = s.log := (rfl)
@[simp] theorem State.setSig_funcs (s : State) (n : Nat) (x : SigOut) : (s.setSig n x).funcs = s.funcs := (rfl)
@[simp] theorem State.setSig_vecs (s : State) (n : Nat) (x : SigOut) : (s.setSig n x).vecs = s.vecs := (rfl)
@[simp] theorem State.setSig_staged (s : State) (n : Nat) (x : SigOut) : (s.setSig n x).staged = s.staged := (rfl)
@[simp] theorem State.setSig_tags (s : State) (n : Nat) (x : SigOut) : (s.setSig n x).tags = s.tags := (rfl)
@[simp] theorem State.setSig_crings (s : State) (n : Nat) (x : SigOut) : (s.setSig n x).crings = s.crings := (rfl)
@[simp] theorem State.setSig_quesOn (s : State) (n : Nat) (x : SigOut) : (s.setSig n x).quesOn = s.quesOn := (rfl)
@[simp] theorem State.setSig_cmds (s : State) (n : Nat) (x : SigOut) : (s.setSig n x).cmds = s.cmds := (rfl)
@[simp] theorem State.setSig_slots (s : State) (n : Nat) (x : SigOut) : (s.setSig n x).slots = s.slots := (rfl)
@[simp] theorem State.setSig_captures (s : State) (n : Nat) (x : SigOut) : (s.setSig n x).captures = s.captures := (rfl)
@[simp] theorem State.setSig_grps (s : State) (n : Nat) (x : SigOut) : (s.setSig n x).grps = s.grps := (rfl)
@[simp] theorem State.setSig_inps (s : State) (n : Nat) (x : SigOut) : (s.setSig n x).inps = s.inps := (rfl)
@[simp] theorem State.setSig_beams (s : State) (n : Nat) (x : SigOut) : (s.setSig n x).beams = s.beams := (rfl)
@[simp] theorem State.setSig_plots (s : State) (n : Nat) (x : SigOut) : (s.setSig n x).plots = s.plots := (rfl)
@[simp] theorem State.setSig_ques (s : State) (n : Nat) (x : SigOut) : (s.setSig n x).ques = s.ques := (rfl)
@[simp] theorem State.setSig_links (s : State) (n : Nat) (x : SigOut) : (s.setSig n x).links = s.links := (rfl)
@[simp] theorem State.setSig_out (s : State) (n : Nat) (x : SigOut) : (s.setSig n x).out = s.out := (rfl)
@[simp] theorem State.setSig_drawn (s : State) (n : Nat) (x : SigOut) : (s.setSig n x).drawn = s.drawn := (rfl)
@[simp] theorem State.setSig_pending (s : State) (n : Nat) (x : SigOut) : (s.setSig n x).pending = s.pending := (rfl)
@[simp] theorem State.setSig_rd (s : State) (n : Nat) (x : SigOut) (reg : Reg) : (s.setSig n x).rd reg = s.rd reg := (rfl)
@[simp] theorem State.setSig_get (s : State) (n : Nat) (x : SigOut) (fld : Fld) : (s.setSig n x).get fld = s.get fld := (rfl)
/-! ## setRaw -/
@[simp] theorem State.setRaw_regs (s : State) (n : Nat) (x : RawPath) : (s.setRaw n x).regs = s.regs := (rfl)
@[simp] theorem State.setRaw_force (s : State) (n : Nat) (x : RawPath) : (s.setRaw n x).force = s.force := (rfl)
@[simp] theorem State.setRaw_aper (s : State) (n : Nat) (x : RawPath) : (s.setRaw n x).aper = s.aper := (rfl)
@[simp] theorem State.setRaw_tb (s : State) (n : Nat) (x : RawPath) : (s.setRaw n x).tb = s.tb := (rfl)
@[simp] theorem State.setRaw_router (s : State) (n : Nat) (x : RawPath) : (s.setRaw n x).router = s.router := (rfl)
@[simp] theorem State.setRaw_windows (s : State) (n : Nat) (x : RawPath) : (s.setRaw n x).windows = s.windows := (rfl)
@[simp] theorem State.setRaw_log (s : State) (n : Nat) (x : RawPath) : (s.setRaw n x).log = s.log := (rfl)
@[simp] theorem State.setRaw_funcs (s : State) (n : Nat) (x : RawPath) : (s.setRaw n x).funcs = s.funcs := (rfl)
@[simp] theorem State.setRaw_vecs (s : State) (n : Nat) (x : RawPath) : (s.setRaw n x).vecs = s.vecs := (rfl)
@[simp] theorem State.setRaw_staged (s : State) (n : Nat) (x : RawPath) : (s.setRaw n x).staged = s.staged := (rfl)
@[simp] theorem State.setRaw_tags (s : State) (n : Nat) (x : RawPath) : (s.setRaw n x).tags = s.tags := (rfl)
@[simp] theorem State.setRaw_crings (s : State) (n : Nat) (x : RawPath) : (s.setRaw n x).crings = s.crings := (rfl)
@[simp] theorem State.setRaw_quesOn (s : State) (n : Nat) (x : RawPath) : (s.setRaw n x).quesOn = s.quesOn := (rfl)
@[simp] theorem State.setRaw_cmds (s : State) (n : Nat) (x : RawPath) : (s.setRaw n x).cmds = s.cmds := (rfl)
@[simp] theorem State.setRaw_slots (s : State) (n : Nat) (x : RawPath) : (s.setRaw n x).slots = s.slots := (rfl)
@[simp] theorem State.setRaw_captures (s : State) (n : Nat) (x : RawPath) : (s.setRaw n x).captures = s.captures := (rfl)
@[simp] theorem State.setRaw_grps (s : State) (n : Nat) (x : RawPath) : (s.setRaw n x).grps = s.grps := (rfl)
@[simp] theorem State.setRaw_inps (s : State) (n : Nat) (x : RawPath) : (s.setRaw n x).inps = s.inps := (rfl)
@[simp] theorem State.setRaw_beams (s : State) (n : Nat) (x : RawPath) : (s.setRaw n x).beams = s.beams := (rfl)
@[simp] theorem State.setRaw_plots (s : State) (n : Nat) (x : RawPath) : (s.setRaw n x).plots = s.plots := (rfl)
@[simp] theorem State.setRaw_ques (s : State) (n : Nat) (x : RawPath) : (s.setRaw n x).ques = s.ques := (rfl)
@[simp] theorem State.setRaw_links (s : State) (n : Nat) (x : RawPath) : (s.setRaw n x).links = s.links := (rfl)
@[simp] theorem State.setRaw_out (s : State) (n : Nat) (x : RawPath) : (s.setRaw n x).out = s.out := (rfl)
@[simp] theorem State.setRaw_drawn (s : State) (n : Nat) (x : RawPath) : (s.setRaw n x).drawn = s.drawn := (rfl)
@[simp] theorem State.setRaw_pending (s : State) (n : Nat) (x : RawPath) : (s.setRaw n x).pending = s.pending := (rfl)
@[simp] theorem State.setRaw_rd (s : State) (n : Nat) (x : RawPath) (reg : Reg) : (s.setRaw n x).rd reg = s.rd reg := (rfl)
@[simp] theorem State.setRaw_get (s : State) (n : Nat) (x : RawPath) (fld : Fld) : (s.setRaw n x).get fld = s.get fld := (rfl)
/-! ## setCring -/
@[simp] theorem State.setCring_regs (s : State) (b r : Nat) (x : CRing) : (s.setCring b r x).regs = s.regs := (rfl)
@[simp] theorem State.setCring_force (s : State) (b r : Nat) (x : CRing) : (s.setCring b r x).force = s.force := (rfl)
@[simp] theorem State.setCring_aper (s : State) (b r : Nat) (x : CRing) : (s.setCring b r x).aper = s.aper := (rfl)
@[simp] theorem State.setCring_tb (s : State) (b r : Nat) (x : CRing) : (s.setCring b r x).tb = s.tb := (rfl)
@[simp] theorem State.setCring_router (s : State) (b r : Nat) (x : CRing) : (s.setCring b r x).router = s.router := (rfl)
@[simp] theorem State.setCring_windows (s : State) (b r : Nat) (x : CRing) : (s.setCring b r x).windows = s.windows := (rfl)
@[simp] theorem State.setCring_log (s : State) (b r : Nat) (x : CRing) : (s.setCring b r x).log = s.log := (rfl)
@[simp] theorem State.setCring_funcs (s : State) (b r : Nat) (x : CRing) : (s.setCring b r x).funcs = s.funcs := (rfl)
@[simp] theorem State.setCring_vecs (s : State) (b r : Nat) (x : CRing) : (s.setCring b r x).vecs = s.vecs := (rfl)
@[simp] theorem State.setCring_staged (s : State) (b r : Nat) (x : CRing) : (s.setCring b r x).staged = s.staged := (rfl)
@[simp] theorem State.setCring_tags (s : State) (b r : Nat) (x : CRing) : (s.setCring b r x).tags = s.tags := (rfl)
@[simp] theorem State.setCring_quesOn (s : State) (b r : Nat) (x : CRing) : (s.setCring b r x).quesOn = s.quesOn := (rfl)
@[simp] theorem State.setCring_cmds (s : State) (b r : Nat) (x : CRing) : (s.setCring b r x).cmds = s.cmds := (rfl)
@[simp] theorem State.setCring_slots (s : State) (b r : Nat) (x : CRing) : (s.setCring b r x).slots = s.slots := (rfl)
@[simp] theorem State.setCring_captures (s : State) (b r : Nat) (x : CRing) : (s.setCring b r x).captures = s.captures := (rfl)
@[simp] theorem State.setCring_grps (s : State) (b r : Nat) (x : CRing) : (s.setCring b r x).grps = s.grps := (rfl)
@[simp] theorem State.setCring_inps (s : State) (b r : Nat) (x : CRing) : (s.setCring b r x).inps = s.inps := (rfl)
@[simp] theorem State.setCring_beams (s : State) (b r : Nat) (x : CRing) : (s.setCring b r x).beams = s.beams := (rfl)
@[simp] theorem State.setCring_plots (s : State) (b r : Nat) (x : CRing) : (s.setCring b r x).plots = s.plots := (rfl)
@[simp] theorem State.setCring_ques (s : State) (b r : Nat) (x : CRing) : (s.setCring b r x).ques = s.ques := (rfl)
@[simp] theorem State.setCring_links (s : State) (b r : Nat) (x : CRing) : (s.setCring b r x).links = s.links := (rfl)
@[simp] theorem State.setCring_out (s : State) (b r : Nat) (x : CRing) : (s.setCring b r x).out = s.out := (rfl)
@[simp] theorem State.setCring_drawn (s : State) (b r : Nat) (x : CRing) : (s.setCring b r x).drawn = s.drawn := (rfl)
@[simp] theorem State.setCring_pending (s : State) (b r : Nat) (x : CRing) : (s.setCring b r x).pending = s.pending := (rfl)
@[simp] theorem State.setCring_rd (s : State) (b r : Nat) (x : CRing) (reg : Reg) : (s.setCring b r x).rd reg = s.rd reg := (rfl)
@[simp] theorem State.setCring_get (s : State) (b r : Nat) (x : CRing) (fld : Fld) : (s.setCring b r x).get fld = s.get fld := (rfl)
/-! ## setTag -/
@[simp] theorem State.setTag_regs (s : State) (b r : Nat) (x : TagEntry) : (s.setTag b r x).regs = s.regs := (rfl)
@[simp] theorem State.setTag_force (s : State) (b r : Nat) (x : TagEntry) : (s.setTag b r x).force = s.force := (rfl)
@[simp] theorem State.setTag_aper (s : State) (b r : Nat) (x : TagEntry) : (s.setTag b r x).aper = s.aper := (rfl)
@[simp] theorem State.setTag_tb (s : State) (b r : Nat) (x : TagEntry) : (s.setTag b r x).tb = s.tb := (rfl)
@[simp] theorem State.setTag_router (s : State) (b r : Nat) (x : TagEntry) : (s.setTag b r x).router = s.router := (rfl)
@[simp] theorem State.setTag_windows (s : State) (b r : Nat) (x : TagEntry) : (s.setTag b r x).windows = s.windows := (rfl)
@[simp] theorem State.setTag_log (s : State) (b r : Nat) (x : TagEntry) : (s.setTag b r x).log = s.log := (rfl)
@[simp] theorem State.setTag_funcs (s : State) (b r : Nat) (x : TagEntry) : (s.setTag b r x).funcs = s.funcs := (rfl)
@[simp] theorem State.setTag_vecs (s : State) (b r : Nat) (x : TagEntry) : (s.setTag b r x).vecs = s.vecs := (rfl)
@[simp] theorem State.setTag_staged (s : State) (b r : Nat) (x : TagEntry) : (s.setTag b r x).staged = s.staged := (rfl)
@[simp] theorem State.setTag_crings (s : State) (b r : Nat) (x : TagEntry) : (s.setTag b r x).crings = s.crings := (rfl)
@[simp] theorem State.setTag_quesOn (s : State) (b r : Nat) (x : TagEntry) : (s.setTag b r x).quesOn = s.quesOn := (rfl)
@[simp] theorem State.setTag_cmds (s : State) (b r : Nat) (x : TagEntry) : (s.setTag b r x).cmds = s.cmds := (rfl)
@[simp] theorem State.setTag_slots (s : State) (b r : Nat) (x : TagEntry) : (s.setTag b r x).slots = s.slots := (rfl)
@[simp] theorem State.setTag_captures (s : State) (b r : Nat) (x : TagEntry) : (s.setTag b r x).captures = s.captures := (rfl)
@[simp] theorem State.setTag_grps (s : State) (b r : Nat) (x : TagEntry) : (s.setTag b r x).grps = s.grps := (rfl)
@[simp] theorem State.setTag_inps (s : State) (b r : Nat) (x : TagEntry) : (s.setTag b r x).inps = s.inps := (rfl)
@[simp] theorem State.setTag_beams (s : State) (b r : Nat) (x : TagEntry) : (s.setTag b r x).beams = s.beams := (rfl)
@[simp] theorem State.setTag_plots (s : State) (b r : Nat) (x : TagEntry) : (s.setTag b r x).plots = s.plots := (rfl)
@[simp] theorem State.setTag_ques (s : State) (b r : Nat) (x : TagEntry) : (s.setTag b r x).ques = s.ques := (rfl)
@[simp] theorem State.setTag_links (s : State) (b r : Nat) (x : TagEntry) : (s.setTag b r x).links = s.links := (rfl)
@[simp] theorem State.setTag_out (s : State) (b r : Nat) (x : TagEntry) : (s.setTag b r x).out = s.out := (rfl)
@[simp] theorem State.setTag_drawn (s : State) (b r : Nat) (x : TagEntry) : (s.setTag b r x).drawn = s.drawn := (rfl)
@[simp] theorem State.setTag_pending (s : State) (b r : Nat) (x : TagEntry) : (s.setTag b r x).pending = s.pending := (rfl)
@[simp] theorem State.setTag_rd (s : State) (b r : Nat) (x : TagEntry) (reg : Reg) : (s.setTag b r x).rd reg = s.rd reg := (rfl)
@[simp] theorem State.setTag_get (s : State) (b r : Nat) (x : TagEntry) (fld : Fld) : (s.setTag b r x).get fld = s.get fld := (rfl)
/-! ## setEnv -/
@[simp] theorem State.setEnv_regs (s : State) (b : Nat) (x : EnvCtr) : (s.setEnv b x).regs = s.regs := (rfl)
@[simp] theorem State.setEnv_force (s : State) (b : Nat) (x : EnvCtr) : (s.setEnv b x).force = s.force := (rfl)
@[simp] theorem State.setEnv_aper (s : State) (b : Nat) (x : EnvCtr) : (s.setEnv b x).aper = s.aper := (rfl)
@[simp] theorem State.setEnv_tb (s : State) (b : Nat) (x : EnvCtr) : (s.setEnv b x).tb = s.tb := (rfl)
@[simp] theorem State.setEnv_router (s : State) (b : Nat) (x : EnvCtr) : (s.setEnv b x).router = s.router := (rfl)
@[simp] theorem State.setEnv_windows (s : State) (b : Nat) (x : EnvCtr) : (s.setEnv b x).windows = s.windows := (rfl)
@[simp] theorem State.setEnv_log (s : State) (b : Nat) (x : EnvCtr) : (s.setEnv b x).log = s.log := (rfl)
@[simp] theorem State.setEnv_funcs (s : State) (b : Nat) (x : EnvCtr) : (s.setEnv b x).funcs = s.funcs := (rfl)
@[simp] theorem State.setEnv_vecs (s : State) (b : Nat) (x : EnvCtr) : (s.setEnv b x).vecs = s.vecs := (rfl)
@[simp] theorem State.setEnv_staged (s : State) (b : Nat) (x : EnvCtr) : (s.setEnv b x).staged = s.staged := (rfl)
@[simp] theorem State.setEnv_tags (s : State) (b : Nat) (x : EnvCtr) : (s.setEnv b x).tags = s.tags := (rfl)
@[simp] theorem State.setEnv_crings (s : State) (b : Nat) (x : EnvCtr) : (s.setEnv b x).crings = s.crings := (rfl)
@[simp] theorem State.setEnv_quesOn (s : State) (b : Nat) (x : EnvCtr) : (s.setEnv b x).quesOn = s.quesOn := (rfl)
@[simp] theorem State.setEnv_cmds (s : State) (b : Nat) (x : EnvCtr) : (s.setEnv b x).cmds = s.cmds := (rfl)
@[simp] theorem State.setEnv_slots (s : State) (b : Nat) (x : EnvCtr) : (s.setEnv b x).slots = s.slots := (rfl)
@[simp] theorem State.setEnv_captures (s : State) (b : Nat) (x : EnvCtr) : (s.setEnv b x).captures = s.captures := (rfl)
@[simp] theorem State.setEnv_grps (s : State) (b : Nat) (x : EnvCtr) : (s.setEnv b x).grps = s.grps := (rfl)
@[simp] theorem State.setEnv_inps (s : State) (b : Nat) (x : EnvCtr) : (s.setEnv b x).inps = s.inps := (rfl)
@[simp] theorem State.setEnv_beams (s : State) (b : Nat) (x : EnvCtr) : (s.setEnv b x).beams = s.beams := (rfl)
@[simp] theorem State.setEnv_plots (s : State) (b : Nat) (x : EnvCtr) : (s.setEnv b x).plots = s.plots := (rfl)
@[simp] theorem State.setEnv_ques (s : State) (b : Nat) (x : EnvCtr) : (s.setEnv b x).ques = s.ques := (rfl)
@[simp] theorem State.setEnv_links (s : State) (b : Nat) (x : EnvCtr) : (s.setEnv b x).links = s.links := (rfl)
@[simp] theorem State.setEnv_out (s : State) (b : Nat) (x : EnvCtr) : (s.setEnv b x).out = s.out := (rfl)
@[simp] theorem State.setEnv_drawn (s : State) (b : Nat) (x : EnvCtr) : (s.setEnv b x).drawn = s.drawn := (rfl)
@[simp] theorem State.setEnv_pending (s : State) (b : Nat) (x : EnvCtr) : (s.setEnv b x).pending = s.pending := (rfl)
@[simp] theorem State.setEnv_rd (s : State) (b : Nat) (x : EnvCtr) (reg : Reg) : (s.setEnv b x).rd reg = s.rd reg := (rfl)
@[simp] theorem State.setEnv_get (s : State) (b : Nat) (x : EnvCtr) (fld : Fld) : (s.setEnv b x).get fld = s.get fld := (rfl)
/-! ## setSend -/
@[simp] theorem State.setSend_regs (s : State) (d : Nat) (x : GazSend) : (s.setSend d x).regs = s.regs := (rfl)
@[simp] theorem State.setSend_force (s : State) (d : Nat) (x : GazSend) : (s.setSend d x).force = s.force := (rfl)
@[simp] theorem State.setSend_aper (s : State) (d : Nat) (x : GazSend) : (s.setSend d x).aper = s.aper := (rfl)
@[simp] theorem State.setSend_tb (s : State) (d : Nat) (x : GazSend) : (s.setSend d x).tb = s.tb := (rfl)
@[simp] theorem State.setSend_router (s : State) (d : Nat) (x : GazSend) : (s.setSend d x).router = s.router := (rfl)
@[simp] theorem State.setSend_windows (s : State) (d : Nat) (x : GazSend) : (s.setSend d x).windows = s.windows := (rfl)
@[simp] theorem State.setSend_log (s : State) (d : Nat) (x : GazSend) : (s.setSend d x).log = s.log := (rfl)
@[simp] theorem State.setSend_funcs (s : State) (d : Nat) (x : GazSend) : (s.setSend d x).funcs = s.funcs := (rfl)
@[simp] theorem State.setSend_vecs (s : State) (d : Nat) (x : GazSend) : (s.setSend d x).vecs = s.vecs := (rfl)
@[simp] theorem State.setSend_staged (s : State) (d : Nat) (x : GazSend) : (s.setSend d x).staged = s.staged := (rfl)
@[simp] theorem State.setSend_tags (s : State) (d : Nat) (x : GazSend) : (s.setSend d x).tags = s.tags := (rfl)
@[simp] theorem State.setSend_crings (s : State) (d : Nat) (x : GazSend) : (s.setSend d x).crings = s.crings := (rfl)
@[simp] theorem State.setSend_quesOn (s : State) (d : Nat) (x : GazSend) : (s.setSend d x).quesOn = s.quesOn := (rfl)
@[simp] theorem State.setSend_cmds (s : State) (d : Nat) (x : GazSend) : (s.setSend d x).cmds = s.cmds := (rfl)
@[simp] theorem State.setSend_slots (s : State) (d : Nat) (x : GazSend) : (s.setSend d x).slots = s.slots := (rfl)
@[simp] theorem State.setSend_captures (s : State) (d : Nat) (x : GazSend) : (s.setSend d x).captures = s.captures := (rfl)
@[simp] theorem State.setSend_grps (s : State) (d : Nat) (x : GazSend) : (s.setSend d x).grps = s.grps := (rfl)
@[simp] theorem State.setSend_inps (s : State) (d : Nat) (x : GazSend) : (s.setSend d x).inps = s.inps := (rfl)
@[simp] theorem State.setSend_beams (s : State) (d : Nat) (x : GazSend) : (s.setSend d x).beams = s.beams := (rfl)
@[simp] theorem State.setSend_plots (s : State) (d : Nat) (x : GazSend) : (s.setSend d x).plots = s.plots := (rfl)
@[simp] theorem State.setSend_ques (s : State) (d : Nat) (x : GazSend) : (s.setSend d x).ques = s.ques := (rfl)
@[simp] theorem State.setSend_links (s : State) (d : Nat) (x : GazSend) : (s.setSend d x).links = s.links := (rfl)
@[simp] theorem State.setSend_out (s : State) (d : Nat) (x : GazSend) : (s.setSend d x).out = s.out := (rfl)
@[simp] theorem State.setSend_drawn (s : State) (d : Nat) (x : GazSend) : (s.setSend d x).drawn = s.drawn := (rfl)
@[simp] theorem State.setSend_pending (s : State) (d : Nat) (x : GazSend) : (s.setSend d x).pending = s.pending := (rfl)
@[simp] theorem State.setSend_rd (s : State) (d : Nat) (x : GazSend) (reg : Reg) : (s.setSend d x).rd reg = s.rd reg := (rfl)
@[simp] theorem State.setSend_get (s : State) (d : Nat) (x : GazSend) (fld : Fld) : (s.setSend d x).get fld = s.get fld := (rfl)
/-! ## setEntry -/
@[simp] theorem State.setEntry_regs (s : State) (e : Nat) (x : Option GazEntry) : (s.setEntry e x).regs = s.regs := (rfl)
@[simp] theorem State.setEntry_force (s : State) (e : Nat) (x : Option GazEntry) : (s.setEntry e x).force = s.force := (rfl)
@[simp] theorem State.setEntry_aper (s : State) (e : Nat) (x : Option GazEntry) : (s.setEntry e x).aper = s.aper := (rfl)
@[simp] theorem State.setEntry_tb (s : State) (e : Nat) (x : Option GazEntry) : (s.setEntry e x).tb = s.tb := (rfl)
@[simp] theorem State.setEntry_router (s : State) (e : Nat) (x : Option GazEntry) : (s.setEntry e x).router = s.router := (rfl)
@[simp] theorem State.setEntry_windows (s : State) (e : Nat) (x : Option GazEntry) : (s.setEntry e x).windows = s.windows := (rfl)
@[simp] theorem State.setEntry_log (s : State) (e : Nat) (x : Option GazEntry) : (s.setEntry e x).log = s.log := (rfl)
@[simp] theorem State.setEntry_funcs (s : State) (e : Nat) (x : Option GazEntry) : (s.setEntry e x).funcs = s.funcs := (rfl)
@[simp] theorem State.setEntry_vecs (s : State) (e : Nat) (x : Option GazEntry) : (s.setEntry e x).vecs = s.vecs := (rfl)
@[simp] theorem State.setEntry_staged (s : State) (e : Nat) (x : Option GazEntry) : (s.setEntry e x).staged = s.staged := (rfl)
@[simp] theorem State.setEntry_tags (s : State) (e : Nat) (x : Option GazEntry) : (s.setEntry e x).tags = s.tags := (rfl)
@[simp] theorem State.setEntry_crings (s : State) (e : Nat) (x : Option GazEntry) : (s.setEntry e x).crings = s.crings := (rfl)
@[simp] theorem State.setEntry_quesOn (s : State) (e : Nat) (x : Option GazEntry) : (s.setEntry e x).quesOn = s.quesOn := (rfl)
@[simp] theorem State.setEntry_cmds (s : State) (e : Nat) (x : Option GazEntry) : (s.setEntry e x).cmds = s.cmds := (rfl)
@[simp] theorem State.setEntry_slots (s : State) (e : Nat) (x : Option GazEntry) : (s.setEntry e x).slots = s.slots := (rfl)
@[simp] theorem State.setEntry_captures (s : State) (e : Nat) (x : Option GazEntry) : (s.setEntry e x).captures = s.captures := (rfl)
@[simp] theorem State.setEntry_grps (s : State) (e : Nat) (x : Option GazEntry) : (s.setEntry e x).grps = s.grps := (rfl)
@[simp] theorem State.setEntry_inps (s : State) (e : Nat) (x : Option GazEntry) : (s.setEntry e x).inps = s.inps := (rfl)
@[simp] theorem State.setEntry_beams (s : State) (e : Nat) (x : Option GazEntry) : (s.setEntry e x).beams = s.beams := (rfl)
@[simp] theorem State.setEntry_plots (s : State) (e : Nat) (x : Option GazEntry) : (s.setEntry e x).plots = s.plots := (rfl)
@[simp] theorem State.setEntry_ques (s : State) (e : Nat) (x : Option GazEntry) : (s.setEntry e x).ques = s.ques := (rfl)
@[simp] theorem State.setEntry_links (s : State) (e : Nat) (x : Option GazEntry) : (s.setEntry e x).links = s.links := (rfl)
@[simp] theorem State.setEntry_out (s : State) (e : Nat) (x : Option GazEntry) : (s.setEntry e x).out = s.out := (rfl)
@[simp] theorem State.setEntry_drawn (s : State) (e : Nat) (x : Option GazEntry) : (s.setEntry e x).drawn = s.drawn := (rfl)
@[simp] theorem State.setEntry_pending (s : State) (e : Nat) (x : Option GazEntry) : (s.setEntry e x).pending = s.pending := (rfl)
@[simp] theorem State.setEntry_rd (s : State) (e : Nat) (x : Option GazEntry) (reg : Reg) : (s.setEntry e x).rd reg = s.rd reg := (rfl)
@[simp] theorem State.setEntry_get (s : State) (e : Nat) (x : Option GazEntry) (fld : Fld) : (s.setEntry e x).get fld = s.get fld := (rfl)
/-! ## setPcv -/
@[simp] theorem State.setPcv_regs (s : State) (p : Nat) (x : Pcv) : (s.setPcv p x).regs = s.regs := (rfl)
@[simp] theorem State.setPcv_force (s : State) (p : Nat) (x : Pcv) : (s.setPcv p x).force = s.force := (rfl)
@[simp] theorem State.setPcv_aper (s : State) (p : Nat) (x : Pcv) : (s.setPcv p x).aper = s.aper := (rfl)
@[simp] theorem State.setPcv_tb (s : State) (p : Nat) (x : Pcv) : (s.setPcv p x).tb = s.tb := (rfl)
@[simp] theorem State.setPcv_router (s : State) (p : Nat) (x : Pcv) : (s.setPcv p x).router = s.router := (rfl)
@[simp] theorem State.setPcv_windows (s : State) (p : Nat) (x : Pcv) : (s.setPcv p x).windows = s.windows := (rfl)
@[simp] theorem State.setPcv_log (s : State) (p : Nat) (x : Pcv) : (s.setPcv p x).log = s.log := (rfl)
@[simp] theorem State.setPcv_funcs (s : State) (p : Nat) (x : Pcv) : (s.setPcv p x).funcs = s.funcs := (rfl)
@[simp] theorem State.setPcv_vecs (s : State) (p : Nat) (x : Pcv) : (s.setPcv p x).vecs = s.vecs := (rfl)
@[simp] theorem State.setPcv_staged (s : State) (p : Nat) (x : Pcv) : (s.setPcv p x).staged = s.staged := (rfl)
@[simp] theorem State.setPcv_tags (s : State) (p : Nat) (x : Pcv) : (s.setPcv p x).tags = s.tags := (rfl)
@[simp] theorem State.setPcv_crings (s : State) (p : Nat) (x : Pcv) : (s.setPcv p x).crings = s.crings := (rfl)
@[simp] theorem State.setPcv_quesOn (s : State) (p : Nat) (x : Pcv) : (s.setPcv p x).quesOn = s.quesOn := (rfl)
@[simp] theorem State.setPcv_cmds (s : State) (p : Nat) (x : Pcv) : (s.setPcv p x).cmds = s.cmds := (rfl)
@[simp] theorem State.setPcv_slots (s : State) (p : Nat) (x : Pcv) : (s.setPcv p x).slots = s.slots := (rfl)
@[simp] theorem State.setPcv_captures (s : State) (p : Nat) (x : Pcv) : (s.setPcv p x).captures = s.captures := (rfl)
@[simp] theorem State.setPcv_grps (s : State) (p : Nat) (x : Pcv) : (s.setPcv p x).grps = s.grps := (rfl)
@[simp] theorem State.setPcv_inps (s : State) (p : Nat) (x : Pcv) : (s.setPcv p x).inps = s.inps := (rfl)
@[simp] theorem State.setPcv_beams (s : State) (p : Nat) (x : Pcv) : (s.setPcv p x).beams = s.beams := (rfl)
@[simp] theorem State.setPcv_plots (s : State) (p : Nat) (x : Pcv) : (s.setPcv p x).plots = s.plots := (rfl)
@[simp] theorem State.setPcv_ques (s : State) (p : Nat) (x : Pcv) : (s.setPcv p x).ques = s.ques := (rfl)
@[simp] theorem State.setPcv_links (s : State) (p : Nat) (x : Pcv) : (s.setPcv p x).links = s.links := (rfl)
@[simp] theorem State.setPcv_out (s : State) (p : Nat) (x : Pcv) : (s.setPcv p x).out = s.out := (rfl)
@[simp] theorem State.setPcv_drawn (s : State) (p : Nat) (x : Pcv) : (s.setPcv p x).drawn = s.drawn := (rfl)
@[simp] theorem State.setPcv_pending (s : State) (p : Nat) (x : Pcv) : (s.setPcv p x).pending = s.pending := (rfl)
@[simp] theorem State.setPcv_rd (s : State) (p : Nat) (x : Pcv) (reg : Reg) : (s.setPcv p x).rd reg = s.rd reg := (rfl)
@[simp] theorem State.setPcv_get (s : State) (p : Nat) (x : Pcv) (fld : Fld) : (s.setPcv p x).get fld = s.get fld := (rfl)
/-! ## setSfeCh -/
@[simp] theorem State.setSfeCh_regs (s : State) (c : Nat) (x : SfeCh) : (s.setSfeCh c x).regs = s.regs := (rfl)
@[simp] theorem State.setSfeCh_force (s : State) (c : Nat) (x : SfeCh) : (s.setSfeCh c x).force = s.force := (rfl)
@[simp] theorem State.setSfeCh_aper (s : State) (c : Nat) (x : SfeCh) : (s.setSfeCh c x).aper = s.aper := (rfl)
@[simp] theorem State.setSfeCh_tb (s : State) (c : Nat) (x : SfeCh) : (s.setSfeCh c x).tb = s.tb := (rfl)
@[simp] theorem State.setSfeCh_router (s : State) (c : Nat) (x : SfeCh) : (s.setSfeCh c x).router = s.router := (rfl)
@[simp] theorem State.setSfeCh_windows (s : State) (c : Nat) (x : SfeCh) : (s.setSfeCh c x).windows = s.windows := (rfl)
@[simp] theorem State.setSfeCh_log (s : State) (c : Nat) (x : SfeCh) : (s.setSfeCh c x).log = s.log := (rfl)
@[simp] theorem State.setSfeCh_funcs (s : State) (c : Nat) (x : SfeCh) : (s.setSfeCh c x).funcs = s.funcs := (rfl)
@[simp] theorem State.setSfeCh_vecs (s : State) (c : Nat) (x : SfeCh) : (s.setSfeCh c x).vecs = s.vecs := (rfl)
@[simp] theorem State.setSfeCh_staged (s : State) (c : Nat) (x : SfeCh) : (s.setSfeCh c x).staged = s.staged := (rfl)
@[simp] theorem State.setSfeCh_tags (s : State) (c : Nat) (x : SfeCh) : (s.setSfeCh c x).tags = s.tags := (rfl)
@[simp] theorem State.setSfeCh_crings (s : State) (c : Nat) (x : SfeCh) : (s.setSfeCh c x).crings = s.crings := (rfl)
@[simp] theorem State.setSfeCh_quesOn (s : State) (c : Nat) (x : SfeCh) : (s.setSfeCh c x).quesOn = s.quesOn := (rfl)
@[simp] theorem State.setSfeCh_cmds (s : State) (c : Nat) (x : SfeCh) : (s.setSfeCh c x).cmds = s.cmds := (rfl)
@[simp] theorem State.setSfeCh_slots (s : State) (c : Nat) (x : SfeCh) : (s.setSfeCh c x).slots = s.slots := (rfl)
@[simp] theorem State.setSfeCh_captures (s : State) (c : Nat) (x : SfeCh) : (s.setSfeCh c x).captures = s.captures := (rfl)
@[simp] theorem State.setSfeCh_grps (s : State) (c : Nat) (x : SfeCh) : (s.setSfeCh c x).grps = s.grps := (rfl)
@[simp] theorem State.setSfeCh_inps (s : State) (c : Nat) (x : SfeCh) : (s.setSfeCh c x).inps = s.inps := (rfl)
@[simp] theorem State.setSfeCh_beams (s : State) (c : Nat) (x : SfeCh) : (s.setSfeCh c x).beams = s.beams := (rfl)
@[simp] theorem State.setSfeCh_plots (s : State) (c : Nat) (x : SfeCh) : (s.setSfeCh c x).plots = s.plots := (rfl)
@[simp] theorem State.setSfeCh_ques (s : State) (c : Nat) (x : SfeCh) : (s.setSfeCh c x).ques = s.ques := (rfl)
@[simp] theorem State.setSfeCh_links (s : State) (c : Nat) (x : SfeCh) : (s.setSfeCh c x).links = s.links := (rfl)
@[simp] theorem State.setSfeCh_out (s : State) (c : Nat) (x : SfeCh) : (s.setSfeCh c x).out = s.out := (rfl)
@[simp] theorem State.setSfeCh_drawn (s : State) (c : Nat) (x : SfeCh) : (s.setSfeCh c x).drawn = s.drawn := (rfl)
@[simp] theorem State.setSfeCh_pending (s : State) (c : Nat) (x : SfeCh) : (s.setSfeCh c x).pending = s.pending := (rfl)
@[simp] theorem State.setSfeCh_rd (s : State) (c : Nat) (x : SfeCh) (reg : Reg) : (s.setSfeCh c x).rd reg = s.rd reg := (rfl)
@[simp] theorem State.setSfeCh_get (s : State) (c : Nat) (x : SfeCh) (fld : Fld) : (s.setSfeCh c x).get fld = s.get fld := (rfl)
/-! ## setExc -/
@[simp] theorem State.setExc_regs (s : State) (q : Nat) (x : Exc) : (s.setExc q x).regs = s.regs := (rfl)
@[simp] theorem State.setExc_force (s : State) (q : Nat) (x : Exc) : (s.setExc q x).force = s.force := (rfl)
@[simp] theorem State.setExc_aper (s : State) (q : Nat) (x : Exc) : (s.setExc q x).aper = s.aper := (rfl)
@[simp] theorem State.setExc_tb (s : State) (q : Nat) (x : Exc) : (s.setExc q x).tb = s.tb := (rfl)
@[simp] theorem State.setExc_router (s : State) (q : Nat) (x : Exc) : (s.setExc q x).router = s.router := (rfl)
@[simp] theorem State.setExc_windows (s : State) (q : Nat) (x : Exc) : (s.setExc q x).windows = s.windows := (rfl)
@[simp] theorem State.setExc_log (s : State) (q : Nat) (x : Exc) : (s.setExc q x).log = s.log := (rfl)
@[simp] theorem State.setExc_funcs (s : State) (q : Nat) (x : Exc) : (s.setExc q x).funcs = s.funcs := (rfl)
@[simp] theorem State.setExc_vecs (s : State) (q : Nat) (x : Exc) : (s.setExc q x).vecs = s.vecs := (rfl)
@[simp] theorem State.setExc_staged (s : State) (q : Nat) (x : Exc) : (s.setExc q x).staged = s.staged := (rfl)
@[simp] theorem State.setExc_tags (s : State) (q : Nat) (x : Exc) : (s.setExc q x).tags = s.tags := (rfl)
@[simp] theorem State.setExc_crings (s : State) (q : Nat) (x : Exc) : (s.setExc q x).crings = s.crings := (rfl)
@[simp] theorem State.setExc_quesOn (s : State) (q : Nat) (x : Exc) : (s.setExc q x).quesOn = s.quesOn := (rfl)
@[simp] theorem State.setExc_cmds (s : State) (q : Nat) (x : Exc) : (s.setExc q x).cmds = s.cmds := (rfl)
@[simp] theorem State.setExc_slots (s : State) (q : Nat) (x : Exc) : (s.setExc q x).slots = s.slots := (rfl)
@[simp] theorem State.setExc_captures (s : State) (q : Nat) (x : Exc) : (s.setExc q x).captures = s.captures := (rfl)
@[simp] theorem State.setExc_grps (s : State) (q : Nat) (x : Exc) : (s.setExc q x).grps = s.grps := (rfl)
@[simp] theorem State.setExc_inps (s : State) (q : Nat) (x : Exc) : (s.setExc q x).inps = s.inps := (rfl)
@[simp] theorem State.setExc_beams (s : State) (q : Nat) (x : Exc) : (s.setExc q x).beams = s.beams := (rfl)
@[simp] theorem State.setExc_plots (s : State) (q : Nat) (x : Exc) : (s.setExc q x).plots = s.plots := (rfl)
@[simp] theorem State.setExc_ques (s : State) (q : Nat) (x : Exc) : (s.setExc q x).ques = s.ques := (rfl)
@[simp] theorem State.setExc_links (s : State) (q : Nat) (x : Exc) : (s.setExc q x).links = s.links := (rfl)
@[simp] theorem State.setExc_out (s : State) (q : Nat) (x : Exc) : (s.setExc q x).out = s.out := (rfl)
@[simp] theorem State.setExc_drawn (s : State) (q : Nat) (x : Exc) : (s.setExc q x).drawn = s.drawn := (rfl)
@[simp] theorem State.setExc_pending (s : State) (q : Nat) (x : Exc) : (s.setExc q x).pending = s.pending := (rfl)
@[simp] theorem State.setExc_rd (s : State) (q : Nat) (x : Exc) (reg : Reg) : (s.setExc q x).rd reg = s.rd reg := (rfl)
@[simp] theorem State.setExc_get (s : State) (q : Nat) (x : Exc) (fld : Fld) : (s.setExc q x).get fld = s.get fld := (rfl)
/-! ## setSlot -/
@[simp] theorem State.setSlot_regs (s : State) (n : Nat) (x : Slot) : (s.setSlot n x).regs = s.regs := (rfl)
@[simp] theorem State.setSlot_force (s : State) (n : Nat) (x : Slot) : (s.setSlot n x).force = s.force := (rfl)
@[simp] theorem State.setSlot_aper (s : State) (n : Nat) (x : Slot) : (s.setSlot n x).aper = s.aper := (rfl)
@[simp] theorem State.setSlot_tb (s : State) (n : Nat) (x : Slot) : (s.setSlot n x).tb = s.tb := (rfl)
@[simp] theorem State.setSlot_router (s : State) (n : Nat) (x : Slot) : (s.setSlot n x).router = s.router := (rfl)
@[simp] theorem State.setSlot_windows (s : State) (n : Nat) (x : Slot) : (s.setSlot n x).windows = s.windows := (rfl)
@[simp] theorem State.setSlot_log (s : State) (n : Nat) (x : Slot) : (s.setSlot n x).log = s.log := (rfl)
@[simp] theorem State.setSlot_funcs (s : State) (n : Nat) (x : Slot) : (s.setSlot n x).funcs = s.funcs := (rfl)
@[simp] theorem State.setSlot_vecs (s : State) (n : Nat) (x : Slot) : (s.setSlot n x).vecs = s.vecs := (rfl)
@[simp] theorem State.setSlot_staged (s : State) (n : Nat) (x : Slot) : (s.setSlot n x).staged = s.staged := (rfl)
@[simp] theorem State.setSlot_tags (s : State) (n : Nat) (x : Slot) : (s.setSlot n x).tags = s.tags := (rfl)
@[simp] theorem State.setSlot_crings (s : State) (n : Nat) (x : Slot) : (s.setSlot n x).crings = s.crings := (rfl)
@[simp] theorem State.setSlot_quesOn (s : State) (n : Nat) (x : Slot) : (s.setSlot n x).quesOn = s.quesOn := (rfl)
@[simp] theorem State.setSlot_cmds (s : State) (n : Nat) (x : Slot) : (s.setSlot n x).cmds = s.cmds := (rfl)
@[simp] theorem State.setSlot_captures (s : State) (n : Nat) (x : Slot) : (s.setSlot n x).captures = s.captures := (rfl)
@[simp] theorem State.setSlot_grps (s : State) (n : Nat) (x : Slot) : (s.setSlot n x).grps = s.grps := (rfl)
@[simp] theorem State.setSlot_inps (s : State) (n : Nat) (x : Slot) : (s.setSlot n x).inps = s.inps := (rfl)
@[simp] theorem State.setSlot_beams (s : State) (n : Nat) (x : Slot) : (s.setSlot n x).beams = s.beams := (rfl)
@[simp] theorem State.setSlot_plots (s : State) (n : Nat) (x : Slot) : (s.setSlot n x).plots = s.plots := (rfl)
@[simp] theorem State.setSlot_ques (s : State) (n : Nat) (x : Slot) : (s.setSlot n x).ques = s.ques := (rfl)
@[simp] theorem State.setSlot_links (s : State) (n : Nat) (x : Slot) : (s.setSlot n x).links = s.links := (rfl)
@[simp] theorem State.setSlot_out (s : State) (n : Nat) (x : Slot) : (s.setSlot n x).out = s.out := (rfl)
@[simp] theorem State.setSlot_drawn (s : State) (n : Nat) (x : Slot) : (s.setSlot n x).drawn = s.drawn := (rfl)
@[simp] theorem State.setSlot_pending (s : State) (n : Nat) (x : Slot) : (s.setSlot n x).pending = s.pending := (rfl)
@[simp] theorem State.setSlot_rd (s : State) (n : Nat) (x : Slot) (reg : Reg) : (s.setSlot n x).rd reg = s.rd reg := (rfl)
@[simp] theorem State.setSlot_get (s : State) (n : Nat) (x : Slot) (fld : Fld) : (s.setSlot n x).get fld = s.get fld := (rfl)
/-! ## setPlot -/
@[simp] theorem State.setPlot_regs (s : State) (i : Nat) (x : Plot) : (s.setPlot i x).regs = s.regs := (rfl)
@[simp] theorem State.setPlot_force (s : State) (i : Nat) (x : Plot) : (s.setPlot i x).force = s.force := (rfl)
@[simp] theorem State.setPlot_aper (s : State) (i : Nat) (x : Plot) : (s.setPlot i x).aper = s.aper := (rfl)
@[simp] theorem State.setPlot_tb (s : State) (i : Nat) (x : Plot) : (s.setPlot i x).tb = s.tb := (rfl)
@[simp] theorem State.setPlot_router (s : State) (i : Nat) (x : Plot) : (s.setPlot i x).router = s.router := (rfl)
@[simp] theorem State.setPlot_windows (s : State) (i : Nat) (x : Plot) : (s.setPlot i x).windows = s.windows := (rfl)
@[simp] theorem State.setPlot_log (s : State) (i : Nat) (x : Plot) : (s.setPlot i x).log = s.log := (rfl)
@[simp] theorem State.setPlot_funcs (s : State) (i : Nat) (x : Plot) : (s.setPlot i x).funcs = s.funcs := (rfl)
@[simp] theorem State.setPlot_vecs (s : State) (i : Nat) (x : Plot) : (s.setPlot i x).vecs = s.vecs := (rfl)
@[simp] theorem State.setPlot_staged (s : State) (i : Nat) (x : Plot) : (s.setPlot i x).staged = s.staged := (rfl)
@[simp] theorem State.setPlot_tags (s : State) (i : Nat) (x : Plot) : (s.setPlot i x).tags = s.tags := (rfl)
@[simp] theorem State.setPlot_crings (s : State) (i : Nat) (x : Plot) : (s.setPlot i x).crings = s.crings := (rfl)
@[simp] theorem State.setPlot_quesOn (s : State) (i : Nat) (x : Plot) : (s.setPlot i x).quesOn = s.quesOn := (rfl)
@[simp] theorem State.setPlot_cmds (s : State) (i : Nat) (x : Plot) : (s.setPlot i x).cmds = s.cmds := (rfl)
@[simp] theorem State.setPlot_slots (s : State) (i : Nat) (x : Plot) : (s.setPlot i x).slots = s.slots := (rfl)
@[simp] theorem State.setPlot_captures (s : State) (i : Nat) (x : Plot) : (s.setPlot i x).captures = s.captures := (rfl)
@[simp] theorem State.setPlot_grps (s : State) (i : Nat) (x : Plot) : (s.setPlot i x).grps = s.grps := (rfl)
@[simp] theorem State.setPlot_inps (s : State) (i : Nat) (x : Plot) : (s.setPlot i x).inps = s.inps := (rfl)
@[simp] theorem State.setPlot_beams (s : State) (i : Nat) (x : Plot) : (s.setPlot i x).beams = s.beams := (rfl)
@[simp] theorem State.setPlot_ques (s : State) (i : Nat) (x : Plot) : (s.setPlot i x).ques = s.ques := (rfl)
@[simp] theorem State.setPlot_links (s : State) (i : Nat) (x : Plot) : (s.setPlot i x).links = s.links := (rfl)
@[simp] theorem State.setPlot_out (s : State) (i : Nat) (x : Plot) : (s.setPlot i x).out = s.out := (rfl)
@[simp] theorem State.setPlot_drawn (s : State) (i : Nat) (x : Plot) : (s.setPlot i x).drawn = s.drawn := (rfl)
@[simp] theorem State.setPlot_pending (s : State) (i : Nat) (x : Plot) : (s.setPlot i x).pending = s.pending := (rfl)
@[simp] theorem State.setPlot_rd (s : State) (i : Nat) (x : Plot) (reg : Reg) : (s.setPlot i x).rd reg = s.rd reg := (rfl)
@[simp] theorem State.setPlot_get (s : State) (i : Nat) (x : Plot) (fld : Fld) : (s.setPlot i x).get fld = s.get fld := (rfl)
/-! ## setQue -/
@[simp] theorem State.setQue_regs (s : State) (q : Nat) (x : Que) : (s.setQue q x).regs = s.regs := (rfl)
@[simp] theorem State.setQue_force (s : State) (q : Nat) (x : Que) : (s.setQue q x).force = s.force := (rfl)
@[simp] theorem State.setQue_aper (s : State) (q : Nat) (x : Que) : (s.setQue q x).aper = s.aper := (rfl)
@[simp] theorem State.setQue_tb (s : State) (q : Nat) (x : Que) : (s.setQue q x).tb = s.tb := (rfl)
@[simp] theorem State.setQue_router (s : State) (q : Nat) (x : Que) : (s.setQue q x).router = s.router := (rfl)
@[simp] theorem State.setQue_windows (s : State) (q : Nat) (x : Que) : (s.setQue q x).windows = s.windows := (rfl)
@[simp] theorem State.setQue_log (s : State) (q : Nat) (x : Que) : (s.setQue q x).log = s.log := (rfl)
@[simp] theorem State.setQue_funcs (s : State) (q : Nat) (x : Que) : (s.setQue q x).funcs = s.funcs := (rfl)
@[simp] theorem State.setQue_vecs (s : State) (q : Nat) (x : Que) : (s.setQue q x).vecs = s.vecs := (rfl)
@[simp] theorem State.setQue_staged (s : State) (q : Nat) (x : Que) : (s.setQue q x).staged = s.staged := (rfl)
@[simp] theorem State.setQue_tags (s : State) (q : Nat) (x : Que) : (s.setQue q x).tags = s.tags := (rfl)
@[simp] theorem State.setQue_crings (s : State) (q : Nat) (x : Que) : (s.setQue q x).crings = s.crings := (rfl)
@[simp] theorem State.setQue_quesOn (s : State) (q : Nat) (x : Que) : (s.setQue q x).quesOn = s.quesOn := (rfl)
@[simp] theorem State.setQue_cmds (s : State) (q : Nat) (x : Que) : (s.setQue q x).cmds = s.cmds := (rfl)
@[simp] theorem State.setQue_slots (s : State) (q : Nat) (x : Que) : (s.setQue q x).slots = s.slots := (rfl)
@[simp] theorem State.setQue_captures (s : State) (q : Nat) (x : Que) : (s.setQue q x).captures = s.captures := (rfl)
@[simp] theorem State.setQue_grps (s : State) (q : Nat) (x : Que) : (s.setQue q x).grps = s.grps := (rfl)
@[simp] theorem State.setQue_inps (s : State) (q : Nat) (x : Que) : (s.setQue q x).inps = s.inps := (rfl)
@[simp] theorem State.setQue_beams (s : State) (q : Nat) (x : Que) : (s.setQue q x).beams = s.beams := (rfl)
@[simp] theorem State.setQue_plots (s : State) (q : Nat) (x : Que) : (s.setQue q x).plots = s.plots := (rfl)
@[simp] theorem State.setQue_links (s : State) (q : Nat) (x : Que) : (s.setQue q x).links = s.links := (rfl)
@[simp] theorem State.setQue_out (s : State) (q : Nat) (x : Que) : (s.setQue q x).out = s.out := (rfl)
@[simp] theorem State.setQue_drawn (s : State) (q : Nat) (x : Que) : (s.setQue q x).drawn = s.drawn := (rfl)
@[simp] theorem State.setQue_pending (s : State) (q : Nat) (x : Que) : (s.setQue q x).pending = s.pending := (rfl)
@[simp] theorem State.setQue_rd (s : State) (q : Nat) (x : Que) (reg : Reg) : (s.setQue q x).rd reg = s.rd reg := (rfl)
@[simp] theorem State.setQue_get (s : State) (q : Nat) (x : Que) (fld : Fld) : (s.setQue q x).get fld = s.get fld := (rfl)
/-! ## setTrg -/
@[simp] theorem State.setTrg_regs (s : State) (t : Nat) (x : TrgOut) : (s.setTrg t x).regs = s.regs := (rfl)
@[simp] theorem State.setTrg_force (s : State) (t : Nat) (x : TrgOut) : (s.setTrg t x).force = s.force := (rfl)
@[simp] theorem State.setTrg_aper (s : State) (t : Nat) (x : TrgOut) : (s.setTrg t x).aper = s.aper := (rfl)
@[simp] theorem State.setTrg_tb (s : State) (t : Nat) (x : TrgOut) : (s.setTrg t x).tb = s.tb := (rfl)
@[simp] theorem State.setTrg_router (s : State) (t : Nat) (x : TrgOut) : (s.setTrg t x).router = s.router := (rfl)
@[simp] theorem State.setTrg_windows (s : State) (t : Nat) (x : TrgOut) : (s.setTrg t x).windows = s.windows := (rfl)
@[simp] theorem State.setTrg_log (s : State) (t : Nat) (x : TrgOut) : (s.setTrg t x).log = s.log := (rfl)
@[simp] theorem State.setTrg_funcs (s : State) (t : Nat) (x : TrgOut) : (s.setTrg t x).funcs = s.funcs := (rfl)
@[simp] theorem State.setTrg_vecs (s : State) (t : Nat) (x : TrgOut) : (s.setTrg t x).vecs = s.vecs := (rfl)
@[simp] theorem State.setTrg_staged (s : State) (t : Nat) (x : TrgOut) : (s.setTrg t x).staged = s.staged := (rfl)
@[simp] theorem State.setTrg_tags (s : State) (t : Nat) (x : TrgOut) : (s.setTrg t x).tags = s.tags := (rfl)
@[simp] theorem State.setTrg_crings (s : State) (t : Nat) (x : TrgOut) : (s.setTrg t x).crings = s.crings := (rfl)
@[simp] theorem State.setTrg_quesOn (s : State) (t : Nat) (x : TrgOut) : (s.setTrg t x).quesOn = s.quesOn := (rfl)
@[simp] theorem State.setTrg_cmds (s : State) (t : Nat) (x : TrgOut) : (s.setTrg t x).cmds = s.cmds := (rfl)
@[simp] theorem State.setTrg_slots (s : State) (t : Nat) (x : TrgOut) : (s.setTrg t x).slots = s.slots := (rfl)
@[simp] theorem State.setTrg_captures (s : State) (t : Nat) (x : TrgOut) : (s.setTrg t x).captures = s.captures := (rfl)
@[simp] theorem State.setTrg_grps (s : State) (t : Nat) (x : TrgOut) : (s.setTrg t x).grps = s.grps := (rfl)
@[simp] theorem State.setTrg_inps (s : State) (t : Nat) (x : TrgOut) : (s.setTrg t x).inps = s.inps := (rfl)
@[simp] theorem State.setTrg_beams (s : State) (t : Nat) (x : TrgOut) : (s.setTrg t x).beams = s.beams := (rfl)
@[simp] theorem State.setTrg_plots (s : State) (t : Nat) (x : TrgOut) : (s.setTrg t x).plots = s.plots := (rfl)
@[simp] theorem State.setTrg_ques (s : State) (t : Nat) (x : TrgOut) : (s.setTrg t x).ques = s.ques := (rfl)
@[simp] theorem State.setTrg_links (s : State) (t : Nat) (x : TrgOut) : (s.setTrg t x).links = s.links := (rfl)
@[simp] theorem State.setTrg_out (s : State) (t : Nat) (x : TrgOut) : (s.setTrg t x).out = s.out := (rfl)
@[simp] theorem State.setTrg_drawn (s : State) (t : Nat) (x : TrgOut) : (s.setTrg t x).drawn = s.drawn := (rfl)
@[simp] theorem State.setTrg_pending (s : State) (t : Nat) (x : TrgOut) : (s.setTrg t x).pending = s.pending := (rfl)
@[simp] theorem State.setTrg_rd (s : State) (t : Nat) (x : TrgOut) (reg : Reg) : (s.setTrg t x).rd reg = s.rd reg := (rfl)
@[simp] theorem State.setTrg_get (s : State) (t : Nat) (x : TrgOut) (fld : Fld) : (s.setTrg t x).get fld = s.get fld := (rfl)

end Sys2Proof.Machine
end

