-- ==== Sys2Proof/Laws/Facts.lean ====
section
/-! SUPPORT. Small facts of shared operations: merges, the time base, the state of the discipline. -/
set_option maxRecDepth 10000
namespace Sys2Proof.Machine

theorem State.flush_none {s : State} {fn : Nat} (h : (s.func fn).held = none) : s.flushHeld fn = s := by
  simp [State.flushHeld, h]

theorem wn_rd {s : State} {r q : Reg} {n : Nat} (h : q.key ≠ r.key) : (s.wn r n).rd q = s.rd q := rd_wr_ne s h _

theorem get_of_rd {s t : State} {f : Fld} (h : t.rd f.reg = s.rd f.reg) : t.get f = s.get f := by unfold State.get; rw [h]

theorem rn_of_rd {s t : State} {r : Reg} (h : t.rd r = s.rd r) : t.rn r = s.rn r := by unfold State.rn; rw [h]

/-- A merge leaves every register alone but its own and those of ACCESS_VALUE. -/
theorem mergeRaw_rd {s : State} {k : Nat} {w : Wr} {q : Reg} (h : q.key ≠ k) (h1 : q.key ∉ raiseKeys evSYS_ACCESS_VALUE.src)
    (h2 : q.key ∉ raiseKeys evLOG_STAGE_REFUSED.src) (h3 : q.key ∉ raiseKeys evSYS_POST_LOST.src) : (s.mergeRaw k w).rd q = s.rd q := by
  unfold State.mergeRaw
  split
  · rfl
  · dsimp only
    split
    · rw [raise_rd h1 h2 h3, wn_rd h]
    · rw [wn_rd h]

theorem mergeRaw_tb (s : State) (k : Nat) (w : Wr) : (s.mergeRaw k w).tb = s.tb :=
  (State.mergeRaw_keeps (Keeps.refl (compMask eventComps) s) rfl k w).tb rfl

theorem elapsed_zero (r sl : Int) : elapsed 0 r sl = 0 := by simp [elapsed, divRound]

/-- Re-anchoring leaves the present time as it is (R51). -/
theorem reanchor_mt (t : TimeBase) : (t.reanchor).mtAt t.fc = t.mtAt t.fc := by
  simp [TimeBase.reanchor, TimeBase.mtAt, elapsed_zero]

theorem followRate_tb (s : State) (o : TimeBase) : (s.followRate o).tb = s.tb :=
  (State.followRate_keeps (Keeps.refl 316912650057057350649062099425 s) rfl o).tb rfl

/-! ## The time base's registers, which following the grid rate on the converters leaves alone (R202) -/

/-- A register of the time base block. -/
abbrev Reg.OfTb (q : Reg) : Prop := 0x30000 ≤ q.key ∧ q.key < 0x31000

/-- Raising any event leaves the time base's registers alone. -/
theorem raise_ofTb {q : Reg} (h : q.OfTb) (s : State) (e : EvId) (inst : Nat) (det : List Detail) (bor : Nat) (pol mand nolog : Bool) :
    (s.raise e inst det bor pol mand nolog).rd q = s.rd q := by
  have k : ∀ n, q.key ∉ raiseKeys n := by
    intro n; simp [raiseKeys, EVT_CNT, EVT_PEND, EVT_QLOST, SYS_PQ_LOST, LOG_REFUSED, SYS_PQ_STAT]; omega
  exact raise_rd (k _) (k _) (k _) inst det bor pol mand nolog

theorem rangeLeft_ofTb {q : Reg} (h : q.OfTb) (s : State) (n : Nat) : (s.rangeLeft n).rd q = s.rd q := by
  have k : q.key ≠ (CHP_RSM_STAT n).key := by show q.key ≠ 0x8000a4 + 1024 * n; omega
  unfold State.rangeLeft; dsimp only; split
  · rfl
  · rw [raise_ofTb h, put_rd k, put_rd k]; rfl

theorem slotFollow_ofTb {q : Reg} (h : q.OfTb) (s : State) (g n : Nat) : (s.slotFollow g n).rd q = s.rd q := by
  have k : q.key ≠ (CHP_RSM_STAT n).key := by show q.key ≠ 0x8000a4 + 1024 * n; omega
  have k1 : q.key ≠ (CHP_RSM_STEP_LO n).key := by show q.key ≠ 0x8000a8 + 1024 * n; omega
  have k2 : q.key ≠ (CHP_RSM_STEP_HI n).key := by show q.key ≠ 0x8000ac + 1024 * n; omega
  unfold State.slotFollow; dsimp only
  repeat' split
  · rfl
  · exact rangeLeft_ofTb h s n
  · rfl
  · unfold State.setStep; rw [wn_rd k2, wn_rd k1, put_rd k]; rfl
  all_goals exact put_rd k

theorem slotsFollow_ofTb {q : Reg} (h : q.OfTb) (s : State) (g : Nat) : (s.slotsFollow g).rd q = s.rd q := by
  unfold State.slotsFollow
  generalize s.slots = l
  induction l generalizing s with
  | nil => rfl
  | cons a l ih => rw [List.foldl_cons, ih]; split; exact slotFollow_ofTb h _ _ _; rfl

theorem putTrack_ofTb {q : Reg} (h : q.OfTb) (s : State) (g : Nat) (e : Estimator) (tr : Nat) : (s.putTrack g e tr).rd q = s.rd q := by
  have k : q.key ≠ (trkSt g).key := by show q.key ≠ 0x200114 + 0x10000 * (g / 3) + 64 * (g % 3); omega
  have k1 : q.key ≠ (CNV_GRP_FS_LO (g / 3) (g % 3)).key := by show q.key ≠ 0x200118 + 0x10000 * (g / 3) + 64 * (g % 3); omega
  have k2 : q.key ≠ (CNV_GRP_FS_HI (g / 3) (g % 3)).key := by show q.key ≠ 0x20011c + 0x10000 * (g / 3) + 64 * (g % 3); omega
  have p : ∀ (x : State) hi lo v, (x.setSub (trkSt g) hi lo v).rd q = x.rd q := fun x hi lo v => put_rd k
  have w : ∀ (x : State) v, (x.wr64 (CNV_GRP_FS_LO (g / 3) (g % 3)) (CNV_GRP_FS_HI (g / 3) (g % 3)) v).rd q = x.rd q := by
    intro x v; unfold State.wr64; rw [wn_rd k2, wn_rd k1]
  unfold State.putTrack; dsimp only
  rw [slotsFollow_ofTb h]
  repeat' split
  all_goals simp only [raise_ofTb h, p, w]
  all_goals rfl

theorem followGroup_ofTb {q : Reg} (h : q.OfTb) (s : State) (g : Nat) : (s.followGroup g).rd q = s.rd q := by
  unfold State.followGroup; dsimp only; split
  · rw [putTrack_ofTb h, slotsFollow_ofTb h]
  · exact slotsFollow_ofTb h s g

/-- Following the grid rate on every group's estimator leaves the time base's registers alone. -/
theorem followRate_rd (s : State) (o : TimeBase) {q : Reg} (h : q.OfTb) : (s.followRate o).rd q = s.rd q := by
  have f : ∀ (l : List Nat) (x : State), (l.foldl State.followGroup x).rd q = x.rd q := by
    intro l; induction l with
    | nil => intro x; rfl
    | cons a l ih => intro x; rw [List.foldl_cons, ih, followGroup_ofTb h]
  unfold State.followRate; split
  · rfl
  · dsimp only; rw [f]; rfl

theorem ageFold_ofTb {q : Reg} (h : q.OfTb) (s : State) : s.ageFold.rd q = s.rd q := by
  have k : ∀ (t o : TimeBase), (({ s with tb := t } : State).followRate o).rd q = s.rd q := fun t o => followRate_rd _ o h
  unfold State.ageFold; dsimp only; split
  · rfl
  · rw [apply_ite (fun x : State => x.rd q), raise_ofTb h]; exact (ite_self _).trans (k _ _)

/-- Applying the folds that are due leaves the time base's registers alone. -/
theorem foldDue_ofTb {q : Reg} (h : q.OfTb) (s : State) : s.foldDue.rd q = s.rd q := by
  have f : ∀ (l : List Nat) (x : State), (l.foldl (fun (s : State) _ => s.ageFold) x).rd q = x.rd q := by
    intro l; induction l with
    | nil => intro x; rfl
    | cons a l ih => intro x; rw [List.foldl_cons, ih, ageFold_ofTb h]
  unfold State.foldDue; split
  · exact f _ _
  · rfl

/-! ## Adjustments, the discipline, fields beside fields, and the units of slots, groups and converters -/
theorem adjWrite_go {s : State} {w : Wr} (o : s.Opens w 0x30054) (g : s.isSet TB_ADJ_CTL_GO = false) (h : w.hits 0 = true) :
    s.adjWrite w = (s.mergeRaw 0x30054 w).adjGo := by
  obtain ⟨a, b, c, -⟩ := o
  simp only [State.adjWrite, a, c, g, h, State.flush_none b]
  rfl
theorem rd64_of_rd {s t : State} {a b : Reg} (ha : t.rd a = s.rd a) (hb : t.rd b = s.rd b) : t.rd64 a b = s.rd64 a b := by
  unfold State.rd64 State.rn; rw [ha, hb]
theorem adjCtl_rate (s : State) (w : Wr) : (s.mergeRaw 0x30054 w).rd64 TB_ADJ_RATE_LO TB_ADJ_RATE_HI = s.rd64 TB_ADJ_RATE_LO TB_ADJ_RATE_HI :=
  rd64_of_rd (mergeRaw_rd (by decide) (by decide) (by decide) (by decide)) (mergeRaw_rd (by decide) (by decide) (by decide) (by decide))
theorem adjCtl_amt (s : State) (w : Wr) : (s.mergeRaw 0x30054 w).rd64 TB_ADJ_AMT_LO TB_ADJ_AMT_HI = s.rd64 TB_ADJ_AMT_LO TB_ADJ_AMT_HI :=
  rd64_of_rd (mergeRaw_rd (by decide) (by decide) (by decide) (by decide)) (mergeRaw_rd (by decide) (by decide) (by decide) (by decide))
theorem adjCtl_ppb (s : State) (w : Wr) : (s.mergeRaw 0x30054 w).rn TB_ADJ_SLEW = s.rn TB_ADJ_SLEW :=
  rn_of_rd (mergeRaw_rd (by decide) (by decide) (by decide) (by decide))
/-- Outside the start-up no fold is due that has not been applied, where the count of folds has kept up (R53). -/
theorem foldDue_none {s : State} (h : s.tb.locked = false ∨ s.tb.fc / 2 ^ 36 ≤ s.tb.folds) : s.foldDue = s := by
  unfold State.foldDue; split
  · rename_i l; rw [Nat.sub_eq_zero_of_le (h.resolve_left (by simp [l]))]; rfl
  · rfl
/-- An adjustment that passes its checks: the folds due, what it applies, and then CODE and GO (R53, R62). -/
theorem adjGo_pass {u v : State} {o : AdjOps} {rate amt : Int} {ppb : Nat} (hv : u.foldDue = v) (ho : v.adjOps = o)
    (hr : sext 64 (v.rd64 TB_ADJ_RATE_LO TB_ADJ_RATE_HI) = rate) (ha : sext 64 (v.rd64 TB_ADJ_AMT_LO TB_ADJ_AMT_HI) = amt)
    (hp : v.rn TB_ADJ_SLEW = ppb) (hc : v.adjCheck o rate amt ppb = 0) :
    u.adjGo = ((v.adjApply o rate amt ppb).put TB_ADJ_STAT_CODE 0).put TB_ADJ_CTL_GO 0 := by
  unfold State.adjGo; dsimp only; rw [hv, ho, hr, ha, hp, hc]; simp
theorem adj_end_code (x : State) : ((x.put TB_ADJ_STAT_CODE 0).put TB_ADJ_CTL_GO 0).get TB_ADJ_STAT_CODE = 0 := by
  rw [get_put_reg _ _ _ _ (by decide), get_put _ _ _ (by decide) (by decide)]; rfl
theorem adj_end_go (x : State) : ((x.put TB_ADJ_STAT_CODE 0).put TB_ADJ_CTL_GO 0).get TB_ADJ_CTL_GO = 0 := by
  rw [get_put _ _ _ (by decide) (by decide)]; rfl
theorem adj_end_get (x : State) (f : Fld) (h : f.reg.key ≠ TB_ADJ_STAT_CODE.reg.key) (h1 : f.reg.key ≠ TB_ADJ_CTL_GO.reg.key) :
    ((x.put TB_ADJ_STAT_CODE 0).put TB_ADJ_CTL_GO 0).get f = x.get f := by
  rw [get_put_reg _ _ _ _ h1, get_put_reg _ _ _ _ h]
theorem wr64_tb (s : State) (a b : Reg) (n : Nat) : (s.wr64 a b n).tb = s.tb := rfl
theorem put_tb (s : State) (f : Fld) (n : Nat) : (s.put f n).tb = s.tb := rfl
theorem abortSlew_tb (s : State) : s.abortSlew.tb = if s.tb.slew = none then s.tb else { s.tb.reanchor with slew := none } := by
  unfold State.abortSlew
  split <;> rename_i h
  · simp [h]
  · dsimp only; split <;> simp [h, wr64_tb, followRate_tb]
theorem abortSlew_slew (s : State) : s.abortSlew.tb.slew = none := by
  rw [abortSlew_tb]; split <;> simp_all
theorem abortSlew_mt (s : State) : s.abortSlew.mt = s.mt := by
  unfold State.mt; rw [abortSlew_tb]
  split
  · rfl
  · simp [TimeBase.reanchor, TimeBase.mtAt, elapsed_zero]
theorem wr64_rd {s : State} {a b q : Reg} {n : Nat} (ha : q.key ≠ a.key) (hb : q.key ≠ b.key) : (s.wr64 a b n).rd q = s.rd q := by
  unfold State.wr64; rw [wn_rd hb, wn_rd ha]
theorem abortSlew_rd {s : State} {q : Reg} (t : q.OfTb) (h : q.key ≠ TB_STATUS.key) (ha : q.key ≠ TB_ADJ_AMT_LO.key) (hb : q.key ≠ TB_ADJ_AMT_HI.key) :
    s.abortSlew.rd q = s.rd q := by
  unfold State.abortSlew
  split
  · rfl
  · dsimp only; split
    · rw [wr64_rd ha hb, followRate_rd _ _ t, put_rd h]; exact State.rd_of_regs rfl
    · rw [followRate_rd _ _ t, put_rd h]; exact State.rd_of_regs rfl
theorem abortSlew_slewing {s : State} (h : s.tb.slew ≠ none) : s.abortSlew.get TB_STATUS_SLEWING = 0 := by
  unfold State.abortSlew
  split
  · contradiction
  · dsimp only; split
    · rw [get_of_rd (wr64_rd (by decide) (by decide)), get_of_rd (followRate_rd _ _ (by decide)), get_put _ _ _ (by decide) (by decide)]; rfl
    · rw [get_of_rd (followRate_rd _ _ (by decide)), get_put _ _ _ (by decide) (by decide)]; rfl
theorem setTState_tb (s : State) (n : Nat) : (s.setTState n).tb = s.tb := by
  unfold State.setTState; split
  · rfl
  · dsimp only; rw [raise_tb]; rfl
theorem setTState_rd {s : State} {q : Reg} {n : Nat} (h : q.key ≠ TB_STATUS.key) (h1 : q.key ∉ raiseKeys evTB_STATE_CHANGE.src)
    (h2 : q.key ∉ raiseKeys evLOG_STAGE_REFUSED.src) (h3 : q.key ∉ raiseKeys evSYS_POST_LOST.src) : (s.setTState n).rd q = s.rd q := by
  unfold State.setTState; split
  · rfl
  · dsimp only; rw [raise_rd h1 h2 h3, put_rd h]
theorem setTState_tstate {s : State} {n : Nat} (h : n < 4) : (s.setTState n).tstate = n := by
  unfold State.setTState; split
  · assumption
  · dsimp only; unfold State.tstate
    rw [raise_get (by decide) (by decide) (by decide), get_put _ _ _ (by decide) (by decide)]
    exact Nat.mod_eq_of_lt h
theorem setTState_beside {s : State} {n : Nat} (f : Fld) (e : f.reg = TB_STATUS) (hg : f.lo ≤ f.hi) (hd : f.hi < TB_STATUS_STATE.lo ∨ TB_STATUS_STATE.hi < f.lo) :
    (s.setTState n).get f = s.get f := by
  unfold State.setTState; split
  · rfl
  · dsimp only
    rw [raise_get (by rw [e]; decide) (by rw [e]; decide) (by rw [e]; decide), get_put_beside _ _ _ _ e (by decide) (by decide) hg hd.symm]
theorem tstate_of_get {s t : State} (h : t.get TB_STATUS_STATE = s.get TB_STATUS_STATE) : t.tstate = s.tstate := h
theorem toTraced_tb (s : State) : s.toTraced.tb = { s.tb with lastTrace := s.mt } := by
  unfold State.toTraced; dsimp only
  simp only [put_tb, setTState_tb, State.mt]
theorem toTraced_get (s : State) (f : Fld) : s.toTraced.get f =
    (((s.setTState 1).put TB_STATUS_SRC_ACT (s.get TB_DISC_SRC)).put TB_STATUS_SPX_SHEET
      (if s.get TB_DISC_SRC = 2 then s.get TB_DISC_SHEET else 0)).get f := rfl
theorem toTraced_tstate (s : State) : s.toTraced.tstate = 1 := by
  unfold State.tstate
  rw [toTraced_get, get_put_beside _ _ _ _ (by rfl) (by decide) (by decide) (by decide) (by decide),
    get_put_beside _ _ _ _ (by rfl) (by decide) (by decide) (by decide) (by decide)]
  exact setTState_tstate (by decide)
theorem disc_lt (s : State) : s.get TB_DISC_SRC < 8 := Nat.lt_of_lt_of_le (bits_lt _ _ _) (by decide)
theorem toTraced_act (s : State) : s.toTraced.get TB_STATUS_SRC_ACT = s.get TB_DISC_SRC := by
  rw [toTraced_get, get_put_beside _ _ _ _ (by rfl) (by decide) (by decide) (by decide) (by decide), get_put _ _ _ (by decide) (by decide)]
  exact Nat.mod_eq_of_lt (disc_lt s)
theorem toHoldover_tb (s : State) : s.toHoldover.tb = if s.tstate = 1 then
    { s.tb with holdTrace := s.tb.lastTrace, holdActed := false, qualRun := 0 } else { s.tb with qualRun := 0 } := by
  unfold State.toHoldover; split
  · dsimp only; rw [put_tb, setTState_tb]
  · rfl
theorem toHoldover_tstate (s : State) : s.toHoldover.tstate = if s.tstate = 1 then 2 else s.tstate := by
  unfold State.toHoldover; split
  · dsimp only; unfold State.tstate
    rw [get_put_beside _ _ _ _ (by rfl) (by decide) (by decide) (by decide) (by decide)]
    exact setTState_tstate (by decide)
  · rfl
theorem toHoldover_rd {s : State} {q : Reg} (h : q.key ≠ TB_STATUS.key) (h1 : q.key ∉ raiseKeys evTB_STATE_CHANGE.src)
    (h2 : q.key ∉ raiseKeys evLOG_STAGE_REFUSED.src) (h3 : q.key ∉ raiseKeys evSYS_POST_LOST.src) : s.toHoldover.rd q = s.rd q := by
  unfold State.toHoldover; split
  · dsimp only; rw [put_rd h, setTState_rd h h1 h2 h3]; exact State.rd_of_regs rfl
  · exact State.rd_of_regs rfl
theorem abortSlew_tstate (s : State) : s.abortSlew.tstate = s.tstate := by
  unfold State.abortSlew
  split
  · rfl
  · dsimp only; unfold State.tstate; split
    · rw [get_of_rd (wr64_rd (by decide) (by decide)), get_of_rd (followRate_rd _ _ (by decide)), get_put_beside _ _ _ _ (by rfl) (by decide) (by decide) (by decide) (by decide)]; rfl
    · rw [get_of_rd (followRate_rd _ _ (by decide)), get_put_beside _ _ _ _ (by rfl) (by decide) (by decide) (by decide) (by decide)]; rfl
theorem changeSource_tstate (s : State) (n : Nat) : (s.changeSource n).tstate = if s.tstate = 1 then 2 else s.tstate := by
  unfold State.changeSource; dsimp only; unfold State.tstate
  rw [get_put_beside _ _ _ _ (by rfl) (by decide) (by decide) (by decide) (by decide), get_put_beside _ _ _ _ (by rfl) (by decide) (by decide) (by decide) (by decide)]
  refine (toHoldover_tstate _).trans ?_
  have : (if (n = 1 || n = 2) = true then s.foldDue.abortSlew else s).tstate = s.tstate := by
    split
    · exact (abortSlew_tstate _).trans (get_of_rd (foldDue_ofTb (by decide) s))
    · rfl
  rw [this]; rfl
theorem changeSource_act (s : State) (n : Nat) : (s.changeSource n).get TB_STATUS_SRC_ACT = s.get TB_DISC_SRC := by
  unfold State.changeSource; dsimp only
  rw [get_put_beside _ _ _ _ (by rfl) (by decide) (by decide) (by decide) (by decide), get_put _ _ _ (by decide) (by decide)]
  refine (Nat.mod_eq_of_lt (disc_lt _)).trans ?_
  rw [get_of_rd (toHoldover_rd (by decide) (by decide) (by decide) (by decide))]
  split
  · exact get_of_rd ((abortSlew_rd (by decide) (by decide) (by decide) (by decide)).trans (foldDue_ofTb (by decide) s))
  · rfl
theorem changeSource_pps (s : State) (n : Nat) : (s.changeSource n).get TB_STATUS_PPS_OK = 0 := by
  unfold State.changeSource; dsimp only
  rw [get_put _ _ _ (by decide) (by decide)]; rfl
theorem put_mt (s : State) (f : Fld) (n : Nat) : (s.put f n).mt = s.mt := rfl
theorem isSet_iff (s : State) (f : Fld) : s.isSet f = true ↔ s.get f ≠ 0 := by simp [State.isSet]
theorem isSet_of_get {s t : State} {f : Fld} (h : t.get f = s.get f) : t.isSet f = s.isSet f := by unfold State.isSet; rw [h]
/-- Starting a run of core q leaves the table and the FAILING bit of another core alone. -/
theorem coreStart_other {s : State} {p q : Nat} (h : p ≠ q) (c : Bool) : mapGet {} p (s.coreStart q c).tdc = mapGet {} p s.tdc ∧
    (s.coreStart q c).get (TIM_CORE_STAT_FAILING p) = s.get (TIM_CORE_STAT_FAILING p) := by
  unfold State.coreStart; dsimp only; split
  · exact ⟨rfl, rfl⟩
  · refine ⟨mapGet_put_ne _ _ (by omega) _ _, ?_⟩
    rw [get_put_reg]; · rfl
    · show 0x40100 + 4 * p ≠ 0x40100 + 4 * q; omega
theorem core_raise (n : Nat) (hn : n = evTIM_CORE_FAULT.src ∨ n = evPWR_SPARE_EXHAUSTED.src ∨ n = evLOG_STAGE_REFUSED.src ∨ n = evSYS_POST_LOST.src) :
    ∀ p < 18, (TIM_CORE_STAT p).key ∉ raiseKeys n := by
  rcases hn with rfl | rfl | rfl | rfl <;> decide
theorem spareExhausted_core {p : Nat} (hp : p < 18) (s : State) (c part : Nat) : (s.spareExhausted c part).tdc = s.tdc ∧
    (s.spareExhausted c part).get (TIM_CORE_STAT_FAILING p) = s.get (TIM_CORE_STAT_FAILING p) := by
  unfold State.spareExhausted; split
  · exact ⟨rfl, rfl⟩
  · refine ⟨((State.raise_keeps (Keeps.refl (compMask eventComps) _) rfl _ _ _ _ _ _ _).tdc rfl), ?_⟩
    rw [raise_get (core_raise _ (by simp) p hp) (core_raise _ (by simp) p hp) (core_raise _ (by simp) p hp), get_put_reg]; · rfl
    · show 0x40100 + 4 * p ≠ PWR_STAT.key; have : PWR_STAT.key < 0x40100 := by decide
      omega
theorem tdcSubstitute_core {p : Nat} (hp : p < 18) {s : State} (hf : s.isSet (TIM_CORE_STAT_FAILING p) = true) (n : Nat) (pol : Bool) :
    mapGet {} p (s.tdcSubstitute n pol).tdc = mapGet {} p s.tdc ∧
    (s.tdcSubstitute n pol).get (TIM_CORE_STAT_FAILING p) = s.get (TIM_CORE_STAT_FAILING p) := by
  unfold State.tdcSubstitute; split
  · obtain ⟨a, b⟩ := spareExhausted_core hp s 9 (s.coreOf n); exact ⟨by rw [a], b⟩
  · rename_i q hq
    have := List.find?_some hq
    have hne : p ≠ q := by rintro rfl; simp [hf] at this
    exact coreStart_other hne false
theorem calCtlDone_tdc (s : State) : s.calCtlDone.tdc = s.tdc := by unfold State.calCtlDone; split <;> rfl
theorem calCtlDone_get (s : State) (f : Fld) (h : f.reg.key ≠ 0x40000) : s.calCtlDone.get f = s.get f := by
  unfold State.calCtlDone; split
  · rfl
  · exact get_put_reg _ _ _ _ h
/-- A write of a field leaves a field beside it alone; the bounds are checked by evaluation. -/
theorem get_beside {s : State} {f g : Fld} {v : Nat} (e : g.reg = f.reg) (c : (Nat.ble f.lo f.hi && Nat.blt f.hi 32 && Nat.ble g.lo g.hi
    && (Nat.blt f.hi g.lo || Nat.blt g.hi f.lo)) = true) : (s.put f v).get g = s.get g := by
  simp only [Bool.and_eq_true, Bool.or_eq_true, Nat.ble_eq, Nat.blt_eq] at c
  exact get_put_beside s f g v e c.1.1.1 c.1.1.2 c.1.2 c.2
theorem get_same {s : State} {f : Fld} {v : Nat} (c : (Nat.ble f.lo f.hi && Nat.blt f.hi 32 && Nat.blt v (2 ^ (f.hi + 1 - f.lo))) = true) :
    (s.put f v).get f = v := by
  simp only [Bool.and_eq_true, Nat.ble_eq, Nat.blt_eq] at c
  rw [get_put _ _ _ c.1.1 c.1.2]; exact Nat.mod_eq_of_lt c.2
theorem get_tdc (u : State) (x : SMap TdcCore) (f : Fld) : ({ u with tdc := x } : State).get f = u.get f := rfl
theorem raise_tdc (s : State) (e : EvId) (inst : Nat) (det : List Detail) (bor : Nat) (pol mand nolog : Bool) :
    (s.raise e inst det bor pol mand nolog).tdc = s.tdc := (State.raise_keeps (Keeps.refl (compMask eventComps) s) rfl e inst det bor pol mand nolog).tdc rfl
theorem get_mod {s : State} {f : Fld} {v : Nat} (c : (Nat.ble f.lo f.hi && Nat.blt f.hi 32) = true) :
    (s.put f v).get f = v % 2 ^ (f.hi + 1 - f.lo) := by
  simp only [Bool.and_eq_true, Nat.ble_eq, Nat.blt_eq] at c
  exact get_put _ _ _ c.1 c.2
theorem put_tdc (s : State) (f : Fld) (n : Nat) : (s.put f n).tdc = s.tdc := rfl
theorem pfOnly_open {s : State} {w : Wr} {off : Nat} (h : s.Opens w off) (f : State → State) : s.pfOnly w off f = f s := by
  obtain ⟨a, b, c, d⟩ := h
  unfold State.pfOnly; rw [a, State.flush_none b]; dsimp only; rw [c, d]; rfl
theorem bit_get (s : State) (r : Reg) (b : Nat) : bit (s.rn r) b = decide (s.get ⟨r, b, b⟩ = 1) := by
  have : b + 1 - b = 1 := by omega
  simp only [bit, State.get, bits, State.rn, this, Nat.pow_one]; congr
theorem mergeRaw_grps (s : State) (k : Nat) (w : Wr) : (s.mergeRaw k w).grps = s.grps :=
  (State.mergeRaw_keeps (Keeps.refl (compMask eventComps) s) rfl k w).grps rfl
theorem grp_of_grps {s t : State} {g : Nat} (h : t.grps = s.grps) : t.grp g = s.grp g := by unfold State.grp; rw [h]
theorem setGrp_same (s : State) (g : Nat) (x : Group) : (s.setGrp g x).grp g = x := by unfold State.grp State.setGrp; exact mapGet_put_same _ _ _ _
theorem put_grps (s : State) (f : Fld) (n : Nat) : (s.put f n).grps = s.grps := rfl
theorem raise_grps (s : State) (e : EvId) (inst : Nat) (det : List Detail) (bor : Nat) (pol mand nolog : Bool) :
    (s.raise e inst det bor pol mand nolog).grps = s.grps := (State.raise_keeps (Keeps.refl (compMask eventComps) s) rfl e inst det bor pol mand nolog).grps rfl
theorem mergeRaw_mt (s : State) (k : Nat) (w : Wr) : (s.mergeRaw k w).mt = s.mt := by unfold State.mt; rw [mergeRaw_tb]
theorem mergeRaw_awake {s : State} {g : Nat} (hg : g < 24) (w : Wr) : (s.mergeRaw (gCtl g).key w).awake g = s.awake g := by
  have k : ∀ g < 24, (PWR_DOM_STATE g).reg.key ≠ (gCtl g).key ∧ (PWR_DOM_STATE g).reg.key ∉ raiseKeys evSYS_ACCESS_VALUE.src ∧
    (PWR_DOM_STATE g).reg.key ∉ raiseKeys evLOG_STAGE_REFUSED.src ∧ (PWR_DOM_STATE g).reg.key ∉ raiseKeys evSYS_POST_LOST.src := by decide
  obtain ⟨a, b, c, d⟩ := k g hg
  unfold State.awake; rw [get_of_rd (mergeRaw_rd a b c d)]
theorem setSlot_same (s : State) (n : Nat) (x : Slot) : (s.setSlot n x).slot n = x := by unfold State.slot State.setSlot; exact mapGet_put_same _ _ _ _
theorem slot_of_slots {s t : State} {n : Nat} (h : t.slots = s.slots) : t.slot n = s.slot n := by unfold State.slot; rw [h]
theorem raise_slots (s : State) (e : EvId) (inst : Nat) (det : List Detail) (bor : Nat) (pol mand nolog : Bool) :
    (s.raise e inst det bor pol mand nolog).slots = s.slots := (State.raise_keeps (Keeps.refl (compMask eventComps) s) rfl e inst det bor pol mand nolog).slots rfl
theorem slotSat_nextJ (s : State) (n c : Nat) : ((s.slotSat n c).slot n).nextJ = (s.slot n).nextJ := by
  unfold State.slotSat; split
  · rfl
  · dsimp only
    have k : ∀ (a : Fld) (b c : Nat) (r : Reg), ((s.put a b).bump r c).slot n = s.slot n := fun a b c r => slot_of_slots rfl
    split <;> split
    all_goals first | exact congrArg Slot.nextJ (k ..) | (rw [slot_of_slots (raise_slots ..), setSlot_same, k])
theorem pcv_setPcv (s : State) (p : Nat) (x : Pcv) : (s.setPcv p x).pcv p = x := mapGet_put_same _ _ _ _
theorem exc_setExc (s : State) (p : Nat) (x : Exc) : (s.setExc p x).exc p = x := mapGet_put_same _ _ _ _
theorem pcv_of {s t : State} {p : Nat} (h : t.pcvs = s.pcvs) : t.pcv p = s.pcv p := by unfold State.pcv; rw [h]
theorem exc_of {s t : State} {p : Nat} (h : t.excs = s.excs) : t.exc p = s.exc p := by unfold State.exc; rw [h]
theorem fe_waits_none (u : State) (hu : u.fe.waits = []) : ({ u with fe := { u.fe with waits := [] } } : State) = u := by
  have k1 : ({ u.fe with waits := [] } : Fe) = u.fe := by rw [← hu]
  have k2 : ∀ x : Fe, x = u.fe → ({ u with fe := x } : State) = u := by intro x hx; rw [hx]
  exact k2 _ k1
theorem fget_of {s t : State} (h : t.force = s.force) (f : Fld) : t.fget f = s.fget f := by unfold State.fget State.frd; rw [h]
theorem pcvsOn_of {s t : State} (h : t.force = s.force) (h1 : t.staged = s.staged) (h2 : t.get SFE_STAT_STATE = s.get SFE_STAT_STATE)
    (h3 : t.fe = s.fe) : t.pcvsOn = s.pcvsOn := by
  unfold State.pcvsOn State.feRuns State.feState
  rw [h1, h2, h3]
  split
  · apply List.filter_congr; intro p _; rw [fget_of h]
  · rfl
theorem isSet_false {s : State} {f : Fld} (h : s.get f = 0) : s.isSet f = false := by simp [State.isSet, h]

end Sys2Proof.Machine
end

