-- ==== Sys2Proof/Laws/Fields.lean ====
section
/-! SUPPORT. The fields that an event, a merge and a pair of registers leave as they are. -/
namespace Sys2Proof.Machine

@[simp] theorem State.raise_force (s : State) (e : EvId) (inst : Nat) (det : List Detail) (bor : Nat) (pol mand nolog : Bool) : (s.raise e inst det bor pol mand nolog).force = s.force :=
  (State.raise_keeps (Keeps.refl (compMask eventComps) s) rfl e inst det bor pol mand nolog).force rfl
@[simp] theorem State.raise_aper (s : State) (e : EvId) (inst : Nat) (det : List Detail) (bor : Nat) (pol mand nolog : Bool) : (s.raise e inst det bor pol mand nolog).aper = s.aper :=
  (State.raise_keeps (Keeps.refl (compMask eventComps) s) rfl e inst det bor pol mand nolog).aper rfl
@[simp] theorem State.raise_tb (s : State) (e : EvId) (inst : Nat) (det : List Detail) (bor : Nat) (pol mand nolog : Bool) : (s.raise e inst det bor pol mand nolog).tb = s.tb :=
  (State.raise_keeps (Keeps.refl (compMask eventComps) s) rfl e inst det bor pol mand nolog).tb rfl
@[simp] theorem State.raise_txts (s : State) (e : EvId) (inst : Nat) (det : List Detail) (bor : Nat) (pol mand nolog : Bool) : (s.raise e inst det bor pol mand nolog).txts = s.txts :=
  (State.raise_keeps (Keeps.refl (compMask eventComps) s) rfl e inst det bor pol mand nolog).txts rfl
@[simp] theorem State.raise_funcs (s : State) (e : EvId) (inst : Nat) (det : List Detail) (bor : Nat) (pol mand nolog : Bool) : (s.raise e inst det bor pol mand nolog).funcs = s.funcs :=
  (State.raise_keeps (Keeps.refl (compMask eventComps) s) rfl e inst det bor pol mand nolog).funcs rfl
@[simp] theorem State.raise_linkUp (s : State) (e : EvId) (inst : Nat) (det : List Detail) (bor : Nat) (pol mand nolog : Bool) : (s.raise e inst det bor pol mand nolog).linkUp = s.linkUp :=
  (State.raise_keeps (Keeps.refl (compMask eventComps) s) rfl e inst det bor pol mand nolog).linkUp rfl
@[simp] theorem State.raise_ptm (s : State) (e : EvId) (inst : Nat) (det : List Detail) (bor : Nat) (pol mand nolog : Bool) : (s.raise e inst det bor pol mand nolog).ptm = s.ptm :=
  (State.raise_keeps (Keeps.refl (compMask eventComps) s) rfl e inst det bor pol mand nolog).ptm rfl
@[simp] theorem State.raise_staged (s : State) (e : EvId) (inst : Nat) (det : List Detail) (bor : Nat) (pol mand nolog : Bool) : (s.raise e inst det bor pol mand nolog).staged = s.staged :=
  (State.raise_keeps (Keeps.refl (compMask eventComps) s) rfl e inst det bor pol mand nolog).staged rfl
@[simp] theorem State.raise_tags (s : State) (e : EvId) (inst : Nat) (det : List Detail) (bor : Nat) (pol mand nolog : Bool) : (s.raise e inst det bor pol mand nolog).tags = s.tags :=
  (State.raise_keeps (Keeps.refl (compMask eventComps) s) rfl e inst det bor pol mand nolog).tags rfl
@[simp] theorem State.raise_envs (s : State) (e : EvId) (inst : Nat) (det : List Detail) (bor : Nat) (pol mand nolog : Bool) : (s.raise e inst det bor pol mand nolog).envs = s.envs :=
  (State.raise_keeps (Keeps.refl (compMask eventComps) s) rfl e inst det bor pol mand nolog).envs rfl
@[simp] theorem State.raise_keys (s : State) (e : EvId) (inst : Nat) (det : List Detail) (bor : Nat) (pol mand nolog : Bool) : (s.raise e inst det bor pol mand nolog).keys = s.keys :=
  (State.raise_keeps (Keeps.refl (compMask eventComps) s) rfl e inst det bor pol mand nolog).keys rfl
@[simp] theorem State.raise_keyStage (s : State) (e : EvId) (inst : Nat) (det : List Detail) (bor : Nat) (pol mand nolog : Bool) : (s.raise e inst det bor pol mand nolog).keyStage = s.keyStage :=
  (State.raise_keeps (Keeps.refl (compMask eventComps) s) rfl e inst det bor pol mand nolog).keyStage rfl
@[simp] theorem State.raise_crings (s : State) (e : EvId) (inst : Nat) (det : List Detail) (bor : Nat) (pol mand nolog : Bool) : (s.raise e inst det bor pol mand nolog).crings = s.crings :=
  (State.raise_keeps (Keeps.refl (compMask eventComps) s) rfl e inst det bor pol mand nolog).crings rfl
@[simp] theorem State.raise_quesOn (s : State) (e : EvId) (inst : Nat) (det : List Detail) (bor : Nat) (pol mand nolog : Bool) : (s.raise e inst det bor pol mand nolog).quesOn = s.quesOn :=
  (State.raise_keeps (Keeps.refl (compMask eventComps) s) rfl e inst det bor pol mand nolog).quesOn rfl
@[simp] theorem State.raise_cmds (s : State) (e : EvId) (inst : Nat) (det : List Detail) (bor : Nat) (pol mand nolog : Bool) : (s.raise e inst det bor pol mand nolog).cmds = s.cmds :=
  (State.raise_keeps (Keeps.refl (compMask eventComps) s) rfl e inst det bor pol mand nolog).cmds rfl
@[simp] theorem State.raise_fenced (s : State) (e : EvId) (inst : Nat) (det : List Detail) (bor : Nat) (pol mand nolog : Bool) : (s.raise e inst det bor pol mand nolog).fenced = s.fenced :=
  (State.raise_keeps (Keeps.refl (compMask eventComps) s) rfl e inst det bor pol mand nolog).fenced rfl
@[simp] theorem State.raise_lateAt (s : State) (e : EvId) (inst : Nat) (det : List Detail) (bor : Nat) (pol mand nolog : Bool) : (s.raise e inst det bor pol mand nolog).lateAt = s.lateAt :=
  (State.raise_keeps (Keeps.refl (compMask eventComps) s) rfl e inst det bor pol mand nolog).lateAt rfl
@[simp] theorem State.raise_slots (s : State) (e : EvId) (inst : Nat) (det : List Detail) (bor : Nat) (pol mand nolog : Bool) : (s.raise e inst det bor pol mand nolog).slots = s.slots :=
  (State.raise_keeps (Keeps.refl (compMask eventComps) s) rfl e inst det bor pol mand nolog).slots rfl
@[simp] theorem State.raise_gridNext (s : State) (e : EvId) (inst : Nat) (det : List Detail) (bor : Nat) (pol mand nolog : Bool) : (s.raise e inst det bor pol mand nolog).gridNext = s.gridNext :=
  (State.raise_keeps (Keeps.refl (compMask eventComps) s) rfl e inst det bor pol mand nolog).gridNext rfl
@[simp] theorem State.raise_captures (s : State) (e : EvId) (inst : Nat) (det : List Detail) (bor : Nat) (pol mand nolog : Bool) : (s.raise e inst det bor pol mand nolog).captures = s.captures :=
  (State.raise_keeps (Keeps.refl (compMask eventComps) s) rfl e inst det bor pol mand nolog).captures rfl
@[simp] theorem State.raise_tdc (s : State) (e : EvId) (inst : Nat) (det : List Detail) (bor : Nat) (pol mand nolog : Bool) : (s.raise e inst det bor pol mand nolog).tdc = s.tdc :=
  (State.raise_keeps (Keeps.refl (compMask eventComps) s) rfl e inst det bor pol mand nolog).tdc rfl
@[simp] theorem State.raise_tdcSwitches (s : State) (e : EvId) (inst : Nat) (det : List Detail) (bor : Nat) (pol mand nolog : Bool) : (s.raise e inst det bor pol mand nolog).tdcSwitches = s.tdcSwitches :=
  (State.raise_keeps (Keeps.refl (compMask eventComps) s) rfl e inst det bor pol mand nolog).tdcSwitches rfl
@[simp] theorem State.raise_edges (s : State) (e : EvId) (inst : Nat) (det : List Detail) (bor : Nat) (pol mand nolog : Bool) : (s.raise e inst det bor pol mand nolog).edges = s.edges :=
  (State.raise_keeps (Keeps.refl (compMask eventComps) s) rfl e inst det bor pol mand nolog).edges rfl
@[simp] theorem State.raise_tagQ (s : State) (e : EvId) (inst : Nat) (det : List Detail) (bor : Nat) (pol mand nolog : Bool) : (s.raise e inst det bor pol mand nolog).tagQ = s.tagQ :=
  (State.raise_keeps (Keeps.refl (compMask eventComps) s) rfl e inst det bor pol mand nolog).tagQ rfl
@[simp] theorem State.raise_freqs (s : State) (e : EvId) (inst : Nat) (det : List Detail) (bor : Nat) (pol mand nolog : Bool) : (s.raise e inst det bor pol mand nolog).freqs = s.freqs :=
  (State.raise_keeps (Keeps.refl (compMask eventComps) s) rfl e inst det bor pol mand nolog).freqs rfl
@[simp] theorem State.raise_cgLost (s : State) (e : EvId) (inst : Nat) (det : List Detail) (bor : Nat) (pol mand nolog : Bool) : (s.raise e inst det bor pol mand nolog).cgLost = s.cgLost :=
  (State.raise_keeps (Keeps.refl (compMask eventComps) s) rfl e inst det bor pol mand nolog).cgLost rfl
@[simp] theorem State.raise_monQ (s : State) (e : EvId) (inst : Nat) (det : List Detail) (bor : Nat) (pol mand nolog : Bool) : (s.raise e inst det bor pol mand nolog).monQ = s.monQ :=
  (State.raise_keeps (Keeps.refl (compMask eventComps) s) rfl e inst det bor pol mand nolog).monQ rfl
@[simp] theorem State.raise_monSeq (s : State) (e : EvId) (inst : Nat) (det : List Detail) (bor : Nat) (pol mand nolog : Bool) : (s.raise e inst det bor pol mand nolog).monSeq = s.monSeq :=
  (State.raise_keeps (Keeps.refl (compMask eventComps) s) rfl e inst det bor pol mand nolog).monSeq rfl
@[simp] theorem State.raise_monLost (s : State) (e : EvId) (inst : Nat) (det : List Detail) (bor : Nat) (pol mand nolog : Bool) : (s.raise e inst det bor pol mand nolog).monLost = s.monLost :=
  (State.raise_keeps (Keeps.refl (compMask eventComps) s) rfl e inst det bor pol mand nolog).monLost rfl
@[simp] theorem State.raise_popWait (s : State) (e : EvId) (inst : Nat) (det : List Detail) (bor : Nat) (pol mand nolog : Bool) : (s.raise e inst det bor pol mand nolog).popWait = s.popWait :=
  (State.raise_keeps (Keeps.refl (compMask eventComps) s) rfl e inst det bor pol mand nolog).popWait rfl
@[simp] theorem State.raise_spareBook (s : State) (e : EvId) (inst : Nat) (det : List Detail) (bor : Nat) (pol mand nolog : Bool) : (s.raise e inst det bor pol mand nolog).spareBook = s.spareBook :=
  (State.raise_keeps (Keeps.refl (compMask eventComps) s) rfl e inst det bor pol mand nolog).spareBook rfl
@[simp] theorem State.raise_trimImg (s : State) (e : EvId) (inst : Nat) (det : List Detail) (bor : Nat) (pol mand nolog : Bool) : (s.raise e inst det bor pol mand nolog).trimImg = s.trimImg :=
  (State.raise_keeps (Keeps.refl (compMask eventComps) s) rfl e inst det bor pol mand nolog).trimImg rfl
@[simp] theorem State.raise_grps (s : State) (e : EvId) (inst : Nat) (det : List Detail) (bor : Nat) (pol mand nolog : Bool) : (s.raise e inst det bor pol mand nolog).grps = s.grps :=
  (State.raise_keeps (Keeps.refl (compMask eventComps) s) rfl e inst det bor pol mand nolog).grps rfl
@[simp] theorem State.raise_inps (s : State) (e : EvId) (inst : Nat) (det : List Detail) (bor : Nat) (pol mand nolog : Bool) : (s.raise e inst det bor pol mand nolog).inps = s.inps :=
  (State.raise_keeps (Keeps.refl (compMask eventComps) s) rfl e inst det bor pol mand nolog).inps rfl
@[simp] theorem State.raise_beams (s : State) (e : EvId) (inst : Nat) (det : List Detail) (bor : Nat) (pol mand nolog : Bool) : (s.raise e inst det bor pol mand nolog).beams = s.beams :=
  (State.raise_keeps (Keeps.refl (compMask eventComps) s) rfl e inst det bor pol mand nolog).beams rfl
@[simp] theorem State.raise_partials (s : State) (e : EvId) (inst : Nat) (det : List Detail) (bor : Nat) (pol mand nolog : Bool) : (s.raise e inst det bor pol mand nolog).partials = s.partials :=
  (State.raise_keeps (Keeps.refl (compMask eventComps) s) rfl e inst det bor pol mand nolog).partials rfl
@[simp] theorem State.raise_nodes (s : State) (e : EvId) (inst : Nat) (det : List Detail) (bor : Nat) (pol mand nolog : Bool) : (s.raise e inst det bor pol mand nolog).nodes = s.nodes :=
  (State.raise_keeps (Keeps.refl (compMask eventComps) s) rfl e inst det bor pol mand nolog).nodes rfl
@[simp] theorem State.raise_blanks (s : State) (e : EvId) (inst : Nat) (det : List Detail) (bor : Nat) (pol mand nolog : Bool) : (s.raise e inst det bor pol mand nolog).blanks = s.blanks :=
  (State.raise_keeps (Keeps.refl (compMask eventComps) s) rfl e inst det bor pol mand nolog).blanks rfl
@[simp] theorem State.raise_injects (s : State) (e : EvId) (inst : Nat) (det : List Detail) (bor : Nat) (pol mand nolog : Bool) : (s.raise e inst det bor pol mand nolog).injects = s.injects :=
  (State.raise_keeps (Keeps.refl (compMask eventComps) s) rfl e inst det bor pol mand nolog).injects rfl
@[simp] theorem State.raise_items (s : State) (e : EvId) (inst : Nat) (det : List Detail) (bor : Nat) (pol mand nolog : Bool) : (s.raise e inst det bor pol mand nolog).items = s.items :=
  (State.raise_keeps (Keeps.refl (compMask eventComps) s) rfl e inst det bor pol mand nolog).items rfl
@[simp] theorem State.raise_units (s : State) (e : EvId) (inst : Nat) (det : List Detail) (bor : Nat) (pol mand nolog : Bool) : (s.raise e inst det bor pol mand nolog).units = s.units :=
  (State.raise_keeps (Keeps.refl (compMask eventComps) s) rfl e inst det bor pol mand nolog).units rfl
@[simp] theorem State.raise_failingSlots (s : State) (e : EvId) (inst : Nat) (det : List Detail) (bor : Nat) (pol mand nolog : Bool) : (s.raise e inst det bor pol mand nolog).failingSlots = s.failingSlots :=
  (State.raise_keeps (Keeps.refl (compMask eventComps) s) rfl e inst det bor pol mand nolog).failingSlots rfl
@[simp] theorem State.raise_retiredSlots (s : State) (e : EvId) (inst : Nat) (det : List Detail) (bor : Nat) (pol mand nolog : Bool) : (s.raise e inst det bor pol mand nolog).retiredSlots = s.retiredSlots :=
  (State.raise_keeps (Keeps.refl (compMask eventComps) s) rfl e inst det bor pol mand nolog).retiredSlots rfl
@[simp] theorem State.raise_trigs (s : State) (e : EvId) (inst : Nat) (det : List Detail) (bor : Nat) (pol mand nolog : Bool) : (s.raise e inst det bor pol mand nolog).trigs = s.trigs :=
  (State.raise_keeps (Keeps.refl (compMask eventComps) s) rfl e inst det bor pol mand nolog).trigs rfl
@[simp] theorem State.raise_spxTx (s : State) (e : EvId) (inst : Nat) (det : List Detail) (bor : Nat) (pol mand nolog : Bool) : (s.raise e inst det bor pol mand nolog).spxTx = s.spxTx :=
  (State.raise_keeps (Keeps.refl (compMask eventComps) s) rfl e inst det bor pol mand nolog).spxTx rfl
@[simp] theorem State.raise_bmacSwaps (s : State) (e : EvId) (inst : Nat) (det : List Detail) (bor : Nat) (pol mand nolog : Bool) : (s.raise e inst det bor pol mand nolog).bmacSwaps = s.bmacSwaps :=
  (State.raise_keeps (Keeps.refl (compMask eventComps) s) rfl e inst det bor pol mand nolog).bmacSwaps rfl
@[simp] theorem State.raise_fe (s : State) (e : EvId) (inst : Nat) (det : List Detail) (bor : Nat) (pol mand nolog : Bool) : (s.raise e inst det bor pol mand nolog).fe = s.fe :=
  (State.raise_keeps (Keeps.refl (compMask eventComps) s) rfl e inst det bor pol mand nolog).fe rfl
@[simp] theorem State.raise_pcvs (s : State) (e : EvId) (inst : Nat) (det : List Detail) (bor : Nat) (pol mand nolog : Bool) : (s.raise e inst det bor pol mand nolog).pcvs = s.pcvs :=
  (State.raise_keeps (Keeps.refl (compMask eventComps) s) rfl e inst det bor pol mand nolog).pcvs rfl
@[simp] theorem State.raise_sfeChs (s : State) (e : EvId) (inst : Nat) (det : List Detail) (bor : Nat) (pol mand nolog : Bool) : (s.raise e inst det bor pol mand nolog).sfeChs = s.sfeChs :=
  (State.raise_keeps (Keeps.refl (compMask eventComps) s) rfl e inst det bor pol mand nolog).sfeChs rfl
@[simp] theorem State.raise_excs (s : State) (e : EvId) (inst : Nat) (det : List Detail) (bor : Nat) (pol mand nolog : Bool) : (s.raise e inst det bor pol mand nolog).excs = s.excs :=
  (State.raise_keeps (Keeps.refl (compMask eventComps) s) rfl e inst det bor pol mand nolog).excs rfl
@[simp] theorem State.raise_trimCopies (s : State) (e : EvId) (inst : Nat) (det : List Detail) (bor : Nat) (pol mand nolog : Bool) : (s.raise e inst det bor pol mand nolog).trimCopies = s.trimCopies :=
  (State.raise_keeps (Keeps.refl (compMask eventComps) s) rfl e inst det bor pol mand nolog).trimCopies rfl
@[simp] theorem State.raise_linCopies (s : State) (e : EvId) (inst : Nat) (det : List Detail) (bor : Nat) (pol mand nolog : Bool) : (s.raise e inst det bor pol mand nolog).linCopies = s.linCopies :=
  (State.raise_keeps (Keeps.refl (compMask eventComps) s) rfl e inst det bor pol mand nolog).linCopies rfl
@[simp] theorem State.raise_nvm (s : State) (e : EvId) (inst : Nat) (det : List Detail) (bor : Nat) (pol mand nolog : Bool) : (s.raise e inst det bor pol mand nolog).nvm = s.nvm :=
  (State.raise_keeps (Keeps.refl (compMask eventComps) s) rfl e inst det bor pol mand nolog).nvm rfl
@[simp] theorem State.raise_calMeas (s : State) (e : EvId) (inst : Nat) (det : List Detail) (bor : Nat) (pol mand nolog : Bool) : (s.raise e inst det bor pol mand nolog).calMeas = s.calMeas :=
  (State.raise_keeps (Keeps.refl (compMask eventComps) s) rfl e inst det bor pol mand nolog).calMeas rfl
@[simp] theorem State.raise_trimLoaded (s : State) (e : EvId) (inst : Nat) (det : List Detail) (bor : Nat) (pol mand nolog : Bool) : (s.raise e inst det bor pol mand nolog).trimLoaded = s.trimLoaded :=
  (State.raise_keeps (Keeps.refl (compMask eventComps) s) rfl e inst det bor pol mand nolog).trimLoaded rfl
@[simp] theorem State.raise_mramBad (s : State) (e : EvId) (inst : Nat) (det : List Detail) (bor : Nat) (pol mand nolog : Bool) : (s.raise e inst det bor pol mand nolog).mramBad = s.mramBad :=
  (State.raise_keeps (Keeps.refl (compMask eventComps) s) rfl e inst det bor pol mand nolog).mramBad rfl
@[simp] theorem State.raise_ptmAt (s : State) (e : EvId) (inst : Nat) (det : List Detail) (bor : Nat) (pol mand nolog : Bool) : (s.raise e inst det bor pol mand nolog).ptmAt = s.ptmAt :=
  (State.raise_keeps (Keeps.refl (compMask eventComps) s) rfl e inst det bor pol mand nolog).ptmAt rfl
@[simp] theorem State.raise_monAt (s : State) (e : EvId) (inst : Nat) (det : List Detail) (bor : Nat) (pol mand nolog : Bool) : (s.raise e inst det bor pol mand nolog).monAt = s.monAt :=
  (State.raise_keeps (Keeps.refl (compMask eventComps) s) rfl e inst det bor pol mand nolog).monAt rfl
@[simp] theorem State.raise_bmacShed (s : State) (e : EvId) (inst : Nat) (det : List Detail) (bor : Nat) (pol mand nolog : Bool) : (s.raise e inst det bor pol mand nolog).bmacShed = s.bmacShed :=
  (State.raise_keeps (Keeps.refl (compMask eventComps) s) rfl e inst det bor pol mand nolog).bmacShed rfl
@[simp] theorem State.raise_mramMap (s : State) (e : EvId) (inst : Nat) (det : List Detail) (bor : Nat) (pol mand nolog : Bool) : (s.raise e inst det bor pol mand nolog).mramMap = s.mramMap :=
  (State.raise_keeps (Keeps.refl (compMask eventComps) s) rfl e inst det bor pol mand nolog).mramMap rfl
@[simp] theorem State.raise_part (s : State) (e : EvId) (inst : Nat) (det : List Detail) (bor : Nat) (pol mand nolog : Bool) : (s.raise e inst det bor pol mand nolog).part = s.part :=
  (State.raise_keeps (Keeps.refl (compMask eventComps) s) rfl e inst det bor pol mand nolog).part rfl
@[simp] theorem State.raise_timCal (s : State) (e : EvId) (inst : Nat) (det : List Detail) (bor : Nat) (pol mand nolog : Bool) : (s.raise e inst det bor pol mand nolog).timCal = s.timCal :=
  (State.raise_keeps (Keeps.refl (compMask eventComps) s) rfl e inst det bor pol mand nolog).timCal rfl
@[simp] theorem State.raise_plots (s : State) (e : EvId) (inst : Nat) (det : List Detail) (bor : Nat) (pol mand nolog : Bool) : (s.raise e inst det bor pol mand nolog).plots = s.plots :=
  (State.raise_keeps (Keeps.refl (compMask eventComps) s) rfl e inst det bor pol mand nolog).plots rfl
@[simp] theorem State.raise_ques (s : State) (e : EvId) (inst : Nat) (det : List Detail) (bor : Nat) (pol mand nolog : Bool) : (s.raise e inst det bor pol mand nolog).ques = s.ques :=
  (State.raise_keeps (Keeps.refl (compMask eventComps) s) rfl e inst det bor pol mand nolog).ques rfl
@[simp] theorem State.raise_plotBook (s : State) (e : EvId) (inst : Nat) (det : List Detail) (bor : Nat) (pol mand nolog : Bool) : (s.raise e inst det bor pol mand nolog).plotBook = s.plotBook :=
  (State.raise_keeps (Keeps.refl (compMask eventComps) s) rfl e inst det bor pol mand nolog).plotBook rfl
@[simp] theorem State.raise_copies (s : State) (e : EvId) (inst : Nat) (det : List Detail) (bor : Nat) (pol mand nolog : Bool) : (s.raise e inst det bor pol mand nolog).copies = s.copies :=
  (State.raise_keeps (Keeps.refl (compMask eventComps) s) rfl e inst det bor pol mand nolog).copies rfl
@[simp] theorem State.raise_raws (s : State) (e : EvId) (inst : Nat) (det : List Detail) (bor : Nat) (pol mand nolog : Bool) : (s.raise e inst det bor pol mand nolog).raws = s.raws :=
  (State.raise_keeps (Keeps.refl (compMask eventComps) s) rfl e inst det bor pol mand nolog).raws rfl
@[simp] theorem State.raise_ring (s : State) (e : EvId) (inst : Nat) (det : List Detail) (bor : Nat) (pol mand nolog : Bool) : (s.raise e inst det bor pol mand nolog).ring = s.ring :=
  (State.raise_keeps (Keeps.refl (compMask eventComps) s) rfl e inst det bor pol mand nolog).ring rfl
@[simp] theorem State.raise_jobs (s : State) (e : EvId) (inst : Nat) (det : List Detail) (bor : Nat) (pol mand nolog : Bool) : (s.raise e inst det bor pol mand nolog).jobs = s.jobs :=
  (State.raise_keeps (Keeps.refl (compMask eventComps) s) rfl e inst det bor pol mand nolog).jobs rfl
@[simp] theorem State.raise_dxNext (s : State) (e : EvId) (inst : Nat) (det : List Detail) (bor : Nat) (pol mand nolog : Bool) : (s.raise e inst det bor pol mand nolog).dxNext = s.dxNext :=
  (State.raise_keeps (Keeps.refl (compMask eventComps) s) rfl e inst det bor pol mand nolog).dxNext rfl
@[simp] theorem State.raise_trgOuts (s : State) (e : EvId) (inst : Nat) (det : List Detail) (bor : Nat) (pol mand nolog : Bool) : (s.raise e inst det bor pol mand nolog).trgOuts = s.trgOuts :=
  (State.raise_keeps (Keeps.refl (compMask eventComps) s) rfl e inst det bor pol mand nolog).trgOuts rfl
@[simp] theorem State.raise_pulses (s : State) (e : EvId) (inst : Nat) (det : List Detail) (bor : Nat) (pol mand nolog : Bool) : (s.raise e inst det bor pol mand nolog).pulses = s.pulses :=
  (State.raise_keeps (Keeps.refl (compMask eventComps) s) rfl e inst det bor pol mand nolog).pulses rfl
@[simp] theorem State.raise_ilines (s : State) (e : EvId) (inst : Nat) (det : List Detail) (bor : Nat) (pol mand nolog : Bool) : (s.raise e inst det bor pol mand nolog).ilines = s.ilines :=
  (State.raise_keeps (Keeps.refl (compMask eventComps) s) rfl e inst det bor pol mand nolog).ilines rfl
@[simp] theorem State.raise_netSenders (s : State) (e : EvId) (inst : Nat) (det : List Detail) (bor : Nat) (pol mand nolog : Bool) : (s.raise e inst det bor pol mand nolog).netSenders = s.netSenders :=
  (State.raise_keeps (Keeps.refl (compMask eventComps) s) rfl e inst det bor pol mand nolog).netSenders rfl
@[simp] theorem State.raise_trgSeq (s : State) (e : EvId) (inst : Nat) (det : List Detail) (bor : Nat) (pol mand nolog : Bool) : (s.raise e inst det bor pol mand nolog).trgSeq = s.trgSeq :=
  (State.raise_keeps (Keeps.refl (compMask eventComps) s) rfl e inst det bor pol mand nolog).trgSeq rfl
@[simp] theorem State.raise_capSeq (s : State) (e : EvId) (inst : Nat) (det : List Detail) (bor : Nat) (pol mand nolog : Bool) : (s.raise e inst det bor pol mand nolog).capSeq = s.capSeq :=
  (State.raise_keeps (Keeps.refl (compMask eventComps) s) rfl e inst det bor pol mand nolog).capSeq rfl
@[simp] theorem State.raise_sigs (s : State) (e : EvId) (inst : Nat) (det : List Detail) (bor : Nat) (pol mand nolog : Bool) : (s.raise e inst det bor pol mand nolog).sigs = s.sigs :=
  (State.raise_keeps (Keeps.refl (compMask eventComps) s) rfl e inst det bor pol mand nolog).sigs rfl
@[simp] theorem State.raise_mgb (s : State) (e : EvId) (inst : Nat) (det : List Detail) (bor : Nat) (pol mand nolog : Bool) : (s.raise e inst det bor pol mand nolog).mgb = s.mgb :=
  (State.raise_keeps (Keeps.refl (compMask eventComps) s) rfl e inst det bor pol mand nolog).mgb rfl
@[simp] theorem State.raise_tap (s : State) (e : EvId) (inst : Nat) (det : List Detail) (bor : Nat) (pol mand nolog : Bool) : (s.raise e inst det bor pol mand nolog).tap = s.tap :=
  (State.raise_keeps (Keeps.refl (compMask eventComps) s) rfl e inst det bor pol mand nolog).tap rfl
@[simp] theorem State.raise_porLow (s : State) (e : EvId) (inst : Nat) (det : List Detail) (bor : Nat) (pol mand nolog : Bool) : (s.raise e inst det bor pol mand nolog).porLow = s.porLow :=
  (State.raise_keeps (Keeps.refl (compMask eventComps) s) rfl e inst det bor pol mand nolog).porLow rfl
@[simp] theorem State.raise_arbs (s : State) (e : EvId) (inst : Nat) (det : List Detail) (bor : Nat) (pol mand nolog : Bool) : (s.raise e inst det bor pol mand nolog).arbs = s.arbs :=
  (State.raise_keeps (Keeps.refl (compMask eventComps) s) rfl e inst det bor pol mand nolog).arbs rfl
@[simp] theorem State.raise_sheets (s : State) (e : EvId) (inst : Nat) (det : List Detail) (bor : Nat) (pol mand nolog : Bool) : (s.raise e inst det bor pol mand nolog).sheets = s.sheets :=
  (State.raise_keeps (Keeps.refl (compMask eventComps) s) rfl e inst det bor pol mand nolog).sheets rfl
@[simp] theorem State.raise_ports (s : State) (e : EvId) (inst : Nat) (det : List Detail) (bor : Nat) (pol mand nolog : Bool) : (s.raise e inst det bor pol mand nolog).ports = s.ports :=
  (State.raise_keeps (Keeps.refl (compMask eventComps) s) rfl e inst det bor pol mand nolog).ports rfl
@[simp] theorem State.raise_rxs (s : State) (e : EvId) (inst : Nat) (det : List Detail) (bor : Nat) (pol mand nolog : Bool) : (s.raise e inst det bor pol mand nolog).rxs = s.rxs :=
  (State.raise_keeps (Keeps.refl (compMask eventComps) s) rfl e inst det bor pol mand nolog).rxs rfl
@[simp] theorem State.raise_hrings (s : State) (e : EvId) (inst : Nat) (det : List Detail) (bor : Nat) (pol mand nolog : Bool) : (s.raise e inst det bor pol mand nolog).hrings = s.hrings :=
  (State.raise_keeps (Keeps.refl (compMask eventComps) s) rfl e inst det bor pol mand nolog).hrings rfl
@[simp] theorem State.raise_links (s : State) (e : EvId) (inst : Nat) (det : List Detail) (bor : Nat) (pol mand nolog : Bool) : (s.raise e inst det bor pol mand nolog).links = s.links :=
  (State.raise_keeps (Keeps.refl (compMask eventComps) s) rfl e inst det bor pol mand nolog).links rfl
@[simp] theorem State.raise_scheds (s : State) (e : EvId) (inst : Nat) (det : List Detail) (bor : Nat) (pol mand nolog : Bool) : (s.raise e inst det bor pol mand nolog).scheds = s.scheds :=
  (State.raise_keeps (Keeps.refl (compMask eventComps) s) rfl e inst det bor pol mand nolog).scheds rfl
@[simp] theorem State.raise_delivers (s : State) (e : EvId) (inst : Nat) (det : List Detail) (bor : Nat) (pol mand nolog : Bool) : (s.raise e inst det bor pol mand nolog).delivers = s.delivers :=
  (State.raise_keeps (Keeps.refl (compMask eventComps) s) rfl e inst det bor pol mand nolog).delivers rfl
@[simp] theorem State.raise_rates (s : State) (e : EvId) (inst : Nat) (det : List Detail) (bor : Nat) (pol mand nolog : Bool) : (s.raise e inst det bor pol mand nolog).rates = s.rates :=
  (State.raise_keeps (Keeps.refl (compMask eventComps) s) rfl e inst det bor pol mand nolog).rates rfl
@[simp] theorem State.raise_gaz (s : State) (e : EvId) (inst : Nat) (det : List Detail) (bor : Nat) (pol mand nolog : Bool) : (s.raise e inst det bor pol mand nolog).gaz = s.gaz :=
  (State.raise_keeps (Keeps.refl (compMask eventComps) s) rfl e inst det bor pol mand nolog).gaz rfl
@[simp] theorem State.raise_gazSends (s : State) (e : EvId) (inst : Nat) (det : List Detail) (bor : Nat) (pol mand nolog : Bool) : (s.raise e inst det bor pol mand nolog).gazSends = s.gazSends :=
  (State.raise_keeps (Keeps.refl (compMask eventComps) s) rfl e inst det bor pol mand nolog).gazSends rfl
@[simp] theorem State.raise_digests (s : State) (e : EvId) (inst : Nat) (det : List Detail) (bor : Nat) (pol mand nolog : Bool) : (s.raise e inst det bor pol mand nolog).digests = s.digests :=
  (State.raise_keeps (Keeps.refl (compMask eventComps) s) rfl e inst det bor pol mand nolog).digests rfl
@[simp] theorem State.raise_gazBook (s : State) (e : EvId) (inst : Nat) (det : List Detail) (bor : Nat) (pol mand nolog : Bool) : (s.raise e inst det bor pol mand nolog).gazBook = s.gazBook :=
  (State.raise_keeps (Keeps.refl (compMask eventComps) s) rfl e inst det bor pol mand nolog).gazBook rfl
@[simp] theorem State.raise_engSwaps (s : State) (e : EvId) (inst : Nat) (det : List Detail) (bor : Nat) (pol mand nolog : Bool) : (s.raise e inst det bor pol mand nolog).engSwaps = s.engSwaps :=
  (State.raise_keeps (Keeps.refl (compMask eventComps) s) rfl e inst det bor pol mand nolog).engSwaps rfl
@[simp] theorem State.raise_engErrs (s : State) (e : EvId) (inst : Nat) (det : List Detail) (bor : Nat) (pol mand nolog : Bool) : (s.raise e inst det bor pol mand nolog).engErrs = s.engErrs :=
  (State.raise_keeps (Keeps.refl (compMask eventComps) s) rfl e inst det bor pol mand nolog).engErrs rfl
@[simp] theorem State.raise_coreDog (s : State) (e : EvId) (inst : Nat) (det : List Detail) (bor : Nat) (pol mand nolog : Bool) : (s.raise e inst det bor pol mand nolog).coreDog = s.coreDog :=
  (State.raise_keeps (Keeps.refl (compMask eventComps) s) rfl e inst det bor pol mand nolog).coreDog rfl
@[simp] theorem State.raise_start (s : State) (e : EvId) (inst : Nat) (det : List Detail) (bor : Nat) (pol mand nolog : Bool) : (s.raise e inst det bor pol mand nolog).start = s.start :=
  (State.raise_keeps (Keeps.refl (compMask eventComps) s) rfl e inst det bor pol mand nolog).start rfl
@[simp] theorem State.raise_images (s : State) (e : EvId) (inst : Nat) (det : List Detail) (bor : Nat) (pol mand nolog : Bool) : (s.raise e inst det bor pol mand nolog).images = s.images :=
  (State.raise_keeps (Keeps.refl (compMask eventComps) s) rfl e inst det bor pol mand nolog).images rfl
@[simp] theorem State.raise_drawn (s : State) (e : EvId) (inst : Nat) (det : List Detail) (bor : Nat) (pol mand nolog : Bool) : (s.raise e inst det bor pol mand nolog).drawn = s.drawn :=
  (State.raise_keeps (Keeps.refl (compMask eventComps) s) rfl e inst det bor pol mand nolog).drawn rfl
@[simp] theorem State.raise_pending (s : State) (e : EvId) (inst : Nat) (det : List Detail) (bor : Nat) (pol mand nolog : Bool) : (s.raise e inst det bor pol mand nolog).pending = s.pending :=
  (State.raise_keeps (Keeps.refl (compMask eventComps) s) rfl e inst det bor pol mand nolog).pending rfl
@[simp] theorem State.mergeRaw_force (s : State) (k : Nat) (w : Wr) : (s.mergeRaw k w).force = s.force :=
  (State.mergeRaw_keeps (Keeps.refl (compMask eventComps) s) rfl k w).force rfl
@[simp] theorem State.mergeRaw_aper (s : State) (k : Nat) (w : Wr) : (s.mergeRaw k w).aper = s.aper :=
  (State.mergeRaw_keeps (Keeps.refl (compMask eventComps) s) rfl k w).aper rfl
@[simp] theorem State.mergeRaw_tb (s : State) (k : Nat) (w : Wr) : (s.mergeRaw k w).tb = s.tb :=
  (State.mergeRaw_keeps (Keeps.refl (compMask eventComps) s) rfl k w).tb rfl
@[simp] theorem State.mergeRaw_txts (s : State) (k : Nat) (w : Wr) : (s.mergeRaw k w).txts = s.txts :=
  (State.mergeRaw_keeps (Keeps.refl (compMask eventComps) s) rfl k w).txts rfl
@[simp] theorem State.mergeRaw_funcs (s : State) (k : Nat) (w : Wr) : (s.mergeRaw k w).funcs = s.funcs :=
  (State.mergeRaw_keeps (Keeps.refl (compMask eventComps) s) rfl k w).funcs rfl
@[simp] theorem State.mergeRaw_linkUp (s : State) (k : Nat) (w : Wr) : (s.mergeRaw k w).linkUp = s.linkUp :=
  (State.mergeRaw_keeps (Keeps.refl (compMask eventComps) s) rfl k w).linkUp rfl
@[simp] theorem State.mergeRaw_ptm (s : State) (k : Nat) (w : Wr) : (s.mergeRaw k w).ptm = s.ptm :=
  (State.mergeRaw_keeps (Keeps.refl (compMask eventComps) s) rfl k w).ptm rfl
@[simp] theorem State.mergeRaw_staged (s : State) (k : Nat) (w : Wr) : (s.mergeRaw k w).staged = s.staged :=
  (State.mergeRaw_keeps (Keeps.refl (compMask eventComps) s) rfl k w).staged rfl
@[simp] theorem State.mergeRaw_tags (s : State) (k : Nat) (w : Wr) : (s.mergeRaw k w).tags = s.tags :=
  (State.mergeRaw_keeps (Keeps.refl (compMask eventComps) s) rfl k w).tags rfl
@[simp] theorem State.mergeRaw_envs (s : State) (k : Nat) (w : Wr) : (s.mergeRaw k w).envs = s.envs :=
  (State.mergeRaw_keeps (Keeps.refl (compMask eventComps) s) rfl k w).envs rfl
@[simp] theorem State.mergeRaw_keys (s : State) (k : Nat) (w : Wr) : (s.mergeRaw k w).keys = s.keys :=
  (State.mergeRaw_keeps (Keeps.refl (compMask eventComps) s) rfl k w).keys rfl
@[simp] theorem State.mergeRaw_keyStage (s : State) (k : Nat) (w : Wr) : (s.mergeRaw k w).keyStage = s.keyStage :=
  (State.mergeRaw_keeps (Keeps.refl (compMask eventComps) s) rfl k w).keyStage rfl
@[simp] theorem State.mergeRaw_crings (s : State) (k : Nat) (w : Wr) : (s.mergeRaw k w).crings = s.crings :=
  (State.mergeRaw_keeps (Keeps.refl (compMask eventComps) s) rfl k w).crings rfl
@[simp] theorem State.mergeRaw_quesOn (s : State) (k : Nat) (w : Wr) : (s.mergeRaw k w).quesOn = s.quesOn :=
  (State.mergeRaw_keeps (Keeps.refl (compMask eventComps) s) rfl k w).quesOn rfl
@[simp] theorem State.mergeRaw_cmds (s : State) (k : Nat) (w : Wr) : (s.mergeRaw k w).cmds = s.cmds :=
  (State.mergeRaw_keeps (Keeps.refl (compMask eventComps) s) rfl k w).cmds rfl
@[simp] theorem State.mergeRaw_fenced (s : State) (k : Nat) (w : Wr) : (s.mergeRaw k w).fenced = s.fenced :=
  (State.mergeRaw_keeps (Keeps.refl (compMask eventComps) s) rfl k w).fenced rfl
@[simp] theorem State.mergeRaw_lateAt (s : State) (k : Nat) (w : Wr) : (s.mergeRaw k w).lateAt = s.lateAt :=
  (State.mergeRaw_keeps (Keeps.refl (compMask eventComps) s) rfl k w).lateAt rfl
@[simp] theorem State.mergeRaw_slots (s : State) (k : Nat) (w : Wr) : (s.mergeRaw k w).slots = s.slots :=
  (State.mergeRaw_keeps (Keeps.refl (compMask eventComps) s) rfl k w).slots rfl
@[simp] theorem State.mergeRaw_gridNext (s : State) (k : Nat) (w : Wr) : (s.mergeRaw k w).gridNext = s.gridNext :=
  (State.mergeRaw_keeps (Keeps.refl (compMask eventComps) s) rfl k w).gridNext rfl
@[simp] theorem State.mergeRaw_captures (s : State) (k : Nat) (w : Wr) : (s.mergeRaw k w).captures = s.captures :=
  (State.mergeRaw_keeps (Keeps.refl (compMask eventComps) s) rfl k w).captures rfl
@[simp] theorem State.mergeRaw_tdc (s : State) (k : Nat) (w : Wr) : (s.mergeRaw k w).tdc = s.tdc :=
  (State.mergeRaw_keeps (Keeps.refl (compMask eventComps) s) rfl k w).tdc rfl
@[simp] theorem State.mergeRaw_tdcSwitches (s : State) (k : Nat) (w : Wr) : (s.mergeRaw k w).tdcSwitches = s.tdcSwitches :=
  (State.mergeRaw_keeps (Keeps.refl (compMask eventComps) s) rfl k w).tdcSwitches rfl
@[simp] theorem State.mergeRaw_edges (s : State) (k : Nat) (w : Wr) : (s.mergeRaw k w).edges = s.edges :=
  (State.mergeRaw_keeps (Keeps.refl (compMask eventComps) s) rfl k w).edges rfl
@[simp] theorem State.mergeRaw_tagQ (s : State) (k : Nat) (w : Wr) : (s.mergeRaw k w).tagQ = s.tagQ :=
  (State.mergeRaw_keeps (Keeps.refl (compMask eventComps) s) rfl k w).tagQ rfl
@[simp] theorem State.mergeRaw_freqs (s : State) (k : Nat) (w : Wr) : (s.mergeRaw k w).freqs = s.freqs :=
  (State.mergeRaw_keeps (Keeps.refl (compMask eventComps) s) rfl k w).freqs rfl
@[simp] theorem State.mergeRaw_cgLost (s : State) (k : Nat) (w : Wr) : (s.mergeRaw k w).cgLost = s.cgLost :=
  (State.mergeRaw_keeps (Keeps.refl (compMask eventComps) s) rfl k w).cgLost rfl
@[simp] theorem State.mergeRaw_monQ (s : State) (k : Nat) (w : Wr) : (s.mergeRaw k w).monQ = s.monQ :=
  (State.mergeRaw_keeps (Keeps.refl (compMask eventComps) s) rfl k w).monQ rfl
@[simp] theorem State.mergeRaw_monSeq (s : State) (k : Nat) (w : Wr) : (s.mergeRaw k w).monSeq = s.monSeq :=
  (State.mergeRaw_keeps (Keeps.refl (compMask eventComps) s) rfl k w).monSeq rfl
@[simp] theorem State.mergeRaw_monLost (s : State) (k : Nat) (w : Wr) : (s.mergeRaw k w).monLost = s.monLost :=
  (State.mergeRaw_keeps (Keeps.refl (compMask eventComps) s) rfl k w).monLost rfl
@[simp] theorem State.mergeRaw_popWait (s : State) (k : Nat) (w : Wr) : (s.mergeRaw k w).popWait = s.popWait :=
  (State.mergeRaw_keeps (Keeps.refl (compMask eventComps) s) rfl k w).popWait rfl
@[simp] theorem State.mergeRaw_spareBook (s : State) (k : Nat) (w : Wr) : (s.mergeRaw k w).spareBook = s.spareBook :=
  (State.mergeRaw_keeps (Keeps.refl (compMask eventComps) s) rfl k w).spareBook rfl
@[simp] theorem State.mergeRaw_trimImg (s : State) (k : Nat) (w : Wr) : (s.mergeRaw k w).trimImg = s.trimImg :=
  (State.mergeRaw_keeps (Keeps.refl (compMask eventComps) s) rfl k w).trimImg rfl
@[simp] theorem State.mergeRaw_grps (s : State) (k : Nat) (w : Wr) : (s.mergeRaw k w).grps = s.grps :=
  (State.mergeRaw_keeps (Keeps.refl (compMask eventComps) s) rfl k w).grps rfl
@[simp] theorem State.mergeRaw_inps (s : State) (k : Nat) (w : Wr) : (s.mergeRaw k w).inps = s.inps :=
  (State.mergeRaw_keeps (Keeps.refl (compMask eventComps) s) rfl k w).inps rfl
@[simp] theorem State.mergeRaw_beams (s : State) (k : Nat) (w : Wr) : (s.mergeRaw k w).beams = s.beams :=
  (State.mergeRaw_keeps (Keeps.refl (compMask eventComps) s) rfl k w).beams rfl
@[simp] theorem State.mergeRaw_partials (s : State) (k : Nat) (w : Wr) : (s.mergeRaw k w).partials = s.partials :=
  (State.mergeRaw_keeps (Keeps.refl (compMask eventComps) s) rfl k w).partials rfl
@[simp] theorem State.mergeRaw_nodes (s : State) (k : Nat) (w : Wr) : (s.mergeRaw k w).nodes = s.nodes :=
  (State.mergeRaw_keeps (Keeps.refl (compMask eventComps) s) rfl k w).nodes rfl
@[simp] theorem State.mergeRaw_blanks (s : State) (k : Nat) (w : Wr) : (s.mergeRaw k w).blanks = s.blanks :=
  (State.mergeRaw_keeps (Keeps.refl (compMask eventComps) s) rfl k w).blanks rfl
@[simp] theorem State.mergeRaw_injects (s : State) (k : Nat) (w : Wr) : (s.mergeRaw k w).injects = s.injects :=
  (State.mergeRaw_keeps (Keeps.refl (compMask eventComps) s) rfl k w).injects rfl
@[simp] theorem State.mergeRaw_items (s : State) (k : Nat) (w : Wr) : (s.mergeRaw k w).items = s.items :=
  (State.mergeRaw_keeps (Keeps.refl (compMask eventComps) s) rfl k w).items rfl
@[simp] theorem State.mergeRaw_units (s : State) (k : Nat) (w : Wr) : (s.mergeRaw k w).units = s.units :=
  (State.mergeRaw_keeps (Keeps.refl (compMask eventComps) s) rfl k w).units rfl
@[simp] theorem State.mergeRaw_failingSlots (s : State) (k : Nat) (w : Wr) : (s.mergeRaw k w).failingSlots = s.failingSlots :=
  (State.mergeRaw_keeps (Keeps.refl (compMask eventComps) s) rfl k w).failingSlots rfl
@[simp] theorem State.mergeRaw_retiredSlots (s : State) (k : Nat) (w : Wr) : (s.mergeRaw k w).retiredSlots = s.retiredSlots :=
  (State.mergeRaw_keeps (Keeps.refl (compMask eventComps) s) rfl k w).retiredSlots rfl
@[simp] theorem State.mergeRaw_trigs (s : State) (k : Nat) (w : Wr) : (s.mergeRaw k w).trigs = s.trigs :=
  (State.mergeRaw_keeps (Keeps.refl (compMask eventComps) s) rfl k w).trigs rfl
@[simp] theorem State.mergeRaw_spxTx (s : State) (k : Nat) (w : Wr) : (s.mergeRaw k w).spxTx = s.spxTx :=
  (State.mergeRaw_keeps (Keeps.refl (compMask eventComps) s) rfl k w).spxTx rfl
@[simp] theorem State.mergeRaw_bmacSwaps (s : State) (k : Nat) (w : Wr) : (s.mergeRaw k w).bmacSwaps = s.bmacSwaps :=
  (State.mergeRaw_keeps (Keeps.refl (compMask eventComps) s) rfl k w).bmacSwaps rfl
@[simp] theorem State.mergeRaw_fe (s : State) (k : Nat) (w : Wr) : (s.mergeRaw k w).fe = s.fe :=
  (State.mergeRaw_keeps (Keeps.refl (compMask eventComps) s) rfl k w).fe rfl
@[simp] theorem State.mergeRaw_pcvs (s : State) (k : Nat) (w : Wr) : (s.mergeRaw k w).pcvs = s.pcvs :=
  (State.mergeRaw_keeps (Keeps.refl (compMask eventComps) s) rfl k w).pcvs rfl
@[simp] theorem State.mergeRaw_sfeChs (s : State) (k : Nat) (w : Wr) : (s.mergeRaw k w).sfeChs = s.sfeChs :=
  (State.mergeRaw_keeps (Keeps.refl (compMask eventComps) s) rfl k w).sfeChs rfl
@[simp] theorem State.mergeRaw_excs (s : State) (k : Nat) (w : Wr) : (s.mergeRaw k w).excs = s.excs :=
  (State.mergeRaw_keeps (Keeps.refl (compMask eventComps) s) rfl k w).excs rfl
@[simp] theorem State.mergeRaw_trimCopies (s : State) (k : Nat) (w : Wr) : (s.mergeRaw k w).trimCopies = s.trimCopies :=
  (State.mergeRaw_keeps (Keeps.refl (compMask eventComps) s) rfl k w).trimCopies rfl
@[simp] theorem State.mergeRaw_linCopies (s : State) (k : Nat) (w : Wr) : (s.mergeRaw k w).linCopies = s.linCopies :=
  (State.mergeRaw_keeps (Keeps.refl (compMask eventComps) s) rfl k w).linCopies rfl
@[simp] theorem State.mergeRaw_nvm (s : State) (k : Nat) (w : Wr) : (s.mergeRaw k w).nvm = s.nvm :=
  (State.mergeRaw_keeps (Keeps.refl (compMask eventComps) s) rfl k w).nvm rfl
@[simp] theorem State.mergeRaw_calMeas (s : State) (k : Nat) (w : Wr) : (s.mergeRaw k w).calMeas = s.calMeas :=
  (State.mergeRaw_keeps (Keeps.refl (compMask eventComps) s) rfl k w).calMeas rfl
@[simp] theorem State.mergeRaw_trimLoaded (s : State) (k : Nat) (w : Wr) : (s.mergeRaw k w).trimLoaded = s.trimLoaded :=
  (State.mergeRaw_keeps (Keeps.refl (compMask eventComps) s) rfl k w).trimLoaded rfl
@[simp] theorem State.mergeRaw_mramBad (s : State) (k : Nat) (w : Wr) : (s.mergeRaw k w).mramBad = s.mramBad :=
  (State.mergeRaw_keeps (Keeps.refl (compMask eventComps) s) rfl k w).mramBad rfl
@[simp] theorem State.mergeRaw_ptmAt (s : State) (k : Nat) (w : Wr) : (s.mergeRaw k w).ptmAt = s.ptmAt :=
  (State.mergeRaw_keeps (Keeps.refl (compMask eventComps) s) rfl k w).ptmAt rfl
@[simp] theorem State.mergeRaw_monAt (s : State) (k : Nat) (w : Wr) : (s.mergeRaw k w).monAt = s.monAt :=
  (State.mergeRaw_keeps (Keeps.refl (compMask eventComps) s) rfl k w).monAt rfl
@[simp] theorem State.mergeRaw_bmacShed (s : State) (k : Nat) (w : Wr) : (s.mergeRaw k w).bmacShed = s.bmacShed :=
  (State.mergeRaw_keeps (Keeps.refl (compMask eventComps) s) rfl k w).bmacShed rfl
@[simp] theorem State.mergeRaw_mramMap (s : State) (k : Nat) (w : Wr) : (s.mergeRaw k w).mramMap = s.mramMap :=
  (State.mergeRaw_keeps (Keeps.refl (compMask eventComps) s) rfl k w).mramMap rfl
@[simp] theorem State.mergeRaw_part (s : State) (k : Nat) (w : Wr) : (s.mergeRaw k w).part = s.part :=
  (State.mergeRaw_keeps (Keeps.refl (compMask eventComps) s) rfl k w).part rfl
@[simp] theorem State.mergeRaw_timCal (s : State) (k : Nat) (w : Wr) : (s.mergeRaw k w).timCal = s.timCal :=
  (State.mergeRaw_keeps (Keeps.refl (compMask eventComps) s) rfl k w).timCal rfl
@[simp] theorem State.mergeRaw_plots (s : State) (k : Nat) (w : Wr) : (s.mergeRaw k w).plots = s.plots :=
  (State.mergeRaw_keeps (Keeps.refl (compMask eventComps) s) rfl k w).plots rfl
@[simp] theorem State.mergeRaw_ques (s : State) (k : Nat) (w : Wr) : (s.mergeRaw k w).ques = s.ques :=
  (State.mergeRaw_keeps (Keeps.refl (compMask eventComps) s) rfl k w).ques rfl
@[simp] theorem State.mergeRaw_plotBook (s : State) (k : Nat) (w : Wr) : (s.mergeRaw k w).plotBook = s.plotBook :=
  (State.mergeRaw_keeps (Keeps.refl (compMask eventComps) s) rfl k w).plotBook rfl
@[simp] theorem State.mergeRaw_copies (s : State) (k : Nat) (w : Wr) : (s.mergeRaw k w).copies = s.copies :=
  (State.mergeRaw_keeps (Keeps.refl (compMask eventComps) s) rfl k w).copies rfl
@[simp] theorem State.mergeRaw_raws (s : State) (k : Nat) (w : Wr) : (s.mergeRaw k w).raws = s.raws :=
  (State.mergeRaw_keeps (Keeps.refl (compMask eventComps) s) rfl k w).raws rfl
@[simp] theorem State.mergeRaw_ring (s : State) (k : Nat) (w : Wr) : (s.mergeRaw k w).ring = s.ring :=
  (State.mergeRaw_keeps (Keeps.refl (compMask eventComps) s) rfl k w).ring rfl
@[simp] theorem State.mergeRaw_jobs (s : State) (k : Nat) (w : Wr) : (s.mergeRaw k w).jobs = s.jobs :=
  (State.mergeRaw_keeps (Keeps.refl (compMask eventComps) s) rfl k w).jobs rfl
@[simp] theorem State.mergeRaw_dxNext (s : State) (k : Nat) (w : Wr) : (s.mergeRaw k w).dxNext = s.dxNext :=
  (State.mergeRaw_keeps (Keeps.refl (compMask eventComps) s) rfl k w).dxNext rfl
@[simp] theorem State.mergeRaw_trgOuts (s : State) (k : Nat) (w : Wr) : (s.mergeRaw k w).trgOuts = s.trgOuts :=
  (State.mergeRaw_keeps (Keeps.refl (compMask eventComps) s) rfl k w).trgOuts rfl
@[simp] theorem State.mergeRaw_pulses (s : State) (k : Nat) (w : Wr) : (s.mergeRaw k w).pulses = s.pulses :=
  (State.mergeRaw_keeps (Keeps.refl (compMask eventComps) s) rfl k w).pulses rfl
@[simp] theorem State.mergeRaw_ilines (s : State) (k : Nat) (w : Wr) : (s.mergeRaw k w).ilines = s.ilines :=
  (State.mergeRaw_keeps (Keeps.refl (compMask eventComps) s) rfl k w).ilines rfl
@[simp] theorem State.mergeRaw_netSenders (s : State) (k : Nat) (w : Wr) : (s.mergeRaw k w).netSenders = s.netSenders :=
  (State.mergeRaw_keeps (Keeps.refl (compMask eventComps) s) rfl k w).netSenders rfl
@[simp] theorem State.mergeRaw_trgSeq (s : State) (k : Nat) (w : Wr) : (s.mergeRaw k w).trgSeq = s.trgSeq :=
  (State.mergeRaw_keeps (Keeps.refl (compMask eventComps) s) rfl k w).trgSeq rfl
@[simp] theorem State.mergeRaw_capSeq (s : State) (k : Nat) (w : Wr) : (s.mergeRaw k w).capSeq = s.capSeq :=
  (State.mergeRaw_keeps (Keeps.refl (compMask eventComps) s) rfl k w).capSeq rfl
@[simp] theorem State.mergeRaw_sigs (s : State) (k : Nat) (w : Wr) : (s.mergeRaw k w).sigs = s.sigs :=
  (State.mergeRaw_keeps (Keeps.refl (compMask eventComps) s) rfl k w).sigs rfl
@[simp] theorem State.mergeRaw_mgb (s : State) (k : Nat) (w : Wr) : (s.mergeRaw k w).mgb = s.mgb :=
  (State.mergeRaw_keeps (Keeps.refl (compMask eventComps) s) rfl k w).mgb rfl
@[simp] theorem State.mergeRaw_tap (s : State) (k : Nat) (w : Wr) : (s.mergeRaw k w).tap = s.tap :=
  (State.mergeRaw_keeps (Keeps.refl (compMask eventComps) s) rfl k w).tap rfl
@[simp] theorem State.mergeRaw_porLow (s : State) (k : Nat) (w : Wr) : (s.mergeRaw k w).porLow = s.porLow :=
  (State.mergeRaw_keeps (Keeps.refl (compMask eventComps) s) rfl k w).porLow rfl
@[simp] theorem State.mergeRaw_arbs (s : State) (k : Nat) (w : Wr) : (s.mergeRaw k w).arbs = s.arbs :=
  (State.mergeRaw_keeps (Keeps.refl (compMask eventComps) s) rfl k w).arbs rfl
@[simp] theorem State.mergeRaw_sheets (s : State) (k : Nat) (w : Wr) : (s.mergeRaw k w).sheets = s.sheets :=
  (State.mergeRaw_keeps (Keeps.refl (compMask eventComps) s) rfl k w).sheets rfl
@[simp] theorem State.mergeRaw_ports (s : State) (k : Nat) (w : Wr) : (s.mergeRaw k w).ports = s.ports :=
  (State.mergeRaw_keeps (Keeps.refl (compMask eventComps) s) rfl k w).ports rfl
@[simp] theorem State.mergeRaw_rxs (s : State) (k : Nat) (w : Wr) : (s.mergeRaw k w).rxs = s.rxs :=
  (State.mergeRaw_keeps (Keeps.refl (compMask eventComps) s) rfl k w).rxs rfl
@[simp] theorem State.mergeRaw_hrings (s : State) (k : Nat) (w : Wr) : (s.mergeRaw k w).hrings = s.hrings :=
  (State.mergeRaw_keeps (Keeps.refl (compMask eventComps) s) rfl k w).hrings rfl
@[simp] theorem State.mergeRaw_links (s : State) (k : Nat) (w : Wr) : (s.mergeRaw k w).links = s.links :=
  (State.mergeRaw_keeps (Keeps.refl (compMask eventComps) s) rfl k w).links rfl
@[simp] theorem State.mergeRaw_scheds (s : State) (k : Nat) (w : Wr) : (s.mergeRaw k w).scheds = s.scheds :=
  (State.mergeRaw_keeps (Keeps.refl (compMask eventComps) s) rfl k w).scheds rfl
@[simp] theorem State.mergeRaw_delivers (s : State) (k : Nat) (w : Wr) : (s.mergeRaw k w).delivers = s.delivers :=
  (State.mergeRaw_keeps (Keeps.refl (compMask eventComps) s) rfl k w).delivers rfl
@[simp] theorem State.mergeRaw_rates (s : State) (k : Nat) (w : Wr) : (s.mergeRaw k w).rates = s.rates :=
  (State.mergeRaw_keeps (Keeps.refl (compMask eventComps) s) rfl k w).rates rfl
@[simp] theorem State.mergeRaw_gaz (s : State) (k : Nat) (w : Wr) : (s.mergeRaw k w).gaz = s.gaz :=
  (State.mergeRaw_keeps (Keeps.refl (compMask eventComps) s) rfl k w).gaz rfl
@[simp] theorem State.mergeRaw_gazSends (s : State) (k : Nat) (w : Wr) : (s.mergeRaw k w).gazSends = s.gazSends :=
  (State.mergeRaw_keeps (Keeps.refl (compMask eventComps) s) rfl k w).gazSends rfl
@[simp] theorem State.mergeRaw_digests (s : State) (k : Nat) (w : Wr) : (s.mergeRaw k w).digests = s.digests :=
  (State.mergeRaw_keeps (Keeps.refl (compMask eventComps) s) rfl k w).digests rfl
@[simp] theorem State.mergeRaw_gazBook (s : State) (k : Nat) (w : Wr) : (s.mergeRaw k w).gazBook = s.gazBook :=
  (State.mergeRaw_keeps (Keeps.refl (compMask eventComps) s) rfl k w).gazBook rfl
@[simp] theorem State.mergeRaw_engSwaps (s : State) (k : Nat) (w : Wr) : (s.mergeRaw k w).engSwaps = s.engSwaps :=
  (State.mergeRaw_keeps (Keeps.refl (compMask eventComps) s) rfl k w).engSwaps rfl
@[simp] theorem State.mergeRaw_engErrs (s : State) (k : Nat) (w : Wr) : (s.mergeRaw k w).engErrs = s.engErrs :=
  (State.mergeRaw_keeps (Keeps.refl (compMask eventComps) s) rfl k w).engErrs rfl
@[simp] theorem State.mergeRaw_coreDog (s : State) (k : Nat) (w : Wr) : (s.mergeRaw k w).coreDog = s.coreDog :=
  (State.mergeRaw_keeps (Keeps.refl (compMask eventComps) s) rfl k w).coreDog rfl
@[simp] theorem State.mergeRaw_start (s : State) (k : Nat) (w : Wr) : (s.mergeRaw k w).start = s.start :=
  (State.mergeRaw_keeps (Keeps.refl (compMask eventComps) s) rfl k w).start rfl
@[simp] theorem State.mergeRaw_images (s : State) (k : Nat) (w : Wr) : (s.mergeRaw k w).images = s.images :=
  (State.mergeRaw_keeps (Keeps.refl (compMask eventComps) s) rfl k w).images rfl
@[simp] theorem State.mergeRaw_drawn (s : State) (k : Nat) (w : Wr) : (s.mergeRaw k w).drawn = s.drawn :=
  (State.mergeRaw_keeps (Keeps.refl (compMask eventComps) s) rfl k w).drawn rfl
@[simp] theorem State.mergeRaw_pending (s : State) (k : Nat) (w : Wr) : (s.mergeRaw k w).pending = s.pending :=
  (State.mergeRaw_keeps (Keeps.refl (compMask eventComps) s) rfl k w).pending rfl
@[simp] theorem State.wr64_force (s : State) (a b : Reg) (v : Nat) : (s.wr64 a b v).force = s.force := (rfl)
@[simp] theorem State.setSub_force (s : State) (r : Reg) (a b v : Nat) : (s.setSub r a b v).force = s.force := (rfl)
@[simp] theorem State.wr64_aper (s : State) (a b : Reg) (v : Nat) : (s.wr64 a b v).aper = s.aper := (rfl)
@[simp] theorem State.setSub_aper (s : State) (r : Reg) (a b v : Nat) : (s.setSub r a b v).aper = s.aper := (rfl)
@[simp] theorem State.wr64_tb (s : State) (a b : Reg) (v : Nat) : (s.wr64 a b v).tb = s.tb := (rfl)
@[simp] theorem State.setSub_tb (s : State) (r : Reg) (a b v : Nat) : (s.setSub r a b v).tb = s.tb := (rfl)
@[simp] theorem State.wr64_txts (s : State) (a b : Reg) (v : Nat) : (s.wr64 a b v).txts = s.txts := (rfl)
@[simp] theorem State.setSub_txts (s : State) (r : Reg) (a b v : Nat) : (s.setSub r a b v).txts = s.txts := (rfl)
@[simp] theorem State.wr64_router (s : State) (a b : Reg) (v : Nat) : (s.wr64 a b v).router = s.router := (rfl)
@[simp] theorem State.setSub_router (s : State) (r : Reg) (a b v : Nat) : (s.setSub r a b v).router = s.router := (rfl)
@[simp] theorem State.wr64_windows (s : State) (a b : Reg) (v : Nat) : (s.wr64 a b v).windows = s.windows := (rfl)
@[simp] theorem State.setSub_windows (s : State) (r : Reg) (a b v : Nat) : (s.setSub r a b v).windows = s.windows := (rfl)
@[simp] theorem State.wr64_stageQ (s : State) (a b : Reg) (v : Nat) : (s.wr64 a b v).stageQ = s.stageQ := (rfl)
@[simp] theorem State.setSub_stageQ (s : State) (r : Reg) (a b v : Nat) : (s.setSub r a b v).stageQ = s.stageQ := (rfl)
@[simp] theorem State.wr64_log (s : State) (a b : Reg) (v : Nat) : (s.wr64 a b v).log = s.log := (rfl)
@[simp] theorem State.setSub_log (s : State) (r : Reg) (a b v : Nat) : (s.setSub r a b v).log = s.log := (rfl)
@[simp] theorem State.wr64_funcs (s : State) (a b : Reg) (v : Nat) : (s.wr64 a b v).funcs = s.funcs := (rfl)
@[simp] theorem State.setSub_funcs (s : State) (r : Reg) (a b v : Nat) : (s.setSub r a b v).funcs = s.funcs := (rfl)
@[simp] theorem State.wr64_linkUp (s : State) (a b : Reg) (v : Nat) : (s.wr64 a b v).linkUp = s.linkUp := (rfl)
@[simp] theorem State.setSub_linkUp (s : State) (r : Reg) (a b v : Nat) : (s.setSub r a b v).linkUp = s.linkUp := (rfl)
@[simp] theorem State.wr64_vecs (s : State) (a b : Reg) (v : Nat) : (s.wr64 a b v).vecs = s.vecs := (rfl)
@[simp] theorem State.setSub_vecs (s : State) (r : Reg) (a b v : Nat) : (s.setSub r a b v).vecs = s.vecs := (rfl)
@[simp] theorem State.wr64_ptm (s : State) (a b : Reg) (v : Nat) : (s.wr64 a b v).ptm = s.ptm := (rfl)
@[simp] theorem State.setSub_ptm (s : State) (r : Reg) (a b v : Nat) : (s.setSub r a b v).ptm = s.ptm := (rfl)
@[simp] theorem State.wr64_staged (s : State) (a b : Reg) (v : Nat) : (s.wr64 a b v).staged = s.staged := (rfl)
@[simp] theorem State.setSub_staged (s : State) (r : Reg) (a b v : Nat) : (s.setSub r a b v).staged = s.staged := (rfl)
@[simp] theorem State.wr64_tags (s : State) (a b : Reg) (v : Nat) : (s.wr64 a b v).tags = s.tags := (rfl)
@[simp] theorem State.setSub_tags (s : State) (r : Reg) (a b v : Nat) : (s.setSub r a b v).tags = s.tags := (rfl)
@[simp] theorem State.wr64_envs (s : State) (a b : Reg) (v : Nat) : (s.wr64 a b v).envs = s.envs := (rfl)
@[simp] theorem State.setSub_envs (s : State) (r : Reg) (a b v : Nat) : (s.setSub r a b v).envs = s.envs := (rfl)
@[simp] theorem State.wr64_keys (s : State) (a b : Reg) (v : Nat) : (s.wr64 a b v).keys = s.keys := (rfl)
@[simp] theorem State.setSub_keys (s : State) (r : Reg) (a b v : Nat) : (s.setSub r a b v).keys = s.keys := (rfl)
@[simp] theorem State.wr64_keyStage (s : State) (a b : Reg) (v : Nat) : (s.wr64 a b v).keyStage = s.keyStage := (rfl)
@[simp] theorem State.setSub_keyStage (s : State) (r : Reg) (a b v : Nat) : (s.setSub r a b v).keyStage = s.keyStage := (rfl)
@[simp] theorem State.wr64_crings (s : State) (a b : Reg) (v : Nat) : (s.wr64 a b v).crings = s.crings := (rfl)
@[simp] theorem State.setSub_crings (s : State) (r : Reg) (a b v : Nat) : (s.setSub r a b v).crings = s.crings := (rfl)
@[simp] theorem State.wr64_quesOn (s : State) (a b : Reg) (v : Nat) : (s.wr64 a b v).quesOn = s.quesOn := (rfl)
@[simp] theorem State.setSub_quesOn (s : State) (r : Reg) (a b v : Nat) : (s.setSub r a b v).quesOn = s.quesOn := (rfl)
@[simp] theorem State.wr64_cmds (s : State) (a b : Reg) (v : Nat) : (s.wr64 a b v).cmds = s.cmds := (rfl)
@[simp] theorem State.setSub_cmds (s : State) (r : Reg) (a b v : Nat) : (s.setSub r a b v).cmds = s.cmds := (rfl)
@[simp] theorem State.wr64_fenced (s : State) (a b : Reg) (v : Nat) : (s.wr64 a b v).fenced = s.fenced := (rfl)
@[simp] theorem State.setSub_fenced (s : State) (r : Reg) (a b v : Nat) : (s.setSub r a b v).fenced = s.fenced := (rfl)
@[simp] theorem State.wr64_lateAt (s : State) (a b : Reg) (v : Nat) : (s.wr64 a b v).lateAt = s.lateAt := (rfl)
@[simp] theorem State.setSub_lateAt (s : State) (r : Reg) (a b v : Nat) : (s.setSub r a b v).lateAt = s.lateAt := (rfl)
@[simp] theorem State.wr64_slots (s : State) (a b : Reg) (v : Nat) : (s.wr64 a b v).slots = s.slots := (rfl)
@[simp] theorem State.setSub_slots (s : State) (r : Reg) (a b v : Nat) : (s.setSub r a b v).slots = s.slots := (rfl)
@[simp] theorem State.wr64_gridNext (s : State) (a b : Reg) (v : Nat) : (s.wr64 a b v).gridNext = s.gridNext := (rfl)
@[simp] theorem State.setSub_gridNext (s : State) (r : Reg) (a b v : Nat) : (s.setSub r a b v).gridNext = s.gridNext := (rfl)
@[simp] theorem State.wr64_captures (s : State) (a b : Reg) (v : Nat) : (s.wr64 a b v).captures = s.captures := (rfl)
@[simp] theorem State.setSub_captures (s : State) (r : Reg) (a b v : Nat) : (s.setSub r a b v).captures = s.captures := (rfl)
@[simp] theorem State.wr64_tdc (s : State) (a b : Reg) (v : Nat) : (s.wr64 a b v).tdc = s.tdc := (rfl)
@[simp] theorem State.setSub_tdc (s : State) (r : Reg) (a b v : Nat) : (s.setSub r a b v).tdc = s.tdc := (rfl)
@[simp] theorem State.wr64_tdcSwitches (s : State) (a b : Reg) (v : Nat) : (s.wr64 a b v).tdcSwitches = s.tdcSwitches := (rfl)
@[simp] theorem State.setSub_tdcSwitches (s : State) (r : Reg) (a b v : Nat) : (s.setSub r a b v).tdcSwitches = s.tdcSwitches := (rfl)
@[simp] theorem State.wr64_edges (s : State) (a b : Reg) (v : Nat) : (s.wr64 a b v).edges = s.edges := (rfl)
@[simp] theorem State.setSub_edges (s : State) (r : Reg) (a b v : Nat) : (s.setSub r a b v).edges = s.edges := (rfl)
@[simp] theorem State.wr64_tagQ (s : State) (a b : Reg) (v : Nat) : (s.wr64 a b v).tagQ = s.tagQ := (rfl)
@[simp] theorem State.setSub_tagQ (s : State) (r : Reg) (a b v : Nat) : (s.setSub r a b v).tagQ = s.tagQ := (rfl)
@[simp] theorem State.wr64_freqs (s : State) (a b : Reg) (v : Nat) : (s.wr64 a b v).freqs = s.freqs := (rfl)
@[simp] theorem State.setSub_freqs (s : State) (r : Reg) (a b v : Nat) : (s.setSub r a b v).freqs = s.freqs := (rfl)
@[simp] theorem State.wr64_cgLost (s : State) (a b : Reg) (v : Nat) : (s.wr64 a b v).cgLost = s.cgLost := (rfl)
@[simp] theorem State.setSub_cgLost (s : State) (r : Reg) (a b v : Nat) : (s.setSub r a b v).cgLost = s.cgLost := (rfl)
@[simp] theorem State.wr64_monQ (s : State) (a b : Reg) (v : Nat) : (s.wr64 a b v).monQ = s.monQ := (rfl)
@[simp] theorem State.setSub_monQ (s : State) (r : Reg) (a b v : Nat) : (s.setSub r a b v).monQ = s.monQ := (rfl)
@[simp] theorem State.wr64_monSeq (s : State) (a b : Reg) (v : Nat) : (s.wr64 a b v).monSeq = s.monSeq := (rfl)
@[simp] theorem State.setSub_monSeq (s : State) (r : Reg) (a b v : Nat) : (s.setSub r a b v).monSeq = s.monSeq := (rfl)
@[simp] theorem State.wr64_monLost (s : State) (a b : Reg) (v : Nat) : (s.wr64 a b v).monLost = s.monLost := (rfl)
@[simp] theorem State.setSub_monLost (s : State) (r : Reg) (a b v : Nat) : (s.setSub r a b v).monLost = s.monLost := (rfl)
@[simp] theorem State.wr64_popWait (s : State) (a b : Reg) (v : Nat) : (s.wr64 a b v).popWait = s.popWait := (rfl)
@[simp] theorem State.setSub_popWait (s : State) (r : Reg) (a b v : Nat) : (s.setSub r a b v).popWait = s.popWait := (rfl)
@[simp] theorem State.wr64_spareBook (s : State) (a b : Reg) (v : Nat) : (s.wr64 a b v).spareBook = s.spareBook := (rfl)
@[simp] theorem State.setSub_spareBook (s : State) (r : Reg) (a b v : Nat) : (s.setSub r a b v).spareBook = s.spareBook := (rfl)
@[simp] theorem State.wr64_trimImg (s : State) (a b : Reg) (v : Nat) : (s.wr64 a b v).trimImg = s.trimImg := (rfl)
@[simp] theorem State.setSub_trimImg (s : State) (r : Reg) (a b v : Nat) : (s.setSub r a b v).trimImg = s.trimImg := (rfl)
@[simp] theorem State.wr64_grps (s : State) (a b : Reg) (v : Nat) : (s.wr64 a b v).grps = s.grps := (rfl)
@[simp] theorem State.setSub_grps (s : State) (r : Reg) (a b v : Nat) : (s.setSub r a b v).grps = s.grps := (rfl)
@[simp] theorem State.wr64_inps (s : State) (a b : Reg) (v : Nat) : (s.wr64 a b v).inps = s.inps := (rfl)
@[simp] theorem State.setSub_inps (s : State) (r : Reg) (a b v : Nat) : (s.setSub r a b v).inps = s.inps := (rfl)
@[simp] theorem State.wr64_beams (s : State) (a b : Reg) (v : Nat) : (s.wr64 a b v).beams = s.beams := (rfl)
@[simp] theorem State.setSub_beams (s : State) (r : Reg) (a b v : Nat) : (s.setSub r a b v).beams = s.beams := (rfl)
@[simp] theorem State.wr64_partials (s : State) (a b : Reg) (v : Nat) : (s.wr64 a b v).partials = s.partials := (rfl)
@[simp] theorem State.setSub_partials (s : State) (r : Reg) (a b v : Nat) : (s.setSub r a b v).partials = s.partials := (rfl)
@[simp] theorem State.wr64_nodes (s : State) (a b : Reg) (v : Nat) : (s.wr64 a b v).nodes = s.nodes := (rfl)
@[simp] theorem State.setSub_nodes (s : State) (r : Reg) (a b v : Nat) : (s.setSub r a b v).nodes = s.nodes := (rfl)
@[simp] theorem State.wr64_blanks (s : State) (a b : Reg) (v : Nat) : (s.wr64 a b v).blanks = s.blanks := (rfl)
@[simp] theorem State.setSub_blanks (s : State) (r : Reg) (a b v : Nat) : (s.setSub r a b v).blanks = s.blanks := (rfl)
@[simp] theorem State.wr64_injects (s : State) (a b : Reg) (v : Nat) : (s.wr64 a b v).injects = s.injects := (rfl)
@[simp] theorem State.setSub_injects (s : State) (r : Reg) (a b v : Nat) : (s.setSub r a b v).injects = s.injects := (rfl)
@[simp] theorem State.wr64_items (s : State) (a b : Reg) (v : Nat) : (s.wr64 a b v).items = s.items := (rfl)
@[simp] theorem State.setSub_items (s : State) (r : Reg) (a b v : Nat) : (s.setSub r a b v).items = s.items := (rfl)
@[simp] theorem State.wr64_units (s : State) (a b : Reg) (v : Nat) : (s.wr64 a b v).units = s.units := (rfl)
@[simp] theorem State.setSub_units (s : State) (r : Reg) (a b v : Nat) : (s.setSub r a b v).units = s.units := (rfl)
@[simp] theorem State.wr64_failingSlots (s : State) (a b : Reg) (v : Nat) : (s.wr64 a b v).failingSlots = s.failingSlots := (rfl)
@[simp] theorem State.setSub_failingSlots (s : State) (r : Reg) (a b v : Nat) : (s.setSub r a b v).failingSlots = s.failingSlots := (rfl)
@[simp] theorem State.wr64_retiredSlots (s : State) (a b : Reg) (v : Nat) : (s.wr64 a b v).retiredSlots = s.retiredSlots := (rfl)
@[simp] theorem State.setSub_retiredSlots (s : State) (r : Reg) (a b v : Nat) : (s.setSub r a b v).retiredSlots = s.retiredSlots := (rfl)
@[simp] theorem State.wr64_trigs (s : State) (a b : Reg) (v : Nat) : (s.wr64 a b v).trigs = s.trigs := (rfl)
@[simp] theorem State.setSub_trigs (s : State) (r : Reg) (a b v : Nat) : (s.setSub r a b v).trigs = s.trigs := (rfl)
@[simp] theorem State.wr64_spxTx (s : State) (a b : Reg) (v : Nat) : (s.wr64 a b v).spxTx = s.spxTx := (rfl)
@[simp] theorem State.setSub_spxTx (s : State) (r : Reg) (a b v : Nat) : (s.setSub r a b v).spxTx = s.spxTx := (rfl)
@[simp] theorem State.wr64_bmacSwaps (s : State) (a b : Reg) (v : Nat) : (s.wr64 a b v).bmacSwaps = s.bmacSwaps := (rfl)
@[simp] theorem State.setSub_bmacSwaps (s : State) (r : Reg) (a b v : Nat) : (s.setSub r a b v).bmacSwaps = s.bmacSwaps := (rfl)
@[simp] theorem State.wr64_fe (s : State) (a b : Reg) (v : Nat) : (s.wr64 a b v).fe = s.fe := (rfl)
@[simp] theorem State.setSub_fe (s : State) (r : Reg) (a b v : Nat) : (s.setSub r a b v).fe = s.fe := (rfl)
@[simp] theorem State.wr64_pcvs (s : State) (a b : Reg) (v : Nat) : (s.wr64 a b v).pcvs = s.pcvs := (rfl)
@[simp] theorem State.setSub_pcvs (s : State) (r : Reg) (a b v : Nat) : (s.setSub r a b v).pcvs = s.pcvs := (rfl)
@[simp] theorem State.wr64_sfeChs (s : State) (a b : Reg) (v : Nat) : (s.wr64 a b v).sfeChs = s.sfeChs := (rfl)
@[simp] theorem State.setSub_sfeChs (s : State) (r : Reg) (a b v : Nat) : (s.setSub r a b v).sfeChs = s.sfeChs := (rfl)
@[simp] theorem State.wr64_excs (s : State) (a b : Reg) (v : Nat) : (s.wr64 a b v).excs = s.excs := (rfl)
@[simp] theorem State.setSub_excs (s : State) (r : Reg) (a b v : Nat) : (s.setSub r a b v).excs = s.excs := (rfl)
@[simp] theorem State.wr64_trimCopies (s : State) (a b : Reg) (v : Nat) : (s.wr64 a b v).trimCopies = s.trimCopies := (rfl)
@[simp] theorem State.setSub_trimCopies (s : State) (r : Reg) (a b v : Nat) : (s.setSub r a b v).trimCopies = s.trimCopies := (rfl)
@[simp] theorem State.wr64_linCopies (s : State) (a b : Reg) (v : Nat) : (s.wr64 a b v).linCopies = s.linCopies := (rfl)
@[simp] theorem State.setSub_linCopies (s : State) (r : Reg) (a b v : Nat) : (s.setSub r a b v).linCopies = s.linCopies := (rfl)
@[simp] theorem State.wr64_nvm (s : State) (a b : Reg) (v : Nat) : (s.wr64 a b v).nvm = s.nvm := (rfl)
@[simp] theorem State.setSub_nvm (s : State) (r : Reg) (a b v : Nat) : (s.setSub r a b v).nvm = s.nvm := (rfl)
@[simp] theorem State.wr64_calMeas (s : State) (a b : Reg) (v : Nat) : (s.wr64 a b v).calMeas = s.calMeas := (rfl)
@[simp] theorem State.setSub_calMeas (s : State) (r : Reg) (a b v : Nat) : (s.setSub r a b v).calMeas = s.calMeas := (rfl)
@[simp] theorem State.wr64_trimLoaded (s : State) (a b : Reg) (v : Nat) : (s.wr64 a b v).trimLoaded = s.trimLoaded := (rfl)
@[simp] theorem State.setSub_trimLoaded (s : State) (r : Reg) (a b v : Nat) : (s.setSub r a b v).trimLoaded = s.trimLoaded := (rfl)
@[simp] theorem State.wr64_mramBad (s : State) (a b : Reg) (v : Nat) : (s.wr64 a b v).mramBad = s.mramBad := (rfl)
@[simp] theorem State.wr64_ptmAt (s : State) (a b : Reg) (v : Nat) : (s.wr64 a b v).ptmAt = s.ptmAt := (rfl)
@[simp] theorem State.wr64_monAt (s : State) (a b : Reg) (v : Nat) : (s.wr64 a b v).monAt = s.monAt := (rfl)
@[simp] theorem State.wr64_bmacShed (s : State) (a b : Reg) (v : Nat) : (s.wr64 a b v).bmacShed = s.bmacShed := (rfl)
@[simp] theorem State.wr64_mramMap (s : State) (a b : Reg) (v : Nat) : (s.wr64 a b v).mramMap = s.mramMap := (rfl)
@[simp] theorem State.wr64_part (s : State) (a b : Reg) (v : Nat) : (s.wr64 a b v).part = s.part := (rfl)
@[simp] theorem State.wr64_timCal (s : State) (a b : Reg) (v : Nat) : (s.wr64 a b v).timCal = s.timCal := (rfl)
@[simp] theorem State.setSub_mramBad (s : State) (r : Reg) (a b v : Nat) : (s.setSub r a b v).mramBad = s.mramBad := (rfl)
@[simp] theorem State.setSub_ptmAt (s : State) (r : Reg) (a b v : Nat) : (s.setSub r a b v).ptmAt = s.ptmAt := (rfl)
@[simp] theorem State.setSub_monAt (s : State) (r : Reg) (a b v : Nat) : (s.setSub r a b v).monAt = s.monAt := (rfl)
@[simp] theorem State.setSub_bmacShed (s : State) (r : Reg) (a b v : Nat) : (s.setSub r a b v).bmacShed = s.bmacShed := (rfl)
@[simp] theorem State.setSub_mramMap (s : State) (r : Reg) (a b v : Nat) : (s.setSub r a b v).mramMap = s.mramMap := (rfl)
@[simp] theorem State.setSub_part (s : State) (r : Reg) (a b v : Nat) : (s.setSub r a b v).part = s.part := (rfl)
@[simp] theorem State.setSub_timCal (s : State) (r : Reg) (a b v : Nat) : (s.setSub r a b v).timCal = s.timCal := (rfl)
@[simp] theorem State.wr64_plots (s : State) (a b : Reg) (v : Nat) : (s.wr64 a b v).plots = s.plots := (rfl)
@[simp] theorem State.setSub_plots (s : State) (r : Reg) (a b v : Nat) : (s.setSub r a b v).plots = s.plots := (rfl)
@[simp] theorem State.wr64_ques (s : State) (a b : Reg) (v : Nat) : (s.wr64 a b v).ques = s.ques := (rfl)
@[simp] theorem State.setSub_ques (s : State) (r : Reg) (a b v : Nat) : (s.setSub r a b v).ques = s.ques := (rfl)
@[simp] theorem State.wr64_plotBook (s : State) (a b : Reg) (v : Nat) : (s.wr64 a b v).plotBook = s.plotBook := (rfl)
@[simp] theorem State.setSub_plotBook (s : State) (r : Reg) (a b v : Nat) : (s.setSub r a b v).plotBook = s.plotBook := (rfl)
@[simp] theorem State.wr64_copies (s : State) (a b : Reg) (v : Nat) : (s.wr64 a b v).copies = s.copies := (rfl)
@[simp] theorem State.setSub_copies (s : State) (r : Reg) (a b v : Nat) : (s.setSub r a b v).copies = s.copies := (rfl)
@[simp] theorem State.wr64_raws (s : State) (a b : Reg) (v : Nat) : (s.wr64 a b v).raws = s.raws := (rfl)
@[simp] theorem State.setSub_raws (s : State) (r : Reg) (a b v : Nat) : (s.setSub r a b v).raws = s.raws := (rfl)
@[simp] theorem State.wr64_ring (s : State) (a b : Reg) (v : Nat) : (s.wr64 a b v).ring = s.ring := (rfl)
@[simp] theorem State.setSub_ring (s : State) (r : Reg) (a b v : Nat) : (s.setSub r a b v).ring = s.ring := (rfl)
@[simp] theorem State.wr64_jobs (s : State) (a b : Reg) (v : Nat) : (s.wr64 a b v).jobs = s.jobs := (rfl)
@[simp] theorem State.setSub_jobs (s : State) (r : Reg) (a b v : Nat) : (s.setSub r a b v).jobs = s.jobs := (rfl)
@[simp] theorem State.wr64_dxNext (s : State) (a b : Reg) (v : Nat) : (s.wr64 a b v).dxNext = s.dxNext := (rfl)
@[simp] theorem State.setSub_dxNext (s : State) (r : Reg) (a b v : Nat) : (s.setSub r a b v).dxNext = s.dxNext := (rfl)
@[simp] theorem State.wr64_trgOuts (s : State) (a b : Reg) (v : Nat) : (s.wr64 a b v).trgOuts = s.trgOuts := (rfl)
@[simp] theorem State.setSub_trgOuts (s : State) (r : Reg) (a b v : Nat) : (s.setSub r a b v).trgOuts = s.trgOuts := (rfl)
@[simp] theorem State.wr64_pulses (s : State) (a b : Reg) (v : Nat) : (s.wr64 a b v).pulses = s.pulses := (rfl)
@[simp] theorem State.setSub_pulses (s : State) (r : Reg) (a b v : Nat) : (s.setSub r a b v).pulses = s.pulses := (rfl)
@[simp] theorem State.wr64_ilines (s : State) (a b : Reg) (v : Nat) : (s.wr64 a b v).ilines = s.ilines := (rfl)
@[simp] theorem State.setSub_ilines (s : State) (r : Reg) (a b v : Nat) : (s.setSub r a b v).ilines = s.ilines := (rfl)
@[simp] theorem State.wr64_netSenders (s : State) (a b : Reg) (v : Nat) : (s.wr64 a b v).netSenders = s.netSenders := (rfl)
@[simp] theorem State.setSub_netSenders (s : State) (r : Reg) (a b v : Nat) : (s.setSub r a b v).netSenders = s.netSenders := (rfl)
@[simp] theorem State.wr64_trgSeq (s : State) (a b : Reg) (v : Nat) : (s.wr64 a b v).trgSeq = s.trgSeq := (rfl)
@[simp] theorem State.setSub_trgSeq (s : State) (r : Reg) (a b v : Nat) : (s.setSub r a b v).trgSeq = s.trgSeq := (rfl)
@[simp] theorem State.wr64_capSeq (s : State) (a b : Reg) (v : Nat) : (s.wr64 a b v).capSeq = s.capSeq := (rfl)
@[simp] theorem State.setSub_capSeq (s : State) (r : Reg) (a b v : Nat) : (s.setSub r a b v).capSeq = s.capSeq := (rfl)
@[simp] theorem State.wr64_sigs (s : State) (a b : Reg) (v : Nat) : (s.wr64 a b v).sigs = s.sigs := (rfl)
@[simp] theorem State.setSub_sigs (s : State) (r : Reg) (a b v : Nat) : (s.setSub r a b v).sigs = s.sigs := (rfl)
@[simp] theorem State.wr64_mgb (s : State) (a b : Reg) (v : Nat) : (s.wr64 a b v).mgb = s.mgb := (rfl)
@[simp] theorem State.setSub_mgb (s : State) (r : Reg) (a b v : Nat) : (s.setSub r a b v).mgb = s.mgb := (rfl)
@[simp] theorem State.wr64_tap (s : State) (a b : Reg) (v : Nat) : (s.wr64 a b v).tap = s.tap := (rfl)
@[simp] theorem State.setSub_tap (s : State) (r : Reg) (a b v : Nat) : (s.setSub r a b v).tap = s.tap := (rfl)
@[simp] theorem State.wr64_porLow (s : State) (a b : Reg) (v : Nat) : (s.wr64 a b v).porLow = s.porLow := (rfl)
@[simp] theorem State.setSub_porLow (s : State) (r : Reg) (a b v : Nat) : (s.setSub r a b v).porLow = s.porLow := (rfl)
@[simp] theorem State.wr64_arbs (s : State) (a b : Reg) (v : Nat) : (s.wr64 a b v).arbs = s.arbs := (rfl)
@[simp] theorem State.setSub_arbs (s : State) (r : Reg) (a b v : Nat) : (s.setSub r a b v).arbs = s.arbs := (rfl)
@[simp] theorem State.wr64_sheets (s : State) (a b : Reg) (v : Nat) : (s.wr64 a b v).sheets = s.sheets := (rfl)
@[simp] theorem State.setSub_sheets (s : State) (r : Reg) (a b v : Nat) : (s.setSub r a b v).sheets = s.sheets := (rfl)
@[simp] theorem State.wr64_ports (s : State) (a b : Reg) (v : Nat) : (s.wr64 a b v).ports = s.ports := (rfl)
@[simp] theorem State.setSub_ports (s : State) (r : Reg) (a b v : Nat) : (s.setSub r a b v).ports = s.ports := (rfl)
@[simp] theorem State.wr64_rxs (s : State) (a b : Reg) (v : Nat) : (s.wr64 a b v).rxs = s.rxs := (rfl)
@[simp] theorem State.setSub_rxs (s : State) (r : Reg) (a b v : Nat) : (s.setSub r a b v).rxs = s.rxs := (rfl)
@[simp] theorem State.wr64_hrings (s : State) (a b : Reg) (v : Nat) : (s.wr64 a b v).hrings = s.hrings := (rfl)
@[simp] theorem State.setSub_hrings (s : State) (r : Reg) (a b v : Nat) : (s.setSub r a b v).hrings = s.hrings := (rfl)
@[simp] theorem State.wr64_links (s : State) (a b : Reg) (v : Nat) : (s.wr64 a b v).links = s.links := (rfl)
@[simp] theorem State.setSub_links (s : State) (r : Reg) (a b v : Nat) : (s.setSub r a b v).links = s.links := (rfl)
@[simp] theorem State.wr64_scheds (s : State) (a b : Reg) (v : Nat) : (s.wr64 a b v).scheds = s.scheds := (rfl)
@[simp] theorem State.setSub_scheds (s : State) (r : Reg) (a b v : Nat) : (s.setSub r a b v).scheds = s.scheds := (rfl)
@[simp] theorem State.wr64_delivers (s : State) (a b : Reg) (v : Nat) : (s.wr64 a b v).delivers = s.delivers := (rfl)
@[simp] theorem State.setSub_delivers (s : State) (r : Reg) (a b v : Nat) : (s.setSub r a b v).delivers = s.delivers := (rfl)
@[simp] theorem State.wr64_rates (s : State) (a b : Reg) (v : Nat) : (s.wr64 a b v).rates = s.rates := (rfl)
@[simp] theorem State.setSub_rates (s : State) (r : Reg) (a b v : Nat) : (s.setSub r a b v).rates = s.rates := (rfl)
@[simp] theorem State.wr64_gaz (s : State) (a b : Reg) (v : Nat) : (s.wr64 a b v).gaz = s.gaz := (rfl)
@[simp] theorem State.setSub_gaz (s : State) (r : Reg) (a b v : Nat) : (s.setSub r a b v).gaz = s.gaz := (rfl)
@[simp] theorem State.wr64_gazSends (s : State) (a b : Reg) (v : Nat) : (s.wr64 a b v).gazSends = s.gazSends := (rfl)
@[simp] theorem State.setSub_gazSends (s : State) (r : Reg) (a b v : Nat) : (s.setSub r a b v).gazSends = s.gazSends := (rfl)
@[simp] theorem State.wr64_digests (s : State) (a b : Reg) (v : Nat) : (s.wr64 a b v).digests = s.digests := (rfl)
@[simp] theorem State.setSub_digests (s : State) (r : Reg) (a b v : Nat) : (s.setSub r a b v).digests = s.digests := (rfl)
@[simp] theorem State.wr64_gazBook (s : State) (a b : Reg) (v : Nat) : (s.wr64 a b v).gazBook = s.gazBook := (rfl)
@[simp] theorem State.setSub_gazBook (s : State) (r : Reg) (a b v : Nat) : (s.setSub r a b v).gazBook = s.gazBook := (rfl)
@[simp] theorem State.wr64_engSwaps (s : State) (a b : Reg) (v : Nat) : (s.wr64 a b v).engSwaps = s.engSwaps := (rfl)
@[simp] theorem State.setSub_engSwaps (s : State) (r : Reg) (a b v : Nat) : (s.setSub r a b v).engSwaps = s.engSwaps := (rfl)
@[simp] theorem State.wr64_engErrs (s : State) (a b : Reg) (v : Nat) : (s.wr64 a b v).engErrs = s.engErrs := (rfl)
@[simp] theorem State.setSub_engErrs (s : State) (r : Reg) (a b v : Nat) : (s.setSub r a b v).engErrs = s.engErrs := (rfl)
@[simp] theorem State.wr64_coreDog (s : State) (a b : Reg) (v : Nat) : (s.wr64 a b v).coreDog = s.coreDog := (rfl)
@[simp] theorem State.setSub_coreDog (s : State) (r : Reg) (a b v : Nat) : (s.setSub r a b v).coreDog = s.coreDog := (rfl)
@[simp] theorem State.wr64_start (s : State) (a b : Reg) (v : Nat) : (s.wr64 a b v).start = s.start := (rfl)
@[simp] theorem State.setSub_start (s : State) (r : Reg) (a b v : Nat) : (s.setSub r a b v).start = s.start := (rfl)
@[simp] theorem State.wr64_images (s : State) (a b : Reg) (v : Nat) : (s.wr64 a b v).images = s.images := (rfl)
@[simp] theorem State.setSub_images (s : State) (r : Reg) (a b v : Nat) : (s.setSub r a b v).images = s.images := (rfl)
@[simp] theorem State.wr64_out (s : State) (a b : Reg) (v : Nat) : (s.wr64 a b v).out = s.out := (rfl)
@[simp] theorem State.setSub_out (s : State) (r : Reg) (a b v : Nat) : (s.setSub r a b v).out = s.out := (rfl)
@[simp] theorem State.wr64_drawn (s : State) (a b : Reg) (v : Nat) : (s.wr64 a b v).drawn = s.drawn := (rfl)
@[simp] theorem State.setSub_drawn (s : State) (r : Reg) (a b v : Nat) : (s.setSub r a b v).drawn = s.drawn := (rfl)
@[simp] theorem State.wr64_pending (s : State) (a b : Reg) (v : Nat) : (s.wr64 a b v).pending = s.pending := (rfl)
@[simp] theorem State.setSub_pending (s : State) (r : Reg) (a b v : Nat) : (s.setSub r a b v).pending = s.pending := (rfl)
@[simp] theorem State.with_force_rd (s : State) (v : SMap Word) (r : Reg) : ({ s with force := v } : State).rd r = s.rd r := (rfl)
@[simp] theorem State.with_force_get (s : State) (v : SMap Word) (f : Fld) : ({ s with force := v } : State).get f = s.get f := (rfl)
@[simp] theorem State.with_aper_rd (s : State) (v : SMap Word) (r : Reg) : ({ s with aper := v } : State).rd r = s.rd r := (rfl)
@[simp] theorem State.with_aper_get (s : State) (v : SMap Word) (f : Fld) : ({ s with aper := v } : State).get f = s.get f := (rfl)
@[simp] theorem State.with_tb_rd (s : State) (v : TimeBase) (r : Reg) : ({ s with tb := v } : State).rd r = s.rd r := (rfl)
@[simp] theorem State.with_tb_get (s : State) (v : TimeBase) (f : Fld) : ({ s with tb := v } : State).get f = s.get f := (rfl)
@[simp] theorem State.with_txts_rd (s : State) (v : SMap (List TxStamp)) (r : Reg) : ({ s with txts := v } : State).rd r = s.rd r := (rfl)
@[simp] theorem State.with_txts_get (s : State) (v : SMap (List TxStamp)) (f : Fld) : ({ s with txts := v } : State).get f = s.get f := (rfl)
@[simp] theorem State.with_router_rd (s : State) (v : List RouterItem) (r : Reg) : ({ s with router := v } : State).rd r = s.rd r := (rfl)
@[simp] theorem State.with_router_get (s : State) (v : List RouterItem) (f : Fld) : ({ s with router := v } : State).get f = s.get f := (rfl)
@[simp] theorem State.with_windows_rd (s : State) (v : List EvWindow) (r : Reg) : ({ s with windows := v } : State).rd r = s.rd r := (rfl)
@[simp] theorem State.with_windows_get (s : State) (v : List EvWindow) (f : Fld) : ({ s with windows := v } : State).get f = s.get f := (rfl)
@[simp] theorem State.with_stageQ_rd (s : State) (v : List StageItem) (r : Reg) : ({ s with stageQ := v } : State).rd r = s.rd r := (rfl)
@[simp] theorem State.with_stageQ_get (s : State) (v : List StageItem) (f : Fld) : ({ s with stageQ := v } : State).get f = s.get f := (rfl)
@[simp] theorem State.with_log_rd (s : State) (v : Logbook) (r : Reg) : ({ s with log := v } : State).rd r = s.rd r := (rfl)
@[simp] theorem State.with_log_get (s : State) (v : Logbook) (f : Fld) : ({ s with log := v } : State).get f = s.get f := (rfl)
@[simp] theorem State.with_funcs_rd (s : State) (v : SMap Func) (r : Reg) : ({ s with funcs := v } : State).rd r = s.rd r := (rfl)
@[simp] theorem State.with_funcs_get (s : State) (v : SMap Func) (f : Fld) : ({ s with funcs := v } : State).get f = s.get f := (rfl)
@[simp] theorem State.with_linkUp_rd (s : State) (v : Bool) (r : Reg) : ({ s with linkUp := v } : State).rd r = s.rd r := (rfl)
@[simp] theorem State.with_linkUp_get (s : State) (v : Bool) (f : Fld) : ({ s with linkUp := v } : State).get f = s.get f := (rfl)
@[simp] theorem State.with_vecs_rd (s : State) (v : SMap Vec) (r : Reg) : ({ s with vecs := v } : State).rd r = s.rd r := (rfl)
@[simp] theorem State.with_vecs_get (s : State) (v : SMap Vec) (f : Fld) : ({ s with vecs := v } : State).get f = s.get f := (rfl)
@[simp] theorem State.with_ptm_rd (s : State) (v : Option PtmDialog) (r : Reg) : ({ s with ptm := v } : State).rd r = s.rd r := (rfl)
@[simp] theorem State.with_ptm_get (s : State) (v : Option PtmDialog) (f : Fld) : ({ s with ptm := v } : State).get f = s.get f := (rfl)
@[simp] theorem State.with_staged_rd (s : State) (v : List Staged) (r : Reg) : ({ s with staged := v } : State).rd r = s.rd r := (rfl)
@[simp] theorem State.with_staged_get (s : State) (v : List Staged) (f : Fld) : ({ s with staged := v } : State).get f = s.get f := (rfl)
@[simp] theorem State.with_tags_rd (s : State) (v : SMap TagEntry) (r : Reg) : ({ s with tags := v } : State).rd r = s.rd r := (rfl)
@[simp] theorem State.with_tags_get (s : State) (v : SMap TagEntry) (f : Fld) : ({ s with tags := v } : State).get f = s.get f := (rfl)
@[simp] theorem State.with_envs_rd (s : State) (v : SMap EnvCtr) (r : Reg) : ({ s with envs := v } : State).rd r = s.rd r := (rfl)
@[simp] theorem State.with_envs_get (s : State) (v : SMap EnvCtr) (f : Fld) : ({ s with envs := v } : State).get f = s.get f := (rfl)
@[simp] theorem State.with_keys_rd (s : State) (v : SMap (List Byte)) (r : Reg) : ({ s with keys := v } : State).rd r = s.rd r := (rfl)
@[simp] theorem State.with_keys_get (s : State) (v : SMap (List Byte)) (f : Fld) : ({ s with keys := v } : State).get f = s.get f := (rfl)
@[simp] theorem State.with_keyStage_rd (s : State) (v : SMap Word) (r : Reg) : ({ s with keyStage := v } : State).rd r = s.rd r := (rfl)
@[simp] theorem State.with_keyStage_get (s : State) (v : SMap Word) (f : Fld) : ({ s with keyStage := v } : State).get f = s.get f := (rfl)
@[simp] theorem State.with_crings_rd (s : State) (v : SMap CRing) (r : Reg) : ({ s with crings := v } : State).rd r = s.rd r := (rfl)
@[simp] theorem State.with_crings_get (s : State) (v : SMap CRing) (f : Fld) : ({ s with crings := v } : State).get f = s.get f := (rfl)
@[simp] theorem State.with_quesOn_rd (s : State) (v : List Nat) (r : Reg) : ({ s with quesOn := v } : State).rd r = s.rd r := (rfl)
@[simp] theorem State.with_quesOn_get (s : State) (v : List Nat) (f : Fld) : ({ s with quesOn := v } : State).get f = s.get f := (rfl)
@[simp] theorem State.with_cmds_rd (s : State) (v : List OpenCmd) (r : Reg) : ({ s with cmds := v } : State).rd r = s.rd r := (rfl)
@[simp] theorem State.with_cmds_get (s : State) (v : List OpenCmd) (f : Fld) : ({ s with cmds := v } : State).get f = s.get f := (rfl)
@[simp] theorem State.with_fenced_rd (s : State) (v : List (Nat × Packet)) (r : Reg) : ({ s with fenced := v } : State).rd r = s.rd r := (rfl)
@[simp] theorem State.with_fenced_get (s : State) (v : List (Nat × Packet)) (f : Fld) : ({ s with fenced := v } : State).get f = s.get f := (rfl)
@[simp] theorem State.with_lateAt_rd (s : State) (v : Option Int) (r : Reg) : ({ s with lateAt := v } : State).rd r = s.rd r := (rfl)
@[simp] theorem State.with_lateAt_get (s : State) (v : Option Int) (f : Fld) : ({ s with lateAt := v } : State).get f = s.get f := (rfl)
@[simp] theorem State.with_slots_rd (s : State) (v : SMap Slot) (r : Reg) : ({ s with slots := v } : State).rd r = s.rd r := (rfl)
@[simp] theorem State.with_slots_get (s : State) (v : SMap Slot) (f : Fld) : ({ s with slots := v } : State).get f = s.get f := (rfl)
@[simp] theorem State.with_gridNext_rd (s : State) (v : SMap Nat) (r : Reg) : ({ s with gridNext := v } : State).rd r = s.rd r := (rfl)
@[simp] theorem State.with_gridNext_get (s : State) (v : SMap Nat) (f : Fld) : ({ s with gridNext := v } : State).get f = s.get f := (rfl)
@[simp] theorem State.with_captures_rd (s : State) (v : List Capture) (r : Reg) : ({ s with captures := v } : State).rd r = s.rd r := (rfl)
@[simp] theorem State.with_captures_get (s : State) (v : List Capture) (f : Fld) : ({ s with captures := v } : State).get f = s.get f := (rfl)
@[simp] theorem State.with_tdc_rd (s : State) (v : SMap TdcCore) (r : Reg) : ({ s with tdc := v } : State).rd r = s.rd r := (rfl)
@[simp] theorem State.with_tdc_get (s : State) (v : SMap TdcCore) (f : Fld) : ({ s with tdc := v } : State).get f = s.get f := (rfl)
@[simp] theorem State.with_tdcSwitches_rd (s : State) (v : List TdcSwitch) (r : Reg) : ({ s with tdcSwitches := v } : State).rd r = s.rd r := (rfl)
@[simp] theorem State.with_tdcSwitches_get (s : State) (v : List TdcSwitch) (f : Fld) : ({ s with tdcSwitches := v } : State).get f = s.get f := (rfl)
@[simp] theorem State.with_edges_rd (s : State) (v : SMap EdgeIn) (r : Reg) : ({ s with edges := v } : State).rd r = s.rd r := (rfl)
@[simp] theorem State.with_edges_get (s : State) (v : SMap EdgeIn) (f : Fld) : ({ s with edges := v } : State).get f = s.get f := (rfl)
@[simp] theorem State.with_tagQ_rd (s : State) (v : SMap (List EdgeTag)) (r : Reg) : ({ s with tagQ := v } : State).rd r = s.rd r := (rfl)
@[simp] theorem State.with_tagQ_get (s : State) (v : SMap (List EdgeTag)) (f : Fld) : ({ s with tagQ := v } : State).get f = s.get f := (rfl)
@[simp] theorem State.with_freqs_rd (s : State) (v : SMap FreqGate) (r : Reg) : ({ s with freqs := v } : State).rd r = s.rd r := (rfl)
@[simp] theorem State.with_freqs_get (s : State) (v : SMap FreqGate) (f : Fld) : ({ s with freqs := v } : State).get f = s.get f := (rfl)
@[simp] theorem State.with_cgLost_rd (s : State) (v : List Nat) (r : Reg) : ({ s with cgLost := v } : State).rd r = s.rd r := (rfl)
@[simp] theorem State.with_cgLost_get (s : State) (v : List Nat) (f : Fld) : ({ s with cgLost := v } : State).get f = s.get f := (rfl)
@[simp] theorem State.with_monQ_rd (s : State) (v : SMap (List Snapshot)) (r : Reg) : ({ s with monQ := v } : State).rd r = s.rd r := (rfl)
@[simp] theorem State.with_monQ_get (s : State) (v : SMap (List Snapshot)) (f : Fld) : ({ s with monQ := v } : State).get f = s.get f := (rfl)
@[simp] theorem State.with_monSeq_rd (s : State) (v : SMap Nat) (r : Reg) : ({ s with monSeq := v } : State).rd r = s.rd r := (rfl)
@[simp] theorem State.with_monSeq_get (s : State) (v : SMap Nat) (f : Fld) : ({ s with monSeq := v } : State).get f = s.get f := (rfl)
@[simp] theorem State.with_monLost_rd (s : State) (v : List Nat) (r : Reg) : ({ s with monLost := v } : State).rd r = s.rd r := (rfl)
@[simp] theorem State.with_monLost_get (s : State) (v : List Nat) (f : Fld) : ({ s with monLost := v } : State).get f = s.get f := (rfl)
@[simp] theorem State.with_popWait_rd (s : State) (v : List PopWait) (r : Reg) : ({ s with popWait := v } : State).rd r = s.rd r := (rfl)
@[simp] theorem State.with_popWait_get (s : State) (v : List PopWait) (f : Fld) : ({ s with popWait := v } : State).get f = s.get f := (rfl)
@[simp] theorem State.with_spareBook_rd (s : State) (v : SpareBook) (r : Reg) : ({ s with spareBook := v } : State).rd r = s.rd r := (rfl)
@[simp] theorem State.with_spareBook_get (s : State) (v : SpareBook) (f : Fld) : ({ s with spareBook := v } : State).get f = s.get f := (rfl)
@[simp] theorem State.with_trimImg_rd (s : State) (v : SMap (Option Word)) (r : Reg) : ({ s with trimImg := v } : State).rd r = s.rd r := (rfl)
@[simp] theorem State.with_trimImg_get (s : State) (v : SMap (Option Word)) (f : Fld) : ({ s with trimImg := v } : State).get f = s.get f := (rfl)
@[simp] theorem State.with_grps_rd (s : State) (v : SMap Group) (r : Reg) : ({ s with grps := v } : State).rd r = s.rd r := (rfl)
@[simp] theorem State.with_grps_get (s : State) (v : SMap Group) (f : Fld) : ({ s with grps := v } : State).get f = s.get f := (rfl)
@[simp] theorem State.with_inps_rd (s : State) (v : SMap Inp) (r : Reg) : ({ s with inps := v } : State).rd r = s.rd r := (rfl)
@[simp] theorem State.with_inps_get (s : State) (v : SMap Inp) (f : Fld) : ({ s with inps := v } : State).get f = s.get f := (rfl)
@[simp] theorem State.with_beams_rd (s : State) (v : SMap Beam) (r : Reg) : ({ s with beams := v } : State).rd r = s.rd r := (rfl)
@[simp] theorem State.with_beams_get (s : State) (v : SMap Beam) (f : Fld) : ({ s with beams := v } : State).get f = s.get f := (rfl)
@[simp] theorem State.with_partials_rd (s : State) (v : List Partial) (r : Reg) : ({ s with partials := v } : State).rd r = s.rd r := (rfl)
@[simp] theorem State.with_partials_get (s : State) (v : List Partial) (f : Fld) : ({ s with partials := v } : State).get f = s.get f := (rfl)
@[simp] theorem State.with_nodes_rd (s : State) (v : SMap NodeStream) (r : Reg) : ({ s with nodes := v } : State).rd r = s.rd r := (rfl)
@[simp] theorem State.with_nodes_get (s : State) (v : SMap NodeStream) (f : Fld) : ({ s with nodes := v } : State).get f = s.get f := (rfl)
@[simp] theorem State.with_blanks_rd (s : State) (v : SMap (List Span)) (r : Reg) : ({ s with blanks := v } : State).rd r = s.rd r := (rfl)
@[simp] theorem State.with_blanks_get (s : State) (v : SMap (List Span)) (f : Fld) : ({ s with blanks := v } : State).get f = s.get f := (rfl)
@[simp] theorem State.with_injects_rd (s : State) (v : SMap (List Span)) (r : Reg) : ({ s with injects := v } : State).rd r = s.rd r := (rfl)
@[simp] theorem State.with_injects_get (s : State) (v : SMap (List Span)) (f : Fld) : ({ s with injects := v } : State).get f = s.get f := (rfl)
@[simp] theorem State.with_items_rd (s : State) (v : List ReadyItem) (r : Reg) : ({ s with items := v } : State).rd r = s.rd r := (rfl)
@[simp] theorem State.with_items_get (s : State) (v : List ReadyItem) (f : Fld) : ({ s with items := v } : State).get f = s.get f := (rfl)
@[simp] theorem State.with_units_rd (s : State) (v : SMap (List ReadyItem)) (r : Reg) : ({ s with units := v } : State).rd r = s.rd r := (rfl)
@[simp] theorem State.with_units_get (s : State) (v : SMap (List ReadyItem)) (f : Fld) : ({ s with units := v } : State).get f = s.get f := (rfl)
@[simp] theorem State.with_failingSlots_rd (s : State) (v : List Nat) (r : Reg) : ({ s with failingSlots := v } : State).rd r = s.rd r := (rfl)
@[simp] theorem State.with_failingSlots_get (s : State) (v : List Nat) (f : Fld) : ({ s with failingSlots := v } : State).get f = s.get f := (rfl)
@[simp] theorem State.with_retiredSlots_rd (s : State) (v : List Nat) (r : Reg) : ({ s with retiredSlots := v } : State).rd r = s.rd r := (rfl)
@[simp] theorem State.with_retiredSlots_get (s : State) (v : List Nat) (f : Fld) : ({ s with retiredSlots := v } : State).get f = s.get f := (rfl)
@[simp] theorem State.with_trigs_rd (s : State) (v : List Trig) (r : Reg) : ({ s with trigs := v } : State).rd r = s.rd r := (rfl)
@[simp] theorem State.with_trigs_get (s : State) (v : List Trig) (f : Fld) : ({ s with trigs := v } : State).get f = s.get f := (rfl)
@[simp] theorem State.with_spxTx_rd (s : State) (v : SMap (List TxFlit)) (r : Reg) : ({ s with spxTx := v } : State).rd r = s.rd r := (rfl)
@[simp] theorem State.with_spxTx_get (s : State) (v : SMap (List TxFlit)) (f : Fld) : ({ s with spxTx := v } : State).get f = s.get f := (rfl)
@[simp] theorem State.with_bmacSwaps_rd (s : State) (v : List BmacSwap) (r : Reg) : ({ s with bmacSwaps := v } : State).rd r = s.rd r := (rfl)
@[simp] theorem State.with_bmacSwaps_get (s : State) (v : List BmacSwap) (f : Fld) : ({ s with bmacSwaps := v } : State).get f = s.get f := (rfl)
@[simp] theorem State.with_fe_rd (s : State) (v : Fe) (r : Reg) : ({ s with fe := v } : State).rd r = s.rd r := (rfl)
@[simp] theorem State.with_fe_get (s : State) (v : Fe) (f : Fld) : ({ s with fe := v } : State).get f = s.get f := (rfl)
@[simp] theorem State.with_pcvs_rd (s : State) (v : SMap Pcv) (r : Reg) : ({ s with pcvs := v } : State).rd r = s.rd r := (rfl)
@[simp] theorem State.with_pcvs_get (s : State) (v : SMap Pcv) (f : Fld) : ({ s with pcvs := v } : State).get f = s.get f := (rfl)
@[simp] theorem State.with_sfeChs_rd (s : State) (v : SMap SfeCh) (r : Reg) : ({ s with sfeChs := v } : State).rd r = s.rd r := (rfl)
@[simp] theorem State.with_sfeChs_get (s : State) (v : SMap SfeCh) (f : Fld) : ({ s with sfeChs := v } : State).get f = s.get f := (rfl)
@[simp] theorem State.with_excs_rd (s : State) (v : SMap Exc) (r : Reg) : ({ s with excs := v } : State).rd r = s.rd r := (rfl)
@[simp] theorem State.with_excs_get (s : State) (v : SMap Exc) (f : Fld) : ({ s with excs := v } : State).get f = s.get f := (rfl)
@[simp] theorem State.with_trimCopies_rd (s : State) (v : SMap TrimCopy) (r : Reg) : ({ s with trimCopies := v } : State).rd r = s.rd r := (rfl)
@[simp] theorem State.with_trimCopies_get (s : State) (v : SMap TrimCopy) (f : Fld) : ({ s with trimCopies := v } : State).get f = s.get f := (rfl)
@[simp] theorem State.with_linCopies_rd (s : State) (v : SMap (List Nat)) (r : Reg) : ({ s with linCopies := v } : State).rd r = s.rd r := (rfl)
@[simp] theorem State.with_linCopies_get (s : State) (v : SMap (List Nat)) (f : Fld) : ({ s with linCopies := v } : State).get f = s.get f := (rfl)
@[simp] theorem State.with_nvm_rd (s : State) (v : List NvmJob) (r : Reg) : ({ s with nvm := v } : State).rd r = s.rd r := (rfl)
@[simp] theorem State.with_nvm_get (s : State) (v : List NvmJob) (f : Fld) : ({ s with nvm := v } : State).get f = s.get f := (rfl)
@[simp] theorem State.with_calMeas_rd (s : State) (v : List CalMeas) (r : Reg) : ({ s with calMeas := v } : State).rd r = s.rd r := (rfl)
@[simp] theorem State.with_calMeas_get (s : State) (v : List CalMeas) (f : Fld) : ({ s with calMeas := v } : State).get f = s.get f := (rfl)
@[simp] theorem State.with_trimLoaded_rd (s : State) (v : List Nat) (r : Reg) : ({ s with trimLoaded := v } : State).rd r = s.rd r := (rfl)
@[simp] theorem State.with_trimLoaded_get (s : State) (v : List Nat) (f : Fld) : ({ s with trimLoaded := v } : State).get f = s.get f := (rfl)
@[simp] theorem State.with_mramBad_rd (s : State) (v : List Nat) (r : Reg) : ({ s with mramBad := v } : State).rd r = s.rd r := (rfl)
@[simp] theorem State.with_ptmAt_rd (s : State) (v : Option Int) (r : Reg) : ({ s with ptmAt := v } : State).rd r = s.rd r := (rfl)
@[simp] theorem State.with_monAt_rd (s : State) (v : SMap (Int × Nat)) (r : Reg) : ({ s with monAt := v } : State).rd r = s.rd r := (rfl)
@[simp] theorem State.with_bmacShed_rd (s : State) (v : Option (Nat × Bool)) (r : Reg) : ({ s with bmacShed := v } : State).rd r = s.rd r := (rfl)
@[simp] theorem State.with_mramMap_rd (s : State) (v : SMap Nat) (r : Reg) : ({ s with mramMap := v } : State).rd r = s.rd r := (rfl)
@[simp] theorem State.with_part_rd (s : State) (v : Product) (r : Reg) : ({ s with part := v } : State).rd r = s.rd r := (rfl)
@[simp] theorem State.with_timCal_rd (s : State) (v : Int) (r : Reg) : ({ s with timCal := v } : State).rd r = s.rd r := (rfl)
@[simp] theorem State.with_mramBad_get (s : State) (v : List Nat) (f : Fld) : ({ s with mramBad := v } : State).get f = s.get f := (rfl)
@[simp] theorem State.with_ptmAt_get (s : State) (v : Option Int) (f : Fld) : ({ s with ptmAt := v } : State).get f = s.get f := (rfl)
@[simp] theorem State.with_monAt_get (s : State) (v : SMap (Int × Nat)) (f : Fld) : ({ s with monAt := v } : State).get f = s.get f := (rfl)
@[simp] theorem State.with_bmacShed_get (s : State) (v : Option (Nat × Bool)) (f : Fld) : ({ s with bmacShed := v } : State).get f = s.get f := (rfl)
@[simp] theorem State.with_mramMap_get (s : State) (v : SMap Nat) (f : Fld) : ({ s with mramMap := v } : State).get f = s.get f := (rfl)
@[simp] theorem State.with_part_get (s : State) (v : Product) (f : Fld) : ({ s with part := v } : State).get f = s.get f := (rfl)
@[simp] theorem State.with_timCal_get (s : State) (v : Int) (f : Fld) : ({ s with timCal := v } : State).get f = s.get f := (rfl)
@[simp] theorem State.with_plots_rd (s : State) (v : SMap Plot) (r : Reg) : ({ s with plots := v } : State).rd r = s.rd r := (rfl)
@[simp] theorem State.with_plots_get (s : State) (v : SMap Plot) (f : Fld) : ({ s with plots := v } : State).get f = s.get f := (rfl)
@[simp] theorem State.with_ques_rd (s : State) (v : SMap Que) (r : Reg) : ({ s with ques := v } : State).rd r = s.rd r := (rfl)
@[simp] theorem State.with_ques_get (s : State) (v : SMap Que) (f : Fld) : ({ s with ques := v } : State).get f = s.get f := (rfl)
@[simp] theorem State.with_plotBook_rd (s : State) (v : PlotBook) (r : Reg) : ({ s with plotBook := v } : State).rd r = s.rd r := (rfl)
@[simp] theorem State.with_plotBook_get (s : State) (v : PlotBook) (f : Fld) : ({ s with plotBook := v } : State).get f = s.get f := (rfl)
@[simp] theorem State.with_copies_rd (s : State) (v : List PlotCopy) (r : Reg) : ({ s with copies := v } : State).rd r = s.rd r := (rfl)
@[simp] theorem State.with_copies_get (s : State) (v : List PlotCopy) (f : Fld) : ({ s with copies := v } : State).get f = s.get f := (rfl)
@[simp] theorem State.with_raws_rd (s : State) (v : SMap RawPath) (r : Reg) : ({ s with raws := v } : State).rd r = s.rd r := (rfl)
@[simp] theorem State.with_raws_get (s : State) (v : SMap RawPath) (f : Fld) : ({ s with raws := v } : State).get f = s.get f := (rfl)
@[simp] theorem State.with_ring_rd (s : State) (v : Ring) (r : Reg) : ({ s with ring := v } : State).rd r = s.rd r := (rfl)
@[simp] theorem State.with_ring_get (s : State) (v : Ring) (f : Fld) : ({ s with ring := v } : State).get f = s.get f := (rfl)
@[simp] theorem State.with_jobs_rd (s : State) (v : SMap Job) (r : Reg) : ({ s with jobs := v } : State).rd r = s.rd r := (rfl)
@[simp] theorem State.with_jobs_get (s : State) (v : SMap Job) (f : Fld) : ({ s with jobs := v } : State).get f = s.get f := (rfl)
@[simp] theorem State.with_dxNext_rd (s : State) (v : Nat) (r : Reg) : ({ s with dxNext := v } : State).rd r = s.rd r := (rfl)
@[simp] theorem State.with_dxNext_get (s : State) (v : Nat) (f : Fld) : ({ s with dxNext := v } : State).get f = s.get f := (rfl)
@[simp] theorem State.with_trgOuts_rd (s : State) (v : SMap TrgOut) (r : Reg) : ({ s with trgOuts := v } : State).rd r = s.rd r := (rfl)
@[simp] theorem State.with_trgOuts_get (s : State) (v : SMap TrgOut) (f : Fld) : ({ s with trgOuts := v } : State).get f = s.get f := (rfl)
@[simp] theorem State.with_pulses_rd (s : State) (v : List Pulse) (r : Reg) : ({ s with pulses := v } : State).rd r = s.rd r := (rfl)
@[simp] theorem State.with_pulses_get (s : State) (v : List Pulse) (f : Fld) : ({ s with pulses := v } : State).get f = s.get f := (rfl)
@[simp] theorem State.with_ilines_rd (s : State) (v : SMap ILine) (r : Reg) : ({ s with ilines := v } : State).rd r = s.rd r := (rfl)
@[simp] theorem State.with_ilines_get (s : State) (v : SMap ILine) (f : Fld) : ({ s with ilines := v } : State).get f = s.get f := (rfl)
@[simp] theorem State.with_netSenders_rd (s : State) (v : List NetSender) (r : Reg) : ({ s with netSenders := v } : State).rd r = s.rd r := (rfl)
@[simp] theorem State.with_netSenders_get (s : State) (v : List NetSender) (f : Fld) : ({ s with netSenders := v } : State).get f = s.get f := (rfl)
@[simp] theorem State.with_trgSeq_rd (s : State) (v : Nat) (r : Reg) : ({ s with trgSeq := v } : State).rd r = s.rd r := (rfl)
@[simp] theorem State.with_trgSeq_get (s : State) (v : Nat) (f : Fld) : ({ s with trgSeq := v } : State).get f = s.get f := (rfl)
@[simp] theorem State.with_capSeq_rd (s : State) (v : Nat) (r : Reg) : ({ s with capSeq := v } : State).rd r = s.rd r := (rfl)
@[simp] theorem State.with_capSeq_get (s : State) (v : Nat) (f : Fld) : ({ s with capSeq := v } : State).get f = s.get f := (rfl)
@[simp] theorem State.with_sigs_rd (s : State) (v : SMap SigOut) (r : Reg) : ({ s with sigs := v } : State).rd r = s.rd r := (rfl)
@[simp] theorem State.with_sigs_get (s : State) (v : SMap SigOut) (f : Fld) : ({ s with sigs := v } : State).get f = s.get f := (rfl)
@[simp] theorem State.with_mgb_rd (s : State) (v : Mgb) (r : Reg) : ({ s with mgb := v } : State).rd r = s.rd r := (rfl)
@[simp] theorem State.with_mgb_get (s : State) (v : Mgb) (f : Fld) : ({ s with mgb := v } : State).get f = s.get f := (rfl)
@[simp] theorem State.with_tap_rd (s : State) (v : Tap) (r : Reg) : ({ s with tap := v } : State).rd r = s.rd r := (rfl)
@[simp] theorem State.with_tap_get (s : State) (v : Tap) (f : Fld) : ({ s with tap := v } : State).get f = s.get f := (rfl)
@[simp] theorem State.with_porLow_rd (s : State) (v : Bool) (r : Reg) : ({ s with porLow := v } : State).rd r = s.rd r := (rfl)
@[simp] theorem State.with_porLow_get (s : State) (v : Bool) (f : Fld) : ({ s with porLow := v } : State).get f = s.get f := (rfl)
@[simp] theorem State.with_arbs_rd (s : State) (v : SMap ArbLane) (r : Reg) : ({ s with arbs := v } : State).rd r = s.rd r := (rfl)
@[simp] theorem State.with_arbs_get (s : State) (v : SMap ArbLane) (f : Fld) : ({ s with arbs := v } : State).get f = s.get f := (rfl)
@[simp] theorem State.with_sheets_rd (s : State) (v : SMap Sheet) (r : Reg) : ({ s with sheets := v } : State).rd r = s.rd r := (rfl)
@[simp] theorem State.with_sheets_get (s : State) (v : SMap Sheet) (f : Fld) : ({ s with sheets := v } : State).get f = s.get f := (rfl)
@[simp] theorem State.with_ports_rd (s : State) (v : SMap Port) (r : Reg) : ({ s with ports := v } : State).rd r = s.rd r := (rfl)
@[simp] theorem State.with_ports_get (s : State) (v : SMap Port) (f : Fld) : ({ s with ports := v } : State).get f = s.get f := (rfl)
@[simp] theorem State.with_rxs_rd (s : State) (v : SMap RxStream) (r : Reg) : ({ s with rxs := v } : State).rd r = s.rd r := (rfl)
@[simp] theorem State.with_rxs_get (s : State) (v : SMap RxStream) (f : Fld) : ({ s with rxs := v } : State).get f = s.get f := (rfl)
@[simp] theorem State.with_hrings_rd (s : State) (v : SMap HostRing) (r : Reg) : ({ s with hrings := v } : State).rd r = s.rd r := (rfl)
@[simp] theorem State.with_hrings_get (s : State) (v : SMap HostRing) (f : Fld) : ({ s with hrings := v } : State).get f = s.get f := (rfl)
@[simp] theorem State.with_links_rd (s : State) (v : SMap Link) (r : Reg) : ({ s with links := v } : State).rd r = s.rd r := (rfl)
@[simp] theorem State.with_links_get (s : State) (v : SMap Link) (f : Fld) : ({ s with links := v } : State).get f = s.get f := (rfl)
@[simp] theorem State.with_scheds_rd (s : State) (v : SMap Sched) (r : Reg) : ({ s with scheds := v } : State).rd r = s.rd r := (rfl)
@[simp] theorem State.with_scheds_get (s : State) (v : SMap Sched) (f : Fld) : ({ s with scheds := v } : State).get f = s.get f := (rfl)
@[simp] theorem State.with_delivers_rd (s : State) (v : SMap Delivery) (r : Reg) : ({ s with delivers := v } : State).rd r = s.rd r := (rfl)
@[simp] theorem State.with_delivers_get (s : State) (v : SMap Delivery) (f : Fld) : ({ s with delivers := v } : State).get f = s.get f := (rfl)
@[simp] theorem State.with_rates_rd (s : State) (v : SMap CmdRate) (r : Reg) : ({ s with rates := v } : State).rd r = s.rd r := (rfl)
@[simp] theorem State.with_rates_get (s : State) (v : SMap CmdRate) (f : Fld) : ({ s with rates := v } : State).get f = s.get f := (rfl)
@[simp] theorem State.with_gaz_rd (s : State) (v : SMap (Option GazEntry)) (r : Reg) : ({ s with gaz := v } : State).rd r = s.rd r := (rfl)
@[simp] theorem State.with_gaz_get (s : State) (v : SMap (Option GazEntry)) (f : Fld) : ({ s with gaz := v } : State).get f = s.get f := (rfl)
@[simp] theorem State.with_gazSends_rd (s : State) (v : SMap (Option GazSend)) (r : Reg) : ({ s with gazSends := v } : State).rd r = s.rd r := (rfl)
@[simp] theorem State.with_gazSends_get (s : State) (v : SMap (Option GazSend)) (f : Fld) : ({ s with gazSends := v } : State).get f = s.get f := (rfl)
@[simp] theorem State.with_digests_rd (s : State) (v : List Digest) (r : Reg) : ({ s with digests := v } : State).rd r = s.rd r := (rfl)
@[simp] theorem State.with_digests_get (s : State) (v : List Digest) (f : Fld) : ({ s with digests := v } : State).get f = s.get f := (rfl)
@[simp] theorem State.with_gazBook_rd (s : State) (v : GazBook) (r : Reg) : ({ s with gazBook := v } : State).rd r = s.rd r := (rfl)
@[simp] theorem State.with_gazBook_get (s : State) (v : GazBook) (f : Fld) : ({ s with gazBook := v } : State).get f = s.get f := (rfl)
@[simp] theorem State.with_engSwaps_rd (s : State) (v : List EngSwap) (r : Reg) : ({ s with engSwaps := v } : State).rd r = s.rd r := (rfl)
@[simp] theorem State.with_engSwaps_get (s : State) (v : List EngSwap) (f : Fld) : ({ s with engSwaps := v } : State).get f = s.get f := (rfl)
@[simp] theorem State.with_engErrs_rd (s : State) (v : SMap EngErr) (r : Reg) : ({ s with engErrs := v } : State).rd r = s.rd r := (rfl)
@[simp] theorem State.with_engErrs_get (s : State) (v : SMap EngErr) (f : Fld) : ({ s with engErrs := v } : State).get f = s.get f := (rfl)
@[simp] theorem State.with_coreDog_rd (s : State) (v : SMap (Option Int)) (r : Reg) : ({ s with coreDog := v } : State).rd r = s.rd r := (rfl)
@[simp] theorem State.with_coreDog_get (s : State) (v : SMap (Option Int)) (f : Fld) : ({ s with coreDog := v } : State).get f = s.get f := (rfl)
@[simp] theorem State.with_start_rd (s : State) (v : Start) (r : Reg) : ({ s with start := v } : State).rd r = s.rd r := (rfl)
@[simp] theorem State.with_start_get (s : State) (v : Start) (f : Fld) : ({ s with start := v } : State).get f = s.get f := (rfl)
@[simp] theorem State.with_images_rd (s : State) (v : SMap (Option Word)) (r : Reg) : ({ s with images := v } : State).rd r = s.rd r := (rfl)
@[simp] theorem State.with_images_get (s : State) (v : SMap (Option Word)) (f : Fld) : ({ s with images := v } : State).get f = s.get f := (rfl)
@[simp] theorem State.with_out_rd (s : State) (v : List Output) (r : Reg) : ({ s with out := v } : State).rd r = s.rd r := (rfl)
@[simp] theorem State.with_out_get (s : State) (v : List Output) (f : Fld) : ({ s with out := v } : State).get f = s.get f := (rfl)
@[simp] theorem State.with_drawn_rd (s : State) (v : Nat) (r : Reg) : ({ s with drawn := v } : State).rd r = s.rd r := (rfl)
@[simp] theorem State.with_drawn_get (s : State) (v : Nat) (f : Fld) : ({ s with drawn := v } : State).get f = s.get f := (rfl)
@[simp] theorem State.with_pending_rd (s : State) (v : List Instr) (r : Reg) : ({ s with pending := v } : State).rd r = s.rd r := (rfl)
@[simp] theorem State.with_pending_get (s : State) (v : List Instr) (f : Fld) : ({ s with pending := v } : State).get f = s.get f := (rfl)

end Sys2Proof.Machine
end

