-- ==== Sys2Proof/Laws/Frame.lean ====
section
/-! SUPPORT. What operations leave as it is: the relation, and how it passes through branches, folds and record updates. -/
set_option maxRecDepth 10000
namespace Sys2Proof.Machine

/-- What operations leave as it is: the queue, the phase clock, the test port and the reset pin; with `z` also the records and the key
of the logbook and the trim pages in MRAM. -/
structure Same (z : Bool) (s t : State) : Prop where
  pending : t.pending = s.pending
  fc : t.tb.fc = s.tb.fc
  locked : t.tb.locked = s.tb.locked
  tap : t.tap = s.tap
  porLow : t.porLow = s.porLow
  slots : z = true → t.log.slots = s.log.slots
  key : z = true → t.log.key = s.log.key
  trims : z = true → t.trimCopies = s.trimCopies

/-- An outcome keeps those fields if its next state does. -/
def OutSame (z : Bool) (s : State) (o : Host.Outcome State Fault Refusal) : Prop := ∀ t, o = .next t → Same z s t

theorem Same.refl (z : Bool) (s : State) : Same z s s := ⟨rfl, rfl, rfl, rfl, rfl, fun _ => rfl, fun _ => rfl, fun _ => rfl⟩
theorem Same.trans {z : Bool} {s t u : State} (h : Same z s t) (k : Same z t u) : Same z s u :=
  ⟨k.1.trans h.1, k.2.trans h.2, k.3.trans h.3, k.4.trans h.4, k.5.trans h.5, fun e => (k.6 e).trans (h.6 e), fun e => (k.7 e).trans (h.7 e),
    fun e => (k.8 e).trans (h.8 e)⟩
theorem outSame_next {z : Bool} {s t : State} (h : Same z s t) : OutSame z s (.next t) := by
  intro u e; injection e with e; exact e ▸ h
/-- An optional state keeps those fields if there is one. -/
def OptSame (z : Bool) (s : State) (o : Option State) : Prop := ∀ t, o = some t → Same z s t
/-- The same of a state beside a value. -/
def OptSame2 {α : Type} (z : Bool) (s : State) (o : Option (α × State)) : Prop := ∀ t, o = some t → Same z s t.2
theorem optSame_none {z : Bool} {s : State} : OptSame z s none := by intro t e; cases e
theorem optSame_some {z : Bool} {s t : State} (h : Same z s t) : OptSame z s (some t) := by intro u e; injection e with e; exact e ▸ h
theorem optSame2_none {z : Bool} {α : Type} {s : State} : OptSame2 (α := α) z s none := by intro t e; cases e
theorem optSame2_some {z : Bool} {α : Type} {s t : State} {a : α} (h : Same z s t) : OptSame2 z s (some (a, t)) := by intro u e; injection e with e; exact e ▸ h
theorem optSame_get {z : Bool} {s t : State} {o : Option State} (e : o = some t) (h : OptSame z s o) : Same z s t := h t e
theorem optSame2_get {z : Bool} {α : Type} {s t : State} {a : α} {o : Option (α × State)} (e : o = some (a, t)) (h : OptSame2 z s o) : Same z s t := h _ e
theorem optSame_getD {z : Bool} {s d : State} {o : Option State} (h : OptSame z s o) (k : Same z s d) : Same z s (o.getD d) := by
  cases o with
  | none => exact k
  | some t => exact h t rfl
theorem optSame_map {z : Bool} {α : Type} {s : State} {o : Option α} {F : α → State} (h : ∀ x, Same z s (F x)) : OptSame z s (o.map F) := by
  intro t e
  cases o with
  | none => cases e
  | some x => injection e with e; exact e ▸ h x
theorem ite_same {z : Bool} {s x y : State} {c : Prop} [Decidable c] (a : Same z s x) (b : Same z s y) : Same z s (if c then x else y) := by
  split <;> assumption
theorem ite_same2 {z : Bool} {α : Type} {s : State} {x y : α × State} {c : Prop} [Decidable c] (a : Same z s x.2) (b : Same z s y.2) :
    Same z s (if c then x else y).2 := by
  split <;> assumption
theorem ite_same1 {z : Bool} {α : Type} {s : State} {x y : State × α} {c : Prop} [Decidable c] (a : Same z s x.1) (b : Same z s y.1) :
    Same z s (if c then x else y).1 := by
  split <;> assumption
theorem ite_outSame {z : Bool} {s : State} {x y : Host.Outcome State Fault Refusal} {c : Prop} [Decidable c] (a : OutSame z s x) (b : OutSame z s y) :
    OutSame z s (if c then x else y) := by
  split <;> assumption
theorem ite_optSame {z : Bool} {s : State} {x y : Option State} {c : Prop} [Decidable c] (a : OptSame z s x) (b : OptSame z s y) :
    OptSame z s (if c then x else y) := by
  split <;> assumption
theorem reanchor_fc (t : TimeBase) : t.reanchor.fc = t.fc := rfl
theorem reanchor_locked (t : TimeBase) : t.reanchor.locked = t.locked := rfl
theorem reanchorAt_fc (t : TimeBase) (c : Nat) : (t.reanchorAt c).fc = t.fc := rfl
theorem reanchorAt_locked (t : TimeBase) (c : Nat) : (t.reanchorAt c).locked = t.locked := rfl
theorem pairSame2 {z : Bool} {α : Type} {s t : State} {a : α} {p : α × State} (e : p = (a, t)) (h : Same z s p.2) : Same z s t := by rw [e] at h; exact h
theorem pairSame1 {z : Bool} {α : Type} {s t : State} {a : α} {p : State × α} (e : p = (t, a)) (h : Same z s p.1) : Same z s t := by rw [e] at h; exact h
theorem foldl_same {z : Bool} {α : Type} {s i : State} {F : State → α → State} {l : List α} (hi : Same z s i) (hf : ∀ u x, Same z s u → Same z s (F u x)) :
    Same z s (l.foldl F i) := by
  induction l generalizing i with
  | nil => exact hi
  | cons a l ih => exact ih (hf i a hi)
theorem foldl_same2 {z : Bool} {α β : Type} {s : State} {i : β × State} {F : β × State → α → β × State} {l : List α} (hi : Same z s i.2)
    (hf : ∀ u x, Same z s u.2 → Same z s (F u x).2) : Same z s (l.foldl F i).2 := by
  induction l generalizing i with
  | nil => exact hi
  | cons a l ih => exact ih (hf i a hi)
theorem foldl_same1 {z : Bool} {α β : Type} {s : State} {i : State × β} {F : State × β → α → State × β} {l : List α} (hi : Same z s i.1)
    (hf : ∀ u x, Same z s u.1 → Same z s (F u x).1) : Same z s (l.foldl F i).1 := by
  induction l generalizing i with
  | nil => exact hi
  | cons a l ih => exact ih (hf i a hi)
theorem same_aper {z : Bool} {s u : State} (h : Same z s u) (x0 : SMap Word) :
    Same z s { u with aper := x0 } := ⟨h.1, h.2, h.3, h.4, h.5, h.6, h.7, h.8⟩
theorem same_arbs {z : Bool} {s u : State} (h : Same z s u) (x0 : SMap ArbLane) :
    Same z s { u with arbs := x0 } := ⟨h.1, h.2, h.3, h.4, h.5, h.6, h.7, h.8⟩
theorem same_beams {z : Bool} {s u : State} (h : Same z s u) (x0 : SMap Beam) :
    Same z s { u with beams := x0 } := ⟨h.1, h.2, h.3, h.4, h.5, h.6, h.7, h.8⟩
theorem same_blanks {z : Bool} {s u : State} (h : Same z s u) (x0 : SMap (List Span)) :
    Same z s { u with blanks := x0 } := ⟨h.1, h.2, h.3, h.4, h.5, h.6, h.7, h.8⟩
theorem same_bmacShed {z : Bool} {s u : State} (h : Same z s u) (x0 : Option (Nat × Bool)) :
    Same z s { u with bmacShed := x0 } := ⟨h.1, h.2, h.3, h.4, h.5, h.6, h.7, h.8⟩
theorem same_bmacSwaps {z : Bool} {s u : State} (h : Same z s u) (x0 : List BmacSwap) :
    Same z s { u with bmacSwaps := x0 } := ⟨h.1, h.2, h.3, h.4, h.5, h.6, h.7, h.8⟩
theorem same_calMeas {z : Bool} {s u : State} (h : Same z s u) (x0 : List CalMeas) :
    Same z s { u with calMeas := x0 } := ⟨h.1, h.2, h.3, h.4, h.5, h.6, h.7, h.8⟩
theorem same_captures_items {z : Bool} {s u : State} (h : Same z s u) (x0 : List Capture) (x1 : List ReadyItem) :
    Same z s { u with captures := x0, items := x1 } := ⟨h.1, h.2, h.3, h.4, h.5, h.6, h.7, h.8⟩
theorem same_captures_ring {z : Bool} {s u : State} (h : Same z s u) (x0 : List Capture) (x1 : Ring) :
    Same z s { u with captures := x0, ring := x1 } := ⟨h.1, h.2, h.3, h.4, h.5, h.6, h.7, h.8⟩
theorem same_captures_ring_capSeq {z : Bool} {s u : State} (h : Same z s u) (x0 : List Capture) (x1 : Ring) (x2 : Nat) :
    Same z s { u with captures := x0, ring := x1, capSeq := x2 } := ⟨h.1, h.2, h.3, h.4, h.5, h.6, h.7, h.8⟩
theorem same_cgLost {z : Bool} {s u : State} (h : Same z s u) (x0 : List Nat) :
    Same z s { u with cgLost := x0 } := ⟨h.1, h.2, h.3, h.4, h.5, h.6, h.7, h.8⟩
theorem same_cmds {z : Bool} {s u : State} (h : Same z s u) (x0 : List OpenCmd) :
    Same z s { u with cmds := x0 } := ⟨h.1, h.2, h.3, h.4, h.5, h.6, h.7, h.8⟩
theorem same_copies {z : Bool} {s u : State} (h : Same z s u) (x0 : List PlotCopy) :
    Same z s { u with copies := x0 } := ⟨h.1, h.2, h.3, h.4, h.5, h.6, h.7, h.8⟩
theorem same_coreDog {z : Bool} {s u : State} (h : Same z s u) (x0 : SMap (Option Int)) :
    Same z s { u with coreDog := x0 } := ⟨h.1, h.2, h.3, h.4, h.5, h.6, h.7, h.8⟩
theorem same_crings {z : Bool} {s u : State} (h : Same z s u) (x0 : SMap CRing) :
    Same z s { u with crings := x0 } := ⟨h.1, h.2, h.3, h.4, h.5, h.6, h.7, h.8⟩
theorem same_delivers {z : Bool} {s u : State} (h : Same z s u) (x0 : SMap Delivery) :
    Same z s { u with delivers := x0 } := ⟨h.1, h.2, h.3, h.4, h.5, h.6, h.7, h.8⟩
theorem same_digests_gazBook {z : Bool} {s u : State} (h : Same z s u) (x0 : List Digest) (x1 : GazBook) :
    Same z s { u with digests := x0, gazBook := x1 } := ⟨h.1, h.2, h.3, h.4, h.5, h.6, h.7, h.8⟩
theorem same_drawn {z : Bool} {s u : State} (h : Same z s u) (x0 : Nat) :
    Same z s { u with drawn := x0 } := ⟨h.1, h.2, h.3, h.4, h.5, h.6, h.7, h.8⟩
theorem same_dxNext {z : Bool} {s u : State} (h : Same z s u) (x0 : Nat) :
    Same z s { u with dxNext := x0 } := ⟨h.1, h.2, h.3, h.4, h.5, h.6, h.7, h.8⟩
theorem same_edges {z : Bool} {s u : State} (h : Same z s u) (x0 : SMap EdgeIn) :
    Same z s { u with edges := x0 } := ⟨h.1, h.2, h.3, h.4, h.5, h.6, h.7, h.8⟩
theorem same_engErrs {z : Bool} {s u : State} (h : Same z s u) (x0 : SMap EngErr) :
    Same z s { u with engErrs := x0 } := ⟨h.1, h.2, h.3, h.4, h.5, h.6, h.7, h.8⟩
theorem same_engSwaps {z : Bool} {s u : State} (h : Same z s u) (x0 : List EngSwap) :
    Same z s { u with engSwaps := x0 } := ⟨h.1, h.2, h.3, h.4, h.5, h.6, h.7, h.8⟩
theorem same_envs {z : Bool} {s u : State} (h : Same z s u) (x0 : SMap EnvCtr) :
    Same z s { u with envs := x0 } := ⟨h.1, h.2, h.3, h.4, h.5, h.6, h.7, h.8⟩
theorem same_envs_keys {z : Bool} {s u : State} (h : Same z s u) (x0 : SMap EnvCtr) (x1 : SMap (List Byte)) :
    Same z s { u with envs := x0, keys := x1 } := ⟨h.1, h.2, h.3, h.4, h.5, h.6, h.7, h.8⟩
theorem same_excs {z : Bool} {s u : State} (h : Same z s u) (x0 : SMap Exc) :
    Same z s { u with excs := x0 } := ⟨h.1, h.2, h.3, h.4, h.5, h.6, h.7, h.8⟩
theorem same_failingSlots {z : Bool} {s u : State} (h : Same z s u) (x0 : List Nat) :
    Same z s { u with failingSlots := x0 } := ⟨h.1, h.2, h.3, h.4, h.5, h.6, h.7, h.8⟩
theorem same_failingSlots_retiredSlots {z : Bool} {s u : State} (h : Same z s u) (x0 : List Nat) (x1 : List Nat) :
    Same z s { u with failingSlots := x0, retiredSlots := x1 } := ⟨h.1, h.2, h.3, h.4, h.5, h.6, h.7, h.8⟩
theorem same_fe {z : Bool} {s u : State} (h : Same z s u) (x0 : Fe) :
    Same z s { u with fe := x0 } := ⟨h.1, h.2, h.3, h.4, h.5, h.6, h.7, h.8⟩
theorem same_fenced {z : Bool} {s u : State} (h : Same z s u) (x0 : List (Nat × Packet)) :
    Same z s { u with fenced := x0 } := ⟨h.1, h.2, h.3, h.4, h.5, h.6, h.7, h.8⟩
theorem same_force {z : Bool} {s u : State} (h : Same z s u) (x0 : SMap Word) :
    Same z s { u with force := x0 } := ⟨h.1, h.2, h.3, h.4, h.5, h.6, h.7, h.8⟩
theorem same_freqs {z : Bool} {s u : State} (h : Same z s u) (x0 : SMap FreqGate) :
    Same z s { u with freqs := x0 } := ⟨h.1, h.2, h.3, h.4, h.5, h.6, h.7, h.8⟩
theorem same_funcs {z : Bool} {s u : State} (h : Same z s u) (x0 : SMap Func) :
    Same z s { u with funcs := x0 } := ⟨h.1, h.2, h.3, h.4, h.5, h.6, h.7, h.8⟩
theorem same_gaz {z : Bool} {s u : State} (h : Same z s u) (x0 : SMap (Option GazEntry)) :
    Same z s { u with gaz := x0 } := ⟨h.1, h.2, h.3, h.4, h.5, h.6, h.7, h.8⟩
theorem same_gazBook {z : Bool} {s u : State} (h : Same z s u) (x0 : GazBook) :
    Same z s { u with gazBook := x0 } := ⟨h.1, h.2, h.3, h.4, h.5, h.6, h.7, h.8⟩
theorem same_gazSends {z : Bool} {s u : State} (h : Same z s u) (x0 : SMap (Option GazSend)) :
    Same z s { u with gazSends := x0 } := ⟨h.1, h.2, h.3, h.4, h.5, h.6, h.7, h.8⟩
theorem same_gridNext {z : Bool} {s u : State} (h : Same z s u) (x0 : SMap Nat) :
    Same z s { u with gridNext := x0 } := ⟨h.1, h.2, h.3, h.4, h.5, h.6, h.7, h.8⟩
theorem same_grps {z : Bool} {s u : State} (h : Same z s u) (x0 : SMap Group) :
    Same z s { u with grps := x0 } := ⟨h.1, h.2, h.3, h.4, h.5, h.6, h.7, h.8⟩
theorem same_hrings {z : Bool} {s u : State} (h : Same z s u) (x0 : SMap HostRing) :
    Same z s { u with hrings := x0 } := ⟨h.1, h.2, h.3, h.4, h.5, h.6, h.7, h.8⟩
theorem same_ilines {z : Bool} {s u : State} (h : Same z s u) (x0 : SMap ILine) :
    Same z s { u with ilines := x0 } := ⟨h.1, h.2, h.3, h.4, h.5, h.6, h.7, h.8⟩
theorem same_images {z : Bool} {s u : State} (h : Same z s u) (x0 : SMap (Option Word)) :
    Same z s { u with images := x0 } := ⟨h.1, h.2, h.3, h.4, h.5, h.6, h.7, h.8⟩
theorem same_injects {z : Bool} {s u : State} (h : Same z s u) (x0 : SMap (List Span)) :
    Same z s { u with injects := x0 } := ⟨h.1, h.2, h.3, h.4, h.5, h.6, h.7, h.8⟩
theorem same_inps {z : Bool} {s u : State} (h : Same z s u) (x0 : SMap Inp) :
    Same z s { u with inps := x0 } := ⟨h.1, h.2, h.3, h.4, h.5, h.6, h.7, h.8⟩
theorem same_items {z : Bool} {s u : State} (h : Same z s u) (x0 : List ReadyItem) :
    Same z s { u with items := x0 } := ⟨h.1, h.2, h.3, h.4, h.5, h.6, h.7, h.8⟩
theorem same_jobs {z : Bool} {s u : State} (h : Same z s u) (x0 : SMap Job) :
    Same z s { u with jobs := x0 } := ⟨h.1, h.2, h.3, h.4, h.5, h.6, h.7, h.8⟩
theorem same_keyStage {z : Bool} {s u : State} (h : Same z s u) (x0 : SMap Word) :
    Same z s { u with keyStage := x0 } := ⟨h.1, h.2, h.3, h.4, h.5, h.6, h.7, h.8⟩
theorem same_keys {z : Bool} {s u : State} (h : Same z s u) (x0 : SMap (List Byte)) :
    Same z s { u with keys := x0 } := ⟨h.1, h.2, h.3, h.4, h.5, h.6, h.7, h.8⟩
theorem same_lateAt {z : Bool} {s u : State} (h : Same z s u) (x0 : Option Int) :
    Same z s { u with lateAt := x0 } := ⟨h.1, h.2, h.3, h.4, h.5, h.6, h.7, h.8⟩
theorem same_linCopies {z : Bool} {s u : State} (h : Same z s u) (x0 : SMap (List Nat)) :
    Same z s { u with linCopies := x0 } := ⟨h.1, h.2, h.3, h.4, h.5, h.6, h.7, h.8⟩
theorem same_linkUp {z : Bool} {s u : State} (h : Same z s u) (x0 : Bool) :
    Same z s { u with linkUp := x0 } := ⟨h.1, h.2, h.3, h.4, h.5, h.6, h.7, h.8⟩
theorem same_links {z : Bool} {s u : State} (h : Same z s u) (x0 : SMap Link) :
    Same z s { u with links := x0 } := ⟨h.1, h.2, h.3, h.4, h.5, h.6, h.7, h.8⟩
theorem same_log {z : Bool} {s u : State} (h : Same z s u) (x0 : Logbook) (e1 : z = true → x0.slots = u.log.slots) (e2 : z = true → x0.key = u.log.key) :
    Same z s { u with log := x0 } := ⟨h.1, h.2, h.3, h.4, h.5, fun z => (e1 z).trans (h.6 z), fun z => (e2 z).trans (h.7 z), h.8⟩
theorem same_mgb {z : Bool} {s u : State} (h : Same z s u) (x0 : Mgb) :
    Same z s { u with mgb := x0 } := ⟨h.1, h.2, h.3, h.4, h.5, h.6, h.7, h.8⟩
theorem same_monLost {z : Bool} {s u : State} (h : Same z s u) (x0 : List Nat) :
    Same z s { u with monLost := x0 } := ⟨h.1, h.2, h.3, h.4, h.5, h.6, h.7, h.8⟩
theorem same_monQ {z : Bool} {s u : State} (h : Same z s u) (x0 : SMap (List Snapshot)) :
    Same z s { u with monQ := x0 } := ⟨h.1, h.2, h.3, h.4, h.5, h.6, h.7, h.8⟩
theorem same_monQ_monLost {z : Bool} {s u : State} (h : Same z s u) (x0 : SMap (List Snapshot)) (x1 : List Nat) :
    Same z s { u with monQ := x0, monLost := x1 } := ⟨h.1, h.2, h.3, h.4, h.5, h.6, h.7, h.8⟩
theorem same_monSeq_monAt {z : Bool} {s u : State} (h : Same z s u) (x0 : SMap Nat) (x1 : SMap (Int × Nat)) :
    Same z s { u with monSeq := x0, monAt := x1 } := ⟨h.1, h.2, h.3, h.4, h.5, h.6, h.7, h.8⟩
theorem same_mramBad {z : Bool} {s u : State} (h : Same z s u) (x0 : List Nat) :
    Same z s { u with mramBad := x0 } := ⟨h.1, h.2, h.3, h.4, h.5, h.6, h.7, h.8⟩
theorem same_mramMap {z : Bool} {s u : State} (h : Same z s u) (x0 : SMap Nat) :
    Same z s { u with mramMap := x0 } := ⟨h.1, h.2, h.3, h.4, h.5, h.6, h.7, h.8⟩
theorem same_netSenders {z : Bool} {s u : State} (h : Same z s u) (x0 : List NetSender) :
    Same z s { u with netSenders := x0 } := ⟨h.1, h.2, h.3, h.4, h.5, h.6, h.7, h.8⟩
theorem same_nodes {z : Bool} {s u : State} (h : Same z s u) (x0 : SMap NodeStream) :
    Same z s { u with nodes := x0 } := ⟨h.1, h.2, h.3, h.4, h.5, h.6, h.7, h.8⟩
theorem same_nvm {z : Bool} {s u : State} (h : Same z s u) (x0 : List NvmJob) :
    Same z s { u with nvm := x0 } := ⟨h.1, h.2, h.3, h.4, h.5, h.6, h.7, h.8⟩
theorem same_out {z : Bool} {s u : State} (h : Same z s u) (x0 : List Output) :
    Same z s { u with out := x0 } := ⟨h.1, h.2, h.3, h.4, h.5, h.6, h.7, h.8⟩
theorem same_partials {z : Bool} {s u : State} (h : Same z s u) (x0 : List Partial) :
    Same z s { u with partials := x0 } := ⟨h.1, h.2, h.3, h.4, h.5, h.6, h.7, h.8⟩
theorem same_pcvs {z : Bool} {s u : State} (h : Same z s u) (x0 : SMap Pcv) :
    Same z s { u with pcvs := x0 } := ⟨h.1, h.2, h.3, h.4, h.5, h.6, h.7, h.8⟩
theorem same_plotBook {z : Bool} {s u : State} (h : Same z s u) (x0 : PlotBook) :
    Same z s { u with plotBook := x0 } := ⟨h.1, h.2, h.3, h.4, h.5, h.6, h.7, h.8⟩
theorem same_plots {z : Bool} {s u : State} (h : Same z s u) (x0 : SMap Plot) :
    Same z s { u with plots := x0 } := ⟨h.1, h.2, h.3, h.4, h.5, h.6, h.7, h.8⟩
theorem same_popWait {z : Bool} {s u : State} (h : Same z s u) (x0 : List PopWait) :
    Same z s { u with popWait := x0 } := ⟨h.1, h.2, h.3, h.4, h.5, h.6, h.7, h.8⟩
theorem same_ports {z : Bool} {s u : State} (h : Same z s u) (x0 : SMap Port) :
    Same z s { u with ports := x0 } := ⟨h.1, h.2, h.3, h.4, h.5, h.6, h.7, h.8⟩
theorem same_ptm {z : Bool} {s u : State} (h : Same z s u) (x0 : Option PtmDialog) :
    Same z s { u with ptm := x0 } := ⟨h.1, h.2, h.3, h.4, h.5, h.6, h.7, h.8⟩
theorem same_ptmAt {z : Bool} {s u : State} (h : Same z s u) (x0 : Option Int) :
    Same z s { u with ptmAt := x0 } := ⟨h.1, h.2, h.3, h.4, h.5, h.6, h.7, h.8⟩
theorem same_pulses {z : Bool} {s u : State} (h : Same z s u) (x0 : List Pulse) :
    Same z s { u with pulses := x0 } := ⟨h.1, h.2, h.3, h.4, h.5, h.6, h.7, h.8⟩
theorem same_ques {z : Bool} {s u : State} (h : Same z s u) (x0 : SMap Que) :
    Same z s { u with ques := x0 } := ⟨h.1, h.2, h.3, h.4, h.5, h.6, h.7, h.8⟩
theorem same_quesOn {z : Bool} {s u : State} (h : Same z s u) (x0 : List Nat) :
    Same z s { u with quesOn := x0 } := ⟨h.1, h.2, h.3, h.4, h.5, h.6, h.7, h.8⟩
theorem same_quesOn_rxs {z : Bool} {s u : State} (h : Same z s u) (x0 : List Nat) (x1 : SMap RxStream) :
    Same z s { u with quesOn := x0, rxs := x1 } := ⟨h.1, h.2, h.3, h.4, h.5, h.6, h.7, h.8⟩
theorem same_rates {z : Bool} {s u : State} (h : Same z s u) (x0 : SMap CmdRate) :
    Same z s { u with rates := x0 } := ⟨h.1, h.2, h.3, h.4, h.5, h.6, h.7, h.8⟩
theorem same_raws {z : Bool} {s u : State} (h : Same z s u) (x0 : SMap RawPath) :
    Same z s { u with raws := x0 } := ⟨h.1, h.2, h.3, h.4, h.5, h.6, h.7, h.8⟩
theorem same_regs {z : Bool} {s u : State} (h : Same z s u) (x0 : SMap Word) :
    Same z s { u with regs := x0 } := ⟨h.1, h.2, h.3, h.4, h.5, h.6, h.7, h.8⟩
theorem same_regs_vecs {z : Bool} {s u : State} (h : Same z s u) (x0 : SMap Word) (x1 : SMap Vec) :
    Same z s { u with regs := x0, vecs := x1 } := ⟨h.1, h.2, h.3, h.4, h.5, h.6, h.7, h.8⟩
theorem same_ring {z : Bool} {s u : State} (h : Same z s u) (x0 : Ring) :
    Same z s { u with ring := x0 } := ⟨h.1, h.2, h.3, h.4, h.5, h.6, h.7, h.8⟩
theorem same_router {z : Bool} {s u : State} (h : Same z s u) (x0 : List RouterItem) :
    Same z s { u with router := x0 } := ⟨h.1, h.2, h.3, h.4, h.5, h.6, h.7, h.8⟩
theorem same_router_units {z : Bool} {s u : State} (h : Same z s u) (x0 : List RouterItem) (x1 : SMap (List ReadyItem)) :
    Same z s { u with router := x0, units := x1 } := ⟨h.1, h.2, h.3, h.4, h.5, h.6, h.7, h.8⟩
theorem same_router_windows {z : Bool} {s u : State} (h : Same z s u) (x0 : List RouterItem) (x1 : List EvWindow) :
    Same z s { u with router := x0, windows := x1 } := ⟨h.1, h.2, h.3, h.4, h.5, h.6, h.7, h.8⟩
theorem same_rxs {z : Bool} {s u : State} (h : Same z s u) (x0 : SMap RxStream) :
    Same z s { u with rxs := x0 } := ⟨h.1, h.2, h.3, h.4, h.5, h.6, h.7, h.8⟩
theorem same_scheds {z : Bool} {s u : State} (h : Same z s u) (x0 : SMap Sched) :
    Same z s { u with scheds := x0 } := ⟨h.1, h.2, h.3, h.4, h.5, h.6, h.7, h.8⟩
theorem same_sfeChs {z : Bool} {s u : State} (h : Same z s u) (x0 : SMap SfeCh) :
    Same z s { u with sfeChs := x0 } := ⟨h.1, h.2, h.3, h.4, h.5, h.6, h.7, h.8⟩
theorem same_sheets {z : Bool} {s u : State} (h : Same z s u) (x0 : SMap Sheet) :
    Same z s { u with sheets := x0 } := ⟨h.1, h.2, h.3, h.4, h.5, h.6, h.7, h.8⟩
theorem same_sigs {z : Bool} {s u : State} (h : Same z s u) (x0 : SMap SigOut) :
    Same z s { u with sigs := x0 } := ⟨h.1, h.2, h.3, h.4, h.5, h.6, h.7, h.8⟩
theorem same_slots {z : Bool} {s u : State} (h : Same z s u) (x0 : SMap Slot) :
    Same z s { u with slots := x0 } := ⟨h.1, h.2, h.3, h.4, h.5, h.6, h.7, h.8⟩
theorem same_spareBook {z : Bool} {s u : State} (h : Same z s u) (x0 : SpareBook) :
    Same z s { u with spareBook := x0 } := ⟨h.1, h.2, h.3, h.4, h.5, h.6, h.7, h.8⟩
theorem same_spxTx {z : Bool} {s u : State} (h : Same z s u) (x0 : SMap (List TxFlit)) :
    Same z s { u with spxTx := x0 } := ⟨h.1, h.2, h.3, h.4, h.5, h.6, h.7, h.8⟩
theorem same_stageQ {z : Bool} {s u : State} (h : Same z s u) (x0 : List StageItem) :
    Same z s { u with stageQ := x0 } := ⟨h.1, h.2, h.3, h.4, h.5, h.6, h.7, h.8⟩
theorem same_stageQ_log {z : Bool} {s u : State} (h : Same z s u) (x0 : List StageItem) (x1 : Logbook) (e1 : z = true → x1.slots = u.log.slots) (e2 : z = true → x1.key = u.log.key) :
    Same z s { u with stageQ := x0, log := x1 } := ⟨h.1, h.2, h.3, h.4, h.5, fun z => (e1 z).trans (h.6 z), fun z => (e2 z).trans (h.7 z), h.8⟩
theorem same_staged {z : Bool} {s u : State} (h : Same z s u) (x0 : List Staged) :
    Same z s { u with staged := x0 } := ⟨h.1, h.2, h.3, h.4, h.5, h.6, h.7, h.8⟩
theorem same_start {z : Bool} {s u : State} (h : Same z s u) (x0 : Start) :
    Same z s { u with start := x0 } := ⟨h.1, h.2, h.3, h.4, h.5, h.6, h.7, h.8⟩
theorem same_tagQ {z : Bool} {s u : State} (h : Same z s u) (x0 : SMap (List EdgeTag)) :
    Same z s { u with tagQ := x0 } := ⟨h.1, h.2, h.3, h.4, h.5, h.6, h.7, h.8⟩
theorem same_tags {z : Bool} {s u : State} (h : Same z s u) (x0 : SMap TagEntry) :
    Same z s { u with tags := x0 } := ⟨h.1, h.2, h.3, h.4, h.5, h.6, h.7, h.8⟩
theorem same_tb {z : Bool} {s u : State} (h : Same z s u) (x0 : TimeBase) (e1 : x0.fc = u.tb.fc) (e2 : x0.locked = u.tb.locked) :
    Same z s { u with tb := x0 } := ⟨h.1, e1.trans h.2, e2.trans h.3, h.4, h.5, h.6, h.7, h.8⟩
theorem same_tdc {z : Bool} {s u : State} (h : Same z s u) (x0 : SMap TdcCore) :
    Same z s { u with tdc := x0 } := ⟨h.1, h.2, h.3, h.4, h.5, h.6, h.7, h.8⟩
theorem same_tdcSwitches {z : Bool} {s u : State} (h : Same z s u) (x0 : List TdcSwitch) :
    Same z s { u with tdcSwitches := x0 } := ⟨h.1, h.2, h.3, h.4, h.5, h.6, h.7, h.8⟩
theorem same_timCal {z : Bool} {s u : State} (h : Same z s u) (x0 : Int) :
    Same z s { u with timCal := x0 } := ⟨h.1, h.2, h.3, h.4, h.5, h.6, h.7, h.8⟩
theorem same_trgOuts {z : Bool} {s u : State} (h : Same z s u) (x0 : SMap TrgOut) :
    Same z s { u with trgOuts := x0 } := ⟨h.1, h.2, h.3, h.4, h.5, h.6, h.7, h.8⟩
theorem same_trgSeq {z : Bool} {s u : State} (h : Same z s u) (x0 : Nat) :
    Same z s { u with trgSeq := x0 } := ⟨h.1, h.2, h.3, h.4, h.5, h.6, h.7, h.8⟩
theorem same_trigs {z : Bool} {s u : State} (h : Same z s u) (x0 : List Trig) :
    Same z s { u with trigs := x0 } := ⟨h.1, h.2, h.3, h.4, h.5, h.6, h.7, h.8⟩
theorem same_trimImg {z : Bool} {s u : State} (h : Same z s u) (x0 : SMap (Option Word)) :
    Same z s { u with trimImg := x0 } := ⟨h.1, h.2, h.3, h.4, h.5, h.6, h.7, h.8⟩
theorem same_trimLoaded {z : Bool} {s u : State} (h : Same z s u) (x0 : List Nat) :
    Same z s { u with trimLoaded := x0 } := ⟨h.1, h.2, h.3, h.4, h.5, h.6, h.7, h.8⟩
theorem same_txts {z : Bool} {s u : State} (h : Same z s u) (x0 : SMap (List TxStamp)) :
    Same z s { u with txts := x0 } := ⟨h.1, h.2, h.3, h.4, h.5, h.6, h.7, h.8⟩
theorem same_units {z : Bool} {s u : State} (h : Same z s u) (x0 : SMap (List ReadyItem)) :
    Same z s { u with units := x0 } := ⟨h.1, h.2, h.3, h.4, h.5, h.6, h.7, h.8⟩
theorem same_vecs {z : Bool} {s u : State} (h : Same z s u) (x0 : SMap Vec) :
    Same z s { u with vecs := x0 } := ⟨h.1, h.2, h.3, h.4, h.5, h.6, h.7, h.8⟩
theorem same_windows {z : Bool} {s u : State} (h : Same z s u) (x0 : List EvWindow) :
    Same z s { u with windows := x0 } := ⟨h.1, h.2, h.3, h.4, h.5, h.6, h.7, h.8⟩

end Sys2Proof.Machine
end

