-- ==== Sys2Proof/Laws/Frame1.lean ====
section
/-! SUPPORT. One lemma per operation: what it leaves as it is (part 1 of 6, in the order of dependence). -/
set_option maxRecDepth 10000
namespace Sys2Proof.Machine

theorem State.setFunc_same {z : Bool} {s u : State} (h : Same z s u) (fn : Nat) (f : Func) : Same z s (State.setFunc u fn f) := by
  unfold State.setFunc
  with_reducible repeat' (first | assumption | intro _ | apply ite_same | apply foldl_same | split | dsimp only | apply same_funcs)
theorem State.setTab_same {z : Bool} {s u : State} (h : Same z s u) (k0 : Nat) (w : Word) : Same z s (State.setTab u k0 w) := by
  unfold State.setTab
  with_reducible repeat' (first | assumption | intro _ | apply ite_same | apply foldl_same | split | dsimp only | apply same_aper)
theorem State.stageRunning_same {z : Bool} {s u : State} (h : Same z s u) : Same z s (State.stageRunning u) := by
  unfold State.stageRunning
  with_reducible repeat' (first | assumption | intro _ | rfl | exact reanchor_fc _ | exact reanchor_locked _ | contradiction | apply ite_same | apply foldl_same | split | dsimp only | apply same_log)
theorem State.wr_same {z : Bool} {s u : State} (h : Same z s u) (r : Reg) (w : Word) : Same z s (State.wr u r w) := by
  unfold State.wr
  with_reducible repeat' (first | assumption | intro _ | apply ite_same | apply foldl_same | split | dsimp only | apply same_regs)
theorem State.wn_same {z : Bool} {s u : State} (h : Same z s u) (r : Reg) (v : Nat) : Same z s (State.wn u r v) := by
  unfold State.wn
  with_reducible repeat' (first | assumption | intro _ | apply State.wr_same | apply ite_same | apply foldl_same | split | dsimp only)
theorem State.bump_same {z : Bool} {s u : State} (h : Same z s u) (r : Reg) (n : Nat) : Same z s (State.bump u r n) := by
  unfold State.bump
  with_reducible repeat' (first | assumption | intro _ | apply State.wn_same | apply ite_same | apply foldl_same | split | dsimp only)
theorem State.routeRec_same {z : Bool} {s u : State} (h : Same z s u) (b : Nat) (r : EvRec) (v : Option Nat) : Same z s (State.routeRec u b r v) := by
  unfold State.routeRec
  with_reducible repeat' (first | assumption | intro _ | apply State.bump_same | apply ite_same | apply foldl_same | split | dsimp only | apply same_router)
theorem State.closeWindow_same {z : Bool} {s u : State} (h : Same z s u) (x : EvWindow) : Same z s (State.closeWindow u x) := by
  unfold State.closeWindow
  with_reducible repeat' (first | assumption | intro _ | apply State.routeRec_same | apply ite_same | apply foldl_same | split | dsimp only | apply same_windows)
theorem State.closeExpired_same {z : Bool} {s u : State} (h : Same z s u) (b : Nat) (r : EvRec) (a3 : Nat) : Same z s (State.closeExpired u b r a3) := by
  induction a3 generalizing u with
  | zero => unfold State.closeExpired; with_reducible repeat' (first | assumption | intro _ | apply State.closeWindow_same | apply ite_same | apply foldl_same | split | dsimp only)
  | succ n ih => unfold State.closeExpired; with_reducible repeat' (first | assumption | apply ih | intro _ | apply State.closeWindow_same | apply ite_same | apply foldl_same | split | dsimp only)
theorem State.queueRec_same {z : Bool} {s u : State} (h : Same z s u) (b : Nat) (r : EvRec) (mand : Bool) (v : Option Nat) : Same z s (State.queueRec u b r mand v) := by
  unfold State.queueRec
  with_reducible repeat' (first | assumption | intro _ | apply State.routeRec_same | apply State.closeExpired_same | apply ite_same | apply foldl_same | split | dsimp only | apply same_windows)
theorem State.setVec_same {z : Bool} {s u : State} (h : Same z s u) (fn : Nat) (v : Nat) (x : Vec) : Same z s (State.setVec u fn v x) := by
  unfold State.setVec
  with_reducible repeat' (first | assumption | intro _ | apply ite_same | apply foldl_same | split | dsimp only | apply same_vecs)
theorem State.emit_same {z : Bool} {s u : State} (h : Same z s u) (o : Output) : Same z s (State.emit u o) := by
  unfold State.emit
  with_reducible repeat' (first | assumption | intro _ | apply ite_same | apply foldl_same | split | dsimp only | apply same_out)
theorem State.vecSend_same {z : Bool} {s u : State} (h : Same z s u) (fn : Nat) (v : Nat) : Same z s (State.vecSend u fn v) := by
  unfold State.vecSend
  with_reducible repeat' (first | assumption | intro _ | apply State.setVec_same | apply State.emit_same | apply ite_same | apply foldl_same | split | dsimp only)
theorem State.vecDue_same {z : Bool} {s u : State} (h : Same z s u) (fn : Nat) (v : Nat) : Same z s (State.vecDue u fn v) := by
  unfold State.vecDue
  with_reducible repeat' (first | assumption | intro _ | apply State.setVec_same | apply State.vecSend_same | apply ite_same | apply foldl_same | split | dsimp only)
theorem State.put_same {z : Bool} {s u : State} (h : Same z s u) (f : Fld) (v : Nat) : Same z s (State.put u f v) := by
  unfold State.put
  with_reducible repeat' (first | assumption | intro _ | apply State.wr_same | apply ite_same | apply foldl_same | split | dsimp only)
theorem State.stageLog_same {z : Bool} {s u : State} (h : Same z s u) (r : EvRec) (mand : Bool) : Same z s (State.stageLog u r mand) := by
  unfold State.stageLog
  with_reducible repeat' (first | assumption | intro _ | apply State.stageRunning_same | apply State.put_same | apply State.bump_same | rfl | exact reanchor_fc _ | exact reanchor_locked _ | contradiction | apply ite_same | apply foldl_same | split | dsimp only | apply same_stageQ | apply same_stageQ_log)
theorem State.raise1_same {z : Bool} {s u : State} (h : Same z s u) (e : EvId) (inst : Nat) (det : List Detail) (bor0 : Nat) (pol : Bool) (mand : Bool) (nolog : Bool) : Same z s (State.raise1 u e inst det bor0 pol mand nolog) := by
  unfold State.raise1
  with_reducible repeat' (first | assumption | intro _ | apply State.bump_same | apply State.wn_same | apply State.queueRec_same | apply State.vecDue_same | apply State.stageLog_same | apply ite_same | apply foldl_same | split | dsimp only)
theorem State.raise_same {z : Bool} {s u : State} (h : Same z s u) (e : EvId) (inst : Nat) (det : List Detail) (bor : Nat) (pol : Bool) (mand : Bool) (nolog : Bool) : Same z s (State.raise u e inst det bor pol mand nolog) := by
  unfold State.raise
  with_reducible repeat' (first | assumption | intro _ | apply State.raise1_same | apply ite_same | apply foldl_same | split | dsimp only)
theorem State.drawInt_same {z : Bool} {s u : State} (h : Same z s u) : Same z s (State.drawInt u).2 := by
  unfold State.drawInt
  with_reducible repeat' (first | assumption | intro _ | apply ite_same | apply foldl_same | apply ite_same2 | apply foldl_same2 | split | dsimp only | apply same_drawn)
theorem State.bumpSat_same {z : Bool} {s u : State} (h : Same z s u) (r : Reg) (e : EvId) (inst : Nat) (n : Nat) : Same z s (State.bumpSat u r e inst n) := by
  unfold State.bumpSat
  with_reducible repeat' (first | assumption | intro _ | apply State.bump_same | apply State.raise_same | apply ite_same | apply foldl_same | split | dsimp only)
theorem State.wr64_same {z : Bool} {s u : State} (h : Same z s u) (lo : Reg) (hi : Reg) (v : Nat) : Same z s (State.wr64 u lo hi v) := by
  unfold State.wr64
  with_reducible repeat' (first | assumption | intro _ | apply State.wn_same | apply ite_same | apply foldl_same | split | dsimp only)
theorem State.fwr_same {z : Bool} {s u : State} (h : Same z s u) (r : Reg) (w : Word) : Same z s (State.fwr u r w) := by
  unfold State.fwr
  with_reducible repeat' (first | assumption | intro _ | apply ite_same | apply foldl_same | split | dsimp only | apply same_force)
theorem State.popStall_same {z : Bool} {s u : State} (h : Same z s u) (n : Nat) (fn : Nat) : Same z s (State.popStall u n fn) := by
  unfold State.popStall
  with_reducible repeat' (first | assumption | intro _ | apply ite_same | apply foldl_same | split | dsimp only | apply same_popWait)
theorem State.popResume_same {z : Bool} {s u : State} (h : Same z s u) (n : Nat) : Same z s (State.popResume u n) := by
  unfold State.popResume
  with_reducible repeat' (first | assumption | intro _ | apply ite_same | apply foldl_same | split | dsimp only | apply same_popWait)
theorem State.draw_same {z : Bool} {s u : State} (h : Same z s u) (n : Nat) : Same z s (State.draw u n).2 := by
  unfold State.draw
  with_reducible repeat' (first | assumption | intro _ | apply ite_same | apply foldl_same | apply ite_same2 | apply foldl_same2 | split | dsimp only | apply same_drawn)
theorem State.reservedHit_same {z : Bool} {s u : State} (h : Same z s u) (fn : Nat) (bar : Nat) (off : Nat) (write : Bool) : Same z s (State.reservedHit u fn bar off write) := by
  unfold State.reservedHit
  with_reducible repeat' (first | assumption | intro _ | apply State.wn_same | apply State.bump_same | apply State.raise_same | apply State.setFunc_same | apply ite_same | apply foldl_same | split | dsimp only)
theorem State.widthHit_same {z : Bool} {s u : State} (h : Same z s u) (fn : Nat) (bar : Nat) (off : Nat) (write : Bool) : Same z s (State.widthHit u fn bar off write) := by
  unfold State.widthHit
  with_reducible repeat' (first | assumption | intro _ | apply State.raise_same | apply State.wn_same | apply State.bump_same | apply ite_same | apply foldl_same | split | dsimp only)
theorem State.mergeRaw_same {z : Bool} {s u : State} (h : Same z s u) (key : Nat) (w : Wr) : Same z s (State.mergeRaw u key w) := by
  unfold State.mergeRaw
  with_reducible repeat' (first | assumption | intro _ | apply State.wn_same | apply State.raise_same | apply ite_same | apply foldl_same | split | dsimp only)
theorem State.pairHalf_same {z : Bool} {s u : State} (h : Same z s u) (key : Nat) (w : Wr) : Same z s (State.pairHalf u key w) := by
  unfold State.pairHalf
  with_reducible repeat' (first | assumption | intro _ | apply State.raise_same | apply State.mergeRaw_same | apply State.reservedHit_same | rfl | exact reanchor_fc _ | exact reanchor_locked _ | contradiction | apply ite_same | apply foldl_same | split | dsimp only | apply same_tb)
theorem State.flushHeld_same {z : Bool} {s u : State} (h : Same z s u) (fn : Nat) : Same z s (State.flushHeld u fn) := by
  unfold State.flushHeld
  with_reducible repeat' (first | assumption | intro _ | apply State.setFunc_same | apply State.pairHalf_same | apply ite_same | apply foldl_same | split | dsimp only)
theorem State.pfOnly_same {z : Bool} {s u : State} (h : Same z s u) (w : Wr) (off : Nat) (f : State → State) (k : ∀ v, Same z s v → Same z s (f v)) : Same z s (State.pfOnly u w off f) := by
  unfold State.pfOnly
  with_reducible repeat' (first | assumption | intro _ | apply k | apply State.flushHeld_same | apply State.reservedHit_same | apply ite_same | apply foldl_same | split | dsimp only)
theorem State.showPend_same {z : Bool} {s u : State} (h : Same z s u) (u0 : UnitId) : Same z s (State.showPend u u0) := by
  unfold State.showPend
  with_reducible repeat' (first | assumption | intro _ | apply State.put_same | apply ite_same | apply foldl_same | split | dsimp only)
theorem State.stage_same {z : Bool} {s u : State} (h : Same z s u) (x : Staged) : Same z s (State.stage u x) := by
  unfold State.stage
  with_reducible repeat' (first | assumption | intro _ | apply State.showPend_same | apply State.raise_same | apply ite_same | apply foldl_same | split | dsimp only | apply same_staged)
theorem State.forceVal_same {z : Bool} {s u : State} (h : Same z s u) (v : SVal) : Same z s (State.forceVal u v) := by
  unfold State.forceVal
  with_reducible repeat' (first | assumption | intro _ | apply State.fwr_same | apply ite_same | apply foldl_same | split | dsimp only | apply same_trimImg)
theorem State.forceVals_same {z : Bool} {s u : State} (h : Same z s u) (l : List SVal) : Same z s (State.forceVals u l) := by
  unfold State.forceVals
  with_reducible repeat' (first | assumption | intro _ | apply State.forceVal_same | apply ite_same | apply foldl_same | split | dsimp only)
theorem State.unstage_same {z : Bool} {s u : State} (h : Same z s u) (u0 : UnitId) : Same z s (State.unstage u u0) := by
  unfold State.unstage
  with_reducible repeat' (first | assumption | intro _ | apply State.showPend_same | apply ite_same | apply foldl_same | split | dsimp only | apply same_staged)
theorem State.policyLog_same {z : Bool} {s u : State} (h : Same z s u) (e : EvId) (inst : Nat) (det : List Detail) : Same z s (State.policyLog u e inst det) := by
  unfold State.policyLog
  with_reducible repeat' (first | assumption | intro _ | apply State.stageLog_same | apply ite_same | apply foldl_same | split | dsimp only)
theorem State.setTrim_same {z : Bool} {s u : State} (h : Same z s u) (page : Nat) (off : Nat) (v : Nat) : Same z s (State.setTrim u page off v) := by
  unfold State.setTrim
  with_reducible repeat' (first | assumption | intro _ | apply ite_same | apply foldl_same | split | dsimp only | apply same_trimImg)
theorem State.wearCheck_same {z : Bool} {s u : State} (h : Same z s u) (c : Nat) (part : Nat) : Same z s (State.wearCheck u c part) := by
  unfold State.wearCheck
  with_reducible repeat' (first | assumption | intro _ | apply State.raise_same | apply State.put_same | apply ite_same | apply foldl_same | split | dsimp only | apply same_spareBook)
theorem State.useSpare_same {z : Bool} {s u : State} (h : Same z s u) (c : Nat) (part : Nat) : Same z s (State.useSpare u c part) := by
  unfold State.useSpare
  with_reducible repeat' (first | assumption | intro _ | apply State.put_same | apply State.wearCheck_same | apply ite_same | apply foldl_same | split | dsimp only)
theorem State.pqLose_same {z : Bool} {s u : State} (h : Same z s u) (n : Nat) : Same z s (State.pqLose u n) := by
  unfold State.pqLose
  with_reducible repeat' (first | assumption | intro _ | apply State.bump_same | apply State.put_same | apply State.raise_same | apply ite_same | apply foldl_same | split | dsimp only)
theorem State.spareExhausted_same {z : Bool} {s u : State} (h : Same z s u) (c : Nat) (part : Nat) : Same z s (State.spareExhausted u c part) := by
  unfold State.spareExhausted
  with_reducible repeat' (first | assumption | intro _ | apply State.raise_same | apply State.put_same | apply ite_same | apply foldl_same | split | dsimp only | apply same_spareBook)
theorem State.refuseDom_same {z : Bool} {s u : State} (h : Same z s u) (d : Nat) : Same z s (State.refuseDom u d) := by
  unfold State.refuseDom
  with_reducible repeat' (first | assumption | intro _ | apply State.bump_same | apply State.raise_same | apply ite_same | apply foldl_same | split | dsimp only | apply same_spareBook)
theorem State.setTag_same {z : Bool} {s u : State} (h : Same z s u) (b : Nat) (t : Nat) (x : TagEntry) : Same z s (State.setTag u b t x) := by
  unfold State.setTag
  with_reducible repeat' (first | assumption | intro _ | apply ite_same | apply foldl_same | split | dsimp only | apply same_tags)
theorem State.replyLost_same {z : Bool} {s u : State} (h : Same z s u) (b : Nat) (r : Nat) : Same z s (State.replyLost u b r) := by
  unfold State.replyLost
  with_reducible repeat' (first | assumption | intro _ | apply State.put_same | apply ite_same | apply foldl_same | split | dsimp only)
theorem State.setCring_same {z : Bool} {s u : State} (h : Same z s u) (b : Nat) (r : Nat) (x : CRing) : Same z s (State.setCring u b r x) := by
  unfold State.setCring
  with_reducible repeat' (first | assumption | intro _ | apply ite_same | apply foldl_same | split | dsimp only | apply same_crings)
theorem State.cplPut_same {z : Bool} {s u : State} (h : Same z s u) (b : Nat) (r : Nat) (slots : Nat) (l : List Word) : Same z s (State.cplPut u b r slots l) := by
  unfold State.cplPut
  with_reducible repeat' (first | assumption | intro _ | apply State.put_same | apply State.emit_same | apply ite_same | apply foldl_same | split | dsimp only)
theorem State.cplPad_same {z : Bool} {s u : State} (h : Same z s u) (b : Nat) (r : Nat) (l : List Word) : Same z s (State.cplPad u b r l) := by
  unfold State.cplPad
  with_reducible repeat' (first | assumption | intro _ | apply State.cplPut_same | apply ite_same | apply foldl_same | split | dsimp only)
theorem State.cplWrite_same {z : Bool} {s u : State} (h : Same z s u) (b : Nat) (r : Nat) (l : List Word) : Same z s (State.cplWrite u b r l).2 := by
  unfold State.cplWrite
  with_reducible repeat' (first | assumption | intro _ | apply State.cplPut_same | apply State.vecDue_same | apply State.cplPad_same | apply ite_same | apply foldl_same | apply ite_same2 | apply foldl_same2 | split | dsimp only)
theorem State.cringDone_same {z : Bool} {s u : State} (h : Same z s u) (b : Nat) (r : Nat) : Same z s (State.cringDone u b r) := by
  unfold State.cringDone
  with_reducible repeat' (first | assumption | intro _ | apply State.put_same | apply State.setCring_same | apply ite_same | apply foldl_same | split | dsimp only)
theorem State.cplWaits_same {z : Bool} {s u : State} (h : Same z s u) (b : Nat) (r : Nat) (full : Bool) : Same z s (State.cplWaits u b r full) := by
  unfold State.cplWaits
  with_reducible repeat' (first | assumption | intro _ | apply ite_same | apply foldl_same | split | dsimp only | apply same_ques)
theorem State.showQue_same {z : Bool} {s u : State} (h : Same z s u) (q : Nat) : Same z s (State.showQue u q) := by
  unfold State.showQue
  with_reducible repeat' (first | assumption | intro _ | apply State.put_same | apply State.wn_same | apply State.wr64_same | apply ite_same | apply foldl_same | split | dsimp only)
theorem State.pickPlot_same {z : Bool} {s u : State} (h : Same z s u) (tier : Nat) : Same z s (State.pickPlot u tier).2 := by
  unfold State.pickPlot
  with_reducible repeat' (first | assumption | intro _ | apply State.draw_same | apply ite_same | apply foldl_same | apply ite_same2 | apply foldl_same2 | split | refine pairSame2 (by assumption) ?_ | dsimp only)
theorem State.setPlot_same {z : Bool} {s u : State} (h : Same z s u) (id : Nat) (x : Plot) : Same z s (State.setPlot u id x) := by
  unfold State.setPlot
  with_reducible repeat' (first | assumption | intro _ | apply ite_same | apply foldl_same | split | dsimp only | apply same_plots)
theorem State.setEsc_same {z : Bool} {s u : State} (h : Same z s u) (tier : Nat) (v : Nat) : Same z s (State.setEsc u tier v) := by
  unfold State.setEsc
  with_reducible repeat' (first | assumption | intro _ | apply State.put_same | apply State.raise_same | apply ite_same | apply foldl_same | split | dsimp only | apply same_plotBook)
theorem State.takePlot_same {z : Bool} {s u : State} (h : Same z s u) (tier : Nat) (kind : Nat) (owner : Nat) (b : Nat) (esc : Bool) : Same z s (State.takePlot u tier kind owner b esc).2 := by
  unfold State.takePlot
  with_reducible repeat' (first | assumption | intro _ | apply State.pickPlot_same | apply State.setPlot_same | apply State.put_same | apply State.wn_same | apply State.setEsc_same | apply State.raise_same | apply ite_same | apply foldl_same | apply ite_same2 | apply foldl_same2 | split | refine pairSame2 (by assumption) ?_ | dsimp only)
theorem State.prefetch_same {z : Bool} {s u : State} (h : Same z s u) (q : Nat) : Same z s (State.prefetch u q) := by
  unfold State.prefetch
  with_reducible repeat' (first | assumption | intro _ | apply State.takePlot_same | apply State.put_same | apply ite_same | apply foldl_same | apply ite_same2 | apply foldl_same2 | split | refine pairSame2 (by assumption) ?_ | dsimp only | apply same_copies)
theorem State.retirePlot_same {z : Bool} {s u : State} (h : Same z s u) (id : Nat) (policy : Bool) : Same z s (State.retirePlot u id policy) := by
  unfold State.retirePlot
  with_reducible repeat' (first | assumption | intro _ | apply State.setPlot_same | apply State.spareExhausted_same | apply State.raise_same | apply State.useSpare_same | apply State.wn_same | apply ite_same | apply foldl_same | split | dsimp only)
theorem State.freePlot_same {z : Bool} {s u : State} (h : Same z s u) (id : Nat) : Same z s (State.freePlot u id) := by
  unfold State.freePlot
  with_reducible repeat' (first | assumption | intro _ | apply State.put_same | apply State.setEsc_same | apply State.retirePlot_same | apply State.wn_same | apply State.setPlot_same | apply ite_same | apply foldl_same | split | dsimp only)
theorem State.setQue_same {z : Bool} {s u : State} (h : Same z s u) (q : Nat) (x : Que) : Same z s (State.setQue u q x) := by
  unfold State.setQue
  with_reducible repeat' (first | assumption | intro _ | apply ite_same | apply foldl_same | split | dsimp only | apply same_ques)
theorem State.advance_same {z : Bool} {s u : State} (h : Same z s u) (q : Nat) (a2 : Nat) (a3 : Nat) : Same z s (State.advance u q a2 a3) := by
  induction a2 generalizing u a3 with
  | zero => unfold State.advance; with_reducible repeat' (first | assumption | intro _ | apply State.freePlot_same | apply State.setQue_same | apply ite_same | apply foldl_same | split | dsimp only)
  | succ n ih => unfold State.advance; with_reducible repeat' (first | assumption | apply ih | intro _ | apply State.freePlot_same | apply State.setQue_same | apply ite_same | apply foldl_same | split | dsimp only)
theorem State.chainRead_same {z : Bool} {s u : State} (h : Same z s u) (q : Nat) (n : Nat) : Same z s (State.chainRead u q n) := by
  unfold State.chainRead
  with_reducible repeat' (first | assumption | intro _ | apply State.showQue_same | apply State.prefetch_same | apply State.advance_same | apply State.setQue_same | apply ite_same | apply foldl_same | split | dsimp only)
theorem State.cplRead_same {z : Bool} {s u : State} (h : Same z s u) (b : Nat) (r : Nat) (l : List Word) : Same z s (State.cplRead u b r l) := by
  unfold State.cplRead
  with_reducible repeat' (first | assumption | intro _ | apply State.chainRead_same | apply State.setCring_same | apply ite_same | apply foldl_same | split | dsimp only)
theorem State.cplFlush_same {z : Bool} {s u : State} (h : Same z s u) (b : Nat) (r : Nat) (a3 : List (List Word)) : Same z s (State.cplFlush u b r a3) := by
  induction a3 generalizing u with
  | nil => unfold State.cplFlush; with_reducible repeat' (first | assumption | intro _ | apply State.setCring_same | apply State.cplWrite_same | apply State.cringDone_same | apply State.cplWaits_same | apply State.cplRead_same | apply ite_same | apply foldl_same | apply ite_same2 | apply foldl_same2 | split | refine pairSame2 (by assumption) ?_ | dsimp only)
  | cons _ n ih => unfold State.cplFlush; with_reducible repeat' (first | assumption | apply ih | intro _ | apply State.setCring_same | apply State.cplWrite_same | apply State.cringDone_same | apply State.cplWaits_same | apply State.cplRead_same | apply ite_same | apply foldl_same | apply ite_same2 | apply foldl_same2 | split | refine pairSame2 (by assumption) ?_ | dsimp only)
theorem State.fillPlot_same {z : Bool} {s u : State} (h : Same z s u) (id : Nat) (n : Nat) : Same z s (State.fillPlot u id n) := by
  unfold State.fillPlot
  with_reducible repeat' (first | assumption | intro _ | apply State.setPlot_same | apply ite_same | apply foldl_same | split | dsimp only)
theorem State.fillTail_same {z : Bool} {s u : State} (h : Same z s u) (q : Nat) (n : Nat) : Same z s (State.fillTail u q n) := by
  unfold State.fillTail
  with_reducible repeat' (first | assumption | intro _ | apply State.fillPlot_same | apply ite_same | apply foldl_same | split | dsimp only)
theorem State.noPlotCount_same {z : Bool} {s u : State} (h : Same z s u) : Same z s (State.noPlotCount u) := by
  unfold State.noPlotCount
  with_reducible repeat' (first | assumption | intro _ | apply State.bumpSat_same | apply ite_same | apply foldl_same | split | dsimp only)
theorem State.askTiers_same {z : Bool} {s u : State} (h : Same z s u) (q : Nat) (tiers : List Nat) : Same z s (State.askTiers u q tiers).2 := by
  unfold State.askTiers
  with_reducible repeat' (first | assumption | intro _ | apply State.takePlot_same | apply State.noPlotCount_same | apply State.raise_same | apply State.put_same | apply State.setQue_same | apply ite_same | apply foldl_same | apply ite_same2 | apply foldl_same2 | split | refine pairSame2 (by assumption) ?_ | dsimp only | apply same_plotBook)
theorem State.showElastic_same {z : Bool} {s u : State} (h : Same z s u) : Same z s (State.showElastic u) := by
  unfold State.showElastic
  with_reducible repeat' (first | assumption | intro _ | apply State.wn_same | apply ite_same | apply foldl_same | split | dsimp only)
theorem State.refuseWriter_same {z : Bool} {s u : State} (h : Same z s u) (q : Nat) : Same z s (State.refuseWriter u q) := by
  unfold State.refuseWriter
  with_reducible repeat' (first | assumption | intro _ | apply State.showElastic_same | apply State.setQue_same | apply State.raise_same | apply State.put_same | apply ite_same | apply foldl_same | split | dsimp only)
theorem State.askPlot_same {z : Bool} {s u : State} (h : Same z s u) (q : Nat) : Same z s (State.askPlot u q).2 := by
  unfold State.askPlot
  with_reducible repeat' (first | assumption | intro _ | apply State.askTiers_same | apply State.setQue_same | apply State.showElastic_same | apply State.showQue_same | apply State.put_same | apply State.refuseWriter_same | apply ite_same | apply foldl_same | apply ite_same2 | apply foldl_same2 | split | refine pairSame2 (by assumption) ?_ | dsimp only)
theorem State.pageOut_same {z : Bool} {s u : State} (h : Same z s u) (q : Nat) (id : Nat) : Same z s (State.pageOut u q id) := by
  unfold State.pageOut
  with_reducible repeat' (first | assumption | intro _ | apply State.askTiers_same | apply State.put_same | apply ite_same | apply foldl_same | apply ite_same2 | apply foldl_same2 | split | refine pairSame2 (by assumption) ?_ | dsimp only | apply same_copies)
theorem State.chainWrite_same {z : Bool} {s u : State} (h : Same z s u) (q : Nat) (n : Nat) : Same z s (State.chainWrite u q n).2 := by
  unfold State.chainWrite
  with_reducible repeat' (first | assumption | intro _ | apply State.showQue_same | apply State.setQue_same | apply State.fillTail_same | apply State.askPlot_same | apply State.pageOut_same | apply State.fillPlot_same | apply ite_same | apply foldl_same | apply ite_same2 | apply foldl_same2 | split | refine pairSame2 (by assumption) ?_ | dsimp only)
theorem State.cplQueued_same {z : Bool} {s u : State} (h : Same z s u) (b : Nat) (r : Nat) (a3 : List (List Word)) : Same z s (State.cplQueued u b r a3) := by
  induction a3 generalizing u with
  | nil => unfold State.cplQueued; with_reducible repeat' (first | assumption | intro _ | apply State.chainWrite_same | apply State.setCring_same | apply ite_same | apply foldl_same | apply ite_same2 | apply foldl_same2 | split | refine pairSame2 (by assumption) ?_ | dsimp only)
  | cons _ n ih => unfold State.cplQueued; with_reducible repeat' (first | assumption | apply ih | intro _ | apply State.chainWrite_same | apply State.setCring_same | apply ite_same | apply foldl_same | apply ite_same2 | apply foldl_same2 | split | refine pairSame2 (by assumption) ?_ | dsimp only)
theorem State.cplSend_same {z : Bool} {s u : State} (h : Same z s u) (b : Nat) (r : Nat) (l : List (List Word)) : Same z s (State.cplSend u b r l) := by
  unfold State.cplSend
  with_reducible repeat' (first | assumption | intro _ | apply State.cplFlush_same | apply State.cplQueued_same | apply ite_same | apply foldl_same | split | dsimp only)
theorem State.ringReply_same {z : Bool} {s u : State} (h : Same z s u) (b : Nat) (r : Nat) (l : List Word) : Same z s (State.ringReply u b r l) := by
  unfold State.ringReply
  with_reducible repeat' (first | assumption | intro _ | apply State.replyLost_same | apply State.cringDone_same | apply State.cplSend_same | apply ite_same | apply foldl_same | split | dsimp only)
theorem State.setSend_same {z : Bool} {s u : State} (h : Same z s u) (d : Nat) (x : GazSend) : Same z s (State.setSend u d x) := by
  unfold State.setSend
  with_reducible repeat' (first | assumption | intro _ | apply ite_same | apply foldl_same | split | dsimp only | apply same_gazSends)
theorem State.treeReply_same {z : Bool} {s u : State} (h : Same z s u) (d : Nat) (l : List Word) : Same z s (State.treeReply u d l) := by
  unfold State.treeReply
  with_reducible repeat' (first | assumption | intro _ | apply State.setSend_same | apply ite_same | apply foldl_same | split | dsimp only)
theorem State.setEnv_same {z : Bool} {s u : State} (h : Same z s u) (b : Nat) (x : EnvCtr) : Same z s (State.setEnv u b x) := by
  unfold State.setEnv
  with_reducible repeat' (first | assumption | intro _ | apply ite_same | apply foldl_same | split | dsimp only | apply same_envs)
theorem State.sendTx_same {z : Bool} {s u : State} (h : Same z s u) (sheet : Nat) (l : List TxFlit) : Same z s (State.sendTx u sheet l) := by
  unfold State.sendTx
  with_reducible repeat' (first | assumption | intro _ | apply ite_same | apply foldl_same | split | dsimp only | apply same_spxTx)
theorem State.envReply_same {z : Bool} {s u : State} (h : Same z s u) (path : Path) (b : Nat) (l : List Word) : Same z s (State.envReply u path b l) := by
  unfold State.envReply
  with_reducible repeat' (first | assumption | intro _ | apply State.setEnv_same | apply State.sendTx_same | apply State.emit_same | apply ite_same | apply foldl_same | split | dsimp only)
theorem State.sendOn_same {z : Bool} {s u : State} (h : Same z s u) (path : Path) (b : Nat) (l : List Word) : Same z s (State.sendOn u path b l) := by
  unfold State.sendOn
  with_reducible repeat' (first | assumption | intro _ | apply State.ringReply_same | apply State.treeReply_same | apply State.envReply_same | apply ite_same | apply foldl_same | split | dsimp only)
theorem State.complete_same {z : Bool} {s u : State} (h : Same z s u) (op : Nat) (p : Packet) (status : Nat) (res : List Word) : Same z s (State.complete u op p status res) := by
  unfold State.complete
  with_reducible repeat' (first | assumption | intro _ | apply State.setTag_same | apply State.sendOn_same | apply State.raise_same | apply ite_same | apply foldl_same | split | dsimp only)
theorem State.finishCmd_same {z : Bool} {s u : State} (h : Same z s u) (action : Nat) (status : Nat) (res : List Word) : Same z s (State.finishCmd u action status res) := by
  unfold State.finishCmd
  with_reducible repeat' (first | assumption | intro _ | apply State.complete_same | apply ite_same | apply foldl_same | split | dsimp only | apply same_cmds)
theorem State.finishBoundary_same {z : Bool} {s u : State} (h : Same z s u) (g : Nat) (k0 : Nat) : Same z s (State.finishBoundary u g k0) := by
  unfold State.finishBoundary
  with_reducible repeat' (first | assumption | intro _ | apply State.finishCmd_same | apply ite_same | apply foldl_same | split | dsimp only)
theorem State.bareReply_same {z : Bool} {s u : State} (h : Same z s u) (op : Nat) (p : Packet) (status : Nat) : Same z s (State.bareReply u op p status) := by
  unfold State.bareReply
  with_reducible repeat' (first | assumption | intro _ | apply State.sendOn_same | apply ite_same | apply foldl_same | split | dsimp only)
theorem State.abortDiscarded_same {z : Bool} {s u : State} (h : Same z s u) : Same z s (State.abortDiscarded u) := by
  unfold State.abortDiscarded
  with_reducible repeat' (first | assumption | intro _ | apply State.finishCmd_same | apply ite_same | apply foldl_same | split | dsimp only)
theorem State.showRing_same {z : Bool} {s u : State} (h : Same z s u) : Same z s (State.showRing u) := by
  unfold State.showRing
  with_reducible repeat' (first | assumption | intro _ | apply State.setPlot_same | apply State.wn_same | apply State.put_same | apply State.raise_same | apply ite_same | apply foldl_same | split | dsimp only | apply same_ring)
theorem State.gapRecord_same {z : Bool} {s u : State} (h : Same z s u) (q : Nat) (g : Nat × Nat) : Same z s (State.gapRecord u q g) := by
  unfold State.gapRecord
  with_reducible repeat' (first | assumption | intro _ | apply State.wr64_same | apply State.put_same | apply State.bumpSat_same | apply State.raise_same | apply ite_same | apply foldl_same | split | dsimp only)
theorem State.writeUnit_same {z : Bool} {s u : State} (h : Same z s u) (q : Nat) (a2 : Nat) : Same z s (State.writeUnit u q a2) := by
  induction a2 generalizing u with
  | zero => unfold State.writeUnit; with_reducible repeat' (first | assumption | intro _ | apply State.gapRecord_same | apply State.askPlot_same | apply State.setPlot_same | apply State.setQue_same | apply State.pageOut_same | apply State.vecDue_same | apply State.showQue_same | apply ite_same | apply foldl_same | apply ite_same2 | apply foldl_same2 | split | refine pairSame2 (by assumption) ?_ | dsimp only | apply same_units)
  | succ n ih => unfold State.writeUnit; with_reducible repeat' (first | assumption | apply ih | intro _ | apply State.gapRecord_same | apply State.askPlot_same | apply State.setPlot_same | apply State.setQue_same | apply State.pageOut_same | apply State.vecDue_same | apply State.showQue_same | apply ite_same | apply foldl_same | apply ite_same2 | apply foldl_same2 | split | refine pairSame2 (by assumption) ?_ | dsimp only | apply same_units)
theorem State.freePlots_same {z : Bool} {s u : State} (h : Same z s u) (l : List Nat) : Same z s (State.freePlots u l) := by
  unfold State.freePlots
  with_reducible repeat' (first | assumption | intro _ | apply State.freePlot_same | apply ite_same | apply foldl_same | split | dsimp only)
theorem State.releaseCapture_same {z : Bool} {s u : State} (h : Same z s u) (seq : Nat) : Same z s (State.releaseCapture u seq) := by
  unfold State.releaseCapture
  with_reducible repeat' (first | assumption | intro _ | apply State.showRing_same | apply State.freePlots_same | apply ite_same | apply foldl_same | split | dsimp only | apply same_ring)
theorem State.placeholder_same {z : Bool} {s u : State} (h : Same z s u) (q : Nat) (first : Nat) (last : Nat) : Same z s (State.placeholder u q first last) := by
  unfold State.placeholder
  with_reducible repeat' (first | assumption | intro _ | apply State.setQue_same | apply State.raise_same | apply State.put_same | apply ite_same | apply foldl_same | split | dsimp only)
theorem State.recAppend_same {z : Bool} {s u : State} (h : Same z s u) (q : Nat) (recStart : Bool) (l : List Byte) (a4 : Nat) : Same z s (State.recAppend u q recStart l a4) := by
  induction a4 generalizing u recStart l with
  | zero => unfold State.recAppend; with_reducible repeat' (first | assumption | intro _ | apply State.setQue_same | apply ite_same | apply foldl_same | split | dsimp only)
  | succ n ih => unfold State.recAppend; with_reducible repeat' (first | assumption | apply ih | intro _ | apply State.setQue_same | apply ite_same | apply foldl_same | split | dsimp only)
theorem State.recShort_same {z : Bool} {s u : State} (h : Same z s u) (q : Nat) : Same z s (State.recShort u q) := by
  unfold State.recShort
  with_reducible repeat' (first | assumption | intro _ | apply State.setQue_same | apply ite_same | apply foldl_same | split | dsimp only)
theorem State.recOffer_same {z : Bool} {s u : State} (h : Same z s u) (q : Nat) (l : List Byte) : Same z s (State.recOffer u q l) := by
  unfold State.recOffer
  with_reducible repeat' (first | assumption | intro _ | apply State.recAppend_same | apply State.recShort_same | apply State.placeholder_same | apply State.setQue_same | apply ite_same | apply foldl_same | split | dsimp only)
theorem State.offerUnit_same {z : Bool} {s u : State} (h : Same z s u) (u0 : ReadyItem) : Same z s (State.offerUnit u u0) := by
  unfold State.offerUnit
  with_reducible repeat' (first | assumption | intro _ | apply State.releaseCapture_same | apply State.placeholder_same | apply State.setQue_same | apply State.showElastic_same | apply State.recOffer_same | apply ite_same | apply foldl_same | split | dsimp only | apply same_units)
theorem State.handItem_same {z : Bool} {s u : State} (h : Same z s u) : Same z s (State.handItem u) := by
  unfold State.handItem
  with_reducible repeat' (first | assumption | intro _ | apply State.offerUnit_same | apply ite_same | apply foldl_same | split | dsimp only | apply same_items)
theorem State.recRelease_same {z : Bool} {s u : State} (h : Same z s u) (q : Nat) : Same z s (State.recRelease u q) := by
  unfold State.recRelease
  with_reducible repeat' (first | assumption | intro _ | apply State.put_same | apply ite_same | apply foldl_same | split | dsimp only)
theorem State.drained_same {z : Bool} {s u : State} (h : Same z s u) (q : Nat) : Same z s (State.drained u q) := by
  unfold State.drained
  with_reducible repeat' (first | assumption | intro _ | apply State.freePlots_same | apply State.setQue_same | apply State.recRelease_same | apply State.put_same | apply State.raise_same | apply State.showElastic_same | apply State.showQue_same | apply State.wn_same | apply ite_same | apply foldl_same | split | dsimp only | apply same_quesOn)
theorem State.dropUnits_same {z : Bool} {s u : State} (h : Same z s u) (q : Nat) (a2 : Nat) : Same z s (State.dropUnits u q a2) := by
  induction a2 generalizing u with
  | zero => unfold State.dropUnits; with_reducible repeat' (first | assumption | intro _ | apply State.advance_same | apply State.setQue_same | apply State.releaseCapture_same | apply ite_same | apply foldl_same | split | dsimp only)
  | succ n ih => unfold State.dropUnits; with_reducible repeat' (first | assumption | apply ih | intro _ | apply State.advance_same | apply State.setQue_same | apply State.releaseCapture_same | apply ite_same | apply foldl_same | split | dsimp only)
theorem State.readQue_same {z : Bool} {s u : State} (h : Same z s u) (q : Nat) (n : Nat) : Same z s (State.readQue u q n) := by
  unfold State.readQue
  with_reducible repeat' (first | assumption | intro _ | apply State.drained_same | apply State.prefetch_same | apply State.dropUnits_same | apply State.setQue_same | apply ite_same | apply foldl_same | split | dsimp only)
theorem State.sendItem_same {z : Bool} {s u : State} (h : Same z s u) (q : Nat) (first : Nat) (last : Nat) (kind : Nat) (b : List Byte) : Same z s (State.sendItem u q first last kind b) := by
  unfold State.sendItem
  with_reducible repeat' (first | assumption | intro _ | apply ite_same | apply foldl_same | split | dsimp only | apply same_items)
theorem State.trgSend_same {z : Bool} {s u : State} (h : Same z s u) (b : List Byte) : Same z s (State.trgSend u b) := by
  unfold State.trgSend
  with_reducible repeat' (first | assumption | intro _ | apply State.sendItem_same | apply ite_same | apply foldl_same | split | dsimp only | apply same_trgSeq)
theorem State.writeFront_same {z : Bool} {s u : State} (h : Same z s u) (q : Nat) : Same z s (State.writeFront u q) := by
  unfold State.writeFront
  with_reducible repeat' (first | assumption | intro _ | apply State.showElastic_same | apply State.writeUnit_same | apply ite_same | apply foldl_same | split | dsimp only)
theorem State.offerTrig_same {z : Bool} {s u : State} (h : Same z s u) (src : Nat) (t : Int) (coarse : Bool) (slot : Nat) : Same z s (State.offerTrig u src t coarse slot) := by
  unfold State.offerTrig
  with_reducible repeat' (first | assumption | intro _ | apply ite_same | apply foldl_same | split | dsimp only | apply same_trigs)
theorem execTimCalStale_same {z : Bool} {s u : State} (h : Same z s u) (p : Nat) (temp : Int) : OutSame z s (execTimCalStale p temp u) := by
  unfold execTimCalStale
  with_reducible repeat' (first | assumption | intro _ | apply State.raise_same | apply State.put_same | apply ite_same | apply foldl_same | apply outSame_next | apply ite_outSame | split | dsimp only | apply same_tdc)
theorem State.coreStart_same {z : Bool} {s u : State} (h : Same z s u) (p : Nat) (ctl : Bool) : Same z s (State.coreStart u p ctl) := by
  unfold State.coreStart
  with_reducible repeat' (first | assumption | intro _ | apply State.put_same | apply ite_same | apply foldl_same | split | dsimp only | apply same_tdc)
theorem State.coreStatWrite_same {z : Bool} {s u : State} (h : Same z s u) (p : Nat) (w : Wr) : Same z s (State.coreStatWrite u p w) := by
  unfold State.coreStatWrite
  with_reducible repeat' (first | assumption | intro _ | apply State.coreStart_same | apply State.refuseDom_same | apply State.put_same | apply ite_same | apply foldl_same | split | dsimp only)
theorem execTimCoreStart_same {z : Bool} {s u : State} (h : Same z s u) (p : Nat) (w : Wr) : OutSame z s (execTimCoreStart p w u) := by
  unfold execTimCoreStart
  with_reducible repeat' (first | assumption | intro _ | apply State.pfOnly_same | apply State.coreStatWrite_same | apply ite_same | apply foldl_same | apply outSame_next | apply ite_outSame | split | dsimp only)
theorem State.latchWords_same {z : Bool} {s u : State} (h : Same z s u) (r : Nat → Reg) (t : Int) (w3 : Nat) : Same z s (State.latchWords u r t w3) := by
  unfold State.latchWords
  with_reducible repeat' (first | assumption | intro _ | apply State.wn_same | apply ite_same | apply foldl_same | split | dsimp only)
theorem State.popTag_same {z : Bool} {s u : State} (h : Same z s u) (fn : Nat) (n : Nat) : Same z s (State.popTag u fn n) := by
  unfold State.popTag
  with_reducible repeat' (first | assumption | intro _ | apply State.latchWords_same | apply State.emit_same | apply ite_same | apply foldl_same | split | dsimp only | apply same_tagQ)
theorem State.edgeTag_same {z : Bool} {s u : State} (h : Same z s u) (n : Nat) (x : EdgeTag) : Same z s (State.edgeTag u n x) := by
  unfold State.edgeTag
  with_reducible repeat' (first | assumption | intro _ | apply State.pqLose_same | apply State.popTag_same | apply State.popResume_same | apply ite_same | apply foldl_same | split | dsimp only | apply same_tagQ)
theorem State.coresStart_same {z : Bool} {s u : State} (h : Same z s u) (core : Nat) (ctl : Bool) : Same z s (State.coresStart u core ctl) := by
  unfold State.coresStart
  with_reducible repeat' (first | assumption | intro _ | apply State.coreStart_same | apply ite_same | apply foldl_same | split | dsimp only)
theorem State.calCtlWrite_same {z : Bool} {s u : State} (h : Same z s u) (w : Wr) : Same z s (State.calCtlWrite u w) := by
  unfold State.calCtlWrite
  with_reducible repeat' (first | assumption | intro _ | apply State.raise_same | apply State.mergeRaw_same | apply State.put_same | apply State.coresStart_same | apply State.refuseDom_same | apply ite_same | apply foldl_same | split | dsimp only | apply same_timCal)
theorem execTimCalStart_same {z : Bool} {s u : State} (h : Same z s u) (w : Wr) : OutSame z s (execTimCalStart w u) := by
  unfold execTimCalStart
  with_reducible repeat' (first | assumption | intro _ | apply State.pfOnly_same | apply State.calCtlWrite_same | apply ite_same | apply foldl_same | apply outSame_next | apply ite_outSame | split | dsimp only)
theorem State.calCtlDone_same {z : Bool} {s u : State} (h : Same z s u) : Same z s (State.calCtlDone u) := by
  unfold State.calCtlDone
  with_reducible repeat' (first | assumption | intro _ | apply State.put_same | apply ite_same | apply foldl_same | split | dsimp only)
theorem State.gateStart_same {z : Bool} {s u : State} (h : Same z s u) (k0 : Nat) (t : Int) (carry : Option (Int × Bool)) : Same z s (State.gateStart u k0 t carry) := by
  unfold State.gateStart
  with_reducible repeat' (first | assumption | intro _ | apply ite_same | apply foldl_same | split | dsimp only | apply same_freqs)
theorem State.gateEnd_same {z : Bool} {s u : State} (h : Same z s u) (k0 : Nat) (g : FreqGate) : Same z s (State.gateEnd u k0 g) := by
  unfold State.gateEnd
  with_reducible repeat' (first | assumption | intro _ | apply State.wr64_same | apply State.wn_same | apply State.put_same | apply State.gateStart_same | apply ite_same | apply foldl_same | split | dsimp only)
theorem execFreqGateEnd_same {z : Bool} {s u : State} (h : Same z s u) (x : GateEnd) : OutSame z s (execFreqGateEnd x u) := by
  unfold execFreqGateEnd
  with_reducible repeat' (first | assumption | intro _ | apply State.gateEnd_same | apply ite_same | apply foldl_same | apply outSame_next | apply ite_outSame | split | dsimp only)
theorem State.tdcSubstitute_same {z : Bool} {s u : State} (h : Same z s u) (n : Nat) (pol : Bool) : Same z s (State.tdcSubstitute u n pol) := by
  unfold State.tdcSubstitute
  with_reducible repeat' (first | assumption | intro _ | apply State.spareExhausted_same | apply State.coreStart_same | apply ite_same | apply foldl_same | split | dsimp only | apply same_tdcSwitches)
theorem State.freqCfgWrite_same {z : Bool} {s u : State} (h : Same z s u) (k0 : Nat) (w : Wr) : Same z s (State.freqCfgWrite u k0 w) := by
  unfold State.freqCfgWrite
  with_reducible repeat' (first | assumption | intro _ | apply State.mergeRaw_same | apply State.raise_same | apply State.put_same | apply State.gateStart_same | apply ite_same | apply foldl_same | split | dsimp only | apply same_freqs)
theorem State.gatesEnd_same {z : Bool} {s u : State} (h : Same z s u) (k0 : Nat) (t : Int) (n : Nat) : Same z s (State.gatesEnd u k0 t n) := by
  unfold State.gatesEnd
  with_reducible repeat' (first | assumption | intro _ | apply State.gateEnd_same | apply ite_same | apply foldl_same | split | dsimp only)
theorem State.gatesDue_same {z : Bool} {s u : State} (h : Same z s u) (src : Nat) (t : Int) : Same z s (State.gatesDue u src t) := by
  unfold State.gatesDue
  with_reducible repeat' (first | assumption | intro _ | apply State.gatesEnd_same | apply ite_same | apply foldl_same | split | dsimp only)
theorem State.freqEdge_same {z : Bool} {s u : State} (h : Same z s u) (src : Nat) (t : Int) (coarse : Bool) : Same z s (State.freqEdge u src t coarse) := by
  unfold State.freqEdge
  with_reducible repeat' (first | assumption | intro _ | apply State.gatesDue_same | apply ite_same | apply foldl_same | split | dsimp only | apply same_freqs)
theorem execEdgeCapture_same {z : Bool} {s u : State} (h : Same z s u) (n : Nat) (i : Nat) (rising : Bool) : OutSame z s (execEdgeCapture n i rising u) := by
  unfold execEdgeCapture
  with_reducible repeat' (first | assumption | intro _ | apply State.bump_same | apply State.raise_same | apply State.offerTrig_same | apply State.freqEdge_same | apply State.edgeTag_same | apply ite_same | apply foldl_same | apply outSame_next | apply ite_outSame | split | dsimp only | apply same_edges)
theorem execCgLost_same {z : Bool} {s u : State} (h : Same z s u) (g : Nat) : OutSame z s (execCgLost g u) := by
  unfold execCgLost
  with_reducible repeat' (first | assumption | intro _ | apply State.raise_same | apply ite_same | apply foldl_same | apply outSame_next | apply ite_outSame | split | dsimp only | apply same_cgLost)
theorem execTimCalRunEnd_same {z : Bool} {s u : State} (h : Same z s u) (p : Nat) (counts : List Nat) (temp : Int) : OutSame z s (execTimCalRunEnd p counts temp u) := by
  unfold execTimCalRunEnd
  with_reducible repeat' (first | assumption | intro _ | apply State.put_same | apply State.calCtlDone_same | apply State.raise_same | apply State.tdcSubstitute_same | apply State.spareExhausted_same | apply ite_same | apply foldl_same | apply outSame_next | apply ite_outSame | split | dsimp only | apply same_tdc | apply same_tdcSwitches)
theorem execTimCalPeriodic_same {z : Bool} {s u : State} (h : Same z s u) : OutSame z s (execTimCalPeriodic u) := by
  unfold execTimCalPeriodic
  with_reducible repeat' (first | assumption | intro _ | apply State.coresStart_same | apply ite_same | apply foldl_same | apply outSame_next | apply ite_outSame | split | dsimp only | apply same_timCal)
theorem State.cgBack_same {z : Bool} {s u : State} (h : Same z s u) (g : Nat) : Same z s (State.cgBack u g) := by
  unfold State.cgBack
  with_reducible repeat' (first | assumption | intro _ | apply State.raise_same | apply ite_same | apply foldl_same | split | dsimp only | apply same_cgLost)
theorem execTdcSpareSwitch_same {z : Bool} {s u : State} (h : Same z s u) (n : Nat) : OutSame z s (execTdcSpareSwitch n u) := by
  unfold execTdcSpareSwitch
  with_reducible repeat' (first | assumption | intro _ | apply State.put_same | apply State.useSpare_same | apply State.policyLog_same | apply ite_same | apply foldl_same | apply outSame_next | apply ite_outSame | split | dsimp only | apply same_tdcSwitches)
theorem State.readReserved_same {z : Bool} {s u : State} (h : Same z s u) (fn : Nat) (off : Nat) : Same z s (State.readReserved u fn off) := by
  unfold State.readReserved
  with_reducible repeat' (first | assumption | intro _ | apply State.emit_same | apply State.reservedHit_same | apply ite_same | apply foldl_same | split | dsimp only)
theorem execTimTagPop_same {z : Bool} {s u : State} (h : Same z s u) (fn : Nat) (n : Nat) : OutSame z s (execTimTagPop fn n u) := by
  unfold execTimTagPop
  with_reducible repeat' (first | assumption | intro _ | apply State.flushHeld_same | apply State.popStall_same | apply State.popTag_same | apply State.readReserved_same | apply ite_same | apply foldl_same | apply outSame_next | apply ite_outSame | split | dsimp only)
theorem State.setSub_same {z : Bool} {s u : State} (h : Same z s u) (r : Reg) (hi : Nat) (lo : Nat) (v : Nat) : Same z s (State.setSub u r hi lo v) := by
  unfold State.setSub
  with_reducible repeat' (first | assumption | intro _ | apply State.put_same | apply ite_same | apply foldl_same | split | dsimp only)
theorem State.setSpareBit_same {z : Bool} {s u : State} (h : Same z s u) (i : Nat) (b : Bool) : Same z s (State.setSpareBit u i b) := by
  unfold State.setSpareBit
  with_reducible repeat' (first | assumption | intro _ | apply State.setSub_same | apply ite_same | apply foldl_same | split | dsimp only)
theorem State.retireSlice_same {z : Bool} {s u : State} (h : Same z s u) (i : Nat) (sl : Nat) (by_ : Nat) (pol : Bool) : Same z s (State.retireSlice u i sl by_ pol) := by
  unfold State.retireSlice
  with_reducible repeat' (first | assumption | intro _ | apply State.setSpareBit_same | apply State.setSub_same | apply State.useSpare_same | apply State.raise_same | apply ite_same | apply foldl_same | split | dsimp only)
theorem State.setGrp_same {z : Bool} {s u : State} (h : Same z s u) (g : Nat) (x : Group) : Same z s (State.setGrp u g x) := by
  unfold State.setGrp
  with_reducible repeat' (first | assumption | intro _ | apply ite_same | apply foldl_same | split | dsimp only | apply same_grps)
theorem State.samplesStop_same {z : Bool} {s u : State} (h : Same z s u) (g : Nat) : Same z s (State.samplesStop u g) := by
  unfold State.samplesStop
  with_reducible repeat' (first | assumption | intro _ | apply State.setGrp_same | apply ite_same | apply foldl_same | split | dsimp only)
theorem execPllUnlock_same {z : Bool} {s u : State} (h : Same z s u) (g : Nat) : OutSame z s (execPllUnlock g u) := by
  unfold execPllUnlock
  with_reducible repeat' (first | assumption | intro _ | apply State.put_same | apply State.raise_same | apply State.samplesStop_same | apply ite_same | apply foldl_same | apply outSame_next | apply ite_outSame | split | dsimp only)
theorem State.setInp_same {z : Bool} {s u : State} (h : Same z s u) (i : Nat) (x : Inp) : Same z s (State.setInp u i x) := by
  unfold State.setInp
  with_reducible repeat' (first | assumption | intro _ | apply ite_same | apply foldl_same | split | dsimp only | apply same_inps)
theorem State.unsettleGroup_same {z : Bool} {s u : State} (h : Same z s u) (g : Nat) : Same z s (State.unsettleGroup u g) := by
  unfold State.unsettleGroup
  with_reducible repeat' (first | assumption | intro _ | apply State.setSub_same | apply State.setInp_same | apply ite_same | apply foldl_same | split | dsimp only)
theorem State.setSlot_same {z : Bool} {s u : State} (h : Same z s u) (n : Nat) (x : Slot) : Same z s (State.setSlot u n x) := by
  unfold State.setSlot
  with_reducible repeat' (first | assumption | intro _ | apply ite_same | apply foldl_same | split | dsimp only | apply same_slots)
theorem State.unfix_same {z : Bool} {s u : State} (h : Same z s u) (g : Nat) : Same z s (State.unfix u g) := by
  unfold State.unfix
  with_reducible repeat' (first | assumption | intro _ | apply State.put_same | apply State.setSlot_same | apply ite_same | apply foldl_same | split | dsimp only)
theorem State.slotsBegin_same {z : Bool} {s u : State} (h : Same z s u) (g : Nat) (tr : Nat) : Same z s (State.slotsBegin u g tr) := by
  unfold State.slotsBegin
  with_reducible repeat' (first | assumption | intro _ | apply State.put_same | apply State.setSlot_same | apply ite_same | apply foldl_same | split | dsimp only)
theorem State.samplesStart_same {z : Bool} {s u : State} (h : Same z s u) (g : Nat) : Same z s (State.samplesStart u g) := by
  unfold State.samplesStart
  with_reducible repeat' (first | assumption | intro _ | apply State.setGrp_same | apply State.put_same | apply State.unfix_same | apply State.wr64_same | apply State.slotsBegin_same | apply ite_same | apply foldl_same | split | dsimp only)
theorem State.surveyRun_same {z : Bool} {s u : State} (h : Same z s u) (i : Nat) : Same z s (State.surveyRun u i) := by
  unfold State.surveyRun
  with_reducible repeat' (first | assumption | intro _ | apply State.setSub_same | apply ite_same | apply foldl_same | split | dsimp only)
theorem State.loadTrims_same {z : Bool} {s u : State} (h : Same z s u) (i : Nat) : Same z s (State.loadTrims u i) := by
  unfold State.loadTrims
  with_reducible repeat' (first | assumption | intro _ | apply State.setSub_same | apply ite_same | apply foldl_same | split | dsimp only)
theorem State.stepStart_same {z : Bool} {s u : State} (h : Same z s u) (g : Nat) : Same z s (State.stepStart u g) := by
  unfold State.stepStart
  with_reducible repeat' (first | assumption | intro _ | apply State.setGrp_same | apply ite_same | apply foldl_same | split | dsimp only)
theorem State.samplesBack_same {z : Bool} {s u : State} (h : Same z s u) (g : Nat) : Same z s (State.samplesBack u g) := by
  unfold State.samplesBack
  with_reducible repeat' (first | assumption | intro _ | apply State.unsettleGroup_same | apply State.samplesStart_same | apply State.surveyRun_same | apply State.setInp_same | apply State.loadTrims_same | apply State.stepStart_same | apply ite_same | apply foldl_same | split | dsimp only)
theorem State.offlineFail_same {z : Bool} {s u : State} (h : Same z s u) (i : Nat) (sl : Nat) (act : Bool) (pol : Bool) : Same z s (State.offlineFail u i sl act pol) := by
  unfold State.offlineFail
  with_reducible repeat' (first | assumption | intro _ | apply State.retireSlice_same | apply State.raise_same | apply State.setSpareBit_same | apply State.setSub_same | apply ite_same | apply foldl_same | split | dsimp only)
theorem State.groupStop_same {z : Bool} {s u : State} (h : Same z s u) (g : Nat) : Same z s (State.groupStop u g) := by
  unfold State.groupStop
  with_reducible repeat' (first | assumption | intro _ | apply State.setSub_same | apply State.samplesStop_same | apply State.put_same | apply State.unfix_same | apply State.wr64_same | apply State.slotsBegin_same | apply ite_same | apply foldl_same | split | dsimp only)
theorem State.writeTrims_same {z : Bool} {s u : State} (h : Same z s u) (i : Nat) (sl : Nat) (r : StepRes) : Same z s (State.writeTrims u i sl r) := by
  unfold State.writeTrims
  with_reducible repeat' (first | assumption | intro _ | apply State.setSub_same | apply ite_same | apply foldl_same | split | dsimp only)
theorem State.refWrite_same {z : Bool} {s u : State} (h : Same z s u) (g : Nat) (on : Bool) : Same z s (State.refWrite u g on) := by
  unfold State.refWrite
  with_reducible repeat' (first | assumption | intro _ | apply State.setGrp_same | apply State.put_same | apply ite_same | apply foldl_same | split | dsimp only)
theorem State.surveyWrite_same {z : Bool} {s u : State} (h : Same z s u) (g : Nat) (on : Bool) : Same z s (State.surveyWrite u g on) := by
  unfold State.surveyWrite
  with_reducible repeat' (first | assumption | intro _ | apply State.setGrp_same | apply State.surveyRun_same | apply State.stepStart_same | apply ite_same | apply foldl_same | split | dsimp only)
theorem State.placeSlices_same {z : Bool} {s u : State} (h : Same z s u) (i : Nat) : Same z s (State.placeSlices u i) := by
  unfold State.placeSlices
  with_reducible repeat' (first | assumption | intro _ | apply State.setSub_same | apply State.setInp_same | apply State.setSpareBit_same | apply ite_same | apply foldl_same | split | dsimp only)
theorem State.groupStart_same {z : Bool} {s u : State} (h : Same z s u) (g : Nat) : Same z s (State.groupStart u g) := by
  unfold State.groupStart
  with_reducible repeat' (first | assumption | intro _ | apply State.placeSlices_same | apply State.loadTrims_same | apply State.setSub_same | apply State.put_same | apply State.unsettleGroup_same | apply ite_same | apply foldl_same | split | dsimp only)
theorem State.applyMode_same {z : Bool} {s u : State} (h : Same z s u) (g : Nat) : Same z s (State.applyMode u g) := by
  unfold State.applyMode
  with_reducible repeat' (first | assumption | intro _ | apply State.fwr_same | apply State.groupStart_same | apply State.groupStop_same | apply State.put_same | apply State.samplesStop_same | apply State.unfix_same | apply State.setGrp_same | apply ite_same | apply foldl_same | split | dsimp only)
theorem State.grpApply_same {z : Bool} {s u : State} (h : Same z s u) (g : Nat) : Same z s (State.grpApply u g) := by
  unfold State.grpApply
  with_reducible repeat' (first | assumption | intro _ | apply State.applyMode_same | apply State.refuseDom_same | apply State.put_same | apply ite_same | apply foldl_same | split | dsimp only)
theorem State.grpCtlWrite_same {z : Bool} {s u : State} (h : Same z s u) (g : Nat) (w : Wr) : Same z s (State.grpCtlWrite u g w) := by
  unfold State.grpCtlWrite
  with_reducible repeat' (first | assumption | intro _ | apply State.mergeRaw_same | apply State.raise_same | apply State.setSub_same | apply State.refWrite_same | apply State.surveyWrite_same | apply State.grpApply_same | apply ite_same | apply foldl_same | split | dsimp only)
theorem execRefEnWrite_same {z : Bool} {s u : State} (h : Same z s u) (g : Nat) (w : Wr) : OutSame z s (execRefEnWrite g w u) := by
  unfold execRefEnWrite
  with_reducible repeat' (first | assumption | intro _ | apply State.pfOnly_same | apply State.grpCtlWrite_same | apply ite_same | apply foldl_same | apply outSame_next | apply ite_outSame | split | dsimp only)
theorem execDieLinkUp_same {z : Bool} {s u : State} (h : Same z s u) (d : Nat) : OutSame z s (execDieLinkUp d u) := by
  unfold execDieLinkUp
  with_reducible repeat' (first | assumption | intro _ | apply State.put_same | apply State.samplesBack_same | apply ite_same | apply foldl_same | apply outSame_next | apply ite_outSame | split | dsimp only)
theorem State.sliceFail_same {z : Bool} {s u : State} (h : Same z s u) (i : Nat) (sl : Nat) : Same z s (State.sliceFail u i sl) := by
  unfold State.sliceFail
  with_reducible repeat' (first | assumption | intro _ | apply State.raise_same | apply State.setSub_same | apply ite_same | apply foldl_same | split | dsimp only)
theorem execCnvPllLocked_same {z : Bool} {s u : State} (h : Same z s u) (g : Nat) : OutSame z s (execCnvPllLocked g u) := by
  unfold execCnvPllLocked
  with_reducible repeat' (first | assumption | intro _ | apply State.samplesBack_same | apply State.put_same | apply ite_same | apply foldl_same | apply outSame_next | apply ite_outSame | split | dsimp only)
theorem execSurveyEnWrite_same {z : Bool} {s u : State} (h : Same z s u) (g : Nat) (w : Wr) : OutSame z s (execSurveyEnWrite g w u) := by
  unfold execSurveyEnWrite
  with_reducible repeat' (first | assumption | intro _ | apply State.pfOnly_same | apply State.grpCtlWrite_same | apply ite_same | apply foldl_same | apply outSame_next | apply ite_outSame | split | dsimp only)
theorem State.stepDone_same {z : Bool} {s u : State} (h : Same z s u) (i : Nat) (r : StepRes) : Same z s (State.stepDone u i r) := by
  unfold State.stepDone
  with_reducible repeat' (first | assumption | intro _ | apply State.setSub_same | apply State.setInp_same | apply State.setSpareBit_same | apply State.raise_same | apply ite_same | apply foldl_same | split | dsimp only)
theorem State.answerSteps_same {z : Bool} {s u : State} (h : Same z s u) (g : Nat) (res : List StepRes) (ran : Nat → Bool) : Same z s (State.answerSteps u g res ran) := by
  unfold State.answerSteps
  with_reducible repeat' (first | assumption | intro _ | apply State.finishCmd_same | apply ite_same | apply foldl_same | split | dsimp only)
theorem State.inputDead_same {z : Bool} {s u : State} (h : Same z s u) (i : Nat) (sl : Nat) (pol : Bool) : Same z s (State.inputDead u i sl pol) := by
  unfold State.inputDead
  with_reducible repeat' (first | assumption | intro _ | apply State.setSub_same | apply State.spareExhausted_same | apply State.raise_same | apply ite_same | apply foldl_same | split | dsimp only)
theorem State.inServiceFail_same {z : Bool} {s u : State} (h : Same z s u) (i : Nat) (sl : Nat) (act : Bool) (pol : Bool) : Same z s (State.inServiceFail u i sl act pol) := by
  unfold State.inServiceFail
  with_reducible repeat' (first | assumption | intro _ | apply State.retireSlice_same | apply State.setSub_same | apply State.setInp_same | apply State.inputDead_same | apply State.spareExhausted_same | apply ite_same | apply foldl_same | split | dsimp only)
theorem execSliceMonitorWindow_same {z : Bool} {s u : State} (h : Same z s u) (i : Nat) (sl : Nat) (mean : Int) (power : Int) (loud : Bool) (stuck : Bool) : OutSame z s (execSliceMonitorWindow i sl mean power loud stuck u) := by
  unfold execSliceMonitorWindow
  with_reducible repeat' (first | assumption | intro _ | apply State.inServiceFail_same | apply State.sliceFail_same | apply ite_same | apply foldl_same | apply outSame_next | apply ite_outSame | split | dsimp only)
theorem execCnvApply_same {z : Bool} {s u : State} (h : Same z s u) (g : Nat) (w : Wr) : OutSame z s (execCnvApply g w u) := by
  unfold execCnvApply
  with_reducible repeat' (first | assumption | intro _ | apply State.pfOnly_same | apply State.grpCtlWrite_same | apply ite_same | apply foldl_same | apply outSame_next | apply ite_outSame | split | dsimp only)
theorem State.judgeStep_same {z : Bool} {s u : State} (h : Same z s u) (i : Nat) (r : StepRes) : Same z s (State.judgeStep u i r) := by
  unfold State.judgeStep
  with_reducible repeat' (first | assumption | intro _ | apply State.stepDone_same | apply State.offlineFail_same | apply State.sliceFail_same | apply State.setInp_same | apply State.writeTrims_same | apply ite_same | apply foldl_same | split | dsimp only)
theorem State.stageInput_same {z : Bool} {s u : State} (h : Same z s u) (i : Nat) (action : Nat) (at_ : Option Int) (vals : List SVal) (now : State → State) (k : ∀ v, Same z s v → Same z s (now v)) : Same z s (State.stageInput u i action at_ vals now) := by
  unfold State.stageInput
  with_reducible repeat' (first | assumption | intro _ | apply k | apply State.stage_same | apply ite_same | apply foldl_same | split | dsimp only)
theorem State.inputEnable_same {z : Bool} {s u : State} (h : Same z s u) (i : Nat) (en : Bool) (at_ : Int) : Same z s (State.inputEnable u i en at_) := by
  unfold State.inputEnable
  with_reducible repeat' (first | assumption | intro _ | apply State.placeSlices_same | apply State.loadTrims_same | apply State.setSub_same | apply State.surveyRun_same | apply State.raise_same | apply State.setInp_same | apply State.stepStart_same | apply ite_same | apply foldl_same | split | dsimp only)
theorem State.inCtlWrite_same {z : Bool} {s u : State} (h : Same z s u) (i : Nat) (w : Wr) : Same z s (State.inCtlWrite u i w) := by
  unfold State.inCtlWrite
  with_reducible repeat' (first | assumption | intro _ | apply State.mergeRaw_same | apply State.stageInput_same | apply State.inputEnable_same | apply State.fwr_same | apply ite_same | apply foldl_same | split | dsimp only)
theorem execDieLinkDown_same {z : Bool} {s u : State} (h : Same z s u) (d : Nat) : OutSame z s (execDieLinkDown d u) := by
  unfold execDieLinkDown
  with_reducible repeat' (first | assumption | intro _ | apply State.raise_same | apply State.put_same | apply State.samplesStop_same | apply ite_same | apply foldl_same | apply outSame_next | apply ite_outSame | split | dsimp only)
theorem execCnvRefOk_same {z : Bool} {s u : State} (h : Same z s u) (g : Nat) : OutSame z s (execCnvRefOk g u) := by
  unfold execCnvRefOk
  with_reducible repeat' (first | assumption | intro _ | apply State.put_same | apply ite_same | apply foldl_same | apply outSame_next | apply ite_outSame | split | dsimp only)
theorem State.groupAsleep_same {z : Bool} {s u : State} (h : Same z s u) (g : Nat) : Same z s (State.groupAsleep u g) := by
  unfold State.groupAsleep
  with_reducible repeat' (first | assumption | intro _ | apply State.groupStop_same | apply State.setGrp_same | apply State.fwr_same | apply State.wn_same | apply ite_same | apply foldl_same | split | dsimp only)
theorem execPllRelock_same {z : Bool} {s u : State} (h : Same z s u) (g : Nat) : OutSame z s (execPllRelock g u) := by
  unfold execPllRelock
  with_reducible repeat' (first | assumption | intro _ | apply State.samplesBack_same | apply State.put_same | apply ite_same | apply foldl_same | apply outSame_next | apply ite_outSame | split | dsimp only)
theorem execSurveyStepEnd_same {z : Bool} {s u : State} (h : Same z s u) (g : Nat) (res : List StepRes) : OutSame z s (execSurveyStepEnd g res u) := by
  unfold execSurveyStepEnd
  with_reducible repeat' (first | assumption | intro _ | apply State.judgeStep_same | apply State.answerSteps_same | apply State.setSub_same | apply State.stepStart_same | apply ite_same | apply foldl_same | apply outSame_next | apply ite_outSame | split | dsimp only)
theorem execCnvInEnWrite_same {z : Bool} {s u : State} (h : Same z s u) (i : Nat) (w : Wr) : OutSame z s (execCnvInEnWrite i w u) := by
  unfold execCnvInEnWrite
  with_reducible repeat' (first | assumption | intro _ | apply State.pfOnly_same | apply State.inCtlWrite_same | apply ite_same | apply foldl_same | apply outSame_next | apply ite_outSame | split | dsimp only)
theorem State.groupWake_same {z : Bool} {s u : State} (h : Same z s u) (g : Nat) : Same z s (State.groupWake u g) := by
  unfold State.groupWake
  with_reducible repeat' (first | assumption | intro _ | apply State.loadTrims_same | apply State.put_same | apply ite_same | apply foldl_same | split | dsimp only)
theorem State.setStep_same {z : Bool} {s u : State} (h : Same z s u) (n : Nat) (d : Nat) : Same z s (State.setStep u n d) := by
  unfold State.setStep
  with_reducible repeat' (first | assumption | intro _ | apply State.wn_same | apply ite_same | apply foldl_same | split | dsimp only)
theorem State.rangeLeft_same {z : Bool} {s u : State} (h : Same z s u) (n : Nat) : Same z s (State.rangeLeft u n) := by
  unfold State.rangeLeft
  with_reducible repeat' (first | assumption | intro _ | apply State.raise_same | apply State.put_same | apply State.setSlot_same | apply ite_same | apply foldl_same | split | dsimp only)
theorem State.slotFollow_same {z : Bool} {s u : State} (h : Same z s u) (g : Nat) (n : Nat) : Same z s (State.slotFollow u g n) := by
  unfold State.slotFollow
  with_reducible repeat' (first | assumption | intro _ | apply State.put_same | apply State.setStep_same | apply State.rangeLeft_same | apply State.setSlot_same | apply ite_same | apply foldl_same | split | dsimp only)
theorem State.slotsFollow_same {z : Bool} {s u : State} (h : Same z s u) (g : Nat) : Same z s (State.slotsFollow u g) := by
  unfold State.slotsFollow
  with_reducible repeat' (first | assumption | intro _ | apply State.slotFollow_same | apply ite_same | apply foldl_same | split | dsimp only)
theorem State.putTrack_same {z : Bool} {s u : State} (h : Same z s u) (g : Nat) (e : Estimator) (tr : Nat) : Same z s (State.putTrack u g e tr) := by
  unfold State.putTrack
  with_reducible repeat' (first | assumption | intro _ | apply State.setSub_same | apply State.setGrp_same | apply State.wr64_same | apply State.raise_same | apply State.slotsFollow_same | apply ite_same | apply foldl_same | split | dsimp only)
theorem State.setTrack_same {z : Bool} {s u : State} (h : Same z s u) (g : Nat) (e : Estimator) (tr : Nat) : Same z s (State.setTrack u g e tr) := by
  unfold State.setTrack
  with_reducible repeat' (first | assumption | intro _ | apply State.putTrack_same | apply ite_same | apply foldl_same | split | dsimp only)
theorem State.loopUpdate_same {z : Bool} {s u : State} (h : Same z s u) (e : Estimator) (n : Nat) : Same z s (State.loopUpdate u e n).2 := by
  unfold State.loopUpdate
  with_reducible repeat' (first | assumption | intro _ | apply State.drawInt_same | apply ite_same | apply foldl_same | apply ite_same2 | apply foldl_same2 | split | refine pairSame2 (by assumption) ?_ | dsimp only)
theorem State.goodTag_same {z : Bool} {s u : State} (h : Same z s u) (g : Nat) (t : Int) : Same z s (State.goodTag u g t) := by
  unfold State.goodTag
  with_reducible repeat' (first | assumption | intro _ | apply State.setTrack_same | apply State.loopUpdate_same | apply ite_same | apply foldl_same | apply ite_same2 | apply foldl_same2 | split | refine pairSame2 (by assumption) ?_ | dsimp only)
theorem State.badTag_same {z : Bool} {s u : State} (h : Same z s u) (g : Nat) : Same z s (State.badTag u g) := by
  unfold State.badTag
  with_reducible repeat' (first | assumption | intro _ | apply State.setTrack_same | apply ite_same | apply foldl_same | split | dsimp only)
theorem State.trkForce_same {z : Bool} {s u : State} (h : Same z s u) (g : Nat) : Same z s (State.trkForce u g) := by
  unfold State.trkForce
  with_reducible repeat' (first | assumption | intro _ | apply State.setGrp_same | apply ite_same | apply foldl_same | split | dsimp only)
theorem State.lockBreak_same {z : Bool} {s u : State} (h : Same z s u) (g : Nat) : Same z s (State.lockBreak u g) := by
  unfold State.lockBreak
  with_reducible repeat' (first | assumption | intro _ | apply State.setGrp_same | apply ite_same | apply foldl_same | split | dsimp only)
theorem State.lockTag_same {z : Bool} {s u : State} (h : Same z s u) (g : Nat) (t : Int) : Same z s (State.lockTag u g t) := by
  unfold State.lockTag
  with_reducible repeat' (first | assumption | intro _ | apply State.draw_same | apply State.setGrp_same | apply ite_same | apply foldl_same | apply ite_same2 | apply foldl_same2 | split | refine pairSame2 (by assumption) ?_ | dsimp only)
theorem execCgTag_same {z : Bool} {s u : State} (h : Same z s u) (g : Nat) (i : Nat) : OutSame z s (execCgTag g i u) := by
  unfold execCgTag
  with_reducible repeat' (first | assumption | intro _ | apply State.freqEdge_same | apply State.cgBack_same | apply State.badTag_same | apply State.goodTag_same | apply State.trkForce_same | apply State.lockBreak_same | apply State.lockTag_same | apply ite_same | apply foldl_same | apply outSame_next | apply ite_outSame | split | dsimp only)
theorem execCoastTimeout_same {z : Bool} {s u : State} (h : Same z s u) (g : Nat) : OutSame z s (execCoastTimeout g u) := by
  unfold execCoastTimeout
  with_reducible repeat' (first | assumption | intro _ | apply State.setTrack_same | apply ite_same | apply foldl_same | apply outSame_next | apply ite_outSame | split | dsimp only)
theorem State.followGroup_same {z : Bool} {s u : State} (h : Same z s u) (g : Nat) : Same z s (State.followGroup u g) := by
  unfold State.followGroup
  with_reducible repeat' (first | assumption | intro _ | apply State.slotsFollow_same | apply State.putTrack_same | apply ite_same | apply foldl_same | split | dsimp only)
theorem execLockLost_same {z : Bool} {s u : State} (h : Same z s u) (g : Nat) : OutSame z s (execLockLost g u) := by
  unfold execLockLost
  with_reducible repeat' (first | assumption | intro _ | apply State.raise_same | apply State.put_same | apply State.unfix_same | apply State.followGroup_same | apply ite_same | apply foldl_same | apply outSame_next | apply ite_outSame | split | dsimp only)
theorem execCgTagMissing_same {z : Bool} {s u : State} (h : Same z s u) (g : Nat) : OutSame z s (execCgTagMissing g u) := by
  unfold execCgTagMissing
  with_reducible repeat' (first | assumption | intro _ | apply State.badTag_same | apply State.lockBreak_same | apply ite_same | apply foldl_same | apply outSame_next | apply ite_outSame | split | dsimp only)
theorem execCnvLocked_same {z : Bool} {s u : State} (h : Same z s u) (g : Nat) : OutSame z s (execCnvLocked g u) := by
  unfold execCnvLocked
  with_reducible repeat' (first | assumption | intro _ | apply State.raise_same | apply State.put_same | apply State.setGrp_same | apply ite_same | apply foldl_same | apply outSame_next | apply ite_outSame | split | dsimp only)
theorem State.slotCode_same {z : Bool} {s u : State} (h : Same z s u) (n : Nat) (c : Nat) : Same z s (State.slotCode u n c) := by
  unfold State.slotCode
  with_reducible repeat' (first | assumption | intro _ | apply State.put_same | apply ite_same | apply foldl_same | split | dsimp only)
theorem State.stageCommit_same {z : Bool} {s u : State} (h : Same z s u) (n : Nat) (k0 : Nat) (action : Nat) : Same z s (State.stageCommit u n k0 action) := by
  unfold State.stageCommit
  with_reducible repeat' (first | assumption | intro _ | apply State.stage_same | apply State.put_same | apply ite_same | apply foldl_same | split | dsimp only)
theorem State.slotCommit_same {z : Bool} {s u : State} (h : Same z s u) (n : Nat) (action : Nat) : Same z s (State.slotCommit u n action) := by
  unfold State.slotCommit
  with_reducible repeat' (first | assumption | intro _ | apply State.slotCode_same | apply State.stageCommit_same | apply ite_same | apply foldl_same | split | dsimp only)
theorem State.stageUnbind_same {z : Bool} {s u : State} (h : Same z s u) (n : Nat) (k0 : Nat) (action : Nat) : Same z s (State.stageUnbind u n k0 action) := by
  unfold State.stageUnbind
  with_reducible repeat' (first | assumption | intro _ | apply State.stage_same | apply State.put_same | apply State.setSlot_same | apply ite_same | apply foldl_same | split | dsimp only | apply same_staged)
theorem State.nodeFollow_same {z : Bool} {s u : State} (h : Same z s u) (n : Nat) : Same z s (State.nodeFollow u n) := by
  unfold State.nodeFollow
  with_reducible repeat' (first | assumption | intro _ | apply State.setStep_same | apply State.rangeLeft_same | apply State.put_same | apply State.setSlot_same | apply ite_same | apply foldl_same | split | dsimp only)
theorem State.followSource_same {z : Bool} {s u : State} (h : Same z s u) (n : Nat) : Same z s (State.followSource u n) := by
  unfold State.followSource
  with_reducible repeat' (first | assumption | intro _ | apply State.setStep_same | apply State.slotFollow_same | apply State.nodeFollow_same | apply ite_same | apply foldl_same | split | dsimp only)
theorem State.showChain_same {z : Bool} {s u : State} (h : Same z s u) (n : Nat) : Same z s (State.showChain u n) := by
  unfold State.showChain
  with_reducible repeat' (first | assumption | intro _ | apply State.put_same | apply State.wn_same | apply ite_same | apply foldl_same | split | dsimp only)
theorem State.restartSlot_same {z : Bool} {s u : State} (h : Same z s u) (n : Nat) (k0 : Nat) : Same z s (State.restartSlot u n k0) := by
  unfold State.restartSlot
  with_reducible repeat' (first | assumption | intro _ | apply State.wn_same | apply State.setSlot_same | apply State.followSource_same | apply State.showChain_same | apply ite_same | apply foldl_same | split | dsimp only)
theorem State.idleSlot_same {z : Bool} {s u : State} (h : Same z s u) (n : Nat) : Same z s (State.idleSlot u n) := by
  unfold State.idleSlot
  with_reducible repeat' (first | assumption | intro _ | apply State.setSlot_same | apply State.unstage_same | apply State.put_same | apply ite_same | apply foldl_same | split | dsimp only)
theorem State.slotUnbindAt_same {z : Bool} {s u : State} (h : Same z s u) (n : Nat) (k0 : Nat) (action : Nat) : Same z s (State.slotUnbindAt u n k0 action) := by
  unfold State.slotUnbindAt
  with_reducible repeat' (first | assumption | intro _ | apply State.slotCode_same | apply State.abortDiscarded_same | apply State.idleSlot_same | apply State.stageUnbind_same | apply ite_same | apply foldl_same | split | dsimp only)
theorem State.slotUnbind_same {z : Bool} {s u : State} (h : Same z s u) (n : Nat) (action : Nat) : Same z s (State.slotUnbind u n action) := by
  unfold State.slotUnbind
  with_reducible repeat' (first | assumption | intro _ | apply State.slotUnbindAt_same | apply ite_same | apply foldl_same | split | dsimp only)
theorem State.stageBind_same {z : Bool} {s u : State} (h : Same z s u) (n : Nat) (g : Nat) (k0 : Nat) (action : Nat) : Same z s (State.stageBind u n g k0 action) := by
  unfold State.stageBind
  with_reducible repeat' (first | assumption | intro _ | apply State.setSlot_same | apply State.put_same | apply State.stage_same | apply ite_same | apply foldl_same | split | dsimp only)
theorem State.showDirty_same {z : Bool} {s u : State} (h : Same z s u) (n : Nat) : Same z s (State.showDirty u n) := by
  unfold State.showDirty
  with_reducible repeat' (first | assumption | intro _ | apply State.put_same | apply ite_same | apply foldl_same | split | dsimp only)
theorem State.bindSlot_same {z : Bool} {s u : State} (h : Same z s u) (n : Nat) (vals : List SVal) (k0 : Nat) : Same z s (State.bindSlot u n vals k0) := by
  unfold State.bindSlot
  with_reducible repeat' (first | assumption | intro _ | apply State.forceVals_same | apply State.put_same | apply State.setSlot_same | apply State.wr64_same | apply State.restartSlot_same | apply ite_same | apply foldl_same | split | dsimp only)
theorem State.slotBind_same {z : Bool} {s u : State} (h : Same z s u) (n : Nat) (action : Nat) : Same z s (State.slotBind u n action) := by
  unfold State.slotBind
  with_reducible repeat' (first | assumption | intro _ | apply State.slotCode_same | apply State.stageBind_same | apply ite_same | apply foldl_same | split | dsimp only)
theorem State.chpCtlWrite_same {z : Bool} {s u : State} (h : Same z s u) (n : Nat) (w : Wr) : Same z s (State.chpCtlWrite u n w) := by
  unfold State.chpCtlWrite
  with_reducible repeat' (first | assumption | intro _ | apply State.showDirty_same | apply State.mergeRaw_same | apply State.refuseDom_same | apply State.slotBind_same | apply State.slotCommit_same | apply State.slotUnbind_same | apply ite_same | apply foldl_same | split | dsimp only)
theorem State.chpSrcWrite_same {z : Bool} {s u : State} (h : Same z s u) (n : Nat) (w : Wr) : Same z s (State.chpSrcWrite u n w) := by
  unfold State.chpSrcWrite
  with_reducible repeat' (first | assumption | intro _ | apply State.mergeRaw_same | apply State.slotCode_same | apply State.wearCheck_same | apply ite_same | apply foldl_same | split | dsimp only)
theorem State.slotWrite_same {z : Bool} {s u : State} (h : Same z s u) (n : Nat) (off : Nat) (w : Wr) : Same z s (State.slotWrite u n off w) := by
  unfold State.slotWrite
  with_reducible repeat' (first | assumption | intro _ | apply State.chpCtlWrite_same | apply State.chpSrcWrite_same | apply State.mergeRaw_same | apply State.showDirty_same | apply ite_same | apply foldl_same | split | dsimp only)
theorem State.winWrite_same {z : Bool} {s u : State} (h : Same z s u) (win : Nat) (off : Nat) (w : Wr) : Same z s (State.winWrite u win off w) := by
  unfold State.winWrite
  with_reducible repeat' (first | assumption | intro _ | apply State.slotWrite_same | apply State.wn_same | apply ite_same | apply foldl_same | split | dsimp only)
theorem State.windowWrite_same {z : Bool} {s u : State} (h : Same z s u) (win : Nat) (off : Nat) (w : Wr) : Same z s (State.windowWrite u win off w) := by
  unfold State.windowWrite
  with_reducible repeat' (first | assumption | intro _ | apply State.slotWrite_same | apply State.reservedHit_same | apply State.winWrite_same | apply State.mergeRaw_same | apply ite_same | apply foldl_same | split | dsimp only)
theorem execChpCommit_same {z : Bool} {s u : State} (h : Same z s u) (win : Nat) (w : Wr) : OutSame z s (execChpCommit win w u) := by
  unfold execChpCommit
  with_reducible repeat' (first | assumption | intro _ | apply State.pfOnly_same | apply State.winWrite_same | apply ite_same | apply foldl_same | apply outSame_next | apply ite_outSame | split | dsimp only)
theorem execChpBind_same {z : Bool} {s u : State} (h : Same z s u) (win : Nat) (w : Wr) : OutSame z s (execChpBind win w u) := by
  unfold execChpBind
  with_reducible repeat' (first | assumption | intro _ | apply State.pfOnly_same | apply State.winWrite_same | apply ite_same | apply foldl_same | apply outSame_next | apply ite_outSame | split | dsimp only)
theorem execChpUnbind_same {z : Bool} {s u : State} (h : Same z s u) (win : Nat) (w : Wr) : OutSame z s (execChpUnbind win w u) := by
  unfold execChpUnbind
  with_reducible repeat' (first | assumption | intro _ | apply State.pfOnly_same | apply State.winWrite_same | apply ite_same | apply foldl_same | apply outSame_next | apply ite_outSame | split | dsimp only)
theorem execDistrictWindowWrite_same {z : Bool} {s u : State} (h : Same z s u) (d : Nat) (off : Nat) (w : Wr) : OutSame z s (execDistrictWindowWrite d off w u) := by
  unfold execDistrictWindowWrite
  with_reducible repeat' (first | assumption | intro _ | apply State.pfOnly_same | apply State.windowWrite_same | apply ite_same | apply foldl_same | apply outSame_next | apply ite_outSame | split | dsimp only)
theorem State.gapEnd_same {z : Bool} {s u : State} (h : Same z s u) (n : Nat) : Same z s (State.gapEnd u n) := by
  unfold State.gapEnd
  with_reducible repeat' (first | assumption | intro _ | apply State.wr64_same | apply State.setSlot_same | apply State.raise_same | apply ite_same | apply foldl_same | split | dsimp only)
theorem State.resumeSource_same {z : Bool} {s u : State} (h : Same z s u) (n : Nat) : Same z s (State.resumeSource u n) := by
  unfold State.resumeSource
  with_reducible repeat' (first | assumption | intro _ | apply State.wn_same | apply State.setSlot_same | apply ite_same | apply foldl_same | split | dsimp only)
theorem State.dftComp_same {z : Bool} {s u : State} (h : Same z s u) (safe : Bool) (x : Int) (sh : Nat) : Same z s (State.dftComp u safe x sh).2 := by
  unfold State.dftComp
  with_reducible repeat' (first | assumption | intro _ | apply State.draw_same | apply ite_same | apply foldl_same | apply ite_same2 | apply foldl_same2 | split | refine pairSame2 (by assumption) ?_ | dsimp only)
theorem State.dftChannels_same {z : Bool} {s u : State} (h : Same z s u) (w : List (Int × Int)) (f : Nat) (sh : Nat) (shift : Nat) (safe : Bool) (a6 : List Nat) : Same z s (State.dftChannels u w f sh shift safe a6).2 := by
  induction a6 generalizing u with
  | nil => unfold State.dftChannels; with_reducible repeat' (first | assumption | intro _ | apply State.dftComp_same | apply ite_same | apply foldl_same | apply ite_same2 | apply foldl_same2 | split | refine pairSame2 (by assumption) ?_ | dsimp only)
  | cons _ n ih => unfold State.dftChannels; with_reducible repeat' (first | assumption | apply ih | intro _ | apply State.dftComp_same | apply ite_same | apply foldl_same | apply ite_same2 | apply foldl_same2 | split | refine pairSame2 (by assumption) ?_ | dsimp only)
theorem State.makeSpectrum_same {z : Bool} {s u : State} (h : Same z s u) (n : Nat) (j : Nat) : Same z s (State.makeSpectrum u n j).2 := by
  unfold State.makeSpectrum
  with_reducible repeat' (first | assumption | intro _ | apply State.dftChannels_same | apply State.draw_same | apply ite_same | apply foldl_same | apply ite_same2 | apply foldl_same2 | split | refine pairSame2 (by assumption) ?_ | dsimp only)
theorem State.slotSat_same {z : Bool} {s u : State} (h : Same z s u) (n : Nat) (clips : Nat) : Same z s (State.slotSat u n clips) := by
  unfold State.slotSat
  with_reducible repeat' (first | assumption | intro _ | apply State.bump_same | apply State.put_same | apply State.raise_same | apply State.setSlot_same | apply ite_same | apply foldl_same | split | dsimp only)
theorem State.showUsed_same {z : Bool} {s u : State} (h : Same z s u) (p : PathCfg) (used : Nat) : Same z s (State.showUsed u p used) := by
  unfold State.showUsed
  with_reducible repeat' (first | assumption | intro _ | apply State.put_same | apply ite_same | apply foldl_same | split | dsimp only)
theorem State.readyItem_same {z : Bool} {s u : State} (h : Same z s u) (q : Option Nat) (dests : List Nat) (first : Nat) (last : Nat) (b : List Byte) : Same z s (State.readyItem u q dests first last b) := by
  unfold State.readyItem
  with_reducible repeat' (first | assumption | intro _ | apply ite_same | apply foldl_same | split | dsimp only | apply same_items)
theorem State.closeVolt_same {z : Bool} {s u : State} (h : Same z s u) (p : PathCfg) (x : OutPath) : Same z s (State.closeVolt u p x).1 := by
  unfold State.closeVolt
  with_reducible repeat' (first | assumption | intro _ | apply State.showUsed_same | apply State.readyItem_same | apply ite_same | apply foldl_same | apply ite_same1 | apply foldl_same1 | split | dsimp only)
theorem State.pathVolt_same {z : Bool} {s u : State} (h : Same z s u) (p : PathCfg) (x : OutPath) (y : Spectrum) (used : Nat) : Same z s (State.pathVolt u p x y used).1.1 := by
  unfold State.pathVolt
  with_reducible repeat' (first | assumption | intro _ | apply State.closeVolt_same | apply ite_same | apply foldl_same | apply ite_same1 | apply foldl_same1 | split | refine pairSame1 (by assumption) ?_ | dsimp only)
theorem State.closeInteg_same {z : Bool} {s u : State} (h : Same z s u) (p : PathCfg) (x : OutPath) : Same z s (State.closeInteg u p x).1 := by
  unfold State.closeInteg
  with_reducible repeat' (first | assumption | intro _ | apply State.showUsed_same | apply State.readyItem_same | apply ite_same | apply foldl_same | apply ite_same1 | apply foldl_same1 | split | dsimp only)
theorem State.pathInteg_same {z : Bool} {s u : State} (h : Same z s u) (p : PathCfg) (x : OutPath) (y : Spectrum) (used : Nat) : Same z s (State.pathInteg u p x y used).1 := by
  unfold State.pathInteg
  with_reducible repeat' (first | assumption | intro _ | apply State.closeInteg_same | apply ite_same | apply foldl_same | apply ite_same1 | apply foldl_same1 | split | refine pairSame1 (by assumption) ?_ | dsimp only)
theorem State.closeHisto_same {z : Bool} {s u : State} (h : Same z s u) (p : PathCfg) (x : OutPath) : Same z s (State.closeHisto u p x).1 := by
  unfold State.closeHisto
  with_reducible repeat' (first | assumption | intro _ | apply State.readyItem_same | apply ite_same | apply foldl_same | apply ite_same1 | apply foldl_same1 | split | dsimp only)
theorem State.pathHisto_same {z : Bool} {s u : State} (h : Same z s u) (p : PathCfg) (x : OutPath) (y : Spectrum) : Same z s (State.pathHisto u p x y).1 := by
  unfold State.pathHisto
  with_reducible repeat' (first | assumption | intro _ | apply State.closeHisto_same | apply ite_same | apply foldl_same | apply ite_same1 | apply foldl_same1 | split | refine pairSame1 (by assumption) ?_ | dsimp only)
theorem State.pathTake_same {z : Bool} {s u : State} (h : Same z s u) (p : PathCfg) (x : OutPath) (y : Spectrum) (used : Nat) : Same z s (State.pathTake u p x y used).1.1 := by
  unfold State.pathTake
  with_reducible repeat' (first | assumption | intro _ | apply State.pathVolt_same | apply State.pathInteg_same | apply State.pathHisto_same | apply ite_same | apply foldl_same | apply ite_same1 | apply foldl_same1 | split | refine pairSame1 (by assumption) ?_ | dsimp only)
theorem State.spectrumStep_same {z : Bool} {s u : State} (h : Same z s u) (n : Nat) : Same z s (State.spectrumStep u n) := by
  unfold State.spectrumStep
  with_reducible repeat' (first | assumption | intro _ | apply State.makeSpectrum_same | apply State.setSlot_same | apply State.slotSat_same | apply State.put_same | apply State.pathTake_same | apply ite_same | apply foldl_same | apply ite_same2 | apply foldl_same2 | split | refine pairSame2 (by assumption) ?_ | dsimp only)
theorem State.drainSpectra_same {z : Bool} {s u : State} (h : Same z s u) (n : Nat) (k0 : Nat) (a3 : Nat) : Same z s (State.drainSpectra u n k0 a3) := by
  induction a3 generalizing u with
  | zero => unfold State.drainSpectra; with_reducible repeat' (first | assumption | intro _ | apply State.spectrumStep_same | apply ite_same | apply foldl_same | split | dsimp only)
  | succ n ih => unfold State.drainSpectra; with_reducible repeat' (first | assumption | apply ih | intro _ | apply State.spectrumStep_same | apply ite_same | apply foldl_same | split | dsimp only)
theorem State.setRaw_same {z : Bool} {s u : State} (h : Same z s u) (n : Nat) (x : RawPath) : Same z s (State.setRaw u n x) := by
  unfold State.setRaw
  with_reducible repeat' (first | assumption | intro _ | apply ite_same | apply foldl_same | split | dsimp only | apply same_raws)
theorem State.cutTile_same {z : Bool} {s u : State} (h : Same z s u) (n : Nat) (last : Bool) (absent : Bool) (fault : Bool) : Same z s (State.cutTile u n last absent fault) := by
  unfold State.cutTile
  with_reducible repeat' (first | assumption | intro _ | apply State.setRaw_same | apply ite_same | apply foldl_same | split | dsimp only)
theorem State.showRaw_same {z : Bool} {s u : State} (h : Same z s u) (n : Nat) : Same z s (State.showRaw u n) := by
  unfold State.showRaw
  with_reducible repeat' (first | assumption | intro _ | apply State.put_same | apply ite_same | apply foldl_same | split | dsimp only)
theorem State.unloadEngine_same {z : Bool} {s u : State} (h : Same z s u) (e : Nat) (load : Nat) : Same z s (State.unloadEngine u e load) := by
  unfold State.unloadEngine
  with_reducible repeat' (first | assumption | intro _ | apply State.put_same | apply ite_same | apply foldl_same | split | dsimp only)
theorem State.setAllow_same {z : Bool} {s u : State} (h : Same z s u) (q : Nat) : Same z s (State.setAllow u q) := by
  unfold State.setAllow
  with_reducible repeat' (first | assumption | intro _ | apply State.setQue_same | apply State.wn_same | apply ite_same | apply foldl_same | split | dsimp only)

end Sys2Proof.Machine
end

