-- ==== Sys2Proof/Laws/Frame2.lean ====
section
/-! SUPPORT. One lemma per operation: what it leaves as it is (part 2 of 6, in the order of dependence). -/
set_option maxRecDepth 10000
namespace Sys2Proof.Machine

theorem State.rawRelease_same {z : Bool} {s u : State} (h : Same z s u) (n : Nat) : Same z s (State.rawRelease u n) := by
  unfold State.rawRelease
  with_reducible repeat' (first | assumption | intro _ | apply State.setRaw_same | apply State.unloadEngine_same | apply State.setAllow_same | apply State.put_same | apply ite_same | apply foldl_same | split | dsimp only)
theorem State.rawForce_same {z : Bool} {s u : State} (h : Same z s u) (n : Nat) : Same z s (State.rawForce u n) := by
  unfold State.rawForce
  with_reducible repeat' (first | assumption | intro _ | apply State.showRaw_same | apply State.raise_same | apply State.rawRelease_same | apply State.put_same | apply State.setAllow_same | apply State.setRaw_same | apply ite_same | apply foldl_same | split | dsimp only)
theorem State.intakePass_same {z : Bool} {s u : State} (h : Same z s u) (n : Nat) (m0 : SlotMark) : Same z s (State.intakePass u n m0) := by
  unfold State.intakePass
  with_reducible repeat' (first | assumption | intro _ | apply State.cutTile_same | apply State.showRaw_same | apply State.setSlot_same | apply State.forceVals_same | apply State.rawForce_same | apply ite_same | apply foldl_same | split | dsimp only)
theorem State.endOutput_same {z : Bool} {s u : State} (h : Same z s u) (n : Nat) : Same z s (State.endOutput u n) := by
  unfold State.endOutput
  with_reducible repeat' (first | assumption | intro _ | apply State.wn_same | apply State.setSlot_same | apply State.setStep_same | apply State.put_same | apply ite_same | apply foldl_same | split | dsimp only)
theorem State.pathEnd_same {z : Bool} {s u : State} (h : Same z s u) (p : PathCfg) (x : OutPath) : Same z s (State.pathEnd u p x).1 := by
  unfold State.pathEnd
  with_reducible repeat' (first | assumption | intro _ | apply State.closeVolt_same | apply State.closeInteg_same | apply State.closeHisto_same | apply ite_same | apply foldl_same | apply ite_same1 | apply foldl_same1 | split | refine pairSame1 (by assumption) ?_ | dsimp only)
theorem State.slotEndItems_same {z : Bool} {s u : State} (h : Same z s u) (n : Nat) : Same z s (State.slotEndItems u n) := by
  unfold State.slotEndItems
  with_reducible repeat' (first | assumption | intro _ | apply State.pathEnd_same | apply State.setSlot_same | apply ite_same | apply foldl_same | apply ite_same1 | apply foldl_same1 | split | refine pairSame1 (by assumption) ?_ | dsimp only)
theorem State.chanStart_same {z : Bool} {s u : State} (h : Same z s u) (n : Nat) (k0 : Nat) : Same z s (State.chanStart u n k0) := by
  unfold State.chanStart
  with_reducible repeat' (first | assumption | intro _ | apply State.put_same | apply State.setSlot_same | apply ite_same | apply foldl_same | split | dsimp only)
theorem State.passRestart_same {z : Bool} {s u : State} (h : Same z s u) (n : Nat) (m0 : SlotMark) : Same z s (State.passRestart u n m0) := by
  unfold State.passRestart
  with_reducible repeat' (first | assumption | intro _ | apply State.chanStart_same | apply State.restartSlot_same | apply State.forceVals_same | apply State.slotEndItems_same | apply ite_same | apply foldl_same | split | dsimp only)
theorem State.changeFront_same {z : Bool} {s u : State} (h : Same z s u) (n : Nat) (vals : List SVal) : Same z s (State.changeFront u n vals) := by
  unfold State.changeFront
  with_reducible repeat' (first | assumption | intro _ | apply State.forceVals_same | apply State.wn_same | apply State.showChain_same | apply ite_same | apply foldl_same | split | dsimp only)
theorem State.passFields_same {z : Bool} {s u : State} (h : Same z s u) (n : Nat) (m0 : SlotMark) : Same z s (State.passFields u n m0) := by
  unfold State.passFields
  with_reducible repeat' (first | assumption | intro _ | apply State.changeFront_same | apply State.forceVals_same | apply State.setSlot_same | apply State.followSource_same | apply State.put_same | apply ite_same | apply foldl_same | split | dsimp only)
theorem State.enterFixed_same {z : Bool} {s u : State} (h : Same z s u) (n : Nat) (ofs : Int) : Same z s (State.enterFixed u n ofs) := by
  unfold State.enterFixed
  with_reducible repeat' (first | assumption | intro _ | apply State.setStep_same | apply State.put_same | apply State.setSlot_same | apply ite_same | apply foldl_same | split | dsimp only)
theorem State.frameItem_same {z : Bool} {s u : State} (h : Same z s u) (p : PathCfg) (x : OutPath) (frame : Nat) (track : Nat) (tstate : Nat) (coarse : Nat) (tail : List Byte) : Same z s (State.frameItem u p x frame track tstate coarse tail).1 := by
  unfold State.frameItem
  with_reducible repeat' (first | assumption | intro _ | apply State.readyItem_same | apply ite_same | apply foldl_same | apply ite_same1 | apply foldl_same1 | split | dsimp only)
theorem State.slotFrame_same {z : Bool} {s u : State} (h : Same z s u) (n : Nat) (m0 : SlotMark) : Same z s (State.slotFrame u n m0) := by
  unfold State.slotFrame
  with_reducible repeat' (first | assumption | intro _ | apply State.frameItem_same | apply State.setSlot_same | apply ite_same | apply foldl_same | apply ite_same1 | apply foldl_same1 | split | refine pairSame1 (by assumption) ?_ | dsimp only)
theorem State.setMark_same {z : Bool} {s u : State} (h : Same z s u) (n : Nat) (k0 : Nat) (f : SlotMark → SlotMark) : Same z s (State.setMark u n k0 f) := by
  unfold State.setMark
  with_reducible repeat' (first | assumption | intro _ | apply State.setSlot_same | apply ite_same | apply foldl_same | split | dsimp only)
theorem State.chainMarks_same {z : Bool} {s u : State} (h : Same z s u) (n : Nat) (t : Int) : Same z s (State.chainMarks u n t) := by
  unfold State.chainMarks
  with_reducible repeat' (first | assumption | intro _ | apply State.changeFront_same | apply State.setMark_same | apply ite_same | apply foldl_same | split | dsimp only)
theorem State.chainOut_same {z : Bool} {s u : State} (h : Same z s u) (n : Nat) (m0 : Nat) (y : Smp) : Same z s (State.chainOut u n m0 y) := by
  unfold State.chainOut
  with_reducible repeat' (first | assumption | intro _ | apply State.setSlot_same | apply State.wn_same | apply ite_same | apply foldl_same | split | dsimp only)
theorem State.frontStages_same {z : Bool} {s u : State} (h : Same z s u) (n : Nat) (i : Nat) (v : Smp) : Same z s (State.frontStages u n i v) := by
  unfold State.frontStages
  with_reducible repeat' (first | assumption | intro _ | apply State.setSlot_same | apply State.slotSat_same | apply State.put_same | apply State.chainOut_same | apply ite_same | apply foldl_same | split | dsimp only)
theorem State.feed_same {z : Bool} {s u : State} (h : Same z s u) (n : Nat) (i : Nat) (t : Int) (v : Smp) : Same z s (State.feed u n i t v) := by
  unfold State.feed
  with_reducible repeat' (first | assumption | intro _ | apply State.chainMarks_same | apply State.frontStages_same | apply State.setSlot_same | apply ite_same | apply foldl_same | split | dsimp only)
theorem State.replay_same {z : Bool} {s u : State} (h : Same z s u) (n : Nat) : Same z s (State.replay u n) := by
  unfold State.replay
  with_reducible repeat' (first | assumption | intro _ | apply State.feed_same | apply State.setSlot_same | apply ite_same | apply foldl_same | split | dsimp only)
theorem State.passMark_same {z : Bool} {s u : State} (h : Same z s u) (n : Nat) (m0 : SlotMark) : Same z s (State.passMark u n m0) := by
  unfold State.passMark
  with_reducible repeat' (first | assumption | intro _ | apply State.drainSpectra_same | apply State.intakePass_same | apply State.endOutput_same | apply State.slotEndItems_same | apply State.passRestart_same | apply State.passFields_same | apply State.enterFixed_same | apply State.slotFrame_same | apply State.replay_same | apply ite_same | apply foldl_same | split | dsimp only)
theorem State.settleMarks_same {z : Bool} {s u : State} (h : Same z s u) (n : Nat) (a2 : Nat) : Same z s (State.settleMarks u n a2) := by
  induction a2 generalizing u with
  | zero => unfold State.settleMarks; with_reducible repeat' (first | assumption | intro _ | apply State.passMark_same | apply State.setSlot_same | apply ite_same | apply foldl_same | split | dsimp only)
  | succ n ih => unfold State.settleMarks; with_reducible repeat' (first | assumption | apply ih | intro _ | apply State.passMark_same | apply State.setSlot_same | apply ite_same | apply foldl_same | split | dsimp only)
theorem State.settleSlot_same {z : Bool} {s u : State} (h : Same z s u) (n : Nat) : Same z s (State.settleSlot u n) := by
  unfold State.settleSlot
  with_reducible repeat' (first | assumption | intro _ | apply State.settleMarks_same | apply ite_same | apply foldl_same | split | dsimp only)
theorem State.gapSample_same {z : Bool} {s u : State} (h : Same z s u) (n : Nat) : Same z s (State.gapSample u n) := by
  unfold State.gapSample
  with_reducible repeat' (first | assumption | intro _ | apply State.setSlot_same | apply State.put_same | apply State.wr64_same | apply State.raise_same | apply ite_same | apply foldl_same | split | dsimp only)
theorem State.takeGrid_same {z : Bool} {s u : State} (h : Same z s u) (n : Nat) (u0 : Int) (y : Smp) : Same z s (State.takeGrid u n u0 y) := by
  unfold State.takeGrid
  with_reducible repeat' (first | assumption | intro _ | apply State.setSlot_same | apply ite_same | apply foldl_same | split | dsimp only)
theorem State.gridStep_same {z : Bool} {s u : State} (h : Same z s u) (n : Nat) : Same z s (State.gridStep u n) := by
  unfold State.gridStep
  with_reducible repeat' (first | assumption | intro _ | apply State.gapSample_same | apply State.slotSat_same | apply State.takeGrid_same | apply State.gapEnd_same | apply ite_same | apply foldl_same | split | dsimp only)
theorem State.gridAdvance_same {z : Bool} {s u : State} (h : Same z s u) (n : Nat) : Same z s (State.gridAdvance u n) := by
  unfold State.gridAdvance
  with_reducible repeat' (first | assumption | intro _ | apply State.settleSlot_same | apply State.gridStep_same | apply ite_same | apply foldl_same | split | dsimp only)
theorem State.gridDrain_same {z : Bool} {s u : State} (h : Same z s u) (n : Nat) (a2 : Nat) : Same z s (State.gridDrain u n a2) := by
  induction a2 generalizing u with
  | zero => unfold State.gridDrain; with_reducible repeat' (first | assumption | intro _ | apply State.gridAdvance_same | apply ite_same | apply foldl_same | split | dsimp only)
  | succ n ih => unfold State.gridDrain; with_reducible repeat' (first | assumption | apply ih | intro _ | apply State.gridAdvance_same | apply ite_same | apply foldl_same | split | dsimp only)
theorem State.sourceResume_same {z : Bool} {s u : State} (h : Same z s u) (n : Nat) : Same z s (State.sourceResume u n) := by
  unfold State.sourceResume
  with_reducible repeat' (first | assumption | intro _ | apply State.resumeSource_same | apply State.gridDrain_same | apply ite_same | apply foldl_same | split | dsimp only)
theorem execSourceResume_same {z : Bool} {s u : State} (h : Same z s u) (n : Nat) : OutSame z s (execSourceResume n u) := by
  unfold execSourceResume
  with_reducible repeat' (first | assumption | intro _ | apply State.sourceResume_same | apply ite_same | apply foldl_same | apply outSame_next | apply ite_outSame | split | dsimp only)
theorem State.detect_same {z : Bool} {s u : State} (h : Same z s u) (n : Nat) (t : Int) (sum : Nat) : Same z s (State.detect u n t sum) := by
  unfold State.detect
  with_reducible repeat' (first | assumption | intro _ | apply State.bump_same | apply State.offerTrig_same | apply State.trgSend_same | apply ite_same | apply foldl_same | split | dsimp only)
theorem State.fastPower_same {z : Bool} {s u : State} (h : Same z s u) (n : Nat) (t : Int) (x : Smp) : Same z s (State.fastPower u n t x) := by
  unfold State.fastPower
  with_reducible repeat' (first | assumption | intro _ | apply State.detect_same | apply State.setSlot_same | apply ite_same | apply foldl_same | split | dsimp only)
theorem execGridSampleEmit_same {z : Bool} {s u : State} (h : Same z s u) (n : Nat) : OutSame z s (execGridSampleEmit n u) := by
  unfold execGridSampleEmit
  with_reducible repeat' (first | assumption | intro _ | apply State.gridAdvance_same | apply ite_same | apply foldl_same | apply outSame_next | apply ite_outSame | split | dsimp only)
theorem execSpectrumReady_same {z : Bool} {s u : State} (h : Same z s u) (n : Nat) : OutSame z s (execSpectrumReady n u) := by
  unfold execSpectrumReady
  with_reducible repeat' (first | assumption | intro _ | apply State.spectrumStep_same | apply ite_same | apply foldl_same | apply outSame_next | apply ite_outSame | split | dsimp only)
theorem State.setBeam_same {z : Bool} {s u : State} (h : Same z s u) (b : Nat) (x : Beam) : Same z s (State.setBeam u b x) := by
  unfold State.setBeam
  with_reducible repeat' (first | assumption | intro _ | apply ite_same | apply foldl_same | split | dsimp only | apply same_beams)
theorem State.checkMembers_same {z : Bool} {s u : State} (h : Same z s u) (k0 : Nat) (b : Nat) : Same z s (State.checkMembers u k0 b) := by
  unfold State.checkMembers
  with_reducible repeat' (first | assumption | intro _ | apply State.raise_same | apply State.setBeam_same | apply ite_same | apply foldl_same | split | dsimp only)
theorem State.bmacGone_same {z : Bool} {s u : State} (h : Same z s u) (a : Nat) (pol : Bool) : Same z s (State.bmacGone u a pol) := by
  unfold State.bmacGone
  with_reducible repeat' (first | assumption | intro _ | apply State.wn_same | apply State.put_same | apply State.spareExhausted_same | apply State.policyLog_same | apply ite_same | apply foldl_same | split | dsimp only | apply same_bmacShed)
theorem State.bmacSwitch_same {z : Bool} {s u : State} (h : Same z s u) (a : Nat) (pol : Bool) : Same z s (State.bmacSwitch u a pol) := by
  unfold State.bmacSwitch
  with_reducible repeat' (first | assumption | intro _ | apply State.useSpare_same | apply State.put_same | apply State.raise_same | apply State.bmacGone_same | apply ite_same | apply foldl_same | split | dsimp only)
theorem State.retireBmac_same {z : Bool} {s u : State} (h : Same z s u) (a : Nat) (pol : Bool) : Same z s (State.retireBmac u a pol) := by
  unfold State.retireBmac
  with_reducible repeat' (first | assumption | intro _ | apply State.bmacSwitch_same | apply State.put_same | apply State.bmacGone_same | apply ite_same | apply foldl_same | split | dsimp only | apply same_bmacSwaps)
theorem execBmacFail_same {z : Bool} {s u : State} (h : Same z s u) (a : Nat) : OutSame z s (execBmacFail a u) := by
  unfold execBmacFail
  with_reducible repeat' (first | assumption | intro _ | apply State.raise_same | apply State.put_same | apply State.retireBmac_same | apply ite_same | apply foldl_same | apply outSame_next | apply ite_outSame | split | dsimp only)
theorem State.beamSat_same {z : Bool} {s u : State} (h : Same z s u) (b : Nat) (clips : Nat) : Same z s (State.beamSat u b clips) := by
  unfold State.beamSat
  with_reducible repeat' (first | assumption | intro _ | apply State.put_same | apply State.bump_same | apply ite_same | apply foldl_same | split | dsimp only)
theorem State.beamOut_same {z : Bool} {s u : State} (h : Same z s u) (b : Nat) (y : Spectrum) (used : Nat) : Same z s (State.beamOut u b y used) := by
  unfold State.beamOut
  with_reducible repeat' (first | assumption | intro _ | apply State.sendTx_same | apply State.pathTake_same | apply State.beamSat_same | apply State.setBeam_same | apply ite_same | apply foldl_same | split | dsimp only)
theorem State.finishSum_same {z : Bool} {s u : State} (h : Same z s u) (b : Nat) (x : BeamWait) : Same z s (State.finishSum u b x) := by
  unfold State.finishSum
  with_reducible repeat' (first | assumption | intro _ | apply State.setBeam_same | apply State.put_same | apply State.wr64_same | apply State.raise_same | apply State.beamOut_same | apply State.beamSat_same | apply ite_same | apply foldl_same | split | dsimp only)
theorem State.finishSums_same {z : Bool} {s u : State} (h : Same z s u) (b : Nat) (a2 : List BeamWait) : Same z s (State.finishSums u b a2) := by
  induction a2 generalizing u with
  | nil => unfold State.finishSums; with_reducible repeat' (first | assumption | intro _ | apply State.finishSum_same | apply State.setBeam_same | apply ite_same | apply foldl_same | split | dsimp only)
  | cons _ n ih => unfold State.finishSums; with_reducible repeat' (first | assumption | apply ih | intro _ | apply State.finishSum_same | apply State.setBeam_same | apply ite_same | apply foldl_same | split | dsimp only)
theorem State.beamEndItems_same {z : Bool} {s u : State} (h : Same z s u) (b : Nat) : Same z s (State.beamEndItems u b) := by
  unfold State.beamEndItems
  with_reducible repeat' (first | assumption | intro _ | apply State.pathEnd_same | apply State.setBeam_same | apply ite_same | apply foldl_same | apply ite_same1 | apply foldl_same1 | split | refine pairSame1 (by assumption) ?_ | dsimp only)
theorem State.beamTake_same {z : Bool} {s u : State} (h : Same z s u) (b : Nat) (k0 : Nat) (x : Staged) : Same z s (State.beamTake u b k0 x) := by
  unfold State.beamTake
  with_reducible repeat' (first | assumption | intro _ | apply State.forceVals_same | apply State.beamEndItems_same | apply State.setBeam_same | apply State.wr64_same | apply ite_same | apply foldl_same | split | dsimp only | apply same_partials)
theorem State.beamFrame_same {z : Bool} {s u : State} (h : Same z s u) (b : Nat) (m0 : BeamMark) : Same z s (State.beamFrame u b m0) := by
  unfold State.beamFrame
  with_reducible repeat' (first | assumption | intro _ | apply State.draw_same | apply State.frameItem_same | apply State.setBeam_same | apply ite_same | apply foldl_same | apply ite_same2 | apply foldl_same2 | apply ite_same1 | apply foldl_same1 | split | refine pairSame2 (by assumption) ?_ | refine pairSame1 (by assumption) ?_ | dsimp only)
theorem State.passBeam_same {z : Bool} {s u : State} (h : Same z s u) (b : Nat) (m0 : BeamMark) : Same z s (State.passBeam u b m0) := by
  unfold State.passBeam
  with_reducible repeat' (first | assumption | intro _ | apply State.beamTake_same | apply State.beamFrame_same | apply ite_same | apply foldl_same | split | dsimp only)
theorem State.settleMarksOf_same {z : Bool} {s u : State} (h : Same z s u) (b : Nat) (a2 : Nat) : Same z s (State.settleMarksOf u b a2) := by
  induction a2 generalizing u with
  | zero => unfold State.settleMarksOf; with_reducible repeat' (first | assumption | intro _ | apply State.passBeam_same | apply State.setBeam_same | apply ite_same | apply foldl_same | split | dsimp only)
  | succ n ih => unfold State.settleMarksOf; with_reducible repeat' (first | assumption | apply ih | intro _ | apply State.passBeam_same | apply State.setBeam_same | apply ite_same | apply foldl_same | split | dsimp only)
theorem State.settleBeam_same {z : Bool} {s u : State} (h : Same z s u) (b : Nat) : Same z s (State.settleBeam u b) := by
  unfold State.settleBeam
  with_reducible repeat' (first | assumption | intro _ | apply State.settleMarksOf_same | apply State.setBeam_same | apply ite_same | apply foldl_same | split | dsimp only)
theorem State.beamGoes_same {z : Bool} {s u : State} (h : Same z s u) (b : Nat) : Same z s (State.beamGoes u b) := by
  unfold State.beamGoes
  with_reducible repeat' (first | assumption | intro _ | apply State.settleBeam_same | apply State.finishSums_same | apply ite_same | apply foldl_same | split | dsimp only)
theorem execChainWaitExpiry_same {z : Bool} {s u : State} (h : Same z s u) (b : Nat) : OutSame z s (execChainWaitExpiry b u) := by
  unfold execChainWaitExpiry
  with_reducible repeat' (first | assumption | intro _ | apply State.setBeam_same | apply State.beamGoes_same | apply ite_same | apply foldl_same | apply outSame_next | apply ite_outSame | split | dsimp only)
theorem execItemComplete_same {z : Bool} {s u : State} (h : Same z s u) : OutSame z s (execItemComplete u) := by
  unfold execItemComplete
  with_reducible repeat' (first | assumption | intro _ | apply State.handItem_same | apply ite_same | apply foldl_same | apply outSame_next | apply ite_outSame | split | dsimp only)
theorem State.showLoad_same {z : Bool} {s u : State} (h : Same z s u) : Same z s (State.showLoad u) := by
  unfold State.showLoad
  with_reducible repeat' (first | assumption | intro _ | apply State.wn_same | apply ite_same | apply foldl_same | split | dsimp only)
theorem State.endIndices_same {z : Bool} {s u : State} (h : Same z s u) (p : PathCfg) (x : OutPath) (next : Nat) : Same z s (State.endIndices u p x next).1 := by
  unfold State.endIndices
  with_reducible repeat' (first | assumption | intro _ | apply State.closeInteg_same | apply State.closeHisto_same | apply ite_same | apply foldl_same | apply ite_same1 | apply foldl_same1 | split | refine pairSame1 (by assumption) ?_ | dsimp only)
theorem execIntegrationEnd_same {z : Bool} {s u : State} (h : Same z s u) (n : Nat) (ofBeam : Bool) : OutSame z s (execIntegrationEnd n ofBeam u) := by
  unfold execIntegrationEnd
  with_reducible repeat' (first | assumption | intro _ | apply State.endIndices_same | apply State.setBeam_same | apply State.setSlot_same | apply ite_same | apply foldl_same | apply ite_same1 | apply foldl_same1 | apply outSame_next | apply ite_outSame | split | refine pairSame1 (by assumption) ?_ | dsimp only)
theorem execBeamSum_same {z : Bool} {s u : State} (h : Same z s u) (b : Nat) : OutSame z s (execBeamSum b u) := by
  unfold execBeamSum
  with_reducible repeat' (first | assumption | intro _ | apply State.setBeam_same | apply State.beamGoes_same | apply ite_same | apply foldl_same | apply outSame_next | apply ite_outSame | split | dsimp only | apply same_partials)
theorem State.forceRange_same {z : Bool} {s u : State} (h : Same z s u) (l : List (Nat × BeamCfg)) : Same z s (State.forceRange u l) := by
  unfold State.forceRange
  with_reducible repeat' (first | assumption | intro _ | apply State.forceVals_same | apply ite_same | apply foldl_same | split | dsimp only)
theorem State.showBeam_same {z : Bool} {s u : State} (h : Same z s u) (b : Nat) : Same z s (State.showBeam u b) := by
  unfold State.showBeam
  with_reducible repeat' (first | assumption | intro _ | apply State.put_same | apply ite_same | apply foldl_same | split | dsimp only)
theorem State.stageRange_same {z : Bool} {s u : State} (h : Same z s u) (g : Nat) (k0 : Nat) (action : Nat) (l : List (Nat × BeamCfg)) : Same z s (State.stageRange u g k0 action l) := by
  unfold State.stageRange
  with_reducible repeat' (first | assumption | intro _ | apply State.showBeam_same | apply State.stage_same | apply ite_same | apply foldl_same | split | dsimp only)
theorem State.commitBeams_same {z : Bool} {s u : State} (h : Same z s u) : Same z s (State.commitBeams u) := by
  unfold State.commitBeams
  with_reducible repeat' (first | assumption | intro _ | apply State.refuseDom_same | apply State.put_same | apply State.forceRange_same | apply State.stageRange_same | apply ite_same | apply foldl_same | split | dsimp only)
theorem execBfmCommit_same {z : Bool} {s u : State} (h : Same z s u) (w : Wr) : OutSame z s (execBfmCommit w u) := by
  unfold execBfmCommit
  with_reducible repeat' (first | assumption | intro _ | apply State.pfOnly_same | apply State.commitBeams_same | apply ite_same | apply foldl_same | apply outSame_next | apply ite_outSame | split | dsimp only)
theorem State.takePartial_same {z : Bool} {s u : State} (h : Same z s u) (b : Nat) (j : Nat) (grid : Nat) (first : Nat) (count : Nat) (flags : Nat) (vals : List (Int × Int)) : Same z s (State.takePartial u b j grid first count flags vals) := by
  unfold State.takePartial
  with_reducible repeat' (first | assumption | intro _ | apply State.bump_same | apply State.raise_same | apply State.setBeam_same | apply State.beamGoes_same | apply ite_same | apply foldl_same | split | dsimp only | apply same_partials)
theorem State.addBeamMark_same {z : Bool} {s u : State} (h : Same z s u) (b : Nat) (m0 : BeamMark) : Same z s (State.addBeamMark u b m0) := by
  unfold State.addBeamMark
  with_reducible repeat' (first | assumption | intro _ | apply State.setBeam_same | apply ite_same | apply foldl_same | split | dsimp only)
theorem State.applyBeam_same {z : Bool} {s u : State} (h : Same z s u) (b : Nat) (k0 : Nat) (x : Staged) : Same z s (State.applyBeam u b k0 x) := by
  unfold State.applyBeam
  with_reducible repeat' (first | assumption | intro _ | apply State.showLoad_same | apply State.showBeam_same | apply State.setBeam_same | apply State.checkMembers_same | apply State.addBeamMark_same | apply ite_same | apply foldl_same | split | dsimp only)
theorem State.shedBeam_same {z : Bool} {s u : State} (h : Same z s u) (b : Nat) (k0 : Nat) (pol : Bool) : Same z s (State.shedBeam u b k0 pol) := by
  unfold State.shedBeam
  with_reducible repeat' (first | assumption | intro _ | apply State.put_same | apply State.raise_same | apply State.applyBeam_same | apply ite_same | apply foldl_same | split | dsimp only)
theorem State.shedTo_same {z : Bool} {s u : State} (h : Same z s u) (k0 : Nat) (pol : Bool) (a3 : List Nat) : Same z s (State.shedTo u k0 pol a3) := by
  induction a3 generalizing u with
  | nil => unfold State.shedTo; with_reducible repeat' (first | assumption | intro _ | apply State.shedBeam_same | apply ite_same | apply foldl_same | split | dsimp only)
  | cons _ n ih => unfold State.shedTo; with_reducible repeat' (first | assumption | apply ih | intro _ | apply State.shedBeam_same | apply ite_same | apply foldl_same | split | dsimp only)
theorem State.bmacBoundary_same {z : Bool} {s u : State} (h : Same z s u) (g : Nat) (k0 : Nat) : Same z s (State.bmacBoundary u g k0) := by
  unfold State.bmacBoundary
  with_reducible repeat' (first | assumption | intro _ | apply State.bmacSwitch_same | apply State.shedTo_same | apply ite_same | apply foldl_same | split | dsimp only | apply same_bmacSwaps)
theorem State.feCode_same {z : Bool} {s u : State} (h : Same z s u) (c : Nat) : Same z s (State.feCode u c) := by
  unfold State.feCode
  with_reducible repeat' (first | assumption | intro _ | apply State.put_same | apply ite_same | apply foldl_same | split | dsimp only)
theorem State.feSet_same {z : Bool} {s u : State} (h : Same z s u) (st : Nat) : Same z s (State.feSet u st) := by
  unfold State.feSet
  with_reducible repeat' (first | assumption | intro _ | apply State.raise_same | apply State.put_same | apply ite_same | apply foldl_same | split | dsimp only)
theorem State.feWait_same {z : Bool} {s u : State} (h : Same z s u) (x : FeWait) : Same z s (State.feWait u x) := by
  unfold State.feWait
  with_reducible repeat' (first | assumption | intro _ | apply State.put_same | apply ite_same | apply foldl_same | split | dsimp only | apply same_fe)
theorem State.feBind_same {z : Bool} {s u : State} (h : Same z s u) (g : Nat) (k0 : Nat) (action : Nat) (act : Option Int) : Same z s (State.feBind u g k0 action act) := by
  unfold State.feBind
  with_reducible repeat' (first | assumption | intro _ | apply State.fwr_same | apply State.feSet_same | apply State.stage_same | apply State.put_same | apply State.feWait_same | apply ite_same | apply foldl_same | split | dsimp only)
theorem State.setExc_same {z : Bool} {s u : State} (h : Same z s u) (q : Nat) (x : Exc) : Same z s (State.setExc u q x) := by
  unfold State.setExc
  with_reducible repeat' (first | assumption | intro _ | apply ite_same | apply foldl_same | split | dsimp only | apply same_excs)
theorem State.excStep_same {z : Bool} {s u : State} (h : Same z s u) (q : Nat) (t : Int) : Same z s (State.excStep u q t) := by
  unfold State.excStep
  with_reducible repeat' (first | assumption | intro _ | apply State.setExc_same | apply ite_same | apply foldl_same | split | dsimp only)
theorem State.excOff_same {z : Bool} {s u : State} (h : Same z s u) (q : Nat) : Same z s (State.excOff u q) := by
  unfold State.excOff
  with_reducible repeat' (first | assumption | intro _ | apply State.setExc_same | apply State.put_same | apply ite_same | apply foldl_same | split | dsimp only)
theorem State.excApply_same {z : Bool} {s u : State} (h : Same z s u) (t : Int) (q : Nat) : Same z s (State.excApply u t q) := by
  unfold State.excApply
  with_reducible repeat' (first | assumption | intro _ | apply State.raise_same | apply State.excStep_same | apply State.put_same | apply State.setExc_same | apply State.excOff_same | apply ite_same | apply foldl_same | split | dsimp only)
theorem State.setPcv_same {z : Bool} {s u : State} (h : Same z s u) (p : Nat) (x : Pcv) : Same z s (State.setPcv u p x) := by
  unfold State.setPcv
  with_reducible repeat' (first | assumption | intro _ | apply ite_same | apply foldl_same | split | dsimp only | apply same_pcvs)
theorem State.seqApply_same {z : Bool} {s u : State} (h : Same z s u) (k0 : Nat) (was : Nat) (p : Nat) : Same z s (State.seqApply u k0 was p) := by
  unfold State.seqApply
  with_reducible repeat' (first | assumption | intro _ | apply State.setPcv_same | apply ite_same | apply foldl_same | split | dsimp only)
theorem State.sfeDirty_same {z : Bool} {s u : State} (h : Same z s u) : Same z s (State.sfeDirty u) := by
  unfold State.sfeDirty
  with_reducible repeat' (first | assumption | intro _ | apply State.put_same | apply ite_same | apply foldl_same | split | dsimp only)
theorem State.setSfeCh_same {z : Bool} {s u : State} (h : Same z s u) (c : Nat) (x : SfeCh) : Same z s (State.setSfeCh u c x) := by
  unfold State.setSfeCh
  with_reducible repeat' (first | assumption | intro _ | apply ite_same | apply foldl_same | split | dsimp only | apply same_sfeChs)
theorem State.linApply_same {z : Bool} {s u : State} (h : Same z s u) (t : Int) (old : List Nat) (c : Nat) : Same z s (State.linApply u t old c) := by
  unfold State.linApply
  with_reducible repeat' (first | assumption | intro _ | apply State.put_same | apply State.setSfeCh_same | apply ite_same | apply foldl_same | split | dsimp only | apply same_nvm)
theorem State.pauseMask_same {z : Bool} {s u : State} (h : Same z s u) (was : Bool) (t : Int) : Same z s (State.pauseMask u was t) := by
  unfold State.pauseMask
  with_reducible repeat' (first | assumption | intro _ | apply ite_same | apply foldl_same | split | dsimp only | apply same_fe)
theorem State.feApply_same {z : Bool} {s u : State} (h : Same z s u) (t : Int) (k0 : Nat) (vals : List SVal) : Same z s (State.feApply u t k0 vals) := by
  unfold State.feApply
  with_reducible repeat' (first | assumption | intro _ | apply State.forceVals_same | apply State.excApply_same | apply State.seqApply_same | apply State.sfeDirty_same | apply State.linApply_same | apply State.pauseMask_same | apply ite_same | apply foldl_same | split | dsimp only)
theorem State.feStage_same {z : Bool} {s u : State} (h : Same z s u) (action : Nat) (act : Option Int) (vals : List SVal) : OptSame z s (State.feStage u action act vals) := by
  unfold State.feStage
  with_reducible repeat' (first | assumption | intro _ | apply State.feApply_same | apply State.sfeDirty_same | apply State.stage_same | apply ite_same | apply foldl_same | apply ite_optSame | apply optSame_some | apply optSame_none | split | dsimp only)
theorem State.feCommit_same {z : Bool} {s u : State} (h : Same z s u) (action : Nat) (act : Option Int) (vals : List SVal) (shadow : List SVal) : OptSame z s (State.feCommit u action act vals shadow) := by
  unfold State.feCommit
  with_reducible repeat' (first | assumption | intro _ | apply State.feStage_same | apply State.feWait_same | apply State.feApply_same | apply ite_same | apply foldl_same | apply ite_optSame | apply optSame_some | apply optSame_none | split | refine optSame_get (by assumption) ?_ | apply optSame_getD | apply optSame_map | dsimp only)
theorem State.feUnbind_same {z : Bool} {s u : State} (h : Same z s u) (k0 : Nat) (action : Nat) : Same z s (State.feUnbind u k0 action) := by
  unfold State.feUnbind
  with_reducible repeat' (first | assumption | intro _ | apply State.abortDiscarded_same | apply State.feSet_same | apply State.stage_same | apply ite_same | apply foldl_same | split | dsimp only | apply same_staged)
theorem State.sfeCtlWrite_same {z : Bool} {s u : State} (h : Same z s u) (w : Wr) : Same z s (State.sfeCtlWrite u w) := by
  unfold State.sfeCtlWrite
  with_reducible repeat' (first | assumption | intro _ | apply State.mergeRaw_same | apply State.feCode_same | apply State.feBind_same | apply State.feCommit_same | apply State.feUnbind_same | apply ite_same | apply foldl_same | split | refine optSame_get (by assumption) ?_ | apply optSame_getD | apply optSame_map | dsimp only)
theorem execSfeCommit_same {z : Bool} {s u : State} (h : Same z s u) (w : Wr) : OutSame z s (execSfeCommit w u) := by
  unfold execSfeCommit
  with_reducible repeat' (first | assumption | intro _ | apply State.pfOnly_same | apply State.sfeCtlWrite_same | apply ite_same | apply foldl_same | apply outSame_next | apply ite_outSame | split | dsimp only)
theorem execSfeBind_same {z : Bool} {s u : State} (h : Same z s u) (w : Wr) : OutSame z s (execSfeBind w u) := by
  unfold execSfeBind
  with_reducible repeat' (first | assumption | intro _ | apply State.pfOnly_same | apply State.sfeCtlWrite_same | apply ite_same | apply foldl_same | apply outSame_next | apply ite_outSame | split | dsimp only)
theorem execPcvRefOk_same {z : Bool} {s u : State} (h : Same z s u) : OutSame z s (execPcvRefOk u) := by
  unfold execPcvRefOk
  with_reducible repeat' (first | assumption | intro _ | apply State.raise_same | apply State.put_same | apply ite_same | apply foldl_same | apply outSame_next | apply ite_outSame | split | dsimp only | apply same_fe)
theorem execSfeUnbind_same {z : Bool} {s u : State} (h : Same z s u) (w : Wr) : OutSame z s (execSfeUnbind w u) := by
  unfold execSfeUnbind
  with_reducible repeat' (first | assumption | intro _ | apply State.pfOnly_same | apply State.sfeCtlWrite_same | apply ite_same | apply foldl_same | apply outSame_next | apply ite_outSame | split | dsimp only)
theorem State.retirePcv_same {z : Bool} {s u : State} (h : Same z s u) (p : Nat) (pol : Bool) : Same z s (State.retirePcv u p pol) := by
  unfold State.retirePcv
  with_reducible repeat' (first | assumption | intro _ | apply State.setPcv_same | apply ite_same | apply foldl_same | split | dsimp only)
theorem State.pauseEntry_same {z : Bool} {s u : State} (h : Same z s u) (t : Int) (p : Nat) : Same z s (State.pauseEntry u t p) := by
  unfold State.pauseEntry
  with_reducible repeat' (first | assumption | intro _ | apply State.put_same | apply State.setPcv_same | apply ite_same | apply foldl_same | split | dsimp only)
theorem State.feBlank_same {z : Bool} {s u : State} (h : Same z s u) (line : Nat) (asserted : Bool) (t : Int) : Same z s (State.feBlank u line asserted t) := by
  unfold State.feBlank
  with_reducible repeat' (first | assumption | intro _ | apply State.pauseEntry_same | apply ite_same | apply foldl_same | split | dsimp only | apply same_blanks | apply same_fe)
theorem execBlankEdge_same {z : Bool} {s u : State} (h : Same z s u) (line : Nat) (asserted : Bool) : OutSame z s (execBlankEdge line asserted u) := by
  unfold execBlankEdge
  with_reducible repeat' (first | assumption | intro _ | apply State.feBlank_same | apply ite_same | apply foldl_same | apply outSame_next | apply ite_outSame | split | dsimp only | apply same_blanks)
theorem State.pcvCode_same {z : Bool} {s u : State} (h : Same z s u) (g : Nat) (cor : Int × Int) (c : Conv) : Same z s (State.pcvCode u g cor c).2 := by
  unfold State.pcvCode
  with_reducible repeat' (first | assumption | intro _ | apply State.draw_same | apply ite_same | apply foldl_same | apply ite_same2 | apply foldl_same2 | split | refine pairSame2 (by assumption) ?_ | dsimp only)
theorem State.pcvCodes_same {z : Bool} {s u : State} (h : Same z s u) (g : Nat) (cor : Int × Int) (a3 : List Conv) : Same z s (State.pcvCodes u g cor a3).2 := by
  induction a3 generalizing u with
  | nil => unfold State.pcvCodes; with_reducible repeat' (first | assumption | intro _ | apply State.pcvCode_same | apply ite_same | apply foldl_same | apply ite_same2 | apply foldl_same2 | split | refine pairSame2 (by assumption) ?_ | dsimp only)
  | cons _ n ih => unfold State.pcvCodes; with_reducible repeat' (first | assumption | apply ih | intro _ | apply State.pcvCode_same | apply ite_same | apply foldl_same | apply ite_same2 | apply foldl_same2 | split | refine pairSame2 (by assumption) ?_ | dsimp only)
theorem State.cmEntry_same {z : Bool} {s u : State} (h : Same z s u) (c : Nat) (out : Bool) : Same z s (State.cmEntry u c out) := by
  unfold State.cmEntry
  with_reducible repeat' (first | assumption | intro _ | apply State.setSfeCh_same | apply State.raise_same | apply State.put_same | apply State.stageLog_same | apply ite_same | apply foldl_same | split | dsimp only)
theorem State.pcvResult_same {z : Bool} {s u : State} (h : Same z s u) (p : Nat) (r : PcvRun) (convs : List Conv) : Same z s (State.pcvResult u p r convs).2 := by
  unfold State.pcvResult
  with_reducible repeat' (first | assumption | intro _ | apply State.pcvCodes_same | apply State.cmEntry_same | apply State.put_same | apply State.setSfeCh_same | apply State.raise_same | apply ite_same | apply foldl_same | apply ite_same2 | apply foldl_same2 | split | refine pairSame2 (by assumption) ?_ | dsimp only)
theorem State.pcvSend_same {z : Bool} {s u : State} (h : Same z s u) (p : Nat) (mk : Nat → List Byte) : Same z s (State.pcvSend u p mk).1 := by
  unfold State.pcvSend
  with_reducible repeat' (first | assumption | intro _ | apply State.setPcv_same | apply State.readyItem_same | apply ite_same | apply foldl_same | apply ite_same1 | apply foldl_same1 | split | dsimp only)
theorem State.noRecord_same {z : Bool} {s u : State} (h : Same z s u) (p : Nat) (k0 : Nat) (e : Nat) (flags : Nat) : Same z s (State.noRecord u p k0 e flags) := by
  unfold State.noRecord
  with_reducible repeat' (first | assumption | intro _ | apply State.pcvSend_same | apply ite_same | apply foldl_same | apply ite_same1 | apply foldl_same1 | split | refine pairSame1 (by assumption) ?_ | dsimp only)
theorem State.pcvDead_same {z : Bool} {s u : State} (h : Same z s u) (p : Nat) (t : Int) : Same z s (State.pcvDead u p t) := by
  unfold State.pcvDead
  with_reducible repeat' (first | assumption | intro _ | apply State.put_same | apply State.setPcv_same | apply State.pcvSend_same | apply State.finishCmd_same | apply State.noRecord_same | apply ite_same | apply foldl_same | apply ite_same1 | apply foldl_same1 | split | refine pairSame1 (by assumption) ?_ | dsimp only)
theorem State.pcvNext_same {z : Bool} {s u : State} (h : Same z s u) (p : Nat) (t : Int) : Same z s (State.pcvNext u p t) := by
  unfold State.pcvNext
  with_reducible repeat' (first | assumption | intro _ | apply State.put_same | apply State.setPcv_same | apply State.pcvDead_same | apply ite_same | apply foldl_same | split | dsimp only)
theorem execPcvEntryEnd_same {z : Bool} {s u : State} (h : Same z s u) (p : Nat) (convs : List Conv) : OutSame z s (execPcvEntryEnd p convs u) := by
  unfold execPcvEntryEnd
  with_reducible repeat' (first | assumption | intro _ | apply State.pcvResult_same | apply State.pcvSend_same | apply State.setPcv_same | apply State.finishCmd_same | apply State.pcvNext_same | apply ite_same | apply foldl_same | apply ite_same2 | apply foldl_same2 | apply ite_same1 | apply foldl_same1 | apply outSame_next | apply ite_outSame | split | refine pairSame2 (by assumption) ?_ | refine pairSame1 (by assumption) ?_ | dsimp only)
theorem State.excLimit_same {z : Bool} {s u : State} (h : Same z s u) (q : Nat) (limit : Bool) : Same z s (State.excLimit u q limit) := by
  unfold State.excLimit
  with_reducible repeat' (first | assumption | intro _ | apply State.put_same | apply State.raise_same | apply ite_same | apply foldl_same | split | dsimp only)
theorem State.urgRefuse_same {z : Bool} {s u : State} (h : Same z s u) (p : Nat) (u0 : UrgReq) (code : Nat) : Same z s (State.urgRefuse u p u0 code) := by
  unfold State.urgRefuse
  with_reducible repeat' (first | assumption | intro _ | apply State.raise_same | apply State.bump_same | apply State.put_same | apply State.finishCmd_same | apply ite_same | apply foldl_same | split | dsimp only)
theorem execExcRampEnd_same {z : Bool} {s u : State} (h : Same z s u) (q : Nat) : OutSame z s (execExcRampEnd q u) := by
  unfold execExcRampEnd
  with_reducible repeat' (first | assumption | intro _ | apply State.put_same | apply ite_same | apply foldl_same | apply outSame_next | apply ite_outSame | split | dsimp only)
theorem execPcvMidscaleCheck_same {z : Bool} {s u : State} (h : Same z s u) (p : Nat) (err : Int) : OutSame z s (execPcvMidscaleCheck p err u) := by
  unfold execPcvMidscaleCheck
  with_reducible repeat' (first | assumption | intro _ | apply State.setPcv_same | apply State.put_same | apply State.raise_same | apply State.retirePcv_same | apply ite_same | apply foldl_same | apply outSame_next | apply ite_outSame | split | dsimp only)
theorem State.refCtlWrite_same {z : Bool} {s u : State} (h : Same z s u) (w : Wr) : Same z s (State.refCtlWrite u w) := by
  unfold State.refCtlWrite
  with_reducible repeat' (first | assumption | intro _ | apply State.put_same | apply State.raise_same | apply ite_same | apply foldl_same | split | dsimp only | apply same_fe)
theorem State.urgAbort_same {z : Bool} {s u : State} (h : Same z s u) (p : Nat) : Same z s (State.urgAbort u p) := by
  unfold State.urgAbort
  with_reducible repeat' (first | assumption | intro _ | apply State.setPcv_same | apply ite_same | apply foldl_same | split | dsimp only)
theorem State.pauseRecord_same {z : Bool} {s u : State} (h : Same z s u) (x : Pause) (len : Int) (p : Nat) : Same z s (State.pauseRecord u x len p) := by
  unfold State.pauseRecord
  with_reducible repeat' (first | assumption | intro _ | apply State.pcvSend_same | apply ite_same | apply foldl_same | apply ite_same1 | apply foldl_same1 | split | refine pairSame1 (by assumption) ?_ | dsimp only)
theorem State.pcvLeave_same {z : Bool} {s u : State} (h : Same z s u) (p : Nat) : Same z s (State.pcvLeave u p) := by
  unfold State.pcvLeave
  with_reducible repeat' (first | assumption | intro _ | apply State.put_same | apply State.setPcv_same | apply State.useSpare_same | apply State.raise_same | apply State.policyLog_same | apply State.spareExhausted_same | apply ite_same | apply foldl_same | split | dsimp only)
theorem execUrgentArrive_same {z : Bool} {s u : State} (h : Same z s u) (p : Nat) : OutSame z s (execUrgentArrive p u) := by
  unfold execUrgentArrive
  with_reducible repeat' (first | assumption | intro _ | apply State.setPcv_same | apply State.urgRefuse_same | apply State.put_same | apply State.pcvNext_same | apply State.urgAbort_same | apply ite_same | apply foldl_same | apply outSame_next | apply ite_outSame | split | dsimp only)
theorem State.urgRequest_same {z : Bool} {s u : State} (h : Same z s u) (p : Nat) (u0 : UrgReq) : Same z s (State.urgRequest u p u0) := by
  unfold State.urgRequest
  with_reducible repeat' (first | assumption | intro _ | apply State.setPcv_same | apply ite_same | apply foldl_same | split | dsimp only)
theorem State.urgTrigger_same {z : Bool} {s u : State} (h : Same z s u) (o : Nat) : Same z s (State.urgTrigger u o) := by
  unfold State.urgTrigger
  with_reducible repeat' (first | assumption | intro _ | apply State.urgRequest_same | apply ite_same | apply foldl_same | split | dsimp only)
theorem State.skipEntries_same {z : Bool} {s u : State} (h : Same z s u) (p : Nat) : Same z s (State.skipEntries u p) := by
  unfold State.skipEntries
  with_reducible repeat' (first | assumption | intro _ | apply State.noRecord_same | apply State.setPcv_same | apply State.raise_same | apply State.put_same | apply State.bump_same | apply ite_same | apply foldl_same | split | dsimp only)
theorem State.beginCycle_same {z : Bool} {s u : State} (h : Same z s u) (p : Nat) (k0 : Nat) : Same z s (State.beginCycle u p k0) := by
  unfold State.beginCycle
  with_reducible repeat' (first | assumption | intro _ | apply State.setPcv_same | apply ite_same | apply foldl_same | split | dsimp only)
theorem execPcvCycleStart_same {z : Bool} {s u : State} (h : Same z s u) (p : Nat) : OutSame z s (execPcvCycleStart p u) := by
  unfold execPcvCycleStart
  with_reducible repeat' (first | assumption | intro _ | apply State.pcvLeave_same | apply State.skipEntries_same | apply State.beginCycle_same | apply State.pcvNext_same | apply ite_same | apply foldl_same | apply outSame_next | apply ite_outSame | split | dsimp only)
theorem State.feRefuse_same {z : Bool} {s u : State} (h : Same z s u) (x : FeWait) (status : Nat) : Same z s (State.feRefuse u x status) := by
  unfold State.feRefuse
  with_reducible repeat' (first | assumption | intro _ | apply State.feSet_same | apply State.finishCmd_same | apply State.feCode_same | apply ite_same | apply foldl_same | split | dsimp only)
theorem State.shadowMask_same {z : Bool} {s u : State} (h : Same z s u) (v : SVal) : Same z s (State.shadowMask u v) := by
  unfold State.shadowMask
  with_reducible repeat' (first | assumption | intro _ | apply State.mergeRaw_same | apply ite_same | apply foldl_same | split | dsimp only)
theorem State.feSettled_same {z : Bool} {s u : State} (h : Same z s u) (x : FeWait) : Same z s (State.feSettled u x) := by
  unfold State.feSettled
  with_reducible repeat' (first | assumption | intro _ | apply State.finishCmd_same | apply State.feApply_same | apply State.feRefuse_same | apply State.sfeDirty_same | apply State.stage_same | apply State.shadowMask_same | apply ite_same | apply foldl_same | split | dsimp only | apply same_cmds)
theorem State.pcvUrgWrite_same {z : Bool} {s u : State} (h : Same z s u) (p : Nat) (w : Wr) : Same z s (State.pcvUrgWrite u p w) := by
  unfold State.pcvUrgWrite
  with_reducible repeat' (first | assumption | intro _ | apply State.mergeRaw_same | apply State.urgRequest_same | apply State.put_same | apply State.refuseDom_same | apply ite_same | apply foldl_same | split | dsimp only)
theorem execPcvUrgGo_same {z : Bool} {s u : State} (h : Same z s u) (p : Nat) (w : Wr) : OutSame z s (execPcvUrgGo p w u) := by
  unfold execPcvUrgGo
  with_reducible repeat' (first | assumption | intro _ | apply State.pfOnly_same | apply State.pcvUrgWrite_same | apply ite_same | apply foldl_same | apply outSame_next | apply ite_outSame | split | dsimp only)
theorem execCurrentLimit_same {z : Bool} {s u : State} (h : Same z s u) (q : Nat) : OutSame z s (execCurrentLimit q u) := by
  unfold execCurrentLimit
  with_reducible repeat' (first | assumption | intro _ | apply State.excLimit_same | apply ite_same | apply foldl_same | apply outSame_next | apply ite_outSame | split | dsimp only)
theorem execPauseEnd_same {z : Bool} {s u : State} (h : Same z s u) : OutSame z s (execPauseEnd u) := by
  unfold execPauseEnd
  with_reducible repeat' (first | assumption | intro _ | apply State.pauseRecord_same | apply State.raise_same | apply State.pcvNext_same | apply ite_same | apply foldl_same | apply outSame_next | apply ite_outSame | split | dsimp only | apply same_fe)
theorem execExcRangeSettled_same {z : Bool} {s u : State} (h : Same z s u) (q : Nat) : OutSame z s (execExcRangeSettled q u) := by
  unfold execExcRangeSettled
  with_reducible repeat' (first | assumption | intro _ | apply State.put_same | apply State.feSettled_same | apply ite_same | apply foldl_same | apply outSame_next | apply ite_outSame | split | dsimp only | apply same_fe)
theorem State.feStop_same {z : Bool} {s u : State} (h : Same z s u) : Same z s (State.feStop u) := by
  unfold State.feStop
  with_reducible repeat' (first | assumption | intro _ | apply State.put_same | apply State.setPcv_same | apply State.feSet_same | apply State.finishCmd_same | apply ite_same | apply foldl_same | split | dsimp only | apply same_fe)
theorem State.applyFe_same {z : Bool} {s u : State} (h : Same z s u) (k0 : Nat) (x : Staged) : Same z s (State.applyFe u k0 x) := by
  unfold State.applyFe
  with_reducible repeat' (first | assumption | intro _ | apply State.unstage_same | apply State.feStop_same | apply State.setPcv_same | apply State.feApply_same | apply State.feSet_same | apply ite_same | apply foldl_same | split | dsimp only)
theorem execExcSenseMeasure_same {z : Bool} {s u : State} (h : Same z s u) (q : Nat) (sense : Nat) (limit : Bool) : OutSame z s (execExcSenseMeasure q sense limit u) := by
  unfold execExcSenseMeasure
  with_reducible repeat' (first | assumption | intro _ | apply State.excLimit_same | apply State.put_same | apply State.setExc_same | apply State.raise_same | apply ite_same | apply foldl_same | apply outSame_next | apply ite_outSame | split | dsimp only)
theorem execPcvRefEnWrite_same {z : Bool} {s u : State} (h : Same z s u) (w : Wr) : OutSame z s (execPcvRefEnWrite w u) := by
  unfold execPcvRefEnWrite
  with_reducible repeat' (first | assumption | intro _ | apply State.pfOnly_same | apply State.refCtlWrite_same | apply ite_same | apply foldl_same | apply outSame_next | apply ite_outSame | split | dsimp only)
theorem State.stageUser_same {z : Bool} {s u : State} (h : Same z s u) (j : NvmJob) (status : Nat) : Same z s (State.stageUser u j status) := by
  unfold State.stageUser
  with_reducible repeat' (first | assumption | intro _ | apply State.forceVals_same | apply State.finishCmd_same | apply State.stage_same | apply ite_same | apply foldl_same | split | dsimp only | apply same_cmds)
theorem State.setTrimCopy_same {s u : State} (h : Same false s u) (n : Nat) (c : Nat) (x : TrimCopy) : Same false s (State.setTrimCopy u n c x) := ⟨h.1, h.2, h.3, h.4, h.5, nofun, nofun, nofun⟩
theorem State.showCopies_same {z : Bool} {s u : State} (h : Same z s u) (n : Nat) (a : Bool) (b : Bool) : Same z s (State.showCopies u n a b) := by
  unfold State.showCopies
  with_reducible repeat' (first | assumption | intro _ | apply State.put_same | apply ite_same | apply foldl_same | split | dsimp only)
theorem State.loadCopy_same {z : Bool} {s u : State} (h : Same z s u) (n : Nat) (c : Nat) : Same z s (State.loadCopy u n c) := by
  unfold State.loadCopy
  with_reducible repeat' (first | assumption | intro _ | apply State.setTrim_same | apply State.wn_same | apply State.put_same | apply ite_same | apply foldl_same | split | dsimp only | apply same_trimImg)
theorem State.copyBad_same {z : Bool} {s u : State} (h : Same z s u) (n : Nat) (c : Nat) : Same z s (State.copyBad u n c) := by
  unfold State.copyBad
  with_reducible repeat' (first | assumption | intro _ | apply State.raise_same | apply State.put_same | apply ite_same | apply foldl_same | split | dsimp only)
theorem State.loadPage_same {z : Bool} {s u : State} (h : Same z s u) (n : Nat) : Same z s (State.loadPage u n) := by
  unfold State.loadPage
  with_reducible repeat' (first | assumption | intro _ | apply State.showCopies_same | apply State.loadCopy_same | apply State.copyBad_same | apply State.raise_same | apply State.put_same | apply ite_same | apply foldl_same | split | dsimp only)
theorem execTrimPageLoad_same {s u : State} (h : Same false s u) (n : Nat) (badA : Bool) (badB : Bool) : OutSame false s (execTrimPageLoad n badA badB u) := by
  unfold execTrimPageLoad
  with_reducible repeat' (first | assumption | intro _ | apply State.setTrimCopy_same | apply State.loadPage_same | apply State.put_same | apply ite_same | apply foldl_same | apply outSame_next | apply ite_outSame | split | dsimp only | apply same_trimLoaded)
theorem State.copyShow_same {z : Bool} {s u : State} (h : Same z s u) (n : Nat) (c : Nat) (ok : Bool) : Same z s (State.copyShow u n c ok) := by
  unfold State.copyShow
  with_reducible repeat' (first | assumption | intro _ | apply State.put_same | apply ite_same | apply foldl_same | split | dsimp only)
theorem State.jobDone_same {s u : State} (h : Same false s u) (j : NvmJob) : Same false s (State.jobDone u j) := by
  unfold State.jobDone
  with_reducible repeat' (first | assumption | intro _ | apply State.copyShow_same | apply State.setTrimCopy_same | apply State.raise_same | apply State.stageUser_same | apply State.finishCmd_same | apply ite_same | apply foldl_same | split | dsimp only | apply same_nvm | apply same_linCopies)
theorem State.dropMeas_same {z : Bool} {s u : State} (h : Same z s u) (action : Nat) : Same z s (State.dropMeas u action) := by
  unfold State.dropMeas
  with_reducible repeat' (first | assumption | intro _ | apply ite_same | apply foldl_same | split | dsimp only | apply same_calMeas)
theorem execCalMeasureDone_same {z : Bool} {s u : State} (h : Same z s u) (conv : Nat) (zero : List Conv) (ref : List Conv) (temp : Int) : OutSame z s (execCalMeasureDone conv zero ref temp u) := by
  unfold execCalMeasureDone
  with_reducible repeat' (first | assumption | intro _ | apply State.dropMeas_same | apply State.finishCmd_same | apply State.pcvCodes_same | apply State.raise_same | apply ite_same | apply foldl_same | apply ite_same2 | apply foldl_same2 | apply outSame_next | apply ite_outSame | split | refine pairSame2 (by assumption) ?_ | dsimp only)
theorem State.mramRemap_same {z : Bool} {s u : State} (h : Same z s u) (sector : Nat) : Same z s (State.mramRemap u sector) := by
  unfold State.mramRemap
  with_reducible repeat' (first | assumption | intro _ | apply State.useSpare_same | apply ite_same | apply foldl_same | split | dsimp only | apply same_mramMap)
theorem State.mramFail_same {z : Bool} {s u : State} (h : Same z s u) (fault : Nat) (sector : Nat) : Same z s (State.mramFail u fault sector).1 := by
  unfold State.mramFail
  with_reducible repeat' (first | assumption | intro _ | apply State.raise_same | apply State.spareExhausted_same | apply State.mramRemap_same | apply ite_same | apply foldl_same | apply ite_same1 | apply foldl_same1 | split | dsimp only | apply same_mramBad)
theorem State.pageWin_same {z : Bool} {s u : State} (h : Same z s u) (off : Nat) : Same z s (State.pageWin u off).2 := by
  unfold State.pageWin
  with_reducible repeat' (first | assumption | intro _ | apply State.draw_same | apply ite_same | apply foldl_same | apply ite_same2 | apply foldl_same2 | split | refine pairSame2 (by assumption) ?_ | dsimp only)
theorem State.calRecheck_same {z : Bool} {s u : State} (h : Same z s u) : Same z s (State.calRecheck u) := by
  unfold State.calRecheck
  with_reducible repeat' (first | assumption | intro _ | apply State.finishCmd_same | apply State.dropMeas_same | apply ite_same | apply foldl_same | split | dsimp only)
theorem State.jobFailed_same {s u : State} (h : Same false s u) (j : NvmJob) : Same false s (State.jobFailed u j) := by
  unfold State.jobFailed
  with_reducible repeat' (first | assumption | intro _ | apply State.put_same | apply State.copyShow_same | apply State.setTrimCopy_same | apply State.finishCmd_same | apply State.stageUser_same | apply ite_same | apply foldl_same | split | dsimp only | apply same_linCopies)
theorem execNvmCopyWritten_same {s u : State} (h : Same false s u) (ok : Bool) : OutSame false s (execNvmCopyWritten ok u) := by
  unfold execNvmCopyWritten
  with_reducible repeat' (first | assumption | intro _ | apply State.jobDone_same | apply State.bump_same | apply State.mramFail_same | apply State.raise_same | apply State.jobFailed_same | apply ite_same | apply foldl_same | apply ite_same1 | apply foldl_same1 | apply outSame_next | apply ite_outSame | split | refine pairSame1 (by assumption) ?_ | dsimp only | apply same_nvm)
theorem State.followRate_same {z : Bool} {s u : State} (h : Same z s u) (old : TimeBase) : Same z s (State.followRate u old) := by
  unfold State.followRate
  with_reducible repeat' (first | assumption | intro _ | apply State.followGroup_same | apply ite_same | apply foldl_same | split | dsimp only | apply same_grps)
theorem State.abortSlew_same {z : Bool} {s u : State} (h : Same z s u) : Same z s (State.abortSlew u) := by
  unfold State.abortSlew
  with_reducible repeat' (first | assumption | intro _ | apply State.followRate_same | apply State.put_same | apply State.wr64_same | rfl | exact reanchor_fc _ | exact reanchor_locked _ | contradiction | apply ite_same | apply foldl_same | split | dsimp only | apply same_tb)
theorem State.setTState_same {z : Bool} {s u : State} (h : Same z s u) (new : Nat) : Same z s (State.setTState u new) := by
  unfold State.setTState
  with_reducible repeat' (first | assumption | intro _ | apply State.raise_same | apply State.put_same | apply ite_same | apply foldl_same | split | dsimp only)
theorem State.toHoldover_same {z : Bool} {s u : State} (h : Same z s u) : Same z s (State.toHoldover u) := by
  unfold State.toHoldover
  with_reducible repeat' (first | assumption | intro _ | apply State.put_same | apply State.setTState_same | rfl | exact reanchor_fc _ | exact reanchor_locked _ | contradiction | apply ite_same | apply foldl_same | split | dsimp only | apply same_tb)
theorem State.ageFold_same {z : Bool} {s u : State} (h : Same z s u) : Same z s (State.ageFold u) := by
  unfold State.ageFold
  with_reducible repeat' (first | assumption | intro _ | apply State.followRate_same | apply State.raise_same | rfl | exact reanchor_fc _ | exact reanchor_locked _ | exact reanchorAt_fc _ _ | exact reanchorAt_locked _ _ | contradiction | apply ite_same | apply foldl_same | split | dsimp only | apply same_tb)
theorem State.foldDue_same {z : Bool} {s u : State} (h : Same z s u) : Same z s (State.foldDue u) := by
  unfold State.foldDue
  with_reducible repeat' (first | assumption | intro _ | apply State.ageFold_same | apply ite_same | apply foldl_same | split | dsimp only)
theorem State.changeSource_same {z : Bool} {s u : State} (h : Same z s u) (oldSrc : Nat) : Same z s (State.changeSource u oldSrc) := by
  unfold State.changeSource
  with_reducible repeat' (first | assumption | intro _ | apply State.abortSlew_same | apply State.toHoldover_same | apply State.put_same | apply State.foldDue_same | rfl | exact reanchor_fc _ | exact reanchor_locked _ | contradiction | apply ite_same | apply foldl_same | split | dsimp only | apply same_tb)
theorem State.declareChange_same {z : Bool} {s u : State} (h : Same z s u) : Same z s (State.declareChange u) := by
  unfold State.declareChange
  with_reducible repeat' (first | assumption | intro _ | apply State.toHoldover_same | apply State.raise_same | apply ite_same | apply foldl_same | split | dsimp only)
theorem State.discWrite_same {z : Bool} {s u : State} (h : Same z s u) (w : Wr) : Same z s (State.discWrite u w) := by
  unfold State.discWrite
  with_reducible repeat' (first | assumption | intro _ | apply State.reservedHit_same | apply State.mergeRaw_same | apply State.flushHeld_same | apply State.changeSource_same | apply State.declareChange_same | apply ite_same | apply foldl_same | split | dsimp only)
theorem execSrcChangeDeclare_same {z : Bool} {s u : State} (h : Same z s u) (w : Wr) : OutSame z s (execSrcChangeDeclare w u) := by
  unfold execSrcChangeDeclare
  with_reducible repeat' (first | assumption | intro _ | apply State.discWrite_same | apply ite_same | apply foldl_same | apply outSame_next | apply ite_outSame | split | dsimp only)
theorem State.toTraced_same {z : Bool} {s u : State} (h : Same z s u) : Same z s (State.toTraced u) := by
  unfold State.toTraced
  with_reducible repeat' (first | assumption | intro _ | apply State.put_same | apply State.setTState_same | rfl | exact reanchor_fc _ | exact reanchor_locked _ | contradiction | apply ite_same | apply foldl_same | split | dsimp only | apply same_tb)
theorem State.adjApply_same {z : Bool} {s u : State} (h : Same z s u) (o : AdjOps) (rate : Int) (amt : Int) (ppb : Nat) : Same z s (State.adjApply u o rate amt ppb) := by
  unfold State.adjApply
  extract_lets s1 e1 s2 t s3 e3 s4 e4
  have h1 : Same z s s1 := by
    dsimp only [s1]
    with_reducible repeat' (first | assumption | intro _ | apply State.abortSlew_same | apply State.followRate_same | apply State.raise_same | apply State.wr64_same | apply State.put_same | apply State.toTraced_same | rfl | exact reanchor_fc _ | exact reanchor_locked _ | contradiction | apply ite_same | apply foldl_same | split | dsimp only | apply same_tb)
  clear_value s1
  have h2 : Same z s s2 := by
    dsimp only [s2, e1]
    with_reducible repeat' (first | assumption | intro _ | apply State.abortSlew_same | apply State.followRate_same | apply State.raise_same | apply State.wr64_same | apply State.put_same | apply State.toTraced_same | rfl | exact reanchor_fc _ | exact reanchor_locked _ | contradiction | apply ite_same | apply foldl_same | split | dsimp only | apply same_tb)
  clear_value s2
  have h3 : Same z s s3 := by
    dsimp only [s3, t]
    with_reducible repeat' (first | assumption | intro _ | apply State.abortSlew_same | apply State.followRate_same | apply State.raise_same | apply State.wr64_same | apply State.put_same | apply State.toTraced_same | rfl | exact reanchor_fc _ | exact reanchor_locked _ | contradiction | apply ite_same | apply foldl_same | split | dsimp only | apply same_tb)
  clear_value s3
  have h4 : Same z s s4 := by
    dsimp only [s4, e3]
    with_reducible repeat' (first | assumption | intro _ | apply State.abortSlew_same | apply State.followRate_same | apply State.raise_same | apply State.wr64_same | apply State.put_same | apply State.toTraced_same | rfl | exact reanchor_fc _ | exact reanchor_locked _ | contradiction | apply ite_same | apply foldl_same | split | dsimp only | apply same_tb)
  clear_value s4
  dsimp only [e4]
  with_reducible repeat' (first | assumption | intro _ | apply State.abortSlew_same | apply State.followRate_same | apply State.raise_same | apply State.wr64_same | apply State.put_same | apply State.toTraced_same | rfl | exact reanchor_fc _ | exact reanchor_locked _ | contradiction | apply ite_same | apply foldl_same | split | dsimp only | apply same_tb)
theorem State.adjGo_same {z : Bool} {s u : State} (h : Same z s u) : Same z s (State.adjGo u) := by
  unfold State.adjGo
  with_reducible repeat' (first | assumption | intro _ | apply State.adjApply_same | apply State.put_same | apply State.foldDue_same | apply ite_same | apply foldl_same | split | dsimp only)
theorem State.adjWrite_same {z : Bool} {s u : State} (h : Same z s u) (w : Wr) : Same z s (State.adjWrite u w) := by
  unfold State.adjWrite
  with_reducible repeat' (first | assumption | intro _ | apply State.reservedHit_same | apply State.raise_same | apply State.mergeRaw_same | apply State.flushHeld_same | apply State.adjGo_same | apply ite_same | apply foldl_same | split | dsimp only)
theorem execAdjTrace_same {z : Bool} {s u : State} (h : Same z s u) (w : Wr) : OutSame z s (execAdjTrace w u) := by
  unfold execAdjTrace
  with_reducible repeat' (first | assumption | intro _ | apply State.adjWrite_same | apply ite_same | apply foldl_same | apply outSame_next | apply ite_outSame | split | dsimp only)
theorem execAdjAbort_same {z : Bool} {s u : State} (h : Same z s u) (w : Wr) : OutSame z s (execAdjAbort w u) := by
  unfold execAdjAbort
  with_reducible repeat' (first | assumption | intro _ | apply State.adjWrite_same | apply ite_same | apply foldl_same | apply outSame_next | apply ite_outSame | split | dsimp only)
theorem execAgeingFold_same {z : Bool} {s u : State} (h : Same z s u) : OutSame z s (execAgeingFold u) := by
  unfold execAgeingFold
  with_reducible repeat' (first | assumption | intro _ | apply State.ageFold_same | apply ite_same | apply foldl_same | apply outSame_next | apply ite_outSame | split | dsimp only)
theorem execTbNowFracRead_same {z : Bool} {s u : State} (h : Same z s u) (fn : Nat) : OutSame z s (execTbNowFracRead fn u) := by
  unfold execTbNowFracRead
  with_reducible repeat' (first | assumption | intro _ | apply State.flushHeld_same | apply State.wn_same | apply State.wr64_same | apply State.emit_same | apply State.readReserved_same | apply ite_same | apply foldl_same | apply outSame_next | apply ite_outSame | split | dsimp only)
theorem execAdjRateChange_same {z : Bool} {s u : State} (h : Same z s u) (w : Wr) : OutSame z s (execAdjRateChange w u) := by
  unfold execAdjRateChange
  with_reducible repeat' (first | assumption | intro _ | apply State.adjWrite_same | apply ite_same | apply foldl_same | apply outSame_next | apply ite_outSame | split | dsimp only)
theorem execServoCorrection_same {z : Bool} {s u : State} (h : Same z s u) (op : ServoOp) : OutSame z s (execServoCorrection op u) := by
  unfold execServoCorrection
  with_reducible repeat' (first | assumption | intro _ | apply State.adjApply_same | apply State.foldDue_same | rfl | exact reanchor_fc _ | exact reanchor_locked _ | contradiction | apply ite_same | apply foldl_same | apply outSame_next | apply ite_outSame | split | dsimp only | apply same_tb)
theorem State.popStamp_same {z : Bool} {s u : State} (h : Same z s u) (fn : Nat) (m0 : Nat) : Same z s (State.popStamp u fn m0) := by
  unfold State.popStamp
  with_reducible repeat' (first | assumption | intro _ | apply State.wn_same | apply State.emit_same | apply ite_same | apply foldl_same | split | dsimp only | apply same_txts)
theorem State.measure_same {z : Bool} {s u : State} (h : Same z s u) (ok : Bool) : Same z s (State.measure u ok) := by
  unfold State.measure
  with_reducible repeat' (first | assumption | intro _ | apply State.toTraced_same | rfl | exact reanchor_fc _ | exact reanchor_locked _ | contradiction | apply ite_same | apply foldl_same | split | dsimp only | apply same_tb)
theorem State.measurePhase_same {z : Bool} {s u : State} (h : Same z s u) (err : Int) : Same z s (State.measurePhase u err) := by
  unfold State.measurePhase
  with_reducible repeat' (first | assumption | intro _ | apply State.measure_same | rfl | exact reanchor_fc _ | exact reanchor_locked _ | contradiction | apply ite_same | apply foldl_same | split | dsimp only | apply same_tb)
theorem State.ppsEdge_same {z : Bool} {s u : State} (h : Same z s u) (t : Int) : Same z s (State.ppsEdge u t) := by
  unfold State.ppsEdge
  with_reducible repeat' (first | assumption | intro _ | apply State.measurePhase_same | apply State.put_same | apply State.toHoldover_same | apply State.raise_same | rfl | exact reanchor_fc _ | exact reanchor_locked _ | contradiction | apply ite_same | apply foldl_same | split | dsimp only | apply same_tb)
theorem execPpsInEdge_same {z : Bool} {s u : State} (h : Same z s u) (i : Nat) : OutSame z s (execPpsInEdge i u) := by
  unfold execPpsInEdge
  with_reducible repeat' (first | assumption | intro _ | apply State.freqEdge_same | apply State.ppsEdge_same | apply ite_same | apply foldl_same | apply outSame_next | apply ite_outSame | split | dsimp only)
theorem execTbTxtsPop_same {z : Bool} {s u : State} (h : Same z s u) (fn : Nat) (m0 : Nat) : OutSame z s (execTbTxtsPop fn m0 u) := by
  unfold execTbTxtsPop
  with_reducible repeat' (first | assumption | intro _ | apply State.flushHeld_same | apply State.popStall_same | apply State.popStamp_same | apply State.readReserved_same | apply ite_same | apply foldl_same | apply outSame_next | apply ite_outSame | split | dsimp only)
theorem execRef10mLost_same {z : Bool} {s u : State} (h : Same z s u) : OutSame z s (execRef10mLost u) := by
  unfold execRef10mLost
  with_reducible repeat' (first | assumption | intro _ | apply State.raise_same | apply State.put_same | rfl | exact reanchor_fc _ | exact reanchor_locked _ | contradiction | apply ite_same | apply foldl_same | apply outSame_next | apply ite_outSame | split | dsimp only | apply same_tb)
theorem State.txStamp_same {z : Bool} {s u : State} (h : Same z s u) (m0 : Nat) (x : TxStamp) : Same z s (State.txStamp u m0 x) := by
  unfold State.txStamp
  with_reducible repeat' (first | assumption | intro _ | apply State.popStamp_same | apply State.popResume_same | apply State.put_same | apply State.bump_same | apply State.raise_same | apply ite_same | apply foldl_same | split | dsimp only | apply same_txts)
theorem execPhaseUnlock_same {z : Bool} {s u : State} (h : Same z s u) : OutSame z s (execPhaseUnlock u) := by
  unfold execPhaseUnlock
  with_reducible repeat' (first | assumption | intro _ | apply State.raise_same | apply State.put_same | apply ite_same | apply foldl_same | apply outSame_next | apply ite_outSame | split | dsimp only)
theorem execPhaseRelock_same {z : Bool} {s u : State} (h : Same z s u) : OutSame z s (execPhaseRelock u) := by
  unfold execPhaseRelock
  with_reducible repeat' (first | assumption | intro _ | apply State.put_same | apply ite_same | apply foldl_same | apply outSame_next | apply ite_outSame | split | dsimp only)
theorem execAdjSlewStart_same {z : Bool} {s u : State} (h : Same z s u) (w : Wr) : OutSame z s (execAdjSlewStart w u) := by
  unfold execAdjSlewStart
  with_reducible repeat' (first | assumption | intro _ | apply State.adjWrite_same | apply ite_same | apply foldl_same | apply outSame_next | apply ite_outSame | split | dsimp only)
theorem execAdjStep_same {z : Bool} {s u : State} (h : Same z s u) (w : Wr) : OutSame z s (execAdjStep w u) := by
  unfold execAdjStep
  with_reducible repeat' (first | assumption | intro _ | apply State.adjWrite_same | apply ite_same | apply foldl_same | apply outSame_next | apply ite_outSame | split | dsimp only)
theorem execHostTraceTimeout_same {z : Bool} {s u : State} (h : Same z s u) : OutSame z s (execHostTraceTimeout u) := by
  unfold execHostTraceTimeout
  with_reducible repeat' (first | assumption | intro _ | apply State.toHoldover_same | apply ite_same | apply foldl_same | apply outSame_next | apply ite_outSame | split | dsimp only)
theorem execPpsLost_same {z : Bool} {s u : State} (h : Same z s u) : OutSame z s (execPpsLost u) := by
  unfold execPpsLost
  with_reducible repeat' (first | assumption | intro _ | apply State.toHoldover_same | apply State.put_same | apply ite_same | apply foldl_same | apply outSame_next | apply ite_outSame | split | dsimp only)
theorem execRef10mReturn_same {z : Bool} {s u : State} (h : Same z s u) : OutSame z s (execRef10mReturn u) := by
  unfold execRef10mReturn
  with_reducible repeat' (first | assumption | intro _ | apply State.put_same | rfl | exact reanchor_fc _ | exact reanchor_locked _ | contradiction | apply ite_same | apply foldl_same | apply outSame_next | apply ite_outSame | split | dsimp only | apply same_tb)
theorem execHoldoverLimit_same {z : Bool} {s u : State} (h : Same z s u) : OutSame z s (execHoldoverLimit u) := by
  unfold execHoldoverLimit
  with_reducible repeat' (first | assumption | intro _ | apply State.raise_same | apply State.put_same | rfl | exact reanchor_fc _ | exact reanchor_locked _ | contradiction | apply ite_same | apply foldl_same | apply outSame_next | apply ite_outSame | split | dsimp only | apply same_tb)
theorem execSourceQualified_same {z : Bool} {s u : State} (h : Same z s u) : OutSame z s (execSourceQualified u) := by
  unfold execSourceQualified
  with_reducible repeat' (first | assumption | intro _ | apply State.toTraced_same | apply ite_same | apply foldl_same | apply outSame_next | apply ite_outSame | split | dsimp only)
theorem execSlewDone_same {z : Bool} {s u : State} (h : Same z s u) : OutSame z s (execSlewDone u) := by
  unfold execSlewDone
  with_reducible repeat' (first | assumption | intro _ | apply State.followRate_same | apply State.put_same | apply State.wr64_same | apply State.raise_same | apply State.foldDue_same | rfl | exact reanchor_fc _ | exact reanchor_locked _ | contradiction | apply ite_same | apply foldl_same | apply outSame_next | apply ite_outSame | split | dsimp only | apply same_tb)
theorem execChangeOfSource_same {z : Bool} {s u : State} (h : Same z s u) (w : Wr) : OutSame z s (execChangeOfSource w u) := by
  unfold execChangeOfSource
  with_reducible repeat' (first | assumption | intro _ | apply State.discWrite_same | apply ite_same | apply foldl_same | apply outSame_next | apply ite_outSame | split | dsimp only)
theorem State.pqClear_same {z : Bool} {s u : State} (h : Same z s u) (n : Nat) : Same z s (State.pqClear u n) := by
  unfold State.pqClear
  with_reducible repeat' (first | assumption | intro _ | apply ite_same | apply foldl_same | split | dsimp only | apply same_txts | apply same_tagQ | apply same_stageQ | apply same_monQ)
theorem State.pqFlush_same {z : Bool} {s u : State} (h : Same z s u) (n : Nat) (part : Bool) : Same z s (State.pqFlush u n part) := by
  unfold State.pqFlush
  with_reducible repeat' (first | assumption | intro _ | apply State.pqClear_same | apply State.bump_same | apply State.put_same | apply ite_same | apply foldl_same | split | dsimp only)
theorem State.zeroWords_same {z : Bool} {s u : State} (h : Same z s u) (off : Nat) (n : Nat) : Same z s (State.zeroWords u off n) := by
  unfold State.zeroWords
  with_reducible repeat' (first | assumption | intro _ | apply State.wn_same | apply ite_same | apply foldl_same | split | dsimp only)
theorem execPopStallTimeout_same {z : Bool} {s u : State} (h : Same z s u) (n : Nat) : OutSame z s (execPopStallTimeout n u) := by
  unfold execPopStallTimeout
  with_reducible repeat' (first | assumption | intro _ | apply State.emit_same | apply State.zeroWords_same | apply State.popResume_same | apply ite_same | apply foldl_same | apply outSame_next | apply ite_outSame | split | dsimp only)
theorem State.pqCtlWrite_same {z : Bool} {s u : State} (h : Same z s u) (n : Nat) (part : Bool) (w : Wr) : Same z s (State.pqCtlWrite u n part w) := by
  unfold State.pqCtlWrite
  with_reducible repeat' (first | assumption | intro _ | apply State.wn_same | apply State.raise_same | apply State.pqFlush_same | apply ite_same | apply foldl_same | split | dsimp only)
theorem execPqFlush_same {z : Bool} {s u : State} (h : Same z s u) (n : Nat) (part : Bool) (w : Wr) : OutSame z s (execPqFlush n part w u) := by
  unfold execPqFlush
  with_reducible repeat' (first | assumption | intro _ | apply State.pfOnly_same | apply State.pqCtlWrite_same | apply ite_same | apply foldl_same | apply outSame_next | apply ite_outSame | split | dsimp only)
theorem State.pqLostWrite_same {z : Bool} {s u : State} (h : Same z s u) (n : Nat) (w : Wr) : Same z s (State.pqLostWrite u n w) := by
  unfold State.pqLostWrite
  with_reducible repeat' (first | assumption | intro _ | apply State.wn_same | apply ite_same | apply foldl_same | split | dsimp only)
theorem State.popMon_same {z : Bool} {s u : State} (h : Same z s u) (fn : Nat) (j : Nat) : Same z s (State.popMon u fn j) := by
  unfold State.popMon
  with_reducible repeat' (first | assumption | intro _ | apply State.wn_same | apply State.emit_same | apply ite_same | apply foldl_same | split | dsimp only | apply same_monQ_monLost)
theorem execSysPqMonPop_same {z : Bool} {s u : State} (h : Same z s u) (fn : Nat) (j : Nat) : OutSame z s (execSysPqMonPop fn j u) := by
  unfold execSysPqMonPop
  with_reducible repeat' (first | assumption | intro _ | apply State.flushHeld_same | apply State.popStall_same | apply State.popMon_same | apply State.readReserved_same | apply ite_same | apply foldl_same | apply outSame_next | apply ite_outSame | split | dsimp only)
theorem State.offerMon_same {z : Bool} {s u : State} (h : Same z s u) (j : Nat) (x : Snapshot) : Same z s (State.offerMon u j x) := by
  unfold State.offerMon
  have k1 := same_monQ h (mapPut [] j (pqOffer (u.isSet (SYS_PQ_CTL_POLICY (33 + j))) 256 (mapGet [] j u.monQ) x).1 u.monQ)
  have k2 := ite_same (c := (pqOffer (u.isSet (SYS_PQ_CTL_POLICY (33 + j))) 256 (mapGet [] j u.monQ) x).2 = true)
    (State.pqLose_same (same_monLost k1 (j :: u.monLost.erase j)) (33 + j)) k1
  revert k2
  dsimp only
  intro k2
  split
  · exact k2
  · exact State.popMon_same (State.popResume_same k2 _) _ _
theorem State.showTrgDrive_same {z : Bool} {s u : State} (h : Same z s u) (n : Nat) : Same z s (State.showTrgDrive u n) := by
  unfold State.showTrgDrive
  with_reducible repeat' (first | assumption | intro _ | apply State.put_same | apply ite_same | apply foldl_same | split | dsimp only)
theorem State.setSig_same {z : Bool} {s u : State} (h : Same z s u) (n : Nat) (x : SigOut) : Same z s (State.setSig u n x) := by
  unfold State.setSig
  with_reducible repeat' (first | assumption | intro _ | apply ite_same | apply foldl_same | split | dsimp only | apply same_sigs)
theorem State.pinLevel_same {z : Bool} {s u : State} (h : Same z s u) (n : Nat) (level : Nat) : Same z s (State.pinLevel u n level) := by
  unfold State.pinLevel
  with_reducible repeat' (first | assumption | intro _ | apply State.put_same | apply ite_same | apply foldl_same | split | dsimp only | apply same_injects)
theorem State.pinDrive_same {z : Bool} {s u : State} (h : Same z s u) (n : Nat) (active : Bool) : Same z s (State.pinDrive u n active) := by
  unfold State.pinDrive
  with_reducible repeat' (first | assumption | intro _ | apply State.pinLevel_same | apply ite_same | apply foldl_same | split | dsimp only)
theorem State.sigCfgWrite_same {z : Bool} {s u : State} (h : Same z s u) (n : Nat) (w : Wr) : Same z s (State.sigCfgWrite u n w) := by
  unfold State.sigCfgWrite
  with_reducible repeat' (first | assumption | intro _ | apply State.raise_same | apply State.put_same | apply State.mergeRaw_same | apply State.setSig_same | apply State.pinDrive_same | apply ite_same | apply foldl_same | split | dsimp only)
theorem State.xferWrite_same {z : Bool} {s u : State} (h : Same z s u) (w : Wr) : Same z s (State.xferWrite u w) := by
  unfold State.xferWrite
  with_reducible repeat' (first | assumption | intro _ | apply State.mergeRaw_same | apply State.refuseDom_same | apply State.put_same | apply State.emit_same | apply ite_same | apply foldl_same | split | dsimp only | apply same_mgb)
theorem State.sigOfsWrite_same {z : Bool} {s u : State} (h : Same z s u) (n : Nat) (w : Wr) : Same z s (State.sigOfsWrite u n w) := by
  unfold State.sigOfsWrite
  with_reducible repeat' (first | assumption | intro _ | apply State.raise_same | apply State.mergeRaw_same | apply State.setSig_same | apply ite_same | apply foldl_same | split | dsimp only)
theorem State.edgePush_same {z : Bool} {s u : State} (h : Same z s u) : Same z s (State.edgePush u) := by
  unfold State.edgePush
  with_reducible repeat' (first | assumption | intro _ | apply State.put_same | apply State.raise_same | apply State.setSig_same | apply ite_same | apply foldl_same | split | dsimp only | apply same_mgb)
theorem State.busCode_same {z : Bool} {s u : State} (h : Same z s u) (k0 : Nat) (code : Nat) : Same z s (State.busCode u k0 code) := by
  unfold State.busCode
  with_reducible repeat' (first | assumption | intro _ | apply State.bump_same | apply State.raise_same | apply ite_same | apply foldl_same | split | dsimp only | apply same_mgb)
theorem execMgbPoll_same {z : Bool} {s u : State} (h : Same z s u) (i : Nat) (code : Nat) (val : Nat) : OutSame z s (execMgbPoll i code val u) := by
  unfold execMgbPoll
  with_reducible repeat' (first | assumption | intro _ | apply State.put_same | apply State.busCode_same | apply State.emit_same | apply ite_same | apply foldl_same | apply outSame_next | apply ite_outSame | split | dsimp only | apply same_mgb)
theorem execMgbSigCfgWrite_same {z : Bool} {s u : State} (h : Same z s u) (n : Nat) (w : Wr) : OutSame z s (execMgbSigCfgWrite n w u) := by
  unfold execMgbSigCfgWrite
  with_reducible repeat' (first | assumption | intro _ | apply State.pfOnly_same | apply State.sigCfgWrite_same | apply ite_same | apply foldl_same | apply outSame_next | apply ite_outSame | split | dsimp only)
theorem execFrameMarkerEnd_same {z : Bool} {s u : State} (h : Same z s u) (n : Nat) : OutSame z s (execFrameMarkerEnd n u) := by
  unfold execFrameMarkerEnd
  with_reducible repeat' (first | assumption | intro _ | apply State.pinDrive_same | apply State.setSig_same | apply ite_same | apply foldl_same | apply outSame_next | apply ite_outSame | split | dsimp only)
theorem State.alertRead_same {z : Bool} {s u : State} (h : Same z s u) (addr : Option Nat) : Same z s (State.alertRead u addr) := by
  unfold State.alertRead
  with_reducible repeat' (first | assumption | intro _ | apply State.raise_same | apply State.put_same | apply State.emit_same | apply ite_same | apply foldl_same | split | dsimp only | apply same_mgb)
theorem execMgbXferGo_same {z : Bool} {s u : State} (h : Same z s u) (w : Wr) : OutSame z s (execMgbXferGo w u) := by
  unfold execMgbXferGo
  with_reducible repeat' (first | assumption | intro _ | apply State.pfOnly_same | apply State.xferWrite_same | apply ite_same | apply foldl_same | apply outSame_next | apply ite_outSame | split | dsimp only)
theorem execSigEdgeFire_same {z : Bool} {s u : State} (h : Same z s u) (n : Nat) : OutSame z s (execSigEdgeFire n u) := by
  unfold execSigEdgeFire
  with_reducible repeat' (first | assumption | intro _ | apply State.pinLevel_same | apply State.put_same | apply State.setSig_same | apply ite_same | apply foldl_same | apply outSame_next | apply ite_outSame | split | dsimp only)
theorem State.edgeCtlWrite_same {z : Bool} {s u : State} (h : Same z s u) (w : Wr) : Same z s (State.edgeCtlWrite u w) := by
  unfold State.edgeCtlWrite
  with_reducible repeat' (first | assumption | intro _ | apply State.mergeRaw_same | apply State.edgePush_same | apply State.refuseDom_same | apply ite_same | apply foldl_same | split | dsimp only)
theorem execMgbEdgePush_same {z : Bool} {s u : State} (h : Same z s u) (w : Wr) : OutSame z s (execMgbEdgePush w u) := by
  unfold execMgbEdgePush
  with_reducible repeat' (first | assumption | intro _ | apply State.pfOnly_same | apply State.edgeCtlWrite_same | apply ite_same | apply foldl_same | apply outSame_next | apply ite_outSame | split | dsimp only)
theorem State.xdataPut_same {z : Bool} {s u : State} (h : Same z s u) (l : List Byte) : Same z s (State.xdataPut u l) := by
  unfold State.xdataPut
  with_reducible repeat' (first | assumption | intro _ | apply State.put_same | apply ite_same | apply foldl_same | split | dsimp only)
theorem execMgbXferDone_same {z : Bool} {s u : State} (h : Same z s u) (code : Nat) (nbytes : Nat) (data : List Byte) : OutSame z s (execMgbXferDone code nbytes data u) := by
  unfold execMgbXferDone
  with_reducible repeat' (first | assumption | intro _ | apply State.put_same | apply State.xdataPut_same | apply State.busCode_same | apply ite_same | apply foldl_same | apply outSame_next | apply ite_outSame | split | dsimp only | apply same_mgb)
theorem execFrameMarkerStart_same {z : Bool} {s u : State} (h : Same z s u) (n : Nat) : OutSame z s (execFrameMarkerStart n u) := by
  unfold execFrameMarkerStart
  with_reducible repeat' (first | assumption | intro _ | apply State.pinDrive_same | apply State.setSig_same | apply ite_same | apply foldl_same | apply outSame_next | apply ite_outSame | split | dsimp only)
theorem execAlertRepeat_same {z : Bool} {s u : State} (h : Same z s u) (low : Bool) (addr : Option Nat) : OutSame z s (execAlertRepeat low addr u) := by
  unfold execAlertRepeat
  with_reducible repeat' (first | assumption | intro _ | apply State.alertRead_same | apply ite_same | apply foldl_same | apply outSame_next | apply ite_outSame | split | dsimp only | apply same_mgb)
theorem execAlertNAssert_same {z : Bool} {s u : State} (h : Same z s u) (addr : Option Nat) : OutSame z s (execAlertNAssert addr u) := by
  unfold execAlertNAssert
  with_reducible repeat' (first | assumption | intro _ | apply State.alertRead_same | apply ite_same | apply foldl_same | apply outSame_next | apply ite_outSame | split | dsimp only)
theorem State.loadEngine_same {z : Bool} {s u : State} (h : Same z s u) (e : Nat) (load : Nat) : Same z s (State.loadEngine u e load) := by
  unfold State.loadEngine
  with_reducible repeat' (first | assumption | intro _ | apply State.put_same | apply ite_same | apply foldl_same | split | dsimp only)
theorem State.rawAssign_same {z : Bool} {s u : State} (h : Same z s u) (n : Nat) : Same z s (State.rawAssign u n) := by
  unfold State.rawAssign
  with_reducible repeat' (first | assumption | intro _ | apply State.loadEngine_same | apply State.setRaw_same | apply State.setAllow_same | apply State.put_same | apply ite_same | apply foldl_same | split | dsimp only)
theorem State.rawSet_same {z : Bool} {s u : State} (h : Same z s u) (n : Nat) (v : Nat) : Same z s (State.rawSet u n v).2 := by
  unfold State.rawSet
  with_reducible repeat' (first | assumption | intro _ | apply State.put_same | apply State.raise_same | apply State.rawAssign_same | apply State.wn_same | apply State.setAllow_same | apply State.rawRelease_same | apply ite_same | apply foldl_same | apply ite_same2 | apply foldl_same2 | split | dsimp only)
theorem State.rawWrite_same {z : Bool} {s u : State} (h : Same z s u) (n : Nat) (w : Wr) : Same z s (State.rawWrite u n w) := by
  unfold State.rawWrite
  with_reducible repeat' (first | assumption | intro _ | apply State.rawSet_same | apply State.raise_same | apply ite_same | apply foldl_same | apply ite_same2 | apply foldl_same2 | split | refine pairSame2 (by assumption) ?_ | dsimp only)
theorem State.ringCut_same {z : Bool} {s u : State} (h : Same z s u) (n : Nat) : Same z s (State.ringCut u n) := by
  unfold State.ringCut
  with_reducible repeat' (first | assumption | intro _ | apply State.showRing_same | apply State.raise_same | apply State.freePlots_same | apply ite_same | apply foldl_same | split | dsimp only | apply same_captures_ring)
theorem State.dropPlot_same {z : Bool} {s u : State} (h : Same z s u) (p : Nat) : Same z s (State.dropPlot u p) := by
  unfold State.dropPlot
  with_reducible repeat' (first | assumption | intro _ | apply State.freePlots_same | apply ite_same | apply foldl_same | split | dsimp only | apply same_ring)
theorem State.ringAsk_same {z : Bool} {s u : State} (h : Same z s u) (n : Nat) : Same z s (State.ringAsk u n).2 := by
  unfold State.ringAsk
  with_reducible repeat' (first | assumption | intro _ | apply State.takePlot_same | apply State.dropPlot_same | apply State.setPlot_same | apply ite_same | apply foldl_same | apply ite_same2 | apply foldl_same2 | split | refine pairSame2 (by assumption) ?_ | dsimp only)
theorem State.ringPlace_same {z : Bool} {s u : State} (h : Same z s u) (n : Nat) (a2 : Nat) (a3 : Nat) (a4 : List Nat) : Same z s (State.ringPlace u n a2 a3 a4).2 := by
  induction a2 generalizing u a3 a4 with
  | zero => unfold State.ringPlace; with_reducible repeat' (first | assumption | intro _ | apply State.ringAsk_same | apply State.freePlots_same | apply State.setPlot_same | apply ite_same | apply foldl_same | apply ite_same2 | apply foldl_same2 | split | refine pairSame2 (by assumption) ?_ | dsimp only)
  | succ n ih => unfold State.ringPlace; with_reducible repeat' (first | assumption | apply ih | intro _ | apply State.ringAsk_same | apply State.freePlots_same | apply State.setPlot_same | apply ite_same | apply foldl_same | apply ite_same2 | apply foldl_same2 | split | refine pairSame2 (by assumption) ?_ | dsimp only)
theorem State.ringStore_same {z : Bool} {s u : State} (h : Same z s u) (n : Nat) (t : RawTile) (b : List Byte) : Same z s (State.ringStore u n t b) := by
  unfold State.ringStore
  with_reducible repeat' (first | assumption | intro _ | apply State.ringPlace_same | apply State.freePlots_same | apply State.ringCut_same | apply State.setPlot_same | apply State.showRing_same | apply ite_same | apply foldl_same | apply ite_same2 | apply foldl_same2 | split | refine pairSame2 (by assumption) ?_ | dsimp only | apply same_captures_ring)
theorem State.rawTake_same {z : Bool} {s u : State} (h : Same z s u) (n : Nat) (t : Int) (v : Smp) : Same z s (State.rawTake u n t v) := by
  unfold State.rawTake
  with_reducible repeat' (first | assumption | intro _ | apply State.placeholder_same | apply State.cutTile_same | apply State.setRaw_same | apply ite_same | apply foldl_same | split | dsimp only)
theorem State.intakeMarks_same {z : Bool} {s u : State} (h : Same z s u) (n : Nat) (t : Int) : Same z s (State.intakeMarks u n t) := by
  unfold State.intakeMarks
  with_reducible repeat' (first | assumption | intro _ | apply State.setMark_same | apply State.intakePass_same | apply ite_same | apply foldl_same | split | dsimp only)
theorem State.takeSample_same {z : Bool} {s u : State} (h : Same z s u) (n : Nat) (i : Nat) (x : SrcSample) : Same z s (State.takeSample u n i x) := by
  unfold State.takeSample
  with_reducible repeat' (first | assumption | intro _ | apply State.raise_same | apply State.cutTile_same | apply State.intakeMarks_same | apply State.sourceResume_same | apply State.setSlot_same | apply State.fastPower_same | apply State.rawTake_same | apply State.feed_same | apply ite_same | apply foldl_same | split | dsimp only)
theorem State.inputSample_same {z : Bool} {s u : State} (h : Same z s u) (inp : Nat) (i : Nat) (x : SrcSample) : Same z s (State.inputSample u inp i x) := by
  unfold State.inputSample
  with_reducible repeat' (first | assumption | intro _ | apply State.setSub_same | apply State.takeSample_same | apply ite_same | apply foldl_same | split | dsimp only)
theorem execSourceSample_same {z : Bool} {s u : State} (h : Same z s u) (src : SampleSrc) (i : Nat) (x : SrcSample) : OutSame z s (execSourceSample src i x u) := by
  unfold execSourceSample
  with_reducible repeat' (first | assumption | intro _ | apply State.inputSample_same | apply State.takeSample_same | apply ite_same | apply foldl_same | apply outSame_next | apply ite_outSame | split | dsimp only)
theorem State.ringTrim_same {z : Bool} {s u : State} (h : Same z s u) (limit : Nat) (a2 : Nat) : Same z s (State.ringTrim u limit a2) := by
  induction a2 generalizing u with
  | zero => unfold State.ringTrim; with_reducible repeat' (first | assumption | intro _ | apply State.freePlot_same | apply State.dropPlot_same | apply ite_same | apply foldl_same | split | dsimp only)
  | succ n ih => unfold State.ringTrim; with_reducible repeat' (first | assumption | apply ih | intro _ | apply State.freePlot_same | apply State.dropPlot_same | apply ite_same | apply foldl_same | split | dsimp only)

end Sys2Proof.Machine
end

