-- ==== Sys2Proof/Laws/Frame3.lean ====
section
/-! SUPPORT. One lemma per operation: what it leaves as it is (part 3 of 6, in the order of dependence). -/
set_option maxRecDepth 10000
namespace Sys2Proof.Machine

theorem State.ringCtlWrite_same {z : Bool} {s u : State} (h : Same z s u) (w : Wr) : Same z s (State.ringCtlWrite u w) := by
  unfold State.ringCtlWrite
  with_reducible repeat' (first | assumption | intro _ | apply State.mergeRaw_same | apply State.cutTile_same | apply State.ringTrim_same | apply State.showRing_same | apply ite_same | apply foldl_same | split | dsimp only | apply same_ring)
theorem State.closeRec_same {z : Bool} {s u : State} (h : Same z s u) (q : Nat) (offered : List Byte) : Same z s (State.closeRec u q offered) := by
  unfold State.closeRec
  with_reducible repeat' (first | assumption | intro _ | apply State.offerUnit_same | apply State.setQue_same | apply ite_same | apply foldl_same | split | dsimp only)
theorem execCmpRawWrite_same {z : Bool} {s u : State} (h : Same z s u) (n : Nat) (w : Wr) : OutSame z s (execCmpRawWrite n w u) := by
  unfold execCmpRawWrite
  with_reducible repeat' (first | assumption | intro _ | apply State.pfOnly_same | apply State.rawWrite_same | apply ite_same | apply foldl_same | apply outSame_next | apply ite_outSame | split | dsimp only)
theorem execRecordTileFlush_same {z : Bool} {s u : State} (h : Same z s u) (q : Nat) : OutSame z s (execRecordTileFlush q u) := by
  unfold execRecordTileFlush
  with_reducible repeat' (first | assumption | intro _ | apply State.recShort_same | apply ite_same | apply foldl_same | apply outSame_next | apply ite_outSame | split | dsimp only)
theorem State.damage_same {z : Bool} {s u : State} (h : Same z s u) (fault : Bool) (b : List Byte) : Same z s (State.damage u fault b).2 := by
  unfold State.damage
  with_reducible repeat' (first | assumption | intro _ | apply State.draw_same | apply ite_same | apply foldl_same | apply ite_same2 | apply foldl_same2 | split | refine pairSame2 (by assumption) ?_ | dsimp only)
theorem State.closeRaw_same {z : Bool} {s u : State} (h : Same z s u) (n : Nat) : Same z s (State.closeRaw u n) := by
  unfold State.closeRaw
  with_reducible repeat' (first | assumption | intro _ | apply State.setRaw_same | apply State.damage_same | apply State.ringStore_same | apply State.offerUnit_same | apply ite_same | apply foldl_same | apply ite_same2 | apply foldl_same2 | split | refine pairSame2 (by assumption) ?_ | dsimp only)
theorem execTileClose_same {z : Bool} {s u : State} (h : Same z s u) (rec : Bool) (n : Nat) (offered : List Byte) : OutSame z s (execTileClose rec n offered u) := by
  unfold execTileClose
  with_reducible repeat' (first | assumption | intro _ | apply State.closeRec_same | apply State.closeRaw_same | apply ite_same | apply foldl_same | apply outSame_next | apply ite_outSame | split | dsimp only)
theorem State.encResumed_same {z : Bool} {s u : State} (h : Same z s u) (q : Nat) : Same z s (State.encResumed u q) := by
  unfold State.encResumed
  with_reducible repeat' (first | assumption | intro _ | apply State.raise_same | apply ite_same | apply foldl_same | split | dsimp only)
theorem execEncResume_same {z : Bool} {s u : State} (h : Same z s u) (q : Nat) : OutSame z s (execEncResume q u) := by
  unfold execEncResume
  with_reducible repeat' (first | assumption | intro _ | apply State.writeFront_same | apply State.encResumed_same | apply ite_same | apply foldl_same | apply outSame_next | apply ite_outSame | split | dsimp only)
theorem State.encStall_same {z : Bool} {s u : State} (h : Same z s u) (q : Nat) : Same z s (State.encStall u q) := by
  unfold State.encStall
  with_reducible repeat' (first | assumption | intro _ | apply State.raise_same | apply State.put_same | apply ite_same | apply foldl_same | split | dsimp only)
theorem State.writeStep_same {z : Bool} {s u : State} (h : Same z s u) (q : Nat) : Same z s (State.writeStep u q) := by
  unfold State.writeStep
  with_reducible repeat' (first | assumption | intro _ | apply State.writeFront_same | apply State.encStall_same | apply ite_same | apply foldl_same | split | dsimp only)
theorem execRingCtlWrite_same {z : Bool} {s u : State} (h : Same z s u) (w : Wr) : OutSame z s (execRingCtlWrite w u) := by
  unfold execRingCtlWrite
  with_reducible repeat' (first | assumption | intro _ | apply State.pfOnly_same | apply State.ringCtlWrite_same | apply ite_same | apply foldl_same | apply outSame_next | apply ite_outSame | split | dsimp only)
theorem State.cmpFault_same {z : Bool} {s u : State} (h : Same z s u) (e : Nat) : Same z s (State.cmpFault u e) := by
  unfold State.cmpFault
  with_reducible repeat' (first | assumption | intro _ | apply State.cutTile_same | apply State.setQue_same | apply State.raise_same | apply State.put_same | apply ite_same | apply foldl_same | split | dsimp only)
theorem execCmpEngFault_same {z : Bool} {s u : State} (h : Same z s u) (x : EccError) : OutSame z s (execCmpEngFault x u) := by
  unfold execCmpEngFault
  with_reducible repeat' (first | assumption | intro _ | apply State.put_same | apply State.cmpFault_same | apply ite_same | apply foldl_same | apply outSame_next | apply ite_outSame | split | dsimp only)
theorem State.trgState_same {z : Bool} {s u : State} (h : Same z s u) (t : Nat) (st : Nat) : Same z s (State.trgState u t st) := by
  unfold State.trgState
  with_reducible repeat' (first | assumption | intro _ | apply State.put_same | apply State.showTrgDrive_same | apply ite_same | apply foldl_same | split | dsimp only)
theorem State.setTrg_same {z : Bool} {s u : State} (h : Same z s u) (t : Nat) (x : TrgOut) : Same z s (State.setTrg u t x) := by
  unfold State.setTrg
  with_reducible repeat' (first | assumption | intro _ | apply ite_same | apply foldl_same | split | dsimp only | apply same_trgOuts)
theorem State.rearm_same {z : Bool} {s u : State} (h : Same z s u) (t : Nat) : Same z s (State.rearm u t) := by
  unfold State.rearm
  with_reducible repeat' (first | assumption | intro _ | apply State.trgState_same | apply State.setTrg_same | apply State.put_same | apply ite_same | apply foldl_same | split | dsimp only)
theorem State.tryRearm_same {z : Bool} {s u : State} (h : Same z s u) (t : Nat) : Same z s (State.tryRearm u t) := by
  unfold State.tryRearm
  with_reducible repeat' (first | assumption | intro _ | apply State.rearm_same | apply State.raise_same | apply State.setTrg_same | apply State.put_same | apply ite_same | apply foldl_same | split | dsimp only)
theorem State.freeCtx_same {z : Bool} {s u : State} (h : Same z s u) : Same z s (State.freeCtx u) := by
  unfold State.freeCtx
  with_reducible repeat' (first | assumption | intro _ | apply State.put_same | apply State.tryRearm_same | apply ite_same | apply foldl_same | split | dsimp only)
theorem State.trgOff_same {z : Bool} {s u : State} (h : Same z s u) (t : Nat) : Same z s (State.trgOff u t) := by
  unfold State.trgOff
  with_reducible repeat' (first | assumption | intro _ | apply State.trgState_same | apply State.setTrg_same | apply State.put_same | apply State.freeCtx_same | apply ite_same | apply foldl_same | split | dsimp only)
theorem State.trgArm_same {z : Bool} {s u : State} (h : Same z s u) (t : Nat) : Same z s (State.trgArm u t).2 := by
  unfold State.trgArm
  with_reducible repeat' (first | assumption | intro _ | apply State.put_same | apply State.trgState_same | apply State.setTrg_same | apply ite_same | apply foldl_same | apply ite_same2 | apply foldl_same2 | split | dsimp only)
theorem State.trgCfgWrite_same {z : Bool} {s u : State} (h : Same z s u) (t : Nat) (w : Wr) : Same z s (State.trgCfgWrite u t w) := by
  unfold State.trgCfgWrite
  with_reducible repeat' (first | assumption | intro _ | apply State.trgOff_same | apply State.raise_same | apply State.mergeRaw_same | apply State.trgArm_same | apply ite_same | apply foldl_same | apply ite_same2 | apply foldl_same2 | split | refine pairSame2 (by assumption) ?_ | dsimp only)
theorem State.ilineEdge_same {z : Bool} {s u : State} (h : Same z s u) (n : Nat) (low : Bool) : Same z s (State.ilineEdge u n low) := by
  unfold State.ilineEdge
  with_reducible repeat' (first | assumption | intro _ | apply State.offerTrig_same | apply ite_same | apply foldl_same | split | dsimp only | apply same_ilines)
theorem State.pulsePin_same {z : Bool} {s u : State} (h : Same z s u) (pin : Nat) (active : Bool) : Same z s (State.pulsePin u pin active) := by
  unfold State.pulsePin
  with_reducible repeat' (first | assumption | intro _ | apply State.pinDrive_same | apply State.ilineEdge_same | apply ite_same | apply foldl_same | split | dsimp only)
theorem State.startPulses_same {z : Bool} {s u : State} (h : Same z s u) (t : Nat) (at_ : Int) : Same z s (State.startPulses u t at_).2 := by
  unfold State.startPulses
  with_reducible repeat' (first | assumption | intro _ | apply State.pulsePin_same | apply State.raise_same | apply State.put_same | apply ite_same | apply foldl_same | apply ite_same2 | apply foldl_same2 | split | dsimp only | apply same_pulses)
theorem State.openCapture_same {z : Bool} {s u : State} (h : Same z s u) (t : Nat) (src : Nat) (at_ : Int) (status : Nat) : Same z s (State.openCapture u t src at_ status) := by
  unfold State.openCapture
  with_reducible repeat' (first | assumption | intro _ | apply State.showRing_same | apply State.setTrg_same | apply ite_same | apply foldl_same | split | dsimp only | apply same_captures_ring_capSeq)
theorem State.acceptTrig_same {z : Bool} {s u : State} (h : Same z s u) (t : Nat) (x : Trig) : Same z s (State.acceptTrig u t x) := by
  unfold State.acceptTrig
  with_reducible repeat' (first | assumption | intro _ | apply State.trgState_same | apply State.setTrg_same | apply State.startPulses_same | apply State.trgSend_same | apply State.urgTrigger_same | apply State.openCapture_same | apply ite_same | apply foldl_same | apply ite_same2 | apply foldl_same2 | split | refine pairSame2 (by assumption) ?_ | dsimp only)
theorem State.closeCapture_same {z : Bool} {s u : State} (h : Same z s u) (c : Capture) : Same z s (State.closeCapture u c) := by
  unfold State.closeCapture
  with_reducible repeat' (first | assumption | intro _ | apply State.setTrg_same | apply State.raise_same | apply State.put_same | apply State.freeCtx_same | apply ite_same | apply foldl_same | split | dsimp only | apply same_captures_items)
theorem execCaptureClose_same {z : Bool} {s u : State} (h : Same z s u) (seq : Nat) : OutSame z s (execCaptureClose seq u) := by
  unfold execCaptureClose
  with_reducible repeat' (first | assumption | intro _ | apply State.closeCapture_same | apply ite_same | apply foldl_same | apply outSame_next | apply ite_outSame | split | dsimp only)
theorem State.trgWordWrite_same {z : Bool} {s u : State} (h : Same z s u) (key : Nat) (t : Nat) (w : Wr) : Same z s (State.trgWordWrite u key t w) := by
  unfold State.trgWordWrite
  with_reducible repeat' (first | assumption | intro _ | apply State.raise_same | apply State.mergeRaw_same | apply ite_same | apply foldl_same | split | dsimp only)
theorem State.netRefuse_same {z : Bool} {s u : State} (h : Same z s u) (e : EvId) : Same z s (State.netRefuse u e) := by
  unfold State.netRefuse
  with_reducible repeat' (first | assumption | intro _ | apply State.raise_same | apply State.bump_same | apply ite_same | apply foldl_same | split | dsimp only)
theorem State.offerTo_same {z : Bool} {s u : State} (h : Same z s u) (t : Nat) (x : Trig) : Same z s (State.offerTo u t x) := by
  unfold State.offerTo
  with_reducible repeat' (first | assumption | intro _ | apply State.acceptTrig_same | apply State.setTrg_same | apply State.bump_same | apply State.raise_same | apply State.tryRearm_same | apply ite_same | apply foldl_same | split | dsimp only)
theorem State.netTrigger_same {z : Bool} {s u : State} (h : Same z s u) (b : List Byte) : Same z s (State.netTrigger u b) := by
  unfold State.netTrigger
  with_reducible repeat' (first | assumption | intro _ | apply State.netRefuse_same | apply State.offerTo_same | apply ite_same | apply foldl_same | split | dsimp only | apply same_netSenders)
theorem execNetTriggerRx_same {z : Bool} {s u : State} (h : Same z s u) (port : Nat) (data : List Byte) : OutSame z s (execNetTriggerRx port data u) := by
  unfold execNetTriggerRx
  with_reducible repeat' (first | assumption | intro _ | apply State.netTrigger_same | apply ite_same | apply foldl_same | apply outSame_next | apply ite_outSame | split | dsimp only)
theorem State.fireTrig_same {z : Bool} {s u : State} (h : Same z s u) (t : Nat) (at_ : Option Int) : Same z s (State.fireTrig u t at_) := by
  unfold State.fireTrig
  with_reducible repeat' (first | assumption | intro _ | apply State.offerTo_same | apply ite_same | apply foldl_same | split | dsimp only)
theorem execIlineEdge_same {z : Bool} {s u : State} (h : Same z s u) (n : Nat) (low : Bool) : OutSame z s (execIlineEdge n low u) := by
  unfold execIlineEdge
  with_reducible repeat' (first | assumption | intro _ | apply State.ilineEdge_same | apply ite_same | apply foldl_same | apply outSame_next | apply ite_outSame | split | dsimp only)
theorem State.offerAll_same {z : Bool} {s u : State} (h : Same z s u) (x : Trig) : Same z s (State.offerAll u x) := by
  unfold State.offerAll
  with_reducible repeat' (first | assumption | intro _ | apply State.offerTo_same | apply ite_same | apply foldl_same | split | dsimp only)
theorem execTriggerOffer_same {z : Bool} {s u : State} (h : Same z s u) : OutSame z s (execTriggerOffer u) := by
  unfold execTriggerOffer
  with_reducible repeat' (first | assumption | intro _ | apply State.offerAll_same | apply ite_same | apply foldl_same | apply outSame_next | apply ite_outSame | split | dsimp only | apply same_trigs)
theorem execTrgPulseEnd_same {z : Bool} {s u : State} (h : Same z s u) : OutSame z s (execTrgPulseEnd u) := by
  unfold execTrgPulseEnd
  with_reducible repeat' (first | assumption | intro _ | apply State.pulsePin_same | apply ite_same | apply foldl_same | apply outSame_next | apply ite_outSame | split | dsimp only | apply same_pulses)
theorem State.trgStatWrite_same {z : Bool} {s u : State} (h : Same z s u) (t : Nat) (w : Wr) : Same z s (State.trgStatWrite u t w) := by
  unfold State.trgStatWrite
  with_reducible repeat' (first | assumption | intro _ | apply State.mergeRaw_same | apply State.fireTrig_same | apply ite_same | apply foldl_same | split | dsimp only)
theorem State.trgNetWrite_same {z : Bool} {s u : State} (h : Same z s u) (w : Wr) : Same z s (State.trgNetWrite u w) := by
  unfold State.trgNetWrite
  with_reducible repeat' (first | assumption | intro _ | apply State.mergeRaw_same | apply ite_same | apply foldl_same | split | dsimp only | apply same_netSenders)
theorem execTrgNetClr_same {z : Bool} {s u : State} (h : Same z s u) (w : Wr) : OutSame z s (execTrgNetClr w u) := by
  unfold execTrgNetClr
  with_reducible repeat' (first | assumption | intro _ | apply State.pfOnly_same | apply State.trgNetWrite_same | apply ite_same | apply foldl_same | apply outSame_next | apply ite_outSame | split | dsimp only)
theorem execFixedModeEdge_same {z : Bool} {s u : State} (h : Same z s u) : OutSame z s (execFixedModeEdge u) := by
  unfold execFixedModeEdge
  with_reducible repeat' (first | assumption | intro _ | apply State.pulsePin_same | apply ite_same | apply foldl_same | apply outSame_next | apply ite_outSame | split | dsimp only | apply same_pulses)
theorem execTrgDisarm_same {z : Bool} {s u : State} (h : Same z s u) (t : Nat) (w : Wr) : OutSame z s (execTrgDisarm t w u) := by
  unfold execTrgDisarm
  with_reducible repeat' (first | assumption | intro _ | apply State.pfOnly_same | apply State.trgCfgWrite_same | apply ite_same | apply foldl_same | apply outSame_next | apply ite_outSame | split | dsimp only)
theorem execTrgOutFire_same {z : Bool} {s u : State} (h : Same z s u) (t : Nat) (w : Wr) : OutSame z s (execTrgOutFire t w u) := by
  unfold execTrgOutFire
  with_reducible repeat' (first | assumption | intro _ | apply State.pfOnly_same | apply State.trgStatWrite_same | apply ite_same | apply foldl_same | apply outSame_next | apply ite_outSame | split | dsimp only)
theorem execTrgRearm_same {z : Bool} {s u : State} (h : Same z s u) (t : Nat) : OutSame z s (execTrgRearm t u) := by
  unfold execTrgRearm
  with_reducible repeat' (first | assumption | intro _ | apply State.tryRearm_same | apply ite_same | apply foldl_same | apply outSame_next | apply ite_outSame | split | dsimp only)
theorem execIlineStuck_same {z : Bool} {s u : State} (h : Same z s u) (n : Nat) : OutSame z s (execIlineStuck n u) := by
  unfold execIlineStuck
  with_reducible repeat' (first | assumption | intro _ | apply State.raise_same | apply ite_same | apply foldl_same | apply outSame_next | apply ite_outSame | split | dsimp only | apply same_ilines)
theorem execTrgArm_same {z : Bool} {s u : State} (h : Same z s u) (t : Nat) (w : Wr) : OutSame z s (execTrgArm t w u) := by
  unfold execTrgArm
  with_reducible repeat' (first | assumption | intro _ | apply State.pfOnly_same | apply State.trgCfgWrite_same | apply ite_same | apply foldl_same | apply outSame_next | apply ite_outSame | split | dsimp only)
theorem State.grantResume_same {z : Bool} {s u : State} (h : Same z s u) (g : Nat) : Same z s (State.grantResume u g) := by
  unfold State.grantResume
  with_reducible repeat' (first | assumption | intro _ | apply State.raise_same | apply State.put_same | apply ite_same | apply foldl_same | split | dsimp only)
theorem State.dropCopies_same {z : Bool} {s u : State} (h : Same z s u) (g : Nat) : Same z s (State.dropCopies u g) := by
  unfold State.dropCopies
  with_reducible repeat' (first | assumption | intro _ | apply State.setSlot_same | apply State.setRaw_same | apply ite_same | apply foldl_same | split | dsimp only)
theorem State.grantSuspend_same {z : Bool} {s u : State} (h : Same z s u) (g : Nat) : Same z s (State.grantSuspend u g) := by
  unfold State.grantSuspend
  with_reducible repeat' (first | assumption | intro _ | apply State.raise_same | apply State.put_same | apply State.dropCopies_same | apply ite_same | apply foldl_same | split | dsimp only)
theorem State.grantSync_same {z : Bool} {s u : State} (h : Same z s u) (q : Nat) : Same z s (State.grantSync u q) := by
  unfold State.grantSync
  with_reducible repeat' (first | assumption | intro _ | apply State.grantResume_same | apply State.grantSuspend_same | apply ite_same | apply foldl_same | split | dsimp only)
theorem State.queEmpty_same {z : Bool} {s u : State} (h : Same z s u) (q : Nat) : Same z s (State.queEmpty u q).2 := by
  unfold State.queEmpty
  with_reducible repeat' (first | assumption | intro _ | apply State.freePlots_same | apply State.setQue_same | apply State.releaseCapture_same | apply State.bumpSat_same | apply State.drained_same | apply State.showQue_same | apply State.raise_same | apply ite_same | apply foldl_same | apply ite_same2 | apply foldl_same2 | split | dsimp only | apply same_units)
theorem State.recLast_same {z : Bool} {s u : State} (h : Same z s u) (q : Nat) : Same z s (State.recLast u q) := by
  unfold State.recLast
  with_reducible repeat' (first | assumption | intro _ | apply State.setQue_same | apply ite_same | apply foldl_same | split | dsimp only)
theorem State.queDrain_same {z : Bool} {s u : State} (h : Same z s u) (q : Nat) : Same z s (State.queDrain u q) := by
  unfold State.queDrain
  with_reducible repeat' (first | assumption | intro _ | apply State.grantSync_same | apply State.drained_same | apply State.put_same | apply State.recLast_same | apply ite_same | apply foldl_same | split | dsimp only)
theorem State.queCfgWrite_same {z : Bool} {s u : State} (h : Same z s u) (q : Nat) (key : Nat) (w : Wr) : Same z s (State.queCfgWrite u q key w) := by
  unfold State.queCfgWrite
  with_reducible repeat' (first | assumption | intro _ | apply State.mergeRaw_same | apply State.raise_same | apply ite_same | apply foldl_same | split | dsimp only)
theorem State.eventFeed_same {z : Bool} {s u : State} (h : Same z s u) (q : Nat) : Same z s (State.eventFeed u q) := by
  unfold State.eventFeed
  with_reducible repeat' (first | assumption | intro _ | apply State.setQue_same | apply ite_same | apply foldl_same | split | dsimp only | apply same_router_units)
theorem execUnitWrite_same {z : Bool} {s u : State} (h : Same z s u) (q : Nat) : OutSame z s (execUnitWrite q u) := by
  unfold execUnitWrite
  with_reducible repeat' (first | assumption | intro _ | apply State.writeStep_same | apply State.eventFeed_same | apply ite_same | apply foldl_same | apply outSame_next | apply ite_outSame | split | dsimp only)
theorem State.queRefused_same {z : Bool} {s u : State} (h : Same z s u) (q : Nat) (c : Nat) : Same z s (State.queRefused u q c).2 := by
  unfold State.queRefused
  with_reducible repeat' (first | assumption | intro _ | apply State.raise_same | apply State.put_same | apply ite_same | apply foldl_same | apply ite_same2 | apply foldl_same2 | split | dsimp only)
theorem State.queFlush_same {z : Bool} {s u : State} (h : Same z s u) (q : Nat) : Same z s (State.queFlush u q).2 := by
  unfold State.queFlush
  with_reducible repeat' (first | assumption | intro _ | apply State.queRefused_same | apply State.queEmpty_same | apply State.put_same | apply ite_same | apply foldl_same | apply ite_same2 | apply foldl_same2 | split | refine pairSame2 (by assumption) ?_ | dsimp only)
theorem State.queEnable_same {z : Bool} {s u : State} (h : Same z s u) (q : Nat) : Same z s (State.queEnable u q).2 := by
  unfold State.queEnable
  with_reducible repeat' (first | assumption | intro _ | apply State.put_same | apply State.raise_same | apply State.loadEngine_same | apply State.setQue_same | apply State.grantSync_same | apply State.showQue_same | apply State.setAllow_same | apply ite_same | apply foldl_same | apply ite_same2 | apply foldl_same2 | split | dsimp only | apply same_quesOn_rxs)
theorem State.queDisable_same {z : Bool} {s u : State} (h : Same z s u) (q : Nat) : Same z s (State.queDisable u q).2 := by
  unfold State.queDisable
  with_reducible repeat' (first | assumption | intro _ | apply State.queRefused_same | apply State.queDrain_same | apply State.put_same | apply ite_same | apply foldl_same | apply ite_same2 | apply foldl_same2 | split | refine pairSame2 (by assumption) ?_ | dsimp only)
theorem State.queCtlWrite_same {z : Bool} {s u : State} (h : Same z s u) (q : Nat) (w : Wr) : Same z s (State.queCtlWrite u q w) := by
  unfold State.queCtlWrite
  with_reducible repeat' (first | assumption | intro _ | apply State.raise_same | apply State.queEnable_same | apply State.queDisable_same | apply State.queFlush_same | apply ite_same | apply foldl_same | apply ite_same2 | apply foldl_same2 | split | refine pairSame2 (by assumption) ?_ | dsimp only)
theorem execQueFlush_same {z : Bool} {s u : State} (h : Same z s u) (w : Wr) : OutSame z s (execQueFlush w u) := by
  unfold execQueFlush
  with_reducible repeat' (first | assumption | intro _ | apply State.pfOnly_same | apply State.queCtlWrite_same | apply ite_same | apply foldl_same | apply outSame_next | apply ite_outSame | split | dsimp only)
theorem execPlotCopyDone_same {z : Bool} {s u : State} (h : Same z s u) : OutSame z s (execPlotCopyDone u) := by
  unfold execPlotCopyDone
  with_reducible repeat' (first | assumption | intro _ | apply State.put_same | apply State.setPlot_same | apply State.setQue_same | apply State.showQue_same | apply State.freePlot_same | apply ite_same | apply foldl_same | apply outSame_next | apply ite_outSame | split | dsimp only | apply same_copies)
theorem State.quotaWrite_same {z : Bool} {s u : State} (h : Same z s u) (b : Nat) (w : Wr) : Same z s (State.quotaWrite u b w) := by
  unfold State.quotaWrite
  with_reducible repeat' (first | assumption | intro _ | apply State.mergeRaw_same | apply State.raise_same | apply ite_same | apply foldl_same | split | dsimp only)
theorem State.weakPlot_same {z : Bool} {s u : State} (h : Same z s u) (id : Nat) : Same z s (State.weakPlot u id) := by
  unfold State.weakPlot
  with_reducible repeat' (first | assumption | intro _ | apply State.setPlot_same | apply State.retirePlot_same | apply State.wn_same | apply ite_same | apply foldl_same | split | dsimp only)
theorem State.hurtPlot_same {z : Bool} {s u : State} (h : Same z s u) (id : Nat) (off : Nat) (v : Nat) : Same z s (State.hurtPlot u id off v) := by
  unfold State.hurtPlot
  with_reducible repeat' (first | assumption | intro _ | apply State.setQue_same | apply ite_same | apply foldl_same | split | dsimp only | apply same_ring | apply same_units)
theorem execPlotEccError_same {z : Bool} {s u : State} (h : Same z s u) (id : Nat) (off : Nat) (uncorr : Bool) : OutSame z s (execPlotEccError id off uncorr u) := by
  unfold execPlotEccError
  with_reducible repeat' (first | assumption | intro _ | apply State.draw_same | apply State.raise_same | apply State.put_same | apply State.weakPlot_same | apply State.setPlot_same | apply State.hurtPlot_same | apply ite_same | apply foldl_same | apply ite_same2 | apply foldl_same2 | apply outSame_next | apply ite_outSame | split | refine pairSame2 (by assumption) ?_ | dsimp only)
theorem execPlotRequest_same {z : Bool} {s u : State} (h : Same z s u) (q : Nat) : OutSame z s (execPlotRequest q u) := by
  unfold execPlotRequest
  with_reducible repeat' (first | assumption | intro _ | apply State.askPlot_same | apply State.encStall_same | apply ite_same | apply foldl_same | apply ite_same2 | apply foldl_same2 | apply outSame_next | apply ite_outSame | split | refine pairSame2 (by assumption) ?_ | dsimp only)
theorem State.ringStage_same {z : Bool} {s u : State} (h : Same z s u) (b : Nat) (r : Nat) (p : Packet) : Same z s (State.ringStage u b r p).2 := by
  unfold State.ringStage
  with_reducible repeat' (first | assumption | intro _ | apply State.chainWrite_same | apply ite_same | apply foldl_same | apply ite_same2 | apply foldl_same2 | split | refine pairSame2 (by assumption) ?_ | dsimp only)
theorem State.takeSlots_same {z : Bool} {s u : State} (h : Same z s u) (p : Packet) : Same z s (State.takeSlots u p) := by
  unfold State.takeSlots
  with_reducible repeat' (first | assumption | intro _ | apply State.put_same | apply State.setCring_same | apply State.chainRead_same | apply State.ringStage_same | apply ite_same | apply foldl_same | apply ite_same2 | apply foldl_same2 | split | refine pairSame2 (by assumption) ?_ | dsimp only)
theorem State.rateTake_same {z : Bool} {s u : State} (h : Same z s u) (b : Nat) : Same z s (State.rateTake u b) := by
  unfold State.rateTake
  with_reducible repeat' (first | assumption | intro _ | apply ite_same | apply foldl_same | split | dsimp only | apply same_rates)
theorem runHandler_same {z : Bool} {s u : State} (h : Same z s u) (h0 : Packet → State → CmdOut × State) (p : Packet) (k : ∀ x0 v, Same z s v → Same z s (h0 x0 v).2) : Same z s (runHandler h0 p u).2 := by
  unfold runHandler
  with_reducible repeat' (first | assumption | intro _ | apply k | apply State.setFunc_same | apply ite_same | apply foldl_same | apply ite_same2 | apply foldl_same2 | split | dsimp only)
theorem State.suspendGrants_same {z : Bool} {s u : State} (h : Same z s u) (b : Nat) : Same z s (State.suspendGrants u b) := by
  unfold State.suspendGrants
  with_reducible repeat' (first | assumption | intro _ | apply State.grantSuspend_same | apply ite_same | apply foldl_same | split | dsimp only)
theorem State.beamOff_same {z : Bool} {s u : State} (h : Same z s u) (b : Nat) : Same z s (State.beamOff u b) := by
  unfold State.beamOff
  with_reducible repeat' (first | assumption | intro _ | apply State.stageRange_same | apply ite_same | apply foldl_same | split | dsimp only)
theorem State.muteBeams_same {z : Bool} {s u : State} (h : Same z s u) (b : Nat) : Same z s (State.muteBeams u b) := by
  unfold State.muteBeams
  with_reducible repeat' (first | assumption | intro _ | apply State.beamEndItems_same | apply State.beamOff_same | apply State.setBeam_same | apply ite_same | apply foldl_same | split | dsimp only)
theorem State.abortBorough_same {z : Bool} {s u : State} (h : Same z s u) (b : Nat) : Same z s (State.abortBorough u b) := by
  unfold State.abortBorough
  with_reducible repeat' (first | assumption | intro _ | apply State.finishCmd_same | apply State.showBeam_same | apply State.showPend_same | apply ite_same | apply foldl_same | split | dsimp only | apply same_staged)
theorem State.queReset_same {z : Bool} {s u : State} (h : Same z s u) (q : Nat) : Same z s (State.queReset u q) := by
  unfold State.queReset
  with_reducible repeat' (first | assumption | intro _ | apply State.releaseCapture_same | apply State.queEmpty_same | apply State.put_same | apply State.setQue_same | apply ite_same | apply foldl_same | apply ite_same2 | apply foldl_same2 | split | refine pairSame2 (by assumption) ?_ | dsimp only | apply same_units)
theorem State.jobComplete_same {z : Bool} {s u : State} (h : Same z s u) (b : Nat) (status : Nat) (detail : Nat) (off : Nat) (total : Nat) (last : Nat) : Same z s (State.jobComplete u b status detail off total last) := by
  unfold State.jobComplete
  with_reducible repeat' (first | assumption | intro _ | apply State.emit_same | apply ite_same | apply foldl_same | split | dsimp only)
theorem State.dxFill_same {z : Bool} {s u : State} (h : Same z s u) : Same z s (State.dxFill u) := by
  unfold State.dxFill
  with_reducible repeat' (first | assumption | intro _ | apply State.put_same | apply ite_same | apply foldl_same | split | dsimp only | apply same_dxNext)
theorem State.dxDone_same {z : Bool} {s u : State} (h : Same z s u) (b : Nat) : Same z s (State.dxDone u b) := by
  unfold State.dxDone
  with_reducible repeat' (first | assumption | intro _ | apply State.put_same | apply State.dxFill_same | apply ite_same | apply foldl_same | split | dsimp only)
theorem State.jobEnd_same {z : Bool} {s u : State} (h : Same z s u) (b : Nat) (status : Nat) (detail : Nat) (off : Nat) : Same z s (State.jobEnd u b status detail off) := by
  unfold State.jobEnd
  with_reducible repeat' (first | assumption | intro _ | apply State.jobComplete_same | apply State.put_same | apply State.dxDone_same | apply State.bump_same | apply State.raise_same | apply ite_same | apply foldl_same | split | dsimp only | apply same_jobs)
theorem State.jobAbort_same {z : Bool} {s u : State} (h : Same z s u) (b : Nat) : Same z s (State.jobAbort u b) := by
  unfold State.jobAbort
  with_reducible repeat' (first | assumption | intro _ | apply State.jobEnd_same | apply ite_same | apply foldl_same | split | dsimp only)
theorem State.eventsDrop_same {z : Bool} {s u : State} (h : Same z s u) (b : Nat) : Same z s (State.eventsDrop u b) := by
  unfold State.eventsDrop
  with_reducible repeat' (first | assumption | intro _ | apply ite_same | apply foldl_same | split | dsimp only | apply same_router_windows)
theorem State.deliveriesOff_same {z : Bool} {s u : State} (h : Same z s u) (b : Nat) : Same z s (State.deliveriesOff u b) := by
  unfold State.deliveriesOff
  with_reducible repeat' (first | assumption | intro _ | apply ite_same | apply foldl_same | split | dsimp only | apply same_delivers)
theorem State.ringQueOff_same {z : Bool} {s u : State} (h : Same z s u) (q : Nat) : Same z s (State.ringQueOff u q) := by
  unfold State.ringQueOff
  with_reducible repeat' (first | assumption | intro _ | apply State.freePlots_same | apply State.setQue_same | apply State.raise_same | apply State.showQue_same | apply State.put_same | apply ite_same | apply foldl_same | split | dsimp only | apply same_quesOn)
theorem State.ringDisable_same {z : Bool} {s u : State} (h : Same z s u) (b : Nat) (r : Nat) : Same z s (State.ringDisable u b r) := by
  unfold State.ringDisable
  with_reducible repeat' (first | assumption | intro _ | apply State.put_same | apply State.setCring_same | apply State.ringQueOff_same | apply ite_same | apply foldl_same | split | dsimp only | apply same_cmds)
theorem State.ringsDisable_same {z : Bool} {s u : State} (h : Same z s u) (b : Nat) : Same z s (State.ringsDisable u b) := by
  unfold State.ringsDisable
  with_reducible repeat' (first | assumption | intro _ | apply State.ringDisable_same | apply ite_same | apply foldl_same | split | dsimp only)
theorem State.boroughReset_same {z : Bool} {s u : State} (h : Same z s u) (b : Nat) : Same z s (State.boroughReset u b) := by
  unfold State.boroughReset
  with_reducible repeat' (first | assumption | intro _ | apply State.raise_same | apply State.put_same | apply State.suspendGrants_same | apply State.muteBeams_same | apply State.abortBorough_same | apply State.queReset_same | apply State.jobAbort_same | apply State.eventsDrop_same | apply State.deliveriesOff_same | apply State.ringsDisable_same | apply State.dxDone_same | apply State.bump_same | apply ite_same | apply foldl_same | split | dsimp only | apply same_tags)
theorem State.sheetWake_same {z : Bool} {s u : State} (h : Same z s u) (sh : Nat) : Same z s (State.sheetWake u sh) := by
  unfold State.sheetWake
  with_reducible repeat' (first | assumption | intro _ | apply State.put_same | apply ite_same | apply foldl_same | split | dsimp only)
theorem State.linkForget_same {z : Bool} {s u : State} (h : Same z s u) (sh : Nat) : Same z s (State.linkForget u sh) := by
  unfold State.linkForget
  with_reducible repeat' (first | assumption | intro _ | apply ite_same | apply foldl_same | split | dsimp only | apply same_links)
theorem State.setSheet_same {z : Bool} {s u : State} (h : Same z s u) (sh : Nat) (x : Sheet) : Same z s (State.setSheet u sh x) := by
  unfold State.setSheet
  with_reducible repeat' (first | assumption | intro _ | apply ite_same | apply foldl_same | split | dsimp only | apply same_sheets)
theorem State.laneTo_same {z : Bool} {s u : State} (h : Same z s u) (sh : Nat) (st : Nat) (l : Nat) : Same z s (State.laneTo u sh st l) := by
  unfold State.laneTo
  with_reducible repeat' (first | assumption | intro _ | apply State.put_same | apply ite_same | apply foldl_same | split | dsimp only)
theorem State.setPort_same {z : Bool} {s u : State} (h : Same z s u) (p : Nat) (x : Port) : Same z s (State.setPort u p x) := by
  unfold State.setPort
  with_reducible repeat' (first | assumption | intro _ | apply ite_same | apply foldl_same | split | dsimp only | apply same_ports)
theorem State.portDown_same {z : Bool} {s u : State} (h : Same z s u) (cause : Nat) (p : Nat) : Same z s (State.portDown u cause p) := by
  unfold State.portDown
  with_reducible repeat' (first | assumption | intro _ | apply State.raise_same | apply State.put_same | apply State.setPort_same | apply ite_same | apply foldl_same | split | dsimp only)
theorem State.etherDown_same {z : Bool} {s u : State} (h : Same z s u) (sh : Nat) : Same z s (State.etherDown u sh) := by
  unfold State.etherDown
  with_reducible repeat' (first | assumption | intro _ | apply State.portDown_same | apply ite_same | apply foldl_same | split | dsimp only)
theorem State.showXchg_same {z : Bool} {s u : State} (h : Same z s u) (sh : Nat) : Same z s (State.showXchg u sh) := by
  unfold State.showXchg
  with_reducible repeat' (first | assumption | intro _ | apply State.put_same | apply ite_same | apply foldl_same | split | dsimp only)
theorem State.setLnk_same {z : Bool} {s u : State} (h : Same z s u) (sh : Nat) (x : Link) : Same z s (State.setLnk u sh x) := by
  unfold State.setLnk
  with_reducible repeat' (first | assumption | intro _ | apply ite_same | apply foldl_same | split | dsimp only | apply same_links)
theorem State.substRefused_same {z : Bool} {s u : State} (h : Same z s u) (sh : Nat) (e : Exchange) (code : Nat) : Same z s (State.substRefused u sh e code) := by
  unfold State.substRefused
  with_reducible repeat' (first | assumption | intro _ | apply State.put_same | apply State.finishCmd_same | apply ite_same | apply foldl_same | split | dsimp only)
theorem State.spareSleep_same {z : Bool} {s u : State} (h : Same z s u) (sh : Nat) : Same z s (State.spareSleep u sh) := by
  unfold State.spareSleep
  with_reducible repeat' (first | assumption | intro _ | apply State.put_same | apply ite_same | apply foldl_same | split | dsimp only)
theorem State.xchgFail_same {z : Bool} {s u : State} (h : Same z s u) (sh : Nat) (xcode : Nat) (laneCode : Nat) : Same z s (State.xchgFail u sh xcode laneCode) := by
  unfold State.xchgFail
  with_reducible repeat' (first | assumption | intro _ | apply State.showXchg_same | apply State.put_same | apply State.setLnk_same | apply State.substRefused_same | apply State.raise_same | apply State.spareSleep_same | apply ite_same | apply foldl_same | split | dsimp only)
theorem State.timeLost_same {z : Bool} {s u : State} (h : Same z s u) (sh : Nat) : Same z s (State.timeLost u sh) := by
  unfold State.timeLost
  with_reducible repeat' (first | assumption | intro _ | apply State.toHoldover_same | apply ite_same | apply foldl_same | split | dsimp only)
theorem State.againFail_same {z : Bool} {s u : State} (h : Same z s u) (sh : Nat) : Same z s (State.againFail u sh) := by
  unfold State.againFail
  with_reducible repeat' (first | assumption | intro _ | apply State.xchgFail_same | apply State.setLnk_same | apply ite_same | apply foldl_same | split | dsimp only)
theorem State.linkLeave_same {z : Bool} {s u : State} (h : Same z s u) (sh : Nat) (st : Nat) (own : Bool) : Same z s (State.linkLeave u sh st own) := by
  unfold State.linkLeave
  with_reducible repeat' (first | assumption | intro _ | apply State.put_same | apply State.xchgFail_same | apply State.setLnk_same | apply State.timeLost_same | apply State.raise_same | apply State.againFail_same | apply ite_same | apply foldl_same | split | dsimp only)
theorem State.sheetStop_same {z : Bool} {s u : State} (h : Same z s u) (sh : Nat) : Same z s (State.sheetStop u sh) := by
  unfold State.sheetStop
  with_reducible repeat' (first | assumption | intro _ | apply State.put_same | apply State.setSheet_same | apply State.laneTo_same | apply State.etherDown_same | apply State.linkLeave_same | apply ite_same | apply foldl_same | split | dsimp only)
theorem State.sheetSleep_same {z : Bool} {s u : State} (h : Same z s u) (sh : Nat) : Same z s (State.sheetSleep u sh) := by
  unfold State.sheetSleep
  with_reducible repeat' (first | assumption | intro _ | apply State.put_same | apply State.sheetStop_same | apply ite_same | apply foldl_same | split | dsimp only)
theorem State.sheetsFresh_same {z : Bool} {s u : State} (h : Same z s u) : Same z s (State.sheetsFresh u) := by
  unfold State.sheetsFresh
  with_reducible repeat' (first | assumption | intro _ | apply State.sheetWake_same | apply State.linkForget_same | apply State.sheetSleep_same | apply ite_same | apply foldl_same | split | dsimp only)
theorem State.engSwapDone_same {z : Bool} {s u : State} (h : Same z s u) (x : EngSwap) : Same z s (State.engSwapDone u x) := by
  unfold State.engSwapDone
  with_reducible repeat' (first | assumption | intro _ | apply State.put_same | apply State.raise_same | apply State.useSpare_same | apply ite_same | apply foldl_same | split | dsimp only | apply same_engSwaps)
theorem State.fwRun_same {z : Bool} {s u : State} (h : Same z s u) (img : Nat) : Same z s (State.fwRun u img) := by
  unfold State.fwRun
  with_reducible repeat' (first | assumption | intro _ | apply State.wn_same | apply State.put_same | apply ite_same | apply foldl_same | split | dsimp only | apply same_start)
theorem State.imageBad_same {z : Bool} {s u : State} (h : Same z s u) (img : Nat) : Same z s (State.imageBad u img) := by
  unfold State.imageBad
  with_reducible repeat' (first | assumption | intro _ | apply State.raise_same | apply ite_same | apply foldl_same | split | dsimp only)
theorem State.fwNone_same {z : Bool} {s u : State} (h : Same z s u) : Same z s (State.fwNone u) := by
  unfold State.fwNone
  with_reducible repeat' (first | assumption | intro _ | apply State.raise_same | apply State.wn_same | apply State.put_same | apply ite_same | apply foldl_same | split | dsimp only)
theorem State.fwStart_same {z : Bool} {s u : State} (h : Same z s u) : Same z s (State.fwStart u) := by
  unfold State.fwStart
  with_reducible repeat' (first | assumption | intro _ | apply State.put_same | apply State.fwRun_same | apply State.imageBad_same | apply State.fwNone_same | apply ite_same | apply foldl_same | split | dsimp only | apply same_start)
theorem State.instances_same {z : Bool} {s u : State} (h : Same z s u) : Same z s (State.instances u) := by
  unfold State.instances
  with_reducible repeat' (first | assumption | intro _ | apply State.bump_same | apply ite_same | apply foldl_same | split | dsimp only)
theorem State.sigHold_same {z : Bool} {s u : State} (h : Same z s u) : Same z s (State.sigHold u) := by
  unfold State.sigHold
  with_reducible repeat' (first | assumption | intro _ | apply State.put_same | apply ite_same | apply foldl_same | split | dsimp only)
theorem State.excShadow_same {z : Bool} {s u : State} (h : Same z s u) : Same z s (State.excShadow u) := by
  unfold State.excShadow
  with_reducible repeat' (first | assumption | intro _ | apply State.wr_same | apply ite_same | apply foldl_same | split | dsimp only)
theorem State.linLoad_same {z : Bool} {s u : State} (h : Same z s u) (c : Nat) : Same z s (State.linLoad u c) := by
  unfold State.linLoad
  exact ite_same (foldl_same h (fun _ _ k => State.fwr_same (State.wn_same k _ _) _ _)) (State.raise_same (State.put_same h _ _) _ _ _ _ _ _ _)
theorem State.linLoadAll_same {z : Bool} {s u : State} (h : Same z s u) : Same z s (State.linLoadAll u) :=
  foldl_same h (fun _ _ k => State.linLoad_same k _)
theorem State.warmReset_same {z : Bool} {s u : State} (h : Same z s u) (cause : Nat) : Same z s (State.warmReset u cause) := by
  have k : Same z s (u.engSwaps.foldl State.engSwapDone u.sheetsFresh) :=
    foldl_same (State.sheetsFresh_same h) (fun _ _ k => State.engSwapDone_same k _)
  unfold State.warmReset
  revert k; generalize u.engSwaps.foldl State.engSwapDone u.sheetsFresh = v; intro k
  refine State.fwStart_same (foldl_same (State.put_same (State.put_same (State.put_same (State.put_same (foldl_same (State.wn_same (State.wn_same
    (State.instances_same (State.sigHold_same (State.excShadow_same (State.linLoadAll_same ?_)))) _ _) _ _) (fun _ _ k => ite_same (State.put_same k _ _) k)) _ _) _ _) _ _) _ _) (fun _ _ k => State.raise_same k _ _ _ _ _ _ _))
  exact ⟨k.1, k.2, k.3, k.4, k.5, k.6, k.7, k.8⟩
theorem State.warmRequest_same {z : Bool} {s u : State} (h : Same z s u) (cause : Nat) : Same z s (State.warmRequest u cause) := by
  unfold State.warmRequest
  with_reducible repeat' (first | assumption | intro _ | apply State.warmReset_same | apply ite_same | apply foldl_same | split | dsimp only | apply same_start)
theorem State.fwRequest_same {z : Bool} {s u : State} (h : Same z s u) : Same z s (State.fwRequest u) := by
  unfold State.fwRequest
  with_reducible repeat' (first | assumption | intro _ | apply State.fwStart_same | apply State.raise_same | apply ite_same | apply foldl_same | split | dsimp only | apply same_start)
theorem State.rstCtlWrite_same {z : Bool} {s u : State} (h : Same z s u) (w : Wr) : Same z s (State.rstCtlWrite u w) := by
  unfold State.rstCtlWrite
  with_reducible repeat' (first | assumption | intro _ | apply State.widthHit_same | apply State.raise_same | apply State.warmRequest_same | apply State.fwRequest_same | apply ite_same | apply foldl_same | split | dsimp only)
theorem State.acceptNew_same {z : Bool} {s u : State} (h : Same z s u) (op : Nat) (stg : Bool) (h0 : Packet → State → CmdOut × State) (p : Packet) (k : ∀ x0 v, Same z s v → Same z s (h0 x0 v).2) : Same z s (State.acceptNew u op stg h0 p) := by
  unfold State.acceptNew
  with_reducible repeat' (first | assumption | intro _ | apply k | apply State.setTag_same | apply State.rateTake_same | apply State.complete_same | apply runHandler_same | apply State.boroughReset_same | apply State.rstCtlWrite_same | apply ite_same | apply foldl_same | apply ite_same2 | apply foldl_same2 | split | refine pairSame2 (by assumption) ?_ | dsimp only | apply same_cmds)
theorem State.meetTag_same {z : Bool} {s u : State} (h : Same z s u) (op : Nat) (stg : Bool) (h0 : Packet → State → CmdOut × State) (p : Packet) (k : ∀ x0 v, Same z s v → Same z s (h0 x0 v).2) : Same z s (State.meetTag u op stg h0 p) := by
  unfold State.meetTag
  with_reducible repeat' (first | assumption | intro _ | apply k | apply State.acceptNew_same | apply State.sendOn_same | apply State.bumpSat_same | apply State.cringDone_same | apply State.bareReply_same | apply ite_same | apply foldl_same | apply ite_same2 | apply foldl_same2 | split | dsimp only)
theorem State.takePacket_same {z : Bool} {s u : State} (h : Same z s u) (op : Nat) (stg : Bool) (h0 : Packet → State → CmdOut × State) (p : Packet) (k : ∀ x0 v, Same z s v → Same z s (h0 x0 v).2) : Same z s (State.takePacket u op stg h0 p) := by
  unfold State.takePacket
  with_reducible repeat' (first | assumption | intro _ | apply k | apply State.takeSlots_same | apply State.bareReply_same | apply State.meetTag_same | apply ite_same | apply foldl_same | apply ite_same2 | apply foldl_same2 | split | dsimp only)
theorem State.say_same {z : Bool} {s u : State} (h : Same z s u) (status : Nat) (res : List Word) : Same z s (State.say u status res).2 := by
  unfold State.say
  with_reducible repeat' (first | assumption | intro _ | apply ite_same | apply foldl_same | apply ite_same2 | apply foldl_same2 | split | dsimp only)
theorem anyCmd_same {z : Bool} {s u : State} (h : Same z s u) (ok : Bool) (f : State → CmdOut × State) (k : ∀ v, Same z s v → Same z s (f v).2) : Same z s (anyCmd ok u f).2 := by
  unfold anyCmd
  with_reducible repeat' (first | assumption | intro _ | apply k | apply State.say_same | apply ite_same | apply foldl_same | apply ite_same2 | apply foldl_same2 | split | refine pairSame2 (by assumption) ?_ | dsimp only)
theorem opCfgIdent_same {z : Bool} {s u : State} (h : Same z s u) (p : Packet) : Same z s (opCfgIdent p u).2 := by
  unfold opCfgIdent
  with_reducible repeat' (first | assumption | intro _ | apply anyCmd_same | apply State.say_same | apply ite_same | apply foldl_same | apply ite_same2 | apply foldl_same2 | split | refine pairSame2 (by assumption) ?_ | dsimp only)
theorem ownerCmd_same {z : Bool} {s u : State} (h : Same z s u) (ok : Bool) (p : Packet) (f : State → CmdOut × State) (k : ∀ v, Same z s v → Same z s (f v).2) : Same z s (ownerCmd ok p u f).2 := by
  unfold ownerCmd
  with_reducible repeat' (first | assumption | intro _ | apply k | apply State.say_same | apply ite_same | apply foldl_same | apply ite_same2 | apply foldl_same2 | split | refine pairSame2 (by assumption) ?_ | dsimp only)
theorem State.hubIdWrite_same {z : Bool} {s u : State} (h : Same z s u) (w : Wr) : Same z s (State.hubIdWrite u w) := by
  unfold State.hubIdWrite
  with_reducible repeat' (first | assumption | intro _ | apply State.raise_same | apply State.mergeRaw_same | apply ite_same | apply foldl_same | split | dsimp only)
theorem opCfgHubId_same {z : Bool} {s u : State} (h : Same z s u) (p : Packet) : Same z s (opCfgHubId p u).2 := by
  unfold opCfgHubId
  with_reducible repeat' (first | assumption | intro _ | apply ownerCmd_same | apply State.say_same | apply State.hubIdWrite_same | apply ite_same | apply foldl_same | apply ite_same2 | apply foldl_same2 | split | refine pairSame2 (by assumption) ?_ | dsimp only)
theorem State.roleSaid_same {z : Bool} {s u : State} (h : Same z s u) (v : State) : Same z s (State.roleSaid v u) := by
  unfold State.roleSaid
  with_reducible repeat' (first | assumption | intro _ | apply State.raise_same | apply ite_same)
theorem State.keyLoad_same {z : Bool} {s u : State} (h : Same z s u) (b : Nat) (key : List Byte) : Same z s (State.keyLoad u b key) := by
  unfold State.keyLoad
  with_reducible repeat' (first | assumption | intro _ | apply State.wn_same | apply State.roleSaid_same | apply ite_same | apply foldl_same | split | dsimp only | apply same_envs_keys)
theorem opCfgKeyLoad_same {z : Bool} {s u : State} (h : Same z s u) (p : Packet) : Same z s (opCfgKeyLoad p u).2 := by
  unfold opCfgKeyLoad
  with_reducible repeat' (first | assumption | intro _ | apply ownerCmd_same | apply State.say_same | apply State.keyLoad_same | apply ite_same | apply foldl_same | apply ite_same2 | apply foldl_same2 | split | refine pairSame2 (by assumption) ?_ | dsimp only)
theorem State.keyClear_same {z : Bool} {s u : State} (h : Same z s u) (b : Nat) : Same z s (State.keyClear u b) := by
  unfold State.keyClear
  with_reducible repeat' (first | assumption | intro _ | apply State.wn_same | apply State.roleSaid_same | apply ite_same | apply foldl_same | split | dsimp only | apply same_keys)
theorem opCfgKeyClear_same {z : Bool} {s u : State} (h : Same z s u) (p : Packet) : Same z s (opCfgKeyClear p u).2 := by
  unfold opCfgKeyClear
  with_reducible repeat' (first | assumption | intro _ | apply ownerCmd_same | apply State.say_same | apply State.keyClear_same | apply ite_same | apply foldl_same | apply ite_same2 | apply foldl_same2 | split | refine pairSame2 (by assumption) ?_ | dsimp only)
theorem opCfgKeyOwn_same {z : Bool} {s u : State} (h : Same z s u) (p : Packet) : Same z s (opCfgKeyOwn p u).2 := by
  unfold opCfgKeyOwn
  with_reducible repeat' (first | assumption | intro _ | apply anyCmd_same | apply State.say_same | apply State.keyLoad_same | apply ite_same | apply foldl_same | apply ite_same2 | apply foldl_same2 | split | refine pairSame2 (by assumption) ?_ | dsimp only)
theorem opCfgUdp_same {z : Bool} {s u : State} (h : Same z s u) (p : Packet) : Same z s (opCfgUdp p u).2 := by
  unfold opCfgUdp
  with_reducible repeat' (first | assumption | intro _ | apply ownerCmd_same | apply State.say_same | apply State.mergeRaw_same | apply ite_same | apply foldl_same | apply ite_same2 | apply foldl_same2 | split | refine pairSame2 (by assumption) ?_ | dsimp only)
theorem State.logWord_same {z : Bool} {s u : State} (h : Same z s u) (fn : Nat) (off : Nat) : Same z s (State.logWord u fn off).2 := by
  unfold State.logWord
  with_reducible repeat' (first | assumption | intro _ | apply State.draw_same | apply ite_same | apply foldl_same | apply ite_same2 | apply foldl_same2 | split | refine pairSame2 (by assumption) ?_ | dsimp only)
theorem State.prbsCount_same {z : Bool} {s u : State} (h : Same z s u) (sh : Nat) (l : Nat) (n : Nat) (e : Nat) : Same z s (State.prbsCount u sh l n e) := by
  unfold State.prbsCount
  with_reducible repeat' (first | assumption | intro _ | apply State.wr64_same | apply State.raise_same | apply ite_same | apply foldl_same | split | dsimp only)
theorem State.prbsCatch_same {z : Bool} {s u : State} (h : Same z s u) (sh : Nat) (l : Nat) : Same z s (State.prbsCatch u sh l) := by
  unfold State.prbsCatch
  with_reducible repeat' (first | assumption | intro _ | apply State.draw_same | apply State.prbsCount_same | apply ite_same | apply foldl_same | apply ite_same2 | apply foldl_same2 | split | refine pairSame2 (by assumption) ?_ | dsimp only)
theorem State.peek_same {z : Bool} {s u : State} (h : Same z s u) (fn : Nat) (off : Nat) : Same z s (State.peek u fn off).2 := by
  unfold State.peek
  with_reducible repeat' (first | assumption | intro _ | apply State.logWord_same | apply State.pageWin_same | apply State.draw_same | apply State.prbsCatch_same | apply ite_same | apply foldl_same | apply ite_same2 | apply foldl_same2 | split | refine pairSame2 (by assumption) ?_ | dsimp only)
theorem State.peekWords_same {z : Bool} {s u : State} (h : Same z s u) (off : Nat) (n : Nat) : Same z s (State.peekWords u off n).2 := by
  unfold State.peekWords
  with_reducible repeat' (first | assumption | intro _ | apply State.peek_same | apply ite_same | apply foldl_same | apply ite_same2 | apply foldl_same2 | split | refine pairSame2 (by assumption) ?_ | dsimp only)
theorem opCfgRegRead_same {z : Bool} {s u : State} (h : Same z s u) (p : Packet) : Same z s (opCfgRegRead p u).2 := by
  unfold opCfgRegRead
  with_reducible repeat' (first | assumption | intro _ | apply ownerCmd_same | apply State.say_same | apply State.peekWords_same | apply ite_same | apply foldl_same | apply ite_same2 | apply foldl_same2 | split | refine pairSame2 (by assumption) ?_ | dsimp only)
theorem State.twinWrite_same {z : Bool} {s u : State} (h : Same z s u) (j : Nat) (w : Wr) : Same z s (State.twinWrite u j w) := by
  unfold State.twinWrite
  with_reducible repeat' (first | assumption | intro _ | apply State.raise_same | apply State.mergeRaw_same | apply ite_same | apply foldl_same | split | dsimp only)
theorem State.ptmStart_same {z : Bool} {s u : State} (h : Same z s u) : Same z s (State.ptmStart u) := by
  unfold State.ptmStart
  with_reducible repeat' (first | assumption | intro _ | apply ite_same | apply foldl_same | split | dsimp only | apply same_ptm)
theorem State.ptmCtlWrite_same {z : Bool} {s u : State} (h : Same z s u) (w : Wr) : Same z s (State.ptmCtlWrite u w) := by
  unfold State.ptmCtlWrite
  with_reducible repeat' (first | assumption | intro _ | apply State.mergeRaw_same | apply State.ptmStart_same | apply ite_same | apply foldl_same | split | dsimp only)
theorem State.imageVerify_same {z : Bool} {s u : State} (h : Same z s u) : Same z s (State.imageVerify u) := by
  unfold State.imageVerify
  with_reducible repeat' (first | assumption | intro _ | apply State.put_same | apply State.imageBad_same | apply ite_same | apply foldl_same | split | dsimp only)
theorem State.imgCtlWrite_same {z : Bool} {s u : State} (h : Same z s u) (w : Wr) : Same z s (State.imgCtlWrite u w) := by
  unfold State.imgCtlWrite
  with_reducible repeat' (first | assumption | intro _ | apply State.mergeRaw_same | apply State.imageVerify_same | apply ite_same | apply foldl_same | split | dsimp only)
theorem State.monSrcWrite_same {z : Bool} {s u : State} (h : Same z s u) (j : Nat) (k0 : Nat) (w : Wr) : Same z s (State.monSrcWrite u j k0 w) := by
  unfold State.monSrcWrite
  with_reducible repeat' (first | assumption | intro _ | apply State.raise_same | apply State.mergeRaw_same | apply ite_same | apply foldl_same | split | dsimp only)
theorem State.setImageWord_same {z : Bool} {s u : State} (h : Same z s u) (img : Nat) (i : Nat) (w : Word) : Same z s (State.setImageWord u img i w) := by
  unfold State.setImageWord
  with_reducible repeat' (first | assumption | intro _ | apply ite_same | apply foldl_same | split | dsimp only | apply same_images)
theorem State.disarmPlots_same {z : Bool} {s u : State} (h : Same z s u) : Same z s (State.disarmPlots u) := by
  unfold State.disarmPlots
  with_reducible repeat' (first | assumption | intro _ | apply ite_same | apply foldl_same | split | dsimp only | apply same_plots)
theorem State.sysStore_same {z : Bool} {s u : State} (h : Same z s u) (o : Nat) (w : Wr) : Same z s (State.sysStore u o w) := by
  unfold State.sysStore
  with_reducible repeat' (first | assumption | intro _ | apply State.hubIdWrite_same | apply State.twinWrite_same | apply State.ptmCtlWrite_same | apply State.rstCtlWrite_same | apply State.imgCtlWrite_same | apply State.pqCtlWrite_same | apply State.pqLostWrite_same | apply State.monSrcWrite_same | apply State.setImageWord_same | apply State.mergeRaw_same | apply State.disarmPlots_same | apply ite_same | apply foldl_same | split | dsimp only)
theorem State.domStamp_same {z : Bool} {s u : State} (h : Same z s u) (d : Nat) : Same z s (State.domStamp u d) := by
  unfold State.domStamp
  with_reducible repeat' (first | assumption | intro _ | apply ite_same | apply foldl_same | split | dsimp only | apply same_spareBook)
theorem State.refuseItems_same {z : Bool} {s u : State} (h : Same z s u) (d : Nat) : Same z s (State.refuseItems u d) := by
  unfold State.refuseItems
  with_reducible repeat' (first | assumption | intro _ | apply State.draw_same | apply State.bump_same | apply ite_same | apply foldl_same | apply ite_same2 | apply foldl_same2 | split | refine pairSame2 (by assumption) ?_ | dsimp only)
theorem State.pwrDown_same {z : Bool} {s u : State} (h : Same z s u) (d : Nat) : Same z s (State.pwrDown u d).2 := by
  unfold State.pwrDown
  with_reducible repeat' (first | assumption | intro _ | apply State.put_same | apply State.domStamp_same | apply State.refuseItems_same | apply ite_same | apply foldl_same | apply ite_same2 | apply foldl_same2 | split | dsimp only)
theorem State.pwrUp_same {z : Bool} {s u : State} (h : Same z s u) (d : Nat) : Same z s (State.pwrUp u d).2 := by
  unfold State.pwrUp
  with_reducible repeat' (first | assumption | intro _ | apply State.put_same | apply State.coreStart_same | apply State.domStamp_same | apply ite_same | apply foldl_same | apply ite_same2 | apply foldl_same2 | split | dsimp only)
theorem State.pwrDomWrite_same {z : Bool} {s u : State} (h : Same z s u) (d : Nat) (w : Wr) : Same z s (State.pwrDomWrite u d w) := by
  unfold State.pwrDomWrite
  with_reducible repeat' (first | assumption | intro _ | apply State.raise_same | apply State.mergeRaw_same | apply State.pwrDown_same | apply State.pwrUp_same | apply ite_same | apply foldl_same | apply ite_same2 | apply foldl_same2 | split | refine pairSame2 (by assumption) ?_ | dsimp only)
theorem State.portWrite_same {z : Bool} {s u : State} (h : Same z s u) (r : Reg) (w : Wr) : Same z s (State.portWrite u r w) := by
  unfold State.portWrite
  with_reducible repeat' (first | assumption | intro _ | apply State.raise_same | apply State.mergeRaw_same | apply ite_same | apply foldl_same | split | dsimp only)
theorem State.keyCtlWrite_same {z : Bool} {s u : State} (h : Same z s u) (w : Wr) : Same z s (State.keyCtlWrite u w) := by
  unfold State.keyCtlWrite
  with_reducible repeat' (first | assumption | intro _ | apply State.mergeRaw_same | apply State.keyLoad_same | apply State.keyClear_same | apply ite_same | apply foldl_same | split | dsimp only | apply same_keyStage)
theorem State.edgeCfgWrite_same {z : Bool} {s u : State} (h : Same z s u) (n : Nat) (w : Wr) : Same z s (State.edgeCfgWrite u n w) := by
  unfold State.edgeCfgWrite
  with_reducible repeat' (first | assumption | intro _ | apply State.mergeRaw_same | apply ite_same | apply foldl_same | split | dsimp only | apply same_edges)
theorem State.timeStore_same {z : Bool} {s u : State} (h : Same z s u) (o : Nat) (key : Nat) (w : Wr) : Same z s (State.timeStore u o key w) := by
  unfold State.timeStore
  with_reducible repeat' (first | assumption | intro _ | apply State.pwrDomWrite_same | apply State.adjWrite_same | apply State.discWrite_same | apply State.pairHalf_same | apply State.calCtlWrite_same | apply State.coreStatWrite_same | apply State.freqCfgWrite_same | apply State.portWrite_same | apply State.keyCtlWrite_same | apply State.mergeRaw_same | apply State.edgeCfgWrite_same | apply ite_same | apply foldl_same | split | dsimp only | apply same_keyStage)
theorem State.brgCtlWrite_same {z : Bool} {s u : State} (h : Same z s u) (b : Nat) (w : Wr) : Same z s (State.brgCtlWrite u b w) := by
  unfold State.brgCtlWrite
  with_reducible repeat' (first | assumption | intro _ | apply State.mergeRaw_same | apply State.boroughReset_same | apply ite_same | apply foldl_same | split | dsimp only)
theorem State.ringQueOn_same {z : Bool} {s u : State} (h : Same z s u) (b : Nat) (q : Nat) : Same z s (State.ringQueOn u b q) := by
  unfold State.ringQueOn
  with_reducible repeat' (first | assumption | intro _ | apply State.put_same | apply State.raise_same | apply State.showQue_same | apply State.setQue_same | apply ite_same | apply foldl_same | split | dsimp only | apply same_quesOn)
theorem State.ringOn_same {z : Bool} {s u : State} (h : Same z s u) (b : Nat) (r : Nat) : Same z s (State.ringOn u b r) := by
  unfold State.ringOn
  with_reducible repeat' (first | assumption | intro _ | apply State.put_same | apply State.setCring_same | apply State.ringQueOn_same | apply ite_same | apply foldl_same | split | dsimp only)
theorem State.ringEnable_same {z : Bool} {s u : State} (h : Same z s u) (b : Nat) (r : Nat) : Same z s (State.ringEnable u b r) := by
  unfold State.ringEnable
  with_reducible repeat' (first | assumption | intro _ | apply State.put_same | apply State.ringOn_same | apply ite_same | apply foldl_same | split | dsimp only)
theorem State.cringCtlWrite_same {z : Bool} {s u : State} (h : Same z s u) (b : Nat) (r : Nat) (w : Wr) : Same z s (State.cringCtlWrite u b r w) := by
  unfold State.cringCtlWrite
  with_reducible repeat' (first | assumption | intro _ | apply State.reservedHit_same | apply State.raise_same | apply State.mergeRaw_same | apply State.ringEnable_same | apply State.ringDisable_same | apply ite_same | apply foldl_same | split | dsimp only)
theorem State.brgStore_same {z : Bool} {s u : State} (h : Same z s u) (o : Nat) (w : Wr) : Same z s (State.brgStore u o w) := by
  unfold State.brgStore
  with_reducible repeat' (first | assumption | intro _ | apply State.brgCtlWrite_same | apply State.cringCtlWrite_same | apply State.pairHalf_same | apply State.mergeRaw_same | apply ite_same | apply foldl_same | split | dsimp only)
theorem State.arbCtlWrite_same {z : Bool} {s u : State} (h : Same z s u) (k0 : Nat) (w : Wr) : Same z s (State.arbCtlWrite u k0 w) := by
  unfold State.arbCtlWrite
  with_reducible repeat' (first | assumption | intro _ | apply State.raise_same | apply State.mergeRaw_same | apply ite_same | apply foldl_same | split | dsimp only)
theorem State.arbReqWrite_same {z : Bool} {s u : State} (h : Same z s u) (k0 : Nat) (r : Nat) (w : Wr) : Same z s (State.arbReqWrite u k0 r w) := by
  unfold State.arbReqWrite
  with_reducible repeat' (first | assumption | intro _ | apply State.mergeRaw_same | apply ite_same | apply foldl_same | split | dsimp only)
theorem State.escSet_same {z : Bool} {s u : State} (h : Same z s u) (near : Nat) (far : Nat) : OptSame z s (State.escSet u near far) := by
  unfold State.escSet
  with_reducible repeat' (first | assumption | intro _ | apply State.put_same | apply State.setEsc_same | apply ite_same | apply foldl_same | apply ite_optSame | apply optSame_some | apply optSame_none | split | dsimp only)
theorem State.escWrite_same {z : Bool} {s u : State} (h : Same z s u) (w : Wr) : Same z s (State.escWrite u w) := by
  unfold State.escWrite
  with_reducible repeat' (first | assumption | intro _ | apply State.escSet_same | apply State.raise_same | apply ite_same | apply foldl_same | split | refine optSame_get (by assumption) ?_ | apply optSame_getD | apply optSame_map | dsimp only)
theorem State.queCfg0Write_same {z : Bool} {s u : State} (h : Same z s u) (q : Nat) (w : Wr) : Same z s (State.queCfg0Write u q w) := by
  unfold State.queCfg0Write
  with_reducible repeat' (first | assumption | intro _ | apply State.mergeRaw_same | apply State.raise_same | apply State.put_same | apply ite_same | apply foldl_same | split | dsimp only)
theorem State.jobCtlWrite_same {z : Bool} {s u : State} (h : Same z s u) (b : Nat) (w : Wr) : Same z s (State.jobCtlWrite u b w) := by
  unfold State.jobCtlWrite
  with_reducible repeat' (first | assumption | intro _ | apply State.raise_same | apply State.put_same | apply State.jobEnd_same | apply State.mergeRaw_same | apply State.dxDone_same | apply State.dxFill_same | apply ite_same | apply foldl_same | split | dsimp only)
theorem State.jobMore_same {z : Bool} {s u : State} (h : Same z s u) (b : Nat) : Same z s (State.jobMore u b) := by
  unfold State.jobMore
  with_reducible repeat' (first | assumption | intro _ | apply State.emit_same | apply State.dxFill_same | apply State.put_same | apply ite_same | apply foldl_same | split | dsimp only | apply same_jobs)
theorem State.jobStatWrite_same {z : Bool} {s u : State} (h : Same z s u) (b : Nat) (w : Wr) : Same z s (State.jobStatWrite u b w) := by
  unfold State.jobStatWrite
  with_reducible repeat' (first | assumption | intro _ | apply State.jobAbort_same | apply State.jobMore_same | apply ite_same | apply foldl_same | split | dsimp only)
theorem State.jobPiWrite_same {z : Bool} {s u : State} (h : Same z s u) (b : Nat) (w : Wr) : Same z s (State.jobPiWrite u b w) := by
  unfold State.jobPiWrite
  with_reducible repeat' (first | assumption | intro _ | apply State.mergeRaw_same | apply State.raise_same | apply State.dxFill_same | apply ite_same | apply foldl_same | split | dsimp only)
theorem State.pageWinWrite_same {z : Bool} {s u : State} (h : Same z s u) : Same z s (State.pageWinWrite u) := by
  unfold State.pageWinWrite
  with_reducible repeat' (first | assumption | intro _ | apply State.raise_same | apply ite_same | apply foldl_same | split | dsimp only)
theorem State.storeStore_same {z : Bool} {s u : State} (h : Same z s u) (o : Nat) (key : Nat) (q : Nat) (w : Wr) : Same z s (State.storeStore u o key q w) := by
  unfold State.storeStore
  with_reducible repeat' (first | assumption | intro _ | apply State.arbCtlWrite_same | apply State.arbReqWrite_same | apply State.mergeRaw_same | apply State.escWrite_same | apply State.quotaWrite_same | apply State.queCtlWrite_same | apply State.queCfg0Write_same | apply State.queCfgWrite_same | apply State.rawWrite_same | apply State.jobCtlWrite_same | apply State.jobStatWrite_same | apply State.pairHalf_same | apply State.jobPiWrite_same | apply State.pageWinWrite_same | apply ite_same | apply foldl_same | split | dsimp only)
theorem State.dqWrite_same {z : Bool} {s u : State} (h : Same z s u) (w : Wr) : Same z s (State.dqWrite u w) := by
  unfold State.dqWrite
  with_reducible repeat' (first | assumption | intro _ | apply State.raise_same | apply State.mergeRaw_same | apply ite_same | apply foldl_same | split | dsimp only)
theorem State.trgStore_same {z : Bool} {s u : State} (h : Same z s u) (o : Nat) (w : Wr) : Same z s (State.trgStore u o w) := by
  unfold State.trgStore
  with_reducible repeat' (first | assumption | intro _ | apply State.ringCtlWrite_same | apply State.trgNetWrite_same | apply State.trgCfgWrite_same | apply State.trgStatWrite_same | apply State.mergeRaw_same | apply State.trgWordWrite_same | apply State.portWrite_same | apply State.dqWrite_same | apply State.pairHalf_same | apply ite_same | apply foldl_same | split | dsimp only)
theorem State.rewind_same {z : Bool} {s u : State} (h : Same z s u) (r : Nat) (t : Int) (q : Nat) : Same z s (State.rewind u r t q) := by
  unfold State.rewind
  with_reducible repeat' (first | assumption | intro _ | apply State.setQue_same | apply ite_same | apply foldl_same | split | dsimp only)
theorem State.rewindPair_same {z : Bool} {s u : State} (h : Same z s u) (j : Nat) (r : Nat) : Same z s (State.rewindPair u j r) := by
  unfold State.rewindPair
  with_reducible repeat' (first | assumption | intro _ | apply State.rewind_same | apply ite_same | apply foldl_same | split | dsimp only)
theorem State.mirrorBack_same {z : Bool} {s u : State} (h : Same z s u) (r : Nat) (q : Nat) : Same z s (State.mirrorBack u r q) := by
  unfold State.mirrorBack
  with_reducible repeat' (first | assumption | intro _ | apply State.raise_same | apply State.setQue_same | apply ite_same | apply foldl_same | split | dsimp only)
theorem State.sideRestore_same {z : Bool} {s u : State} (h : Same z s u) (p : Nat) : Same z s (State.sideRestore u p) := by
  unfold State.sideRestore
  with_reducible repeat' (first | assumption | intro _ | apply State.raise_same | apply State.put_same | apply State.rewindPair_same | apply State.mirrorBack_same | apply State.setPort_same | apply ite_same | apply foldl_same | split | dsimp only)
theorem State.redHbWrite_same {z : Bool} {s u : State} (h : Same z s u) (w : Wr) : Same z s (State.redHbWrite u w) := by
  unfold State.redHbWrite
  with_reducible repeat' (first | assumption | intro _ | apply State.raise_same | apply State.mergeRaw_same | apply State.setPort_same | apply State.sideRestore_same | apply ite_same | apply foldl_same | split | dsimp only)
theorem State.rxsWrite_same {z : Bool} {s u : State} (h : Same z s u) (w : Wr) : Same z s (State.rxsWrite u w) := by
  unfold State.rxsWrite
  with_reducible repeat' (first | assumption | intro _ | apply State.raise_same | apply State.mergeRaw_same | apply ite_same | apply foldl_same | split | dsimp only)
theorem State.macCfgWrite_same {z : Bool} {s u : State} (h : Same z s u) (m0 : Nat) (w : Wr) : Same z s (State.macCfgWrite u m0 w) := by
  unfold State.macCfgWrite
  with_reducible repeat' (first | assumption | intro _ | apply State.raise_same | apply State.setPort_same | apply State.portDown_same | apply State.put_same | apply ite_same | apply foldl_same | split | dsimp only)
theorem State.switchOver_same {z : Bool} {s u : State} (h : Same z s u) (j : Nat) (r : Nat) (cause : Nat) : Same z s (State.switchOver u j r cause) := by
  unfold State.switchOver
  with_reducible repeat' (first | assumption | intro _ | apply State.put_same | apply State.rewindPair_same | apply State.raise_same | apply ite_same | apply foldl_same | split | dsimp only)
theorem State.sideFail_same {z : Bool} {s u : State} (h : Same z s u) (p : Nat) (cause : Nat) : Same z s (State.sideFail u p cause) := by
  unfold State.sideFail
  with_reducible repeat' (first | assumption | intro _ | apply State.put_same | apply State.setPort_same | apply State.raise_same | apply State.switchOver_same | apply ite_same | apply foldl_same | split | dsimp only)
theorem State.sideFresh_same {z : Bool} {s u : State} (h : Same z s u) (j : Nat) (r : Nat) : Same z s (State.sideFresh u j r) := by
  unfold State.sideFresh
  with_reducible repeat' (first | assumption | intro _ | apply State.put_same | apply State.setPort_same | apply State.sideFail_same | apply ite_same | apply foldl_same | split | dsimp only)
theorem State.sideWrite_same {z : Bool} {s u : State} (h : Same z s u) (j : Nat) (r : Nat) : Same z s (State.sideWrite u j r) := by
  unfold State.sideWrite
  with_reducible repeat' (first | assumption | intro _ | apply State.rewindPair_same | apply State.raise_same | apply State.put_same | apply ite_same | apply foldl_same | split | dsimp only)
theorem State.pairWrite_same {z : Bool} {s u : State} (h : Same z s u) (j : Nat) (w : Wr) : Same z s (State.pairWrite u j w) := by
  unfold State.pairWrite
  with_reducible repeat' (first | assumption | intro _ | apply State.raise_same | apply State.mergeRaw_same | apply State.sideFresh_same | apply State.sideWrite_same | apply ite_same | apply foldl_same | split | dsimp only)
theorem State.pairRegWrite_same {z : Bool} {s u : State} (h : Same z s u) (j : Nat) (w : Wr) : Same z s (State.pairRegWrite u j w) := by
  unfold State.pairRegWrite
  with_reducible repeat' (first | assumption | intro _ | apply State.pairWrite_same | apply State.raise_same | apply ite_same | apply foldl_same | split | dsimp only)
theorem State.netStore_same {z : Bool} {s u : State} (h : Same z s u) (o : Nat) (w : Wr) : Same z s (State.netStore u o w) := by
  unfold State.netStore
  with_reducible repeat' (first | assumption | intro _ | apply State.redHbWrite_same | apply State.rxsWrite_same | apply State.macCfgWrite_same | apply State.xferWrite_same | apply State.edgeCtlWrite_same | apply State.sigCfgWrite_same | apply State.sigOfsWrite_same | apply State.mergeRaw_same | apply State.pairRegWrite_same | apply ite_same | apply foldl_same | split | dsimp only)
theorem State.convStore_same {z : Bool} {s u : State} (h : Same z s u) (o : Nat) (w : Wr) : Same z s (State.convStore u o w) := by
  unfold State.convStore
  with_reducible repeat' (first | assumption | intro _ | apply State.sfeCtlWrite_same | apply State.refCtlWrite_same | apply State.pcvUrgWrite_same | apply State.sfeDirty_same | apply State.mergeRaw_same | apply State.grpCtlWrite_same | apply State.inCtlWrite_same | apply ite_same | apply foldl_same | split | dsimp only)
theorem State.stageTo_same {z : Bool} {s u : State} (h : Same z s u) (sh : Nat) (st : Nat) (l : Nat) : Same z s (State.stageTo u sh st l) := by
  unfold State.stageTo
  with_reducible repeat' (first | assumption | intro _ | apply State.put_same | apply State.setSheet_same | apply ite_same | apply foldl_same | split | dsimp only)
theorem State.startAttempt_same {z : Bool} {s u : State} (h : Same z s u) (sh : Nat) : Same z s (State.startAttempt u sh) := by
  unfold State.startAttempt
  with_reducible repeat' (first | assumption | intro _ | apply State.setSheet_same | apply State.put_same | apply State.stageTo_same | apply ite_same | apply foldl_same | split | dsimp only)
theorem State.linkTrain_same {z : Bool} {s u : State} (h : Same z s u) (sh : Nat) : Same z s (State.linkTrain u sh) := by
  unfold State.linkTrain
  with_reducible repeat' (first | assumption | intro _ | apply State.linkLeave_same | apply State.draw_same | apply State.setLnk_same | apply ite_same | apply foldl_same | apply ite_same2 | apply foldl_same2 | split | refine pairSame2 (by assumption) ?_ | dsimp only)
theorem State.sheetStart_same {z : Bool} {s u : State} (h : Same z s u) (sh : Nat) (r : Nat) : Same z s (State.sheetStart u sh r).2 := by
  unfold State.sheetStart
  with_reducible repeat' (first | assumption | intro _ | apply State.put_same | apply State.refuseDom_same | apply State.setSheet_same | apply State.startAttempt_same | apply State.linkTrain_same | apply ite_same | apply foldl_same | apply ite_same2 | apply foldl_same2 | split | dsimp only)
theorem State.retireLane_same {z : Bool} {s u : State} (h : Same z s u) (sh : Nat) (l : Nat) : Same z s (State.retireLane u sh l) := by
  unfold State.retireLane
  with_reducible repeat' (first | assumption | intro _ | apply State.put_same | apply State.raise_same | apply ite_same | apply foldl_same | split | dsimp only)
theorem State.setMap_same {z : Bool} {s u : State} (h : Same z s u) (sh : Nat) (l : List Nat) : Same z s (State.setMap u sh l) := by
  unfold State.setMap
  with_reducible repeat' (first | assumption | intro _ | apply State.put_same | apply State.wn_same | apply ite_same | apply foldl_same | split | dsimp only)
theorem State.narrowMap_same {z : Bool} {s u : State} (h : Same z s u) (sh : Nat) (l : Nat) (pol : Bool) : Same z s (State.narrowMap u sh l pol) := by
  unfold State.narrowMap
  with_reducible repeat' (first | assumption | intro _ | apply State.retireLane_same | apply State.setMap_same | apply State.raise_same | apply ite_same | apply foldl_same | split | dsimp only)
theorem State.etherNarrow_same {z : Bool} {s u : State} (h : Same z s u) (sh : Nat) : Same z s (State.etherNarrow u sh) := by
  unfold State.etherNarrow
  with_reducible repeat' (first | assumption | intro _ | apply State.raise_same | apply State.put_same | apply State.setPort_same | apply State.portDown_same | apply ite_same | apply foldl_same | split | dsimp only)
theorem State.laneCount_same {z : Bool} {s u : State} (h : Same z s u) (sh : Nat) (r : Reg) : Same z s (State.laneCount u sh r) := by
  unfold State.laneCount
  with_reducible repeat' (first | assumption | intro _ | apply State.bumpSat_same | apply ite_same | apply foldl_same | split | dsimp only)
theorem State.sheetDrop_same {z : Bool} {s u : State} (h : Same z s u) (sh : Nat) (l : Nat) (own : Bool) : Same z s (State.sheetDrop u sh l own) := by
  unfold State.sheetDrop
  with_reducible repeat' (first | assumption | intro _ | apply State.put_same | apply State.setSheet_same | apply State.raise_same | apply State.laneCount_same | apply State.etherDown_same | apply State.linkTrain_same | apply State.startAttempt_same | apply ite_same | apply foldl_same | split | dsimp only)
theorem State.narrowBy_same {z : Bool} {s u : State} (h : Same z s u) (sh : Nat) (l : Nat) (pol : Bool) : Same z s (State.narrowBy u sh l pol) := by
  unfold State.narrowBy
  with_reducible repeat' (first | assumption | intro _ | apply State.narrowMap_same | apply State.spareExhausted_same | apply State.etherNarrow_same | apply State.sheetDrop_same | apply State.startAttempt_same | apply State.linkTrain_same | apply ite_same | apply foldl_same | split | dsimp only)
theorem State.narrow_same {z : Bool} {s u : State} (h : Same z s u) (sh : Nat) (k0 : Nat) : Same z s (State.narrow u sh k0).2 := by
  unfold State.narrow
  with_reducible repeat' (first | assumption | intro _ | apply State.put_same | apply State.refuseDom_same | apply State.narrowBy_same | apply ite_same | apply foldl_same | apply ite_same2 | apply foldl_same2 | split | dsimp only)
theorem State.sendCtrl_same {z : Bool} {s u : State} (h : Same z s u) (sh : Nat) (msg : Nat) (kind : Nat) (xtag : Nat) (reason : Nat) (lane : Nat) (block : Nat) : Same z s (State.sendCtrl u sh msg kind xtag reason lane block) := by
  unfold State.sendCtrl
  with_reducible repeat' (first | assumption | intro _ | apply State.sendTx_same | apply ite_same | apply foldl_same | split | dsimp only)
theorem State.claim_same {z : Bool} {s u : State} (h : Same z s u) (sh : Nat) (e : Exchange) : Same z s (State.claim u sh e) := by
  unfold State.claim
  with_reducible repeat' (first | assumption | intro _ | apply State.showXchg_same | apply State.sendCtrl_same | apply State.setLnk_same | apply ite_same | apply foldl_same | split | dsimp only)
theorem State.spareIn_same {z : Bool} {s u : State} (h : Same z s u) (sh : Nat) (k0 : Nat) (pol : Bool) : Same z s (State.spareIn u sh k0 pol) := by
  unfold State.spareIn
  with_reducible repeat' (first | assumption | intro _ | apply State.useSpare_same | apply State.setMap_same | apply State.raise_same | apply State.retireLane_same | apply ite_same | apply foldl_same | split | dsimp only)
theorem State.wakeSpare_same {z : Bool} {s u : State} (h : Same z s u) (sh : Nat) (st : Nat) : Same z s (State.wakeSpare u sh st) := by
  unfold State.wakeSpare
  with_reducible repeat' (first | assumption | intro _ | apply State.put_same | apply State.stageTo_same | apply ite_same | apply foldl_same | split | dsimp only)
theorem State.subst_same {z : Bool} {s u : State} (h : Same z s u) (sh : Nat) (k0 : Nat) (pol : Bool) (action : Option Nat) : Same z s (State.subst u sh k0 pol action).2 := by
  unfold State.subst
  with_reducible repeat' (first | assumption | intro _ | apply State.put_same | apply State.refuseDom_same | apply State.claim_same | apply State.sheetDrop_same | apply State.spareIn_same | apply State.wakeSpare_same | apply State.startAttempt_same | apply ite_same | apply foldl_same | apply ite_same2 | apply foldl_same2 | split | dsimp only)
theorem State.sheetCtlWrite_same {z : Bool} {s u : State} (h : Same z s u) (sh : Nat) (w : Wr) : Same z s (State.sheetCtlWrite u sh w) := by
  unfold State.sheetCtlWrite
  with_reducible repeat' (first | assumption | intro _ | apply State.raise_same | apply State.sheetStop_same | apply State.sheetStart_same | apply State.narrow_same | apply State.subst_same | apply State.mergeRaw_same | apply ite_same | apply foldl_same | apply ite_same2 | apply foldl_same2 | split | refine pairSame2 (by assumption) ?_ | dsimp only)
theorem State.laneCtlWrite_same {z : Bool} {s u : State} (h : Same z s u) (sh : Nat) (l : Nat) (w : Wr) : Same z s (State.laneCtlWrite u sh l w) := by
  unfold State.laneCtlWrite
  with_reducible repeat' (first | assumption | intro _ | apply State.mergeRaw_same | apply State.raise_same | apply State.put_same | apply ite_same | apply foldl_same | split | dsimp only)
theorem State.prbsClear_same {z : Bool} {s u : State} (h : Same z s u) (sh : Nat) (l : Nat) : Same z s (State.prbsClear u sh l) := by
  unfold State.prbsClear
  with_reducible repeat' (first | assumption | intro _ | apply State.wr64_same | apply ite_same | apply foldl_same | split | dsimp only)
theorem State.genStart_same {z : Bool} {s u : State} (h : Same z s u) (sh : Nat) (l : Nat) : Same z s (State.genStart u sh l) := by
  unfold State.genStart
  with_reducible repeat' (first | assumption | intro _ | apply State.emit_same | apply ite_same | apply foldl_same | split | dsimp only)
theorem State.prbsWrite_same {z : Bool} {s u : State} (h : Same z s u) (sh : Nat) (l : Nat) (w : Wr) : Same z s (State.prbsWrite u sh l w) := by
  unfold State.prbsWrite
  with_reducible repeat' (first | assumption | intro _ | apply State.mergeRaw_same | apply State.put_same | apply State.prbsClear_same | apply State.emit_same | apply State.genStart_same | apply State.refuseDom_same | apply ite_same | apply foldl_same | split | dsimp only)
theorem State.spxCtlWrite_same {z : Bool} {s u : State} (h : Same z s u) (sh : Nat) (w : Wr) : Same z s (State.spxCtlWrite u sh w) := by
  unfold State.spxCtlWrite
  with_reducible repeat' (first | assumption | intro _ | apply State.mergeRaw_same | apply State.raise_same | apply ite_same | apply foldl_same | split | dsimp only)
theorem State.laneStore_same {z : Bool} {s u : State} (h : Same z s u) (o : Nat) (w : Wr) : Same z s (State.laneStore u o w) := by
  unfold State.laneStore
  with_reducible repeat' (first | assumption | intro _ | apply State.sheetCtlWrite_same | apply State.laneCtlWrite_same | apply State.prbsWrite_same | apply State.mergeRaw_same | apply State.spxCtlWrite_same | apply ite_same | apply foldl_same | split | dsimp only)
theorem State.descWrite_same {z : Bool} {s u : State} (h : Same z s u) (o : Nat) (w : Wr) : Same z s (State.descWrite u o w) := by
  unfold State.descWrite
  with_reducible repeat' (first | assumption | intro _ | apply State.raise_same | apply State.mergeRaw_same | apply ite_same | apply foldl_same | split | dsimp only)
theorem State.beamStore_same {z : Bool} {s u : State} (h : Same z s u) (o : Nat) (w : Wr) : Same z s (State.beamStore u o w) := by
  unfold State.beamStore
  with_reducible repeat' (first | assumption | intro _ | apply State.windowWrite_same | apply State.commitBeams_same | apply State.mergeRaw_same | apply State.descWrite_same | apply ite_same | apply foldl_same | split | dsimp only)
theorem State.regStore_same {z : Bool} {s u : State} (h : Same z s u) (o : Nat) (w : Wr) : Same z s (State.regStore u o w) := by
  unfold State.regStore
  with_reducible repeat' (first | assumption | intro _ | apply State.widthHit_same | apply State.mergeRaw_same | apply State.sysStore_same | apply State.timeStore_same | apply State.brgStore_same | apply State.storeStore_same | apply State.trgStore_same | apply State.netStore_same | apply State.convStore_same | apply State.laneStore_same | apply State.beamStore_same | apply ite_same | apply foldl_same | split | dsimp only)
theorem opCfgRegWrite_same {z : Bool} {s u : State} (h : Same z s u) (p : Packet) : Same z s (opCfgRegWrite p u).2 := by
  unfold opCfgRegWrite
  with_reducible repeat' (first | assumption | intro _ | apply ownerCmd_same | apply State.say_same | apply State.regStore_same | apply ite_same | apply foldl_same | apply ite_same2 | apply foldl_same2 | split | refine pairSame2 (by assumption) ?_ | dsimp only)
theorem State.hitPut_same {z : Bool} {s u : State} (h : Same z s u) (h0 : TabHit) (mask : Nat) (v : Nat) : Same z s (State.hitPut u h0 mask v) := by
  unfold State.hitPut
  with_reducible repeat' (first | assumption | intro _ | apply State.setTab_same | apply ite_same | apply foldl_same | split | dsimp only)
theorem State.tablePut_same {z : Bool} {s u : State} (h : Same z s u) (h0 : TabHit) (v : Word) : Same z s (State.tablePut u h0 v) := by
  unfold State.tablePut
  with_reducible repeat' (first | assumption | intro _ | apply State.raise_same | apply State.hitPut_same | apply ite_same | apply foldl_same | split | dsimp only)
theorem State.tableWords_same {z : Bool} {s u : State} (h : Same z s u) (p : Packet) (i : Nat) (l : List TabHit) : Same z s (State.tableWords u p i l) := by
  unfold State.tableWords
  with_reducible repeat' (first | assumption | intro _ | apply State.tablePut_same | apply ite_same | apply foldl_same | split | dsimp only)
theorem opCfgTableWrite_same {z : Bool} {s u : State} (h : Same z s u) (p : Packet) : Same z s (opCfgTableWrite p u).2 := by
  unfold opCfgTableWrite
  with_reducible repeat' (first | assumption | intro _ | apply ownerCmd_same | apply State.say_same | apply State.tableWords_same | apply ite_same | apply foldl_same | apply ite_same2 | apply foldl_same2 | split | refine pairSame2 (by assumption) ?_ | dsimp only)
theorem opCfgTableRead_same {z : Bool} {s u : State} (h : Same z s u) (p : Packet) : Same z s (opCfgTableRead p u).2 := by
  unfold opCfgTableRead
  with_reducible repeat' (first | assumption | intro _ | apply ownerCmd_same | apply State.say_same | apply ite_same | apply foldl_same | apply ite_same2 | apply foldl_same2 | split | refine pairSame2 (by assumption) ?_ | dsimp only)
theorem opCnvGroup_same {z : Bool} {s u : State} (h : Same z s u) (p : Packet) : Same z s (opCnvGroup p u).2 := by
  unfold opCnvGroup
  with_reducible repeat' (first | assumption | intro _ | apply ownerCmd_same | apply State.wn_same | apply State.say_same | apply State.put_same | apply State.refuseDom_same | apply State.grpCtlWrite_same | apply ite_same | apply foldl_same | apply ite_same2 | apply foldl_same2 | split | refine pairSame2 (by assumption) ?_ | dsimp only)
theorem State.sayIdle_same {z : Bool} {s u : State} (h : Same z s u) (res : List Word) : Same z s (State.sayIdle u res).2 := by
  unfold State.sayIdle
  with_reducible repeat' (first | assumption | intro _ | apply ite_same | apply foldl_same | apply ite_same2 | apply foldl_same2 | split | dsimp only)
theorem opCnvInputEn_same {z : Bool} {s u : State} (h : Same z s u) (p : Packet) : Same z s (opCnvInputEn p u).2 := by
  unfold opCnvInputEn
  with_reducible repeat' (first | assumption | intro _ | apply ownerCmd_same | apply State.sayIdle_same | apply State.inputEnable_same | apply State.fwr_same | apply State.wn_same | apply State.say_same | apply State.stage_same | apply ite_same | apply foldl_same | apply ite_same2 | apply foldl_same2 | split | refine pairSame2 (by assumption) ?_ | dsimp only)
theorem opCnvTrack_same {z : Bool} {s u : State} (h : Same z s u) (p : Packet) : Same z s (opCnvTrack p u).2 := by
  unfold opCnvTrack
  with_reducible repeat' (first | assumption | intro _ | apply ownerCmd_same | apply State.say_same | apply State.mergeRaw_same | apply ite_same | apply foldl_same | apply ite_same2 | apply foldl_same2 | split | refine pairSame2 (by assumption) ?_ | dsimp only)
theorem opCnvStatus_same {z : Bool} {s u : State} (h : Same z s u) (p : Packet) : Same z s (opCnvStatus p u).2 := by
  unfold opCnvStatus
  with_reducible repeat' (first | assumption | intro _ | apply ownerCmd_same | apply State.say_same | apply ite_same | apply foldl_same | apply ite_same2 | apply foldl_same2 | split | refine pairSame2 (by assumption) ?_ | dsimp only)
theorem opBrgQuota_same {z : Bool} {s u : State} (h : Same z s u) (p : Packet) : Same z s (opBrgQuota p u).2 := by
  unfold opBrgQuota
  with_reducible repeat' (first | assumption | intro _ | apply ownerCmd_same | apply State.say_same | apply State.mergeRaw_same | apply ite_same | apply foldl_same | apply ite_same2 | apply foldl_same2 | split | refine pairSame2 (by assumption) ?_ | dsimp only)
theorem State.showGrants_same {z : Bool} {s u : State} (h : Same z s u) (b : Nat) : Same z s (State.showGrants u b) := by
  unfold State.showGrants
  with_reducible repeat' (first | assumption | intro _ | apply State.put_same | apply ite_same | apply foldl_same | split | dsimp only)
theorem State.grantMake_same {z : Bool} {s u : State} (h : Same z s u) (g : Nat) (b : Nat) (slot : Nat) (kinds : Nat) : Same z s (State.grantMake u g b slot kinds) := by
  unfold State.grantMake
  with_reducible repeat' (first | assumption | intro _ | apply State.showGrants_same | apply State.wn_same | apply State.raise_same | apply State.grantSuspend_same | apply ite_same | apply foldl_same | split | dsimp only)
theorem opBrgGrant_same {z : Bool} {s u : State} (h : Same z s u) (p : Packet) : Same z s (opBrgGrant p u).2 := by
  unfold opBrgGrant
  with_reducible repeat' (first | assumption | intro _ | apply ownerCmd_same | apply State.say_same | apply State.grantMake_same | apply ite_same | apply foldl_same | apply ite_same2 | apply foldl_same2 | split | refine pairSame2 (by assumption) ?_ | dsimp only)
theorem State.grantFree_same {z : Bool} {s u : State} (h : Same z s u) (g : Nat) : Same z s (State.grantFree u g) := by
  unfold State.grantFree
  with_reducible repeat' (first | assumption | intro _ | apply State.raise_same | apply State.showGrants_same | apply State.wn_same | apply State.dropCopies_same | apply ite_same | apply foldl_same | split | dsimp only)
theorem opBrgRevoke_same {z : Bool} {s u : State} (h : Same z s u) (p : Packet) : Same z s (opBrgRevoke p u).2 := by
  unfold opBrgRevoke
  with_reducible repeat' (first | assumption | intro _ | apply ownerCmd_same | apply State.say_same | apply State.grantFree_same | apply ite_same | apply foldl_same | apply ite_same2 | apply foldl_same2 | split | refine pairSame2 (by assumption) ?_ | dsimp only)
theorem State.beamRanges_same {z : Bool} {s u : State} (h : Same z s u) (b : Nat) (first : Nat) (last : Nat) (wfirst : Nat) (wlast : Nat) : Same z s (State.beamRanges u b first last wfirst wlast) := by
  unfold State.beamRanges
  with_reducible repeat' (first | assumption | intro _ | apply State.wn_same | apply State.beamOff_same | apply ite_same | apply foldl_same | split | dsimp only)
theorem opBrgBeams_same {z : Bool} {s u : State} (h : Same z s u) (p : Packet) : Same z s (opBrgBeams p u).2 := by
  unfold opBrgBeams
  with_reducible repeat' (first | assumption | intro _ | apply ownerCmd_same | apply State.say_same | apply State.beamRanges_same | apply ite_same | apply foldl_same | apply ite_same2 | apply foldl_same2 | split | refine pairSame2 (by assumption) ?_ | dsimp only)
theorem holderCmd_same {z : Bool} {s u : State} (h : Same z s u) (ok : Bool) (owns : Bool) (f : State → CmdOut × State) (k : ∀ v, Same z s v → Same z s (f v).2) : Same z s (holderCmd ok owns u f).2 := by
  unfold holderCmd
  with_reducible repeat' (first | assumption | intro _ | apply k | apply State.say_same | apply ite_same | apply foldl_same | apply ite_same2 | apply foldl_same2 | split | refine pairSame2 (by assumption) ?_ | dsimp only)

end Sys2Proof.Machine
end

