-- ==== Sys2Proof/Laws/Frame4.lean ====
section
/-! SUPPORT. One lemma per operation: what it leaves as it is (part 4 of 6, in the order of dependence). -/
set_option maxRecDepth 10000
namespace Sys2Proof.Machine

theorem opBrgReset_same {z : Bool} {s u : State} (h : Same z s u) (p : Packet) : Same z s (opBrgReset p u).2 := by
  unfold opBrgReset
  with_reducible repeat' (first | assumption | intro _ | apply holderCmd_same | apply State.say_same | apply ite_same | apply foldl_same | apply ite_same2 | apply foldl_same2 | split | refine pairSame2 (by assumption) ?_ | dsimp only)
theorem opBrgStatus_same {z : Bool} {s u : State} (h : Same z s u) (p : Packet) : Same z s (opBrgStatus p u).2 := by
  unfold opBrgStatus
  with_reducible repeat' (first | assumption | intro _ | apply holderCmd_same | apply State.say_same | apply ite_same | apply foldl_same | apply ite_same2 | apply foldl_same2 | split | refine pairSame2 (by assumption) ?_ | dsimp only)
theorem opcodesCfg_same {s : State} : ∀ x ∈ opcodesCfg, ∀ (p : Packet) (u : State), Same false s u → Same false s (x.act p u).2 :=
  List.forall_mem_cons.2 ⟨fun p _ h => opCfgIdent_same h p, List.forall_mem_cons.2 ⟨fun p _ h => opCfgHubId_same h p, List.forall_mem_cons.2 ⟨fun p _ h => opCfgKeyLoad_same h p, List.forall_mem_cons.2 ⟨fun p _ h => opCfgKeyClear_same h p, List.forall_mem_cons.2 ⟨fun p _ h => opCfgKeyOwn_same h p, List.forall_mem_cons.2 ⟨fun p _ h => opCfgUdp_same h p, List.forall_mem_cons.2 ⟨fun p _ h => opCfgRegRead_same h p, List.forall_mem_cons.2 ⟨fun p _ h => opCfgRegWrite_same h p, List.forall_mem_cons.2 ⟨fun p _ h => opCfgTableWrite_same h p, List.forall_mem_cons.2 ⟨fun p _ h => opCfgTableRead_same h p, List.forall_mem_cons.2 ⟨fun p _ h => opCnvGroup_same h p, List.forall_mem_cons.2 ⟨fun p _ h => opCnvInputEn_same h p, List.forall_mem_cons.2 ⟨fun p _ h => opCnvTrack_same h p, List.forall_mem_cons.2 ⟨fun p _ h => opCnvStatus_same h p, List.forall_mem_cons.2 ⟨fun p _ h => opBrgQuota_same h p, List.forall_mem_cons.2 ⟨fun p _ h => opBrgGrant_same h p, List.forall_mem_cons.2 ⟨fun p _ h => opBrgRevoke_same h p, List.forall_mem_cons.2 ⟨fun p _ h => opBrgBeams_same h p, List.forall_mem_cons.2 ⟨fun p _ h => opBrgReset_same h p, List.forall_mem_cons.2 ⟨fun p _ h => opBrgStatus_same h p, List.forall_mem_nil _⟩⟩⟩⟩⟩⟩⟩⟩⟩⟩⟩⟩⟩⟩⟩⟩⟩⟩⟩⟩
theorem selectorCmd_same {z : Bool} {s u : State} (h : Same z s u) (ok : Bool) (p : Packet) (f : List Nat → State → CmdOut × State) (k : ∀ x0 v, Same z s v → Same z s (f x0 v).2) : Same z s (selectorCmd ok p u f).2 := by
  unfold selectorCmd
  with_reducible repeat' (first | assumption | intro _ | apply k | apply State.say_same | apply ownerCmd_same | apply ite_same | apply foldl_same | apply ite_same2 | apply foldl_same2 | split | refine pairSame2 (by assumption) ?_ | dsimp only)
theorem State.refuseSlot_same {z : Bool} {s u : State} (h : Same z s u) (u0 : Nat) (status : Nat) (n : Nat) : Same z s (State.refuseSlot u u0 status n).2 := by
  unfold State.refuseSlot
  with_reducible repeat' (first | assumption | intro _ | apply State.say_same | apply ite_same | apply foldl_same | apply ite_same2 | apply foldl_same2 | split | refine pairSame2 (by assumption) ?_ | dsimp only)
theorem State.refuseCode_same {z : Bool} {s u : State} (h : Same z s u) (u0 : Nat) (c : Nat) (n : Nat) : Same z s (State.refuseCode u u0 c n).2 := by
  unfold State.refuseCode
  with_reducible repeat' (first | assumption | intro _ | apply State.refuseSlot_same | apply State.slotCode_same | apply ite_same | apply foldl_same | apply ite_same2 | apply foldl_same2 | split | refine pairSame2 (by assumption) ?_ | dsimp only)
theorem opPipeSource_same {z : Bool} {s u : State} (h : Same z s u) (p : Packet) : Same z s (opPipeSource p u).2 := by
  unfold opPipeSource
  with_reducible repeat' (first | assumption | intro _ | apply selectorCmd_same | apply State.say_same | apply State.refuseCode_same | apply State.chpSrcWrite_same | apply ite_same | apply foldl_same | apply ite_same2 | apply foldl_same2 | split | refine pairSame2 (by assumption) ?_ | dsimp only)
theorem State.refuseAsleep_same {z : Bool} {s u : State} (h : Same z s u) (u0 : Nat) (n : Nat) : Same z s (State.refuseAsleep u u0 n).2 := by
  unfold State.refuseAsleep
  with_reducible repeat' (first | assumption | intro _ | apply State.refuseSlot_same | apply State.refuseDom_same | apply ite_same | apply foldl_same | apply ite_same2 | apply foldl_same2 | split | refine pairSame2 (by assumption) ?_ | dsimp only)
theorem opPipeBind_same {z : Bool} {s u : State} (h : Same z s u) (p : Packet) : Same z s (opPipeBind p u).2 := by
  unfold opPipeBind
  with_reducible repeat' (first | assumption | intro _ | apply selectorCmd_same | apply State.refuseAsleep_same | apply State.refuseCode_same | apply State.refuseSlot_same | apply State.showDirty_same | apply State.slotCode_same | apply State.stageBind_same | apply ite_same | apply foldl_same | apply ite_same2 | apply foldl_same2 | split | refine pairSame2 (by assumption) ?_ | dsimp only)
theorem State.shadowPut_same {z : Bool} {s u : State} (h : Same z s u) (n : Nat) (vals : List SVal) : Same z s (State.shadowPut u n vals) := by
  unfold State.shadowPut
  with_reducible repeat' (first | assumption | intro _ | apply State.showDirty_same | apply State.wn_same | apply ite_same | apply foldl_same | split | dsimp only)
theorem State.pipeCommit_same {z : Bool} {s u : State} (h : Same z s u) (p : Packet) (restart : Bool) (l : List Nat) (vals : Nat → List SVal) : Same z s (State.pipeCommit u p restart l vals).2 := by
  unfold State.pipeCommit
  with_reducible repeat' (first | assumption | intro _ | apply State.refuseCode_same | apply State.refuseSlot_same | apply State.showDirty_same | apply State.slotCode_same | apply State.stage_same | apply State.shadowPut_same | apply ite_same | apply foldl_same | apply ite_same2 | apply foldl_same2 | split | refine pairSame2 (by assumption) ?_ | dsimp only)
theorem State.pipeSet_same {z : Bool} {s u : State} (h : Same z s u) (p : Packet) (restart : Bool) (l : List Nat) (vals : Nat → List SVal) : Same z s (State.pipeSet u p restart l vals).2 := by
  unfold State.pipeSet
  with_reducible repeat' (first | assumption | intro _ | apply State.sayIdle_same | apply State.shadowPut_same | apply State.pipeCommit_same | apply ite_same | apply foldl_same | apply ite_same2 | apply foldl_same2 | split | refine pairSame2 (by assumption) ?_ | dsimp only)
theorem pipeWords_same {z : Bool} {s u : State} (h : Same z s u) (p : Packet) (withRestart : Bool) (l : List (Nat → Reg)) : Same z s (pipeWords p u withRestart l).2 := by
  unfold pipeWords
  with_reducible repeat' (first | assumption | intro _ | apply selectorCmd_same | apply State.pipeSet_same | apply ite_same | apply foldl_same | apply ite_same2 | apply foldl_same2 | split | refine pairSame2 (by assumption) ?_ | dsimp only)
theorem opPipeDelay_same {z : Bool} {s u : State} (h : Same z s u) (p : Packet) : Same z s (opPipeDelay p u).2 := by
  unfold opPipeDelay
  with_reducible repeat' (first | assumption | intro _ | apply pipeWords_same | apply ite_same | apply foldl_same | apply ite_same2 | apply foldl_same2 | split | refine pairSame2 (by assumption) ?_ | dsimp only)
theorem opPipeUnbind_same {z : Bool} {s u : State} (h : Same z s u) (p : Packet) : Same z s (opPipeUnbind p u).2 := by
  unfold opPipeUnbind
  with_reducible repeat' (first | assumption | intro _ | apply selectorCmd_same | apply State.refuseAsleep_same | apply State.refuseCode_same | apply State.showDirty_same | apply State.slotCode_same | apply State.idleSlot_same | apply State.sayIdle_same | apply State.abortDiscarded_same | apply State.refuseSlot_same | apply State.stageUnbind_same | apply ite_same | apply foldl_same | apply ite_same2 | apply foldl_same2 | split | refine pairSame2 (by assumption) ?_ | dsimp only)
theorem opPipeMix_same {z : Bool} {s u : State} (h : Same z s u) (p : Packet) : Same z s (opPipeMix p u).2 := by
  unfold opPipeMix
  with_reducible repeat' (first | assumption | intro _ | apply pipeWords_same | apply ite_same | apply foldl_same | apply ite_same2 | apply foldl_same2 | split | refine pairSame2 (by assumption) ?_ | dsimp only)
theorem opPipeDecimate_same {z : Bool} {s u : State} (h : Same z s u) (p : Packet) : Same z s (opPipeDecimate p u).2 := by
  unfold opPipeDecimate
  with_reducible repeat' (first | assumption | intro _ | apply pipeWords_same | apply ite_same | apply foldl_same | apply ite_same2 | apply foldl_same2 | split | refine pairSame2 (by assumption) ?_ | dsimp only)
theorem opPipeResample_same {z : Bool} {s u : State} (h : Same z s u) (p : Packet) : Same z s (opPipeResample p u).2 := by
  unfold opPipeResample
  with_reducible repeat' (first | assumption | intro _ | apply pipeWords_same | apply ite_same | apply foldl_same | apply ite_same2 | apply foldl_same2 | split | refine pairSame2 (by assumption) ?_ | dsimp only)
theorem opPipeChannel_same {z : Bool} {s u : State} (h : Same z s u) (p : Packet) : Same z s (opPipeChannel p u).2 := by
  unfold opPipeChannel
  with_reducible repeat' (first | assumption | intro _ | apply pipeWords_same | apply ite_same | apply foldl_same | apply ite_same2 | apply foldl_same2 | split | refine pairSame2 (by assumption) ?_ | dsimp only)
theorem opPipeReduce_same {z : Bool} {s u : State} (h : Same z s u) (p : Packet) : Same z s (opPipeReduce p u).2 := by
  unfold opPipeReduce
  with_reducible repeat' (first | assumption | intro _ | apply pipeWords_same | apply ite_same | apply foldl_same | apply ite_same2 | apply foldl_same2 | split | refine pairSame2 (by assumption) ?_ | dsimp only)
theorem opPipeRoute_same {z : Bool} {s u : State} (h : Same z s u) (p : Packet) : Same z s (opPipeRoute p u).2 := by
  unfold opPipeRoute
  with_reducible repeat' (first | assumption | intro _ | apply pipeWords_same | apply ite_same | apply foldl_same | apply ite_same2 | apply foldl_same2 | split | refine pairSame2 (by assumption) ?_ | dsimp only)
theorem opPipeIntake_same {z : Bool} {s u : State} (h : Same z s u) (p : Packet) : Same z s (opPipeIntake p u).2 := by
  unfold opPipeIntake
  with_reducible repeat' (first | assumption | intro _ | apply selectorCmd_same | apply State.pipeSet_same | apply ite_same | apply foldl_same | apply ite_same2 | apply foldl_same2 | split | refine pairSame2 (by assumption) ?_ | dsimp only)
theorem opPipeCommit_same {z : Bool} {s u : State} (h : Same z s u) (p : Packet) : Same z s (opPipeCommit p u).2 := by
  unfold opPipeCommit
  with_reducible repeat' (first | assumption | intro _ | apply selectorCmd_same | apply State.refuseAsleep_same | apply State.pipeCommit_same | apply ite_same | apply foldl_same | apply ite_same2 | apply foldl_same2 | split | refine pairSame2 (by assumption) ?_ | dsimp only)
theorem opPipeFpd_same {z : Bool} {s u : State} (h : Same z s u) (p : Packet) : Same z s (opPipeFpd p u).2 := by
  unfold opPipeFpd
  with_reducible repeat' (first | assumption | intro _ | apply selectorCmd_same | apply State.say_same | apply State.mergeRaw_same | apply ite_same | apply foldl_same | apply ite_same2 | apply foldl_same2 | split | refine pairSame2 (by assumption) ?_ | dsimp only)
theorem opPipeDistrict_same {z : Bool} {s u : State} (h : Same z s u) (p : Packet) : Same z s (opPipeDistrict p u).2 := by
  unfold opPipeDistrict
  with_reducible repeat' (first | assumption | intro _ | apply ownerCmd_same | apply State.say_same | apply State.wn_same | apply ite_same | apply foldl_same | apply ite_same2 | apply foldl_same2 | split | refine pairSame2 (by assumption) ?_ | dsimp only)
theorem opPipeRaw_same {z : Bool} {s u : State} (h : Same z s u) (p : Packet) : Same z s (opPipeRaw p u).2 := by
  unfold opPipeRaw
  with_reducible repeat' (first | assumption | intro _ | apply ownerCmd_same | apply State.rawSet_same | apply State.say_same | apply ite_same | apply foldl_same | apply ite_same2 | apply foldl_same2 | split | refine pairSame2 (by assumption) ?_ | dsimp only)
theorem opPipeStatus_same {z : Bool} {s u : State} (h : Same z s u) (p : Packet) : Same z s (opPipeStatus p u).2 := by
  unfold opPipeStatus
  with_reducible repeat' (first | assumption | intro _ | apply ownerCmd_same | apply State.say_same | apply ite_same | apply foldl_same | apply ite_same2 | apply foldl_same2 | split | refine pairSame2 (by assumption) ?_ | dsimp only)
theorem opcodesPipe_same {s : State} : ∀ x ∈ opcodesPipe, ∀ (p : Packet) (u : State), Same false s u → Same false s (x.act p u).2 :=
  List.forall_mem_cons.2 ⟨fun p _ h => opPipeSource_same h p, List.forall_mem_cons.2 ⟨fun p _ h => opPipeBind_same h p, List.forall_mem_cons.2 ⟨fun p _ h => opPipeDelay_same h p, List.forall_mem_cons.2 ⟨fun p _ h => opPipeUnbind_same h p, List.forall_mem_cons.2 ⟨fun p _ h => opPipeMix_same h p, List.forall_mem_cons.2 ⟨fun p _ h => opPipeDecimate_same h p, List.forall_mem_cons.2 ⟨fun p _ h => opPipeResample_same h p, List.forall_mem_cons.2 ⟨fun p _ h => opPipeChannel_same h p, List.forall_mem_cons.2 ⟨fun p _ h => opPipeReduce_same h p, List.forall_mem_cons.2 ⟨fun p _ h => opPipeRoute_same h p, List.forall_mem_cons.2 ⟨fun p _ h => opPipeIntake_same h p, List.forall_mem_cons.2 ⟨fun p _ h => opPipeCommit_same h p, List.forall_mem_cons.2 ⟨fun p _ h => opPipeFpd_same h p, List.forall_mem_cons.2 ⟨fun p _ h => opPipeDistrict_same h p, List.forall_mem_cons.2 ⟨fun p _ h => opPipeRaw_same h p, List.forall_mem_cons.2 ⟨fun p _ h => opPipeStatus_same h p, List.forall_mem_nil _⟩⟩⟩⟩⟩⟩⟩⟩⟩⟩⟩⟩⟩⟩⟩⟩
theorem State.refuseBeam_same {z : Bool} {s u : State} (h : Same z s u) (c : Nat) (b : Nat) : Same z s (State.refuseBeam u c b).2 := by
  unfold State.refuseBeam
  with_reducible repeat' (first | assumption | intro _ | apply State.say_same | apply State.put_same | apply ite_same | apply foldl_same | apply ite_same2 | apply foldl_same2 | split | refine pairSame2 (by assumption) ?_ | dsimp only)
theorem State.descPut_same {z : Bool} {s u : State} (h : Same z s u) (l : List (Nat × BeamCfg)) : Same z s (State.descPut u l) := by
  unfold State.descPut
  with_reducible repeat' (first | assumption | intro _ | apply State.wn_same | apply ite_same | apply foldl_same | split | dsimp only)
theorem State.beamCommit_same {z : Bool} {s u : State} (h : Same z s u) (p : Packet) (first : Nat) (last : Nat) (l0 : List (Nat × BeamCfg)) : Same z s (State.beamCommit u p first last l0).2 := by
  unfold State.beamCommit
  with_reducible repeat' (first | assumption | intro _ | apply State.say_same | apply State.refuseDom_same | apply State.refuseBeam_same | apply State.sayIdle_same | apply State.forceRange_same | apply State.put_same | apply State.descPut_same | apply State.stageRange_same | apply ite_same | apply foldl_same | apply ite_same2 | apply foldl_same2 | split | refine pairSame2 (by assumption) ?_ | dsimp only)
theorem opBeamSet_same {z : Bool} {s u : State} (h : Same z s u) (p : Packet) : Same z s (opBeamSet p u).2 := by
  unfold opBeamSet
  with_reducible repeat' (first | assumption | intro _ | apply holderCmd_same | apply State.beamCommit_same | apply ite_same | apply foldl_same | apply ite_same2 | apply foldl_same2 | split | refine pairSame2 (by assumption) ?_ | dsimp only)
theorem opBeamDisable_same {z : Bool} {s u : State} (h : Same z s u) (p : Packet) : Same z s (opBeamDisable p u).2 := by
  unfold opBeamDisable
  with_reducible repeat' (first | assumption | intro _ | apply holderCmd_same | apply State.wn_same | apply State.refuseBeam_same | apply State.sayIdle_same | apply State.put_same | apply State.say_same | apply State.stageRange_same | apply ite_same | apply foldl_same | apply ite_same2 | apply foldl_same2 | split | refine pairSame2 (by assumption) ?_ | dsimp only)
theorem opBeamIset_same {z : Bool} {s u : State} (h : Same z s u) (p : Packet) : Same z s (opBeamIset p u).2 := by
  unfold opBeamIset
  with_reducible repeat' (first | assumption | intro _ | apply ownerCmd_same | apply State.say_same | apply State.wn_same | apply ite_same | apply foldl_same | apply ite_same2 | apply foldl_same2 | split | refine pairSame2 (by assumption) ?_ | dsimp only)
theorem opBeamWeights_same {z : Bool} {s u : State} (h : Same z s u) (p : Packet) : Same z s (opBeamWeights p u).2 := by
  unfold opBeamWeights
  with_reducible repeat' (first | assumption | intro _ | apply holderCmd_same | apply State.say_same | apply State.refuseDom_same | apply State.setTab_same | apply ite_same | apply foldl_same | apply ite_same2 | apply foldl_same2 | split | refine pairSame2 (by assumption) ?_ | dsimp only)
theorem opBeamStatus_same {z : Bool} {s u : State} (h : Same z s u) (p : Packet) : Same z s (opBeamStatus p u).2 := by
  unfold opBeamStatus
  with_reducible repeat' (first | assumption | intro _ | apply holderCmd_same | apply State.say_same | apply ite_same | apply foldl_same | apply ite_same2 | apply foldl_same2 | split | refine pairSame2 (by assumption) ?_ | dsimp only)
theorem opBeamLoad_same {z : Bool} {s u : State} (h : Same z s u) (p : Packet) : Same z s (opBeamLoad p u).2 := by
  unfold opBeamLoad
  with_reducible repeat' (first | assumption | intro _ | apply anyCmd_same | apply State.say_same | apply ite_same | apply foldl_same | apply ite_same2 | apply foldl_same2 | split | refine pairSame2 (by assumption) ?_ | dsimp only)
theorem opcodesBeam_same {s : State} : ∀ x ∈ opcodesBeam, ∀ (p : Packet) (u : State), Same false s u → Same false s (x.act p u).2 :=
  List.forall_mem_cons.2 ⟨fun p _ h => opBeamSet_same h p, List.forall_mem_cons.2 ⟨fun p _ h => opBeamDisable_same h p, List.forall_mem_cons.2 ⟨fun p _ h => opBeamIset_same h p, List.forall_mem_cons.2 ⟨fun p _ h => opBeamWeights_same h p, List.forall_mem_cons.2 ⟨fun p _ h => opBeamStatus_same h p, List.forall_mem_cons.2 ⟨fun p _ h => opBeamLoad_same h p, List.forall_mem_nil _⟩⟩⟩⟩⟩⟩
theorem State.gridRenew_same {z : Bool} {s u : State} (h : Same z s u) (g : Nat) : Same z s (State.gridRenew u g) := by
  unfold State.gridRenew
  with_reducible repeat' (first | assumption | intro _ | apply State.endOutput_same | apply State.cutTile_same | apply State.slotEndItems_same | apply State.passBeam_same | apply State.setBeam_same | apply ite_same | apply foldl_same | split | dsimp only)
theorem State.gridGen_same {z : Bool} {s u : State} (h : Same z s u) (g : Nat) : Same z s (State.gridGen u g) := by
  unfold State.gridGen
  with_reducible repeat' (first | assumption | intro _ | apply State.put_same | apply ite_same | apply foldl_same | split | dsimp only)
theorem opGridDefine_same {z : Bool} {s u : State} (h : Same z s u) (p : Packet) : Same z s (opGridDefine p u).2 := by
  unfold opGridDefine
  with_reducible repeat' (first | assumption | intro _ | apply ownerCmd_same | apply State.say_same | apply State.wr64_same | apply State.wn_same | apply State.put_same | apply State.gridRenew_same | apply State.gridGen_same | apply ite_same | apply foldl_same | apply ite_same2 | apply foldl_same2 | split | refine pairSame2 (by assumption) ?_ | dsimp only | apply same_gridNext)
theorem opGridClear_same {z : Bool} {s u : State} (h : Same z s u) (p : Packet) : Same z s (opGridClear p u).2 := by
  unfold opGridClear
  with_reducible repeat' (first | assumption | intro _ | apply ownerCmd_same | apply State.say_same | apply State.put_same | apply State.gridRenew_same | apply State.gridGen_same | apply ite_same | apply foldl_same | apply ite_same2 | apply foldl_same2 | split | refine pairSame2 (by assumption) ?_ | dsimp only | apply same_gridNext)
theorem opGridRead_same {z : Bool} {s u : State} (h : Same z s u) (p : Packet) : Same z s (opGridRead p u).2 := by
  unfold opGridRead
  with_reducible repeat' (first | assumption | intro _ | apply anyCmd_same | apply State.say_same | apply ite_same | apply foldl_same | apply ite_same2 | apply foldl_same2 | split | refine pairSame2 (by assumption) ?_ | dsimp only)
theorem opGridIndex_same {z : Bool} {s u : State} (h : Same z s u) (p : Packet) : Same z s (opGridIndex p u).2 := by
  unfold opGridIndex
  with_reducible repeat' (first | assumption | intro _ | apply anyCmd_same | apply State.say_same | apply ite_same | apply foldl_same | apply ite_same2 | apply foldl_same2 | split | refine pairSame2 (by assumption) ?_ | dsimp only)
theorem opcodesGrid_same {s : State} : ∀ x ∈ opcodesGrid, ∀ (p : Packet) (u : State), Same false s u → Same false s (x.act p u).2 :=
  List.forall_mem_cons.2 ⟨fun p _ h => opGridDefine_same h p, List.forall_mem_cons.2 ⟨fun p _ h => opGridClear_same h p, List.forall_mem_cons.2 ⟨fun p _ h => opGridRead_same h p, List.forall_mem_cons.2 ⟨fun p _ h => opGridIndex_same h p, List.forall_mem_nil _⟩⟩⟩⟩
theorem queCmd_same {z : Bool} {s u : State} (h : Same z s u) (ok : Bool) (p : Packet) (q : Nat) (f : State → CmdOut × State) (k : ∀ v, Same z s v → Same z s (f v).2) : Same z s (queCmd ok p q u f).2 := by
  unfold queCmd
  with_reducible repeat' (first | assumption | intro _ | apply k | apply holderCmd_same | apply State.say_same | apply ite_same | apply foldl_same | apply ite_same2 | apply foldl_same2 | split | refine pairSame2 (by assumption) ?_ | dsimp only)
theorem State.queWords_same {z : Bool} {s u : State} (h : Same z s u) (p : Packet) (l : List Reg) : Same z s (State.queWords u p l) := by
  unfold State.queWords
  with_reducible repeat' (first | assumption | intro _ | apply State.mergeRaw_same | apply ite_same | apply foldl_same | split | dsimp only)
theorem opQueueConfig_same {z : Bool} {s u : State} (h : Same z s u) (p : Packet) : Same z s (opQueueConfig p u).2 := by
  unfold opQueueConfig
  with_reducible repeat' (first | assumption | intro _ | apply queCmd_same | apply State.say_same | apply State.queWords_same | apply State.put_same | apply ite_same | apply foldl_same | apply ite_same2 | apply foldl_same2 | split | refine pairSame2 (by assumption) ?_ | dsimp only)
theorem opQueueEnable_same {z : Bool} {s u : State} (h : Same z s u) (p : Packet) : Same z s (opQueueEnable p u).2 := by
  unfold opQueueEnable
  with_reducible repeat' (first | assumption | intro _ | apply queCmd_same | apply State.queEnable_same | apply State.say_same | apply ite_same | apply foldl_same | apply ite_same2 | apply foldl_same2 | split | refine pairSame2 (by assumption) ?_ | dsimp only)
theorem opQueueDisable_same {z : Bool} {s u : State} (h : Same z s u) (p : Packet) : Same z s (opQueueDisable p u).2 := by
  unfold opQueueDisable
  with_reducible repeat' (first | assumption | intro _ | apply queCmd_same | apply State.queDisable_same | apply State.say_same | apply ite_same | apply foldl_same | apply ite_same2 | apply foldl_same2 | split | refine pairSame2 (by assumption) ?_ | dsimp only)
theorem opQueueFlush_same {z : Bool} {s u : State} (h : Same z s u) (p : Packet) : Same z s (opQueueFlush p u).2 := by
  unfold opQueueFlush
  with_reducible repeat' (first | assumption | intro _ | apply queCmd_same | apply State.queFlush_same | apply State.say_same | apply ite_same | apply foldl_same | apply ite_same2 | apply foldl_same2 | split | refine pairSame2 (by assumption) ?_ | dsimp only)
theorem opQueueStatus_same {z : Bool} {s u : State} (h : Same z s u) (p : Packet) : Same z s (opQueueStatus p u).2 := by
  unfold opQueueStatus
  with_reducible repeat' (first | assumption | intro _ | apply queCmd_same | apply State.say_same | apply ite_same | apply foldl_same | apply ite_same2 | apply foldl_same2 | split | refine pairSame2 (by assumption) ?_ | dsimp only)
theorem opQueueChain_same {z : Bool} {s u : State} (h : Same z s u) (p : Packet) : Same z s (opQueueChain p u).2 := by
  unfold opQueueChain
  with_reducible repeat' (first | assumption | intro _ | apply queCmd_same | apply State.say_same | apply ite_same | apply foldl_same | apply ite_same2 | apply foldl_same2 | split | refine pairSame2 (by assumption) ?_ | dsimp only)
theorem State.setDelivery_same {z : Bool} {s u : State} (h : Same z s u) (b : Nat) (i : Nat) (x : Delivery) : Same z s (State.setDelivery u b i x) := by
  unfold State.setDelivery
  with_reducible repeat' (first | assumption | intro _ | apply ite_same | apply foldl_same | split | dsimp only | apply same_delivers)
theorem State.ringRecord_same {z : Bool} {s u : State} (h : Same z s u) (b : Nat) (i : Nat) : Same z s (State.ringRecord u b i) := by
  unfold State.ringRecord
  with_reducible repeat' (first | assumption | intro _ | apply State.emit_same | apply ite_same | apply foldl_same | split | dsimp only)
theorem State.recordFirst_same {z : Bool} {s u : State} (h : Same z s u) (b : Nat) (i : Nat) : Same z s (State.recordFirst u b i) := by
  unfold State.recordFirst
  with_reducible repeat' (first | assumption | intro _ | apply State.ringRecord_same | apply State.setDelivery_same | apply ite_same | apply foldl_same | split | dsimp only)
theorem State.deliverySet_same {z : Bool} {s u : State} (h : Same z s u) (b : Nat) (i : Nat) (size : Nat) (base : Nat) (vec : Nat) : Same z s (State.deliverySet u b i size base vec) := by
  unfold State.deliverySet
  with_reducible repeat' (first | assumption | intro _ | apply State.setDelivery_same | apply State.recordFirst_same | apply ite_same | apply foldl_same | split | dsimp only)
theorem opQueueDeliver_same {z : Bool} {s u : State} (h : Same z s u) (p : Packet) : Same z s (opQueueDeliver p u).2 := by
  unfold opQueueDeliver
  with_reducible repeat' (first | assumption | intro _ | apply anyCmd_same | apply State.say_same | apply State.deliverySet_same | apply ite_same | apply foldl_same | apply ite_same2 | apply foldl_same2 | split | refine pairSame2 (by assumption) ?_ | dsimp only)
theorem opcodesQueue_same {s : State} : ∀ x ∈ opcodesQueue, ∀ (p : Packet) (u : State), Same false s u → Same false s (x.act p u).2 :=
  List.forall_mem_cons.2 ⟨fun p _ h => opQueueConfig_same h p, List.forall_mem_cons.2 ⟨fun p _ h => opQueueEnable_same h p, List.forall_mem_cons.2 ⟨fun p _ h => opQueueDisable_same h p, List.forall_mem_cons.2 ⟨fun p _ h => opQueueFlush_same h p, List.forall_mem_cons.2 ⟨fun p _ h => opQueueStatus_same h p, List.forall_mem_cons.2 ⟨fun p _ h => opQueueChain_same h p, List.forall_mem_cons.2 ⟨fun p _ h => opQueueDeliver_same h p, List.forall_mem_nil _⟩⟩⟩⟩⟩⟩⟩
theorem opPlotStatus_same {z : Bool} {s u : State} (h : Same z s u) (p : Packet) : Same z s (opPlotStatus p u).2 := by
  unfold opPlotStatus
  with_reducible repeat' (first | assumption | intro _ | apply anyCmd_same | apply State.say_same | apply ite_same | apply foldl_same | apply ite_same2 | apply foldl_same2 | split | refine pairSame2 (by assumption) ?_ | dsimp only)
theorem opPlotEscape_same {z : Bool} {s u : State} (h : Same z s u) (p : Packet) : Same z s (opPlotEscape p u).2 := by
  unfold opPlotEscape
  with_reducible repeat' (first | assumption | intro _ | apply ownerCmd_same | apply State.escSet_same | apply State.say_same | apply ite_same | apply foldl_same | apply ite_same2 | apply foldl_same2 | split | refine pairSame2 (by assumption) ?_ | refine optSame_get (by assumption) ?_ | apply optSame_getD | apply optSame_map | dsimp only)
theorem opPlotLow_same {z : Bool} {s u : State} (h : Same z s u) (p : Packet) : Same z s (opPlotLow p u).2 := by
  unfold opPlotLow
  with_reducible repeat' (first | assumption | intro _ | apply ownerCmd_same | apply State.say_same | apply State.mergeRaw_same | apply ite_same | apply foldl_same | apply ite_same2 | apply foldl_same2 | split | refine pairSame2 (by assumption) ?_ | dsimp only)
theorem opPlotCounters_same {z : Bool} {s u : State} (h : Same z s u) (p : Packet) : Same z s (opPlotCounters p u).2 := by
  unfold opPlotCounters
  with_reducible repeat' (first | assumption | intro _ | apply ownerCmd_same | apply State.say_same | apply State.wn_same | apply ite_same | apply foldl_same | apply ite_same2 | apply foldl_same2 | split | refine pairSame2 (by assumption) ?_ | dsimp only)
theorem opcodesPlot_same {s : State} : ∀ x ∈ opcodesPlot, ∀ (p : Packet) (u : State), Same false s u → Same false s (x.act p u).2 :=
  List.forall_mem_cons.2 ⟨fun p _ h => opPlotStatus_same h p, List.forall_mem_cons.2 ⟨fun p _ h => opPlotEscape_same h p, List.forall_mem_cons.2 ⟨fun p _ h => opPlotLow_same h p, List.forall_mem_cons.2 ⟨fun p _ h => opPlotCounters_same h p, List.forall_mem_nil _⟩⟩⟩⟩
theorem opTimeRead_same {z : Bool} {s u : State} (h : Same z s u) (p : Packet) : Same z s (opTimeRead p u).2 := by
  unfold opTimeRead
  with_reducible repeat' (first | assumption | intro _ | apply anyCmd_same | apply State.say_same | apply ite_same | apply foldl_same | apply ite_same2 | apply foldl_same2 | split | refine pairSame2 (by assumption) ?_ | dsimp only)
theorem opTimeAdjust_same {z : Bool} {s u : State} (h : Same z s u) (p : Packet) : Same z s (opTimeAdjust p u).2 := by
  unfold opTimeAdjust
  with_reducible repeat' (first | assumption | intro _ | apply ownerCmd_same | apply State.say_same | apply State.adjApply_same | apply State.put_same | apply State.foldDue_same | apply ite_same | apply foldl_same | apply ite_same2 | apply foldl_same2 | split | refine pairSame2 (by assumption) ?_ | dsimp only)
theorem opTimeSource_same {z : Bool} {s u : State} (h : Same z s u) (p : Packet) : Same z s (opTimeSource p u).2 := by
  unfold opTimeSource
  with_reducible repeat' (first | assumption | intro _ | apply ownerCmd_same | apply State.mergeRaw_same | apply State.say_same | apply State.discWrite_same | apply ite_same | apply foldl_same | apply ite_same2 | apply foldl_same2 | split | refine pairSame2 (by assumption) ?_ | dsimp only)
theorem wordCmd_same {z : Bool} {s u : State} (h : Same z s u) (r : Reg) (p : Packet) : Same z s (wordCmd r p u).2 := by
  unfold wordCmd
  with_reducible repeat' (first | assumption | intro _ | apply ownerCmd_same | apply State.say_same | apply State.regStore_same | apply ite_same | apply foldl_same | apply ite_same2 | apply foldl_same2 | split | refine pairSame2 (by assumption) ?_ | dsimp only)
theorem opTimeAge_same {z : Bool} {s u : State} (h : Same z s u) (p : Packet) : Same z s (opTimeAge p u).2 := by
  unfold opTimeAge
  with_reducible repeat' (first | assumption | intro _ | apply wordCmd_same | apply ite_same | apply foldl_same | apply ite_same2 | apply foldl_same2 | split | refine pairSame2 (by assumption) ?_ | dsimp only)
theorem opTimePpsDelay_same {z : Bool} {s u : State} (h : Same z s u) (p : Packet) : Same z s (opTimePpsDelay p u).2 := by
  unfold opTimePpsDelay
  with_reducible repeat' (first | assumption | intro _ | apply wordCmd_same | apply ite_same | apply foldl_same | apply ite_same2 | apply foldl_same2 | split | refine pairSame2 (by assumption) ?_ | dsimp only)
theorem opTimeTaiUtc_same {z : Bool} {s u : State} (h : Same z s u) (p : Packet) : Same z s (opTimeTaiUtc p u).2 := by
  unfold opTimeTaiUtc
  with_reducible repeat' (first | assumption | intro _ | apply wordCmd_same | apply ite_same | apply foldl_same | apply ite_same2 | apply foldl_same2 | split | refine pairSame2 (by assumption) ?_ | dsimp only)
theorem opTimeStatus_same {z : Bool} {s u : State} (h : Same z s u) (p : Packet) : Same z s (opTimeStatus p u).2 := by
  unfold opTimeStatus
  with_reducible repeat' (first | assumption | intro _ | apply anyCmd_same | apply State.say_same | apply ite_same | apply foldl_same | apply ite_same2 | apply foldl_same2 | split | refine pairSame2 (by assumption) ?_ | dsimp only)
theorem unitCmd_same {z : Bool} {s u : State} (h : Same z s u) (max : Nat) (regs : Nat → List Reg) (p : Packet) (f : Nat → State → CmdOut × State) (k : ∀ x0 v, Same z s v → Same z s (f x0 v).2) : Same z s (unitCmd max regs p u f).2 := by
  unfold unitCmd
  with_reducible repeat' (first | assumption | intro _ | apply k | apply ownerCmd_same | apply ite_same | apply foldl_same | apply ite_same2 | apply foldl_same2 | split | refine pairSame2 (by assumption) ?_ | dsimp only)
theorem State.unitWords_same {z : Bool} {s u : State} (h : Same z s u) (p : Packet) (regs : List Reg) : Same z s (State.unitWords u p regs) := by
  unfold State.unitWords
  with_reducible repeat' (first | assumption | intro _ | apply State.regStore_same | apply ite_same | apply foldl_same | split | dsimp only)
theorem opTimeEdge_same {z : Bool} {s u : State} (h : Same z s u) (p : Packet) : Same z s (opTimeEdge p u).2 := by
  unfold opTimeEdge
  with_reducible repeat' (first | assumption | intro _ | apply unitCmd_same | apply State.say_same | apply State.unitWords_same | apply ite_same | apply foldl_same | apply ite_same2 | apply foldl_same2 | split | refine pairSame2 (by assumption) ?_ | dsimp only)
theorem opTimeFreq_same {z : Bool} {s u : State} (h : Same z s u) (p : Packet) : Same z s (opTimeFreq p u).2 := by
  unfold opTimeFreq
  with_reducible repeat' (first | assumption | intro _ | apply State.say_same | apply unitCmd_same | apply State.unitWords_same | apply ite_same | apply foldl_same | apply ite_same2 | apply foldl_same2 | split | refine pairSame2 (by assumption) ?_ | dsimp only)
theorem opTimeFreqRead_same {z : Bool} {s u : State} (h : Same z s u) (p : Packet) : Same z s (opTimeFreqRead p u).2 := by
  unfold opTimeFreqRead
  with_reducible repeat' (first | assumption | intro _ | apply unitCmd_same | apply State.say_same | apply ite_same | apply foldl_same | apply ite_same2 | apply foldl_same2 | split | refine pairSame2 (by assumption) ?_ | dsimp only)
theorem opTimePtm_same {z : Bool} {s u : State} (h : Same z s u) (p : Packet) : Same z s (opTimePtm p u).2 := by
  unfold opTimePtm
  with_reducible repeat' (first | assumption | intro _ | apply wordCmd_same | apply ite_same | apply foldl_same | apply ite_same2 | apply foldl_same2 | split | refine pairSame2 (by assumption) ?_ | dsimp only)
theorem opcodesTime_same {s : State} : ∀ x ∈ opcodesTime, ∀ (p : Packet) (u : State), Same false s u → Same false s (x.act p u).2 :=
  List.forall_mem_cons.2 ⟨fun p _ h => opTimeRead_same h p, List.forall_mem_cons.2 ⟨fun p _ h => opTimeAdjust_same h p, List.forall_mem_cons.2 ⟨fun p _ h => opTimeSource_same h p, List.forall_mem_cons.2 ⟨fun p _ h => opTimeAge_same h p, List.forall_mem_cons.2 ⟨fun p _ h => opTimePpsDelay_same h p, List.forall_mem_cons.2 ⟨fun p _ h => opTimeTaiUtc_same h p, List.forall_mem_cons.2 ⟨fun p _ h => opTimeStatus_same h p, List.forall_mem_cons.2 ⟨fun p _ h => opTimeEdge_same h p, List.forall_mem_cons.2 ⟨fun p _ h => opTimeFreq_same h p, List.forall_mem_cons.2 ⟨fun p _ h => opTimeFreqRead_same h p, List.forall_mem_cons.2 ⟨fun p _ h => opTimePtm_same h p, List.forall_mem_nil _⟩⟩⟩⟩⟩⟩⟩⟩⟩⟩⟩
theorem opTrigArm_same {z : Bool} {s u : State} (h : Same z s u) (p : Packet) : Same z s (opTrigArm p u).2 := by
  unfold opTrigArm
  with_reducible repeat' (first | assumption | intro _ | apply unitCmd_same | apply State.say_same | apply State.mergeRaw_same | apply State.trgArm_same | apply ite_same | apply foldl_same | apply ite_same2 | apply foldl_same2 | split | refine pairSame2 (by assumption) ?_ | dsimp only)
theorem opTrigDisarm_same {z : Bool} {s u : State} (h : Same z s u) (p : Packet) : Same z s (opTrigDisarm p u).2 := by
  unfold opTrigDisarm
  with_reducible repeat' (first | assumption | intro _ | apply unitCmd_same | apply State.say_same | apply State.trgOff_same | apply ite_same | apply foldl_same | apply ite_same2 | apply foldl_same2 | split | refine pairSame2 (by assumption) ?_ | dsimp only)
theorem opTrigFire_same {z : Bool} {s u : State} (h : Same z s u) (p : Packet) : Same z s (opTrigFire p u).2 := by
  unfold opTrigFire
  with_reducible repeat' (first | assumption | intro _ | apply ownerCmd_same | apply State.say_same | apply State.fireTrig_same | apply ite_same | apply foldl_same | apply ite_same2 | apply foldl_same2 | split | refine pairSame2 (by assumption) ?_ | dsimp only)
theorem opTrigSrcSkew_same {z : Bool} {s u : State} (h : Same z s u) (p : Packet) : Same z s (opTrigSrcSkew p u).2 := by
  unfold opTrigSrcSkew
  with_reducible repeat' (first | assumption | intro _ | apply unitCmd_same | apply State.say_same | apply State.unitWords_same | apply ite_same | apply foldl_same | apply ite_same2 | apply foldl_same2 | split | refine pairSame2 (by assumption) ?_ | dsimp only)
theorem opTrigRing_same {z : Bool} {s u : State} (h : Same z s u) (p : Packet) : Same z s (opTrigRing p u).2 := by
  unfold opTrigRing
  with_reducible repeat' (first | assumption | intro _ | apply ownerCmd_same | apply State.wn_same | apply State.say_same | apply State.ringCtlWrite_same | apply ite_same | apply foldl_same | apply ite_same2 | apply foldl_same2 | split | refine pairSame2 (by assumption) ?_ | dsimp only)
theorem opTrigCapset_same {z : Bool} {s u : State} (h : Same z s u) (p : Packet) : Same z s (opTrigCapset p u).2 := by
  unfold opTrigCapset
  with_reducible repeat' (first | assumption | intro _ | apply ownerCmd_same | apply State.say_same | apply State.wn_same | apply ite_same | apply foldl_same | apply ite_same2 | apply foldl_same2 | split | refine pairSame2 (by assumption) ?_ | dsimp only)
theorem opTrigNet_same {z : Bool} {s u : State} (h : Same z s u) (p : Packet) : Same z s (opTrigNet p u).2 := by
  unfold opTrigNet
  with_reducible repeat' (first | assumption | intro _ | apply wordCmd_same | apply ite_same | apply foldl_same | apply ite_same2 | apply foldl_same2 | split | refine pairSame2 (by assumption) ?_ | dsimp only)
theorem opTrigStream_same {z : Bool} {s u : State} (h : Same z s u) (p : Packet) : Same z s (opTrigStream p u).2 := by
  unfold opTrigStream
  with_reducible repeat' (first | assumption | intro _ | apply ownerCmd_same | apply State.say_same | apply State.mergeRaw_same | apply ite_same | apply foldl_same | apply ite_same2 | apply foldl_same2 | split | refine pairSame2 (by assumption) ?_ | dsimp only)
theorem opTrigStatus_same {z : Bool} {s u : State} (h : Same z s u) (p : Packet) : Same z s (opTrigStatus p u).2 := by
  unfold opTrigStatus
  with_reducible repeat' (first | assumption | intro _ | apply unitCmd_same | apply State.say_same | apply ite_same | apply foldl_same | apply ite_same2 | apply foldl_same2 | split | refine pairSame2 (by assumption) ?_ | dsimp only)
theorem opcodesTrig_same {s : State} : ∀ x ∈ opcodesTrig, ∀ (p : Packet) (u : State), Same false s u → Same false s (x.act p u).2 :=
  List.forall_mem_cons.2 ⟨fun p _ h => opTrigArm_same h p, List.forall_mem_cons.2 ⟨fun p _ h => opTrigDisarm_same h p, List.forall_mem_cons.2 ⟨fun p _ h => opTrigFire_same h p, List.forall_mem_cons.2 ⟨fun p _ h => opTrigSrcSkew_same h p, List.forall_mem_cons.2 ⟨fun p _ h => opTrigRing_same h p, List.forall_mem_cons.2 ⟨fun p _ h => opTrigCapset_same h p, List.forall_mem_cons.2 ⟨fun p _ h => opTrigNet_same h p, List.forall_mem_cons.2 ⟨fun p _ h => opTrigStream_same h p, List.forall_mem_cons.2 ⟨fun p _ h => opTrigStatus_same h p, List.forall_mem_nil _⟩⟩⟩⟩⟩⟩⟩⟩⟩
theorem opCalTrimRepair_same {z : Bool} {s u : State} (h : Same z s u) (p : Packet) : Same z s (opCalTrimRepair p u).2 := by
  unfold opCalTrimRepair
  with_reducible repeat' (first | assumption | intro _ | apply ownerCmd_same | apply State.say_same | apply ite_same | apply foldl_same | apply ite_same2 | apply foldl_same2 | split | refine pairSame2 (by assumption) ?_ | dsimp only | apply same_nvm)
theorem opCalUserMeasure_same {z : Bool} {s u : State} (h : Same z s u) (p : Packet) : Same z s (opCalUserMeasure p u).2 := by
  unfold opCalUserMeasure
  with_reducible repeat' (first | assumption | intro _ | apply ownerCmd_same | apply State.say_same | apply State.refuseDom_same | apply ite_same | apply foldl_same | apply ite_same2 | apply foldl_same2 | split | refine pairSame2 (by assumption) ?_ | dsimp only | apply same_calMeas)
theorem opCalUserWrite_same {z : Bool} {s u : State} (h : Same z s u) (p : Packet) : Same z s (opCalUserWrite p u).2 := by
  unfold opCalUserWrite
  with_reducible repeat' (first | assumption | intro _ | apply ownerCmd_same | apply State.say_same | apply ite_same | apply foldl_same | apply ite_same2 | apply foldl_same2 | split | refine pairSame2 (by assumption) ?_ | dsimp only | apply same_nvm)
theorem opCalTim_same {z : Bool} {s u : State} (h : Same z s u) (p : Packet) : Same z s (opCalTim p u).2 := by
  unfold opCalTim
  with_reducible repeat' (first | assumption | intro _ | apply ownerCmd_same | apply State.say_same | apply State.refuseDom_same | apply State.coresStart_same | apply ite_same | apply foldl_same | apply ite_same2 | apply foldl_same2 | split | refine pairSame2 (by assumption) ?_ | dsimp only)
theorem opCalTimPeriod_same {z : Bool} {s u : State} (h : Same z s u) (p : Packet) : Same z s (opCalTimPeriod p u).2 := by
  unfold opCalTimPeriod
  with_reducible repeat' (first | assumption | intro _ | apply ownerCmd_same | apply State.say_same | apply State.put_same | apply ite_same | apply foldl_same | apply ite_same2 | apply foldl_same2 | split | refine pairSame2 (by assumption) ?_ | dsimp only)
theorem opCalSliceTrim_same {z : Bool} {s u : State} (h : Same z s u) (p : Packet) : Same z s (opCalSliceTrim p u).2 := by
  unfold opCalSliceTrim
  with_reducible repeat' (first | assumption | intro _ | apply ownerCmd_same | apply State.say_same | apply State.sayIdle_same | apply State.setSub_same | apply State.stage_same | apply ite_same | apply foldl_same | apply ite_same2 | apply foldl_same2 | split | refine pairSame2 (by assumption) ?_ | dsimp only)
theorem opCalSurvey_same {z : Bool} {s u : State} (h : Same z s u) (p : Packet) : Same z s (opCalSurvey p u).2 := by
  unfold opCalSurvey
  with_reducible repeat' (first | assumption | intro _ | apply ownerCmd_same | apply State.say_same | apply State.grpCtlWrite_same | apply ite_same | apply foldl_same | apply ite_same2 | apply foldl_same2 | split | refine pairSame2 (by assumption) ?_ | dsimp only)
theorem opCalSurveyStep_same {z : Bool} {s u : State} (h : Same z s u) (p : Packet) : Same z s (opCalSurveyStep p u).2 := by
  unfold opCalSurveyStep
  with_reducible repeat' (first | assumption | intro _ | apply ownerCmd_same | apply State.say_same | apply State.setSub_same | apply ite_same | apply foldl_same | apply ite_same2 | apply foldl_same2 | split | refine pairSame2 (by assumption) ?_ | dsimp only)
theorem opCalPageRead_same {z : Bool} {s u : State} (h : Same z s u) (p : Packet) : Same z s (opCalPageRead p u).2 := by
  unfold opCalPageRead
  with_reducible repeat' (first | assumption | intro _ | apply ownerCmd_same | apply State.say_same | apply State.draw_same | apply ite_same | apply foldl_same | apply ite_same2 | apply foldl_same2 | split | refine pairSame2 (by assumption) ?_ | dsimp only)
theorem opcodesCal_same {s : State} : ∀ x ∈ opcodesCal, ∀ (p : Packet) (u : State), Same false s u → Same false s (x.act p u).2 :=
  List.forall_mem_cons.2 ⟨fun p _ h => opCalTrimRepair_same h p, List.forall_mem_cons.2 ⟨fun p _ h => opCalUserMeasure_same h p, List.forall_mem_cons.2 ⟨fun p _ h => opCalUserWrite_same h p, List.forall_mem_cons.2 ⟨fun p _ h => opCalTim_same h p, List.forall_mem_cons.2 ⟨fun p _ h => opCalTimPeriod_same h p, List.forall_mem_cons.2 ⟨fun p _ h => opCalSliceTrim_same h p, List.forall_mem_cons.2 ⟨fun p _ h => opCalSurvey_same h p, List.forall_mem_cons.2 ⟨fun p _ h => opCalSurveyStep_same h p, List.forall_mem_cons.2 ⟨fun p _ h => opCalPageRead_same h p, List.forall_mem_nil _⟩⟩⟩⟩⟩⟩⟩⟩⟩
theorem State.refuseFe_same {z : Bool} {s u : State} (h : Same z s u) (c : Nat) : Same z s (State.refuseFe u c).2 := by
  unfold State.refuseFe
  with_reducible repeat' (first | assumption | intro _ | apply State.refuseDom_same | apply State.say_same | apply State.feCode_same | apply ite_same | apply foldl_same | apply ite_same2 | apply foldl_same2 | split | refine pairSame2 (by assumption) ?_ | dsimp only)
theorem opFeBind_same {z : Bool} {s u : State} (h : Same z s u) (p : Packet) : Same z s (opFeBind p u).2 := by
  unfold opFeBind
  with_reducible repeat' (first | assumption | intro _ | apply ownerCmd_same | apply State.refuseFe_same | apply State.say_same | apply State.feCode_same | apply State.feBind_same | apply ite_same | apply foldl_same | apply ite_same2 | apply foldl_same2 | split | refine pairSame2 (by assumption) ?_ | dsimp only)
theorem opFeUnbind_same {z : Bool} {s u : State} (h : Same z s u) (p : Packet) : Same z s (opFeUnbind p u).2 := by
  unfold opFeUnbind
  with_reducible repeat' (first | assumption | intro _ | apply ownerCmd_same | apply State.refuseFe_same | apply State.say_same | apply State.feCode_same | apply State.feUnbind_same | apply ite_same | apply foldl_same | apply ite_same2 | apply foldl_same2 | split | refine pairSame2 (by assumption) ?_ | dsimp only)
theorem State.feSetCmd_same {z : Bool} {s u : State} (h : Same z s u) (p : Packet) (vals : List SVal) : Same z s (State.feSetCmd u p vals).2 := by
  unfold State.feSetCmd
  with_reducible repeat' (first | assumption | intro _ | apply State.refuseFe_same | apply State.say_same | apply State.feCode_same | apply State.mergeRaw_same | apply State.sfeDirty_same | apply State.feCommit_same | apply State.sayIdle_same | apply State.feApply_same | apply State.feStage_same | apply ite_same | apply foldl_same | apply ite_same2 | apply foldl_same2 | split | refine pairSame2 (by assumption) ?_ | refine optSame_get (by assumption) ?_ | apply optSame_getD | apply optSame_map | dsimp only)
theorem feUnitCmd_same {z : Bool} {s u : State} (h : Same z s u) (max : Nat) (regs : Nat → List Reg) (p : Packet) : Same z s (feUnitCmd max regs p u).2 := by
  unfold feUnitCmd
  with_reducible repeat' (first | assumption | intro _ | apply unitCmd_same | apply State.feSetCmd_same | apply ite_same | apply foldl_same | apply ite_same2 | apply foldl_same2 | split | refine pairSame2 (by assumption) ?_ | dsimp only)
theorem opFeExcitation_same {z : Bool} {s u : State} (h : Same z s u) (p : Packet) : Same z s (opFeExcitation p u).2 := by
  unfold opFeExcitation
  with_reducible repeat' (first | assumption | intro _ | apply feUnitCmd_same | apply ite_same | apply foldl_same | apply ite_same2 | apply foldl_same2 | split | refine pairSame2 (by assumption) ?_ | dsimp only)
theorem opFeChannel_same {z : Bool} {s u : State} (h : Same z s u) (p : Packet) : Same z s (opFeChannel p u).2 := by
  unfold opFeChannel
  with_reducible repeat' (first | assumption | intro _ | apply feUnitCmd_same | apply ite_same | apply foldl_same | apply ite_same2 | apply foldl_same2 | split | refine pairSame2 (by assumption) ?_ | dsimp only)
theorem opFeSequence_same {z : Bool} {s u : State} (h : Same z s u) (p : Packet) : Same z s (opFeSequence p u).2 := by
  unfold opFeSequence
  with_reducible repeat' (first | assumption | intro _ | apply feUnitCmd_same | apply ite_same | apply foldl_same | apply ite_same2 | apply foldl_same2 | split | refine pairSame2 (by assumption) ?_ | dsimp only)
theorem opFeRoute_same {z : Bool} {s u : State} (h : Same z s u) (p : Packet) : Same z s (opFeRoute p u).2 := by
  unfold opFeRoute
  with_reducible repeat' (first | assumption | intro _ | apply feUnitCmd_same | apply ite_same | apply foldl_same | apply ite_same2 | apply foldl_same2 | split | refine pairSame2 (by assumption) ?_ | dsimp only)
theorem opFeBlank_same {z : Bool} {s u : State} (h : Same z s u) (p : Packet) : Same z s (opFeBlank p u).2 := by
  unfold opFeBlank
  with_reducible repeat' (first | assumption | intro _ | apply ownerCmd_same | apply State.feSetCmd_same | apply ite_same | apply foldl_same | apply ite_same2 | apply foldl_same2 | split | refine pairSame2 (by assumption) ?_ | dsimp only)
theorem opFeLin_same {z : Bool} {s u : State} (h : Same z s u) (p : Packet) : Same z s (opFeLin p u).2 := by
  unfold opFeLin
  with_reducible repeat' (first | assumption | intro _ | apply feUnitCmd_same | apply ite_same | apply foldl_same | apply ite_same2 | apply foldl_same2 | split | refine pairSame2 (by assumption) ?_ | dsimp only)
theorem opFeUrgent_same {z : Bool} {s u : State} (h : Same z s u) (p : Packet) : Same z s (opFeUrgent p u).2 := by
  unfold opFeUrgent
  with_reducible repeat' (first | assumption | intro _ | apply ownerCmd_same | apply State.urgRequest_same | apply ite_same | apply foldl_same | apply ite_same2 | apply foldl_same2 | split | refine pairSame2 (by assumption) ?_ | dsimp only)
theorem opFeRef_same {z : Bool} {s u : State} (h : Same z s u) (p : Packet) : Same z s (opFeRef p u).2 := by
  unfold opFeRef
  with_reducible repeat' (first | assumption | intro _ | apply ownerCmd_same | apply State.say_same | apply State.refCtlWrite_same | apply ite_same | apply foldl_same | apply ite_same2 | apply foldl_same2 | split | refine pairSame2 (by assumption) ?_ | dsimp only)
theorem opFeStatus_same {z : Bool} {s u : State} (h : Same z s u) (p : Packet) : Same z s (opFeStatus p u).2 := by
  unfold opFeStatus
  with_reducible repeat' (first | assumption | intro _ | apply unitCmd_same | apply State.say_same | apply ite_same | apply foldl_same | apply ite_same2 | apply foldl_same2 | split | refine pairSame2 (by assumption) ?_ | dsimp only)
theorem opcodesFe_same {s : State} : ∀ x ∈ opcodesFe, ∀ (p : Packet) (u : State), Same false s u → Same false s (x.act p u).2 :=
  List.forall_mem_cons.2 ⟨fun p _ h => opFeBind_same h p, List.forall_mem_cons.2 ⟨fun p _ h => opFeUnbind_same h p, List.forall_mem_cons.2 ⟨fun p _ h => opFeExcitation_same h p, List.forall_mem_cons.2 ⟨fun p _ h => opFeChannel_same h p, List.forall_mem_cons.2 ⟨fun p _ h => opFeSequence_same h p, List.forall_mem_cons.2 ⟨fun p _ h => opFeRoute_same h p, List.forall_mem_cons.2 ⟨fun p _ h => opFeBlank_same h p, List.forall_mem_cons.2 ⟨fun p _ h => opFeLin_same h p, List.forall_mem_cons.2 ⟨fun p _ h => opFeUrgent_same h p, List.forall_mem_cons.2 ⟨fun p _ h => opFeRef_same h p, List.forall_mem_cons.2 ⟨fun p _ h => opFeStatus_same h p, List.forall_mem_nil _⟩⟩⟩⟩⟩⟩⟩⟩⟩⟩⟩
theorem opLaneSheet_same {z : Bool} {s u : State} (h : Same z s u) (p : Packet) : Same z s (opLaneSheet p u).2 := by
  unfold opLaneSheet
  with_reducible repeat' (first | assumption | intro _ | apply unitCmd_same | apply State.say_same | apply State.mergeRaw_same | apply State.sheetCtlWrite_same | apply ite_same | apply foldl_same | apply ite_same2 | apply foldl_same2 | split | refine pairSame2 (by assumption) ?_ | dsimp only)
theorem laneCmd_same {z : Bool} {s u : State} (h : Same z s u) (max : Nat) (size : Nat) (regs : Nat → Nat → List Reg) (p : Packet) (f : Nat → Nat → State → CmdOut × State) (k : ∀ x0 x1 v, Same z s v → Same z s (f x0 x1 v).2) : Same z s (laneCmd max size regs p u f).2 := by
  unfold laneCmd
  with_reducible repeat' (first | assumption | intro _ | apply k | apply ownerCmd_same | apply ite_same | apply foldl_same | apply ite_same2 | apply foldl_same2 | split | refine pairSame2 (by assumption) ?_ | dsimp only)
theorem opLaneTune_same {z : Bool} {s u : State} (h : Same z s u) (p : Packet) : Same z s (opLaneTune p u).2 := by
  unfold opLaneTune
  with_reducible repeat' (first | assumption | intro _ | apply laneCmd_same | apply State.say_same | apply State.laneCtlWrite_same | apply ite_same | apply foldl_same | apply ite_same2 | apply foldl_same2 | split | refine pairSame2 (by assumption) ?_ | dsimp only)
theorem State.substSay_same {z : Bool} {s u : State} (h : Same z s u) (sh : Nat) (k0 : Nat) (a : Nat) : Same z s (State.substSay u sh k0 a).2 := by
  unfold State.substSay
  with_reducible repeat' (first | assumption | intro _ | apply State.subst_same | apply State.say_same | apply ite_same | apply foldl_same | apply ite_same2 | apply foldl_same2 | split | refine pairSame2 (by assumption) ?_ | dsimp only)
theorem substAct_same {z : Bool} {s u : State} (h : Same z s u) (p : Packet) (sh : Nat) (k0 : Nat) : Same z s (substAct p sh k0 u).2 := by
  unfold substAct
  with_reducible repeat' (first | assumption | intro _ | apply State.substSay_same | apply State.put_same | apply ite_same | apply foldl_same | apply ite_same2 | apply foldl_same2 | split | refine pairSame2 (by assumption) ?_ | dsimp only)
theorem opLaneSubst_same {z : Bool} {s u : State} (h : Same z s u) (p : Packet) : Same z s (opLaneSubst p u).2 := by
  unfold opLaneSubst
  with_reducible repeat' (first | assumption | intro _ | apply laneCmd_same | apply substAct_same | apply ite_same | apply foldl_same | apply ite_same2 | apply foldl_same2 | split | refine pairSame2 (by assumption) ?_ | dsimp only)
theorem opLaneNarrow_same {z : Bool} {s u : State} (h : Same z s u) (p : Packet) : Same z s (opLaneNarrow p u).2 := by
  unfold opLaneNarrow
  with_reducible repeat' (first | assumption | intro _ | apply laneCmd_same | apply State.narrow_same | apply State.put_same | apply State.say_same | apply ite_same | apply foldl_same | apply ite_same2 | apply foldl_same2 | split | refine pairSame2 (by assumption) ?_ | dsimp only)
theorem opLanePrbs_same {z : Bool} {s u : State} (h : Same z s u) (p : Packet) : Same z s (opLanePrbs p u).2 := by
  unfold opLanePrbs
  with_reducible repeat' (first | assumption | intro _ | apply laneCmd_same | apply State.say_same | apply State.wn_same | apply State.prbsWrite_same | apply State.prbsCatch_same | apply ite_same | apply foldl_same | apply ite_same2 | apply foldl_same2 | split | refine pairSame2 (by assumption) ?_ | dsimp only)
theorem opLaneStatus_same {z : Bool} {s u : State} (h : Same z s u) (p : Packet) : Same z s (opLaneStatus p u).2 := by
  unfold opLaneStatus
  with_reducible repeat' (first | assumption | intro _ | apply unitCmd_same | apply State.say_same | apply ite_same | apply foldl_same | apply ite_same2 | apply foldl_same2 | split | refine pairSame2 (by assumption) ?_ | dsimp only)
theorem opcodesLane_same {s : State} : ∀ x ∈ opcodesLane, ∀ (p : Packet) (u : State), Same false s u → Same false s (x.act p u).2 :=
  List.forall_mem_cons.2 ⟨fun p _ h => opLaneSheet_same h p, List.forall_mem_cons.2 ⟨fun p _ h => opLaneTune_same h p, List.forall_mem_cons.2 ⟨fun p _ h => opLaneSubst_same h p, List.forall_mem_cons.2 ⟨fun p _ h => opLaneNarrow_same h p, List.forall_mem_cons.2 ⟨fun p _ h => opLanePrbs_same h p, List.forall_mem_cons.2 ⟨fun p _ h => opLaneStatus_same h p, List.forall_mem_nil _⟩⟩⟩⟩⟩⟩
theorem opLinkConfig_same {z : Bool} {s u : State} (h : Same z s u) (p : Packet) : Same z s (opLinkConfig p u).2 := by
  unfold opLinkConfig
  with_reducible repeat' (first | assumption | intro _ | apply unitCmd_same | apply State.say_same | apply State.unitWords_same | apply ite_same | apply foldl_same | apply ite_same2 | apply foldl_same2 | split | refine pairSame2 (by assumption) ?_ | dsimp only)
theorem opLinkRxmap_same {z : Bool} {s u : State} (h : Same z s u) (p : Packet) : Same z s (opLinkRxmap p u).2 := by
  unfold opLinkRxmap
  with_reducible repeat' (first | assumption | intro _ | apply ownerCmd_same | apply State.say_same | apply State.setTab_same | apply ite_same | apply foldl_same | apply ite_same2 | apply foldl_same2 | split | refine pairSame2 (by assumption) ?_ | dsimp only)
theorem opLinkStatus_same {z : Bool} {s u : State} (h : Same z s u) (p : Packet) : Same z s (opLinkStatus p u).2 := by
  unfold opLinkStatus
  with_reducible repeat' (first | assumption | intro _ | apply unitCmd_same | apply State.say_same | apply ite_same | apply foldl_same | apply ite_same2 | apply foldl_same2 | split | refine pairSame2 (by assumption) ?_ | dsimp only)
theorem opcodesLink_same {s : State} : ∀ x ∈ opcodesLink, ∀ (p : Packet) (u : State), Same false s u → Same false s (x.act p u).2 :=
  List.forall_mem_cons.2 ⟨fun p _ h => opLinkConfig_same h p, List.forall_mem_cons.2 ⟨fun p _ h => opLinkRxmap_same h p, List.forall_mem_cons.2 ⟨fun p _ h => opLinkStatus_same h p, List.forall_mem_nil _⟩⟩⟩
theorem opRouteMac_same {z : Bool} {s u : State} (h : Same z s u) (p : Packet) : Same z s (opRouteMac p u).2 := by
  unfold opRouteMac
  with_reducible repeat' (first | assumption | intro _ | apply State.say_same | apply unitCmd_same | apply State.macCfgWrite_same | apply ite_same | apply foldl_same | apply ite_same2 | apply foldl_same2 | split | refine pairSame2 (by assumption) ?_ | dsimp only)
theorem opRoutePair_same {z : Bool} {s u : State} (h : Same z s u) (p : Packet) : Same z s (opRoutePair p u).2 := by
  unfold opRoutePair
  with_reducible repeat' (first | assumption | intro _ | apply unitCmd_same | apply State.say_same | apply State.pairWrite_same | apply ite_same | apply foldl_same | apply ite_same2 | apply foldl_same2 | split | refine pairSame2 (by assumption) ?_ | dsimp only)
theorem opRouteSide_same {z : Bool} {s u : State} (h : Same z s u) (p : Packet) : Same z s (opRouteSide p u).2 := by
  unfold opRouteSide
  with_reducible repeat' (first | assumption | intro _ | apply ownerCmd_same | apply State.say_same | apply State.raise_same | apply State.sideWrite_same | apply ite_same | apply foldl_same | apply ite_same2 | apply foldl_same2 | split | refine pairSame2 (by assumption) ?_ | dsimp only)
theorem opRoutePolicy_same {z : Bool} {s u : State} (h : Same z s u) (p : Packet) : Same z s (opRoutePolicy p u).2 := by
  unfold opRoutePolicy
  with_reducible repeat' (first | assumption | intro _ | apply ownerCmd_same | apply State.say_same | apply State.raise_same | apply State.put_same | apply ite_same | apply foldl_same | apply ite_same2 | apply foldl_same2 | split | refine pairSame2 (by assumption) ?_ | dsimp only)
theorem opRouteHeartbeat_same {z : Bool} {s u : State} (h : Same z s u) (p : Packet) : Same z s (opRouteHeartbeat p u).2 := by
  unfold opRouteHeartbeat
  with_reducible repeat' (first | assumption | intro _ | apply ownerCmd_same | apply State.mergeRaw_same | apply State.say_same | apply State.redHbWrite_same | apply ite_same | apply foldl_same | apply ite_same2 | apply foldl_same2 | split | refine pairSame2 (by assumption) ?_ | dsimp only)
theorem entryCmd_same {z : Bool} {s u : State} (h : Same z s u) (ok : Bool) (base : Nat) (i : Nat) (p : Packet) : Same z s (entryCmd ok base i p u).2 := by
  unfold entryCmd
  with_reducible repeat' (first | assumption | intro _ | apply ownerCmd_same | apply State.say_same | apply State.hitPut_same | apply ite_same | apply foldl_same | apply ite_same2 | apply foldl_same2 | split | refine pairSame2 (by assumption) ?_ | dsimp only)
theorem opRouteStream_same {z : Bool} {s u : State} (h : Same z s u) (p : Packet) : Same z s (opRouteStream p u).2 := by
  unfold opRouteStream
  with_reducible repeat' (first | assumption | intro _ | apply entryCmd_same | apply ite_same | apply foldl_same | apply ite_same2 | apply foldl_same2 | split | refine pairSame2 (by assumption) ?_ | dsimp only)
theorem opRouteAddress_same {z : Bool} {s u : State} (h : Same z s u) (p : Packet) : Same z s (opRouteAddress p u).2 := by
  unfold opRouteAddress
  with_reducible repeat' (first | assumption | intro _ | apply entryCmd_same | apply ite_same | apply foldl_same | apply ite_same2 | apply foldl_same2 | split | refine pairSame2 (by assumption) ?_ | dsimp only)
theorem opRoutePort_same {z : Bool} {s u : State} (h : Same z s u) (p : Packet) : Same z s (opRoutePort p u).2 := by
  unfold opRoutePort
  with_reducible repeat' (first | assumption | intro _ | apply entryCmd_same | apply ite_same | apply foldl_same | apply ite_same2 | apply foldl_same2 | split | refine pairSame2 (by assumption) ?_ | dsimp only)
theorem opRouteStatus_same {z : Bool} {s u : State} (h : Same z s u) (p : Packet) : Same z s (opRouteStatus p u).2 := by
  unfold opRouteStatus
  with_reducible repeat' (first | assumption | intro _ | apply ownerCmd_same | apply State.say_same | apply ite_same | apply foldl_same | apply ite_same2 | apply foldl_same2 | split | refine pairSame2 (by assumption) ?_ | dsimp only)
theorem opcodesRoute_same {s : State} : ∀ x ∈ opcodesRoute, ∀ (p : Packet) (u : State), Same false s u → Same false s (x.act p u).2 :=
  List.forall_mem_cons.2 ⟨fun p _ h => opRouteMac_same h p, List.forall_mem_cons.2 ⟨fun p _ h => opRoutePair_same h p, List.forall_mem_cons.2 ⟨fun p _ h => opRouteSide_same h p, List.forall_mem_cons.2 ⟨fun p _ h => opRoutePolicy_same h p, List.forall_mem_cons.2 ⟨fun p _ h => opRouteHeartbeat_same h p, List.forall_mem_cons.2 ⟨fun p _ h => opRouteStream_same h p, List.forall_mem_cons.2 ⟨fun p _ h => opRouteAddress_same h p, List.forall_mem_cons.2 ⟨fun p _ h => opRoutePort_same h p, List.forall_mem_cons.2 ⟨fun p _ h => opRouteStatus_same h p, List.forall_mem_nil _⟩⟩⟩⟩⟩⟩⟩⟩⟩
theorem opGazRoot_same {z : Bool} {s u : State} (h : Same z s u) (p : Packet) : Same z s (opGazRoot p u).2 := by
  unfold opGazRoot
  with_reducible repeat' (first | assumption | intro _ | apply ownerCmd_same | apply State.say_same | apply State.put_same | apply State.roleSaid_same | apply ite_same | apply foldl_same | apply ite_same2 | apply foldl_same2 | split | refine pairSame2 (by assumption) ?_ | dsimp only)
theorem State.withStacks_same {z : Bool} {s u : State} (h : Same z s u) (f : State → CmdOut × State) (k : ∀ v, Same z s v → Same z s (f v).2) : Same z s (State.withStacks u f).2 := by
  unfold State.withStacks
  with_reducible repeat' (first | assumption | intro _ | apply k | apply State.say_same | apply State.refuseDom_same | apply ite_same | apply foldl_same | apply ite_same2 | apply foldl_same2 | split | refine pairSame2 (by assumption) ?_ | dsimp only)
theorem State.showGaz_same {z : Bool} {s u : State} (h : Same z s u) (ds : List Nat) : Same z s (State.showGaz u ds) := by
  unfold State.showGaz
  with_reducible repeat' (first | assumption | intro _ | apply State.put_same | apply ite_same | apply foldl_same | split | dsimp only)
theorem State.setEntry_same {z : Bool} {s u : State} (h : Same z s u) (e : Nat) (x : Option GazEntry) : Same z s (State.setEntry u e x) := by
  unfold State.setEntry
  with_reducible repeat' (first | assumption | intro _ | apply ite_same | apply foldl_same | split | dsimp only | apply same_gaz)
theorem opGazRegister_same {z : Bool} {s u : State} (h : Same z s u) (p : Packet) : Same z s (opGazRegister p u).2 := by
  unfold opGazRegister
  with_reducible repeat' (first | assumption | intro _ | apply ownerCmd_same | apply State.say_same | apply State.withStacks_same | apply State.showGaz_same | apply State.setEntry_same | apply ite_same | apply foldl_same | apply ite_same2 | apply foldl_same2 | split | refine pairSame2 (by assumption) ?_ | dsimp only)
theorem State.withEntry_same {z : Bool} {s u : State} (h : Same z s u) (e : Nat) (f : GazEntry → State → CmdOut × State) (k : ∀ x0 v, Same z s v → Same z s (f x0 v).2) : Same z s (State.withEntry u e f).2 := by
  unfold State.withEntry
  with_reducible repeat' (first | assumption | intro _ | apply k | apply State.withStacks_same | apply State.say_same | apply ite_same | apply foldl_same | apply ite_same2 | apply foldl_same2 | split | refine pairSame2 (by assumption) ?_ | dsimp only)
theorem opGazRemove_same {z : Bool} {s u : State} (h : Same z s u) (p : Packet) : Same z s (opGazRemove p u).2 := by
  unfold opGazRemove
  with_reducible repeat' (first | assumption | intro _ | apply ownerCmd_same | apply State.say_same | apply State.withEntry_same | apply State.showGaz_same | apply State.setEntry_same | apply ite_same | apply foldl_same | apply ite_same2 | apply foldl_same2 | split | refine pairSame2 (by assumption) ?_ | dsimp only)
theorem opGazRead_same {z : Bool} {s u : State} (h : Same z s u) (p : Packet) : Same z s (opGazRead p u).2 := by
  unfold opGazRead
  with_reducible repeat' (first | assumption | intro _ | apply ownerCmd_same | apply State.withEntry_same | apply State.say_same | apply ite_same | apply foldl_same | apply ite_same2 | apply foldl_same2 | split | refine pairSame2 (by assumption) ?_ | dsimp only)
theorem opGazDistrict_same {z : Bool} {s u : State} (h : Same z s u) (p : Packet) : Same z s (opGazDistrict p u).2 := by
  unfold opGazDistrict
  with_reducible repeat' (first | assumption | intro _ | apply ownerCmd_same | apply State.withEntry_same | apply State.say_same | apply State.showGaz_same | apply State.setEntry_same | apply ite_same | apply foldl_same | apply ite_same2 | apply foldl_same2 | split | refine pairSame2 (by assumption) ?_ | dsimp only)
theorem State.showSend_same {z : Bool} {s u : State} (h : Same z s u) (d : Nat) : Same z s (State.showSend u d) := by
  unfold State.showSend
  with_reducible repeat' (first | assumption | intro _ | apply State.put_same | apply State.wn_same | apply State.wr64_same | apply ite_same | apply foldl_same | split | dsimp only)
theorem State.gazAccept_same {z : Bool} {s u : State} (h : Same z s u) (d : Nat) (act : Int) (inner : List Byte) (action : Nat) : Same z s (State.gazAccept u d act inner action) := by
  unfold State.gazAccept
  with_reducible repeat' (first | assumption | intro _ | apply State.setSend_same | apply State.wr64_same | apply State.showSend_same | apply ite_same | apply foldl_same | split | dsimp only | apply same_gazBook)
theorem opGazSend_same {z : Bool} {s u : State} (h : Same z s u) (p : Packet) : Same z s (opGazSend p u).2 := by
  unfold opGazSend
  with_reducible repeat' (first | assumption | intro _ | apply ownerCmd_same | apply State.say_same | apply State.withStacks_same | apply State.gazAccept_same | apply ite_same | apply foldl_same | apply ite_same2 | apply foldl_same2 | split | refine pairSame2 (by assumption) ?_ | dsimp only | apply same_fenced)
theorem opGazCounts_same {z : Bool} {s u : State} (h : Same z s u) (p : Packet) : Same z s (opGazCounts p u).2 := by
  unfold opGazCounts
  with_reducible repeat' (first | assumption | intro _ | apply ownerCmd_same | apply State.say_same | apply ite_same | apply foldl_same | apply ite_same2 | apply foldl_same2 | split | refine pairSame2 (by assumption) ?_ | dsimp only)
theorem opGazDigest_same {z : Bool} {s u : State} (h : Same z s u) (p : Packet) : Same z s (opGazDigest p u).2 := by
  unfold opGazDigest
  with_reducible repeat' (first | assumption | intro _ | apply wordCmd_same | apply ite_same | apply foldl_same | apply ite_same2 | apply foldl_same2 | split | refine pairSame2 (by assumption) ?_ | dsimp only)
theorem opcodesGaz_same {s : State} : ∀ x ∈ opcodesGaz, ∀ (p : Packet) (u : State), Same false s u → Same false s (x.act p u).2 :=
  List.forall_mem_cons.2 ⟨fun p _ h => opGazRoot_same h p, List.forall_mem_cons.2 ⟨fun p _ h => opGazRegister_same h p, List.forall_mem_cons.2 ⟨fun p _ h => opGazRemove_same h p, List.forall_mem_cons.2 ⟨fun p _ h => opGazRead_same h p, List.forall_mem_cons.2 ⟨fun p _ h => opGazDistrict_same h p, List.forall_mem_cons.2 ⟨fun p _ h => opGazSend_same h p, List.forall_mem_cons.2 ⟨fun p _ h => opGazCounts_same h p, List.forall_mem_cons.2 ⟨fun p _ h => opGazDigest_same h p, List.forall_mem_nil _⟩⟩⟩⟩⟩⟩⟩⟩
theorem opLogHead_same {z : Bool} {s u : State} (h : Same z s u) (p : Packet) : Same z s (opLogHead p u).2 := by
  unfold opLogHead
  with_reducible repeat' (first | assumption | intro _ | apply anyCmd_same | apply State.say_same | apply ite_same | apply foldl_same | apply ite_same2 | apply foldl_same2 | split | refine pairSame2 (by assumption) ?_ | dsimp only)
theorem State.logWords_same {z : Bool} {s u : State} (h : Same z s u) (l : List LogSlot) : Same z s (State.logWords u l).2 := by
  unfold State.logWords
  with_reducible repeat' (first | assumption | intro _ | apply State.draw_same | apply ite_same | apply foldl_same | apply ite_same2 | apply foldl_same2 | split | refine pairSame2 (by assumption) ?_ | dsimp only)
theorem opLogRead_same {z : Bool} {s u : State} (h : Same z s u) (p : Packet) : Same z s (opLogRead p u).2 := by
  unfold opLogRead
  with_reducible repeat' (first | assumption | intro _ | apply anyCmd_same | apply State.say_same | apply State.logWords_same | apply ite_same | apply foldl_same | apply ite_same2 | apply foldl_same2 | split | refine pairSame2 (by assumption) ?_ | dsimp only)
theorem opLogChallenge_same {z : Bool} {s u : State} (h : Same z s u) (p : Packet) : Same z s (opLogChallenge p u).2 := by
  unfold opLogChallenge
  apply ownerCmd_same h
  intro v hv
  exact State.say_same (same_log (State.draw_same hv (2 ^ 128)) { (v.draw (2 ^ 128)).2.log with nonce := some (leBytes 16 (v.draw (2 ^ 128)).1, v.mt) }
    (fun _ => rfl) (fun _ => rfl)) _ _
theorem State.logDeny_same {z : Bool} {s u : State} (h : Same z s u) (status : Nat) : Same z s (State.logDeny u status).2 := by
  unfold State.logDeny
  with_reducible repeat' (first | assumption | intro _ | apply State.say_same | apply State.raise_same | rfl | exact reanchor_fc _ | exact reanchor_locked _ | contradiction | apply ite_same | apply foldl_same | apply ite_same2 | apply foldl_same2 | split | refine pairSame2 (by assumption) ?_ | dsimp only | apply same_log)
theorem State.showLog_same {z : Bool} {s u : State} (h : Same z s u) : Same z s (State.showLog u) := by
  unfold State.showLog
  with_reducible repeat' (first | assumption | intro _ | apply State.put_same | apply State.wr64_same | apply ite_same | apply foldl_same | split | dsimp only)
theorem State.logClear_same {s u : State} (h : Same false s u) : Same false s (State.logClear u).2 := by
  unfold State.logClear
  with_reducible repeat' (first | assumption | intro _ | apply State.showLog_same | apply State.put_same | apply State.say_same | apply State.raise_same | rfl | exact reanchor_fc _ | exact reanchor_locked _ | contradiction | apply ite_same | apply foldl_same | apply ite_same2 | apply foldl_same2 | split | refine pairSame2 (by assumption) ?_ | dsimp only | apply same_log)
theorem opLogClear_same {s u : State} (h : Same false s u) (p : Packet) : Same false s (opLogClear p u).2 := by
  unfold opLogClear
  with_reducible repeat' (first | assumption | intro _ | apply ownerCmd_same | apply State.logDeny_same | apply State.logClear_same | apply ite_same | apply foldl_same | apply ite_same2 | apply foldl_same2 | split | refine pairSame2 (by assumption) ?_ | dsimp only)
theorem State.logKeySet_same {s u : State} (h : Same false s u) (k0 : List Byte) : Same false s (State.logKeySet u k0) := by
  unfold State.logKeySet
  with_reducible repeat' (first | assumption | intro _ | apply State.raise_same | apply State.put_same | rfl | exact reanchor_fc _ | exact reanchor_locked _ | contradiction | apply ite_same | apply foldl_same | split | dsimp only | apply same_log)
theorem opLogKey_same {s u : State} (h : Same false s u) (p : Packet) : Same false s (opLogKey p u).2 := by
  unfold opLogKey
  with_reducible repeat' (first | assumption | intro _ | apply ownerCmd_same | apply State.logDeny_same | apply State.say_same | apply State.logKeySet_same | apply ite_same | apply foldl_same | apply ite_same2 | apply foldl_same2 | split | refine pairSame2 (by assumption) ?_ | dsimp only)
theorem opLogRepeat_same {z : Bool} {s u : State} (h : Same z s u) (p : Packet) : Same z s (opLogRepeat p u).2 := by
  unfold opLogRepeat
  with_reducible repeat' (first | assumption | intro _ | apply ownerCmd_same | apply State.say_same | apply State.regStore_same | apply ite_same | apply foldl_same | apply ite_same2 | apply foldl_same2 | split | refine pairSame2 (by assumption) ?_ | dsimp only)
theorem opcodesLog_same {s : State} : ∀ x ∈ opcodesLog, ∀ (p : Packet) (u : State), Same false s u → Same false s (x.act p u).2 :=
  List.forall_mem_cons.2 ⟨fun p _ h => opLogHead_same h p, List.forall_mem_cons.2 ⟨fun p _ h => opLogRead_same h p, List.forall_mem_cons.2 ⟨fun p _ h => opLogChallenge_same h p, List.forall_mem_cons.2 ⟨fun p _ h => opLogClear_same h p, List.forall_mem_cons.2 ⟨fun p _ h => opLogKey_same h p, List.forall_mem_cons.2 ⟨fun p _ h => opLogRepeat_same h p, List.forall_mem_nil _⟩⟩⟩⟩⟩⟩
theorem domainCmd_same {z : Bool} {s u : State} (h : Same z s u) (second : Nat) (p : Packet) (f : Nat → State → CmdOut × State) (k : ∀ x0 v, Same z s v → Same z s (f x0 v).2) : Same z s (domainCmd second p u f).2 := by
  unfold domainCmd
  with_reducible repeat' (first | assumption | intro _ | apply k | apply ownerCmd_same | apply ite_same | apply foldl_same | apply ite_same2 | apply foldl_same2 | split | refine pairSame2 (by assumption) ?_ | dsimp only)
theorem opPowerDown_same {z : Bool} {s u : State} (h : Same z s u) (p : Packet) : Same z s (opPowerDown p u).2 := by
  unfold opPowerDown
  with_reducible repeat' (first | assumption | intro _ | apply domainCmd_same | apply State.pwrDown_same | apply State.say_same | apply ite_same | apply foldl_same | apply ite_same2 | apply foldl_same2 | split | refine pairSame2 (by assumption) ?_ | dsimp only)
theorem opPowerUp_same {z : Bool} {s u : State} (h : Same z s u) (p : Packet) : Same z s (opPowerUp p u).2 := by
  unfold opPowerUp
  with_reducible repeat' (first | assumption | intro _ | apply domainCmd_same | apply State.pwrUp_same | apply State.say_same | apply ite_same | apply foldl_same | apply ite_same2 | apply foldl_same2 | split | refine pairSame2 (by assumption) ?_ | dsimp only)
theorem opPowerHold_same {z : Bool} {s u : State} (h : Same z s u) (p : Packet) : Same z s (opPowerHold p u).2 := by
  unfold opPowerHold
  with_reducible repeat' (first | assumption | intro _ | apply domainCmd_same | apply State.say_same | apply State.put_same | apply ite_same | apply foldl_same | apply ite_same2 | apply foldl_same2 | split | refine pairSame2 (by assumption) ?_ | dsimp only)
theorem opPowerStatus_same {z : Bool} {s u : State} (h : Same z s u) (p : Packet) : Same z s (opPowerStatus p u).2 := by
  unfold opPowerStatus
  with_reducible repeat' (first | assumption | intro _ | apply anyCmd_same | apply State.say_same | apply ite_same | apply foldl_same | apply ite_same2 | apply foldl_same2 | split | refine pairSame2 (by assumption) ?_ | dsimp only)
theorem opcodesPower_same {s : State} : ∀ x ∈ opcodesPower, ∀ (p : Packet) (u : State), Same false s u → Same false s (x.act p u).2 :=
  List.forall_mem_cons.2 ⟨fun p _ h => opPowerDown_same h p, List.forall_mem_cons.2 ⟨fun p _ h => opPowerUp_same h p, List.forall_mem_cons.2 ⟨fun p _ h => opPowerHold_same h p, List.forall_mem_cons.2 ⟨fun p _ h => opPowerStatus_same h p, List.forall_mem_nil _⟩⟩⟩⟩
theorem opSparePolicy_same {z : Bool} {s u : State} (h : Same z s u) (p : Packet) : Same z s (opSparePolicy p u).2 := by
  unfold opSparePolicy
  with_reducible repeat' (first | assumption | intro _ | apply ownerCmd_same | apply State.wr_same | apply State.say_same | apply State.disarmPlots_same | apply ite_same | apply foldl_same | apply ite_same2 | apply foldl_same2 | split | refine pairSame2 (by assumption) ?_ | dsimp only)
theorem opSpareSlice_same {z : Bool} {s u : State} (h : Same z s u) (p : Packet) : Same z s (opSpareSlice p u).2 := by
  unfold opSpareSlice
  with_reducible repeat' (first | assumption | intro _ | apply ownerCmd_same | apply State.say_same | apply State.refuseDom_same | apply State.inputDead_same | apply State.retireSlice_same | apply State.inServiceFail_same | apply ite_same | apply foldl_same | apply ite_same2 | apply foldl_same2 | split | refine pairSame2 (by assumption) ?_ | dsimp only)
theorem State.slotRetire_same {z : Bool} {s u : State} (h : Same z s u) (n : Nat) : Same z s (State.slotRetire u n) := by
  unfold State.slotRetire
  with_reducible repeat' (first | assumption | intro _ | apply State.stage_same | apply State.wearCheck_same | apply ite_same | apply foldl_same | split | dsimp only | apply same_failingSlots_retiredSlots)
theorem State.engSubstitute_same {z : Bool} {s u : State} (h : Same z s u) (p : Nat) (policy : Bool) : Same z s (State.engSubstitute u p policy) := by
  unfold State.engSubstitute
  with_reducible repeat' (first | assumption | intro _ | apply State.put_same | apply State.engSwapDone_same | apply State.stage_same | apply State.slotRetire_same | apply State.policyLog_same | apply ite_same | apply foldl_same | split | dsimp only | apply same_engSwaps)
theorem opSpareEngine_same {z : Bool} {s u : State} (h : Same z s u) (p : Packet) : Same z s (opSpareEngine p u).2 := by
  unfold opSpareEngine
  with_reducible repeat' (first | assumption | intro _ | apply ownerCmd_same | apply State.say_same | apply State.refuseDom_same | apply State.engSubstitute_same | apply ite_same | apply foldl_same | apply ite_same2 | apply foldl_same2 | split | refine pairSame2 (by assumption) ?_ | dsimp only)
theorem State.slotSubstitute_same {z : Bool} {s u : State} (h : Same z s u) (n : Nat) (policy : Bool) : Same z s (State.slotSubstitute u n policy) := by
  unfold State.slotSubstitute
  with_reducible repeat' (first | assumption | intro _ | apply State.slotRetire_same | apply State.stage_same | apply State.raise_same | apply State.useSpare_same | apply State.policyLog_same | apply ite_same | apply foldl_same | split | dsimp only | apply same_failingSlots_retiredSlots)
theorem opSpareSlot_same {z : Bool} {s u : State} (h : Same z s u) (p : Packet) : Same z s (opSpareSlot p u).2 := by
  unfold opSpareSlot
  with_reducible repeat' (first | assumption | intro _ | apply ownerCmd_same | apply State.say_same | apply State.slotSubstitute_same | apply ite_same | apply foldl_same | apply ite_same2 | apply foldl_same2 | split | refine pairSame2 (by assumption) ?_ | dsimp only)
theorem opSpareTdc_same {z : Bool} {s u : State} (h : Same z s u) (p : Packet) : Same z s (opSpareTdc p u).2 := by
  unfold opSpareTdc
  with_reducible repeat' (first | assumption | intro _ | apply ownerCmd_same | apply State.say_same | apply State.refuseDom_same | apply State.tdcSubstitute_same | apply ite_same | apply foldl_same | apply ite_same2 | apply foldl_same2 | split | refine pairSame2 (by assumption) ?_ | dsimp only)
theorem opSparePcv_same {z : Bool} {s u : State} (h : Same z s u) (p : Packet) : Same z s (opSparePcv p u).2 := by
  unfold opSparePcv
  with_reducible repeat' (first | assumption | intro _ | apply ownerCmd_same | apply State.say_same | apply State.refuseDom_same | apply State.retirePcv_same | apply ite_same | apply foldl_same | apply ite_same2 | apply foldl_same2 | split | refine pairSame2 (by assumption) ?_ | dsimp only)
theorem opSpareBmac_same {z : Bool} {s u : State} (h : Same z s u) (p : Packet) : Same z s (opSpareBmac p u).2 := by
  unfold opSpareBmac
  with_reducible repeat' (first | assumption | intro _ | apply ownerCmd_same | apply State.say_same | apply State.refuseDom_same | apply State.retireBmac_same | apply ite_same | apply foldl_same | apply ite_same2 | apply foldl_same2 | split | refine pairSame2 (by assumption) ?_ | dsimp only)
theorem State.coreReplace_same {z : Bool} {s u : State} (h : Same z s u) (k0 : Nat) (policy : Bool) : Same z s (State.coreReplace u k0 policy) := by
  unfold State.coreReplace
  with_reducible repeat' (first | assumption | intro _ | apply State.raise_same | apply State.useSpare_same | apply State.put_same | apply State.policyLog_same | apply ite_same | apply foldl_same | split | dsimp only)
theorem State.coreSubstitute_same {z : Bool} {s u : State} (h : Same z s u) (k0 : Nat) (policy : Bool) : Same z s (State.coreSubstitute u k0 policy) := by
  unfold State.coreSubstitute
  with_reducible repeat' (first | assumption | intro _ | apply State.coreReplace_same | apply State.put_same | apply ite_same | apply foldl_same | split | dsimp only)
theorem opSpareCore_same {z : Bool} {s u : State} (h : Same z s u) (p : Packet) : Same z s (opSpareCore p u).2 := by
  unfold opSpareCore
  with_reducible repeat' (first | assumption | intro _ | apply ownerCmd_same | apply State.say_same | apply State.coreSubstitute_same | apply ite_same | apply foldl_same | apply ite_same2 | apply foldl_same2 | split | refine pairSame2 (by assumption) ?_ | dsimp only)
theorem State.plotLeave_same {z : Bool} {s u : State} (h : Same z s u) (id : Nat) : Same z s (State.plotLeave u id) := by
  unfold State.plotLeave
  with_reducible repeat' (first | assumption | intro _ | apply State.retirePlot_same | apply State.wn_same | apply State.setPlot_same | apply ite_same | apply foldl_same | split | dsimp only)
theorem opSparePlot_same {z : Bool} {s u : State} (h : Same z s u) (p : Packet) : Same z s (opSparePlot p u).2 := by
  unfold opSparePlot
  with_reducible repeat' (first | assumption | intro _ | apply ownerCmd_same | apply State.say_same | apply State.plotLeave_same | apply ite_same | apply foldl_same | apply ite_same2 | apply foldl_same2 | split | refine pairSame2 (by assumption) ?_ | dsimp only)
theorem State.mramSubstitute_same {s u : State} (h : Same false s u) (sector : Nat) : Same false s (State.mramSubstitute u sector) := by
  unfold State.mramSubstitute
  with_reducible repeat' (first | assumption | intro _ | apply State.copyShow_same | apply State.setTrimCopy_same | apply State.raise_same | apply State.mramRemap_same | apply ite_same | apply foldl_same | split | dsimp only | apply same_mramBad)
theorem opSpareMram_same {s u : State} (h : Same false s u) (p : Packet) : Same false s (opSpareMram p u).2 := by
  unfold opSpareMram
  with_reducible repeat' (first | assumption | intro _ | apply ownerCmd_same | apply State.say_same | apply State.spareExhausted_same | apply State.mramSubstitute_same | apply ite_same | apply foldl_same | apply ite_same2 | apply foldl_same2 | split | refine pairSame2 (by assumption) ?_ | dsimp only)
theorem opSpareInventory_same {z : Bool} {s u : State} (h : Same z s u) (p : Packet) : Same z s (opSpareInventory p u).2 := by
  unfold opSpareInventory
  with_reducible repeat' (first | assumption | intro _ | apply anyCmd_same | apply State.say_same | apply ite_same | apply foldl_same | apply ite_same2 | apply foldl_same2 | split | refine pairSame2 (by assumption) ?_ | dsimp only)
theorem opcodesSpare_same {s : State} : ∀ x ∈ opcodesSpare, ∀ (p : Packet) (u : State), Same false s u → Same false s (x.act p u).2 :=
  List.forall_mem_cons.2 ⟨fun p _ h => opSparePolicy_same h p, List.forall_mem_cons.2 ⟨fun p _ h => opSpareSlice_same h p, List.forall_mem_cons.2 ⟨fun p _ h => opSpareEngine_same h p, List.forall_mem_cons.2 ⟨fun p _ h => opSpareSlot_same h p, List.forall_mem_cons.2 ⟨fun p _ h => opSpareTdc_same h p, List.forall_mem_cons.2 ⟨fun p _ h => opSparePcv_same h p, List.forall_mem_cons.2 ⟨fun p _ h => opSpareBmac_same h p, List.forall_mem_cons.2 ⟨fun p _ h => opSpareCore_same h p, List.forall_mem_cons.2 ⟨fun p _ h => opSparePlot_same h p, List.forall_mem_cons.2 ⟨fun p _ h => opSpareMram_same h p, List.forall_mem_cons.2 ⟨fun p _ h => opSpareInventory_same h p, List.forall_mem_nil _⟩⟩⟩⟩⟩⟩⟩⟩⟩⟩⟩
theorem opDiagEcho_same {z : Bool} {s u : State} (h : Same z s u) (p : Packet) : Same z s (opDiagEcho p u).2 := by
  unfold opDiagEcho
  with_reducible repeat' (first | assumption | intro _ | apply anyCmd_same | apply State.say_same | apply ite_same | apply foldl_same | apply ite_same2 | apply foldl_same2 | split | refine pairSame2 (by assumption) ?_ | dsimp only)
theorem opDiagSelftest_same {z : Bool} {s u : State} (h : Same z s u) (p : Packet) : Same z s (opDiagSelftest p u).2 := by
  unfold opDiagSelftest
  with_reducible repeat' (first | assumption | intro _ | apply ownerCmd_same | apply State.say_same | apply State.refuseDom_same | apply State.draw_same | apply ite_same | apply foldl_same | apply ite_same2 | apply foldl_same2 | split | refine pairSame2 (by assumption) ?_ | dsimp only)
theorem opDiagBeamSat_same {z : Bool} {s u : State} (h : Same z s u) (p : Packet) : Same z s (opDiagBeamSat p u).2 := by
  unfold opDiagBeamSat
  with_reducible repeat' (first | assumption | intro _ | apply ownerCmd_same | apply State.say_same | apply ite_same | apply foldl_same | apply ite_same2 | apply foldl_same2 | split | refine pairSame2 (by assumption) ?_ | dsimp only)
theorem State.dieTemps_same {z : Bool} {s u : State} (h : Same z s u) : Same z s (State.dieTemps u).2 := by
  unfold State.dieTemps
  with_reducible repeat' (first | assumption | intro _ | apply State.draw_same | apply ite_same | apply foldl_same | apply ite_same2 | apply foldl_same2 | split | refine pairSame2 (by assumption) ?_ | dsimp only)
theorem opDiagTemps_same {z : Bool} {s u : State} (h : Same z s u) (p : Packet) : Same z s (opDiagTemps p u).2 := by
  unfold opDiagTemps
  with_reducible repeat' (first | assumption | intro _ | apply anyCmd_same | apply State.dieTemps_same | apply State.say_same | apply ite_same | apply foldl_same | apply ite_same2 | apply foldl_same2 | split | refine pairSame2 (by assumption) ?_ | dsimp only)
theorem opcodesDiag_same {s : State} : ∀ x ∈ opcodesDiag, ∀ (p : Packet) (u : State), Same false s u → Same false s (x.act p u).2 :=
  List.forall_mem_cons.2 ⟨fun p _ h => opDiagEcho_same h p, List.forall_mem_cons.2 ⟨fun p _ h => opDiagSelftest_same h p, List.forall_mem_cons.2 ⟨fun p _ h => opDiagBeamSat_same h p, List.forall_mem_cons.2 ⟨fun p _ h => opDiagTemps_same h p, List.forall_mem_nil _⟩⟩⟩⟩
theorem opcodes_same {s : State} : ∀ x ∈ opcodes, ∀ (p : Packet) (u : State), Same false s u → Same false s (x.act p u).2 := by
  intro x hx
  simp only [opcodes, List.mem_append] at hx
  rcases hx with ((((((((((((((((h | h) | h) | h) | h) | h) | h) | h) | h) | h) | h) | h) | h) | h) | h) | h) | h) | h
  · exact opcodesCfg_same x h
  · exact opcodesPipe_same x h
  · exact opcodesBeam_same x h
  · exact opcodesGrid_same x h
  · exact opcodesQueue_same x h
  · exact opcodesPlot_same x h
  · exact opcodesTime_same x h
  · exact opcodesTrig_same x h
  · exact opcodesCal_same x h
  · exact opcodesFe_same x h
  · exact opcodesLane_same x h
  · exact opcodesLink_same x h
  · exact opcodesRoute_same x h
  · exact opcodesGaz_same x h
  · exact opcodesLog_same x h
  · exact opcodesPower_same x h
  · exact opcodesSpare_same x h
  · exact opcodesDiag_same x h
theorem State.padDone_same {z : Bool} {s u : State} (h : Same z s u) (p : Packet) : Same z s (State.padDone u p) := by
  unfold State.padDone
  with_reducible repeat' (first | assumption | intro _ | apply State.cringDone_same | apply ite_same | apply foldl_same | split | dsimp only)
theorem State.takeOther_same {z : Bool} {s u : State} (h : Same z s u) (op : Nat) (p : Packet) : Same z s (State.takeOther u op p) := by
  unfold State.takeOther
  with_reducible repeat' (first | assumption | intro _ | apply State.takeSlots_same | apply State.bareReply_same | apply State.padDone_same | apply ite_same | apply foldl_same | split | dsimp only)
theorem State.runPacket_same {s u : State} (h : Same false s u) (op : Nat) (p : Packet) : Same false s (State.runPacket u op p) := by
  unfold State.runPacket
  split
  · next x e => exact State.takePacket_same h _ _ _ _ (opcodes_same x (List.mem_of_find?_eq_some e))
  · exact State.takeOther_same h _ _
theorem State.ringPause_same {z : Bool} {s u : State} (h : Same z s u) (b : Nat) (r : Nat) : Same z s (State.ringPause u b r) := by
  unfold State.ringPause
  with_reducible repeat' (first | assumption | intro _ | apply State.raise_same | apply State.put_same | apply ite_same | apply foldl_same | split | dsimp only)
theorem State.ringGo_same {s u : State} (h : Same false s u) (b : Nat) (r : Nat) : OptSame false s (State.ringGo u b r) := by
  unfold State.ringGo
  with_reducible repeat' (first | assumption | intro _ | apply State.runPacket_same | apply State.setCring_same | apply State.ringStage_same | apply State.ringPause_same | apply ite_same | apply foldl_same | apply ite_same2 | apply foldl_same2 | apply ite_optSame | apply optSame_some | apply optSame_none | split | refine pairSame2 (by assumption) ?_ | dsimp only)
theorem State.fencedGo_same {s u : State} (h : Same false s u) : OptSame false s (State.fencedGo u) := by
  unfold State.fencedGo
  exact optSame_map (fun _ => State.runPacket_same (same_fenced h _) _ _)
theorem State.takeWaiting_same {s u : State} (h : Same false s u) (a1 : Nat) : Same false s (State.takeWaiting u a1) := by
  induction a1 generalizing u with
  | zero => exact h
  | succ n ih =>
    unfold State.takeWaiting
    split
    · next t e =>
      obtain ⟨x, -, e⟩ := List.exists_of_findSome?_eq_some e
      exact ih (State.ringGo_same h _ _ t e)
    · split
      · next t e => exact ih (State.fencedGo_same h t e)
      · exact h
theorem State.gazTooLate_same {z : Bool} {s u : State} (h : Same z s u) (d : Nat) (e : Nat) (x : GazSend) : Same z s (State.gazTooLate u d e x) := by
  unfold State.gazTooLate
  with_reducible repeat' (first | assumption | intro _ | apply State.setEntry_same | apply State.setSend_same | apply ite_same | apply foldl_same | split | dsimp only)
theorem State.gazFinish_same {z : Bool} {s u : State} (h : Same z s u) (d : Nat) : Same z s (State.gazFinish u d) := by
  unfold State.gazFinish
  with_reducible repeat' (first | assumption | intro _ | apply State.gazTooLate_same | apply State.setEntry_same | apply State.showSend_same | apply State.setSend_same | apply State.finishCmd_same | apply State.raise_same | apply ite_same | apply foldl_same | split | dsimp only)
theorem State.gazCheck_same {z : Bool} {s u : State} (h : Same z s u) (d : Nat) : Same z s (State.gazCheck u d) := by
  unfold State.gazCheck
  with_reducible repeat' (first | assumption | intro _ | apply State.gazFinish_same | apply State.showSend_same | apply ite_same | apply foldl_same | split | dsimp only)
theorem State.settle_same {s u : State} (h : Same false s u) : Same false s (State.settle u) := by
  unfold State.settle
  with_reducible repeat' (first | assumption | intro _ | apply State.takeWaiting_same | apply State.gazCheck_same | apply ite_same | apply foldl_same | split | dsimp only)
theorem State.ringRetry_same {s u : State} (h : Same false s u) (q : Nat) : Same false s (State.ringRetry u q) := by
  unfold State.ringRetry
  with_reducible repeat' (first | assumption | intro _ | apply State.settle_same | apply State.cplSend_same | apply ite_same | apply foldl_same | split | dsimp only)
theorem execPlotRetry_same {s u : State} (h : Same false s u) (q : Nat) : OutSame false s (execPlotRetry q u) := by
  unfold execPlotRetry
  with_reducible repeat' (first | assumption | intro _ | apply State.askPlot_same | apply State.ringRetry_same | apply ite_same | apply foldl_same | apply ite_same2 | apply foldl_same2 | apply outSame_next | apply ite_outSame | split | refine pairSame2 (by assumption) ?_ | dsimp only)
theorem execQueDisable_same {z : Bool} {s u : State} (h : Same z s u) (w : Wr) : OutSame z s (execQueDisable w u) := by
  unfold execQueDisable
  with_reducible repeat' (first | assumption | intro _ | apply State.pfOnly_same | apply State.queCtlWrite_same | apply ite_same | apply foldl_same | apply outSame_next | apply ite_outSame | split | dsimp only)

end Sys2Proof.Machine
end

