-- ==== Sys2Proof/Laws/Frame5.lean ====
section
/-! SUPPORT. One lemma per operation: what it leaves as it is (part 5 of 6, in the order of dependence). -/
set_option maxRecDepth 10000
namespace Sys2Proof.Machine

theorem execQueEnable_same {z : Bool} {s u : State} (h : Same z s u) (w : Wr) : OutSame z s (execQueEnable w u) := by
  unfold execQueEnable
  with_reducible repeat' (first | assumption | intro _ | apply State.pfOnly_same | apply State.queCtlWrite_same | apply ite_same | apply foldl_same | apply outSame_next | apply ite_outSame | split | dsimp only)
theorem State.jobRun_same {z : Bool} {s u : State} (h : Same z s u) (b : Nat) (fail : Nat) (j : Job) : Same z s (State.jobRun u b fail j) := by
  unfold State.jobRun
  with_reducible repeat' (first | assumption | intro _ | apply State.jobEnd_same | apply State.emit_same | apply State.put_same | apply State.jobComplete_same | apply State.raise_same | apply State.dxDone_same | apply State.draw_same | apply ite_same | apply foldl_same | apply ite_same2 | apply foldl_same2 | split | refine pairSame2 (by assumption) ?_ | dsimp only | apply same_jobs)
theorem execJobDecode_same {z : Bool} {s u : State} (h : Same z s u) (b : Nat) (fail : Nat) (desc : List Byte) (src : List Byte) : OutSame z s (execJobDecode b fail desc src u) := by
  unfold execJobDecode
  with_reducible repeat' (first | assumption | intro _ | apply State.jobRun_same | apply State.put_same | apply ite_same | apply foldl_same | apply outSame_next | apply ite_outSame | split | dsimp only)
theorem execCmpJobDisable_same {z : Bool} {s u : State} (h : Same z s u) (b : Nat) (w : Wr) : OutSame z s (execCmpJobDisable b w u) := by
  unfold execCmpJobDisable
  with_reducible repeat' (first | assumption | intro _ | apply State.flushHeld_same | apply State.jobCtlWrite_same | apply State.reservedHit_same | apply ite_same | apply foldl_same | apply outSame_next | apply ite_outSame | split | dsimp only)
theorem execCmpJobPiWrite_same {z : Bool} {s u : State} (h : Same z s u) (b : Nat) (w : Wr) : OutSame z s (execCmpJobPiWrite b w u) := by
  unfold execCmpJobPiWrite
  with_reducible repeat' (first | assumption | intro _ | apply State.flushHeld_same | apply State.jobPiWrite_same | apply State.reservedHit_same | apply ite_same | apply foldl_same | apply outSame_next | apply ite_outSame | split | dsimp only)
theorem execCmpJobAbort_same {z : Bool} {s u : State} (h : Same z s u) (b : Nat) (w : Wr) : OutSame z s (execCmpJobAbort b w u) := by
  unfold execCmpJobAbort
  with_reducible repeat' (first | assumption | intro _ | apply State.flushHeld_same | apply State.jobStatWrite_same | apply State.reservedHit_same | apply ite_same | apply foldl_same | apply outSame_next | apply ite_outSame | split | dsimp only)
theorem execCmpJobMore_same {z : Bool} {s u : State} (h : Same z s u) (b : Nat) (w : Wr) : OutSame z s (execCmpJobMore b w u) := by
  unfold execCmpJobMore
  with_reducible repeat' (first | assumption | intro _ | apply State.flushHeld_same | apply State.jobStatWrite_same | apply State.reservedHit_same | apply ite_same | apply foldl_same | apply outSame_next | apply ite_outSame | split | dsimp only)
theorem State.setArb_same {z : Bool} {s u : State} (h : Same z s u) (k0 : Nat) (l : Nat) (x : ArbLane) : Same z s (State.setArb u k0 l x) := by
  unfold State.setArb
  with_reducible repeat' (first | assumption | intro _ | apply ite_same | apply foldl_same | split | dsimp only | apply same_arbs)
theorem State.arbCount_same {z : Bool} {s u : State} (h : Same z s u) (k0 : Nat) (r : Reg) : Same z s (State.arbCount u k0 r) := by
  unfold State.arbCount
  with_reducible repeat' (first | assumption | intro _ | apply State.bumpSat_same | apply ite_same | apply foldl_same | split | dsimp only)
theorem State.arbCut_same {z : Bool} {s u : State} (h : Same z s u) (k0 : Nat) (l : Nat) (r : Nat) : Same z s (State.arbCut u k0 l r) := by
  unfold State.arbCut
  with_reducible repeat' (first | assumption | intro _ | apply State.setArb_same | apply State.raise_same | apply State.arbCount_same | apply State.put_same | apply ite_same | apply foldl_same | split | dsimp only)
theorem State.arbForced_same {z : Bool} {s u : State} (h : Same z s u) (k0 : Nat) (r : Nat) : Same z s (State.arbForced u k0 r) := by
  unfold State.arbForced
  with_reducible repeat' (first | assumption | intro _ | apply State.put_same | apply State.arbCount_same | apply State.raise_same | apply ite_same | apply foldl_same | split | dsimp only)
theorem State.arbDecide_same {z : Bool} {s u : State} (h : Same z s u) (k0 : Nat) (l : Nat) (c : ArbCfg) (e : List Nat) (bad : Bool) : Same z s (State.arbDecide u k0 l c e bad) := by
  unfold State.arbDecide
  with_reducible repeat' (first | assumption | intro _ | apply State.arbCut_same | apply State.setArb_same | apply State.raise_same | apply State.put_same | apply State.arbCount_same | apply State.arbForced_same | apply ite_same | apply foldl_same | split | dsimp only)
theorem State.arbLose_same {z : Bool} {s u : State} (h : Same z s u) (k0 : Nat) (l : Nat) (warn : Nat) (r : Nat) : Same z s (State.arbLose u k0 l warn r) := by
  unfold State.arbLose
  with_reducible repeat' (first | assumption | intro _ | apply State.setArb_same | apply State.put_same | apply State.raise_same | apply ite_same | apply foldl_same | split | dsimp only)
theorem State.arbLines_same {z : Bool} {s u : State} (h : Same z s u) (k0 : Nat) (l : Nat) (warn : Nat) (lines : List ArbReq) : Same z s (State.arbLines u k0 l warn lines) := by
  unfold State.arbLines
  with_reducible repeat' (first | assumption | intro _ | apply State.arbLose_same | apply State.setArb_same | apply ite_same | apply foldl_same | split | dsimp only)
theorem State.arbSleep_same {z : Bool} {s u : State} (h : Same z s u) (k0 : Nat) : Same z s (State.arbSleep u k0) := by
  unfold State.arbSleep
  with_reducible repeat' (first | assumption | intro _ | apply State.put_same | apply ite_same | apply foldl_same | split | dsimp only)
theorem State.arbBeat_same {z : Bool} {s u : State} (h : Same z s u) (k0 : Nat) : Same z s (State.arbBeat u k0) := by
  unfold State.arbBeat
  with_reducible repeat' (first | assumption | intro _ | apply State.wr64_same | apply ite_same | apply foldl_same | split | dsimp only)
theorem State.arbCycle_same {z : Bool} {s u : State} (h : Same z s u) (k0 : Nat) (l : Nat) (lines : List ArbReq) : Same z s (State.arbCycle u k0 l lines) := by
  unfold State.arbCycle
  with_reducible repeat' (first | assumption | intro _ | apply State.arbCount_same | apply State.arbBeat_same | apply State.setArb_same | apply ite_same | apply foldl_same | split | dsimp only)
theorem execArbDecision_same {z : Bool} {s u : State} (h : Same z s u) (k0 : Nat) (l : Nat) (lines : List ArbReq) (bad : Bool) : OutSame z s (execArbDecision k0 l lines bad u) := by
  unfold execArbDecision
  with_reducible repeat' (first | assumption | intro _ | apply State.arbLines_same | apply State.arbCycle_same | apply State.arbDecide_same | apply ite_same | apply foldl_same | apply outSame_next | apply ite_outSame | split | dsimp only)
theorem State.arbWake_same {z : Bool} {s u : State} (h : Same z s u) (k0 : Nat) : Same z s (State.arbWake u k0) := by
  unfold State.arbWake
  with_reducible repeat' (first | assumption | intro _ | apply State.setArb_same | apply State.put_same | apply ite_same | apply foldl_same | split | dsimp only | apply same_arbs)
theorem State.rxFlits_same {z : Bool} {s u : State} (h : Same z s u) (sh : Nat) (a2 : Nat) : Same z s (State.rxFlits u sh a2) := by
  induction a2 generalizing u with
  | zero => unfold State.rxFlits; with_reducible repeat' (first | assumption | intro _ | apply State.setLnk_same | apply ite_same | apply foldl_same | split | dsimp only)
  | succ n ih => unfold State.rxFlits; with_reducible repeat' (first | assumption | apply ih | intro _ | apply State.setLnk_same | apply ite_same | apply foldl_same | split | dsimp only)
theorem State.queAcked_same {z : Bool} {s u : State} (h : Same z s u) (q : Nat) : Same z s (State.queAcked u q) := by
  unfold State.queAcked
  with_reducible repeat' (first | assumption | intro _ | apply State.setQue_same | apply State.readQue_same | apply ite_same | apply foldl_same | split | dsimp only)
theorem State.ackTo_same {z : Bool} {s u : State} (h : Same z s u) (sh : Nat) (a : Nat) : Same z s (State.ackTo u sh a) := by
  unfold State.ackTo
  with_reducible repeat' (first | assumption | intro _ | apply State.setLnk_same | apply State.queAcked_same | apply ite_same | apply foldl_same | split | dsimp only)
theorem State.queRestart_same {z : Bool} {s u : State} (h : Same z s u) (q : Nat) : Same z s (State.queRestart u q) := by
  unfold State.queRestart
  with_reducible repeat' (first | assumption | intro _ | apply State.setQue_same | apply ite_same | apply foldl_same | split | dsimp only)
theorem State.linkFresh_same {z : Bool} {s u : State} (h : Same z s u) (sh : Nat) (epoch : Nat) (p : TrainSet) : Same z s (State.linkFresh u sh epoch p) := by
  unfold State.linkFresh
  with_reducible repeat' (first | assumption | intro _ | apply State.setLnk_same | apply State.wn_same | apply State.queRestart_same | apply State.raise_same | apply State.put_same | apply ite_same | apply foldl_same | split | dsimp only | apply same_spxTx)
theorem State.showCrd_same {z : Bool} {s u : State} (h : Same z s u) (sh : Nat) : Same z s (State.showCrd u sh) := by
  unfold State.showCrd
  with_reducible repeat' (first | assumption | intro _ | apply State.put_same | apply ite_same | apply foldl_same | split | dsimp only)
theorem State.linkUpNow_same {z : Bool} {s u : State} (h : Same z s u) (sh : Nat) : Same z s (State.linkUpNow u sh) := by
  unfold State.linkUpNow
  with_reducible repeat' (first | assumption | intro _ | apply State.ackTo_same | apply State.linkFresh_same | apply State.setLnk_same | apply State.put_same | apply State.raise_same | apply State.showCrd_same | apply State.wn_same | apply ite_same | apply foldl_same | split | dsimp only)
theorem State.relCtrl_same {z : Bool} {s u : State} (h : Same z s u) (sh : Nat) : Same z s (State.relCtrl u sh) := by
  unfold State.relCtrl
  with_reducible repeat' (first | assumption | intro _ | apply State.setLnk_same | apply ite_same | apply foldl_same | split | dsimp only)
theorem State.nextFlit_same {z : Bool} {s u : State} (h : Same z s u) (sh : Nat) (head : Bool) (t : Int) : Same z s (State.nextFlit u sh head t).2 := by
  unfold State.nextFlit
  with_reducible repeat' (first | assumption | intro _ | apply State.setLnk_same | apply State.showCrd_same | apply State.wn_same | apply ite_same | apply foldl_same | apply ite_same2 | apply foldl_same2 | split | dsimp only | apply same_spxTx)
theorem State.fillPipe_same {z : Bool} {s u : State} (h : Same z s u) (sh : Nat) (t : Int) (a3 : Nat) : Same z s (State.fillPipe u sh t a3) := by
  induction a3 generalizing u with
  | zero => unfold State.fillPipe; with_reducible repeat' (first | assumption | intro _ | apply State.nextFlit_same | apply State.setLnk_same | apply ite_same | apply foldl_same | apply ite_same2 | apply foldl_same2 | split | refine pairSame2 (by assumption) ?_ | dsimp only)
  | succ n ih => unfold State.fillPipe; with_reducible repeat' (first | assumption | apply ih | intro _ | apply State.nextFlit_same | apply State.setLnk_same | apply ite_same | apply foldl_same | apply ite_same2 | apply foldl_same2 | split | refine pairSame2 (by assumption) ?_ | dsimp only)
theorem State.txTurn_same {z : Bool} {s u : State} (h : Same z s u) (sh : Nat) : Same z s (State.txTurn u sh) := by
  unfold State.txTurn
  with_reducible repeat' (first | assumption | intro _ | apply State.put_same | apply State.setLnk_same | apply ite_same | apply foldl_same | split | dsimp only)
theorem State.linkRetry_same {z : Bool} {s u : State} (h : Same z s u) (sh : Nat) : Same z s (State.linkRetry u sh) := by
  unfold State.linkRetry
  with_reducible repeat' (first | assumption | intro _ | apply State.setLnk_same | apply ite_same | apply foldl_same | split | dsimp only)
theorem State.sendBlock_same {z : Bool} {s u : State} (h : Same z s u) (sh : Nat) (t : Int) : Same z s (State.sendBlock u sh t) := by
  unfold State.sendBlock
  with_reducible repeat' (first | assumption | intro _ | apply State.fillPipe_same | apply State.txTurn_same | apply State.setLnk_same | apply State.emit_same | apply ite_same | apply foldl_same | split | dsimp only)
theorem State.spxCount64_same {z : Bool} {s u : State} (h : Same z s u) (lo : Reg) (hi : Reg) (n : Nat) : Same z s (State.spxCount64 u lo hi n) := by
  unfold State.spxCount64
  with_reducible repeat' (first | assumption | intro _ | apply State.wr64_same | apply ite_same | apply foldl_same | split | dsimp only)
theorem State.linkRetrain_same {z : Bool} {s u : State} (h : Same z s u) (sh : Nat) (own : Bool) : Same z s (State.linkRetrain u sh own) := by
  unfold State.linkRetrain
  with_reducible repeat' (first | assumption | intro _ | apply State.linkLeave_same | apply ite_same | apply foldl_same | split | dsimp only)
theorem State.spxCount_same {z : Bool} {s u : State} (h : Same z s u) (sh : Nat) (r : Reg) (n : Nat) : Same z s (State.spxCount u sh r n) := by
  unfold State.spxCount
  with_reducible repeat' (first | assumption | intro _ | apply State.bumpSat_same | apply ite_same | apply foldl_same | split | dsimp only)
theorem State.rxTurn_same {z : Bool} {s u : State} (h : Same z s u) (sh : Nat) : Same z s (State.rxTurn u sh) := by
  unfold State.rxTurn
  with_reducible repeat' (first | assumption | intro _ | apply State.setLnk_same | apply ite_same | apply foldl_same | split | dsimp only)
theorem State.rxOrder_same {z : Bool} {s u : State} (h : Same z s u) (sh : Nat) (a2 : Nat) : Same z s (State.rxOrder u sh a2) := by
  induction a2 generalizing u with
  | zero => unfold State.rxOrder; with_reducible repeat' (first | assumption | intro _ | apply State.setLnk_same | apply State.rxTurn_same | apply State.rxFlits_same | apply ite_same | apply foldl_same | split | dsimp only)
  | succ n ih => unfold State.rxOrder; with_reducible repeat' (first | assumption | apply ih | intro _ | apply State.setLnk_same | apply State.rxTurn_same | apply State.rxFlits_same | apply ite_same | apply foldl_same | split | dsimp only)
theorem execBlockRx_same {z : Bool} {s u : State} (h : Same z s u) (sh : Nat) (l : Nat) (i : Nat) (syms : List Nat) : OutSame z s (execBlockRx sh l i syms u) := by
  unfold execBlockRx
  with_reducible repeat' (first | assumption | intro _ | apply State.spxCount64_same | apply State.linkRetrain_same | apply State.spxCount_same | apply State.setLnk_same | apply State.rxOrder_same | apply ite_same | apply foldl_same | apply outSame_next | apply ite_outSame | split | dsimp only)
theorem State.attemptFails_same {z : Bool} {s u : State} (h : Same z s u) (sh : Nat) : Same z s (State.attemptFails u sh) := by
  unfold State.attemptFails
  with_reducible repeat' (first | assumption | intro _ | apply State.setLnk_same | apply ite_same | apply foldl_same | split | dsimp only)
theorem State.trainRefused_same {z : Bool} {s u : State} (h : Same z s u) (sh : Nat) (cause : Nat) : Same z s (State.trainRefused u sh cause) := by
  unfold State.trainRefused
  with_reducible repeat' (first | assumption | intro _ | apply State.put_same | apply State.raise_same | apply State.setLnk_same | apply ite_same | apply foldl_same | split | dsimp only)
theorem State.trainStep_same {z : Bool} {s u : State} (h : Same z s u) (sh : Nat) : Same z s (State.trainStep u sh) := by
  unfold State.trainStep
  with_reducible repeat' (first | assumption | intro _ | apply State.setLnk_same | apply State.attemptFails_same | apply State.trainRefused_same | apply ite_same | apply foldl_same | split | dsimp only)
theorem execTrainingSetRx_same {z : Bool} {s u : State} (h : Same z s u) (sh : Nat) (l : Nat) (data : List Byte) : OutSame z s (execTrainingSetRx sh l data u) := by
  unfold execTrainingSetRx
  with_reducible repeat' (first | assumption | intro _ | apply State.attemptFails_same | apply State.trainRefused_same | apply State.sendCtrl_same | apply State.setLnk_same | apply State.trainStep_same | apply ite_same | apply foldl_same | apply outSame_next | apply ite_outSame | split | dsimp only)
theorem State.nackNow_same {z : Bool} {s u : State} (h : Same z s u) (sh : Nat) : Same z s (State.nackNow u sh) := by
  unfold State.nackNow
  with_reducible repeat' (first | assumption | intro _ | apply State.setLnk_same | apply ite_same | apply foldl_same | split | dsimp only)
theorem State.sendTraining_same {z : Bool} {s u : State} (h : Same z s u) (sh : Nat) : Same z s (State.sendTraining u sh) := by
  unfold State.sendTraining
  with_reducible repeat' (first | assumption | intro _ | apply State.emit_same | apply ite_same | apply foldl_same | split | dsimp only)
theorem State.replayRound_same {z : Bool} {s u : State} (h : Same z s u) (sh : Nat) (a : Nat) : Same z s (State.replayRound u sh a) := by
  unfold State.replayRound
  with_reducible repeat' (first | assumption | intro _ | apply State.spxCount_same | apply State.setLnk_same | apply State.raise_same | apply State.linkRetrain_same | apply ite_same | apply foldl_same | split | dsimp only)
theorem State.nackRx_same {z : Bool} {s u : State} (h : Same z s u) (sh : Nat) (a : Nat) : Same z s (State.nackRx u sh a) := by
  unfold State.nackRx
  with_reducible repeat' (first | assumption | intro _ | apply State.replayRound_same | apply ite_same | apply foldl_same | split | dsimp only)
theorem State.flitAck_same {z : Bool} {s u : State} (h : Same z s u) (sh : Nat) (l : List Byte) : Same z s (State.flitAck u sh l) := by
  unfold State.flitAck
  with_reducible repeat' (first | assumption | intro _ | apply State.ackTo_same | apply State.setLnk_same | apply State.showCrd_same | apply State.nackRx_same | apply ite_same | apply foldl_same | split | dsimp only)
theorem State.relData_same {z : Bool} {s u : State} (h : Same z s u) (sh : Nat) : Same z s (State.relData u sh) := by
  unfold State.relData
  with_reducible repeat' (first | assumption | intro _ | apply State.setLnk_same | apply ite_same | apply foldl_same | split | dsimp only)
theorem State.rxDiscard_same {z : Bool} {s u : State} (h : Same z s u) (sh : Nat) : Same z s (State.rxDiscard u sh) := by
  unfold State.rxDiscard
  with_reducible repeat' (first | assumption | intro _ | apply State.raise_same | apply State.spxCount_same | apply ite_same | apply foldl_same | split | dsimp only)
theorem State.flitTake_same {z : Bool} {s u : State} (h : Same z s u) (sh : Nat) (l : List Byte) : Same z s (State.flitTake u sh l) := by
  unfold State.flitTake
  with_reducible repeat' (first | assumption | intro _ | apply State.trainRefused_same | apply State.linkRetrain_same | apply State.setLnk_same | apply State.wn_same | apply State.relCtrl_same | apply State.spxCount_same | apply State.relData_same | apply State.rxDiscard_same | apply ite_same | apply foldl_same | split | dsimp only)
theorem execFlitRx_same {z : Bool} {s u : State} (h : Same z s u) (sh : Nat) : OutSame z s (execFlitRx sh u) := by
  unfold execFlitRx
  with_reducible repeat' (first | assumption | intro _ | apply State.setLnk_same | apply State.nackNow_same | apply State.spxCount_same | apply State.flitAck_same | apply State.linkRetrain_same | apply State.flitTake_same | apply ite_same | apply foldl_same | apply outSame_next | apply ite_outSame | split | dsimp only)
theorem State.xchgDone_same {z : Bool} {s u : State} (h : Same z s u) (sh : Nat) : Same z s (State.xchgDone u sh) := by
  unfold State.xchgDone
  with_reducible repeat' (first | assumption | intro _ | apply State.showXchg_same | apply State.put_same | apply State.setLnk_same | apply State.sendCtrl_same | apply State.claim_same | apply ite_same | apply foldl_same | split | dsimp only)
theorem execReplayTimeout_same {z : Bool} {s u : State} (h : Same z s u) (sh : Nat) : OutSame z s (execReplayTimeout sh u) := by
  unfold execReplayTimeout
  with_reducible repeat' (first | assumption | intro _ | apply State.replayRound_same | apply ite_same | apply foldl_same | apply outSame_next | apply ite_outSame | split | dsimp only)
theorem State.etherLoss_same {z : Bool} {s u : State} (h : Same z s u) (sh : Nat) (l : Nat) (cause : Nat) : Same z s (State.etherLoss u sh l cause) := by
  unfold State.etherLoss
  with_reducible repeat' (first | assumption | intro _ | apply State.sideFail_same | apply ite_same | apply foldl_same | split | dsimp only)
theorem State.heartbeat_same {z : Bool} {s u : State} (h : Same z s u) (p : Nat) (data : List Byte) : Same z s (State.heartbeat u p data) := by
  unfold State.heartbeat
  with_reducible repeat' (first | assumption | intro _ | apply State.sideRestore_same | apply State.setPort_same | apply ite_same | apply foldl_same | split | dsimp only)
theorem execPcsFault_same {z : Bool} {s u : State} (h : Same z s u) (p : Nat) (kind : Nat) : OutSame z s (execPcsFault p kind u) := by
  unfold execPcsFault
  with_reducible repeat' (first | assumption | intro _ | apply State.portDown_same | apply State.raise_same | apply State.setPort_same | apply State.emit_same | apply ite_same | apply foldl_same | apply outSame_next | apply ite_outSame | split | dsimp only)
theorem State.sendUdp_same {z : Bool} {s u : State} (h : Same z s u) (p : Nat) (ad : List Byte) (pt : List Byte) (sport : Nat) (dport : Nat) (dscp : Nat) (data : List Byte) : Same z s (State.sendUdp u p ad pt sport dport dscp data) := by
  unfold State.sendUdp
  with_reducible repeat' (first | assumption | intro _ | apply State.emit_same | apply ite_same | apply foldl_same | split | dsimp only)
theorem State.sendPkt_same {z : Bool} {s u : State} (h : Same z s u) (q : Nat) (r : Nat) (p : Pkt) : Same z s (State.sendPkt u q r p) := by
  unfold State.sendPkt
  with_reducible repeat' (first | assumption | intro _ | apply State.setQue_same | apply State.sendUdp_same | apply ite_same | apply foldl_same | split | dsimp only)
theorem State.freeAbandoned_same {z : Bool} {s u : State} (h : Same z s u) (q : Nat) (r : Nat) : Same z s (State.freeAbandoned u q r) := by
  unfold State.freeAbandoned
  with_reducible repeat' (first | assumption | intro _ | apply State.showQue_same | apply State.freePlots_same | apply State.setQue_same | apply ite_same | apply foldl_same | split | dsimp only)
theorem State.mirrorLag_same {z : Bool} {s u : State} (h : Same z s u) (q : Nat) (r : Nat) (seq : Nat) : Same z s (State.mirrorLag u q r seq) := by
  unfold State.mirrorLag
  with_reducible repeat' (first | assumption | intro _ | apply State.raise_same | apply State.setQue_same | apply State.freeAbandoned_same | apply ite_same | apply foldl_same | split | dsimp only)
theorem State.portRise_same {z : Bool} {s u : State} (h : Same z s u) (p : Nat) : Same z s (State.portRise u p) := by
  unfold State.portRise
  with_reducible repeat' (first | assumption | intro _ | apply State.raise_same | apply State.put_same | apply State.sideRestore_same | apply ite_same | apply foldl_same | split | dsimp only)
theorem execPcsFaultClear_same {z : Bool} {s u : State} (h : Same z s u) (p : Nat) : OutSame z s (execPcsFaultClear p u) := by
  unfold execPcsFaultClear
  with_reducible repeat' (first | assumption | intro _ | apply State.portRise_same | apply State.setPort_same | apply State.emit_same | apply ite_same | apply foldl_same | apply outSame_next | apply ite_outSame | split | dsimp only)
theorem State.sendHeartbeat_same {z : Bool} {s u : State} (h : Same z s u) (p : Nat) : Same z s (State.sendHeartbeat u p) := by
  unfold State.sendHeartbeat
  with_reducible repeat' (first | assumption | intro _ | apply State.setPort_same | apply State.sendUdp_same | apply ite_same | apply foldl_same | split | dsimp only)
theorem execHeartbeatTx_same {z : Bool} {s u : State} (h : Same z s u) : OutSame z s (execHeartbeatTx u) := by
  unfold execHeartbeatTx
  with_reducible repeat' (first | assumption | intro _ | apply State.sendHeartbeat_same | apply ite_same | apply foldl_same | apply outSame_next | apply ite_outSame | split | dsimp only)
theorem State.formPkt_same {z : Bool} {s u : State} (h : Same z s u) (q : Nat) (most : Nat) : Same z s (State.formPkt u q most).2 := by
  unfold State.formPkt
  with_reducible repeat' (first | assumption | intro _ | apply State.setQue_same | apply ite_same | apply foldl_same | apply ite_same2 | apply foldl_same2 | split | dsimp only)
theorem State.nextPkt_same {z : Bool} {s u : State} (h : Same z s u) (q : Nat) (r : Nat) : Same z s (State.nextPkt u q r).2 := by
  unfold State.nextPkt
  with_reducible repeat' (first | assumption | intro _ | apply State.formPkt_same | apply ite_same | apply foldl_same | apply ite_same2 | apply foldl_same2 | split | refine pairSame2 (by assumption) ?_ | dsimp only)
theorem execHeartbeatRx_same {z : Bool} {s u : State} (h : Same z s u) (p : Nat) (data : List Byte) : OutSame z s (execHeartbeatRx p data u) := by
  unfold execHeartbeatRx
  with_reducible repeat' (first | assumption | intro _ | apply State.heartbeat_same | apply ite_same | apply foldl_same | apply outSame_next | apply ite_outSame | split | dsimp only)
theorem execHeartbeatTimeout_same {z : Bool} {s u : State} (h : Same z s u) (p : Nat) : OutSame z s (execHeartbeatTimeout p u) := by
  unfold execHeartbeatTimeout
  with_reducible repeat' (first | assumption | intro _ | apply State.sideFail_same | apply State.setPort_same | apply ite_same | apply foldl_same | apply outSame_next | apply ite_outSame | split | dsimp only)
theorem execRouteSideWrite_same {z : Bool} {s u : State} (h : Same z s u) (j : Nat) (w : Wr) : OutSame z s (execRouteSideWrite j w u) := by
  unfold execRouteSideWrite
  with_reducible repeat' (first | assumption | intro _ | apply State.pfOnly_same | apply State.pairRegWrite_same | apply ite_same | apply foldl_same | apply outSame_next | apply ite_outSame | split | dsimp only)
theorem execPortFaultHeld_same {z : Bool} {s u : State} (h : Same z s u) (p : Nat) : OutSame z s (execPortFaultHeld p u) := by
  unfold execPortFaultHeld
  with_reducible repeat' (first | assumption | intro _ | apply State.sideFail_same | apply State.setPort_same | apply ite_same | apply foldl_same | apply outSame_next | apply ite_outSame | split | dsimp only)
theorem State.releasePkts_same {z : Bool} {s u : State} (h : Same z s u) (q : Nat) (a2 : Nat) : Same z s (State.releasePkts u q a2) := by
  induction a2 generalizing u with
  | zero => unfold State.releasePkts; with_reducible repeat' (first | assumption | intro _ | apply State.readQue_same | apply State.setQue_same | apply ite_same | apply foldl_same | split | dsimp only)
  | succ n ih => unfold State.releasePkts; with_reducible repeat' (first | assumption | apply ih | intro _ | apply State.readQue_same | apply State.setQue_same | apply ite_same | apply foldl_same | split | dsimp only)
theorem State.ethCount_same {z : Bool} {s u : State} (h : Same z s u) (r : Reg) (p : Nat) (n : Nat) : Same z s (State.ethCount u r p n) := by
  unfold State.ethCount
  with_reducible repeat' (first | assumption | intro _ | apply State.bumpSat_same | apply ite_same | apply foldl_same | split | dsimp only)
theorem execRewindExpiry_same {z : Bool} {s u : State} (h : Same z s u) (q : Nat) : OutSame z s (execRewindExpiry q u) := by
  unfold execRewindExpiry
  with_reducible repeat' (first | assumption | intro _ | apply State.releasePkts_same | apply ite_same | apply foldl_same | apply outSame_next | apply ite_outSame | split | dsimp only)
theorem State.etherUp_same {z : Bool} {s u : State} (h : Same z s u) (sh : Nat) : Same z s (State.etherUp u sh) := by
  unfold State.etherUp
  with_reducible repeat' (first | assumption | intro _ | apply State.portRise_same | apply ite_same | apply foldl_same | split | dsimp only)
theorem execXchgTimeout_same {z : Bool} {s u : State} (h : Same z s u) (sh : Nat) : OutSame z s (execXchgTimeout sh u) := by
  unfold execXchgTimeout
  with_reducible repeat' (first | assumption | intro _ | apply State.xchgFail_same | apply ite_same | apply foldl_same | apply outSame_next | apply ite_outSame | split | dsimp only)
theorem execPrbsLock_same {z : Bool} {s u : State} (h : Same z s u) (sh : Nat) (l : Nat) (inv : Bool) : OutSame z s (execPrbsLock sh l inv u) := by
  unfold execPrbsLock
  with_reducible repeat' (first | assumption | intro _ | apply State.put_same | apply State.raise_same | apply ite_same | apply foldl_same | apply outSame_next | apply ite_outSame | split | dsimp only)
theorem State.losTo_same {z : Bool} {s u : State} (h : Same z s u) (sh : Nat) (l : Nat) (v : Nat) : Same z s (State.losTo u sh l v) := by
  unfold State.losTo
  with_reducible repeat' (first | assumption | intro _ | apply State.put_same | apply State.setSheet_same | apply ite_same | apply foldl_same | split | dsimp only)
theorem execLaneLosClear_same {z : Bool} {s u : State} (h : Same z s u) (sh : Nat) (l : Nat) : OutSame z s (execLaneLosClear sh l u) := by
  unfold execLaneLosClear
  with_reducible repeat' (first | assumption | intro _ | apply State.losTo_same | apply ite_same | apply foldl_same | apply outSame_next | apply ite_outSame | split | dsimp only)
theorem State.switchNow_same {z : Bool} {s u : State} (h : Same z s u) (sh : Nat) : Same z s (State.switchNow u sh) := by
  unfold State.switchNow
  with_reducible repeat' (first | assumption | intro _ | apply State.sendCtrl_same | apply State.setLnk_same | apply ite_same | apply foldl_same | split | dsimp only)
theorem State.laneReplace_same {z : Bool} {s u : State} (h : Same z s u) (sh : Nat) (l : Nat) : Same z s (State.laneReplace u sh l) := by
  unfold State.laneReplace
  with_reducible repeat' (first | assumption | intro _ | apply State.spareExhausted_same | apply State.subst_same | apply State.narrowBy_same | apply ite_same | apply foldl_same | apply ite_same2 | apply foldl_same2 | split | refine pairSame2 (by assumption) ?_ | dsimp only)
theorem State.laneFail_same {z : Bool} {s u : State} (h : Same z s u) (sh : Nat) (l : Nat) : Same z s (State.laneFail u sh l) := by
  unfold State.laneFail
  with_reducible repeat' (first | assumption | intro _ | apply State.laneReplace_same | apply State.raise_same | apply State.put_same | apply ite_same | apply foldl_same | split | dsimp only)
theorem State.bringupFail_same {z : Bool} {s u : State} (h : Same z s u) (sh : Nat) (stage : Nat) : Same z s (State.bringupFail u sh stage) := by
  unfold State.bringupFail
  with_reducible repeat' (first | assumption | intro _ | apply State.put_same | apply State.laneCount_same | apply State.raise_same | apply State.setSheet_same | apply State.laneTo_same | apply State.attemptFails_same | apply State.laneFail_same | apply ite_same | apply foldl_same | split | dsimp only)
theorem execSheetUp_same {z : Bool} {s u : State} (h : Same z s u) (sh : Nat) (skew : Nat) : OutSame z s (execSheetUp sh skew u) := by
  unfold execSheetUp
  with_reducible repeat' (first | assumption | intro _ | apply State.bringupFail_same | apply State.put_same | apply State.setMap_same | apply State.raise_same | apply State.setSheet_same | apply State.etherUp_same | apply ite_same | apply foldl_same | apply outSame_next | apply ite_outSame | split | dsimp only)
theorem execBringupRetry_same {z : Bool} {s u : State} (h : Same z s u) (sh : Nat) : OutSame z s (execBringupRetry sh u) := by
  unfold execBringupRetry
  with_reducible repeat' (first | assumption | intro _ | apply State.startAttempt_same | apply ite_same | apply foldl_same | apply outSame_next | apply ite_outSame | split | dsimp only)
theorem execTrainBackoffEnd_same {z : Bool} {s u : State} (h : Same z s u) (sh : Nat) : OutSame z s (execTrainBackoffEnd sh u) := by
  unfold execTrainBackoffEnd
  with_reducible repeat' (first | assumption | intro _ | apply State.linkRetry_same | apply State.startAttempt_same | apply ite_same | apply foldl_same | apply outSame_next | apply ite_outSame | split | dsimp only)
theorem execLaneDetectDone_same {z : Bool} {s u : State} (h : Same z s u) (sh : Nat) (l : Nat) : OutSame z s (execLaneDetectDone sh l u) := by
  unfold execLaneDetectDone
  with_reducible repeat' (first | assumption | intro _ | apply State.stageTo_same | apply ite_same | apply foldl_same | apply outSame_next | apply ite_outSame | split | dsimp only)
theorem execLaneLockDone_same {z : Bool} {s u : State} (h : Same z s u) (sh : Nat) (l : Nat) : OutSame z s (execLaneLockDone sh l u) := by
  unfold execLaneLockDone
  with_reducible repeat' (first | assumption | intro _ | apply State.put_same | apply State.stageTo_same | apply ite_same | apply foldl_same | apply outSame_next | apply ite_outSame | split | dsimp only)
theorem execEyeMeasure_same {z : Bool} {s u : State} (h : Same z s u) (sh : Nat) (l : Nat) (v : Nat) (h0 : Nat) : OutSame z s (execEyeMeasure sh l v h0 u) := by
  unfold execEyeMeasure
  with_reducible repeat' (first | assumption | intro _ | apply State.put_same | apply State.setSheet_same | apply State.raise_same | apply State.laneFail_same | apply ite_same | apply foldl_same | apply outSame_next | apply ite_outSame | split | dsimp only)
theorem State.spareFails_same {z : Bool} {s u : State} (h : Same z s u) (sh : Nat) (e : Exchange) : Same z s (State.spareFails u sh e) := by
  unfold State.spareFails
  with_reducible repeat' (first | assumption | intro _ | apply State.put_same | apply State.showXchg_same | apply State.setLnk_same | apply State.substRefused_same | apply State.sendCtrl_same | apply State.spareSleep_same | apply ite_same | apply foldl_same | split | dsimp only)
theorem execBringupStageTimeout_same {z : Bool} {s u : State} (h : Same z s u) (sh : Nat) (l : Nat) : OutSame z s (execBringupStageTimeout sh l u) := by
  unfold execBringupStageTimeout
  with_reducible repeat' (first | assumption | intro _ | apply State.spareFails_same | apply State.bringupFail_same | apply ite_same | apply foldl_same | apply outSame_next | apply ite_outSame | split | dsimp only)
theorem State.takeCtl_same {z : Bool} {s u : State} (h : Same z s u) (sh : Nat) (msg : Nat) : OptSame2 z s (State.takeCtl u sh msg) := by
  unfold State.takeCtl
  with_reducible repeat' (first | assumption | intro _ | apply State.relCtrl_same | apply State.setLnk_same | apply ite_same | apply foldl_same | apply ite_same2 | apply foldl_same2 | apply ite_optSame | apply optSame2_some | apply optSame2_none | split | dsimp only)
theorem State.claimAgain_same {z : Bool} {s u : State} (h : Same z s u) (sh : Nat) : Same z s (State.claimAgain u sh) := by
  unfold State.claimAgain
  with_reducible repeat' (first | assumption | intro _ | apply State.claim_same | apply State.setLnk_same | apply ite_same | apply foldl_same | split | dsimp only)
theorem execDoneRx_same {z : Bool} {s u : State} (h : Same z s u) (sh : Nat) : OutSame z s (execDoneRx sh u) := by
  unfold execDoneRx
  with_reducible repeat' (first | assumption | intro _ | apply State.takeCtl_same | apply State.showXchg_same | apply State.setLnk_same | apply State.spareSleep_same | apply State.claimAgain_same | apply ite_same | apply foldl_same | apply ite_same2 | apply foldl_same2 | apply outSame_next | apply ite_outSame | split | refine optSame2_get (by assumption) ?_ | dsimp only)
theorem State.xchgSettle_same {z : Bool} {s u : State} (h : Same z s u) (sh : Nat) : Same z s (State.xchgSettle u sh) := by
  unfold State.xchgSettle
  with_reducible repeat' (first | assumption | intro _ | apply State.spareIn_same | apply State.put_same | apply State.finishCmd_same | apply State.xchgDone_same | apply State.showXchg_same | apply State.setLnk_same | apply ite_same | apply foldl_same | split | dsimp only)
theorem execPrbsClr_same {z : Bool} {s u : State} (h : Same z s u) (sh : Nat) (l : Nat) (w : Wr) : OutSame z s (execPrbsClr sh l w u) := by
  unfold execPrbsClr
  with_reducible repeat' (first | assumption | intro _ | apply State.pfOnly_same | apply State.prbsWrite_same | apply ite_same | apply foldl_same | apply outSame_next | apply ite_outSame | split | dsimp only)
theorem execSheetStop_same {z : Bool} {s u : State} (h : Same z s u) (sh : Nat) (w : Wr) : OutSame z s (execSheetStop sh w u) := by
  unfold execSheetStop
  with_reducible repeat' (first | assumption | intro _ | apply State.pfOnly_same | apply State.sheetCtlWrite_same | apply ite_same | apply foldl_same | apply outSame_next | apply ite_outSame | split | dsimp only)
theorem execGrantRx_same {z : Bool} {s u : State} (h : Same z s u) (sh : Nat) : OutSame z s (execGrantRx sh u) := by
  unfold execGrantRx
  with_reducible repeat' (first | assumption | intro _ | apply State.takeCtl_same | apply State.setLnk_same | apply State.wakeSpare_same | apply State.switchNow_same | apply ite_same | apply foldl_same | apply ite_same2 | apply foldl_same2 | apply outSame_next | apply ite_outSame | split | refine optSame2_get (by assumption) ?_ | dsimp only)
theorem State.answerClaim_same {z : Bool} {s u : State} (h : Same z s u) (sh : Nat) (kind : Nat) (tag : Nat) (lane : Nat) : Same z s (State.answerClaim u sh kind tag lane) := by
  unfold State.answerClaim
  with_reducible repeat' (first | assumption | intro _ | apply State.wakeSpare_same | apply State.sendCtrl_same | apply State.showXchg_same | apply State.setLnk_same | apply State.switchNow_same | apply ite_same | apply foldl_same | split | dsimp only)
theorem execClaimRx_same {z : Bool} {s u : State} (h : Same z s u) (sh : Nat) : OutSame z s (execClaimRx sh u) := by
  unfold execClaimRx
  with_reducible repeat' (first | assumption | intro _ | apply State.takeCtl_same | apply State.answerClaim_same | apply State.sendCtrl_same | apply State.setLnk_same | apply State.claimAgain_same | apply ite_same | apply foldl_same | apply ite_same2 | apply foldl_same2 | apply outSame_next | apply ite_outSame | split | refine optSame2_get (by assumption) ?_ | dsimp only)
theorem State.lossDrop_same {z : Bool} {s u : State} (h : Same z s u) (sh : Nat) (l : Nat) (cause : Nat) : Same z s (State.lossDrop u sh l cause) := by
  unfold State.lossDrop
  with_reducible repeat' (first | assumption | intro _ | apply State.etherLoss_same | apply State.sheetDrop_same | apply State.laneFail_same | apply ite_same | apply foldl_same | split | dsimp only)
theorem State.dozeWake_same {z : Bool} {s u : State} (h : Same z s u) (sh : Nat) : Same z s (State.dozeWake u sh) := by
  unfold State.dozeWake
  with_reducible repeat' (first | assumption | intro _ | apply State.setLnk_same | apply State.stageTo_same | apply ite_same | apply foldl_same | split | dsimp only)
theorem execTrainAttemptTimeout_same {z : Bool} {s u : State} (h : Same z s u) (sh : Nat) : OutSame z s (execTrainAttemptTimeout sh u) := by
  unfold execTrainAttemptTimeout
  with_reducible repeat' (first | assumption | intro _ | apply State.raise_same | apply State.put_same | apply State.setLnk_same | apply State.bringupFail_same | apply State.attemptFails_same | apply ite_same | apply foldl_same | apply outSame_next | apply ite_outSame | split | dsimp only)
theorem execSheetStart_same {z : Bool} {s u : State} (h : Same z s u) (sh : Nat) (w : Wr) : OutSame z s (execSheetStart sh w u) := by
  unfold execSheetStart
  with_reducible repeat' (first | assumption | intro _ | apply State.pfOnly_same | apply State.sheetCtlWrite_same | apply ite_same | apply foldl_same | apply outSame_next | apply ite_outSame | split | dsimp only)
theorem execRestoreRx_same {z : Bool} {s u : State} (h : Same z s u) (sh : Nat) : OutSame z s (execRestoreRx sh u) := by
  unfold execRestoreRx
  with_reducible repeat' (first | assumption | intro _ | apply State.takeCtl_same | apply State.setLnk_same | apply ite_same | apply foldl_same | apply ite_same2 | apply foldl_same2 | apply outSame_next | apply ite_outSame | split | refine optSame2_get (by assumption) ?_ | dsimp only)
theorem execLaneLos_same {z : Bool} {s u : State} (h : Same z s u) (sh : Nat) (l : Nat) : OutSame z s (execLaneLos sh l u) := by
  unfold execLaneLos
  with_reducible repeat' (first | assumption | intro _ | apply State.laneCount_same | apply State.put_same | apply State.lossDrop_same | apply State.raise_same | apply State.losTo_same | apply ite_same | apply foldl_same | apply outSame_next | apply ite_outSame | split | dsimp only)
theorem execPrbsLost_same {z : Bool} {s u : State} (h : Same z s u) (sh : Nat) (l : Nat) (n : Nat) (e : Nat) : OutSame z s (execPrbsLost sh l n e u) := by
  unfold execPrbsLost
  with_reducible repeat' (first | assumption | intro _ | apply State.raise_same | apply State.put_same | apply State.prbsCount_same | apply ite_same | apply foldl_same | apply outSame_next | apply ite_outSame | split | dsimp only)
theorem execLaneAlignDone_same {z : Bool} {s u : State} (h : Same z s u) (sh : Nat) (l : Nat) (ident : Nat) (inv : Bool) : OutSame z s (execLaneAlignDone sh l ident inv u) := by
  unfold execLaneAlignDone
  with_reducible repeat' (first | assumption | intro _ | apply State.put_same | apply State.sendCtrl_same | apply State.setLnk_same | apply State.switchNow_same | apply State.stageTo_same | apply ite_same | apply foldl_same | apply outSame_next | apply ite_outSame | split | dsimp only)
theorem execRefuseRx_same {z : Bool} {s u : State} (h : Same z s u) (sh : Nat) : OutSame z s (execRefuseRx sh u) := by
  unfold execRefuseRx
  with_reducible repeat' (first | assumption | intro _ | apply State.takeCtl_same | apply State.xchgFail_same | apply ite_same | apply foldl_same | apply ite_same2 | apply foldl_same2 | apply outSame_next | apply ite_outSame | split | refine optSame2_get (by assumption) ?_ | dsimp only)
theorem execLaneLol_same {z : Bool} {s u : State} (h : Same z s u) (sh : Nat) (l : Nat) : OutSame z s (execLaneLol sh l u) := by
  unfold execLaneLol
  with_reducible repeat' (first | assumption | intro _ | apply State.laneCount_same | apply State.put_same | apply State.lossDrop_same | apply State.raise_same | apply ite_same | apply foldl_same | apply outSame_next | apply ite_outSame | split | dsimp only)
theorem execSheetSub_same {z : Bool} {s u : State} (h : Same z s u) (sh : Nat) (w : Wr) : OutSame z s (execSheetSub sh w u) := by
  unfold execSheetSub
  with_reducible repeat' (first | assumption | intro _ | apply State.pfOnly_same | apply State.sheetCtlWrite_same | apply ite_same | apply foldl_same | apply outSame_next | apply ite_outSame | split | dsimp only)
theorem execLaneEqDone_same {z : Bool} {s u : State} (h : Same z s u) (sh : Nat) (l : Nat) (margins : List Nat) : OutSame z s (execLaneEqDone sh l margins u) := by
  unfold execLaneEqDone
  with_reducible repeat' (first | assumption | intro _ | apply State.put_same | apply State.genStart_same | apply State.stageTo_same | apply ite_same | apply foldl_same | apply outSame_next | apply ite_outSame | split | dsimp only)
theorem execNarrowWrite_same {z : Bool} {s u : State} (h : Same z s u) (sh : Nat) (w : Wr) : OutSame z s (execNarrowWrite sh w u) := by
  unfold execNarrowWrite
  with_reducible repeat' (first | assumption | intro _ | apply State.pfOnly_same | apply State.sheetCtlWrite_same | apply ite_same | apply foldl_same | apply outSame_next | apply ite_outSame | split | dsimp only)
theorem execSpareReadyRx_same {z : Bool} {s u : State} (h : Same z s u) (sh : Nat) : OutSame z s (execSpareReadyRx sh u) := by
  unfold execSpareReadyRx
  with_reducible repeat' (first | assumption | intro _ | apply State.takeCtl_same | apply State.setLnk_same | apply State.switchNow_same | apply ite_same | apply foldl_same | apply ite_same2 | apply foldl_same2 | apply outSame_next | apply ite_outSame | split | refine optSame2_get (by assumption) ?_ | dsimp only)
theorem execDozeIdle_same {z : Bool} {s u : State} (h : Same z s u) (sh : Nat) : OutSame z s (execDozeIdle sh u) := by
  unfold execDozeIdle
  with_reducible repeat' (first | assumption | intro _ | apply State.claim_same | apply ite_same | apply foldl_same | apply outSame_next | apply ite_outSame | split | dsimp only)
theorem execLaneSleepWrite_same {z : Bool} {s u : State} (h : Same z s u) (sh : Nat) (l : Nat) (w : Wr) : OutSame z s (execLaneSleepWrite sh l w u) := by
  unfold execLaneSleepWrite
  with_reducible repeat' (first | assumption | intro _ | apply State.pfOnly_same | apply State.laneCtlWrite_same | apply ite_same | apply foldl_same | apply outSame_next | apply ite_outSame | split | dsimp only)
theorem State.beamsResume_same {z : Bool} {s u : State} (h : Same z s u) (sheet : Nat) : Same z s (State.beamsResume u sheet) := by
  unfold State.beamsResume
  with_reducible repeat' (first | assumption | intro _ | apply State.beamGoes_same | apply ite_same | apply foldl_same | split | dsimp only)
theorem State.sendAside_same {z : Bool} {s u : State} (h : Same z s u) (sh : Nat) : Same z s (State.sendAside u sh) := by
  unfold State.sendAside
  with_reducible repeat' (first | assumption | intro _ | apply State.emit_same | apply ite_same | apply foldl_same | split | dsimp only)
theorem execBlockTx_same {z : Bool} {s u : State} (h : Same z s u) (sh : Nat) (i : Nat) : OutSame z s (execBlockTx sh i u) := by
  unfold execBlockTx
  with_reducible repeat' (first | assumption | intro _ | apply State.sendBlock_same | apply State.setLnk_same | apply State.sendTraining_same | apply State.linkUpNow_same | apply State.xchgSettle_same | apply State.dozeWake_same | apply State.beamsResume_same | apply State.sendAside_same | apply ite_same | apply foldl_same | apply outSame_next | apply ite_outSame | split | dsimp only)
theorem execPrbsInject_same {z : Bool} {s u : State} (h : Same z s u) (sh : Nat) (l : Nat) (w : Wr) : OutSame z s (execPrbsInject sh l w u) := by
  unfold execPrbsInject
  with_reducible repeat' (first | assumption | intro _ | apply State.pfOnly_same | apply State.prbsWrite_same | apply ite_same | apply foldl_same | apply outSame_next | apply ite_outSame | split | dsimp only)
theorem execSwitchRx_same {z : Bool} {s u : State} (h : Same z s u) (sh : Nat) : OutSame z s (execSwitchRx sh u) := by
  unfold execSwitchRx
  with_reducible repeat' (first | assumption | intro _ | apply State.takeCtl_same | apply State.setLnk_same | apply ite_same | apply foldl_same | apply ite_same2 | apply foldl_same2 | apply outSame_next | apply ite_outSame | split | refine optSame2_get (by assumption) ?_ | dsimp only)
theorem State.noteWait_same {z : Bool} {s u : State} (h : Same z s u) (q : Nat) (way : Nat) : Same z s (State.noteWait u q way) := by
  unfold State.noteWait
  with_reducible repeat' (first | assumption | intro _ | apply State.setQue_same | apply State.raise_same | apply State.put_same | apply ite_same | apply foldl_same | split | dsimp only)
theorem State.setSched_same {z : Bool} {s u : State} (h : Same z s u) (k0 : Nat) (x : Sched) : Same z s (State.setSched u k0 x) := by
  unfold State.setSched
  with_reducible repeat' (first | assumption | intro _ | apply ite_same | apply foldl_same | split | dsimp only | apply same_scheds)
theorem State.deliver_same {z : Bool} {s u : State} (h : Same z s u) (b : Nat) (i : Nat) (l : List Byte) (last : Bool) : Same z s (State.deliver u b i l last) := by
  unfold State.deliver
  with_reducible repeat' (first | assumption | intro _ | apply State.recordFirst_same | apply State.emit_same | apply State.setDelivery_same | apply State.ringRecord_same | apply State.vecDue_same | apply ite_same | apply foldl_same | split | dsimp only)
theorem State.sendFrame_same {z : Bool} {s u : State} (h : Same z s u) (q : Nat) (way : Nat) (cut : Nat) : Same z s (State.sendFrame u q way cut) := by
  unfold State.sendFrame
  with_reducible repeat' (first | assumption | intro _ | apply State.setQue_same | apply State.readQue_same | apply State.deliver_same | apply State.formPkt_same | apply State.sendTx_same | apply State.nextPkt_same | apply State.sendPkt_same | apply State.mirrorLag_same | apply ite_same | apply foldl_same | apply ite_same2 | apply foldl_same2 | split | refine pairSame2 (by assumption) ?_ | dsimp only)
theorem State.setHring_same {z : Bool} {s u : State} (h : Same z s u) (m0 : Nat) (x : HostRing) : Same z s (State.setHring u m0 x) := by
  unfold State.setHring
  with_reducible repeat' (first | assumption | intro _ | apply ite_same | apply foldl_same | split | dsimp only | apply same_hrings)
theorem State.descDone_same {z : Bool} {s u : State} (h : Same z s u) (addr : Nat) : Same z s (State.descDone u addr) := by
  unfold State.descDone
  with_reducible repeat' (first | assumption | intro _ | apply State.emit_same | apply ite_same | apply foldl_same | split | dsimp only)
theorem State.sendHost_same {z : Bool} {s u : State} (h : Same z s u) (m0 : Nat) : Same z s (State.sendHost u m0) := by
  unfold State.sendHost
  with_reducible repeat' (first | assumption | intro _ | apply State.setHring_same | apply State.emit_same | apply State.txStamp_same | apply State.descDone_same | apply ite_same | apply foldl_same | split | dsimp only)
theorem execEgressFrame_same {z : Bool} {s u : State} (h : Same z s u) (k0 : Nat) (pick : Nat) (cut : Nat) : OutSame z s (execEgressFrame k0 pick cut u) := by
  unfold execEgressFrame
  with_reducible repeat' (first | assumption | intro _ | apply State.noteWait_same | apply State.setSched_same | apply State.sendFrame_same | apply State.sendHost_same | apply ite_same | apply foldl_same | apply outSame_next | apply ite_outSame | split | dsimp only)
theorem State.takeDescs_same {z : Bool} {s u : State} (h : Same z s u) (m0 : Nat) (l : List HtxDesc) : Same z s (State.takeDescs u m0 l) := by
  unfold State.takeDescs
  with_reducible repeat' (first | assumption | intro _ | apply State.setHring_same | apply State.descDone_same | apply ite_same | apply foldl_same | split | dsimp only)
theorem execHrxPiWrite_same {z : Bool} {s u : State} (h : Same z s u) (m0 : Nat) (w : Wr) (bufs : List Nat) : OutSame z s (execHrxPiWrite m0 w bufs u) := by
  unfold execHrxPiWrite
  with_reducible repeat' (first | assumption | intro _ | apply State.pfOnly_same | apply State.mergeRaw_same | apply State.setHring_same | apply ite_same | apply foldl_same | apply outSame_next | apply ite_outSame | split | dsimp only)
theorem execHtxPiWrite_same {z : Bool} {s u : State} (h : Same z s u) (m0 : Nat) (w : Wr) (descs : List HtxDesc) : OutSame z s (execHtxPiWrite m0 w descs u) := by
  unfold execHtxPiWrite
  with_reducible repeat' (first | assumption | intro _ | apply State.pfOnly_same | apply State.mergeRaw_same | apply State.takeDescs_same | apply ite_same | apply foldl_same | apply outSame_next | apply ite_outSame | split | dsimp only)
theorem execEgressStall_same {z : Bool} {s u : State} (h : Same z s u) (q : Nat) : OutSame z s (execEgressStall q u) := by
  unfold execEgressStall
  with_reducible repeat' (first | assumption | intro _ | apply State.raise_same | apply State.setQue_same | apply State.put_same | apply ite_same | apply foldl_same | apply outSame_next | apply ite_outSame | split | dsimp only)
theorem execCringEnable_same {z : Bool} {s u : State} (h : Same z s u) (b : Nat) (r : Nat) (w : Wr) : OutSame z s (execCringEnable b r w u) := by
  unfold execCringEnable
  with_reducible repeat' (first | assumption | intro _ | apply State.flushHeld_same | apply State.cringCtlWrite_same | apply State.reservedHit_same | apply ite_same | apply foldl_same | apply outSame_next | apply ite_outSame | split | dsimp only)
theorem execPtmResponseRx_same {z : Bool} {s u : State} (h : Same z s u) (master : Nat) (delay : Nat) : OutSame z s (execPtmResponseRx master delay u) := by
  unfold execPtmResponseRx
  with_reducible repeat' (first | assumption | intro _ | apply State.wn_same | apply State.wr64_same | apply State.put_same | apply ite_same | apply foldl_same | apply outSame_next | apply ite_outSame | split | dsimp only | apply same_ptm)
theorem State.jobDrop_same {z : Bool} {s u : State} (h : Same z s u) (b : Nat) : Same z s (State.jobDrop u b) := by
  unfold State.jobDrop
  with_reducible repeat' (first | assumption | intro _ | apply State.put_same | apply State.dxDone_same | apply ite_same | apply foldl_same | split | dsimp only | apply same_jobs)
theorem execMsixModerationEnd_same {z : Bool} {s u : State} (h : Same z s u) (fn : Nat) (v : Nat) : OutSame z s (execMsixModerationEnd fn v u) := by
  unfold execMsixModerationEnd
  with_reducible repeat' (first | assumption | intro _ | apply State.setVec_same | apply State.vecSend_same | apply ite_same | apply foldl_same | apply outSame_next | apply ite_outSame | split | dsimp only)
theorem execPtmStart_same {z : Bool} {s u : State} (h : Same z s u) (w : Wr) : OutSame z s (execPtmStart w u) := by
  unfold execPtmStart
  with_reducible repeat' (first | assumption | intro _ | apply State.pfOnly_same | apply State.ptmCtlWrite_same | apply ite_same | apply foldl_same | apply outSame_next | apply ite_outSame | split | dsimp only)
theorem State.vecRelease_same {z : Bool} {s u : State} (h : Same z s u) (fn : Nat) : Same z s (State.vecRelease u fn) := by
  unfold State.vecRelease
  with_reducible repeat' (first | assumption | intro _ | apply State.setVec_same | apply State.vecSend_same | apply ite_same | apply foldl_same | split | dsimp only)
theorem execPtmTimeout_same {z : Bool} {s u : State} (h : Same z s u) : OutSame z s (execPtmTimeout u) := by
  unfold execPtmTimeout
  with_reducible repeat' (first | assumption | intro _ | apply State.raise_same | apply State.put_same | apply ite_same | apply foldl_same | apply outSame_next | apply ite_outSame | split | dsimp only | apply same_ptm)
theorem State.hostRingsOff_same {z : Bool} {s u : State} (h : Same z s u) : Same z s (State.hostRingsOff u) := by
  unfold State.hostRingsOff
  with_reducible repeat' (first | assumption | intro _ | apply State.put_same | apply State.setHring_same | apply ite_same | apply foldl_same | split | dsimp only)
theorem State.flrState_same {z : Bool} {s u : State} (h : Same z s u) (fn : Nat) : Same z s (State.flrState u fn) := by
  unfold State.flrState
  have k1 := State.deliveriesOff_same (State.jobDrop_same (State.ringsDisable_same h fn) fn) fn
  have k2 := ite_same (c := fn = 0) (same_ptm (State.hostRingsOff_same k1) none) k1
  exact State.setFunc_same (same_regs_vecs k2 _ _) _ _
theorem State.flr_same {z : Bool} {s u : State} (h : Same z s u) (fn : Nat) : Same z s (State.flr u fn) := by
  unfold State.flr
  with_reducible repeat' (first | assumption | intro _ | apply State.raise_same | apply State.flrState_same | apply ite_same | apply foldl_same | split | dsimp only)
theorem execPtmDialog_same {z : Bool} {s u : State} (h : Same z s u) : OutSame z s (execPtmDialog u) := by
  unfold execPtmDialog
  with_reducible repeat' (first | assumption | intro _ | apply State.ptmStart_same | apply ite_same | apply foldl_same | apply outSame_next | apply ite_outSame | split | dsimp only | apply same_ptmAt)
theorem execFunctionLevelReset_same {z : Bool} {s u : State} (h : Same z s u) (fn : Nat) : OutSame z s (execFunctionLevelReset fn u) := by
  unfold execFunctionLevelReset
  with_reducible repeat' (first | assumption | intro _ | apply State.flr_same | apply ite_same | apply foldl_same | apply outSame_next | apply ite_outSame | split | dsimp only)
theorem execMsixUnmask_same {z : Bool} {s u : State} (h : Same z s u) (fn : Nat) (op : MsixOp) : OutSame z s (execMsixUnmask fn op u) := by
  unfold execMsixUnmask
  with_reducible repeat' (first | assumption | intro _ | apply State.vecRelease_same | apply State.setVec_same | apply State.setFunc_same | apply ite_same | apply foldl_same | apply outSame_next | apply ite_outSame | split | dsimp only)
theorem execPcieLinkDown_same {z : Bool} {s u : State} (h : Same z s u) : OutSame z s (execPcieLinkDown u) := by
  unfold execPcieLinkDown
  with_reducible repeat' (first | assumption | intro _ | apply State.flrState_same | apply ite_same | apply foldl_same | apply outSame_next | apply ite_outSame | split | dsimp only | apply same_linkUp)
theorem execPcieLinkUp_same {z : Bool} {s u : State} (h : Same z s u) : OutSame z s (execPcieLinkUp u) := by
  unfold execPcieLinkUp
  with_reducible repeat' (first | assumption | intro _ | apply State.put_same | apply ite_same | apply foldl_same | apply outSame_next | apply ite_outSame | split | dsimp only | apply same_linkUp)
theorem execVfDisable_same {z : Bool} {s u : State} (h : Same z s u) (n : Nat) : OutSame z s (execVfDisable n u) := by
  unfold execVfDisable
  with_reducible repeat' (first | assumption | intro _ | apply State.setFunc_same | apply State.flr_same | apply ite_same | apply foldl_same | apply outSame_next | apply ite_outSame | split | dsimp only)
theorem execBusMasterEnableWrite_same {z : Bool} {s u : State} (h : Same z s u) (fn : Nat) (bme : Bool) (ptm : Bool) : OutSame z s (execBusMasterEnableWrite fn bme ptm u) := by
  unfold execBusMasterEnableWrite
  with_reducible repeat' (first | assumption | intro _ | apply State.setFunc_same | apply State.dxFill_same | apply State.vecRelease_same | apply State.ringsDisable_same | apply ite_same | apply foldl_same | apply outSame_next | apply ite_outSame | split | dsimp only)
theorem State.doorbell_same {z : Bool} {s u : State} (h : Same z s u) (w : Wr) (off : Nat) (f : State → State) (k : ∀ v, Same z s v → Same z s (f v)) : Same z s (State.doorbell u w off f) := by
  unfold State.doorbell
  with_reducible repeat' (first | assumption | intro _ | apply k | apply State.flushHeld_same | apply State.reservedHit_same | apply State.widthHit_same | apply ite_same | apply foldl_same | split | dsimp only)
theorem State.deliveryTaken_same {z : Bool} {s u : State} (h : Same z s u) (b : Nat) (i : Nat) (v : Nat) : Same z s (State.deliveryTaken u b i v) := by
  unfold State.deliveryTaken
  with_reducible repeat' (first | assumption | intro _ | apply State.raise_same | apply State.setDelivery_same | apply ite_same | apply foldl_same | split | dsimp only)
theorem execDeliveryDoorbell_same {z : Bool} {s u : State} (h : Same z s u) (i : Nat) (w : Wr) : OutSame z s (execDeliveryDoorbell i w u) := by
  unfold execDeliveryDoorbell
  with_reducible repeat' (first | assumption | intro _ | apply State.doorbell_same | apply State.deliveryTaken_same | apply State.reservedHit_same | apply ite_same | apply foldl_same | apply outSame_next | apply ite_outSame | split | dsimp only)
theorem execBoroughResetDone_same {z : Bool} {s u : State} (h : Same z s u) (b : Nat) : OutSame z s (execBoroughResetDone b u) := by
  unfold execBoroughResetDone
  with_reducible repeat' (first | assumption | intro _ | apply State.raise_same | apply State.bump_same | apply State.put_same | apply ite_same | apply foldl_same | apply outSame_next | apply ite_outSame | split | dsimp only)
theorem execBrgCtlReset_same {z : Bool} {s u : State} (h : Same z s u) (b : Nat) (w : Wr) : OutSame z s (execBrgCtlReset b w u) := by
  unfold execBrgCtlReset
  with_reducible repeat' (first | assumption | intro _ | apply State.flushHeld_same | apply State.brgCtlWrite_same | apply State.reservedHit_same | apply ite_same | apply foldl_same | apply outSame_next | apply ite_outSame | split | dsimp only)
theorem State.gazNote_same {z : Bool} {s u : State} (h : Same z s u) (e : Nat) (status : Nat) (ep : Nat) : Same z s (State.gazNote u e status ep) := by
  unfold State.gazNote
  with_reducible repeat' (first | assumption | intro _ | apply State.setEntry_same | apply ite_same | apply foldl_same | split | dsimp only)
theorem State.gazOutcome_same {z : Bool} {s u : State} (h : Same z s u) (d : Nat) (x : GazSend) (c : GazCopy) (status : Nat) (res : List Word) : Same z s (State.gazOutcome u d x c status res) := by
  unfold State.gazOutcome
  with_reducible repeat' (first | assumption | intro _ | apply State.gazNote_same | apply State.bumpSat_same | apply State.setSend_same | apply State.raise_same | apply State.gazCheck_same | apply ite_same | apply foldl_same | split | dsimp only)
theorem State.gazTransmit_same {z : Bool} {s u : State} (h : Same z s u) (x : GazEntry) (pkt : List Byte) : Same z s (State.gazTransmit u x pkt) := by
  unfold State.gazTransmit
  with_reducible repeat' (first | assumption | intro _ | apply State.wr64_same | apply State.sendTx_same | apply State.sendUdp_same | apply ite_same | apply foldl_same | split | dsimp only)
theorem execGazRetry_same {z : Bool} {s u : State} (h : Same z s u) (d : Nat) (e : Nat) : OutSame z s (execGazRetry d e u) := by
  unfold execGazRetry
  with_reducible repeat' (first | assumption | intro _ | apply State.gazTransmit_same | apply State.setSend_same | apply ite_same | apply foldl_same | apply outSame_next | apply ite_outSame | split | dsimp only)
theorem State.lateReply_same {z : Bool} {s u : State} (h : Same z s u) : Same z s (State.lateReply u) := by
  unfold State.lateReply
  with_reducible repeat' (first | assumption | intro _ | apply State.bumpSat_same | apply State.raise_same | apply ite_same | apply foldl_same | split | dsimp only | apply same_lateAt)
theorem State.gazReply_same {z : Bool} {s u : State} (h : Same z s u) (e : Nat) (l : List Word) : Same z s (State.gazReply u e l) := by
  unfold State.gazReply
  with_reducible repeat' (first | assumption | intro _ | apply State.gazOutcome_same | apply State.lateReply_same | apply ite_same | apply foldl_same | split | dsimp only)
theorem State.authFail_same {z : Bool} {s u : State} (h : Same z s u) (b : Nat) : Same z s (State.authFail u b) := by
  unfold State.authFail
  with_reducible repeat' (first | assumption | intro _ | apply State.raise_same | apply State.bumpSat_same | apply ite_same | apply foldl_same | split | dsimp only)
theorem State.gazReceive_same {z : Bool} {s u : State} (h : Same z s u) (e : Nat) (env : List Byte) : Same z s (State.gazReceive u e env) := by
  unfold State.gazReceive
  with_reducible repeat' (first | assumption | intro _ | apply State.gazReply_same | apply State.authFail_same | apply ite_same | apply foldl_same | split | dsimp only)
theorem State.reportRefuse_same {z : Bool} {s u : State} (h : Same z s u) : Same z s (State.reportRefuse u) := by
  unfold State.reportRefuse
  with_reducible repeat' (first | assumption | intro _ | apply State.bumpSat_same | apply State.raise_same | apply ite_same | apply foldl_same | split | dsimp only | apply same_gazBook)
theorem State.showDigests_same {z : Bool} {s u : State} (h : Same z s u) : Same z s (State.showDigests u) := by
  unfold State.showDigests
  with_reducible repeat' (first | assumption | intro _ | apply State.put_same | apply ite_same | apply foldl_same | split | dsimp only)
theorem State.reportFold_same {z : Bool} {s u : State} (h : Same z s u) (subject : Nat) (cls : Nat) (reporter : Nat) : Same z s (State.reportFold u subject cls reporter) := by
  unfold State.reportFold
  with_reducible repeat' (first | assumption | intro _ | apply State.bumpSat_same | apply State.raise_same | apply State.showDigests_same | apply ite_same | apply foldl_same | split | dsimp only | apply same_digests_gazBook | apply same_gazBook)
theorem execGazOutcomeRx_same {z : Bool} {s u : State} (h : Same z s u) (e : Nat) (env : List Byte) : OutSame z s (execGazOutcomeRx e env u) := by
  unfold execGazOutcomeRx
  with_reducible repeat' (first | assumption | intro _ | apply State.gazReceive_same | apply ite_same | apply foldl_same | apply outSame_next | apply ite_outSame | split | dsimp only)
theorem execGazCollectEnd_same {z : Bool} {s u : State} (h : Same z s u) (d : Nat) : OutSame z s (execGazCollectEnd d u) := by
  unfold execGazCollectEnd
  with_reducible repeat' (first | assumption | intro _ | apply State.gazFinish_same | apply ite_same | apply foldl_same | apply outSame_next | apply ite_outSame | split | dsimp only)
theorem State.digestClose_same {z : Bool} {s u : State} (h : Same z s u) (x : Digest) : Same z s (State.digestClose u x) := by
  unfold State.digestClose
  with_reducible repeat' (first | assumption | intro _ | apply State.sendItem_same | apply State.bumpSat_same | apply State.setEntry_same | apply State.showDigests_same | apply State.raise_same | apply ite_same | apply foldl_same | split | dsimp only | apply same_digests_gazBook | apply same_gazBook)
theorem execDigestClose_same {z : Bool} {s u : State} (h : Same z s u) (subject : Nat) (cls : Nat) : OutSame z s (execDigestClose subject cls u) := by
  unfold execDigestClose
  with_reducible repeat' (first | assumption | intro _ | apply State.digestClose_same | apply ite_same | apply foldl_same | apply outSame_next | apply ite_outSame | split | dsimp only)
theorem execGazCopyTx_same {z : Bool} {s u : State} (h : Same z s u) (d : Nat) : OutSame z s (execGazCopyTx d u) := by
  unfold execGazCopyTx
  with_reducible repeat' (first | assumption | intro _ | apply State.gazCheck_same | apply State.gazTooLate_same | apply State.setEntry_same | apply State.gazTransmit_same | apply State.setSend_same | apply ite_same | apply foldl_same | apply outSame_next | apply ite_outSame | split | dsimp only | apply same_gazBook)
theorem State.faultReport_same {z : Bool} {s u : State} (h : Same z s u) (l : List Byte) : Same z s (State.faultReport u l) := by
  unfold State.faultReport
  with_reducible repeat' (first | assumption | intro _ | apply State.reportRefuse_same | apply State.digestClose_same | apply State.reportFold_same | apply ite_same | apply foldl_same | split | dsimp only)
theorem execFaultReportRx_same {z : Bool} {s u : State} (h : Same z s u) (payload : List Byte) : OutSame z s (execFaultReportRx payload u) := by
  unfold execFaultReportRx
  with_reducible repeat' (first | assumption | intro _ | apply State.faultReport_same | apply ite_same | apply foldl_same | apply outSame_next | apply ite_outSame | split | dsimp only)
theorem State.tmaskBit_same {z : Bool} {s u : State} (h : Same z s u) (b : Nat) (n : Nat) (on : Bool) : Same z s (State.tmaskBit u b n on) := by
  unfold State.tmaskBit
  with_reducible repeat' (first | assumption | intro _ | apply State.wn_same | apply ite_same | apply foldl_same | split | dsimp only)
theorem State.sourceBell_same {z : Bool} {s u : State} (h : Same z s u) (w : Wr) : Same z s (State.sourceBell u w) := by
  unfold State.sourceBell
  with_reducible repeat' (first | assumption | intro _ | apply State.raise_same | apply State.tmaskBit_same | apply ite_same | apply foldl_same | split | dsimp only)
theorem execDbEvtSrc_same {z : Bool} {s u : State} (h : Same z s u) (w : Wr) : OutSame z s (execDbEvtSrc w u) := by
  unfold execDbEvtSrc
  with_reducible repeat' (first | assumption | intro _ | apply State.doorbell_same | apply State.sourceBell_same | apply ite_same | apply foldl_same | apply outSame_next | apply ite_outSame | split | dsimp only)
theorem State.logScan_same {s u : State} (h : Same false s u) : Same false s (State.logScan u) := by
  unfold State.logScan
  with_reducible repeat' (first | assumption | intro _ | apply State.put_same | apply State.showLog_same | apply State.raise_same | rfl | exact reanchor_fc _ | exact reanchor_locked _ | contradiction | apply ite_same | apply foldl_same | split | dsimp only | apply same_log)
theorem execLogScan_same {s u : State} (h : Same false s u) : OutSame false s (execLogScan u) := by
  unfold execLogScan
  with_reducible repeat' (first | assumption | intro _ | apply State.logScan_same | apply ite_same | apply foldl_same | apply outSame_next | apply ite_outSame | split | dsimp only)
theorem execEvtPendWrite_same {z : Bool} {s u : State} (h : Same z s u) (k0 : Nat) (w : Wr) : OutSame z s (execEvtPendWrite k0 w u) := by
  unfold execEvtPendWrite
  with_reducible repeat' (first | assumption | intro _ | apply State.pfOnly_same | apply State.mergeRaw_same | apply ite_same | apply foldl_same | apply outSame_next | apply ite_outSame | split | dsimp only)
theorem State.everyBell_same {z : Bool} {s u : State} (h : Same z s u) (w : Wr) : Same z s (State.everyBell u w) := by
  unfold State.everyBell
  with_reducible repeat' (first | assumption | intro _ | apply State.tmaskBit_same | apply ite_same | apply foldl_same | split | dsimp only)
theorem execEvtWindowEnd_same {z : Bool} {s u : State} (h : Same z s u) : OutSame z s (execEvtWindowEnd u) := by
  unfold execEvtWindowEnd
  with_reducible repeat' (first | assumption | intro _ | apply State.closeWindow_same | apply ite_same | apply foldl_same | apply outSame_next | apply ite_outSame | split | dsimp only)
theorem State.logSector_same {z : Bool} {s u : State} (h : Same z s u) (sector : Nat) : Same z s (State.logSector u sector).1 := by
  unfold State.logSector
  with_reducible repeat' (first | assumption | intro _ | apply State.mramFail_same | apply State.put_same | apply ite_same | apply foldl_same | apply ite_same1 | apply foldl_same1 | split | refine pairSame1 (by assumption) ?_ | dsimp only)
theorem State.logCheck_same {z : Bool} {s u : State} (h : Same z s u) (i : Nat) (fails : Nat) : Same z s (State.logCheck u i fails).1 := by
  unfold State.logCheck
  with_reducible repeat' (first | assumption | intro _ | apply State.bump_same | apply State.logSector_same | apply State.raise_same | apply State.put_same | apply ite_same | apply foldl_same | apply ite_same1 | apply foldl_same1 | split | refine pairSame1 (by assumption) ?_ | dsimp only)
theorem State.logPut_same {s u : State} (h : Same false s u) (i : Nat) (x : LogSlot) : Same false s (State.logPut u i x) := by
  unfold State.logPut
  with_reducible repeat' (first | assumption | intro _ | apply State.showLog_same | rfl | exact reanchor_fc _ | exact reanchor_locked _ | contradiction | apply ite_same | apply foldl_same | split | dsimp only | apply same_log)
theorem State.logRefuse_same {z : Bool} {s u : State} (h : Same z s u) : Same z s (State.logRefuse u) := by
  unfold State.logRefuse
  with_reducible repeat' (first | assumption | intro _ | apply State.bumpSat_same | apply State.raise_same | apply State.put_same | apply ite_same | apply foldl_same | split | dsimp only)
theorem State.logItem_same {s u : State} (h : Same false s u) (i : StageItem) (fails : Nat) : Same false s (State.logItem u i fails) := by
  unfold State.logItem
  with_reducible repeat' (first | assumption | intro _ | apply State.logCheck_same | apply State.logPut_same | apply State.logRefuse_same | apply ite_same | apply foldl_same | apply ite_same1 | apply foldl_same1 | split | refine pairSame1 (by assumption) ?_ | dsimp only)
theorem execLogWrite_same {s u : State} (h : Same false s u) (fails : Nat) : OutSame false s (execLogWrite fails u) := by
  unfold execLogWrite
  with_reducible repeat' (first | assumption | intro _ | apply State.logItem_same | apply ite_same | apply foldl_same | apply outSame_next | apply ite_outSame | split | dsimp only | apply same_stageQ)
theorem execDbEvtAll_same {z : Bool} {s u : State} (h : Same z s u) (w : Wr) : OutSame z s (execDbEvtAll w u) := by
  unfold execDbEvtAll
  with_reducible repeat' (first | assumption | intro _ | apply State.doorbell_same | apply State.everyBell_same | apply ite_same | apply foldl_same | apply outSame_next | apply ite_outSame | split | dsimp only)
theorem State.pageFar_same {z : Bool} {s u : State} (h : Same z s u) (q : Nat) (id : Nat) : Same z s (State.pageFar u q id) := by
  unfold State.pageFar
  with_reducible repeat' (first | assumption | intro _ | apply State.takePlot_same | apply State.setPlot_same | apply State.showQue_same | apply State.freePlot_same | apply State.setQue_same | apply ite_same | apply foldl_same | apply ite_same2 | apply foldl_same2 | split | refine pairSame2 (by assumption) ?_ | dsimp only)
theorem State.pageAll_same {z : Bool} {s u : State} (h : Same z s u) : Same z s (State.pageAll u) := by
  unfold State.pageAll
  with_reducible repeat' (first | assumption | intro _ | apply State.pageFar_same | apply ite_same | apply foldl_same | split | dsimp only)
theorem execCoreFail_same {z : Bool} {s u : State} (h : Same z s u) (k0 : Nat) (dog : Bool) (run : Option Nat) : OutSame z s (execCoreFail k0 dog run u) := by
  unfold execCoreFail
  with_reducible repeat' (first | assumption | intro _ | apply State.put_same | apply State.raise_same | apply State.finishCmd_same | apply State.spareExhausted_same | apply State.coreSubstitute_same | apply ite_same | apply foldl_same | apply outSame_next | apply ite_outSame | split | dsimp only | apply same_coreDog)
theorem State.domainOff_same {z : Bool} {s u : State} (h : Same z s u) (d : Nat) : Same z s (State.domainOff u d) := by
  unfold State.domainOff
  with_reducible repeat' (first | assumption | intro _ | apply State.groupAsleep_same | apply State.linkForget_same | apply State.sheetSleep_same | apply State.put_same | apply State.flrState_same | apply State.excOff_same | apply ite_same | apply foldl_same | split | dsimp only | apply same_linkUp | apply same_pulses)
theorem State.domainAsleep_same {z : Bool} {s u : State} (h : Same z s u) (d : Nat) : Same z s (State.domainAsleep u d) := by
  unfold State.domainAsleep
  with_reducible repeat' (first | assumption | intro _ | apply State.arbSleep_same | apply State.put_same | apply State.domainOff_same | apply ite_same | apply foldl_same | split | dsimp only)
theorem State.finishDomain_same {z : Bool} {s u : State} (h : Same z s u) (op : Nat) (d : Nat) (status : Nat) : Same z s (State.finishDomain u op d status) := by
  unfold State.finishDomain
  with_reducible repeat' (first | assumption | intro _ | apply State.finishCmd_same | apply ite_same | apply foldl_same | split | dsimp only)
theorem State.domainOn_same {z : Bool} {s u : State} (h : Same z s u) (d : Nat) : Same z s (State.domainOn u d) := by
  unfold State.domainOn
  with_reducible repeat' (first | assumption | intro _ | apply State.groupWake_same | apply State.sheetWake_same | apply State.put_same | apply State.dxFill_same | apply State.excApply_same | apply ite_same | apply foldl_same | split | dsimp only | apply same_fe)
theorem State.refusedEnd_same {z : Bool} {s u : State} (h : Same z s u) (d : Nat) : Same z s (State.refusedEnd u d) := by
  unfold State.refusedEnd
  with_reducible repeat' (first | assumption | intro _ | apply ite_same | apply foldl_same | split | dsimp only | apply same_spareBook)
theorem State.domainAwake_same {z : Bool} {s u : State} (h : Same z s u) (d : Nat) : Same z s (State.domainAwake u d) := by
  unfold State.domainAwake
  with_reducible repeat' (first | assumption | intro _ | apply State.arbWake_same | apply State.domainOn_same | apply State.put_same | apply State.refusedEnd_same | apply ite_same | apply foldl_same | split | dsimp only)
theorem execWakeComplete_same {z : Bool} {s u : State} (h : Same z s u) (d : Nat) : OutSame z s (execWakeComplete d u) := by
  unfold execWakeComplete
  with_reducible repeat' (first | assumption | intro _ | apply State.finishDomain_same | apply State.raise_same | apply State.domainAwake_same | apply ite_same | apply foldl_same | apply outSame_next | apply ite_outSame | split | dsimp only)
theorem execSlotFail_same {z : Bool} {s u : State} (h : Same z s u) (n : Nat) : OutSame z s (execSlotFail n u) := by
  unfold execSlotFail
  with_reducible repeat' (first | assumption | intro _ | apply State.raise_same | apply State.spareExhausted_same | apply State.slotSubstitute_same | apply ite_same | apply foldl_same | apply outSame_next | apply ite_outSame | split | dsimp only | apply same_failingSlots)
theorem execDrainComplete_same {z : Bool} {s u : State} (h : Same z s u) (d : Nat) : OutSame z s (execDrainComplete d u) := by
  unfold execDrainComplete
  with_reducible repeat' (first | assumption | intro _ | apply State.pageAll_same | apply State.finishDomain_same | apply State.raise_same | apply State.domainAsleep_same | apply ite_same | apply foldl_same | apply outSame_next | apply ite_outSame | split | dsimp only)
theorem State.engFail_same {z : Bool} {s u : State} (h : Same z s u) (p : Nat) : Same z s (State.engFail u p) := by
  unfold State.engFail
  with_reducible repeat' (first | assumption | intro _ | apply State.raise_same | apply State.put_same | apply State.spareExhausted_same | apply State.engSubstitute_same | apply ite_same | apply foldl_same | split | dsimp only)
theorem execEngFail_same {z : Bool} {s u : State} (h : Same z s u) (p : Nat) (corrected : Bool) : OutSame z s (execEngFail p corrected u) := by
  unfold execEngFail
  with_reducible repeat' (first | assumption | intro _ | apply State.engFail_same | apply State.put_same | apply ite_same | apply foldl_same | apply outSame_next | apply ite_outSame | split | dsimp only | apply same_engErrs)
theorem execPwrDown_same {z : Bool} {s u : State} (h : Same z s u) (d : Nat) (w : Wr) : OutSame z s (execPwrDown d w u) := by
  unfold execPwrDown
  with_reducible repeat' (first | assumption | intro _ | apply State.pfOnly_same | apply State.pwrDomWrite_same | apply ite_same | apply foldl_same | apply outSame_next | apply ite_outSame | split | dsimp only)
theorem execWakeTimeout_same {z : Bool} {s u : State} (h : Same z s u) (d : Nat) : OutSame z s (execWakeTimeout d u) := by
  unfold execWakeTimeout
  with_reducible repeat' (first | assumption | intro _ | apply State.put_same | apply State.finishDomain_same | apply State.raise_same | apply ite_same | apply foldl_same | apply outSame_next | apply ite_outSame | split | dsimp only)
theorem execPwrUp_same {z : Bool} {s u : State} (h : Same z s u) (d : Nat) (w : Wr) : OutSame z s (execPwrUp d w u) := by
  unfold execPwrUp
  with_reducible repeat' (first | assumption | intro _ | apply State.pfOnly_same | apply State.pwrDomWrite_same | apply ite_same | apply foldl_same | apply outSame_next | apply ite_outSame | split | dsimp only)
theorem execDrainTimeout_same {z : Bool} {s u : State} (h : Same z s u) (d : Nat) : OutSame z s (execDrainTimeout d u) := by
  unfold execDrainTimeout
  with_reducible repeat' (first | assumption | intro _ | apply State.put_same | apply State.finishDomain_same | apply State.raise_same | apply State.refusedEnd_same | apply ite_same | apply foldl_same | apply outSame_next | apply ite_outSame | split | dsimp only)
theorem execRefclkBack_same {z : Bool} {s u : State} (h : Same z s u) : OutSame z s (execRefclkBack u) := by
  unfold execRefclkBack
  with_reducible repeat' (first | assumption | intro _ | apply State.raise_same | apply State.put_same | apply ite_same | apply foldl_same | apply outSame_next | apply ite_outSame | split | dsimp only)
theorem execFwWatchdog_same {z : Bool} {s u : State} (h : Same z s u) : OutSame z s (execFwWatchdog u) := by
  unfold execFwWatchdog
  with_reducible repeat' (first | assumption | intro _ | apply State.raise_same | apply State.fwRun_same | apply State.fwNone_same | apply ite_same | apply foldl_same | apply outSame_next | apply ite_outSame | split | dsimp only | apply same_start)
theorem State.dieFail_same {z : Bool} {s u : State} (h : Same z s u) (d : Nat) : Same z s (State.dieFail u d) := by
  unfold State.dieFail
  with_reducible repeat' (first | assumption | intro _ | apply State.raise_same | apply State.put_same | apply ite_same | apply foldl_same | split | dsimp only)
theorem State.unlockCount_same {z : Bool} {s u : State} (h : Same z s u) : Same z s (State.unlockCount u) := by
  unfold State.unlockCount
  with_reducible repeat' (first | assumption | intro _ | apply State.bumpSat_same | apply ite_same | apply foldl_same | split | dsimp only)
theorem execClkPllRelock_same {z : Bool} {s u : State} (h : Same z s u) (which : Nat) : OutSame z s (execClkPllRelock which u) := by
  unfold execClkPllRelock
  with_reducible repeat' (first | assumption | intro _ | apply State.raise_same | apply State.unlockCount_same | apply State.put_same | apply ite_same | apply foldl_same | apply outSame_next | apply ite_outSame | split | dsimp only)
theorem State.jobTorn_same {s u : State} (h : Same false s u) (j : NvmJob) : Same false s (State.jobTorn u j) := by
  unfold State.jobTorn
  with_reducible repeat' (first | assumption | intro _ | apply State.setTrimCopy_same | apply ite_same | apply foldl_same | split | dsimp only | apply same_linCopies)
theorem State.logTorn_same {s u : State} (h : Same false s u) : Same false s (State.logTorn u) := by
  unfold State.logTorn
  with_reducible repeat' (first | assumption | intro _ | rfl | exact reanchor_fc _ | exact reanchor_locked _ | contradiction | apply ite_same | apply foldl_same | split | dsimp only | apply same_log)
theorem State.heldReset_same {z : Bool} {s u : State} (h : Same z s u) : Same z s (State.heldReset u) := by
  unfold State.heldReset
  with_reducible repeat' (first | assumption | intro _ | apply State.warmReset_same | apply ite_same | apply foldl_same | split | dsimp only | apply same_start)
theorem execStartDone_same {z : Bool} {s u : State} (h : Same z s u) (cd : Nat) (ld : Nat) : OutSame z s (execStartDone cd ld u) := by
  unfold execStartDone
  apply ite_outSame (outSame_next h)
  have k1 : Same z s ((List.range u.part.part.dies).foldl (fun (s : State) d =>
      if bit cd d then s.dieFail d else s.put (CNV_DIE_STAT_LINK_UP d) 1) u) :=
    foldl_same h (fun _ _ k => ite_same (State.dieFail_same k _) (State.put_same k _ _))
  have k2 := foldl_same (l := List.range 4) (F := fun (s : State) d => if bit ld d then s.dieFail (8 + d) else s) k1
    (fun _ _ k => ite_same (State.dieFail_same k _) k)
  exact outSame_next (State.heldReset_same (State.raise_same (State.put_same k2 _ _) _ _ _ _ _ _ _))
theorem execRefclkGate_same {z : Bool} {s u : State} (h : Same z s u) (dev : Int) : OutSame z s (execRefclkGate dev u) := by
  unfold execRefclkGate
  with_reducible repeat' (first | assumption | intro _ | apply State.wn_same | apply State.put_same | apply State.raise_same | apply ite_same | apply foldl_same | apply outSame_next | apply ite_outSame | split | dsimp only)
theorem execStackTrainingDone_same {z : Bool} {s u : State} (h : Same z s u) (failed : Nat) : OutSame z s (execStackTrainingDone failed u) := by
  unfold execStackTrainingDone
  with_reducible repeat' (first | assumption | intro _ | apply State.raise_same | apply State.domainAsleep_same | apply State.put_same | apply ite_same | apply foldl_same | apply outSame_next | apply ite_outSame | split | dsimp only | apply same_start)
theorem execClkPllUnlock_same {z : Bool} {s u : State} (h : Same z s u) (which : Nat) : OutSame z s (execClkPllUnlock which u) := by
  unfold execClkPllUnlock
  with_reducible repeat' (first | assumption | intro _ | apply State.put_same | apply ite_same | apply foldl_same | apply outSame_next | apply ite_outSame | split | dsimp only)
theorem execFwRestartRequest_same {z : Bool} {s u : State} (h : Same z s u) (w : Wr) : OutSame z s (execFwRestartRequest w u) := by
  unfold execFwRestartRequest
  with_reducible repeat' (first | assumption | intro _ | apply State.pfOnly_same | apply State.rstCtlWrite_same | apply ite_same | apply foldl_same | apply outSame_next | apply ite_outSame | split | dsimp only)
theorem execWarmResetDone_same {z : Bool} {s u : State} (h : Same z s u) : OutSame z s (execWarmResetDone u) := by
  unfold execWarmResetDone
  with_reducible repeat' (first | assumption | intro _ | apply State.raise_same | apply State.put_same | apply ite_same | apply foldl_same | apply outSame_next | apply ite_outSame | split | dsimp only)
theorem execFwRunning_same {z : Bool} {s u : State} (h : Same z s u) : OutSame z s (execFwRunning u) := by
  unfold execFwRunning
  with_reducible repeat' (first | assumption | intro _ | apply State.put_same | apply ite_same | apply foldl_same | apply outSame_next | apply ite_outSame | split | dsimp only)
theorem execAonMonitorRelease_same {z : Bool} {s u : State} (h : Same z s u) : OutSame z s (execAonMonitorRelease u) := by
  unfold execAonMonitorRelease
  with_reducible repeat' (first | assumption | intro _ | apply ite_same | apply foldl_same | apply outSame_next | apply ite_outSame | split | dsimp only | apply same_start)
theorem execWarmRegRequest_same {z : Bool} {s u : State} (h : Same z s u) (w : Wr) : OutSame z s (execWarmRegRequest w u) := by
  unfold execWarmRegRequest
  with_reducible repeat' (first | assumption | intro _ | apply State.pfOnly_same | apply State.rstCtlWrite_same | apply ite_same | apply foldl_same | apply outSame_next | apply ite_outSame | split | dsimp only)
theorem execImageVerify_same {z : Bool} {s u : State} (h : Same z s u) (w : Wr) : OutSame z s (execImageVerify w u) := by
  unfold execImageVerify
  with_reducible repeat' (first | assumption | intro _ | apply State.pfOnly_same | apply State.imgCtlWrite_same | apply ite_same | apply foldl_same | apply outSame_next | apply ite_outSame | split | dsimp only)
theorem execPcieRefclkLost_same {z : Bool} {s u : State} (h : Same z s u) : OutSame z s (execPcieRefclkLost u) := by
  unfold execPcieRefclkLost
  with_reducible repeat' (first | assumption | intro _ | apply State.raise_same | apply State.unlockCount_same | apply State.put_same | apply ite_same | apply foldl_same | apply outSame_next | apply ite_outSame | split | dsimp only)
theorem execFwStarted_same {z : Bool} {s u : State} (h : Same z s u) : OutSame z s (execFwStarted u) := by
  unfold execFwStarted
  with_reducible repeat' (first | assumption | intro _ | apply State.raise_same | apply ite_same | apply foldl_same | apply outSame_next | apply ite_outSame | split | dsimp only | apply same_start)
theorem State.groupUnlock_same {z : Bool} {s u : State} (h : Same z s u) (g : Nat) : Same z s (State.groupUnlock u g) := by
  unfold State.groupUnlock
  with_reducible repeat' (first | assumption | intro _ | apply State.samplesStop_same | apply State.put_same | apply State.raise_same | apply ite_same | apply foldl_same | split | dsimp only)
theorem execRefclkLost_same {z : Bool} {s u : State} (h : Same z s u) : OutSame z s (execRefclkLost u) := by
  unfold execRefclkLost
  with_reducible repeat' (first | assumption | intro _ | apply State.unlockCount_same | apply State.wn_same | apply State.put_same | apply State.groupUnlock_same | apply State.raise_same | apply ite_same | apply foldl_same | apply outSame_next | apply ite_outSame | split | dsimp only)
theorem execWarmNRequest_same {z : Bool} {s u : State} (h : Same z s u) : OutSame z s (execWarmNRequest u) := by
  unfold execWarmNRequest
  with_reducible repeat' (first | assumption | intro _ | apply State.warmRequest_same | apply ite_same | apply foldl_same | apply outSame_next | apply ite_outSame | split | dsimp only)
theorem execSupplyFault_same {z : Bool} {s u : State} (h : Same z s u) : OutSame z s (execSupplyFault u) := by
  unfold execSupplyFault
  with_reducible repeat' (first | assumption | intro _ | apply State.raise_same | apply State.put_same | apply ite_same | apply foldl_same | apply outSame_next | apply ite_outSame | split | dsimp only)
theorem State.rateSay_same {z : Bool} {s u : State} (h : Same z s u) (b : Nat) : Same z s (State.rateSay u b) := by
  unfold State.rateSay
  with_reducible repeat' (first | assumption | intro _ | apply State.raise_same | apply State.put_same | apply ite_same | apply foldl_same | split | dsimp only | apply same_rates)
theorem State.dropPacket_same {z : Bool} {s u : State} (h : Same z s u) (p : Packet) : Same z s (State.dropPacket u p) := by
  unfold State.dropPacket
  with_reducible repeat' (first | assumption | intro _ | apply State.bumpSat_same | apply ite_same | apply foldl_same | split | dsimp only)
theorem State.holdPacket_same {z : Bool} {s u : State} (h : Same z s u) (op : Nat) (p : Packet) : Same z s (State.holdPacket u op p) := by
  unfold State.holdPacket
  with_reducible repeat' (first | assumption | intro _ | apply State.setCring_same | apply State.rateSay_same | apply State.ringStage_same | apply State.ringPause_same | apply ite_same | apply foldl_same | apply ite_same2 | apply foldl_same2 | split | refine pairSame2 (by assumption) ?_ | dsimp only | apply same_fenced)
theorem State.engineFeed_same {z : Bool} {s u : State} (h : Same z s u) (op : Nat) (p : Packet) (take : State → State) (k : ∀ v, Same z s v → Same z s (take v)) : Same z s (State.engineFeed u op p take) := by
  unfold State.engineFeed
  with_reducible repeat' (first | assumption | intro _ | apply k | apply State.dropPacket_same | apply State.holdPacket_same | apply State.rateSay_same | apply State.bumpSat_same | apply ite_same | apply foldl_same | split | dsimp only)
theorem State.announce_same {z : Bool} {s u : State} (h : Same z s u) (p : Packet) : Same z s (State.announce u p) := by
  unfold State.announce
  with_reducible repeat' (first | assumption | intro _ | apply State.setCring_same | apply ite_same | apply foldl_same | split | dsimp only)
theorem State.enginePacket_same {z : Bool} {s u : State} (h : Same z s u) (op : Nat) (stg : Bool) (h0 : Packet → State → CmdOut × State) (p : Packet) (k : ∀ x0 v, Same z s v → Same z s (h0 x0 v).2) : Same z s (State.enginePacket u op stg h0 p) := by
  unfold State.enginePacket
  with_reducible repeat' (first | assumption | intro _ | apply k | apply State.engineFeed_same | apply State.announce_same | apply State.takePacket_same | apply ite_same | apply foldl_same | apply ite_same2 | apply foldl_same2 | split | dsimp only)
theorem State.pairHold_same {z : Bool} {s u : State} (h : Same z s u) (key : Nat) (w : Wr) : Same z s (State.pairHold u key w) := by
  unfold State.pairHold
  with_reducible repeat' (first | assumption | intro _ | apply State.setFunc_same | apply ite_same | apply foldl_same | split | dsimp only)
theorem State.pairBoth_same {z : Bool} {s u : State} (h : Same z s u) (key : Nat) (v : Word) (w : Wr) : Same z s (State.pairBoth u key v w) := by
  unfold State.pairBoth
  with_reducible repeat' (first | assumption | intro _ | apply State.setFunc_same | apply State.pairHalf_same | apply ite_same | apply foldl_same | split | dsimp only)
theorem State.barStore_same {z : Bool} {s u : State} (h : Same z s u) (o : Nat) (w : Wr) : Same z s (State.barStore u o w) := by
  unfold State.barStore
  with_reducible repeat' (first | assumption | intro _ | apply State.pairBoth_same | apply State.reservedHit_same | apply State.flushHeld_same | apply State.pairHold_same | apply State.regStore_same | apply ite_same | apply foldl_same | split | dsimp only)

end Sys2Proof.Machine
end

