-- ==== Sys2Proof/Laws/Frame6.lean ====
section
/-! SUPPORT. One lemma per operation: what it leaves as it is (part 6 of 6, in the order of dependence). -/
set_option maxRecDepth 10000
namespace Sys2Proof.Machine

theorem execPairLoWrite_same {z : Bool} {s u : State} (h : Same z s u) (off : Nat) (w : Wr) : OutSame z s (execPairLoWrite off w u) := by
  unfold execPairLoWrite
  with_reducible repeat' (first | assumption | intro _ | apply State.barStore_same | apply ite_same | apply foldl_same | apply outSame_next | apply ite_outSame | split | dsimp only)
theorem execPairHiWrite_same {z : Bool} {s u : State} (h : Same z s u) (off : Nat) (w : Wr) : OutSame z s (execPairHiWrite off w u) := by
  unfold execPairHiWrite
  with_reducible repeat' (first | assumption | intro _ | apply State.barStore_same | apply ite_same | apply foldl_same | apply outSame_next | apply ite_outSame | split | dsimp only)
theorem execPairLoRead_same {z : Bool} {s u : State} (h : Same z s u) (fn : Nat) (off : Nat) : OutSame z s (execPairLoRead fn off u) := by
  unfold execPairLoRead
  with_reducible repeat' (first | assumption | intro _ | apply State.flushHeld_same | apply State.emit_same | apply State.peek_same | apply State.setFunc_same | apply State.readReserved_same | apply ite_same | apply foldl_same | apply ite_same2 | apply foldl_same2 | apply outSame_next | apply ite_outSame | split | refine pairSame2 (by assumption) ?_ | dsimp only)
theorem State.tabWrite_same {z : Bool} {s u : State} (h : Same z s u) (fn : Nat) (data : List (Nat × Byte)) : Same z s (State.tabWrite u fn data) := by
  unfold State.tabWrite
  with_reducible repeat' (first | assumption | intro _ | apply State.reservedHit_same | apply State.raise_same | apply State.hitPut_same | apply ite_same | apply foldl_same | split | dsimp only)
theorem execTableApertureWrite_same {z : Bool} {s u : State} (h : Same z s u) (fn : Nat) (data : List (Nat × Byte)) : OutSame z s (execTableApertureWrite fn data u) := by
  unfold execTableApertureWrite
  with_reducible repeat' (first | assumption | intro _ | apply State.flushHeld_same | apply State.tabWrite_same | apply State.reservedHit_same | apply ite_same | apply foldl_same | apply outSame_next | apply ite_outSame | split | dsimp only)
theorem execCnvTrack_same {z : Bool} {s u : State} (h : Same z s u) (p : Packet) : OutSame z s (execCnvTrack p u) := by
  unfold execCnvTrack
  with_reducible repeat' (first | assumption | intro _ | apply State.enginePacket_same | apply opCnvTrack_same | apply ite_same | apply foldl_same | apply ite_same2 | apply foldl_same2 | apply outSame_next | apply ite_outSame | split | refine pairSame2 (by assumption) ?_ | dsimp only)
theorem execCnvGroup_same {z : Bool} {s u : State} (h : Same z s u) (p : Packet) : OutSame z s (execCnvGroup p u) := by
  unfold execCnvGroup
  with_reducible repeat' (first | assumption | intro _ | apply State.enginePacket_same | apply opCnvGroup_same | apply ite_same | apply foldl_same | apply ite_same2 | apply foldl_same2 | apply outSame_next | apply ite_outSame | split | refine pairSame2 (by assumption) ?_ | dsimp only)
theorem execCnvInputEn_same {z : Bool} {s u : State} (h : Same z s u) (p : Packet) : OutSame z s (execCnvInputEn p u) := by
  unfold execCnvInputEn
  with_reducible repeat' (first | assumption | intro _ | apply State.enginePacket_same | apply opCnvInputEn_same | apply ite_same | apply foldl_same | apply ite_same2 | apply foldl_same2 | apply outSame_next | apply ite_outSame | split | refine pairSame2 (by assumption) ?_ | dsimp only)
theorem execCfgHubId_same {z : Bool} {s u : State} (h : Same z s u) (p : Packet) : OutSame z s (execCfgHubId p u) := by
  unfold execCfgHubId
  with_reducible repeat' (first | assumption | intro _ | apply State.enginePacket_same | apply opCfgHubId_same | apply ite_same | apply foldl_same | apply ite_same2 | apply foldl_same2 | apply outSame_next | apply ite_outSame | split | refine pairSame2 (by assumption) ?_ | dsimp only)
theorem execCfgTableRead_same {z : Bool} {s u : State} (h : Same z s u) (p : Packet) : OutSame z s (execCfgTableRead p u) := by
  unfold execCfgTableRead
  with_reducible repeat' (first | assumption | intro _ | apply State.enginePacket_same | apply opCfgTableRead_same | apply ite_same | apply foldl_same | apply ite_same2 | apply foldl_same2 | apply outSame_next | apply ite_outSame | split | refine pairSame2 (by assumption) ?_ | dsimp only)
theorem execCfgKeyLoad_same {z : Bool} {s u : State} (h : Same z s u) (p : Packet) : OutSame z s (execCfgKeyLoad p u) := by
  unfold execCfgKeyLoad
  with_reducible repeat' (first | assumption | intro _ | apply State.enginePacket_same | apply opCfgKeyLoad_same | apply ite_same | apply foldl_same | apply ite_same2 | apply foldl_same2 | apply outSame_next | apply ite_outSame | split | refine pairSame2 (by assumption) ?_ | dsimp only)
theorem execCfgTableWrite_same {z : Bool} {s u : State} (h : Same z s u) (p : Packet) : OutSame z s (execCfgTableWrite p u) := by
  unfold execCfgTableWrite
  with_reducible repeat' (first | assumption | intro _ | apply State.enginePacket_same | apply opCfgTableWrite_same | apply ite_same | apply foldl_same | apply ite_same2 | apply foldl_same2 | apply outSame_next | apply ite_outSame | split | refine pairSame2 (by assumption) ?_ | dsimp only)
theorem execBrgRevoke_same {z : Bool} {s u : State} (h : Same z s u) (p : Packet) : OutSame z s (execBrgRevoke p u) := by
  unfold execBrgRevoke
  with_reducible repeat' (first | assumption | intro _ | apply State.enginePacket_same | apply opBrgRevoke_same | apply ite_same | apply foldl_same | apply ite_same2 | apply foldl_same2 | apply outSame_next | apply ite_outSame | split | refine pairSame2 (by assumption) ?_ | dsimp only)
theorem execCfgRegWrite_same {z : Bool} {s u : State} (h : Same z s u) (p : Packet) : OutSame z s (execCfgRegWrite p u) := by
  unfold execCfgRegWrite
  with_reducible repeat' (first | assumption | intro _ | apply State.enginePacket_same | apply opCfgRegWrite_same | apply ite_same | apply foldl_same | apply ite_same2 | apply foldl_same2 | apply outSame_next | apply ite_outSame | split | refine pairSame2 (by assumption) ?_ | dsimp only)
theorem execCfgIdent_same {z : Bool} {s u : State} (h : Same z s u) (p : Packet) : OutSame z s (execCfgIdent p u) := by
  unfold execCfgIdent
  with_reducible repeat' (first | assumption | intro _ | apply State.enginePacket_same | apply opCfgIdent_same | apply ite_same | apply foldl_same | apply ite_same2 | apply foldl_same2 | apply outSame_next | apply ite_outSame | split | refine pairSame2 (by assumption) ?_ | dsimp only)
theorem execBrgStatus_same {z : Bool} {s u : State} (h : Same z s u) (p : Packet) : OutSame z s (execBrgStatus p u) := by
  unfold execBrgStatus
  with_reducible repeat' (first | assumption | intro _ | apply State.enginePacket_same | apply opBrgStatus_same | apply ite_same | apply foldl_same | apply ite_same2 | apply foldl_same2 | apply outSame_next | apply ite_outSame | split | refine pairSame2 (by assumption) ?_ | dsimp only)
theorem execBrgGrant_same {z : Bool} {s u : State} (h : Same z s u) (p : Packet) : OutSame z s (execBrgGrant p u) := by
  unfold execBrgGrant
  with_reducible repeat' (first | assumption | intro _ | apply State.enginePacket_same | apply opBrgGrant_same | apply ite_same | apply foldl_same | apply ite_same2 | apply foldl_same2 | apply outSame_next | apply ite_outSame | split | refine pairSame2 (by assumption) ?_ | dsimp only)
theorem execCfgKeyClear_same {z : Bool} {s u : State} (h : Same z s u) (p : Packet) : OutSame z s (execCfgKeyClear p u) := by
  unfold execCfgKeyClear
  with_reducible repeat' (first | assumption | intro _ | apply State.enginePacket_same | apply opCfgKeyClear_same | apply ite_same | apply foldl_same | apply ite_same2 | apply foldl_same2 | apply outSame_next | apply ite_outSame | split | refine pairSame2 (by assumption) ?_ | dsimp only)
theorem execBrgQuota_same {z : Bool} {s u : State} (h : Same z s u) (p : Packet) : OutSame z s (execBrgQuota p u) := by
  unfold execBrgQuota
  with_reducible repeat' (first | assumption | intro _ | apply State.enginePacket_same | apply opBrgQuota_same | apply ite_same | apply foldl_same | apply ite_same2 | apply foldl_same2 | apply outSame_next | apply ite_outSame | split | refine pairSame2 (by assumption) ?_ | dsimp only)
theorem execCfgUdp_same {z : Bool} {s u : State} (h : Same z s u) (p : Packet) : OutSame z s (execCfgUdp p u) := by
  unfold execCfgUdp
  with_reducible repeat' (first | assumption | intro _ | apply State.enginePacket_same | apply opCfgUdp_same | apply ite_same | apply foldl_same | apply ite_same2 | apply foldl_same2 | apply outSame_next | apply ite_outSame | split | refine pairSame2 (by assumption) ?_ | dsimp only)
theorem execCnvStatus_same {z : Bool} {s u : State} (h : Same z s u) (p : Packet) : OutSame z s (execCnvStatus p u) := by
  unfold execCnvStatus
  with_reducible repeat' (first | assumption | intro _ | apply State.enginePacket_same | apply opCnvStatus_same | apply ite_same | apply foldl_same | apply ite_same2 | apply foldl_same2 | apply outSame_next | apply ite_outSame | split | refine pairSame2 (by assumption) ?_ | dsimp only)
theorem execBrgReset_same {z : Bool} {s u : State} (h : Same z s u) (p : Packet) : OutSame z s (execBrgReset p u) := by
  unfold execBrgReset
  with_reducible repeat' (first | assumption | intro _ | apply State.enginePacket_same | apply opBrgReset_same | apply ite_same | apply foldl_same | apply ite_same2 | apply foldl_same2 | apply outSame_next | apply ite_outSame | split | refine pairSame2 (by assumption) ?_ | dsimp only)
theorem execBrgBeams_same {z : Bool} {s u : State} (h : Same z s u) (p : Packet) : OutSame z s (execBrgBeams p u) := by
  unfold execBrgBeams
  with_reducible repeat' (first | assumption | intro _ | apply State.enginePacket_same | apply opBrgBeams_same | apply ite_same | apply foldl_same | apply ite_same2 | apply foldl_same2 | apply outSame_next | apply ite_outSame | split | refine pairSame2 (by assumption) ?_ | dsimp only)
theorem execCfgRegRead_same {z : Bool} {s u : State} (h : Same z s u) (p : Packet) : OutSame z s (execCfgRegRead p u) := by
  unfold execCfgRegRead
  with_reducible repeat' (first | assumption | intro _ | apply State.enginePacket_same | apply opCfgRegRead_same | apply ite_same | apply foldl_same | apply ite_same2 | apply foldl_same2 | apply outSame_next | apply ite_outSame | split | refine pairSame2 (by assumption) ?_ | dsimp only)
theorem execCfgKeyOwn_same {z : Bool} {s u : State} (h : Same z s u) (p : Packet) : OutSame z s (execCfgKeyOwn p u) := by
  unfold execCfgKeyOwn
  with_reducible repeat' (first | assumption | intro _ | apply State.enginePacket_same | apply opCfgKeyOwn_same | apply ite_same | apply foldl_same | apply ite_same2 | apply foldl_same2 | apply outSame_next | apply ite_outSame | split | refine pairSame2 (by assumption) ?_ | dsimp only)
theorem execPipeDelay_same {z : Bool} {s u : State} (h : Same z s u) (p : Packet) : OutSame z s (execPipeDelay p u) := by
  unfold execPipeDelay
  with_reducible repeat' (first | assumption | intro _ | apply State.enginePacket_same | apply opPipeDelay_same | apply ite_same | apply foldl_same | apply ite_same2 | apply foldl_same2 | apply outSame_next | apply ite_outSame | split | refine pairSame2 (by assumption) ?_ | dsimp only)
theorem execPipeBind_same {z : Bool} {s u : State} (h : Same z s u) (p : Packet) : OutSame z s (execPipeBind p u) := by
  unfold execPipeBind
  with_reducible repeat' (first | assumption | intro _ | apply State.enginePacket_same | apply opPipeBind_same | apply ite_same | apply foldl_same | apply ite_same2 | apply foldl_same2 | apply outSame_next | apply ite_outSame | split | refine pairSame2 (by assumption) ?_ | dsimp only)
theorem execPipeReduce_same {z : Bool} {s u : State} (h : Same z s u) (p : Packet) : OutSame z s (execPipeReduce p u) := by
  unfold execPipeReduce
  with_reducible repeat' (first | assumption | intro _ | apply State.enginePacket_same | apply opPipeReduce_same | apply ite_same | apply foldl_same | apply ite_same2 | apply foldl_same2 | apply outSame_next | apply ite_outSame | split | refine pairSame2 (by assumption) ?_ | dsimp only)
theorem execPipeSource_same {z : Bool} {s u : State} (h : Same z s u) (p : Packet) : OutSame z s (execPipeSource p u) := by
  unfold execPipeSource
  with_reducible repeat' (first | assumption | intro _ | apply State.enginePacket_same | apply opPipeSource_same | apply ite_same | apply foldl_same | apply ite_same2 | apply foldl_same2 | apply outSame_next | apply ite_outSame | split | refine pairSame2 (by assumption) ?_ | dsimp only)
theorem execPipeMix_same {z : Bool} {s u : State} (h : Same z s u) (p : Packet) : OutSame z s (execPipeMix p u) := by
  unfold execPipeMix
  with_reducible repeat' (first | assumption | intro _ | apply State.enginePacket_same | apply opPipeMix_same | apply ite_same | apply foldl_same | apply ite_same2 | apply foldl_same2 | apply outSame_next | apply ite_outSame | split | refine pairSame2 (by assumption) ?_ | dsimp only)
theorem execPipeStatus_same {z : Bool} {s u : State} (h : Same z s u) (p : Packet) : OutSame z s (execPipeStatus p u) := by
  unfold execPipeStatus
  with_reducible repeat' (first | assumption | intro _ | apply State.enginePacket_same | apply opPipeStatus_same | apply ite_same | apply foldl_same | apply ite_same2 | apply foldl_same2 | apply outSame_next | apply ite_outSame | split | refine pairSame2 (by assumption) ?_ | dsimp only)
theorem execPipeUnbind_same {z : Bool} {s u : State} (h : Same z s u) (p : Packet) : OutSame z s (execPipeUnbind p u) := by
  unfold execPipeUnbind
  with_reducible repeat' (first | assumption | intro _ | apply State.enginePacket_same | apply opPipeUnbind_same | apply ite_same | apply foldl_same | apply ite_same2 | apply foldl_same2 | apply outSame_next | apply ite_outSame | split | refine pairSame2 (by assumption) ?_ | dsimp only)
theorem execPipeRaw_same {z : Bool} {s u : State} (h : Same z s u) (p : Packet) : OutSame z s (execPipeRaw p u) := by
  unfold execPipeRaw
  with_reducible repeat' (first | assumption | intro _ | apply State.enginePacket_same | apply opPipeRaw_same | apply ite_same | apply foldl_same | apply ite_same2 | apply foldl_same2 | apply outSame_next | apply ite_outSame | split | refine pairSame2 (by assumption) ?_ | dsimp only)
theorem execPipeDistrict_same {z : Bool} {s u : State} (h : Same z s u) (p : Packet) : OutSame z s (execPipeDistrict p u) := by
  unfold execPipeDistrict
  with_reducible repeat' (first | assumption | intro _ | apply State.enginePacket_same | apply opPipeDistrict_same | apply ite_same | apply foldl_same | apply ite_same2 | apply foldl_same2 | apply outSame_next | apply ite_outSame | split | refine pairSame2 (by assumption) ?_ | dsimp only)
theorem execPipeIntake_same {z : Bool} {s u : State} (h : Same z s u) (p : Packet) : OutSame z s (execPipeIntake p u) := by
  unfold execPipeIntake
  with_reducible repeat' (first | assumption | intro _ | apply State.enginePacket_same | apply opPipeIntake_same | apply ite_same | apply foldl_same | apply ite_same2 | apply foldl_same2 | apply outSame_next | apply ite_outSame | split | refine pairSame2 (by assumption) ?_ | dsimp only)
theorem execPipeChannel_same {z : Bool} {s u : State} (h : Same z s u) (p : Packet) : OutSame z s (execPipeChannel p u) := by
  unfold execPipeChannel
  with_reducible repeat' (first | assumption | intro _ | apply State.enginePacket_same | apply opPipeChannel_same | apply ite_same | apply foldl_same | apply ite_same2 | apply foldl_same2 | apply outSame_next | apply ite_outSame | split | refine pairSame2 (by assumption) ?_ | dsimp only)
theorem execPipeResample_same {z : Bool} {s u : State} (h : Same z s u) (p : Packet) : OutSame z s (execPipeResample p u) := by
  unfold execPipeResample
  with_reducible repeat' (first | assumption | intro _ | apply State.enginePacket_same | apply opPipeResample_same | apply ite_same | apply foldl_same | apply ite_same2 | apply foldl_same2 | apply outSame_next | apply ite_outSame | split | refine pairSame2 (by assumption) ?_ | dsimp only)
theorem execPipeCommit_same {z : Bool} {s u : State} (h : Same z s u) (p : Packet) : OutSame z s (execPipeCommit p u) := by
  unfold execPipeCommit
  with_reducible repeat' (first | assumption | intro _ | apply State.enginePacket_same | apply opPipeCommit_same | apply ite_same | apply foldl_same | apply ite_same2 | apply foldl_same2 | apply outSame_next | apply ite_outSame | split | refine pairSame2 (by assumption) ?_ | dsimp only)
theorem execPipeRoute_same {z : Bool} {s u : State} (h : Same z s u) (p : Packet) : OutSame z s (execPipeRoute p u) := by
  unfold execPipeRoute
  with_reducible repeat' (first | assumption | intro _ | apply State.enginePacket_same | apply opPipeRoute_same | apply ite_same | apply foldl_same | apply ite_same2 | apply foldl_same2 | apply outSame_next | apply ite_outSame | split | refine pairSame2 (by assumption) ?_ | dsimp only)
theorem execPipeFpd_same {z : Bool} {s u : State} (h : Same z s u) (p : Packet) : OutSame z s (execPipeFpd p u) := by
  unfold execPipeFpd
  with_reducible repeat' (first | assumption | intro _ | apply State.enginePacket_same | apply opPipeFpd_same | apply ite_same | apply foldl_same | apply ite_same2 | apply foldl_same2 | apply outSame_next | apply ite_outSame | split | refine pairSame2 (by assumption) ?_ | dsimp only)
theorem execPipeDecimate_same {z : Bool} {s u : State} (h : Same z s u) (p : Packet) : OutSame z s (execPipeDecimate p u) := by
  unfold execPipeDecimate
  with_reducible repeat' (first | assumption | intro _ | apply State.enginePacket_same | apply opPipeDecimate_same | apply ite_same | apply foldl_same | apply ite_same2 | apply foldl_same2 | apply outSame_next | apply ite_outSame | split | refine pairSame2 (by assumption) ?_ | dsimp only)
theorem execGridClear_same {z : Bool} {s u : State} (h : Same z s u) (p : Packet) : OutSame z s (execGridClear p u) := by
  unfold execGridClear
  with_reducible repeat' (first | assumption | intro _ | apply State.enginePacket_same | apply opGridClear_same | apply ite_same | apply foldl_same | apply ite_same2 | apply foldl_same2 | apply outSame_next | apply ite_outSame | split | refine pairSame2 (by assumption) ?_ | dsimp only)
theorem execGridRead_same {z : Bool} {s u : State} (h : Same z s u) (p : Packet) : OutSame z s (execGridRead p u) := by
  unfold execGridRead
  with_reducible repeat' (first | assumption | intro _ | apply State.enginePacket_same | apply opGridRead_same | apply ite_same | apply foldl_same | apply ite_same2 | apply foldl_same2 | apply outSame_next | apply ite_outSame | split | refine pairSame2 (by assumption) ?_ | dsimp only)
theorem execBeamSet_same {z : Bool} {s u : State} (h : Same z s u) (p : Packet) : OutSame z s (execBeamSet p u) := by
  unfold execBeamSet
  with_reducible repeat' (first | assumption | intro _ | apply State.enginePacket_same | apply opBeamSet_same | apply ite_same | apply foldl_same | apply ite_same2 | apply foldl_same2 | apply outSame_next | apply ite_outSame | split | refine pairSame2 (by assumption) ?_ | dsimp only)
theorem execBeamWeights_same {z : Bool} {s u : State} (h : Same z s u) (p : Packet) : OutSame z s (execBeamWeights p u) := by
  unfold execBeamWeights
  with_reducible repeat' (first | assumption | intro _ | apply State.enginePacket_same | apply opBeamWeights_same | apply ite_same | apply foldl_same | apply ite_same2 | apply foldl_same2 | apply outSame_next | apply ite_outSame | split | refine pairSame2 (by assumption) ?_ | dsimp only)
theorem execBeamIset_same {z : Bool} {s u : State} (h : Same z s u) (p : Packet) : OutSame z s (execBeamIset p u) := by
  unfold execBeamIset
  with_reducible repeat' (first | assumption | intro _ | apply State.enginePacket_same | apply opBeamIset_same | apply ite_same | apply foldl_same | apply ite_same2 | apply foldl_same2 | apply outSame_next | apply ite_outSame | split | refine pairSame2 (by assumption) ?_ | dsimp only)
theorem execGridIndex_same {z : Bool} {s u : State} (h : Same z s u) (p : Packet) : OutSame z s (execGridIndex p u) := by
  unfold execGridIndex
  with_reducible repeat' (first | assumption | intro _ | apply State.enginePacket_same | apply opGridIndex_same | apply ite_same | apply foldl_same | apply ite_same2 | apply foldl_same2 | apply outSame_next | apply ite_outSame | split | refine pairSame2 (by assumption) ?_ | dsimp only)
theorem execBeamDisable_same {z : Bool} {s u : State} (h : Same z s u) (p : Packet) : OutSame z s (execBeamDisable p u) := by
  unfold execBeamDisable
  with_reducible repeat' (first | assumption | intro _ | apply State.enginePacket_same | apply opBeamDisable_same | apply ite_same | apply foldl_same | apply ite_same2 | apply foldl_same2 | apply outSame_next | apply ite_outSame | split | refine pairSame2 (by assumption) ?_ | dsimp only)
theorem execBeamLoad_same {z : Bool} {s u : State} (h : Same z s u) (p : Packet) : OutSame z s (execBeamLoad p u) := by
  unfold execBeamLoad
  with_reducible repeat' (first | assumption | intro _ | apply State.enginePacket_same | apply opBeamLoad_same | apply ite_same | apply foldl_same | apply ite_same2 | apply foldl_same2 | apply outSame_next | apply ite_outSame | split | refine pairSame2 (by assumption) ?_ | dsimp only)
theorem execGridDefine_same {z : Bool} {s u : State} (h : Same z s u) (p : Packet) : OutSame z s (execGridDefine p u) := by
  unfold execGridDefine
  with_reducible repeat' (first | assumption | intro _ | apply State.enginePacket_same | apply opGridDefine_same | apply ite_same | apply foldl_same | apply ite_same2 | apply foldl_same2 | apply outSame_next | apply ite_outSame | split | refine pairSame2 (by assumption) ?_ | dsimp only)
theorem execBeamStatus_same {z : Bool} {s u : State} (h : Same z s u) (p : Packet) : OutSame z s (execBeamStatus p u) := by
  unfold execBeamStatus
  with_reducible repeat' (first | assumption | intro _ | apply State.enginePacket_same | apply opBeamStatus_same | apply ite_same | apply foldl_same | apply ite_same2 | apply foldl_same2 | apply outSame_next | apply ite_outSame | split | refine pairSame2 (by assumption) ?_ | dsimp only)
theorem execPlotStatus_same {z : Bool} {s u : State} (h : Same z s u) (p : Packet) : OutSame z s (execPlotStatus p u) := by
  unfold execPlotStatus
  with_reducible repeat' (first | assumption | intro _ | apply State.enginePacket_same | apply opPlotStatus_same | apply ite_same | apply foldl_same | apply ite_same2 | apply foldl_same2 | apply outSame_next | apply ite_outSame | split | refine pairSame2 (by assumption) ?_ | dsimp only)
theorem execQueueEnable_same {z : Bool} {s u : State} (h : Same z s u) (p : Packet) : OutSame z s (execQueueEnable p u) := by
  unfold execQueueEnable
  with_reducible repeat' (first | assumption | intro _ | apply State.enginePacket_same | apply opQueueEnable_same | apply ite_same | apply foldl_same | apply ite_same2 | apply foldl_same2 | apply outSame_next | apply ite_outSame | split | refine pairSame2 (by assumption) ?_ | dsimp only)
theorem execQueueChain_same {z : Bool} {s u : State} (h : Same z s u) (p : Packet) : OutSame z s (execQueueChain p u) := by
  unfold execQueueChain
  with_reducible repeat' (first | assumption | intro _ | apply State.enginePacket_same | apply opQueueChain_same | apply ite_same | apply foldl_same | apply ite_same2 | apply foldl_same2 | apply outSame_next | apply ite_outSame | split | refine pairSame2 (by assumption) ?_ | dsimp only)
theorem execQueueConfig_same {z : Bool} {s u : State} (h : Same z s u) (p : Packet) : OutSame z s (execQueueConfig p u) := by
  unfold execQueueConfig
  with_reducible repeat' (first | assumption | intro _ | apply State.enginePacket_same | apply opQueueConfig_same | apply ite_same | apply foldl_same | apply ite_same2 | apply foldl_same2 | apply outSame_next | apply ite_outSame | split | refine pairSame2 (by assumption) ?_ | dsimp only)
theorem execQueueFlush_same {z : Bool} {s u : State} (h : Same z s u) (p : Packet) : OutSame z s (execQueueFlush p u) := by
  unfold execQueueFlush
  with_reducible repeat' (first | assumption | intro _ | apply State.enginePacket_same | apply opQueueFlush_same | apply ite_same | apply foldl_same | apply ite_same2 | apply foldl_same2 | apply outSame_next | apply ite_outSame | split | refine pairSame2 (by assumption) ?_ | dsimp only)
theorem execPlotCounters_same {z : Bool} {s u : State} (h : Same z s u) (p : Packet) : OutSame z s (execPlotCounters p u) := by
  unfold execPlotCounters
  with_reducible repeat' (first | assumption | intro _ | apply State.enginePacket_same | apply opPlotCounters_same | apply ite_same | apply foldl_same | apply ite_same2 | apply foldl_same2 | apply outSame_next | apply ite_outSame | split | refine pairSame2 (by assumption) ?_ | dsimp only)
theorem execQueueDeliver_same {z : Bool} {s u : State} (h : Same z s u) (p : Packet) : OutSame z s (execQueueDeliver p u) := by
  unfold execQueueDeliver
  with_reducible repeat' (first | assumption | intro _ | apply State.enginePacket_same | apply opQueueDeliver_same | apply ite_same | apply foldl_same | apply ite_same2 | apply foldl_same2 | apply outSame_next | apply ite_outSame | split | refine pairSame2 (by assumption) ?_ | dsimp only)
theorem execPlotLow_same {z : Bool} {s u : State} (h : Same z s u) (p : Packet) : OutSame z s (execPlotLow p u) := by
  unfold execPlotLow
  with_reducible repeat' (first | assumption | intro _ | apply State.enginePacket_same | apply opPlotLow_same | apply ite_same | apply foldl_same | apply ite_same2 | apply foldl_same2 | apply outSame_next | apply ite_outSame | split | refine pairSame2 (by assumption) ?_ | dsimp only)
theorem execQueueDisable_same {z : Bool} {s u : State} (h : Same z s u) (p : Packet) : OutSame z s (execQueueDisable p u) := by
  unfold execQueueDisable
  with_reducible repeat' (first | assumption | intro _ | apply State.enginePacket_same | apply opQueueDisable_same | apply ite_same | apply foldl_same | apply ite_same2 | apply foldl_same2 | apply outSame_next | apply ite_outSame | split | refine pairSame2 (by assumption) ?_ | dsimp only)
theorem execPlotEscape_same {z : Bool} {s u : State} (h : Same z s u) (p : Packet) : OutSame z s (execPlotEscape p u) := by
  unfold execPlotEscape
  with_reducible repeat' (first | assumption | intro _ | apply State.enginePacket_same | apply opPlotEscape_same | apply ite_same | apply foldl_same | apply ite_same2 | apply foldl_same2 | apply outSame_next | apply ite_outSame | split | refine pairSame2 (by assumption) ?_ | dsimp only)
theorem execQueueStatus_same {z : Bool} {s u : State} (h : Same z s u) (p : Packet) : OutSame z s (execQueueStatus p u) := by
  unfold execQueueStatus
  with_reducible repeat' (first | assumption | intro _ | apply State.enginePacket_same | apply opQueueStatus_same | apply ite_same | apply foldl_same | apply ite_same2 | apply foldl_same2 | apply outSame_next | apply ite_outSame | split | refine pairSame2 (by assumption) ?_ | dsimp only)
theorem execTimeSource_same {z : Bool} {s u : State} (h : Same z s u) (p : Packet) : OutSame z s (execTimeSource p u) := by
  unfold execTimeSource
  with_reducible repeat' (first | assumption | intro _ | apply State.enginePacket_same | apply opTimeSource_same | apply ite_same | apply foldl_same | apply ite_same2 | apply foldl_same2 | apply outSame_next | apply ite_outSame | split | refine pairSame2 (by assumption) ?_ | dsimp only)
theorem execTimeAge_same {z : Bool} {s u : State} (h : Same z s u) (p : Packet) : OutSame z s (execTimeAge p u) := by
  unfold execTimeAge
  with_reducible repeat' (first | assumption | intro _ | apply State.enginePacket_same | apply opTimeAge_same | apply ite_same | apply foldl_same | apply ite_same2 | apply foldl_same2 | apply outSame_next | apply ite_outSame | split | refine pairSame2 (by assumption) ?_ | dsimp only)
theorem execTimeFreqRead_same {z : Bool} {s u : State} (h : Same z s u) (p : Packet) : OutSame z s (execTimeFreqRead p u) := by
  unfold execTimeFreqRead
  with_reducible repeat' (first | assumption | intro _ | apply State.enginePacket_same | apply opTimeFreqRead_same | apply ite_same | apply foldl_same | apply ite_same2 | apply foldl_same2 | apply outSame_next | apply ite_outSame | split | refine pairSame2 (by assumption) ?_ | dsimp only)
theorem execTimeRead_same {z : Bool} {s u : State} (h : Same z s u) (p : Packet) : OutSame z s (execTimeRead p u) := by
  unfold execTimeRead
  with_reducible repeat' (first | assumption | intro _ | apply State.enginePacket_same | apply opTimeRead_same | apply ite_same | apply foldl_same | apply ite_same2 | apply foldl_same2 | apply outSame_next | apply ite_outSame | split | refine pairSame2 (by assumption) ?_ | dsimp only)
theorem execTimePpsDelay_same {z : Bool} {s u : State} (h : Same z s u) (p : Packet) : OutSame z s (execTimePpsDelay p u) := by
  unfold execTimePpsDelay
  with_reducible repeat' (first | assumption | intro _ | apply State.enginePacket_same | apply opTimePpsDelay_same | apply ite_same | apply foldl_same | apply ite_same2 | apply foldl_same2 | apply outSame_next | apply ite_outSame | split | refine pairSame2 (by assumption) ?_ | dsimp only)
theorem execTimeAdjust_same {z : Bool} {s u : State} (h : Same z s u) (p : Packet) : OutSame z s (execTimeAdjust p u) := by
  unfold execTimeAdjust
  with_reducible repeat' (first | assumption | intro _ | apply State.enginePacket_same | apply opTimeAdjust_same | apply ite_same | apply foldl_same | apply ite_same2 | apply foldl_same2 | apply outSame_next | apply ite_outSame | split | refine pairSame2 (by assumption) ?_ | dsimp only)
theorem execTimeStatus_same {z : Bool} {s u : State} (h : Same z s u) (p : Packet) : OutSame z s (execTimeStatus p u) := by
  unfold execTimeStatus
  with_reducible repeat' (first | assumption | intro _ | apply State.enginePacket_same | apply opTimeStatus_same | apply ite_same | apply foldl_same | apply ite_same2 | apply foldl_same2 | apply outSame_next | apply ite_outSame | split | refine pairSame2 (by assumption) ?_ | dsimp only)
theorem execTimeFreq_same {z : Bool} {s u : State} (h : Same z s u) (p : Packet) : OutSame z s (execTimeFreq p u) := by
  unfold execTimeFreq
  with_reducible repeat' (first | assumption | intro _ | apply State.enginePacket_same | apply opTimeFreq_same | apply ite_same | apply foldl_same | apply ite_same2 | apply foldl_same2 | apply outSame_next | apply ite_outSame | split | refine pairSame2 (by assumption) ?_ | dsimp only)
theorem execTimeEdge_same {z : Bool} {s u : State} (h : Same z s u) (p : Packet) : OutSame z s (execTimeEdge p u) := by
  unfold execTimeEdge
  with_reducible repeat' (first | assumption | intro _ | apply State.enginePacket_same | apply opTimeEdge_same | apply ite_same | apply foldl_same | apply ite_same2 | apply foldl_same2 | apply outSame_next | apply ite_outSame | split | refine pairSame2 (by assumption) ?_ | dsimp only)
theorem execTimeTaiUtc_same {z : Bool} {s u : State} (h : Same z s u) (p : Packet) : OutSame z s (execTimeTaiUtc p u) := by
  unfold execTimeTaiUtc
  with_reducible repeat' (first | assumption | intro _ | apply State.enginePacket_same | apply opTimeTaiUtc_same | apply ite_same | apply foldl_same | apply ite_same2 | apply foldl_same2 | apply outSame_next | apply ite_outSame | split | refine pairSame2 (by assumption) ?_ | dsimp only)
theorem execTimePtm_same {z : Bool} {s u : State} (h : Same z s u) (p : Packet) : OutSame z s (execTimePtm p u) := by
  unfold execTimePtm
  with_reducible repeat' (first | assumption | intro _ | apply State.enginePacket_same | apply opTimePtm_same | apply ite_same | apply foldl_same | apply ite_same2 | apply foldl_same2 | apply outSame_next | apply ite_outSame | split | refine pairSame2 (by assumption) ?_ | dsimp only)
theorem execTrigSrcSkew_same {z : Bool} {s u : State} (h : Same z s u) (p : Packet) : OutSame z s (execTrigSrcSkew p u) := by
  unfold execTrigSrcSkew
  with_reducible repeat' (first | assumption | intro _ | apply State.enginePacket_same | apply opTrigSrcSkew_same | apply ite_same | apply foldl_same | apply ite_same2 | apply foldl_same2 | apply outSame_next | apply ite_outSame | split | refine pairSame2 (by assumption) ?_ | dsimp only)
theorem execTrigFire_same {z : Bool} {s u : State} (h : Same z s u) (p : Packet) : OutSame z s (execTrigFire p u) := by
  unfold execTrigFire
  with_reducible repeat' (first | assumption | intro _ | apply State.enginePacket_same | apply opTrigFire_same | apply ite_same | apply foldl_same | apply ite_same2 | apply foldl_same2 | apply outSame_next | apply ite_outSame | split | refine pairSame2 (by assumption) ?_ | dsimp only)
theorem execTrigStream_same {z : Bool} {s u : State} (h : Same z s u) (p : Packet) : OutSame z s (execTrigStream p u) := by
  unfold execTrigStream
  with_reducible repeat' (first | assumption | intro _ | apply State.enginePacket_same | apply opTrigStream_same | apply ite_same | apply foldl_same | apply ite_same2 | apply foldl_same2 | apply outSame_next | apply ite_outSame | split | refine pairSame2 (by assumption) ?_ | dsimp only)
theorem execTrigArm_same {z : Bool} {s u : State} (h : Same z s u) (p : Packet) : OutSame z s (execTrigArm p u) := by
  unfold execTrigArm
  with_reducible repeat' (first | assumption | intro _ | apply State.enginePacket_same | apply opTrigArm_same | apply ite_same | apply foldl_same | apply ite_same2 | apply foldl_same2 | apply outSame_next | apply ite_outSame | split | refine pairSame2 (by assumption) ?_ | dsimp only)
theorem execTrigDisarm_same {z : Bool} {s u : State} (h : Same z s u) (p : Packet) : OutSame z s (execTrigDisarm p u) := by
  unfold execTrigDisarm
  with_reducible repeat' (first | assumption | intro _ | apply State.enginePacket_same | apply opTrigDisarm_same | apply ite_same | apply foldl_same | apply ite_same2 | apply foldl_same2 | apply outSame_next | apply ite_outSame | split | refine pairSame2 (by assumption) ?_ | dsimp only)
theorem execTrigStatus_same {z : Bool} {s u : State} (h : Same z s u) (p : Packet) : OutSame z s (execTrigStatus p u) := by
  unfold execTrigStatus
  with_reducible repeat' (first | assumption | intro _ | apply State.enginePacket_same | apply opTrigStatus_same | apply ite_same | apply foldl_same | apply ite_same2 | apply foldl_same2 | apply outSame_next | apply ite_outSame | split | refine pairSame2 (by assumption) ?_ | dsimp only)
theorem execTrigRing_same {z : Bool} {s u : State} (h : Same z s u) (p : Packet) : OutSame z s (execTrigRing p u) := by
  unfold execTrigRing
  with_reducible repeat' (first | assumption | intro _ | apply State.enginePacket_same | apply opTrigRing_same | apply ite_same | apply foldl_same | apply ite_same2 | apply foldl_same2 | apply outSame_next | apply ite_outSame | split | refine pairSame2 (by assumption) ?_ | dsimp only)
theorem execTrigNet_same {z : Bool} {s u : State} (h : Same z s u) (p : Packet) : OutSame z s (execTrigNet p u) := by
  unfold execTrigNet
  with_reducible repeat' (first | assumption | intro _ | apply State.enginePacket_same | apply opTrigNet_same | apply ite_same | apply foldl_same | apply ite_same2 | apply foldl_same2 | apply outSame_next | apply ite_outSame | split | refine pairSame2 (by assumption) ?_ | dsimp only)
theorem execTrigCapset_same {z : Bool} {s u : State} (h : Same z s u) (p : Packet) : OutSame z s (execTrigCapset p u) := by
  unfold execTrigCapset
  with_reducible repeat' (first | assumption | intro _ | apply State.enginePacket_same | apply opTrigCapset_same | apply ite_same | apply foldl_same | apply ite_same2 | apply foldl_same2 | apply outSame_next | apply ite_outSame | split | refine pairSame2 (by assumption) ?_ | dsimp only)
theorem execFeRef_same {z : Bool} {s u : State} (h : Same z s u) (p : Packet) : OutSame z s (execFeRef p u) := by
  unfold execFeRef
  with_reducible repeat' (first | assumption | intro _ | apply State.enginePacket_same | apply opFeRef_same | apply ite_same | apply foldl_same | apply ite_same2 | apply foldl_same2 | apply outSame_next | apply ite_outSame | split | refine pairSame2 (by assumption) ?_ | dsimp only)
theorem execCalSurvey_same {z : Bool} {s u : State} (h : Same z s u) (p : Packet) : OutSame z s (execCalSurvey p u) := by
  unfold execCalSurvey
  with_reducible repeat' (first | assumption | intro _ | apply State.enginePacket_same | apply opCalSurvey_same | apply ite_same | apply foldl_same | apply ite_same2 | apply foldl_same2 | apply outSame_next | apply ite_outSame | split | refine pairSame2 (by assumption) ?_ | dsimp only)
theorem execFeUnbind_same {z : Bool} {s u : State} (h : Same z s u) (p : Packet) : OutSame z s (execFeUnbind p u) := by
  unfold execFeUnbind
  with_reducible repeat' (first | assumption | intro _ | apply State.enginePacket_same | apply opFeUnbind_same | apply ite_same | apply foldl_same | apply ite_same2 | apply foldl_same2 | apply outSame_next | apply ite_outSame | split | refine pairSame2 (by assumption) ?_ | dsimp only)
theorem execFeStatus_same {z : Bool} {s u : State} (h : Same z s u) (p : Packet) : OutSame z s (execFeStatus p u) := by
  unfold execFeStatus
  with_reducible repeat' (first | assumption | intro _ | apply State.enginePacket_same | apply opFeStatus_same | apply ite_same | apply foldl_same | apply ite_same2 | apply foldl_same2 | apply outSame_next | apply ite_outSame | split | refine pairSame2 (by assumption) ?_ | dsimp only)
theorem execFeLin_same {z : Bool} {s u : State} (h : Same z s u) (p : Packet) : OutSame z s (execFeLin p u) := by
  unfold execFeLin
  with_reducible repeat' (first | assumption | intro _ | apply State.enginePacket_same | apply opFeLin_same | apply ite_same | apply foldl_same | apply ite_same2 | apply foldl_same2 | apply outSame_next | apply ite_outSame | split | refine pairSame2 (by assumption) ?_ | dsimp only)
theorem execCalUserWrite_same {z : Bool} {s u : State} (h : Same z s u) (p : Packet) : OutSame z s (execCalUserWrite p u) := by
  unfold execCalUserWrite
  with_reducible repeat' (first | assumption | intro _ | apply State.enginePacket_same | apply opCalUserWrite_same | apply ite_same | apply foldl_same | apply ite_same2 | apply foldl_same2 | apply outSame_next | apply ite_outSame | split | refine pairSame2 (by assumption) ?_ | dsimp only)
theorem execCalTim_same {z : Bool} {s u : State} (h : Same z s u) (p : Packet) : OutSame z s (execCalTim p u) := by
  unfold execCalTim
  with_reducible repeat' (first | assumption | intro _ | apply State.enginePacket_same | apply opCalTim_same | apply ite_same | apply foldl_same | apply ite_same2 | apply foldl_same2 | apply outSame_next | apply ite_outSame | split | refine pairSame2 (by assumption) ?_ | dsimp only)
theorem execCalSurveyStep_same {z : Bool} {s u : State} (h : Same z s u) (p : Packet) : OutSame z s (execCalSurveyStep p u) := by
  unfold execCalSurveyStep
  with_reducible repeat' (first | assumption | intro _ | apply State.enginePacket_same | apply opCalSurveyStep_same | apply ite_same | apply foldl_same | apply ite_same2 | apply foldl_same2 | apply outSame_next | apply ite_outSame | split | refine pairSame2 (by assumption) ?_ | dsimp only)
theorem execFeExcitation_same {z : Bool} {s u : State} (h : Same z s u) (p : Packet) : OutSame z s (execFeExcitation p u) := by
  unfold execFeExcitation
  with_reducible repeat' (first | assumption | intro _ | apply State.enginePacket_same | apply opFeExcitation_same | apply ite_same | apply foldl_same | apply ite_same2 | apply foldl_same2 | apply outSame_next | apply ite_outSame | split | refine pairSame2 (by assumption) ?_ | dsimp only)
theorem execFeSequence_same {z : Bool} {s u : State} (h : Same z s u) (p : Packet) : OutSame z s (execFeSequence p u) := by
  unfold execFeSequence
  with_reducible repeat' (first | assumption | intro _ | apply State.enginePacket_same | apply opFeSequence_same | apply ite_same | apply foldl_same | apply ite_same2 | apply foldl_same2 | apply outSame_next | apply ite_outSame | split | refine pairSame2 (by assumption) ?_ | dsimp only)
theorem execCalTimPeriod_same {z : Bool} {s u : State} (h : Same z s u) (p : Packet) : OutSame z s (execCalTimPeriod p u) := by
  unfold execCalTimPeriod
  with_reducible repeat' (first | assumption | intro _ | apply State.enginePacket_same | apply opCalTimPeriod_same | apply ite_same | apply foldl_same | apply ite_same2 | apply foldl_same2 | apply outSame_next | apply ite_outSame | split | refine pairSame2 (by assumption) ?_ | dsimp only)
theorem execCalSliceTrim_same {z : Bool} {s u : State} (h : Same z s u) (p : Packet) : OutSame z s (execCalSliceTrim p u) := by
  unfold execCalSliceTrim
  with_reducible repeat' (first | assumption | intro _ | apply State.enginePacket_same | apply opCalSliceTrim_same | apply ite_same | apply foldl_same | apply ite_same2 | apply foldl_same2 | apply outSame_next | apply ite_outSame | split | refine pairSame2 (by assumption) ?_ | dsimp only)
theorem execFeBind_same {z : Bool} {s u : State} (h : Same z s u) (p : Packet) : OutSame z s (execFeBind p u) := by
  unfold execFeBind
  with_reducible repeat' (first | assumption | intro _ | apply State.enginePacket_same | apply opFeBind_same | apply ite_same | apply foldl_same | apply ite_same2 | apply foldl_same2 | apply outSame_next | apply ite_outSame | split | refine pairSame2 (by assumption) ?_ | dsimp only)
theorem execCalTrimRepair_same {z : Bool} {s u : State} (h : Same z s u) (p : Packet) : OutSame z s (execCalTrimRepair p u) := by
  unfold execCalTrimRepair
  with_reducible repeat' (first | assumption | intro _ | apply State.enginePacket_same | apply opCalTrimRepair_same | apply ite_same | apply foldl_same | apply ite_same2 | apply foldl_same2 | apply outSame_next | apply ite_outSame | split | refine pairSame2 (by assumption) ?_ | dsimp only)
theorem execFeUrgent_same {z : Bool} {s u : State} (h : Same z s u) (p : Packet) : OutSame z s (execFeUrgent p u) := by
  unfold execFeUrgent
  with_reducible repeat' (first | assumption | intro _ | apply State.enginePacket_same | apply opFeUrgent_same | apply ite_same | apply foldl_same | apply ite_same2 | apply foldl_same2 | apply outSame_next | apply ite_outSame | split | refine pairSame2 (by assumption) ?_ | dsimp only)
theorem execCalUserMeasure_same {z : Bool} {s u : State} (h : Same z s u) (p : Packet) : OutSame z s (execCalUserMeasure p u) := by
  unfold execCalUserMeasure
  with_reducible repeat' (first | assumption | intro _ | apply State.enginePacket_same | apply opCalUserMeasure_same | apply ite_same | apply foldl_same | apply ite_same2 | apply foldl_same2 | apply outSame_next | apply ite_outSame | split | refine pairSame2 (by assumption) ?_ | dsimp only)
theorem execFeRoute_same {z : Bool} {s u : State} (h : Same z s u) (p : Packet) : OutSame z s (execFeRoute p u) := by
  unfold execFeRoute
  with_reducible repeat' (first | assumption | intro _ | apply State.enginePacket_same | apply opFeRoute_same | apply ite_same | apply foldl_same | apply ite_same2 | apply foldl_same2 | apply outSame_next | apply ite_outSame | split | refine pairSame2 (by assumption) ?_ | dsimp only)
theorem execCalPageRead_same {z : Bool} {s u : State} (h : Same z s u) (p : Packet) : OutSame z s (execCalPageRead p u) := by
  unfold execCalPageRead
  with_reducible repeat' (first | assumption | intro _ | apply State.enginePacket_same | apply opCalPageRead_same | apply ite_same | apply foldl_same | apply ite_same2 | apply foldl_same2 | apply outSame_next | apply ite_outSame | split | refine pairSame2 (by assumption) ?_ | dsimp only)
theorem execFeBlank_same {z : Bool} {s u : State} (h : Same z s u) (p : Packet) : OutSame z s (execFeBlank p u) := by
  unfold execFeBlank
  with_reducible repeat' (first | assumption | intro _ | apply State.enginePacket_same | apply opFeBlank_same | apply ite_same | apply foldl_same | apply ite_same2 | apply foldl_same2 | apply outSame_next | apply ite_outSame | split | refine pairSame2 (by assumption) ?_ | dsimp only)
theorem execFeChannel_same {z : Bool} {s u : State} (h : Same z s u) (p : Packet) : OutSame z s (execFeChannel p u) := by
  unfold execFeChannel
  with_reducible repeat' (first | assumption | intro _ | apply State.enginePacket_same | apply opFeChannel_same | apply ite_same | apply foldl_same | apply ite_same2 | apply foldl_same2 | apply outSame_next | apply ite_outSame | split | refine pairSame2 (by assumption) ?_ | dsimp only)
theorem execLinkRxmap_same {z : Bool} {s u : State} (h : Same z s u) (p : Packet) : OutSame z s (execLinkRxmap p u) := by
  unfold execLinkRxmap
  with_reducible repeat' (first | assumption | intro _ | apply State.enginePacket_same | apply opLinkRxmap_same | apply ite_same | apply foldl_same | apply ite_same2 | apply foldl_same2 | apply outSame_next | apply ite_outSame | split | refine pairSame2 (by assumption) ?_ | dsimp only)
theorem execRoutePort_same {z : Bool} {s u : State} (h : Same z s u) (p : Packet) : OutSame z s (execRoutePort p u) := by
  unfold execRoutePort
  with_reducible repeat' (first | assumption | intro _ | apply State.enginePacket_same | apply opRoutePort_same | apply ite_same | apply foldl_same | apply ite_same2 | apply foldl_same2 | apply outSame_next | apply ite_outSame | split | refine pairSame2 (by assumption) ?_ | dsimp only)
theorem execLaneSubst_same {z : Bool} {s u : State} (h : Same z s u) (p : Packet) : OutSame z s (execLaneSubst p u) := by
  unfold execLaneSubst
  with_reducible repeat' (first | assumption | intro _ | apply State.enginePacket_same | apply opLaneSubst_same | apply ite_same | apply foldl_same | apply ite_same2 | apply foldl_same2 | apply outSame_next | apply ite_outSame | split | refine pairSame2 (by assumption) ?_ | dsimp only)
theorem execRouteAddress_same {z : Bool} {s u : State} (h : Same z s u) (p : Packet) : OutSame z s (execRouteAddress p u) := by
  unfold execRouteAddress
  with_reducible repeat' (first | assumption | intro _ | apply State.enginePacket_same | apply opRouteAddress_same | apply ite_same | apply foldl_same | apply ite_same2 | apply foldl_same2 | apply outSame_next | apply ite_outSame | split | refine pairSame2 (by assumption) ?_ | dsimp only)
theorem execRouteSide_same {z : Bool} {s u : State} (h : Same z s u) (p : Packet) : OutSame z s (execRouteSide p u) := by
  unfold execRouteSide
  with_reducible repeat' (first | assumption | intro _ | apply State.enginePacket_same | apply opRouteSide_same | apply ite_same | apply foldl_same | apply ite_same2 | apply foldl_same2 | apply outSame_next | apply ite_outSame | split | refine pairSame2 (by assumption) ?_ | dsimp only)
theorem execRouteStream_same {z : Bool} {s u : State} (h : Same z s u) (p : Packet) : OutSame z s (execRouteStream p u) := by
  unfold execRouteStream
  with_reducible repeat' (first | assumption | intro _ | apply State.enginePacket_same | apply opRouteStream_same | apply ite_same | apply foldl_same | apply ite_same2 | apply foldl_same2 | apply outSame_next | apply ite_outSame | split | refine pairSame2 (by assumption) ?_ | dsimp only)
theorem execLaneSheet_same {z : Bool} {s u : State} (h : Same z s u) (p : Packet) : OutSame z s (execLaneSheet p u) := by
  unfold execLaneSheet
  with_reducible repeat' (first | assumption | intro _ | apply State.enginePacket_same | apply opLaneSheet_same | apply ite_same | apply foldl_same | apply ite_same2 | apply foldl_same2 | apply outSame_next | apply ite_outSame | split | refine pairSame2 (by assumption) ?_ | dsimp only)
theorem execRouteMac_same {z : Bool} {s u : State} (h : Same z s u) (p : Packet) : OutSame z s (execRouteMac p u) := by
  unfold execRouteMac
  with_reducible repeat' (first | assumption | intro _ | apply State.enginePacket_same | apply opRouteMac_same | apply ite_same | apply foldl_same | apply ite_same2 | apply foldl_same2 | apply outSame_next | apply ite_outSame | split | refine pairSame2 (by assumption) ?_ | dsimp only)
theorem execLaneNarrow_same {z : Bool} {s u : State} (h : Same z s u) (p : Packet) : OutSame z s (execLaneNarrow p u) := by
  unfold execLaneNarrow
  with_reducible repeat' (first | assumption | intro _ | apply State.enginePacket_same | apply opLaneNarrow_same | apply ite_same | apply foldl_same | apply ite_same2 | apply foldl_same2 | apply outSame_next | apply ite_outSame | split | refine pairSame2 (by assumption) ?_ | dsimp only)
theorem execRouteHeartbeat_same {z : Bool} {s u : State} (h : Same z s u) (p : Packet) : OutSame z s (execRouteHeartbeat p u) := by
  unfold execRouteHeartbeat
  with_reducible repeat' (first | assumption | intro _ | apply State.enginePacket_same | apply opRouteHeartbeat_same | apply ite_same | apply foldl_same | apply ite_same2 | apply foldl_same2 | apply outSame_next | apply ite_outSame | split | refine pairSame2 (by assumption) ?_ | dsimp only)
theorem execLaneTune_same {z : Bool} {s u : State} (h : Same z s u) (p : Packet) : OutSame z s (execLaneTune p u) := by
  unfold execLaneTune
  with_reducible repeat' (first | assumption | intro _ | apply State.enginePacket_same | apply opLaneTune_same | apply ite_same | apply foldl_same | apply ite_same2 | apply foldl_same2 | apply outSame_next | apply ite_outSame | split | refine pairSame2 (by assumption) ?_ | dsimp only)
theorem execLanePrbs_same {z : Bool} {s u : State} (h : Same z s u) (p : Packet) : OutSame z s (execLanePrbs p u) := by
  unfold execLanePrbs
  with_reducible repeat' (first | assumption | intro _ | apply State.enginePacket_same | apply opLanePrbs_same | apply ite_same | apply foldl_same | apply ite_same2 | apply foldl_same2 | apply outSame_next | apply ite_outSame | split | refine pairSame2 (by assumption) ?_ | dsimp only)
theorem execLinkStatus_same {z : Bool} {s u : State} (h : Same z s u) (p : Packet) : OutSame z s (execLinkStatus p u) := by
  unfold execLinkStatus
  with_reducible repeat' (first | assumption | intro _ | apply State.enginePacket_same | apply opLinkStatus_same | apply ite_same | apply foldl_same | apply ite_same2 | apply foldl_same2 | apply outSame_next | apply ite_outSame | split | refine pairSame2 (by assumption) ?_ | dsimp only)
theorem execRoutePolicy_same {z : Bool} {s u : State} (h : Same z s u) (p : Packet) : OutSame z s (execRoutePolicy p u) := by
  unfold execRoutePolicy
  with_reducible repeat' (first | assumption | intro _ | apply State.enginePacket_same | apply opRoutePolicy_same | apply ite_same | apply foldl_same | apply ite_same2 | apply foldl_same2 | apply outSame_next | apply ite_outSame | split | refine pairSame2 (by assumption) ?_ | dsimp only)
theorem execLinkConfig_same {z : Bool} {s u : State} (h : Same z s u) (p : Packet) : OutSame z s (execLinkConfig p u) := by
  unfold execLinkConfig
  with_reducible repeat' (first | assumption | intro _ | apply State.enginePacket_same | apply opLinkConfig_same | apply ite_same | apply foldl_same | apply ite_same2 | apply foldl_same2 | apply outSame_next | apply ite_outSame | split | refine pairSame2 (by assumption) ?_ | dsimp only)
theorem execLaneStatus_same {z : Bool} {s u : State} (h : Same z s u) (p : Packet) : OutSame z s (execLaneStatus p u) := by
  unfold execLaneStatus
  with_reducible repeat' (first | assumption | intro _ | apply State.enginePacket_same | apply opLaneStatus_same | apply ite_same | apply foldl_same | apply ite_same2 | apply foldl_same2 | apply outSame_next | apply ite_outSame | split | refine pairSame2 (by assumption) ?_ | dsimp only)
theorem execRouteStatus_same {z : Bool} {s u : State} (h : Same z s u) (p : Packet) : OutSame z s (execRouteStatus p u) := by
  unfold execRouteStatus
  with_reducible repeat' (first | assumption | intro _ | apply State.enginePacket_same | apply opRouteStatus_same | apply ite_same | apply foldl_same | apply ite_same2 | apply foldl_same2 | apply outSame_next | apply ite_outSame | split | refine pairSame2 (by assumption) ?_ | dsimp only)
theorem execRoutePair_same {z : Bool} {s u : State} (h : Same z s u) (p : Packet) : OutSame z s (execRoutePair p u) := by
  unfold execRoutePair
  with_reducible repeat' (first | assumption | intro _ | apply State.enginePacket_same | apply opRoutePair_same | apply ite_same | apply foldl_same | apply ite_same2 | apply foldl_same2 | apply outSame_next | apply ite_outSame | split | refine pairSame2 (by assumption) ?_ | dsimp only)
theorem execLogRead_same {z : Bool} {s u : State} (h : Same z s u) (p : Packet) : OutSame z s (execLogRead p u) := by
  unfold execLogRead
  with_reducible repeat' (first | assumption | intro _ | apply State.enginePacket_same | apply opLogRead_same | apply ite_same | apply foldl_same | apply ite_same2 | apply foldl_same2 | apply outSame_next | apply ite_outSame | split | refine pairSame2 (by assumption) ?_ | dsimp only)
theorem execLogKey_same {s u : State} (h : Same false s u) (p : Packet) : OutSame false s (execLogKey p u) := by
  unfold execLogKey
  with_reducible repeat' (first | assumption | intro _ | apply State.enginePacket_same | apply opLogKey_same | apply ite_same | apply foldl_same | apply ite_same2 | apply foldl_same2 | apply outSame_next | apply ite_outSame | split | refine pairSame2 (by assumption) ?_ | dsimp only)
theorem execGazRoot_same {z : Bool} {s u : State} (h : Same z s u) (p : Packet) : OutSame z s (execGazRoot p u) := by
  unfold execGazRoot
  with_reducible repeat' (first | assumption | intro _ | apply State.enginePacket_same | apply opGazRoot_same | apply ite_same | apply foldl_same | apply ite_same2 | apply foldl_same2 | apply outSame_next | apply ite_outSame | split | refine pairSame2 (by assumption) ?_ | dsimp only)
theorem execGazRemove_same {z : Bool} {s u : State} (h : Same z s u) (p : Packet) : OutSame z s (execGazRemove p u) := by
  unfold execGazRemove
  with_reducible repeat' (first | assumption | intro _ | apply State.enginePacket_same | apply opGazRemove_same | apply ite_same | apply foldl_same | apply ite_same2 | apply foldl_same2 | apply outSame_next | apply ite_outSame | split | refine pairSame2 (by assumption) ?_ | dsimp only)
theorem execPowerHold_same {z : Bool} {s u : State} (h : Same z s u) (p : Packet) : OutSame z s (execPowerHold p u) := by
  unfold execPowerHold
  with_reducible repeat' (first | assumption | intro _ | apply State.enginePacket_same | apply opPowerHold_same | apply ite_same | apply foldl_same | apply ite_same2 | apply foldl_same2 | apply outSame_next | apply ite_outSame | split | refine pairSame2 (by assumption) ?_ | dsimp only)
theorem execPowerDown_same {z : Bool} {s u : State} (h : Same z s u) (p : Packet) : OutSame z s (execPowerDown p u) := by
  unfold execPowerDown
  with_reducible repeat' (first | assumption | intro _ | apply State.enginePacket_same | apply opPowerDown_same | apply ite_same | apply foldl_same | apply ite_same2 | apply foldl_same2 | apply outSame_next | apply ite_outSame | split | refine pairSame2 (by assumption) ?_ | dsimp only)
theorem execPowerUp_same {z : Bool} {s u : State} (h : Same z s u) (p : Packet) : OutSame z s (execPowerUp p u) := by
  unfold execPowerUp
  with_reducible repeat' (first | assumption | intro _ | apply State.enginePacket_same | apply opPowerUp_same | apply ite_same | apply foldl_same | apply ite_same2 | apply foldl_same2 | apply outSame_next | apply ite_outSame | split | refine pairSame2 (by assumption) ?_ | dsimp only)
theorem execLogHead_same {z : Bool} {s u : State} (h : Same z s u) (p : Packet) : OutSame z s (execLogHead p u) := by
  unfold execLogHead
  with_reducible repeat' (first | assumption | intro _ | apply State.enginePacket_same | apply opLogHead_same | apply ite_same | apply foldl_same | apply ite_same2 | apply foldl_same2 | apply outSame_next | apply ite_outSame | split | refine pairSame2 (by assumption) ?_ | dsimp only)
theorem execGazCounts_same {z : Bool} {s u : State} (h : Same z s u) (p : Packet) : OutSame z s (execGazCounts p u) := by
  unfold execGazCounts
  with_reducible repeat' (first | assumption | intro _ | apply State.enginePacket_same | apply opGazCounts_same | apply ite_same | apply foldl_same | apply ite_same2 | apply foldl_same2 | apply outSame_next | apply ite_outSame | split | refine pairSame2 (by assumption) ?_ | dsimp only)
theorem execGazDigest_same {z : Bool} {s u : State} (h : Same z s u) (p : Packet) : OutSame z s (execGazDigest p u) := by
  unfold execGazDigest
  with_reducible repeat' (first | assumption | intro _ | apply State.enginePacket_same | apply opGazDigest_same | apply ite_same | apply foldl_same | apply ite_same2 | apply foldl_same2 | apply outSame_next | apply ite_outSame | split | refine pairSame2 (by assumption) ?_ | dsimp only)
theorem execGazRead_same {z : Bool} {s u : State} (h : Same z s u) (p : Packet) : OutSame z s (execGazRead p u) := by
  unfold execGazRead
  with_reducible repeat' (first | assumption | intro _ | apply State.enginePacket_same | apply opGazRead_same | apply ite_same | apply foldl_same | apply ite_same2 | apply foldl_same2 | apply outSame_next | apply ite_outSame | split | refine pairSame2 (by assumption) ?_ | dsimp only)
theorem execGazSend_same {z : Bool} {s u : State} (h : Same z s u) (p : Packet) : OutSame z s (execGazSend p u) := by
  unfold execGazSend
  with_reducible repeat' (first | assumption | intro _ | apply State.enginePacket_same | apply opGazSend_same | apply ite_same | apply foldl_same | apply ite_same2 | apply foldl_same2 | apply outSame_next | apply ite_outSame | split | refine pairSame2 (by assumption) ?_ | dsimp only)
theorem execLogRepeat_same {z : Bool} {s u : State} (h : Same z s u) (p : Packet) : OutSame z s (execLogRepeat p u) := by
  unfold execLogRepeat
  with_reducible repeat' (first | assumption | intro _ | apply State.enginePacket_same | apply opLogRepeat_same | apply ite_same | apply foldl_same | apply ite_same2 | apply foldl_same2 | apply outSame_next | apply ite_outSame | split | refine pairSame2 (by assumption) ?_ | dsimp only)
theorem execGazDistrict_same {z : Bool} {s u : State} (h : Same z s u) (p : Packet) : OutSame z s (execGazDistrict p u) := by
  unfold execGazDistrict
  with_reducible repeat' (first | assumption | intro _ | apply State.enginePacket_same | apply opGazDistrict_same | apply ite_same | apply foldl_same | apply ite_same2 | apply foldl_same2 | apply outSame_next | apply ite_outSame | split | refine pairSame2 (by assumption) ?_ | dsimp only)
theorem execGazRegister_same {z : Bool} {s u : State} (h : Same z s u) (p : Packet) : OutSame z s (execGazRegister p u) := by
  unfold execGazRegister
  with_reducible repeat' (first | assumption | intro _ | apply State.enginePacket_same | apply opGazRegister_same | apply ite_same | apply foldl_same | apply ite_same2 | apply foldl_same2 | apply outSame_next | apply ite_outSame | split | refine pairSame2 (by assumption) ?_ | dsimp only)
theorem execLogChallenge_same {z : Bool} {s u : State} (h : Same z s u) (p : Packet) : OutSame z s (execLogChallenge p u) := by
  unfold execLogChallenge
  with_reducible repeat' (first | assumption | intro _ | apply State.enginePacket_same | apply opLogChallenge_same | apply ite_same | apply foldl_same | apply ite_same2 | apply foldl_same2 | apply outSame_next | apply ite_outSame | split | refine pairSame2 (by assumption) ?_ | dsimp only)
theorem execPowerStatus_same {z : Bool} {s u : State} (h : Same z s u) (p : Packet) : OutSame z s (execPowerStatus p u) := by
  unfold execPowerStatus
  with_reducible repeat' (first | assumption | intro _ | apply State.enginePacket_same | apply opPowerStatus_same | apply ite_same | apply foldl_same | apply ite_same2 | apply foldl_same2 | apply outSame_next | apply ite_outSame | split | refine pairSame2 (by assumption) ?_ | dsimp only)
theorem execLogClear_same {s u : State} (h : Same false s u) (p : Packet) : OutSame false s (execLogClear p u) := by
  unfold execLogClear
  with_reducible repeat' (first | assumption | intro _ | apply State.enginePacket_same | apply opLogClear_same | apply ite_same | apply foldl_same | apply ite_same2 | apply foldl_same2 | apply outSame_next | apply ite_outSame | split | refine pairSame2 (by assumption) ?_ | dsimp only)
theorem execSpareCore_same {z : Bool} {s u : State} (h : Same z s u) (p : Packet) : OutSame z s (execSpareCore p u) := by
  unfold execSpareCore
  with_reducible repeat' (first | assumption | intro _ | apply State.enginePacket_same | apply opSpareCore_same | apply ite_same | apply foldl_same | apply ite_same2 | apply foldl_same2 | apply outSame_next | apply ite_outSame | split | refine pairSame2 (by assumption) ?_ | dsimp only)
theorem execSpareInventory_same {z : Bool} {s u : State} (h : Same z s u) (p : Packet) : OutSame z s (execSpareInventory p u) := by
  unfold execSpareInventory
  with_reducible repeat' (first | assumption | intro _ | apply State.enginePacket_same | apply opSpareInventory_same | apply ite_same | apply foldl_same | apply ite_same2 | apply foldl_same2 | apply outSame_next | apply ite_outSame | split | refine pairSame2 (by assumption) ?_ | dsimp only)
theorem execSpareSlice_same {z : Bool} {s u : State} (h : Same z s u) (p : Packet) : OutSame z s (execSpareSlice p u) := by
  unfold execSpareSlice
  with_reducible repeat' (first | assumption | intro _ | apply State.enginePacket_same | apply opSpareSlice_same | apply ite_same | apply foldl_same | apply ite_same2 | apply foldl_same2 | apply outSame_next | apply ite_outSame | split | refine pairSame2 (by assumption) ?_ | dsimp only)
theorem execSpareSlot_same {z : Bool} {s u : State} (h : Same z s u) (p : Packet) : OutSame z s (execSpareSlot p u) := by
  unfold execSpareSlot
  with_reducible repeat' (first | assumption | intro _ | apply State.enginePacket_same | apply opSpareSlot_same | apply ite_same | apply foldl_same | apply ite_same2 | apply foldl_same2 | apply outSame_next | apply ite_outSame | split | refine pairSame2 (by assumption) ?_ | dsimp only)
theorem execSparePlot_same {z : Bool} {s u : State} (h : Same z s u) (p : Packet) : OutSame z s (execSparePlot p u) := by
  unfold execSparePlot
  with_reducible repeat' (first | assumption | intro _ | apply State.enginePacket_same | apply opSparePlot_same | apply ite_same | apply foldl_same | apply ite_same2 | apply foldl_same2 | apply outSame_next | apply ite_outSame | split | refine pairSame2 (by assumption) ?_ | dsimp only)
theorem execSpareMram_same {s u : State} (h : Same false s u) (p : Packet) : OutSame false s (execSpareMram p u) := by
  unfold execSpareMram
  with_reducible repeat' (first | assumption | intro _ | apply State.enginePacket_same | apply opSpareMram_same | apply ite_same | apply foldl_same | apply ite_same2 | apply foldl_same2 | apply outSame_next | apply ite_outSame | split | refine pairSame2 (by assumption) ?_ | dsimp only)
theorem execSpareBmac_same {z : Bool} {s u : State} (h : Same z s u) (p : Packet) : OutSame z s (execSpareBmac p u) := by
  unfold execSpareBmac
  with_reducible repeat' (first | assumption | intro _ | apply State.enginePacket_same | apply opSpareBmac_same | apply ite_same | apply foldl_same | apply ite_same2 | apply foldl_same2 | apply outSame_next | apply ite_outSame | split | refine pairSame2 (by assumption) ?_ | dsimp only)
theorem execSparePolicy_same {z : Bool} {s u : State} (h : Same z s u) (p : Packet) : OutSame z s (execSparePolicy p u) := by
  unfold execSparePolicy
  with_reducible repeat' (first | assumption | intro _ | apply State.enginePacket_same | apply opSparePolicy_same | apply ite_same | apply foldl_same | apply ite_same2 | apply foldl_same2 | apply outSame_next | apply ite_outSame | split | refine pairSame2 (by assumption) ?_ | dsimp only)
theorem execSpareTdc_same {z : Bool} {s u : State} (h : Same z s u) (p : Packet) : OutSame z s (execSpareTdc p u) := by
  unfold execSpareTdc
  with_reducible repeat' (first | assumption | intro _ | apply State.enginePacket_same | apply opSpareTdc_same | apply ite_same | apply foldl_same | apply ite_same2 | apply foldl_same2 | apply outSame_next | apply ite_outSame | split | refine pairSame2 (by assumption) ?_ | dsimp only)
theorem execSparePcv_same {z : Bool} {s u : State} (h : Same z s u) (p : Packet) : OutSame z s (execSparePcv p u) := by
  unfold execSparePcv
  with_reducible repeat' (first | assumption | intro _ | apply State.enginePacket_same | apply opSparePcv_same | apply ite_same | apply foldl_same | apply ite_same2 | apply foldl_same2 | apply outSame_next | apply ite_outSame | split | refine pairSame2 (by assumption) ?_ | dsimp only)
theorem execDiagSelftest_same {z : Bool} {s u : State} (h : Same z s u) (p : Packet) : OutSame z s (execDiagSelftest p u) := by
  unfold execDiagSelftest
  with_reducible repeat' (first | assumption | intro _ | apply State.enginePacket_same | apply opDiagSelftest_same | apply ite_same | apply foldl_same | apply ite_same2 | apply foldl_same2 | apply outSame_next | apply ite_outSame | split | refine pairSame2 (by assumption) ?_ | dsimp only)
theorem execDiagTemps_same {z : Bool} {s u : State} (h : Same z s u) (p : Packet) : OutSame z s (execDiagTemps p u) := by
  unfold execDiagTemps
  with_reducible repeat' (first | assumption | intro _ | apply State.enginePacket_same | apply opDiagTemps_same | apply ite_same | apply foldl_same | apply ite_same2 | apply foldl_same2 | apply outSame_next | apply ite_outSame | split | refine pairSame2 (by assumption) ?_ | dsimp only)
theorem execSpareEngine_same {z : Bool} {s u : State} (h : Same z s u) (p : Packet) : OutSame z s (execSpareEngine p u) := by
  unfold execSpareEngine
  with_reducible repeat' (first | assumption | intro _ | apply State.enginePacket_same | apply opSpareEngine_same | apply ite_same | apply foldl_same | apply ite_same2 | apply foldl_same2 | apply outSame_next | apply ite_outSame | split | refine pairSame2 (by assumption) ?_ | dsimp only)
theorem execDiagEcho_same {z : Bool} {s u : State} (h : Same z s u) (p : Packet) : OutSame z s (execDiagEcho p u) := by
  unfold execDiagEcho
  with_reducible repeat' (first | assumption | intro _ | apply State.enginePacket_same | apply opDiagEcho_same | apply ite_same | apply foldl_same | apply ite_same2 | apply foldl_same2 | apply outSame_next | apply ite_outSame | split | refine pairSame2 (by assumption) ?_ | dsimp only)
theorem execDiagBeamSat_same {z : Bool} {s u : State} (h : Same z s u) (p : Packet) : OutSame z s (execDiagBeamSat p u) := by
  unfold execDiagBeamSat
  with_reducible repeat' (first | assumption | intro _ | apply State.enginePacket_same | apply opDiagBeamSat_same | apply ite_same | apply foldl_same | apply ite_same2 | apply foldl_same2 | apply outSame_next | apply ite_outSame | split | refine pairSame2 (by assumption) ?_ | dsimp only)
theorem State.piBad_same {z : Bool} {s u : State} (h : Same z s u) (b : Nat) (r : Nat) : Same z s (State.piBad u b r) := by
  unfold State.piBad
  with_reducible repeat' (first | assumption | intro _ | apply State.raise_same | apply State.put_same | apply ite_same | apply foldl_same | split | dsimp only)
theorem State.cplCiWrite_same {s u : State} (h : Same false s u) (b : Nat) (r : Nat) (v : Nat) : Same false s (State.cplCiWrite u b r v) := by
  unfold State.cplCiWrite
  with_reducible repeat' (first | assumption | intro _ | apply State.settle_same | apply State.cplFlush_same | apply State.setCring_same | apply State.piBad_same | apply ite_same | apply foldl_same | split | dsimp only)
theorem execDbCplCiWrite_same {s u : State} (h : Same false s u) (r : Nat) (w : Wr) : OutSame false s (execDbCplCiWrite r w u) := by
  unfold execDbCplCiWrite
  with_reducible repeat' (first | assumption | intro _ | apply State.doorbell_same | apply State.cplCiWrite_same | apply State.reservedHit_same | apply ite_same | apply foldl_same | apply outSame_next | apply ite_outSame | split | dsimp only)
theorem State.arrive_same {s u : State} (h : Same false s u) (op : Nat) (p : Packet) : Same false s (State.arrive u op p) := by
  unfold State.arrive
  with_reducible repeat' (first | assumption | intro _ | apply State.engineFeed_same | apply State.runPacket_same | apply ite_same | apply foldl_same | split | dsimp only)
theorem State.envelopeIn_same {s u : State} (h : Same false s u) (path : Path) (ahead : Nat) (l : List Byte) : Same false s (State.envelopeIn u path ahead l) := by
  unfold State.envelopeIn
  with_reducible repeat' (first | assumption | intro _ | apply State.bumpSat_same | apply State.authFail_same | apply State.raise_same | apply State.settle_same | apply State.arrive_same | apply State.setEnv_same | apply State.gazReply_same | apply State.lateReply_same | apply State.rateSay_same | apply ite_same | apply foldl_same | split | dsimp only)
theorem execCommandRx_same {s u : State} (h : Same false s u) (sh : Nat) : OutSame false s (execCommandRx sh u) := by
  unfold execCommandRx
  with_reducible repeat' (first | assumption | intro _ | apply State.takeCtl_same | apply State.envelopeIn_same | apply ite_same | apply foldl_same | apply ite_same2 | apply foldl_same2 | apply outSame_next | apply ite_outSame | split | refine optSame2_get (by assumption) ?_ | dsimp only)
theorem execCmdKeyLoad_same {z : Bool} {s u : State} (h : Same z s u) (w : Wr) : OutSame z s (execCmdKeyLoad w u) := by
  unfold execCmdKeyLoad
  with_reducible repeat' (first | assumption | intro _ | apply State.pfOnly_same | apply State.keyCtlWrite_same | apply ite_same | apply foldl_same | apply outSame_next | apply ite_outSame | split | dsimp only)
theorem execPadOpcode_same {s u : State} (h : Same false s u) (p : Packet) : OutSame false s (execPadOpcode p u) := by
  unfold execPadOpcode
  with_reducible repeat' (first | assumption | intro _ | apply State.arrive_same | apply State.announce_same | apply ite_same | apply foldl_same | apply outSame_next | apply ite_outSame | split | dsimp only)
theorem execCmdRateWindow_same {s u : State} (h : Same false s u) : OutSame false s (execCmdRateWindow u) := by
  unfold execCmdRateWindow
  with_reducible repeat' (first | assumption | intro _ | apply State.settle_same | apply ite_same | apply foldl_same | apply outSame_next | apply ite_outSame | split | dsimp only)
theorem execCmdEnvelopeRx_same {s u : State} (h : Same false s u) (port : Nat) (addr : Nat) (udp : Nat) (ahead : Nat) (data : List Byte) : OutSame false s (execCmdEnvelopeRx port addr udp ahead data u) := by
  unfold execCmdEnvelopeRx
  with_reducible repeat' (first | assumption | intro _ | apply State.envelopeIn_same | apply ite_same | apply foldl_same | apply outSame_next | apply ite_outSame | split | dsimp only)
theorem State.cmdPi_same {s u : State} (h : Same false s u) (b : Nat) (r : Nat) (v : Nat) (data : List Byte) : Same false s (State.cmdPi u b r v data) := by
  unfold State.cmdPi
  with_reducible repeat' (first | assumption | intro _ | apply State.draw_same | apply State.setCring_same | apply State.settle_same | apply State.arrive_same | apply State.piBad_same | apply ite_same | apply foldl_same | apply ite_same2 | apply foldl_same2 | split | refine pairSame2 (by assumption) ?_ | dsimp only)
theorem execCmdKeyClear_same {z : Bool} {s u : State} (h : Same z s u) (w : Wr) : OutSame z s (execCmdKeyClear w u) := by
  unfold execCmdKeyClear
  with_reducible repeat' (first | assumption | intro _ | apply State.pfOnly_same | apply State.keyCtlWrite_same | apply ite_same | apply foldl_same | apply outSame_next | apply ite_outSame | split | dsimp only)
theorem execDbCmdPiWrite_same {s u : State} (h : Same false s u) (r : Nat) (w : Wr) (data : List Byte) : OutSame false s (execDbCmdPiWrite r w data u) := by
  unfold execDbCmdPiWrite
  with_reducible repeat' (first | assumption | intro _ | apply State.doorbell_same | apply State.cmdPi_same | apply State.reservedHit_same | apply ite_same | apply foldl_same | apply outSame_next | apply ite_outSame | split | dsimp only)
theorem State.addMark_same {z : Bool} {s u : State} (h : Same z s u) (n : Nat) (m0 : SlotMark) : Same z s (State.addMark u n m0) := by
  unfold State.addMark
  with_reducible repeat' (first | assumption | intro _ | apply State.setMark_same | apply State.setSlot_same | apply ite_same | apply foldl_same | split | dsimp only)
theorem State.applySlot_same {z : Bool} {s u : State} (h : Same z s u) (g : Nat) (n : Nat) (k0 : Nat) (l0 : List Staged) : Same z s (State.applySlot u g n k0 l0) := by
  unfold State.applySlot
  with_reducible repeat' (first | assumption | intro _ | apply State.idleSlot_same | apply State.cutTile_same | apply State.slotEndItems_same | apply State.rawForce_same | apply State.chanStart_same | apply State.bindSlot_same | apply State.addMark_same | apply State.raise_same | apply ite_same | apply foldl_same | split | dsimp only)
theorem State.applyInput_same {z : Bool} {s u : State} (h : Same z s u) (i : Nat) (at_ : Int) (l : List Staged) : Same z s (State.applyInput u i at_ l) := by
  unfold State.applyInput
  with_reducible repeat' (first | assumption | intro _ | apply State.inputEnable_same | apply State.forceVal_same | apply State.setSub_same | apply ite_same | apply foldl_same | split | dsimp only)
theorem State.applyUnit_same {z : Bool} {s u : State} (h : Same z s u) (g : Nat) (k0 : Nat) (u0 : UnitId) (l : List Staged) : Same z s (State.applyUnit u g k0 u0 l) := by
  unfold State.applyUnit
  with_reducible repeat' (first | assumption | intro _ | apply State.showDirty_same | apply State.applySlot_same | apply State.applyBeam_same | apply State.calRecheck_same | apply State.applyFe_same | apply State.applyInput_same | apply ite_same | apply foldl_same | split | dsimp only)
theorem State.applyIndex_same {z : Bool} {s u : State} (h : Same z s u) (g : Nat) (k0 : Nat) : Same z s (State.applyIndex u g k0) := by
  unfold State.applyIndex
  with_reducible repeat' (first | assumption | intro _ | apply State.showPend_same | apply State.applyUnit_same | apply State.finishBoundary_same | apply ite_same | apply foldl_same | split | dsimp only | apply same_staged)
theorem State.engBoundary_same {z : Bool} {s u : State} (h : Same z s u) : Same z s (State.engBoundary u) := by
  unfold State.engBoundary
  with_reducible repeat' (first | assumption | intro _ | apply State.engSwapDone_same | apply ite_same | apply foldl_same | split | dsimp only | apply same_engSwaps)
theorem State.recordMark_same {z : Bool} {s u : State} (h : Same z s u) (g : Nat) (k0 : Nat) (n : Nat) : Same z s (State.recordMark u g k0 n) := by
  unfold State.recordMark
  with_reducible repeat' (first | assumption | intro _ | apply State.addMark_same | apply State.put_same | apply ite_same | apply foldl_same | split | dsimp only)
theorem State.settleGrid_same {z : Bool} {s u : State} (h : Same z s u) (g : Nat) : Same z s (State.settleGrid u g) := by
  unfold State.settleGrid
  with_reducible repeat' (first | assumption | intro _ | apply State.settleSlot_same | apply State.settleBeam_same | apply ite_same | apply foldl_same | split | dsimp only)
theorem State.boundary_same {z : Bool} {s u : State} (h : Same z s u) (g : Nat) (f : Nat) : Same z s (State.boundary u g f) := by
  unfold State.boundary
  with_reducible repeat' (first | assumption | intro _ | apply State.applyIndex_same | apply State.checkMembers_same | apply State.engBoundary_same | apply State.bmacBoundary_same | apply State.abortDiscarded_same | apply State.recordMark_same | apply State.addBeamMark_same | apply State.settleGrid_same | apply ite_same | apply foldl_same | split | dsimp only | apply same_gridNext)
theorem execFrameBoundary_same {s u : State} (h : Same false s u) (g : Nat) (f : Nat) : OutSame false s (execFrameBoundary g f u) := by
  unfold execFrameBoundary
  with_reducible repeat' (first | assumption | intro _ | apply State.settle_same | apply State.boundary_same | apply ite_same | apply foldl_same | apply outSame_next | apply ite_outSame | split | dsimp only)
theorem State.peerCheck_same {z : Bool} {s u : State} (h : Same z s u) (ident : Nat) : Same z s (State.peerCheck u ident) := by
  unfold State.peerCheck
  with_reducible repeat' (first | assumption | intro _ | apply State.toHoldover_same | apply State.raise_same | rfl | exact reanchor_fc _ | exact reanchor_locked _ | contradiction | apply ite_same | apply foldl_same | split | dsimp only | apply same_tb)
theorem State.beaconUse_same {z : Bool} {s u : State} (h : Same z s u) (sh : Nat) (ident : Nat) (theta : Int) : Same z s (State.beaconUse u sh ident theta) := by
  unfold State.beaconUse
  with_reducible repeat' (first | assumption | intro _ | apply State.measurePhase_same | rfl | exact reanchor_fc _ | exact reanchor_locked _ | contradiction | apply ite_same | apply foldl_same | split | dsimp only | apply same_tb)
theorem State.beaconPeer_same {z : Bool} {s u : State} (h : Same z s u) (sh : Nat) (ident : Nat) : Same z s (State.beaconPeer u sh ident) := by
  unfold State.beaconPeer
  with_reducible repeat' (first | assumption | intro _ | apply State.peerCheck_same | apply ite_same | apply foldl_same | split | dsimp only)
theorem execBeaconRx_same {z : Bool} {s u : State} (h : Same z s u) (sh : Nat) : OutSame z s (execBeaconRx sh u) := by
  unfold execBeaconRx
  with_reducible repeat' (first | assumption | intro _ | apply State.wn_same | apply State.setLnk_same | apply State.raise_same | apply State.wr64_same | apply State.beaconUse_same | apply State.beaconPeer_same | apply ite_same | apply foldl_same | apply outSame_next | apply ite_outSame | split | dsimp only)
theorem execBeaconLost_same {z : Bool} {s u : State} (h : Same z s u) (sh : Nat) : OutSame z s (execBeaconLost sh u) := by
  unfold execBeaconLost
  with_reducible repeat' (first | assumption | intro _ | apply State.timeLost_same | apply State.raise_same | apply State.setLnk_same | apply ite_same | apply foldl_same | apply outSame_next | apply ite_outSame | split | dsimp only)
theorem State.unitIn_same {z : Bool} {s u : State} (h : Same z s u) (q : Nat) (bytes : List Byte) : Same z s (State.unitIn u q bytes) := by
  unfold State.unitIn
  with_reducible repeat' (first | assumption | intro _ | apply State.offerUnit_same | apply State.setQue_same | apply ite_same | apply foldl_same | split | dsimp only)
theorem State.popFlit_same {z : Bool} {s u : State} (h : Same z s u) (sh : Nat) : Same z s (State.popFlit u sh) := by
  unfold State.popFlit
  with_reducible repeat' (first | assumption | intro _ | apply State.relData_same | apply State.setLnk_same | apply ite_same | apply foldl_same | split | dsimp only)
theorem State.setUnit_same {z : Bool} {s u : State} (h : Same z s u) (sh : Nat) (key : Nat) (v : Option (List Byte)) : Same z s (State.setUnit u sh key v) := by
  unfold State.setUnit
  with_reducible repeat' (first | assumption | intro _ | apply State.setLnk_same | apply ite_same | apply foldl_same | split | dsimp only)
theorem State.partVals_same {z : Bool} {s u : State} (h : Same z s u) (flits : List (List Byte)) (count : Nat) : Same z s (State.partVals u flits count).2 := by
  unfold State.partVals
  with_reducible repeat' (first | assumption | intro _ | apply State.drawInt_same | apply ite_same | apply foldl_same | apply ite_same2 | apply foldl_same2 | split | refine pairSame2 (by assumption) ?_ | dsimp only)
theorem execPartialRx_same {z : Bool} {s u : State} (h : Same z s u) (sh : Nat) : OutSame z s (execPartialRx sh u) := by
  unfold execPartialRx
  with_reducible repeat' (first | assumption | intro _ | apply State.popFlit_same | apply State.setUnit_same | apply State.partVals_same | apply State.takePartial_same | apply ite_same | apply foldl_same | apply ite_same2 | apply foldl_same2 | apply outSame_next | apply ite_outSame | split | refine pairSame2 (by assumption) ?_ | dsimp only)
theorem execBeaconTx_same {z : Bool} {s u : State} (h : Same z s u) (sh : Nat) : OutSame z s (execBeaconTx sh u) := by
  unfold execBeaconTx
  with_reducible repeat' (first | assumption | intro _ | apply State.setLnk_same | apply ite_same | apply foldl_same | apply outSame_next | apply ite_outSame | split | dsimp only)
theorem State.setNode_same {z : Bool} {s u : State} (h : Same z s u) (sh : Nat) (st : Nat) (x : NodeStream) : Same z s (State.setNode u sh st x) := by
  unfold State.setNode
  with_reducible repeat' (first | assumption | intro _ | apply State.nodeFollow_same | apply ite_same | apply foldl_same | split | dsimp only | apply same_nodes)
theorem execQueueFlitRx_same {z : Bool} {s u : State} (h : Same z s u) (sh : Nat) : OutSame z s (execQueueFlitRx sh u) := by
  unfold execQueueFlitRx
  with_reducible repeat' (first | assumption | intro _ | apply State.popFlit_same | apply State.setUnit_same | apply State.rxDiscard_same | apply State.unitIn_same | apply ite_same | apply foldl_same | apply outSame_next | apply ite_outSame | split | dsimp only)
theorem execDeclareRx_same {z : Bool} {s u : State} (h : Same z s u) (sh : Nat) : OutSame z s (execDeclareRx sh u) := by
  unfold execDeclareRx
  with_reducible repeat' (first | assumption | intro _ | apply State.popFlit_same | apply State.rxDiscard_same | apply State.setNode_same | apply ite_same | apply foldl_same | apply outSame_next | apply ite_outSame | split | dsimp only)
theorem execSampleRx_same {z : Bool} {s u : State} (h : Same z s u) (sh : Nat) (full : List Nat) : OutSame z s (execSampleRx sh full u) := by
  unfold execSampleRx
  with_reducible repeat' (first | assumption | intro _ | apply State.popFlit_same | apply State.rxDiscard_same | apply State.setNode_same | apply State.takeSample_same | apply ite_same | apply foldl_same | apply outSame_next | apply ite_outSame | split | dsimp only)
theorem State.setRxs_same {z : Bool} {s u : State} (h : Same z s u) (n : Nat) (x : RxStream) : Same z s (State.setRxs u n x) := by
  unfold State.setRxs
  with_reducible repeat' (first | assumption | intro _ | apply ite_same | apply foldl_same | split | dsimp only | apply same_rxs)
theorem State.rxWrite_same {z : Bool} {s u : State} (h : Same z s u) (n : Nat) (p : HeldPkt) : Same z s (State.rxWrite u n p) := by
  unfold State.rxWrite
  with_reducible repeat' (first | assumption | intro _ | apply State.setRxs_same | apply State.unitIn_same | apply ite_same | apply foldl_same | split | dsimp only)
theorem State.rxDrain_same {z : Bool} {s u : State} (h : Same z s u) (n : Nat) (a2 : Nat) : Same z s (State.rxDrain u n a2) := by
  induction a2 generalizing u with
  | zero => unfold State.rxDrain; with_reducible repeat' (first | assumption | intro _ | apply State.setRxs_same | apply State.rxWrite_same | apply ite_same | apply foldl_same | split | dsimp only)
  | succ n ih => unfold State.rxDrain; with_reducible repeat' (first | assumption | apply ih | intro _ | apply State.setRxs_same | apply State.rxWrite_same | apply ite_same | apply foldl_same | split | dsimp only)
theorem State.rxLost_same {z : Bool} {s u : State} (h : Same z s u) (n : Nat) (a2 : Nat) : Same z s (State.rxLost u n a2) := by
  induction a2 generalizing u with
  | zero => unfold State.rxLost; with_reducible repeat' (first | assumption | intro _ | apply State.setRxs_same | apply State.raise_same | apply State.ethCount_same | apply State.rxDrain_same | apply ite_same | apply foldl_same | split | dsimp only)
  | succ n ih => unfold State.rxLost; with_reducible repeat' (first | assumption | apply ih | intro _ | apply State.setRxs_same | apply State.raise_same | apply State.ethCount_same | apply State.rxDrain_same | apply ite_same | apply foldl_same | split | dsimp only)
theorem State.rxPacket_same {z : Bool} {s u : State} (h : Same z s u) (p : Nat) (n : Nat) (b : List Byte) : Same z s (State.rxPacket u p n b) := by
  unfold State.rxPacket
  with_reducible repeat' (first | assumption | intro _ | apply State.raise_same | apply State.ethCount_same | apply State.setRxs_same | apply State.rxDrain_same | apply State.rxWrite_same | apply State.rxLost_same | apply ite_same | apply foldl_same | split | dsimp only)
theorem execMergeTimeout_same {z : Bool} {s u : State} (h : Same z s u) (n : Nat) : OutSame z s (execMergeTimeout n u) := by
  unfold execMergeTimeout
  with_reducible repeat' (first | assumption | intro _ | apply State.rxLost_same | apply ite_same | apply foldl_same | apply outSame_next | apply ite_outSame | split | dsimp only)
theorem State.hostRx_same {z : Bool} {s u : State} (h : Same z s u) (p : Nat) (frame : List Byte) : Same z s (State.hostRx u p frame) := by
  unfold State.hostRx
  with_reducible repeat' (first | assumption | intro _ | apply State.ethCount_same | apply State.raise_same | apply State.setHring_same | apply State.emit_same | apply ite_same | apply foldl_same | split | dsimp only)
theorem execOversizeRequest_same {z : Bool} {s u : State} (h : Same z s u) (fn : Nat) (bar : Nat) (off : Nat) (len : Nat) (write : Bool) : OutSame z s (execOversizeRequest fn bar off len write u) := by
  unfold execOversizeRequest
  with_reducible repeat' (first | assumption | intro _ | apply State.flushHeld_same | apply State.emit_same | apply State.widthHit_same | apply ite_same | apply foldl_same | apply outSame_next | apply ite_outSame | split | dsimp only)
theorem State.apertureWord_same {z : Bool} {s u : State} (h : Same z s u) (off : Nat) (w : Wr) : Same z s (State.apertureWord u off w) := by
  unfold State.apertureWord
  with_reducible repeat' (first | assumption | intro _ | apply State.flushHeld_same | apply State.tabWrite_same | apply State.reservedHit_same | apply ite_same | apply foldl_same | split | dsimp only)
theorem State.msixEntry_same {z : Bool} {s u : State} (h : Same z s u) (v : Nat) (i : Nat) (w : Wr) : Same z s (State.msixEntry u v i w) := by
  unfold State.msixEntry
  with_reducible repeat' (first | assumption | intro _ | apply State.vecRelease_same | apply State.setVec_same | apply ite_same | apply foldl_same | split | dsimp only)
theorem State.doorbellWrite_same {s u : State} (h : Same false s u) (off : Nat) (w : Wr) : Same false s (State.doorbellWrite u off w) := by
  unfold State.doorbellWrite
  with_reducible repeat' (first | assumption | intro _ | apply State.doorbell_same | apply State.cmdPi_same | apply State.cplCiWrite_same | apply State.sourceBell_same | apply State.everyBell_same | apply State.deliveryTaken_same | apply State.reservedHit_same | apply State.flushHeld_same | apply ite_same | apply foldl_same | split | dsimp only)
theorem State.msixWrite_same {z : Bool} {s u : State} (h : Same z s u) (off : Nat) (w : Wr) : Same z s (State.msixWrite u off w) := by
  unfold State.msixWrite
  with_reducible repeat' (first | assumption | intro _ | apply State.flushHeld_same | apply State.reservedHit_same | apply State.msixEntry_same | apply State.mergeRaw_same | apply ite_same | apply foldl_same | split | dsimp only)
theorem execRegisterWrite_same {s u : State} (h : Same false s u) (bar : Nat) (off : Nat) (w : Wr) : OutSame false s (execRegisterWrite bar off w u) := by
  unfold execRegisterWrite
  with_reducible repeat' (first | assumption | intro _ | apply State.barStore_same | apply State.apertureWord_same | apply State.doorbellWrite_same | apply State.msixWrite_same | apply ite_same | apply foldl_same | apply outSame_next | apply ite_outSame | split | dsimp only)
theorem execReservedAccess_same {z : Bool} {s u : State} (h : Same z s u) (fn : Nat) (bar : Nat) (off : Nat) (write : Bool) : OutSame z s (execReservedAccess fn bar off write u) := by
  unfold execReservedAccess
  with_reducible repeat' (first | assumption | intro _ | apply State.flushHeld_same | apply State.reservedHit_same | apply State.emit_same | apply ite_same | apply foldl_same | apply outSame_next | apply ite_outSame | split | dsimp only)
theorem execAtomicOpRequest_same {z : Bool} {s u : State} (h : Same z s u) (fn : Nat) (addr : Nat) : OutSame z s (execAtomicOpRequest fn addr u) := by
  unfold execAtomicOpRequest
  with_reducible repeat' (first | assumption | intro _ | apply State.emit_same | apply State.flushHeld_same | apply ite_same | apply foldl_same | apply outSame_next | apply ite_outSame | split | dsimp only)
theorem State.datagram_same {s u : State} (h : Same false s u) (p : Nat) (frame : List Byte) (u0 : Nat) (six : Bool) (dst : Nat) (data : List Byte) : Same false s (State.datagram u p frame u0 six dst data) := by
  unfold State.datagram
  with_reducible repeat' (first | assumption | intro _ | apply State.heartbeat_same | apply State.netTrigger_same | apply State.envelopeIn_same | apply State.rxPacket_same | apply State.faultReport_same | apply State.hostRx_same | apply ite_same | apply foldl_same | split | dsimp only)
theorem State.monValue_same {z : Bool} {s u : State} (h : Same z s u) (j : Nat) (k0 : Nat) : Same z s (State.monValue u j k0).2 := by
  unfold State.monValue
  with_reducible repeat' (first | assumption | intro _ | apply State.peek_same | apply ite_same | apply foldl_same | apply ite_same2 | apply foldl_same2 | split | refine pairSame2 (by assumption) ?_ | dsimp only)
theorem execFrameRx_same {s u : State} (h : Same false s u) (p : Nat) (fcs : Bool) (frame : List Byte) : OutSame false s (execFrameRx p fcs frame u) := by
  unfold execFrameRx
  with_reducible repeat' (first | assumption | intro _ | apply State.ethCount_same | apply State.datagram_same | apply State.hostRx_same | apply ite_same | apply foldl_same | apply outSame_next | apply ite_outSame | split | dsimp only)
theorem State.monSnap_same {z : Bool} {s u : State} (h : Same z s u) (j : Nat) : Same z s (State.monSnap u j) := by
  unfold State.monSnap
  with_reducible repeat' (first | assumption | intro _ | apply State.monValue_same | apply State.offerMon_same | apply ite_same | apply foldl_same | apply ite_same2 | apply foldl_same2 | split | refine pairSame2 (by assumption) ?_ | dsimp only | apply same_monSeq_monAt)
theorem execMonSnapshot_same {z : Bool} {s u : State} (h : Same z s u) (j : Nat) : OutSame z s (execMonSnapshot j u) := by
  unfold execMonSnapshot
  with_reducible repeat' (first | assumption | intro _ | apply State.monSnap_same | apply ite_same | apply foldl_same | apply outSame_next | apply ite_outSame | split | dsimp only)

end Sys2Proof.Machine
end

