-- ==== Sys2Proof/Laws/FrameStep.lean ====
section
/-! SUPPORT. What every command leaves as it is. -/
set_option maxRecDepth 10000
namespace Sys2Proof.Machine

/-- Every command but the special ones leaves the queue, the phase clock, the test port and the reset pin. -/
theorem exec_same {s : State} (c : Instr) (hc : isSpecial c = false) : OutSame false s (exec c s) := by
  cases c with
  | registerWrite bar off w => exact execRegisterWrite_same (Same.refl false s) bar off w
  | tableApertureWrite fn data => exact execTableApertureWrite_same (Same.refl false s) fn data
  | reservedAccess fn bar off write => exact execReservedAccess_same (Same.refl false s) fn bar off write
  | oversizeRequest fn bar off len write => exact execOversizeRequest_same (Same.refl false s) fn bar off len write
  | atomicOpRequest fn addr => exact execAtomicOpRequest_same (Same.refl false s) fn addr
  | pairLoRead fn off => exact execPairLoRead_same (Same.refl false s) fn off
  | pairLoWrite off w => exact execPairLoWrite_same (Same.refl false s) off w
  | pairHiWrite off w => exact execPairHiWrite_same (Same.refl false s) off w
  | phasePllFirstLock => cases hc
  | phaseUnlock => exact execPhaseUnlock_same (Same.refl false s)
  | phaseRelock => exact execPhaseRelock_same (Same.refl false s)
  | ageingFold => exact execAgeingFold_same (Same.refl false s)
  | tbNowFracRead fn => exact execTbNowFracRead_same (Same.refl false s) fn
  | adjRateChange w => exact execAdjRateChange_same (Same.refl false s) w
  | adjSlewStart w => exact execAdjSlewStart_same (Same.refl false s) w
  | adjStep w => exact execAdjStep_same (Same.refl false s) w
  | adjAbort w => exact execAdjAbort_same (Same.refl false s) w
  | adjTrace w => exact execAdjTrace_same (Same.refl false s) w
  | slewDone => exact execSlewDone_same (Same.refl false s)
  | srcChangeDeclare w => exact execSrcChangeDeclare_same (Same.refl false s) w
  | changeOfSource w => exact execChangeOfSource_same (Same.refl false s) w
  | ppsInEdge sub => exact execPpsInEdge_same (Same.refl false s) sub
  | sourceQualified => exact execSourceQualified_same (Same.refl false s)
  | ppsLost => exact execPpsLost_same (Same.refl false s)
  | ref10mLost => exact execRef10mLost_same (Same.refl false s)
  | ref10mReturn => exact execRef10mReturn_same (Same.refl false s)
  | servoCorrection op => exact execServoCorrection_same (Same.refl false s) op
  | hostTraceTimeout => exact execHostTraceTimeout_same (Same.refl false s)
  | holdoverLimit => exact execHoldoverLimit_same (Same.refl false s)
  | tbTxtsPop fn m => exact execTbTxtsPop_same (Same.refl false s) fn m
  | edgeCapture n ix rising => exact execEdgeCapture_same (Same.refl false s) n ix rising
  | timTagPop fn n => exact execTimTagPop_same (Same.refl false s) fn n
  | timCalStart w => exact execTimCalStart_same (Same.refl false s) w
  | timCoreStart p w => exact execTimCoreStart_same (Same.refl false s) p w
  | timCalPeriodic => exact execTimCalPeriodic_same (Same.refl false s)
  | timCalRunEnd p counts temp => exact execTimCalRunEnd_same (Same.refl false s) p counts temp
  | timCalStale p temp => exact execTimCalStale_same (Same.refl false s) p temp
  | tdcSpareSwitch n => exact execTdcSpareSwitch_same (Same.refl false s) n
  | freqGateEnd x => exact execFreqGateEnd_same (Same.refl false s) x
  | cgLost g => exact execCgLost_same (Same.refl false s) g
  | refEnWrite g w => exact execRefEnWrite_same (Same.refl false s) g w
  | cnvRefOk g => exact execCnvRefOk_same (Same.refl false s) g
  | cnvApply g w => exact execCnvApply_same (Same.refl false s) g w
  | cnvPllLocked g => exact execCnvPllLocked_same (Same.refl false s) g
  | pllUnlock g => exact execPllUnlock_same (Same.refl false s) g
  | pllRelock g => exact execPllRelock_same (Same.refl false s) g
  | cnvLocked g => exact execCnvLocked_same (Same.refl false s) g
  | lockLost g => exact execLockLost_same (Same.refl false s) g
  | surveyStepEnd g res => exact execSurveyStepEnd_same (Same.refl false s) g res
  | sliceMonitorWindow ix sl mean power loud stuck => exact execSliceMonitorWindow_same (Same.refl false s) ix sl mean power loud stuck
  | surveyEnWrite g w => exact execSurveyEnWrite_same (Same.refl false s) g w
  | cnvInEnWrite ix w => exact execCnvInEnWrite_same (Same.refl false s) ix w
  | dieLinkDown d => exact execDieLinkDown_same (Same.refl false s) d
  | dieLinkUp d => exact execDieLinkUp_same (Same.refl false s) d
  | chpBind win w => exact execChpBind_same (Same.refl false s) win w
  | chpUnbind win w => exact execChpUnbind_same (Same.refl false s) win w
  | chpCommit win w => exact execChpCommit_same (Same.refl false s) win w
  | districtWindowWrite d off w => exact execDistrictWindowWrite_same (Same.refl false s) d off w
  | frameBoundary g f => exact execFrameBoundary_same (Same.refl false s) g f
  | blankEdge line asserted => exact execBlankEdge_same (Same.refl false s) line asserted
  | sourceSample n ix x => exact execSourceSample_same (Same.refl false s) n ix x
  | cgTag g ix => exact execCgTag_same (Same.refl false s) g ix
  | cgTagMissing g => exact execCgTagMissing_same (Same.refl false s) g
  | coastTimeout g => exact execCoastTimeout_same (Same.refl false s) g
  | gridSampleEmit n => exact execGridSampleEmit_same (Same.refl false s) n
  | sourceResume n => exact execSourceResume_same (Same.refl false s) n
  | spectrumReady n => exact execSpectrumReady_same (Same.refl false s) n
  | beamSum b => exact execBeamSum_same (Same.refl false s) b
  | chainWaitExpiry b => exact execChainWaitExpiry_same (Same.refl false s) b
  | bfmCommit w => exact execBfmCommit_same (Same.refl false s) w
  | bmacFail a => exact execBmacFail_same (Same.refl false s) a
  | integrationEnd n ofBeam => exact execIntegrationEnd_same (Same.refl false s) n ofBeam
  | itemComplete => exact execItemComplete_same (Same.refl false s)
  | sfeBind w => exact execSfeBind_same (Same.refl false s) w
  | sfeUnbind w => exact execSfeUnbind_same (Same.refl false s) w
  | sfeCommit w => exact execSfeCommit_same (Same.refl false s) w
  | excRampEnd q => exact execExcRampEnd_same (Same.refl false s) q
  | excRangeSettled q => exact execExcRangeSettled_same (Same.refl false s) q
  | excSenseMeasure q sense limit => exact execExcSenseMeasure_same (Same.refl false s) q sense limit
  | pcvCycleStart p => exact execPcvCycleStart_same (Same.refl false s) p
  | pcvEntryEnd p convs => exact execPcvEntryEnd_same (Same.refl false s) p convs
  | pcvUrgGo p w => exact execPcvUrgGo_same (Same.refl false s) p w
  | urgentArrive p => exact execUrgentArrive_same (Same.refl false s) p
  | pcvRefEnWrite w => exact execPcvRefEnWrite_same (Same.refl false s) w
  | pcvRefOk => exact execPcvRefOk_same (Same.refl false s)
  | pauseEnd => exact execPauseEnd_same (Same.refl false s)
  | pcvMidscaleCheck p err => exact execPcvMidscaleCheck_same (Same.refl false s) p err
  | trimPageLoad n badA badB => exact execTrimPageLoad_same (Same.refl false s) n badA badB
  | calMeasureDone conv zero ref temp => exact execCalMeasureDone_same (Same.refl false s) conv zero ref temp
  | nvmCopyWritten ok => exact execNvmCopyWritten_same (Same.refl false s) ok
  | trgArm t w => exact execTrgArm_same (Same.refl false s) t w
  | trgDisarm t w => exact execTrgDisarm_same (Same.refl false s) t w
  | triggerOffer => exact execTriggerOffer_same (Same.refl false s)
  | trgPulseEnd => exact execTrgPulseEnd_same (Same.refl false s)
  | trgRearm t => exact execTrgRearm_same (Same.refl false s) t
  | ilineEdge n low => exact execIlineEdge_same (Same.refl false s) n low
  | ilineStuck n => exact execIlineStuck_same (Same.refl false s) n
  | netTriggerRx port data => exact execNetTriggerRx_same (Same.refl false s) port data
  | trgOutFire t w => exact execTrgOutFire_same (Same.refl false s) t w
  | trgNetClr w => exact execTrgNetClr_same (Same.refl false s) w
  | captureClose seq => exact execCaptureClose_same (Same.refl false s) seq
  | ringCtlWrite w => exact execRingCtlWrite_same (Same.refl false s) w
  | cmpRawWrite n w => exact execCmpRawWrite_same (Same.refl false s) n w
  | tileClose rec n offered => exact execTileClose_same (Same.refl false s) rec n offered
  | encResume q => exact execEncResume_same (Same.refl false s) q
  | cmpEngFault x => exact execCmpEngFault_same (Same.refl false s) x
  | recordTileFlush q => exact execRecordTileFlush_same (Same.refl false s) q
  | cmpJobPiWrite b w => exact execCmpJobPiWrite_same (Same.refl false s) b w
  | cmpJobDisable b w => exact execCmpJobDisable_same (Same.refl false s) b w
  | jobDecode b fail desc src => exact execJobDecode_same (Same.refl false s) b fail desc src
  | cmpJobMore b w => exact execCmpJobMore_same (Same.refl false s) b w
  | cmpJobAbort b w => exact execCmpJobAbort_same (Same.refl false s) b w
  | queEnable w => exact execQueEnable_same (Same.refl false s) w
  | queDisable w => exact execQueDisable_same (Same.refl false s) w
  | queFlush w => exact execQueFlush_same (Same.refl false s) w
  | plotRequest q => exact execPlotRequest_same (Same.refl false s) q
  | plotRetry q => exact execPlotRetry_same (Same.refl false s) q
  | unitWrite q => exact execUnitWrite_same (Same.refl false s) q
  | plotCopyDone => exact execPlotCopyDone_same (Same.refl false s)
  | egressFrame k pick cut => exact execEgressFrame_same (Same.refl false s) k pick cut
  | egressStall q => exact execEgressStall_same (Same.refl false s) q
  | plotEccError id off uncorr => exact execPlotEccError_same (Same.refl false s) id off uncorr
  | pqFlush n part w => exact execPqFlush_same (Same.refl false s) n part w
  | popStallTimeout n => exact execPopStallTimeout_same (Same.refl false s) n
  | sysPqMonPop fn j => exact execSysPqMonPop_same (Same.refl false s) fn j
  | monSnapshot j => exact execMonSnapshot_same (Same.refl false s) j
  | arbDecision k l lines bad => exact execArbDecision_same (Same.refl false s) k l lines bad
  | sheetStart sh w => exact execSheetStart_same (Same.refl false s) sh w
  | sheetStop sh w => exact execSheetStop_same (Same.refl false s) sh w
  | laneDetectDone sh l => exact execLaneDetectDone_same (Same.refl false s) sh l
  | laneLockDone sh l => exact execLaneLockDone_same (Same.refl false s) sh l
  | laneEqDone sh l margins => exact execLaneEqDone_same (Same.refl false s) sh l margins
  | laneAlignDone sh l ident inv => exact execLaneAlignDone_same (Same.refl false s) sh l ident inv
  | sheetUp sh skew => exact execSheetUp_same (Same.refl false s) sh skew
  | bringupStageTimeout sh l => exact execBringupStageTimeout_same (Same.refl false s) sh l
  | bringupRetry sh => exact execBringupRetry_same (Same.refl false s) sh
  | laneLos sh l => exact execLaneLos_same (Same.refl false s) sh l
  | laneLosClear sh l => exact execLaneLosClear_same (Same.refl false s) sh l
  | laneLol sh l => exact execLaneLol_same (Same.refl false s) sh l
  | eyeMeasure sh l v h0 => exact execEyeMeasure_same (Same.refl false s) sh l v h0
  | prbsLock sh l inv => exact execPrbsLock_same (Same.refl false s) sh l inv
  | prbsLost sh l n e0 => exact execPrbsLost_same (Same.refl false s) sh l n e0
  | prbsInject sh l w => exact execPrbsInject_same (Same.refl false s) sh l w
  | prbsClr sh l w => exact execPrbsClr_same (Same.refl false s) sh l w
  | sheetSub sh w => exact execSheetSub_same (Same.refl false s) sh w
  | narrowWrite sh w => exact execNarrowWrite_same (Same.refl false s) sh w
  | laneSleepWrite sh l w => exact execLaneSleepWrite_same (Same.refl false s) sh l w
  | trainingSetRx sh l data => exact execTrainingSetRx_same (Same.refl false s) sh l data
  | trainAttemptTimeout sh => exact execTrainAttemptTimeout_same (Same.refl false s) sh
  | trainBackoffEnd sh => exact execTrainBackoffEnd_same (Same.refl false s) sh
  | blockRx sh l ix syms => exact execBlockRx_same (Same.refl false s) sh l ix syms
  | flitRx sh => exact execFlitRx_same (Same.refl false s) sh
  | replayTimeout sh => exact execReplayTimeout_same (Same.refl false s) sh
  | claimRx sh => exact execClaimRx_same (Same.refl false s) sh
  | grantRx sh => exact execGrantRx_same (Same.refl false s) sh
  | refuseRx sh => exact execRefuseRx_same (Same.refl false s) sh
  | doneRx sh => exact execDoneRx_same (Same.refl false s) sh
  | spareReadyRx sh => exact execSpareReadyRx_same (Same.refl false s) sh
  | switchRx sh => exact execSwitchRx_same (Same.refl false s) sh
  | restoreRx sh => exact execRestoreRx_same (Same.refl false s) sh
  | commandRx sh => exact execCommandRx_same (Same.refl false s) sh
  | xchgTimeout sh => exact execXchgTimeout_same (Same.refl false s) sh
  | dozeIdle sh => exact execDozeIdle_same (Same.refl false s) sh
  | sampleRx sh full => exact execSampleRx_same (Same.refl false s) sh full
  | declareRx sh => exact execDeclareRx_same (Same.refl false s) sh
  | partialRx sh => exact execPartialRx_same (Same.refl false s) sh
  | queueFlitRx sh => exact execQueueFlitRx_same (Same.refl false s) sh
  | beaconTx sh => exact execBeaconTx_same (Same.refl false s) sh
  | beaconRx sh => exact execBeaconRx_same (Same.refl false s) sh
  | beaconLost sh => exact execBeaconLost_same (Same.refl false s) sh
  | frameRx p fcs frame => exact execFrameRx_same (Same.refl false s) p fcs frame
  | mergeTimeout n => exact execMergeTimeout_same (Same.refl false s) n
  | heartbeatRx p data => exact execHeartbeatRx_same (Same.refl false s) p data
  | heartbeatTx => exact execHeartbeatTx_same (Same.refl false s)
  | heartbeatTimeout p => exact execHeartbeatTimeout_same (Same.refl false s) p
  | portFaultHeld p => exact execPortFaultHeld_same (Same.refl false s) p
  | routeSideWrite j w => exact execRouteSideWrite_same (Same.refl false s) j w
  | rewindExpiry q => exact execRewindExpiry_same (Same.refl false s) q
  | htxPiWrite m w descs => exact execHtxPiWrite_same (Same.refl false s) m w descs
  | hrxPiWrite m w bufs => exact execHrxPiWrite_same (Same.refl false s) m w bufs
  | functionLevelReset fn => exact execFunctionLevelReset_same (Same.refl false s) fn
  | vfDisable n => exact execVfDisable_same (Same.refl false s) n
  | pcieLinkDown => exact execPcieLinkDown_same (Same.refl false s)
  | pcieLinkUp => exact execPcieLinkUp_same (Same.refl false s)
  | ptmStart w => exact execPtmStart_same (Same.refl false s) w
  | ptmDialog => exact execPtmDialog_same (Same.refl false s)
  | ptmResponseRx master delay => exact execPtmResponseRx_same (Same.refl false s) master delay
  | ptmTimeout => exact execPtmTimeout_same (Same.refl false s)
  | msixModerationEnd fn v => exact execMsixModerationEnd_same (Same.refl false s) fn v
  | msixUnmask fn op => exact execMsixUnmask_same (Same.refl false s) fn op
  | dbCmdPiWrite r w data => exact execDbCmdPiWrite_same (Same.refl false s) r w data
  | dbCplCiWrite r w => exact execDbCplCiWrite_same (Same.refl false s) r w
  | cmdEnvelopeRx port addr udp ahead data => exact execCmdEnvelopeRx_same (Same.refl false s) port addr udp ahead data
  | cmdKeyLoad w => exact execCmdKeyLoad_same (Same.refl false s) w
  | cmdKeyClear w => exact execCmdKeyClear_same (Same.refl false s) w
  | cringEnable b r w => exact execCringEnable_same (Same.refl false s) b r w
  | padOpcode p => exact execPadOpcode_same (Same.refl false s) p
  | cfgIdent p => exact execCfgIdent_same (Same.refl false s) p
  | cfgHubId p => exact execCfgHubId_same (Same.refl false s) p
  | cfgKeyLoad p => exact execCfgKeyLoad_same (Same.refl false s) p
  | cfgKeyClear p => exact execCfgKeyClear_same (Same.refl false s) p
  | cfgKeyOwn p => exact execCfgKeyOwn_same (Same.refl false s) p
  | cfgUdp p => exact execCfgUdp_same (Same.refl false s) p
  | cfgRegRead p => exact execCfgRegRead_same (Same.refl false s) p
  | cfgRegWrite p => exact execCfgRegWrite_same (Same.refl false s) p
  | cfgTableWrite p => exact execCfgTableWrite_same (Same.refl false s) p
  | cfgTableRead p => exact execCfgTableRead_same (Same.refl false s) p
  | cnvGroup p => exact execCnvGroup_same (Same.refl false s) p
  | cnvInputEn p => exact execCnvInputEn_same (Same.refl false s) p
  | cnvTrack p => exact execCnvTrack_same (Same.refl false s) p
  | cnvStatus p => exact execCnvStatus_same (Same.refl false s) p
  | brgQuota p => exact execBrgQuota_same (Same.refl false s) p
  | brgGrant p => exact execBrgGrant_same (Same.refl false s) p
  | brgRevoke p => exact execBrgRevoke_same (Same.refl false s) p
  | brgBeams p => exact execBrgBeams_same (Same.refl false s) p
  | brgReset p => exact execBrgReset_same (Same.refl false s) p
  | brgStatus p => exact execBrgStatus_same (Same.refl false s) p
  | pipeSource p => exact execPipeSource_same (Same.refl false s) p
  | pipeBind p => exact execPipeBind_same (Same.refl false s) p
  | pipeDelay p => exact execPipeDelay_same (Same.refl false s) p
  | pipeUnbind p => exact execPipeUnbind_same (Same.refl false s) p
  | pipeMix p => exact execPipeMix_same (Same.refl false s) p
  | pipeDecimate p => exact execPipeDecimate_same (Same.refl false s) p
  | pipeResample p => exact execPipeResample_same (Same.refl false s) p
  | pipeChannel p => exact execPipeChannel_same (Same.refl false s) p
  | pipeReduce p => exact execPipeReduce_same (Same.refl false s) p
  | pipeRoute p => exact execPipeRoute_same (Same.refl false s) p
  | pipeIntake p => exact execPipeIntake_same (Same.refl false s) p
  | pipeCommit p => exact execPipeCommit_same (Same.refl false s) p
  | pipeFpd p => exact execPipeFpd_same (Same.refl false s) p
  | pipeDistrict p => exact execPipeDistrict_same (Same.refl false s) p
  | pipeRaw p => exact execPipeRaw_same (Same.refl false s) p
  | pipeStatus p => exact execPipeStatus_same (Same.refl false s) p
  | beamSet p => exact execBeamSet_same (Same.refl false s) p
  | beamDisable p => exact execBeamDisable_same (Same.refl false s) p
  | beamIset p => exact execBeamIset_same (Same.refl false s) p
  | beamWeights p => exact execBeamWeights_same (Same.refl false s) p
  | beamStatus p => exact execBeamStatus_same (Same.refl false s) p
  | beamLoad p => exact execBeamLoad_same (Same.refl false s) p
  | gridDefine p => exact execGridDefine_same (Same.refl false s) p
  | gridClear p => exact execGridClear_same (Same.refl false s) p
  | gridRead p => exact execGridRead_same (Same.refl false s) p
  | gridIndex p => exact execGridIndex_same (Same.refl false s) p
  | queueConfig p => exact execQueueConfig_same (Same.refl false s) p
  | queueEnable p => exact execQueueEnable_same (Same.refl false s) p
  | queueDisable p => exact execQueueDisable_same (Same.refl false s) p
  | queueFlush p => exact execQueueFlush_same (Same.refl false s) p
  | queueStatus p => exact execQueueStatus_same (Same.refl false s) p
  | queueChain p => exact execQueueChain_same (Same.refl false s) p
  | queueDeliver p => exact execQueueDeliver_same (Same.refl false s) p
  | plotStatus p => exact execPlotStatus_same (Same.refl false s) p
  | plotEscape p => exact execPlotEscape_same (Same.refl false s) p
  | plotLow p => exact execPlotLow_same (Same.refl false s) p
  | plotCounters p => exact execPlotCounters_same (Same.refl false s) p
  | timeRead p => exact execTimeRead_same (Same.refl false s) p
  | timeAdjust p => exact execTimeAdjust_same (Same.refl false s) p
  | timeSource p => exact execTimeSource_same (Same.refl false s) p
  | timeAge p => exact execTimeAge_same (Same.refl false s) p
  | timePpsDelay p => exact execTimePpsDelay_same (Same.refl false s) p
  | timeTaiUtc p => exact execTimeTaiUtc_same (Same.refl false s) p
  | timeStatus p => exact execTimeStatus_same (Same.refl false s) p
  | timeEdge p => exact execTimeEdge_same (Same.refl false s) p
  | timeFreq p => exact execTimeFreq_same (Same.refl false s) p
  | timeFreqRead p => exact execTimeFreqRead_same (Same.refl false s) p
  | timePtm p => exact execTimePtm_same (Same.refl false s) p
  | trigArm p => exact execTrigArm_same (Same.refl false s) p
  | trigDisarm p => exact execTrigDisarm_same (Same.refl false s) p
  | trigFire p => exact execTrigFire_same (Same.refl false s) p
  | trigSrcSkew p => exact execTrigSrcSkew_same (Same.refl false s) p
  | trigRing p => exact execTrigRing_same (Same.refl false s) p
  | trigCapset p => exact execTrigCapset_same (Same.refl false s) p
  | trigNet p => exact execTrigNet_same (Same.refl false s) p
  | trigStream p => exact execTrigStream_same (Same.refl false s) p
  | trigStatus p => exact execTrigStatus_same (Same.refl false s) p
  | calTrimRepair p => exact execCalTrimRepair_same (Same.refl false s) p
  | calUserMeasure p => exact execCalUserMeasure_same (Same.refl false s) p
  | calUserWrite p => exact execCalUserWrite_same (Same.refl false s) p
  | calTim p => exact execCalTim_same (Same.refl false s) p
  | calTimPeriod p => exact execCalTimPeriod_same (Same.refl false s) p
  | calSliceTrim p => exact execCalSliceTrim_same (Same.refl false s) p
  | calSurvey p => exact execCalSurvey_same (Same.refl false s) p
  | calSurveyStep p => exact execCalSurveyStep_same (Same.refl false s) p
  | calPageRead p => exact execCalPageRead_same (Same.refl false s) p
  | feBind p => exact execFeBind_same (Same.refl false s) p
  | feUnbind p => exact execFeUnbind_same (Same.refl false s) p
  | feExcitation p => exact execFeExcitation_same (Same.refl false s) p
  | feChannel p => exact execFeChannel_same (Same.refl false s) p
  | feSequence p => exact execFeSequence_same (Same.refl false s) p
  | feRoute p => exact execFeRoute_same (Same.refl false s) p
  | feBlank p => exact execFeBlank_same (Same.refl false s) p
  | feLin p => exact execFeLin_same (Same.refl false s) p
  | feUrgent p => exact execFeUrgent_same (Same.refl false s) p
  | feRef p => exact execFeRef_same (Same.refl false s) p
  | feStatus p => exact execFeStatus_same (Same.refl false s) p
  | laneSheet p => exact execLaneSheet_same (Same.refl false s) p
  | laneTune p => exact execLaneTune_same (Same.refl false s) p
  | laneSubst p => exact execLaneSubst_same (Same.refl false s) p
  | laneNarrow p => exact execLaneNarrow_same (Same.refl false s) p
  | lanePrbs p => exact execLanePrbs_same (Same.refl false s) p
  | laneStatus p => exact execLaneStatus_same (Same.refl false s) p
  | linkConfig p => exact execLinkConfig_same (Same.refl false s) p
  | linkRxmap p => exact execLinkRxmap_same (Same.refl false s) p
  | linkStatus p => exact execLinkStatus_same (Same.refl false s) p
  | routeMac p => exact execRouteMac_same (Same.refl false s) p
  | routePair p => exact execRoutePair_same (Same.refl false s) p
  | routeSide p => exact execRouteSide_same (Same.refl false s) p
  | routePolicy p => exact execRoutePolicy_same (Same.refl false s) p
  | routeHeartbeat p => exact execRouteHeartbeat_same (Same.refl false s) p
  | routeStream p => exact execRouteStream_same (Same.refl false s) p
  | routeAddress p => exact execRouteAddress_same (Same.refl false s) p
  | routePort p => exact execRoutePort_same (Same.refl false s) p
  | routeStatus p => exact execRouteStatus_same (Same.refl false s) p
  | gazRoot p => exact execGazRoot_same (Same.refl false s) p
  | gazRegister p => exact execGazRegister_same (Same.refl false s) p
  | gazRemove p => exact execGazRemove_same (Same.refl false s) p
  | gazRead p => exact execGazRead_same (Same.refl false s) p
  | gazDistrict p => exact execGazDistrict_same (Same.refl false s) p
  | gazSend p => exact execGazSend_same (Same.refl false s) p
  | gazCounts p => exact execGazCounts_same (Same.refl false s) p
  | gazDigest p => exact execGazDigest_same (Same.refl false s) p
  | logHead p => exact execLogHead_same (Same.refl false s) p
  | logRead p => exact execLogRead_same (Same.refl false s) p
  | logChallenge p => exact execLogChallenge_same (Same.refl false s) p
  | logClear p => exact execLogClear_same (Same.refl false s) p
  | logKey p => exact execLogKey_same (Same.refl false s) p
  | logRepeat p => exact execLogRepeat_same (Same.refl false s) p
  | powerDown p => exact execPowerDown_same (Same.refl false s) p
  | powerUp p => exact execPowerUp_same (Same.refl false s) p
  | powerHold p => exact execPowerHold_same (Same.refl false s) p
  | powerStatus p => exact execPowerStatus_same (Same.refl false s) p
  | sparePolicy p => exact execSparePolicy_same (Same.refl false s) p
  | spareSlice p => exact execSpareSlice_same (Same.refl false s) p
  | spareEngine p => exact execSpareEngine_same (Same.refl false s) p
  | spareSlot p => exact execSpareSlot_same (Same.refl false s) p
  | spareTdc p => exact execSpareTdc_same (Same.refl false s) p
  | sparePcv p => exact execSparePcv_same (Same.refl false s) p
  | spareBmac p => exact execSpareBmac_same (Same.refl false s) p
  | spareCore p => exact execSpareCore_same (Same.refl false s) p
  | sparePlot p => exact execSparePlot_same (Same.refl false s) p
  | spareMram p => exact execSpareMram_same (Same.refl false s) p
  | spareInventory p => exact execSpareInventory_same (Same.refl false s) p
  | diagEcho p => exact execDiagEcho_same (Same.refl false s) p
  | diagSelftest p => exact execDiagSelftest_same (Same.refl false s) p
  | diagBeamSat p => exact execDiagBeamSat_same (Same.refl false s) p
  | diagTemps p => exact execDiagTemps_same (Same.refl false s) p
  | brgCtlReset b w => exact execBrgCtlReset_same (Same.refl false s) b w
  | boroughResetDone b => exact execBoroughResetDone_same (Same.refl false s) b
  | deliveryDoorbell ix w => exact execDeliveryDoorbell_same (Same.refl false s) ix w
  | cmdRateWindow => exact execCmdRateWindow_same (Same.refl false s)
  | dbEvtSrc w => exact execDbEvtSrc_same (Same.refl false s) w
  | dbEvtAll w => exact execDbEvtAll_same (Same.refl false s) w
  | gazCopyTx d => exact execGazCopyTx_same (Same.refl false s) d
  | gazRetry d e0 => exact execGazRetry_same (Same.refl false s) d e0
  | gazOutcomeRx e0 env => exact execGazOutcomeRx_same (Same.refl false s) e0 env
  | gazCollectEnd d => exact execGazCollectEnd_same (Same.refl false s) d
  | faultReportRx payload => exact execFaultReportRx_same (Same.refl false s) payload
  | digestClose subject cls => exact execDigestClose_same (Same.refl false s) subject cls
  | evtWindowEnd => exact execEvtWindowEnd_same (Same.refl false s)
  | evtPendWrite k w => exact execEvtPendWrite_same (Same.refl false s) k w
  | logWrite fails => exact execLogWrite_same (Same.refl false s) fails
  | logScan => exact execLogScan_same (Same.refl false s)
  | pwrDown d w => exact execPwrDown_same (Same.refl false s) d w
  | pwrUp d w => exact execPwrUp_same (Same.refl false s) d w
  | drainComplete d => exact execDrainComplete_same (Same.refl false s) d
  | drainTimeout d => exact execDrainTimeout_same (Same.refl false s) d
  | wakeComplete d => exact execWakeComplete_same (Same.refl false s) d
  | wakeTimeout d => exact execWakeTimeout_same (Same.refl false s) d
  | engFail p corrected => exact execEngFail_same (Same.refl false s) p corrected
  | slotFail n => exact execSlotFail_same (Same.refl false s) n
  | coreFail k dog run => exact execCoreFail_same (Same.refl false s) k dog run
  | porAssert _ => cases hc
  | aonMonitorReset _ => cases hc
  | supplyFault => exact execSupplyFault_same (Same.refl false s)
  | porRelease => cases hc
  | xoFail => cases hc
  | stackTrainingDone failed => exact execStackTrainingDone_same (Same.refl false s) failed
  | startDone cd ld => exact execStartDone_same (Same.refl false s) cd ld
  | warmNRequest => exact execWarmNRequest_same (Same.refl false s)
  | warmRegRequest w => exact execWarmRegRequest_same (Same.refl false s) w
  | fwRestartRequest w => exact execFwRestartRequest_same (Same.refl false s) w
  | warmResetDone => exact execWarmResetDone_same (Same.refl false s)
  | fwRunning => exact execFwRunning_same (Same.refl false s)
  | fwWatchdog => exact execFwWatchdog_same (Same.refl false s)
  | fwStarted => exact execFwStarted_same (Same.refl false s)
  | imageVerify w => exact execImageVerify_same (Same.refl false s) w
  | mgbXferGo w => exact execMgbXferGo_same (Same.refl false s) w
  | mgbXferDone code nbytes data => exact execMgbXferDone_same (Same.refl false s) code nbytes data
  | mgbPoll ix code val => exact execMgbPoll_same (Same.refl false s) ix code val
  | alertNAssert addr => exact execAlertNAssert_same (Same.refl false s) addr
  | alertRepeat low addr => exact execAlertRepeat_same (Same.refl false s) low addr
  | mgbSigCfgWrite n w => exact execMgbSigCfgWrite_same (Same.refl false s) n w
  | mgbEdgePush w => exact execMgbEdgePush_same (Same.refl false s) w
  | sigEdgeFire n => exact execSigEdgeFire_same (Same.refl false s) n
  | frameMarkerStart n => exact execFrameMarkerStart_same (Same.refl false s) n
  | frameMarkerEnd n => exact execFrameMarkerEnd_same (Same.refl false s) n
  | tapInstruction _ => cases hc
  | tapReset => cases hc
  | refclkGate dev => exact execRefclkGate_same (Same.refl false s) dev
  | refclkLost => exact execRefclkLost_same (Same.refl false s)
  | refclkBack => exact execRefclkBack_same (Same.refl false s)
  | pcieRefclkLost => exact execPcieRefclkLost_same (Same.refl false s)
  | clkPllRelock which => exact execClkPllRelock_same (Same.refl false s) which
  | currentLimit q => exact execCurrentLimit_same (Same.refl false s) q
  | fixedModeEdge => exact execFixedModeEdge_same (Same.refl false s)
  | pcsFault p kind => exact execPcsFault_same (Same.refl false s) p kind
  | pcsFaultClear p => exact execPcsFaultClear_same (Same.refl false s) p
  | blockTx sh ix => exact execBlockTx_same (Same.refl false s) sh ix
  | busMasterEnableWrite fn bme ptm => exact execBusMasterEnableWrite_same (Same.refl false s) fn bme ptm
  | clkPllUnlock which => exact execClkPllUnlock_same (Same.refl false s) which
  | aonMonitorRelease => exact execAonMonitorRelease_same (Same.refl false s)

/-- The retry of a queue that is no ring queue reaches no packet that waits. -/
theorem execPlotRetry_sameLow {z : Bool} {s u : State} (h : Same z s u) (q : Nat) (hq : q < 16128) : OutSame z s (execPlotRetry q u) := by
  unfold execPlotRetry
  simp only [Nat.not_le.mpr hq, if_false]
  with_reducible repeat' (first | assumption | intro _ | apply State.askPlot_same | apply ite_same | apply outSame_next | apply ite_outSame | split | refine pairSame2 (by assumption) ?_ | dsimp only)

/-- Every command but those, and but those that reach the logbook and the MRAM, leaves these as well. -/
theorem exec_same_true {s : State} (c : Instr) (hc : isSpecial c = false) (hd : reachesMram c = false) : OutSame true s (exec c s) := by
  cases c with
  | registerWrite _ _ _ => cases hd
  | tableApertureWrite fn data => exact execTableApertureWrite_same (Same.refl true s) fn data
  | reservedAccess fn bar off write => exact execReservedAccess_same (Same.refl true s) fn bar off write
  | oversizeRequest fn bar off len write => exact execOversizeRequest_same (Same.refl true s) fn bar off len write
  | atomicOpRequest fn addr => exact execAtomicOpRequest_same (Same.refl true s) fn addr
  | pairLoRead fn off => exact execPairLoRead_same (Same.refl true s) fn off
  | pairLoWrite off w => exact execPairLoWrite_same (Same.refl true s) off w
  | pairHiWrite off w => exact execPairHiWrite_same (Same.refl true s) off w
  | phasePllFirstLock => cases hc
  | phaseUnlock => exact execPhaseUnlock_same (Same.refl true s)
  | phaseRelock => exact execPhaseRelock_same (Same.refl true s)
  | ageingFold => exact execAgeingFold_same (Same.refl true s)
  | tbNowFracRead fn => exact execTbNowFracRead_same (Same.refl true s) fn
  | adjRateChange w => exact execAdjRateChange_same (Same.refl true s) w
  | adjSlewStart w => exact execAdjSlewStart_same (Same.refl true s) w
  | adjStep w => exact execAdjStep_same (Same.refl true s) w
  | adjAbort w => exact execAdjAbort_same (Same.refl true s) w
  | adjTrace w => exact execAdjTrace_same (Same.refl true s) w
  | slewDone => exact execSlewDone_same (Same.refl true s)
  | srcChangeDeclare w => exact execSrcChangeDeclare_same (Same.refl true s) w
  | changeOfSource w => exact execChangeOfSource_same (Same.refl true s) w
  | ppsInEdge sub => exact execPpsInEdge_same (Same.refl true s) sub
  | sourceQualified => exact execSourceQualified_same (Same.refl true s)
  | ppsLost => exact execPpsLost_same (Same.refl true s)
  | ref10mLost => exact execRef10mLost_same (Same.refl true s)
  | ref10mReturn => exact execRef10mReturn_same (Same.refl true s)
  | servoCorrection op => exact execServoCorrection_same (Same.refl true s) op
  | hostTraceTimeout => exact execHostTraceTimeout_same (Same.refl true s)
  | holdoverLimit => exact execHoldoverLimit_same (Same.refl true s)
  | tbTxtsPop fn m => exact execTbTxtsPop_same (Same.refl true s) fn m
  | edgeCapture n ix rising => exact execEdgeCapture_same (Same.refl true s) n ix rising
  | timTagPop fn n => exact execTimTagPop_same (Same.refl true s) fn n
  | timCalStart w => exact execTimCalStart_same (Same.refl true s) w
  | timCoreStart p w => exact execTimCoreStart_same (Same.refl true s) p w
  | timCalPeriodic => exact execTimCalPeriodic_same (Same.refl true s)
  | timCalRunEnd p counts temp => exact execTimCalRunEnd_same (Same.refl true s) p counts temp
  | timCalStale p temp => exact execTimCalStale_same (Same.refl true s) p temp
  | tdcSpareSwitch n => exact execTdcSpareSwitch_same (Same.refl true s) n
  | freqGateEnd x => exact execFreqGateEnd_same (Same.refl true s) x
  | cgLost g => exact execCgLost_same (Same.refl true s) g
  | refEnWrite g w => exact execRefEnWrite_same (Same.refl true s) g w
  | cnvRefOk g => exact execCnvRefOk_same (Same.refl true s) g
  | cnvApply g w => exact execCnvApply_same (Same.refl true s) g w
  | cnvPllLocked g => exact execCnvPllLocked_same (Same.refl true s) g
  | pllUnlock g => exact execPllUnlock_same (Same.refl true s) g
  | pllRelock g => exact execPllRelock_same (Same.refl true s) g
  | cnvLocked g => exact execCnvLocked_same (Same.refl true s) g
  | lockLost g => exact execLockLost_same (Same.refl true s) g
  | surveyStepEnd g res => exact execSurveyStepEnd_same (Same.refl true s) g res
  | sliceMonitorWindow ix sl mean power loud stuck => exact execSliceMonitorWindow_same (Same.refl true s) ix sl mean power loud stuck
  | surveyEnWrite g w => exact execSurveyEnWrite_same (Same.refl true s) g w
  | cnvInEnWrite ix w => exact execCnvInEnWrite_same (Same.refl true s) ix w
  | dieLinkDown d => exact execDieLinkDown_same (Same.refl true s) d
  | dieLinkUp d => exact execDieLinkUp_same (Same.refl true s) d
  | chpBind win w => exact execChpBind_same (Same.refl true s) win w
  | chpUnbind win w => exact execChpUnbind_same (Same.refl true s) win w
  | chpCommit win w => exact execChpCommit_same (Same.refl true s) win w
  | districtWindowWrite d off w => exact execDistrictWindowWrite_same (Same.refl true s) d off w
  | frameBoundary _ _ => cases hd
  | blankEdge line asserted => exact execBlankEdge_same (Same.refl true s) line asserted
  | sourceSample n ix x => exact execSourceSample_same (Same.refl true s) n ix x
  | cgTag g ix => exact execCgTag_same (Same.refl true s) g ix
  | cgTagMissing g => exact execCgTagMissing_same (Same.refl true s) g
  | coastTimeout g => exact execCoastTimeout_same (Same.refl true s) g
  | gridSampleEmit n => exact execGridSampleEmit_same (Same.refl true s) n
  | sourceResume n => exact execSourceResume_same (Same.refl true s) n
  | spectrumReady n => exact execSpectrumReady_same (Same.refl true s) n
  | beamSum b => exact execBeamSum_same (Same.refl true s) b
  | chainWaitExpiry b => exact execChainWaitExpiry_same (Same.refl true s) b
  | bfmCommit w => exact execBfmCommit_same (Same.refl true s) w
  | bmacFail a => exact execBmacFail_same (Same.refl true s) a
  | integrationEnd n ofBeam => exact execIntegrationEnd_same (Same.refl true s) n ofBeam
  | itemComplete => exact execItemComplete_same (Same.refl true s)
  | sfeBind w => exact execSfeBind_same (Same.refl true s) w
  | sfeUnbind w => exact execSfeUnbind_same (Same.refl true s) w
  | sfeCommit w => exact execSfeCommit_same (Same.refl true s) w
  | excRampEnd q => exact execExcRampEnd_same (Same.refl true s) q
  | excRangeSettled q => exact execExcRangeSettled_same (Same.refl true s) q
  | excSenseMeasure q sense limit => exact execExcSenseMeasure_same (Same.refl true s) q sense limit
  | pcvCycleStart p => exact execPcvCycleStart_same (Same.refl true s) p
  | pcvEntryEnd p convs => exact execPcvEntryEnd_same (Same.refl true s) p convs
  | pcvUrgGo p w => exact execPcvUrgGo_same (Same.refl true s) p w
  | urgentArrive p => exact execUrgentArrive_same (Same.refl true s) p
  | pcvRefEnWrite w => exact execPcvRefEnWrite_same (Same.refl true s) w
  | pcvRefOk => exact execPcvRefOk_same (Same.refl true s)
  | pauseEnd => exact execPauseEnd_same (Same.refl true s)
  | pcvMidscaleCheck p err => exact execPcvMidscaleCheck_same (Same.refl true s) p err
  | trimPageLoad _ _ _ => cases hd
  | calMeasureDone conv zero ref temp => exact execCalMeasureDone_same (Same.refl true s) conv zero ref temp
  | nvmCopyWritten _ => cases hd
  | trgArm t w => exact execTrgArm_same (Same.refl true s) t w
  | trgDisarm t w => exact execTrgDisarm_same (Same.refl true s) t w
  | triggerOffer => exact execTriggerOffer_same (Same.refl true s)
  | trgPulseEnd => exact execTrgPulseEnd_same (Same.refl true s)
  | trgRearm t => exact execTrgRearm_same (Same.refl true s) t
  | ilineEdge n low => exact execIlineEdge_same (Same.refl true s) n low
  | ilineStuck n => exact execIlineStuck_same (Same.refl true s) n
  | netTriggerRx port data => exact execNetTriggerRx_same (Same.refl true s) port data
  | trgOutFire t w => exact execTrgOutFire_same (Same.refl true s) t w
  | trgNetClr w => exact execTrgNetClr_same (Same.refl true s) w
  | captureClose seq => exact execCaptureClose_same (Same.refl true s) seq
  | ringCtlWrite w => exact execRingCtlWrite_same (Same.refl true s) w
  | cmpRawWrite n w => exact execCmpRawWrite_same (Same.refl true s) n w
  | tileClose rec n offered => exact execTileClose_same (Same.refl true s) rec n offered
  | encResume q => exact execEncResume_same (Same.refl true s) q
  | cmpEngFault x => exact execCmpEngFault_same (Same.refl true s) x
  | recordTileFlush q => exact execRecordTileFlush_same (Same.refl true s) q
  | cmpJobPiWrite b w => exact execCmpJobPiWrite_same (Same.refl true s) b w
  | cmpJobDisable b w => exact execCmpJobDisable_same (Same.refl true s) b w
  | jobDecode b fail desc src => exact execJobDecode_same (Same.refl true s) b fail desc src
  | cmpJobMore b w => exact execCmpJobMore_same (Same.refl true s) b w
  | cmpJobAbort b w => exact execCmpJobAbort_same (Same.refl true s) b w
  | queEnable w => exact execQueEnable_same (Same.refl true s) w
  | queDisable w => exact execQueDisable_same (Same.refl true s) w
  | queFlush w => exact execQueFlush_same (Same.refl true s) w
  | plotRequest q => exact execPlotRequest_same (Same.refl true s) q
  | plotRetry q => exact execPlotRetry_sameLow (Same.refl true s) q (by simpa [reachesMram] using hd)
  | unitWrite q => exact execUnitWrite_same (Same.refl true s) q
  | plotCopyDone => exact execPlotCopyDone_same (Same.refl true s)
  | egressFrame k pick cut => exact execEgressFrame_same (Same.refl true s) k pick cut
  | egressStall q => exact execEgressStall_same (Same.refl true s) q
  | plotEccError id off uncorr => exact execPlotEccError_same (Same.refl true s) id off uncorr
  | pqFlush n part w => exact execPqFlush_same (Same.refl true s) n part w
  | popStallTimeout n => exact execPopStallTimeout_same (Same.refl true s) n
  | sysPqMonPop fn j => exact execSysPqMonPop_same (Same.refl true s) fn j
  | monSnapshot j => exact execMonSnapshot_same (Same.refl true s) j
  | arbDecision k l lines bad => exact execArbDecision_same (Same.refl true s) k l lines bad
  | sheetStart sh w => exact execSheetStart_same (Same.refl true s) sh w
  | sheetStop sh w => exact execSheetStop_same (Same.refl true s) sh w
  | laneDetectDone sh l => exact execLaneDetectDone_same (Same.refl true s) sh l
  | laneLockDone sh l => exact execLaneLockDone_same (Same.refl true s) sh l
  | laneEqDone sh l margins => exact execLaneEqDone_same (Same.refl true s) sh l margins
  | laneAlignDone sh l ident inv => exact execLaneAlignDone_same (Same.refl true s) sh l ident inv
  | sheetUp sh skew => exact execSheetUp_same (Same.refl true s) sh skew
  | bringupStageTimeout sh l => exact execBringupStageTimeout_same (Same.refl true s) sh l
  | bringupRetry sh => exact execBringupRetry_same (Same.refl true s) sh
  | laneLos sh l => exact execLaneLos_same (Same.refl true s) sh l
  | laneLosClear sh l => exact execLaneLosClear_same (Same.refl true s) sh l
  | laneLol sh l => exact execLaneLol_same (Same.refl true s) sh l
  | eyeMeasure sh l v h0 => exact execEyeMeasure_same (Same.refl true s) sh l v h0
  | prbsLock sh l inv => exact execPrbsLock_same (Same.refl true s) sh l inv
  | prbsLost sh l n e0 => exact execPrbsLost_same (Same.refl true s) sh l n e0
  | prbsInject sh l w => exact execPrbsInject_same (Same.refl true s) sh l w
  | prbsClr sh l w => exact execPrbsClr_same (Same.refl true s) sh l w
  | sheetSub sh w => exact execSheetSub_same (Same.refl true s) sh w
  | narrowWrite sh w => exact execNarrowWrite_same (Same.refl true s) sh w
  | laneSleepWrite sh l w => exact execLaneSleepWrite_same (Same.refl true s) sh l w
  | trainingSetRx sh l data => exact execTrainingSetRx_same (Same.refl true s) sh l data
  | trainAttemptTimeout sh => exact execTrainAttemptTimeout_same (Same.refl true s) sh
  | trainBackoffEnd sh => exact execTrainBackoffEnd_same (Same.refl true s) sh
  | blockRx sh l ix syms => exact execBlockRx_same (Same.refl true s) sh l ix syms
  | flitRx sh => exact execFlitRx_same (Same.refl true s) sh
  | replayTimeout sh => exact execReplayTimeout_same (Same.refl true s) sh
  | claimRx sh => exact execClaimRx_same (Same.refl true s) sh
  | grantRx sh => exact execGrantRx_same (Same.refl true s) sh
  | refuseRx sh => exact execRefuseRx_same (Same.refl true s) sh
  | doneRx sh => exact execDoneRx_same (Same.refl true s) sh
  | spareReadyRx sh => exact execSpareReadyRx_same (Same.refl true s) sh
  | switchRx sh => exact execSwitchRx_same (Same.refl true s) sh
  | restoreRx sh => exact execRestoreRx_same (Same.refl true s) sh
  | commandRx _ => cases hd
  | xchgTimeout sh => exact execXchgTimeout_same (Same.refl true s) sh
  | dozeIdle sh => exact execDozeIdle_same (Same.refl true s) sh
  | sampleRx sh full => exact execSampleRx_same (Same.refl true s) sh full
  | declareRx sh => exact execDeclareRx_same (Same.refl true s) sh
  | partialRx sh => exact execPartialRx_same (Same.refl true s) sh
  | queueFlitRx sh => exact execQueueFlitRx_same (Same.refl true s) sh
  | beaconTx sh => exact execBeaconTx_same (Same.refl true s) sh
  | beaconRx sh => exact execBeaconRx_same (Same.refl true s) sh
  | beaconLost sh => exact execBeaconLost_same (Same.refl true s) sh
  | frameRx _ _ _ => cases hd
  | mergeTimeout n => exact execMergeTimeout_same (Same.refl true s) n
  | heartbeatRx p data => exact execHeartbeatRx_same (Same.refl true s) p data
  | heartbeatTx => exact execHeartbeatTx_same (Same.refl true s)
  | heartbeatTimeout p => exact execHeartbeatTimeout_same (Same.refl true s) p
  | portFaultHeld p => exact execPortFaultHeld_same (Same.refl true s) p
  | routeSideWrite j w => exact execRouteSideWrite_same (Same.refl true s) j w
  | rewindExpiry q => exact execRewindExpiry_same (Same.refl true s) q
  | htxPiWrite m w descs => exact execHtxPiWrite_same (Same.refl true s) m w descs
  | hrxPiWrite m w bufs => exact execHrxPiWrite_same (Same.refl true s) m w bufs
  | functionLevelReset fn => exact execFunctionLevelReset_same (Same.refl true s) fn
  | vfDisable n => exact execVfDisable_same (Same.refl true s) n
  | pcieLinkDown => exact execPcieLinkDown_same (Same.refl true s)
  | pcieLinkUp => exact execPcieLinkUp_same (Same.refl true s)
  | ptmStart w => exact execPtmStart_same (Same.refl true s) w
  | ptmDialog => exact execPtmDialog_same (Same.refl true s)
  | ptmResponseRx master delay => exact execPtmResponseRx_same (Same.refl true s) master delay
  | ptmTimeout => exact execPtmTimeout_same (Same.refl true s)
  | msixModerationEnd fn v => exact execMsixModerationEnd_same (Same.refl true s) fn v
  | msixUnmask fn op => exact execMsixUnmask_same (Same.refl true s) fn op
  | dbCmdPiWrite _ _ _ => cases hd
  | dbCplCiWrite _ _ => cases hd
  | cmdEnvelopeRx _ _ _ _ _ => cases hd
  | cmdKeyLoad w => exact execCmdKeyLoad_same (Same.refl true s) w
  | cmdKeyClear w => exact execCmdKeyClear_same (Same.refl true s) w
  | cringEnable b r w => exact execCringEnable_same (Same.refl true s) b r w
  | padOpcode _ => cases hd
  | cfgIdent p => exact execCfgIdent_same (Same.refl true s) p
  | cfgHubId p => exact execCfgHubId_same (Same.refl true s) p
  | cfgKeyLoad p => exact execCfgKeyLoad_same (Same.refl true s) p
  | cfgKeyClear p => exact execCfgKeyClear_same (Same.refl true s) p
  | cfgKeyOwn p => exact execCfgKeyOwn_same (Same.refl true s) p
  | cfgUdp p => exact execCfgUdp_same (Same.refl true s) p
  | cfgRegRead p => exact execCfgRegRead_same (Same.refl true s) p
  | cfgRegWrite p => exact execCfgRegWrite_same (Same.refl true s) p
  | cfgTableWrite p => exact execCfgTableWrite_same (Same.refl true s) p
  | cfgTableRead p => exact execCfgTableRead_same (Same.refl true s) p
  | cnvGroup p => exact execCnvGroup_same (Same.refl true s) p
  | cnvInputEn p => exact execCnvInputEn_same (Same.refl true s) p
  | cnvTrack p => exact execCnvTrack_same (Same.refl true s) p
  | cnvStatus p => exact execCnvStatus_same (Same.refl true s) p
  | brgQuota p => exact execBrgQuota_same (Same.refl true s) p
  | brgGrant p => exact execBrgGrant_same (Same.refl true s) p
  | brgRevoke p => exact execBrgRevoke_same (Same.refl true s) p
  | brgBeams p => exact execBrgBeams_same (Same.refl true s) p
  | brgReset p => exact execBrgReset_same (Same.refl true s) p
  | brgStatus p => exact execBrgStatus_same (Same.refl true s) p
  | pipeSource p => exact execPipeSource_same (Same.refl true s) p
  | pipeBind p => exact execPipeBind_same (Same.refl true s) p
  | pipeDelay p => exact execPipeDelay_same (Same.refl true s) p
  | pipeUnbind p => exact execPipeUnbind_same (Same.refl true s) p
  | pipeMix p => exact execPipeMix_same (Same.refl true s) p
  | pipeDecimate p => exact execPipeDecimate_same (Same.refl true s) p
  | pipeResample p => exact execPipeResample_same (Same.refl true s) p
  | pipeChannel p => exact execPipeChannel_same (Same.refl true s) p
  | pipeReduce p => exact execPipeReduce_same (Same.refl true s) p
  | pipeRoute p => exact execPipeRoute_same (Same.refl true s) p
  | pipeIntake p => exact execPipeIntake_same (Same.refl true s) p
  | pipeCommit p => exact execPipeCommit_same (Same.refl true s) p
  | pipeFpd p => exact execPipeFpd_same (Same.refl true s) p
  | pipeDistrict p => exact execPipeDistrict_same (Same.refl true s) p
  | pipeRaw p => exact execPipeRaw_same (Same.refl true s) p
  | pipeStatus p => exact execPipeStatus_same (Same.refl true s) p
  | beamSet p => exact execBeamSet_same (Same.refl true s) p
  | beamDisable p => exact execBeamDisable_same (Same.refl true s) p
  | beamIset p => exact execBeamIset_same (Same.refl true s) p
  | beamWeights p => exact execBeamWeights_same (Same.refl true s) p
  | beamStatus p => exact execBeamStatus_same (Same.refl true s) p
  | beamLoad p => exact execBeamLoad_same (Same.refl true s) p
  | gridDefine p => exact execGridDefine_same (Same.refl true s) p
  | gridClear p => exact execGridClear_same (Same.refl true s) p
  | gridRead p => exact execGridRead_same (Same.refl true s) p
  | gridIndex p => exact execGridIndex_same (Same.refl true s) p
  | queueConfig p => exact execQueueConfig_same (Same.refl true s) p
  | queueEnable p => exact execQueueEnable_same (Same.refl true s) p
  | queueDisable p => exact execQueueDisable_same (Same.refl true s) p
  | queueFlush p => exact execQueueFlush_same (Same.refl true s) p
  | queueStatus p => exact execQueueStatus_same (Same.refl true s) p
  | queueChain p => exact execQueueChain_same (Same.refl true s) p
  | queueDeliver p => exact execQueueDeliver_same (Same.refl true s) p
  | plotStatus p => exact execPlotStatus_same (Same.refl true s) p
  | plotEscape p => exact execPlotEscape_same (Same.refl true s) p
  | plotLow p => exact execPlotLow_same (Same.refl true s) p
  | plotCounters p => exact execPlotCounters_same (Same.refl true s) p
  | timeRead p => exact execTimeRead_same (Same.refl true s) p
  | timeAdjust p => exact execTimeAdjust_same (Same.refl true s) p
  | timeSource p => exact execTimeSource_same (Same.refl true s) p
  | timeAge p => exact execTimeAge_same (Same.refl true s) p
  | timePpsDelay p => exact execTimePpsDelay_same (Same.refl true s) p
  | timeTaiUtc p => exact execTimeTaiUtc_same (Same.refl true s) p
  | timeStatus p => exact execTimeStatus_same (Same.refl true s) p
  | timeEdge p => exact execTimeEdge_same (Same.refl true s) p
  | timeFreq p => exact execTimeFreq_same (Same.refl true s) p
  | timeFreqRead p => exact execTimeFreqRead_same (Same.refl true s) p
  | timePtm p => exact execTimePtm_same (Same.refl true s) p
  | trigArm p => exact execTrigArm_same (Same.refl true s) p
  | trigDisarm p => exact execTrigDisarm_same (Same.refl true s) p
  | trigFire p => exact execTrigFire_same (Same.refl true s) p
  | trigSrcSkew p => exact execTrigSrcSkew_same (Same.refl true s) p
  | trigRing p => exact execTrigRing_same (Same.refl true s) p
  | trigCapset p => exact execTrigCapset_same (Same.refl true s) p
  | trigNet p => exact execTrigNet_same (Same.refl true s) p
  | trigStream p => exact execTrigStream_same (Same.refl true s) p
  | trigStatus p => exact execTrigStatus_same (Same.refl true s) p
  | calTrimRepair p => exact execCalTrimRepair_same (Same.refl true s) p
  | calUserMeasure p => exact execCalUserMeasure_same (Same.refl true s) p
  | calUserWrite p => exact execCalUserWrite_same (Same.refl true s) p
  | calTim p => exact execCalTim_same (Same.refl true s) p
  | calTimPeriod p => exact execCalTimPeriod_same (Same.refl true s) p
  | calSliceTrim p => exact execCalSliceTrim_same (Same.refl true s) p
  | calSurvey p => exact execCalSurvey_same (Same.refl true s) p
  | calSurveyStep p => exact execCalSurveyStep_same (Same.refl true s) p
  | calPageRead p => exact execCalPageRead_same (Same.refl true s) p
  | feBind p => exact execFeBind_same (Same.refl true s) p
  | feUnbind p => exact execFeUnbind_same (Same.refl true s) p
  | feExcitation p => exact execFeExcitation_same (Same.refl true s) p
  | feChannel p => exact execFeChannel_same (Same.refl true s) p
  | feSequence p => exact execFeSequence_same (Same.refl true s) p
  | feRoute p => exact execFeRoute_same (Same.refl true s) p
  | feBlank p => exact execFeBlank_same (Same.refl true s) p
  | feLin p => exact execFeLin_same (Same.refl true s) p
  | feUrgent p => exact execFeUrgent_same (Same.refl true s) p
  | feRef p => exact execFeRef_same (Same.refl true s) p
  | feStatus p => exact execFeStatus_same (Same.refl true s) p
  | laneSheet p => exact execLaneSheet_same (Same.refl true s) p
  | laneTune p => exact execLaneTune_same (Same.refl true s) p
  | laneSubst p => exact execLaneSubst_same (Same.refl true s) p
  | laneNarrow p => exact execLaneNarrow_same (Same.refl true s) p
  | lanePrbs p => exact execLanePrbs_same (Same.refl true s) p
  | laneStatus p => exact execLaneStatus_same (Same.refl true s) p
  | linkConfig p => exact execLinkConfig_same (Same.refl true s) p
  | linkRxmap p => exact execLinkRxmap_same (Same.refl true s) p
  | linkStatus p => exact execLinkStatus_same (Same.refl true s) p
  | routeMac p => exact execRouteMac_same (Same.refl true s) p
  | routePair p => exact execRoutePair_same (Same.refl true s) p
  | routeSide p => exact execRouteSide_same (Same.refl true s) p
  | routePolicy p => exact execRoutePolicy_same (Same.refl true s) p
  | routeHeartbeat p => exact execRouteHeartbeat_same (Same.refl true s) p
  | routeStream p => exact execRouteStream_same (Same.refl true s) p
  | routeAddress p => exact execRouteAddress_same (Same.refl true s) p
  | routePort p => exact execRoutePort_same (Same.refl true s) p
  | routeStatus p => exact execRouteStatus_same (Same.refl true s) p
  | gazRoot p => exact execGazRoot_same (Same.refl true s) p
  | gazRegister p => exact execGazRegister_same (Same.refl true s) p
  | gazRemove p => exact execGazRemove_same (Same.refl true s) p
  | gazRead p => exact execGazRead_same (Same.refl true s) p
  | gazDistrict p => exact execGazDistrict_same (Same.refl true s) p
  | gazSend p => exact execGazSend_same (Same.refl true s) p
  | gazCounts p => exact execGazCounts_same (Same.refl true s) p
  | gazDigest p => exact execGazDigest_same (Same.refl true s) p
  | logHead p => exact execLogHead_same (Same.refl true s) p
  | logRead p => exact execLogRead_same (Same.refl true s) p
  | logChallenge p => exact execLogChallenge_same (Same.refl true s) p
  | logClear _ => cases hd
  | logKey _ => cases hd
  | logRepeat p => exact execLogRepeat_same (Same.refl true s) p
  | powerDown p => exact execPowerDown_same (Same.refl true s) p
  | powerUp p => exact execPowerUp_same (Same.refl true s) p
  | powerHold p => exact execPowerHold_same (Same.refl true s) p
  | powerStatus p => exact execPowerStatus_same (Same.refl true s) p
  | sparePolicy p => exact execSparePolicy_same (Same.refl true s) p
  | spareSlice p => exact execSpareSlice_same (Same.refl true s) p
  | spareEngine p => exact execSpareEngine_same (Same.refl true s) p
  | spareSlot p => exact execSpareSlot_same (Same.refl true s) p
  | spareTdc p => exact execSpareTdc_same (Same.refl true s) p
  | sparePcv p => exact execSparePcv_same (Same.refl true s) p
  | spareBmac p => exact execSpareBmac_same (Same.refl true s) p
  | spareCore p => exact execSpareCore_same (Same.refl true s) p
  | sparePlot p => exact execSparePlot_same (Same.refl true s) p
  | spareMram _ => cases hd
  | spareInventory p => exact execSpareInventory_same (Same.refl true s) p
  | diagEcho p => exact execDiagEcho_same (Same.refl true s) p
  | diagSelftest p => exact execDiagSelftest_same (Same.refl true s) p
  | diagBeamSat p => exact execDiagBeamSat_same (Same.refl true s) p
  | diagTemps p => exact execDiagTemps_same (Same.refl true s) p
  | brgCtlReset b w => exact execBrgCtlReset_same (Same.refl true s) b w
  | boroughResetDone b => exact execBoroughResetDone_same (Same.refl true s) b
  | deliveryDoorbell ix w => exact execDeliveryDoorbell_same (Same.refl true s) ix w
  | cmdRateWindow => cases hd
  | dbEvtSrc w => exact execDbEvtSrc_same (Same.refl true s) w
  | dbEvtAll w => exact execDbEvtAll_same (Same.refl true s) w
  | gazCopyTx d => exact execGazCopyTx_same (Same.refl true s) d
  | gazRetry d e0 => exact execGazRetry_same (Same.refl true s) d e0
  | gazOutcomeRx e0 env => exact execGazOutcomeRx_same (Same.refl true s) e0 env
  | gazCollectEnd d => exact execGazCollectEnd_same (Same.refl true s) d
  | faultReportRx payload => exact execFaultReportRx_same (Same.refl true s) payload
  | digestClose subject cls => exact execDigestClose_same (Same.refl true s) subject cls
  | evtWindowEnd => exact execEvtWindowEnd_same (Same.refl true s)
  | evtPendWrite k w => exact execEvtPendWrite_same (Same.refl true s) k w
  | logWrite _ => cases hd
  | logScan => cases hd
  | pwrDown d w => exact execPwrDown_same (Same.refl true s) d w
  | pwrUp d w => exact execPwrUp_same (Same.refl true s) d w
  | drainComplete d => exact execDrainComplete_same (Same.refl true s) d
  | drainTimeout d => exact execDrainTimeout_same (Same.refl true s) d
  | wakeComplete d => exact execWakeComplete_same (Same.refl true s) d
  | wakeTimeout d => exact execWakeTimeout_same (Same.refl true s) d
  | engFail p corrected => exact execEngFail_same (Same.refl true s) p corrected
  | slotFail n => exact execSlotFail_same (Same.refl true s) n
  | coreFail k dog run => exact execCoreFail_same (Same.refl true s) k dog run
  | porAssert _ => cases hc
  | aonMonitorReset _ => cases hc
  | supplyFault => exact execSupplyFault_same (Same.refl true s)
  | porRelease => cases hc
  | xoFail => cases hc
  | stackTrainingDone failed => exact execStackTrainingDone_same (Same.refl true s) failed
  | startDone cd ld => exact execStartDone_same (Same.refl true s) cd ld
  | warmNRequest => exact execWarmNRequest_same (Same.refl true s)
  | warmRegRequest w => exact execWarmRegRequest_same (Same.refl true s) w
  | fwRestartRequest w => exact execFwRestartRequest_same (Same.refl true s) w
  | warmResetDone => exact execWarmResetDone_same (Same.refl true s)
  | fwRunning => exact execFwRunning_same (Same.refl true s)
  | fwWatchdog => exact execFwWatchdog_same (Same.refl true s)
  | fwStarted => exact execFwStarted_same (Same.refl true s)
  | imageVerify w => exact execImageVerify_same (Same.refl true s) w
  | mgbXferGo w => exact execMgbXferGo_same (Same.refl true s) w
  | mgbXferDone code nbytes data => exact execMgbXferDone_same (Same.refl true s) code nbytes data
  | mgbPoll ix code val => exact execMgbPoll_same (Same.refl true s) ix code val
  | alertNAssert addr => exact execAlertNAssert_same (Same.refl true s) addr
  | alertRepeat low addr => exact execAlertRepeat_same (Same.refl true s) low addr
  | mgbSigCfgWrite n w => exact execMgbSigCfgWrite_same (Same.refl true s) n w
  | mgbEdgePush w => exact execMgbEdgePush_same (Same.refl true s) w
  | sigEdgeFire n => exact execSigEdgeFire_same (Same.refl true s) n
  | frameMarkerStart n => exact execFrameMarkerStart_same (Same.refl true s) n
  | frameMarkerEnd n => exact execFrameMarkerEnd_same (Same.refl true s) n
  | tapInstruction _ => cases hc
  | tapReset => cases hc
  | refclkGate dev => exact execRefclkGate_same (Same.refl true s) dev
  | refclkLost => exact execRefclkLost_same (Same.refl true s)
  | refclkBack => exact execRefclkBack_same (Same.refl true s)
  | pcieRefclkLost => exact execPcieRefclkLost_same (Same.refl true s)
  | clkPllRelock which => exact execClkPllRelock_same (Same.refl true s) which
  | currentLimit q => exact execCurrentLimit_same (Same.refl true s) q
  | fixedModeEdge => exact execFixedModeEdge_same (Same.refl true s)
  | pcsFault p kind => exact execPcsFault_same (Same.refl true s) p kind
  | pcsFaultClear p => exact execPcsFaultClear_same (Same.refl true s) p
  | blockTx sh ix => exact execBlockTx_same (Same.refl true s) sh ix
  | busMasterEnableWrite fn bme ptm => exact execBusMasterEnableWrite_same (Same.refl true s) fn bme ptm
  | clkPllUnlock which => exact execClkPllUnlock_same (Same.refl true s) which
  | aonMonitorRelease => exact execAonMonitorRelease_same (Same.refl true s)

/-- The first lock: the clock runs, its count is 0, and the queue is as it was. -/
theorem State.clockStart_spec (s : State) : (s.clockStart).tb.locked = true ∧ (s.clockStart).tb.fc = 0 ∧ (s.clockStart).pending = s.pending := by
  have h : Same false { s with tb := { s.tb with locked := true, fc := 0, offset := 0, anchor := 0 } } s.clockStart := by
    unfold State.clockStart
    exact State.fwStart_same (foldl_same (State.wn_same (State.put_same (State.put_same (State.put_same (State.put_same (State.raise_same
      (State.put_same (Same.refl false _) _ _) _ _ _ _ _ _ _) _ _) _ _) _ _) _ _) _ _) (fun _ _ k => State.coreStart_same k _ _))
  exact ⟨h.locked, h.fc, h.pending⟩

/-- A power-on reset: the clock stands at 0, and the queue is as it was. -/
theorem State.powerReset_spec (s : State) (cause : Nat) (torn : Bool) :
    (s.powerReset cause torn).tb.locked = false ∧ (s.powerReset cause torn).tb.fc = 0 ∧ (s.powerReset cause torn).pending = s.pending := by
  have k : Same false s ((s.nvm.take 1).foldl State.jobTorn (if torn then s.logTorn else s)) :=
    foldl_same (ite_same (State.logTorn_same (Same.refl false s)) (Same.refl false s)) (fun _ _ k => State.jobTorn_same k _)
  unfold State.powerReset
  revert k; generalize (s.nvm.take 1).foldl State.jobTorn (if torn then s.logTorn else s) = v; intro k
  have h := fun (r : State) => State.put_same (State.put_same (State.put_same (State.instances_same (State.linLoadAll_same (Same.refl false r))) SYS_RST_CAUSE_CAUSE cause)
    (PWR_SPARE_USED 10) 0) LOG_STAT_KEY (b2n v.log.key.isSome)
  exact ⟨(h _).locked, (h _).fc, (h _).pending.trans k.pending⟩

/-- The tick of the phase clock. -/
theorem State.clock_spec (s : State) : (s.clock).tb.locked = s.tb.locked ∧ (s.clock).pending = s.pending ∧
    (s.clock).tb.fc = s.tb.fc + (if s.tb.locked then (if s.isSet TB_STATUS_COARSE then 25 else 1) else 0) := by
  unfold State.clock
  split
  · next h => simp at h; simp [h]
  · next h => simp at h; simp [h]

/-- An idle step: the clock ticks and the engine takes what waits. -/
theorem State.idle_same (s : State) : Same false s.clock s.idle := State.settle_same (Same.refl false _)

end Sys2Proof.Machine
end

