-- ==== Sys2Proof/Tests/Slice0.lean ====
section
/-! SUPPORT. Tests: small states at work, commands out of range that `Instr.ok` refuses, steps worked out by hand from the spec, and for
each clause of a statement that has hypotheses a state and operands that meet them all. -/
open Sys2Proof Sys2Proof.Machine

namespace Sys2Proof.Tests
set_option maxRecDepth 100000
set_option Elab.async false
set_option linter.unusedVariables false

/-! ## States at work -/
/-- Put the domains of a list AWAKE. -/
def wake (s : State) (l : List Nat) : State := l.foldl (fun (s : State) d => s.put (PWR_DOM_STATE d) 0) s
/-- The hub of these tests: it has started. -/
def demo : State := State.reset.put SYS_START_READY 1
/-- The hub at work: its clock runs, it is READY, and the domains of groups 0 and 23 and of sheets 0 and 1 are awake. -/
def live : State := { wake demo [0, 23, 24, 25] with tb := { demo.tb with locked := true, fc := 1000 } }
/-- At work, with the operands of an adjustment. -/
def adjReady (rate amt ppb : Nat) : State :=
  ((live.wr64 TB_ADJ_RATE_LO TB_ADJ_RATE_HI rate).wr64 TB_ADJ_AMT_LO TB_ADJ_AMT_HI amt).wn TB_ADJ_SLEW ppb
/-- At work, with grid 7 in force at the present time and a node stream as the source of slot n. -/
def gridded (n : Nat) : State :=
  let s := live.put (SYS_GRID_CTL_VALID 7) 1
  let s1 := ((s.wr64 (SYS_GRID_NUM_LO 7) (SYS_GRID_NUM_HI 7) 1000000).wn (SYS_GRID_DEN 7) 1).put (SYS_GRID_CTL_FRAME_LOG2 7) 10
  (s1.put (CHP_CTL_GRID n) 7).put (CHP_SRC_TYPE n) 3
/-- Slot n can be bound. -/
def slotReady (n : Nat) : State := (gridded n).put (CHP_CTL_GRID n) 7
/-- Slot n is bound to grid 7. -/
def slotBound (n : Nat) : State :=
  let s := (slotReady n).put (CHP_STAT_STATE n) 2
  { s with slots := mapPut {} n { s.slot n with on := true, grid := 7 } s.slots }
/-- Slot n is bound, its output runs in the first frame of grid 7, and its source tracks. -/
def slotRunning (n : Nat) : State :=
  let s := ((slotBound n).put (CHP_RSM_STAT_TRACK n) 2).put CLK_STAT_CORE_LOCK 1
  { s.setSlot n { s.slot n with run := true, src := 0xC0000000 } with gridNext := [(7, 1)] }
/-- Beam 0 is in force on grid 7, and its shadow disables it. -/
def demoBeam : State := { (gridded 0).put (PWR_DOM_STATE 81) 0 with beams := [(0, { on := true, grid := 7 })] }
/-- An item that is ready for queue 3. -/
def demoItem : ReadyItem := { queue := 3, bytes := [1#8, 2#8], first := 0, last := 1 }
/-- The front end can be bound to grid 7. -/
def feReady : State := wake (gridded 0) [90, 91]
/-- The front end is bound to grid 7. -/
def feBound : State := (feReady.put SFE_STAT_STATE 2).fwr SFE_CTL 0x0E000000#32
/-- A write of a linearisation page in progress. -/
def demoJob : NvmJob := ⟨2, 0, 0, false, {}, 9, none⟩
/-- A capture without members. -/
def demoCapture : Capture := ⟨5, 0, 22, 0, 7, 0, 37, 0, 0, 1, 3, 0, 0, []⟩
/-- Decompressor 3 serves the ring of borough 31, which has one job. -/
def jobReady : State :=
  let s := live.setFunc 31 { live.func 31 with bme := true }
  (((s.put (CMP_JOB_CTL_EN 31) 1).put (CMP_JOB_PI_V 31) 1).put (CMP_DX_BUSY 3) 1).put (CMP_DX_BOROUGH 3) 31
/-- Queue 3 is ON, delivers to the host through ring 0 of borough 0, and is refused there because the ring has no room. -/
def demoStall : State :=
  { (live.put (QUE_STAT_STATE 3) 1).setFunc 0 { live.func 0 with bme := true } with
    quesOn := [3], ques := [(3, { vis := [{ bytes := [1#8, 2#8], chained := 2 }], waits := some (-65536000000) })], delivers := [(0, { on := true, total := 16777216 })] }
/-- The same with room, and queue 3 is express. -/
def demoExpress : State := { demoStall.put (QUE_CFG0_EXPRESS 3) 1 with delivers := [(0, { on := true, size := 4096, base := 4096 })] }
/-- Sheet 1 is coming up and every lane of it has aligned, in order. -/
def sheetReady : State :=
  (List.range 8).foldl (fun (s : State) l => (s.put (LNE_STAT_STATE 1 l) 6).put (LNE_STAT_IDENT 1 l) l) (live.put (LNE_SHEET_STAT_STATE 1) 1)
/-- The same, its lanes and its state UP. -/
def sheetUpped : State :=
  (List.range 8).foldl (fun (s : State) l => s.put (LNE_STAT_STATE 1 l) 7) ((((sheetReady.setMap 1 (List.range 8)).put (LNE_SHEET_STAT_REV 1)
    0).put (LNE_SHEET_STAT_SKEW 1) 255).put (LNE_SHEET_STAT_STATE 1) 2)
/-- Sheet 1 speaks Spaxa and its link is ACTIVE. -/
def spx (x : Link) : State :=
  { (live.put (LNE_SHEET_CTL_PROTO 1) 2).put (SPX_STAT_LSTATE 1) 2 with links := [(1, x)] }
/-- The same after a control flit was taken. -/
def took (x : Link) : State := ((spx {}).setLnk 1 x).relCtrl 1
/-- A control message of a type, everything else 0. -/
def aCtl (n : Nat) : List Byte := leBytes 1 n ++ List.replicate 231 0
/-- A flit of a type, a sequence number and link bits, with its CRC. -/
def aFlit (ty seq bits : Nat) : List Byte :=
  let a := leBytes 2 ty ++ leBytes 3 seq ++ List.replicate 243 0
  let b := [0#8, 0#8] ++ leBytes 2 bits
  a ++ leBytes 4 (crc32c (a ++ b)) ++ b
/-- A training set of lane 7 in phase 1. -/
def goodTrain : List Byte :=
  let a := leBytes 4 0x58415053 ++ leBytes 4 0x01000701 ++ List.replicate 52 0
  a ++ leBytes 4 (crc32c a)
/-- A sent flit. -/
def sent0 : SentFlit := { seq := 0, flit := ⟨0x10, 0, true, true, [], none⟩ }
/-- The link trains and is to say RETRAIN. -/
def trainingOut : State := (spx { tx := { retrain := true } }).put (SPX_STAT_LSTATE 1) 1
/-- A sample flit of stream 3: one sample, number 2, format 1. -/
def sampleFlit : InFlit := ⟨0x10, true, true, 3, leBytes 8 2 ++ leBytes 1 1 ++ leBytes 1 0 ++ leBytes 2 1 ++ [7#8, 8#8, 9#8, 10#8]⟩
/-- The stream of that flit, declared. -/
def sampleNode : NodeStream := { declared := true, nextN := 3, format := 1 }
/-- The flit waits. -/
def sampleReady : State := { spx { rx := { din := [sampleFlit] } } with nodes := [(259, sampleNode)] }
/-- A declaration of stream 255, samples 1 to 2. -/
def declareFlit : InFlit := ⟨0x13, true, true, 255, leBytes 8 1 ++ List.replicate 20 0 ++ leBytes 8 2 ++ [1#8, 1#8]⟩
/-- Beam 0 chains in the partials of stream 5 of sheet 1. -/
def chained : State :=
  { ((spx { rx := { din := [⟨0x11, true, true, 5, [1#8]⟩] } }).fwr (BFM_DESC 0 0) 0x80000000#32).fwr (BFM_DESC 0 4) 0x8200A000#32 with beams := [(0, { on := true, run := true })] }
/-- Stream 7 of sheet 1 goes to queue 9. -/
def rxMapped : State :=
  ((spx { rx := { din := [⟨0x12, true, true, 7, [1#8]⟩] } }).setTab (0x1584000 + 28) 0x80000009#32).put (QUE_CFG0_TYPE 9) 1 |>.put (QUE_STAT_STATE 9) 1
/-- Port 2 exists, on sheet 1. -/
def ethUp : State := ((live.put (ETH_MAC_CFG_MODE 1) 1).put (ETH_MAC_CFG_SHEET 1) 1).put (LNE_SHEET_CTL_PROTO 1) 1
/-- A UDP datagram over IPv4 to port 0. -/
def udpFrame : List Byte :=
  List.replicate 12 0#8 ++ [8#8, 0#8, 0x45#8] ++ List.replicate 8 0#8 ++ [17#8] ++ List.replicate 36 0#8
/-- The host rings of MAC 1 are enabled. -/
def ringsOn : State := ((ethUp.put (ETH_HTX_CTL_EN 1) 1).put (ETH_HRX_CTL_EN 1) 1).setFunc 0 { live.func 0 with bme := true }
/-- Every virtual function is present. -/
def allVfs : State := (List.range 31).foldl (fun (s : State) i => s.setFunc (i + 1) { s.func (i + 1) with present := true }) live
/-- Function 0 may run a PTM dialog. -/
def ptmReady : State := live.setFunc 0 { live.func 0 with ptmEn := true }
/-- Vector 2047 of function 0 waits for the end of its moderation, and may be sent. -/
def vecReady : State :=
  (live.setFunc 0 { live.func 0 with bme := true, msixEn := true, fmask := false }).setVec 0 2047 { live.vec 0 2047 with
    waiting := true, masked := false }
/-- Borough 31 has a key and envelopes are taken. -/
def keyed : State := { live.put CMD_UDP_EN 1 with keys := [(31, List.replicate 32 1#8)] }
/-- A packet of 20 bytes: a length and zeros. -/
def shortPacket : List Byte := List.replicate 8 0#8 ++ leBytes 4 20 ++ List.replicate 8 0#8
/-- An envelope of borough 31 with counter 1 and that packet. -/
def anEnvelope : List Byte :=
  let a := leBytes 4 0x44434D51 ++ [31#8, 1#8, 0#8, 0#8] ++ leBytes 8 1 ++ shortPacket
  a ++ hmacSha256 (List.replicate 32 1#8) a
/-- An entry of the gazetteer in district 9. -/
def gazEntry0 : GazEntry := { id := 5, kind := 1, hopKind := 0, hop := 0, dists := [9] }
/-- A send to district 9 whose copies are to be formed. -/
def gazSend0 : GazSend := { epoch := 1, act := 100000000000000, inner := [], action := 3, retry := 1, collect := 1 }
/-- The send is open and endpoint 77 is a member. -/
def gazOpen : State := { live with gaz := [(77, some gazEntry0)], gazSends := [(9, some gazSend0)] }
/-- An outcome envelope of borough 0. -/
def anOutcome : List Byte :=
  let a := leBytes 4 0x44434D51 ++ [0#8, 2#8, 0#8, 0#8] ++ leBytes 8 1 ++ shortPacket
  a ++ hmacSha256 (List.replicate 32 1#8) a
/-- A fault report. -/
def aReport : List Byte :=
  let a := leBytes 4 0x52474146 ++ [1#8] ++ List.replicate 27 0#8
  a ++ (hmacSha256 (List.replicate 32 1#8) a).take 16
/-- The logbook is ready and one record is staged. -/
def logReady : State := { live.put LOG_STAT_READY 1 with stageQ := [⟨⟨256, 256, 65535, 0, 0, 0, 0, 1, []⟩, 2, false⟩] }
/-- The clock of the core has just locked. -/
def starting : State := { State.reset with tb := { State.reset.tb with locked := true } }
/-- Start-up has reached its end. -/
def started : State := { (starting.put LOG_STAT_READY 1).put CAL_STAT_LOAD_DONE 1 with start := { trained := List.range 6 } }
/-- Image 0 runs and is starting; image 2 is sound. -/
def imaged : State :=
  let h := [0x4E524C46, 1, 1] ++ List.replicate 12 0
  let c := crc32c (h.flatMap (leBytes 4) ++ [0#8])
  let s := (live.put SYS_BOOT_FW 1).put SYS_BOOT_RUN 1
  (((h ++ [c, 0]).zip (List.range 17)).foldl (fun (s : State) e => s.setImageWord 1 e.2 (w32 e.1)) s)
/-- Board management is awake and bus 0 enabled. -/
def busOn : State := (wake live [94]).put (MGB_BUS_CTL_EN 0) 1
/-- The queues of rings 0 of boroughs 0 and 31 hold a plot each, with room. -/
def ringed (s : State) : State :=
  { s with
    ques := s.ques ++ [(16128, { chain := [8388612] }), (16129, { chain := [8388613] }), (16376, { chain := [8388614] }), (16377, { chain := [8388615] })]
    plots := s.plots ++ [(8388612, { state := 1, owner := 16128 }), (8388613, { state := 1, owner := 16129 }),
      (8388614, { state := 1, owner := 16376, borough := 31 }), (8388615, { state := 1, owner := 16377, borough := 31 })] }
/-- The hub with its firmware running and rings 0 of boroughs 0 and 31 enabled: the engine takes packets. -/
def ready : State :=
  ringed ((((live.put SYS_BOOT_FW 2).put CLK_STAT_CTRL_LOCK 1).put (BRG_CRING_CTL_EN 0 0) 1).put (BRG_CRING_CTL_EN 31 0) 1)
/-- A packet of borough b with a tag, as it comes from a command ring. -/
def sent (op b flags act : Nat) (l : List Word) : Packet :=
  let p : Packet := ⟨.ring b 0, b, 4096, b, 0, 1, flags, 36 + 4 * l.length, 1, act, 0, l, 0⟩
  { p with crc := w32 (crc32c (Packet.body op p)) }
/-- A packet of borough 0 without an activation time. -/
def cmd (op : Nat) (l : List Word) : Packet := sent op 0 0 0 l
/-- Parameters of a write of one word of a table. -/
def tableParams : List Word := [0x00010000#32, 0x1584000#32, 0#32]
/-- Parameters of CNV_GROUP for group 0. -/
def groupParams : List Word := [0#32, 0x100010#32, 0x10000000#32, 0#32]
/-- Parameters of BRG_GRANT: borough 31, slot 0. -/
def grantParams : List Word := [31#32, 0x10000001#32]
/-- Parameters that name slot 1023, with no restart, and then the reset values of registers. -/
def wordParams (i : Nat) (l : List Reg) : List Word :=
  1023#32 :: List.replicate (i - 1) 0#32 ++ l.map (fun r => w32 r.reset)
/-- The hub with its firmware running and slot 1023 bound to grid 7. -/
def slotLive : State :=
  ringed (((((slotBound 1023).put SYS_BOOT_FW 2).put CLK_STAT_CTRL_LOCK 1).put (BRG_CRING_CTL_EN 0 0) 1).put (PWR_DOM_STATE 79) 0)
/-- The hub with its firmware running and slot 1023 ready to be bound to grid 7. -/
def slotFree : State :=
  ringed (((((slotReady 1023).put SYS_BOOT_FW 2).put CLK_STAT_CTRL_LOCK 1).put (BRG_CRING_CTL_EN 0 0) 1).put (PWR_DOM_STATE 79) 0)
/-- Parameters of PIPE_INTAKE for slot 1023. -/
def intakeParams : List Word :=
  [1023#32, 0x00400000#32] ++ [CHP_BLANK 0, CHP_CALMASK 0, CHP_CALDLY 0, CHP_TEST 0].map (fun r => w32 r.reset)
/-- The engine ready, and the domain of the beamformer awake. -/
def beamAwake : State := ready.put (PWR_DOM_STATE 81) 0
/-- Parameters of BEAM_SET: beam 0, disabled. -/
def beamParams : List Word := List.replicate 9 0#32
/-- The engine ready, and beam 0 in force on grid 7. -/
def beamLive : State := ringed (((demoBeam.put SYS_BOOT_FW 2).put CLK_STAT_CTRL_LOCK 1).put (BRG_CRING_CTL_EN 0 0) 1)
/-- The engine ready, and the stacks awake. -/
def stacksUp : State := wake ready [84, 85, 86, 87, 88, 89]
/-- Parameters of GRID_DEFINE: grid 7, frames of 1,024 samples at 1 MHz from time 0. -/
def gridParams : List Word := [0x00000A07#32, 0#32, 0#32, 0#32, 1000000#32, 0#32, 1#32]
/-- Parameters of QUEUE_CONFIG: queue 16383 with its reset values and weight 8. -/
def queueParams : List Word :=
  16383#32 :: w32 (setBits (QUE_CFG0 16383).reset 7 0 8) :: ((queRegs 16383).drop 1).map (fun r => w32 r.reset)
/-- The reset values of registers, as parameters. -/
def regParams (l : List Reg) : List Word := l.map (fun r => w32 r.reset)
/-- Parameters of TRIG_ARM: output 63 armed once, without a capture. -/
def trigParams : List Word := 63#32 :: [w32 (setBits (TRG_OUT_CFG 63).reset 31 30 1), 0#32, 0xFFFF0001#32, 0#32, 0#32, 1#32]
/-- The engine ready, the front end awake, and current source 31 settled. -/
def calReady : State := (wake ready [90, 91]).put (SFE_EXC_STAT_STATE 31) 2
/-- The engine ready, a write of the user page in progress, and the factory sums of converter 16 in range 3 are 0. -/
def userReady : State :=
  { ready with nvm := [⟨0, 3, 0, false, { seq := 5 }, 9, none⟩], trimImg := [(16952, some 0#32), (16956, some 0#32)] }
/-- The engine ready, the front end awake and IDLE, grid 7 valid. -/
def feIdle : State := ringed (((feReady.put SYS_BOOT_FW 2).put CLK_STAT_CTRL_LOCK 1).put (BRG_CRING_CTL_EN 0 0) 1)
/-- The engine ready, the front end bound to grid 7. -/
def feLive : State := ringed (((feBound.put SYS_BOOT_FW 2).put CLK_STAT_CTRL_LOCK 1).put (BRG_CRING_CTL_EN 0 0) 1)
/-- Parameters of LANE_SHEET: sheet 1 starts with protocol 2. -/
def laneParams : List Word := [1#32, 0x84018065#32] ++ regParams [LNE_EYE_CFG0 1, LNE_EYE_CFG1 1]
/-- The engine ready, sheet 1 UP and its Spaxa link ACTIVE. -/
def sheetTwo : State := ((ready.put (LNE_SHEET_CTL_PROTO 1) 2).put (SPX_STAT_LSTATE 1) 2).put (LNE_SHEET_STAT_STATE 1) 2
/-- The engine ready, the stacks awake, and the hub a root. -/
def gazRoot : State := { stacksUp.put GAZ_CTL_ROOT 1 with keys := [(0, List.replicate 32 1#8)] }
/-- Parameters of GAZ_REGISTER: endpoint 33554431. -/
def gazParams : List Word :=
  33554431#32 :: bytesWords (leBytes 4 5 ++ [0x20#8, 1#8, 0#8, 0#8] ++ leBytes 8 0xFFFFFFFFFFFF0FFF ++ List.replicate 16 0#8)
/-- The root with a member of district 9. -/
def gazSender : State := { gazRoot with gaz := [(77, some gazEntry0)] }
/-- A packet for the members, with an activation time. -/
def innerPacket : List Byte :=
  let a := [0x01#8, 0x12#8, 0#8, 0#8, 0#8, 0#8, 1#8, 0#8] ++ leBytes 4 36 ++ leBytes 4 1 ++ leBytes 12 (5 * 2 ^ 48) ++ leBytes 4 0
  a ++ leBytes 4 (crc32c a)
/-- Parameters of GAZ_SEND to district 9. -/
def sendParams : List Word := 9#32 :: bytesWords innerPacket
/-- The engine ready, the logbook keyed, and a challenge open. -/
def logKeyed : State :=
  { ready with regs := (SYS_HUB_ID.key, 1) :: ready.regs, log := { ready.log with key := some (List.replicate 32 1#8), nonce := some (List.replicate 16 2#8, 0) } }
/-- The engine ready, and the slice in service of position 0 of input 0 failing. -/
def sliceFailing : State := { wake ready [0] with regs := ((iTrim 0 0).key, 0x40000000#32) :: ((iStat 0).key, 0x80080000#32) :: (wake ready [0]).regs }
/-- The engine ready, and channeliser engine 63 failing. -/
def engFailing : State := (wake ready [80]).put (PWR_ENG_STATE 63) 2
/-- The engine ready, and TDC core 15 failing. -/
def tdcFailing : State := (wake ready [93]).put (TIM_CORE_STAT_FAILING 15) 1
/-- The answers to that challenge for LOG_CLEAR and for the key 7, 7, … of LOG_KEY. -/
def clearWords : List Word :=
  [0x8c18da21#32, 0xaf009a02#32, 0x2003270e#32, 0xee63937e#32, 0xbfa0bdb6#32, 0x9b910a9c#32, 0xcde2ed2f#32, 0xe64a9431#32]
/-- The parameters of that LOG_KEY. -/
def keyWords : List Word :=
  [0x0d95afd6#32, 0x49c4b145#32, 0xe577e492#32, 0x22c5825f#32, 0x934dfab5#32, 0xf422c42a#32, 0xe482bad3#32, 0x37973a20#32]
    ++ List.replicate 8 7#32
/-- The identity of the hub at reset. -/
theorem logKeyed_clear_id : (logKeyed.begun (cmd 0x0F04 clearWords)).rn SYS_HUB_ID = 1 := by decide +kernel
/-- The identity of the hub at reset. -/
theorem logKeyed_key_id : (logKeyed.begun (cmd 0x0F05 keyWords)).rn SYS_HUB_ID = 1 := by decide +kernel
/-- The answer to the challenge for LOG_CLEAR. -/
theorem clear_hash : hmacSha256 (List.replicate 32 1#8) (List.replicate 16 2#8 ++ leBytes 4 1 ++ leBytes 1 4 ++ []) = Packet.bytes (cmd 0x0F04 clearWords) := by
  decide +kernel
/-- The answer to the challenge for LOG_KEY. -/
theorem key_hash : hmacSha256 (List.replicate 32 1#8) (List.replicate 16 2#8 ++ leBytes 4 1 ++ leBytes 1 5 ++ (Packet.bytes (cmd 0x0F05 keyWords)).drop 32) =
    (Packet.bytes (cmd 0x0F05 keyWords)).take 32 := by
  decide +kernel
/-- The first word of that answer is not 0. -/
theorem key_byte : ((Packet.bytes (cmd 0x0F05 keyWords)).take 32).all (fun x => x == 0#8) = false := by decide +kernel

/-! ## Commands out of range -/
/-- A packet of zeros on ring 0 of borough 0. -/
def aPacket : Packet := ⟨.ring 0 0, 0, 0, 0, 0, 0, 0, 0, 0, 0, 0, [], 0#32⟩
theorem test_ill_formed_1 : [
    (Instr.registerWrite 6 0 ⟨0, 15, 0#32⟩).ok,
    (Instr.registerWrite 0 0 ⟨32, 15, 0#32⟩).ok,
    (Instr.tableApertureWrite 32 []).ok,
    (Instr.reservedAccess 32 0 0 false).ok,
    (Instr.reservedAccess 0 6 0 false).ok,
    (Instr.oversizeRequest 32 0 0 0 false).ok,
    (Instr.oversizeRequest 0 6 0 0 false).ok,
    (Instr.atomicOpRequest 32 0).ok,
    (Instr.pairLoRead 32 0).ok,
    (Instr.pairLoWrite 0 ⟨32, 15, 0#32⟩).ok,
    (Instr.pairHiWrite 0 ⟨32, 15, 0#32⟩).ok,
    (Instr.tbNowFracRead 32).ok,
    (Instr.adjRateChange ⟨32, 15, 0#32⟩).ok,
    (Instr.adjSlewStart ⟨32, 15, 0#32⟩).ok,
    (Instr.adjStep ⟨32, 15, 0#32⟩).ok,
    (Instr.adjAbort ⟨32, 15, 0#32⟩).ok,
    (Instr.adjTrace ⟨32, 15, 0#32⟩).ok,
    (Instr.srcChangeDeclare ⟨32, 15, 0#32⟩).ok,
    (Instr.changeOfSource ⟨32, 15, 0#32⟩).ok,
    (Instr.ppsInEdge 64).ok,
    (Instr.tbTxtsPop 32 0).ok,
    (Instr.tbTxtsPop 0 16).ok,
    (Instr.edgeCapture 16 0 false).ok,
    (Instr.edgeCapture 0 64 false).ok].all (fun b => !b) = true := by decide +kernel
theorem test_ill_formed_2 : [
    (Instr.timTagPop 32 0).ok,
    (Instr.timTagPop 0 16).ok,
    (Instr.timCalStart ⟨32, 15, 0#32⟩).ok,
    (Instr.timCoreStart 18 ⟨0, 15, 0#32⟩).ok,
    (Instr.timCoreStart 0 ⟨32, 15, 0#32⟩).ok,
    (Instr.timCalRunEnd 18 [] 0).ok,
    (Instr.timCalStale 18 0).ok,
    (Instr.tdcSpareSwitch 16).ok,
    (Instr.freqGateEnd ⟨8, 0, 0, 0⟩).ok,
    (Instr.cgLost 24).ok,
    (Instr.refEnWrite 24 ⟨0, 15, 0#32⟩).ok,
    (Instr.refEnWrite 0 ⟨32, 15, 0#32⟩).ok,
    (Instr.cnvRefOk 24).ok,
    (Instr.cnvApply 24 ⟨0, 15, 0#32⟩).ok,
    (Instr.cnvApply 0 ⟨32, 15, 0#32⟩).ok,
    (Instr.cnvPllLocked 24).ok,
    (Instr.pllUnlock 24).ok,
    (Instr.pllRelock 24).ok,
    (Instr.cnvLocked 24).ok,
    (Instr.lockLost 24).ok,
    (Instr.surveyStepEnd 24 []).ok,
    (Instr.sliceMonitorWindow 768 0 0 0 false false).ok,
    (Instr.sliceMonitorWindow 0 17 0 0 false false).ok,
    (Instr.surveyEnWrite 24 ⟨0, 15, 0#32⟩).ok].all (fun b => !b) = true := by decide +kernel
theorem test_ill_formed_3 : [
    (Instr.surveyEnWrite 0 ⟨32, 15, 0#32⟩).ok,
    (Instr.cnvInEnWrite 768 ⟨0, 15, 0#32⟩).ok,
    (Instr.cnvInEnWrite 0 ⟨32, 15, 0#32⟩).ok,
    (Instr.dieLinkDown 8).ok,
    (Instr.dieLinkUp 8).ok,
    (Instr.chpBind 1089 ⟨0, 15, 0#32⟩).ok,
    (Instr.chpBind 0 ⟨32, 15, 0#32⟩).ok,
    (Instr.chpUnbind 1089 ⟨0, 15, 0#32⟩).ok,
    (Instr.chpUnbind 0 ⟨32, 15, 0#32⟩).ok,
    (Instr.chpCommit 1089 ⟨0, 15, 0#32⟩).ok,
    (Instr.chpCommit 0 ⟨32, 15, 0#32⟩).ok,
    (Instr.districtWindowWrite 65 0 ⟨0, 15, 0#32⟩).ok,
    (Instr.districtWindowWrite 0 1024 ⟨0, 15, 0#32⟩).ok,
    (Instr.districtWindowWrite 0 0 ⟨32, 15, 0#32⟩).ok,
    (Instr.frameBoundary 8 0).ok,
    (Instr.blankEdge 8 false).ok,
    (Instr.sourceSample (.slot 1024) 0 ⟨0, 0, false, false, false, false, false⟩).ok,
    (Instr.sourceSample (.input 768) 0 ⟨0, 0, false, false, false, false, false⟩).ok,
    (Instr.cgTag 24 0).ok,
    (Instr.cgTag 0 64).ok,
    (Instr.cgTagMissing 24).ok,
    (Instr.coastTimeout 24).ok,
    (Instr.gridSampleEmit 1024).ok,
    (Instr.sourceResume 1024).ok,
    (Instr.spectrumReady 1024).ok].all (fun b => !b) = true := by decide +kernel
theorem test_ill_formed_4 : [
    (Instr.beamSum 4096).ok,
    (Instr.chainWaitExpiry 4096).ok,
    (Instr.bfmCommit ⟨32, 15, 0#32⟩).ok,
    (Instr.bmacFail 17).ok,
    (Instr.integrationEnd 4096 false).ok,
    (Instr.sfeBind ⟨32, 15, 0#32⟩).ok,
    (Instr.sfeUnbind ⟨32, 15, 0#32⟩).ok,
    (Instr.sfeCommit ⟨32, 15, 0#32⟩).ok,
    (Instr.excRampEnd 32).ok,
    (Instr.excRangeSettled 32).ok,
    (Instr.excSenseMeasure 32 0 false).ok,
    (Instr.pcvCycleStart 16).ok,
    (Instr.pcvEntryEnd 16 []).ok,
    (Instr.pcvUrgGo 16 ⟨0, 15, 0#32⟩).ok,
    (Instr.pcvUrgGo 0 ⟨32, 15, 0#32⟩).ok,
    (Instr.urgentArrive 16).ok,
    (Instr.pcvRefEnWrite ⟨32, 15, 0#32⟩).ok,
    (Instr.pcvMidscaleCheck 16 0).ok,
    (Instr.trimPageLoad 32 false false).ok,
    (Instr.calMeasureDone 18 [] [] 0).ok,
    (Instr.trgArm 64 ⟨0, 15, 0#32⟩).ok,
    (Instr.trgArm 0 ⟨32, 15, 0#32⟩).ok,
    (Instr.trgDisarm 64 ⟨0, 15, 0#32⟩).ok,
    (Instr.trgDisarm 0 ⟨32, 15, 0#32⟩).ok].all (fun b => !b) = true := by decide +kernel
theorem test_ill_formed_5 : [
    (Instr.trgRearm 64).ok,
    (Instr.ilineEdge 4 false).ok,
    (Instr.ilineStuck 4).ok,
    (Instr.netTriggerRx 65536 []).ok,
    (Instr.trgOutFire 64 ⟨0, 15, 0#32⟩).ok,
    (Instr.trgOutFire 0 ⟨32, 15, 0#32⟩).ok,
    (Instr.trgNetClr ⟨32, 15, 0#32⟩).ok,
    (Instr.ringCtlWrite ⟨32, 15, 0#32⟩).ok,
    (Instr.cmpRawWrite 1024 ⟨0, 15, 0#32⟩).ok,
    (Instr.cmpRawWrite 0 ⟨32, 15, 0#32⟩).ok,
    (Instr.tileClose false 16384 []).ok,
    (Instr.encResume 16384).ok,
    (Instr.cmpEngFault ⟨16, false⟩).ok,
    (Instr.recordTileFlush 16384).ok,
    (Instr.cmpJobPiWrite 32 ⟨0, 15, 0#32⟩).ok,
    (Instr.cmpJobPiWrite 0 ⟨32, 15, 0#32⟩).ok,
    (Instr.cmpJobDisable 32 ⟨0, 15, 0#32⟩).ok,
    (Instr.cmpJobDisable 0 ⟨32, 15, 0#32⟩).ok,
    (Instr.jobDecode 32 0 [] []).ok,
    (Instr.cmpJobMore 32 ⟨0, 15, 0#32⟩).ok,
    (Instr.cmpJobMore 0 ⟨32, 15, 0#32⟩).ok,
    (Instr.cmpJobAbort 32 ⟨0, 15, 0#32⟩).ok,
    (Instr.cmpJobAbort 0 ⟨32, 15, 0#32⟩).ok,
    (Instr.queEnable ⟨32, 15, 0#32⟩).ok].all (fun b => !b) = true := by decide +kernel
theorem test_ill_formed_6 : [
    (Instr.queDisable ⟨32, 15, 0#32⟩).ok,
    (Instr.queFlush ⟨32, 15, 0#32⟩).ok,
    (Instr.plotRequest 16384).ok,
    (Instr.plotRetry 16384).ok,
    (Instr.unitWrite 16384).ok,
    (Instr.egressFrame 41 0 0).ok,
    (Instr.egressStall 16384).ok,
    (Instr.plotEccError 50331648 0 false).ok,
    (Instr.pqFlush 256 false ⟨0, 15, 0#32⟩).ok,
    (Instr.pqFlush 0 false ⟨32, 15, 0#32⟩).ok,
    (Instr.popStallTimeout 256).ok,
    (Instr.sysPqMonPop 32 0).ok,
    (Instr.sysPqMonPop 0 223).ok,
    (Instr.monSnapshot 223).ok,
    (Instr.arbDecision 68 0 [] false).ok,
    (Instr.arbDecision 0 64 [] false).ok,
    (Instr.sheetStart 40 ⟨0, 15, 0#32⟩).ok,
    (Instr.sheetStart 0 ⟨32, 15, 0#32⟩).ok,
    (Instr.sheetStop 40 ⟨0, 15, 0#32⟩).ok,
    (Instr.sheetStop 0 ⟨32, 15, 0#32⟩).ok,
    (Instr.laneDetectDone 40 0).ok,
    (Instr.laneDetectDone 0 9).ok,
    (Instr.laneLockDone 40 0).ok,
    (Instr.laneLockDone 0 9).ok].all (fun b => !b) = true := by decide +kernel
theorem test_ill_formed_7 : [
    (Instr.laneEqDone 40 0 []).ok,
    (Instr.laneEqDone 0 9 []).ok,
    (Instr.laneAlignDone 40 0 0 false).ok,
    (Instr.laneAlignDone 0 9 0 false).ok,
    (Instr.laneAlignDone 0 0 256 false).ok,
    (Instr.sheetUp 40 0).ok,
    (Instr.bringupStageTimeout 40 0).ok,
    (Instr.bringupStageTimeout 0 9).ok,
    (Instr.bringupRetry 40).ok,
    (Instr.laneLos 40 0).ok,
    (Instr.laneLos 0 9).ok,
    (Instr.laneLosClear 40 0).ok,
    (Instr.laneLosClear 0 9).ok,
    (Instr.laneLol 40 0).ok,
    (Instr.laneLol 0 9).ok,
    (Instr.eyeMeasure 40 0 0 0).ok,
    (Instr.eyeMeasure 0 9 0 0).ok,
    (Instr.prbsLock 40 0 false).ok,
    (Instr.prbsLock 0 9 false).ok,
    (Instr.prbsLost 40 0 0 0).ok,
    (Instr.prbsLost 0 9 0 0).ok,
    (Instr.prbsInject 40 0 ⟨0, 15, 0#32⟩).ok,
    (Instr.prbsInject 0 9 ⟨0, 15, 0#32⟩).ok,
    (Instr.prbsInject 0 0 ⟨32, 15, 0#32⟩).ok].all (fun b => !b) = true := by decide +kernel
theorem test_ill_formed_8 : [
    (Instr.prbsClr 40 0 ⟨0, 15, 0#32⟩).ok,
    (Instr.prbsClr 0 9 ⟨0, 15, 0#32⟩).ok,
    (Instr.prbsClr 0 0 ⟨32, 15, 0#32⟩).ok,
    (Instr.sheetSub 40 ⟨0, 15, 0#32⟩).ok,
    (Instr.sheetSub 0 ⟨32, 15, 0#32⟩).ok,
    (Instr.narrowWrite 40 ⟨0, 15, 0#32⟩).ok,
    (Instr.narrowWrite 0 ⟨32, 15, 0#32⟩).ok,
    (Instr.laneSleepWrite 40 0 ⟨0, 15, 0#32⟩).ok,
    (Instr.laneSleepWrite 0 9 ⟨0, 15, 0#32⟩).ok,
    (Instr.laneSleepWrite 0 0 ⟨32, 15, 0#32⟩).ok,
    (Instr.trainingSetRx 40 0 []).ok,
    (Instr.trainingSetRx 0 9 []).ok,
    (Instr.trainAttemptTimeout 40).ok,
    (Instr.trainBackoffEnd 40).ok,
    (Instr.blockRx 40 0 0 []).ok,
    (Instr.blockRx 0 9 0 []).ok,
    (Instr.blockRx 0 0 64 []).ok,
    (Instr.flitRx 40).ok,
    (Instr.replayTimeout 40).ok,
    (Instr.claimRx 40).ok,
    (Instr.grantRx 40).ok,
    (Instr.refuseRx 40).ok,
    (Instr.doneRx 40).ok,
    (Instr.spareReadyRx 40).ok].all (fun b => !b) = true := by decide +kernel
theorem test_ill_formed_9 : [
    (Instr.switchRx 40).ok,
    (Instr.restoreRx 40).ok,
    (Instr.commandRx 40).ok,
    (Instr.xchgTimeout 40).ok,
    (Instr.dozeIdle 40).ok,
    (Instr.sampleRx 40 []).ok,
    (Instr.declareRx 40).ok,
    (Instr.partialRx 40).ok,
    (Instr.queueFlitRx 40).ok,
    (Instr.beaconTx 40).ok,
    (Instr.beaconRx 40).ok,
    (Instr.beaconLost 40).ok,
    (Instr.frameRx 32 false []).ok,
    (Instr.mergeTimeout 16384).ok,
    (Instr.heartbeatRx 32 []).ok,
    (Instr.heartbeatTimeout 32).ok,
    (Instr.portFaultHeld 32).ok,
    (Instr.routeSideWrite 16 ⟨0, 15, 0#32⟩).ok,
    (Instr.routeSideWrite 0 ⟨32, 15, 0#32⟩).ok,
    (Instr.rewindExpiry 16384).ok,
    (Instr.htxPiWrite 16 ⟨0, 15, 0#32⟩ []).ok,
    (Instr.htxPiWrite 0 ⟨32, 15, 0#32⟩ []).ok,
    (Instr.hrxPiWrite 16 ⟨0, 15, 0#32⟩ []).ok,
    (Instr.hrxPiWrite 0 ⟨32, 15, 0#32⟩ []).ok].all (fun b => !b) = true := by decide +kernel
theorem test_ill_formed_10 : [
    (Instr.functionLevelReset 32).ok,
    (Instr.vfDisable 32).ok,
    (Instr.ptmStart ⟨32, 15, 0#32⟩).ok,
    (Instr.msixModerationEnd 32 0).ok,
    (Instr.msixModerationEnd 0 2048).ok,
    (Instr.msixUnmask 32 (.control false false)).ok,
    (Instr.dbCmdPiWrite 4 ⟨0, 15, 0#32⟩ []).ok,
    (Instr.dbCmdPiWrite 0 ⟨32, 15, 0#32⟩ []).ok,
    (Instr.dbCplCiWrite 4 ⟨0, 15, 0#32⟩).ok,
    (Instr.dbCplCiWrite 0 ⟨32, 15, 0#32⟩).ok,
    (Instr.cmdEnvelopeRx 32 0 0 0 []).ok,
    (Instr.cmdKeyLoad ⟨32, 15, 0#32⟩).ok,
    (Instr.cmdKeyClear ⟨32, 15, 0#32⟩).ok,
    (Instr.cringEnable 32 0 ⟨0, 15, 0#32⟩).ok,
    (Instr.cringEnable 0 4 ⟨0, 15, 0#32⟩).ok,
    (Instr.cringEnable 0 0 ⟨32, 15, 0#32⟩).ok,
    (Instr.padOpcode { aPacket with gen := 256 }).ok,
    (Instr.cfgIdent { aPacket with gen := 256 }).ok,
    (Instr.cfgHubId { aPacket with gen := 256 }).ok,
    (Instr.cfgKeyLoad { aPacket with gen := 256 }).ok,
    (Instr.cfgKeyClear { aPacket with gen := 256 }).ok,
    (Instr.cfgKeyOwn { aPacket with gen := 256 }).ok,
    (Instr.cfgUdp { aPacket with gen := 256 }).ok,
    (Instr.cfgRegRead { aPacket with gen := 256 }).ok].all (fun b => !b) = true := by decide +kernel
theorem test_ill_formed_11 : [
    (Instr.cfgRegWrite { aPacket with gen := 256 }).ok,
    (Instr.cfgTableWrite { aPacket with gen := 256 }).ok,
    (Instr.cfgTableRead { aPacket with gen := 256 }).ok,
    (Instr.cnvGroup { aPacket with gen := 256 }).ok,
    (Instr.cnvInputEn { aPacket with gen := 256 }).ok,
    (Instr.cnvTrack { aPacket with gen := 256 }).ok,
    (Instr.cnvStatus { aPacket with gen := 256 }).ok,
    (Instr.brgQuota { aPacket with gen := 256 }).ok,
    (Instr.brgGrant { aPacket with gen := 256 }).ok,
    (Instr.brgRevoke { aPacket with gen := 256 }).ok,
    (Instr.brgBeams { aPacket with gen := 256 }).ok,
    (Instr.brgReset { aPacket with gen := 256 }).ok,
    (Instr.brgStatus { aPacket with gen := 256 }).ok,
    (Instr.pipeSource { aPacket with gen := 256 }).ok,
    (Instr.pipeBind { aPacket with gen := 256 }).ok,
    (Instr.pipeDelay { aPacket with gen := 256 }).ok,
    (Instr.pipeUnbind { aPacket with gen := 256 }).ok,
    (Instr.pipeMix { aPacket with gen := 256 }).ok,
    (Instr.pipeDecimate { aPacket with gen := 256 }).ok,
    (Instr.pipeResample { aPacket with gen := 256 }).ok,
    (Instr.pipeChannel { aPacket with gen := 256 }).ok,
    (Instr.pipeReduce { aPacket with gen := 256 }).ok,
    (Instr.pipeRoute { aPacket with gen := 256 }).ok,
    (Instr.pipeIntake { aPacket with gen := 256 }).ok].all (fun b => !b) = true := by decide +kernel
theorem test_ill_formed_12 : [
    (Instr.pipeCommit { aPacket with gen := 256 }).ok,
    (Instr.pipeFpd { aPacket with gen := 256 }).ok,
    (Instr.pipeDistrict { aPacket with gen := 256 }).ok,
    (Instr.pipeRaw { aPacket with gen := 256 }).ok,
    (Instr.pipeStatus { aPacket with gen := 256 }).ok,
    (Instr.beamSet { aPacket with gen := 256 }).ok,
    (Instr.beamDisable { aPacket with gen := 256 }).ok,
    (Instr.beamIset { aPacket with gen := 256 }).ok,
    (Instr.beamWeights { aPacket with gen := 256 }).ok,
    (Instr.beamStatus { aPacket with gen := 256 }).ok,
    (Instr.beamLoad { aPacket with gen := 256 }).ok,
    (Instr.gridDefine { aPacket with gen := 256 }).ok,
    (Instr.gridClear { aPacket with gen := 256 }).ok,
    (Instr.gridRead { aPacket with gen := 256 }).ok,
    (Instr.gridIndex { aPacket with gen := 256 }).ok,
    (Instr.queueConfig { aPacket with gen := 256 }).ok,
    (Instr.queueEnable { aPacket with gen := 256 }).ok,
    (Instr.queueDisable { aPacket with gen := 256 }).ok,
    (Instr.queueFlush { aPacket with gen := 256 }).ok,
    (Instr.queueStatus { aPacket with gen := 256 }).ok,
    (Instr.queueChain { aPacket with gen := 256 }).ok,
    (Instr.queueDeliver { aPacket with gen := 256 }).ok,
    (Instr.plotStatus { aPacket with gen := 256 }).ok,
    (Instr.plotEscape { aPacket with gen := 256 }).ok].all (fun b => !b) = true := by decide +kernel
theorem test_ill_formed_13 : [
    (Instr.plotLow { aPacket with gen := 256 }).ok,
    (Instr.plotCounters { aPacket with gen := 256 }).ok,
    (Instr.timeRead { aPacket with gen := 256 }).ok,
    (Instr.timeAdjust { aPacket with gen := 256 }).ok,
    (Instr.timeSource { aPacket with gen := 256 }).ok,
    (Instr.timeAge { aPacket with gen := 256 }).ok,
    (Instr.timePpsDelay { aPacket with gen := 256 }).ok,
    (Instr.timeTaiUtc { aPacket with gen := 256 }).ok,
    (Instr.timeStatus { aPacket with gen := 256 }).ok,
    (Instr.timeEdge { aPacket with gen := 256 }).ok,
    (Instr.timeFreq { aPacket with gen := 256 }).ok,
    (Instr.timeFreqRead { aPacket with gen := 256 }).ok,
    (Instr.timePtm { aPacket with gen := 256 }).ok,
    (Instr.trigArm { aPacket with gen := 256 }).ok,
    (Instr.trigDisarm { aPacket with gen := 256 }).ok,
    (Instr.trigFire { aPacket with gen := 256 }).ok,
    (Instr.trigSrcSkew { aPacket with gen := 256 }).ok,
    (Instr.trigRing { aPacket with gen := 256 }).ok,
    (Instr.trigCapset { aPacket with gen := 256 }).ok,
    (Instr.trigNet { aPacket with gen := 256 }).ok,
    (Instr.trigStream { aPacket with gen := 256 }).ok,
    (Instr.trigStatus { aPacket with gen := 256 }).ok,
    (Instr.calTrimRepair { aPacket with gen := 256 }).ok,
    (Instr.calUserMeasure { aPacket with gen := 256 }).ok].all (fun b => !b) = true := by decide +kernel
theorem test_ill_formed_14 : [
    (Instr.calUserWrite { aPacket with gen := 256 }).ok,
    (Instr.calTim { aPacket with gen := 256 }).ok,
    (Instr.calTimPeriod { aPacket with gen := 256 }).ok,
    (Instr.calSliceTrim { aPacket with gen := 256 }).ok,
    (Instr.calSurvey { aPacket with gen := 256 }).ok,
    (Instr.calSurveyStep { aPacket with gen := 256 }).ok,
    (Instr.calPageRead { aPacket with gen := 256 }).ok,
    (Instr.feBind { aPacket with gen := 256 }).ok,
    (Instr.feUnbind { aPacket with gen := 256 }).ok,
    (Instr.feExcitation { aPacket with gen := 256 }).ok,
    (Instr.feChannel { aPacket with gen := 256 }).ok,
    (Instr.feSequence { aPacket with gen := 256 }).ok,
    (Instr.feRoute { aPacket with gen := 256 }).ok,
    (Instr.feBlank { aPacket with gen := 256 }).ok,
    (Instr.feLin { aPacket with gen := 256 }).ok,
    (Instr.feUrgent { aPacket with gen := 256 }).ok,
    (Instr.feRef { aPacket with gen := 256 }).ok,
    (Instr.feStatus { aPacket with gen := 256 }).ok,
    (Instr.laneSheet { aPacket with gen := 256 }).ok,
    (Instr.laneTune { aPacket with gen := 256 }).ok,
    (Instr.laneSubst { aPacket with gen := 256 }).ok,
    (Instr.laneNarrow { aPacket with gen := 256 }).ok,
    (Instr.lanePrbs { aPacket with gen := 256 }).ok,
    (Instr.laneStatus { aPacket with gen := 256 }).ok].all (fun b => !b) = true := by decide +kernel
theorem test_ill_formed_15 : [
    (Instr.linkConfig { aPacket with gen := 256 }).ok,
    (Instr.linkRxmap { aPacket with gen := 256 }).ok,
    (Instr.linkStatus { aPacket with gen := 256 }).ok,
    (Instr.routeMac { aPacket with gen := 256 }).ok,
    (Instr.routePair { aPacket with gen := 256 }).ok,
    (Instr.routeSide { aPacket with gen := 256 }).ok,
    (Instr.routePolicy { aPacket with gen := 256 }).ok,
    (Instr.routeHeartbeat { aPacket with gen := 256 }).ok,
    (Instr.routeStream { aPacket with gen := 256 }).ok,
    (Instr.routeAddress { aPacket with gen := 256 }).ok,
    (Instr.routePort { aPacket with gen := 256 }).ok,
    (Instr.routeStatus { aPacket with gen := 256 }).ok,
    (Instr.gazRoot { aPacket with gen := 256 }).ok,
    (Instr.gazRegister { aPacket with gen := 256 }).ok,
    (Instr.gazRemove { aPacket with gen := 256 }).ok,
    (Instr.gazRead { aPacket with gen := 256 }).ok,
    (Instr.gazDistrict { aPacket with gen := 256 }).ok,
    (Instr.gazSend { aPacket with gen := 256 }).ok,
    (Instr.gazCounts { aPacket with gen := 256 }).ok,
    (Instr.gazDigest { aPacket with gen := 256 }).ok,
    (Instr.logHead { aPacket with gen := 256 }).ok,
    (Instr.logRead { aPacket with gen := 256 }).ok,
    (Instr.logChallenge { aPacket with gen := 256 }).ok,
    (Instr.logClear { aPacket with gen := 256 }).ok].all (fun b => !b) = true := by decide +kernel
theorem test_ill_formed_16 : [
    (Instr.logKey { aPacket with gen := 256 }).ok,
    (Instr.logRepeat { aPacket with gen := 256 }).ok,
    (Instr.powerDown { aPacket with gen := 256 }).ok,
    (Instr.powerUp { aPacket with gen := 256 }).ok,
    (Instr.powerHold { aPacket with gen := 256 }).ok,
    (Instr.powerStatus { aPacket with gen := 256 }).ok,
    (Instr.sparePolicy { aPacket with gen := 256 }).ok,
    (Instr.spareSlice { aPacket with gen := 256 }).ok,
    (Instr.spareEngine { aPacket with gen := 256 }).ok,
    (Instr.spareSlot { aPacket with gen := 256 }).ok,
    (Instr.spareTdc { aPacket with gen := 256 }).ok,
    (Instr.sparePcv { aPacket with gen := 256 }).ok,
    (Instr.spareBmac { aPacket with gen := 256 }).ok,
    (Instr.spareCore { aPacket with gen := 256 }).ok,
    (Instr.sparePlot { aPacket with gen := 256 }).ok,
    (Instr.spareMram { aPacket with gen := 256 }).ok,
    (Instr.spareInventory { aPacket with gen := 256 }).ok,
    (Instr.diagEcho { aPacket with gen := 256 }).ok,
    (Instr.diagSelftest { aPacket with gen := 256 }).ok,
    (Instr.diagBeamSat { aPacket with gen := 256 }).ok,
    (Instr.diagTemps { aPacket with gen := 256 }).ok,
    (Instr.brgCtlReset 32 ⟨0, 15, 0#32⟩).ok,
    (Instr.brgCtlReset 0 ⟨32, 15, 0#32⟩).ok,
    (Instr.boroughResetDone 32).ok].all (fun b => !b) = true := by decide +kernel
theorem test_ill_formed_17 : [
    (Instr.deliveryDoorbell 0 ⟨32, 15, 0#32⟩).ok,
    (Instr.dbEvtSrc ⟨32, 15, 0#32⟩).ok,
    (Instr.dbEvtAll ⟨32, 15, 0#32⟩).ok,
    (Instr.gazCopyTx 4096).ok,
    (Instr.gazRetry 4096 0).ok,
    (Instr.gazRetry 0 33554432).ok,
    (Instr.gazOutcomeRx 33554432 []).ok,
    (Instr.gazCollectEnd 4096).ok,
    (Instr.evtPendWrite 9 ⟨0, 15, 0#32⟩).ok,
    (Instr.evtPendWrite 0 ⟨32, 15, 0#32⟩).ok,
    (Instr.logWrite 16).ok,
    (Instr.pwrDown 97 ⟨0, 15, 0#32⟩).ok,
    (Instr.pwrDown 0 ⟨32, 15, 0#32⟩).ok,
    (Instr.pwrUp 97 ⟨0, 15, 0#32⟩).ok,
    (Instr.pwrUp 0 ⟨32, 15, 0#32⟩).ok,
    (Instr.drainComplete 97).ok,
    (Instr.drainTimeout 97).ok,
    (Instr.wakeComplete 97).ok,
    (Instr.wakeTimeout 97).ok,
    (Instr.engFail 68 false).ok,
    (Instr.slotFail 1024).ok,
    (Instr.coreFail 5 false none).ok,
    (Instr.stackTrainingDone 64).ok,
    (Instr.startDone 256 0).ok].all (fun b => !b) = true := by decide +kernel
theorem test_ill_formed_18 : [
    (Instr.startDone 0 1024).ok,
    (Instr.warmRegRequest ⟨32, 15, 0#32⟩).ok,
    (Instr.fwRestartRequest ⟨32, 15, 0#32⟩).ok,
    (Instr.imageVerify ⟨32, 15, 0#32⟩).ok,
    (Instr.mgbXferGo ⟨32, 15, 0#32⟩).ok,
    (Instr.mgbXferDone 256 0 []).ok,
    (Instr.mgbXferDone 0 33 []).ok,
    (Instr.mgbPoll 64 0 0).ok,
    (Instr.mgbPoll 0 256 0).ok,
    (Instr.mgbPoll 0 0 65536).ok,
    (Instr.mgbSigCfgWrite 32 ⟨0, 15, 0#32⟩).ok,
    (Instr.mgbSigCfgWrite 0 ⟨32, 15, 0#32⟩).ok,
    (Instr.mgbEdgePush ⟨32, 15, 0#32⟩).ok,
    (Instr.sigEdgeFire 32).ok,
    (Instr.frameMarkerStart 32).ok,
    (Instr.frameMarkerEnd 32).ok,
    (Instr.tapInstruction 256).ok,
    (Instr.clkPllRelock 12).ok,
    (Instr.currentLimit 32).ok,
    (Instr.pcsFault 32 0).ok,
    (Instr.pcsFault 0 5).ok,
    (Instr.pcsFaultClear 32).ok,
    (Instr.blockTx 40 0).ok,
    (Instr.blockTx 0 64).ok].all (fun b => !b) = true := by decide +kernel
theorem test_ill_formed_19 : [
    (Instr.busMasterEnableWrite 32 false false).ok,
    (Instr.clkPllUnlock 12).ok].all (fun b => !b) = true := by decide +kernel
theorem test_ill_formed_write : (Wr.ok ⟨0, 16, 0#32⟩) = false ∧ (Path.ok (.ring 0 4)) = false ∧ (Path.ok (.ring 32 0)) = false ∧
    (Path.ok (.udp 32 0 0)) = false ∧ (Path.ok (.udp 0 0 65536)) = false ∧ (Path.ok (.spaxa 40)) = false ∧ (Path.ok (.tree 4096)) = false := by decide
theorem test_ill_formed_packet : [{ aPacket with path := .spaxa 40 }, { aPacket with pathBorough := 32 }, { aPacket with borough := 256 },
    { aPacket with gen := 256 }, { aPacket with tag := 65536 }, { aPacket with flags := 65536 }, { aPacket with length := 2 ^ 32 },
    { aPacket with version := 2 ^ 32 }, { aPacket with actTime := 2 ^ 96 }, { aPacket with tail := 2 ^ 32 }].all (fun p => !p.ok) = true := by decide +kernel
theorem test_well_formed_packet : aPacket.ok = true := by decide +kernel
/-- No row of the table has bits, so no word spells a command. -/
theorem test_decode_none : decodeTableWord 32 0 = none := rfl

/-! ## Steps worked out by hand -/
/-- A value of the next state of a command, 0 where there is none. -/
def after (c : Instr) (s : State) (f : State → Int) : Int := match exec c s with
  | .next t => f t
  | _ => -1
/-- R50: five ticks of 0.4 ns are 2 ns, which is 2 × 65,536 units. -/
theorem test_five_ticks : elapsed 5 0 0 = 131072 := by decide +kernel
/-- R50, R52: at the largest rate a second of 2.5 × 10^9 ticks gains 500 µs, less the part of a unit that the limit is short of. -/
theorem test_rate_limit : elapsed 2500000000 rateLimit 0 - 65536 * 1000000000 = 65536 * 500000 := by decide +kernel
/-- R47: loss of the phase PLL sets COARSE and COARSE_SEEN; its return clears COARSE alone. -/
theorem test_unlock : after .phaseUnlock live (fun t => 2 * t.get TB_STATUS_COARSE + t.get TB_STATUS_COARSE_SEEN) = 3 := by decide +kernel
theorem test_relock : after .phaseRelock ((live.put TB_STATUS_COARSE 1).put TB_STATUS_COARSE_SEEN 1)
    (fun t => 2 * t.get TB_STATUS_COARSE + t.get TB_STATUS_COARSE_SEEN) = 1 := by decide +kernel
/-- R99: a step of 1 s moves the present time by 65,536 × 10^9 units and no tick. -/
theorem test_step : after (.adjStep ⟨0, 15, 9#32⟩) (adjReady 0 65536000000000 0) (fun t => t.mt - live.mt) = 65536000000000 := by decide +kernel
/-- R52: a rate one unit above the limit leaves TIME_RANGE in the code, and the rate in force at 0. -/
theorem test_rate_refused : after (.adjRateChange ⟨0, 15, 3#32⟩) (adjReady 140737488356 0 0)
    (fun t => t.get TB_ADJ_STAT_CODE + 10 * t.tb.rate) = 5 := by decide +kernel
/-- R528, R534: the TIME_READ of a hub at work is answered OK and its tag becomes DONE. -/
theorem test_tag_done : after (.timeRead (cmd 0x0701 [])) ready (fun t => match t.tag 0 1 with
  | .done _ _ => 1
  | _ => 0) = 1 := by decide +kernel
/-- R528: the same packet again is a retry: it is counted and not executed. -/
theorem test_retry : after (.timeRead (cmd 0x0701 [])) (ready.setTag 0 1 (.done 0 [])) (fun t => t.rn CMD_REPLAYS) = 1 := by decide +kernel
/-- R695: code 1 reads the identity register and code 255 bypasses. -/
theorem test_tap_idcode : after (.tapInstruction 1) live (fun t => t.tap.data) = 1 := by decide +kernel
theorem test_tap_bypass : after (.tapInstruction 255) live (fun t => t.tap.data) = 0 := by decide +kernel
/-- The check value of CRC-32C: its value on the nine digits 1 to 9. -/
theorem test_crc32c : crc32c [0x31#8, 0x32#8, 0x33#8, 0x34#8, 0x35#8, 0x36#8, 0x37#8, 0x38#8, 0x39#8] = 0xE3069283 := by decide +kernel
/-- R508: an HI register is latched by the read of its LO. -/
theorem test_pair_latch : after (.pairLoRead 0 0x30040) (live.wr64 TB_ADJ_RATE_LO TB_ADJ_RATE_HI (7 * 2 ^ 32 + 5))
    (fun t => match (t.func 0).latch with
      | some (_, w) => w.toNat
      | none => 0) = 7 := by decide +kernel
/-- The step of an idle hub counts one tick, and 25 while COARSE (R47, log entry 40). -/
theorem test_idle_tick : live.idle.tb.fc = 1001 := by decide +kernel
theorem test_idle_coarse : (live.put TB_STATUS_COARSE 1).idle.tb.fc = 1025 := by decide +kernel

/-! ## Witnesses -/
theorem witness_StepRunsFront_front : ∃ (s : State) (c : Instr) (rest : List Instr), s.pending = c :: rest :=
  ⟨{ live with pending := [.slewDone] }, .slewDone, [], by decide +kernel⟩

theorem witness_StepConsumesFront_consumes : ∃ (s t : State) (c : Instr) (rest : List Instr), s.pending = c :: rest ∧ step s = .next t :=
  ⟨{ live with pending := [.tapReset, .slewDone] }, { live with pending := [.slewDone], tap := {} }, .tapReset, [.slewDone], ⟨rfl, rfl⟩⟩

theorem witness_ClockStandsUntilLock_kept : ∃ (s t : State), (s.tb.locked = false → s.tb.fc = 0) ∧ step s = .next t ∧ t.tb.locked = false :=
  ⟨{ State.reset with pending := [.porRelease] }, { State.reset with porLow := false }, ⟨fun _ => rfl, rfl, rfl⟩⟩

theorem witness_FreeCountMoves_commands : ∃ (s t : State) (c : Instr), isSpecial c = false ∧ exec c s = .next t :=
  ⟨live, live.put TB_STATUS_COARSE 0, .phaseRelock, ⟨rfl, rfl⟩⟩

theorem witness_FreeCountMoves_firstLock : ∃ (s : State), s.tb.locked = false ∧ s.porLow = false ∧ s.start.aonLow = false :=
  ⟨State.reset, by decide +kernel⟩

theorem witness_FreeCountMoves_idles : ∃ (s : State), s.pending = [] :=
  ⟨live, by decide +kernel⟩

theorem witness_FreeCountMoves_count : ∃ (s : State), s.pending = [] :=
  ⟨live, by decide +kernel⟩

theorem witness_LogbookKept_commands : ∃ (s t : State) (c : Instr), isSpecial c = false ∧ reachesMram c = false ∧ exec c s = .next t :=
  ⟨live, live.put TB_STATUS_COARSE 0, .phaseRelock, ⟨rfl, rfl, rfl⟩⟩

theorem witness_RetransmittedPacket_retry : ∃ (c : Instr) (op : Nat) (act : Bool) (h : Packet → State → CmdOut × State) (p : Packet) (s : State) (l : List Word), Delivers c op act h p ∧ s.engineShut = false ∧ s.pathOpen p = true ∧ (s.announce p).mustWait p true = false ∧ (s.announce p).overRate p.pathBorough = false ∧ (s.taken p).packetForm p = true ∧ Packet.crcOk op p = true ∧ p.borough % 32 = p.pathBorough ∧ (s.taken p).get (BRG_STAT_STATE p.pathBorough) ≠ 1 ∧ (s.taken p).tag (p.borough % 32) p.tag = .done (p.gen / 16) l :=
  ⟨.timeRead (cmd 0x0701 []), 0x0701, false, opTimeRead, cmd 0x0701 [], ready.setTag 0 1 (.done 0 []), [], ⟨fun _ => rfl, by decide +kernel⟩⟩

theorem witness_RetransmittedPacket_renewed : ∃ (c : Instr) (op : Nat) (act : Bool) (h : Packet → State → CmdOut × State) (p : Packet) (s : State) (l : List Word) (g : Nat), Delivers c op act h p ∧ s.engineShut = false ∧ s.pathOpen p = true ∧ (s.announce p).mustWait p true = false ∧ (s.announce p).overRate p.pathBorough = false ∧ (s.taken p).packetForm p = true ∧ Packet.crcOk op p = true ∧ p.borough % 32 = p.pathBorough ∧ (s.taken p).get (BRG_STAT_STATE p.pathBorough) ≠ 1 ∧ (s.taken p).tag (p.borough % 32) p.tag = .done g l ∧ g ≠ p.gen / 16 :=
  ⟨.timeRead (cmd 0x0701 []), 0x0701, false, opTimeRead, cmd 0x0701 [], ready.setTag 0 1 (.done 1 []), [], 1, ⟨fun _ => rfl, by decide +kernel⟩⟩

theorem witness_RetransmittedPacket_duplicate : ∃ (c : Instr) (op : Nat) (act : Bool) (h : Packet → State → CmdOut × State) (p : Packet) (s : State) (b r : Nat), Delivers c op act h p ∧ s.engineShut = false ∧ s.pathOpen p = true ∧ (s.announce p).mustWait p true = false ∧ (s.announce p).overRate p.pathBorough = false ∧ (s.taken p).packetForm p = true ∧ Packet.crcOk op p = true ∧ p.borough % 32 = p.pathBorough ∧ (s.taken p).get (BRG_STAT_STATE p.pathBorough) ≠ 1 ∧ (s.taken p).tag (p.borough % 32) p.tag = .busy (p.gen / 16) ∧ p.path = .ring b r :=
  ⟨.timeRead (cmd 0x0701 []), 0x0701, false, opTimeRead, cmd 0x0701 [], ready.setTag 0 1 (.busy 0), 0, 0, ⟨fun _ => rfl, by decide +kernel⟩⟩

theorem witness_RetransmittedPacket_tagBusy : ∃ (c : Instr) (op : Nat) (act : Bool) (h : Packet → State → CmdOut × State) (p : Packet) (s : State) (g : Nat), Delivers c op act h p ∧ s.engineShut = false ∧ s.pathOpen p = true ∧ (s.announce p).mustWait p true = false ∧ (s.announce p).overRate p.pathBorough = false ∧ (s.taken p).packetForm p = true ∧ Packet.crcOk op p = true ∧ p.borough % 32 = p.pathBorough ∧ (s.taken p).get (BRG_STAT_STATE p.pathBorough) ≠ 1 ∧ (s.taken p).tag (p.borough % 32) p.tag = .busy g ∧ g ≠ p.gen / 16 :=
  ⟨.timeRead (cmd 0x0701 []), 0x0701, false, opTimeRead, cmd 0x0701 [], ready.setTag 0 1 (.busy 1), 1, ⟨fun _ => rfl, by decide +kernel⟩⟩

theorem witness_TestAccess_low : ∃ (s : State) (ir : Nat), 3 ≤ ir ∧ ir ≤ 7 ∧ s.porLow = true :=
  ⟨{ live with porLow := true }, 7, by decide +kernel⟩

theorem witness_TestAccess_high : ∃ (s : State) (ir : Nat), 3 ≤ ir ∧ ir ≤ 7 ∧ s.porLow = false :=
  ⟨live, 3, by decide +kernel⟩

theorem witness_TestAccess_capture : ∃ (s : State), s.porLow = false :=
  ⟨live, by decide +kernel⟩

theorem witness_TestAccess_undisturbed : ∃ (s : State) (ir : Nat), s.porLow = false :=
  ⟨live, 255, by decide +kernel⟩

theorem witness_RateRange_accepted : ∃ (s : State) (w : Wr), s.Opens w 0x30054 ∧ s.isSet TB_ADJ_CTL_GO = false ∧ w.hits 0 = true ∧ (s.mergeRaw 0x30054 w).adjOps = ⟨true, false, false, false, false⟩ ∧ s.get TB_DISC_SRC ≠ 1 ∧ s.get TB_DISC_SRC ≠ 2 ∧ -140737488355 ≤ sext 64 (s.rd64 TB_ADJ_RATE_LO TB_ADJ_RATE_HI) ∧ sext 64 (s.rd64 TB_ADJ_RATE_LO TB_ADJ_RATE_HI) ≤ 140737488355 :=
  ⟨adjReady 140737488355 0 0, ⟨0, 15, 3#32⟩, by decide +kernel⟩

theorem witness_RateRange_refused : ∃ (s : State) (w : Wr), s.Opens w 0x30054 ∧ s.isSet TB_ADJ_CTL_GO = false ∧ w.hits 0 = true ∧ (s.mergeRaw 0x30054 w).adjOps = ⟨true, false, false, false, false⟩ ∧ s.get TB_DISC_SRC ≠ 1 ∧ s.get TB_DISC_SRC ≠ 2 ∧ (sext 64 (s.rd64 TB_ADJ_RATE_LO TB_ADJ_RATE_HI) < -140737488355 ∨ 140737488355 < sext 64 (s.rd64 TB_ADJ_RATE_LO TB_ADJ_RATE_HI)) :=
  ⟨adjReady 140737488356 0 0, ⟨0, 15, 3#32⟩, by decide +kernel⟩

theorem witness_RateRange_opcode : ∃ (s u : State) (p : Packet) (rate : Int), s.Admits 0x0702 false p ∧ u = s.begun p ∧ Packet.sized p 24 = true ∧ Packet.arg p 1 3
  = 0 ∧ Packet.arg p 0 1 = 2 ∧ rate = sext 64 (Packet.arg p 4 8) ∧ p.borough % 32 = 0 ∧ u.isSet TB_ADJ_CTL_GO = false ∧ u.get
  TB_DISC_SRC ≠ 1 ∧ u.get TB_DISC_SRC ≠ 2 ∧ (rate < -140737488355 ∨ 140737488355 < rate) :=
  ⟨ready, (ready).begun (cmd 0x0702 [2#32, 0xFFFFFFFF#32, 0x7FFFFFFF#32, 0#32, 0#32, 0#32]), (cmd 0x0702 [2#32, 0xFFFFFFFF#32, 0x7FFFFFFF#32, 0#32, 0#32, 0#32]), 9223372036854775807, by decide +kernel⟩

theorem witness_StepAdjust_step : ∃ (s u : State) (w : Wr) (amt : Int), s.Opens w 0x30054 ∧ s.isSet TB_ADJ_CTL_GO = false ∧ w.hits 0 = true ∧ u = (s.mergeRaw 0x30054 w).foldDue ∧ amt = sext 64 (s.rd64 TB_ADJ_AMT_LO TB_ADJ_AMT_HI) ∧ u.adjOps = ⟨false, false, true, false, false⟩ ∧ u.adjCheck ⟨false, false, true, false, false⟩ (sext 64 (s.rd64 TB_ADJ_RATE_LO TB_ADJ_RATE_HI)) amt (s.rn TB_ADJ_SLEW) = 0 :=
  ⟨adjReady 0 65536000000000 0, (adjReady 0 65536000000000 0).mergeRaw 0x30054 ⟨0, 15, 9#32⟩, ⟨0, 15, 9#32⟩, 65536000000000, by decide +kernel⟩

theorem witness_RegisterAndTableMemory_canonical : ∃ (s : State) (k : Nat) (w : Word), mapWf 0#32 s.aper = true :=
  ⟨State.reset, 0, 0#32, by decide +kernel⟩

theorem witness_HostRequestsComplete_reg : ∃ (s : State) (w : Wr) (off : Nat), off < 0x1000000 ∧ off % 4 = 0 ∧ (s.func w.fn).held = none ∧ s.reaches w.fn off true = true ∧ isPairLo off = false :=
  ⟨demo, ⟨0, 15, 5#32⟩, 0x3003C, by decide +kernel⟩

theorem witness_HostRequestsComplete_plain : ∃ (s : State) (v : Word), (s.func 0).held = none ∧ s.isSet SYS_START_READY = true :=
  ⟨demo, 5#32, by decide +kernel⟩

theorem witness_HostRequestsComplete_vector : ∃ (s : State) (w : Wr) (v : Nat), (s.func w.fn).held = none ∧ v < vecCount w.fn :=
  ⟨demo, ⟨0, 15, 5#32⟩, 2047, by decide +kernel⟩

theorem witness_HostRequestsComplete_doorbell : ∃ (s : State) (w : Wr) (r : Nat), r < 4 ∧ (s.func w.fn).held = none ∧ s.isSet SYS_START_READY = true ∧ w.be % 16 = 15 :=
  ⟨demo, ⟨0, 15, 5#32⟩, 3, by decide +kernel⟩

theorem witness_HostRequestsComplete_aperture : ∃ (s : State) (d : List (Nat × Byte)), (s.func 0).held = none ∧ s.shut 0x1000000 = false ∧ (∀ x ∈ d, 0x1000000 ≤ x.1 ∧ x.1 < 0x4000000) ∧ (∀ x ∈ d, ∀ o ∈ [x.1, x.1 / 4 * 4], (s.tabHit o).writable = true ∧ s.hitBusy (s.tabHit o) = none) :=
  ⟨demo, [(0x1000000, 5#8), (0x1000003, 9#8)], by decide +kernel⟩

theorem witness_HostRequestsComplete_reservedWrite : ∃ (s : State) (fn bar off : Nat), (s.func fn).held = none ∧ s.reservedAt fn bar (off / 4 * 4) true = true :=
  ⟨demo, 0, 2, 0x2000, by decide +kernel⟩

theorem witness_HostRequestsComplete_reservedRead : ∃ (s : State) (fn bar off : Nat), (s.func fn).held = none ∧ s.reservedAt fn bar (off / 4 * 4) false = true :=
  ⟨demo, 31, 0, 0x10000, by decide +kernel⟩

theorem witness_HostRequestsComplete_oversize : ∃ (s : State) (fn bar off len : Nat) (write : Bool), (s.func fn).held = none ∧ 64 < len ∧ (bar = 2 ∨ (bar = 0 ∧ off < 0x1000000)) :=
  ⟨demo, 0, 0, 0xFFFFC0, 65, true, by decide +kernel⟩

theorem witness_HostRequestsComplete_atomic : ∃ (s : State) (fn addr : Nat), (s.func fn).held = none :=
  ⟨demo, 0, 0, by decide +kernel⟩

theorem witness_HostRequestsComplete_loRead : ∃ (s : State) (fn off : Nat), (s.func fn).held = none ∧ s.reaches fn off false = true ∧ isPairLo (s.keyOf0 fn off) = true :=
  ⟨demo, 0, 0x30040, by decide +kernel⟩

theorem witness_HostRequestsComplete_loWrite : ∃ (s : State) (off : Nat) (w : Wr), (s.func w.fn).held = none ∧ s.reaches w.fn off true = true ∧ isPairLo off = true ∧ isPairLo (s.keyOf0 w.fn off) = true ∧ vfWrites w.fn off = true ∧ w.mask ≠ 0 :=
  ⟨demo, 0x30040, ⟨0, 1, 5#32⟩, by decide +kernel⟩

theorem witness_HostRequestsComplete_hiWrite : ∃ (s : State) (off : Nat) (v : Word) (w : Wr), 4 ≤ off ∧ isPairLo (s.keyOf0 w.fn (off - 4)) = true ∧ (s.func w.fn).held = some (off - 4, v) ∧ s.reaches w.fn off true = true ∧ vfWrites w.fn off = true ∧ (s.setFunc w.fn { s.func w.fn with held := none }).pairShut off = false :=
  ⟨demo.setFunc 0 { demo.func 0 with held := some (0x30040, 7#32) }, 0x30044, 7#32, ⟨0, 1, 5#32⟩, by decide +kernel⟩

theorem witness_HostRequestsComplete_hiPlain : ∃ (s : State) (v hi : Word), (s.func 0).held = some (0x30040, v) ∧ s.isSet SYS_START_READY = true ∧ s.isSet TB_ADJ_CTL_GO = false :=
  ⟨demo.setFunc 0 { demo.func 0 with held := some (0x30040, 7#32) }, 7#32, 0#32
, by decide +kernel⟩

theorem witness_TimeBaseCommandsComplete_firstLock : ∃ (s : State), s.tb.locked = false ∧ s.porLow = false ∧ s.start.aonLow = false :=
  ⟨demo, by decide +kernel⟩

theorem witness_TimeBaseCommandsComplete_unlock : ∃ (s : State), s.tb.locked = true ∧ s.isSet TB_STATUS_COARSE = false :=
  ⟨live, by decide +kernel⟩

theorem witness_TimeBaseCommandsComplete_fold : ∃ (s : State), s.tb.locked = true ∧ s.tb.nextFold ≤ s.tb.fc ∧ s.tb.foldHeld (ageDelta (sext 32 (s.rn TB_AGE))) = false :=
  ⟨({ live with tb := { live.tb with fc := 2 ^ 36, ageFrac := 5 } } : State).wn TB_AGE 1000000000, by decide +kernel⟩

theorem witness_TimeBaseCommandsComplete_now : ∃ (s : State) (fn : Nat), s.shut 0x30010 = false ∧ (s.func fn).held = none :=
  ⟨live, 31, by decide +kernel⟩

theorem witness_TimeBaseCommandsComplete_rate : ∃ (s v : State) (w : Wr), s.Opens w 0x30054 ∧ s.isSet TB_ADJ_CTL_GO = false ∧ w.hits 0 = true ∧ v = (s.mergeRaw 0x30054 w).foldDue ∧ v.adjOps = ⟨true, false, false, false, false⟩ ∧ v.adjCheck ⟨true, false, false, false, false⟩ (sext 64 (s.rd64 TB_ADJ_RATE_LO TB_ADJ_RATE_HI)) (sext 64 (s.rd64
      TB_ADJ_AMT_LO TB_ADJ_AMT_HI)) (s.rn TB_ADJ_SLEW) = 0 :=
  ⟨adjReady 7 0 0, ((adjReady 7 0 0).mergeRaw 0x30054 ⟨0, 15, 3#32⟩).foldDue, ⟨0, 15, 3#32⟩, by decide +kernel⟩

theorem witness_TimeBaseCommandsComplete_slew : ∃ (s v : State) (w : Wr), s.Opens w 0x30054 ∧ s.isSet TB_ADJ_CTL_GO = false ∧ w.hits 0 = true ∧ v = (s.mergeRaw 0x30054 w).foldDue ∧ v.adjOps = ⟨false, true, false, false, false⟩ ∧ v.adjCheck ⟨false, true, false, false, false⟩ (sext 64 (s.rd64 TB_ADJ_RATE_LO TB_ADJ_RATE_HI)) (sext 64 (s.rd64
      TB_ADJ_AMT_LO TB_ADJ_AMT_HI)) (s.rn TB_ADJ_SLEW) = 0 ∧ sext 64 (s.rd64 TB_ADJ_AMT_LO TB_ADJ_AMT_HI) ≠ 0 :=
  ⟨adjReady 0 65536 10000, ((adjReady 0 65536 10000).mergeRaw 0x30054 ⟨0, 15, 5#32⟩).foldDue, ⟨0, 15, 5#32⟩, by decide +kernel⟩

theorem witness_TimeBaseCommandsComplete_slewZero : ∃ (s v : State) (w : Wr), s.Opens w 0x30054 ∧ s.isSet TB_ADJ_CTL_GO = false ∧ w.hits 0 = true ∧ v = (s.mergeRaw 0x30054 w).foldDue ∧ v.adjOps = ⟨false, true, false, false, false⟩ ∧ v.adjCheck ⟨false, true, false, false, false⟩ (sext 64 (s.rd64 TB_ADJ_RATE_LO TB_ADJ_RATE_HI)) 0
      (s.rn TB_ADJ_SLEW) = 0 ∧ sext 64 (s.rd64 TB_ADJ_AMT_LO TB_ADJ_AMT_HI) = 0 :=
  ⟨adjReady 0 0 1, ((adjReady 0 0 1).mergeRaw 0x30054 ⟨0, 15, 5#32⟩).foldDue, ⟨0, 15, 5#32⟩, by decide +kernel⟩

theorem witness_TimeBaseCommandsComplete_step : ∃ (s v : State) (w : Wr), s.Opens w 0x30054 ∧ s.isSet TB_ADJ_CTL_GO = false ∧ w.hits 0 = true ∧ v = (s.mergeRaw 0x30054 w).foldDue ∧ v.adjOps = ⟨false, false, true, false, false⟩ ∧ v.adjCheck ⟨false, false, true, false, false⟩ (sext 64 (s.rd64 TB_ADJ_RATE_LO TB_ADJ_RATE_HI)) (sext 64 (s.rd64
      TB_ADJ_AMT_LO TB_ADJ_AMT_HI)) (s.rn TB_ADJ_SLEW) = 0 :=
  ⟨adjReady 0 65536000000000 0, ((adjReady 0 65536000000000 0).mergeRaw 0x30054 ⟨0, 15, 9#32⟩).foldDue, ⟨0, 15, 9#32⟩, by decide +kernel⟩

theorem witness_TimeBaseCommandsComplete_abort : ∃ (s v : State) (w : Wr) (x : Slew), s.Opens w 0x30054 ∧ s.isSet TB_ADJ_CTL_GO = false ∧ w.hits 0 = true ∧ v = (s.mergeRaw 0x30054 w).foldDue ∧ v.adjOps = ⟨false, false, false, true, false⟩ ∧ s.get TB_DISC_SRC ≠ 1 ∧ s.get TB_DISC_SRC ≠ 2 ∧ v.tb.slew = some x :=
  ⟨({ adjReady 0 0 0 with tb := { live.tb with slew := some ⟨5, 1, 5, true⟩ } } : State), ((({ adjReady 0 0 0 with tb := { live.tb with slew := some ⟨5, 1, 5, true⟩ } } : State)).mergeRaw 0x30054 ⟨0, 15, 17#32⟩).foldDue, ⟨0, 15, 17#32⟩, ⟨5, 1, 5, true⟩, by decide +kernel⟩

theorem witness_TimeBaseCommandsComplete_trace : ∃ (s v : State) (w : Wr), s.Opens w 0x30054 ∧ s.isSet TB_ADJ_CTL_GO = false ∧ w.hits 0 = true ∧ v = (s.mergeRaw 0x30054 w).foldDue ∧ v.adjOps = ⟨false, false, false, false, true⟩ ∧ s.get TB_DISC_SRC = 3 :=
  ⟨(adjReady 0 0 0).put TB_DISC_SRC 3, (((adjReady 0 0 0).put TB_DISC_SRC 3).mergeRaw 0x30054 ⟨0, 15, 33#32⟩).foldDue, ⟨0, 15, 33#32⟩, by decide +kernel⟩

theorem witness_TimeBaseCommandsComplete_slewDone : ∃ (s v : State) (x : Slew), v = s.foldDue ∧ v.tb.slew = some x ∧ v.tb.slewReached x = true :=
  ⟨{ live with tb := { live.tb with slew := some ⟨5, 10000, 5, true⟩, fc := 10000000 } }, ({ live with tb := { live.tb with slew := some ⟨5, 10000, 5, true⟩, fc := 10000000 } } : State).foldDue, ⟨5, 10000, 5, true⟩, by decide +kernel⟩

theorem witness_TimeBaseCommandsComplete_foldHeld : ∃ (s : State), s.tb.locked = true ∧ s.tb.nextFold ≤ s.tb.fc ∧ s.tb.foldHeld (ageDelta (sext 32 (s.rn TB_AGE))) = true :=
  ⟨({ live with tb := { live.tb with fc := 2 ^ 36, rate := rateLimit, ageFrac := 5, atLimit := true } } : State).wn TB_AGE 1000000000, by decide +kernel⟩

theorem witness_DisciplineCommandsComplete_declare : ∃ (s : State) (w : Wr), s.Opens w 0x30004 ∧ w.hits 15 = true ∧ s.get TB_DISC_SRC = 3 ∧ (s.mergeRaw 0x30004 w).get TB_DISC_SRC = 3 :=
  ⟨live.put TB_DISC_SRC 3, ⟨0, 2, 0x8000#32⟩, by decide +kernel⟩

theorem witness_DisciplineCommandsComplete_change : ∃ (s : State) (w : Wr), s.Opens w 0x30004 ∧ w.hits 15 = false ∧ (s.mergeRaw 0x30004 w).get TB_DISC_SRC ≠ s.get TB_DISC_SRC :=
  ⟨live.put TB_STATUS_STATE 1, ⟨0, 15, 1#32⟩, by decide +kernel⟩

theorem witness_DisciplineCommandsComplete_ppsExpected : ∃ (s u : State) (i : Nat) (m : Int), s.awake 93 = true ∧ m = s.captureMt (s.coreOf 8) 2 i ∧ u = s.freqEdge 0x10 m (s.isSet TB_STATUS_COARSE) ∧ u.get TB_DISC_SRC = 1 ∧ u.ppsExpected m = true :=
  ⟨wake (live.put TB_DISC_SRC 1) [93], (wake (live.put TB_DISC_SRC 1) [93]).freqEdge 0x10 ((wake (live.put TB_DISC_SRC 1) [93]).captureMt ((wake (live.put TB_DISC_SRC 1) [93]).coreOf 8) 2 0) ((wake (live.put TB_DISC_SRC 1) [93]).isSet TB_STATUS_COARSE), 0, (wake (live.put TB_DISC_SRC 1) [93]).captureMt ((wake (live.put TB_DISC_SRC 1) [93]).coreOf 8) 2 0, by decide +kernel⟩

theorem witness_DisciplineCommandsComplete_ppsStray : ∃ (s u : State) (i : Nat) (m : Int), s.awake 93 = true ∧ m = s.captureMt (s.coreOf 8) 2 i ∧ u = s.freqEdge 0x10 m (s.isSet TB_STATUS_COARSE) ∧ u.get TB_DISC_SRC = 1 ∧ u.ppsExpected m = false ∧ u.tb.ppsOff = 0 :=
  ⟨({ wake (live.put TB_DISC_SRC 1) [93] with tb := { live.tb with ppsLast := some 700000 } } : State), (({ wake (live.put TB_DISC_SRC 1) [93] with tb := { live.tb with ppsLast := some 700000 } } : State)).freqEdge 0x10 ((({ wake (live.put TB_DISC_SRC 1) [93] with tb := { live.tb with ppsLast := some 700000 } } : State)).captureMt ((({ wake (live.put TB_DISC_SRC 1) [93] with tb := { live.tb with ppsLast := some 700000 } } : State)).coreOf 8) 2 0) ((({ wake (live.put TB_DISC_SRC 1) [93] with tb := { live.tb with ppsLast := some 700000 } } : State)).isSet TB_STATUS_COARSE), 0, (({ wake (live.put TB_DISC_SRC 1) [93] with tb := { live.tb with ppsLast := some 700000 } } : State)).captureMt ((({ wake (live.put TB_DISC_SRC 1) [93] with tb := { live.tb with ppsLast := some 700000 } } : State)).coreOf 8) 2 0, by decide +kernel⟩

theorem witness_DisciplineCommandsComplete_ppsNewPhase : ∃ (s u : State) (i : Nat) (m : Int), s.awake 93 = true ∧ m = s.captureMt (s.coreOf 8) 2 i ∧ u = s.freqEdge 0x10 m (s.isSet TB_STATUS_COARSE) ∧ u.get TB_DISC_SRC = 1 ∧ u.ppsExpected m = false ∧ u.tb.ppsOff = 2 ∧ secondsApart 1 u.tb.ppsOffLast m = true :=
  ⟨({ wake (live.put TB_DISC_SRC 1) [93] with tb := { live.tb with ppsLast := some 700000, ppsOff := 2, ppsOffLast := -65536000000000 } } : State), (({ wake (live.put TB_DISC_SRC 1) [93] with tb := { live.tb with ppsLast := some 700000, ppsOff := 2, ppsOffLast := -65536000000000 } } : State)).freqEdge 0x10 ((({ wake (live.put TB_DISC_SRC 1) [93] with tb := { live.tb with ppsLast := some 700000, ppsOff := 2, ppsOffLast := -65536000000000 } } : State)).captureMt ((({ wake (live.put TB_DISC_SRC 1) [93] with tb := { live.tb with ppsLast := some 700000, ppsOff := 2, ppsOffLast := -65536000000000 } } : State)).coreOf 8) 2 0) ((({ wake (live.put TB_DISC_SRC 1) [93] with tb := { live.tb with ppsLast := some 700000, ppsOff := 2, ppsOffLast := -65536000000000 } } : State)).isSet TB_STATUS_COARSE), 0, (({ wake (live.put TB_DISC_SRC 1) [93] with tb := { live.tb with ppsLast := some 700000, ppsOff := 2, ppsOffLast := -65536000000000 } } : State)).captureMt ((({ wake (live.put TB_DISC_SRC 1) [93] with tb := { live.tb with ppsLast := some 700000, ppsOff := 2, ppsOffLast := -65536000000000 } } : State)).coreOf 8) 2 0, by decide +kernel⟩

theorem witness_DisciplineCommandsComplete_qualified : ∃ (s : State), s.get TB_DISC_SRC ≠ 0 ∧ s.srcServed = true ∧ s.get TB_QUAL_COUNT ≤ s.tb.qualRun ∧ s.tstate ≠ 1 :=
  ⟨{ live.put TB_DISC_SRC 3 with tb := { live.tb with qualRun := 1000 } }, by decide +kernel⟩

theorem witness_DisciplineCommandsComplete_ppsLost : ∃ (s : State) (p : Int), s.get TB_DISC_SRC = 1 ∧ s.isSet TB_STATUS_PPS_OK = true ∧ s.tb.ppsLast = some p ∧ p + ((2 * mtSec + 100 * mtUs : Nat) : Int) ≤ s.mt :=
  ⟨{ (live.put TB_DISC_SRC 1).put TB_STATUS_PPS_OK 1 with tb := { live.tb with ppsLast := some (-1000 * 65536000000000) } }, -1000 * 65536000000000, by decide +kernel⟩

theorem witness_DisciplineCommandsComplete_refLost : ∃ (s : State), s.isSet TB_STATUS_REF10M_OK = true :=
  ⟨live.put TB_STATUS_REF10M_OK 1, by decide +kernel⟩

theorem witness_DisciplineCommandsComplete_servoSlew : ∃ (s v : State) (a : Int) (p : Nat), v = s.foldDue ∧ (v.get TB_DISC_SRC = 1 ∨ v.get TB_DISC_SRC = 2) ∧ v.get SYS_BOOT_FW = 2 ∧ v.tb.slew = none ∧ 1 ≤ p ∧ p ≤ 10000 ∧ p ≤ v.get TB_QUAL_SLEW_MAX * 100 ∧ a.natAbs ≤ mtMs ∧ corrects (v.tb.phaseErr.getD 0) a = true :=
  ⟨({ ((live.put TB_DISC_SRC 1).put SYS_BOOT_FW 2).put TB_QUAL_SLEW_MAX 5 with tb := { live.tb with phaseErr := some (-9) } } : State), ({ ((live.put TB_DISC_SRC 1).put SYS_BOOT_FW 2).put TB_QUAL_SLEW_MAX 5 with tb := { live.tb with phaseErr := some (-9) } } : State).foldDue, 9, 500, by decide +kernel⟩

theorem witness_DisciplineCommandsComplete_servoRate : ∃ (s v : State) (r : Int) (b : Bool), v = s.foldDue ∧ (v.get TB_DISC_SRC = 1 ∧ b = v.ref10mUsed ∨ v.get TB_DISC_SRC = 2) ∧ v.get SYS_BOOT_FW = 2 ∧ -rateLimit ≤ r ∧ r ≤ rateLimit :=
  ⟨(live.put TB_DISC_SRC 2).put SYS_BOOT_FW 2, ((live.put TB_DISC_SRC 2).put SYS_BOOT_FW 2).foldDue, rateLimit, false, by decide +kernel⟩

theorem witness_DisciplineCommandsComplete_servoStep : ∃ (s v : State) (a : Int), v = s.foldDue ∧ (v.get TB_DISC_SRC = 1 ∨ v.get TB_DISC_SRC = 2) ∧ v.get SYS_BOOT_FW = 2 ∧ v.anyBound = false ∧ mtUs < (v.tb.phaseErr.getD 0).natAbs ∧ corrects (v.tb.phaseErr.getD 0) a = true ∧ v.tb.slew = none ∧ 0 ≤ v.mt + a ∧ v.mt + a < ((2 ^ 48 * mtSec : Nat) : Int) :=
  ⟨({ (live.put TB_DISC_SRC 2).put SYS_BOOT_FW 2 with tb := { live.tb with phaseErr := some (-65536001) } } : State), ({ (live.put TB_DISC_SRC 2).put SYS_BOOT_FW 2 with tb := { live.tb with phaseErr := some (-65536001) } } : State).foldDue, 65536001, by decide +kernel⟩

theorem witness_DisciplineCommandsComplete_hostTimeout : ∃ (s : State), s.get TB_DISC_SRC = 3 ∧ s.tstate = 1 ∧ s.tb.lastTrace + ((s.get TB_DISC_HOST_TIMEOUT * mtMs : Nat) : Int) ≤ s.mt :=
  ⟨((live.put TB_DISC_SRC 3).put TB_STATUS_STATE 1).put TB_DISC_HOST_TIMEOUT 0, by decide +kernel⟩

theorem witness_DisciplineCommandsComplete_holdover : ∃ (s : State), s.tstate = 2 ∧ s.rn TB_HOLD_LIMIT ≠ 0 ∧ s.tb.holdActed = false ∧ s.rn TB_HOLD_LIMIT * 1000000 ≤ s.holdUs :=
  ⟨{ (live.put TB_STATUS_STATE 2).wn TB_HOLD_LIMIT 1 with tb := { live.tb with holdTrace := -65536000000000 } }, by decide +kernel⟩

theorem witness_DisciplineCommandsComplete_pop : ∃ (s : State) (m : Nat) (x : TxStamp) (r : List TxStamp), s.shut 0x30100 = false ∧ (s.func 0).held = none ∧ mapGet [] m s.txts = x :: r :=
  ⟨{ live with txts := [(31, [⟨1, 2, 3, 65536⟩])] }, 31, ⟨1, 2, 3, 65536⟩, [], by decide +kernel⟩

theorem witness_DisciplineCommandsComplete_popWaits : ∃ (s : State) (m : Nat), s.shut 0x30100 = false ∧ (s.func 0).held = none ∧ mapGet [] m s.txts = [] :=
  ⟨live, 0
, by decide +kernel⟩

theorem witness_DisciplineCommandsComplete_ppsOther : ∃ (s : State) (i : Nat), s.awake 93 = true ∧ (s.freqEdge 0x10 (s.captureMt (s.coreOf 8) 2 i) (s.isSet TB_STATUS_COARSE)).get TB_DISC_SRC ≠ 1 :=
  ⟨wake live [93], 63, by decide +kernel⟩

theorem witness_DisciplineCommandsComplete_ppsAsleep : ∃ (s : State) (i : Nat), s.awake 93 = false :=
  ⟨live.put (PWR_DOM_STATE 93) 2, 0, by decide +kernel⟩

theorem witness_TimeIntervalCommandsComplete_edge : ∃ (s : State) (n i : Nat) (rising : Bool) (cfg p pos : Nat) (m : Int), cfg = s.edgeCfg n ∧ p = s.coreOf n ∧ pos = s.tb.fc * 131072 + 5 * s.binCentre p i ∧ m = s.captureMt p 0 i - sext 32 (s.rn (TIM_EDGE_DELAY n)) ∧ bit cfg 0 = true ∧ bits cfg 3 2 ≠ 0 ∧ s.awake 93 = true ∧ (∀ q, (mapGet {} n s.edges).last = some q → 8 * 131072 ≤ pos - q ∧ (mapGet {} n s.edges).hold * 131072 ≤ pos - q) ∧ bit (bits cfg 5 4) (if rising then 0 else 1) = true :=
  ⟨((live.put (TIM_EDGE_CFG_EN 15) 1).put (TIM_EDGE_CFG_MODE 15) 1).put (TIM_EDGE_CFG_POL 15) 2, 15, 63, false, (((live.put (TIM_EDGE_CFG_EN 15) 1).put (TIM_EDGE_CFG_MODE 15) 1).put (TIM_EDGE_CFG_POL 15) 2).edgeCfg 15, (((live.put (TIM_EDGE_CFG_EN 15) 1).put (TIM_EDGE_CFG_MODE 15) 1).put (TIM_EDGE_CFG_POL 15) 2).coreOf 15, (((live.put (TIM_EDGE_CFG_EN 15) 1).put (TIM_EDGE_CFG_MODE 15) 1).put (TIM_EDGE_CFG_POL 15) 2).tb.fc * 131072 + 5 * (((live.put (TIM_EDGE_CFG_EN 15) 1).put (TIM_EDGE_CFG_MODE 15) 1).put (TIM_EDGE_CFG_POL 15) 2).binCentre ((((live.put (TIM_EDGE_CFG_EN 15) 1).put (TIM_EDGE_CFG_MODE 15) 1).put (TIM_EDGE_CFG_POL 15) 2).coreOf 15) 63, (((live.put (TIM_EDGE_CFG_EN 15) 1).put (TIM_EDGE_CFG_MODE 15) 1).put (TIM_EDGE_CFG_POL 15) 2).captureMt ((((live.put (TIM_EDGE_CFG_EN 15) 1).put (TIM_EDGE_CFG_MODE 15) 1).put (TIM_EDGE_CFG_POL 15) 2).coreOf 15) 0 63 - sext 32 ((((live.put (TIM_EDGE_CFG_EN 15) 1).put (TIM_EDGE_CFG_MODE 15) 1).put (TIM_EDGE_CFG_POL 15) 2).rn (TIM_EDGE_DELAY 15)), by decide +kernel⟩

theorem witness_TimeIntervalCommandsComplete_edgeHold : ∃ (s : State) (n i : Nat) (rising : Bool) (q pos : Nat), pos = s.tb.fc * 131072 + 5 * s.binCentre (s.coreOf n) i ∧ bit (s.edgeCfg n) 0 = true ∧ bits (s.edgeCfg n) 3 2 ≠ 0 ∧ s.awake 93 = true ∧ (mapGet {} n s.edges).last = some q ∧ 8 * 131072 ≤ pos - q ∧ pos - q < (mapGet {} n s.edges).hold * 131072 :=
  ⟨({ (((live.put (TIM_EDGE_CFG_EN 15) 1).put (TIM_EDGE_CFG_MODE 15) 1).put (TIM_EDGE_CFG_POL 15) 2) with edges := [(15, { last := some (900 * 131072), hold := 101 })] } : State), 15, 0, false, 900 * 131072, (({ (((live.put (TIM_EDGE_CFG_EN 15) 1).put (TIM_EDGE_CFG_MODE 15) 1).put (TIM_EDGE_CFG_POL 15) 2) with edges := [(15, { last := some (900 * 131072), hold := 101 })] } : State)).tb.fc * 131072 + 5 * (({ (((live.put (TIM_EDGE_CFG_EN 15) 1).put (TIM_EDGE_CFG_MODE 15) 1).put (TIM_EDGE_CFG_POL 15) 2) with edges := [(15, { last := some (900 * 131072), hold := 101 })] } : State)).binCentre ((({ (((live.put (TIM_EDGE_CFG_EN 15) 1).put (TIM_EDGE_CFG_MODE 15) 1).put (TIM_EDGE_CFG_POL 15) 2) with edges := [(15, { last := some (900 * 131072), hold := 101 })] } : State)).coreOf 15) 0, by decide +kernel⟩

theorem witness_TimeIntervalCommandsComplete_pop : ∃ (s : State) (n : Nat) (x : EdgeTag) (r : List EdgeTag), s.shut 0x40400 = false ∧ (s.func 0).held = none ∧ mapGet [] n s.tagQ = x :: r :=
  ⟨{ live with tagQ := [(15, [⟨5, 65536⟩])] }, 15, ⟨5, 65536⟩, [], by decide +kernel⟩

theorem witness_TimeIntervalCommandsComplete_calStart : ∃ (s u : State) (w : Wr), s.Opens w 0x40000 ∧ w.hits 15 = true ∧ bits (merged (s.rn TIM_CAL_CTL) w) 4 0 < 17 ∧ u = (if (s.mergeRaw 0x40000 w).get TIM_CAL_CTL_PERIOD = s.get TIM_CAL_CTL_PERIOD then s.mergeRaw 0x40000 w
      else { s.mergeRaw 0x40000 w with timCal := s.mt }) ∧ u.awake 93 = true :=
  ⟨live, (if (live.mergeRaw 0x40000 (⟨0, 15, 0x8010#32⟩ : Wr)).get TIM_CAL_CTL_PERIOD = live.get TIM_CAL_CTL_PERIOD then live.mergeRaw 0x40000 (⟨0, 15, 0x8010#32⟩ : Wr) else { live.mergeRaw 0x40000 (⟨0, 15, 0x8010#32⟩ : Wr) with timCal := live.mt }), (⟨0, 15, 0x8010#32⟩ : Wr), by decide +kernel⟩

theorem witness_TimeIntervalCommandsComplete_coreStart : ∃ (s : State) (p : Nat) (w : Wr), s.Opens w (0x40100 + 4 * p) ∧ w.hits 15 = true ∧ s.awake 93 = true ∧ s.isSet (TIM_CORE_STAT_RUNNING p) = false :=
  ⟨live, 17, ⟨0, 2, 0x8000#32⟩, by decide +kernel⟩

theorem witness_TimeIntervalCommandsComplete_periodic : ∃ (s : State), s.get TIM_CAL_CTL_PERIOD ≠ 0 ∧ s.awake 93 = true ∧ s.timCal + ((s.get TIM_CAL_CTL_PERIOD * mtSec : Nat) : Int) ≤ s.mt :=
  ⟨{ live.put TIM_CAL_CTL_PERIOD 1 with timCal := -65536000000000 }, by decide +kernel⟩

theorem witness_TimeIntervalCommandsComplete_runEnd : ∃ (s : State) (p : Nat) (c : List Nat) (temp : Int), s.isSet (TIM_CORE_STAT_RUNNING p) = true ∧ c.length = 64 ∧ (∀ h ∈ c, 4096 ≤ h ∧ h ≤ 65536) :=
  ⟨live.put (TIM_CORE_STAT_RUNNING 17) 1, 17, List.replicate 64 16384, -40, by decide +kernel⟩

theorem witness_TimeIntervalCommandsComplete_runRejected : ∃ (s : State) (p : Nat) (c : List Nat) (temp : Int), p < 18 ∧ s.isSet (TIM_CORE_STAT_RUNNING p) = true ∧ (∃ h ∈ c, h < 4096 ∨ 65536 < h) :=
  ⟨live.put (TIM_CORE_STAT_RUNNING 17) 1, 17, 4095 :: List.replicate 63 16384, -40, by decide⟩

theorem witness_TimeIntervalCommandsComplete_stale : ∃ (s : State) (p : Nat) (temp : Int), (mapGet {} p s.tdc).centres ≠ [] ∧ (mapGet {} p s.tdc).drifted = false ∧ 5 < (temp - sext 8 (s.get (TIM_CORE_STAT_CAL_TEMP p))).natAbs :=
  ⟨{ live with tdc := [(3, { centres := [1] })] }, 3, 6, by decide +kernel⟩

theorem witness_TimeIntervalCommandsComplete_spareSwitch : ∃ (s : State) (n : Nat) (x : TdcSwitch), s.tdcSwitches.find? (fun y => y.logical == n) = some x ∧ s.isSet (TIM_CORE_STAT_RUNNING x.spare) = false ∧ s.isSet (TIM_CORE_STAT_FAILING x.spare) = false ∧ x.byPolicy = false :=
  ⟨{ live with tdcSwitches := [⟨15, 17, false⟩] }, 15, ⟨15, 17, false⟩, by decide +kernel⟩

theorem witness_TimeIntervalCommandsComplete_gateEnd : ∃ (s : State) (k : Nat) (r : RefEdges) (g x : FreqGate), s.freqs.find? (fun e => e.1 == k) = some (k, g) ∧ g.start + ((g.gate * mtUs : Nat) : Int) ≤ s.mt ∧ x = s.refEdges g r ∧ 2 ≤ x.n ∧ x.first < x.last :=
  ⟨{ live with freqs := [(3, (⟨0, 1, -65536000, 2, -65000000, -100, false, false⟩ : FreqGate))] }, 3, ⟨0, 0, 0⟩, (⟨0, 1, -65536000, 2, -65000000, -100, false, false⟩ : FreqGate), (⟨0, 1, -65536000, 2, -65000000, -100, false, false⟩ : FreqGate), by decide +kernel⟩

theorem witness_TimeIntervalCommandsComplete_cgLost : ∃ (s : State) (g : Nat), s.isSet (CNV_GRP_STAT_RUNNING (g / 3) (g % 3)) = true ∧ s.awake g = true ∧ s.cgLost.contains g = false :=
  ⟨live.put (CNV_GRP_STAT_RUNNING 7 2) 1, 23
, by decide +kernel⟩

theorem witness_TimeIntervalCommandsComplete_notDue : ∃ (s : State), (s.get TIM_CAL_CTL_PERIOD = 0 ∨ s.mt < s.timCal + ((s.get TIM_CAL_CTL_PERIOD * mtSec : Nat) : Int)) :=
  ⟨live.put TIM_CAL_CTL_PERIOD 1, by decide +kernel⟩

theorem witness_TimeIntervalCommandsComplete_steady : ∃ (s : State) (p : Nat) (temp : Int), (mapGet {} p s.tdc).centres ≠ [] ∧ (mapGet {} p s.tdc).drifted = true ∧ (temp - sext 8 (s.get (TIM_CORE_STAT_CAL_TEMP p))).natAbs ≤ 5 :=
  ⟨{ live with tdc := [(3, { centres := [1], drifted := true })] }, 3, 5, by decide +kernel⟩

theorem witness_TimeIntervalCommandsComplete_gateSilent : ∃ (s : State) (k : Nat) (r : RefEdges) (g : FreqGate), s.freqs.find? (fun e => e.1 == k) = some (k, g) ∧ g.start + ((g.gate * mtUs : Nat) : Int) ≤ s.mt ∧ (s.refEdges g r).n < 2 :=
  ⟨{ live with freqs := [(3, (⟨0, 1, -65536000, 0, 0, 0, false, false⟩ : FreqGate))] }, 3, ⟨0, 0, 0⟩, (⟨0, 1, -65536000, 0, 0, 0, false, false⟩ : FreqGate), by decide +kernel⟩

theorem witness_ConverterCommandsComplete_refOn : ∃ (s : State) (g : Nat) (w : Wr), s.Opens w (gCtl g).key ∧ g < 24 ∧ w.reaches 1 1 = true ∧ w.hits 0 = false ∧ s.awake g = true ∧ (s.grp g).refOn = false ∧ bit ((s.mergeRaw (gCtl g).key w).rn (gCtl g)) 1 = true ∧ bit ((s.mergeRaw (gCtl g).key w).rn (gCtl g)) 4 = bit (s.rn (gCtl g)) 4 :=
  ⟨live, 23, ⟨0, 15, 0x12#32⟩, by decide +kernel⟩

theorem witness_ConverterCommandsComplete_refHeld : ∃ (s : State) (g : Nat) (w : Wr), s.Opens w (gCtl g).key ∧ g < 24 ∧ w.hits 0 = false ∧ s.grpRun g = true ∧ bit (s.rn (gCtl g)) 1 = true ∧ bit ((s.mergeRaw (gCtl g).key w).rn (gCtl g)) 1 = false ∧ bit ((s.mergeRaw (gCtl g).key w).rn (gCtl g)) 4 = bit (s.rn (gCtl g)) 4 :=
  ⟨(live.wn (gCtl 23) 6).fwr (gCtl 23) 6#32, 23, ⟨0, 15, 4#32⟩, by decide +kernel⟩

theorem witness_ConverterCommandsComplete_refOk : ∃ (s : State) (g : Nat), (s.grp g).refOn = true ∧ s.awake g = true ∧ (s.grp g).refAt + ((2 * mtMs : Nat) : Int) ≤ s.mt :=
  ⟨live.setGrp 23 { live.grp 23 with refOn := true, refAt := -131072000000 }, 23, by decide +kernel⟩

theorem witness_ConverterCommandsComplete_apply : ∃ (s : State) (g : Nat) (w : Wr), s.Opens w (gCtl g).key ∧ w.hits 0 = true ∧ bit ((s.mergeRaw (gCtl g).key w).rn (gCtl g)) 1 = ((s.mergeRaw (gCtl g).key w).grp g).refOn ∧ (s.grpRun g && bit (s.rn (gCtl g)) 1 && !bit ((s.mergeRaw (gCtl g).key w).rn (gCtl g)) 1) = false ∧ bit (s.rn (gCtl g)) 4 = bit ((s.mergeRaw (gCtl g).key w).rn (gCtl g)) 4 ∧ (s.mergeRaw (gCtl g).key w).applyCheck g = 0 :=
  ⟨((live.wn (gPll 23) 0x13000000).put (CNV_GRP_STAT_REF_OK 7 2) 1).setGrp 23 { live.grp 23 with refOn := true }, 23, ⟨0, 15, 0x17#32⟩, by decide +kernel⟩

theorem witness_ConverterCommandsComplete_pllLocked : ∃ (s : State) (g : Nat), s.get (CNV_GRP_STAT_RUNNING (g / 3) (g % 3)) = 1 ∧ s.get (CNV_GRP_STAT_PLL_LOCK (g / 3) (g % 3)) = 0 ∧ s.awake g = true :=
  ⟨live.put (CNV_GRP_STAT_RUNNING 7 2) 1, 23, by decide +kernel⟩

theorem witness_ConverterCommandsComplete_pllUnlock : ∃ (s : State) (g : Nat), s.get (CNV_GRP_STAT_RUNNING (g / 3) (g % 3)) = 1 ∧ s.get (CNV_GRP_STAT_PLL_LOCK (g / 3) (g % 3)) = 1 :=
  ⟨(live.put (CNV_GRP_STAT_RUNNING 7 2) 1).put (CNV_GRP_STAT_PLL_LOCK 7 2) 1, 23, by decide +kernel⟩

theorem witness_ConverterCommandsComplete_pllRelock : ∃ (s : State) (g : Nat), s.get (CNV_GRP_STAT_RUNNING (g / 3) (g % 3)) = 1 ∧ s.get (CNV_GRP_STAT_PLL_LOCK (g / 3) (g % 3)) = 0 ∧ s.awake g = true :=
  ⟨live.put (CNV_GRP_STAT_RUNNING 0 0) 1, 0, by decide +kernel⟩

theorem witness_ConverterCommandsComplete_locked : ∃ (s : State) (g : Nat), s.grpRun g = true ∧ s.grpLocked g = true ∧ s.get (CNV_GRP_STAT_PLL_LOCK (g / 3) (g % 3)) = 1 ∧ s.get (CNV_GRP_STAT_LOCKED (g / 3) (g % 3)) = 0 ∧ lockHolds (s.grp g).lockTags = true :=
  ⟨(((live.fwr (gCtl 23) 12#32).put (CNV_GRP_STAT_PLL_LOCK 7 2) 1).setGrp 23 { live.grp 23 with lockTags := List.replicate 1000 0 }), 23, by decide +kernel⟩

theorem witness_ConverterCommandsComplete_lockLost : ∃ (s : State) (g : Nat), s.get (CNV_GRP_STAT_LOCKED (g / 3) (g % 3)) = 1 ∧ 3 ≤ (s.grp g).lockBad :=
  ⟨((live.put (CNV_GRP_STAT_LOCKED 7 2) 1).setGrp 23 { live.grp 23 with lockBad := 3 }), 23, by decide +kernel⟩

theorem witness_ConverterCommandsComplete_surveyStep : ∃ (s u v : State) (g i : Nat) (r : StepRes), (s.grp g).flowing = true ∧ s.awake g = true ∧ (s.grp g).stepAt + (((s.grp g).dwell * mtMs : Nat) : Int) ≤ s.mt ∧ i = 32 * g ∧ s.sub (iStat i) 21 20 = 1 ∧ (s.inp i).fresh = false ∧ u = s.writeTrims i (s.sub (iStat i) 31 27) r ∧ v = (if stepAccepted r then u.stepDone i r
      else (u.sliceFail i (s.sub (iStat i) 31 27)).offlineFail i (s.sub (iStat i) 31 27) (u.armed 0) true).stepStart g ∧ ((v.answerSteps g [r] (fun k => s.sub (iStat k) 21 20 == 1 && !(s.inp k).fresh)).grp g).surveyStop = false :=
  ⟨(((live.setGrp 0 { live.grp 0 with flowing := true }).setSub (iStat 0) 21 20 1).setSub (iStat 0) 31 27 16), ((((live.setGrp 0 { live.grp 0 with flowing := true }).setSub (iStat 0) 21 20 1).setSub (iStat 0) 31 27 16).writeTrims 0 ((((live.setGrp 0 { live.grp 0 with flowing := true }).setSub (iStat 0) 21 20 1).setSub (iStat 0) 31 27 16).sub (iStat 0) 31 27) ⟨0, 0, 0, 0, 0, 0, false⟩), ((if stepAccepted ⟨0, 0, 0, 0, 0, 0, false⟩ then ((((live.setGrp 0 { live.grp 0 with flowing := true }).setSub (iStat 0) 21 20 1).setSub (iStat 0) 31 27 16).writeTrims 0 ((((live.setGrp 0 { live.grp 0 with flowing := true }).setSub (iStat 0) 21 20 1).setSub (iStat 0) 31 27 16).sub (iStat 0) 31 27) ⟨0, 0, 0, 0, 0, 0, false⟩).stepDone 0 ⟨0, 0, 0, 0, 0, 0, false⟩ else (((((live.setGrp 0 { live.grp 0 with flowing := true }).setSub (iStat 0) 21 20 1).setSub (iStat 0) 31 27 16).writeTrims 0 ((((live.setGrp 0 { live.grp 0 with flowing := true }).setSub (iStat 0) 21 20 1).setSub (iStat 0) 31 27 16).sub (iStat 0) 31 27) ⟨0, 0, 0, 0, 0, 0, false⟩).sliceFail 0 ((((live.setGrp 0 { live.grp 0 with flowing := true }).setSub (iStat 0) 21 20 1).setSub (iStat 0) 31 27 16).sub (iStat 0) 31 27)).offlineFail 0 ((((live.setGrp 0 { live.grp 0 with flowing := true }).setSub (iStat 0) 21 20 1).setSub (iStat 0) 31 27 16).sub (iStat 0) 31 27) (((((live.setGrp 0 { live.grp 0 with flowing := true }).setSub (iStat 0) 21 20 1).setSub (iStat 0) 31 27 16).writeTrims 0 ((((live.setGrp 0 { live.grp 0 with flowing := true }).setSub (iStat 0) 21 20 1).setSub (iStat 0) 31 27 16).sub (iStat 0) 31 27) ⟨0, 0, 0, 0, 0, 0, false⟩).armed 0) true).stepStart 0), 0, 0, ⟨0, 0, 0, 0, 0, 0, false⟩, by decide +kernel⟩

theorem witness_ConverterCommandsComplete_monitor : ∃ (s : State) (i sl : Nat) (mean power : Int) (loud stuck : Bool), (1600 < mean.natAbs ∨ (300 < power.natAbs ∧ loud = true) ∨ stuck = true) ∧ s.sub (iTrim i sl) 31 29 = 0 ∧ (s.grp (inputGroup i)).flowing = true ∧ s.sub (iStat i) 16 16 = 1 ∧ s.sub (iStat i) 18 18 = 0 :=
  ⟨(live.setGrp 0 { live.grp 0 with flowing := true }).setSub (iStat 31) 16 16 1, 31, 0, 1601, 0, false, false, by decide +kernel⟩

theorem witness_ConverterCommandsComplete_surveyOff : ∃ (s : State) (g : Nat) (w : Wr), s.Opens w (gCtl g).key ∧ g < 24 ∧ w.hits 0 = false ∧ w.reaches 1 1 = true ∧ bit ((s.mergeRaw (gCtl g).key w).rn (gCtl g)) 1 = ((s.mergeRaw (gCtl g).key w).grp g).refOn ∧ (s.grpRun g && bit (s.rn (gCtl g)) 1 && !bit ((s.mergeRaw (gCtl g).key w).rn (gCtl g)) 1) = false ∧ bit (s.rn (gCtl g)) 4 = true ∧ bit ((s.mergeRaw (gCtl g).key w).rn (gCtl g)) 4 = false :=
  ⟨live.wn (gCtl 23) 16, 23, ⟨0, 15, 0#32⟩, by decide +kernel⟩

theorem witness_ConverterCommandsComplete_inputOn : ∃ (s : State) (i : Nat) (w : Wr), s.Opens w (CNV_IN_CTL (i / 96) (i % 96)).key ∧ w.reaches 0 0 = true ∧ (s.mergeRaw (CNV_IN_CTL (i / 96) (i % 96)).key
  w).governSlot i = none :=
  ⟨live, 767, ⟨0, 15, 1#32⟩, by decide +kernel⟩

theorem witness_ConverterCommandsComplete_linkDown : ∃ (s : State) (d : Nat), s.get (CNV_DIE_STAT_LINK_UP d) ≠ 0 :=
  ⟨live.put (CNV_DIE_STAT_LINK_UP 7) 1, 7, by decide +kernel⟩

theorem witness_ConverterCommandsComplete_linkUp : ∃ (s : State) (d : Nat), s.get (CNV_DIE_STAT_LINK_UP d) = 0 :=
  ⟨live, 7
, by decide +kernel⟩

theorem witness_SlotCommandsComplete_bind : ∃ (s : State) (n : Nat) (w : Wr), n < 1024 ∧ s.Opens w (winBase n) ∧ w.hits 0 = true ∧ w.hits 1 = false ∧ w.hits 2 = false ∧ (s.ctlWritten n w).awake ((s.ctlWritten n w).slotDomain n) = true ∧ (s.ctlWritten n w).slotCheck n ((s.ctlWritten n w).get (CHP_CTL_GRID n)) true false ((s.ctlWritten n w).slotShadow n)
    ((s.ctlWritten n w).nextBoundary ((s.ctlWritten n w).get (CHP_CTL_GRID n))) = 0 :=
  ⟨slotReady 1023, 1023, ⟨0, 15, 0x0E000001#32⟩, by decide +kernel⟩

theorem witness_SlotCommandsComplete_window : ∃ (s : State) (win : Nat) (w : Wr), 1024 ≤ win ∧ s.Opens w (winBase win) ∧ Wr.acts w = true :=
  ⟨(slotReady 5).wn (CHP_DMEM 63 0) 33, 1087, ⟨0, 15, 0x0E000001#32⟩, by decide +kernel⟩

theorem witness_SlotCommandsComplete_unbind : ∃ (s : State) (n : Nat) (w : Wr), n < 1024 ∧ s.Opens w (winBase n) ∧ w.hits 0 = false ∧ w.hits 1 = true ∧ w.hits 2 = false ∧ (s.ctlWritten n w).awake ((s.ctlWritten n w).slotDomain n) = true ∧ (s.ctlWritten n w).slotState n ≠ 0 ∧ (s.ctlWritten n w).unbindWaits n = false ∧ ((s.ctlWritten n w).slot n).waits ≠ 1 :=
  ⟨slotBound 3, 3, ⟨0, 15, 2#32⟩, by decide +kernel⟩

theorem witness_SlotCommandsComplete_commit : ∃ (s : State) (n : Nat) (w : Wr), n < 1024 ∧ s.Opens w (winBase n) ∧ w.hits 0 = false ∧ w.hits 1 = false ∧ w.hits 2 = true ∧ (s.ctlWritten n w).awake ((s.ctlWritten n w).slotDomain n) = true ∧ (s.ctlWritten n w).slotCheck n ((s.ctlWritten n w).slot n).boundGrid false ((s.ctlWritten n w).isSet (CHP_CTL_RESTART n))
      ((s.ctlWritten n w).slotShadow n) ((s.ctlWritten n w).nextBoundary ((s.ctlWritten n w).slot n).boundGrid) = 0 :=
  ⟨slotBound 3, 3, ⟨0, 15, 4#32⟩, by decide +kernel⟩

theorem witness_SlotCommandsComplete_district : ∃ (s : State) (d off : Nat) (w : Wr), d ≤ 64 ∧ s.Opens w (winBase (1024 + d) + off) ∧ off < 0x100 ∧ slotOffOk off = true ∧ off ≠ 0 :=
  ⟨(slotReady 5).wn (CHP_DMEM 63 0) 33, 63, 0x10, ⟨0, 15, 0#32⟩, by decide +kernel⟩

theorem witness_SlotCommandsComplete_boundary : ∃ (s : State) (g f : Nat), g < 8 ∧ s.gridValid g = true ∧ mapGet 0 g s.gridNext ≤ f ∧ s.gridInstant g (f * s.frameLen g) ≤ s.mt :=
  ⟨slotBound 3, 7, 0, by decide +kernel⟩

theorem witness_SlotCommandsComplete_blank : ∃ (s : State) (line : Nat), line < 8 ∧ mapGet [] line s.blanks = [] :=
  ⟨live, 7, by decide +kernel⟩

theorem witness_SlotCommandsComplete_unblank : ∃ (s : State) (line : Nat) (x : Span) (r : List Span), line < 8 ∧ mapGet [] line s.blanks = x :: r ∧ x.to_ = none :=
  ⟨{ live with blanks := [(7, [⟨0, none⟩])] }, 7, ⟨0, none⟩, [], by decide +kernel⟩

theorem witness_SlotCommandsComplete_sample : ∃ (s u : State) (c i : Nat) (x : SrcSample), s.isSet CLK_STAT_CORE_LOCK = true ∧ c < s.part.inputs ∧ (s.grp (inputGroup c)).flowing = true ∧ s.awake (inputGroup c) = true ∧ u = (if x.isOver then s.setSub (iStat c) 15 15 1 else s) :=
  ⟨((live.setGrp 0 { live.grp 0 with flowing := true }).put CLK_STAT_CORE_LOCK 1), (if (⟨0, 0, false, false, false, false, false⟩ : SrcSample).isOver then ((live.setGrp 0 { live.grp 0 with flowing := true }).put CLK_STAT_CORE_LOCK 1).setSub (iStat 31) 15 15 1 else ((live.setGrp 0 { live.grp 0 with flowing := true }).put CLK_STAT_CORE_LOCK 1)), 31, 0, (⟨0, 0, false, false, false, false, false⟩ : SrcSample), by decide +kernel⟩

theorem witness_SlotCommandsComplete_tag : ∃ (s u : State) (g i : Nat) (m : Int), (s.grp g).flowing = true ∧ s.awake 93 = true ∧ s.track g ≠ 0 ∧ s.isSet TB_STATUS_COARSE = false ∧ m = s.captureMt (s.coreOf (g % 16)) (if g < 16 then 1 else 2) i ∧ u = ((s.cgBack g).freqEdge (0x12 + g) m false).trkForce g ∧ s.isSet (TIM_CORE_STAT_FAILING (s.coreOf (g % 16))) = false :=
  ⟨((live.setGrp 23 { live.grp 23 with flowing := true }).setSub (trkSt 23) 2 0 1), ((((live.setGrp 23 { live.grp 23 with flowing := true }).setSub (trkSt 23) 2 0 1)).cgBack 23).freqEdge (0x12 + 23) ((((live.setGrp 23 { live.grp 23 with flowing := true }).setSub (trkSt 23) 2 0 1)).captureMt ((((live.setGrp 23 { live.grp 23 with flowing := true }).setSub (trkSt 23) 2 0 1)).coreOf (23 % 16)) (if 23 < 16 then 1 else 2) 63) false |>.trkForce 23, 23, 63, (((live.setGrp 23 { live.grp 23 with flowing := true }).setSub (trkSt 23) 2 0 1)).captureMt ((((live.setGrp 23 { live.grp 23 with flowing := true }).setSub (trkSt 23) 2 0 1)).coreOf (23 % 16)) (if 23 < 16 then 1 else 2) 63, by decide +kernel⟩

theorem witness_SlotCommandsComplete_tagCoarse : ∃ (s u : State) (g i : Nat) (m : Int), (s.grp g).flowing = true ∧ s.awake 93 = true ∧ s.track g ≠ 0 ∧ m = s.captureMt (s.coreOf (g % 16)) (if g < 16 then 1 else 2) i ∧ u = ((s.cgBack g).freqEdge (0x12 + g) m (s.isSet TB_STATUS_COARSE)).trkForce g ∧ (s.isSet TB_STATUS_COARSE || s.isSet (TIM_CORE_STAT_FAILING (s.coreOf (g % 16)))) = true :=
  ⟨(((live.setGrp 23 { live.grp 23 with flowing := true }).setSub (trkSt 23) 2 0 1).put TB_STATUS_COARSE 1), (((((live.setGrp 23 { live.grp 23 with flowing := true }).setSub (trkSt 23) 2 0 1).put TB_STATUS_COARSE 1)).cgBack 23).freqEdge (0x12 + 23) (((((live.setGrp 23 { live.grp 23 with flowing := true }).setSub (trkSt 23) 2 0 1).put TB_STATUS_COARSE 1)).captureMt (((((live.setGrp 23 { live.grp 23 with flowing := true }).setSub (trkSt 23) 2 0 1).put TB_STATUS_COARSE 1)).coreOf (23 % 16)) (if 23 < 16 then 1 else 2) 63) ((((live.setGrp 23 { live.grp 23 with flowing := true }).setSub (trkSt 23) 2 0 1).put TB_STATUS_COARSE 1).isSet TB_STATUS_COARSE) |>.trkForce 23, 23, 63, ((((live.setGrp 23 { live.grp 23 with flowing := true }).setSub (trkSt 23) 2 0 1).put TB_STATUS_COARSE 1)).captureMt (((((live.setGrp 23 { live.grp 23 with flowing := true }).setSub (trkSt 23) 2 0 1).put TB_STATUS_COARSE 1)).coreOf (23 % 16)) (if 23 < 16 then 1 else 2) 63, by decide +kernel⟩

theorem witness_SlotCommandsComplete_tagMissing : ∃ (s : State) (g : Nat), s.get (CNV_GRP_STAT_RUNNING (g / 3) (g % 3)) = 1 ∧ s.track g = 2 :=
  ⟨(live.put (CNV_GRP_STAT_RUNNING 7 2) 1).setSub (trkSt 23) 2 0 2, 23, by decide +kernel⟩

theorem witness_SlotCommandsComplete_coast : ∃ (s : State) (g : Nat), s.track g = 3 ∧ (s.grp g).est.coastFrom + (((s.grp g).est.coastMax * mtMs : Nat) : Int) ≤ s.mt :=
  ⟨live.setSub (trkSt 23) 2 0 3 |>.setGrp 23 { est := { coastMax := 0 } }, 23, by decide +kernel⟩

theorem witness_SlotCommandsComplete_emit : ∃ (s : State) (n : Nat), s.slotRuns n = true ∧ s.isSet CLK_STAT_CORE_LOCK = true ∧ s.gridInstant (s.slot n).grid (s.slot n).nextK ≤ s.mt ∧ (s.slot n).nextK < mapGet 0 (s.slot n).grid s.gridNext * s.frameLen (s.slot n).grid ∧ (s.get (CHP_RSM_STAT_TRACK n) = 2 ∨ s.get (CHP_RSM_STAT_TRACK n) = 3 ∨ s.get (CHP_RSM_STAT_TRACK n) = 5) ∧ s.support n (s.nextPos n) = some true :=
  ⟨({ slotRunning 3 with slots := mapPut {} 3 { (slotRunning 3).slot 3 with firstM := some 0, outs := (List.range 40).reverse.map (fun m => (m, {})) } (slotRunning 3).slots } : State), 3, by decide +kernel⟩

theorem witness_SlotCommandsComplete_emitGap : ∃ (s : State) (n : Nat), s.slotRuns n = true ∧ s.isSet CLK_STAT_CORE_LOCK = true ∧ s.gridInstant (s.slot n).grid (s.slot n).nextK ≤ s.mt ∧ (s.slot n).nextK < mapGet 0 (s.slot n).grid s.gridNext * s.frameLen (s.slot n).grid ∧ (s.get (CHP_RSM_STAT_TRACK n) ≠ 2 ∧ s.get (CHP_RSM_STAT_TRACK n) ≠ 3 ∧ s.get (CHP_RSM_STAT_TRACK n) ≠ 5 ∨
      s.support n (s.nextPos n) = some false ∨ (s.support n (s.nextPos n) = none ∧ s.srcFlows n = false)) :=
  ⟨(slotRunning 3).put (CHP_RSM_STAT_TRACK 3) 4, 3, by decide +kernel⟩

theorem witness_SlotCommandsComplete_resume : ∃ (s : State) (n : Nat), s.slotRuns n = true ∧ s.isSet CLK_STAT_CORE_LOCK = true :=
  ⟨slotRunning 3, 3, by decide +kernel⟩

theorem witness_SlotCommandsComplete_spectrum : ∃ (s : State) (n : Nat), s.spectrumDue n = true ∧ s.isSet CLK_STAT_CORE_LOCK = true :=
  ⟨{ slotRunning 3 with slots := mapPut {} 3 { (slotRunning 3).slot 3 with nextK := 5 } (slotRunning 3).slots }, 3, by decide +kernel⟩

theorem witness_SlotCommandsComplete_ownSample : ∃ (s u v : State) (n i : Nat) (m : Int) (x : SrcSample), s.isSet CLK_STAT_CORE_LOCK = true ∧ srcType (s.srcWord n) ≠ 1 ∧ (s.slot n).run = true ∧ s.srcFlows n = true ∧ m = s.instant n i ∧ (s.slot n).start ≤ m ∧ (srcType (s.srcWord n) = 2 ∨ m + intakeHold ≤ s.mt * 2 ^ 32) ∧ ((s.slot n).lastI = none ∧ (s.slot n).since = 0 ∨ ∃ l, (s.slot n).lastI = some l ∧ i = l + 1) ∧ x.refused = false ∧ s.awake (s.slotDomain n) = true ∧ u = s.intakeMarks n m ∧ v = u.setSlot n { (u.intake n m x).2 with lastI := some i } :=
  ⟨slotRunning 3, ((slotRunning 3).intakeMarks 3 ((slotRunning 3).instant 3 0)), ((slotRunning 3).intakeMarks 3 ((slotRunning 3).instant 3 0)).setSlot 3 { (((slotRunning 3).intakeMarks 3 ((slotRunning 3).instant 3 0)).intake 3 ((slotRunning 3).instant 3 0) (⟨0, 0, false, false, false, false, false⟩ : SrcSample)).2 with lastI := some 0 }, 3, 0, (slotRunning 3).instant 3 0, (⟨0, 0, false, false, false, false, false⟩ : SrcSample), by decide +kernel⟩

theorem witness_BeamCommandsComplete_sum : ∃ (s : State) (b : Nat) (l : List (Nat × Spectrum × Bool)), s.memberSpectra b (s.beam b).nextJ = some l ∧ s.sumDue b = true :=
  ⟨({ (live.put CLK_STAT_CORE_LOCK 1).put (SYS_GRID_CTL_VALID 7) 1 with beams := [(5, { run := true, grid := 7 })], gridNext := [(7, 1)] } : State), 5, [], by decide +kernel⟩

theorem witness_BeamCommandsComplete_commit : ∃ (s : State) (w : Wr) (g : Nat) (l : List (Nat × BeamCfg)), s.Opens w BFM_CTL.key ∧ w.hits 0 = true ∧ s.awake 81 = true ∧ s.rangeGrid (s.shadowRange (s.get BFM_RANGE_FIRST) (s.get BFM_RANGE_LAST)) = some g ∧ l = (s.shadowRange (s.get BFM_RANGE_FIRST) (s.get BFM_RANGE_LAST)).map (fun e => (e.1, s.cfgAtIdx (s.nextBoundary g) e.2)) ∧ (s.beamChecks 0 (s.get BFM_RANGE_FIRST) (s.get BFM_RANGE_LAST) g (s.nextBoundary g) l).1 = 0 :=
  ⟨demoBeam, ⟨0, 15, 1#32⟩, 7, ((demoBeam.shadowRange (demoBeam.get BFM_RANGE_FIRST) (demoBeam.get BFM_RANGE_LAST)).map (fun e => (e.1, demoBeam.cfgAtIdx (demoBeam.nextBoundary 7) e.2))), by decide +kernel⟩

theorem witness_BeamCommandsComplete_fail : ∃ (s : State) (a : Nat), a < 17 ∧ s.get (BFM_ARRAY_STATE a) = 0 ∧ ((s.put (BFM_ARRAY_STATE a) 2).raise evBFM_BMAC_FAIL a).armed 6 = false :=
  ⟨live.put (BFM_ARRAY_STATE 15) 0, 15, by decide +kernel⟩

theorem witness_BeamCommandsComplete_failArmed : ∃ (s : State) (a : Nat), a < 17 ∧ s.get (BFM_ARRAY_STATE a) = 0 ∧ ((s.put (BFM_ARRAY_STATE a) 2).raise evBFM_BMAC_FAIL a).armed 6 = true :=
  ⟨(live.put (BFM_ARRAY_STATE 15) 0).wn SYS_POLICY 0x40, 15, by decide +kernel⟩

theorem witness_BeamCommandsComplete_endBeam : ∃ (s : State) (b : Nat), (s.beam b).waits = [] :=
  ⟨live, 4095, by decide +kernel⟩

theorem witness_BeamCommandsComplete_item : ∃ (s : State) (x : ReadyItem) (r : List ReadyItem), s.items = x :: r :=
  ⟨{ live with items := [demoItem] }, demoItem, []
, by decide +kernel⟩

theorem witness_BeamCommandsComplete_spareFail : ∃ (s : State) (a : Nat), a < 17 ∧ s.get (BFM_ARRAY_STATE a) = 1 :=
  ⟨live, 16, by decide +kernel⟩

theorem witness_FrontEndCommandsComplete_bind : ∃ (s : State) (w : Wr), s.Opens w SFE_CTL.key ∧ w.hits 0 = true ∧ w.hits 1 = false ∧ w.hits 2 = false ∧ (s.mergeRaw SFE_CTL.key w).feCheck 0 (some ((s.mergeRaw SFE_CTL.key w).get SFE_CTL_GRID)) ((s.mergeRaw SFE_CTL.key w).feIndex (some
    ((s.mergeRaw SFE_CTL.key w).get SFE_CTL_GRID))) (s.mergeRaw SFE_CTL.key w).shadowAt = 0 :=
  ⟨feReady, ⟨0, 15, 0x0E000001#32⟩, by decide +kernel⟩

theorem witness_FrontEndCommandsComplete_unbind : ∃ (s : State) (w : Wr), s.Opens w SFE_CTL.key ∧ w.hits 0 = false ∧ w.hits 1 = true ∧ w.hits 2 = false ∧ (s.mergeRaw SFE_CTL.key w).feCheck 1 (some (s.mergeRaw SFE_CTL.key w).feGrid) ((s.mergeRaw SFE_CTL.key w).feIndex (some
    (s.mergeRaw SFE_CTL.key w).feGrid)) (s.mergeRaw SFE_CTL.key w).shadowAt = 0 :=
  ⟨feBound, ⟨0, 15, 0x0E000002#32⟩, by decide +kernel⟩

/-- A value that is there is the one found. -/
theorem some_of_isSome {α : Type} {x : Option α} (d : α) (h : x.isSome = true) : x = some (x.getD d) := by
  cases x with
  | none => cases h
  | some _ => rfl

/-- A commit of an IDLE front end is staged or applied (R256). -/
theorem feCommit_idle {s : State} (h : s.feState = 0) (a : Nat) (act : Option Int) (vals : List SVal) : (s.feCommit a act vals).isSome = true := by
  unfold State.feCommit
  split
  · unfold State.feStage; rw [if_pos h]; rfl
  · rw [if_pos h]; rfl

theorem witness_FrontEndCommandsComplete_commit : ∃ (s : State) (w : Wr) (t : State), s.Opens w SFE_CTL.key ∧ w.hits 0 = false ∧ w.hits 1 = false ∧ w.hits 2 = true ∧ (s.mergeRaw SFE_CTL.key w).feCheck 2 (s.mergeRaw SFE_CTL.key w).feGridOpt ((s.mergeRaw SFE_CTL.key w).feIndex
    (s.mergeRaw SFE_CTL.key w).feGridOpt) (s.mergeRaw SFE_CTL.key w).shadowAt = 0 ∧ (s.mergeRaw SFE_CTL.key w).feCommit commitAction none ((s.mergeRaw SFE_CTL.key w).snapshot sfeKeys) = some t :=
  ⟨feReady, ⟨0, 15, 4#32⟩, ((feReady.mergeRaw SFE_CTL.key ⟨0, 15, 4#32⟩).feCommit commitAction none ((feReady.mergeRaw SFE_CTL.key ⟨0, 15, 4#32⟩).snapshot sfeKeys)).getD feReady, by decide +kernel, by decide +kernel, by decide +kernel, by decide +kernel, by decide +kernel,
    some_of_isSome feReady (feCommit_idle (by decide +kernel) _ _ _)⟩

theorem witness_FrontEndCommandsComplete_ramp : ∃ (s : State) (q : Nat), s.excState q = 1 ∧ (s.exc q).rampFrom + ((200 * mtUs : Nat) : Int) ≤ s.mt :=
  ⟨{ live.put (SFE_EXC_STAT_STATE 15) 1 with excs := [(15, { rampFrom := -1000000000000 })] }, 15, by decide +kernel⟩

theorem witness_FrontEndCommandsComplete_settled : ∃ (s : State) (q : Nat), s.isSet (SFE_EXC_STAT_SETTLING q) = true ∧ s.fe.waits = [] :=
  ⟨live.put (SFE_EXC_STAT_SETTLING 15) 1, 15, by decide +kernel⟩

theorem witness_FrontEndCommandsComplete_settledWait : ∃ (s : State) (q : Nat) (x : FeWait), s.isSet (SFE_EXC_STAT_SETTLING q) = true ∧ s.fe.waits = [x] ∧ x.outs = [q] :=
  ⟨{ live.put (SFE_EXC_STAT_SETTLING 15) 1 with fe := { live.fe with waits := [⟨5, [], none, [15], none, []⟩] } }, 15, ⟨5, [], none, [15], none, []⟩, by decide +kernel⟩

theorem witness_FrontEndCommandsComplete_sense : ∃ (s : State) (q sense : Nat), s.excState q = 2 ∧ 95 * excRange (s.get (SFE_EXC_STAT_RANGE_ACT q)) ≤ 100 * sense ∧ 100 * sense ≤ 102 * excRange (s.get (SFE_EXC_STAT_RANGE_ACT q)) ∧ (s.exc q).good = 0 :=
  ⟨live.put (SFE_EXC_STAT_STATE 15) 2, 15, excRange 0, by decide +kernel⟩

theorem witness_FrontEndCommandsComplete_senseFault : ∃ (s : State) (q sense : Nat), s.excState q = 2 ∧ 100 * sense < 95 * excRange (s.get (SFE_EXC_STAT_RANGE_ACT q)) ∧ (s.exc q).bad = 2 ∧ s.isSet (SFE_EXC_STAT_FAULT q) = false :=
  ⟨{ live.put (SFE_EXC_STAT_STATE 15) 2 with excs := [(15, { bad := 2 })] }, 15, 0, by decide +kernel⟩

theorem witness_FrontEndCommandsComplete_limit : ∃ (s : State) (q : Nat), s.excState q ≠ 0 :=
  ⟨live.put (SFE_EXC_STAT_STATE 15) 2, 15, by decide +kernel⟩

theorem witness_FrontEndCommandsComplete_cycle : ∃ (s : State) (p : Nat), p < 16 ∧ s.feRuns = true ∧ s.fget (PCV_SEQ_CTL_EN p) ≠ 0 ∧ s.gridInstant s.feGrid (s.pcv p).nextK ≤ s.mt :=
  ⟨feBound.fwr (PCV_SEQ_CTL 15) 0x80000000#32, 15, by decide +kernel⟩

theorem witness_FrontEndCommandsComplete_entry : ∃ (s : State) (p : Nat) (c : List Conv) (r : PcvRun), (s.pcv p).cur = some r ∧ entryEnd r.start r.slot r.avg ≤ s.mt ∧ c.length = 2 ^ r.avg ∧ r.src ≠ 2 :=
  ⟨{ feBound with pcvs := [(15, { cur := some ⟨0, 0, 0, -1000000000000, false, false, false, 0, 0, 0, 0, (0, 0)⟩ })] }, 15, [⟨0, 0, 0, 0⟩], ⟨0, 0, 0, -1000000000000, false, false, false, 0, 0, 0, 0, (0, 0)⟩, by decide +kernel⟩

theorem witness_FrontEndCommandsComplete_urgent : ∃ (s : State) (p : Nat) (w : Wr), s.Opens w (PCV_URG p).key ∧ w.hits 31 = true ∧ (s.mergeRaw (PCV_URG p).key w).awake 91 = true :=
  ⟨wake live [91], 15, ⟨0, 15, 0x80000000#32⟩, by decide +kernel⟩

theorem witness_FrontEndCommandsComplete_arrive : ∃ (s : State) (p : Nat) (u : UrgReq) (r : List UrgReq), (s.pcv p).reqs = u :: r ∧ u.src = 1 ∧ s.fe.pause = none ∧ (s.setPcv p { s.pcv p with reqs := r }).urgCheck p u = 0 ∧ (s.pcv p).urg = [] :=
  ⟨{ feBound.fwr (PCV_SEQ_CTL 15) 0x80000000#32 with pcvs := [(15, { reqs := [⟨7, 8, 1, 0, false, false⟩] })] }, 15, ⟨7, 8, 1, 0, false, false⟩, [], by decide +kernel⟩

theorem witness_FrontEndCommandsComplete_refEn : ∃ (s : State) (w : Wr), s.Opens w PCV_REFCTL.key ∧ w.reaches 0 0 = true ∧ w.hits 0 = true ∧ s.isSet PCV_REFCTL_REF_EN = false :=
  ⟨live, ⟨0, 15, 1#32⟩, by decide +kernel⟩

theorem witness_FrontEndCommandsComplete_refOk : ∃ (s : State), s.isSet PCV_REFCTL_REF_EN = true ∧ s.isSet PCV_REFCTL_REF_OK = false ∧ s.fe.refFrom + ((10 * mtMs : Nat) : Int) ≤ s.mt :=
  ⟨{ live.put PCV_REFCTL_REF_EN 1 with fe := { live.fe with refFrom := -655360000000 } }, by decide +kernel⟩

theorem witness_FrontEndCommandsComplete_pauseEnd : ∃ (s : State) (x : Pause), s.fe.pause = some x ∧ s.feAsserted = false ∧ x.release + ((s.fget SFE_BLANK_POST * mtUs : Nat) : Int) ≤ s.mt ∧ s.pcvsOn = [] ∧ s.fe.pauseRaised = none :=
  ⟨{ live with fe := { live.fe with pause := some ⟨0, 1, -1000000000000⟩ } }, ⟨0, 1, -1000000000000⟩, by decide +kernel⟩

theorem witness_FrontEndCommandsComplete_midscale : ∃ (s : State) (p : Nat) (err : Int), p < 16 ∧ s.isSet (PCV_STAT_DEAD p) = false ∧ s.awake 91 = true ∧ s.pcvIdle p = true ∧ (s.pcv p).midSec ≠ some s.wholeSec ∧ 32 < err.natAbs ∧ 2 ≤ (s.pcv p).midBad ∧ s.isSet (PCV_STAT_FAILING p) = false ∧ s.get (PCV_STAT_PHYS p) ≠ 16 ∧ s.armed 7 = false :=
  ⟨{ wake live [91] with pcvs := [(15, { midBad := 2 })] }, 15, -33, by decide +kernel⟩

theorem witness_FrontEndCommandsComplete_midscaleGood : ∃ (s : State) (p : Nat) (err : Int), p < 16 ∧ s.isSet (PCV_STAT_DEAD p) = false ∧ s.awake 91 = true ∧ s.pcvIdle p = true ∧ (s.pcv p).midSec ≠ some s.wholeSec ∧ err.natAbs ≤ 32 :=
  ⟨{ wake live [91] with pcvs := [(15, { midBad := 2 })] }, 15, 32, by decide +kernel⟩

theorem witness_FrontEndCommandsComplete_urgentAsleep : ∃ (s : State) (p : Nat) (w : Wr), s.Opens w (PCV_URG p).key ∧ w.hits 31 = true ∧ (s.mergeRaw (PCV_URG p).key w).awake 91 = false :=
  ⟨live.put (PWR_DOM_STATE 91) 2, 15, ⟨0, 15, 0x80000000#32⟩, by decide +kernel⟩

theorem witness_FrontEndCommandsComplete_midscaleSpare : ∃ (s : State) (p : Nat) (err : Int), p < 16 ∧ s.isSet (PCV_STAT_DEAD p) = false ∧ s.awake 91 = true ∧ s.pcvIdle p = true ∧ (s.pcv p).midSec ≠ some s.wholeSec ∧ 32 < err.natAbs ∧ 2 ≤ (s.pcv p).midBad ∧ s.isSet (PCV_STAT_FAILING p) = false ∧ s.get (PCV_STAT_PHYS p) = 16 ∧ s.armed 7 = false :=
  ⟨{ (wake live [91]).put (PCV_STAT_PHYS 15) 16 with pcvs := [(15, { midBad := 2 })] }, 15, -33, by decide +kernel⟩

theorem witness_CalTriggerCommandsComplete_page : ∃ (s : State) (n : Nat) (badA badB : Bool), s.pageFitted n = true ∧ s.isSet CAL_STAT_LOAD_DONE = false ∧ s.trimLoaded.contains n = false ∧ (n = 0 ∨ s.trimLoaded.contains 0 = true) :=
  ⟨{ live with trimLoaded := [0] }, 1, true, false, by decide +kernel⟩

theorem witness_CalTriggerCommandsComplete_measured : ∃ (s : State) (conv : Nat) (zero ref : List Conv) (temp : Int) (m : CalMeas) (z c : (Int × Bool) × State), s.calMeas.find? (fun m => m.conv == conv) = some m ∧ zero.length = 2 ^ m.avg ∧ ref.length = 2 ^ m.avg ∧ m.start + (2 ^ (m.avg + 1) * m.slot : Nat) * slotUnit ≤ s.mt ∧ (s.dropMeas m.action).calBusy conv = false ∧ z = (s.dropMeas m.action).pcvCodes m.gain (0, 0) zero ∧ c = z.2.pcvCodes m.gain (0, 0) ref :=
  ⟨({ live with calMeas := [⟨15, 0, 0, 0, 0, 9, -1000000000000⟩] } : State), 15, [⟨0, 0, 0, 0⟩], [⟨0, 0, 0, 0⟩], 25, ⟨15, 0, 0, 0, 0, 9, -1000000000000⟩, _, _, ⟨by decide +kernel, by decide +kernel, by decide +kernel, by decide +kernel, by decide +kernel, rfl, rfl⟩⟩

theorem witness_CalTriggerCommandsComplete_copyWritten : ∃ (s : State) (j : NvmJob) (r : List NvmJob), s.nvm = j :: r :=
  ⟨{ live with nvm := [demoJob] }, demoJob, [], by decide +kernel⟩

theorem witness_CalTriggerCommandsComplete_copyRetry : ∃ (s : State) (j : NvmJob) (r : List NvmJob), s.nvm = j :: r ∧ j.retry = false :=
  ⟨{ live with nvm := [demoJob] }, demoJob, [], by decide +kernel⟩

theorem witness_CalTriggerCommandsComplete_arm : ∃ (s : State) (n : Nat) (w : Wr), n < 64 ∧ s.Opens w (0xE1000 + 0x20 * n) ∧ (bits (merged (s.rn (TRG_OUT_CFG n)) w) 31 30 = 1 ∨ bits (merged (s.rn (TRG_OUT_CFG n)) w) 31 30 = 2) ∧ s.get (TRG_OUT_STAT_STATE n) = 0 ∧ (s.mergeRaw (TRG_OUT_CFG n).key w).armCheck n = 0 ∧ (s.mergeRaw (TRG_OUT_CFG n).key w).isSet (TRG_OUT_CFG_CAP_EN n) = false :=
  ⟨(live.wn (TRG_CAP2 63) 1).put (TRG_OUT_TIM_OUT_W 63) 1, 63, ⟨0, 15, 0x80000000#32⟩, by decide +kernel⟩

theorem witness_CalTriggerCommandsComplete_disarm : ∃ (s : State) (t : Nat) (w : Wr), s.Opens w (0xE1000 + 0x20 * t) ∧ w.reaches 31 30 = true ∧ bits (merged (s.rn (TRG_OUT_CFG t)) w) 31 30 = 0 :=
  ⟨live.put (TRG_OUT_STAT_STATE 63) 1, 63, ⟨0, 15, 0#32⟩, by decide +kernel⟩

theorem witness_CalTriggerCommandsComplete_offer : ∃ (s : State) (x : Trig), nextTrig s.trigs = some x :=
  ⟨{ live with trigs := [⟨3, 5, false, 0xFFFF, 9⟩, ⟨2, 7, false, 0xFFFF, 9⟩] }, ⟨2, 7, false, 0xFFFF, 9⟩, by decide +kernel⟩

theorem witness_CalTriggerCommandsComplete_pulseEnd : ∃ (s : State) (p : Pulse), s.pulses.find? (fun p => p.on && decide (p.to_ ≤ s.mt)) = some p ∧ (s.pulses.erase p).any (fun o => o.on && o.pin
  == p.pin) = false :=
  ⟨{ live with pulses := [⟨31, 0, 5, true⟩] }, ⟨31, 0, 5, true⟩, by decide +kernel⟩

theorem witness_CalTriggerCommandsComplete_edge : ∃ (s : State) (p : Pulse), s.pulses.find? (fun p => !p.on && decide (p.from_ ≤ s.mt)) = some p :=
  ⟨{ live with pulses := [⟨31, 0, 5, false⟩] }, ⟨31, 0, 5, false⟩, by decide +kernel⟩

theorem witness_CalTriggerCommandsComplete_rearm : ∃ (s : State) (t : Nat), s.rearmReady t = true ∧ s.isSet (TRG_OUT_CFG_CAP_EN t) = false :=
  ⟨(live.put (TRG_OUT_STAT_STATE 63) 2), 63, by decide +kernel⟩

theorem witness_CalTriggerCommandsComplete_rearmContext : ∃ (s : State) (t : Nat), s.rearmReady t = true ∧ s.isSet (TRG_OUT_CFG_CAP_EN t) = true ∧ (s.trg t).ctx = false ∧ s.get TRG_STAT_FREE ≠ 0 ∧ (List.range t).any (fun o => s.rearmReady o && s.isSet (TRG_OUT_CFG_CAP_EN o) && !(s.trg o).ctx) = false :=
  ⟨(live.put (TRG_OUT_STAT_STATE 63) 2).put (TRG_OUT_CFG_CAP_EN 63) 1, 63, by decide +kernel⟩

theorem witness_CalTriggerCommandsComplete_line : ∃ (s : State) (n : Nat), n < 4 ∧ mapGet {} n s.ilines = ⟨false, none, false⟩ :=
  ⟨live, 3, by decide +kernel⟩

theorem witness_CalTriggerCommandsComplete_lineUp : ∃ (s : State) (n : Nat), (mapGet {} n s.ilines).low = true :=
  ⟨{ live with ilines := [(3, ⟨true, none, false⟩)] }, 3, by decide +kernel⟩

theorem witness_CalTriggerCommandsComplete_stuck : ∃ (s : State) (n : Nat) (t : Int), mapGet {} n s.ilines = ⟨true, some t, false⟩ ∧ t + (mtSec : Int) < s.mt :=
  ⟨{ live with ilines := [(3, ⟨true, some (-65536000000000), false⟩)] }, 3, -65536000000000, by decide +kernel⟩

theorem witness_CalTriggerCommandsComplete_net : ∃ (s : State) (port : Nat) (d : List Byte), s.get TRG_NET_PORT = port ∧ port ≠ 0 :=
  ⟨live.put TRG_NET_PORT 65535, 65535, [], by decide +kernel⟩

theorem witness_CalTriggerCommandsComplete_fire : ∃ (s : State) (t : Nat) (w : Wr), s.Opens w (0xE1008 + 0x20 * t) ∧ w.hits 0 = true ∧ (s.mergeRaw (TRG_OUT_STAT t).key w).get (TRG_OUT_CFG_SRC t) = 22 ∧ (s.mergeRaw (TRG_OUT_STAT t).key w).get (TRG_OUT_STAT_STATE t) = 1 :=
  ⟨(live.put (TRG_OUT_STAT_STATE 63) 1).put (TRG_OUT_CFG_SRC 63) 22, 63, ⟨0, 15, 1#32⟩, by decide +kernel⟩

theorem witness_CalTriggerCommandsComplete_clear : ∃ (s : State) (w : Wr), s.Opens w 0xE0100 ∧ w.hits 15 = true :=
  ⟨live, ⟨0, 15, 0x8000#32⟩, by decide +kernel⟩

theorem witness_CalTriggerCommandsComplete_close : ∃ (s : State) (seq : Nat) (c : Capture), s.captures.find? (fun c => c.seq == seq) = some c ∧ (c.members.all (fun m => m.flags / 16 = 1 || s.memberDone m || s.memberOver m)) = true :=
  ⟨{ live with captures := [demoCapture] }, 5, demoCapture
, by decide +kernel⟩

theorem witness_ContourCommandsComplete_ringOn : ∃ (s : State) (w : Wr), s.Opens w 0xE0010 ∧ bit (s.rn TRG_RING_CTL) 31 = false :=
  ⟨live, ⟨0, 15, 0x80000001#32⟩, by decide +kernel⟩

theorem witness_ContourCommandsComplete_rawOff : ∃ (s : State) (n : Nat) (w : Wr), s.Opens w (0xD1000 + 4 * n) ∧ s.rawBusy n = false ∧ bit (s.rn (CMP_RAW n)) 31 = true ∧ bit (merged (s.rn (CMP_RAW n)) w / 256 * 256) 31 = false ∧ bits (merged (s.rn (CMP_RAW n)) w / 256 * 256) 10 8 ≤ 4 ∧ setBits (merged (s.rn (CMP_RAW n)) w / 256 * 256) 10 8 0 ≠ setBits (s.rn (CMP_RAW n)) 10 8 0 :=
  ⟨live.wn (CMP_RAW 1023) 0x80006000, 1023, ⟨0, 15, 0x6000#32⟩, by decide +kernel⟩

theorem witness_ContourCommandsComplete_rawOn : ∃ (s : State) (n : Nat) (w : Wr), s.Opens w (0xD1000 + 4 * n) ∧ s.rawBusy n = false ∧ bit (s.rn (CMP_RAW n)) 31 = false ∧ bit (merged (s.rn (CMP_RAW n)) w / 256 * 256) 31 = true ∧ s.rawCheck n (merged (s.rn (CMP_RAW n)) w / 256 * 256) = 0 ∧ setBits (merged (s.rn (CMP_RAW n)) w / 256 * 256) 10 8 0 ≠ setBits (s.rn (CMP_RAW n)) 10 8 0 :=
  ⟨(wake (gridded 1023) [82]).put (CMP_ENG_STATE 0) 0, 1023, ⟨0, 15, 0x80006000#32⟩, by decide +kernel⟩

theorem witness_ContourCommandsComplete_recTile : ∃ (s : State) (q : Nat) (o : List Byte) (t : RecTile) (f : Nat) (r : List (RecTile × Nat)), (s.que q).closing = (t, f) :: r :=
  ⟨{ live with ques := [(16383, { closing := [({}, 1)] })] }, 16383, [], {}, 1, [], by decide +kernel⟩

theorem witness_ContourCommandsComplete_resume : ∃ (s : State) (q : Nat) (t : Int), (s.que q).refused = some t :=
  ⟨{ live with ques := [(16383, { refused := some 0 })] }, 16383, 0, by decide +kernel⟩

theorem witness_ContourCommandsComplete_engine : ∃ (s : State) (e : Nat), s.raws = [] ∧ s.quesOn = [] :=
  ⟨live, 15, by decide +kernel⟩

theorem witness_ContourCommandsComplete_flush : ∃ (s : State) (q : Nat) (t : RecTile), (s.que q).tile = some t ∧ s.get (QUE_CFG5_FLUSH q) ≠ 0 ∧ t.start + ((s.get (QUE_CFG5_FLUSH q) * mtMs : Nat) : Int) ≤ s.mt :=
  ⟨{ live with ques := [(3, { tile := some { start := -65536000000 } })] }.put (QUE_CFG5_FLUSH 3) 1, 3, { start := -65536000000 }, by decide +kernel⟩

theorem witness_ContourCommandsComplete_pi : ∃ (s : State) (b : Nat) (w : Wr), (w.fn = 0 ∨ w.fn = b) ∧ (s.func w.fn).held = none ∧ s.shut 0xD8000 = false ∧ (s.mergeRaw (CMP_JOB_PI b).key w).jobsOut b ≤ 2 ^ s.get (CMP_JOB_CTL_SIZE b) :=
  ⟨live, 31, ⟨31, 15, 1#32⟩, by decide +kernel⟩

theorem witness_ContourCommandsComplete_piBad : ∃ (s : State) (b : Nat) (w : Wr), (w.fn = 0 ∨ w.fn = b) ∧ (s.func w.fn).held = none ∧ s.shut 0xD8000 = false ∧ 2 ^ s.get (CMP_JOB_CTL_SIZE b) < (s.mergeRaw (CMP_JOB_PI b).key w).jobsOut b :=
  ⟨live, 31, ⟨0, 15, 2#32⟩, by decide +kernel⟩

theorem witness_ContourCommandsComplete_enable : ∃ (s : State) (b : Nat) (w : Wr), (w.fn = 0 ∨ w.fn = b) ∧ (s.func w.fn).held = none ∧ s.shut 0xD8000 = false ∧ bit (s.rn (CMP_JOB_CTL b)) 31 = false :=
  ⟨live, 31, ⟨31, 15, 0x80000000#32⟩, by decide +kernel⟩

theorem witness_ContourCommandsComplete_disable : ∃ (s : State) (b : Nat) (w : Wr), (w.fn = 0 ∨ w.fn = b) ∧ (s.func w.fn).held = none ∧ s.shut 0xD8000 = false ∧ bit (s.rn (CMP_JOB_CTL b)) 31 = true ∧ bit (merged (s.rn (CMP_JOB_CTL b)) w) 31 = false ∧ s.isSet (CMP_JOB_STAT_SUSPENDED b) = false ∧ s.isSet (CMP_JOB_STAT_RUNNING b) = false :=
  ⟨live.put (CMP_JOB_CTL_EN 31) 1, 31, ⟨31, 15, 0#32⟩, by decide +kernel⟩

theorem witness_ContourCommandsComplete_decode : ∃ (s : State) (b d : Nat) (desc src : List Byte), s.dxOf b = some d ∧ s.jobWants b = true ∧ s.jobs = [] :=
  ⟨jobReady, 31, 3, [], [], by decide +kernel⟩

theorem witness_ContourCommandsComplete_more : ∃ (s : State) (b : Nat) (w : Wr), (w.fn = 0 ∨ w.fn = b) ∧ (s.func w.fn).held = none ∧ s.shut 0xD8000 = false ∧ w.hits 0 = false ∧ w.hits 1 = true :=
  ⟨live, 31, ⟨31, 15, 2#32⟩, by decide +kernel⟩

theorem witness_ContourCommandsComplete_abort : ∃ (s : State) (b : Nat) (w : Wr), (w.fn = 0 ∨ w.fn = b) ∧ (s.func w.fn).held = none ∧ s.shut 0xD8000 = false ∧ w.hits 0 = true ∧ w.hits 1 = false ∧ s.isSet (CMP_JOB_CTL_EN b) = true ∧ s.jobsOut b ≠ 0 ∧ s.isSet (CMP_JOB_STAT_RUNNING b) = true :=
  ⟨jobReady.put (CMP_JOB_STAT_RUNNING 31) 1, 31, ⟨31, 15, 1#32⟩
, by decide +kernel⟩

theorem witness_QueueCommandsComplete_enable : ∃ (s : State) (w : Wr), s.Opens w 0xC0004 ∧ w.hits 0 = true ∧ w.hits 1 = false ∧ w.hits 2 = false :=
  ⟨live, ⟨0, 15, 1#32⟩, by decide +kernel⟩

theorem witness_QueueCommandsComplete_enabled : ∃ (s : State) (w : Wr) (q : Nat), s.Opens w 0xC0004 ∧ w.hits 0 = true ∧ w.hits 1 = false ∧ w.hits 2 = false ∧ s.get (QUE_SEL_V 0) = q ∧ s.enableCheck q = 0 ∧ s.isSet (QUE_CFG0_REC q) = false :=
  ⟨((live.put (QUE_CFG0_TYPE 0) 2).put (QUE_CFG0_WEIGHT 0) 1).put (QUE_CFG1_MIN 0) 0, ⟨0, 15, 1#32⟩, 0, by decide +kernel⟩

theorem witness_QueueCommandsComplete_disable : ∃ (s : State) (w : Wr), s.Opens w 0xC0004 ∧ w.hits 0 = false ∧ w.hits 1 = true ∧ w.hits 2 = false ∧ s.get (QUE_STAT_STATE (s.get (QUE_SEL_V 0))) = 1 ∧ s.queInUse (s.get (QUE_SEL_V 0)) = false :=
  ⟨live.put (QUE_STAT_STATE 0) 1, ⟨0, 15, 2#32⟩, by decide +kernel⟩

theorem witness_QueueCommandsComplete_flush : ∃ (s : State) (w : Wr), s.Opens w 0xC0004 ∧ w.hits 0 = false ∧ w.hits 1 = false ∧ w.hits 2 = true ∧ s.get (QUE_STAT_STATE (s.get (QUE_SEL_V 0))) ≠ 0 ∧ s.queInUse (s.get (QUE_SEL_V 0)) = false :=
  ⟨live.put (QUE_STAT_STATE 0) 1, ⟨0, 15, 4#32⟩, by decide +kernel⟩

theorem witness_QueueCommandsComplete_request : ∃ (s : State) (q : Nat), s.needsPlot q = true ∧ (s.que q).refused = none :=
  ⟨{ live with units := [(3, [demoItem])] }, 3, by decide +kernel⟩

/-- At work, the two queues of ring 0 of borough 0 refused a plot. -/
def ringRefused : State := { live with ques := [(cmdQueue 0 0, { refused := some 0 }), (cplQueue 0 0, { refused := some 0 })] }

theorem witness_QueueCommandsComplete_retry : ∃ (s : State) (q : Nat) (t : Int), (s.que q).refused = some t ∧ q < 16128 :=
  ⟨{ live with ques := [(16127, { refused := some 0 })] }, 16127, 0, by decide +kernel⟩

theorem witness_QueueCommandsComplete_retryCmd : ∃ (s s1 : State) (b r : Nat) (t : Int), b < 32 ∧ r < 4 ∧ (s.que (cmdQueue b r)).refused = some t ∧
    s.askPlot (cmdQueue b r) = (true, s1) :=
  ⟨ringRefused, (ringRefused.askPlot (cmdQueue 0 0)).2, 0, 0, 0, by decide, by decide, by decide +kernel,
    Prod.ext (by decide +kernel) rfl⟩

theorem witness_QueueCommandsComplete_retryCpl : ∃ (s s1 : State) (b r : Nat) (t : Int), b < 32 ∧ r < 4 ∧ (s.que (cplQueue b r)).refused = some t ∧
    s.askPlot (cplQueue b r) = (true, s1) :=
  ⟨ringRefused, (ringRefused.askPlot (cplQueue 0 0)).2, 0, 0, 0, by decide, by decide, by decide +kernel,
    Prod.ext (by decide +kernel) rfl⟩

theorem witness_QueueCommandsComplete_retryRefused : ∃ (s s1 : State) (q : Nat) (t : Int), (s.que q).refused = some t ∧ s.askPlot q = (false, s1) :=
  ⟨ringRefused.put (QUE_CFG2_MAX (cmdQueue 0 0)) 0, ((ringRefused.put (QUE_CFG2_MAX (cmdQueue 0 0)) 0).askPlot (cmdQueue 0 0)).2, cmdQueue 0 0, 0,
    by decide +kernel, Prod.ext (by decide +kernel) rfl⟩

theorem witness_StorageFrames_retry : ∃ (q : Nat), q < 16128 :=
  ⟨16127, by decide⟩

theorem witness_QueueCommandsComplete_unit : ∃ (s : State) (q : Nat), (s.que q).refused = none :=
  ⟨live, 16383, by decide +kernel⟩

theorem witness_QueueCommandsComplete_copy : ∃ (s : State) (c : PlotCopy) (r : List PlotCopy) (u : State), s.copies = c :: r ∧ (s.que c.queue).chain.contains c.old = true ∧ u = ({ s with copies := r } : State).put (PLT_USED_V (s.get (QUE_CFG0_BOROUGH c.queue))) (s.get (PLT_USED_V (s.get (QUE_CFG0_BOROUGH
    c.queue))) + 1) :=
  ⟨{ live with copies := [⟨3, 8388608, 5⟩], ques := [(3, { chain := [8388608] })] }, ⟨3, 8388608, 5⟩, [], ({ live with copies := [], ques := [(3, { chain := [8388608] })] } : State).put (PLT_USED_V 0) ((live.get (PLT_USED_V 0)) + 1), by decide +kernel⟩

theorem witness_QueueCommandsComplete_express : ∃ (s : State) (k pick cut q : Nat) (ready : List Nat), k ≤ 40 ∧ ready = sortNat (s.quesOn.filter (fun q => s.readyOn k q cut)) ∧ ready = [q] ∧ s.wayOpen q ((s.wayOf k q).getD 3) = true ∧ s.egressClass q = 0 :=
  ⟨demoExpress, 40, 0, 64, 3, [3], by decide +kernel⟩

theorem witness_QueueCommandsComplete_quiet : ∃ (s : State) (k pick cut : Nat), k ≤ 40 ∧ s.quesOn = [] ∧ (List.range 16).filter (fun m => s.hostReady k m) = [] :=
  ⟨{ live with scheds := [(40, { deficits := [(3, 5)] })] }, 40, 0, 64, by decide +kernel⟩

theorem witness_QueueCommandsComplete_stall : ∃ (s : State) (q : Nat) (t : Int), (s.que q).waits = some t ∧ s.quesOn.contains q = true ∧ s.get (QUE_CFG4_DEST q) = 0 ∧ s.wayUp q 3 = true ∧ s.egressRefused q = true ∧ (s.que q).stallSaid = false ∧ t + (mtMs : Int) ≤ s.mt :=
  ⟨demoStall, 3, -65536000000, by decide +kernel⟩

theorem witness_QueueCommandsComplete_ecc : ∃ (s : State) (id off : Nat), (s.plot id).state ≠ 4 ∧ (s.plot id).state ≠ 5 :=
  ⟨{ live with plots := [(5, { state := 1, kind := 1, owner := 3 })] }, 5, 65535, by decide +kernel⟩

theorem witness_QueueCommandsComplete_eccOnce : ∃ (s : State) (id off : Nat), (s.plot id).state ≠ 4 ∧ (s.plot id).state ≠ 5 ∧ (s.plot id).errs = 0 :=
  ⟨live, 5, 65535, by decide +kernel⟩

theorem witness_QueueCommandsComplete_pqFlush : ∃ (s : State) (n : Nat) (part : Bool) (w : Wr), s.Opens w (0x2000 + 16 * n) ∧ n < 256 ∧ w.hits 31 = true ∧ bit (merged (s.rn (SYS_PQ_CTL n)) w) 29 = bit (s.rn (SYS_PQ_CTL n)) 29 ∧ bit (merged (s.rn (SYS_PQ_CTL n)) w) 30 = bit (s.rn (SYS_PQ_CTL n)) 30 :=
  ⟨live, 255, false, ⟨0, 8, 0x80000000#32⟩, by decide +kernel⟩

theorem witness_QueueCommandsComplete_timeout : ∃ (s : State) (n : Nat) (x : PopWait), s.stalledPop n = some x ∧ x.at_ + stallTicks * s.get SYS_POST_STALL_LIMIT ≤ s.tb.fc :=
  ⟨{ live with popWait := [⟨255, 0, 0⟩], tb := { live.tb with fc := 10 ^ 12 } }, 255, ⟨255, 0, 0⟩, by decide +kernel⟩

theorem witness_QueueCommandsComplete_monPop : ∃ (s : State) (j : Nat), (s.func 0).held = none ∧ mapGet [] j s.monQ ≠ [] :=
  ⟨{ live with monQ := [(222, [[]])] }, 222, by decide +kernel⟩

theorem witness_QueueCommandsComplete_snapshot : ∃ (s : State) (j : Nat), j < 223 ∧ s.isSet (SYS_PQ_MON_CFG_EN j) = true ∧ s.get (SYS_PQ_MON_CFG_PERIOD j) ≠ 0 ∧ ((mtParts s.mt).1 * 1000000 + (mtParts s.mt).2.1 / 1000) % s.get (SYS_PQ_MON_CFG_PERIOD j) = 0 ∧ s.monTaken j = false :=
  ⟨(live.put (SYS_PQ_MON_CFG_EN 222) 1).put (SYS_PQ_MON_CFG_PERIOD 222) 1, 222, by decide +kernel⟩

theorem witness_QueueCommandsComplete_decision : ∃ (s : State) (k l : Nat) (lines : List ArbReq) (bad : Bool), k < 68 ∧ l < Config.arbLanes (Config.arbClass k) ∧ s.isSet (ARB_STAT_ASLEEP k) = false ∧ (∀ a ∈ lines, a.r < arbN k) :=
  ⟨live.put (ARB_STAT_ASLEEP 0) 0, 0, 0, [⟨0, false, false⟩], false
, by decide +kernel⟩

theorem witness_LaneCommandsComplete_start : ∃ (s u : State) (sh : Nat) (w : Wr), s.Opens w (0x300000 + 0x4000 * sh) ∧ sh < 40 ∧ bit (s.rn (LNE_SHEET_CTL sh)) 26 = false ∧ bit (merged (s.rn (LNE_SHEET_CTL sh)) w) 26 = true ∧ w.hits 19 = false ∧ w.hits 18 = false ∧ u = s.mergeRaw (LNE_SHEET_CTL sh).key (Wr.keep w (s.rn (LNE_SHEET_CTL sh)) 26 26) :=
  ⟨(live.put (LNE_SHEET_CTL_PROTO 1) 2), (live.put (LNE_SHEET_CTL_PROTO 1) 2).mergeRaw (LNE_SHEET_CTL 1).key (Wr.keep (⟨0, 15, 0x04000801#32⟩ : Wr) ((live.put (LNE_SHEET_CTL_PROTO 1) 2).rn (LNE_SHEET_CTL 1)) 26 26), 1, (⟨0, 15, 0x04000801#32⟩ : Wr), by decide +kernel⟩

theorem witness_LaneCommandsComplete_stop : ∃ (s u : State) (sh : Nat) (w : Wr) (fs : List (Nat × Nat)), s.Opens w (0x300000 + 0x4000 * sh) ∧ sh < 40 ∧ bit (s.rn (LNE_SHEET_CTL sh)) 26 = true ∧ bit (merged (s.rn (LNE_SHEET_CTL sh)) w) 26 = false ∧ w.hits 19 = false ∧ w.hits 18 = false ∧ fs = [(31, 30), (29, 27), (25, 25), (23, 23), (17, 14), (13, 0)] ∧ (∀ f ∈ fs, bits (merged (s.rn (LNE_SHEET_CTL sh)) w) f.1 f.2 = bits (s.rn (LNE_SHEET_CTL sh)) f.1 f.2) ∧ u = s.mergeRaw (LNE_SHEET_CTL sh).key (Wr.keep (fs.foldl (fun (w : Wr) f => Wr.keep w (s.rn (LNE_SHEET_CTL sh)) f.1 f.2) w)
      (s.rn (LNE_SHEET_CTL sh)) 26 26) :=
  ⟨(live.put (LNE_SHEET_CTL_START 1) 1), (live.put (LNE_SHEET_CTL_START 1) 1).mergeRaw (LNE_SHEET_CTL 1).key (Wr.keep ([(31, 30), (29, 27), (25, 25), (23, 23), (17, 14), (13, 0)].foldl (fun (w : Wr) f => Wr.keep w ((live.put (LNE_SHEET_CTL_START 1) 1).rn (LNE_SHEET_CTL 1)) f.1 f.2) (⟨0, 15, w32 (live.rn (LNE_SHEET_CTL 1))⟩ : Wr)) ((live.put (LNE_SHEET_CTL_START 1) 1).rn (LNE_SHEET_CTL 1)) 26 26), 1, (⟨0, 15, w32 (live.rn (LNE_SHEET_CTL 1))⟩ : Wr), [(31, 30), (29, 27), (25, 25), (23, 23), (17, 14), (13, 0)], by decide +kernel⟩

theorem witness_LaneCommandsComplete_detect : ∃ (s : State) (sh l : Nat), s.sheetAwake sh = true ∧ s.laneState sh l = 2 ∧ s.isSet (LNE_STAT_LOS sh l) = false ∧ s.losSettled sh l = true ∧ s.inStage sh l (10 * mtUs) = true :=
  ⟨({ live.put (LNE_STAT_STATE 1 8) 2 with sheets := [(1, { stageAt := [(8, -1000000000000000)] })] } : State), 1, 8, by decide +kernel⟩

theorem witness_LaneCommandsComplete_lock : ∃ (s : State) (sh l : Nat), s.sheetAwake sh = true ∧ s.laneState sh l = 3 :=
  ⟨live.put (LNE_STAT_STATE 1 8) 3, 1, 8, by decide +kernel⟩

theorem witness_LaneCommandsComplete_equalise : ∃ (s : State) (sh l : Nat) (m : List Nat), s.sheetAwake sh = true ∧ s.laneState sh l = 4 ∧ s.isSet (LNE_SHEET_CTL_EQ_SEARCH sh) = false ∧ s.inStage sh l 0 = true :=
  ⟨(live.put (LNE_STAT_STATE 1 8) 4).put (LNE_SHEET_CTL_EQ_SEARCH 1) 0, 1, 8, [], by decide +kernel⟩

theorem witness_LaneCommandsComplete_search : ∃ (s u : State) (sh l p sp n : Nat) (m : List Nat), s.sheetAwake sh = true ∧ s.laneState sh l = 4 ∧ s.isSet (LNE_SHEET_CTL_EQ_SEARCH sh) = true ∧ s.get (LNE_CTL_PEAK sh l) = p ∧ s.get (LNE_SHEET_CTL_EQ_SPAN sh) = sp ∧ n = min 48 (p + sp) + 1 - (p - sp) ∧ n ≠ 0 ∧ n ≤ m.length ∧ s.inStage sh l (n * 500 * mtUs) = true ∧ u = s.put (LNE_STAT_PEAK_ACT sh l) (bestPeak (p - sp) (m.take n)) :=
  ⟨({ (((live.put (LNE_STAT_STATE 1 8) 4).put (LNE_SHEET_CTL_EQ_SEARCH 1) 1).put (LNE_CTL_PEAK 1 8) 48).put (LNE_SHEET_CTL_EQ_SPAN 1) 1 with sheets := [(1, { stageAt := [(8, -1000000000000000)] })] } : State), ({ (((live.put (LNE_STAT_STATE 1 8) 4).put (LNE_SHEET_CTL_EQ_SEARCH 1) 1).put (LNE_CTL_PEAK 1 8) 48).put (LNE_SHEET_CTL_EQ_SPAN 1) 1 with sheets := [(1, { stageAt := [(8, -1000000000000000)] })] } : State).put (LNE_STAT_PEAK_ACT 1 8) (bestPeak 47 [7, 9]), 1, 8, 48, 1, 2, [7, 9], by decide +kernel⟩

theorem witness_LaneCommandsComplete_align : ∃ (s : State) (sh l n : Nat) (inv : Bool), s.sheetAwake sh = true ∧ s.laneState sh l = 5 ∧ (s.lnk sh).xchg = none :=
  ⟨live.put (LNE_STAT_STATE 1 8) 5, 1, 8, 7, true, by decide +kernel⟩

theorem witness_LaneCommandsComplete_up : ∃ (s u : State) (sh skew : Nat) (m : List Nat) (rev : Bool), s.sheetAwake sh = true ∧ s.sheetState sh = 1 ∧ (∀ l ∈ s.mapped sh, s.laneState sh l = 6 ∧ s.isSet (LNE_STAT_LOS sh l) = false ∧ s.isSet (LNE_STAT_LOL sh l) = false) ∧ s.orderMap sh = some (m, rev) ∧ skew ≤ 256 ∧ s.proto sh ≠ 1 ∧ u = m.foldl (fun (s : State) l => s.put (LNE_STAT_STATE sh l) 7) ((((s.setMap sh m).put (LNE_SHEET_STAT_REV sh)
      (b2n (rev || s.isSet (LNE_SHEET_STAT_REV sh)))).put (LNE_SHEET_STAT_SKEW sh) (min skew 255)).put (LNE_SHEET_STAT_STATE sh) 2) :=
  ⟨sheetReady, sheetUpped, 1, 256, [0, 1, 2, 3, 4, 5, 6, 7], false, by decide +kernel⟩

theorem witness_LaneCommandsComplete_order : ∃ (s : State) (sh skew : Nat), s.sheetAwake sh = true ∧ s.sheetState sh = 1 ∧ (∀ l ∈ s.mapped sh, s.laneState sh l = 6 ∧ s.isSet (LNE_STAT_LOS sh l) = false ∧ s.isSet (LNE_STAT_LOL sh l) = false) :=
  ⟨sheetReady, 1, 257, by decide +kernel⟩

theorem witness_LaneCommandsComplete_stageTimeout : ∃ (s : State) (sh l : Nat), s.sheetAwake sh = true ∧ (s.sheetState sh = 1 ∨ s.sheetState sh = 3) ∧ 2 ≤ s.laneState sh l ∧ s.laneState sh l ≤ 5 ∧ s.inStage sh l (s.stageMax sh l (s.laneState sh l)) = true :=
  ⟨({ (live.put (LNE_STAT_STATE 1 8) 5).put (LNE_SHEET_STAT_STATE 1) 3 with sheets := [(1, { stageAt := [(8, -1000000000000000)] })] } : State), 1, 8, by decide +kernel⟩

theorem witness_LaneCommandsComplete_retry : ∃ (s : State) (sh : Nat), s.sheetAwake sh = true ∧ (s.sheet sh).waiting = true ∧ s.isSet (LNE_SHEET_CTL_START sh) = true ∧ s.proto sh ≠ 2 ∧ (s.sheet sh).failAt + ((s.get (LNE_SHEET_CTL_RETRY sh) * mtMs : Nat) : Int) ≤ s.mt :=
  ⟨({ live.put (LNE_SHEET_CTL_START 1) 1 with sheets := [(1, { waiting := true, failAt := -1000000000000000 })] } : State), 1, by decide +kernel⟩

theorem witness_LaneCommandsComplete_los : ∃ (s : State) (sh l : Nat), s.reports sh l = true ∧ s.isSet (LNE_STAT_LOS sh l) = false :=
  ⟨((live.put (LNE_STAT_STATE 1 8) 7).put (LNE_CTL_RX_SLEEP 1 8) 0).put (LNE_STAT_LOS 1 8) 0, 1, 8, by decide +kernel⟩

theorem witness_LaneCommandsComplete_losClear : ∃ (s : State) (sh l : Nat), s.reports sh l = true ∧ s.isSet (LNE_STAT_LOS sh l) = true ∧ s.losSettled sh l = true :=
  ⟨((live.put (LNE_STAT_STATE 1 8) 7).put (LNE_CTL_RX_SLEEP 1 8) 0).put (LNE_STAT_LOS 1 8) 1, 1, 8, by decide +kernel⟩

theorem witness_LaneCommandsComplete_lol : ∃ (s : State) (sh l : Nat), s.reports sh l = true ∧ s.isSet (LNE_STAT_LOL sh l) = false :=
  ⟨((live.put (LNE_STAT_STATE 1 8) 7).put (LNE_STAT_LOL 1 8) 0).put (LNE_CTL_RX_SLEEP 1 8) 0, 1, 8, by decide +kernel⟩

theorem witness_LaneCommandsComplete_eye : ∃ (s : State) (sh l v h : Nat), s.sheetAwake sh = true ∧ s.laneState sh l = 7 ∧ s.get (LNE_EYE_CFG0_PERIOD sh) ≠ 0 ∧ s.eyeDue sh l = true ∧ s.get (LNE_EYE_CFG0_WARN_V sh) ≤ v ∧ s.get (LNE_EYE_CFG1_WARN_H sh) ≤ h ∧ s.get (LNE_EYE_CFG0_FAIL_V sh) ≤ v ∧ s.get (LNE_EYE_CFG1_FAIL_H sh) ≤ h :=
  ⟨(live.put (LNE_STAT_STATE 1 8) 7).put (LNE_EYE_CFG0_PERIOD 1) 1, 1, 8, 255, 256, by decide +kernel⟩

theorem witness_LaneCommandsComplete_prbsLock : ∃ (s : State) (sh l : Nat), s.checks sh l = true ∧ s.isSet (LNE_PRBS_CTL_LOCK sh l) = false :=
  ⟨(live.put (LNE_STAT_STATE 1 8) 8).put (LNE_PRBS_CTL_CHK_EN 1 8) 1, 1, 8, by decide +kernel⟩

theorem witness_LaneCommandsComplete_prbsLost : ∃ (s : State) (sh l n e : Nat), s.checks sh l = true ∧ s.isSet (LNE_PRBS_CTL_LOCK sh l) = true ∧ s.rd64 (LNE_PRBS_BITS_LO sh l) (LNE_PRBS_BITS_HI sh l) + n < 2 ^ 64 - 1 ∧ s.rd64 (LNE_PRBS_ERR_LO sh l) (LNE_PRBS_ERR_HI sh l) + e < 2 ^ 64 - 1 :=
  ⟨((live.put (LNE_STAT_STATE 1 8) 8).put (LNE_PRBS_CTL_CHK_EN 1 8) 1).put (LNE_PRBS_CTL_LOCK 1 8) 1, 1, 8, 5, 18446744073709551614, by decide +kernel⟩

theorem witness_LaneCommandsComplete_inject : ∃ (s u : State) (sh l : Nat) (w : Wr), s.Opens w (0x301020 + 0x4000 * sh + 0x200 * l) ∧ sh < 40 ∧ l ≤ 8 ∧ w.hits 19 = false ∧ w.hits 26 = true ∧ u = s.mergeRaw (LNE_PRBS_CTL sh l).key w ∧ u.awake (24 + sh) = true ∧ u.isSet (LNE_PRBS_CTL_CHK_EN sh l) = true ∧ u.isSet (LNE_PRBS_CTL_GEN_EN sh l) = true ∧ u.laneState sh l = 8 :=
  ⟨live.put (LNE_STAT_STATE 1 8) 8, (live.put (LNE_STAT_STATE 1 8) 8).mergeRaw (LNE_PRBS_CTL 1 8).key ⟨0, 15, 0xC4000000#32⟩, 1, 8, ⟨0, 15, 0xC4000000#32⟩, by decide +kernel⟩

theorem witness_LaneCommandsComplete_clear : ∃ (s u : State) (sh l : Nat) (w : Wr), s.Opens w (0x301020 + 0x4000 * sh + 0x200 * l) ∧ sh < 40 ∧ l ≤ 8 ∧ w.hits 19 = true ∧ w.hits 26 = false ∧ u = s.mergeRaw (LNE_PRBS_CTL sh l).key w ∧ u.awake (24 + sh) = true ∧ u.isSet (LNE_PRBS_CTL_CHK_EN sh l) = true :=
  ⟨live, live.mergeRaw (LNE_PRBS_CTL 1 8).key ⟨0, 15, 0xC0080000#32⟩, 1, 8, ⟨0, 15, 0xC0080000#32⟩, by decide +kernel⟩

theorem witness_LaneCommandsComplete_sub : ∃ (s u : State) (sh : Nat) (w : Wr), s.Opens w (0x300000 + 0x4000 * sh) ∧ sh < 40 ∧ bit (s.rn (LNE_SHEET_CTL sh)) 26 = false ∧ bit (merged (s.rn (LNE_SHEET_CTL sh)) w) 26 = false ∧ u = s.mergeRaw (LNE_SHEET_CTL sh).key (Wr.keep w (s.rn (LNE_SHEET_CTL sh)) 26 26) :=
  ⟨live, live.mergeRaw (LNE_SHEET_CTL 1).key (Wr.keep (⟨0, 15, 0x00740001#32⟩ : Wr) (live.rn (LNE_SHEET_CTL 1)) 26 26), 1, (⟨0, 15, 0x00740001#32⟩ : Wr), by decide +kernel⟩

theorem witness_LaneCommandsComplete_sleep : ∃ (s u : State) (sh l : Nat) (w : Wr), s.Opens w (0x301000 + 0x4000 * sh + 0x200 * l) ∧ sh < 40 ∧ l ≤ 8 ∧ s.isSet (LNE_SHEET_CTL_START sh) = false ∧ s.laneUnused sh l = true ∧ s.laneState sh l ≠ 9 ∧ u = s.mergeRaw (LNE_CTL sh l).key w ∧ u.isSet (LNE_CTL_TX_SLEEP sh l) = true ∧ u.isSet (LNE_CTL_RX_SLEEP sh l) = true :=
  ⟨live, live.mergeRaw (LNE_CTL 1 8).key ⟨0, 15, 0xC0000000#32⟩, 1, 8, ⟨0, 15, 0xC0000000#32⟩, by decide +kernel⟩

theorem witness_LaneCommandsComplete_wake : ∃ (s u : State) (sh l : Nat) (w : Wr), s.Opens w (0x301000 + 0x4000 * sh + 0x200 * l) ∧ sh < 40 ∧ l ≤ 8 ∧ s.isSet (LNE_SHEET_CTL_START sh) = false ∧ s.laneUnused sh l = true ∧ u = s.mergeRaw (LNE_CTL sh l).key w ∧ u.isSet (LNE_CTL_TX_SLEEP sh l) = false ∧ u.isSet (LNE_CTL_RX_SLEEP sh l) = false ∧ s.laneState sh l ≠ 9 ∧ u.laneState sh l ≠ 0 :=
  ⟨live.put (LNE_STAT_STATE 1 8) 1, (live.put (LNE_STAT_STATE 1 8) 1).mergeRaw (LNE_CTL 1 8).key ⟨0, 15, 0#32⟩, 1, 8, ⟨0, 15, 0#32⟩
, by decide +kernel⟩

theorem witness_LinkCommandsComplete_trainingBad : ∃ (s : State) (sh l : Nat) (d : List Byte), s.get (LNE_SHEET_CTL_PROTO sh) = 2 ∧ s.lstate sh = 1 ∧ s.sheetAwake sh = true ∧ readTrain d = none ∧ (s.lnk sh).trn.waiting = false ∧ (s.lnk sh).trn.phase = 1 :=
  ⟨(spx { trn := { phase := 1 } }).put (SPX_STAT_LSTATE 1) 1, 1, 0, [], by decide +kernel⟩

theorem witness_LinkCommandsComplete_training : ∃ (s : State) (sh l k : Nat) (d : List Byte) (p : TrainSet) (t : Training), s.get (LNE_SHEET_CTL_PROTO sh) = 2 ∧ s.lstate sh = 1 ∧ s.sheetAwake sh = true ∧ readTrain d = some (k, p) ∧ t = (s.lnk sh).trn ∧ t.phase < 2 ∧ p.phase < 2 :=
  ⟨(spx {}).put (SPX_STAT_LSTATE 1) 1, 1, 0, 7, goodTrain, ⟨0, 0, 1, 0, 0, 0, false, 0, 0⟩, {}, by decide +kernel⟩

theorem witness_LinkCommandsComplete_attempt : ∃ (s : State) (sh : Nat), s.proto sh = 2 ∧ s.lstate sh = 1 ∧ s.sheetAwake sh = true ∧ (s.lnk sh).trn.phase < 2 ∧ (s.lnk sh).trn.waiting = false ∧ (s.lnk sh).trn.heard = true ∧ s.sheetState sh = 2 ∧ (s.lnk sh).trn.since + ((s.get (SPX_TRAIN_PARTNER_TO sh) * mtMs : Nat) : Int) ≤ s.mt :=
  ⟨((spx { trn := { phase := 1, heard := true, since := -1000000000000000 } }).put (SPX_STAT_LSTATE 1) 1).put (LNE_SHEET_STAT_STATE 1) 2, 1, by decide +kernel⟩

theorem witness_LinkCommandsComplete_absent : ∃ (s : State) (sh : Nat), s.proto sh = 2 ∧ s.lstate sh = 1 ∧ s.sheetAwake sh = true ∧ (s.lnk sh).trn.phase < 2 ∧ (s.lnk sh).trn.waiting = false ∧ (s.lnk sh).trn.heard = false ∧ (s.lnk sh).trn.absentSaid = false ∧ s.sheetState sh = 2 ∧ (s.lnk sh).trn.since + ((s.get (SPX_TRAIN_PARTNER_TO sh) * mtMs : Nat) : Int) ≤ s.mt :=
  ⟨((spx { trn := { since := -1000000000000000 } }).put (SPX_STAT_LSTATE 1) 1).put (LNE_SHEET_STAT_STATE 1) 2, 1, by decide +kernel⟩

theorem witness_LinkCommandsComplete_backoff : ∃ (s : State) (sh : Nat), (s.lnk sh).trn.waiting = true ∧ s.lstate sh = 1 ∧ s.sheetAwake sh = true ∧ (s.lnk sh).trn.since + ((s.backoff sh (s.lnk sh).trn.fails * mtMs : Nat) : Int) ≤ s.mt :=
  ⟨(spx { trn := { waiting := true, since := -1000000000000000 } }).put (SPX_STAT_LSTATE 1) 1, 1, by decide +kernel⟩

theorem witness_LinkCommandsComplete_block : ∃ (s : State) (sh l i k c : Nat) (syms : List Nat), s.linkActive sh = true ∧ s.sheetAwake sh = true ∧ s.laneLogical sh l = some k ∧ (s.lnk sh).rxExpected k = some c ∧ s.get (LNE_SHEET_CTL_RATE sh) = 0 ∧ syms.getD 0 0 * 1024 + syms.getD 1 0 = 2 ^ 19 + c % 2 ^ 17 :=
  ⟨(spx {}).put (LNE_SHEET_CTL_RATE 1) 0, 1, 0, 0, 0, 0, [512, 0], by decide +kernel⟩

theorem witness_LinkCommandsComplete_retrainBlock : ∃ (s : State) (sh l i k c : Nat) (syms : List Nat), s.linkActive sh = true ∧ s.sheetAwake sh = true ∧ s.laneLogical sh l = some k ∧ (s.lnk sh).rxExpected k = some c ∧ s.get (LNE_SHEET_CTL_RATE sh) = 0 ∧ (syms.getD 0 0 * 1024 + syms.getD 1 0) / 2 ^ 18 = 1 :=
  ⟨(spx {}).put (LNE_SHEET_CTL_RATE 1) 0, 1, 0, 0, 0, 0, [511, 1023], by decide +kernel⟩

theorem witness_LinkCommandsComplete_flitBad : ∃ (s : State) (sh : Nat) (f : RxFlit) (r : List RxFlit), (s.lnk sh).rx.flits = f :: r ∧ (f.bad = true ∨ flitOk f.bytes = false) :=
  ⟨spx { rx := { flits := [⟨true, [], 0⟩] } }, 1, ⟨true, [], 0⟩, [], by decide +kernel⟩

theorem witness_LinkCommandsComplete_flitRetrain : ∃ (s : State) (sh : Nat) (f : RxFlit) (r : List RxFlit), (s.lnk sh).rx.flits = f :: r ∧ f.bad = false ∧ flitOk f.bytes = true ∧ bit (flitAt f.bytes 254 1) 0 = true :=
  ⟨spx { rx := { flits := [⟨false, aFlit 0 0 1, 0⟩] } }, 1, ⟨false, aFlit 0 0 1, 0⟩, [], by decide +kernel⟩

theorem witness_LinkCommandsComplete_flitNext : ∃ (s u : State) (sh : Nat) (f : RxFlit) (r : List RxFlit), (s.lnk sh).rx.flits = f :: r ∧ f.bad = false ∧ flitOk f.bytes = true ∧ flitAt f.bytes 254 1 = 0 ∧ u = (s.setLnk sh { s.lnk sh with rx := { (s.lnk sh).rx with flits := r } }).flitAck sh f.bytes ∧ u.linkActive sh = true ∧ flitAt f.bytes 0 1 ≠ 0 ∧ flitAt f.bytes 0 1 ≠ 0x30 ∧ flitAt f.bytes 2 3 = (u.rn (SPX_ACK sh) + 1) % 2 ^ 24 :=
  ⟨spx { rx := { flits := [⟨false, aFlit 0x10 0 0, 0⟩] } }, ({ spx { rx := { flits := [] } } with links := [] } : State), 1, ⟨false, aFlit 0x10 0 0, 0⟩, [], by decide +kernel⟩

theorem witness_LinkCommandsComplete_replay : ∃ (s : State) (sh : Nat) (f : SentFlit) (r : List SentFlit), s.linkActive sh = true ∧ (s.lnk sh).tx.out = f :: r ∧ (s.lnk sh).tx.ackAt + ((s.get (SPX_TIMER_REPLAY_TO sh) * mtUs : Nat) : Int) ≤ s.mt :=
  ⟨spx { tx := { out := [sent0], ackAt := -1000000000000 } }, 1, sent0, [], by decide +kernel⟩

theorem witness_LinkCommandsComplete_retrainOut : ∃ (s u : State) (sh i : Nat), s.sheetAwake sh = true ∧ s.lstate sh = 1 ∧ (s.lnk sh).tx.retrain = true ∧ u = s.sendBlock sh (s.bcnMt sh i) :=
  ⟨trainingOut, trainingOut.sendBlock 1 (trainingOut.bcnMt 1 0), 1, 0, by decide +kernel⟩

theorem witness_LinkCommandsComplete_trainOut : ∃ (s : State) (sh i : Nat), s.sheetAwake sh = true ∧ s.lstate sh = 1 ∧ (s.lnk sh).tx.retrain = false ∧ (s.lnk sh).trn.phase ≠ 3 :=
  ⟨(spx {}).put (SPX_STAT_LSTATE 1) 1, 1, 0, by decide +kernel⟩

theorem witness_LinkCommandsComplete_blockOut : ∃ (s : State) (sh i : Nat), s.sheetAwake sh = true ∧ 2 ≤ s.lstate sh :=
  ⟨spx {}, 1, 0, by decide +kernel⟩

theorem witness_LinkCommandsComplete_claim : ∃ (s u : State) (sh : Nat) (m : List Byte), s.takeCtl sh 1 = some (m, u) ∧ (u.lnk sh).xchg = none :=
  ⟨spx { rx := { ctl := [aCtl 1] } }, took { rx := { ctl := [] } }, 1, aCtl 1, by decide +kernel⟩

theorem witness_LinkCommandsComplete_claimBusy : ∃ (s u : State) (sh : Nat) (m : List Byte) (e : Exchange), s.takeCtl sh 1 = some (m, u) ∧ (u.lnk sh).xchg = some e ∧ e.granted = true :=
  ⟨spx { rx := { ctl := [aCtl 1] }, xchg := some { kind := 2, ours := true, tag := 0, granted := true } }, took { rx := { ctl := [] }, xchg := some { kind := 2, ours := true, tag := 0, granted := true } }, 1, aCtl 1, { kind := 2, ours := true, tag := 0, granted := true }, by decide +kernel⟩

theorem witness_LinkCommandsComplete_grant : ∃ (s u : State) (sh : Nat) (m : List Byte) (e : Exchange), s.takeCtl sh 2 = some (m, u) ∧ (u.lnk sh).xchg = some e ∧ e.ours = true ∧ e.granted = false ∧ e.tag = flitAt m 2 2 :=
  ⟨spx { rx := { ctl := [aCtl 2] }, xchg := some { kind := 2, ours := true, tag := 0 } }, took { rx := { ctl := [] }, xchg := some { kind := 2, ours := true, tag := 0 } }, 1, aCtl 2, { kind := 2, ours := true, tag := 0 }, by decide +kernel⟩

theorem witness_LinkCommandsComplete_refuse : ∃ (s u : State) (sh : Nat) (m : List Byte) (e : Exchange), s.takeCtl sh 3 = some (m, u) ∧ (u.lnk sh).xchg = some e ∧ e.ours = true ∧ e.tag = flitAt m 2 2 :=
  ⟨spx { rx := { ctl := [aCtl 3] }, xchg := some { kind := 2, ours := true, tag := 0 } }, took { rx := { ctl := [] }, xchg := some { kind := 2, ours := true, tag := 0 } }, 1, aCtl 3, { kind := 2, ours := true, tag := 0 }, by decide +kernel⟩

theorem witness_LinkCommandsComplete_done : ∃ (s u : State) (sh : Nat) (m : List Byte) (e : Exchange), s.takeCtl sh 4 = some (m, u) ∧ (u.lnk sh).xchg = some e ∧ e.ours = false ∧ e.txAt = none ∧ e.kind ≠ 1 ∧ (u.lnk sh).again = none :=
  ⟨spx { rx := { ctl := [aCtl 4] }, xchg := some { kind := 2, ours := false, tag := 0 } }, took { rx := { ctl := [] }, xchg := some { kind := 2, ours := false, tag := 0 } }, 1, aCtl 4, { kind := 2, ours := false, tag := 0 }, by decide +kernel⟩

theorem witness_LinkCommandsComplete_ready : ∃ (s u : State) (sh : Nat) (m : List Byte) (e : Exchange), s.takeCtl sh 5 = some (m, u) ∧ (u.lnk sh).xchg = some e :=
  ⟨spx { rx := { ctl := [aCtl 5] }, xchg := some { kind := 1, ours := false, tag := 0 } }, took { rx := { ctl := [] }, xchg := some { kind := 1, ours := false, tag := 0 } }, 1, aCtl 5, { kind := 1, ours := false, tag := 0 }, by decide +kernel⟩

theorem witness_LinkCommandsComplete_switch : ∃ (s u : State) (sh : Nat) (m : List Byte) (e : Exchange), s.takeCtl sh 6 = some (m, u) ∧ (u.lnk sh).xchg = some e :=
  ⟨spx { rx := { ctl := [aCtl 6] }, xchg := some { kind := 1, ours := false, tag := 0 } }, took { rx := { ctl := [] }, xchg := some { kind := 1, ours := false, tag := 0 } }, 1, aCtl 6, { kind := 1, ours := false, tag := 0 }, by decide +kernel⟩

theorem witness_LinkCommandsComplete_restore : ∃ (s u : State) (sh : Nat) (m : List Byte), s.takeCtl sh 7 = some (m, u) ∧ u.lstate sh = 3 :=
  ⟨(spx { rx := { ctl := [aCtl 7] } }).put (SPX_STAT_LSTATE 1) 3, ((spx { rx := { ctl := [aCtl 7] } }).put (SPX_STAT_LSTATE 1) 3 |>.setLnk 1 { rx := { ctl := [] } }).relCtrl 1, 1, aCtl 7, by decide +kernel⟩

theorem witness_LinkCommandsComplete_command : ∃ (s u : State) (sh : Nat) (m : List Byte), s.takeCtl sh 8 = some (m, u) :=
  ⟨spx { rx := { ctl := [aCtl 8] } }, took { rx := { ctl := [] } }, 1, aCtl 8, by decide +kernel⟩

theorem witness_LinkCommandsComplete_timeout : ∃ (s : State) (sh : Nat) (e : Exchange), (s.lnk sh).xchg = some e ∧ e.ours = true ∧ e.granted = false ∧ e.since + ((s.get (SPX_TIMER_XCHG_TO sh) * mtMs : Nat) : Int) ≤ s.mt :=
  ⟨spx { xchg := some { kind := 2, ours := true, tag := 0, since := -1000000000000000 } }, 1, { kind := 2, ours := true, tag := 0, since := -1000000000000000 }, by decide +kernel⟩

theorem witness_LinkCommandsComplete_doze : ∃ (s : State) (sh : Nat), s.isSet (SPX_CTL_DOZE_EN sh) = true ∧ s.lstate sh = 2 ∧ s.sheetAwake sh = true ∧ (s.lnk sh).xchg = none ∧ s.dataWaits sh = false ∧ (s.lnk sh).tx.sinceData + ((s.get (SPX_DOZE_IDLE sh) * mtUs : Nat) : Int) ≤ s.mt :=
  ⟨(spx { tx := { sinceData := -1000000000000 } }).put (SPX_CTL_DOZE_EN 1) 1, 1
, by decide +kernel⟩

theorem witness_LinkCommandsComplete_trainingOther : ∃ (s : State) (sh l k : Nat) (d : List Byte), s.get (LNE_SHEET_CTL_PROTO sh) = 2 ∧ s.lstate sh = 1 ∧ s.sheetAwake sh = true ∧ readTrain d = none ∧ (s.lnk sh).trn.waiting = false ∧ (s.lnk sh).trn.phase ≠ 1 ∧ s.laneLogical sh l = some k :=
  ⟨(spx { trn := { phase := 0 } }).put (SPX_STAT_LSTATE 1) 1, 1, 0, 0, [], by decide +kernel⟩

theorem witness_StreamCommandsComplete_sample : ∃ (s u : State) (sh n c : Nat) (f : InFlit) (full : List Nat) (x : NodeStream), s.headFlit sh 0x10 = some f ∧ f.stream < 256 ∧ u = s.popFlit sh ∧ x = u.nodeStream sh f.stream ∧ x.declared = true ∧ flitAt f.data 8 1 = x.format ∧ n = flitAt f.data 0 8 ∧ c = flitAt f.data 10 2 ∧ x.next ≤ n ∧ 0 < c ∧ c ≤ 1760 / (formatWidth x.format * (if bit x.format 2 then 2 else 1)) ∧ n + c ≤ x.nextN :=
  ⟨sampleReady, sampleReady.popFlit 1, 1, 2, 1, sampleFlit, [], sampleNode, by decide +kernel⟩

theorem witness_StreamCommandsComplete_sampleBad : ∃ (s : State) (sh : Nat) (f : InFlit) (full : List Nat), s.headFlit sh 0x10 = some f ∧ ((s.popFlit sh).nodeStream sh (f.stream % 256)).declared = false :=
  ⟨spx { rx := { din := [sampleFlit] } }, 1, sampleFlit, [], by decide +kernel⟩

theorem witness_StreamCommandsComplete_declare : ∃ (s u : State) (sh : Nat) (f : InFlit), s.headFlit sh 0x13 = some f ∧ flitAt f.data 0 8 < flitAt f.data 28 8 ∧ f.stream < 256 ∧ u = s.popFlit sh :=
  ⟨spx { rx := { din := [declareFlit] } }, (spx { rx := { din := [declareFlit] } }).popFlit 1, 1, declareFlit, by decide +kernel⟩

theorem witness_StreamCommandsComplete_partialOpen : ∃ (s : State) (sh : Nat) (f : InFlit), s.headFlit sh 0x11 = some f ∧ f.first = true ∧ f.last = false :=
  ⟨spx { rx := { din := [⟨0x11, true, false, 4095, [1#8]⟩] } }, 1, ⟨0x11, true, false, 4095, [1#8]⟩, by decide +kernel⟩

theorem witness_StreamCommandsComplete_partialClose : ∃ (s u : State) (sh : Nat) (f : InFlit) (b : Nat) (beams : List Nat) (l : List Byte) (v : List (Int × Int) × State), s.headFlit sh 0x11 = some f ∧ f.first = true ∧ f.last = true ∧ l = f.data ++ List.replicate (232 - f.data.length) 0#8 ∧ u = (s.popFlit sh).setUnit sh (0x10000 + f.stream) none ∧ u.chainBeams sh f.stream = b :: beams ∧ v = u.partVals (pieces 232 (l.length / 232 + 1) l) (flitAt l 14 2) :=
  ⟨chained, (chained.popFlit 1).setUnit 1 0x10005 none, 1, ⟨0x11, true, true, 5, [1#8]⟩, 0, [], [1#8] ++ List.replicate 231 0#8, ((chained.popFlit 1).setUnit 1 0x10005 none).partVals (pieces 232 2 ([1#8] ++ List.replicate 231 0#8)) 0, by decide +kernel⟩

theorem witness_StreamCommandsComplete_queue : ∃ (s u : State) (sh : Nat) (f : InFlit), s.headFlit sh 0x12 = some f ∧ f.first = true ∧ u = s.popFlit sh ∧ bit (u.rxMap sh f.stream) 31 = true ∧ u.streamInOn (bits (u.rxMap sh f.stream) 13 0) = true :=
  ⟨rxMapped, rxMapped.popFlit 1, 1, ⟨0x12, true, true, 7, [1#8]⟩, by decide +kernel⟩

theorem witness_StreamCommandsComplete_queueNone : ∃ (s : State) (sh : Nat) (f : InFlit), s.headFlit sh 0x12 = some f ∧ bit ((s.popFlit sh).rxMap sh f.stream) 31 = false :=
  ⟨spx { rx := { din := [⟨0x12, true, true, 7, [1#8]⟩] } }, 1, ⟨0x12, true, true, 7, [1#8]⟩, by decide +kernel⟩

theorem witness_StreamCommandsComplete_beaconTx : ∃ (s : State) (sh : Nat), s.isSet (SPX_CTL_BCN_EN sh) = true ∧ s.linkActive sh = true ∧ s.sheetAwake sh = true ∧ s.beaconDue sh = true :=
  ⟨(spx {}).put (SPX_CTL_BCN_EN 1) 1, 1, by decide +kernel⟩

theorem witness_StreamCommandsComplete_beaconNear : ∃ (s : State) (sh : Nat) (l : List Byte) (t : Int) (r : List (List Byte × Int)), (s.lnk sh).rx.beacons = (l, t) :: r ∧ (∃ e ∈ (s.lnk sh).bcn.dep, (e.2 - t).natAbs < 655360) :=
  ⟨spx { rx := { beacons := [([5#8], 0)] }, bcn := { dep := [(0, 655359)] } }, 1, [5#8], 0, [], ⟨rfl, (0, 655359), by decide +kernel, by decide⟩⟩

theorem witness_StreamCommandsComplete_beaconFirst : ∃ (s u : State) (sh : Nat) (l : List Byte) (came : Int) (r : List (List Byte × Int)), (s.lnk sh).rx.beacons = (l, came) :: r ∧ (s.lnk sh).bcn.dep = [] ∧ u = (s.setLnk sh { s.lnk sh with rx := { (s.lnk sh).rx with beacons := r } }).wn (SPX_BCN_SEQ sh) (flitAt l 0 4) ∧ (sext 32 (u.rn (SPX_ASYM sh)) + sext 32 (flitAt l 36 4)).natAbs * 1000 ≤ 65536 ∧ s.get TB_DISC_SRC ≠ 2 :=
  ⟨spx { rx := { beacons := [([5#8], 0)] } }, { (spx {}) with links := [] } |>.wn (SPX_BCN_SEQ 1) 5, 1, [5#8], 0, [], by decide +kernel⟩

theorem witness_StreamCommandsComplete_beaconLost : ∃ (s : State) (sh : Nat), s.linkActive sh = true ∧ (s.lnk sh).bcn.usable = none ∧ (s.lnk sh).bcn.lost = false :=
  ⟨spx {}, 1
, by decide +kernel⟩

theorem witness_EthernetCommandsComplete_short : ∃ (s : State) (p : Nat) (l : List Byte), s.portExists p = true ∧ (l.length < 60 ∨ 9212 < l.length) :=
  ⟨ethUp, 2, List.replicate 59 0#8, by decide +kernel⟩

theorem witness_EthernetCommandsComplete_fcs : ∃ (s : State) (p : Nat) (l : List Byte), s.portExists p = true :=
  ⟨ethUp, 2, List.replicate 60 0#8, by decide +kernel⟩

theorem witness_EthernetCommandsComplete_pause : ∃ (s : State) (p : Nat) (l : List Byte), s.portExists p = true ∧ 60 ≤ l.length ∧ l.length ≤ 9212 ∧ beAt l (etherTypeAt l) 2 = 0x8808 :=
  ⟨ethUp, 2, List.replicate 12 0#8 ++ [0x88#8, 8#8] ++ List.replicate 46 0#8, by decide +kernel⟩

theorem witness_EthernetCommandsComplete_datagram : ∃ (s : State) (p u d : Nat) (six : Bool) (l data : List Byte), s.portExists p = true ∧ 60 ≤ l.length ∧ l.length ≤ 9212 ∧ beAt l (etherTypeAt l) 2 ≠ 0x8808 ∧ udpAt l = some (u, six) ∧ udpPayload l = some (d, data) :=
  ⟨ethUp, 2, 34, 0, false, udpFrame, [], by decide +kernel⟩

theorem witness_EthernetCommandsComplete_host : ∃ (s : State) (p : Nat) (l : List Byte), s.portExists p = true ∧ 60 ≤ l.length ∧ l.length ≤ 9212 ∧ beAt l (etherTypeAt l) 2 ≠ 0x8808 ∧ udpAt l = none :=
  ⟨ethUp, 2, List.replicate 9212 0#8, by decide +kernel⟩

theorem witness_EthernetCommandsComplete_merge : ∃ (s : State) (n : Nat) (t : Int), (mapGet {} n s.rxs : RxStream).since = some t ∧ t + ((s.get ETH_RXS_MERGE * mtUs : Nat) : Int) ≤ s.mt :=
  ⟨{ live with rxs := [(4095, { since := some (-1000000000000) })] }, 4095, -1000000000000, by decide +kernel⟩

theorem witness_EthernetCommandsComplete_beatIn : ∃ (s : State) (p : Nat) (d : List Byte), s.portExists p = true ∧ d.length = 32 ∧ leNat (d.take 3) = 0x014248 :=
  ⟨ethUp, 2, [0x48#8, 0x42#8, 1#8] ++ List.replicate 29 0#8, by decide +kernel⟩

theorem witness_EthernetCommandsComplete_beatOut : ∃ (s : State), s.isSet RED_HB_EN = true :=
  ⟨live.put RED_HB_EN 1, by decide +kernel⟩

theorem witness_EthernetCommandsComplete_beatLost : ∃ (s : State) (p : Nat), s.isSet RED_HB_EN = true ∧ (s.pairOf p).isSome = true ∧ (s.port p).hbAt = none ∧ (s.port p).hbLost = false :=
  ⟨(ethUp.put RED_HB_EN 1).put (RED_PAIR_PORT_A 15) 34, 2, by decide +kernel⟩

theorem witness_EthernetCommandsComplete_held : ∃ (s : State) (p : Nat), s.portExists p = true ∧ s.portUp p = false ∧ (s.port p).since + ((10 * mtUs : Nat) : Int) ≤ s.mt ∧ ((s.port p).am = true ∨ (s.port p).localF = true) :=
  ⟨{ ethUp with ports := [(2, { localF := true, since := -1000000000000000 })] }, 2, by decide +kernel⟩

theorem witness_EthernetCommandsComplete_heldRemote : ∃ (s : State) (p : Nat), s.portExists p = true ∧ s.portUp p = false ∧ (s.port p).since + ((10 * mtUs : Nat) : Int) ≤ s.mt ∧ (s.port p).localF = false ∧ (s.port p).am = false ∧ (s.port p).remoteF = true :=
  ⟨{ ethUp with ports := [(2, { remoteF := true, since := -1000000000000000 })] }, 2, by decide +kernel⟩

theorem witness_EthernetCommandsComplete_side : ∃ (s u : State) (j : Nat) (v : Word), s.Opens ⟨0, 15, v⟩ (0x100100 + 4 * j) ∧ j < 16 ∧ s.pairFree j v.toNat = true ∧ bits v.toNat 31 26 = bits (s.rn (RED_PAIR j)) 31 26 ∧ bits v.toNat 23 18 = bits (s.rn (RED_PAIR j)) 23 18 ∧ u = s.mergeRaw (RED_PAIR j).key ⟨0, 15, w32 (setBits v.toNat 17 17 (bits (s.rn (RED_PAIR j)) 17 17))⟩ :=
  ⟨live, live.mergeRaw (RED_PAIR 15).key ⟨0, 15, 0#32⟩, 15, 0x00020000#32, by decide +kernel⟩

theorem witness_EthernetCommandsComplete_expiry : ∃ (s : State) (q : Nat), s.get (QUE_CFG4_DEST q) = 1 :=
  ⟨live.put (QUE_CFG4_DEST 9) 1, 9, by decide +kernel⟩

theorem witness_EthernetCommandsComplete_hostTx : ∃ (s u : State) (m : Nat) (w : Wr) (l : List HtxDesc), s.Opens w (0x11010C + 0x800 * m) ∧ u = s.mergeRaw (ETH_HTX_PI m).key w ∧ u.isSet (ETH_HTX_CTL_EN m) = true ∧ (u.func 0).bme = true :=
  ⟨ringsOn, ringsOn.mergeRaw (ETH_HTX_PI 1).key ⟨0, 15, 1#32⟩, 1, ⟨0, 15, 1#32⟩, [⟨2, 0, 0, List.replicate 60 0⟩], by decide +kernel⟩

theorem witness_EthernetCommandsComplete_hostRx : ∃ (s u : State) (m : Nat) (w : Wr) (l : List Nat), s.Opens w (0x11011C + 0x800 * m) ∧ u = s.mergeRaw (ETH_HRX_PI m).key w ∧ u.isSet (ETH_HRX_CTL_EN m) = true ∧ (u.func 0).bme = true :=
  ⟨ringsOn, ringsOn.mergeRaw (ETH_HRX_PI 1).key ⟨0, 15, 1#32⟩, 1, ⟨0, 15, 1#32⟩, [4096], by decide +kernel⟩

theorem witness_EthernetCommandsComplete_fault : ∃ (s : State) (p : Nat) (x : Port), s.portExists p = true ∧ s.sheetState (s.portSheet p) = 2 ∧ x = (if (s.port p).am || (s.port p).localF || (s.port p).remoteF then s.port p else { s.port p with since := s.mt }) :=
  ⟨(ethUp.put (LNE_SHEET_STAT_STATE 1) 2), 2, (if ((ethUp.put (LNE_SHEET_STAT_STATE 1) 2).port 2).am || ((ethUp.put (LNE_SHEET_STAT_STATE 1) 2).port 2).localF || ((ethUp.put (LNE_SHEET_STAT_STATE 1) 2).port 2).remoteF then (ethUp.put (LNE_SHEET_STAT_STATE 1) 2).port 2 else { (ethUp.put (LNE_SHEET_STAT_STATE 1) 2).port 2 with since := (ethUp.put (LNE_SHEET_STAT_STATE 1) 2).mt }), by decide +kernel⟩

theorem witness_PcieCommandsComplete_flr : ∃ (s : State) (fn : Nat), fn < 32 ∧ (s.func fn).present = true :=
  ⟨live.setFunc 31 { live.func 31 with present := true }, 31, by decide +kernel⟩

theorem witness_PcieCommandsComplete_vfs : ∃ (s : State) (n : Nat), n < 31 ∧ (∀ k < 32, (s.func k).present = decide (k ≤ n + 1)) :=
  ⟨live.setFunc 1 { live.func 1 with present := true }, 0, by decide +kernel⟩

theorem witness_PcieCommandsComplete_linkDown : ∃ (s : State), s.linkUp = true :=
  ⟨live, by decide +kernel⟩

theorem witness_PcieCommandsComplete_ptmStart : ∃ (s u : State) (w : Wr), s.Opens w 0x120 ∧ w.hits 30 = true ∧ u = s.mergeRaw SYS_PTM_CTL.key w ∧ u.isSet SYS_PTM_CTL_EN = true ∧ (u.func 0).ptmEn = true ∧ u.linkUp = true ∧ u.ptm = none :=
  ⟨ptmReady, ptmReady.mergeRaw SYS_PTM_CTL.key ⟨0, 15, 0xC0000000#32⟩, ⟨0, 15, 0xC0000000#32⟩, by decide +kernel⟩

theorem witness_PcieCommandsComplete_dialog : ∃ (s : State), s.ptmDue = true ∧ s.isSet SYS_PTM_CTL_EN = true ∧ (s.func 0).ptmEn = true ∧ s.linkUp = true ∧ s.ptm = none :=
  ⟨(ptmReady.put SYS_PTM_CTL_PERIOD 1).put SYS_PTM_CTL_EN 1, by decide +kernel⟩

theorem witness_PcieCommandsComplete_response : ∃ (s : State) (d : PtmDialog) (m x : Nat) (p : Nat × Nat × Nat), s.ptm = some d ∧ s.mt ≤ d.mt1 + ((100 * mtUs : Nat) : Int) ∧ p = mtParts (d.mt1 + ((x % 2 ^ 32 * mtNs : Nat) : Int)) :=
  ⟨{ live with ptm := some ⟨0, 2⟩ }, ⟨0, 2⟩, 5, 4294967295, mtParts 281474976645120, by decide +kernel⟩

theorem witness_PcieCommandsComplete_timeout : ∃ (s : State) (d : PtmDialog), s.ptm = some d ∧ d.mt1 + ((100 * mtUs : Nat) : Int) ≤ s.mt :=
  ⟨{ live with ptm := some ⟨-1000000000000, 2⟩ }, ⟨-1000000000000, 2⟩, by decide +kernel⟩

theorem witness_PcieCommandsComplete_moderation : ∃ (s : State) (fn v : Nat), (s.vec fn v).waiting = true ∧ s.vecBusy fn v = false ∧ s.vecBlocked fn v = false :=
  ⟨vecReady, 0, 2047, by decide +kernel⟩

theorem witness_PcieCommandsComplete_moderationHeld : ∃ (s : State) (fn v : Nat), (s.vec fn v).waiting = true ∧ s.vecBusy fn v = false ∧ s.vecBlocked fn v = true :=
  ⟨vecReady.setFunc 0 { live.func 0 with bme := false }, 0, 2047, by decide +kernel⟩

theorem witness_PcieCommandsComplete_unmask : ∃ (s : State) (fn v addr data : Nat) (m : Bool), fn < 32 ∧ (s.func fn).present = true ∧ s.linkUp = true ∧ v < vecCount fn :=
  ⟨live, 0, 2047, 5, 7, false, by decide +kernel⟩

theorem witness_PcieCommandsComplete_control : ∃ (s : State) (fn : Nat) (en fm : Bool), fn < 32 ∧ (s.func fn).present = true ∧ s.linkUp = true :=
  ⟨live, 0, true, false, by decide +kernel⟩

theorem witness_PcieCommandsComplete_master : ∃ (s : State) (fn : Nat) (ptm : Bool), fn < 32 ∧ (s.func fn).present = true ∧ s.linkUp = true :=
  ⟨live, 0, true
, by decide +kernel⟩

theorem witness_CommandPathsComplete_producer : ∃ (s : State) (r : Nat) (w : Wr) (d : List Byte), (s.func w.fn).held = none ∧ s.isSet SYS_START_READY = true ∧ w.be % 16 = 15 ∧ r < 4 :=
  ⟨live, 3, ⟨31, 15, 65535#32⟩, [], by decide +kernel⟩

theorem witness_CommandPathsComplete_consumer : ∃ (s : State) (r : Nat) (w : Wr), (s.func w.fn).held = none ∧ s.isSet SYS_START_READY = true ∧ w.be % 16 = 15 ∧ r < 4 ∧ s.isSet (BRG_CRING_CTL_EN w.fn r) = true ∧ (s.get (BRG_CPL_PI_V w.fn r) + 65536 - w.v.toNat % 65536) % 65536 ≤ s.cplSize w.fn r :=
  ⟨live.put (BRG_CRING_CTL_EN 31 3) 1, 3, ⟨31, 15, 0#32⟩, by decide +kernel⟩

theorem witness_CommandPathsComplete_bad : ∃ (s : State) (r : Nat) (w : Wr), (s.func w.fn).held = none ∧ s.isSet SYS_START_READY = true ∧ w.be % 16 = 15 ∧ r < 4 ∧ s.isSet (BRG_CRING_CTL_EN w.fn r) = false :=
  ⟨live, 3, ⟨31, 15, 0#32⟩, by decide +kernel⟩

theorem witness_CommandPathsComplete_envelope : ∃ (s : State) (port addr udp b c : Nat) (l pkt : List Byte), s.isSet CMD_UDP_EN = true ∧ s.engineShut = false ∧ s.envelopeOver l = none ∧ s.openEnvelope l = some (b, 1, c, pkt) ∧ (s.env b).fresh c = true :=
  ⟨keyed, 2, 5, 7, 31, 1, anEnvelope, shortPacket, by decide +kernel⟩

theorem witness_CommandPathsComplete_replayed : ∃ (s : State) (port addr udp b c : Nat) (l pkt : List Byte), s.isSet CMD_UDP_EN = true ∧ s.engineShut = false ∧ s.envelopeOver l = none ∧ s.openEnvelope l = some (b, 1, c, pkt) ∧ (s.env b).fresh c = false :=
  ⟨{ keyed with envs := [(31, { high := 1, seen := [1] })] }, 2, 5, 7, 31, 1, anEnvelope, shortPacket, by decide +kernel⟩

theorem witness_CommandPathsComplete_keyLoad : ∃ (s u : State) (w : Wr), s.Opens w CMD_KEY_CTL.key ∧ w.hits 31 = true ∧ w.hits 30 = false ∧ u = s.mergeRaw CMD_KEY_CTL.key w :=
  ⟨live, live.mergeRaw CMD_KEY_CTL.key ⟨0, 15, 0x8000001F#32⟩, ⟨0, 15, 0x8000001F#32⟩, by decide +kernel⟩

theorem witness_CommandPathsComplete_keyClear : ∃ (s u : State) (w : Wr), s.Opens w CMD_KEY_CTL.key ∧ w.hits 31 = false ∧ w.hits 30 = true ∧ u = s.mergeRaw CMD_KEY_CTL.key w :=
  ⟨live, live.mergeRaw CMD_KEY_CTL.key ⟨0, 15, 0x4000001F#32⟩, ⟨0, 15, 0x4000001F#32⟩, by decide +kernel⟩

theorem witness_CommandPathsComplete_ringOn : ∃ (s : State) (b r : Nat) (v : Word), b < 32 ∧ r < 4 ∧ (s.func b).held = none ∧ s.shut 0x84000 = false ∧ bit (s.rn (BRG_CRING_CTL b r)) 31 = false ∧ bits v.toNat 26 16 < vecCount b ∧ bit v.toNat 31 = true :=
  ⟨live, 31, 3, 0x80000000#32, by decide +kernel⟩

theorem witness_CommandPathsComplete_reset : ∃ (s u : State) (b : Nat) (w : Wr), s.Opens w 0x80100 ∧ b < 32 ∧ w.hits 31 = true ∧ u = s.mergeRaw (BRG_CTL b).key w ∧ 1 ≤ b ∧ u.get (BRG_STAT_STATE b) = 0 :=
  ⟨live, live.mergeRaw (BRG_CTL 31).key ⟨0, 15, 0x80000000#32⟩, 31, ⟨0, 15, 0x80000000#32⟩, by decide +kernel⟩

theorem witness_CommandPathsComplete_resetTenant : ∃ (s : State) (b : Nat) (w : Wr), w.fn = b ∧ b ≠ 0 ∧ (s.func b).held = none ∧ s.shut 0x80100 = false ∧ b < 32 ∧ w.hits 31 = true ∧ s.get (BRG_STAT_STATE b) = 0 :=
  ⟨live, 31, ⟨31, 15, 0x80000000#32⟩, by decide +kernel⟩

theorem witness_CommandPathsComplete_done : ∃ (s : State) (b : Nat), s.get (BRG_STAT_STATE b) = 1 :=
  ⟨live.put (BRG_STAT_STATE 31) 1, 31, by decide +kernel⟩

theorem witness_CommandPathsComplete_delivery : ∃ (s : State) (i n : Nat) (w : Wr), (s.func w.fn).held = none ∧ s.isSet SYS_START_READY = true ∧ w.be % 16 = 15 ∧ i < 4096 ∧ (s.delivery w.fn i).on = true ∧ n = (w.v.toNat + 2 ^ 32 - (s.delivery w.fn i).taken % 2 ^ 32) % 2 ^ 32 ∧ (s.delivery w.fn i).taken + n ≤ (s.delivery w.fn i).total :=
  ⟨{ live with delivers := [(4095, { on := true, total := 4294967301, taken := 4294967290 })] }, 4095, 11, ⟨0, 15, 5#32⟩, by decide +kernel⟩

theorem witness_CommandPathsComplete_overRate : ∃ (s : State) (port addr udp b : Nat) (l : List Byte), s.isSet CMD_UDP_EN = true ∧ s.engineShut = false ∧ s.envelopeOver l = some b :=
  ⟨{ keyed.put (BRG_CTL_CMDRATE 31) 1 with rates := [(31, { window := 0, count := 1 })] }, 2, 5, 7, 31, anEnvelope, by decide +kernel⟩

theorem witness_EventCommandsComplete_source : ∃ (s : State) (w : Wr), (s.func w.fn).held = none ∧ s.isSet SYS_START_READY = true ∧ w.be % 16 = 15 ∧ w.fn ≠ 0 ∧ bits w.v.toNat 8 0 ≤ 287 :=
  ⟨live, ⟨31, 15, 0x8000011F#32⟩, by decide +kernel⟩

theorem witness_EventCommandsComplete_sourceBad : ∃ (s : State) (w : Wr), (s.func w.fn).held = none ∧ s.isSet SYS_START_READY = true ∧ w.be % 16 = 15 ∧ w.fn ≠ 0 ∧ 287 < bits w.v.toNat 8 0 :=
  ⟨live, ⟨31, 15, 0x80000120#32⟩, by decide +kernel⟩

theorem witness_EventCommandsComplete_all : ∃ (s : State) (w : Wr), (s.func w.fn).held = none ∧ s.isSet SYS_START_READY = true ∧ w.be % 16 = 15 ∧ w.fn ≠ 0 :=
  ⟨live, ⟨31, 15, 1#32⟩, by decide +kernel⟩

theorem witness_EventCommandsComplete_window : ∃ (s : State) (x : EvWindow) (r : List EvWindow), s.windows = x :: r ∧ x.ends ≤ s.mt :=
  ⟨{ live with windows := [⟨0, 256, 256, 65535, 0, 0, ⟨256, 256, 65535, 0, 0, 0, 0, 1, []⟩⟩] }, ⟨0, 256, 256, 65535, 0, 0, ⟨256, 256, 65535, 0, 0, 0, 0, 1, []⟩⟩, [], by decide +kernel⟩

theorem witness_EventCommandsComplete_windowQuiet : ∃ (s : State) (x : EvWindow) (r : List EvWindow), s.windows = x :: r ∧ x.ends ≤ s.mt ∧ x.count = 0 ∧ x ∉ r :=
  ⟨{ live with windows := [⟨0, 256, 256, 65535, 0, 0, ⟨256, 256, 65535, 0, 0, 0, 0, 1, []⟩⟩] }, ⟨0, 256, 256, 65535, 0, 0, ⟨256, 256, 65535, 0, 0, 0, 0, 1, []⟩⟩, [], by decide +kernel⟩

theorem witness_EventCommandsComplete_pending : ∃ (s : State) (k : Nat) (w : Wr), s.Opens w (0x51800 + 4 * k) ∧ k < 9 :=
  ⟨live, 8, ⟨0, 15, 5#32⟩, by decide +kernel⟩

theorem witness_EventCommandsComplete_write : ∃ (s : State) (i : StageItem), s.isSet LOG_STAT_READY = true ∧ s.stageNext = some i ∧ s.logRepeats i = none ∧ s.log.slots.length < logSlots ∧ s.isSet LOG_STAT_STOPPED = false :=
  ⟨logReady, ⟨⟨256, 256, 65535, 0, 0, 0, 0, 1, []⟩, 2, false⟩, by decide +kernel⟩

theorem witness_EventCommandsComplete_full : ∃ (s : State) (i : StageItem), s.isSet LOG_STAT_READY = true ∧ s.stageNext = some i ∧ s.logRepeats i = none ∧ s.isSet LOG_STAT_STOPPED = true :=
  ⟨logReady.put LOG_STAT_STOPPED 1, ⟨⟨256, 256, 65535, 0, 0, 0, 0, 1, []⟩, 2, false⟩, by decide +kernel⟩

theorem witness_EventCommandsComplete_scan : ∃ (s : State), s.isSet LOG_STAT_READY = false :=
  ⟨State.reset, by decide +kernel⟩

theorem witness_EventCommandsComplete_empty : ∃ (s : State) (fails : Nat), s.isSet LOG_STAT_READY = true ∧ s.stageQ = [] :=
  ⟨live.put LOG_STAT_READY 1, 0, by decide +kernel⟩

theorem witness_GazetteerCommandsComplete_copy : ∃ (s : State) (d e : Nat) (r : List Nat) (x : GazSend) (y : GazEntry) (sl gen : Nat) (c : GazCopy), s.gazSend d = some x ∧ x.isOver = false ∧ s.gazLeft d x.next = e :: r ∧ s.gazEntry e = some y ∧ s.mt ≤ x.act - ((2 * mtUs : Nat) : Int) ∧ s.copyDue = true ∧ sl = ((List.range 4).find? (fun i => y.dists.getD i 0 == d)).getD 0 ∧ gen = (bits y.gens (4 * sl + 3) (4 * sl) + 1) % 16 ∧ c = { e := e, relay := y.kind == 3, tag := 0xFFFC + sl, gen := gen, last := s.mt } :=
  ⟨gazOpen, 9, 77, [], gazSend0, gazEntry0, 0, 1, ⟨77, false, 65532, 1, live.mt, false⟩, by decide +kernel⟩

theorem witness_GazetteerCommandsComplete_late : ∃ (s : State) (d e : Nat) (r : List Nat) (x : GazSend) (y : GazEntry), s.gazSend d = some x ∧ x.isOver = false ∧ s.gazLeft d x.next = e :: r ∧ s.gazEntry e = some y ∧ x.act - ((2 * mtUs : Nat) : Int) < s.mt :=
  ⟨{ gazOpen with gazSends := [(9, some { gazSend0 with act := 0 })] }, 9, 77, [], { gazSend0 with act := 0 }, gazEntry0, by decide +kernel⟩

theorem witness_GazetteerCommandsComplete_retry : ∃ (s : State) (d e : Nat) (x : GazSend) (c : GazCopy) (y : GazEntry), s.gazSend d = some x ∧ x.copies.find? (fun k => k.e == e) = some c ∧ s.gazEntry e = some y ∧ x.isOver = false ∧ c.done = false ∧ c.last + ((x.retry * mtMs : Nat) : Int) ≤ s.mt :=
  ⟨{ gazOpen with gazSends := [(9, some { gazSend0 with copies := [⟨77, false, 65532, 1, -1000000000000000, false⟩] })] }, 9, 77, { gazSend0 with copies := [⟨77, false, 65532, 1, -1000000000000000, false⟩] }, ⟨77, false, 65532, 1, -1000000000000000, false⟩, gazEntry0, by decide +kernel⟩

theorem witness_GazetteerCommandsComplete_outcome : ∃ (s : State) (e c : Nat) (env r : List Byte), s.openEnvelope env = some (0, 2, c, r) :=
  ⟨{ live with keys := [(0, List.replicate 32 1#8)] }, 77, 1, anOutcome, shortPacket, by decide +kernel⟩

theorem witness_GazetteerCommandsComplete_forged : ∃ (s : State) (e : Nat) (env : List Byte), s.openEnvelope env = none :=
  ⟨live, 77, [], by decide +kernel⟩

theorem witness_GazetteerCommandsComplete_collect : ∃ (s : State) (d : Nat) (x : GazSend), s.gazSend d = some x ∧ x.isOver = false ∧ x.act + ((x.collect * mtMs : Nat) : Int) ≤ s.mt :=
  ⟨{ gazOpen with gazSends := [(9, some { gazSend0 with act := -1000000000000000 })] }, 9, { gazSend0 with act := -1000000000000000 }, by decide +kernel⟩

theorem witness_GazetteerCommandsComplete_report : ∃ (s : State) (l : List Byte), s.isSet GAZ_FR_EN = true ∧ s.reportOk l = true ∧ s.digestOf (leNat ((l.drop 12).take 4)) (leNat ((l.drop 5).take 1)) = none :=
  ⟨{ live.put GAZ_FR_EN 1 with keys := [(0, List.replicate 32 1#8)] }, aReport, by decide +kernel⟩

theorem witness_GazetteerCommandsComplete_reportBad : ∃ (s : State) (l : List Byte), s.isSet GAZ_FR_EN = true ∧ s.reportOk l = false :=
  ⟨live.put GAZ_FR_EN 1, [], by decide +kernel⟩

theorem witness_GazetteerCommandsComplete_close : ∃ (s : State) (u c : Nat) (x : Digest), s.digestOf u c = some x ∧ x.closes ≤ s.mt :=
  ⟨{ live with digests := [⟨7, 1, 0, 0, 0, [5], 1, 0, false⟩] }, 7, 1, ⟨7, 1, 0, 0, 0, [5], 1, 0, false⟩
, by decide +kernel⟩

theorem witness_PowerCommandsComplete_down : ∃ (s u : State) (d : Nat) (w : Wr), s.Opens w (0x10100 + 4 * d) ∧ d ≤ 96 ∧ w.hits 31 = true ∧ w.hits 30 = false ∧ u = s.mergeRaw (PWR_DOM d).key w ∧ u.get (PWR_DOM_STATE d) = 0 ∧ u.domainInUse d = false :=
  ⟨live, live.mergeRaw (PWR_DOM 25).key ⟨0, 15, 0x80000000#32⟩, 25, ⟨0, 15, 0x80000000#32⟩, by decide +kernel⟩

theorem witness_PowerCommandsComplete_inUse : ∃ (s u : State) (d : Nat) (w : Wr), s.Opens w (0x10100 + 4 * d) ∧ d ≤ 96 ∧ w.hits 31 = true ∧ w.hits 30 = false ∧ u = s.mergeRaw (PWR_DOM d).key w ∧ u.get (PWR_DOM_STATE d) = 0 ∧ u.domainInUse d = true :=
  ⟨(live.put TB_DISC_SRC 2).put TB_DISC_SHEET 1, ((live.put TB_DISC_SRC 2).put TB_DISC_SHEET 1).mergeRaw (PWR_DOM 25).key ⟨0, 15, 0x80000000#32⟩, 25, ⟨0, 15, 0x80000000#32⟩, by decide +kernel⟩

theorem witness_PowerCommandsComplete_up : ∃ (s u : State) (d : Nat) (w : Wr), s.Opens w (0x10100 + 4 * d) ∧ d ≤ 96 ∧ d ≠ 93 ∧ w.hits 31 = false ∧ w.hits 30 = true ∧ u = s.mergeRaw (PWR_DOM d).key w ∧ u.get (PWR_DOM_STATE d) = 2 :=
  ⟨live.put (PWR_DOM_STATE 80) 2, (live.put (PWR_DOM_STATE 80) 2).mergeRaw (PWR_DOM 80).key ⟨0, 15, 0x40000000#32⟩, 80, ⟨0, 15, 0x40000000#32⟩, by decide +kernel⟩

theorem witness_PowerCommandsComplete_drained : ∃ (s : State) (d : Nat), s.get (PWR_DOM_STATE d) = 1 ∧ d ≠ 95 ∧ s.domDrained d = true :=
  ⟨live.put (PWR_DOM_STATE 25) 1, 25, by decide +kernel⟩

theorem witness_PowerCommandsComplete_drainFail : ∃ (s : State) (d : Nat), s.get (PWR_DOM_STATE d) = 1 ∧ s.domPassed d 100000 = true :=
  ⟨live.put (PWR_DOM_STATE 25) 1, 25, by decide +kernel⟩

theorem witness_PowerCommandsComplete_woken : ∃ (s : State) (d : Nat), s.get (PWR_DOM_STATE d) = 3 ∧ d ≠ 93 :=
  ⟨live.put (PWR_DOM_STATE 25) 3, 25, by decide +kernel⟩

theorem witness_PowerCommandsComplete_wakeFail : ∃ (s : State) (d : Nat), s.get (PWR_DOM_STATE d) = 3 ∧ s.domPassed d (2 * wakeTime d) = true :=
  ⟨live.put (PWR_DOM_STATE 25) 3, 25, by decide +kernel⟩

theorem witness_PowerCommandsComplete_corrected : ∃ (s : State) (p : Nat), mapGet ({} : EngErr) p s.engErrs = {} :=
  ⟨live, 5, by decide +kernel⟩

theorem witness_PowerCommandsComplete_slot : ∃ (s u : State) (n : Nat), n < 1024 ∧ s.retiredSlots.contains n = false ∧ s.failingSlots.contains n = false ∧ u = (({ s with failingSlots := n :: s.failingSlots } : State).raise evPWR_SLOT_FAIL n) ∧ (u.spareSlot n).isSome = true :=
  ⟨live, ({ live with failingSlots := [1023] } : State).raise evPWR_SLOT_FAIL 1023, 1023, by decide +kernel⟩

theorem witness_PowerCommandsComplete_core : ∃ (s u : State) (k a : Nat), k < 5 ∧ s.get (PWR_CORE_STATE k) = 0 ∧ u = ((s.put (PWR_CORE_STATE k) 2).raise evPWR_CORE_FAIL k).finishCmd a 0x11 [] ∧ u.sparesLeft 8 ≠ 0 :=
  ⟨live, ((live.put (PWR_CORE_STATE 0) 2).raise evPWR_CORE_FAIL 0).finishCmd 5 0x11 [], 0, 5, by decide +kernel⟩

theorem witness_PowerCommandsComplete_dog : ∃ (s : State) (k : Nat), k < 5 ∧ s.get (PWR_CORE_STATE k) = 0 ∧ mapGet none k s.coreDog = none :=
  ⟨live, 3
, by decide +kernel⟩

theorem witness_StartCommandsComplete_xo : ∃ (s : State), s.tb.locked = false ∧ s.porLow = false ∧ s.start.aonLow = false :=
  ⟨State.reset, by decide +kernel⟩

theorem witness_StartCommandsComplete_stacks : ∃ (s u : State), s.tb.locked = true ∧ s.isSet SYS_START_READY = false ∧ s.isSet SYS_START_WARM_ACT = false ∧ s.start.trained = [] ∧ u = (List.range 6).foldl (fun (s : State) n => s.put CLK_STAT_STACK_LOCK (s.get CLK_STAT_STACK_LOCK ||| 2 ^ n)) s :=
  ⟨starting, (List.range 6).foldl (fun (s : State) n => s.put CLK_STAT_STACK_LOCK (s.get CLK_STAT_STACK_LOCK ||| 2 ^ n)) starting, by decide +kernel⟩

theorem witness_StartCommandsComplete_start : ∃ (s u : State), s.tb.locked = true ∧ s.isSet SYS_START_READY = false ∧ s.isSet SYS_START_WARM_ACT = false ∧ s.start.trained ≠ [] ∧ s.isSet LOG_STAT_READY = true ∧ s.isSet CAL_STAT_LOAD_DONE = true ∧ (List.range 18).any (fun p => s.isSet (TIM_CORE_STAT_RUNNING p)) = false ∧ s.start.warmHeld = none ∧ u = (List.range s.part.part.dies).foldl (fun (s : State) d => s.put (CNV_DIE_STAT_LINK_UP d) 1) s :=
  ⟨started, (List.range started.part.part.dies).foldl (fun (s : State) d => s.put (CNV_DIE_STAT_LINK_UP d) 1) started, by decide +kernel⟩

theorem witness_StartCommandsComplete_warmN : ∃ (s : State), s.porLow = false ∧ s.start.aonLow = false ∧ s.isSet SYS_START_WARM_ACT = false :=
  ⟨live, by decide +kernel⟩

theorem witness_StartCommandsComplete_warmReg : ∃ (s : State) (v : Word), s.Opens ⟨0, 15, v⟩ SYS_RST_CTL.key ∧ v.toNat % 65536 = 0xA5C3 ∧ bit v.toNat 31 = true ∧ s.porLow = false ∧ s.start.aonLow = false ∧ s.isSet SYS_START_WARM_ACT = false ∧ s.isSet SYS_START_READY = true :=
  ⟨live, 0x8000A5C3#32, by decide +kernel⟩

theorem witness_StartCommandsComplete_restart : ∃ (s : State) (v : Word), s.Opens ⟨0, 15, v⟩ SYS_RST_CTL.key ∧ v.toNat % 65536 = 0xA5C3 ∧ bit v.toNat 31 = false ∧ bit v.toNat 30 = true :=
  ⟨live, 0x4000A5C3#32, by decide +kernel⟩

theorem witness_StartCommandsComplete_key : ∃ (s : State) (v : Word), s.Opens ⟨0, 15, v⟩ SYS_RST_CTL.key ∧ v.toNat % 65536 ≠ 0xA5C3 :=
  ⟨live, 0xC000A5C2#32, by decide +kernel⟩

theorem witness_StartCommandsComplete_warmDone : ∃ (s : State), s.isSet SYS_START_WARM_ACT = true :=
  ⟨live.put SYS_START_WARM_ACT 1, by decide +kernel⟩

theorem witness_StartCommandsComplete_fwRunning : ∃ (s : State), s.get SYS_BOOT_FW = 1 :=
  ⟨live.put SYS_BOOT_FW 1, by decide +kernel⟩

theorem witness_StartCommandsComplete_fwDog : ∃ (s u : State), s.get SYS_BOOT_FW = 1 ∧ s.start.fwAt + ((500 * mtMs : Nat) : Int) ≤ s.mt ∧ u = s.raise evSYS_FW_WATCHDOG ∧ (s.start.second = true ∨ s.imageOk (2 - s.get SYS_BOOT_RUN) = false) :=
  ⟨({ live.put SYS_BOOT_FW 1 with start := { second := true, fwAt := -1000000000000000 } } : State), ({ live.put SYS_BOOT_FW 1 with start := { second := true, fwAt := -1000000000000000 } } : State).raise evSYS_FW_WATCHDOG, by decide +kernel⟩

theorem witness_StartCommandsComplete_fwOther : ∃ (s u : State), s.get SYS_BOOT_FW = 1 ∧ s.start.fwAt + ((500 * mtMs : Nat) : Int) ≤ s.mt ∧ u = s.raise evSYS_FW_WATCHDOG ∧ s.start.second = false ∧ s.imageOk (2 - s.get SYS_BOOT_RUN) = true :=
  ⟨({ imaged with start := { fwAt := -1000000000000000 } } : State), ({ imaged with start := { fwAt := -1000000000000000 } } : State).raise evSYS_FW_WATCHDOG, by decide +kernel⟩

theorem witness_StartCommandsComplete_fwStarted : ∃ (s : State), s.start.restart = true :=
  ⟨{ live with start := { restart := true } }, by decide +kernel⟩

theorem witness_StartCommandsComplete_verify : ∃ (s u : State) (w : Wr), s.Opens w SYS_IMG_CTL.key ∧ u = s.mergeRaw SYS_IMG_CTL.key w ∧ w.hits 31 = true :=
  ⟨live, live.mergeRaw SYS_IMG_CTL.key ⟨0, 15, 0x80000001#32⟩, ⟨0, 15, 0x80000001#32⟩, by decide +kernel⟩

theorem witness_StartCommandsComplete_gateIn : ∃ (s : State) (d : Int), s.isSet CLK_STAT_REFCLK_OK = true ∧ d.natAbs ≤ 5000 :=
  ⟨live.put CLK_STAT_REFCLK_OK 1, -5000, by decide +kernel⟩

theorem witness_StartCommandsComplete_gateOut : ∃ (s u : State) (d : Int), s.isSet CLK_STAT_REFCLK_OK = true ∧ 5000 < d.natAbs ∧ u = s.wn CLK_REFCLK_DEV (toBits 32 d) ∧ u.isSet CLK_STAT_REFCLK_IN_RANGE = true :=
  ⟨(live.put CLK_STAT_REFCLK_OK 1).put CLK_STAT_REFCLK_IN_RANGE 1, ((live.put CLK_STAT_REFCLK_OK 1).put CLK_STAT_REFCLK_IN_RANGE 1).wn CLK_REFCLK_DEV 4294962295, -5001, by decide +kernel⟩

theorem witness_StartCommandsComplete_refLost : ∃ (s : State), s.isSet CLK_STAT_REFCLK_OK = true :=
  ⟨live.put CLK_STAT_REFCLK_OK 1, by decide +kernel⟩

theorem witness_StartCommandsComplete_refBack : ∃ (s : State), s.isSet CLK_STAT_REFCLK_OK = false ∧ s.part.part ≠ .q768n :=
  ⟨live.put CLK_STAT_REFCLK_OK 0, by decide +kernel⟩

theorem witness_StartCommandsComplete_pcieLost : ∃ (s : State), s.isSet CLK_STAT_PCIE_REFCLK_OK = true :=
  ⟨live.put CLK_STAT_PCIE_REFCLK_OK 1, by decide +kernel⟩

theorem witness_StartCommandsComplete_unlock : ∃ (s : State) (k : Nat), k < 12 :=
  ⟨live, 11, by decide +kernel⟩

theorem witness_StartCommandsComplete_relock : ∃ (s : State) (k : Nat), k < 12 ∧ (k < 2 ∨ 8 ≤ k) ∧ s.isSet ⟨CLK_STAT, pllBit k, pllBit k⟩ = false ∧ s.tb.locked = true :=
  ⟨live.put ⟨CLK_STAT, 19, 19⟩ 0, 11
, by decide +kernel⟩

theorem witness_ManagementCommandsComplete_go : ∃ (s u : State) (w : Wr), s.Opens w 0x120010 ∧ w.hits 31 = true ∧ u = s.mergeRaw MGB_XFER.key w ∧ u.awake 94 = true ∧ u.mgb.running = false ∧ u.isSet (MGB_BUS_CTL_EN (u.get MGB_XFER_BUS)) = true :=
  ⟨busOn, busOn.mergeRaw MGB_XFER.key ⟨0, 15, 0x80000000#32⟩, ⟨0, 15, 0x80000000#32⟩, by decide +kernel⟩

theorem witness_ManagementCommandsComplete_disabled : ∃ (s u : State) (w : Wr), s.Opens w 0x120010 ∧ w.hits 31 = true ∧ u = s.mergeRaw MGB_XFER.key w ∧ u.awake 94 = true ∧ u.mgb.running = false ∧ u.isSet (MGB_BUS_CTL_EN (u.get MGB_XFER_BUS)) = false :=
  ⟨busOn.put (MGB_BUS_CTL_EN 0) 0, (busOn.put (MGB_BUS_CTL_EN 0) 0).mergeRaw MGB_XFER.key ⟨0, 15, 0x80000000#32⟩, ⟨0, 15, 0x80000000#32⟩, by decide +kernel⟩

theorem witness_ManagementCommandsComplete_done : ∃ (s u : State) (c n : Nat) (d : List Byte), s.mgb.running = true ∧ (c = 0 ∨ (2 ≤ c ∧ c ≤ 7)) ∧ u = ({ s with mgb := { s.mgb with running := false } } : State).put MGB_XFER_GO 0 :=
  ⟨{ busOn with mgb := { running := true } }, ({ busOn with mgb := {} } : State).put MGB_XFER_GO 0, 7, 3, [1#8], by decide +kernel⟩

theorem witness_ManagementCommandsComplete_poll : ∃ (s u : State) (i c v : Nat), i < 16 ∧ s.isSet (MGB_POLL_VALID i) = true ∧ s.get SYS_BOOT_FW = 2 ∧ s.awake 94 = true ∧ s.mgb.polled = [] ∧ s.isSet (MGB_BUS_CTL_EN (s.get (MGB_POLL_BUS i))) = true ∧ c = 0 ∧ s.isSet (MGB_POLL_WORD i) = true ∧ u = s.emit (.mgBus (s.get (MGB_POLL_BUS i)) (s.get (MGB_POLL_ADDR i)) (s.isSet (MGB_BUS_CTL_PEC (s.get (MGB_POLL_BUS i))))
      (leBytes 1 (s.get (MGB_POLL_CMD i))) 2) :=
  ⟨(((busOn.put (MGB_POLL_VALID 15) 1).put (MGB_POLL_WORD 15) 1).put SYS_BOOT_FW 2), (((busOn.put (MGB_POLL_VALID 15) 1).put (MGB_POLL_WORD 15) 1).put SYS_BOOT_FW 2).emit (.mgBus ((((busOn.put (MGB_POLL_VALID 15) 1).put (MGB_POLL_WORD 15) 1).put SYS_BOOT_FW 2).get (MGB_POLL_BUS 15)) ((((busOn.put (MGB_POLL_VALID 15) 1).put (MGB_POLL_WORD 15) 1).put SYS_BOOT_FW 2).get (MGB_POLL_ADDR 15)) ((((busOn.put (MGB_POLL_VALID 15) 1).put (MGB_POLL_WORD 15) 1).put SYS_BOOT_FW 2).isSet (MGB_BUS_CTL_PEC ((((busOn.put (MGB_POLL_VALID 15) 1).put (MGB_POLL_WORD 15) 1).put SYS_BOOT_FW 2).get (MGB_POLL_BUS 15)))) (leBytes 1 ((((busOn.put (MGB_POLL_VALID 15) 1).put (MGB_POLL_WORD 15) 1).put SYS_BOOT_FW 2).get (MGB_POLL_CMD 15))) 2), 15, 0, 65537, by decide +kernel⟩

theorem witness_ManagementCommandsComplete_alert : ∃ (s : State) (a : Option Nat), s.isSet MGB_ALERT_CTL_EN = true ∧ s.awake 94 = true :=
  ⟨(busOn.put MGB_ALERT_CTL_EN 1).put (MGB_BUS_CTL_ALERT 0) 1, some 0x48, by decide +kernel⟩

theorem witness_ManagementCommandsComplete_again : ∃ (s : State) (t : Int) (a : Option Nat), s.mgb.alertAt = some t ∧ s.isSet MGB_ALERT_CTL_EN = true ∧ s.awake 94 = true ∧ t + ((s.get MGB_ALERT_CTL_PER * mtMs : Nat) : Int) ≤ s.mt :=
  ⟨{ busOn.put MGB_ALERT_CTL_EN 1 with mgb := { alertAt := some (-1000000000000000) } }, -1000000000000000, none, by decide +kernel⟩

theorem witness_ManagementCommandsComplete_high : ∃ (s : State) (t : Int) (a : Option Nat), s.mgb.alertAt = some t :=
  ⟨{ busOn with mgb := { alertAt := some 0 } }, 0, none, by decide +kernel⟩

theorem witness_ManagementCommandsComplete_signal : ∃ (s u : State) (n : Nat) (w : Wr), s.Opens w (0x120100 + 0x10 * n) ∧ s.trgDrives n = false ∧ bits (merged (s.rn (MGB_SIG_CFG n)) w) 31 30 = 0 ∧ u = s.mergeRaw (MGB_SIG_CFG n).key w ∧ bits (u.rn (MGB_SIG_CFG n)) 31 30 = bits (s.rn (MGB_SIG_CFG n)) 31 30 ∧ u.get (MGB_SIG_CFG_MODE n) = 0 ∧ u.awake 94 = true :=
  ⟨busOn, busOn.mergeRaw (MGB_SIG_CFG 31).key ⟨0, 15, 0#32⟩, 31, ⟨0, 15, 0#32⟩, by decide +kernel⟩

theorem witness_ManagementCommandsComplete_push : ∃ (s u : State) (w : Wr), s.Opens w 0x120080 ∧ w.hits 31 = true ∧ u = s.mergeRaw MGB_EDGE_CTL.key w ∧ u.awake 94 = true :=
  ⟨busOn, busOn.mergeRaw MGB_EDGE_CTL.key ⟨0, 15, 0x80000000#32⟩, ⟨0, 15, 0x80000000#32⟩, by decide +kernel⟩

theorem witness_ManagementCommandsComplete_fire : ∃ (s : State) (n : Nat) (l : Bool) (t : Int) (r : List (Bool × Int)), (s.sig n).edges = (l, t) :: r ∧ t ≤ s.mt ∧ s.awake 94 = true :=
  ⟨{ busOn with sigs := [(31, { edges := [(true, 0)] })] }, 31, true, 0, [], by decide +kernel⟩

theorem witness_ManagementCommandsComplete_marker : ∃ (s : State) (n : Nat), s.get (MGB_SIG_CFG_MODE n) = 2 ∧ s.markAt n (s.sig n).markF ≤ 5 * s.mt ∧ s.awake 94 = true :=
  ⟨(busOn.put (MGB_SIG_CFG_MODE 31) 2).put (MGB_SIG_CFG_WIDTH 31) 5, 31, by decide +kernel⟩

theorem witness_ManagementCommandsComplete_markerEnd : ∃ (s : State) (n : Nat) (t : Int), (s.sig n).markTo = some t ∧ t ≤ s.mt ∧ s.awake 94 = true :=
  ⟨{ busOn with sigs := [(31, { markTo := some 0 })] }, 31, 0, by decide +kernel⟩

theorem witness_ConfigOpcodesComplete_ident : ∃ (s u : State) (p : Packet), s.Admits 0x0101 false p ∧ u = s.begun p ∧ Packet.sized p 0 = true :=
  ⟨ready, (ready).begun (cmd 0x0101 []), (cmd 0x0101 []), by decide +kernel⟩

theorem witness_ConfigOpcodesComplete_hubId : ∃ (s u : State) (p : Packet), s.Admits 0x0102 false p ∧ u = s.begun p ∧ Packet.sized p 4 = true ∧ Packet.wordsOk p 0
  [SYS_HUB_ID] = true ∧ p.borough % 32 = 0 ∧ u.hubIdHeld = false :=
  ⟨ready, (ready).begun (cmd 0x0102 [5#32]), (cmd 0x0102 [5#32]), by decide +kernel⟩

theorem witness_ConfigOpcodesComplete_keyLoad : ∃ (s u : State) (p : Packet), s.Admits 0x0103 false p ∧ u = s.begun p ∧ Packet.sized p 36 = true ∧ Packet.word p 0 < 32 ∧ p.borough % 32 = 0 :=
  ⟨ready, (ready).begun (cmd 0x0103 (31#32 :: List.replicate 8 7#32)), (cmd 0x0103 (31#32 :: List.replicate 8 7#32)), by decide +kernel⟩

theorem witness_ConfigOpcodesComplete_keyClear : ∃ (s u : State) (p : Packet), s.Admits 0x0104 false p ∧ u = s.begun p ∧ Packet.sized p 4 = true ∧ Packet.word p 0 < 32 ∧ p.borough % 32 = 0 :=
  ⟨ready, (ready).begun (cmd 0x0104 [31#32]), (cmd 0x0104 [31#32]), by decide +kernel⟩

theorem witness_ConfigOpcodesComplete_keyOwn : ∃ (s u : State) (p : Packet), s.Admits 0x0105 false p ∧ u = s.begun p ∧ Packet.sized p 32 = true :=
  ⟨ready, (ready).begun (cmd 0x0105 (List.replicate 8 7#32)), (cmd 0x0105 (List.replicate 8 7#32)), by decide +kernel⟩

theorem witness_ConfigOpcodesComplete_udp : ∃ (s u : State) (p : Packet), s.Admits 0x0106 false p ∧ u = s.begun p ∧ Packet.sized p 4 = true ∧ Packet.wordsOk p 0 [CMD_UDP] =
  true ∧ portWordOk (Packet.word p 0) = true ∧ p.borough % 32 = 0 :=
  ⟨ready, (ready).begun (cmd 0x0106 [0#32]), (cmd 0x0106 [0#32]), by decide +kernel⟩

theorem witness_ConfigOpcodesComplete_regRead : ∃ (s u : State) (p : Packet) (off n : Nat), s.Admits 0x0107 false p ∧ u = s.begun p ∧ Packet.sized p 8 = true ∧ Packet.arg p 6 2
  = 0 ∧ off = Packet.arg p 0 4 ∧ n = Packet.arg p 4 2 ∧ 1 ≤ n ∧ n ≤ 1000 ∧ p.borough % 32 = 0 ∧ (∀ i < n, u.cfgReaches (off + 4
  * i) = true) ∧ (∀ i < n, readActs (off + 4 * i) = false) :=
  ⟨ready, (ready).begun (cmd 0x0107 [0x3000C#32, 1#32]), (cmd 0x0107 [0x3000C#32, 1#32]), 0x3000C, 1, by decide +kernel⟩

theorem witness_ConfigOpcodesComplete_regWrite : ∃ (s u : State) (p : Packet), s.Admits 0x0108 false p ∧ u = s.begun p ∧ Packet.sized p 8 = true ∧ p.borough % 32 = 0 ∧ u.cfgReaches (Packet.word p 0) = true ∧ Packet.word p 0 ≠ SYS_RST_CTL.key :=
  ⟨ready, (ready).begun (cmd 0x0108 [0x3003C#32, 5#32]), (cmd 0x0108 [0x3003C#32, 5#32]), by decide +kernel⟩

theorem witness_ConfigOpcodesComplete_tableWrite : ∃ (s u : State) (p : Packet), s.Admits 0x0109 false p ∧ u = s.begun p ∧ tableForm p = true ∧ Packet.sized p (8 + 4 * Packet.arg
  p 2 2) = true ∧ p.borough % 32 = 0 ∧ (u.tablePlaces p).all (fun h => h.plain) = true ∧ (u.tablePlaces p).any u.placeInUse =
  false :=
  ⟨ready, (ready).begun (cmd 0x0109 tableParams), (cmd 0x0109 tableParams), by decide +kernel⟩

theorem witness_ConfigOpcodesComplete_tableRead : ∃ (s u : State) (p : Packet) (l : List Nat), s.Admits 0x010A false p ∧ u = s.begun p ∧ tableForm p = true ∧ Packet.sized p 8 =
  true ∧ p.borough % 32 = 0 ∧ (u.tablePlaces p).map u.hitRead = l.map some :=
  ⟨ready, (ready).begun (cmd 0x010A (tableParams.take 2)), (cmd 0x010A (tableParams.take 2)), [0], by decide +kernel⟩

theorem witness_ConfigOpcodesComplete_group : ∃ (s u : State) (p : Packet) (g : Nat), s.Admits 0x0110 false p ∧ u = s.begun p ∧ Packet.sized p 16 = true ∧ g = Packet.word p 0 ∧ g < 24 ∧ g < u.part.groups ∧ Packet.wordsOk p 1 [gCtl g, gPll g, gLock g] = true ∧ p.borough % 32 = 0 ∧ (((u.wn (gPll g) (Packet.word p 2)).wn
    (gLock g) (Packet.word p 3)).wn (gCtl g) (Packet.word p 1)).applyCheck g = 0 :=
  ⟨ready, (ready).begun (cmd 0x0110 groupParams), (cmd 0x0110 groupParams), 0, by decide +kernel⟩

theorem witness_ConfigOpcodesComplete_inputEn : ∃ (s u : State) (p : Packet) (v : State) (i en : Nat) (r : Reg), s.Admits 0x0111 true p ∧ u = s.begun p ∧ Packet.sized p 4 =
    true ∧ i = Packet.arg p 0 2 ∧ en = Packet.arg p 2 1 ∧ Packet.arg p 3 1 = 0 ∧ i < u.part.inputs ∧ boolByte en = true ∧ p.borough % 32 = 0 ∧ u.governSlot i = none ∧ r = CNV_IN_CTL (i / 96) (i % 96) ∧ v = ((u.wn r en).fwr r (w32 en)).inputEnable i
    (en == 1) (u.mt * 2 ^ 32) :=
  ⟨ready, (ready.begun (cmd 0x0111 [0x10000#32])), (cmd 0x0111 [0x10000#32]), (((ready.begun (cmd 0x0111 [0x10000#32])).wn (CNV_IN_CTL 0 0) 1).fwr (CNV_IN_CTL 0 0) (w32 1)).inputEnable 0 true ((ready.begun (cmd 0x0111 [0x10000#32])).mt * 2 ^ 32), 0, 1, CNV_IN_CTL 0 0, by decide +kernel⟩

theorem witness_ConfigOpcodesComplete_track : ∃ (s u : State) (p : Packet) (g : Nat), s.Admits 0x0112 false p ∧ u = s.begun p ∧ Packet.sized p 8 = true ∧ g = Packet.word p 0 ∧ g < u.part.groups ∧ g < 24 ∧ Packet.wordsOk p 1 [CNV_GRP_TRK (g / 3) (g % 3)] = true ∧ p.borough % 32 = 0 :=
  ⟨ready, (ready).begun (cmd 0x0112 [23#32, 0x00320001#32]), (cmd 0x0112 [23#32, 0x00320001#32]), 23, by decide +kernel⟩

theorem witness_ConfigOpcodesComplete_status : ∃ (s u : State) (p : Packet) (g : Nat), s.Admits 0x0113 false p ∧ u = s.begun p ∧ Packet.sized p 4 = true ∧ g = Packet.word p 0 ∧ g < u.part.groups ∧ g < 24 ∧ p.borough % 32 = 0 :=
  ⟨ready, (ready).begun (cmd 0x0113 [23#32]), (cmd 0x0113 [23#32]), 23, by decide +kernel⟩

theorem witness_BoroughOpcodesComplete_quota : ∃ (s u : State) (p : Packet) (b : Nat), s.Admits 0x0120 false p ∧ u = s.begun p ∧ Packet.sized p 8 = true ∧ b = Packet.word p 0 ∧ b < 32 ∧ Packet.wordsOk p 1 [PLT_QUOTA b] = true ∧ p.borough % 32 = 0 ∧ u.resetting b = false ∧ u.quotaOk b (Packet.word p
  1) = true :=
  ⟨ready, (ready).begun (cmd 0x0120 [31#32, 0#32]), (cmd 0x0120 [31#32, 0#32]), 31, by decide +kernel⟩

theorem witness_BoroughOpcodesComplete_grant : ∃ (s u : State) (p : Packet) (b slot kinds g : Nat), s.Admits 0x0121 false p ∧ u = s.begun p ∧ Packet.sized p 8 = true ∧ Packet.arg p 1 1 = 0 ∧ b = Packet.arg p 0 1 ∧ slot = Packet.arg p 2 2 ∧ kinds = Packet.arg p 4 4 ∧ slot < 1024 ∧ bits kinds 27
  14 = 0 ∧ p.borough % 32 = 0 ∧ 0 < b ∧ b < 32 ∧ u.resetting b = false ∧ u.grantFormOk b slot kinds = true ∧ u.freeGrant slot =
  some g :=
  ⟨ready, (ready).begun (cmd 0x0121 grantParams), (cmd 0x0121 grantParams), 31, 0, 0x10000001, 0, by decide +kernel⟩

theorem witness_BoroughOpcodesComplete_revoke : ∃ (s u : State) (p : Packet) (g : Nat), s.Admits 0x0122 false p ∧ u = s.begun p ∧ Packet.sized p 4 = true ∧ g = Packet.word p 0 ∧ g < 2048 ∧ p.borough % 32 = 0 ∧ u.isSet (BRG_GRANT0_VALID g) = true :=
  ⟨(ready.put (BRG_GRANT0_VALID 2047) 1), ((ready.put (BRG_GRANT0_VALID 2047) 1)).begun (cmd 0x0122 [2047#32]), (cmd 0x0122 [2047#32]), 2047, by decide +kernel⟩

theorem witness_BoroughOpcodesComplete_beams : ∃ (s u : State) (p : Packet) (b first last wf wl : Nat), s.Admits 0x0123 false p ∧ u = s.begun p ∧ Packet.sized p 12 = true ∧ Packet.arg p 1 1 = 0 ∧ Packet.arg p 10 2 = 0 ∧ b = Packet.arg p 0 1 ∧ first = Packet.arg p 2 2 ∧ last = Packet.arg p 4 2 ∧ wf
  = Packet.arg p 6 2 ∧ wl = Packet.arg p 8 2 ∧ 1 ≤ b ∧ b < 32 ∧ last < 4096 ∧ p.borough % 32 = 0 ∧ u.resetting b = false ∧ u.rangesTaken b first last wf wl = false :=
  ⟨ready, (ready).begun (cmd 0x0123 [31#32, 4095#32, 0#32]), (cmd 0x0123 [31#32, 4095#32, 0#32]), 31, 0, 4095, 0, 0, by decide +kernel⟩

theorem witness_BoroughOpcodesComplete_reset : ∃ (s u : State) (p : Packet) (b : Nat), s.Admits 0x0124 false p ∧ u = s.begun p ∧ Packet.sized p 4 = true ∧ b = Packet.word p 0 ∧ b < 32 ∧ (p.borough % 32 = 0 ∨ p.borough % 32 = b) ∧ u.canReset b = true :=
  ⟨ready, (ready).begun (cmd 0x0124 [31#32]), (cmd 0x0124 [31#32]), 31, by decide +kernel⟩

theorem witness_BoroughOpcodesComplete_status : ∃ (s u : State) (p : Packet) (b : Nat), s.Admits 0x0125 false p ∧ u = s.begun p ∧ Packet.sized p 4 = true ∧ b = Packet.word p 0 ∧ b < 32 ∧ (p.borough % 32 = 0 ∨ p.borough % 32 = b) :=
  ⟨ready, (ready).begun (cmd 0x0125 [31#32]), (cmd 0x0125 [31#32]), 31, by decide +kernel⟩

theorem witness_PipelineWordOpcodesComplete_delay : ∃ (s u : State) (p : Packet) (v : State) (l : List Nat), s.Admits 0x0203 true p ∧ u = s.begun p ∧ u.selSlots (Packet.word p 0) =
  some l ∧ Packet.sized p 8 = true ∧ Packet.wordsOk p 1 ([CHP_DELAY].map (fun r => r 0)) = true ∧ p.borough % 32 = 0 ∧ (∀ n ∈ l,
  u.slotState n = 0) ∧ v = l.foldl (fun (s : State) n => s.shadowPut n (wordVals p 1 [CHP_DELAY] n)) u :=
  ⟨ready, (ready).begun (cmd 0x0203 (wordParams 1 (([CHP_DELAY] : List (Nat → Reg)).map (fun r => r 0)))), (cmd 0x0203 (wordParams 1 (([CHP_DELAY] : List (Nat → Reg)).map (fun r => r 0)))), ((ready.begun (cmd 0x0203 (wordParams 1 (([CHP_DELAY] : List (Nat → Reg)).map (fun r => r 0))))).shadowPut 1023 (wordVals (cmd 0x0203 (wordParams 1 (([CHP_DELAY] : List (Nat → Reg)).map (fun r => r 0)))) 1 [CHP_DELAY] 1023)), [1023], by decide +kernel⟩

theorem witness_PipelineWordOpcodesComplete_delayStaged : ∃ (s u : State) (p : Packet) (n g k0 k : Nat), s.Admits 0x0203 true p ∧ u = s.begun p ∧ u.selSlots (Packet.word p 0) = some [n] ∧ Packet.sized p 8 = true ∧ Packet.wordsOk p 1 ([CHP_DELAY].map (fun r => r 0)) = true ∧ p.borough % 32 = 0 ∧ u.slotState n =
    2 ∧ g = (u.slot n).boundGrid ∧ k0 = u.askedIndex g p ∧ u.slotCheck n g false false (overVals n (u.slotAt n k0) (wordVals p 1
    [CHP_DELAY] n)) k0 = 0 ∧ u.stageIndex g (Packet.act p) = some k ∧ u.stageFull (.slot n) k = false :=
  ⟨slotLive, (slotLive).begun (cmd 0x0203 (wordParams 1 (([CHP_DELAY] : List (Nat → Reg)).map (fun r => r 0)) )), (cmd 0x0203 (wordParams 1 (([CHP_DELAY] : List (Nat → Reg)).map (fun r => r 0)) )), 1023, 7, slotLive.askedIndex 7 (cmd 0x0203 []), slotLive.askedIndex 7 (cmd 0x0203 []), by decide +kernel⟩

theorem witness_PipelineWordOpcodesComplete_mix : ∃ (s u : State) (p : Packet) (v : State) (l : List Nat), s.Admits 0x0205 true p ∧ u = s.begun p ∧ u.selSlots (Packet.word p 0) =
  some l ∧ Packet.sized p 16 = true ∧ Packet.wordsOk p 1 ([CHP_MIX, CHP_NCO_LO, CHP_NCO_HI].map (fun r => r 0)) = true ∧ p.borough % 32 = 0 ∧ (∀ n ∈ l, u.slotState n = 0) ∧ v = l.foldl (fun (s : State) n => s.shadowPut n (wordVals p 1 [CHP_MIX,
  CHP_NCO_LO, CHP_NCO_HI] n)) u :=
  ⟨ready, (ready).begun (cmd 0x0205 (wordParams 1 (([CHP_MIX, CHP_NCO_LO, CHP_NCO_HI] : List (Nat → Reg)).map (fun r => r 0)))), (cmd 0x0205 (wordParams 1 (([CHP_MIX, CHP_NCO_LO, CHP_NCO_HI] : List (Nat → Reg)).map (fun r => r 0)))), ((ready.begun (cmd 0x0205 (wordParams 1 (([CHP_MIX, CHP_NCO_LO, CHP_NCO_HI] : List (Nat → Reg)).map (fun r => r 0))))).shadowPut 1023 (wordVals (cmd 0x0205 (wordParams 1 (([CHP_MIX, CHP_NCO_LO, CHP_NCO_HI] : List (Nat → Reg)).map (fun r => r 0)))) 1 [CHP_MIX, CHP_NCO_LO, CHP_NCO_HI] 1023)), [1023], by decide +kernel⟩

theorem witness_PipelineWordOpcodesComplete_mixStaged : ∃ (s u : State) (p : Packet) (n g k0 k : Nat), s.Admits 0x0205 true p ∧ u = s.begun p ∧ u.selSlots (Packet.word p 0) = some [n] ∧ Packet.sized p 16 = true ∧ Packet.wordsOk p 1 ([CHP_MIX, CHP_NCO_LO, CHP_NCO_HI].map (fun r => r 0)) = true ∧ p.borough % 32
    = 0 ∧ u.slotState n = 2 ∧ g = (u.slot n).boundGrid ∧ k0 = u.askedIndex g p ∧ u.slotCheck n g false false (overVals n (u.slotAt n
    k0) (wordVals p 1 [CHP_MIX, CHP_NCO_LO, CHP_NCO_HI] n)) k0 = 0 ∧ u.stageIndex g (Packet.act p) = some k ∧ u.stageFull (.slot
    n) k = false :=
  ⟨slotLive, (slotLive).begun (cmd 0x0205 (wordParams 1 (([CHP_MIX, CHP_NCO_LO, CHP_NCO_HI] : List (Nat → Reg)).map (fun r => r 0)) )), (cmd 0x0205 (wordParams 1 (([CHP_MIX, CHP_NCO_LO, CHP_NCO_HI] : List (Nat → Reg)).map (fun r => r 0)) )), 1023, 7, slotLive.askedIndex 7 (cmd 0x0205 []), slotLive.askedIndex 7 (cmd 0x0205 []), by decide +kernel⟩

theorem witness_PipelineWordOpcodesComplete_decimate : ∃ (s u : State) (p : Packet) (v : State) (l : List Nat), s.Admits 0x0206 true p ∧ u = s.begun p ∧ u.selSlots (Packet.word p 0) =
  some l ∧ Packet.sized p 28 = true ∧ Packet.wordsOk p 2 (((List.range 5).map (fun k => fun n => CHP_DEC n k)).map (fun r => r
  0)) = true ∧ p.borough % 32 = 0 ∧ (∀ n ∈ l, u.slotState n = 0) ∧ v = l.foldl (fun (s : State) n => s.shadowPut n (wordVals p 2
  ((List.range 5).map (fun k => fun n => CHP_DEC n k)) n)) u ∧ Packet.word p 1 < 2 :=
  ⟨ready, (ready).begun (cmd 0x0206 (wordParams 2 ((((List.range 5).map (fun k => fun n => CHP_DEC n k)) : List (Nat → Reg)).map (fun r => r 0)))), (cmd 0x0206 (wordParams 2 ((((List.range 5).map (fun k => fun n => CHP_DEC n k)) : List (Nat → Reg)).map (fun r => r 0)))), ((ready.begun (cmd 0x0206 (wordParams 2 ((((List.range 5).map (fun k => fun n => CHP_DEC n k)) : List (Nat → Reg)).map (fun r => r 0))))).shadowPut 1023 (wordVals (cmd 0x0206 (wordParams 2 ((((List.range 5).map (fun k => fun n => CHP_DEC n k)) : List (Nat → Reg)).map (fun r => r 0)))) 2 ((List.range 5).map (fun k => fun n => CHP_DEC n k)) 1023)), [1023], by decide +kernel⟩

theorem witness_PipelineWordOpcodesComplete_decimateStaged : ∃ (s u : State) (p : Packet) (n g k0 k : Nat), s.Admits 0x0206 true p ∧ u = s.begun p ∧ u.selSlots (Packet.word p 0) = some [n] ∧ Packet.sized p 28 = true ∧ Packet.wordsOk p 2 (((List.range 5).map (fun k => fun n => CHP_DEC n k)).map (fun r => r 0)) =
    true ∧ p.borough % 32 = 0 ∧ u.slotState n = 2 ∧ g = (u.slot n).boundGrid ∧ k0 = u.askedIndex g p ∧ u.slotCheck n g false
    (Packet.word p 1 == 1) (overVals n (u.slotAt n k0) (wordVals p 2 ((List.range 5).map (fun k => fun n => CHP_DEC n k)) n)) k0 =
    0 ∧ u.stageIndex g (Packet.act p) = some k ∧ u.stageFull (.slot n) k = false ∧ Packet.word p 1 < 2 :=
  ⟨slotLive, (slotLive).begun (cmd 0x0206 (wordParams 2 ((((List.range 5).map (fun k => fun n => CHP_DEC n k)) : List (Nat → Reg)).map (fun r => r 0)) )), (cmd 0x0206 (wordParams 2 ((((List.range 5).map (fun k => fun n => CHP_DEC n k)) : List (Nat → Reg)).map (fun r => r 0)) )), 1023, 7, slotLive.askedIndex 7 (cmd 0x0206 []), slotLive.askedIndex 7 (cmd 0x0206 []), by decide +kernel⟩

theorem witness_PipelineWordOpcodesComplete_resample : ∃ (s u : State) (p : Packet) (v : State) (l : List Nat), s.Admits 0x0207 true p ∧ u = s.begun p ∧ u.selSlots (Packet.word p 0) =
  some l ∧ Packet.sized p 8 = true ∧ Packet.wordsOk p 1 ([CHP_RSM_CTL].map (fun r => r 0)) = true ∧ p.borough % 32 = 0 ∧ (∀ n ∈
  l, u.slotState n = 0) ∧ v = l.foldl (fun (s : State) n => s.shadowPut n (wordVals p 1 [CHP_RSM_CTL] n)) u :=
  ⟨ready, (ready).begun (cmd 0x0207 (wordParams 1 (([CHP_RSM_CTL] : List (Nat → Reg)).map (fun r => r 0)))), (cmd 0x0207 (wordParams 1 (([CHP_RSM_CTL] : List (Nat → Reg)).map (fun r => r 0)))), ((ready.begun (cmd 0x0207 (wordParams 1 (([CHP_RSM_CTL] : List (Nat → Reg)).map (fun r => r 0))))).shadowPut 1023 (wordVals (cmd 0x0207 (wordParams 1 (([CHP_RSM_CTL] : List (Nat → Reg)).map (fun r => r 0)))) 1 [CHP_RSM_CTL] 1023)), [1023], by decide +kernel⟩

theorem witness_PipelineWordOpcodesComplete_resampleStaged : ∃ (s u : State) (p : Packet) (n g k0 k : Nat), s.Admits 0x0207 true p ∧ u = s.begun p ∧ u.selSlots (Packet.word p 0) = some [n] ∧ Packet.sized p 8 = true ∧ Packet.wordsOk p 1 ([CHP_RSM_CTL].map (fun r => r 0)) = true ∧ p.borough % 32 = 0 ∧ u.slotState n
    = 2 ∧ g = (u.slot n).boundGrid ∧ k0 = u.askedIndex g p ∧ u.slotCheck n g false false (overVals n (u.slotAt n k0) (wordVals p 1
    [CHP_RSM_CTL] n)) k0 = 0 ∧ u.stageIndex g (Packet.act p) = some k ∧ u.stageFull (.slot n) k = false :=
  ⟨slotLive, (slotLive).begun (cmd 0x0207 (wordParams 1 (([CHP_RSM_CTL] : List (Nat → Reg)).map (fun r => r 0)) )), (cmd 0x0207 (wordParams 1 (([CHP_RSM_CTL] : List (Nat → Reg)).map (fun r => r 0)) )), 1023, 7, slotLive.askedIndex 7 (cmd 0x0207 []), slotLive.askedIndex 7 (cmd 0x0207 []), by decide +kernel⟩

theorem witness_PipelineWordOpcodesComplete_channel : ∃ (s u : State) (p : Packet) (v : State) (l : List Nat), s.Admits 0x0208 true p ∧ u = s.begun p ∧ u.selSlots (Packet.word p 0) =
  some l ∧ Packet.sized p 20 = true ∧ Packet.wordsOk p 2 ([CHP_CHN_CTL, CHP_CHN_SCALE, CHP_CHN_SEL].map (fun r => r 0)) = true ∧ p.borough % 32 = 0 ∧ (∀ n ∈ l, u.slotState n = 0) ∧ v = l.foldl (fun (s : State) n => s.shadowPut n (wordVals p 2
  [CHP_CHN_CTL, CHP_CHN_SCALE, CHP_CHN_SEL] n)) u ∧ Packet.word p 1 < 2 :=
  ⟨ready, (ready).begun (cmd 0x0208 (wordParams 2 (([CHP_CHN_CTL, CHP_CHN_SCALE, CHP_CHN_SEL] : List (Nat → Reg)).map (fun r => r 0)))), (cmd 0x0208 (wordParams 2 (([CHP_CHN_CTL, CHP_CHN_SCALE, CHP_CHN_SEL] : List (Nat → Reg)).map (fun r => r 0)))), ((ready.begun (cmd 0x0208 (wordParams 2 (([CHP_CHN_CTL, CHP_CHN_SCALE, CHP_CHN_SEL] : List (Nat → Reg)).map (fun r => r 0))))).shadowPut 1023 (wordVals (cmd 0x0208 (wordParams 2 (([CHP_CHN_CTL, CHP_CHN_SCALE, CHP_CHN_SEL] : List (Nat → Reg)).map (fun r => r 0)))) 2 [CHP_CHN_CTL, CHP_CHN_SCALE, CHP_CHN_SEL] 1023)), [1023], by decide +kernel⟩

theorem witness_PipelineWordOpcodesComplete_channelStaged : ∃ (s u : State) (p : Packet) (n g k0 k : Nat), s.Admits 0x0208 true p ∧ u = s.begun p ∧ u.selSlots (Packet.word p 0) = some [n] ∧ Packet.sized p 20 = true ∧ Packet.wordsOk p 2 ([CHP_CHN_CTL, CHP_CHN_SCALE, CHP_CHN_SEL].map (fun r => r 0)) = true ∧ p.borough % 32 = 0 ∧ u.slotState n = 2 ∧ g = (u.slot n).boundGrid ∧ k0 = u.askedIndex g p ∧ u.slotCheck n g false (Packet.word p 1
    == 1) (overVals n (u.slotAt n k0) (wordVals p 2 [CHP_CHN_CTL, CHP_CHN_SCALE, CHP_CHN_SEL] n)) k0 = 0 ∧ u.stageIndex g
    (Packet.act p) = some k ∧ u.stageFull (.slot n) k = false ∧ Packet.word p 1 < 2 :=
  ⟨slotLive, (slotLive).begun (cmd 0x0208 (wordParams 2 (([CHP_CHN_CTL, CHP_CHN_SCALE, CHP_CHN_SEL] : List (Nat → Reg)).map (fun r => r 0)) )), (cmd 0x0208 (wordParams 2 (([CHP_CHN_CTL, CHP_CHN_SCALE, CHP_CHN_SEL] : List (Nat → Reg)).map (fun r => r 0)) )), 1023, 7, slotLive.askedIndex 7 (cmd 0x0208 []), slotLive.askedIndex 7 (cmd 0x0208 []), by decide +kernel⟩

theorem witness_PipelineWordOpcodesComplete_reduce : ∃ (s u : State) (p : Packet) (v : State) (l : List Nat), s.Admits 0x0209 true p ∧ u = s.begun p ∧ u.selSlots (Packet.word p 0) =
  some l ∧ Packet.sized p 16 = true ∧ Packet.wordsOk p 1 ([CHP_RDC_CTL, CHP_RDC_RQ, CHP_RDC_HIST].map (fun r => r 0)) = true ∧ p.borough % 32 = 0 ∧ (∀ n ∈ l, u.slotState n = 0) ∧ v = l.foldl (fun (s : State) n => s.shadowPut n (wordVals p 1
  [CHP_RDC_CTL, CHP_RDC_RQ, CHP_RDC_HIST] n)) u :=
  ⟨ready, (ready).begun (cmd 0x0209 (wordParams 1 (([CHP_RDC_CTL, CHP_RDC_RQ, CHP_RDC_HIST] : List (Nat → Reg)).map (fun r => r 0)))), (cmd 0x0209 (wordParams 1 (([CHP_RDC_CTL, CHP_RDC_RQ, CHP_RDC_HIST] : List (Nat → Reg)).map (fun r => r 0)))), ((ready.begun (cmd 0x0209 (wordParams 1 (([CHP_RDC_CTL, CHP_RDC_RQ, CHP_RDC_HIST] : List (Nat → Reg)).map (fun r => r 0))))).shadowPut 1023 (wordVals (cmd 0x0209 (wordParams 1 (([CHP_RDC_CTL, CHP_RDC_RQ, CHP_RDC_HIST] : List (Nat → Reg)).map (fun r => r 0)))) 1 [CHP_RDC_CTL, CHP_RDC_RQ, CHP_RDC_HIST] 1023)), [1023], by decide +kernel⟩

theorem witness_PipelineWordOpcodesComplete_reduceStaged : ∃ (s u : State) (p : Packet) (n g k0 k : Nat), s.Admits 0x0209 true p ∧ u = s.begun p ∧ u.selSlots (Packet.word p 0) = some [n] ∧ Packet.sized p 16 = true ∧ Packet.wordsOk p 1 ([CHP_RDC_CTL, CHP_RDC_RQ, CHP_RDC_HIST].map (fun r => r 0)) = true ∧ p.borough % 32 = 0 ∧ u.slotState n = 2 ∧ g = (u.slot n).boundGrid ∧ k0 = u.askedIndex g p ∧ u.slotCheck n g false false (overVals n
    (u.slotAt n k0) (wordVals p 1 [CHP_RDC_CTL, CHP_RDC_RQ, CHP_RDC_HIST] n)) k0 = 0 ∧ u.stageIndex g (Packet.act p) = some k ∧ u.stageFull (.slot n) k = false :=
  ⟨slotLive, (slotLive).begun (cmd 0x0209 (wordParams 1 (([CHP_RDC_CTL, CHP_RDC_RQ, CHP_RDC_HIST] : List (Nat → Reg)).map (fun r => r 0)) )), (cmd 0x0209 (wordParams 1 (([CHP_RDC_CTL, CHP_RDC_RQ, CHP_RDC_HIST] : List (Nat → Reg)).map (fun r => r 0)) )), 1023, 7, slotLive.askedIndex 7 (cmd 0x0209 []), slotLive.askedIndex 7 (cmd 0x0209 []), by decide +kernel⟩

theorem witness_PipelineWordOpcodesComplete_route : ∃ (s u : State) (p : Packet) (v : State) (l : List Nat), s.Admits 0x020A true p ∧ u = s.begun p ∧ u.selSlots (Packet.word p 0) =
  some l ∧ Packet.sized p 8 = true ∧ Packet.wordsOk p 1 ([CHP_ROUTE].map (fun r => r 0)) = true ∧ p.borough % 32 = 0 ∧ (∀ n ∈ l,
  u.slotState n = 0) ∧ v = l.foldl (fun (s : State) n => s.shadowPut n (wordVals p 1 [CHP_ROUTE] n)) u :=
  ⟨ready, (ready).begun (cmd 0x020A (wordParams 1 (([CHP_ROUTE] : List (Nat → Reg)).map (fun r => r 0)))), (cmd 0x020A (wordParams 1 (([CHP_ROUTE] : List (Nat → Reg)).map (fun r => r 0)))), ((ready.begun (cmd 0x020A (wordParams 1 (([CHP_ROUTE] : List (Nat → Reg)).map (fun r => r 0))))).shadowPut 1023 (wordVals (cmd 0x020A (wordParams 1 (([CHP_ROUTE] : List (Nat → Reg)).map (fun r => r 0)))) 1 [CHP_ROUTE] 1023)), [1023], by decide +kernel⟩

theorem witness_PipelineWordOpcodesComplete_routeStaged : ∃ (s u : State) (p : Packet) (n g k0 k : Nat), s.Admits 0x020A true p ∧ u = s.begun p ∧ u.selSlots (Packet.word p 0) = some [n] ∧ Packet.sized p 8 = true ∧ Packet.wordsOk p 1 ([CHP_ROUTE].map (fun r => r 0)) = true ∧ p.borough % 32 = 0 ∧ u.slotState n =
    2 ∧ g = (u.slot n).boundGrid ∧ k0 = u.askedIndex g p ∧ u.slotCheck n g false false (overVals n (u.slotAt n k0) (wordVals p 1
    [CHP_ROUTE] n)) k0 = 0 ∧ u.stageIndex g (Packet.act p) = some k ∧ u.stageFull (.slot n) k = false :=
  ⟨slotLive, (slotLive).begun (cmd 0x020A (wordParams 1 (([CHP_ROUTE] : List (Nat → Reg)).map (fun r => r 0)) )), (cmd 0x020A (wordParams 1 (([CHP_ROUTE] : List (Nat → Reg)).map (fun r => r 0)) )), 1023, 7, slotLive.askedIndex 7 (cmd 0x020A []), slotLive.askedIndex 7 (cmd 0x020A []), by decide +kernel⟩

theorem witness_PipelineOpcodesComplete_source : ∃ (s u : State) (p : Packet) (l : List Nat) (v : Nat), s.Admits 0x0201 false p ∧ u = s.begun p ∧ u.selSlots (Packet.word p 0) =
    some l ∧ Packet.sized p 8 = true ∧ v = Packet.word p 1 ∧ Packet.wordsOk p 1 [CHP_SRC 0] = true ∧ p.borough % 32 = 0 ∧ (bits v
    31 30 ≠ 1 ∨ bits v 9 0 < u.part.inputs) ∧ (∀ n ∈ l, u.slotState n = 0) :=
  ⟨ready, (ready).begun (cmd 0x0201 [1023#32, 0x40000000#32]), (cmd 0x0201 [1023#32, 0x40000000#32]), [1023], 0x40000000, by decide +kernel⟩

theorem witness_PipelineOpcodesComplete_bind : ∃ (s u : State) (p : Packet) (l : List Nat) (g k : Nat), s.Admits 0x0202 true p ∧ u = s.begun p ∧ u.selSlots (Packet.word p 0) =
  some l ∧ Packet.sized p 8 = true ∧ g = Packet.word p 1 ∧ g < 8 ∧ p.borough % 32 = 0 ∧ u.bindAll g p l = none ∧ u.stageIndex g
  (Packet.act p) = some k ∧ (∀ n ∈ l, u.stageFull (.slot n) k = false) :=
  ⟨slotFree, (slotFree).begun (cmd 0x0202 [1023#32, 7#32]), (cmd 0x0202 [1023#32, 7#32]), [1023], 7, slotFree.askedIndex 7 (cmd 514 []), by decide +kernel⟩

theorem witness_PipelineOpcodesComplete_bindRefused : ∃ (s u : State) (p : Packet) (l : List Nat) (g n c : Nat), s.Admits 0x0202 true p ∧ u = s.begun p ∧ u.selSlots (Packet.word p 0)
  = some l ∧ Packet.sized p 8 = true ∧ g = Packet.word p 1 ∧ g < 8 ∧ p.borough % 32 = 0 ∧ u.bindAll g p l = some (n, c) ∧ c ≠ 10 :=
  ⟨slotLive, (slotLive).begun (cmd 0x0202 [1023#32, 7#32]), (cmd 0x0202 [1023#32, 7#32]), [1023], 7, 1023, 8, by decide +kernel⟩

theorem witness_PipelineOpcodesComplete_unbind : ∃ (s u : State) (p : Packet) (n k : Nat), s.Admits 0x0204 true p ∧ u = s.begun p ∧ u.selSlots (Packet.word p 0) = some [n] ∧ Packet.sized p 4 = true ∧ p.borough % 32 = 0 ∧ u.awake (u.slotDomain n) = true ∧ u.slotState n ≠ 0 ∧ u.unbindWaits n = false ∧ u.bindCancels n = false ∧ u.stageIndex (u.slot n).boundGrid (Packet.act p) = some k :=
  ⟨slotLive, (slotLive).begun (cmd 0x0204 [1023#32]), (cmd 0x0204 [1023#32]), 1023, slotLive.askedIndex 7 (cmd 516 []), by decide +kernel⟩

theorem witness_PipelineOpcodesComplete_intake : ∃ (s u : State) (p : Packet) (v : State) (l : List Nat), s.Admits 0x020B true p ∧ u = s.begun p ∧ u.selSlots (Packet.word p 0) =
  some l ∧ Packet.sized p 24 = true ∧ Packet.word p 1 &&& 0x01C00000 = Packet.word p 1 ∧ Packet.wordsOk p 2 [CHP_BLANK 0,
  CHP_CALMASK 0, CHP_CALDLY 0, CHP_TEST 0] = true ∧ p.borough % 32 = 0 ∧ (∀ n ∈ l, u.slotState n = 0) ∧ v = l.foldl (fun (s :
  State) n => s.shadowPut n (⟨(CHP_CTL n).key, 0x01C00000, Packet.word p 1⟩ :: wordVals p 2 [CHP_BLANK, CHP_CALMASK, CHP_CALDLY,
  CHP_TEST] n)) u :=
  ⟨ready, (ready).begun (cmd 0x020B intakeParams), (cmd 0x020B intakeParams), ((ready.begun (cmd 523 intakeParams)).shadowPut 1023 (⟨(CHP_CTL 1023).key, 0x01C00000, 0x00400000⟩ :: wordVals (cmd 523 intakeParams) 2 [CHP_BLANK, CHP_CALMASK, CHP_CALDLY, CHP_TEST] 1023)), [1023], by decide +kernel⟩

theorem witness_PipelineOpcodesComplete_intakeStaged : ∃ (s u : State) (p : Packet) (n g k0 k : Nat) (vals : List SVal), s.Admits 0x020B true p ∧ u = s.begun p ∧ u.selSlots
    (Packet.word p 0) = some [n] ∧ Packet.sized p 24 = true ∧ Packet.word p 1 &&& 0x01C00000 = Packet.word p 1 ∧ Packet.wordsOk p
    2 [CHP_BLANK 0, CHP_CALMASK 0, CHP_CALDLY 0, CHP_TEST 0] = true ∧ p.borough % 32 = 0 ∧ u.slotState n = 2 ∧ g = (u.slot n).boundGrid ∧ k0 = u.askedIndex g p ∧ vals = ⟨(CHP_CTL n).key, 0x01C00000, Packet.word p 1⟩ :: wordVals p 2 [CHP_BLANK, CHP_CALMASK,
    CHP_CALDLY, CHP_TEST] n ∧ u.slotCheck n g false false (overVals n (u.slotAt n k0) vals) k0 = 0 ∧ u.stageIndex g (Packet.act p)
    = some k ∧ u.stageFull (.slot n) k = false :=
  ⟨slotLive, (slotLive).begun (cmd 0x020B intakeParams), (cmd 0x020B intakeParams), 1023, 7, slotLive.askedIndex 7 (cmd 0x020B []), slotLive.askedIndex 7 (cmd 0x020B []), ⟨(CHP_CTL 1023).key, 0x01C00000, 0x00400000⟩ :: wordVals (cmd 523 intakeParams) 2 [CHP_BLANK, CHP_CALMASK, CHP_CALDLY, CHP_TEST] 1023, by decide +kernel⟩

theorem witness_PipelineOpcodesComplete_commit : ∃ (s u : State) (p : Packet) (n g k0 k : Nat) (vals : List SVal), s.Admits 0x020C true p ∧ u = s.begun p ∧ u.selSlots
    (Packet.word p 0) = some [n] ∧ Packet.sized p 8 = true ∧ Packet.word p 1 < 2 ∧ p.borough % 32 = 0 ∧ u.awake (u.slotDomain n) =
    true ∧ g = (u.slot n).boundGrid ∧ k0 = u.askedIndex g p ∧ vals = u.snapshot (slotKeys n) ∧ u.slotCheck n g false (Packet.word p 1
    == 1) (overVals n (u.slotAt n k0) vals) k0 = 0 ∧ u.stageIndex g (Packet.act p) = some k ∧ u.stageFull (.slot n) k = false :=
  ⟨slotLive, (slotLive).begun (cmd 0x020C [1023#32, 1#32]), (cmd 0x020C [1023#32, 1#32]), 1023, 7, slotLive.askedIndex 7 (cmd 0x020C []), slotLive.askedIndex 7 (cmd 0x020C []), slotLive.snapshot (slotKeys 1023), by decide +kernel⟩

theorem witness_PipelineOpcodesComplete_fpd : ∃ (s u : State) (p : Packet) (l : List Nat), s.Admits 0x020D false p ∧ u = s.begun p ∧ u.selSlots (Packet.word p 0) = some l ∧ Packet.sized p 16 = true ∧ Packet.wordsOk p 1 [CHP_FPD_CTL 0, CHP_FPD_HI 0, CHP_FPD_LO 0] = true ∧ p.borough % 32 = 0 :=
  ⟨ready, (ready).begun (cmd 0x020D [1023#32, 0#32, 0#32, 0#32]), (cmd 0x020D [1023#32, 0#32, 0#32, 0#32]), [1023], by decide +kernel⟩

theorem witness_PipelineOpcodesComplete_district : ∃ (s u : State) (p : Packet) (d : Nat), s.Admits 0x020E false p ∧ u = s.begun p ∧ Packet.sized p 132 = true ∧ d = Packet.word p
  0 ∧ d < 64 ∧ p.borough % 32 = 0 ∧ u.districtWaits d = false :=
  ⟨ready, (ready).begun (cmd 0x020E (63#32 :: List.replicate 32 0xFFFFFFFF#32)), (cmd 0x020E (63#32 :: List.replicate 32 0xFFFFFFFF#32)), 63, by decide +kernel⟩

theorem witness_PipelineOpcodesComplete_raw : ∃ (s u : State) (p : Packet) (n v : Nat) (r : State), s.Admits 0x020F false p ∧ u = s.begun p ∧ Packet.sized p 8 = true ∧ n =
  Packet.word p 0 ∧ v = Packet.word p 1 ∧ n < 1024 ∧ regWordOk (CMP_RAW n) (if bit v 31 && !u.isSet (CMP_RAW_EN n) then setBits
  v 10 8 0 else v) = true ∧ p.borough % 32 = 0 ∧ u.rawSet n v = (some 0, r) :=
  ⟨ready, (ready).begun (cmd 0x020F [1023#32, 0x100#32]), (cmd 0x020F [1023#32, 0x100#32]), 1023, 0x100, (ready.begun (cmd 0x020F [1023#32, 0x100#32])).put (CMP_RAW_POLICY 1023) 1, by decide +kernel⟩

theorem witness_PipelineOpcodesComplete_status : ∃ (s u : State) (p : Packet) (n : Nat), s.Admits 0x0210 false p ∧ u = s.begun p ∧ Packet.sized p 4 = true ∧ n = Packet.word p 0 ∧ n < 1024 ∧ p.borough % 32 = 0 :=
  ⟨ready, (ready).begun (cmd 0x0210 [1023#32]), (cmd 0x0210 [1023#32]), 1023, by decide +kernel⟩

theorem witness_BeamOpcodesComplete_set : ∃ (s u : State) (p : Packet) (first last : Nat) (l : List (Nat × BeamCfg)) (o : CmdOut × State), s.Admits 0x0301 true p ∧ u =
  s.begun p ∧ first = Packet.arg p 0 2 ∧ last = Packet.arg p 2 2 ∧ first ≤ last ∧ last < 4096 ∧ last + 1 - first ≤ 100 ∧ l =
  packetCfgs u p first (last + 1 - first) ∧ Packet.sized p (4 + 32 * (last + 1 - first)) = true ∧ u.beamsAllowed (p.borough %
  32) l = true ∧ o = u.beamCommit p first last l ∧ o.1 = .now 0 (o.2.commitRecord 0 0 o.2.mt) :=
  ⟨beamAwake, (beamAwake).begun (cmd 0x0301 beamParams), (cmd 0x0301 beamParams), 0, 0, packetCfgs (beamAwake.begun (cmd 0x0301 beamParams)) (cmd 0x0301 beamParams) 0 1, (beamAwake.begun (cmd 0x0301 beamParams)).beamCommit (cmd 0x0301 beamParams) 0 0 (packetCfgs (beamAwake.begun (cmd 0x0301 beamParams)) (cmd 0x0301 beamParams) 0 1), by decide +kernel⟩

theorem witness_BeamOpcodesComplete_disableNone : ∃ (s u : State) (p : Packet) (v : State) (first last : Nat) (l : List Nat), s.Admits 0x0302 true p ∧ u = s.begun p ∧ Packet.sized p 4 = true ∧ first = Packet.arg p 0 2 ∧ last = Packet.arg p 2 2 ∧ first ≤ last ∧ last < 4096 ∧ l = (List.range
  (last + 1 - first)).map (fun i => first + i) ∧ (∀ b ∈ l, u.beamBorough b = p.borough % 32) ∧ (∀ b ∈ l, u.beamThen p b = none) ∧ v = ((l.foldl (fun (s : State) b => s.wn (BFM_DESC b 0) (setBits (s.rn (BFM_DESC b 0)) 31 31 0)) u).put BFM_STAT_CODE 0).put
  BFM_STAT_BEAM 0 :=
  ⟨ready, (ready).begun (cmd 0x0302 [0x0FFF0FFF#32]), (cmd 0x0302 [0x0FFF0FFF#32]), (((ready.begun (cmd 0x0302 [0x0FFF0FFF#32])).wn (BFM_DESC 4095 0) 0).put BFM_STAT_CODE 0).put BFM_STAT_BEAM 0, 4095, 4095, [4095], by decide +kernel⟩

theorem witness_BeamOpcodesComplete_disable : ∃ (s u : State) (p : Packet) (b g k : Nat) (x : BeamCfg), s.Admits 0x0302 true p ∧ u = s.begun p ∧ Packet.sized p 4 = true ∧ Packet.arg p 0 2 = b ∧ Packet.arg p 2 2 = b ∧ b < 4096 ∧ u.beamBorough b = p.borough % 32 ∧ u.beamThen p b = some (g, x) ∧ u.stageIndex g (Packet.act p) = some k ∧ u.stageFull (.beam b) k = false :=
  ⟨beamLive, beamLive.begun (cmd 0x0302 [0#32]), (cmd 0x0302 [0#32]), 0, 7, beamLive.askedIndex 7 (cmd 0x0302 [0#32]), ((beamLive.begun (cmd 0x0302 [0#32])).beamThen (cmd 0x0302 [0#32]) 0).getD (0, ⟨[], [], 0, []⟩) |>.2, by decide +kernel⟩

theorem witness_BeamOpcodesComplete_iset : ∃ (s u : State) (p : Packet) (n : Nat), s.Admits 0x0303 false p ∧ u = s.begun p ∧ Packet.sized p 132 = true ∧ n = Packet.word p
  0 ∧ n < 256 ∧ p.borough % 32 = 0 ∧ u.allCfgs.any (fun e => bits (e.2.w 0) 27 20 == n) = false :=
  ⟨ready, (ready).begun (cmd 0x0303 (255#32 :: List.replicate 32 1#32)), (cmd 0x0303 (255#32 :: List.replicate 32 1#32)), 255, by decide +kernel⟩

theorem witness_BeamOpcodesComplete_weights : ∃ (s u : State) (p : Packet) (n at_ : Nat) (pages : List Nat), s.Admits 0x0304 false p ∧ u = s.begun p ∧ n = Packet.arg p 4 2 ∧ at_ = Packet.arg p 0 2 * 16384 + Packet.arg p 2 2 ∧ pages = (List.range ((at_ + n - 1) / 16384 + 1 - at_ / 16384)).map (fun i
  => at_ / 16384 + i) ∧ 1 ≤ n ∧ n ≤ 1000 ∧ Packet.sized p (8 + 4 * n) = true ∧ Packet.arg p 6 2 = 0 ∧ Packet.arg p 2 2 < 16384 ∧ at_ + n ≤ 65536 * 16384 ∧ (∀ q ∈ pages, u.pageBorough q = p.borough % 32) ∧ (∀ q ∈ pages, u.weightInUse q = false) ∧ u.stackDown = none :=
  ⟨stacksUp, (stacksUp).begun (cmd 0x0304 [0x3FFFFFFF#32, 1#32, 7#32]), (cmd 0x0304 [0x3FFFFFFF#32, 1#32, 7#32]), 1, 1073741823, [65535], by decide +kernel⟩

theorem witness_BeamOpcodesComplete_status : ∃ (s u : State) (p : Packet) (b : Nat), s.Admits 0x0305 false p ∧ u = s.begun p ∧ Packet.sized p 4 = true ∧ b = Packet.word p 0 ∧ b < 4096 ∧ u.beamBorough b = p.borough % 32 :=
  ⟨ready, (ready).begun (cmd 0x0305 [4095#32]), (cmd 0x0305 [4095#32]), 4095, by decide +kernel⟩

theorem witness_BeamOpcodesComplete_load : ∃ (s u : State) (p : Packet), s.Admits 0x0306 false p ∧ u = s.begun p ∧ Packet.sized p 0 = true :=
  ⟨ready, (ready).begun (cmd 0x0306 []), (cmd 0x0306 []), by decide +kernel⟩

theorem witness_GridOpcodesComplete_define : ∃ (s u : State) (p : Packet) (g f num den : Nat) (w : State), s.Admits 0x0401 false p ∧ u = s.begun p ∧ Packet.sized p 28 = true ∧ g = Packet.arg p 0 1 ∧ f = Packet.arg p 1 1 ∧ num = Packet.arg p 16 8 ∧ den = Packet.arg p 24 4 ∧ g < 8 ∧ Packet.arg p 2 2 =
  0 ∧ mtArgOk p 4 = true ∧ p.borough % 32 = 0 ∧ gridLegal num den f = true ∧ u.gridBound g = 0 ∧ w = (((((u.wn (SYS_GRID_EP_FRAC
  g) (Packet.arg p 4 2)).wn (SYS_GRID_EP_NS g) (Packet.arg p 6 4)).wr64 (SYS_GRID_EP_SEC_LO g) (SYS_GRID_EP_SEC_HI g)
  (Packet.arg p 10 6)).wr64 (SYS_GRID_NUM_LO g) (SYS_GRID_NUM_HI g) num).wn (SYS_GRID_DEN g) den) :=
  ⟨ready, (ready).begun (cmd 0x0401 gridParams), (cmd 0x0401 gridParams), 7, 10, 1000000, 1, (((((ready.begun (cmd 0x0401 gridParams)).wn (SYS_GRID_EP_FRAC 7) 0).wn (SYS_GRID_EP_NS 7) 0).wr64 (SYS_GRID_EP_SEC_LO 7) (SYS_GRID_EP_SEC_HI 7) 0).wr64 (SYS_GRID_NUM_LO 7) (SYS_GRID_NUM_HI 7) 1000000).wn (SYS_GRID_DEN 7) 1, by decide +kernel⟩

theorem witness_GridOpcodesComplete_clear : ∃ (s u : State) (p : Packet) (g : Nat) (w : State), s.Admits 0x0402 false p ∧ u = s.begun p ∧ Packet.sized p 4 = true ∧ g =
  Packet.word p 0 ∧ g < 8 ∧ p.borough % 32 = 0 ∧ u.gridBound g = 0 ∧ w = { u with gridNext := mapPut 0 g 0 u.gridNext } :=
  ⟨ready, (ready).begun (cmd 0x0402 [7#32]), (cmd 0x0402 [7#32]), 7, { ready.begun (cmd 0x0402 [7#32]) with gridNext := [] }, by decide +kernel⟩

theorem witness_GridOpcodesComplete_bound : ∃ (s u : State) (p : Packet) (g : Nat), s.Admits 0x0402 false p ∧ u = s.begun p ∧ Packet.sized p 4 = true ∧ g = Packet.word p 0 ∧ g < 8 ∧ p.borough % 32 = 0 ∧ u.gridBound g ≠ 0 :=
  ⟨slotLive, (slotLive).begun (cmd 0x0402 [7#32]), (cmd 0x0402 [7#32]), 7, by decide +kernel⟩

theorem witness_GridOpcodesComplete_read : ∃ (s u : State) (p : Packet) (g : Nat), s.Admits 0x0403 false p ∧ u = s.begun p ∧ Packet.sized p 4 = true ∧ g = Packet.word p 0 ∧ g < 8 :=
  ⟨ready, (ready).begun (cmd 0x0403 [7#32]), (cmd 0x0403 [7#32]), 7, by decide +kernel⟩

theorem witness_GridOpcodesComplete_index : ∃ (s u : State) (p : Packet) (g k : Nat), s.Admits 0x0404 false p ∧ u = s.begun p ∧ Packet.sized p 16 = true ∧ g = Packet.word p
  0 ∧ g < 8 ∧ mtArgOk p 4 = true ∧ u.gridValid g = true ∧ k = u.gridIndexAt g (mtArg p 4) :=
  ⟨slotLive, (slotLive).begun (cmd 0x0404 [7#32, 0#32, 0#32, 5#32]), (cmd 0x0404 [7#32, 0#32, 0#32, 5#32]), 7, 327680000000, by decide +kernel⟩

theorem witness_QueueOpcodesComplete_config : ∃ (s u : State) (p : Packet) (q : Nat), s.Admits 0x0501 false p ∧ u = s.begun p ∧ Packet.sized p 28 = true ∧ Packet.wordsOk p 1
  (queRegs q) = true ∧ q = Packet.word p 0 ∧ q < 16384 ∧ u.get (QUE_CFG0_BOROUGH q) = p.borough % 32 ∧ (p.borough % 32 = 0 ∨ q <
  16128 ∧ u.tenantQueueOk (p.borough % 32) (Packet.word p 1) = true) ∧ u.get (QUE_STAT_STATE q) = 0 :=
  ⟨ready, (ready).begun (cmd 0x0501 queueParams), (cmd 0x0501 queueParams), 16383, by decide +kernel⟩

theorem witness_QueueOpcodesComplete_rewrite : ∃ (s u : State) (p : Packet) (q v : Nat), s.Admits 0x0501 false p ∧ u = s.begun p ∧ Packet.sized p 28 = true ∧ Packet.wordsOk p
  1 (queRegs q) = true ∧ q = Packet.word p 0 ∧ q < 16384 ∧ u.get (QUE_CFG0_BOROUGH q) = 0 ∧ p.borough % 32 = 0 ∧ u.get
  (QUE_STAT_STATE q) ≠ 0 ∧ v = Packet.word p 1 ∧ bits v 31 8 = bits (u.rn (QUE_CFG0 q)) 31 8 ∧ Packet.word p 2 = u.rn (QUE_CFG1
  q) ∧ Packet.word p 4 = u.rn (QUE_CFG3 q) ∧ Packet.word p 5 = u.rn (QUE_CFG4 q) ∧ Packet.word p 6 = u.rn (QUE_CFG5 q) ∧ bits v
  7 0 ≠ 0 :=
  ⟨(ready.put (QUE_STAT_STATE 16383) 1), ((ready.put (QUE_STAT_STATE 16383) 1)).begun (cmd 0x0501 queueParams), (cmd 0x0501 queueParams), 16383, 0x8, by decide +kernel⟩

theorem witness_QueueOpcodesComplete_enable : ∃ (s u : State) (p : Packet) (q : Nat), s.Admits 0x0502 false p ∧ u = s.begun p ∧ Packet.sized p 4 = true ∧ q = Packet.word p 0 ∧ q < 16128 ∧ u.get (QUE_CFG0_BOROUGH q) = p.borough % 32 ∧ (u.queEnable q).1 = 0 :=
  ⟨(((ready.put (QUE_CFG0_TYPE 0) 2).put (QUE_CFG0_WEIGHT 0) 1).put (QUE_CFG1_MIN 0) 0), ((((ready.put (QUE_CFG0_TYPE 0) 2).put (QUE_CFG0_WEIGHT 0) 1).put (QUE_CFG1_MIN 0) 0)).begun (cmd 0x0502 [0#32]), (cmd 0x0502 [0#32]), 0, by decide +kernel⟩

theorem witness_QueueOpcodesComplete_disable : ∃ (s u : State) (p : Packet) (q : Nat), s.Admits 0x0503 false p ∧ u = s.begun p ∧ Packet.sized p 4 = true ∧ q = Packet.word p 0 ∧ q < 16128 ∧ u.get (QUE_CFG0_BOROUGH q) = p.borough % 32 ∧ u.get (QUE_STAT_STATE q) = 1 ∧ u.queInUse q = false :=
  ⟨(ready.put (QUE_STAT_STATE 16127) 1), ((ready.put (QUE_STAT_STATE 16127) 1)).begun (cmd 0x0503 [16127#32]), (cmd 0x0503 [16127#32]), 16127, by decide +kernel⟩

theorem witness_QueueOpcodesComplete_flush : ∃ (s u : State) (p : Packet) (q : Nat) (r : Nat × State), s.Admits 0x0504 false p ∧ u = s.begun p ∧ Packet.sized p 4 = true ∧ q
  = Packet.word p 0 ∧ q < 16128 ∧ u.get (QUE_CFG0_BOROUGH q) = p.borough % 32 ∧ u.get (QUE_STAT_STATE q) ≠ 0 ∧ u.queInUse q =
  false ∧ r = (u.put (QUE_STAT_CODE q) 0).queEmpty q :=
  ⟨(ready.put (QUE_STAT_STATE 16127) 1), ((ready.put (QUE_STAT_STATE 16127) 1)).begun (cmd 0x0504 [16127#32]), (cmd 0x0504 [16127#32]), 16127, (((ready.put (QUE_STAT_STATE 16127) 1).begun (cmd 0x0504 [16127#32])).put (QUE_STAT_CODE 16127) 0).queEmpty 16127, by decide +kernel⟩

theorem witness_QueueOpcodesComplete_status : ∃ (s u : State) (p : Packet) (q : Nat), s.Admits 0x0505 false p ∧ u = s.begun p ∧ Packet.sized p 4 = true ∧ q = Packet.word p 0 ∧ q < 16384 ∧ u.get (QUE_CFG0_BOROUGH q) = 0 ∧ p.borough % 32 = 0 :=
  ⟨ready, (ready).begun (cmd 0x0505 [16383#32]), (cmd 0x0505 [16383#32]), 16383, by decide +kernel⟩

theorem witness_QueueOpcodesComplete_chain : ∃ (s u : State) (p : Packet) (q n : Nat) (l : List Nat), s.Admits 0x0506 false p ∧ u = s.begun p ∧ Packet.sized p 12 = true ∧ Packet.arg p 10 2 = 0 ∧ q = Packet.word p 0 ∧ n = Packet.arg p 8 2 ∧ 1 ≤ n ∧ n ≤ 500 ∧ q < 16384 ∧ u.get (QUE_CFG0_BOROUGH q)
  = 0 ∧ p.borough % 32 = 0 ∧ l = (((u.que q).chain.filter (fun x => x != holePlot)).drop (Packet.arg p 4 4)).take n :=
  ⟨({ ready with ques := ready.ques ++ [(16383, { chain := [8388608] })] } : State), (({ ready with ques := ready.ques ++ [(16383, { chain := [8388608] })] } : State)).begun (cmd 0x0506 [16383#32, 0#32, 500#32]), (cmd 0x0506 [16383#32, 0#32, 500#32]), 16383, 500, [8388608], by decide +kernel⟩

theorem witness_QueueOpcodesComplete_deliver : ∃ (s u : State) (p : Packet) (i size base vec : Nat), s.Admits 0x0507 false p ∧ u = s.begun p ∧ Packet.sized p 16 = true ∧ Packet.arg p 3 1 = 0 ∧ Packet.arg p 14 2 = 0 ∧ i = Packet.arg p 0 2 ∧ size = Packet.arg p 2 1 ∧ base = Packet.arg p 4 8 ∧ vec
  = Packet.arg p 12 2 ∧ i < 4096 ∧ base % 4096 = 0 ∧ (size = 0 ∨ 4 ≤ size ∧ size ≤ 18) ∧ (vec = 0xFFFF ∨ vec < vecCount
  (p.borough % 32)) ∧ u.ringNamed (p.borough % 32) i = false :=
  ⟨ready, (ready).begun (cmd 0x0507 [0x00120FFF#32, 0x1000#32, 0#32, 0x0000FFFF#32]), (cmd 0x0507 [0x00120FFF#32, 0x1000#32, 0#32, 0x0000FFFF#32]), 4095, 18, 4096, 65535, by decide +kernel⟩

theorem witness_QueueOpcodesComplete_plots : ∃ (s u : State) (p : Packet), s.Admits 0x0601 false p ∧ u = s.begun p ∧ Packet.sized p 0 = true :=
  ⟨ready, (ready).begun (cmd 0x0601 []), (cmd 0x0601 []), by decide +kernel⟩

theorem witness_QueueOpcodesComplete_escape : ∃ (s u : State) (p : Packet) (v : State), s.Admits 0x0602 false p ∧ u = s.begun p ∧ Packet.sized p 4 = true ∧ Packet.wordsOk p 0
  [PLT_ESC] = true ∧ p.borough % 32 = 0 ∧ u.escSet (bits (Packet.word p 0) 31 24) (bits (Packet.word p 0) 22 0) = some v :=
  ⟨ready, (ready).begun (cmd 0x0602 [0x01000001#32]), (cmd 0x0602 [0x01000001#32]), ((ready.begun (cmd 0x0602 [0x01000001#32])).escSet 1 1).getD ready, by decide +kernel⟩

theorem witness_QueueOpcodesComplete_low : ∃ (s u : State) (p : Packet), s.Admits 0x0603 false p ∧ u = s.begun p ∧ Packet.sized p 4 = true ∧ Packet.wordsOk p 0 [PLT_LOW] =
  true ∧ p.borough % 32 = 0 :=
  ⟨ready, (ready).begun (cmd 0x0603 [5#32]), (cmd 0x0603 [5#32]), by decide +kernel⟩

theorem witness_QueueOpcodesComplete_counters : ∃ (s u : State) (p : Packet), s.Admits 0x0604 false p ∧ u = s.begun p ∧ Packet.sized p 0 = true ∧ p.borough % 32 = 0 :=
  ⟨ready, (ready).begun (cmd 0x0604 []), (cmd 0x0604 []), by decide +kernel⟩

theorem witness_TimeOpcodesComplete_read : ∃ (s u : State) (p : Packet), s.Admits 0x0701 false p ∧ u = s.begun p ∧ Packet.sized p 0 = true :=
  ⟨ready, (ready).begun (cmd 0x0701 []), (cmd 0x0701 []), by decide +kernel⟩

theorem witness_TimeOpcodesComplete_adjust : ∃ (s u : State) (p : Packet) (ops ppb : Nat) (rate amt : Int), s.Admits 0x0702 false p ∧ u = s.begun p ∧ Packet.sized p 24 =
    true ∧ Packet.arg p 1 3 = 0 ∧ ops = Packet.arg p 0 1 ∧ rate = sext 64 (Packet.arg p 4 8) ∧ amt = sext 64 (Packet.arg p 12 8) ∧ ppb = Packet.arg p 20 4 ∧ ops < 64 ∧ ops % 2 = 0 ∧ p.borough % 32 = 0 ∧ u.isSet TB_ADJ_CTL_GO = false ∧ u.foldDue.adjCheck (adjOpsOf
    ops) rate amt ppb = 0 :=
  ⟨ready, (ready).begun (cmd 0x0702 [4#32, 0#32, 0#32, 0x10000#32, 0#32, 1000#32]), (cmd 0x0702 [4#32, 0#32, 0#32, 0x10000#32, 0#32, 1000#32]), 4, 1000, 0, 65536, by decide +kernel⟩

theorem witness_TimeOpcodesComplete_adjustRefused : ∃ (s u : State) (p : Packet) (ops ppb c : Nat) (rate amt : Int), s.Admits 0x0702 false p ∧ u = s.begun p ∧ Packet.sized p 24 =
    true ∧ Packet.arg p 1 3 = 0 ∧ ops = Packet.arg p 0 1 ∧ rate = sext 64 (Packet.arg p 4 8) ∧ amt = sext 64 (Packet.arg p 12 8) ∧ ppb = Packet.arg p 20 4 ∧ ops < 64 ∧ ops % 2 = 0 ∧ p.borough % 32 = 0 ∧ u.isSet TB_ADJ_CTL_GO = false ∧ c = u.foldDue.adjCheck
    (adjOpsOf ops) rate amt ppb ∧ c ≠ 0 :=
  ⟨ready, (ready).begun (cmd 0x0702 [20#32, 0#32, 0#32, 0x10000#32, 0#32, 1000#32]), (cmd 0x0702 [20#32, 0#32, 0#32, 0x10000#32, 0#32, 1000#32]), 20, 1000, 2, 0, 65536, by decide +kernel⟩

theorem witness_TimeOpcodesComplete_source : ∃ (s u : State) (p : Packet), s.Admits 0x0703 false p ∧ u = s.begun p ∧ Packet.sized p 12 = true ∧ Packet.wordsOk p 0 [TB_DISC,
  TB_QUAL, TB_HOLD_LIMIT] = true ∧ p.borough % 32 = 0 :=
  ⟨ready, (ready).begun (cmd 0x0703 (regParams [TB_DISC, TB_QUAL, TB_HOLD_LIMIT])), (cmd 0x0703 (regParams [TB_DISC, TB_QUAL, TB_HOLD_LIMIT])), by decide +kernel⟩

theorem witness_TimeOpcodesComplete_age : ∃ (s u : State) (p : Packet), s.Admits 0x0704 false p ∧ u = s.begun p ∧ Packet.sized p 4 = true ∧ Packet.wordsOk p 0 [TB_AGE] =
  true ∧ p.borough % 32 = 0 :=
  ⟨ready, (ready).begun (cmd 0x0704 [5#32]), (cmd 0x0704 [5#32]), by decide +kernel⟩

theorem witness_TimeOpcodesComplete_pps : ∃ (s u : State) (p : Packet), s.Admits 0x0705 false p ∧ u = s.begun p ∧ Packet.sized p 4 = true ∧ Packet.wordsOk p 0
  [TB_PPS_DELAY] = true ∧ p.borough % 32 = 0 :=
  ⟨ready, (ready).begun (cmd 0x0705 [5#32]), (cmd 0x0705 [5#32]), by decide +kernel⟩

theorem witness_TimeOpcodesComplete_utc : ∃ (s u : State) (p : Packet), s.Admits 0x0706 false p ∧ u = s.begun p ∧ Packet.sized p 4 = true ∧ Packet.wordsOk p 0
  [TB_TAI_UTC] = true ∧ p.borough % 32 = 0 :=
  ⟨ready, (ready).begun (cmd 0x0706 [37#32]), (cmd 0x0706 [37#32]), by decide +kernel⟩

theorem witness_TimeOpcodesComplete_status : ∃ (s u : State) (p : Packet), s.Admits 0x0707 false p ∧ u = s.begun p ∧ Packet.sized p 0 = true :=
  ⟨ready, (ready).begun (cmd 0x0707 []), (cmd 0x0707 []), by decide +kernel⟩

theorem witness_TimeOpcodesComplete_edge : ∃ (s u : State) (p : Packet) (n : Nat), s.Admits 0x0708 false p ∧ u = s.begun p ∧ Packet.sized p 12 = true ∧ n = Packet.word p 0 ∧ n < 16 ∧ Packet.wordsOk p 1 [TIM_EDGE_CFG n, TIM_EDGE_DELAY n] = true ∧ p.borough % 32 = 0 :=
  ⟨ready, (ready).begun (cmd 0x0708 (15#32 :: regParams [TIM_EDGE_CFG 15, TIM_EDGE_DELAY 15])), (cmd 0x0708 (15#32 :: regParams [TIM_EDGE_CFG 15, TIM_EDGE_DELAY 15])), 15, by decide +kernel⟩

theorem witness_TimeOpcodesComplete_freq : ∃ (s u : State) (p : Packet) (n : Nat), s.Admits 0x0709 false p ∧ u = s.begun p ∧ Packet.sized p 8 = true ∧ n = Packet.word p 0 ∧ n < 8 ∧ Packet.wordsOk p 1 [TIM_FREQ_CFG n] = true ∧ p.borough % 32 = 0 ∧ u.freqSrcReserved (bits (Packet.word p 1) 6 0) =
    false :=
  ⟨ready, (ready).begun (cmd 0x0709 (7#32 :: regParams [TIM_FREQ_CFG 7])), (cmd 0x0709 (7#32 :: regParams [TIM_FREQ_CFG 7])), 7, by decide +kernel⟩

theorem witness_TimeOpcodesComplete_freqRead : ∃ (s u : State) (p : Packet) (k : Nat), s.Admits 0x070A false p ∧ u = s.begun p ∧ Packet.sized p 4 = true ∧ k = Packet.word p 0 ∧ k < 8 ∧ p.borough % 32 = 0 :=
  ⟨ready, (ready).begun (cmd 0x070A [7#32]), (cmd 0x070A [7#32]), 7, by decide +kernel⟩

theorem witness_TimeOpcodesComplete_ptm : ∃ (s u : State) (p : Packet), s.Admits 0x070B false p ∧ u = s.begun p ∧ Packet.sized p 4 = true ∧ Packet.wordsOk p 0
  [SYS_PTM_CTL] = true ∧ p.borough % 32 = 0 :=
  ⟨ready, (ready).begun (cmd 0x070B [0x80000000#32]), (cmd 0x070B [0x80000000#32]), by decide +kernel⟩

theorem witness_TriggerOpcodesComplete_arm : ∃ (s u : State) (p : Packet) (x : Nat) (v : State), s.Admits 0x0801 false p ∧ u = s.begun p ∧ Packet.sized p 28 = true ∧ x =
  Packet.word p 0 ∧ x < 64 ∧ Packet.wordsOk p 1 (trgRegs x) = true ∧ p.borough % 32 = 0 ∧ u.get (TRG_OUT_STAT_STATE x) = 0 ∧ v =
  ((trgRegs x).zip (p.params.drop 1)).foldl (fun (s : State) (y : Reg × Word) => s.mergeRaw y.1.key ⟨0, 15, y.2⟩) u ∧ v.get
  (TRG_OUT_CFG_ARM x) ≠ 0 ∧ (v.trgArm x).1 = 0 :=
  ⟨ready, (ready).begun (cmd 0x0801 trigParams), (cmd 0x0801 trigParams), 63, ((trgRegs 63).zip (trigParams.drop 1)).foldl (fun (s : State) (y : Reg × Word) => s.mergeRaw y.1.key ⟨0, 15, y.2⟩) (ready.begun (cmd 0x0801 trigParams)), by decide +kernel⟩

theorem witness_TriggerOpcodesComplete_armed : ∃ (s u : State) (p : Packet) (x : Nat), s.Admits 0x0801 false p ∧ u = s.begun p ∧ Packet.sized p 28 = true ∧ x = Packet.word p 0 ∧ x < 64 ∧ Packet.wordsOk p 1 (trgRegs x) = true ∧ p.borough % 32 = 0 ∧ u.get (TRG_OUT_STAT_STATE x) ≠ 0 :=
  ⟨(ready.put (TRG_OUT_STAT_STATE 63) 1), ((ready.put (TRG_OUT_STAT_STATE 63) 1)).begun (cmd 0x0801 trigParams), (cmd 0x0801 trigParams), 63, by decide +kernel⟩

theorem witness_TriggerOpcodesComplete_disarm : ∃ (s u : State) (p : Packet) (x : Nat), s.Admits 0x0802 false p ∧ u = s.begun p ∧ Packet.sized p 4 = true ∧ x = Packet.word p 0 ∧ x < 64 ∧ p.borough % 32 = 0 :=
  ⟨ready, (ready).begun (cmd 0x0802 [63#32]), (cmd 0x0802 [63#32]), 63, by decide +kernel⟩

theorem witness_TriggerOpcodesComplete_fire : ∃ (s u : State) (p : Packet) (x : Nat), s.Admits 0x0803 false p ∧ u = s.begun p ∧ Packet.sized p 16 = true ∧ x = Packet.arg p 0
  1 ∧ x < 64 ∧ Packet.arg p 1 1 = 1 ∧ Packet.arg p 2 2 = 0 ∧ mtArgOk p 4 = true ∧ Packet.arg p 4 12 = 0 ∧ p.borough % 32 = 0 ∧ u.get (TRG_OUT_CFG_SRC x) = 22 :=
  ⟨(ready.put (TRG_OUT_CFG_SRC 63) 22), ((ready.put (TRG_OUT_CFG_SRC 63) 22)).begun (cmd 0x0803 [0x13F#32, 0#32, 0#32, 0#32]), (cmd 0x0803 [0x13F#32, 0#32, 0#32, 0#32]), 63, by decide +kernel⟩

theorem witness_TriggerOpcodesComplete_fireAt : ∃ (s u : State) (p : Packet) (x : Nat), s.Admits 0x0803 false p ∧ u = s.begun p ∧ Packet.sized p 16 = true ∧ x = Packet.arg p 0
  1 ∧ x < 64 ∧ Packet.arg p 1 1 = 0 ∧ Packet.arg p 2 2 = 0 ∧ mtArgOk p 4 = true ∧ p.borough % 32 = 0 ∧ u.get (TRG_OUT_CFG_SRC x)
  = 22 :=
  ⟨(ready.put (TRG_OUT_CFG_SRC 63) 22), ((ready.put (TRG_OUT_CFG_SRC 63) 22)).begun (cmd 0x0803 [63#32, 0#32, 0#32, 5#32]), (cmd 0x0803 [63#32, 0#32, 0#32, 5#32]), 63, by decide +kernel⟩

theorem witness_TriggerOpcodesComplete_skew : ∃ (s u : State) (p : Packet) (n : Nat), s.Admits 0x0804 false p ∧ u = s.begun p ∧ Packet.sized p 8 = true ∧ n = Packet.word p 0 ∧ n < 21 ∧ Packet.wordsOk p 1 [TRG_SRC_SKEW n] = true ∧ p.borough % 32 = 0 :=
  ⟨ready, (ready).begun (cmd 0x0804 [20#32, 0#32]), (cmd 0x0804 [20#32, 0#32]), 20, by decide +kernel⟩

theorem witness_TriggerOpcodesComplete_ring : ∃ (s u : State) (p : Packet), s.Admits 0x0805 false p ∧ u = s.begun p ∧ Packet.sized p 132 = true ∧ Packet.wordsOk p 0
  [TRG_RING_CTL] = true ∧ p.borough % 32 = 0 :=
  ⟨ready, (ready).begun (cmd 0x0805 (0x0C000000#32 :: List.replicate 32 0xFFFFFFFF#32)), (cmd 0x0805 (0x0C000000#32 :: List.replicate 32 0xFFFFFFFF#32)), by decide +kernel⟩

theorem witness_TriggerOpcodesComplete_capset : ∃ (s u : State) (p : Packet) (n : Nat), s.Admits 0x0806 false p ∧ u = s.begun p ∧ Packet.sized p 132 = true ∧ n = Packet.word p
  0 ∧ n < 16 ∧ p.borough % 32 = 0 ∧ (∀ x < 64, u.get (TRG_OUT_STAT_STATE x) = 0) :=
  ⟨ready, (ready).begun (cmd 0x0806 (15#32 :: List.replicate 32 1#32)), (cmd 0x0806 (15#32 :: List.replicate 32 1#32)), 15, by decide +kernel⟩

theorem witness_TriggerOpcodesComplete_net : ∃ (s u : State) (p : Packet), s.Admits 0x0807 false p ∧ u = s.begun p ∧ Packet.sized p 4 = true ∧ Packet.wordsOk p 0 [TRG_NET] =
  true ∧ p.borough % 32 = 0 :=
  ⟨ready, (ready).begun (cmd 0x0807 (regParams [TRG_NET])), (cmd 0x0807 (regParams [TRG_NET])), by decide +kernel⟩

theorem witness_TriggerOpcodesComplete_stream : ∃ (s u : State) (p : Packet), s.Admits 0x0808 false p ∧ u = s.begun p ∧ Packet.sized p 4 = true ∧ Packet.wordsOk p 0 [TRG_CTL] =
  true ∧ p.borough % 32 = 0 ∧ bit (Packet.word p 0) 15 = false :=
  ⟨ready, (ready).begun (cmd 0x0808 [0#32]), (cmd 0x0808 [0#32]), by decide +kernel⟩

theorem witness_TriggerOpcodesComplete_status : ∃ (s u : State) (p : Packet) (x : Nat), s.Admits 0x0809 false p ∧ u = s.begun p ∧ Packet.sized p 4 = true ∧ x = Packet.word p 0 ∧ x < 64 ∧ p.borough % 32 = 0 :=
  ⟨ready, (ready).begun (cmd 0x0809 [63#32]), (cmd 0x0809 [63#32]), 63, by decide +kernel⟩

theorem witness_CalibrationOpcodesComplete_repair : ∃ (s u : State) (p : Packet) (n : Nat) (okA : Bool), s.Admits 0x0901 false p ∧ u = s.begun p ∧ Packet.sized p 4 = true ∧ n =
    Packet.word p 0 ∧ n < 32 ∧ p.borough % 32 = 0 ∧ u.pageFitted n = true ∧ u.isSet (CAL_PAGE_STAT_A_OK n) = okA ∧ u.isSet
    (CAL_PAGE_STAT_B_OK n) = !okA :=
  ⟨((ready.put (CAL_PAGE_STAT_A_OK 0) 1).put (CAL_PAGE_STAT_B_OK 0) 0), (((ready.put (CAL_PAGE_STAT_A_OK 0) 1).put (CAL_PAGE_STAT_B_OK 0) 0)).begun (cmd 0x0901 [0#32]), (cmd 0x0901 [0#32]), 0, true, by decide +kernel⟩

theorem witness_CalibrationOpcodesComplete_measure : ∃ (s u : State) (p : Packet) (c g q avg sl : Nat), s.Admits 0x0902 false p ∧ u = s.begun p ∧ Packet.sized p 8 = true ∧ Packet.arg p 6 2 = 0 ∧ c = Packet.arg p 0 1 ∧ g = Packet.arg p 1 1 ∧ q = Packet.arg p 2 1 ∧ avg = Packet.arg p 3 1 ∧ sl =
  Packet.arg p 4 2 ∧ p.borough % 32 = 0 ∧ u.awake 91 = true ∧ c < 17 ∧ u.calBusy c = false ∧ q < 32 ∧ u.excState q = 2 ∧ g ≤ 3 ∧ avg ≤ 8 ∧ 5 ≤ sl ∧ sl ≤ 1000 :=
  ⟨calReady, (calReady).begun (cmd 0x0902 [0x081F0310#32, 1000#32]), (cmd 0x0902 [0x081F0310#32, 1000#32]), 16, 3, 31, 8, 1000, by decide +kernel⟩

theorem witness_CalibrationOpcodesComplete_write : ∃ (s u : State) (p : Packet) (n : Nat) (x : TrimCopy), s.Admits 0x0903 true p ∧ u = s.begun p ∧ n = Packet.arg p 0 1 ∧ Packet.sized p (4 + 8 * n) = true ∧ Packet.arg p 1 3 = 0 ∧ 1 ≤ n ∧ n ≤ 68 ∧ (∀ i < n, Packet.arg p (4 + 8 * i) 1 < 17 ∧
  Packet.arg p (5 + 8 * i) 1 < 4 ∧ Packet.arg p (10 + 8 * i) 2 = 0) ∧ p.borough % 32 = 0 ∧ (∀ i < n, u.userSumOk p i = true) ∧ u.userPage.1 < 2 ^ 32 - 1 ∧ u.feLate p = 0 ∧ x.seq = u.userPage.1 + 1 ∧ x.written = some ((u.mt / (mtSec : Int)).toNat % 2 ^
  48) ∧ x.words = userWords p u.userPage.2 ∧ x.ok = true :=
  ⟨userReady, (userReady).begun (cmd 0x0903 [1#32, 0x00010310#32, 1#32]), (cmd 0x0903 [1#32, 0x00010310#32, 1#32]), 1, { seq := 6, written := some 0, words := [] }, by decide +kernel⟩

theorem witness_CalibrationOpcodesComplete_tim : ∃ (s u : State) (p : Packet) (n : Nat), s.Admits 0x0904 false p ∧ u = s.begun p ∧ Packet.sized p 4 = true ∧ n = Packet.word p 0 ∧ n < 16 ∧ p.borough % 32 = 0 ∧ u.awake 93 = true ∧ u.isSet (TIM_CORE_STAT_RUNNING (u.coreOf n)) = false :=
  ⟨(ready.put (PWR_DOM_STATE 93) 0), ((ready.put (PWR_DOM_STATE 93) 0)).begun (cmd 0x0904 [15#32]), (cmd 0x0904 [15#32]), 15, by decide +kernel⟩

theorem witness_CalibrationOpcodesComplete_timPeriod : ∃ (s u : State) (p : Packet), s.Admits 0x0905 false p ∧ u = s.begun p ∧ Packet.sized p 4 = true ∧ Packet.arg p 2 2 = 0 ∧ p.borough % 32 = 0 :=
  ⟨ready, (ready).begun (cmd 0x0905 [0xFFFF#32]), (cmd 0x0905 [0xFFFF#32]), by decide +kernel⟩

theorem witness_CalibrationOpcodesComplete_trim : ∃ (s u : State) (p : Packet) (v : State) (i sl : Nat), s.Admits 0x0906 true p ∧ u = s.begun p ∧ Packet.sized p 8 = true ∧ i =
    Packet.arg p 0 2 ∧ sl = Packet.arg p 2 1 ∧ Packet.arg p 3 1 = 0 ∧ i < u.part.inputs ∧ sl < 17 ∧ Packet.word p 1 < 2 ^ 29 ∧ p.borough % 32 = 0 ∧ u.sub (iTrim i sl) 31 29 ≠ 3 ∧ u.surveyActive i = false ∧ u.governSlot i = none ∧ v = u.setSub (iTrim i
    sl) 28 0 (Packet.word p 1) :=
  ⟨(ready.setSub (gCtl 0) 4 4 0), ((ready.setSub (gCtl 0) 4 4 0)).begun (cmd 0x0906 [0x00100000#32, 0x1FFFFFFF#32]), (cmd 0x0906 [0x00100000#32, 0x1FFFFFFF#32]), ((ready.setSub (gCtl 0) 4 4 0).begun (cmd 0x0906 [0x00100000#32, 0x1FFFFFFF#32])).setSub (iTrim 0 16) 28 0 0x1FFFFFFF, 0, 16, by decide +kernel⟩

theorem witness_CalibrationOpcodesComplete_survey : ∃ (s u : State) (p : Packet) (g en d : Nat), s.Admits 0x0907 false p ∧ u = s.begun p ∧ Packet.sized p 4 = true ∧ g = Packet.arg
    p 0 1 ∧ en = Packet.arg p 1 1 ∧ d = Packet.arg p 2 2 ∧ g < 24 ∧ g < u.part.groups ∧ boolByte en = true ∧ 10 ≤ d ∧ d ≤ 1000 ∧ p.borough % 32 = 0 :=
  ⟨ready, (ready).begun (cmd 0x0907 [0x03E80117#32]), (cmd 0x0907 [0x03E80117#32]), 23, 1, 1000, by decide +kernel⟩

theorem witness_CalibrationOpcodesComplete_step : ∃ (s u : State) (p : Packet) (i : Nat), s.Admits 0x0908 false p ∧ u = s.begun p ∧ Packet.sized p 4 = true ∧ i = Packet.arg p 0 2 ∧ i < u.part.inputs ∧ Packet.arg p 2 2 = 0 ∧ p.borough % 32 = 0 ∧ u.sub (iStat i) 21 20 = 2 :=
  ⟨(ready.setSub (iStat 5) 21 20 2), ((ready.setSub (iStat 5) 21 20 2)).begun (cmd 0x0908 [5#32]), (cmd 0x0908 [5#32]), 5, by decide +kernel⟩

theorem witness_CalibrationOpcodesComplete_page : ∃ (s u : State) (p : Packet) (n c off : Nat), s.Admits 0x0909 false p ∧ u = s.begun p ∧ Packet.sized p 8 = true ∧ n = Packet.arg
    p 0 1 ∧ c = Packet.arg p 1 1 ∧ off = Packet.arg p 2 2 ∧ Packet.arg p 4 2 = 4 ∧ Packet.arg p 6 2 = 0 ∧ n < 32 ∧ c < 2 ∧ p.borough % 32 = 0 ∧ u.pageFitted n = true ∧ off % 4 = 0 ∧ off ≤ 8188 ∧ (u.trimCopy n c).ok = true :=
  ⟨ready, (ready).begun (cmd 0x0909 [0#32, 4#32]), (cmd 0x0909 [0#32, 4#32]), 0, 0, 0, by decide +kernel⟩

theorem witness_FrontEndOpcodesComplete_excitation : ∃ (s u : State) (p : Packet) (n : Nat) (vals : List SVal) (w : State) (v : State), s.Admits 0x0A03 true p ∧ u = s.begun p ∧ Packet.sized p 8 = true ∧ n = Packet.word p 0 ∧ n < 32 ∧ Packet.wordsOk p 1 [SFE_EXC_CTL n] = true ∧ p.borough % 32 = 0 ∧ vals
    = packetVals p 1 [SFE_EXC_CTL n] ∧ u.feState = 0 ∧ u.feCheck 2 u.feGridOpt 0 (overlay u.feNext vals) = 0 ∧ w = (vals.foldl
    (fun (s : State) v => s.mergeRaw v.key (pf v.val)) u).feCode 0 ∧ u.rangeChanges vals = [] ∧ w.feState = 0 ∧ v = w.feApply w.mt
    0 vals :=
  ⟨feIdle, (feIdle).begun (cmd 0x0A03 (31#32 :: regParams [SFE_EXC_CTL 31])), (cmd 0x0A03 (31#32 :: regParams [SFE_EXC_CTL 31])), 31, packetVals (cmd 0x0A03 (31#32 :: regParams [SFE_EXC_CTL 31])) 1 [SFE_EXC_CTL 31], (packetVals (cmd 0x0A03 (31#32 :: regParams [SFE_EXC_CTL 31])) 1 [SFE_EXC_CTL 31]).foldl (fun (s : State) v => s.mergeRaw v.key (pf v.val)) ((feIdle).begun (cmd 0x0A03 (31#32 :: regParams [SFE_EXC_CTL 31]))) |>.feCode 0, let w := ((packetVals (cmd 0x0A03 (31#32 :: regParams [SFE_EXC_CTL 31])) 1 [SFE_EXC_CTL 31]).foldl (fun (s : State) v => s.mergeRaw v.key (pf v.val)) ((feIdle).begun (cmd 0x0A03 (31#32 :: regParams [SFE_EXC_CTL 31]))) |>.feCode 0); w.feApply w.mt 0 (packetVals (cmd 0x0A03 (31#32 :: regParams [SFE_EXC_CTL 31])) 1 [SFE_EXC_CTL 31]), by decide +kernel⟩

theorem witness_FrontEndOpcodesComplete_excitationStaged : ∃ (s u : State) (p : Packet) (n : Nat) (vals : List SVal) (w : State) (k : Nat), s.Admits 0x0A03 true p ∧ u = s.begun p ∧ Packet.sized p 8 = true ∧ n = Packet.word p 0 ∧ n < 32 ∧ Packet.wordsOk p 1 [SFE_EXC_CTL n] = true ∧ p.borough % 32 = 0 ∧ vals
    = packetVals p 1 [SFE_EXC_CTL n] ∧ u.feState ≠ 0 ∧ u.stageIndex u.feGrid (Packet.act p) = some k ∧ u.feCheck 2 u.feGridOpt k
    (overlay u.feNext vals) = 0 ∧ w = (vals.foldl (fun (s : State) v => s.mergeRaw v.key (pf v.val)) u).feCode 0 ∧ u.rangeChanges
    vals = [] ∧ w.feState ≠ 0 :=
  ⟨feLive, (feLive).begun (cmd 0x0A03 (31#32 :: regParams [SFE_EXC_CTL 31])), (cmd 0x0A03 (31#32 :: regParams [SFE_EXC_CTL 31])), 31, packetVals (cmd 0x0A03 (31#32 :: regParams [SFE_EXC_CTL 31])) 1 [SFE_EXC_CTL 31], (packetVals (cmd 0x0A03 (31#32 :: regParams [SFE_EXC_CTL 31])) 1 [SFE_EXC_CTL 31]).foldl (fun (s : State) v => s.mergeRaw v.key (pf v.val)) ((feLive).begun (cmd 0x0A03 (31#32 :: regParams [SFE_EXC_CTL 31]))) |>.feCode 0, feLive.askedIndex 7 (cmd 0x0A03 []), by decide +kernel⟩

theorem witness_FrontEndOpcodesComplete_channel : ∃ (s u : State) (p : Packet) (n : Nat) (vals : List SVal) (w : State) (v : State), s.Admits 0x0A04 true p ∧ u = s.begun p ∧ Packet.sized p 8 = true ∧ n = Packet.word p 0 ∧ n < 128 ∧ Packet.wordsOk p 1 [SFE_CH_CFG n] = true ∧ p.borough % 32 = 0 ∧ vals
    = packetVals p 1 [SFE_CH_CFG n] ∧ u.feState = 0 ∧ u.feCheck 2 u.feGridOpt 0 (overlay u.feNext vals) = 0 ∧ w = (vals.foldl (fun
    (s : State) v => s.mergeRaw v.key (pf v.val)) u).feCode 0 ∧ u.rangeChanges vals = [] ∧ w.feState = 0 ∧ v = w.feApply w.mt 0
    vals :=
  ⟨feIdle, (feIdle).begun (cmd 0x0A04 (127#32 :: regParams [SFE_CH_CFG 127])), (cmd 0x0A04 (127#32 :: regParams [SFE_CH_CFG 127])), 127, packetVals (cmd 0x0A04 (127#32 :: regParams [SFE_CH_CFG 127])) 1 [SFE_CH_CFG 127], (packetVals (cmd 0x0A04 (127#32 :: regParams [SFE_CH_CFG 127])) 1 [SFE_CH_CFG 127]).foldl (fun (s : State) v => s.mergeRaw v.key (pf v.val)) ((feIdle).begun (cmd 0x0A04 (127#32 :: regParams [SFE_CH_CFG 127]))) |>.feCode 0, let w := ((packetVals (cmd 0x0A04 (127#32 :: regParams [SFE_CH_CFG 127])) 1 [SFE_CH_CFG 127]).foldl (fun (s : State) v => s.mergeRaw v.key (pf v.val)) ((feIdle).begun (cmd 0x0A04 (127#32 :: regParams [SFE_CH_CFG 127]))) |>.feCode 0); w.feApply w.mt 0 (packetVals (cmd 0x0A04 (127#32 :: regParams [SFE_CH_CFG 127])) 1 [SFE_CH_CFG 127]), by decide +kernel⟩

theorem witness_FrontEndOpcodesComplete_channelStaged : ∃ (s u : State) (p : Packet) (n : Nat) (vals : List SVal) (w : State) (k : Nat), s.Admits 0x0A04 true p ∧ u = s.begun p ∧ Packet.sized p 8 = true ∧ n = Packet.word p 0 ∧ n < 128 ∧ Packet.wordsOk p 1 [SFE_CH_CFG n] = true ∧ p.borough % 32 = 0 ∧ vals
    = packetVals p 1 [SFE_CH_CFG n] ∧ u.feState ≠ 0 ∧ u.stageIndex u.feGrid (Packet.act p) = some k ∧ u.feCheck 2 u.feGridOpt k
    (overlay u.feNext vals) = 0 ∧ w = (vals.foldl (fun (s : State) v => s.mergeRaw v.key (pf v.val)) u).feCode 0 ∧ u.rangeChanges
    vals = [] ∧ w.feState ≠ 0 :=
  ⟨feLive, (feLive).begun (cmd 0x0A04 (127#32 :: regParams [SFE_CH_CFG 127])), (cmd 0x0A04 (127#32 :: regParams [SFE_CH_CFG 127])), 127, packetVals (cmd 0x0A04 (127#32 :: regParams [SFE_CH_CFG 127])) 1 [SFE_CH_CFG 127], (packetVals (cmd 0x0A04 (127#32 :: regParams [SFE_CH_CFG 127])) 1 [SFE_CH_CFG 127]).foldl (fun (s : State) v => s.mergeRaw v.key (pf v.val)) ((feLive).begun (cmd 0x0A04 (127#32 :: regParams [SFE_CH_CFG 127]))) |>.feCode 0, feLive.askedIndex 7 (cmd 0x0A03 []), by decide +kernel⟩

theorem witness_FrontEndOpcodesComplete_sequence : ∃ (s u : State) (p : Packet) (n : Nat) (vals : List SVal) (w : State) (v : State), s.Admits 0x0A05 true p ∧ u = s.begun p ∧ Packet.sized p 72 = true ∧ n = Packet.word p 0 ∧ n < 16 ∧ Packet.wordsOk p 1 (PCV_SEQ_CTL n :: (List.range 16).map (fun e =>
    PCV_SEQ n e)) = true ∧ p.borough % 32 = 0 ∧ vals = packetVals p 1 (PCV_SEQ_CTL n :: (List.range 16).map (fun e => PCV_SEQ n
    e)) ∧ u.feState = 0 ∧ u.feCheck 2 u.feGridOpt 0 (overlay u.feNext vals) = 0 ∧ w = (vals.foldl (fun (s : State) v => s.mergeRaw
    v.key (pf v.val)) u).feCode 0 ∧ u.rangeChanges vals = [] ∧ w.feState = 0 ∧ v = w.feApply w.mt 0 vals :=
  ⟨feIdle, (feIdle).begun (cmd 0x0A05 (15#32 :: regParams (PCV_SEQ_CTL 15 :: (List.range 16).map (fun e => PCV_SEQ 15 e)))), (cmd 0x0A05 (15#32 :: regParams (PCV_SEQ_CTL 15 :: (List.range 16).map (fun e => PCV_SEQ 15 e)))), 15, packetVals (cmd 0x0A05 (15#32 :: regParams (PCV_SEQ_CTL 15 :: (List.range 16).map (fun e => PCV_SEQ 15 e)))) 1 (PCV_SEQ_CTL 15 :: (List.range 16).map (fun e => PCV_SEQ 15 e)), (packetVals (cmd 0x0A05 (15#32 :: regParams (PCV_SEQ_CTL 15 :: (List.range 16).map (fun e => PCV_SEQ 15 e)))) 1 (PCV_SEQ_CTL 15 :: (List.range 16).map (fun e => PCV_SEQ 15 e))).foldl (fun (s : State) v => s.mergeRaw v.key (pf v.val)) ((feIdle).begun (cmd 0x0A05 (15#32 :: regParams (PCV_SEQ_CTL 15 :: (List.range 16).map (fun e => PCV_SEQ 15 e))))) |>.feCode 0, let w := ((packetVals (cmd 0x0A05 (15#32 :: regParams (PCV_SEQ_CTL 15 :: (List.range 16).map (fun e => PCV_SEQ 15 e)))) 1 (PCV_SEQ_CTL 15 :: (List.range 16).map (fun e => PCV_SEQ 15 e))).foldl (fun (s : State) v => s.mergeRaw v.key (pf v.val)) ((feIdle).begun (cmd 0x0A05 (15#32 :: regParams (PCV_SEQ_CTL 15 :: (List.range 16).map (fun e => PCV_SEQ 15 e))))) |>.feCode 0); w.feApply w.mt 0 (packetVals (cmd 0x0A05 (15#32 :: regParams (PCV_SEQ_CTL 15 :: (List.range 16).map (fun e => PCV_SEQ 15 e)))) 1 (PCV_SEQ_CTL 15 :: (List.range 16).map (fun e => PCV_SEQ 15 e))), by decide +kernel⟩

theorem witness_FrontEndOpcodesComplete_sequenceStaged : ∃ (s u : State) (p : Packet) (n : Nat) (vals : List SVal) (w : State) (k : Nat), s.Admits 0x0A05 true p ∧ u = s.begun p ∧ Packet.sized p 72 = true ∧ n = Packet.word p 0 ∧ n < 16 ∧ Packet.wordsOk p 1 (PCV_SEQ_CTL n :: (List.range 16).map (fun e =>
    PCV_SEQ n e)) = true ∧ p.borough % 32 = 0 ∧ vals = packetVals p 1 (PCV_SEQ_CTL n :: (List.range 16).map (fun e => PCV_SEQ n
    e)) ∧ u.feState ≠ 0 ∧ u.stageIndex u.feGrid (Packet.act p) = some k ∧ u.feCheck 2 u.feGridOpt k (overlay u.feNext vals) = 0 ∧ w = (vals.foldl (fun (s : State) v => s.mergeRaw v.key (pf v.val)) u).feCode 0 ∧ u.rangeChanges vals = [] ∧ w.feState ≠ 0 :=
  ⟨feLive, (feLive).begun (cmd 0x0A05 (15#32 :: regParams (PCV_SEQ_CTL 15 :: (List.range 16).map (fun e => PCV_SEQ 15 e)))), (cmd 0x0A05 (15#32 :: regParams (PCV_SEQ_CTL 15 :: (List.range 16).map (fun e => PCV_SEQ 15 e)))), 15, packetVals (cmd 0x0A05 (15#32 :: regParams (PCV_SEQ_CTL 15 :: (List.range 16).map (fun e => PCV_SEQ 15 e)))) 1 (PCV_SEQ_CTL 15 :: (List.range 16).map (fun e => PCV_SEQ 15 e)), (packetVals (cmd 0x0A05 (15#32 :: regParams (PCV_SEQ_CTL 15 :: (List.range 16).map (fun e => PCV_SEQ 15 e)))) 1 (PCV_SEQ_CTL 15 :: (List.range 16).map (fun e => PCV_SEQ 15 e))).foldl (fun (s : State) v => s.mergeRaw v.key (pf v.val)) ((feLive).begun (cmd 0x0A05 (15#32 :: regParams (PCV_SEQ_CTL 15 :: (List.range 16).map (fun e => PCV_SEQ 15 e))))) |>.feCode 0, feLive.askedIndex 7 (cmd 0x0A03 []), by decide +kernel⟩

theorem witness_FrontEndOpcodesComplete_route : ∃ (s u : State) (p : Packet) (n : Nat) (vals : List SVal) (w : State) (v : State), s.Admits 0x0A06 true p ∧ u = s.begun p ∧ Packet.sized p 8 = true ∧ n = Packet.word p 0 ∧ n < 16 ∧ Packet.wordsOk p 1 [SFE_ROUTE n] = true ∧ p.borough % 32 = 0 ∧ vals =
    packetVals p 1 [SFE_ROUTE n] ∧ u.feState = 0 ∧ u.feCheck 2 u.feGridOpt 0 (overlay u.feNext vals) = 0 ∧ w = (vals.foldl (fun (s
    : State) v => s.mergeRaw v.key (pf v.val)) u).feCode 0 ∧ u.rangeChanges vals = [] ∧ w.feState = 0 ∧ v = w.feApply w.mt 0 vals :=
  ⟨feIdle, (feIdle).begun (cmd 0x0A06 (15#32 :: regParams [SFE_ROUTE 15])), (cmd 0x0A06 (15#32 :: regParams [SFE_ROUTE 15])), 15, packetVals (cmd 0x0A06 (15#32 :: regParams [SFE_ROUTE 15])) 1 [SFE_ROUTE 15], (packetVals (cmd 0x0A06 (15#32 :: regParams [SFE_ROUTE 15])) 1 [SFE_ROUTE 15]).foldl (fun (s : State) v => s.mergeRaw v.key (pf v.val)) ((feIdle).begun (cmd 0x0A06 (15#32 :: regParams [SFE_ROUTE 15]))) |>.feCode 0, let w := ((packetVals (cmd 0x0A06 (15#32 :: regParams [SFE_ROUTE 15])) 1 [SFE_ROUTE 15]).foldl (fun (s : State) v => s.mergeRaw v.key (pf v.val)) ((feIdle).begun (cmd 0x0A06 (15#32 :: regParams [SFE_ROUTE 15]))) |>.feCode 0); w.feApply w.mt 0 (packetVals (cmd 0x0A06 (15#32 :: regParams [SFE_ROUTE 15])) 1 [SFE_ROUTE 15]), by decide +kernel⟩

theorem witness_FrontEndOpcodesComplete_routeStaged : ∃ (s u : State) (p : Packet) (n : Nat) (vals : List SVal) (w : State) (k : Nat), s.Admits 0x0A06 true p ∧ u = s.begun p ∧ Packet.sized p 8 = true ∧ n = Packet.word p 0 ∧ n < 16 ∧ Packet.wordsOk p 1 [SFE_ROUTE n] = true ∧ p.borough % 32 = 0 ∧ vals =
    packetVals p 1 [SFE_ROUTE n] ∧ u.feState ≠ 0 ∧ u.stageIndex u.feGrid (Packet.act p) = some k ∧ u.feCheck 2 u.feGridOpt k
    (overlay u.feNext vals) = 0 ∧ w = (vals.foldl (fun (s : State) v => s.mergeRaw v.key (pf v.val)) u).feCode 0 ∧ u.rangeChanges
    vals = [] ∧ w.feState ≠ 0 :=
  ⟨feLive, (feLive).begun (cmd 0x0A06 (15#32 :: regParams [SFE_ROUTE 15])), (cmd 0x0A06 (15#32 :: regParams [SFE_ROUTE 15])), 15, packetVals (cmd 0x0A06 (15#32 :: regParams [SFE_ROUTE 15])) 1 [SFE_ROUTE 15], (packetVals (cmd 0x0A06 (15#32 :: regParams [SFE_ROUTE 15])) 1 [SFE_ROUTE 15]).foldl (fun (s : State) v => s.mergeRaw v.key (pf v.val)) ((feLive).begun (cmd 0x0A06 (15#32 :: regParams [SFE_ROUTE 15]))) |>.feCode 0, feLive.askedIndex 7 (cmd 0x0A03 []), by decide +kernel⟩

theorem witness_FrontEndOpcodesComplete_lin : ∃ (s u : State) (p : Packet) (n : Nat) (vals : List SVal) (w : State) (v : State), s.Admits 0x0A08 true p ∧ u = s.begun p ∧ Packet.sized p 100 = true ∧ n = Packet.word p 0 ∧ n < 128 ∧ Packet.wordsOk p 1 ((List.range 24).map (fun i => SFE_LIN n i)) =
    true ∧ p.borough % 32 = 0 ∧ vals = packetVals p 1 ((List.range 24).map (fun i => SFE_LIN n i)) ∧ u.feState = 0 ∧ u.feCheck 2
    u.feGridOpt 0 (overlay u.feNext vals) = 0 ∧ w = (vals.foldl (fun (s : State) v => s.mergeRaw v.key (pf v.val)) u).feCode 0 ∧ u.rangeChanges vals = [] ∧ w.feState = 0 ∧ v = w.feApply w.mt 0 vals :=
  ⟨feIdle, (feIdle).begun (cmd 0x0A08 (127#32 :: regParams ((List.range 24).map (fun i => SFE_LIN 127 i)))), (cmd 0x0A08 (127#32 :: regParams ((List.range 24).map (fun i => SFE_LIN 127 i)))), 127, packetVals (cmd 0x0A08 (127#32 :: regParams ((List.range 24).map (fun i => SFE_LIN 127 i)))) 1 ((List.range 24).map (fun i => SFE_LIN 127 i)), (packetVals (cmd 0x0A08 (127#32 :: regParams ((List.range 24).map (fun i => SFE_LIN 127 i)))) 1 ((List.range 24).map (fun i => SFE_LIN 127 i))).foldl (fun (s : State) v => s.mergeRaw v.key (pf v.val)) ((feIdle).begun (cmd 0x0A08 (127#32 :: regParams ((List.range 24).map (fun i => SFE_LIN 127 i))))) |>.feCode 0, let w := ((packetVals (cmd 0x0A08 (127#32 :: regParams ((List.range 24).map (fun i => SFE_LIN 127 i)))) 1 ((List.range 24).map (fun i => SFE_LIN 127 i))).foldl (fun (s : State) v => s.mergeRaw v.key (pf v.val)) ((feIdle).begun (cmd 0x0A08 (127#32 :: regParams ((List.range 24).map (fun i => SFE_LIN 127 i))))) |>.feCode 0); w.feApply w.mt 0 (packetVals (cmd 0x0A08 (127#32 :: regParams ((List.range 24).map (fun i => SFE_LIN 127 i)))) 1 ((List.range 24).map (fun i => SFE_LIN 127 i))), by decide +kernel⟩

theorem witness_FrontEndOpcodesComplete_linStaged : ∃ (s u : State) (p : Packet) (n : Nat) (vals : List SVal) (w : State) (k : Nat), s.Admits 0x0A08 true p ∧ u = s.begun p ∧ Packet.sized p 100 = true ∧ n = Packet.word p 0 ∧ n < 128 ∧ Packet.wordsOk p 1 ((List.range 24).map (fun i => SFE_LIN n i)) =
    true ∧ p.borough % 32 = 0 ∧ vals = packetVals p 1 ((List.range 24).map (fun i => SFE_LIN n i)) ∧ u.feState ≠ 0 ∧ u.stageIndex
    u.feGrid (Packet.act p) = some k ∧ u.feCheck 2 u.feGridOpt k (overlay u.feNext vals) = 0 ∧ w = (vals.foldl (fun (s : State) v
    => s.mergeRaw v.key (pf v.val)) u).feCode 0 ∧ u.rangeChanges vals = [] ∧ w.feState ≠ 0 :=
  ⟨feLive, (feLive).begun (cmd 0x0A08 (127#32 :: regParams ((List.range 24).map (fun i => SFE_LIN 127 i)))), (cmd 0x0A08 (127#32 :: regParams ((List.range 24).map (fun i => SFE_LIN 127 i)))), 127, packetVals (cmd 0x0A08 (127#32 :: regParams ((List.range 24).map (fun i => SFE_LIN 127 i)))) 1 ((List.range 24).map (fun i => SFE_LIN 127 i)), (packetVals (cmd 0x0A08 (127#32 :: regParams ((List.range 24).map (fun i => SFE_LIN 127 i)))) 1 ((List.range 24).map (fun i => SFE_LIN 127 i))).foldl (fun (s : State) v => s.mergeRaw v.key (pf v.val)) ((feLive).begun (cmd 0x0A08 (127#32 :: regParams ((List.range 24).map (fun i => SFE_LIN 127 i))))) |>.feCode 0, feLive.askedIndex 7 (cmd 0x0A03 []), by decide +kernel⟩

theorem witness_FrontEndOpcodesComplete_blank : ∃ (s u : State) (p : Packet) (vals : List SVal) (w : State) (v : State), s.Admits 0x0A07 true p ∧ u = s.begun p ∧ Packet.sized p
    8 = true ∧ Packet.wordsOk p 0 [SFE_BLANK, SFE_CM_CFG] = true ∧ p.borough % 32 = 0 ∧ vals = packetVals p 0 [SFE_BLANK,
    SFE_CM_CFG] ∧ u.feState = 0 ∧ u.feCheck 2 u.feGridOpt 0 (overlay u.feNext vals) = 0 ∧ w = (vals.foldl (fun (s : State) v =>
    s.mergeRaw v.key (pf v.val)) u).feCode 0 ∧ u.rangeChanges vals = [] ∧ w.feState = 0 ∧ v = w.feApply w.mt 0 vals :=
  ⟨feIdle, (feIdle).begun (cmd 0x0A07 (regParams [SFE_BLANK, SFE_CM_CFG])), (cmd 0x0A07 (regParams [SFE_BLANK, SFE_CM_CFG])), packetVals (cmd 0x0A07 (regParams [SFE_BLANK, SFE_CM_CFG])) 0 [SFE_BLANK, SFE_CM_CFG], (packetVals (cmd 0x0A07 (regParams [SFE_BLANK, SFE_CM_CFG])) 0 [SFE_BLANK, SFE_CM_CFG]).foldl (fun (s : State) v => s.mergeRaw v.key (pf v.val)) ((feIdle).begun (cmd 0x0A07 (regParams [SFE_BLANK, SFE_CM_CFG]))) |>.feCode 0, let w := ((packetVals (cmd 0x0A07 (regParams [SFE_BLANK, SFE_CM_CFG])) 0 [SFE_BLANK, SFE_CM_CFG]).foldl (fun (s : State) v => s.mergeRaw v.key (pf v.val)) ((feIdle).begun (cmd 0x0A07 (regParams [SFE_BLANK, SFE_CM_CFG]))) |>.feCode 0); w.feApply w.mt 0 (packetVals (cmd 0x0A07 (regParams [SFE_BLANK, SFE_CM_CFG])) 0 [SFE_BLANK, SFE_CM_CFG]), by decide +kernel⟩

theorem witness_FrontEndOpcodesComplete_blankStaged : ∃ (s u : State) (p : Packet) (vals : List SVal) (w : State) (k : Nat), s.Admits 0x0A07 true p ∧ u = s.begun p ∧ Packet.sized p 8
    = true ∧ Packet.wordsOk p 0 [SFE_BLANK, SFE_CM_CFG] = true ∧ p.borough % 32 = 0 ∧ vals = packetVals p 0 [SFE_BLANK,
    SFE_CM_CFG] ∧ u.feState ≠ 0 ∧ u.stageIndex u.feGrid (Packet.act p) = some k ∧ u.feCheck 2 u.feGridOpt k (overlay u.feNext
    vals) = 0 ∧ w = (vals.foldl (fun (s : State) v => s.mergeRaw v.key (pf v.val)) u).feCode 0 ∧ u.rangeChanges vals = [] ∧ w.feState ≠ 0 :=
  ⟨feLive, (feLive).begun (cmd 0x0A07 (regParams [SFE_BLANK, SFE_CM_CFG])), (cmd 0x0A07 (regParams [SFE_BLANK, SFE_CM_CFG])), packetVals (cmd 0x0A07 (regParams [SFE_BLANK, SFE_CM_CFG])) 0 [SFE_BLANK, SFE_CM_CFG], (packetVals (cmd 0x0A07 (regParams [SFE_BLANK, SFE_CM_CFG])) 0 [SFE_BLANK, SFE_CM_CFG]).foldl (fun (s : State) v => s.mergeRaw v.key (pf v.val)) ((feLive).begun (cmd 0x0A07 (regParams [SFE_BLANK, SFE_CM_CFG]))) |>.feCode 0, feLive.askedIndex 7 (cmd 0x0A03 []), by decide +kernel⟩

theorem witness_FrontEndOpcodesComplete_bind : ∃ (s u : State) (p : Packet) (g k : Nat), s.Admits 0x0A01 true p ∧ u = s.begun p ∧ Packet.sized p 4 = true ∧ g = Packet.word p 0 ∧ g < 8 ∧ p.borough % 32 = 0 ∧ u.gridValid g = true ∧ u.stageIndex g (Packet.act p) = some k ∧ u.feCheck 0 (some g) k
    u.shadowAt = 0 ∧ u.bindWaits = false :=
  ⟨feIdle, feIdle.begun (cmd 0x0A01 [7#32]), (cmd 0x0A01 [7#32]), 7, feIdle.askedIndex 7 (cmd 0x0A01 [7#32]), by decide +kernel⟩

theorem witness_FrontEndOpcodesComplete_bindTwice : ∃ (s u : State) (p : Packet) (g : Nat), s.Admits 0x0A01 true p ∧ u = s.begun p ∧ Packet.sized p 4 = true ∧ g = Packet.word p 0 ∧ g < 8 ∧ p.borough % 32 = 0 ∧ u.feState ≠ 0 :=
  ⟨feLive, (feLive).begun (cmd 0x0A01 [7#32]), (cmd 0x0A01 [7#32]), 7, by decide +kernel⟩

theorem witness_FrontEndOpcodesComplete_unbind : ∃ (s u : State) (p : Packet) (k : Nat), s.Admits 0x0A02 true p ∧ u = s.begun p ∧ Packet.sized p 0 = true ∧ p.borough % 32 = 0 ∧ u.stageIndex u.feGrid (Packet.act p) = some k ∧ u.feCheck 1 (some u.feGrid) k u.shadowAt = 0 :=
  ⟨feLive, (feLive).begun (cmd 0x0A02 []), (cmd 0x0A02 []), feLive.askedIndex 7 (cmd 0x0A03 []), by decide +kernel⟩

theorem witness_FrontEndOpcodesComplete_urgent : ∃ (s u : State) (p : Packet) (n ch avg : Nat), s.Admits 0x0A09 false p ∧ u = s.begun p ∧ Packet.sized p 4 = true ∧ n =
  Packet.arg p 0 1 ∧ ch = Packet.arg p 1 1 ∧ avg = Packet.arg p 2 1 ∧ Packet.arg p 3 1 = 0 ∧ n < 16 ∧ ch < 8 ∧ avg ≤ 8 ∧ p.borough % 32 = 0 :=
  ⟨ready, (ready).begun (cmd 0x0A09 [0x0008070F#32]), (cmd 0x0A09 [0x0008070F#32]), 15, 7, 8, by decide +kernel⟩

theorem witness_FrontEndOpcodesComplete_ref : ∃ (s u : State) (p : Packet) (en : Nat), s.Admits 0x0A0A false p ∧ u = s.begun p ∧ Packet.sized p 4 = true ∧ en = Packet.word p
  0 ∧ boolByte en = true ∧ p.borough % 32 = 0 ∧ (en ≠ 0 ∨ u.feState ≠ 2) :=
  ⟨ready, (ready).begun (cmd 0x0A0A [1#32]), (cmd 0x0A0A [1#32]), 1, by decide +kernel⟩

theorem witness_FrontEndOpcodesComplete_refHeld : ∃ (s u : State) (p : Packet), s.Admits 0x0A0A false p ∧ u = s.begun p ∧ Packet.sized p 4 = true ∧ Packet.word p 0 = 0 ∧ p.borough % 32 = 0 ∧ u.feState = 2 :=
  ⟨feLive, (feLive).begun (cmd 0x0A0A [0#32]), (cmd 0x0A0A [0#32]), by decide +kernel⟩

theorem witness_FrontEndOpcodesComplete_status : ∃ (s u : State) (p : Packet) (n : Nat), s.Admits 0x0A0B false p ∧ u = s.begun p ∧ Packet.sized p 4 = true ∧ n = Packet.word p 0 ∧ n < 16 ∧ p.borough % 32 = 0 :=
  ⟨ready, (ready).begun (cmd 0x0A0B [15#32]), (cmd 0x0A0B [15#32]), 15, by decide +kernel⟩

theorem witness_FrontEndOpcodesComplete_bindWait : ∃ (s u : State) (p : Packet) (g k : Nat), s.Admits 0x0A01 true p ∧ u = s.begun p ∧ Packet.sized p 4 = true ∧ g = Packet.word p 0 ∧ g < 8 ∧ p.borough % 32 = 0 ∧ u.gridValid g = true ∧ u.stageIndex g (Packet.act p) = some k ∧ u.feCheck 0 (some g) k
    u.shadowAt = 0 ∧ u.bindWaits = true :=
  ⟨(feIdle.put (SFE_EXC_CTL_RANGE 31) 1), (feIdle.put (SFE_EXC_CTL_RANGE 31) 1).begun (cmd 0x0A01 [7#32]), (cmd 0x0A01 [7#32]), 7, (feIdle.put (SFE_EXC_CTL_RANGE 31) 1).askedIndex 7 (cmd 0x0A01 [7#32]), by decide +kernel⟩

theorem witness_FrontEndOpcodesComplete_excitationWait : ∃ (s u : State) (p : Packet) (n : Nat) (vals : List SVal) (w : State), s.Admits 0x0A03 true p ∧ u = s.begun p ∧ Packet.sized p 8 = true ∧ n = Packet.word p 0 ∧ n < 32 ∧ Packet.wordsOk p 1 [SFE_EXC_CTL n] = true ∧ p.borough % 32 = 0 ∧ vals
    = packetVals p 1 [SFE_EXC_CTL n] ∧ u.feState = 0 ∧ u.feCheck 2 u.feGridOpt 0 (overlay u.feNext vals) = 0 ∧ w = (vals.foldl
    (fun (s : State) v => s.mergeRaw v.key (pf v.val)) u).feCode 0 ∧ u.rangeChanges vals ≠ [] :=
  ⟨feIdle, feIdle.begun (cmd 0x0A03 [31#32, 1#32]), (cmd 0x0A03 [31#32, 1#32]), 31, (packetVals (cmd 0x0A03 [31#32, 1#32]) 1 [SFE_EXC_CTL 31]), (packetVals (cmd 0x0A03 [31#32, 1#32]) 1 [SFE_EXC_CTL 31]).foldl (fun (s : State) v => s.mergeRaw v.key (pf v.val)) (feIdle.begun (cmd 0x0A03 [31#32, 1#32])) |>.feCode 0, by decide +kernel⟩

theorem witness_FrontEndOpcodesComplete_excitationWaitBound : ∃ (s u : State) (p : Packet) (n : Nat) (vals : List SVal) (k : Nat), s.Admits 0x0A03 true p ∧ u = s.begun p ∧ Packet.sized p 8 = true ∧ n = Packet.word p 0 ∧ n < 32 ∧ Packet.wordsOk p 1 [SFE_EXC_CTL n] = true ∧ p.borough % 32 = 0 ∧ vals
    = packetVals p 1 [SFE_EXC_CTL n] ∧ u.feState ≠ 0 ∧ u.stageIndex u.feGrid (Packet.act p) = some k ∧ u.feCheck 2 u.feGridOpt k
    (overlay u.feNext vals) = 0 ∧ u.rangeChanges vals ≠ [] :=
  ⟨feLive, feLive.begun (cmd 0x0A03 [31#32, 1#32]), (cmd 0x0A03 [31#32, 1#32]), 31, (packetVals (cmd 0x0A03 [31#32, 1#32]) 1 [SFE_EXC_CTL 31]), feLive.askedIndex 7 (cmd 0x0A03 [31#32, 1#32]), by decide +kernel⟩

theorem witness_LaneOpcodesComplete_sheet : ∃ (s u : State) (p : Packet) (n v : Nat) (w : State), s.Admits 0x0B01 false p ∧ u = s.begun p ∧ Packet.sized p 16 = true ∧ n =
  Packet.word p 0 ∧ n < 40 ∧ v = Packet.word p 1 ∧ Packet.wordsOk p 1 [LNE_SHEET_CTL n, LNE_EYE_CFG0 n, LNE_EYE_CFG1 n] = true ∧ p.borough % 32 = 0 ∧ u.isSet (LNE_SHEET_CTL_START n) = false ∧ w = ((u.mergeRaw (LNE_EYE_CFG0 n).key (pf (Packet.word p
  2))).mergeRaw (LNE_EYE_CFG1 n).key (pf (Packet.word p 3))).sheetCtlWrite n (pf v) ∧ bit v 26 = true :=
  ⟨(ready.put (LNE_SHEET_CTL_PROTO 1) 2), ((ready.put (LNE_SHEET_CTL_PROTO 1) 2)).begun (cmd 0x0B01 laneParams), (cmd 0x0B01 laneParams), 1, 0x84018065, (((ready.put (LNE_SHEET_CTL_PROTO 1) 2).begun (cmd 0x0B01 laneParams)).mergeRaw (LNE_EYE_CFG0 1).key (pf (Packet.word (cmd 0x0B01 laneParams) 2))).mergeRaw (LNE_EYE_CFG1 1).key (pf (Packet.word (cmd 0x0B01 laneParams) 3)) |>.sheetCtlWrite 1 (pf 0x84018065), by decide +kernel, rfl, by decide +kernel, by decide +kernel, by decide +kernel, by decide +kernel, by decide +kernel, by decide +kernel, by decide +kernel, rfl, by decide +kernel⟩

theorem witness_LaneOpcodesComplete_tune : ∃ (s u : State) (p : Packet) (sh l v : Nat), s.Admits 0x0B02 false p ∧ u = s.begun p ∧ Packet.sized p 8 = true ∧ Packet.arg p 2
  2 = 0 ∧ sh = Packet.arg p 0 1 ∧ l = Packet.arg p 1 1 ∧ sh < 40 ∧ l < 9 ∧ v = Packet.word p 1 ∧ Packet.wordsOk p 1 [LNE_CTL sh
  l] = true ∧ p.borough % 32 = 0 ∧ u.isSet (LNE_SHEET_CTL_START sh) = false ∧ u.laneUnused sh l = true ∧ u.laneState sh l ≠ 9 :=
  ⟨ready, (ready).begun (cmd 0x0B02 (0x00000801#32 :: regParams [LNE_CTL 1 8])), (cmd 0x0B02 (0x00000801#32 :: regParams [LNE_CTL 1 8])), 1, 8, (LNE_CTL 1 8).reset, by decide +kernel⟩

theorem witness_LaneOpcodesComplete_subst : ∃ (s u : State) (p : Packet) (sh k : Nat) (r : Option Nat × State), s.Admits 0x0B03 false p ∧ u = s.begun p ∧ Packet.sized p 4 =
  true ∧ Packet.arg p 2 2 = 0 ∧ sh = Packet.arg p 0 1 ∧ k = Packet.arg p 1 1 ∧ sh < 40 ∧ k < 8 ∧ p.borough % 32 = 0 ∧ r = (u.put
  (LNE_SHEET_CTL_SUB_LANE sh) k).subst sh k false (some (actionOf p)) ∧ r.1 = some 0 :=
  ⟨ready, (ready).begun (cmd 0x0B03 [0x00000701#32]), (cmd 0x0B03 [0x00000701#32]), 1, 7, ((ready.begun (cmd 0x0B03 [0x00000701#32])).put (LNE_SHEET_CTL_SUB_LANE 1) 7).subst 1 7 false (some (actionOf (cmd 0x0B03 [0x00000701#32]))), by decide +kernel⟩

theorem witness_LaneOpcodesComplete_claim : ∃ (s u : State) (p : Packet) (sh k : Nat) (r : Option Nat × State), s.Admits 0x0B03 false p ∧ u = s.begun p ∧ Packet.sized p 4 =
  true ∧ Packet.arg p 2 2 = 0 ∧ sh = Packet.arg p 0 1 ∧ k = Packet.arg p 1 1 ∧ sh < 40 ∧ k < 8 ∧ p.borough % 32 = 0 ∧ r = (u.put
  (LNE_SHEET_CTL_SUB_LANE sh) k).subst sh k false (some (actionOf p)) ∧ r.1 = none :=
  ⟨sheetTwo, (sheetTwo).begun (cmd 0x0B03 [0x00000701#32]), (cmd 0x0B03 [0x00000701#32]), 1, 7, ((sheetTwo.begun (cmd 0x0B03 [0x00000701#32])).put (LNE_SHEET_CTL_SUB_LANE 1) 7).subst 1 7 false (some (actionOf (cmd 0x0B03 [0x00000701#32]))), by decide +kernel, rfl, by decide +kernel, by decide +kernel, by decide +kernel, by decide +kernel, by decide +kernel, by decide +kernel, by decide +kernel, rfl, by decide +kernel⟩

theorem witness_LaneOpcodesComplete_narrow : ∃ (s u : State) (p : Packet) (sh k : Nat) (r : Nat × State), s.Admits 0x0B04 false p ∧ u = s.begun p ∧ Packet.sized p 4 = true ∧ Packet.arg p 2 2 = 0 ∧ sh = Packet.arg p 0 1 ∧ k = Packet.arg p 1 1 ∧ sh < 40 ∧ k < 8 ∧ p.borough % 32 = 0 ∧ r = (u.put
  (LNE_SHEET_CTL_SUB_LANE sh) k).narrow sh k :=
  ⟨ready, (ready).begun (cmd 0x0B04 [0x00000701#32]), (cmd 0x0B04 [0x00000701#32]), 1, 7, ((ready.begun (cmd 0x0B04 [0x00000701#32])).put (LNE_SHEET_CTL_SUB_LANE 1) 7).narrow 1 7, by decide +kernel⟩

theorem witness_LaneOpcodesComplete_prbs : ∃ (s u c : State) (p : Packet) (sh l : Nat), s.Admits 0x0B05 false p ∧ u = s.begun p ∧ Packet.sized p 16 = true ∧ Packet.arg p 2 2
    = 0 ∧ sh = Packet.arg p 0 1 ∧ l = Packet.arg p 1 1 ∧ sh < 40 ∧ l < 9 ∧ Packet.wordsOk p 1 [LNE_PRBS_CTL sh l] = true ∧ p.borough % 32 = 0 ∧ u.sheetState sh = 3 ∧ c = u.prbsCatch sh l :=
  ⟨(ready.put (LNE_SHEET_STAT_STATE 1) 3), (ready.put (LNE_SHEET_STAT_STATE 1) 3).begun (cmd 0x0B05 (0x00000801#32 :: regParams [LNE_PRBS_CTL 1 8] ++ [5#32, 7#32])), ((ready.put (LNE_SHEET_STAT_STATE 1) 3).begun (cmd 0x0B05 (0x00000801#32 :: regParams [LNE_PRBS_CTL 1 8] ++ [5#32, 7#32]))).prbsCatch 1 8, (cmd 0x0B05 (0x00000801#32 :: regParams [LNE_PRBS_CTL 1 8] ++ [5#32, 7#32])), 1, 8, by decide +kernel⟩

theorem witness_LaneOpcodesComplete_status : ∃ (s u : State) (p : Packet) (n : Nat), s.Admits 0x0B06 false p ∧ u = s.begun p ∧ Packet.sized p 4 = true ∧ n = Packet.word p 0 ∧ n < 40 ∧ p.borough % 32 = 0 :=
  ⟨ready, (ready).begun (cmd 0x0B06 [39#32]), (cmd 0x0B06 [39#32]), 39, by decide +kernel⟩

theorem witness_RouteOpcodesComplete_config : ∃ (s u : State) (p : Packet) (n : Nat) (l : List Reg), s.Admits 0x0C01 false p ∧ u = s.begun p ∧ Packet.sized p 28 = true ∧ n =
  Packet.word p 0 ∧ n < 40 ∧ l = [SPX_CTL n, SPX_TIMER n, SPX_TRAIN n, SPX_BCN n, SPX_ASYM n, SPX_DOZE n] ∧ Packet.wordsOk p 1 l
  = true ∧ p.borough % 32 = 0 ∧ u.isSet (LNE_SHEET_CTL_START n) = false :=
  ⟨ready, (ready).begun (cmd 0x0C01 (39#32 :: regParams [SPX_CTL 39, SPX_TIMER 39, SPX_TRAIN 39, SPX_BCN 39, SPX_ASYM 39, SPX_DOZE 39])), (cmd 0x0C01 (39#32 :: regParams [SPX_CTL 39, SPX_TIMER 39, SPX_TRAIN 39, SPX_BCN 39, SPX_ASYM 39, SPX_DOZE 39])), 39, [SPX_CTL 39, SPX_TIMER 39, SPX_TRAIN 39, SPX_BCN 39, SPX_ASYM 39, SPX_DOZE 39], by decide +kernel⟩

theorem witness_RouteOpcodesComplete_rxmap : ∃ (s u : State) (p : Packet) (sh first n : Nat) (ws : List Nat), s.Admits 0x0C02 false p ∧ u = s.begun p ∧ Packet.sized p (8 + 4
  * n) = true ∧ Packet.arg p 1 1 = 0 ∧ Packet.arg p 6 2 = 0 ∧ sh = Packet.arg p 0 1 ∧ first = Packet.arg p 2 2 ∧ n = Packet.arg
  p 4 2 ∧ ws = (List.range n).map (fun i => Packet.word p (2 + i)) ∧ sh < 40 ∧ 1 ≤ n ∧ first + n ≤ 4096 ∧ (∀ v ∈ ws, bits v 31
  14 = 0) ∧ p.borough % 32 = 0 :=
  ⟨ready, (ready).begun (cmd 0x0C02 [0x0FFF0027#32, 1#32, 9#32]), (cmd 0x0C02 [0x0FFF0027#32, 1#32, 9#32]), 39, 4095, 1, [9], by decide +kernel⟩

theorem witness_RouteOpcodesComplete_rxmapOff : ∃ (s u : State) (p : Packet) (v : Nat), s.Admits 0x0C02 false p ∧ u = s.begun p ∧ Packet.sized p 12 = true ∧ Packet.arg p 1 1 =
  0 ∧ Packet.arg p 6 2 = 0 ∧ Packet.arg p 0 1 < 40 ∧ Packet.arg p 4 2 = 1 ∧ Packet.arg p 2 2 < 4096 ∧ v = Packet.word p 2 ∧ bits
  v 30 14 = 0 ∧ bit v 31 = true ∧ u.get (QUE_STAT_STATE (bits v 13 0)) ≠ 1 ∧ p.borough % 32 = 0 :=
  ⟨ready, (ready).begun (cmd 0x0C02 [0x0FFF0027#32, 1#32, 0x80000009#32]), (cmd 0x0C02 [0x0FFF0027#32, 1#32, 0x80000009#32]), 0x80000009, by decide +kernel⟩

theorem witness_RouteOpcodesComplete_status : ∃ (s u : State) (p : Packet) (n : Nat), s.Admits 0x0C03 false p ∧ u = s.begun p ∧ Packet.sized p 4 = true ∧ n = Packet.word p 0 ∧ n < 40 ∧ p.borough % 32 = 0 :=
  ⟨ready, (ready).begun (cmd 0x0C03 [39#32]), (cmd 0x0C03 [39#32]), 39, by decide +kernel⟩

theorem witness_RouteOpcodesComplete_mac : ∃ (s u : State) (p : Packet) (m v : Nat), s.Admits 0x0D01 false p ∧ u = s.begun p ∧ Packet.sized p 8 = true ∧ m = Packet.word p
  0 ∧ v = Packet.word p 1 ∧ bits v 31 30 ≠ 3 ∧ m < 16 ∧ Packet.wordsOk p 1 [ETH_MAC_CFG m] = true ∧ p.borough % 32 = 0 ∧ u.macRefuses m v = false :=
  ⟨ready, (ready).begun (cmd 0x0D01 [1#32, 0x40040000#32]), (cmd 0x0D01 [1#32, 0x40040000#32]), 1, 0x40040000, by decide +kernel⟩

theorem witness_RouteOpcodesComplete_pair : ∃ (s u : State) (p : Packet) (j v : Nat), s.Admits 0x0D02 false p ∧ u = s.begun p ∧ Packet.sized p 8 = true ∧ j = Packet.word p
  0 ∧ j < 16 ∧ Packet.wordsOk p 1 [RED_PAIR j] = true ∧ p.borough % 32 = 0 ∧ v = setBits (Packet.word p 1) 17 17 (u.get
  (RED_PAIR_SIDE j)) ∧ u.pairFree j v = true :=
  ⟨ready, (ready).begun (cmd 0x0D02 [15#32, 0x84000000#32]), (cmd 0x0D02 [15#32, 0x84000000#32]), 15, 0x84000000, by decide +kernel⟩

theorem witness_RouteOpcodesComplete_side : ∃ (s u : State) (p : Packet) (j r : Nat), s.Admits 0x0D03 false p ∧ u = s.begun p ∧ Packet.sized p 4 = true ∧ Packet.arg p 2 2 =
  0 ∧ j = Packet.arg p 0 1 ∧ r = Packet.arg p 1 1 ∧ j < 16 ∧ boolByte r = true ∧ p.borough % 32 = 0 ∧ u.get (RED_PAIR_SIDE j) ≠
  r :=
  ⟨ready, (ready).begun (cmd 0x0D03 [0x010F#32]), (cmd 0x0D03 [0x010F#32]), 15, 1, by decide +kernel⟩

theorem witness_RouteOpcodesComplete_sideSame : ∃ (s u : State) (p : Packet) (j r : Nat), s.Admits 0x0D03 false p ∧ u = s.begun p ∧ Packet.sized p 4 = true ∧ Packet.arg p 2 2 =
  0 ∧ j = Packet.arg p 0 1 ∧ r = Packet.arg p 1 1 ∧ j < 16 ∧ boolByte r = true ∧ p.borough % 32 = 0 ∧ u.get (RED_PAIR_SIDE j) =
  r :=
  ⟨ready, (ready).begun (cmd 0x0D03 [0x000F#32]), (cmd 0x0D03 [0x000F#32]), 15, 0, by decide +kernel⟩

theorem witness_RouteOpcodesComplete_policy : ∃ (s u : State) (p : Packet) (arm : Nat), s.Admits 0x0D04 false p ∧ u = s.begun p ∧ Packet.sized p 4 = true ∧ arm = Packet.word
  p 0 ∧ boolByte arm = true ∧ p.borough % 32 = 0 :=
  ⟨ready, (ready).begun (cmd 0x0D04 [1#32]), (cmd 0x0D04 [1#32]), 1, by decide +kernel⟩

theorem witness_RouteOpcodesComplete_heartbeat : ∃ (s u : State) (p : Packet), s.Admits 0x0D05 false p ∧ u = s.begun p ∧ Packet.sized p 16 = true ∧ Packet.wordsOk p 0 [RED_CTL,
  RED_HB, RED_HB_TX, RED_HB_TO] = true ∧ portWordOk (Packet.word p 1) = true ∧ p.borough % 32 = 0 :=
  ⟨ready, (ready).begun (cmd 0x0D05 (regParams [RED_CTL, RED_HB, RED_HB_TX, RED_HB_TO])), (cmd 0x0D05 (regParams [RED_CTL, RED_HB, RED_HB_TX, RED_HB_TO])), by decide +kernel⟩

theorem witness_RouteOpcodesComplete_stream : ∃ (s u : State) (p : Packet) (i : Nat), s.Admits 0x0D06 false p ∧ u = s.begun p ∧ Packet.sized p 36 = true ∧ i = Packet.arg p 0
  2 ∧ i < 4096 ∧ Packet.arg p 2 2 = 0 ∧ p.borough % 32 = 0 ∧ u.routeBusy (0x1520000 + 32 * i) = false :=
  ⟨ready, (ready).begun (cmd 0x0D06 (4095#32 :: List.replicate 8 0#32)), (cmd 0x0D06 (4095#32 :: List.replicate 8 0#32)), 4095, by decide +kernel⟩

theorem witness_RouteOpcodesComplete_address : ∃ (s u : State) (p : Packet) (i : Nat), s.Admits 0x0D07 false p ∧ u = s.begun p ∧ Packet.sized p 36 = true ∧ i = Packet.arg p 0
  1 ∧ Packet.arg p 1 3 = 0 ∧ p.borough % 32 = 0 ∧ u.routeBusy (0x1540000 + 32 * i) = false :=
  ⟨ready, (ready).begun (cmd 0x0D07 (255#32 :: List.replicate 8 0#32)), (cmd 0x0D07 (255#32 :: List.replicate 8 0#32)), 255, by decide +kernel⟩

theorem witness_RouteOpcodesComplete_port : ∃ (s u : State) (p : Packet) (i : Nat), s.Admits 0x0D08 false p ∧ u = s.begun p ∧ Packet.sized p 36 = true ∧ i = Packet.arg p 0
  1 ∧ i < 32 ∧ Packet.arg p 1 3 = 0 ∧ p.borough % 32 = 0 ∧ u.routeBusy (0x1544000 + 32 * i) = false :=
  ⟨ready, (ready).begun (cmd 0x0D08 (31#32 :: List.replicate 8 0#32)), (cmd 0x0D08 (31#32 :: List.replicate 8 0#32)), 31, by decide +kernel⟩

theorem witness_RouteOpcodesComplete_routes : ∃ (s u : State) (p : Packet), s.Admits 0x0D09 false p ∧ u = s.begun p ∧ Packet.sized p 0 = true ∧ p.borough % 32 = 0 :=
  ⟨ready, (ready).begun (cmd 0x0D09 []), (cmd 0x0D09 []), by decide +kernel⟩

theorem witness_GazetteerOpcodesComplete_root : ∃ (s u : State) (p : Packet) (en : Nat), s.Admits 0x0E01 false p ∧ u = s.begun p ∧ Packet.sized p 4 = true ∧ en = Packet.arg p 0
  1 ∧ boolByte en = true ∧ Packet.arg p 1 3 = 0 ∧ p.borough % 32 = 0 ∧ u.get GAZ_OPEN_SENDS = 0 :=
  ⟨ready, (ready).begun (cmd 0x0E01 [1#32]), (cmd 0x0E01 [1#32]), 1, by decide +kernel⟩

theorem witness_GazetteerOpcodesComplete_register : ∃ (s u : State) (p : Packet) (n : Nat) (l : List Byte) (x : GazEntry), s.Admits 0x0E02 false p ∧ u = s.begun p ∧ Packet.sized p
  36 = true ∧ n = Packet.word p 0 ∧ l = (Packet.bytes p).drop 4 ∧ x = gazOf l ∧ p.borough % 32 = 0 ∧ u.isRoot = true ∧ gazFormOk
  n l = true ∧ x.dists.all districtOk = true ∧ u.stackDown = none ∧ u.gaz = [] :=
  ⟨gazRoot, (gazRoot).begun (cmd 0x0E02 gazParams), (cmd 0x0E02 gazParams), 33554431, (Packet.bytes (cmd 0x0E02 gazParams)).drop 4, gazOf ((Packet.bytes (cmd 0x0E02 gazParams)).drop 4), by decide +kernel⟩

theorem witness_GazetteerOpcodesComplete_remove : ∃ (s u : State) (p : Packet) (n : Nat) (x : GazEntry), s.Admits 0x0E03 false p ∧ u = s.begun p ∧ Packet.sized p 4 = true ∧ n =
  Packet.word p 0 ∧ n < 2 ^ 25 ∧ p.borough % 32 = 0 ∧ u.isRoot = true ∧ u.stackDown = none ∧ u.gazEntry n = some x :=
  ⟨{ gazRoot with gaz := [(77, some gazEntry0)] }, ({ gazRoot with gaz := [(77, some gazEntry0)] }).begun (cmd 0x0E03 [77#32]), (cmd 0x0E03 [77#32]), 77, gazEntry0, by decide +kernel⟩

theorem witness_GazetteerOpcodesComplete_read : ∃ (s u : State) (p : Packet) (n : Nat) (x : GazEntry), s.Admits 0x0E04 false p ∧ u = s.begun p ∧ Packet.sized p 4 = true ∧ n =
  Packet.word p 0 ∧ n < 2 ^ 25 ∧ p.borough % 32 = 0 ∧ u.stackDown = none ∧ u.gazEntry n = some x :=
  ⟨{ gazRoot with gaz := [(77, some gazEntry0)] }, ({ gazRoot with gaz := [(77, some gazEntry0)] }).begun (cmd 0x0E04 [77#32]), (cmd 0x0E04 [77#32]), 77, gazEntry0, by decide +kernel⟩

theorem witness_GazetteerOpcodesComplete_district : ∃ (s u : State) (p : Packet) (n : Nat) (x : GazEntry) (l f : List Nat), s.Admits 0x0E05 false p ∧ u = s.begun p ∧ Packet.sized p
  12 = true ∧ n = Packet.word p 0 ∧ n < 2 ^ 25 ∧ p.borough % 32 = 0 ∧ u.stackDown = none ∧ u.gazEntry n = some x ∧ f =
  (List.range 4).map (fun i => Packet.arg p (4 + 2 * i) 2) ∧ f.all districtField = true ∧ gazDistricts x.dists f = some l :=
  ⟨{ gazRoot with gaz := [(77, some { gazEntry0 with dists := [9, 0xFFFF, 0xFFFF, 0xFFFF] })] }, ({ gazRoot with gaz := [(77, some { gazEntry0 with dists := [9, 0xFFFF, 0xFFFF, 0xFFFF] })] }).begun (cmd 0x0E05 [77#32, 0xFFFF0FFF#32, 0xFFFFFFFF#32]), (cmd 0x0E05 [77#32, 0xFFFF0FFF#32, 0xFFFFFFFF#32]), 77, { gazEntry0 with dists := [9, 0xFFFF, 0xFFFF, 0xFFFF] }, [9, 4095, 0xFFFF, 0xFFFF], [4095, 0xFFFF, 0xFFFF, 0xFFFF], by decide +kernel⟩

theorem witness_GazetteerOpcodesComplete_send : ∃ (s u : State) (p : Packet) (d : Nat) (inner : List Byte) (act : Int), s.Admits 0x0E06 true p ∧ u = s.begun p ∧ 1 ≤
  p.params.length ∧ d = Packet.arg p 0 2 ∧ Packet.arg p 2 2 = 0 ∧ inner = (Packet.bytes p).drop 4 ∧ act = mtOf (p.actTime / 2 ^
  48) (p.actTime / 2 ^ 16 % 2 ^ 32) (p.actTime % 2 ^ 16) ∧ p.borough % 32 = 0 ∧ u.isRoot = true ∧ d < 4096 ∧ u.stackDown = none ∧ u.gazBook.sentAt = none ∧ u.sendOpen d = false ∧ u.gazMembers d ≠ [] ∧ innerOk inner p.actTime = true ∧ u.mt + ((100 * mtUs
  : Nat) : Int) ≤ act ∧ u.gazSelf d = false :=
  ⟨gazSender, (gazSender).begun (sent 0x0E06 0 1 (5 * 2 ^ 48) sendParams), (sent 0x0E06 0 1 (5 * 2 ^ 48) sendParams), 9, innerPacket, 327680000000000, by decide +kernel⟩

theorem witness_GazetteerOpcodesComplete_counts : ∃ (s u : State) (p : Packet) (d : Nat), s.Admits 0x0E07 false p ∧ u = s.begun p ∧ Packet.sized p 4 = true ∧ d = Packet.arg p 0 2 ∧ Packet.arg p 2 2 = 0 ∧ p.borough % 32 = 0 ∧ d < 4096 :=
  ⟨ready, (ready).begun (cmd 0x0E07 [4095#32]), (cmd 0x0E07 [4095#32]), 4095, by decide +kernel⟩

theorem witness_GazetteerOpcodesComplete_digest : ∃ (s u : State) (p : Packet), s.Admits 0x0E08 false p ∧ u = s.begun p ∧ Packet.sized p 4 = true ∧ Packet.wordsOk p 0
  [GAZ_DIGEST] = true ∧ p.borough % 32 = 0 :=
  ⟨ready, (ready).begun (cmd 0x0E08 (regParams [GAZ_DIGEST])), (cmd 0x0E08 (regParams [GAZ_DIGEST])), by decide +kernel⟩

theorem witness_LogOpcodesComplete_head : ∃ (s u : State) (p : Packet), s.Admits 0x0F01 false p ∧ u = s.begun p ∧ Packet.sized p 0 = true :=
  ⟨ready, (ready).begun (cmd 0x0F01 []), (cmd 0x0F01 []), by decide +kernel⟩

theorem witness_LogOpcodesComplete_read : ∃ (s u : State) (p : Packet) (q n : Nat) (r : List Word × State), s.Admits 0x0F02 false p ∧ u = s.begun p ∧ Packet.sized p 12 =
  true ∧ q = Packet.arg p 0 8 ∧ n = Packet.arg p 8 1 ∧ 1 ≤ n ∧ n ≤ 60 ∧ Packet.arg p 9 3 = 0 ∧ u.rd64 LOG_FIRST_LO LOG_FIRST_HI
  ≤ q ∧ q ≤ u.rd64 LOG_HEAD_LO LOG_HEAD_HI ∧ r = u.logWords ((u.log.slots.drop (q - u.rd64 LOG_FIRST_LO LOG_FIRST_HI)).take n) :=
  ⟨ready, (ready).begun (cmd 0x0F02 [0#32, 0#32, 60#32]), (cmd 0x0F02 [0#32, 0#32, 60#32]), 0, 60, (ready.begun (cmd 0x0F02 [0#32, 0#32, 60#32])).logWords ready.log.slots, by decide +kernel⟩

theorem witness_LogOpcodesComplete_challenge : ∃ (s u : State) (p : Packet) (x : List Byte), s.Admits 0x0F03 false p ∧ u = s.begun p ∧ Packet.sized p 0 = true ∧ p.borough % 32
  = 0 ∧ x = leBytes 16 (u.draw (2 ^ 128)).1 :=
  ⟨ready, (ready).begun (cmd 0x0F03 []), (cmd 0x0F03 []), leBytes 16 ((ready.begun (cmd 0x0F03 [])).draw (2 ^ 128)).1, ⟨by decide +kernel, rfl, by decide +kernel, by decide +kernel, rfl⟩⟩

theorem witness_LogOpcodesComplete_clear : ∃ (s u : State) (p : Packet) (n k : List Byte) (r : CmdOut × State), s.Admits 0x0F04 false p ∧ u = s.begun p ∧ Packet.sized p 32
  = true ∧ p.borough % 32 = 0 ∧ u.logNonce = some n ∧ u.log.key = some k ∧ Packet.bytes p = u.logResponse k n 4 [] ∧ r =
  u.logClear ∧ r.1 = .now 0 (bytesWords (leBytes 8 (u.rd64 LOG_FIRST_LO LOG_FIRST_HI) ++ leBytes 8 (u.rd64 LOG_HEAD_LO
  LOG_HEAD_HI))) :=
  ⟨logKeyed, (logKeyed).begun (cmd 0x0F04 clearWords), (cmd 0x0F04 clearWords), List.replicate 16 2#8, List.replicate 32 1#8, logKeyed.begun (cmd 0x0F04 clearWords) |>.logClear, ⟨by decide +kernel, rfl, by decide +kernel, by decide +kernel, by decide +kernel, by decide +kernel, by simp only [State.logResponse, logKeyed_clear_id, clear_hash], rfl, by decide +kernel⟩⟩

theorem witness_LogOpcodesComplete_deny : ∃ (s u : State) (p : Packet), s.Admits 0x0F04 false p ∧ u = s.begun p ∧ Packet.sized p 32 = true ∧ p.borough % 32 = 0 ∧ u.logNonce = none :=
  ⟨ready, (ready).begun (cmd 0x0F04 (List.replicate 8 0#32)), (cmd 0x0F04 (List.replicate 8 0#32)), by decide +kernel⟩

theorem witness_LogOpcodesComplete_key : ∃ (s u : State) (p : Packet) (n : List Byte), s.Admits 0x0F05 false p ∧ u = s.begun p ∧ Packet.sized p 64 = true ∧ p.borough %
  32 = 0 ∧ u.logNonce = some n ∧ u.log.key = none ∧ ((Packet.bytes p).take 32).all (fun x => x == 0#8) = true :=
  ⟨{ logKeyed with log := { logKeyed.log with key := none } }, ({ logKeyed with log := { logKeyed.log with key := none } }).begun (cmd 0x0F05 (List.replicate 8 0#32 ++ List.replicate 8 7#32)), (cmd 0x0F05 (List.replicate 8 0#32 ++ List.replicate 8 7#32)), List.replicate 16 2#8, by decide +kernel⟩

theorem witness_LogOpcodesComplete_rekey : ∃ (s u : State) (p : Packet) (n k : List Byte), s.Admits 0x0F05 false p ∧ u = s.begun p ∧ Packet.sized p 64 = true ∧ p.borough %
  32 = 0 ∧ u.logNonce = some n ∧ u.log.key = some k ∧ ((Packet.bytes p).take 32).all (fun x => x == 0#8) = false ∧ (Packet.bytes
  p).take 32 = u.logResponse k n 5 ((Packet.bytes p).drop 32) :=
  ⟨logKeyed, (logKeyed).begun (cmd 0x0F05 keyWords), (cmd 0x0F05 keyWords), List.replicate 16 2#8, List.replicate 32 1#8, ⟨by decide +kernel, rfl, by decide +kernel, by decide +kernel, by decide +kernel, by decide +kernel, key_byte, by simp only [State.logResponse, logKeyed_key_id, key_hash]⟩⟩

theorem witness_LogOpcodesComplete_repeat : ∃ (s u : State) (p : Packet) (v : Nat), s.Admits 0x0F06 false p ∧ u = s.begun p ∧ Packet.sized p 4 = true ∧ v = Packet.word p 0 ∧ 1 ≤ v ∧ v ≤ 10000000 ∧ p.borough % 32 = 0 :=
  ⟨ready, (ready).begun (cmd 0x0F06 [10000000#32]), (cmd 0x0F06 [10000000#32]), 10000000, by decide +kernel⟩

theorem witness_LogOpcodesComplete_down : ∃ (s u v : State) (p : Packet) (d : Nat), s.Admits 0x1001 false p ∧ u = s.begun p ∧ Packet.sized p 4 = true ∧ d = Packet.arg p 0 1 ∧ d ≤ 96 ∧ Packet.arg p 1 1 = 0 ∧ Packet.arg p 2 2 = 0 ∧ p.borough % 32 = 0 ∧ u.get (PWR_DOM_STATE d) = 0 ∧ u.domainInUse d =
    false ∧ v = ((u.put (PWR_DOM_CODE d) 0).put (PWR_DOM_STATE d) 1).domStamp d :=
  ⟨ready, ready.begun (cmd 0x1001 [25#32]), (((ready.begun (cmd 0x1001 [25#32])).put (PWR_DOM_CODE 25) 0).put (PWR_DOM_STATE 25) 1).domStamp 25, (cmd 0x1001 [25#32]), 25, by decide +kernel⟩

theorem witness_LogOpcodesComplete_up : ∃ (s u : State) (p : Packet) (d : Nat), s.Admits 0x1002 false p ∧ u = s.begun p ∧ Packet.sized p 4 = true ∧ d = Packet.arg p 0 1 ∧ d ≤ 96 ∧ Packet.arg p 1 1 = 0 ∧ Packet.arg p 2 2 = 0 ∧ p.borough % 32 = 0 ∧ u.get (PWR_DOM_STATE d) = 2 ∧ d ≠ 93 :=
  ⟨(ready.put (PWR_DOM_STATE 80) 2), ((ready.put (PWR_DOM_STATE 80) 2)).begun (cmd 0x1002 [80#32]), (cmd 0x1002 [80#32]), 80, by decide +kernel⟩

theorem witness_LogOpcodesComplete_hold : ∃ (s u : State) (p : Packet) (d : Nat), s.Admits 0x1003 false p ∧ u = s.begun p ∧ Packet.sized p 4 = true ∧ d = Packet.arg p 0 1 ∧ d ≤ 96 ∧ Packet.arg p 1 1 < 2 ∧ Packet.arg p 2 2 = 0 ∧ p.borough % 32 = 0 :=
  ⟨ready, (ready).begun (cmd 0x1003 [0x0160#32]), (cmd 0x1003 [0x0160#32]), 96, by decide +kernel⟩

theorem witness_LogOpcodesComplete_status : ∃ (s u : State) (p : Packet), s.Admits 0x1004 false p ∧ u = s.begun p ∧ Packet.sized p 0 = true :=
  ⟨ready, (ready).begun (cmd 0x1004 []), (cmd 0x1004 []), by decide +kernel⟩

theorem witness_SpareOpcodesComplete_policy : ∃ (s u : State) (p : Packet) (m v : Nat) (w : Word), s.Admits 0x1101 false p ∧ u = s.begun p ∧ Packet.sized p 8 = true ∧ m =
  Packet.word p 0 ∧ v = Packet.word p 1 ∧ m < 2048 ∧ p.borough % 32 = 0 ∧ w = (u.rd SYS_POLICY &&& ~~~(w32 m)) ||| (w32 v &&&
  w32 m) :=
  ⟨ready, (ready).begun (cmd 0x1101 [2047#32, 0#32]), (cmd 0x1101 [2047#32, 0#32]), 2047, 0, 0#32, by decide +kernel⟩

theorem witness_SpareOpcodesComplete_dead : ∃ (s u : State) (p : Packet) (i n : Nat), s.Admits 0x1102 false p ∧ u = s.begun p ∧ Packet.sized p 4 = true ∧ i = Packet.arg p 0
    2 ∧ n = Packet.arg p 2 1 ∧ Packet.arg p 3 1 = 1 ∧ i < u.part.inputs ∧ n < 17 ∧ u.sub (iTrim i n) 31 29 = 2 ∧ p.borough % 32 =
    0 ∧ u.awake (inputGroup i) = true ∧ u.sub (iStat i) 18 18 ≠ 1 :=
  ⟨sliceFailing, (sliceFailing).begun (cmd 0x1102 [0x01000000#32]), (cmd 0x1102 [0x01000000#32]), 0, 0, by decide +kernel⟩

theorem witness_SpareOpcodesComplete_swap : ∃ (s u : State) (p : Packet) (i n : Nat), s.Admits 0x1102 false p ∧ u = s.begun p ∧ Packet.sized p 4 = true ∧ i = Packet.arg p 0
    2 ∧ n = Packet.arg p 2 1 ∧ Packet.arg p 3 1 = 0 ∧ i < u.part.inputs ∧ n < 17 ∧ u.sub (iTrim i n) 31 29 = 2 ∧ p.borough % 32 =
    0 ∧ u.awake (inputGroup i) = true ∧ u.sub (iStat i) 18 18 ≠ 1 ∧ u.sub (iStat i) 31 27 ≠ n ∧ u.sub (iStat i) 19 19 = 1 :=
  ⟨sliceFailing, (sliceFailing).begun (cmd 0x1102 [0#32]), (cmd 0x1102 [0#32]), 0, 0, by decide +kernel⟩

theorem witness_SpareOpcodesComplete_engine : ∃ (s u : State) (p : Packet) (l x : Nat), s.Admits 0x1103 false p ∧ u = s.begun p ∧ Packet.sized p 4 = true ∧ l = Packet.arg p 0
  1 ∧ l < 64 ∧ Packet.arg p 1 3 = 0 ∧ p.borough % 32 = 0 ∧ u.failingEngine l = some x ∧ u.awake 80 = true ∧ (∃ i < 4, u.get
  (PWR_ENG_STATE (64 + i)) = 1) :=
  ⟨engFailing, (engFailing).begun (cmd 0x1103 [63#32]), (cmd 0x1103 [63#32]), 63, 63, by decide +kernel⟩

theorem witness_SpareOpcodesComplete_engineNone : ∃ (s u : State) (p : Packet) (l x : Nat), s.Admits 0x1103 false p ∧ u = s.begun p ∧ Packet.sized p 4 = true ∧ l = Packet.arg p 0
  1 ∧ l < 64 ∧ Packet.arg p 1 3 = 0 ∧ p.borough % 32 = 0 ∧ u.failingEngine l = some x ∧ u.awake 80 = true ∧ (∀ i < 4, u.get
  (PWR_ENG_STATE (64 + i)) ≠ 1) :=
  ⟨(List.range 4).foldl (fun (s : State) i => s.put (PWR_ENG_STATE (64 + i)) 3) engFailing, ((List.range 4).foldl (fun (s : State) i => s.put (PWR_ENG_STATE (64 + i)) 3) engFailing).begun (cmd 0x1103 [63#32]), (cmd 0x1103 [63#32]), 63, 63, by decide +kernel⟩

theorem witness_SpareOpcodesComplete_slot : ∃ (s u : State) (p : Packet) (n : Nat), s.Admits 0x1104 false p ∧ u = s.begun p ∧ Packet.sized p 4 = true ∧ n = Packet.arg p 0 2 ∧ Packet.arg p 2 2 = 0 ∧ u.failingSlots.contains n = true ∧ p.borough % 32 = 0 ∧ (u.spareSlot n).isSome = true :=
  ⟨{ slotLive with failingSlots := [1023] }, ({ slotLive with failingSlots := [1023] }).begun (cmd 0x1104 [1023#32]), (cmd 0x1104 [1023#32]), 1023, by decide +kernel⟩

theorem witness_SpareOpcodesComplete_tdc : ∃ (s u : State) (p : Packet) (c n : Nat), s.Admits 0x1105 false p ∧ u = s.begun p ∧ Packet.sized p 4 = true ∧ c = Packet.arg p 0
  1 ∧ n = u.get (TIM_CORE_STAT_LOGICAL c) ∧ Packet.arg p 1 3 = 0 ∧ c < 18 ∧ u.isSet (TIM_CORE_STAT_FAILING c) = true ∧ n < 16 ∧ (∀ x ∈ u.tdcSwitches, x.logical ≠ n) ∧ p.borough % 32 = 0 ∧ u.awake 93 = true ∧ u.spareCore.isSome = true :=
  ⟨tdcFailing, (tdcFailing).begun (cmd 0x1105 [15#32]), (cmd 0x1105 [15#32]), 15, 15, by decide +kernel⟩

theorem witness_SpareOpcodesComplete_pcv : ∃ (s u : State) (p : Packet) (c : Nat), s.Admits 0x1106 false p ∧ u = s.begun p ∧ Packet.sized p 4 = true ∧ c = Packet.arg p 0 1 ∧ c < 16 ∧ Packet.arg p 1 3 = 0 ∧ u.isSet (PCV_STAT_FAILING c) = true ∧ (u.pcv c).leaving.isNone = true ∧ p.borough % 32 = 0 ∧ u.awake 91 = true ∧ 0 < u.sparesLeft 7 :=
  ⟨((wake ready [91]).put (PCV_STAT_FAILING 15) 1), (((wake ready [91]).put (PCV_STAT_FAILING 15) 1)).begun (cmd 0x1106 [15#32]), (cmd 0x1106 [15#32]), 15, by decide +kernel⟩

theorem witness_SpareOpcodesComplete_bmac : ∃ (s u : State) (p : Packet) (n : Nat), s.Admits 0x1107 false p ∧ u = s.begun p ∧ Packet.sized p 4 = true ∧ n = Packet.arg p 0 1 ∧ n < 17 ∧ Packet.arg p 1 3 = 0 ∧ u.get (BFM_ARRAY_STATE n) = 2 ∧ u.bmacSwaps = [] ∧ p.borough % 32 = 0 ∧ u.awake 81 = true ∧ 0 < u.sparesLeft 6 :=
  ⟨(beamAwake.put (BFM_ARRAY_STATE 15) 2), ((beamAwake.put (BFM_ARRAY_STATE 15) 2)).begun (cmd 0x1107 [15#32]), (cmd 0x1107 [15#32]), 15, by decide +kernel⟩

theorem witness_SpareOpcodesComplete_core : ∃ (s u : State) (p : Packet) (k : Nat), s.Admits 0x1108 false p ∧ u = s.begun p ∧ Packet.sized p 4 = true ∧ k = Packet.arg p 0 1 ∧ k < 5 ∧ Packet.arg p 1 3 = 0 ∧ u.get (PWR_CORE_STATE k) = 2 ∧ p.borough % 32 = 0 ∧ (∃ i < 5, u.get (PWR_CORE_STATE i) = 1) :=
  ⟨(ready.put (PWR_CORE_STATE 0) 2), ((ready.put (PWR_CORE_STATE 0) 2)).begun (cmd 0x1108 [0#32]), (cmd 0x1108 [0#32]), 0, by decide +kernel⟩

theorem witness_SpareOpcodesComplete_plot : ∃ (s u : State) (p : Packet) (i : Nat), s.Admits 0x1109 false p ∧ u = s.begun p ∧ Packet.sized p 4 = true ∧ i = Packet.word p 0 ∧ i < 16777216 ∧ (u.plot i).weak = true ∧ (u.plot i).state ≠ 4 ∧ (u.plot i).state ≠ 5 ∧ p.borough % 32 = 0 ∧ 0 < u.sparesLeft
  (if plotTier i = 1 then 4 else 5) :=
  ⟨(ready.setPlot 0 { ready.plot 0 with weak := true }), ((ready.setPlot 0 { ready.plot 0 with weak := true })).begun (cmd 0x1109 [0#32]), (cmd 0x1109 [0#32]), 0, by decide +kernel⟩

theorem witness_SpareOpcodesComplete_mram : ∃ (s u : State) (p : Packet) (x : Nat), s.Admits 0x110A false p ∧ u = s.begun p ∧ Packet.sized p 4 = true ∧ x = Packet.arg p 0 2 ∧ Packet.arg p 2 2 = 0 ∧ u.mramBad.contains x = true ∧ p.borough % 32 = 0 ∧ u.sparesLeft 10 ≠ 0 :=
  ⟨{ ready with mramBad := [65535] }, ({ ready with mramBad := [65535] }).begun (cmd 0x110A [65535#32]), (cmd 0x110A [65535#32]), 65535, by decide +kernel⟩

theorem witness_SpareOpcodesComplete_mramNone : ∃ (s u : State) (p : Packet) (x : Nat), s.Admits 0x110A false p ∧ u = s.begun p ∧ Packet.sized p 4 = true ∧ x = Packet.arg p 0 2 ∧ Packet.arg p 2 2 = 0 ∧ u.mramBad.contains x = true ∧ p.borough % 32 = 0 ∧ u.sparesLeft 10 = 0 :=
  ⟨{ ready.put (PWR_SPARE_LEFT 10) 0 with mramBad := [65535] }, ({ ready.put (PWR_SPARE_LEFT 10) 0 with mramBad := [65535] }).begun (cmd 0x110A [65535#32]), (cmd 0x110A [65535#32]), 65535, by decide +kernel⟩

theorem witness_SpareOpcodesComplete_inventory : ∃ (s u : State) (p : Packet), s.Admits 0x110B false p ∧ u = s.begun p ∧ Packet.sized p 0 = true :=
  ⟨ready, (ready).begun (cmd 0x110B []), (cmd 0x110B []), by decide +kernel⟩

theorem witness_SpareOpcodesComplete_echo : ∃ (s u : State) (p : Packet), s.Admits 0x1201 false p ∧ u = s.begun p ∧ p.params.length ≤ 1000 :=
  ⟨ready, (ready).begun (cmd 0x1201 (List.replicate 1000 9#32)), (cmd 0x1201 (List.replicate 1000 9#32)), by decide +kernel⟩

theorem witness_SpareOpcodesComplete_selftest : ∃ (s u : State) (p : Packet) (c i : Nat) (x y : Nat × State), s.Admits 0x1202 false p ∧ u = s.begun p ∧ Packet.sized p 4 = true ∧ c = Packet.arg p 0 1 ∧ i = Packet.arg p 2 2 ∧ Packet.arg p 1 1 = 0 ∧ i < testUnits c ∧ p.borough % 32 = 0 ∧ (testDomain c i
  = 96 ∨ u.awake (testDomain c i) = true) ∧ u.testInService c i = false ∧ x = u.draw 2 ∧ y = x.2.draw (2 ^ 32) :=
  ⟨ready, (ready).begun (cmd 0x1202 [0x00040005#32]), (cmd 0x1202 [0x00040005#32]), 5, 4, ((ready.begun (cmd 0x1202 [0x00040005#32])).draw 2), (((ready.begun (cmd 0x1202 [0x00040005#32])).draw 2).2.draw (2 ^ 32)), ⟨by decide +kernel, rfl, by decide +kernel, by decide +kernel, by decide +kernel, by decide +kernel, by decide +kernel, by decide +kernel, by decide +kernel, by decide +kernel, rfl, rfl⟩⟩

theorem witness_SpareOpcodesComplete_beamSat : ∃ (s u : State) (p : Packet) (b : Nat), s.Admits 0x1203 false p ∧ u = s.begun p ∧ Packet.sized p 4 = true ∧ b = Packet.arg p 0 2 ∧ b < 4096 ∧ Packet.arg p 2 2 = 0 ∧ p.borough % 32 = 0 :=
  ⟨ready, (ready).begun (cmd 0x1203 [4095#32]), (cmd 0x1203 [4095#32]), 4095, by decide +kernel⟩

theorem witness_SpareOpcodesComplete_temps : ∃ (s u : State) (p : Packet) (r : List Byte × State), s.Admits 0x1204 false p ∧ u = s.begun p ∧ Packet.sized p 0 = true ∧ r =
  u.dieTemps :=
  ⟨ready, (ready).begun (cmd 0x1204 []), (cmd 0x1204 []), (ready.begun (cmd 0x1204 [])).dieTemps, ⟨by decide +kernel, rfl, by decide +kernel, rfl⟩
⟩

end Sys2Proof.Tests
end

namespace Sys2Proof.Machine

/-! SUPPORT and the statements about scope: the memory of registers and tables, the frames of shared operations, the requests of the
host. -/

/-! ## Registers and tables (R12, R499, R503) -/

/-- Settles O13, by the laws of sparse tables. -/
theorem registerAndTableMemory : Obligations.RegisterAndTableMemory :=
  ⟨fun s r _ w => ⟨rd_wr s r w, fun h => rd_wr_ne s h w⟩,
   fun s k _ w => ⟨mapGet_put_same 0#32 k w s.aper, fun h => mapGet_put_ne 0#32 0#32 h w s.aper⟩,
   fun s k w h => mapWf_put 0#32 k w s.aper h,
   fun s k w => State.setTab_keeps (Keeps.refl (compMask [.aper]) s) rfl k w⟩

/-! ## What a packet of a ring changes (R354, R525) -/

/-- A hub in which the command ring queue of ring 0 of borough 0 holds one plot, empty. -/
def oneRingPlot : State :=
  { State.reset with
    ques := [(cmdQueue 0 0, { chain := [2 ^ 23] })]
    plots := [(2 ^ 23, { state := 1, owner := cmdQueue 0 0 })] }

/-- A well-formed packet of 36 bytes on that ring. -/
def ringPacket : Packet := ⟨.ring 0 0, 0, 36, 0, 0, 1, 0, 36, 1, 0, 0, [], 0#32⟩

/-- The packet passes through the plot of its ring's queue, whose fill grows by its length. -/
theorem begun_fills_ringPlot : ((oneRingPlot.begun ringPacket).plot (2 ^ 23)).fill = 36 := by decide +kernel

/-- Before, the plot is empty. -/
theorem oneRingPlot_empty : (oneRingPlot.plot (2 ^ 23)).fill = 0 := by decide +kernel

/-- The plots are none of the components that SharedFrames lists for `State.begun`. -/
theorem plot_of_only {s t : State} (h : Only [.tags, .crings, .rates, .funcs] s t) (id : Nat) : t.plot id = s.plot id := by
  unfold State.plot; rw [h.plots rfl]

/-- Refutes O12: its last clause leaves out the plots, which an accepted packet of a command ring passes through. -/
theorem not_sharedFrames : ¬ Obligations.SharedFrames := by
  rintro ⟨-, -, -, -, -, begun⟩
  have kept := plot_of_only (begun oneRingPlot ringPacket) (2 ^ 23)
  have := begun_fills_ringPlot
  rw [kept, oneRingPlot_empty] at this
  cases this

/-! ## Requests of the host -/

@[simp] theorem func_setFunc_same (s : State) (fn : Nat) (f : Func) : (s.setFunc fn f).func fn = f :=
  mapGet_put_same _ _ _ _

theorem setFunc_isSet (s : State) (fn : Nat) (f : Func) (x : Fld) : (s.setFunc fn f).isSet x = s.isSet x := rfl

/-! ### Registers of BAR0 -/

theorem heldPair_none {s : State} {fn : Nat} (h : (s.func fn).held = none) (key : Nat) : s.heldPair fn key = none := by
  simp [State.heldPair, h]

theorem heldPair_hi {s : State} {fn key : Nat} {v : Word} (h : (s.func fn).held = some (key - 4, v)) (h4 : 4 ≤ key) :
    s.heldPair fn key = some v := by
  simp [State.heldPair, h, Nat.sub_add_cancel h4]

/-- A write that the function's address reaches, no half of a pair being held. -/
theorem barStore_reached {s : State} {w : Wr} {o : Nat} (h : (s.func w.fn).held = none) (hr : s.reaches w.fn o true = true) :
    s.barStore o w = if isPairLo o && vfWrites w.fn o then s.pairHold o w else s.regStore o w := by
  simp [State.barStore, heldPair_none h, State.flush_none h, hr]

/-- A write of the `_HI` whose `_LO` the function holds (R507). -/
theorem barStore_held {s : State} {w : Wr} {o : Nat} {v : Word} (h4 : 4 ≤ o) (h : (s.func w.fn).held = some (o - 4, v))
    (hr : s.reaches w.fn o true = true) (hv : vfWrites w.fn o = true) : s.barStore o w = s.pairBoth o v w := by
  simp [State.barStore, heldPair_hi h h4, hr, hv]

/-- A word at an aligned offset below the aperture goes to the registers. -/
theorem exec_registerWrite_bar0 (s : State) (w : Wr) {off : Nat} (h : off < 0x1000000) (ha : off % 4 = 0) :
    exec (.registerWrite 0 off w) s = .next (s.barStore off w) := by
  have e : off / 4 * 4 = off := by omega
  change execRegisterWrite 0 off w s = _
  simp [execRegisterWrite, e, h]

theorem registerWrite_reaches {s : State} {w : Wr} {off : Nat} (h : off < 0x1000000) (ha : off % 4 = 0)
    (hh : (s.func w.fn).held = none) (hr : s.reaches w.fn off true = true) (hp : isPairLo off = false) :
    exec (.registerWrite 0 off w) s = .next (s.regStore off w) := by
  rw [exec_registerWrite_bar0 s w h ha, barStore_reached hh hr, hp]; rfl

/-- Physical function 0 reaches every register of the time base that all functions share, once the hub is READY (R498, R654). -/
theorem reaches_timeBase {s : State} {off : Nat} (hl : 0x30028 ≤ off) (hu : off < 0x31000) (ha : off % 4 = 0)
    (hreg : (regAt off).isSome = true) (hr : s.isSet SYS_START_READY = true) (write : Bool) : s.reaches 0 off write = true := by
  have hkey : s.keyOf0 0 off = off := by
    unfold State.keyOf0
    rw [if_neg (by simp; omega), if_neg (by simp; omega), if_neg (by simp; omega)]
  have harb : arbAbsent off = false := by simp [arbAbsent]; omega
  have habs : s.absent off = false := by simp [State.absent]; omega
  have hassigned : s.assigned 0 off = true := by
    simp [State.assigned, hkey, hreg, harb, habs, ha]; omega
  simp [State.reaches, hassigned, State.sees, State.shut, hr]

/-- A whole word that reaches `TB_PPS_DELAY` is merged by no other rule than that of its one field (R12). -/
theorem regStore_ppsDelay (s : State) (v : Word) : s.regStore 0x3003C ⟨0, 15, v⟩ = s.wr TB_PPS_DELAY v := by
  have hmask : (⟨0, 15, v⟩ : Wr).mask ≠ 0 := by simp [Wr.mask]
  have htime : s.regStore 0x3003C ⟨0, 15, v⟩ = s.mergeRaw 0x3003C ⟨0, 15, v⟩ := by
    simp [State.regStore, hmask, vfWrites, State.timeStore, State.keyOf0, TB_ADJ_CTL, TB_DISC, TIM_CAL_CTL, CMD_UDP, CMD_KEY_CTL]
  rw [htime]
  exact mergeRaw_whole s 0 v (key := 0x3003C) rfl rfl

theorem registerWrite_ppsDelay {s : State} (v : Word) (hh : (s.func 0).held = none) (hr : s.isSet SYS_START_READY = true) :
    exec (.registerWrite 0 0x3003C ⟨0, 15, v⟩) s = .next (s.wr TB_PPS_DELAY v) := by
  have hreach : s.reaches 0 0x3003C true = true :=
    reaches_timeBase (by decide) (by decide) (by decide) (by rfl) hr true
  have hplain : isPairLo 0x3003C = false := by rfl
  rw [registerWrite_reaches (w := ⟨0, 15, v⟩) (by decide) (by decide) hh hreach hplain, regStore_ppsDelay]

/-! ### MSI-X entries and doorbells -/

theorem registerWrite_vector {s : State} {w : Wr} {v : Nat} (hh : (s.func w.fn).held = none) (hv : v < vecCount w.fn) :
    exec (.registerWrite 4 (16 * v) w) s = .next (s.msixEntry v 0 w) := by
  have hv' : v < 2048 := by unfold vecCount at hv; split at hv <;> omega
  have hat : 16 * v / 4 * 4 = 16 * v := by omega
  have htab : 16 * v < 0x8000 := by omega
  have hres : msixReserved w.fn (16 * v) = false := by simp [msixReserved, htab]; omega
  have hword : s.msixWrite (16 * v) w = s.msixEntry v 0 w := by
    simp [State.msixWrite, State.flush_none hh, hres, htab]
  change execRegisterWrite 4 (16 * v) w s = _
  simp only [execRegisterWrite, hat, hword, if_pos (show 16 * v < 0x10000 by omega)]

theorem doorbellAt_cmdPi {r : Nat} (h : r < 4) : doorbellAt (16 * r) = .cmdPi r := by
  simp [doorbellAt, show 16 * r < 0x40 by omega]

/-- A doorbell acts on a whole word while the hub is READY (R497, R504). -/
theorem doorbell_acts {s : State} {w : Wr} (off : Nat) (f : State → State) (hh : (s.func w.fn).held = none)
    (hr : s.isSet SYS_START_READY = true) (hw : w.be % 16 = 15) : s.doorbell w off f = f s := by
  have hmask : w.mask ≠ 0 := by simp [Wr.mask]; omega
  simp [State.doorbell, State.flush_none hh, hmask, hr, hw]

theorem registerWrite_doorbell {s : State} {w : Wr} {r : Nat} (h : r < 4) (hh : (s.func w.fn).held = none)
    (hr : s.isSet SYS_START_READY = true) (hw : w.be % 16 = 15) :
    exec (.registerWrite 2 (16 * r) w) s = .next (s.cmdPi w.fn r (w.v.toNat % 65536) []) := by
  have hat : 16 * r / 4 * 4 = 16 * r := by omega
  have hbell : s.doorbellWrite (16 * r) w = s.cmdPi w.fn r (w.v.toNat % 65536) [] := by
    simp [State.doorbellWrite, doorbellAt_cmdPi h, doorbell_acts _ _ hh hr hw]
  change execRegisterWrite 2 (16 * r) w s = _
  simp only [execRegisterWrite, hat, hbell, if_pos (show 16 * r < 0x10000 by omega)]

/-! ### The table aperture -/

theorem mem_dataWords {o : Nat} {d : List (Nat × Byte)} : o ∈ dataWords d ↔ ∃ x ∈ d, x.1 / 4 * 4 = o := by
  simp [dataWords]

/-- Bytes of words that can be written and are not in use all merge, in order (R501). -/
theorem tabWrite_free {s : State} {fn : Nat} {d : List (Nat × Byte)}
    (h : ∀ x ∈ d, ∀ o ∈ [x.1, x.1 / 4 * 4], (s.tabHit o).writable = true ∧ s.hitBusy (s.tabHit o) = none) :
    s.tabWrite fn d = d.foldl (fun (t : State) x =>
      t.hitPut (t.tabHit x.1) (255 * 256 ^ (x.1 % 4)) (x.2.toNat * 256 ^ (x.1 % 4))) s := by
  have hword : ∀ o ∈ dataWords d, (s.tabHit o).writable = true ∧ s.hitBusy (s.tabHit o) = none := by
    intro o ho
    obtain ⟨x, hx, rfl⟩ := mem_dataWords.1 ho
    exact h x hx _ (by simp)
  have hreserved : (dataWords d).filter (fun o => !(s.tabHit o).writable) = [] :=
    List.filter_eq_nil_iff.2 fun o ho => by simp [(hword o ho).1]
  have hbusy : (dataWords d).filterMap (fun o => s.hitBusy (s.tabHit o)) = [] :=
    List.filterMap_eq_nil_iff.2 fun o ho => (hword o ho).2
  have htaken : d.filter (fun x => (s.tabHit x.1).writable && (s.hitBusy (s.tabHit x.1)).isNone) = d :=
    List.filter_eq_self.2 fun x hx => by simp [h x hx x.1 (by simp)]
  simp only [State.tabWrite, hreserved, hbusy, List.eraseDups_nil, List.foldl_nil, htaken]

theorem tableApertureWrite_free {s : State} {d : List (Nat × Byte)} (hh : (s.func 0).held = none)
    (hs : s.shut 0x1000000 = false) (hd : ∀ x ∈ d, 0x1000000 ≤ x.1 ∧ x.1 < 0x4000000)
    (h : ∀ x ∈ d, ∀ o ∈ [x.1, x.1 / 4 * 4], (s.tabHit o).writable = true ∧ s.hitBusy (s.tabHit o) = none) :
    exec (.tableApertureWrite 0 d) s = .next (d.foldl (fun (t : State) x =>
      t.hitPut (t.tabHit x.1) (255 * 256 ^ (x.1 % 4)) (x.2.toNat * 256 ^ (x.1 % 4))) s) := by
  have hin : d.filter (fun x => decide (0x1000000 ≤ x.1) && decide (x.1 < 0x4000000)) = d :=
    List.filter_eq_self.2 fun x hx => by simp [hd x hx]
  change execTableApertureWrite 0 d s = _
  simp only [execTableApertureWrite, State.flush_none hh, hin, hs, tabWrite_free h]
  rfl

/-! ### Requests that are refused -/

theorem reservedAccess_write {s : State} {fn bar off : Nat} (hh : (s.func fn).held = none)
    (hr : s.reservedAt fn bar (off / 4 * 4) true = true) :
    exec (.reservedAccess fn bar off true) s = .next (s.reservedHit fn bar (off / 4 * 4) true) := by
  change execReservedAccess fn bar off true s = _
  simp [execReservedAccess, State.flush_none hh, hr]

theorem reservedAccess_read {s : State} {fn bar off : Nat} (hh : (s.func fn).held = none)
    (hr : s.reservedAt fn bar (off / 4 * 4) false = true) :
    exec (.reservedAccess fn bar off false) s =
      .next ((s.reservedHit fn bar (off / 4 * 4) false).emit (.readDone fn (off / 4 * 4) (List.replicate 4 0#8))) := by
  change execReservedAccess fn bar off false s = _
  simp [execReservedAccess, State.flush_none hh, hr]

theorem oversizeRequest_aborts {s : State} {fn bar off len : Nat} (write : Bool) (hh : (s.func fn).held = none) (hl : 64 < len)
    (hb : bar = 2 ∨ (bar = 0 ∧ off < 0x1000000)) :
    exec (.oversizeRequest fn bar off len write) s = .next ((s.widthHit fn bar off write).emit (.completerAbort fn)) := by
  change execOversizeRequest fn bar off len write s = _
  rcases hb with rfl | ⟨rfl, ho⟩
  · simp [execOversizeRequest, State.flush_none hh, hl]
  · simp [execOversizeRequest, State.flush_none hh, hl, ho]

theorem atomicOpRequest_unsupported {s : State} {fn : Nat} (addr : Nat) (hh : (s.func fn).held = none) :
    exec (.atomicOpRequest fn addr) s = .next (s.emit (.unsupported fn)) := by
  change execAtomicOpRequest fn addr s = _
  rw [execAtomicOpRequest, State.flush_none hh]

/-! ### Pairs (R507) -/

theorem pairLoRead_latches {s : State} {fn off : Nat} (hh : (s.func fn).held = none) (hr : s.reaches fn off false = true)
    (hp : isPairLo (s.keyOf0 fn off) = true) :
    ∃ t, exec (.pairLoRead fn off) s = .next t ∧
      t.out = .readDone fn off (leBytes 4 (s.peek fn off).1) :: ((s.peek fn off).2.peek fn (off + 4)).2.out ∧
      (t.func fn).latch = some (off, w32 ((s.peek fn off).2.peek fn (off + 4)).1) := by
  change ∃ t, execPairLoRead fn off s = .next t ∧ _
  simp only [execPairLoRead, State.flush_none hh, hr, hp, Bool.not_true, Bool.false_eq_true, if_false, if_true]
  refine ⟨_, rfl, rfl, ?_⟩
  rw [State.func, State.emit_funcs, ← State.func, func_setFunc_same]

theorem pairLoWrite_holds {s : State} {w : Wr} {off : Nat} (hh : (s.func w.fn).held = none) (hr : s.reaches w.fn off true = true)
    (hp : isPairLo off = true) (hk : isPairLo (s.keyOf0 w.fn off) = true) (hv : vfWrites w.fn off = true) (hm : w.mask ≠ 0) :
    exec (.pairLoWrite off w) s = .next (s.setFunc w.fn { s.func w.fn with
      held := some (off, w32 (merged (((regOfKey off).map s.rn).getD 0) w)) }) := by
  change execPairLoWrite off w s = _
  simp [execPairLoWrite, hk, barStore_reached hh hr, hp, hv, State.pairHold, hm]

theorem pairHiWrite_both {s : State} {w : Wr} {off : Nat} {v : Word} (h4 : 4 ≤ off) (hk : isPairLo (s.keyOf0 w.fn (off - 4)) = true)
    (hh : (s.func w.fn).held = some (off - 4, v)) (hr : s.reaches w.fn off true = true) (hv : vfWrites w.fn off = true)
    (hs : (s.setFunc w.fn { s.func w.fn with held := none }).pairShut off = false) :
    exec (.pairHiWrite off w) s =
      .next (((s.setFunc w.fn { s.func w.fn with held := none }).pairHalf (off - 4) ⟨w.fn, 15, v⟩).pairHalf off w) := by
  change execPairHiWrite off w s = _
  simp [execPairHiWrite, h4, hk, barStore_held h4 hh hr hv, State.pairBoth, hs]

/-- A half of `TB_ADJ_RATE` merges while no adjustment is under way (R59). -/
theorem pairHalf_adjRate {s : State} {key : Nat} (w : Wr) (hl : 0x30040 ≤ key) (hu : key < 0x30048)
    (hg : s.isSet TB_ADJ_CTL_GO = false) : s.pairHalf key w = s.mergeRaw key w := by
  simp [State.pairHalf, hl, show key < 0x3005C by omega, hg, show ¬ 0x30048 ≤ key by omega]

theorem pairHiWrite_adjRate {s : State} {v hi : Word} (hh : (s.func 0).held = some (0x30040, v))
    (hr : s.isSet SYS_START_READY = true) (hg : s.isSet TB_ADJ_CTL_GO = false) :
    exec (.pairHiWrite 0x30044 ⟨0, 15, hi⟩) s =
      .next (((s.setFunc 0 { s.func 0 with held := none }).wr TB_ADJ_RATE_LO v).wr TB_ADJ_RATE_HI hi) := by
  have hreach : s.reaches 0 0x30044 true = true :=
    reaches_timeBase (by decide) (by decide) (by decide) (by rfl) hr true
  have hkey : isPairLo (s.keyOf0 0 (0x30044 - 4)) = true := by simp [State.keyOf0]; rfl
  have hopen : (s.setFunc 0 { s.func 0 with held := none }).pairShut 0x30044 = false := by simp [State.pairShut]
  rw [pairHiWrite_both (w := ⟨0, 15, hi⟩) (by decide) hkey hh hreach (by rfl) hopen]
  generalize hu : s.setFunc 0 { s.func 0 with held := none } = u
  have hgu : u.isSet TB_ADJ_CTL_GO = false := by rw [← hu, setFunc_isSet, hg]
  have hlo : u.pairHalf (0x30044 - 4) ⟨0, 15, v⟩ = u.wr TB_ADJ_RATE_LO v := by
    rw [pairHalf_adjRate _ (by decide) (by decide) hgu]; exact mergeRaw_whole u 0 v (key := 0x30040) rfl rfl
  have hgo : (u.wr TB_ADJ_RATE_LO v).isSet TB_ADJ_CTL_GO = false :=
    (isSet_of_get (get_of_rd (rd_wr_ne u (by decide) v))).trans hgu
  have hhi : (u.wr TB_ADJ_RATE_LO v).pairHalf 0x30044 ⟨0, 15, hi⟩ = (u.wr TB_ADJ_RATE_LO v).wr TB_ADJ_RATE_HI hi := by
    rw [pairHalf_adjRate _ (by decide) (by decide) hgo]; exact mergeRaw_whole _ 0 hi (key := 0x30044) rfl rfl
  rw [hlo, hhi]

/-- Settles O15: each request meets the law of its row above. -/
theorem hostRequestsComplete : Obligations.HostRequestsComplete :=
  ⟨fun _ _ _ ho ha hh hr hp => registerWrite_reaches ho ha hh hr hp,
   fun _ v hh hr => registerWrite_ppsDelay v hh hr,
   fun _ _ _ hh hv => registerWrite_vector hh hv,
   fun _ _ _ h hh hr hw => registerWrite_doorbell h hh hr hw,
   fun _ _ hh hs hd h => tableApertureWrite_free hh hs hd h,
   fun _ _ _ _ hh hr => reservedAccess_write hh hr,
   fun _ _ _ _ hh hr => reservedAccess_read hh hr,
   fun _ _ _ _ _ write hh hl hb => oversizeRequest_aborts write hh hl hb,
   fun _ _ addr hh => atomicOpRequest_unsupported addr hh,
   fun _ _ _ hh hr hp => pairLoRead_latches hh hr hp,
   fun _ _ _ hh hr hp hk hv hm => pairLoWrite_holds hh hr hp hk hv hm,
   fun _ _ _ _ h4 hk hh hr hv hs => pairHiWrite_both h4 hk hh hr hv hs,
   fun _ _ _ hh hr hg => pairHiWrite_adjRate hh hr hg⟩

end Sys2Proof.Machine

namespace Sys2Proof.Machine

/-! SUPPORT and the statements of the grids, the slots and the beams: their opcodes, and the commands of rows 55 to 67. -/

/-! ## Packets that the engine admits, by how their command ends (R519, R522) -/

section
variable {c : Instr} {op : Nat} {act : Bool} {h : Packet → State → CmdOut × State} {p : Packet} {s u t : State}

/-- A command that answers at once. -/
theorem Delivers.answers (d : Delivers c op act h p) (a : s.Admits op act p) (hu : u = s.begun p) {status : Nat} {res : List Word}
    (r : h p u = (.now status res, t)) : exec c s = .next (s.answered op p status res t) := by
  subst hu
  rw [d s, enginePacket_admitted a r]

/-- A command that is staged for a boundary. -/
theorem Delivers.opens (d : Delivers c op act h p) (a : s.Admits op act p) (hu : u = s.begun p) {g k : Nat} {res : List Word}
    (r : h p u = (.staged g k res, t)) : exec c s = .next (s.opened op p g k res t) := by
  subst hu
  rw [d s, enginePacket_admitted a r]

end

theorem sayIdle_eq (s : State) : s.sayIdle = (.now 0 (s.commitRecord 0 0 s.mt), s) := by simp [State.sayIdle]

/-! ### Checks of parameters and of the sender (R519, R538, R539, R544) -/

section
variable {ok owns : Bool} {p : Packet} {s : State} {f : State → CmdOut × State}

theorem ownerCmd_passes (hk : ok = true) (hb : p.borough % 32 = 0) : ownerCmd ok p s f = f s := by simp [ownerCmd, hk, hb]

theorem anyCmd_passes (hk : ok = true) : anyCmd ok s f = f s := by simp [anyCmd, hk]

theorem holderCmd_passes (hk : ok = true) (ho : owns = true) : holderCmd ok owns s f = f s := by simp [holderCmd, hk, ho]

theorem selectorCmd_passes {l : List Nat} {f : List Nat → State → CmdOut × State} (hl : s.selSlots (Packet.word p 0) = some l)
    (hk : ok = true) (hb : p.borough % 32 = 0) : selectorCmd ok p s f = f l s := by
  rw [selectorCmd, hl]
  exact ownerCmd_passes hk hb

end

/-! ## Words of slots: IDLE slots at once, slots in use at a boundary (R169, R540) -/

section
variable {p : Packet} {u : State} {restart : Bool} {vals : Nat → List SVal}

theorem pipeSet_idle {l : List Nat} (idle : ∀ n ∈ l, u.slotState n = 0) :
    u.pipeSet p restart l vals = (l.foldl (fun (s : State) n => s.shadowPut n (vals n)) u).sayIdle :=
  if_pos (by simpa using idle)

theorem pipeSet_inUse {n : Nat} (hn : u.slotState n ≠ 0) : u.pipeSet p restart [n] vals = u.pipeCommit p restart [n] vals :=
  if_neg (by simpa using hn)

/-- A commit of one slot that its checks pass, with room for one more boundary. -/
theorem pipeCommit_one {n g k0 k : Nat} (hg : g = (u.slot n).boundGrid) (hk0 : k0 = u.askedIndex g p)
    (hc : u.slotCheck n g false restart (overVals n (u.slotAt n k0) (vals n)) k0 = 0) (hk : u.stageIndex g (Packet.act p) = some k)
    (hf : u.stageFull (.slot n) k = false) :
    u.pipeCommit p restart [n] vals = (.staged g k [], (((u.shadowPut n (vals n)).stage ⟨.slot n, g, k, actionOf p, vals n,
      if restart then .restart else .fields⟩).slotCode n 0).showDirty n) := by
  subst hg hk0
  simp [State.pipeCommit, firstFail, hc, hk, hf]

variable {c : Instr} {op : Nat} {h : Packet → State → CmdOut × State} {s : State}

/-- A command that sets words of IDLE slots alone. -/
theorem Delivers.setsIdle {l : List Nat} {v : State} (d : Delivers c op true h p) (a : s.Admits op true p) (hu : u = s.begun p)
    (hset : h p u = u.pipeSet p restart l vals) (idle : ∀ n ∈ l, u.slotState n = 0)
    (hv : v = l.foldl (fun (s : State) n => s.shadowPut n (vals n)) u) :
    exec c s = .next (s.answered op p 0 (v.commitRecord 0 0 v.mt) v) :=
  d.answers a hu (by rw [hset, pipeSet_idle idle, ← hv, sayIdle_eq])

/-- A command that sets words of one BOUND slot. -/
theorem Delivers.stagesWords {n g k0 k : Nat} (d : Delivers c op true h p) (a : s.Admits op true p) (hu : u = s.begun p)
    (hset : h p u = u.pipeSet p restart [n] vals) (bound : u.slotState n = 2) (hg : g = (u.slot n).boundGrid)
    (hk0 : k0 = u.askedIndex g p) (hc : u.slotCheck n g false restart (overVals n (u.slotAt n k0) (vals n)) k0 = 0)
    (hk : u.stageIndex g (Packet.act p) = some k) (hf : u.stageFull (.slot n) k = false) :
    exec c s = .next (s.opened op p g k [] ((((u.shadowPut n (vals n)).stage ⟨.slot n, g, k, actionOf p, vals n,
      if restart then .restart else .fields⟩).slotCode n 0).showDirty n)) :=
  d.opens a hu (by rw [hset, pipeSet_inUse (by simp [bound]), pipeCommit_one hg hk0 hc hk hf])

end

section
variable {p : Packet} {u : State} {l : List Nat} {regs : List (Nat → Reg)}

/-- The opcodes whose register words follow the selector. -/
theorem pipeWords_plain (hl : u.selSlots (Packet.word p 0) = some l) (hs : Packet.sized p (4 * (1 + regs.length)) = true)
    (hw : Packet.wordsOk p 1 (regs.map (fun r => r 0)) = true) (hb : p.borough % 32 = 0) :
    pipeWords p u false regs = u.pipeSet p false l (wordVals p 1 regs) := by
  rw [pipeWords]
  exact selectorCmd_passes hl (by simp [hs, hw]) hb

/-- The opcodes with the restart byte between selector and register words. -/
theorem pipeWords_restart (hl : u.selSlots (Packet.word p 0) = some l) (hs : Packet.sized p (4 * (2 + regs.length)) = true)
    (hw : Packet.wordsOk p 2 (regs.map (fun r => r 0)) = true) (hb : p.borough % 32 = 0) (hr : Packet.word p 1 < 2) :
    pipeWords p u true regs = u.pipeSet p (Packet.word p 1 == 1) l (wordVals p 2 regs) := by
  rw [pipeWords]
  exact selectorCmd_passes hl (by simp [hs, hw, hr]) hb

end

/-- Settles O39: every clause is the law of IDLE slots or that of one BOUND slot, for the opcode's list of registers. -/
theorem pipelineWordOpcodesComplete : Obligations.PipelineWordOpcodesComplete :=
  have delay : ∀ p, Delivers (.pipeDelay p) 0x0203 true opPipeDelay p := fun _ _ => rfl
  have mix : ∀ p, Delivers (.pipeMix p) 0x0205 true opPipeMix p := fun _ _ => rfl
  have decimate : ∀ p, Delivers (.pipeDecimate p) 0x0206 true opPipeDecimate p := fun _ _ => rfl
  have resample : ∀ p, Delivers (.pipeResample p) 0x0207 true opPipeResample p := fun _ _ => rfl
  have channel : ∀ p, Delivers (.pipeChannel p) 0x0208 true opPipeChannel p := fun _ _ => rfl
  have reduce : ∀ p, Delivers (.pipeReduce p) 0x0209 true opPipeReduce p := fun _ _ => rfl
  have route : ∀ p, Delivers (.pipeRoute p) 0x020A true opPipeRoute p := fun _ _ => rfl
  ⟨fun _ _ p _ _ a hu hl hs hw hb idle hv => (delay p).setsIdle a hu (pipeWords_plain hl hs hw hb) idle hv,
   fun _ _ p _ _ _ _ a hu hl hs hw hb => (delay p).stagesWords a hu (pipeWords_plain hl hs hw hb),
   fun _ _ p _ _ a hu hl hs hw hb idle hv => (mix p).setsIdle a hu (pipeWords_plain hl hs hw hb) idle hv,
   fun _ _ p _ _ _ _ a hu hl hs hw hb => (mix p).stagesWords a hu (pipeWords_plain hl hs hw hb),
   fun _ _ p _ _ a hu hl hs hw hb idle hv hr => (decimate p).setsIdle a hu (pipeWords_restart hl hs hw hb hr) idle hv,
   fun _ _ p _ _ _ _ a hu hl hs hw hb bound hg hk0 hc hk hf hr =>
    (decimate p).stagesWords a hu (pipeWords_restart hl hs hw hb hr) bound hg hk0 hc hk hf,
   fun _ _ p _ _ a hu hl hs hw hb idle hv => (resample p).setsIdle a hu (pipeWords_plain hl hs hw hb) idle hv,
   fun _ _ p _ _ _ _ a hu hl hs hw hb => (resample p).stagesWords a hu (pipeWords_plain hl hs hw hb),
   fun _ _ p _ _ a hu hl hs hw hb idle hv hr => (channel p).setsIdle a hu (pipeWords_restart hl hs hw hb hr) idle hv,
   fun _ _ p _ _ _ _ a hu hl hs hw hb bound hg hk0 hc hk hf hr =>
    (channel p).stagesWords a hu (pipeWords_restart hl hs hw hb hr) bound hg hk0 hc hk hf,
   fun _ _ p _ _ a hu hl hs hw hb idle hv => (reduce p).setsIdle a hu (pipeWords_plain hl hs hw hb) idle hv,
   fun _ _ p _ _ _ _ a hu hl hs hw hb => (reduce p).stagesWords a hu (pipeWords_plain hl hs hw hb),
   fun _ _ p _ _ a hu hl hs hw hb idle hv => (route p).setsIdle a hu (pipeWords_plain hl hs hw hb) idle hv,
   fun _ _ p _ _ _ _ a hu hl hs hw hb => (route p).stagesWords a hu (pipeWords_plain hl hs hw hb)⟩

/-! ## The other opcodes of the pipelines (R546) -/

theorem opPipeSource_idle {p : Packet} {u : State} {l : List Nat} (hl : u.selSlots (Packet.word p 0) = some l)
    (hs : Packet.sized p 8 = true) (hw : Packet.wordsOk p 1 [CHP_SRC 0] = true) (hb : p.borough % 32 = 0)
    (hin : bits (Packet.word p 1) 31 30 ≠ 1 ∨ bits (Packet.word p 1) 9 0 < u.part.inputs) (idle : ∀ n ∈ l, u.slotState n = 0) :
    opPipeSource p u = (.now 0 [], l.foldl (fun (s : State) n => s.chpSrcWrite n (pf (Packet.word p 1))) u) := by
  have inPart : (bits (Packet.word p 1) 31 30 = 1 && decide (bits (Packet.word p 1) 9 0 < 768)
      && decide (u.part.inputs ≤ bits (Packet.word p 1) 9 0)) = false := by
    rcases hin with h | h
    · simp [h]
    · simp [Nat.not_le.2 h]
  have noneUsed : l.find? (fun n => u.slotState n != 0) = none := List.find?_eq_none.2 fun n hn => by simp [idle n hn]
  rw [opPipeSource, selectorCmd_passes hl (by simp [hs, hw]) hb]
  simp only [inPart, noneUsed, Bool.false_eq_true, if_false]
  rfl

theorem opPipeBind_passes {p : Packet} {u : State} {l : List Nat} (hl : u.selSlots (Packet.word p 0) = some l)
    (hs : Packet.sized p 8 = true) (hg : Packet.word p 1 < 8) (hb : p.borough % 32 = 0) {k : Nat}
    (hall : u.bindAll (Packet.word p 1) p l = none) (hk : u.stageIndex (Packet.word p 1) (Packet.act p) = some k)
    (hf : ∀ n ∈ l, u.stageFull (.slot n) k = false) :
    opPipeBind p u = (.staged (Packet.word p 1) k [], l.foldl (fun (s : State) n =>
      ((s.stageBind n (Packet.word p 1) k (actionOf p)).slotCode n 0).showDirty n) u) := by
  have room : l.find? (fun n => u.stageFull (.slot n) k) = none := List.find?_eq_none.2 fun n hn => by simp [hf n hn]
  rw [opPipeBind, selectorCmd_passes hl (by simp [hs, hg]) hb]
  simp only [hall, hk, room]

theorem opPipeBind_refused {p : Packet} {u : State} {l : List Nat} (hl : u.selSlots (Packet.word p 0) = some l)
    (hs : Packet.sized p 8 = true) (hg : Packet.word p 1 < 8) (hb : p.borough % 32 = 0) {n c : Nat}
    (hall : u.bindAll (Packet.word p 1) p l = some (n, c)) (hc : c ≠ 10) :
    opPipeBind p u = (.now (chpStatus c) (if selMany (Packet.word p 0) then [w32 n] else []), u.slotCode n c) := by
  rw [opPipeBind, selectorCmd_passes hl (by simp [hs, hg]) hb]
  simp only [hall, if_neg hc]
  rfl

/-- An unbind of one slot whose pending bind, where one waits, is too near to be cancelled. -/
theorem opPipeUnbind_one {p : Packet} {u : State} {n k : Nat} (hl : u.selSlots (Packet.word p 0) = some [n])
    (hs : Packet.sized p 4 = true) (hb : p.borough % 32 = 0) (hd : u.awake (u.slotDomain n) = true) (hn : u.slotState n ≠ 0)
    (hw : u.unbindWaits n = false) (hc : u.bindCancels n = false)
    (hk : u.stageIndex (u.slot n).boundGrid (Packet.act p) = some k) :
    opPipeUnbind p u = (.staged (u.slot n).boundGrid (max k (u.unbindIndex n k)) [],
      ((u.stageUnbind n (max k (u.unbindIndex n k)) (actionOf p)).slotCode n 0).abortDiscarded) := by
  rw [opPipeUnbind, selectorCmd_passes hl (by simp [hs]) hb]
  simp [hd, hn, hw, hc, hk]

/-- What PIPE_INTAKE sets on slot n: bits 24:22 of `CHP_CTL` and the intake words. -/
def intakeVals (p : Packet) (n : Nat) : List SVal :=
  ⟨(CHP_CTL n).key, 0x01C00000, Packet.word p 1⟩ :: wordVals p 2 [CHP_BLANK, CHP_CALMASK, CHP_CALDLY, CHP_TEST] n

theorem opPipeIntake_passes {p : Packet} {u : State} {l : List Nat} (hl : u.selSlots (Packet.word p 0) = some l)
    (hs : Packet.sized p 24 = true) (hv : Packet.word p 1 &&& 0x01C00000 = Packet.word p 1)
    (hw : Packet.wordsOk p 2 [CHP_BLANK 0, CHP_CALMASK 0, CHP_CALDLY 0, CHP_TEST 0] = true) (hb : p.borough % 32 = 0) :
    opPipeIntake p u = u.pipeSet p false l (intakeVals p) := by
  rw [opPipeIntake, selectorCmd_passes hl (by simp [hs, hv, hw]) hb]
  rfl

theorem opPipeCommit_one {p : Packet} {u : State} {n : Nat} (hl : u.selSlots (Packet.word p 0) = some [n])
    (hs : Packet.sized p 8 = true) (hr : Packet.word p 1 < 2) (hb : p.borough % 32 = 0) (hd : u.awake (u.slotDomain n) = true) :
    opPipeCommit p u = u.pipeCommit p (Packet.word p 1 == 1) [n] (fun n => u.snapshot (slotKeys n)) := by
  rw [opPipeCommit, selectorCmd_passes hl (by simp [hs, hr]) hb]
  simp [hd]

theorem opPipeDistrict_passes {p : Packet} {u : State} (hs : Packet.sized p 132 = true) (hd : Packet.word p 0 < 64)
    (hb : p.borough % 32 = 0) (hw : u.districtWaits (Packet.word p 0) = false) :
    opPipeDistrict p u = (.now 0 [], (List.range 32).foldl (fun (s : State) w =>
      s.wn (CHP_DMEM (Packet.word p 0) w) (Packet.word p (1 + w))) u) := by
  rw [opPipeDistrict, ownerCmd_passes (by simp [hs, hd]) hb]
  simp only [hw, Bool.false_eq_true, if_false]
  rfl

theorem opPipeRaw_passes {p : Packet} {u r : State} (hs : Packet.sized p 8 = true) (hn : Packet.word p 0 < 1024)
    (hw : regWordOk (CMP_RAW (Packet.word p 0)) (if bit (Packet.word p 1) 31 && !u.isSet (CMP_RAW_EN (Packet.word p 0)) then
      setBits (Packet.word p 1) 10 8 0 else Packet.word p 1) = true)
    (hb : p.borough % 32 = 0) (hr : u.rawSet (Packet.word p 0) (Packet.word p 1) = (some 0, r)) :
    opPipeRaw p u = (.now 0 [], r) := by
  rw [opPipeRaw, ownerCmd_passes (by simp only [hs, hn, hw, decide_true, Bool.and_self]) hb]
  simp only [hr]
  rfl

/-- Settles O40: each opcode passes its checks and acts; the words of PIPE_INTAKE obey the laws of the register words. -/
theorem pipelineOpcodesComplete : Obligations.PipelineOpcodesComplete := by
  refine ⟨?source, ?bind, ?bindRefused, ?unbind, ?intakeIdle, ?intakeStaged, ?commit, ?fpd, ?district, ?raw, ?status⟩
  case source =>
    rintro s u p l v a hu hl hs rfl hw hb hin idle
    have d : Delivers (.pipeSource p) 0x0201 false opPipeSource p := fun _ => rfl
    exact d.answers a hu (opPipeSource_idle hl hs hw hb hin idle)
  case bind =>
    rintro s u p l g k a hu hl hs rfl hg hb hall hk hf
    have d : Delivers (.pipeBind p) 0x0202 true opPipeBind p := fun _ => rfl
    exact d.opens a hu (opPipeBind_passes hl hs hg hb hall hk hf)
  case bindRefused =>
    rintro s u p l g n c a hu hl hs rfl hg hb hall hc
    have d : Delivers (.pipeBind p) 0x0202 true opPipeBind p := fun _ => rfl
    exact d.answers a hu (opPipeBind_refused hl hs hg hb hall hc)
  case unbind =>
    intro s u p n k a hu hl hs hb hd hn hw hc hk
    have d : Delivers (.pipeUnbind p) 0x0204 true opPipeUnbind p := fun _ => rfl
    exact d.opens a hu (opPipeUnbind_one hl hs hb hd hn hw hc hk)
  case intakeIdle =>
    intro s u p v l a hu hl hs hbits hw hb idle hv
    have d : Delivers (.pipeIntake p) 0x020B true opPipeIntake p := fun _ => rfl
    exact d.setsIdle a hu (opPipeIntake_passes hl hs hbits hw hb) idle hv
  case intakeStaged =>
    intro s u p n g k0 k vals a hu hl hs hbits hw hb bound hg hk0 hvals hc hk hf
    have d : Delivers (.pipeIntake p) 0x020B true opPipeIntake p := fun _ => rfl
    obtain rfl : vals = intakeVals p n := hvals
    have staged := d.stagesWords a hu (opPipeIntake_passes hl hs hbits hw hb) bound hg hk0 hc hk hf
    exact staged
  case commit =>
    rintro s u p n g k0 k vals a hu hl hs hr hb hd hg hk0 rfl hc hk hf
    have d : Delivers (.pipeCommit p) 0x020C true opPipeCommit p := fun _ => rfl
    have hcommit := pipeCommit_one (vals := fun n => u.snapshot (slotKeys n)) hg hk0 hc hk hf
    exact d.opens a hu ((opPipeCommit_one hl hs hr hb hd).trans hcommit)
  case fpd =>
    intro s u p l a hu hl hs hw hb
    have d : Delivers (.pipeFpd p) 0x020D false opPipeFpd p := fun _ => rfl
    exact d.answers a hu (by rw [opPipeFpd, selectorCmd_passes hl (by simp [hs, hw]) hb]; rfl)
  case district =>
    rintro s u p x a hu hs rfl hx hb hw
    have d : Delivers (.pipeDistrict p) 0x020E false opPipeDistrict p := fun _ => rfl
    exact d.answers a hu (opPipeDistrict_passes hs hx hb hw)
  case raw =>
    rintro s u p n v r a hu hs rfl rfl hn hw hb hr
    have d : Delivers (.pipeRaw p) 0x020F false opPipeRaw p := fun _ => rfl
    exact d.answers a hu (opPipeRaw_passes hs hn hw hb hr)
  case status =>
    rintro s u p n a hu hs rfl hn hb
    have d : Delivers (.pipeStatus p) 0x0210 false opPipeStatus p := fun _ => rfl
    exact d.answers a hu (by rw [opPipeStatus, ownerCmd_passes (by simp [hs, hn]) hb]; rfl)

/-! ## The opcodes of the beams (R230, R547) -/

theorem opBeamSet_passes {p : Packet} {u : State} {first last : Nat} {l : List (Nat × BeamCfg)} (hfirst : first = Packet.arg p 0 2)
    (hlast : last = Packet.arg p 2 2) (hle : first ≤ last) (hlt : last < 4096) (hn : last + 1 - first ≤ 100)
    (hl : l = packetCfgs u p first (last + 1 - first)) (hs : Packet.sized p (4 + 32 * (last + 1 - first)) = true)
    (own : u.beamsAllowed (p.borough % 32) l = true) : opBeamSet p u = u.beamCommit p first last l := by
  rw [opBeamSet, ← hfirst, ← hlast, ← hl,
    holderCmd_passes (by simp [hs, hn, hlt, Nat.lt_of_le_of_lt hle hlt]) own]

/-- Where no beam of the range is in force or staged, only the shadows change. -/
theorem opBeamDisable_idle {p : Packet} {u : State} {l : List Nat} (hs : Packet.sized p 4 = true)
    (hle : Packet.arg p 0 2 ≤ Packet.arg p 2 2) (hlt : Packet.arg p 2 2 < 4096)
    (hl : l = (List.range (Packet.arg p 2 2 + 1 - Packet.arg p 0 2)).map (fun i => Packet.arg p 0 2 + i))
    (own : ∀ b ∈ l, u.beamBorough b = p.borough % 32) (off : ∀ b ∈ l, u.beamThen p b = none) :
    opBeamDisable p u = (((l.foldl (fun (s : State) b => s.wn (BFM_DESC b 0) (setBits (s.rn (BFM_DESC b 0)) 31 31 0)) u).put
      BFM_STAT_CODE 0).put BFM_STAT_BEAM 0).sayIdle := by
  have noneOn : l.filterMap (fun b => (u.beamThen p b).map (fun x => (b, x))) = [] :=
    List.filterMap_eq_nil_iff.2 fun b hb => by simp [off b hb]
  rw [opBeamDisable, ← hl, holderCmd_passes (by simp [hs, hlt, Nat.lt_of_le_of_lt hle hlt]) (by simpa using own)]
  simp only [noneOn, if_neg (Nat.not_lt.2 hle), List.isEmpty_nil, if_true]

/-- One beam that is in force or staged ends at its boundary. -/
theorem opBeamDisable_one {p : Packet} {u : State} {b g k : Nat} {x : BeamCfg} (hs : Packet.sized p 4 = true)
    (hfirst : Packet.arg p 0 2 = b) (hlast : Packet.arg p 2 2 = b) (hb : b < 4096) (own : u.beamBorough b = p.borough % 32)
    (on : u.beamThen p b = some (g, x)) (hk : u.stageIndex g (Packet.act p) = some k) (hf : u.stageFull (.beam b) k = false) :
    opBeamDisable p u = (.staged g k [], (((u.wn (BFM_DESC b 0) (setBits (u.rn (BFM_DESC b 0)) 31 31 0)).put BFM_STAT_CODE 0).put
      BFM_STAT_BEAM 0).stageRange g k (actionOf p) [(b, x.off)]) := by
  have range : (List.range (b + 1 - b)).map (fun i => b + i) = [b] := by simp
  rw [opBeamDisable, hfirst, hlast, range, holderCmd_passes (by simp [hs, hb]) (by simp [own])]
  simp [on, hk, hf]

theorem opBeamIset_passes {p : Packet} {u : State} (hs : Packet.sized p 132 = true) (hn : Packet.word p 0 < 256)
    (hb : p.borough % 32 = 0) (free : u.allCfgs.any (fun e => bits (e.2.w 0) 27 20 == Packet.word p 0) = false) :
    opBeamIset p u = (.now 0 [], (List.range 32).foldl (fun (s : State) w =>
      s.wn (BFM_ISET (Packet.word p 0) w) (Packet.word p (1 + w))) u) := by
  rw [opBeamIset, ownerCmd_passes (by simp [hs, hn]) hb]
  simp only [free, Bool.false_eq_true, if_false]
  rfl

theorem opBeamWeights_passes {p : Packet} {u : State} {n at_ : Nat} {pages : List Nat} (hn : n = Packet.arg p 4 2)
    (hat : at_ = Packet.arg p 0 2 * 16384 + Packet.arg p 2 2)
    (hp : pages = (List.range ((at_ + n - 1) / 16384 + 1 - at_ / 16384)).map (fun i => at_ / 16384 + i)) (h1 : 1 ≤ n) (h2 : n ≤ 1000)
    (hs : Packet.sized p (8 + 4 * n) = true) (h0 : Packet.arg p 6 2 = 0) (hoff : Packet.arg p 2 2 < 16384)
    (hend : at_ + n ≤ 65536 * 16384) (own : ∀ q ∈ pages, u.pageBorough q = p.borough % 32)
    (free : ∀ q ∈ pages, u.weightInUse q = false) (up : u.stackDown = none) :
    opBeamWeights p u = (.now 0 [], (List.range n).foldl (fun (s : State) i =>
      s.setTab (2 * 2 ^ 40 + 4 * (at_ + i)) (w32 (Packet.word p (2 + i)))) u) := by
  have owned : (pages.filter (fun q => decide (q < 65536))).all (fun q => u.pageBorough q == p.borough % 32) = true :=
    List.all_eq_true.2 fun q hq => by simp [own q (List.mem_filter.1 hq).1]
  have refused : (decide (65536 * 16384 < at_ + n) || pages.any u.weightInUse) = false := by
    simpa [Nat.not_lt.2 hend] using free
  rw [opBeamWeights, ← hn, ← hat, ← hp, holderCmd_passes (by simp [h1, h2, hs, h0, hoff]) owned]
  simp only [refused, up, Bool.false_eq_true, if_false]
  rfl

/-- Settles O41: each opcode passes its checks and acts on the beams that its sender owns. -/
theorem beamOpcodesComplete : Obligations.BeamOpcodesComplete := by
  refine ⟨?set, ?disableIdle, ?disableStaged, ?iset, ?weights, ?status, ?load⟩
  case set =>
    rintro s u p first last l o a hu hfirst hlast hle hlt hn hl hs own rfl ho
    have d : Delivers (.beamSet p) 0x0301 true opBeamSet p := fun _ => rfl
    exact d.answers a hu ((opBeamSet_passes hfirst hlast hle hlt hn hl hs own).trans (Prod.ext ho rfl))
  case disableIdle =>
    rintro s u p v first last l a hu hs rfl rfl hle hlt hl own off rfl
    have d : Delivers (.beamDisable p) 0x0302 true opBeamDisable p := fun _ => rfl
    exact d.answers a hu ((opBeamDisable_idle hs hle hlt hl own off).trans (sayIdle_eq _))
  case disableStaged =>
    intro s u p b g k x a hu hs hfirst hlast hb own on hk hf
    have d : Delivers (.beamDisable p) 0x0302 true opBeamDisable p := fun _ => rfl
    exact d.opens a hu (opBeamDisable_one hs hfirst hlast hb own on hk hf)
  case iset =>
    rintro s u p n a hu hs rfl hn hb free
    have d : Delivers (.beamIset p) 0x0303 false opBeamIset p := fun _ => rfl
    exact d.answers a hu (opBeamIset_passes hs hn hb free)
  case weights =>
    intro s u p n at_ pages a hu hn hat hp h1 h2 hs h0 hoff hend own free up
    have d : Delivers (.beamWeights p) 0x0304 false opBeamWeights p := fun _ => rfl
    exact d.answers a hu (opBeamWeights_passes hn hat hp h1 h2 hs h0 hoff hend own free up)
  case status =>
    rintro s u p b a hu hs rfl hb own
    have d : Delivers (.beamStatus p) 0x0305 false opBeamStatus p := fun _ => rfl
    exact d.answers a hu (by rw [opBeamStatus, holderCmd_passes (by simp [hs, hb]) (by simp [own])]; rfl)
  case load =>
    intro s u p a hu hs
    have d : Delivers (.beamLoad p) 0x0306 false opBeamLoad p := fun _ => rfl
    exact d.answers a hu (by rw [opBeamLoad, anyCmd_passes hs]; rfl)

/-! ## The opcodes of the grids (R21 to R26, R547) -/

theorem opGridDefine_passes {p : Packet} {u w : State} {g f num den : Nat} (hs : Packet.sized p 28 = true)
    (hg : g = Packet.arg p 0 1) (hf : f = Packet.arg p 1 1) (hnum : num = Packet.arg p 16 8) (hden : den = Packet.arg p 24 4)
    (hlt : g < 8) (h0 : Packet.arg p 2 2 = 0) (ht : mtArgOk p 4 = true) (hb : p.borough % 32 = 0)
    (legal : gridLegal num den f = true) (free : u.gridBound g = 0)
    (hw : w = ((((u.wn (SYS_GRID_EP_FRAC g) (Packet.arg p 4 2)).wn (SYS_GRID_EP_NS g) (Packet.arg p 6 4)).wr64
      (SYS_GRID_EP_SEC_LO g) (SYS_GRID_EP_SEC_HI g) (Packet.arg p 10 6)).wr64 (SYS_GRID_NUM_LO g) (SYS_GRID_NUM_HI g) num).wn
      (SYS_GRID_DEN g) den) :
    opGridDefine p u = (.now 0 [], (((({ w with gridNext := mapPut 0 g 0 w.gridNext } : State).put (SYS_GRID_CTL_FRAME_LOG2 g)
      f).put (SYS_GRID_CTL_VALID g) 1).gridGen g).gridRenew g) := by
  subst hw
  rw [opGridDefine, ← hg, ← hf, ← hnum, ← hden, ownerCmd_passes (by simp [hs, hlt, h0, ht]) hb]
  simp only [legal, free, Bool.not_true, Bool.false_eq_true, if_false, ne_eq, not_true_eq_false]
  rfl

theorem opGridClear_free {p : Packet} {u : State} (hs : Packet.sized p 4 = true) (hg : Packet.word p 0 < 8)
    (hb : p.borough % 32 = 0) (free : u.gridBound (Packet.word p 0) = 0) :
    opGridClear p u = (.now 0 [], ((({ u with gridNext := mapPut 0 (Packet.word p 0) 0 u.gridNext } : State).put
      (SYS_GRID_CTL_VALID (Packet.word p 0)) 0).gridGen (Packet.word p 0)).gridRenew (Packet.word p 0)) := by
  rw [opGridClear, ownerCmd_passes (by simp [hs, hg]) hb]
  exact if_neg (not_not_intro free)

theorem opGridClear_bound {p : Packet} {u : State} (hs : Packet.sized p 4 = true) (hg : Packet.word p 0 < 8)
    (hb : p.borough % 32 = 0) (bound : u.gridBound (Packet.word p 0) ≠ 0) : opGridClear p u = (.now 0x102 [], u) := by
  rw [opGridClear, ownerCmd_passes (by simp [hs, hg]) hb]
  exact if_pos bound

theorem opGridIndex_passes {p : Packet} {u : State} {k : Nat} (hs : Packet.sized p 16 = true) (hg : Packet.word p 0 < 8)
    (ht : mtArgOk p 4 = true) (valid : u.gridValid (Packet.word p 0) = true)
    (hk : k = u.gridIndexAt (Packet.word p 0) (mtArg p 4)) :
    opGridIndex p u = (.now 0 (bytesWords (leBytes 8 k ++ mtBytes (u.gridInstant (Packet.word p 0) k) ++ leBytes 4 0)), u) := by
  have hmod : Packet.word p 0 % 256 = Packet.word p 0 := Nat.mod_eq_of_lt (by omega)
  rw [opGridIndex, hmod, anyCmd_passes (by simp [hs, hg, ht])]
  simp only [valid, Bool.not_true, Bool.false_eq_true, if_false, ← hk]
  rfl

/-- Settles O42: each opcode passes its checks; a grid that has a bound unit is not cleared. -/
theorem gridOpcodesComplete : Obligations.GridOpcodesComplete := by
  refine ⟨?define, ?clear, ?clearRefused, ?read, ?index⟩
  case define =>
    intro s u p g f num den w a hu hs hg hf hnum hden hlt h0 ht hb legal free hw
    have d : Delivers (.gridDefine p) 0x0401 false opGridDefine p := fun _ => rfl
    exact d.answers a hu (opGridDefine_passes hs hg hf hnum hden hlt h0 ht hb legal free hw)
  case clear =>
    rintro s u p g w a hu hs rfl hg hb free rfl
    have d : Delivers (.gridClear p) 0x0402 false opGridClear p := fun _ => rfl
    exact d.answers a hu (opGridClear_free hs hg hb free)
  case clearRefused =>
    rintro s u p g a hu hs rfl hg hb bound
    have d : Delivers (.gridClear p) 0x0402 false opGridClear p := fun _ => rfl
    exact d.answers a hu (opGridClear_bound hs hg hb bound)
  case read =>
    rintro s u p g a hu hs rfl hg
    have d : Delivers (.gridRead p) 0x0403 false opGridRead p := fun _ => rfl
    exact d.answers a hu (by rw [opGridRead, anyCmd_passes (by simp [hs, hg])]; rfl)
  case index =>
    rintro s u p g k a hu hs rfl hg ht valid hk
    have d : Delivers (.gridIndex p) 0x0404 false opGridIndex p := fun _ => rfl
    exact d.answers a hu (opGridIndex_passes hs hg ht valid hk)

/-! ## Writes of `CHP_CTL` by register (R167 to R169, R193) -/

/-- The actions that a write of `CHP_CTL` of slot n asks for, one after another: BIND, COMMIT, UNBIND. -/
def State.slotActs (s : State) (n : Nat) (w : Wr) : State :=
  let bound := if w.hits 0 then s.slotBind n commitAction else s
  let committed := if w.hits 2 then bound.slotCommit n commitAction else bound
  if w.hits 1 then committed.slotUnbind n commitAction else committed

/-- A write of `CHP_CTL` that asks for an action while the slot's engine domain is open. -/
theorem chpCtlWrite_acts {s : State} {n : Nat} {w : Wr} (ha : Wr.acts w = true)
    (hd : (s.ctlWritten n w).awake ((s.ctlWritten n w).slotDomain n) = true) :
    s.chpCtlWrite n w = ((s.ctlWritten n w).slotActs n w).showDirty n := by
  change (if Wr.acts w = true then if !(s.ctlWritten n w).awake ((s.ctlWritten n w).slotDomain n) then _ else _ else _) = _
  rw [if_pos ha, hd]
  rfl

theorem winWrite_slot {s : State} {n : Nat} {w : Wr} (hn : n < 1024) : s.winWrite n 0 w = s.chpCtlWrite n w := by
  rw [State.winWrite, if_pos hn, State.slotWrite, if_pos rfl]

/-- A write of `CHP_CTL` in the window of slot n reaches the slot's actions. -/
theorem slotWindow_acts {s : State} {n : Nat} {w : Wr} (hn : n < 1024) (o : s.Opens w (winBase n)) (ha : Wr.acts w = true)
    (hd : (s.ctlWritten n w).awake ((s.ctlWritten n w).slotDomain n) = true) :
    s.pfOnly w (winBase n) (fun s => s.winWrite n 0 w) = ((s.ctlWritten n w).slotActs n w).showDirty n := by
  rw [pfOnly_open o, winWrite_slot hn, chpCtlWrite_acts ha hd]

section
variable {s : State} {n : Nat} {w : Wr}

theorem slotActs_bind (h0 : w.hits 0 = true) (h1 : w.hits 1 = false) (h2 : w.hits 2 = false) :
    s.slotActs n w = s.slotBind n commitAction := by
  simp [State.slotActs, h0, h1, h2]

theorem slotActs_unbind (h0 : w.hits 0 = false) (h1 : w.hits 1 = true) (h2 : w.hits 2 = false) :
    s.slotActs n w = s.slotUnbind n commitAction := by
  simp [State.slotActs, h0, h1, h2]

theorem slotActs_commit (h0 : w.hits 0 = false) (h1 : w.hits 1 = false) (h2 : w.hits 2 = true) :
    s.slotActs n w = s.slotCommit n commitAction := by
  simp [State.slotActs, h0, h1, h2]

end

section
variable {u : State} {n action : Nat}

theorem slotBind_passes (hc : u.slotCheck n (u.get (CHP_CTL_GRID n)) true false (u.slotShadow n)
      (u.nextBoundary (u.get (CHP_CTL_GRID n))) = 0) :
    u.slotBind n action = (u.stageBind n (u.get (CHP_CTL_GRID n)) (u.nextBoundary (u.get (CHP_CTL_GRID n))) action).slotCode n 0 :=
  if_pos hc

theorem slotCommit_passes (hc : u.slotCheck n (u.slot n).boundGrid false (u.isSet (CHP_CTL_RESTART n)) (u.slotShadow n)
      (u.nextBoundary (u.slot n).boundGrid) = 0) :
    u.slotCommit n action = (u.stageCommit n (u.nextBoundary (u.slot n).boundGrid) action).slotCode n 0 :=
  if_pos hc

theorem slotUnbind_running (hn : u.slotState n ≠ 0) (hu : u.unbindWaits n = false) (hw : (u.slot n).waits ≠ 1) :
    u.slotUnbind n action =
      ((u.stageUnbind n (u.nextBoundary (u.slot n).boundGrid) action).slotCode n 0).abortDiscarded := by
  simp only [State.slotUnbind, State.slotUnbindAt, hu, hn, hw, decide_false, Bool.or_self, Bool.false_eq_true, if_false]
  rfl

end

/-- A write of `CHP_CTL` that acts in a district window or the broadcast window: every member takes it, and `CHP_GRP_RES` counts
those that accepted it. -/
theorem winWrite_group {s t : State} {win : Nat} {w : Wr} (hwin : 1024 ≤ win) (ha : Wr.acts w = true)
    (ht : t = (s.members win).foldl (fun (s : State) n => s.slotWrite n 0 w) s) :
    s.winWrite win 0 w = t.wn (grpRes win) (countIf t.actAccepted (s.members win) + 65536 *
      ((s.members win).length - countIf t.actAccepted (s.members win))) := by
  subst ht
  simp [State.winWrite, Nat.not_lt.2 hwin, ha]

/-- A mirrored register other than `CHP_CTL`, written in a district window or the broadcast window. -/
theorem windowWrite_mirrored {s : State} {win off : Nat} {w : Wr} (hwin : 1024 ≤ win) (hoff : off < 0x100)
    (hreg : slotOffOk off = true) (h0 : off ≠ 0) :
    s.windowWrite win off w = (s.members win).foldl (fun (s : State) n => s.slotWrite n off w) s := by
  simp [State.windowWrite, State.winWrite, Nat.not_lt.2 hwin, hoff, hreg, h0]

/-! ## Frame boundaries and BLANK lines (R27, R176) -/

theorem frameBoundary_due {s : State} {g f : Nat} (hg : g < 8) (valid : s.gridValid g = true)
    (next : mapGet 0 g s.gridNext ≤ f) (due : s.gridInstant g (f * s.frameLen g) ≤ s.mt) :
    exec (.frameBoundary g f) s = .next (s.boundary g f).settle := by
  change execFrameBoundary g f s = _
  simp [execFrameBoundary, hg, valid, next, due]

theorem blankEdge_first {s : State} {line : Nat} (hl : line < 8) (noneYet : mapGet [] line s.blanks = []) :
    exec (.blankEdge line true) s =
      .next (({ s with blanks := mapPut [] line [⟨s.mt, none⟩] s.blanks } : State).feBlank line true s.mt) := by
  change execBlankEdge line true s = _
  simp [execBlankEdge, noneYet, Nat.not_le.2 hl]

theorem blankEdge_release {s : State} {line : Nat} {x : Span} {r : List Span} (hl : line < 8)
    (spans : mapGet [] line s.blanks = x :: r) (asserted : x.to_ = none) :
    exec (.blankEdge line false) s =
      .next (({ s with blanks := mapPut [] line ({ x with to_ := some s.mt } :: r) s.blanks } : State).feBlank line false s.mt) := by
  change execBlankEdge line false s = _
  simp [execBlankEdge, spans, asserted, Nat.not_le.2 hl]

/-! ## Source samples (R140, R174 to R178) -/

/-- A source sample of a running slot that comes in its turn, its engine awake, passes the intake and the front stages. -/
theorem takeSample_inTurn {s u v : State} {n i : Nat} {m : Int} {x : SrcSample} (run : (s.slot n).run = true)
    (flows : s.srcFlows n = true) (hm : m = s.instant n i) (begun : (s.slot n).start ≤ m)
    (held : srcType (s.srcWord n) = 2 ∨ m + intakeHold ≤ s.mt * 2 ^ 32)
    (turn : (s.slot n).lastI = none ∧ (s.slot n).since = 0 ∨ ∃ l, (s.slot n).lastI = some l ∧ i = l + 1)
    (taken : x.refused = false) (up : s.awake (s.slotDomain n) = true) (hu : u = s.intakeMarks n m)
    (hv : v = u.setSlot n { (u.intake n m x).2 with lastI := some i }) :
    s.takeSample n i x = (if v.intakeOn n then (v.rawTake n m (u.intake n m x).1).fastPower n m (u.intake n m x).1
      else v).feed n i m (u.intake n m x).1 := by
  have notEarly : (srcType (s.srcWord n) != 2 && decide (s.mt * 2 ^ 32 < m + intakeHold)) = false := by
    rcases held with h | h
    · simp [h]
    · rw [decide_eq_false (Int.not_lt.2 h), Bool.and_false]
  have notBefore : decide (m < (s.slot n).start) = false := decide_eq_false (Int.not_lt.2 begun)
  subst hu hv
  rcases turn with ⟨first, fresh⟩ | ⟨l, last, rfl⟩
  · simp only [State.takeSample, ← hm, run, flows, notEarly, notBefore, first, fresh, taken, up]
    rfl
  · have notOld : decide (l + 1 ≤ l) = false := decide_eq_false (Nat.not_succ_le_self l)
    have noGap : decide (l + 1 ≠ l + 1) = false := decide_eq_false (not_not_intro rfl)
    simp only [State.takeSample, ← hm, run, flows, notEarly, notBefore, last, notOld, noGap, taken, up]
    rfl

theorem sourceSample_slot {s : State} {n i : Nat} {x : SrcSample} (lock : s.isSet CLK_STAT_CORE_LOCK = true)
    (other : srcType (s.srcWord n) ≠ 1) : exec (.sourceSample (.slot n) i x) s = .next (s.takeSample n i x) := by
  change execSourceSample (.slot n) i x s = _
  simp [execSourceSample, lock, other]

theorem sourceSample_input {s u : State} {c i : Nat} {x : SrcSample} (lock : s.isSet CLK_STAT_CORE_LOCK = true)
    (hc : c < s.part.inputs) (flows : (s.grp (inputGroup c)).flowing = true) (up : s.awake (inputGroup c) = true)
    (hu : u = (if x.isOver then s.setSub (iStat c) 15 15 1 else s)) :
    exec (.sourceSample (.input c) i x) s = .next ((u.inputSlots c).foldl (fun (s : State) n => s.takeSample n i x) u) := by
  subst hu
  change execSourceSample (.input c) i x s = _
  simp [execSourceSample, lock, hc, State.inputSample, flows, up]

/-! ## Tags of the converter groups (R201) -/

theorem cgTag_usable {s u : State} {g i : Nat} {m : Int} (flows : (s.grp g).flowing = true) (up : s.awake 93 = true)
    (tracked : s.track g ≠ 0) (fine : s.isSet TB_STATUS_COARSE = false)
    (hm : m = s.captureMt (s.coreOf (g % 16)) (if g < 16 then 1 else 2) i)
    (hu : u = ((s.cgBack g).freqEdge (0x12 + g) m false).trkForce g)
    (sound : s.isSet (TIM_CORE_STAT_FAILING (s.coreOf (g % 16))) = false) :
    exec (.cgTag g i) s = .next ((u.lockTag g m).goodTag g m) := by
  subst hm hu
  change execCgTag g i s = _
  simp [execCgTag, flows, up, tracked, fine, sound]

/-- A tag while COARSE, or of a failing core, cannot be used. -/
theorem cgTag_unusable {s u : State} {g i : Nat} {m : Int} (flows : (s.grp g).flowing = true) (up : s.awake 93 = true)
    (tracked : s.track g ≠ 0) (hm : m = s.captureMt (s.coreOf (g % 16)) (if g < 16 then 1 else 2) i)
    (hu : u = ((s.cgBack g).freqEdge (0x12 + g) m (s.isSet TB_STATUS_COARSE)).trkForce g)
    (bad : (s.isSet TB_STATUS_COARSE || s.isSet (TIM_CORE_STAT_FAILING (s.coreOf (g % 16)))) = true) :
    exec (.cgTag g i) s = .next ((u.lockBreak g).badTag g) := by
  subst hm hu
  change execCgTag g i s = _
  simp only [execCgTag, flows, up, tracked, bad, Bool.not_true, Bool.or_self, decide_false, Bool.false_eq_true, if_false, if_true]

theorem lockBreak_est (s : State) (g : Nat) : ((s.lockBreak g).grp g).est = (s.grp g).est := by
  rw [State.lockBreak, setGrp_same]

theorem lockBreak_track (s : State) (g : Nat) : (s.lockBreak g).track g = s.track g := rfl

theorem cgTagMissing_tracking {s : State} {g : Nat} (running : s.get (CNV_GRP_STAT_RUNNING (g / 3) (g % 3)) = 1)
    (tracks : s.track g = 2) :
    exec (.cgTagMissing g) s =
      .next ((s.lockBreak g).setTrack g { (s.grp g).est with edges := (s.grp g).est.edges + 1, coastFrom := s.mt } 3) := by
  have bad : (s.lockBreak g).badTag g =
      (s.lockBreak g).setTrack g { (s.grp g).est with edges := (s.grp g).est.edges + 1, coastFrom := s.mt } 3 := by
    rw [State.badTag, lockBreak_est, lockBreak_track, if_pos tracks]
    rfl
  change execCgTagMissing g s = _
  rw [execCgTagMissing, if_pos (by simp [running, tracks]), bad]

theorem coastTimeout_due {s : State} {g : Nat} (coasts : s.track g = 3)
    (due : (s.grp g).est.coastFrom + (((s.grp g).est.coastMax * mtMs : Nat) : Int) ≤ s.mt) :
    exec (.coastTimeout g) s = .next (s.setTrack g (s.grp g).est 4) := by
  change execCoastTimeout g s = _
  simp only [execCoastTimeout, coasts, due]
  rfl

/-! ## Grid samples and spectra (R195, R209, R212, R219) -/

section
variable {s : State} {n : Nat}

theorem gridSampleEmit_runs (run : s.slotRuns n = true) (lock : s.isSet CLK_STAT_CORE_LOCK = true) :
    exec (.gridSampleEmit n) s = .next ((s.gridStep n).settleSlot n) := by
  change execGridSampleEmit n s = _
  rw [execGridSampleEmit, run, lock]
  rfl

/-- A grid sample whose instant has come, of a frame that has begun, is due: no guard of `State.gridStep` holds it back. -/
theorem gridStep_notHeld (come : s.gridInstant (s.slot n).grid (s.slot n).nextK ≤ s.mt)
    (frame : (s.slot n).nextK < mapGet 0 (s.slot n).grid s.gridNext * s.frameLen (s.slot n).grid) :
    (decide (s.mt < s.gridInstant (s.slot n).grid (s.slot n).nextK)
      || decide (mapGet 0 (s.slot n).grid s.gridNext * s.frameLen (s.slot n).grid ≤ (s.slot n).nextK)) = false := by
  simp [Int.not_lt.2 come, Nat.not_le.2 frame]

theorem gridStep_supported (come : s.gridInstant (s.slot n).grid (s.slot n).nextK ≤ s.mt)
    (frame : (s.slot n).nextK < mapGet 0 (s.slot n).grid s.gridNext * s.frameLen (s.slot n).grid)
    (placed : s.get (CHP_RSM_STAT_TRACK n) = 2 ∨ s.get (CHP_RSM_STAT_TRACK n) = 3 ∨ s.get (CHP_RSM_STAT_TRACK n) = 5)
    (supported : s.support n (s.nextPos n) = some true) :
    s.gridStep n = ((s.gapEnd n).takeGrid n (s.nextPos n) (s.interpolate n (s.nextPos n)).1).slotSat n
      (s.interpolate n (s.nextPos n)).2 := by
  have tracks : (decide (s.get (CHP_RSM_STAT_TRACK n) = 2) || decide (s.get (CHP_RSM_STAT_TRACK n) = 3)
      || decide (s.get (CHP_RSM_STAT_TRACK n) = 5)) = true := by simpa [or_assoc] using placed
  simp only [State.gridStep, gridStep_notHeld come frame, tracks, supported, Bool.not_true, Bool.false_eq_true, if_false]

theorem gridStep_gap (come : s.gridInstant (s.slot n).grid (s.slot n).nextK ≤ s.mt)
    (frame : (s.slot n).nextK < mapGet 0 (s.slot n).grid s.gridNext * s.frameLen (s.slot n).grid)
    (gap : s.get (CHP_RSM_STAT_TRACK n) ≠ 2 ∧ s.get (CHP_RSM_STAT_TRACK n) ≠ 3 ∧ s.get (CHP_RSM_STAT_TRACK n) ≠ 5 ∨
      s.support n (s.nextPos n) = some false ∨ (s.support n (s.nextPos n) = none ∧ s.srcFlows n = false)) :
    s.gridStep n = s.gapSample n := by
  simp only [State.gridStep, gridStep_notHeld come frame, Bool.false_eq_true, if_false]
  rcases gap with ⟨h2, h3, h5⟩ | missing | ⟨toCome, silent⟩
  · simp [h2, h3, h5]
  · simp [missing]
  · simp [toCome, silent]

theorem sourceResume_empties (s : State) (n : Nat) : (((s.sourceResume n).slot n).line = [] ∧ ((s.sourceResume n).slot n).outs = [] ∧
    ((s.sourceResume n).slot n).resumed = true ∧ ((s.sourceResume n).slot n).since = 0) := by
  have slot : ∀ t : State, (t.resumeSource n).slot n = { t.slot n with
      since := 0, line := [], lines := [[], [], [], [], []], outs := [], firstM := none, resumed := true, lastI := none,
      posVer := none, setM := none } := fun t => setSlot_same t n _
  simp [State.sourceResume, slot]

theorem pathTake_slots (s : State) (p : PathCfg) (x : OutPath) (y : Spectrum) (used : Nat) :
    (s.pathTake p x y used).1.1.slots = s.slots :=
  (State.pathTake_keeps (Keeps.refl (compMask [.regs, .items]) s) rfl p x y used).slots rfl

theorem spectrumStep_nextJ (s : State) (n : Nat) : ((s.spectrumStep n).slot n).nextJ = (s.slot n).nextJ + 1 := by
  unfold State.spectrumStep
  dsimp only
  rw [slotSat_nextJ, setSlot_same]
  dsimp only
  rw [slot_of_slots (pathTake_slots ..), slotSat_nextJ]
  have counted : ∀ (c : Bool) (t : State) (f : Fld) (v : Nat), (if c then t.put f v else t).slot n = t.slot n := by
    intro c t f v; cases c <;> rfl
  rw [counted, setSlot_same]

end

/-- Settles O20: each command of rows 55 to 67 meets the law of its row above. -/
theorem slotCommandsComplete : Obligations.SlotCommandsComplete := by
  refine ⟨?bind, ?groupAct, ?unbind, ?commit, ?mirrored, ?boundary, ?blankOn, ?blankOff, ?sampleSlot, ?sampleInput, ?tag, ?badTag,
    ?missing, ?coast, ?emit, ?gap, ?resume, ?spectrum⟩
  case bind =>
    intro s n w hn o h0 h1 h2 up hc
    change Host.Outcome.next (s.pfOnly w (winBase n) (fun s => s.winWrite n 0 w)) = _
    rw [slotWindow_acts hn o (by simp [Wr.acts, h0]) up, slotActs_bind h0 h1 h2, slotBind_passes hc]
  case groupAct =>
    intro s win w hwin o ha
    change Host.Outcome.next (s.pfOnly w (winBase win) (fun s => s.winWrite win 0 w)) = _
    rw [pfOnly_open o, winWrite_group hwin ha rfl]
  case unbind =>
    intro s n w hn o h0 h1 h2 up inUse unasked running
    change Host.Outcome.next (s.pfOnly w (winBase n) (fun s => s.winWrite n 0 w)) = _
    rw [slotWindow_acts hn o (by simp [Wr.acts, h1]) up, slotActs_unbind h0 h1 h2, slotUnbind_running inUse unasked running]
  case commit =>
    intro s n w hn o h0 h1 h2 up hc
    change Host.Outcome.next (s.pfOnly w (winBase n) (fun s => s.winWrite n 0 w)) = _
    rw [slotWindow_acts hn o (by simp [Wr.acts, h2]) up, slotActs_commit h0 h1 h2, slotCommit_passes hc]
  case mirrored =>
    intro s d off w hd o hoff hreg h0
    change Host.Outcome.next (s.pfOnly w (winBase (1024 + min d 64) + off) (fun s => s.windowWrite (1024 + min d 64) off w)) = _
    rw [Nat.min_eq_left hd, pfOnly_open o, windowWrite_mirrored (by omega) hoff hreg h0]
  case boundary => exact fun _ _ _ hg valid next due => frameBoundary_due hg valid next due
  case blankOn => exact fun _ _ hl noneYet => blankEdge_first hl noneYet
  case blankOff => exact fun _ _ _ _ hl spans asserted => blankEdge_release hl spans asserted
  case sampleSlot =>
    intro s u v n i m x lock other run flows hm begun held turn taken up hu hv
    rw [sourceSample_slot lock other, takeSample_inTurn run flows hm begun held turn taken up hu hv]
  case sampleInput => exact fun _ _ _ _ _ lock hc flows up hu => sourceSample_input lock hc flows up hu
  case tag => exact fun _ _ _ _ _ flows up tracked fine hm hu sound => cgTag_usable flows up tracked fine hm hu sound
  case badTag => exact fun _ _ _ _ _ flows up tracked hm hu bad => cgTag_unusable flows up tracked hm hu bad
  case missing => exact fun _ _ running tracks => cgTagMissing_tracking running tracks
  case coast => exact fun _ _ coasts due => coastTimeout_due coasts due
  case emit =>
    intro s n run lock come frame placed supported
    rw [gridSampleEmit_runs run lock, gridStep_supported come frame placed supported]
  case gap =>
    intro s n run lock come frame gap
    rw [gridSampleEmit_runs run lock, gridStep_gap come frame gap]
  case resume =>
    intro s n run lock
    refine ⟨s.sourceResume n, ?_, rfl, sourceResume_empties s n⟩
    change execSourceResume n s = _
    rw [execSourceResume, run, lock]
    rfl
  case spectrum =>
    intro s n due lock
    refine ⟨s.spectrumStep n, ?_, rfl, spectrumStep_nextJ s n⟩
    change execSpectrumReady n s = _
    rw [execSpectrumReady, due, lock]
    rfl

end Sys2Proof.Machine

namespace Sys2Proof.Machine

/-! SUPPORT and the statements of the Meridian time base: the phase clock, the adjustments, the discipline and the TIME opcodes. -/

/-! ## The phase clock (R45, R47, R651) -/

/-- The clock behind its start and the event that reports it: locked, its count 0. -/
theorem clockStart_raise_tb (s : State) (e : EvId) (inst : Nat) (det : List Detail) (bor : Nat) (pol mand nolog : Bool) :
    (s.clockStart.raise e inst det bor pol mand nolog).tb.locked = true ∧
      (s.clockStart.raise e inst det bor pol mand nolog).tb.fc = 0 := by
  obtain ⟨locked, fc, -⟩ := State.clockStart_spec s
  rw [raise_tb]
  exact ⟨locked, fc⟩

/-- A command that starts the clock where its conditions hold, and does nothing elsewhere. -/
theorem starts_clock {p : Prop} [Decidable p] {s v : State} (h : v.tb.fc = 0) :
    ((if p then s else v).tb.locked = s.tb.locked ∧ (if p then s else v).tb.fc = s.tb.fc) ∨ (if p then s else v).tb.fc = 0 := by
  split
  · exact .inl ⟨rfl, rfl⟩
  · exact .inr h

/-- What a special command does to the phase clock: none moves the count but to 0. -/
theorem exec_special_clock {c : Instr} {s t : State} (hc : isSpecial c = true) (h : exec c s = .next t) :
    (t.tb.locked = s.tb.locked ∧ t.tb.fc = s.tb.fc) ∨ t.tb.fc = 0 := by
  unfold isSpecial at hc
  split at hc
  next torn =>
    cases (show execPorAssert torn s = .next t from h)
    obtain ⟨-, fc, -⟩ := State.powerReset_spec s 0 torn
    exact .inr fc
  next => cases (show execPorRelease s = .next t from h); exact .inl ⟨rfl, rfl⟩
  next torn =>
    cases (show execAonMonitorReset torn s = .next t from h)
    obtain ⟨-, fc, -⟩ := State.powerReset_spec s 1 torn
    exact .inr fc
  next =>
    cases (show execXoFail s = .next t from h)
    exact starts_clock (clockStart_raise_tb ..).2
  next =>
    cases (show execPhasePllFirstLock s = .next t from h)
    exact starts_clock (clockStart_raise_tb ..).2
  next ir => cases (show execTapInstruction ir s = .next t from h); exact .inl ⟨rfl, rfl⟩
  next => cases (show execTapReset s = .next t from h); exact .inl ⟨rfl, rfl⟩
  next => cases hc

/-- Whatever a command does, the clock is as it was or its count is 0. -/
theorem exec_clock {c : Instr} {s t : State} (h : exec c s = .next t) :
    (t.tb.locked = s.tb.locked ∧ t.tb.fc = s.tb.fc) ∨ t.tb.fc = 0 := by
  cases hc : isSpecial c
  · exact .inl ⟨(exec_same c hc t h).locked, (exec_same c hc t h).fc⟩
  · exact exec_special_clock hc h

theorem step_idle {s : State} (h : s.pending = []) : step s = .next s.idle := by rw [step, h]

theorem step_front {s : State} {c : Instr} {rest : List Instr} (h : s.pending = c :: rest) :
    step s = exec c { s with pending := rest } := by rw [step, h]

/-- An idle step moves the clock as `State.clock` does, and leaves the queue. -/
theorem idle_clock (s : State) : s.idle.pending = s.pending ∧ s.idle.tb.locked = s.tb.locked ∧
    s.idle.tb.fc = s.tb.fc + (if s.tb.locked then (if s.isSet TB_STATUS_COARSE then 25 else 1) else 0) := by
  obtain ⟨locked, pending, fc⟩ := State.clock_spec s
  have settled := State.idle_same s
  exact ⟨settled.pending.trans pending, settled.locked.trans locked, settled.fc.trans fc⟩

/-- Settles O4: an idle step does not move a clock that stands, and a command that moves the count puts it at 0. -/
theorem clockStandsUntilLock : Obligations.ClockStandsUntilLock := by
  intro s t inv hstep unlocked
  cases hp : s.pending with
  | nil =>
    obtain rfl := Host.Outcome.next.inj ((step_idle hp).symm.trans hstep)
    obtain ⟨-, locked, fc⟩ := idle_clock s
    have stood : s.tb.locked = false := locked.symm.trans unlocked
    rw [fc, inv stood, stood]
    rfl
  | cons c rest =>
    rcases exec_clock ((step_front hp).symm.trans hstep) with ⟨locked, fc⟩ | fc
    · exact fc.trans (inv (locked.symm.trans unlocked))
    · exact fc

/-- The first lock of the phase PLL, outside a power-on reset (R45). -/
theorem exec_phasePllFirstLock {s : State} (stood : s.tb.locked = false) (por : s.porLow = false) (aon : s.start.aonLow = false) :
    exec .phasePllFirstLock s = .next (((s.put CLK_STAT_XO_OK 1).clockStart).raise evCLK_PHASE_LOCKED) := by
  change execPhasePllFirstLock s = _
  simp [execPhasePllFirstLock, stood, por, aon]

/-- Settles O6: commands that are not special leave the clock, the first lock and a power-on reset put its count at 0, and an idle step
counts. -/
theorem freeCountMoves : Obligations.FreeCountMoves := by
  refine ⟨?frame, ?firstLock, ?powerOn, fun _ empty => step_idle empty, ?idle⟩
  case frame =>
    intro s t c hc h
    have same := exec_same c hc t h
    exact ⟨same.fc, same.locked⟩
  case firstLock =>
    intro s stood por aon
    exact ⟨_, exec_phasePllFirstLock stood por aon, clockStart_raise_tb ..⟩
  case powerOn =>
    intro s torn
    obtain ⟨locked, fc, -⟩ := State.powerReset_spec s 0 torn
    exact ⟨_, rfl, locked, fc, rfl⟩
  case idle =>
    intro s empty
    obtain ⟨pending, locked, fc⟩ := idle_clock s
    exact ⟨_, step_idle empty, pending.trans empty, locked, fc⟩

/-- Settles O5, by evaluation of the reset state, which is closed data: no grid has a bound unit, and `TB_STATUS` reads 0. -/
theorem resetState : Obligations.ResetState :=
  ⟨rfl, rfl, rfl, rfl, rfl, rfl, by decide +kernel, rfl, rfl, by decide⟩

/-! ## Adjustments of Meridian time (R51, R52, R58 to R61, R68) -/

/-! ### The checks of each operation -/

theorem foldDue_src (s : State) : s.foldDue.get TB_DISC_SRC = s.get TB_DISC_SRC := get_of_rd (foldDue_ofTb (by decide) s)

theorem adjFolded_src (s : State) (w : Wr) : (s.mergeRaw 0x30054 w).foldDue.get TB_DISC_SRC = s.get TB_DISC_SRC :=
  (foldDue_src _).trans (get_of_rd (mergeRaw_rd (by decide) (by decide) (by decide) (by decide)))

theorem foldDue_adjOps (s : State) : s.foldDue.adjOps = s.adjOps := by
  simp only [State.adjOps, State.isSet, State.get, foldDue_ofTb (q := TB_ADJ_CTL) (by decide) s, TB_ADJ_CTL_OP_RATE,
    TB_ADJ_CTL_OP_SLEW, TB_ADJ_CTL_OP_STEP, TB_ADJ_CTL_OP_ABORT, TB_ADJ_CTL_TRACE]

/-- While neither REF nor SPX disciplines time, the checks are the rules that the servo obeys too. -/
theorem adjCheck_manual {s : State} (h1 : s.get TB_DISC_SRC ≠ 1) (h2 : s.get TB_DISC_SRC ≠ 2) (o : AdjOps) (rate amt : Int) (ppb : Nat) :
    s.adjCheck o rate amt ppb = s.adjRules o rate amt ppb := by
  simp [State.adjCheck, h1, h2]

/-- A rate change is refused outside the range of R52 alone. -/
theorem adjRules_rate (s : State) (rate amt : Int) (ppb : Nat) :
    s.adjRules ⟨true, false, false, false, false⟩ rate amt ppb = if -rateLimit ≤ rate ∧ rate ≤ rateLimit then 0 else 5 := by
  by_cases inRange : -rateLimit ≤ rate ∧ rate ≤ rateLimit
  · have low : ¬ rate < -rateLimit := by omega
    have high : ¬ rateLimit < rate := by omega
    simp [State.adjRules, low, high, inRange]
  · have out : rateLimit < rate ∨ rate < -rateLimit := by omega
    simp [State.adjRules, out, inRange]

/-- So it is for a manual one, behind a merge into `TB_ADJ_CTL` and the folds that are due. -/
theorem adjCheck_rate_folded {s : State} (h1 : s.get TB_DISC_SRC ≠ 1) (h2 : s.get TB_DISC_SRC ≠ 2) (w : Wr) (rate amt : Int) (ppb : Nat) :
    (s.mergeRaw 0x30054 w).foldDue.adjCheck ⟨true, false, false, false, false⟩ rate amt ppb =
      if -rateLimit ≤ rate ∧ rate ≤ rateLimit then 0 else 5 := by
  have src := adjFolded_src s w
  rw [adjCheck_manual (src ▸ h1) (src ▸ h2), adjRules_rate]

theorem adjRules_abort (s : State) (rate amt : Int) (ppb : Nat) :
    s.adjRules ⟨false, false, false, true, false⟩ rate amt ppb = 0 := by
  simp [State.adjRules]

theorem adjRules_trace {s : State} (host : s.get TB_DISC_SRC = 3) (rate amt : Int) (ppb : Nat) :
    s.adjRules ⟨false, false, false, false, true⟩ rate amt ppb = 0 := by
  simp [State.adjRules, host]

/-- A slew begins where none is in progress, at 1 to 10,000 ppb and over at most 1 ms (R60). -/
theorem adjRules_slew {s : State} {amt : Int} {ppb : Nat} (idle : s.tb.slew = none) (h1 : 1 ≤ ppb) (h2 : ppb ≤ 10000)
    (ha : amt.natAbs ≤ mtMs) (rate : Int) : s.adjRules ⟨false, true, false, false, false⟩ rate amt ppb = 0 := by
  have low : ¬ amt < -(mtMs : Int) := by omega
  have high : ¬ (mtMs : Int) < amt := by omega
  have slow : ¬ 10000 < ppb := by omega
  have moving : ppb ≠ 0 := by omega
  simp [State.adjRules, idle, low, high, slow, moving]

/-- A step that no slew in progress and no bound unit shuts out, to a time that Meridian time can hold (R61). -/
theorem adjRules_step {s : State} {amt : Int} (idle : s.tb.slew = none) (free : s.anyBound = false) (h1 : 0 ≤ s.mt + amt)
    (h2 : s.mt + amt < ((2 ^ 48 * mtSec : Nat) : Int)) (rate : Int) (ppb : Nat) :
    s.adjRules ⟨false, false, true, false, false⟩ rate amt ppb = 0 := by
  have low : ¬ s.mt + amt < 0 := by omega
  have high : ¬ ((2 ^ 48 * mtSec : Nat) : Int) ≤ s.mt + amt := by omega
  simp only [State.adjRules, idle, free, low, high]
  rfl

/-- A slew that passes its checks meets none in progress. -/
theorem slew_idle_of_adjCheck {s : State} {rate amt : Int} {ppb : Nat}
    (h : s.adjCheck ⟨false, true, false, false, false⟩ rate amt ppb = 0) : s.tb.slew = none := by
  cases running : s.tb.slew with
  | none => rfl
  | some x =>
    by_cases src : s.get TB_DISC_SRC = 1 ∨ s.get TB_DISC_SRC = 2
    · simp [State.adjCheck, src] at h
    · obtain ⟨h1, h2⟩ := not_or.1 src
      rw [adjCheck_manual h1 h2] at h
      simp [State.adjRules, running] at h

/-! ### What each operation applies -/

theorem adjApply_rate (s : State) (rate amt : Int) (ppb : Nat) :
    s.adjApply ⟨true, false, false, false, false⟩ rate amt ppb =
      ({ s with tb := { s.tb.reanchor with rate := rate, atLimit := s.tb.atLimit && decide (rate = s.tb.rate) } } : State).followRate
        s.tb := by
  simp [State.adjApply]

theorem adjApply_slew (s : State) (rate : Int) {amt : Int} (h : amt ≠ 0) (ppb : Nat) :
    s.adjApply ⟨false, true, false, false, false⟩ rate amt ppb =
      (({ s with tb := { s.tb.reanchor with slew := some ⟨amt, ppb, amt, true⟩ } } : State).put TB_STATUS_SLEWING 1).followRate
        s.tb := by
  simp [State.adjApply, h]

theorem adjApply_slewZero (s : State) (rate : Int) (ppb : Nat) :
    s.adjApply ⟨false, true, false, false, false⟩ rate 0 ppb =
      (({ s with tb := s.tb.reanchor } : State).wr64 TB_ADJ_AMT_LO TB_ADJ_AMT_HI 0).raise evTB_SLEW_DONE 65535 [.w8 0] := by
  simp [State.adjApply]

theorem adjApply_step (s : State) (rate amt : Int) (ppb : Nat) :
    s.adjApply ⟨false, false, true, false, false⟩ rate amt ppb =
      ({ s with tb := { s.tb with offset := s.tb.offset + amt } } : State).raise evTB_STEP_DONE 65535 [.w8 amt] := by
  simp [State.adjApply]

theorem adjApply_abort (s : State) (rate amt : Int) (ppb : Nat) :
    s.adjApply ⟨false, false, false, true, false⟩ rate amt ppb = s.abortSlew := by
  simp [State.adjApply]

theorem adjApply_trace {s : State} (host : s.get TB_DISC_SRC = 3) (rate amt : Int) (ppb : Nat) :
    s.adjApply ⟨false, false, false, false, true⟩ rate amt ppb =
      ({ s with tb := { s.tb with lastTrace := s.mt } } : State).toTraced := by
  simp [State.adjApply, host]

/-! ### The time base behind each operation -/

/-- At its anchor Meridian time is the offset (R50). -/
theorem mtAt_anchor {t : TimeBase} (h : t.anchor = t.fc) : t.mtAt t.fc = t.offset := by
  simp [TimeBase.mtAt, h, elapsed_zero]

theorem adjApply_rate_tb (s : State) (rate amt : Int) (ppb : Nat) :
    (s.adjApply ⟨true, false, false, false, false⟩ rate amt ppb).tb =
      { s.tb.reanchor with rate := rate, atLimit := s.tb.atLimit && decide (rate = s.tb.rate) } := by
  rw [adjApply_rate, followRate_tb]

theorem adjApply_slew_tb (s : State) (rate : Int) {amt : Int} (h : amt ≠ 0) (ppb : Nat) :
    (s.adjApply ⟨false, true, false, false, false⟩ rate amt ppb).tb =
      { s.tb.reanchor with slew := some ⟨amt, ppb, amt, true⟩ } := by
  rw [adjApply_slew s rate h, followRate_tb, put_tb]

theorem adjApply_slewZero_tb (s : State) (rate : Int) (ppb : Nat) :
    (s.adjApply ⟨false, true, false, false, false⟩ rate 0 ppb).tb = s.tb.reanchor := by
  rw [adjApply_slewZero, raise_tb, wr64_tb]

theorem adjApply_step_tb (s : State) (rate amt : Int) (ppb : Nat) :
    (s.adjApply ⟨false, false, true, false, false⟩ rate amt ppb).tb = { s.tb with offset := s.tb.offset + amt } := by
  rw [adjApply_step, raise_tb]

/-- A rate change is continuous (R51). -/
theorem adjApply_rate_mt (s : State) (rate amt : Int) (ppb : Nat) :
    (s.adjApply ⟨true, false, false, false, false⟩ rate amt ppb).mt = s.mt := by
  rw [State.mt, adjApply_rate_tb]
  exact mtAt_anchor rfl

/-- The beginning of a slew is continuous (R51). -/
theorem adjApply_slew_mt (s : State) (rate : Int) {amt : Int} (h : amt ≠ 0) (ppb : Nat) :
    (s.adjApply ⟨false, true, false, false, false⟩ rate amt ppb).mt = s.mt := by
  rw [State.mt, adjApply_slew_tb s rate h]
  exact mtAt_anchor rfl

theorem adjApply_slewZero_mt (s : State) (rate : Int) (ppb : Nat) :
    (s.adjApply ⟨false, true, false, false, false⟩ rate 0 ppb).mt = s.mt := by
  rw [State.mt, adjApply_slewZero_tb]
  exact mtAt_anchor rfl

/-- A step moves Meridian time by its amount (R61). -/
theorem adjApply_step_mt (s : State) (rate amt : Int) (ppb : Nat) :
    (s.adjApply ⟨false, false, true, false, false⟩ rate amt ppb).mt = s.mt + amt := by
  rw [State.mt, adjApply_step_tb]
  exact Int.add_right_comm _ _ _

theorem adjApply_slew_slewing (s : State) (rate : Int) {amt : Int} (h : amt ≠ 0) (ppb : Nat) :
    (s.adjApply ⟨false, true, false, false, false⟩ rate amt ppb).get TB_STATUS_SLEWING = 1 := by
  rw [adjApply_slew s rate h, get_of_rd (followRate_rd _ _ (by decide))]
  exact get_same (by decide)

theorem foldDue_fc (s : State) : s.foldDue.tb.fc = s.tb.fc := (State.foldDue_same (Same.refl false s)).fc

/-! ### A GO of the register path and of TIME_ADJUST -/

section
variable {s v : State} {w : Wr} {o : AdjOps} {rate amt : Int} {ppb : Nat} (reached : s.Opens w 0x30054)
  (ready : s.isSet TB_ADJ_CTL_GO = false) (go : w.hits 0 = true) (hv : v = (s.mergeRaw 0x30054 w).foldDue)
  (hr : rate = sext 64 (s.rd64 TB_ADJ_RATE_LO TB_ADJ_RATE_HI)) (ha : amt = sext 64 (s.rd64 TB_ADJ_AMT_LO TB_ADJ_AMT_HI))
  (hp : ppb = s.rn TB_ADJ_SLEW) (ho : v.adjOps = o)
include reached ready go hv hr ha hp ho

/-- A GO: the checks of the staged values behind the folds that are due, the operations where every check passes, and the code. -/
theorem adjWrite_acts {c : Nat} (hc : c = v.adjCheck o rate amt ppb) :
    s.adjWrite w = ((if c = 0 then v.adjApply o rate amt ppb else v).put TB_ADJ_STAT_CODE c).put TB_ADJ_CTL_GO 0 := by
  have folded : ∀ {q : Reg}, q.OfTb → v.rd q = (s.mergeRaw 0x30054 w).rd q := by subst hv; exact fun t => foldDue_ofTb t _
  have sameRate := (rd64_of_rd (folded (by decide)) (folded (by decide))).trans (adjCtl_rate s w)
  have sameAmt := (rd64_of_rd (folded (by decide)) (folded (by decide))).trans (adjCtl_amt s w)
  have samePpb := (rn_of_rd (folded (by decide))).trans (adjCtl_ppb s w)
  rw [adjWrite_go reached ready go]
  simp only [State.adjGo, ← hv, ho, sameRate, sameAmt, samePpb, ← hr, ← ha, ← hp, ← hc]

/-- A GO that passes its checks. -/
theorem adjWrite_passes (hc : v.adjCheck o rate amt ppb = 0) :
    s.adjWrite w = ((v.adjApply o rate amt ppb).put TB_ADJ_STAT_CODE 0).put TB_ADJ_CTL_GO 0 := by
  rw [adjWrite_acts reached ready go hv hr ha hp ho hc.symm, if_pos rfl]

end

/-- TIME_ADJUST meets the same checks with the values that it carries. -/
theorem opTimeAdjust_acts {p : Packet} {u v : State} {ops ppb c : Nat} {rate amt : Int} (hs : Packet.sized p 24 = true)
    (h0 : Packet.arg p 1 3 = 0) (hops : ops = Packet.arg p 0 1) (hr : rate = sext 64 (Packet.arg p 4 8))
    (ha : amt = sext 64 (Packet.arg p 12 8)) (hp : ppb = Packet.arg p 20 4) (hlt : ops < 64) (heven : ops % 2 = 0)
    (hb : p.borough % 32 = 0) (ready : u.isSet TB_ADJ_CTL_GO = false) (hv : v = u.foldDue)
    (hc : c = v.adjCheck (adjOpsOf ops) rate amt ppb) :
    opTimeAdjust p u = (.now (adjStatus c) [],
      (if c = 0 then v.adjApply (adjOpsOf ops) rate amt ppb else v).put TB_ADJ_STAT_CODE c) := by
  rw [opTimeAdjust, ← hops, ← hr, ← ha, ← hp, ownerCmd_passes (by simp [hs, h0, hlt, heven]) hb]
  simp only [ready, Bool.false_eq_true, if_false, ← hv, ← hc]
  rfl

/-- Settles O10: with OP_RATE alone the range of R52 is the one check, on either path; the folds that are due come before it. -/
theorem rateRange : Obligations.RateRange := by
  refine ⟨?accepted, ?refused, ?opcode⟩
  case accepted =>
    intro s w reached ready go ho h1 h2 low high
    have applied := adjWrite_passes reached ready go rfl rfl rfl rfl ((foldDue_adjOps _).trans ho)
      ((adjCheck_rate_folded h1 h2 w _ _ _).trans (if_pos ⟨low, high⟩))
    refine ⟨_, congrArg Host.Outcome.next applied, ?_, adj_end_code _⟩
    rw [put_tb, put_tb, adjApply_rate_tb]
  case refused =>
    intro s w reached ready go ho h1 h2 out
    have beyond : ¬ (-rateLimit ≤ sext 64 (s.rd64 TB_ADJ_RATE_LO TB_ADJ_RATE_HI) ∧
        sext 64 (s.rd64 TB_ADJ_RATE_LO TB_ADJ_RATE_HI) ≤ rateLimit) := by unfold rateLimit; omega
    have refused := adjWrite_acts reached ready go rfl rfl rfl rfl ((foldDue_adjOps _).trans ho)
      ((adjCheck_rate_folded h1 h2 w _ _ _).trans (if_neg beyond)).symm
    exact congrArg Host.Outcome.next refused
  case opcode =>
    rintro s u p rate a hu hs h0 hops hr hb ready h1 h2 out
    have d : Delivers (.timeAdjust p) 0x0702 false opTimeAdjust p := fun _ => rfl
    have src := foldDue_src u
    have beyond : ¬ (-rateLimit ≤ rate ∧ rate ≤ rateLimit) := by unfold rateLimit; omega
    have check : ∀ amt ppb, u.foldDue.adjCheck (adjOpsOf 2) rate amt ppb = 5 := fun amt ppb => by
      rw [adjCheck_manual (src ▸ h1) (src ▸ h2)]
      exact (adjRules_rate ..).trans (if_neg beyond)
    exact d.answers a hu (opTimeAdjust_acts hs h0 hops.symm hr rfl rfl (by decide) (by decide) hb ready rfl (check _ _).symm)

/-- Settles O11: the step is what the GO applies behind the folds that are due. -/
theorem stepAdjust : Obligations.StepAdjust := by
  intro s u w amt reached ready go hu ha ho hc
  have applied := adjWrite_passes reached ready go hu rfl ha rfl ho hc
  rw [adjApply_step] at applied
  exact congrArg Host.Outcome.next applied

/-! ## The TIME opcodes (R549) -/

theorem wordCmd_passes {r : Reg} {p : Packet} {u : State} (hs : Packet.sized p 4 = true) (hw : Packet.wordsOk p 0 [r] = true)
    (hb : p.borough % 32 = 0) : wordCmd r p u = (.now 0 [], u.regStore r.key (pf (Packet.word p 0))) := by
  rw [wordCmd, ownerCmd_passes (by simp [hs, hw]) hb]
  rfl

theorem unitCmd_passes {max : Nat} {regs : Nat → List Reg} {p : Packet} {u : State} {f : Nat → State → CmdOut × State}
    (hs : Packet.sized p (4 + 4 * (regs (Packet.word p 0)).length) = true) (hn : Packet.word p 0 < max)
    (hw : Packet.wordsOk p 1 (regs (Packet.word p 0)) = true) (hb : p.borough % 32 = 0) :
    unitCmd max regs p u f = f (Packet.word p 0) u :=
  ownerCmd_passes (by simp [hs, hn, hw]) hb

theorem opTimeSource_passes {p : Packet} {u : State} (hs : Packet.sized p 12 = true)
    (hw : Packet.wordsOk p 0 [TB_DISC, TB_QUAL, TB_HOLD_LIMIT] = true) (hb : p.borough % 32 = 0) :
    opTimeSource p u = (.now 0 [], ((u.mergeRaw TB_QUAL.key (pf (Packet.word p 1))).mergeRaw TB_HOLD_LIMIT.key
      (pf (Packet.word p 2))).discWrite (pf (Packet.word p 0))) := by
  rw [opTimeSource, ownerCmd_passes (by simp [hs, hw]) hb]
  rfl

theorem opTimeEdge_passes {p : Packet} {u : State} (hs : Packet.sized p 12 = true) (hn : Packet.word p 0 < 16)
    (hw : Packet.wordsOk p 1 [TIM_EDGE_CFG (Packet.word p 0), TIM_EDGE_DELAY (Packet.word p 0)] = true) (hb : p.borough % 32 = 0) :
    opTimeEdge p u = (.now 0 [], u.unitWords p [TIM_EDGE_CFG (Packet.word p 0), TIM_EDGE_DELAY (Packet.word p 0)]) := by
  rw [opTimeEdge]
  exact unitCmd_passes (regs := fun n => [TIM_EDGE_CFG n, TIM_EDGE_DELAY n]) hs hn hw hb

/-- TIME_FREQ with a source that the part has. -/
theorem opTimeFreq_passes {p : Packet} {u : State} (hs : Packet.sized p 8 = true) (hn : Packet.word p 0 < 8)
    (hw : Packet.wordsOk p 1 [TIM_FREQ_CFG (Packet.word p 0)] = true) (hb : p.borough % 32 = 0)
    (present : u.freqSrcReserved (bits (Packet.word p 1) 6 0) = false) :
    opTimeFreq p u = (.now 0 [], u.unitWords p [TIM_FREQ_CFG (Packet.word p 0)]) := by
  simp only [opTimeFreq, hs, present, Bool.not_false, Bool.not_true, Bool.and_false, Bool.false_eq_true, if_false]
  exact unitCmd_passes (regs := fun n => [TIM_FREQ_CFG n]) hs hn hw hb

/-- Settles O44: each opcode passes its checks and acts; TIME_ADJUST meets the checks of a GO. -/
theorem timeOpcodesComplete : Obligations.TimeOpcodesComplete := by
  refine ⟨?read, ?adjust, ?adjustRefused, ?source, ?age, ?pps, ?utc, ?status, ?edge, ?freq, ?freqRead, ?ptm⟩
  case read =>
    intro s u p a hu hs
    have d : Delivers (.timeRead p) 0x0701 false opTimeRead p := fun _ => rfl
    exact d.answers a hu (by rw [opTimeRead, anyCmd_passes hs]; rfl)
  case adjust =>
    intro s u p ops ppb rate amt a hu hs h0 hops hr ha hp hlt heven hb ready hc
    have d : Delivers (.timeAdjust p) 0x0702 false opTimeAdjust p := fun _ => rfl
    have acts := opTimeAdjust_acts hs h0 hops hr ha hp hlt heven hb ready rfl hc.symm
    rw [if_pos rfl] at acts
    exact d.answers a hu acts
  case adjustRefused =>
    intro s u p ops ppb c rate amt a hu hs h0 hops hr ha hp hlt heven hb ready hc refused
    have d : Delivers (.timeAdjust p) 0x0702 false opTimeAdjust p := fun _ => rfl
    have acts := opTimeAdjust_acts hs h0 hops hr ha hp hlt heven hb ready rfl hc
    rw [if_neg refused] at acts
    exact d.answers a hu acts
  case source =>
    intro s u p a hu hs hw hb
    have d : Delivers (.timeSource p) 0x0703 false opTimeSource p := fun _ => rfl
    exact d.answers a hu (opTimeSource_passes hs hw hb)
  case age =>
    intro s u p a hu hs hw hb
    have d : Delivers (.timeAge p) 0x0704 false opTimeAge p := fun _ => rfl
    exact d.answers a hu (wordCmd_passes hs hw hb)
  case pps =>
    intro s u p a hu hs hw hb
    have d : Delivers (.timePpsDelay p) 0x0705 false opTimePpsDelay p := fun _ => rfl
    exact d.answers a hu (wordCmd_passes hs hw hb)
  case utc =>
    intro s u p a hu hs hw hb
    have d : Delivers (.timeTaiUtc p) 0x0706 false opTimeTaiUtc p := fun _ => rfl
    exact d.answers a hu (wordCmd_passes hs hw hb)
  case status =>
    intro s u p a hu hs
    have d : Delivers (.timeStatus p) 0x0707 false opTimeStatus p := fun _ => rfl
    exact d.answers a hu (by rw [opTimeStatus, anyCmd_passes hs]; rfl)
  case edge =>
    rintro s u p n a hu hs rfl hn hw hb
    have d : Delivers (.timeEdge p) 0x0708 false opTimeEdge p := fun _ => rfl
    exact d.answers a hu (opTimeEdge_passes hs hn hw hb)
  case freq =>
    rintro s u p n a hu hs rfl hn hw hb present
    have d : Delivers (.timeFreq p) 0x0709 false opTimeFreq p := fun _ => rfl
    exact d.answers a hu (opTimeFreq_passes hs hn hw hb present)
  case freqRead =>
    rintro s u p k a hu hs rfl hn hb
    have d : Delivers (.timeFreqRead p) 0x070A false opTimeFreqRead p := fun _ => rfl
    exact d.answers a hu (unitCmd_passes (regs := fun _ => []) hs hn rfl hb)
  case ptm =>
    intro s u p a hu hs hw hb
    have d : Delivers (.timePtm p) 0x070B false opTimePtm p := fun _ => rfl
    exact d.answers a hu (wordCmd_passes hs hw hb)

/-! ## The commands of the clock and of the adjustments (rows 9 to 19) -/

theorem phaseUnlock_shows {s : State} (locked : s.tb.locked = true) (fine : s.isSet TB_STATUS_COARSE = false) :
    exec .phaseUnlock s = .next (((s.put TB_STATUS_COARSE 1).put TB_STATUS_COARSE_SEEN 1).raise evTB_PHASE_UNLOCK) := by
  change execPhaseUnlock s = _
  simp [execPhaseUnlock, locked, fine]

theorem ageingFold_due {s : State} (locked : s.tb.locked = true) (due : s.tb.nextFold ≤ s.tb.fc) :
    exec .ageingFold s = .next s.ageFold := by
  change execAgeingFold s = _
  simp [execAgeingFold, locked, due]

/-- A fold towards the limit at which `RATE` stands (R54). -/
theorem ageFold_held {s : State} (held : s.tb.foldHeld (ageDelta (sext 32 (s.rn TB_AGE))) = true) :
    s.ageFold = { s with tb := { s.tb with folds := s.tb.folds + 1 } } := by
  simp [State.ageFold, held]

/-- The limits of `RATE`, applied one after the other, are a clamp. -/
theorem clampRate_eq (r : Int) : (if rateLimit < r then rateLimit else if r < -rateLimit then -rateLimit else r) =
    max (-rateLimit) (min rateLimit r) := by
  unfold rateLimit
  split
  · omega
  · split <;> omega

/-- What is anchored at the tick of a fold reads, at that tick, as before (R51, R53). -/
theorem mtAt_reanchored {t u : TimeBase} {c : Nat} (ho : u.offset = (t.reanchorAt c).offset) (ha : u.anchor = (t.reanchorAt c).anchor) :
    u.mtAt c = t.mtAt c := by
  have anchor : u.anchor = c := ha
  have offset : u.offset = t.mtAt c := ho
  rw [TimeBase.mtAt, anchor, offset, Nat.sub_self, elapsed_zero, Int.add_zero]

/-- A fold that is not held: the fraction of the sum, the clamped rate, and the anchor at the fold's own tick (R53). -/
theorem ageFold_tb {s : State} (free : s.tb.foldHeld (ageDelta (sext 32 (s.rn TB_AGE))) = false) :
    ∃ b, s.ageFold.tb = { s.tb.reanchorAt s.tb.nextFold with
      rate := max (-rateLimit) (min rateLimit (s.tb.rate + (s.tb.ageFrac + ageDelta (sext 32 (s.rn TB_AGE))) / 2 ^ 32)),
      ageFrac := ((s.tb.ageFrac + ageDelta (sext 32 (s.rn TB_AGE))) % 2 ^ 32).toNat, folds := s.tb.folds + 1, atLimit := b } := by
  simp only [State.ageFold, free, Bool.false_eq_true, if_false, apply_ite State.tb, raise_tb, ite_self, followRate_tb, clampRate_eq]
  exact ⟨_, rfl⟩

/-- A read of `TB_NOW_FRAC` latches time for its function and answers the fraction (R55). -/
theorem tbNowFracRead_latches {s : State} {fn : Nat} (up : s.shut 0x30010 = false) (unheld : (s.func fn).held = none) :
    exec (.tbNowFracRead fn) s = .next ((((((s.wn (TB_NOW_FRAC fn) (mtParts s.mt).2.2).wn (TB_NOW_NS fn) (mtParts s.mt).2.1).wn
      (TB_NOW_SEC_LO fn) (mtParts s.mt).1).wn (TB_NOW_SEC_HI fn) ((mtParts s.mt).1 / 2 ^ 32 + 65536 * s.tstate)).wr64 (TB_NOW_FC_LO fn)
      (TB_NOW_FC_HI fn) (s.tb.fc % 2 ^ 64)).emit (.readDone fn 0x30010 (leBytes 4 (mtParts s.mt).2.2))) := by
  change execTbNowFracRead fn s = _
  simp only [execTbNowFracRead, up, Bool.false_eq_true, if_false]
  rw [State.flush_none (by exact unheld)]

/-- The end of a slew whose change has reached its amount (R60). -/
theorem slewDone_ends {s v : State} {x : Slew} (hv : v = s.foldDue) (running : v.tb.slew = some x) (reached : v.tb.slewReached x = true) :
    ∃ t, exec .slewDone s = .next t ∧ t.tb = { v.tb with
      offset := v.tb.offset + elapsed (v.tb.fc - v.tb.anchor) v.tb.rate 0 + x.left, anchor := v.tb.fc, slew := none } := by
  subst hv
  change ∃ t, execSlewDone s = .next t ∧ _
  simp only [execSlewDone, running, reached, if_true]
  refine ⟨_, rfl, ?_⟩
  rw [raise_tb, apply_ite State.tb, wr64_tb, ite_self, followRate_tb, put_tb]

theorem adj_end_mt (x : State) : ((x.put TB_ADJ_STAT_CODE 0).put TB_ADJ_CTL_GO 0).mt = x.mt := rfl

/-- `TB_STATUS` is not touched as a GO ends. -/
theorem adj_end_status (x : State) {f : Fld} (h : f.reg.key = TB_STATUS.key) :
    ((x.put TB_ADJ_STAT_CODE 0).put TB_ADJ_CTL_GO 0).get f = x.get f :=
  adj_end_get x f (by rw [h]; decide) (by rw [h]; decide)

/-- Settles O16: the laws of the clock, and for each operation of a GO what it makes of the time base. -/
theorem timeBaseCommandsComplete : Obligations.TimeBaseCommandsComplete := by
  refine ⟨fun _ stood por aon => exec_phasePllFirstLock stood por aon, fun _ locked fine => phaseUnlock_shows locked fine,
    fun _ => rfl, ?foldHeld, ?fold, fun _ _ up unheld => tbNowFracRead_latches up unheld, ?rate, ?slew, ?slewZero, ?step, ?abort, ?trace,
    ?slewDone⟩
  case foldHeld =>
    intro s locked due held
    rw [ageingFold_due locked due, ageFold_held held]
  case fold =>
    intro s locked due free
    obtain ⟨b, tb⟩ := ageFold_tb free
    have sum : 0 ≤ (s.tb.ageFrac + ageDelta (sext 32 (s.rn TB_AGE))) % 2 ^ 32 := Int.emod_nonneg _ (by decide)
    refine ⟨_, ageingFold_due locked due, by rw [tb], by rw [tb]; rfl, ?_, by rw [tb]; exact Int.toNat_of_nonneg sum, by rw [tb]⟩
    rw [tb]
    exact mtAt_reanchored rfl rfl
  case rate =>
    intro s v w reached ready go hv ho hc
    have applied := adjWrite_passes reached ready go hv rfl rfl rfl ho hc
    refine ⟨_, congrArg Host.Outcome.next applied, ?_, ?_, adj_end_code _, adj_end_go _⟩
    · rw [put_tb, put_tb, adjApply_rate_tb]
    · rw [adj_end_mt, adjApply_rate_mt]
  case slew =>
    intro s v w reached ready go hv ho hc nonzero
    have applied := adjWrite_passes reached ready go hv rfl rfl rfl ho hc
    refine ⟨_, congrArg Host.Outcome.next applied, ?_, ?_, ?_, adj_end_code _, adj_end_go _⟩
    · rw [put_tb, put_tb, adjApply_slew_tb _ _ nonzero]
    · rw [adj_end_mt, adjApply_slew_mt _ _ nonzero]
    · rw [adj_end_status _ rfl, adjApply_slew_slewing _ _ nonzero]
  case slewZero =>
    intro s v w reached ready go hv ho hc zero
    have applied := adjWrite_passes reached ready go hv rfl zero.symm rfl ho hc
    refine ⟨_, congrArg Host.Outcome.next applied, ?_, ?_, adj_end_code _⟩
    · rw [put_tb, put_tb, adjApply_slewZero_tb, TimeBase.reanchor, slew_idle_of_adjCheck hc]
      rfl
    · rw [adj_end_mt, adjApply_slewZero_mt]
  case step =>
    intro s v w reached ready go hv ho hc
    have applied := adjWrite_passes reached ready go hv rfl rfl rfl ho hc
    have fc : v.tb.fc = s.tb.fc := by rw [hv, foldDue_fc, mergeRaw_tb]
    refine ⟨_, congrArg Host.Outcome.next applied, ?_, ?_, ?_, adj_end_code _, adj_end_go _⟩
    · rw [adj_end_mt, adjApply_step_mt]
    · rw [put_tb, put_tb, adjApply_step_tb]
    · rw [put_tb, put_tb, adjApply_step_tb, fc]
  case abort =>
    intro s v w x reached ready go hv ho h1 h2 running
    have src : v.get TB_DISC_SRC = s.get TB_DISC_SRC := by rw [hv, adjFolded_src]
    have applied := adjWrite_passes reached ready go hv rfl rfl rfl ho
      ((adjCheck_manual (src ▸ h1) (src ▸ h2) ..).trans (adjRules_abort ..))
    rw [adjApply_abort] at applied
    refine ⟨_, congrArg Host.Outcome.next applied, ?_, ?_, ?_, adj_end_code _⟩
    · rw [put_tb, put_tb, abortSlew_slew]
    · rw [adj_end_mt, abortSlew_mt]
    · rw [adj_end_status _ rfl, abortSlew_slewing (by simp [running])]
  case trace =>
    intro s v w reached ready go hv ho host
    have src : v.get TB_DISC_SRC = 3 := by rw [hv, adjFolded_src, host]
    have applied := adjWrite_passes reached ready go hv rfl rfl rfl ho
      ((adjCheck_manual (by simp [src]) (by simp [src]) ..).trans (adjRules_trace src ..))
    rw [adjApply_trace src] at applied
    refine ⟨_, congrArg Host.Outcome.next applied, ?_, ?_, ?_, adj_end_code _⟩
    · exact (adj_end_status _ rfl).trans (toTraced_tstate _)
    · rw [put_tb, put_tb, toTraced_tb]
      rfl
    · rw [adj_end_status _ rfl, toTraced_act]
      exact src
  case slewDone =>
    intro s v x hv running reached
    obtain ⟨t, ends, tb⟩ := slewDone_ends hv running reached
    refine ⟨t, ends, by rw [tb], ?_, by rw [tb]⟩
    rw [State.mt, tb]
    exact mtAt_anchor rfl

/-! ## The discipline of the time base (rows 20 to 30) -/

/-! ### Declared and actual changes of source (R69, R70) -/

/-- A write of `TB_DISC` that leaves SRC at HOST and declares a change. -/
theorem discWrite_declares {s : State} {w : Wr} (reached : s.Opens w 0x30004) (declares : w.hits 15 = true)
    (host : s.get TB_DISC_SRC = 3) (kept : (s.mergeRaw 0x30004 w).get TB_DISC_SRC = 3) :
    s.discWrite w = ((s.mergeRaw 0x30004 w).raise evTB_SRC_CHANGED).toHoldover := by
  obtain ⟨fn, held, up, -⟩ := reached
  simp [State.discWrite, fn, up, State.flush_none held, host, kept, declares, State.declareChange]

/-- A write of `TB_DISC` that changes SRC and declares nothing. -/
theorem discWrite_changes {s : State} {w : Wr} (reached : s.Opens w 0x30004) (plain : w.hits 15 = false)
    (changed : (s.mergeRaw 0x30004 w).get TB_DISC_SRC ≠ s.get TB_DISC_SRC) :
    s.discWrite w = (s.mergeRaw 0x30004 w).changeSource (s.get TB_DISC_SRC) := by
  obtain ⟨fn, held, up, -⟩ := reached
  simp [State.discWrite, fn, up, State.flush_none held, changed, plain]

theorem mergeRaw_disc_tstate (s : State) (w : Wr) : (s.mergeRaw 0x30004 w).tstate = s.tstate :=
  tstate_of_get (get_of_rd (mergeRaw_rd (by decide) (by decide) (by decide) (by decide)))

/-! ### Edges of PPS_IN (R63, R64) -/

theorem ppsInEdge_asleep {s : State} (asleep : s.awake 93 = false) (i : Nat) : exec (.ppsInEdge i) s = .next s := by
  change execPpsInEdge i s = _
  simp [execPpsInEdge, asleep]

/-- An edge is tagged and counted; under REF it reaches the discipline. -/
theorem ppsInEdge_tagged {s u : State} {i : Nat} {m : Int} (up : s.awake 93 = true) (hm : m = s.captureMt (s.coreOf 8) 2 i)
    (hu : u = s.freqEdge 0x10 m (s.isSet TB_STATUS_COARSE)) :
    exec (.ppsInEdge i) s = .next (if u.get TB_DISC_SRC = 1 then u.ppsEdge m else u) := by
  change execPpsInEdge i s = _
  simp [execPpsInEdge, up, hu, hm]

section
variable {u : State} {m : Int}

theorem ppsEdge_expected (expected : u.ppsExpected m = true) :
    u.ppsEdge m = ((({ u with tb := { u.tb with ppsLast := some m, ppsOff := 0 } } : State).put TB_STATUS_PPS_OK 1).measurePhase
      (secondError (m + sext 32 (u.rn TB_PPS_DELAY)))) := by
  rw [State.ppsEdge, if_pos expected]

/-- The first edge of a run outside the windows. -/
theorem ppsEdge_stray (off : u.ppsExpected m = false) (first : u.tb.ppsOff = 0) :
    u.ppsEdge m = ({ u with tb := { u.tb with ppsOff := 1, ppsOffLast := m } } : State).raise evTB_PPS_STRAY := by
  simp [State.ppsEdge, off, first]

/-- The third edge of a run, a second after the one before it, makes a new phase. -/
theorem ppsEdge_newPhase (off : u.ppsExpected m = false) (second : u.tb.ppsOff = 2) (apart : secondsApart 1 u.tb.ppsOffLast m = true) :
    u.ppsEdge m = (({ u with tb := { u.tb with ppsLast := some m, ppsOff := 0, qualRun := 0 } } : State).raise
      evTB_SRC_CHANGED).toHoldover := by
  simp [State.ppsEdge, off, second, apart]

end

/-! ### Qualification, losses and limits (R62, R65, R72, R74, R75) -/

theorem sourceQualified_traces {s : State} (chosen : s.get TB_DISC_SRC ≠ 0) (served : s.srcServed = true)
    (count : s.get TB_QUAL_COUNT ≤ s.tb.qualRun) (untraced : s.tstate ≠ 1) : exec .sourceQualified s = .next s.toTraced := by
  change execSourceQualified s = _
  simp [execSourceQualified, chosen, served, count, untraced]

theorem ppsLost_due {s : State} {p : Int} (ref : s.get TB_DISC_SRC = 1) (ok : s.isSet TB_STATUS_PPS_OK = true)
    (last : s.tb.ppsLast = some p) (due : p + ((2 * mtSec + 100 * mtUs : Nat) : Int) ≤ s.mt) :
    exec .ppsLost s = .next ((s.put TB_STATUS_PPS_OK 0).toHoldover) := by
  change execPpsLost s = _
  simp only [execPpsLost, last, ref, ok, due]
  rfl

theorem ref10mLost_reports {s : State} (ok : s.isSet TB_STATUS_REF10M_OK = true) :
    exec .ref10mLost s = .next ((({ s with tb := { s.tb with ref10mRun := 0 } } : State).put TB_STATUS_REF10M_OK 0).raise
      evTB_REF10M_LOST) := by
  change execRef10mLost s = _
  rw [execRef10mLost, if_pos ok]

theorem hostTraceTimeout_due {s : State} (host : s.get TB_DISC_SRC = 3) (traced : s.tstate = 1)
    (due : s.tb.lastTrace + ((s.get TB_DISC_HOST_TIMEOUT * mtMs : Nat) : Int) ≤ s.mt) :
    exec .hostTraceTimeout s = .next s.toHoldover := by
  change execHostTraceTimeout s = _
  simp only [execHostTraceTimeout, host, traced, due]
  rfl

theorem holdoverLimit_due {s : State} (hold : s.tstate = 2) (limit : s.rn TB_HOLD_LIMIT ≠ 0) (first : s.tb.holdActed = false)
    (due : s.rn TB_HOLD_LIMIT * 1000000 ≤ s.holdUs) :
    exec .holdoverLimit s = .next ((({ s with tb := { s.tb with holdActed := true } } : State).put TB_STATUS_HOLD_LIMIT 1).raise
      evTB_HOLDOVER_LIMIT) := by
  change execHoldoverLimit s = _
  simp [execHoldoverLimit, hold, limit, first, due]

/-! ### The servo (R57, R63 to R66, R656) -/

/-- The state behind a correction that the servo may make: the operation, and the phase error that it leaves. -/
def State.servoApplied (s : State) (op : ServoOp) : State :=
  let a := servoAdj op
  let s1 := s.adjApply a.1 a.2.1 a.2.2.1 a.2.2.2
  { s1 with tb := { s1.tb with phaseErr := s1.tb.phaseErr.map (fun e => e + a.2.2.1) } }

/-- Under REF or SPX and while an image runs, a correction within the rules of an adjustment and the limits of the servo acts behind
the folds that are due. -/
theorem servoCorrection_acts {s v : State} {op : ServoOp} (hv : v = s.foldDue) (src : v.get TB_DISC_SRC = 1 ∨ v.get TB_DISC_SRC = 2)
    (image : v.get SYS_BOOT_FW = 2) (rules : v.adjRules (servoAdj op).1 (servoAdj op).2.1 (servoAdj op).2.2.1 (servoAdj op).2.2.2 = 0)
    (may : v.servoMay op = true) : exec (.servoCorrection op) s = .next (v.servoApplied op) := by
  change execServoCorrection op s = _
  simp only [execServoCorrection, ← hv]
  rw [if_pos (by simp [src, image, rules, may])]
  rfl

theorem servoApplied_tb (s : State) (op : ServoOp) : (s.servoApplied op).tb =
    let tb := (s.adjApply (servoAdj op).1 (servoAdj op).2.1 (servoAdj op).2.2.1 (servoAdj op).2.2.2).tb
    { tb with phaseErr := tb.phaseErr.map (fun e => e + (servoAdj op).2.2.1) } := rfl

theorem servoApplied_slew_tb (s : State) {a : Int} (h : a ≠ 0) (p : Nat) : (s.servoApplied (.slew a p)).tb =
    { s.tb.reanchor with slew := some ⟨a, p, a, true⟩, phaseErr := s.tb.phaseErr.map (fun e => e + a) } := by
  rw [servoApplied_tb, servoAdj, adjApply_slew_tb s 0 h]
  rfl

theorem servoApplied_rate_tb (s : State) (r : Int) (b : Bool) : (s.servoApplied (.rate r b)).tb =
    { s.tb.reanchor with rate := r, atLimit := s.tb.atLimit && decide (r = s.tb.rate), phaseErr := s.tb.phaseErr.map (fun e => e + 0) } := by
  rw [servoApplied_tb, servoAdj, adjApply_rate_tb]
  rfl

theorem servoApplied_step_tb (s : State) (a : Int) : (s.servoApplied (.step a)).tb =
    { s.tb with offset := s.tb.offset + a, phaseErr := s.tb.phaseErr.map (fun e => e + a) } := by
  rw [servoApplied_tb, servoAdj, adjApply_step_tb]

theorem servoApplied_mt (s : State) (op : ServoOp) : (s.servoApplied op).mt =
    (s.adjApply (servoAdj op).1 (servoAdj op).2.1 (servoAdj op).2.2.1 (servoAdj op).2.2.2).mt := rfl

theorem servoApplied_get (s : State) (op : ServoOp) (f : Fld) : (s.servoApplied op).get f =
    (s.adjApply (servoAdj op).1 (servoAdj op).2.1 (servoAdj op).2.2.1 (servoAdj op).2.2.2).get f := rfl

/-- An amount that corrects a phase error is not 0. -/
theorem corrects_ne_zero {err a : Int} (h : corrects err a = true) : a ≠ 0 := by
  rintro rfl
  simp [corrects] at h

/-- Phase by a slew (R63, R66). -/
theorem servoSlew_acts {s v : State} {a : Int} {p : Nat} (hv : v = s.foldDue) (src : v.get TB_DISC_SRC = 1 ∨ v.get TB_DISC_SRC = 2)
    (image : v.get SYS_BOOT_FW = 2) (idle : v.tb.slew = none) (h1 : 1 ≤ p) (h2 : p ≤ 10000) (most : p ≤ v.get TB_QUAL_SLEW_MAX * 100)
    (ha : a.natAbs ≤ mtMs) (fits : corrects (v.tb.phaseErr.getD 0) a = true) :
    exec (.servoCorrection (.slew a p)) s = .next (v.servoApplied (.slew a p)) :=
  servoCorrection_acts hv src image (adjRules_slew idle h1 h2 ha 0) (by simp [State.servoMay, most, fits])

/-- Frequency by a rate change, under REF from REF10M where that is used (R65). -/
theorem servoRate_acts {s v : State} {r : Int} {b : Bool} (hv : v = s.foldDue)
    (src : v.get TB_DISC_SRC = 1 ∧ b = v.ref10mUsed ∨ v.get TB_DISC_SRC = 2) (image : v.get SYS_BOOT_FW = 2) (low : -rateLimit ≤ r)
    (high : r ≤ rateLimit) : exec (.servoCorrection (.rate r b)) s = .next (v.servoApplied (.rate r b)) := by
  have inRange : v.adjRules ⟨true, false, false, false, false⟩ r 0 0 = 0 := (adjRules_rate ..).trans (if_pos ⟨low, high⟩)
  have may : v.servoMay (.rate r b) = true := by
    rcases src with ⟨ref, used⟩ | spx
    · simp [State.servoMay, used]
    · simp [State.servoMay, spx]
  exact servoCorrection_acts hv (src.imp_left And.left) image inRange may

/-- Phase by a step, where the error exceeds 1 µs and no unit is bound (R63). -/
theorem servoStep_acts {s v : State} {a : Int} (hv : v = s.foldDue) (src : v.get TB_DISC_SRC = 1 ∨ v.get TB_DISC_SRC = 2)
    (image : v.get SYS_BOOT_FW = 2) (free : v.anyBound = false) (large : mtUs < (v.tb.phaseErr.getD 0).natAbs)
    (fits : corrects (v.tb.phaseErr.getD 0) a = true) (idle : v.tb.slew = none) (low : 0 ≤ v.mt + a)
    (high : v.mt + a < ((2 ^ 48 * mtSec : Nat) : Int)) :
    exec (.servoCorrection (.step a)) s = .next (v.servoApplied (.step a)) :=
  servoCorrection_acts hv src image (adjRules_step idle free low high 0 0) (by simp [State.servoMay, free, large, fits])

/-! ### Transmit time stamps (R81, R384) -/

section
variable {s : State} {m : Nat} (up : s.shut 0x30100 = false) (unheld : (s.func 0).held = none)
include up unheld

theorem tbTxtsPop_takes {x : TxStamp} {r : List TxStamp} (queued : mapGet [] m s.txts = x :: r) :
    exec (.tbTxtsPop 0 m) s = .next (s.popStamp 0 m) := by
  change execTbTxtsPop 0 m s = _
  simp [execTbTxtsPop, State.flush_none unheld, up, queued]

theorem tbTxtsPop_stalls (empty : mapGet [] m s.txts = []) :
    exec (.tbTxtsPop 0 m) s = .next { s with popWait := s.popWait ++ [⟨m, 0, s.tb.fc⟩] } := by
  change execTbTxtsPop 0 m s = _
  simp [execTbTxtsPop, State.flush_none unheld, up, empty, State.popStall]

end

/-- Settles O17: each command of the discipline meets the law of its row above. -/
theorem disciplineCommandsComplete : Obligations.DisciplineCommandsComplete := by
  refine ⟨?declare, ?change, ?ppsExpected, ?ppsStray, ?ppsNewPhase, ?ppsOther, fun _ i asleep => ppsInEdge_asleep asleep i, ?qualified,
    fun _ _ ref ok last due => ppsLost_due ref ok last due, fun _ ok => ref10mLost_reports ok, fun _ => rfl, ?servoSlew, ?servoRate,
    ?servoStep, ?hostTimeout, fun _ hold limit first due => holdoverLimit_due hold limit first due,
    fun _ _ _ _ up unheld queued => tbTxtsPop_takes up unheld queued, fun _ _ up unheld empty => tbTxtsPop_stalls up unheld empty⟩
  case declare =>
    intro s w reached declares host kept
    exact congrArg Host.Outcome.next (discWrite_declares reached declares host kept)
  case change =>
    intro s w reached plain changed
    have state := (changeSource_tstate (s.mergeRaw 0x30004 w) (s.get TB_DISC_SRC)).trans (by rw [mergeRaw_disc_tstate])
    refine ⟨_, congrArg Host.Outcome.next (discWrite_changes reached plain changed), rfl, changeSource_act _ _, changeSource_pps _ _,
      fun traced => ?_, fun untraced => ?_⟩
    · rw [state, if_pos traced]
    · rw [state, if_neg untraced]
  case ppsExpected =>
    intro s u i m up hm hu ref expected
    rw [ppsInEdge_tagged up hm hu, if_pos ref, ppsEdge_expected expected]
  case ppsStray =>
    intro s u i m up hm hu ref off first
    rw [ppsInEdge_tagged up hm hu, if_pos ref, ppsEdge_stray off first]
  case ppsNewPhase =>
    intro s u i m up hm hu ref off second apart
    rw [ppsInEdge_tagged up hm hu, if_pos ref, ppsEdge_newPhase off second apart]
  case ppsOther =>
    intro s i up other
    rw [ppsInEdge_tagged up rfl rfl, if_neg other]
  case qualified =>
    intro s chosen served count untraced
    exact ⟨_, sourceQualified_traces chosen served count untraced, rfl, toTraced_tstate s, toTraced_act s, by rw [toTraced_tb]⟩
  case servoSlew =>
    intro s v a p hv src image idle h1 h2 most ha fits
    have nonzero := corrects_ne_zero fits
    have tb := servoApplied_slew_tb v nonzero p
    refine ⟨_, servoSlew_acts hv src image idle h1 h2 most ha fits, by rw [tb], ?_, ?_, by rw [tb]⟩
    · rw [servoApplied_mt, servoAdj, adjApply_slew_mt v 0 nonzero]
    · rw [servoApplied_get, servoAdj, adjApply_slew_slewing v 0 nonzero]
  case servoRate =>
    intro s v r b hv src image low high
    refine ⟨_, servoRate_acts hv src image low high, by rw [servoApplied_rate_tb], ?_⟩
    rw [servoApplied_mt, servoAdj, adjApply_rate_mt]
  case servoStep =>
    intro s v a hv src image free large fits idle low high
    have tb := servoApplied_step_tb v a
    refine ⟨_, servoStep_acts hv src image free large fits idle low high, ?_, by rw [tb], by rw [tb]⟩
    rw [servoApplied_mt, servoAdj, adjApply_step_mt]
  case hostTimeout =>
    intro s host traced due
    refine ⟨_, hostTraceTimeout_due host traced due, rfl, ?_, ?_⟩
    · rw [toHoldover_tstate, if_pos traced]
    · rw [toHoldover_tb, if_pos traced]

end Sys2Proof.Machine

namespace Sys2Proof.Machine

/-! SUPPORT and the statements of time-interval measurement and of calibration: the commands of rows 31 to 40 and the CAL opcodes. -/

/-! ## Time-interval measurement (rows 31 to 40) -/

/-! ### Edges of the inputs and their tags (R124 to R128, R384) -/

section
variable {s : State} {n i : Nat} (on : bit (s.edgeCfg n) 0 = true) (used : bits (s.edgeCfg n) 3 2 ≠ 0) (up : s.awake 93 = true)
include on used up

/-- An edge of the selected polarity outside the dead time and the hold-off of the edge accepted before it. -/
theorem edgeCapture_accepts {rising : Bool} {p pos : Nat} {m : Int} (hp : p = s.coreOf n)
    (hpos : pos = s.tb.fc * 131072 + 5 * s.binCentre p i) (hm : m = s.captureMt p 0 i - sext 32 (s.rn (TIM_EDGE_DELAY n)))
    (apart : ∀ q, (mapGet {} n s.edges).last = some q → 8 * 131072 ≤ pos - q ∧ (mapGet {} n s.edges).hold * 131072 ≤ pos - q)
    (polarity : bit (bits (s.edgeCfg n) 5 4) (if rising then 0 else 1) = true) :
    exec (.edgeCapture n i rising) s = .next (((({ s with
      edges := mapPut {} n { mapGet {} n s.edges with last := some pos, hold := bits (s.edgeCfg n) 31 16 } s.edges } : State).edgeTag n
        ⟨b2n rising * 2 ^ 30 + b2n (s.isSet TB_STATUS_COARSE) * 2 ^ 29 + s.get (TIM_CORE_STAT_FAILING p) * 2 ^ 28
          + s.get (TIM_CORE_STAT_CAL_STALE p) * 2 ^ 27 + s.get (TIM_CORE_STAT_CALGEN p) * 2 ^ 26 + s.tstate * 2 ^ 24, m⟩).freqEdge n m
      (s.isSet TB_STATUS_COARSE)).offerTrig n m (s.isSet TB_STATUS_COARSE)) := by
  subst hp hpos hm
  change execEdgeCapture n i rising s = _
  cases hl : (mapGet {} n s.edges).last with
  | none => simp only [execEdgeCapture, on, used, up, polarity, hl]; rfl
  | some q =>
    obtain ⟨dead, hold⟩ := apart q hl
    simp only [execEdgeCapture, on, used, up, polarity, hl, decide_eq_false (Nat.not_lt.2 dead), decide_eq_false (Nat.not_lt.2 hold)]
    rfl

/-- An edge within the hold-off of the edge accepted before it is counted. -/
theorem edgeCapture_holds {q pos : Nat} (rising : Bool) (hpos : pos = s.tb.fc * 131072 + 5 * s.binCentre (s.coreOf n) i)
    (last : (mapGet {} n s.edges).last = some q) (dead : 8 * 131072 ≤ pos - q) (hold : pos - q < (mapGet {} n s.edges).hold * 131072) :
    exec (.edgeCapture n i rising) s = .next (s.bump (TIM_EDGE_HOLD n)) := by
  subst hpos
  change execEdgeCapture n i rising s = _
  simp only [execEdgeCapture, on, used, up, last, decide_eq_false (Nat.not_lt.2 dead), decide_eq_true hold]
  rfl

end

theorem timTagPop_takes {s : State} {n : Nat} {x : EdgeTag} {r : List EdgeTag} (up : s.shut 0x40400 = false)
    (unheld : (s.func 0).held = none) (queued : mapGet [] n s.tagQ = x :: r) :
    exec (.timTagPop 0 n) s = .next ((({ s with tagQ := mapPut [] n r s.tagQ } : State).latchWords (TIM_TAG_W n) x.mt 0).emit
      (.readDone 0 (0x40400 + 16 * n) (leBytes 4 (x.head + (mtParts x.mt).2.2)))) := by
  change execTimTagPop 0 n s = _
  simp only [execTimTagPop, State.flush_none unheld, up, queued, State.popTag]
  rfl

/-! ### Calibration of the cores (R130 to R133, R137) -/

theorem coreStart_idle {s : State} {p : Nat} (idle : s.isSet (TIM_CORE_STAT_RUNNING p) = false) (ctl : Bool) :
    s.coreStart p ctl = ({ s with tdc := mapPut {} p { mapGet {} p s.tdc with byCtl := ctl } s.tdc } : State).put
      (TIM_CORE_STAT_RUNNING p) 1 := by
  simp [State.coreStart, idle]

/-- START of `TIM_CAL_CTL`, its CORE not reserved, behind the merge and the count of a new period. -/
theorem calCtlWrite_starts {s u : State} {w : Wr} (go : w.hits 15 = true) (core : bits (merged (s.rn TIM_CAL_CTL) w) 4 0 < 17)
    (hu : u = (if (s.mergeRaw 0x40000 w).get TIM_CAL_CTL_PERIOD = s.get TIM_CAL_CTL_PERIOD then s.mergeRaw 0x40000 w
      else { s.mergeRaw 0x40000 w with timCal := s.mt })) (up : u.awake 93 = true) :
    s.calCtlWrite w = (u.coresStart (bits (merged (s.rn TIM_CAL_CTL) w) 4 0) true).put TIM_CAL_CTL_START
      (b2n (u.coresStart (bits (merged (s.rn TIM_CAL_CTL) w) 4 0) true).ctlRuns) := by
  simp only [State.calCtlWrite, go, decide_eq_false (Nat.not_le.2 core), Bool.and_false, Bool.false_eq_true, if_false, if_true, ← hu, up]

/-- START of an idle core's `TIM_CORE_STAT`. -/
theorem coreStatWrite_starts {s : State} {p : Nat} {w : Wr} (go : w.hits 15 = true) (up : s.awake 93 = true)
    (idle : s.isSet (TIM_CORE_STAT_RUNNING p) = false) :
    s.coreStatWrite p w = (s.coreStart p false).put (TIM_CORE_STAT_START p) 1 := by
  simp [State.coreStatWrite, go, up, idle]

theorem timCalPeriodic_due {s : State} (period : s.get TIM_CAL_CTL_PERIOD ≠ 0) (up : s.awake 93 = true)
    (due : s.timCal + ((s.get TIM_CAL_CTL_PERIOD * mtSec : Nat) : Int) ≤ s.mt) :
    exec .timCalPeriodic s = .next (({ s with timCal := s.timCal + ((s.get TIM_CAL_CTL_PERIOD * mtSec : Nat) : Int) } : State).coresStart
      (s.get TIM_CAL_CTL_CORE) false) := by
  change execTimCalPeriodic s = _
  rw [execTimCalPeriodic, if_neg (by simp only [period, decide_eq_false (Int.not_lt.2 due), decide_false, Bool.or_self]; decide)]
  exact congrArg Host.Outcome.next (if_pos up)

theorem timCalPeriodic_notDue {s : State}
    (early : s.get TIM_CAL_CTL_PERIOD = 0 ∨ s.mt < s.timCal + ((s.get TIM_CAL_CTL_PERIOD * mtSec : Nat) : Int)) :
    exec .timCalPeriodic s = .next s :=
  if_pos (by simpa only [Bool.or_eq_true, decide_eq_true_eq] using early)

/-- Core p behind the end of its run. -/
def State.coreEnd (s : State) (p : Nat) : State := (s.put (TIM_CORE_STAT_RUNNING p) 0).put (TIM_CORE_STAT_START p) 0

theorem coreEnd_tdc (s : State) (p : Nat) : (s.coreEnd p).tdc = s.tdc := by rw [State.coreEnd, put_tdc, put_tdc]

theorem coreEnd_running (s : State) (p : Nat) : (s.coreEnd p).get (TIM_CORE_STAT_RUNNING p) = 0 := by
  rw [State.coreEnd, get_beside (by rfl) (by rfl), get_same (by rfl)]

theorem coreEnd_calgen (s : State) (p : Nat) : (s.coreEnd p).get (TIM_CORE_STAT_CALGEN p) = s.get (TIM_CORE_STAT_CALGEN p) := by
  rw [State.coreEnd, get_beside (by rfl) (by rfl), get_beside (by rfl) (by rfl)]

/-- Core p with the table of an accepted run in force (R130). -/
def State.calAccept (s : State) (p : Nat) (counts : List Nat) (temp : Int) : State :=
  let u : State := { s.coreEnd p with tdc := mapPut {} p { centres := binCentres 0 counts } (s.coreEnd p).tdc }
  (((u.put (TIM_CORE_STAT_CALGEN p) (1 - u.get (TIM_CORE_STAT_CALGEN p))).put (TIM_CORE_STAT_CAL_STALE p) 0).put
    (TIM_CORE_STAT_CAL_TEMP p) (toBits 8 temp)).calCtlDone

/-- Core p failing behind a rejected run; the substitution for which it was calibrated, where there was one, is dropped (R131). -/
def State.calReject (s : State) (p : Nat) : State :=
  let u : State := { s.coreEnd p with
    tdc := mapPut {} p { mapGet {} p (s.coreEnd p).tdc with byCtl := false } (s.coreEnd p).tdc }
  let v := ((u.put (TIM_CORE_STAT_FAILING p) 1).raise evTIM_CORE_FAULT p).calCtlDone
  { v with tdcSwitches := v.tdcSwitches.filter (fun x => x.spare != p) }

section
variable {s : State} {p : Nat} {c : List Nat} {temp : Int}

theorem timCalRunEnd_accepts (running : s.isSet (TIM_CORE_STAT_RUNNING p) = true) (len : c.length = 64)
    (inRange : ∀ h ∈ c, 4096 ≤ h ∧ h ≤ 65536) : exec (.timCalRunEnd p c temp) s = .next (s.calAccept p c temp) := by
  have every : c.all (fun h => decide (4096 ≤ h) && decide (h ≤ 65536)) = true := by simpa using inRange
  change execTimCalRunEnd p c temp s = _
  simp only [execTimCalRunEnd, running, len, every, decide_true, Bool.and_self, Bool.not_true, Bool.false_eq_true, if_false, if_true,
    State.calAccept, State.coreEnd]

/-- Behind a rejected run the core is failing, and a substitution is begun, or the lack of a spare reported, or neither. -/
theorem timCalRunEnd_rejects (running : s.isSet (TIM_CORE_STAT_RUNNING p) = true) (out : ∃ h ∈ c, h < 4096 ∨ 65536 < h) :
    ∃ t, exec (.timCalRunEnd p c temp) s = .next t ∧ (t = s.calReject p ∨ t = (s.calReject p).spareExhausted 9 p ∨
      ∃ n pol, t = (s.calReject p).tdcSubstitute n pol) := by
  have rejected : (decide (c.length = 64) && c.all (fun h => decide (4096 ≤ h) && decide (h ≤ 65536))) = false := by
    obtain ⟨h, mem, out⟩ := out
    refine Bool.and_eq_false_imp.2 fun _ => List.all_eq_false.2 ⟨h, mem, ?_⟩
    simp only [Bool.and_eq_true, decide_eq_true_eq]
    omega
  change ∃ t, execTimCalRunEnd p c temp s = .next t ∧ _
  simp only [execTimCalRunEnd, running, rejected, Bool.not_true, Bool.false_eq_true, if_false, ← State.coreEnd.eq_1]
  generalize hv : s.calReject p = v
  simp only [State.calReject] at hv
  simp only [hv]
  split
  · exact ⟨_, rfl, .inr (.inr ⟨_, _, rfl⟩)⟩
  · split
    · exact ⟨_, rfl, .inr (.inr ⟨_, _, rfl⟩)⟩
    · split
      · exact ⟨_, rfl, .inr (.inl rfl)⟩
      · exact ⟨_, rfl, .inl rfl⟩

theorem toBits_lt (n : Nat) (v : Int) : toBits n v < 2 ^ n := by
  have pos : (0 : Int) < (2 ^ n : Nat) := Int.natCast_pos.2 (Nat.two_pow_pos n)
  have low := Int.emod_nonneg v (Int.ne_of_gt pos)
  have high := Int.emod_lt_of_pos v pos
  rw [toBits]
  omega

theorem calAccept_centres : (mapGet {} p (s.calAccept p c temp).tdc).centres = binCentres 0 c := by
  simp only [State.calAccept, calCtlDone_tdc, put_tdc, mapGet_put_same]

/-- `TIM_CORE_STAT` is no part of `TIM_CAL_CTL`. -/
theorem coreStat_key_ne (p : Nat) : (TIM_CORE_STAT p).key ≠ 0x40000 := by simp only [TIM_CORE_STAT]; omega

/-- What `TIM_CORE_STAT` shows of an accepted run (R130, R133). -/
theorem calAccept_stat : (s.calAccept p c temp).get (TIM_CORE_STAT_RUNNING p) = 0 ∧
    (s.calAccept p c temp).get (TIM_CORE_STAT_CAL_STALE p) = 0 ∧
    (s.calAccept p c temp).get (TIM_CORE_STAT_CALGEN p) = 1 - s.get (TIM_CORE_STAT_CALGEN p) ∧
    (s.calAccept p c temp).get (TIM_CORE_STAT_CAL_TEMP p) = toBits 8 temp := by
  have shown : ∀ (t : State) (f : Fld), f.reg = TIM_CORE_STAT p → t.calCtlDone.get f = t.get f :=
    fun t f e => calCtlDone_get t f (e ▸ coreStat_key_ne p)
  refine ⟨?running, ?stale, ?calgen, ?temp⟩
  case running =>
    rw [State.calAccept, shown _ _ rfl, get_beside (by rfl) (by rfl), get_beside (by rfl) (by rfl), get_beside (by rfl) (by rfl), get_tdc,
      coreEnd_running]
  case stale =>
    rw [State.calAccept, shown _ _ rfl, get_beside (by rfl) (by rfl), get_same (by rfl)]
  case calgen =>
    rw [State.calAccept, shown _ _ rfl, get_beside (by rfl) (by rfl), get_beside (by rfl) (by rfl), get_mod (by rfl), get_tdc, coreEnd_calgen]
    exact Nat.mod_eq_of_lt (Nat.lt_succ_of_le (Nat.sub_le ..))
  case temp =>
    rw [State.calAccept, shown _ _ rfl, get_mod (by rfl)]
    exact Nat.mod_eq_of_lt (toBits_lt 8 temp)

/-- A rejected run keeps the core's table and marks the core failing (R131). -/
theorem calReject_core (hp : p < 18) : (mapGet {} p (s.calReject p).tdc).centres = (mapGet {} p s.tdc).centres ∧
    (s.calReject p).get (TIM_CORE_STAT_FAILING p) = 1 := by
  constructor
  · simp only [State.calReject, calCtlDone_tdc, raise_tdc, put_tdc, mapGet_put_same, coreEnd_tdc]
  · change State.get (State.calCtlDone _) _ = 1
    rw [calCtlDone_get _ _ (coreStat_key_ne p), raise_get (core_raise _ (by simp) p hp) (core_raise _ (by simp) p hp)
      (core_raise _ (by simp) p hp), get_same (by rfl)]

end

/-! ### Stale tables, substitutions and lost taps (R123, R133, R134) -/

/-- The die temperature of a core leaves ±5 °C of that of its last accepted run. -/
theorem timCalStale_leaves {s : State} {p : Nat} {temp : Int} (table : (mapGet {} p s.tdc).centres ≠ [])
    (near : (mapGet {} p s.tdc).drifted = false) (far : 5 < (temp - sext 8 (s.get (TIM_CORE_STAT_CAL_TEMP p))).natAbs) :
    exec (.timCalStale p temp) s = .next ((({ s with tdc := mapPut {} p { mapGet {} p s.tdc with drifted := true } s.tdc } : State).put
      (TIM_CORE_STAT_CAL_STALE p) 1).raise evTIM_CAL_STALE p) := by
  change execTimCalStale p temp s = _
  simp only [execTimCalStale, table, near, decide_eq_true far]
  rfl

/-- The die temperature of a core returns within ±5 °C of that of its last accepted run. -/
theorem timCalStale_returns {s : State} {p : Nat} {temp : Int} (table : (mapGet {} p s.tdc).centres ≠ [])
    (off : (mapGet {} p s.tdc).drifted = true) (near : (temp - sext 8 (s.get (TIM_CORE_STAT_CAL_TEMP p))).natAbs ≤ 5) :
    exec (.timCalStale p temp) s = .next (({ s with tdc := mapPut {} p { mapGet {} p s.tdc with drifted := false } s.tdc } : State).put
      (TIM_CORE_STAT_CAL_STALE p) 0) := by
  change execTimCalStale p temp s = _
  simp only [execTimCalStale, table, off, decide_eq_false (Nat.not_lt.2 near)]
  rfl

/-- A calibrated spare takes over a logical core, outside a policy. -/
theorem tdcSpareSwitch_takes {s : State} {n : Nat} {x : TdcSwitch} (waits : s.tdcSwitches.find? (fun y => y.logical == n) = some x)
    (calibrated : s.isSet (TIM_CORE_STAT_RUNNING x.spare) = false) (sound : s.isSet (TIM_CORE_STAT_FAILING x.spare) = false)
    (asked : x.byPolicy = false) :
    exec (.tdcSpareSwitch n) s = .next (((({ s with tdcSwitches := s.tdcSwitches.filter (fun y => y.logical != n) } : State).put
      (TIM_CORE_STAT_LOGICAL (s.coreOf n)) 31).put (TIM_CORE_STAT_LOGICAL x.spare) n).useSpare 9 (s.coreOf n)) := by
  change execTdcSpareSwitch n s = _
  simp only [execTdcSpareSwitch, waits, calibrated, sound, asked, Bool.or_self, Bool.false_eq_true, if_false]

theorem cgLost_reports {s : State} {g : Nat} (running : s.isSet (CNV_GRP_STAT_RUNNING (g / 3) (g % 3)) = true) (up : s.awake g = true)
    (first : s.cgLost.contains g = false) :
    exec (.cgLost g) s = .next (({ s with cgLost := g :: s.cgLost } : State).raise evTIM_CG_LOST g) := by
  change execCgLost g s = _
  simp only [execCgLost, running, up, first, Bool.not_false, Bool.and_self, if_true]

/-! ### Gates of the frequency counters (R136) -/

/-- The end of a gate that has lasted its time, with the edges that REF10M had in it. -/
theorem freqGateEnd_due {s : State} {k : Nat} {r : RefEdges} {g : FreqGate} (found : s.freqs.find? (fun e => e.1 == k) = some (k, g))
    (due : g.start + ((g.gate * mtUs : Nat) : Int) ≤ s.mt) : exec (.freqGateEnd ⟨k, r⟩) s = .next (s.gateEnd k (s.refEdges g r)) := by
  change execFreqGateEnd ⟨k, r⟩ s = _
  simp only [execFreqGateEnd, found, FreqGate.over, decide_eq_true due, if_true]

/-- The next gate begins in no register. -/
theorem gateStart_rd (s : State) (k : Nat) (t : Int) (carry : Option (Int × Bool)) (q : Reg) : (s.gateStart k t carry).rd q = s.rd q :=
  rfl

/-- The result words of counter k. -/
def State.freqWords (s : State) (k n i f : Nat) : State :=
  ((s.wn (TIM_FREQ_N k) n).wr64 (TIM_FREQ_I_LO k) (TIM_FREQ_I_HI k) i).wr64 (TIM_FREQ_F_LO k) (TIM_FREQ_F_HI k) f

/-- The status of counter k: the quality of its result, and the next `SEQ`. -/
def State.freqStatus (s : State) (k state coarse nosig : Nat) : State :=
  let u := (s.put (TIM_FREQ_ST_STATE k) state).put (TIM_FREQ_ST_COARSE k) coarse
  (u.put (TIM_FREQ_ST_NOSIG k) nosig).put (TIM_FREQ_ST_SEQ k) (u.get (TIM_FREQ_ST_SEQ k) + 1)

/-- A gate with two edges or more has a result (R136). -/
theorem gateEnd_counts {s : State} {k : Nat} {x : FreqGate} (two : 2 ≤ x.n) (apart : x.first < x.last) :
    s.gateEnd k x = ((s.freqWords k x.n (x.last - x.first).toNat
      (divRound (((x.n - 1) * 2 ^ 24 * mtSec : Nat) : Int) (x.last - x.first).toNat).toNat).freqStatus k s.tstate (b2n x.coarse) 0).gateStart
      k (x.start + ((x.gate * mtUs : Nat) : Int)) (some (x.last, x.lastCo)) := by
  have lasts : (x.last - x.first).toNat ≠ 0 := by omega
  have edges : x.n ≠ 0 := by omega
  simp only [State.gateEnd, two, lasts, edges, decide_true, if_true, if_false]
  rfl

/-- A gate with fewer than two edges has no signal (R136). -/
theorem gateEnd_silent {s : State} {k : Nat} {x : FreqGate} (few : x.n < 2) :
    s.gateEnd k x = ((s.freqWords k x.n 0 0).freqStatus k s.tstate (b2n x.coarse) 1).gateStart k
      (x.start + ((x.gate * mtUs : Nat) : Int)) (if x.n = 0 then none else some (x.last, x.lastCo)) := by
  simp only [State.gateEnd, decide_eq_false (Nat.not_le.2 few), Bool.false_eq_true, if_false]
  rfl

section
variable {s : State} {k n i f state coarse nosig : Nat}

/-- Two registers of one counter stand apart by their places in it. -/
theorem freq_key_ne {a b : Nat} (h : a ≠ b) : a + 32 * k ≠ b + 32 * k := mt Nat.add_right_cancel h

/-- The result words stand beside the status. -/
theorem freqWords_status {g : Fld} (h : g.reg = TIM_FREQ_ST k) : (s.freqWords k n i f).get g = s.get g := by
  have kept : (s.freqWords k n i f).rd (TIM_FREQ_ST k) = s.rd (TIM_FREQ_ST k) := by
    rw [State.freqWords, wr64_rd (freq_key_ne (by decide)) (freq_key_ne (by decide)),
      wr64_rd (freq_key_ne (by decide)) (freq_key_ne (by decide)), wn_rd (freq_key_ne (by decide))]
  exact get_of_rd (h ▸ kept)

/-- The status behind a gate, its `SEQ` one more than before the result words. -/
theorem freqStatus_words : (s.freqWords k n i f).freqStatus k state coarse nosig =
    ((((s.freqWords k n i f).put (TIM_FREQ_ST_STATE k) state).put (TIM_FREQ_ST_COARSE k) coarse).put (TIM_FREQ_ST_NOSIG k) nosig).put
      (TIM_FREQ_ST_SEQ k) (s.get (TIM_FREQ_ST_SEQ k) + 1) := by
  rw [State.freqStatus, get_beside (by rfl) (by rfl), get_beside (by rfl) (by rfl), freqWords_status rfl]

theorem freqStatus_nosig : (s.freqStatus k state coarse nosig).get (TIM_FREQ_ST_NOSIG k) = nosig % 2 := by
  rw [State.freqStatus, get_beside (by rfl) (by rfl), get_mod (by rfl)]
  rfl

theorem freqStatus_rd {q : Reg} (h : q.key ≠ (TIM_FREQ_ST k).key) : (s.freqStatus k state coarse nosig).rd q = s.rd q :=
  (put_rd h).trans ((put_rd h).trans ((put_rd h).trans (put_rd h)))

/-- A 64-bit value just written to a pair reads back (R507). -/
theorem rd64_wr64 {a b : Reg} {v : Nat} (h : a.key ≠ b.key) (hv : v < 2 ^ 64) : (s.wr64 a b v).rd64 a b = v := by
  have low : (s.wn a v).rn a = v % 2 ^ 32 := by simp [State.rn, State.wn, w32]
  rw [State.rd64, State.wr64, rn_wn _ _ (by omega), rn_wn_ne _ h, low]
  omega

/-- The result words of counter k, behind its status. -/
theorem freqWords_read (hn : n < 2 ^ 32) (hi : i < 2 ^ 64) (hf : f < 2 ^ 64) :
    ((s.freqWords k n i f).freqStatus k state coarse nosig).rn (TIM_FREQ_N k) = n ∧
    ((s.freqWords k n i f).freqStatus k state coarse nosig).rd64 (TIM_FREQ_I_LO k) (TIM_FREQ_I_HI k) = i ∧
    ((s.freqWords k n i f).freqStatus k state coarse nosig).rd64 (TIM_FREQ_F_LO k) (TIM_FREQ_F_HI k) = f := by
  refine ⟨?_, ?_, ?_⟩
  · rw [rn_of_rd (freqStatus_rd (freq_key_ne (by decide))), State.freqWords,
      rn_of_rd (wr64_rd (freq_key_ne (by decide)) (freq_key_ne (by decide))),
      rn_of_rd (wr64_rd (freq_key_ne (by decide)) (freq_key_ne (by decide))), rn_wn _ _ hn]
  · rw [rd64_of_rd (freqStatus_rd (freq_key_ne (by decide))) (freqStatus_rd (freq_key_ne (by decide))), State.freqWords,
      rd64_of_rd (wr64_rd (freq_key_ne (by decide)) (freq_key_ne (by decide)))
        (wr64_rd (freq_key_ne (by decide)) (freq_key_ne (by decide))), rd64_wr64 (freq_key_ne (by decide)) hi]
  · rw [rd64_of_rd (freqStatus_rd (freq_key_ne (by decide))) (freqStatus_rd (freq_key_ne (by decide))), State.freqWords,
      rd64_wr64 (freq_key_ne (by decide)) hf]

end

/-- Settles O18: each command of rows 31 to 40 meets the law of its row above. -/
theorem timeIntervalCommandsComplete : Obligations.TimeIntervalCommandsComplete := by
  refine ⟨?edge, ?edgeHold, fun _ _ _ _ up unheld queued => timTagPop_takes up unheld queued, ?calStart, ?coreStart,
    fun _ period up due => timCalPeriodic_due period up due, fun _ early => timCalPeriodic_notDue early, ?runEnd, ?runRejected,
    fun _ _ _ table near far => timCalStale_leaves table near far, fun _ _ _ table off near => timCalStale_returns table off near,
    fun _ _ _ waits calibrated sound asked => tdcSpareSwitch_takes waits calibrated sound asked, ?gateEnd, ?gateSilent,
    fun _ _ running up first => cgLost_reports running up first⟩
  case edge =>
    rintro s n i rising cfg p pos m rfl hp hpos hm on used up apart polarity
    exact edgeCapture_accepts on used up hp hpos hm apart polarity
  case edgeHold =>
    intro s n i rising q pos hpos on used up last dead hold
    exact edgeCapture_holds on used up rising hpos last dead hold
  case calStart =>
    intro s u w reached go core hu up
    exact congrArg Host.Outcome.next ((pfOnly_open reached _).trans (calCtlWrite_starts go core hu up))
  case coreStart =>
    intro s p w reached go up idle
    rw [← coreStart_idle idle]
    exact congrArg Host.Outcome.next ((pfOnly_open reached _).trans (coreStatWrite_starts go up idle))
  case runEnd =>
    intro s p c temp running len inRange
    exact ⟨_, timCalRunEnd_accepts running len inRange, calAccept_centres, calAccept_stat⟩
  case runRejected =>
    intro s p c temp hp running out
    obtain ⟨centres, failing⟩ := calReject_core (s := s) hp
    obtain ⟨t, ends, kept | reported | ⟨n, pol, begun⟩⟩ := timCalRunEnd_rejects (temp := temp) running out
    · exact ⟨t, ends, kept ▸ centres, kept ▸ failing⟩
    · obtain ⟨tdc, get⟩ := spareExhausted_core hp (s.calReject p) 9 p
      exact ⟨t, ends, by rw [reported, tdc, centres], by rw [reported, get, failing]⟩
    · obtain ⟨tdc, get⟩ := tdcSubstitute_core hp (s := s.calReject p) (by simp [State.isSet, failing]) n pol
      exact ⟨t, ends, by rw [begun, tdc, centres], by rw [begun, get, failing]⟩
  case gateEnd =>
    rintro s k r g x found due rfl two apart
    rw [freqGateEnd_due found due, gateEnd_counts two apart, freqStatus_words]
    rfl
  case gateSilent =>
    intro s k r g found due few
    have ends := (freqGateEnd_due (r := r) found due).trans (congrArg Host.Outcome.next (gateEnd_silent few))
    obtain ⟨edges, interval, frequency⟩ := freqWords_read (s := s) (k := k) (state := s.tstate) (coarse := b2n (s.refEdges g r).coarse)
      (nosig := 1) (show (s.refEdges g r).n < 2 ^ 32 by omega) (show 0 < 2 ^ 64 by decide) (show 0 < 2 ^ 64 by decide)
    exact ⟨_, ends, (get_of_rd (gateStart_rd ..)).trans freqStatus_nosig, (rn_of_rd (gateStart_rd ..)).trans edges,
      (rd64_of_rd (gateStart_rd ..) (gateStart_rd ..)).trans interval, (rd64_of_rd (gateStart_rd ..) (gateStart_rd ..)).trans frequency⟩

/-! ## The opcodes of calibration (R132, R156, R158, R281, R287 to R292, R551) -/

/-- A command that completes later than its packet (R522). -/
theorem Delivers.completesLater {c : Instr} {op : Nat} {act : Bool} {h : Packet → State → CmdOut × State} {p : Packet} {s u t : State}
    (d : Delivers c op act h p) (a : s.Admits op act p) (hu : u = s.begun p) {res : List Word} (r : h p u = (.later res, t)) :
    exec c s = .next (s.opened op p 8 0 res t) := by
  subst hu
  rw [d s, enginePacket_admitted a r]

/-- No part has more than the 768 inputs of eight converter dies (R1). -/
theorem inputs_le (x : Product) : x.inputs ≤ 768 := by
  have dies : x.part.dies ≤ 8 := by cases x.part <;> decide
  rw [Product.inputs]
  omega

section
variable {p : Packet} {u : State} (owner : p.borough % 32 = 0)
include owner

/-! ### Trim pages -/

/-- A page of which one copy passes. -/
theorem opCalTrimRepair_passes {okA : Bool} (hs : Packet.sized p 4 = true) (hn : Packet.word p 0 < 32)
    (fitted : u.pageFitted (Packet.word p 0) = true) (copyA : u.isSet (CAL_PAGE_STAT_A_OK (Packet.word p 0)) = okA)
    (copyB : u.isSet (CAL_PAGE_STAT_B_OK (Packet.word p 0)) = !okA) :
    opCalTrimRepair p u = (.later [], { u with
      nvm := u.nvm ++ [⟨1, Packet.word p 0, b2n okA, false, u.trimCopy (Packet.word p 0) (b2n (!okA)), actionOf p, none⟩] }) := by
  rw [opCalTrimRepair, ownerCmd_passes (by simp [hs, hn]) owner]
  simp only [fitted, copyA, copyB]
  cases okA <;> rfl

/-- A measurement that meets the checks of R291. -/
theorem opCalUserMeasure_passes (hs : Packet.sized p 8 = true) (h0 : Packet.arg p 6 2 = 0) (up : u.awake 91 = true)
    (conv : Packet.arg p 0 1 < 17) (idle : u.calBusy (Packet.arg p 0 1) = false) (source : Packet.arg p 2 1 < 32)
    (excited : u.excState (Packet.arg p 2 1) = 2) (gain : Packet.arg p 1 1 ≤ 3) (avg : Packet.arg p 3 1 ≤ 8)
    (low : 5 ≤ Packet.arg p 4 2) (high : Packet.arg p 4 2 ≤ 1000) :
    opCalUserMeasure p u = (.later [], { u with calMeas := u.calMeas ++
      [⟨Packet.arg p 0 1, Packet.arg p 1 1, Packet.arg p 2 1, Packet.arg p 3 1, Packet.arg p 4 2, actionOf p, u.mt⟩] }) := by
  have inRange : ¬ (16 < Packet.arg p 0 1 ∨ 3 < Packet.arg p 1 1 ∨ 31 < Packet.arg p 2 1 ∨ 8 < Packet.arg p 3 1 ∨
    Packet.arg p 4 2 < 5 ∨ 1000 < Packet.arg p 4 2) := by omega
  rw [opCalUserMeasure, ownerCmd_passes (by simp [hs, h0]) owner]
  simp only [up, conv, idle, source, excited]
  rw [if_neg (by decide), if_neg (by decide), if_neg (by decide), if_neg (by simpa [or_assoc] using inRange)]

/-- A write of the user page: its pairs are well formed and their sums in range, its sequence has not run out, and the front end has
room at the boundary. -/
theorem opCalUserWrite_passes {x : TrimCopy} (hs : Packet.sized p (4 + 8 * Packet.arg p 0 1) = true) (h0 : Packet.arg p 1 3 = 0)
    (h1 : 1 ≤ Packet.arg p 0 1) (h68 : Packet.arg p 0 1 ≤ 68)
    (pairs : ∀ i < Packet.arg p 0 1, Packet.arg p (4 + 8 * i) 1 < 17 ∧ Packet.arg p (5 + 8 * i) 1 < 4 ∧ Packet.arg p (10 + 8 * i) 2 = 0)
    (sums : ∀ i < Packet.arg p 0 1, u.userSumOk p i = true) (more : u.userPage.1 < 2 ^ 32 - 1) (room : u.feLate p = 0)
    (hx : x = { seq := u.userPage.1 + 1, written := some ((u.mt / (mtSec : Int)).toNat % 2 ^ 48), words := userWords p u.userPage.2 }) :
    opCalUserWrite p u = (.later [], { u with nvm := u.nvm ++ [⟨0, 3, 0, false, x, actionOf p, Packet.act p⟩] }) := by
  subst hx
  have summed : (List.range (Packet.arg p 0 1)).all (u.userSumOk p) = true := by simpa using sums
  rw [opCalUserWrite, ownerCmd_passes (by simpa [hs, h0, h1, h68, and_assoc] using pairs) owner]
  simp only [summed, Nat.not_le.2 more, room]
  rfl

/-- One word of a copy that passes. -/
theorem opCalPageRead_word (hs : Packet.sized p 8 = true) (hlen : Packet.arg p 4 2 = 4) (h0 : Packet.arg p 6 2 = 0)
    (hn : Packet.arg p 0 1 < 32) (hc : Packet.arg p 1 1 < 2) (fitted : u.pageFitted (Packet.arg p 0 1) = true)
    (aligned : Packet.arg p 2 2 % 4 = 0) (inPage : Packet.arg p 2 2 ≤ 8188)
    (ok : (u.trimCopy (Packet.arg p 0 1) (Packet.arg p 1 1)).ok = true) :
    opCalPageRead p u = (.now 0 [w32 (u.copyWord (Packet.arg p 0 1) (Packet.arg p 1 1) (Packet.arg p 2 2))], u) := by
  have ends : ¬ 8192 < Packet.arg p 2 2 + 4 := by omega
  rw [opCalPageRead, ownerCmd_passes (by simp [hs, h0, hn, hc]) owner]
  simp [hlen, fitted, aligned, ends, ok, State.say]

/-! ### TDC cores -/

theorem opCalTim_one (hs : Packet.sized p 4 = true) (hn : Packet.word p 0 < 16) (up : u.awake 93 = true)
    (idle : u.isSet (TIM_CORE_STAT_RUNNING (u.coreOf (Packet.word p 0))) = false) :
    opCalTim p u = (.now 0 [], u.coresStart (Packet.word p 0) false) := by
  rw [opCalTim, ownerCmd_passes (by simp [hs, Nat.le_of_lt hn]) owner]
  simp [up, idle, Nat.ne_of_lt hn, State.say]

/-! ### Slices and the survey -/

/-- A trim of a slice whose input no slot governs. -/
theorem opCalSliceTrim_ungoverned (hs : Packet.sized p 8 = true) (h0 : Packet.arg p 3 1 = 0) (hi : Packet.arg p 0 2 < u.part.inputs)
    (hsl : Packet.arg p 2 1 < 17) (hv : Packet.word p 1 < 2 ^ 29) (inUse : u.sub (iTrim (Packet.arg p 0 2) (Packet.arg p 2 1)) 31 29 ≠ 3)
    (unsurveyed : u.surveyActive (Packet.arg p 0 2) = false) (ungoverned : u.governSlot (Packet.arg p 0 2) = none) :
    opCalSliceTrim p u = (u.setSub (iTrim (Packet.arg p 0 2) (Packet.arg p 2 1)) 28 0 (Packet.word p 1)).sayIdle := by
  have input := Nat.lt_of_lt_of_le hi (inputs_le _)
  rw [opCalSliceTrim, ownerCmd_passes (by simp only [hs, input, hsl, h0, hv]; rfl) owner]
  simp only [Nat.not_le.2 hi, inUse, unsurveyed, ungoverned, if_false, Bool.false_eq_true]

theorem opCalSurvey_passes (hs : Packet.sized p 4 = true) (hg : Packet.arg p 0 1 < 24) (present : Packet.arg p 0 1 < u.part.groups)
    (hen : boolByte (Packet.arg p 1 1) = true) (low : 10 ≤ Packet.arg p 2 2) (high : Packet.arg p 2 2 ≤ 1000) :
    opCalSurvey p u = (.now 0 [], u.grpCtlWrite (Packet.arg p 0 1) (pf (setBits (setBits (setBits (u.rn (gCtl (Packet.arg p 0 1)))
      31 16 (Packet.arg p 2 2)) 4 4 (Packet.arg p 1 1)) 0 0 0))) := by
  rw [opCalSurvey, ownerCmd_passes (by simp [hs, hg, hen, low, high]) owner]
  exact if_neg (Nat.not_le.2 present)

/-- A step that has halted runs again. -/
theorem opCalSurveyStep_halted (hs : Packet.sized p 4 = true) (hi : Packet.arg p 0 2 < u.part.inputs) (h0 : Packet.arg p 2 2 = 0)
    (halted : u.sub (iStat (Packet.arg p 0 2)) 21 20 = 2) :
    opCalSurveyStep p u = (.later [], u.setSub (iStat (Packet.arg p 0 2)) 21 20 1) := by
  have input := Nat.lt_of_lt_of_le hi (inputs_le _)
  rw [opCalSurveyStep, ownerCmd_passes (by simp [hs, input, h0]) owner]
  simp only [Nat.not_le.2 hi, halted, if_false, not_true_eq_false, ne_eq]

end

/-- Settles O46: each opcode passes its checks, and acts at once or waits for what it began. -/
theorem calibrationOpcodesComplete : Obligations.CalibrationOpcodesComplete := by
  refine ⟨?repair, ?measure, ?write, ?tim, ?timPeriod, ?trim, ?survey, ?step, ?page⟩
  case repair =>
    rintro s u p n okA a hu hs rfl hn owner fitted copyA copyB
    have d : Delivers (.calTrimRepair p) 0x0901 false opCalTrimRepair p := fun _ => rfl
    exact d.completesLater a hu (opCalTrimRepair_passes owner hs hn fitted copyA copyB)
  case measure =>
    rintro s u p c g q avg sl a hu hs h0 rfl rfl rfl rfl rfl owner up conv idle source excited gain haverage low high
    have d : Delivers (.calUserMeasure p) 0x0902 false opCalUserMeasure p := fun _ => rfl
    exact d.completesLater a hu (opCalUserMeasure_passes owner hs h0 up conv idle source excited gain haverage low high)
  case write =>
    rintro s u p n x a hu rfl hs h0 h1 h68 pairs owner sums more room hseq hwritten hwords hok
    have d : Delivers (.calUserWrite p) 0x0903 true opCalUserWrite p := fun _ => rfl
    have hx : x = ⟨u.userPage.1 + 1, some ((u.mt / (mtSec : Int)).toNat % 2 ^ 48), true, userWords p u.userPage.2⟩ := by
      rw [← hseq, ← hwritten, ← hwords, ← hok]
    exact d.completesLater a hu (opCalUserWrite_passes owner hs h0 h1 h68 pairs sums more room hx)
  case tim =>
    rintro s u p n a hu hs rfl hn owner up idle
    have d : Delivers (.calTim p) 0x0904 false opCalTim p := fun _ => rfl
    exact d.answers a hu (opCalTim_one owner hs hn up idle)
  case timPeriod =>
    intro s u p a hu hs h0 owner
    have d : Delivers (.calTimPeriod p) 0x0905 false opCalTimPeriod p := fun _ => rfl
    exact d.answers a hu (by rw [opCalTimPeriod, ownerCmd_passes (by simp [hs, h0]) owner]; rfl)
  case trim =>
    rintro s u p v i sl a hu hs rfl rfl h0 hi hsl hv owner inUse unsurveyed ungoverned rfl
    have d : Delivers (.calSliceTrim p) 0x0906 true opCalSliceTrim p := fun _ => rfl
    have trimmed := opCalSliceTrim_ungoverned owner hs h0 hi hsl hv inUse unsurveyed ungoverned
    exact d.answers a hu (trimmed.trans (sayIdle_eq _))
  case survey =>
    rintro s u p g en dwell a hu hs rfl rfl rfl hg present hen low high owner
    have d : Delivers (.calSurvey p) 0x0907 false opCalSurvey p := fun _ => rfl
    exact d.answers a hu (opCalSurvey_passes owner hs hg present hen low high)
  case step =>
    rintro s u p i a hu hs rfl hi h0 owner halted
    have d : Delivers (.calSurveyStep p) 0x0908 false opCalSurveyStep p := fun _ => rfl
    exact d.completesLater a hu (opCalSurveyStep_halted owner hs hi h0 halted)
  case page =>
    rintro s u p n c off a hu hs rfl rfl rfl hlen h0 hn hc owner fitted aligned inPage ok
    have d : Delivers (.calPageRead p) 0x0909 false opCalPageRead p := fun _ => rfl
    exact d.answers a hu (opCalPageRead_word owner hs hlen h0 hn hc fitted aligned inPage ok)

end Sys2Proof.Machine

namespace Sys2Proof.Machine

/-! SUPPORT and the statement of the wideband converters: the commands of rows 41 to 54. -/

/-! ## Writes of `CNV_GRP_CTL` (R145, R146, R156) -/

theorem refWrite_on {s : State} {g : Nat} (up : s.awake g = true) (off : (s.grp g).refOn = false) :
    s.refWrite g true = s.setGrp g { s.grp g with refOn := true, refAt := s.mt } := by
  simp [State.refWrite, up, off]

/-- `REF_EN` written as the buffer already stands changes nothing. -/
theorem refWrite_same {s : State} {g : Nat} {on : Bool} (same : on = (s.grp g).refOn) : s.refWrite g on = s := by
  subst same
  cases h : (s.grp g).refOn <;> simp [State.refWrite, h]

theorem surveyWrite_off (s : State) (g : Nat) : s.surveyWrite g false = s.setGrp g { s.grp g with surveyStop := true } := rfl

theorem grpApply_passes {s : State} {g : Nat} (passes : s.applyCheck g = 0) :
    s.grpApply g = (s.applyMode g).put (CNV_GRP_STAT_CODE (g / 3) (g % 3)) 0 := by
  simp only [State.grpApply, passes, if_true]

/-- The registers of a group's control stand apart from those that REF_HELD writes. -/
theorem refHeld_gCtl {g : Nat} (hg : g < 24) (t : State) : (t.raise (evCNV_REF_HELD g) g).rd (gCtl g) = t.rd (gCtl g) := by
  have apart : ∀ g < 24, (gCtl g).key ∉ raiseKeys (evCNV_REF_HELD g).src ∧ (gCtl g).key ∉ raiseKeys evLOG_STAGE_REFUSED.src ∧
      (gCtl g).key ∉ raiseKeys evSYS_POST_LOST.src := by decide
  obtain ⟨own, refused, lost⟩ := apart g hg
  exact raise_rd own refused lost ..

section
variable {s u v x : State} {g : Nat} {w : Wr} (hu : u = s.mergeRaw (gCtl g).key w)
include hu

/-- A write that does not clear `REF_EN` under a running group: `REF_EN` acts (to v), `SURVEY_EN` acts (to x), then APPLY. -/
theorem grpCtlWrite_unheld (unheld : (s.grpRun g && bit (s.rn (gCtl g)) 1 && !bit (u.rn (gCtl g)) 1) = false)
    (ref : (if w.reaches 1 1 then u.refWrite g (bit (u.rn (gCtl g)) 1) else u) = v)
    (survey : (if bit (s.rn (gCtl g)) 4 != bit (v.rn (gCtl g)) 4 then v.surveyWrite g (bit (v.rn (gCtl g)) 4) else v) = x) :
    s.grpCtlWrite g w = if w.hits 0 then x.grpApply g else x := by
  subst hu
  simp only [State.grpCtlWrite, unheld, Bool.not_false, Bool.and_true, Bool.false_eq_true, if_false, ref, survey]

/-- The same with `REF_EN` as the buffer stands. -/
theorem grpCtlWrite_refSteady (unheld : (s.grpRun g && bit (s.rn (gCtl g)) 1 && !bit (u.rn (gCtl g)) 1) = false)
    (steady : bit (u.rn (gCtl g)) 1 = (u.grp g).refOn)
    (survey : (if bit (s.rn (gCtl g)) 4 != bit (u.rn (gCtl g)) 4 then u.surveyWrite g (bit (u.rn (gCtl g)) 4) else u) = x) :
    s.grpCtlWrite g w = if w.hits 0 then x.grpApply g else x :=
  grpCtlWrite_unheld hu unheld (by rw [refWrite_same steady, ite_self]) survey

/-- A write that sets `REF_EN` of an awake group whose buffer is off turns the buffer on. -/
theorem grpCtlWrite_refOn (hg : g < 24) (plain : w.hits 0 = false) (reached : w.reaches 1 1 = true) (up : s.awake g = true)
    (off : (s.grp g).refOn = false) (on : bit (u.rn (gCtl g)) 1 = true)
    (survey : bit (u.rn (gCtl g)) 4 = bit (s.rn (gCtl g)) 4) :
    s.grpCtlWrite g w = u.setGrp g { u.grp g with refOn := true, refAt := s.mt } := by
  have uUp : u.awake g = true := by rw [hu, mergeRaw_awake hg, up]
  have uOff : (u.grp g).refOn = false := by rw [hu, grp_of_grps (mergeRaw_grps ..), off]
  have uMt : u.mt = s.mt := by rw [hu, mergeRaw_mt]
  rw [← uMt, ← refWrite_on uUp uOff]
  have steady : bit ((u.refWrite g true).rn (gCtl g)) 4 = bit (s.rn (gCtl g)) 4 := by rw [refWrite_on uUp uOff]; exact survey
  rw [grpCtlWrite_unheld hu (by simp [on]) (by rw [reached, on, if_pos rfl]) (if_neg (by simp [steady])), plain]
  rfl

/-- `REF_EN` cleared under a running group is held at 1, with REF_HELD. -/
theorem grpCtlWrite_held (hg : g < 24) (plain : w.hits 0 = false) (run : s.grpRun g = true) (was : bit (s.rn (gCtl g)) 1 = true)
    (cleared : bit (u.rn (gCtl g)) 1 = false) (survey : bit (u.rn (gCtl g)) 4 = bit (s.rn (gCtl g)) 4) :
    s.grpCtlWrite g w = (u.setSub (gCtl g) 1 1 1).raise (evCNV_REF_HELD g) g := by
  have steady : bit (((u.setSub (gCtl g) 1 1 1).raise (evCNV_REF_HELD g) g).rn (gCtl g)) 4 = bit (s.rn (gCtl g)) 4 := by
    rw [rn_of_rd (refHeld_gCtl hg _), bit_get, State.setSub, get_beside (by rfl) (by rfl), ← bit_get, survey]
  simp only [State.grpCtlWrite, ← hu, plain, run, was, cleared, steady, Bool.not_false, Bool.not_true, Bool.and_self, Bool.and_false,
    bne_self_eq_false, Bool.false_eq_true, if_false, if_true]

end

section
variable {s : State} {g : Nat} {w : Wr} (reached : s.Opens w (gCtl g).key)
include reached

/-- REF_EN_WRITE, CNV_APPLY and SURVEY_EN_WRITE are one write of `CNV_GRP_CTL`. -/
theorem refEnWrite_opens : exec (.refEnWrite g w) s = .next (s.grpCtlWrite g w) := congrArg Host.Outcome.next (pfOnly_open reached _)

theorem cnvApply_opens : exec (.cnvApply g w) s = .next (s.grpCtlWrite g w) := refEnWrite_opens reached

theorem surveyEnWrite_opens : exec (.surveyEnWrite g w) s = .next (s.grpCtlWrite g w) := refEnWrite_opens reached

end

/-! ## The reference, the PLLs and locked mode (R144, R145, R147, R149) -/

theorem cnvRefOk_settles {s : State} {g : Nat} (on : (s.grp g).refOn = true) (up : s.awake g = true)
    (due : (s.grp g).refAt + ((2 * mtMs : Nat) : Int) ≤ s.mt) :
    exec (.cnvRefOk g) s = .next (s.put (CNV_GRP_STAT_REF_OK (g / 3) (g % 3)) 1) :=
  if_pos (by rw [on, up, decide_eq_true due]; rfl)

section
variable {s : State} {g : Nat} (running : s.get (CNV_GRP_STAT_RUNNING (g / 3) (g % 3)) = 1)
include running

theorem cnvPllLocked_locks (unlocked : s.get (CNV_GRP_STAT_PLL_LOCK (g / 3) (g % 3)) = 0) (up : s.awake g = true) :
    exec (.cnvPllLocked g) s = .next ((s.put (CNV_GRP_STAT_PLL_LOCK (g / 3) (g % 3)) 1).samplesBack g) :=
  if_pos (by simp only [running, unlocked, up]; rfl)

/-- A relock does what the first lock of a started group does. -/
theorem pllRelock_locks (unlocked : s.get (CNV_GRP_STAT_PLL_LOCK (g / 3) (g % 3)) = 0) (up : s.awake g = true) :
    exec (.pllRelock g) s = .next ((s.put (CNV_GRP_STAT_PLL_LOCK (g / 3) (g % 3)) 1).samplesBack g) :=
  cnvPllLocked_locks running unlocked up

theorem pllUnlock_stops (locked : s.get (CNV_GRP_STAT_PLL_LOCK (g / 3) (g % 3)) = 1) :
    exec (.pllUnlock g) s = .next (((s.raise (evCNV_PLL_UNLOCK g) g).put (CNV_GRP_STAT_PLL_LOCK (g / 3) (g % 3)) 0).samplesStop g) :=
  if_pos (by simp only [running, locked]; rfl)

end

/-- Lock held for 1,000 consecutive tags, whose mean is kept. -/
theorem cnvLocked_reached {s : State} {g : Nat} (run : s.grpRun g = true) (mode : s.grpLocked g = true)
    (pll : s.get (CNV_GRP_STAT_PLL_LOCK (g / 3) (g % 3)) = 1) (first : s.get (CNV_GRP_STAT_LOCKED (g / 3) (g % 3)) = 0)
    (holds : lockHolds (s.grp g).lockTags = true) :
    exec (.cnvLocked g) s = .next (((s.setGrp g { s.grp g with
      lockMean := divRound ((s.grp g).lockTags.foldl (fun a o => a + o) 0) 1000, lockBad := 0 }).put
        (CNV_GRP_STAT_LOCKED (g / 3) (g % 3)) 1).raise (evCNV_LOCKED g) g) :=
  if_pos (by simp only [run, mode, pll, first, holds]; rfl)

theorem lockLost_departs {s : State} {g : Nat} (locked : s.get (CNV_GRP_STAT_LOCKED (g / 3) (g % 3)) = 1) (bad : 3 ≤ (s.grp g).lockBad) :
    exec (.lockLost g) s = .next (((((s.put (CNV_GRP_STAT_LOCKED (g / 3) (g % 3)) 0).put (CNV_GRP_STAT_LOCK_LOST (g / 3) (g % 3)) 1).raise
      (evCNV_LOCK_LOST g) g).unfix g).followGroup g) :=
  if_pos (by rw [locked, decide_eq_true bad]; rfl)

/-! ## Survey steps, slice monitors and input enables (R152, R153, R157, R159) -/

/-- The step of an input whose survey has run for the whole dwell. -/
theorem judgeStep_surveys {s : State} {i : Nat} (r : StepRes) (surveys : s.sub (iStat i) 21 20 = 1) (whole : (s.inp i).fresh = false) :
    s.judgeStep i r = if stepAccepted r then (s.writeTrims i (s.sub (iStat i) 31 27) r).stepDone i r
      else ((s.writeTrims i (s.sub (iStat i) 31 27) r).sliceFail i (s.sub (iStat i) 31 27)).offlineFail i (s.sub (iStat i) 31 27)
        ((s.writeTrims i (s.sub (iStat i) 31 27) r).armed 0) true := by
  simp only [State.judgeStep, surveys, whole, ne_eq, not_true_eq_false, Bool.false_eq_true, if_false]

/-- A result that stands alone is that of the group's first input. -/
theorem grpInputs_zip_one {α : Type} (g : Nat) (r : α) : (grpInputs g).zip [r] = [(32 * g, r)] := rfl

/-- The end of a dwell with a result for the group's first input alone, `SURVEY_EN` not cleared in it. -/
theorem surveyStepEnd_one {s v : State} {g : Nat} {r : StepRes} (flows : (s.grp g).flowing = true) (up : s.awake g = true)
    (due : (s.grp g).stepAt + (((s.grp g).dwell * mtMs : Nat) : Int) ≤ s.mt) (judged : v = (s.judgeStep (32 * g) r).stepStart g)
    (goesOn : ((v.answerSteps g [r] (fun k => s.sub (iStat k) 21 20 == 1 && !(s.inp k).fresh)).grp g).surveyStop = false) :
    exec (.surveyStepEnd g [r]) s = .next (v.answerSteps g [r] (fun k => s.sub (iStat k) 21 20 == 1 && !(s.inp k).fresh)) := by
  subst judged
  change execSurveyStepEnd g [r] s = _
  simp only [execSurveyStepEnd, flows, up, decide_eq_false (Int.not_lt.2 due), grpInputs_zip_one, List.foldl_cons, List.foldl_nil, goesOn,
    Bool.not_true, Bool.or_self, Bool.false_eq_true, if_false]

/-- A window in which an in-service slice departs from the others in mean or power, or has a bit that never toggles. -/
theorem sliceMonitorWindow_departs {s : State} {i sl : Nat} {mean power : Int} {loud stuck : Bool}
    (departs : 1600 < mean.natAbs ∨ (300 < power.natAbs ∧ loud = true) ∨ stuck = true) (serves : s.sub (iTrim i sl) 31 29 = 0)
    (flows : (s.grp (inputGroup i)).flowing = true) (enabled : s.sub (iStat i) 16 16 = 1) (alive : s.sub (iStat i) 18 18 = 0) :
    exec (.sliceMonitorWindow i sl mean power loud stuck) s = .next ((s.sliceFail i sl).inServiceFail i sl (s.armed 0) true) := by
  have bad : (decide (1600 < mean.natAbs) || (decide (300 < power.natAbs) && loud) || stuck) = true := by
    simpa only [Bool.or_eq_true, Bool.and_eq_true, decide_eq_true_eq, or_assoc] using departs
  exact if_pos (by simp only [bad, serves, flows, enabled, alive]; rfl)

/-- An input that no slot takes changes its enable at once. -/
theorem stageInput_ungoverned {s : State} {i : Nat} (free : s.governSlot i = none) (action : Nat) (at_ : Option Int) (vals : List SVal)
    (now : State → State) : s.stageInput i action at_ vals now = now s := by
  rw [State.stageInput, free]

theorem inCtlWrite_ungoverned {s u : State} {i : Nat} {w : Wr} {r : Reg} (hr : r = CNV_IN_CTL (i / 96) (i % 96))
    (hu : u = s.mergeRaw r.key w) (reached : w.reaches 0 0 = true) (free : u.governSlot i = none) :
    s.inCtlWrite i w = (u.fwr r (w32 (u.sub r 0 0))).inputEnable i (u.sub r 0 0 == 1) (s.mt * 2 ^ 32) := by
  have mt : u.mt = s.mt := by rw [hu, mergeRaw_mt]
  subst hr
  simp only [State.inCtlWrite, ← hu, reached, if_true, stageInput_ungoverned free, mt]

/-! ## Die links (R161) -/

theorem dieLinkDown_stops {s : State} {d : Nat} (up : s.get (CNV_DIE_STAT_LINK_UP d) ≠ 0) :
    exec (.dieLinkDown d) s = .next ((((((s.put (CNV_DIE_STAT_LINK_UP d) 0).put (CNV_DIE_STAT_LINK_DOWN_SEEN d) 1).raise
      (evCNV_LINK_DOWN d) d).samplesStop (3 * d)).samplesStop (3 * d + 1)).samplesStop (3 * d + 2)) :=
  if_neg up

/-- Every running group of the die is treated as relocked. -/
theorem dieLinkUp_relocks {s : State} {d : Nat} (down : s.get (CNV_DIE_STAT_LINK_UP d) = 0) :
    exec (.dieLinkUp d) s = .next ([0, 1, 2].foldl (fun (a : State) j =>
      if a.get (CNV_GRP_STAT_RUNNING d j) = 1 && a.get (CNV_GRP_STAT_PLL_LOCK d j) = 1 then a.samplesBack (3 * d + j) else a)
      (s.put (CNV_DIE_STAT_LINK_UP d) 1)) :=
  if_neg (by rw [down]; decide)

/-- Settles O19: each command of rows 41 to 54 meets the law of its row above. -/
theorem converterCommandsComplete : Obligations.ConverterCommandsComplete := by
  refine ⟨?refOn, ?refHeld, fun _ _ on up due => cnvRefOk_settles on up due, ?apply,
    fun _ _ running unlocked up => cnvPllLocked_locks running unlocked up, fun _ _ running locked => pllUnlock_stops running locked,
    fun _ _ running unlocked up => pllRelock_locks running unlocked up,
    fun _ _ run mode pll first holds => cnvLocked_reached run mode pll first holds, fun _ _ locked bad => lockLost_departs locked bad,
    ?surveyStep, fun _ _ _ _ _ _ _ departs serves flows enabled alive => sliceMonitorWindow_departs departs serves flows enabled alive,
    ?surveyOff, ?inputEnable, fun _ _ up => dieLinkDown_stops up, fun _ _ down => dieLinkUp_relocks down⟩
  case refOn =>
    intro s g w reached hg hit plain up off on survey
    refine ⟨_, refEnWrite_opens reached, ?_⟩
    rw [grpCtlWrite_refOn rfl hg plain hit up off on survey, setGrp_same]
    exact ⟨rfl, rfl⟩
  case refHeld =>
    intro s g w reached hg plain run was cleared survey
    refine ⟨_, refEnWrite_opens reached, ?_⟩
    rw [grpCtlWrite_held rfl hg plain run was cleared survey, rn_of_rd (refHeld_gCtl hg _), bit_get, State.setSub, get_same (by rfl)]
    exact ⟨grp_of_grps ((raise_grps ..).trans (mergeRaw_grps ..)), rfl⟩
  case apply =>
    intro s g w reached hit steady unheld survey passes
    rw [cnvApply_opens reached, grpCtlWrite_refSteady rfl unheld steady (if_neg (by simp [survey])), hit, if_pos rfl, grpApply_passes passes]
  case surveyStep =>
    rintro s u v g i r flows up due rfl surveys whole rfl rfl goesOn
    exact surveyStepEnd_one flows up due (by rw [judgeStep_surveys r surveys whole]) goesOn
  case surveyOff =>
    intro s g w reached hg plain hit steady unheld was off
    rw [surveyEnWrite_opens reached, grpCtlWrite_refSteady rfl unheld steady (if_pos (by rw [was, off]; rfl)), plain, off, surveyWrite_off]
    rfl
  case inputEnable =>
    intro s i w reached hit free
    exact congrArg Host.Outcome.next ((pfOnly_open reached _).trans (inCtlWrite_ungoverned rfl rfl hit free))

end Sys2Proof.Machine

namespace Sys2Proof.Machine

/-! SUPPORT and the statement of the beams: the commands of rows 68 to 73. -/

/-! ## Sums and waits (R228, R229, R233) -/

/-- A sum that is due, its members' spectra at hand, joins the waits of its beam and uses up the partial of its label. -/
theorem beamSum_due {s : State} {b : Nat} {l : List (Nat × Spectrum × Bool)} (members : s.memberSpectra b (s.beam b).nextJ = some l)
    (due : s.sumDue b = true) :
    exec (.beamSum b) s = .next (({ s.setBeam b { s.beam b with nextJ := (s.beam b).nextJ + 1, waits := (s.beam b).waits ++ [s.beamWait b l] } with
      partials := s.partials.filter (fun p => !(p.beam == b && p.j == (s.beam b).nextJ % 2 ^ 64)) } : State).beamGoes b) := by
  change execBeamSum b s = _
  simp only [execBeamSum, members, due, Bool.not_true, Bool.false_eq_true, if_false]

/-! ## Commits of a range (R230) -/

/-- A write of `BFM_CTL` that asks for a commit reaches it. -/
theorem bfmCommit_opens {s : State} {w : Wr} (o : s.Opens w BFM_CTL.key) (asks : w.hits 0 = true) :
    exec (.bfmCommit w) s = .next s.commitBeams := by
  change Host.Outcome.next (s.pfOnly w BFM_CTL.key (fun s => if w.hits 0 then s.commitBeams else s)) = _
  rw [pfOnly_open o, if_pos asks]

/-- A range that has a grid and passes its checks is staged for the grid's next boundary. -/
theorem commitBeams_passes {s : State} {first last g k : Nat} {l : List (Nat × BeamCfg)} (up : s.awake 81 = true)
    (hfirst : first = s.get BFM_RANGE_FIRST) (hlast : last = s.get BFM_RANGE_LAST)
    (hg : s.rangeGrid (s.shadowRange first last) = some g) (hk : k = s.nextBoundary g)
    (hl : l = (s.shadowRange first last).map (fun e => (e.1, s.cfgAtIdx k e.2)))
    (passes : (s.beamChecks 0 first last g k l).1 = 0) :
    s.commitBeams = ((s.put BFM_STAT_CODE 0).put BFM_STAT_BEAM 0).stageRange g k commitAction l := by
  subst hfirst hlast hk hl
  have checked := not_not_intro passes
  rw [State.nextBoundary] at checked ⊢
  simp only [State.commitBeams, hg, up, Option.getD_some, Bool.not_true, Bool.false_eq_true, if_false, if_neg checked]

/-! ## Failing arrays (R235, R646) -/

/-- An array in service that fails is retired where its policy is armed. -/
theorem bmacFail_serving {s u : State} {a : Nat} (ha : a < 17) (serves : s.get (BFM_ARRAY_STATE a) = 0)
    (hu : u = (s.put (BFM_ARRAY_STATE a) 2).raise evBFM_BMAC_FAIL a) :
    exec (.bmacFail a) s = .next (if u.armed 6 then u.retireBmac a true else u) := by
  subst hu
  change execBmacFail a s = _
  simp [execBmacFail, serves, Nat.not_le.2 ha]

/-- The spare array that fails serves nothing: it is no spare any longer, whatever the policy (log entry 70). -/
theorem bmacFail_spare {s : State} {a : Nat} (ha : a < 17) (spare : s.get (BFM_ARRAY_STATE a) = 1) :
    exec (.bmacFail a) s = .next (((s.put (BFM_ARRAY_STATE a) 2).raise evBFM_BMAC_FAIL a).put (PWR_SPARE_LEFT 6) 0) := by
  change execBmacFail a s = _
  simp [execBmacFail, spare, Nat.not_le.2 ha]

/-! ## Ends of integrations and items (R236, R237, R239) -/

/-- With no sum waiting, the path of a beam has taken every spectrum before the beam's next index. -/
theorem integrationEnd_beam {s : State} {b : Nat} (idle : (s.beam b).waits = []) :
    exec (.integrationEnd b true) s = .next ((s.endIndices (s.beamCfg b) (s.beam b).path (s.beam b).nextJ).1.setBeam b
      { (s.endIndices (s.beamCfg b) (s.beam b).path (s.beam b).nextJ).1.beam b with
        path := (s.endIndices (s.beamCfg b) (s.beam b).path (s.beam b).nextJ).2 }) := by
  change execIntegrationEnd b true s = _
  simp only [execIntegrationEnd, idle, List.head?_nil, if_true]

theorem handItem_oldest {s : State} {x : ReadyItem} {r : List ReadyItem} (items : s.items = x :: r) :
    s.handItem = ({ s with items := r } : State).offerUnit x := by
  rw [State.handItem, items]

/-- Settles O21: each command of rows 68 to 73 meets the law of its row above; a wait's expiry and the end of a slot's integration
meet no condition. -/
theorem beamCommandsComplete : Obligations.BeamCommandsComplete := by
  refine ⟨fun _ _ _ members due => beamSum_due members due, fun _ _ => rfl, ?commit, ?failUnarmed, ?failArmed,
    fun _ _ ha spare => bmacFail_spare ha spare, fun _ _ => rfl, fun _ _ idle => integrationEnd_beam idle,
    fun _ _ _ items => congrArg Host.Outcome.next (handItem_oldest items)⟩
  case commit =>
    intro s w g l o asks up hg hl passes
    rw [bfmCommit_opens o asks, commitBeams_passes up rfl rfl hg rfl hl passes]
  case failUnarmed =>
    intro s a ha serves unarmed
    rw [bmacFail_serving ha serves rfl, if_neg (Bool.eq_false_iff.1 unarmed)]
  case failArmed =>
    intro s a ha serves armed
    rw [bmacFail_serving ha serves rfl, if_pos armed]

end Sys2Proof.Machine

namespace Sys2Proof.Machine

/-! SUPPORT and the statements of the structure front end: its opcodes, and the commands of rows 74 to 87 and 403. -/

/-! ## Staged fields set by opcodes (R250, R251, R256, R257, R542) -/

/-- What a command that sets staged fields of the front end writes into their shadows. -/
def State.feWritten (s : State) (vals : List SVal) : State :=
  (vals.foldl (fun (s : State) v => s.mergeRaw v.key (pf v.val)) s).feCode 0

section
variable {p : Packet} {u w : State} {vals : List SVal} {k : Nat}

section
variable (idle : u.feState = 0) (passes : u.feCheck 2 u.feGridOpt 0 (overlay u.feNext vals) = 0) (hw : w = u.feWritten vals)
include idle passes hw

theorem feSetCmd_idle (same : u.rangeChanges vals = []) (still : w.feState = 0) :
    u.feSetCmd p vals = (w.feApply w.mt 0 vals).sayIdle := by
  subst hw
  rw [State.feWritten] at still ⊢
  simp [State.feSetCmd, idle, passes, same, still]

/-- A change of a range waits for its driver even where the front end is IDLE. -/
theorem feSetCmd_idleWaits (range : u.rangeChanges vals ≠ []) :
    u.feSetCmd p vals = (.later [], ((w.feCommit (actionOf p) (Packet.act p) vals).getD w).sfeDirty) := by
  subst hw
  rw [State.feWritten]
  simp [State.feSetCmd, idle, passes, range]

end

section
variable (inUse : u.feState ≠ 0) (hk : u.stageIndex u.feGrid (Packet.act p) = some k)
  (passes : u.feCheck 2 u.feGridOpt k (overlay u.feNext vals) = 0)
include inUse hk passes

theorem feSetCmd_staged (hw : w = u.feWritten vals) (same : u.rangeChanges vals = []) (still : w.feState ≠ 0) :
    u.feSetCmd p vals = (.staged w.feGrid k [], (w.feStage (actionOf p) (Packet.act p) vals).getD w) := by
  subst hw
  rw [State.feWritten] at still ⊢
  simp [State.feSetCmd, inUse, hk, passes, same, still]

/-- A change of a range in use leaves the shadows until it is staged. -/
theorem feSetCmd_waits (range : u.rangeChanges vals ≠ []) :
    u.feSetCmd p vals = (.later [], ((u.feCode 0).feCommit (actionOf p) (Packet.act p) vals vals).getD u) := by
  simp [State.feSetCmd, inUse, hk, passes, range]

end

/-- A command that names a unit passes on the words that follow. -/
theorem feUnitCmd_passes {max n len : Nat} {regs : Nat → List Reg} (hlen : len = 4 + 4 * (regs n).length)
    (hs : Packet.sized p len = true) (hn : n = Packet.word p 0) (lt : n < max) (hw : Packet.wordsOk p 1 (regs n) = true)
    (hb : p.borough % 32 = 0) (hvals : vals = packetVals p 1 (regs n)) : feUnitCmd max regs p u = u.feSetCmd p vals := by
  subst hlen hn hvals
  rw [feUnitCmd, unitCmd, ownerCmd_passes (by simp only [hs, lt, hw, decide_true, Bool.and_self]) hb]

theorem opFeBlank_passes (hs : Packet.sized p 8 = true) (hw : Packet.wordsOk p 0 [SFE_BLANK, SFE_CM_CFG] = true)
    (hb : p.borough % 32 = 0) (hvals : vals = packetVals p 0 [SFE_BLANK, SFE_CM_CFG]) : opFeBlank p u = u.feSetCmd p vals := by
  subst hvals
  exact ownerCmd_passes (by simp only [hs, hw, Bool.and_self]) hb

variable {c : Instr} {op : Nat} {h : Packet → State → CmdOut × State} {s v : State}

/-- A command that sets fields of the IDLE front end acts at once. -/
theorem Delivers.setsFe (d : Delivers c op true h p) (a : s.Admits op true p) (hu : u = s.begun p) (hset : h p u = u.feSetCmd p vals)
    (idle : u.feState = 0) (passes : u.feCheck 2 u.feGridOpt 0 (overlay u.feNext vals) = 0) (hw : w = u.feWritten vals)
    (same : u.rangeChanges vals = []) (still : w.feState = 0) (hv : v = w.feApply w.mt 0 vals) :
    exec c s = .next (s.answered op p 0 (v.commitRecord 0 0 v.mt) v) :=
  d.answers a hu (by rw [hset, feSetCmd_idle idle passes hw same still, ← hv, sayIdle_eq])

/-- A command that sets fields of the front end in use is staged. -/
theorem Delivers.stagesFe (d : Delivers c op true h p) (a : s.Admits op true p) (hu : u = s.begun p) (hset : h p u = u.feSetCmd p vals)
    (inUse : u.feState ≠ 0) (hk : u.stageIndex u.feGrid (Packet.act p) = some k)
    (passes : u.feCheck 2 u.feGridOpt k (overlay u.feNext vals) = 0) (hw : w = u.feWritten vals) (same : u.rangeChanges vals = [])
    (still : w.feState ≠ 0) :
    exec c s = .next (s.opened op p w.feGrid k [] ((w.feStage (actionOf p) (Packet.act p) vals).getD w)) :=
  d.opens a hu (hset.trans (feSetCmd_staged inUse hk passes hw same still))

end

/-! ## The other opcodes of the front end (R256, R262, R265, R551) -/

section
variable {p : Packet} {u : State} (owner : p.borough % 32 = 0)
include owner

theorem opFeBind_passes {k : Nat} (hs : Packet.sized p 4 = true) (hg : Packet.word p 0 < 8) (valid : u.gridValid (Packet.word p 0) = true)
    (hk : u.stageIndex (Packet.word p 0) (Packet.act p) = some k) (passes : u.feCheck 0 (some (Packet.word p 0)) k u.shadowAt = 0) :
    opFeBind p u = (if u.bindWaits then .later [] else .staged (Packet.word p 0) k [],
      (u.feBind (Packet.word p 0) k (actionOf p) (Packet.act p)).feCode 0) := by
  rw [opFeBind, ownerCmd_passes (by simp [hs, hg]) owner]
  simp [valid, hk, passes]

/-- A front end that is bound, or about to be, meets the first check of a bind, whatever its other parameters. -/
theorem opFeBind_twice (hs : Packet.sized p 4 = true) (hg : Packet.word p 0 < 8) (inUse : u.feState ≠ 0) :
    opFeBind p u = (.now 0x301 [], u.feCode 1) := by
  have state (k : Nat) : u.feCheck 0 (some (Packet.word p 0)) k u.shadowAt = 1 := by simp [State.feCheck, inUse]
  rw [opFeBind, ownerCmd_passes (by simp [hs, hg]) owner]
  simp only [state]
  rfl

theorem opFeUnbind_passes {k : Nat} (hs : Packet.sized p 0 = true) (hk : u.stageIndex u.feGrid (Packet.act p) = some k)
    (passes : u.feCheck 1 (some u.feGrid) k u.shadowAt = 0) :
    opFeUnbind p u = (.staged u.feGrid k [], (u.feUnbind k (actionOf p)).feCode 0) := by
  rw [opFeUnbind, ownerCmd_passes hs owner]
  simp [hk, passes]

theorem opFeUrgent_passes (hs : Packet.sized p 4 = true) (h0 : Packet.arg p 3 1 = 0) (hn : Packet.arg p 0 1 < 16)
    (hch : Packet.arg p 1 1 < 8) (havg : Packet.arg p 2 1 ≤ 8) :
    opFeUrgent p u = (.later [], u.urgRequest (Packet.arg p 0 1)
      ⟨Packet.arg p 1 1, Packet.arg p 2 1, 2, actionOf p, false, false⟩) := by
  rw [opFeUrgent, ownerCmd_passes (by simp [hs, h0, hn, hch, havg]) owner]

theorem opFeRef_passes (hs : Packet.sized p 4 = true) (hen : boolByte (Packet.word p 0) = true)
    (free : Packet.word p 0 ≠ 0 ∨ u.feState ≠ 2) : opFeRef p u = (.now 0 [], u.refCtlWrite (pf (Packet.word p 0))) := by
  have unheld : ¬ ((decide (Packet.word p 0 = 0) && decide (u.feState = 2)) = true) := by
    rw [Bool.and_eq_true, decide_eq_true_eq, decide_eq_true_eq]
    rintro ⟨off, bound⟩
    exact free.elim (· off) (· bound)
  rw [opFeRef, ownerCmd_passes (by rw [hs, hen]; rfl) owner]
  exact if_neg unheld

/-- The reference is held while the front end is BOUND. -/
theorem opFeRef_held (hs : Packet.sized p 4 = true) (off : Packet.word p 0 = 0) (bound : u.feState = 2) :
    opFeRef p u = (.now 0x301 [], u) := by
  rw [opFeRef, ownerCmd_passes (by rw [hs, off]; rfl) owner]
  exact if_pos (by simp [off, bound])

theorem opFeStatus_passes (hs : Packet.sized p 4 = true) (hn : Packet.word p 0 < 16) :
    opFeStatus p u = (.now 0 (u.regWords ([SFE_STAT, PCV_STAT (Packet.word p 0), PCV_SKIPCNT (Packet.word p 0),
      PCV_URGREF (Packet.word p 0)] ++ (List.range 8).map (fun c => SFE_CH_STAT (8 * Packet.word p 0 + c)))), u) := by
  have noWords : Packet.wordsOk p 1 [] = true := rfl
  rw [opFeStatus, unitCmd, ownerCmd_passes (by simp [hs, hn, noWords]) owner]
  rfl

end

/-- Settles O47: the words of a unit and of the blanking obey the laws of staged fields; each other opcode passes its checks and acts. -/
theorem frontEndOpcodesComplete : Obligations.FrontEndOpcodesComplete := by
  have excitation (p : Packet) : Delivers (.feExcitation p) 0x0A03 true (feUnitCmd 32 fun q => [SFE_EXC_CTL q]) p := fun _ => rfl
  have channel (p : Packet) : Delivers (.feChannel p) 0x0A04 true (feUnitCmd 128 fun c => [SFE_CH_CFG c]) p := fun _ => rfl
  have sequence (p : Packet) : Delivers (.feSequence p) 0x0A05 true
    (feUnitCmd 16 fun n => PCV_SEQ_CTL n :: (List.range 16).map fun e => PCV_SEQ n e) p := fun _ => rfl
  have route (p : Packet) : Delivers (.feRoute p) 0x0A06 true (feUnitCmd 16 fun n => [SFE_ROUTE n]) p := fun _ => rfl
  have lin (p : Packet) : Delivers (.feLin p) 0x0A08 true (feUnitCmd 128 fun c => (List.range 24).map fun i => SFE_LIN c i) p :=
    fun _ => rfl
  have blank (p : Packet) : Delivers (.feBlank p) 0x0A07 true opFeBlank p := fun _ => rfl
  have bind (p : Packet) : Delivers (.feBind p) 0x0A01 true opFeBind p := fun _ => rfl
  refine ⟨fun _ _ p _ _ _ _ a hu hs hn lt hw hb hvals => (excitation p).setsFe a hu (feUnitCmd_passes rfl hs hn lt hw hb hvals),
    fun _ _ p _ _ _ _ a hu hs hn lt hw hb hvals => (excitation p).stagesFe a hu (feUnitCmd_passes rfl hs hn lt hw hb hvals),
    fun _ _ p _ _ _ _ a hu hs hn lt hw hb hvals => (channel p).setsFe a hu (feUnitCmd_passes rfl hs hn lt hw hb hvals),
    fun _ _ p _ _ _ _ a hu hs hn lt hw hb hvals => (channel p).stagesFe a hu (feUnitCmd_passes rfl hs hn lt hw hb hvals),
    fun _ _ p _ _ _ _ a hu hs hn lt hw hb hvals => (sequence p).setsFe a hu (feUnitCmd_passes rfl hs hn lt hw hb hvals),
    fun _ _ p _ _ _ _ a hu hs hn lt hw hb hvals => (sequence p).stagesFe a hu (feUnitCmd_passes rfl hs hn lt hw hb hvals),
    fun _ _ p _ _ _ _ a hu hs hn lt hw hb hvals => (route p).setsFe a hu (feUnitCmd_passes rfl hs hn lt hw hb hvals),
    fun _ _ p _ _ _ _ a hu hs hn lt hw hb hvals => (route p).stagesFe a hu (feUnitCmd_passes rfl hs hn lt hw hb hvals),
    fun _ _ p _ _ _ _ a hu hs hn lt hw hb hvals => (lin p).setsFe a hu (feUnitCmd_passes rfl hs hn lt hw hb hvals),
    fun _ _ p _ _ _ _ a hu hs hn lt hw hb hvals => (lin p).stagesFe a hu (feUnitCmd_passes rfl hs hn lt hw hb hvals),
    fun _ _ p _ _ _ a hu hs hw hb hvals => (blank p).setsFe a hu (opFeBlank_passes hs hw hb hvals),
    fun _ _ p _ _ _ a hu hs hw hb hvals => (blank p).stagesFe a hu (opFeBlank_passes hs hw hb hvals),
    ?bind, ?bindWaits, ?rangeIdle, ?range, ?bindTwice, ?unbind, ?urgent, ?ref, ?refHeld, ?status⟩
  case bind =>
    rintro s u p g k a hu hs rfl hg owner valid hk passes settled
    exact (bind p).opens a hu (by rw [opFeBind_passes owner hs hg valid hk passes, settled]; rfl)
  case bindWaits =>
    rintro s u p g k a hu hs rfl hg owner valid hk passes waits
    exact (bind p).completesLater a hu (by rw [opFeBind_passes owner hs hg valid hk passes, waits]; rfl)
  case rangeIdle =>
    intro s u p n vals w a hu hs hn lt hw hb hvals idle passes written range
    have set : feUnitCmd 32 (fun q => [SFE_EXC_CTL q]) p u = _ := feUnitCmd_passes rfl hs hn lt hw hb hvals
    exact (excitation p).completesLater a hu (set.trans (feSetCmd_idleWaits idle passes written range))
  case range =>
    intro s u p n vals k a hu hs hn lt hw hb hvals inUse hk passes range
    have set : feUnitCmd 32 (fun q => [SFE_EXC_CTL q]) p u = _ := feUnitCmd_passes rfl hs hn lt hw hb hvals
    exact (excitation p).completesLater a hu (set.trans (feSetCmd_waits inUse hk passes range))
  case bindTwice =>
    rintro s u p g a hu hs rfl hg owner inUse
    exact (bind p).answers a hu (opFeBind_twice owner hs hg inUse)
  case unbind =>
    intro s u p k a hu hs owner hk passes
    have d : Delivers (.feUnbind p) 0x0A02 true opFeUnbind p := fun _ => rfl
    exact d.opens a hu (opFeUnbind_passes owner hs hk passes)
  case urgent =>
    rintro s u p n ch avg a hu hs rfl rfl rfl h0 hn hch havg owner
    have d : Delivers (.feUrgent p) 0x0A09 false opFeUrgent p := fun _ => rfl
    exact d.completesLater a hu (opFeUrgent_passes owner hs h0 hn hch havg)
  case ref =>
    rintro s u p en a hu hs rfl hen owner free
    have d : Delivers (.feRef p) 0x0A0A false opFeRef p := fun _ => rfl
    exact d.answers a hu (opFeRef_passes owner hs hen free)
  case refHeld =>
    intro s u p a hu hs off owner bound
    have d : Delivers (.feRef p) 0x0A0A false opFeRef p := fun _ => rfl
    exact d.answers a hu (opFeRef_held owner hs off bound)
  case status =>
    rintro s u p n a hu hs rfl hn owner
    have d : Delivers (.feStatus p) 0x0A0B false opFeStatus p := fun _ => rfl
    exact d.answers a hu (opFeStatus_passes owner hs hn)

/-! ## Writes of `SFE_CTL` (R256, R257) -/

section
variable {s m : State} {w : Wr} (hm : m = s.mergeRaw SFE_CTL.key w)
include hm

theorem sfeCtlWrite_bind (bind : w.hits 0 = true) (noUnbind : w.hits 1 = false) (noCommit : w.hits 2 = false)
    (passes : m.feCheck 0 (some (m.get SFE_CTL_GRID)) (m.feIndex (some (m.get SFE_CTL_GRID))) m.shadowAt = 0) :
    s.sfeCtlWrite w = (m.feBind (m.get SFE_CTL_GRID) (m.feIndex (some (m.get SFE_CTL_GRID))) commitAction none).feCode 0 := by
  subst hm
  simp only [State.sfeCtlWrite, bind, noUnbind, noCommit, passes, if_true, Bool.false_eq_true, if_false]

theorem sfeCtlWrite_unbind (noBind : w.hits 0 = false) (unbind : w.hits 1 = true) (noCommit : w.hits 2 = false)
    (passes : m.feCheck 1 (some m.feGrid) (m.feIndex (some m.feGrid)) m.shadowAt = 0) :
    s.sfeCtlWrite w = (m.feUnbind (m.feIndex (some m.feGrid)) commitAction).feCode 0 := by
  subst hm
  simp only [State.sfeCtlWrite, noBind, unbind, noCommit, passes, if_true, Bool.false_eq_true, if_false]

theorem sfeCtlWrite_commit {t : State} (noBind : w.hits 0 = false) (noUnbind : w.hits 1 = false) (commit : w.hits 2 = true)
    (passes : m.feCheck 2 m.feGridOpt (m.feIndex m.feGridOpt) m.shadowAt = 0)
    (commits : m.feCommit commitAction none (m.snapshot sfeKeys) = some t) : s.sfeCtlWrite w = t.feCode 0 := by
  subst hm
  simp only [State.sfeCtlWrite, noBind, noUnbind, commit, passes, commits, Option.getD_some, if_true, Bool.false_eq_true, if_false]

end

section
variable {s : State} {w : Wr} (reached : s.Opens w SFE_CTL.key)
include reached

/-- SFE_BIND, SFE_UNBIND and SFE_COMMIT are one write of `SFE_CTL`. -/
theorem sfeBind_opens : exec (.sfeBind w) s = .next (s.sfeCtlWrite w) := congrArg Host.Outcome.next (pfOnly_open reached _)

theorem sfeUnbind_opens : exec (.sfeUnbind w) s = .next (s.sfeCtlWrite w) := sfeBind_opens reached

theorem sfeCommit_opens : exec (.sfeCommit w) s = .next (s.sfeCtlWrite w) := sfeBind_opens reached

end

/-! ## The outputs that excite (R249 to R253) -/

theorem excRampEnd_due {s : State} {q : Nat} (ramps : s.excState q = 1) (due : (s.exc q).rampFrom + ((200 * mtUs : Nat) : Int) ≤ s.mt) :
    exec (.excRampEnd q) s = .next (s.put (SFE_EXC_STAT_STATE q) 2) :=
  congrArg Host.Outcome.next (if_pos (by rw [decide_eq_true ramps, decide_eq_true due]; rfl))

section
variable {s : State} {q : Nat} (settling : s.isSet (SFE_EXC_STAT_SETTLING q) = true)
include settling

theorem excRangeSettled_unawaited (alone : s.fe.waits = []) :
    exec (.excRangeSettled q) s = .next (s.put (SFE_EXC_STAT_SETTLING q) 0) := by
  change execExcRangeSettled q s = _
  simp [execExcRangeSettled, settling, alone, fe_waits_none s alone]

/-- The only change that waits, and for this output alone, goes on. -/
theorem excRangeSettled_awaited {x : FeWait} (waits : s.fe.waits = [x]) (outs : x.outs = [q]) :
    exec (.excRangeSettled q) s = .next ((({ s with fe := { s.fe with waits := [] } } : State).put (SFE_EXC_STAT_SETTLING q) 0).feSettled
      { x with outs := [] }) := by
  change execExcRangeSettled q s = _
  simp [execExcRangeSettled, settling, waits, outs]

end

/-- An output that leaves current limit, or stays out of it, raises nothing. -/
theorem excLimit_off (s : State) (q : Nat) : s.excLimit q false = s.put (SFE_EXC_STAT_ILIM q) 0 := rfl

/-- The measurement's own writes leave FAULT as it is. -/
theorem sensed_fault (s : State) (q v : Nat) (x : Exc) :
    ((((s.put (SFE_EXC_STAT_SENSE q) v).excLimit q false).setExc q x).isSet (SFE_EXC_STAT_FAULT q)) = s.isSet (SFE_EXC_STAT_FAULT q) := by
  rw [excLimit_off]
  exact isSet_of_get (by rw [State.setExc_get, get_beside (by rfl) (by rfl), get_beside (by rfl) (by rfl)])

section
variable {s : State} {q sense : Nat} (driving : s.excState q = 2)
include driving

/-- A first measurement within the range neither raises FAULT nor ends it. -/
theorem excSenseMeasure_good {u : State} (hu : u = (s.put (SFE_EXC_STAT_SENSE q) (min sense 65535)).excLimit q false)
    (low : 95 * excRange (s.get (SFE_EXC_STAT_RANGE_ACT q)) ≤ 100 * sense)
    (high : 100 * sense ≤ 102 * excRange (s.get (SFE_EXC_STAT_RANGE_ACT q))) (first : (s.exc q).good = 0) :
    exec (.excSenseMeasure q sense false) s = .next (u.setExc q { u.exc q with bad := 0, good := 1 }) := by
  have kept : u.exc q = s.exc q := exc_of (by rw [hu, excLimit_off, State.put_excs, State.put_excs])
  change execExcSenseMeasure q sense false s = _
  simp [execExcSenseMeasure, driving, Nat.not_lt.2 low, Nat.not_lt.2 high, ← hu, kept, first]

/-- The third measurement in a row below the range is a FAULT. -/
theorem excSenseMeasure_faults {u : State} (hu : u = (s.put (SFE_EXC_STAT_SENSE q) (min sense 65535)).excLimit q false)
    (low : 100 * sense < 95 * excRange (s.get (SFE_EXC_STAT_RANGE_ACT q))) (third : (s.exc q).bad = 2)
    (fresh : s.isSet (SFE_EXC_STAT_FAULT q) = false) :
    exec (.excSenseMeasure q sense false) s = .next ((((u.setExc q { s.exc q with bad := 3, good := 0 }).put
      (SFE_EXC_STAT_FAULT q) 1).put (SFE_EXC_STAT_FAULT_SEEN q) 1).raise evSFE_EXC_FAULT q [.w4 sense]) := by
  have kept : u.exc q = s.exc q := exc_of (by rw [hu, excLimit_off, State.put_excs, State.put_excs])
  have noFault (x : Exc) : (u.setExc q x).isSet (SFE_EXC_STAT_FAULT q) = false := by rw [hu, sensed_fault, fresh]
  change execExcSenseMeasure q sense false s = _
  simp [execExcSenseMeasure, driving, low, ← hu, kept, third, noFault]

end

/-! ## Cycles and entries (R258 to R260) -/

theorem pcvCycleStart_due {s : State} {p : Nat} (hp : p < 16) (runs : s.feRuns = true) (enabled : s.fget (PCV_SEQ_CTL_EN p) ≠ 0)
    (due : s.gridInstant s.feGrid (s.pcv p).nextK ≤ s.mt) :
    exec (.pcvCycleStart p) s = .next ((((s.skipEntries p).pcvLeave p).beginCycle p (s.pcv p).nextK).pcvNext p
      (s.gridInstant s.feGrid (s.pcv p).nextK)) := by
  change execPcvCycleStart p s = _
  simp only [execPcvCycleStart, runs, enabled, Int.not_lt.2 due, Nat.not_le.2 hp, Bool.not_true, decide_false, Bool.or_self,
    Bool.false_eq_true, if_false]

/-- An entry that no command asked for. -/
theorem pcvEntryEnd_due {s : State} {p : Nat} {c : List Conv} {r : PcvRun} (runs : (s.pcv p).cur = some r)
    (due : entryEnd r.start r.slot r.avg ≤ s.mt) (all : c.length = 2 ^ r.avg) (unasked : r.src ≠ 2) :
    exec (.pcvEntryEnd p c) s = .next ((((s.pcvResult p r c).2.pcvSend p (pcvBytes (s.pcvResult p r c).1 p)).1.setPcv p
      { ((s.pcvResult p r c).2.pcvSend p (pcvBytes (s.pcvResult p r c).1 p)).1.pcv p with cur := none }).pcvNext p
      (entryEnd r.start r.slot r.avg)) := by
  change execPcvEntryEnd p c s = _
  simp only [execPcvEntryEnd, runs, all, unasked, Int.not_lt.2 due, decide_false, ne_eq, not_true_eq_false, Bool.or_self,
    Bool.false_eq_true, if_false]

/-! ## Urgent requests (R262, R263) -/

/-- `GO` makes a request; a sleeping domain counts it as refused as well. -/
theorem pcvUrgGo_requests {s m : State} {p : Nat} {w : Wr} (reached : s.Opens w (PCV_URG p).key) (go : w.hits 31 = true)
    (hm : m = s.mergeRaw (PCV_URG p).key w) :
    exec (.pcvUrgGo p w) s = .next (((if m.awake 91 then m else m.refuseDom 91).put (PCV_URG_GO p) 1).urgRequest p
      ⟨m.get (PCV_URG_CH p), m.get (PCV_URG_AVG p), 0, 0, false, false⟩) := by
  subst hm
  exact congrArg Host.Outcome.next ((pfOnly_open reached _).trans (if_pos go))

/-- A request of a trigger that is admitted first in its line, outside a pause. -/
theorem urgentArrive_admitted {s t : State} {p : Nat} {x : Pcv} {u : UrgReq} {r : List UrgReq} (hx : s.pcv p = x) (reqs : x.reqs = u :: r)
    (trigger : u.src = 1) (noPause : s.fe.pause = none) (ht : t = s.setPcv p { x with reqs := r }) (passes : t.urgCheck p u = 0)
    (first : x.urg = []) :
    exec (.urgentArrive p) s = .next ((((t.setPcv p { x with reqs := r, urg := [u] }).put (PCV_STAT_URGQ p) 1).urgAbort p).pcvNext p
      s.mt) := by
  have held : t.pcv p = { x with reqs := r } := by rw [ht, pcv_setPcv]
  have pause (y : Pcv) : (t.setPcv p y).fe.pause = none := by rw [ht]; exact noPause
  have mt (y : Pcv) : ((t.setPcv p y).put (PCV_STAT_URGQ p) 1).mt = s.mt := by rw [put_mt, ht]; rfl
  change execUrgentArrive p s = _
  simp only [execUrgentArrive, hx, reqs, ← ht]
  simp [passes, trigger, held, first, pause, mt]

/-! ## The reference (R265) -/

theorem pcvRefEnWrite_on {s : State} {w : Wr} (reached : s.Opens w PCV_REFCTL.key) (lane : w.reaches 0 0 = true) (on : w.hits 0 = true)
    (off : s.isSet PCV_REFCTL_REF_EN = false) :
    exec (.pcvRefEnWrite w) s = .next { s.put PCV_REFCTL_REF_EN 1 with fe := { s.fe with refFrom := s.mt, refOkAt := none } } := by
  have write : s.refCtlWrite w = { s.put PCV_REFCTL_REF_EN 1 with fe := { s.fe with refFrom := s.mt, refOkAt := none } } := by
    simp only [State.refCtlWrite, lane, on, off, Bool.not_true, Bool.false_eq_true, if_false, if_true]
  exact congrArg Host.Outcome.next ((pfOnly_open reached _).trans write)

theorem pcvRefOk_due {s : State} (on : s.isSet PCV_REFCTL_REF_EN = true) (waiting : s.isSet PCV_REFCTL_REF_OK = false)
    (due : s.fe.refFrom + ((10 * mtMs : Nat) : Int) ≤ s.mt) :
    exec .pcvRefOk s = .next (({ s.put PCV_REFCTL_REF_OK 1 with fe := { s.fe with refOkAt := some s.mt } } : State).raise evSFE_REF_OK) :=
  if_neg (by rw [on, waiting, decide_eq_false (Int.not_lt.2 due)]; decide)

/-! ## Pauses (R267, R268) -/

/-- Raising BLANK_PAUSE leaves the converters that run. -/
theorem blankPause_pcvsOn (s : State) (inst : Nat) (det : List Detail) : (s.raise evSFE_BLANK_PAUSE inst det).pcvsOn = s.pcvsOn :=
  have kept := State.raise_keeps (Keeps.refl (compMask eventComps) s) rfl evSFE_BLANK_PAUSE inst det 0 false false false
  pcvsOn_of (kept.force rfl) (kept.staged rfl) (raise_get (by decide) (by decide) (by decide) ..) (kept.fe rfl)

/-- The first pause of a front end that runs no converter. -/
theorem pauseEnd_first {s : State} {x : Pause} {e : Int} (pauses : s.fe.pause = some x) (released : s.feAsserted = false)
    (he : e = x.release + ((s.fget SFE_BLANK_POST * mtUs : Nat) : Int)) (due : e ≤ s.mt) (noneOn : s.pcvsOn = [])
    (first : s.fe.pauseRaised = none) :
    exec .pauseEnd s = .next (({ s with fe := { s.fe with pause := none, pauseRaised := some s.mt } } : State).raise evSFE_BLANK_PAUSE 65535
      [.mt x.start, .w8 (divRound (e - x.start) mtNs)]) := by
  generalize hu : ({ s with fe := { s.fe with pause := none, pauseRaised := some s.mt } } : State) = u
  have idle : u.pcvsOn = [] := by rw [← hu, ← noneOn]; rfl
  have still : (u.raise evSFE_BLANK_PAUSE 65535 [.mt x.start, .w8 (divRound (e - x.start) mtNs)]).pcvsOn = [] := by
    rw [blankPause_pcvsOn, idle]
  subst hu he
  change execPauseEnd s = _
  simp only [execPauseEnd, pauses, released, decide_eq_false (Int.not_lt.2 due), noneOn, first, still, List.foldl_nil, Bool.or_self,
    Bool.false_eq_true, if_false, if_true]

/-! ## Mid-scale checks (R275, R276) -/

/-- A write of another register leaves the policies armed as they are. -/
theorem put_armed {s : State} {f : Fld} {n c : Nat} (h : SYS_POLICY.key ≠ f.reg.key) : (s.put f n).armed c = s.armed c := by
  rw [State.armed, rn_put_reg _ _ _ _ h]
  rfl

theorem pcvFail_armed (s : State) (p c : Nat) (det : List Detail) : (s.raise evSFE_PCV_FAIL p det).armed c = s.armed c := by
  rw [State.armed, rn_of_rd (raise_rd (by decide) (by decide) (by decide) ..)]
  rfl

section
variable {s : State} {p : Nat} {err : Int} (hp : p < 16) (alive : s.isSet (PCV_STAT_DEAD p) = false) (up : s.awake 91 = true)
  (idle : s.pcvIdle p = true) (due : (s.pcv p).midSec ≠ some s.wholeSec)
include hp alive up idle due

theorem pcvMidscaleCheck_good (near : err.natAbs ≤ 32) :
    exec (.pcvMidscaleCheck p err) s = .next (s.setPcv p { s.pcv p with midBad := 0, midSec := some s.wholeSec }) := by
  change execPcvMidscaleCheck p err s = _
  simp [execPcvMidscaleCheck, Nat.not_le.2 hp, alive, up, idle, due, Nat.not_lt.2 near]

/-- The third check in a row that misses mid-scale makes the converter fail; with its policy unarmed it stays in service. -/
theorem pcvMidscaleCheck_fails {t : State} {x : Pcv} (far : 32 < err.natAbs) (hx : s.pcv p = x) (third : 2 ≤ x.midBad)
    (fresh : s.isSet (PCV_STAT_FAILING p) = false) (unarmed : s.armed 7 = false)
    (ht : t = (s.setPcv p { x with midBad := 3, midSec := some s.wholeSec }).put (PCV_STAT_FAILING p) 1) :
    exec (.pcvMidscaleCheck p err) s = .next ((if s.get (PCV_STAT_PHYS p) = 16 then t.put PCV_SPARE_V 2 else t).raise evSFE_PCV_FAIL p
      [.w4 (s.get (PCV_STAT_PHYS p))]) := by
  have capped : min 3 (x.midBad + 1) = 3 := by omega
  have stillFresh (y : Pcv) : (s.setPcv p y).isSet (PCV_STAT_FAILING p) = false := fresh
  have phys : t.get (PCV_STAT_PHYS p) = s.get (PCV_STAT_PHYS p) := by rw [ht, get_beside (by rfl) (by rfl), State.setPcv_get]
  have apart : SYS_POLICY.key ≠ (PCV_STAT p).key := by
    change 64 ≠ 0x140104 + 64 * p
    omega
  have marked : t.armed 7 = false := by rw [ht, put_armed apart]; exact unarmed
  have stays (det : List Detail) : ((if s.get (PCV_STAT_PHYS p) = 16 then t.put PCV_SPARE_V 2 else t).raise evSFE_PCV_FAIL p det).armed 7
      = false := by
    rw [pcvFail_armed, apply_ite (State.armed · 7), put_armed (by decide), marked, ite_self]
  rw [hx] at due
  change execPcvMidscaleCheck p err s = _
  simp only [execPcvMidscaleCheck, Nat.not_le.2 hp, alive, up, idle, hx, due, far, capped, stillFresh, if_true, ← ht, phys, stays,
    decide_false, decide_true, Bool.not_true, Bool.not_false, Bool.and_self, Bool.or_self, Bool.false_eq_true, if_false]

end

/-- Settles O22: each command of rows 74 to 87 and 403 meets the law of its row above. -/
theorem frontEndCommandsComplete : Obligations.FrontEndCommandsComplete := by
  refine ⟨?bind, ?unbind, ?commit, fun _ _ ramps due => excRampEnd_due ramps due,
    fun _ _ settling alone => excRangeSettled_unawaited settling alone,
    fun _ _ _ settling waits outs => excRangeSettled_awaited settling waits outs,
    fun _ _ _ driving low high first => excSenseMeasure_good driving rfl low high first,
    fun _ _ _ driving low third fresh => excSenseMeasure_faults driving rfl low third fresh,
    fun _ _ driven => congrArg Host.Outcome.next (if_neg driven),
    fun _ _ hp runs enabled due => pcvCycleStart_due hp runs enabled due,
    fun _ _ _ _ runs due all unasked => pcvEntryEnd_due runs due all unasked, ?urgent, ?urgentAsleep,
    fun _ _ _ _ reqs trigger noPause passes first => urgentArrive_admitted rfl reqs trigger noPause rfl passes first,
    fun _ _ reached lane on off => pcvRefEnWrite_on reached lane on off, fun _ on waiting due => pcvRefOk_due on waiting due,
    fun _ _ pauses released due noneOn first => pauseEnd_first pauses released rfl due noneOn first, ?fails, ?spareFails,
    fun _ _ _ hp alive up idle due near => pcvMidscaleCheck_good hp alive up idle due near⟩
  case bind =>
    intro s w reached bind noUnbind noCommit passes
    rw [sfeBind_opens reached, sfeCtlWrite_bind rfl bind noUnbind noCommit passes]
  case unbind =>
    intro s w reached noBind unbind noCommit passes
    rw [sfeUnbind_opens reached, sfeCtlWrite_unbind rfl noBind unbind noCommit passes]
  case commit =>
    intro s w t reached noBind noUnbind commit passes commits
    rw [sfeCommit_opens reached, sfeCtlWrite_commit rfl noBind noUnbind commit passes commits]
  case urgent =>
    intro s p w reached go up
    rw [pcvUrgGo_requests reached go rfl, if_pos up]
  case urgentAsleep =>
    intro s p w reached go asleep
    rw [pcvUrgGo_requests reached go rfl, if_neg (Bool.eq_false_iff.1 asleep)]
  case fails =>
    intro s p err hp alive up idle due far third fresh serves unarmed
    rw [pcvMidscaleCheck_fails hp alive up idle due far rfl third fresh unarmed rfl, if_neg serves]
  case spareFails =>
    intro s p err hp alive up idle due far third fresh spare unarmed
    rw [pcvMidscaleCheck_fails hp alive up idle due far rfl third fresh unarmed rfl, if_pos spare, spare]
    rfl

end Sys2Proof.Machine

namespace Sys2Proof.Machine

/-! SUPPORT and the statements of the trim store and the triggers: the TRIG opcodes, and the commands of rows 88 to 101 and 404. -/

/-! ## The TRIG opcodes (R297 to R302, R306 to R308, R550) -/

section
variable {p : Packet} {u : State} (owner : p.borough % 32 = 0)
include owner

section
variable (hs : Packet.sized p 28 = true) (hx : Packet.word p 0 < 64) (hw : Packet.wordsOk p 1 (trgRegs (Packet.word p 0)) = true)
include hs hx hw

/-- An output that is OFF takes all its words, and is armed where they name a mode and pass the checks of R301. -/
theorem opTrigArm_off {v : State} (off : u.get (TRG_OUT_STAT_STATE (Packet.word p 0)) = 0)
    (hv : v = ((trgRegs (Packet.word p 0)).zip (p.params.drop 1)).foldl
      (fun (s : State) (x : Reg × Word) => s.mergeRaw x.1.key ⟨0, 15, x.2⟩) u)
    (mode : v.get (TRG_OUT_CFG_ARM (Packet.word p 0)) ≠ 0) (passes : (v.trgArm (Packet.word p 0)).1 = 0) :
    opTrigArm p u = (.now 0 [], (v.trgArm (Packet.word p 0)).2) := by
  rw [opTrigArm, unitCmd_passes (regs := trgRegs) hs hx hw owner]
  simp only [off, ← hv, mode, passes, ne_eq, not_true_eq_false, if_false, trgStatus, State.say]

theorem opTrigArm_inUse (inUse : u.get (TRG_OUT_STAT_STATE (Packet.word p 0)) ≠ 0) : opTrigArm p u = (.now 0x404 [], u) := by
  rw [opTrigArm, unitCmd_passes (regs := trgRegs) hs hx hw owner]
  exact if_pos inUse

end

theorem opTrigDisarm_passes (hs : Packet.sized p 4 = true) (hx : Packet.word p 0 < 64) :
    opTrigDisarm p u = (.now 0 [], u.trgOff (Packet.word p 0)) :=
  unitCmd_passes (regs := fun _ => []) hs hx rfl owner

section
variable (hs : Packet.sized p 16 = true) (hx : Packet.arg p 0 1 < 64) (h0 : Packet.arg p 2 2 = 0) (hat : mtArgOk p 4 = true)
  (command : u.get (TRG_OUT_CFG_SRC (Packet.arg p 0 1)) = 22)
include hs hx h0 hat command

/-- A trigger for an output of source 22 at the present time. -/
theorem opTrigFire_now (now : Packet.arg p 1 1 = 1) (blank : Packet.arg p 4 12 = 0) :
    opTrigFire p u = (.now 0 (bytesWords (mtBytes u.mt ++ leBytes 4 (b2n (u.get (TRG_OUT_STAT_STATE (Packet.arg p 0 1)) == 1)))),
      u.fireTrig (Packet.arg p 0 1) none) := by
  rw [opTrigFire, ownerCmd_passes (by simp [hs, hx, h0, hat, now, blank, boolByte]) owner]
  simp only [command, now, ne_eq, not_true_eq_false, if_false, if_true, State.say]

/-- A trigger for an output of source 22 at the time named. -/
theorem opTrigFire_at (named : Packet.arg p 1 1 = 0) :
    opTrigFire p u = (.now 0 (bytesWords (mtBytes (mtArg p 4) ++
      leBytes 4 (b2n (u.get (TRG_OUT_STAT_STATE (Packet.arg p 0 1)) == 1)))), u.fireTrig (Packet.arg p 0 1) (some (mtArg p 4))) := by
  rw [opTrigFire, ownerCmd_passes (by simp [hs, hx, h0, hat, named, boolByte]) owner]
  simp only [command, named, ne_eq, not_true_eq_false, Nat.zero_ne_one, if_false, State.say]

end

theorem opTrigSrcSkew_passes (hs : Packet.sized p 8 = true) (hn : Packet.word p 0 < 21)
    (hw : Packet.wordsOk p 1 [TRG_SRC_SKEW (Packet.word p 0)] = true) :
    opTrigSrcSkew p u = (.now 0 [], u.unitWords p [TRG_SRC_SKEW (Packet.word p 0)]) := by
  rw [opTrigSrcSkew]
  exact unitCmd_passes (regs := fun n => [TRG_SRC_SKEW n]) hs hn hw owner

theorem opTrigRing_passes (hs : Packet.sized p 132 = true) (hw : Packet.wordsOk p 0 [TRG_RING_CTL] = true) :
    opTrigRing p u = (.now 0 [], ((List.range 32).foldl (fun (s : State) w => s.wn (TRG_RING_MASK w) (Packet.word p (1 + w)))
      u).ringCtlWrite (pf (Packet.word p 0))) := by
  rw [opTrigRing, ownerCmd_passes (by simp [hs, hw]) owner]
  rfl

/-- A set that no output in use can name, every output being OFF. -/
theorem opTrigCapset_off (hs : Packet.sized p 132 = true) (hn : Packet.word p 0 < 16)
    (off : ∀ x < 64, u.get (TRG_OUT_STAT_STATE x) = 0) :
    opTrigCapset p u = (.now 0 [], (List.range 32).foldl (fun (s : State) w =>
      s.wn (TRG_CAPSET (Packet.word p 0) w) (Packet.word p (1 + w))) u) := by
  have unnamed : (List.range 64).any (fun t => u.get (TRG_OUT_STAT_STATE t) != 0 && u.isSet (TRG_OUT_CFG_CAP_EN t)
      && u.get (TRG_CAP0_SET t) == Packet.word p 0) = false :=
    List.any_eq_false.2 fun t ht => by simp [off t (List.mem_range.1 ht)]
  rw [opTrigCapset, ownerCmd_passes (by simp [hs, hn]) owner]
  simp only [unnamed, Bool.false_eq_true, if_false, State.say]

theorem opTrigStream_off (hs : Packet.sized p 4 = true) (hw : Packet.wordsOk p 0 [TRG_CTL] = true)
    (off : bit (Packet.word p 0) 15 = false) : opTrigStream p u = (.now 0 [], u.mergeRaw TRG_CTL.key (pf (Packet.word p 0))) := by
  rw [opTrigStream, ownerCmd_passes (by simp [hs, hw]) owner]
  simp only [off, Bool.false_and, Bool.false_eq_true, if_false, State.say]

theorem opTrigStatus_passes (hs : Packet.sized p 4 = true) (hx : Packet.word p 0 < 64) :
    opTrigStatus p u = (.now 0 (u.regWords [TRG_OUT_STAT (Packet.word p 0), TRG_OUT_REF (Packet.word p 0), TRG_STAT, TRG_RING_STAT,
      TRG_RING_USED, TRG_RING_HELD]), u) :=
  unitCmd_passes (regs := fun _ => []) hs hx rfl owner

end

/-- Settles O45: each opcode passes its checks and answers at once. -/
theorem triggerOpcodesComplete : Obligations.TriggerOpcodesComplete := by
  refine ⟨?arm, ?armed, ?disarm, ?fire, ?fireAt, ?skew, ?ring, ?capset, ?net, ?stream, ?status⟩
  case arm =>
    rintro s u p x v a hu hs rfl hx hw owner off hv mode passes
    have d : Delivers (.trigArm p) 0x0801 false opTrigArm p := fun _ => rfl
    exact d.answers a hu (opTrigArm_off owner hs hx hw off hv mode passes)
  case armed =>
    rintro s u p x a hu hs rfl hx hw owner inUse
    have d : Delivers (.trigArm p) 0x0801 false opTrigArm p := fun _ => rfl
    exact d.answers a hu (opTrigArm_inUse owner hs hx hw inUse)
  case disarm =>
    rintro s u p x a hu hs rfl hx owner
    have d : Delivers (.trigDisarm p) 0x0802 false opTrigDisarm p := fun _ => rfl
    exact d.answers a hu (opTrigDisarm_passes owner hs hx)
  case fire =>
    rintro s u p x a hu hs rfl hx now h0 hat blank owner command
    have d : Delivers (.trigFire p) 0x0803 false opTrigFire p := fun _ => rfl
    exact d.answers a hu (opTrigFire_now owner hs hx h0 hat command now blank)
  case fireAt =>
    rintro s u p x a hu hs rfl hx named h0 hat owner command
    have d : Delivers (.trigFire p) 0x0803 false opTrigFire p := fun _ => rfl
    exact d.answers a hu (opTrigFire_at owner hs hx h0 hat command named)
  case skew =>
    rintro s u p n a hu hs rfl hn hw owner
    have d : Delivers (.trigSrcSkew p) 0x0804 false opTrigSrcSkew p := fun _ => rfl
    exact d.answers a hu (opTrigSrcSkew_passes owner hs hn hw)
  case ring =>
    intro s u p a hu hs hw owner
    have d : Delivers (.trigRing p) 0x0805 false opTrigRing p := fun _ => rfl
    exact d.answers a hu (opTrigRing_passes owner hs hw)
  case capset =>
    rintro s u p n a hu hs rfl hn owner off
    have d : Delivers (.trigCapset p) 0x0806 false opTrigCapset p := fun _ => rfl
    exact d.answers a hu (opTrigCapset_off owner hs hn off)
  case net =>
    intro s u p a hu hs hw owner
    have d : Delivers (.trigNet p) 0x0807 false opTrigNet p := fun _ => rfl
    exact d.answers a hu (wordCmd_passes hs hw owner)
  case stream =>
    intro s u p a hu hs hw owner off
    have d : Delivers (.trigStream p) 0x0808 false opTrigStream p := fun _ => rfl
    exact d.answers a hu (opTrigStream_off owner hs hw off)
  case status =>
    rintro s u p x a hu hs rfl hx owner
    have d : Delivers (.trigStatus p) 0x0809 false opTrigStatus p := fun _ => rfl
    exact d.answers a hu (opTrigStatus_passes owner hs hx)

/-! ## Pages of the trim store (R284, R285) -/

theorem trimCopy_setTrimCopy_same (s : State) (n c : Nat) (x : TrimCopy) : (s.setTrimCopy n c x).trimCopy n c = x := mapGet_put_same _ _ _ _

theorem trimCopy_setTrimCopy_ne (s : State) {n c d : Nat} (h : d ≠ c) (x : TrimCopy) :
    (s.setTrimCopy n c x).trimCopy n d = s.trimCopy n d := mapGet_put_ne _ _ (by omega) _ _

theorem trimCopy_of {s t : State} (h : t.trimCopies = s.trimCopies) (n c : Nat) : t.trimCopy n c = s.trimCopy n c := by
  rw [State.trimCopy, State.trimCopy, h]

/-- A copy that the loader finds failing no longer passes; one that it finds good stays as it was. -/
theorem trimCopy_found (s : State) (n c : Nat) (bad : Bool) :
    ((if bad then s.setTrimCopy n c { s.trimCopy n c with ok := false } else s).trimCopy n c).ok = ((s.trimCopy n c).ok && !bad) := by
  cases bad with
  | false => exact (Bool.and_true _).symm
  | true => rw [if_pos rfl, trimCopy_setTrimCopy_same, Bool.not_true, Bool.and_false]

theorem trimCopy_found_other (s : State) {n c d : Nat} (h : d ≠ c) (bad : Bool) (x : TrimCopy) :
    (if bad then s.setTrimCopy n c x else s).trimCopy n d = s.trimCopy n d := by
  cases bad with
  | false => rfl
  | true => exact trimCopy_setTrimCopy_ne s h x

/-- The loader chooses between the copies and changes neither. -/
theorem loadPage_trimCopies (s : State) (n : Nat) : (s.loadPage n).trimCopies = s.trimCopies :=
  (State.loadPage_keeps (Keeps.refl (compMask (.trimImg :: eventComps)) s) rfl n).trimCopies rfl

theorem trimPageLoad_due {s a b t : State} {n : Nat} {badA badB : Bool} (fitted : s.pageFitted n = true)
    (loading : s.isSet CAL_STAT_LOAD_DONE = false) (fresh : s.trimLoaded.contains n = false)
    (zeroFirst : n = 0 ∨ s.trimLoaded.contains 0 = true)
    (ha : a = if badA then s.setTrimCopy n 0 { s.trimCopy n 0 with ok := false } else s)
    (hb : b = if badB then a.setTrimCopy n 1 { a.trimCopy n 1 with ok := false } else a)
    (ht : t = { b.loadPage n with trimLoaded := n :: (b.loadPage n).trimLoaded }) :
    exec (.trimPageLoad n badA badB) s = .next (if (List.range 32).all (fun p => !t.pageFitted p || t.trimLoaded.contains p) then
      t.put CAL_STAT_LOAD_DONE 1 else t) := by
  have inOrder : (decide (n ≠ 0) && !s.trimLoaded.contains 0) = false := by
    rcases zeroFirst with rfl | zero
    · rfl
    · rw [zero, Bool.not_true, Bool.and_false]
  subst ha hb ht
  change execTrimPageLoad n badA badB s = _
  simp only [execTrimPageLoad, fitted, loading, fresh, inOrder, Bool.not_true, Bool.or_self, Bool.false_eq_true, if_false]

/-- What a load leaves: the copies as the loader found them, and the page among those loaded. -/
theorem trimPageLoad_finds {s : State} {n : Nat} (badA badB : Bool) (fitted : s.pageFitted n = true)
    (loading : s.isSet CAL_STAT_LOAD_DONE = false) (fresh : s.trimLoaded.contains n = false)
    (zeroFirst : n = 0 ∨ s.trimLoaded.contains 0 = true) :
    ∃ t, exec (.trimPageLoad n badA badB) s = .next t ∧ (t.trimCopy n 0).ok = ((s.trimCopy n 0).ok && !badA) ∧
      (t.trimCopy n 1).ok = ((s.trimCopy n 1).ok && !badB) ∧ t.trimLoaded.contains n = true := by
  generalize ha : (if badA then s.setTrimCopy n 0 { s.trimCopy n 0 with ok := false } else s) = a
  generalize hb : (if badB then a.setTrimCopy n 1 { a.trimCopy n 1 with ok := false } else a) = b
  generalize ht : ({ b.loadPage n with trimLoaded := n :: (b.loadPage n).trimLoaded } : State) = t
  refine ⟨_, trimPageLoad_due fitted loading fresh zeroFirst ha.symm hb.symm ht.symm, ?_⟩
  have copies : (if (List.range 32).all (fun p => !t.pageFitted p || t.trimLoaded.contains p) then t.put CAL_STAT_LOAD_DONE 1
      else t).trimCopies = b.trimCopies := by
    rw [apply_ite State.trimCopies, State.put_trimCopies, ite_self, ← ht]
    exact loadPage_trimCopies b n
  refine ⟨?copyA, ?copyB, ?listed⟩
  case copyA => rw [trimCopy_of copies, ← hb, trimCopy_found_other a (by decide), ← ha, trimCopy_found]
  case copyB => rw [trimCopy_of copies, ← hb, trimCopy_found, ← ha, trimCopy_found_other s (by decide)]
  case listed => rw [apply_ite State.trimLoaded, State.put_trimLoaded, ite_self, ← ht]; simp

/-! ## User measurements (R291) -/

/-- A measurement whose conversions are complete, and which no commit has disturbed. -/
theorem calMeasureDone_complete {s : State} {conv : Nat} {zero ref : List Conv} {temp : Int} {m : CalMeas} {z c : (Int × Bool) × State}
    (runs : s.calMeas.find? (fun m => m.conv == conv) = some m) (zeros : zero.length = 2 ^ m.avg) (refs : ref.length = 2 ^ m.avg)
    (due : m.start + (2 ^ (m.avg + 1) * m.slot : Nat) * slotUnit ≤ s.mt) (idle : (s.dropMeas m.action).calBusy conv = false)
    (hz : z = (s.dropMeas m.action).pcvCodes m.gain (0, 0) zero) (hc : c = z.2.pcvCodes m.gain (0, 0) ref) :
    exec (.calMeasureDone conv zero ref temp) s = .next (if c.1.2 then (c.2.finishCmd m.action 0x315 []).raise evCAL_CALREF_RANGE conv
      else (c.2.finishCmd m.action 0 ([w32 (toBits 32 (meanOf z.1.1 m.avg)), w32 (toBits 32 (meanOf c.1.1 m.avg)),
        w32 (toBits 32 (senseMean (zero ++ ref))), w32 (toBits 32 temp)] ++
          bytesWords (mtBytes (c.2.tickNear (c.2.mt - ((250 * mtNs : Nat) : Int)))))).raise evCAL_USER_MEASURED conv) := by
  change execCalMeasureDone conv zero ref temp s = _
  simp only [execCalMeasureDone, runs, zeros, refs, Int.not_lt.2 due, idle, ← hz, ← hc, ne_eq, not_true_eq_false, decide_false,
    Bool.or_self, Bool.false_eq_true, if_false]
  exact (apply_ite Host.Outcome.next _ _ _).symm

/-! ## Writes of MRAM copies (R293) -/

section
variable {s : State} {j : NvmJob} {r : List NvmJob} (oldest : s.nvm = j :: r)
include oldest

theorem nvmCopyWritten_passes : exec (.nvmCopyWritten true) s = .next (({ s with nvm := r } : State).jobDone j) := by
  change execNvmCopyWritten true s = _
  simp only [execNvmCopyWritten, oldest, if_true]

/-- A first failure is retried. -/
theorem nvmCopyWritten_retries (first : j.retry = false) :
    exec (.nvmCopyWritten false) s = .next (({ s with nvm := { j with retry := true } :: r } : State).bump PWR_MRAM) := by
  change execNvmCopyWritten false s = _
  simp only [execNvmCopyWritten, oldest, first, Bool.not_false, Bool.false_eq_true, if_false, if_true]

end

/-! ## Arming and disarming (R300, R301) -/

/-- A change of STATE that shows on a signal output writes nothing else of the output's status. -/
theorem trgState_stat (s : State) (t st : Nat) {f : Fld} (hf : f.reg = TRG_OUT_STAT t) :
    (s.trgState t st).get f = (s.put (TRG_OUT_STAT_STATE t) st).get f := by
  have apart (n : Nat) : f.reg.key ≠ (MGB_SIG_STAT_TRIG n).reg.key := by
    rw [hf]
    change 0xE1008 + 32 * t ≠ 0x120104 + 16 * n
    omega
  rw [State.trgState, apply_ite (State.get · f), State.showTrgDrive, get_put_reg _ _ _ _ (apart _), ite_self]

theorem trgState_trg (s : State) (t st : Nat) : (s.trgState t st).trg t = s.trg t := by
  have outs : (s.trgState t st).trgOuts = s.trgOuts := (State.trgState_keeps (Keeps.refl (compMask [.regs]) s) rfl t st).trgOuts rfl
  rw [State.trg, outs, ← State.trg]

theorem trg_setTrg (s : State) (t : Nat) (x : TrgOut) : (s.setTrg t x).trg t = x := mapGet_put_same _ _ _ _

theorem putCode_capEn (s : State) (t c : Nat) :
    (s.put (TRG_OUT_STAT_CODE t) c).isSet (TRG_OUT_CFG_CAP_EN t) = s.isSet (TRG_OUT_CFG_CAP_EN t) := by
  have apart : (TRG_OUT_CFG_CAP_EN t).reg.key ≠ (TRG_OUT_STAT_CODE t).reg.key := by
    change 0xE1000 + 32 * t ≠ 0xE1008 + 32 * t
    omega
  exact isSet_of_get (get_put_reg _ _ _ _ apart)

/-- An output without a capture arms and reserves no context. -/
theorem trgArm_passes {s : State} {t : Nat} (passes : s.armCheck t = 0) (noCapture : s.isSet (TRG_OUT_CFG_CAP_EN t) = false) :
    s.trgArm t = (0, ((s.put (TRG_OUT_STAT_CODE t) 0).setTrg t {}).trgState t 1) := by
  simp only [State.trgArm, passes, putCode_capEn, noCapture, ne_eq, not_true_eq_false, Bool.false_eq_true, if_false]

section
variable {s : State} {t : Nat} {w : Wr}

theorem trgCfgWrite_disarms (reached : w.reaches 31 30 = true) (off : bits (merged (s.rn (TRG_OUT_CFG t)) w) 31 30 = 0) :
    s.trgCfgWrite t w = s.trgOff t :=
  if_pos (by rw [reached, off]; rfl)

/-- A write of a mode to an output that is OFF. -/
theorem trgCfgWrite_arms (mode : bits (merged (s.rn (TRG_OUT_CFG t)) w) 31 30 = 1 ∨ bits (merged (s.rn (TRG_OUT_CFG t)) w) 31 30 = 2)
    (off : s.get (TRG_OUT_STAT_STATE t) = 0) : s.trgCfgWrite t w = ((s.mergeRaw (TRG_OUT_CFG t).key w).trgArm t).2 := by
  have named : bits (merged (s.rn (TRG_OUT_CFG t)) w) 31 30 ≠ 0 ∧ bits (merged (s.rn (TRG_OUT_CFG t)) w) 31 30 ≠ 3 := by omega
  simp [State.trgCfgWrite, named, off]

variable (reached : s.Opens w (0xE1000 + 0x20 * t))
include reached

/-- TRG_ARM and TRG_DISARM are one write of `TRG_OUT_CFG`. -/
theorem trgArm_opens : exec (.trgArm t w) s = .next (s.trgCfgWrite t w) := congrArg Host.Outcome.next (pfOnly_open reached _)

theorem trgDisarm_opens : exec (.trgDisarm t w) s = .next (s.trgCfgWrite t w) := trgArm_opens reached

end

/-! ## Re-arming (R303) -/

section
variable {s : State} {t : Nat}

theorem tryRearm_unready (unready : s.rearmReady t = false) : s.tryRearm t = s := if_pos (by rw [unready]; rfl)

variable (ready : s.rearmReady t = true)
include ready

theorem tryRearm_plain (noCapture : s.isSet (TRG_OUT_CFG_CAP_EN t) = false) : s.tryRearm t = s.rearm t := by
  simp only [State.tryRearm, ready, noCapture, Bool.not_true, Bool.not_false, Bool.true_or, Bool.false_eq_true, if_false, if_true]

/-- An output with a capture reserves a free context, no lower output being ready for it. -/
theorem tryRearm_reserves (capture : s.isSet (TRG_OUT_CFG_CAP_EN t) = true) (unreserved : (s.trg t).ctx = false)
    (free : s.get TRG_STAT_FREE ≠ 0)
    (first : (List.range t).any (fun o => s.rearmReady o && s.isSet (TRG_OUT_CFG_CAP_EN o) && !(s.trg o).ctx) = false) :
    s.tryRearm t = ((s.put TRG_STAT_FREE (s.get TRG_STAT_FREE - 1)).setTrg t { s.trg t with ctx := true }).rearm t := by
  simp only [State.tryRearm, ready, capture, unreserved, free, first, Bool.not_true, Bool.or_self, decide_false, Bool.false_eq_true,
    if_false]

end

/-! ## Triggers that reach outputs (R297, R298, R302) -/

section
variable {s : State} {t : Nat} (armed : s.get (TRG_OUT_STAT_STATE t) = 1)
include armed

theorem rearmReady_armed : s.rearmReady t = false := by
  rw [State.rearmReady, armed]
  rfl

theorem offerTo_armed (x : Trig) : s.offerTo t x = s.acceptTrig t x := by
  simp only [State.offerTo, tryRearm_unready (rearmReady_armed armed), armed, if_true]

/-- An ARMED output of source 22 accepts its own trigger, at the present time. -/
theorem fireTrig_armed (command : s.get (TRG_OUT_CFG_SRC t) = 22) :
    s.fireTrig t none = s.acceptTrig t ⟨22, s.mt, s.isSet TB_STATUS_COARSE, 0xFFFF, s.mt⟩ := by
  simp only [State.fireTrig, command, offerTo_armed armed, ne_eq, not_true_eq_false, if_false, Option.getD_none, Option.isNone_none,
    Bool.true_and]

end

theorem trgOutFire_opens {s : State} {t : Nat} {w : Wr} (reached : s.Opens w (0xE1008 + 0x20 * t)) (fires : w.hits 0 = true) :
    exec (.trgOutFire t w) s = .next ((s.mergeRaw (TRG_OUT_STAT t).key w).fireTrig t none) :=
  congrArg Host.Outcome.next ((pfOnly_open reached _).trans (if_pos fires))

theorem triggerOffer_next {s : State} {x : Trig} (next : nextTrig s.trigs = some x) :
    exec .triggerOffer s = .next (({ s with trigs := s.trigs.erase x } : State).offerAll x) := by
  change execTriggerOffer s = _
  simp only [execTriggerOffer, next]

theorem netTriggerRx_listens {s : State} {port : Nat} (listens : s.get TRG_NET_PORT = port) (on : port ≠ 0) (d : List Byte) :
    exec (.netTriggerRx port d) s = .next (s.netTrigger d) :=
  if_neg (by simp [listens, on])

theorem trgNetClr_clears {s : State} {w : Wr} (reached : s.Opens w TRG_NET.key) (clears : w.hits 15 = true) :
    exec (.trgNetClr w) s = .next { s.mergeRaw TRG_NET.key w with netSenders := [] } :=
  congrArg Host.Outcome.next ((pfOnly_open reached _).trans (if_pos clears))

/-! ## Pulses (R304) -/

/-- The last pulse on its pin releases it. -/
theorem trgPulseEnd_last {s : State} {p : Pulse} (ended : s.pulses.find? (fun p => p.on && decide (p.to_ ≤ s.mt)) = some p)
    (last : (s.pulses.erase p).any (fun o => o.on && o.pin == p.pin) = false) :
    exec .trgPulseEnd s = .next (({ s with pulses := s.pulses.erase p } : State).pulsePin p.pin false) := by
  change execTrgPulseEnd s = _
  simp only [execTrgPulseEnd, ended, last, Bool.false_eq_true, if_false]

theorem fixedModeEdge_due {s : State} {p : Pulse} (due : s.pulses.find? (fun p => !p.on && decide (p.from_ ≤ s.mt)) = some p) :
    exec .fixedModeEdge s = .next (({ s with pulses := s.pulses.map (fun o => if o = p then { o with on := true } else o) } :
      State).pulsePin p.pin true) := by
  change execFixedModeEdge s = _
  simp only [execFixedModeEdge, due]

/-! ## Instrument lines (R297, R689) -/

section
variable {s : State} {n : Nat}

/-- The first fall of a line is tagged and offered as the trigger of its source. -/
theorem ilineEdge_firstFall (hn : n < 4) (untouched : mapGet {} n s.ilines = ⟨false, none, false⟩) :
    exec (.ilineEdge n true) s = .next (({ s with ilines := mapPut {} n ⟨true, some s.mt, false⟩ s.ilines } : State).offerTrig (16 + n)
      s.mt (s.isSet TB_STATUS_COARSE)) := by
  change execIlineEdge n true s = _
  simp [execIlineEdge, State.ilineEdge, untouched, hn]

theorem ilineEdge_rise (low : (mapGet {} n s.ilines).low = true) :
    exec (.ilineEdge n false) s = .next { s with ilines := mapPut {} n ⟨false, some s.mt, false⟩ s.ilines } := by
  change execIlineEdge n false s = _
  simp [execIlineEdge, State.ilineEdge, low]

/-- A line that stays low for more than 1 s is said to be stuck, once. -/
theorem ilineStuck_due {t : Int} (low : mapGet {} n s.ilines = ⟨true, some t, false⟩) (long : t + (mtSec : Int) < s.mt) :
    exec (.ilineStuck n) s = .next (({ s with ilines := mapPut {} n ⟨true, some t, true⟩ s.ilines } : State).raise
      evTRG_ILINE_STUCK n) := by
  change execIlineStuck n s = _
  simp [execIlineStuck, low, Int.not_le.2 long]

end

/-! ## Captures (R310) -/

theorem captureClose_ready {s : State} {seq : Nat} {c : Capture} (named : s.captures.find? (fun c => c.seq == seq) = some c)
    (ready : (c.members.all (fun m => m.flags / 16 = 1 || s.memberDone m || s.memberOver m)) = true) :
    exec (.captureClose seq) s = .next (s.closeCapture c) := by
  change execCaptureClose seq s = _
  simp only [execCaptureClose, named, ready, if_true]

/-- Settles O23: each command of rows 88 to 101 and 404 meets the law of its row above. -/
theorem calTriggerCommandsComplete : Obligations.CalTriggerCommandsComplete := by
  refine ⟨fun _ _ badA badB fitted loading fresh zeroFirst => trimPageLoad_finds badA badB fitted loading fresh zeroFirst,
    fun _ _ _ _ _ _ _ _ runs zeros refs due idle hz hc => calMeasureDone_complete runs zeros refs due idle hz hc,
    fun _ _ _ oldest => nvmCopyWritten_passes oldest, fun _ _ _ oldest first => nvmCopyWritten_retries oldest first, ?arm, ?disarm,
    fun _ _ next => triggerOffer_next next, fun _ _ ended last => trgPulseEnd_last ended last, fun _ _ due => fixedModeEdge_due due,
    fun _ _ ready noCapture => congrArg Host.Outcome.next (tryRearm_plain ready noCapture),
    fun _ _ ready capture unreserved free first =>
      congrArg Host.Outcome.next (tryRearm_reserves ready capture unreserved free first),
    fun _ _ hn untouched => ilineEdge_firstFall hn untouched, fun _ _ low => ilineEdge_rise low,
    fun _ _ _ low long => ilineStuck_due low long, fun _ _ d listens on => netTriggerRx_listens listens on d, ?fire,
    fun _ _ reached clears => trgNetClr_clears reached clears, fun _ _ _ named ready => captureClose_ready named ready⟩
  case arm =>
    intro s n w _ reached mode off passes noCapture
    refine ⟨_, trgArm_opens reached, ?_⟩
    rw [trgCfgWrite_arms mode off, trgArm_passes passes noCapture]
    refine ⟨?state, ?code, ?held⟩
    case state => rw [trgState_stat _ _ _ rfl, get_same (by rfl)]
    case code => rw [trgState_stat _ _ _ rfl, get_beside (by rfl) (by rfl), State.setTrg_get, get_same (by rfl)]
    case held => rw [trgState_trg, trg_setTrg]
  case disarm =>
    intro s t w reached mode off
    rw [trgDisarm_opens reached, trgCfgWrite_disarms mode off]
  case fire =>
    intro s t w reached fires command armed
    rw [trgOutFire_opens reached fires, fireTrig_armed armed command]

end Sys2Proof.Machine

namespace Sys2Proof.Machine

/-! SUPPORT and the statement of the raw paths, the capture ring and the tile jobs: the commands of rows 102 to 112. -/

/-! ## The capture ring (R308) -/

/-- A write of `TRG_RING_CTL` while the ring is off trims it to the plots of the new word. -/
theorem ringCtlWrite_fromOff {s : State} {w : Wr} (off : bit (s.rn TRG_RING_CTL) 31 = false) :
    s.ringCtlWrite w = ((s.mergeRaw TRG_RING_CTL.key w).ringTrim (1024 * (s.mergeRaw TRG_RING_CTL.key w).get TRG_RING_CTL_PLOTS)
      (((s.mergeRaw TRG_RING_CTL.key w).ringPlots (fun t => t.live)).length + 1)).showRing := by
  simp only [State.ringCtlWrite, off, Bool.false_and, Bool.false_eq_true, if_false]

theorem ringCtlWrite_opens {s : State} {w : Wr} (reached : s.Opens w TRG_RING_CTL.key) :
    exec (.ringCtlWrite w) s = .next (s.ringCtlWrite w) :=
  congrArg Host.Outcome.next (pfOnly_open reached _)

/-! ## Raw paths (R330) -/

theorem cmpRawWrite_opens {s : State} {n : Nat} {w : Wr} (reached : s.Opens w (0xD1000 + 4 * n)) :
    exec (.cmpRawWrite n w) s = .next (s.rawWrite n w) :=
  congrArg Host.Outcome.next (pfOnly_open reached _)

/-- A write that sets `EN`, or whose `POLICY` is not reserved, meets the rules of R330 with its own word. -/
theorem rawWrite_ownWord {s : State} {n : Nat} {w : Wr} {v : Nat} (hv : v = merged (s.rn (CMP_RAW n)) w / 256 * 256)
    (own : (bit v 31 && !bit (s.rn (CMP_RAW n)) 31) = true ∨ bits v 10 8 ≤ 4) : s.rawWrite n w = (s.rawSet n v).2 := by
  rw [State.rawWrite, ← hv]
  rcases own with sets | plain
  · simp only [sets, Bool.not_true, Bool.false_and, Bool.false_eq_true, if_false]
  · simp only [decide_eq_false (Nat.not_lt.2 plain), Bool.and_false, Bool.false_eq_true, if_false]

section
variable {s : State} {n v : Nat} (changes : setBits v 10 8 0 ≠ setBits (s.rn (CMP_RAW n)) 10 8 0) (free : s.rawBusy n = false)
include changes free

/-- A word without `EN` for a slot that the raw path does not hold releases its compressor. -/
theorem rawSet_releases (off : bit v 31 = false) :
    s.rawSet n v = (some 0, ((s.wn (CMP_RAW n) v).rawRelease n).setAllow (bits (s.rn (CMP_RAW n)) 29 16)) := by
  simp only [State.rawSet, changes, free, off, Bool.false_and, Bool.false_eq_true, if_false]

/-- A word that sets `EN` and passes the checks reserves a compressor. -/
theorem rawSet_assigns (on : bit v 31 = true) (was : bit (s.rn (CMP_RAW n)) 31 = false) (passes : s.rawCheck n v = 0) :
    s.rawSet n v = (some 0, ((s.wn (CMP_RAW n) v).rawAssign n).put (CMP_RAW_STAT_CODE n) 0) := by
  simp only [State.rawSet, changes, free, on, was, passes, Bool.not_false, Bool.and_self, Bool.false_eq_true, ne_eq, not_true_eq_false,
    if_false, if_true]

end

/-! ## Tiles and compressors (R320, R331, R334, R335, R342) -/

theorem closeRec_oldest {s : State} {q f : Nat} {t : RecTile} {r : List (RecTile × Nat)} (o : List Byte)
    (oldest : (s.que q).closing = (t, f) :: r) :
    s.closeRec q o = (s.setQue q { s.que q with closing := r }).offerUnit
      { queue := q, bytes := recordTile o t.bytes.reverse q t.index (t.count.getD 0xFFFFFFFF) f, first := t.index,
        last := t.index + t.bytes.reverse.length - 1, kind := 3 } := by
  simp only [State.closeRec, oldest]

/-- A stalled queue writes its front unit, and says that it resumes where its plot is granted. -/
theorem encResume_stalled {s : State} {q : Nat} {t : Int} (stalled : (s.que q).refused = some t) :
    exec (.encResume q) s = .next (if ((s.writeFront q).que q).refused.isSome then s.writeFront q else (s.writeFront q).encResumed q) := by
  change execEncResume q s = _
  simp only [execEncResume, stalled, Option.isNone_some, Bool.false_eq_true, if_false]
  exact (apply_ite Host.Outcome.next _ _ _).symm

/-- An uncorrectable error where no raw path and no queue has a tile in progress. -/
theorem cmpFault_idle {s : State} (e : Nat) (noPath : s.raws = []) (noQueue : s.quesOn = []) :
    s.cmpFault e = ((s.put (CMP_ENG_STATE e) 2).put CMP_STAT_FAULT_SEEN 1).raise evCMP_ENG_FAULT e := by
  simp only [State.cmpFault, noPath, noQueue, List.foldl_nil]

theorem cmpEngFault_uncorrected (s : State) (e : Nat) : exec (.cmpEngFault ⟨e, false⟩) s = .next (s.cmpFault e) :=
  congrArg Host.Outcome.next (if_neg Bool.false_ne_true)

theorem recShort_tile {s : State} {q : Nat} {t : RecTile} (tile : (s.que q).tile = some t) :
    s.recShort q = s.setQue q { s.que q with tile := none, closing := (s.que q).closing ++ [(t, 1)] } := by
  simp only [State.recShort, tile]

theorem recordTileFlush_due {s : State} {q : Nat} {t : RecTile} (tile : (s.que q).tile = some t) (flushes : s.get (QUE_CFG5_FLUSH q) ≠ 0)
    (due : t.start + ((s.get (QUE_CFG5_FLUSH q) * mtMs : Nat) : Int) ≤ s.mt) : exec (.recordTileFlush q) s = .next (s.recShort q) := by
  change execRecordTileFlush q s = _
  simp only [execRecordTileFlush, tile, decide_eq_false flushes, decide_eq_false (Int.not_lt.2 due), Bool.or_self, Bool.false_eq_true,
    if_false]

/-! ## Tile jobs (R336 to R341) -/

section
variable {s : State} {b : Nat} {w : Wr}

section
variable (sees : w.fn = 0 ∨ w.fn = b) (plain : (s.func w.fn).held = none) (ready : s.shut 0xD8000 = false)
include sees plain ready

/-- A write of a function that sees the job window of borough b, once start-up has ended, reaches the register. -/
theorem jobWindow_opens (f : State → State) (refused : State) :
    (if jobSees w.fn b && !(s.flushHeld w.fn).shut 0xD8000 then f (s.flushHeld w.fn) else refused) = f s := by
  have seen : jobSees w.fn b = true := by simpa only [jobSees, Bool.or_eq_true, decide_eq_true_eq] using sees
  rw [State.flush_none plain, seen, ready]
  rfl

theorem cmpJobPiWrite_opens : exec (.cmpJobPiWrite b w) s = .next (s.jobPiWrite b w) :=
  congrArg Host.Outcome.next (jobWindow_opens sees plain ready (State.jobPiWrite · b w) _)

theorem cmpJobDisable_opens : exec (.cmpJobDisable b w) s = .next (s.jobCtlWrite b w) :=
  congrArg Host.Outcome.next (jobWindow_opens sees plain ready (State.jobCtlWrite · b w) _)

/-- CMP_JOB_MORE and CMP_JOB_ABORT are one write of `CMP_JOB_STAT`. -/
theorem cmpJobMore_opens : exec (.cmpJobMore b w) s = .next (s.jobStatWrite b w) :=
  congrArg Host.Outcome.next (jobWindow_opens sees plain ready (State.jobStatWrite · b w) _)

theorem cmpJobAbort_opens : exec (.cmpJobAbort b w) s = .next (s.jobStatWrite b w) := cmpJobMore_opens sees plain ready

end

theorem jobPiWrite_fits (fits : (s.mergeRaw (CMP_JOB_PI b).key w).jobsOut b ≤ 2 ^ s.get (CMP_JOB_CTL_SIZE b)) :
    s.jobPiWrite b w = (s.mergeRaw (CMP_JOB_PI b).key w).dxFill :=
  if_neg (Nat.not_lt.2 fits)

theorem jobPiWrite_overfills (excess : 2 ^ s.get (CMP_JOB_CTL_SIZE b) < (s.mergeRaw (CMP_JOB_PI b).key w).jobsOut b) :
    s.jobPiWrite b w = s.raise evCMP_PI_BAD b [] b :=
  if_pos excess

/-- A write of `CMP_JOB_CTL` of a ring that is disabled. -/
theorem jobCtlWrite_fromOff (off : bit (s.rn (CMP_JOB_CTL b)) 31 = false) :
    s.jobCtlWrite b w = (s.mergeRaw (CMP_JOB_CTL b).key w).dxFill := by
  simp only [State.jobCtlWrite, off, Bool.false_and, Bool.false_eq_true, if_false]

/-- Disabling a ring writes nothing of its `CMP_JOB_CI`. -/
theorem jobDisabled_ci : (s.put (CMP_JOB_CTL_EN b) 0).get (CMP_JOB_CI_V b) = s.get (CMP_JOB_CI_V b) := by
  have apart : (CMP_JOB_CI_V b).reg.key ≠ (CMP_JOB_CTL_EN b).reg.key := by
    change 0xD8014 + 256 * b ≠ 0xD8000 + 256 * b
    omega
  exact get_put_reg _ _ _ _ apart

/-- A ring without a head job in work is disabled and no descriptor is completed. -/
theorem jobCtlWrite_disables (was : bit (s.rn (CMP_JOB_CTL b)) 31 = true) (off : bit (merged (s.rn (CMP_JOB_CTL b)) w) 31 = false)
    (unsuspended : s.isSet (CMP_JOB_STAT_SUSPENDED b) = false) (idle : s.isSet (CMP_JOB_STAT_RUNNING b) = false) :
    s.jobCtlWrite b w = ((s.put (CMP_JOB_CTL_EN b) 0).dxDone b).mergeRaw (CMP_JOB_CTL b).key w := by
  simp only [State.jobCtlWrite, was, off, unsuspended, idle, jobDisabled_ci, Bool.and_false, Bool.or_self, Bool.false_eq_true, if_false,
    if_true]

/-- A decompressor that serves a ring with no job in memory takes the descriptor it reads as a new job. -/
theorem jobDecode_fresh {d : Nat} (desc src : List Byte) (served : s.dxOf b = some d) (wants : s.jobWants b = true)
    (fresh : s.jobs = []) :
    exec (.jobDecode b 0 desc src) s = .next (s.jobRun b 0
      { desc := desc, src := src, bufAt := leNat ((desc.drop 16).take 8), bufLen := leNat ((desc.drop 24).take 4) }) := by
  change execJobDecode b 0 desc src s = _
  have noJob : mapGet none b (s.jobs.map (fun e => (e.1, some e.2))) = none := by rw [fresh]; rfl
  have noError : ¬ 0 = 5 := by decide
  simp only [execJobDecode, noError, if_false, served, wants, noJob, Option.isNone_some, Bool.not_true, Bool.or_self, Bool.false_eq_true]

theorem jobStatWrite_more (noAbort : w.hits 0 = false) (more : w.hits 1 = true) : s.jobStatWrite b w = s.jobMore b := by
  simp only [State.jobStatWrite, noAbort, more, Bool.false_eq_true, if_false, if_true]

theorem jobStatWrite_abort (abort : w.hits 0 = true) (noMore : w.hits 1 = false) : s.jobStatWrite b w = s.jobAbort b := by
  simp only [State.jobStatWrite, abort, noMore, Bool.false_eq_true, if_false, if_true]

theorem jobAbort_running (enabled : s.isSet (CMP_JOB_CTL_EN b) = true) (waiting : s.jobsOut b ≠ 0)
    (running : s.isSet (CMP_JOB_STAT_RUNNING b) = true) : s.jobAbort b = s.jobEnd b 6 0 0 :=
  if_pos (by simp only [enabled, waiting, running, ne_eq, not_false_eq_true, decide_true, Bool.or_true, Bool.and_self])

end

/-- Settles O24: each command of rows 102 to 112 meets the law of its row above. -/
theorem contourCommandsComplete : Obligations.ContourCommandsComplete := by
  refine ⟨?ring, ?release, ?assign, fun _ _ _ => rfl, fun _ _ o _ _ _ oldest => congrArg Host.Outcome.next (closeRec_oldest o oldest),
    fun _ _ _ stalled => encResume_stalled stalled, ?engine, fun _ _ => rfl, ?flush, ?fits, ?overfills, ?enable, ?disable,
    fun _ _ _ desc src served wants fresh => jobDecode_fresh desc src served wants fresh, ?more, ?abort⟩
  case ring =>
    intro s w reached off
    rw [ringCtlWrite_opens reached, ringCtlWrite_fromOff off]
  case release =>
    intro s n w reached free _ off policy changes
    rw [cmpRawWrite_opens reached, rawWrite_ownWord rfl (.inr policy), rawSet_releases changes free off]
  case assign =>
    intro s n w reached free was on passes changes
    have sets := (Bool.and_eq_true _ _).mpr ⟨on, (Bool.not_eq_true' _).mpr was⟩
    rw [cmpRawWrite_opens reached, rawWrite_ownWord rfl (.inl sets), rawSet_assigns changes free on was passes]
  case engine =>
    intro s e noPath noQueue
    rw [cmpEngFault_uncorrected, cmpFault_idle e noPath noQueue]
  case flush =>
    intro s q t tile flushes due
    rw [recordTileFlush_due tile flushes due, recShort_tile tile]
  case fits =>
    intro s b w sees plain ready fits
    rw [cmpJobPiWrite_opens sees plain ready, jobPiWrite_fits fits]
  case overfills =>
    intro s b w sees plain ready excess
    rw [cmpJobPiWrite_opens sees plain ready, jobPiWrite_overfills excess]
  case enable =>
    intro s b w sees plain ready off
    rw [cmpJobDisable_opens sees plain ready, jobCtlWrite_fromOff off]
  case disable =>
    intro s b w sees plain ready was off unsuspended idle
    rw [cmpJobDisable_opens sees plain ready, jobCtlWrite_disables was off unsuspended idle]
  case more =>
    intro s b w sees plain ready noAbort more
    rw [cmpJobMore_opens sees plain ready, jobStatWrite_more noAbort more]
  case abort =>
    intro s b w sees plain ready abort noMore enabled waiting running
    rw [cmpJobAbort_opens sees plain ready, jobStatWrite_abort abort noMore, jobAbort_running enabled waiting running]

end Sys2Proof.Machine

namespace Sys2Proof.Machine

/-! SUPPORT and the statements of the queues and the plots: the QUEUE and PLOT opcodes, and the commands of rows 113 to 127. -/

/-! ## The QUEUE opcodes (R351 to R353, R548, R562, R573 to R575) -/

/-- A command on a queue that the sender holds; only the hub's owner names a queue of the rings (R539, R562). -/
theorem queCmd_passes {ok : Bool} {p : Packet} {q : Nat} {u : State} {f : State → CmdOut × State} (hk : ok = true) (hq : q < 16384)
    (held : u.get (QUE_CFG0_BOROUGH q) = p.borough % 32) (may : p.borough % 32 = 0 ∨ q < 16128) : queCmd ok p q u f = f u := by
  have named : (decide (p.borough % 32 ≠ 0) && decide (16128 ≤ q)) = false := by
    rcases may with owner | plain
    · simp [owner]
    · simp [plain]
  rw [queCmd, holderCmd_passes (by simp [hk, hq]) (by simp [held])]
  simp only [named, Bool.false_eq_true, if_false]

/-- DISABLE of a queue that is ON and that no writer names. -/
theorem queDisable_passes {u : State} {q : Nat} (on : u.get (QUE_STAT_STATE q) = 1) (unnamed : u.queInUse q = false) :
    u.queDisable q = (0, (u.put (QUE_STAT_CODE q) 0).queDrain q) := by
  simp only [State.queDisable, on, unnamed, ne_eq, not_true_eq_false, Bool.false_eq_true, if_false]

/-- FLUSH of a queue that is not OFF and that no writer names. -/
theorem queFlush_passes {u : State} {q : Nat} (inUse : u.get (QUE_STAT_STATE q) ≠ 0) (unnamed : u.queInUse q = false) :
    u.queFlush q = ((0, ((u.put (QUE_STAT_CODE q) 0).queEmpty q).1), ((u.put (QUE_STAT_CODE q) 0).queEmpty q).2) := by
  simp only [State.queFlush, inUse, unnamed, Bool.false_eq_true, if_false]

section
variable {p : Packet} {u : State}

section
variable (hs : Packet.sized p 28 = true) (hw : Packet.wordsOk p 1 (queRegs (Packet.word p 0)) = true) (hq : Packet.word p 0 < 16384)
  (held : u.get (QUE_CFG0_BOROUGH (Packet.word p 0)) = p.borough % 32)
include hs hw hq held

/-- A queue that is OFF takes all its words. -/
theorem opQueueConfig_off
    (may : p.borough % 32 = 0 ∨ Packet.word p 0 < 16128 ∧ u.tenantQueueOk (p.borough % 32) (Packet.word p 1) = true)
    (off : u.get (QUE_STAT_STATE (Packet.word p 0)) = 0) :
    opQueueConfig p u = (.now 0 [], u.queWords p (queRegs (Packet.word p 0))) := by
  have keeps : (decide (p.borough % 32 ≠ 0) && !u.tenantQueueOk (p.borough % 32) (Packet.word p 1)) = false := by
    rcases may with owner | ⟨-, kept⟩
    · simp [owner]
    · simp [kept]
  rw [opQueueConfig, queCmd_passes (by simp [hs, hw]) hq held (may.imp_right And.left)]
  simp only [keeps, off, Bool.false_eq_true, if_false, if_true, State.say]

/-- A queue that is in use takes `WEIGHT` and `MAX`, every other field being written as it stands. -/
theorem opQueueConfig_inUse (owner : p.borough % 32 = 0) (inUse : u.get (QUE_STAT_STATE (Packet.word p 0)) ≠ 0)
    (cfg0 : bits (Packet.word p 1) 31 8 = bits (u.rn (QUE_CFG0 (Packet.word p 0))) 31 8)
    (cfg1 : Packet.word p 2 = u.rn (QUE_CFG1 (Packet.word p 0))) (cfg3 : Packet.word p 4 = u.rn (QUE_CFG3 (Packet.word p 0)))
    (cfg4 : Packet.word p 5 = u.rn (QUE_CFG4 (Packet.word p 0))) (cfg5 : Packet.word p 6 = u.rn (QUE_CFG5 (Packet.word p 0)))
    (weight : bits (Packet.word p 1) 7 0 ≠ 0) :
    opQueueConfig p u = (.now 0 [], (u.put (QUE_CFG0_WEIGHT (Packet.word p 0)) (bits (Packet.word p 1) 7 0)).put
      (QUE_CFG2_MAX (Packet.word p 0)) (bits (Packet.word p 3) 22 0)) := by
  have same : ([1, 3, 4, 5] : List Nat).all (fun i => Packet.word p (1 + i) ==
      u.rn ((queRegs (Packet.word p 0)).getD i (QUE_CFG0 (Packet.word p 0)))) = true := by
    simp [queRegs, cfg1, cfg3, cfg4, cfg5]
  rw [opQueueConfig, queCmd_passes (by simp [hs, hw]) hq held (.inl owner)]
  simp only [owner, inUse, cfg0, same, weight, ne_eq, not_true_eq_false, decide_false, Bool.false_and, Bool.not_true, Bool.or_self,
    Bool.false_eq_true, if_false, State.say]

end

section
variable (hs : Packet.sized p 4 = true) (hq : Packet.word p 0 < 16128)
  (held : u.get (QUE_CFG0_BOROUGH (Packet.word p 0)) = p.borough % 32)
include hs hq held

/-- The opcodes whose one parameter is the number of a queue. -/
theorem queCmd_plain {f : State → CmdOut × State} : queCmd (Packet.sized p 4) p (Packet.word p 0) u f = f u :=
  queCmd_passes hs (Nat.lt_trans hq (by decide)) held (.inr hq)

theorem opQueueEnable_passes (passes : (u.queEnable (Packet.word p 0)).1 = 0) :
    opQueueEnable p u = (.now 0 [], (u.queEnable (Packet.word p 0)).2) := by
  rw [opQueueEnable, queCmd_plain hs hq held]
  simp only [passes, queStatus, State.say]

theorem opQueueDisable_passes (on : u.get (QUE_STAT_STATE (Packet.word p 0)) = 1) (unnamed : u.queInUse (Packet.word p 0) = false) :
    opQueueDisable p u = (.now 0 [], (u.put (QUE_STAT_CODE (Packet.word p 0)) 0).queDrain (Packet.word p 0)) := by
  rw [opQueueDisable, queCmd_plain hs hq held, queDisable_passes on unnamed]
  simp only [queStatus, State.say]

theorem opQueueFlush_passes {r : Nat × State} (inUse : u.get (QUE_STAT_STATE (Packet.word p 0)) ≠ 0)
    (unnamed : u.queInUse (Packet.word p 0) = false)
    (hr : r = (u.put (QUE_STAT_CODE (Packet.word p 0)) 0).queEmpty (Packet.word p 0)) :
    opQueueFlush p u = (.now 0 (bytesWords (leBytes 8 r.1)), r.2) := by
  rw [opQueueFlush, queCmd_plain hs hq held, queFlush_passes inUse unnamed, ← hr]
  rfl

end

theorem opQueueChain_passes {l : List Nat} (hs : Packet.sized p 12 = true) (h0 : Packet.arg p 10 2 = 0) (atLeast : 1 ≤ Packet.arg p 8 2)
    (atMost : Packet.arg p 8 2 ≤ 500) (hq : Packet.word p 0 < 16384) (held : u.get (QUE_CFG0_BOROUGH (Packet.word p 0)) = 0)
    (owner : p.borough % 32 = 0)
    (hl : l = (((u.que (Packet.word p 0)).chain.filter (fun x => x != holePlot)).drop (Packet.arg p 4 4)).take (Packet.arg p 8 2)) :
    opQueueChain p u = (.now 0 (w32 l.length :: bytesWords (l.flatMap (fun x => leBytes 8 (u.cadastre x)))), u) := by
  rw [opQueueChain, queCmd_passes (by simp [hs, h0, atLeast, atMost]) hq (held.trans owner.symm) (.inl owner), ← hl]
  rfl

/-- A delivery ring that no queue of the sender's names is set, or disabled with a size of 0. -/
theorem opQueueDeliver_passes (hs : Packet.sized p 16 = true) (h0 : Packet.arg p 3 1 = 0) (h0' : Packet.arg p 14 2 = 0)
    (hi : Packet.arg p 0 2 < 4096) (aligned : Packet.arg p 4 8 % 4096 = 0)
    (size : Packet.arg p 2 1 = 0 ∨ 4 ≤ Packet.arg p 2 1 ∧ Packet.arg p 2 1 ≤ 18)
    (vec : Packet.arg p 12 2 = 0xFFFF ∨ Packet.arg p 12 2 < vecCount (p.borough % 32))
    (unnamed : u.ringNamed (p.borough % 32) (Packet.arg p 0 2) = false) :
    opQueueDeliver p u = (.now 0 [],
      u.deliverySet (p.borough % 32) (Packet.arg p 0 2) (Packet.arg p 2 1) (Packet.arg p 4 8) (Packet.arg p 12 2)) := by
  have vector : (decide (Packet.arg p 12 2 ≠ 0xFFFF) && decide (vecCount (p.borough % 32) ≤ Packet.arg p 12 2)) = false := by
    rcases vec with noVector | inRange
    · simp [noVector]
    · simp [inRange]
  rw [opQueueDeliver, anyCmd_passes (by simpa [hs, h0, h0', hi, aligned] using size)]
  simp only [vector, unnamed, Bool.false_eq_true, if_false, State.say]

theorem opPlotEscape_fits {v : State} (hs : Packet.sized p 4 = true) (hw : Packet.wordsOk p 0 [PLT_ESC] = true)
    (owner : p.borough % 32 = 0) (fits : u.escSet (bits (Packet.word p 0) 31 24) (bits (Packet.word p 0) 22 0) = some v) :
    opPlotEscape p u = (.now 0 [], v) := by
  rw [opPlotEscape, ownerCmd_passes (by simp [hs, hw]) owner]
  simp only [fits, State.say]

end

/-- Settles O43: each opcode passes its checks and answers at once. -/
theorem queueOpcodesComplete : Obligations.QueueOpcodesComplete := by
  refine ⟨?config, ?configInUse, ?enable, ?disable, ?flush, ?status, ?chain, ?deliver, ?plots, ?escape, ?low, ?counters⟩
  case config =>
    rintro s u p q a hu hs hw rfl hq held may off
    have d : Delivers (.queueConfig p) 0x0501 false opQueueConfig p := fun _ => rfl
    exact d.answers a hu (opQueueConfig_off hs hw hq held may off)
  case configInUse =>
    rintro s u p q v a hu hs hw rfl hq held owner inUse rfl cfg0 cfg1 cfg3 cfg4 cfg5 weight
    have d : Delivers (.queueConfig p) 0x0501 false opQueueConfig p := fun _ => rfl
    exact d.answers a hu (opQueueConfig_inUse hs hw hq (held.trans owner.symm) owner inUse cfg0 cfg1 cfg3 cfg4 cfg5 weight)
  case enable =>
    rintro s u p q a hu hs rfl hq held passes
    have d : Delivers (.queueEnable p) 0x0502 false opQueueEnable p := fun _ => rfl
    exact d.answers a hu (opQueueEnable_passes hs hq held passes)
  case disable =>
    rintro s u p q a hu hs rfl hq held on unnamed
    have d : Delivers (.queueDisable p) 0x0503 false opQueueDisable p := fun _ => rfl
    exact d.answers a hu (opQueueDisable_passes hs hq held on unnamed)
  case flush =>
    rintro s u p q r a hu hs rfl hq held inUse unnamed hr
    have d : Delivers (.queueFlush p) 0x0504 false opQueueFlush p := fun _ => rfl
    exact d.answers a hu (opQueueFlush_passes hs hq held inUse unnamed hr)
  case status =>
    rintro s u p q a hu hs rfl hq held owner
    have d : Delivers (.queueStatus p) 0x0505 false opQueueStatus p := fun _ => rfl
    exact d.answers a hu (by rw [opQueueStatus, queCmd_passes hs hq (held.trans owner.symm) (.inl owner)]; rfl)
  case chain =>
    rintro s u p q n l a hu hs h0 rfl rfl atLeast atMost hq held owner hl
    have d : Delivers (.queueChain p) 0x0506 false opQueueChain p := fun _ => rfl
    exact d.answers a hu (opQueueChain_passes hs h0 atLeast atMost hq held owner hl)
  case deliver =>
    rintro s u p i size base vec a hu hs h0 h0' rfl rfl rfl rfl hi aligned hsize hvec unnamed
    have d : Delivers (.queueDeliver p) 0x0507 false opQueueDeliver p := fun _ => rfl
    exact d.answers a hu (opQueueDeliver_passes hs h0 h0' hi aligned hsize hvec unnamed)
  case plots =>
    intro s u p a hu hs
    have d : Delivers (.plotStatus p) 0x0601 false opPlotStatus p := fun _ => rfl
    exact d.answers a hu (by rw [opPlotStatus, anyCmd_passes hs]; rfl)
  case escape =>
    intro s u p v a hu hs hw owner fits
    have d : Delivers (.plotEscape p) 0x0602 false opPlotEscape p := fun _ => rfl
    exact d.answers a hu (opPlotEscape_fits hs hw owner fits)
  case low =>
    intro s u p a hu hs hw owner
    have d : Delivers (.plotLow p) 0x0603 false opPlotLow p := fun _ => rfl
    exact d.answers a hu (ownerCmd_passes (by simp only [hs, hw, Bool.and_self]) owner)
  case counters =>
    intro s u p a hu hs owner
    have d : Delivers (.plotCounters p) 0x0604 false opPlotCounters p := fun _ => rfl
    exact d.answers a hu (ownerCmd_passes hs owner)

/-! ## Writes of `QUE_CTL` (R351 to R353) -/

section
variable {s : State} {w : Wr}

section
variable (reached : s.Opens w 0xC0004)
include reached

/-- QUE_ENABLE, QUE_DISABLE and QUE_FLUSH are one write of `QUE_CTL`. -/
theorem queEnable_opens : exec (.queEnable w) s = .next (s.queCtlWrite (s.get (QUE_SEL_V 0)) w) := by
  have opened : exec (.queEnable w) s = .next (s.queCtlWrite (s.queSel w.fn) w) := congrArg Host.Outcome.next (pfOnly_open reached _)
  rwa [reached.1] at opened

theorem queDisable_opens : exec (.queDisable w) s = .next (s.queCtlWrite (s.get (QUE_SEL_V 0)) w) := queEnable_opens reached

theorem queFlush_opens : exec (.queFlush w) s = .next (s.queCtlWrite (s.get (QUE_SEL_V 0)) w) := queEnable_opens reached

end

variable {q : Nat}

theorem queCtlWrite_enable (enable : w.hits 0 = true) (noDisable : w.hits 1 = false) (noFlush : w.hits 2 = false) :
    s.queCtlWrite q w = (s.queEnable q).2 := by
  simp [State.queCtlWrite, enable, noDisable, noFlush, b2n]

theorem queCtlWrite_disable (noEnable : w.hits 0 = false) (disable : w.hits 1 = true) (noFlush : w.hits 2 = false) :
    s.queCtlWrite q w = (s.queDisable q).2 := by
  simp [State.queCtlWrite, noEnable, disable, noFlush, b2n]

theorem queCtlWrite_flush (noEnable : w.hits 0 = false) (noDisable : w.hits 1 = false) (flush : w.hits 2 = true) :
    s.queCtlWrite q w = (s.queFlush q).2 := by
  simp [State.queCtlWrite, noEnable, noDisable, flush, b2n]

/-- A code in `QUE_STAT` leaves `REC` of the queue. -/
theorem putQueCode_rec (s : State) (q c : Nat) : (s.put (QUE_STAT_CODE q) c).isSet (QUE_CFG0_REC q) = s.isSet (QUE_CFG0_REC q) := by
  have apart : (QUE_CFG0_REC q).reg.key ≠ (QUE_STAT_CODE q).reg.key := by
    change 0xC0008 + 0x100000000 * q ≠ 0xC0020 + 0x100000000 * q
    omega
  exact isSet_of_get (get_put_reg _ _ _ _ apart)

/-- A queue without `REC` that passes the checks is ON, and loads no engine. -/
theorem queEnable_passes (passes : s.enableCheck q = 0) (plain : s.isSet (QUE_CFG0_REC q) = false) :
    s.queEnable q = (0, (((((({ s.put (QUE_STAT_CODE q) 0 with
      quesOn := q :: s.quesOn, rxs := s.rxs.filter (fun r => r.2.queue != q) } : State).setQue q {}).put (QUE_STAT_STATE q) 1).setAllow
        q).showQue q).raise evQUE_Q_ON q).grantSync q) := by
  simp only [State.queEnable, passes, putQueCode_rec, plain, State.put_quesOn, State.put_rxs, ne_eq, not_true_eq_false, Bool.false_eq_true,
    if_false]

end

/-! ## Requests of plots (R356, R358, R366) -/

/-- The writer of a queue whose tail is full asks for a plot; a compressor that is refused one stalls. -/
theorem plotRequest_asks {s : State} {q : Nat} (needs : s.needsPlot q = true) (ready : (s.que q).refused = none) :
    exec (.plotRequest q) s = .next (if (s.askPlot q).1 then (s.askPlot q).2
      else if (s.askPlot q).2.dataQueue q then (s.askPlot q).2.encStall q else (s.askPlot q).2) := by
  change execPlotRequest q s = _
  simp only [execPlotRequest, needs, ready, Option.isSome_none, Bool.not_true, Bool.or_self, Bool.false_eq_true, if_false]
  rcases s.askPlot q with ⟨granted, s1⟩
  cases granted <;> rfl

section
variable {s s1 : State} {q : Nat} {t : Int} (waits : (s.que q).refused = some t)
include waits

/-- A refused writer that asks again and is granted a plot: the packets or replies of a ring go on (R525). -/
theorem plotRetry_granted (granted : s.askPlot q = (true, s1)) :
    exec (.plotRetry q) s = .next (if 16128 ≤ q then s1.ringRetry q else s1) := by
  change execPlotRetry q s = _
  simp only [execPlotRetry, waits, granted, Option.isNone_some, Bool.false_eq_true, if_false]

theorem plotRetry_refused (refused : s.askPlot q = (false, s1)) : exec (.plotRetry q) s = .next s1 := by
  change execPlotRetry q s = _
  simp only [execPlotRetry, waits, refused, Option.isNone_some, Bool.false_eq_true, if_false]

/-- For a queue that is none of a ring the answer changes nothing more. -/
theorem plotRetry_plain (plain : q < 16128) : exec (.plotRetry q) s = .next (s.askPlot q).2 := by
  rcases h : s.askPlot q with ⟨granted, s1⟩
  cases granted with
  | true => rw [plotRetry_granted waits h, if_neg (Nat.not_le.2 plain)]
  | false => exact plotRetry_refused waits h

end

/-- The packets of a command ring go on. -/
theorem ringRetry_cmd (s : State) (b r : Nat) : s.ringRetry (cmdQueue b r) = s.settle := by
  have even : cmdQueue b r % 2 ≠ 1 := by rw [cmdQueue]; omega
  simp only [State.ringRetry, even, if_false]

/-- The replies of a completion ring go on. -/
theorem ringRetry_cpl (s : State) (b : Nat) {r : Nat} (hr : r < 4) :
    s.ringRetry (cplQueue b r) = (s.cplSend b r (s.cring b r).replies).settle := by
  have odd : cplQueue b r % 2 = 1 := by rw [cplQueue]; omega
  have borough : (cplQueue b r - 16128) / 8 = b := by rw [cplQueue]; omega
  have ring : (cplQueue b r - 16128) % 8 / 2 = r := by rw [cplQueue]; omega
  simp only [State.ringRetry, odd, borough, ring, if_true]

/-! ## Units and plots (R354, R360, R372) -/

theorem unitWrite_ready {s : State} {q : Nat} (ready : (s.que q).refused = none) :
    exec (.unitWrite q) s = .next ((s.eventFeed q).writeStep q) :=
  if_neg (by rw [ready]; decide)

/-- The oldest copy completes while its queue still holds the old plot: the new one takes its place in the chain. -/
theorem plotCopyDone_held {s u : State} {c : PlotCopy} {r : List PlotCopy} (oldest : s.copies = c :: r)
    (held : (s.que c.queue).chain.contains c.old = true)
    (hu : u = ({ s with copies := r } : State).put (PLT_USED_V (s.get (QUE_CFG0_BOROUGH c.queue)))
      (s.get (PLT_USED_V (s.get (QUE_CFG0_BOROUGH c.queue))) + 1)) :
    exec .plotCopyDone s = .next ((((u.setPlot c.new { u.plot c.new with fill := (u.plot c.old).fill }).setQue c.queue
      { s.que c.queue with chain := (s.que c.queue).chain.map (fun p => if p = c.old then c.new else p) }).freePlot c.old).showQue
        c.queue) := by
  subst hu
  change execPlotCopyDone s = _
  rw [execPlotCopyDone, oldest]
  exact if_pos held

section
variable {s : State} {id : Nat} (off : Nat) (notRetired : (s.plot id).state ≠ 4) (notSpare : (s.plot id).state ≠ 5)
include notRetired notSpare

theorem plotEccError_uncorrectable : exec (.plotEccError id off true) s = .next (((((s.draw 256).2.hurtPlot id off
    (s.draw 256).1).weakPlot id).put PLT_STAT_ECC_SEEN 1).raise evPLT_PLOT_ECC (s.plot id).owner [.w8 off, .w8 off]) := by
  change execPlotEccError id off true s = _
  simp only [execPlotEccError, notRetired, notSpare, decide_false, Bool.or_self, Bool.false_eq_true, if_false, if_true]

/-- The first corrected error of a plot opens its hour, and does not make the plot failing. -/
theorem plotEccError_firstCorrected (first : (s.plot id).errs = 0) :
    exec (.plotEccError id off false) s = .next (s.setPlot id { s.plot id with errs := 1, hour := s.mt }) := by
  have few : ¬ 16 < 1 := by decide
  change execPlotEccError id off false s = _
  simp only [execPlotEccError, notRetired, notSpare, first, few, decide_true, decide_false, Bool.true_or, Bool.false_and, Bool.or_self,
    Bool.false_eq_true, if_false, if_true]

end

/-! ## Egress (R362 to R364) -/

/-- Deficit round robin over no queue serves none. -/
theorem drr_noQueue (s : State) (k cut fuel : Nat) (x : Sched) : s.drr k cut [] fuel x = none := by
  cases fuel with
  | zero => rfl
  | succ fuel =>
    cases cur : x.cur with
    | none => simp only [State.drr, cur, nextAfter, List.head?_nil]
    | some q =>
      simp only [State.drr, cur, nextAfter, List.contains_nil, List.find?_nil, List.head?_nil, Bool.false_and, Bool.false_eq_true,
        if_false]

section
variable {s : State} {k : Nat} (pick cut : Nat) (hk : k ≤ 40)
include hk

/-- The one queue that a scheduler can serve is an express queue: it sends. -/
theorem egressFrame_oneExpress {q : Nat} {ready : List Nat} (hready : ready = sortNat (s.quesOn.filter (fun q => s.readyOn k q cut)))
    (one : ready = [q]) (opens : s.wayOpen q ((s.wayOf k q).getD 3) = true) (express : s.egressClass q = 0) :
    exec (.egressFrame k pick cut) s = .next ((s.setSched k { s.sched k with
      deficits := (s.sched k).deficits.filter (fun e => ready.contains e.1) }).sendFrame q ((s.wayOf k q).getD 3) cut) := by
  have known : ¬ 40 < k := Nat.not_lt.2 hk
  change execEgressFrame k pick cut s = _
  subst one
  simp only [execEgressFrame, known, ← hready, opens, express, List.filter_cons, List.filter_nil, List.foldl_nil, List.length_singleton,
    List.getD_cons_zero, Nat.mod_one, beq_self_eq_true, Bool.not_true, Bool.false_eq_true, if_false, if_true]

/-- A scheduler with no queue ON and no host frame to send forgets the deficits. -/
theorem egressFrame_idle (noQueue : s.quesOn = []) (noHost : (List.range 16).filter (fun m => s.hostReady k m) = []) :
    exec (.egressFrame k pick cut) s = .next (s.setSched k { s.sched k with deficits := [] }) := by
  have known : ¬ 40 < k := Nat.not_lt.2 hk
  have noneReady : sortNat (s.quesOn.filter (fun q => s.readyOn k q cut)) = [] := by rw [noQueue]; rfl
  have forgotten : (s.sched k).deficits.filter (fun e => ([] : List Nat).contains e.1) = [] :=
    List.filter_eq_nil_iff.2 fun _ _ => Bool.false_ne_true
  change execEgressFrame k pick cut s = _
  simp only [execEgressFrame, known, noneReady, noHost, forgotten, drr_noQueue, List.filter_nil, List.foldl_nil, List.length_nil,
    Nat.add_zero, ne_eq, not_true_eq_false, if_false]

end

/-- The head of a queue has waited 1 ms on its host ring, which is up. -/
theorem egressStall_hostRing {s : State} {q : Nat} {t : Int} (waits : (s.que q).waits = some t) (on : s.quesOn.contains q = true)
    (host : s.get (QUE_CFG4_DEST q) = 0) (up : s.wayUp q 3 = true) (refused : s.egressRefused q = true)
    (unsaid : (s.que q).stallSaid = false) (due : t + (mtMs : Int) ≤ s.mt) :
    exec (.egressStall q) s = .next (((s.setQue q { s.que q with stallSaid := true }).put (QUE_STAT_STALL_SEEN q) 1).raise
      evQUE_HOST_FULL q) := by
  change execEgressStall q s = _
  simp only [execEgressStall, waits, on, host, up, refused, unsaid, due, decide_true, Bool.and_self, Bool.or_true, Bool.not_false,
    if_true]

/-! ## Post queues and monitors (R384 to R389) -/

section
variable {s : State} {n : Nat} (part : Bool) {w : Wr}

theorem pqFlush_opens (reached : s.Opens w (0x2000 + 16 * n)) (hn : n < 256) :
    exec (.pqFlush n part w) s = .next (s.pqCtlWrite n part w) :=
  congrArg Host.Outcome.next ((pfOnly_open reached _).trans (if_pos hn))

/-- A write of `FLUSH` that leaves `POLICY` and `ORDER` as they are. -/
theorem pqCtlWrite_flushes (flush : w.hits 31 = true) (policy : bit (merged (s.rn (SYS_PQ_CTL n)) w) 29 = bit (s.rn (SYS_PQ_CTL n)) 29)
    (order : bit (merged (s.rn (SYS_PQ_CTL n)) w) 30 = bit (s.rn (SYS_PQ_CTL n)) 30) :
    s.pqCtlWrite n part w = (s.wn (SYS_PQ_CTL n) (setBits (setBits (setBits (merged (s.rn (SYS_PQ_CTL n)) w) 29 29
      (b2n (bit (s.rn (SYS_PQ_CTL n)) 29))) 30 30 (b2n (bit (s.rn (SYS_PQ_CTL n)) 30))) 31 31 0 % 2 ^ 32 / 2 ^ 29 * 2 ^ 29)).pqFlush n
        part := by
  simp only [State.pqCtlWrite, flush, policy, order, bne_self_eq_false, Bool.and_false, Bool.or_self, Bool.false_eq_true, if_false,
    if_true]

end

/-- The oldest pop that stalls on a queue has waited its limit. -/
theorem popStallTimeout_due {s : State} {n : Nat} {x : PopWait} (oldest : s.stalledPop n = some x)
    (due : x.at_ + stallTicks * s.get SYS_POST_STALL_LIMIT ≤ s.tb.fc) :
    exec (.popStallTimeout n) s = .next (((s.popResume n).zeroWords (popReg n).1 (popReg n).2).emit (.readDone x.fn (popReg n).1
      (leBytes 4 0x80000000))) := by
  change execPopStallTimeout n s = _
  simp only [execPopStallTimeout, oldest, Nat.not_lt.2 due, if_false]

theorem sysPqMonPop_queued {s : State} {j : Nat} (unheld : (s.func 0).held = none) (queued : mapGet [] j s.monQ ≠ []) :
    exec (.sysPqMonPop 0 j) s = .next (s.popMon 0 j) := by
  change execSysPqMonPop 0 j s = _
  simp only [execSysPqMonPop, State.flush_none unheld, List.isEmpty_eq_false_iff.2 queued, ne_eq, not_true_eq_false,
    Bool.false_eq_true, if_false]

/-- A monitor takes one snapshot at each microsecond that is a multiple of its period. -/
theorem monSnapshot_due {s : State} {j : Nat} (hj : j < 223) (on : s.isSet (SYS_PQ_MON_CFG_EN j) = true)
    (periodic : s.get (SYS_PQ_MON_CFG_PERIOD j) ≠ 0)
    (due : ((mtParts s.mt).1 * 1000000 + (mtParts s.mt).2.1 / 1000) % s.get (SYS_PQ_MON_CFG_PERIOD j) = 0)
    (fresh : s.monTaken j = false) : exec (.monSnapshot j) s = .next (s.monSnap j) :=
  congrArg Host.Outcome.next (if_pos (by simp [hj, on, periodic, due, fresh]))

/-! ## Roundabouts (R395 to R406) -/

/-- A lane of a roundabout that is awake uses its grant, its losers wait, and it decides under the settings in force. -/
theorem arbDecision_awake {s : State} {k l : Nat} {lines : List ArbReq} (bad : Bool) (hk : k < 68)
    (hl : l < Config.arbLanes (Config.arbClass k)) (awake : s.isSet (ARB_STAT_ASLEEP k) = false) (known : ∀ a ∈ lines, a.r < arbN k) :
    exec (.arbDecision k l lines bad) s = .next (((s.arbCycle k l lines).arbLines k l (bits ((s.arb k l).inForce k).ctl 27 16)
      lines).arbDecide k l ((s.arb k l).inForce k)
        ((lines.filter (fun a => !(a.last && !a.fresh && (s.arb k l).grant == some a.r))).map (fun a => a.r)) bad) := by
  have noneUnknown : lines.any (fun a => decide (arbN k ≤ a.r)) = false :=
    List.any_eq_false.2 fun a ha => by simp [known a ha]
  exact if_neg (by simp [Nat.not_le.2 hk, Nat.not_le.2 hl, awake, noneUnknown])

/-- Settles O25: each command of rows 113 to 127 meets the law of its row above. The retry of a queue of a ring follows the model's log
entry 77, the end of a stalled pop and the snapshots of a monitor its entry 75. -/
theorem queueCommandsComplete : Obligations.QueueCommandsComplete := by
  refine ⟨?enable, ?enablePlain, ?disable, ?flush, fun _ _ needs ready => plotRequest_asks needs ready,
    fun _ _ _ waits plain => plotRetry_plain waits plain, ?retryCmd, ?retryCpl,
    fun _ _ _ _ waits refused => plotRetry_refused waits refused,
    fun _ _ ready => unitWrite_ready ready, fun _ _ _ _ oldest held hu => plotCopyDone_held oldest held hu,
    fun _ _ pick cut _ _ hk hready one opens express => egressFrame_oneExpress pick cut hk hready one opens express,
    fun _ _ pick cut hk noQueue noHost => egressFrame_idle pick cut hk noQueue noHost,
    fun _ _ _ waits on host up refused unsaid due => egressStall_hostRing waits on host up refused unsaid due,
    fun _ _ off notRetired notSpare => plotEccError_uncorrectable off notRetired notSpare,
    fun _ _ off notRetired notSpare first => plotEccError_firstCorrected off notRetired notSpare first, ?flushPq,
    fun _ _ _ oldest due => popStallTimeout_due oldest due, fun _ _ unheld queued => sysPqMonPop_queued unheld queued,
    fun _ _ hj on periodic due fresh => monSnapshot_due hj on periodic due fresh,
    fun _ _ _ _ bad hk hl awake known => arbDecision_awake bad hk hl awake known⟩
  case enable =>
    intro s w reached enable noDisable noFlush
    rw [queEnable_opens reached, queCtlWrite_enable enable noDisable noFlush]
  case enablePlain =>
    rintro s w q reached enable noDisable noFlush rfl passes plain
    rw [queEnable_opens reached, queCtlWrite_enable enable noDisable noFlush, queEnable_passes passes plain]
  case disable =>
    intro s w reached noEnable disable noFlush on unnamed
    rw [queDisable_opens reached, queCtlWrite_disable noEnable disable noFlush, queDisable_passes on unnamed]
  case flush =>
    intro s w reached noEnable noDisable flush inUse unnamed
    rw [queFlush_opens reached, queCtlWrite_flush noEnable noDisable flush, queFlush_passes inUse unnamed]
  case retryCmd =>
    intro s s1 b r t _ _ waits granted
    rw [plotRetry_granted waits granted, if_pos (by rw [cmdQueue]; omega), ringRetry_cmd]
  case retryCpl =>
    intro s s1 b r t _ hr waits granted
    rw [plotRetry_granted waits granted, if_pos (by rw [cplQueue]; omega), ringRetry_cpl _ _ hr]
  case flushPq =>
    intro s n part w reached hn flush policy order
    exact ⟨_, pqFlush_opens part reached hn, pqCtlWrite_flushes part flush policy order⟩

end Sys2Proof.Machine

namespace Sys2Proof.Machine

/-! SUPPORT and the statements of the lanes and the Spaxa links: the commands of rows 128 to 163, and BLOCK_TX. -/

/-! ## What a sheet and a link keep -/

theorem sheet_setSheet (s : State) (sh : Nat) (x : Sheet) : (s.setSheet sh x).sheet sh = x := mapGet_put_same _ _ _ _

theorem lnk_setLnk (s : State) (sh : Nat) (x : Link) : (s.setLnk sh x).lnk sh = x := mapGet_put_same _ _ _ _

theorem lnk_of_links {s t : State} (same : t.links = s.links) (sh : Nat) : t.lnk sh = s.lnk sh := by rw [State.lnk, State.lnk, same]

theorem lnk_put (s : State) (f : Fld) (v sh : Nat) : (s.put f v).lnk sh = s.lnk sh := lnk_of_links (State.put_links s f v) sh

/-- A stage that a lane enters is no part of the link. -/
theorem stageTo_links (s : State) (sh st l : Nat) : (s.stageTo sh st l).links = s.links := by
  rw [State.stageTo, State.put_links, State.setSheet_links]

/-! ## Writes of `LNE_SHEET_CTL` (R417, R433, R435) -/

section
variable {s u : State} {sh : Nat} {w : Wr}

section
variable (reached : s.Opens w (0x300000 + 0x4000 * sh)) (hsh : sh < 40)
include reached hsh

/-- SHEET_START, SHEET_STOP, SHEET_SUB and NARROW_WRITE are one write of `LNE_SHEET_CTL`. -/
theorem sheetStart_opens : exec (.sheetStart sh w) s = .next (s.sheetCtlWrite sh w) :=
  congrArg Host.Outcome.next ((pfOnly_open reached _).trans (if_pos hsh))

theorem sheetStop_opens : exec (.sheetStop sh w) s = .next (s.sheetCtlWrite sh w) := sheetStart_opens reached hsh

theorem sheetSub_opens : exec (.sheetSub sh w) s = .next (s.sheetCtlWrite sh w) := sheetStart_opens reached hsh

theorem narrowWrite_opens : exec (.narrowWrite sh w) s = .next (s.sheetCtlWrite sh w) := sheetStart_opens reached hsh

end

section
variable (stopped : bit (s.rn (LNE_SHEET_CTL sh)) 26 = false)
  (hu : u = s.mergeRaw (LNE_SHEET_CTL sh).key (Wr.keep w (s.rn (LNE_SHEET_CTL sh)) 26 26))
include stopped hu

/-- START of a stopped sheet, which has no field locked. -/
theorem sheetCtlWrite_starts (start : bit (merged (s.rn (LNE_SHEET_CTL sh)) w) 26 = true) (noNarrow : w.hits 19 = false)
    (noSub : w.hits 18 = false) :
    s.sheetCtlWrite sh w = (u.sheetStart sh (bits (merged (s.rn (LNE_SHEET_CTL sh)) w) 29 27)).2 := by
  subst hu
  simp only [State.sheetCtlWrite, stopped, start, noNarrow, noSub, Bool.false_and, Bool.not_false, Bool.true_and, Bool.false_eq_true,
    if_false, if_true]

variable (still : bit (merged (s.rn (LNE_SHEET_CTL sh)) w) 26 = false)
include still

theorem sheetCtlWrite_substitutes (noNarrow : w.hits 19 = false) (sub : w.hits 18 = true) :
    s.sheetCtlWrite sh w = (u.subst sh (bits (merged (s.rn (LNE_SHEET_CTL sh)) w) 22 20) false none).2 := by
  subst hu
  simp only [State.sheetCtlWrite, stopped, still, noNarrow, sub, Bool.false_and, Bool.and_false, Bool.false_eq_true, if_false, if_true]

theorem sheetCtlWrite_narrows (narrow : w.hits 19 = true) (noSub : w.hits 18 = false) :
    s.sheetCtlWrite sh w = (u.narrow sh (bits (merged (s.rn (LNE_SHEET_CTL sh)) w) 22 20)).2 := by
  subst hu
  simp only [State.sheetCtlWrite, stopped, still, narrow, noSub, Bool.false_and, Bool.and_false, Bool.false_eq_true, if_false, if_true]

end

/-- START cleared by a write that leaves every locked field of the running sheet as it was. -/
theorem sheetCtlWrite_stops {fs : List (Nat × Nat)} (runs : bit (s.rn (LNE_SHEET_CTL sh)) 26 = true)
    (stop : bit (merged (s.rn (LNE_SHEET_CTL sh)) w) 26 = false) (noNarrow : w.hits 19 = false) (noSub : w.hits 18 = false)
    (hfs : fs = [(31, 30), (29, 27), (25, 25), (23, 23), (17, 14), (13, 0)])
    (kept : ∀ f ∈ fs, bits (merged (s.rn (LNE_SHEET_CTL sh)) w) f.1 f.2 = bits (s.rn (LNE_SHEET_CTL sh)) f.1 f.2)
    (hu : u = s.mergeRaw (LNE_SHEET_CTL sh).key (Wr.keep (fs.foldl (fun (w : Wr) f => Wr.keep w (s.rn (LNE_SHEET_CTL sh)) f.1 f.2) w)
      (s.rn (LNE_SHEET_CTL sh)) 26 26)) : s.sheetCtlWrite sh w = u.sheetStop sh := by
  have unchanged : fs.any (fun f => bits (merged (s.rn (LNE_SHEET_CTL sh)) w) f.1 f.2 != bits (s.rn (LNE_SHEET_CTL sh)) f.1 f.2) = false :=
    List.any_eq_false.2 fun f hf => by simp [kept f hf]
  subst hu
  simp only [State.sheetCtlWrite, ← hfs, runs, stop, noNarrow, noSub, unchanged, Bool.and_false, Bool.not_false, Bool.and_self,
    Bool.false_eq_true, if_false, if_true]

end

/-! ## Bring-up (R416, R418 to R423) -/

section
variable {s : State} {sh l : Nat}

theorem laneDetectDone_detects (up : s.sheetAwake sh = true) (detect : s.laneState sh l = 2) (signal : s.isSet (LNE_STAT_LOS sh l) = false)
    (settled : s.losSettled sh l = true) (long : s.inStage sh l (10 * mtUs) = true) :
    exec (.laneDetectDone sh l) s = .next (s.stageTo sh 3 l) :=
  congrArg Host.Outcome.next (if_pos (by simp only [up, detect, signal, settled, long, decide_true, Bool.not_false, Bool.and_self]))

theorem laneLockDone_locks (up : s.sheetAwake sh = true) (lock : s.laneState sh l = 3) :
    exec (.laneLockDone sh l) s = .next ((s.stageTo sh 4 l).put (LNE_STAT_LOL sh l) 0) :=
  congrArg Host.Outcome.next (if_pos (by simp only [up, lock, decide_true, Bool.and_self]))

/-- Without a search the peaking of `LNE_CTL` is taken. -/
theorem laneEqDone_fixed (m : List Nat) (up : s.sheetAwake sh = true) (equalise : s.laneState sh l = 4)
    (noSearch : s.isSet (LNE_SHEET_CTL_EQ_SEARCH sh) = false) (long : s.inStage sh l 0 = true) :
    exec (.laneEqDone sh l m) s = .next (if s.sheetState sh = 3
      then ((s.put (LNE_STAT_PEAK_ACT sh l) (s.get (LNE_CTL_PEAK sh l))).stageTo sh 8 l).genStart sh l
      else (s.put (LNE_STAT_PEAK_ACT sh l) (s.get (LNE_CTL_PEAK sh l))).stageTo sh 5 l) := by
  have tries : s.eqTries sh l = 0 := if_neg (Bool.eq_false_iff.1 noSearch)
  change execLaneEqDone sh l m s = _
  simp only [execLaneEqDone, up, equalise, tries, long, Nat.zero_mul, Nat.not_lt_zero, ne_eq, not_true_eq_false, decide_false,
    Bool.not_true, Bool.or_self, Bool.false_eq_true, if_false, if_true]

/-- A search takes the best of the settings that it has tried. -/
theorem laneEqDone_search {u : State} {p sp n : Nat} {m : List Nat} (up : s.sheetAwake sh = true) (equalise : s.laneState sh l = 4)
    (search : s.isSet (LNE_SHEET_CTL_EQ_SEARCH sh) = true) (hp : s.get (LNE_CTL_PEAK sh l) = p)
    (hsp : s.get (LNE_SHEET_CTL_EQ_SPAN sh) = sp) (hn : n = min 48 (p + sp) + 1 - (p - sp)) (tried : n ≠ 0) (given : n ≤ m.length)
    (long : s.inStage sh l (n * 500 * mtUs) = true) (hu : u = s.put (LNE_STAT_PEAK_ACT sh l) (bestPeak (p - sp) (m.take n))) :
    exec (.laneEqDone sh l m) s = .next (if s.sheetState sh = 3 then (u.stageTo sh 8 l).genStart sh l else u.stageTo sh 5 l) := by
  have tries : s.eqTries sh l = n := by rw [hn, ← hp, ← hsp]; exact if_pos search
  subst hu
  change execLaneEqDone sh l m s = _
  simp only [execLaneEqDone, up, equalise, tries, long, hp, hsp, tried, Nat.not_lt.2 given, ne_eq, not_true_eq_false, decide_false,
    Bool.not_true, Bool.or_self, Bool.false_eq_true, if_false]

/-- A lane recognises its identity while no exchange of its link waits for the spare. -/
theorem laneAlignDone_aligns (n : Nat) (inv : Bool) (up : s.sheetAwake sh = true) (align : s.laneState sh l = 5)
    (noExchange : (s.lnk sh).xchg = none) :
    exec (.laneAlignDone sh l n inv) s = .next (((s.stageTo sh 6 l).put (LNE_STAT_IDENT sh l) n).put (LNE_STAT_RX_INV sh l) (b2n inv)) := by
  have noSubst : (((s.stageTo sh 6 l).put (LNE_STAT_IDENT sh l) n).put (LNE_STAT_RX_INV sh l) (b2n inv)).substExchange sh = none := by
    rw [State.substExchange, lnk_put, lnk_put, lnk_of_links (stageTo_links ..), noExchange]
  change execLaneAlignDone sh l n inv s = _
  simp only [execLaneAlignDone, up, align, noSubst, ne_eq, not_true_eq_false, decide_false, Bool.not_true, Bool.or_self,
    Bool.false_eq_true, if_false]

section
variable (up : s.sheetAwake sh = true) (bringup : s.sheetState sh = 1)
  (ready : ∀ l ∈ s.mapped sh, s.laneState sh l = 6 ∧ s.isSet (LNE_STAT_LOS sh l) = false ∧ s.isSet (LNE_STAT_LOL sh l) = false)
include up bringup ready

/-- The guards of SHEET_UP on a sheet in BRINGUP whose lanes are all READY. -/
theorem sheetUp_ready :
    (!s.sheetAwake sh || decide (s.sheetState sh ≠ 1) || !(s.mapped sh).all (fun l =>
      s.laneState sh l == 6 && !s.isSet (LNE_STAT_LOS sh l) && !s.isSet (LNE_STAT_LOL sh l))) = false := by
  have all : (s.mapped sh).all (fun l => s.laneState sh l == 6 && !s.isSet (LNE_STAT_LOS sh l) && !s.isSet (LNE_STAT_LOL sh l)) = true :=
    List.all_eq_true.2 fun l hl => by
      obtain ⟨aligned, signal, locked⟩ := ready l hl
      rw [aligned, signal, locked]
      rfl
  rw [up, bringup, all]
  rfl

/-- ORDER and DESKEW pass: the sheet is UP, and the lanes that took it down are said to be restored. -/
theorem sheetUp_passes {u : State} {skew : Nat} {m : List Nat} {rev : Bool} (order : s.orderMap sh = some (m, rev)) (deskew : skew ≤ 256)
    (noEther : s.proto sh ≠ 1)
    (hu : u = m.foldl (fun (s : State) l => s.put (LNE_STAT_STATE sh l) 7) ((((s.setMap sh m).put (LNE_SHEET_STAT_REV sh)
      (b2n (rev || s.isSet (LNE_SHEET_STAT_REV sh)))).put (LNE_SHEET_STAT_SKEW sh) (min skew 255)).put (LNE_SHEET_STAT_STATE sh) 2)) :
    exec (.sheetUp sh skew) s = .next ((u.sheet sh).causers.foldl (fun (s : State) (l : Nat) => s.raise evLNE_LANE_RESTORED sh [.w4 l])
      ((u.setSheet sh { u.sheet sh with causers := [], failRun := false, alone := [] }).raise evLNE_SHEET_UP sh)) := by
  subst hu
  change execSheetUp sh skew s = _
  simp only [execSheetUp, sheetUp_ready up bringup ready, order, Nat.not_lt.2 deskew, noEther, Bool.false_eq_true, if_false]

theorem sheetUp_orderFails (skew : Nat) (order : s.orderMap sh = none) : exec (.sheetUp sh skew) s = .next (s.bringupFail sh 5) := by
  change execSheetUp sh skew s = _
  simp only [execSheetUp, sheetUp_ready up bringup ready, order, Bool.false_eq_true, if_false]

theorem sheetUp_deskewFails {skew : Nat} (order : s.orderMap sh ≠ none) (wide : 256 < skew) :
    exec (.sheetUp sh skew) s = .next (s.bringupFail sh 6) := by
  obtain ⟨⟨m, rev⟩, found⟩ := Option.ne_none_iff_exists'.1 order
  change execSheetUp sh skew s = _
  simp only [execSheetUp, sheetUp_ready up bringup ready, found, wide, Bool.false_eq_true, if_false, if_true]

end

/-- A lane of a sheet in BRINGUP or TEST misses the maximum of its stage. -/
theorem bringupStageTimeout_fails (up : s.sheetAwake sh = true) (starting : s.sheetState sh = 1 ∨ s.sheetState sh = 3)
    (first : 2 ≤ s.laneState sh l) (last : s.laneState sh l ≤ 5)
    (long : s.inStage sh l (s.stageMax sh l (s.laneState sh l)) = true) :
    exec (.bringupStageTimeout sh l) s = .next (s.bringupFail sh (s.laneState sh l - 1)) := by
  have notUp : s.sheetState sh ≠ 2 := by omega
  have outside : (decide (s.sheetState sh ≠ 1) && decide (s.sheetState sh ≠ 3)) = false := by
    rcases starting with h | h <;> rw [h] <;> rfl
  change execBringupStageTimeout sh l s = _
  simp only [execBringupStageTimeout, up, long, Nat.not_lt.2 first, Nat.not_lt.2 last, notUp, outside, decide_false, Bool.not_true,
    Bool.or_self, Bool.false_eq_true, if_false]

theorem bringupRetry_due (up : s.sheetAwake sh = true) (waits : (s.sheet sh).waiting = true)
    (start : s.isSet (LNE_SHEET_CTL_START sh) = true) (noSpaxa : s.proto sh ≠ 2)
    (due : (s.sheet sh).failAt + ((s.get (LNE_SHEET_CTL_RETRY sh) * mtMs : Nat) : Int) ≤ s.mt) :
    exec (.bringupRetry sh) s = .next (s.startAttempt sh) :=
  congrArg Host.Outcome.next (if_pos (by simp only [up, waits, start, noSpaxa, due, ne_eq, not_false_eq_true, decide_true, Bool.and_self]))

/-! ## Loss (R424, R425) -/

section
variable (reports : s.reports sh l = true)
include reports

theorem laneLos_reports (signal : s.isSet (LNE_STAT_LOS sh l) = false) :
    exec (.laneLos sh l) s = .next (((((s.losTo sh l 1).put (LNE_STAT_LOS_SEEN sh l) 1).laneCount sh (LNE_LOSCNT sh l)).raise
      evLNE_LANE_LOS sh [.w4 l]).lossDrop sh l 1) :=
  if_neg (by rw [reports, signal]; decide)

theorem laneLosClear_settles (lost : s.isSet (LNE_STAT_LOS sh l) = true) (settled : s.losSettled sh l = true) :
    exec (.laneLosClear sh l) s = .next (s.losTo sh l 0) :=
  congrArg Host.Outcome.next (if_pos (by rw [reports, lost, settled]; rfl))

theorem laneLol_reports (locked : s.isSet (LNE_STAT_LOL sh l) = false) :
    exec (.laneLol sh l) s = .next (((((s.put (LNE_STAT_LOL sh l) 1).put (LNE_STAT_LOL_SEEN sh l) 1).laneCount sh (LNE_LOLCNT sh l)).raise
      evLNE_LANE_LOL sh [.w4 l]).lossDrop sh l 2) :=
  if_neg (by rw [reports, locked]; decide)

end

/-! ## Eye margins (R426, R427) -/

/-- Margins at or above both limits are shown with their minima; the lane counts neither as low nor as warned of. -/
theorem eyeMeasure_good {u : State} {v h : Nat} (up : s.sheetAwake sh = true) (active : s.laneState sh l = 7)
    (periodic : s.get (LNE_EYE_CFG0_PERIOD sh) ≠ 0) (due : s.eyeDue sh l = true) (warnV : s.get (LNE_EYE_CFG0_WARN_V sh) ≤ v)
    (warnH : s.get (LNE_EYE_CFG1_WARN_H sh) ≤ h) (failV : s.get (LNE_EYE_CFG0_FAIL_V sh) ≤ v)
    (failH : s.get (LNE_EYE_CFG1_FAIL_H sh) ≤ h)
    (hu : u = (((s.put (LNE_EYE_VMARGIN sh l) (min v 255)).put (LNE_EYE_HMARGIN sh l) (min h 255)).put (LNE_EYE_VMIN sh l)
      (min (min v 255) (s.get (LNE_EYE_VMIN sh l)))).put (LNE_EYE_HMIN sh l) (min (min h 255) (s.get (LNE_EYE_HMIN sh l)))) :
    exec (.eyeMeasure sh l v h) s = .next (u.setSheet sh { u.sheet sh with
      low := mapPut 0 l 0 (u.sheet sh).low, eyeAt := mapPut none l (some s.mt) (u.sheet sh).eyeAt,
      warned := (u.sheet sh).warned.filter (fun k => k != l) }) := by
  have few : ¬ 3 ≤ 0 := by decide
  subst hu
  change execEyeMeasure sh l v h s = _
  simp only [execEyeMeasure, up, active, periodic, due, Nat.not_lt.2 warnV, Nat.not_lt.2 warnH, Nat.not_lt.2 failV, Nat.not_lt.2 failH,
    few, ne_eq, not_true_eq_false, decide_false, Bool.not_true, Bool.or_self, Bool.false_and, Bool.false_eq_true, if_false]

/-! ## Pattern test (R428 to R430) -/

/-- Counters that do not reach their top rise by what the checker gives. -/
theorem prbsCount_unsaturated {n e : Nat} (bitsFit : s.rd64 (LNE_PRBS_BITS_LO sh l) (LNE_PRBS_BITS_HI sh l) + n < 2 ^ 64 - 1)
    (errFit : s.rd64 (LNE_PRBS_ERR_LO sh l) (LNE_PRBS_ERR_HI sh l) + e < 2 ^ 64 - 1) :
    s.prbsCount sh l n e = (s.wr64 (LNE_PRBS_BITS_LO sh l) (LNE_PRBS_BITS_HI sh l) (s.rd64 (LNE_PRBS_BITS_LO sh l)
      (LNE_PRBS_BITS_HI sh l) + n)).wr64 (LNE_PRBS_ERR_LO sh l) (LNE_PRBS_ERR_HI sh l) (s.rd64 (LNE_PRBS_ERR_LO sh l)
        (LNE_PRBS_ERR_HI sh l) + e) := by
  simp only [State.prbsCount, Nat.not_le.2 bitsFit, Nat.not_le.2 errFit, Nat.min_eq_left bitsFit.le, Nat.min_eq_left errFit.le,
    decide_false, Bool.and_false, Bool.or_self, Bool.false_eq_true, if_false]

section
variable (checks : s.checks sh l = true)
include checks

section
variable (unlocked : s.isSet (LNE_PRBS_CTL_LOCK sh l) = false)
include unlocked

theorem prbsLock_inverted : exec (.prbsLock sh l true) s =
    .next (((s.put (LNE_STAT_RX_INV sh l) 1).put (LNE_PRBS_CTL_LOCK sh l) 1).raise evLNE_PRBS_LOCK sh [.w4 l]) :=
  if_neg (by rw [checks, unlocked]; decide)

theorem prbsLock_plain :
    exec (.prbsLock sh l false) s = .next ((s.put (LNE_PRBS_CTL_LOCK sh l) 1).raise evLNE_PRBS_LOCK sh [.w4 l]) :=
  if_neg (by rw [checks, unlocked]; decide)

end

theorem prbsLost_counts {n e : Nat} (locked : s.isSet (LNE_PRBS_CTL_LOCK sh l) = true)
    (bitsFit : s.rd64 (LNE_PRBS_BITS_LO sh l) (LNE_PRBS_BITS_HI sh l) + n < 2 ^ 64 - 1)
    (errFit : s.rd64 (LNE_PRBS_ERR_LO sh l) (LNE_PRBS_ERR_HI sh l) + e < 2 ^ 64 - 1) :
    exec (.prbsLost sh l n e) s = .next (((((s.wr64 (LNE_PRBS_BITS_LO sh l) (LNE_PRBS_BITS_HI sh l) (s.rd64 (LNE_PRBS_BITS_LO sh l)
      (LNE_PRBS_BITS_HI sh l) + n)).wr64 (LNE_PRBS_ERR_LO sh l) (LNE_PRBS_ERR_HI sh l) (s.rd64 (LNE_PRBS_ERR_LO sh l)
      (LNE_PRBS_ERR_HI sh l) + e)).put (LNE_PRBS_CTL_LOCK sh l) 0).put (LNE_PRBS_CTL_LOST_SEEN sh l) 1).raise evLNE_PRBS_LOST sh
      [.w4 l]) := by
  rw [← prbsCount_unsaturated bitsFit errFit]
  exact if_neg (by rw [checks, locked]; decide)

end

end

/-- The start of a pattern is an output, and changes no field. -/
theorem genStart_get (s : State) (sh l : Nat) (f : Fld) : (s.genStart sh l).get f = s.get f := by
  rw [State.genStart, apply_ite (State.get · f), State.emit_get, ite_self]

section
variable {s u : State} {sh l : Nat} {w : Wr}

section
variable (reached : s.Opens w (0x301020 + 0x4000 * sh + 0x200 * l)) (hsh : sh < 40) (hl : l ≤ 8)
include reached hsh hl

/-- PRBS_INJECT and PRBS_CLR are one write of `LNE_PRBS_CTL`. -/
theorem prbsInject_opens : exec (.prbsInject sh l w) s = .next (s.prbsWrite sh l w) :=
  congrArg Host.Outcome.next ((pfOnly_open reached _).trans (if_pos (by simp only [hsh, hl, decide_true, Bool.and_self])))

theorem prbsClr_opens : exec (.prbsClr sh l w) s = .next (s.prbsWrite sh l w) := prbsInject_opens reached hsh hl

end

section
variable {v : State} (hv : v = if s.isSet (LNE_PRBS_CTL_GEN_EN sh l) then u else u.genStart sh l)
include hv

/-- A generator that a write enables starts its pattern, which changes no field. -/
theorem prbsStarted_get (f : Fld) : v.get f = u.get f := by
  rw [hv, apply_ite (State.get · f), genStart_get, ite_self]

variable (hu : u = s.mergeRaw (LNE_PRBS_CTL sh l).key w) (up : u.awake (24 + sh) = true)
  (checker : u.isSet (LNE_PRBS_CTL_CHK_EN sh l) = true)
include hu up checker

theorem prbsWrite_injects (noClear : w.hits 19 = false) (inject : w.hits 26 = true)
    (generator : u.isSet (LNE_PRBS_CTL_GEN_EN sh l) = true) (test : u.laneState sh l = 8) :
    s.prbsWrite sh l w = v.emit (.bitInvert sh l) := by
  have same := prbsStarted_get hv
  have vUp : v.awake (24 + sh) = true := by rw [← up, State.awake, State.awake, same]
  have vChecker := (isSet_of_get (same _)).trans checker
  have vGenerator := (isSet_of_get (same _)).trans generator
  have vTest : v.laneState sh l = 8 := (same _).trans test
  simp only [State.prbsWrite, ← hu, ← hv, noClear, inject, vUp, vChecker, vGenerator, vTest, decide_true, Bool.or_true, Bool.not_true,
    Bool.and_false, Bool.and_self, Bool.false_eq_true, if_false, if_true]

theorem prbsWrite_clears (clear : w.hits 19 = true) (noInject : w.hits 26 = false) : s.prbsWrite sh l w = v.prbsClear sh l := by
  have same := prbsStarted_get hv
  have vUp : v.awake (24 + sh) = true := by rw [← up, State.awake, State.awake, same]
  have vChecker := (isSet_of_get (same _)).trans checker
  simp only [State.prbsWrite, ← hu, ← hv, clear, noInject, vUp, vChecker, Bool.or_false, Bool.not_true, Bool.and_false, Bool.false_and,
    Bool.false_eq_true, if_false, if_true]

end

/-! ## Sleep of one direction (R431) -/

theorem laneSleepWrite_opens (reached : s.Opens w (0x301000 + 0x4000 * sh + 0x200 * l)) (hsh : sh < 40) (hl : l ≤ 8) :
    exec (.laneSleepWrite sh l w) s = .next (s.laneCtlWrite sh l w) :=
  congrArg Host.Outcome.next ((pfOnly_open reached _).trans (if_pos (by simp only [hsh, hl, decide_true, Bool.and_self])))

section
variable (stopped : s.isSet (LNE_SHEET_CTL_START sh) = false) (unused : s.laneUnused sh l = true) (notRetired : s.laneState sh l ≠ 9)
  (hu : u = s.mergeRaw (LNE_CTL sh l).key w)
include stopped unused notRetired hu

/-- Both directions of an unused lane of a stopped sheet go to sleep: the lane is OFF and reports no loss. -/
theorem laneCtlWrite_sleeps (txSleeps : u.isSet (LNE_CTL_TX_SLEEP sh l) = true) (rxSleeps : u.isSet (LNE_CTL_RX_SLEEP sh l) = true) :
    s.laneCtlWrite sh l w = ((u.put (LNE_STAT_STATE sh l) 0).put (LNE_STAT_LOS sh l) 0).put (LNE_STAT_LOL sh l) 0 := by
  have apart : (LNE_CTL_RX_SLEEP sh l).reg.key ≠ (LNE_STAT_STATE sh l).reg.key := by
    change 0x301000 + 0x4000 * sh + 512 * l ≠ 0x301004 + 0x4000 * sh + 512 * l
    omega
  have rxStill := (isSet_of_get (get_put_reg u (LNE_STAT_STATE sh l) _ 0 apart)).trans rxSleeps
  simp only [State.laneCtlWrite, ← hu, stopped, unused, notRetired, txSleeps, rxSleeps, rxStill, decide_false, Bool.not_true,
    Bool.and_false, Bool.false_and, Bool.or_self, Bool.and_self, Bool.false_eq_true, if_false, if_true]

/-- A lane that sleeps in no direction and is not OFF keeps its state. -/
theorem laneCtlWrite_wakeful (txWakes : u.isSet (LNE_CTL_TX_SLEEP sh l) = false) (rxWakes : u.isSet (LNE_CTL_RX_SLEEP sh l) = false)
    (notOff : u.laneState sh l ≠ 0) : s.laneCtlWrite sh l w = u := by
  simp only [State.laneCtlWrite, ← hu, stopped, unused, notRetired, txWakes, rxWakes, notOff, decide_false, Bool.not_true,
    Bool.and_false, Bool.false_and, Bool.or_self, Bool.and_self, Bool.false_eq_true, if_false]

end
end

/-- Settles O26: each command of rows 128 to 147 meets the law of its row above. The `RATE` that a START reads, the LOS and LOL that hold
a sheet back and the start of a pattern follow the model's log entry 76. -/
theorem laneCommandsComplete : Obligations.LaneCommandsComplete := by
  refine ⟨?start, ?stop, fun _ _ _ up detect signal settled long => laneDetectDone_detects up detect signal settled long,
    fun _ _ _ up lock => laneLockDone_locks up lock, fun _ _ _ m up equalise noSearch long => laneEqDone_fixed m up equalise noSearch long,
    fun _ _ _ _ _ _ _ _ up equalise search hp hsp hn tried given long hu =>
      laneEqDone_search up equalise search hp hsp hn tried given long hu,
    fun _ _ _ n inv up align noExchange => laneAlignDone_aligns n inv up align noExchange,
    fun _ _ _ _ _ _ up bringup ready order deskew noEther hu => sheetUp_passes up bringup ready order deskew noEther hu,
    fun _ _ skew up bringup ready => ⟨fun order => sheetUp_orderFails up bringup ready skew order,
      fun order wide => sheetUp_deskewFails up bringup ready order wide⟩,
    fun _ _ _ up starting first last long => bringupStageTimeout_fails up starting first last long,
    fun _ _ up waits start noSpaxa due => bringupRetry_due up waits start noSpaxa due,
    fun _ _ _ reports signal => laneLos_reports reports signal,
    fun _ _ _ reports lost settled => laneLosClear_settles reports lost settled,
    fun _ _ _ reports locked => laneLol_reports reports locked, ?eye,
    fun _ _ _ checks unlocked => ⟨prbsLock_inverted checks unlocked, prbsLock_plain checks unlocked⟩,
    fun _ _ _ _ _ checks locked bitsFit errFit => prbsLost_counts checks locked bitsFit errFit, ?inject, ?clear, ?spare, ?sleep, ?wake⟩
  case start =>
    intro s u sh w reached hsh stopped start noNarrow noSub hu
    rw [sheetStart_opens reached hsh, sheetCtlWrite_starts stopped hu start noNarrow noSub]
  case stop =>
    intro s u sh w fs reached hsh runs stop noNarrow noSub hfs kept hu
    rw [sheetStop_opens reached hsh, sheetCtlWrite_stops runs stop noNarrow noSub hfs kept hu]
  case eye =>
    intro s sh l v h up active periodic due warnV warnH failV failH
    refine ⟨_, eyeMeasure_good up active periodic due warnV warnH failV failH rfl, State.setSheet_rd .., ?low, ?warned⟩
    case low => rw [sheet_setSheet, mapGet_put_same]
    case warned => rw [sheet_setSheet]; simp
  case inject =>
    intro s u sh l w reached hsh hl noClear inject hu up checker generator test
    rw [prbsInject_opens reached hsh hl, prbsWrite_injects rfl hu up checker noClear inject generator test]
  case clear =>
    intro s u sh l w reached hsh hl clear noInject hu up checker
    rw [prbsClr_opens reached hsh hl, prbsWrite_clears rfl hu up checker clear noInject]
  case spare =>
    intro s u sh w reached hsh stopped still hu
    refine ⟨fun noNarrow sub => ?_, fun narrow noSub => ?_⟩
    · rw [sheetSub_opens reached hsh, sheetCtlWrite_substitutes stopped hu still noNarrow sub]
    · rw [narrowWrite_opens reached hsh, sheetCtlWrite_narrows stopped hu still narrow noSub]
  case sleep =>
    intro s u sh l w reached hsh hl stopped unused notRetired hu txSleeps rxSleeps
    rw [laneSleepWrite_opens reached hsh hl, laneCtlWrite_sleeps stopped unused notRetired hu txSleeps rxSleeps]
  case wake =>
    intro s u sh l w reached hsh hl stopped unused hu txWakes rxWakes notRetired notOff
    rw [laneSleepWrite_opens reached hsh hl, laneCtlWrite_wakeful stopped unused notRetired hu txWakes rxWakes notOff]

/-! ## Training of a link (R445, R446, R448) -/

section
variable {s : State} {sh : Nat}

section
variable {l : Nat} {d : List Byte} (spaxa : s.get (LNE_SHEET_CTL_PROTO sh) = 2) (train : s.lstate sh = 1) (up : s.sheetAwake sh = true)
include spaxa train up

section
variable (broken : readTrain d = none) (waits : (s.lnk sh).trn.waiting = false)
include broken waits

/-- A set that is not valid fails an attempt that sends TS1. -/
theorem trainingSetRx_brokenFirst (first : (s.lnk sh).trn.phase = 1) :
    exec (.trainingSetRx sh l d) s = .next ((s.trainRefused sh 1).attemptFails sh) := by
  change execTrainingSetRx sh l d s = _
  simp only [execTrainingSetRx, spaxa, train, up, broken, waits, first, Nat.one_ne_zero, ne_eq, not_true_eq_false, decide_false,
    decide_true, Bool.not_true, Bool.not_false, Bool.or_self, Bool.and_self, Bool.false_eq_true, if_false, if_true]

/-- After TS1 it breaks the run of sets on its lane. -/
theorem trainingSetRx_brokenLater {k : Nat} (later : (s.lnk sh).trn.phase ≠ 1) (lane : s.laneLogical sh l = some k) :
    exec (.trainingSetRx sh l d) s = .next (s.setLnk sh { s.lnk sh with trn := { (s.lnk sh).trn with
      ts2 := mapPut 0 k 0 (s.lnk sh).trn.ts2 } }) := by
  change execTrainingSetRx sh l d s = _
  simp only [execTrainingSetRx, spaxa, train, up, broken, waits, later, lane, Nat.one_ne_zero, ne_eq, not_true_eq_false, decide_false,
    decide_true, Bool.not_true, Bool.not_false, Bool.or_self, Bool.and_self, Bool.false_eq_true, if_false, if_true]

end

/-- TS1 before this end sends TS2 is noted for its lane, and the handshake goes on. -/
theorem trainingSetRx_first {k : Nat} {p : TrainSet} {t : Training} (read : readTrain d = some (k, p)) (ht : t = (s.lnk sh).trn)
    (first : t.phase < 2) (partnerFirst : p.phase < 2) :
    exec (.trainingSetRx sh l d) s = .next ((s.setLnk sh { s.lnk sh with trn := (
      { t with sets := mapPut none k (some p) t.sets, ts2 := mapPut 0 k 0 t.ts2, heard := true } : Training) }).trainStep sh) := by
  have notThird : p.phase ≠ 3 := by omega
  subst ht
  change execTrainingSetRx sh l d s = _
  simp only [execTrainingSetRx, spaxa, train, up, read, Nat.not_le.2 partnerFirst, notThird, Nat.one_ne_zero,
    OfNat.one_ne_ofNat, ne_eq, not_true_eq_false, decide_false, Bool.not_true, Bool.or_self, Bool.and_false, Bool.false_and,
    Bool.false_eq_true, if_false]

end

section
variable (spaxa : s.proto sh = 2) (train : s.lstate sh = 1) (up : s.sheetAwake sh = true) (first : (s.lnk sh).trn.phase < 2)
  (waits : (s.lnk sh).trn.waiting = false) (sheetUp : s.sheetState sh = 2)
  (due : (s.lnk sh).trn.since + ((s.get (SPX_TRAIN_PARTNER_TO sh) * mtMs : Nat) : Int) ≤ s.mt)
include spaxa train up first waits sheetUp due

/-- An attempt whose partner was heard fails in silence. -/
theorem trainAttemptTimeout_heard (heard : (s.lnk sh).trn.heard = true) :
    exec (.trainAttemptTimeout sh) s = .next (s.attemptFails sh) := by
  change execTrainAttemptTimeout sh s = _
  simp only [execTrainAttemptTimeout, spaxa, train, up, waits, sheetUp, heard, Nat.not_le.2 first, Int.not_lt.2 due, ne_eq,
    not_true_eq_false, decide_false, Bool.not_true, Bool.or_self, Bool.true_or, OfNat.ofNat_ne_one, Bool.false_eq_true, if_false,
    if_true]

/-- A partner that was never heard is said to be absent, once. -/
theorem trainAttemptTimeout_absent (unheard : (s.lnk sh).trn.heard = false) (unsaid : (s.lnk sh).trn.absentSaid = false) :
    exec (.trainAttemptTimeout sh) s = .next ((((s.setLnk sh { s.lnk sh with trn := { (s.lnk sh).trn with absentSaid := true } }).put
      (SPX_STAT_ABSENT_SEEN sh) 1).raise evSPX_PARTNER_ABSENT sh).attemptFails sh) := by
  change execTrainAttemptTimeout sh s = _
  simp only [execTrainAttemptTimeout, spaxa, train, up, waits, sheetUp, unheard, unsaid, Nat.not_le.2 first, Int.not_lt.2 due, ne_eq,
    not_true_eq_false, decide_false, Bool.not_true, Bool.or_self, OfNat.ofNat_ne_one, Bool.false_eq_true, if_false]

end

theorem trainBackoffEnd_due (waits : (s.lnk sh).trn.waiting = true) (train : s.lstate sh = 1) (up : s.sheetAwake sh = true)
    (due : (s.lnk sh).trn.since + ((s.backoff sh (s.lnk sh).trn.fails * mtMs : Nat) : Int) ≤ s.mt) :
    exec (.trainBackoffEnd sh) s =
      .next (if s.sheetState sh = 1 then (s.linkRetry sh).startAttempt sh else s.linkRetry sh) :=
  if_neg (by simp only [waits, train, up, Int.not_lt.2 due, ne_eq, not_true_eq_false, decide_false, Bool.not_true, Bool.or_self,
    Bool.false_eq_true, not_false_eq_true])

/-! ## Blocks received (R440 to R442) -/

section
variable {l k c : Nat} {syms : List Nat} (i : Nat) (active : s.linkActive sh = true) (up : s.sheetAwake sh = true)
  (lane : s.laneLogical sh l = some k) (expected : (s.lnk sh).rxExpected k = some c) (noFec : s.get (LNE_SHEET_CTL_RATE sh) = 0)
include active up lane expected noFec

/-- A data block with the counter expected joins the blocks that are ordered. -/
theorem blockRx_expected (head : syms.getD 0 0 * 1024 + syms.getD 1 0 = 2 ^ 19 + c % 2 ^ 17) :
    exec (.blockRx sh l i syms) s = .next ((s.setLnk sh { s.lnk sh with rx := { (s.lnk sh).rx with
      bad := mapPut 0 k 0 (s.lnk sh).rx.bad, lane := mapPut 0 k (c + 1) (s.lnk sh).rx.lane,
      ahead := mapPut none c (some (bitsBytes (symbolsBits ((syms.drop 2).take 512)), false, s.bcnMt sh i))
        (s.lnk sh).rx.ahead } }).rxOrder sh 80) := by
  have data : (2 ^ 19 + c % 2 ^ 17) / 2 ^ 18 = 2 := by omega
  have few : ¬ 4 ≤ 0 := by decide
  have counter : (2 ^ 19 + c % 2 ^ 17) % 2 ^ 17 = c % 2 ^ 17 := by omega
  change execBlockRx sh l i syms s = _
  simp only [execBlockRx, active, up, lane, expected, noFec, head, data, counter, few, OfNat.ofNat_ne_one, Option.isSome_some,
    Option.isNone_some, ne_eq, not_true_eq_false, decide_false, Bool.not_true, Bool.and_false, Bool.or_self, Bool.false_eq_true, if_false,
    if_true]

/-- A block that bears the mark of training retrains the link. -/
theorem blockRx_training (head : (syms.getD 0 0 * 1024 + syms.getD 1 0) / 2 ^ 18 = 1) :
    exec (.blockRx sh l i syms) s = .next (s.linkRetrain sh false) := by
  change execBlockRx sh l i syms s = _
  simp only [execBlockRx, active, up, lane, expected, noFec, head, Option.isSome_some, decide_true, Bool.not_true, Bool.or_self,
    Bool.and_self, Bool.false_eq_true, if_false, if_true]

end

/-! ## Flits received and replayed (R443, R444, R451, R452) -/

section
variable {f : RxFlit} {r : List RxFlit} (oldest : (s.lnk sh).rx.flits = f :: r)
include oldest

theorem flitRx_damaged (damaged : f.bad = true ∨ flitOk f.bytes = false) :
    exec (.flitRx sh) s =
      .next (((s.setLnk sh { s.lnk sh with rx := { (s.lnk sh).rx with flits := r } }).spxCount sh (SPX_CRCERR sh)).nackNow sh) := by
  have fails : (f.bad || !flitOk f.bytes) = true := by
    rcases damaged with h | h
    · rw [h, Bool.true_or]
    · rw [h, Bool.not_false, Bool.or_true]
  change execFlitRx sh s = _
  simp only [execFlitRx, oldest, fails, if_true]

variable (whole : f.bad = false) (passes : flitOk f.bytes = true)
include whole passes

theorem flitRx_retrain (retrain : bit (flitAt f.bytes 254 1) 0 = true) :
    exec (.flitRx sh) s = .next (((s.setLnk sh { s.lnk sh with rx := { (s.lnk sh).rx with flits := r } }).flitAck sh
      f.bytes).linkRetrain sh false) := by
  change execFlitRx sh s = _
  simp only [execFlitRx, oldest, whole, passes, retrain, Bool.not_true, Bool.or_self, Bool.false_eq_true, if_false, if_true]

/-- A sequenced flit with the number expected is taken. -/
theorem flitRx_expected {u : State} (noControl : flitAt f.bytes 254 1 = 0)
    (hu : u = (s.setLnk sh { s.lnk sh with rx := { (s.lnk sh).rx with flits := r } }).flitAck sh f.bytes) (active : u.linkActive sh = true)
    (notIdle : flitAt f.bytes 0 1 ≠ 0) (notBeacon : flitAt f.bytes 0 1 ≠ 0x30)
    (expected : flitAt f.bytes 2 3 = (u.rn (SPX_ACK sh) + 1) % 2 ^ 24) : exec (.flitRx sh) s = .next (u.flitTake sh f.bytes) := by
  have noRetrain : bit 0 0 = false := by decide
  have noWake : bit 0 1 = false := by decide
  subst hu
  change execFlitRx sh s = _
  simp only [execFlitRx, oldest, whole, passes, noControl, noRetrain, noWake, active, notIdle, notBeacon, expected, ne_eq,
    not_false_eq_true, decide_true, Bool.not_true, Bool.or_self, Bool.false_and, Bool.and_self, Bool.false_eq_true, if_false, if_true]

end

theorem replayTimeout_due {f : SentFlit} {r : List SentFlit} (active : s.linkActive sh = true) (outstanding : (s.lnk sh).tx.out = f :: r)
    (due : (s.lnk sh).tx.ackAt + ((s.get (SPX_TIMER_REPLAY_TO sh) * mtUs : Nat) : Int) ≤ s.mt) :
    exec (.replayTimeout sh) s = .next (s.replayRound sh ((f.seq + 2 ^ 24 - 1) % 2 ^ 24)) := by
  change execReplayTimeout sh s = _
  simp only [execReplayTimeout, active, outstanding, due, List.isEmpty_cons, List.head?_cons, Option.map_some, Option.getD_some,
    decide_true, Bool.not_false, Bool.and_self, if_true]

/-! ## Blocks sent (R440, R446, R460, R461) -/

section
variable (i : Nat) (up : s.sheetAwake sh = true)
include up

section
variable (train : s.lstate sh = 1)
include train

/-- A link that leaves the active states on its own sends one last block, which says so (R449). -/
theorem blockTx_retrain {u : State} (retrain : (s.lnk sh).tx.retrain = true) (hu : u = s.sendBlock sh (s.bcnMt sh i)) :
    exec (.blockTx sh i) s = .next (u.setLnk sh { u.lnk sh with tx := { (u.lnk sh).tx with retrain := false } }) := by
  subst hu
  change execBlockTx sh i s = _
  simp only [execBlockTx, up, train, retrain, Nat.one_ne_zero, decide_false, Bool.not_true, Bool.or_self, Bool.false_eq_true, if_false,
    if_true]

theorem blockTx_train (noRetrain : (s.lnk sh).tx.retrain = false) (early : (s.lnk sh).trn.phase ≠ 3) :
    exec (.blockTx sh i) s = .next (s.sendTraining sh) := by
  change execBlockTx sh i s = _
  simp only [execBlockTx, up, train, noRetrain, early, Nat.one_ne_zero, decide_false, Bool.not_true, Bool.or_self, Bool.false_eq_true,
    if_false, if_true]

end

theorem blockTx_active (active : 2 ≤ s.lstate sh) : exec (.blockTx sh i) s = .next
    (((((s.dozeWake sh).sendAside sh).sendBlock sh (s.bcnMt sh i)).xchgSettle sh).beamsResume sh) := by
  have on : s.lstate sh ≠ 0 := by omega
  have trained : s.lstate sh ≠ 1 := by omega
  change execBlockTx sh i s = _
  simp only [execBlockTx, up, on, trained, decide_false, Bool.not_true, Bool.or_self, Bool.false_eq_true, if_false]

end

/-! ## Exchanges (R457 to R461) -/

section
variable {u : State} {m : List Byte}

theorem claimRx_answers (message : s.takeCtl sh 1 = some (m, u)) (free : (u.lnk sh).xchg = none) :
    exec (.claimRx sh) s = .next (u.answerClaim sh (flitAt m 1 1) (flitAt m 2 2) (flitAt m 9 1)) := by
  change execClaimRx sh s = _
  simp only [execClaimRx, message, free]

theorem restoreRx_doze (message : s.takeCtl sh 7 = some (m, u)) (doze : u.lstate sh = 3) : exec (.restoreRx sh) s = .next
    (u.setLnk sh { u.lnk sh with resRx := some (bcFrom (u.lnk sh).rx.bc (flitAt m 12 4 % 131072)) }) := by
  change execRestoreRx sh s = _
  simp only [execRestoreRx, message, doze, if_true]

theorem commandRx_envelope (message : s.takeCtl sh 8 = some (m, u)) :
    exec (.commandRx sh) s = .next (u.envelopeIn (.spaxa sh) 0 ((m.drop 16).take (48 + leNat (((m.drop 16).drop 24).take 4)))) := by
  change execCommandRx sh s = _
  simp only [execCommandRx, message]

section
variable {e : Exchange} (exchange : (u.lnk sh).xchg = some e)
include exchange

/-- A claim that meets an exchange with the token is refused: BUSY. -/
theorem claimRx_busy (message : s.takeCtl sh 1 = some (m, u)) (granted : e.granted = true) :
    exec (.claimRx sh) s = .next (u.sendCtrl sh 3 (flitAt m 1 1) (flitAt m 2 2) 1 (flitAt m 9 1) 0) := by
  change execClaimRx sh s = _
  simp only [execClaimRx, message, exchange, granted, Bool.true_or, if_true]

theorem grantRx_grants (message : s.takeCtl sh 2 = some (m, u)) (ours : e.ours = true) (claimed : e.granted = false)
    (tag : e.tag = flitAt m 2 2) :
    exec (.grantRx sh) s = .next (if e.kind = 1
      then (u.setLnk sh { u.lnk sh with xchg := some { e with granted := true } }).wakeSpare sh 2
      else (u.setLnk sh { u.lnk sh with xchg := some { e with granted := true } }).switchNow sh) := by
  change execGrantRx sh s = _
  simp only [execGrantRx, message, exchange, ours, claimed, tag, ne_eq, not_true_eq_false, decide_false, Bool.not_true, Bool.or_self,
    Bool.false_eq_true, if_false]

theorem refuseRx_fails (message : s.takeCtl sh 3 = some (m, u)) (ours : e.ours = true) (tag : e.tag = flitAt m 2 2) :
    exec (.refuseRx sh) s = .next (u.xchgFail sh 1 (if e.granted then 7 else 6)) := by
  change execRefuseRx sh s = _
  simp only [execRefuseRx, message, exchange, ours, tag, decide_true, Bool.and_self, if_true]

/-- The partner's exchange ends; no claim of this end was withdrawn for it. -/
theorem doneRx_ends (message : s.takeCtl sh 4 = some (m, u)) (partners : e.ours = false) (unswitched : e.txAt = none)
    (noSpare : e.kind ≠ 1) (noClaim : (u.lnk sh).again = none) :
    exec (.doneRx sh) s = .next ((u.setLnk sh { u.lnk sh with xchg := none }).showXchg sh) := by
  have settled : ((u.setLnk sh { u.lnk sh with xchg := none }).showXchg sh).claimAgain sh =
      (u.setLnk sh { u.lnk sh with xchg := none }).showXchg sh := by
    simp only [State.claimAgain, State.showXchg, lnk_put, lnk_setLnk, noClaim]
  change execDoneRx sh s = _
  simp only [execDoneRx, message, exchange, partners, unswitched, noSpare, settled, Option.isNone_none, Bool.not_false, Bool.and_self,
    if_false, if_true]

theorem spareReadyRx_notes (message : s.takeCtl sh 5 = some (m, u)) :
    exec (.spareReadyRx sh) s = .next (if e.kind = 1 ∧ e.ready = true ∧ e.txAt = none then
      (u.setLnk sh { u.lnk sh with xchg := some { e with pready := true } }).switchNow sh
      else u.setLnk sh { u.lnk sh with xchg := some { e with pready := true } }) := by
  change execSpareReadyRx sh s = _
  simp only [execSpareReadyRx, message, exchange, Bool.and_eq_true, decide_eq_true_eq, Option.isNone_iff_eq_none, and_assoc]

theorem switchRx_notes (message : s.takeCtl sh 6 = some (m, u)) :
    exec (.switchRx sh) s = .next (u.setLnk sh { u.lnk sh with xchg := some { e with
      rxAt := some (bcFrom (u.lnk sh).rx.bc (flitAt m 12 4 % 131072)) } }) := by
  change execSwitchRx sh s = _
  simp only [execSwitchRx, message, exchange]

end
end

theorem xchgTimeout_due {e : Exchange} (exchange : (s.lnk sh).xchg = some e) (ours : e.ours = true) (claimed : e.granted = false)
    (due : e.since + ((s.get (SPX_TIMER_XCHG_TO sh) * mtMs : Nat) : Int) ≤ s.mt) :
    exec (.xchgTimeout sh) s = .next (s.xchgFail sh 2 6) := by
  change execXchgTimeout sh s = _
  simp only [execXchgTimeout, exchange, ours, claimed, due, decide_true, Bool.not_false, Bool.and_self, if_true]

theorem dozeIdle_due (may : s.isSet (SPX_CTL_DOZE_EN sh) = true) (active : s.lstate sh = 2) (up : s.sheetAwake sh = true)
    (free : (s.lnk sh).xchg = none) (noData : s.dataWaits sh = false)
    (due : (s.lnk sh).tx.sinceData + ((s.get (SPX_DOZE_IDLE sh) * mtUs : Nat) : Int) ≤ s.mt) :
    exec (.dozeIdle sh) s = .next (s.claim sh { kind := 2, ours := true, tag := 0 }) :=
  if_pos (by simp only [may, active, up, free, noData, due, Option.isNone_none, decide_true, Bool.not_false, Bool.and_self])

end

/-- Settles O27: each command of rows 148 to 163, and BLOCK_TX, meets the law of its row above. The codes with which REFUSE and a timeout
end an exchange follow the model's log entry 76. -/
theorem linkCommandsComplete : Obligations.LinkCommandsComplete := by
  refine ⟨fun _ _ _ _ spaxa train up broken waits first => trainingSetRx_brokenFirst spaxa train up broken waits first,
    fun _ _ _ _ _ spaxa train up broken waits later lane => trainingSetRx_brokenLater spaxa train up broken waits later lane,
    fun _ _ _ _ _ _ _ spaxa train up read ht first partnerFirst => trainingSetRx_first spaxa train up read ht first partnerFirst,
    fun _ _ spaxa train up first waits heard sheetUp due => trainAttemptTimeout_heard spaxa train up first waits sheetUp due heard,
    fun _ _ spaxa train up first waits unheard unsaid sheetUp due =>
      trainAttemptTimeout_absent spaxa train up first waits sheetUp due unheard unsaid,
    fun _ _ waits train up due => trainBackoffEnd_due waits train up due,
    fun _ _ _ i _ _ _ active up lane expected noFec head => blockRx_expected i active up lane expected noFec head,
    fun _ _ _ i _ _ _ active up lane expected noFec head => blockRx_training i active up lane expected noFec head,
    fun _ _ _ _ oldest damaged => flitRx_damaged oldest damaged,
    fun _ _ _ _ oldest whole passes retrain => flitRx_retrain oldest whole passes retrain,
    fun _ _ _ _ _ oldest whole passes noControl hu active notIdle notBeacon expected =>
      flitRx_expected oldest whole passes noControl hu active notIdle notBeacon expected,
    fun _ _ _ _ active outstanding due => replayTimeout_due active outstanding due,
    fun _ _ _ i up train retrain hu => blockTx_retrain i up train retrain hu,
    fun _ _ i up train noRetrain early => blockTx_train i up train noRetrain early, fun _ _ i up active => blockTx_active i up active,
    fun _ _ _ _ message free => claimRx_answers message free,
    fun _ _ _ _ _ message exchange granted => claimRx_busy exchange message granted,
    fun _ _ _ _ _ message exchange ours claimed tag => grantRx_grants exchange message ours claimed tag,
    fun _ _ _ _ _ message exchange ours tag => refuseRx_fails exchange message ours tag,
    fun _ _ _ _ _ message exchange partners unswitched noSpare noClaim =>
      doneRx_ends exchange message partners unswitched noSpare noClaim,
    fun _ _ _ _ _ message exchange => spareReadyRx_notes exchange message,
    fun _ _ _ _ _ message exchange => switchRx_notes exchange message,
    fun _ _ _ _ message doze => restoreRx_doze message doze, fun _ _ _ _ message => commandRx_envelope message,
    fun _ _ _ exchange ours claimed due => xchgTimeout_due exchange ours claimed due,
    fun _ _ may active up free noData due => dozeIdle_due may active up free noData due⟩

end Sys2Proof.Machine

namespace Sys2Proof.Machine

/-! SUPPORT and the statements about every command: that it answers, what it leaves of the queue, of the logbook and of the components of
the state, and how the command engine meets a packet and its tag. -/

/-! ## Every command answers, and leaves the commands that wait (R520, R532) -/

/-- Every command answers a next state, by the law of its own meaning. -/
theorem exec_answers (c : Instr) (s : State) : ∃ t, exec c s = .next t := by
  cases c with
  | registerWrite bar off w => exact execRegisterWrite_answers bar off w s
  | tableApertureWrite fn data => exact execTableApertureWrite_answers fn data s
  | reservedAccess fn bar off write => exact execReservedAccess_answers fn bar off write s
  | oversizeRequest fn bar off len write => exact execOversizeRequest_answers fn bar off len write s
  | atomicOpRequest fn addr => exact execAtomicOpRequest_answers fn addr s
  | pairLoRead fn off => exact execPairLoRead_answers fn off s
  | pairLoWrite off w => exact execPairLoWrite_answers off w s
  | pairHiWrite off w => exact execPairHiWrite_answers off w s
  | phasePllFirstLock => exact execPhasePllFirstLock_answers s
  | phaseUnlock => exact execPhaseUnlock_answers s
  | phaseRelock => exact execPhaseRelock_answers s
  | ageingFold => exact execAgeingFold_answers s
  | tbNowFracRead fn => exact execTbNowFracRead_answers fn s
  | adjRateChange w => exact execAdjRateChange_answers w s
  | adjSlewStart w => exact execAdjSlewStart_answers w s
  | adjStep w => exact execAdjStep_answers w s
  | adjAbort w => exact execAdjAbort_answers w s
  | adjTrace w => exact execAdjTrace_answers w s
  | slewDone => exact execSlewDone_answers s
  | srcChangeDeclare w => exact execSrcChangeDeclare_answers w s
  | changeOfSource w => exact execChangeOfSource_answers w s
  | ppsInEdge bin => exact execPpsInEdge_answers bin s
  | sourceQualified => exact execSourceQualified_answers s
  | ppsLost => exact execPpsLost_answers s
  | ref10mLost => exact execRef10mLost_answers s
  | ref10mReturn => exact execRef10mReturn_answers s
  | servoCorrection op => exact execServoCorrection_answers op s
  | hostTraceTimeout => exact execHostTraceTimeout_answers s
  | holdoverLimit => exact execHoldoverLimit_answers s
  | tbTxtsPop fn m => exact execTbTxtsPop_answers fn m s
  | edgeCapture n ix rising => exact execEdgeCapture_answers n ix rising s
  | timTagPop fn n => exact execTimTagPop_answers fn n s
  | timCalStart w => exact execTimCalStart_answers w s
  | timCoreStart p w => exact execTimCoreStart_answers p w s
  | timCalPeriodic => exact execTimCalPeriodic_answers s
  | timCalRunEnd p counts temp => exact execTimCalRunEnd_answers p counts temp s
  | timCalStale p temp => exact execTimCalStale_answers p temp s
  | tdcSpareSwitch n => exact execTdcSpareSwitch_answers n s
  | freqGateEnd x => exact execFreqGateEnd_answers x s
  | cgLost g => exact execCgLost_answers g s
  | refEnWrite g w => exact execRefEnWrite_answers g w s
  | cnvRefOk g => exact execCnvRefOk_answers g s
  | cnvApply g w => exact execCnvApply_answers g w s
  | cnvPllLocked g => exact execCnvPllLocked_answers g s
  | pllUnlock g => exact execPllUnlock_answers g s
  | pllRelock g => exact execPllRelock_answers g s
  | cnvLocked g => exact execCnvLocked_answers g s
  | lockLost g => exact execLockLost_answers g s
  | surveyStepEnd g res => exact execSurveyStepEnd_answers g res s
  | sliceMonitorWindow ix sl mean power loud stuck => exact execSliceMonitorWindow_answers ix sl mean power loud stuck s
  | surveyEnWrite g w => exact execSurveyEnWrite_answers g w s
  | cnvInEnWrite ix w => exact execCnvInEnWrite_answers ix w s
  | dieLinkDown d => exact execDieLinkDown_answers d s
  | dieLinkUp d => exact execDieLinkUp_answers d s
  | chpBind win w => exact execChpBind_answers win w s
  | chpUnbind win w => exact execChpUnbind_answers win w s
  | chpCommit win w => exact execChpCommit_answers win w s
  | districtWindowWrite d off w => exact execDistrictWindowWrite_answers d off w s
  | frameBoundary g f => exact execFrameBoundary_answers g f s
  | blankEdge line asserted => exact execBlankEdge_answers line asserted s
  | sourceSample src ix x => exact execSourceSample_answers src ix x s
  | cgTag g ix => exact execCgTag_answers g ix s
  | cgTagMissing g => exact execCgTagMissing_answers g s
  | coastTimeout g => exact execCoastTimeout_answers g s
  | gridSampleEmit n => exact execGridSampleEmit_answers n s
  | sourceResume n => exact execSourceResume_answers n s
  | spectrumReady n => exact execSpectrumReady_answers n s
  | beamSum b => exact execBeamSum_answers b s
  | chainWaitExpiry b => exact execChainWaitExpiry_answers b s
  | bfmCommit w => exact execBfmCommit_answers w s
  | bmacFail a => exact execBmacFail_answers a s
  | integrationEnd n ofBeam => exact execIntegrationEnd_answers n ofBeam s
  | itemComplete => exact execItemComplete_answers s
  | sfeBind w => exact execSfeBind_answers w s
  | sfeUnbind w => exact execSfeUnbind_answers w s
  | sfeCommit w => exact execSfeCommit_answers w s
  | excRampEnd q => exact execExcRampEnd_answers q s
  | excRangeSettled q => exact execExcRangeSettled_answers q s
  | excSenseMeasure q sense limit => exact execExcSenseMeasure_answers q sense limit s
  | pcvCycleStart p => exact execPcvCycleStart_answers p s
  | pcvEntryEnd p convs => exact execPcvEntryEnd_answers p convs s
  | pcvUrgGo p w => exact execPcvUrgGo_answers p w s
  | urgentArrive p => exact execUrgentArrive_answers p s
  | pcvRefEnWrite w => exact execPcvRefEnWrite_answers w s
  | pcvRefOk => exact execPcvRefOk_answers s
  | pauseEnd => exact execPauseEnd_answers s
  | pcvMidscaleCheck p err => exact execPcvMidscaleCheck_answers p err s
  | trimPageLoad n badA badB => exact execTrimPageLoad_answers n badA badB s
  | calMeasureDone conv zero ref temp => exact execCalMeasureDone_answers conv zero ref temp s
  | nvmCopyWritten ok => exact execNvmCopyWritten_answers ok s
  | trgArm t w => exact execTrgArm_answers t w s
  | trgDisarm t w => exact execTrgDisarm_answers t w s
  | triggerOffer => exact execTriggerOffer_answers s
  | trgPulseEnd => exact execTrgPulseEnd_answers s
  | trgRearm t => exact execTrgRearm_answers t s
  | ilineEdge n low => exact execIlineEdge_answers n low s
  | ilineStuck n => exact execIlineStuck_answers n s
  | netTriggerRx port data => exact execNetTriggerRx_answers port data s
  | trgOutFire t w => exact execTrgOutFire_answers t w s
  | trgNetClr w => exact execTrgNetClr_answers w s
  | captureClose seq => exact execCaptureClose_answers seq s
  | ringCtlWrite w => exact execRingCtlWrite_answers w s
  | cmpRawWrite n w => exact execCmpRawWrite_answers n w s
  | tileClose rec n offered => exact execTileClose_answers rec n offered s
  | encResume q => exact execEncResume_answers q s
  | cmpEngFault x => exact execCmpEngFault_answers x s
  | recordTileFlush q => exact execRecordTileFlush_answers q s
  | cmpJobPiWrite b w => exact execCmpJobPiWrite_answers b w s
  | cmpJobDisable b w => exact execCmpJobDisable_answers b w s
  | jobDecode b fail desc src => exact execJobDecode_answers b fail desc src s
  | cmpJobMore b w => exact execCmpJobMore_answers b w s
  | cmpJobAbort b w => exact execCmpJobAbort_answers b w s
  | queEnable w => exact execQueEnable_answers w s
  | queDisable w => exact execQueDisable_answers w s
  | queFlush w => exact execQueFlush_answers w s
  | plotRequest q => exact execPlotRequest_answers q s
  | plotRetry q => exact execPlotRetry_answers q s
  | unitWrite q => exact execUnitWrite_answers q s
  | plotCopyDone => exact execPlotCopyDone_answers s
  | egressFrame k pick cut => exact execEgressFrame_answers k pick cut s
  | egressStall q => exact execEgressStall_answers q s
  | plotEccError id off uncorr => exact execPlotEccError_answers id off uncorr s
  | pqFlush n part w => exact execPqFlush_answers n part w s
  | popStallTimeout n => exact execPopStallTimeout_answers n s
  | sysPqMonPop fn j => exact execSysPqMonPop_answers fn j s
  | monSnapshot j => exact execMonSnapshot_answers j s
  | arbDecision k l lines bad => exact execArbDecision_answers k l lines bad s
  | sheetStart sh w => exact execSheetStart_answers sh w s
  | sheetStop sh w => exact execSheetStop_answers sh w s
  | laneDetectDone sh l => exact execLaneDetectDone_answers sh l s
  | laneLockDone sh l => exact execLaneLockDone_answers sh l s
  | laneEqDone sh l margins => exact execLaneEqDone_answers sh l margins s
  | laneAlignDone sh l ident inv => exact execLaneAlignDone_answers sh l ident inv s
  | sheetUp sh skew => exact execSheetUp_answers sh skew s
  | bringupStageTimeout sh l => exact execBringupStageTimeout_answers sh l s
  | bringupRetry sh => exact execBringupRetry_answers sh s
  | laneLos sh l => exact execLaneLos_answers sh l s
  | laneLosClear sh l => exact execLaneLosClear_answers sh l s
  | laneLol sh l => exact execLaneLol_answers sh l s
  | eyeMeasure sh l v h => exact execEyeMeasure_answers sh l v h s
  | prbsLock sh l inv => exact execPrbsLock_answers sh l inv s
  | prbsLost sh l n e => exact execPrbsLost_answers sh l n e s
  | prbsInject sh l w => exact execPrbsInject_answers sh l w s
  | prbsClr sh l w => exact execPrbsClr_answers sh l w s
  | sheetSub sh w => exact execSheetSub_answers sh w s
  | narrowWrite sh w => exact execNarrowWrite_answers sh w s
  | laneSleepWrite sh l w => exact execLaneSleepWrite_answers sh l w s
  | trainingSetRx sh l data => exact execTrainingSetRx_answers sh l data s
  | trainAttemptTimeout sh => exact execTrainAttemptTimeout_answers sh s
  | trainBackoffEnd sh => exact execTrainBackoffEnd_answers sh s
  | blockRx sh l ix syms => exact execBlockRx_answers sh l ix syms s
  | flitRx sh => exact execFlitRx_answers sh s
  | replayTimeout sh => exact execReplayTimeout_answers sh s
  | claimRx sh => exact execClaimRx_answers sh s
  | grantRx sh => exact execGrantRx_answers sh s
  | refuseRx sh => exact execRefuseRx_answers sh s
  | doneRx sh => exact execDoneRx_answers sh s
  | spareReadyRx sh => exact execSpareReadyRx_answers sh s
  | switchRx sh => exact execSwitchRx_answers sh s
  | restoreRx sh => exact execRestoreRx_answers sh s
  | commandRx sh => exact execCommandRx_answers sh s
  | xchgTimeout sh => exact execXchgTimeout_answers sh s
  | dozeIdle sh => exact execDozeIdle_answers sh s
  | sampleRx sh full => exact execSampleRx_answers sh full s
  | declareRx sh => exact execDeclareRx_answers sh s
  | partialRx sh => exact execPartialRx_answers sh s
  | queueFlitRx sh => exact execQueueFlitRx_answers sh s
  | beaconTx sh => exact execBeaconTx_answers sh s
  | beaconRx sh => exact execBeaconRx_answers sh s
  | beaconLost sh => exact execBeaconLost_answers sh s
  | frameRx p fcs frame => exact execFrameRx_answers p fcs frame s
  | mergeTimeout n => exact execMergeTimeout_answers n s
  | heartbeatRx p data => exact execHeartbeatRx_answers p data s
  | heartbeatTx => exact execHeartbeatTx_answers s
  | heartbeatTimeout p => exact execHeartbeatTimeout_answers p s
  | portFaultHeld p => exact execPortFaultHeld_answers p s
  | routeSideWrite j w => exact execRouteSideWrite_answers j w s
  | rewindExpiry q => exact execRewindExpiry_answers q s
  | htxPiWrite m w descs => exact execHtxPiWrite_answers m w descs s
  | hrxPiWrite m w bufs => exact execHrxPiWrite_answers m w bufs s
  | functionLevelReset fn => exact execFunctionLevelReset_answers fn s
  | vfDisable n => exact execVfDisable_answers n s
  | pcieLinkDown => exact execPcieLinkDown_answers s
  | pcieLinkUp => exact execPcieLinkUp_answers s
  | ptmStart w => exact execPtmStart_answers w s
  | ptmDialog => exact execPtmDialog_answers s
  | ptmResponseRx master delay => exact execPtmResponseRx_answers master delay s
  | ptmTimeout => exact execPtmTimeout_answers s
  | msixModerationEnd fn v => exact execMsixModerationEnd_answers fn v s
  | msixUnmask fn op => exact execMsixUnmask_answers fn op s
  | dbCmdPiWrite r w data => exact execDbCmdPiWrite_answers r w data s
  | dbCplCiWrite r w => exact execDbCplCiWrite_answers r w s
  | cmdEnvelopeRx port addr udp ahead data => exact execCmdEnvelopeRx_answers port addr udp ahead data s
  | cmdKeyLoad w => exact execCmdKeyLoad_answers w s
  | cmdKeyClear w => exact execCmdKeyClear_answers w s
  | cringEnable b r w => exact execCringEnable_answers b r w s
  | padOpcode p => exact execPadOpcode_answers p s
  | cfgIdent p => exact execCfgIdent_answers p s
  | cfgHubId p => exact execCfgHubId_answers p s
  | cfgKeyLoad p => exact execCfgKeyLoad_answers p s
  | cfgKeyClear p => exact execCfgKeyClear_answers p s
  | cfgKeyOwn p => exact execCfgKeyOwn_answers p s
  | cfgUdp p => exact execCfgUdp_answers p s
  | cfgRegRead p => exact execCfgRegRead_answers p s
  | cfgRegWrite p => exact execCfgRegWrite_answers p s
  | cfgTableWrite p => exact execCfgTableWrite_answers p s
  | cfgTableRead p => exact execCfgTableRead_answers p s
  | cnvGroup p => exact execCnvGroup_answers p s
  | cnvInputEn p => exact execCnvInputEn_answers p s
  | cnvTrack p => exact execCnvTrack_answers p s
  | cnvStatus p => exact execCnvStatus_answers p s
  | brgQuota p => exact execBrgQuota_answers p s
  | brgGrant p => exact execBrgGrant_answers p s
  | brgRevoke p => exact execBrgRevoke_answers p s
  | brgBeams p => exact execBrgBeams_answers p s
  | brgReset p => exact execBrgReset_answers p s
  | brgStatus p => exact execBrgStatus_answers p s
  | pipeSource p => exact execPipeSource_answers p s
  | pipeBind p => exact execPipeBind_answers p s
  | pipeDelay p => exact execPipeDelay_answers p s
  | pipeUnbind p => exact execPipeUnbind_answers p s
  | pipeMix p => exact execPipeMix_answers p s
  | pipeDecimate p => exact execPipeDecimate_answers p s
  | pipeResample p => exact execPipeResample_answers p s
  | pipeChannel p => exact execPipeChannel_answers p s
  | pipeReduce p => exact execPipeReduce_answers p s
  | pipeRoute p => exact execPipeRoute_answers p s
  | pipeIntake p => exact execPipeIntake_answers p s
  | pipeCommit p => exact execPipeCommit_answers p s
  | pipeFpd p => exact execPipeFpd_answers p s
  | pipeDistrict p => exact execPipeDistrict_answers p s
  | pipeRaw p => exact execPipeRaw_answers p s
  | pipeStatus p => exact execPipeStatus_answers p s
  | beamSet p => exact execBeamSet_answers p s
  | beamDisable p => exact execBeamDisable_answers p s
  | beamIset p => exact execBeamIset_answers p s
  | beamWeights p => exact execBeamWeights_answers p s
  | beamStatus p => exact execBeamStatus_answers p s
  | beamLoad p => exact execBeamLoad_answers p s
  | gridDefine p => exact execGridDefine_answers p s
  | gridClear p => exact execGridClear_answers p s
  | gridRead p => exact execGridRead_answers p s
  | gridIndex p => exact execGridIndex_answers p s
  | queueConfig p => exact execQueueConfig_answers p s
  | queueEnable p => exact execQueueEnable_answers p s
  | queueDisable p => exact execQueueDisable_answers p s
  | queueFlush p => exact execQueueFlush_answers p s
  | queueStatus p => exact execQueueStatus_answers p s
  | queueChain p => exact execQueueChain_answers p s
  | queueDeliver p => exact execQueueDeliver_answers p s
  | plotStatus p => exact execPlotStatus_answers p s
  | plotEscape p => exact execPlotEscape_answers p s
  | plotLow p => exact execPlotLow_answers p s
  | plotCounters p => exact execPlotCounters_answers p s
  | timeRead p => exact execTimeRead_answers p s
  | timeAdjust p => exact execTimeAdjust_answers p s
  | timeSource p => exact execTimeSource_answers p s
  | timeAge p => exact execTimeAge_answers p s
  | timePpsDelay p => exact execTimePpsDelay_answers p s
  | timeTaiUtc p => exact execTimeTaiUtc_answers p s
  | timeStatus p => exact execTimeStatus_answers p s
  | timeEdge p => exact execTimeEdge_answers p s
  | timeFreq p => exact execTimeFreq_answers p s
  | timeFreqRead p => exact execTimeFreqRead_answers p s
  | timePtm p => exact execTimePtm_answers p s
  | trigArm p => exact execTrigArm_answers p s
  | trigDisarm p => exact execTrigDisarm_answers p s
  | trigFire p => exact execTrigFire_answers p s
  | trigSrcSkew p => exact execTrigSrcSkew_answers p s
  | trigRing p => exact execTrigRing_answers p s
  | trigCapset p => exact execTrigCapset_answers p s
  | trigNet p => exact execTrigNet_answers p s
  | trigStream p => exact execTrigStream_answers p s
  | trigStatus p => exact execTrigStatus_answers p s
  | calTrimRepair p => exact execCalTrimRepair_answers p s
  | calUserMeasure p => exact execCalUserMeasure_answers p s
  | calUserWrite p => exact execCalUserWrite_answers p s
  | calTim p => exact execCalTim_answers p s
  | calTimPeriod p => exact execCalTimPeriod_answers p s
  | calSliceTrim p => exact execCalSliceTrim_answers p s
  | calSurvey p => exact execCalSurvey_answers p s
  | calSurveyStep p => exact execCalSurveyStep_answers p s
  | calPageRead p => exact execCalPageRead_answers p s
  | feBind p => exact execFeBind_answers p s
  | feUnbind p => exact execFeUnbind_answers p s
  | feExcitation p => exact execFeExcitation_answers p s
  | feChannel p => exact execFeChannel_answers p s
  | feSequence p => exact execFeSequence_answers p s
  | feRoute p => exact execFeRoute_answers p s
  | feBlank p => exact execFeBlank_answers p s
  | feLin p => exact execFeLin_answers p s
  | feUrgent p => exact execFeUrgent_answers p s
  | feRef p => exact execFeRef_answers p s
  | feStatus p => exact execFeStatus_answers p s
  | laneSheet p => exact execLaneSheet_answers p s
  | laneTune p => exact execLaneTune_answers p s
  | laneSubst p => exact execLaneSubst_answers p s
  | laneNarrow p => exact execLaneNarrow_answers p s
  | lanePrbs p => exact execLanePrbs_answers p s
  | laneStatus p => exact execLaneStatus_answers p s
  | linkConfig p => exact execLinkConfig_answers p s
  | linkRxmap p => exact execLinkRxmap_answers p s
  | linkStatus p => exact execLinkStatus_answers p s
  | routeMac p => exact execRouteMac_answers p s
  | routePair p => exact execRoutePair_answers p s
  | routeSide p => exact execRouteSide_answers p s
  | routePolicy p => exact execRoutePolicy_answers p s
  | routeHeartbeat p => exact execRouteHeartbeat_answers p s
  | routeStream p => exact execRouteStream_answers p s
  | routeAddress p => exact execRouteAddress_answers p s
  | routePort p => exact execRoutePort_answers p s
  | routeStatus p => exact execRouteStatus_answers p s
  | gazRoot p => exact execGazRoot_answers p s
  | gazRegister p => exact execGazRegister_answers p s
  | gazRemove p => exact execGazRemove_answers p s
  | gazRead p => exact execGazRead_answers p s
  | gazDistrict p => exact execGazDistrict_answers p s
  | gazSend p => exact execGazSend_answers p s
  | gazCounts p => exact execGazCounts_answers p s
  | gazDigest p => exact execGazDigest_answers p s
  | logHead p => exact execLogHead_answers p s
  | logRead p => exact execLogRead_answers p s
  | logChallenge p => exact execLogChallenge_answers p s
  | logClear p => exact execLogClear_answers p s
  | logKey p => exact execLogKey_answers p s
  | logRepeat p => exact execLogRepeat_answers p s
  | powerDown p => exact execPowerDown_answers p s
  | powerUp p => exact execPowerUp_answers p s
  | powerHold p => exact execPowerHold_answers p s
  | powerStatus p => exact execPowerStatus_answers p s
  | sparePolicy p => exact execSparePolicy_answers p s
  | spareSlice p => exact execSpareSlice_answers p s
  | spareEngine p => exact execSpareEngine_answers p s
  | spareSlot p => exact execSpareSlot_answers p s
  | spareTdc p => exact execSpareTdc_answers p s
  | sparePcv p => exact execSparePcv_answers p s
  | spareBmac p => exact execSpareBmac_answers p s
  | spareCore p => exact execSpareCore_answers p s
  | sparePlot p => exact execSparePlot_answers p s
  | spareMram p => exact execSpareMram_answers p s
  | spareInventory p => exact execSpareInventory_answers p s
  | diagEcho p => exact execDiagEcho_answers p s
  | diagSelftest p => exact execDiagSelftest_answers p s
  | diagBeamSat p => exact execDiagBeamSat_answers p s
  | diagTemps p => exact execDiagTemps_answers p s
  | brgCtlReset b w => exact execBrgCtlReset_answers b w s
  | boroughResetDone b => exact execBoroughResetDone_answers b s
  | deliveryDoorbell ix w => exact execDeliveryDoorbell_answers ix w s
  | cmdRateWindow => exact execCmdRateWindow_answers s
  | dbEvtSrc w => exact execDbEvtSrc_answers w s
  | dbEvtAll w => exact execDbEvtAll_answers w s
  | gazCopyTx d => exact execGazCopyTx_answers d s
  | gazRetry d e => exact execGazRetry_answers d e s
  | gazOutcomeRx e env => exact execGazOutcomeRx_answers e env s
  | gazCollectEnd d => exact execGazCollectEnd_answers d s
  | faultReportRx payload => exact execFaultReportRx_answers payload s
  | digestClose subject cls => exact execDigestClose_answers subject cls s
  | evtWindowEnd => exact execEvtWindowEnd_answers s
  | evtPendWrite k w => exact execEvtPendWrite_answers k w s
  | logWrite fails => exact execLogWrite_answers fails s
  | logScan => exact execLogScan_answers s
  | pwrDown d w => exact execPwrDown_answers d w s
  | pwrUp d w => exact execPwrUp_answers d w s
  | drainComplete d => exact execDrainComplete_answers d s
  | drainTimeout d => exact execDrainTimeout_answers d s
  | wakeComplete d => exact execWakeComplete_answers d s
  | wakeTimeout d => exact execWakeTimeout_answers d s
  | engFail p corrected => exact execEngFail_answers p corrected s
  | slotFail n => exact execSlotFail_answers n s
  | coreFail k dog run => exact execCoreFail_answers k dog run s
  | porAssert torn => exact execPorAssert_answers torn s
  | aonMonitorReset torn => exact execAonMonitorReset_answers torn s
  | supplyFault => exact execSupplyFault_answers s
  | porRelease => exact execPorRelease_answers s
  | xoFail => exact execXoFail_answers s
  | stackTrainingDone failed => exact execStackTrainingDone_answers failed s
  | startDone cd ld => exact execStartDone_answers cd ld s
  | warmNRequest => exact execWarmNRequest_answers s
  | warmRegRequest w => exact execWarmRegRequest_answers w s
  | fwRestartRequest w => exact execFwRestartRequest_answers w s
  | warmResetDone => exact execWarmResetDone_answers s
  | fwRunning => exact execFwRunning_answers s
  | fwWatchdog => exact execFwWatchdog_answers s
  | fwStarted => exact execFwStarted_answers s
  | imageVerify w => exact execImageVerify_answers w s
  | mgbXferGo w => exact execMgbXferGo_answers w s
  | mgbXferDone code nbytes data => exact execMgbXferDone_answers code nbytes data s
  | mgbPoll ix code val => exact execMgbPoll_answers ix code val s
  | alertNAssert addr => exact execAlertNAssert_answers addr s
  | alertRepeat low addr => exact execAlertRepeat_answers low addr s
  | mgbSigCfgWrite n w => exact execMgbSigCfgWrite_answers n w s
  | mgbEdgePush w => exact execMgbEdgePush_answers w s
  | sigEdgeFire n => exact execSigEdgeFire_answers n s
  | frameMarkerStart n => exact execFrameMarkerStart_answers n s
  | frameMarkerEnd n => exact execFrameMarkerEnd_answers n s
  | tapInstruction ir => exact execTapInstruction_answers ir s
  | tapReset => exact execTapReset_answers s
  | refclkGate dev => exact execRefclkGate_answers dev s
  | refclkLost => exact execRefclkLost_answers s
  | refclkBack => exact execRefclkBack_answers s
  | pcieRefclkLost => exact execPcieRefclkLost_answers s
  | clkPllRelock which => exact execClkPllRelock_answers which s
  | currentLimit q => exact execCurrentLimit_answers q s
  | fixedModeEdge => exact execFixedModeEdge_answers s
  | pcsFault p kind => exact execPcsFault_answers p kind s
  | pcsFaultClear p => exact execPcsFaultClear_answers p s
  | blockTx sh ix => exact execBlockTx_answers sh ix s
  | busMasterEnableWrite fn bme ptm => exact execBusMasterEnableWrite_answers fn bme ptm s
  | clkPllUnlock which => exact execClkPllUnlock_answers which s
  | aonMonitorRelease => exact execAonMonitorRelease_answers s

/-- Settles O2: an empty queue idles, and a command at the front answers. -/
theorem everyStepAnswers : Obligations.EveryStepAnswers := by
  intro s
  cases front : s.pending with
  | nil => exact ⟨_, step_idle front⟩
  | cons c rest => rw [step_front front]; exact exec_answers c _

/-- Starting the clock and reporting it leave the queue. -/
theorem clockStart_raise_pending (s : State) (e : EvId) (inst : Nat) (det : List Detail) (bor : Nat) (pol mand nolog : Bool) :
    (s.clockStart.raise e inst det bor pol mand nolog).pending = s.pending := by
  obtain ⟨-, -, pending⟩ := State.clockStart_spec s
  rw [State.raise_pending, pending]

/-- The special commands leave the queue as well. -/
theorem exec_special_pending {c : Instr} {s t : State} (hc : isSpecial c = true) (h : exec c s = .next t) : t.pending = s.pending := by
  unfold isSpecial at hc
  split at hc
  next torn =>
    cases (show execPorAssert torn s = .next t from h)
    obtain ⟨-, -, pending⟩ := State.powerReset_spec s 0 torn
    dsimp only
    exact pending
  next => cases (show execPorRelease s = .next t from h); rfl
  next torn =>
    cases (show execAonMonitorReset torn s = .next t from h)
    obtain ⟨-, -, pending⟩ := State.powerReset_spec s 1 torn
    dsimp only
    exact pending
  next =>
    cases (show execXoFail s = .next t from h)
    split
    · rfl
    · rw [clockStart_raise_pending, State.put_pending, State.put_pending]
  next =>
    cases (show execPhasePllFirstLock s = .next t from h)
    split
    · rfl
    · rw [clockStart_raise_pending, State.put_pending]
  next ir => cases (show execTapInstruction ir s = .next t from h); rfl
  next => cases (show execTapReset s = .next t from h); rfl
  next => cases hc

/-- No command touches the commands that wait. -/
theorem exec_pending {c : Instr} {s t : State} (h : exec c s = .next t) : t.pending = s.pending := by
  cases hc : isSpecial c
  · exact (exec_same c hc t h).pending
  · exact exec_special_pending hc h

/-- Settles O3: the command runs on the state with the rest of the queue, which it leaves. -/
theorem stepConsumesFront : Obligations.StepConsumesFront := by
  intro s t c rest front hstep
  exact exec_pending ((step_front front).symm.trans hstep)

/-- Settles O1. -/
theorem stepRunsFront : Obligations.StepRunsFront := fun _ _ _ front => step_front front

/-- Settles O7: commands outside the list keep what the relation `Same` names, and so does the raising of an event. -/
theorem logbookKept : Obligations.LogbookKept := by
  refine ⟨?commands, ?events⟩
  case commands =>
    intro s t c ordinary far h
    have kept := exec_same_true c ordinary far t h
    exact ⟨kept.slots rfl, kept.key rfl, kept.trims rfl⟩
  case events =>
    intro s e inst d b pol mand nolog
    have kept := State.raise_same (Same.refl true s) e inst d b pol mand nolog
    exact ⟨kept.slots rfl, kept.key rfl⟩

/-! ## Packets at the command engine (R515, R519, R528, R541) -/

/-- Settles O14: the meaning of each packet command is one call of the engine. -/
theorem opcodeNumbers : Obligations.OpcodeNumbers := by
  intro p
  and_intros <;> exact fun _ => rfl

/-- A packet that the engine takes at once and that passes checks 1 to 4 meets its tag entry (R519). -/
theorem enginePacket_meetsTag {s : State} {op : Nat} {act : Bool} {h : Packet → State → CmdOut × State} {p : Packet}
    (ready : s.engineShut = false) (path : s.pathOpen p = true) (turn : (s.announce p).mustWait p true = false)
    (rate : (s.announce p).overRate p.pathBorough = false) (form : (s.taken p).packetForm p = true) (crc : Packet.crcOk op p = true)
    (borough : p.borough % 32 = p.pathBorough) (running : (s.taken p).get (BRG_STAT_STATE p.pathBorough) ≠ 1) :
    s.enginePacket op act h p = (s.taken p).meetTag op act h p := by
  have own : p.borough % 32 ≠ p.pathBorough ↔ False := by simp [borough]
  have takes : (s.announce p).takePacket op act h p = (s.taken p).meetTag op act h p := by
    unfold State.takePacket
    simp only [← State.taken.eq_1, form, crc, own, running, Bool.not_true, Bool.false_eq_true, if_false]
  rw [← takes]
  simp only [State.enginePacket, State.engineFeed, announce_engineShut, announce_pathOpen, ready, path, turn, rate, Bool.not_true,
    Bool.false_eq_true, if_false]
  cases p.path <;> rfl

/-! ### What a packet does by the tag entry that it meets (R528) -/

section
variable {s : State} {op g : Nat} {act : Bool} {h : Packet → State → CmdOut × State} {p : Packet} {l : List Word}

theorem meetTag_replays (done : s.tag (p.borough % 32) p.tag = .done (p.gen / 16) l) :
    s.meetTag op act h p = (s.bumpSat CMD_REPLAYS evCMD_CNT_SAT).sendOn p.path (p.borough % 32) (replyFlag 2 l) := by
  simp [State.meetTag, done]

theorem meetTag_newGeneration (done : s.tag (p.borough % 32) p.tag = .done g l) (other : g ≠ p.gen / 16) :
    s.meetTag op act h p = s.acceptNew op act h p := by
  simp [State.meetTag, done, other]

theorem meetTag_duplicate {b r : Nat} (busy : s.tag (p.borough % 32) p.tag = .busy (p.gen / 16)) (ring : p.path = .ring b r) :
    s.meetTag op act h p = (s.bumpSat CMD_DUPS evCMD_CNT_SAT).cringDone b r := by
  simp [State.meetTag, busy, ring]

theorem meetTag_tagBusy (busy : s.tag (p.borough % 32) p.tag = .busy g) (other : g ≠ p.gen / 16) :
    s.meetTag op act h p = (s.bumpSat CMD_TAGBUSY evCMD_CNT_SAT).bareReply op p 7 := by
  simp [State.meetTag, busy, other]

end

/-- Settles O8: the packet meets its tag entry, and does there what the entry says. -/
theorem retransmittedPacket : Obligations.RetransmittedPacket := by
  refine ⟨?replay, ?newGeneration, ?duplicate, ?tagBusy⟩
  case replay =>
    intro c op act h p s l d ready path turn rate form crc borough running done
    rw [d s, enginePacket_meetsTag ready path turn rate form crc borough running, meetTag_replays done]
  case newGeneration =>
    intro c op act h p s l g d ready path turn rate form crc borough running done other
    rw [d s, enginePacket_meetsTag ready path turn rate form crc borough running, meetTag_newGeneration done other]
  case duplicate =>
    intro c op act h p s b r d ready path turn rate form crc borough running busy ring
    rw [d s, enginePacket_meetsTag ready path turn rate form crc borough running, meetTag_duplicate busy ring]
  case tagBusy =>
    intro c op act h p s g d ready path turn rate form crc borough running busy other
    rw [d s, enginePacket_meetsTag ready path turn rate form crc borough running, meetTag_tagBusy busy other]

/-! ## The test access port (R695, R696) -/

/-- The boundary register is selected by the first three of the instructions that take the pins (R695, R696). -/
theorem boundary_iff (i : Nat) (low : Bool) :
    ((decide (3 ≤ i) && decide (i ≤ 7) && low && decide (i ≤ 5)) = true) ↔ (3 ≤ i ∧ i ≤ 5 ∧ low = true) := by
  simp only [Bool.and_eq_true, decide_eq_true_eq]
  constructor
  · rintro ⟨⟨⟨atLeast, -⟩, hlow⟩, atMost⟩
    exact ⟨atLeast, atMost, hlow⟩
  · rintro ⟨atLeast, atMost, hlow⟩
    exact ⟨⟨⟨atLeast, by omega⟩, hlow⟩, atMost⟩

/-- An instruction selects its data register and takes the pins where POR_N is low. -/
theorem exec_tapInstruction (s : State) (ir : Nat) : exec (.tapInstruction ir) s = .next { s with
    tap := ⟨ir % 256, if ir % 256 = 1 then 1 else if ir % 256 = 2 then 2 else if 3 ≤ ir % 256 ∧ ir % 256 ≤ 5 ∧ s.porLow = true then 2 else 0,
      decide (3 ≤ ir % 256 ∧ ir % 256 ≤ 7) && s.porLow⟩ } := by
  change execTapInstruction ir s = _
  simp only [execTapInstruction, boundary_iff, Bool.decide_and]

section
variable {ir : Nat} (atLeast : 3 ≤ ir) (atMost : ir ≤ 7)
include atLeast atMost

/-- The instructions that take the pins select the boundary register up to code 5, with POR_N low. -/
theorem exec_tapInstruction_takes (s : State) :
    exec (.tapInstruction ir) s = .next { s with tap := ⟨ir, if ir ≤ 5 ∧ s.porLow = true then 2 else 0, s.porLow⟩ } := by
  have byte : ir % 256 = ir := Nat.mod_eq_of_lt (by omega)
  have notIdcode : ir ≠ 1 := by omega
  have notSample : ir ≠ 2 := by omega
  rw [exec_tapInstruction, byte]
  simp only [notIdcode, notSample, atLeast, atMost, true_and, and_self, decide_true, Bool.true_and, if_false]

end

/-- Settles O9: an instruction takes the pins only where POR_N is low. -/
theorem testAccess : Obligations.TestAccess := by
  refine ⟨?low, ?high, ?capture, ?harmless⟩
  case low =>
    intro s ir atLeast atMost low
    simpa only [low, and_true] using exec_tapInstruction_takes atLeast atMost s
  case high =>
    intro s ir atLeast atMost high
    simpa [high] using exec_tapInstruction_takes atLeast atMost s
  case capture => intro s high; simp [State.irCapture, high]
  case harmless =>
    intro s ir high
    exact ⟨_, exec_tapInstruction s ir, by simp [high]⟩

/-! ## The components that each command keeps -/

/-- A command that keeps all but the components listed and those of raising an event. -/
theorem frames_of {c : Instr} {l : List Comp} (kept : ∀ s, OutKeeps (compMask (l ++ eventComps)) s (exec c s)) : Frames c l := by
  intro s
  obtain ⟨t, answers⟩ := exec_answers c s
  exact ⟨t, answers, kept s t answers⟩

/-- Settles O53: each command of the host, of start-up and of board management keeps what its law of components says. -/
theorem hostAndStartFrames : Obligations.HostAndStartFrames :=
  ⟨fun fn data => frames_of fun s => execTableApertureWrite_keeps (Keeps.refl _ s) rfl fn data,
   fun fn bar off write => frames_of fun s => execReservedAccess_keeps (Keeps.refl _ s) rfl fn bar off write,
   fun fn bar off len write => frames_of fun s => execOversizeRequest_keeps (Keeps.refl _ s) rfl fn bar off len write,
   fun fn addr => frames_of fun s => execAtomicOpRequest_keeps (Keeps.refl _ s) rfl fn addr,
   fun fn off => frames_of fun s => execPairLoRead_keeps (Keeps.refl _ s) rfl fn off,
   frames_of fun s => execSupplyFault_keeps (Keeps.refl _ s) rfl,
   frames_of fun s => execPorRelease_keeps (Keeps.refl _ s) rfl,
   frames_of fun s => execXoFail_keeps (Keeps.refl _ s) rfl,
   fun failed => frames_of fun s => execStackTrainingDone_keeps (Keeps.refl _ s) rfl failed,
   frames_of fun s => execWarmResetDone_keeps (Keeps.refl _ s) rfl,
   frames_of fun s => execFwRunning_keeps (Keeps.refl _ s) rfl,
   frames_of fun s => execFwWatchdog_keeps (Keeps.refl _ s) rfl,
   frames_of fun s => execFwStarted_keeps (Keeps.refl _ s) rfl,
   fun w => frames_of fun s => execImageVerify_keeps (Keeps.refl _ s) rfl w,
   fun w => frames_of fun s => execMgbXferGo_keeps (Keeps.refl _ s) rfl w,
   fun code nbytes data => frames_of fun s => execMgbXferDone_keeps (Keeps.refl _ s) rfl code nbytes data,
   fun i code val => frames_of fun s => execMgbPoll_keeps (Keeps.refl _ s) rfl i code val,
   fun addr => frames_of fun s => execAlertNAssert_keeps (Keeps.refl _ s) rfl addr,
   fun low addr => frames_of fun s => execAlertRepeat_keeps (Keeps.refl _ s) rfl low addr,
   fun n w => frames_of fun s => execMgbSigCfgWrite_keeps (Keeps.refl _ s) rfl n w,
   fun w => frames_of fun s => execMgbEdgePush_keeps (Keeps.refl _ s) rfl w,
   fun n => frames_of fun s => execSigEdgeFire_keeps (Keeps.refl _ s) rfl n,
   fun n => frames_of fun s => execFrameMarkerStart_keeps (Keeps.refl _ s) rfl n,
   fun n => frames_of fun s => execFrameMarkerEnd_keeps (Keeps.refl _ s) rfl n,
   fun ir => frames_of fun s => execTapInstruction_keeps (Keeps.refl _ s) rfl ir,
   frames_of fun s => execTapReset_keeps (Keeps.refl _ s) rfl,
   fun dev => frames_of fun s => execRefclkGate_keeps (Keeps.refl _ s) rfl dev,
   frames_of fun s => execRefclkLost_keeps (Keeps.refl _ s) rfl,
   frames_of fun s => execRefclkBack_keeps (Keeps.refl _ s) rfl,
   frames_of fun s => execPcieRefclkLost_keeps (Keeps.refl _ s) rfl,
   fun which => frames_of fun s => execClkPllRelock_keeps (Keeps.refl _ s) rfl which,
   fun which => frames_of fun s => execClkPllUnlock_keeps (Keeps.refl _ s) rfl which,
   frames_of fun s => execAonMonitorRelease_keeps (Keeps.refl _ s) rfl⟩

/-- Settles O54: each command of the time base keeps what its law of components says. -/
theorem timeFrames : Obligations.TimeFrames :=
  ⟨frames_of fun s => execPhasePllFirstLock_keeps (Keeps.refl _ s) rfl,
   frames_of fun s => execPhaseUnlock_keeps (Keeps.refl _ s) rfl,
   frames_of fun s => execPhaseRelock_keeps (Keeps.refl _ s) rfl,
   frames_of fun s => execAgeingFold_keeps (Keeps.refl _ s) rfl,
   fun fn => frames_of fun s => execTbNowFracRead_keeps (Keeps.refl _ s) rfl fn,
   fun w => frames_of fun s => execAdjRateChange_keeps (Keeps.refl _ s) rfl w,
   fun w => frames_of fun s => execAdjSlewStart_keeps (Keeps.refl _ s) rfl w,
   fun w => frames_of fun s => execAdjStep_keeps (Keeps.refl _ s) rfl w,
   fun w => frames_of fun s => execAdjAbort_keeps (Keeps.refl _ s) rfl w,
   fun w => frames_of fun s => execAdjTrace_keeps (Keeps.refl _ s) rfl w,
   frames_of fun s => execSlewDone_keeps (Keeps.refl _ s) rfl,
   fun w => frames_of fun s => execSrcChangeDeclare_keeps (Keeps.refl _ s) rfl w,
   fun w => frames_of fun s => execChangeOfSource_keeps (Keeps.refl _ s) rfl w,
   fun sub => frames_of fun s => execPpsInEdge_keeps (Keeps.refl _ s) rfl sub,
   frames_of fun s => execSourceQualified_keeps (Keeps.refl _ s) rfl,
   frames_of fun s => execPpsLost_keeps (Keeps.refl _ s) rfl,
   frames_of fun s => execRef10mLost_keeps (Keeps.refl _ s) rfl,
   frames_of fun s => execRef10mReturn_keeps (Keeps.refl _ s) rfl,
   fun op => frames_of fun s => execServoCorrection_keeps (Keeps.refl _ s) rfl op,
   frames_of fun s => execHostTraceTimeout_keeps (Keeps.refl _ s) rfl,
   frames_of fun s => execHoldoverLimit_keeps (Keeps.refl _ s) rfl,
   fun fn m => frames_of fun s => execTbTxtsPop_keeps (Keeps.refl _ s) rfl fn m⟩

/-- Settles O55: each command of the time-interval cores and the converters keeps what its law of components says. -/
theorem converterFrames : Obligations.ConverterFrames :=
  ⟨fun n i rising => frames_of fun s => execEdgeCapture_keeps (Keeps.refl _ s) rfl n i rising,
   fun fn n => frames_of fun s => execTimTagPop_keeps (Keeps.refl _ s) rfl fn n,
   fun w => frames_of fun s => execTimCalStart_keeps (Keeps.refl _ s) rfl w,
   fun p w => frames_of fun s => execTimCoreStart_keeps (Keeps.refl _ s) rfl p w,
   frames_of fun s => execTimCalPeriodic_keeps (Keeps.refl _ s) rfl,
   fun p counts temp => frames_of fun s => execTimCalRunEnd_keeps (Keeps.refl _ s) rfl p counts temp,
   fun p temp => frames_of fun s => execTimCalStale_keeps (Keeps.refl _ s) rfl p temp,
   fun n => frames_of fun s => execTdcSpareSwitch_keeps (Keeps.refl _ s) rfl n,
   fun x => frames_of fun s => execFreqGateEnd_keeps (Keeps.refl _ s) rfl x,
   fun g => frames_of fun s => execCgLost_keeps (Keeps.refl _ s) rfl g,
   fun g w => frames_of fun s => execRefEnWrite_keeps (Keeps.refl _ s) rfl g w,
   fun g => frames_of fun s => execCnvRefOk_keeps (Keeps.refl _ s) rfl g,
   fun g w => frames_of fun s => execCnvApply_keeps (Keeps.refl _ s) rfl g w,
   fun g => frames_of fun s => execCnvPllLocked_keeps (Keeps.refl _ s) rfl g,
   fun g => frames_of fun s => execPllUnlock_keeps (Keeps.refl _ s) rfl g,
   fun g => frames_of fun s => execPllRelock_keeps (Keeps.refl _ s) rfl g,
   fun g => frames_of fun s => execCnvLocked_keeps (Keeps.refl _ s) rfl g,
   fun g => frames_of fun s => execLockLost_keeps (Keeps.refl _ s) rfl g,
   fun g res => frames_of fun s => execSurveyStepEnd_keeps (Keeps.refl _ s) rfl g res,
   fun i sl mean power loud stuck => frames_of fun s => execSliceMonitorWindow_keeps (Keeps.refl _ s) rfl i sl mean power loud stuck,
   fun g w => frames_of fun s => execSurveyEnWrite_keeps (Keeps.refl _ s) rfl g w,
   fun i w => frames_of fun s => execCnvInEnWrite_keeps (Keeps.refl _ s) rfl i w,
   fun d => frames_of fun s => execDieLinkDown_keeps (Keeps.refl _ s) rfl d,
   fun d => frames_of fun s => execDieLinkUp_keeps (Keeps.refl _ s) rfl d⟩

/-- Settles O56: each command of the slots, the resampler and the beams keeps what its law of components says. -/
theorem pipelineFrames : Obligations.PipelineFrames :=
  ⟨fun win w => frames_of fun s => execChpBind_keeps (Keeps.refl _ s) rfl win w,
   fun win w => frames_of fun s => execChpUnbind_keeps (Keeps.refl _ s) rfl win w,
   fun win w => frames_of fun s => execChpCommit_keeps (Keeps.refl _ s) rfl win w,
   fun d off w => frames_of fun s => execDistrictWindowWrite_keeps (Keeps.refl _ s) rfl d off w,
   fun line asserted => frames_of fun s => execBlankEdge_keeps (Keeps.refl _ s) rfl line asserted,
   fun n i x => frames_of fun s => execSourceSample_keeps (Keeps.refl _ s) rfl n i x,
   fun g i => frames_of fun s => execCgTag_keeps (Keeps.refl _ s) rfl g i,
   fun g => frames_of fun s => execCgTagMissing_keeps (Keeps.refl _ s) rfl g,
   fun g => frames_of fun s => execCoastTimeout_keeps (Keeps.refl _ s) rfl g,
   fun n => frames_of fun s => execGridSampleEmit_keeps (Keeps.refl _ s) rfl n,
   fun n => frames_of fun s => execSourceResume_keeps (Keeps.refl _ s) rfl n,
   fun n => frames_of fun s => execSpectrumReady_keeps (Keeps.refl _ s) rfl n,
   fun b => frames_of fun s => execBeamSum_keeps (Keeps.refl _ s) rfl b,
   fun b => frames_of fun s => execChainWaitExpiry_keeps (Keeps.refl _ s) rfl b,
   fun w => frames_of fun s => execBfmCommit_keeps (Keeps.refl _ s) rfl w,
   fun a => frames_of fun s => execBmacFail_keeps (Keeps.refl _ s) rfl a,
   fun n ofBeam => frames_of fun s => execIntegrationEnd_keeps (Keeps.refl _ s) rfl n ofBeam,
   frames_of fun s => execItemComplete_keeps (Keeps.refl _ s) rfl⟩

/-- Settles O57: each command of the front end, calibration, triggers and captures keeps what its law of components says. -/
theorem frontEndFrames : Obligations.FrontEndFrames :=
  ⟨fun w => frames_of fun s => execSfeBind_keeps (Keeps.refl _ s) rfl w,
   fun w => frames_of fun s => execSfeUnbind_keeps (Keeps.refl _ s) rfl w,
   fun w => frames_of fun s => execSfeCommit_keeps (Keeps.refl _ s) rfl w,
   fun q => frames_of fun s => execExcRampEnd_keeps (Keeps.refl _ s) rfl q,
   fun q => frames_of fun s => execExcRangeSettled_keeps (Keeps.refl _ s) rfl q,
   fun q sense limit => frames_of fun s => execExcSenseMeasure_keeps (Keeps.refl _ s) rfl q sense limit,
   fun p => frames_of fun s => execPcvCycleStart_keeps (Keeps.refl _ s) rfl p,
   fun p convs => frames_of fun s => execPcvEntryEnd_keeps (Keeps.refl _ s) rfl p convs,
   fun p w => frames_of fun s => execPcvUrgGo_keeps (Keeps.refl _ s) rfl p w,
   fun p => frames_of fun s => execUrgentArrive_keeps (Keeps.refl _ s) rfl p,
   fun w => frames_of fun s => execPcvRefEnWrite_keeps (Keeps.refl _ s) rfl w,
   frames_of fun s => execPcvRefOk_keeps (Keeps.refl _ s) rfl,
   frames_of fun s => execPauseEnd_keeps (Keeps.refl _ s) rfl,
   fun p err => frames_of fun s => execPcvMidscaleCheck_keeps (Keeps.refl _ s) rfl p err,
   fun n badA badB => frames_of fun s => execTrimPageLoad_keeps (Keeps.refl _ s) rfl n badA badB,
   fun conv zero ref temp => frames_of fun s => execCalMeasureDone_keeps (Keeps.refl _ s) rfl conv zero ref temp,
   fun ok => frames_of fun s => execNvmCopyWritten_keeps (Keeps.refl _ s) rfl ok,
   fun t w => frames_of fun s => execTrgArm_keeps (Keeps.refl _ s) rfl t w,
   fun t w => frames_of fun s => execTrgDisarm_keeps (Keeps.refl _ s) rfl t w,
   frames_of fun s => execTriggerOffer_keeps (Keeps.refl _ s) rfl,
   frames_of fun s => execTrgPulseEnd_keeps (Keeps.refl _ s) rfl,
   fun t => frames_of fun s => execTrgRearm_keeps (Keeps.refl _ s) rfl t,
   fun n low => frames_of fun s => execIlineEdge_keeps (Keeps.refl _ s) rfl n low,
   fun n => frames_of fun s => execIlineStuck_keeps (Keeps.refl _ s) rfl n,
   fun port data => frames_of fun s => execNetTriggerRx_keeps (Keeps.refl _ s) rfl port data,
   fun t w => frames_of fun s => execTrgOutFire_keeps (Keeps.refl _ s) rfl t w,
   fun w => frames_of fun s => execTrgNetClr_keeps (Keeps.refl _ s) rfl w,
   fun seq => frames_of fun s => execCaptureClose_keeps (Keeps.refl _ s) rfl seq,
   fun q => frames_of fun s => execCurrentLimit_keeps (Keeps.refl _ s) rfl q,
   frames_of fun s => execFixedModeEdge_keeps (Keeps.refl _ s) rfl⟩

/-- Settles O58: each command of compression, queues and roundabouts keeps what its law of components says. -/
theorem storageFrames : Obligations.StorageFrames :=
  ⟨fun w => frames_of fun s => execRingCtlWrite_keeps (Keeps.refl _ s) rfl w,
   fun n w => frames_of fun s => execCmpRawWrite_keeps (Keeps.refl _ s) rfl n w,
   fun rec n offered => frames_of fun s => execTileClose_keeps (Keeps.refl _ s) rfl rec n offered,
   fun q => frames_of fun s => execEncResume_keeps (Keeps.refl _ s) rfl q,
   fun x => frames_of fun s => execCmpEngFault_keeps (Keeps.refl _ s) rfl x,
   fun q => frames_of fun s => execRecordTileFlush_keeps (Keeps.refl _ s) rfl q,
   fun b w => frames_of fun s => execCmpJobPiWrite_keeps (Keeps.refl _ s) rfl b w,
   fun b w => frames_of fun s => execCmpJobDisable_keeps (Keeps.refl _ s) rfl b w,
   fun b fail desc src => frames_of fun s => execJobDecode_keeps (Keeps.refl _ s) rfl b fail desc src,
   fun b w => frames_of fun s => execCmpJobMore_keeps (Keeps.refl _ s) rfl b w,
   fun b w => frames_of fun s => execCmpJobAbort_keeps (Keeps.refl _ s) rfl b w,
   fun w => frames_of fun s => execQueEnable_keeps (Keeps.refl _ s) rfl w,
   fun w => frames_of fun s => execQueDisable_keeps (Keeps.refl _ s) rfl w,
   fun w => frames_of fun s => execQueFlush_keeps (Keeps.refl _ s) rfl w,
   fun q => frames_of fun s => execPlotRequest_keeps (Keeps.refl _ s) rfl q,
   fun q hq => frames_of fun s => execPlotRetry_keeps (Keeps.refl _ s) rfl q hq,
   fun q => frames_of fun s => execUnitWrite_keeps (Keeps.refl _ s) rfl q,
   frames_of fun s => execPlotCopyDone_keeps (Keeps.refl _ s) rfl,
   fun k pick cut => frames_of fun s => execEgressFrame_keeps (Keeps.refl _ s) rfl k pick cut,
   fun q => frames_of fun s => execEgressStall_keeps (Keeps.refl _ s) rfl q,
   fun id off uncorr => frames_of fun s => execPlotEccError_keeps (Keeps.refl _ s) rfl id off uncorr,
   fun n part w => frames_of fun s => execPqFlush_keeps (Keeps.refl _ s) rfl n part w,
   fun n => frames_of fun s => execPopStallTimeout_keeps (Keeps.refl _ s) rfl n,
   fun fn j => frames_of fun s => execSysPqMonPop_keeps (Keeps.refl _ s) rfl fn j,
   fun j => frames_of fun s => execMonSnapshot_keeps (Keeps.refl _ s) rfl j,
   fun k l lines bad => frames_of fun s => execArbDecision_keeps (Keeps.refl _ s) rfl k l lines bad⟩

/-- Settles O59: each command of the lanes and the Spaxa links keeps what its law of components says. -/
theorem linkFrames : Obligations.LinkFrames :=
  ⟨fun sh w => frames_of fun s => execSheetStart_keeps (Keeps.refl _ s) rfl sh w,
   fun sh w => frames_of fun s => execSheetStop_keeps (Keeps.refl _ s) rfl sh w,
   fun sh l => frames_of fun s => execLaneDetectDone_keeps (Keeps.refl _ s) rfl sh l,
   fun sh l => frames_of fun s => execLaneLockDone_keeps (Keeps.refl _ s) rfl sh l,
   fun sh l margins => frames_of fun s => execLaneEqDone_keeps (Keeps.refl _ s) rfl sh l margins,
   fun sh l ident inv => frames_of fun s => execLaneAlignDone_keeps (Keeps.refl _ s) rfl sh l ident inv,
   fun sh skew => frames_of fun s => execSheetUp_keeps (Keeps.refl _ s) rfl sh skew,
   fun sh l => frames_of fun s => execBringupStageTimeout_keeps (Keeps.refl _ s) rfl sh l,
   fun sh => frames_of fun s => execBringupRetry_keeps (Keeps.refl _ s) rfl sh,
   fun sh l => frames_of fun s => execLaneLos_keeps (Keeps.refl _ s) rfl sh l,
   fun sh l => frames_of fun s => execLaneLosClear_keeps (Keeps.refl _ s) rfl sh l,
   fun sh l => frames_of fun s => execLaneLol_keeps (Keeps.refl _ s) rfl sh l,
   fun sh l v h => frames_of fun s => execEyeMeasure_keeps (Keeps.refl _ s) rfl sh l v h,
   fun sh l inv => frames_of fun s => execPrbsLock_keeps (Keeps.refl _ s) rfl sh l inv,
   fun sh l n e => frames_of fun s => execPrbsLost_keeps (Keeps.refl _ s) rfl sh l n e,
   fun sh l w => frames_of fun s => execPrbsInject_keeps (Keeps.refl _ s) rfl sh l w,
   fun sh l w => frames_of fun s => execPrbsClr_keeps (Keeps.refl _ s) rfl sh l w,
   fun sh w => frames_of fun s => execSheetSub_keeps (Keeps.refl _ s) rfl sh w,
   fun sh w => frames_of fun s => execNarrowWrite_keeps (Keeps.refl _ s) rfl sh w,
   fun sh l w => frames_of fun s => execLaneSleepWrite_keeps (Keeps.refl _ s) rfl sh l w,
   fun sh l data => frames_of fun s => execTrainingSetRx_keeps (Keeps.refl _ s) rfl sh l data,
   fun sh => frames_of fun s => execTrainAttemptTimeout_keeps (Keeps.refl _ s) rfl sh,
   fun sh => frames_of fun s => execTrainBackoffEnd_keeps (Keeps.refl _ s) rfl sh,
   fun sh l i syms => frames_of fun s => execBlockRx_keeps (Keeps.refl _ s) rfl sh l i syms,
   fun sh => frames_of fun s => execFlitRx_keeps (Keeps.refl _ s) rfl sh,
   fun sh => frames_of fun s => execReplayTimeout_keeps (Keeps.refl _ s) rfl sh,
   fun sh => frames_of fun s => execClaimRx_keeps (Keeps.refl _ s) rfl sh,
   fun sh => frames_of fun s => execGrantRx_keeps (Keeps.refl _ s) rfl sh,
   fun sh => frames_of fun s => execRefuseRx_keeps (Keeps.refl _ s) rfl sh,
   fun sh => frames_of fun s => execDoneRx_keeps (Keeps.refl _ s) rfl sh,
   fun sh => frames_of fun s => execSpareReadyRx_keeps (Keeps.refl _ s) rfl sh,
   fun sh => frames_of fun s => execSwitchRx_keeps (Keeps.refl _ s) rfl sh,
   fun sh => frames_of fun s => execRestoreRx_keeps (Keeps.refl _ s) rfl sh,
   fun sh => frames_of fun s => execXchgTimeout_keeps (Keeps.refl _ s) rfl sh,
   fun sh => frames_of fun s => execDozeIdle_keeps (Keeps.refl _ s) rfl sh,
   fun sh full => frames_of fun s => execSampleRx_keeps (Keeps.refl _ s) rfl sh full,
   fun sh => frames_of fun s => execDeclareRx_keeps (Keeps.refl _ s) rfl sh,
   fun sh => frames_of fun s => execPartialRx_keeps (Keeps.refl _ s) rfl sh,
   fun sh => frames_of fun s => execQueueFlitRx_keeps (Keeps.refl _ s) rfl sh,
   fun sh => frames_of fun s => execBeaconTx_keeps (Keeps.refl _ s) rfl sh,
   fun sh => frames_of fun s => execBeaconRx_keeps (Keeps.refl _ s) rfl sh,
   fun sh => frames_of fun s => execBeaconLost_keeps (Keeps.refl _ s) rfl sh,
   fun sh i => frames_of fun s => execBlockTx_keeps (Keeps.refl _ s) rfl sh i⟩

/-- Settles O60: each command of the uplinks, the PCIe port, the command engine and the events keeps what its law of components says. -/
theorem netFrames : Obligations.NetFrames :=
  ⟨fun n => frames_of fun s => execMergeTimeout_keeps (Keeps.refl _ s) rfl n,
   fun p data => frames_of fun s => execHeartbeatRx_keeps (Keeps.refl _ s) rfl p data,
   frames_of fun s => execHeartbeatTx_keeps (Keeps.refl _ s) rfl,
   fun p => frames_of fun s => execHeartbeatTimeout_keeps (Keeps.refl _ s) rfl p,
   fun p => frames_of fun s => execPortFaultHeld_keeps (Keeps.refl _ s) rfl p,
   fun j w => frames_of fun s => execRouteSideWrite_keeps (Keeps.refl _ s) rfl j w,
   fun q => frames_of fun s => execRewindExpiry_keeps (Keeps.refl _ s) rfl q,
   fun m w descs => frames_of fun s => execHtxPiWrite_keeps (Keeps.refl _ s) rfl m w descs,
   fun m w bufs => frames_of fun s => execHrxPiWrite_keeps (Keeps.refl _ s) rfl m w bufs,
   fun fn => frames_of fun s => execFunctionLevelReset_keeps (Keeps.refl _ s) rfl fn,
   fun n => frames_of fun s => execVfDisable_keeps (Keeps.refl _ s) rfl n,
   frames_of fun s => execPcieLinkDown_keeps (Keeps.refl _ s) rfl,
   frames_of fun s => execPcieLinkUp_keeps (Keeps.refl _ s) rfl,
   fun w => frames_of fun s => execPtmStart_keeps (Keeps.refl _ s) rfl w,
   frames_of fun s => execPtmDialog_keeps (Keeps.refl _ s) rfl,
   fun master delay => frames_of fun s => execPtmResponseRx_keeps (Keeps.refl _ s) rfl master delay,
   frames_of fun s => execPtmTimeout_keeps (Keeps.refl _ s) rfl,
   fun fn v => frames_of fun s => execMsixModerationEnd_keeps (Keeps.refl _ s) rfl fn v,
   fun fn op => frames_of fun s => execMsixUnmask_keeps (Keeps.refl _ s) rfl fn op,
   fun w => frames_of fun s => execCmdKeyLoad_keeps (Keeps.refl _ s) rfl w,
   fun w => frames_of fun s => execCmdKeyClear_keeps (Keeps.refl _ s) rfl w,
   fun b r w => frames_of fun s => execCringEnable_keeps (Keeps.refl _ s) rfl b r w,
   fun b w => frames_of fun s => execBrgCtlReset_keeps (Keeps.refl _ s) rfl b w,
   fun b => frames_of fun s => execBoroughResetDone_keeps (Keeps.refl _ s) rfl b,
   fun i w => frames_of fun s => execDeliveryDoorbell_keeps (Keeps.refl _ s) rfl i w,
   fun w => frames_of fun s => execDbEvtSrc_keeps (Keeps.refl _ s) rfl w,
   fun w => frames_of fun s => execDbEvtAll_keeps (Keeps.refl _ s) rfl w,
   fun d => frames_of fun s => execGazCopyTx_keeps (Keeps.refl _ s) rfl d,
   fun d e => frames_of fun s => execGazRetry_keeps (Keeps.refl _ s) rfl d e,
   fun e env => frames_of fun s => execGazOutcomeRx_keeps (Keeps.refl _ s) rfl e env,
   fun d => frames_of fun s => execGazCollectEnd_keeps (Keeps.refl _ s) rfl d,
   fun payload => frames_of fun s => execFaultReportRx_keeps (Keeps.refl _ s) rfl payload,
   fun subject cls => frames_of fun s => execDigestClose_keeps (Keeps.refl _ s) rfl subject cls,
   frames_of fun s => execEvtWindowEnd_keeps (Keeps.refl _ s) rfl,
   fun k w => frames_of fun s => execEvtPendWrite_keeps (Keeps.refl _ s) rfl k w,
   fun fails => frames_of fun s => execLogWrite_keeps (Keeps.refl _ s) rfl fails,
   frames_of fun s => execLogScan_keeps (Keeps.refl _ s) rfl,
   fun d w => frames_of fun s => execPwrDown_keeps (Keeps.refl _ s) rfl d w,
   fun d w => frames_of fun s => execPwrUp_keeps (Keeps.refl _ s) rfl d w,
   fun d => frames_of fun s => execDrainComplete_keeps (Keeps.refl _ s) rfl d,
   fun d => frames_of fun s => execDrainTimeout_keeps (Keeps.refl _ s) rfl d,
   fun d => frames_of fun s => execWakeComplete_keeps (Keeps.refl _ s) rfl d,
   fun d => frames_of fun s => execWakeTimeout_keeps (Keeps.refl _ s) rfl d,
   fun p corrected => frames_of fun s => execEngFail_keeps (Keeps.refl _ s) rfl p corrected,
   fun n => frames_of fun s => execSlotFail_keeps (Keeps.refl _ s) rfl n,
   fun k dog run => frames_of fun s => execCoreFail_keeps (Keeps.refl _ s) rfl k dog run,
   fun p kind => frames_of fun s => execPcsFault_keeps (Keeps.refl _ s) rfl p kind,
   fun p => frames_of fun s => execPcsFaultClear_keeps (Keeps.refl _ s) rfl p,
   fun fn bme ptm => frames_of fun s => execBusMasterEnableWrite_keeps (Keeps.refl _ s) rfl fn bme ptm⟩

end Sys2Proof.Machine

namespace Sys2Proof.Machine

/-! SUPPORT and the statement of the links and the routes: the LINK and ROUTE opcodes. -/

/-! ## The LINK opcodes (R463, R472, R552) -/

section
variable {p : Packet} {u : State}

/-- A link's parameters where its sheet is not started. -/
theorem opLinkConfig_stopped (hs : Packet.sized p 28 = true) (hn : Packet.word p 0 < 40)
    (hw : Packet.wordsOk p 1 [SPX_CTL (Packet.word p 0), SPX_TIMER (Packet.word p 0), SPX_TRAIN (Packet.word p 0), SPX_BCN (Packet.word p 0),
      SPX_ASYM (Packet.word p 0), SPX_DOZE (Packet.word p 0)] = true)
    (hb : p.borough % 32 = 0) (stopped : u.isSet (LNE_SHEET_CTL_START (Packet.word p 0)) = false) :
    opLinkConfig p u = (.now 0 [], u.unitWords p [SPX_CTL (Packet.word p 0), SPX_TIMER (Packet.word p 0), SPX_TRAIN (Packet.word p 0),
      SPX_BCN (Packet.word p 0), SPX_ASYM (Packet.word p 0), SPX_DOZE (Packet.word p 0)]) := by
  rw [opLinkConfig, unitCmd_passes hs hn hw hb]
  simp only [stopped, Bool.false_and, Bool.false_eq_true, if_false, State.say]

/-- A word of the receive map without `VALID`, and without a bit that is reserved. -/
theorem rxWord_invalid {v : Nat} (h : bits v 31 14 = 0) : bits v 30 14 = 0 ∧ bit v 31 = false := by
  simp only [bits, bit, decide_eq_false_iff_not] at *
  omega

section
variable {n : Nat} (hs : Packet.sized p (8 + 4 * n) = true) (h1 : Packet.arg p 1 1 = 0) (h6 : Packet.arg p 6 2 = 0)
  (hn : Packet.arg p 4 2 = n) (hsh : Packet.arg p 0 1 < 40) (words : 1 ≤ n) (fits : Packet.arg p 2 2 + n ≤ 4096)
  (plain : ∀ v ∈ (List.range n).map (fun i => Packet.word p (2 + i)), bits v 30 14 = 0) (hb : p.borough % 32 = 0)
include hs h1 h6 hn hsh words fits plain hb

/-- The receive map takes its words, unless a VALID one names no ON stream-in queue. -/
theorem opLinkRxmap_passes : opLinkRxmap p u =
    if ((List.range n).map (fun i => Packet.word p (2 + i))).any (fun v =>
      bit v 31 && !(u.get (QUE_STAT_STATE (bits v 13 0)) == 1 && u.get (QUE_CFG0_TYPE (bits v 13 0)) == 1)) = true then (.now 0x420 [], u)
    else (.now 0 [], (List.range n).foldl (fun (s : State) i => s.setTab (0x1580000 + 0x4000 * Packet.arg p 0 1 +
      4 * (Packet.arg p 2 2 + i)) (w32 (((List.range n).map (fun i => Packet.word p (2 + i))).getD i 0))) u) := by
  have form : ((List.range n).map (fun i => Packet.word p (2 + i))).all (fun v => bits v 30 14 == 0) = true :=
    List.all_eq_true.2 fun v hv => by simp [plain v hv]
  subst hn
  rw [opLinkRxmap, ownerCmd_passes (by simp only [hs, h1, h6, hsh, words, fits, form]; rfl) hb]
  rfl

end

end

/-! ## The ROUTE opcodes (R473, R476, R477, R482 to R487, R552) -/

section
variable {p : Packet} {u : State}

theorem opRouteMac_passes (hs : Packet.sized p 8 = true) (mode : bits (Packet.word p 1) 31 30 ≠ 3) (hm : Packet.word p 0 < 16)
    (hw : Packet.wordsOk p 1 [ETH_MAC_CFG (Packet.word p 0)] = true) (hb : p.borough % 32 = 0)
    (takes : u.macRefuses (Packet.word p 0) (Packet.word p 1) = false) :
    opRouteMac p u = (.now 0 [], u.macCfgWrite (Packet.word p 0) (pf (Packet.word p 1))) := by
  have encoded : (bits (Packet.word p 1) 31 30 == 3) = false := by simpa using mode
  simp only [opRouteMac, hs, encoded, Bool.and_false, Bool.false_eq_true, if_false]
  rw [unitCmd_passes hs hm hw hb]
  simp only [takes, Bool.false_eq_true, if_false, State.say]

theorem opRoutePair_free (hs : Packet.sized p 8 = true) (hj : Packet.word p 0 < 16)
    (hw : Packet.wordsOk p 1 [RED_PAIR (Packet.word p 0)] = true) (hb : p.borough % 32 = 0)
    (free : u.pairFree (Packet.word p 0) (setBits (Packet.word p 1) 17 17 (u.get (RED_PAIR_SIDE (Packet.word p 0)))) = true) :
    opRoutePair p u = (.now 0 [], u.pairWrite (Packet.word p 0)
      (pf (setBits (Packet.word p 1) 17 17 (u.get (RED_PAIR_SIDE (Packet.word p 0)))))) := by
  rw [opRoutePair, unitCmd_passes hs hj hw hb]
  simp only [free, Bool.not_true, Bool.false_eq_true, if_false, State.say]

/-- A side of a pair is chosen, or reported where it is active already (R486). -/
theorem opRouteSide_passes (hs : Packet.sized p 4 = true) (h2 : Packet.arg p 2 2 = 0) (hj : Packet.arg p 0 1 < 16)
    (side : boolByte (Packet.arg p 1 1) = true) (hb : p.borough % 32 = 0) :
    opRouteSide p u = (.now 0 [], if u.get (RED_PAIR_SIDE (Packet.arg p 0 1)) = Packet.arg p 1 1
      then u.raise evRED_ROUTE_CMD (Packet.arg p 0 1) [.w4 (Packet.arg p 1 1)] else u.sideWrite (Packet.arg p 0 1) (Packet.arg p 1 1)) := by
  rw [opRouteSide, ownerCmd_passes (by simp [hs, h2, hj, side]) hb]
  split <;> rfl

/-- An entry of a route table that no ON queue uses takes the eight words. -/
theorem entryCmd_free {ok : Bool} {base i : Nat} (hs : Packet.sized p 36 = true) (hk : ok = true) (hb : p.borough % 32 = 0)
    (free : u.routeBusy (base + 32 * i) = false) :
    entryCmd ok base i p u = (.now 0 [], (List.range 8).foldl (fun (s : State) w =>
      s.hitPut (directWord (base + 32 * i + 4 * w - 0x1000000)) (2 ^ 32 - 1) (Packet.word p (1 + w))) u) := by
  rw [entryCmd, ownerCmd_passes (by simp [hs, hk]) hb]
  simp only [free, Bool.false_eq_true, if_false, State.say]

end

/-- Settles O49: each opcode passes its checks and answers at once. -/
theorem routeOpcodesComplete : Obligations.RouteOpcodesComplete := by
  refine ⟨?config, ?rxmap, ?rxmapRefused, ?linkStatus, ?mac, ?pair, ?side, ?sideActive, ?policy, ?heartbeat, ?stream, ?address, ?port,
    ?status⟩
  case config =>
    rintro s u p n l a hu hs rfl hn rfl hw hb stopped
    have d : Delivers (.linkConfig p) 0x0C01 false opLinkConfig p := fun _ => rfl
    exact d.answers a hu (opLinkConfig_stopped hs hn hw hb stopped)
  case rxmap =>
    rintro s u p sh first n ws a hu hs h1 h6 rfl rfl hn rfl hsh words fits invalid hb
    have d : Delivers (.linkRxmap p) 0x0C02 false opLinkRxmap p := fun _ => rfl
    have none : ((List.range n).map (fun i => Packet.word p (2 + i))).any (fun v =>
        bit v 31 && !(u.get (QUE_STAT_STATE (bits v 13 0)) == 1 && u.get (QUE_CFG0_TYPE (bits v 13 0)) == 1)) = false :=
      List.any_eq_false.2 fun v hv => by simp [(rxWord_invalid (invalid v hv)).2]
    have acts := opLinkRxmap_passes (u := u) hs h1 h6 hn.symm hsh words fits (fun v hv => (rxWord_invalid (invalid v hv)).1) hb
    rw [if_neg (by simp only [none, Bool.false_eq_true, not_false_eq_true])] at acts
    exact d.answers a hu acts
  case rxmapRefused =>
    rintro s u p v a hu hs h1 h6 hsh hn hfirst rfl plain valid off hb
    have d : Delivers (.linkRxmap p) 0x0C02 false opLinkRxmap p := fun _ => rfl
    have acts := opLinkRxmap_passes (u := u) (n := 1) hs h1 h6 hn hsh (Nat.le_refl 1) hfirst (by simpa using plain) hb
    rw [if_pos (by simp [valid, off])] at acts
    exact d.answers a hu acts
  case linkStatus =>
    rintro s u p n a hu hs rfl hn hb
    have d : Delivers (.linkStatus p) 0x0C03 false opLinkStatus p := fun _ => rfl
    exact d.answers a hu (unitCmd_passes (regs := fun _ => []) hs hn rfl hb)
  case mac =>
    rintro s u p m v a hu hs rfl rfl mode hm hw hb takes
    have d : Delivers (.routeMac p) 0x0D01 false opRouteMac p := fun _ => rfl
    exact d.answers a hu (opRouteMac_passes hs mode hm hw hb takes)
  case pair =>
    rintro s u p j v a hu hs rfl hj hw hb rfl free
    have d : Delivers (.routePair p) 0x0D02 false opRoutePair p := fun _ => rfl
    exact d.answers a hu (opRoutePair_free hs hj hw hb free)
  case side =>
    rintro s u p j r a hu hs h2 rfl rfl hj side hb other
    have d : Delivers (.routeSide p) 0x0D03 false opRouteSide p := fun _ => rfl
    have acts := opRouteSide_passes (u := u) hs h2 hj side hb
    rw [if_neg other] at acts
    exact d.answers a hu acts
  case sideActive =>
    rintro s u p j r a hu hs h2 rfl rfl hj side hb active
    have d : Delivers (.routeSide p) 0x0D03 false opRouteSide p := fun _ => rfl
    have acts := opRouteSide_passes (u := u) hs h2 hj side hb
    rw [if_pos active] at acts
    exact d.answers a hu acts
  case policy =>
    rintro s u p arm a hu hs rfl armed hb
    have d : Delivers (.routePolicy p) 0x0D04 false opRoutePolicy p := fun _ => rfl
    exact d.answers a hu (by rw [opRoutePolicy, ownerCmd_passes (by simp [hs, armed]) hb, State.say])
  case heartbeat =>
    intro s u p a hu hs hw port hb
    have d : Delivers (.routeHeartbeat p) 0x0D05 false opRouteHeartbeat p := fun _ => rfl
    exact d.answers a hu (ownerCmd_passes (by simp [hs, hw, port]) hb)
  case stream =>
    rintro s u p i a hu hs rfl hi h2 hb free
    have d : Delivers (.routeStream p) 0x0D06 false opRouteStream p := fun _ => rfl
    exact d.answers a hu (entryCmd_free hs (by simp [hi, h2]) hb free)
  case address =>
    rintro s u p i a hu hs rfl h1 hb free
    have d : Delivers (.routeAddress p) 0x0D07 false opRouteAddress p := fun _ => rfl
    exact d.answers a hu (entryCmd_free hs (by simp [h1]) hb free)
  case port =>
    rintro s u p i a hu hs rfl hi h1 hb free
    have d : Delivers (.routePort p) 0x0D08 false opRoutePort p := fun _ => rfl
    exact d.answers a hu (entryCmd_free hs (by simp [hi, h1]) hb free)
  case status =>
    intro s u p a hu hs hb
    have d : Delivers (.routeStatus p) 0x0D09 false opRouteStatus p := fun _ => rfl
    exact d.answers a hu (ownerCmd_passes hs hb)

end Sys2Proof.Machine

namespace Sys2Proof.Machine

/-! SUPPORT and the statements of the configuration, the converters and the boroughs: the CFG, CNV and BRG opcodes. -/

/-! ## The CFG opcodes (R439, R477, R543, R545) -/

section
variable {p : Packet} {u : State}

theorem opCfgHubId_passes (hs : Packet.sized p 4 = true) (hw : Packet.wordsOk p 0 [SYS_HUB_ID] = true) (hb : p.borough % 32 = 0)
    (free : u.hubIdHeld = false) : opCfgHubId p u = (.now 0 [], u.hubIdWrite (pf (Packet.word p 0))) := by
  rw [opCfgHubId, ownerCmd_passes (by simp only [hs, hw, Bool.and_self]) hb]
  simp only [free, Bool.false_eq_true, if_false, State.say]

/-- Registers that are there and that no read acts on. -/
theorem opCfgRegRead_passes (hs : Packet.sized p 8 = true) (h6 : Packet.arg p 6 2 = 0) (atLeast : 1 ≤ Packet.arg p 4 2)
    (atMost : Packet.arg p 4 2 ≤ 1000) (hb : p.borough % 32 = 0)
    (reached : ∀ i < Packet.arg p 4 2, u.cfgReaches (Packet.arg p 0 4 + 4 * i) = true)
    (quiet : ∀ i < Packet.arg p 4 2, readActs (Packet.arg p 0 4 + 4 * i) = false) :
    opCfgRegRead p u = (.now 0 (u.peekWords (Packet.arg p 0 4) (Packet.arg p 4 2)).1,
      (u.peekWords (Packet.arg p 0 4) (Packet.arg p 4 2)).2) := by
  have allReached : ((List.range (Packet.arg p 4 2)).map (fun i => Packet.arg p 0 4 + 4 * i)).any (fun o => !u.cfgReaches o) = false := by
    simpa using reached
  have allQuiet : ((List.range (Packet.arg p 4 2)).map (fun i => Packet.arg p 0 4 + 4 * i)).any readActs = false := by simpa using quiet
  rw [opCfgRegRead, ownerCmd_passes (by simp [hs, h6, atLeast, atMost]) hb]
  simp only [allReached, allQuiet, Bool.false_eq_true, if_false, State.say]

theorem opCfgRegWrite_passes (hs : Packet.sized p 8 = true) (hb : p.borough % 32 = 0) (reached : u.cfgReaches (Packet.word p 0) = true)
    (plain : Packet.word p 0 ≠ SYS_RST_CTL.key) :
    opCfgRegWrite p u = (.now 0 [], u.regStore (Packet.word p 0) (pf (Packet.word p 1))) := by
  rw [opCfgRegWrite, ownerCmd_passes hs hb]
  simp only [reached, plain, Bool.not_true, Bool.false_eq_true, if_false, State.say]

theorem opCfgTableWrite_passes (form : tableForm p = true) (hs : Packet.sized p (8 + 4 * Packet.arg p 2 2) = true) (hb : p.borough % 32 = 0)
    (plain : (u.tablePlaces p).all (fun h => h.plain) = true) (free : (u.tablePlaces p).any u.placeInUse = false) :
    opCfgTableWrite p u = (.now 0 [], u.tableWords p 2 (u.tablePlaces p)) := by
  have writable : (u.tablePlaces p).any (fun h => !h.plain) = false := by rw [← List.not_all_eq_any_not, plain]; rfl
  rw [opCfgTableWrite, ownerCmd_passes (by simp only [form, hs, Bool.and_self]) hb]
  simp only [writable, free, Bool.false_eq_true, if_false, State.say]

theorem opCfgTableRead_passes {l : List Nat} (form : tableForm p = true) (hs : Packet.sized p 8 = true) (hb : p.borough % 32 = 0)
    (reads : (u.tablePlaces p).map u.hitRead = l.map some) : opCfgTableRead p u = (.now 0 (l.map w32), u) := by
  have all : (l.map some).any (fun x => x.isNone) = false := by simp
  rw [opCfgTableRead, ownerCmd_passes (by simp only [form, hs, Bool.and_self]) hb]
  simp only [reads, all, Bool.false_eq_true, if_false, State.say, List.map_map]
  rfl

end

/-! ## The CNV opcodes (R146, R159, R203, R545) -/

section
variable {p : Packet} {u : State}

theorem opCnvGroup_passes (hs : Packet.sized p 16 = true) (hg : Packet.word p 0 < 24) (present : Packet.word p 0 < u.part.groups)
    (hw : Packet.wordsOk p 1 [gCtl (Packet.word p 0), gPll (Packet.word p 0), gLock (Packet.word p 0)] = true) (hb : p.borough % 32 = 0)
    (passes : (((u.wn (gPll (Packet.word p 0)) (Packet.word p 2)).wn (gLock (Packet.word p 0)) (Packet.word p 3)).wn
      (gCtl (Packet.word p 0)) (Packet.word p 1)).applyCheck (Packet.word p 0) = 0) :
    opCnvGroup p u = (.now 0 [], ((u.wn (gPll (Packet.word p 0)) (Packet.word p 2)).wn (gLock (Packet.word p 0)) (Packet.word p 3)).grpCtlWrite
      (Packet.word p 0) (pf (setBits (Packet.word p 1) 0 0 1))) := by
  rw [opCnvGroup, ownerCmd_passes (by simp [hs, hg, hw]) hb]
  simp only [Nat.not_le.2 present, passes, ne_eq, not_true_eq_false, if_false, State.say]

/-- An input that no slot governs is enabled or disabled at once. -/
theorem opCnvInputEn_ungoverned {v : State} (hs : Packet.sized p 4 = true) (h3 : Packet.arg p 3 1 = 0)
    (present : Packet.arg p 0 2 < u.part.inputs) (en : boolByte (Packet.arg p 2 1) = true) (hb : p.borough % 32 = 0)
    (ungoverned : u.governSlot (Packet.arg p 0 2) = none)
    (hv : v = ((u.wn (CNV_IN_CTL (Packet.arg p 0 2 / 96) (Packet.arg p 0 2 % 96)) (Packet.arg p 2 1)).fwr
      (CNV_IN_CTL (Packet.arg p 0 2 / 96) (Packet.arg p 0 2 % 96)) (w32 (Packet.arg p 2 1))).inputEnable (Packet.arg p 0 2)
      (Packet.arg p 2 1 == 1) (u.mt * 2 ^ 32)) :
    opCnvInputEn p u = (.now 0 (v.commitRecord 0 0 v.mt), v) := by
  have hi : Packet.arg p 0 2 < 768 := Nat.lt_of_lt_of_le present (inputs_le u.part)
  rw [opCnvInputEn, ownerCmd_passes (by simp [hs, hi, en, h3]) hb]
  simp only [Nat.not_le.2 present, if_false, ungoverned]
  rw [← hv, sayIdle_eq]

theorem opCnvTrack_passes (hs : Packet.sized p 8 = true) (present : Packet.word p 0 < u.part.groups) (hg : Packet.word p 0 < 24)
    (hw : Packet.wordsOk p 1 [CNV_GRP_TRK (Packet.word p 0 / 3) (Packet.word p 0 % 3)] = true) (hb : p.borough % 32 = 0) :
    opCnvTrack p u =
      (.now 0 [], u.mergeRaw (CNV_GRP_TRK (Packet.word p 0 / 3) (Packet.word p 0 % 3)).key (pf (Packet.word p 1))) := by
  rw [opCnvTrack, ownerCmd_passes (by simp [hs, hg, hw]) hb]
  simp only [Nat.not_le.2 present, if_false, State.say]

theorem opCnvStatus_passes (hs : Packet.sized p 4 = true) (present : Packet.word p 0 < u.part.groups) (hg : Packet.word p 0 < 24)
    (hb : p.borough % 32 = 0) :
    opCnvStatus p u = (.now 0 (u.regWords ([CNV_GRP_STAT (Packet.word p 0 / 3) (Packet.word p 0 % 3),
      CNV_GRP_TRKST (Packet.word p 0 / 3) (Packet.word p 0 % 3), CNV_GRP_FS_LO (Packet.word p 0 / 3) (Packet.word p 0 % 3),
      CNV_GRP_FS_HI (Packet.word p 0 / 3) (Packet.word p 0 % 3)] ++ (grpInputs (Packet.word p 0)).map iStat)), u) := by
  rw [opCnvStatus, ownerCmd_passes (by simp [hs, hg]) hb]
  simp only [Nat.not_le.2 present, if_false, State.say]

end

/-- Settles O37: each opcode passes its checks and answers at once. -/
theorem configOpcodesComplete : Obligations.ConfigOpcodesComplete := by
  refine ⟨?ident, ?hubId, ?keyLoad, ?keyClear, ?keyOwn, ?udp, ?regRead, ?regWrite, ?tableWrite, ?tableRead, ?group, ?inputEn, ?track,
    ?status⟩
  case ident =>
    intro s u p a hu hs
    have d : Delivers (.cfgIdent p) 0x0101 false opCfgIdent p := fun _ => rfl
    exact d.answers a hu (anyCmd_passes hs)
  case hubId =>
    intro s u p a hu hs hw hb free
    have d : Delivers (.cfgHubId p) 0x0102 false opCfgHubId p := fun _ => rfl
    exact d.answers a hu (opCfgHubId_passes hs hw hb free)
  case keyLoad =>
    intro s u p a hu hs named hb
    have d : Delivers (.cfgKeyLoad p) 0x0103 false opCfgKeyLoad p := fun _ => rfl
    exact d.answers a hu (ownerCmd_passes (by simp [hs, named]) hb)
  case keyClear =>
    intro s u p a hu hs named hb
    have d : Delivers (.cfgKeyClear p) 0x0104 false opCfgKeyClear p := fun _ => rfl
    exact d.answers a hu (ownerCmd_passes (by simp [hs, named]) hb)
  case keyOwn =>
    intro s u p a hu hs
    have d : Delivers (.cfgKeyOwn p) 0x0105 false opCfgKeyOwn p := fun _ => rfl
    exact d.answers a hu (anyCmd_passes hs)
  case udp =>
    intro s u p a hu hs hw port hb
    have d : Delivers (.cfgUdp p) 0x0106 false opCfgUdp p := fun _ => rfl
    exact d.answers a hu (ownerCmd_passes (by simp [hs, hw, port]) hb)
  case regRead =>
    rintro s u p off n a hu hs h6 rfl rfl atLeast atMost hb reached quiet
    have d : Delivers (.cfgRegRead p) 0x0107 false opCfgRegRead p := fun _ => rfl
    exact d.answers a hu (opCfgRegRead_passes hs h6 atLeast atMost hb reached quiet)
  case regWrite =>
    intro s u p a hu hs hb reached plain
    have d : Delivers (.cfgRegWrite p) 0x0108 false opCfgRegWrite p := fun _ => rfl
    exact d.answers a hu (opCfgRegWrite_passes hs hb reached plain)
  case tableWrite =>
    intro s u p a hu form hs hb plain free
    have d : Delivers (.cfgTableWrite p) 0x0109 false opCfgTableWrite p := fun _ => rfl
    exact d.answers a hu (opCfgTableWrite_passes form hs hb plain free)
  case tableRead =>
    intro s u p l a hu form hs hb reads
    have d : Delivers (.cfgTableRead p) 0x010A false opCfgTableRead p := fun _ => rfl
    exact d.answers a hu (opCfgTableRead_passes form hs hb reads)
  case group =>
    rintro s u p g a hu hs rfl hg present hw hb passes
    have d : Delivers (.cnvGroup p) 0x0110 false opCnvGroup p := fun _ => rfl
    exact d.answers a hu (opCnvGroup_passes hs hg present hw hb passes)
  case inputEn =>
    rintro s u p v i en r a hu hs rfl rfl h3 present en hb ungoverned rfl hv
    have d : Delivers (.cnvInputEn p) 0x0111 true opCnvInputEn p := fun _ => rfl
    exact d.answers a hu (opCnvInputEn_ungoverned hs h3 present en hb ungoverned hv)
  case track =>
    rintro s u p g a hu hs rfl present hg hw hb
    have d : Delivers (.cnvTrack p) 0x0112 false opCnvTrack p := fun _ => rfl
    exact d.answers a hu (opCnvTrack_passes hs present hg hw hb)
  case status =>
    rintro s u p g a hu hs rfl present hg hb
    have d : Delivers (.cnvStatus p) 0x0113 false opCnvStatus p := fun _ => rfl
    exact d.answers a hu (opCnvStatus_passes hs present hg hb)

/-! ## The BRG opcodes (R545, R561 to R567, R577, R580) -/

section
variable {p : Packet} {u : State}

theorem opBrgQuota_passes (hs : Packet.sized p 8 = true) (hn : Packet.word p 0 < 32)
    (hw : Packet.wordsOk p 1 [PLT_QUOTA (Packet.word p 0)] = true) (hb : p.borough % 32 = 0) (runs : u.resetting (Packet.word p 0) = false)
    (fits : u.quotaOk (Packet.word p 0) (Packet.word p 1) = true) :
    opBrgQuota p u = (.now 0 [], u.mergeRaw (PLT_QUOTA (Packet.word p 0)).key (pf (Packet.word p 1))) := by
  rw [opBrgQuota, ownerCmd_passes (by simp [hs, hn, hw]) hb]
  simp only [runs, fits, Bool.not_true, Bool.false_eq_true, if_false, State.say]

theorem opBrgGrant_passes {g : Nat} (hs : Packet.sized p 8 = true) (h1 : Packet.arg p 1 1 = 0) (slot : Packet.arg p 2 2 < 1024)
    (kinds : bits (Packet.arg p 4 4) 27 14 = 0) (hb : p.borough % 32 = 0) (tenant : 0 < Packet.arg p 0 1) (named : Packet.arg p 0 1 < 32)
    (runs : u.resetting (Packet.arg p 0 1) = false) (form : u.grantFormOk (Packet.arg p 0 1) (Packet.arg p 2 2) (Packet.arg p 4 4) = true)
    (free : u.freeGrant (Packet.arg p 2 2) = some g) :
    opBrgGrant p u = (.now 0 [w32 g], u.grantMake g (Packet.arg p 0 1) (Packet.arg p 2 2) (Packet.arg p 4 4)) := by
  have grantee : (decide (Packet.arg p 0 1 = 0) || decide (32 ≤ Packet.arg p 0 1) || u.resetting (Packet.arg p 0 1)) = false := by
    simp [Nat.ne_of_gt tenant, named, runs]
  rw [opBrgGrant, ownerCmd_passes (by simp [hs, h1, slot, kinds]) hb]
  simp only [grantee, form, free, Bool.not_true, Bool.false_eq_true, if_false, State.say]

theorem opBrgRevoke_passes (hs : Packet.sized p 4 = true) (hg : Packet.word p 0 < 2048) (hb : p.borough % 32 = 0)
    (valid : u.isSet (BRG_GRANT0_VALID (Packet.word p 0)) = true) : opBrgRevoke p u = (.now 0 [], u.grantFree (Packet.word p 0)) := by
  rw [opBrgRevoke, ownerCmd_passes (by simp [hs, hg]) hb]
  simp only [valid, Bool.not_true, Bool.false_eq_true, if_false, State.say]

theorem opBrgBeams_passes (hs : Packet.sized p 12 = true) (h1 : Packet.arg p 1 1 = 0) (h10 : Packet.arg p 10 2 = 0)
    (tenant : 1 ≤ Packet.arg p 0 1) (named : Packet.arg p 0 1 < 32) (last : Packet.arg p 4 2 < 4096) (hb : p.borough % 32 = 0)
    (runs : u.resetting (Packet.arg p 0 1) = false)
    (free : u.rangesTaken (Packet.arg p 0 1) (Packet.arg p 2 2) (Packet.arg p 4 2) (Packet.arg p 6 2) (Packet.arg p 8 2) = false) :
    opBrgBeams p u =
      (.now 0 [], u.beamRanges (Packet.arg p 0 1) (Packet.arg p 2 2) (Packet.arg p 4 2) (Packet.arg p 6 2) (Packet.arg p 8 2)) := by
  have owner : (decide (Packet.arg p 0 1 = 0) || u.resetting (Packet.arg p 0 1)) = false := by
    simp [Nat.ne_of_gt tenant, runs]
  rw [opBrgBeams, ownerCmd_passes (by simp [hs, h1, h10, named, last]) hb]
  simp only [owner, free, Bool.false_eq_true, if_false, State.say]

/-- A borough is reset by itself or by the owner of the hub. -/
theorem opBrgReset_passes (hs : Packet.sized p 4 = true) (hn : Packet.word p 0 < 32)
    (may : p.borough % 32 = 0 ∨ p.borough % 32 = Packet.word p 0) (can : u.canReset (Packet.word p 0) = true) :
    opBrgReset p u = (.reset (Packet.word p 0), u) := by
  rw [opBrgReset, holderCmd_passes (by simp [hs, hn]) (by simpa using may)]
  simp only [can, Bool.not_true, Bool.false_eq_true, if_false]

/-- A command that answers and then resets a borough (R577). -/
theorem Delivers.resets {c : Instr} {op : Nat} {act : Bool} {h : Packet → State → CmdOut × State} {s t : State}
    (d : Delivers c op act h p) (a : s.Admits op act p) (hu : u = s.begun p) {b : Nat} (r : h p u = (.reset b, t)) :
    exec c s = .next ((s.answered op p 0 [] t).boroughReset b) := by
  subst hu
  rw [d s, enginePacket_admitted a r]

end

/-- Settles O38: each opcode passes its checks and answers; BRG_RESET answers and then resets. -/
theorem boroughOpcodesComplete : Obligations.BoroughOpcodesComplete := by
  refine ⟨?quota, ?grant, ?revoke, ?beams, ?reset, ?status⟩
  case quota =>
    rintro s u p b a hu hs rfl hn hw hb runs fits
    have d : Delivers (.brgQuota p) 0x0120 false opBrgQuota p := fun _ => rfl
    exact d.answers a hu (opBrgQuota_passes hs hn hw hb runs fits)
  case grant =>
    rintro s u p b slot kinds g a hu hs h1 rfl rfl rfl hslot hkinds hb tenant named runs form free
    have d : Delivers (.brgGrant p) 0x0121 false opBrgGrant p := fun _ => rfl
    exact d.answers a hu (opBrgGrant_passes hs h1 hslot hkinds hb tenant named runs form free)
  case revoke =>
    rintro s u p g a hu hs rfl hg hb valid
    have d : Delivers (.brgRevoke p) 0x0122 false opBrgRevoke p := fun _ => rfl
    exact d.answers a hu (opBrgRevoke_passes hs hg hb valid)
  case beams =>
    rintro s u p b first last wf wl a hu hs h1 h10 rfl rfl rfl rfl rfl tenant named hlast hb runs free
    have d : Delivers (.brgBeams p) 0x0123 false opBrgBeams p := fun _ => rfl
    exact d.answers a hu (opBrgBeams_passes hs h1 h10 tenant named hlast hb runs free)
  case reset =>
    rintro s u p b a hu hs rfl hn may can
    have d : Delivers (.brgReset p) 0x0124 false opBrgReset p := fun _ => rfl
    exact d.resets a hu (opBrgReset_passes hs hn may can)
  case status =>
    rintro s u p b a hu hs rfl hn may
    have d : Delivers (.brgStatus p) 0x0125 false opBrgStatus p := fun _ => rfl
    exact d.answers a hu (by rw [opBrgStatus, holderCmd_passes (by simp [hs, hn]) (by simpa using may), State.say])

end Sys2Proof.Machine

namespace Sys2Proof.Machine

/-! SUPPORT and the statements of the gazetteer's, the logbook's and the power domains' opcodes. -/

/-! ## The GAZ opcodes (R584 to R593, R553) -/

section
variable {p : Packet} {u : State}

/-- While no memory stack sleeps, a command reaches the gazetteer's entries. -/
theorem withStacks_awake {f : State → CmdOut × State} (up : u.stackDown = none) : u.withStacks f = f u := by
  rw [State.withStacks, up]

theorem withEntry_registered {e : Nat} {x : GazEntry} {f : GazEntry → State → CmdOut × State} (up : u.stackDown = none)
    (registered : u.gazEntry e = some x) : u.withEntry e f = f x u := by
  rw [State.withEntry, withStacks_awake up, registered]

theorem opGazRoot_passes (hs : Packet.sized p 4 = true) (role : boolByte (Packet.arg p 0 1) = true) (h1 : Packet.arg p 1 3 = 0)
    (hb : p.borough % 32 = 0) (closed : u.get GAZ_OPEN_SENDS = 0) :
    opGazRoot p u = (.now 0 [], u.roleSaid (u.put GAZ_CTL_ROOT (Packet.arg p 0 1))) := by
  rw [opGazRoot, ownerCmd_passes (by simp [hs, role, h1]) hb]
  simp only [closed, bne_self_eq_false, Bool.and_false, Bool.false_eq_true, if_false, State.say]

/-- The first entry that a root registers. -/
theorem opGazRegister_first (hs : Packet.sized p 36 = true) (hb : p.borough % 32 = 0) (root : u.isRoot = true)
    (form : gazFormOk (Packet.word p 0) ((Packet.bytes p).drop 4) = true)
    (dists : (gazOf ((Packet.bytes p).drop 4)).dists.all districtOk = true) (up : u.stackDown = none) (empty : u.gaz = []) :
    opGazRegister p u = (.now 0 [], (u.setEntry (Packet.word p 0) (some (gazOf ((Packet.bytes p).drop 4)))).showGaz
      (gazOf ((Packet.bytes p).drop 4)).dists) := by
  have unregistered : u.gazEntry (Packet.word p 0) = none := by rw [State.gazEntry, empty]; rfl
  rw [opGazRegister, ownerCmd_passes hs hb]
  simp only [root, form, dists, Bool.not_true, Bool.false_eq_true, if_false]
  rw [withStacks_awake up]
  simp [empty, unregistered, State.say]

theorem opGazRemove_passes {x : GazEntry} (hs : Packet.sized p 4 = true) (hn : Packet.word p 0 < 2 ^ 25) (hb : p.borough % 32 = 0)
    (root : u.isRoot = true) (up : u.stackDown = none) (registered : u.gazEntry (Packet.word p 0) = some x) :
    opGazRemove p u = (.now 0 [], (u.setEntry (Packet.word p 0) none).showGaz x.dists) := by
  rw [opGazRemove, ownerCmd_passes (by simp only [hs, hn, decide_true, Bool.and_self]) hb]
  simp only [root, Bool.not_true, Bool.false_eq_true, if_false]
  rw [withEntry_registered up registered]
  rfl

theorem opGazRead_passes {x : GazEntry} (hs : Packet.sized p 4 = true) (hn : Packet.word p 0 < 2 ^ 25) (hb : p.borough % 32 = 0)
    (up : u.stackDown = none) (registered : u.gazEntry (Packet.word p 0) = some x) : opGazRead p u = (.now 0 (bytesWords x.bytes), u) := by
  rw [opGazRead, ownerCmd_passes (by simp only [hs, hn, decide_true, Bool.and_self]) hb, withEntry_registered up registered]
  rfl

theorem opGazDistrict_passes {x : GazEntry} {l : List Nat} (hs : Packet.sized p 12 = true) (hn : Packet.word p 0 < 2 ^ 25)
    (hb : p.borough % 32 = 0) (up : u.stackDown = none) (registered : u.gazEntry (Packet.word p 0) = some x)
    (fields : ((List.range 4).map (fun i => Packet.arg p (4 + 2 * i) 2)).all districtField = true)
    (merges : gazDistricts x.dists ((List.range 4).map (fun i => Packet.arg p (4 + 2 * i) 2)) = some l) :
    opGazDistrict p u = (.now 0 [], (u.setEntry (Packet.word p 0) (some { x with dists := l })).showGaz (x.dists ++ l)) := by
  rw [opGazDistrict, ownerCmd_passes (by simp only [hs, hn, decide_true, Bool.and_self]) hb, withEntry_registered up registered]
  simp only [fields, merges, Bool.not_true, Bool.false_eq_true, if_false, State.say]

/-- A send that the hub itself is no member of goes out later. -/
theorem opGazSend_passes {act : Int} (hl : 1 ≤ p.params.length) (h2 : Packet.arg p 2 2 = 0)
    (hact : act = mtOf (p.actTime / 2 ^ 48) (p.actTime / 2 ^ 16 % 2 ^ 32) (p.actTime % 2 ^ 16)) (hb : p.borough % 32 = 0)
    (root : u.isRoot = true) (hd : Packet.arg p 0 2 < 4096) (up : u.stackDown = none) (rested : u.gazBook.sentAt = none)
    (closed : u.sendOpen (Packet.arg p 0 2) = false) (members : u.gazMembers (Packet.arg p 0 2) ≠ [])
    (inner : innerOk ((Packet.bytes p).drop 4) p.actTime = true) (ahead : u.mt + ((100 * mtUs : Nat) : Int) ≤ act)
    (others : u.gazSelf (Packet.arg p 0 2) = false) :
    opGazSend p u = (.later [], u.gazAccept (Packet.arg p 0 2) act ((Packet.bytes p).drop 4) (actionOf p)) := by
  subst hact
  have some : (u.gazMembers (Packet.arg p 0 2)).isEmpty = false := by simpa using members
  rw [opGazSend, ownerCmd_passes (by simp [hl, h2]) hb]
  simp only [root, Nat.not_le.2 hd, Bool.not_true, Bool.false_eq_true, if_false]
  rw [withStacks_awake up]
  simp only [rested, closed, some, inner, others, Int.not_lt.2 ahead, Bool.not_true, Bool.or_self, Bool.false_eq_true, if_false]

theorem opGazCounts_passes (hs : Packet.sized p 4 = true) (h2 : Packet.arg p 2 2 = 0) (hb : p.borough % 32 = 0)
    (hd : Packet.arg p 0 2 < 4096) :
    opGazCounts p u = (.now 0 (u.regWords [GAZ_D_APPLIED (Packet.arg p 0 2), GAZ_D_REFUSED (Packet.arg p 0 2),
      GAZ_D_SILENT (Packet.arg p 0 2), GAZ_D_EPOCH_LO (Packet.arg p 0 2)]), u) := by
  rw [opGazCounts, ownerCmd_passes (by simp [hs, h2]) hb]
  simp only [Nat.not_le.2 hd, if_false, State.say]

end

/-- Settles O50: each opcode passes its checks; a send completes later, the others answer at once. -/
theorem gazetteerOpcodesComplete : Obligations.GazetteerOpcodesComplete := by
  refine ⟨?root, ?register, ?remove, ?read, ?district, ?send, ?counts, ?digest⟩
  case root =>
    rintro s u p en a hu hs rfl role h1 hb closed
    have d : Delivers (.gazRoot p) 0x0E01 false opGazRoot p := fun _ => rfl
    exact d.answers a hu (opGazRoot_passes hs role h1 hb closed)
  case register =>
    rintro s u p n l x a hu hs rfl rfl rfl hb root form dists up empty
    have d : Delivers (.gazRegister p) 0x0E02 false opGazRegister p := fun _ => rfl
    exact d.answers a hu (opGazRegister_first hs hb root form dists up empty)
  case remove =>
    rintro s u p n x a hu hs rfl hn hb root up registered
    have d : Delivers (.gazRemove p) 0x0E03 false opGazRemove p := fun _ => rfl
    exact d.answers a hu (opGazRemove_passes hs hn hb root up registered)
  case read =>
    rintro s u p n x a hu hs rfl hn hb up registered
    have d : Delivers (.gazRead p) 0x0E04 false opGazRead p := fun _ => rfl
    exact d.answers a hu (opGazRead_passes hs hn hb up registered)
  case district =>
    rintro s u p n x l f a hu hs rfl hn hb up registered rfl fields merges
    have d : Delivers (.gazDistrict p) 0x0E05 false opGazDistrict p := fun _ => rfl
    exact d.answers a hu (opGazDistrict_passes hs hn hb up registered fields merges)
  case send =>
    rintro s u p d inner act a hu hl rfl h2 rfl hact hb root hd up rested closed members inner ahead others
    have d : Delivers (.gazSend p) 0x0E06 true opGazSend p := fun _ => rfl
    exact d.completesLater a hu (opGazSend_passes hl h2 hact hb root hd up rested closed members inner ahead others)
  case counts =>
    rintro s u p d a hu hs rfl h2 hb hd
    have d : Delivers (.gazCounts p) 0x0E07 false opGazCounts p := fun _ => rfl
    exact d.answers a hu (opGazCounts_passes hs h2 hb hd)
  case digest =>
    intro s u p a hu hs hw hb
    have d : Delivers (.gazDigest p) 0x0E08 false opGazDigest p := fun _ => rfl
    exact d.answers a hu (wordCmd_passes hs hw hb)

/-! ## The LOG opcodes (R620 to R623, R554) -/

section
variable {p : Packet} {u : State}

theorem opLogRead_passes (hs : Packet.sized p 12 = true) (atLeast : 1 ≤ Packet.arg p 8 1) (atMost : Packet.arg p 8 1 ≤ 60)
    (h9 : Packet.arg p 9 3 = 0) (first : u.rd64 LOG_FIRST_LO LOG_FIRST_HI ≤ Packet.arg p 0 8)
    (last : Packet.arg p 0 8 ≤ u.rd64 LOG_HEAD_LO LOG_HEAD_HI) {r : List Word × State}
    (hr : r = u.logWords ((u.log.slots.drop (Packet.arg p 0 8 - u.rd64 LOG_FIRST_LO LOG_FIRST_HI)).take (Packet.arg p 8 1))) :
    opLogRead p u = (.now 0 r.1, r.2) := by
  rw [opLogRead, anyCmd_passes (by simp [hs, atLeast, atMost, h9])]
  simp only [Nat.not_lt.2 first, Nat.not_lt.2 last, decide_false, Bool.or_self, Bool.false_eq_true, if_false, ← hr, State.say]

section
variable (hs : Packet.sized p 32 = true) (hb : p.borough % 32 = 0)
include hs hb

/-- The response to the outstanding challenge clears the logbook. -/
theorem opLogClear_response {n k : List Byte} (challenged : u.logNonce = some n) (keyed : u.log.key = some k)
    (response : Packet.bytes p = u.logResponse k n 4 []) : opLogClear p u = u.logClear := by
  rw [opLogClear, ownerCmd_passes hs hb]
  simp only [challenged, keyed, response, if_true]

theorem opLogClear_unchallenged (unchallenged : u.logNonce = none) : opLogClear p u = u.logDeny 0x700 := by
  rw [opLogClear, ownerCmd_passes hs hb]
  simp only [unchallenged]

end

section
variable {n : List Byte} (hs : Packet.sized p 64 = true) (hb : p.borough % 32 = 0) (challenged : u.logNonce = some n)
include hs hb challenged

/-- The first key of the logbook. -/
theorem opLogKey_first (unkeyed : u.log.key = none) (zeros : ((Packet.bytes p).take 32).all (fun x => x == 0#8) = true) :
    opLogKey p u = (.now 0 [], u.logKeySet ((Packet.bytes p).drop 32)) := by
  rw [opLogKey, ownerCmd_passes hs hb]
  simp only [challenged, unkeyed, zeros, if_true, State.say]

/-- The key changes on the response to the outstanding challenge. -/
theorem opLogKey_change {k : List Byte} (keyed : u.log.key = some k)
    (nonzero : ((Packet.bytes p).take 32).all (fun x => x == 0#8) = false)
    (response : (Packet.bytes p).take 32 = u.logResponse k n 5 ((Packet.bytes p).drop 32)) :
    opLogKey p u = (.now 0 [], u.logKeySet ((Packet.bytes p).drop 32)) := by
  rw [opLogKey, ownerCmd_passes hs hb]
  simp only [challenged, keyed, nonzero, ← response, Bool.false_eq_true, if_false, if_true, State.say]

end

/-! ## The POWER opcodes (R628 to R636, R555) -/

theorem domainCmd_passes {second : Nat} {f : Nat → State → CmdOut × State} (hs : Packet.sized p 4 = true) (hd : Packet.arg p 0 1 ≤ 96)
    (h1 : Packet.arg p 1 1 < second) (h2 : Packet.arg p 2 2 = 0) (hb : p.borough % 32 = 0) :
    domainCmd second p u f = f (Packet.arg p 0 1) u := by
  rw [domainCmd, ownerCmd_passes (by simp [hs, hd, h1, h2]) hb]

/-- A domain that is awake and not in use begins its drain. -/
theorem pwrDown_drains {d : Nat} {v : State} (awake : u.get (PWR_DOM_STATE d) = 0) (unused : u.domainInUse d = false)
    (hv : v = ((u.put (PWR_DOM_CODE d) 0).put (PWR_DOM_STATE d) 1).domStamp d) :
    u.pwrDown d = (0, if v.isSet (PWR_DOM_REFUSE d) = true then v.refuseItems d else v) := by
  simp only [State.pwrDown, awake, unused, ne_eq, not_true_eq_false, Bool.false_eq_true, if_false, ← hv]

/-- A domain other than that of the time-interval cores begins to wake. -/
theorem pwrUp_wakes {d : Nat} (asleep : u.get (PWR_DOM_STATE d) = 2) (plain : d ≠ 93) :
    u.pwrUp d = (0, ((u.put (PWR_DOM_CODE d) 0).put (PWR_DOM_STATE d) 3).domStamp d) := by
  simp only [State.pwrUp, asleep, plain, ne_eq, not_true_eq_false, if_false]

end

/-- Settles O51: each opcode passes its checks; the drain and the wake of a domain are answered later. -/
theorem logOpcodesComplete : Obligations.LogOpcodesComplete := by
  refine ⟨?head, ?read, ?challenge, ?clear, ?clearRefused, ?keyFirst, ?keyChange, ?again, ?down, ?up, ?hold, ?status⟩
  case head =>
    intro s u p a hu hs
    have d : Delivers (.logHead p) 0x0F01 false opLogHead p := fun _ => rfl
    exact d.answers a hu (anyCmd_passes hs)
  case read =>
    rintro s u p q n r a hu hs rfl rfl atLeast atMost h9 first last hr
    have d : Delivers (.logRead p) 0x0F02 false opLogRead p := fun _ => rfl
    exact d.answers a hu (opLogRead_passes hs atLeast atMost h9 first last hr)
  case challenge =>
    rintro s u p x a hu hs hb rfl
    have d : Delivers (.logChallenge p) 0x0F03 false opLogChallenge p := fun _ => rfl
    exact d.answers a hu (ownerCmd_passes hs hb)
  case clear =>
    rintro s u p n k r a hu hs hb challenged keyed response rfl answer
    have d : Delivers (.logClear p) 0x0F04 false opLogClear p := fun _ => rfl
    exact d.answers a hu ((opLogClear_response hs hb challenged keyed response).trans (Prod.ext answer rfl))
  case clearRefused =>
    intro s u p a hu hs hb unchallenged
    have d : Delivers (.logClear p) 0x0F04 false opLogClear p := fun _ => rfl
    exact d.answers a hu (opLogClear_unchallenged hs hb unchallenged)
  case keyFirst =>
    intro s u p n a hu hs hb challenged unkeyed zeros
    have d : Delivers (.logKey p) 0x0F05 false opLogKey p := fun _ => rfl
    exact d.answers a hu (opLogKey_first hs hb challenged unkeyed zeros)
  case keyChange =>
    intro s u p n k a hu hs hb challenged keyed nonzero response
    have d : Delivers (.logKey p) 0x0F05 false opLogKey p := fun _ => rfl
    exact d.answers a hu (opLogKey_change hs hb challenged keyed nonzero response)
  case again =>
    rintro s u p v a hu hs rfl atLeast atMost hb
    have d : Delivers (.logRepeat p) 0x0F06 false opLogRepeat p := fun _ => rfl
    exact d.answers a hu (by rw [opLogRepeat, ownerCmd_passes (by simp [hs, atLeast, atMost]) hb, State.say])
  case down =>
    rintro s u v p d a hu hs rfl hd h1 h2 hb awake unused hv
    have d : Delivers (.powerDown p) 0x1001 false opPowerDown p := fun _ => rfl
    exact d.completesLater a hu (by
      simp only [opPowerDown, domainCmd_passes hs hd (show _ < 1 by simp [h1]) h2 hb, pwrDown_drains awake unused hv])
  case up =>
    rintro s u p d a hu hs rfl hd h1 h2 hb asleep plain
    have d : Delivers (.powerUp p) 0x1002 false opPowerUp p := fun _ => rfl
    exact d.completesLater a hu (by
      simp only [opPowerUp, domainCmd_passes hs hd (show _ < 1 by simp [h1]) h2 hb, pwrUp_wakes asleep plain])
  case hold =>
    rintro s u p d a hu hs rfl hd h1 h2 hb
    have d : Delivers (.powerHold p) 0x1003 false opPowerHold p := fun _ => rfl
    exact d.answers a hu (domainCmd_passes hs hd h1 h2 hb)
  case status =>
    intro s u p a hu hs
    have d : Delivers (.powerStatus p) 0x1004 false opPowerStatus p := fun _ => rfl
    exact d.answers a hu (anyCmd_passes hs)

end Sys2Proof.Machine

namespace Sys2Proof.Machine

/-! SUPPORT and the statement of the spare units and the diagnostics: the SPARE and DIAG opcodes. -/

/-! ## The SPARE opcodes (R41, R638 to R645, R556) -/

section
variable {p : Packet} {u : State}

section
variable (hs : Packet.sized p 4 = true) (present : Packet.arg p 0 2 < u.part.inputs) (slice : Packet.arg p 2 1 < 17)
  (failing : u.sub (iTrim (Packet.arg p 0 2) (Packet.arg p 2 1)) 31 29 = 2) (hb : p.borough % 32 = 0)
  (up : u.awake (inputGroup (Packet.arg p 0 2)) = true) (alive : u.sub (iStat (Packet.arg p 0 2)) 18 18 ≠ 1)
include hs present slice failing hb up alive

/-- A failing slice of an input that is alive: the input is declared dead, or the slice retired or substituted (R158). -/
theorem opSpareSlice_passes (act : boolByte (Packet.arg p 3 1) = true) : opSpareSlice p u =
    if Packet.arg p 3 1 = 1 then (u.inputDead (Packet.arg p 0 2) (Packet.arg p 2 1) false).say 0
    else if u.sub (iStat (Packet.arg p 0 2)) 31 27 = Packet.arg p 2 1 then
      (u.retireSlice (Packet.arg p 0 2) (Packet.arg p 2 1) 31 false).say 0
    else if u.sub (iStat (Packet.arg p 0 2)) 19 19 = 1 then
      (u.inServiceFail (Packet.arg p 0 2) (Packet.arg p 2 1) true false).say 0
    else u.say 0xF := by
  have hi : Packet.arg p 0 2 < 768 := Nat.lt_of_lt_of_le present (inputs_le u.part)
  rw [opSpareSlice, ownerCmd_passes (by simp [hs, hi, slice, act, failing]) hb]
  simp only [Nat.not_le.2 present, up, alive, Bool.not_true, Bool.false_eq_true, if_false]

theorem opSpareSlice_dead (act : Packet.arg p 3 1 = 1) :
    opSpareSlice p u = (.now 0 [], u.inputDead (Packet.arg p 0 2) (Packet.arg p 2 1) false) := by
  rw [opSpareSlice_passes hs present slice failing hb up alive (by simp [act, boolByte]), if_pos act]
  rfl

/-- A slice in service whose place a spare takes. -/
theorem opSpareSlice_inService (act : Packet.arg p 3 1 = 0) (spare : u.sub (iStat (Packet.arg p 0 2)) 31 27 ≠ Packet.arg p 2 1)
    (serves : u.sub (iStat (Packet.arg p 0 2)) 19 19 = 1) :
    opSpareSlice p u = (.now 0 [], u.inServiceFail (Packet.arg p 0 2) (Packet.arg p 2 1) true false) := by
  rw [opSpareSlice_passes hs present slice failing hb up alive (by simp [act, boolByte]), if_neg (by simp [act]), if_neg spare,
    if_pos serves]
  rfl

end

section
variable {x : Nat} (hs : Packet.sized p 4 = true) (hl : Packet.arg p 0 1 < 64) (h1 : Packet.arg p 1 3 = 0) (hb : p.borough % 32 = 0)
  (failing : u.failingEngine (Packet.arg p 0 1) = some x) (up : u.awake 80 = true)
include hs hl h1 hb failing up

theorem opSpareEngine_passes : opSpareEngine p u =
    (.now (if (List.range 4).any (fun i => u.get (PWR_ENG_STATE (64 + i)) == 1) = true then 0 else 0xF) [], u.engSubstitute x false) := by
  rw [opSpareEngine, ownerCmd_passes (by simp [hs, hl, h1]) hb]
  simp only [failing, up, Bool.not_true, Bool.false_eq_true, if_false, State.say]

theorem opSpareEngine_spare (left : ∃ i < 4, u.get (PWR_ENG_STATE (64 + i)) = 1) :
    opSpareEngine p u = (.now 0 [], u.engSubstitute x false) := by
  rw [opSpareEngine_passes hs hl h1 hb failing up, if_pos (by simpa using left)]

theorem opSpareEngine_exhausted (exhausted : ∀ i < 4, u.get (PWR_ENG_STATE (64 + i)) ≠ 1) :
    opSpareEngine p u = (.now 15 [], u.engSubstitute x false) := by
  rw [opSpareEngine_passes hs hl h1 hb failing up, if_neg (by simpa using exhausted)]

end

theorem opSpareSlot_spare (hs : Packet.sized p 4 = true) (h2 : Packet.arg p 2 2 = 0)
    (failing : u.failingSlots.contains (Packet.arg p 0 2) = true) (hb : p.borough % 32 = 0)
    (spare : (u.spareSlot (Packet.arg p 0 2)).isSome = true) :
    opSpareSlot p u = (.now 0 [], u.slotSubstitute (Packet.arg p 0 2) false) := by
  rw [opSpareSlot, ownerCmd_passes (by simp only [hs, h2, failing]; rfl) hb]
  simp only [spare, if_true, State.say]

theorem opSpareTdc_spare (hs : Packet.sized p 4 = true) (h1 : Packet.arg p 1 3 = 0) (hc : Packet.arg p 0 1 < 18)
    (failing : u.isSet (TIM_CORE_STAT_FAILING (Packet.arg p 0 1)) = true)
    (serves : u.get (TIM_CORE_STAT_LOGICAL (Packet.arg p 0 1)) < 16)
    (unswitched : ∀ x ∈ u.tdcSwitches, x.logical ≠ u.get (TIM_CORE_STAT_LOGICAL (Packet.arg p 0 1))) (hb : p.borough % 32 = 0)
    (up : u.awake 93 = true) (spare : u.spareCore.isSome = true) :
    opSpareTdc p u = (.now 0 [], u.tdcSubstitute (u.get (TIM_CORE_STAT_LOGICAL (Packet.arg p 0 1))) false) := by
  have free : u.tdcSwitches.all (fun x => x.logical != u.get (TIM_CORE_STAT_LOGICAL (Packet.arg p 0 1))) = true := by simpa using unswitched
  rw [opSpareTdc, ownerCmd_passes (by simp [hs, h1, hc, failing, serves, free]) hb]
  simp only [up, spare, Bool.not_true, Bool.false_eq_true, if_false, if_true, State.say]

theorem opSparePcv_spare (hs : Packet.sized p 4 = true) (hc : Packet.arg p 0 1 < 16) (h1 : Packet.arg p 1 3 = 0)
    (failing : u.isSet (PCV_STAT_FAILING (Packet.arg p 0 1)) = true) (stays : (u.pcv (Packet.arg p 0 1)).leaving.isNone = true)
    (hb : p.borough % 32 = 0) (up : u.awake 91 = true) (spare : 0 < u.sparesLeft 7) :
    opSparePcv p u = (.now 0 [], u.retirePcv (Packet.arg p 0 1) false) := by
  rw [opSparePcv, ownerCmd_passes (by simp [hs, hc, h1, failing, stays]) hb]
  simp only [up, Nat.ne_of_gt spare, Bool.not_true, Bool.false_eq_true, if_false, State.say]

theorem opSpareBmac_spare (hs : Packet.sized p 4 = true) (hn : Packet.arg p 0 1 < 17) (h1 : Packet.arg p 1 3 = 0)
    (failing : u.get (BFM_ARRAY_STATE (Packet.arg p 0 1)) = 2) (unswitched : u.bmacSwaps = []) (hb : p.borough % 32 = 0)
    (up : u.awake 81 = true) (spare : 0 < u.sparesLeft 6) : opSpareBmac p u = (.now 0 [], u.retireBmac (Packet.arg p 0 1) false) := by
  rw [opSpareBmac, ownerCmd_passes (by simp [hs, hn, h1, failing, unswitched]) hb]
  simp [up, spare, unswitched, State.say]

theorem opSpareCore_spare (hs : Packet.sized p 4 = true) (hk : Packet.arg p 0 1 < 5) (h1 : Packet.arg p 1 3 = 0)
    (failing : u.get (PWR_CORE_STATE (Packet.arg p 0 1)) = 2) (hb : p.borough % 32 = 0) (spare : ∃ i < 5, u.get (PWR_CORE_STATE i) = 1) :
    opSpareCore p u = (.now 0 [], u.coreSubstitute (Packet.arg p 0 1) false) := by
  rw [opSpareCore, ownerCmd_passes (by simp [hs, hk, h1, failing]) hb, if_pos (by simpa using spare)]
  rfl

theorem opSparePlot_spare (hs : Packet.sized p 4 = true) (hi : Packet.word p 0 < 16777216) (weak : (u.plot (Packet.word p 0)).weak = true)
    (serves : (u.plot (Packet.word p 0)).state ≠ 4) (stays : (u.plot (Packet.word p 0)).state ≠ 5) (hb : p.borough % 32 = 0)
    (spare : 0 < u.sparesLeft (if plotTier (Packet.word p 0) = 1 then 4 else 5)) :
    opSparePlot p u = (.now 0 [], u.plotLeave (Packet.word p 0)) := by
  rw [opSparePlot, ownerCmd_passes (by simp [hs, hi, weak, serves, stays]) hb, if_neg (Nat.ne_of_gt spare)]
  rfl

section
variable (hs : Packet.sized p 4 = true) (h2 : Packet.arg p 2 2 = 0) (failing : u.mramBad.contains (Packet.arg p 0 2) = true)
  (hb : p.borough % 32 = 0)
include hs h2 failing hb

theorem opSpareMram_passes : opSpareMram p u =
    if u.sparesLeft 10 = 0 then (.now 15 [], u.spareExhausted 10 (Packet.arg p 0 2))
    else (.now 0 [], u.mramSubstitute (Packet.arg p 0 2)) := by
  rw [opSpareMram, ownerCmd_passes (by simp only [hs, h2, failing]; rfl) hb]
  rfl

end

/-! ## The DIAG opcodes (R245, R557) -/

/-- A unit out of service is tested; what the test finds is free. -/
theorem opDiagSelftest_passes (hs : Packet.sized p 4 = true) (h1 : Packet.arg p 1 1 = 0)
    (hi : Packet.arg p 2 2 < testUnits (Packet.arg p 0 1)) (hb : p.borough % 32 = 0)
    (up : testDomain (Packet.arg p 0 1) (Packet.arg p 2 2) = 96 ∨ u.awake (testDomain (Packet.arg p 0 1) (Packet.arg p 2 2)) = true)
    (out : u.testInService (Packet.arg p 0 1) (Packet.arg p 2 2) = false) :
    opDiagSelftest p u =
      (.now 0 [w32 (u.draw 2).1, w32 ((u.draw 2).2.draw (2 ^ 32)).1], ((u.draw 2).2.draw (2 ^ 32)).2) := by
  have stands : (decide (testDomain (Packet.arg p 0 1) (Packet.arg p 2 2) ≠ 96) &&
      !u.awake (testDomain (Packet.arg p 0 1) (Packet.arg p 2 2))) = false := by
    rcases up with always | awake
    · simp [always]
    · simp [awake]
  rw [opDiagSelftest, ownerCmd_passes (by simp [hs, h1, hi]) hb]
  simp only [stands, out, Bool.false_eq_true, if_false, State.say]

end

/-- Settles O52: each opcode passes its checks and answers at once. -/
theorem spareOpcodesComplete : Obligations.SpareOpcodesComplete := by
  refine ⟨?policy, ?sliceDead, ?slice, ?engine, ?engineExhausted, ?slot, ?tdc, ?pcv, ?bmac, ?core, ?plot, ?mram, ?mramExhausted,
    ?inventory, ?echo, ?selftest, ?beamSat, ?temps⟩
  case policy =>
    rintro s u p m v w a hu hs rfl rfl hm hb rfl
    have d : Delivers (.sparePolicy p) 0x1101 false opSparePolicy p := fun _ => rfl
    exact d.answers a hu (by rw [opSparePolicy, ownerCmd_passes (by simp [hs, hm]) hb, State.say])
  case sliceDead =>
    rintro s u p i n a hu hs rfl rfl act present slice failing hb up alive
    have d : Delivers (.spareSlice p) 0x1102 false opSpareSlice p := fun _ => rfl
    exact d.answers a hu (opSpareSlice_dead hs present slice failing hb up alive act)
  case slice =>
    rintro s u p i n a hu hs rfl rfl act present slice failing hb up alive spare serves
    have d : Delivers (.spareSlice p) 0x1102 false opSpareSlice p := fun _ => rfl
    exact d.answers a hu (opSpareSlice_inService hs present slice failing hb up alive act spare serves)
  case engine =>
    rintro s u p l x a hu hs rfl hl h1 hb failing up left
    have d : Delivers (.spareEngine p) 0x1103 false opSpareEngine p := fun _ => rfl
    exact d.answers a hu (opSpareEngine_spare hs hl h1 hb failing up left)
  case engineExhausted =>
    rintro s u p l x a hu hs rfl hl h1 hb failing up exhausted
    have d : Delivers (.spareEngine p) 0x1103 false opSpareEngine p := fun _ => rfl
    exact d.answers a hu (opSpareEngine_exhausted hs hl h1 hb failing up exhausted)
  case slot =>
    rintro s u p n a hu hs rfl h2 failing hb spare
    have d : Delivers (.spareSlot p) 0x1104 false opSpareSlot p := fun _ => rfl
    exact d.answers a hu (opSpareSlot_spare hs h2 failing hb spare)
  case tdc =>
    rintro s u p c n a hu hs rfl rfl h1 hc failing serves unswitched hb up spare
    have d : Delivers (.spareTdc p) 0x1105 false opSpareTdc p := fun _ => rfl
    exact d.answers a hu (opSpareTdc_spare hs h1 hc failing serves unswitched hb up spare)
  case pcv =>
    rintro s u p c a hu hs rfl hc h1 failing stays hb up spare
    have d : Delivers (.sparePcv p) 0x1106 false opSparePcv p := fun _ => rfl
    exact d.answers a hu (opSparePcv_spare hs hc h1 failing stays hb up spare)
  case bmac =>
    rintro s u p n a hu hs rfl hn h1 failing unswitched hb up spare
    have d : Delivers (.spareBmac p) 0x1107 false opSpareBmac p := fun _ => rfl
    exact d.answers a hu (opSpareBmac_spare hs hn h1 failing unswitched hb up spare)
  case core =>
    rintro s u p k a hu hs rfl hk h1 failing hb spare
    have d : Delivers (.spareCore p) 0x1108 false opSpareCore p := fun _ => rfl
    exact d.answers a hu (opSpareCore_spare hs hk h1 failing hb spare)
  case plot =>
    rintro s u p i a hu hs rfl hi weak serves stays hb spare
    have d : Delivers (.sparePlot p) 0x1109 false opSparePlot p := fun _ => rfl
    exact d.answers a hu (opSparePlot_spare hs hi weak serves stays hb spare)
  case mram =>
    rintro s u p x a hu hs rfl h2 failing hb left
    have d : Delivers (.spareMram p) 0x110A false opSpareMram p := fun _ => rfl
    exact d.answers a hu (by rw [opSpareMram_passes hs h2 failing hb, if_neg left])
  case mramExhausted =>
    rintro s u p x a hu hs rfl h2 failing hb exhausted
    have d : Delivers (.spareMram p) 0x110A false opSpareMram p := fun _ => rfl
    exact d.answers a hu (by rw [opSpareMram_passes hs h2 failing hb, if_pos exhausted])
  case inventory =>
    intro s u p a hu hs
    have d : Delivers (.spareInventory p) 0x110B false opSpareInventory p := fun _ => rfl
    exact d.answers a hu (anyCmd_passes hs)
  case echo =>
    intro s u p a hu fits
    have d : Delivers (.diagEcho p) 0x1201 false opDiagEcho p := fun _ => rfl
    exact d.answers a hu (anyCmd_passes (by simp [fits]))
  case selftest =>
    rintro s u p c i x y a hu hs rfl rfl h1 hi hb up out rfl rfl
    have d : Delivers (.diagSelftest p) 0x1202 false opDiagSelftest p := fun _ => rfl
    exact d.answers a hu (opDiagSelftest_passes hs h1 hi hb up out)
  case beamSat =>
    rintro s u p b a hu hs rfl hn h2 hb
    have d : Delivers (.diagBeamSat p) 0x1203 false opDiagBeamSat p := fun _ => rfl
    exact d.answers a hu (by rw [opDiagBeamSat, ownerCmd_passes (by simp [hs, hn, h2]) hb, State.say])
  case temps =>
    rintro s u p r a hu hs rfl
    have d : Delivers (.diagTemps p) 0x1204 false opDiagTemps p := fun _ => rfl
    exact d.answers a hu (anyCmd_passes hs)

end Sys2Proof.Machine

namespace Sys2Proof.Machine

/-! SUPPORT and the statements of the PCIe port, the command paths and the events: rows 181 to 197, 346 to 351 and 358 to 361. -/

/-! ## Functions (R494, R508, R513, R514) -/

theorem func_setFunc_ne (s : State) {fn k : Nat} (h : k ≠ fn) (f : Func) : (s.setFunc fn f).func k = s.func k :=
  mapGet_put_ne _ _ h _ _

theorem func_of_funcs {s t : State} (h : t.funcs = s.funcs) (k : Nat) : t.func k = s.func k := by unfold State.func; rw [h]

/-- What a reset abandons is no state of a function. -/
theorem flrAbandons_funcs (s : State) (fn : Nat) : (((s.ringsDisable fn).jobDrop fn).deliveriesOff fn).funcs = s.funcs := by
  have rings := (State.ringsDisable_keeps (Keeps.refl _ s) (Nat.and_self _) fn).funcs (by decide)
  have job := (State.jobDrop_keeps (Keeps.refl _ (s.ringsDisable fn)) (Nat.and_self _) fn).funcs (by decide)
  have delivers := (State.deliveriesOff_keeps (Keeps.refl _ ((s.ringsDisable fn).jobDrop fn)) (Nat.and_self _) fn).funcs (by decide)
  rw [delivers, job, rings]

theorem hostRingsOff_funcs (s : State) : s.hostRingsOff.funcs = s.funcs :=
  (State.hostRingsOff_keeps (Keeps.refl _ s) (Nat.and_self _)).funcs (by decide)

theorem ptmDropped_funcs (s : State) : ({ s with ptm := none } : State).funcs = s.funcs := rfl

theorem vectorsCleared_funcs (s : State) (r : SMap Word) (v : SMap Vec) : ({ s with regs := r, vecs := v } : State).funcs = s.funcs := rfl

/-- A Function Level Reset leaves every other function as it is. -/
theorem flr_func_ne (s : State) {fn k : Nat} (h : k ≠ fn) : (s.flr fn).func k = s.func k := by
  rw [State.flr, func_of_funcs (State.raise_funcs ..)]
  unfold State.flrState
  rw [func_setFunc_ne _ h]
  refine func_of_funcs ((vectorsCleared_funcs _ _ _).trans ?_) k
  split
  · rw [ptmDropped_funcs, hostRingsOff_funcs, flrAbandons_funcs]
  · exact flrAbandons_funcs s fn

theorem functionLevelReset_present {s : State} {fn : Nat} (hfn : fn < 32) (present : (s.func fn).present = true) :
    exec (.functionLevelReset fn) s = .next (s.flr fn) := by
  change execFunctionLevelReset fn s = _
  simp [execFunctionLevelReset, hfn, present]

/-- A fold over elements that each leave the state. -/
theorem foldl_of_fixed {α β : Type} {f : β → α → β} {b : β} {l : List α} (h : ∀ a ∈ l, f b a = b) : l.foldl f b = b := by
  induction l with
  | nil => rfl
  | cons a l ih => rw [List.foldl_cons, h a List.mem_cons_self, ih fun x hx => h x (List.mem_cons_of_mem a hx)]

/-- The numbers below 31, about the number n. -/
theorem range31_about {n : Nat} (hn : n < 31) : List.range 31 = List.range n ++ n :: List.range' (n + 1) (30 - n) := by
  have split : 31 = n + (30 - n + 1) := by omega
  rw [← List.range'_succ, List.range_eq_range', List.range_eq_range']
  nth_rw 1 [split]
  rw [← List.range'_append_1, Nat.zero_add]

/-- Where virtual functions 1 to n + 1 stand, all but the last are left. -/
theorem vfDisable_last {s : State} {n : Nat} (hn : n < 31) (present : ∀ k < 32, (s.func k).present = decide (k ≤ n + 1)) :
    exec (.vfDisable n) s = .next ((s.flr (n + 1)).setFunc (n + 1) { (s.flr (n + 1)).func (n + 1) with present := false }) := by
  have stay : ∀ i ∈ List.range n, (s.func (i + 1)).present = true := by
    intro i hi
    have hi := List.mem_range.1 hi
    rw [present _ (by omega)]
    exact decide_eq_true (by omega)
  have absent : ∀ i ∈ List.range' (n + 1) (30 - n), (s.func (i + 1)).present = false ∧ n + 1 < i + 1 := by
    intro i hi
    have hi := List.mem_range'_1.1 hi
    rw [present _ (by omega)]
    exact ⟨decide_eq_false (by omega), by omega⟩
  change execVfDisable n s = _
  unfold execVfDisable
  rw [range31_about hn, List.foldl_append, List.foldl_cons, foldl_of_fixed (l := List.range n)]
  · dsimp only
    rw [if_neg (Nat.not_succ_le_self n), if_pos (by rw [present _ (by omega)]; simp)]
    refine congrArg Host.Outcome.next (foldl_of_fixed fun i hi => ?_)
    obtain ⟨gone, above⟩ := absent i hi
    rw [func_setFunc_ne _ (Nat.ne_of_gt above), flr_func_ne s (Nat.ne_of_gt above), gone]
    simp only [Nat.not_le.2 (Nat.lt_trans (Nat.lt_succ_self n) above), Bool.false_eq_true, if_false]
  · intro i hi
    have := List.mem_range.1 hi
    simp only [stay i hi, Nat.succ_le_of_lt this, if_true]

theorem pcieLinkDown_up {s : State} (up : s.linkUp = true) :
    exec .pcieLinkDown s = .next (s.functions.foldl State.flrState { s with linkUp := false }) := by
  change execPcieLinkDown s = _
  simp only [execPcieLinkDown, up, if_true]

/-! ## Precision Time Measurement (R510) -/

theorem ptmStart_idle {u : State} (en : u.isSet SYS_PTM_CTL_EN = true) (ptmEn : (u.func 0).ptmEn = true) (up : u.linkUp = true)
    (idle : u.ptm = none) : u.ptmStart = { u with ptm := some ⟨u.mt, u.tstate⟩ } := by
  simp only [State.ptmStart, en, ptmEn, up, idle, Option.isNone_none, Bool.and_self, if_true]

theorem ptmDialog_due {s : State} (due : s.ptmDue = true) (en : s.isSet SYS_PTM_CTL_EN = true) (ptmEn : (s.func 0).ptmEn = true)
    (up : s.linkUp = true) (idle : s.ptm = none) :
    exec .ptmDialog s = .next { s with ptmAt := some s.mt, ptm := some ⟨s.mt, s.tstate⟩ } := by
  change execPtmDialog s = _
  simp only [execPtmDialog, due, if_true]
  exact congrArg Host.Outcome.next (ptmStart_idle (u := { s with ptmAt := some s.mt }) en ptmEn up idle)

/-- A response in time: what it shows leaves the count of dialogs, which then counts it. -/
theorem ptmResponseRx_inTime {s : State} {d : PtmDialog} {m x : Nat} {p : Nat × Nat × Nat} (running : s.ptm = some d)
    (inTime : s.mt ≤ d.mt1 + ((100 * mtUs : Nat) : Int)) (hp : p = mtParts (d.mt1 + ((x % 2 ^ 32 * mtNs : Nat) : Int))) :
    exec (.ptmResponseRx m x) s = .next ((((((({ s with ptm := none } : State).wr64 SYS_PTM_HOST_LO SYS_PTM_HOST_HI m).wn SYS_PTM_MT_FRAC
      p.2.2).wn SYS_PTM_MT_NS p.2.1).wr64 SYS_PTM_MT_SEC_LO SYS_PTM_MT_SEC_HI p.1).wn SYS_PTM_DLY x).put SYS_PTM_SEQ_STATE d.state |>.put
      SYS_PTM_SEQ_SEQ (s.get SYS_PTM_SEQ_SEQ + 1)) := by
  subst hp
  change execPtmResponseRx m x s = _
  simp only [execPtmResponseRx, running, Int.not_lt.2 inTime, if_false]
  rw [get_wn_reg _ _ _ _ (by decide), get_of_rd (wr64_rd (by decide) (by decide)), get_wn_reg _ _ _ _ (by decide),
    get_wn_reg _ _ _ _ (by decide), get_of_rd (wr64_rd (by decide) (by decide))]
  rfl

theorem ptmTimeout_due {s : State} {d : PtmDialog} (running : s.ptm = some d) (due : d.mt1 + ((100 * mtUs : Nat) : Int) ≤ s.mt) :
    exec .ptmTimeout s =
      .next ((({ s with ptm := none } : State).put SYS_PTM_SEQ_FAIL (satAdd 8 (s.get SYS_PTM_SEQ_FAIL) 1)).raise evSYS_PTM_FAIL) := by
  change execPtmTimeout s = _
  simp only [execPtmTimeout, running, due, if_true]

/-! ## Vectors and Bus Master Enable (R511, R512, R516) -/

section
variable {s : State} {fn : Nat}

/-- The interval of a vector whose message waits ends: it is sent, or left pending. -/
theorem msixModerationEnd_waiting {v : Nat} (waiting : (s.vec fn v).waiting = true) (ended : s.vecBusy fn v = false) :
    exec (.msixModerationEnd fn v) s = .next (if s.vecBlocked fn v = true then
      s.setVec fn v { s.vec fn v with waiting := false, pba := true } else s.vecSend fn v) := by
  change execMsixModerationEnd fn v s = _
  simp only [execMsixModerationEnd, waiting, ended, Bool.not_true, Bool.or_self, Bool.false_eq_true, if_false]
  split <;> rfl

section
variable (hfn : fn < 32) (present : (s.func fn).present = true) (up : s.linkUp = true)
include hfn present up

/-- A function that is there, behind a link that is up, sees configuration writes. -/
theorem function_sees : (!(s.func fn).present || decide (32 ≤ fn) || !s.linkUp) = false := by
  simp [present, up, hfn]

theorem msixUnmask_entry {v : Nat} (addr data : Nat) (m : Bool) (hv : v < vecCount fn) :
    exec (.msixUnmask fn (.entry v addr data m)) s =
      .next ((s.setVec fn v { s.vec fn v with addr := addr, data := data, masked := m }).vecRelease fn) := by
  change execMsixUnmask fn (.entry v addr data m) s = _
  simp only [execMsixUnmask, function_sees hfn present up, Nat.not_le.2 hv, Bool.false_eq_true, if_false]

theorem msixUnmask_control (en fm : Bool) : exec (.msixUnmask fn (.control en fm)) s =
    .next ((s.setFunc fn { s.func fn with msixEn := en, fmask := fm }).vecRelease fn) := by
  change execMsixUnmask fn (.control en fm) s = _
  simp only [execMsixUnmask, function_sees hfn present up, Bool.false_eq_true, if_false]

theorem busMasterEnableWrite_sees (bme ptm : Bool) : exec (.busMasterEnableWrite fn bme ptm) s = .next
    (if bme = true then ((s.setFunc fn { s.func fn with bme := bme, ptmEn := ptm }).vecRelease fn).dxFill
    else (s.setFunc fn { s.func fn with bme := bme, ptmEn := ptm }).ringsDisable fn) := by
  change execBusMasterEnableWrite fn bme ptm s = _
  simp only [execBusMasterEnableWrite, function_sees hfn present up, Bool.false_eq_true, if_false]

end

end

/-- Settles O30: each event of the PCIe port meets the law of its row above. -/
theorem pcieCommandsComplete : Obligations.PcieCommandsComplete := by
  refine ⟨fun _ _ hfn present => functionLevelReset_present hfn present, fun _ _ hn present => vfDisable_last hn present,
    fun _ up => pcieLinkDown_up up, fun _ => rfl, ?ptmStart, fun _ due en ptmEn up idle => ptmDialog_due due en ptmEn up idle,
    fun _ _ _ _ _ running inTime hp => ptmResponseRx_inTime running inTime hp, fun _ _ running due => ptmTimeout_due running due,
    ?sends, ?pends, fun _ _ _ addr data m hfn present up hv => msixUnmask_entry hfn present up addr data m hv,
    fun _ _ en fm hfn present up => msixUnmask_control hfn present up en fm,
    fun _ _ ptm hfn present up => ⟨busMasterEnableWrite_sees hfn present up true ptm, busMasterEnableWrite_sees hfn present up false ptm⟩⟩
  case ptmStart =>
    rintro s u w opens go rfl en ptmEn up idle
    change execPtmStart w s = _
    rw [execPtmStart, pfOnly_open opens, State.ptmCtlWrite, if_pos go, ptmStart_idle en ptmEn up idle]
  case sends =>
    intro s fn v waiting ended free
    rw [msixModerationEnd_waiting waiting ended, if_neg (by simp [free])]
  case pends =>
    intro s fn v waiting ended blocked
    rw [msixModerationEnd_waiting waiting ended, if_pos blocked]

/-! ## Doorbells of the rings (R497, R504, R524, R574) -/

section
variable {s : State} {w : Wr} (hh : (s.func w.fn).held = none) (hr : s.isSet SYS_START_READY = true) (hw : w.be % 16 = 15)
include hh hr hw

theorem dbCmdPiWrite_acts {r : Nat} (d : List Byte) (h : r < 4) :
    exec (.dbCmdPiWrite r w d) s = .next (s.cmdPi w.fn r (w.v.toNat % 65536) d) := by
  change execDbCmdPiWrite r w d s = _
  rw [execDbCmdPiWrite, doorbell_acts _ _ hh hr hw, if_pos h]

theorem dbCplCiWrite_acts {r : Nat} (h : r < 4) :
    exec (.dbCplCiWrite r w) s = .next (s.cplCiWrite w.fn r (w.v.toNat % 65536)) := by
  change execDbCplCiWrite r w s = _
  rw [execDbCplCiWrite, doorbell_acts _ _ hh hr hw, if_pos h]

theorem dbCplCiWrite_takes {r : Nat} (h : r < 4) (on : s.isSet (BRG_CRING_CTL_EN w.fn r) = true)
    (within : (s.get (BRG_CPL_PI_V w.fn r) + 65536 - w.v.toNat % 65536) % 65536 ≤ s.cplSize w.fn r) :
    exec (.dbCplCiWrite r w) s = .next (((s.setCring w.fn r { s.cring w.fn r with cplCi := w.v.toNat % 65536 }).cplFlush w.fn r
      (s.cring w.fn r).replies).settle) := by
  rw [dbCplCiWrite_acts hh hr hw h, State.cplCiWrite]
  simp only [on, Nat.not_lt.2 within, decide_false, Bool.not_true, Bool.or_self, Bool.false_eq_true, if_false]

theorem dbCplCiWrite_off {r : Nat} (h : r < 4) (off : s.isSet (BRG_CRING_CTL_EN w.fn r) = false) :
    exec (.dbCplCiWrite r w) s = .next ((s.put (BRG_CRING_STAT_PI_BAD_SEEN w.fn r) 1).raise evCMD_PI_BAD (4 * w.fn + r) [] w.fn) := by
  rw [dbCplCiWrite_acts hh hr hw h, State.cplCiWrite]
  simp only [off, Bool.not_false, Bool.true_or, if_true, State.piBad]

theorem deliveryDoorbell_takes {i n : Nat} (hi : i < 4096) (on : (s.delivery w.fn i).on = true)
    (hn : n = (w.v.toNat + 2 ^ 32 - (s.delivery w.fn i).taken % 2 ^ 32) % 2 ^ 32)
    (within : (s.delivery w.fn i).taken + n ≤ (s.delivery w.fn i).total) :
    exec (.deliveryDoorbell i w) s = .next (s.setDelivery w.fn i { s.delivery w.fn i with taken := (s.delivery w.fn i).taken + n }) := by
  subst hn
  change execDeliveryDoorbell i w s = _
  rw [execDeliveryDoorbell, doorbell_acts _ _ hh hr hw, if_pos hi, State.deliveryTaken]
  simp only [on, Nat.not_lt.2 within, decide_false, Bool.not_true, Bool.or_self, Bool.false_eq_true, if_false]

end

/-! ## Envelopes (R526, R571) -/

section
variable {s : State} {port addr udp : Nat} {l : List Byte} (en : s.isSet CMD_UDP_EN = true) (ready : s.engineShut = false)
include en ready

/-- An envelope that the engine meets, with no queue ahead of it. -/
theorem cmdEnvelopeRx_meets : exec (.cmdEnvelopeRx port addr udp 0 l) s = .next (match s.envelopeOver l with
    | some b => (s.bumpSat CMD_UDP_DROP evCMD_CNT_SAT).rateSay b
    | none => match s.openEnvelope l with
      | none => s.authFail (if leNat ((l.drop 4).take 1) < 32 then leNat ((l.drop 4).take 1) else 0)
      | some (b, 1, c, pkt) =>
        if !(s.env b).fresh c then (s.bumpSat CMD_UDP_REPLAY evCMD_CNT_SAT).raise evCMD_REPLAY_DROP 65535 [] b
        else ((s.setEnv b ((s.env b).take c)).arrive (packetOf (.udp port addr udp) b pkt.length pkt).1
          (packetOf (.udp port addr udp) b pkt.length pkt).2).settle
      | some (_, _, _, pkt) => match s.replyFrom (.udp port addr udp) pkt with
        | some e => s.gazReply e (bytesWords pkt)
        | none => s.lateReply) := by
  change execCmdEnvelopeRx port addr udp 0 l s = _
  rw [execCmdEnvelopeRx, if_pos en, State.envelopeIn, ready]
  rfl

theorem cmdEnvelopeRx_over {b : Nat} (exceeds : s.envelopeOver l = some b) :
    exec (.cmdEnvelopeRx port addr udp 0 l) s = .next ((s.bumpSat CMD_UDP_DROP evCMD_CNT_SAT).rateSay b) := by
  rw [cmdEnvelopeRx_meets en ready, exceeds]

section
variable {b c : Nat} {pkt : List Byte} (under : s.envelopeOver l = none) (opened : s.openEnvelope l = some (b, 1, c, pkt))
include under opened

theorem cmdEnvelopeRx_fresh (fresh : (s.env b).fresh c = true) : exec (.cmdEnvelopeRx port addr udp 0 l) s = .next
    (((s.setEnv b ((s.env b).take c)).arrive (packetOf (.udp port addr udp) b pkt.length pkt).1
      (packetOf (.udp port addr udp) b pkt.length pkt).2).settle) := by
  rw [cmdEnvelopeRx_meets en ready, under, opened]
  simp only [fresh, Bool.not_true, Bool.false_eq_true, if_false]

theorem cmdEnvelopeRx_replayed (stale : (s.env b).fresh c = false) : exec (.cmdEnvelopeRx port addr udp 0 l) s = .next
    ((s.bumpSat CMD_UDP_REPLAY evCMD_CNT_SAT).raise evCMD_REPLAY_DROP 65535 [] b) := by
  rw [cmdEnvelopeRx_meets en ready, under, opened]
  simp only [stale, Bool.not_false, if_true]

end

end

/-! ## Keys, rings and the reset of a borough (R525, R527, R577) -/

theorem keyCtlWrite_loads {s : State} {w : Wr} (load : w.hits 31 = true) (keep : w.hits 30 = false) :
    s.keyCtlWrite w = { (s.mergeRaw CMD_KEY_CTL.key w).keyLoad ((s.mergeRaw CMD_KEY_CTL.key w).get CMD_KEY_CTL_B)
      ((List.range 8).flatMap (fun i => leBytes 4 (mapGet 0#32 i (s.mergeRaw CMD_KEY_CTL.key w).keyStage).toNat)) with keyStage := [] } := by
  simp only [State.keyCtlWrite, load, keep, Bool.false_eq_true, if_false, if_true]

theorem keyCtlWrite_clears {s : State} {w : Wr} (keep : w.hits 31 = false) (clear : w.hits 30 = true) :
    s.keyCtlWrite w = (s.mergeRaw CMD_KEY_CTL.key w).keyClear ((s.mergeRaw CMD_KEY_CTL.key w).get CMD_KEY_CTL_B) := by
  simp only [State.keyCtlWrite, keep, clear, Bool.false_eq_true, if_false, if_true]

/-- A borough enables a ring of its own that is off, with a vector that it has. -/
theorem cringEnable_fromOff {s : State} {b r : Nat} {v : Word} (hb : b < 32) (hr : r < 4) (hh : (s.func b).held = none)
    (up : s.shut 0x84000 = false) (off : bit (s.rn (BRG_CRING_CTL b r)) 31 = false) (vec : bits v.toNat 26 16 < vecCount b)
    (asks : bit v.toNat 31 = true) : exec (.cringEnable b r ⟨b, 15, v⟩) s =
      .next ((s.mergeRaw (BRG_CRING_CTL b r).key (Wr.keep ⟨b, 15, v⟩ (s.rn (BRG_CRING_CTL b r)) 31 31)).ringEnable b r) := by
  have whole : merged (s.rn (BRG_CRING_CTL b r)) ⟨b, 15, v⟩ = v.toNat := merged_whole _ _ _ (s.rd _).isLt
  change execCringEnable b r _ s = _
  rw [execCringEnable, State.flush_none hh]
  simp only [hb, hr, up, ringSees, decide_true, Bool.or_true, Bool.not_false, Bool.and_self, if_true]
  simp only [State.cringCtlWrite, whole, off, asks, Nat.not_le.2 vec, decide_false, Bool.not_false, Bool.false_and, Bool.and_false,
    Bool.and_self, Bool.false_eq_true, if_false, if_true]

/-- A write that the window of a borough's control register lets in (R583). -/
theorem brgCtlReset_opens {s : State} {b : Nat} {w : Wr} (hh : (s.func w.fn).held = none) (up : s.shut 0x80100 = false) (hb : b < 32)
    (may : w.fn = 0 ∨ w.fn = b) : exec (.brgCtlReset b w) s = .next (s.brgCtlWrite b w) := by
  have sees : (decide (w.fn = 0) || decide (w.fn = b)) = true := by simpa using may
  change execBrgCtlReset b w s = _
  rw [execBrgCtlReset, State.flush_none hh]
  simp only [hb, sees, up, decide_true, Bool.not_false, Bool.and_self, if_true]

theorem canReset_runs {s : State} {b : Nat} (tenant : 1 ≤ b) (hb : b < 32) (runs : s.get (BRG_STAT_STATE b) = 0) : s.canReset b = true := by
  simp [State.canReset, tenant, hb, runs]

theorem boroughResetDone_due {s : State} {b : Nat} (resetting : s.get (BRG_STAT_STATE b) = 1) :
    exec (.boroughResetDone b) s =
      .next (((s.put (BRG_STAT_STATE b) 0).bump (BRG_RESETS b)).raise evBRG_RESET_DONE b [] b) := by
  change execBoroughResetDone b s = _
  simp only [execBoroughResetDone, resetting, ne_eq, not_true_eq_false, if_false]

/-- Settles O31: each command meets the law of its row above. -/
theorem commandPathsComplete : Obligations.CommandPathsComplete := by
  refine ⟨fun _ _ _ d hh hr hw h => dbCmdPiWrite_acts hh hr hw d h,
    fun _ _ _ hh hr hw h on within => dbCplCiWrite_takes hh hr hw h on within,
    fun _ _ _ hh hr hw h off => dbCplCiWrite_off hh hr hw h off,
    fun _ _ _ _ _ _ _ _ en ready under opened fresh => cmdEnvelopeRx_fresh en ready under opened fresh,
    fun _ _ _ _ _ _ _ _ en ready under opened stale => cmdEnvelopeRx_replayed en ready under opened stale,
    fun _ _ _ _ _ _ en ready exceeds => cmdEnvelopeRx_over en ready exceeds, ?load, ?clear,
    fun _ _ _ _ hb hr hh up off vec asks => cringEnable_fromOff hb hr hh up off vec asks, fun _ _ => rfl, ?owner, ?tenant,
    fun _ _ resetting => boroughResetDone_due resetting,
    fun _ _ _ _ hh hr hw hi on hn within => deliveryDoorbell_takes hh hr hw hi on hn within, fun _ => rfl⟩
  case load =>
    rintro s u w opens load keep rfl
    change execCmdKeyLoad w s = _
    rw [execCmdKeyLoad, pfOnly_open opens, keyCtlWrite_loads load keep]
  case clear =>
    rintro s u w opens keep clear rfl
    change execCmdKeyClear w s = _
    rw [execCmdKeyClear, pfOnly_open opens, keyCtlWrite_clears keep clear]
  case owner =>
    rintro s u b w ⟨owner, hh, up, -⟩ hb asks rfl tenant runs
    rw [brgCtlReset_opens (by rw [owner, hh]) up hb (.inl owner), State.brgCtlWrite, if_pos owner]
    simp only [asks, canReset_runs tenant hb runs, Bool.and_self, if_true]
  case tenant =>
    intro s b w own tenant hh up hb asks runs
    rw [brgCtlReset_opens (by rw [own, hh]) up hb (.inr own), State.brgCtlWrite]
    simp only [own, tenant, if_false, asks, canReset_runs (Nat.one_le_iff_ne_zero.2 tenant) hb runs, Bool.and_self, if_true]

/-! ## The tenant mask (R611) -/

section
variable {s : State} {w : Wr} (hh : (s.func w.fn).held = none) (hr : s.isSet SYS_START_READY = true) (hw : w.be % 16 = 15)
  (tenant : w.fn ≠ 0)
include hh hr hw tenant

theorem dbEvtSrc_named (named : bits w.v.toNat 8 0 ≤ 287) :
    exec (.dbEvtSrc w) s = .next (s.tmaskBit w.fn (bits w.v.toNat 8 0) (bit w.v.toNat 31)) := by
  change execDbEvtSrc w s = _
  rw [execDbEvtSrc, doorbell_acts _ _ hh hr hw, State.sourceBell]
  simp only [tenant, Nat.not_lt.2 named, if_false]

theorem dbEvtSrc_unnamed (unnamed : 287 < bits w.v.toNat 8 0) : exec (.dbEvtSrc w) s = .next (s.raise evBRG_DB_BAD w.fn [] w.fn) := by
  change execDbEvtSrc w s = _
  rw [execDbEvtSrc, doorbell_acts _ _ hh hr hw, State.sourceBell]
  simp only [tenant, unnamed, if_false, if_true]

theorem dbEvtAll_acts :
    exec (.dbEvtAll w) s = .next ((List.range 288).foldl (fun (s : State) n => s.tmaskBit w.fn n (bit w.v.toNat 0)) s) := by
  change execDbEvtAll w s = _
  rw [execDbEvtAll, doorbell_acts _ _ hh hr hw, State.everyBell, if_neg tenant]

end

/-! ## Windows and pending bits (R610, R612, R613) -/

theorem evtWindowEnd_oldest {s : State} {x : EvWindow} {r : List EvWindow} (windows : s.windows = x :: r) (due : x.ends ≤ s.mt) :
    exec .evtWindowEnd s = .next (s.closeWindow x) := by
  change execEvtWindowEnd s = _
  simp [execEvtWindowEnd, windows, due]

/-- A window in which nothing was folded closes without a record. -/
theorem closeWindow_empty {s : State} {x : EvWindow} {r : List EvWindow} (windows : s.windows = x :: r) (empty : x.count = 0)
    (once : x ∉ r) : s.closeWindow x = { s with windows := r } := by
  have rest : s.windows.filter (fun y => y != x) = r := by
    rw [windows, List.filter_cons_of_neg (by simp)]
    exact List.filter_eq_self.2 fun y hy => by
      simp only [bne_iff_ne]
      rintro rfl
      exact once hy
  simp only [State.closeWindow, empty, if_true, rest]

theorem evtPendWrite_opens {s : State} {k : Nat} {w : Wr} (opens : s.Opens w (0x51800 + 4 * k)) (hk : k < 9) :
    exec (.evtPendWrite k w) s = .next (s.mergeRaw (EVT_PEND k).key w) := by
  change execEvtPendWrite k w s = _
  rw [execEvtPendWrite, pfOnly_open opens, if_pos hk]

/-! ## The writer of the logbook (R616 to R621) -/

section
variable {s : State} {i : StageItem}

theorem logWrite_next {fails : Nat} (ready : s.isSet LOG_STAT_READY = true) (next : s.stageNext = some i) :
    exec (.logWrite fails) s = .next (({ s with stageQ := s.stageQ.erase i } : State).logItem i fails) := by
  change execLogWrite fails s = _
  simp only [execLogWrite, ready, next, Bool.not_true, Bool.false_eq_true, if_false]

/-- A record that repeats no other, in a logbook with room. -/
theorem logItem_new (new : s.logRepeats i = none) (room : s.log.slots.length < logSlots) (runs : s.isSet LOG_STAT_STOPPED = false) :
    s.logItem i 0 = s.logPut s.log.slots.length ⟨s.rd64 LOG_HEAD_LO LOG_HEAD_HI + 1, i.item, true⟩ := by
  simp only [State.logItem, new, Nat.not_le.2 room, runs, State.logCheck, decide_false, Bool.or_self, Bool.false_eq_true, if_false, if_true]

theorem logItem_stopped {fails : Nat} (new : s.logRepeats i = none) (stopped : s.isSet LOG_STAT_STOPPED = true) :
    s.logItem i fails = s.logRefuse := by
  simp only [State.logItem, new, stopped, Bool.or_true, if_true]

theorem stageNext_empty (empty : s.stageQ = []) : s.stageNext = none := by
  rw [State.stageNext, empty]
  split <;> rfl

theorem logWrite_empty {fails : Nat} (ready : s.isSet LOG_STAT_READY = true) (empty : s.stageQ = []) :
    exec (.logWrite fails) s = .next s := by
  change execLogWrite fails s = _
  simp only [execLogWrite, ready, stageNext_empty empty, Bool.not_true, Bool.false_eq_true, if_false]

theorem logScan_unready (unready : s.isSet LOG_STAT_READY = false) : exec .logScan s = .next s.logScan := by
  change execLogScan s = _
  simp only [execLogScan, unready, Bool.false_eq_true, if_false]

end

/-- Settles O32: each command meets the law of its row above. -/
theorem eventCommandsComplete : Obligations.EventCommandsComplete := by
  refine ⟨fun _ _ hh hr hw tenant named => dbEvtSrc_named hh hr hw tenant named,
    fun _ _ hh hr hw tenant unnamed => dbEvtSrc_unnamed hh hr hw tenant unnamed,
    fun _ _ hh hr hw tenant => dbEvtAll_acts hh hr hw tenant, fun _ _ _ windows due => evtWindowEnd_oldest windows due, ?empty,
    fun _ _ _ opens hk => evtPendWrite_opens opens hk, ?new, ?stopped, fun _ unready => logScan_unready unready,
    fun _ _ ready empty => logWrite_empty ready empty⟩
  case empty =>
    intro s x r windows due empty once
    exact ⟨_, evtWindowEnd_oldest windows due, closeWindow_empty windows empty once⟩
  case new =>
    intro s i ready next new room runs
    rw [logWrite_next ready next]
    exact congrArg Host.Outcome.next (logItem_new (s := { s with stageQ := s.stageQ.erase i }) new room runs)
  case stopped =>
    intro s i ready next new stopped
    rw [logWrite_next ready next]
    exact congrArg Host.Outcome.next (logItem_stopped (s := { s with stageQ := s.stageQ.erase i }) new stopped)

end Sys2Proof.Machine

namespace Sys2Proof.Machine

/-! SUPPORT and the statements of the gazetteer's rows 352 to 357 and of the power domains' and the spares' rows 362 to 370. -/

/-! ## Copies of a district send (R590 to R595) -/

section
variable {s : State} {d e : Nat} {x : GazSend} {y : GazEntry}

section
variable {r : List Nat} (sent : s.gazSend d = some x) (runs : x.isOver = false) (left : s.gazLeft d x.next = e :: r)
  (registered : s.gazEntry e = some y)
include sent runs left registered

/-- The copy of the next member is formed and sent. -/
theorem gazCopyTx_sends {sl gen : Nat} {c : GazCopy} (inTime : s.mt ≤ x.act - ((2 * mtUs : Nat) : Int)) (due : s.copyDue = true)
    (hsl : sl = ((List.range 4).find? (fun i => y.dists.getD i 0 == d)).getD 0) (hgen : gen = (bits y.gens (4 * sl + 3) (4 * sl) + 1) % 16)
    (hc : c = { e := e, relay := y.kind == 3, tag := 0xFFFC + sl, gen := gen, last := s.mt }) : exec (.gazCopyTx d) s = .next
    (((({ s.setEntry e (some { y with gens := setBits y.gens (4 * sl + 3) (4 * sl) gen }) with gazBook := {
      (s.setEntry e (some { y with gens := setBits y.gens (4 * sl + 3) (4 * sl) gen })).gazBook with copyAt := some s.mt } } : State)).setSend d { x with
      next := e + 1, copies := x.copies ++ [c] }).gazTransmit y (c.bytes d x.inner)) := by
  subst hc hgen hsl
  change execGazCopyTx d s = _
  simp only [execGazCopyTx, sent, runs, left, registered, due, Int.not_lt.2 inTime, List.head?_cons, Bool.not_true, Bool.false_eq_true,
    if_false]

/-- A copy that can no longer reach its member in time is not sent. -/
theorem gazCopyTx_tooLate (late : x.act - ((2 * mtUs : Nat) : Int) < s.mt) :
    exec (.gazCopyTx d) s = .next ((s.gazTooLate d e x).gazCheck d) := by
  change execGazCopyTx d s = _
  simp only [execGazCopyTx, sent, runs, left, registered, late, List.head?_cons, Bool.false_eq_true, if_false, if_true]

end

theorem gazRetry_due {c : GazCopy} (sent : s.gazSend d = some x) (copied : x.copies.find? (fun k => k.e == e) = some c)
    (registered : s.gazEntry e = some y) (runs : x.isOver = false) (unanswered : c.done = false)
    (due : c.last + ((x.retry * mtMs : Nat) : Int) ≤ s.mt) :
    exec (.gazRetry d e) s = .next ((s.setSend d { x with copies := x.copies.map (fun (k : GazCopy) => if k.e = e then { k with last := s.mt }
      else k) }).gazTransmit y (c.bytes d x.inner)) := by
  change execGazRetry d e s = _
  simp only [execGazRetry, sent, copied, registered, runs, unanswered, Int.not_lt.2 due, decide_false, Bool.or_self, Bool.false_eq_true,
    if_false]

theorem gazOutcomeRx_reply {c : Nat} {env r : List Byte} (opened : s.openEnvelope env = some (0, 2, c, r)) :
    exec (.gazOutcomeRx e env) s = .next (s.gazReply e (bytesWords r)) := by
  change execGazOutcomeRx e env s = _
  simp only [execGazOutcomeRx, State.gazReceive, opened]

theorem gazOutcomeRx_refused {env : List Byte} (refused : s.openEnvelope env = none) :
    exec (.gazOutcomeRx e env) s = .next (s.authFail 0) := by
  change execGazOutcomeRx e env s = _
  simp only [execGazOutcomeRx, State.gazReceive, refused]

theorem gazCollectEnd_due (sent : s.gazSend d = some x) (runs : x.isOver = false)
    (due : x.act + ((x.collect * mtMs : Nat) : Int) ≤ s.mt) : exec (.gazCollectEnd d) s = .next (s.gazFinish d) := by
  change execGazCollectEnd d s = _
  simp only [execGazCollectEnd, sent, runs, Int.not_lt.2 due, decide_false, Bool.or_self, Bool.false_eq_true, if_false]

end

/-! ## Fault reports (R596 to R598) -/

section
variable {s : State} {l : List Byte} (en : s.isSet GAZ_FR_EN = true)
include en

/-- A good report of a subject and a class without an open digest. -/
theorem faultReportRx_first (good : s.reportOk l = true)
    (first : s.digestOf (leNat ((l.drop 12).take 4)) (leNat ((l.drop 5).take 1)) = none) : exec (.faultReportRx l) s =
      .next (s.reportFold (leNat ((l.drop 12).take 4)) (leNat ((l.drop 5).take 1)) (leNat ((l.drop 8).take 4))) := by
  change execFaultReportRx l s = _
  simp only [execFaultReportRx, en, State.faultReport, good, first, Bool.not_true, Bool.false_eq_true, if_false, if_true]

theorem faultReportRx_bad (bad : s.reportOk l = false) : exec (.faultReportRx l) s = .next s.reportRefuse := by
  change execFaultReportRx l s = _
  simp only [execFaultReportRx, en, State.faultReport, bad, Bool.not_false, if_true]

end

theorem digestClose_due {s : State} {u c : Nat} {x : Digest} (opened : s.digestOf u c = some x) (due : x.closes ≤ s.mt) :
    exec (.digestClose u c) s = .next (s.digestClose x) := by
  change execDigestClose u c s = _
  simp only [execDigestClose, opened, due, if_true]

/-- Settles O33: each command meets the law of its row above. -/
theorem gazetteerCommandsComplete : Obligations.GazetteerCommandsComplete :=
  ⟨fun _ _ _ _ _ _ _ _ _ sent runs left registered inTime due hsl hgen hc =>
     gazCopyTx_sends sent runs left registered inTime due hsl hgen hc,
   fun _ _ _ _ _ _ sent runs left registered late => gazCopyTx_tooLate sent runs left registered late,
   fun _ _ _ _ _ _ sent copied registered runs unanswered due => gazRetry_due sent copied registered runs unanswered due,
   fun _ _ _ _ _ opened => gazOutcomeRx_reply opened, fun _ _ _ refused => gazOutcomeRx_refused refused,
   fun _ _ _ sent runs due => gazCollectEnd_due sent runs due, fun _ _ en good first => faultReportRx_first en good first,
   fun _ _ en bad => faultReportRx_bad en bad, fun _ _ _ _ opened due => digestClose_due opened due⟩

/-! ## Writes of `PWR_DOM` (R628) -/

section
variable {s u : State} {d : Nat} {w : Wr}

theorem pwrDown_inUse (awake : u.get (PWR_DOM_STATE d) = 0) (used : u.domainInUse d = true) :
    u.pwrDown d = (1, u.put (PWR_DOM_CODE d) 1) := by
  simp only [State.pwrDown, awake, used, ne_eq, not_true_eq_false, if_false, if_true]

section
variable (opens : s.Opens w (0x10100 + 4 * d)) (hd : d ≤ 96) (hu : u = s.mergeRaw (PWR_DOM d).key w)
include opens hd hu

theorem pwrDown_opens (down : w.hits 31 = true) (notUp : w.hits 30 = false) : exec (.pwrDown d w) s = .next (u.pwrDown d).2 := by
  subst hu
  change execPwrDown d w s = _
  rw [execPwrDown, pfOnly_open opens, if_pos hd, State.pwrDomWrite]
  simp only [down, notUp, Bool.and_false, Bool.false_eq_true, if_false, if_true]

theorem pwrUp_opens (notDown : w.hits 31 = false) (up : w.hits 30 = true) : exec (.pwrUp d w) s = .next (u.pwrUp d).2 := by
  subst hu
  change execPwrUp d w s = _
  rw [execPwrUp, pfOnly_open opens, if_pos hd, State.pwrDomWrite]
  simp only [notDown, up, Bool.false_and, Bool.false_eq_true, if_false, if_true]

end

end

/-! ## Drains and wakes of the domains (R629, R632, R635, R636) -/

section
variable {s : State} {d : Nat}

theorem drainComplete_drained (drains : s.get (PWR_DOM_STATE d) = 1) (plain : d ≠ 95) (drained : s.domDrained d = true) :
    exec (.drainComplete d) s = .next (((s.domainAsleep d).raise evPWR_DOMAIN_DOWN d).finishDomain 0x1001 d 0) := by
  change execDrainComplete d s = _
  simp only [execDrainComplete, drains, plain, drained, ne_eq, not_true_eq_false, Bool.not_true, Bool.false_eq_true, if_false]

theorem drainTimeout_due (drains : s.get (PWR_DOM_STATE d) = 1) (passed : s.domPassed d 100000 = true) :
    exec (.drainTimeout d) s = .next (((((((s.put (PWR_DOM_STATE d) 0).refusedEnd d).put (PWR_DOM_CODE d) 3).put PWR_STAT_DRAIN_FAIL_SEEN
      1).raise evPWR_DRAIN_FAIL d).finishDomain 0x1001 d 0x781)) := by
  change execDrainTimeout d s = _
  simp only [execDrainTimeout, drains, passed, ne_eq, not_true_eq_false, decide_false, Bool.not_true, Bool.or_self, Bool.false_eq_true,
    if_false]

theorem wakeComplete_woken (wakes : s.get (PWR_DOM_STATE d) = 3) (plain : d ≠ 93) :
    exec (.wakeComplete d) s = .next (((s.domainAwake d).raise evPWR_DOMAIN_UP d).finishDomain 0x1002 d 0) := by
  change execWakeComplete d s = _
  simp only [execWakeComplete, wakes, plain, ne_eq, not_true_eq_false, decide_false, Bool.false_and, Bool.or_self, Bool.false_eq_true,
    if_false]

theorem wakeTimeout_due (wakes : s.get (PWR_DOM_STATE d) = 3) (passed : s.domPassed d (2 * wakeTime d) = true) :
    exec (.wakeTimeout d) s = .next ((((((s.put (PWR_DOM_STATE d) 2).put (PWR_DOM_CODE d) 2).put PWR_STAT_WAKE_FAIL_SEEN 1).raise
      evPWR_WAKE_FAIL d).finishDomain 0x1002 d 0x780)) := by
  change execWakeTimeout d s = _
  simp only [execWakeTimeout, wakes, passed, ne_eq, not_true_eq_false, decide_false, Bool.not_true, Bool.or_self, Bool.false_eq_true,
    if_false]

end

/-! ## Failures of engines, slots and cores (R639 to R641) -/

section
variable {s : State}

/-- The first corrected error of an engine is counted in its hour. -/
theorem engFail_firstCorrected {p : Nat} (first : mapGet ({} : EngErr) p s.engErrs = {}) :
    exec (.engFail p true) s = .next (({ s with engErrs := mapPut {} p ⟨s.mt / (3600 * mtSec : Int), 1⟩ s.engErrs } : State).put
      (PWR_ENG_CORR p) (satAdd 16 (s.get (PWR_ENG_CORR p)) 1)) := by
  have one : (if ({} : EngErr).hour = s.mt / (3600 * mtSec : Int) then ({} : EngErr).n else 0) + 1 = 1 := by split <;> rfl
  change execEngFail p true s = _
  simp only [execEngFail, first, one, Bool.not_true, Bool.false_eq_true, if_false]
  rfl

theorem slotFail_first {u : State} {n : Nat} (hn : n < 1024) (serves : s.retiredSlots.contains n = false)
    (sound : s.failingSlots.contains n = false) (hu : u = (({ s with failingSlots := n :: s.failingSlots } : State).raise evPWR_SLOT_FAIL n))
    (spare : (u.spareSlot n).isSome = true) :
    exec (.slotFail n) s = .next (if u.armed 2 then u.slotSubstitute n true else u) := by
  have left : (u.spareSlot n).isNone = false := by simpa using spare
  change execSlotFail n s = _
  simp only [execSlotFail, Nat.not_le.2 hn, serves, sound, decide_false, Bool.or_self, Bool.false_eq_true, if_false, ← hu, left]

section
variable {k : Nat} (hk : k < 5) (serves : s.get (PWR_CORE_STATE k) = 0)
include hk serves

/-- A core that executes a command fails in lockstep, a spare being left. -/
theorem coreFail_lockstep {u : State} {a : Nat} (hu : u = ((s.put (PWR_CORE_STATE k) 2).raise evPWR_CORE_FAIL k).finishCmd a 0x11 [])
    (spare : u.sparesLeft 8 ≠ 0) : exec (.coreFail k false (some a)) s = .next (if u.armed 8 then u.coreSubstitute k true else u) := by
  change execCoreFail k false (some a) s = _
  simp only [execCoreFail, Nat.not_le.2 hk, serves, ne_eq, not_true_eq_false, decide_false, Bool.or_self, Bool.false_and, Bool.false_eq_true,
    if_false, ← hu, spare]

/-- The first time that a core's watchdog expires. -/
theorem coreFail_firstDog (first : mapGet none k s.coreDog = none) : exec (.coreFail k true none) s = .next
    (({ s with coreDog := mapPut none k (some s.mt) s.coreDog } : State).put (PWR_CORE_WDOG k) (satAdd 16 (s.get (PWR_CORE_WDOG k)) 1)) := by
  change execCoreFail k true none s = _
  simp only [execCoreFail, Nat.not_le.2 hk, serves, first, ne_eq, not_true_eq_false, decide_false, Bool.or_self, Bool.false_eq_true,
    Bool.not_false, Bool.and_self, if_false, if_true]

end

end

/-- Settles O34: each command meets the law of its row above. -/
theorem powerCommandsComplete : Obligations.PowerCommandsComplete := by
  refine ⟨?down, ?downInUse, ?up, fun _ _ drains plain drained => drainComplete_drained drains plain drained,
    fun _ _ drains passed => drainTimeout_due drains passed, fun _ _ wakes plain => wakeComplete_woken wakes plain,
    fun _ _ wakes passed => wakeTimeout_due wakes passed, fun _ _ => rfl, fun _ _ first => engFail_firstCorrected first,
    fun _ _ _ hn serves sound hu spare => slotFail_first hn serves sound hu spare,
    fun _ _ _ _ hk serves hu spare => coreFail_lockstep hk serves hu spare, fun _ _ hk serves first => coreFail_firstDog hk serves first⟩
  case down =>
    intro s u d w opens hd down notUp hu awake unused
    rw [pwrDown_opens opens hd hu down notUp, pwrDown_drains awake unused rfl]
  case downInUse =>
    intro s u d w opens hd down notUp hu awake used
    rw [pwrDown_opens opens hd hu down notUp, pwrDown_inUse awake used]
  case up =>
    intro s u d w opens hd plain notDown up hu asleep
    rw [pwrUp_opens opens hd hu notDown up, pwrUp_wakes asleep plain]

end Sys2Proof.Machine

namespace Sys2Proof.Machine

/-! SUPPORT and the statements of start-up, resets and clocks, rows 371 to 385 and 398 to 402, and of board management and the test
access port, rows 386 to 397. -/

/-! ## Bits of a word -/

theorem bit_zero (n : Nat) : bit 0 n = false := by simp [bit]

/-- A write of all four bytes carries every bit of its word. -/
theorem whole_mask (fn : Nat) (v : Word) : v.toNat &&& (⟨fn, 15, v⟩ : Wr).mask = v.toNat := by
  have full : (⟨fn, 15, v⟩ : Wr).mask = 2 ^ 32 - 1 := by simp [Wr.mask]
  rw [full, Nat.and_two_pow_sub_one_eq_mod, Nat.mod_eq_of_lt v.isLt]

theorem whole_hits (fn b : Nat) (v : Word) : (⟨fn, 15, v⟩ : Wr).hits b = bit v.toNat b := by
  rw [Wr.hits, whole_mask, bit, beq_eq_decide]

/-! ## Start-up (R652, R653) -/

theorem heldReset_none {t : State} (free : t.start.warmHeld = none) : t.heldReset = t := by rw [State.heldReset, free]

/-- The links of the dies come up without a change of the start-up's own state. -/
theorem dieLinks_start (l : List Nat) (t : State) :
    (l.foldl (fun (s : State) d => s.put (CNV_DIE_STAT_LINK_UP d) 1) t).start = t.start := by
  induction l generalizing t with
  | nil => rfl
  | cons d l ih => exact ih _

section
variable {s : State} (locked : s.tb.locked = true) (starts : s.isSet SYS_START_READY = false) (cold : s.isSet SYS_START_WARM_ACT = false)

theorem xoFail_starts (held : s.tb.locked = false) (released : s.porLow = false) (supplied : s.start.aonLow = false) :
    exec .xoFail s = .next
      ((((s.put TB_STATUS_COARSE 1).put CLK_STAT_XO_FAIL_SEEN 1).clockStart).raise evCLK_XO_FAIL 65535 [] 0 false true) := by
  change execXoFail s = _
  simp only [execXoFail, held, released, supplied, Bool.or_self, Bool.false_eq_true, if_false]

include locked starts cold

/-- Every stack trains. -/
theorem stackTrainingDone_sound {u : State} (first : s.start.trained = [])
    (hu : u = (List.range 6).foldl (fun (s : State) n => s.put CLK_STAT_STACK_LOCK (s.get CLK_STAT_STACK_LOCK ||| 2 ^ n)) s) :
    exec (.stackTrainingDone 0) s = .next { u with start := { u.start with trained := List.range 6 } } := by
  subst hu
  change execStackTrainingDone 0 s = _
  simp only [execStackTrainingDone, locked, starts, cold, first, bit_zero, List.isEmpty_nil, Bool.not_true, Bool.or_self, Bool.false_eq_true,
    if_false]

/-- Every die's link comes up, and no warm reset waits. -/
theorem startDone_sound {u : State} (trained : s.start.trained ≠ []) (logbook : s.isSet LOG_STAT_READY = true)
    (loaded : s.isSet CAL_STAT_LOAD_DONE = true) (calibrated : (List.range 18).any (fun p => s.isSet (TIM_CORE_STAT_RUNNING p)) = false)
    (free : s.start.warmHeld = none)
    (hu : u = (List.range s.part.part.dies).foldl (fun (s : State) d => s.put (CNV_DIE_STAT_LINK_UP d) 1) s) :
    exec (.startDone 0 0) s = .next ((u.put SYS_START_READY 1).raise evSYS_START_DONE) := by
  have ended : s.start.trained.isEmpty = false := by simpa using trained
  have still : ((u.put SYS_START_READY 1).raise evSYS_START_DONE).start.warmHeld = none := by
    rw [State.raise_start, State.put_start, hu, dieLinks_start, free]
  subst hu
  change execStartDone 0 0 s = _
  simp only [execStartDone, locked, starts, cold, ended, logbook, loaded, calibrated, bit_zero, Bool.not_true, Bool.or_self,
    Bool.false_eq_true, if_false]
  rw [foldl_of_fixed fun _ _ => rfl, heldReset_none still]

end

/-! ## Warm resets and Falarn (R656 to R660) -/

section
variable {s : State}

section
variable (released : s.porLow = false) (supplied : s.start.aonLow = false) (cold : s.isSet SYS_START_WARM_ACT = false)
include released supplied cold

theorem warmRequest_ready (cause : Nat) (ready : s.isSet SYS_START_READY = true) : s.warmRequest cause = s.warmReset cause := by
  simp only [State.warmRequest, released, supplied, cold, ready, Bool.or_self, Bool.not_true, Bool.false_eq_true, if_false]

theorem warmRequest_held (cause : Nat) (starts : s.isSet SYS_START_READY = false) (free : s.start.warmHeld = none) :
    s.warmRequest cause = { s with start := { s.start with warmHeld := some cause } } := by
  simp only [State.warmRequest, released, supplied, cold, starts, free, Bool.or_self, Bool.not_false, Bool.false_eq_true, if_false, if_true,
    Option.getD_none]

end

section
variable {v : Word}

/-- A write of the whole register, with its key or without it. -/
theorem rstCtlWrite_whole : s.rstCtlWrite ⟨0, 15, v⟩ = if v.toNat % 65536 ≠ 0xA5C3 then s.raise evSYS_ACCESS_VALUE 0
    else if bit v.toNat 31 = true then s.warmRequest 3 else if bit v.toNat 30 = true then s.fwRequest else s := by
  have lanes : (⟨0, 15, v⟩ : Wr).mask ≠ 0 := by simp [Wr.mask]
  simp only [State.rstCtlWrite, lanes, whole_mask, whole_hits, Nat.reduceMod, ne_eq, not_true_eq_false, if_false]

theorem rstCtlWrite_warm (key : v.toNat % 65536 = 0xA5C3) (warm : bit v.toNat 31 = true) :
    s.rstCtlWrite ⟨0, 15, v⟩ = s.warmRequest 3 := by
  rw [rstCtlWrite_whole, if_neg (not_not.2 key), if_pos warm]

theorem rstCtlWrite_restart (key : v.toNat % 65536 = 0xA5C3) (notWarm : bit v.toNat 31 = false) (restart : bit v.toNat 30 = true) :
    s.rstCtlWrite ⟨0, 15, v⟩ = s.fwRequest := by
  rw [rstCtlWrite_whole, if_neg (not_not.2 key), if_neg (by simp [notWarm]), if_pos restart]

theorem rstCtlWrite_noKey (noKey : v.toNat % 65536 ≠ 0xA5C3) : s.rstCtlWrite ⟨0, 15, v⟩ = s.raise evSYS_ACCESS_VALUE 0 := by
  rw [rstCtlWrite_whole, if_pos noKey]

variable (opens : s.Opens ⟨0, 15, v⟩ SYS_RST_CTL.key)
include opens

theorem warmRegRequest_opens : exec (.warmRegRequest ⟨0, 15, v⟩) s = .next (s.rstCtlWrite ⟨0, 15, v⟩) := by
  change execWarmRegRequest _ s = _
  rw [execWarmRegRequest, pfOnly_open opens]

theorem fwRestartRequest_opens : exec (.fwRestartRequest ⟨0, 15, v⟩) s = .next (s.rstCtlWrite ⟨0, 15, v⟩) := by
  change execFwRestartRequest _ s = _
  rw [execFwRestartRequest, pfOnly_open opens]

end

theorem warmResetDone_active (warm : s.isSet SYS_START_WARM_ACT = true) : exec .warmResetDone s =
    .next (((s.put SYS_START_WARM_ACT 0).put SYS_START_READY 1).raise evSYS_WARM_RESET 65535 [.w4 (s.get SYS_RST_CAUSE_CAUSE)] 0 false true) := by
  change execWarmResetDone s = _
  simp only [execWarmResetDone, warm, Bool.not_true, Bool.false_eq_true, if_false]

theorem fwRunning_started (starts : s.get SYS_BOOT_FW = 1) : exec .fwRunning s = .next (s.put SYS_BOOT_FW 2) := by
  change execFwRunning s = _
  rw [execFwRunning, if_pos starts]

/-- The watchdog expires: the other image is tried where it has not been and passes. -/
theorem fwWatchdog_expires {u : State} (starts : s.get SYS_BOOT_FW = 1) (expired : s.start.fwAt + ((500 * mtMs : Nat) : Int) ≤ s.mt)
    (hu : u = s.raise evSYS_FW_WATCHDOG) : exec .fwWatchdog s = .next (if !s.start.second && s.imageOk (2 - s.get SYS_BOOT_RUN)
      then ({ u with start := { u.start with second := true } } : State).fwRun (2 - s.get SYS_BOOT_RUN)
      else ({ u with start := { u.start with second := true } } : State).fwNone) := by
  subst hu
  change execFwWatchdog s = _
  simp only [execFwWatchdog, starts, Int.not_lt.2 expired, ne_eq, not_true_eq_false, decide_false, Bool.or_self, Bool.false_eq_true, if_false]

theorem fwStarted_restart (restarts : s.start.restart = true) : exec .fwStarted s = .next (if s.get SYS_BOOT_RUN = 0 then
    { s with start := { s.start with restart := false } }
    else ({ s with start := { s.start with restart := false } } : State).raise evSYS_FW_STARTED) := by
  change execFwStarted s = _
  simp only [execFwStarted, restarts, Bool.not_true, Bool.false_eq_true, if_false]
  rfl

theorem imageVerify_opens {u : State} {w : Wr} (opens : s.Opens w SYS_IMG_CTL.key) (hu : u = s.mergeRaw SYS_IMG_CTL.key w)
    (verify : w.hits 31 = true) : exec (.imageVerify w) s = .next u.imageVerify := by
  subst hu
  change execImageVerify w s = _
  rw [execImageVerify, pfOnly_open opens, State.imgCtlWrite]
  simp only [verify, if_true]

end

/-! ## The clocks (R663, R721) -/

section
variable {s : State}

section
variable {d : Int} (runs : s.isSet CLK_STAT_REFCLK_OK = true)
include runs

theorem refclkGate_inRange (inRange : d.natAbs ≤ 5000) :
    exec (.refclkGate d) s = .next ((s.wn CLK_REFCLK_DEV (toBits 32 d)).put CLK_STAT_REFCLK_IN_RANGE 1) := by
  change execRefclkGate d s = _
  simp only [execRefclkGate, runs, inRange, Bool.not_true, Bool.false_eq_true, if_false, if_true]

theorem refclkGate_leaves {u : State} (outside : 5000 < d.natAbs) (hu : u = s.wn CLK_REFCLK_DEV (toBits 32 d))
    (was : u.isSet CLK_STAT_REFCLK_IN_RANGE = true) : exec (.refclkGate d) s =
      .next (((u.put CLK_STAT_REFCLK_IN_RANGE 0).put CLK_STAT_RANGE_SEEN 1).raise evCLK_REFCLK_RANGE 65535 [.w4 d]) := by
  subst hu
  change execRefclkGate d s = _
  simp only [execRefclkGate, runs, Nat.not_le.2 outside, was, Bool.not_true, Bool.false_eq_true, if_false, if_true]

theorem refclkLost_runs : exec .refclkLost s = .next ((List.range s.part.groups).foldl State.groupUnlock
    (((((s.put CLK_STAT_REFCLK_OK 0).put CLK_STAT_REFCLK_LOST_SEEN 1).wn CLK_REFCLK_DEV 0x80000000).unlockCount).raise evCLK_REFCLK_LOST)) := by
  change execRefclkLost s = _
  simp only [execRefclkLost, runs, Bool.not_true, Bool.false_eq_true, if_false]

end

theorem refclkBack_lost (lost : s.isSet CLK_STAT_REFCLK_OK = false) (fitted : s.part.part ≠ .q768n) :
    exec .refclkBack s = .next ((s.put CLK_STAT_REFCLK_OK 1).raise evCLK_REFCLK_BACK) := by
  change execRefclkBack s = _
  simp only [execRefclkBack, lost, fitted, decide_false, Bool.or_self, Bool.false_eq_true, if_false]

theorem pcieRefclkLost_runs (runs : s.isSet CLK_STAT_PCIE_REFCLK_OK = true) : exec .pcieRefclkLost s = .next
    ((((s.put CLK_STAT_PCIE_REFCLK_OK 0).put CLK_STAT_PCIE_REFCLK_LOST_SEEN 1).unlockCount).raise evCLK_PCIE_REFCLK_LOST) := by
  change execPcieRefclkLost s = _
  simp only [execPcieRefclkLost, runs, Bool.not_true, Bool.false_eq_true, if_false]

section
variable {k : Nat} (hk : k < 12)
include hk

theorem clkPllUnlock_acts : exec (.clkPllUnlock k) s = .next (s.put ⟨CLK_STAT, pllBit k, pllBit k⟩ 0) := by
  change execClkPllUnlock k s = _
  rw [execClkPllUnlock, if_neg (Nat.not_le.2 hk)]

/-- The relock of a PLL that is no stack's. -/
theorem clkPllRelock_acts (notStack : k < 2 ∨ 8 ≤ k) (lost : s.isSet ⟨CLK_STAT, pllBit k, pllBit k⟩ = false)
    (locked : s.tb.locked = true) : exec (.clkPllRelock k) s =
      .next ((((s.put ⟨CLK_STAT, pllBit k, pllBit k⟩ 1).put (pllEvent k).1 1).unlockCount).raise (pllEvent k).2
        (if k < 2 then 65535 else k - 8)) := by
  have plain : (decide (2 ≤ k) && decide (k < 8)) = false := by simp; omega
  have inst : (if k < 2 then 65535 else if k < 8 then k - 2 else k - 8) = if k < 2 then 65535 else k - 8 := by grind
  change execClkPllRelock k s = _
  simp only [execClkPllRelock, Nat.not_le.2 hk, lost, locked, plain, inst, decide_false, Bool.not_true, Bool.or_self, Bool.false_and,
    Bool.false_eq_true, if_false]

end

end

/-- Settles O35: each command meets the law of its row above. -/
theorem startCommandsComplete : Obligations.StartCommandsComplete := by
  refine ⟨fun _ _ => rfl, fun _ _ => rfl, fun _ => rfl, fun _ => ⟨rfl, rfl⟩, fun _ held released supplied => xoFail_starts held released supplied,
    fun _ _ locked starts cold first hu => stackTrainingDone_sound locked starts cold first hu,
    fun _ _ locked starts cold trained logbook loaded calibrated free hu =>
      startDone_sound locked starts cold trained logbook loaded calibrated free hu, ?warmN, ?warmReg, ?restart, ?noKey,
    fun _ warm => warmResetDone_active warm, fun _ starts => fwRunning_started starts, ?noImage, ?other,
    fun _ restarts => fwStarted_restart restarts, fun _ _ _ opens hu verify => imageVerify_opens opens hu verify,
    fun _ _ runs inRange => refclkGate_inRange runs inRange, fun _ _ _ runs outside hu was => refclkGate_leaves runs outside hu was,
    fun _ runs => refclkLost_runs runs, fun _ lost fitted => refclkBack_lost lost fitted, fun _ runs => pcieRefclkLost_runs runs,
    fun _ _ hk => clkPllUnlock_acts hk, fun _ _ hk notStack lost locked => clkPllRelock_acts hk notStack lost locked⟩
  case warmN =>
    intro s released supplied cold
    exact ⟨fun ready => congrArg Host.Outcome.next (warmRequest_ready released supplied cold 2 ready),
      fun starts free => congrArg Host.Outcome.next (warmRequest_held released supplied cold 2 starts free)⟩
  case warmReg =>
    intro s v opens key warm released supplied cold ready
    rw [warmRegRequest_opens opens, rstCtlWrite_warm key warm, warmRequest_ready released supplied cold 3 ready]
  case restart =>
    intro s v opens key notWarm restart
    rw [fwRestartRequest_opens opens, rstCtlWrite_restart key notWarm restart]
  case noKey =>
    intro s v opens noKey
    rw [warmRegRequest_opens opens, rstCtlWrite_noKey noKey]
  case noImage =>
    intro s u starts expired hu spent
    rw [fwWatchdog_expires starts expired hu, if_neg (by rcases spent with h | h <;> simp [h])]
  case other =>
    intro s u starts expired hu first passes
    rw [fwWatchdog_expires starts expired hu, if_pos (by simp [first, passes])]

/-! ## The management buses (R690 to R693) -/

section
variable {s : State}

section
variable {u : State} {w : Wr} (opens : s.Opens w 0x120010) (go : w.hits 31 = true) (hu : u = s.mergeRaw MGB_XFER.key w)
  (awake : u.awake 94 = true) (free : u.mgb.running = false)
include opens go hu awake free

theorem mgbXferGo_starts (enabled : u.isSet (MGB_BUS_CTL_EN (u.get MGB_XFER_BUS)) = true) : exec (.mgbXferGo w) s =
    .next ((((({ u with mgb := { u.mgb with running := true, bus := u.get MGB_XFER_BUS, nrd := u.get MGB_XFER_NRD } } :
      State).emit (.mgBus (u.get MGB_XFER_BUS) (u.get MGB_XFER_ADDR) (u.isSet MGB_XFER_PEC) ((List.range (u.get MGB_XFER_NWR)).flatMap (fun i =>
      leBytes 1 (u.get ⟨MGB_XDATA (i / 4), 8 * (i % 4) + 7, 8 * (i % 4)⟩))) (u.get MGB_XFER_NRD))).put MGB_XFER_GO 1).put MGB_XSTAT_DONE 0)) := by
  subst hu
  change execMgbXferGo w s = _
  rw [execMgbXferGo, pfOnly_open opens, State.xferWrite]
  simp only [go, awake, free, enabled, Bool.not_true, Bool.false_eq_true, if_false]

theorem mgbXferGo_disabled (disabled : u.isSet (MGB_BUS_CTL_EN (u.get MGB_XFER_BUS)) = false) : exec (.mgbXferGo w) s =
    .next (((u.put MGB_XSTAT_CODE 8).put MGB_XSTAT_BYTES 0).put MGB_XSTAT_DONE 1) := by
  subst hu
  change execMgbXferGo w s = _
  rw [execMgbXferGo, pfOnly_open opens, State.xferWrite]
  simp only [go, awake, free, disabled, Bool.not_true, Bool.not_false, Bool.false_eq_true, if_false, if_true]

end

theorem mgbXferDone_runs {u : State} {c n : Nat} {d : List Byte} (runs : s.mgb.running = true) (hc : c = 0 ∨ (2 ≤ c ∧ c ≤ 7))
    (hu : u = ({ s with mgb := { s.mgb with running := false } } : State).put MGB_XFER_GO 0) : exec (.mgbXferDone c n d) s = .next
      (((((u.xdataPut (d.take s.mgb.nrd)).put MGB_XSTAT_CODE c).put MGB_XSTAT_BYTES n).put MGB_XSTAT_DONE 1).busCode s.mgb.bus c) := by
  have known : (decide (c = 1) || decide (7 < c)) = false := by simp; omega
  subst hu
  change execMgbXferDone c n d s = _
  simp only [execMgbXferDone, runs, known, Bool.not_true, Bool.false_eq_true, if_false]

/-- The first service of an entry whose device answers a word. -/
theorem mgbPoll_firstWord {u : State} {i v : Nat} (hi : i < 16) (valid : s.isSet (MGB_POLL_VALID i) = true) (falarn : s.get SYS_BOOT_FW = 2)
    (awake : s.awake 94 = true) (first : s.mgb.polled = []) (enabled : s.isSet (MGB_BUS_CTL_EN (s.get (MGB_POLL_BUS i))) = true)
    (word : s.isSet (MGB_POLL_WORD i) = true)
    (hu : u = s.emit (.mgBus (s.get (MGB_POLL_BUS i)) (s.get (MGB_POLL_ADDR i)) (s.isSet (MGB_BUS_CTL_PEC (s.get (MGB_POLL_BUS i))))
      (leBytes 1 (s.get (MGB_POLL_CMD i))) 2)) :
    exec (.mgbPoll i 0 v) s = .next (((({ u with mgb := { u.mgb with polled := mapInsert i s.mt [] } } : State).put (MGB_POLLV_CODE i) 0).put
      (MGB_POLLV_VAL i) (v % 65536))) := by
  subst hu
  change execMgbPoll i 0 v s = _
  simp [execMgbPoll, Nat.not_le.2 hi, valid, falarn, awake, first, enabled, word, mapGet, State.busCode, State.emit, b2n]

theorem alertNAssert_reads {a : Option Nat} (enabled : s.isSet MGB_ALERT_CTL_EN = true) (awake : s.awake 94 = true) :
    exec (.alertNAssert a) s = .next (s.alertRead a) := by
  change execAlertNAssert a s = _
  simp only [execAlertNAssert, enabled, awake, Bool.and_self, if_true]

section
variable {t : Int} {a : Option Nat} (read : s.mgb.alertAt = some t)
include read

theorem alertRepeat_due (enabled : s.isSet MGB_ALERT_CTL_EN = true) (awake : s.awake 94 = true)
    (due : t + ((s.get MGB_ALERT_CTL_PER * mtMs : Nat) : Int) ≤ s.mt) : exec (.alertRepeat true a) s = .next (s.alertRead a) := by
  change execAlertRepeat true a s = _
  simp only [execAlertRepeat, read, enabled, awake, Int.not_lt.2 due, decide_false, Bool.not_true, Bool.or_self, Bool.false_eq_true, if_false]

theorem alertRepeat_ends : exec (.alertRepeat false a) s = .next { s with mgb := { s.mgb with alertAt := none } } := by
  change execAlertRepeat false a s = _
  simp only [execAlertRepeat, read, Bool.not_false, if_true]

end

end

/-! ## The signal outputs (R684 to R687) -/

section
variable {s u : State} {n : Nat} {w : Wr}

/-- A write of a configuration that keeps mode 0 puts the pin to its idle level. -/
theorem mgbSigCfgWrite_idle (opens : s.Opens w (0x120100 + 0x10 * n)) (free : s.trgDrives n = false)
    (hmode : bits (merged (s.rn (MGB_SIG_CFG n)) w) 31 30 = 0) (hu : u = s.mergeRaw (MGB_SIG_CFG n).key w)
    (same : bits (u.rn (MGB_SIG_CFG n)) 31 30 = bits (s.rn (MGB_SIG_CFG n)) 31 30) (mode : u.get (MGB_SIG_CFG_MODE n) = 0)
    (awake : u.awake 94 = true) : exec (.mgbSigCfgWrite n w) s = .next (u.pinDrive n false) := by
  subst hu
  change execMgbSigCfgWrite n w s = _
  rw [execMgbSigCfgWrite, pfOnly_open opens, State.sigCfgWrite]
  simp [free, hmode, same, mode, awake]

theorem mgbEdgePush_opens (opens : s.Opens w 0x120080) (push : w.hits 31 = true) (hu : u = s.mergeRaw MGB_EDGE_CTL.key w)
    (awake : u.awake 94 = true) : exec (.mgbEdgePush w) s = .next u.edgePush := by
  subst hu
  change execMgbEdgePush w s = _
  rw [execMgbEdgePush, pfOnly_open opens, State.edgeCtlWrite]
  simp only [push, awake, if_true]

theorem sigEdgeFire_due {l : Bool} {t : Int} {r : List (Bool × Int)} (queued : (s.sig n).edges = (l, t) :: r) (due : t ≤ s.mt)
    (awake : s.awake 94 = true) : exec (.sigEdgeFire n) s =
      .next (((s.setSig n { s.sig n with edges := r }).put (MGB_SIG_STAT_QUEUED n) r.length).pinLevel n (b2n l)) := by
  change execSigEdgeFire n s = _
  simp only [execSigEdgeFire, queued, Int.not_lt.2 due, awake, decide_false, Bool.not_true, Bool.or_self, Bool.false_eq_true, if_false]

theorem frameMarkerStart_due (mode : s.get (MGB_SIG_CFG_MODE n) = 2) (due : s.markAt n (s.sig n).markF ≤ 5 * s.mt)
    (awake : s.awake 94 = true) : exec (.frameMarkerStart n) s = .next ((s.setSig n { s.sig n with
      markF := (s.sig n).markF + 1
      markTo := some ((s.markAt n (s.sig n).markF + 131072 * (s.get (MGB_SIG_CFG_WIDTH n) : Nat) + 4) / 5) }).pinDrive n true) := by
  change execFrameMarkerStart n s = _
  simp only [execFrameMarkerStart, mode, Int.not_lt.2 due, awake, ne_eq, not_true_eq_false, decide_false, Bool.not_true, Bool.or_self,
    Bool.false_eq_true, if_false]

theorem frameMarkerEnd_due {t : Int} (marks : (s.sig n).markTo = some t) (due : t ≤ s.mt) (awake : s.awake 94 = true) :
    exec (.frameMarkerEnd n) s = .next ((s.setSig n { s.sig n with markTo := none }).pinDrive n false) := by
  change execFrameMarkerEnd n s = _
  simp only [execFrameMarkerEnd, marks, Int.not_lt.2 due, awake, decide_false, Bool.not_true, Bool.or_self, Bool.false_eq_true, if_false]

end

/-- Settles O36: each command meets the law of its row above. -/
theorem managementCommandsComplete : Obligations.ManagementCommandsComplete := by
  refine ⟨fun _ _ _ opens go hu awake free enabled => mgbXferGo_starts opens go hu awake free enabled,
    fun _ _ _ opens go hu awake free disabled => mgbXferGo_disabled opens go hu awake free disabled,
    fun _ _ _ _ _ runs hc hu => mgbXferDone_runs runs hc hu, ?poll, fun _ _ enabled awake => alertNAssert_reads enabled awake,
    fun _ _ _ read enabled awake due => alertRepeat_due read enabled awake due, fun _ _ _ read => alertRepeat_ends read,
    fun _ _ _ _ opens free hmode hu same mode awake => mgbSigCfgWrite_idle opens free hmode hu same mode awake,
    fun _ _ _ opens push hu awake => mgbEdgePush_opens opens push hu awake, fun _ _ _ _ _ queued due awake => sigEdgeFire_due queued due awake,
    fun _ _ mode due awake => frameMarkerStart_due mode due awake, fun _ _ _ marks due awake => frameMarkerEnd_due marks due awake,
    fun _ _ => exec_tapInstruction _ _, fun _ => rfl⟩
  case poll =>
    intro s u i c v hi valid falarn awake first enabled hc word hu
    subst hc
    exact mgbPoll_firstWord hi valid falarn awake first enabled word hu

end Sys2Proof.Machine
